-- ==== Sys2Proof/Word.lean ====
section
/-! DEFINITION. The word type of the register bus and its plainest arithmetic (R7, R84). -/

namespace Sys2Proof

/-- One 32-bit word of the register bus (R12, R84). -/
abbrev Word := BitVec 32

/-- One of the four channels, or one of the four link ports (R1, R2). -/
abbrev Ch := Fin 4

/-- A six-switch mask of one bridge: bits 0-2 the high sides A-C, bits 3-5 the low sides A-C
(the order of GD.FIRST.SWITCH and GD.STATUS.OFF, R190). -/
abbrev Sw := BitVec 6

/-- The natural number `v` as a word, modulo 2^32. -/
def wd (v : Nat) : Word := BitVec.ofNat 32 v

end Sys2Proof
end

