-- ==== Sys2Proof/Machine/Amap.lean ====
section
/-! DEFINITION. Sparse contents by key: a list of (key, value) pairs in one canonical form, keys strictly rising and no
entry equal to what an unlisted key reads as. Registers, memory and the fault table are held this way. -/

namespace Sys2Proof.Machine

variable {β : Type} [DecidableEq β]

/-- What key `k` holds in `m`, where an unlisted key holds `d k`. -/
def mapGet (d : Nat → β) : List (Nat × β) → Nat → β
  | [], k => d k
  | (a, v) :: m, k => if a = k then v else mapGet d m k

/-- `m` with every entry of key `k` taken out. -/
def mapErase : List (Nat × β) → Nat → List (Nat × β)
  | [], _ => []
  | (a, v) :: m, k => if a = k then mapErase m k else (a, v) :: mapErase m k

/-- `m`, which holds no entry of key `k`, with (k, v) put in its place. -/
def mapInsert : List (Nat × β) → Nat → β → List (Nat × β)
  | [], k, v => [(k, v)]
  | (a, w) :: m, k, v => if k < a then (k, v) :: (a, w) :: m else (a, w) :: mapInsert m k v

/-- `m` with key `k` holding `v`; writing what an unlisted key reads as takes the entry out. -/
def mapPut (d : Nat → β) (m : List (Nat × β)) (k : Nat) (v : β) : List (Nat × β) :=
  if v = d k then mapErase m k else mapInsert (mapErase m k) k v

/-- `m` with every key that meets `p` back at what an unlisted key reads as. -/
def mapClear (m : List (Nat × β)) (p : Nat → Bool) : List (Nat × β) :=
  m.filter fun e => !p e.1

/-- The canonical form: keys strictly rising from `lo`, and no entry equal to the unlisted value. -/
def mapWf (d : Nat → β) : Nat → List (Nat × β) → Bool
  | _, [] => true
  | lo, (a, v) :: m => decide (lo ≤ a) && decide (v ≠ d a) && mapWf d (a + 1) m

end Sys2Proof.Machine
end

