-- ==== Sys2Proof/Machine/Fld.lean ====
section
/-! DEFINITION. Register fields: where a field of the manual's tables stands, how it is accessed (R8, R89) and what it
resets to. -/

namespace Sys2Proof.Machine

/-- The access codes of R8, whose meaning R89 states. -/
inductive Acc where
  | rw | ro | w1c | w1s | wo | rwc | rwl | sc
deriving DecidableEq, Repr

/-- One field of a register table. `page` is the page of instance 0; `cnt` registers follow each other `stride` bytes
apart where the table gives a family of them. -/
structure Fld where
  page : Nat
  off : Nat
  hi : Nat
  lo : Nat
  acc : Acc
  rst : Nat
  cnt : Nat := 1
  stride : Nat := 4
deriving DecidableEq, Repr

/-- The k-th register of a family (a plain field is its own 0th). -/
def Fld.nth (f : Fld) (k : Nat) : Fld := { f with off := f.off + f.stride * k, cnt := 1 }

/-- The number of values the field can hold, 2^width. -/
def Fld.size (f : Fld) : Nat := 2 ^ (f.hi + 1 - f.lo)

/-- The bits of the field within its word. -/
def Fld.mask (f : Fld) : Word := BitVec.ofNat 32 ((f.size - 1) <<< f.lo)

/-- The page of instance `i`: channel pages stand 0x10 apart, the others one apart (R87). -/
def pageOf (page i : Nat) : Nat := if 0x40 ≤ page then page + 0x10 * i else page + i

/-- The byte address of the word that holds the field, in region 0x00 (R83). -/
def Fld.addr (f : Fld) (i : Nat) : Nat := pageOf f.page i * 256 + f.off

/-- The address of the running copy of the field, in the running view (R91). -/
def Fld.runAddr (f : Fld) (i : Nat) : Nat := 0x10000 + f.addr i

/-- The field's value within the word `w`. -/
def Fld.get (f : Fld) (w : Word) : Nat := (w.toNat >>> f.lo) % f.size

/-- The word `w` with the field at `v`, modulo its width. -/
def Fld.put (f : Fld) (w : Word) (v : Nat) : Word :=
  (w &&& ~~~ f.mask) ||| BitVec.ofNat 32 ((v % f.size) <<< f.lo)

end Sys2Proof.Machine
end

