-- ==== Sys2Proof/Machine/Types.lean ====
section
/-! DEFINITION. The types of the state's parts that no register shows: channel internals, jobs, fault records, packets. -/

namespace Sys2Proof.Machine

/-- The channel states of R135. -/
inductive ChState where
  | off | hold | idle | arming | armed | starting | running | stopping | fault | halted | limp
deriving DecidableEq, Repr

/-- The code of a state in CH.STATUS.STATE (R135). -/
def ChState.code : ChState → Nat
  | .off => 0 | .hold => 1 | .idle => 2 | .arming => 3 | .armed => 4 | .starting => 5
  | .running => 6 | .stopping => 7 | .fault => 8 | .halted => 9 | .limp => 10

/-- The state of a code (R135). -/
def ChState.ofCode : Nat → ChState
  | 1 => .hold | 2 => .idle | 3 => .arming | 4 => .armed | 5 => .starting | 6 => .running
  | 7 => .stopping | 8 => .fault | 9 => .halted | 10 => .limp | _ => .off

/-- The states of a fault source (R361). -/
inductive FltSt where
  | clear | active | quiet | latched | masked
deriving DecidableEq, Repr

/-- FLTS.STATUS.STATE (R361). -/
def FltSt.code : FltSt → Nat
  | .clear => 0 | .active => 1 | .quiet => 2 | .latched => 3 | .masked => 4

/-- ACTIVE, QUIET and LATCHED form the fault state (R361). -/
def FltSt.inFault : FltSt → Bool
  | .active => true | .quiet => true | .latched => true | _ => false

/-- One fault source of the collector: its configuration (R382), its state (R361), what its raise froze (R365) and its
counters (R362, R364). -/
structure FltRec where
  cls : Nat
  react : Nat
  retryMax : Nat
  wait : Nat
  quiet : Nat
  window : Nat
  /-- Reset values came from the SAFETY region (FLTS.INFO.OTP). -/
  otp : Bool
  st : FltSt
  /-- The condition is present (FLTS.STATUS.COND). -/
  cond : Bool
  /-- When each fault state of the source ended, latest first, in PCLK cycles of `State.now` (R362). -/
  ends : List Nat
  /-- Recovery counters of R364, one per channel. -/
  recov : Vector Nat 4
  events : Nat
  denied : Bool
  /-- Class and reaction with which the source was raised, escalation included (R360, R365). -/
  inCls : Nat
  inReact : Nat
  inQuiet : Nat
  /-- The order of the raise (R359). -/
  seq : Nat
  /-- The channels that were in a state from ARMED to LIMP when the fault state began (R364). -/
  met : BitVec 4
  /-- The switches the raise named, for SWITCH_OFF and LEG_OFF (R358). -/
  named : Sw
  /-- The channels a device source acts on: all but for a scan mismatch of a channel page (R357, R377). -/
  acts : BitVec 4
deriving DecidableEq, Repr

/-- What the generator commands of one leg in the present period (R149 to R155): the intervals in which each switch is commanded
on, in fine units of 78.125 ps from the boundary, dead times included. -/
structure Leg where
  hi : List (Nat × Nat)
  lo : List (Nat × Nat)
  /-- What is left at the period's end of the dead time that follows the high side's last ideal edge. -/
  rest : Nat
deriving DecidableEq, Repr

/-- A leg that does not conduct. -/
def Leg.idle : Leg := ⟨[], [], 0⟩

/-- A duty as the loop engine writes it to the shadows: three on-times, or in six-step one on-time in the first place, and the
chopper's on-time, in fine units (R149, R155, R183). -/
structure Duty where
  on : Vector Nat 3
  six : Bool
  brk : Nat
deriving DecidableEq, Repr

/-- No conduction. -/
def Duty.zero : Duty where
  on := Vector.replicate 3 0
  six := false
  brk := 0

/-- The state one PID slice keeps between its runs (R242, R243). -/
structure Slice where
  i : Word
  d : Word
  x : Word
  out : Word
  /-- The slice ran in the last sample in which it could (a first run preloads, R141). -/
  active : Bool
  ts : Word
  a : Word
  bankB : Bool
  /-- The slice has changed bank ahead of the pending exchange (R259). -/
  swapped : Bool
deriving DecidableEq, Repr

/-- A slice after PD_CHn has switched on (R242, R257). -/
def Slice.reset : Slice where
  i := 0#32
  d := 0#32
  x := 0#32
  out := 0#32
  active := false
  ts := 0#32
  a := 0#32
  bankB := false
  swapped := false

/-- What the loop engine keeps between samples that no node shows (R236 to R263). -/
structure Eng where
  slices : Vector Slice 6
  /-- The 256 nodes, those that read 0 unlisted (R261). -/
  nodes : List (Nat × Word)
  /-- FF_EXT0 to FF_EXT5 as last written; the nodes take them at the next latch (R19, R261). -/
  ext : Vector Word 6
  /-- Index of the next sample, consecutive invalid samples up to 15 (R240, R247). -/
  next : Nat
  inv : Nat
  /-- The filtered bus voltage, `none` until seeded (R251). -/
  vf : Option Word
  /-- Applied voltage, injection included, of the sample before the last one (R265). -/
  vOld : Word × Word
  /-- The multi-turn count at the last run of S3 (R245). -/
  posAt : Int
  /-- Heartbeats have come since the last accepted commit, and LOOP_HB's condition watches them (R375). -/
  hb : Bool
deriving DecidableEq, Repr

/-- The engine after PD_CHn has switched on. -/
def Eng.reset : Eng where
  slices := Vector.replicate 6 Slice.reset
  nodes := []
  ext := Vector.replicate 6 0#32
  next := 0
  inv := 0
  vf := none
  vOld := (0#32, 0#32)
  posAt := 0
  hb := false

/-- One estimator: the back-EMF observer or the HFI estimator (R265 to R273). -/
structure Est where
  /-- The state of R268: 0 SAPLING, 1 CONVERGING, 2 CONVERGED, 3 not running. -/
  st : Nat
  /-- The next valid sample seeds it, and its first update is still to come (R269). -/
  seed : Bool
  first : Bool
  /-- Angle in radians, PLL integrator, raw and filtered speed. -/
  th : Word
  pi : Word
  wRaw : Word
  wF : Word
  /-- Estimated back-EMF, or the demodulated pair of HFI; the last angle error. -/
  eG : Word
  eD : Word
  eps : Word
  /-- Updates since seeding; consecutive updates within CONV_ERR, beyond LOSS_ERR, below EMF_MIN and below half of it (R268). -/
  ups : Nat
  okN : Nat
  badN : Nat
  lowN : Nat
  halfN : Nat
  /-- Start of the convergence timer in PCLK cycles, `none` while it is stopped; TIMED_OUT (R270). -/
  tmr : Option Nat
  out : Bool
deriving DecidableEq, Repr

/-- An estimator that has not run. -/
def Est.reset : Est where
  st := 3
  seed := true
  first := false
  th := 0#32
  pi := 0#32
  wRaw := 0#32
  wF := 0#32
  eG := 0#32
  eD := 0#32
  eps := 0#32
  ups := 0
  okN := 0
  badN := 0
  lowN := 0
  halfN := 0
  tmr := none
  out := false

/-- An estimator that stops running: TIMED_OUT stands until its next reset event (R270). -/
def Est.stopped (e : Est) : Est := { Est.reset with out := e.out }

/-- Injection and polarity test (R271 to R273). -/
structure Inj where
  /-- Sign of the present half, samples done in it, a half has been commanded in full or in part; currents (α, β) at the hold instant from
  which its voltage is in force, the last half's change in γ and δ; what is missing of the two: 2 both, 1 the change (R272). -/
  neg : Bool
  cnt : Nat
  begun : Bool
  gap : Nat
  i0 : Word × Word
  di : Word × Word
  /-- The measured (d, q) currents of the last sixteen samples, latest first. -/
  hist : List (Word × Word)
  /-- Consecutive samples without a share of HFI in the fused pair. -/
  idle : Nat
  /-- Polarity pulse: 0 none, 1 positive, 2 negative; its start; h_γ summed and counted over the second half; H+; tries; a turn of
  180° due. -/
  pol : Nat
  polT : Nat
  sum : Word
  num : Nat
  hPlus : Word
  /-- q of the last test. -/
  q : Word
  tries : Nat
  flip : Bool
deriving DecidableEq, Repr

/-- No injection. -/
def Inj.reset : Inj where
  neg := false
  cnt := 0
  begun := false
  gap := 2
  i0 := (0#32, 0#32)
  di := (0#32, 0#32)
  hist := []
  idle := 0
  pol := 0
  polT := 0
  sum := 0#32
  num := 0
  hPlus := 0#32
  q := 0#32
  tries := 0
  flip := false

/-- Observer, HFI estimator and twin of a channel (R264 to R280). -/
structure Obs where
  obs : Est
  hfi : Est
  inj : Inj
  /-- The filtered residuals, `none` until the first residual; S0 and S1 ran in the last, valid, sample (R275, R276). -/
  rf : Option (Word × Word)
  ran : Bool
  /-- VBUS_F − V_ref of the last voltage sequence (R280). -/
  vbx : Word
  /-- Consecutive samples with the angle and the speed of Hall, ABZ, SPI and resolver valid (R279). -/
  good : Vector Nat 4
  /-- The last sample found all six switches off, and so no applied voltage known (R267). -/
  off : Bool
  blind : Bool
deriving DecidableEq, Repr

/-- Nothing estimated. -/
def Obs.reset : Obs where
  obs := .reset
  hfi := .reset
  inj := .reset
  rf := none
  ran := false
  vbx := 0#32
  good := Vector.replicate 4 0
  off := false
  blind := false

/-- A hand-over of the angle source (R142 to R144); HO_DEFER and HO_BLEND of CH.STATUS say its phase. -/
structure Ho where
  /-- The sources committed last: the new pair of a hand-over. -/
  fb : Nat
  fb2 : Nat
  /-- First sample of the deferral in PCLK cycles, samples of the blend so far. -/
  since : Nat
  k : Nat
  /-- The start-up method has asked for it. -/
  asked : Bool
  /-- What the old angle was turned by when a commit came during a blend, and what the last sample's blend turned it by (R144). -/
  ofs : Int
  last : Int
deriving DecidableEq, Repr

/-- No hand-over. -/
def Ho.reset : Ho where
  fb := 4
  fb2 := 7
  since := 0
  k := 0
  asked := false
  ofs := 0
  last := 0

/-- Set-point generator, start-up and braking (R283 to R302). -/
structure Spt where
  /-- The position target and the profile position in 1/65,536 electrical turns, and the multi-turn counter (R285, R290). -/
  ptgt : Int
  prof : Int
  mpos : Int
  /-- θ_s of the last sample where it was valid (R290). -/
  prev : Option Nat
  /-- The normalised q voltage applied in the last sample (R288). -/
  app : Word
  /-- A commit has changed TARGET: the next sample re-seeds (R289). -/
  reseed : Bool
  /-- When the start-up or braking phase began, in PCLK cycles; the imposed frequency-ramp angle in radians and its speed; its
  direction is negative (R293). -/
  since : Nat
  ifAng : Word
  ifW : Word
  ifNeg : Bool
  /-- Consecutive valid samples of phase 6; consecutive samples at rest; θ_s of the first STOPPING sample (R296, R298). -/
  valid : Nat
  rest : Nat
  brkAng : Option Nat
  /-- Consecutive samples that meet home event 3; the home event has been captured; the channel has come to rest after it (R301, R302). -/
  homeN : Nat
  homeCap : Bool
  homeRest : Bool
deriving DecidableEq, Repr

/-- A generator at rest. -/
def Spt.reset : Spt where
  ptgt := 0
  prof := 0
  mpos := 0
  prev := none
  app := 0#32
  reseed := false
  since := 0
  ifAng := 0#32
  ifW := 0#32
  ifNeg := false
  valid := 0
  rest := 0
  brkAng := none
  homeN := 0
  homeCap := false
  homeRest := false

/-- The trace unit of a channel beside its page (R344 to R351). -/
structure Trc where
  /-- Index of the last restart point; the next record follows a gap, and so does the next stream packet; the trigger node's value in
  the last evaluated sample. -/
  restart : Nat
  gap : Bool
  sgap : Bool
  prev : Option Word
  /-- Records still to write after the trigger; END and FORCE wait for the next sample. -/
  post : Option Nat
  ending : Bool
  force : Bool
  /-- The open stream packet: header word 0 without COUNT, index and tick of the first record, the records' words. -/
  head : Word
  first : Word
  tick : Word
  words : List Word
  /-- The destination when the open packet was opened, `none` where TRCR.DEST did not permit one (R354). -/
  dest : Option Nat
deriving DecidableEq, Repr

/-- No capture. -/
def Trc.reset : Trc where
  restart := 0
  gap := false
  sgap := false
  prev := none
  post := none
  ending := false
  force := false
  head := 0#32
  first := 0#32
  tick := 0#32
  words := []
  dest := none

/-- A stand reference as one member channel receives it (R456). -/
structure Sref where
  cmd : Nat
  lock : Bool
  frame : Nat
  /-- T_REF and the arrival in fine units of Canopy time modulo 2^37. -/
  tRef : Nat
  arr : Nat
  theta : Nat
  omega : Word
  id : Word
  iq : Word
deriving DecidableEq, Repr

/-- A stand measurement as the leader receives it (R456); `chs` lists channel, status word, i_d and i_q. -/
structure Smeas where
  node : Nat
  frame : Nat
  h : Nat
  arr : Nat
  lock : Bool
  margin : Nat
  chs : List (Nat × Word × Word × Word)
deriving DecidableEq, Repr

/-- The stand layer of a channel (R455 to R463). -/
structure Gang where
  /-- Member: references waiting for their use window, the one in use, consecutive samples with a usable one other than SAFE. -/
  rx : List Sref
  use : Option Sref
  good : Nat
  /-- Leader: measurements waiting, per member device its node with consecutive misses and consecutive frames without one, per entry
  the consecutive frames passed. -/
  meas : List Smeas
  devs : List (Nat × Nat × Nat)
  pass : List (Nat × Nat)
  /-- Leader: a transition into STARTING waits; entries that have reported ARMED; FOLLOW_T has passed. -/
  waits : Bool
  armed : List Nat
  overdue : Bool
  /-- The misses of R461 make STAND_SLOT_MISS present. -/
  slotBad : Bool
  /-- The commands of the last frames sent, latest first (R459, R461). -/
  sent : List (Nat × Nat)
  /-- Hold instant of the last sample in fine units modulo 2^37, whether there has been one, and the frame index. -/
  tk : Nat
  held : Bool
  frame : Nat
  /-- Member: the arrival margin of the reference in use, in fine units (node 0x0E8). -/
  margin : Nat
  /-- i_d and i_q summed over the stand (node 0x0E9). -/
  sum : Word × Word
deriving DecidableEq, Repr

/-- No stand. -/
def Gang.reset : Gang where
  rx := []
  use := none
  good := 0
  meas := []
  devs := []
  pass := []
  waits := false
  armed := []
  overdue := false
  slotBad := false
  sent := []
  tk := 0
  held := false
  frame := 0
  margin := 0
  sum := (0#32, 0#32)

/-- The Hall inputs behind the POS page (R214 to R217); stamps are PCLK cycles of `State.now`. -/
structure Hall where
  /-- Sector of the accepted code, 0 while it is invalid; the edge angle in force, `none` for the sector centre. -/
  sector : Nat
  edge : Option Nat
  stamp : Nat
  /-- Direction of the last edge: 1 forward, -1 reverse, 0 none. -/
  dir : Int
  spd : Word
  spdOk : Bool
deriving DecidableEq, Repr

/-- No code yet. -/
def Hall.reset : Hall where
  sector := 0
  edge := none
  stamp := 0
  dir := 0
  spd := 0#32
  spdOk := false

/-- The ABZ encoder behind the POS page (R218 to R220); stamps are PCLK cycles. -/
structure Enc where
  a : Bool
  b : Bool
  /-- Edges since ENC_REF set, and since the last sample. -/
  edges : Nat
  fresh : Nat
  stamp : Nat
  dir : Int
  /-- Stamp of the last edge of the previous sample, and the counts moved since. -/
  prev : Nat
  moved : Int
  spd : Word
  /-- Counts since the last index, and whether a missing one is reported (R219). -/
  travel : Int
  missed : Bool
deriving DecidableEq, Repr

/-- No edge yet. -/
def Enc.reset : Enc where
  a := false
  b := false
  edges := 0
  fresh := 0
  stamp := 0
  dir := 0
  prev := 0
  moved := 0
  spd := 0#32
  travel := 0
  missed := false

/-- The SPI angle of a channel (R229): the last fresh result, and the runs of results that were not fresh. -/
structure SpiAng where
  seq : Nat
  /-- The sensor turn fraction in units of 2^−24. -/
  phi : Nat
  stamp : Nat
  ok : Bool
  spd : Word
  /-- The speed is valid: after two consecutive fresh results, and through one stale sample. -/
  spdOk : Bool
  /-- Consecutive fresh results, up to 2; consecutive samples with the error bit, and with a stale slot. -/
  fresh : Nat
  errs : Nat
  stales : Nat
deriving DecidableEq, Repr

/-- No result yet. -/
def SpiAng.reset : SpiAng where
  seq := 0
  phi := 0
  stamp := 0
  ok := false
  spd := 0#32
  spdOk := false
  fresh := 0
  errs := 0
  stales := 0

/-- The position block's state behind the POS page (R214 to R231). -/
structure Pos where
  hall : Hall
  enc : Enc
  spi : SpiAng
  /-- The weights with which a returning source ramps in, 0 to 16, and the fused speed before (R231). -/
  rampA : Nat
  rampB : Nat
  wPrev : Word
deriving DecidableEq, Repr

/-- Nothing seen. -/
def Pos.reset : Pos where
  hall := .reset
  enc := .reset
  spi := .reset
  rampA := 16
  rampB := 16
  wPrev := 0#32

/-- A master SPI port behind its page (R226 to R228). -/
structure Mspi where
  /-- The entry in progress as it was fetched, and the word it sends. -/
  cur : Word
  tx : Word
  /-- Entries of the run so far; the Canopy stamp of the frame's select fall; results of the frame still to be written. -/
  count : Nat
  stamp : Nat
  frame : List (Nat × Word)
  held : Bool
  /-- The pending trigger. -/
  pend : Nat
deriving DecidableEq, Repr

/-- An idle port. -/
def Mspi.reset : Mspi where
  cur := 0#32
  tx := 0#32
  count := 0
  stamp := 0
  frame := []
  held := false
  pend := 0

/-- A resolver interface behind its page (R222, R223). -/
structure Scx where
  /-- Consecutive demodulated values outside the limits of amplitude and angle. -/
  amp : Nat
  track : Nat
  /-- The last demodulated amplitude, in 1/65,536 of full scale, and angle code; the tracked angle in units of 2^−32 turn. -/
  mag : Nat
  phi : Nat
  fine : Nat
deriving DecidableEq, Repr

/-- An interface that has converted nothing. -/
def Scx.reset : Scx where
  amp := 0
  track := 0
  mag := 0
  phi := 0
  fine := 0

/-- The job states of R337. -/
inductive JobSt where
  | idle | queued | running | suspending | suspended | cancelling | done | failed
deriving DecidableEq, Repr

/-- JOB.SLOT.STATE (R342). -/
def JobSt.code : JobSt → Nat
  | .idle => 0 | .queued => 1 | .running => 2 | .suspending => 3 | .suspended => 4
  | .cancelling => 5 | .done => 6 | .failed => 7

/-- One of the 16 job slots (R332, R342). -/
structure Job where
  st : JobSt
  typ : Nat
  tgt : Nat
  origin : Nat
  gen : Nat
  cause : Nat
  progress : Nat
  /-- SUSPENDED was reached from QUEUED: the job holds no resource (R337). -/
  noRes : Bool
  /-- Place in the queue of its resource (R337). -/
  seq : Nat
  params : List Word
  vals : List Word
  /-- Time counted for ELAPSED, in PCLK cycles, up to `since`, when the job last entered a counted state (R342). -/
  elapsed : Nat
  since : Nat
  detail : Nat
  /-- Comparators, rows or steps done: for IDENT the steps of the quantity in progress (R341), for DIAG_OFFSTATE and GATE_CHAR the parts of
  the timeline (R187, R189). -/
  work : Nat
  /-- What the steps done of an IDENT quantity have measured, in order (R341). -/
  meas : List Word
  /-- An IDENT waits for rest after a resume (R340). -/
  resting : Bool
  /-- The step, switch or row that was in progress at SUSPEND or CANCEL has ended (R340). -/
  ended : Bool
deriving DecidableEq, Repr

/-- A fabric packet (R408); `data` holds the payload's words, padded with zero bytes. -/
structure Pkt where
  vc : Nat
  typ : Nat
  dst : Nat
  src : Nat
  tag : Nat
  rsp : Bool
  dr : Bool
  pst : Bool
  status : Nat
  hops : Nat
  ptr : Nat
  len : Nat
  arg : Word
  route : Word
  data : List Word
deriving DecidableEq, Repr

/-- The carrier and the duties of a channel. -/
structure Carrier where
  /-- Position in the period, and the period's length, in fine units (R147, R149). -/
  pos : Nat
  per : Nat
  legs : Vector Leg 3
  /-- Legs whose high side was ideally on at the last boundary, and how long each low side had been on up to it. -/
  endHigh : BitVec 3
  lowTail : Vector Nat 3
  /-- What the period before left of each leg's dead time (R152). -/
  rest : Vector Nat 3
  /-- The duty applied; the one in the shadows; whether the latter came less than 10 ns before its boundary; whether the duty of the
  last sample opened has been written (R17, R18). -/
  duty : Duty
  shadow : Option Duty
  shadowLate : Bool
  came : Bool
  /-- The present period opens a sample, whose duty is due at its end; periods to the next opening one (R157, R18). -/
  opening : Bool
  divCnt : Nat
  /-- Samples opened so far. -/
  opened : Nat
  /-- The Canopy tick of the first boundary of a carrier that has started under SYNC = 1, until it comes (R164). -/
  first : Option Nat
  /-- When the present period began, in PCLK cycles (R162, R166). -/
  since : Nat
  /-- The six-step sector the generator drives (R155, R156). -/
  sector : Nat
  /-- Pulses suppressed and windows missed that the counters hold for the present period (R154, R161). -/
  counted : Nat × Nat
  /-- A sector that waits for the next boundary under COMM_SYNC = 1 (R156). -/
  pendSector : Option Nat
  /-- Boundaries in a row with |e| above PERIOD/8 (R165). -/
  syncBad : Nat
  /-- Periods since each low side last conducted for 200 ns; legs whose refresh pulse ends this period, and begins it (R162). -/
  refCnt : Vector Nat 3
  refNext : BitVec 3
  refNow : BitVec 3
  /-- The two single-shunt windows, each with its phase and hold position; `none` where the window was missed (R160, R161). -/
  win1 : Option (Nat × Nat)
  win2 : Option (Nat × Nat)
  /-- Pre-charge pulses still to come, and what is left of the one in progress in fine units (R176). -/
  prePulses : Nat
  preLeft : Nat
deriving DecidableEq, Repr

/-- No carrier yet. -/
def Carrier.reset : Carrier where
  pos := 0
  per := 0
  legs := Vector.replicate 3 .idle
  endHigh := 0
  lowTail := Vector.replicate 3 0
  rest := Vector.replicate 3 0
  duty := Duty.zero
  shadow := none
  shadowLate := false
  came := false
  opening := false
  divCnt := 0
  opened := 0
  first := none
  since := 0
  sector := 0
  counted := (0, 0)
  pendSector := none
  syncBad := 0
  refCnt := Vector.replicate 3 0
  refNext := 0
  refNow := 0
  win1 := none
  win2 := none
  prePulses := 0
  preLeft := 0

/-- The protection of a channel: off requests held, the gates, limp mode and the brake gate. -/
structure Prot where
  /-- Off requests of R180 held by VDS comparators, and by hard-short comparators per phase. -/
  vdsOff : Sw
  hsOff : BitVec 3
  /-- Window off requests held: bits 0-2 WINH A-C, bits 3-5 WINL A-C (R201). -/
  winOff : Sw
  /-- Switches whose trip is younger than GD.SHORT.WIN (R181). -/
  shortWin : Sw
  /-- VDS comparators that are blanked after a turn-on, and those whose filter runs from the end of the blanking (R178). -/
  vdsBlank : Sw
  vdsFilt : Sw
  /-- LIMIT holds the six switches off until a boundary finds its condition absent (R358). -/
  limitOff : Bool
  /-- The six switches as the interlock last settled them (R21), and the PCLK cycle at which each last changed (R21, R168). -/
  gates : Sw
  swAt : Vector Nat 6
  /-- The longest conduction of each low side in the present period, in PCLK cycles, where it has ended (R162). -/
  lowMax : Vector Nat 3
  /-- Legs that a source overrides, and the PCLK cycle at which the last override of each ended (R159). -/
  ovNow : BitVec 3
  ovEnd : Vector (Option Nat) 3
  /-- The chopped high side of limp mode is on; the limp sector in force, 0 for none; the direction taken at entry (R207). -/
  limpOn : Bool
  limpSector : Nat
  limpBack : Bool
  /-- What the limp controller uses, as it stood at the entry to LIMP: the words CMP.LIMP_CFG and CMP.LIMP_I, FB and FB2 (R130). -/
  limpCfg : Word
  limpI : Word
  limpFb : Nat × Nat
  /-- The brake gate conducts, since when, and the conduction summed for BRK.ONTIME in PCLK cycles (R185, R191); an overtime that no
  fault state follows keeps it off until nothing asks for it (R185, log 141). -/
  brkOn : Bool
  brkSince : Nat
  brkAcc : Nat
  brkCut : Bool
deriving DecidableEq, Repr

/-- Nothing held, every gate off. -/
def Prot.reset : Prot where
  vdsOff := 0
  hsOff := 0
  winOff := 0
  shortWin := 0
  vdsBlank := 0
  vdsFilt := 0
  limitOff := false
  gates := 0
  swAt := Vector.replicate 6 0
  lowMax := Vector.replicate 3 0
  ovNow := 0
  ovEnd := Vector.replicate 3 none
  limpOn := false
  limpSector := 0
  limpBack := false
  limpCfg := 0#32
  limpI := 0#32
  limpFb := (0, 0)
  brkOn := false
  brkSince := 0
  brkAcc := 0
  brkCut := false

/-- A phase-current sample on its way to the loop engine (R15, R159, R160, R161). -/
structure Samp where
  /-- Which sample it is; validity per phase; the hold instant in PCLK cycles and in Canopy ticks; counts from it to the boundary at
  which the duty is due; the phases of the two single-shunt windows, 3 for a missed one. -/
  no : Nat
  valid : BitVec 3
  stamp : Nat
  tick : Nat
  due : Nat
  p1 : Nat
  p3 : Nat
  /-- The conversion has ended and the results stand in ADC.IA to ADC.IC. -/
  conv : Bool
deriving DecidableEq, Repr

/-- The converters of a channel. -/
structure Sense where
  samp : Option Samp
  /-- Calibrations that run or wait, first the running one: true for ZCAL (R199). -/
  calQ : List Bool
  /-- The voltage sequence in progress: the source codes still to convert, and the results so far (R197). -/
  vseq : Option (List Nat × List Nat)
deriving DecidableEq, Repr

/-- Nothing held, nothing running. -/
def Sense.reset : Sense where
  samp := none
  calQ := []
  vseq := none

/-- A Grove timer (R304, R318): the count it was loaded with, in CCLK cycles, whether it is periodic, and whether it runs. -/
structure GrvTmr where
  load : Nat
  per : Bool
  run : Bool
deriving DecidableEq, Repr

/-- A Grove core beside its page: PC, PEND and the core state are fields of the GRV page (R304 to R331). -/
structure Grv where
  /-- g0 to g15. -/
  g : Vector Word 16
  n : Bool
  z : Bool
  c : Bool
  v : Bool
  /-- The return stack, last entry first. -/
  stack : List Nat
  tmr : Vector GrvTmr 2
  /-- The WFE in progress: its destination and its mask. -/
  wfe : Option (Nat × Nat)
  /-- The value the next kick must carry, the previous reference point in PCLK cycles, and when a debug halt paused the interval. -/
  kick : Nat
  kickAt : Nat
  frozeAt : Nat
  /-- A debug resume or step goes on with the instruction at PC, which its breakpoint does not stop again (R330, log 172). -/
  past : Bool
  /-- CCLK cycles since the core last left WAITING, 0 where it has not since START (R331). -/
  busy : Nat
  /-- Messages in the send queue, by tag (R324). -/
  sends : List Nat
  /-- A verification (1) or the load of ROM program i (1 + i) runs, 0 for none (R328, R329). -/
  img : Nat
deriving DecidableEq, Repr

/-- The state of R304 after switch-on. -/
def Grv.reset : Grv where
  g := Vector.replicate 16 0#32
  n := false
  z := false
  c := false
  v := false
  stack := []
  tmr := Vector.replicate 2 ⟨0, false, false⟩
  wfe := none
  kick := 0x5A
  kickAt := 0
  frozeAt := 0
  past := false
  busy := 0
  sends := []
  img := 0

/-- What DIAG_OFFSTATE and GATE_CHAR have measured on a channel, and their test pulse (R187 to R189). -/
structure Diag where
  /-- VBUSn of step 1; the phases found short to supply and to ground; the pairs in which a hard-short comparator tripped. -/
  vbus : Word
  sup : Nat
  gnd : Nat
  trips : BitVec 3
  /-- The currents at the end of the pulses done. -/
  cur : List Word
  /-- The PCLK cycle at which the present pulse began; `none` where none runs or a trip has ended it. -/
  pulse : Option Nat
  /-- Miller times of the edges done, turn-on and turn-off, in 2.5 ns steps. -/
  edges : List (Nat × Nat)
deriving DecidableEq, Repr

/-- Nothing measured. -/
def Diag.reset : Diag where
  vbus := 0#32
  sup := 0
  gnd := 0
  trips := 0
  cur := []
  pulse := none
  edges := []

/-- What a channel holds that no register shows. -/
structure Chan where
  /-- The staged copies captured by the snapshot of R14: RWC words by address in region 0x00. -/
  snap : Option (List (Nat × Word))
  /-- The checks of R128 are done and passed: the snapshot waits for its boundary. -/
  checked : Bool
  /-- The state a command or an event asked for, with the cause, until the next boundary takes it (R138). -/
  pend : Option (ChState × Nat)
  /-- DISARM was received in the present FAULT state (R136). -/
  disarmed : Bool
  /-- The source that put the channel in FAULT whatever its class: a failure of the start-up method, of the loop engine or of the
  Grove core (R138). -/
  failBy : Option Nat
  /-- A loop-engine failure stands: every slice output reads 0 until the next accepted commit (R256). -/
  loopDead : Bool
  /-- The trigger source of R346 that fires on a state, a FAULT bit, the halt net or a pin has fired since the last sample. -/
  trcHit : Bool
  /-- The generator runs towards a home event, and the home event has occurred (R301, R302). -/
  homeRun : Bool
  homeSeen : Bool
  sense : Sense
  diag : Diag
  pos : Pos
  car : Carrier
  prot : Prot
  eng : Eng
  obs : Obs
  ho : Ho
  spt : Spt
  trc : Trc
  gang : Gang
  grv : Grv
deriving DecidableEq, Repr

/-- A channel's own state when its domain comes on (R138, R148). -/
def Chan.reset : Chan where
  snap := none
  checked := false
  pend := none
  disarmed := false
  failBy := none
  loopDead := false
  trcHit := false
  homeRun := false
  homeSeen := false
  sense := .reset
  diag := .reset
  pos := .reset
  car := .reset
  prot := .reset
  eng := .reset
  obs := .reset
  ho := .reset
  spt := .reset
  trc := .reset
  gang := .reset
  grv := .reset

end Sys2Proof.Machine
end

