-- ==== Sys2Proof/Syntax.lean ====
section
/-! DEFINITION. The commands of the block: one constructor for each row of spec/opcode_table.json, in the table's order, with the
row's operands. A measured value, a received symbol, a pin level or a time stamp the block takes from outside is an operand (log 10). -/

namespace Sys2Proof

open Machine

/-- The commands and events of the HL4880. -/
inductive Instr where
  /-- REGISTER_WRITE: A bus write to a register field that has no row of its own acts according to its access code. (R89) The bus master of R98, the byte address, the word. -/
  | registerWrite (m : Fin 8) (a : BitVec 24) (w : BitVec 32)
  /-- PAGE_LOCK: Writing 1 to LOCK.LOCKED locks the RWL fields of the page until the page is reset. (R92) The page. -/
  | pageLock (p : BitVec 8)
  /-- TIME_NOW_LO_READ: A confirmed read of TIME.NOW_LO latches NOW_HI and NOW_FINE with the values captured at the bus access. (R90) -/
  | timeNowLoRead
  /-- CAN_STATUS_READ: A confirmed read of CANm.STATUS clears PEX if PEX was returned as 1 and no protocol exception has occurred since the bus access. (R90) PEX was returned as 1; a protocol exception has occurred since the bus access. -/
  | canStatusRead (m : Fin 2) (returned since : Bool)
  /-- NET_SDATA_READ: A confirmed read of NET.SDATA returns buffer word SIDX and increments SIDX. (R90) -/
  | netSdataRead
  /-- NET_SDATA_WRITE: A write of NET.SDATA stores the session buffer word at SIDX and increments SIDX. (R489) The word written. -/
  | netSdataWrite (w : BitVec 32)
  /-- PERIOD_BOUNDARY: The carrier counter reaches 0 at the start of a period; shadows load and a sample may open. (R147) -/
  | periodBoundary (n : Ch)
  /-- PWM_EDGE: The counter and delay line reach a programmed switching edge position and a gate changes through the arbiter and interlock. (R150) `p` is the edge's position in fine units of 78.125 ps. -/
  | pwmEdge (n : Ch) (p : Nat)
  /-- SECTOR_CHANGE: A new six-step sector takes effect after the crossing or at the next boundary under COMM_SYNC. (R156) -/
  | sectorChange (n : Ch)
  /-- PHASE_CURRENT_HOLD: The counter reaches the phase-current trigger position in the opening period of a sample and the three ADCs hold. (R157) -/
  | phaseCurrentHold (n : Ch)
  /-- ADC_CONVERSION_DONE: The phase-current conversion ends and the results enter the ACLK-to-CCLK FIFOs with their validity flags. (R15) Raw codes of the three converters. -/
  | adcConversionDone (n : Ch) (a b c : BitVec 12)
  /-- LOOP_ENGINE_SAMPLE: The loop engine runs its pipeline for one sample from the arrived results to the shadow write and write-back. (R237) -/
  | loopEngineSample (n : Ch)
  /-- VSEQ_START: The counter reaches TRIG_V.POS and the voltage sequence starts. (R197) -/
  | vseqStart (n : Ch)
  /-- VSEQ_SLOT_DONE: A 200 ns voltage-sequence slot completes its conversion. (R197) The slot's code; the temperature in degrees C as F32. -/
  | vseqSlotDone (n : Ch) (code : BitVec 12) (temp : BitVec 32)
  /-- COMMIT: Writing CH.CTRL.COMMIT sets COMMIT_PENDING and takes the staged snapshot. (R131) -/
  | commit (n : Ch)
  /-- COMMIT_CHECK_COMPLETE: The commit checks finish and the commit is either rejected or waits for its boundary. (R131) -/
  | commitCheckComplete (n : Ch)
  /-- COMMIT_APPLY: At the first eligible period boundary the running copies are replaced and COMMIT_DONE sets. (R131) -/
  | commitApply (n : Ch)
  /-- CH_ARM: The ARM command is tested against the arm conditions and either requests ARMING or is refused. (R139) -/
  | chArm (n : Ch)
  /-- CH_RUN: The RUN command sets RUN_REQ where the state accepts it. (R137) -/
  | chRun (n : Ch)
  /-- CH_STOP: The STOP command clears RUN_REQ and requests STOPPING from STARTING or RUNNING. (R138) -/
  | chStop (n : Ch)
  /-- CH_DISARM: The DISARM command clears RUN_REQ and requests the transition to IDLE. (R138) -/
  | chDisarm (n : Ch)
  /-- BOUNDARY_STATE_TRANSITION: A pending channel state transition marked boundary takes effect at the next period boundary. (R138) -/
  | boundaryStateTransition (n : Ch)
  /-- PRECHARGE_COMPLETE: Bootstrap pre-charge ends and ARMING goes to ARMED or back to IDLE according to BST_UV. (R176) -/
  | prechargeComplete (n : Ch)
  /-- HANDOVER_TIMEOUT: The hand-over deferral exceeds CH.HO.TIMEOUT and HO_POLICY is applied. (R143) -/
  | handoverTimeout (n : Ch)
  /-- STARTUP_TIMEOUT: The start timer reaches SU.TMAX, the method fails and the channel goes to FAULT. (R291) -/
  | startupTimeout (n : Ch)
  /-- ALIGN_END: The align phase ends after ALIGN_T and the channel sets the feedback reference or offset. (R292) -/
  | alignEnd (n : Ch)
  /-- CATCH_OBSERVE_TIMEOUT: CATCH.T elapses in the catch observe phase, leading to the fallback method or failure. (R297) -/
  | catchObserveTimeout (n : Ch)
  /-- POLARITY_PULSE_END: A POL_T polarity pulse ends and the polarity test decides, repeats or fails. (R273) -/
  | polarityPulseEnd (n : Ch)
  /-- STOP_TIMEOUT: STOP.TMAX passes in STOPPING, the channel goes to ARMED and STOP_TIMEOUT sets. (R298) -/
  | stopTimeout (n : Ch)
  /-- DC_INJECTION_END: DCI_T elapses after entry to DC-injection braking, meeting its stop condition. (R298) -/
  | dcInjectionEnd (n : Ch)
  /-- OBS_CONV_TIMEOUT: An estimator's convergence timer reaches TIMEOUT, raising OBS_NOCONV and setting TIMED_OUT. (R270) The HFI estimator for hfi, else the observer. -/
  | obsConvTimeout (n : Ch) (hfi : Bool)
  /-- HOMING_TIMEOUT: HOME_CFG.TMAX passes, the generator target becomes 0 and the HOMING job fails. (R302) -/
  | homingTimeout (n : Ch)
  /-- HARD_SHORT_TRIP: A hard-short comparator trips after its deglitch and turns off the switches named by R179. (R201) Phase x. -/
  | hardShortTrip (n : Ch) (x : Fin 3)
  /-- WINDOW_TRIP: A window comparator trips after its filter and acts according to WIN_CFG.MODE. (R201) WINL of phase x for low, else WINH. -/
  | windowTrip (n : Ch) (low : Bool) (x : Fin 3)
  /-- BUS_COMPARATOR_TRIP: A bus over- or under-voltage comparator trips after its filter. (R202) BUS_UV for uv, else BUS_OV. -/
  | busComparatorTrip (n : Ch) (uv : Bool)
  /-- COMPARATOR_RELEASE: A tripped comparator returns past its release level and its off request ends according to its mode. (R201) Comparator k of R211; 11-13 BST_UV A-C, 14-16 BST_WARN A-C. -/
  | comparatorRelease (n : Ch) (k : Fin 17)
  /-- COMPARATOR_START_EXIT: A comparator in its start state stays on the release side for its filter time and leaves the start state. (R204) Comparator k of R211. -/
  | comparatorStartExit (n : Ch) (k : Fin 11)
  /-- VDS_BLANKING_END: The VDS blanking time after a turn-on ends and the comparator level is checked. (R178) Switch sw; whether its level stands over threshold. -/
  | vdsBlankingEnd (n : Ch) (sw : Fin 6) (hot : Bool)
  /-- VDS_TRIP: A VDS comparator stays over threshold for its filter time and turns its switch off. (R178) -/
  | vdsTrip (n : Ch) (sw : Fin 6)
  /-- SHORT2_WINDOW_END: The two-leg coincidence window after a trip expires. (R181) The switch whose trip began the window. -/
  | short2WindowEnd (n : Ch) (sw : Fin 6)
  /-- BST_WARN_TRIP: A bootstrap voltage falls to BST_WARN and refresh pulses become due. (R173) -/
  | bstWarnTrip (n : Ch) (x : Fin 3)
  /-- BST_UV_TRIP: A bootstrap voltage falls to BST_UV, the high side turns off and GD_BST_UV_x is raised in driving states. (R174) -/
  | bstUvTrip (n : Ch) (x : Fin 3)
  /-- BRAKE_COMPARATOR: The hysteretic brake comparator crosses ON or OFF and switches BRKGn. (R183) VBUS rose above ON, or fell below OFF. -/
  | brakeComparator (n : Ch) (above : Bool)
  /-- BRK_OVERTIME: BRKGn conducts longer than MAXON, turns off and raises BRK_OVERTIME. (R185) -/
  | brkOvertime (n : Ch)
  /-- LIMP_BOUNDARY: A limp period starts; the commutator reads and shifts the sector and turns the chopped high side on. (R207) -/
  | limpBoundary (n : Ch)
  /-- LIMP_COMPARATOR_TRIP: The limp comparator trips against the falling ramp after blanking and ends the current pulse. (R207) The outputs of amplifiers A to C in DAC codes from the midpoint. -/
  | limpComparatorTrip (n : Ch) (a b c : Int)
  /-- LIMP_DMAX_END: The chopped high side turns off at DMAX percent of the limp period. (R207) -/
  | limpDmaxEnd (n : Ch)
  /-- OFFCAL: The OFFCAL command starts an internal offset calibration where the state allows it. (R199) -/
  | offcal (n : Ch)
  /-- ZCAL: The ZCAL command starts a zero-current calibration where the state allows it. (R199) -/
  | zcal (n : Ch)
  /-- CALIBRATION_DONE: A calibration completes, writes the offsets and may raise ADC_OFS_RANGE. (R199) The averages found, in codes from the midpoint. -/
  | calibrationDone (n : Ch) (a b c : Int)
  /-- DIAG_TESTI_WRITE: A write of DIAG.TESTI enables or disables the manual phase test currents in IDLE. (R186) The word written. -/
  | diagTestiWrite (n : Ch) (v : BitVec 32)
  /-- HALL_CODE_ACCEPTED: A Hall level stays stable for the filter time and a new Hall code, sector, angle and speed take effect. (R214) The accepted levels, HALLA in bit 0. -/
  | hallCodeAccepted (n : Ch) (code : BitVec 3)
  /-- SPEED_ZERO_TIMEOUT: No edge for SPD.TMAX after a valid edge makes the speed read 0. (R216) The encoder for enc, else the Hall inputs. -/
  | speedZeroTimeout (n : Ch) (enc : Bool)
  /-- ENCODER_EDGE: An accepted A or B edge moves the ABZ count. (R218) The accepted levels of A and B. -/
  | encoderEdge (n : Ch) (a b : Bool)
  /-- ENCODER_INDEX: An index event loads the count or checks it against IDXPOS according to IDX_MODE. (R219) -/
  | encoderIndex (n : Ch)
  /-- ENC_LOAD: The ENC_LOAD command loads the count with IDXPOS and sets ENC_REF. (R219) -/
  | encLoad (n : Ch)
  /-- POS_CNT_CLR: The CNT_CLR command clears POS.ERRCNT. (R233) -/
  | posCntClr (n : Ch)
  /-- RESOLVER_DEMOD: One excitation period is demodulated and the amplitude check of R223 is applied. (R222) What the two converters gave over one excitation period. -/
  | resolverDemod (m : Fin 2) (sn cs : List (BitVec 16))
  /-- RESOLVER_TRACK_UPDATE: The angle-tracking loop runs every 5 µs and delivers a stamped angle, speed and amplitude. (R222) One step of the tracking loop. -/
  | resolverTrackUpdate (m : Fin 2)
  /-- SCX_ENABLE: Writing SCXm.CTRL.EN starts or stops excitation and conversion. (R221) -/
  | scxEnable (m : Fin 2) (en : Bool)
  /-- MSPI_TRIGGER: A channel-position trigger fires and starts a run, or becomes pending or is lost. (R227) -/
  | mspiTrigger (m : Fin 2) (k : Fin 4)
  /-- MSPI_SWTRIG: The SWTRIG command fires a software trigger of the port. (R227) -/
  | mspiSwtrig (m : Fin 2) (k : Fin 4)
  /-- MSPI_ENTRY_DONE: A queue entry completes its word transfer and the run continues, ends or starts a pending trigger. (R226) The word shifted in. -/
  | mspiEntryDone (m : Fin 2) (rx : BitVec 32)
  /-- BANK_SWAP: Writing LOOP.BANK.SWAP requests a bank exchange at the swap boundary, or at once with the carrier stopped. (R258) The slices' IMMEDIATE bits of the write. -/
  | bankSwap (n : Ch) (imm : BitVec 6)
  /-- BANK_WRITE: A write to a PIDA or PIDB word is accepted or discarded with WR_REJ under the bank rules. (R257) Bank B for b, slice k, coefficient j. -/
  | bankWrite (n : Ch) (b : Bool) (k : Fin 6) (j : Fin 9) (v : BitVec 32)
  /-- NODE_WRITE: A write through LOOP.NODE_VAL updates a writable node or is discarded with WR_REJ. (R261) The word written to NODE_VAL. -/
  | nodeWrite (n : Ch) (v : BitVec 32)
  /-- AUX_REF_WRITE: A write of LOOP.IDREF or VDREF is stored, or discarded with WR_REJ if non-finite. (R262) VDREF for vd, else IDREF. -/
  | auxRefWrite (n : Ch) (vd : Bool) (v : BitVec 32)
  /-- LOOP_CNT_CLR: The CNT_CLR command clears LOOP.CNT and LOOP.LAT.MAX. (R262) -/
  | loopCntClr (n : Ch)
  /-- OBS_RESEED: The RESEED command is a reset event for both estimators. (R269) -/
  | obsReseed (n : Ch)
  /-- OBS_PC_CLR: The PC_CLR command clears all persistence counters. (R278) -/
  | obsPcClr (n : Ch)
  /-- TGT_WRITE: A write of SPT.TGT stores the target, or is discarded with TGT_REJ. (R283) The word written. -/
  | tgtWrite (n : Ch) (v : BitVec 32)
  /-- PTGT_FRAC_WRITE: A write of PTGT_FRAC moves both position target words into the generator together. (R283) The fraction written. -/
  | ptgtFracWrite (n : Ch) (v : BitVec 16)
  /-- POS_ACK: The POS_ACK command sets POS_VALID. (R290) -/
  | posAck (n : Ch)
  /-- PWM_CNT_CLR: The CNT_CLR command clears PWM.EVENTS and PWM.SS_MISS. (R167) -/
  | pwmCntClr (n : Ch)
  /-- FAULT_RAISE: A fault event reaches the collector, the source enters its fault state and the reaction is applied. (R361) Source index. -/
  | faultRaise (i : BitVec 9)
  /-- FAULT_REOCCURRENCE: The condition recurs during ACTIVE or QUIET and QUIET_T restarts without a new raise. (R361) Source index. -/
  | faultReoccurrence (i : BitVec 9)
  /-- FAULT_CONDITION_ABSENT: The condition of a level source becomes absent and QUIET_T starts counting. (R361) Source index. -/
  | faultConditionAbsent (i : BitVec 9)
  /-- RETRY_WAIT_EXPIRY: RETRY_WAIT passes since the raise and the source moves from ACTIVE to QUIET. (R361) Source index. -/
  | retryWaitExpiry (i : BitVec 9)
  /-- FAULT_STATE_END: QUIET_T passes without the condition, the fault state ends and recovery counters increment. (R361) Source index. -/
  | faultStateEnd (i : BitVec 9)
  /-- CHANNEL_FAULT_EXIT: At the boundary after a fault state ends the channel follows the FAULT rows of the state table. (R365) -/
  | channelFaultExit (n : Ch)
  /-- FLTS_CLEAR: The CLEAR command ends a latched fault state if allowed, or sets CLR_DENIED. (R363) -/
  | fltsClear
  /-- CLR_LATCHED: The CLR_LATCHED command applies the clear to every latched source. (R363) -/
  | clrLatched
  /-- RECOV_CLR: The RECOV_CLR command clears the selected source's recovery counters. (R364) -/
  | recovClr
  /-- EVT_CLR: The EVT_CLR command clears the selected source's EVENTS count. (R382) -/
  | evtClr
  /-- FLTS_CFG_WRITE: A write of FLTS.CFG is accepted, or discarded as a whole word with CFG_DENIED. (R358) The word written. -/
  | fltsCfgWrite (v : BitVec 32)
  /-- FLTS_TIME_WRITE: A write of FLTS.TIME is accepted, or discarded as a whole word with CFG_DENIED. (R366) The word written. -/
  | fltsTimeWrite (v : BitVec 32)
  /-- HALT_N_FALL: A low level on HALT_N for 20 ns asserts the halt net when HIN_EN is set. (R368) -/
  | haltNFall
  /-- FBK_HALT: The software HALT command asserts the halt net. (R384) -/
  | fbkHalt
  /-- FBK_RELEASE: The RELEASE command stops driving HALT_N and schedules the release test 2 µs later. (R369) -/
  | fbkRelease
  /-- HALT_RELEASE_TEST: 2 µs after RELEASE the four conditions are tested and the halt net releases or stays asserted. (R369) The level of HALT_N. -/
  | haltReleaseTest (pinHigh : Bool)
  /-- HLT_TRANSMIT: While the halt net is asserted a port sends an HLT pair at its next character boundary and at least every 32 characters. (R400) -/
  | hltTransmit (p : Ch)
  /-- HALT_SYMBOL_RECEIVED: Two consecutive K23.7 are detected and the halt is presented to the halt net. (R400) -/
  | haltSymbolReceived (p : Ch)
  /-- HALT_RX_EXPIRY: 2 µs pass without a HALT detection and LNK.STATUS.HALT_RX clears. (R400) -/
  | haltRxExpiry (p : Ch)
  /-- SAFE_REQ_ASSERT: Ranger asserts SAFE_REQn for a cause, applying the safe pattern and putting SUP_SAFE in its fault state. (R370) Cause bit b of R370. -/
  | safeReqAssert (n : Ch) (b : Fin 5)
  /-- SAFE_BACKSTOP_TIMEOUT: 100 µs after LOOP_HB or GRV_WDT the channel is not in a safe state and the backstop cause asserts SAFE_REQn. (R370) -/
  | safeBackstopTimeout (n : Ch)
  /-- SAFE_SUPPLY_TIMEOUT: A SUP_VCORE or SUP_VDDA condition present for 1 ms asserts SAFE_REQn on all channels. (R370) -/
  | safeSupplyTimeout
  /-- RANGER_SELFTEST_DONE: Ranger's power-on self-test completes, passing or leading to the held reset. (R372) -/
  | rangerSelftestDone (pass : Bool)
  /-- RANGER_SELFTEST_TIMEOUT: Ranger's self-test has not finished 6.0 ms after step 6 and the device enters the held reset. (R77) -/
  | rangerSelftestTimeout
  /-- LOCKSTEP_MISMATCH: A mismatch between the lockstep halves raises SUP_LOCKSTEP. (R373) -/
  | lockstepMismatch
  /-- LODGE_LIVENESS_CHECK: Every 1 ms Ranger checks the Lodge liveness counter and raises SUP_LODGE after 10 ms unchanged. (R373) The liveness counter as read. -/
  | lodgeLivenessCheck (count : BitVec 32)
  /-- GROVE_WDT_EXPIRY: No kick arrives by WMAX and GRV_WDT is raised. (R321) -/
  | groveWdtExpiry (n : Ch)
  /-- LOOP_HEARTBEAT_TIMEOUT: No heartbeat arrives within 2 × ts + 1 µs and LOOP_HB is raised. (R375) -/
  | loopHeartbeatTimeout (n : Ch)
  /-- CLOCK_MONITOR_WINDOW: A clock monitor window ends and two out-of-limit windows raise the clock fault source. (R70) The monitor in MONCNT order and the count of its window. -/
  | clockMonitorWindow (k : Fin 8) (count : BitVec 16)
  /-- SUPPLY_MONITOR_SAMPLE: Ranger samples the supplies every 10 µs and the SUP voltage conditions become present or absent. (R376) The supplies in microvolts; whether this sample updates SUP.VSUP. -/
  | supplyMonitorSample (vsup vdrv vio vcore vdda : Nat) (upd : Bool)
  /-- CONFIG_SCAN_TICK: Ranger reads one locked page CRC, captures a reference or raises SUP_CFGCRC on a repeated mismatch. (R377) -/
  | configScanTick
  /-- RECAP: The RECAP command makes Ranger recapture every scan reference. (R377) -/
  | recap
  /-- STEST_NOW: The STEST_NOW command requests comparator self-tests at once. (R379) -/
  | stestNow
  /-- SELFTEST_SCHEDULE_TIMER: The STEST period elapses and Ranger requests CMP_SELFTEST jobs, flagging overdue channels. (R379) -/
  | selftestScheduleTimer
  /-- ECC_RATE_WINDOW: The one-second corrected-error window ends and ECC_CORR_RATE is raised if the count exceeds ECC_LIM. (R378) The corrected errors of the second: instance and byte address. -/
  | eccRateWindow (errs : List (BitVec 5 × BitVec 24))
  /-- OTP_REVERIFY_PASS_START: 10 s after boot or after the previous pass, Ranger starts an OTP re-verify pass. (R503) -/
  | otpReverifyPassStart
  /-- OTP_REVERIFY_PASS_DONE: A re-verify pass ends, capturing any mismatch and raising or clearing OTP_MARGIN. (R503) The first row that failed, if any, and whether its repair failed. -/
  | otpReverifyPassDone (bad : Option (BitVec 9 × Bool))
  /-- VERIFY_NOW: The VERIFY_NOW command starts a re-verify pass, or defers it while PD_OTPW is on. (R503) -/
  | verifyNow
  /-- SUPPLY_GOOD: A supply stays above its rising threshold for 2 µs and becomes good. (R55) -/
  | supplyGood (k : Fin 5)
  /-- SUPPLY_FAIL: A supply stays below its falling threshold for 2 µs and fails. (R55) -/
  | supplyFail (k : Fin 5)
  /-- POWER_ON_RESET: VSUP falls below its threshold and resets everything including AON. (R71) -/
  | powerOnReset
  /-- RESET_N_LOW: RESET_N held low for 1 µs resets everything except AON while CORE is powered. (R71) -/
  | resetNLow
  /-- RESET_N_HIGH: The rising edge of RESET_N releases the CORE reset and boot continues from step 6. (R71) -/
  | resetNHigh
  /-- DEVRST: Writing SYS.CTRL.DEVRST with KEY 0xC3 requests a software reset 10 µs later. (R98) -/
  | devrst (key : BitVec 8)
  /-- SOFTWARE_RESET: 10 µs after the DEVRST write the device resets everything except AON. (R71) -/
  | softwareReset
  /-- BOOT_STEP_COMPLETE: A step of the boot timeline completes and the next step begins. (R75) -/
  | bootStepComplete (m : List Nat) (pinHigh : Bool)
  /-- BOOT_STEP_TIMEOUT: A boot step exceeds twice its maximum time, raising BOOT_TIMEOUT and continuing. (R77) -/
  | bootStepTimeout
  /-- BUCK_SOFTSTART_TIMEOUT: VCORE is not good within 1 ms of the start and the buck stops for 10 ms. (R60) -/
  | buckSoftstartTimeout
  /-- BUCK_RESTART: After the 10 ms wait the buck restarts its soft start. (R60) -/
  | buckRestart
  /-- REFERENCE_GOOD: The crystal oscillator reports a good 25 MHz reference. (R65) -/
  | referenceGood
  /-- REFERENCE_FALLBACK: The reference is not good 2 ms after VDDA or fails, and the device runs on the RC fallback with every channel in hold-off. (R69) -/
  | referenceFallback
  /-- PLL_LOCKED: A PLL achieves lock and its clocks become usable. (R67) -/
  | pllLocked (k : Fin 3)
  /-- PLL_UNLOCK: A PLL loses lock and the reaction for that PLL follows. (R68) -/
  | pllUnlock (k : Fin 3)
  /-- DOM_ON: Writing a PWR.DOM_ON bit queues a switch-on request for the domain. (R102) -/
  | domOn (w : BitVec 8)
  /-- DOM_OFF: Writing a PWR.DOM_OFF bit queues a switch-off request for the domain. (R102) -/
  | domOff (w : BitVec 8)
  /-- DOMAIN_TRANSITION_START: A queued request reaches the head of the queue, is tested and starts its transition or is refused. (R103) -/
  | domainTransitionStart
  /-- DOMAIN_READY: A domain meets its ready condition and reports on with its pages at reset values. (R62) The averages of OFFCAL of a channel domain, in codes from the midpoint. -/
  | domainReady (a b c : Int)
  /-- DOMAIN_OFF_COMPLETE: A domain switch-off completes after hold-off and gates low, losing its contents. (R63) -/
  | domainOffComplete
  /-- DOM_FAIL_TIMEOUT: A domain misses its ready condition within twice its switch-on time, is switched off and sets DOM_FAIL. (R102) -/
  | domFailTimeout
  /-- VDRV_REG_EN_WRITE: A write of PWR.REG.VDRV_REG_EN switches the VDRV regulator on or off. (R59) -/
  | vdrvRegEnWrite (b : Bool)
  /-- STANDBY: The STANDBY command with KEY 0x5A starts standby entry or is refused with a cause. (R78) -/
  | standby (key : BitVec 8) (wakeHigh : Bool) (sig : BitVec 4)
  /-- STANDBY_ENTRY_COMPLETE: The switched domains are off, CORE is isolated and the regulators switch off. (R79) -/
  | standbyEntryComplete
  /-- WAKE_PIN_HIGH: WAKE reads high in three AONCLK samples and starts a wake from standby. (R81) -/
  | wakePinHigh
  /-- LINK_SIGNAL_DETECT_WAKE: Signal detect on an enabled port persists for 64 AONCLK cycles and starts a wake. (R81) -/
  | linkSignalDetectWake (p : Ch)
  /-- CAN_WAKE_PATTERN: An ISO 11898-2 wake-up pattern is recognised, starting a wake in standby or setting WUP while running. (R473) -/
  | canWakePattern
  /-- STATUS_POLL: A frame that ends after its first byte returns the status byte and has no other effect. (R110) The byte on HSDI. -/
  | statusPoll (b : BitVec 8)
  /-- SHORT_READ: A short read frame reads words of the current page with read-ahead. (R112) Bits [5:0] of the first byte, the bytes after it, the HSCK edges, the words that come late, the words that meet an uncorrectable error. -/
  | shortRead (w : BitVec 6) (d : List (BitVec 8)) (edges : Nat) (late ecc : List Nat)
  /-- SHORT_WRITE: A short write frame writes words of the current page. (R115) As SHORT_READ. -/
  | shortWrite (w : BitVec 6) (d : List (BitVec 8)) (edges : Nat)
  /-- LINEAR_READ: A linear read frame reads consecutive words of the 24-bit space. (R118) As SHORT_READ; the address goes on in the first two bytes of `d`. -/
  | linearRead (h : BitVec 6) (d : List (BitVec 8)) (edges : Nat) (late ecc : List Nat)
  /-- LINEAR_WRITE: A linear write frame writes consecutive words of the 24-bit space. (R115) As LINEAR_READ. -/
  | linearWrite (h : BitVec 6) (d : List (BitVec 8)) (edges : Nat)
  /-- WAKE_FRAME: The AON responder receives the wake frame and starts a wake in standby. (R124) The trailing byte of a frame of 64 edges. -/
  | wakeFrame (t : Option (BitVec 8))
  /-- HSPI_CNT_CLR: The CNT_CLR command clears the host SPI error counters and HSPI.FRAMES. (R126) -/
  | hspiCntClr
  /-- GRV_START: The START command starts the stopped core, arming the watchdog, or is refused. (R319) -/
  | grvStart (n : Ch)
  /-- GRV_STOP: The host STOP command stops the core, or is refused while the watchdog supervises an armed channel. (R320) -/
  | grvStop (n : Ch)
  /-- GRV_RESET: The RESET command returns a stopped or excepted core to its reset state. (R319) -/
  | grvReset (n : Ch)
  /-- GRV_VERIFY: The VERIFY command starts signature verification of the user image. (R328) -/
  | grvVerify (n : Ch)
  /-- GRV_VERIFY_DONE: Verification ends, setting IMG to 2 or 3 and VERIFY_DONE. (R328) -/
  | grvVerifyDone (n : Ch)
  /-- GRV_LOAD_ROM: The LOAD_ROM command starts copying the named ROM program into program RAM. (R329) -/
  | grvLoadRom (n : Ch)
  /-- GRV_LOAD_DONE: The ROM load completes, resets the core and sets IMG and LOAD_DONE. (R329) -/
  | grvLoadDone (n : Ch)
  /-- GRV_HOST_EV: The HOST_EV command sets the HOST event of the core. (R316) -/
  | grvHostEv (n : Ch)
  /-- GRV_CNT_CLR: The CNT_CLR command clears GRV.PERF. (R331) -/
  | grvCntClr (n : Ch)
  /-- GRV_SIGNAL: A write of GRV.SIGNAL sets the selected IRQ_FLAG.PROG bits. (R331) -/
  | grvSignal (n : Ch) (m : BitVec 8)
  /-- MBOX_FREE: Writing 1 to a FULL bit frees that mailbox slot. (R325) -/
  | mboxFree (n : Ch) (m : BitVec 4)
  /-- PROGRAM_RAM_WRITE: A bus write to program RAM is taken while the core is stopped, clearing IMG and ROM_ID, or is denied. (R305) -/
  | programRamWrite (n : Ch) (a : BitVec 14) (w : BitVec 32)
  /-- DBG_HALT: The debug HALT command freezes the selected core after its current instruction. (R330) -/
  | dbgHalt
  /-- DBG_RESUME: The debug RESUME command continues the frozen core. (R330) -/
  | dbgResume
  /-- DBG_STEP: The debug STEP command executes one instruction of the frozen core and freezes again. (R330) The fetch, or the data RAM read, meets an uncorrectable error. -/
  | dbgStep (fe de : Bool)
  /-- BREAKPOINT_HIT: The core reaches an enabled breakpoint address and freezes before that instruction. (R330) The breakpoint. -/
  | breakpointHit (k : Fin 4)
  /-- WFE_WAKE: A bit of the WFE mask sets, the core leaves WAITING and WFE returns the pending events. (R316) -/
  | wfeWake (n : Ch)
  /-- GROVE_TIMER_EXPIRY: A Grove timer reaches 0, sets its event and reloads or stops. (R318) -/
  | groveTimerExpiry (n : Ch) (t : Fin 2)
  /-- NOP: The instruction does nothing for one cycle. (R312) -/
  | nop (n : Ch)
  /-- ADD: rd = ra + rb with all flags set. (R312) -/
  | add (n : Ch) (rd ra rb : BitVec 4)
  /-- SUB: rd = ra − rb with all flags set. (R312) -/
  | sub (n : Ch) (rd ra rb : BitVec 4)
  /-- AND: Bitwise AND of two registers. (R312) -/
  | and (n : Ch) (rd ra rb : BitVec 4)
  /-- OR: Bitwise OR of two registers. (R312) -/
  | or (n : Ch) (rd ra rb : BitVec 4)
  /-- XOR: Bitwise XOR of two registers. (R312) -/
  | xor (n : Ch) (rd ra rb : BitVec 4)
  /-- SHL: Shift left by rb[4:0]. (R312) -/
  | shl (n : Ch) (rd ra rb : BitVec 4)
  /-- SHR: Logical shift right by rb[4:0]. (R312) -/
  | shr (n : Ch) (rd ra rb : BitVec 4)
  /-- SAR: Arithmetic shift right by rb[4:0]. (R312) -/
  | sar (n : Ch) (rd ra rb : BitVec 4)
  /-- MUL: Low 32 bits of ra × rb. (R312) -/
  | mul (n : Ch) (rd ra rb : BitVec 4)
  /-- CMP: Compare ra with rb and set the flags. (R312) -/
  | cmp (n : Ch) (ra rb : BitVec 4)
  /-- MIN: Signed minimum of two registers. (R312) -/
  | min (n : Ch) (rd ra rb : BitVec 4)
  /-- MAX: Signed maximum of two registers. (R312) -/
  | max (n : Ch) (rd ra rb : BitVec 4)
  /-- JPOST: Post a job command block from data RAM and return the handle or refusal code. (R326) The data RAM read meets an uncorrectable ECC error for `ecc`. -/
  | jpost (n : Ch) (rd ra : BitVec 4) (i : BitVec 18) (ecc : Bool)
  /-- STOP: The STOP instruction puts the core in STOPPED with the watchdog still armed. (R319) -/
  | stop (n : Ch)
  /-- TSET: Load a Grove timer with a count, one-shot or periodic. (R318) -/
  | tset (n : Ch) (ra : BitVec 4) (i : BitVec 18)
  /-- MSG: Send a message of 1 to 64 words to a Grove on the fabric, or return −1 if no tag or queue entry. (R324) `len` is the length − 1; the data RAM read meets an uncorrectable ECC error for `ecc`. -/
  | msg (n : Ch) (rd ra rb : BitVec 4) (len : BitVec 6) (ecc : Bool)
  /-- ADDI: rd = ra + sign-extended immediate. (R312) -/
  | addi (n : Ch) (rd ra : BitVec 4) (i : BitVec 18)
  /-- CMPI: Compare ra with an immediate and set the flags. (R312) -/
  | cmpi (n : Ch) (ra : BitVec 4) (i : BitVec 18)
  /-- ANDI: Bitwise AND with a zero-extended immediate. (R312) -/
  | andi (n : Ch) (rd ra : BitVec 4) (i : BitVec 18)
  /-- ORI: Bitwise OR with a zero-extended immediate. (R312) -/
  | ori (n : Ch) (rd ra : BitVec 4) (i : BitVec 18)
  /-- XORI: Bitwise XOR with a zero-extended immediate. (R312) -/
  | xori (n : Ch) (rd ra : BitVec 4) (i : BitVec 18)
  /-- SHLI: Shift left by an immediate. (R312) -/
  | shli (n : Ch) (rd ra : BitVec 4) (i : BitVec 18)
  /-- SHRI: Logical shift right by an immediate. (R312) -/
  | shri (n : Ch) (rd ra : BitVec 4) (i : BitVec 18)
  /-- SARI: Arithmetic shift right by an immediate. (R312) -/
  | sari (n : Ch) (rd ra : BitVec 4) (i : BitVec 18)
  /-- LUI: rd = imm16 << 16. (R312) -/
  | lui (n : Ch) (rd : BitVec 4) (i : BitVec 16)
  /-- FADD: F32 addition. (R311) -/
  | fadd (n : Ch) (rd ra rb : BitVec 4)
  /-- FSUB: F32 subtraction. (R311) -/
  | fsub (n : Ch) (rd ra rb : BitVec 4)
  /-- FMUL: F32 multiplication. (R311) -/
  | fmul (n : Ch) (rd ra rb : BitVec 4)
  /-- FDIV: F32 division, correctly rounded. (R311) -/
  | fdiv (n : Ch) (rd ra rb : BitVec 4)
  /-- FMIN: F32 minimum with the NaN and equality rules. (R311) -/
  | fmin (n : Ch) (rd ra rb : BitVec 4)
  /-- FMAX: F32 maximum with the NaN and equality rules. (R311) -/
  | fmax (n : Ch) (rd ra rb : BitVec 4)
  /-- FCMP: F32 compare setting the flags, with C for unordered. (R310) -/
  | fcmp (n : Ch) (ra rb : BitVec 4)
  /-- FSQRT: F32 square root. (R311) -/
  | fsqrt (n : Ch) (rd ra : BitVec 4)
  /-- FABS: Clear bit 31 of the operand. (R312) -/
  | fabs (n : Ch) (rd ra : BitVec 4)
  /-- FNEG: Invert bit 31 of the operand. (R312) -/
  | fneg (n : Ch) (rd ra : BitVec 4)
  /-- ITOF: Convert a signed integer to F32. (R311) -/
  | itof (n : Ch) (rd ra : BitVec 4)
  /-- FTOI: Convert F32 to a saturated signed integer rounding toward zero. (R311) -/
  | ftoi (n : Ch) (rd ra : BitVec 4)
  /-- FCLAMP: rd = FMIN(FMAX(rd, ra), rb). (R311) -/
  | fclamp (n : Ch) (rd ra rb : BitVec 4)
  /-- LD: Load a data RAM word. (R313) The data RAM read meets an uncorrectable ECC error for `ecc`. -/
  | ld (n : Ch) (rd ra : BitVec 4) (i : BitVec 18) (ecc : Bool)
  /-- ST: Store a word to data RAM. (R313) -/
  | st (n : Ch) (rd ra : BitVec 4) (i : BitVec 18)
  /-- NRD: Read a loop-engine node of the own channel. (R315) -/
  | nrd (n : Ch) (rd ra : BitVec 4) (i : BitVec 18)
  /-- NWR: Write a node, discarded with WR_REJ if not writable or non-finite. (R315) -/
  | nwr (n : Ch) (rd ra : BitVec 4) (i : BitVec 18)
  /-- CRD: Read a register of the own channel through the private port. (R314) -/
  | crd (n : Ch) (rd ra : BitVec 4) (i : BitVec 18)
  /-- CWR: Write a register of the own channel through the private port. (R314) -/
  | cwr (n : Ch) (rd ra : BitVec 4) (i : BitVec 18)
  /-- BRD: Read a register-bus word with the Grove reach. (R313) -/
  | brd (n : Ch) (rd ra : BitVec 4) (i : BitVec 18)
  /-- BWR: Write a register-bus word with the Grove reach. (R313) -/
  | bwr (n : Ch) (rd ra : BitVec 4) (i : BitVec 18)
  /-- B: Branch to the target if the condition holds. (R309) -/
  | b (n : Ch) (cond : BitVec 4) (t : BitVec 14)
  /-- CALL: Push the return address and jump to the target. (R312) -/
  | call (n : Ch) (t : BitVec 14)
  /-- RET: Pop the return stack into PC. (R312) -/
  | ret (n : Ch)
  /-- JR: Jump to the address in ra. (R312) -/
  | jr (n : Ch) (ra : BitVec 4)
  /-- WFE: Return pending masked events at once or enter WAITING. (R316) -/
  | wfe (n : Ch) (rd : BitVec 4) (i : BitVec 18)
  /-- KICK: Send a watchdog kick value to Ranger, checked against the window and sequence. (R321) -/
  | kick (n : Ch) (ra : BitVec 4)
  /-- SEV: Send the SEV event to the Grove cores in the mask. (R312) -/
  | sev (n : Ch) (i : BitVec 18)
  /-- JOB_START: A START command block puts a job of the given type in a free slot as QUEUED and returns its handle. (R334) -/
  | jobStart (origin : Fin 7) (typ tgt : BitVec 4) (params : List (BitVec 32))
  /-- JOB_SUSPEND: A SUSPEND command moves a job towards SUSPENDED or is refused. (R337) -/
  | jobSuspend (origin : Fin 7) (handle : BitVec 16)
  /-- JOB_RESUME: A RESUME command requeues or resumes a suspended job, or withdraws a suspend request. (R337) -/
  | jobResume (origin : Fin 7) (handle : BitVec 16)
  /-- JOB_CANCEL: A CANCEL command starts the job's cancel actions or fails a queued-suspended job at once. (R337) -/
  | jobCancel (origin : Fin 7) (handle : BitVec 16)
  /-- JOB_RELEASE: A RELEASE command frees a DONE or FAILED slot and clears its results. (R337) -/
  | jobRelease (origin : Fin 7) (handle : BitVec 16)
  /-- JOB_DISPATCH: A queued job's resource becomes free and the job enters RUNNING or fails its preconditions. (R337) -/
  | jobDispatch (k : Fin 16) (cold : Bool)
  /-- JOB_SUSPEND_POINT: A suspending job reaches its suspend point and enters SUSPENDED. (R340) -/
  | jobSuspendPoint (k : Fin 16) (m : List (BitVec 32))
  /-- JOB_CANCEL_COMPLETE: A cancelling job completes its cancel actions and enters FAILED with CANCELLED. (R340) -/
  | jobCancelComplete (k : Fin 16) (m : List (BitVec 32))
  /-- JOB_WORK_COMPLETE: A running job completes its work, writes results and enters DONE. (R337) -/
  | jobWorkComplete (k : Fin 16) (m : List (BitVec 32))
  /-- JOB_FAILURE: A running job fails on its own, applies its cancel actions and enters FAILED. (R337) -/
  | jobFailure (k : Fin 16) (d : BitVec 8) (m : List (BitVec 32))
  /-- IDENT_REST_TIMEOUT: A resumed IDENT waits 5 s for the phase voltages to fall and ends in FAILED with TIMEOUT. (R340) -/
  | identRestTimeout (k : Fin 16)
  /-- CMP_SELFTEST_COMPARATOR_DONE: The self-test of one comparator completes, recording a failure and reconnecting it in its start state. (R206) -/
  | cmpSelftestComparatorDone (n : Ch) (pass : Bool)
  /-- OTP_ROW_PROGRAMMED: An OTP row, lock copy or entry copy finishes programming and verification. (R506) -/
  | otpRowProgrammed (k : Fin 16) (ok hot : Bool) (got : List (BitVec 32))
  /-- TRC_FORCE: The FORCE command acts as a trace trigger. (R346) -/
  | trcForce (n : Ch)
  /-- TRC_END: The END command ends the capture after the next sample's write-back. (R347) -/
  | trcEnd (n : Ch)
  /-- TRACE_FLUSH_TIMEOUT: A stream packet reaches its age limit FLUSH and is closed and sent. (R350) -/
  | traceFlushTimeout (n : Ch)
  /-- LNK_EN: Writing LNK.CTRL.EN disables the port or starts DETECT. (R394) The bit written to EN. -/
  | lnkEn (p : Ch) (b : Bool)
  /-- LNK_RETRAIN: The RETRAIN command moves an ACTIVE port to RETRAIN. (R394) -/
  | lnkRetrain (p : Ch)
  /-- LNK_CNT_CLR: The CNT_CLR command clears the port counters. (R406) -/
  | lnkCntClr (p : Ch)
  /-- SIGNAL_DETECT: The receiver's signal detector reports signal. (R393) -/
  | signalDetect (p : Ch)
  /-- DETECT_COMPLETE: Signal detected without a break for 1 ms moves the port from DETECT to TRAIN. (R394) -/
  | detectComplete (p : Ch)
  /-- TRAIN_DWELL_TIMEOUT: No symbol lock within the TRAIN dwell returns the port to DETECT. (R395) -/
  | trainDwellTimeout (p : Ch)
  /-- CONFIG_TIMEOUT: CONFIG or RETRAIN does not reach ACTIVE within 1 ms and the port returns to DETECT. (R394) -/
  | configTimeout (p : Ch)
  /-- SIGNAL_LOSS: No signal for 1 µs returns the port to DETECT. (R394) -/
  | signalLoss (p : Ch)
  /-- TRA1_RECEIVED: A TRA1 training set is received and drives training, retraining or loopback. (R394) The bytes CAP and PID. -/
  | tra1Received (p : Ch) (cap pid : BitVec 8)
  /-- TRA2_RECEIVED: A TRA2 training set is received and drives CONFIG or RETRAIN towards ACTIVE. (R394) The bytes CAP and PID; the port has sent sixteen TRA2. -/
  | tra2Received (p : Ch) (cap pid : BitVec 8) (sent16 : Bool)
  /-- CODE_ERROR: A received character is not in the code or has wrong disparity; repeated errors start RETRAIN. (R388) The number of the character, the character with a at the top, the receiver's running disparity, a K character may stand there. -/
  | codeError (p : Ch) (pos : Nat) (v : BitVec 10) (rd place : Bool)
  /-- PACKET_RECEIVED: A packet from SOP to EOP is accepted, treated as duplicate, discarded or NAKed. (R397) No code error in it; it ended with EAB; LSEQ; the words from header to trailer; the number of the last character of LSEQ. -/
  | packetReceived (p : Ch) (clean abort : Bool) (lseq : BitVec 16) (ws : List (BitVec 32)) (pos : Nat)
  /-- ACK_RECEIVED: An ACK frees every packet up to its sequence number from the replay buffer. (R398) B0 and B1; the number of the last character. -/
  | ackReceived (p : Ch) (w : BitVec 16) (pos : Nat)
  /-- NAK_RECEIVED: A NAK frees acknowledged packets and replays the rest in order. (R398) B0 and B1; the number of the last character. -/
  | nakReceived (p : Ch) (w : BitVec 16) (pos : Nat)
  /-- CRD_RECEIVED: A credit update sets the transmitter's cumulative credit count of a VC. (R399) B0 and B1; the number of the last character. -/
  | crdReceived (p : Ch) (w : BitVec 16) (pos : Nat)
  /-- ACK_TRANSMIT: An ACK of E − 1 is sent within 64 characters after an accepted or duplicate packet. (R397) -/
  | ackTransmit (p : Ch)
  /-- NAK_TRANSMIT: A NAK of E − 1 is sent when an out-of-order packet arrives and none is outstanding. (R397) -/
  | nakTransmit (p : Ch)
  /-- CREDIT_UPDATE: A CRD is sent when 4 credits have been freed or 10 µs have passed. (R399) The VC. -/
  | creditUpdate (p : Ch) (v : Fin 4)
  /-- REPLAY_TIMEOUT: The oldest unacknowledged packet sees no ACK for 2 µs or 8 µs and every unacknowledged packet is replayed. (R398) -/
  | replayTimeout (p : Ch)
  /-- PACKET_TRANSMIT_START: At a packet boundary the egress port starts the first eligible packet by VC priority and round robin. (R416) -/
  | packetTransmitStart (p : Ch)
  /-- BERT_SYNC_LOSS: The BERT checker loses synchronisation for 100 µs and LINK_BERT fails. (R405) The checker's counters. -/
  | bertSyncLoss (p : Ch) (m : List (BitVec 32))
  /-- TSY_EXCHANGE_START: Every INTERVAL a disciplined device sends TSY REQ on its UPPORT and captures t1. (R446) -/
  | tsyExchangeStart
  /-- TSY_REQ_RECEIVED: A port receives a TSY REQ and captures t2. (R446) The eight data bytes, the first in the top bits; the number of the last character. -/
  | tsyReqReceived (p : Ch) (b : BitVec 64) (pos : Nat)
  /-- TSY_RSP_TRANSMIT: At the next character boundary between packets the parent sends TSY RSP with t2 and R. (R446) -/
  | tsyRspTransmit (p : Ch)
  /-- TSY_EPOCH_TRANSMIT: At the next boundary after the RSP the parent sends TSY EPOCH. (R446) -/
  | tsyEpochTransmit (p : Ch)
  /-- TSY_RSP_RECEIVED: The child receives TSY RSP and captures t4. (R446) The eight data bytes. -/
  | tsyRspReceived (p : Ch) (b : BitVec 64) (pos : Nat)
  /-- TSY_EPOCH_RECEIVED: The child receives TSY EPOCH, completing the exchange. (R447) The eight data bytes. -/
  | tsyEpochReceived (p : Ch) (b : BitVec 64) (pos : Nat)
  /-- TSY_EXCHANGE_LAPSE: RSP or EPOCH has not arrived 100 µs after REQ and the exchange lapses in holdover. (R446) -/
  | tsyExchangeLapse
  /-- RD_REQUEST: A delivered RD request is executed through the Trail target port and answered. (R423) The words that meet an uncorrectable error. -/
  | rdRequest (ecc : List Nat)
  /-- WR_REQUEST: A delivered WR request writes its words in order and is answered after the last. (R423) -/
  | wrRequest
  /-- MSG_REQUEST: A delivered MSG is stored in its endpoint or refused. (R424) -/
  | msgRequest
  /-- JOB_REQUEST: A delivered JOB request executes its command block with origin fabric and returns the result. (R424) -/
  | jobRequest
  /-- FAULT_RECORD: A FAULT event record is stored in the host receive buffer of the destination. (R425) -/
  | faultRecord
  /-- LINK_UP_RECORD: The root receives a LINK_UP record and walks from that device and port. (R434) -/
  | linkUpRecord
  /-- LINK_DOWN_RECORD: The root receives a LINK_DOWN record and removes or reroutes the affected devices. (R435) -/
  | linkDownRecord
  /-- BEACON: A received beacon replaces the held root record if it is better. (R428) -/
  | beacon
  /-- TSYNC_QUERY: A TSYNC QUERY is answered with the current Canopy time and TIME.STATUS. (R450) -/
  | tsyncQuery
  /-- TSYNC_SET: A TSYNC SET acts as SET at the root, and is refused or ignored elsewhere. (R450) -/
  | tsyncSet
  /-- HALT_PACKET_ASSERT: A HALT packet with OP 0 acts as a write of FBK.CTRL.HALT. (R424) -/
  | haltPacketAssert
  /-- HALT_PACKET_RELEASE: A HALT packet with OP 1 acts as a write of FBK.CTRL.RELEASE. (R424) -/
  | haltPacketRelease
  /-- TRANSACTION_RESPONSE: A matching response completes its tag with the carried status, or is discarded if unmatched. (R419) -/
  | transactionResponse
  /-- TRANSACTION_TIMEOUT: TXN.TIMEOUT elapses for a tag, completing it with TIMEOUT and raising FAB_TIMEOUT. (R419) -/
  | transactionTimeout (t : Fin 64)
  /-- TAG_QUARANTINE_END: A quarantined tag becomes free after twice TXN.TIMEOUT. (R419) -/
  | tagQuarantineEnd (t : Fin 64)
  /-- TXN_GO: The GO command sends the host transaction, or completes it at once with BAD_REQ. (R442) -/
  | txnGo
  /-- HRX_POP: The HRX_POP command frees the head message of the host receive buffer. (R424) -/
  | hrxPop
  /-- TXN_CNT_CLR: The CNT_CLR command clears the TXN counters. (R442) -/
  | txnCntClr
  /-- FAB_CNT_CLR: The CNT_CLR command clears the ROUTE and TXN counters. (R438) -/
  | fabCntClr
  /-- FORGET: The FORGET command clears every absent cache entry. (R433) -/
  | forget
  /-- ROUTE_TABLE_WRITE: A route table write changes an entry and completes affected outstanding transactions with NO_ROUTE. (R421) The ID and the word written. -/
  | routeTableWrite (d : BitVec 10) (w : BitVec 32)
  /-- NODE_ID_WRITE: A directed-route write of NODE_ID sets the ID and updates the own route entries. (R431) The word written by a directed-route WR. -/
  | nodeIdWrite (w : BitVec 32)
  /-- BEACON_TIMER: Every 100 µs the device sends its best root record as a beacon on every ACTIVE port. (R427) -/
  | beaconTimer
  /-- ROOT_RECORD_EXPIRY: The held root record's SEQ has not advanced for LOSS_T and the record expires. (R428) -/
  | rootRecordExpiry
  /-- ELECTION_TIMEOUT: An eligible device's own offer stays best for ELECT_T and it becomes root. (R429) -/
  | electionTimeout
  /-- ENUMERATION_START: The root begins an enumeration walk once the enumeration resource is free. (R434) -/
  | enumerationStart
  /-- TIME_SET: The SET command steps the root counter to SET_HI:SET_LO, or is denied at other devices. (R450) -/
  | timeSet
  /-- TIME_CNT_CLR: The CNT_CLR command clears TIME.CNT. (R465) -/
  | timeCntClr
  /-- SYNC_OUT_PULSE: Canopy time reaches a multiple of PPS.PERIOD and the SYNC_OUT pin pulses for 50 ns. (R451) -/
  | syncOutPulse
  /-- SREF_SLOT: At T_k + REF_OFS the leader queues the SREFs of frame k. (R457) -/
  | srefSlot (n : Ch)
  /-- SMEAS_SLOT: At H + MEAS_OFS a member device queues its SMEAS. (R457) The lowest member channel of the stand on this device. -/
  | smeasSlot (n : Ch)
  /-- SREF_RECEIVED: A member device receives an SREF and keeps or discards it. (R456) -/
  | srefReceived
  /-- SMEAS_RECEIVED: The leader receives an SMEAS for use in its use window. (R456) -/
  | smeasReceived
  /-- STAND_FOLLOW_TIMEOUT: Members have not all reported ARMED within FOLLOW_T and STAND_SLOT_MISS becomes present. (R460) -/
  | standFollowTimeout (n : Ch)
  /-- TIME_LOSS_HOLDOVER_EXPIRY: TIME_LOSS persists beyond HOLDOVER and every frame counts as a miss. (R463) -/
  | timeLossHoldoverExpiry
  /-- STAND_CNT_CLR: The CNT_CLR command clears the STAND counters. (R466) -/
  | standCntClr
  /-- CAN_INIT_WRITE: A write of CTRL.INIT enters initialisation or leaves it after bit-timing checks. (R470) The bit written to INIT; a frame is in progress. -/
  | canInitWrite (m : Fin 2) (b busy : Bool)
  /-- CAN_RECOVER: The RECOVER command starts bus-off recovery. (R479) -/
  | canRecover (m : Fin 2)
  /-- CAN_FIFO_POP: The FIFO_POP command discards the head frame of the receive FIFO. (R478) -/
  | canFifoPop (m : Fin 2)
  /-- CAN_BPEND: Writing a BPEND bit requests transmission of a TX buffer. (R477) The bits written; the frame chosen before is already on the bus. -/
  | canBpend (m : Fin 2) (w : BitVec 32) (started : Bool)
  /-- CAN_BABORT: Writing a BABORT bit withdraws a pending TX buffer. (R477) The bits written; the frame being sent is already on the bus. -/
  | canBabort (m : Fin 2) (w : BitVec 32) (started : Bool)
  /-- CAN_FILTER_APPLY: A write of FMASK applies the staged FID and FMASK of the selected filter together. (R475) The word written to FMASK. -/
  | canFilterApply (m : Fin 2) (w : BitVec 32)
  /-- CAN_FRAME_RECEIVED: A received frame is filtered to the FIFO, a buffer or rejection, with its time stamp. (R474) Header as WHDR has it, DLC, RTR, bytes, Canopy ticks at SOF, ESI; a protocol exception instead. -/
  | canFrameReceived (m : Fin 2) (hdr : BitVec 32) (dlc : BitVec 4) (rtr : Bool) (data : List (BitVec 8)) (sof : BitVec 32) (esi pex : Bool)
  /-- CAN_TX_DONE: A TX buffer's frame is sent successfully, clearing BPEND and setting BDONE. (R477) Canopy ticks at SOF. -/
  | canTxDone (m : Fin 2) (sof : BitVec 32)
  /-- CAN_ERROR: A bus error updates the error counters and may lead to error-passive or bus-off. (R479) 0 arbitration lost, 1 error while sending, 2 error while receiving, 3 dominant bit after the receiver's error flag, 4 error while sending that does not count, 5 bit error in the transmitter's error flag or dominant bits after it. -/
  | canError (m : Fin 2) (e : Fin 6)
  /-- CAN_RECOVERY_START: With AUTO_REC, REC_DELAY after bus-off the recovery starts. (R479) -/
  | canRecoveryStart (m : Fin 2)
  /-- CAN_RECOVERY_DONE: 128 occurrences of 11 recessive bits end recovery and clear the counters. (R479) -/
  | canRecoveryDone (m : Fin 2)
  /-- CAN_DOMINANT_TIMEOUT: The controller drives dominant beyond the timeout and the transmitter releases the bus. (R472) -/
  | canDominantTimeout
  /-- RECLAIM: The RECLAIM command starts an address claim at PREF_SA. (R481) -/
  | reclaim
  /-- ADDRESS_CLAIMED_RECEIVED: A received Address Claimed or Cannot Claim updates the partner table and may contest the own SA. (R481) Source address and NAME. -/
  | addressClaimedReceived (sa : BitVec 8) (name : BitVec 64)
  /-- REQUEST_ADDRESS_CLAIMED: A Request for Address Claimed is answered with Address Claimed or a delayed Cannot Claim. (R481) Destination address. -/
  | requestAddressClaimed (da : BitVec 8)
  /-- CLAIM_TIMEOUT: 250 ms pass without a conflicting claim and the state becomes CLAIMED. (R481) -/
  | claimTimeout
  /-- CANNOT_CLAIM_DELAY: The UID-based delay ends and Cannot Claim is sent. (R481) -/
  | cannotClaimDelay
  /-- PARTNER_LEAVE_TIMEOUT: No frame from a partner for LEAVE_T clears its entry and sets LEFT. (R482) -/
  | partnerLeaveTimeout (sa : BitVec 8)
  /-- TP_CM_RECEIVED: A TP.CM message starts, drives or aborts a transport session. (R483) Source, destination, data bytes. -/
  | tpCmReceived (sa da : BitVec 8) (d : List (BitVec 8))
  /-- TP_DT_RECEIVED: A TP.DT packet is stored in its session buffer. (R483) Source, destination, data bytes. -/
  | tpDtReceived (sa da : BitVec 8) (d : List (BitVec 8))
  /-- ETP_CM_RECEIVED: An ETP.CM message starts, drives or aborts an extended transport session. (R485) Source, destination, data bytes. -/
  | etpCmReceived (sa da : BitVec 8) (d : List (BitVec 8))
  /-- ETP_DT_RECEIVED: An ETP.DT packet is stored in the current window of its session. (R485) Source, destination, data bytes. -/
  | etpDtReceived (sa da : BitVec 8) (d : List (BitVec 8))
  /-- SESSION_START: The session START command begins a transmit session to the destination. (R483) KIND and DA of the write. -/
  | sessionStart (kind : BitVec 2) (da : BitVec 8)
  /-- SESSION_NEXT: The NEXT command releases the next ETP window. (R485) -/
  | sessionNext
  /-- SESSION_RELEASE: The RELEASE command frees a completed receive session. (R484) -/
  | sessionRelease
  /-- SESSION_ABORT: The ABORT command aborts a session. (R484) -/
  | sessionAbort
  /-- TP_TIMEOUT: An ISO 11783-3 transport timer expires and the session ends with an abort. (R483) The session. -/
  | tpTimeout (i : Ch)
  /-- BAM_PACKET_TIMER: BAM_GAP elapses and the next BAM packet is sent. (R483) The session. -/
  | bamPacketTimer (i : Ch)
  /-- HOLD_CTS_TIMER: Every 500 ms a hold CTS is sent while an ETP window awaits the host. (R485) The session. -/
  | holdCtsTimer (i : Ch)
  /-- GATEWAY_REQUEST: A Proprietary A gateway request is executed locally or forwarded to the fabric, or refused. (R486) The frame's addresses and bytes, or the session whose message it is; which words of a local read meet an uncorrectable error. -/
  | gatewayRequest (sa da : BitVec 8) (d : List (BitVec 8)) (i : Option (Fin 4)) (ecc : List Nat)
  /-- PATCH_DATA_WRITE: A write of PATCH_DATA stores a word at PATCH_IDX and increments it, unless a patch is verified or active. (R508) -/
  | patchDataWrite (w : BitVec 32)
  /-- PATCH_APPLY: The PATCH_APPLY command starts verification of the loaded patch. (R508) -/
  | patchApply
  /-- PATCH_VERIFY_DONE: Patch verification ends and the patch becomes verified or invalid. (R508) -/
  | patchVerifyDone
  /-- PATCH_CLR: The PATCH_CLR command empties the patch RAM. (R509) -/
  | patchClr
  /-- GPIO_EDGE: A selected edge on a GPIO pin sets its IRQ_FLAG.EDGE bit. (R105) -/
  | gpioEdge (i : Fin 8) (level : Bool)
  /-- THERMAL_COMPARATOR: A channel, core or PHY temperature sensor crosses its warning or trip threshold, or its release level, after the 100 µs filter, making the TEMP_WARN or TEMP_TRIP condition present or absent. (R529) Sensors 0 to 3 are the channels', 4 the core's, 5 the PHYs'. -/
  | thermalComparator (sensor : Fin 6) (trip above : Bool)
  /-- ILLEGAL_OPCODE: The Grove core fetches an unlisted opcode, or meets an uncorrectable ECC error in an instruction fetch, and enters EXCEPTION with GRV_EXC raised. (R322) The fetch met an uncorrectable ECC error. -/
  | illegalOpcode (n : Ch) (ecc : Bool)
  /-- TEST_ACCESS_PORT_CLOCK: A TCK edge advances the IEEE 1149.1 TAP with TMS and TDI, resetting it after five TMS-high cycles and loading instructions such as EXTEST, CLAMP and HIGHZ that force hold-off. (R48) `pins`: the levels at the boundary cells. -/
  | testAccessPortClock (rising tms tdi : Bool) (pins : BitVec 124)
  /-- TEST_PIN_CHANGE: The TEST pin changes level, putting every channel in hold-off while it is 1 and changing SYS.STATUS.TEST. (R51) -/
  | testPinChange (b : Bool)
  /-- CAN_BUS_INTEGRATED: After INIT is cleared or a protocol exception, the controller sees 11 consecutive recessive bits, integrates to the bus and sets STATUS.SYNC. (R470) -/
  | canBusIntegrated (m : Fin 2)
  /-- BERT_CHECKER_SYNCHRONISED: The LINK_BERT checker synchronises on its first 64 received pattern characters, sets BERT_SYNC and starts counting checked and errored bits. (R405) -/
  | bertCheckerSynchronised (p : Ch)
deriving DecidableEq, Repr

end Sys2Proof
end

