-- ==== Sys2Proof/Machine/Crc.lean ====
section
/-! DEFINITION. The two check codes of the manual: CRC-4 (R390) and CRC-32 (R93, R409). -/

namespace Sys2Proof.Machine

/-- CRC-4 with polynomial x⁴ + x + 1 and initial value `c`, over the low `n` bits of `v` from the most significant one (R390). -/
def crc4From (c v : Nat) : Nat → Nat
  | 0 => c
  | n + 1 =>
    let fb := c.testBit 3 != v.testBit n
    crc4From ((2 * c % 16) ^^^ (if fb then 3 else 0)) v n

/-- CRC-4 of the low `n` bits of `v`. -/
def crc4 (v n : Nat) : Nat := crc4From 0 v n

/-- Eight steps of the reflected CRC-32. -/
def crc32Bits (c : Word) : Nat → Word
  | 0 => c
  | n + 1 => crc32Bits (if c.getLsbD 0 then (c >>> 1) ^^^ 0xEDB88320#32 else c >>> 1) n

/-- The CRC-32 register after a list of bytes (R93). -/
def crc32From (c : Word) : List (BitVec 8) → Word
  | [] => c
  | b :: l => crc32From (crc32Bits (c ^^^ b.zeroExtend 32) 8) l

/-- CRC-32 of a list of bytes: initial value and final XOR 0xFFFF_FFFF (R93). -/
def crc32 (l : List (BitVec 8)) : Word := ~~~ crc32From 0xFFFFFFFF#32 l

/-- The bytes of a word, most significant first. -/
def wordBe (w : Word) : List (BitVec 8) := [w.extractLsb' 24 8, w.extractLsb' 16 8, w.extractLsb' 8 8, w.extractLsb' 0 8]

/-- The bytes of a word, least significant first. -/
def wordLe (w : Word) : List (BitVec 8) := [w.extractLsb' 0 8, w.extractLsb' 8 8, w.extractLsb' 16 8, w.extractLsb' 24 8]

end Sys2Proof.Machine
end

