-- ==== Sys2Proof/Machine/NetTypes.lean ====
section
/-! DEFINITION. What links, fabric, Canopy time, CAN and NET hold that no register shows. -/

namespace Sys2Proof.Machine

/-- What a transmitter sends (R389, R391): a training set with its CAP and PID, a packet with its LSEQ and words, ended with EOP or with EAB. -/
inductive Sym where
  | idl
  | tra1 (cap pid : BitVec 8)
  | tra2 (cap pid : BitVec 8)
  | hlt
  | ack (w : BitVec 16)
  | nak (w : BitVec 16)
  | crd (w : BitVec 16)
  | tsy (b : BitVec 64)
  | pkt (lseq : BitVec 16) (words : List Word)
  | abort (lseq : BitVec 16) (words : List Word)
deriving DecidableEq, Repr

/-- A packet on an egress queue: its ingress (0-3 a port, 4 the host, 5-8 a Grove, 9 the Lodge, 10-13 a trace unit, 14 the stand
layer, R416), and whether starting it frees its receive buffer (R399). -/
structure Egr where
  ing : Nat
  buf : Bool
  pkt : Pkt
deriving DecidableEq, Repr

/-- What a link port holds that no register shows (R394 to R405, R416). -/
structure LinkPort where
  /-- Packets that wait for their turn, oldest first, and the source served last on each VC. -/
  egress : List Egr
  turn : Vector Nat 4
  /-- The replay buffer with each packet's SEQ, oldest first; how many of its last packets are still to be sent again; the last replay
  has freed nothing yet (R398). -/
  replay : List (Nat × Pkt)
  again : Nat
  stuck : Bool
  /-- A NAK is outstanding; an ACK, a NAK is due (R397). -/
  nak : Bool
  ackDue : Bool
  nakDue : Bool
  /-- Per VC: CUM of the own buffer, CUM as last sent, CUM as last received, SENT (R399). -/
  cum : Vector Nat 4
  crd : Vector Nat 4
  got : Vector Nat 4
  sent : Vector Nat 4
  /-- The Understory bucket in 1/1,600 byte, at PCLK cycle `bucketAt` (R416). -/
  bucket : Nat
  bucketAt : Nat
  /-- Consecutive valid training sets, and TRA2 alone; sets sent, and the peer's sets, carry FRESH (R394, R396). -/
  tra : Nat
  tra2 : Nat
  fresh : Bool
  peerFresh : Bool
  /-- The rate of the next entry to TRAIN in auto, true for cable; how many dwells have been drawn, and the PCLK cycle at which the present one
  ends (R395); code errors in CONFIG; positions of the last code errors in ACTIVE, latest first. -/
  cable : Bool
  tries : Nat
  dwellEnd : Nat
  cfgErrs : Nat
  errs : List Nat
  /-- LINK_BERT has stopped the packets, at PCLK cycle `bertAt`, and waits for the replay buffer or the peer's answer; RETRAIN came from a TRA1
  with the BERT request of the peer; it came from a TRA1 without, while the port asked (R405, log 177). -/
  bert : Bool
  bertAt : Nat
  loopAsk : Bool
  asked : Bool
  /-- TSY RSP and TSY EPOCH to send: SEQ and t2 in fine units (R446). -/
  rsp : Option (Nat × Nat)
  epo : Option (Nat × Nat)
  /-- The port has entered ACTIVE since FAB.PORTS was last read over a directed route (R434). -/
  unread : Bool
  /-- The last symbol or packet transmitted, its characters on the line, and the running disparity after them, true where positive (R388). -/
  tx : Option Sym
  line : List (BitVec 10)
  disp : Bool
deriving DecidableEq, Repr

/-- A port when PD_LINK comes on (R396, R399). -/
def LinkPort.reset : LinkPort where
  egress := []
  turn := Vector.replicate 4 0
  replay := []
  again := 0
  stuck := false
  nak := false
  ackDue := false
  nakDue := false
  cum := ⟨#[32, 64, 128, 64], rfl⟩
  crd := ⟨#[32, 64, 128, 64], rfl⟩
  got := ⟨#[32, 64, 128, 64], rfl⟩
  sent := Vector.replicate 4 0
  bucket := 0
  bucketAt := 0
  tra := 0
  tra2 := 0
  fresh := true
  peerFresh := false
  cable := false
  tries := 0
  dwellEnd := 0
  cfgErrs := 0
  errs := []
  bert := false
  bertAt := 0
  loopAsk := false
  asked := false
  rsp := none
  epo := none
  unread := false
  tx := none
  line := []
  disp := false

/-- What a tag's transaction is for (R418). -/
inductive TagUse where
  | none
  | host
  | grove (n : Nat)
  /-- A step of the root's walk or of its writes (R430 to R432). -/
  | enum
  /-- The CAN gateway (R487). -/
  | gate
deriving DecidableEq, Repr

/-- An initiator tag (R419, R442): `st` 0 free, 1 outstanding, 2 quarantine. -/
structure Tag where
  st : Nat
  owner : Nat
  last : Nat
  dst : Nat
  dr : Bool
  use : TagUse
deriving DecidableEq, Repr

/-- A tag never used. -/
def Tag.reset : Tag where
  st := 0
  owner := 0
  last := 0
  dst := 0
  dr := false
  use := .none

/-- A message of the host receive buffer (R424, R442). -/
structure Hrx where
  src : Nat
  evt : Bool
  len : Nat
  data : List Word
deriving DecidableEq, Repr

/-- A root record (R426); `up` is `none` for the device's own offer. -/
structure RootRec where
  prio : Nat
  uid : Nat
  id : Nat
  est : Bool
  seq : Nat
  dist : Nat
  up : Option Nat
deriving DecidableEq, Repr

/-- A device the root knows: `par` the UID of its parent in the breadth-first tree, `pport` the parent's port, `inp` its own ingress port
(R430, R440). -/
structure Node where
  uid : Nat
  id : Nat
  hops : Nat
  par : Nat
  pport : Nat
  inp : Nat
deriving DecidableEq, Repr

/-- Enumeration work that waits: a full walk (skipping step 1 of R431; that of a FABRIC_REENUM job), a walk from a port of a device, the
loss of a port of a device (R429, R434, R435, R437). -/
inductive EnumReq where
  | full (renumber job : Bool)
  | up (uid port : Nat)
  | down (uid port : Nat)
deriving DecidableEq, Repr

/-- What the root is doing: nothing; reading at a port of a device; writing the ID of the device found there; writing burst `blk` of a
device's route entries, or its tree flags for `blk` 16; reading such a burst of a device that has routes of its own (R422, R430 to R432). -/
inductive EnumStep where
  | idle
  | read (uid port : Nat)
  | name (uid port : Nat) (nd : Node) (ports : Nat)
  | write (nd : Node) (blk : Nat)
  | table (nd : Node) (blk : Nat)
deriving DecidableEq, Repr

/-- The fabric layer of the device (R407 to R437). -/
structure Fab where
  tags : Vector Tag 64
  hrx : List Hrx
  /-- The held root record; the last record of each port, and when its SEQ last advanced, in PCLK cycles (R428). -/
  held : Option RootRec
  last : Vector (Option RootRec) 4
  seen : Vector Nat 4
  /-- The root: devices present, itself first; links as (UID, port, UID, port); the route entries written, as (UID, ID, port). -/
  nodes : List Node
  edges : List (Nat × Nat × Nat × Nat)
  routes : List (Nat × Nat × Nat)
  /-- Work that waits, the step in progress, whether its exchange is the retry; ports still to read, bursts still to write, devices newly
  entered; the walk is that of a FABRIC_REENUM, and skips step 1 of R431; IDs that left; the walk of a new root has the route tables to read,
and the bursts still to read (R422, log 178). -/
  work : List EnumReq
  step : EnumStep
  retried : Bool
  /-- How the exchange in progress ended, not yet looked at: its status, and the words of ROUTE and data of the response. -/
  answer : Option (Nat × List Word)
  todo : List (Nat × Nat)
  writes : List (Node × Nat)
  fresh : List Nat
  full : Bool
  renum : Bool
  gone : List Nat
  learn : Bool
  tables : List (Node × Nat)
deriving DecidableEq, Repr

/-- No record, no transaction. -/
def Fab.reset : Fab where
  tags := Vector.replicate 64 Tag.reset
  hrx := []
  held := none
  last := Vector.replicate 4 none
  seen := Vector.replicate 4 0
  nodes := []
  edges := []
  routes := []
  work := []
  step := .idle
  retried := false
  answer := none
  todo := []
  writes := []
  fresh := []
  full := false
  renum := false
  gone := []
  learn := false
  tables := []

/-- The servo of Canopy time (R446 to R448). -/
structure Tsy where
  /-- The exchange in progress: its SEQ and t1; from the RSP, t2 [31:0], R and t4. -/
  seq : Nat
  t1 : Option Nat
  rsp : Option (Nat × Nat × Nat)
  /-- The next completed exchange is a first one; the integrator FREQ. -/
  first : Bool
  freq : Int
  /-- Consecutive exchanges within the limit, beyond four times the limit, lapsed. -/
  good : Nat
  bad : Nat
  lapsed : Nat
  /-- LOCK has been held since the last CORE reset. -/
  held : Bool
  /-- The PCLK cycle at which the last pulse of the SYNC_OUT pins began (R451). -/
  pulse : Option Nat
deriving DecidableEq, Repr

/-- No exchange yet. -/
def Tsy.reset : Tsy where
  seq := 0
  t1 := none
  rsp := none
  first := true
  freq := 0
  good := 0
  bad := 0
  lapsed := 0
  held := false
  pulse := none

/-- A CAN frame (R468, R476): `data` its bytes. ESI stands in FD frames on the bus alone: no register shows it. -/
structure CanFrame where
  fdf : Bool
  brs : Bool
  esi : Bool
  ide : Bool
  rtr : Bool
  id : Nat
  dlc : Nat
  ts : Word
  data : List (BitVec 8)
deriving DecidableEq, Repr

/-- An empty buffer. -/
def CanFrame.empty : CanFrame where
  fdf := false
  brs := false
  esi := false
  ide := false
  rtr := false
  id := 0
  dlc := 0
  ts := 0
  data := []

/-- An acceptance filter (R474, R475): FID, and FMASK with the buffer of DEST = 1 apart. -/
structure CanFilt where
  en : Bool
  ide : Bool
  rtr : Bool
  id : Nat
  dest : Nat
  buf : Nat
  mask : Nat
deriving DecidableEq, Repr

/-- A CAN controller beside its page (R468 to R479). -/
structure Can where
  bufs : Vector CanFrame 32
  fifo : List CanFrame
  filt : Vector CanFilt 64
  /-- The error counters, wider than their register fields. -/
  txe : Nat
  rxe : Nat
  /-- What is being sent: a buffer, or 32 for the head of the engines' queue. -/
  cur : Option Nat
  txq : List CanFrame
  /-- INIT 0 to 1 waits for the end of the frame in progress (R470). -/
  initReq : Bool
  /-- The last frame sent, as the bus carried it (R468). -/
  sent : Option CanFrame
deriving DecidableEq, Repr

/-- A controller when PD_CAN comes on. -/
def Can.reset : Can where
  bufs := Vector.replicate 32 .empty
  fifo := []
  filt := Vector.replicate 64 ⟨false, false, false, 0, 0, 0, 0⟩
  txe := 0
  rxe := 0
  cur := none
  txq := []
  initReq := false
  sent := none

/-- A partner of the address claim (R482); `at` in PCLK cycles of `State.now`. -/
structure Partner where
  sa : Nat
  name : Nat
  since : Nat
deriving DecidableEq, Repr

/-- A transport session (R483 to R485, R489). -/
structure Sess where
  /-- NET.SSTAT.STATE, ABORT and DONE; NET.SCTL.KIND and DA; SPGN and SLEN. -/
  st : Nat
  abort : Nat
  done : Nat
  kind : Nat
  da : Nat
  pgn : Nat
  len : Nat
  /-- The buffer's words that are not 0. -/
  buf : List (Nat × Word)
  /-- The session transmits; the address at the other end; the next packet from 1; packets left of the CTS in force; packets before the
  ETP window, and packets in it. -/
  tx : Bool
  peer : Nat
  next : Nat
  left : Nat
  base : Nat
  win : Nat
  /-- A CTS that came before NEXT: packets and first packet (R485). -/
  cts : Option (Nat × Nat)
  /-- The session carries a gateway message (R486). -/
  gate : Bool
deriving DecidableEq, Repr

/-- An idle session. -/
def Sess.reset : Sess where
  st := 0
  abort := 0
  done := 0
  kind := 0
  da := 0
  pgn := 0
  len := 0
  buf := []
  tx := false
  peer := 0
  next := 0
  left := 0
  base := 0
  win := 0
  cts := none
  gate := false

/-- A request the gateway holds (R486, R487): the requester, bytes 0 to 3, whether it came by a session. -/
structure GwReq where
  sa : Nat
  hdr : Word
  sess : Bool
  tag : Nat
deriving DecidableEq, Repr

/-- The NET and GW engines (R480 to R487); `gwOut`: answers that wait for an idle session, the address and the bytes. -/
structure Net where
  part : List Partner
  sess : Vector Sess 4
  gw : List GwReq
  gwOut : List (Nat × List (BitVec 8))
  /-- A delayed Cannot Claim is due (R481). -/
  late : Bool
deriving DecidableEq, Repr

/-- No partner, no session. -/
def Net.reset : Net where
  part := []
  sess := Vector.replicate 4 .reset
  gw := []
  gwOut := []
  late := false

end Sys2Proof.Machine
end

