-- ==== Sys2Proof/Machine/Line.lean ====
section
/-! DEFINITION. The characters of the line: the 8b/10b code with its running disparity, and the control symbols (R388 to R391). The code's tables
are those of the standard that R388 names (PRESUMED, log 176). -/

namespace Sys2Proof.Machine

/-- The six-bit groups abcdei of D.0 to D.31 under negative running disparity, and of K.28 after them. -/
def sixTab : List (BitVec 6) :=
  [0b100111, 0b011101, 0b101101, 0b110001, 0b110101, 0b101001, 0b011001, 0b111000] ++
  [0b111001, 0b100101, 0b010101, 0b110100, 0b001101, 0b101100, 0b011100, 0b010111] ++
  [0b011011, 0b100011, 0b010011, 0b110010, 0b001011, 0b101010, 0b011010, 0b111010] ++
  [0b110011, 0b100110, 0b010110, 0b110110, 0b001110, 0b101110, 0b011110, 0b101011] ++ [0b001111]

/-- The four-bit groups fghj of D.x.0 to D.x.7 under negative running disparity. -/
def fourTab : List (BitVec 4) := [0b1011, 0b1001, 0b0101, 0b1100, 0b1101, 0b1010, 0b0110, 0b1110]

/-- The four-bit groups fghj of K.x.0 to K.x.7 under negative running disparity. -/
def fourTabK : List (BitVec 4) := [0b1011, 0b0110, 0b1010, 0b1100, 0b1101, 0b0101, 0b1001, 0b0111]

/-- The ones of the low `n` bits. -/
def onesOf (v n : Nat) : Nat := (List.range n).countP fun i => v.testBit i

/-- A group is not balanced, which turns the running disparity. -/
def turns6 (c : BitVec 6) : Bool := onesOf c.toNat 6 != 3
def turns4 (c : BitVec 4) : Bool := onesOf c.toNat 4 != 2

/-- abcdei of x under running disparity `pos`. -/
def sixOf (x : Nat) (pos : Bool) : BitVec 6 :=
  let c := sixTab.getD x 0
  if pos && (turns6 c || x == 7) then ~~~c else c

/-- fghj of Dx.y under the running disparity `pos` after abcdei: the alternate D.x.A7 keeps runs of five out of the line. -/
def fourOf (x y : Nat) (pos : Bool) : BitVec 4 :=
  if y = 7 ∧ pos = false ∧ (x = 17 ∨ x = 18 ∨ x = 20) then 0b0111
  else if y = 7 ∧ pos = true ∧ (x = 11 ∨ x = 13 ∨ x = 14) then 0b1000
  else
    let c := fourTab.getD y 0
    if pos && (turns4 c || y == 3) then ~~~c else c

/-- fghj of Kx.y under the running disparity `pos` after abcdei. -/
def fourOfK (y : Nat) (pos : Bool) : BitVec 4 :=
  let c := fourTabK.getD y 0
  if pos then ~~~c else c

/-- A character before coding: control or data, and its byte, x in bits 4..0 and y in bits 7..5. -/
structure Chr where
  k : Bool
  b : BitVec 8
deriving DecidableEq, Repr

/-- The character under running disparity `pos`, bit a, which is sent first, at the top; and the disparity after it (R388). -/
def Chr.code (c : Chr) (pos : Bool) : BitVec 10 × Bool :=
  let x := c.b.toNat % 32
  let y := c.b.toNat / 32
  let six := sixOf (if c.k && x == 28 then 32 else x) pos
  let mid := xor pos (turns6 six)
  let four := if c.k then fourOfK y mid else fourOf x y mid
  (BitVec.ofNat 10 (six.toNat * 16 + four.toNat), xor mid (turns4 four))

/-- Dx.y, Kx.y (R388). -/
def chrD (x y : Nat) : Chr := ⟨false, BitVec.ofNat 8 (x + 32 * y)⟩
def chrK (x y : Nat) : Chr := ⟨true, BitVec.ofNat 8 (x + 32 * y)⟩

/-- The K characters of the control symbols (R389). -/
def kChars : List Chr :=
  [chrK 28 5, chrK 27 7, chrK 29 7, chrK 30 7, chrK 28 3, chrK 28 4, chrK 28 2, chrK 28 6, chrK 23 7]

/-- A received character is a code error (R388, R389): with the receiver's running disparity `pos` it is no data character, and it is no K
character of the control symbols in a position their table allows; `place`: a K character may stand there. -/
def lineBad (v : BitVec 10) (pos place : Bool) : Bool :=
  !((List.range 256).any fun b => ((Chr.mk false (BitVec.ofNat 8 b)).code pos).1 == v) &&
    !(place && kChars.any fun c => (c.code pos).1 == v)

/-- The bytes of a number, most significant first, as data characters. -/
def chrBytes (n v : Nat) : List Chr := (List.range n).map fun i => ⟨false, BitVec.ofNat 8 (v / 2 ^ (8 * (n - 1 - i)))⟩

/-- The characters of a training set with CAP and PID behind its two (R389). -/
def trainChars (d : Chr) (cap pid : BitVec 8) : List Chr := [chrK 28 5, d, ⟨false, cap⟩, ⟨false, pid⟩]

/-- The characters of a packet, `stop` at its end (R391). -/
def pktChars (lseq : BitVec 16) (ws : List Word) (stop : Chr) : List Chr :=
  [chrK 27 7] ++ chrBytes 2 lseq.toNat ++ ws.flatMap (fun w => chrBytes 4 w.toNat) ++ [stop]

/-- The characters of a symbol (R389 to R391). -/
def Sym.chars (y : Sym) : List Chr :=
  match y with
  | .idl => [chrK 28 5, chrD 21 5]
  | .tra1 cap pid => trainChars (chrD 10 2) cap pid
  | .tra2 cap pid => trainChars (chrD 5 2) cap pid
  | .hlt => [chrK 23 7, chrK 23 7]
  | .ack w => [chrK 28 3] ++ chrBytes 2 w.toNat
  | .nak w => [chrK 28 4] ++ chrBytes 2 w.toNat
  | .crd w => [chrK 28 2] ++ chrBytes 2 w.toNat
  | .tsy b => [chrK 28 6] ++ chrBytes 8 b.toNat
  | .pkt lseq ws => pktChars lseq ws (chrK 29 7)
  | .abort lseq ws => pktChars lseq ws (chrK 30 7)

/-- Characters under running disparity `pos` as the line carries them, and the disparity after the last (R388). -/
def codeLine (l : List Chr) (pos : Bool) : List (BitVec 10) × Bool :=
  match l with
  | [] => ([], pos)
  | c :: l =>
    let r := c.code pos
    let t := codeLine l r.2
    (r.1 :: t.1, t.2)

/-- The byte CAP of a set that a port sends: both rates supported, FRESH, the BERT request (R389). -/
def capByte (fresh bert : Bool) : BitVec 8 := BitVec.ofNat 8 (1 + 2 * fresh.toNat + 4 * bert.toNat)

end Sys2Proof.Machine
end

