-- ==== Sys2Proof/Config.lean ====
section
/-! DEFINITION. What an implementation fixes and the manual leaves open, each as an opaque constant: nothing in Lean can
evaluate one, so every claim holds for every value of it. -/

namespace Sys2Proof.Config

/-- A value the manual leaves undefined; the argument is the counter of the state that each use advances (log 3). -/
opaque freeValue : Nat → BitVec 32

/-- The exponential as the hardware computes it: `f32Bound` takes it where it lies within the 2 ulp of R236 (log 4). -/
opaque expF32 : BitVec 32 → BitVec 32

/-- The sine of an angle in radians as the hardware computes it: `f32Bound` takes it where it lies within the 2 ulp of R236 (log 4). -/
opaque sinF32 : BitVec 32 → BitVec 32

/-- The cosine of an angle in radians as the hardware computes it: `f32Bound` takes it where it lies within the 2 ulp of R236 (log 4). -/
opaque cosF32 : BitVec 32 → BitVec 32

/-- The square root as the hardware computes it: `f32Bound` takes it where it lies within the 2 ulp of R236 (log 4). -/
opaque sqrtF32 : BitVec 32 → BitVec 32

/-- The angle atan2(y, x) in radians, for which R236 states no accuracy (log 4). -/
opaque atan2F32 : BitVec 32 → BitVec 32 → BitVec 32

/-- What one step of the resolver's tracking loop adds to its angle, in units of 2^−32 turn, and to its speed, in rad/s, for a bandwidth code and
an angle error: R222 gives the loop's type and its bandwidth, not its gains (log 10). -/
opaque trackGain : Nat → Int → Int × BitVec 32

/-- Whether the characters that a port sends by itself up to a PCLK cycle (IDL, sets) have turned its running disparity since the last symbol: how
many of them there are is timing (R392, log 176). -/
opaque fillTurns : Nat → Nat → Bool

/-- Whether a port in RETRAIN has gone on from TRA1 to TRA2 at a PCLK cycle: R394 gives the order alone (log 176). -/
opaque retrainSecond : Nat → Nat → Bool

/-- The generator seeded by the UID from which the dwell of attempt `n` of a port is drawn (R395, log 176). -/
opaque trainDwell : Nat → Nat → Nat → Nat

end Sys2Proof.Config
end

