-- ==== Sys2Proof/Machine/F32.lean ====
section
/-! DEFINITION. IEEE 754 binary32 arithmetic as R236 states it: exact integer arithmetic, one rounding to nearest even as
if the exponent range were unbounded, subnormal inputs and results flushed to zero of the same sign. -/

namespace Sys2Proof.Machine

/-- The sign bit of an F32 word. -/
def f32Neg (w : Word) : Bool := w.getLsbD 31

/-- The biased exponent of an F32 word. -/
def f32Exp (w : Word) : Nat := (w.toNat >>> 23) % 256

/-- The fraction bits of an F32 word. -/
def f32Frac (w : Word) : Nat := w.toNat % 2 ^ 23

/-- A NaN. -/
def f32IsNan (w : Word) : Bool := f32Exp w == 255 && f32Frac w != 0

/-- Neither infinite nor a NaN. -/
def f32IsFinite (w : Word) : Bool := f32Exp w != 255

/-- Zero, a subnormal counting as zero (R236). -/
def f32IsZero (w : Word) : Bool := f32Exp w == 0

/-- Signed zero. -/
def f32Zero (neg : Bool) : Word := if neg then 0x80000000#32 else 0#32

/-- Signed infinity. -/
def f32Inf (neg : Bool) : Word := if neg then 0xFF800000#32 else 0x7F800000#32

/-- The quiet NaN that an invalid operation gives (log 5: the manual gives no payload). -/
def f32Nan : Word := 0x7FC00000#32

/-- The significand of a finite word, 0 for a flushed one. -/
def f32Man (w : Word) : Nat := if f32Exp w == 0 then 0 else 2 ^ 23 + f32Frac w

/-- The weight of the significand's last bit. -/
def f32Wt (w : Word) : Int := (f32Exp w : Int) - 150

/-- The word for ±m·2^e under R236: round to 24 bits, then flush below 2^−126, then overflow to infinity. -/
def f32Round (neg : Bool) (m : Nat) (e : Int) : Word :=
  if m = 0 then f32Zero neg else
  let l := Nat.log2 m + 1
  let k := l - 24
  let q := m >>> k
  let r := m % 2 ^ k
  let up := k ≠ 0 && (decide (2 * r > 2 ^ k) || (decide (2 * r = 2 ^ k) && q % 2 == 1))
  let q := (if up then q + 1 else q) <<< (24 - l)
  let e := e + k - ((24 - l : Nat) : Int)
  let (q, e) := if q = 2 ^ 24 then (2 ^ 23, e + 1) else (q, e)
  let b := e + 150
  if b ≤ 0 then f32Zero neg
  else if 255 ≤ b then f32Inf neg
  else BitVec.ofNat 32 ((if neg then 2 ^ 31 else 0) + (b.toNat <<< 23) + (q - 2 ^ 23))

/-- The sign flipped. -/
def f32Opp (w : Word) : Word := w ^^^ 0x80000000#32

/-- The sign cleared. -/
def f32Abs (w : Word) : Word := w &&& 0x7FFFFFFF#32

/-- A subnormal flushed to zero of its sign (R236). -/
def f32Flush (w : Word) : Word := if f32IsZero w then f32Zero (f32Neg w) else w

/-- The signed significand of a finite word, scaled to the weight 2^e with e at most its own. -/
def f32Scaled (w : Word) (e : Int) : Int :=
  let m : Int := ((f32Man w) <<< (f32Wt w - e).toNat : Nat)
  if f32Neg w then -m else m

/-- Sum (R236). -/
def f32Add (a b : Word) : Word :=
  if f32IsNan a || f32IsNan b then f32Nan
  else if !f32IsFinite a then (if !f32IsFinite b && f32Neg a != f32Neg b then f32Nan else a)
  else if !f32IsFinite b then b
  else
    let e := min (f32Wt a) (f32Wt b)
    let t := f32Scaled a e + f32Scaled b e
    if t = 0 then f32Zero (f32Neg a && f32Neg b && f32IsZero a && f32IsZero b)
    else f32Round (decide (t < 0)) t.natAbs e

/-- Difference. -/
def f32Sub (a b : Word) : Word := f32Add a (f32Opp b)

/-- Product (R236). -/
def f32Mul (a b : Word) : Word :=
  let sg := f32Neg a != f32Neg b
  if f32IsNan a || f32IsNan b then f32Nan
  else if !f32IsFinite a || !f32IsFinite b then
    (if f32IsZero a || f32IsZero b then f32Nan else f32Inf sg)
  else f32Round sg (f32Man a * f32Man b) (f32Wt a + f32Wt b)

/-- Quotient, correctly rounded (R236): 40 extra bits and a sticky bit carry the exact remainder into the rounding. -/
def f32Div (a b : Word) : Word :=
  let sg := f32Neg a != f32Neg b
  if f32IsNan a || f32IsNan b then f32Nan
  else if !f32IsFinite a then (if !f32IsFinite b then f32Nan else f32Inf sg)
  else if !f32IsFinite b then f32Zero sg
  else if f32IsZero b then (if f32IsZero a then f32Nan else f32Inf sg)
  else
    let n := f32Man a <<< 40
    let q := n / f32Man b
    f32Round sg (2 * q + (if n % f32Man b = 0 then 0 else 1)) (f32Wt a - f32Wt b - 41)

/-- The integer square root of `n`, one bit per step from bit `k` down. -/
def isqrt (n : Nat) : Nat → Nat → Nat
  | 0, r => r
  | k + 1, r => let c := r + 2 ^ k; isqrt n k (if c * c ≤ n then c else r)

/-- π/2 in units of 2^−256. -/
def halfPi256 : Nat := 0x1921FB54442D18469898CC51701B839A252049C1114CF98E804177D4C76273644

/-- ln 2 in units of 2^−256. -/
def ln2At256 : Nat := 0xB17217F7D1CF79ABC9E3B39803F2F6AF40F343267298B62D8A0D175B8BAAFA2B

/-- A finite word in units of 2^−256, exact from 2^−233 on. -/
def f32Fixed (w : Word) : Int :=
  let e := f32Wt w + 256
  let m : Int := ((if 0 ≤ e then f32Man w <<< e.toNat else f32Man w >>> (-e).toNat) : Nat)
  if f32Neg w then -m else m

/-- 1 + c/(a·b)·(1 + c/((a+2)(b+2))·…) for `k` factors, in units of 2^−256, where `c` is minus a square for `neg`. -/
def series (c : Int) (step : Nat) : Nat → Nat → Int
  | 0, _ => 2 ^ 256
  | k + 1, a => 2 ^ 256 + c * series c step k (a + step) / (2 ^ 256 * ((if step = 1 then a else a * (a + 1) : Nat) : Int))

/-- The word nearest ±m·2^e, or `cand` where that lies within 2 units in the last place of it (R236); what m itself falls short of the exact
value, less than one part in 2^60, is allowed as well. -/
def f32Bound (cand : Word) (neg : Bool) (m : Nat) (e : Int) : Word :=
  let r := f32Round neg m e
  let u := 2 ^ (Nat.log2 m - 22)
  let v := f32Man cand <<< (f32Wt cand - e).toNat
  if f32IsZero r || !f32IsFinite r || f32IsZero cand || !f32IsFinite cand || f32Neg cand != neg || decide (f32Wt cand < e) then r
  else if (v : Int) - m ≤ ((u + m >>> 60 : Nat) : Int) ∧ (m : Int) - v ≤ ((u + m >>> 60 : Nat) : Int) then cand
  else r

/-- Square root, within 2 units in the last place; the operations' own special cases are those of IEEE 754 (log 4). -/
def f32Sqrt (a : Word) : Word :=
  if f32IsNan a then f32Nan
  else if f32IsZero a then f32Zero (f32Neg a)
  else if f32Neg a then f32Nan
  else if !f32IsFinite a then a
  else
    let odd := ((f32Wt a) % 2).toNat
    let n := f32Man a <<< (120 + odd)
    let r := isqrt n 73 0
    f32Bound (Config.sqrtF32 a) false (2 * r + (if r * r = n then 0 else 1)) ((f32Wt a - odd - 120) / 2 - 1)

/-- e^x, within 2 units in the last place (log 4). -/
def f32ExpOf (a : Word) : Word :=
  if f32IsNan a then f32Nan
  else if !f32IsFinite a || decide (2 ^ 263 ≤ (f32Fixed a).natAbs) then (if f32Neg a then 0#32 else f32Inf false)
  else
    let x := f32Fixed a
    let k := x / ln2At256
    f32Bound (Config.expF32 a) false (series (x - k * ln2At256) 1 60 1).toNat (k - 256)

/-- The sine, or the cosine for `c`, of `x` in units of 2^−256, in the same units: the quarter turn, and the series of what is left. -/
def sineOf (c : Bool) (x : Int) : Int :=
  let q := x / halfPi256 + (if c then 1 else 0)
  let t := x - (x / halfPi256) * halfPi256
  let sq := -(t * t / 2 ^ 256)
  let v := if q % 2 = 0 then t * series sq 2 36 2 / 2 ^ 256 else series sq 2 36 1
  if q % 4 < 2 then v else -v

/-- The sine of an angle in radians, within 2 units in the last place (log 4). -/
def f32Sin (a : Word) : Word :=
  if !f32IsFinite a then f32Nan
  else if f32IsZero a then f32Flush a
  else let v := sineOf false (f32Fixed a); f32Bound (Config.sinF32 a) (decide (v < 0)) v.natAbs (-256)

/-- The cosine of an angle in radians, within 2 units in the last place (log 4). -/
def f32Cos (a : Word) : Word :=
  if !f32IsFinite a then f32Nan
  else let v := sineOf true (f32Fixed a); f32Bound (Config.cosF32 a) (decide (v < 0)) v.natAbs (-256)

/-- The nearest F32 of an integer (R236). -/
def f32OfInt (i : Int) : Word := f32Round (decide (i < 0)) i.natAbs 0

/-- The nearest F32 of a natural number. -/
def f32OfNat (n : Nat) : Word := f32Round false n 0

/-- The nearest F32 of n·2^e. -/
def f32OfScaled (n : Int) (e : Int) : Word := f32Round (decide (n < 0)) n.natAbs e

/-- The F32 of the decimal fraction n/d, correctly rounded. -/
def f32OfRat (n : Int) (d : Nat) : Word :=
  let k := n.natAbs <<< 80
  f32Round (decide (n < 0)) (2 * (k / d) + (if k % d = 0 then 0 else 1)) (-81)

/-- The order of two words that are no NaN, −0 equal to +0: a key that rises with the value. -/
def f32Key (w : Word) : Int :=
  let m : Int := ((f32Flush w).toNat % 2 ^ 31 : Nat)
  if f32Neg w then -m else m

/-- a < b; false if either is a NaN. -/
def f32Lt (a b : Word) : Bool := !f32IsNan a && !f32IsNan b && decide (f32Key a < f32Key b)

/-- a ≤ b; false if either is a NaN. -/
def f32Le (a b : Word) : Bool := !f32IsNan a && !f32IsNan b && decide (f32Key a ≤ f32Key b)

/-- Below zero, −0 counting as +0 (R236). -/
def f32IsNeg (w : Word) : Bool := f32Lt w 0#32

/-- The larger, a NaN passing through so that the finite check of R255 sees it. -/
def f32Max (a b : Word) : Word :=
  if f32IsNan a then a else if f32IsNan b then b else if f32Lt a b then b else a

/-- The smaller, a NaN passing through so that the finite check of R255 sees it. -/
def f32Min (a b : Word) : Word :=
  if f32IsNan a then a else if f32IsNan b then b else if f32Lt b a then b else a

/-- clamp(v, lo, hi) = min(max(v, lo), hi) (R242). -/
def f32Clamp (v lo hi : Word) : Word := f32Min (f32Max v lo) hi

/-- The integer a finite word rounds to, ties to even (log 6). -/
def f32ToInt (w : Word) : Int :=
  let m := f32Man w
  let e := f32Wt w
  let v : Nat :=
    if 0 ≤ e then m <<< e.toNat
    else
      let k := (-e).toNat
      let q := m >>> k
      let r := m % 2 ^ k
      if 2 * r > 2 ^ k || (decide (2 * r = 2 ^ k) && q % 2 == 1) then q + 1 else q
  if f32Neg w then -(v : Int) else v

/-- The integer a finite word truncates to. -/
def f32Trunc (w : Word) : Int :=
  let m := f32Man w
  let e := f32Wt w
  let v : Nat := if 0 ≤ e then m <<< e.toNat else m >>> (-e).toNat
  if f32Neg w then -(v : Int) else v

/-- The natural number a finite word rounds to, 0 below zero. -/
def f32ToNat (w : Word) : Nat := (f32ToInt w).toNat

/-- One. -/
def f32One : Word := 0x3F800000#32

/-- One half. -/
def f32Half : Word := 0x3F000000#32

/-- The F32 nearest π. -/
def f32Pi : Word := 0x40490FDB#32

/-- The F32 nearest √3. -/
def f32Sqrt3 : Word := 0x3FDDB3D7#32

/-- The F32 nearest 1/√3. -/
def f32InvSqrt3 : Word := 0x3F13CD3A#32

/-- An angle code of R212, 65,536 to the turn, in radians as F32. -/
def f32OfAngle (a : Nat) : Word :=
  f32Mul (f32OfScaled (a : Int) (-15)) f32Pi

/-- The angle code of a signed angle in radians, modulo one turn. -/
def angleOfRad (w : Word) : Nat :=
  ((f32ToInt (f32Mul w 0x4622F983#32)) % 65536).toNat

/-- wrap of R142: the signed difference of two angle codes, from −32,768 to 32,767. -/
def angleDiff (a b : Nat) : Int :=
  let d := ((a : Int) - b) % 65536
  if 32768 ≤ d then d - 65536 else d

/-- The sum of an angle code and a signed step, modulo one turn. -/
def angleAdd (a : Nat) (d : Int) : Nat := (((a : Int) + d) % 65536).toNat

end Sys2Proof.Machine
end

