-- ==== Sys2Proof/Machine/CoreTypes.lean ====
section
/-! DEFINITION. What OTP, power manager, Ranger and test port hold that no register shows. -/

namespace Sys2Proof.Machine

/-- Where the device stands between its resets and running (R71, R74, R75, R79): `entry` is standby entry. -/
inductive PMode where
  | boot | run | held | entry | standby
deriving DecidableEq, Repr

/-- Power manager, supplies, reset and AON domain (R54 to R82). -/
structure Pwr where
  mode : PMode
  /-- The last step of the boot timeline that has completed, and the steps that have timed out (R75, R77). -/
  step : Nat
  late : List Nat
  /-- The transition that runs: domain, on or off, asked for by an OTP_PROGRAM job (R62). -/
  trans : Option (Nat × Bool × Bool)
  /-- RESET_N is low; a software reset follows its write by 10 µs: the AONCLK cycle of that write (R71, R73). -/
  rstLow : Bool
  soft : Option Nat
  /-- The buck has stopped for 10 ms (R60). -/
  buckWait : Bool
  /-- AON: RESET_CAUSE and the AONCLK cycle of its first cause, WAKE_SRC, HOLD_CAUSE, the wake enables copied at standby entry (R73, R79,
  R123). -/
  cause : Nat
  causeCyc : Nat
  wakeSrc : Nat
  hold : Nat
  wakeEn : Nat
  /-- A wake event came after CORE was isolated, during entry or in standby (R80, R81). -/
  woke : Bool
  /-- The level of the TEST pin, and of CFG0 to CFG3 as latched (R43, R44, R51). -/
  test : Bool
  cfg : Nat
deriving DecidableEq, Repr

/-- After a power-on reset. -/
def Pwr.reset : Pwr where
  mode := .boot
  step := 0
  late := []
  trans := none
  rstLow := false
  soft := none
  buckWait := false
  cause := 1
  causeCyc := 0
  wakeSrc := 0
  hold := 0
  wakeEn := 0
  woke := false
  test := false
  cfg := 0

/-- The OTP beside its page and its read window (R491 to R509). -/
structure Otp where
  /-- The fuses by word, those that are 0 unlisted: word w of row r at 8r + w, spare rows from 0x800, copy c of redirection entry e at
  0x900 + 4e + c, the direct bank at 0x980. -/
  fuse : List (Nat × Word)
  /-- What had no good value at boot and has not been verified since: rows, spares from 0x100, redirection copies 0x200 + 3e + c, lock
  copies 0x300 + 3k + c, 0x400 for the direct bank; and the spares that failed since (R496, R506). -/
  bad : List Nat
  /-- A re-verify pass waits for the switch-off of PD_OTPW (R503). -/
  verifyDue : Bool
  /-- The words an OTP_PROGRAM job copied at dispatch (R504). -/
  src : List Word
  /-- The spare row that a REPAIR job fills (R505). -/
  spare : Nat
  /-- The CRC-32 of the patch RAM's LEN words recorded at APPLY; a verification runs (R508). -/
  patchCrc : Word
  patchBusy : Bool
  /-- LEN as recorded at APPLY, while the verification runs and for the verified patch that the next boot takes; 0 for none (R508). -/
  patchLen : Nat
deriving DecidableEq, Repr

/-- A delivered part: FACTORY holds UID 0 and the HL4880's VARIANT with its completion record, and is locked; every other fuse reads 0
(R491, R493, R498, R501; log 2). -/
def Otp.reset : Otp where
  fuse := [(2, 0x48000000#32), (120, 0x0A5C0001#32), (121, 9#32), (122, 0x9E0EDD0C#32), (123, 0xFFFFFFF6#32), (0x982, 7#32)]
  bad := []
  verifyDue := false
  src := []
  spare := 0
  patchCrc := 0
  patchBusy := false
  patchLen := 0

/-- What the supervisor Ranger counts (R70, R372 to R379). -/
structure Ranger where
  /-- Windows in a row out of limit, per clock monitor (R70). -/
  mon : Vector Nat 8
  /-- Samples in a row beyond a limit, and back inside, per voltage source SUP_VSUP_UV to SUP_VDDA (R376). -/
  volt : Vector (Nat × Nat) 6
  /-- The Lodge's liveness count as last read, and the checks in a row that found it unchanged (R373). -/
  alive : Nat
  same : Nat
  /-- Reference CRCs of the scanned pages, each with the mismatches in a row (R377). -/
  refs : List (Nat × Word × Nat)
  /-- The page from which the scan goes on, one above the page scanned last (R377). -/
  scan : Nat
  /-- When each channel's last self-test completed, in PCLK cycles; requests that wait for IDLE (R379). -/
  stest : Vector Nat 4
  stestReq : BitVec 4
  /-- Corrected errors, uncorrected errors and the address of the last error per instance (R378). -/
  ecc : Vector (Nat × Nat × Nat) 20
deriving DecidableEq, Repr

/-- Nothing counted. -/
def Ranger.reset : Ranger where
  mon := Vector.replicate 8 0
  volt := Vector.replicate 6 (0, 0)
  alive := 0
  same := 0
  refs := []
  scan := 0
  stest := Vector.replicate 4 0
  stestReq := 0
  ecc := Vector.replicate 20 (0, 0, 0)

/-- The test access port of IEEE 1149.1 (R48, R50): controller state, instruction, shift register, boundary register latch, TDO. -/
structure Tap where
  st : Nat
  ir : Nat
  sr : Nat
  latch : Nat
  tdo : Option Bool
deriving DecidableEq, Repr

/-- Test-Logic-Reset with IDCODE (R48). -/
def Tap.reset : Tap where
  st := 0
  ir := 1
  sr := 0
  latch := 0
  tdo := none

end Sys2Proof.Machine
end

