-- ==== Sys2Proof/Machine/RegCh.lean ====
section
/-! DEFINITION. The field tables of the sixteen channel pages (R145, R167, R190-R192, R210, R211, R233, R262, R263, R282, R303, R331, R353, R467). Each line gives the page of instance 0, the offset, the bits, the access code and the reset value as the
table of spec/ gives them; a field whose reset the table leaves to OTP or to the boot stands at 0 until the Lodge writes it (log 2). -/

namespace Sys2Proof.Machine.R

/-! ### CH -/
def CH_CTRL_DISARM : Fld := ⟨0x40, 0x08, 4, 4, .sc, 0, 1, 4⟩
def CH_CTRL_STOP : Fld := ⟨0x40, 0x08, 3, 3, .sc, 0, 1, 4⟩
def CH_CTRL_RUN : Fld := ⟨0x40, 0x08, 2, 2, .sc, 0, 1, 4⟩
def CH_CTRL_ARM : Fld := ⟨0x40, 0x08, 1, 1, .sc, 0, 1, 4⟩
def CH_CTRL_COMMIT : Fld := ⟨0x40, 0x08, 0, 0, .sc, 0, 1, 4⟩
def CH_STATUS_ARM_REASON : Fld := ⟨0x40, 0x0C, 23, 16, .ro, 0, 1, 4⟩
def CH_STATUS_COMMIT_REASON : Fld := ⟨0x40, 0x0C, 15, 8, .ro, 0, 1, 4⟩
def CH_STATUS_HO_BLEND : Fld := ⟨0x40, 0x0C, 7, 7, .ro, 0, 1, 4⟩
def CH_STATUS_HO_DEFER : Fld := ⟨0x40, 0x0C, 6, 6, .ro, 0, 1, 4⟩
def CH_STATUS_RUN_REQ : Fld := ⟨0x40, 0x0C, 5, 5, .ro, 0, 1, 4⟩
def CH_STATUS_COMMIT_PENDING : Fld := ⟨0x40, 0x0C, 4, 4, .ro, 0, 1, 4⟩
def CH_STATUS_STATE : Fld := ⟨0x40, 0x0C, 3, 0, .ro, 0x1, 1, 4⟩
def CH_IRQ_STATE_CHG : Fld := ⟨0x40, 0x10, 7, 7, .w1c, 0, 1, 4⟩
def CH_IRQ_CMD_IGNORED : Fld := ⟨0x40, 0x10, 6, 6, .w1c, 0, 1, 4⟩
def CH_IRQ_HO_CLAMPED : Fld := ⟨0x40, 0x10, 5, 5, .w1c, 0, 1, 4⟩
def CH_IRQ_HO_TIMEOUT : Fld := ⟨0x40, 0x10, 4, 4, .w1c, 0, 1, 4⟩
def CH_IRQ_HO_DONE : Fld := ⟨0x40, 0x10, 3, 3, .w1c, 0, 1, 4⟩
def CH_IRQ_ARM_REFUSED : Fld := ⟨0x40, 0x10, 2, 2, .w1c, 0, 1, 4⟩
def CH_IRQ_COMMIT_REJ : Fld := ⟨0x40, 0x10, 1, 1, .w1c, 0, 1, 4⟩
def CH_IRQ_COMMIT_DONE : Fld := ⟨0x40, 0x10, 0, 0, .w1c, 0, 1, 4⟩
def CH_FAULT_CH_HO_FAIL : Fld := ⟨0x40, 0x18, 1, 1, .w1c, 0, 1, 4⟩
def CH_FAULT_LOOP_LATE : Fld := ⟨0x40, 0x18, 0, 0, .w1c, 0, 1, 4⟩
def CH_MODE_HO_POLICY : Fld := ⟨0x40, 0x20, 29, 28, .rwc, 0x1, 1, 4⟩
def CH_MODE_LIMP : Fld := ⟨0x40, 0x20, 26, 26, .rwc, 0, 1, 4⟩
def CH_MODE_GANG : Fld := ⟨0x40, 0x20, 25, 24, .rwc, 0, 1, 4⟩
def CH_MODE_MTPA : Fld := ⟨0x40, 0x20, 23, 23, .rwc, 0, 1, 4⟩
def CH_MODE_FW : Fld := ⟨0x40, 0x20, 22, 22, .rwc, 0, 1, 4⟩
def CH_MODE_BRAKE : Fld := ⟨0x40, 0x20, 21, 20, .rwc, 0, 1, 4⟩
def CH_MODE_START : Fld := ⟨0x40, 0x20, 18, 16, .rwc, 0x1, 1, 4⟩
def CH_MODE_TARGET : Fld := ⟨0x40, 0x20, 14, 12, .rwc, 0x2, 1, 4⟩
def CH_MODE_FB2 : Fld := ⟨0x40, 0x20, 10, 8, .rwc, 0x7, 1, 4⟩
def CH_MODE_FB : Fld := ⟨0x40, 0x20, 6, 4, .rwc, 0x4, 1, 4⟩
def CH_MODE_SENSE : Fld := ⟨0x40, 0x20, 3, 2, .rwc, 0, 1, 4⟩
def CH_MODE_COMM : Fld := ⟨0x40, 0x20, 0, 0, .rwc, 0x1, 1, 4⟩
def CH_HO_TIMEOUT : Fld := ⟨0x40, 0x24, 27, 16, .rwc, 0xc8, 1, 4⟩
def CH_HO_ANGLE_MAX : Fld := ⟨0x40, 0x24, 7, 0, .rwc, 0x1e, 1, 4⟩
def CH_COMMIT_INFO_VALID : Fld := ⟨0x40, 0x28, 31, 31, .ro, 0, 1, 4⟩
def CH_COMMIT_INFO_ADDR : Fld := ⟨0x40, 0x28, 23, 0, .ro, 0, 1, 4⟩
def CH_COMMIT_CNT_REJECTED : Fld := ⟨0x40, 0x2C, 31, 16, .ro, 0, 1, 4⟩
def CH_COMMIT_CNT_ACCEPTED : Fld := ⟨0x40, 0x2C, 15, 0, .ro, 0, 1, 4⟩
def CH_HO_STATUS_ELAPSED : Fld := ⟨0x40, 0x30, 19, 8, .ro, 0, 1, 4⟩
def CH_HO_STATUS_ERROR : Fld := ⟨0x40, 0x30, 7, 0, .ro, 0, 1, 4⟩
def CH_LAST_FROM : Fld := ⟨0x40, 0x34, 15, 12, .ro, 0, 1, 4⟩
def CH_LAST_TO : Fld := ⟨0x40, 0x34, 11, 8, .ro, 0x1, 1, 4⟩
def CH_LAST_CAUSE : Fld := ⟨0x40, 0x34, 7, 0, .ro, 0, 1, 4⟩

/-- The fields of the CH page. -/
def CH_fields : List Fld :=
  [CH_CTRL_DISARM, CH_CTRL_STOP, CH_CTRL_RUN, CH_CTRL_ARM, CH_CTRL_COMMIT, CH_STATUS_ARM_REASON, CH_STATUS_COMMIT_REASON, CH_STATUS_HO_BLEND, CH_STATUS_HO_DEFER, CH_STATUS_RUN_REQ, CH_STATUS_COMMIT_PENDING, CH_STATUS_STATE, CH_IRQ_STATE_CHG, CH_IRQ_CMD_IGNORED, CH_IRQ_HO_CLAMPED, CH_IRQ_HO_TIMEOUT, CH_IRQ_HO_DONE, CH_IRQ_ARM_REFUSED, CH_IRQ_COMMIT_REJ, CH_IRQ_COMMIT_DONE, CH_FAULT_CH_HO_FAIL, CH_FAULT_LOOP_LATE, CH_MODE_HO_POLICY, CH_MODE_LIMP, CH_MODE_GANG, CH_MODE_MTPA, CH_MODE_FW, CH_MODE_BRAKE, CH_MODE_START, CH_MODE_TARGET] ++
  [CH_MODE_FB2, CH_MODE_FB, CH_MODE_SENSE, CH_MODE_COMM, CH_HO_TIMEOUT, CH_HO_ANGLE_MAX, CH_COMMIT_INFO_VALID, CH_COMMIT_INFO_ADDR, CH_COMMIT_CNT_REJECTED, CH_COMMIT_CNT_ACCEPTED, CH_HO_STATUS_ELAPSED, CH_HO_STATUS_ERROR, CH_LAST_FROM, CH_LAST_TO, CH_LAST_CAUSE]

/-! ### PWM -/
def PWM_CTRL_CNT_CLR : Fld := ⟨0x41, 0x08, 0, 0, .sc, 0, 1, 4⟩
def PWM_STATUS_REFRESH : Fld := ⟨0x41, 0x0C, 11, 9, .ro, 0, 1, 4⟩
def PWM_STATUS_SECTOR : Fld := ⟨0x41, 0x0C, 8, 6, .ro, 0, 1, 4⟩
def PWM_STATUS_DT_FLOORED : Fld := ⟨0x41, 0x0C, 2, 2, .ro, 0, 1, 4⟩
def PWM_STATUS_SYNC_LOCK : Fld := ⟨0x41, 0x0C, 1, 1, .ro, 0, 1, 4⟩
def PWM_STATUS_RUNNING : Fld := ⟨0x41, 0x0C, 0, 0, .ro, 0, 1, 4⟩
def PWM_IRQ_SYNC_LOCKED : Fld := ⟨0x41, 0x10, 3, 3, .w1c, 0, 1, 4⟩
def PWM_IRQ_SS_MISS : Fld := ⟨0x41, 0x10, 2, 2, .w1c, 0, 1, 4⟩
def PWM_IRQ_REFRESH : Fld := ⟨0x41, 0x10, 1, 1, .w1c, 0, 1, 4⟩
def PWM_IRQ_MINPULSE : Fld := ⟨0x41, 0x10, 0, 0, .w1c, 0, 1, 4⟩
def PWM_FAULT_PWM_SYNC_LOSS : Fld := ⟨0x41, 0x18, 0, 0, .w1c, 0, 1, 4⟩
def PWM_PERIOD : Fld := ⟨0x41, 0x20, 17, 0, .rwc, 0x4e20, 1, 4⟩
def PWM_DTIME_FALL : Fld := ⟨0x41, 0x24, 25, 16, .rwc, 0xc7, 1, 4⟩
def PWM_DTIME_RISE : Fld := ⟨0x41, 0x24, 9, 0, .rwc, 0xc7, 1, 4⟩
def PWM_CFG_COMM_SYNC : Fld := ⟨0x41, 0x28, 16, 16, .rwc, 0, 1, 4⟩
def PWM_CFG_CHOP : Fld := ⟨0x41, 0x28, 12, 12, .rwc, 0, 1, 4⟩
def PWM_CFG_SYNC : Fld := ⟨0x41, 0x28, 8, 8, .rwc, 0, 1, 4⟩
def PWM_CFG_LOOPDIV : Fld := ⟨0x41, 0x28, 5, 4, .rwc, 0, 1, 4⟩
def PWM_CFG_EDGE_POS : Fld := ⟨0x41, 0x28, 1, 1, .rwc, 0, 1, 4⟩
def PWM_CFG_ALIGN : Fld := ⟨0x41, 0x28, 0, 0, .rwc, 0, 1, 4⟩
def PWM_PHASE : Fld := ⟨0x41, 0x2C, 17, 0, .rwc, 0, 1, 4⟩
def PWM_SLEW : Fld := ⟨0x41, 0x30, 3, 0, .rwc, 0x2, 1, 4⟩
def PWM_MINPULSE : Fld := ⟨0x41, 0x34, 7, 0, .rwc, 0x8, 1, 4⟩
def PWM_TRIG_I_POS : Fld := ⟨0x41, 0x38, 17, 0, .rwc, 0, 1, 4⟩
def PWM_TRIG_V_POS : Fld := ⟨0x41, 0x3C, 17, 0, .rwc, 0, 1, 4⟩
def PWM_MEAS_TSETTLE : Fld := ⟨0x41, 0x40, 7, 0, .rwc, 0x28, 1, 4⟩
def PWM_SS_SHIFT_MAX : Fld := ⟨0x41, 0x44, 25, 16, .rwc, 0x190, 1, 4⟩
def PWM_SS_TWIN : Fld := ⟨0x41, 0x44, 7, 0, .rwc, 0x50, 1, 4⟩
def PWM_DUTY_A_ON : Fld := ⟨0x41, 0x48, 22, 0, .ro, 0, 1, 4⟩
def PWM_DUTY_B_ON : Fld := ⟨0x41, 0x4C, 22, 0, .ro, 0, 1, 4⟩
def PWM_DUTY_C_ON : Fld := ⟨0x41, 0x50, 22, 0, .ro, 0, 1, 4⟩
def PWM_PERIOD_CNT_COUNT : Fld := ⟨0x41, 0x54, 31, 0, .ro, 0, 1, 4⟩
def PWM_SYNC_ERR_E : Fld := ⟨0x41, 0x58, 17, 0, .ro, 0, 1, 4⟩
def PWM_EVENTS_REFRESH : Fld := ⟨0x41, 0x5C, 31, 16, .ro, 0, 1, 4⟩
def PWM_EVENTS_MINPULSE : Fld := ⟨0x41, 0x5C, 15, 0, .ro, 0, 1, 4⟩
def PWM_SS_MISS_COUNT : Fld := ⟨0x41, 0x60, 15, 0, .ro, 0, 1, 4⟩

/-- The fields of the PWM page. -/
def PWM_fields : List Fld :=
  [PWM_CTRL_CNT_CLR, PWM_STATUS_REFRESH, PWM_STATUS_SECTOR, PWM_STATUS_DT_FLOORED, PWM_STATUS_SYNC_LOCK, PWM_STATUS_RUNNING, PWM_IRQ_SYNC_LOCKED, PWM_IRQ_SS_MISS, PWM_IRQ_REFRESH, PWM_IRQ_MINPULSE, PWM_FAULT_PWM_SYNC_LOSS, PWM_PERIOD, PWM_DTIME_FALL, PWM_DTIME_RISE, PWM_CFG_COMM_SYNC, PWM_CFG_CHOP, PWM_CFG_SYNC, PWM_CFG_LOOPDIV, PWM_CFG_EDGE_POS, PWM_CFG_ALIGN, PWM_PHASE, PWM_SLEW, PWM_MINPULSE, PWM_TRIG_I_POS, PWM_TRIG_V_POS, PWM_MEAS_TSETTLE, PWM_SS_SHIFT_MAX, PWM_SS_TWIN, PWM_DUTY_A_ON, PWM_DUTY_B_ON] ++
  [PWM_DUTY_C_ON, PWM_PERIOD_CNT_COUNT, PWM_SYNC_ERR_E, PWM_EVENTS_REFRESH, PWM_EVENTS_MINPULSE, PWM_SS_MISS_COUNT]

/-! ### GD -/
def GD_STATUS_SHORT2 : Fld := ⟨0x42, 0x0C, 14, 14, .ro, 0, 1, 4⟩
def GD_STATUS_OFF : Fld := ⟨0x42, 0x0C, 13, 8, .ro, 0, 1, 4⟩
def GD_STATUS_CAPPED : Fld := ⟨0x42, 0x0C, 7, 7, .ro, 0, 1, 4⟩
def GD_STATUS_PRECHG : Fld := ⟨0x42, 0x0C, 6, 6, .ro, 0, 1, 4⟩
def GD_STATUS_BST_UV : Fld := ⟨0x42, 0x0C, 5, 3, .ro, 0, 1, 4⟩
def GD_STATUS_BST_WARN : Fld := ⟨0x42, 0x0C, 2, 0, .ro, 0, 1, 4⟩
def GD_IRQ_SHORT2 : Fld := ⟨0x42, 0x10, 3, 3, .w1c, 0, 1, 4⟩
def GD_IRQ_TRIP : Fld := ⟨0x42, 0x10, 2, 2, .w1c, 0, 1, 4⟩
def GD_IRQ_BST_UV : Fld := ⟨0x42, 0x10, 1, 1, .w1c, 0, 1, 4⟩
def GD_IRQ_BST_WARN : Fld := ⟨0x42, 0x10, 0, 0, .w1c, 0, 1, 4⟩
def GD_FAULT_GATE_CONFLICT : Fld := ⟨0x42, 0x18, 10, 10, .w1c, 0, 1, 4⟩
def GD_FAULT_GD_SHORT2 : Fld := ⟨0x42, 0x18, 9, 9, .w1c, 0, 1, 4⟩
def GD_FAULT_GD_VDS : Fld := ⟨0x42, 0x18, 8, 3, .w1c, 0, 1, 4⟩
def GD_FAULT_GD_BST_UV : Fld := ⟨0x42, 0x18, 2, 0, .w1c, 0, 1, 4⟩
def GD_DRV_HS_T_PRE_OFF : Fld := ⟨0x42, 0x20, 29, 24, .rwc, 0x8, 1, 4⟩
def GD_DRV_LS_T_PRE_OFF : Fld := ⟨0x42, 0x24, 29, 24, .rwc, 0x8, 1, 4⟩
def GD_DRV_HS_T_PRE_ON : Fld := ⟨0x42, 0x20, 21, 16, .rwc, 0x8, 1, 4⟩
def GD_DRV_LS_T_PRE_ON : Fld := ⟨0x42, 0x24, 21, 16, .rwc, 0x8, 1, 4⟩
def GD_DRV_HS_SNK_PRE : Fld := ⟨0x42, 0x20, 15, 12, .rwc, 0x8, 1, 4⟩
def GD_DRV_LS_SNK_PRE : Fld := ⟨0x42, 0x24, 15, 12, .rwc, 0x8, 1, 4⟩
def GD_DRV_HS_SNK_HOLD : Fld := ⟨0x42, 0x20, 11, 8, .rwc, 0x4, 1, 4⟩
def GD_DRV_LS_SNK_HOLD : Fld := ⟨0x42, 0x24, 11, 8, .rwc, 0x4, 1, 4⟩
def GD_DRV_HS_SRC_PRE : Fld := ⟨0x42, 0x20, 7, 4, .rwc, 0x8, 1, 4⟩
def GD_DRV_LS_SRC_PRE : Fld := ⟨0x42, 0x24, 7, 4, .rwc, 0x8, 1, 4⟩
def GD_DRV_HS_SRC_HOLD : Fld := ⟨0x42, 0x20, 3, 0, .rwc, 0x4, 1, 4⟩
def GD_DRV_LS_SRC_HOLD : Fld := ⟨0x42, 0x24, 3, 0, .rwc, 0x4, 1, 4⟩
def GD_BST_REFRESH_N : Fld := ⟨0x42, 0x28, 15, 8, .rwc, 0x8, 1, 4⟩
def GD_BST_UV : Fld := ⟨0x42, 0x28, 3, 0, .rwc, 0x6, 1, 4⟩
def GD_PRECHG_WAIT : Fld := ⟨0x42, 0x2C, 31, 24, .rwc, 0x32, 1, 4⟩
def GD_PRECHG_PULSE : Fld := ⟨0x42, 0x2C, 23, 16, .rwc, 0x64, 1, 4⟩
def GD_PRECHG_COUNT : Fld := ⟨0x42, 0x2C, 15, 8, .rwc, 0x8, 1, 4⟩
def GD_PRECHG_MODE : Fld := ⟨0x42, 0x2C, 0, 0, .rwc, 0, 1, 4⟩
def GD_VDS_FILT : Fld := ⟨0x42, 0x30, 28, 24, .rwc, 0x3, 1, 4⟩
def GD_VDS_BLANK : Fld := ⟨0x42, 0x30, 21, 16, .rwc, 0x9, 1, 4⟩
def GD_VDS_THR_L : Fld := ⟨0x42, 0x30, 12, 8, .rwc, 0x9, 1, 4⟩
def GD_VDS_THR_H : Fld := ⟨0x42, 0x30, 4, 0, .rwc, 0x9, 1, 4⟩
def GD_SHORT_SHORT2_ACTION : Fld := ⟨0x42, 0x34, 8, 8, .rwc, 0, 1, 4⟩
def GD_SHORT_WIN : Fld := ⟨0x42, 0x34, 7, 0, .rwc, 0xa, 1, 4⟩
def GD_CAP_SNK_CAP : Fld := ⟨0x42, 0x38, 7, 4, .ro, 0, 1, 4⟩
def GD_CAP_SRC_CAP : Fld := ⟨0x42, 0x38, 3, 0, .ro, 0, 1, 4⟩
def GD_FIRST_VALID : Fld := ⟨0x42, 0x3C, 31, 31, .w1c, 0, 1, 4⟩
def GD_FIRST_SWITCH : Fld := ⟨0x42, 0x3C, 27, 24, .ro, 0, 1, 4⟩
def GD_FIRST_KIND : Fld := ⟨0x42, 0x3C, 23, 20, .ro, 0, 1, 4⟩
def GD_FIRST_POS : Fld := ⟨0x42, 0x3C, 17, 0, .ro, 0, 1, 4⟩

/-- The fields of the GD page. -/
def GD_fields : List Fld :=
  [GD_STATUS_SHORT2, GD_STATUS_OFF, GD_STATUS_CAPPED, GD_STATUS_PRECHG, GD_STATUS_BST_UV, GD_STATUS_BST_WARN, GD_IRQ_SHORT2, GD_IRQ_TRIP, GD_IRQ_BST_UV, GD_IRQ_BST_WARN, GD_FAULT_GATE_CONFLICT, GD_FAULT_GD_SHORT2, GD_FAULT_GD_VDS, GD_FAULT_GD_BST_UV, GD_DRV_HS_T_PRE_OFF, GD_DRV_LS_T_PRE_OFF, GD_DRV_HS_T_PRE_ON, GD_DRV_LS_T_PRE_ON, GD_DRV_HS_SNK_PRE, GD_DRV_LS_SNK_PRE, GD_DRV_HS_SNK_HOLD, GD_DRV_LS_SNK_HOLD, GD_DRV_HS_SRC_PRE, GD_DRV_LS_SRC_PRE, GD_DRV_HS_SRC_HOLD, GD_DRV_LS_SRC_HOLD, GD_BST_REFRESH_N, GD_BST_UV, GD_PRECHG_WAIT, GD_PRECHG_PULSE] ++
  [GD_PRECHG_COUNT, GD_PRECHG_MODE, GD_VDS_FILT, GD_VDS_BLANK, GD_VDS_THR_L, GD_VDS_THR_H, GD_SHORT_SHORT2_ACTION, GD_SHORT_WIN, GD_CAP_SNK_CAP, GD_CAP_SRC_CAP, GD_FIRST_VALID, GD_FIRST_SWITCH, GD_FIRST_KIND, GD_FIRST_POS]

/-! ### BRK -/
def BRK_STATUS_HYST : Fld := ⟨0x43, 0x0C, 2, 2, .ro, 0, 1, 4⟩
def BRK_STATUS_FORCED : Fld := ⟨0x43, 0x0C, 1, 1, .ro, 0, 1, 4⟩
def BRK_STATUS_ON : Fld := ⟨0x43, 0x0C, 0, 0, .ro, 0, 1, 4⟩
def BRK_IRQ_OVERTIME : Fld := ⟨0x43, 0x10, 1, 1, .w1c, 0, 1, 4⟩
def BRK_IRQ_ON_EVT : Fld := ⟨0x43, 0x10, 0, 0, .w1c, 0, 1, 4⟩
def BRK_FAULT_BRK_OVERTIME : Fld := ⟨0x43, 0x18, 0, 0, .w1c, 0, 1, 4⟩
def BRK_CFG_SNK : Fld := ⟨0x43, 0x20, 15, 12, .rwc, 0x4, 1, 4⟩
def BRK_CFG_SRC : Fld := ⟨0x43, 0x20, 11, 8, .rwc, 0x4, 1, 4⟩
def BRK_CFG_MODE : Fld := ⟨0x43, 0x20, 1, 0, .rwc, 0, 1, 4⟩
def BRK_THR_OFF : Fld := ⟨0x43, 0x24, 25, 16, .rwc, 0x334, 1, 4⟩
def BRK_THR_ON : Fld := ⟨0x43, 0x24, 9, 0, .rwc, 0x352, 1, 4⟩
def BRK_MAXON : Fld := ⟨0x43, 0x28, 7, 0, .rwc, 0x32, 1, 4⟩
def BRK_ONTIME_TIME : Fld := ⟨0x43, 0x2C, 31, 0, .ro, 0, 1, 4⟩

/-- The fields of the BRK page. -/
def BRK_fields : List Fld :=
  [BRK_STATUS_HYST, BRK_STATUS_FORCED, BRK_STATUS_ON, BRK_IRQ_OVERTIME, BRK_IRQ_ON_EVT, BRK_FAULT_BRK_OVERTIME, BRK_CFG_SNK, BRK_CFG_SRC, BRK_CFG_MODE, BRK_THR_OFF, BRK_THR_ON, BRK_MAXON, BRK_ONTIME_TIME]

/-! ### ADC -/
def ADC_CTRL_ZCAL : Fld := ⟨0x44, 0x08, 1, 1, .sc, 0, 1, 4⟩
def ADC_CTRL_OFFCAL : Fld := ⟨0x44, 0x08, 0, 0, .sc, 0, 1, 4⟩
def ADC_STATUS_ZCAL_USED : Fld := ⟨0x44, 0x0C, 1, 1, .ro, 0, 1, 4⟩
def ADC_STATUS_CAL_BUSY : Fld := ⟨0x44, 0x0C, 0, 0, .ro, 0, 1, 4⟩
def ADC_IRQ_SAT : Fld := ⟨0x44, 0x10, 3, 3, .w1c, 0, 1, 4⟩
def ADC_IRQ_CAL_REFUSED : Fld := ⟨0x44, 0x10, 2, 2, .w1c, 0, 1, 4⟩
def ADC_IRQ_VSEQ_DONE : Fld := ⟨0x44, 0x10, 1, 1, .w1c, 0, 1, 4⟩
def ADC_IRQ_CAL_DONE : Fld := ⟨0x44, 0x10, 0, 0, .w1c, 0, 1, 4⟩
def ADC_FAULT_ADC_OFS_RANGE : Fld := ⟨0x44, 0x18, 0, 0, .w1c, 0, 1, 4⟩
def ADC_CFG_GAIN_C : Fld := ⟨0x44, 0x20, 10, 8, .rwc, 0x2, 1, 4⟩
def ADC_CFG_GAIN_B : Fld := ⟨0x44, 0x20, 6, 4, .rwc, 0x2, 1, 4⟩
def ADC_CFG_GAIN_A : Fld := ⟨0x44, 0x20, 2, 0, .rwc, 0x2, 1, 4⟩
def ADC_ISCALE_A_SCALE : Fld := ⟨0x44, 0x24, 31, 0, .rwc, 0x3d160000, 1, 4⟩
def ADC_ISCALE_B_SCALE : Fld := ⟨0x44, 0x28, 31, 0, .rwc, 0x3d160000, 1, 4⟩
def ADC_ISCALE_C_SCALE : Fld := ⟨0x44, 0x2C, 31, 0, .rwc, 0x3d160000, 1, 4⟩
def ADC_OFS_A_OFS : Fld := ⟨0x44, 0x30, 8, 0, .rw, 0, 1, 4⟩
def ADC_OFS_B_OFS : Fld := ⟨0x44, 0x34, 8, 0, .rw, 0, 1, 4⟩
def ADC_OFS_C_OFS : Fld := ⟨0x44, 0x38, 8, 0, .rw, 0, 1, 4⟩
def ADC_VSEQ_SLOT : Fld := ⟨0x44, 0x3C, 31, 0, .rwc, 0xfff62103, 1, 4⟩
def ADC_IA_VALID : Fld := ⟨0x44, 0x40, 31, 31, .ro, 0, 1, 4⟩
def ADC_IB_VALID : Fld := ⟨0x44, 0x44, 31, 31, .ro, 0, 1, 4⟩
def ADC_IC_VALID : Fld := ⟨0x44, 0x48, 31, 31, .ro, 0, 1, 4⟩
def ADC_IA_CORR : Fld := ⟨0x44, 0x40, 28, 16, .ro, 0, 1, 4⟩
def ADC_IB_CORR : Fld := ⟨0x44, 0x44, 28, 16, .ro, 0, 1, 4⟩
def ADC_IC_CORR : Fld := ⟨0x44, 0x48, 28, 16, .ro, 0, 1, 4⟩
def ADC_IA_RAW : Fld := ⟨0x44, 0x40, 11, 0, .ro, 0, 1, 4⟩
def ADC_IB_RAW : Fld := ⟨0x44, 0x44, 11, 0, .ro, 0, 1, 4⟩
def ADC_IC_RAW : Fld := ⟨0x44, 0x48, 11, 0, .ro, 0, 1, 4⟩
def ADC_VRES_VALID : Fld := ⟨0x44, 0x4C, 31, 31, .ro, 0, 8, 4⟩
def ADC_VRES_SRC : Fld := ⟨0x44, 0x4C, 15, 12, .ro, 0, 8, 4⟩
def ADC_VRES_CODE : Fld := ⟨0x44, 0x4C, 11, 0, .ro, 0, 8, 4⟩
def ADC_TEMP_T : Fld := ⟨0x44, 0x6C, 31, 0, .ro, 0, 1, 4⟩

/-- The fields of the ADC page. -/
def ADC_fields : List Fld :=
  [ADC_CTRL_ZCAL, ADC_CTRL_OFFCAL, ADC_STATUS_ZCAL_USED, ADC_STATUS_CAL_BUSY, ADC_IRQ_SAT, ADC_IRQ_CAL_REFUSED, ADC_IRQ_VSEQ_DONE, ADC_IRQ_CAL_DONE, ADC_FAULT_ADC_OFS_RANGE, ADC_CFG_GAIN_C, ADC_CFG_GAIN_B, ADC_CFG_GAIN_A, ADC_ISCALE_A_SCALE, ADC_ISCALE_B_SCALE, ADC_ISCALE_C_SCALE, ADC_OFS_A_OFS, ADC_OFS_B_OFS, ADC_OFS_C_OFS, ADC_VSEQ_SLOT, ADC_IA_VALID, ADC_IB_VALID, ADC_IC_VALID, ADC_IA_CORR, ADC_IB_CORR, ADC_IC_CORR, ADC_IA_RAW, ADC_IB_RAW, ADC_IC_RAW, ADC_VRES_VALID, ADC_VRES_SRC] ++
  [ADC_VRES_CODE, ADC_TEMP_T]

/-! ### CMP -/
def CMP_STATUS_BAND_PENDING : Fld := ⟨0x45, 0x0C, 26, 16, .ro, 0x7ff, 1, 4⟩
def CMP_STATUS_LIMP_ACTIVE : Fld := ⟨0x45, 0x0C, 15, 15, .ro, 0, 1, 4⟩
def CMP_STATUS_SELFTEST_BUSY : Fld := ⟨0x45, 0x0C, 14, 14, .ro, 0, 1, 4⟩
def CMP_STATUS_TRIPPED : Fld := ⟨0x45, 0x0C, 10, 0, .ro, 0x7ff, 1, 4⟩
def CMP_IRQ_SELFTEST_DONE : Fld := ⟨0x45, 0x10, 17, 17, .w1c, 0, 1, 4⟩
def CMP_IRQ_BAND_CLEAR : Fld := ⟨0x45, 0x10, 16, 16, .w1c, 0, 1, 4⟩
def CMP_IRQ_TRIP : Fld := ⟨0x45, 0x10, 10, 0, .w1c, 0, 1, 4⟩
def CMP_FAULT_LIMP_NOPOS : Fld := ⟨0x45, 0x18, 9, 9, .w1c, 0, 1, 4⟩
def CMP_FAULT_CMP_SELFTEST_FAIL : Fld := ⟨0x45, 0x18, 8, 8, .w1c, 0, 1, 4⟩
def CMP_FAULT_CMP_BUS_UV : Fld := ⟨0x45, 0x18, 7, 7, .w1c, 0, 1, 4⟩
def CMP_FAULT_CMP_BUS_OV : Fld := ⟨0x45, 0x18, 6, 6, .w1c, 0, 1, 4⟩
def CMP_FAULT_CMP_WIN : Fld := ⟨0x45, 0x18, 5, 3, .w1c, 0, 1, 4⟩
def CMP_FAULT_CMP_HS : Fld := ⟨0x45, 0x18, 2, 0, .w1c, 0, 1, 4⟩
def CMP_WIN_A_LO : Fld := ⟨0x45, 0x20, 25, 16, .rwc, 0, 1, 4⟩
def CMP_WIN_B_LO : Fld := ⟨0x45, 0x24, 25, 16, .rwc, 0, 1, 4⟩
def CMP_WIN_C_LO : Fld := ⟨0x45, 0x28, 25, 16, .rwc, 0, 1, 4⟩
def CMP_WIN_A_HI : Fld := ⟨0x45, 0x20, 9, 0, .rwc, 0x3ff, 1, 4⟩
def CMP_WIN_B_HI : Fld := ⟨0x45, 0x24, 9, 0, .rwc, 0x3ff, 1, 4⟩
def CMP_WIN_C_HI : Fld := ⟨0x45, 0x28, 9, 0, .rwc, 0x3ff, 1, 4⟩
def CMP_WIN_CFG_MODE : Fld := ⟨0x45, 0x2C, 17, 16, .rwc, 0, 1, 4⟩
def CMP_WIN_CFG_FILT : Fld := ⟨0x45, 0x2C, 12, 8, .rwc, 0x2, 1, 4⟩
def CMP_WIN_CFG_HYST : Fld := ⟨0x45, 0x2C, 3, 0, .rwc, 0x4, 1, 4⟩
def CMP_BUS_UV : Fld := ⟨0x45, 0x30, 25, 16, .rwc, 0x37, 1, 4⟩
def CMP_BUS_OV : Fld := ⟨0x45, 0x30, 9, 0, .rwc, 0x370, 1, 4⟩
def CMP_BUS_CFG_UV_GATE : Fld := ⟨0x45, 0x34, 9, 9, .rwc, 0, 1, 4⟩
def CMP_BUS_CFG_OV_GATE : Fld := ⟨0x45, 0x34, 8, 8, .rwc, 0x1, 1, 4⟩
def CMP_BUS_CFG_HYST : Fld := ⟨0x45, 0x34, 3, 0, .rwc, 0x5, 1, 4⟩
def CMP_LIMP_CFG_DMAX : Fld := ⟨0x45, 0x38, 31, 24, .rwc, 0x5f, 1, 4⟩
def CMP_LIMP_CFG_LEB : Fld := ⟨0x45, 0x38, 23, 16, .rwc, 0x8, 1, 4⟩
def CMP_LIMP_CFG_DIR : Fld := ⟨0x45, 0x38, 13, 12, .rwc, 0, 1, 4⟩
def CMP_LIMP_CFG_PERIOD : Fld := ⟨0x45, 0x38, 9, 0, .rwc, 0x64, 1, 4⟩
def CMP_LIMP_I_SLOPE : Fld := ⟨0x45, 0x3C, 25, 16, .rwc, 0, 1, 4⟩
def CMP_LIMP_I_IPK : Fld := ⟨0x45, 0x3C, 8, 0, .rwc, 0x40, 1, 4⟩
def CMP_SELFTEST_VALID : Fld := ⟨0x45, 0x40, 31, 31, .ro, 0, 1, 4⟩
def CMP_SELFTEST_FAIL : Fld := ⟨0x45, 0x40, 24, 0, .ro, 0, 1, 4⟩
def CMP_TRIPCNT_WIN : Fld := ⟨0x45, 0x44, 31, 16, .ro, 0, 1, 4⟩
def CMP_TRIPCNT_HS : Fld := ⟨0x45, 0x44, 15, 0, .ro, 0, 1, 4⟩

/-- The fields of the CMP page. -/
def CMP_fields : List Fld :=
  [CMP_STATUS_BAND_PENDING, CMP_STATUS_LIMP_ACTIVE, CMP_STATUS_SELFTEST_BUSY, CMP_STATUS_TRIPPED, CMP_IRQ_SELFTEST_DONE, CMP_IRQ_BAND_CLEAR, CMP_IRQ_TRIP, CMP_FAULT_LIMP_NOPOS, CMP_FAULT_CMP_SELFTEST_FAIL, CMP_FAULT_CMP_BUS_UV, CMP_FAULT_CMP_BUS_OV, CMP_FAULT_CMP_WIN, CMP_FAULT_CMP_HS, CMP_WIN_A_LO, CMP_WIN_B_LO, CMP_WIN_C_LO, CMP_WIN_A_HI, CMP_WIN_B_HI, CMP_WIN_C_HI, CMP_WIN_CFG_MODE, CMP_WIN_CFG_FILT, CMP_WIN_CFG_HYST, CMP_BUS_UV, CMP_BUS_OV, CMP_BUS_CFG_UV_GATE, CMP_BUS_CFG_OV_GATE, CMP_BUS_CFG_HYST, CMP_LIMP_CFG_DMAX, CMP_LIMP_CFG_LEB, CMP_LIMP_CFG_DIR] ++
  [CMP_LIMP_CFG_PERIOD, CMP_LIMP_I_SLOPE, CMP_LIMP_I_IPK, CMP_SELFTEST_VALID, CMP_SELFTEST_FAIL, CMP_TRIPCNT_WIN, CMP_TRIPCNT_HS]

/-! ### POS -/
def POS_CTRL_ENC_LOAD : Fld := ⟨0x46, 0x08, 1, 1, .sc, 0, 1, 4⟩
def POS_CTRL_CNT_CLR : Fld := ⟨0x46, 0x08, 0, 0, .sc, 0, 1, 4⟩
def POS_STATUS_SPI_FRESH : Fld := ⟨0x46, 0x0C, 13, 13, .ro, 0, 1, 4⟩
def POS_STATUS_HALL_VALID : Fld := ⟨0x46, 0x0C, 12, 12, .ro, 0, 1, 4⟩
def POS_STATUS_FUSE_SINGLE : Fld := ⟨0x46, 0x0C, 11, 11, .ro, 0, 1, 4⟩
def POS_STATUS_ENC_REF : Fld := ⟨0x46, 0x0C, 10, 10, .ro, 0, 1, 4⟩
def POS_STATUS_SPD_VALID : Fld := ⟨0x46, 0x0C, 9, 9, .ro, 0, 1, 4⟩
def POS_STATUS_ANG_VALID : Fld := ⟨0x46, 0x0C, 8, 8, .ro, 0, 1, 4⟩
def POS_STATUS_SECTOR : Fld := ⟨0x46, 0x0C, 6, 4, .ro, 0, 1, 4⟩
def POS_STATUS_HALL : Fld := ⟨0x46, 0x0C, 2, 0, .ro, 0, 1, 4⟩
def POS_IRQ_SPI_STALE : Fld := ⟨0x46, 0x10, 7, 7, .w1c, 0, 1, 4⟩
def POS_IRQ_SPI_ERR : Fld := ⟨0x46, 0x10, 6, 6, .w1c, 0, 1, 4⟩
def POS_IRQ_ENC_ILLEGAL : Fld := ⟨0x46, 0x10, 5, 5, .w1c, 0, 1, 4⟩
def POS_IRQ_ENC_IDX : Fld := ⟨0x46, 0x10, 4, 4, .w1c, 0, 1, 4⟩
def POS_IRQ_HALL_ILLEGAL : Fld := ⟨0x46, 0x10, 3, 3, .w1c, 0, 1, 4⟩
def POS_IRQ_HALL_SEQ : Fld := ⟨0x46, 0x10, 2, 2, .w1c, 0, 1, 4⟩
def POS_IRQ_INDEX : Fld := ⟨0x46, 0x10, 1, 1, .w1c, 0, 1, 4⟩
def POS_IRQ_SECTOR_CHG : Fld := ⟨0x46, 0x10, 0, 0, .w1c, 0, 1, 4⟩
def POS_FAULT_POS_SPI_STALE : Fld := ⟨0x46, 0x18, 1, 1, .w1c, 0, 1, 4⟩
def POS_FAULT_POS_SPI_ERR : Fld := ⟨0x46, 0x18, 0, 0, .w1c, 0, 1, 4⟩
def POS_CFG_SIX_ADV : Fld := ⟨0x46, 0x20, 31, 16, .rwc, 0, 1, 4⟩
def POS_CFG_LATCOMP : Fld := ⟨0x46, 0x20, 12, 12, .rwc, 0x1, 1, 4⟩
def POS_CFG_DIR : Fld := ⟨0x46, 0x20, 8, 8, .rwc, 0, 1, 4⟩
def POS_CFG_RATIO : Fld := ⟨0x46, 0x20, 4, 0, .rwc, 0x1, 1, 4⟩
def POS_OFS_A_OFS_ENC : Fld := ⟨0x46, 0x24, 31, 16, .rwc, 0, 1, 4⟩
def POS_OFS_A_OFS_HALL : Fld := ⟨0x46, 0x24, 15, 0, .rwc, 0, 1, 4⟩
def POS_OFS_B_OFS_RES : Fld := ⟨0x46, 0x28, 31, 16, .rwc, 0, 1, 4⟩
def POS_OFS_B_OFS_SPI : Fld := ⟨0x46, 0x28, 15, 0, .rwc, 0, 1, 4⟩
def POS_HALL_INTERP : Fld := ⟨0x46, 0x2C, 28, 28, .rwc, 0x1, 1, 4⟩
def POS_HALL_FILT : Fld := ⟨0x46, 0x2C, 27, 24, .rwc, 0x4, 1, 4⟩
def POS_HALL_MAP : Fld := ⟨0x46, 0x2C, 23, 0, .rwc, 0x1354c8, 1, 4⟩
def POS_ENC_IDX_TOL : Fld := ⟨0x46, 0x30, 31, 24, .rwc, 0x2, 1, 4⟩
def POS_ENC_IDX_MODE : Fld := ⟨0x46, 0x30, 22, 21, .rwc, 0, 1, 4⟩
def POS_ENC_IDX_GATE : Fld := ⟨0x46, 0x30, 20, 20, .rwc, 0, 1, 4⟩
def POS_ENC_FILT : Fld := ⟨0x46, 0x30, 19, 16, .rwc, 0x3, 1, 4⟩
def POS_ENC_LINES : Fld := ⟨0x46, 0x30, 15, 0, .rwc, 0x400, 1, 4⟩
def POS_ENC_IDXPOS_IDXPOS : Fld := ⟨0x46, 0x34, 17, 0, .rwc, 0, 1, 4⟩
def POS_SPI_ERR_EN : Fld := ⟨0x46, 0x38, 31, 31, .rwc, 0, 1, 4⟩
def POS_SPI_ERR_POL : Fld := ⟨0x46, 0x38, 29, 29, .rwc, 0, 1, 4⟩
def POS_SPI_ERR_BIT : Fld := ⟨0x46, 0x38, 28, 24, .rwc, 0, 1, 4⟩
def POS_SPI_WIDTH : Fld := ⟨0x46, 0x38, 20, 16, .rwc, 0xf, 1, 4⟩
def POS_SPI_SHIFT : Fld := ⟨0x46, 0x38, 12, 8, .rwc, 0, 1, 4⟩
def POS_SPI_SLOT : Fld := ⟨0x46, 0x38, 2, 1, .rwc, 0, 1, 4⟩
def POS_SPI_PORT : Fld := ⟨0x46, 0x38, 0, 0, .rwc, 0, 1, 4⟩
def POS_SPD_TMAX : Fld := ⟨0x46, 0x3C, 15, 0, .rwc, 0x1388, 1, 4⟩
def POS_FUSE_LO : Fld := ⟨0x46, 0x40, 31, 0, .rwc, 0x43480000, 1, 4⟩
def POS_FUSE_HI : Fld := ⟨0x46, 0x44, 31, 0, .rwc, 0x43c80000, 1, 4⟩
def POS_TDLY_TDLY_RES : Fld := ⟨0x46, 0x48, 31, 24, .rwc, 0, 1, 4⟩
def POS_TDLY_TDLY_SPI : Fld := ⟨0x46, 0x48, 23, 16, .rwc, 0, 1, 4⟩
def POS_TDLY_TDLY_ENC : Fld := ⟨0x46, 0x48, 15, 8, .rwc, 0, 1, 4⟩
def POS_TDLY_TDLY_HALL : Fld := ⟨0x46, 0x48, 7, 0, .rwc, 0, 1, 4⟩
def POS_ANGLE_THETA_A : Fld := ⟨0x46, 0x4C, 31, 16, .ro, 0, 1, 4⟩
def POS_ANGLE_THETA_S : Fld := ⟨0x46, 0x4C, 15, 0, .ro, 0, 1, 4⟩
def POS_SPEED : Fld := ⟨0x46, 0x50, 31, 0, .ro, 0, 1, 4⟩
def POS_SRC_ANG_FB2 : Fld := ⟨0x46, 0x54, 31, 16, .ro, 0, 1, 4⟩
def POS_SRC_ANG_FB : Fld := ⟨0x46, 0x54, 15, 0, .ro, 0, 1, 4⟩
def POS_ENC_CNT_COUNT : Fld := ⟨0x46, 0x58, 17, 0, .ro, 0, 1, 4⟩
def POS_ERRCNT_ERR : Fld := ⟨0x46, 0x5C, 31, 0, .ro, 0, 1, 4⟩

/-- The fields of the POS page. -/
def POS_fields : List Fld :=
  [POS_CTRL_ENC_LOAD, POS_CTRL_CNT_CLR, POS_STATUS_SPI_FRESH, POS_STATUS_HALL_VALID, POS_STATUS_FUSE_SINGLE, POS_STATUS_ENC_REF, POS_STATUS_SPD_VALID, POS_STATUS_ANG_VALID, POS_STATUS_SECTOR, POS_STATUS_HALL, POS_IRQ_SPI_STALE, POS_IRQ_SPI_ERR, POS_IRQ_ENC_ILLEGAL, POS_IRQ_ENC_IDX, POS_IRQ_HALL_ILLEGAL, POS_IRQ_HALL_SEQ, POS_IRQ_INDEX, POS_IRQ_SECTOR_CHG, POS_FAULT_POS_SPI_STALE, POS_FAULT_POS_SPI_ERR, POS_CFG_SIX_ADV, POS_CFG_LATCOMP, POS_CFG_DIR, POS_CFG_RATIO, POS_OFS_A_OFS_ENC, POS_OFS_A_OFS_HALL, POS_OFS_B_OFS_RES, POS_OFS_B_OFS_SPI, POS_HALL_INTERP, POS_HALL_FILT] ++
  [POS_HALL_MAP, POS_ENC_IDX_TOL, POS_ENC_IDX_MODE, POS_ENC_IDX_GATE, POS_ENC_FILT, POS_ENC_LINES, POS_ENC_IDXPOS_IDXPOS, POS_SPI_ERR_EN, POS_SPI_ERR_POL, POS_SPI_ERR_BIT, POS_SPI_WIDTH, POS_SPI_SHIFT, POS_SPI_SLOT, POS_SPI_PORT, POS_SPD_TMAX, POS_FUSE_LO, POS_FUSE_HI, POS_TDLY_TDLY_RES, POS_TDLY_TDLY_SPI, POS_TDLY_TDLY_ENC, POS_TDLY_TDLY_HALL, POS_ANGLE_THETA_A, POS_ANGLE_THETA_S, POS_SPEED, POS_SRC_ANG_FB2, POS_SRC_ANG_FB, POS_ENC_CNT_COUNT, POS_ERRCNT_ERR]

/-! ### LOOP -/
def LOOP_CTRL_CNT_CLR : Fld := ⟨0x47, 0x08, 0, 0, .sc, 0, 1, 4⟩
def LOOP_STATUS_BANK_B : Fld := ⟨0x47, 0x0C, 17, 12, .ro, 0, 1, 4⟩
def LOOP_STATUS_SWAP_PENDING : Fld := ⟨0x47, 0x0C, 11, 11, .ro, 0, 1, 4⟩
def LOOP_STATUS_VBUS_FLOOR : Fld := ⟨0x47, 0x0C, 10, 10, .ro, 0, 1, 4⟩
def LOOP_STATUS_VLIM : Fld := ⟨0x47, 0x0C, 9, 9, .ro, 0, 1, 4⟩
def LOOP_STATUS_ILIM : Fld := ⟨0x47, 0x0C, 8, 8, .ro, 0, 1, 4⟩
def LOOP_STATUS_FW_ACTIVE : Fld := ⟨0x47, 0x0C, 7, 7, .ro, 0, 1, 4⟩
def LOOP_STATUS_CUR_VALID : Fld := ⟨0x47, 0x0C, 6, 6, .ro, 0, 1, 4⟩
def LOOP_STATUS_RAN : Fld := ⟨0x47, 0x0C, 5, 0, .ro, 0, 1, 4⟩
def LOOP_IRQ_VLIM : Fld := ⟨0x47, 0x10, 4, 4, .w1c, 0, 1, 4⟩
def LOOP_IRQ_ILIM : Fld := ⟨0x47, 0x10, 3, 3, .w1c, 0, 1, 4⟩
def LOOP_IRQ_CUR_INVALID : Fld := ⟨0x47, 0x10, 2, 2, .w1c, 0, 1, 4⟩
def LOOP_IRQ_WR_REJ : Fld := ⟨0x47, 0x10, 1, 1, .w1c, 0, 1, 4⟩
def LOOP_IRQ_SWAP_DONE : Fld := ⟨0x47, 0x10, 0, 0, .w1c, 0, 1, 4⟩
def LOOP_FAULT_LOOP_NONFINITE : Fld := ⟨0x47, 0x18, 1, 1, .w1c, 0, 1, 4⟩
def LOOP_FAULT_LOOP_NOFB : Fld := ⟨0x47, 0x18, 0, 0, .w1c, 0, 1, 4⟩
def LOOP_CFG_NOCUR_N : Fld := ⟨0x47, 0x20, 27, 24, .rwc, 0x4, 1, 4⟩
def LOOP_CFG_DTC_SRC : Fld := ⟨0x47, 0x20, 18, 18, .rwc, 0, 1, 4⟩
def LOOP_CFG_DTC_EN : Fld := ⟨0x47, 0x20, 17, 17, .rwc, 0x1, 1, 4⟩
def LOOP_CFG_VBUS_FF : Fld := ⟨0x47, 0x20, 16, 16, .rwc, 0x1, 1, 4⟩
def LOOP_CFG_MOD : Fld := ⟨0x47, 0x20, 12, 12, .rwc, 0, 1, 4⟩
def LOOP_CFG_EN : Fld := ⟨0x47, 0x20, 5, 0, .rwc, 0x3, 1, 4⟩
def LOOP_BANK_IMM : Fld := ⟨0x47, 0x24, 13, 8, .rw, 0, 1, 4⟩
def LOOP_BANK_SWAP : Fld := ⟨0x47, 0x24, 0, 0, .sc, 0, 1, 4⟩
def LOOP_ILIM : Fld := ⟨0x47, 0x28, 31, 0, .rwc, 0x41a00000, 1, 4⟩
def LOOP_MMAX : Fld := ⟨0x47, 0x2C, 31, 0, .rwc, 0x3f733333, 1, 4⟩
def LOOP_VBUS_NOM : Fld := ⟨0x47, 0x30, 31, 0, .rwc, 0x42400000, 1, 4⟩
def LOOP_VBUS_TF : Fld := ⟨0x47, 0x34, 31, 0, .rwc, 0x38d1b717, 1, 4⟩
def LOOP_LD : Fld := ⟨0x47, 0x38, 31, 0, .rwc, 0, 1, 4⟩
def LOOP_LQ : Fld := ⟨0x47, 0x3C, 31, 0, .rwc, 0, 1, 4⟩
def LOOP_PSI : Fld := ⟨0x47, 0x40, 31, 0, .rwc, 0, 1, 4⟩
def LOOP_JKT : Fld := ⟨0x47, 0x44, 31, 0, .rwc, 0, 1, 4⟩
def LOOP_FW_MREF : Fld := ⟨0x47, 0x48, 31, 0, .rwc, 0x3f666666, 1, 4⟩
def LOOP_IBAND : Fld := ⟨0x47, 0x4C, 31, 0, .rwc, 0x3f000000, 1, 4⟩
def LOOP_S5_REF : Fld := ⟨0x47, 0x70, 31, 0, .rwc, 0x42a00000, 1, 4⟩
def LOOP_IDREF_REF : Fld := ⟨0x47, 0x50, 31, 0, .rw, 0, 1, 4⟩
def LOOP_VDREF_REF : Fld := ⟨0x47, 0x54, 31, 0, .rw, 0, 1, 4⟩
def LOOP_WR_ERR_VALID : Fld := ⟨0x47, 0x58, 31, 31, .w1c, 0, 1, 4⟩
def LOOP_WR_ERR_CAUSE : Fld := ⟨0x47, 0x58, 30, 28, .ro, 0, 1, 4⟩
def LOOP_WR_ERR_ADDR : Fld := ⟨0x47, 0x58, 23, 0, .ro, 0, 1, 4⟩
def LOOP_NODE_IDX_IDX : Fld := ⟨0x47, 0x5C, 7, 0, .rw, 0, 1, 4⟩
def LOOP_NODE_VAL_VAL : Fld := ⟨0x47, 0x60, 31, 0, .rw, 0, 1, 4⟩
def LOOP_CNT_NONFINITE : Fld := ⟨0x47, 0x64, 31, 16, .ro, 0, 1, 4⟩
def LOOP_CNT_INVALID : Fld := ⟨0x47, 0x64, 15, 0, .ro, 0, 1, 4⟩
def LOOP_LAT_MAX : Fld := ⟨0x47, 0x68, 24, 16, .ro, 0, 1, 4⟩
def LOOP_LAT_LAST : Fld := ⟨0x47, 0x68, 8, 0, .ro, 0, 1, 4⟩
def LOOP_SAMPLE_N : Fld := ⟨0x47, 0x6C, 31, 0, .ro, 0, 1, 4⟩

/-- The fields of the LOOP page. -/
def LOOP_fields : List Fld :=
  [LOOP_CTRL_CNT_CLR, LOOP_STATUS_BANK_B, LOOP_STATUS_SWAP_PENDING, LOOP_STATUS_VBUS_FLOOR, LOOP_STATUS_VLIM, LOOP_STATUS_ILIM, LOOP_STATUS_FW_ACTIVE, LOOP_STATUS_CUR_VALID, LOOP_STATUS_RAN, LOOP_IRQ_VLIM, LOOP_IRQ_ILIM, LOOP_IRQ_CUR_INVALID, LOOP_IRQ_WR_REJ, LOOP_IRQ_SWAP_DONE, LOOP_FAULT_LOOP_NONFINITE, LOOP_FAULT_LOOP_NOFB, LOOP_CFG_NOCUR_N, LOOP_CFG_DTC_SRC, LOOP_CFG_DTC_EN, LOOP_CFG_VBUS_FF, LOOP_CFG_MOD, LOOP_CFG_EN, LOOP_BANK_IMM, LOOP_BANK_SWAP, LOOP_ILIM, LOOP_MMAX, LOOP_VBUS_NOM, LOOP_VBUS_TF, LOOP_LD, LOOP_LQ] ++
  [LOOP_PSI, LOOP_JKT, LOOP_FW_MREF, LOOP_IBAND, LOOP_S5_REF, LOOP_IDREF_REF, LOOP_VDREF_REF, LOOP_WR_ERR_VALID, LOOP_WR_ERR_CAUSE, LOOP_WR_ERR_ADDR, LOOP_NODE_IDX_IDX, LOOP_NODE_VAL_VAL, LOOP_CNT_NONFINITE, LOOP_CNT_INVALID, LOOP_LAT_MAX, LOOP_LAT_LAST, LOOP_SAMPLE_N]

/-! ### PIDA -/
def PIDA_KP : Fld := ⟨0x48, 0x20, 31, 0, .rw, 0, 6, 36⟩
def PIDA_KI : Fld := ⟨0x48, 0x24, 31, 0, .rw, 0, 6, 36⟩
def PIDA_KD : Fld := ⟨0x48, 0x28, 31, 0, .rw, 0, 6, 36⟩
def PIDA_TF : Fld := ⟨0x48, 0x2C, 31, 0, .rw, 0, 6, 36⟩
def PIDA_OUTMIN : Fld := ⟨0x48, 0x30, 31, 0, .rw, 0, 6, 36⟩
def PIDA_OUTMAX : Fld := ⟨0x48, 0x34, 31, 0, .rw, 0, 6, 36⟩
def PIDA_IMIN : Fld := ⟨0x48, 0x38, 31, 0, .rw, 0, 6, 36⟩
def PIDA_IMAX : Fld := ⟨0x48, 0x3C, 31, 0, .rw, 0, 6, 36⟩
def PIDA_FFSEL : Fld := ⟨0x48, 0x40, 11, 9, .rw, 0, 6, 36⟩
def PIDA_DONM : Fld := ⟨0x48, 0x40, 8, 8, .rw, 0, 6, 36⟩
def PIDA_DIV : Fld := ⟨0x48, 0x40, 6, 0, .rw, 0x1, 6, 36⟩

/-- The fields of the PIDA page. -/
def PIDA_fields : List Fld :=
  [PIDA_KP, PIDA_KI, PIDA_KD, PIDA_TF, PIDA_OUTMIN, PIDA_OUTMAX, PIDA_IMIN, PIDA_IMAX, PIDA_FFSEL, PIDA_DONM, PIDA_DIV]

/-! ### PIDB -/
def PIDB_KP : Fld := ⟨0x49, 0x20, 31, 0, .rw, 0, 6, 36⟩
def PIDB_KI : Fld := ⟨0x49, 0x24, 31, 0, .rw, 0, 6, 36⟩
def PIDB_KD : Fld := ⟨0x49, 0x28, 31, 0, .rw, 0, 6, 36⟩
def PIDB_TF : Fld := ⟨0x49, 0x2C, 31, 0, .rw, 0, 6, 36⟩
def PIDB_OUTMIN : Fld := ⟨0x49, 0x30, 31, 0, .rw, 0, 6, 36⟩
def PIDB_OUTMAX : Fld := ⟨0x49, 0x34, 31, 0, .rw, 0, 6, 36⟩
def PIDB_IMIN : Fld := ⟨0x49, 0x38, 31, 0, .rw, 0, 6, 36⟩
def PIDB_IMAX : Fld := ⟨0x49, 0x3C, 31, 0, .rw, 0, 6, 36⟩
def PIDB_FFSEL : Fld := ⟨0x49, 0x40, 11, 9, .rw, 0, 6, 36⟩
def PIDB_DONM : Fld := ⟨0x49, 0x40, 8, 8, .rw, 0, 6, 36⟩
def PIDB_DIV : Fld := ⟨0x49, 0x40, 6, 0, .rw, 0x1, 6, 36⟩

/-- The fields of the PIDB page. -/
def PIDB_fields : List Fld :=
  [PIDB_KP, PIDB_KI, PIDB_KD, PIDB_TF, PIDB_OUTMIN, PIDB_OUTMAX, PIDB_IMIN, PIDB_IMAX, PIDB_FFSEL, PIDB_DONM, PIDB_DIV]

/-! ### OBS -/
def OBS_CTRL_PC_CLR : Fld := ⟨0x4A, 0x08, 1, 1, .sc, 0, 1, 4⟩
def OBS_CTRL_RESEED : Fld := ⟨0x4A, 0x08, 0, 0, .sc, 0, 1, 4⟩
def OBS_STATUS_EST_STATE : Fld := ⟨0x4A, 0x0C, 13, 12, .ro, 0, 1, 4⟩
def OBS_STATUS_TIMED_OUT : Fld := ⟨0x4A, 0x0C, 11, 11, .ro, 0, 1, 4⟩
def OBS_STATUS_LOAD_LIMIT : Fld := ⟨0x4A, 0x0C, 10, 10, .ro, 0, 1, 4⟩
def OBS_STATUS_INJECTING : Fld := ⟨0x4A, 0x0C, 9, 9, .ro, 0, 1, 4⟩
def OBS_STATUS_POL_FLIPPED : Fld := ⟨0x4A, 0x0C, 8, 8, .ro, 0, 1, 4⟩
def OBS_STATUS_POL_KNOWN : Fld := ⟨0x4A, 0x0C, 7, 7, .ro, 0, 1, 4⟩
def OBS_STATUS_MASK : Fld := ⟨0x4A, 0x0C, 6, 6, .ro, 0, 1, 4⟩
def OBS_STATUS_HFI_STATE : Fld := ⟨0x4A, 0x0C, 5, 4, .ro, 0x3, 1, 4⟩
def OBS_STATUS_OBS_STATE : Fld := ⟨0x4A, 0x0C, 1, 0, .ro, 0x3, 1, 4⟩
def OBS_IRQ_LOAD_LIMIT : Fld := ⟨0x4A, 0x10, 5, 5, .w1c, 0, 1, 4⟩
def OBS_IRQ_POL_DONE : Fld := ⟨0x4A, 0x10, 4, 4, .w1c, 0, 1, 4⟩
def OBS_IRQ_HFI_CONV : Fld := ⟨0x4A, 0x10, 3, 3, .w1c, 0, 1, 4⟩
def OBS_IRQ_LOST : Fld := ⟨0x4A, 0x10, 2, 2, .w1c, 0, 1, 4⟩
def OBS_IRQ_CONVERGED : Fld := ⟨0x4A, 0x10, 1, 1, .w1c, 0, 1, 4⟩
def OBS_IRQ_SAPLING : Fld := ⟨0x4A, 0x10, 0, 0, .w1c, 0, 1, 4⟩
def OBS_FAULT_OBS_POL_FAIL : Fld := ⟨0x4A, 0x18, 7, 7, .w1c, 0, 1, 4⟩
def OBS_FAULT_OBS_VBUS : Fld := ⟨0x4A, 0x18, 6, 6, .w1c, 0, 1, 4⟩
def OBS_FAULT_OBS_INDEX : Fld := ⟨0x4A, 0x18, 5, 5, .w1c, 0, 1, 4⟩
def OBS_FAULT_OBS_HALL : Fld := ⟨0x4A, 0x18, 4, 4, .w1c, 0, 1, 4⟩
def OBS_FAULT_OBS_SPEED : Fld := ⟨0x4A, 0x18, 3, 3, .w1c, 0, 1, 4⟩
def OBS_FAULT_OBS_ANGLE : Fld := ⟨0x4A, 0x18, 2, 2, .w1c, 0, 1, 4⟩
def OBS_FAULT_OBS_RES : Fld := ⟨0x4A, 0x18, 1, 1, .w1c, 0, 1, 4⟩
def OBS_FAULT_OBS_NOCONV : Fld := ⟨0x4A, 0x18, 0, 0, .w1c, 0, 1, 4⟩
def OBS_CFG_SPD_N : Fld := ⟨0x4A, 0x20, 31, 24, .rwc, 0x10, 1, 4⟩
def OBS_CFG_CHK_EN : Fld := ⟨0x4A, 0x20, 13, 8, .rwc, 0x3f, 1, 4⟩
def OBS_CFG_POL_EN : Fld := ⟨0x4A, 0x20, 2, 2, .rwc, 0x1, 1, 4⟩
def OBS_CFG_TERM_V : Fld := ⟨0x4A, 0x20, 1, 1, .rwc, 0x1, 1, 4⟩
def OBS_CFG_SHADOW : Fld := ⟨0x4A, 0x20, 0, 0, .rwc, 0, 1, 4⟩
def OBS_CONV_TIMEOUT : Fld := ⟨0x4A, 0x24, 31, 20, .rwc, 0x1f4, 1, 4⟩
def OBS_CONV_CONV_N : Fld := ⟨0x4A, 0x24, 15, 8, .rwc, 0x20, 1, 4⟩
def OBS_CONV_LOSS_N : Fld := ⟨0x4A, 0x24, 7, 0, .rwc, 0x10, 1, 4⟩
def OBS_BLEND_T : Fld := ⟨0x4A, 0x28, 15, 0, .rwc, 0x3e8, 1, 4⟩
def OBS_ANG_LOSS_ERR : Fld := ⟨0x4A, 0x2C, 31, 24, .rwc, 0x3c, 1, 4⟩
def OBS_ANG_CONV_ERR : Fld := ⟨0x4A, 0x2C, 23, 16, .rwc, 0xa, 1, 4⟩
def OBS_ANG_XANG_MAX : Fld := ⟨0x4A, 0x2C, 7, 0, .rwc, 0x28, 1, 4⟩
def OBS_OBS_BW : Fld := ⟨0x4A, 0x30, 31, 0, .rwc, 0x44fa0000, 1, 4⟩
def OBS_PLL_BW : Fld := ⟨0x4A, 0x34, 31, 0, .rwc, 0x42c80000, 1, 4⟩
def OBS_RES_TF : Fld := ⟨0x4A, 0x38, 31, 16, .rwc, 0x14, 1, 4⟩
def OBS_SPD_TF : Fld := ⟨0x4A, 0x38, 15, 0, .rwc, 0xa, 1, 4⟩
def OBS_EMF_MIN : Fld := ⟨0x4A, 0x3C, 31, 0, .rwc, 0x3f800000, 1, 4⟩
def OBS_RS : Fld := ⟨0x4A, 0x40, 31, 0, .rwc, 0, 1, 4⟩
def OBS_RES_MAX : Fld := ⟨0x4A, 0x44, 31, 0, .rwc, 0x40000000, 1, 4⟩
def OBS_SPD_ABS : Fld := ⟨0x4A, 0x48, 31, 0, .rwc, 0x42480000, 1, 4⟩
def OBS_SPD_REL : Fld := ⟨0x4A, 0x4C, 31, 0, .rwc, 0x3dcccccd, 1, 4⟩
def OBS_VBX_MAX : Fld := ⟨0x4A, 0x50, 31, 0, .rwc, 0x40a00000, 1, 4⟩
def OBS_VBX_REL : Fld := ⟨0x4A, 0x54, 15, 8, .rwc, 0xa, 1, 4⟩
def OBS_REF : Fld := ⟨0x4A, 0x54, 2, 0, .rwc, 0, 1, 4⟩
def OBS_PCA : Fld := ⟨0x4A, 0x58, 31, 0, .rwc, 0x19414141, 1, 4⟩
def OBS_PCB : Fld := ⟨0x4A, 0x5C, 15, 0, .rwc, 0x8111, 1, 4⟩
def OBS_POL_TRIES : Fld := ⟨0x4A, 0x60, 27, 24, .rwc, 0x3, 1, 4⟩
def OBS_POL_MIN : Fld := ⟨0x4A, 0x60, 23, 16, .rwc, 0xa, 1, 4⟩
def OBS_POL_T : Fld := ⟨0x4A, 0x60, 15, 8, .rwc, 0x14, 1, 4⟩
def OBS_HALF : Fld := ⟨0x4A, 0x60, 7, 0, .rwc, 0x1, 1, 4⟩
def OBS_HFI_V : Fld := ⟨0x4A, 0x64, 31, 0, .rwc, 0x40a00000, 1, 4⟩
def OBS_POL_I : Fld := ⟨0x4A, 0x68, 31, 0, .rwc, 0x40a00000, 1, 4⟩
def OBS_HFI_OMAX : Fld := ⟨0x4A, 0x6C, 31, 0, .rwc, 0x43480000, 1, 4⟩
def OBS_PCNT_A_C : Fld := ⟨0x4A, 0x70, 31, 0, .ro, 0, 1, 4⟩
def OBS_PCNT_B_C : Fld := ⟨0x4A, 0x74, 15, 0, .ro, 0, 1, 4⟩
def OBS_CONV_TIME_MS : Fld := ⟨0x4A, 0x78, 15, 0, .ro, 0, 1, 4⟩

/-- The fields of the OBS page. -/
def OBS_fields : List Fld :=
  [OBS_CTRL_PC_CLR, OBS_CTRL_RESEED, OBS_STATUS_EST_STATE, OBS_STATUS_TIMED_OUT, OBS_STATUS_LOAD_LIMIT, OBS_STATUS_INJECTING, OBS_STATUS_POL_FLIPPED, OBS_STATUS_POL_KNOWN, OBS_STATUS_MASK, OBS_STATUS_HFI_STATE, OBS_STATUS_OBS_STATE, OBS_IRQ_LOAD_LIMIT, OBS_IRQ_POL_DONE, OBS_IRQ_HFI_CONV, OBS_IRQ_LOST, OBS_IRQ_CONVERGED, OBS_IRQ_SAPLING, OBS_FAULT_OBS_POL_FAIL, OBS_FAULT_OBS_VBUS, OBS_FAULT_OBS_INDEX, OBS_FAULT_OBS_HALL, OBS_FAULT_OBS_SPEED, OBS_FAULT_OBS_ANGLE, OBS_FAULT_OBS_RES, OBS_FAULT_OBS_NOCONV, OBS_CFG_SPD_N, OBS_CFG_CHK_EN, OBS_CFG_POL_EN, OBS_CFG_TERM_V, OBS_CFG_SHADOW] ++
  [OBS_CONV_TIMEOUT, OBS_CONV_CONV_N, OBS_CONV_LOSS_N, OBS_BLEND_T, OBS_ANG_LOSS_ERR, OBS_ANG_CONV_ERR, OBS_ANG_XANG_MAX, OBS_OBS_BW, OBS_PLL_BW, OBS_RES_TF, OBS_SPD_TF, OBS_EMF_MIN, OBS_RS, OBS_RES_MAX, OBS_SPD_ABS, OBS_SPD_REL, OBS_VBX_MAX, OBS_VBX_REL, OBS_REF, OBS_PCA, OBS_PCB, OBS_POL_TRIES, OBS_POL_MIN, OBS_POL_T, OBS_HALF, OBS_HFI_V, OBS_POL_I, OBS_HFI_OMAX, OBS_PCNT_A_C, OBS_PCNT_B_C] ++
  [OBS_CONV_TIME_MS]

/-! ### SPT -/
def SPT_CTRL_POS_ACK : Fld := ⟨0x4B, 0x08, 1, 1, .sc, 0, 1, 4⟩
def SPT_CTRL_ALLOW_STEP : Fld := ⟨0x4B, 0x08, 0, 0, .rw, 0, 1, 4⟩
def SPT_STATUS_BRK_PHASE : Fld := ⟨0x4B, 0x0C, 15, 12, .ro, 0, 1, 4⟩
def SPT_STATUS_SU_PHASE : Fld := ⟨0x4B, 0x0C, 11, 8, .ro, 0, 1, 4⟩
def SPT_STATUS_HOMING : Fld := ⟨0x4B, 0x0C, 3, 3, .ro, 0, 1, 4⟩
def SPT_STATUS_POS_VALID : Fld := ⟨0x4B, 0x0C, 2, 2, .ro, 0, 1, 4⟩
def SPT_STATUS_REVERSING : Fld := ⟨0x4B, 0x0C, 1, 1, .ro, 0, 1, 4⟩
def SPT_STATUS_LIMITED : Fld := ⟨0x4B, 0x0C, 0, 0, .ro, 0, 1, 4⟩
def SPT_IRQ_SU_DONE : Fld := ⟨0x4B, 0x10, 6, 6, .w1c, 0, 1, 4⟩
def SPT_IRQ_HOME_EVENT : Fld := ⟨0x4B, 0x10, 5, 5, .w1c, 0, 1, 4⟩
def SPT_IRQ_CATCH_FALLBACK : Fld := ⟨0x4B, 0x10, 4, 4, .w1c, 0, 1, 4⟩
def SPT_IRQ_STOP_TIMEOUT : Fld := ⟨0x4B, 0x10, 3, 3, .w1c, 0, 1, 4⟩
def SPT_IRQ_POS_LOST : Fld := ⟨0x4B, 0x10, 2, 2, .w1c, 0, 1, 4⟩
def SPT_IRQ_TGT_REJ : Fld := ⟨0x4B, 0x10, 1, 1, .w1c, 0, 1, 4⟩
def SPT_IRQ_REACHED : Fld := ⟨0x4B, 0x10, 0, 0, .w1c, 0, 1, 4⟩
def SPT_FAULT_SU_FAIL : Fld := ⟨0x4B, 0x18, 5, 0, .w1c, 0, 1, 4⟩
def SPT_TGT : Fld := ⟨0x4B, 0x20, 31, 0, .rw, 0, 1, 4⟩
def SPT_PTGT_TURNS : Fld := ⟨0x4B, 0x24, 31, 0, .rw, 0, 1, 4⟩
def SPT_PTGT_FRAC : Fld := ⟨0x4B, 0x28, 15, 0, .rw, 0, 1, 4⟩
def SPT_ACC : Fld := ⟨0x4B, 0x2C, 31, 0, .rwc, 0x447a0000, 1, 4⟩
def SPT_DEC : Fld := ⟨0x4B, 0x30, 31, 0, .rwc, 0x447a0000, 1, 4⟩
def SPT_JERK : Fld := ⟨0x4B, 0x34, 31, 0, .rwc, 0x47c35000, 1, 4⟩
def SPT_VMAX : Fld := ⟨0x4B, 0x38, 31, 0, .rwc, 0x447a0000, 1, 4⟩
def SPT_OUT : Fld := ⟨0x4B, 0x3C, 31, 0, .ro, 0, 1, 4⟩
def SPT_OUT_ACC : Fld := ⟨0x4B, 0x40, 31, 0, .ro, 0, 1, 4⟩
def SPT_OPOS_TURNS : Fld := ⟨0x4B, 0x44, 31, 0, .ro, 0, 1, 4⟩
def SPT_OPOS_FRAC : Fld := ⟨0x4B, 0x48, 15, 0, .ro, 0, 1, 4⟩
def SPT_MPOS_TURNS : Fld := ⟨0x4B, 0x4C, 31, 0, .ro, 0, 1, 4⟩
def SPT_MPOS_FRAC : Fld := ⟨0x4B, 0x50, 15, 0, .ro, 0, 1, 4⟩
def SPT_SU_TMAX : Fld := ⟨0x4B, 0x54, 31, 20, .rwc, 0x7d0, 1, 4⟩
def SPT_SU_RAMP : Fld := ⟨0x4B, 0x54, 15, 8, .rwc, 0x14, 1, 4⟩
def SPT_SU_ALIGN_T : Fld := ⟨0x4B, 0x54, 7, 0, .rwc, 0x64, 1, 4⟩
def SPT_ALIGN_I : Fld := ⟨0x4B, 0x58, 31, 0, .rwc, 0x40a00000, 1, 4⟩
def SPT_ALIGN_ANG : Fld := ⟨0x4B, 0x5C, 15, 0, .rwc, 0, 1, 4⟩
def SPT_AOFS_VALID : Fld := ⟨0x4B, 0x60, 31, 31, .ro, 0, 1, 4⟩
def SPT_AOFS_ALIGN_OFS : Fld := ⟨0x4B, 0x60, 15, 0, .ro, 0, 1, 4⟩
def SPT_IF_I : Fld := ⟨0x4B, 0x64, 31, 0, .rwc, 0x40a00000, 1, 4⟩
def SPT_IF_ACC : Fld := ⟨0x4B, 0x68, 31, 0, .rwc, 0x43fa0000, 1, 4⟩
def SPT_IF_WEND : Fld := ⟨0x4B, 0x6C, 31, 0, .rwc, 0x43960000, 1, 4⟩
def SPT_HFI_WHO : Fld := ⟨0x4B, 0x70, 31, 0, .rwc, 0x43160000, 1, 4⟩
def SPT_CATCH_FALLBACK : Fld := ⟨0x4B, 0x74, 10, 8, .rwc, 0x1, 1, 4⟩
def SPT_CATCH_T : Fld := ⟨0x4B, 0x74, 7, 0, .rwc, 0x32, 1, 4⟩
def SPT_CATCH_WMIN : Fld := ⟨0x4B, 0x78, 31, 0, .rwc, 0x42480000, 1, 4⟩
def SPT_STOP_W : Fld := ⟨0x4B, 0x7C, 31, 0, .rwc, 0x41200000, 1, 4⟩
def SPT_STOP_TMAX : Fld := ⟨0x4B, 0x80, 31, 20, .rwc, 0xfa0, 1, 4⟩
def SPT_STOP_N : Fld := ⟨0x4B, 0x80, 15, 8, .rwc, 0x10, 1, 4⟩
def SPT_DCI_I : Fld := ⟨0x4B, 0x84, 31, 0, .rwc, 0x40a00000, 1, 4⟩
def SPT_DCI_T : Fld := ⟨0x4B, 0x88, 15, 0, .rwc, 0x1f4, 1, 4⟩
def SPT_ASC_WMAX : Fld := ⟨0x4B, 0x8C, 31, 0, .rwc, 0x447a0000, 1, 4⟩
def SPT_REGEN_IQ : Fld := ⟨0x4B, 0x90, 31, 0, .rwc, 0x40a00000, 1, 4⟩
def SPT_HOME_TMAX : Fld := ⟨0x4B, 0x94, 31, 20, .rw, 0x3e8, 1, 4⟩
def SPT_HOME_LVL : Fld := ⟨0x4B, 0x94, 11, 11, .rw, 0, 1, 4⟩
def SPT_HOME_PIN : Fld := ⟨0x4B, 0x94, 10, 8, .rw, 0, 1, 4⟩
def SPT_HOME_SECTOR : Fld := ⟨0x4B, 0x94, 6, 4, .rw, 0x1, 1, 4⟩
def SPT_HOME_EVENT : Fld := ⟨0x4B, 0x94, 2, 0, .rw, 0, 1, 4⟩
def SPT_HOME_W : Fld := ⟨0x4B, 0x98, 31, 0, .rw, 0, 1, 4⟩
def SPT_HOME_I : Fld := ⟨0x4B, 0x9C, 31, 0, .rw, 0x40a00000, 1, 4⟩
def SPT_HOME_POS_TURNS : Fld := ⟨0x4B, 0xA0, 31, 0, .rw, 0, 1, 4⟩
def SPT_HOME_POS_FRAC : Fld := ⟨0x4B, 0xA4, 15, 0, .rw, 0, 1, 4⟩
def SPT_HOME_EVT_TURNS : Fld := ⟨0x4B, 0xA8, 31, 0, .ro, 0, 1, 4⟩
def SPT_HOME_EVT_FRAC : Fld := ⟨0x4B, 0xAC, 15, 0, .ro, 0, 1, 4⟩

/-- The fields of the SPT page. -/
def SPT_fields : List Fld :=
  [SPT_CTRL_POS_ACK, SPT_CTRL_ALLOW_STEP, SPT_STATUS_BRK_PHASE, SPT_STATUS_SU_PHASE, SPT_STATUS_HOMING, SPT_STATUS_POS_VALID, SPT_STATUS_REVERSING, SPT_STATUS_LIMITED, SPT_IRQ_SU_DONE, SPT_IRQ_HOME_EVENT, SPT_IRQ_CATCH_FALLBACK, SPT_IRQ_STOP_TIMEOUT, SPT_IRQ_POS_LOST, SPT_IRQ_TGT_REJ, SPT_IRQ_REACHED, SPT_FAULT_SU_FAIL, SPT_TGT, SPT_PTGT_TURNS, SPT_PTGT_FRAC, SPT_ACC, SPT_DEC, SPT_JERK, SPT_VMAX, SPT_OUT, SPT_OUT_ACC, SPT_OPOS_TURNS, SPT_OPOS_FRAC, SPT_MPOS_TURNS, SPT_MPOS_FRAC, SPT_SU_TMAX] ++
  [SPT_SU_RAMP, SPT_SU_ALIGN_T, SPT_ALIGN_I, SPT_ALIGN_ANG, SPT_AOFS_VALID, SPT_AOFS_ALIGN_OFS, SPT_IF_I, SPT_IF_ACC, SPT_IF_WEND, SPT_HFI_WHO, SPT_CATCH_FALLBACK, SPT_CATCH_T, SPT_CATCH_WMIN, SPT_STOP_W, SPT_STOP_TMAX, SPT_STOP_N, SPT_DCI_I, SPT_DCI_T, SPT_ASC_WMAX, SPT_REGEN_IQ, SPT_HOME_TMAX, SPT_HOME_LVL, SPT_HOME_PIN, SPT_HOME_SECTOR, SPT_HOME_EVENT, SPT_HOME_W, SPT_HOME_I, SPT_HOME_POS_TURNS, SPT_HOME_POS_FRAC, SPT_HOME_EVT_TURNS] ++
  [SPT_HOME_EVT_FRAC]

/-! ### GRV -/
def GRV_CTRL_CNT_CLR : Fld := ⟨0x4C, 0x08, 9, 9, .sc, 0, 1, 4⟩
def GRV_CTRL_HOST_EV : Fld := ⟨0x4C, 0x08, 8, 8, .sc, 0, 1, 4⟩
def GRV_CTRL_LOAD_ROM : Fld := ⟨0x4C, 0x08, 4, 4, .sc, 0, 1, 4⟩
def GRV_CTRL_VERIFY : Fld := ⟨0x4C, 0x08, 3, 3, .sc, 0, 1, 4⟩
def GRV_CTRL_RESET : Fld := ⟨0x4C, 0x08, 2, 2, .sc, 0, 1, 4⟩
def GRV_CTRL_STOP : Fld := ⟨0x4C, 0x08, 1, 1, .sc, 0, 1, 4⟩
def GRV_CTRL_START : Fld := ⟨0x4C, 0x08, 0, 0, .sc, 0, 1, 4⟩
def GRV_STATUS_PC : Fld := ⟨0x4C, 0x0C, 29, 16, .ro, 0, 1, 4⟩
def GRV_STATUS_ROM_ID : Fld := ⟨0x4C, 0x0C, 15, 8, .ro, 0, 1, 4⟩
def GRV_STATUS_WDT_ARMED : Fld := ⟨0x4C, 0x0C, 6, 6, .ro, 0, 1, 4⟩
def GRV_STATUS_SIGREQ : Fld := ⟨0x4C, 0x0C, 5, 5, .ro, 0, 1, 4⟩
def GRV_STATUS_IMG : Fld := ⟨0x4C, 0x0C, 4, 3, .ro, 0, 1, 4⟩
def GRV_STATUS_DBG_HALT : Fld := ⟨0x4C, 0x0C, 2, 2, .ro, 0, 1, 4⟩
def GRV_STATUS_CORE : Fld := ⟨0x4C, 0x0C, 1, 0, .ro, 0, 1, 4⟩
def GRV_IRQ_PROG : Fld := ⟨0x4C, 0x10, 23, 16, .w1c, 0, 1, 4⟩
def GRV_IRQ_CMD_IGNORED : Fld := ⟨0x4C, 0x10, 7, 7, .w1c, 0, 1, 4⟩
def GRV_IRQ_PRAM_DENIED : Fld := ⟨0x4C, 0x10, 6, 6, .w1c, 0, 1, 4⟩
def GRV_IRQ_LOAD_DONE : Fld := ⟨0x4C, 0x10, 5, 5, .w1c, 0, 1, 4⟩
def GRV_IRQ_VERIFY_DONE : Fld := ⟨0x4C, 0x10, 4, 4, .w1c, 0, 1, 4⟩
def GRV_IRQ_OVERRUN : Fld := ⟨0x4C, 0x10, 3, 3, .w1c, 0, 1, 4⟩
def GRV_IRQ_EXC : Fld := ⟨0x4C, 0x10, 2, 2, .w1c, 0, 1, 4⟩
def GRV_IRQ_STOPPED : Fld := ⟨0x4C, 0x10, 1, 1, .w1c, 0, 1, 4⟩
def GRV_IRQ_STARTED : Fld := ⟨0x4C, 0x10, 0, 0, .w1c, 0, 1, 4⟩
def GRV_FAULT_GRV_OVERRUN : Fld := ⟨0x4C, 0x18, 2, 2, .w1c, 0, 1, 4⟩
def GRV_FAULT_GRV_WDT : Fld := ⟨0x4C, 0x18, 1, 1, .w1c, 0, 1, 4⟩
def GRV_FAULT_GRV_EXC : Fld := ⟨0x4C, 0x18, 0, 0, .w1c, 0, 1, 4⟩
def GRV_CFG_OVR_FAULT : Fld := ⟨0x4C, 0x20, 16, 16, .rw, 0, 1, 4⟩
def GRV_CFG_ENTRY : Fld := ⟨0x4C, 0x20, 13, 0, .rw, 0, 1, 4⟩
def GRV_ROM_ID : Fld := ⟨0x4C, 0x24, 7, 0, .rw, 0, 1, 4⟩
def GRV_WDT_EN : Fld := ⟨0x4C, 0x28, 31, 31, .rwl, 0, 1, 4⟩
def GRV_WDT_WMAX : Fld := ⟨0x4C, 0x28, 29, 16, .rwl, 0x64, 1, 4⟩
def GRV_WDT_WMIN : Fld := ⟨0x4C, 0x28, 13, 0, .rwl, 0, 1, 4⟩
def GRV_IMG_CAUSE : Fld := ⟨0x4C, 0x2C, 31, 28, .ro, 0, 1, 4⟩
def GRV_IMG_LEN : Fld := ⟨0x4C, 0x2C, 13, 0, .rw, 0, 1, 4⟩
def GRV_EXC_VALID : Fld := ⟨0x4C, 0x30, 31, 31, .w1c, 0, 1, 4⟩
def GRV_EXC_CAUSE : Fld := ⟨0x4C, 0x30, 27, 24, .ro, 0, 1, 4⟩
def GRV_EXC_PC : Fld := ⟨0x4C, 0x30, 13, 0, .ro, 0, 1, 4⟩
def GRV_EVT_PEND : Fld := ⟨0x4C, 0x34, 15, 0, .ro, 0, 1, 4⟩
def GRV_PERF_BUSY_MAX : Fld := ⟨0x4C, 0x38, 31, 16, .ro, 0, 1, 4⟩
def GRV_PERF_OVR : Fld := ⟨0x4C, 0x38, 15, 0, .ro, 0, 1, 4⟩
def GRV_FULL : Fld := ⟨0x4C, 0x3C, 3, 0, .w1c, 0, 1, 4⟩
def GRV_MBOX_HDR_SRC : Fld := ⟨0x4C, 0x40, 25, 16, .ro, 0, 4, 4⟩
def GRV_MBOX_HDR_LEN : Fld := ⟨0x4C, 0x40, 8, 0, .ro, 0, 4, 4⟩
def GRV_SET : Fld := ⟨0x4C, 0x50, 7, 0, .wo, 0, 1, 4⟩

/-- The fields of the GRV page. -/
def GRV_fields : List Fld :=
  [GRV_CTRL_CNT_CLR, GRV_CTRL_HOST_EV, GRV_CTRL_LOAD_ROM, GRV_CTRL_VERIFY, GRV_CTRL_RESET, GRV_CTRL_STOP, GRV_CTRL_START, GRV_STATUS_PC, GRV_STATUS_ROM_ID, GRV_STATUS_WDT_ARMED, GRV_STATUS_SIGREQ, GRV_STATUS_IMG, GRV_STATUS_DBG_HALT, GRV_STATUS_CORE, GRV_IRQ_PROG, GRV_IRQ_CMD_IGNORED, GRV_IRQ_PRAM_DENIED, GRV_IRQ_LOAD_DONE, GRV_IRQ_VERIFY_DONE, GRV_IRQ_OVERRUN, GRV_IRQ_EXC, GRV_IRQ_STOPPED, GRV_IRQ_STARTED, GRV_FAULT_GRV_OVERRUN, GRV_FAULT_GRV_WDT, GRV_FAULT_GRV_EXC, GRV_CFG_OVR_FAULT, GRV_CFG_ENTRY, GRV_ROM_ID, GRV_WDT_EN] ++
  [GRV_WDT_WMAX, GRV_WDT_WMIN, GRV_IMG_CAUSE, GRV_IMG_LEN, GRV_EXC_VALID, GRV_EXC_CAUSE, GRV_EXC_PC, GRV_EVT_PEND, GRV_PERF_BUSY_MAX, GRV_PERF_OVR, GRV_FULL, GRV_MBOX_HDR_SRC, GRV_MBOX_HDR_LEN, GRV_SET]

/-! ### TRC -/
def TRC_CTRL_END : Fld := ⟨0x4D, 0x08, 1, 1, .sc, 0, 1, 4⟩
def TRC_CTRL_FORCE : Fld := ⟨0x4D, 0x08, 0, 0, .sc, 0, 1, 4⟩
def TRC_STATUS_PRE_SHORT : Fld := ⟨0x4D, 0x0C, 4, 4, .ro, 0, 1, 4⟩
def TRC_STATUS_TRIGGERED : Fld := ⟨0x4D, 0x0C, 3, 3, .ro, 0, 1, 4⟩
def TRC_STATUS_WRAPPED : Fld := ⟨0x4D, 0x0C, 2, 2, .ro, 0, 1, 4⟩
def TRC_STATUS_STREAMING : Fld := ⟨0x4D, 0x0C, 1, 1, .ro, 0, 1, 4⟩
def TRC_STATUS_ACTIVE : Fld := ⟨0x4D, 0x0C, 0, 0, .ro, 0, 1, 4⟩
def TRC_IRQ_CFG_DENIED : Fld := ⟨0x4D, 0x10, 3, 3, .w1c, 0, 1, 4⟩
def TRC_IRQ_STREAM_DROP : Fld := ⟨0x4D, 0x10, 2, 2, .w1c, 0, 1, 4⟩
def TRC_IRQ_DONE : Fld := ⟨0x4D, 0x10, 1, 1, .w1c, 0, 1, 4⟩
def TRC_IRQ_TRIG : Fld := ⟨0x4D, 0x10, 0, 0, .w1c, 0, 1, 4⟩
def TRC_CFG_DEC : Fld := ⟨0x4D, 0x20, 31, 24, .rw, 0, 1, 4⟩
def TRC_CFG_DST : Fld := ⟨0x4D, 0x20, 17, 16, .rw, 0, 1, 4⟩
def TRC_CFG_MODE : Fld := ⟨0x4D, 0x20, 8, 8, .rw, 0, 1, 4⟩
def TRC_CFG_NPROBE : Fld := ⟨0x4D, 0x20, 2, 0, .rw, 0, 1, 4⟩
def TRC_PROBE0_3_NODE : Fld := ⟨0x4D, 0x24, 31, 0, .rw, 0, 1, 4⟩
def TRC_PROBE4_7_NODE : Fld := ⟨0x4D, 0x28, 31, 0, .rw, 0, 1, 4⟩
def TRC_TRIG_SRC : Fld := ⟨0x4D, 0x2C, 31, 28, .rw, 0, 1, 4⟩
def TRC_TRIG_COND : Fld := ⟨0x4D, 0x2C, 27, 26, .rw, 0, 1, 4⟩
def TRC_TRIG_FMT : Fld := ⟨0x4D, 0x2C, 25, 25, .rw, 0, 1, 4⟩
def TRC_TRIG_XOUT : Fld := ⟨0x4D, 0x2C, 24, 24, .rw, 0, 1, 4⟩
def TRC_TRIG_PIN : Fld := ⟨0x4D, 0x2C, 18, 16, .rw, 0, 1, 4⟩
def TRC_TRIG_STATE : Fld := ⟨0x4D, 0x2C, 11, 8, .rw, 0, 1, 4⟩
def TRC_TRIG_TNODE : Fld := ⟨0x4D, 0x2C, 7, 0, .rw, 0, 1, 4⟩
def TRC_LEVEL : Fld := ⟨0x4D, 0x30, 31, 0, .rw, 0, 1, 4⟩
def TRC_CAP_PRE : Fld := ⟨0x4D, 0x34, 29, 16, .rw, 0, 1, 4⟩
def TRC_CAP_POST : Fld := ⟨0x4D, 0x34, 13, 0, .rw, 0x1, 1, 4⟩
def TRC_WPTR_WRAPS : Fld := ⟨0x4D, 0x38, 31, 16, .ro, 0, 1, 4⟩
def TRC_WPTR_WORD : Fld := ⟨0x4D, 0x38, 13, 0, .ro, 0, 1, 4⟩
def TRC_FIRST : Fld := ⟨0x4D, 0x3C, 13, 0, .ro, 0, 1, 4⟩
def TRC_TREC_VALID : Fld := ⟨0x4D, 0x40, 31, 31, .ro, 0, 1, 4⟩
def TRC_TREC_TRIG_REC : Fld := ⟨0x4D, 0x40, 13, 0, .ro, 0, 1, 4⟩
def TRC_TRIG_TIME : Fld := ⟨0x4D, 0x44, 31, 0, .ro, 0, 1, 4⟩
def TRC_RECORDS : Fld := ⟨0x4D, 0x48, 31, 0, .ro, 0, 1, 4⟩
def TRC_DROP : Fld := ⟨0x4D, 0x4C, 15, 0, .ro, 0, 1, 4⟩

/-- The fields of the TRC page. -/
def TRC_fields : List Fld :=
  [TRC_CTRL_END, TRC_CTRL_FORCE, TRC_STATUS_PRE_SHORT, TRC_STATUS_TRIGGERED, TRC_STATUS_WRAPPED, TRC_STATUS_STREAMING, TRC_STATUS_ACTIVE, TRC_IRQ_CFG_DENIED, TRC_IRQ_STREAM_DROP, TRC_IRQ_DONE, TRC_IRQ_TRIG, TRC_CFG_DEC, TRC_CFG_DST, TRC_CFG_MODE, TRC_CFG_NPROBE, TRC_PROBE0_3_NODE, TRC_PROBE4_7_NODE, TRC_TRIG_SRC, TRC_TRIG_COND, TRC_TRIG_FMT, TRC_TRIG_XOUT, TRC_TRIG_PIN, TRC_TRIG_STATE, TRC_TRIG_TNODE, TRC_LEVEL, TRC_CAP_PRE, TRC_CAP_POST, TRC_WPTR_WRAPS, TRC_WPTR_WORD, TRC_FIRST] ++
  [TRC_TREC_VALID, TRC_TREC_TRIG_REC, TRC_TRIG_TIME, TRC_RECORDS, TRC_DROP]

/-! ### DIAG -/
def DIAG_STATUS_STEP : Fld := ⟨0x4E, 0x0C, 7, 4, .ro, 0, 1, 4⟩
def DIAG_STATUS_BUSY : Fld := ⟨0x4E, 0x0C, 0, 0, .ro, 0, 1, 4⟩
def DIAG_CFG_LMIN : Fld := ⟨0x4E, 0x20, 31, 24, .rw, 0x5, 1, 4⟩
def DIAG_CFG_IMIN : Fld := ⟨0x4E, 0x20, 23, 16, .rw, 0x5, 1, 4⟩
def DIAG_CFG_PULSE_T : Fld := ⟨0x4E, 0x20, 15, 8, .rw, 0x14, 1, 4⟩
def DIAG_CFG_GC_TARGET : Fld := ⟨0x4E, 0x20, 7, 0, .rw, 0x14, 1, 4⟩
def DIAG_RESULT_VALID : Fld := ⟨0x4E, 0x24, 31, 31, .ro, 0, 1, 4⟩
def DIAG_RESULT_CHAN : Fld := ⟨0x4E, 0x24, 25, 24, .ro, 0, 1, 4⟩
def DIAG_RESULT_PAIRS : Fld := ⟨0x4E, 0x24, 21, 16, .ro, 0, 1, 4⟩
def DIAG_RESULT_OPEN : Fld := ⟨0x4E, 0x24, 10, 8, .ro, 0, 1, 4⟩
def DIAG_RESULT_SHORT_GND : Fld := ⟨0x4E, 0x24, 6, 4, .ro, 0, 1, 4⟩
def DIAG_RESULT_SHORT_SUP : Fld := ⟨0x4E, 0x24, 2, 0, .ro, 0, 1, 4⟩
def DIAG_L_AB_L : Fld := ⟨0x4E, 0x28, 31, 0, .ro, 0, 1, 4⟩
def DIAG_L_BC_L : Fld := ⟨0x4E, 0x2C, 31, 0, .ro, 0, 1, 4⟩
def DIAG_L_CA_L : Fld := ⟨0x4E, 0x30, 31, 0, .ro, 0, 1, 4⟩
def DIAG_GC_HS_PROP_SNK : Fld := ⟨0x4E, 0x34, 31, 28, .ro, 0, 1, 4⟩
def DIAG_GC_LS_PROP_SNK : Fld := ⟨0x4E, 0x38, 31, 28, .ro, 0, 1, 4⟩
def DIAG_GC_HS_PROP_SRC : Fld := ⟨0x4E, 0x34, 27, 24, .ro, 0, 1, 4⟩
def DIAG_GC_LS_PROP_SRC : Fld := ⟨0x4E, 0x38, 27, 24, .ro, 0, 1, 4⟩
def DIAG_GC_HS_T_OFF : Fld := ⟨0x4E, 0x34, 23, 12, .ro, 0, 1, 4⟩
def DIAG_GC_LS_T_OFF : Fld := ⟨0x4E, 0x38, 23, 12, .ro, 0, 1, 4⟩
def DIAG_GC_HS_T_ON : Fld := ⟨0x4E, 0x34, 11, 0, .ro, 0, 1, 4⟩
def DIAG_GC_LS_T_ON : Fld := ⟨0x4E, 0x38, 11, 0, .ro, 0, 1, 4⟩
def DIAG_TESTI_SNK_EN : Fld := ⟨0x4E, 0x3C, 6, 4, .rw, 0, 1, 4⟩
def DIAG_TESTI_SRC_EN : Fld := ⟨0x4E, 0x3C, 2, 0, .rw, 0, 1, 4⟩

/-- The fields of the DIAG page. -/
def DIAG_fields : List Fld :=
  [DIAG_STATUS_STEP, DIAG_STATUS_BUSY, DIAG_CFG_LMIN, DIAG_CFG_IMIN, DIAG_CFG_PULSE_T, DIAG_CFG_GC_TARGET, DIAG_RESULT_VALID, DIAG_RESULT_CHAN, DIAG_RESULT_PAIRS, DIAG_RESULT_OPEN, DIAG_RESULT_SHORT_GND, DIAG_RESULT_SHORT_SUP, DIAG_L_AB_L, DIAG_L_BC_L, DIAG_L_CA_L, DIAG_GC_HS_PROP_SNK, DIAG_GC_LS_PROP_SNK, DIAG_GC_HS_PROP_SRC, DIAG_GC_LS_PROP_SRC, DIAG_GC_HS_T_OFF, DIAG_GC_LS_T_OFF, DIAG_GC_HS_T_ON, DIAG_GC_LS_T_ON, DIAG_TESTI_SNK_EN, DIAG_TESTI_SRC_EN]

/-! ### GANG -/
def GANG_STATUS_MISS_RUN : Fld := ⟨0x4F, 0x0C, 15, 12, .ro, 0, 1, 4⟩
def GANG_STATUS_REF_OK : Fld := ⟨0x4F, 0x0C, 8, 8, .ro, 0, 1, 4⟩
def GANG_STATUS_SSTATE : Fld := ⟨0x4F, 0x0C, 1, 0, .ro, 0, 1, 4⟩
def GANG_IRQ_JOIN_FAIL : Fld := ⟨0x4F, 0x10, 3, 3, .w1c, 0, 1, 4⟩
def GANG_IRQ_MISS : Fld := ⟨0x4F, 0x10, 2, 2, .w1c, 0, 1, 4⟩
def GANG_IRQ_UNFORMED : Fld := ⟨0x4F, 0x10, 1, 1, .w1c, 0, 1, 4⟩
def GANG_IRQ_FORMED : Fld := ⟨0x4F, 0x10, 0, 0, .w1c, 0, 1, 4⟩
def GANG_FAULT_STAND_SLOT_MISS : Fld := ⟨0x4F, 0x18, 1, 1, .w1c, 0, 1, 4⟩
def GANG_FAULT_STAND_REF_LOSS : Fld := ⟨0x4F, 0x18, 0, 0, .w1c, 0, 1, 4⟩
def GANG_CFG_STAND_ID : Fld := ⟨0x4F, 0x20, 31, 24, .rwc, 0, 1, 4⟩
def GANG_CFG_INDEX : Fld := ⟨0x4F, 0x20, 23, 20, .rwc, 0, 1, 4⟩
def GANG_CFG_KIND : Fld := ⟨0x4F, 0x20, 19, 19, .rwc, 0, 1, 4⟩
def GANG_CFG_LCH : Fld := ⟨0x4F, 0x20, 17, 16, .rwc, 0, 1, 4⟩
def GANG_CFG_LEADER : Fld := ⟨0x4F, 0x20, 9, 0, .rwc, 0x3ff, 1, 4⟩
def GANG_SET_ANG : Fld := ⟨0x4F, 0x24, 15, 0, .rwc, 0, 1, 4⟩
def GANG_MBR_EN : Fld := ⟨0x4F, 0x28, 31, 31, .rwc, 0, 16, 4⟩
def GANG_MBR_SHARE : Fld := ⟨0x4F, 0x28, 30, 24, .rwc, 0x1, 16, 4⟩
def GANG_MBR_CH : Fld := ⟨0x4F, 0x28, 17, 16, .rwc, 0, 16, 4⟩
def GANG_MBR_NODE : Fld := ⟨0x4F, 0x28, 9, 0, .rwc, 0, 16, 4⟩
def GANG_MARGIN : Fld := ⟨0x4F, 0x68, 15, 0, .ro, 0, 1, 4⟩
def GANG_PHI : Fld := ⟨0x4F, 0x6C, 17, 0, .ro, 0, 1, 4⟩
def GANG_CNT_MISSED : Fld := ⟨0x4F, 0x70, 31, 16, .ro, 0, 1, 4⟩
def GANG_CNT_LATE : Fld := ⟨0x4F, 0x70, 15, 0, .ro, 0, 1, 4⟩
def GANG_JOINED : Fld := ⟨0x4F, 0x74, 15, 0, .ro, 0, 1, 4⟩

/-- The fields of the GANG page. -/
def GANG_fields : List Fld :=
  [GANG_STATUS_MISS_RUN, GANG_STATUS_REF_OK, GANG_STATUS_SSTATE, GANG_IRQ_JOIN_FAIL, GANG_IRQ_MISS, GANG_IRQ_UNFORMED, GANG_IRQ_FORMED, GANG_FAULT_STAND_SLOT_MISS, GANG_FAULT_STAND_REF_LOSS, GANG_CFG_STAND_ID, GANG_CFG_INDEX, GANG_CFG_KIND, GANG_CFG_LCH, GANG_CFG_LEADER, GANG_SET_ANG, GANG_MBR_EN, GANG_MBR_SHARE, GANG_MBR_CH, GANG_MBR_NODE, GANG_MARGIN, GANG_PHI, GANG_CNT_MISSED, GANG_CNT_LATE, GANG_JOINED]

end Sys2Proof.Machine.R
end

