-- ==== Sys2Proof/Machine/RegDev.lean ====
section
/-! DEFINITION. The field tables of the device pages 0x00 to 0x0F (R98-R106, R126, R234, R235, R330, R342, R381-R383, R509). Each line gives the page of instance 0, the offset, the bits, the access code and the reset value as the
table of spec/ gives them; a field whose reset the table leaves to OTP or to the boot stands at 0 until the Lodge writes it (log 2). -/

namespace Sys2Proof.Machine.R

/-! ### SYS -/
def SYS_CTRL_KEY : Fld := ⟨0x00, 0x08, 31, 24, .wo, 0, 1, 4⟩
def SYS_CTRL_DEVRST : Fld := ⟨0x00, 0x08, 0, 0, .sc, 0, 1, 4⟩
def SYS_STATUS_TEST : Fld := ⟨0x00, 0x0C, 3, 3, .ro, 0, 1, 4⟩
def SYS_STATUS_DEBUG_OPEN : Fld := ⟨0x00, 0x0C, 2, 2, .ro, 0, 1, 4⟩
def SYS_STATUS_REF_FALLBACK : Fld := ⟨0x00, 0x0C, 1, 1, .ro, 0, 1, 4⟩
def SYS_STATUS_BOOT_DONE : Fld := ⟨0x00, 0x0C, 0, 0, .ro, 0, 1, 4⟩
def SYS_IRQ_BUSERR : Fld := ⟨0x00, 0x10, 1, 1, .w1c, 0, 1, 4⟩
def SYS_IRQ_BOOT_DONE : Fld := ⟨0x00, 0x10, 0, 0, .w1c, 0, 1, 4⟩
def SYS_FAULT_BOOT_TIMEOUT : Fld := ⟨0x00, 0x18, 0, 0, .w1c, 0, 1, 4⟩
def SYS_PART_PORTS : Fld := ⟨0x00, 0x20, 23, 20, .ro, 0xf, 1, 4⟩
def SYS_PART_CHANNELS : Fld := ⟨0x00, 0x20, 19, 16, .ro, 0xf, 1, 4⟩
def SYS_PART_REV : Fld := ⟨0x00, 0x20, 15, 8, .ro, 0xb0, 1, 4⟩
def SYS_PART_VARIANT : Fld := ⟨0x00, 0x20, 7, 0, .ro, 0x48, 1, 4⟩
def SYS_UID_LO_UID : Fld := ⟨0x00, 0x24, 31, 0, .ro, 0, 1, 4⟩
def SYS_UID_HI_UID : Fld := ⟨0x00, 0x28, 31, 0, .ro, 0, 1, 4⟩
def SYS_STRAP_CFG : Fld := ⟨0x00, 0x2C, 3, 0, .ro, 0, 1, 4⟩
def SYS_RESET_CAUSE_WAKE : Fld := ⟨0x00, 0x30, 10, 10, .ro, 0, 1, 4⟩
def SYS_RESET_CAUSE_RNG_CCLK : Fld := ⟨0x00, 0x30, 9, 9, .ro, 0, 1, 4⟩
def SYS_RESET_CAUSE_RNG_SYSPLL : Fld := ⟨0x00, 0x30, 8, 8, .ro, 0, 1, 4⟩
def SYS_RESET_CAUSE_RNG_LODGE : Fld := ⟨0x00, 0x30, 7, 7, .ro, 0, 1, 4⟩
def SYS_RESET_CAUSE_SOFT : Fld := ⟨0x00, 0x30, 6, 6, .ro, 0, 1, 4⟩
def SYS_RESET_CAUSE_PIN : Fld := ⟨0x00, 0x30, 5, 5, .ro, 0, 1, 4⟩
def SYS_RESET_CAUSE_BOR : Fld := ⟨0x00, 0x30, 4, 1, .ro, 0, 1, 4⟩
def SYS_RESET_CAUSE_POR : Fld := ⟨0x00, 0x30, 0, 0, .ro, 0x1, 1, 4⟩
def SYS_WAKE_SRC_FIRST : Fld := ⟨0x00, 0x34, 11, 8, .ro, 0, 1, 4⟩
def SYS_WAKE_SRC_LINK : Fld := ⟨0x00, 0x34, 7, 4, .ro, 0, 1, 4⟩
def SYS_WAKE_SRC_CAN : Fld := ⟨0x00, 0x34, 2, 2, .ro, 0, 1, 4⟩
def SYS_WAKE_SRC_HSPI : Fld := ⟨0x00, 0x34, 1, 1, .ro, 0, 1, 4⟩
def SYS_WAKE_SRC_PIN : Fld := ⟨0x00, 0x34, 0, 0, .ro, 0, 1, 4⟩
def SYS_BOOT_STEP : Fld := ⟨0x00, 0x38, 4, 0, .ro, 0, 1, 4⟩
def SYS_BOOT_LATE_LATE : Fld := ⟨0x00, 0x3C, 16, 0, .ro, 0, 1, 4⟩
def SYS_BUSERR_VALID : Fld := ⟨0x00, 0x40, 31, 31, .w1c, 0, 1, 4⟩
def SYS_BUSERR_KIND : Fld := ⟨0x00, 0x40, 30, 28, .ro, 0, 1, 4⟩
def SYS_BUSERR_MASTER : Fld := ⟨0x00, 0x40, 27, 24, .ro, 0, 1, 4⟩
def SYS_BUSERR_ADDR : Fld := ⟨0x00, 0x40, 23, 0, .ro, 0, 1, 4⟩
def SYS_IRQSUM_DEV_PEND : Fld := ⟨0x00, 0x44, 31, 0, .ro, 0, 1, 4⟩
def SYS_IRQSUM_CH01_PEND : Fld := ⟨0x00, 0x48, 31, 0, .ro, 0, 1, 4⟩
def SYS_IRQSUM_CH23_PEND : Fld := ⟨0x00, 0x4C, 31, 0, .ro, 0, 1, 4⟩
def SYS_SCRATCH_DATA : Fld := ⟨0x00, 0x50, 31, 0, .rw, 0, 1, 4⟩

/-- The fields of the SYS page. -/
def SYS_fields : List Fld :=
  [SYS_CTRL_KEY, SYS_CTRL_DEVRST, SYS_STATUS_TEST, SYS_STATUS_DEBUG_OPEN, SYS_STATUS_REF_FALLBACK, SYS_STATUS_BOOT_DONE, SYS_IRQ_BUSERR, SYS_IRQ_BOOT_DONE, SYS_FAULT_BOOT_TIMEOUT, SYS_PART_PORTS, SYS_PART_CHANNELS, SYS_PART_REV, SYS_PART_VARIANT, SYS_UID_LO_UID, SYS_UID_HI_UID, SYS_STRAP_CFG, SYS_RESET_CAUSE_WAKE, SYS_RESET_CAUSE_RNG_CCLK, SYS_RESET_CAUSE_RNG_SYSPLL, SYS_RESET_CAUSE_RNG_LODGE, SYS_RESET_CAUSE_SOFT, SYS_RESET_CAUSE_PIN, SYS_RESET_CAUSE_BOR, SYS_RESET_CAUSE_POR, SYS_WAKE_SRC_FIRST, SYS_WAKE_SRC_LINK, SYS_WAKE_SRC_CAN, SYS_WAKE_SRC_HSPI, SYS_WAKE_SRC_PIN, SYS_BOOT_STEP] ++
  [SYS_BOOT_LATE_LATE, SYS_BUSERR_VALID, SYS_BUSERR_KIND, SYS_BUSERR_MASTER, SYS_BUSERR_ADDR, SYS_IRQSUM_DEV_PEND, SYS_IRQSUM_CH01_PEND, SYS_IRQSUM_CH23_PEND, SYS_SCRATCH_DATA]

/-! ### CLK -/
def CLK_STATUS_BUCK_CCLK : Fld := ⟨0x01, 0x0C, 6, 6, .ro, 0, 1, 4⟩
def CLK_STATUS_PWMPLL_RC : Fld := ⟨0x01, 0x0C, 5, 5, .ro, 0, 1, 4⟩
def CLK_STATUS_SYSPLL_RC : Fld := ⟨0x01, 0x0C, 4, 4, .ro, 0, 1, 4⟩
def CLK_STATUS_LINKPLL_LOCK : Fld := ⟨0x01, 0x0C, 3, 3, .ro, 0, 1, 4⟩
def CLK_STATUS_PWMPLL_LOCK : Fld := ⟨0x01, 0x0C, 2, 2, .ro, 0, 1, 4⟩
def CLK_STATUS_SYSPLL_LOCK : Fld := ⟨0x01, 0x0C, 1, 1, .ro, 0, 1, 4⟩
def CLK_STATUS_REF_GOOD : Fld := ⟨0x01, 0x0C, 0, 0, .ro, 0, 1, 4⟩
def CLK_IRQ_MON : Fld := ⟨0x01, 0x10, 4, 4, .w1c, 0, 1, 4⟩
def CLK_IRQ_LINKPLL_LOST : Fld := ⟨0x01, 0x10, 3, 3, .w1c, 0, 1, 4⟩
def CLK_IRQ_PWMPLL_LOST : Fld := ⟨0x01, 0x10, 2, 2, .w1c, 0, 1, 4⟩
def CLK_FAULT_CLKMON : Fld := ⟨0x01, 0x18, 8, 3, .w1c, 0, 1, 4⟩
def CLK_FAULT_CLK_LINK_UNLOCK : Fld := ⟨0x01, 0x18, 2, 2, .w1c, 0, 1, 4⟩
def CLK_FAULT_CLK_PWM_UNLOCK : Fld := ⟨0x01, 0x18, 1, 1, .w1c, 0, 1, 4⟩
def CLK_FAULT_CLK_REF_FAIL : Fld := ⟨0x01, 0x18, 0, 0, .w1c, 0, 1, 4⟩
def CLK_MONCNT_ACTIVE : Fld := ⟨0x01, 0x20, 17, 17, .ro, 0, 8, 4⟩
def CLK_MONCNT_OUT : Fld := ⟨0x01, 0x20, 16, 16, .ro, 0, 8, 4⟩
def CLK_MONCNT_COUNT : Fld := ⟨0x01, 0x20, 15, 0, .ro, 0, 8, 4⟩

/-- The fields of the CLK page. -/
def CLK_fields : List Fld :=
  [CLK_STATUS_BUCK_CCLK, CLK_STATUS_PWMPLL_RC, CLK_STATUS_SYSPLL_RC, CLK_STATUS_LINKPLL_LOCK, CLK_STATUS_PWMPLL_LOCK, CLK_STATUS_SYSPLL_LOCK, CLK_STATUS_REF_GOOD, CLK_IRQ_MON, CLK_IRQ_LINKPLL_LOST, CLK_IRQ_PWMPLL_LOST, CLK_FAULT_CLKMON, CLK_FAULT_CLK_LINK_UNLOCK, CLK_FAULT_CLK_PWM_UNLOCK, CLK_FAULT_CLK_REF_FAIL, CLK_MONCNT_ACTIVE, CLK_MONCNT_OUT, CLK_MONCNT_COUNT]

/-! ### PWR -/
def PWR_CTRL_KEY : Fld := ⟨0x02, 0x08, 31, 24, .wo, 0, 1, 4⟩
def PWR_CTRL_STANDBY : Fld := ⟨0x02, 0x08, 0, 0, .sc, 0, 1, 4⟩
def PWR_STATUS_BUSY : Fld := ⟨0x02, 0x0C, 6, 6, .ro, 0, 1, 4⟩
def PWR_STATUS_VDRV_REG_ON : Fld := ⟨0x02, 0x0C, 5, 5, .ro, 0x1, 1, 4⟩
def PWR_STATUS_GOOD : Fld := ⟨0x02, 0x0C, 4, 0, .ro, 0, 1, 4⟩
def PWR_IRQ_STANDBY_ABORT : Fld := ⟨0x02, 0x10, 2, 2, .w1c, 0, 1, 4⟩
def PWR_IRQ_REFUSED : Fld := ⟨0x02, 0x10, 1, 1, .w1c, 0, 1, 4⟩
def PWR_IRQ_DOM_DONE : Fld := ⟨0x02, 0x10, 0, 0, .w1c, 0, 1, 4⟩
def PWR_FAULT_DOM_FAIL : Fld := ⟨0x02, 0x18, 0, 0, .w1c, 0, 1, 4⟩
def PWR_DOM_ON_REQ : Fld := ⟨0x02, 0x20, 7, 0, .sc, 0, 1, 4⟩
def PWR_DOM_OFF_REQ : Fld := ⟨0x02, 0x24, 7, 0, .sc, 0, 1, 4⟩
def PWR_DOM_STATE_BUSY : Fld := ⟨0x02, 0x28, 15, 8, .ro, 0, 1, 4⟩
def PWR_DOM_STATE_ON : Fld := ⟨0x02, 0x28, 7, 0, .ro, 0, 1, 4⟩
def PWR_REFUSE_VALID : Fld := ⟨0x02, 0x2C, 31, 31, .w1c, 0, 1, 4⟩
def PWR_REFUSE_DIR : Fld := ⟨0x02, 0x2C, 12, 12, .ro, 0, 1, 4⟩
def PWR_REFUSE_TARGET : Fld := ⟨0x02, 0x2C, 11, 8, .ro, 0, 1, 4⟩
def PWR_REFUSE_CAUSE : Fld := ⟨0x02, 0x2C, 7, 0, .ro, 0, 1, 4⟩
def PWR_WAKE_EN_LINK : Fld := ⟨0x02, 0x30, 7, 4, .rwl, 0, 1, 4⟩
def PWR_WAKE_EN_CAN : Fld := ⟨0x02, 0x30, 2, 2, .rwl, 0, 1, 4⟩
def PWR_WAKE_EN_HSPI : Fld := ⟨0x02, 0x30, 1, 1, .rwl, 0, 1, 4⟩
def PWR_WAKE_EN_PIN : Fld := ⟨0x02, 0x30, 0, 0, .rwl, 0, 1, 4⟩
def PWR_REG_VDRV_EXT : Fld := ⟨0x02, 0x34, 1, 1, .ro, 0, 1, 4⟩
def PWR_REG_VDRV_REG_EN : Fld := ⟨0x02, 0x34, 0, 0, .rwl, 0x1, 1, 4⟩

/-- The fields of the PWR page. -/
def PWR_fields : List Fld :=
  [PWR_CTRL_KEY, PWR_CTRL_STANDBY, PWR_STATUS_BUSY, PWR_STATUS_VDRV_REG_ON, PWR_STATUS_GOOD, PWR_IRQ_STANDBY_ABORT, PWR_IRQ_REFUSED, PWR_IRQ_DOM_DONE, PWR_FAULT_DOM_FAIL, PWR_DOM_ON_REQ, PWR_DOM_OFF_REQ, PWR_DOM_STATE_BUSY, PWR_DOM_STATE_ON, PWR_REFUSE_VALID, PWR_REFUSE_DIR, PWR_REFUSE_TARGET, PWR_REFUSE_CAUSE, PWR_WAKE_EN_LINK, PWR_WAKE_EN_CAN, PWR_WAKE_EN_HSPI, PWR_WAKE_EN_PIN, PWR_REG_VDRV_EXT, PWR_REG_VDRV_REG_EN]

/-! ### OTP -/
def OTP_CTRL_PATCH_CLR : Fld := ⟨0x03, 0x08, 2, 2, .sc, 0, 1, 4⟩
def OTP_CTRL_PATCH_APPLY : Fld := ⟨0x03, 0x08, 1, 1, .sc, 0, 1, 4⟩
def OTP_CTRL_VERIFY_NOW : Fld := ⟨0x03, 0x08, 0, 0, .sc, 0, 1, 4⟩
def OTP_STATUS_DBANK : Fld := ⟨0x03, 0x0C, 18, 17, .ro, 0, 1, 4⟩
def OTP_STATUS_PASS_BUSY : Fld := ⟨0x03, 0x0C, 16, 16, .ro, 0, 1, 4⟩
def OTP_STATUS_REGION : Fld := ⟨0x03, 0x0C, 14, 0, .ro, 0, 1, 4⟩
def OTP_IRQ_PATCH_DONE : Fld := ⟨0x03, 0x10, 2, 2, .w1c, 0, 1, 4⟩
def OTP_IRQ_PASS_DONE : Fld := ⟨0x03, 0x10, 1, 1, .w1c, 0, 1, 4⟩
def OTP_IRQ_MARGIN : Fld := ⟨0x03, 0x10, 0, 0, .w1c, 0, 1, 4⟩
def OTP_FAULT_OTP_MARGIN : Fld := ⟨0x03, 0x18, 0, 0, .w1c, 0, 1, 4⟩
def OTP_REGION_STATE : Fld := ⟨0x03, 0x20, 31, 29, .ro, 0, 5, 4⟩
def OTP_REGION_LOCKC : Fld := ⟨0x03, 0x20, 28, 26, .ro, 0, 5, 4⟩
def OTP_REGION_REC : Fld := ⟨0x03, 0x20, 25, 25, .ro, 0, 5, 4⟩
def OTP_REGION_ROWF : Fld := ⟨0x03, 0x20, 24, 24, .ro, 0, 5, 4⟩
def OTP_REGION_LEN : Fld := ⟨0x03, 0x20, 12, 0, .ro, 0, 5, 4⟩
def OTP_CRIT_VALID : Fld := ⟨0x03, 0x34, 31, 31, .ro, 0, 1, 4⟩
def OTP_CRIT_DIRECT : Fld := ⟨0x03, 0x34, 24, 24, .ro, 0, 1, 4⟩
def OTP_CRIT_VAL : Fld := ⟨0x03, 0x34, 23, 0, .ro, 0, 1, 4⟩
def OTP_REDIR_BAD : Fld := ⟨0x03, 0x38, 15, 8, .ro, 0, 1, 4⟩
def OTP_REDIR_USED : Fld := ⟨0x03, 0x38, 7, 0, .ro, 0, 1, 4⟩
def OTP_ROWFAIL_VALID : Fld := ⟨0x03, 0x3C, 31, 31, .ro, 0, 1, 4⟩
def OTP_ROWFAIL_COUNT : Fld := ⟨0x03, 0x3C, 23, 16, .ro, 0, 1, 4⟩
def OTP_ROWFAIL_ROW : Fld := ⟨0x03, 0x3C, 8, 0, .ro, 0, 1, 4⟩
def OTP_MARGIN_VALID : Fld := ⟨0x03, 0x40, 31, 31, .w1c, 0, 1, 4⟩
def OTP_MARGIN_COUNT : Fld := ⟨0x03, 0x40, 23, 16, .ro, 0, 1, 4⟩
def OTP_MARGIN_REF : Fld := ⟨0x03, 0x40, 9, 9, .ro, 0, 1, 4⟩
def OTP_MARGIN_ROW : Fld := ⟨0x03, 0x40, 8, 0, .ro, 0, 1, 4⟩
def OTP_PATCH_IDX_IDX : Fld := ⟨0x03, 0x44, 12, 0, .rw, 0, 1, 4⟩
def OTP_PATCH_DATA_DATA : Fld := ⟨0x03, 0x48, 31, 0, .wo, 0, 1, 4⟩
def OTP_PATCH_LEN_LEN : Fld := ⟨0x03, 0x4C, 12, 0, .rw, 0, 1, 4⟩
def OTP_PATCH_STAT_CAUSE : Fld := ⟨0x03, 0x50, 31, 28, .ro, 0, 1, 4⟩
def OTP_PATCH_STAT_STATE : Fld := ⟨0x03, 0x50, 2, 0, .ro, 0, 1, 4⟩

/-- The fields of the OTP page. -/
def OTP_fields : List Fld :=
  [OTP_CTRL_PATCH_CLR, OTP_CTRL_PATCH_APPLY, OTP_CTRL_VERIFY_NOW, OTP_STATUS_DBANK, OTP_STATUS_PASS_BUSY, OTP_STATUS_REGION, OTP_IRQ_PATCH_DONE, OTP_IRQ_PASS_DONE, OTP_IRQ_MARGIN, OTP_FAULT_OTP_MARGIN, OTP_REGION_STATE, OTP_REGION_LOCKC, OTP_REGION_REC, OTP_REGION_ROWF, OTP_REGION_LEN, OTP_CRIT_VALID, OTP_CRIT_DIRECT, OTP_CRIT_VAL, OTP_REDIR_BAD, OTP_REDIR_USED, OTP_ROWFAIL_VALID, OTP_ROWFAIL_COUNT, OTP_ROWFAIL_ROW, OTP_MARGIN_VALID, OTP_MARGIN_COUNT, OTP_MARGIN_REF, OTP_MARGIN_ROW, OTP_PATCH_IDX_IDX, OTP_PATCH_DATA_DATA, OTP_PATCH_LEN_LEN] ++
  [OTP_PATCH_STAT_CAUSE, OTP_PATCH_STAT_STATE]

/-! ### FLT -/
def FLT_CTRL_CLR_LATCHED : Fld := ⟨0x04, 0x08, 8, 8, .sc, 0, 1, 4⟩
def FLT_CTRL_PINCLASS : Fld := ⟨0x04, 0x08, 2, 0, .rwl, 0x2, 1, 4⟩
def FLT_STATUS_ACTIVE : Fld := ⟨0x04, 0x0C, 24, 16, .ro, 0, 1, 4⟩
def FLT_STATUS_HALT : Fld := ⟨0x04, 0x0C, 5, 5, .ro, 0, 1, 4⟩
def FLT_STATUS_PIN : Fld := ⟨0x04, 0x0C, 4, 4, .ro, 0, 1, 4⟩
def FLT_STATUS_MAXCLASS : Fld := ⟨0x04, 0x0C, 2, 0, .ro, 0x7, 1, 4⟩
def FLT_IRQ_CFG_DENIED : Fld := ⟨0x04, 0x10, 4, 4, .w1c, 0, 1, 4⟩
def FLT_IRQ_ESCALATED : Fld := ⟨0x04, 0x10, 3, 3, .w1c, 0, 1, 4⟩
def FLT_IRQ_ENDED : Fld := ⟨0x04, 0x10, 2, 2, .w1c, 0, 1, 4⟩
def FLT_IRQ_LATCHED : Fld := ⟨0x04, 0x10, 1, 1, .w1c, 0, 1, 4⟩
def FLT_IRQ_RAISED : Fld := ⟨0x04, 0x10, 0, 0, .w1c, 0, 1, 4⟩
def FLT_MAXCLASS_DEV : Fld := ⟨0x04, 0x20, 18, 16, .ro, 0x7, 1, 4⟩
def FLT_MAXCLASS_CH : Fld := ⟨0x04, 0x20, 15, 0, .ro, 0x7777, 1, 4⟩
def FLT_HALT_RX_RX : Fld := ⟨0x04, 0x24, 7, 0, .rwl, 0, 1, 4⟩
def FLT_FIRST_VALID : Fld := ⟨0x04, 0x28, 31, 31, .w1c, 0, 1, 4⟩
def FLT_FIRST_CLASS : Fld := ⟨0x04, 0x28, 11, 9, .ro, 0, 1, 4⟩
def FLT_FIRST_INDEX : Fld := ⟨0x04, 0x28, 8, 0, .ro, 0, 1, 4⟩
def FLT_FIRST_TIME_TIME : Fld := ⟨0x04, 0x2C, 31, 0, .ro, 0, 1, 4⟩
def FLT_LAST_CLASS : Fld := ⟨0x04, 0x30, 11, 9, .ro, 0, 1, 4⟩
def FLT_LAST_INDEX : Fld := ⟨0x04, 0x30, 8, 0, .ro, 0, 1, 4⟩
def FLT_ACTIVE_ACT : Fld := ⟨0x04, 0x34, 31, 0, .ro, 0, 10, 4⟩

/-- The fields of the FLT page. -/
def FLT_fields : List Fld :=
  [FLT_CTRL_CLR_LATCHED, FLT_CTRL_PINCLASS, FLT_STATUS_ACTIVE, FLT_STATUS_HALT, FLT_STATUS_PIN, FLT_STATUS_MAXCLASS, FLT_IRQ_CFG_DENIED, FLT_IRQ_ESCALATED, FLT_IRQ_ENDED, FLT_IRQ_LATCHED, FLT_IRQ_RAISED, FLT_MAXCLASS_DEV, FLT_MAXCLASS_CH, FLT_HALT_RX_RX, FLT_FIRST_VALID, FLT_FIRST_CLASS, FLT_FIRST_INDEX, FLT_FIRST_TIME_TIME, FLT_LAST_CLASS, FLT_LAST_INDEX, FLT_ACTIVE_ACT]

/-! ### FLTS -/
def FLTS_CTRL_EVT_CLR : Fld := ⟨0x05, 0x08, 2, 2, .sc, 0, 1, 4⟩
def FLTS_CTRL_RECOV_CLR : Fld := ⟨0x05, 0x08, 1, 1, .sc, 0, 1, 4⟩
def FLTS_CTRL_CLEAR : Fld := ⟨0x05, 0x08, 0, 0, .sc, 0, 1, 4⟩
def FLTS_STATUS_CLR_DENIED : Fld := ⟨0x05, 0x0C, 12, 12, .ro, 0, 1, 4⟩
def FLTS_STATUS_TRIES : Fld := ⟨0x05, 0x0C, 11, 8, .ro, 0, 1, 4⟩
def FLTS_STATUS_COND : Fld := ⟨0x05, 0x0C, 4, 4, .ro, 0, 1, 4⟩
def FLTS_STATUS_STATE : Fld := ⟨0x05, 0x0C, 2, 0, .ro, 0, 1, 4⟩
def FLTS_SEL_INDEX : Fld := ⟨0x05, 0x20, 8, 0, .rw, 0, 1, 4⟩
def FLTS_CFG_RETRY_MAX : Fld := ⟨0x05, 0x24, 11, 8, .rwl, 0, 1, 4⟩
def FLTS_CFG_REACT : Fld := ⟨0x05, 0x24, 7, 4, .rwl, 0, 1, 4⟩
def FLTS_CFG_CLASS : Fld := ⟨0x05, 0x24, 2, 0, .rwl, 0, 1, 4⟩
def FLTS_TIME_WINDOW : Fld := ⟨0x05, 0x28, 23, 16, .rwl, 0, 1, 4⟩
def FLTS_TIME_QUIET : Fld := ⟨0x05, 0x28, 15, 8, .rwl, 0, 1, 4⟩
def FLTS_TIME_WAIT : Fld := ⟨0x05, 0x28, 7, 0, .rwl, 0, 1, 4⟩
def FLTS_INFO_OTP : Fld := ⟨0x05, 0x2C, 2, 2, .ro, 0, 1, 4⟩
def FLTS_INFO_EVENT : Fld := ⟨0x05, 0x2C, 1, 1, .ro, 0, 1, 4⟩
def FLTS_INFO_FIXED : Fld := ⟨0x05, 0x2C, 0, 0, .ro, 0, 1, 4⟩
def FLTS_RECOV : Fld := ⟨0x05, 0x30, 31, 0, .ro, 0, 1, 4⟩
def FLTS_EVENTS : Fld := ⟨0x05, 0x34, 15, 0, .ro, 0, 1, 4⟩

/-- The fields of the FLTS page. -/
def FLTS_fields : List Fld :=
  [FLTS_CTRL_EVT_CLR, FLTS_CTRL_RECOV_CLR, FLTS_CTRL_CLEAR, FLTS_STATUS_CLR_DENIED, FLTS_STATUS_TRIES, FLTS_STATUS_COND, FLTS_STATUS_STATE, FLTS_SEL_INDEX, FLTS_CFG_RETRY_MAX, FLTS_CFG_REACT, FLTS_CFG_CLASS, FLTS_TIME_WINDOW, FLTS_TIME_QUIET, FLTS_TIME_WAIT, FLTS_INFO_OTP, FLTS_INFO_EVENT, FLTS_INFO_FIXED, FLTS_RECOV, FLTS_EVENTS]

/-! ### SUP -/
def SUP_CTRL_STEST_NOW : Fld := ⟨0x06, 0x08, 1, 1, .sc, 0, 1, 4⟩
def SUP_CTRL_RECAP : Fld := ⟨0x06, 0x08, 0, 0, .sc, 0, 1, 4⟩
def SUP_STATUS_SCAN_BUSY : Fld := ⟨0x06, 0x0C, 6, 6, .ro, 0, 1, 4⟩
def SUP_STATUS_LOCKSTEP_OK : Fld := ⟨0x06, 0x0C, 5, 5, .ro, 0, 1, 4⟩
def SUP_STATUS_POST_OK : Fld := ⟨0x06, 0x0C, 4, 4, .ro, 0, 1, 4⟩
def SUP_STATUS_SAFE_REQ : Fld := ⟨0x06, 0x0C, 3, 0, .ro, 0, 1, 4⟩
def SUP_IRQ_SAFE : Fld := ⟨0x06, 0x10, 2, 2, .w1c, 0, 1, 4⟩
def SUP_IRQ_STEST_REQ : Fld := ⟨0x06, 0x10, 1, 1, .w1c, 0, 1, 4⟩
def SUP_IRQ_SCAN_DONE : Fld := ⟨0x06, 0x10, 0, 0, .w1c, 0, 1, 4⟩
def SUP_FAULT_SUP_SAFE : Fld := ⟨0x06, 0x18, 27, 24, .w1c, 0, 1, 4⟩
def SUP_FAULT_SUP_STEST_DUE : Fld := ⟨0x06, 0x18, 12, 12, .w1c, 0, 1, 4⟩
def SUP_FAULT_ECC_CORR_RATE : Fld := ⟨0x06, 0x18, 11, 11, .w1c, 0, 1, 4⟩
def SUP_FAULT_ECC_UNCORR : Fld := ⟨0x06, 0x18, 10, 10, .w1c, 0, 1, 4⟩
def SUP_FAULT_SUP_V : Fld := ⟨0x06, 0x18, 9, 4, .w1c, 0, 1, 4⟩
def SUP_FAULT_SUP_CFGCRC : Fld := ⟨0x06, 0x18, 3, 3, .w1c, 0, 1, 4⟩
def SUP_FAULT_SUP_LODGE : Fld := ⟨0x06, 0x18, 1, 1, .w1c, 0, 1, 4⟩
def SUP_FAULT_SUP_LOCKSTEP : Fld := ⟨0x06, 0x18, 0, 0, .w1c, 0, 1, 4⟩
def SUP_SAFEPAT_PAT : Fld := ⟨0x06, 0x20, 7, 0, .ro, 0, 1, 4⟩
def SUP_SAFE_CAUSE_CAUSE : Fld := ⟨0x06, 0x24, 31, 0, .ro, 0, 1, 4⟩
def SUP_SCAN_SEL_SEL : Fld := ⟨0x06, 0x28, 31, 0, .rwl, 0, 3, 4⟩
def SUP_SCAN_CFG_PERIOD : Fld := ⟨0x06, 0x34, 7, 0, .rwl, 0xa, 1, 4⟩
def SUP_SCAN_ERR_VALID : Fld := ⟨0x06, 0x38, 31, 31, .w1c, 0, 1, 4⟩
def SUP_SCAN_ERR_PAGE : Fld := ⟨0x06, 0x38, 7, 0, .ro, 0, 1, 4⟩
def SUP_VSUP_V : Fld := ⟨0x06, 0x3C, 31, 0, .ro, 0, 1, 4⟩
def SUP_STEST_DUE : Fld := ⟨0x06, 0x40, 11, 8, .ro, 0, 1, 4⟩
def SUP_STEST_PERIOD : Fld := ⟨0x06, 0x40, 7, 0, .rwl, 0, 1, 4⟩
def SUP_ECC_SEL_SEL : Fld := ⟨0x06, 0x44, 4, 0, .rw, 0, 1, 4⟩
def SUP_ECC_CNT_UNCORR : Fld := ⟨0x06, 0x48, 31, 16, .ro, 0, 1, 4⟩
def SUP_ECC_CNT_CORR : Fld := ⟨0x06, 0x48, 15, 0, .ro, 0, 1, 4⟩
def SUP_ECC_ADDR_ADDR : Fld := ⟨0x06, 0x4C, 23, 0, .ro, 0, 1, 4⟩
def SUP_ECC_LIM_LIM : Fld := ⟨0x06, 0x50, 15, 0, .rwl, 0x64, 1, 4⟩

/-- The fields of the SUP page. -/
def SUP_fields : List Fld :=
  [SUP_CTRL_STEST_NOW, SUP_CTRL_RECAP, SUP_STATUS_SCAN_BUSY, SUP_STATUS_LOCKSTEP_OK, SUP_STATUS_POST_OK, SUP_STATUS_SAFE_REQ, SUP_IRQ_SAFE, SUP_IRQ_STEST_REQ, SUP_IRQ_SCAN_DONE, SUP_FAULT_SUP_SAFE, SUP_FAULT_SUP_STEST_DUE, SUP_FAULT_ECC_CORR_RATE, SUP_FAULT_ECC_UNCORR, SUP_FAULT_SUP_V, SUP_FAULT_SUP_CFGCRC, SUP_FAULT_SUP_LODGE, SUP_FAULT_SUP_LOCKSTEP, SUP_SAFEPAT_PAT, SUP_SAFE_CAUSE_CAUSE, SUP_SCAN_SEL_SEL, SUP_SCAN_CFG_PERIOD, SUP_SCAN_ERR_VALID, SUP_SCAN_ERR_PAGE, SUP_VSUP_V, SUP_STEST_DUE, SUP_STEST_PERIOD, SUP_ECC_SEL_SEL, SUP_ECC_CNT_UNCORR, SUP_ECC_CNT_CORR, SUP_ECC_ADDR_ADDR] ++
  [SUP_ECC_LIM_LIM]

/-! ### HSPI -/
def HSPI_CTRL_CNT_CLR : Fld := ⟨0x07, 0x08, 8, 8, .sc, 0, 1, 4⟩
def HSPI_CTRL_TURN : Fld := ⟨0x07, 0x08, 5, 4, .rw, 0, 1, 4⟩
def HSPI_CTRL_HIRQ_EN : Fld := ⟨0x07, 0x08, 2, 2, .rwl, 0, 1, 4⟩
def HSPI_CTRL_BOOT_IRQ : Fld := ⟨0x07, 0x08, 1, 1, .rw, 0, 1, 4⟩
def HSPI_CTRL_CRC_EN : Fld := ⟨0x07, 0x08, 0, 0, .rwl, 0, 1, 4⟩
def HSPI_STATUS_CRC_ACTIVE : Fld := ⟨0x07, 0x0C, 8, 8, .ro, 0, 1, 4⟩
def HSPI_STATUS_LAST : Fld := ⟨0x07, 0x0C, 7, 0, .ro, 0, 1, 4⟩
def HSPI_IRQ_RD_LATE : Fld := ⟨0x07, 0x10, 3, 3, .w1c, 0, 1, 4⟩
def HSPI_IRQ_ADDR_END : Fld := ⟨0x07, 0x10, 2, 2, .w1c, 0, 1, 4⟩
def HSPI_IRQ_CRC_ERR : Fld := ⟨0x07, 0x10, 1, 1, .w1c, 0, 1, 4⟩
def HSPI_IRQ_FRAME_ERR : Fld := ⟨0x07, 0x10, 0, 0, .w1c, 0, 1, 4⟩
def HSPI_FAULT_HSPI_FRAME : Fld := ⟨0x07, 0x18, 1, 1, .w1c, 0, 1, 4⟩
def HSPI_FAULT_HSPI_CRC : Fld := ⟨0x07, 0x18, 0, 0, .w1c, 0, 1, 4⟩
def HSPI_FRAME_ERR_CAUSE : Fld := ⟨0x07, 0x20, 19, 16, .ro, 0, 1, 4⟩
def HSPI_CRC_ERR_CAUSE : Fld := ⟨0x07, 0x24, 19, 16, .ro, 0, 1, 4⟩
def HSPI_ADDR_END_CAUSE : Fld := ⟨0x07, 0x28, 19, 16, .ro, 0, 1, 4⟩
def HSPI_RD_LATE_CAUSE : Fld := ⟨0x07, 0x2C, 19, 16, .ro, 0, 1, 4⟩
def HSPI_FRAME_ERR_COUNT : Fld := ⟨0x07, 0x20, 15, 0, .ro, 0, 1, 4⟩
def HSPI_CRC_ERR_COUNT : Fld := ⟨0x07, 0x24, 15, 0, .ro, 0, 1, 4⟩
def HSPI_ADDR_END_COUNT : Fld := ⟨0x07, 0x28, 15, 0, .ro, 0, 1, 4⟩
def HSPI_RD_LATE_COUNT : Fld := ⟨0x07, 0x2C, 15, 0, .ro, 0, 1, 4⟩
def HSPI_FRAMES_COUNT : Fld := ⟨0x07, 0x30, 31, 0, .ro, 0, 1, 4⟩

/-- The fields of the HSPI page. -/
def HSPI_fields : List Fld :=
  [HSPI_CTRL_CNT_CLR, HSPI_CTRL_TURN, HSPI_CTRL_HIRQ_EN, HSPI_CTRL_BOOT_IRQ, HSPI_CTRL_CRC_EN, HSPI_STATUS_CRC_ACTIVE, HSPI_STATUS_LAST, HSPI_IRQ_RD_LATE, HSPI_IRQ_ADDR_END, HSPI_IRQ_CRC_ERR, HSPI_IRQ_FRAME_ERR, HSPI_FAULT_HSPI_FRAME, HSPI_FAULT_HSPI_CRC, HSPI_FRAME_ERR_CAUSE, HSPI_CRC_ERR_CAUSE, HSPI_ADDR_END_CAUSE, HSPI_RD_LATE_CAUSE, HSPI_FRAME_ERR_COUNT, HSPI_CRC_ERR_COUNT, HSPI_ADDR_END_COUNT, HSPI_RD_LATE_COUNT, HSPI_FRAMES_COUNT]

/-! ### MSPI -/
def MSPI_CTRL_SWTRIG : Fld := ⟨0x08, 0x08, 7, 4, .sc, 0, 1, 4⟩
def MSPI_CTRL_EN : Fld := ⟨0x08, 0x08, 0, 0, .rwl, 0, 1, 4⟩
def MSPI_STATUS_PENDING : Fld := ⟨0x08, 0x0C, 8, 8, .ro, 0, 1, 4⟩
def MSPI_STATUS_ENTRY : Fld := ⟨0x08, 0x0C, 5, 1, .ro, 0, 1, 4⟩
def MSPI_STATUS_BUSY : Fld := ⟨0x08, 0x0C, 0, 0, .ro, 0, 1, 4⟩
def MSPI_IRQ_RUNAWAY : Fld := ⟨0x08, 0x10, 6, 6, .w1c, 0, 1, 4⟩
def MSPI_IRQ_TRIG_LOST : Fld := ⟨0x08, 0x10, 5, 5, .w1c, 0, 1, 4⟩
def MSPI_IRQ_DONE : Fld := ⟨0x08, 0x10, 4, 4, .w1c, 0, 1, 4⟩
def MSPI_IRQ_SLOT : Fld := ⟨0x08, 0x10, 3, 0, .w1c, 0, 1, 4⟩
def MSPI_SELCFG_SETUP : Fld := ⟨0x08, 0x20, 31, 26, .rwl, 0xa, 4, 4⟩
def MSPI_SELCFG_HOLD : Fld := ⟨0x08, 0x20, 25, 20, .rwl, 0x5, 4, 4⟩
def MSPI_SELCFG_IDLE : Fld := ⟨0x08, 0x20, 19, 14, .rwl, 0xa, 4, 4⟩
def MSPI_SELCFG_MODE : Fld := ⟨0x08, 0x20, 11, 10, .rwl, 0, 4, 4⟩
def MSPI_SELCFG_DIV : Fld := ⟨0x08, 0x20, 7, 0, .rwl, 0x8, 4, 4⟩
def MSPI_TRIG_SRC : Fld := ⟨0x08, 0x30, 31, 30, .rwl, 0, 4, 4⟩
def MSPI_TRIG_CH : Fld := ⟨0x08, 0x30, 29, 28, .rwl, 0, 4, 4⟩
def MSPI_TRIG_START : Fld := ⟨0x08, 0x30, 27, 23, .rwl, 0, 4, 4⟩
def MSPI_TRIG_POS : Fld := ⟨0x08, 0x30, 17, 0, .rwl, 0, 4, 4⟩
def MSPI_ASSIGN_CH : Fld := ⟨0x08, 0x40, 15, 0, .rwl, 0, 1, 4⟩
def MSPI_RES_DATA : Fld := ⟨0x08, 0x44, 31, 0, .ro, 0, 4, 4⟩
def MSPI_STAMP_SEQ : Fld := ⟨0x08, 0x54, 31, 24, .ro, 0, 4, 4⟩
def MSPI_STAMP_TIME : Fld := ⟨0x08, 0x54, 23, 0, .ro, 0, 4, 4⟩
def MSPI_QUEUE_END : Fld := ⟨0x08, 0x78, 31, 31, .rw, 0, 32, 4⟩
def MSPI_QUEUE_CONT : Fld := ⟨0x08, 0x78, 30, 30, .rw, 0, 32, 4⟩
def MSPI_QUEUE_SEL : Fld := ⟨0x08, 0x78, 29, 28, .rw, 0, 32, 4⟩
def MSPI_QUEUE_DST : Fld := ⟨0x08, 0x78, 27, 25, .rw, 0, 32, 4⟩
def MSPI_QUEUE_LEN : Fld := ⟨0x08, 0x78, 24, 20, .rw, 0x7, 32, 4⟩
def MSPI_QUEUE_GAP : Fld := ⟨0x08, 0x78, 19, 16, .rw, 0, 32, 4⟩
def MSPI_QUEUE_TX : Fld := ⟨0x08, 0x78, 15, 0, .rw, 0, 32, 4⟩

/-- The fields of the MSPI page. -/
def MSPI_fields : List Fld :=
  [MSPI_CTRL_SWTRIG, MSPI_CTRL_EN, MSPI_STATUS_PENDING, MSPI_STATUS_ENTRY, MSPI_STATUS_BUSY, MSPI_IRQ_RUNAWAY, MSPI_IRQ_TRIG_LOST, MSPI_IRQ_DONE, MSPI_IRQ_SLOT, MSPI_SELCFG_SETUP, MSPI_SELCFG_HOLD, MSPI_SELCFG_IDLE, MSPI_SELCFG_MODE, MSPI_SELCFG_DIV, MSPI_TRIG_SRC, MSPI_TRIG_CH, MSPI_TRIG_START, MSPI_TRIG_POS, MSPI_ASSIGN_CH, MSPI_RES_DATA, MSPI_STAMP_SEQ, MSPI_STAMP_TIME, MSPI_QUEUE_END, MSPI_QUEUE_CONT, MSPI_QUEUE_SEL, MSPI_QUEUE_DST, MSPI_QUEUE_LEN, MSPI_QUEUE_GAP, MSPI_QUEUE_TX]

/-! ### SCX -/
def SCX_CTRL_EN : Fld := ⟨0x0A, 0x08, 0, 0, .rwl, 0, 1, 4⟩
def SCX_STATUS_LOCK : Fld := ⟨0x0A, 0x0C, 1, 1, .ro, 0, 1, 4⟩
def SCX_STATUS_RUNNING : Fld := ⟨0x0A, 0x0C, 0, 0, .ro, 0, 1, 4⟩
def SCX_FAULT_SCX_TRACK : Fld := ⟨0x0A, 0x18, 1, 1, .w1c, 0, 1, 4⟩
def SCX_FAULT_SCX_AMP : Fld := ⟨0x0A, 0x18, 0, 0, .w1c, 0, 1, 4⟩
def SCX_EXC_PHASE : Fld := ⟨0x0A, 0x20, 23, 16, .rwl, 0, 1, 4⟩
def SCX_EXC_AMP : Fld := ⟨0x0A, 0x20, 11, 8, .rwl, 0x9, 1, 4⟩
def SCX_EXC_DIV : Fld := ⟨0x0A, 0x20, 7, 0, .rwl, 0x28, 1, 4⟩
def SCX_ATO_AMP_HI : Fld := ⟨0x0A, 0x24, 31, 24, .rwl, 0xe0, 1, 4⟩
def SCX_ATO_AMP_LO : Fld := ⟨0x0A, 0x24, 23, 16, .rwl, 0x40, 1, 4⟩
def SCX_ATO_BW : Fld := ⟨0x0A, 0x24, 7, 0, .rwl, 0x32, 1, 4⟩
def SCX_ASSIGN_CH : Fld := ⟨0x0A, 0x28, 3, 0, .rwl, 0, 1, 4⟩
def SCX_ANGLE_AMP : Fld := ⟨0x0A, 0x2C, 31, 16, .ro, 0, 1, 4⟩
def SCX_ANGLE_PHI : Fld := ⟨0x0A, 0x2C, 15, 0, .ro, 0, 1, 4⟩
def SCX_SPEED : Fld := ⟨0x0A, 0x30, 31, 0, .ro, 0, 1, 4⟩
def SCX_STAMP_TIME : Fld := ⟨0x0A, 0x34, 23, 0, .ro, 0, 1, 4⟩

/-- The fields of the SCX page. -/
def SCX_fields : List Fld :=
  [SCX_CTRL_EN, SCX_STATUS_LOCK, SCX_STATUS_RUNNING, SCX_FAULT_SCX_TRACK, SCX_FAULT_SCX_AMP, SCX_EXC_PHASE, SCX_EXC_AMP, SCX_EXC_DIV, SCX_ATO_AMP_HI, SCX_ATO_AMP_LO, SCX_ATO_BW, SCX_ASSIGN_CH, SCX_ANGLE_AMP, SCX_ANGLE_PHI, SCX_SPEED, SCX_STAMP_TIME]

/-! ### JOB -/
def JOB_STATUS_FREE : Fld := ⟨0x0C, 0x0C, 20, 16, .ro, 0x10, 1, 4⟩
def JOB_STATUS_USED : Fld := ⟨0x0C, 0x0C, 15, 0, .ro, 0, 1, 4⟩
def JOB_IRQ_SUSPENDED : Fld := ⟨0x0C, 0x10, 31, 16, .w1c, 0, 1, 4⟩
def JOB_IRQ_ENDED : Fld := ⟨0x0C, 0x10, 15, 0, .w1c, 0, 1, 4⟩
def JOB_CMD : Fld := ⟨0x0C, 0x20, 31, 0, .rw, 0, 1, 4⟩
def JOB_PARAM : Fld := ⟨0x0C, 0x24, 31, 0, .rw, 0, 7, 4⟩
def JOB_RESULT_VALUE : Fld := ⟨0x0C, 0x40, 31, 0, .ro, 0, 1, 4⟩
def JOB_SLOT_STATE : Fld := ⟨0x0C, 0x44, 31, 28, .ro, 0, 16, 4⟩
def JOB_SLOT_TYPE : Fld := ⟨0x0C, 0x44, 27, 24, .ro, 0, 16, 4⟩
def JOB_SLOT_TGT : Fld := ⟨0x0C, 0x44, 23, 20, .ro, 0, 16, 4⟩
def JOB_SLOT_ORIGIN : Fld := ⟨0x0C, 0x44, 19, 16, .ro, 0, 16, 4⟩
def JOB_SLOT_GEN : Fld := ⟨0x0C, 0x44, 15, 12, .ro, 0, 16, 4⟩
def JOB_SLOT_CAUSE : Fld := ⟨0x0C, 0x44, 11, 8, .ro, 0, 16, 4⟩
def JOB_SLOT_PROGRESS : Fld := ⟨0x0C, 0x44, 7, 0, .ro, 0, 16, 4⟩
def JOB_RSEL_SLOT : Fld := ⟨0x0C, 0x84, 3, 0, .rw, 0, 1, 4⟩
def JOB_RES_VAL : Fld := ⟨0x0C, 0x88, 31, 0, .ro, 0, 6, 4⟩
def JOB_ELAPSED : Fld := ⟨0x0C, 0xA0, 31, 0, .ro, 0, 1, 4⟩
def JOB_DETAIL : Fld := ⟨0x0C, 0xA4, 31, 0, .ro, 0, 1, 4⟩
def JOB_GEN_GEN_ODD : Fld := ⟨0x0C, 0xA8, 27, 16, .ro, 0, 8, 4⟩
def JOB_GEN_GEN_EVEN : Fld := ⟨0x0C, 0xA8, 11, 0, .ro, 0, 8, 4⟩

/-- The fields of the JOB page. -/
def JOB_fields : List Fld :=
  [JOB_STATUS_FREE, JOB_STATUS_USED, JOB_IRQ_SUSPENDED, JOB_IRQ_ENDED, JOB_CMD, JOB_PARAM, JOB_RESULT_VALUE, JOB_SLOT_STATE, JOB_SLOT_TYPE, JOB_SLOT_TGT, JOB_SLOT_ORIGIN, JOB_SLOT_GEN, JOB_SLOT_CAUSE, JOB_SLOT_PROGRESS, JOB_RSEL_SLOT, JOB_RES_VAL, JOB_ELAPSED, JOB_DETAIL, JOB_GEN_GEN_ODD, JOB_GEN_GEN_EVEN]

/-! ### TRCR -/
def TRCR_STATUS_STREAMING : Fld := ⟨0x0D, 0x0C, 3, 0, .ro, 0, 1, 4⟩
def TRCR_DEST_EN : Fld := ⟨0x0D, 0x20, 31, 31, .rwl, 0, 1, 4⟩
def TRCR_DEST_NODE : Fld := ⟨0x0D, 0x20, 9, 0, .rwl, 0, 1, 4⟩
def TRCR_FLUSH : Fld := ⟨0x0D, 0x24, 7, 0, .rw, 0x32, 1, 4⟩
def TRCR_PKTS : Fld := ⟨0x0D, 0x28, 31, 0, .ro, 0, 1, 4⟩

/-- The fields of the TRCR page. -/
def TRCR_fields : List Fld :=
  [TRCR_STATUS_STREAMING, TRCR_DEST_EN, TRCR_DEST_NODE, TRCR_FLUSH, TRCR_PKTS]

/-! ### GPIO -/
def GPIO_IRQ_EDGE : Fld := ⟨0x0E, 0x10, 7, 0, .w1c, 0, 1, 4⟩
def GPIO_DIR : Fld := ⟨0x0E, 0x20, 7, 0, .rwl, 0, 1, 4⟩
def GPIO_OUT : Fld := ⟨0x0E, 0x24, 7, 0, .rw, 0, 1, 4⟩
def GPIO_IN : Fld := ⟨0x0E, 0x28, 7, 0, .ro, 0, 1, 4⟩
def GPIO_SET : Fld := ⟨0x0E, 0x2C, 7, 0, .w1s, 0, 1, 4⟩
def GPIO_CLR : Fld := ⟨0x0E, 0x30, 7, 0, .w1c, 0, 1, 4⟩
def GPIO_PULL : Fld := ⟨0x0E, 0x34, 15, 0, .rwl, 0x5555, 1, 4⟩
def GPIO_OD : Fld := ⟨0x0E, 0x38, 7, 0, .rwl, 0, 1, 4⟩
def GPIO_FUNC : Fld := ⟨0x0E, 0x3C, 31, 0, .rwl, 0, 1, 4⟩
def GPIO_EDGE : Fld := ⟨0x0E, 0x40, 15, 0, .rw, 0, 1, 4⟩

/-- The fields of the GPIO page. -/
def GPIO_fields : List Fld :=
  [GPIO_IRQ_EDGE, GPIO_DIR, GPIO_OUT, GPIO_IN, GPIO_SET, GPIO_CLR, GPIO_PULL, GPIO_OD, GPIO_FUNC, GPIO_EDGE]

/-! ### DBG -/
def DBG_CTRL_STEP : Fld := ⟨0x0F, 0x08, 6, 6, .sc, 0, 1, 4⟩
def DBG_CTRL_RESUME : Fld := ⟨0x0F, 0x08, 5, 5, .sc, 0, 1, 4⟩
def DBG_CTRL_HALT : Fld := ⟨0x0F, 0x08, 4, 4, .sc, 0, 1, 4⟩
def DBG_CTRL_CORE : Fld := ⟨0x0F, 0x08, 1, 0, .rw, 0, 1, 4⟩
def DBG_STATUS_PC : Fld := ⟨0x0F, 0x0C, 29, 16, .ro, 0, 1, 4⟩
def DBG_STATUS_FROZEN : Fld := ⟨0x0F, 0x0C, 0, 0, .ro, 0, 1, 4⟩
def DBG_BP_EN : Fld := ⟨0x0F, 0x20, 31, 31, .rw, 0, 4, 4⟩
def DBG_BP_ADDR : Fld := ⟨0x0F, 0x20, 13, 0, .rw, 0, 4, 4⟩
def DBG_SEL : Fld := ⟨0x0F, 0x30, 4, 0, .rw, 0, 1, 4⟩
def DBG_VAL : Fld := ⟨0x0F, 0x34, 31, 0, .rw, 0, 1, 4⟩

/-- The fields of the DBG page. -/
def DBG_fields : List Fld :=
  [DBG_CTRL_STEP, DBG_CTRL_RESUME, DBG_CTRL_HALT, DBG_CTRL_CORE, DBG_STATUS_PC, DBG_STATUS_FROZEN, DBG_BP_EN, DBG_BP_ADDR, DBG_SEL, DBG_VAL]

end Sys2Proof.Machine.R
end

