-- ==== Sys2Proof/Machine/RegNet.lean ====
section
/-! DEFINITION. The field tables of the device pages 0x10 to 0x1F (R384, R406, R438-R442, R465, R466, R489, R490 and the CAN pages). Each line gives the page of instance 0, the offset, the bits, the access code and the reset value as the
table of spec/ gives them; a field whose reset the table leaves to OTP or to the boot stands at 0 until the Lodge writes it (log 2). -/

namespace Sys2Proof.Machine.R

/-! ### FAB -/
def FAB_CTRL_FORGET : Fld := ⟨0x10, 0x08, 1, 1, .sc, 0, 1, 4⟩
def FAB_CTRL_CNT_CLR : Fld := ⟨0x10, 0x08, 0, 0, .sc, 0, 1, 4⟩
def FAB_STATUS_ROOT_ID : Fld := ⟨0x10, 0x0C, 25, 16, .ro, 0x3ff, 1, 4⟩
def FAB_STATUS_DIST : Fld := ⟨0x10, 0x0C, 15, 11, .ro, 0, 1, 4⟩
def FAB_STATUS_UP_VALID : Fld := ⟨0x10, 0x0C, 10, 10, .ro, 0, 1, 4⟩
def FAB_STATUS_UPPORT : Fld := ⟨0x10, 0x0C, 9, 8, .ro, 0, 1, 4⟩
def FAB_STATUS_ENUM_BUSY : Fld := ⟨0x10, 0x0C, 7, 7, .ro, 0, 1, 4⟩
def FAB_STATUS_HOP_LIMIT : Fld := ⟨0x10, 0x0C, 6, 6, .ro, 0, 1, 4⟩
def FAB_STATUS_ENUM_FULL : Fld := ⟨0x10, 0x0C, 5, 5, .ro, 0, 1, 4⟩
def FAB_STATUS_ESTABLISHED : Fld := ⟨0x10, 0x0C, 4, 4, .ro, 0, 1, 4⟩
def FAB_STATUS_ROLE : Fld := ⟨0x10, 0x0C, 2, 0, .ro, 0, 1, 4⟩
def FAB_IRQ_TOPO : Fld := ⟨0x10, 0x10, 5, 5, .w1c, 0, 1, 4⟩
def FAB_IRQ_ENUM_DONE : Fld := ⟨0x10, 0x10, 4, 4, .w1c, 0, 1, 4⟩
def FAB_IRQ_ROOT_LOST : Fld := ⟨0x10, 0x10, 3, 3, .w1c, 0, 1, 4⟩
def FAB_IRQ_ROOT_CHANGED : Fld := ⟨0x10, 0x10, 2, 2, .w1c, 0, 1, 4⟩
def FAB_IRQ_ID_CHANGED : Fld := ⟨0x10, 0x10, 1, 1, .w1c, 0, 1, 4⟩
def FAB_FAULT_FAB_TIMEOUT : Fld := ⟨0x10, 0x18, 1, 1, .w1c, 0, 1, 4⟩
def FAB_FAULT_FAB_ROOT_LOST : Fld := ⟨0x10, 0x18, 0, 0, .w1c, 0, 1, 4⟩
def FAB_NODE_ID_VALID : Fld := ⟨0x10, 0x20, 31, 31, .rw, 0, 1, 4⟩
def FAB_NODE_ID_ID : Fld := ⟨0x10, 0x20, 9, 0, .rw, 0, 1, 4⟩
def FAB_LO_UID : Fld := ⟨0x10, 0x24, 31, 0, .ro, 0, 1, 4⟩
def FAB_HI_UID : Fld := ⟨0x10, 0x28, 31, 0, .ro, 0, 1, 4⟩
def FAB_ELIGIBLE : Fld := ⟨0x10, 0x2C, 8, 8, .ro, 0, 1, 4⟩
def FAB_PRIO : Fld := ⟨0x10, 0x2C, 7, 0, .rwl, 0, 1, 4⟩
def FAB_PREF_ID : Fld := ⟨0x10, 0x30, 9, 0, .rwl, 0, 1, 4⟩
def FAB_PORTS : Fld := ⟨0x10, 0x34, 31, 0, .ro, 0, 1, 4⟩
def FAB_LO_ROOT_UID : Fld := ⟨0x10, 0x38, 31, 0, .ro, 0, 1, 4⟩
def FAB_HI_ROOT_UID : Fld := ⟨0x10, 0x3C, 31, 0, .ro, 0, 1, 4⟩
def FAB_SEQ : Fld := ⟨0x10, 0x40, 31, 16, .ro, 0, 1, 4⟩
def FAB_ROOT_PRIO : Fld := ⟨0x10, 0x40, 15, 8, .ro, 0xff, 1, 4⟩
def FAB_LOSS_T : Fld := ⟨0x10, 0x44, 15, 8, .rwl, 0xa, 1, 4⟩
def FAB_ELECT_T : Fld := ⟨0x10, 0x44, 7, 0, .rwl, 0x2, 1, 4⟩
def FAB_ID_BASE : Fld := ⟨0x10, 0x48, 9, 0, .rwl, 0x80, 1, 4⟩
def FAB_PRESENT : Fld := ⟨0x10, 0x4C, 25, 16, .ro, 0, 1, 4⟩
def FAB_LAST_ID : Fld := ⟨0x10, 0x4C, 9, 0, .ro, 0, 1, 4⟩
def FAB_UCAP : Fld := ⟨0x10, 0x50, 31, 0, .rwl, 0x19191919, 1, 4⟩

/-- The fields of the FAB page. -/
def FAB_fields : List Fld :=
  [FAB_CTRL_FORGET, FAB_CTRL_CNT_CLR, FAB_STATUS_ROOT_ID, FAB_STATUS_DIST, FAB_STATUS_UP_VALID, FAB_STATUS_UPPORT, FAB_STATUS_ENUM_BUSY, FAB_STATUS_HOP_LIMIT, FAB_STATUS_ENUM_FULL, FAB_STATUS_ESTABLISHED, FAB_STATUS_ROLE, FAB_IRQ_TOPO, FAB_IRQ_ENUM_DONE, FAB_IRQ_ROOT_LOST, FAB_IRQ_ROOT_CHANGED, FAB_IRQ_ID_CHANGED, FAB_FAULT_FAB_TIMEOUT, FAB_FAULT_FAB_ROOT_LOST, FAB_NODE_ID_VALID, FAB_NODE_ID_ID, FAB_LO_UID, FAB_HI_UID, FAB_ELIGIBLE, FAB_PRIO, FAB_PREF_ID, FAB_PORTS, FAB_LO_ROOT_UID, FAB_HI_ROOT_UID, FAB_SEQ, FAB_ROOT_PRIO] ++
  [FAB_LOSS_T, FAB_ELECT_T, FAB_ID_BASE, FAB_PRESENT, FAB_LAST_ID, FAB_UCAP]

/-! ### LNK -/
def LNK_CTRL_RETRAIN : Fld := ⟨0x11, 0x08, 2, 2, .sc, 0, 1, 4⟩
def LNK_CTRL_CNT_CLR : Fld := ⟨0x11, 0x08, 1, 1, .sc, 0, 1, 4⟩
def LNK_CTRL_EN : Fld := ⟨0x11, 0x08, 0, 0, .rwl, 0x1, 1, 4⟩
def LNK_STATUS_PEER_PID : Fld := ⟨0x11, 0x0C, 10, 9, .ro, 0, 1, 4⟩
def LNK_STATUS_BERT_SYNC : Fld := ⟨0x11, 0x0C, 8, 8, .ro, 0, 1, 4⟩
def LNK_STATUS_HALT_RX : Fld := ⟨0x11, 0x0C, 7, 7, .ro, 0, 1, 4⟩
def LNK_STATUS_RATE : Fld := ⟨0x11, 0x0C, 6, 6, .ro, 0, 1, 4⟩
def LNK_STATUS_SYMLOCK : Fld := ⟨0x11, 0x0C, 5, 5, .ro, 0, 1, 4⟩
def LNK_STATUS_SIGDET : Fld := ⟨0x11, 0x0C, 4, 4, .ro, 0, 1, 4⟩
def LNK_STATUS_STATE : Fld := ⟨0x11, 0x0C, 2, 0, .ro, 0x1, 1, 4⟩
def LNK_IRQ_HALT_RX : Fld := ⟨0x11, 0x10, 4, 4, .w1c, 0, 1, 4⟩
def LNK_IRQ_NAK_RX : Fld := ⟨0x11, 0x10, 3, 3, .w1c, 0, 1, 4⟩
def LNK_IRQ_RETRAIN : Fld := ⟨0x11, 0x10, 2, 2, .w1c, 0, 1, 4⟩
def LNK_IRQ_DOWN : Fld := ⟨0x11, 0x10, 1, 1, .w1c, 0, 1, 4⟩
def LNK_IRQ_UP : Fld := ⟨0x11, 0x10, 0, 0, .w1c, 0, 1, 4⟩
def LNK_FAULT_LNK_ERR : Fld := ⟨0x11, 0x18, 1, 1, .w1c, 0, 1, 4⟩
def LNK_FAULT_LNK_DOWN : Fld := ⟨0x11, 0x18, 0, 0, .w1c, 0, 1, 4⟩
def LNK_CFG_LOOP_ALLOW : Fld := ⟨0x11, 0x20, 16, 16, .rwl, 0x1, 1, 4⟩
def LNK_CFG_DEEMPH_C : Fld := ⟨0x11, 0x20, 13, 12, .rwl, 0x1, 1, 4⟩
def LNK_CFG_SWING_C : Fld := ⟨0x11, 0x20, 11, 8, .rwl, 0x8, 1, 4⟩
def LNK_CFG_SWING_B : Fld := ⟨0x11, 0x20, 7, 4, .rwl, 0x4, 1, 4⟩
def LNK_CFG_RATE : Fld := ⟨0x11, 0x20, 1, 0, .rwl, 0, 1, 4⟩
def LNK_TXCRD_AVAIL : Fld := ⟨0x11, 0x24, 31, 0, .ro, 0, 1, 4⟩
def LNK_RXBUF_SIZE : Fld := ⟨0x11, 0x28, 31, 0, .ro, 0x40804020, 1, 4⟩
def LNK_SEQ_NEXT_TX : Fld := ⟨0x11, 0x2C, 27, 16, .ro, 0, 1, 4⟩
def LNK_SEQ_EXP_RX : Fld := ⟨0x11, 0x2C, 11, 0, .ro, 0, 1, 4⟩
def LNK_REPLAY_UNACKED : Fld := ⟨0x11, 0x30, 13, 8, .ro, 0, 1, 4⟩
def LNK_REPLAY_STALLED : Fld := ⟨0x11, 0x30, 2, 0, .ro, 0, 1, 4⟩
def LNK_CNT_ERR_PKT : Fld := ⟨0x11, 0x34, 31, 16, .ro, 0, 1, 4⟩
def LNK_CNT_ERR_CODE : Fld := ⟨0x11, 0x34, 15, 0, .ro, 0, 1, 4⟩
def LNK_CNT_RETRY_NAK_TX : Fld := ⟨0x11, 0x38, 31, 16, .ro, 0, 1, 4⟩
def LNK_CNT_RETRY_REPLAY : Fld := ⟨0x11, 0x38, 15, 0, .ro, 0, 1, 4⟩
def LNK_CNT_LINK_UPS : Fld := ⟨0x11, 0x3C, 31, 16, .ro, 0, 1, 4⟩
def LNK_CNT_LINK_RETRAINS : Fld := ⟨0x11, 0x3C, 15, 0, .ro, 0, 1, 4⟩
def LNK_BERT_CHK_LO_CHK : Fld := ⟨0x11, 0x40, 31, 0, .ro, 0, 1, 4⟩
def LNK_BERT_CHK_HI_CHK : Fld := ⟨0x11, 0x44, 15, 0, .ro, 0, 1, 4⟩
def LNK_BERT_ERR_ERR : Fld := ⟨0x11, 0x48, 31, 0, .ro, 0, 1, 4⟩

/-- The fields of the LNK page. -/
def LNK_fields : List Fld :=
  [LNK_CTRL_RETRAIN, LNK_CTRL_CNT_CLR, LNK_CTRL_EN, LNK_STATUS_PEER_PID, LNK_STATUS_BERT_SYNC, LNK_STATUS_HALT_RX, LNK_STATUS_RATE, LNK_STATUS_SYMLOCK, LNK_STATUS_SIGDET, LNK_STATUS_STATE, LNK_IRQ_HALT_RX, LNK_IRQ_NAK_RX, LNK_IRQ_RETRAIN, LNK_IRQ_DOWN, LNK_IRQ_UP, LNK_FAULT_LNK_ERR, LNK_FAULT_LNK_DOWN, LNK_CFG_LOOP_ALLOW, LNK_CFG_DEEMPH_C, LNK_CFG_SWING_C, LNK_CFG_SWING_B, LNK_CFG_RATE, LNK_TXCRD_AVAIL, LNK_RXBUF_SIZE, LNK_SEQ_NEXT_TX, LNK_SEQ_EXP_RX, LNK_REPLAY_UNACKED, LNK_REPLAY_STALLED, LNK_CNT_ERR_PKT, LNK_CNT_ERR_CODE] ++
  [LNK_CNT_RETRY_NAK_TX, LNK_CNT_RETRY_REPLAY, LNK_CNT_LINK_UPS, LNK_CNT_LINK_RETRAINS, LNK_BERT_CHK_LO_CHK, LNK_BERT_CHK_HI_CHK, LNK_BERT_ERR_ERR]

/-! ### ROUTE -/
def ROUTE_IRQ_DROP : Fld := ⟨0x15, 0x10, 0, 0, .w1c, 0, 1, 4⟩
def ROUTE_TREE : Fld := ⟨0x15, 0x20, 3, 0, .rw, 0, 1, 4⟩
def ROUTE_CAP_VALID : Fld := ⟨0x15, 0x24, 31, 31, .w1c, 0, 1, 4⟩
def ROUTE_CAP_CAUSE : Fld := ⟨0x15, 0x24, 30, 28, .ro, 0, 1, 4⟩
def ROUTE_CAP_INPORT : Fld := ⟨0x15, 0x24, 27, 26, .ro, 0, 1, 4⟩
def ROUTE_CAP_DST : Fld := ⟨0x15, 0x24, 25, 16, .ro, 0, 1, 4⟩
def ROUTE_CAP_SRC : Fld := ⟨0x15, 0x24, 9, 0, .ro, 0, 1, 4⟩
def ROUTE_NOROUTE_TX : Fld := ⟨0x15, 0x28, 31, 16, .ro, 0, 1, 4⟩
def ROUTE_DROPPED : Fld := ⟨0x15, 0x28, 15, 0, .ro, 0, 1, 4⟩
def ROUTE_FWD01_FWDH : Fld := ⟨0x15, 0x2C, 31, 16, .ro, 0, 1, 4⟩
def ROUTE_FWD01_FWDL : Fld := ⟨0x15, 0x2C, 15, 0, .ro, 0, 1, 4⟩
def ROUTE_FWD23_FWDH : Fld := ⟨0x15, 0x30, 31, 16, .ro, 0, 1, 4⟩
def ROUTE_FWD23_FWDL : Fld := ⟨0x15, 0x30, 15, 0, .ro, 0, 1, 4⟩

/-- The fields of the ROUTE page. -/
def ROUTE_fields : List Fld :=
  [ROUTE_IRQ_DROP, ROUTE_TREE, ROUTE_CAP_VALID, ROUTE_CAP_CAUSE, ROUTE_CAP_INPORT, ROUTE_CAP_DST, ROUTE_CAP_SRC, ROUTE_NOROUTE_TX, ROUTE_DROPPED, ROUTE_FWD01_FWDH, ROUTE_FWD01_FWDL, ROUTE_FWD23_FWDH, ROUTE_FWD23_FWDL]

/-! ### TXN -/
def TXN_CTRL_CNT_CLR : Fld := ⟨0x16, 0x08, 2, 2, .sc, 0, 1, 4⟩
def TXN_CTRL_HRX_POP : Fld := ⟨0x16, 0x08, 1, 1, .sc, 0, 1, 4⟩
def TXN_CTRL_GO : Fld := ⟨0x16, 0x08, 0, 0, .sc, 0, 1, 4⟩
def TXN_STATUS_HRX_CNT : Fld := ⟨0x16, 0x0C, 18, 16, .ro, 0, 1, 4⟩
def TXN_STATUS_OUTSTANDING : Fld := ⟨0x16, 0x0C, 14, 8, .ro, 0, 1, 4⟩
def TXN_STATUS_BUSY : Fld := ⟨0x16, 0x0C, 0, 0, .ro, 0, 1, 4⟩
def TXN_IRQ_HRX_FULL : Fld := ⟨0x16, 0x10, 2, 2, .w1c, 0, 1, 4⟩
def TXN_IRQ_HRX : Fld := ⟨0x16, 0x10, 1, 1, .w1c, 0, 1, 4⟩
def TXN_IRQ_DONE : Fld := ⟨0x16, 0x10, 0, 0, .w1c, 0, 1, 4⟩
def TXN_REQ_TYPE : Fld := ⟨0x16, 0x20, 31, 28, .rw, 0, 1, 4⟩
def TXN_REQ_VC : Fld := ⟨0x16, 0x20, 27, 26, .rw, 0x2, 1, 4⟩
def TXN_REQ_DST : Fld := ⟨0x16, 0x20, 25, 16, .rw, 0, 1, 4⟩
def TXN_REQ_PST : Fld := ⟨0x16, 0x20, 15, 15, .rw, 0, 1, 4⟩
def TXN_REQ_COUNT : Fld := ⟨0x16, 0x20, 13, 8, .rw, 0, 1, 4⟩
def TXN_ADDR : Fld := ⟨0x16, 0x24, 23, 0, .rw, 0, 1, 4⟩
def TXN_RSLT_VALID : Fld := ⟨0x16, 0x28, 31, 31, .ro, 0, 1, 4⟩
def TXN_RSLT_STATUS : Fld := ⟨0x16, 0x28, 15, 12, .ro, 0, 1, 4⟩
def TXN_RSLT_TAG : Fld := ⟨0x16, 0x28, 5, 0, .ro, 0, 1, 4⟩
def TXN_TIMEOUT : Fld := ⟨0x16, 0x2C, 15, 0, .rwl, 0x64, 1, 4⟩
def TXN_TAG_SEL_TAG : Fld := ⟨0x16, 0x30, 5, 0, .rw, 0, 1, 4⟩
def TXN_TAG_STAT_STATE : Fld := ⟨0x16, 0x34, 31, 30, .ro, 0, 1, 4⟩
def TXN_TAG_STAT_OWNER : Fld := ⟨0x16, 0x34, 27, 24, .ro, 0, 1, 4⟩
def TXN_TAG_STAT_LAST : Fld := ⟨0x16, 0x34, 15, 12, .ro, 0, 1, 4⟩
def TXN_TAG_STAT_DST : Fld := ⟨0x16, 0x34, 9, 0, .ro, 0, 1, 4⟩
def TXN_HRX_VALID : Fld := ⟨0x16, 0x38, 31, 31, .ro, 0, 1, 4⟩
def TXN_HRX_EVT : Fld := ⟨0x16, 0x38, 30, 30, .ro, 0, 1, 4⟩
def TXN_HRX_SRC : Fld := ⟨0x16, 0x38, 25, 16, .ro, 0, 1, 4⟩
def TXN_HRX_LEN : Fld := ⟨0x16, 0x38, 8, 0, .ro, 0, 1, 4⟩
def TXN_IDX : Fld := ⟨0x16, 0x3C, 5, 0, .rw, 0, 1, 4⟩
def TXN_HRX_DATA : Fld := ⟨0x16, 0x40, 31, 0, .ro, 0, 1, 4⟩
def TXN_SENT : Fld := ⟨0x16, 0x44, 31, 0, .ro, 0, 1, 4⟩
def TXN_CNT_END_TIMEOUT : Fld := ⟨0x16, 0x48, 31, 16, .ro, 0, 1, 4⟩
def TXN_CNT_END_NO_ROUTE : Fld := ⟨0x16, 0x48, 15, 0, .ro, 0, 1, 4⟩
def TXN_CNT_IN_BUSY : Fld := ⟨0x16, 0x4C, 31, 16, .ro, 0, 1, 4⟩
def TXN_CNT_IN_REFUSED : Fld := ⟨0x16, 0x4C, 15, 0, .ro, 0, 1, 4⟩
def TXN_DATA : Fld := ⟨0x16, 0x60, 31, 0, .rw, 0, 32, 4⟩

/-- The fields of the TXN page. -/
def TXN_fields : List Fld :=
  [TXN_CTRL_CNT_CLR, TXN_CTRL_HRX_POP, TXN_CTRL_GO, TXN_STATUS_HRX_CNT, TXN_STATUS_OUTSTANDING, TXN_STATUS_BUSY, TXN_IRQ_HRX_FULL, TXN_IRQ_HRX, TXN_IRQ_DONE, TXN_REQ_TYPE, TXN_REQ_VC, TXN_REQ_DST, TXN_REQ_PST, TXN_REQ_COUNT, TXN_ADDR, TXN_RSLT_VALID, TXN_RSLT_STATUS, TXN_RSLT_TAG, TXN_TIMEOUT, TXN_TAG_SEL_TAG, TXN_TAG_STAT_STATE, TXN_TAG_STAT_OWNER, TXN_TAG_STAT_LAST, TXN_TAG_STAT_DST, TXN_HRX_VALID, TXN_HRX_EVT, TXN_HRX_SRC, TXN_HRX_LEN, TXN_IDX, TXN_HRX_DATA] ++
  [TXN_SENT, TXN_CNT_END_TIMEOUT, TXN_CNT_END_NO_ROUTE, TXN_CNT_IN_BUSY, TXN_CNT_IN_REFUSED, TXN_DATA]

/-! ### TIME -/
def TIME_CTRL_CNT_CLR : Fld := ⟨0x17, 0x08, 1, 1, .sc, 0, 1, 4⟩
def TIME_CTRL_SET : Fld := ⟨0x17, 0x08, 0, 0, .sc, 0, 1, 4⟩
def TIME_STATUS_UPPORT : Fld := ⟨0x17, 0x0C, 9, 8, .ro, 0, 1, 4⟩
def TIME_STATUS_HOLDOVER : Fld := ⟨0x17, 0x0C, 6, 6, .ro, 0, 1, 4⟩
def TIME_STATUS_LOCK : Fld := ⟨0x17, 0x0C, 5, 5, .ro, 0, 1, 4⟩
def TIME_STATUS_SRC : Fld := ⟨0x17, 0x0C, 1, 0, .ro, 0, 1, 4⟩
def TIME_IRQ_SET_DENIED : Fld := ⟨0x17, 0x10, 3, 3, .w1c, 0, 1, 4⟩
def TIME_IRQ_STEP : Fld := ⟨0x17, 0x10, 2, 2, .w1c, 0, 1, 4⟩
def TIME_IRQ_LOCK_LOST : Fld := ⟨0x17, 0x10, 1, 1, .w1c, 0, 1, 4⟩
def TIME_IRQ_LOCKED : Fld := ⟨0x17, 0x10, 0, 0, .w1c, 0, 1, 4⟩
def TIME_FAULT_TIME_LOSS : Fld := ⟨0x17, 0x18, 0, 0, .w1c, 0, 1, 4⟩
def TIME_NOW_LO : Fld := ⟨0x17, 0x20, 31, 0, .ro, 0, 1, 4⟩
def TIME_NOW_HI : Fld := ⟨0x17, 0x24, 31, 0, .ro, 0, 1, 4⟩
def TIME_NOW_FINE : Fld := ⟨0x17, 0x28, 4, 0, .ro, 0, 1, 4⟩
def TIME_SET_LO : Fld := ⟨0x17, 0x2C, 31, 0, .rw, 0, 1, 4⟩
def TIME_SET_HI : Fld := ⟨0x17, 0x30, 31, 0, .rw, 0, 1, 4⟩
def TIME_INTERVAL : Fld := ⟨0x17, 0x34, 31, 24, .rwl, 0xa, 1, 4⟩
def TIME_STEP_LIM : Fld := ⟨0x17, 0x34, 23, 16, .rwl, 0xa, 1, 4⟩
def TIME_LOCK_LIM : Fld := ⟨0x17, 0x34, 15, 8, .rwl, 0x3, 1, 4⟩
def TIME_KI_SH : Fld := ⟨0x17, 0x34, 7, 4, .rwl, 0x3, 1, 4⟩
def TIME_KP_SH : Fld := ⟨0x17, 0x34, 3, 0, .rwl, 0x1, 1, 4⟩
def TIME_OFFSET : Fld := ⟨0x17, 0x38, 31, 0, .ro, 0, 1, 4⟩
def TIME_DELAY : Fld := ⟨0x17, 0x3C, 31, 0, .ro, 0, 1, 4⟩
def TIME_RATE : Fld := ⟨0x17, 0x40, 31, 0, .ro, 0, 1, 4⟩
def TIME_ASYM : Fld := ⟨0x17, 0x44, 31, 0, .rwl, 0, 1, 4⟩
def TIME_PPS : Fld := ⟨0x17, 0x48, 31, 0, .rwl, 0, 1, 4⟩
def TIME_EXCH : Fld := ⟨0x17, 0x4C, 31, 16, .ro, 0, 1, 4⟩
def TIME_LAPSED : Fld := ⟨0x17, 0x4C, 15, 0, .ro, 0, 1, 4⟩

/-- The fields of the TIME page. -/
def TIME_fields : List Fld :=
  [TIME_CTRL_CNT_CLR, TIME_CTRL_SET, TIME_STATUS_UPPORT, TIME_STATUS_HOLDOVER, TIME_STATUS_LOCK, TIME_STATUS_SRC, TIME_IRQ_SET_DENIED, TIME_IRQ_STEP, TIME_IRQ_LOCK_LOST, TIME_IRQ_LOCKED, TIME_FAULT_TIME_LOSS, TIME_NOW_LO, TIME_NOW_HI, TIME_NOW_FINE, TIME_SET_LO, TIME_SET_HI, TIME_INTERVAL, TIME_STEP_LIM, TIME_LOCK_LIM, TIME_KI_SH, TIME_KP_SH, TIME_OFFSET, TIME_DELAY, TIME_RATE, TIME_ASYM, TIME_PPS, TIME_EXCH, TIME_LAPSED]

/-! ### STAND -/
def STAND_CTRL_CNT_CLR : Fld := ⟨0x18, 0x08, 0, 0, .sc, 0, 1, 4⟩
def STAND_STATUS_HOLD_EXP : Fld := ⟨0x18, 0x0C, 12, 12, .ro, 0, 1, 4⟩
def STAND_STATUS_FORMED : Fld := ⟨0x18, 0x0C, 11, 8, .ro, 0, 1, 4⟩
def STAND_STATUS_MEMBER : Fld := ⟨0x18, 0x0C, 7, 4, .ro, 0, 1, 4⟩
def STAND_STATUS_LEADER : Fld := ⟨0x18, 0x0C, 3, 0, .ro, 0, 1, 4⟩
def STAND_IRQ_HOLD_EXP : Fld := ⟨0x18, 0x10, 2, 2, .w1c, 0, 1, 4⟩
def STAND_IRQ_SREF_LATE : Fld := ⟨0x18, 0x10, 1, 1, .w1c, 0, 1, 4⟩
def STAND_IRQ_SREF_BAD : Fld := ⟨0x18, 0x10, 0, 0, .w1c, 0, 1, 4⟩
def STAND_REF_OFS : Fld := ⟨0x18, 0x20, 31, 24, .rwl, 0x28, 1, 4⟩
def STAND_MEAS_OFS : Fld := ⟨0x18, 0x20, 23, 16, .rwl, 0x28, 1, 4⟩
def STAND_MARGIN_MIN : Fld := ⟨0x18, 0x20, 15, 0, .rwl, 0x3e8, 1, 4⟩
def STAND_FOLLOW_T : Fld := ⟨0x18, 0x24, 31, 16, .rwl, 0x7d0, 1, 4⟩
def STAND_HOLDOVER : Fld := ⟨0x18, 0x24, 7, 0, .rwl, 0x14, 1, 4⟩
def STAND_SREF_SENT : Fld := ⟨0x18, 0x28, 31, 16, .ro, 0, 1, 4⟩
def STAND_SREF_USED : Fld := ⟨0x18, 0x28, 15, 0, .ro, 0, 1, 4⟩
def STAND_SMEAS_SENT : Fld := ⟨0x18, 0x2C, 31, 16, .ro, 0, 1, 4⟩
def STAND_SMEAS_USED : Fld := ⟨0x18, 0x2C, 15, 0, .ro, 0, 1, 4⟩
def STAND_CNT_LATE : Fld := ⟨0x18, 0x30, 31, 16, .ro, 0, 1, 4⟩
def STAND_CNT_DISCARDED : Fld := ⟨0x18, 0x30, 15, 0, .ro, 0, 1, 4⟩

/-- The fields of the STAND page. -/
def STAND_fields : List Fld :=
  [STAND_CTRL_CNT_CLR, STAND_STATUS_HOLD_EXP, STAND_STATUS_FORMED, STAND_STATUS_MEMBER, STAND_STATUS_LEADER, STAND_IRQ_HOLD_EXP, STAND_IRQ_SREF_LATE, STAND_IRQ_SREF_BAD, STAND_REF_OFS, STAND_MEAS_OFS, STAND_MARGIN_MIN, STAND_FOLLOW_T, STAND_HOLDOVER, STAND_SREF_SENT, STAND_SREF_USED, STAND_SMEAS_SENT, STAND_SMEAS_USED, STAND_CNT_LATE, STAND_CNT_DISCARDED]

/-! ### FBK -/
def FBK_CTRL_RELEASE : Fld := ⟨0x19, 0x08, 1, 1, .sc, 0, 1, 4⟩
def FBK_CTRL_HALT : Fld := ⟨0x19, 0x08, 0, 0, .sc, 0, 1, 4⟩
def FBK_STATUS_CAUSE : Fld := ⟨0x19, 0x0C, 7, 4, .ro, 0, 1, 4⟩
def FBK_STATUS_REL_BLOCKED : Fld := ⟨0x19, 0x0C, 3, 3, .ro, 0, 1, 4⟩
def FBK_STATUS_DRIVING : Fld := ⟨0x19, 0x0C, 2, 2, .ro, 0, 1, 4⟩
def FBK_STATUS_PIN : Fld := ⟨0x19, 0x0C, 1, 1, .ro, 0, 1, 4⟩
def FBK_STATUS_HALTED : Fld := ⟨0x19, 0x0C, 0, 0, .ro, 0, 1, 4⟩
def FBK_IRQ_REL_REFUSED : Fld := ⟨0x19, 0x10, 2, 2, .w1c, 0, 1, 4⟩
def FBK_IRQ_RELEASED : Fld := ⟨0x19, 0x10, 1, 1, .w1c, 0, 1, 4⟩
def FBK_IRQ_HALT_EVT : Fld := ⟨0x19, 0x10, 0, 0, .w1c, 0, 1, 4⟩
def FBK_CFG_SAFE_HALT : Fld := ⟨0x19, 0x20, 2, 2, .rwl, 0, 1, 4⟩
def FBK_CFG_HOUT_EN : Fld := ⟨0x19, 0x20, 1, 1, .rwl, 0, 1, 4⟩
def FBK_CFG_HIN_EN : Fld := ⟨0x19, 0x20, 0, 0, .rwl, 0x1, 1, 4⟩
def FBK_FWD_EN : Fld := ⟨0x19, 0x24, 31, 31, .rwl, 0, 1, 4⟩
def FBK_FWD_MINCLASS : Fld := ⟨0x19, 0x24, 26, 24, .rwl, 0x3, 1, 4⟩
def FBK_FWD_DROP : Fld := ⟨0x19, 0x24, 23, 16, .ro, 0, 1, 4⟩
def FBK_FWD_NODE : Fld := ⟨0x19, 0x24, 9, 0, .rwl, 0, 1, 4⟩
def FBK_HALT_TIME_TIME : Fld := ⟨0x19, 0x28, 31, 0, .ro, 0, 1, 4⟩

/-- The fields of the FBK page. -/
def FBK_fields : List Fld :=
  [FBK_CTRL_RELEASE, FBK_CTRL_HALT, FBK_STATUS_CAUSE, FBK_STATUS_REL_BLOCKED, FBK_STATUS_DRIVING, FBK_STATUS_PIN, FBK_STATUS_HALTED, FBK_IRQ_REL_REFUSED, FBK_IRQ_RELEASED, FBK_IRQ_HALT_EVT, FBK_CFG_SAFE_HALT, FBK_CFG_HOUT_EN, FBK_CFG_HIN_EN, FBK_FWD_EN, FBK_FWD_MINCLASS, FBK_FWD_DROP, FBK_FWD_NODE, FBK_HALT_TIME_TIME]

/-! ### CAN -/
def CAN_CTRL_FIFO_POP : Fld := ⟨0x1C, 0x08, 2, 2, .sc, 0, 1, 4⟩
def CAN_CTRL_RECOVER : Fld := ⟨0x1C, 0x08, 1, 1, .sc, 0, 1, 4⟩
def CAN_CTRL_INIT : Fld := ⟨0x1C, 0x08, 0, 0, .rw, 0x1, 1, 4⟩
def CAN_STATUS_ESTATE : Fld := ⟨0x1C, 0x0C, 9, 8, .ro, 0, 1, 4⟩
def CAN_STATUS_PEX : Fld := ⟨0x1C, 0x0C, 4, 4, .ro, 0, 1, 4⟩
def CAN_STATUS_ABORTED : Fld := ⟨0x1C, 0x0C, 3, 3, .ro, 0, 1, 4⟩
def CAN_STATUS_BUF_OVR : Fld := ⟨0x1C, 0x0C, 2, 2, .ro, 0, 1, 4⟩
def CAN_STATUS_TXDTO : Fld := ⟨0x1C, 0x0C, 1, 1, .ro, 0, 1, 4⟩
def CAN_STATUS_SYNC : Fld := ⟨0x1C, 0x0C, 0, 0, .ro, 0, 1, 4⟩
def CAN_IRQ_WUP : Fld := ⟨0x1C, 0x10, 7, 7, .w1c, 0, 1, 4⟩
def CAN_IRQ_CFG_ERR : Fld := ⟨0x1C, 0x10, 6, 6, .w1c, 0, 1, 4⟩
def CAN_IRQ_WR_DENIED : Fld := ⟨0x1C, 0x10, 5, 5, .w1c, 0, 1, 4⟩
def CAN_IRQ_FIFO_OVF : Fld := ⟨0x1C, 0x10, 4, 4, .w1c, 0, 1, 4⟩
def CAN_IRQ_FIFO : Fld := ⟨0x1C, 0x10, 3, 3, .w1c, 0, 1, 4⟩
def CAN_IRQ_BUSOFF : Fld := ⟨0x1C, 0x10, 2, 2, .w1c, 0, 1, 4⟩
def CAN_IRQ_TX_DONE : Fld := ⟨0x1C, 0x10, 1, 1, .w1c, 0, 1, 4⟩
def CAN_IRQ_RX_BUF : Fld := ⟨0x1C, 0x10, 0, 0, .w1c, 0, 1, 4⟩
def CAN_FAULT_BUSOFF : Fld := ⟨0x1C, 0x18, 0, 0, .w1c, 0, 1, 4⟩
def CAN_NBT_SJW : Fld := ⟨0x1C, 0x20, 30, 24, .rw, 0x2, 1, 4⟩
def CAN_NBT_TSEG2 : Fld := ⟨0x1C, 0x20, 22, 16, .rw, 0x2, 1, 4⟩
def CAN_NBT_TSEG1 : Fld := ⟨0x1C, 0x20, 15, 8, .rw, 0xb, 1, 4⟩
def CAN_NBT_BRP : Fld := ⟨0x1C, 0x20, 7, 0, .rw, 0x13, 1, 4⟩
def CAN_DBT_TDC : Fld := ⟨0x1C, 0x24, 31, 31, .rw, 0, 1, 4⟩
def CAN_DBT_TDCO : Fld := ⟨0x1C, 0x24, 30, 24, .rw, 0, 1, 4⟩
def CAN_DBT_SJW : Fld := ⟨0x1C, 0x24, 23, 20, .rw, 0, 1, 4⟩
def CAN_DBT_TSEG2 : Fld := ⟨0x1C, 0x24, 19, 16, .rw, 0, 1, 4⟩
def CAN_DBT_TSEG1 : Fld := ⟨0x1C, 0x24, 12, 8, .rw, 0, 1, 4⟩
def CAN_DBT_BRP : Fld := ⟨0x1C, 0x24, 4, 0, .rw, 0, 1, 4⟩
def CAN_CFG_REC_DELAY : Fld := ⟨0x1C, 0x28, 31, 24, .rw, 0xa, 1, 4⟩
def CAN_CFG_XCVR : Fld := ⟨0x1C, 0x28, 9, 8, .rw, 0, 1, 4⟩
def CAN_CFG_FD : Fld := ⟨0x1C, 0x28, 6, 6, .rw, 0, 1, 4⟩
def CAN_CFG_ONESHOT : Fld := ⟨0x1C, 0x28, 5, 5, .rw, 0, 1, 4⟩
def CAN_CFG_AUTO_REC : Fld := ⟨0x1C, 0x28, 4, 4, .rw, 0x1, 1, 4⟩
def CAN_CFG_NOMATCH : Fld := ⟨0x1C, 0x28, 3, 3, .rw, 0x1, 1, 4⟩
def CAN_CFG_MODE : Fld := ⟨0x1C, 0x28, 1, 0, .rw, 0, 1, 4⟩
def CAN_REC : Fld := ⟨0x1C, 0x2C, 23, 16, .ro, 0, 1, 4⟩
def CAN_TEC : Fld := ⟨0x1C, 0x2C, 15, 8, .ro, 0, 1, 4⟩
def CAN_FSEL : Fld := ⟨0x1C, 0x30, 5, 0, .rw, 0, 1, 4⟩
def CAN_FID_EN : Fld := ⟨0x1C, 0x34, 31, 31, .rw, 0, 1, 4⟩
def CAN_FID_IDE : Fld := ⟨0x1C, 0x34, 30, 30, .rw, 0, 1, 4⟩
def CAN_FID_RTR : Fld := ⟨0x1C, 0x34, 29, 29, .rw, 0, 1, 4⟩
def CAN_FID_ID : Fld := ⟨0x1C, 0x34, 28, 0, .rw, 0, 1, 4⟩
def CAN_FMASK_DEST : Fld := ⟨0x1C, 0x38, 31, 30, .rw, 0, 1, 4⟩
def CAN_FMASK_MASK : Fld := ⟨0x1C, 0x38, 28, 0, .rw, 0, 1, 4⟩
def CAN_BCFG : Fld := ⟨0x1C, 0x3C, 31, 0, .rw, 0, 1, 4⟩
def CAN_BPEND : Fld := ⟨0x1C, 0x40, 31, 0, .w1s, 0, 1, 4⟩
def CAN_BABORT : Fld := ⟨0x1C, 0x44, 31, 0, .w1s, 0, 1, 4⟩
def CAN_BDONE : Fld := ⟨0x1C, 0x48, 31, 0, .w1c, 0, 1, 4⟩
def CAN_FIFO_CNT : Fld := ⟨0x1C, 0x4C, 6, 0, .ro, 0, 1, 4⟩
def CAN_WSEL : Fld := ⟨0x1C, 0x50, 5, 0, .rw, 0, 1, 4⟩
def CAN_WHDR_FDF : Fld := ⟨0x1C, 0x54, 31, 31, .rw, 0, 1, 4⟩
def CAN_WHDR_BRS : Fld := ⟨0x1C, 0x54, 30, 30, .rw, 0, 1, 4⟩
def CAN_WHDR_IDE : Fld := ⟨0x1C, 0x54, 29, 29, .rw, 0, 1, 4⟩
def CAN_WHDR_ID : Fld := ⟨0x1C, 0x54, 28, 0, .rw, 0, 1, 4⟩
def CAN_TS : Fld := ⟨0x1C, 0x58, 31, 0, .ro, 0, 1, 4⟩
def CAN_WDATA : Fld := ⟨0x1C, 0x5C, 31, 0, .rw, 0, 16, 4⟩
def CAN_WEND_DLC : Fld := ⟨0x1C, 0x9C, 31, 28, .rw, 0, 1, 4⟩
def CAN_WEND_RTR : Fld := ⟨0x1C, 0x9C, 27, 27, .rw, 0, 1, 4⟩
def CAN_WEND_FIFO_LOST : Fld := ⟨0x1C, 0x9C, 15, 0, .ro, 0, 1, 4⟩

/-- The fields of the CAN page. -/
def CAN_fields : List Fld :=
  [CAN_CTRL_FIFO_POP, CAN_CTRL_RECOVER, CAN_CTRL_INIT, CAN_STATUS_ESTATE, CAN_STATUS_PEX, CAN_STATUS_ABORTED, CAN_STATUS_BUF_OVR, CAN_STATUS_TXDTO, CAN_STATUS_SYNC, CAN_IRQ_WUP, CAN_IRQ_CFG_ERR, CAN_IRQ_WR_DENIED, CAN_IRQ_FIFO_OVF, CAN_IRQ_FIFO, CAN_IRQ_BUSOFF, CAN_IRQ_TX_DONE, CAN_IRQ_RX_BUF, CAN_FAULT_BUSOFF, CAN_NBT_SJW, CAN_NBT_TSEG2, CAN_NBT_TSEG1, CAN_NBT_BRP, CAN_DBT_TDC, CAN_DBT_TDCO, CAN_DBT_SJW, CAN_DBT_TSEG2, CAN_DBT_TSEG1, CAN_DBT_BRP, CAN_CFG_REC_DELAY, CAN_CFG_XCVR] ++
  [CAN_CFG_FD, CAN_CFG_ONESHOT, CAN_CFG_AUTO_REC, CAN_CFG_NOMATCH, CAN_CFG_MODE, CAN_REC, CAN_TEC, CAN_FSEL, CAN_FID_EN, CAN_FID_IDE, CAN_FID_RTR, CAN_FID_ID, CAN_FMASK_DEST, CAN_FMASK_MASK, CAN_BCFG, CAN_BPEND, CAN_BABORT, CAN_BDONE, CAN_FIFO_CNT, CAN_WSEL, CAN_WHDR_FDF, CAN_WHDR_BRS, CAN_WHDR_IDE, CAN_WHDR_ID, CAN_TS, CAN_WDATA, CAN_WEND_DLC, CAN_WEND_RTR, CAN_WEND_FIFO_LOST]

/-! ### NET -/
def NET_CTRL_RECLAIM : Fld := ⟨0x1E, 0x08, 0, 0, .sc, 0, 1, 4⟩
def NET_STATUS_CLAIM : Fld := ⟨0x1E, 0x0C, 1, 0, .ro, 0, 1, 4⟩
def NET_IRQ_TP_NEED : Fld := ⟨0x1E, 0x10, 6, 6, .w1c, 0, 1, 4⟩
def NET_IRQ_TP_ABORT : Fld := ⟨0x1E, 0x10, 5, 5, .w1c, 0, 1, 4⟩
def NET_IRQ_TP_TX : Fld := ⟨0x1E, 0x10, 4, 4, .w1c, 0, 1, 4⟩
def NET_IRQ_TP_RX : Fld := ⟨0x1E, 0x10, 3, 3, .w1c, 0, 1, 4⟩
def NET_IRQ_LEFT : Fld := ⟨0x1E, 0x10, 2, 2, .w1c, 0, 1, 4⟩
def NET_IRQ_JOINED : Fld := ⟨0x1E, 0x10, 1, 1, .w1c, 0, 1, 4⟩
def NET_IRQ_CLAIMED : Fld := ⟨0x1E, 0x10, 0, 0, .w1c, 0, 1, 4⟩
def NET_IRQ_LOST : Fld := ⟨0x1E, 0x10, 7, 7, .w1c, 0, 1, 4⟩
def NET_FAULT_NET_ADDR_LOST : Fld := ⟨0x1E, 0x18, 0, 0, .w1c, 0, 1, 4⟩
def NET_CFG_EN : Fld := ⟨0x1E, 0x20, 31, 31, .rwl, 0, 1, 4⟩
def NET_CFG_PASS : Fld := ⟨0x1E, 0x20, 30, 30, .rwl, 0, 1, 4⟩
def NET_CFG_CAN : Fld := ⟨0x1E, 0x20, 24, 24, .rwl, 0, 1, 4⟩
def NET_CFG_BAM_GAP : Fld := ⟨0x1E, 0x20, 23, 16, .rwl, 0x32, 1, 4⟩
def NET_CFG_LEAVE_T : Fld := ⟨0x1E, 0x20, 15, 8, .rwl, 0, 1, 4⟩
def NET_CFG_PREF_SA : Fld := ⟨0x1E, 0x20, 7, 0, .rwl, 0, 1, 4⟩
def NET_LO_NAME : Fld := ⟨0x1E, 0x24, 31, 0, .rwl, 0, 1, 4⟩
def NET_HI_NAME : Fld := ⟨0x1E, 0x28, 31, 0, .rwl, 0, 1, 4⟩
def NET_OWN_VALID : Fld := ⟨0x1E, 0x2C, 8, 8, .ro, 0, 1, 4⟩
def NET_OWN_SA : Fld := ⟨0x1E, 0x2C, 7, 0, .ro, 0, 1, 4⟩
def NET_PSEL : Fld := ⟨0x1E, 0x30, 7, 0, .rw, 0, 1, 4⟩
def NET_LO_PNAME : Fld := ⟨0x1E, 0x34, 31, 0, .ro, 0, 1, 4⟩
def NET_HI_PNAME : Fld := ⟨0x1E, 0x38, 31, 0, .ro, 0, 1, 4⟩
def NET_PSTAT_VALID : Fld := ⟨0x1E, 0x3C, 31, 31, .ro, 0, 1, 4⟩
def NET_PSTAT_AGE : Fld := ⟨0x1E, 0x3C, 15, 0, .ro, 0, 1, 4⟩
def NET_SSEL : Fld := ⟨0x1E, 0x40, 1, 0, .rw, 0, 1, 4⟩
def NET_SCTRL_CMD : Fld := ⟨0x1E, 0x44, 31, 28, .wo, 0, 1, 4⟩
def NET_SCTRL_KIND : Fld := ⟨0x1E, 0x44, 25, 24, .rw, 0, 1, 4⟩
def NET_SCTRL_DA : Fld := ⟨0x1E, 0x44, 7, 0, .rw, 0, 1, 4⟩
def NET_SSTAT_STATE : Fld := ⟨0x1E, 0x48, 31, 28, .ro, 0, 1, 4⟩
def NET_SSTAT_ABORT : Fld := ⟨0x1E, 0x48, 27, 20, .ro, 0, 1, 4⟩
def NET_SSTAT_DONE : Fld := ⟨0x1E, 0x48, 19, 0, .ro, 0, 1, 4⟩
def NET_SPGN : Fld := ⟨0x1E, 0x4C, 17, 0, .rw, 0, 1, 4⟩
def NET_SLEN : Fld := ⟨0x1E, 0x50, 26, 0, .rw, 0, 1, 4⟩
def NET_SIDX : Fld := ⟨0x1E, 0x54, 8, 0, .rw, 0, 1, 4⟩
def NET_SDATA : Fld := ⟨0x1E, 0x58, 31, 0, .rw, 0, 1, 4⟩
def NET_CNT_REFUSED : Fld := ⟨0x1E, 0x5C, 31, 16, .ro, 0, 1, 4⟩
def NET_CNT_IGNORED : Fld := ⟨0x1E, 0x5C, 15, 0, .ro, 0, 1, 4⟩

/-- The fields of the NET page. -/
def NET_fields : List Fld :=
  [NET_CTRL_RECLAIM, NET_STATUS_CLAIM, NET_IRQ_TP_NEED, NET_IRQ_TP_ABORT, NET_IRQ_TP_TX, NET_IRQ_TP_RX, NET_IRQ_LEFT, NET_IRQ_JOINED, NET_IRQ_CLAIMED, NET_IRQ_LOST, NET_FAULT_NET_ADDR_LOST, NET_CFG_EN, NET_CFG_PASS, NET_CFG_CAN, NET_CFG_BAM_GAP, NET_CFG_LEAVE_T, NET_CFG_PREF_SA, NET_LO_NAME, NET_HI_NAME, NET_OWN_VALID, NET_OWN_SA, NET_PSEL, NET_LO_PNAME, NET_HI_PNAME, NET_PSTAT_VALID, NET_PSTAT_AGE, NET_SSEL, NET_SCTRL_CMD, NET_SCTRL_KIND, NET_SCTRL_DA] ++
  [NET_SSTAT_STATE, NET_SSTAT_ABORT, NET_SSTAT_DONE, NET_SPGN, NET_SLEN, NET_SIDX, NET_SDATA, NET_CNT_REFUSED, NET_CNT_IGNORED]

/-! ### GW -/
def GW_STATUS_HELD : Fld := ⟨0x1F, 0x0C, 2, 0, .ro, 0, 1, 4⟩
def GW_IRQ_REFUSED : Fld := ⟨0x1F, 0x10, 1, 1, .w1c, 0, 1, 4⟩
def GW_IRQ_REQ : Fld := ⟨0x1F, 0x10, 0, 0, .w1c, 0, 1, 4⟩
def GW_CFG_EN : Fld := ⟨0x1F, 0x20, 31, 31, .rwl, 0, 1, 4⟩
def GW_CFG_WR_EN : Fld := ⟨0x1F, 0x20, 30, 30, .rwl, 0, 1, 4⟩
def GW_CFG_KEY : Fld := ⟨0x1F, 0x20, 7, 0, .rwl, 0xe5, 1, 4⟩
def GW_SA_HI : Fld := ⟨0x1F, 0x24, 15, 8, .rwl, 0xfd, 1, 4⟩
def GW_SA_LO : Fld := ⟨0x1F, 0x24, 7, 0, .rwl, 0, 1, 4⟩
def GW_CNT_REFUSED : Fld := ⟨0x1F, 0x28, 31, 16, .ro, 0, 1, 4⟩
def GW_CNT_DONE : Fld := ⟨0x1F, 0x28, 15, 0, .ro, 0, 1, 4⟩

/-- The fields of the GW page. -/
def GW_fields : List Fld :=
  [GW_STATUS_HELD, GW_IRQ_REFUSED, GW_IRQ_REQ, GW_CFG_EN, GW_CFG_WR_EN, GW_CFG_KEY, GW_SA_HI, GW_SA_LO, GW_CNT_REFUSED, GW_CNT_DONE]

end Sys2Proof.Machine.R
end

