-- ==== Sys2Proof/Machine/FltTab.lean ====
section
/-! DEFINITION. The fault sources of R355 and R532: indices, default classes, reactions and retry profiles, which are events
(R533), and the FAULT bit that shows each (R95). -/

namespace Sys2Proof.Machine

/-! The index of each source (R355); a channel source is `srcCh n offset`. -/

/-- The index of the source at `off` of channel `n` (R355). -/
def srcCh (n off : Nat) : Nat := 0x40 + 0x40 * n + off

def srcBootTimeout : Nat := 0x00
def srcRefFail : Nat := 0x01
def srcSysUnlock : Nat := 0x02
def srcPwmUnlock : Nat := 0x03
def srcLinkUnlock : Nat := 0x04
def srcMonCclk : Nat := 0x05
def srcMonPclk : Nat := 0x06
def srcMonAclk : Nat := 0x07
def srcMonCanclk : Nat := 0x08
def srcMonLcore : Nat := 0x09
def srcMonRclk : Nat := 0x0A
def srcMonAonclk : Nat := 0x0B
def srcHspiCrc : Nat := 0x0C
def srcHspiFrame : Nat := 0x0D
def srcDomFail : Nat := 0x0E
def srcEccUncorr : Nat := 0x0F
def srcEccRate : Nat := 0x10
def srcOtpMargin : Nat := 0x11
def srcOtpIntegrity : Nat := 0x12
def srcLockstep : Nat := 0x13
def srcLodge : Nat := 0x14
def srcCfgCrc : Nat := 0x15
def srcSupV : Nat := 0x16
def srcTempWarnCore : Nat := 0x1C
def srcTempTripCore : Nat := 0x1D
def srcTempWarnPhy : Nat := 0x1E
def srcTempTripPhy : Nat := 0x1F
def srcScxAmp (m : Nat) : Nat := 0x20 + 2 * m
def srcScxTrack (m : Nat) : Nat := 0x21 + 2 * m
def srcLnkDown (p : Nat) : Nat := 0x24 + p
def srcLnkErr (p : Nat) : Nat := 0x28 + p
def srcCanBusoff (m : Nat) : Nat := 0x2C + m
def srcNetAddrLost : Nat := 0x2E
def srcTimeLoss : Nat := 0x2F
def srcRootLost : Nat := 0x30
def srcFabTimeout : Nat := 0x31
def srcStestDue : Nat := 0x32

/-! Offsets of the channel sources. -/

def oLoopLate : Nat := 0x00
def oLoopNofb : Nat := 0x01
def oLoopNonfinite : Nat := 0x02
def oLoopHb : Nat := 0x03
def oHoFail : Nat := 0x04
def oSyncLoss : Nat := 0x05
def oGateConflict : Nat := 0x06
def oShort2 : Nat := 0x07
def oVds : Nat := 0x08
def oBstUv : Nat := 0x0E
def oBrkOvertime : Nat := 0x11
def oOfsRange : Nat := 0x12
def oCmpHs : Nat := 0x13
def oCmpWin : Nat := 0x16
def oBusOv : Nat := 0x19
def oBusUv : Nat := 0x1A
def oSelftestFail : Nat := 0x1B
def oLimpNopos : Nat := 0x1C
def oSpiErr : Nat := 0x1D
def oSpiStale : Nat := 0x1E
def oObsNoconv : Nat := 0x1F
def oObsRes : Nat := 0x20
def oObsAngle : Nat := 0x21
def oObsSpeed : Nat := 0x22
def oObsHall : Nat := 0x23
def oObsIndex : Nat := 0x24
def oObsVbus : Nat := 0x25
def oObsPolFail : Nat := 0x26
def oSuFail : Nat := 0x27
def oGrvExc : Nat := 0x2D
def oGrvWdt : Nat := 0x2E
def oGrvOverrun : Nat := 0x2F
def oTempWarn : Nat := 0x30
def oTempTrip : Nat := 0x31
def oSupSafe : Nat := 0x32
def oStandRefLoss : Nat := 0x33
def oStandSlotMiss : Nat := 0x34

/-! The class codes of R357 and the reaction codes of R358. -/

def clsInfo : Nat := 0
def clsWarn : Nat := 1
def clsLimit : Nat := 2
def clsTrip : Nat := 3
def clsHalt : Nat := 4
def clsCrit : Nat := 5
def rNone : Nat := 0
def rFlag : Nat := 1
def rLimit : Nat := 2
def rSwitchOff : Nat := 3
def rLegOff : Nat := 4
def rBridgeOff : Nat := 5
def rShortLow : Nat := 6
def rShortHigh : Nat := 7
def rBrake : Nat := 8
def rChHalt : Nat := 9
def rDevHalt : Nat := 10
def rHoldReset : Nat := 11
def rDevReset : Nat := 12
def rSafe : Nat := 13
def rShort2 : Nat := 14

/-- The retry profiles of R355; `none` is the "—" of the tables. -/
inductive Profile where
  | a | b | c | l | none
deriving DecidableEq, Repr

/-- RETRY_MAX of a profile (R355). -/
def Profile.retryMax : Profile → Nat
  | .a => 15 | .b => 3 | .c => 3 | .l => 0 | .none => 0

/-- The FLTS.TIME word of a profile: WINDOW, QUIET, WAIT codes (R382). -/
def Profile.time : Profile → Nat × Nat × Nat
  | .a => (0x8A, 0x4A, 0x01)
  | .b => (0x8A, 0x4A, 0x0A)
  | .c => (0xCA, 0xC1, 0x81)
  | .l => (0xCA, 0xC1, 0x81)
  | .none => (0, 0, 0)

/-- Default class, reaction and profile of a device source (R355, R532). -/
def devSrcDefault (i : Nat) : Nat × Nat × Profile :=
  if i == srcRefFail then (clsWarn, rFlag, .l)
  else if i == srcSysUnlock || i == srcMonCclk || i == srcLodge then (clsCrit, rDevReset, .none)
  else if i == srcPwmUnlock || i == srcMonPclk then (clsTrip, rSafe, .l)
  else if i == srcMonAclk || i == srcCfgCrc then (clsTrip, rBridgeOff, .l)
  else if i == srcMonRclk then (clsCrit, rBridgeOff, .l)
  else if i == srcHspiFrame || i == srcEccRate || i == srcFabTimeout then (clsInfo, rFlag, .a)
  else if 0x28 ≤ i && i ≤ 0x2B then (clsInfo, rFlag, .a)
  else if i == srcOtpIntegrity then (clsCrit, rHoldReset, .none)
  else if i == srcLockstep then (clsCrit, rSafe, .none)
  else if i == srcSupV + 1 || i == srcTempTripCore then (clsHalt, rDevHalt, .c)
  else if i == srcSupV + 2 || i == srcSupV + 4 || i == srcSupV + 5 || i == srcTempTripPhy then (clsTrip, rBridgeOff, .c)
  else (clsWarn, rFlag, .a)

/-- Default class, reaction and profile of a channel source (R355, R532). -/
def chSrcDefault (o : Nat) : Nat × Nat × Profile :=
  if o == oLoopNofb || o == oLoopNonfinite || o == oLoopHb || o == oHoFail || o == oLimpNopos then (clsTrip, rBridgeOff, .c)
  else if o == oGateConflict || o == oSelftestFail then (clsTrip, rBridgeOff, .l)
  else if o == oShort2 then (clsTrip, rShort2, .l)
  else if oVds ≤ o && o < oBrkOvertime then (clsLimit, rSwitchOff, .b)
  else if o == oBrkOvertime then (clsWarn, rFlag, .b)
  else if oCmpHs ≤ o && o < oCmpWin then (clsLimit, rSwitchOff, .b)
  else if oCmpWin ≤ o && o ≤ oBusOv then (clsLimit, rFlag, .a)
  else if oObsNoconv ≤ o && o ≤ oObsHall then (clsTrip, rBridgeOff, .c)
  else if oSuFail ≤ o && o < oGrvExc then (clsTrip, rBridgeOff, .c)
  else if o == oGrvWdt || o == oTempTrip || o == oStandRefLoss || o == oStandSlotMiss then (clsTrip, rBridgeOff, .c)
  else if o == oSupSafe then (clsTrip, rSafe, .none)
  else (clsWarn, rFlag, .a)

/-- A device source: its channel is `none`; a channel source: `some n`. -/
def srcChan (i : Nat) : Option Nat := if i < 0x40 then none else some ((i - 0x40) / 0x40)

/-- The offset of a channel source. -/
def srcOff (i : Nat) : Nat := (i - 0x40) % 0x40

/-- There is a source of this index (R355). -/
def srcExists (i : Nat) : Bool :=
  decide (i ≤ 0x32) || (decide (0x40 ≤ i) && decide (i < 0x140) && decide (srcOff i ≤ 0x34))

/-- Default class, reaction and profile of a source. -/
def srcDefault (i : Nat) : Nat × Nat × Profile := if i < 0x40 then devSrcDefault i else chSrcDefault (srcOff i)

/-- The event sources of R533. -/
def srcIsEvent (i : Nat) : Bool :=
  if i < 0x40 then
    i == srcBootTimeout || i == srcHspiCrc || i == srcHspiFrame || i == srcDomFail || i == srcEccUncorr || i == srcEccRate ||
      (decide (0x28 ≤ i) && decide (i ≤ 0x2B)) || i == srcFabTimeout
  else
    let o := srcOff i
    o == oLoopLate || o == oLoopNonfinite || o == oHoFail || o == oGateConflict || o == oBrkOvertime || o == oOfsRange ||
      o == oSelftestFail || o == oObsNoconv || o == oObsPolFail || (decide (oSuFail ≤ o) && decide (o < oGrvExc)) ||
      o == oGrvExc || o == oGrvWdt || o == oGrvOverrun

/-- The class of the source is fixed (R532). -/
def srcFixedCls (i : Nat) : Bool :=
  if i < 0x40 then
    i == srcSysUnlock || i == srcPwmUnlock || i == srcMonCclk || i == srcMonPclk || i == srcOtpMargin ||
      i == srcOtpIntegrity || i == srcLockstep || i == srcLodge
  else srcOff i == oSupSafe

/-- The reaction of the source is fixed (R532). -/
def srcFixedReact (i : Nat) : Bool :=
  if i < 0x40 then srcFixedCls i && i != srcOtpMargin else srcOff i == oSupSafe || srcOff i == oShort2

/-- RETRY_MAX and FLTS.TIME of the source are fixed at 0 (R532). -/
def srcNoRetry (i : Nat) : Bool := (srcDefault i).2.2 == .none

/-- A value of the source is fixed: FLTS.INFO.FIXED (R532). -/
def srcFixed (i : Nat) : Bool := srcFixedCls i || srcFixedReact i

/-- The sticky FAULT bit of a source: its field, the instance and the bit within the field (R95 and the FAULT tables). -/
def srcFaultBit (i : Nat) : Option (Fld × Nat × Nat) :=
  if i < 0x40 then
    if i == srcBootTimeout then some (R.SYS_FAULT_BOOT_TIMEOUT, 0, 0)
    else if i == srcRefFail then some (R.CLK_FAULT_CLK_REF_FAIL, 0, 0)
    else if i == srcPwmUnlock then some (R.CLK_FAULT_CLK_PWM_UNLOCK, 0, 0)
    else if i == srcLinkUnlock then some (R.CLK_FAULT_CLK_LINK_UNLOCK, 0, 0)
    else if 0x06 ≤ i && i ≤ 0x0B then some (R.CLK_FAULT_CLKMON, 0, i - 6)
    else if i == srcHspiCrc then some (R.HSPI_FAULT_HSPI_CRC, 0, 0)
    else if i == srcHspiFrame then some (R.HSPI_FAULT_HSPI_FRAME, 0, 0)
    else if i == srcDomFail then some (R.PWR_FAULT_DOM_FAIL, 0, 0)
    else if i == srcEccUncorr then some (R.SUP_FAULT_ECC_UNCORR, 0, 0)
    else if i == srcEccRate then some (R.SUP_FAULT_ECC_CORR_RATE, 0, 0)
    else if i == srcOtpMargin then some (R.OTP_FAULT_OTP_MARGIN, 0, 0)
    else if i == srcLockstep then some (R.SUP_FAULT_SUP_LOCKSTEP, 0, 0)
    else if i == srcLodge then some (R.SUP_FAULT_SUP_LODGE, 0, 0)
    else if i == srcCfgCrc then some (R.SUP_FAULT_SUP_CFGCRC, 0, 0)
    else if srcSupV ≤ i && i ≤ 0x1B then some (R.SUP_FAULT_SUP_V, 0, i - srcSupV)
    else if 0x20 ≤ i && i ≤ 0x23 then
      some (if i % 2 == 0 then R.SCX_FAULT_SCX_AMP else R.SCX_FAULT_SCX_TRACK, (i - 0x20) / 2, 0)
    else if 0x24 ≤ i && i ≤ 0x27 then some (R.LNK_FAULT_LNK_DOWN, i - 0x24, 0)
    else if 0x28 ≤ i && i ≤ 0x2B then some (R.LNK_FAULT_LNK_ERR, i - 0x28, 0)
    else if 0x2C ≤ i && i ≤ 0x2D then some (R.CAN_FAULT_BUSOFF, i - 0x2C, 0)
    else if i == srcNetAddrLost then some (R.NET_FAULT_NET_ADDR_LOST, 0, 0)
    else if i == srcTimeLoss then some (R.TIME_FAULT_TIME_LOSS, 0, 0)
    else if i == srcRootLost then some (R.FAB_FAULT_FAB_ROOT_LOST, 0, 0)
    else if i == srcFabTimeout then some (R.FAB_FAULT_FAB_TIMEOUT, 0, 0)
    else if i == srcStestDue then some (R.SUP_FAULT_SUP_STEST_DUE, 0, 0)
    else none
  else
    let o := srcOff i
    let n := (i - 0x40) / 0x40
    if o == oLoopLate then some (R.CH_FAULT_LOOP_LATE, n, 0)
    else if o == oLoopNofb then some (R.LOOP_FAULT_LOOP_NOFB, n, 0)
    else if o == oLoopNonfinite then some (R.LOOP_FAULT_LOOP_NONFINITE, n, 0)
    else if o == oHoFail then some (R.CH_FAULT_CH_HO_FAIL, n, 0)
    else if o == oSyncLoss then some (R.PWM_FAULT_PWM_SYNC_LOSS, n, 0)
    else if o == oGateConflict then some (R.GD_FAULT_GATE_CONFLICT, n, 0)
    else if o == oShort2 then some (R.GD_FAULT_GD_SHORT2, n, 0)
    else if oVds ≤ o && o < oBstUv then some (R.GD_FAULT_GD_VDS, n, o - oVds)
    else if oBstUv ≤ o && o < oBrkOvertime then some (R.GD_FAULT_GD_BST_UV, n, o - oBstUv)
    else if o == oBrkOvertime then some (R.BRK_FAULT_BRK_OVERTIME, n, 0)
    else if o == oOfsRange then some (R.ADC_FAULT_ADC_OFS_RANGE, n, 0)
    else if oCmpHs ≤ o && o < oCmpWin then some (R.CMP_FAULT_CMP_HS, n, o - oCmpHs)
    else if oCmpWin ≤ o && o < oBusOv then some (R.CMP_FAULT_CMP_WIN, n, o - oCmpWin)
    else if o == oBusOv then some (R.CMP_FAULT_CMP_BUS_OV, n, 0)
    else if o == oBusUv then some (R.CMP_FAULT_CMP_BUS_UV, n, 0)
    else if o == oSelftestFail then some (R.CMP_FAULT_CMP_SELFTEST_FAIL, n, 0)
    else if o == oLimpNopos then some (R.CMP_FAULT_LIMP_NOPOS, n, 0)
    else if o == oSpiErr then some (R.POS_FAULT_POS_SPI_ERR, n, 0)
    else if o == oSpiStale then some (R.POS_FAULT_POS_SPI_STALE, n, 0)
    else if o == oObsNoconv then some (R.OBS_FAULT_OBS_NOCONV, n, 0)
    else if o == oObsRes then some (R.OBS_FAULT_OBS_RES, n, 0)
    else if o == oObsAngle then some (R.OBS_FAULT_OBS_ANGLE, n, 0)
    else if o == oObsSpeed then some (R.OBS_FAULT_OBS_SPEED, n, 0)
    else if o == oObsHall then some (R.OBS_FAULT_OBS_HALL, n, 0)
    else if o == oObsIndex then some (R.OBS_FAULT_OBS_INDEX, n, 0)
    else if o == oObsVbus then some (R.OBS_FAULT_OBS_VBUS, n, 0)
    else if o == oObsPolFail then some (R.OBS_FAULT_OBS_POL_FAIL, n, 0)
    else if oSuFail ≤ o && o < oGrvExc then some (R.SPT_FAULT_SU_FAIL, n, o - oSuFail)
    else if o == oGrvExc then some (R.GRV_FAULT_GRV_EXC, n, 0)
    else if o == oGrvWdt then some (R.GRV_FAULT_GRV_WDT, n, 0)
    else if o == oGrvOverrun then some (R.GRV_FAULT_GRV_OVERRUN, n, 0)
    else if o == oSupSafe then some (R.SUP_FAULT_SUP_SAFE, 0, n)
    else if o == oStandRefLoss then some (R.GANG_FAULT_STAND_REF_LOSS, n, 0)
    else if o == oStandSlotMiss then some (R.GANG_FAULT_STAND_SLOT_MISS, n, 0)
    else none

/-- A time code of R366 in PCLK cycles of 2.5 ns: m·10^e ms. -/
def timeCode (c : Nat) : Nat := (c % 64) * 10 ^ (c / 64 % 4) * 400000

/-- A time code of R366 in milliseconds. -/
def timeMs (c : Nat) : Nat := (c % 64) * 10 ^ (c / 64 % 4)

end Sys2Proof.Machine
end

