-- ==== Sys2Proof/Machine/State.lean ====
section
/-! DEFINITION. The state of the block as plain data, and its value after a power-on reset. A register of a page has its one
home in `regs`; what no register shows has a field of its own. -/

namespace Sys2Proof.Machine

/-- Why the block stops: the model stops on no command (every command has an effect), so no reason exists but this one. -/
inductive Fault where
  /-- Raised by no meaning: the manual names no event at which the block itself stops answering commands. Safe. -/
  | none
deriving DecidableEq, Repr

/-- Why a command is refused by the model. -/
inductive Refusal where
  /-- Raised by an arm of `exec` whose meaning is not written; the string is the row's mnemonic. Safe. -/
  | notModelled (mnemonic : String)
deriving DecidableEq, Repr

/-- The fields that a page's block type defines (R87). -/
def pageFields (p : Nat) : List Fld :=
  if 0x40 ≤ p then
    match (p - 0x40) % 16 with
    | 0 => R.CH_fields | 1 => R.PWM_fields | 2 => R.GD_fields | 3 => R.BRK_fields
    | 4 => R.ADC_fields | 5 => R.CMP_fields | 6 => R.POS_fields | 7 => R.LOOP_fields
    | 8 => R.PIDA_fields | 9 => R.PIDB_fields | 10 => R.OBS_fields | 11 => R.SPT_fields
    | 12 => R.GRV_fields | 13 => R.TRC_fields | 14 => R.DIAG_fields | _ => R.GANG_fields
  else
    match p with
    | 0x00 => R.SYS_fields | 0x01 => R.CLK_fields | 0x02 => R.PWR_fields | 0x03 => R.OTP_fields
    | 0x04 => R.FLT_fields | 0x05 => R.FLTS_fields | 0x06 => R.SUP_fields | 0x07 => R.HSPI_fields
    | 0x08 => R.MSPI_fields | 0x09 => R.MSPI_fields | 0x0A => R.SCX_fields | 0x0B => R.SCX_fields
    | 0x0C => R.JOB_fields | 0x0D => R.TRCR_fields | 0x0E => R.GPIO_fields | 0x0F => R.DBG_fields
    | 0x10 => R.FAB_fields | 0x11 => R.LNK_fields | 0x12 => R.LNK_fields | 0x13 => R.LNK_fields
    | 0x14 => R.LNK_fields | 0x15 => R.ROUTE_fields | 0x16 => R.TXN_fields | 0x17 => R.TIME_fields
    | 0x18 => R.STAND_fields | 0x19 => R.FBK_fields | 0x1C => R.CAN_fields | 0x1D => R.CAN_fields
    | 0x1E => R.NET_fields | 0x1F => R.GW_fields
    | _ => []

/-- The field covers the word at offset `off` of its page. -/
def Fld.covers (f : Fld) (off : Nat) : Bool :=
  decide (f.off ≤ off) && decide ((off - f.off) % f.stride = 0) && decide ((off - f.off) / f.stride < f.cnt)

/-- The fields of the word at byte address `a` of region 0x00. -/
def wordFields (a : Nat) : List Fld := (pageFields (a / 256)).filter (·.covers (a % 256))

/-- What the word at `a` holds after reset: the reset values of its fields (R85 to R88 and the pages' tables). The running view
(R91) starts at the values of the staged copies. -/
def regReset (a : Nat) : Word :=
  (wordFields (if 0x10000 ≤ a then a - 0x10000 else a)).foldl (fun w f => f.put w f.rst) 0#32

/-- The state of the fault collector's record of source `i` after reset (R355, R361). -/
def fltReset (i : Nat) : FltRec where
  cls := (srcDefault i).1
  react := (srcDefault i).2.1
  retryMax := (srcDefault i).2.2.retryMax
  wait := (srcDefault i).2.2.time.2.2
  quiet := (srcDefault i).2.2.time.2.1
  window := (srcDefault i).2.2.time.1
  otp := false
  st := .clear
  cond := false
  ends := []
  recov := Vector.replicate 4 0
  events := 0
  denied := false
  inCls := 0
  inReact := 0
  inQuiet := 0
  seq := 0
  met := 0
  named := 0
  acts := 0xF

/-- What a byte of a memory window holds where nothing has been written: 0, but the route table after reset drops every
destination (each entry 5, R421); the content of the RAMs after power-on is a DESIGN CHOICE (log 1). -/
def memReset (a : Nat) : BitVec 8 := if 0x340000 ≤ a ∧ a < 0x341000 ∧ a % 4 = 0 then 5#8 else 0#8

/-- A job slot after reset (R332). -/
def Job.reset : Job where
  st := .idle
  typ := 0
  tgt := 0
  origin := 0
  gen := 0
  cause := 0
  progress := 0
  noRes := false
  seq := 0
  params := []
  vals := []
  elapsed := 0
  since := 0
  detail := 0
  work := 0
  meas := []
  resting := false
  ended := false

/-- The state of the block. -/
structure State where
  /-- The commands that wait, first in, first out. The model's own. -/
  pending : List Instr
  /-- PCLK cycles since power-on: the clock that idle steps advance (log 11). The model's own. -/
  now : Nat
  /-- The counter that each use of a free value advances (log 3). The model's own. -/
  free : Nat
  /-- The part's factory fuses: true for the HL2880 (R2, R3). -/
  hl2880 : Bool
  /-- The words of region 0x00 by byte address, and the running copies at 0x01_0000 + address (R83, R91). -/
  regs : List (Nat × Word)
  /-- The bytes of the memory windows by address (R83, R96). -/
  mem : List Host.Cell
  /-- The device-wide PAGE register (R86). -/
  page : Nat
  /-- The fault collector's records by source index (R355, R361). -/
  flt : List (Nat × FltRec)
  /-- The order of the next raise (R359). -/
  fltSeq : Nat
  /-- The order at which the halt net asserted (R359). -/
  haltSeq : Nat
  /-- Ranger's halt request (R369, R371). -/
  rngHalt : Bool
  /-- A RELEASE waits for its test 2 µs later (R369). -/
  relPend : Bool
  /-- Another device holds HALT_N low, as far as the block has been told (R368; log 106). -/
  haltLow : Bool
  /-- Fault reports sent in the present 100 µs (R380). -/
  fwdSent : List Nat
  /-- Canopy time in units of 2^-32 fine counts (R443). -/
  canopy : Nat
  chan : Vector Chan 4
  jobs : Vector Job 16
  /-- The order of the next entry into a job queue (R337). -/
  jobSeq : Nat
  /-- JOB.BLK0 to BLK7 per origin, and JOB.RESULT (R336). -/
  jobBlk : Vector (Vector Word 8) 8
  jobRes : Vector Word 8
  mspi : Vector Mspi 2
  scx : Vector Scx 2
  link : Vector LinkPort 4
  fab : Fab
  tsy : Tsy
  can : Vector Can 2
  net : Net
  /-- Packets delivered to this device that no endpoint has served yet, with their ingress, oldest first (R412, R423). -/
  inq : List (Nat × Pkt)
  /-- Domain requests that wait, in order: domain, on or off, and whether an OTP_PROGRAM job asks (R62, R103). -/
  pwrQ : List (Nat × Bool × Bool)
  pwr : Pwr
  otp : Otp
  rng : Ranger
  tap : Tap
  /-- The bytes of the last host SPI frame on HSDO, the status byte first (R110). -/
  hspiOut : List (BitVec 8)
  /-- Bits [5:2] of the next status byte: what the last frame reported (R111). -/
  hspiPrev : Nat
deriving DecidableEq, Repr

/-- The state right after a power-on reset. -/
def State.reset : State where
  pending := []
  now := 0
  free := 0
  hl2880 := false
  regs := []
  mem := []
  page := 0
  flt := []
  fltSeq := 0
  haltSeq := 0
  rngHalt := false
  relPend := false
  haltLow := false
  fwdSent := []
  canopy := 0
  chan := Vector.replicate 4 Chan.reset
  jobs := Vector.replicate 16 Job.reset
  jobSeq := 0
  jobBlk := Vector.replicate 8 (Vector.replicate 8 0#32)
  jobRes := Vector.replicate 8 0#32
  mspi := Vector.replicate 2 Mspi.reset
  scx := Vector.replicate 2 .reset
  link := Vector.replicate 4 LinkPort.reset
  fab := .reset
  tsy := .reset
  can := Vector.replicate 2 .reset
  net := .reset
  inq := []
  pwrQ := []
  pwr := .reset
  otp := .reset
  rng := .reset
  tap := .reset
  hspiOut := []
  hspiPrev := 0

end Sys2Proof.Machine
end

