-- ==== Sys2Proof/Machine/Ops.lean ====
section
/-! DEFINITION. The named operations over registers, memory windows, domains and channel records that every meaning uses. -/

namespace Sys2Proof.Machine

/-! ### Registers -/

/-- The word of region 0x00 or of the running view at byte address `a`. -/
def State.word (s : State) (a : Nat) : Word := mapGet regReset s.regs a

/-- The word at `a` becomes `w`. -/
def State.setWord (s : State) (a : Nat) (w : Word) : State := { s with regs := mapPut regReset s.regs a w }

/-- The value of a field of instance `i`. -/
def State.rd (s : State) (f : Fld) (i : Nat) : Nat := f.get (s.word (f.addr i))

/-- The value of a 32-bit field as a word. -/
def State.rdw (s : State) (f : Fld) (i : Nat) : Word := wd (s.rd f i)

/-- A one-bit field is 1. -/
def State.on (s : State) (f : Fld) (i : Nat) : Bool := s.rd f i != 0

/-- A field of instance `i` becomes `v`, modulo its width. -/
def State.wr (s : State) (f : Fld) (i v : Nat) : State := s.setWord (f.addr i) (f.put (s.word (f.addr i)) v)

/-- The running copy of an RWC field (R91). -/
def State.run (s : State) (f : Fld) (i : Nat) : Nat := f.get (s.word (f.runAddr i))

/-- The running copy of a 32-bit RWC field as a word. -/
def State.runw (s : State) (f : Fld) (i : Nat) : Word := wd (s.run f i)

/-- The running copy of an RWC field becomes `v`. -/
def State.runWr (s : State) (f : Fld) (i v : Nat) : State :=
  s.setWord (f.runAddr i) (f.put (s.word (f.runAddr i)) v)

/-- A field becomes 1 or 0. -/
def State.flag (s : State) (f : Fld) (i : Nat) (b : Bool) : State := s.wr f i (if b then 1 else 0)

/-- The bits of `m` set in a field. -/
def State.orBits (s : State) (f : Fld) (i m : Nat) : State := s.wr f i (s.rd f i ||| m)

/-- The bits of `m` clear in a field. -/
def State.clrBits (s : State) (f : Fld) (i m : Nat) : State := s.wr f i (s.rd f i - (s.rd f i &&& m))

/-- Bit `k` of a field becomes `b`. -/
def State.putBit (s : State) (f : Fld) (i k : Nat) (b : Bool) : State :=
  if b then s.orBits f i (2 ^ k) else s.clrBits f i (2 ^ k)

/-- Bit `k` of a field is 1. -/
def State.bit (s : State) (f : Fld) (i k : Nat) : Bool := (s.rd f i).testBit k

/-- A saturating counter counts one. -/
def State.inc (s : State) (f : Fld) (i : Nat) : State :=
  if s.rd f i + 1 < f.size then s.wr f i (s.rd f i + 1) else s

/-- A saturating counter counts `k`. -/
def State.incBy (s : State) (f : Fld) (i k : Nat) : State := s.wr f i (min (s.rd f i + k) (f.size - 1))

/-- A wrapping counter counts one. -/
def State.incWrap (s : State) (f : Fld) (i : Nat) : State := s.wr f i (s.rd f i + 1)

/-- The lowest `k` fields of a list of (field, value) writes. -/
def State.wrs (s : State) (i : Nat) : List (Fld × Nat) → State
  | [] => s
  | (f, v) :: l => (s.wr f i v).wrs i l

/-- Every word of the pages that meet `p` back at its reset value, staged and running alike (R88, R92). -/
def State.resetPages (s : State) (p : Nat → Bool) : State :=
  { s with regs := mapClear s.regs fun a => p (a / 256 % 256) }

/-- Page `p` is locked (LOCK.LOCKED of the common layout, R85, R92). -/
def State.locked (s : State) (p : Nat) : Bool := (s.word (p * 256 + 0x1C)).getLsbD 0

/-- LOCK.WR_DENIED of page `p` sets (R85, R89). -/
def State.wrDenied (s : State) (p : Nat) : State := s.setWord (p * 256 + 0x1C) (s.word (p * 256 + 0x1C) ||| 2#32)

/-! ### Memory windows -/

/-- The byte of a window at `a`. -/
def State.byte (s : State) (a : Nat) : BitVec 8 := mapGet memReset s.mem a

/-- The word of a window at `a`, least significant byte at the lowest address. -/
def State.memWord (s : State) (a : Nat) : Word :=
  (s.byte (a + 3)) ++ (s.byte (a + 2)) ++ (s.byte (a + 1)) ++ (s.byte a)

/-- A byte of a window becomes `b`. -/
def State.setByte (s : State) (a : Nat) (b : BitVec 8) : State := { s with mem := mapPut memReset s.mem a b }

/-- A word of a window becomes `w`. -/
def State.setMemWord (s : State) (a : Nat) (w : Word) : State :=
  (((s.setByte a (w.extractLsb' 0 8)).setByte (a + 1) (w.extractLsb' 8 8)).setByte (a + 2) (w.extractLsb' 16 8)).setByte
    (a + 3) (w.extractLsb' 24 8)

/-- Consecutive words of a window, from `a` up. -/
def State.setMemWords (s : State) (a : Nat) : List Word → State
  | [] => s
  | w :: l => (s.setMemWord a w).setMemWords (a + 4) l

/-- `k` consecutive words of a window, from `a` up. -/
def State.memWords (s : State) (a : Nat) : Nat → List Word
  | 0 => []
  | k + 1 => s.memWord a :: s.memWords (a + 4) k

/-- The bytes of [lo, hi) back at what an unwritten byte reads as. -/
def State.clearMem (s : State) (lo hi : Nat) : State :=
  { s with mem := mapClear s.mem fun a => decide (lo ≤ a) && decide (a < hi) }

/-- The address of word `w` of Grove program RAM of channel `n` (R83). -/
def pramAddr (n w : Nat) : Nat := 0x100000 + 0x10000 * n + 4 * w

/-- The address of word `w` of Grove data RAM of channel `n` (R83). -/
def dramAddr (n w : Nat) : Nat := 0x140000 + 0x10000 * n + 4 * w

/-- The address of word `w` of the trace RAM of channel `n` (R83). -/
def tramAddr (n w : Nat) : Nat := 0x200000 + 0x10000 * n + 4 * w

/-! ### Time and free values -/

/-- Canopy ticks (R443): 2.5 ns each, 64 bits. -/
def State.ticks (s : State) : Nat := s.canopy / 2 ^ 37

/-- The low 32 bits of Canopy time. -/
def State.ticksLo (s : State) : Nat := s.ticks % 2 ^ 32

/-- A value the manual leaves undefined (log 3). -/
def State.anyVal (s : State) : Word := Config.freeValue s.free

/-- The next free value is another. -/
def State.used (s : State) : State := { s with free := s.free + 1 }

/-! ### Domains, channels, ports -/

/-- The domains in the order of R62. -/
def dLink : Nat := 4
def dCan : Nat := 5
def dTrace : Nat := 6
def dOtpw : Nat := 7

/-- OTP_PROGRAM among the job types (R334). -/
def jOtp : Nat := 7

/-- Domain `d` is on and ready (PWR.DOM_STATE.ON). -/
def State.domOn (s : State) (d : Nat) : Bool := s.bit R.PWR_DOM_STATE_ON 0 d

/-- Channel `n` is enabled by the factory fuses (R2). -/
def State.chOk (s : State) (n : Nat) : Bool := !(s.hl2880 && decide (2 ≤ n))

/-- Channel `n` is powered. -/
def State.chOn (s : State) (n : Ch) : Bool := s.domOn n.val

/-- The effect `f` on channel `n` if it is powered; nothing reaches an off domain (R28). -/
def State.whenCh (s : State) (n : Ch) (f : State → State) : State := if s.chOn n then f s else s

/-- The state of channel `n` (R135): OFF while its domain is off. -/
def State.chState (s : State) (n : Ch) : ChState :=
  if s.chOn n then ChState.ofCode (s.rd R.CH_STATUS_STATE n.val) else .off

/-- The record of channel `n`. -/
def State.ch (s : State) (n : Ch) : Chan := s.chan.get n

/-- The record of channel `n` becomes `c`. -/
def State.setCh (s : State) (n : Ch) (c : Chan) : State := { s with chan := s.chan.set n.val c }

/-- The record of channel `n` changed by `g`. -/
def State.modCh (s : State) (n : Ch) (g : Chan → Chan) : State := s.setCh n (g (s.ch n))

/-- The four channels. -/
def chans : List Ch := [0, 1, 2, 3]

/-- `f` on every channel in turn. -/
def State.forCh (s : State) (f : Ch → State → State) : State := f 3 (f 2 (f 1 (f 0 s)))

/-- A link port is in ACTIVE, its domain on (R394). -/
def State.portActive (s : State) (p : Nat) : Bool := s.domOn dLink && decide (s.rd R.LNK_STATUS_STATE p = 4)

/-- The device's node ID while it is valid (R407). -/
def State.nodeId (s : State) : Option Nat :=
  if s.on R.FAB_NODE_ID_VALID 0 then some (s.rd R.FAB_NODE_ID_ID 0) else none

/-- Event bit `b` of the Grove core of channel `n` sets (R316); a core whose channel is off has none. -/
def State.grvEvent (s : State) (n : Ch) (b : Nat) : State :=
  s.whenCh n fun s => s.orBits R.GRV_EVT_PEND n.val (2 ^ b)

/-- The record of job slot `k`. -/
def State.job (s : State) (k : Fin 16) : Job := s.jobs.get k

/-- The record of job slot `k` becomes `j`. -/
def State.setJob (s : State) (k : Fin 16) (j : Job) : State := { s with jobs := s.jobs.set k.val j }

/-- The sixteen job slots. -/
def slots : List (Fin 16) := [0, 1, 2, 3, 4, 5, 6, 7, 8, 9, 10, 11, 12, 13, 14, 15]

/-- The six switches. -/
def swAll : Sw := 0x3F

/-- The high sides. -/
def swHigh : Sw := 0x07

/-- The low sides. -/
def swLow : Sw := 0x38

/-- The switch of phase `x`, high or low. -/
def swOf (x : Nat) (low : Bool) : Sw := BitVec.ofNat 6 (2 ^ (if low then x + 3 else x))

/-- Both switches of each leg of which one is in `m`. -/
def swLegs (m : Sw) : Sw :=
  let l := (m ||| (m >>> 3)) &&& swHigh
  l ||| (l <<< 3)

/-- The legs, as three bits, of which a switch is in `m`. -/
def legsOf (m : Sw) : BitVec 3 := (m ||| (m >>> 3)).truncate 3

end Sys2Proof.Machine
end

