-- ==== Sys2Proof/Machine/FabCore.lean ====
section
/-! DEFINITION. How a packet finds its way inside the device: the decision of R412 to R414, the drop of R417. -/

namespace Sys2Proof.Machine

/-- The ingress of a packet that a local initiator or endpoint sends (R416). -/
def fromHost : Nat := 4
def fromGrove (n : Nat) : Nat := 5 + n
def fromLodge : Nat := 9

/-- Slot `i` of a directed route (R408). -/
def routeSlot (r : Word) (i : Nat) : Nat := (r.toNat >>> (2 * i)) % 4

/-- Slot `i` of a directed route becomes port `p`. -/
def setRouteSlot (r : Word) (i p : Nat) : Word :=
  wd (r.toNat - (r.toNat &&& (3 <<< (2 * i))) + ((p % 4) <<< (2 * i)))

/-- The EGRESS code of the route table entry of `d` (R439). -/
def State.routeEntry (s : State) (d : Nat) : Nat :=
  if d = 0x3FF then 5 else (s.memWord (0x340000 + 4 * d)).toNat % 8

/-- The record of link port `p`. -/
def State.lp (s : State) (p : Ch) : LinkPort := s.link.get p

/-- The record of link port `p` becomes `l`. -/
def State.setLp (s : State) (p : Ch) (l : LinkPort) : State := { s with link := s.link.set p.val l }

/-- The record of link port `p` changed by `g`. -/
def State.modLp (s : State) (p : Ch) (g : LinkPort → LinkPort) : State := s.setLp p (g (s.lp p))

/-- Length L of R409: header, padded payload, trailer, in bytes. -/
def Pkt.bytes (k : Pkt) : Nat := (if k.dr then 16 else 12) + 4 * ((k.len + 3) / 4) + 4

/-- The credits a packet needs (R399). -/
def Pkt.credits (k : Pkt) : Nat := (k.bytes + 15) / 16

/-- A packet waits on egress port `p` for PACKET_TRANSMIT_START (R416); `buf`: it still fills the receive buffer of its ingress. -/
def State.egress (s : State) (p ing : Nat) (buf : Bool) (k : Pkt) : State :=
  if h : p < 4 then s.modLp ⟨p, h⟩ fun l => { l with egress := l.egress ++ [⟨ing, buf, k⟩] } else s

/-- Port `p` sends `y`: the running disparity goes on from what it stood at, turned by what the port sent by itself since (R388, R392). -/
def State.transmit (s : State) (p : Ch) (y : Sym) : State :=
  s.modLp p fun l =>
    let r := codeLine y.chars (xor l.disp (Config.fillTurns p.val s.now))
    { l with tx := some y, line := r.1, disp := r.2 }

/-- A packet that came in on port `ing` leaves its receive buffer: CUM counts its credits modulo 1,024 (R399). -/
def State.freed (s : State) (ing : Nat) (k : Pkt) : State :=
  if h : ing < 4 then
    s.modLp ⟨ing, h⟩ fun l =>
      { l with cum := l.cum.set! (k.vc % 4) ((l.cum.toList.getD (k.vc % 4) 0 + k.credits) % 1024) }
  else s

/-- A packet is delivered locally: it waits for the endpoint that serves it (R412, R423). -/
def State.deliver (s : State) (ing : Nat) (k : Pkt) : State := { s with inq := s.inq ++ [(ing, k)] }

/-- Packets may go to port `p`: it is in ACTIVE (R412), or in BERT or LOOP, where they wait in their queues (R405). -/
def State.portHolds (s : State) (p : Nat) : Bool :=
  s.portActive p || (s.domOn dLink && decide (6 ≤ s.rd R.LNK_STATUS_STATE p))

/-- A packet is forwarded on `p` if that port takes packets and is not its ingress (R405, R412). -/
def State.canForward (s : State) (p ing : Nat) : Bool := decide (p < 4) && s.portHolds p && decide (p ≠ ing)

/-- A broadcast: directed-route packets carry DST 0x3FF too, but their route decides (R411 to R413). -/
def Pkt.bcast (k : Pkt) : Bool := !k.dr && k.dst == 0x3FF

/-- The capture and the count of a drop (R417, R441). -/
def State.dropNote (s : State) (ing cause : Nat) (k : Pkt) : State :=
  let s := (s.inc R.ROUTE_DROPPED 0).wr R.ROUTE_IRQ_DROP 0 1
  if s.on R.ROUTE_CAP_VALID 0 then s
  else s.wrs 0 [(R.ROUTE_CAP_VALID, 1), (R.ROUTE_CAP_CAUSE, cause), (R.ROUTE_CAP_INPORT, ing % 4),
    (R.ROUTE_CAP_DST, k.dst), (R.ROUTE_CAP_SRC, k.src)]

/-- The response to a request: R410. -/
def Pkt.response (k : Pkt) (me : Option Nat) (status : Nat) (data : List Word) (len : Nat) : Pkt :=
  { k with rsp := true, status := status, dst := k.src, src := me.getD 0x3FF, ptr := k.hops, data := data, len := len,
           pst := false }

/-- Which way a packet goes: to which ports, whether to the device itself, or why it is dropped (R412 to R414); with it the
packet as it goes on, or as it stands when it is dropped. -/
inductive Way where
  | ports (l : List Nat) (me : Bool) (k : Pkt)
  | drop (cause : Nat) (k : Pkt)
deriving DecidableEq, Repr

/-- An entry acts as drop: 5, 6 and 7, and a port that the HL2880 lacks (R417, R439). -/
def State.dropEntry (s : State) (e : Nat) : Bool := decide (5 ≤ e) || (s.hl2880 && (e == 2 || e == 3))

/-- The decision for a packet of ingress `ing` (R407, R412, R413, R414, R417). -/
def State.way (s : State) (ing : Nat) (k : Pkt) : Way :=
  if k.dr then
    if k.rsp then
      if k.ptr = 0 then .ports [] true k
      else
        let p := routeSlot k.route (k.ptr - 1)
        if s.canForward p 0xF then .ports [p] false { k with ptr := k.ptr - 1 } else .drop 4 k
    else
      let k := if ing < 4 ∧ 0 < k.ptr then { k with route := setRouteSlot k.route (k.ptr - 1) ing } else k
      if k.ptr = k.hops then .ports [] true k
      else
        let p := routeSlot k.route k.ptr
        if s.canForward p ing then .ports [p] false { k with ptr := k.ptr + 1 } else .drop 4 k
  else if k.dst = 0x3FF then
    if 4 ≤ ing ∧ s.nodeId = none then .drop 5 k
    else .ports ((List.range 4).filter fun p => s.canForward p ing && s.bit R.ROUTE_TREE 0 p) true k
  else
    match s.nodeId with
    | none => .drop 5 k
    | some me =>
      if k.dst = me then .ports [] true k
      else
        let e := s.routeEntry k.dst
        if e = 4 ∨ s.dropEntry e = true then .drop 1 k else if s.canForward e ing then .ports [e] false k else .drop 2 k

/-- A packet leaves on the ports of `l`, or only its receive buffer. -/
def State.goOut (s : State) (ing : Nat) (l : List Nat) (k : Pkt) : State :=
  match l with
  | [] => s.freed ing k
  | p :: l => l.foldl (fun s p => s.egress p ing false k) (s.egress p ing true k)

/-- A packet goes where `way` sends it. -/
def State.go (s : State) (ing : Nat) (w : Way) : State :=
  match w with
  | .drop _ _ => s
  | .ports l me k =>
    let s := s.goOut ing l k
    if me then s.deliver ing k else s

/-- A response without data goes back to the sender of `k`; dropped silently if it has no way. -/
def State.answer (s : State) (k : Pkt) (status : Nat) : State :=
  let r := { k.response s.nodeId status [] 0 with ptr := k.ptr }
  match s.way fromLodge r with
  | .ports l me k => s.go fromLodge (.ports l me k)
  | .drop _ _ => s

/-- A request that waits for an answer (R408, R411). -/
def Pkt.asks (k : Pkt) : Bool := !k.rsp && !k.pst && !k.bcast

/-- An EVT as the tables have it: posted, on VC0, with a record of R425 of its length (R410, R411, R425). -/
def Pkt.evtValid (k : Pkt) : Bool :=
  let code := (k.data.getD 0 0#32).toNat / 2 ^ 24
  k.vc == 0 && !k.asks && decide (1 ≤ code) && decide (code ≤ 4) && k.len == (if code = 4 then 16 else 8)

/-- A HALT as the table has it: posted, on VC0, of 4 bytes, without a directed route (R410, R411). -/
def Pkt.haltValid (k : Pkt) : Bool := k.vc == 0 && !k.asks && !k.dr && k.len == 4

/-- No endpoint serves the packet: TYPE 0x9 to 0xF, an EVT or a HALT that breaks its table (R411). -/
def Pkt.nameless (k : Pkt) : Bool :=
  !k.rsp && (decide (9 ≤ k.typ) || (k.typ == 3 && !k.evtValid) || (k.typ == 8 && !k.haltValid))

/-- A packet for this device arrives (R411, R423): an invalid type is turned away, and so is a non-posted request beyond 64 held ones. -/
def State.arrive (s : State) (ing : Nat) (k : Pkt) : State :=
  if k.nameless then (if k.asks then s.answer k 5 else s.dropNote ing 3 k)
  else if k.asks && decide (64 ≤ (s.inq.filter fun e => e.2.asks).length) then (s.inc R.TXN_CNT_IN_BUSY 0).answer k 4
  else s.deliver ing k

/-- A packet is routed, and dropped under R417 where it has no way: a non-posted request whose SRC is not 0x3FF is answered with
NO_ROUTE, and that response is dropped silently if it has no way either. -/
def State.route (s : State) (ing : Nat) (k : Pkt) : State :=
  match s.way ing k with
  | .ports l me k =>
    let s := s.goOut ing l k
    if me then s.arrive ing k else s
  | .drop cause k =>
    let s := (s.dropNote ing cause k).freed ing k
    if !k.asks || k.src == 0x3FF then s else (s.inc R.ROUTE_NOROUTE_TX 0).answer k 1

/-- A packet of a local initiator is routed, if PD_LINK is on: Trail lives there. -/
def State.send (s : State) (ing : Nat) (k : Pkt) : State := if s.domOn dLink then s.route ing k else s

/-- The port runs at cable rate. -/
def State.cableRate (s : State) (p : Ch) : Bool := s.on R.LNK_STATUS_RATE p.val

/-- The Understory tokens of a port now, in 1/1,600 byte: UCAP percent of 100 MB/s, or of 25 MB/s, up to 1,024 bytes (R416). -/
def State.tokens (s : State) (p : Ch) : Nat :=
  let l := s.lp p
  let pct := s.rd R.FAB_UCAP 0 / 2 ^ (8 * p.val) % 128
  min (1024 * 1600) (l.bucket + (s.now - l.bucketAt) * pct * (if s.cableRate p then 1 else 4))

/-- The bucket of every port stands at its present filling, before its rate changes (R416). -/
def State.settleBuckets (s : State) : State :=
  { s with link := Vector.ofFn fun p => { s.lp p with bucket := s.tokens p, bucketAt := s.now } }

/-- A posted event record of R425, from this device to node `dst`. -/
def evtPkt (me : Option Nat) (dst : Nat) (data : List Word) : Pkt where
  vc := 0
  typ := 3
  dst := dst
  src := me.getD 0x3FF
  tag := 0
  rsp := false
  dr := false
  pst := true
  status := 0
  hops := 0
  ptr := 0
  len := 4 * data.length
  arg := 0
  route := 0
  data := data

end Sys2Proof.Machine
end

