-- ==== Sys2Proof/Machine/JobCore.lean ====
section
/-! DEFINITION. The job table: states, resources, endings (R332 to R340). The commands that arrive as blocks are in Jobs. -/

namespace Sys2Proof.Machine

/-- Parameter word `i` + 1. -/
def Job.par (j : Job) (i : Nat) : Word := j.params.getD i 0#32

/-- The causes of JOB.SLOT (R342). -/
def cCancelled : Nat := 1
def cDomainOff : Nat := 2
def cState : Nat := 3
def cParam : Nat := 4
def cPrecond : Nat := 5
def cFault : Nat := 6
def cHalt : Nat := 7
def cTimeout : Nat := 8
def cMeasure : Nat := 9
def cResource : Nat := 0xA
def cDetail : Nat := 0xB

/-- The job types of R334; OTP_PROGRAM, `jOtp`, stands in Ops. -/
def jIdent : Nat := 1
def jDiag : Nat := 2
def jSelftest : Nat := 3
def jGateChar : Nat := 4
def jHoming : Nat := 5
def jTrace : Nat := 6
def jReenum : Nat := 8
def jBert : Nat := 9

/-- The slot holds a job that has not ended (R338). -/
def Job.live (j : Job) : Bool := j.st != .idle && j.st != .done && j.st != .failed

/-- The job holds its resource (R333): from RUNNING until it ends, SUSPENDED included unless reached from QUEUED. -/
def Job.holds (j : Job) : Bool :=
  j.st == .running || j.st == .suspending || j.st == .cancelling || (j.st == .suspended && !j.noRes)

/-- The resource of a job: 0-3 channel n, 4-7 trace unit n, 8 OTP, 9 enumeration, 10-13 port p (R339). -/
def Job.resource (j : Job) : Nat :=
  if j.typ ≤ jHoming then j.tgt
  else if j.typ = jTrace then 4 + j.tgt
  else if j.typ = jOtp then 8
  else if j.typ = jReenum then 9
  else 10 + j.tgt

/-- The job holds the bridge of channel `n` (R333). -/
def Job.holdsBridge (j : Job) (n : Ch) : Bool := decide (j.typ ≤ jGateChar) && decide (j.tgt = n.val) && j.holds

/-- Some job holds the bridge of channel `n`. -/
def State.bridgeJob (s : State) (n : Ch) : Bool := s.jobs.toList.any (·.holdsBridge n)

/-- The slot of the job that holds resource `r`. -/
def State.holder (s : State) (r : Nat) : Option (Fin 16) :=
  slots.find? fun k => (s.job k).holds && decide ((s.job k).resource = r)

/-- The states whose time ELAPSED counts (R342). -/
def JobSt.counted : JobSt → Bool
  | .running => true | .suspending => true | .cancelling => true | _ => false

/-- Job `j` enters state `st` at time `now`. -/
def Job.enter (j : Job) (now : Nat) (st : JobSt) : Job :=
  { j with st := st, elapsed := if j.st.counted then j.elapsed + (now - j.since) else j.elapsed, since := now }

/-- ELAPSED of R342: 1 ms steps, saturating. -/
def Job.elapsedMs (j : Job) (now : Nat) : Nat :=
  min ((j.elapsed + (if j.st.counted then now - j.since else 0)) / 400000) (2 ^ 32 - 1)

/-- The core that posted a job, for the JOB event of R337. -/
def State.jobEvent (s : State) (origin : Nat) : State :=
  if origin = 3 then s.grvEvent 0 10 else if origin = 4 then s.grvEvent 1 10
  else if origin = 5 then s.grvEvent 2 10 else if origin = 6 then s.grvEvent 3 10 else s

/-- PROGRESS of a job at work (R342, log 66): HOMING has two steps, the home event and rest; a single-shot TRACE_CAPTURE counts its records from
the trigger on, FABRIC_REENUM the ports read and the bursts written of those known so far, LINK_BERT its time; the other types store theirs. -/
def State.jobPct (s : State) (j : Job) : Nat :=
  if !j.holds then j.progress
  else if j.typ = jReenum then
    let left := s.fab.todo.length + s.fab.writes.length + 1
    max j.progress (100 * s.fab.edges.length / (s.fab.edges.length + left))
  else if h : j.tgt < 4 then
    let c := s.ch ⟨j.tgt, h⟩
    if j.typ = jHoming then (if c.spt.homeCap then 50 else 0)
    else if j.typ = jTrace then
      match c.trc.post with
      | some k => (s.rd R.TRC_CAP_POST j.tgt - k) * 100 / max 1 (s.rd R.TRC_CAP_POST j.tgt)
      | none => 0
    else if j.typ = jBert then min 99 (j.elapsedMs s.now * 100 / max 1 ((j.params.getD 1 0#32).toNat % 65536))
    else j.progress
  else j.progress

/-- The job of slot `k` reaches DONE, its work complete, or FAILED: IRQ_FLAG.ENDED and the JOB event of a Grove origin (R337, R342). -/
def State.jobEnd (s : State) (k : Fin 16) (st : JobSt) (cause : Nat) : State :=
  let j := s.job k
  let s := s.setJob k { (j.enter s.now st) with cause := cause, progress := if st = .done then 100 else s.jobPct j }
  (s.orBits R.JOB_IRQ_ENDED 0 (2 ^ k.val)).jobEvent j.origin

/-- Comparator k of R211 is inactive with sense topology `se` (R200). -/
def cmpInactive (se k : Nat) : Bool :=
  (se == 1 && (k == 2 || k == 5 || k == 8)) || (se == 2 && decide (k < 9) && k % 3 != 0)

/-- The comparator of R206 under test enters its start state: the first eleven are those of R200, of which the inactive have none; 18 to 20 are
BST_UV A to C and 21 to 23 BST_WARN A to C, which start tripped (R204). -/
def State.cmpStart (s : State) (n : Ch) (c : Nat) : State :=
  let i := n.val
  if c < 11 then
    (if cmpInactive (s.run R.CH_MODE_SENSE i) c then s
      else (s.orBits R.CMP_STATUS_TRIPPED i (2 ^ c)).orBits R.CMP_STATUS_BAND_PENDING i (2 ^ c))
  else if 18 ≤ c ∧ c < 21 then s.orBits R.GD_STATUS_BST_UV i (2 ^ (c - 18))
  else if 21 ≤ c ∧ c < 24 then s.orBits R.GD_STATUS_BST_WARN i (2 ^ (c - 21))
  else s

/-- The HOMING job on channel `n` lets the generator go with target 0: the speed target, or the profile position as the position target
(R301, R340). -/
def State.homingStop (s : State) (n : Ch) : State :=
  let i := n.val
  let s := (s.wr R.SPT_STATUS_HOMING i 0).modCh n fun c => { c with homeRun := false }
  if s.run R.CH_MODE_TARGET i = 4 then
    let p := (s.ch n).spt.prof
    (s.wrs i [(R.SPT_PTGT_TURNS, ((p / 65536) % 2 ^ 32).toNat), (R.SPT_PTGT_FRAC, (p % 65536).toNat)]).modCh n fun c =>
      { c with spt.ptgt := p }
  else s.wr R.SPT_TGT i 0

/-- The ingress of trace unit `n` as a local initiator. -/
def fromTrace (n : Ch) : Nat := 10 + n.val

/-- A posted message of R424 from a trace unit: Understory, endpoint 4 (R350). -/
def tracePkt (me : Option Nat) (dst : Nat) (data : List Word) : Pkt :=
  { evtPkt me dst data with vc := 3, typ := 2, arg := 4 }

/-- The open stream packet of trace unit `n` is closed and sent (R350), to the destination that stood when it was opened (R354). -/
def State.trcClose (s : State) (n : Ch) : State :=
  let t := (s.ch n).trc
  if t.words.isEmpty then s
  else
    let p := t.head.toNat / 2 ^ 20 % 8 + 1
    let h := wd (t.head.toNat + t.words.length / p * 2 ^ 24)
    let s := s.modCh n fun c => { c with trc.words := [] }
    match t.dest with
    | some d => (s.incWrap R.TRCR_PKTS 0).send (fromTrace n) (tracePkt s.nodeId d (h :: t.first :: t.tick :: t.words))
    | none => s

/-- The enumeration in progress stops: IDs and routes assigned so far stay in force (R340). -/
def State.enumStop (s : State) : State :=
  let s := { s with fab.step := .idle, fab.answer := none, fab.todo := [], fab.writes := [], fab.fresh := [], fab.gone := [],
                    fab.full := false, fab.renum := false, fab.learn := false, fab.tables := [] }
  s.wr R.FAB_STATUS_ENUM_BUSY 0 0

/-- DIAG_OFFSTATE or GATE_CHAR lets go of the bridge of channel `n`: test currents, pulses and pre-charge end (R187, R189, R340). -/
def State.diagStop (s : State) (n : Ch) : State :=
  (s.wrs n.val [(R.DIAG_STATUS_BUSY, 0), (R.DIAG_STATUS_STEP, 0)]).modCh n fun c =>
    { c with diag.pulse := none, car.prePulses := 0, car.preLeft := 0 }

/-- What the cancel actions of R340 leave of the job of slot `k`, whichever way it ends: test currents, gates, the comparator in
progress, the generator target, trace writing, the programming pump, the port. -/
def State.jobStop (s : State) (k : Fin 16) : State :=
  let j := s.job k
  if !j.holds then s
  else if h : j.tgt < 4 then
    let n : Ch := ⟨j.tgt, h⟩
    if j.typ = jDiag ∨ j.typ = jGateChar then s.diagStop n
    else if j.typ = jSelftest then
      if s.on R.CMP_STATUS_SELFTEST_BUSY n.val then (s.wr R.CMP_STATUS_SELFTEST_BUSY n.val 0).cmpStart n j.work else s
    else if j.typ = jHoming then
      s.homingStop n
    else if j.typ = jTrace then (s.trcClose n).wrs n.val [(R.TRC_STATUS_ACTIVE, 0), (R.TRC_STATUS_STREAMING, 0)]
    else if j.typ = jOtp then { s with pwrQ := s.pwrQ ++ [(dOtpw, false, true)] }
    else if j.typ = jReenum then s.enumStop
    else if j.typ = jBert then
      let s := s.modLp n fun l => { l with bert := false }
      if s.rd R.LNK_STATUS_STATE j.tgt = 6 then s.wrs j.tgt [(R.LNK_STATUS_STATE, 5), (R.LNK_STATUS_BERT_SYNC, 0)] else s
    else s
  else if j.typ = jOtp then { s with pwrQ := s.pwrQ ++ [(dOtpw, false, true)] }
  else if j.typ = jReenum then s.enumStop
  else s

/-- The job of slot `k` fails with `cause`: the cancel actions are applied, then FAILED (R337, R338). -/
def State.jobFail (s : State) (k : Fin 16) (cause : Nat) : State :=
  ((s.setJob k { s.job k with progress := s.jobPct (s.job k) }).jobStop k).jobEnd k .failed cause

/-- Every job that meets `p` fails with `cause` (R338). -/
def State.jobsFail (s : State) (p : Job → Bool) (cause : Nat) : State :=
  slots.foldl (fun s k => if p (s.job k) then s.jobFail k cause else s) s

/-- The jobs that hold channel resource `n` fail with `cause`. -/
def State.chJobsFail (s : State) (n : Ch) (cause : Nat) : State :=
  s.jobsFail (fun j => j.holds && decide (j.resource = n.val)) cause

/-- The HOMING jobs of channel `n`, waiting and at work, fail with STATE: the channel leaves RUNNING, or its TARGET leaves 3 or 4 (R338). -/
def State.homingFail (s : State) (n : Ch) : State :=
  s.jobsFail (fun j => j.live && decide (j.typ = jHoming) && decide (j.tgt = n.val)) cState

/-- Every slot returns to IDLE with GEN 0 (R338, device reset). -/
def State.jobsReset (s : State) : State :=
  { s with jobs := Vector.replicate 16 Job.reset, jobSeq := 0, jobBlk := Vector.replicate 8 (Vector.replicate 8 0#32),
           jobRes := Vector.replicate 8 0#32 }

/-- The refusal codes of R335. -/
def noSlot : Word := 0xFFFFFFFF#32
def badCode : Word := 0xFFFFFFFE#32
def badTarget : Word := 0xFFFFFFFD#32
def badHandle : Word := 0xFFFFFFFC#32
def notAllowed : Word := 0xFFFFFFFB#32

/-- The handle of slot `k` (R332). -/
def State.handle (s : State) (k : Fin 16) : Word := wd (16 * (s.job k).gen + k.val)

/-- The target of a START is a channel or port the part has; types 7 and 8 ignore it (R334, R335). -/
def State.targetOk (s : State) (typ tgt : Nat) : Bool :=
  typ == jOtp || typ == jReenum || (decide (tgt < 4) && s.chOk tgt)

/-- A slot in IDLE: which one a START takes is open (log 55). -/
def State.freeSlot (s : State) : Option (Fin 16) :=
  let l := slots.filter fun k => (s.job k).st == .idle
  l[s.anyVal.toNat % l.length]?

/-- START (R334, R337). -/
def State.jobStart (s : State) (origin typ tgt : Nat) (params : List Word) : State × Word :=
  if typ = 0 ∨ 9 < typ then (s, badCode)
  else if !s.targetOk typ tgt then (s, badTarget)
  else match s.freeSlot with
    | none => (s, noSlot)
    | some k =>
      let g := ((s.job k).gen + 1) % 4096
      let j := { Job.reset with st := .queued, typ := typ, tgt := tgt, origin := origin, gen := g, seq := s.jobSeq,
                                params := params, since := s.now }
      let s := { s.used.setJob k j with jobSeq := s.jobSeq + 1 }
      (s, s.handle k)

/-- Ranger's request for a CMP_SELFTEST of channel `n`, started by the Lodge: it waits where no slot is free (R379). -/
def State.stestPost (s : State) (n : Ch) : State :=
  let (t, r) := s.jobStart 1 jSelftest n.val []
  let bit := BitVec.ofNat 4 (2 ^ n.val)
  if r = noSlot then { s with rng.stestReq := s.rng.stestReq ||| bit } else { t with rng.stestReq := t.rng.stestReq &&& ~~~ bit }

end Sys2Proof.Machine
end

