-- ==== Sys2Proof/Machine/ChanCore.lean ====
section
/-! DEFINITION. Channel states: entering one, and what armed means (R135, R136, R138). -/

namespace Sys2Proof.Machine

/-- The causes of CH.LAST (R145). -/
def byCommand : Nat := 1
def byCommit : Nat := 2
def bySuEnd : Nat := 3
def bySuFail : Nat := 4
def byStopCond : Nat := 5
def byReaction : Nat := 6
def byFaultEnd : Nat := 7
def byHalt : Nat := 8
def byLimp : Nat := 9
def byPrecharge : Nat := 10

/-- A STOP that waits for its boundary: CH.LAST takes the low eight bits, byCommand. -/
def byStop : Nat := 0x101

/-- States 4 to 10, ARMED to LIMP in code order (R364). -/
def ChState.fromArmed (c : ChState) : Bool := decide (4 ≤ c.code)

/-- ARMED, STARTING, RUNNING, STOPPING and LIMP: where a reaction of class TRIP leads to FAULT (R138). -/
def ChState.trips (c : ChState) : Bool := c == .armed || c == .starting || c == .running || c == .stopping || c == .limp

/-- The trigger of the trace unit of channel `n` fires if TRC.TRIG.SRC is `src` (R346). -/
def State.trcFire (s : State) (n : Ch) (src : Nat) : State :=
  s.whenCh n fun s =>
    if s.rd R.TRC_TRIG_SRC n.val = src && s.on R.TRC_STATUS_ACTIVE n.val then s.modCh n fun c => { c with trcHit := true }
    else s

/-! ### Nodes -/

/-- An unlisted node reads 0 (R261). -/
def nodeReset (_ : Nat) : Word := 0#32

/-- Node `k` of channel `n`. -/
def State.node (s : State) (n : Ch) (k : Nat) : Word := mapGet nodeReset (s.ch n).eng.nodes k

/-- Nodes written in one write-back cycle (R261). -/
def putNodes (m : List (Nat × Word)) : List (Nat × Word) → List (Nat × Word)
  | [] => m
  | (k, w) :: l => putNodes (mapPut nodeReset m k w) l

/-! ### Entering a state -/

/-- A hand-over in progress ends, the old sources staying in use (R144). -/
def State.hoEnd (s : State) (n : Ch) : State :=
  (s.wrs n.val [(R.CH_STATUS_HO_DEFER, 0), (R.CH_STATUS_HO_BLEND, 0)]).modCh n fun c =>
    { c with ho.fb := s.run R.CH_MODE_FB n.val, ho.fb2 := s.run R.CH_MODE_FB2 n.val, ho.ofs := 0, ho.last := 0 }

/-- The record of a channel whose loop engine stops: its slices leave the chain; estimators and injection end (R238, R242, R264, R271). -/
def Chan.engineStop (c : Chan) : Chan :=
  { c with
    eng.slices := c.eng.slices.map fun x => { x with active := false }
    obs.obs := c.obs.obs.stopped
    obs.hfi := c.obs.hfi.stopped
    obs.inj := Inj.reset
    obs.ran := false }

/-- The loop engine stops, and shows it in OBS.STATUS (R264, R271), TIMED_OUT standing (R270). -/
def State.engineStop (s : State) (n : Ch) : State :=
  (s.wrs n.val [(R.OBS_STATUS_OBS_STATE, 3), (R.OBS_STATUS_HFI_STATE, 3), (R.OBS_STATUS_INJECTING, 0)]).modCh n
    Chan.engineStop

/-- What waits for a boundary as a channel enters `tgt` (R138, R300): DISARM and STOP wait on in the states that accept them, in LIMP a STOP
for IDLE. -/
def pendAt (tgt : ChState) (p : Option (ChState × Nat)) : Option (ChState × Nat) :=
  match p with
  | some (.idle, c) => if tgt == .arming || tgt.trips then some (.idle, c) else none
  | some (.stopping, c) =>
    if tgt == .starting || tgt == .running then some (.stopping, c) else if tgt == .limp then some (.idle, byStop) else none
  | _ => none

/-- The record of a channel that enters `tgt`: a DISARM that still waits counts as received in FAULT (R138, log 144), limp mode keeps the
direction of the last q reference (R207), a trace has a gap. -/
def Chan.enter (c : Chan) (tgt : ChState) : Chan :=
  { c with
    pend := pendAt tgt c.pend
    disarmed := tgt == .fault && decide (c.pend = some (.idle, byCommand))
    failBy := none
    prot.limpSector := 0
    prot.limpBack := tgt == .limp && f32IsNeg (mapGet nodeReset c.eng.nodes 0x38)
    trc.gap := c.trc.gap || tgt == .limp
    trc.sgap := c.trc.sgap || tgt == .limp
    gang.waits := false }

/-- The limp controller takes the running copies as they stand at the entry to LIMP (R130). -/
def State.limpLatch (s : State) (n : Ch) : State :=
  let i := n.val
  s.modCh n fun c =>
    { c with
      prot.limpCfg := s.word (R.CMP_LIMP_CFG_PERIOD.runAddr i)
      prot.limpI := s.word (R.CMP_LIMP_I_IPK.runAddr i)
      prot.limpFb := (s.run R.CH_MODE_FB i, s.run R.CH_MODE_FB2 i) }

/-- Channel `n` enters state `tgt` for cause `cause`: STATE, LAST, STATE_CHG, the STATE event, and what R138 attaches to the
entry. -/
def State.toState (s : State) (n : Ch) (tgt : ChState) (cause : Nat) : State :=
  let i := n.val
  let fr := s.chState n
  let s := s.wrs i [(R.CH_STATUS_STATE, tgt.code), (R.CH_LAST_FROM, fr.code), (R.CH_LAST_TO, tgt.code),
    (R.CH_LAST_CAUSE, cause)]
  let s := if fr == tgt then s else ((s.wr R.CH_IRQ_STATE_CHG i 1).grvEvent n 3)
  let s := if fr != tgt && decide (s.rd R.TRC_TRIG_STATE i = tgt.code) then s.trcFire n 4 else s
  let s := if tgt == .fault || tgt == .halted || tgt == .limp || tgt == .hold || tgt == .stopping || tgt == .idle then s.hoEnd n else s
  let s := if tgt == .limp || tgt == .hold then s.engineStop n else s
  let s := if tgt == .halted || tgt == .hold then s.wr R.CH_STATUS_RUN_REQ i 0 else s
  let s := if fr == .starting && tgt != .fault then s.wr R.SPT_STATUS_SU_PHASE i 0 else s
  let s := if tgt == .stopping then s else s.wr R.SPT_STATUS_BRK_PHASE i 0
  let s := if tgt == .arming then s else s.wr R.GD_STATUS_PRECHG i 0
  let s := if tgt == .limp then (s.wr R.GRV_STATUS_WDT_ARMED i 0).wr R.CMP_STATUS_LIMP_ACTIVE i 1
           else s.wr R.CMP_STATUS_LIMP_ACTIVE i 0
  let s := s.modCh n fun c => c.enter tgt
  let s := if tgt == .limp then s.limpLatch n else s
  let s := if tgt == .idle && s.rng.stestReq.getLsbD i then s.stestPost n else s
  if fr == .running && tgt != .running then s.homingFail n else s

/-- Which of two requests that wait for one boundary it takes: DISARM before STOP, STOP before every other, else the later one (log 135). -/
def askWins (old : Option (ChState × Nat)) (new : ChState × Nat) : ChState × Nat :=
  match old with
  | some (.idle, c) => if new = (.idle, byCommand) then new else (.idle, c)
  | some (.stopping, c) => if new.1 = .idle then new else (.stopping, c)
  | _ => new

/-- A transition marked boundary is asked for: the next period boundary takes it (R138). -/
def State.ask (s : State) (n : Ch) (tgt : ChState) (cause : Nat) : State :=
  s.modCh n fun c => { c with pend := some (askWins c.pend (tgt, cause)) }

end Sys2Proof.Machine
end

