-- ==== Sys2Proof/Machine/Faults.lean ====
section
/-! DEFINITION. The fault collector as shared operations: a raise, an end, the halt net and the safe-state requests
(R355 to R371). -/

namespace Sys2Proof.Machine

/-- The record of source `i`. -/
def State.fr (s : State) (i : Nat) : FltRec := mapGet fltReset s.flt i

/-- The record of source `i` becomes `r`. -/
def State.setFr (s : State) (i : Nat) (r : FltRec) : State := { s with flt := mapPut fltReset s.flt i r }

/-- A source that R2 disables: one of CH2, CH3, port 2 or 3 on the HL2880 (R356). -/
def State.srcDisabled (s : State) (i : Nat) : Bool :=
  !srcExists i || s.hl2880 && (i == 0x26 || i == 0x27 || i == 0x2A || i == 0x2B || decide (0xC0 ≤ i))

/-- The source acts on channel `n` (R357). -/
def srcActs (i : Nat) (r : FltRec) (n : Ch) : Bool :=
  match srcChan i with
  | some c => decide (c = n.val) && r.acts.getLsbD n.val
  | none => r.acts.getLsbD n.val

/-- The sources in their fault state, with their records. -/
def State.inFault (s : State) : List (Nat × FltRec) := s.flt.filter fun e => e.2.st.inFault

/-- The sources in their fault state that act on channel `n`, which is enabled (R357). -/
def State.actsOn (s : State) (n : Ch) : List (Nat × FltRec) := if s.chOk n.val then s.inFault.filter fun e => srcActs e.1 e.2 n else []

/-- A fault of class TRIP, HALT or CRIT is in its fault state on channel `n` (R139). -/
def State.tripOn (s : State) (n : Ch) : Bool := (s.actsOn n).any fun e => decide (clsTrip ≤ e.2.inCls)

/-- A fault of class CRIT is in its fault state on channel `n` (R136, R138). -/
def State.critOn (s : State) (n : Ch) : Bool := (s.actsOn n).any fun e => e.2.inCls == clsCrit

/-- A source holds channel `n` in FAULT: class TRIP or above, the reaction CH_HALT, or the failure that put it there (R138). -/
def State.heldInFault (s : State) (n : Ch) : Bool :=
  ((s.actsOn n).any fun e => decide (clsTrip ≤ e.2.inCls) || e.2.inReact == rChHalt) ||
  (match (s.ch n).failBy with | some i => (s.fr i).st.inFault | none => false)

/-- The reaction acts on the gates: it is none of NONE, FLAG and LIMIT (R338). -/
def reactsOnGates (r : Nat) : Bool := decide (2 < r)

/-- Sources that fail a loop engine or a Grove core (R138, R256, R323). -/
def State.isFailure (s : State) (i : Nat) : Bool :=
  match srcChan i with
  | none => false
  | some n =>
    let o := srcOff i
    o == oLoopNonfinite || o == oLoopHb || o == oGrvWdt || (o == oGrvExc && s.on R.GRV_STATUS_WDT_ARMED n)

/-- Off requests of R180 held on channel `n`: the VDS comparators' switches and the low sides of the hard-short phases, or all six
with single-shunt sensing (R179). -/
def State.shortOff (s : State) (n : Ch) : Sw :=
  let c := s.ch n
  c.prot.vdsOff ||| (if c.prot.hsOff = 0 then 0 else if s.run R.CH_MODE_SENSE n.val = 2 then swAll else (c.prot.hsOff.zeroExtend 6) <<< 3)

/-- The switches for which comparator k of R211 requests off while it does, with sense topology `se` (R179, R200). -/
def cmpSwitches (se k : Nat) : Sw :=
  if k < 3 then (if se = 2 then swAll else swOf k true)
  else if k < 6 then (if se = 2 then swHigh else swOf (k - 3) false)
  else if k < 9 then (if se = 2 then swLow else swOf (k - 6) true)
  else swAll

/-- The switches that a comparator source names by itself (R358): its own switch, of a window source those of both its comparators. -/
def State.srcNames (s : State) (i : Nat) : Sw :=
  match srcChan i with
  | none => 0
  | some n =>
    let o := srcOff i
    let se := s.run R.CH_MODE_SENSE n
    if oVds ≤ o ∧ o < oBstUv then BitVec.ofNat 6 (2 ^ (o - oVds))
    else if oBstUv ≤ o ∧ o < oBrkOvertime then swOf (o - oBstUv) false
    else if oCmpHs ≤ o ∧ o < oCmpWin then cmpSwitches se (o - oCmpHs)
    else if oCmpWin ≤ o ∧ o < oBusOv then cmpSwitches se (o - oCmpWin + 3) ||| cmpSwitches se (o - oCmpWin + 6)
    else 0

/-- The switches whose held trips name a leg (R181): a hard-short trip with single-shunt sensing names none. -/
def State.legTrips (s : State) (n : Ch) : Sw :=
  let c := s.ch n
  c.prot.vdsOff ||| (if s.run R.CH_MODE_SENSE n.val = 2 then 0#6 else (c.prot.hsOff.zeroExtend 6) <<< 3)

/-- At least two legs are named in the mask. -/
def twoLegs (m : Sw) : Bool := decide (2 ≤ (legsOf m).cpop.toNat)

/-- The reaction that R181 selects for GD_SHORT2. -/
def State.short2React (s : State) (n : Ch) (m : Sw) : Nat :=
  if s.run R.GD_SHORT_SHORT2_ACTION n.val = 0 then rBridgeOff
  else if m &&& swLow = 0 then rShortLow
  else if m &&& swHigh = 0 then rShortHigh
  else rBridgeOff

/-- SUP_SAFE follows SAFE_REQn alone: it has no timers (R532). -/
def isSupSafe (i : Nat) : Bool := (srcChan i).isSome && srcOff i == oSupSafe

/-- The sticky FAULT bit of a source sets; the Grove FAULT event and the trace trigger of its channel follow a bit that was 0
(R95, R316, R346); SUP_SAFE has its bit in a page of the device, not in one of the channel's. -/
def State.setFaultBit (s : State) (i : Nat) : State :=
  match srcFaultBit i with
  | none => s
  | some (f, k, b) =>
    let was := s.bit f k b
    let s := s.orBits f k (2 ^ b)
    if was then s
    else if isSupSafe i then s
    else match srcChan i with
      | some 0 => (s.grvEvent 0 4).trcFire 0 3
      | some 1 => (s.grvEvent 1 4).trcFire 1 3
      | some 2 => (s.grvEvent 2 4).trcFire 2 3
      | some 3 => (s.grvEvent 3 4).trcFire 3 3
      | _ => s

/-- FBK.STATUS.PIN is the level of HALT_N: low while this device or another drives it (R384; log 106). -/
def State.haltPin (s : State) : State := s.flag R.FBK_STATUS_PIN 0 (!s.haltLow && !s.on R.FBK_STATUS_DRIVING 0)

/-- The halt net asserts for cause `cause` (R24, R368, R384): every channel outside OFF, HOLD and IDLE goes to HALTED, the jobs
that hold a channel end with HALT. -/
def State.haltAssert (s : State) (cause : Nat) : State :=
  if s.on R.FBK_STATUS_HALTED 0 then s
  else
    let s := s.wrs 0 [(R.FBK_STATUS_HALTED, 1), (R.FBK_STATUS_CAUSE, cause), (R.FBK_IRQ_HALT_EVT, 1),
      (R.FBK_HALT_TIME_TIME, s.ticksLo), (R.FBK_STATUS_REL_BLOCKED, 0),
      (R.FBK_STATUS_DRIVING, s.rd R.FBK_CFG_HOUT_EN 0)]
    let s := { s.haltPin with haltSeq := s.fltSeq, fltSeq := s.fltSeq + 1 }
    s.forCh fun n s =>
      s.whenCh n fun s =>
        let s := (s.chJobsFail n cHalt).grvEvent n 12
        let s := s.trcFire n 5
        let c := s.chState n
        if c == .off || c == .hold || c == .idle || (c == .fault && s.critOn n) then s else s.toState n .halted byHalt

/-- A fault report of R380 is sent, or dropped beyond eight within 100 µs. -/
def State.report (s : State) (i : Nat) (r : FltRec) : State :=
  if s.on R.FBK_FWD_EN 0 && decide (s.rd R.FBK_FWD_MINCLASS 0 ≤ r.inCls) then
    let recent := s.fwdSent.filter fun t => decide (s.now < t + 40000)
    if 8 ≤ recent.length then { s.inc R.FBK_FWD_DROP 0 with fwdSent := recent }
    else
      let s := { s with fwdSent := s.now :: recent }
      s.send fromLodge (evtPkt s.nodeId (s.rd R.FBK_FWD_NODE 0)
        [wd (0x01000000 + r.inCls * 2 ^ 16 + r.st.code * 2 ^ 12 + i), wd s.ticksLo])
  else s

/-- A loop-engine failure: every slice output reads 0 (R256). -/
def Chan.loopFail (c : Chan) : Chan :=
  { c with
    loopDead := true
    eng.slices := c.eng.slices.map fun x => { x with out := 0#32 }
    eng.nodes := putNodes c.eng.nodes ((List.range 6).map fun k => (0x47 + 0x10 * k, 0#32)) }

/-- A loop-engine failure of source `i`, masked or recurring though it may be (R256). -/
def State.loopFails (s : State) (i : Nat) : State :=
  if srcOff i == oLoopNonfinite || srcOff i == oLoopHb then
    match srcChan i with
    | none => s
    | some k => if h : k < 4 then s.whenCh ⟨k, h⟩ fun s => s.modCh ⟨k, h⟩ fun c => c.loopFail else s
  else s

/-- The stand of leader `n` leaves FORMED (R458). -/
def State.unform (s : State) (n : Ch) : State :=
  let i := n.val
  let s := s.modCh n fun c => { c with gang.pass := [] }
  if s.run R.CH_MODE_GANG i = 1 ∧ s.rd R.GANG_STATUS_SSTATE i = 2 then
    (s.wrs i [(R.GANG_STATUS_SSTATE, 1), (R.GANG_IRQ_UNFORMED, 1)]).putBit R.STAND_STATUS_FORMED 0 i false
  else s

/-- What the raise of source `i`, with the record `r`, does to channel `n` (R138, R357, R338): a failure that limp mode takes up never reaches the
gates by its reaction; each raise of STAND_SLOT_MISS unforms the stand (R458). -/
def State.raiseOn (s : State) (i : Nat) (r : FltRec) (n : Ch) : State :=
  if !srcActs i r n then s
  else
    s.whenCh n fun s =>
      let c := s.chState n
      let fail := s.isFailure i && (c == .running || c == .starting)
      let limp := fail && decide (s.run R.CH_MODE_LIMP n.val = 1)
      let s := if !limp && reactsOnGates r.inReact && !(decide (srcOff i = oSelftestFail) && (srcChan i).isSome) then
          s.chJobsFail n cFault else s
      let s := if decide (srcOff i = oStandSlotMiss) && (srcChan i).isSome then s.unform n else s
      let s := if r.inReact == rLimit then s.modCh n fun c => { c with prot.limitOff := true } else s
      if limp then
        (s.setFr i { s.fr i with acts := 0 }).toState n .limp byLimp
      else if fail then (s.toState n .fault byReaction).modCh n fun c => { c with failBy := some i }
      else if c.trips && (decide (clsTrip ≤ r.inCls) || r.inReact == rChHalt) then s.toState n .fault byReaction
      else s

/-- Ends of the source's fault state within the RETRY_WINDOW (R362). -/
def FltRec.tries (r : FltRec) (now : Nat) : Nat := (r.ends.filter fun e => decide (now ≤ e + timeCode r.window)).length

/-- The record at a raise: ACTIVE, or LATCHED under R362 with the escalation of R360, with the values it keeps (R365). -/
def State.raisedRec (s : State) (i : Nat) (named : Sw) (r : FltRec) : FltRec :=
  let latch := decide (r.retryMax ≤ r.tries s.now) || r.cls == clsCrit
  let latch := latch && !(decide (srcOff i = oSupSafe) && (srcChan i).isSome)
  let esc := latch && (srcChan i).isSome && r.cls == clsLimit
  let react := if r.react == rShort2 then
      (match srcChan i with
       | some 0 => s.short2React 0 named | some 1 => s.short2React 1 named
       | some 2 => s.short2React 2 named | some 3 => s.short2React 3 named | _ => rBridgeOff)
    else r.react
  { r with
    st := if latch then .latched else .active
    inCls := if esc then clsTrip else r.cls
    inReact := if esc then rBridgeOff else react
    inQuiet := r.quiet
    seq := s.fltSeq
    met := chans.foldl (fun m n => if (s.chState n).fromArmed then m ||| BitVec.ofNat 4 (2 ^ n.val) else m) 0
    named := named
    acts := 0xF }

/-- The capture of a raise in the FLT page (R381). -/
def State.capture (s : State) (i : Nat) (r : FltRec) : State :=
  let s := s.wr R.FLT_IRQ_RAISED 0 1
  let s := if r.st == .latched then s.wr R.FLT_IRQ_LATCHED 0 1 else s
  let s := if r.inCls != r.cls then s.wr R.FLT_IRQ_ESCALATED 0 1 else s
  let s := if s.on R.FLT_FIRST_VALID 0 then s
    else s.wrs 0 [(R.FLT_FIRST_VALID, 1), (R.FLT_FIRST_CLASS, r.inCls), (R.FLT_FIRST_INDEX, i),
      (R.FLT_FIRST_TIME_TIME, s.ticksLo)]
  s.wrs 0 [(R.FLT_LAST_CLASS, r.inCls), (R.FLT_LAST_INDEX, i)]

/-- A raise of source `i`, which acts on the channels of `acts`: R361, R362, R357 and what follows. -/
def State.raiseNew (s : State) (i : Nat) (named : Sw) (acts : BitVec 4) (r : FltRec) : State :=
  let r := { s.raisedRec i named r with acts := acts }
  let fail := s.isFailure i
  let s := { s.setFr i r with fltSeq := s.fltSeq + 1 }
  let s := s.setFaultBit i
  let s := s.capture i r
  let s := s.report i r
  let s := s.forCh fun n s => s.raiseOn i r n
  let s := match srcChan i with
    | some n => if fail && (srcOff i == oGrvWdt || srcOff i == oGrvExc) then s.wr R.GRV_STATUS_WDT_ARMED n 0 else s
    | none => s
  if r.inCls == clsHalt || r.inReact == rDevHalt then s.haltAssert 6 else s

/-- The condition of source `i` becomes present, or its event occurs, with the switches it names (R361): EVENTS counts it, a masked
source does no more, a source in its fault state takes it as a re-occurrence. -/
def State.raiseActs (s : State) (i : Nat) (named : Sw) (acts : BitVec 4) : State :=
  if s.srcDisabled i then s
  else
    let named := if named = 0 then s.srcNames i else named
    let s := s.loopFails i
    let r := s.fr i
    let r := { r with events := min (r.events + 1) 65535, cond := !srcIsEvent i }
    if r.st.inFault then
      let s := s.setFr i { r with named := r.named ||| named }
      if r.inReact == rLimit then
        s.forCh fun n s => if srcActs i r n then s.modCh n fun c => { c with prot.limitOff := true } else s
      else s
    else if r.react == rNone then s.setFr i { r with st := .masked }
    else s.raiseNew i named acts r

/-- `raiseActs` on every enabled channel (R357). -/
def State.raise (s : State) (i : Nat) (named : Sw) : State := s.raiseActs i named 0xF

/-- Source `o` of channel `n` is raised. -/
def State.raiseCh (s : State) (n : Ch) (o : Nat) (named : Sw) : State := s.raise (srcCh n.val o) named

/-- What lasts until the fault state of source `i` ends is dropped: off requests (R180, R201), the escalation shown by SHORT2 (R181). -/
def State.dropHeld (s : State) (i : Nat) : State :=
  match srcChan i with
  | none => s
  | some k =>
    if h : k < 4 then
      let n : Ch := ⟨k, h⟩
      let o := srcOff i
      if oVds ≤ o ∧ o < oBstUv then s.modCh n fun c => { c with prot.vdsOff := c.prot.vdsOff &&& ~~~ (BitVec.ofNat 6 (2 ^ (o - oVds))) }
      else if oCmpHs ≤ o ∧ o < oCmpWin then
        s.modCh n fun c => { c with prot.hsOff := c.prot.hsOff &&& ~~~ (BitVec.ofNat 3 (2 ^ (o - oCmpHs))) }
      else if oCmpWin ≤ o ∧ o < oBusOv then
        if s.run R.CMP_WIN_CFG_MODE k = 1 then
          s.modCh n fun c => { c with prot.winOff := c.prot.winOff &&& ~~~ (BitVec.ofNat 6 (9 * 2 ^ (o - oCmpWin))) }
        else s
      else if o = oShort2 then s.wr R.GD_STATUS_SHORT2 k 0
      else s
    else s

/-- The recovery counters of a fault state that ends (R364). -/
def FltRec.recovered (r : FltRec) (i : Nat) : Vector Nat 4 :=
  let up (v : Vector Nat 4) (k : Fin 4) : Vector Nat 4 := v.set k.val (min (v[k.val] + 1) 255)
  match srcChan i with
  | some _ => up r.recov 0
  | none =>
    if r.met = 0 then up r.recov 0
    else [0, 1, 2, 3].foldl (fun v k => if r.met.getLsbD k.val then up v k else v) r.recov

/-- The fault state of source `i` ends, to CLEAR, or to MASKED if its reaction is NONE by now (R361, R364). -/
def State.endRec (s : State) (i : Nat) : State :=
  let r := s.fr i
  let s := s.setFr i { r with
    st := if r.react == rNone then .masked else .clear
    ends := (s.now :: r.ends).take 15
    recov := r.recovered i
    named := 0
    acts := 0xF }
  (s.wr R.FLT_IRQ_ENDED 0 1).dropHeld i

/-- The condition of source `i` becomes absent; `fin` ends a fault state in QUIET whose QUIET_T is 0 (R361). -/
def State.condDrop (s : State) (i : Nat) (fin : State → State) : State :=
  let r := s.fr i
  let s := s.setFr i { r with cond := false }
  if r.st == .quiet && decide (timeCode r.inQuiet = 0) then fin s else s

/-- The condition of GD_SHORT2 of channel `n` follows the off requests held (R181). -/
def State.short2Update (s : State) (n : Ch) : State :=
  let i := srcCh n.val oShort2
  if (s.fr i).cond && !twoLegs (s.legTrips n) then s.condDrop i fun s => s.endRec i else s

/-- A fault state ends, with what its end lets go (R361, R180, R181). -/
def State.faultEnd (s : State) (i : Nat) : State :=
  let s := s.endRec i
  match srcChan i with
  | some 0 => s.short2Update 0 | some 1 => s.short2Update 1
  | some 2 => s.short2Update 2 | some 3 => s.short2Update 3 | _ => s

/-- The condition of a level source becomes absent: QUIET_T starts, or the state ends at once where it is 0 (R361). With the condition of TIME_LOSS
HOLD_EXP goes (R463). -/
def State.condOff (s : State) (i : Nat) : State :=
  let s := if i = srcTimeLoss then s.wr R.STAND_STATUS_HOLD_EXP 0 0 else s
  s.condDrop i fun s => s.faultEnd i

/-- Source `o` of channel `n` loses its condition. -/
def State.condOffCh (s : State) (n : Ch) (o : Nat) : State := s.condOff (srcCh n.val o)

/-- A level source's condition is set to `b`. -/
def State.condSet (s : State) (i : Nat) (b : Bool) : State :=
  if b then (if (s.fr i).cond then s else s.raise i 0) else (if (s.fr i).cond then s.condOff i else s)

/-- VSUP, VDRV and VIO are there: absent is what is not good (R41; log 160). -/
def State.supplied (s : State) : Bool := s.bit R.PWR_STATUS_GOOD 0 0 && s.bit R.PWR_STATUS_GOOD 0 1 && s.bit R.PWR_STATUS_GOOD 0 2

/-- FAULT_N is driven low: some source in its fault state has a class at or above PINCLASS (R367); also before boot is complete
and in the held reset (R36, R74). It is released in standby and while the device is not supplied (R39, R41). -/
def State.faultPinLow (s : State) : Bool :=
  s.supplied && s.pwr.mode != .standby && ((s.inFault.any fun e => decide (s.rd R.FLT_CTRL_PINCLASS 0 ≤ e.2.inCls)) || !s.on R.SYS_STATUS_BOOT_DONE 0)

/-- The highest class of a list of records in their fault state; 7 for none (R381). -/
def maxClass (l : List (Nat × FltRec)) : Nat :=
  if l.isEmpty then 7 else l.foldl (fun m e => max m e.2.inCls) 0

/-! ### Safe-state path -/

/-- SAFE_REQn is asserted. -/
def State.safeReq (s : State) (n : Ch) : Bool := s.bit R.SUP_STATUS_SAFE_REQ 0 n.val

/-- The causes of SAFE_REQn recorded in SUP.SAFE_CAUSE. -/
def State.safeCause (s : State) (n : Ch) : Nat := (s.rd R.SUP_SAFE_CAUSE_CAUSE 0 >>> (8 * n.val)) % 256

/-- Ranger asserts SAFE_REQn for cause bit `b` (R370, R371). -/
def State.safeAssert (s : State) (n : Ch) (b : Nat) : State :=
  let s := s.orBits R.SUP_SAFE_CAUSE_CAUSE 0 (2 ^ (8 * n.val + b))
  if s.safeReq n then s
  else
    let s := (s.orBits R.SUP_STATUS_SAFE_REQ 0 (2 ^ n.val)).wr R.SUP_IRQ_SAFE 0 1
    let s := s.raiseCh n oSupSafe 0
    if s.on R.FBK_CFG_SAFE_HALT 0 then ({ s with rngHalt := true }).haltAssert 7 else s

/-- SAFE_REQn on all channels for cause bit `b`. The absent channels of an HL2880, which no commit could release, have none: the model's choice
(log 164). -/
def State.safeAll (s : State) (b : Nat) : State := s.forCh fun n s => if s.chOk n.val then s.safeAssert n b else s

/-- A cause bit of R370 still stands for channel `n`. -/
def State.causeStands (s : State) (n : Ch) (b : Nat) : Bool :=
  if b = 0 then (s.fr srcPwmUnlock).cond || (s.fr srcMonPclk).cond
  else if b = 1 then (s.fr srcLockstep).st.inFault
  else if b = 2 then (s.fr (srcCh n.val oLoopHb)).st.inFault || (s.fr (srcCh n.val oGrvWdt)).st.inFault
  else if b = 3 then (s.fr (srcSupV + 4)).cond || (s.fr (srcSupV + 5)).cond
  else true

/-- Every cause recorded for SAFE_REQn has gone (R371). -/
def State.causesGone (s : State) (n : Ch) : Bool :=
  (List.range 5).all fun b => !((s.safeCause n).testBit b && s.causeStands n b)

/-- SAFE_REQn releases at an accepted commit after every cause has gone, and SUP_SAFE ends (R371). -/
def State.safeRelease (s : State) (n : Ch) : State :=
  if s.safeReq n && s.causesGone n then
    let s := s.clrBits R.SUP_STATUS_SAFE_REQ 0 (2 ^ n.val)
    let s := s.clrBits R.SUP_SAFE_CAUSE_CAUSE 0 (0xFF <<< (8 * n.val))
    let i := srcCh n.val oSupSafe
    let s := if (s.fr i).st.inFault then (s.setFr i { s.fr i with cond := false }).endRec i else s
    if s.rd R.SUP_STATUS_SAFE_REQ 0 = 0 then { s with rngHalt := false } else s
  else s

end Sys2Proof.Machine
end

