-- ==== Sys2Proof/Machine/Gate.lean ====
section
/-! DEFINITION. What the six gates and the brake gate of a channel do: the generator's command, the arbiter of R20, the reaction
pattern of R359, the interlock of R21. -/

namespace Sys2Proof.Machine

/-- What the generator does with the legs in the present state of the channel (R135, R138, R291, R298). -/
inductive PwmMode where
  | off | lows | pulse | mod | pair
deriving DecidableEq, Repr

/-- The bridge-wide reactions of R359. -/
def bridgeWide (r : Nat) : Bool := r == rLimit || decide (rBridgeOff ≤ r) && decide (r ≤ rChHalt)

/-- The halt reaction of channel `n` as a reaction code (FLT.HALT_RX, R381). -/
def State.haltReact (s : State) (n : Ch) : Nat :=
  match (s.rd R.FLT_HALT_RX_RX 0 >>> (2 * n.val)) % 4 with
  | 0 => rBridgeOff | 1 => rShortLow | 2 => rShortHigh | _ => rBrake

/-- The halt reaction counts as a bridge-wide reaction of class HALT on channel `n` (R359): while the halt net is asserted or the
channel stands in HALTED, outside OFF, HOLD and IDLE. -/
def State.haltActs (s : State) (n : Ch) : Bool :=
  let c := s.chState n
  c == .halted || (s.on R.FBK_STATUS_HALTED 0 && c != .off && c != .hold && c != .idle)

/-- The better of two candidates (class, order, reaction): the higher class, then the earlier (R359). -/
def better (a b : Nat × Nat × Nat) : Nat × Nat × Nat :=
  if a.1 < b.1 ∨ (a.1 = b.1 ∧ b.2.1 < a.2.1) then b else a

/-- The reaction the collector chooses for channel `n`, CH_HALT resolved; 0 for none. While the halt net is asserted a channel in OFF, HOLD or IDLE
keeps its bridge off (R359). -/
def State.chosen (s : State) (n : Ch) : Nat :=
  let c := s.chState n
  if s.on R.FBK_STATUS_HALTED 0 && (c == .off || c == .hold || c == .idle) then rBridgeOff
  else
  let l := ((s.actsOn n).filter fun e => bridgeWide e.2.inReact).map fun e => (e.2.inCls, e.2.seq, e.2.inReact)
  let l := if s.haltActs n then (clsHalt, s.haltSeq, rChHalt) :: l else l
  match l with
  | [] => 0
  | a :: l =>
    let r := (l.foldl better a).2.2
    if r = rChHalt then s.haltReact n else r

/-- The reaction BRAKE runs the committed braking mode on channel `n`: while the loop engine works (R358), and not on a stand member (R462). -/
def State.brakes (s : State) (n : Ch) : Bool := !(s.ch n).loopDead && decide (s.run R.CH_MODE_GANG n.val ≠ 2)

/-- The committed braking mode runs on channel `n`: in STOPPING, or as the reaction BRAKE (R358). -/
def State.braking (s : State) (n : Ch) : Bool := s.chState n == .stopping || (s.chosen n == rBrake && s.brakes n)

/-- The braking idle pattern of ARMED (R135). -/
def State.idleMode (s : State) (n : Ch) : PwmMode := if s.run R.CH_MODE_BRAKE n.val = 1 then .lows else .off

/-- The DIAG_OFFSTATE or GATE_CHAR job at work on channel `n` (R187, R189). -/
def State.pulseJob (s : State) (n : Ch) : Option Job :=
  s.jobs.toList.find? fun j =>
    (j.st == .running || j.st == .suspending) && (decide (j.typ = jDiag) || decide (j.typ = jGateChar)) && decide (j.tgt = n.val)

/-- An IDENT drives the bridge of channel `n` with a regulator of its own (R341): not in the rest after a resume, and after CANCEL up to the
next boundary (R340). -/
def State.identDrives (s : State) (n : Ch) : Bool :=
  s.jobs.toList.any fun j =>
    decide (j.typ = jIdent) && decide (j.tgt = n.val) && !j.resting &&
      (j.st == .running || j.st == .suspending || (j.st == .cancelling && !j.ended))

/-- What a job has the generator do in IDLE: the pulses of an IDENT (R341), the pre-charge of step 5 and the pulse pairs of step 6 of R187, the edges of R189. -/
def State.jobMode (s : State) (n : Ch) : PwmMode :=
  match s.pulseJob n with
  | some j => if j.typ = jGateChar then .pair else if j.work = 6 then .pulse else if 7 ≤ j.work then .pair else .off
  | none => if s.identDrives n then .mod else .off

/-- The two switches of the present pulse pair: AB, BC, CA in turn for DIAG_OFFSTATE (R187); for GATE_CHAR the switch under test and the
opposite one of the next leg (R189, log 142). -/
def State.pairSw (s : State) (n : Ch) : Sw :=
  match s.pulseJob n with
  | some j =>
    if j.typ = jGateChar then
      let k := j.work / 4 % 6
      swOf (k % 3) (decide (3 ≤ k)) ||| swOf ((k % 3 + 1) % 3) (decide (k < 3))
    else
      let p := (j.work - 7) % 3
      swOf p false ||| swOf ((p + 1) % 3) true
  | none => 0

/-- A pulse of PULSE_T × 100 ns runs on channel `n`. -/
def State.pulseRuns (s : State) (n : Ch) : Bool :=
  (s.ch n).diag.pulse.any fun t => decide (s.now < t + 40 * s.rd R.DIAG_CFG_PULSE_T n.val)

/-- The generator's mode (R135, R176, R187, R291, R298). -/
def State.pwmMode (s : State) (n : Ch) : PwmMode :=
  let brake : PwmMode :=
    match s.rd R.SPT_STATUS_BRK_PHASE n.val with
    | 0 => s.idleMode n | 3 => .lows | 4 => .mod | 5 => .mod | _ => .off
  match s.chState n with
  | .idle => s.jobMode n
  | .arming => if s.run R.GD_PRECHG_MODE n.val = 0 then .pulse else .off
  | .armed => s.idleMode n
  | .starting =>
    let p := s.rd R.SPT_STATUS_SU_PHASE n.val
    if p = 6 ∨ p = 7 then .off else .mod
  | .running => .mod
  | .stopping => brake
  | .fault => if s.braking n then brake else .off
  | .halted => if s.braking n then brake else .off
  | _ => .off

/-- A position lies in one of the intervals. -/
def inIntervals (l : List (Nat × Nat)) (p : Nat) : Bool := l.any fun i => decide (i.1 ≤ p) && decide (p < i.2)

/-- The generator's command at position `p` of the present period. -/
def State.genCmd (s : State) (n : Ch) (p : Nat) : Sw :=
  if s.pwmMode n = .off then 0
  else if s.pwmMode n = .pair then (if s.pulseRuns n then s.pairSw n else 0)
  else
    let c := s.ch n
    [0, 1, 2].foldl (fun m (x : Fin 3) =>
      m ||| (if inIntervals c.car.legs[x.val].hi p then swOf x.val false else 0) |||
        (if inIntervals c.car.legs[x.val].lo p then swOf x.val true else 0)) 0

/-- A pattern asked for: switches on and switches off. -/
structure Ask where
  on : Sw
  off : Sw
deriving DecidableEq, Repr

/-- Nothing asked. -/
def Ask.silent : Ask := ⟨0, 0⟩

/-- All six off. -/
def Ask.allOff : Ask := ⟨0, swAll⟩

/-- Two sources together. -/
def Ask.both (a b : Ask) : Ask := ⟨a.on ||| b.on, a.off ||| b.off⟩

/-- The pattern of a reaction code (R358). -/
def patternOf (r : Nat) : Ask :=
  if r = rBridgeOff then .allOff
  else if r = rShortLow then ⟨swLow, swHigh⟩
  else if r = rShortHigh then ⟨swHigh, swLow⟩
  else .silent

/-- The hold-off of channel `n` (R20, R26, R51, R64, R69, R74): a state before the first commit, no verified critical values, the
reference fallback, the TEST pin, a test instruction that drives pins, VDRV not good. -/
def State.holdoff (s : State) (n : Ch) : Bool :=
  let c := s.chState n
  c == .off || c == .hold || !s.on R.OTP_CRIT_VALID 0 || s.on R.SYS_STATUS_REF_FALLBACK 0 || s.on R.SYS_STATUS_TEST 0 ||
    s.tap.ir == 0 || s.tap.ir == 3 || s.tap.ir == 4 || !s.bit R.PWR_STATUS_GOOD 0 1

/-- SAFE_REQn's pattern: the halt polarity, or bridge off for cause 4 (R370). -/
def State.safeAsk (s : State) (n : Ch) : Ask :=
  if !s.safeReq n then .silent
  else if (s.safeCause n).testBit 4 then .allOff
  else
    match (s.rd R.SUP_SAFEPAT_PAT 0 >>> (2 * n.val)) % 4 with
    | 1 => ⟨swLow, swHigh⟩ | 2 => ⟨swHigh, swLow⟩ | _ => .allOff

/-- Comparator k requests off by its level or its start state alone: in the start state every comparator but a monitor window one
(R204), and a bus comparator while tripped where BUS_CFG gates it (R200, R202). -/
def State.cmpLevelOff (s : State) (n : Ch) (k : Nat) : Bool :=
  let i := n.val
  !cmpInactive (s.run R.CH_MODE_SENSE i) k &&
  (let start := s.bit R.CMP_STATUS_BAND_PENDING i k
   let trip := s.bit R.CMP_STATUS_TRIPPED i k
   if k < 3 then start
   else if k < 9 then start && s.run R.CMP_WIN_CFG_MODE i != 2
   else if k = 9 then trip && s.run R.CMP_BUS_CFG_OV_GATE i == 1
   else trip && s.run R.CMP_BUS_CFG_UV_GATE i == 1)

/-- The off requests of every comparator of channel `n`: shorts, windows, bus and start states, bootstrap (R174, R179, R200). -/
def State.cmpOff (s : State) (n : Ch) : Sw :=
  let i := n.val
  let se := s.run R.CH_MODE_SENSE i
  let w := if s.run R.CMP_WIN_CFG_MODE i = 2 then 0 else (s.ch n).prot.winOff
  let level := (List.range 11).foldl (fun m k => if s.cmpLevelOff n k then m ||| cmpSwitches se k else m) 0
  let win := (List.range 6).foldl (fun m k => if w.getLsbD k then m ||| cmpSwitches se (k + 3) else m) 0
  s.shortOff n ||| level ||| win ||| BitVec.ofNat 6 (s.rd R.GD_STATUS_BST_UV i)

/-- The off requests of the SWITCH_OFF and LEG_OFF in force; a source that names no switch acts as BRIDGE_OFF (R358). -/
def State.namedOff (s : State) (n : Ch) : Sw :=
  (s.actsOn n).foldl (fun m e =>
    let r := e.2
    if r.inReact = rSwitchOff then m ||| (if r.named = 0 then swAll else r.named)
    else if r.inReact = rLegOff then m ||| (if r.named = 0 then swAll else swLegs r.named)
    else m) 0

/-- The pattern of the chosen bridge-wide reaction on channel `n` (R358, R359): LIMIT is off until its boundary, BRAKE is what the
generator runs, or bridge off (R462). -/
def State.reactPattern (s : State) (n : Ch) : Ask :=
  let r := s.chosen n
  if r = rLimit then (if (s.ch n).prot.limitOff then .allOff else .silent)
  else if r = rBrake then (if s.brakes n then .silent else .allOff)
  else patternOf r

/-- What the fault collector asks of channel `n` (R359): the chosen pattern, and the off requests that dominate it. -/
def State.reactAsk (s : State) (n : Ch) : Ask := (s.reactPattern n).both ⟨0, s.namedOff n⟩

/-- The chopped leg, the low-side leg of a six-step sector (R155). -/
def sectorLegs (k : Nat) : Option (Nat × Nat) :=
  match k with
  | 1 => some (0, 1) | 2 => some (0, 2) | 3 => some (1, 2) | 4 => some (1, 0)
  | 5 => some (2, 0) | 6 => some (2, 1) | _ => none

/-- DT_FLOOR in counts, from the critical values in force (R153, R501). -/
def State.dtFloor (s : State) : Nat := s.rd R.OTP_CRIT_VAL 0 % 256

/-- The dead time in force of a DTIME field in counts of 2.5 ns (R152, R153). -/
def State.deadCounts (s : State) (f : Fld) (n : Ch) : Nat := max (s.run f n.val + 1) s.dtFloor

/-- What limp mode asks: the low side of the sector's low leg on, the chopped high side from RISE after the boundary until the limp
comparator or DMAX ends it, the others off (R207, R209). -/
def State.limpAsk (s : State) (n : Ch) : Ask :=
  if s.chState n != .limp then .silent
  else
    let c := s.ch n
    match sectorLegs c.prot.limpSector with
    | none => .allOff
    | some (h, l) =>
      let high := c.prot.limpOn && decide (c.car.since + s.deadCounts R.PWM_DTIME_RISE n ≤ s.now)
      let on := swOf l true ||| (if high then swOf h false else 0)
      ⟨on, swAll &&& ~~~ on⟩

/-- Everything the sources from SAFE_REQn to limp mode ask of channel `n` (R20). -/
def State.asks (s : State) (n : Ch) : Ask :=
  (((s.safeAsk n).both ⟨0, s.cmpOff n⟩).both (s.reactAsk n)).both (s.limpAsk n)

/-- The arbitrated state of the six switches at position `p` (R20). -/
def State.arb (s : State) (n : Ch) (p : Nat) : Sw :=
  if s.holdoff n then 0
  else
    let a := s.asks n
    (a.on ||| s.genCmd n p) &&& ~~~ a.off

/-- The legs whose two switches are both asked on (R21). -/
def conflict (m : Sw) : Sw := m &&& swLow &&& ((m &&& swHigh) <<< 3)

/-- The complement of switch `k` in its leg. -/
def opposite (k : Fin 6) : Fin 6 := ⟨(k.val + 3) % 6, Nat.mod_lt _ (by decide)⟩

/-- Switch `k` may turn on: its complementary switch has been commanded off for the dead time in force (R21). -/
def State.deadOver (s : State) (n : Ch) (k : Fin 6) : Bool :=
  let p := (s.ch n).prot
  let f := if k.val < 3 then R.PWM_DTIME_RISE else R.PWM_DTIME_FALL
  !p.gates.getLsbD (opposite k).val && decide (p.swAt[(opposite k).val] + s.deadCounts f n ≤ s.now)

/-- The switches of channel `n` that may turn on (R21). -/
def State.turnOn (s : State) (n : Ch) : Sw :=
  (List.finRange 6).foldl (fun m k => if s.deadOver n k then m ||| BitVec.ofNat 6 (2 ^ k.val) else m) 0

/-- The interlock: both off in a leg asked for twice, and of the others a switch that is on or may turn on (R21). -/
def interlock (settled ready m : Sw) : Sw := (m &&& ~~~ swLegs (conflict m)) &&& (settled ||| ready)

/-- The six gate outputs of channel `n`. -/
def State.gateOut (s : State) (n : Ch) : Sw := interlock (s.ch n).prot.gates (s.turnOn n) (s.arb n (s.ch n).car.pos)

/-- The legs that a source overrides: the arbitrated state of a switch differs from the generator's command (R159). -/
def State.overrides (s : State) (n : Ch) : BitVec 3 := legsOf (s.arb n (s.ch n).car.pos ^^^ s.genCmd n (s.ch n).car.pos)

/-- The gates become `g` at PCLK cycle `now`: a turn-on blanks its VDS comparator (R178), each change is dated (R21, R168), and a low
side that turns off has conducted (R162). -/
def Chan.gated (c : Chan) (now : Nat) (g : Sw) : Chan :=
  let p := c.prot
  { c with
    prot.gates := g
    prot.swAt := Vector.ofFn fun k : Fin 6 => if (p.gates ^^^ g).getLsbD k.val then now else p.swAt[k.val]
    prot.lowMax := Vector.ofFn fun x : Fin 3 =>
      if p.gates.getLsbD (x.val + 3) && !g.getLsbD (x.val + 3) then
        max p.lowMax[x.val] (now - max p.swAt[x.val + 3] c.car.since)
      else p.lowMax[x.val]
    prot.vdsBlank := (p.vdsBlank &&& g) ||| (g &&& ~~~ p.gates)
    prot.vdsFilt := p.vdsFilt &&& g &&& p.gates }

/-- The legs that a source overrides are `m` from PCLK cycle `now` on (R159). -/
def Chan.overridden (c : Chan) (now : Nat) (m : BitVec 3) : Chan :=
  { c with
    prot.ovNow := m
    prot.ovEnd := Vector.ofFn fun x : Fin 3 =>
      if c.prot.ovNow.getLsbD x.val && !m.getLsbD x.val then some now else c.prot.ovEnd[x.val] }

/-- The gates take the arbitrated state through the interlock. -/
def State.takeGates (s : State) (n : Ch) : State :=
  let g := s.gateOut n
  let m := s.overrides n
  s.modCh n fun c => (c.gated s.now g).overridden s.now m

/-- The gates settle at the present position; a double request raises GATE_CONFLICT (R21), whose reaction the gates follow. -/
def State.settle (s : State) (n : Ch) : State :=
  let a := s.arb n (s.ch n).car.pos
  let s' := s.takeGates n
  if conflict a = 0 then s' else (s'.raiseCh n oGateConflict 0).forCh fun m s => s.takeGates m

/-- BRK_OVERTIME keeps the brake gate off until its fault state ends (R185). -/
def State.brkHeld (s : State) (n : Ch) : Bool := (s.fr (srcCh n.val oBrkOvertime)).st.inFault

/-- The committed control asks the brake gate on (R183). S5's duty counts from each boundary of the carrier; in limp mode, in which the loop
engine has no effect on the channel, and after a loop-engine failure it is 0 (R209, R256, log 143). -/
def State.brkAsk (s : State) (n : Ch) : Bool :=
  let i := n.val
  let c := s.ch n
  let hyst := s.on R.BRK_STATUS_HYST i
  let pwm := s.chState n != .limp && !c.loopDead && decide (s.run R.PWM_MINPULSE i * 32 ≤ c.car.duty.brk) &&
    decide (c.car.pos < c.car.duty.brk)
  match s.run R.BRK_CFG_MODE i with
  | 1 => hyst | 2 => pwm | 3 => hyst || pwm | _ => false

/-- The brake gate of channel `n` (R183 to R185). -/
def State.brkGate (s : State) (n : Ch) : Bool := !s.holdoff n && !s.brkHeld n && !(s.ch n).prot.brkCut && s.brkAsk n

/-! ### Gate currents -/

/-- The highest gate-current code allowed, source or sink (R170, R501). -/
def State.gateCap (s : State) (sink : Bool) : Nat := s.rd R.OTP_CRIT_VAL 0 / (if sink then 4096 else 256) % 16

/-- What a gate driver does: it sources or sinks the current of a code (R168, R169). -/
structure GateDrive where
  source : Bool
  code : Nat
deriving DecidableEq, Repr

/-- The present drive of switch `k`: its side's profile, pre-drive for T_PRE × 5 ns after the edge and hold from then on, code 4 in both
stages under GATE_CHAR, never above the cap (R168, R170, R189). -/
def State.gateDrive (s : State) (n : Ch) (k : Fin 6) : GateDrive :=
  let i := n.val
  let p := (s.ch n).prot
  let side (hs ls : Fld) : Nat := s.run (if k.val < 3 then hs else ls) i
  let on := p.gates.getLsbD k.val
  let time := if on then side R.GD_DRV_HS_T_PRE_ON R.GD_DRV_LS_T_PRE_ON else side R.GD_DRV_HS_T_PRE_OFF R.GD_DRV_LS_T_PRE_OFF
  let pre := if on then side R.GD_DRV_HS_SRC_PRE R.GD_DRV_LS_SRC_PRE else side R.GD_DRV_HS_SNK_PRE R.GD_DRV_LS_SNK_PRE
  let hold := if on then side R.GD_DRV_HS_SRC_HOLD R.GD_DRV_LS_SRC_HOLD else side R.GD_DRV_HS_SNK_HOLD R.GD_DRV_LS_SNK_HOLD
  let code := if s.now < p.swAt[k.val] + 2 * time then pre else hold
  let code := if (s.pulseJob n).any fun j => decide (j.typ = jGateChar) then 4 else code
  ⟨on, min code (s.gateCap (!on))⟩

/-- The present drive of the brake gate (R170, R183). -/
def State.brkDrive (s : State) (n : Ch) : GateDrive :=
  let on := (s.ch n).prot.brkOn
  ⟨on, min (s.run (if on then R.BRK_CFG_SRC else R.BRK_CFG_SNK) n.val) (s.gateCap (!on))⟩

/-- The conduction of the brake gate since the last accepted commit, in 10 µs units (R185, R191). -/
def State.brkTime (s : State) (n : Ch) : Nat :=
  let p := (s.ch n).prot
  min ((p.brkAcc + (if p.brkOn then s.now - p.brkSince else 0)) / 4000) (2 ^ 32 - 1)

/-- BRK.STATUS follows the brake gate (R183, R184): a conduction that begins sets ON_EVT, one that ends adds to ONTIME in 10 µs units
of 4,000 PCLK cycles (R191). -/
def State.brkShow (s : State) (n : Ch) : State :=
  let i := n.val
  let on := s.brkGate n
  let p := (s.ch n).prot
  let ask := s.brkAsk n
  let s := s.modCh n fun c => { c with prot.brkCut := c.prot.brkCut && ask }
  let s := (s.flag R.BRK_STATUS_ON i on).flag R.BRK_STATUS_FORCED i
    (decide (s.run R.BRK_CFG_MODE i = 3) && s.on R.BRK_STATUS_HYST i)
  if on && !p.brkOn then
    (s.wr R.BRK_IRQ_ON_EVT i 1).modCh n fun c => { c with prot.brkOn := true, prot.brkSince := s.now }
  else if p.brkOn && !on then
    let acc := p.brkAcc + (s.now - p.brkSince)
    (s.wr R.BRK_ONTIME_TIME i (min (acc / 4000) (2 ^ 32 - 1))).modCh n fun c =>
      { c with prot.brkOn := false, prot.brkAcc := acc }
  else s

/-- The gates of every powered channel settle, and the brake gates with them. -/
def State.settleAll (s : State) : State :=
  s.forCh fun n s => s.whenCh n fun s => (s.settle n).brkShow n

end Sys2Proof.Machine
end

