-- ==== Sys2Proof/Machine/Packet.lean ====
section
/-! DEFINITION. The words of a fabric packet (R408, R409) and the 16-bit words of the link layer (R390). -/

namespace Sys2Proof.Machine

/-- Header word 0 (R408). -/
def Pkt.word0 (k : Pkt) : Word := wd (k.vc * 2 ^ 30 + k.typ * 2 ^ 26 + k.dst * 2 ^ 16 + k.src * 2 ^ 6 + k.tag)

/-- Header word 1 (R408). -/
def Pkt.word1 (k : Pkt) : Word :=
  wd (k.rsp.toNat * 2 ^ 31 + k.dr.toNat * 2 ^ 30 + k.pst.toNat * 2 ^ 29 + k.status * 2 ^ 25 + k.hops * 2 ^ 20 + k.ptr * 2 ^ 15 + k.len)

/-- Header and payload (R408). -/
def Pkt.body (k : Pkt) : List Word := [k.word0, k.word1, k.arg] ++ (if k.dr then [k.route] else []) ++ k.data

/-- The trailer: CRC-32 over the words in transmission order, most significant byte first (R409). -/
def trailer (l : List Word) : Word := crc32 (l.flatMap wordBe)

/-- The words of a packet on the wire (R408, R409). -/
def Pkt.words (k : Pkt) : List Word := k.body ++ [trailer k.body]

/-- The packet of a header and a payload, the trailer taken off; `none` where words of the header are missing. -/
def pktOfBody (l : List Word) : Option Pkt :=
  match l with
  | a :: b :: c :: r =>
    let dr := b.getLsbD 30
    match (if dr then r.head? else some 0#32) with
    | none => none
    | some rt =>
      some { vc := a.toNat / 2 ^ 30 % 4, typ := a.toNat / 2 ^ 26 % 16, dst := a.toNat / 2 ^ 16 % 1024, src := a.toNat / 2 ^ 6 % 1024,
             tag := a.toNat % 64, rsp := b.getLsbD 31, dr := dr, pst := b.getLsbD 29, status := b.toNat / 2 ^ 25 % 16,
             hops := b.toNat / 2 ^ 20 % 32, ptr := b.toNat / 2 ^ 15 % 32, len := b.toNat % 512, arg := c, route := rt,
             data := if dr then r.drop 1 else r }
  | _ => none

/-- The packet that words on the wire spell, if their CRC-32 is good (R408, R409). -/
def pktOfWords (l : List Word) : Option Pkt :=
  match l.getLast? with
  | none => none
  | some c => if trailer l.dropLast = c then pktOfBody l.dropLast else none

/-- The fields fit the header, and the payload is the length's words (R408). -/
def Pkt.fits (k : Pkt) : Bool :=
  decide (k.vc < 4) && decide (k.typ < 16) && decide (k.dst < 1024) && decide (k.src < 1024) && decide (k.tag < 64) &&
    decide (k.status < 16) && decide (k.hops < 32) && decide (k.ptr < 32) && decide (k.len < 512) && (k.dr || k.route == 0#32)

/-- A 16-bit word of the link layer: twelve bits and their CHK (R390). -/
def linkWord (v : Nat) : BitVec 16 := BitVec.ofNat 16 (v % 4096 * 16 + crc4 (v % 4096) 12)

/-- The CHK of a 16-bit word is good (R390). -/
def linkWordOk (w : BitVec 16) : Bool := w.toNat % 16 == crc4 (w.toNat / 16) 12

end Sys2Proof.Machine
end

