-- ==== Sys2Proof/Machine/Collect.lean ====
section
/-! DEFINITION. The fault collector's timers and commands, the halt net and the safe-state requests (R358 to R371). -/

namespace Sys2Proof.Machine

/-- A source reports: a level source whose condition already stands reports nothing new (R361). -/
def State.collect (s : State) (i : Nat) (named : Sw) : State :=
  if !srcIsEvent i && (s.fr i).cond then s else (s.raise i named).settleAll

/-! ### Timers of R361 -/

/-- FAULT_REOCCURRENCE (R361): the condition recurs in ACTIVE or QUIET, without a new raise. -/
def execFaultReoccurrence (i : BitVec 9) (s : State) : Host.Outcome State Fault Refusal :=
  .next (let st := (s.fr i.toNat).st
    if st == .active || st == .quiet then s.collect i.toNat 0 else s)

/-- FAULT_CONDITION_ABSENT (R361). -/
def execFaultConditionAbsent (i : BitVec 9) (s : State) : Host.Outcome State Fault Refusal :=
  .next (if (s.fr i.toNat).cond then (s.condOff i.toNat).settleAll else s)

/-- RETRY_WAIT_EXPIRY (R361): ACTIVE goes to QUIET; with QUIET_T = 0 the state ends here if the condition is absent. -/
def execRetryWaitExpiry (i : BitVec 9) (s : State) : Host.Outcome State Fault Refusal :=
  .next (let r := s.fr i.toNat
    if r.st == .active && !isSupSafe i.toNat then
      let s := s.setFr i.toNat { r with st := .quiet }
      if timeCode r.inQuiet = 0 ∧ r.cond = false then (s.faultEnd i.toNat).settleAll else s
    else s)

/-- FAULT_STATE_END (R361): QUIET_T has passed without the condition. -/
def execFaultStateEnd (i : BitVec 9) (s : State) : Host.Outcome State Fault Refusal :=
  .next (let r := s.fr i.toNat
    if r.st == .quiet && !r.cond then (s.faultEnd i.toNat).settleAll else s)

/-! ### Commands of the FLT and FLTS pages -/

/-- The source FLTS.SEL selects (R382). -/
def State.fltsSel (s : State) : Nat := s.rd R.FLTS_SEL_INDEX 0

/-- A clear of source `i` (R363). -/
def State.fltClear (s : State) (i : Nat) : State :=
  let r := s.fr i
  if r.st == .latched && !r.cond && r.inCls != clsCrit then (s.setFr i { r with denied := false }).faultEnd i
  else s.setFr i { r with denied := true }

/-- FLTS_CLEAR (R363). -/
def execFltsClear (s : State) : Host.Outcome State Fault Refusal :=
  .next (if s.srcDisabled s.fltsSel then s else (s.fltClear s.fltsSel).settleAll)

/-- CLR_LATCHED (R363). -/
def execClrLatched (s : State) : Host.Outcome State Fault Refusal :=
  .next ((s.flt.filter fun e => e.2.st == .latched).foldl (fun s e => s.fltClear e.1) s).settleAll

/-- RECOV_CLR (R364). -/
def execRecovClr (s : State) : Host.Outcome State Fault Refusal :=
  .next (if s.srcDisabled s.fltsSel then s
    else s.setFr s.fltsSel { s.fr s.fltsSel with recov := Vector.replicate 4 0 })

/-- EVT_CLR (R382). -/
def execEvtClr (s : State) : Host.Outcome State Fault Refusal :=
  .next (if s.srcDisabled s.fltsSel then s else s.setFr s.fltsSel { s.fr s.fltsSel with events := 0 })

/-- A write of FLTS.CFG is discarded (R358, R532): reserved codes, or a change of a value that is fixed. A fixed reaction written back
as it reads changes nothing and is accepted (log 15). -/
def cfgRefused (i cls react retry : Nat) (r : FltRec) : Bool :=
  decide (6 ≤ cls) || (decide (11 ≤ react) && !(srcFixedReact i && react == r.react)) ||
    (srcFixedCls i && cls != r.cls) || (srcFixedReact i && react != r.react) || (srcNoRetry i && retry != r.retryMax)

/-- The record after a write of its class and reaction: MASKED and CLEAR follow the reaction outside the fault state (R361). -/
def FltRec.configured (r : FltRec) (cls react retry : Nat) : FltRec :=
  { r with
    cls := cls
    react := react
    retryMax := retry
    st := if r.st.inFault then r.st else if react == rNone then .masked else .clear }

/-- A write of FLTS.CFG that the page's lock lets through. -/
def State.fltsCfg (s : State) (v : Nat) : State :=
  let i := s.fltsSel
  let r := s.fr i
  let cls := v % 8
  let react := v / 16 % 16
  let retry := v / 256 % 16
  if s.srcDisabled i then s
  else if cfgRefused i cls react retry r then s.wr R.FLT_IRQ_CFG_DENIED 0 1
  else
    let s := s.setFr i (r.configured cls react retry)
    if r.st == .masked && react != rNone && r.cond then (s.raise i 0).settleAll else s

/-- FLTS_CFG_WRITE (R358). -/
def execFltsCfgWrite (v : Word) (s : State) : Host.Outcome State Fault Refusal :=
  .next (if s.locked 0x05 then s.wrDenied 0x05 else s.fltsCfg v.toNat)

/-- The ranges of R366: RETRY_WAIT 1 ms to 10 s, QUIET_T 0 to 10 s, RETRY_WINDOW 1 ms to 63 s. -/
def timeOk (v : Nat) : Bool :=
  let w := timeMs (v % 256)
  decide (1 ≤ w) && decide (w ≤ 10000) && decide (timeMs (v / 256 % 256) ≤ 10000) && decide (1 ≤ timeMs (v / 65536 % 256))

/-- A write of FLTS.TIME that the page's lock lets through. -/
def State.fltsTime (s : State) (v : Nat) : State :=
  let i := s.fltsSel
  let r := s.fr i
  if s.srcDisabled i then s
  else if srcNoRetry i || !timeOk v then s.wr R.FLT_IRQ_CFG_DENIED 0 1
  else s.setFr i { r with wait := v % 256, quiet := v / 256 % 256, window := v / 65536 % 256 }

/-- FLTS_TIME_WRITE (R366). -/
def execFltsTimeWrite (v : Word) (s : State) : Host.Outcome State Fault Refusal :=
  .next (if s.locked 0x05 then s.wrDenied 0x05 else s.fltsTime v.toNat)

/-! ### The halt net -/

/-- HALT_N_FALL (R368): another device pulls HALT_N low, for 20 ns or more. -/
def execHaltNFall (s : State) : Host.Outcome State Fault Refusal :=
  .next (let s := { s with haltLow := true }.haltPin
    if s.on R.FBK_CFG_HIN_EN 0 then (s.haltAssert 1).settleAll else s)

/-- A software halt (R384). -/
def State.swHalt (s : State) : State := (s.haltAssert 8).settleAll

/-- FBK_HALT (R384). -/
def execFbkHalt (s : State) : Host.Outcome State Fault Refusal := .next s.swHalt

/-- RELEASE (R369): the device stops driving HALT_N, and the test follows 2 µs later. -/
def State.release (s : State) : State :=
  if s.on R.FBK_STATUS_HALTED 0 then { (s.wr R.FBK_STATUS_DRIVING 0 0).haltPin with relPend := true } else s

/-- FBK_RELEASE (R369). -/
def execFbkRelease (s : State) : Host.Outcome State Fault Refusal := .next s.release

/-- The four conditions of R369 with HALT_N at `pinHigh`. -/
def State.releaseOk (s : State) (pinHigh : Bool) : Bool :=
  (pinHigh || !s.on R.FBK_CFG_HIN_EN 0) &&
  !(s.inFault.any fun e => e.2.inCls == clsHalt || e.2.inReact == rDevHalt) &&
  !s.rngHalt &&
  !((List.range 4).any fun p => s.domOn dLink && s.on R.LNK_STATUS_HALT_RX p)

/-- HALT_RELEASE_TEST (R369), HALT_N standing at `pinHigh`. -/
def execHaltReleaseTest (pinHigh : Bool) (s : State) : Host.Outcome State Fault Refusal :=
  .next (if s.relPend then
      let ok := s.releaseOk pinHigh
      let s := { s with haltLow := !pinHigh, relPend := false }.haltPin
      if ok then (s.wrs 0 [(R.FBK_STATUS_HALTED, 0), (R.FBK_STATUS_REL_BLOCKED, 0), (R.FBK_IRQ_RELEASED, 1)]).settleAll
      else s.wrs 0 [(R.FBK_STATUS_REL_BLOCKED, 1), (R.FBK_IRQ_REL_REFUSED, 1)]
    else s)

/-! ### Safe-state requests -/

/-- SAFE_REQ_ASSERT (R370) for cause bit `b`. -/
def execSafeReqAssert (n : Ch) (b : Fin 5) (s : State) : Host.Outcome State Fault Refusal :=
  .next (if s.chOk n.val then (s.safeAssert n b.val).settleAll else s)

/-- SAFE_BACKSTOP_TIMEOUT (R370): 100 µs after LOOP_HB or GRV_WDT the channel is in none of FAULT, LIMP, IDLE, HALTED. -/
def execSafeBackstopTimeout (n : Ch) (s : State) : Host.Outcome State Fault Refusal :=
  .next (s.whenCh n fun s =>
    let c := s.chState n
    if s.causeStands n 2 && !(c == .fault || c == .limp || c == .idle || c == .halted) then (s.safeAssert n 2).settleAll else s)

/-- SAFE_SUPPLY_TIMEOUT (R370): a SUP_VCORE or SUP_VDDA condition has stood for 1 ms. -/
def execSafeSupplyTimeout (s : State) : Host.Outcome State Fault Refusal :=
  .next (if (s.fr (srcSupV + 4)).cond || (s.fr (srcSupV + 5)).cond then (s.safeAll 3).settleAll else s)

end Sys2Proof.Machine
end

