-- ==== Sys2Proof/Machine/Can.lean ====
section
/-! DEFINITION. The two CAN controllers: transmission, filters, buffers and errors (R468 to R479, R488). -/

namespace Sys2Proof.Machine

/-- A controller's record. -/
def State.cn (s : State) (m : Fin 2) : Can := s.can.get m

/-- A controller's record changed by `g`. -/
def State.modCan (s : State) (m : Fin 2) (g : Can → Can) : State := { s with can := s.can.set m.val (g (s.cn m)) }

/-- The effect `f` while PD_CAN is on (R28). -/
def State.whenCan (s : State) (f : State → State) : State := if s.domOn dCan then f s else s

/-- What decides arbitration: the lowest ID first, a base ID before an extended ID that shares its upper 11 bits (R477). -/
def CanFrame.key (f : CanFrame) : Nat :=
  if f.ide then (f.id / 2 ^ 18) * 2 ^ 19 + 2 ^ 18 + f.id % 2 ^ 18 else f.id % 2 ^ 11 * 2 ^ 19

/-- The data bytes of a DLC: up to 8, in FD frames up to 64 (R468, ISO 11898-1). -/
def canLen (fdf : Bool) (dlc : Nat) : Nat :=
  if dlc < 9 then dlc else if !fdf then 8 else [12, 16, 20, 24, 32, 48, 64].getD (dlc - 9) 64

/-- A frame as the bus carries it: FD format, BRS and ESI only with ISO CAN FD enabled, remote frames in classical format only, the bytes of its DLC
(R468; log 180). -/
def CanFrame.onBus (f : CanFrame) (fd passive : Bool) : CanFrame :=
  let fdf := f.fdf && fd
  let rtr := f.rtr && !fdf
  { f with fdf := fdf, brs := f.brs && fdf, esi := fdf && passive, rtr := rtr,
           data := if rtr then [] else (f.data ++ List.replicate 64 0#8).take (canLen fdf f.dlc) }

/-- The buffers that wait for transmission: TX buffers with BPEND set (R477). -/
def State.canPending (s : State) (m : Fin 2) : List (Nat × CanFrame) :=
  ((List.range 32).filter fun k => s.bit R.CAN_BPEND m.val k && s.bit R.CAN_BCFG m.val k).map fun k =>
    (k, (s.cn m).bufs.toList.getD k .empty)

/-- The first of a list that no other beats, equal IDs in the list's order (R477). -/
def canFirst : List (Nat × CanFrame) → Option Nat
  | [] => none
  | (k, f) :: l => some ((l.foldl (fun b e => if e.2.key < b.2.key then e else b) (k, f)).1)

/-- The controller may transmit: out of INIT, integrated, error-active or error-passive, neither bus monitoring nor restricted
operation, the CAN0 transceiver in normal mode (R468, R470, R471, R479). -/
def State.canTxOk (s : State) (m : Fin 2) : Bool :=
  !s.on R.CAN_CTRL_INIT m.val && s.on R.CAN_STATUS_SYNC m.val && decide (s.rd R.CAN_STATUS_ESTATE m.val < 2) &&
    decide (s.rd R.CAN_CFG_MODE m.val < 2) && (m.val == 1 || s.rd R.CAN_CFG_XCVR 0 == 1 || s.rd R.CAN_CFG_MODE 0 == 1)

/-- With nothing on the bus, the pending frame that wins arbitration starts: a buffer, or the head of the engines' queue (R477). -/
def State.canNext (s : State) (m : Fin 2) : State :=
  if (s.cn m).cur.isNone && s.canTxOk m then
    let l := s.canPending m ++ ((s.cn m).txq.take 1).map fun f => (32, f)
    s.modCan m fun c => { c with cur := canFirst l }
  else s

/-- The choice of the next frame is made again, unless the frame chosen has already started on the bus (R477). -/
def State.canRepick (s : State) (m : Fin 2) (started : Bool) : State :=
  if started then s.canNext m else (s.modCan m fun c => { c with cur := none }).canNext m

/-- An engine's frame waits for transmission; whether a frame chosen before has started is a free value (log 183). -/
def State.canSend (s : State) (m : Fin 2) (f : CanFrame) : State :=
  (s.used.modCan m fun c => { c with txq := c.txq ++ [f] }).canRepick m (s.anyVal.getLsbD 0)

/-- The controller's output is recessive: TXDTO clears (R472). -/
def State.canRecessive (s : State) (m : Fin 2) : State := s.wr R.CAN_STATUS_TXDTO m.val 0

/-- The error counters as the registers show them. -/
def State.canCounters (s : State) (m : Fin 2) : State :=
  s.wrs m.val [(R.CAN_TEC, min (s.cn m).txe 255), (R.CAN_REC, min (s.cn m).rxe 255)]

/-- Error-active or error-passive after the counters changed; bus-off at a transmit count above 255 (R479, ISO 11898-1). -/
def State.canErrState (s : State) (m : Fin 2) : State :=
  let s := s.canCounters m
  let c := s.cn m
  if 2 ≤ s.rd R.CAN_STATUS_ESTATE m.val then s
  else if 255 < c.txe then
    let s := ((s.modCan m fun c => { c with cur := none }).wrs m.val
      [(R.CAN_STATUS_ESTATE, 2), (R.CAN_STATUS_SYNC, 0), (R.CAN_IRQ_BUSOFF, 1)]).canRecessive m
    s.condSet (srcCanBusoff m.val) true
  else s.wr R.CAN_STATUS_ESTATE m.val (if 127 < c.txe ∨ 127 < c.rxe then 1 else 0)

/-- The controller enters initialisation, with a recessive output (R470, R472). -/
def State.canEnterInit (s : State) (m : Fin 2) : State :=
  ((s.modCan m fun c => { c with cur := none, initReq := false }).wrs m.val [(R.CAN_CTRL_INIT, 1), (R.CAN_STATUS_SYNC, 0)]).canRecessive m

/-- The frame on the bus has ended: a waiting INIT takes effect, or the next frame starts (R470, R477); TXDTO clears at the recessive
output (R472). -/
def State.canFrameEnd (s : State) (m : Fin 2) : State :=
  let s := (s.modCan m fun c => { c with cur := none }).canRecessive m
  if (s.cn m).initReq then s.canEnterInit m else s.canNext m

/-- Another's frame has ended, or its error flag: a waiting INIT takes effect (R470), the output is recessive (R472). -/
def State.canHeardEnd (s : State) (m : Fin 2) : State :=
  let s := s.canRecessive m
  if (s.cn m).initReq then s.canEnterInit m else s

/-- A word for CFG: CAN1 has no XCVR field (R471, R488). -/
def canCfgWord (m : Fin 2) (w : Word) : Word := if m.val = 1 then R.CAN_CFG_XCVR.put w 0 else w

/-- CANCLK cycles of a nominal and of a data bit (R469). -/
def State.canBits (s : State) (m : Nat) : Nat × Nat :=
  ((s.rd R.CAN_NBT_BRP m + 1) * (s.rd R.CAN_NBT_TSEG1 m + s.rd R.CAN_NBT_TSEG2 m + 3),
   (s.rd R.CAN_DBT_BRP m + 1) * (s.rd R.CAN_DBT_TSEG1 m + s.rd R.CAN_DBT_TSEG2 m + 3))

/-- The bit timing is one that R469 refuses: above 1 Mbit/s, a data rate above 5 Mbit/s or below the nominal rate, or an SJW above its TSEG2;
the rule names these without CFG.FD (log 40). -/
def State.canTimingBad (s : State) (m : Nat) : Bool :=
  let (n, d) := s.canBits m
  decide (n < 80) || decide (s.rd R.CAN_NBT_TSEG2 m < s.rd R.CAN_NBT_SJW m) ||
    decide (d < 16) || decide (n < d) || decide (s.rd R.CAN_DBT_TSEG2 m < s.rd R.CAN_DBT_SJW m)

/-- A write of CTRL.INIT (R469, R470); `busy`: a frame is in progress, sent or received. -/
def State.canInit (s : State) (m : Fin 2) (b busy : Bool) : State :=
  if b then
    if s.on R.CAN_CTRL_INIT m.val then s
    else if busy && s.on R.CAN_STATUS_SYNC m.val && decide (s.rd R.CAN_STATUS_ESTATE m.val < 2) then s.modCan m fun c => { c with initReq := true }
    else s.canEnterInit m
  else if s.on R.CAN_CTRL_INIT m.val then
    if s.canTimingBad m.val then s.wr R.CAN_IRQ_CFG_ERR m.val 1
    else s.wrs m.val [(R.CAN_CTRL_INIT, 0), (R.CAN_STATUS_SYNC, 0)]
  else s.modCan m fun c => { c with initReq := false }

/-- CAN_INIT_WRITE (R470). -/
def execCanInitWrite (m : Fin 2) (b busy : Bool) (s : State) : Host.Outcome State Fault Refusal :=
  .next (s.whenCan fun s => s.canInit m b busy)

/-- CAN_BUS_INTEGRATED (R468, R470): 11 recessive bits have passed; pending frames may start; the output is recessive (R472). -/
def execCanBusIntegrated (m : Fin 2) (s : State) : Host.Outcome State Fault Refusal :=
  .next (s.whenCan fun s =>
    if !s.on R.CAN_CTRL_INIT m.val && decide (s.rd R.CAN_STATUS_ESTATE m.val < 2) then
      ((s.wr R.CAN_STATUS_SYNC m.val 1).canRecessive m).canNext m
    else s)

/-- CTRL.RECOVER, or REC_DELAY under AUTO_REC: recovery starts from bus-off (R479). -/
def State.canRecover (s : State) (m : Fin 2) : State :=
  if s.rd R.CAN_STATUS_ESTATE m.val = 2 then s.wr R.CAN_STATUS_ESTATE m.val 3 else s

/-- CAN_RECOVER (R479). -/
def execCanRecover (m : Fin 2) (s : State) : Host.Outcome State Fault Refusal := .next (s.whenCan fun s => s.canRecover m)

/-- CAN_RECOVERY_START (R479): AUTO_REC starts the recovery by itself. -/
def execCanRecoveryStart (m : Fin 2) (s : State) : Host.Outcome State Fault Refusal :=
  .next (s.whenCan fun s => if s.on R.CAN_CFG_AUTO_REC m.val then s.canRecover m else s)

/-- CTRL.FIFO_POP discards the head frame (R478). -/
def State.canPop (s : State) (m : Fin 2) : State :=
  let s := s.modCan m fun c => { c with fifo := c.fifo.drop 1 }
  s.wr R.CAN_FIFO_CNT m.val (s.cn m).fifo.length

/-- CAN_FIFO_POP (R478). -/
def execCanFifoPop (m : Fin 2) (s : State) : Host.Outcome State Fault Refusal := .next (s.whenCan fun s => s.canPop m)

/-- The controller on which the NET engine works, if it does (R480). -/
def State.netCan (s : State) : Option (Fin 2) :=
  if s.domOn dCan && s.on R.NET_CFG_EN 0 then some (if s.on R.NET_CFG_CAN 0 then 1 else 0) else none

/-- Buffers of `w` that the NET engine discards: an extended frame whose SA field is NET.SA while no address is claimed (R481). -/
def State.netDiscards (s : State) (m : Fin 2) (w : Nat) : Nat :=
  if s.netCan = some m ∧ s.rd R.NET_STATUS_CLAIM 0 ≠ 2 then
    (List.range 32).foldl (fun b k =>
      let f := (s.cn m).bufs.toList.getD k .empty
      if w.testBit k && f.ide && decide (f.id % 256 = s.rd R.NET_OWN_SA 0) then b ||| 2 ^ k else b) 0
  else 0

/-- Pending buffers that the engine discards while no address is claimed: they are withdrawn and flagged (R481); `started` as in `canRepick`. -/
def State.netSweep (s : State) (m : Fin 2) (started : Bool) : State :=
  let d := s.netDiscards m (s.rd R.CAN_BPEND m.val)
  if d = 0 then s
  else
    let s := ((s.clrBits R.CAN_BPEND m.val d).clrBits R.CAN_BABORT m.val d).wr R.CAN_IRQ_WR_DENIED m.val 1
    match (s.cn m).cur with
    | some k => if d.testBit k then s.canRepick m started else s
    | none => s

/-- BPEND bits written 1: transmission of the TX buffers among them is requested (R477, R481); a lower ID goes before a frame that has not
`started`. -/
def State.canBpend (s : State) (m : Fin 2) (w : Nat) (started : Bool) : State :=
  let w := w &&& s.rd R.CAN_BCFG m.val
  let d := s.netDiscards m w
  let s := if d ≠ 0 then s.wr R.CAN_IRQ_WR_DENIED m.val 1 else s
  (s.orBits R.CAN_BPEND m.val (w - (w &&& d))).canRepick m started

/-- CAN_BPEND (R477). -/
def execCanBpend (m : Fin 2) (w : BitVec 32) (started : Bool) (s : State) : Host.Outcome State Fault Refusal :=
  .next (s.whenCan fun s => s.canBpend m w.toNat started)

/-- BABORT bits written 1: a pending buffer that has not started is withdrawn; the frame on the bus completes first (R477). -/
def State.canBabort (s : State) (m : Fin 2) (w : Nat) (started : Bool) : State :=
  let w := w &&& s.rd R.CAN_BPEND m.val
  let keep := match (s.cn m).cur with
    | some k => if started && w.testBit k then 2 ^ k else 0
    | none => 0
  let out := w - (w &&& keep)
  let s := (s.clrBits R.CAN_BPEND m.val out).orBits R.CAN_BABORT m.val keep
  match (s.cn m).cur with
  | some k => if out.testBit k then (s.modCan m fun c => { c with cur := none }).canNext m else s
  | none => s

/-- CAN_BABORT (R477). -/
def execCanBabort (m : Fin 2) (w : BitVec 32) (started : Bool) (s : State) : Host.Outcome State Fault Refusal :=
  .next (s.whenCan fun s => s.canBabort m w.toNat started)

/-- The filter that FSEL shows. -/
def State.canFilt (s : State) (m : Fin 2) : CanFilt :=
  (s.cn m).filt.toList.getD (s.rd R.CAN_FSEL m.val) ⟨false, false, false, 0, 0, 0, 0⟩

/-- FID and FMASK show filter FSEL (R488): after a write of FSEL. -/
def State.canShowFilt (s : State) (m : Fin 2) : State :=
  let f := s.canFilt m
  s.wrs m.val [(R.CAN_FID_EN, f.en.toNat), (R.CAN_FID_IDE, f.ide.toNat), (R.CAN_FID_RTR, f.rtr.toNat), (R.CAN_FID_ID, f.id),
    (R.CAN_FMASK_DEST, f.dest), (R.CAN_FMASK_MASK, f.mask)]

/-- A write of FMASK applies FID and FMASK of the selected filter together; with DEST 1 bits [28:24] name the buffer and leave the mask
(R475, R488). -/
def State.canFilter (s : State) (m : Fin 2) (w : Nat) : State :=
  let dest := w / 2 ^ 30 % 4
  let mk := w % 2 ^ 29
  let f : CanFilt :=
    { en := s.on R.CAN_FID_EN m.val, ide := s.on R.CAN_FID_IDE m.val, rtr := s.on R.CAN_FID_RTR m.val, id := s.rd R.CAN_FID_ID m.val,
      dest := dest, buf := if dest = 1 then mk / 2 ^ 24 else 0, mask := if dest = 1 then mk % 2 ^ 24 else mk }
  (s.modCan m fun c => { c with filt := c.filt.set! (s.rd R.CAN_FSEL m.val) f }).canShowFilt m

/-- CAN_FILTER_APPLY (R475). -/
def execCanFilterApply (m : Fin 2) (w : BitVec 32) (s : State) : Host.Outcome State Fault Refusal :=
  .next (s.whenCan fun s => s.canFilter m w.toNat)

/-- A filter matches a frame (R474). -/
def CanFilt.hits (f : CanFilt) (k : CanFrame) : Bool :=
  let w := if k.ide then 2 ^ 29 else 2 ^ 11
  f.en && decide (((k.id ^^^ f.id) &&& f.mask) % w = 0) && f.ide == k.ide && (!k.rtr || f.rtr)

/-- A frame goes to the FIFO (R476). -/
def State.canToFifo (s : State) (m : Fin 2) (f : CanFrame) : State :=
  if (s.cn m).fifo.length < 64 then
    let s := s.modCan m fun c => { c with fifo := c.fifo ++ [f] }
    s.wrs m.val [(R.CAN_FIFO_CNT, (s.cn m).fifo.length), (R.CAN_IRQ_FIFO, 1)]
  else (s.inc R.CAN_WEND_FIFO_LOST m.val).wr R.CAN_IRQ_FIFO_OVF m.val 1

/-- A frame goes to an RX buffer (R476); a TX buffer takes none (log 41). -/
def State.canToBuf (s : State) (m : Fin 2) (k : Nat) (f : CanFrame) : State :=
  if s.bit R.CAN_BCFG m.val k then s
  else
    let s := if s.bit R.CAN_BDONE m.val k then s.wr R.CAN_STATUS_BUF_OVR m.val 1 else s
    ((s.modCan m fun c => { c with bufs := c.bufs.set! k f }).orBits R.CAN_BDONE m.val (2 ^ k)).wr R.CAN_IRQ_RX_BUF m.val 1

/-- A frame runs through the filters in ascending order; the first match decides (R474). -/
def State.canAccept (s : State) (m : Fin 2) (f : CanFrame) : State :=
  match (s.cn m).filt.toList.find? (·.hits f) with
  | some x => if x.dest = 0 then s.canToFifo m f else if x.dest = 1 then s.canToBuf m x.buf f else s
  | none => if s.on R.CAN_CFG_NOMATCH m.val then s.canToFifo m f else s

/-- The parameter group of a 29-bit identifier: PF below 240 leaves PS out (R480). -/
def pgnOf (id : Nat) : Nat :=
  let w := id / 256 % 2 ^ 18
  if w / 256 % 256 < 240 then w / 256 * 256 else w

/-- The NET engine consumes the frame (R480, R487). -/
def State.netTakes (s : State) (m : Fin 2) (f : CanFrame) : Bool :=
  let g := pgnOf f.id
  s.netCan == some m && f.ide && !f.rtr &&
    (g == 0xEE00 || g == 0xEC00 || g == 0xEB00 || g == 0xC800 || g == 0xC700 ||
      (g == 0xEA00 && f.data.take 3 == [0x00#8, 0xEE#8, 0x00#8]) ||
      (g == 0xEF00 && s.on R.GW_CFG_EN 0 && (f.data.getD 0 0).toNat == s.rd R.GW_CFG_KEY 0 &&
        decide (f.id / 256 % 256 = s.rd R.NET_OWN_SA 0)))

/-- A frame has come from partner `sa`: its age starts again (R482). -/
def State.partnerSeen (s : State) (sa : Nat) : State :=
  { s with net.part := s.net.part.map fun p => if p.sa = sa then { p with since := s.now } else p }

/-- A receiver hears the bus: outside internal loop-back, CAN0 in normal or listen-only mode (R471, R488). -/
def State.canRxOk (s : State) (m : Fin 2) : Bool :=
  !s.on R.CAN_CTRL_INIT m.val && s.on R.CAN_STATUS_SYNC m.val && decide (s.rd R.CAN_STATUS_ESTATE m.val < 2) &&
    decide (s.rd R.CAN_CFG_MODE m.val ≠ 1) && (m.val == 1 || s.rd R.CAN_CFG_XCVR 0 == 1 || s.rd R.CAN_CFG_XCVR 0 == 2)

/-- A frame without error lowers REC; from above 127 it goes to some value from 119 to 127 (ISO 11898-1), which is a free value. -/
def State.canRecDown (s : State) (m : Fin 2) : State :=
  let r := (s.cn m).rxe
  if 127 < r then (s.modCan m fun c => { c with rxe := 119 + s.anyVal.toNat % 9 }).used.canErrState m
  else (s.modCan m fun c => { c with rxe := r - 1 }).canErrState m

/-- A frame that the controller has heard goes to the engine and the filters (R474, R480). -/
def State.canHear (s : State) (m : Fin 2) (f : CanFrame) : State :=
  let s := if f.ide && s.netCan == some m then s.partnerSeen (f.id % 256) else s
  if s.netTakes m f && !s.on R.NET_CFG_PASS 0 then s else s.canAccept m f

/-- CAN_FRAME_RECEIVED (R468, R474): `hdr` as WHDR has it, DLC and RTR, the bytes, the Canopy ticks at SOF; or a protocol exception, which an FD
frame is too while FD is not enabled (log 180). -/
def execCanFrameReceived (m : Fin 2) (hdr : BitVec 32) (dlc : BitVec 4) (rtr : Bool) (data : List (BitVec 8)) (sof : BitVec 32)
    (esi pex : Bool) (s : State) : Host.Outcome State Fault Refusal :=
  .next (s.whenCan fun s =>
    if !s.canRxOk m then s
    else if pex || (hdr.getLsbD 31 && !s.on R.CAN_CFG_FD m.val) then
      ((s.modCan m fun c => { c with cur := none }).wrs m.val [(R.CAN_STATUS_PEX, 1), (R.CAN_STATUS_SYNC, 0)]).canHeardEnd m
    else
      let f : CanFrame :=
        { fdf := hdr.getLsbD 31, brs := hdr.getLsbD 30, esi := esi, ide := hdr.getLsbD 29, rtr := rtr, id := hdr.toNat % 2 ^ 29,
          dlc := dlc.toNat, ts := sof, data := data }
      (((s.canRecDown m).canHear m (f.onBus true esi)).canHeardEnd m).settleAll)

/-- The frame that goes next, as the bus carries it. -/
def State.canOut (s : State) (m : Fin 2) (k : Nat) : CanFrame :=
  let f := if k < 32 then (s.cn m).bufs.toList.getD k .empty else (s.cn m).txq.headD .empty
  f.onBus (s.on R.CAN_CFG_FD m.val) (s.rd R.CAN_STATUS_ESTATE m.val == 1)

/-- CAN_TX_DONE (R477): the frame on the bus has been sent, its SOF at Canopy ticks `sof`; in internal loop-back the own receiver has heard it
(R488, log 184). -/
def execCanTxDone (m : Fin 2) (sof : BitVec 32) (s : State) : Host.Outcome State Fault Refusal :=
  .next (s.whenCan fun s =>
    match (s.cn m).cur with
    | none => s
    | some k =>
      let f := s.canOut m k
      let s := s.modCan m fun c => { c with sent := some f }
      let s := if k < 32 then
          ((s.clrBits R.CAN_BPEND m.val (2 ^ k)).clrBits R.CAN_BABORT m.val (2 ^ k)).orBits R.CAN_BDONE m.val (2 ^ k)
        else s.modCan m fun c => { c with txq := c.txq.drop 1 }
      let s := if k < 32 then s.wr R.CAN_IRQ_TX_DONE m.val 1 else s
      let s := (s.modCan m fun c => { c with txe := c.txe - 1 }).canErrState m
      let s := if s.rd R.CAN_CFG_MODE m.val = 1 then s.canHear m { f with ts := sof } else s
      s.canFrameEnd m)

/-- CAN_ERROR (R479): 0 arbitration lost, 1 an error while sending, 2 an error while receiving, 3 a dominant bit after the receiver's
error flag, or eight more; 4 an error while sending that ISO 11898-1 exempts from the count (no acknowledgement and no dominant bit in the passive
flag, or a stuff error in arbitration); 5 a bit error in the transmitter's error flag, or eight more dominant bits after it. The counters move by 8, 1, 8,
0 and 8 (ISO 11898-1, log 185). -/
def execCanError (m : Fin 2) (e : Fin 6) (s : State) : Host.Outcome State Fault Refusal :=
  .next (s.whenCan fun s =>
    if s.on R.CAN_CTRL_INIT m.val then s
    else
      let s := match (s.cn m).cur with
        | none => s
        | some k =>
          if (e.val ≠ 0 ∧ e.val ≠ 1 ∧ e.val ≠ 4) ∨ 32 ≤ k then s
          else if s.bit R.CAN_BABORT m.val k then
            ((s.clrBits R.CAN_BPEND m.val (2 ^ k)).clrBits R.CAN_BABORT m.val (2 ^ k)).wr R.CAN_STATUS_ABORTED m.val 1
          else if s.on R.CAN_CFG_ONESHOT m.val then s.clrBits R.CAN_BPEND m.val (2 ^ k)
          else s
      let s := (s.modCan m fun c =>
        { c with txe := if e.val = 1 ∨ e.val = 5 then c.txe + 8 else c.txe
                 rxe := if e.val = 2 then c.rxe + 1 else if e.val = 3 then c.rxe + 8 else c.rxe }).canErrState m
      (if e.val < 2 ∨ e.val = 4 then s.canFrameEnd m else if e.val = 5 then s else s.canHeardEnd m).settleAll)

/-- CAN_DOMINANT_TIMEOUT (R472): the CAN0 transmitter releases the bus and TXDTO sets. -/
def execCanDominantTimeout (s : State) : Host.Outcome State Fault Refusal :=
  .next (s.whenCan fun s => s.wr R.CAN_STATUS_TXDTO 0 1)

end Sys2Proof.Machine
end

