-- ==== Sys2Proof/Machine/Net.lean ====
section
/-! DEFINITION. The NET engine: address claim, partners, transport sessions (R480 to R485, R489). Frame layouts of ISO 11783-3 and
ISO 11783-5 that the manual names but does not print are PRESUMED (log 42). -/

namespace Sys2Proof.Machine

/-- Byte `i` of a number, least significant first. -/
def byteOf (v i : Nat) : BitVec 8 := BitVec.ofNat 8 (v / 256 ^ i)

/-- The number whose bytes, least significant first, are the list. -/
def leNat : List (BitVec 8) → Nat
  | [] => 0
  | b :: l => b.toNat + 256 * leNat l

/-- Bytes `i` to `i + k - 1` of a frame, least significant first. -/
def leField (d : List (BitVec 8)) (i k : Nat) : Nat := leNat ((d.drop i).take k)

/-- An extended data frame of priority `pri`, parameter group and destination, from address `sa`. -/
def netFrame (pri pgn da sa : Nat) (d : List (BitVec 8)) : CanFrame where
  fdf := false
  brs := false
  esi := false
  ide := true
  rtr := false
  id := pri * 2 ^ 26 + (pgn + (if pgn / 256 % 256 < 240 then da else 0)) * 256 + sa
  dlc := d.length
  ts := 0
  data := d

/-- The NET engine sends a frame. -/
def State.netSend (s : State) (f : CanFrame) : State :=
  match s.netCan with
  | some m => s.canSend m f
  | none => s

/-- The device's NAME (R481). -/
def State.netName (s : State) : Nat := s.rd R.NET_LO_NAME 0 + 2 ^ 32 * s.rd R.NET_HI_NAME 0

/-- Address Claimed from `sa`, or Cannot Claim from 254 (R481). -/
def State.sendClaim (s : State) (sa : Nat) : State :=
  s.netSend (netFrame 6 0xEE00 255 sa ((List.range 8).map fun i => byteOf s.netName i))

/-- Host buffers that wait with the own address are discarded where it is not claimed; whether one of them has started on the bus is a free value
(R481, log 183). -/
def State.netDiscard (s : State) : State :=
  match s.netCan with
  | some m => s.used.netSweep m (s.anyVal.getLsbD 0)
  | none => s

/-- The claim goes on from `sa`: Address Claimed, CLAIMING (R481). -/
def State.claimAt (s : State) (sa : Nat) : State :=
  let s := s.wrs 0 [(R.NET_STATUS_CLAIM, 1), (R.NET_OWN_VALID, 0), (R.NET_OWN_SA, sa)]
  let s := { s with net.late := false }
  ((s.condSet srcNetAddrLost false).netDiscard).sendClaim sa

/-- A claim starts, with PREF_SA, while the engine is enabled (R481). -/
def State.claimStart (s : State) : State := if s.netCan.isSome then s.claimAt (s.rd R.NET_CFG_PREF_SA 0) else s

/-- NET.CFG.EN has become `b` (R481). -/
def State.netEnable (s : State) (was b : Bool) : State :=
  if b && !was then s.claimStart
  else if !b && was then
    let s := s.wrs 0 [(R.NET_STATUS_CLAIM, 0), (R.NET_OWN_VALID, 0)]
    let s := { s with net.late := false, can := s.can.map fun (c : Can) => { c with txq := [] } }
    s.condSet srcNetAddrLost false
  else s

/-- RECLAIM (R481). -/
def execReclaim (s : State) : Host.Outcome State Fault Refusal := .next (s.whenCan fun s => s.claimStart.settleAll)

/-- CAN_RECOVERY_DONE (R479): error-active with counters 0, the condition absent; an address is claimed anew (R481). -/
def execCanRecoveryDone (m : Fin 2) (s : State) : Host.Outcome State Fault Refusal :=
  .next (s.whenCan fun s =>
    if s.rd R.CAN_STATUS_ESTATE m.val = 3 then
      let s := ((s.modCan m fun c => { c with txe := 0, rxe := 0 }).canCounters m).wrs m.val
        [(R.CAN_STATUS_ESTATE, 0), (R.CAN_STATUS_SYNC, if s.on R.CAN_CTRL_INIT m.val then 0 else 1)]
      let s := s.condSet (srcCanBusoff m.val) false
      let s := if s.netCan = some m then s.claimStart else s
      (s.canNext m).settleAll
    else s)

/-- The first address of 128 to 247 above `sa`, with wrap, that no partner holds (R481). -/
def State.freeSa (s : State) (sa : Nat) : Option Nat :=
  let l := (List.range 120).map fun i => 128 + i
  ((l.filter fun a => decide (sa < a)) ++ l.filter fun a => decide (a ≤ sa)).find? fun a =>
    decide (a ≠ sa) && !s.net.part.any fun p => p.sa == a

/-- The address is lost and no other is free, or the NAME is not self-configurable (R481). -/
def State.cannotClaim (s : State) : State :=
  let s := s.wrs 0 [(R.NET_STATUS_CLAIM, 3), (R.NET_OWN_VALID, 0), (R.NET_IRQ_LOST, 1)]
  (({ s with net.late := true }).condSet srcNetAddrLost true).netDiscard

/-- A claim of `name` for the own address (R481): a higher NAME is answered, a lower one takes the address. -/
def State.contested (s : State) (name : Nat) : State :=
  let sa := s.rd R.NET_OWN_SA 0
  if s.netName < name then s.sendClaim sa
  else if name < s.netName then
    if s.netName.testBit 63 then
      match s.freeSa sa with
      | some a => s.claimAt a
      | none => s.cannotClaim
    else s.cannotClaim
  else s

/-- A partner leaves (R482). -/
def State.partnerGone (s : State) (p : Partner → Bool) : State :=
  if s.net.part.any p then
    ({ s with net.part := s.net.part.filter fun x => !p x }).wr R.NET_IRQ_LEFT 0 1
  else s

/-- ADDRESS_CLAIMED_RECEIVED (R481, R482): the partner table follows; a claim of the own address is contested. -/
def execAddressClaimedReceived (sa : BitVec 8) (name : BitVec 64) (s : State) : Host.Outcome State Fault Refusal :=
  .next (s.whenCan fun s =>
    if s.netCan.isNone then s
    else
      let a := sa.toNat
      let m := name.toNat
      let s := s.partnerGone fun p => p.name == m && p.sa != a
      if 254 ≤ a then s
      else
        let s := s.partnerGone fun p => p.sa == a && p.name != m
        let s := { s with net.part := s.net.part.filter (fun (p : Partner) => p.sa != a) ++ [({ sa := a, name := m, since := s.now } : Partner)] }
        let s := s.wr R.NET_IRQ_JOINED 0 1
        let c := s.rd R.NET_STATUS_CLAIM 0
        (if a = s.rd R.NET_OWN_SA 0 ∧ (c = 1 ∨ c = 2) then s.contested m else s).settleAll)

/-- REQUEST_ADDRESS_CLAIMED (R481), global or to the own address. -/
def execRequestAddressClaimed (da : BitVec 8) (s : State) : Host.Outcome State Fault Refusal :=
  .next (s.whenCan fun s =>
    if s.netCan.isSome && (da == 255#8 || decide (da.toNat = s.rd R.NET_OWN_SA 0)) then
      if s.rd R.NET_STATUS_CLAIM 0 = 2 then s.sendClaim (s.rd R.NET_OWN_SA 0)
      else if s.rd R.NET_STATUS_CLAIM 0 = 3 then { s with net.late := true }
      else s
    else s)

/-- CANNOT_CLAIM_DELAY (R481): Cannot Claim is sent. -/
def execCannotClaimDelay (s : State) : Host.Outcome State Fault Refusal :=
  .next (s.whenCan fun s =>
    if s.net.late && decide (s.rd R.NET_STATUS_CLAIM 0 = 3) then ({ s with net.late := false }).sendClaim 254 else s)

/-- PARTNER_LEAVE_TIMEOUT (R482): no frame of the partner for LEAVE_T. -/
def execPartnerLeaveTimeout (sa : BitVec 8) (s : State) : Host.Outcome State Fault Refusal :=
  .next (s.whenCan fun s => if s.rd R.NET_CFG_LEAVE_T 0 = 0 then s else s.partnerGone fun p => p.sa == sa.toNat)

/-! ### Transport sessions -/

/-- A session's record. -/
def State.ss (s : State) (i : Ch) : Sess := s.net.sess.get i

/-- A session's record changed by `g`. -/
def State.modSs (s : State) (i : Ch) (g : Sess → Sess) : State := { s with net.sess := s.net.sess.set i.val (g (s.ss i)) }

/-- The session that NET.SSEL selects (R489). -/
def State.sel (s : State) : Ch :=
  match s.rd R.NET_SSEL 0 with
  | 0 => 0 | 1 => 1 | 2 => 2 | _ => 3

/-- Byte `k` of a session's buffer, most significant byte of a word first (log 43). -/
def Sess.byte (x : Sess) (k : Nat) : BitVec 8 :=
  BitVec.ofNat 8 ((mapGet (fun _ => 0#32) x.buf (k / 4)).toNat / 256 ^ (3 - k % 4))

/-- Byte `k` of a session's buffer becomes `b`; it holds 1,792 (R483). -/
def Sess.setByte (x : Sess) (k : Nat) (b : BitVec 8) : Sess :=
  let w := (mapGet (fun _ => 0#32) x.buf (k / 4)).toNat
  let u := 256 ^ (3 - k % 4)
  if 1792 ≤ k then x
  else { x with buf := mapPut (fun _ => 0#32) x.buf (k / 4) (wd (w - w / u % 256 * u + b.toNat * u)) }

/-- Bytes from `k` on. -/
def Sess.setBytes (x : Sess) (k : Nat) : List (BitVec 8) → Sess
  | [] => x
  | b :: l => (x.setByte k b).setBytes (k + 1) l

/-- Packets of a message. -/
def Sess.packets (x : Sess) : Nat := (x.len + 6) / 7

/-- The PGN field of a transport frame. -/
def pgnBytes (p : Nat) : List (BitVec 8) := [byteOf p 0, byteOf p 1, byteOf p 2]

/-- A TP.CM or ETP.CM frame to `da`. -/
def State.sendCm (s : State) (etp : Bool) (da : Nat) (d : List (BitVec 8)) : State :=
  s.netSend (netFrame 7 (if etp then 0xC800 else 0xEC00) da (s.rd R.NET_OWN_SA 0) d)

/-- Connection Abort with a reason (R484). -/
def State.sendAbort (s : State) (etp : Bool) (da pgn reason : Nat) : State :=
  s.sendCm etp da ([255#8, byteOf reason 0, 255#8, 255#8, 255#8] ++ pgnBytes pgn)

/-- A CTS for `n` packets from packet `p` (R483, R485); 0 holds the connection. -/
def State.sendCts (s : State) (x : Sess) (n p : Nat) : State :=
  if x.kind = 2 then s.sendCm true x.peer ([21#8, byteOf n 0, byteOf p 0, byteOf p 1, byteOf p 2] ++ pgnBytes x.pgn)
  else s.sendCm false x.peer ([17#8, byteOf n 0, byteOf p 0, 255#8, 255#8] ++ pgnBytes x.pgn)

/-- The acknowledgement of a whole message. -/
def State.sendEnd (s : State) (x : Sess) : State :=
  if x.kind = 2 then
    s.sendCm true x.peer ([23#8, byteOf x.len 0, byteOf x.len 1, byteOf x.len 2, byteOf x.len 3] ++ pgnBytes x.pgn)
  else s.sendCm false x.peer ([19#8, byteOf x.len 0, byteOf x.len 1, byteOf x.packets 0, 255#8] ++ pgnBytes x.pgn)

/-- Data packet `p` of a session, sequence number `q`: seven bytes, 0xFF beyond the message (ISO 11783-3). -/
def State.sendDt (s : State) (x : Sess) (p q : Nat) : State :=
  let d := (List.range 7).map fun j =>
    if 7 * (p - 1) + j < x.len then x.byte (7 * (p - 1 - x.base) + j) else 255#8
  s.netSend (netFrame 7 (if x.kind = 2 then 0xC700 else 0xEB00) (if x.kind = 1 then 255 else x.peer) (s.rd R.NET_OWN_SA 0)
    (byteOf q 0 :: d))

/-- Data packets `p` to `p + n - 1` of a session, sequence numbers from `q`. -/
def State.sendDts (s : State) (x : Sess) (p q : Nat) : Nat → State
  | 0 => s
  | n + 1 => (s.sendDt x p q).sendDts x (p + 1) (q + 1) n

/-- The engines may transmit: an address is claimed (R481). -/
def State.netUp (s : State) : Bool := s.netCan.isSome && decide (s.rd R.NET_STATUS_CLAIM 0 = 2)

/-- The four sessions. -/
def sessions : List Ch := [0, 1, 2, 3]

/-- The lowest idle session. -/
def State.idleSess (s : State) : Option Ch := sessions.find? fun i => (s.ss i).st == 0

/-- A session runs: it transmits or receives, or it is held in the midst. -/
def Sess.running (x : Sess) : Bool := x.st == 1 || x.st == 2 || x.st == 4 || (x.st == 3 && (x.tx || x.done < x.len))

/-- The running session with `peer` in a direction, ETP or not; of the message `pgn`, where a frame names one (R484). -/
def State.sessOf (s : State) (peer : Nat) (tx etp : Bool) (pgn : Option Nat) : Option Ch :=
  sessions.find? fun i =>
    let x := s.ss i
    x.running && x.tx == tx && x.peer == peer && (x.kind == 2) == etp && x.kind != 1 && (pgn.isNone || pgn == some x.pgn)

/-- A transmit session starts: RTS, BAM or ETP RTS (R483). -/
def State.sessStart (s : State) (i : Ch) (kind da pgn len : Nat) (gate : Bool) : State :=
  let s := s.modSs i fun x =>
    { x with st := 1, done := 0, kind := kind, da := da, pgn := pgn, len := len, tx := true, peer := da, next := 1, left := 0,
             base := 0, win := min 255 ((len + 6) / 7), cts := none, gate := gate }
  let x := s.ss i
  if kind = 2 then s.sendCm true da ([20#8, byteOf len 0, byteOf len 1, byteOf len 2, byteOf len 3] ++ pgnBytes pgn)
  else if kind = 1 then s.sendCm false 255 ([32#8, byteOf len 0, byteOf len 1, byteOf x.packets 0, 255#8] ++ pgnBytes pgn)
  else s.sendCm false da ([16#8, byteOf len 0, byteOf len 1, byteOf x.packets 0, 255#8] ++ pgnBytes pgn)

/-- Answers of the gateway that wait for a session go out, oldest first, on the sessions that are idle (R486). -/
def State.gwFlush (s : State) : State :=
  sessions.foldl (fun s i =>
    match s.net.gwOut with
    | [] => s
    | (sa, d) :: l =>
      if (s.ss i).st = 0 ∧ s.netUp = true then
        (({ s with net.gwOut := l }).modSs i fun x => { x with buf := [] }.setBytes 0 d).sessStart i 0 sa 0xEF00 d.length true
      else s) s

/-- CLAIM_TIMEOUT (R481): 250 ms without a conflicting claim. -/
def execClaimTimeout (s : State) : Host.Outcome State Fault Refusal :=
  .next (s.whenCan fun s =>
    if s.rd R.NET_STATUS_CLAIM 0 = 1 then
      (s.wrs 0 [(R.NET_STATUS_CLAIM, 2), (R.NET_OWN_VALID, 1), (R.NET_IRQ_CLAIMED, 1)]).gwFlush
    else s)

/-- A session ends by an abort (R484). -/
def State.sessAborted (s : State) (i : Ch) (reason : Nat) : State :=
  ((s.modSs i fun x => { x with st := 0, abort := reason, cts := none, gate := false }).wr R.NET_IRQ_TP_ABORT 0 1).gwFlush

/-- A session is aborted by the engine: Connection Abort where there is a connection, and the end. -/
def State.sessAbort (s : State) (i : Ch) (reason : Nat) : State :=
  let x := s.ss i
  let s := if x.kind = 1 then s else s.sendAbort (x.kind == 2) x.peer x.pgn reason
  s.sessAborted i reason

/-- A session has sent its message: TP_TX, idle (R484); the gateway's own sessions raise no flag. -/
def State.sessSent (s : State) (i : Ch) : State :=
  let g := (s.ss i).gate
  let s := s.modSs i fun x => { x with st := 0, done := x.len, gate := false }
  (if g then s else s.wr R.NET_IRQ_TP_TX 0 1).gwFlush

/-- The length fits the kind (R483): TP up to 1,785 bytes, ETP up to 117,440,505. -/
def sessLenOk (kind len : Nat) : Bool := decide (1 ≤ len) && decide (len ≤ if kind = 2 then 117440505 else 1785)

/-- SCTL.START on the selected session, with the KIND and DA written with it (R483, R489). -/
def State.sctlStart (s : State) (kind da : Nat) : State :=
  let i := s.sel
  let x := s.ss i
  if x.st = 0 ∧ s.netUp ∧ kind < 3 ∧ sessLenOk kind x.len then s.sessStart i kind da x.pgn x.len false
  else s.modSs i fun x => if x.st = 0 then { x with kind := kind, da := da } else x

/-- SESSION_START (R483). -/
def execSessionStart (kind : BitVec 2) (da : BitVec 8) (s : State) : Host.Outcome State Fault Refusal :=
  .next (s.whenCan fun s => s.sctlStart kind.toNat da.toNat)

/-- The packets of a CTS go out: `n` from packet `p` (R483); in ETP a DPO goes before them, and the end of the window sets TP_NEED
and, where a further window follows, awaits the host (R485). -/
def State.serveCts (s : State) (i : Ch) (n p : Nat) : State :=
  let x := s.ss i
  let n := min n (x.packets + 1 - p)
  if x.kind = 2 then
    if x.base + x.win < p then s.modSs i fun x => { x with cts := some (n, p), st := 4 }
    else
      let n := min n (x.base + x.win + 1 - p)
      let s := s.sendCm true x.peer ([22#8, byteOf n 0, byteOf (p - 1) 0, byteOf (p - 1) 1, byteOf (p - 1) 2] ++ pgnBytes x.pgn)
      let s := s.sendDts x p 1 n
      let e := p + n
      let ends := decide (e = x.base + x.win + 1)
      let s := s.modSs i fun x => { x with next := e, done := min x.len (7 * (e - 1)), st := if ends && decide (e ≤ x.packets) then 3 else 1 }
      if ends then s.wr R.NET_IRQ_TP_NEED 0 1 else s
  else
    (s.sendDts x p p n).modSs i fun x => { x with next := p + n, done := min x.len (7 * (p + n - 1)), st := 1 }

/-- A CTS has come for session `i`: 0 packets hold it (R483). -/
def State.gotCts (s : State) (i : Ch) (n p : Nat) : State :=
  if n = 0 then s.modSs i fun x => { x with st := if x.st = 3 then 3 else 4 }
  else if p = 0 then s
  else s.serveCts i n p

/-- The next CTS of a receive session: at most 16 packets, within the window (R483, R485). -/
def State.nextCts (s : State) (i : Ch) : State :=
  let x := s.ss i
  let n := min 16 (x.base + x.win + 1 - x.next)
  (s.modSs i fun x => { x with left := n }).sendCts x n x.next

/-- An incoming RTS, ETP RTS or BAM takes the lowest idle session, or is refused (R483, R484); a length that its kind cannot have is refused with
reason 9 of ISO 11783-3, and such a BAM is ignored (log 181). -/
def State.incoming (s : State) (kind sa pgn len : Nat) : State :=
  if kind ≠ 1 ∧ ((s.sessOf sa false true none).isSome ∨ (s.sessOf sa false false none).isSome) then s.sendAbort (kind == 2) sa pgn 1
  else if !sessLenOk kind len then (if kind = 1 then s else s.sendAbort (kind == 2) sa pgn 9)
  else
    match s.idleSess with
    | none =>
      if kind = 1 then s.inc R.NET_CNT_IGNORED 0 else (s.sendAbort (kind == 2) sa pgn 1).inc R.NET_CNT_REFUSED 0
    | some i =>
      let k := (len + 6) / 7
      let s := s.modSs i fun x =>
        { x with st := 2, done := 0, kind := kind, pgn := pgn, len := len, buf := [], tx := false, peer := sa, next := 1, left := 0,
                 base := 0, win := if kind = 2 then min 255 k else k, cts := none, gate := false }
      if kind = 1 then s else s.nextCts i

/-- A message has arrived whole (R484): TP_RX and the wait for RELEASE; one for the gateway waits for it instead (R486). -/
def State.sessReceived (s : State) (i : Ch) : State :=
  let x := s.ss i
  let g := x.kind == 0 && x.pgn == 0xEF00 && s.on R.GW_CFG_EN 0 && (x.byte 0).toNat == s.rd R.GW_CFG_KEY 0
  let s := s.modSs i fun x => { x with st := 3, done := x.len, gate := g }
  let s := if x.kind = 1 then s else s.sendEnd x
  if g then s else s.wr R.NET_IRQ_TP_RX 0 1

/-- A data packet, `p` from the start of the message, has arrived for session `i` (R483, R485). -/
def State.gotDt (s : State) (i : Ch) (p : Nat) (d : List (BitVec 8)) : State :=
  let x := s.ss i
  if p = x.next ∧ p ≤ x.base + x.win ∧ x.st = 2 then
    let d := d.take (min 7 (x.len - 7 * (p - 1)))
    let s := s.modSs i fun x =>
      { x.setBytes (7 * (p - 1 - x.base)) d with next := p + 1, left := x.left - 1, done := min x.len (7 * p) }
    let x := s.ss i
    if x.packets < x.next then s.sessReceived i
    else if x.kind = 1 then s
    else if x.next = x.base + x.win + 1 then
      ((s.modSs i fun x => { x with st := 3 }).wr R.NET_IRQ_TP_RX 0 1).sendCts x 0 x.next
    else if x.left = 0 then s.nextCts i
    else s
  else s

/-- A frame of the engine's protocols from `sa` is served, if the engine runs: broadcasts are received without a claimed address too. -/
def State.netRx (s : State) (sa : BitVec 8) (f : State → State) : State :=
  s.whenCan fun s => if s.netCan.isSome then (f (s.partnerSeen sa.toNat)) else s

/-- The frame is addressed to the own address. -/
def State.toMe (s : State) (da : BitVec 8) : Bool := decide (da.toNat = s.rd R.NET_OWN_SA 0)

/-- The frame is addressed to the own address, which is claimed: a connection answers from it (R481). -/
def State.forMe (s : State) (da : BitVec 8) : Bool := s.netUp && s.toMe da

/-- An end or an abort from the other end of the session of message `pgn`. -/
def State.sessClosed (s : State) (sa : Nat) (etp : Bool) (pgn : Nat) (reason : Option Nat) : State :=
  match s.sessOf sa true etp (some pgn), reason with
  | some i, none => s.sessSent i
  | some i, some r => s.sessAborted i r
  | none, some r => match s.sessOf sa false etp (some pgn) with
    | some i => s.sessAborted i r
    | none => s
  | none, none => s

/-- TP_CM_RECEIVED (R483, R484): RTS, CTS, end of message, BAM, abort. -/
def execTpCmReceived (sa da : BitVec 8) (d : List (BitVec 8)) (s : State) : Host.Outcome State Fault Refusal :=
  .next (s.netRx sa fun s =>
    let c := leField d 0 1
    let pgn := leField d 5 3
    if c = 32 ∧ da = 255#8 then s.incoming 1 sa.toNat pgn (leField d 1 2)
    else if !s.forMe da then s
    else if c = 16 then s.incoming 0 sa.toNat pgn (leField d 1 2)
    else if c = 17 then
      match s.sessOf sa.toNat true false (some pgn) with
      | some i => s.gotCts i (leField d 1 1) (leField d 2 1)
      | none => s
    else if c = 19 then s.sessClosed sa.toNat false pgn none
    else if c = 255 then s.sessClosed sa.toNat false pgn (some (leField d 1 1))
    else s)

/-- TP_DT_RECEIVED (R483). -/
def execTpDtReceived (sa da : BitVec 8) (d : List (BitVec 8)) (s : State) : Host.Outcome State Fault Refusal :=
  .next (s.netRx sa fun s =>
    let i := if da = 255#8 then
        sessions.find? fun i => (s.ss i).st == 2 && (s.ss i).kind == 1 && (s.ss i).peer == sa.toNat
      else if s.forMe da then s.sessOf sa.toNat false false none else none
    match i with
    | some i => s.gotDt i (leField d 0 1) (d.drop 1)
    | none => s)

/-- ETP_CM_RECEIVED (R485): RTS, CTS, data packet offset, end of message, abort. -/
def execEtpCmReceived (sa da : BitVec 8) (d : List (BitVec 8)) (s : State) : Host.Outcome State Fault Refusal :=
  .next (s.netRx sa fun s =>
    let c := leField d 0 1
    let pgn := leField d 5 3
    if !s.forMe da then s
    else if c = 20 then s.incoming 2 sa.toNat pgn (leField d 1 4)
    else if c = 21 then
      match s.sessOf sa.toNat true true (some pgn) with
      | some i => s.gotCts i (leField d 1 1) (leField d 2 3)
      | none => s
    else if c = 22 then
      match s.sessOf sa.toNat false true (some pgn) with
      | some i => s.modSs i fun x => { x with left := leField d 1 1, cts := some (leField d 1 1, leField d 2 3) }
      | none => s
    else if c = 23 then s.sessClosed sa.toNat true pgn none
    else if c = 255 then s.sessClosed sa.toNat true pgn (some (leField d 1 1))
    else s)

/-- ETP_DT_RECEIVED (R485): the packet's number counts from the offset of the last DPO. -/
def execEtpDtReceived (sa da : BitVec 8) (d : List (BitVec 8)) (s : State) : Host.Outcome State Fault Refusal :=
  .next (s.netRx sa fun s =>
    match (if s.forMe da then s.sessOf sa.toNat false true none else none) with
    | some i =>
      match (s.ss i).cts with
      | some (_, o) => s.gotDt i (o + leField d 0 1) (d.drop 1)
      | none => s
    | none => s)

/-- NEXT on the selected session: the next ETP window (R485). -/
def State.sctlNext (s : State) : State :=
  let i := s.sel
  let x := s.ss i
  if x.kind = 2 ∧ (x.st = 3 ∨ x.st = 4) ∧ x.base + x.win < x.packets ∧ x.next = x.base + x.win + 1 then
    let s := s.modSs i fun x =>
      { x with base := x.base + x.win, win := min 255 (x.packets - x.base - x.win), st := if x.tx then 1 else 2 }
    if x.tx then
      match x.cts with
      | some (n, p) => (s.modSs i fun x => { x with cts := none }).serveCts i n p
      | none => s
    else s.nextCts i
  else s

/-- SESSION_NEXT (R485). -/
def execSessionNext (s : State) : Host.Outcome State Fault Refusal := .next (s.whenCan fun s => s.sctlNext)

/-- RELEASE frees a completed receive session (R484). -/
def State.sctlRelease (s : State) : State :=
  let i := s.sel
  let x := s.ss i
  if x.st = 3 ∧ !x.tx ∧ x.done = x.len then (s.modSs i fun x => { x with st := 0, gate := false }).gwFlush else s

/-- SESSION_RELEASE (R484). -/
def execSessionRelease (s : State) : Host.Outcome State Fault Refusal := .next (s.whenCan fun s => s.sctlRelease)

/-- ABORT of the selected session by the host: reason 2 of ISO 11783-3 (log 42). -/
def State.sctlAbort (s : State) : State := if (s.ss s.sel).running then s.sessAbort s.sel 2 else s

/-- SESSION_ABORT (R484). -/
def execSessionAbort (s : State) : Host.Outcome State Fault Refusal := .next (s.whenCan fun s => s.sctlAbort)

/-- TP_TIMEOUT (R483, R485): a timer of ISO 11783-3 expires; the abort has reason 3. -/
def execTpTimeout (i : Ch) (s : State) : Host.Outcome State Fault Refusal :=
  .next (s.whenCan fun s => if (s.ss i).running then s.sessAbort i 3 else s)

/-- BAM_PACKET_TIMER (R483): the next packet of a broadcast; after the last one the session is idle. -/
def execBamPacketTimer (i : Ch) (s : State) : Host.Outcome State Fault Refusal :=
  .next (s.whenCan fun s =>
    let x := s.ss i
    if x.st = 1 ∧ x.kind = 1 ∧ s.netUp then
      let s := (s.sendDt x x.next x.next).modSs i fun x => { x with next := x.next + 1, done := min x.len (7 * x.next) }
      if x.packets ≤ x.next then s.sessSent i else s
    else s)

/-- HOLD_CTS_TIMER (R485): every 500 ms while an ETP window awaits the host. -/
def execHoldCtsTimer (i : Ch) (s : State) : Host.Outcome State Fault Refusal :=
  .next (s.whenCan fun s =>
    let x := s.ss i
    if x.st = 3 ∧ x.kind = 2 ∧ !x.tx ∧ x.done < x.len ∧ s.netUp then s.sendCts x 0 x.next else s)

/-! ### SDATA (R489) -/

/-- The value of SDATA: buffer word SIDX of the selected session. -/
def State.sdata (s : State) : Word := mapGet (fun _ => 0#32) (s.ss s.sel).buf (s.rd R.NET_SIDX 0)

/-- SIDX moves on. -/
def State.sidxNext (s : State) : State := s.wr R.NET_SIDX 0 (s.rd R.NET_SIDX 0 + 1)

/-- A write of SDATA: the buffer holds 448 words (R483); SIDX moves on. -/
def State.sdataWrite (s : State) (w : Word) : State :=
  let k := s.rd R.NET_SIDX 0
  (if k < 448 then s.modSs s.sel fun x => { x with buf := mapPut (fun _ => 0#32) x.buf k w } else s).sidxNext

/-- NET_SDATA_WRITE (R489). -/
def execNetSdataWrite (w : BitVec 32) (s : State) : Host.Outcome State Fault Refusal :=
  .next (s.whenCan fun s => s.sdataWrite w)

/-- NET_SDATA_READ (R90, R489): a confirmed read. -/
def execNetSdataRead (s : State) : Host.Outcome State Fault Refusal := .next (s.whenCan fun s => s.sidxNext)

/-- CAN_STATUS_READ (R90, R488): a confirmed read of CANm.STATUS; PEX clears if it was returned as 1 and no protocol exception has
occurred since the bus access. -/
def execCanStatusRead (m : Fin 2) (returned since : Bool) (s : State) : Host.Outcome State Fault Refusal :=
  .next (s.whenCan fun s => if returned && !since then s.wr R.CAN_STATUS_PEX m.val 0 else s)

/-! ### Gateway answers (R486) -/

/-- The gateway sends a message of Proprietary A to `sa`: by a session where it came by one or is too long for a frame, as
soon as one is idle. -/
def State.gwSend (s : State) (sa : Nat) (sess : Bool) (d : List (BitVec 8)) : State :=
  if sess || decide (8 < d.length) then ({ s with net.gwOut := s.net.gwOut ++ [(sa, d)] }).gwFlush
  else s.netSend (netFrame 6 0xEF00 sa (s.rd R.NET_OWN_SA 0) d)

/-- A word's bytes, most significant first (R486). -/
def beBytes (w : Word) : List (BitVec 8) := [byteOf w.toNat 3, byteOf w.toNat 2, byteOf w.toNat 1, byteOf w.toNat 0]

/-- The answer to a request with header bytes 0 to 3 in `hdr` (byte 0 in bits [31:24]): status and data (R486); REFUSED is also sent while the
address is not claimed (R487, log 182). -/
def State.gwAnswer (s : State) (sa : Nat) (hdr : Word) (sess : Bool) (status : Nat) (data : List Word) : State :=
  let d := [byteOf hdr.toNat 3, byteOf hdr.toNat 2, byteOf status 0, 0#8] ++ data.flatMap beBytes
  if s.netUp || status == 3 then s.gwSend sa sess d else s

/-- A held request is answered: REFUSED counts and flags, any other status completes it (R487, R490). -/
def State.gwDone (s : State) (q : GwReq) (status : Nat) (data : List Word) : State :=
  let s := { s with net.gw := s.net.gw.erase q }
  let s := (s.inc R.GW_CNT_DONE 0).wr R.GW_STATUS_HELD 0 s.net.gw.length
  s.gwAnswer q.sa q.hdr q.sess status data

/-- A request is turned away at once with REFUSED or BUSY (R487, R490). -/
def State.gwRefuse (s : State) (sa : Nat) (hdr : Word) (sess : Bool) (status : Nat) : State :=
  ((s.inc R.GW_CNT_REFUSED 0).wr R.GW_IRQ_REFUSED 0 1).gwAnswer sa hdr sess status []

end Sys2Proof.Machine
end

