-- ==== Sys2Proof/Machine/Txn.lean ====
section
/-! DEFINITION. Transactions: tags, completion, the host's TXN page, the route table (R418 to R424, R439, R442). -/

namespace Sys2Proof.Machine

/-- The effect `f` while PD_LINK is on: Trail, the LNK pages and TXN live there (R28, R87). -/
def State.whenLink (s : State) (f : State → State) : State := if s.domOn dLink then f s else s

/-- Tag `t`. -/
def State.tag (s : State) (t : Nat) : Tag := s.fab.tags.toList.getD t Tag.reset

/-- Tag `t` becomes `x`. -/
def State.setTag (s : State) (t : Nat) (x : Tag) : State := { s with fab.tags := s.fab.tags.set! t x }

/-- The lowest free tag: 56 to 63 serve only the Lodge (R418). -/
def State.freeTag (s : State) (lodge : Bool) : Option Nat :=
  ((List.range 64).filter fun t => lodge || decide (t < 56)).find? fun t => (s.tag t).st == 0

/-- Outstanding tags (TXN.STATUS.OUTSTANDING, R442). -/
def State.outstanding (s : State) : Nat := (s.fab.tags.toList.filter fun x => x.st == 1).length

/-- The host's transaction is outstanding (TXN.STATUS.BUSY, R442). -/
def State.hostBusy (s : State) : Bool := s.fab.tags.toList.any fun x => x.st == 1 && x.use == .host

/-- A request packet (R408). -/
def reqPkt (me : Option Nat) (typ vc dst : Nat) (pst : Bool) (arg : Word) (len : Nat) (data : List Word) : Pkt :=
  { evtPkt me dst data with vc := vc, typ := typ, pst := pst, arg := arg, len := len }

/-- A directed-route request along the ports of `path` (R413). -/
def drPkt (me : Option Nat) (typ vc : Nat) (pst : Bool) (path : List Nat) (arg : Word) (data : List Word) : Pkt :=
  let r := path.foldr (fun p w => w * 4 + p % 4) 0
  { reqPkt me typ vc 0x3FF pst arg (4 * data.length) data with dr := true, hops := path.length, route := wd r }

/-- A non-posted request of an initiator takes the lowest free tag and is sent; `none` without a free tag (R418). -/
def State.request (s : State) (ing owner : Nat) (use : TagUse) (k : Pkt) : Option (Nat × State) :=
  match s.freeTag (owner == 1 || owner == 8) with
  | none => none
  | some t =>
    let s := s.setTag t { st := 1, owner := owner, last := (s.tag t).last, dst := k.dst, dr := k.dr, use := use }
    some (t, (s.incWrap R.TXN_SENT 0).send ing { k with tag := t })

/-- The result of the host's transaction (R442). -/
def State.hostResult (s : State) (t status : Nat) (data : List Word) : State :=
  let s := s.wrs 0 [(R.TXN_RSLT_VALID, 1), (R.TXN_RSLT_STATUS, status), (R.TXN_RSLT_TAG, t), (R.TXN_IRQ_DONE, 1)]
  s.wrs 0 (((List.range 32).zip data).map fun e => (R.TXN_DATA.nth e.1, e.2.toNat))

/-- A tag completes (R419): free at once, or in quarantine after TIMEOUT and a NO_ROUTE of the device's own (`own`). -/
def State.complete (s : State) (t status : Nat) (own : Bool) (route : Word) (data : List Word) : State :=
  let x := s.tag t
  let s := s.setTag t { x with st := if own then 2 else 0, last := status, use := .none }
  let s := if status = 2 then s.inc R.TXN_CNT_END_TIMEOUT 0 else if status = 1 then s.inc R.TXN_CNT_END_NO_ROUTE 0 else s
  match x.use with
  | .none => s
  | .host => s.hostResult t status data
  | .grove n =>
    if h : n < 4 then
      (s.modCh ⟨n, h⟩ fun c => { c with grv.sends := c.grv.sends.erase t }).grvEvent ⟨n, h⟩ 9
    else s
  | .enum => { s with fab.answer := some (status, route :: data) }
  | .gate =>
    match s.net.gw.find? fun q => q.tag == t with
    | some q => s.gwDone q status data
    | none => s

/-- Every outstanding transaction whose destination meets `p` completes with NO_ROUTE (R421). -/
def State.noRoute (s : State) (p : Nat → Bool) : State :=
  (List.range 64).foldl (fun s t =>
    let x := s.tag t
    if x.st == 1 && !x.dr && p x.dst then s.complete t 1 true 0 [] else s) s

/-- The route table word of ID `d` becomes `w`; an entry that becomes drop ends its transactions (R421, R439). -/
def State.routeWrite (s : State) (d : Nat) (w : Nat) : State :=
  if 0x3FF ≤ d then s
  else
    let s := s.setMemWord (0x340000 + 4 * d) (wd (w % 8))
    if s.dropEntry (w % 8) then s.noRoute fun x => x == d else s

/-- TRANSACTION_TIMEOUT (R419). -/
def State.txnTimeout (s : State) (t : Nat) : State :=
  if (s.tag t).st = 1 then (s.complete t 2 true 0 []).raise srcFabTimeout 0 else s

/-- The host's request as TXN.REQ and TXN.ADDR spell it, `none` where a field is invalid (R410, R411, R442). -/
def State.hostPkt (s : State) : Option Pkt :=
  let typ := s.rd R.TXN_REQ_TYPE 0
  let vc := s.rd R.TXN_REQ_VC 0
  let dst := s.rd R.TXN_REQ_DST 0
  let bc := decide (dst = 0x3FF)
  let pst := s.on R.TXN_REQ_PST 0 || bc
  let n := s.rd R.TXN_REQ_COUNT 0 + 1
  let a := s.rd R.TXN_ADDR 0
  let data := (List.range n).map fun j => s.rdw (R.TXN_DATA.nth j) 0
  if 32 < n then none
  else if typ = 0 then
    if vc = 2 ∧ !pst ∧ a % 4 = 0 then some (reqPkt s.nodeId 0 2 dst false (wd ((n - 1) * 2 ^ 24 + a)) 0 []) else none
  else if typ = 1 then
    if vc = 2 ∧ a % 4 = 0 then some (reqPkt s.nodeId 1 2 dst pst (wd ((n - 1) * 2 ^ 24 + a)) (4 * n) data) else none
  else if typ = 2 then
    if vc = 2 ∨ (vc = 3 ∧ pst) then some (reqPkt s.nodeId 2 vc dst pst (wd (a % 8)) (4 * n) data) else none
  else none

/-- CTRL.GO (R418, R442): ignored while a host transaction is outstanding; BAD_REQ, NO_TAG and a posted request complete at once. -/
def State.txnGo (s : State) : State :=
  if s.hostBusy then s
  else
    let s := s.wr R.TXN_RSLT_VALID 0 0
    match s.hostPkt with
    | none => s.hostResult 0 5 []
    | some k =>
      if k.pst then ((s.incWrap R.TXN_SENT 0).send fromHost k).hostResult 0 0 []
      else
        match s.request fromHost 0 .host k with
        | none => s.hostResult 0 6 []
        | some (_, s) => s

/-- TXN_GO (R442). -/
def execTxnGo (s : State) : Host.Outcome State Fault Refusal := .next (s.whenLink fun s => s.txnGo)

/-- HRX_POP frees the head message (R424). -/
def State.hrxPop (s : State) : State := { s with fab.hrx := s.fab.hrx.drop 1 }

/-- HRX_POP (R424). -/
def execHrxPop (s : State) : Host.Outcome State Fault Refusal := .next (s.whenLink fun s => s.hrxPop)

/-- The TXN counters clear (R442). -/
def State.txnCntClr (s : State) : State :=
  s.wrs 0 [(R.TXN_SENT, 0), (R.TXN_CNT_END_TIMEOUT, 0), (R.TXN_CNT_END_NO_ROUTE, 0), (R.TXN_CNT_IN_BUSY, 0),
    (R.TXN_CNT_IN_REFUSED, 0)]

/-- TXN_CNT_CLR (R442). -/
def execTxnCntClr (s : State) : Host.Outcome State Fault Refusal := .next (s.whenLink fun s => s.txnCntClr)

/-- The ROUTE and TXN counters clear (R438); those of TXN are there while PD_LINK is on. -/
def State.fabCntClr (s : State) : State :=
  (s.whenLink fun s => s.txnCntClr).wrs 0 [(R.ROUTE_NOROUTE_TX, 0), (R.ROUTE_DROPPED, 0), (R.ROUTE_FWD01_FWDH, 0),
    (R.ROUTE_FWD01_FWDL, 0), (R.ROUTE_FWD23_FWDH, 0), (R.ROUTE_FWD23_FWDL, 0)]

/-- FAB_CNT_CLR (R438). -/
def execFabCntClr (s : State) : Host.Outcome State Fault Refusal := .next s.fabCntClr

/-- The first delivered packet that meets `p`, with its ingress, taken from the queue. -/
def State.takeWhere (s : State) (p : Pkt → Bool) : Option (Nat × Pkt × State) :=
  match s.inq.find? fun e => p e.2 with
  | none => none
  | some e => some (e.1, e.2, { s with inq := s.inq.erase e })

/-- A delivered response (R419): it completes its tag if its SRC is the request's DST, if the request went by directed route, or if it is a
NO_ROUTE, which a forwarding device sends (log 44); else it is discarded as unmatched. -/
def State.response (s : State) : State :=
  match s.takeWhere (·.rsp) with
  | none => s
  | some (ing, k, s) =>
    let x := s.tag k.tag
    if x.st == 1 && (x.dr || k.src == x.dst || k.status == 1) then
      s.complete k.tag k.status (k.status == 1 && s.nodeId == some k.src) k.route k.data
    else s.dropNote ing 6 k

end Sys2Proof.Machine
end

