-- ==== Sys2Proof/Machine/Root.lean ====
section
/-! DEFINITION. Root records, election and enumeration (R426 to R437, R440). -/

namespace Sys2Proof.Machine

/-- The device's UID (R438). -/
def State.uid (s : State) : Nat := s.rd R.FAB_LO_UID 0 + 2 ^ 32 * s.rd R.FAB_HI_UID 0

/-- The device may become root (R426). -/
def State.eligible (s : State) : Bool := s.on R.FAB_ELIGIBLE 0 && decide (s.rd R.FAB_PRIO 0 ≠ 0xFF)

/-- Record `a` beats record `b` (R428). -/
def RootRec.beats (a b : RootRec) : Bool :=
  if a.est != b.est then a.est
  else if a.prio ≠ b.prio ∨ a.uid ≠ b.uid then decide (a.prio < b.prio) || (a.prio == b.prio && decide (a.uid < b.uid))
  else if a.seq ≠ b.seq then decide ((a.seq + 65536 - b.seq) % 65536 < 32768)
  else if a.dist ≠ b.dist then decide (a.dist < b.dist)
  else decide (a.up.getD 4 < b.up.getD 4)

/-- The device's own offer (R427). -/
def State.offer (s : State) : RootRec where
  prio := s.rd R.FAB_PRIO 0
  uid := s.uid
  id := s.nodeId.getD 0x3FF
  est := false
  seq := 0
  dist := 0
  up := none

/-- The held record as the FAB page shows it (R438). -/
def State.showRoot (s : State) : State :=
  match s.fab.held with
  | none => s.wrs 0 [(R.FAB_STATUS_ROOT_ID, 0x3FF), (R.FAB_STATUS_DIST, 0), (R.FAB_STATUS_UP_VALID, 0), (R.FAB_STATUS_UPPORT, 0),
      (R.FAB_STATUS_ESTABLISHED, 0), (R.FAB_STATUS_ROLE, 0), (R.FAB_LO_ROOT_UID, 0), (R.FAB_HI_ROOT_UID, 0), (R.FAB_SEQ, 0),
      (R.FAB_ROOT_PRIO, 0xFF)]
  | some r => s.wrs 0 [(R.FAB_STATUS_ROOT_ID, r.id), (R.FAB_STATUS_DIST, r.dist), (R.FAB_STATUS_UP_VALID, r.up.isSome.toNat),
      (R.FAB_STATUS_UPPORT, r.up.getD 0), (R.FAB_STATUS_ESTABLISHED, r.est.toNat),
      (R.FAB_STATUS_ROLE, if r.up.isSome then 2 else if r.est then 3 else 1), (R.FAB_LO_ROOT_UID, r.uid),
      (R.FAB_HI_ROOT_UID, r.uid / 2 ^ 32), (R.FAB_SEQ, r.seq), (R.FAB_ROOT_PRIO, r.prio)]

/-- The device is root (R429). -/
def State.isRoot (s : State) : Bool :=
  match s.fab.held with
  | some r => r.est && r.up.isNone
  | none => false

/-! ### The source of Canopy time (R444, R448) -/

/-- LOCK rises: LOCKED sets and the condition of TIME_LOSS goes (R448). -/
def State.lockRise (s : State) : State :=
  if s.on R.TIME_STATUS_LOCK 0 then s
  else
    let s := s.wrs 0 [(R.TIME_STATUS_LOCK, 1), (R.TIME_IRQ_LOCKED, 1)]
    ({ s with tsy.held := true }).condSet srcTimeLoss false

/-- LOCK falls: LOCK_LOST sets and the condition of TIME_LOSS is present (R448). -/
def State.lockFall (s : State) : State :=
  let s := { s with tsy.good := 0 }
  if s.on R.TIME_STATUS_LOCK 0 then
    (s.wrs 0 [(R.TIME_STATUS_LOCK, 0), (R.TIME_IRQ_LOCK_LOST, 1)]).condSet srcTimeLoss s.tsy.held
  else s

/-- The PWM PLL has lock and the PCLK monitor does not fail, so Canopy time counts (R443, R445). -/
def State.timeRuns (s : State) : Bool := s.on R.CLK_STATUS_PWMPLL_LOCK 0 && !(s.fr srcMonPclk).cond

/-- STATUS.SRC and UPPORT follow the held record: 1 at the root, 2 with an UPPORT, 0 else and while the counter stands (R444, R445). A
new UPPORT makes the next exchange a first one; the loss of UPPORT drops LOCK; the root's LOCK is 1. -/
def State.timeSource (s : State) : State :=
  let up := match s.fab.held with
    | some r => if s.timeRuns then r.up else none
    | none => none
  let was := if s.rd R.TIME_STATUS_SRC 0 = 2 then some (s.rd R.TIME_STATUS_UPPORT 0) else none
  let s := if up ≠ was then { s with tsy.first := true, tsy.t1 := none, tsy.rsp := none } else s
  if s.isRoot && s.timeRuns then (s.wrs 0 [(R.TIME_STATUS_SRC, 1), (R.TIME_STATUS_UPPORT, 0), (R.TIME_STATUS_HOLDOVER, 0)]).lockRise
  else
    match up with
    | some p => s.wrs 0 [(R.TIME_STATUS_SRC, 2), (R.TIME_STATUS_UPPORT, p)]
    | none => (s.wrs 0 [(R.TIME_STATUS_SRC, 0), (R.TIME_STATUS_UPPORT, 0)]).lockFall

/-! ### Beacons and the held record -/

/-- The beacon of a record for port `p` (R425, R427). -/
def State.beacon (s : State) (r : RootRec) (p : Nat) : Pkt :=
  drPkt s.nodeId 3 0 true [p] 0
    [wd (0x04 * 2 ^ 24 + r.prio * 2 ^ 16 + r.est.toNat * 2 ^ 15 + r.dist % 32 * 2 ^ 10 + r.id), wd r.uid, wd (r.uid / 2 ^ 32),
      wd (r.seq % 65536)]

/-- The best record goes out on every ACTIVE port (R427). -/
def State.sendBeacons (s : State) : State :=
  match s.fab.held with
  | none => s
  | some r => (List.range 4).foldl (fun s p => if s.portActive p then s.send fromLodge (s.beacon r p) else s) s

/-- A FABRIC_REENUM job ends when the device stops being root: DETAIL with RES7 = 1 (R437). -/
def State.reenumLost (s : State) : State :=
  match s.holder 9 with
  | none => s
  | some k =>
    let s := s.setJob k { s.job k with detail := 1 }
    s.jobFail k cDetail

/-- The device steps down from root: its enumeration ends (R429, R433, R437). -/
def State.stepDown (s : State) : State :=
  let s := { s with fab.nodes := [], fab.edges := [], fab.routes := [], fab.work := [], fab.step := .idle, fab.answer := none,
                    fab.todo := [], fab.writes := [], fab.fresh := [], fab.gone := [], fab.learn := false, fab.tables := [] }
  (s.wrs 0 [(R.FAB_STATUS_ENUM_BUSY, 0), (R.FAB_PRESENT, 0)]).reenumLost

/-- The held record becomes `r` (R428, R429): ROOT_CHANGED with a different established root, FAB_ROOT_LOST with the loss of one. -/
def State.setHeld (s : State) (r : Option RootRec) : State :=
  let old := s.fab.held
  let was := s.isRoot
  let s := ({ s with fab.held := r }).showRoot
  let s := if was && !s.isRoot then s.stepDown else s
  let oldE := match old with | some x => x.est | none => false
  let newE := match r with | some x => x.est | none => false
  let s := if newE && (!oldE || (old.map (·.uid)) != (r.map (·.uid))) then s.wr R.FAB_IRQ_ROOT_CHANGED 0 1 else s
  let s := if oldE && !newE then (s.wr R.FAB_IRQ_ROOT_LOST 0 1).condSet srcRootLost true
    else if newE then s.condSet srcRootLost false else s
  let s := s.timeSource
  if old != r then s.sendBeacons else s

/-- The best of a list of records. -/
def bestRec : List RootRec → Option RootRec
  | [] => none
  | r :: l => some (l.foldl (fun b x => if x.beats b then x else b) r)

/-- The record of port `p` was heard and has not expired: its SEQ advanced within LOSS_T (R428). -/
def State.freshRec (s : State) (p : Nat) : Option RootRec :=
  if s.now ≤ s.fab.seen.toList.getD p 0 + s.rd R.FAB_LOSS_T 0 * 40000 then s.fab.last.toList.getD p none else none

/-- The best unexpired record of the ports but `up`, or the own offer (R428). -/
def State.pickRoot (s : State) (up : Nat) : State :=
  let l := ((List.range 4).filter fun p => p != up && s.portActive p).filterMap s.freshRec
  s.setHeld (bestRec (l ++ if s.eligible then [s.offer] else []))

/-- The held record expires (R428). -/
def State.rootExpire (s : State) : State :=
  match s.fab.held with
  | some ⟨_, _, _, _, _, _, some up⟩ => ({ s with fab.last := s.fab.last.set! up none }).pickRoot up
  | _ => s

/-- The own record as PRIO and ELIGIBLE make it (R426, R427): a device that is no longer eligible withdraws its own, and one whose offer beats
the held record offers itself. -/
def State.reoffer (s : State) : State :=
  match s.fab.held with
  | none => if s.eligible then s.setHeld (some s.offer) else s
  | some r =>
    if r.up.isNone then
      if s.eligible then s.setHeld (some { r with prio := s.rd R.FAB_PRIO 0, id := s.nodeId.getD 0x3FF }) else s.pickRoot 4
    else if s.eligible && s.offer.beats r then s.setHeld (some s.offer)
    else s

/-- ROOT_RECORD_EXPIRY (R428): the held record's SEQ has not advanced for LOSS_T. -/
def execRootRecordExpiry (s : State) : Host.Outcome State Fault Refusal := .next (s.whenLink fun s => s.rootExpire.settleAll)

/-- BEACON_TIMER (R427): a root advances SEQ, an eligible device without a better record offers itself, and the beacons go out. -/
def execBeaconTimer (s : State) : Host.Outcome State Fault Refusal :=
  .next (s.whenLink fun s =>
    match s.fab.held with
    | none => s.reoffer.settleAll
    | some r =>
      if s.isRoot && s.eligible then
        (s.setHeld (some { r with seq := (r.seq + 1) % 65536, prio := s.rd R.FAB_PRIO 0, id := s.nodeId.getD 0x3FF })).settleAll
      else
        let t := s.reoffer
        if t.fab.held = s.fab.held then s.sendBeacons else t.settleAll)

/-- The record of a beacon that came in on port `p`, its distance incremented (R425, R427). -/
def Pkt.rootRec (k : Pkt) (p : Nat) : RootRec :=
  let w (i : Nat) : Nat := (k.data.getD i 0#32).toNat
  { prio := w 0 / 2 ^ 16 % 256, uid := w 1 + 2 ^ 32 * w 2, id := w 0 % 1024, est := (w 0).testBit 15, seq := w 3 % 65536,
    dist := w 0 / 2 ^ 10 % 32 + 1, up := some p }

/-- The code of an EVT record (R425). -/
def Pkt.evtCode (k : Pkt) : Nat := if k.typ = 3 ∧ !k.rsp then (k.data.getD 0 0#32).toNat / 2 ^ 24 else 0

/-- BEACON (R427, R428): the first delivered beacon replaces the held record, or the offer of an eligible device that holds none, if it is
better. -/
def execBeacon (s : State) : Host.Outcome State Fault Refusal :=
  .next (s.whenLink fun s =>
    match s.takeWhere fun k => k.evtCode == 4 with
    | none => s
    | some (p, k, s) =>
      let r := k.rootRec p
      if 16 < r.dist ∨ 4 ≤ p then s
      else
        let adv := match s.fab.last.toList.getD p none with
          | some x => x.uid != r.uid || x.seq != r.seq
          | none => true
        let s := { s with fab.last := s.fab.last.set! p (some r) }
        let s := if adv then { s with fab.seen := s.fab.seen.set! p s.now } else s
        match s.fab.held with
        | none => (s.setHeld (some (if s.eligible && s.offer.beats r then s.offer else r))).settleAll
        | some h => if r.beats h then (s.setHeld (some r)).settleAll else s)

/-! ### The ID cache (R433, R440) -/

/-- Word `j` of the cache entry of ID `d`. -/
def State.cacheWord (s : State) (d j : Nat) : Nat := (s.memWord (0x3C0000 + 16 * d + 4 * j)).toNat

/-- The cache entry of ID `d` is VALID. -/
def State.cacheValid (s : State) (d : Nat) : Bool := (s.cacheWord d 2).testBit 31

/-- The cache entry of ID `d` is PRESENT. -/
def State.cachePresent (s : State) (d : Nat) : Bool := s.cacheValid d && (s.cacheWord d 2).testBit 30

/-- The UID of the cache entry of ID `d`. -/
def State.cacheUid (s : State) (d : Nat) : Nat := s.cacheWord d 0 + 2 ^ 32 * s.cacheWord d 1

/-- The IDs. -/
def allIds : List Nat := List.range 0x3FF

/-- The cache entry of a device; word 3 takes the time when PRESENT changes. -/
def State.cachePut (s : State) (nd : Node) (parId : Nat) (present : Bool) : State :=
  let a := 0x3C0000 + 16 * nd.id
  let stamp := if s.cachePresent nd.id == present && s.cacheUid nd.id == nd.uid then wd (s.cacheWord nd.id 3) else wd (s.ticks / 2 ^ 24)
  s.setMemWords a [wd nd.uid, wd (nd.uid / 2 ^ 32),
    wd (2 ^ 31 + present.toNat * 2 ^ 30 + nd.hops % 32 * 2 ^ 24 + parId % 1024 * 2 ^ 10 + nd.pport % 4 * 2 ^ 8 + nd.inp % 4 * 2 ^ 6), stamp]

/-- FORGET clears every absent entry (R433). -/
def State.forget (s : State) : State :=
  allIds.foldl (fun s d => if s.cacheValid d && !s.cachePresent d then s.setMemWords (0x3C0000 + 16 * d) [0, 0, 0, 0] else s) s

/-- FORGET (R433): the cache lies in CORE (R96). -/
def execForget (s : State) : Host.Outcome State Fault Refusal := .next s.forget

/-! ### IDs and the walk (R430, R431) -/

/-- No other present device and no cache entry of another UID holds ID `d` (R431). -/
def State.idFree (s : State) (uid d : Nat) : Bool :=
  decide (d < 0x3FF) && !(s.fab.nodes.any fun x => x.id == d && x.uid != uid) && !(s.cacheValid d && s.cacheUid d != uid)

/-- The ID of a newly entered device: the first free one of the list of R431; `cur` its valid ID, `pref` its PREF_ID. -/
def State.chooseId (s : State) (uid : Nat) (cur : Option Nat) (pref : Nat) (renum : Bool) : Option Nat :=
  let base := s.rd R.FAB_ID_BASE 0
  let c1 := if renum then [] else cur.toList
  let c2 := allIds.filter fun d => s.cacheValid d && s.cacheUid d == uid
  let c4 := (allIds.filter fun d => decide (base ≤ d)) ++ allIds.filter fun d => decide (d < base)
  match (c1 ++ c2 ++ [pref] ++ c4).find? fun d => s.idFree uid d with
  | some d => some d
  | none =>
    match allIds.filter fun d => s.cacheValid d && !s.cachePresent d with
    | [] => none
    | d :: l => some (l.foldl (fun b x => if s.cacheWord x 3 < s.cacheWord b 3 then x else b) d)

/-- The device takes ID `d` (R431): its own route entry becomes 4, its previous one 5. -/
def State.takeId (s : State) (d : Nat) : State :=
  let s := match s.nodeId with
    | some o => if o = d then s else s.routeWrite o 5
    | none => s
  (s.wrs 0 [(R.FAB_NODE_ID_VALID, 1), (R.FAB_NODE_ID_ID, d), (R.FAB_IRQ_ID_CHANGED, 1)]).routeWrite d 4

/-- The device holds no ID any more, `d` being the field: its route table holds drop in every entry (R407). -/
def State.dropId (s : State) (d : Nat) : State :=
  let s := s.wrs 0 [(R.FAB_NODE_ID_VALID, 0), (R.FAB_NODE_ID_ID, d), (R.FAB_IRQ_ID_CHANGED, 1)]
  (s.clearMem 0x340000 0x341000).noRoute fun _ => true

/-- The node of a UID. -/
def State.rootNode (s : State) (uid : Nat) : Option Node := s.fab.nodes.find? fun x => x.uid == uid

/-- The ports from the root to a device, along the tree. -/
def State.pathTo (s : State) : Nat → Nat → List Nat
  | 0, _ => []
  | f + 1, uid =>
    match s.rootNode uid with
    | none => []
    | some x => if x.hops = 0 then [] else s.pathTo f x.par ++ [x.pport]

/-- A request of the root's walk or writes goes out on a Lodge tag; without a free one it fails with NO_TAG. -/
def State.enumSend (s : State) (k : Pkt) : State :=
  match s.request fromLodge 1 .enum k with
  | none => { s with fab.answer := some (6, [0]) }
  | some (_, s) => s

/-- The exchange of the step in progress is sent, or sent again (R430, R431). -/
def State.enumRead (s : State) (uid port : Nat) : State :=
  s.enumSend (drPkt s.nodeId 0 2 false (s.pathTo 17 uid ++ [port]) (wd (5 * 2 ^ 24 + 0x1020)) [])

/-- NODE_ID of the device found at a port is written (R431). -/
def State.enumName (s : State) (uid port d : Nat) : State :=
  s.enumSend (drPkt s.nodeId 1 2 false (s.pathTo 17 uid ++ [port]) (wd 0x1020) [wd (2 ^ 31 + d)])

/-! ### Routes (R432, R422) -/

/-- The links of a device as (port, UID at the other end, its port). -/
def State.links (s : State) (uid : Nat) : List (Nat × Nat × Nat) :=
  s.fab.edges.filterMap fun (a, p, b, q) => if a = uid then some (p, b, q) else if b = uid then some (q, a, p) else none

/-- Breadth-first distances from the devices of `front`, which stand at distance `d`. -/
def State.dists (s : State) : Nat → List Nat → Nat → List (Nat × Nat) → List (Nat × Nat)
  | 0, _, _, acc => acc
  | f + 1, front, d, acc =>
    let nxt := (front.flatMap fun u => (s.links u).map fun e => e.2.1).eraseDups.filter fun u =>
      !(acc.any fun e => e.1 == u) && s.fab.nodes.any fun x => x.uid == u
    if nxt.isEmpty then acc else s.dists f nxt (d + 1) (acc ++ nxt.map fun u => (u, d + 1))

/-- The distance of every device to `uid`. -/
def State.distsTo (s : State) (uid : Nat) : List (Nat × Nat) := s.dists 1024 [uid] 0 [(uid, 0)]

/-- The distance of a UID in such a list. -/
def distOf (l : List (Nat × Nat)) (u : Nat) : Option Nat := (l.find? fun e => e.1 == u).map (·.2)

/-- The link from device `x` by port `p` belongs to the tree. -/
def State.treeLink (s : State) (x : Node) (p : Nat) : Bool :=
  (decide (x.hops ≠ 0) && x.inp == p) || s.fab.nodes.any fun c => c.hops != 0 && c.par == x.uid && c.pport == p

/-- The port of fewest hops from device `x` to device `t`, ties going to the tree, then to the lowest port (R432). -/
def State.bestPort (s : State) (x t : Node) : Option Nat :=
  let l := s.distsTo t.uid
  match distOf l x.uid with
  | none => none
  | some d =>
    let c := ((s.links x.uid).filter fun e => distOf l e.2.1 == some (d - 1)).map (·.1)
    match c.find? fun p => s.treeLink x p with
    | some p => some p
    | none => (List.range 4).find? fun p => c.contains p

/-- The route entry written last at a device for an ID. -/
def State.oldRoute (s : State) (uid d : Nat) : Option Nat := (s.fab.routes.find? fun e => e.1 == uid && e.2.1 == d).map (·.2.2)

/-- The entries written last lead from device `u` to device `t` over links that stand. -/
def State.routeLive (s : State) (t : Node) : Nat → Nat → Bool
  | 0, _ => false
  | f + 1, u =>
    if u = t.uid then true
    else
      match s.oldRoute u t.id with
      | none => false
      | some p =>
        match (s.links u).find? fun e => e.1 == p with
        | none => false
        | some e => s.routeLive t f e.2.1

/-- The entry of device `x` for ID `d`: 4 its own, 5 for one that is not present; a live route moves only during FABRIC_REENUM (R422, R432). -/
def State.entryFor (s : State) (x : Node) (d : Nat) : Nat :=
  if x.id = d then 4
  else
    match s.fab.nodes.find? fun t => t.id == d with
    | none => 5
    | some t =>
      match s.oldRoute x.uid d with
      | some p => if !s.fab.full && s.routeLive t 1024 x.uid then p else (s.bestPort x t).getD 5
      | none => (s.bestPort x t).getD 5

/-- The tree flags of device `x`, one bit per port (R414, R432). -/
def State.treeFlags (s : State) (x : Node) : Nat :=
  (List.range 4).foldl (fun m p => if s.treeLink x p then m + 2 ^ p else m) 0

/-- The IDs of block `b` that a burst covers: from the lowest to the highest of those present or gone. -/
def State.burstIds (s : State) (b : Nat) : List Nat :=
  let l := (List.range 64).map fun j => 64 * b + j
  let hot := l.filter fun d => (s.fab.nodes.any fun x => x.id == d) || s.fab.gone.contains d
  match hot, hot.getLast? with
  | lo :: _, some hi => l.filter fun d => decide (lo ≤ d) && decide (d ≤ hi)
  | _, _ => []

/-- The blocks of 64 IDs with something to write, that of the root's own ID first, so that the answers of a rerouted device find their way. -/
def State.idBlocks (s : State) : List Nat :=
  let l := (List.range 16).filter fun b => !(s.burstIds b).isEmpty
  let r := s.nodeId.getD 0x3FF / 64
  l.filter (· == r) ++ l.filter (· != r)

/-- The bursts of a device: the blocks, and 16 for the tree flags. -/
def State.burstBlocks (s : State) : List Nat := s.idBlocks ++ [16]

/-- Devices by their distance from the root, nearest first. -/
def byHops (l : List Node) : List Node := (List.range 17).flatMap fun h => l.filter fun x => x.hops == h

/-- A device stands next to one that the walk has just entered. -/
def State.nextToFresh (s : State) (x : Node) : Bool := (s.links x.uid).any fun e => s.fab.fresh.contains e.2.1

/-- The order of the writes (R432, R435): the new devices first, the farthest of them before those that lead to it; then those that are no
neighbours of a new one, then the neighbours, each the nearest first, so that a routed write finds the way to a rerouted device. -/
def State.planWrites (s : State) : State :=
  let old := s.fab.nodes.filter fun x => !s.fab.fresh.contains x.uid
  let l := (byHops (s.fab.nodes.filter fun x => s.fab.fresh.contains x.uid)).reverse ++ byHops (old.filter fun x => !s.nextToFresh x) ++
    byHops (old.filter fun x => s.nextToFresh x)
  { s with fab.writes := l.flatMap fun x => s.burstBlocks.map fun b => (x, b) }

/-- The entries of a burst are remembered. -/
def State.noteRoutes (s : State) (x : Node) (l : List (Nat × Nat)) : State :=
  let keep := s.fab.routes.filter fun e => !(e.1 == x.uid && l.any fun y => y.1 == e.2.1)
  { s with fab.routes := keep ++ (l.filter fun y => decide (y.2 < 4)).map fun y => (x.uid, y.1, y.2) }

/-- A write goes to a device: locally at the root, by directed route to a device just entered, which no route reaches yet (R407, log 45), else
by its ID. The result says whether an answer is awaited. -/
def State.enumWrite (s : State) (x : Node) (b : Nat) : Bool × State :=
  let me := x.hops == 0
  let pk (a : Nat) (d : List Word) : Pkt :=
    let arg := wd ((d.length - 1) * 2 ^ 24 + a)
    if s.fab.fresh.contains x.uid then drPkt s.nodeId 1 2 false (s.pathTo 17 x.uid) arg d
    else reqPkt s.nodeId 1 2 x.id false arg (4 * d.length) d
  if b = 16 then
    if me then (false, s.wr R.ROUTE_TREE 0 (s.treeFlags x)) else (true, s.enumSend (pk 0x1520 [wd (s.treeFlags x)]))
  else
    let ids := s.burstIds b
    let l := ids.map fun d => (d, s.entryFor x d)
    match ids with
    | [] => (false, s)
    | d0 :: _ =>
      if me then (false, (l.foldl (fun s e => s.routeWrite e.1 e.2) s).noteRoutes x l)
      else (true, (s.enumSend (pk (0x340000 + 4 * d0) (l.map fun e => wd e.2))).noteRoutes x l)

/-- The work in progress is complete: ENUM_DONE (R432). -/
def State.enumEnd (s : State) : State :=
  let s := { s with fab.step := .idle, fab.fresh := [], fab.gone := [], fab.full := false, fab.renum := false, fab.retried := false }
  s.wrs 0 [(R.FAB_STATUS_ENUM_BUSY, 0), (R.FAB_IRQ_ENUM_DONE, 1)]

/-- The next writes; fuel bounds the local ones. -/
def State.writeNext : Nat → State → State
  | 0, s => s
  | f + 1, s =>
    match s.fab.writes with
    | [] => s.enumEnd
    | (x, b) :: l =>
      let s := { s with fab.writes := l, fab.step := .write x b, fab.retried := false, fab.answer := none }
      match s.enumWrite x b with
      | (true, s) => s
      | (false, s) => State.writeNext f s

/-- The devices that were present in the cache and are not any more leave (R433, R435). -/
def State.dropAbsent (s : State) : State :=
  allIds.foldl (fun s d =>
    if s.cachePresent d && !(s.fab.nodes.any fun x => x.id == d) then
      let a := 0x3C0000 + 16 * d
      let s := (s.setMemWord (a + 8) (wd (s.cacheWord d 2 - 2 ^ 30))).setMemWord (a + 12) (wd (s.ticks / 2 ^ 24))
      { s.wr R.FAB_IRQ_TOPO 0 1 with fab.gone := s.fab.gone ++ [d] }
    else s) s

/-- The writes begin. -/
def State.writesBegin (s : State) : State :=
  let n := s.planWrites
  State.writeNext (n.fab.writes.length + 1) n

/-- Burst `b` of the route table of device `x` is read by directed route. -/
def State.enumTable (s : State) (x : Node) (b : Nat) : State :=
  let ids := s.burstIds b
  s.enumSend (drPkt s.nodeId 0 2 false (s.pathTo 17 x.uid) (wd ((ids.length - 1) * 2 ^ 24 + 0x340000 + 4 * ids.headD 0)) [])

/-- The next burst to read, or the writes. -/
def State.tableNext (s : State) : State :=
  match s.fab.tables with
  | [] => s.writesBegin
  | (x, b) :: l => ({ s with fab.tables := l, fab.step := .table x b, fab.retried := false, fab.answer := none }).enumTable x b

/-- The walk is over: absent devices leave, and the writes begin. A new root does not know the routes that stand, which it must not move (R422): it
reads them first (log 178). -/
def State.walkEnd (s : State) : State :=
  let s := s.dropAbsent
  let s := s.wr R.FAB_PRESENT 0 s.fab.nodes.length
  if s.fab.learn then
    let own := s.idBlocks.flatMap fun b => (s.burstIds b).map fun d => (d, s.routeEntry d)
    let s := s.fab.nodes.foldl (fun s x => if x.hops = 0 then s.noteRoutes x own else s) s
    let l := (s.fab.nodes.filter fun x => x.hops != 0).flatMap fun x => s.idBlocks.map fun b => (x, b)
    ({ s with fab.learn := false, fab.tables := l }).tableNext
  else s.writesBegin

/-- The far end of a port is known already: a redundant link (R430). -/
def State.edgeKnown (s : State) (u p : Nat) : Bool := s.fab.edges.any fun (a, x, b, y) => (a == u && x == p) || (b == u && y == p)

/-- The walk reads at the next port, or ends (R430); a device more than 16 hops away is not entered. -/
def State.walkNext : Nat → State → State
  | 0, s => s
  | f + 1, s =>
    match s.fab.todo with
    | [] => s.walkEnd
    | (u, p) :: l =>
      let s := { s with fab.todo := l, fab.retried := false, fab.answer := none }
      match s.rootNode u with
      | none => State.walkNext f s
      | some x =>
        if 16 ≤ x.hops then State.walkNext f (if s.edgeKnown u p then s else s.wr R.FAB_STATUS_HOP_LIMIT 0 1)
        else ({ s with fab.step := .read u p }).enumRead u p

/-- The walk goes on. -/
def State.walkOn (s : State) : State := State.walkNext (s.fab.todo.length + 1) s

/-- The word FAB.PORTS of this device (R438): state and peer port of each port. -/
def State.portsWord (s : State) : Nat :=
  (List.range 4).foldl (fun m p =>
    if s.domOn dLink && !(s.hl2880 && decide (2 ≤ p)) then
      m + (s.rd R.LNK_STATUS_STATE p + 8 * s.rd R.LNK_STATUS_PEER_PID p) * 2 ^ (8 * p)
    else m) 0

/-- The ACTIVE ports that a word of FAB.PORTS names. -/
def activePorts (w : Nat) : List Nat := (List.range 4).filter fun p => w / 2 ^ (8 * p) % 8 == 4

/-- A link between two devices is known from now on. -/
def State.addEdge (s : State) (a p b q : Nat) : State :=
  if s.fab.edges.contains (a, p, b, q) || s.fab.edges.contains (b, q, a, p) then s
  else { s with fab.edges := s.fab.edges ++ [(a, p, b, q)] }

/-- A device is entered (R430, R431, R433): the tree, the cache, and its ports but the one it was reached by. -/
def State.enter (s : State) (nd : Node) (ports : Nat) : State :=
  let old := s.cachePresent nd.id && s.cacheUid nd.id == nd.uid
  let par := ((s.rootNode nd.par).map (·.id)).getD 0x3FF
  let s := { s with fab.nodes := s.fab.nodes ++ [nd]
                    fab.todo := s.fab.todo ++ ((activePorts ports).filter fun q => q != nd.inp).map fun q => (nd.uid, q)
                    fab.fresh := if old then s.fab.fresh else s.fab.fresh ++ [nd.uid] }
  let s := (s.addEdge nd.par nd.pport nd.uid nd.inp).cachePut nd par true
  let s := s.wrs 0 [(R.FAB_LAST_ID, nd.id), (R.FAB_PRESENT, s.fab.nodes.length)]
  if old then s else s.wr R.FAB_IRQ_TOPO 0 1

/-- The identity block of the device at a port has been read (R430, R431). -/
def State.found (s : State) (u p : Nat) (route : Word) (d : List Word) : State :=
  let w (i : Nat) : Nat := (d.getD i 0#32).toNat
  match s.rootNode u with
  | none => s.walkOn
  | some x =>
    let inp := routeSlot route x.hops
    let uid := w 1 + 2 ^ 32 * w 2
    if (s.rootNode uid).isSome then (s.addEdge u p uid inp).walkOn
    else
      match s.chooseId uid (if (w 0).testBit 31 then some (w 0 % 1024) else none) (w 4 % 1024) s.fab.renum with
      | none => (s.wr R.FAB_STATUS_ENUM_FULL 0 1).walkOn
      | some id =>
        let nd : Node := { uid := uid, id := id, hops := x.hops + 1, par := u, pport := p, inp := inp }
        let s := { s with fab.step := .name u p nd (w 5), fab.retried := false }
        s.enumName u p id

/-- A FABRIC_REENUM job that is to suspend, is suspended or is to be cancelled holds the walk after its exchange (R340). -/
def State.enumHeld (s : State) : Bool :=
  match s.holder 9 with
  | some k => (s.job k).st != .running
  | none => false

/-- An exchange of the root has ended (R430): without a response it is tried once more, then passed over; one that was never sent, for want of a
tag, still waits. -/
def State.enumStep (s : State) : State :=
  match s.fab.answer, s.enumHeld with
  | none, _ => s
  | _, true => s
  | some (st, l), false =>
    let s := { s with fab.answer := none }
    let again := st == 6 || (st == 2 && !s.fab.retried)
    let s := if st = 2 then { s with fab.retried := true } else s
    match s.fab.step with
    | .idle => s
    | .read u p =>
      if again then s.enumRead u p else if st ≠ 0 then s.walkOn else s.found u p (l.headD 0#32) (l.drop 1)
    | .name u p nd ports =>
      if again then s.enumName u p nd.id else if st ≠ 0 then s.walkOn else (s.enter nd ports).walkOn
    | .write x b =>
      if again then (s.enumWrite x b).2 else State.writeNext (s.fab.writes.length + 1) s
    | .table x b =>
      if again then s.enumTable x b
      else
        let s := if st = 0 then s.noteRoutes x ((s.burstIds b).zip ((l.drop 1).map fun w => w.toNat % 8)) else s
        s.tableNext

/-- What has become of the root's exchanges is looked at; one that fails for want of a tag is looked at again. -/
def State.enumPump (s : State) : State := s.enumStep.enumStep.enumStep

/-! ### Work of the root (R429, R434, R435, R437) -/

/-- The root itself as a node. -/
def State.selfNode (s : State) : Node where
  uid := s.uid
  id := s.nodeId.getD 0x3FF
  hops := 0
  par := s.uid
  pport := 0
  inp := 0

/-- The tree is laid anew over the links that stand: distances from the root, parents of the lowest port. -/
def State.relay (s : State) : State :=
  let l := s.distsTo s.uid
  let up (x : Node) : Option Node :=
    match distOf l x.uid with
    | none => none
    | some 0 => some { x with hops := 0 }
    | some d =>
      let c := (s.links x.uid).filter fun e => distOf l e.2.1 == some (d - 1)
      match (c.find? fun e => x.par == e.2.1 && x.pport == e.2.2), c with
      | some e, _ => some { x with hops := d, par := e.2.1, pport := e.2.2, inp := e.1 }
      | none, e :: _ => some { x with hops := d, par := e.2.1, pport := e.2.2, inp := e.1 }
      | none, [] => none
  let s := { s with fab.nodes := s.fab.nodes.filterMap up }
  s.fab.nodes.foldl (fun s x => s.cachePut x (((s.rootNode x.par).map (·.id)).getD 0x3FF) true) s

/-- A piece of work begins (R430, R434, R435, R437). -/
def State.enumBegin (s : State) (r : EnumReq) : State :=
  let s := s.wr R.FAB_STATUS_ENUM_BUSY 0 1
  match r with
  | .full renum job =>
    let s := s.wrs 0 [(R.FAB_STATUS_HOP_LIMIT, 0), (R.FAB_STATUS_ENUM_FULL, 0)]
    let s := { s with fab.nodes := [s.selfNode], fab.edges := [], fab.routes := [], fab.full := job, fab.renum := renum, fab.fresh := [], fab.learn := !job,
                      fab.todo := (activePorts s.portsWord).map fun q => (s.uid, q) }
    (s.cachePut s.selfNode s.selfNode.id true).walkOn
  | .up u p => ({ s with fab.todo := [(u, p)] }).walkOn
  | .down u p =>
    let s := { s with fab.edges := s.fab.edges.filter fun (a, x, b, y) => !((a == u && x == p) || (b == u && y == p)) }
    s.relay.walkEnd

/-- ENUMERATION_START (R434, R437): the next piece of work begins once the enumeration resource is free. -/
def execEnumerationStart (s : State) : Host.Outcome State Fault Refusal :=
  .next (s.whenLink fun s =>
    if s.isRoot && s.fab.step == .idle && (s.holder 9).isNone then
      match s.fab.work with
      | [] => s
      | r :: l => (({ s with fab.work := l }).enumBegin r).enumPump.settleAll
    else s)

/-- ELECTION_TIMEOUT (R429): the own offer has stayed best for ELECT_T; the device becomes root, takes its ID and has the full walk before it. -/
def execElectionTimeout (s : State) : Host.Outcome State Fault Refusal :=
  .next (s.whenLink fun s =>
    match s.fab.held with
    | some r =>
      if r.up.isNone && !r.est && s.eligible then
        let s := match s.chooseId s.uid s.nodeId (s.rd R.FAB_PREF_ID 0) false with
          | some d => s.takeId d
          | none => s
        let s := (s.setHeld (some { r with est := true, id := s.nodeId.getD 0x3FF })).wr R.FAB_IRQ_ROOT_CHANGED 0 1
        ({ s with fab.nodes := [s.selfNode], fab.work := [.full false false] }).settleAll
      else s
    | none => s)

/-- A link event of this device (R434, R435): the root takes it as work, an enumerated device reports it to the root. -/
def State.linkEvent (s : State) (p : Nat) (up : Bool) : State :=
  if s.isRoot then { s with fab.work := s.fab.work ++ [if up then .up s.uid p else .down s.uid p] }
  else
    match s.nodeId, s.fab.held with
    | some me, some r =>
      if r.est then s.send fromLodge (evtPkt (some me) r.id [wd ((if up then 2 else 3) * 2 ^ 24 + p), wd s.ticksLo]) else s
    | _, _ => s

/-- A LINK_UP or LINK_DOWN record reaches the root (R434, R435). -/
def State.linkRecord (s : State) (up : Bool) : State :=
  match s.takeWhere fun k => k.evtCode == (if up then 2 else 3) with
  | none => s
  | some (_, k, s) =>
    match s.isRoot, s.fab.nodes.find? fun x => x.id == k.src with
    | true, some x =>
      let p := (k.data.getD 0 0#32).toNat % 4
      { s with fab.work := s.fab.work ++ [if up then .up x.uid p else .down x.uid p] }
    | _, _ => s

/-- LINK_UP_RECORD (R434). -/
def execLinkUpRecord (s : State) : Host.Outcome State Fault Refusal := .next (s.whenLink fun s => s.linkRecord true)

/-- LINK_DOWN_RECORD (R435). -/
def execLinkDownRecord (s : State) : Host.Outcome State Fault Refusal := .next (s.whenLink fun s => s.linkRecord false)

/-- A write of NODE_ID by a directed-route WR (R431, R438), of which an ID of 0x3FF is discarded: the ports that entered ACTIVE since they were read are reported (R434). -/
def State.nodeIdWrite (s : State) (w : Word) : State :=
  let d := if w.toNat % 1024 = 0x3FF then s.rd R.FAB_NODE_ID_ID 0 else w.toNat % 1024
  if w.getLsbD 31 then
    chans.foldl (fun s p =>
      if (s.lp p).unread && s.portActive p.val then (s.modLp p fun l => { l with unread := false }).linkEvent p.val true else s) (s.takeId d)
  else s.dropId d

/-- NODE_ID_WRITE (R431, R438). -/
def execNodeIdWrite (w : BitVec 32) (s : State) : Host.Outcome State Fault Refusal :=
  .next (s.whenLink fun s => (s.nodeIdWrite w).enumPump.settleAll)

/-- ROUTE_TABLE_WRITE (R421, R439): the table lies in CORE (R96). -/
def execRouteTableWrite (d : BitVec 10) (w : BitVec 32) (s : State) : Host.Outcome State Fault Refusal :=
  .next ((s.routeWrite d.toNat w.toNat).whenLink fun s => s.enumPump.settleAll)

/-- TAG_QUARANTINE_END (R419). -/
def execTagQuarantineEnd (t : Fin 64) (s : State) : Host.Outcome State Fault Refusal :=
  .next (s.whenLink fun s => if (s.tag t.val).st = 2 then (s.setTag t.val { s.tag t.val with st := 0 }).enumPump.settleAll else s)

/-- TRANSACTION_RESPONSE (R419, R430, R432): the first delivered response completes its tag; the root's walk goes on. -/
def execTransactionResponse (s : State) : Host.Outcome State Fault Refusal :=
  .next (s.whenLink fun s => s.response.enumPump.settleAll)

/-- TRANSACTION_TIMEOUT (R419, R430). -/
def execTransactionTimeout (t : Fin 64) (s : State) : Host.Outcome State Fault Refusal :=
  .next (s.whenLink fun s => (s.txnTimeout t.val).enumPump.settleAll)

end Sys2Proof.Machine
end

