-- ==== Sys2Proof/Machine/Link.lean ====
section
/-! DEFINITION. The SiroLink ports: training, retry, credits, HALT symbols (R388 to R403, R405, R406, R415, R416). -/

namespace Sys2Proof.Machine

/-- The effect `f` on port `p` while PD_LINK is on and the part has the port (R4, R28); the root's walk and the gates follow. -/
def State.whenPort (s : State) (p : Ch) (f : State → State) : State :=
  if s.domOn dLink && !(s.hl2880 && decide (2 ≤ p.val)) then (f s).enumPump.settleAll else s

/-- The state of a port (R394). -/
def State.lst (s : State) (p : Ch) : Nat := s.rd R.LNK_STATUS_STATE p.val

/-- The credits left per VC, as LNK.TXCRD shows them (R399, R406). -/
def State.showCredits (s : State) (p : Ch) : State :=
  let l := s.lp p
  let c (v : Nat) : Nat := (l.got.toList.getD v 0 + 1024 - l.sent.toList.getD v 0) % 1024 % 256
  s.wr R.LNK_TXCRD_AVAIL p.val (c 0 + 2 ^ 8 * c 1 + 2 ^ 16 * c 2 + 2 ^ 24 * c 3)

/-- UNACKED follows the replay buffer (R406). -/
def State.showReplay (s : State) (p : Ch) : State := s.wr R.LNK_REPLAY_UNACKED p.val (s.lp p).replay.length

/-! ### The end of a link -/

/-- The port leaves ACTIVE, or goes out of BERT or LOOP: transactions that go that way end (R421), a root record from that side expires
(R428). -/
def State.leaveActive (s : State) (p : Ch) : State :=
  let s := s.noRoute fun d => s.routeEntry d == p.val
  match s.fab.held with
  | some r => if r.up = some p.val then s.rootExpire else s
  | none => s

/-- A LINK_BERT job on the port fails with DETAIL and RES7 (R405). -/
def State.bertFail (s : State) (p : Ch) (res7 : Nat) : State :=
  match s.holder (10 + p.val) with
  | some k => (s.setJob k { s.job k with detail := res7 }).jobFail k cDetail
  | none => s

/-- A link-down (R403): LNK_DOWN_p, DOWN, the replay buffer gone, the event reported (R435), LINK_BERT failed (R405). -/
def State.linkDown (s : State) (p : Ch) : State :=
  let s := (s.modLp p fun l => { l with replay := [], again := 0, stuck := false }).showReplay p
  let s := (s.wr R.LNK_IRQ_DOWN p.val 1).condSet (srcLnkDown p.val) true
  (s.bertFail p 3).linkEvent p.val false

/-- What training starts from. -/
def LinkPort.retrained (l : LinkPort) (fresh : Bool) : LinkPort :=
  { l with tra := 0, tra2 := 0, fresh := fresh, peerFresh := false, cfgErrs := 0, errs := [], bert := false, loopAsk := false,
           asked := false, ackDue := false, nakDue := false, rsp := none, epo := none }

/-- The BERT counters as the checker has them: bits checked, low and high, and bits in error (R405). -/
def State.bertCounts (s : State) (p : Nat) (m : List Word) : State :=
  match m with
  | lo :: hi :: e :: _ => s.wrs p [(R.LNK_BERT_CHK_LO_CHK, lo.toNat), (R.LNK_BERT_CHK_HI_CHK, hi.toNat), (R.LNK_BERT_ERR_ERR, e.toNat)]
  | _ => s

/-- The checker stops with the link: how far it has counted is a free value (R405, log 177). -/
def State.bertCut (s : State) (p : Ch) : State :=
  s.used.used.used.bertCounts p.val [s.anyVal, s.used.anyVal, s.used.used.anyVal]

/-- To DETECT, or DISABLED, with the link-down of a port that was in ACTIVE to LOOP (R394). -/
def State.portOut (s : State) (p : Ch) (to' : Nat) : State :=
  let was := s.lst p
  let s := if was = 6 then s.bertCut p else s
  let s := (s.modLp p fun l => l.retrained true).wrs p.val
    [(R.LNK_STATUS_STATE, to'), (R.LNK_STATUS_SYMLOCK, 0), (R.LNK_STATUS_BERT_SYNC, 0)]
  if 4 ≤ was then (s.leaveActive p).linkDown p else s

/-- To RETRAIN (R394, R403): the flow stops, RETRAIN sets, LNK_ERR_p is raised. -/
def State.toRetrain (s : State) (p : Ch) : State :=
  let was := s.lst p
  let s := (s.modLp p fun l => l.retrained false).wrs p.val
    [(R.LNK_STATUS_STATE, 5), (R.LNK_IRQ_RETRAIN, 1), (R.LNK_STATUS_BERT_SYNC, 0)]
  let s := (s.inc R.LNK_CNT_LINK_RETRAINS p.val).raise (srcLnkErr p.val) 0
  if was = 4 then s.leaveActive p else s

/-- LINK_BERT gives the port back: BERT to RETRAIN (R394, R405). -/
def State.bertLeave (s : State) (p : Ch) : State :=
  if s.lst p = 6 then s.toRetrain p else s.modLp p fun l => { l with bert := false }

/-! ### Training -/

/-- The dwell of the next attempt of port `p` in µs (R395): 2 ms, or in auto 1.0 to 2.0 ms from the generator of the UID. -/
def State.dwell (s : State) (p : Ch) : Nat :=
  if s.rd R.LNK_CFG_RATE p.val = 2 then 1000 + Config.trainDwell s.uid p.val (s.lp p).tries % 1001 else 2000

/-- DETECT to TRAIN at the rate of R395, and the dwell begins. -/
def State.toTrain (s : State) (p : Ch) : State :=
  let auto := s.rd R.LNK_CFG_RATE p.val == 2
  let cable := if auto then (s.lp p).cable else s.rd R.LNK_CFG_RATE p.val == 1
  (s.modLp p fun l =>
    { l.retrained true with cable := if auto then !cable else l.cable, tries := if auto then l.tries + 1 else l.tries,
                            dwellEnd := s.now + 400 * s.dwell p }).wrs p.val
    [(R.LNK_STATUS_STATE, 2), (R.LNK_STATUS_RATE, cable.toNat), (R.LNK_STATUS_SYMLOCK, 0)]

/-- The link state of R396 from scratch. -/
def State.linkFresh (s : State) (p : Ch) : State :=
  (s.modLp p fun l =>
    { l with replay := [], again := 0, stuck := false, nak := false, cum := LinkPort.reset.cum, crd := LinkPort.reset.crd,
             got := LinkPort.reset.got, sent := LinkPort.reset.sent }).wrs p.val
    [(R.LNK_SEQ_NEXT_TX, 0), (R.LNK_SEQ_EXP_RX, 0), (R.LNK_REPLAY_UNACKED, 0), (R.LNK_REPLAY_STALLED, 0)]

/-- A CRD symbol of VC `v` with the count of the own buffer (R390, R399). -/
def State.sendCrd (s : State) (p : Ch) (v : Nat) : State :=
  let c := (s.lp p).cum.toList.getD v 0
  (s.modLp p fun l => { l with crd := l.crd.set! v c }).transmit p (.crd (linkWord (v * 2 ^ 10 + c)))

/-- A LINK_BERT job runs on the port (R405). -/
def State.bertRuns (s : State) (p : Ch) : Bool :=
  match s.holder (10 + p.val) with
  | some k => (s.job k).st == .running
  | none => false

/-- The port sends the BERT request: its replay buffer is empty, or 20 µs have passed (R405, log 177). -/
def State.bertAsks (s : State) (p : Ch) : Bool :=
  let l := s.lp p
  l.bert && (l.replay.isEmpty || decide (l.bertAt + 8000 ≤ s.now))

/-- What port `p` sends by itself, without a command, as its state has it (R389, R392, R394): `none` for electrical idle, and for the test pattern
and the retimed characters of BERT and LOOP, which are no symbols of R389. -/
def State.fills (s : State) (p : Ch) : Option Sym :=
  let l := s.lp p
  let pid : BitVec 8 := BitVec.ofNat 8 p.val
  match s.lst p with
  | 1 => some (.tra1 (capByte true false) pid)
  | 2 => some (.tra1 (capByte l.fresh false) pid)
  | 3 => some (.tra2 (capByte l.fresh false) pid)
  | 4 => some (if s.bertAsks p then .tra1 (capByte false true) pid else .idl)
  | 5 => some (if Config.retrainSecond p.val s.now then .tra2 (capByte false false) pid else .tra1 (capByte false false) pid)
  | _ => none

/-- The PATTERN that port `p` sends in BERT (R405). -/
def State.pattern (s : State) (p : Ch) : Option Nat :=
  if s.lst p = 6 then (s.holder (10 + p.val)).map fun k => ((s.job k).par 0).toNat % 4 else none

/-- In LOOP port `p` sends what it receives, retimed (R394). -/
def State.retimes (s : State) (p : Ch) : Bool := s.lst p == 7

/-- To ACTIVE (R394, R396): a fresh link where either side's sets carry FRESH, else replay from the oldest packet; a CRD for every VC, the
Understory bucket full (R416), the condition of LNK_DOWN_p gone (R403), a LINK_BERT that still runs stops the packets again, and the entry is
reported (R434). From CONFIG it is a link-up. -/
def State.toActive (s : State) (p : Ch) : State :=
  let up := decide (s.lst p = 3)
  let l := s.lp p
  let s := if l.fresh || l.peerFresh then s.linkFresh p else s.modLp p fun l => { l with again := l.replay.length }
  let s := (s.modLp p fun l => { l.retrained false with bucket := 1024 * 1600, bucketAt := s.now, unread := true, bert := s.bertRuns p,
                                                          bertAt := s.now }).wr
    R.LNK_STATUS_STATE p.val 4
  let s := ((((s.sendCrd p 0).sendCrd p 1).sendCrd p 2).sendCrd p 3).showCredits p
  let s := s.condSet (srcLnkDown p.val) false
  (if up then (s.wr R.LNK_IRQ_UP p.val 1).inc R.LNK_CNT_LINK_UPS p.val else s).linkEvent p.val true

/-- A training set is valid (R389): CAP bit 0, its upper bits and those of PID zero. -/
def traOk (cap pid : BitVec 8) : Bool := cap.getLsbD 0 && decide (cap.toNat < 8) && decide (pid.toNat < 4)

/-- A code error (R388, R390): counted; it breaks a run of training sets; more than two in CONFIG send an auto port from board to cable rate
(R395); four within 16 characters send an ACTIVE port to RETRAIN (R394). -/
def State.codeError (s : State) (p : Ch) (pos : Nat) : State :=
  if s.lst p < 2 then s
  else
    let s := (s.inc R.LNK_CNT_ERR_CODE p.val).modLp p fun l => { l with tra := 0, tra2 := 0 }
    if s.lst p = 3 then
      let s := s.modLp p fun l => { l with cfgErrs := l.cfgErrs + 1 }
      if 2 < (s.lp p).cfgErrs ∧ s.rd R.LNK_CFG_RATE p.val = 2 ∧ !s.cableRate p then
        (s.portOut p 1).modLp p fun l => { l with cable := true }
      else s
    else if s.lst p = 4 then
      let e := ((s.lp p).errs.filter fun q => decide (pos < q + 16) && decide (q ≤ pos)).take 3
      if 3 ≤ e.length then s.toRetrain p else s.modLp p fun l => { l with errs := pos :: e }
    else s

/-- One valid training set in TRAIN; sixteen in a row lead to CONFIG (R394). -/
def State.trainSet (s : State) (p : Ch) : State :=
  let s := (s.modLp p fun l => { l with tra := l.tra + 1 }).wr R.LNK_STATUS_SYMLOCK p.val 1
  if 16 ≤ (s.lp p).tra then
    (s.modLp p fun l => { l with tra := 0, tra2 := 0, cfgErrs := 0 }).wr R.LNK_STATUS_STATE p.val 3
  else s

/-- A TRA1 (R394, R405): with the BERT request it leads from CONFIG, and from the RETRAIN that such a request has caused, to LOOP, and it answers
the port's own request with BERT; any other in ACTIVE starts RETRAIN; without the request it ends LOOP (log 177). -/
def State.tra1 (s : State) (p : Ch) (cap pid : BitVec 8) : State :=
  let st := s.lst p
  if !traOk cap pid then s.modLp p fun l => { l with tra := 0, tra2 := 0 }
  else
    let bert := cap.getLsbD 2
    let note (s : State) : State :=
      (s.modLp p fun l => { l with peerFresh := cap.getLsbD 1, tra2 := 0 }).wr R.LNK_STATUS_PEER_PID p.val pid.toNat
    if st = 2 then (note s).trainSet p
    else if st = 3 ∨ st = 5 then
      let s := note s
      if bert && s.on R.LNK_CFG_LOOP_ALLOW p.val && (st == 3 || (s.lp p).loopAsk) then s.wr R.LNK_STATUS_STATE p.val 7 else s
    else if st = 4 then
      let asks := s.bertAsks p
      if asks && bert then (s.modLp p fun l => { l with bert := false }).wr R.LNK_STATUS_STATE p.val 6
      else (note (s.toRetrain p)).modLp p fun l => { l with loopAsk := bert, asked := asks }
    else if st = 7 then (if bert then s else note (s.toRetrain p))
    else s

/-- A TRA2 (R394, R405): it trains, it leads to ACTIVE after sixteen with as many sent, and it refuses the port's BERT request, also where a
TRA1 without the request has come before it (log 177). -/
def State.tra2 (s : State) (p : Ch) (cap pid : BitVec 8) (sent16 : Bool) : State :=
  let st := s.lst p
  if !traOk cap pid then s.modLp p fun l => { l with tra := 0, tra2 := 0 }
  else
    let note (s : State) : State :=
      (s.modLp p fun l => { l with peerFresh := l.peerFresh || cap.getLsbD 1 }).wr R.LNK_STATUS_PEER_PID p.val pid.toNat
    if st = 2 then (note s).trainSet p
    else if st = 3 ∨ st = 5 then
      let s := if (s.lp p).asked then s.bertFail p 1 else s
      let s := (note s).modLp p fun l => { l with tra2 := l.tra2 + 1, asked := false }
      if 16 ≤ (s.lp p).tra2 ∧ sent16 then s.toActive p else s
    else if st = 4 ∧ s.bertAsks p = true then (s.modLp p fun l => { l with bert := false }).bertFail p 1
    else s

/-- LNK.CTRL.EN becomes `b` (R394, R403). -/
def State.lnkEn (s : State) (p : Ch) (b : Bool) : State :=
  let s := s.flag R.LNK_CTRL_EN p.val b
  if b then (if s.lst p = 0 then s.portOut p 1 else s)
  else if s.lst p = 0 then s
  else (s.portOut p 0).condSet (srcLnkDown p.val) false

/-- LNK_EN (R394): the field is RWL. -/
def execLnkEn (p : Ch) (b : Bool) (s : State) : Host.Outcome State Fault Refusal :=
  .next (s.whenPort p fun s => if s.locked (0x11 + p.val) then s.wrDenied (0x11 + p.val) else s.lnkEn p b)

/-- LNK_RETRAIN (R394). -/
def execLnkRetrain (p : Ch) (s : State) : Host.Outcome State Fault Refusal :=
  .next (s.whenPort p fun s => if s.lst p = 4 then s.toRetrain p else s)

/-- The counters at 0x34 to 0x48 clear (R406). -/
def State.lnkCntClr (s : State) (p : Ch) : State :=
  s.wrs p.val [(R.LNK_CNT_ERR_PKT, 0), (R.LNK_CNT_ERR_CODE, 0), (R.LNK_CNT_RETRY_NAK_TX, 0), (R.LNK_CNT_RETRY_REPLAY, 0),
    (R.LNK_CNT_LINK_UPS, 0), (R.LNK_CNT_LINK_RETRAINS, 0), (R.LNK_BERT_CHK_LO_CHK, 0), (R.LNK_BERT_CHK_HI_CHK, 0), (R.LNK_BERT_ERR_ERR, 0)]

/-- LNK_CNT_CLR (R406). -/
def execLnkCntClr (p : Ch) (s : State) : Host.Outcome State Fault Refusal := .next (s.whenPort p fun s => s.lnkCntClr p)

/-- SIGNAL_DETECT (R393). -/
def execSignalDetect (p : Ch) (s : State) : Host.Outcome State Fault Refusal :=
  .next (s.whenPort p fun s => s.wr R.LNK_STATUS_SIGDET p.val 1)

/-- DETECT_COMPLETE (R394): signal without a break for 1 ms. -/
def execDetectComplete (p : Ch) (s : State) : Host.Outcome State Fault Refusal :=
  .next (s.whenPort p fun s => if s.lst p = 1 ∧ s.on R.LNK_STATUS_SIGDET p.val then s.toTrain p else s)

/-- TRAIN_DWELL_TIMEOUT (R395): not before the dwell of this attempt has passed. -/
def execTrainDwellTimeout (p : Ch) (s : State) : Host.Outcome State Fault Refusal :=
  .next (s.whenPort p fun s => if s.lst p = 2 ∧ (s.lp p).dwellEnd ≤ s.now then s.portOut p 1 else s)

/-- CONFIG_TIMEOUT (R394): CONFIG or RETRAIN has not reached ACTIVE within 1 ms. -/
def execConfigTimeout (p : Ch) (s : State) : Host.Outcome State Fault Refusal :=
  .next (s.whenPort p fun s => if s.lst p = 3 ∨ s.lst p = 5 then s.portOut p 1 else s)

/-- SIGNAL_LOSS (R394): no signal for 1 µs. -/
def execSignalLoss (p : Ch) (s : State) : Host.Outcome State Fault Refusal :=
  .next (s.whenPort p fun s =>
    let s := s.wr R.LNK_STATUS_SIGDET p.val 0
    if 2 ≤ s.lst p then s.portOut p 1 else s)

/-- TRA1_RECEIVED (R394). -/
def execTra1Received (p : Ch) (cap pid : BitVec 8) (s : State) : Host.Outcome State Fault Refusal :=
  .next (s.whenPort p fun s => s.tra1 p cap pid)

/-- TRA2_RECEIVED (R394): `sent16`, the port has sent sixteen TRA2. -/
def execTra2Received (p : Ch) (cap pid : BitVec 8) (sent16 : Bool) (s : State) : Host.Outcome State Fault Refusal :=
  .next (s.whenPort p fun s => s.tra2 p cap pid sent16)

/-- CODE_ERROR (R388, R389): character number `pos` is `v`, a at the top; `rd`, the receiver's running disparity is positive; `place`, R389 lets a K
character stand there. A character that is in the code is no code error. -/
def execCodeError (p : Ch) (pos : Nat) (v : BitVec 10) (rd place : Bool) (s : State) : Host.Outcome State Fault Refusal :=
  .next (s.whenPort p fun s => if lineBad v rd place then s.codeError p pos else s)

/-! ### Retry and credits -/

/-- The effect of a symbol word whose CHK is good; a bad one is a code error at its last character, number `pos` (R390). -/
def State.symbol (s : State) (p : Ch) (w : BitVec 16) (pos : Nat) (f : State → State) : State :=
  if s.lst p ≠ 4 then s else if linkWordOk w then f s else s.codeError p pos

/-- Every packet of the replay buffer up to SEQ `n` is freed (R398). -/
def State.ackTo (s : State) (p : Ch) (n : Nat) : State :=
  let l := s.lp p
  if l.replay.any fun e => e.1 == n then
    let r := (l.replay.dropWhile fun e => e.1 != n).drop 1
    ((s.setLp p { l with replay := r, again := min l.again r.length, stuck := false }).wr R.LNK_REPLAY_STALLED p.val 0).showReplay p
  else s

/-- Every unacknowledged packet is to be sent again (R398): a replay counts, and the fourth in a row without progress leads to RETRAIN
(R394). -/
def State.replayStart (s : State) (p : Ch) : State :=
  let l := s.lp p
  if l.replay.isEmpty then s
  else
    let s := if l.stuck then s.inc R.LNK_REPLAY_STALLED p.val else s
    let s := (s.modLp p fun l => { l with again := l.replay.length, stuck := true }).inc R.LNK_CNT_RETRY_REPLAY p.val
    if 4 ≤ s.rd R.LNK_REPLAY_STALLED p.val then s.toRetrain p else s

/-- ACK_RECEIVED (R390, R398). -/
def execAckReceived (p : Ch) (w : BitVec 16) (pos : Nat) (s : State) : Host.Outcome State Fault Refusal :=
  .next (s.whenPort p fun s => s.symbol p w pos fun s => s.ackTo p (w.toNat / 16))

/-- NAK_RECEIVED (R390, R398). -/
def execNakReceived (p : Ch) (w : BitVec 16) (pos : Nat) (s : State) : Host.Outcome State Fault Refusal :=
  .next (s.whenPort p fun s => s.symbol p w pos fun s => ((s.wr R.LNK_IRQ_NAK_RX p.val 1).ackTo p (w.toNat / 16)).replayStart p)

/-- CRD_RECEIVED (R390, R399). -/
def execCrdReceived (p : Ch) (w : BitVec 16) (pos : Nat) (s : State) : Host.Outcome State Fault Refusal :=
  .next (s.whenPort p fun s => s.symbol p w pos fun s =>
    (s.modLp p fun l => { l with got := l.got.set! (w.toNat / 2 ^ 14) (w.toNat / 16 % 1024) }).showCredits p)

/-- ACK_TRANSMIT (R397): an ACK of E − 1. -/
def execAckTransmit (p : Ch) (s : State) : Host.Outcome State Fault Refusal :=
  .next (s.whenPort p fun s =>
    if s.lst p = 4 ∧ (s.lp p).ackDue then
      (s.modLp p fun l => { l with ackDue := false }).transmit p (.ack (linkWord (s.rd R.LNK_SEQ_EXP_RX p.val + 4095)))
    else s)

/-- NAK_TRANSMIT (R397): a NAK of E − 1. -/
def execNakTransmit (p : Ch) (s : State) : Host.Outcome State Fault Refusal :=
  .next (s.whenPort p fun s =>
    if s.lst p = 4 ∧ (s.lp p).nakDue then
      ((s.modLp p fun l => { l with nakDue := false }).transmit p (.nak (linkWord (s.rd R.LNK_SEQ_EXP_RX p.val + 4095)))).inc
        R.LNK_CNT_RETRY_NAK_TX p.val
    else s)

/-- CREDIT_UPDATE (R399). -/
def execCreditUpdate (p : Ch) (v : Fin 4) (s : State) : Host.Outcome State Fault Refusal :=
  .next (s.whenPort p fun s => if s.lst p = 4 then s.sendCrd p v.val else s)

/-- REPLAY_TIMEOUT (R398). -/
def execReplayTimeout (p : Ch) (s : State) : Host.Outcome State Fault Refusal :=
  .next (s.whenPort p fun s => if s.lst p = 4 then s.replayStart p else s)

/-! ### The start of a packet (R416) -/

/-- A packet may start: its VC has the credits, and on VC3 the bucket holds its length (R399, R416). -/
def State.mayStart (s : State) (p : Ch) (k : Pkt) : Bool :=
  let l := s.lp p
  let d := (l.sent.toList.getD k.vc 0 + k.credits + 1024 - l.got.toList.getD k.vc 0) % 1024
  (d == 0 || decide (512 ≤ d)) &&
    (k.vc != 3 || (decide (k.bytes * 1600 ≤ s.tokens p) && decide (s.rd R.FAB_UCAP 0 / 2 ^ (8 * p.val) % 128 ≠ 0)))

/-- The first packet of each source on VC `v`, the source after the one served last first (R416). -/
def LinkPort.heads (l : LinkPort) (v : Nat) : List Egr :=
  let t := l.turn.toList.getD v 0
  (List.range 16).filterMap fun j => l.egress.find? fun e => e.pkt.vc == v && e.ing == (t + 1 + j) % 16

/-- The packet to start: VC0 first, round robin within a VC (R416). -/
def State.nextPacket (s : State) (p : Ch) : Option Egr :=
  ([0, 1, 2, 3].flatMap fun v => (s.lp p).heads v).find? fun e => s.mayStart p e.pkt

/-- The replay buffer has room: 32 packets, 4 KiB (R398). -/
def LinkPort.room (l : LinkPort) (k : Pkt) : Bool :=
  decide (l.replay.length < 32) && decide ((l.replay.map fun e => e.2.bytes).foldl (· + ·) 0 + k.bytes ≤ 4096)

/-- FWD of the port that forwards counts, wrapping (R441). -/
def State.countFwd (s : State) (p : Ch) : State :=
  match p with
  | 0 => s.incWrap R.ROUTE_FWD01_FWDL 0 | 1 => s.incWrap R.ROUTE_FWD01_FWDH 0
  | 2 => s.incWrap R.ROUTE_FWD23_FWDL 0 | 3 => s.incWrap R.ROUTE_FWD23_FWDH 0

/-- A packet starts for the first time: it takes the next SEQ, its credits, its place in the replay buffer, and its receive buffer is
free (R398, R399, R416). -/
def State.startPacket (s : State) (p : Ch) (e : Egr) : State :=
  let q := s.rd R.LNK_SEQ_NEXT_TX p.val
  let k := e.pkt
  let b := s.tokens p
  let s := s.modLp p fun l =>
    { l with egress := l.egress.erase e, turn := l.turn.set! k.vc e.ing, replay := l.replay ++ [(q, k)],
             sent := l.sent.set! k.vc ((l.sent.toList.getD k.vc 0 + k.credits) % 1024),
             bucket := if k.vc = 3 then b - k.bytes * 1600 else l.bucket, bucketAt := if k.vc = 3 then s.now else l.bucketAt }
  let s := (((s.transmit p (.pkt (linkWord q) k.words)).wr R.LNK_SEQ_NEXT_TX p.val (q + 1)).showReplay p).showCredits p
  let s := if e.ing < 4 then s.countFwd p else s
  if e.buf then s.freed e.ing k else s

/-- PACKET_TRANSMIT_START (R391, R398, R416): the packets to replay come first; none starts while LINK_BERT holds the flow. -/
def execPacketTransmitStart (p : Ch) (s : State) : Host.Outcome State Fault Refusal :=
  .next (s.whenPort p fun s =>
    let l := s.lp p
    if s.lst p ≠ 4 then s
    else
      match (l.replay.drop (l.replay.length - l.again)).head?, s.nextPacket p with
      | some (q, k), _ =>
        (s.modLp p fun l => { l with again := l.again - 1 }).transmit p (.pkt (linkWord q) k.words)
      | none, some e => if !l.bert && l.room e.pkt then s.startPacket p e else s
      | none, none => s)

/-! ### The end of a packet (R397, R398, R415) -/

/-- A copy of a packet can start on port `p` while the packet still comes in: nothing is to be replayed and none waits before it (R398, R415,
R416). -/
def State.cutsIn (s : State) (p : Ch) (k : Pkt) : Bool :=
  let l := s.lp p
  decide (s.lst p = 4) && decide (l.again = 0) && !l.bert && (s.nextPacket p).isNone && l.room k && s.mayStart p k

/-- A copy that has started on port `p` before its packet turned out bad ends with EAB: the next packet takes its SEQ, its credits are refunded, and
it leaves the replay buffer (R398, R415); its turn and its Understory tokens are gone (R416, log 48). -/
def State.cutOut (s : State) (p : Ch) (ing : Nat) (k : Pkt) : State :=
  if s.cutsIn p k then
    let b := s.tokens p
    (s.modLp p fun l =>
      { l with turn := l.turn.set! k.vc ing, bucket := if k.vc = 3 then b - k.bytes * 1600 else l.bucket,
               bucketAt := if k.vc = 3 then s.now else l.bucketAt }).transmit p (.abort (linkWord (s.rd R.LNK_SEQ_NEXT_TX p.val)) k.body)
  else s

/-- The copies of a bad packet of words `ws` that came in on port `p` with the expected SEQ: one on each port it is forwarded on (R415). -/
def State.cutThrough (s : State) (p : Ch) (ws : List Word) : State :=
  match pktOfBody ws with
  | none => s
  | some k =>
    match s.way p.val k with
    | .ports l _ k => l.foldl (fun s e => if h : e < 4 then s.cutOut ⟨e, h⟩ p.val k else s) s
    | .drop _ _ => s

/-- PACKET_RECEIVED (R397): `clean`, no code error from SOP to the end; `abort`, it ended with EAB; `pos`, the number of the last character of
LSEQ. An accepted packet is routed (R412); one with the expected SEQ that is bad ends its copies on other ports with EAB (R415, log 48). -/
def State.packetIn (s : State) (p : Ch) (clean abort : Bool) (lseq : BitVec 16) (ws : List Word) (pos : Nat) : State :=
  if s.lst p ≠ 4 then s
  else if abort then
    (if linkWordOk lseq ∧ lseq.toNat / 16 = s.rd R.LNK_SEQ_EXP_RX p.val then s.cutThrough p ws else s)
  else
    let s := if linkWordOk lseq then s else s.codeError p pos
    if s.lst p ≠ 4 then s
    else
      let e := s.rd R.LNK_SEQ_EXP_RX p.val
      let q := lseq.toNat / 16
      match (if clean && linkWordOk lseq && q == e then pktOfWords ws else none) with
      | some k =>
        let s := (s.wr R.LNK_SEQ_EXP_RX p.val (e + 1)).modLp p fun l => { l with nak := false, nakDue := false, ackDue := true }
        s.route p.val k
      | none =>
        let s := if linkWordOk lseq && q == e then s.cutThrough p ws else s
        let s := s.inc R.LNK_CNT_ERR_PKT p.val
        if linkWordOk lseq && decide ((e + 4095 - q) % 4096 < 32) then s.modLp p fun l => { l with ackDue := true }
        else if (s.lp p).nak then s
        else s.modLp p fun l => { l with nak := true, nakDue := true }

/-- PACKET_RECEIVED (R397). -/
def execPacketReceived (p : Ch) (clean abort : Bool) (lseq : BitVec 16) (ws : List (BitVec 32)) (pos : Nat) (s : State) :
    Host.Outcome State Fault Refusal :=
  .next (s.whenPort p fun s => s.packetIn p clean abort lseq ws pos)

/-! ### HALT symbols (R400) -/

/-- HLT_TRANSMIT (R400): while the halt net is asserted, a port in CONFIG, ACTIVE, RETRAIN, BERT or LOOP sends an HLT pair. -/
def execHltTransmit (p : Ch) (s : State) : Host.Outcome State Fault Refusal :=
  .next (s.whenPort p fun s =>
    if s.on R.FBK_STATUS_HALTED 0 ∧ 3 ≤ s.lst p then s.transmit p .hlt else s)

/-- HALT_SYMBOL_RECEIVED (R400): a receiver with symbol lock presents the halt to the halt net. -/
def execHaltSymbolReceived (p : Ch) (s : State) : Host.Outcome State Fault Refusal :=
  .next (s.whenPort p fun s =>
    if s.on R.LNK_STATUS_SYMLOCK p.val then
      (s.wrs p.val [(R.LNK_STATUS_HALT_RX, 1), (R.LNK_IRQ_HALT_RX, 1)]).haltAssert (2 + p.val)
    else s)

/-- HALT_RX_EXPIRY (R400): 2 µs without a detection. -/
def execHaltRxExpiry (p : Ch) (s : State) : Host.Outcome State Fault Refusal :=
  .next (s.whenPort p fun s => s.wr R.LNK_STATUS_HALT_RX p.val 0)

/-! ### LINK_BERT (R405) -/

/-- BERT_CHECKER_SYNCHRONISED (R405). -/
def execBertCheckerSynchronised (p : Ch) (s : State) : Host.Outcome State Fault Refusal :=
  .next (s.whenPort p fun s => if s.lst p = 6 then s.wr R.LNK_STATUS_BERT_SYNC p.val 1 else s)

/-- BERT_SYNC_LOSS (R405): synchronisation lost for 100 µs; the job fails with RES7 = 2 and the port retrains; `m`: the checker's counters. -/
def execBertSyncLoss (p : Ch) (m : List (BitVec 32)) (s : State) : Host.Outcome State Fault Refusal :=
  .next (s.whenPort p fun s => if s.lst p = 6 then ((s.bertCounts p.val m).toRetrain p).bertFail p 2 else s)

end Sys2Proof.Machine
end

