-- ==== Sys2Proof/Machine/Time.lean ====
section
/-! DEFINITION. Canopy time over the links: the two-way exchange, the servo, SET, TSYNC, SYNC_OUT (R443 to R451, R465). -/

namespace Sys2Proof.Machine

/-- Canopy time in fine units of 78.125 ps, 69 bits (R443, R446). -/
def State.fine69 (s : State) : Nat := s.canopy / 2 ^ 32 % 2 ^ 69

/-- The 64 bits of a TSY: 60 bits, and their CHK (R446). -/
def tsyBits (v : Nat) : BitVec 64 := BitVec.ofNat 64 (v % 2 ^ 60 * 16 + crc4 (v % 2 ^ 60) 60)

/-- The first byte of a TSY: kind, LOCK and SEQ, at the top of the 60 bits (R446). -/
def tsyHead (kind : Nat) (lock : Bool) (seq : Nat) : Nat := (kind * 64 + lock.toNat * 32 + seq % 32) * 2 ^ 52

/-- TSY REQ (R446). -/
def tsyReq (lock : Bool) (seq : Nat) : BitVec 64 := tsyBits (tsyHead 0 lock seq)

/-- TSY RSP with t2 [31:0] and R (R446). -/
def tsyRsp (lock : Bool) (seq t2 r : Nat) : BitVec 64 := tsyBits (tsyHead 1 lock seq + t2 % 2 ^ 32 * 2 ^ 20 + r % 2 ^ 20)

/-- TSY EPOCH with t2 [68:32] (R446). -/
def tsyEpoch (lock : Bool) (seq t2 : Nat) : BitVec 64 :=
  tsyBits (tsyHead 2 lock seq + t2 / 2 ^ 37 % 2 ^ 32 * 2 ^ 20 + t2 / 2 ^ 32 % 2 ^ 5 * 2 ^ 12)

/-- The CHK of a TSY is good (R446). -/
def tsyOk (b : BitVec 64) : Bool := b.toNat % 16 == crc4 (b.toNat / 16) 60

/-- The kind of a TSY: 0 REQ, 1 RSP, 2 EPOCH (R446). -/
def tsyKind (b : BitVec 64) : Nat := b.toNat / 2 ^ 62

/-- The SEQ of a TSY. -/
def tsySeq (b : BitVec 64) : Nat := b.toNat / 2 ^ 56 % 32

/-- LOCK of this device. -/
def State.timeLocked (s : State) : Bool := s.on R.TIME_STATUS_LOCK 0

/-- The port exchanges time: ACTIVE, and the counter runs (R445, R446). -/
def State.tsyPort (s : State) (p : Ch) : Bool := decide (s.lst p = 4) && s.timeRuns

/-- The port of a number below 4. -/
def portOf (k : Nat) : Ch := if h : k < 4 then ⟨k, h⟩ else 0

/-- The exchange in progress lapses (R446, R448): holdover, and with the third in a row LOCK falls. -/
def State.tsyLapse (s : State) : State :=
  if s.tsy.t1.isSome then
    let s := { s with tsy.t1 := none, tsy.rsp := none, tsy.lapsed := s.tsy.lapsed + 1 }
    let s := (s.inc R.TIME_LAPSED 0).wr R.TIME_STATUS_HOLDOVER 0 1
    if 3 ≤ s.tsy.lapsed then s.lockFall else s
  else s

/-- TSY_EXCHANGE_START (R446): REQ on UPPORT, t1 captured. -/
def execTsyExchangeStart (s : State) : Host.Outcome State Fault Refusal :=
  .next (s.whenLink fun s =>
    let p := portOf (s.rd R.TIME_STATUS_UPPORT 0)
    if s.rd R.TIME_STATUS_SRC 0 = 2 ∧ s.tsyPort p then
      let q := (s.tsy.seq + 1) % 32
      ({ s with tsy.seq := q, tsy.t1 := some s.fine69, tsy.rsp := none }).transmit p (.tsy (tsyReq s.timeLocked q))
    else s)

/-- A TSY on port `p`, its last character number `pos`: with a bad CHK or kind 3 it is a code error (R446), which ends the exchange on UPPORT. -/
def State.tsyIn (s : State) (p : Ch) (b : BitVec 64) (pos kind : Nat) (f : State → State) : State :=
  if s.lst p ≠ 4 then s
  else if !tsyOk b || tsyKind b == 3 then
    let s := s.codeError p pos
    if s.rd R.TIME_STATUS_SRC 0 = 2 ∧ s.rd R.TIME_STATUS_UPPORT 0 = p.val then s.tsyLapse else s
  else if tsyKind b = kind ∧ s.timeRuns then f s
  else s

/-- TSY_REQ_RECEIVED (R446): t2 captured, an RSP is due. -/
def execTsyReqReceived (p : Ch) (b : BitVec 64) (pos : Nat) (s : State) : Host.Outcome State Fault Refusal :=
  .next (s.whenPort p fun s => s.tsyIn p b pos 0 fun s => s.modLp p fun l => { l with rsp := some (tsySeq b, s.fine69) })

/-- TSY_RSP_TRANSMIT (R446): R is inserted at launch; beyond 20 bits no RSP is sent. -/
def execTsyRspTransmit (p : Ch) (s : State) : Host.Outcome State Fault Refusal :=
  .next (s.whenPort p fun s =>
    match (s.lp p).rsp, s.tsyPort p with
    | some (q, t2), true =>
      let r := (s.fine69 + 2 ^ 69 - t2) % 2 ^ 69
      if 2 ^ 20 ≤ r then s.modLp p fun l => { l with rsp := none }
      else (s.modLp p fun l => { l with rsp := none, epo := some (q, t2) }).transmit p (.tsy (tsyRsp s.timeLocked q t2 r))
    | _, _ => s)

/-- TSY_EPOCH_TRANSMIT (R446). -/
def execTsyEpochTransmit (p : Ch) (s : State) : Host.Outcome State Fault Refusal :=
  .next (s.whenPort p fun s =>
    match (s.lp p).epo, s.tsyPort p with
    | some (q, t2), true => (s.modLp p fun l => { l with epo := none }).transmit p (.tsy (tsyEpoch s.timeLocked q t2))
    | _, _ => s)

/-- The port is the UPPORT of a disciplined device whose exchange of this SEQ is open. -/
def State.tsyMine (s : State) (p : Ch) (b : BitVec 64) : Bool :=
  s.rd R.TIME_STATUS_SRC 0 == 2 && s.rd R.TIME_STATUS_UPPORT 0 == p.val && s.tsy.t1.isSome && s.tsy.seq == tsySeq b

/-- TSY_RSP_RECEIVED (R446): t4 captured. -/
def execTsyRspReceived (p : Ch) (b : BitVec 64) (pos : Nat) (s : State) : Host.Outcome State Fault Refusal :=
  .next (s.whenPort p fun s => s.tsyIn p b pos 1 fun s =>
    if s.tsyMine p b then
      { s with tsy.rsp := some (b.toNat / 2 ^ 24 % 2 ^ 32, b.toNat / 16 % 2 ^ 20, s.fine69) }
    else s)

/-- A number of 69 bits as the nearest difference. -/
def diff69 (a b : Nat) : Int :=
  let d : Nat := (a + 2 ^ 69 - b % 2 ^ 69) % 2 ^ 69
  if d < 2 ^ 68 then (d : Int) else (d : Int) - 2 ^ 69

/-- `v` held within ±`m`. -/
def clampInt (v m : Int) : Int := if v < -m then -m else if m < v then m else v

/-- A signed number as a 32-bit register shows it. -/
def wordOfInt (v : Int) : Nat := (v % 2 ^ 32).toNat

/-- The signed correction of port `p` (TIME.ASYM, R447). -/
def State.asym (s : State) (p : Nat) : Int :=
  let b : Nat := s.rd R.TIME_ASYM 0 / 2 ^ (8 * p) % 256
  if b < 128 then (b : Int) else (b : Int) - 256

/-- RATE stays within ±27,487,790 (R443, R447). -/
def rMax : Int := 27487790

/-- The counter steps by `d` fine units (R447, R450). -/
def State.stepCanopy (s : State) (d : Int) : State :=
  ({ s with canopy := (((s.canopy : Int) + d * 2 ^ 32) % 2 ^ 101).toNat }).wr R.TIME_IRQ_STEP 0 1

/-- A servo term: `o` · 2³² / (n << sh), the division truncating as in the manual's pseudo-code (R447, log 46). -/
def servoTerm (o : Int) (n sh : Nat) : Int := (o * 4294967296).tdiv ((n * 2 ^ sh : Nat) : Int)

/-- The first exchange after UPPORT was selected, or an offset beyond STEP_LIM (R447). -/
def State.mustStep (s : State) (o : Int) : Bool := s.tsy.first || decide (s.rd R.TIME_STEP_LIM 0 * 1280 < o.natAbs)

/-- The limit of R448 on port `p`, in tenths of a fine unit. -/
def State.lockLim (s : State) (p : Ch) : Nat := 128 * s.rd R.TIME_LOCK_LIM 0 * (if s.cableRate p then 4 else 1)

/-- The counter steps at once (R447), and LOCK falls (R448). -/
def State.servoStep (s : State) (o : Int) : State :=
  let s := (s.stepCanopy (-o)).wr R.TIME_RATE 0 (wordOfInt s.tsy.freq)
  ({ s with tsy.good := 0, tsy.bad := 0, tsy.first := false }).lockFall

/-- FREQ and RATE follow the offset (R447); LOCK rises and falls with the runs of R448. -/
def State.servoTrack (s : State) (p : Ch) (o : Int) : State :=
  let n := s.rd R.TIME_INTERVAL 0 * 40000
  let f := clampInt (s.tsy.freq - servoTerm o n (s.rd R.TIME_KI_SH 0)) rMax
  let r := clampInt (f - servoTerm o n (s.rd R.TIME_KP_SH 0)) rMax
  let lim := s.lockLim p
  let good := if 10 * o.natAbs ≤ lim then s.tsy.good + 1 else 0
  let bad := if 4 * lim < 10 * o.natAbs then s.tsy.bad + 1 else 0
  let s := ({ s with tsy.freq := f, tsy.good := good, tsy.bad := bad }).wr R.TIME_RATE 0 (wordOfInt r)
  if 2 ≤ bad then s.lockFall else if 8 ≤ good then s.lockRise else s

/-- The servo after a completed exchange with offset `o` and delay `d` (R447, R448). -/
def State.servo (s : State) (p : Ch) (o d : Int) : State :=
  let s := (s.wrs 0 [(R.TIME_OFFSET, wordOfInt o), (R.TIME_DELAY, wordOfInt d), (R.TIME_STATUS_HOLDOVER, 0)]).incWrap R.TIME_EXCH 0
  let s := { s with tsy.t1 := none, tsy.rsp := none, tsy.lapsed := 0 }
  if s.mustStep o then s.servoStep o else s.servoTrack p o

/-- TSY_EPOCH_RECEIVED (R446, R447): the exchange is complete. -/
def execTsyEpochReceived (p : Ch) (b : BitVec 64) (pos : Nat) (s : State) : Host.Outcome State Fault Refusal :=
  .next (s.whenPort p fun s => s.tsyIn p b pos 2 fun s =>
    match s.tsy.t1, s.tsy.rsp, s.tsyMine p b with
    | some t1, some (lo, r, t4), true =>
      let t2 := lo + 2 ^ 32 * (b.toNat / 2 ^ 16 % 2 ^ 5) + 2 ^ 37 * (b.toNat / 2 ^ 24 % 2 ^ 32)
      let a := diff69 t2 t1
      let c := diff69 t4 (t2 + r)
      s.servo p ((c - a).tdiv 2 + s.asym p.val) ((a + c).tdiv 2)
    | _, _, _ => s)

/-- TSY_EXCHANGE_LAPSE (R446): 100 µs after the REQ. -/
def execTsyExchangeLapse (s : State) : Host.Outcome State Fault Refusal := .next s.tsyLapse.settleAll

/-- The root's counter steps to `v` ticks with fine 0; elsewhere SET is denied (R450). -/
def State.timeSet (s : State) (v : Nat) : State :=
  if s.rd R.TIME_STATUS_SRC 0 = 1 then ({ s with canopy := v % 2 ^ 64 * 2 ^ 37 }).wr R.TIME_IRQ_STEP 0 1
  else s.wr R.TIME_IRQ_SET_DENIED 0 1

/-- CTRL.SET with the registers SET_HI and SET_LO. -/
def State.timeSetRegs (s : State) : State := s.timeSet (s.rd R.TIME_SET_HI 0 * 2 ^ 32 + s.rd R.TIME_SET_LO 0)

/-- TIME_SET (R450). -/
def execTimeSet (s : State) : Host.Outcome State Fault Refusal := .next s.timeSetRegs

/-- TIME_CNT_CLR (R465). -/
def State.timeCntClr (s : State) : State := s.wrs 0 [(R.TIME_EXCH, 0), (R.TIME_LAPSED, 0)]

/-- TIME_CNT_CLR (R465). -/
def execTimeCntClr (s : State) : Host.Outcome State Fault Refusal := .next s.timeCntClr

/-- A confirmed read of NOW_LO latches NOW_HI and NOW_FINE (R90, R465). -/
def State.nowLatch (s : State) : State :=
  s.wrs 0 [(R.TIME_NOW_HI, s.ticks / 2 ^ 32), (R.TIME_NOW_FINE, s.canopy / 2 ^ 32)]

/-- TIME_NOW_LO_READ (R90). -/
def execTimeNowLoRead (s : State) : Host.Outcome State Fault Refusal := .next s.nowLatch

/-- SYNC_OUT_PULSE (R451): Canopy time has reached a multiple of PPS.PERIOD in this cycle, or one tick before it where RATE has stretched the cycle;
the pins with FUNC SYNC_OUT go high. -/
def execSyncOutPulse (s : State) : Host.Outcome State Fault Refusal :=
  .next (if s.rd R.TIME_PPS 0 ≠ 0 ∧ s.timeRuns ∧ s.ticks % s.rd R.TIME_PPS 0 < 2 then { s with tsy.pulse := some s.now } else s)

/-- The level of a SYNC_OUT pin: high for 20 ticks from the instant (R451). -/
def State.syncOut (s : State) : Bool :=
  match s.tsy.pulse with
  | some t => decide (s.rd R.TIME_PPS 0 ≠ 0) && decide (s.now < t + 20)
  | none => false

/-! ### Answers to fabric requests -/

/-- A target answers a request; BUSY and REFUSED count (R420, R423, R442). -/
def State.reply (s : State) (k : Pkt) (status : Nat) (data : List Word) : State :=
  let s := if status = 4 then s.inc R.TXN_CNT_IN_BUSY 0 else if status = 3 then s.inc R.TXN_CNT_IN_REFUSED 0 else s
  s.send fromLodge (k.response s.nodeId status data (4 * data.length))

/-- A delivered request that is invalid, or refused, is answered if it is non-posted and not a broadcast, and dropped else (R411, R424). -/
def State.turnAway (s : State) (ing : Nat) (k : Pkt) (status : Nat) : State :=
  if !k.asks then (if status = 5 then s.dropNote ing 3 k else s) else s.reply k status []

/-- TSYNC_QUERY (R450): answered with the time and TIME.STATUS. -/
def execTsyncQuery (s : State) : Host.Outcome State Fault Refusal :=
  .next (s.whenLink fun s =>
    match s.takeWhere fun k => k.typ == 5 && !k.rsp && !k.arg.getLsbD 0 with
    | none => s
    | some (ing, k, s) =>
      if k.vc ≠ 2 ∨ k.dr ∨ k.len ≠ 0 ∨ k.pst ∨ k.bcast ∨ k.arg.toNat ≠ 0 then (s.turnAway ing k 5).settleAll
      else s.reply k 0 [wd (s.ticks / 2 ^ 32), wd s.ticks, wd (s.canopy / 2 ^ 32 % 32), s.word (R.TIME_STATUS_SRC.addr 0)])

/-- TSYNC_SET (R450): acts as SET_HI, SET_LO and CTRL.SET; a non-root device answers BAD_REQ to a non-posted one and ignores a broadcast. -/
def execTsyncSet (s : State) : Host.Outcome State Fault Refusal :=
  .next (s.whenLink fun s =>
    match s.takeWhere fun k => k.typ == 5 && !k.rsp && k.arg.getLsbD 0 with
    | none => s
    | some (ing, k, s) =>
      let bc := k.bcast
      if k.vc ≠ 2 ∨ k.dr ∨ k.len ≠ 8 ∨ k.arg.toNat ≠ 1 then s.turnAway ing k 5
      else if s.isRoot then
        let s := (s.wrs 0 [(R.TIME_SET_HI, (k.data.getD 0 0#32).toNat), (R.TIME_SET_LO, (k.data.getD 1 0#32).toNat)]).timeSetRegs
        if k.pst || bc then s else s.reply k 0 []
      else if k.pst || bc then s
      else s.reply k 5 [])

/-- HALT packets (R424): OP 0 acts as a write of FBK.CTRL.HALT, OP 1 as a write of FBK.CTRL.RELEASE. -/
def State.haltPacket (s : State) (op : Nat) (f : State → State) : State :=
  match s.takeWhere fun k => k.typ == 8 && !k.rsp && (k.data.getD 0 0#32).toNat % 2 == op with
  | none => s
  | some (ing, k, s) => if !k.haltValid then s.turnAway ing k 5 else f s

/-- HALT_PACKET_ASSERT (R424). -/
def execHaltPacketAssert (s : State) : Host.Outcome State Fault Refusal := .next (s.whenLink fun s => s.haltPacket 0 State.swHalt)

/-- HALT_PACKET_RELEASE (R424). -/
def execHaltPacketRelease (s : State) : Host.Outcome State Fault Refusal := .next (s.whenLink fun s => s.haltPacket 1 State.release)

/-- FAULT_RECORD (R425): a FAULT record goes to the host receive buffer of its destination with EVT set, or is dropped with HRX_FULL. -/
def execFaultRecord (s : State) : Host.Outcome State Fault Refusal :=
  .next (s.whenLink fun s =>
    match s.takeWhere fun k => k.evtCode == 1 with
    | none => s
    | some (_, k, s) =>
      if s.fab.hrx.length < 4 then
        ({ s with fab.hrx := s.fab.hrx ++ [Hrx.mk k.src true k.len k.data] }).wr R.TXN_IRQ_HRX 0 1
      else s.wr R.TXN_IRQ_HRX_FULL 0 1)

end Sys2Proof.Machine
end

