-- ==== Sys2Proof/Machine/Clock.lean ====
section
/-! DEFINITION. What one PCLK cycle does when no command waits (R443; log 11). -/

namespace Sys2Proof.Machine

/-- TIME.RATE as the signed count of 2^-32 fine units (R443). -/
def State.rate (s : State) : Int := (s.rdw R.TIME_RATE 0).toInt

/-- One PCLK cycle passes: the model's clock counts, and Canopy time advances by 32 + RATE × 2^-32 fine units while the PWM PLL is locked
and the PCLK monitor does not fail (R443, R445). -/
def State.pass (s : State) : State :=
  { s with
    now := s.now + 1,
    canopy := if s.timeRuns then (((s.canopy : Int) + 32 * 2 ^ 32 + s.rate) % 2 ^ 101).toNat else s.canopy }

/-- What one PCLK cycle does: gates whose dead time or test pulse has ended follow (R21, R187). -/
def State.tick (s : State) : State := s.pass.forCh fun n s => s.whenCh n fun s => s.takeGates n

end Sys2Proof.Machine
end

