-- ==== Sys2Proof/Machine/Plaus.lean ====
section
/-! DEFINITION. The plausibility checks' persistence counters (R278, R280). -/

namespace Sys2Proof.Machine

/-- The fault source of check `k` (R280). -/
def pcSource (k : Nat) : Nat := oObsRes + k

/-- The register that holds the counter of check `k`, and the byte within it (R281, R282). -/
def pcField (k : Nat) : Fld × Nat := if k < 4 then (R.OBS_PCNT_A_C, k) else (R.OBS_PCNT_B_C, k - 4)

/-- The byte of OBS.PCA or OBS.PCB for check `k`: LIMIT and DEC. -/
def State.pcLimits (s : State) (n : Ch) (k : Nat) : Nat × Nat :=
  let b := if k < 4 then s.run R.OBS_PCA n.val / 256 ^ k % 256 else s.run R.OBS_PCB n.val / 256 ^ (k - 4) % 256
  (b / 8, b % 8)

/-- Counter c of check `k`. -/
def State.pc (s : State) (n : Ch) (k : Nat) : Nat := s.rd (pcField k).1 n.val / 256 ^ (pcField k).2 % 256

/-- Counter c of check `k` becomes `v`, and the level of its source follows (R278, R533). -/
def State.pcPut (s : State) (n : Ch) (k v : Nat) : State :=
  let f := pcField k
  let s := s.wr f.1 n.val (s.rd f.1 n.val - s.pc n k * 256 ^ f.2 + v * 256 ^ f.2)
  s.condSet (srcCh n.val (pcSource k)) (decide (v = (s.pcLimits n k).1) && decide (0 < v))

/-- One evaluation of check `k`, outside its window or inside (R278); a disabled check holds 0. -/
def State.pcEval (s : State) (n : Ch) (k : Nat) (bad : Bool) : State :=
  if !(s.run R.OBS_CFG_CHK_EN n.val).testBit k then s
  else
    let l := s.pcLimits n k
    s.pcPut n k (if bad then min (s.pc n k + 1) l.1 else s.pc n k - l.2)

/-- The counters whose check is not enabled are cleared, or all of them (R278). -/
def State.pcClear (s : State) (n : Ch) (all : Bool) : State :=
  (List.range 6).foldl (fun s k =>
    if all || !(s.run R.OBS_CFG_CHK_EN n.val).testBit k then s.pcPut n k 0 else s) s

/-- OBS_PC_CLR (R278). -/
def execObsPcClr (n : Ch) (s : State) : Host.Outcome State Fault Refusal := .next (s.whenCh n fun s => (s.pcClear n true).settleAll)

/-- The fresh reference of the bus-voltage check (R280): the VSUP reading, or VBUS_F of a channel whose domain is on. -/
def State.vbusRef (s : State) (n : Ch) : Option Word :=
  match s.run R.OBS_REF n.val with
  | 0 => some (s.rdw R.SUP_VSUP_V 0)
  | 4 => if s.chOn 0 then some (s.node 0 0x0F) else none
  | 5 => if s.chOn 1 then some (s.node 1 0x0F) else none
  | 6 => if s.chOn 2 then some (s.node 2 0x0F) else none
  | 7 => if s.chOn 3 then some (s.node 3 0x0F) else none
  | _ => none

/-- The bus-voltage check at the end of a voltage sequence that holds VBUSn (R280). -/
def State.vbusCheck (s : State) (n : Ch) : State :=
  match s.vbusRef n with
  | none => s
  | some r =>
    let d := f32Sub (s.node n 0x0F) r
    let lim := f32Add (s.runw R.OBS_VBX_MAX n.val) (f32Mul (f32OfRat (s.run R.OBS_VBX_REL n.val) 200) r)
    (s.modCh n fun c => { c with obs.vbx := d }).pcEval n 5 (f32Lt lim (f32Abs d))

end Sys2Proof.Machine
end

