-- ==== Sys2Proof/Machine/Pwm.lean ====
section
/-! DEFINITION. The PWM generator: where the edges of a period stand and what its boundary does (R146 to R166). -/

namespace Sys2Proof.Machine

/-- The dead time in force of a DTIME field, in fine units (R152, R153). -/
def State.deadTime (s : State) (f : Fld) (n : Ch) : Nat := s.deadCounts f n * 32

/-- The period of the running copy in fine units (R146, R149). -/
def State.periodFine (s : State) (n : Ch) : Nat := s.run R.PWM_PERIOD n.val * 32

/-- The on-time after MINPULSE, and whether a pulse was suppressed (R154). -/
def minPulse (p rise fall mn on : Nat) : Nat × Bool :=
  if on = 0 then (0, false)
  else if on < mn + rise then (0, true)
  else if p ≤ on then (p, false)
  else if p - on < mn + fall then (p, true)
  else (on, false)

/-- The ideal edges of a high side for on-time `on` (R150): its on and its off position. -/
def idealEdges (p : Nat) (edge trailing : Bool) (on : Nat) : Nat × Nat :=
  if on = 0 then (0, 0)
  else if !edge then (p / 2 - on / 2, p / 2 - on / 2 + on)
  else if trailing then (p - on, p)
  else (0, on)

/-- The intervals of a leg whose high side is ideally on in [a, b) of a period of nominal length `p` that ends at `e`, the dead
times following each edge (R150, R152), `start` being what the period before left of one. `lowToo` is false for a chopped leg under
CHOP = 1 (R155). -/
def mkLeg (p e rise fall start : Nat) (prevHigh lowToo : Bool) (ab : Nat × Nat) : Leg :=
  let some' (l : List (Nat × Nat)) : List (Nat × Nat) := l.filter fun i => decide (i.1 < i.2)
  let (a, b) := ab
  if a = b then ⟨[], if lowToo then some' [(start, e)] else [], start - e⟩
  else
    let b := if p ≤ b then e else min b e
    ⟨some' [(if a = 0 ∧ prevHigh then 0 else a + rise, b)], if lowToo then some' [(start, min a e), (b + fall, e)] else [],
      b + fall - e⟩

/-- What is left of an interval list outside [a, b). -/
def cutOut (l : List (Nat × Nat)) (a b : Nat) : List (Nat × Nat) :=
  (l.flatMap fun i => [(i.1, min i.2 a), (max i.1 b, i.2)]).filter fun i => decide (i.1 < i.2)

/-- A quarter of the refresh pulse on each side of the boundary: 100 ns (R162). -/
def refHalf : Nat := 1280

/-- A leg with the refresh pulse that begins (`now`) or ends (`next`) its period (R162). -/
def Leg.refresh (g : Leg) (e rise fall : Nat) (now next : Bool) : Leg :=
  let g := if now then ⟨cutOut g.hi 0 (refHalf + rise), (0, refHalf) :: cutOut g.lo 0 refHalf, g.rest⟩ else g
  if next then ⟨cutOut g.hi (e - refHalf - fall) e, cutOut g.lo (e - refHalf) e ++ [(e - refHalf, e)], 0⟩ else g

/-- How long the low side had been on at the end `e` of a period that began with `tail` of it. -/
def tailOf (l : List (Nat × Nat)) (e tail : Nat) : Nat :=
  l.foldl (fun m i => if i.2 = e then (if i.1 = 0 then e + tail else e - i.1) else m) 0

/-- The phase with the largest, the middle and the smallest on-time. The manual gives no order for equal on-times: a free value
decides it (log 3). -/
def sortPhases (w : Word) (on : Vector Nat 3) : Nat × Nat × Nat :=
  let key (x : Fin 3) : Nat := on[x.val] * 8 + (w.toNat >>> (3 * x.val)) % 8
  let k0 := key 0
  let k1 := key 1
  let k2 := key 2
  if k1 ≤ k0 then
    if k2 ≤ k1 then (0, 1, 2) else if k2 ≤ k0 then (0, 2, 1) else (2, 0, 1)
  else
    if k2 ≤ k0 then (1, 0, 2) else if k2 ≤ k1 then (1, 2, 0) else (2, 1, 0)

/-- One single-shunt window: the shift its pulse needs, or `none` where the window is missed (R160, R161). `room` says the shifted
pulse stays in the period, `start` is the window's start. -/
def ssWindow (w need shiftMax hold limit : Nat) (room : Nat → Bool) (clear : Bool) : Option Nat :=
  let sh := need - w
  if sh ≤ shiftMax ∧ room sh ∧ hold ≤ limit ∧ clear then some sh else none

/-- The plan of a period with three on-times: the legs, and the single-shunt windows where the sample needs them. -/
structure Plan where
  legs : Vector Leg 3
  win1 : Option (Nat × Nat)
  win2 : Option (Nat × Nat)
  missed : Nat
deriving DecidableEq, Repr

/-- The two single-shunt windows of R160 over the ideal edges `ab` of a period that ends at `e`: the edges shifted, the windows and how many were
missed; `now` has the legs whose refresh pulse begins the period, `next` says that one ends it. A window starts where its high side turns on, after a
refresh pulse of its own leg where one holds it back, and is missed where it then does not last; one whose high side does not turn on is missed
(log 139). -/
def State.ssShift (s : State) (n : Ch) (e rise : Nat) (now : BitVec 3) (next : Bool) (on : Vector Nat 3) (ab : Vector (Nat × Nat) 3) :
    Vector (Nat × Nat) 3 × Option (Nat × Nat) × Option (Nat × Nat) × Nat :=
  let p := s.periodFine n
  let twin := s.run R.PWM_SS_TWIN n.val * 64
  let need := twin + 320
  let mx := s.run R.PWM_SS_SHIFT_MAX n.val * 32
  let limit := p - 694 * 32
  let (p1, p2, p3) := sortPhases s.anyVal on
  let w1 := (on.toList.getD p1 0 - on.toList.getD p2 0) / 2
  let w2 := (on.toList.getD p2 0 - on.toList.getD p3 0) / 2
  let e1 := ab.toList.getD p1 (0, 0)
  let e2 := ab.toList.getD p2 (0, 0)
  let e3 := ab.toList.getD p3 (0, 0)
  let s1 := need - w1
  let late (x a : Nat) : Nat := if now.getLsbD x then max a refHalf else a
  let h1 := late p1 (e1.1 - s1) + rise + twin
  let h2 := late p2 e2.1 + rise + twin
  let clear (h : Nat) : Bool := (now == 0 || decide (refHalf ≤ h - twin)) && (!next || decide (h ≤ e - refHalf))
  let lasts (x a b : Nat) : Bool := decide (late x a = a) || decide (late x a + need ≤ b)
  let r1 := ssWindow w1 need mx h1 limit (fun sh => decide (sh ≤ e1.1)) (clear h1 && lasts p1 (e1.1 - s1) (late p2 e2.1))
  let high (x : Nat) : Bool := decide (rise < on.toList.getD x 0)
  let r1 := if high p1 then r1 else none
  let r2 := if high p2 then ssWindow w2 need mx h2 limit (fun sh => decide (e3.2 + sh ≤ e))
    (clear h2 && lasts p2 e2.1 (late p3 (e3.1 + (need - w2)))) else none
  let put (v : Vector (Nat × Nat) 3) (x : Nat) (e : Nat × Nat) : Vector (Nat × Nat) 3 :=
    if x = 0 then v.set 0 e else if x = 1 then v.set 1 e else v.set 2 e
  let ab := match r1 with | some sh => put ab p1 (e1.1 - sh, e1.2 - sh) | none => ab
  let ab := match r2 with
    | some sh => if e3.1 = e3.2 then ab else put ab p3 (e3.1 + sh, e3.2 + sh)
    | none => ab
  (ab, r1.map fun _ => (p1, h1), r2.map fun _ => (p3, h2), (if r1.isNone then 1 else 0) + (if r2.isNone then 1 else 0))

/-- The plan of a modulated period that ends at `e`, for the on-times `on` after MINPULSE. -/
def State.planMod (s : State) (n : Ch) (e : Nat) (on : Vector Nat 3) : Plan :=
  let i := n.val
  let c := s.ch n
  let p := s.periodFine n
  let rise := s.deadTime R.PWM_DTIME_RISE n
  let fall := s.deadTime R.PWM_DTIME_FALL n
  let edge := s.run R.PWM_CFG_ALIGN i == 1
  let trail := s.run R.PWM_CFG_EDGE_POS i == 1
  let fin (x : Nat) (g : Leg) : Leg := g.refresh e rise fall (c.car.refNow.getLsbD x) (c.car.refNext.getLsbD x)
  let sec := sectorLegs c.car.sector
  let on := if c.car.duty.six then Vector.ofFn fun x : Fin 3 => if sec.map (·.1) = some x.val then on[0] else 0 else on
  let ab := on.map (idealEdges p edge trail)
  let (ab, w1, w2, m) :=
    if s.run R.CH_MODE_SENSE i = 2 && c.car.opening then
      s.ssShift n e rise c.car.refNow (c.car.refNext != 0) on ab
    else (ab, none, none, 0)
  let leg (x : Fin 3) (lowToo : Bool) : Leg :=
    mkLeg p e rise fall c.car.rest[x.val] (c.car.endHigh.getLsbD x.val) lowToo ab[x.val]
  let six (x : Fin 3) : Leg :=
    match sec with
    | none => .idle
    | some (h, l) => if x.val = h then leg x (s.run R.PWM_CFG_CHOP i == 0) else if x.val = l then leg x true else .idle
  ⟨Vector.ofFn fun x : Fin 3 => fin x.val (if c.car.duty.six then six x else leg x true), w1, w2, m⟩

/-- The on-times of the period after MINPULSE, each with whether a pulse was suppressed (R154, R155): in six-step only the chopped
leg is tested, under CHOP = 1 by the first rule alone. -/
def State.applied (s : State) (n : Ch) : Vector (Nat × Bool) 3 :=
  let p := s.periodFine n
  let rise := s.deadTime R.PWM_DTIME_RISE n
  let fall := s.deadTime R.PWM_DTIME_FALL n
  let mn := s.run R.PWM_MINPULSE n.val * 32
  let d := (s.ch n).car.duty
  if d.six then
    let on := d.on[0]
    let r := if s.run R.PWM_CFG_CHOP n.val = 1 then (if 0 < on ∧ on < mn + rise then (0, true) else (min on p, false))
      else minPulse p rise fall mn on
    Vector.ofFn fun x : Fin 3 => if x = 0 then r else (0, false)
  else d.on.map (minPulse p rise fall mn)

/-- The legs, the windows and the on-times shown take the plan. -/
def State.putPlan (s : State) (n : Ch) (on : Vector Nat 3) (pl : Plan) : State :=
  let i := n.val
  let ch := (sectorLegs (s.ch n).car.sector).map (·.1)
  let shown (x : Nat) : Nat :=
    if (s.ch n).car.duty.six then (if ch = some x then on[0] else 0) else on.toList.getD x 0
  (s.wrs i [(R.PWM_DUTY_A_ON, shown 0), (R.PWM_DUTY_B_ON, shown 1), (R.PWM_DUTY_C_ON, shown 2)]).modCh n fun c =>
    { c with car.legs := pl.legs, car.win1 := pl.win1, car.win2 := pl.win2 }

/-- `sup` pulses suppressed and `miss` windows missed in the present period: what the counters do not hold yet is added (R154, R161). -/
def State.countPlan (s : State) (n : Ch) (sup miss : Nat) : State :=
  let i := n.val
  let was := (s.ch n).car.counted
  let s := if sup ≤ was.1 then s else (s.incBy R.PWM_EVENTS_MINPULSE i (sup - was.1)).wr R.PWM_IRQ_MINPULSE i 1
  let s := if miss ≤ was.2 then s else (s.incBy R.PWM_SS_MISS_COUNT i (miss - was.2)).wr R.PWM_IRQ_SS_MISS i 1
  s.modCh n fun c => { c with car.counted := (max sup was.1, max miss was.2) }

/-- No refresh pulse stands in the present period (R162): the generator does not modulate. -/
def State.noRefresh (s : State) (n : Ch) : State :=
  (s.wr R.PWM_STATUS_REFRESH n.val 0).modCh n fun c => { c with car.refNow := 0, car.refNext := 0 }

/-- The period that begins now: its legs by the generator's mode, MINPULSE applied and counted, the on-times shown in DUTY_x. A pre-charge pulse longer
than a period goes on over the boundary (R176). -/
def State.planPeriod (s : State) (n : Ch) (e : Nat) : State :=
  let i := n.val
  let s := if s.pwmMode n = .mod then s else s.noRefresh n
  let c := s.ch n
  let none3 : Vector Leg 3 := Vector.replicate 3 .idle
  match s.pwmMode n with
  | .off | .pair => (s.wrs i [(R.PWM_DUTY_A_ON, 0), (R.PWM_DUTY_B_ON, 0), (R.PWM_DUTY_C_ON, 0)]).modCh n fun c =>
      { c with car.legs := none3, car.win1 := none, car.win2 := none }
  | .lows =>
    (s.wrs i [(R.PWM_DUTY_A_ON, 0), (R.PWM_DUTY_B_ON, 0), (R.PWM_DUTY_C_ON, 0)]).modCh n fun c =>
      { c with
        car.legs := Vector.ofFn fun x : Fin 3 => ⟨[], [(c.car.rest[x.val], e)], 0⟩
        car.win1 := none
        car.win2 := none }
  | .pulse =>
    let w := max c.car.preLeft (if 0 < c.car.prePulses then s.run R.GD_PRECHG_PULSE i * 1280 else 0)
    s.modCh n fun c =>
      { c with
        car.legs := if 0 < w then Vector.replicate 3 ⟨[], [(0, min w e)], 0⟩ else none3
        car.preLeft := w
        car.win1 := none
        car.win2 := none }
  | .mod =>
    let rs := s.applied n
    let s := if s.run R.CH_MODE_SENSE i = 2 && c.car.opening then s.used else s
    let pl := s.planMod n e (rs.map (·.1))
    (s.countPlan n (rs.toList.filter (·.2)).length pl.missed).putPlan n (rs.map (·.1)) pl

/-- The phase error of R165: the signed distance in counts from the boundary at tick `t` to the nearest target. -/
def phaseErr (t period phase : Nat) : Int :=
  let d := (((t : Int) - phase) % period).toNat
  if 2 * d ≤ period then -(d : Int) else (period : Int) - d

/-- The carrier correction of a boundary under SYNC = 1 (R165): SYNC_ERR, SYNC_LOCK, PWM_SYNC_LOSS, and by how many counts the period
changes. -/
def State.carrierSync (s : State) (n : Ch) : State × Int :=
  let i := n.val
  if s.run R.PWM_CFG_SYNC i = 0 then
    let s := (s.wrs i [(R.PWM_SYNC_ERR_E, 0), (R.PWM_STATUS_SYNC_LOCK, 0)]).modCh n fun c => { c with car.syncBad := 0 }
    (s.condSet (srcCh i oSyncLoss) false, 0)
  else
    let p := s.run R.PWM_PERIOD i
    let e := phaseErr s.ticks p (s.run R.PWM_PHASE i)
    let lock := decide (e.natAbs ≤ 1)
    let s := if lock && !s.on R.PWM_STATUS_SYNC_LOCK i then s.wr R.PWM_IRQ_SYNC_LOCKED i 1 else s
    let s := (s.wr R.PWM_SYNC_ERR_E i (e % 2 ^ 18).toNat).flag R.PWM_STATUS_SYNC_LOCK i lock
    let bad := if p / 8 < e.natAbs then (s.ch n).car.syncBad + 1 else 0
    let s := s.modCh n fun c => { c with car.syncBad := min bad 16 }
    let src := srcCh i oSyncLoss
    let s := if 16 ≤ bad then s.condSet src true else if bad = 0 then s.condSet src false else s
    let k : Int := min e.natAbs (s.run R.PWM_SLEW i)
    (s, if e < 0 then -k else k)

/-- The duty that a boundary applies (R17, R18): the shadow's if it was written in time, else the previous one. LOOP_LATE is raised
where the duty of the sample that the ending period opened is due and has not come, or came too late. -/
def State.dutyLoad (s : State) (n : Ch) : State :=
  let c := (s.ch n).car
  let s := match c.shadow, c.shadowLate with
    | some d, false => s.modCh n fun c => { c with car.duty := d, car.shadow := none }
    | _, _ => s.modCh n fun c => { c with car.shadowLate := false }
  if c.opening && (!c.came || c.shadowLate) then s.raiseCh n oLoopLate 0 else s

/-- How long the low side of leg `x` has conducted without interruption in the present period, at most, in PCLK cycles (R162). -/
def State.lowTime (s : State) (n : Ch) (x : Fin 3) : Nat :=
  let c := s.ch n
  let p := c.prot
  if p.gates.getLsbD (x.val + 3) then max p.lowMax[x.val] (s.now - max p.swAt[x.val + 3] c.car.since) else p.lowMax[x.val]

/-- What the ending period leaves of the refresh pulses (R162): the count of each leg, and the pulses that stand at this boundary, which are counted
as they are inserted. A conduction of 200 ns is one uninterrupted interval within the period (log 140). -/
def State.refreshCount (s : State) (n : Ch) : State :=
  let i := n.val
  let c := (s.ch n).car
  let cnt : Vector Nat 3 := Vector.ofFn fun x : Fin 3 =>
    if c.refNext.getLsbD x.val || decide (80 ≤ s.lowTime n x) then 0 else c.refCnt[x.val] + 1
  let now : BitVec 3 := if s.pwmMode n = .mod then c.refNext else 0
  let s := s.modCh n fun c => { c with car.refCnt := cnt, car.refNow := now, car.refNext := 0 }
  if now = 0 then s
  else (s.incBy R.PWM_EVENTS_REFRESH i now.cpop.toNat).wr R.PWM_IRQ_REFRESH i 1

/-- The legs whose pulse is centred on the boundary that ends the period now beginning (R162, R174, R175): with this period, in which the low side is
not to conduct for 200 ns, the count reaches REFRESH_N. A bridge-wide reaction, SAFE_REQn, or a reaction that holds the low side off withholds the
pulse. -/
def State.refreshDue (s : State) (n : Ch) (e : Nat) : State :=
  let i := n.val
  let c := (s.ch n).car
  let legs := (s.planMod n e ((s.applied n).map (·.1))).legs
  let free := s.pwmMode n == .mod && !s.holdoff n && (s.reactPattern n == .silent) && (s.safeAsk n == .silent)
  let due : BitVec 3 := [0, 1, 2].foldl (fun m (x : Fin 3) =>
    if free && !(s.namedOff n).getLsbD (x.val + 3) && s.bit R.GD_STATUS_BST_WARN i x.val &&
        decide (s.run R.GD_BST_REFRESH_N i ≤ c.refCnt[x.val] + 1) && !(legs[x.val].lo.any fun l => decide (l.1 + 2 * refHalf ≤ l.2)) then
      m ||| BitVec.ofNat 3 (2 ^ x.val) else m) 0
  (s.modCh n fun c => { c with car.refNext := due }).wr R.PWM_STATUS_REFRESH i (due ||| c.refNow).toNat

/-- At a boundary a cycle-by-cycle window request ends where its comparator has released (R201), and a LIMIT reaction where its
condition is absent (R358). -/
def State.boundaryRelease (s : State) (n : Ch) : State :=
  let trip := BitVec.ofNat 6 (s.rd R.CMP_STATUS_TRIPPED n.val >>> 3)
  let mode := s.run R.CMP_WIN_CFG_MODE n.val
  let lim := (s.actsOn n).any fun e => e.2.inReact == rLimit && e.2.cond
  s.modCh n fun c =>
    { c with prot.winOff := if mode = 0 then c.prot.winOff &&& trip else if mode = 2 then 0 else c.prot.winOff, prot.limitOff := c.prot.limitOff && lim }

/-- A new sector of six-step commutation comes into force (R156). -/
def State.takeSector (s : State) (n : Ch) : State :=
  match (s.ch n).car.pendSector with
  | some k => (s.wr R.PWM_STATUS_SECTOR n.val k).modCh n fun c => { c with car.pendSector := none, car.sector := k }
  | none => s

/-- A carrier that has started waits for its first boundary (R164). -/
def State.carrierWaits (s : State) (n : Ch) : Bool := (s.ch n).car.first.isSome

/-- The carrier of channel `n` runs its own periods: not stopped, and not in limp mode (R148, R207). -/
def State.carrierOn (s : State) (n : Ch) : Bool := s.chOn n && s.on R.PWM_STATUS_RUNNING n.val && s.chState n != .limp

/-- A brake pulse of the period that MINPULSE suppresses counts (R154, R183). -/
def State.brkMinPulse (s : State) (n : Ch) : State :=
  let i := n.val
  let on := (s.ch n).car.duty.brk
  if 2 ≤ s.run R.BRK_CFG_MODE i ∧ 0 < on ∧ on < s.run R.PWM_MINPULSE i * 32 then
    (s.incBy R.PWM_EVENTS_MINPULSE i 1).wr R.PWM_IRQ_MINPULSE i 1
  else s

/-- A period of length `e` fine units begins: its position, and what counts within a period. -/
def Chan.newPeriod (c : Chan) (now e div : Nat) : Chan :=
  let opening := c.car.divCnt == 0
  { c with
    prot.lowMax := Vector.replicate 3 0
    car.pos := 0
    car.per := e
    car.since := now
    car.counted := (0, 0)
    car.prePulses := if c.car.first.isSome then c.car.prePulses else c.car.prePulses - 1
    car.preLeft := c.car.preLeft - c.car.per
    car.came := c.car.came && !opening
    car.opened := if opening then c.car.opened + 1 else c.car.opened
    car.opening := opening
    car.divCnt := if div ≤ c.car.divCnt then 0 else c.car.divCnt + 1 }

/-- The length in fine units of the period that begins at this boundary, corrected by `k` counts (R146, R165). -/
def State.nextPeriod (s : State) (n : Ch) (k : Int) : Nat := ((s.run R.PWM_PERIOD n.val : Int) + k).toNat * 32

/-- The first boundary of a carrier that started under SYNC = 1 (R164, R165): nothing has run before it. -/
def State.firstBoundary (s : State) (n : Ch) : State :=
  let s := (s.incWrap R.PWM_PERIOD_CNT_COUNT n.val).grvEvent n 1
  let (s, k) := s.carrierSync n
  let e := s.nextPeriod n k
  let div := s.run R.PWM_CFG_LOOPDIV n.val
  let now := s.now
  let s := s.modCh n fun c => { c.newPeriod now e div with car.first := none }
  (s.planPeriod n e).settleAll

/-- The on-times of a period in which an IDENT drives the bridge are free: R341 leaves its regulator open (log 171). A cancelled IDENT turns the
bridge off at this boundary (R340). -/
def State.identDuty (s : State) (n : Ch) : State :=
  let s := { s with
    jobs := s.jobs.map fun j =>
      if j.typ = jIdent ∧ j.tgt = n.val ∧ j.st = .cancelling then { j with ended := true } else j }
  if s.identDrives n && s.chState n == .idle then
    let p := s.periodFine n
    let v (k : Nat) : Nat := (Config.freeValue (s.free + k)).toNat % (p + 1)
    ({ s with free := s.free + 3 }).modCh n fun c => { c with car.duty := ⟨#v[v 0, v 1, v 2], false, c.car.duty.brk⟩ }
  else s

/-- What a period boundary does with the period that ends and the one that begins (R147). -/
def State.boundary (s : State) (n : Ch) : State :=
  let i := n.val
  let c := (s.ch n).car
  let s := (s.incWrap R.PWM_PERIOD_CNT_COUNT i).grvEvent n 1
  let s := s.boundaryRelease n
  let s := ((s.dutyLoad n).identDuty n).brkMinPulse n
  let tails : Vector Nat 3 := Vector.ofFn fun x : Fin 3 => tailOf c.legs[x.val].lo c.per c.lowTail[x.val]
  let high : BitVec 3 := [0, 1, 2].foldl (fun m (x : Fin 3) =>
    if c.legs[x.val].hi.any (fun h => decide (h.2 = c.per)) then m ||| BitVec.ofNat 3 (2 ^ x.val) else m) 0
  let s := s.refreshCount n
  let s := if s.run R.PWM_CFG_COMM_SYNC i = 1 then s.takeSector n else s
  let (s, k) := s.carrierSync n
  let e := s.nextPeriod n k
  let div := s.run R.PWM_CFG_LOOPDIV i
  let now := s.now
  let rests : Vector Nat 3 := c.legs.map (·.rest)
  let s := s.modCh n fun c => { c.newPeriod now e div with car.lowTail := tails, car.endHigh := high, car.rest := rests }
  ((s.refreshDue n e).planPeriod n e).settleAll

/-- Canopy tick `t` has come (R164). -/
def State.tickPast (s : State) (t : Nat) : Bool := decide ((s.ticks + 2 ^ 64 - t) % 2 ^ 64 < 2 ^ 63)

/-- The first target tick of a carrier that starts under SYNC = 1 (R164): after the start instant, for a stand member at it or after
(R453). -/
def State.firstTick (s : State) (n : Ch) : Nat :=
  let p := max (s.run R.PWM_PERIOD n.val) 1
  let t := if s.run R.CH_MODE_GANG n.val = 2 then s.ticks else s.ticks + 1
  (t + (p + s.run R.PWM_PHASE n.val - t % p) % p) % 2 ^ 64

/-- PERIOD_BOUNDARY (R147, R164). -/
def execPeriodBoundary (n : Ch) (s : State) : Host.Outcome State Fault Refusal :=
  .next (if s.carrierOn n then
      (match (s.ch n).car.first with
       | some t => if s.tickPast t then s.firstBoundary n else s
       | none => s.boundary n)
    else s)

/-- PWM_EDGE (R150, R20, R21): the generator reaches position `p` of the period and the gates follow the arbiter and the interlock. -/
def execPwmEdge (n : Ch) (p : Nat) (s : State) : Host.Outcome State Fault Refusal :=
  .next (if s.carrierOn n && !s.carrierWaits n then
      ((s.modCh n fun c => { c with car.pos := min p c.car.per }).brkShow n).settle n
    else s)

/-- SECTOR_CHANGE (R156): under COMM_SYNC = 0 the loop engine's new sector takes effect at once. -/
def execSectorChange (n : Ch) (s : State) : Host.Outcome State Fault Refusal :=
  .next (if s.carrierOn n && s.run R.PWM_CFG_COMM_SYNC n.val == 0 && (s.ch n).car.pendSector.isSome then
      let s := s.takeSector n
      let on := (s.applied n).map (·.1)
      (s.putPlan n on (s.planMod n (s.ch n).car.per on)).settle n
    else s)

/-- PWM_CNT_CLR (R167). -/
def execPwmCntClr (n : Ch) (s : State) : Host.Outcome State Fault Refusal :=
  .next (s.whenCh n fun s =>
    s.wrs n.val [(R.PWM_EVENTS_REFRESH, 0), (R.PWM_EVENTS_MINPULSE, 0), (R.PWM_SS_MISS_COUNT, 0)])

/-- The PERIOD_OUT marker of channel `n`: high for 20 PCLK cycles from each boundary while the carrier runs (R166). -/
def State.periodOut (s : State) (n : Ch) : Bool :=
  s.chOn n && s.on R.PWM_STATUS_RUNNING n.val && !s.carrierWaits n && decide (s.now < (s.ch n).car.since + 20)

/-- The low side of leg `x` was commanded on from `h` − TSETTLE to `h`; where the period holds a refresh pulse, within its low-side
interval (R159, R163). -/
def State.settled (s : State) (n : Ch) (x : Fin 3) (h : Nat) : Bool :=
  let c := (s.ch n).car
  let t := s.run R.PWM_MEAS_TSETTLE n.val * 64
  let lo := if s.pwmMode n = .off then [] else c.legs[x.val].lo
  if s.pwmMode n == .mod && (c.refNow.getLsbD x.val || c.refNext.getLsbD x.val) then
    (c.refNow.getLsbD x.val && decide (h ≤ refHalf) && decide (t ≤ h + refHalf)) ||
      (c.refNext.getLsbD x.val && decide (c.per + t ≤ h + refHalf))
  else lo.any fun i => decide (h ≤ i.2) && (decide (i.1 + t ≤ h) || (decide (i.1 = 0) && decide (t ≤ h + c.lowTail[x.val])))

/-- A source overrides leg `x` at position `h`, where its arbitrated switches differ from the generator's command, or did within the
settling interval before (R159). -/
def State.overridden (s : State) (n : Ch) (x : Fin 3) (h : Nat) : Bool :=
  let p := (s.ch n).prot
  (s.arb n h ^^^ s.genCmd n h) &&& swLegs (swOf x.val false) != 0 || p.ovNow.getLsbD x.val ||
    p.ovEnd[x.val].any fun t => decide (s.now ≤ t + 2 * s.run R.PWM_MEAS_TSETTLE n.val)

/-- The phases whose current the generator marks valid at the hold instant (R159, R161). With single-shunt sensing the override condition of R159,
which the manual states for the other two, is asked of the phase of the window (log 139). -/
def State.holdValid (s : State) (n : Ch) : BitVec 3 :=
  let i := n.val
  let c := (s.ch n).car
  let bitOf (x : Nat) (b : Bool) : BitVec 3 := if b then BitVec.ofNat 3 (2 ^ x) else 0
  if s.on R.ADC_STATUS_CAL_BUSY i then 0
  else if s.run R.CH_MODE_SENSE i = 2 then
    let w (o : Option (Nat × Nat)) : BitVec 3 :=
      match o with
      | some (0, h) => bitOf 0 (!s.overridden n 0 h)
      | some (1, h) => bitOf 1 (!s.overridden n 1 h)
      | some (2, h) => bitOf 2 (!s.overridden n 2 h)
      | _ => 0
    w c.win1 ||| w c.win2
  else
    let h := s.run R.PWM_TRIG_I_POS i * 32
    let v (x : Fin 3) : BitVec 3 := bitOf x.val (s.settled n x h && !s.overridden n x h)
    v 0 ||| v 1 ||| (if s.run R.CH_MODE_SENSE i = 1 then 0 else v 2)

end Sys2Proof.Machine
end

