-- ==== Sys2Proof/Machine/Sense.lean ====
section
/-! DEFINITION. Converters, comparators, gate-drive protection and the brake chopper (R172 to R206). -/

namespace Sys2Proof.Machine

/-! ### Converters -/

/-- The corrected code of a raw code: raw − 2,048 − OFS, 13 bits signed (R196). -/
def corrCode (raw ofs : Nat) : Nat :=
  let o : Int := if 256 ≤ ofs then (ofs : Int) - 512 else ofs
  (((raw : Int) - 2048 - o) % 8192).toNat

/-- One phase result enters its register, and SAT follows a code at the rail (R196, R210). -/
def State.phaseResult (s : State) (n : Ch) (fv fc fr fo : Fld) (valid : Bool) (raw : Nat) : State :=
  let i := n.val
  let s := s.wrs i [(fv, if valid then 1 else 0), (fr, raw), (fc, corrCode raw (s.rd fo i))]
  if raw = 0 ∨ raw = 4095 then s.wr R.ADC_IRQ_SAT i 1 else s

/-- The results of a conversion by sense topology (R194, R195, R210): a missed window converts nothing and reads invalid. -/
def State.phaseResults (s : State) (n : Ch) (q : Samp) (a b c : Nat) : State :=
  let i := n.val
  let v (k : Nat) : Bool := decide (k < 3) && q.valid.getLsbD k
  let ra (s : State) (ok : Bool) : State := s.phaseResult n R.ADC_IA_VALID R.ADC_IA_CORR R.ADC_IA_RAW R.ADC_OFS_A_OFS ok a
  let rb (s : State) (f : Fld) (ok : Bool) : State := s.phaseResult n R.ADC_IB_VALID R.ADC_IB_CORR R.ADC_IB_RAW f ok b
  let zc (s : State) : State := s.wrs i [(R.ADC_IC_VALID, 0), (R.ADC_IC_CORR, 0), (R.ADC_IC_RAW, 0)]
  match s.run R.CH_MODE_SENSE i with
  | 0 => (rb (ra s (v 0)) R.ADC_OFS_B_OFS (v 1)).phaseResult n R.ADC_IC_VALID R.ADC_IC_CORR R.ADC_IC_RAW R.ADC_OFS_C_OFS (v 2) c
  | 1 => zc (rb (ra s (v 0)) R.ADC_OFS_B_OFS (v 1))
  | _ =>
    let s := if q.p1 = 3 then s.wr R.ADC_IA_VALID i 0 else ra s (v q.p1)
    let s := if q.p3 = 3 then s.wr R.ADC_IB_VALID i 0 else rb s R.ADC_OFS_A_OFS (v q.p3)
    zc s

/-- ADC_CONVERSION_DONE (R15, R195, R196) with the raw codes of the three converters. -/
def execAdcConversionDone (n : Ch) (a b c : BitVec 12) (s : State) : Host.Outcome State Fault Refusal :=
  .next (s.whenCh n fun s =>
    match (s.ch n).sense.samp with
    | some q =>
      if q.conv then s
      else (s.phaseResults n q a.toNat b.toNat c.toNat).modCh n fun k => { k with sense.samp := some { q with conv := true } }
    | none => s)

/-- The sources of the running voltage sequence, up to the first 0xF (R197). -/
def vseqCodes (w : Nat) : List Nat := ((List.range 8).map fun k => (w >>> (4 * k)) % 16).takeWhile (· ≠ 0xF)

/-- VSEQ_START (R197): an empty sequence converts nothing. -/
def execVseqStart (n : Ch) (s : State) : Host.Outcome State Fault Refusal :=
  .next (s.whenCh n fun s =>
    let l := vseqCodes (s.run R.ADC_VSEQ_SLOT n.val)
    if s.on R.PWM_STATUS_RUNNING n.val && !l.isEmpty then s.modCh n fun c => { c with sense.vseq := some (l, []) } else s)

/-- The results of a sequence appear: each converted slot with its source, the others invalid (R198). -/
def State.vresPut (s : State) (n : Ch) (l : List (Nat × Nat)) : State :=
  (List.range 8).foldl (fun s k =>
    match l[k]? with
    | some (src, v) => s.wrs n.val [(R.ADC_VRES_VALID.nth k, 1), (R.ADC_VRES_SRC.nth k, src), (R.ADC_VRES_CODE.nth k, v)]
    | none => s.wr (R.ADC_VRES_VALID.nth k) n.val 0) s

/-- VSEQ_SLOT_DONE (R197, R198) with the code of the slot and, for the temperature source, the °C that the trims give (a measured
value, log 10). -/
def execVseqSlotDone (n : Ch) (code : BitVec 12) (temp : Word) (s : State) : Host.Outcome State Fault Refusal :=
  .next (s.whenCh n fun s =>
    match (s.ch n).sense.vseq with
    | some (src :: rest, got) =>
      let s := if src = 6 then s.wr R.ADC_TEMP_T n.val temp.toNat else s
      let got := got ++ [code.toNat]
      if rest.isEmpty then
        let s := (s.vresPut n ((vseqCodes (s.run R.ADC_VSEQ_SLOT n.val)).zip got)).wr R.ADC_IRQ_VSEQ_DONE n.val 1
        let s := s.modCh n fun c => { c with sense.vseq := none }
        if (vseqCodes (s.run R.ADC_VSEQ_SLOT n.val)).contains 3 then (s.vbusCheck n).settleAll else s
      else s.modCh n fun c => { c with sense.vseq := some (rest, got) }
    | _ => s)

/-! ### Offset calibration -/

/-- A calibration command: accepted in HOLD or IDLE while no job holds the bridge, after those already accepted (R199, log 27). -/
def State.calibrate (s : State) (n : Ch) (z : Bool) : State :=
  let c := s.chState n
  if (c == .hold || c == .idle) && !s.bridgeJob n then
    (s.wr R.ADC_STATUS_CAL_BUSY n.val 1).modCh n fun c => { c with sense.calQ := c.sense.calQ ++ [z] }
  else s.wr R.ADC_IRQ_CAL_REFUSED n.val 1

/-- OFFCAL (R199). -/
def execOffcal (n : Ch) (s : State) : Host.Outcome State Fault Refusal := .next (s.whenCh n fun s => s.calibrate n false)

/-- ZCAL (R199). -/
def execZcal (n : Ch) (s : State) : Host.Outcome State Fault Refusal := .next (s.whenCh n fun s => s.calibrate n true)

/-- An average offset enters its register, saturated at ±255 (R199). -/
def State.putOfs (s : State) (n : Ch) (f : Fld) (v : Int) : State := s.wr f n.val ((max (-255) (min 255 v)) % 512).toNat

/-- An average lies outside ±255 codes (R199). -/
def ofsOut (v : Int) : Bool := decide (v < -255) || decide (255 < v)

/-- The offsets of the running amplifiers, found as `a`, `b`, `c` (R194, R199). -/
def State.putOffsets (s : State) (n : Ch) (a b c : Int) : State :=
  let se := s.run R.CH_MODE_SENSE n.val
  let s := s.putOfs n R.ADC_OFS_A_OFS a
  let s := if se = 2 then s else s.putOfs n R.ADC_OFS_B_OFS b
  let s := if se = 0 then s.putOfs n R.ADC_OFS_C_OFS c else s
  if ofsOut a || (se != 2 && ofsOut b) || (se == 0 && ofsOut c) then s.raiseCh n oOfsRange 0 else s

/-- CALIBRATION_DONE (R199) with the averages found, in codes from the nominal midpoint. -/
def execCalibrationDone (n : Ch) (a b c : Int) (s : State) : Host.Outcome State Fault Refusal :=
  .next (s.whenCh n fun s =>
    match (s.ch n).sense.calQ with
    | z :: rest =>
      let s := (s.putOffsets n a b c).modCh n fun k => { k with sense.calQ := rest }
      (s.wrs n.val [(R.ADC_STATUS_ZCAL_USED, if z then 1 else 0), (R.ADC_STATUS_CAL_BUSY, if rest.isEmpty then 0 else 1),
        (R.ADC_IRQ_CAL_DONE, 1)]).settleAll
    | [] => s)

/-- DIAG_TESTI_WRITE (R186): the enables are stored; they act in IDLE while no job holds the bridge. -/
def execDiagTestiWrite (n : Ch) (v : Word) (s : State) : Host.Outcome State Fault Refusal :=
  .next (s.whenCh n fun s => s.wrs n.val [(R.DIAG_TESTI_SNK_EN, v.toNat / 16), (R.DIAG_TESTI_SRC_EN, v.toNat)])

/-- The test sources and sinks that conduct, as masks (R186, R187): DIAG_OFFSTATE enables the sinks in step 3 and one source after the other in
step 4; otherwise DIAG.TESTI does, and a phase with both gets neither. -/
def State.testCurrents (s : State) (n : Ch) : Nat × Nat :=
  match s.pulseJob n with
  | some j =>
    if j.typ = jDiag then (if 3 ≤ j.work ∧ j.work ≤ 5 then 2 ^ (j.work - 3) else 0, if j.work = 2 then 7 else 0) else (0, 0)
  | none =>
  if s.chState n == .idle && !s.bridgeJob n then
    let k := s.rd R.DIAG_TESTI_SNK_EN n.val
    let r := s.rd R.DIAG_TESTI_SRC_EN n.val
    (r - (r &&& k), k - (r &&& k))
  else (0, 0)

/-! ### Comparators -/

/-- The comparator of R206 is the one under test now: its trips reach neither the collector nor the arbiter. -/
def State.underTest (s : State) (n : Ch) (c : Nat) : Bool :=
  s.jobs.toList.any fun j =>
    (j.st == .running || j.st == .suspending || j.st == .cancelling) && decide (j.typ = jSelftest) && decide (j.tgt = n.val) &&
      decide (j.work = c)

/-- The first trip since VALID was cleared (R180, R190). -/
def State.gdFirst (s : State) (n : Ch) (sw kind : Nat) : State :=
  let i := n.val
  if s.on R.GD_FIRST_VALID i then s
  else s.wrs i [(R.GD_FIRST_VALID, 1), (R.GD_FIRST_SWITCH, sw), (R.GD_FIRST_KIND, kind), (R.GD_FIRST_POS, (s.ch n).car.pos / 32)]

/-- A trip of R180 on the leg of `m`: shorts in two legs where another leg holds a trip or tripped within SHORT.WIN (R181). The escalation
is in force while GD_SHORT2 is in its fault state. -/
def State.shortTrip (s : State) (n : Ch) (m : Sw) : State :=
  let p := (s.ch n).prot
  let all := s.legTrips n ||| p.shortWin ||| m
  let s := s.modCh n fun c => { c with prot.shortWin := c.prot.shortWin ||| m }
  if twoLegs all then
    let s := s.raiseCh n oShort2 all
    let s := if (s.fr (srcCh n.val oShort2)).st.inFault then s.wrs n.val [(R.GD_STATUS_SHORT2, 1), (R.GD_IRQ_SHORT2, 1)] else s
    s.short2Update n
  else s

/-- A comparator of R200 trips: status, event flag (R211). -/
def State.cmpMark (s : State) (n : Ch) (k : Nat) : State :=
  (s.orBits R.CMP_STATUS_TRIPPED n.val (2 ^ k)).orBits R.CMP_IRQ_TRIP n.val (2 ^ k)

/-- A comparator of R200 can trip: active under the topology, outside its start state, not yet tripped, not under test (R200, R204,
R206). -/
def State.cmpReady (s : State) (n : Ch) (k : Nat) : Bool :=
  !cmpInactive (s.run R.CH_MODE_SENSE n.val) k && !s.bit R.CMP_STATUS_TRIPPED n.val k && !s.underTest n k

/-- A hard-short trip ends the pulse of DIAG_OFFSTATE that runs and is noted for its pair (R188). -/
def State.pulseTrip (s : State) (n : Ch) : State :=
  let k := ((s.pulseJob n).map (·.work)).getD 0 - 7
  s.modCh n fun c => { c with diag.pulse := none, diag.trips := c.diag.trips ||| BitVec.ofNat 3 (2 ^ k) }

/-- A pulse of DIAG_OFFSTATE runs on channel `n`. -/
def State.diagPulse (s : State) (n : Ch) : Bool := s.pulseRuns n && (s.pulseJob n).any fun j => decide (j.typ = jDiag)

/-- A hard-short comparator trips (R179, R180, R181); during a pulse of DIAG_OFFSTATE it raises nothing (R188). -/
def State.hardShort (s : State) (n : Ch) (x : Fin 3) : State :=
  let i := n.val
  let se := s.run R.CH_MODE_SENSE i
  let s := ((s.cmpMark n x.val).inc R.CMP_TRIPCNT_HS i).wr R.GD_IRQ_TRIP i 1
  let s := s.gdFirst n (if se = 2 then 6 else 3 + x.val) 2
  let s := s.modCh n fun c => { c with prot.hsOff := c.prot.hsOff ||| BitVec.ofNat 3 (2 ^ x.val) }
  let s := if s.diagPulse n then s.pulseTrip n
    else
      let s := s.raiseCh n (oCmpHs + x.val) (cmpSwitches se x.val)
      if se = 2 then s else s.shortTrip n (swOf x.val true)
  s.settleAll

/-- HARD_SHORT_TRIP (R201). -/
def execHardShortTrip (n : Ch) (x : Fin 3) (s : State) : Host.Outcome State Fault Refusal :=
  .next (s.whenCh n fun s => if s.cmpReady n x.val then s.hardShort n x else s)

/-- A window comparator trips (R201): no off request in monitor mode. -/
def State.windowTrip (s : State) (n : Ch) (low : Bool) (x : Fin 3) : State :=
  let i := n.val
  let k := if low then 6 + x.val else 3 + x.val
  let s := (s.cmpMark n k).inc R.CMP_TRIPCNT_WIN i
  let s := if s.run R.CMP_WIN_CFG_MODE i = 2 then s
    else s.modCh n fun c => { c with prot.winOff := c.prot.winOff ||| BitVec.ofNat 6 (2 ^ (k - 3)) }
  (s.raiseCh n (oCmpWin + x.val) (cmpSwitches (s.run R.CH_MODE_SENSE i) k)).settleAll

/-- WINDOW_TRIP (R201) of WINH_x, or of WINL_x for `low`. -/
def execWindowTrip (n : Ch) (low : Bool) (x : Fin 3) (s : State) : Host.Outcome State Fault Refusal :=
  .next (s.whenCh n fun s => if s.cmpReady n (if low then 6 + x.val else 3 + x.val) then s.windowTrip n low x else s)

/-- BUS_COMPARATOR_TRIP (R202) of BUS_UV for `uv`, else of BUS_OV; it acts from IDLE onward. -/
def execBusComparatorTrip (n : Ch) (uv : Bool) (s : State) : Host.Outcome State Fault Refusal :=
  .next (s.whenCh n fun s =>
    let k := if uv then 10 else 9
    if s.cmpReady n k then
      let s := s.cmpMark n k
      (if 2 ≤ (s.chState n).code then s.raiseCh n (if uv then oBusUv else oBusOv) 0 else s).settleAll
    else s)

/-- Comparator `k` of R200 is tripped, and not in its start state, in which it raises nothing (R204). -/
def State.cmpTrips (s : State) (n : Ch) (k : Nat) : Bool :=
  s.bit R.CMP_STATUS_TRIPPED n.val k && !s.bit R.CMP_STATUS_BAND_PENDING n.val k

/-- The off request and the condition of comparator `k` of R200 after its release (R180, R200 to R203). A latched window request that no fault state
holds, its source being masked, ends with the release: the model's choice (log 169). -/
def State.cmpReleased (s : State) (n : Ch) (k : Nat) : State :=
  let i := n.val
  if k < 3 then
    let s := s.condOffCh n (oCmpHs + k)
    if (s.fr (srcCh i (oCmpHs + k))).st.inFault then s
    else (s.modCh n fun c => { c with prot.hsOff := c.prot.hsOff &&& ~~~ BitVec.ofNat 3 (2 ^ k) }).short2Update n
  else if k < 9 then
    let x := k % 3
    let s := if s.cmpTrips n (3 + x) || s.cmpTrips n (6 + x) then s else s.condOffCh n (oCmpWin + x)
    if s.run R.CMP_WIN_CFG_MODE i = 1 ∧ (s.fr (srcCh i (oCmpWin + x))).st.inFault = false then
      s.modCh n fun c => { c with prot.winOff := c.prot.winOff &&& ~~~ BitVec.ofNat 6 (2 ^ (k - 3)) }
    else s
  else s.condOffCh n (if k = 9 then oBusOv else oBusUv)

/-- Comparator `c` of R206 enters its start state, in which it raises nothing: the condition of one that stood tripped goes (R204). -/
def State.cmpBegin (s : State) (n : Ch) (c : Nat) : State :=
  let was := decide (c < 11) && s.cmpTrips n c
  let s := s.cmpStart n c
  if was then s.cmpReleased n c else s

/-- Comparator `k` of R200, which the topology makes inactive, holds no off request any more (R204). -/
def State.cmpDrop (s : State) (n : Ch) (k : Nat) : State :=
  (s.modCh n fun c =>
    { c with
      prot.hsOff := if k < 3 then c.prot.hsOff &&& ~~~ BitVec.ofNat 3 (2 ^ k) else c.prot.hsOff
      prot.winOff := if 3 ≤ k ∧ k < 9 then c.prot.winOff &&& ~~~ BitVec.ofNat 6 (2 ^ (k - 3)) else c.prot.winOff }).short2Update n

/-- COMPARATOR_RELEASE (R173, R201, R202): comparator `k` of R211; 11 to 13 are BST_UV A to C, 14 to 16 BST_WARN A to C. -/
def execComparatorRelease (n : Ch) (k : Fin 17) (s : State) : Host.Outcome State Fault Refusal :=
  .next (s.whenCh n fun s =>
    let i := n.val
    if k.val < 11 then
      if s.bit R.CMP_STATUS_TRIPPED i k.val && !s.bit R.CMP_STATUS_BAND_PENDING i k.val then
        ((s.clrBits R.CMP_STATUS_TRIPPED i (2 ^ k.val)).cmpReleased n k.val).settle n
      else s
    else if k.val < 14 then
      ((s.clrBits R.GD_STATUS_BST_UV i (2 ^ (k.val - 11))).condOffCh n (oBstUv + (k.val - 11))).settle n
    else s.clrBits R.GD_STATUS_BST_WARN i (2 ^ (k.val - 14)))

/-- Comparator `k` leaves its start state, on the release side; BAND_CLEAR follows the last one (R204). -/
def State.leaveStart (s : State) (n : Ch) (k : Nat) : State :=
  let i := n.val
  let was := s.rd R.CMP_STATUS_BAND_PENDING i
  let s := (s.clrBits R.CMP_STATUS_BAND_PENDING i (2 ^ k)).clrBits R.CMP_STATUS_TRIPPED i (was &&& 2 ^ k)
  let s := if was.testBit k then s.cmpReleased n k else s
  if was ≠ 0 ∧ s.rd R.CMP_STATUS_BAND_PENDING i = 0 then s.wr R.CMP_IRQ_BAND_CLEAR i 1 else s

/-- COMPARATOR_START_EXIT (R204). -/
def execComparatorStartExit (n : Ch) (k : Fin 11) (s : State) : Host.Outcome State Fault Refusal :=
  .next (s.whenCh n fun s =>
    if s.bit R.CMP_STATUS_BAND_PENDING n.val k.val && !s.underTest n k.val then (s.leaveStart n k.val).settle n else s)

/-! ### VDS, bootstrap and brake -/

/-- VDS_BLANKING_END (R178): the filter runs from here if the level stands over threshold. -/
def execVdsBlankingEnd (n : Ch) (sw : Fin 6) (hot : Bool) (s : State) : Host.Outcome State Fault Refusal :=
  .next (s.whenCh n fun s =>
    let b := BitVec.ofNat 6 (2 ^ sw.val)
    s.modCh n fun c =>
      { c with
        prot.vdsBlank := c.prot.vdsBlank &&& ~~~ b
        prot.vdsFilt := if hot && c.prot.vdsBlank.getLsbD sw.val then c.prot.vdsFilt ||| b else c.prot.vdsFilt })

/-- A VDS comparator trips (R178, R180, R181): its switch turns off, and with it the comparator, so the condition is absent again. While
the source is masked the off request ends there. -/
def State.vdsTrip (s : State) (n : Ch) (sw : Fin 6) : State :=
  let i := n.val
  let b := BitVec.ofNat 6 (2 ^ sw.val)
  let s := (s.wr R.GD_IRQ_TRIP i 1).gdFirst n sw.val 1
  let s := s.modCh n fun c =>
    { c with prot.vdsOff := c.prot.vdsOff ||| b, prot.vdsFilt := c.prot.vdsFilt &&& ~~~ b }
  let s := (s.raiseCh n (oVds + sw.val) b).shortTrip n b
  let s := s.settleAll.condOffCh n (oVds + sw.val)
  if (s.fr (srcCh i (oVds + sw.val))).st.inFault then s
  else ((s.modCh n fun c => { c with prot.vdsOff := c.prot.vdsOff &&& ~~~ b }).short2Update n).settle n

/-- VDS_TRIP (R178): the comparator acts only while its switch is on and its blanking has ended (R177). -/
def execVdsTrip (n : Ch) (sw : Fin 6) (s : State) : Host.Outcome State Fault Refusal :=
  .next (s.whenCh n fun s =>
    let p := (s.ch n).prot
    if p.gates.getLsbD sw.val && !p.vdsBlank.getLsbD sw.val && !s.underTest n (12 + sw.val) then s.vdsTrip n sw else s)

/-- SHORT2_WINDOW_END (R181). -/
def execShort2WindowEnd (n : Ch) (sw : Fin 6) (s : State) : Host.Outcome State Fault Refusal :=
  .next (s.whenCh n fun s => s.modCh n fun c => { c with prot.shortWin := c.prot.shortWin &&& ~~~ BitVec.ofNat 6 (2 ^ sw.val) })

/-- BST_WARN_TRIP (R173, R174). -/
def execBstWarnTrip (n : Ch) (x : Fin 3) (s : State) : Host.Outcome State Fault Refusal :=
  .next (s.whenCh n fun s =>
    if s.underTest n (21 + x.val) then s
    else (s.orBits R.GD_STATUS_BST_WARN n.val (2 ^ x.val)).wr R.GD_IRQ_BST_WARN n.val 1)

/-- The states in which GD_BST_UV is raised (R174). -/
def ChState.bstDrives (c : ChState) : Bool := c == .starting || c == .running || c == .stopping || c == .limp

/-- A BST_UV comparator that stands tripped raises its source in the driving states (R174). -/
def State.bstUvRaise (s : State) (n : Ch) (x : Fin 3) : State :=
  ((s.wr R.GD_IRQ_BST_UV n.val 1).gdFirst n x.val 3).raiseCh n (oBstUv + x.val) (swOf x.val false)

/-- The trips of BST_UV that stand as a driving state is entered (R174). -/
def State.bstEnter (s : State) (n : Ch) : State :=
  if (s.chState n).bstDrives then
    [0, 1, 2].foldl (fun s (x : Fin 3) =>
      if s.bit R.GD_STATUS_BST_UV n.val x.val && !(s.fr (srcCh n.val (oBstUv + x.val))).cond then s.bstUvRaise n x else s) s
  else s

/-- BST_UV_TRIP (R174): the high side is off while tripped; outside the driving states the trip shows in GD.STATUS alone. -/
def execBstUvTrip (n : Ch) (x : Fin 3) (s : State) : Host.Outcome State Fault Refusal :=
  .next (s.whenCh n fun s =>
    if s.underTest n (18 + x.val) then s
    else
      let s := s.orBits R.GD_STATUS_BST_UV n.val (2 ^ x.val)
      (if (s.chState n).bstDrives then s.bstUvRaise n x else s).settleAll)

/-- BRAKE_COMPARATOR (R183): VBUSn crosses ON upwards, or OFF downwards. -/
def execBrakeComparator (n : Ch) (above : Bool) (s : State) : Host.Outcome State Fault Refusal :=
  .next (s.whenCh n fun s => if s.underTest n 11 then s else (s.flag R.BRK_STATUS_HYST n.val above).brkShow n)

/-- BRK_OVERTIME (R185): a conduction of MAXON × 0.1 ms ends and its source is raised; where no fault state follows, the gate stays off
until nothing asks for it (log 141). -/
def execBrkOvertime (n : Ch) (s : State) : Host.Outcome State Fault Refusal :=
  .next (s.whenCh n fun s =>
    if (s.ch n).prot.brkOn && s.run R.BRK_MAXON n.val != 0 then
      let s := (s.wr R.BRK_IRQ_OVERTIME n.val 1).raiseCh n oBrkOvertime 0
      let held := s.brkHeld n
      (s.modCh n fun c => { c with prot.brkCut := !held }).settleAll
    else s)

/-! ### Limp pulses -/

/-- The chopped high side of the limp sector (R207). -/
def State.limpHigh (s : State) (n : Ch) : Option (Fin 6) :=
  match sectorLegs (s.ch n).prot.limpSector with
  | some (0, _) => some 0 | some (1, _) => some 1 | some (2, _) => some 2 | _ => none

/-- The magnitude that the limp comparator sees of the amplifiers' outputs `a`, `b`, `c`, in DAC codes from the midpoint (R208). -/
def State.limpCurrent (s : State) (n : Ch) (a b c : Int) : Nat :=
  match s.run R.CH_MODE_SENSE n.val, (sectorLegs (s.ch n).prot.limpSector).map (·.2) with
  | 2, _ => a.natAbs
  | _, some 0 => a.natAbs
  | _, some 1 => b.natAbs
  | 1, some 2 => (a + b).natAbs
  | _, some 2 => c.natAbs
  | _, _ => 0

/-- The ramp DAC `d` PCLK cycles after the turn-on, in 1/2,560 of a code: SLOPE/64 codes per µs, a step every 25 ns (R208). -/
def State.limpRamp (s : State) (n : Ch) (d : Nat) : Nat :=
  let w := (s.ch n).prot.limpI
  R.CMP_LIMP_I_IPK.get w * 2560 - R.CMP_LIMP_I_SLOPE.get w * (d / 10)

/-- The limp comparator ends the pulse at the currents `a`, `b`, `c`: the chopped high side is on, its leading-edge blanking is over, and the
current has reached the ramp (R207, R208; log 146). -/
def State.limpTrips (s : State) (n : Ch) (a b c : Int) : Bool :=
  (s.limpHigh n).any fun k =>
    let p := (s.ch n).prot
    let d := s.now - p.swAt[k]
    p.gates.getLsbD k.val && decide (R.CMP_LIMP_CFG_LEB.get p.limpCfg * 10 ≤ d) &&
      decide (s.limpRamp n d ≤ s.limpCurrent n a b c * 2560)

/-- LIMP_COMPARATOR_TRIP (R207, R208) with the outputs of the amplifiers A to C in DAC codes from the midpoint. -/
def execLimpComparatorTrip (n : Ch) (a b c : Int) (s : State) : Host.Outcome State Fault Refusal :=
  .next (s.whenCh n fun s =>
    if s.chState n == .limp && !s.underTest n 24 && s.limpTrips n a b c then
      (s.modCh n fun c => { c with prot.limpOn := false }).settle n
    else s)

/-- LIMP_DMAX_END (R207). -/
def execLimpDmaxEnd (n : Ch) (s : State) : Host.Outcome State Fault Refusal :=
  .next (s.whenCh n fun s =>
    if s.chState n == .limp then (s.modCh n fun c => { c with prot.limpOn := false }).settle n else s)

end Sys2Proof.Machine
end

