-- ==== Sys2Proof/Machine/Position.lean ====
section
/-! DEFINITION. Position feedback: Hall, encoder, resolver and sensor SPI events, the source values at a sample, limp boundaries
(R212 to R234, R207). -/

namespace Sys2Proof.Machine

/-! ### Shared -/

/-- One PCLK cycle in seconds, as F32: 2.5 ns (R147). -/
def pclkSec : Word := f32OfRat 25 10000000000

/-- Angle codes per radian, as F32: 65,536 / 2π (R212). -/
def codesPerRad : Word := 0x4622F983#32

/-- The angle codes that speed `w` turns in `d` PCLK cycles (R230); the rounding of these steps is a DESIGN CHOICE (log 16). -/
def turned (w : Word) (d : Int) : Int :=
  let x := f32Mul (f32Mul w (f32Mul (f32OfInt d) pclkSec)) codesPerRad
  if f32IsFinite x then f32ToInt x else 0

/-- The electrical angle of a sensor turn fraction num/den (R213), truncated to a code (log 16). -/
def State.elecAngle (s : State) (n : Ch) (num den ofs : Nat) : Nat :=
  let t := if den = 0 then 0 else s.run R.POS_CFG_RATIO n.val * num * 65536 / den
  let t : Int := if s.run R.POS_CFG_DIR n.val = 1 then -(t : Int) else t
  ((t + ofs) % 65536).toNat

/-- A sensor speed in the direction of the electrical angle (R213). -/
def State.dirSpd (s : State) (n : Ch) (w : Word) : Word := if s.run R.POS_CFG_DIR n.val = 1 then f32Opp w else w

/-- One of the four bytes of POS.ERRCNT counts, saturating (R233): 0 HALL_SEQ, 1 HALL_ILLEGAL, 2 ENC_IDX, 3 ENC_ILLEGAL. -/
def State.posErr (s : State) (n : Ch) (b : Nat) : State :=
  let v := s.rd R.POS_ERRCNT_ERR n.val
  if v / 256 ^ b % 256 = 255 then s else s.wr R.POS_ERRCNT_ERR n.val (v + 256 ^ b)

/-- The position record of channel `n` changed by `g`. -/
def State.modPos (s : State) (n : Ch) (g : Pos → Pos) : State := s.modCh n fun c => { c with pos := g c.pos }

/-- The feedback codes in use on channel `n` (R127): a stand member uses neither source, which code 7 stands for in both. -/
def State.fb (s : State) (n : Ch) : Nat := if s.run R.CH_MODE_GANG n.val = 2 then 7 else s.run R.CH_MODE_FB n.val
def State.fb2 (s : State) (n : Ch) : Nat := if s.run R.CH_MODE_GANG n.val = 2 then 7 else s.run R.CH_MODE_FB2 n.val

/-- The rotor sector of an angle (R232). -/
def State.sectorOf (s : State) (n : Ch) (ang : Nat) : Nat := 1 + (ang + s.run R.POS_CFG_SIX_ADV n.val) % 65536 * 6 / 65536

/-- The rotor sector becomes `k`: SECTOR_CHG (R232). -/
def State.putSector (s : State) (n : Ch) (k : Nat) : State :=
  if s.rd R.POS_STATUS_SECTOR n.val = k then s
  else s.wrs n.val [(R.POS_STATUS_SECTOR, k), (R.POS_IRQ_SECTOR_CHG, 1)]

/-- A home event of kind `ev` occurs while the HOMING job waits for it (R301, R302). -/
def State.homeEvent (s : State) (n : Ch) (ev : Nat) : State :=
  if (s.ch n).homeRun && decide (s.rd R.SPT_HOME_EVENT n.val = ev) then s.modCh n fun c => { c with homeSeen := true } else s

/-! ### Hall inputs -/

/-- The sector that the map assigns to a code (R215). -/
def State.hallSectorOf (s : State) (n : Ch) (code : Nat) : Nat := (s.run R.POS_HALL_MAP n.val >>> (3 * code)) % 8

/-- The smallest and the largest angle code of sector `k` (R216). -/
def sectorLo (k : Nat) : Nat := ((k - 1) * 65536 + 5) / 6
def sectorHi (k : Nat) : Nat := (k * 65536 + 5) / 6 - 1

/-- The centre of sector `k` (R216). -/
def sectorMid (k : Nat) : Nat := (2 * k - 1) * 65536 / 12

/-- The Hall angle at PCLK cycle `t`, OFS_HALL included (R216). -/
def State.hallAngle (s : State) (n : Ch) (t : Nat) : Nat :=
  let h := (s.ch n).pos.hall
  let base :=
    match h.edge with
    | some e =>
      if s.run R.POS_HALL_INTERP n.val = 1 ∧ h.spdOk then
        (max (sectorLo h.sector : Int) (min (sectorHi h.sector) (e + turned h.spd ((t : Int) - h.stamp)))).toNat
      else sectorMid h.sector
    | none => sectorMid h.sector
  (base + s.run R.POS_OFS_A_OFS_HALL n.val) % 65536

/-- π/3 divided by `d` PCLK cycles, in rad/s (R216). -/
def hallSpeed (d : Nat) : Word := f32Div (f32OfRat 41887902047863909 100000000) (f32OfNat d)

/-- The Hall record after a valid edge into sector `k` at stamp `t` (R216, R217): a step of one sector has a direction, any other none. -/
def Hall.step (h : Hall) (k t : Nat) : Hall :=
  let d := (k + 6 - h.sector) % 6
  let dir : Int := if h.sector = 0 then 0 else if d = 1 then 1 else if d = 5 then -1 else 0
  let ok := decide (dir ≠ 0) && decide (h.dir = dir)
  let w := hallSpeed (t - h.stamp)
  { h with
    sector := k
    edge := if dir = 1 then some (sectorLo k) else if dir = -1 then some (sectorHi k) else none
    stamp := t
    dir := dir
    spd := if ok then (if dir = 1 then w else f32Opp w) else h.spd
    spdOk := ok }

/-- A sector two or three positions from the previous one (R217). -/
def hallSkip (was k : Nat) : Bool := decide (was ≠ 0) && decide (2 ≤ (k + 6 - was) % 6) && decide ((k + 6 - was) % 6 ≤ 4)

/-- A valid code of sector `k` is accepted. -/
def State.hallEdge (s : State) (n : Ch) (k : Nat) : State :=
  let i := n.val
  let h := (s.ch n).pos.hall
  let t := s.now - (s.run R.POS_HALL_FILT i + 1) * 16
  let skip := hallSkip h.sector k
  let s := s.modPos n fun p => { p with hall := p.hall.step k t }
  let s := s.wr R.POS_STATUS_HALL_VALID i 1
  let s := if skip then (s.wr R.POS_IRQ_HALL_SEQ i 1).posErr n 0 else s
  if s.rd R.SPT_HOME_SECTOR i = k then s.homeEvent n 1 else s

/-- A code that the map marks invalid is accepted (R217). -/
def State.hallIllegal (s : State) (n : Ch) : State :=
  let i := n.val
  let s := s.modPos n fun p => { p with hall := { p.hall with sector := 0, edge := none, dir := 0, spdOk := false } }
  (s.wrs i [(R.POS_STATUS_HALL_VALID, 0), (R.POS_IRQ_HALL_ILLEGAL, 1)]).posErr n 1

/-- A commit that changes MAP maps the held code anew, without an edge (R215). -/
def State.hallRemap (s : State) (n : Ch) : State :=
  let k := s.hallSectorOf n (s.rd R.POS_STATUS_HALL n.val)
  let s := s.modPos n fun p => { p with hall := { p.hall with sector := k, edge := none, dir := 0, spdOk := false } }
  s.flag R.POS_STATUS_HALL_VALID n.val (k != 0)

/-- SPEED_ZERO_TIMEOUT (R216, R220): no edge for SPD.TMAX, of the encoder for `enc`, else of the Hall inputs. -/
def execSpeedZeroTimeout (n : Ch) (enc : Bool) (s : State) : Host.Outcome State Fault Refusal :=
  .next (s.whenCh n fun s =>
    s.modPos n fun p =>
      if enc then { p with enc := { p.enc with spd := 0#32 } }
      else if p.hall.spdOk then { p with hall := { p.hall with spd := 0#32 } }
      else p)

/-! ### ABZ encoder -/

/-- Counts per sensor turn (R218). -/
def State.cpr (s : State) (n : Ch) : Nat := 4 * s.run R.POS_ENC_LINES n.val

/-- The place of the levels A, B in the forward order 00, 10, 11, 01 (R218). -/
def quad (a b : Bool) : Nat :=
  match a, b with
  | false, false => 0 | true, false => 1 | true, true => 2 | false, true => 3

/-- An ENC_IDX event (R219). -/
def State.idxEvent (s : State) (n : Ch) : State :=
  (s.wr R.POS_IRQ_ENC_IDX n.val 1).posErr n 2

/-- The index check of R280 while ABZ is in use with its reference. -/
def State.idxCheck (s : State) (n : Ch) (bad : Bool) : State :=
  if s.fb n = 1 ∨ s.fb2 n = 1 then s.pcEval n 4 bad else s

/-- The reference of the encoder is set, its speed starting anew (R219, R220). -/
def State.encRef (s : State) (n : Ch) (count : Nat) : State :=
  (s.wrs n.val [(R.POS_ENC_CNT_COUNT, count), (R.POS_STATUS_ENC_REF, 1)]).modPos n fun p =>
    { p with enc := { p.enc with edges := 0, travel := 0, missed := false } }

/-- One accepted edge moves the count by `d` (R218), and a missing index is reported once the travel exceeds its limit (R219). -/
def State.encMove (s : State) (n : Ch) (d : Int) : State :=
  let i := n.val
  let c := s.cpr n
  let cnt := (((s.rd R.POS_ENC_CNT_COUNT i : Int) + d) % (max c 1 : Nat)).toNat
  let t := s.now - (s.run R.POS_ENC_FILT i + 1)
  let s := (s.wr R.POS_ENC_CNT_COUNT i cnt).modPos n fun p =>
    { p with enc := { p.enc with
        edges := p.enc.edges + 1
        fresh := p.enc.fresh + 1
        stamp := t
        dir := d
        moved := p.enc.moved + d
        travel := p.enc.travel + d } }
  let e := (s.ch n).pos.enc
  if s.run R.POS_ENC_IDX_MODE i ≠ 0 ∧ s.on R.POS_STATUS_ENC_REF i ∧ e.missed = false ∧
      c + s.run R.POS_ENC_IDX_TOL i < e.travel.natAbs then
    ((s.idxEvent n).modPos n fun p => { p with enc := { p.enc with missed := true } }).idxCheck n true
  else s

/-- ENCODER_EDGE (R218) with the accepted levels of A and B. -/
def execEncoderEdge (n : Ch) (a b : Bool) (s : State) : Host.Outcome State Fault Refusal :=
  .next (s.whenCh n fun s =>
    let e := (s.ch n).pos.enc
    let s := s.modPos n fun p => { p with enc := { p.enc with a := a, b := b } }
    match (quad a b + 4 - quad e.a e.b) % 4 with
    | 0 => s
    | 1 => (s.encMove n 1).settleAll
    | 3 => (s.encMove n (-1)).settleAll
    | _ => (s.wrs n.val [(R.POS_IRQ_ENC_ILLEGAL, 1), (R.POS_STATUS_ENC_REF, 0)]).posErr n 3)

/-- What an index does by IDX_MODE (R219). -/
def State.index (s : State) (n : Ch) : State :=
  let i := n.val
  let pos := s.run R.POS_ENC_IDXPOS_IDXPOS i
  let c := s.cpr n
  let mode := s.run R.POS_ENC_IDX_MODE i
  let s := (s.wr R.POS_IRQ_INDEX i 1).homeEvent n 0
  if mode = 0 then s
  else if !s.on R.POS_STATUS_ENC_REF i then s.encRef n pos
  else
    let d := (s.rd R.POS_ENC_CNT_COUNT i + c - pos) % c
    let bad := decide (s.run R.POS_ENC_IDX_TOL i < min d (c - d))
    let s := if bad then
        let s := s.idxEvent n
        if mode = 2 then s.wr R.POS_ENC_CNT_COUNT i pos else s
      else s
    (s.idxCheck n bad).modPos n fun p => { p with enc := { p.enc with travel := 0, missed := false } }

/-- ENCODER_INDEX (R219): the rising edge of the accepted Z level. -/
def execEncoderIndex (n : Ch) (s : State) : Host.Outcome State Fault Refusal :=
  .next (s.whenCh n fun s =>
    let e := (s.ch n).pos.enc
    if s.run R.POS_ENC_IDX_GATE n.val = 1 ∧ (e.a && e.b) = false then s else (s.index n).settleAll)

/-- ENC_LOAD (R219). -/
def execEncLoad (n : Ch) (s : State) : Host.Outcome State Fault Refusal :=
  .next (s.whenCh n fun s => s.encRef n (s.run R.POS_ENC_IDXPOS_IDXPOS n.val))

/-- POS_CNT_CLR (R233). -/
def execPosCntClr (n : Ch) (s : State) : Host.Outcome State Fault Refusal :=
  .next (s.whenCh n fun s => s.wr R.POS_ERRCNT_ERR n.val 0)

/-- The encoder's speed at a sample held at `t` (R220): counts between the last edges of two samples, or a limit from the time without
an edge. -/
def State.encSample (s : State) (n : Ch) (t : Nat) : State :=
  let e := (s.ch n).pos.enc
  let scale := f32Mul (f32OfNat (s.run R.POS_CFG_RATIO n.val)) (f32Div 0x40C90FDB#32 (f32OfNat (s.cpr n)))
  let rate (c : Int) (d : Nat) : Word := f32Mul scale (f32Div (f32OfInt c) (f32Mul (f32OfNat d) pclkSec))
  if 0 < e.fresh then
    s.modPos n fun p => { p with enc := { p.enc with spd := rate e.moved (e.stamp - e.prev), prev := e.stamp, moved := 0, fresh := 0 } }
  else
    let lim := rate 1 (t - e.stamp)
    s.modPos n fun p => { p with enc := { p.enc with
      spd := if f32Lt lim (f32Abs e.spd) then (if f32Neg e.spd then f32Opp lim else lim) else e.spd } }

/-! ### Resolver interfaces -/

/-- The record of resolver interface `m`. -/
def State.modScx (s : State) (m : Fin 2) (g : Scx → Scx) : State := { s with scx := s.scx.set m.val (g (s.scx.get m)) }

/-- The sine of an angle difference is above sin 30° in magnitude (R223). -/
def sinAbove30 (d : Nat) : Bool := decide (5462 ≤ d % 32768) && decide (d % 32768 ≤ 27306)

/-- Angle code `k` in radians, in units of 2^−256. -/
def codeRad (k : Nat) : Int := (k * halfPi256 / 16384 : Nat)

/-- Within its quarter turn, the last code at or before the direction (x, y), both not negative. -/
def quarterCode (x y : Int) : Nat :=
  (List.range 14).reverse.foldl (fun k b =>
    if x * sineOf false (codeRad (k + 2 ^ b)) ≤ y * sineOf true (codeRad (k + 2 ^ b)) then k + 2 ^ b else k) 0

/-- The angle code of the direction (x, y), truncated (log 16); 0 for no direction. -/
def angleCode (x y : Int) : Nat :=
  if x = 0 ∧ y = 0 then 0
  else if 0 < x ∧ 0 ≤ y then quarterCode x y
  else if x ≤ 0 ∧ 0 < y then 16384 + quarterCode y (-x)
  else if x < 0 ∧ y ≤ 0 then 32768 + quarterCode (-x) (-y)
  else 49152 + quarterCode (-y) x

/-- The excitation delayed by the code `phase` at sample `j` of `len` in its period, in units of 2^−32 (R221, R222). -/
def excRef (phase len j : Nat) : Int :=
  sineOf false (4 * halfPi256 * ((256 * j + (256 - phase) * len) % (256 * len)) / (256 * len) : Nat) / 2 ^ 224

/-- One period of converter samples times the delayed excitation, summed (R222). -/
def demodSum (phase : Nat) (l : List (BitVec 16)) : Int :=
  ((List.range l.length).zip l).foldl (fun a e => a + e.2.toInt * excRef phase l.length e.1) 0

/-- The amplitude A of R222 in 1/65,536 from the two sums over `len` samples: full scale is a converter's full scale in phase with the excitation
(log 10). -/
def demodAmp (sn cs : Int) (len : Nat) : Nat :=
  min (isqrt (sn * sn + cs * cs).toNat 128 0 * 4 / max (len * 2 ^ 32) 1) 65535

/-- RESOLVER_DEMOD (R222, R223) with what the two converters gave over one excitation period. -/
def execResolverDemod (m : Fin 2) (sn cs : List (BitVec 16)) (s : State) : Host.Outcome State Fault Refusal :=
  .next (if s.on R.SCX_STATUS_RUNNING m.val then
      let ph := s.rd R.SCX_EXC_PHASE m.val
      let y := demodSum ph sn
      let x := demodSum ph cs
      let a := demodAmp y x (max sn.length cs.length)
      let phi := angleCode x y
      let badA := decide (a < s.rd R.SCX_ATO_AMP_LO m.val * 256) || decide (s.rd R.SCX_ATO_AMP_HI m.val * 256 < a)
      let badT := sinAbove30 ((phi + 65536 - s.rd R.SCX_ANGLE_PHI m.val) % 65536)
      let s := s.modScx m fun x =>
        { x with
          amp := if badA then min (x.amp + 1) 3 else 0
          track := if badT then min (x.track + 1) 3 else 0
          mag := a
          phi := phi }
      let x := s.scx.get m
      ((s.condSet (srcScxAmp m.val) (x.amp == 3)).condSet (srcScxTrack m.val) (x.track == 3)).settleAll
    else s)

/-- The angle in units of 2^−32 turn that speed `w` turns in the 5 µs of a tracking step. -/
def trackTurn (w : Word) : Int :=
  let x := f32Mul w (f32OfRat 3417826377882158 1000000000000)
  if f32IsFinite x then f32ToInt x else 0

/-- RESOLVER_TRACK_UPDATE (R222, R223): one step of the type-II loop on the last demodulated angle. Its integrator moves the speed, the speed and
the error move the angle; the two gains that BW sets are free (log 10). -/
def execResolverTrackUpdate (m : Fin 2) (s : State) : Host.Outcome State Fault Refusal :=
  .next (if s.on R.SCX_STATUS_RUNNING m.val then
      let x := s.scx.get m
      let err := angleDiff x.phi (x.fine / 65536)
      let g := Config.trackGain (s.rd R.SCX_ATO_BW m.val) err
      let w := f32Add (s.rdw R.SCX_SPEED m.val) g.2
      let fine := (((x.fine : Int) + trackTurn w + g.1) % 2 ^ 32).toNat
      (s.modScx m fun x => { x with fine := fine }).wrs m.val [(R.SCX_ANGLE_PHI, fine / 65536), (R.SCX_ANGLE_AMP, x.mag), (R.SCX_SPEED, w.toNat),
        (R.SCX_STAMP_TIME, s.ticks), (R.SCX_STATUS_LOCK, if err.natAbs ≤ 910 then 1 else 0)]
    else s)

/-- SCXm.CTRL.EN becomes `en` (R221). -/
def State.scxEn (s : State) (m : Fin 2) (en : Bool) : State :=
  let s := (s.flag R.SCX_CTRL_EN m.val en).flag R.SCX_STATUS_RUNNING m.val en
  if en then s
  else
    let s := (s.wr R.SCX_STATUS_LOCK m.val 0).modScx m fun _ => Scx.reset
    ((s.condSet (srcScxAmp m.val) false).condSet (srcScxTrack m.val) false).settleAll

/-- SCX_ENABLE (R221): a write of EN, which the page's lock can refuse (R92). -/
def execScxEnable (m : Fin 2) (en : Bool) (s : State) : Host.Outcome State Fault Refusal :=
  .next (if s.locked (0x0A + m.val) then s.wrDenied (0x0A + m.val) else s.scxEn m en)

/-- The resolver interface assigned to channel `n` (R224); where both name it SCX0 serves: the model's choice (log 173). -/
def State.scxOf (s : State) (n : Ch) : Option (Fin 2) :=
  ([0, 1] : List (Fin 2)).find? fun m => (s.rd R.SCX_ASSIGN_CH m.val).testBit n.val

/-- The resolver's angle and speed are valid (R223). -/
def State.scxOk (s : State) (m : Fin 2) : Bool :=
  s.on R.SCX_CTRL_EN m.val && s.on R.SCX_STATUS_LOCK m.val &&
    !(s.fr (srcScxAmp m.val)).st.inFault && !(s.fr (srcScxTrack m.val)).st.inFault

/-! ### Master SPI ports -/

/-- The record of port `m`. -/
def State.modMspi (s : State) (m : Fin 2) (g : Mspi → Mspi) : State := { s with mspi := s.mspi.set m.val (g (s.mspi.get m)) }

/-- The word an entry sends (R226). -/
def mspiTx (e : Word) : Word :=
  let len := (e.toNat >>> 20) % 32 + 1
  let tx := e.toNat % 65536
  wd (if 16 ≤ len then tx <<< (len - 16) else tx % 2 ^ len)

/-- Entry `k` of the queue starts: it is fetched, and a select that was not held falls and stamps the frame (R226, R228). -/
def State.mspiEntry (s : State) (m : Fin 2) (k : Nat) : State :=
  let e := s.word (R.MSPI_QUEUE_TX.addr m.val + 4 * k)
  (s.wr R.MSPI_STATUS_ENTRY m.val k).modMspi m fun x =>
    { x with cur := e, tx := mspiTx e, count := x.count + 1, stamp := if x.held then x.stamp else s.ticks % 2 ^ 24 }

/-- Trigger `k` starts a run (R226, R227). -/
def State.mspiRun (s : State) (m : Fin 2) (k : Nat) : State :=
  ((s.wr R.MSPI_STATUS_BUSY m.val 1).modMspi m fun x => { x with count := 0, held := false, frame := [] }).mspiEntry m
    (s.rd (R.MSPI_TRIG_START.nth k) m.val)

/-- Trigger `k` of port `m` fires: a run, a pending trigger or a lost one (R227). -/
def State.mspiFire (s : State) (m : Fin 2) (k : Nat) : State :=
  if !s.on R.MSPI_CTRL_EN m.val then s
  else if !s.on R.MSPI_STATUS_BUSY m.val then s.mspiRun m k
  else if s.on R.MSPI_STATUS_PENDING m.val then s.wr R.MSPI_IRQ_TRIG_LOST m.val 1
  else (s.wr R.MSPI_STATUS_PENDING m.val 1).modMspi m fun x => { x with pend := k }

/-- Trigger `k` of port `m` belongs to a position of channel `n`. -/
def State.mspiOf (s : State) (m : Fin 2) (k : Nat) (n : Ch) : Bool :=
  decide (s.rd (R.MSPI_TRIG_SRC.nth k) m.val = 1) && decide (s.rd (R.MSPI_TRIG_CH.nth k) m.val % 4 = n.val)

/-- The counter of channel `n` stands at `p` counts, in a period that a sample-opening boundary follows (R157, R227). -/
def State.opensAt (s : State) (n : Ch) (p : Nat) : Bool :=
  let c := (s.ch n).car
  s.chOn n && s.on R.PWM_STATUS_RUNNING n.val && s.chState n != .limp && c.first.isNone && decide (c.divCnt = 0) && decide (c.pos = p * 32)

/-- MSPI_TRIGGER (R227): trigger `k` with SRC = 1 at the position of its channel. -/
def execMspiTrigger (m : Fin 2) (k : Fin 4) (s : State) : Host.Outcome State Fault Refusal :=
  .next (let n : Ch := Fin.ofNat 4 (s.rd (R.MSPI_TRIG_CH.nth k.val) m.val)
    if s.mspiOf m k.val n && s.opensAt n (s.rd (R.MSPI_TRIG_POS.nth k.val) m.val) then s.mspiFire m k.val else s)

/-- The triggers with SRC = 1 of channel `n` fire at its limp boundary, in the order of their indices (R227). -/
def State.mspiLimp (s : State) (n : Ch) : State :=
  ([(0, 0), (0, 1), (0, 2), (0, 3), (1, 0), (1, 1), (1, 2), (1, 3)] : List (Fin 2 × Nat)).foldl
    (fun s e => if s.mspiOf e.1 e.2 n then s.mspiFire e.1 e.2 else s) s

/-- A software trigger fires, unless its source is off (R227). -/
def State.mspiSw (s : State) (m : Fin 2) (k : Nat) : State :=
  let src := s.rd (R.MSPI_TRIG_SRC.nth k) m.val
  if src = 1 ∨ src = 2 then s.mspiFire m k else s

/-- MSPI_SWTRIG (R227). -/
def execMspiSwtrig (m : Fin 2) (k : Fin 4) (s : State) : Host.Outcome State Fault Refusal := .next (s.mspiSw m k.val)

/-- The results of a frame enter their slots at the rise of its select (R228). -/
def State.mspiFlush (s : State) (m : Fin 2) : State :=
  let x := s.mspi.get m
  let s := x.frame.foldl (fun s e =>
    let k := e.1
    let seq := R.MSPI_STAMP_SEQ.nth k
    (s.wrs m.val [(R.MSPI_RES_DATA.nth k, e.2.toNat), (seq, s.rd seq m.val + 1), (R.MSPI_STAMP_TIME.nth k, x.stamp)]).orBits
      R.MSPI_IRQ_SLOT m.val (2 ^ k)) s
  s.modMspi m fun x => { x with frame := [], held := false }

/-- A run ends, and a pending trigger starts the next (R226, R227). -/
def State.mspiEnd (s : State) (m : Fin 2) : State :=
  let s := s.wrs m.val [(R.MSPI_STATUS_BUSY, 0), (R.MSPI_IRQ_DONE, 1)]
  if s.on R.MSPI_STATUS_PENDING m.val then (s.wr R.MSPI_STATUS_PENDING m.val 0).mspiRun m (s.mspi.get m).pend else s

/-- An entry has shifted `rx` in (R226, R228). -/
def State.mspiDone (s : State) (m : Fin 2) (rx : Word) : State :=
  let e := (s.mspi.get m).cur
  let len := (e.toNat >>> 20) % 32 + 1
  let dst := (e.toNat >>> 25) % 8
  let stop := e.getLsbD 31
  let next := (s.rd R.MSPI_STATUS_ENTRY m.val + 1) % 32
  let nextSel := s.rd (R.MSPI_QUEUE_SEL.nth next) m.val
  let hold := e.getLsbD 30 && !stop && decide (nextSel = (e.toNat >>> 28) % 4) && decide ((s.mspi.get m).count < 32)
  let s := if 1 ≤ dst ∧ dst ≤ 4 then
      s.modMspi m fun x => { x with frame := x.frame ++ [(dst - 1, wd (rx.toNat % 2 ^ len))] }
    else s
  let s := if hold then s.modMspi m fun x => { x with held := true } else s.mspiFlush m
  if stop then s.mspiEnd m
  else if 32 ≤ (s.mspi.get m).count then (s.wr R.MSPI_IRQ_RUNAWAY m.val 1).mspiEnd m
  else s.mspiEntry m next

/-- MSPI_ENTRY_DONE (R226) with the word received. -/
def execMspiEntryDone (m : Fin 2) (rx : Word) (s : State) : Host.Outcome State Fault Refusal :=
  .next (if s.on R.MSPI_STATUS_BUSY m.val then s.mspiDone m rx else s)

/-- MSPIm.CTRL.EN becomes `en`; a port switched off ends its run (R234, log 16). -/
def State.mspiEn (s : State) (m : Fin 2) (en : Bool) : State :=
  let s := s.flag R.MSPI_CTRL_EN m.val en
  if en then s
  else
    { s.wrs m.val [(R.MSPI_STATUS_BUSY, 0), (R.MSPI_STATUS_PENDING, 0), (R.MSPI_STATUS_ENTRY, 0)] with
      mspi := s.mspi.set m.val Mspi.reset }

/-! ### SPI angle -/

/-- The result slot of POS.SPI: its word, stamp and sequence number (R229). -/
def State.spiSlot (s : State) (n : Ch) : Word × Nat × Nat :=
  let k := s.run R.POS_SPI_SLOT n.val
  let m := s.run R.POS_SPI_PORT n.val
  (wd (s.rd (R.MSPI_RES_DATA.nth k) m), s.rd (R.MSPI_STAMP_TIME.nth k) m, s.rd (R.MSPI_STAMP_SEQ.nth k) m)

/-- The sensor turn fraction in a slot word, in units of 2^−24 (R229). -/
def State.spiRaw (s : State) (n : Ch) (w : Word) : Nat :=
  let width := s.run R.POS_SPI_WIDTH n.val + 1
  (w.toNat >>> s.run R.POS_SPI_SHIFT n.val) % 2 ^ width * 2 ^ (24 - width)

/-- The electrical angle of a sensor turn fraction under the running RATIO, DIR and OFS_SPI (R213). -/
def State.spiAngle (s : State) (n : Ch) (raw : Nat) : Nat := s.elecAngle n raw (2 ^ 24) (s.run R.POS_OFS_B_OFS_SPI n.val)

/-- The sensor error bit stands in a slot word (R229). -/
def State.spiErrBit (s : State) (n : Ch) (w : Word) : Bool :=
  let i := n.val
  s.run R.POS_SPI_ERR_EN i == 1 && (w.getLsbD (s.run R.POS_SPI_ERR_BIT i) == (s.run R.POS_SPI_ERR_POL i == 1))

/-- The SPI record after one look at the slot, whose angle has moved by `turn` codes since the last fresh one (R229). An
unchanged slot with the sensor error bit counts as a sensor error only: the model's choice (log 174). -/
def SpiAng.look (p : SpiAng) (err : Bool) (seq phi stamp : Nat) (turn : Int) : SpiAng :=
  if err then { p with seq := seq, ok := false, spdOk := false, fresh := 0, errs := min (p.errs + 1) 2, stales := 0 }
  else if seq = p.seq then
    { p with fresh := 0, errs := 0, stales := min (p.stales + 1) 2, ok := p.ok && decide (p.stales = 0)
             spdOk := p.spdOk && decide (p.stales = 0) }
  else
    let d := (stamp + 2 ^ 24 - p.stamp) % 2 ^ 24
    let w := f32Div (f32Mul (f32OfInt turn) (f32OfRat 95873799242852576 1000000000000000000000))
      (f32Mul (f32OfNat d) pclkSec)
    { p with seq := seq, phi := phi, stamp := stamp, ok := true, fresh := min (p.fresh + 1) 2, errs := 0, stales := 0
             spd := w, spdOk := decide (1 ≤ p.fresh) }

/-- One look at the SPI slot: freshness, events and the two fault sources (R229). -/
def State.spiSample (s : State) (n : Ch) : State :=
  let i := n.val
  let (w, stamp, seq) := s.spiSlot n
  let err := s.spiErrBit n w
  let raw := s.spiRaw n w
  let turn := angleDiff (s.spiAngle n raw) (s.spiAngle n (s.ch n).pos.spi.phi)
  let s := s.modPos n fun p => { p with spi := p.spi.look err seq raw stamp turn }
  let p := (s.ch n).pos.spi
  let s := s.flag R.POS_STATUS_SPI_FRESH i (decide (0 < p.fresh))
  let s := if 0 < p.errs then s.wr R.POS_IRQ_SPI_ERR i 1 else s
  let s := if 0 < p.stales then s.wr R.POS_IRQ_SPI_STALE i 1 else s
  (s.condSet (srcCh i oSpiErr) (p.errs == 2)).condSet (srcCh i oSpiStale) (p.stales == 2)

/-! ### Source values at a sample -/

/-- What a source delivers (R212, R230): its angle, the sensing and the applied angle, its speed, each with validity. -/
structure SrcVal where
  ang : Nat
  angS : Nat
  angA : Nat
  ok : Bool
  spd : Word
  spdOk : Bool
deriving DecidableEq, Repr

/-- No valid angle. -/
def SrcVal.none : SrcVal where
  ang := 0
  angS := 0
  angA := 0
  ok := false
  spd := 0#32
  spdOk := false

/-- PCLK cycles from the hold instant to the middle of the periods that the duty covers (R230). -/
def State.dueSpan (s : State) (n : Ch) (q : Samp) : Nat :=
  q.due + (s.run R.PWM_CFG_LOOPDIV n.val + 1) * s.run R.PWM_PERIOD n.val / 2

/-- Latency compensation (R230): `age` is t_hold − t_m and `dly` the TDLY code. -/
def State.compensate (s : State) (n : Ch) (q : Samp) (ang : Nat) (ok : Bool) (spd : Word) (spdOk : Bool) (age : Int) (dly : Nat) :
    SrcVal :=
  if s.run R.POS_CFG_LATCOMP n.val = 1 ∧ spdOk then
    let a := angleAdd ang (turned spd (age + 40 * dly))
    ⟨ang, a, angleAdd a (turned spd (s.dueSpan n q)), ok, spd, spdOk⟩
  else ⟨ang, ang, ang, ok, spd, spdOk⟩

/-- The age of a 24-bit Canopy stamp at the hold instant. -/
def stampAge (q : Samp) (t : Nat) : Int :=
  let d : Nat := (q.tick + 2 ^ 24 - t) % 2 ^ 24
  if 2 ^ 23 ≤ d then (d : Int) - 16777216 else d

/-- Hall as a source. -/
def State.hallVal (s : State) (n : Ch) (q : Samp) : SrcVal :=
  let h := (s.ch n).pos.hall
  if h.sector = 0 then .none
  else s.compensate n q (s.hallAngle n q.stamp) true h.spd h.spdOk 0 (s.run R.POS_TDLY_TDLY_HALL n.val)

/-- ABZ as a source (R218 to R220). -/
def State.encVal (s : State) (n : Ch) (q : Samp) : SrcVal :=
  let e := (s.ch n).pos.enc
  let ang := s.elecAngle n (s.rd R.POS_ENC_CNT_COUNT n.val) (s.cpr n) (s.run R.POS_OFS_A_OFS_ENC n.val)
  let r := s.on R.POS_STATUS_ENC_REF n.val
  s.compensate n q ang r (s.dirSpd n e.spd) (r && decide (2 ≤ e.edges)) 0 (s.run R.POS_TDLY_TDLY_ENC n.val)

/-- SPI as a source (R229). -/
def State.spiVal (s : State) (n : Ch) (q : Samp) : SrcVal :=
  let p := (s.ch n).pos.spi
  s.compensate n q (s.spiAngle n p.phi) p.ok p.spd p.spdOk (stampAge q p.stamp)
    (s.run R.POS_TDLY_TDLY_SPI n.val)

/-- The resolver as a source (R222 to R224). -/
def State.resVal (s : State) (n : Ch) (q : Samp) : SrcVal :=
  match s.scxOf n with
  | none => .none
  | some m =>
    let ok := s.scxOk m
    let ang := s.elecAngle n (s.rd R.SCX_ANGLE_PHI m.val) 65536 (s.run R.POS_OFS_B_OFS_RES n.val)
    let w := s.dirSpd n (f32Mul (f32OfNat (s.run R.POS_CFG_RATIO n.val)) (s.rdw R.SCX_SPEED m.val))
    s.compensate n q ang ok w ok (stampAge q (s.rd R.SCX_STAMP_TIME m.val)) (s.run R.POS_TDLY_TDLY_RES n.val)

/-! ### Limp boundaries -/

/-- The sector that the limp commutator reads (R232), with the sources that stood at the entry to LIMP (R130): from the first of FB and FB2 that is Hall, SPI or resolver; 0 for none. -/
def State.limpRotor (s : State) (n : Ch) : Nat :=
  let (a, b) := (s.ch n).prot.limpFb
  let src := if a = 0 ∨ a = 2 ∨ a = 3 then a else b
  match src with
  | 0 => if (s.ch n).pos.hall.sector = 0 then 0 else s.sectorOf n (s.hallAngle n s.now)
  | 2 => if (s.ch n).pos.spi.ok then s.sectorOf n (s.spiAngle n (s.ch n).pos.spi.phi) else 0
  | 3 =>
    match s.scxOf n with
    | some m => if s.scxOk m then
        s.sectorOf n (s.elecAngle n (s.rd R.SCX_ANGLE_PHI m.val) 65536 (s.run R.POS_OFS_B_OFS_RES n.val)) else 0
    | none => 0
  | _ => 0

/-- The sector one position on, forward or back (R207). -/
def shiftSector (k : Nat) (back : Bool) : Nat := if back then (k + 4) % 6 + 1 else k % 6 + 1

/-- A limp period starts (R207, R209), the boundary counted as any other (R167). -/
def State.limpPeriod (s : State) (n : Ch) : State :=
  let i := n.val
  let p := (s.ch n).prot
  let dir := R.CMP_LIMP_CFG_DIR.get p.limpCfg
  let back := dir == 2 || (dir == 0 && (s.ch n).prot.limpBack)
  let s := if p.limpFb.1 = 2 ∨ (p.limpFb.2 = 2 ∧ p.limpFb.1 ≠ 0 ∧ p.limpFb.1 ≠ 3) then s.spiSample n else s
  let k := s.limpRotor n
  let s := s.putSector n k
  let e := R.CMP_LIMP_CFG_PERIOD.get p.limpCfg * 200 * 32
  let k' := if k = 0 then 0 else shiftSector k back
  let now := s.now
  let s := (s.wr R.PWM_STATUS_SECTOR i k').modCh n fun c =>
    { c with car.pos := 0, car.per := e, car.since := now, prot.limpSector := k', prot.limpOn := decide (k ≠ 0) }
  let s := ((s.incWrap R.PWM_PERIOD_CNT_COUNT i).grvEvent n 1).boundaryRelease n
  let s := if k = 0 then s.condSet (srcCh i oLimpNopos) true else s.condSet (srcCh i oLimpNopos) false
  (s.mspiLimp n).settleAll

/-- LIMP_BOUNDARY (R207). -/
def execLimpBoundary (n : Ch) (s : State) : Host.Outcome State Fault Refusal :=
  .next (s.whenCh n fun s => if s.chState n == .limp then s.limpPeriod n else s)

end Sys2Proof.Machine
end

