-- ==== Sys2Proof/Machine/Observe.lean ====
section
/-! DEFINITION. Back-EMF observer, injection, HFI estimator and model twin (R264 to R282). -/

namespace Sys2Proof.Machine

/-! ### Arithmetic -/

/-- 2π as F32. -/
def f32TwoPi : Word := 0x40C90FDB#32

/-- The vector (a, b) seen from a frame turned by `th` radians. -/
def toFrame (v : Word × Word) (th : Word) : Word × Word :=
  let c := f32Cos th
  let s := f32Sin th
  (f32Add (f32Mul v.1 c) (f32Mul v.2 s), f32Sub (f32Mul v.2 c) (f32Mul v.1 s))

/-- The vector (d, q) of a frame turned by `th` radians seen from the stator. -/
def fromFrame (v : Word × Word) (th : Word) : Word × Word :=
  let c := f32Cos th
  let s := f32Sin th
  (f32Sub (f32Mul v.1 c) (f32Mul v.2 s), f32Add (f32Mul v.1 s) (f32Mul v.2 c))

/-- The Clarke transform of three phase values; the manual names it without its scale, which R250 fixes (log 20). -/
def clarke (a b c : Word) : Word × Word :=
  (f32Div (f32Sub (f32Sub (f32Add a a) b) c) 0x40400000#32, f32Mul (f32Sub b c) f32InvSqrt3)

/-- The length of a vector. -/
def vecLen (v : Word × Word) : Word := f32Sqrt (f32Add (f32Mul v.1 v.1) (f32Mul v.2 v.2))

/-- An angle in radians brought back within one turn after a step of less than one. -/
def wrapRad (w : Word) : Word :=
  if f32Lt f32Pi w then f32Sub w f32TwoPi else if f32Lt w (f32Opp f32Pi) then f32Add w f32TwoPi else w

/-- v + g·(u − v). -/
def lpStep (g v u : Word) : Word := f32Add v (f32Mul g (f32Sub u v))

/-- v + (1 − exp(−ts/tf))·(u − v), or u itself where tf is 0 (R251, R266, R275). -/
def lpFilter (ts tf v u : Word) : Word :=
  if f32IsZero tf then u else lpStep (f32Sub f32One (f32ExpOf (f32Opp (f32Div ts tf)))) v u

/-- The sample time of S0 and S1 (R243). -/
def State.sampleTime (s : State) (n : Ch) : Word :=
  f32OfRat ((s.run R.PWM_CFG_LOOPDIV n.val + 1) * s.run R.PWM_PERIOD n.val * 25 : Nat) 10000000000

/-- A code of half degrees in radians. -/
def halfDeg (c : Nat) : Word := f32Mul (f32OfRat c 360) f32Pi

/-- A code of 10 µs in seconds. -/
def tenMicro (c : Nat) : Word := f32OfRat c 100000

/-- The speed as the loop uses it: an invalid speed counts as 0 (R249, R269, R288; log 21). -/
def okSpd (ok : Bool) (w : Word) : Word := if ok then w else 0#32

/-! ### Estimator states (R268 to R270) -/

/-- The limits of an estimator: whether it is HFI, whether its polarity is decided. -/
structure EstCfg where
  spdN : Nat
  convN : Nat
  lossN : Nat
  convErr : Word
  lossErr : Word
  emfMin : Word
  hfi : Bool
  polOk : Bool
deriving DecidableEq, Repr

/-- The limits in force (R282). -/
def State.estCfg (s : State) (n : Ch) (hfi : Bool) : EstCfg where
  spdN := s.run R.OBS_CFG_SPD_N n.val
  convN := s.run R.OBS_CONV_CONV_N n.val
  lossN := s.run R.OBS_CONV_LOSS_N n.val
  convErr := halfDeg (s.run R.OBS_ANG_CONV_ERR n.val)
  lossErr := halfDeg (s.run R.OBS_ANG_LOSS_ERR n.val)
  emfMin := s.runw R.OBS_EMF_MIN n.val
  hfi := hfi
  polOk := s.on R.OBS_STATUS_POL_KNOWN n.val || s.run R.OBS_CFG_POL_EN n.val == 0

/-- A reset event (R269): SAPLING, seeding at the next valid sample, the timer restarted. -/
def Est.restart (e : Est) (now : Nat) : Est :=
  { e with st := 0, seed := true, ups := 0, okN := 0, badN := 0, lowN := 0, halfN := 0, tmr := some now, out := false }

/-- One more consecutive update that meets a condition, up to 255. -/
def runOf (k : Nat) (b : Bool) : Nat := if b then min (k + 1) 255 else 0

/-- An update counts (R268); `mag` is |ê|. -/
def Est.count (e : Est) (c : EstCfg) (mag : Word) : Est :=
  { e with
    first := false
    ups := min (e.ups + 1) 255
    okN := runOf e.okN (f32Le (f32Abs e.eps) c.convErr)
    badN := runOf e.badN (f32Lt c.lossErr (f32Abs e.eps))
    lowN := runOf e.lowN (!c.hfi && f32Lt mag c.emfMin)
    halfN := runOf e.halfN (!c.hfi && f32Lt mag (f32Mul c.emfMin f32Half)) }

/-- An estimator enters state `k`: the consecutive counts start anew. -/
def Est.enter (e : Est) (k : Nat) : Est := { e with st := k, okN := 0, badN := 0, lowN := 0, halfN := 0 }

/-- The transition after an update (R268): it reached CONVERGED, it left CONVERGED. -/
def Est.move (e : Est) (c : EstCfg) (mag : Word) (now : Nat) : Est × Bool × Bool :=
  if e.st = 0 ∧ c.spdN ≤ e.ups ∧ (c.hfi ∨ f32Le c.emfMin mag) then (e.enter 1, false, false)
  else if e.st = 1 ∧ c.convN ≤ e.okN ∧ (!c.hfi ∨ c.polOk) then
    ({ e.enter 2 with tmr := none, out := false }, true, false)
  else if e.st = 2 ∧ (c.lossN ≤ e.badN ∨ c.lossN ≤ e.lowN) then ({ e.enter 1 with tmr := some now }, false, true)
  else if e.st = 1 ∧ c.lossN ≤ e.halfN then (e.enter 0, false, false)
  else (e, false, false)

/-- The PLL of R266 over the step `t` for the angle error `eps`. -/
def Est.pll (e : Est) (t spdTf wn eps : Word) : Est :=
  let kp := f32Add wn wn
  let ki := f32Mul wn wn
  let pi := f32Add e.pi (f32Mul (f32Mul ki t) eps)
  let w := f32Add (f32Mul kp eps) pi
  { e with
    eps := eps
    pi := pi
    wRaw := w
    th := wrapRad (f32Add e.th (f32Mul w t))
    wF := lpFilter t spdTf e.wF w }

/-- The observer record of channel `n` changed by `g`. -/
def State.modObs (s : State) (n : Ch) (g : Obs → Obs) : State := s.modCh n fun c => { c with obs := g c.obs }

/-- OBS.STATUS shows the estimators (R282). -/
def State.obsShow (s : State) (n : Ch) : State :=
  let o := (s.ch n).obs
  s.wrs n.val [(R.OBS_STATUS_OBS_STATE, o.obs.st), (R.OBS_STATUS_HFI_STATE, o.hfi.st),
    (R.OBS_STATUS_TIMED_OUT, if o.obs.out || o.hfi.out then 1 else 0)]

/-- A reset event of the observer (R269). -/
def State.obsReset (s : State) (n : Ch) : State :=
  ((s.modObs n fun o => { o with obs := o.obs.restart s.now }).wr R.OBS_IRQ_SAPLING n.val 1).obsShow n

/-- A reset event of the HFI estimator: a polarity test ends with it. -/
def State.hfiReset (s : State) (n : Ch) : State :=
  ((s.modObs n fun o => { o with hfi := o.hfi.restart s.now, inj := { o.inj with pol := 0, tries := 0, flip := false } }).wr
    R.OBS_IRQ_SAPLING n.val 1).obsShow n

/-- OBS_RESEED (R269): a reset event for both estimators that run. -/
def execObsReseed (n : Ch) (s : State) : Host.Outcome State Fault Refusal :=
  .next (s.whenCh n fun s =>
    let s := if (s.ch n).obs.obs.st = 3 then s else s.obsReset n
    if (s.ch n).obs.hfi.st = 3 then s else s.hfiReset n)

/-- Source `f` is in use, or is the new source of a hand-over, which is evaluated in every sample (R142). -/
def State.srcUsed (s : State) (n : Ch) (f : Nat) : Bool :=
  let h := (s.ch n).ho
  s.fb n == f || s.fb2 n == f ||
    ((s.on R.CH_STATUS_HO_DEFER n.val || s.on R.CH_STATUS_HO_BLEND n.val) && (h.fb == f || h.fb2 == f))

/-- The estimator is named by FB, FB2 or START (R264, R270). -/
def State.estNamed (s : State) (n : Ch) (hfi : Bool) : Bool :=
  let st := s.run R.CH_MODE_START n.val
  s.run R.CH_MODE_GANG n.val != 2 &&
  (if hfi then s.srcUsed n 5 || st == 2 else s.srcUsed n 4 || st == 1 || st == 2 || st == 5)

/-- OBS_CONV_TIMEOUT (R270) of the HFI estimator for `hfi`, else of the observer. -/
def execObsConvTimeout (n : Ch) (hfi : Bool) (s : State) : Host.Outcome State Fault Refusal :=
  .next (s.whenCh n fun s =>
    let o := (s.ch n).obs
    let e := if hfi then o.hfi else o.obs
    if e.st = 3 ∨ e.tmr = none ∨ e.out then s
    else
      let s := if hfi then s.modObs n fun o => { o with hfi.out := true } else s.modObs n fun o => { o with obs.out := true }
      let s := s.obsShow n
      if s.estNamed n hfi then (s.raiseCh n oObsNoconv 0).settleAll else s)

/-- What an update's transition leaves in the registers: IRQ_FLAG.CONVERGED or HFI_CONV and CONV_TIME, or LOST (R268). -/
def State.estEvents (s : State) (n : Ch) (hfi : Bool) (tmr : Option Nat) (conv lost : Bool) : State :=
  let i := n.val
  let s := if conv then
      (s.wr (if hfi then R.OBS_IRQ_HFI_CONV else R.OBS_IRQ_CONVERGED) i 1).wr R.OBS_CONV_TIME_MS i
        (min ((s.now - tmr.getD s.now) / 400000) 65535)
    else s
  if lost then s.wr R.OBS_IRQ_LOST i 1 else s

/-! ### The observer (R265 to R267) -/

/-- LD or LQ is 0: observer, HFI estimator and twin compute nothing (R264). -/
def State.noModel (s : State) (n : Ch) : Bool := f32IsZero (s.runw R.LOOP_LD n.val) || f32IsZero (s.runw R.LOOP_LQ n.val)

/-- The observer runs in the samples of the present configuration (R264). -/
def State.obsRuns (s : State) (n : Ch) : Bool := s.estNamed n false || s.run R.OBS_CFG_SHADOW n.val == 1

/-- The gate arbiter holds all six switches off. -/
def State.allOff (s : State) (n : Ch) : Bool :=
  s.holdoff n || (s.asks n).off == swAll || (s.pwmMode n == .off && (s.asks n).on == 0)

/-- The newest valid result of source `src` in the voltage sequence (R198). -/
def State.vresOf (s : State) (n : Ch) (src : Nat) : Option Nat :=
  ((List.range 8).reverse.find? fun k =>
    s.rd (R.ADC_VRES_VALID.nth k) n.val == 1 && s.rd (R.ADC_VRES_SRC.nth k) n.val == src).map
      fun k => s.rd (R.ADC_VRES_CODE.nth k) n.val

/-- A divider code in volts (R197). -/
def dividerV (c : Nat) : Word := f32OfRat (c * 120 : Nat) 4096

/-- The terminal voltage vector of R267: each phase voltage minus the mean of the three, while the running sequence holds all three. -/
def State.termV (s : State) (n : Ch) : Option (Word × Word) :=
  let slots := vseqCodes (s.run R.ADC_VSEQ_SLOT n.val)
  if s.run R.OBS_CFG_TERM_V n.val = 0 || !([0, 1, 2].all fun k => slots.contains k) then none
  else
    match s.vresOf n 0, s.vresOf n 1, s.vresOf n 2 with
    | some a, some b, some c =>
      let va := dividerV a
      let vb := dividerV b
      let vc := dividerV c
      let m := f32Div (f32Add (f32Add va vb) vc) 0x40400000#32
      some (clarke (f32Sub va m) (f32Sub vb m) (f32Sub vc m))
    | _, _, _ => none

/-- What a sample gives the estimators: validity under R240, currents now and before, the voltage in force between the hold instants if it is
known, and the channel's angle and speed with their validity. -/
structure ObsIn where
  valid : Bool
  i : Word × Word
  iPrev : Word × Word
  v : Option (Word × Word)
  fromTerm : Bool
  theta : Nat
  thetaOk : Bool
  omega : Word
  omegaOk : Bool
deriving DecidableEq, Repr

/-- The seed of an estimator's states (R269). -/
def Est.seeded (e : Est) (q : ObsIn) (useTerm : Bool) : Est :=
  let w := okSpd q.omegaOk q.omega
  let th := if q.thetaOk then f32OfAngle q.theta
    else if useTerm && q.fromTerm then
      match q.v with
      | some v =>
        let a := Config.atan2F32 v.2 v.1
        wrapRad (if f32IsNeg w then f32Add a (f32Mul f32Pi f32Half) else f32Sub a (f32Mul f32Pi f32Half))
      | none => 0#32
    else 0#32
  { e with th := th, pi := w, wRaw := w, wF := w }

/-- The estimator as a sample begins: the first valid one after a reset event seeds it, whatever voltage is known (R269). -/
def Est.begin (e : Est) (q : ObsIn) (useTerm : Bool) : Est :=
  if e.seed && q.valid then { e.seeded q useTerm with seed := false, first := true, ups := 0 } else e

/-- The update of R265 and R266 with the voltage `v`; the first one after seeding has g = 1 and the current difference 0. -/
def State.obsUpdate (s : State) (n : Ch) (q : ObsIn) (v : Word × Word) (e : Est) : Est :=
  let first := e.first
  let i := n.val
  let ts := s.sampleTime n
  let rs := s.runw R.OBS_RS i
  let ld := s.runw R.LOOP_LD i
  let lq := s.runw R.LOOP_LQ i
  let w := e.wF
  let vf := toFrame v e.th
  let i1 := toFrame q.i e.th
  let i0 := if first then i1 else toFrame q.iPrev e.th
  let ug := f32Add (f32Sub (f32Sub vf.1 (f32Mul rs i1.1)) (f32Div (f32Mul ld (f32Sub i1.1 i0.1)) ts)) (f32Mul (f32Mul w lq) i1.2)
  let ud := f32Sub (f32Sub (f32Sub vf.2 (f32Mul rs i1.2)) (f32Div (f32Mul ld (f32Sub i1.2 i0.2)) ts)) (f32Mul (f32Mul w lq) i1.1)
  let g := f32Sub f32One (f32ExpOf (f32Opp (f32Mul (f32Mul f32TwoPi (s.runw R.OBS_OBS_BW i)) ts)))
  let eg := if first then ug else lpStep g e.eG ug
  let ed := if first then ud else lpStep g e.eD ud
  let eps := if f32IsNeg w then Config.atan2F32 eg (f32Opp ed) else Config.atan2F32 (f32Opp eg) ed
  { e with eG := eg, eD := ed }.pll ts (tenMicro (s.run R.OBS_SPD_TF i)) (f32Mul f32TwoPi (s.runw R.OBS_PLL_BW i)) eps

/-- The observer in one sample from its start: its record after it, and whether it reached or left CONVERGED. A valid sample whose voltage is
unknown changes nothing more (log 151). -/
def State.obsStep (s : State) (n : Ch) (q : ObsIn) (e : Est) : Est × Bool × Bool :=
  if s.noModel n then (e.enter 0, false, false)
  else
    match q.valid, q.v with
    | true, some v =>
      let c := s.estCfg n false
      let e := s.obsUpdate n q v e
      let m := vecLen (e.eG, e.eD)
      (e.count c m).move c m s.now
    | true, none => (e, false, false)
    | false, _ => ({ e with th := wrapRad (f32Add e.th (f32Mul e.wRaw (s.sampleTime n))) }, false, false)

/-- A sample with all switches off and no terminal voltages is a reset event when it is the first of its run (R267); the observer starts and
stops running (R264, R269). -/
def State.obsPrepare (s : State) (n : Ch) : State :=
  let o := (s.ch n).obs
  let off := s.allOff n
  let blind := off && (s.termV n).isNone
  let s := if !s.obsRuns n then (s.modObs n fun o => { o with obs := o.obs.stopped }).obsShow n
    else if o.obs.st = 3 then s.obsReset n
    else if blind && !o.blind then s.obsReset n
    else s
  s.modObs n fun o => { o with off := off, blind := blind }

/-! ### Injection and the HFI estimator (R271 to R274) -/

/-- The half-period of the injection (R271). -/
def State.halfTime (s : State) (n : Ch) : Word := f32Mul (f32OfNat (s.run R.OBS_HALF n.val)) (s.sampleTime n)

/-- The demodulation of R272 at the end of a half: h_γ, h_δ, the quotient and, clamped, the angle error. -/
def State.demod (s : State) (n : Ch) (neg : Bool) (di d0 : Word × Word) : Word × Word × Word × Word :=
  let i := n.val
  let sg (w : Word) : Word := if neg then f32Opp w else w
  let hg := f32Mul (sg (f32Sub di.1 d0.1)) f32Half
  let hd := f32Mul (sg (f32Sub di.2 d0.2)) f32Half
  let del := f32Mul (f32Sub (f32Div f32One (s.runw R.LOOP_LD i)) (f32Div f32One (s.runw R.LOOP_LQ i))) f32Half
  let v := s.runw R.OBS_HFI_V i
  let den := f32Mul (f32Mul (f32Add v v) (s.halfTime n)) del
  (hg, hd, f32Div hd den, f32Clamp (f32Div hd den) 0xBF000000#32 0x3F000000#32)

/-- The second half of a polarity pulse has begun (R273). -/
def State.polLate (s : State) (n : Ch) (j : Inj) : Bool :=
  decide (s.now - j.polT ≥ s.run R.OBS_POL_T n.val * 200000)

/-- The injection's sign after a sample (R271). -/
def State.injNext (s : State) (n : Ch) (j : Inj) : Inj :=
  if j.cnt + 1 < s.run R.OBS_HALF n.val then { j with cnt := j.cnt + 1 } else { j with cnt := 0, neg := !j.neg }

/-- The HFI estimator as a sample begins: turned by 180° after a polarity test, or seeded (R269, R273). -/
def State.hfiBegin (s : State) (n : Ch) (q : ObsIn) (e : Est) (j : Inj) : Est :=
  if s.noModel n then e
  else (if j.flip then { e with th := wrapRad (f32Add e.th f32Pi) } else e).begin q false

/-- The demodulation at the end of a half, and the update that follows (R266, R268, R272, R273): the estimator, the injection's record with the
change over the half, CONVERGED reached and left, and the quotient before its clamp. -/
def State.hfiUpdate (s : State) (n : Ch) (q : ObsIn) (e : Est) (j : Inj) (di : Word × Word) : Est × Inj × Bool × Bool × Word :=
  let (hg, hd, r, eps) := s.demod n (!j.neg) di (if e.first then di else j.di)
  let c := s.estCfg n true
  let e := { e with eG := hg, eD := hd }.pll (s.halfTime n) (tenMicro (s.run R.OBS_SPD_TF n.val))
    (f32Mul f32TwoPi (s.runw R.OBS_PLL_BW n.val)) eps
  let late := decide (j.pol ≠ 0) && s.polLate n j
  let j := { j with
    i0 := q.i
    di := di
    gap := 0
    sum := if late then f32Add j.sum hg else j.sum
    num := if late then j.num + 1 else j.num }
  let e := e.count c 0#32
  let test := decide (e.st = 1) && decide (c.convN ≤ e.okN) && !c.polOk && decide (j.pol = 0) &&
    decide (j.tries < s.run R.OBS_POL_TRIES n.val)
  let j := if test then { j with pol := 1, polT := s.now, sum := 0#32, num := 0 } else j
  let (e, conv, lost) := e.move c 0#32 s.now
  (e, j, conv, lost, r)

/-- The HFI estimator in one sample with injection, from its start (R269, R271, R272). The voltage of a half is in force from the hold instant
after the half's first sample, so what a half has done shows one sample after it; a half that an invalid sample hides moves θ̂_h on by w_raw·T_h
(log 151). -/
def State.hfiStep (s : State) (n : Ch) (q : ObsIn) (was : Bool) (e : Est) (j : Inj) : Est × Inj × Bool × Bool × Word :=
  if s.noModel n then (e.enter 0, s.injNext n j, false, false, 0#32)
  else
    let j := { j with flip := false }
    let on := { e with th := wrapRad (f32Add e.th (f32Mul e.wRaw (s.halfTime n))) }
    if e.seed then (e, s.injNext n j, false, false, 0#32)
    else if was then (e, s.injNext n { j with begun := false, gap := 2, di := (0#32, 0#32) }, false, false, 0#32)
    else if j.cnt ≠ 0 then (e, s.injNext n j, false, false, 0#32)
    else if !q.valid then (if j.begun then on else e, s.injNext n { j with begun := true, gap := 2 }, false, false, 0#32)
    else
      let a := toFrame q.i e.th
      let b := toFrame j.i0 e.th
      let di := (f32Sub a.1 b.1, f32Sub a.2 b.2)
      if j.gap = 2 then (if j.begun then on else e, s.injNext n { j with begun := true, gap := 1, i0 := q.i }, false, false, 0#32)
      else if j.gap = 1 ∧ !e.first then (on, s.injNext n { j with gap := 0, i0 := q.i, di := di }, false, false, 0#32)
      else
        let r := s.hfiUpdate n q e j di
        (r.1, s.injNext n r.2.1, r.2.2)

/-- The voltage that injection adds to v_d in the sample (R271). -/
def State.injV (s : State) (n : Ch) (j : Inj) : Word :=
  if s.on R.OBS_STATUS_INJECTING n.val then (if j.neg then f32Opp (s.runw R.OBS_HFI_V n.val) else s.runw R.OBS_HFI_V n.val) else 0#32

/-- What a polarity pulse adds to id_in (R273). -/
def State.polId (s : State) (n : Ch) : Word :=
  match (s.ch n).obs.inj.pol with
  | 1 => s.runw R.OBS_POL_I n.val
  | 2 => f32Opp (s.runw R.OBS_POL_I n.val)
  | _ => 0#32

/-- Injection begins, its first sample with the sign +1: a reset event of the HFI estimator (R269, R271). -/
def State.injStart (s : State) (n : Ch) : State :=
  if s.on R.OBS_STATUS_INJECTING n.val then s
  else
    ((s.wr R.OBS_STATUS_INJECTING n.val 1).modObs n fun o =>
      { o with inj := { Inj.reset with neg := true, cnt := s.run R.OBS_HALF n.val } }).hfiReset n

/-- Injection ends, and the HFI estimator with it: TIMED_OUT waits for its next reset event (R270). -/
def State.injStop (s : State) (n : Ch) : State :=
  if s.on R.OBS_STATUS_INJECTING n.val then
    ((s.wr R.OBS_STATUS_INJECTING n.val 0).modObs n fun o => { o with inj := Inj.reset, hfi := o.hfi.stopped }).obsShow n
  else s

/-- The polarity is decided (R273). -/
def State.polDone (s : State) (n : Ch) (turn : Bool) : State :=
  (s.wrs n.val [(R.OBS_STATUS_POL_KNOWN, 1), (R.OBS_IRQ_POL_DONE, 1), (R.OBS_STATUS_POL_FLIPPED, if turn then 1 else 0)]).modObs n
    fun o => { o with inj := { o.inj with pol := 0, flip := turn } }

/-- q of R273 from the two averages. -/
def polQ (hp hm : Word) : Word := f32Div (f32Sub hp hm) (f32Mul (f32Add hp hm) f32Half)

/-- POLARITY_PULSE_END (R273). -/
def execPolarityPulseEnd (n : Ch) (s : State) : Host.Outcome State Fault Refusal :=
  .next (s.whenCh n fun s =>
    let j := (s.ch n).obs.inj
    let h := f32Div j.sum (f32OfNat j.num)
    if j.pol = 1 then
      s.modObs n fun o => { o with inj := { o.inj with pol := 2, polT := s.now, hPlus := h, sum := 0#32, num := 0 } }
    else if j.pol = 2 then
      let q := polQ j.hPlus h
      let lim := f32OfRat (s.run R.OBS_POL_MIN n.val) 100
      let s := s.modObs n fun o => { o with inj := { o.inj with tries := j.tries + 1, q := q } }
      if f32Le lim q then s.polDone n false
      else if f32Le q (f32Opp lim) then s.polDone n true
      else if j.tries + 1 < s.run R.OBS_POL_TRIES n.val then
        s.modObs n fun o => { o with inj := { o.inj with pol := 1, polT := s.now, sum := 0#32, num := 0 } }
      else ((s.modObs n fun o => { o with inj := { o.inj with pol := 0 } }).raiseCh n oObsPolFail 0).settleAll
    else s)

/-! ### The twin (R275 to R277) -/

/-- Prediction and filtered residuals of one evaluated sample: (id_hat, iq_hat), (rf_d, rf_q). `w` is the applied speed. -/
def State.twin (s : State) (n : Ch) (i iPrev v : Word × Word) (w : Word) (rf : Option (Word × Word)) :
    (Word × Word) × (Word × Word) :=
  let k := n.val
  let ts := s.sampleTime n
  let rs := s.runw R.OBS_RS k
  let ld := s.runw R.LOOP_LD k
  let lq := s.runw R.LOOP_LQ k
  let psi := s.runw R.LOOP_PSI k
  let idh := f32Add iPrev.1 (f32Mul (f32Div ts ld)
    (f32Add (f32Sub v.1 (f32Mul rs iPrev.1)) (f32Mul (f32Mul w lq) iPrev.2)))
  let iqh := f32Add iPrev.2 (f32Mul (f32Div ts lq)
    (f32Sub (f32Sub (f32Sub v.2 (f32Mul rs iPrev.2)) (f32Mul (f32Mul w ld) iPrev.1)) (f32Mul w psi)))
  let rd := f32Mul (f32Div ld ts) (f32Sub i.1 idh)
  let rq := f32Mul (f32Div lq ts) (f32Sub i.2 iqh)
  let tf := tenMicro (s.run R.OBS_RES_TF k)
  ((idh, iqh), match rf with | none => (rd, rq) | some f => (lpFilter ts tf f.1 rd, lpFilter ts tf f.2 rq))

/-- The observer as an angle source (R266, R268): t_m is the hold instant, the internal delay 0. -/
def State.obsVal (s : State) (n : Ch) (q : Samp) : SrcVal :=
  let e := (s.ch n).obs.obs
  let ok := decide (e.st = 1) || decide (e.st = 2)
  s.compensate n q (angleOfRad e.th) ok e.wF (ok && decide (s.run R.OBS_CFG_SPD_N n.val ≤ e.ups)) 0 0

/-- The HFI estimator as an angle source (R274). -/
def State.hfiVal (s : State) (n : Ch) (q : Samp) : SrcVal :=
  let e := (s.ch n).obs.hfi
  let ok := (decide (e.st = 1) || decide (e.st = 2)) && f32Le (f32Abs e.wF) (s.runw R.OBS_HFI_OMAX n.val)
  s.compensate n q (angleOfRad e.th) ok e.wF (ok && decide (s.run R.OBS_CFG_SPD_N n.val ≤ e.ups)) 0 0

end Sys2Proof.Machine
end

