-- ==== Sys2Proof/Machine/Setpoint.lean ====
section
/-! DEFINITION. The set-point generator, the multi-turn position counter, target writes and homing values (R283 to R290, R301, R302). -/

namespace Sys2Proof.Machine

/-- The sign of a value, 0 for zero (R236, R284). -/
def f32Sign (w : Word) : Int := if f32IsZero w then 0 else if f32Neg w then -1 else 1

/-- A value with the sign `d`, 0 for `d` = 0. -/
def f32Signed (d : Int) (w : Word) : Word := if d = 0 then 0#32 else if d < 0 then f32Opp w else w

/-- Two values are equal, −0 as +0; a NaN equals nothing. -/
def f32Same (a b : Word) : Bool := f32Le a b && f32Le b a

/-- One step of the law of R284 from output `y` and rate `a` towards `r`: the output, the rate, and dir. -/
def profile (acc dec jerk ts r y a : Word) : Word × Word × Int :=
  let stop := f32Add y (f32Div (f32Mul a (f32Abs a)) (f32Add jerk jerk))
  let dir := f32Sign (f32Sub r stop)
  let grow := decide (dir ≠ 0) && (f32IsZero y || decide (f32Sign y = dir))
  let lim := if grow then acc else dec
  let jt := f32Mul jerk ts
  let a := f32Add a (f32Clamp (f32Sub (f32Signed dir lim) a) (f32Opp jt) jt)
  let y := f32Add y (f32Mul a ts)
  if f32Le (f32Abs (f32Sub r y)) (f32Mul jt ts) && f32Le (f32Abs a) jt then (r, 0#32, dir) else (y, a, dir)

/-- What the law of R284 passes through (R255). -/
def profileMid (acc dec jerk ts r y a : Word) : List Word :=
  let q := f32Mul a (f32Abs a)
  let stop := f32Add y (f32Div q (f32Add jerk jerk))
  let dir := f32Sign (f32Sub r stop)
  let lim := if decide (dir ≠ 0) && (f32IsZero y || decide (f32Sign y = dir)) then acc else dec
  let jt := f32Mul jerk ts
  let want := f32Sub (f32Signed dir lim) a
  let a' := f32Add a (f32Clamp want (f32Opp jt) jt)
  let y' := f32Add y (f32Mul a' ts)
  [q, f32Add jerk jerk, stop, f32Sub r stop, jt, want, a', y', f32Sub r y', f32Mul jt ts]

/-- A position in 1/65,536 turns as radians. -/
def radOfPos (p : Int) : Word := f32Mul (f32OfScaled p (-15)) f32Pi

/-- Radians as 1/65,536 turns, rounded (log 16). -/
def posOfRad (w : Word) : Int :=
  let x := f32Mul w codesPerRad
  if f32IsFinite x then f32ToInt x else 0

/-- A position kept within 32 signed bits of turns. -/
def wrapPos (p : Int) : Int := (p + 2 ^ 47) % 2 ^ 48 - 2 ^ 47

/-- The set-point record of channel `n` changed by `g`. -/
def State.modSpt (s : State) (n : Ch) (g : Spt → Spt) : State := s.modCh n fun c => { c with spt := g c.spt }

/-- A turns register and its fraction take a position. -/
def State.wrPos (s : State) (n : Ch) (ft ff : Fld) (p : Int) : State :=
  s.wrs n.val [(ft, ((p / 65536) % 2 ^ 32).toNat), (ff, (p % 65536).toNat)]

/-- A position from its turns word and fraction. -/
def posOf (t f : Nat) : Int := (if 2 ^ 31 ≤ t then (t : Int) - (2 ^ 32 : Int) else (t : Int)) * 65536 + (f : Int)

/-- The multi-turn counter becomes `p` (R290). -/
def State.putMpos (s : State) (n : Ch) (p : Int) : State :=
  ((s.modSpt n fun t => { t with mpos := wrapPos p }).wrPos n R.SPT_MPOS_TURNS R.SPT_MPOS_FRAC (wrapPos p))

/-- The profile position becomes `p` (R285). -/
def State.putProf (s : State) (n : Ch) (p : Int) : State :=
  ((s.modSpt n fun t => { t with prof := wrapPos p }).wrPos n R.SPT_OPOS_TURNS R.SPT_OPOS_FRAC (wrapPos p))

/-- The counter of R290 at a sample with θ_s = `th`, valid if `ok`. -/
def State.posCount (s : State) (n : Ch) (th : Nat) (ok : Bool) : State :=
  let t := (s.ch n).spt
  if ok then
    let p := match t.prev with
      | some o => t.mpos + angleDiff th o
      | none => t.mpos / 65536 * 65536 + th
    (s.putMpos n p).modSpt n fun t => { t with prev := some th }
  else
    (s.wrs n.val [(R.SPT_STATUS_POS_VALID, 0), (R.SPT_IRQ_POS_LOST, 1)]).modSpt n fun t => { t with prev := none }

/-! ### The generator -/

/-- What the generator does in a sample: it is re-seeded (R288), it runs the committed target (R284, R285), it runs towards a speed
(homing, R301), or it ends the motion for regenerative braking (R299). -/
inductive GenMode where
  | seed | run | speed (r : Word) | regen
deriving DecidableEq, Repr

/-- The target in force as it was written, and as the generator takes it (R283). -/
def State.tgt (s : State) (n : Ch) : Word × Word :=
  let t := s.rdw R.SPT_TGT n.val
  if s.run R.CH_MODE_TARGET n.val = 3 then
    let v := s.runw R.SPT_VMAX n.val
    (t, f32Clamp t (f32Opp v) v)
  else (t, t)

/-- The seed of y, or of v for TARGET 4 (R288): `iq` is measured, with COMM = 0 that of the chopped phase, `w` the applied speed or 0. -/
def State.genSeed (s : State) (n : Ch) (iq w : Word) : Word :=
  match s.run R.CH_MODE_TARGET n.val with
  | 0 => (s.ch n).spt.app
  | 1 => s.node n 0x27
  | 2 => iq
  | _ => w

/-- The generator re-seeded (R288). -/
def State.genReseed (s : State) (n : Ch) (iq w : Word) : State :=
  let s := s.wrs n.val [(R.SPT_OUT, (s.genSeed n iq w).toNat), (R.SPT_OUT_ACC, 0)]
  if s.run R.CH_MODE_TARGET n.val = 4 then s.putProf n (s.ch n).spt.mpos else s

/-- The law of R285 in one sample: the profile position, speed, acceleration and dir. -/
def State.posProfile (s : State) (n : Ch) : Int × Word × Word × Int :=
  let i := n.val
  let t := (s.ch n).spt
  let ts := s.sampleTime n
  let acc := s.runw R.SPT_ACC i
  let dec := s.runw R.SPT_DEC i
  let jerk := s.runw R.SPT_JERK i
  let v := s.rdw R.SPT_OUT i
  let e := radOfPos (t.ptgt - t.prof)
  let dj := f32Div (f32Mul (f32Abs v) dec) jerk
  let vr := f32Signed (f32Sign e) (f32Min (s.runw R.SPT_VMAX i)
    (f32Sqrt (f32Mul (f32Add dec dec) (f32Max (f32Sub (f32Abs e) dj) 0#32))))
  let (v, a, dir) := profile acc dec jerk ts vr v (s.rdw R.SPT_OUT_ACC i)
  if f32Le (f32Abs e) (f32Mul (f32Abs v) ts) && f32Le (f32Abs v) (f32Mul dec ts) then (t.ptgt, 0#32, 0#32, dir)
  else (t.prof + posOfRad (f32Mul v ts), v, a, dir)

/-- What the law of R285 passes through in a sample (R255). -/
def State.posProfileMid (s : State) (n : Ch) : List Word :=
  let i := n.val
  let t := (s.ch n).spt
  let ts := s.sampleTime n
  let dec := s.runw R.SPT_DEC i
  let jerk := s.runw R.SPT_JERK i
  let v := s.rdw R.SPT_OUT i
  let e := radOfPos (t.ptgt - t.prof)
  let vd := f32Mul (f32Abs v) dec
  let room := f32Sub (f32Abs e) (f32Div vd jerk)
  let sq := f32Mul (f32Add dec dec) (f32Max room 0#32)
  let vr := f32Signed (f32Sign e) (f32Min (s.runw R.SPT_VMAX i) (f32Sqrt sq))
  let w := (s.posProfile n).2.1
  [vd, f32Div vd jerk, room, f32Add dec dec, sq] ++ profileMid (s.runw R.SPT_ACC i) dec jerk ts vr v (s.rdw R.SPT_OUT_ACC i) ++
    [f32Mul (f32Abs w) ts, f32Mul dec ts, f32Mul (f32Mul w ts) codesPerRad]

/-- LIMITED, REACHED and REVERSING after the generator's step (R286). -/
def State.genFlags (s : State) (n : Ch) (limited : Bool) (dir : Int) (y : Word) : State :=
  let i := n.val
  let s := if s.on R.SPT_STATUS_LIMITED i && !limited then s.wr R.SPT_IRQ_REACHED i 1 else s
  (s.flag R.SPT_STATUS_LIMITED i limited).flag R.SPT_STATUS_REVERSING i
    (decide (dir ≠ 0) && decide (f32Sign y = -dir))

/-- The output differs from the target, `want` for TARGET 0 to 3 (R286). -/
def State.genLimited (s : State) (n : Ch) (want : Word) : Bool :=
  let y := s.rdw R.SPT_OUT n.val
  if s.run R.CH_MODE_TARGET n.val = 4 then decide ((s.ch n).spt.prof ≠ (s.ch n).spt.ptgt) || !f32IsZero y else !f32Same y want

/-- The generator's step towards `r` under R284, its output compared with `want`; with `move` the profile position of TARGET 4 goes with it. -/
def State.genLaw (s : State) (n : Ch) (acc : Word) (r want : Word) (move : Bool) : State :=
  let i := n.val
  let (y, a, dir) := profile acc (s.runw R.SPT_DEC i) (s.runw R.SPT_JERK i) (s.sampleTime n) r (s.rdw R.SPT_OUT i)
    (s.rdw R.SPT_OUT_ACC i)
  let s := s.wrs i [(R.SPT_OUT, y.toNat), (R.SPT_OUT_ACC, a.toNat)]
  let s := if move && decide (s.run R.CH_MODE_TARGET i = 4) then
      s.putProf n ((s.ch n).spt.prof + posOfRad (f32Mul y (s.sampleTime n))) else s
  s.genFlags n (s.genLimited n want) dir y

/-- The step of the committed target: ALLOW_STEP under TARGET 0 to 2 (R287), else R284 or R285. -/
def State.genRun (s : State) (n : Ch) : State :=
  let i := n.val
  let tg := s.run R.CH_MODE_TARGET i
  let r := s.tgt n
  if tg = 4 then
    let (p, v, a, dir) := s.posProfile n
    let s := (s.wrs i [(R.SPT_OUT, v.toNat), (R.SPT_OUT_ACC, a.toNat)]).putProf n p
    s.genFlags n (s.genLimited n r.1) dir v
  else if s.on R.SPT_CTRL_ALLOW_STEP i && decide (tg ≤ 2) then
    (s.wrs i [(R.SPT_OUT, r.2.toNat), (R.SPT_OUT_ACC, 0)]).genFlags n false 0 r.2
  else s.genLaw n (s.runw R.SPT_ACC i) r.2 r.1 false

/-- Regenerative braking (R299): TARGET 3 and 4 run the law on speed to 0; TARGET 2 moves i_q at the rate DEC against the rotation,
and to 0 at rest. -/
def State.genRegen (s : State) (n : Ch) (w : Word) (rest : Bool) : State :=
  let i := n.val
  if 3 ≤ s.run R.CH_MODE_TARGET i then s.genLaw n (s.runw R.SPT_DEC i) 0#32 0#32 false
  else
    let goal := f32Signed (-f32Sign w) (s.runw R.SPT_REGEN_IQ i)
    let y := s.rdw R.SPT_OUT i
    let st := f32Mul (s.runw R.SPT_DEC i) (s.sampleTime n)
    let y := if rest then 0#32 else f32Add y (f32Clamp (f32Sub goal y) (f32Opp st) st)
    (s.wrs i [(R.SPT_OUT, y.toNat), (R.SPT_OUT_ACC, 0)]).genFlags n (!f32IsZero y) 0 y

/-- What the loop takes from the generator in a sample: output, rate, profile position, latched at its start (R19, R284), but for a
step taken at once (R287) and a re-seeded sample (R288, R289); and what its laws pass through (R255). -/
structure GenOut where
  y : Word
  a : Word
  p : Int
  mid : List Word
deriving DecidableEq, Repr

/-- The generator's output now. -/
def State.genOut (s : State) (n : Ch) : GenOut := ⟨s.rdw R.SPT_OUT n.val, s.rdw R.SPT_OUT_ACC n.val, (s.ch n).spt.prof, []⟩

/-- What the generator's law in mode `m` passes through (R255). -/
def State.genMid (s : State) (n : Ch) (m : GenMode) : List Word :=
  let i := n.val
  let law (acc r : Word) : List Word :=
    profileMid acc (s.runw R.SPT_DEC i) (s.runw R.SPT_JERK i) (s.sampleTime n) r (s.rdw R.SPT_OUT i) (s.rdw R.SPT_OUT_ACC i)
  match m with
  | .seed => []
  | .run =>
    if s.run R.CH_MODE_TARGET i = 4 then s.posProfileMid n
    else if s.on R.SPT_CTRL_ALLOW_STEP i && decide (s.run R.CH_MODE_TARGET i ≤ 2) then []
    else law (s.runw R.SPT_ACC i) (s.tgt n).2
  | .speed r => law (s.runw R.SPT_ACC i) r
  | .regen =>
    if 3 ≤ s.run R.CH_MODE_TARGET i then law (s.runw R.SPT_DEC i) 0#32
    else [f32Mul (s.runw R.SPT_DEC i) (s.sampleTime n), f32Sub (s.runw R.SPT_REGEN_IQ i) (s.rdw R.SPT_OUT i),
      f32Add (s.runw R.SPT_REGEN_IQ i) (s.rdw R.SPT_OUT i)]

/-- The generator in one sample. -/
def State.generator (s : State) (n : Ch) (m : GenMode) (iq w : Word) (rest : Bool) : State × GenOut :=
  let i := n.val
  let s := if m = .seed ∨ (s.ch n).spt.reseed then s.genReseed n iq w else s
  let s := s.modSpt n fun t => { t with reseed := false }
  let o := { s.genOut n with mid := s.genMid n m }
  match m with
  | .seed => (s.genFlags n (s.genLimited n (s.tgt n).1) 0 o.y, o)
  | .run =>
    let s := s.genRun n
    if s.on R.SPT_CTRL_ALLOW_STEP i && decide (s.run R.CH_MODE_TARGET i ≤ 2) then (s, s.genOut n) else (s, o)
  | .speed r => (s.genLaw n (s.runw R.SPT_ACC i) r r true, o)
  | .regen => (s.genRegen n w rest, o)

/-! ### Writes -/

/-- A target write while the HOMING job runs on the channel is discarded (R301). -/
def State.tgtHeld (s : State) (n : Ch) : Bool := s.on R.SPT_STATUS_HOMING n.val

/-- SPT.TGT written with `v` (R283, R301). -/
def State.tgtWrite (s : State) (n : Ch) (v : Word) : State :=
  if s.tgtHeld n || !f32IsFinite v then s.wr R.SPT_IRQ_TGT_REJ n.val 1 else s.wr R.SPT_TGT n.val v.toNat

/-- SPT.PTGT_FRAC written with `v`: both words enter the generator together. -/
def State.ptgtFracWrite (s : State) (n : Ch) (v : Nat) : State :=
  if s.tgtHeld n then s.wr R.SPT_IRQ_TGT_REJ n.val 1
  else
    (s.wr R.SPT_PTGT_FRAC n.val v).modSpt n fun t =>
      { t with ptgt := posOf (s.rd R.SPT_PTGT_TURNS n.val) (v % 65536) }

/-- SPT.PTGT_TURNS written with `v`. -/
def State.ptgtTurnsWrite (s : State) (n : Ch) (v : Nat) : State :=
  if s.tgtHeld n then s.wr R.SPT_IRQ_TGT_REJ n.val 1 else s.wr R.SPT_PTGT_TURNS n.val v

/-- TGT_WRITE (R283). -/
def execTgtWrite (n : Ch) (v : Word) (s : State) : Host.Outcome State Fault Refusal := .next (s.whenCh n fun s => s.tgtWrite n v)

/-- PTGT_FRAC_WRITE (R283). -/
def execPtgtFracWrite (n : Ch) (v : BitVec 16) (s : State) : Host.Outcome State Fault Refusal :=
  .next (s.whenCh n fun s => s.ptgtFracWrite n v.toNat)

/-- POS_ACK (R290). -/
def execPosAck (n : Ch) (s : State) : Host.Outcome State Fault Refusal :=
  .next (s.whenCh n fun s => s.wr R.SPT_STATUS_POS_VALID n.val 1)

end Sys2Proof.Machine
end

