-- ==== Sys2Proof/Machine/Trace.lean ====
section
/-! DEFINITION. The trace units: triggers, records, the stream (R343 to R354). -/

namespace Sys2Proof.Machine

/-- The trace record of channel `n` changed by `g`. -/
def State.modTrc (s : State) (n : Ch) (g : Trc → Trc) : State := s.modCh n fun c => { c with trc := g c.trc }

/-- P, the probes of a record (R343). -/
def State.trcP (s : State) (n : Ch) : Nat := s.rd R.TRC_CFG_NPROBE n.val + 1

/-- C, the records the buffer holds (R345). -/
def State.trcC (s : State) (n : Ch) : Nat := 16384 / (1 + s.trcP n)

/-- The node of probe `k` (R343). -/
def State.probe (s : State) (n : Ch) (k : Nat) : Nat :=
  (if k < 4 then s.rd R.TRC_PROBE0_3_NODE n.val >>> (8 * k) else s.rd R.TRC_PROBE4_7_NODE n.val >>> (8 * (k - 4))) % 256

/-- The capture job of trace unit `n` has done its work: DONE (R347). -/
def State.trcDone (s : State) (n : Ch) : State :=
  let i := n.val
  let c := s.rd R.TRC_CFG_MODE i == 0 && s.on R.TRC_TREC_VALID i
  let s := if c then s else s.wr R.TRC_FIRST i (if s.on R.TRC_STATUS_WRAPPED i then s.rd R.TRC_WPTR_WORD i else 0)
  let s := (s.trcClose n).wrs i [(R.TRC_STATUS_ACTIVE, 0), (R.TRC_STATUS_STREAMING, 0), (R.TRC_IRQ_DONE, 1)]
  match s.holder (4 + i) with
  | some k => s.jobEnd k .done 0
  | none => s

/-- The comparison of trigger source 1 (R346) with the previous value. -/
def trcMeets (cond : Nat) (signed : Bool) (level w : Word) (prev : Option Word) : Bool :=
  let above (x : Word) : Bool := if signed then decide (level.toInt < x.toInt) else f32Lt level x
  let below (x : Word) : Bool := if signed then decide (x.toInt < level.toInt) else f32Lt x level
  let atMost (x : Word) : Bool := if signed then decide (x.toInt ≤ level.toInt) else f32Le x level
  let atLeast (x : Word) : Bool := if signed then decide (level.toInt ≤ x.toInt) else f32Le level x
  match cond, prev with
  | 0, _ => above w
  | 1, _ => below w
  | 2, some p => atMost p && above w
  | 3, some p => atLeast p && below w
  | _, _ => false

/-- The trigger source has fired by this sample (R346). -/
def State.trcFires (s : State) (n : Ch) : Bool :=
  let i := n.val
  let t := (s.ch n).trc
  t.force ||
  match s.rd R.TRC_TRIG_SRC i with
  | 0 => !s.on R.TRC_STATUS_TRIGGERED i
  | 1 => trcMeets (s.rd R.TRC_TRIG_COND i) (s.on R.TRC_TRIG_FMT i) (s.rdw R.TRC_LEVEL i) (s.node n (s.rd R.TRC_TRIG_TNODE i)) t.prev
  | 6 => false
  | _ => (s.ch n).trcHit

/-- A trigger sample (R346, R347): the decimation restarts, POST begins, FIRST is found; a unit with XOUT feeds source 7 of every unit, its own
included, where it fires at the next sample. `tick` is the hold instant. -/
def State.trcTrigger (s : State) (n : Ch) (idx tick : Nat) : State :=
  let i := n.val
  let size := 1 + s.trcP n
  let w := s.rd R.TRC_WPTR_WORD i
  let pre := s.rd R.TRC_CAP_PRE i
  let single := s.rd R.TRC_CFG_MODE i == 0
  let short := single && decide (s.rd R.TRC_RECORDS i < pre)
  let first := if s.on R.TRC_STATUS_WRAPPED i then (w + s.trcC n * size - pre * size) % (s.trcC n * size)
    else w - pre * size
  let s := s.wrs i [(R.TRC_STATUS_TRIGGERED, 1), (R.TRC_IRQ_TRIG, 1), (R.TRC_TRIG_TIME, tick % 2 ^ 32)]
  let s := if short then s.wr R.TRC_STATUS_PRE_SHORT i 1 else s
  let s := if single then s.wr R.TRC_FIRST i first else s
  let s := s.modTrc n fun t => { t with restart := idx, post := if single then some (s.rd R.TRC_CAP_POST i) else none }
  if s.on R.TRC_TRIG_XOUT i then s.forCh fun m s => s.trcFire m 7 else s

/-- A record enters trace RAM (R345). -/
def State.trcRam (s : State) (n : Ch) (idx : Nat) (trig gap : Bool) (l : List Word) : State :=
  let i := n.val
  let w := s.rd R.TRC_WPTR_WORD i
  let h := wd ((if trig then 2 ^ 31 else 0) + (if gap then 2 ^ 30 else 0) + idx % 2 ^ 24)
  let s := s.setMemWords (tramAddr i w) (h :: l)
  let s := if trig then s.wrs i [(R.TRC_TREC_VALID, 1), (R.TRC_TREC_TRIG_REC, w)] else s
  let w := w + 1 + l.length
  if s.trcC n * (1 + l.length) ≤ w then
    (s.wrs i [(R.TRC_WPTR_WORD, 0), (R.TRC_STATUS_WRAPPED, 1)]).inc R.TRC_WPTR_WRAPS i
  else s.wr R.TRC_WPTR_WORD i w

/-- The bytes the stream buffer of unit `n` holds: the open packet, and packets that no port has begun to send (R351). -/
def State.streamFill (s : State) (n : Ch) : Nat :=
  let w := (s.ch n).trc.words.length
  (if w = 0 then 0 else 4 * (3 + w)) +
    (s.link.toList.flatMap fun l => (l.egress.filter fun e => e.ing == fromTrace n).map fun e => 4 * e.pkt.data.length).foldl (· + ·) 0

/-- A record enters the stream (R350, R351). -/
def State.trcStream (s : State) (n : Ch) (idx tick : Nat) (trig gap : Bool) (l : List Word) : State :=
  let gap := gap || (s.ch n).trc.sgap
  let s := if gap || trig then s.trcClose n else s
  let fresh := (s.ch n).trc.words.isEmpty
  let need := 4 * l.length + (if fresh then 12 else 0)
  if 1024 < s.streamFill n + need then
    ((s.inc R.TRC_DROP n.val).wr R.TRC_IRQ_STREAM_DROP n.val 1).modTrc n fun t => { t with sgap := true }
  else
    let s := s.modTrc n fun t =>
      if fresh then
        { t with
          sgap := false
          head := wd ((if gap then 2 ^ 31 else 0) + (if trig then 2 ^ 30 else 0) + (l.length - 1) * 2 ^ 20 + n.val * 2 ^ 18)
          first := wd idx
          tick := wd tick
          words := l
          dest := if s.on R.TRCR_DEST_EN 0 then some (s.rd R.TRCR_DEST_NODE 0) else none }
      else { t with words := t.words ++ l }
    if 61 / l.length * l.length ≤ (s.ch n).trc.words.length then s.trcClose n else s

/-- One sample is captured (R344, R345, R350). -/
def State.trcCapture (s : State) (n : Ch) (idx tick : Nat) (trig : Bool) : State :=
  let i := n.val
  let l := (List.range (s.trcP n)).map fun k => s.node n (s.probe n k)
  let gap := (s.ch n).trc.gap
  let dst := s.rd R.TRC_CFG_DST i
  let s := if dst = 1 then s else s.trcRam n idx trig gap l
  let s := if dst = 0 then s else s.trcStream n idx tick trig gap l
  (s.inc R.TRC_RECORDS i).modTrc n fun t => { t with gap := false, post := t.post.map (· - 1) }

/-- The sample stands on the decimation raster of the last restart point (R344). -/
def State.trcDue (s : State) (n : Ch) (idx : Nat) : Bool :=
  decide ((idx - (s.ch n).trc.restart) % (s.rd R.TRC_CFG_DEC n.val + 1) = 0)

/-- The capture of trace unit `n` runs on to its suspend point, the next sample boundary (R340). -/
def State.trcLeaving (s : State) (n : Ch) : Bool := (s.holder (4 + n.val)).any fun k => (s.job k).st == .suspending

/-- A sample while the job is SUSPENDING (R340, R349): a record is still written, no trigger is detected. -/
def State.traceLast (s : State) (n : Ch) (idx tick : Nat) : State :=
  let s := (s.modTrc n fun t => { t with force := false }).modCh n fun c => { c with trcHit := false }
  if s.trcDue n idx && (s.ch n).trc.post != some 0 then s.trcCapture n idx tick false else s

/-- The trace unit at the write-back of sample `idx`, held at Canopy tick `tick` (R344, R346, R347). A POST count that has run out while the job
was SUSPENDING ends it here (R337). -/
def State.traceSample (s : State) (n : Ch) (idx tick : Nat) : State :=
  let i := n.val
  if !s.on R.TRC_STATUS_ACTIVE i then (if s.trcLeaving n then s.traceLast n idx tick else s)
  else if (s.ch n).trc.post = some 0 then s.trcDone n
  else
    let trig := s.trcFires n && !(s.rd R.TRC_CFG_MODE i == 0 && s.on R.TRC_STATUS_TRIGGERED i)
    let w := s.node n (s.rd R.TRC_TRIG_TNODE i)
    let s := (s.modTrc n fun t => { t with force := false, prev := some w }).modCh n fun c => { c with trcHit := false }
    let s := if trig then s.trcTrigger n idx tick else s
    let s := if trig || s.trcDue n idx then s.trcCapture n idx tick trig else s
    if (s.ch n).trc.post = some 0 ∨ (s.ch n).trc.ending then s.trcDone n else s

/-- A sample that no record can hold (R344, R255), or an accepted commit: the next record follows a gap, and `idx` is a restart point if
there is one. -/
def State.trcGap (s : State) (n : Ch) (idx : Option Nat) : State :=
  s.modTrc n fun t => { t with gap := true, sgap := true, restart := idx.getD t.restart }

/-- FORCE (R346): ignored unless the job runs and, in single-shot mode, has not triggered. -/
def State.trcForce (s : State) (n : Ch) : State :=
  if s.on R.TRC_STATUS_ACTIVE n.val && !(s.rd R.TRC_CFG_MODE n.val == 0 && s.on R.TRC_STATUS_TRIGGERED n.val) then
    s.modTrc n fun t => { t with force := true }
  else s

/-- TRC_FORCE (R346). -/
def execTrcForce (n : Ch) (s : State) : Host.Outcome State Fault Refusal := .next (s.whenCh n fun s => s.trcForce n)

/-- END (R347): the job ends after the next sample's write-back. -/
def State.trcEnd (s : State) (n : Ch) : State :=
  if s.on R.TRC_STATUS_ACTIVE n.val then s.modTrc n fun t => { t with ending := true } else s

/-- TRC_END (R347). -/
def execTrcEnd (n : Ch) (s : State) : Host.Outcome State Fault Refusal := .next (s.whenCh n fun s => s.trcEnd n)

/-- TRACE_FLUSH_TIMEOUT (R350): the open packet of unit `n` has reached its age limit. -/
def execTraceFlushTimeout (n : Ch) (s : State) : Host.Outcome State Fault Refusal := .next (s.whenCh n fun s => s.trcClose n)

/-- A capture enters RUNNING (R348): the results of the previous capture are reset, the sample before has index `next` − 1. In HOLD and LIMP it
begins with missing samples (R344). -/
def State.trcStart (s : State) (n : Ch) (next : Nat) : State :=
  let i := n.val
  let s := s.wrs i [(R.TRC_WPTR_WRAPS, 0), (R.TRC_WPTR_WORD, 0), (R.TRC_FIRST, 0), (R.TRC_TREC_VALID, 0), (R.TRC_TREC_TRIG_REC, 0),
    (R.TRC_RECORDS, 0), (R.TRC_DROP, 0), (R.TRC_STATUS_PRE_SHORT, 0), (R.TRC_STATUS_TRIGGERED, 0), (R.TRC_STATUS_WRAPPED, 0)]
  let s := s.wrs i [(R.TRC_STATUS_ACTIVE, 1), (R.TRC_STATUS_STREAMING, if s.rd R.TRC_CFG_DST i = 0 then 0 else 1)]
  let late := s.chState n == .limp || s.chState n == .hold
  (s.modTrc n fun _ => { Trc.reset with restart := next, gap := late, sgap := late }).modCh n fun c => { c with trcHit := false }

end Sys2Proof.Machine
end

