-- ==== Sys2Proof/Machine/Slices.lean ====
section
/-! DEFINITION. The PID slices, their coefficient banks, and the writable nodes (R141, R242 to R247, R257 to R261). -/

namespace Sys2Proof.Machine

/-- The engine record of channel `n` changed by `g`. -/
def State.modEng (s : State) (n : Ch) (g : Eng → Eng) : State := s.modCh n fun c => { c with eng := g c.eng }

/-- The six slices. -/
def sliceIds : List (Fin 6) := [0, 1, 2, 3, 4, 5]

/-- Slice `k` of channel `n`. -/
def State.slice (s : State) (n : Ch) (k : Fin 6) : Slice := (s.ch n).eng.slices.get k

/-- Slice `k` becomes `x`. -/
def State.putSlice (s : State) (n : Ch) (k : Fin 6) (x : Slice) : State :=
  s.modEng n fun e => { e with slices := e.slices.set k.val x }

/-- The coefficients of a slice in one bank (R263). -/
structure Coef where
  kp : Word
  ki : Word
  kd : Word
  tf : Word
  outMin : Word
  outMax : Word
  iMin : Word
  iMax : Word
  ffsel : Nat
  donm : Bool
  div : Nat
deriving DecidableEq, Repr

/-- The coefficients of slice `k` in bank A, or B for `b`. -/
def State.coefOf (s : State) (n : Ch) (k : Fin 6) (b : Bool) : Coef :=
  let i := n.val
  let w (fa fb : Fld) : Word := s.rdw ((if b then fb else fa).nth k.val) i
  let v (fa fb : Fld) : Nat := s.rd ((if b then fb else fa).nth k.val) i
  { kp := w R.PIDA_KP R.PIDB_KP, ki := w R.PIDA_KI R.PIDB_KI, kd := w R.PIDA_KD R.PIDB_KD, tf := w R.PIDA_TF R.PIDB_TF
    outMin := w R.PIDA_OUTMIN R.PIDB_OUTMIN, outMax := w R.PIDA_OUTMAX R.PIDB_OUTMAX
    iMin := w R.PIDA_IMIN R.PIDB_IMIN, iMax := w R.PIDA_IMAX R.PIDB_IMAX
    ffsel := v R.PIDA_FFSEL R.PIDB_FFSEL, donm := v R.PIDA_DONM R.PIDB_DONM == 1, div := v R.PIDA_DIV R.PIDB_DIV }

/-- The coefficients in force for slice `k`. -/
def State.coef (s : State) (n : Ch) (k : Fin 6) : Coef := s.coefOf n k (s.slice n k).bankB

/-- P_k of R247; 1 for S0 and S1. -/
def State.slicePeriod (s : State) (n : Ch) (k : Fin 6) : Nat :=
  match k with
  | 2 => (s.coef n 2).div
  | 3 => (s.coef n 2).div * (s.coef n 3).div
  | 4 => (s.coef n 4).div
  | 5 => (s.coef n 5).div
  | _ => 1

/-- ts and a of slice `k` computed anew (R243). -/
def State.calcTs (s : State) (n : Ch) (k : Fin 6) : State :=
  let ts := f32OfRat (((s.run R.PWM_CFG_LOOPDIV n.val + 1) * s.run R.PWM_PERIOD n.val * s.slicePeriod n k * 25 : Nat) : Int) 10000000000
  let tf := (s.coef n k).tf
  s.putSlice n k { s.slice n k with ts := ts, a := if f32IsZero tf then 0#32 else f32ExpOf (f32Opp (f32Div ts tf)) }

/-! ### Bank exchange (R257 to R260) -/

/-- LOOP.STATUS.BANK_B shows the banks. -/
def State.bankShow (s : State) (n : Ch) : State :=
  s.wr R.LOOP_STATUS_BANK_B n.val (sliceIds.foldl (fun m k => m + (if (s.slice n k).bankB then 2 ^ k.val else 0)) 0)

/-- Slices that meet `p` and have not changed bank do so, ts and a computed anew (R260). -/
def State.bankToggle (s : State) (n : Ch) (p : Fin 6 → Bool) : State :=
  let l := sliceIds.filter fun k => p k && !(s.slice n k).swapped
  let s := l.foldl (fun s k => s.putSlice n k { s.slice n k with bankB := !(s.slice n k).bankB, swapped := true }) s
  (l.foldl (fun s k => s.calcTs n k) s).bankShow n

/-- The exchange completes (R258). -/
def State.swapDone (s : State) (n : Ch) : State :=
  let s := s.bankToggle n fun _ => true
  let s := sliceIds.foldl (fun s k => s.putSlice n k { s.slice n k with swapped := false }) s
  s.wrs n.val [(R.LOOP_BANK_SWAP, 0), (R.LOOP_STATUS_SWAP_PENDING, 0), (R.LOOP_IRQ_SWAP_DONE, 1)]

/-- A pending exchange at the start of sample `idx` (R258, R259): it is complete at the swap boundary, or once IMM has changed every slice. -/
def State.swapStep (s : State) (n : Ch) (idx : Nat) : State :=
  let i := n.val
  if !s.on R.LOOP_STATUS_SWAP_PENDING i then s
  else
    let imm := s.rd R.LOOP_BANK_IMM i
    let s := s.bankToggle n fun k => imm.testBit k.val
    let en := s.run R.LOOP_CFG_EN i
    let p := (([2, 3, 4, 5] : List (Fin 6)).filter fun k => en.testBit k.val).foldl (fun m k => max m (s.slicePeriod n k)) 1
    if idx % p = 0 || sliceIds.all fun k => (s.slice n k).swapped then s.swapDone n else s

/-- LOOP.BANK written with SWAP = 1 (R258): at once while the carrier is stopped. -/
def State.bankSwap (s : State) (n : Ch) : State :=
  if s.on R.LOOP_STATUS_SWAP_PENDING n.val then s
  else if s.on R.PWM_STATUS_RUNNING n.val then s.wrs n.val [(R.LOOP_BANK_SWAP, 1), (R.LOOP_STATUS_SWAP_PENDING, 1)]
  else s.swapDone n

/-- BANK_SWAP (R258): LOOP.BANK is written with SWAP = 1 and IMM = `imm`. -/
def execBankSwap (n : Ch) (imm : BitVec 6) (s : State) : Host.Outcome State Fault Refusal :=
  .next (s.whenCh n fun s => (s.wr R.LOOP_BANK_IMM n.val imm.toNat).bankSwap n)

/-! ### Discarded writes -/

/-- A write is discarded: WR_REJ, and the first one captured (R257, R262). -/
def State.wrRej (s : State) (n : Ch) (cause addr : Nat) : State :=
  let i := n.val
  let s := s.wr R.LOOP_IRQ_WR_REJ i 1
  if s.on R.LOOP_WR_ERR_VALID i then s
  else s.wrs i [(R.LOOP_WR_ERR_VALID, 1), (R.LOOP_WR_ERR_CAUSE, cause), (R.LOOP_WR_ERR_ADDR, addr)]

/-- The FFSEL codes R249 allows for a slice. -/
def ffAllowed (k sel : Nat) : Bool :=
  match k, sel with
  | _, 0 => true | _, 6 => true
  | 0, 3 => true | 0, 4 => true
  | 1, 3 => true | 1, 4 => true | 1, 5 => true
  | 2, 1 => true | 3, 2 => true
  | _, _ => false

/-- Word `j` of the nine of a slice in a bank (R263). -/
def bankFld (b : Bool) (j : Nat) : Fld :=
  match j with
  | 0 => if b then R.PIDB_KP else R.PIDA_KP
  | 1 => if b then R.PIDB_KI else R.PIDA_KI
  | 2 => if b then R.PIDB_KD else R.PIDA_KD
  | 3 => if b then R.PIDB_TF else R.PIDA_TF
  | 4 => if b then R.PIDB_OUTMIN else R.PIDA_OUTMIN
  | 5 => if b then R.PIDB_OUTMAX else R.PIDA_OUTMAX
  | 6 => if b then R.PIDB_IMIN else R.PIDA_IMIN
  | 7 => if b then R.PIDB_IMAX else R.PIDA_IMAX
  | _ => if b then R.PIDB_DIV else R.PIDA_DIV

/-- The first rule of R257 that a bank write breaks, 0 where it breaks none. -/
def State.bankCause (s : State) (n : Ch) (b : Bool) (k : Fin 6) (j : Nat) (v : Word) : Nat :=
  let i := n.val
  let partner := s.rdw ((bankFld b (if j % 2 = 0 then j + 1 else j - 1)).nth k.val) i
  if s.on R.LOOP_STATUS_SWAP_PENDING i then 5
  else if s.on R.PWM_STATUS_RUNNING i && (s.slice n k).bankB == b then 4
  else if 8 ≤ j then (if v.toNat % 128 = 0 ∨ 64 < v.toNat % 128 ∨ ffAllowed k.val (v.toNat / 512 % 8) = false then 2 else 0)
  else if !f32IsFinite v || (decide (j < 4) && f32IsNeg v) then 1
  else if 4 ≤ j ∧ (if j % 2 = 0 then f32Lt partner v else f32Lt v partner) then 3
  else 0

/-- A write of word `j` of slice `k` in a bank (R257). -/
def State.bankWrite (s : State) (n : Ch) (b : Bool) (k : Fin 6) (j : Nat) (v : Word) : State :=
  let i := n.val
  let f := (bankFld b j).nth k.val
  let c := s.bankCause n b k j v
  if c ≠ 0 then s.wrRej n c (f.addr i)
  else if j < 8 then s.wr f i v.toNat
  else
    s.wrs i [((if b then R.PIDB_FFSEL else R.PIDA_FFSEL).nth k.val, v.toNat / 512), ((if b then R.PIDB_DONM else R.PIDA_DONM).nth k.val, v.toNat / 256),
      (f, v.toNat)]

/-- BANK_WRITE (R257): word `j` of slice `k` in PIDB for `b`, else in PIDA. -/
def execBankWrite (n : Ch) (b : Bool) (k : Fin 6) (j : Fin 9) (v : Word) (s : State) : Host.Outcome State Fault Refusal :=
  .next (s.whenCh n fun s => s.bankWrite n b k j.val v)

/-! ### Writable nodes and auxiliary references (R261, R262) -/

/-- LOOP.IDREF or LOOP.VDREF written with `v`. -/
def State.auxRef (s : State) (n : Ch) (vd : Bool) (v : Word) : State :=
  let f := if vd then R.LOOP_VDREF_REF else R.LOOP_IDREF_REF
  if f32IsFinite v then s.wr f n.val v.toNat else s.wrRej n 1 (f.addr n.val)

/-- AUX_REF_WRITE (R262) of VDREF for `vd`, else of IDREF. -/
def execAuxRefWrite (n : Ch) (vd : Bool) (v : Word) (s : State) : Host.Outcome State Fault Refusal :=
  .next (s.whenCh n fun s => s.auxRef n vd v)

/-- A write of node `k` (R261, R315): the bus writes through NODE_VAL, whose address a non-finite value leaves in WR_ERR. -/
def State.nodeWrite (s : State) (n : Ch) (k : Nat) (v : Word) : State :=
  let w := decide (k = 0x31) || decide (k = 0x32) || (decide (0x3A ≤ k) && decide (k ≤ 0x3F))
  if !w then s.wrRej n 6 k
  else if !f32IsFinite v then s.wrRej n 1 (R.LOOP_NODE_VAL_VAL.addr n.val)
  else if k = 0x31 then s.wr R.LOOP_IDREF_REF n.val v.toNat
  else if k = 0x32 then s.wr R.LOOP_VDREF_REF n.val v.toNat
  else if h : k - 0x3A < 6 then s.modEng n fun e => { e with ext := e.ext.set (k - 0x3A) v }
  else s

/-- NODE_WRITE (R261): NODE_VAL is written with `v`. -/
def execNodeWrite (n : Ch) (v : Word) (s : State) : Host.Outcome State Fault Refusal :=
  .next (s.whenCh n fun s => s.nodeWrite n (s.rd R.LOOP_NODE_IDX_IDX n.val) v)

/-- LOOP_CNT_CLR (R262). -/
def execLoopCntClr (n : Ch) (s : State) : Host.Outcome State Fault Refusal :=
  .next (s.whenCh n fun s => s.wrs n.val [(R.LOOP_CNT_NONFINITE, 0), (R.LOOP_CNT_INVALID, 0), (R.LOOP_LAT_MAX, 0)])

/-! ### One run of a slice (R141, R242) -/

/-- What one run takes: reference, measurement, feed-forward, what the slice drove before (R141), and for S3 the change that DONM takes
(R245). -/
structure SliceIn where
  ref : Word
  meas : Word
  ff : Word
  last : Word
  dx : Option Word
deriving DecidableEq, Repr

/-- The signals of one run: the nodes REF to OUT and XPREV, with ran, output clamped, integrator clamped and preloaded, and the integrator and
the output before their clamps (R255). -/
structure SliceOut where
  ref : Word
  meas : Word
  e : Word
  p : Word
  i : Word
  d : Word
  ff : Word
  out : Word
  xPrev : Word
  raw : Word
  sum : Word
  outClamped : Bool
  intClamped : Bool
  preloaded : Bool
deriving DecidableEq, Repr

/-- One run of a slice with coefficients `c`; `flip` is the sign rule of S5. -/
def Slice.run (x : Slice) (c : Coef) (flip : Bool) (q : SliceIn) : Slice × SliceOut :=
  let e := if flip then f32Sub q.meas q.ref else f32Sub q.ref q.meas
  let xk := if c.donm then f32Opp q.meas else e
  let fresh := !x.active
  let p := f32Mul c.kp e
  let dx := match q.dx with | some v => if c.donm then v else f32Sub xk x.x | none => f32Sub xk x.x
  let d := if fresh then 0#32
    else f32Add (f32Mul x.a x.d) (f32Div (f32Mul (f32Mul (f32Sub f32One x.a) c.kd) dx) x.ts)
  let raw := if fresh then f32Sub (f32Sub q.last p) q.ff else f32Add x.i (f32Mul (f32Mul c.ki x.ts) e)
  let i := f32Clamp raw c.iMin c.iMax
  let sum := f32Add (f32Add (f32Add p i) d) q.ff
  let out := f32Clamp sum c.outMin c.outMax
  ({ x with i := i, d := d, x := xk, out := out, active := true },
   { ref := q.ref, meas := q.meas, e := e, p := p, i := i, d := d, ff := q.ff, out := out, xPrev := if fresh then xk else x.x, raw := raw, sum := sum
     outClamped := !f32Same out sum, intClamped := !f32Same i raw, preloaded := fresh })

/-- The nodes of slice `k` after a run, or where it did not run (R261). -/
def sliceNodes (k : Nat) (x : Slice) (runs : Nat) (o : Option SliceOut) : List (Nat × Word) :=
  let b := 0x40 + 0x10 * k
  let fl (c : Bool) (v : Nat) : Nat := if c then v else 0
  let common := [(b + 9, x.ts), (b + 0xA, x.a), (b + 0xC, wd runs)]
  match o with
  | some q =>
    [(b, q.ref), (b + 1, q.meas), (b + 2, q.e), (b + 3, q.p), (b + 4, q.i), (b + 5, q.d), (b + 6, q.ff), (b + 7, q.out), (b + 8, q.xPrev),
     (b + 0xB, wd (1 + fl q.outClamped 2 + fl q.intClamped 4 + fl q.preloaded 8 + fl x.bankB 16))] ++ common
  | none => [(b + 7, x.out), (b + 0xB, wd (fl x.bankB 16))] ++ common

end Sys2Proof.Machine
end

