-- ==== Sys2Proof/Machine/Angle.lean ====
section
/-! DEFINITION. The angle and speed a sample uses, and who drives the engine in it: fused pair, hand-over, start-up, braking
(R142 to R144, R231, R291 to R300, R455). -/

namespace Sys2Proof.Machine

/-! ### Sources -/

/-- Source `f` of R127 at a sample. -/
def State.srcVal (s : State) (n : Ch) (q : Samp) (f : Nat) : SrcVal :=
  match f with
  | 0 => s.hallVal n q | 1 => s.encVal n q | 2 => s.spiVal n q | 3 => s.resVal n q | 4 => s.obsVal n q | 5 => s.hfiVal n q
  | _ => .none

/-- The pair at a sample: its value, the weight of the second source, whether one source stands for both, and the ramps after it (R231). -/
structure Fused where
  val : SrcVal
  w : Word
  single : Bool
  rampA : Nat
  rampB : Nat
deriving DecidableEq, Repr

/-- The angle code `d` times weight `w`. -/
def scaleAngle (w : Word) (d : Int) : Int :=
  let x := f32Mul w (f32OfInt d)
  if f32IsFinite x then f32ToInt x else 0

/-- The weight of the second source: the computed one, ramped in after a source returned (R231). -/
def rampWeight (w : Word) (ra rb : Nat) : Word :=
  if rb < 16 then f32Mul w (f32OfRat rb 16)
  else if ra < 16 then f32Sub f32One (f32Mul (f32Sub f32One w) (f32OfRat ra 16))
  else w

/-- The fusion of two values (R231). The fused speed is valid where both speeds are: the model's choice (log 175). -/
def State.fuseAngles (s : State) (n : Ch) (a b : SrcVal) (ra rb : Nat) (prev : Word) : Fused :=
  if a.ok && b.ok then
    let lo := s.runw R.POS_FUSE_LO n.val
    let hi := s.runw R.POS_FUSE_HI n.val
    let w := rampWeight (f32Clamp (f32Div (f32Sub (f32Abs prev) lo) (f32Sub hi lo)) 0#32 f32One) ra rb
    { val :=
        { ang := angleAdd a.ang (scaleAngle w (angleDiff b.ang a.ang))
          angS := angleAdd a.angS (scaleAngle w (angleDiff b.angS a.angS))
          angA := angleAdd a.angA (scaleAngle w (angleDiff b.angA a.angA))
          ok := true
          spd := f32Add a.spd (f32Mul w (f32Sub b.spd a.spd))
          spdOk := a.spdOk && b.spdOk }
      w := w, single := false, rampA := min (ra + 1) 16, rampB := min (rb + 1) 16 }
  else if a.ok then ⟨a, 0#32, true, 16, 0⟩
  else if b.ok then ⟨b, f32One, true, 0, 16⟩
  else ⟨.none, 0#32, false, ra, rb⟩

/-- A pair of sources at a sample. -/
def State.pairVal (s : State) (n : Ch) (q : Samp) (fb fb2 ra rb : Nat) (prev : Word) : Fused :=
  if fb2 = 7 then ⟨s.srcVal n q fb, 0#32, false, 16, 16⟩
  else s.fuseAngles n (s.srcVal n q fb) (s.srcVal n q fb2) ra rb prev

/-- The running pair, its ramps and POS.STATUS.FUSE_SINGLE kept. -/
def State.runningPair (s : State) (n : Ch) (q : Samp) : State × Fused :=
  let p := (s.ch n).pos
  let f := s.pairVal n q (s.fb n) (s.fb2 n) p.rampA p.rampB p.wPrev
  let s := s.modPos n fun p => { p with rampA := f.rampA, rampB := f.rampB, wPrev := if f.val.spdOk then f.val.spd else p.wPrev }
  (s.flag R.POS_STATUS_FUSE_SINGLE n.val f.single, f)

/-! ### Hall edges -/

/-- The rotor sector is evaluated anew where a Hall code changes it, with the other source as it stands (R232). -/
def State.hallSector (s : State) (n : Ch) : State :=
  if s.chState n == .limp then s.putSector n (s.limpRotor n)
  else if s.fb n = 0 ∨ s.fb2 n = 0 then
    let p := (s.ch n).pos
    let q : Samp := ⟨0, 0, p.hall.stamp, s.ticks, 0, 0, 0, true⟩
    let v := (s.pairVal n q (s.fb n) (s.fb2 n) p.rampA p.rampB p.wPrev).val
    s.putSector n (if v.ok then s.sectorOf n v.ang else 0)
  else s

/-- HALL_CODE_ACCEPTED (R214 to R217, R232). -/
def execHallCodeAccepted (n : Ch) (code : BitVec 3) (s : State) : Host.Outcome State Fault Refusal :=
  .next (s.whenCh n fun s =>
    let s := s.wr R.POS_STATUS_HALL n.val code.toNat
    let k := s.hallSectorOf n code.toNat
    let was := (s.ch n).pos.hall.sector
    let s := (if k = 0 then s.hallIllegal n else s.hallEdge n k).hallSector n
    if s.fb n = 0 ∨ s.fb2 n = 0 then (s.pcEval n 3 (decide (k = 0) || hallSkip was k)).settleAll else s)

/-! ### Drive -/

/-- The angle and the speed in use in a sample. -/
structure Use where
  angS : Nat
  angA : Nat
  ok : Bool
  w : Word
  wOk : Bool
deriving DecidableEq, Repr

/-- A source value in use. -/
def SrcVal.use (v : SrcVal) : Use := ⟨v.angS, v.angA, v.ok, v.spd, v.spdOk⟩

/-- Who drives the engine in a sample: nobody (on-times 0), the committed chain, imposed references, or the stand. -/
inductive Lead where
  | idle | chain | imposed (id iq : Word) | stand
deriving DecidableEq, Repr

/-- What a sample does: the angle, who drives, how the generator runs, the preload vector of phase 8 (R297), the sector that align imposes on
six-step (R292), whether S3 stays out (R299, R301), what S2 takes as its last output after I/f (R293), and, where the angle is imposed, the
measured angle and speed, from which the generator is re-seeded and which the position counter counts (R288, R290; log 170). -/
structure Drive where
  use : Use
  lead : Lead
  gen : GenMode
  vLast : Option (Word × Word)
  sector : Option Nat
  noPos : Bool
  iqLast : Option Word
  meas : Use
deriving DecidableEq, Repr

/-- Nobody drives. -/
def Drive.rest (u : Use) : Drive := ⟨u, .idle, .seed, none, none, false, none, u⟩

/-- The committed chain drives. -/
def Drive.run (u : Use) : Drive := ⟨u, .chain, .run, none, none, false, none, u⟩

/-- Imposed references drive S0 and S1, `m` being measured. -/
def Drive.force (u : Use) (id iq : Word) (m : Use) : Drive := ⟨u, .imposed id iq, .seed, none, none, false, none, m⟩

/-! ### Hand-over (R142, R143) -/

/-- The hand-over record of channel `n` changed by `g`. -/
def State.modHo (s : State) (n : Ch) (g : Ho → Ho) : State := s.modCh n fun c => { c with ho := g c.ho }

/-- A deferral begins. -/
def State.hoBegin (s : State) (n : Ch) : State :=
  (s.wrs n.val [(R.CH_STATUS_HO_DEFER, 1), (R.CH_STATUS_HO_BLEND, 0), (R.CH_HO_STATUS_ELAPSED, 0)]).modHo n fun h =>
    { h with since := s.now, k := 0 }

/-- The samples of a blend (R282). -/
def State.blendLen (s : State) (n : Ch) : Nat :=
  let t := s.run R.OBS_BLEND_T n.val * 4000
  let p := (s.run R.PWM_CFG_LOOPDIV n.val + 1) * s.run R.PWM_PERIOD n.val
  max 1 ((t + p - 1) / max p 1)

/-- The hand-over is complete: the new sources run alone (R142). -/
def State.hoDone (s : State) (n : Ch) : State :=
  let h := (s.ch n).ho
  let s := (s.runWr R.CH_MODE_FB n.val h.fb).runWr R.CH_MODE_FB2 n.val h.fb2
  let s := (s.hoEnd n).wr R.CH_IRQ_HO_DONE n.val 1
  (s.modHo n fun h => { h with asked := false, ofs := 0, last := 0, k := 0 }).modPos n fun p => { p with rampA := 16, rampB := 16 }

/-- One sample of a hand-over with the old angle `u`: the angle in use, and whether it is complete (R142). -/
def State.hoStep (s : State) (n : Ch) (q : Samp) (u : Use) : State × Use × Bool :=
  let i := n.val
  let h := (s.ch n).ho
  if !s.on R.CH_STATUS_HO_BLEND i && !s.on R.CH_STATUS_HO_DEFER i then (s, u, false)
  else
  let v := (s.pairVal n q h.fb h.fb2 16 16 u.w).val
  let u := { u with angS := angleAdd u.angS h.ofs, angA := angleAdd u.angA h.ofs }
  let dS := angleDiff v.angS u.angS
  let dA := angleDiff v.angA u.angA
  let s := s.wr R.CH_HO_STATUS_ERROR i (min (dS.natAbs * 360 / 65536) 180)
  if s.on R.CH_STATUS_HO_BLEND i then
    let len := s.blendLen n
    let k := h.k + 1
    if len ≤ k then (s.hoDone n, v.use, true)
    else
      let w := f32OfRat k len
      let t := scaleAngle w dS
      (s.modHo n fun h => { h with k := k, last := t },
        { u with angS := angleAdd u.angS t, angA := angleAdd u.angA (scaleAngle w dA), ok := true }, false)
  else
    let s := s.wr R.CH_HO_STATUS_ELAPSED i (min ((s.now - h.since) / 400000) 0xFFF)
    let conv := (h.fb != 4 && h.fb2 != 4) || (s.ch n).obs.obs.st == 2
    if v.ok && conv && decide (dS.natAbs * 720 ≤ s.run R.CH_HO_ANGLE_MAX i * 65536) then
      ((s.wrs i [(R.CH_STATUS_HO_DEFER, 0), (R.CH_STATUS_HO_BLEND, 1)]).modHo n fun h => { h with k := 0, last := 0 }, u, false)
    else (s, u, false)

/-- HANDOVER_TIMEOUT (R143). -/
def execHandoverTimeout (n : Ch) (s : State) : Host.Outcome State Fault Refusal :=
  .next (s.whenCh n fun s =>
    let i := n.val
    if !s.on R.CH_STATUS_HO_DEFER i then s
    else
      let s := s.wr R.CH_IRQ_HO_TIMEOUT i 1
      match s.run R.CH_MODE_HO_POLICY i with
      | 0 => s.hoEnd n
      | 1 => (s.raiseCh n oHoFail 0).settleAll
      | _ => (s.wrs i [(R.CH_STATUS_HO_DEFER, 0), (R.CH_STATUS_HO_BLEND, 1)]).modHo n fun h => { h with k := 0, last := 0 })

/-! ### Start-up (R291 to R297) -/

/-- The method of a start-up phase (R291). -/
def suMethod (ph : Nat) : Nat :=
  match ph with
  | 1 => 0 | 2 => 1 | 3 => 2 | 4 => 2 | 5 => 3 | 6 => 4 | _ => 5

/-- The first phase of a method (R291). -/
def suFirst (m : Nat) : Nat :=
  match m with
  | 0 => 1 | 1 => 2 | 2 => 3 | 3 => 5 | 4 => 6 | 5 => 7 | _ => 0

/-- The start-up method fails: the channel goes to FAULT, and its source is raised (R138, R291). -/
def State.suFail (s : State) (n : Ch) : State :=
  let o := oSuFail + suMethod (s.rd R.SPT_STATUS_SU_PHASE n.val)
  let s := (s.toState n .fault bySuFail).modCh n fun c => { c with failBy := some (srcCh n.val o) }
  s.raiseCh n o 0

/-- A method begins at its first phase (R291 to R297): the Hall method with an invalid code fails at once. -/
def State.suBegin (s : State) (n : Ch) (m : Nat) : State :=
  let i := n.val
  let th := if s.on R.POS_STATUS_ANG_VALID i then f32OfAngle (s.rd R.POS_ANGLE_THETA_S i) else 0#32
  let t := (s.ch n).spt
  let neg := if s.run R.CH_MODE_TARGET i = 4 then decide (t.ptgt < t.mpos) else f32IsNeg (s.rdw R.SPT_TGT i)
  let s := (s.wr R.SPT_STATUS_SU_PHASE i (suFirst m)).modSpt n fun t =>
    { t with since := s.now, ifAng := th, ifW := 0#32, ifNeg := neg, valid := 0 }
  let s := s.modHo n fun h => { h with asked := false, ofs := 0 }
  let s := if m = 2 then s.injStart n else s
  if m = 3 ∧ (s.ch n).pos.hall.sector = 0 then s.suFail n else s

/-- The entry to STARTING with the running START method: reset events of the estimators (R269), the offset not measured (R292). -/
def State.suEnter (s : State) (n : Ch) : State :=
  let s := s.wr R.SPT_AOFS_VALID n.val 0
  let s := if (s.ch n).obs.obs.st = 3 then s else s.obsReset n
  let s := if (s.ch n).obs.hfi.st = 3 then s else s.hfiReset n
  s.suBegin n (s.run R.CH_MODE_START n.val)

/-- The imposed current `v` ramped in over SU.RAMP (R291). -/
def State.suRamp (s : State) (n : Ch) (v : Word) : Word :=
  let d := s.now - (s.ch n).spt.since
  let t := s.run R.SPT_SU_RAMP n.val * 400000
  if t ≤ d then v else f32Mul v (f32OfRat d t)

/-- An imposed angle and speed with the compensation of R230 (R291). -/
def State.imposedUse (s : State) (n : Ch) (q : Samp) (ang : Nat) (w : Word) : Use :=
  (s.compensate n q ang true w true 0 0).use

/-- σ of R293 applied. -/
def State.ifSigned (s : State) (n : Ch) (v : Word) : Word := if (s.ch n).spt.ifNeg then f32Opp v else v

/-- The frequency ramp after this sample, and whether it has reached its end speed (R293). -/
def State.ifStep (s : State) (n : Ch) : State × Bool :=
  let i := n.val
  let t := (s.ch n).spt
  let ts := s.sampleTime n
  let wend := s.runw R.SPT_IF_WEND i
  let mag := f32Min (f32Add (f32Abs t.ifW) (f32Mul (s.runw R.SPT_IF_ACC i) ts)) wend
  let w := s.ifSigned n mag
  (s.modSpt n fun t => { t with ifAng := wrapRad (f32Add t.ifAng (f32Mul w ts)), ifW := w }, f32Same mag wend)

/-- A hand-over is in its deferral or its blend (R142). -/
def State.hoOn (s : State) (n : Ch) : Bool := s.on R.CH_STATUS_HO_DEFER n.val || s.on R.CH_STATUS_HO_BLEND n.val

/-- STOP or DISARM waits for its boundary: it has ended the hand-over (R144). -/
def State.stopWaits (s : State) (n : Ch) : Bool := (s.ch n).pend.any fun p => p.1 == .stopping || p.1 == .idle

/-- The method requests the hand-over: a deferral begins unless one is under way (R291), or STOP or DISARM has ended it (R144). -/
def State.suAsk (s : State) (n : Ch) : State :=
  let s := s.modHo n fun h => { h with asked := true }
  if s.hoOn n || s.stopWaits n then s else s.hoBegin n

/-- The start ends in RUNNING (R138, R291). -/
def State.suDone (s : State) (n : Ch) : State := (s.toState n .running bySuEnd).wr R.SPT_IRQ_SU_DONE n.val 1

/-- A method whose source is the committed one ends in this sample. -/
def State.suDirect (s : State) (n : Ch) : State := (s.hoDone n).suDone n

/-- A hand-over that a start-up method asked for: the phase's drive goes on with the angle of R142, and the chain runs from its completion. -/
def State.suHand (s : State) (n : Ch) (q : Samp) (d : Drive) (iqLast : Option Word) : State × Drive :=
  let (s, u, done) := s.hoStep n q d.use
  if done then (s.suDone n, { Drive.run u with iqLast := iqLast }) else (s, { d with use := u })

/-- A sample of a phase that runs on a source of the committed pair or with the bridge off: a commit's hand-over goes on in it (R142), and the
method, which ends where `fin` says so, ends at once where its source is the committed one, or with the hand-over (R291). -/
def State.suOwn (s : State) (n : Ch) (q : Samp) (d : Drive) (fin own : Bool) : State × Drive :=
  let ho := (s.ch n).ho.asked
  let (s, u, done) := s.hoStep n q d.use
  let d := { d with use := u }
  if ho then (if done then (s.suDone n, Drive.run u) else (s, d))
  else if !fin then (s, d)
  else if own && !s.hoOn n then (s.suDirect n, Drive.run u)
  else (s.suAsk n, d)

/-- FB or FB2 of the committed pair is `f`. -/
def State.hoNames (s : State) (n : Ch) (f : Nat) : Bool := (s.ch n).ho.fb == f || (s.ch n).ho.fb2 == f

/-- Source converged under R297. -/
def State.catchOk (s : State) (n : Ch) (v : SrcVal) : Bool :=
  v.ok && v.spdOk && (!(s.fb n == 4 || s.fb2 n == 4) || (s.ch n).obs.obs.st == 2)

/-- The zero target that ends a Hall start at once (R295). -/
def State.zeroTarget (s : State) (n : Ch) : Bool :=
  let t := (s.ch n).spt
  match s.run R.CH_MODE_TARGET n.val with
  | 3 => f32IsZero (s.tgt n).2
  | 4 => t.ptgt == t.mpos
  | _ => false

/-- The vector S0 and S1 take as last applied in phase 8: the terminal vector, or (0, ω·PSI) for a sensor (R297). -/
def State.catchV (s : State) (n : Ch) (v : SrcVal) : Word × Word :=
  let emf := (0#32, f32Mul (okSpd v.spdOk v.spd) (s.runw R.LOOP_PSI n.val))
  if s.fb n == 4 || s.fb2 n == 4 then
    match s.termV n with
    | some t => toFrame t (f32OfAngle v.angS)
    | none => emf
  else emf

/-- STARTING in one sample, `p` being the running pair (R291 to R297). -/
def State.starting (s : State) (n : Ch) (q : Samp) (p : SrcVal) : State × Drive :=
  let i := n.val
  let h := (s.ch n).ho
  let ho := h.asked
  match s.rd R.SPT_STATUS_SU_PHASE i with
  | 1 =>
    let ang := s.run R.SPT_ALIGN_ANG i
    let d := { Drive.force (s.imposedUse n q ang 0#32) (s.suRamp n (s.runw R.SPT_ALIGN_I i)) 0#32 p.use with
      sector := some (1 + ang * 6 / 65536) }
    if ho then s.suHand n q d none else (s, d)
  | 2 =>
    let t := (s.ch n).spt
    let iq := s.ifSigned n (s.runw R.SPT_IF_I i)
    let d := Drive.force (s.imposedUse n q (angleOfRad t.ifAng) t.ifW) 0#32 (s.suRamp n iq) p.use
    let (s, fin) := s.ifStep n
    let s := if fin then s.suAsk n else s
    if ho then s.suHand n q d (some iq) else (s, d)
  | 3 =>
    let v := s.hfiVal n q
    let d := Drive.force { v.use with ok := true } 0#32 0#32 v.use
    if ho then s.suHand n q d none
    else if (s.ch n).obs.hfi.st = 2 ∧ (s.on R.OBS_STATUS_POL_KNOWN i ∨ s.run R.OBS_CFG_POL_EN i = 0) then
      if h.fb = 5 ∧ h.fb2 = 7 then (s.suDirect n, Drive.run v.use)
      else if s.hoNames n 5 then (s.suAsk n, d)
      else (s.wr R.SPT_STATUS_SU_PHASE i 4, d)
    else (s, d)
  | 4 =>
    let v := s.hfiVal n q
    let d := Drive.run v.use
    let s := if !ho && f32Le (s.runw R.SPT_HFI_WHO i) (f32Abs v.spd) then s.suAsk n else s
    if ho then s.suHand n q d none else (s, d)
  | 5 =>
    let v := if s.fb n == 0 || s.fb2 n == 0 then s.hallVal n q else p
    let fin := (s.ch n).pos.hall.spdOk || (decide ((s.ch n).spt.valid = 0) && s.zeroTarget n)
    (s.modSpt n fun t => { t with valid := 1 }).suOwn n q (Drive.run v.use) fin (h.fb2 == 7)
  | 6 =>
    let fresh := !(s.fb n == 2 || s.fb2 n == 2) || decide (0 < (s.ch n).pos.spi.fresh)
    let k := if p.ok && p.spdOk && fresh then (s.ch n).spt.valid + 1 else 0
    let s := s.modSpt n fun t => { t with valid := min k 2 }
    s.suOwn n q (Drive.rest p.use) (decide (2 ≤ k)) true
  | 7 =>
    let (s, u, _) := s.hoStep n q p.use
    if s.catchOk n p && f32Le (s.runw R.SPT_CATCH_WMIN i) (f32Abs p.spd) then
      ((s.wr R.SPT_STATUS_SU_PHASE i 8).modSpt n fun t => { t with valid := 0 }, Drive.rest u)
    else (s, Drive.rest u)
  | _ =>
    let first := decide ((s.ch n).spt.valid = 0)
    let d := Drive.force p.use 0#32 0#32 p.use
    (s.modSpt n fun t => { t with valid := 1 }).suOwn n q (if first then { d with vLast := some (s.catchV n p) } else d) (!first) true

/-- STARTUP_TIMEOUT (R291): the start timer reaches SU.TMAX. -/
def execStartupTimeout (n : Ch) (s : State) : Host.Outcome State Fault Refusal :=
  .next (s.whenCh n fun s => if s.chState n == .starting then (s.suFail n).settleAll else s)

/-- The encoder count nearest to the electrical angle `ang` (R213, R292; log 16). -/
def State.encCountFor (s : State) (n : Ch) (ang : Nat) : Nat :=
  let i := n.val
  let ofs := s.run R.POS_OFS_A_OFS_ENC i
  let a := if s.run R.POS_CFG_DIR i = 1 then (ofs + 65536 - ang) % 65536 else (ang + 65536 - ofs) % 65536
  let den := 65536 * max (s.run R.POS_CFG_RATIO i) 1
  (2 * a * s.cpr n + den) / (2 * den) % max (s.cpr n) 1

/-- ALIGN_END (R292): a source of the committed pair gets its reference or its offset, and the hand-over is requested, unless the source
angle is invalid. -/
def execAlignEnd (n : Ch) (s : State) : Host.Outcome State Fault Refusal :=
  .next (s.whenCh n fun s =>
    let i := n.val
    if s.chState n != .starting || s.rd R.SPT_STATUS_SU_PHASE i != 1 || (s.ch n).ho.asked then s
    else
      let ang := s.run R.SPT_ALIGN_ANG i
      let q : Samp := ⟨0, 0, s.now, s.ticks, 0, 0, 0, true⟩
      let s := if s.hoNames n 1 then s.encRef n (s.encCountFor n ang) else s
      let ofs (raw : Nat) : State := s.wrs i [(R.SPT_AOFS_VALID, 1), (R.SPT_AOFS_ALIGN_OFS, (ang + 65536 - raw) % 65536)]
      let s :=
        if s.hoNames n 2 then ofs (s.elecAngle n (s.spiRaw n (s.spiSlot n).1) (2 ^ 24) 0)
        else if s.hoNames n 3 then
          match s.scxOf n with
          | some m => ofs (s.elecAngle n (s.rd R.SCX_ANGLE_PHI m.val) 65536 0)
          | none => s
        else s
      let v := (s.pairVal n q (s.ch n).ho.fb (s.ch n).ho.fb2 16 16 0#32).val
      if v.ok then s.suAsk n else (s.suFail n).settleAll)

/-- CATCH_OBSERVE_TIMEOUT (R297): the fallback method begins, or the start fails; the fallback without a method, code 6, ends the start in
RUNNING (log 147). -/
def execCatchObserveTimeout (n : Ch) (s : State) : Host.Outcome State Fault Refusal :=
  .next (s.whenCh n fun s =>
    let i := n.val
    if s.chState n != .starting || s.rd R.SPT_STATUS_SU_PHASE i != 7 then s
    else
      let slow := s.on R.POS_STATUS_SPD_VALID i && f32Lt (f32Abs (s.rdw R.POS_SPEED i)) (s.runw R.SPT_CATCH_WMIN i)
      let e := (s.ch n).obs.obs
      let weak := (s.fb n == 4 || s.fb2 n == 4) && decide (e.st ≠ 2) && f32Lt (vecLen (e.eG, e.eD)) (s.runw R.OBS_EMF_MIN i)
      let m := s.run R.SPT_CATCH_FALLBACK i
      if slow || weak then
        let s := s.wr R.SPT_IRQ_CATCH_FALLBACK i 1
        (if m = 6 then s.suDone n else s.suBegin n m).settle n
      else (s.suFail n).settleAll)

/-! ### Braking (R298, R299) -/

/-- The first braking phase of the running mode (R298). -/
def State.brkFirst (s : State) (n : Ch) : Nat :=
  match s.run R.CH_MODE_BRAKE n.val with
  | 0 => 1 | 1 => 2 | 2 => 4 | _ => 5

/-- Braking begins (R298). -/
def State.brkBegin (s : State) (n : Ch) : State :=
  (s.wr R.SPT_STATUS_BRK_PHASE n.val (s.brkFirst n)).modSpt n fun t => { t with since := s.now, rest := 0, brkAng := none }

/-- The rest count of R298 after this sample. -/
def State.restStep (s : State) (n : Ch) (u : Use) : State :=
  let slow := u.wOk && f32Le (f32Abs u.w) (s.runw R.SPT_STOP_W n.val)
  s.modSpt n fun t => { t with rest := if slow || !u.ok then min (t.rest + 1) 255 else 0 }

/-- At rest under R298. -/
def State.atRest (s : State) (n : Ch) : Bool := decide (s.run R.SPT_STOP_N n.val ≤ (s.ch n).spt.rest)

/-- A stand member: the references come from the leader (R455). -/
def State.member (s : State) (n : Ch) : Bool := s.run R.CH_MODE_GANG n.val == 2

/-- Braking in one sample with the angle `u` in use (R298, R299): a member follows its references under BRAKE 2 and 3 (R459). -/
def State.brakingStep (s : State) (n : Ch) (u : Use) : State × Drive :=
  let i := n.val
  let s := if s.rd R.SPT_STATUS_BRK_PHASE i = 0 then s.brkBegin n else s
  let s := s.restStep n u
  match s.rd R.SPT_STATUS_BRK_PHASE i with
  | 2 =>
    if u.wOk && f32Lt (s.runw R.SPT_ASC_WMAX i) (f32Abs u.w) then (s, Drive.rest u)
    else (s.wr R.SPT_STATUS_BRK_PHASE i 3, Drive.rest u)
  | 4 =>
    if s.member n then (s, { Drive.rest u with lead := .stand })
    else
      let a := (s.ch n).spt.brkAng.getD u.angS
      (s.modSpt n fun t => { t with brkAng := some a }, Drive.force ⟨a, a, true, 0#32, true⟩ (s.runw R.SPT_DCI_I i) 0#32 u)
  | 5 =>
    if s.member n then (s, { Drive.rest u with lead := .stand })
    else (s, { Drive.run u with gen := .regen, noPos := true })
  | _ => (s, Drive.rest u)

/-- The stop condition of the mode is met after the sample (R298): the channel goes to ARMED at the next boundary. -/
def State.stopCheck (s : State) (n : Ch) : State :=
  let i := n.val
  if s.chState n != .stopping || (s.ch n).pend.isSome then s
  else
    match s.rd R.SPT_STATUS_BRK_PHASE i with
    | 1 => if s.atRest n then s.ask n .armed byStopCond else s
    | 2 => if s.atRest n then s.ask n .armed byStopCond else s
    | 3 => if s.atRest n then s.ask n .armed byStopCond else s
    | 5 => if s.atRest n && f32IsZero (s.rdw R.SPT_OUT i) && !s.member n then s.ask n .armed byStopCond else s
    | _ => s

/-- STOP_TIMEOUT (R298). -/
def execStopTimeout (n : Ch) (s : State) : Host.Outcome State Fault Refusal :=
  .next (s.whenCh n fun s =>
    if s.chState n == .stopping then (s.wr R.SPT_IRQ_STOP_TIMEOUT n.val 1).ask n .armed byStopCond else s)

/-- DC_INJECTION_END (R298). -/
def execDcInjectionEnd (n : Ch) (s : State) : Host.Outcome State Fault Refusal :=
  .next (s.whenCh n fun s =>
    if s.chState n == .stopping && s.rd R.SPT_STATUS_BRK_PHASE n.val == 4 then s.ask n .armed byStopCond else s)

/-! ### The sample's drive -/

/-- The angle a member takes from the reference in use (R455): fine units of Canopy time against the hold instant. -/
def State.memberUse (s : State) (n : Ch) (q : Samp) : Use :=
  let g := (s.ch n).gang
  let ok := !(s.fr (srcCh n.val oStandRefLoss)).cond
  match g.use with
  | none => ⟨0, 0, false, 0#32, false⟩
  | some r =>
    let d : Int := ((g.tk + 2 ^ 37 - r.tRef) % 2 ^ 37 : Nat)
    let a := angleAdd (angleAdd r.theta (turned r.omega (d / 32))) (-(s.run R.GANG_SET_ANG n.val : Int))
    ⟨a, angleAdd a (turned r.omega (s.dueSpan n q)), ok, r.omega, ok⟩

/-- The generator while the HOMING job is on the channel (R301, R302, R340). -/
def State.homingMode (s : State) (n : Ch) : GenMode :=
  let c := s.ch n
  .speed (if c.homeRun && !c.spt.homeCap then s.rdw R.SPT_HOME_W n.val else 0#32)

/-- What this sample does, by the state of the channel; `p` is the running pair. -/
def State.drive (s : State) (n : Ch) (q : Samp) (p : SrcVal) : State × Drive :=
  let i := n.val
  if s.member n then
    let u := s.memberUse n q
    if s.chState n == .running then (s, { Drive.rest u with lead := .stand })
    else if s.chState n == .stopping then s.brakingStep n u
    else (s, Drive.rest u)
  else
    match s.chState n with
    | .starting => s.starting n q p
    | .running =>
      let (s, u, _) := s.hoStep n q p.use
      if s.on R.SPT_STATUS_HOMING i then
        (s.restStep n u, { Drive.run u with gen := s.homingMode n, noPos := true })
      else (s, Drive.run u)
    | .stopping =>
      let (s, u, _) := s.hoStep n q p.use
      s.brakingStep n u
    | _ =>
      let (s, u, _) := s.hoStep n q p.use
      if s.braking n then s.brakingStep n u
      else (s.wr R.SPT_STATUS_BRK_PHASE i 0, Drive.rest u)

end Sys2Proof.Machine
end

