-- ==== Sys2Proof/Machine/Channel.lean ====
section
/-! DEFINITION. Channel commands, the commit checks and the boundary they wait for (R127 to R140). -/

namespace Sys2Proof.Machine

/-! ### The staged configuration -/

/-- The words of a channel page that hold RWC fields, by address in region 0x00. -/
def pageRwc (p : Nat) : List Nat :=
  ((pageFields p).filter (·.acc == .rwc)).flatMap fun f => (List.range f.cnt).map fun k => p * 256 + f.off + f.stride * k

/-- The words of channel `n` that hold RWC fields (R91). -/
def rwcWords (n : Ch) : List Nat := (List.range 16).flatMap fun k => (pageRwc (0x40 + 0x10 * n.val + k)).dedup

/-- The RWC bits of the word at `a`. -/
def rwcMask (a : Nat) : Word :=
  ((wordFields a).filter (·.acc == .rwc)).foldl (fun m f => m ||| f.mask) 0#32

/-- A snapshot: the staged words at one instant (R14). -/
def State.snapshot (s : State) (n : Ch) : List (Nat × Word) := (rwcWords n).map fun a => (a, s.word a)

/-- A field's value in a snapshot. -/
def sget (q : List (Nat × Word)) (f : Fld) (i : Nat) : Nat := f.get ((q.lookup (f.addr i)).getD 0#32)

/-- A 32-bit field's word in a snapshot. -/
def sgetw (q : List (Nat × Word)) (f : Fld) (i : Nat) : Word := wd (sget q f i)

/-! ### Compatibility (R128) -/

/-- The staged mode as R128 tests it. -/
structure ModeQ where
  comm : Nat
  sense : Nat
  fb : Nat
  fb2 : Nat
  target : Nat
  start : Nat
  brake : Nat
  fw : Nat
  mtpa : Nat
  gang : Nat
  limp : Nat
deriving DecidableEq, Repr

/-- The mode in a snapshot (R127). -/
def modeOf (q : List (Nat × Word)) (i : Nat) : ModeQ where
  comm := sget q R.CH_MODE_COMM i
  sense := sget q R.CH_MODE_SENSE i
  fb := sget q R.CH_MODE_FB i
  fb2 := sget q R.CH_MODE_FB2 i
  target := sget q R.CH_MODE_TARGET i
  start := sget q R.CH_MODE_START i
  brake := sget q R.CH_MODE_BRAKE i
  fw := sget q R.CH_MODE_FW i
  mtpa := sget q R.CH_MODE_MTPA i
  gang := sget q R.CH_MODE_GANG i
  limp := sget q R.CH_MODE_LIMP i

/-- The start-up compatibility table of R128. -/
def startOk (start fb : Nat) : Bool :=
  match start, fb with
  | 0, 0 => true | 0, 1 => true | 0, 2 => true | 0, 3 => true
  | 1, 4 => true
  | 2, 4 => true | 2, 5 => true
  | 3, 0 => true
  | 4, 2 => true | 4, 3 => true
  | 5, 0 => true | 5, 2 => true | 5, 3 => true | 5, 4 => true
  | 6, 0 => true | 6, 2 => true | 6, 3 => true
  | _, _ => false

/-- Either source of the pair meets `p`. -/
def ModeQ.either (m : ModeQ) (p : Nat → Bool) : Bool := p m.fb || (m.fb2 != 7 && p m.fb2)

/-- Source `fb` is not assigned to channel `n`: an SPI sensor or a resolver (R224, R228). -/
def State.notAssigned (s : State) (q : List (Nat × Word)) (n : Ch) (fb : Nat) : Bool :=
  if fb = 2 then
    let k := sget q R.POS_SPI_SLOT n.val
    !(s.rd R.MSPI_ASSIGN_CH (sget q R.POS_SPI_PORT n.val)).testBit (4 * k + n.val)
  else if fb = 3 then !(s.rd R.SCX_ASSIGN_CH 0).testBit n.val && !(s.rd R.SCX_ASSIGN_CH 1).testBit n.val
  else false

/-- The slices the committed chain requires (R246), as a mask. -/
def chainMask (m : ModeQ) : Nat :=
  let base :=
    if m.gang = 2 then 0b000011
    else
      let cur := if m.comm = 0 then 0b000010 else 0b000011
      match m.target with
      | 2 => cur | 3 => cur ||| 0b000100 | 4 => cur ||| 0b001100 | _ => 0
  if m.fw = 1 ∧ m.gang ≠ 2 then base ||| 0b010000 else base

/-- Entry `j` of the staged leader description (R467). -/
def mbrQ (q : List (Nat × Word)) (i : Nat) (f : Fld) (j : Nat) : Nat := sget q (f.nth j) i

/-- The node IDs, other than `me`, that the enabled entries name, without repeats. -/
def mbrNodes (q : List (Nat × Word)) (i me : Nat) : List Nat :=
  (((List.range 16).tail.filter fun j => mbrQ q i R.GANG_MBR_EN j = 1).map fun j => mbrQ q i R.GANG_MBR_NODE j).filter (· ≠ me)
    |>.dedup

/-- The stand identity another channel holds: ID, leader node, leader channel, and whether it leads. -/
def State.standOf (s : State) (c : Ch) : Option (Nat × Nat × Nat × Bool) :=
  let i := c.val
  if !s.chOn c then none
  else
    match s.run R.CH_MODE_GANG i with
    | 1 => some (s.run R.GANG_CFG_STAND_ID i, s.rd R.FAB_NODE_ID_ID 0, i, true)
    | 2 => some (s.run R.GANG_CFG_STAND_ID i, s.run R.GANG_CFG_LEADER i, s.run R.GANG_CFG_LCH i, false)
    | _ => none

/-- GANG_STAND of R454. -/
def State.gangStand (s : State) (q : List (Nat × Word)) (n : Ch) (m : ModeQ) : Bool :=
  let i := n.val
  let me := s.rd R.FAB_NODE_ID_ID 0
  let id := sget q R.GANG_CFG_STAND_ID i
  let lead := m.gang == 1
  let ldr := if lead then (me, i) else (sget q R.GANG_CFG_LEADER i, sget q R.GANG_CFG_LCH i)
  let ent (j : Nat) : Nat × Nat := if j = 0 then (me, i) else (mbrQ q i R.GANG_MBR_NODE j, mbrQ q i R.GANG_MBR_CH j)
  let on := (List.range 16).filter fun j => mbrQ q i R.GANG_MBR_EN j = 1
  let armedOn := decide (3 ≤ (s.chState n).code)
  let gangChanged := (pageRwc (0x4F + 0x10 * i)).any fun a =>
    ((q.lookup a).getD 0#32 ^^^ s.word (0x10000 + a)) &&& rwcMask a != 0
  (decide (m.gang ≠ 0) &&
    (sget q R.PWM_CFG_SYNC i == 0 || sget q R.PWM_CFG_LOOPDIV i != 0 || !s.on R.FAB_NODE_ID_VALID 0 || id == 0 ||
      (chans.filter (· ≠ n)).any (fun c => match s.standOf c with
        | some (k, a, b, l) => k == id && (!(a == ldr.1 && b == ldr.2) || (l && lead))
        | none => false) ||
      (if lead then
        mbrQ q i R.GANG_MBR_EN 0 == 0 || on.any (fun j => mbrQ q i R.GANG_MBR_SHARE j == 0) ||
          (on.filter (· ≠ 0)).any (fun j => ent j == (me, i)) || !decide ((on.map ent).Nodup) ||
          decide (3 < (mbrNodes q i me).length) || on.any (fun j => (ent j).1 == me && !s.chOk (ent j).2)
      else sget q R.GANG_CFG_INDEX i == 0 || sget q R.GANG_CFG_LEADER i == 0x3FF || ldr == (me, i)))) ||
  (armedOn && gangChanged)

/-! ### Field ranges (FIELD_RANGE) -/

/-- What a field must meet: a code range, or an F32 that is finite and positive, not negative, or within bounds. -/
inductive Rng where
  | nat (lo hi : Nat)
  | fpos
  | fnn
  | frange (lo hi : Word)
deriving DecidableEq, Repr

/-- The value meets its range. -/
def Rng.ok (r : Rng) (v : Nat) : Bool :=
  match r with
  | .nat lo hi => decide (lo ≤ v) && decide (v ≤ hi)
  | .fpos => f32IsFinite (wd v) && f32Lt 0#32 (wd v)
  | .fnn => f32IsFinite (wd v) && f32Le 0#32 (wd v)
  | .frange lo hi => f32IsFinite (wd v) && f32Le lo (wd v) && f32Le (wd v) hi

/-- A field held to a code range. -/
def rNat (f : Fld) (lo hi : Nat) : Fld × Rng := (f, .nat lo hi)

/-- A field held to a positive finite F32. -/
def rPos (f : Fld) : Fld × Rng := (f, .fpos)

/-- A field held to a finite F32 that is not negative. -/
def rNn (f : Fld) : Fld × Rng := (f, .fnn)

/-- A field held to an F32 range. -/
def rBetween (f : Fld) (lo hi : Word) : Fld × Rng := (f, .frange lo hi)

/-- Fields of the mode that a stand member neither checks nor uses (R127). -/
def modeRanges : List (Fld × Rng) :=
  [rNat R.CH_MODE_FB2 0 7, rNat R.CH_MODE_FB 0 5, rNat R.CH_MODE_TARGET 0 4, rNat R.CH_MODE_START 0 6]

/-- The ranges that the owning chapters give (CH, PWM, GD, BRK, ADC, CMP, POS). -/
def rangesA : List (Fld × Rng) :=
  [rNat R.CH_MODE_SENSE 0 2, rNat R.CH_MODE_GANG 0 2, rNat R.CH_MODE_HO_POLICY 0 2, rNat R.CH_HO_TIMEOUT 1 4095,
   rNat R.CH_HO_ANGLE_MAX 1 255, rNat R.PWM_PERIOD 2000 200000, rNat R.PWM_DTIME_FALL 3 1023,
   rNat R.PWM_DTIME_RISE 3 1023, rNat R.PWM_SS_TWIN 1 255, rNat R.GD_BST_REFRESH_N 1 255, rNat R.GD_BST_UV 0 14,
   rNat R.GD_PRECHG_WAIT 1 255, rNat R.GD_PRECHG_PULSE 1 255, rNat R.GD_PRECHG_COUNT 1 255,
   rNat R.GD_SHORT_WIN 1 255, rNat R.ADC_CFG_GAIN_A 0 4, rNat R.ADC_CFG_GAIN_B 0 4, rNat R.ADC_CFG_GAIN_C 0 4,
   rPos R.ADC_ISCALE_A_SCALE, rPos R.ADC_ISCALE_B_SCALE, rPos R.ADC_ISCALE_C_SCALE] ++
  [rNat R.CMP_WIN_CFG_MODE 0 2, rNat R.CMP_LIMP_CFG_DMAX 1 100, rNat R.CMP_LIMP_CFG_DIR 0 2,
   rNat R.CMP_LIMP_CFG_PERIOD 10 1000, rNat R.POS_CFG_RATIO 1 31, rNat R.POS_ENC_IDX_MODE 0 2,
   rNat R.POS_ENC_LINES 1 65535, rNat R.POS_SPI_WIDTH 7 23, rNat R.POS_SPD_TMAX 1 65535, rNn R.POS_FUSE_LO,
   rNn R.POS_FUSE_HI]

/-- The ranges that the owning chapters give (LOOP, OBS, SPT, GANG). -/
def rangesB : List (Fld × Rng) :=
  [rNat R.LOOP_CFG_NOCUR_N 1 15, rPos R.LOOP_ILIM, rBetween R.LOOP_MMAX 0x3DCCCCCD#32 0x3F800000#32,
   rBetween R.LOOP_VBUS_NOM 0x3F800000#32 0x42C80000#32, rBetween R.LOOP_VBUS_TF 0#32 0x3F800000#32,
   rNn R.LOOP_LD, rNn R.LOOP_LQ, rNn R.LOOP_PSI, rNn R.LOOP_JKT,
   rBetween R.LOOP_FW_MREF 0x3DCCCCCD#32 0x3F800000#32, rPos R.LOOP_IBAND,
   rBetween R.LOOP_S5_REF 0x3F800000#32 0x42C80000#32, rNat R.OBS_CFG_SPD_N 1 255, rNat R.OBS_CONV_TIMEOUT 1 4095,
   rNat R.OBS_CONV_CONV_N 1 255, rNat R.OBS_CONV_LOSS_N 1 255, rNat R.OBS_BLEND_T 1 65535,
   rNat R.OBS_ANG_LOSS_ERR 1 255, rNat R.OBS_ANG_CONV_ERR 1 255, rNat R.OBS_ANG_XANG_MAX 1 255,
   rBetween R.OBS_OBS_BW 0x41200000#32 0x469C4000#32, rBetween R.OBS_PLL_BW 0x3F800000#32 0x44FA0000#32,
   rPos R.OBS_EMF_MIN, rNn R.OBS_RS, rPos R.OBS_RES_MAX, rNn R.OBS_SPD_ABS,
   rBetween R.OBS_SPD_REL 0#32 0x3F800000#32] ++
  [rNn R.OBS_VBX_MAX, rNat R.OBS_POL_TRIES 1 15, rNat R.OBS_POL_MIN 1 100, rNat R.OBS_POL_T 1 255,
   rNat R.OBS_HALF 1 16, rPos R.OBS_HFI_V, rPos R.OBS_POL_I, rPos R.OBS_HFI_OMAX, rPos R.SPT_ACC,
   rPos R.SPT_DEC, rPos R.SPT_JERK, rPos R.SPT_VMAX, rNat R.SPT_SU_TMAX 1 4095, rNat R.SPT_SU_ALIGN_T 1 255,
   rPos R.SPT_ALIGN_I, rPos R.SPT_IF_I, rPos R.SPT_IF_ACC, rPos R.SPT_IF_WEND, rPos R.SPT_HFI_WHO,
   rNat R.SPT_CATCH_T 1 255, rNn R.SPT_CATCH_WMIN, rPos R.SPT_STOP_W, rNat R.SPT_STOP_TMAX 1 4095,
   rNat R.SPT_STOP_N 1 255, rPos R.SPT_DCI_I, rNat R.SPT_DCI_T 1 65535, rPos R.SPT_ASC_WMAX,
   rNn R.SPT_REGEN_IQ]

/-- Nibble k of a word. -/
def nib (w k : Nat) : Nat := (w >>> (4 * k)) % 16

/-- The slots in use of a voltage sequence: up to the first 0xF (R197). -/
def vseqLen (w : Nat) : Nat := ((List.range 8).find? fun k => nib w k = 0xF).getD 8

/-- The source of slot k is one of R197. -/
def vseqOk (w : Nat) : Bool := (List.range 8).all fun k => decide (nib w k ≤ 6) || nib w k == 0xF

/-- A plausibility byte has LIMIT at least 1 (R282). -/
def pcByteOk (w k : Nat) : Bool := decide (8 ≤ (w >>> (8 * k)) % 256)

/-- A field with the condition it must meet. -/
def chk (f : Fld) (p : Prop) [Decidable p] : Fld × Bool := (f, decide p)

/-- The conditions over several fields, each with the field whose address COMMIT_INFO takes (R146, R158, R160, R164, R183, R197,
R202, R215, R246, R271, R274 (log 154), R282, R296, R297), and the shares of the stand's entries (R467). -/
def crossRanges (s : State) (q : List (Nat × Word)) (n : Ch) (m : ModeQ) : List (Fld × Bool) :=
  let i := n.val
  let g (f : Fld) : Nat := sget q f i
  let w (f : Fld) : Word := sgetw q f i
  let p := g R.PWM_PERIOD
  let vs := g R.ADC_VSEQ_SLOT
  let hfi := m.gang ≠ 2 && (m.either (· == 5) || m.start == 2)
  let fs := p * (g R.PWM_CFG_LOOPDIV + 1)
  [chk R.PWM_PERIOD (g R.PWM_CFG_ALIGN = 1 ∨ p % 2 = 0), chk R.PWM_PHASE (g R.PWM_PHASE < p),
   chk R.PWM_TRIG_I_POS (g R.PWM_TRIG_I_POS < p), chk R.PWM_TRIG_V_POS (g R.PWM_TRIG_V_POS < p),
   chk R.PWM_CFG_ALIGN (¬ (g R.PWM_CFG_ALIGN = 1 ∧ m.sense = 2)),
   chk R.BRK_THR_OFF (¬ (g R.BRK_THR_ON ≤ g R.BRK_THR_OFF ∧ (g R.BRK_CFG_MODE = 1 ∨ g R.BRK_CFG_MODE = 3))),
   chk R.ADC_VSEQ_SLOT (vseqOk vs ∧ g R.PWM_TRIG_V_POS + 80 * vseqLen vs ≤ p),
   chk R.CMP_WIN_A_LO (g R.CMP_WIN_A_LO < g R.CMP_WIN_A_HI), chk R.CMP_WIN_B_LO (g R.CMP_WIN_B_LO < g R.CMP_WIN_B_HI),
   chk R.CMP_WIN_C_LO (g R.CMP_WIN_C_LO < g R.CMP_WIN_C_HI), chk R.CMP_BUS_UV (g R.CMP_BUS_UV < g R.CMP_BUS_OV),
   chk R.POS_HALL_MAP (let m := (List.range 8).map fun k => (g R.POS_HALL_MAP >>> (3 * k)) % 8
      7 ∉ m ∧ (m.filter (· ≠ 0)).Nodup),
   chk R.POS_ENC_IDXPOS_IDXPOS (g R.POS_ENC_IDXPOS_IDXPOS < 4 * g R.POS_ENC_LINES),
   chk R.POS_SPI_SHIFT (g R.POS_SPI_SHIFT + g R.POS_SPI_WIDTH ≤ 31),
   chk R.POS_FUSE_LO (f32Lt (w R.POS_FUSE_LO) (w R.POS_FUSE_HI) = true)] ++
  [chk R.LOOP_CFG_EN (chainMask m &&& g R.LOOP_CFG_EN = chainMask m),
   chk R.LOOP_FW_MREF (f32Le (w R.LOOP_FW_MREF) (w R.LOOP_MMAX) = true),
   chk R.OBS_ANG_CONV_ERR (g R.OBS_ANG_CONV_ERR < g R.OBS_ANG_LOSS_ERR),
   chk R.OBS_REF (g R.OBS_REF = 0 ∨ (4 ≤ g R.OBS_REF ∧ g R.OBS_REF ≠ 4 + i ∧ s.chOk (g R.OBS_REF - 4) = true)),
   chk R.OBS_PCA ((List.range 4).all fun k => pcByteOk (g R.OBS_PCA) k),
   chk R.OBS_PCB ((List.range 2).all fun k => pcByteOk (g R.OBS_PCB) k),
   chk R.OBS_POL_I (f32Le (w R.OBS_POL_I) (w R.LOOP_ILIM) = true),
   chk R.OBS_HALF (¬ (hfi = true ∧ fs * (2 * g R.OBS_HALF) < 40000)),
   chk R.LOOP_LQ (¬ (hfi = true ∧ f32Le (w R.LOOP_LQ) (f32Mul 0x3F866666#32 (w R.LOOP_LD)) = true)),
   chk R.SPT_HFI_WHO (¬ (m.gang ≠ 2 ∧ m.start = 2 ∧ f32Lt (w R.OBS_HFI_OMAX) (w R.SPT_HFI_WHO) = true)),
   chk R.SPT_CATCH_FALLBACK (g R.SPT_CATCH_FALLBACK ≤ 6 ∧ g R.SPT_CATCH_FALLBACK ≠ 5 ∧
      (m.gang = 2 ∨ m.start ≠ 5 ∨ m.either (startOk (g R.SPT_CATCH_FALLBACK)) = true)),
   chk R.POS_FUSE_HI (¬ (m.gang ≠ 2 ∧ m.either (· == 4) = true ∧ m.either (· == 5) = true ∧ f32Lt (w R.OBS_HFI_OMAX) (w R.POS_FUSE_HI) = true))] ++
  (List.range 16).map fun j => chk (R.GANG_MBR_SHARE.nth j) (0 < g (R.GANG_MBR_SHARE.nth j))

/-- The addresses of the staged registers that hold a reserved code or a value out of range (R128). -/
def badFields (s : State) (q : List (Nat × Word)) (n : Ch) (m : ModeQ) : List Nat :=
  let i := n.val
  let tab := (if m.gang = 2 then [] else modeRanges) ++ rangesA ++ rangesB
  let a := (tab.filter fun e => !e.2.ok (sget q e.1 i)).map fun e => e.1.addr i
  let fb2 := if m.gang ≠ 2 ∧ m.fb2 = 6 then [R.CH_MODE_FB2.addr i] else []
  let b := ((crossRanges s q n m).filter fun e => !e.2).map fun e => e.1.addr i
  (a ++ fb2 ++ b).dedup

/-- A class-A field differs between the snapshot and the running copies (R130). -/
def State.classA (s : State) (q : List (Nat × Word)) (n : Ch) : Bool :=
  let i := n.val
  [R.CH_MODE_COMM, R.CH_MODE_SENSE, R.CH_MODE_GANG, R.CH_MODE_LIMP].any (fun f => sget q f i != s.run f i) ||
  ([0x41, 0x42, 0x43, 0x44].any fun p => (pageRwc (p + 0x10 * i)).any fun a =>
    ((q.lookup a).getD 0#32 ^^^ s.word (0x10000 + a)) &&& rwcMask a != 0)

/-- A commit may change class-A fields in the present state: HOLD, IDLE, HALTED, or FAULT with the bridge off (R130). -/
def State.classAFree (s : State) (n : Ch) : Bool :=
  match s.chState n with
  | .hold => true | .idle => true | .halted => true
  | .fault => s.arb n (s.ch n).car.pos == 0
  | _ => false

/-- The device accepts no commit (NOT_READY of R128). -/
def State.notReady (s : State) : Bool :=
  !s.on R.SYS_STATUS_BOOT_DONE 0 || !s.on R.OTP_CRIT_VALID 0 || s.on R.SYS_STATUS_REF_FALLBACK 0

/-- The first failing check of R128 before the field ranges, in code order; 0 where none fails. For a stand member the checks that
name FB, FB2, TARGET, START, FW or MTPA are not made (R127). -/
def State.commitReason (s : State) (q : List (Nat × Word)) (n : Ch) : Nat :=
  let m := modeOf q n.val
  let i := n.val
  let own := m.gang != 2
  let tests : List (Nat × Bool) :=
    [(0x01, s.notReady), (0x02, !s.classAFree n && s.classA q n), (0x03, s.bridgeJob n),
     (0x10, own && m.comm == 0 && m.either (· == 5)), (0x11, own && m.comm == 0 && (m.start == 1 || m.start == 2)),
     (0x12, own && m.comm == 0 && (m.fw == 1 || m.mtpa == 1)),
     (0x13, own && !m.either (startOk m.start)),
     (0x14, own && m.sense == 2 && (m.either (· == 5) || m.start == 2)),
     (0x15, own && m.target == 4 && m.fb == 4 && m.fb2 == 7), (0x16, own && m.fb2 == m.fb),
     (0x17, own && m.either (s.notAssigned q n)),
     (0x18, own && m.brake == 3 && decide (m.target ≤ 1)),
     (0x19, m.brake == 3 && (decide (sget q R.BRK_CFG_MODE i < 2) || !(sget q R.LOOP_CFG_EN i).testBit 5)),
     (0x1A, own && (m.fw == 1 || m.mtpa == 1) && decide (m.target ≤ 1)),
     (0x20, own && m.limp == 1 && !m.either (fun f => f == 0 || f == 2 || f == 3)), (0x21, m.limp == 1 && m.gang != 0),
     (0x30, m.gang != 0 && (m.comm == 0 || m.sense == 2)),
     (0x31, m.gang != 0 && decide (sget q R.PWM_PERIOD i * (sget q R.PWM_CFG_LOOPDIV i + 1) < 4000)),
     (0x32, m.gang != 0 && !s.domOn dLink), (0x33, s.gangStand q n m),
     (0x40, m.sense != 2 && decide (sget q R.PWM_PERIOD i < sget q R.PWM_TRIG_I_POS i + 694)),
     (0x41, !(badFields s q n m).isEmpty)]
  ((tests.find? (·.2)).map (·.1)).getD 0

/-! ### Commands -/

/-- The command is ignored (R137). -/
def State.cmdIgnored (s : State) (n : Ch) : State := s.wr R.CH_IRQ_CMD_IGNORED n.val 1

/-- DISARM (R137, R138). -/
def State.disarm (s : State) (n : Ch) : State :=
  match s.chState n with
  | .arming | .armed | .starting | .running | .stopping | .limp =>
    ((s.wr R.CH_STATUS_RUN_REQ n.val 0).hoEnd n).ask n .idle byCommand
  | .fault => (s.wr R.CH_STATUS_RUN_REQ n.val 0).modCh n fun c => { c with disarmed := true }
  | .halted => if s.on R.FBK_STATUS_HALTED 0 then s.cmdIgnored n else (s.wr R.CH_STATUS_RUN_REQ n.val 0).ask n .idle byCommand
  | _ => s.cmdIgnored n

/-- STOP (R137, R138); the host's STOP acts on a stand member as DISARM does (R140 leaves it open; log 155). -/
def State.stop (s : State) (n : Ch) : State :=
  match s.chState n with
  | .starting | .running => ((s.wr R.CH_STATUS_RUN_REQ n.val 0).hoEnd n).ask n .stopping byStop
  | .limp => (s.wr R.CH_STATUS_RUN_REQ n.val 0).ask n .idle byStop
  | _ => s.cmdIgnored n

/-- COMMIT: COMMIT_PENDING and the snapshot of the staged words (R131, R14). -/
def State.commit (s : State) (n : Ch) : State :=
  if s.on R.CH_STATUS_COMMIT_PENDING n.val then s
  else (s.wr R.CH_STATUS_COMMIT_PENDING n.val 1).modCh n fun c => { c with snap := some (s.snapshot n), checked := false }

/-- The first arm condition that fails, in code order; 0 where none does (R139). -/
def State.armReason (s : State) (n : Ch) : Nat :=
  let good := s.rd R.PWR_STATUS_GOOD 0
  let tests : List (Nat × Bool) :=
    [(0x01, s.chState n != .idle), (0x02, s.rd R.CMP_STATUS_BAND_PENDING n.val != 0), (0x03, s.tripOn n),
     (0x04, s.on R.FBK_STATUS_HALTED 0), (0x05, !(good.testBit 1 && good.testBit 4)), (0x08, s.on R.CH_STATUS_COMMIT_PENDING n.val),
     (0x09, s.bridgeJob n)]
  ((tests.find? (·.2)).map (·.1)).getD 0

/-- An arm is refused with a reason (R139). -/
def State.armRefuse (s : State) (n : Ch) (r : Nat) : State :=
  s.wrs n.val [(R.CH_STATUS_ARM_REASON, r), (R.CH_IRQ_ARM_REFUSED, 1)]

/-- ARM tested against the arm conditions (R138, R139). -/
def State.armNow (s : State) (n : Ch) : State :=
  let r := s.armReason n
  if r = 0 then s.ask n .arming byCommand else s.armRefuse n r

/-- ARM as the host commands it: ignored in HOLD, and for a stand member (R139, R140). -/
def State.arm (s : State) (n : Ch) : State :=
  if s.chState n == .hold || s.run R.CH_MODE_GANG n.val == 2 then s.cmdIgnored n else s.armNow n

/-- RUN where the state accepts it (R137, R145): ARMING, ARMED or FAULT. -/
def State.runNow (s : State) (n : Ch) : State :=
  let c := s.chState n
  if c == .arming || c == .armed || c == .fault then s.wr R.CH_STATUS_RUN_REQ n.val 1
  else s.cmdIgnored n

/-- RUN as the host commands it (R140). -/
def State.runCmd (s : State) (n : Ch) : State :=
  if s.run R.CH_MODE_GANG n.val == 2 then s.cmdIgnored n else s.runNow n

/-- COMMIT (R131). -/
def execCommit (n : Ch) (s : State) : Host.Outcome State Fault Refusal := .next (s.whenCh n fun s => s.commit n)

/-- CH_ARM (R139). -/
def execChArm (n : Ch) (s : State) : Host.Outcome State Fault Refusal := .next (s.whenCh n fun s => s.arm n)

/-- CH_RUN (R137). -/
def execChRun (n : Ch) (s : State) : Host.Outcome State Fault Refusal := .next (s.whenCh n fun s => s.runCmd n)

/-- CH_STOP (R138). -/
def execChStop (n : Ch) (s : State) : Host.Outcome State Fault Refusal := .next (s.whenCh n fun s => s.stop n)

/-- CH_DISARM (R138). -/
def execChDisarm (n : Ch) (s : State) : Host.Outcome State Fault Refusal := .next (s.whenCh n fun s => s.disarm n)

/-- The commit fails (R131 step 3, R128): which of several fields out of range COMMIT_INFO names, the manual leaves open (log 3). -/
def State.commitReject (s : State) (n : Ch) (q : List (Nat × Word)) (r : Nat) : State :=
  let i := n.val
  let s := s.wrs i [(R.CH_STATUS_COMMIT_PENDING, 0), (R.CH_STATUS_COMMIT_REASON, r), (R.CH_IRQ_COMMIT_REJ, 1)]
  let s := (s.inc R.CH_COMMIT_CNT_REJECTED i).grvEvent n 2
  let s := s.modCh n fun c => { c with snap := none, checked := false }
  if r = 0x41 then
    let l := badFields s q n (modeOf q i)
    let a := l.getD (s.anyVal.toNat % max l.length 1) 0
    (s.wrs i [(R.CH_COMMIT_INFO_VALID, 1), (R.CH_COMMIT_INFO_ADDR, a)]).used
  else s

/-- COMMIT_CHECK_COMPLETE (R131 step 3): the commit is rejected, or waits for its boundary. -/
def execCommitCheckComplete (n : Ch) (s : State) : Host.Outcome State Fault Refusal :=
  .next (s.whenCh n fun s =>
    match (s.ch n).snap, (s.ch n).checked with
    | some q, false =>
      let r := s.commitReason q n
      if r = 0 then s.modCh n fun c => { c with checked := true } else s.commitReject n q r
    | _, _ => s)

end Sys2Proof.Machine
end

