-- ==== Sys2Proof/Machine/Commit.lean ====
section
/-! DEFINITION. What a commit does at its boundary, and the state transitions that boundaries take (R131 to R138, R144). -/

namespace Sys2Proof.Machine

/-! ### Running copies -/

/-- The staged words of a snapshot replace the running copies (R91). -/
def State.putRunning (s : State) (q : List (Nat × Word)) : State :=
  q.foldl (fun s e =>
    s.setWord (0x10000 + e.1) ((s.word (0x10000 + e.1) &&& ~~~ rwcMask e.1) ||| (e.2 &&& rwcMask e.1))) s

/-- A snapshot differs from the running copies in an RWC field of page `p`. -/
def State.pageChanged (s : State) (q : List (Nat × Word)) (p : Nat) : Bool :=
  (pageRwc p).any fun a => ((q.lookup a).getD 0#32 ^^^ s.word (0x10000 + a)) &&& rwcMask a != 0

/-- How a committed pair of sources reaches the running copy (R142, R144): through a hand-over while the channel starts, runs or stops
on an angle of its own pair or a hand-over is still in progress, stored while a start-up method imposes an angle, and at once everywhere
else. -/
def State.pairCommit (s : State) (n : Ch) (fb fb2 : Nat) : State :=
  let i := n.val
  let h := (s.ch n).ho
  let changed := decide ((h.fb, h.fb2) ≠ (fb, fb2))
  let c := s.chState n
  let s' := s.modHo n fun h => { h with fb := fb, fb2 := fb2 }
  let turn (s : State) : State :=
    (s.modHo n fun h => { h with ofs := if s.on R.CH_STATUS_HO_BLEND i then h.ofs + h.last else h.ofs, last := 0 }).hoBegin n
  let imposed := c == .starting && decide (s.rd R.SPT_STATUS_SU_PHASE i < 5)
  if s.run R.CH_MODE_GANG i ≠ 2 && (c == .starting || c == .running || c == .stopping || s.hoOn n) then
    if !changed then s
    else if imposed && !h.asked then s'
    else turn s'
  else
    ((s'.runWr R.CH_MODE_FB i fb).runWr R.CH_MODE_FB2 i fb2).modPos n fun p => { p with rampA := 16, rampB := 16 }

/-! ### What follows the new configuration -/

/-- The committed codes of the gate currents of channel `n`, source and sink, before the caps (R170). -/
def State.gateCodes (s : State) (n : Ch) : List Nat × List Nat :=
  let g (l : List Fld) : List Nat := l.map fun f => s.run f n.val
  (g [R.GD_DRV_HS_SRC_PRE, R.GD_DRV_LS_SRC_PRE, R.GD_DRV_HS_SRC_HOLD, R.GD_DRV_LS_SRC_HOLD, R.BRK_CFG_SRC],
   g [R.GD_DRV_HS_SNK_PRE, R.GD_DRV_LS_SNK_PRE, R.GD_DRV_HS_SNK_HOLD, R.GD_DRV_LS_SNK_HOLD, R.BRK_CFG_SNK])

/-- DT_FLOORED, CAPPED and GD.CAP (R153, R170); the critical values are those of OTP.CRIT_VAL. -/
def State.limitShow (s : State) (n : Ch) : State :=
  let i := n.val
  let c := s.gateCodes n
  let low := min (s.run R.PWM_DTIME_RISE i) (s.run R.PWM_DTIME_FALL i) + 1
  let s := s.flag R.PWM_STATUS_DT_FLOORED i (decide (low < s.dtFloor))
  s.flag R.GD_STATUS_CAPPED i (c.1.any (fun x => decide (s.gateCap false < x)) || c.2.any fun x => decide (s.gateCap true < x))

/-- The comparators of R200 at a commit (R204, R205, R211): newly inactive ones read 0 and request nothing, newly active ones and, at the
commit that leaves HOLD, all of them enter their start state; the bootstrap comparators start tripped with them. A window comparator that is
tripped requests off under the modes that do. -/
def State.cmpCommit (s : State) (n : Ch) (old : Nat) (leaving : Bool) : State :=
  let i := n.val
  let se := s.run R.CH_MODE_SENSE i
  let s := s.wrs i [(R.CMP_TRIPCNT_HS, 0), (R.CMP_TRIPCNT_WIN, 0)]
  let s := (List.range 11).foldl (fun s k =>
    if cmpInactive se k then
      let s := if s.cmpTrips n k then (s.clrBits R.CMP_STATUS_TRIPPED i (2 ^ k)).cmpReleased n k else s
      (s.leaveStart n k).cmpDrop n k
    else if leaving || cmpInactive old k then s.cmpBegin n k
    else s) s
  let s := if s.run R.CMP_WIN_CFG_MODE i = 2 then s
    else
      let trip := BitVec.ofNat 6 ((s.rd R.CMP_STATUS_TRIPPED i - (s.rd R.CMP_STATUS_TRIPPED i &&& s.rd R.CMP_STATUS_BAND_PENDING i)) >>> 3)
      s.modCh n fun c => { c with prot.winOff := c.prot.winOff ||| trip }
  if leaving then s.wrs i [(R.GD_STATUS_BST_UV, 7), (R.GD_STATUS_BST_WARN, 7)] else s

/-- The gang role of a commit (R140, R458): a new role, or a changed GANG page, begins FORMING or WAITING anew. -/
def State.gangCommit (s : State) (n : Ch) (old : Nat) (changed : Bool) : State :=
  let i := n.val
  let g := s.run R.CH_MODE_GANG i
  if g = old && !changed then s
  else
    let was := decide (old = 1) && decide (s.rd R.GANG_STATUS_SSTATE i = 2)
    let s := s.modCh n fun c => { c with gang := { Gang.reset with tk := c.gang.tk, held := c.gang.held } }
    let s := s.wrs i [(R.GANG_STATUS_SSTATE, if g = 0 then 0 else 1), (R.GANG_STATUS_MISS_RUN, 0), (R.GANG_STATUS_REF_OK, 0),
      (R.GANG_JOINED, 0)]
    let s := ((s.putBit R.STAND_STATUS_LEADER 0 i (g = 1)).putBit R.STAND_STATUS_MEMBER 0 i (g = 2)).putBit R.STAND_STATUS_FORMED 0 i false
    let s := if was then s.wr R.GANG_IRQ_UNFORMED i 1 else s
    (s.condSet (srcCh i oStandRefLoss) false).condSet (srcCh i oStandSlotMiss) false

/-- The loop engine at a commit (R133, R243, R247, R251, R256, R258, R261, R289). -/
def State.loopCommit (s : State) (n : Ch) (oldTarget : Nat) (leaving : Bool) : State :=
  let i := n.val
  let s := s.modCh n fun c =>
    { c with
      loopDead := false
      sense.samp := none
      spt.reseed := c.spt.reseed || decide (s.run R.CH_MODE_TARGET i ≠ oldTarget)
      eng :=
        { c.eng with
          next := 0
          hb := false
          vf := if leaving then none else c.eng.vf
          nodes := putNodes c.eng.nodes (sliceIds.map fun k => (0x4C + 0x10 * k.val, 0#32)) } }
  let s := s.wr R.LOOP_SAMPLE_N i 0
  let s := if s.on R.LOOP_STATUS_SWAP_PENDING i then s.swapDone n else s
  sliceIds.foldl (fun s k => s.calcTs n k) s

/-- What places the carrier's boundaries: PERIOD, SYNC and PHASE. -/
def State.carrierCfg (s : State) (n : Ch) : List Nat := [R.PWM_PERIOD, R.PWM_CFG_SYNC, R.PWM_PHASE].map fun f => s.run f n.val

/-- The carrier starts (R132, R164): with a boundary at once, under SYNC = 1 with one at its first target tick. -/
def State.carrierStart (s : State) (n : Ch) : State :=
  let p := s.periodFine n
  let div := s.run R.PWM_CFG_LOOPDIV n.val
  let now := s.now
  let s := s.modCh n fun c => { c with car := { Carrier.reset with opened := c.car.opened, per := p } }
  if s.run R.PWM_CFG_SYNC n.val = 1 then
    let t := s.firstTick n
    s.modCh n fun c => { c with car.first := some t }
  else ((s.carrierSync n).1.modCh n fun c => c.newPeriod now p div).grvEvent n 1

/-- A carrier that goes on through a commit (R133, R156): the boundary opens a sample, a duty that is not due there is discarded, no
sector has been applied since. Boundaries placed anew are compared with their targets at once (R165). -/
def State.carrierGoes (s : State) (n : Ch) (was : List Nat) : State :=
  let div := s.run R.PWM_CFG_LOOPDIV n.val
  let s := s.modCh n fun c =>
    { c with
      car.pos := 0
      car.shadow := none
      car.shadowLate := false
      car.came := false
      car.opened := c.car.opened + 1
      car.opening := true
      car.divCnt := if div = 0 then 0 else 1
      car.pendSector := none }
  if s.carrierCfg n = was then s
  else
    let (s, k) := (s.modCh n fun c => { c with car.syncBad := c.car.syncBad - 1 }).carrierSync n
    let e := s.nextPeriod n k
    s.modCh n fun c => { c with car.per := e }

/-- The carrier at a commit (R132, R133, R148), `was` the placing of its boundaries before: it starts where it was stopped or still
waits for its first boundary, and where the channel becomes a stand member (R140). -/
def State.carrierCommit (s : State) (n : Ch) (was : List Nat) (member : Bool) : State :=
  let i := n.val
  let starts := !s.on R.PWM_STATUS_RUNNING i || s.carrierWaits n || (s.run R.CH_MODE_GANG i == 2 && !member)
  let s := s.wrs i [(R.PWM_STATUS_RUNNING, 1), (R.PWM_STATUS_SECTOR, 0)]
  if starts then s.carrierStart n else s.carrierGoes n was

/-- The period that has begun is planned anew; before its first boundary a carrier has none (R164). -/
def State.replan (s : State) (n : Ch) : State :=
  ((if s.carrierWaits n then s else s.planPeriod n (s.ch n).car.per).brkShow n).settle n

/-- The registers that report a commit (R131, R145, R167, R191); Ranger captures new references for the channel's pages (R377). -/
def State.commitShow (s : State) (n : Ch) : State :=
  let i := n.val
  let s := s.wrs i [(R.CH_STATUS_COMMIT_PENDING, 0), (R.CH_STATUS_COMMIT_REASON, 0), (R.CH_IRQ_COMMIT_DONE, 1),
    (R.CH_COMMIT_INFO_VALID, 0), (R.CH_COMMIT_INFO_ADDR, 0), (R.BRK_ONTIME_TIME, 0), (R.PWM_PERIOD_CNT_COUNT, 0)]
  let s := (s.inc R.CH_COMMIT_CNT_ACCEPTED i).grvEvent n 2
  let s := { s with rng.refs := s.rng.refs.filter fun e => !(decide (0x40 + 0x10 * i ≤ e.1) && decide (e.1 < 0x50 + 0x10 * i)) }
  s.modCh n fun c => { c with snap := none, checked := false, prot.brkAcc := 0, prot.brkSince := s.now }

/-- A changed configuration meets what measures: the Hall map (R215), an empty voltage sequence (R198), two-shunt sensing (R194), the
plausibility counters of checks that are off (R278). -/
def State.senseCommit (s : State) (n : Ch) (map : Nat) : State :=
  let i := n.val
  let s := if s.run R.POS_HALL_MAP i = map then s else (s.hallRemap n).hallSector n
  let s := if nib (s.run R.ADC_VSEQ_SLOT i) 0 = 0xF then
      (List.range 8).foldl (fun s k => s.wr (R.ADC_VRES_VALID.nth k) i 0) s else s
  let s := if s.run R.CH_MODE_SENSE i = 0 then s else s.wrs i [(R.ADC_IC_VALID, 0), (R.ADC_IC_CORR, 0), (R.ADC_IC_RAW, 0)]
  s.pcClear n false

/-- A checked commit applies at the present boundary (R131 step 4). -/
def State.commitApply (s : State) (n : Ch) (q : List (Nat × Word)) : State :=
  let i := n.val
  let leaving := s.chState n == .hold
  let o (f : Fld) : Nat := s.run f i
  let was := (o R.CH_MODE_TARGET, o R.CH_MODE_SENSE, o R.CH_MODE_GANG, s.carrierCfg n, o R.POS_HALL_MAP)
  let pair := (o R.CH_MODE_FB, o R.CH_MODE_FB2)
  let gang := s.pageChanged q (0x4F + 0x10 * i)
  let s := s.putRunning q
  let s := (s.runWr R.CH_MODE_FB i pair.1).runWr R.CH_MODE_FB2 i pair.2
  let s := s.pairCommit n (sget q R.CH_MODE_FB i) (sget q R.CH_MODE_FB2 i)
  let s := ((s.commitShow n).limitShow n).cmpCommit n was.2.1 leaving
  let s := (s.loopCommit n was.1 leaving).senseCommit n was.2.2.2.2
  let s := (s.gangCommit n was.2.2.1 gang).trcGap n (some 0)
  let t := s.run R.CH_MODE_TARGET i
  let s := if t ≠ 3 ∧ t ≠ 4 then s.homingFail n else s
  let s := s.safeRelease n
  let s := if leaving then s.toState n .idle byCommit else s
  if s.chState n == .limp then (s.wr R.PWM_STATUS_SECTOR i 0).settle n else (s.carrierCommit n was.2.2.2.1 (was.2.2.1 == 2)).replan n

/-- The channel stands at a boundary: its carrier is stopped, waits for its first one or is in limp mode, or the period has just begun
(R132, R147). -/
def State.atBoundary (s : State) (n : Ch) : Bool := !s.carrierOn n || s.carrierWaits n || decide ((s.ch n).car.pos = 0)

/-- COMMIT_APPLY (R131): a commit that passed its checks before the reference fallback is rejected too (R69). -/
def execCommitApply (n : Ch) (s : State) : Host.Outcome State Fault Refusal :=
  .next (s.whenCh n fun s =>
    match (s.ch n).snap, (s.ch n).checked with
    | some q, true =>
      if s.on R.SYS_STATUS_REF_FALLBACK 0 then s.commitReject n q 1
      else if s.atBoundary n then s.commitApply n q else s
    | _, _ => s)

/-! ### Transitions at a boundary (R138) -/

/-- A state is entered at a boundary, with what its entry begins: pre-charge (R176), the start-up method (R291), braking (R298). -/
def State.enterAt (s : State) (n : Ch) (tgt : ChState) (cause : Nat) : State :=
  let m := s.pwmMode n
  let s := s.toState n tgt cause
  let s := if tgt == .arming then
      (s.wr R.GD_STATUS_PRECHG n.val 1).modCh n fun c =>
        { c with car.prePulses := if s.run R.GD_PRECHG_MODE n.val = 0 then s.run R.GD_PRECHG_COUNT n.val else 0, car.preLeft := 0 }
    else if tgt == .starting then s.suEnter n
    else if tgt == .stopping then s.brkBegin n
    else s
  let s := s.bstEnter n
  if s.pwmMode n = m then (s.brkShow n).settle n else s.replan n

/-- Pre-charge is done (R176): with pulses, at the boundary after the last one; without, whenever the wait ends. -/
def State.prechargeDue (s : State) (n : Ch) : Bool :=
  let c := (s.ch n).car
  s.chState n == .arming && decide (c.prePulses = 0) && decide (c.preLeft = 0) && (decide (s.run R.GD_PRECHG_MODE n.val ≠ 0) || decide (c.pos = 0))

/-- PRECHARGE_COMPLETE (R176, R138): ARMING goes to ARMED, or back to IDLE while a BST_UV stands. A class-TRIP fault raised during
ARMING acts as ARMED is entered (R357). -/
def execPrechargeComplete (n : Ch) (s : State) : Host.Outcome State Fault Refusal :=
  .next (s.whenCh n fun s =>
    if !s.prechargeDue n then s
    else if s.rd R.GD_STATUS_BST_UV n.val = 0 then
      let s := (s.wr R.CH_STATUS_ARM_REASON n.val 0).enterAt n .armed byPrecharge
      if s.heldInFault n then s.enterAt n .fault byReaction else s
    else (s.armRefuse n 0x07).enterAt n .idle byPrecharge)

/-- The enabled entries of a leader, itself excluded (R458). -/
def State.members (s : State) (n : Ch) : List Nat :=
  (List.range 16).tail.filter fun j => s.run (R.GANG_MBR_EN.nth j) n.val = 1

/-- A leader may start: its stand is FORMED and every member reports ARMED (R460). -/
def State.standReady (s : State) (n : Ch) : Bool :=
  decide (s.rd R.GANG_STATUS_SSTATE n.val = 2) && (s.members n).all fun j => (s.ch n).gang.armed.contains j

/-- A run request takes the channel to STARTING, or to RUNNING with START = 6, at the end of a fault state too (log 156); a leader waits for its
stand before STARTING (R138, R460). -/
def State.startMove (s : State) (n : Ch) (cause : Nat) : State :=
  let i := n.val
  if s.run R.CH_MODE_START i = 6 then s.enterAt n .running cause
  else if s.run R.CH_MODE_GANG i = 1 && !s.standReady n then s.modCh n fun c => { c with gang.waits := true }
  else (s.modCh n fun c => { c with gang.waits := false, gang.overdue := false }).enterAt n .starting cause

/-- BOUNDARY_STATE_TRANSITION (R138): the transition asked for, or the run request of an ARMED channel. -/
def execBoundaryStateTransition (n : Ch) (s : State) : Host.Outcome State Fault Refusal :=
  .next (s.whenCh n fun s =>
    match (s.ch n).pend with
    | some (tgt, cause) => s.enterAt n tgt cause
    | none => if s.chState n == .armed && s.on R.CH_STATUS_RUN_REQ n.val then s.startMove n byCommand else s)

/-- CHANNEL_FAULT_EXIT (R365, R138): no source holds the channel in FAULT any more. -/
def execChannelFaultExit (n : Ch) (s : State) : Host.Outcome State Fault Refusal :=
  .next (s.whenCh n fun s =>
    if s.chState n != .fault || s.heldInFault n || s.critOn n then s
    else if (s.ch n).disarmed then s.enterAt n .idle byFaultEnd
    else if s.on R.CH_STATUS_RUN_REQ n.val then s.startMove n byFaultEnd
    else s.enterAt n .armed byFaultEnd)

end Sys2Proof.Machine
end

