-- ==== Sys2Proof/Machine/Loop.lean ====
section
/-! DEFINITION. One sample of the loop engine, from the arrived results to the shadow write and the write-back
(R236 to R263, R275 to R281, R284, R344). -/

namespace Sys2Proof.Machine

/-! ### Currents and bus voltage -/

/-- A 13-bit signed code. -/
def signed13 (v : Nat) : Int := if 4096 ≤ v then (v : Int) - 8192 else v

/-- What stage 3 forms (R239): the currents of the converters, the phase currents, their validity, and whether one is reconstructed. -/
structure Cur where
  adc : Word × Word × Word
  ph : Word × Word × Word
  ok : Bool
  recon : Bool
deriving DecidableEq, Repr

/-- Component `x` of three. -/
def pick3 (x : Nat) (v : Word × Word × Word) : Word := if x = 0 then v.1 else if x = 1 then v.2.1 else v.2.2

/-- Three values with `a` in place `x`, `b` in place `y` and `c` in the third. -/
def place3 (x y : Nat) (a b c : Word) : Word × Word × Word :=
  let f (k : Nat) : Word := if k = x then a else if k = y then b else c
  (f 0, f 1, f 2)

/-- Minus the sum of two. -/
def negSum (a b : Word) : Word := f32Opp (f32Add a b)

/-- Stage 3 (R196, R239): the second single-shunt window is converted from amplifier A and takes its scale. -/
def State.currents (s : State) (n : Ch) (q : Samp) : Cur :=
  let i := n.val
  let amp (f : Fld) (sc : Fld) : Word := f32Mul (f32OfInt (signed13 (s.rd f i))) (s.runw sc i)
  let va := s.on R.ADC_IA_VALID i
  let vb := s.on R.ADC_IB_VALID i
  let vc := s.on R.ADC_IC_VALID i
  let a := amp R.ADC_IA_CORR R.ADC_ISCALE_A_SCALE
  match s.run R.CH_MODE_SENSE i with
  | 0 =>
    let b := amp R.ADC_IB_CORR R.ADC_ISCALE_B_SCALE
    let c := amp R.ADC_IC_CORR R.ADC_ISCALE_C_SCALE
    let ph := if va && vb then (if vc then (a, b, c) else (a, b, negSum a b)) else if va then (a, negSum a c, c) else (negSum b c, b, c)
    let k := (if va then 1 else 0) + (if vb then 1 else 0) + (if vc then 1 else 0)
    ⟨(a, b, c), ph, decide (2 ≤ k), decide (k = 2)⟩
  | 1 =>
    let b := amp R.ADC_IB_CORR R.ADC_ISCALE_B_SCALE
    ⟨(a, b, 0#32), (a, b, negSum a b), va && vb, va && vb⟩
  | _ =>
    let b := amp R.ADC_IB_CORR R.ADC_ISCALE_A_SCALE
    let ok := va && vb && decide (q.p1 < 3) && decide (q.p3 < 3)
    ⟨(a, b, 0#32), place3 q.p1 q.p3 a (f32Opp b) (negSum a (f32Opp b)), ok, ok⟩

/-- The bus voltage of R251: the last VBUSn result, the filter, V_B, and whether the floor is in force. The filter runs on every VBUSn result,
so that S5 has its measurement whatever V_B is (R245; log 149). -/
def State.busV (s : State) (n : Ch) : Word × Option Word × Word × Bool :=
  let i := n.val
  let r := (s.vresOf n 3).map dividerV
  let raw := r.getD (s.node n 0x0E)
  let slot := (vseqCodes (s.run R.ADC_VSEQ_SLOT i)).contains 3
  let ff := s.run R.LOOP_CFG_VBUS_FF i == 1 && slot
  let vf := (s.ch n).eng.vf
  let vf := match r with
    | none => vf
    | some v => some (match vf with | some o => lpFilter (s.sampleTime n) (s.runw R.LOOP_VBUS_TF i) o v | none => v)
  let v := match vf with | some v => if ff then v else s.runw R.LOOP_VBUS_NOM i | none => s.runw R.LOOP_VBUS_NOM i
  (raw, vf, f32Max v f32One, f32Lt v f32One)

/-- The current of the phase chopped in the last sample, positive in the commanded direction, negative for `neg` (R254). -/
def State.choppedCur (s : State) (n : Ch) (ph : Word × Word × Word) (neg : Bool) : Word :=
  match sectorLegs (s.node n 0xBA).toNat with
  | some (h, _) => if neg then f32Opp (pick3 h ph) else pick3 h ph
  | none => 0#32

/-! ### What stages 2 to 5 give -/

/-- Index, drive, currents and transforms of a sample. -/
structure Pre where
  idx : Nat
  tick : Nat
  d : Drive
  cur : Cur
  valid : Bool
  ab : Word × Word
  dq : Word × Word
  /-- The currents S0 and S1 measure (R272), and i_q, with COMM = 0 that of the chopped phase (R254, R288). -/
  dqM : Word × Word
  iq : Word
  raw : Word
  vf : Option Word
  vb : Word
  floor : Bool
  sector : Nat
  /-- Slices in the chain of this sample, as a mask (R246), S5 apart. -/
  chain : Nat
  /-- The weight of the second source of the pair (R279). -/
  w : Word
  gen : GenOut
deriving DecidableEq, Repr

/-- The slices that the drive runs (R246, R291, R299). -/
def State.chainOf (s : State) (n : Ch) (d : Drive) : Nat :=
  let i := n.val
  let en := s.run R.LOOP_CFG_EN i
  let cur := if s.run R.CH_MODE_COMM i = 0 then 0b10 else 0b11
  if (s.ch n).loopDead then 0
  else
    match d.lead with
    | .idle => 0
    | .imposed _ _ => cur &&& en
    | .stand => 0b11 &&& en
    | .chain =>
      let fw := if s.run R.CH_MODE_FW i = 1 then 0b10000 else 0
      let base :=
        match s.run R.CH_MODE_TARGET i with
        | 2 => cur
        | 3 => cur ||| 0b100
        | 4 => cur ||| (if d.noPos then 0b100 else 0b1100)
        | _ => 0
      (base ||| fw) &&& en

/-- The mean that S0 and S1 measure while injection runs (R272). -/
def State.ripple (s : State) (n : Ch) (dq : Word × Word) : Word × Word :=
  if s.on R.OBS_STATUS_INJECTING n.val then
    match (s.ch n).obs.inj.hist[s.run R.OBS_HALF n.val - 1]? with
    | some o => (f32Mul (f32Add dq.1 o.1) f32Half, f32Mul (f32Add dq.2 o.2) f32Half)
    | none => dq
  else dq

/-- Whether HFI has a share in the running pair (R271). -/
def State.hfiShare (s : State) (n : Ch) : Bool :=
  let p := (s.ch n).pos
  let lo := s.runw R.POS_FUSE_LO n.val
  let hi := s.runw R.POS_FUSE_HI n.val
  let w := f32Clamp (f32Div (f32Sub (f32Abs p.wPrev) lo) (f32Sub hi lo)) 0#32 f32One
  if s.fb n = 5 then s.fb2 n == 7 || !f32Same w f32One
  else if s.fb2 n = 5 then !f32IsZero w
  else s.srcUsed n 5

/-- Injection starts and stops (R271): in RUNNING it begins whatever the share, and ends after 16 samples without one. -/
def State.injection (s : State) (n : Ch) : State :=
  let ph := s.rd R.SPT_STATUS_SU_PHASE n.val
  let idle (k : Nat) (s : State) : State := s.modObs n fun o => { o with inj := { o.inj with idle := k } }
  if s.member n then idle 0 (s.injStop n)
  else if s.chState n == .starting && (ph == 3 || ph == 4) then idle 0 (s.injStart n)
  else if s.chState n == .running && s.srcUsed n 5 then
    let k := if s.hfiShare n then 0 else min ((s.ch n).obs.inj.idle + 1) 16
    idle k (if k = 16 then s.injStop n else s.injStart n)
  else idle 0 (s.injStop n)

/-- POS.ANGLE, SPEED, SRC_ANG and the flags show what the sample uses (R233); an invalid angle leaves an undefined value (log 3). -/
def State.showUse (s : State) (n : Ch) (q : Samp) (u : Use) : State :=
  let src (f : Nat) : Nat := if f = 7 then 0 else (s.srcVal n q f).angS
  s.wrs n.val [(R.POS_ANGLE_THETA_S, u.angS), (R.POS_ANGLE_THETA_A, u.angA), (R.POS_SPEED, (okSpd u.wOk u.w).toNat),
    (R.POS_STATUS_ANG_VALID, if u.ok then 1 else 0), (R.POS_STATUS_SPD_VALID, if u.wOk then 1 else 0),
    (R.POS_SRC_ANG_FB, src (s.fb n)), (R.POS_SRC_ANG_FB2, src (s.fb2 n))]

/-- Homing in one sample (R301, R302): the event is captured in the first sample after it. -/
def State.homing (s : State) (n : Ch) : State :=
  let i := n.val
  let c := s.ch n
  if !c.homeRun then s
  else
    let s := if s.rd R.SPT_HOME_EVENT i = 2 ∧ (s.rd R.GPIO_IN 0).testBit (s.rd R.SPT_HOME_PIN i) = s.on R.SPT_HOME_LVL i then
        s.homeEvent n 2 else s
    let c := s.ch n
    if c.homeSeen && !c.spt.homeCap then
      let p := c.spt.mpos
      let d := posOf (s.rd R.SPT_HOME_POS_TURNS i) (s.rd R.SPT_HOME_POS_FRAC i) - p
      let s := (s.wrPos n R.SPT_HOME_EVT_TURNS R.SPT_HOME_EVT_FRAC p).wr R.SPT_IRQ_HOME_EVENT i 1
      ((s.putMpos n (p + d)).putProf n (c.spt.prof + d)).modSpt n fun t => { t with homeCap := true, rest := 0 }
    else s

/-- The part of homing that looks at the sample's measurements (R301, R302). -/
def State.homingLate (s : State) (n : Ch) (u : Use) (iq : Word) : State :=
  let i := n.val
  let c := s.ch n
  if !s.on R.SPT_STATUS_HOMING i then s
  else
    let hit := u.wOk && f32Le (f32Abs u.w) (s.runw R.SPT_STOP_W i)
    let k := if hit && f32Le (s.rdw R.SPT_HOME_I i) (f32Abs iq) then min (c.spt.homeN + 1) 255 else 0
    let s := s.modSpt n fun t => { t with homeN := k }
    let s := if s.run R.SPT_STOP_N i ≤ k then s.homeEvent n 3 else s
    s.modSpt n fun t => { t with homeRest := (t.homeCap || !c.homeRun) && s.atRest n && f32IsZero (s.rdw R.SPT_OUT i) }

/-- Stages 1 to 5, the generator and what they show: the state after them, and what the later stages take. -/
def State.front (s : State) (n : Ch) (q : Samp) : State × Pre :=
  let i := n.val
  let idx := (s.ch n).eng.next
  let s := s.modEng n fun e => { e with next := e.next + 1 }
  let s := s.encSample n q.stamp
  let s := if s.srcUsed n 2 then s.spiSample n else s
  let s := s.injection n
  let s := s.obsPrepare n
  let (s, p) := s.runningPair n q
  let (s, d) := s.drive n q p.val
  let v := s.anyVal
  let s := if d.use.ok then s else s.used
  let u := if d.use.ok then d.use else { d.use with angS := v.toNat % 65536, angA := v.toNat / 65536 }
  let d := { d with use := u }
  let s := s.showUse n q u
  let s := s.putSector n (if p.val.ok then s.sectorOf n p.val.ang else 0)
  let s := s.swapStep n idx
  let cur := s.currents n q
  let cur := if cur.ok then cur else { cur with ph := (s.node n 0x0B, s.node n 0x0C, s.node n 0x0D) }
  let chain := s.chainOf n d
  let comm := s.run R.CH_MODE_COMM i
  let valid := cur.ok && (comm == 0 || chain % 4 == 0 || u.ok)
  let s := (s.posCount n d.meas.angS d.meas.ok).homing n
  let d := match d.gen with | .speed _ => { d with gen := s.homingMode n } | _ => d
  let ab := if valid then clarke cur.ph.1 cur.ph.2.1 cur.ph.2.2 else (s.node n 0x20, s.node n 0x21)
  let dq := if valid && comm == 1 then toFrame ab (f32OfAngle u.angS) else (s.node n 0x22, s.node n 0x23)
  let iq := if comm = 1 then dq.2 else s.choppedCur n cur.ph (f32IsNeg (s.node n 0x38))
  let (s, g) := s.generator n d.gen iq (okSpd d.meas.wOk d.meas.w) (s.atRest n)
  let (raw, vf, vb, floor) := s.busV n
  (s, { idx := idx, tick := q.tick, d := d, cur := cur, valid := valid, ab := ab, dq := dq, dqM := s.ripple n dq, iq := iq, raw := raw, vf := vf
        vb := vb, floor := floor, sector := s.rd R.POS_STATUS_SECTOR i, chain := chain, w := p.w, gen := g })

/-! ### Slices and references (stages 6 to 9) -/

/-- The feed-forward term of slice `k` (R249). -/
def State.ffTerm (s : State) (n : Ch) (p : Pre) (k : Fin 6) : Word :=
  let i := n.val
  let w := okSpd p.d.use.wOk p.d.use.w
  let ld := s.runw R.LOOP_LD i
  let lq := s.runw R.LOOP_LQ i
  let psi := s.runw R.LOOP_PSI i
  let tg := s.run R.CH_MODE_TARGET i
  let sel := (s.coef n k).ffsel
  if sel = 6 then (s.ch n).eng.ext.get k
  else if sel = 1 ∧ k = 2 then f32Mul (s.runw R.LOOP_JKT i) p.gen.a
  else if sel = 2 ∧ k = 3 then (if 3 ≤ tg then p.gen.y else 0#32)
  else if k = 0 ∧ (sel = 3 ∨ sel = 4) then f32Opp (f32Mul (f32Mul w lq) p.dq.2)
  else if k = 1 ∧ sel = 3 then f32Mul (f32Mul w ld) p.dq.1
  else if k = 1 ∧ sel = 4 then f32Mul w (f32Add (f32Mul ld p.dq.1) psi)
  else if k = 1 ∧ sel = 5 then f32Mul w psi
  else 0#32

/-- What the slices of a sample have done so far: their states, their signals, and how many outer ones ran (R238). -/
structure Runs where
  slices : Vector Slice 6
  outs : List (Nat × SliceOut)
  outer : Nat
deriving DecidableEq, Repr

/-- Slice `k` runs if it is in the chain and its turn comes; until its first turn it holds what drove before, and out of the chain it leaves it
(R19, R141, R247). -/
def State.runSlice (s : State) (n : Ch) (p : Pre) (k : Fin 6) (inn skip : Bool) (q : SliceIn) (r : Runs) : Runs :=
  let x := r.slices.get k
  if !inn then { r with slices := r.slices.set k.val { x with active := false } }
  else if skip || decide (p.idx % max (s.slicePeriod n k) 1 ≠ 0) then
    (if x.active then r else { r with slices := r.slices.set k.val { x with out := q.last } })
  else
    let (x', o) := x.run (s.coef n k) (k == 5) q
    { slices := r.slices.set k.val x', outs := r.outs ++ [(k.val, o)], outer := if 2 ≤ k.val then r.outer + 1 else r.outer }

/-- Slice `k` is in the chain of the sample. -/
def Pre.inChain (p : Pre) (k : Nat) : Bool := p.chain.testBit k

/-- Stage 6 (R245, R247): S3, S2, S4, S5 in that order. -/
def State.outer (s : State) (n : Ch) (p : Pre) : Runs :=
  let i := n.val
  let t := (s.ch n).spt
  let e := (s.ch n).eng
  let r : Runs := ⟨e.slices, [], 0⟩
  let s2on := (s.slice n 2).active
  let r := s.runSlice n p 3 (p.inChain 3) false
    { ref := radOfPos (p.gen.p - t.mpos), meas := 0#32, ff := s.ffTerm n p 3, last := if s2on then s.node n 0x60 else 0#32
      dx := some (radOfPos (t.mpos - e.posAt)) } r
  let r2 := if p.inChain 3 then (r.slices.get 3).out else p.gen.y
  let r := s.runSlice n p 2 (p.inChain 2) false
    { ref := r2, meas := okSpd p.d.use.wOk p.d.use.w, ff := s.ffTerm n p 2, last := p.d.iqLast.getD (s.node n 0x38), dx := none } r
  let r := s.runSlice n p 4 (p.inChain 4) (!p.valid)
    { ref := s.runw R.LOOP_FW_MREF i, meas := s.node n 0x29, ff := s.ffTerm n p 4, last := s.node n 0x37, dx := none } r
  s.runSlice n p 5 ((s.run R.LOOP_CFG_EN i).testBit 5 && !(s.ch n).loopDead) false
    { ref := s.runw R.LOOP_S5_REF i, meas := p.vf.getD p.vb, ff := s.ffTerm n p 5, last := 0#32, dx := none } r

/-- The references of stage 7 (R248): id_mtpa, the flux term, id_ref, iq_ref, iq_lim, and whether the limit acted. -/
structure Refs where
  idMtpa : Word
  idFw : Word
  id : Word
  iq : Word
  iqLim : Word
  limited : Bool
  /-- This channel's share of a stand, or the references themselves (R455). -/
  own : Word × Word
  /-- id before its clamp, and what the formulas pass through besides (R255). -/
  want : Word
  mid : List Word
deriving DecidableEq, Repr

/-- id_in and iq_in of R248 by who drives. -/
def State.refIn (s : State) (n : Ch) (p : Pre) (r : Runs) : Word × Word :=
  let pol := s.polId n
  match p.d.lead with
  | .idle => (0#32, 0#32)
  | .imposed id iq => (f32Add id pol, iq)
  | .stand => match (s.ch n).gang.use with | some q => (q.id, q.iq) | none => (0#32, 0#32)
  | .chain =>
    let iq := match s.run R.CH_MODE_TARGET n.val with
      | 2 => p.gen.y | 3 => (r.slices.get 2).out | 4 => (r.slices.get 2).out | _ => 0#32
    (f32Add (s.rdw R.LOOP_IDREF_REF n.val) pol, if (s.ch n).loopDead then 0#32 else iq)

/-- ΣSHARE over the enabled entries, and the leader's own share (R455). -/
def State.shareOf (s : State) (n : Ch) (j : Nat) : Word :=
  let on := (List.range 16).filter fun k => s.run (R.GANG_MBR_EN.nth k) n.val == 1
  let sum := (on.map fun k => s.run (R.GANG_MBR_SHARE.nth k) n.val).foldl (· + ·) 0
  if sum = 0 then 0#32 else f32OfRat (s.run (R.GANG_MBR_SHARE.nth j) n.val) sum

/-- Stage 7 (R248); a leader takes its share of the total (R455). -/
def State.refs (s : State) (n : Ch) (p : Pre) (r : Runs) : Refs :=
  let i := n.val
  let (idIn, iqIn) := s.refIn n p r
  let ld := s.runw R.LOOP_LD i
  let lq := s.runw R.LOOP_LQ i
  let psi := s.runw R.LOOP_PSI i
  let lim := s.runw R.LOOP_ILIM i
  let four : Word := 0x40800000#32
  let d := f32Sub lq ld
  let mtpa := decide (s.run R.CH_MODE_MTPA i = 1) && !s.member n && f32Lt ld lq && decide (p.d.lead ≠ .idle)
  let d4 := f32Mul four d
  let d16 := f32Mul 0x41800000#32 (f32Mul d d)
  let mt := if mtpa then
      f32Sub (f32Div psi d4) (f32Sqrt (f32Add (f32Div (f32Mul psi psi) d16) (f32Mul (f32Mul iqIn iqIn) f32Half)))
    else 0#32
  let fw := if p.inChain 4 then f32Min (r.slices.get 4).out 0#32 else 0#32
  let want := f32Add (f32Add idIn mt) fw
  let id := f32Clamp want (f32Opp lim) lim
  let ql := f32Sqrt (f32Sub (f32Mul lim lim) (f32Mul id id))
  let iq := f32Clamp iqIn (f32Opp ql) ql
  let own := if s.run R.CH_MODE_GANG i = 1 then (f32Mul (s.shareOf n 0) id, f32Mul (s.shareOf n 0) iq) else (id, iq)
  ⟨mt, fw, id, iq, ql, !f32Same id want || !f32Same iq iqIn, own, want,
    (if mtpa then [d, d4, d16, f32Mul psi psi] else []) ++ [f32Mul lim lim, f32Mul id id]⟩

/-- Stage 9: S0 and S1 together (R240, R245); under six-step S1 regulates the current that align imposes (R292). -/
def State.inner (s : State) (n : Ch) (p : Pre) (rf : Refs) (r : Runs) : Runs :=
  let foc := s.run R.CH_MODE_COMM n.val == 1
  let last := p.d.vLast.getD (s.node n 0x26, s.node n 0x27)
  let r := s.runSlice n p 0 (p.inChain 0) (!p.valid)
    { ref := rf.own.1, meas := p.dqM.1, ff := s.ffTerm n p 0, last := last.1, dx := none } r
  let ref := if !foc && p.d.sector.isSome then rf.own.1 else rf.own.2
  s.runSlice n p 1 (p.inChain 1) (!p.valid)
    { ref := ref, meas := if foc then p.dqM.2 else s.choppedCur n p.cur.ph (f32IsNeg ref), ff := s.ffTerm n p 1, last := last.2, dx := none } r

/-! ### Voltage (stages 10 to 15) -/

/-- What stages 10 to 15 give: the applied d and q voltage, the vector with injection, v_max, the modulation index, duties, compensation
terms, on-times, V0, the six-step pair, whether the limit acted, the normalised q voltage (R288), and what the formulas pass through that no
node shows (R255). -/
structure Volt where
  dq : Word × Word
  ab : Word × Word
  vmax : Word
  mod : Word
  duty : Word × Word × Word
  dtc : Int × Int × Int
  on : Vector Nat 3
  v0 : Word
  six : Option (Nat × Nat)
  vlim : Bool
  nq : Word
  mid : List Word
deriving DecidableEq, Repr

/-- Stage 10 (R250). -/
def vLimit (v : Word × Word) (vmax : Word) : (Word × Word) × Bool :=
  let m2 := f32Mul vmax vmax
  if f32Lt m2 (f32Add (f32Mul v.1 v.1) (f32Mul v.2 v.2)) then
    let d := f32Clamp v.1 (f32Opp vmax) vmax
    let q := f32Sqrt (f32Sub m2 (f32Mul d d))
    ((d, f32Signed (f32Sign v.2) q), true)
  else (v, false)

/-- What stage 10 compares (R255). -/
def vLimitMid (v : Word × Word) (vmax : Word) : List Word := [f32Mul vmax vmax, f32Add (f32Mul v.1 v.1) (f32Mul v.2 v.2)]

/-- The inverse Clarke transform (R252). -/
def invClarke (v : Word × Word) : Word × Word × Word :=
  let h := f32Mul v.1 f32Half
  let t := f32Mul (f32Mul f32Sqrt3 f32Half) v.2
  (v.1, f32Sub t h, f32Opp (f32Add t h))

/-- The on-time of one phase with its compensation term in fine units (R253). -/
def onTime (full : Nat) (d : Word) (t : Int) : Nat := (max 0 (min (full : Int) (f32ToInt (f32Mul d (f32OfNat full)) + t))).toNat

/-- The compensation term of a phase current (R253). -/
def dtcTerm (rise fall : Nat) (band i : Word) : Int :=
  let sp := f32Clamp (f32Div i band) 0#32 f32One
  let sn := f32Clamp (f32Div (f32Opp i) band) 0#32 f32One
  let x := f32Sub (f32Mul (f32OfNat rise) sp) (f32Mul (f32OfNat fall) sn)
  if f32IsFinite x then f32ToInt x else 0

/-- The voltage the drive asks for, and under TARGET 0 normalised, with the voltage it is normalised by (R250, R252). -/
def State.vWant (s : State) (n : Ch) (p : Pre) (r : Runs) : (Word × Word) × Bool :=
  let i := n.val
  let mm := s.runw R.LOOP_MMAX i
  let cur := ((if p.inChain 0 then (r.slices.get 0).out else 0#32), (if p.inChain 1 then (r.slices.get 1).out else 0#32))
  if (s.ch n).loopDead then ((0#32, 0#32), false)
  else
    match p.d.lead, s.run R.CH_MODE_TARGET i with
    | .chain, 0 => ((0#32, f32Clamp p.gen.y (f32Opp mm) mm), true)
    | .chain, 1 => ((s.rdw R.LOOP_VDREF_REF i, p.gen.y), false)
    | .idle, _ => ((0#32, 0#32), false)
    | _, _ => (cur, false)

/-- What stage 10 settles: the voltage the formulas use, what it is measured against, the bus voltage in the same measure, v_max, and
the factor back to volts (R250, R252). -/
structure FocV where
  v : Word × Word
  lim : Bool
  vb : Word
  k : Word
  vmax : Word
deriving DecidableEq, Repr

/-- Whether the modulation is space vector (R250, R252). -/
def State.svm (s : State) (n : Ch) : Bool := s.run R.LOOP_CFG_MOD n.val == 0

/-- Stage 10 under FOC (R250). -/
def State.focV (s : State) (n : Ch) (p : Pre) (r : Runs) : FocV :=
  let w := s.vWant n p r
  let vb := if w.2 then f32Sqrt3 else p.vb
  let k := if w.2 then f32Div p.vb f32Sqrt3 else f32One
  let vmax := f32Div (f32Mul (s.runw R.LOOP_MMAX n.val) vb) (if s.svm n then f32Sqrt3 else 0x40000000#32)
  let x := if w.2 then (w.1, false) else vLimit w.1 vmax
  { v := x.1, lim := x.2, vb := vb, k := k, vmax := vmax }

/-- V0 of the three phase voltages (R252). -/
def State.focV0 (s : State) (n : Ch) (x : Word × Word × Word) : Word :=
  if s.svm n then f32Opp (f32Mul (f32Add (f32Max (f32Max x.1 x.2.1) x.2.2) (f32Min (f32Min x.1 x.2.1) x.2.2)) f32Half) else 0#32

/-- A duty from a phase voltage, V0 and the bus voltage (R252). -/
def dutyOf (e v0 vb : Word) : Word := f32Clamp (f32Add f32Half (f32Div (f32Add e v0) vb)) 0#32 f32One

/-- Whether something drives the stage in this sample (R256, R262). -/
def State.drives (s : State) (n : Ch) (p : Pre) : Bool := decide (p.d.lead ≠ .idle) && !(s.ch n).loopDead

/-- The compensation term of one phase current, in fine units (R253). -/
def State.focTerm (s : State) (n : Ch) (on : Bool) (e : Word) : Int :=
  if on && s.run R.LOOP_CFG_DTC_EN n.val == 1 then
    dtcTerm (s.deadTime R.PWM_DTIME_RISE n) (s.deadTime R.PWM_DTIME_FALL n) (s.runw R.LOOP_IBAND n.val) e
  else 0

/-- The currents the compensation takes its signs from (R253). -/
def State.dtcCur (s : State) (n : Ch) (p : Pre) (rf : Refs) (th : Word) : Word × Word × Word :=
  if s.run R.LOOP_CFG_DTC_SRC n.val = 1 then invClarke (fromFrame rf.own th) else p.cur.ph

/-- Three on-times in phase order. -/
def three (a b c : Nat) : Vector Nat 3 := ⟨#[a, b, c], rfl⟩

/-- Stages 10 to 15 under FOC (R250 to R253); `vi` is the injection voltage. -/
def State.foc (s : State) (n : Ch) (p : Pre) (rf : Refs) (r : Runs) (vi : Word) : Volt :=
  let f := s.focV n p r
  let th := f32OfAngle p.d.use.angA
  let ab := fromFrame (f32Add f.v.1 (f32Div vi f.k), f.v.2) th
  let x := invClarke ab
  let v0 := s.focV0 n x
  let du := (dutyOf x.1 v0 f.vb, dutyOf x.2.1 v0 f.vb, dutyOf x.2.2 v0 f.vb)
  let go := s.drives n p
  let ic := s.dtcCur n p rf th
  let tm := (s.focTerm n go ic.1, s.focTerm n go ic.2.1, s.focTerm n go ic.2.2)
  let full := s.periodFine n
  let on := if go then three (onTime full du.1 tm.1) (onTime full du.2.1 tm.2.1) (onTime full du.2.2 tm.2.2) else three 0 0 0
  let len := f32Sqrt (f32Add (f32Mul f.v.1 f.v.1) (f32Mul f.v.2 f.v.2))
  let w := s.vWant n p r
  let dtc := decide (s.run R.LOOP_CFG_DTC_EN n.val = 1) && go
  let quo (e : Word) : Word := f32Div (f32Add e v0) f.vb
  let band (e : Word) : Word := if dtc then f32Div e (s.runw R.LOOP_IBAND n.val) else 0#32
  { dq := (f32Mul f.v.1 f.k, f32Mul f.v.2 f.k), ab := (f32Mul ab.1 f.k, f32Mul ab.2 f.k), vmax := f32Mul f.vmax f.k
    mod := f32Div len (f32Div f.vb f32Sqrt3), duty := du, dtc := tm, on := on, v0 := f32Mul v0 f.k, six := none, vlim := f.lim
    nq := if w.2 then f.v.2 else f32Div f.v.2 (f32Div f.vb f32Sqrt3)
    mid := (if w.2 then [] else vLimitMid w.1 f.vmax) ++ [quo x.1, quo x.2.1, quo x.2.2, band ic.1, band ic.2.1, band ic.2.2] }

/-- Six-step output (R254): the applied vector is that of the two legs that carry ±u/2 (log 22); stage 10 limits what the nodes show, the
on-time takes u as it is (log 150). -/
def State.sixStep (s : State) (n : Ch) (p : Pre) (rf : Refs) (r : Runs) : Volt :=
  let i := n.val
  let tg := s.run R.CH_MODE_TARGET i
  let full := s.periodFine n
  let (v, norm) := s.vWant n p r
  let drives := s.drives n p
  let direct := p.d.lead == .chain && decide (tg ≤ 1)
  let back := f32IsNeg (if direct then p.gen.y else rf.own.2)
  let sec := match p.d.sector with
    | some k => k
    | none => if p.sector = 0 then 0 else shiftSector p.sector back
  let sec := if drives then sec else 0
  let quo := if norm then p.gen.y else f32Div v.2 p.vb
  let on := if sec = 0 then 0 else f32ToNat (f32Mul (f32Min (f32Abs quo) f32One) (f32OfNat full))
  let vmax := f32Div (f32Mul (s.runw R.LOOP_MMAX i) p.vb) (if s.svm n then f32Sqrt3 else 0x40000000#32)
  let x := if norm then ((0#32, f32Mul p.gen.y p.vb), false) else vLimit v vmax
  let half := f32Mul x.1.2 f32Half
  let ab := match sectorLegs sec with
    | some (h, l) => let x := place3 h l half (f32Opp half) 0#32; clarke x.1 x.2.1 x.2.2
    | none => (0#32, 0#32)
  { dq := x.1, ab := ab, vmax := vmax, mod := f32Div (vecLen x.1) (f32Div p.vb f32Sqrt3), duty := (0#32, 0#32, 0#32)
    dtc := (0, 0, 0), on := Vector.replicate 3 0, v0 := 0#32, six := some (sec, on), vlim := x.2, nq := quo
    mid := quo :: (if norm then [] else vLimitMid v vmax) }

/-! ### Estimators and checks -/

/-- What the estimators take from the sample (R265, R267, R269). -/
def State.obsIn (s : State) (n : Ch) (p : Pre) : ObsIn :=
  let off := (s.ch n).obs.off
  let own := s.chState n == .starting && s.rd R.SPT_STATUS_SU_PHASE n.val == 3
  { valid := p.valid
    i := p.ab
    iPrev := clarke (s.node n 0x0B) (s.node n 0x0C) (s.node n 0x0D)
    v := if off then s.termV n else some (s.ch n).eng.vOld
    fromTerm := off
    theta := p.d.use.angS
    thetaOk := p.d.use.ok && !own
    omega := p.d.use.w
    omegaOk := p.d.use.wOk && !own }

/-- The estimators in one sample: their records, their transitions, the angles at its start, and the quotient before its clamp
(R264 to R274, R281). -/
structure EstOut where
  obs : Est
  hfi : Est
  inj : Inj
  convO : Bool
  lostO : Bool
  convH : Bool
  lostH : Bool
  /-- The HFI estimator seeded in this sample. -/
  seeded : Bool
  thO : Word
  thH : Word
  mid : Word
deriving DecidableEq, Repr

/-- The estimators' step. -/
def State.estimate (s : State) (n : Ch) (p : Pre) : EstOut :=
  let o := (s.ch n).obs
  let q := s.obsIn n p
  let b := if o.obs.st = 3 ∨ s.noModel n then o.obs else o.obs.begin q true
  let (e, c, l) := if o.obs.st = 3 then (b, false, false) else s.obsStep n q b
  if s.on R.OBS_STATUS_INJECTING n.val then
    let h0 := s.hfiBegin n q o.hfi o.inj
    let seeded := o.hfi.seed && !h0.seed
    let (h, j, ch, lh, m) := s.hfiStep n q seeded h0 o.inj
    ⟨e, h, { j with hist := (p.dq :: j.hist).take 16 }, c, l, ch, lh, seeded, b.th, h0.th, m⟩
  else ⟨e, o.hfi, o.inj, c, l, false, false, false, b.th, o.hfi.th, 0#32⟩

/-- The source that carries the channel (R279), with the weight `w` of the second one. -/
def State.carrier (s : State) (n : Ch) (w : Word) : Nat :=
  if s.fb2 n = 7 then s.fb n else if f32Lt f32Half w then s.fb2 n else s.fb n

/-- The estimators' results enter their registers (R268, R269, R273). -/
def State.putEst (s : State) (n : Ch) (r : EstOut) (p : Pre) : State :=
  let o := (s.ch n).obs
  let s := s.modObs n fun o => { o with obs := r.obs, hfi := r.hfi, inj := r.inj }
  let s := if r.seeded then s.flag R.OBS_STATUS_POL_KNOWN n.val (s.obsIn n p).thetaOk else s
  let s := s.estEvents n false o.obs.tmr r.convO r.lostO
  (s.estEvents n true o.hfi.tmr r.convH r.lostH).obsShow n

/-- The consecutive samples in which sensor `f` has been valid, angle and speed; once they reach SPD_N, only its angle ends them (R279). A stand
member's reference counts as sensor 0 (log 152). -/
def State.sensorRun (s : State) (n : Ch) (q : Samp) (u : Use) (f : Fin 4) : Nat :=
  let k := (s.ch n).obs.good.get f
  let need := s.run R.OBS_CFG_SPD_N n.val
  let v := if s.member n then u else (s.srcVal n q f.val).use
  let used := if s.member n then decide (f.val = 0) else s.fb n == f.val || s.fb2 n == f.val
  if !used || !v.ok then 0 else if need ≤ k then k else if v.wOk then k + 1 else 0

/-- EST_STATE and MASK after the sample (R279), `w` being the weight of the second source: the residual counter is cleared where the state
returns to SAPLING (R278). -/
def State.estState (s : State) (n : Ch) (q : Samp) (u : Use) (w : Word) : State :=
  let i := n.val
  let o := (s.ch n).obs
  let good := Vector.ofFn fun f => s.sensorRun n q u f
  let st := match if s.member n then 0 else s.carrier n w with
    | 4 => o.obs.st % 3
    | 5 => o.hfi.st % 3
    | f => if s.run R.OBS_CFG_SPD_N i ≤ good[f]?.getD 0 then 2 else 0
  let was := s.rd R.OBS_STATUS_EST_STATE i
  let s := s.modObs n fun o => { o with good := good }
  let s := s.wrs i [(R.OBS_STATUS_EST_STATE, st), (R.OBS_STATUS_MASK, if st = 0 ∧ o.obs.out = false ∧ o.hfi.out = false then 1 else 0)]
  if was ≠ 0 ∧ st = 0 then s.pcPut n 0 0 else s

/-- The twin is evaluated in the sample (R276); `ran` says that S0 and S1 ran. -/
def State.twinOn (s : State) (n : Ch) (p : Pre) (ran : Bool) : Bool :=
  s.run R.CH_MODE_COMM n.val == 1 && p.valid && ran && (s.ch n).obs.ran && !s.noModel n && p.d.use.ok && p.d.use.wOk &&
    !s.on R.OBS_STATUS_MASK n.val

/-- The twin's nodes and filtered residuals, where it is evaluated (R275). -/
def State.twinRun (s : State) (n : Ch) (p : Pre) : (Word × Word) × (Word × Word) :=
  let th := f32OfAngle p.d.use.angS
  let o := (s.ch n).obs
  s.twin n p.dq (toFrame (s.node n 0x20, s.node n 0x21) th) (toFrame (s.ch n).eng.vOld th) p.d.use.w o.rf

/-- The residual check and LOAD_LIMIT (R277, R280). -/
def State.residuals (s : State) (n : Ch) (rf : Word × Word) (ilim : Bool) : State :=
  let i := n.val
  let mx := s.runw R.OBS_RES_MAX i
  let bad := f32Lt mx (f32Abs rf.1) || f32Lt mx (f32Abs rf.2)
  let ll := ilim && !bad
  let s := if ll && !s.on R.OBS_STATUS_LOAD_LIMIT i then s.wr R.OBS_IRQ_LOAD_LIMIT i 1 else s
  (s.flag R.OBS_STATUS_LOAD_LIMIT i ll).pcEval n 0 bad

/-- The two angles that the disagreement checks compare (R280). -/
def State.checkPair (s : State) (n : Ch) (q : Samp) : Option (SrcVal × SrcVal) :=
  let conv (f : Nat) : Bool :=
    match f with
    | 4 => (s.ch n).obs.obs.st == 2
    | 5 => (s.ch n).obs.hfi.st == 2
    | _ => true
  let b := if s.fb2 n ≠ 7 then some (s.fb2 n) else if s.run R.OBS_CFG_SHADOW n.val = 1 ∧ s.fb n ≠ 4 then some 4 else none
  match b with
  | none => none
  | some b =>
    let x := s.srcVal n q (s.fb n)
    let y := s.srcVal n q b
    if x.ok && y.ok && conv (s.fb n) && conv b then some (x, y) else none

/-- The angle and speed disagreement checks (R280), and their differences. -/
def State.disagree (s : State) (n : Ch) (x y : SrcVal) : State :=
  let i := n.val
  let d := angleDiff x.angS y.angS
  let s := s.pcEval n 1 (decide (s.run R.OBS_ANG_XANG_MAX i * 65536 < d.natAbs * 720))
  if x.spdOk && y.spdOk then
    let lim := f32Add (s.runw R.OBS_SPD_ABS i) (f32Mul (s.runw R.OBS_SPD_REL i) (f32Max (f32Abs x.spd) (f32Abs y.spd)))
    s.pcEval n 2 (f32Lt lim (f32Abs (f32Sub x.spd y.spd)))
  else s

/-! ### Write-back (stages 16 to 18) -/

/-- The nodes that hold no F32 value (R261, R281, R464). -/
def intNode (k : Nat) : Bool :=
  decide (k < 6) || k == 0x09 || k == 0x0A || k == 0x10 || k == 0x11 || k == 0x13 ||
  (decide (0x40 ≤ k) && decide (k < 0xA0) && decide (0xB ≤ k % 16)) || (decide (0xB3 ≤ k) && decide (k ≤ 0xB8)) || k == 0xBA || k == 0xBB ||
  k == 0xC0 || k == 0xC1 || k == 0xC9 || (decide (0xD7 ≤ k) && decide (k ≤ 0xD9)) || k == 0xE0 || k == 0xE1 || k == 0xE3 || k == 0xE8 ||
  decide (0xEB ≤ k)

/-- An integer as a node word. -/
def iw (v : Int) : Word := BitVec.ofInt 32 v

/-- Bits of a node: each condition with its weight. -/
def bits (l : List (Bool × Nat)) : Word := wd ((l.map fun e => if e.1 then e.2 else 0).foldl (· + ·) 0)

/-- The nodes 0x000 to 0x03F of a sample (R261). -/
def State.nodesA (s : State) (n : Ch) (q : Samp) (p : Pre) (rf : Refs) (v : Volt) : List (Nat × Word) :=
  let i := n.val
  let u := p.d.use
  let tg := s.run R.CH_MODE_TARGET i
  let spd := if 3 ≤ tg then p.gen.y else 0#32
  let e := (s.ch n).eng.ext
  [(0, wd (s.rd R.ADC_IA_RAW i)), (1, wd (s.rd R.ADC_IB_RAW i)), (2, wd (s.rd R.ADC_IC_RAW i)),
   (3, iw (signed13 (s.rd R.ADC_IA_CORR i))), (4, iw (signed13 (s.rd R.ADC_IB_CORR i))), (5, iw (signed13 (s.rd R.ADC_IC_CORR i))),
   (6, p.cur.adc.1), (7, p.cur.adc.2.1), (8, p.cur.adc.2.2),
   (0x09, bits [(s.on R.ADC_IA_VALID i, 1), (s.on R.ADC_IB_VALID i, 2), (s.on R.ADC_IC_VALID i, 4), (p.valid, 8), (p.cur.recon, 16)]),
   (0x0A, wd (if s.run R.CH_MODE_SENSE i = 2 then q.p1 % 4 + q.p3 % 4 * 16 else 0)), (0x0E, p.raw), (0x0F, p.vb),
   (0x10, wd u.angS), (0x11, wd u.angA), (0x12, okSpd u.wOk u.w), (0x13, bits [(u.ok, 1), (u.wOk, 2), (true, p.sector * 16)]),
   (0x0B, p.cur.ph.1), (0x0C, p.cur.ph.2.1), (0x0D, p.cur.ph.2.2), (0x20, p.ab.1), (0x21, p.ab.2), (0x22, p.dq.1), (0x23, p.dq.2), (0x24, v.ab.1), (0x25, v.ab.2), (0x26, v.dq.1), (0x27, v.dq.2),
   (0x28, v.vmax), (0x29, v.mod), (0x2A, vecLen p.dq), (0x30, p.gen.y), (0x31, s.rdw R.LOOP_IDREF_REF i), (0x32, s.rdw R.LOOP_VDREF_REF i),
   (0x33, p.gen.a), (0x34, spd), (0x35, rf.idMtpa), (0x36, rf.idFw), (0x37, rf.id), (0x38, rf.iq), (0x39, rf.iqLim),
   (0x3A, e[0]), (0x3B, e[1]), (0x3C, e[2]), (0x3D, e[3]), (0x3E, e[4]), (0x3F, e[5])]

/-- The nodes 0x0A0 to 0x0BB of a sample, and those of the slices (R261). -/
def State.nodesB (s : State) (n : Ch) (p : Pre) (v : Volt) (r : Runs) : List (Nat × Word) :=
  let sl := sliceIds.flatMap fun k =>
    let o := r.outs.lookup k.val
    let runs := (s.node n (0x4C + 0x10 * k.val)).toNat + (if o.isSome then 1 else 0)
    let x := r.slices.get k
    sliceNodes k.val (if (s.ch n).loopDead then { x with out := 0#32 } else x) runs o
  let six := v.six.getD (0, 0)
  sl ++
  [(0xA0, s.ffTerm n p 0), (0xA1, s.ffTerm n p 1), (0xA2, s.ffTerm n p 2), (0xB0, v.duty.1), (0xB1, v.duty.2.1), (0xB2, v.duty.2.2),
   (0xB3, iw v.dtc.1), (0xB4, iw v.dtc.2.1), (0xB5, iw v.dtc.2.2), (0xB6, wd v.on[0]), (0xB7, wd v.on[1]), (0xB8, wd v.on[2]),
   (0xB9, v.v0), (0xBA, wd six.1), (0xBB, wd six.2)]

/-- The observer and twin nodes (R281), and the stand nodes (R464). -/
def State.nodesC (s : State) (n : Ch) (p : Pre) (rf : Refs) (tw : Option ((Word × Word) × (Word × Word)))
    (pair : Option (SrcVal × SrcVal)) (es : EstOut) (vi : Word) : List (Nat × Word) :=
  let i := n.val
  let o := (s.ch n).obs
  let car := s.carrier n p.w
  let tmr := match (if car = 5 then o.hfi.tmr else o.obs.tmr) with | some t => if car = 4 ∨ car = 5 then (s.now - t) / 400000 else 0 | none => 0
  let g := (s.ch n).gang
  let mem := s.member n
  let lead := s.run R.CH_MODE_GANG i == 1
  let use := g.use
  [(0xC0, bits [(true, o.obs.st), (true, o.hfi.st * 4), (true, s.rd R.OBS_STATUS_EST_STATE i * 16), (s.on R.OBS_STATUS_MASK i, 64),
     (s.on R.OBS_STATUS_POL_KNOWN i, 128), (s.on R.OBS_STATUS_INJECTING i, 256)]),
   (0xC1, wd (angleOfRad es.thO)), (0xC2, o.obs.wRaw), (0xC3, o.obs.wF), (0xC4, o.obs.eG), (0xC5, o.obs.eD), (0xC6, vecLen (o.obs.eG, o.obs.eD)),
   (0xC7, o.obs.eps), (0xC8, o.obs.pi), (0xC9, wd (angleOfRad es.thH)), (0xCA, o.hfi.wF), (0xCB, o.hfi.eG), (0xCC, o.hfi.eD),
   (0xCD, o.hfi.eps), (0xCE, vi), (0xCF, o.inj.q), (0xD6, o.vbx), (0xD7, s.rdw R.OBS_PCNT_A_C i), (0xD8, s.rdw R.OBS_PCNT_B_C i), (0xD9, wd (min tmr 65535))] ++
  (match tw with | some t => [(0xD0, t.1.1), (0xD1, t.1.2), (0xD2, t.2.1), (0xD3, t.2.2)] | none => []) ++
  (match pair with
   | some (x, y) => [(0xD4, f32Mul (f32OfScaled (angleDiff x.angS y.angS) (-15)) f32Pi), (0xD5, f32Sub x.spd y.spd)]
   | none => []) ++
  [(0xE0, bits [(true, s.rd R.GANG_STATUS_SSTATE i), (s.on R.GANG_STATUS_REF_OK i, 4), (true, (match use with | some r => r.cmd | none => 0) * 8),
     (true, s.rd R.GANG_STATUS_MISS_RUN i * 128)]),
   (0xE1, wd (if mem then (match use with | some r => r.theta | none => 0) else if lead then p.d.use.angS else 0)),
   (0xE2, if mem then (match use with | some r => r.omega | none => 0#32) else if lead then okSpd p.d.use.wOk p.d.use.w else 0#32),
   (0xE3, wd (if mem then (match use with | some r => r.tRef / 32 | none => 0) else if lead then g.tk / 32 else 0)),
   (0xE4, if lead then rf.id else 0#32), (0xE5, if lead then rf.iq else 0#32),
   (0xE6, if mem then (match use with | some r => r.id | none => 0#32) else if lead then rf.own.1 else 0#32),
   (0xE7, if mem then (match use with | some r => r.iq | none => 0#32) else if lead then rf.own.2 else 0#32),
   (0xE8, iw (if mem then min (g.margin * 5 / 64) (2 ^ 31 - 1) else 0)), (0xE9, g.sum.1), (0xEA, g.sum.2),
   (0xEB, wd (if mem then (match use with | some r => r.frame | none => 0) else g.frame % 65536))]

/-- Every F32 value the engine produced is finite (R255, R264), those behind a clamp, a comparison or a quotient included (log 153). -/
def State.finite (s : State) (n : Ch) (nodes : List (Nat × Word)) (p : Pre) (rf : Refs) (v : Volt) (r : Runs) (e : EstOut) : Bool :=
  let est (x : Est) : Bool := [x.th, x.pi, x.wRaw, x.wF, x.eG, x.eD, x.eps].all f32IsFinite
  nodes.all (fun k => intNode k.1 || f32IsFinite k.2) &&
    r.slices.toList.all (fun x => f32IsFinite x.i && f32IsFinite x.d && f32IsFinite x.x && f32IsFinite x.out) &&
    est e.obs && est e.hfi && (v.mid ++ rf.mid ++ p.gen.mid ++ r.outs.flatMap fun o => [o.2.raw, o.2.sum]).all f32IsFinite &&
    [e.mid, rf.want, p.vf.getD 0#32].all f32IsFinite && f32IsFinite (s.rdw R.SPT_OUT n.val) && f32IsFinite (s.rdw R.SPT_OUT_ACC n.val)

/-- The SAMPLE event of the Grove core, with the overrun of R317. -/
def State.sampleEvent (s : State) (n : Ch) : State :=
  let i := n.val
  if s.bit R.GRV_EVT_PEND i 0 then
    let s := (s.inc R.GRV_PERF_OVR i).wr R.GRV_IRQ_OVERRUN i 1
    if s.on R.GRV_CFG_OVR_FAULT i then s.raiseCh n oGrvOverrun 0 else s
  else s.grvEvent n 0

/-- Stage 18: the duty in the shadows (R16, R17), late where less than 10 ns remain of the period (R18); a later sector takes the place of
one that waits, and one that is in force and shown as such changes nothing (R156). -/
def State.shadowWrite (s : State) (n : Ch) (q : Samp) (v : Volt) (r : Runs) : State :=
  let full := s.periodFine n
  let s5 := if (s.run R.LOOP_CFG_EN n.val).testBit 5 && !(s.ch n).loopDead then f32Clamp (r.slices.get 5).out 0#32 f32One else 0#32
  let brk := f32ToNat (f32Mul s5 (f32OfNat full))
  let d : Duty := match v.six with
    | some (_, on) => ⟨#v[on, 0, 0], true, brk⟩
    | none => ⟨v.on, false, brk⟩
  let s := s.modCh n fun c =>
    { c with
      car.shadow := some d
      car.shadowLate := decide (c.car.per < c.car.pos + 128)
      car.came := c.car.came || decide (q.no = c.car.opened) }
  match v.six with
  | some (k, _) =>
    let same := decide (s.rd R.PWM_STATUS_SECTOR n.val = k) && decide ((s.ch n).car.sector = k)
    s.modCh n fun c => { c with car.pendSector := if same then none else some k }
  | none => s

/-- LOOP.STATUS, its events and the counters of a sample (R238, R240, R262). -/
def State.loopShow (s : State) (n : Ch) (p : Pre) (rf : Refs) (v : Volt) (r : Runs) : State :=
  let i := n.val
  let ran := (r.outs.map fun o => 2 ^ o.1).foldl (· + ·) 0
  let lat := 240 + 20 * r.outer
  let s := if v.vlim && !s.on R.LOOP_STATUS_VLIM i then s.wr R.LOOP_IRQ_VLIM i 1 else s
  let s := if rf.limited && !s.on R.LOOP_STATUS_ILIM i then s.wr R.LOOP_IRQ_ILIM i 1 else s
  let b (c : Bool) : Nat := if c then 1 else 0
  let s := s.wrs i [(R.LOOP_STATUS_VLIM, b v.vlim), (R.LOOP_STATUS_ILIM, b rf.limited), (R.LOOP_STATUS_VBUS_FLOOR, b p.floor),
    (R.LOOP_STATUS_FW_ACTIVE, b (f32IsNeg rf.idFw)), (R.LOOP_STATUS_CUR_VALID, b p.valid), (R.LOOP_STATUS_RAN, ran),
    (R.LOOP_LAT_LAST, lat), (R.LOOP_LAT_MAX, max lat (s.rd R.LOOP_LAT_MAX i)), (R.LOOP_SAMPLE_N, p.idx)]
  let s := if p.valid then s else s.wr R.LOOP_IRQ_CUR_INVALID i 1
  if (r.outs.map (·.2)).any fun o => o.preloaded && o.intClamped then s.wr R.CH_IRQ_HO_CLAMPED i 1 else s

/-- The run of invalid samples and LOOP_NOFB (R240, R533). -/
def State.noFeedback (s : State) (n : Ch) (p : Pre) : State :=
  let i := n.val
  let bad := !p.valid && decide (p.chain % 4 ≠ 0)
  let s := if bad then s.inc R.LOOP_CNT_INVALID i else s
  let k := if bad then min ((s.ch n).eng.inv + 1) 15 else 0
  let s := s.modEng n fun e => { e with inv := k }
  s.condSet (srcCh i oLoopNofb) (decide (s.run R.LOOP_CFG_NOCUR_N i ≤ k))

/-- The fields of OBS.STATUS (R282). -/
def obsStatus : List Fld :=
  [R.OBS_STATUS_OBS_STATE, R.OBS_STATUS_HFI_STATE, R.OBS_STATUS_EST_STATE, R.OBS_STATUS_MASK, R.OBS_STATUS_TIMED_OUT, R.OBS_STATUS_POL_KNOWN,
   R.OBS_STATUS_POL_FLIPPED, R.OBS_STATUS_INJECTING, R.OBS_STATUS_LOAD_LIMIT]

/-- A non-finite sample (R255, R264): it writes no duty; slice states, estimators and nodes return to what they were in `s0`, before it. It has
its index, shows in LOOP.STATUS and, where it is invalid, counts as such (R240, R247). -/
def State.discard (s : State) (n : Ch) (s0 : State) : State :=
  let c0 := s0.ch n
  let s := s.modCh n fun c => { c with eng := { c0.eng with next := c.eng.next, slices := c.eng.slices, inv := c.eng.inv }, obs := c0.obs }
  let s := s.wrs n.val (obsStatus.map fun f => (f, s0.rd f n.val))
  let s := sliceIds.foldl (fun s k =>
    let o := c0.eng.slices.get k
    s.putSlice n k { s.slice n k with i := o.i, d := o.d, x := o.x, out := o.out, active := o.active }) s
  ((s.trcGap n none).inc R.LOOP_CNT_NONFINITE n.val).raiseCh n oLoopNonfinite 0

/-- The write-back of the engine's own state (R261): `late` are the nodes 0x0F0 to 0x0F3. -/
def State.engineWrite (s : State) (n : Ch) (p : Pre) (r : Runs) (nodes : List (Nat × Word)) : State :=
  let bad := !p.valid
  let inv := if bad then min ((s.node n 0xF2).toNat + 1) 15 else 0
  let late := [(0xF0, wd p.idx), (0xF1, wd (240 + 20 * r.outer)), (0xF2, wd inv), (0xF3, wd ((s.node n 0xF3).toNat + 1))]
  let v1 := (s.node n 0x24, s.node n 0x25)
  s.modEng n fun e =>
    { e with
      slices := r.slices
      nodes := putNodes e.nodes (nodes ++ late)
      vf := p.vf
      vOld := v1
      posAt := if (r.outs.lookup 3).isSome then (s.ch n).spt.mpos else e.posAt
      hb := true }

/-- Nodes 0x0D7 and 0x0D8 show the counters as the sample's checks left them (R281). -/
def State.checkNodes (s : State) (n : Ch) : State :=
  s.modEng n fun e => { e with nodes := putNodes e.nodes [(0xD7, s.rdw R.OBS_PCNT_A_C n.val), (0xD8, s.rdw R.OBS_PCNT_B_C n.val)] }

/-- Stages 6 to 18 on what `front` gives; `s0` is the state before the sample. -/
def State.back (s : State) (n : Ch) (q : Samp) (p : Pre) (s0 : State) : State :=
  let i := n.val
  let es := s.estimate n p
  let r := s.outer n p
  let rf := s.refs n p r
  let r := s.inner n p rf r
  let vi := if p.d.lead = .idle ∨ s.run R.CH_MODE_COMM i = 0 then 0#32 else s.injV n es.inj
  let v := if s.run R.CH_MODE_COMM i = 1 then s.foc n p rf r vi else s.sixStep n p rf r
  let pair := if p.valid then s.checkPair n q else none
  let ran := (r.outs.lookup 0).isSome && (r.outs.lookup 1).isSome
  let t := (s.putEst n es p).estState n q p.d.use p.w
  let tw := if t.twinOn n p ran then some (t.twinRun n p) else none
  let nodes := t.nodesA n q p rf v ++ t.nodesB n p v r ++ t.nodesC n p rf tw pair es vi
  if !t.finite n nodes p rf v r es then ((s.loopShow n p rf v r).noFeedback n p).discard n s0
  else
    let s := ((t.loopShow n p rf v r).noFeedback n p).engineWrite n p r nodes
    let s := s.modObs n fun o => { o with rf := tw.map (·.2), ran := ran && p.valid }
    let s := s.modSpt n fun t => { t with app := v.nq }
    let s := s.condSet (srcCh i oLoopHb) false
    let s := match tw with | some t => s.residuals n t.2 rf.limited | none => s.wr R.OBS_STATUS_LOAD_LIMIT i 0
    let s := match pair with | some (x, y) => s.disagree n x y | none => s
    let s := (s.homingLate n p.d.use p.iq).stopCheck n
    let s := (s.checkNodes n).sampleEvent n
    let s := s.traceSample n p.idx p.tick
    s.shadowWrite n q v r

/-- The loop engine runs in the present state (R238). -/
def State.engineRuns (s : State) (n : Ch) : Bool := decide (2 ≤ (s.chState n).code) && s.chState n != .limp

/-- One sample. -/
def State.engineSample (s : State) (n : Ch) (q : Samp) : State :=
  let s := s.modCh n fun c => { c with sense.samp := none }
  let (t, p) := s.front n q
  (t.back n q p s).settleAll

/-- LOOP_ENGINE_SAMPLE (R237): the results of a held sample have arrived. -/
def execLoopEngineSample (n : Ch) (s : State) : Host.Outcome State Fault Refusal :=
  .next (s.whenCh n fun s =>
    match (s.ch n).sense.samp with
    | some q => if q.conv && s.engineRuns n then s.engineSample n q else s
    | none => s)

/-- HOMING_TIMEOUT (R302): HOME_CFG.TMAX has passed. -/
def execHomingTimeout (n : Ch) (s : State) : Host.Outcome State Fault Refusal :=
  .next (s.whenCh n fun s =>
    if !(s.ch n).homeRun then s
    else
      match s.holder n.val with
      | some k => if (s.job k).typ = jHoming then s.jobFail k cTimeout else s
      | none => s)

end Sys2Proof.Machine
end

