-- ==== Sys2Proof/Machine/GrvCode.lean ====
section
/-! DEFINITION. The instructions of the Grove cores and their words (R308, R309, R312). -/

namespace Sys2Proof.Machine

/-- A Grove register number. -/
abbrev GReg := BitVec 4

/-- The 18-bit immediate of format I. -/
abbrev GImm := BitVec 18

/-- A program address. -/
abbrev GAddr := BitVec 14

/-- The operations of format R with three registers. -/
inductive GAlu where
  | add | sub | and | or | xor | shl | shr | sar | mul | min | max
  | fadd | fsub | fmul | fdiv | fmin | fmax | fclamp
deriving DecidableEq, Repr

/-- The operations of format R with one source. -/
inductive GUn where
  | fsqrt | fabs | fneg | itof | ftoi
deriving DecidableEq, Repr

/-- The operations of format I on a register and an immediate. -/
inductive GImmOp where
  | addi | andi | ori | xori | shli | shri | sari
deriving DecidableEq, Repr

/-- The accesses of format I, whose address is ra + imm18. -/
inductive GAcc where
  | ld | st | nrd | nwr | crd | cwr | brd | bwr | jpost
deriving DecidableEq, Repr

/-- A Grove instruction: the fields that the format table marks "—" are no part of it. -/
inductive GOp where
  | nop
  | stop
  | ret
  | alu (o : GAlu) (rd ra rb : GReg)
  | un (o : GUn) (rd ra : GReg)
  | immOp (o : GImmOp) (rd ra : GReg) (i : GImm)
  | acc (o : GAcc) (rd ra : GReg) (i : GImm)
  | cmp (ra rb : GReg)
  | fcmp (ra rb : GReg)
  | cmpi (ra : GReg) (i : GImm)
  | tset (ra : GReg) (i : GImm)
  | msg (rd ra rb : GReg) (len : BitVec 6)
  | lui (rd : GReg) (i : BitVec 16)
  | b (cond : BitVec 4) (t : GAddr)
  | call (t : GAddr)
  | jr (ra : GReg)
  | wfe (rd : GReg) (i : GImm)
  | kick (ra : GReg)
  | sev (i : GImm)
deriving DecidableEq, Repr

/-- The opcode of a three-register operation. -/
def GAlu.code : GAlu → BitVec 6
  | .add => 0x02#6 | .sub => 0x03#6 | .and => 0x04#6 | .or => 0x05#6 | .xor => 0x06#6 | .shl => 0x07#6 | .shr => 0x08#6
  | .sar => 0x09#6 | .mul => 0x0A#6 | .min => 0x0C#6 | .max => 0x0D#6 | .fadd => 0x20#6 | .fsub => 0x21#6 | .fmul => 0x22#6
  | .fdiv => 0x23#6 | .fmin => 0x24#6 | .fmax => 0x25#6 | .fclamp => 0x2C#6

/-- The opcode of a one-source operation. -/
def GUn.code : GUn → BitVec 6
  | .fsqrt => 0x27#6 | .fabs => 0x28#6 | .fneg => 0x29#6 | .itof => 0x2A#6 | .ftoi => 0x2B#6

/-- The opcode of an immediate operation. -/
def GImmOp.code : GImmOp → BitVec 6
  | .addi => 0x12#6 | .andi => 0x14#6 | .ori => 0x15#6 | .xori => 0x16#6 | .shli => 0x17#6 | .shri => 0x18#6 | .sari => 0x19#6

/-- The opcode of an access. -/
def GAcc.code : GAcc → BitVec 6
  | .ld => 0x30#6 | .st => 0x31#6 | .nrd => 0x32#6 | .nwr => 0x33#6 | .crd => 0x34#6 | .cwr => 0x35#6 | .brd => 0x36#6
  | .bwr => 0x37#6 | .jpost => 0x0E#6

/-- A word of format R. -/
def wordR (op : BitVec 6) (rd ra rb : GReg) (low : BitVec 14) : Word := op ++ rd ++ ra ++ rb ++ low

/-- A word of format I. -/
def wordI (op : BitVec 6) (rd ra : GReg) (i : GImm) : Word := op ++ rd ++ ra ++ i

/-- The word of an instruction, ignored fields 0 as the assembler writes them (R308). -/
def GOp.encode : GOp → Word
  | .nop => wordI 0x01#6 0 0 0
  | .stop => wordI 0x0F#6 0 0 0
  | .ret => wordI 0x3A#6 0 0 0
  | .alu o rd ra rb => wordR o.code rd ra rb 0
  | .un o rd ra => wordR o.code rd ra 0 0
  | .immOp o rd ra i => wordI o.code rd ra i
  | .acc o rd ra i => wordI o.code rd ra i
  | .cmp ra rb => wordR 0x0B#6 0 ra rb 0
  | .fcmp ra rb => wordR 0x26#6 0 ra rb 0
  | .cmpi ra i => wordI 0x13#6 0 ra i
  | .tset ra i => wordI 0x10#6 0 ra i
  | .msg rd ra rb len => wordR 0x11#6 rd ra rb (len ++ 0#8)
  | .lui rd i => wordI 0x1E#6 rd 0 (0#2 ++ i)
  | .b c t => wordI 0x38#6 c 0 (0#4 ++ t)
  | .call t => wordI 0x39#6 0 0 (0#4 ++ t)
  | .jr ra => wordR 0x3B#6 0 ra 0 0
  | .wfe rd i => wordI 0x3C#6 rd 0 i
  | .kick ra => wordR 0x3D#6 0 ra 0 0
  | .sev i => wordI 0x3E#6 0 0 i

/-- The instruction a word spells, `none` for an illegal one: an opcode not listed, a condition code 13 to 15, a CALL with a non-zero cond
field (R309, R312, R322). -/
def gDecode (w : Word) : Option GOp :=
  let op := (w.extractLsb' 26 6).toNat
  let rd : GReg := w.extractLsb' 22 4
  let ra : GReg := w.extractLsb' 18 4
  let rb : GReg := w.extractLsb' 14 4
  let i : GImm := w.extractLsb' 0 18
  let t : GAddr := w.extractLsb' 0 14
  if op < 0x10 then
    match op with
    | 0x01 => some .nop
    | 0x02 => some (.alu .add rd ra rb)
    | 0x03 => some (.alu .sub rd ra rb)
    | 0x04 => some (.alu .and rd ra rb)
    | 0x05 => some (.alu .or rd ra rb)
    | 0x06 => some (.alu .xor rd ra rb)
    | 0x07 => some (.alu .shl rd ra rb)
    | 0x08 => some (.alu .shr rd ra rb)
    | 0x09 => some (.alu .sar rd ra rb)
    | 0x0A => some (.alu .mul rd ra rb)
    | 0x0B => some (.cmp ra rb)
    | 0x0C => some (.alu .min rd ra rb)
    | 0x0D => some (.alu .max rd ra rb)
    | 0x0E => some (.acc .jpost rd ra i)
    | 0x0F => some .stop
    | _ => none
  else if op < 0x20 then
    match op with
    | 0x10 => some (.tset ra i)
    | 0x11 => some (.msg rd ra rb (w.extractLsb' 8 6))
    | 0x12 => some (.immOp .addi rd ra i)
    | 0x13 => some (.cmpi ra i)
    | 0x14 => some (.immOp .andi rd ra i)
    | 0x15 => some (.immOp .ori rd ra i)
    | 0x16 => some (.immOp .xori rd ra i)
    | 0x17 => some (.immOp .shli rd ra i)
    | 0x18 => some (.immOp .shri rd ra i)
    | 0x19 => some (.immOp .sari rd ra i)
    | 0x1E => some (.lui rd (w.extractLsb' 0 16))
    | _ => none
  else if op < 0x30 then
    match op with
    | 0x20 => some (.alu .fadd rd ra rb)
    | 0x21 => some (.alu .fsub rd ra rb)
    | 0x22 => some (.alu .fmul rd ra rb)
    | 0x23 => some (.alu .fdiv rd ra rb)
    | 0x24 => some (.alu .fmin rd ra rb)
    | 0x25 => some (.alu .fmax rd ra rb)
    | 0x26 => some (.fcmp ra rb)
    | 0x27 => some (.un .fsqrt rd ra)
    | 0x28 => some (.un .fabs rd ra)
    | 0x29 => some (.un .fneg rd ra)
    | 0x2A => some (.un .itof rd ra)
    | 0x2B => some (.un .ftoi rd ra)
    | 0x2C => some (.alu .fclamp rd ra rb)
    | _ => none
  else
    match op with
    | 0x30 => some (.acc .ld rd ra i)
    | 0x31 => some (.acc .st rd ra i)
    | 0x32 => some (.acc .nrd rd ra i)
    | 0x33 => some (.acc .nwr rd ra i)
    | 0x34 => some (.acc .crd rd ra i)
    | 0x35 => some (.acc .cwr rd ra i)
    | 0x36 => some (.acc .brd rd ra i)
    | 0x37 => some (.acc .bwr rd ra i)
    | 0x38 => if 13 ≤ rd.toNat then none else some (.b rd t)
    | 0x39 => if rd = 0 then some (.call t) else none
    | 0x3A => some .ret
    | 0x3B => some (.jr ra)
    | 0x3C => some (.wfe rd i)
    | 0x3D => some (.kick ra)
    | 0x3E => some (.sev i)
    | _ => none

/-- The instruction is one that a word can spell: a branch has a condition code of R309. -/
def GOp.wf : GOp → Bool
  | .b c _ => decide (c.toNat < 13)
  | _ => true

end Sys2Proof.Machine
end

