-- ==== Sys2Proof/Machine/Sig.lean ====
section
/-! DEFINITION. The signature check of images and patches: SHA-256 and ECDSA over P-256 (R328, R508), as the standards named in
chapter 00_scope define them. -/

namespace Sys2Proof.Machine

/-! ### SHA-256 -/

/-- The round constants. -/
def shaK0 : List Word :=
  [0x428a2f98#32, 0x71374491#32, 0xb5c0fbcf#32, 0xe9b5dba5#32, 0x3956c25b#32, 0x59f111f1#32, 0x923f82a4#32, 0xab1c5ed5#32,
   0xd807aa98#32, 0x12835b01#32, 0x243185be#32, 0x550c7dc3#32, 0x72be5d74#32, 0x80deb1fe#32, 0x9bdc06a7#32, 0xc19bf174#32]

def shaK1 : List Word :=
  [0xe49b69c1#32, 0xefbe4786#32, 0x0fc19dc6#32, 0x240ca1cc#32, 0x2de92c6f#32, 0x4a7484aa#32, 0x5cb0a9dc#32, 0x76f988da#32,
   0x983e5152#32, 0xa831c66d#32, 0xb00327c8#32, 0xbf597fc7#32, 0xc6e00bf3#32, 0xd5a79147#32, 0x06ca6351#32, 0x14292967#32]

def shaK2 : List Word :=
  [0x27b70a85#32, 0x2e1b2138#32, 0x4d2c6dfc#32, 0x53380d13#32, 0x650a7354#32, 0x766a0abb#32, 0x81c2c92e#32, 0x92722c85#32,
   0xa2bfe8a1#32, 0xa81a664b#32, 0xc24b8b70#32, 0xc76c51a3#32, 0xd192e819#32, 0xd6990624#32, 0xf40e3585#32, 0x106aa070#32]

def shaK3 : List Word :=
  [0x19a4c116#32, 0x1e376c08#32, 0x2748774c#32, 0x34b0bcb5#32, 0x391c0cb3#32, 0x4ed8aa4a#32, 0x5b9cca4f#32, 0x682e6ff3#32,
   0x748f82ee#32, 0x78a5636f#32, 0x84c87814#32, 0x8cc70208#32, 0x90befffa#32, 0xa4506ceb#32, 0xbef9a3f7#32, 0xc67178f2#32]

/-- The eight words of the hash state. -/
structure Sha where
  a : Word
  b : Word
  c : Word
  d : Word
  e : Word
  f : Word
  g : Word
  h : Word
deriving DecidableEq, Repr

/-- The initial hash state. -/
def Sha.init : Sha :=
  ⟨0x6a09e667#32, 0xbb67ae85#32, 0x3c6ef372#32, 0xa54ff53a#32, 0x510e527f#32, 0x9b05688c#32, 0x1f83d9ab#32, 0x5be0cd19#32⟩

/-- One round with constant `k` and message word `w`. -/
def Sha.round (s : Sha) (k w : Word) : Sha :=
  let s1 := s.e.rotateRight 6 ^^^ s.e.rotateRight 11 ^^^ s.e.rotateRight 25
  let ch := (s.e &&& s.f) ^^^ (~~~ s.e &&& s.g)
  let t1 := s.h + s1 + ch + k + w
  let s0 := s.a.rotateRight 2 ^^^ s.a.rotateRight 13 ^^^ s.a.rotateRight 22
  let mj := (s.a &&& s.b) ^^^ (s.a &&& s.c) ^^^ (s.b &&& s.c)
  ⟨t1 + s0 + mj, s.a, s.b, s.c, s.d + t1, s.e, s.f, s.g⟩

/-- The message word that follows a window of sixteen. -/
def shaNext (l : List Word) : Word :=
  let x := l.getD 1 0
  let y := l.getD 14 0
  l.getD 0 0 + (x.rotateRight 7 ^^^ x.rotateRight 18 ^^^ x >>> 3) + l.getD 9 0 + (y.rotateRight 17 ^^^ y.rotateRight 19 ^^^ y >>> 10)

/-- The rounds of one block over the constants left, the window of message words at `l`. -/
def shaRounds : List Word → List Word → Sha → Sha
  | [], _, s => s
  | k :: ks, l, s => shaRounds ks (l.drop 1 ++ [shaNext l]) (s.round k (l.getD 0 0))

/-- One block of sixteen words. -/
def Sha.block (s : Sha) (l : List Word) : Sha :=
  let t := shaRounds (shaK0 ++ shaK1 ++ shaK2 ++ shaK3) l s
  ⟨s.a + t.a, s.b + t.b, s.c + t.c, s.d + t.d, s.e + t.e, s.f + t.f, s.g + t.g, s.h + t.h⟩

/-- `n` blocks. -/
def shaBlocks : Nat → List Word → Sha → Sha
  | 0, _, s => s
  | n + 1, l, s => shaBlocks n (l.drop 16) (s.block (l.take 16))

/-- SHA-256 of a message of whole words, each most significant byte first: eight words. -/
def sha256 (m : List Word) : List Word :=
  let n := m.length
  let p := m ++ [0x80000000#32] ++ List.replicate ((29 - n % 16) % 16) 0#32 ++ [wd (32 * n / 2 ^ 32), wd (32 * n)]
  let s := shaBlocks (p.length / 16) p Sha.init
  [s.a, s.b, s.c, s.d, s.e, s.f, s.g, s.h]

/-- A big-endian number of whole words. -/
def beNat (l : List Word) : Nat := l.foldl (fun v w => v * 2 ^ 32 + w.toNat) 0

/-! ### ECDSA over P-256 -/

/-- The field's prime, the group's order, the curve's coefficient b (a is −3) and the base point. -/
def p256P : Nat := 0xffffffff00000001000000000000000000000000ffffffffffffffffffffffff
def p256N : Nat := 0xffffffff00000000ffffffffffffffffbce6faada7179e84f3b9cac2fc632551
def p256B : Nat := 0x5ac635d8aa3a93e7b3ebbd55769886bc651d06b0cc53b0f63bce3c3e27d2604b
def p256Gx : Nat := 0x6b17d1f2e12c4247f8bce6e563a440f277037d812deb33a0f4a13945d898c296
def p256Gy : Nat := 0x4fe342e2fe1a7f9b8ee7eb4a7c0f9e162bce33576b315ececbb6406837bf51f5

/-- `b` to the power of the low `k` bits of `e`, modulo `m`. -/
def powMod (m b e : Nat) : Nat → Nat
  | 0 => 1
  | k + 1 =>
    let r := powMod m b (e / 2) k
    r * r % m * (if e % 2 = 1 then b else 1) % m

/-- The inverse modulo a prime below 2^256. -/
def invMod (m x : Nat) : Nat := powMod m x (m - 2) 256

/-- A point of the curve; none is the point at infinity. -/
abbrev CurvePt := Option (Nat × Nat)

/-- The sum of two points. -/
def ptAdd (a b : CurvePt) : CurvePt :=
  match a, b with
  | none, _ => b
  | _, none => a
  | some (x, y), some (u, v) =>
    if x = u ∧ (y + v) % p256P = 0 then none
    else
      let l := if x = u then (3 * x * x + (p256P - 3)) * invMod p256P (2 * y) % p256P
        else (v + p256P - y) * invMod p256P (u + p256P - x) % p256P
      let z := (l * l + 2 * p256P - x - u) % p256P
      some (z, (l * (x + p256P - z) + p256P - y) % p256P)

/-- The low `k` bits of `e` times a point. -/
def ptMul (a : CurvePt) (e : Nat) : Nat → CurvePt
  | 0 => none
  | k + 1 =>
    let r := ptMul a (e / 2) k
    let d := ptAdd r r
    if e % 2 = 1 then ptAdd d a else d

/-- The point lies on the curve. -/
def onCurve (x y : Nat) : Bool :=
  decide (x < p256P) && decide (y < p256P) && decide (y * y % p256P = (x * x * x + (p256P - 3) * x + p256B) % p256P)

/-- The signature (r, s) of the digest `e` verifies under the public key (x, y). -/
def ecdsaOk (x y r s e : Nat) : Bool :=
  onCurve x y && decide (1 ≤ r) && decide (r < p256N) && decide (1 ≤ s) && decide (s < p256N) &&
    (let w := invMod p256N s
     match ptAdd (ptMul (some (p256Gx, p256Gy)) (e * w % p256N) 256) (ptMul (some (x, y)) (r * w % p256N) 256) with
     | none => false
     | some (z, _) => decide (z % p256N = r))

/-! ### The signature block -/

/-- Check 1: SHA-256 over X‖Y is the image-key hash; `blk` is the signature block, X in its first words (R328). -/
def keyHashOk (blk hash : List Word) : Bool := sha256 (blk.take 16) == hash

/-- Check 2: the signature of the message words, followed by their count (R328). -/
def signatureOk (blk m : List Word) : Bool :=
  let v (k : Nat) : Nat := beNat ((blk.drop (8 * k)).take 8)
  ecdsaOk (v 0) (v 1) (v 2) (v 3) (beNat (sha256 (m ++ [wd m.length])))

end Sys2Proof.Machine
end

