-- ==== Sys2Proof/Machine/Otp.lean ====
section
/-! DEFINITION. The one-time-programmable memory: sensing, regions, critical values, what the regions supply at boot, re-verify passes
and the Lodge patch (R491 to R509). -/

namespace Sys2Proof.Machine

/-! ### Fuses -/

/-- Fuse word `k`, as the normal reference reads it. -/
def State.fuse (s : State) (k : Nat) : Word := mapGet (fun _ => 0#32) s.otp.fuse k

/-- The bits of `w` are programmed in fuse word `k`: a bit once blown stays. -/
def State.blow (s : State) (k : Nat) (w : Word) : State :=
  { s with otp.fuse := mapPut (fun _ => 0#32) s.otp.fuse k (s.fuse k ||| w) }

/-- Consecutive fuse words are programmed. -/
def State.blows (s : State) (k : Nat) : List Word → State
  | [] => s
  | w :: l => (s.blow k w).blows (k + 1) l

/-- The eight words of row `r`, spares from 0x100. -/
def State.fuseRow (s : State) (r : Nat) : List Word := (List.range 8).map fun w => s.fuse (8 * r + w)

/-- A row, a copy or the direct bank has no good value (R496). -/
def State.otpBad (s : State) (k : Nat) : Bool := s.otp.bad.contains k

/-- A part of the OTP has been verified at all three references. -/
def State.otpGood (s : State) (k : Nat) : State := { s with otp.bad := s.otp.bad.filter fun b => b ≠ k }

/-- Where copy `c` of redirection entry `e` stands. -/
def copyKey (e c : Nat) : Nat := 0x900 + 4 * e + c

/-- The row that entry `e` maps, while two equal copies, read alike at all references, have USED set (R495). -/
def State.entry (s : State) (e : Nat) : Option Nat :=
  let v (c : Nat) := (s.fuse (copyKey e c)).toNat
  let ok (c : Nat) := !s.otpBad (0x200 + 3 * e + c) && decide (32768 ≤ v c)
  if ok 0 && ok 1 && v 0 == v 1 || ok 0 && ok 2 && v 0 == v 2 then some (v 0 % 256)
  else if ok 1 && ok 2 && v 1 == v 2 then some (v 1 % 256) else none

/-- No two copies of entry `e` match (R509, REDIR.BAD). -/
def State.entryBad (s : State) (e : Nat) : Bool :=
  let v (c : Nat) := s.fuse (copyKey e c)
  v 0 != v 1 && v 0 != v 2 && v 1 != v 2

/-- The row from which row `r` is read: a mapped row always from its spare, where two entries map it from the later one (R495, log 53). -/
def State.phys (s : State) (r : Nat) : Nat :=
  match [7, 6, 5, 4, 3, 2, 1, 0].find? fun e => s.entry e == some r with
  | some e => 0x100 + e
  | none => r

/-- Lock copy `j` of region `k` is blown in `d`, word D2: its three reads all give 1 (R497). -/
def State.lockCopy (s : State) (d : Word) (k j : Nat) : Bool := d.getLsbD (3 * k + j) && !s.otpBad (0x300 + 3 * k + j)

/-- The lock copies of region `k`, as three bits. -/
def State.lockCopies (s : State) (d : Word) (k : Nat) : Nat :=
  (s.lockCopy d k 0).toNat + 2 * (s.lockCopy d k 1).toNat + 4 * (s.lockCopy d k 2).toNat

/-- The lock of region `k` is blown: two or more copies are (R497). -/
def State.lockBlown (s : State) (d : Word) (k : Nat) : Bool :=
  decide (2 ≤ (s.lockCopy d k 0).toNat + (s.lockCopy d k 1).toNat + (s.lockCopy d k 2).toNat)

/-- The lock of region `k` is blown in the fuses, which a job tests (R505). -/
def State.fuseLocked (s : State) (k : Nat) : Bool := s.lockBlown (s.fuse 0x982) k

/-- The states of a direct bank with these words: 0 BLANK, 1 VALID, 2 INCOMPLETE, 3 failed (R494, R496). -/
def dbankOf (bad : Bool) (c d : Word) : Nat :=
  let pol (n : Nat) := c.toNat / 2 ^ (16 + 2 * n) % 4
  if bad then 3
  else if c = 0 ∧ d = 0 then 0
  else if d = ~~~ c ∧ c.toNat < 2 ^ 25 ∧ pol 0 ≠ 3 ∧ pol 1 ≠ 3 ∧ pol 2 ≠ 3 ∧ pol 3 ≠ 3 then 1 else 2

/-- The direct bank as the fuses stand. -/
def State.fuseBank (s : State) : Nat := dbankOf (s.otpBad 0x400) (s.fuse 0x980) (s.fuse 0x981)

/-- Word D`i` in the AON latches (R491, R502). -/
def State.latch (s : State) (i : Nat) : Word := s.memWord (0x302200 + 4 * i)

/-! ### Regions -/

/-- First row of region `k` (R492). -/
def regFirst (k : Nat) : Nat := [0, 16, 48, 80, 88].getD k 0

/-- The row of the completion record of region `k` (R492). -/
def regRec (k : Nat) : Nat := [15, 47, 79, 87, 255].getD k 0

/-- Data capacity of region `k` in bytes (R492). -/
def regCap (k : Nat) : Nat := 32 * (regRec k - regFirst k)

/-- Word `w` of the image of row `r` (R502). -/
def State.imgWord (s : State) (r w : Nat) : Word := s.memWord (0x300000 + 32 * r + 4 * w)

/-- The image of row `r` becomes these words. -/
def State.setImg (s : State) (r : Nat) (l : List Word) : State := s.setMemWords (0x300000 + 32 * r) l

/-- Word `j` of the data of region `k` (R492). -/
def State.regWord (s : State) (k j : Nat) : Word := s.imgWord (regFirst k + j / 8) (j % 8)

/-- Byte `i` of the data of region `k`: byte 4w of a row stands in bits [31:24] of its word w (R492). -/
def State.regByte (s : State) (k i : Nat) : BitVec 8 := (s.regWord k (i / 4)).extractLsb' (8 * (3 - i % 4)) 8

/-- CRC-32 over the first `n` data bytes of region `k` (R493). -/
def State.regCrc (s : State) (k n : Nat) : Word := crc32 ((List.range n).map fun i => s.regByte k i)

/-- The words of a completion record (R493). -/
def recWords (k n : Nat) (crc : Word) : List Word := [wd (0x0A5C0001 + 256 * k), wd n, crc, ~~~ wd n, 0, 0, 0, 0]

/-- LEN of a valid record of region `k` (R493). -/
def State.recLen (s : State) (k : Nat) : Option Nat :=
  let n := (s.imgWord (regRec k) 1).toNat
  if s.imgWord (regRec k) 0 = wd (0x0A5C0001 + 256 * k) then
    if 1 ≤ n ∧ n ≤ regCap k then
      if (List.range 8).map (s.imgWord (regRec k)) = recWords k n (s.regCrc k n) then some n else none
    else none
  else none

/-- The record row reads marker 0x0A5C at the normal reference (R497). -/
def State.marker (s : State) (k : Nat) : Bool := (s.fuse (8 * s.phys (regRec k))).toNat / 65536 == 0x0A5C

/-- A row of region `k` is failed (R497). -/
def State.regFailed (s : State) (k : Nat) : Bool :=
  (List.range (regRec k + 1 - regFirst k)).any fun i => s.otpBad (s.phys (regFirst k + i))

/-- The state of region `k` (R497): 0 BLANK, 1 OPEN, 2 LOCKED, 3 LOCKED_INCOMPLETE, 4 FAILED. -/
def State.regState (s : State) (k : Nat) : Nat :=
  let lock := s.lockBlown (s.latch 2) k
  let rowf := s.regFailed k
  if !(lock || s.marker k) then 0
  else match s.recLen k with
    | some _ => if rowf then 4 else if lock then 2 else 1
    | none => if lock && !rowf then 3 else 4

/-! ### Boot -/

/-- What the AON latches drive: with CRITICAL_DIRECT the critical values, from step 5 on (R494, R500). -/
def State.otpLatched (s : State) : State :=
  let c := (s.latch 0).toNat
  let b := dbankOf (s.otpBad 0x400) (s.latch 0) (s.latch 1)
  let s := s.wr R.OTP_STATUS_DBANK 0 b
  if b = 1 ∧ c / 2 ^ 24 % 2 = 1 then
    s.wrs 0 [(R.OTP_CRIT_VALID, 1), (R.OTP_CRIT_DIRECT, 1), (R.OTP_CRIT_VAL, c), (R.SUP_SAFEPAT_PAT, c / 2 ^ 16)]
  else s.wrs 0 [(R.OTP_CRIT_VALID, 0), (R.OTP_CRIT_DIRECT, 0), (R.OTP_CRIT_VAL, 0xFF14), (R.SUP_SAFEPAT_PAT, 0)]

/-- Step 5 of R75: the direct bank is sensed into the AON latches; `weak` lists the lock copies, and 0x400 for D0 and D1, that the three
references read differently (R491, R496). -/
def State.otpDirect (s : State) (weak : List Nat) : State :=
  let s := { s with otp.bad := weak.filter fun b => decide (0x300 ≤ b) }
  (s.setMemWords 0x302200 [s.fuse 0x980, s.fuse 0x981, s.fuse 0x982, s.fuse 0x983]).otpLatched

/-- A fuse word of a row or a spare row enters the read window (R502). -/
def State.senseWord (s : State) (k : Nat) (w : Word) : State :=
  let r := k / 8
  if 0x108 ≤ r ∨ s.otpBad r then s
  else if r < 0x100 then (if s.phys r = r then s.setMemWord (0x300000 + 4 * k) w else s)
  else
    let e := r - 0x100
    let s := s.setMemWord (0x302000 + 4 * (k - 0x800)) w
    match s.entry e with
    | some row => if s.phys row = r then s.setMemWord (0x300000 + 32 * row + 4 * (k % 8)) w else s
    | none => s

/-- The rows with no good value: rows of the main array through their mapping, then spare rows (R496). -/
def State.rowsFailed (s : State) : List Nat :=
  if s.otp.bad.isEmpty then []
  else ((List.range 256).filter fun r => s.otpBad (s.phys r)) ++
    ((List.range 8).map (0x100 + ·)).filter fun r => s.otpBad r

/-- Step 10 of R75: main array, spare rows and redirection table are sensed; `weak` lists what the three references read differently
(R495, R496, R502). -/
def State.otpSense (s : State) (weak : List Nat) : State :=
  let s := { s with otp.bad := (s.otp.bad.filter fun b => decide (0x300 ≤ b)) ++ weak.filter fun b => decide (b < 0x300) }
  let s := s.clearMem 0x300000 0x302200
  let s := s.otp.fuse.foldl (fun s e => s.senseWord e.1 e.2) s
  let s := (List.range 8).foldl (fun s e => match s.entry e with
    | some r => ((s.setMemWord (0x302100 + 4 * e) (wd (2 ^ 31 + r))).orBits R.OTP_REDIR_USED 0 (2 ^ e))
    | none => if s.entryBad e then s.orBits R.OTP_REDIR_BAD 0 (2 ^ e) else s) s
  match s.rowsFailed with
  | [] => s
  | r :: l => s.wrs 0 [(R.OTP_ROWFAIL_VALID, 1), (R.OTP_ROWFAIL_COUNT, min (l.length + 1) 255), (R.OTP_ROWFAIL_ROW, r)]

/-- The region registers show what step 11 decides (R497, R509). -/
def State.otpRegions (s : State) : State :=
  (List.range 5).foldl (fun s k =>
    let st := s.regState k
    let n := s.recLen k
    let s := s.wr R.OTP_STATUS_REGION 0 (s.rd R.OTP_STATUS_REGION 0 % 2 ^ (3 * k) + st * 2 ^ (3 * k))
    s.wrs 0 [((R.OTP_REGION_STATE).nth k, st), ((R.OTP_REGION_LOCKC).nth k, s.lockCopies (s.latch 2) k),
      ((R.OTP_REGION_REC).nth k, n.isSome.toNat), ((R.OTP_REGION_ROWF).nth k, (s.regFailed k).toNat),
      ((R.OTP_REGION_LEN).nth k, n.getD 0)]) s

/-- The state of region `k` as decided at boot. -/
def State.region (s : State) (k : Nat) : Nat := s.rd ((R.OTP_REGION_STATE).nth k) 0

/-- The record of region `k` is applied and covers the `n` bytes from `i` (R498, R501). -/
def State.supplies (s : State) (k i n : Nat) : Bool :=
  (s.region k == 1 || s.region k == 2) && decide (i + n ≤ s.rd ((R.OTP_REGION_LEN).nth k) 0)

/-- Byte `i` that region `k` supplies, or its default (R501). -/
def State.regionByte (s : State) (k i dflt : Nat) : Nat := if s.supplies k i 1 then (s.regByte k i).toNat else dflt

/-- Word at byte `i` that region `k` supplies, or its default (R501). -/
def State.regionWord (s : State) (k i : Nat) (dflt : Word) : Word := if s.supplies k i 4 then s.regWord k (i / 4) else dflt

/-- The polarity byte with every code 3 read as 0 (R500). -/
def polarityOf (p : Nat) : Nat :=
  (List.range 4).foldl (fun a n => let c := p / 4 ^ n % 4; a + (if c = 3 then 0 else c) * 4 ^ n) 0

/-- The critical values where the direct bank does not supply them: SAFETY bytes 0 to 2 or the defaults. They stay unverified under an
INCOMPLETE or failed direct bank and under a polarity code 3 (R499, R500). -/
def State.otpShadows (s : State) : State :=
  if s.on R.OTP_CRIT_DIRECT 0 then s
  else
    let p := s.regionByte 1 2 0
    let q := polarityOf p
    s.wrs 0 [(R.OTP_CRIT_VAL, s.regionByte 1 0 0x14 + 2 ^ 8 * s.regionByte 1 1 0xFF + 2 ^ 16 * q), (R.SUP_SAFEPAT_PAT, q),
      (R.OTP_CRIT_VALID, if s.rd R.OTP_STATUS_DBANK 0 < 2 ∧ p = q then 1 else 0)]

/-- Why the OTP holds the device in reset, lowest code first; 0 where it does not (R123, R498, R499, R500; log 188). -/
def State.otpHold (s : State) : Nat :=
  let fac := s.region 0
  let saf := s.region 1
  let integrity := saf == 2 && (s.rd R.OTP_STATUS_DBANK 0 != 1 || (!s.on R.OTP_CRIT_DIRECT 0 && !s.on R.OTP_CRIT_VALID 0))
  if (!s.pwr.test && (fac == 0 || fac == 1 || fac == 4)) || saf == 4 || integrity then 1
  else if !s.pwr.test && fac == 3 then 2 else if saf == 3 then 3 else 0

/-- The direct bank or the polarity of a locked SAFETY region fails: OTP_INTEGRITY is raised (R499, R500). -/
def State.otpIntegrity (s : State) : State :=
  if s.region 1 = 2 ∧ (s.rd R.OTP_STATUS_DBANK 0 ≠ 1 ∨ (s.on R.OTP_CRIT_DIRECT 0 = false ∧ s.on R.OTP_CRIT_VALID 0 = false)) then
    s.raise srcOtpIntegrity 0
  else s

/-- A fault record of the SAFETY region: index, class, reaction, RETRY_MAX; WINDOW, QUIET and WAIT (R501). What R532 fixes stays; times
outside R366 are not taken (log 50). -/
def State.otpFault (s : State) (a b : Word) : State :=
  let i := a.toNat / 2 ^ 16 % 512
  let cls := a.toNat / 2 ^ 12 % 8
  let react := a.toNat / 2 ^ 8 % 16
  let r := s.fr i
  if s.srcDisabled i || decide (6 ≤ cls) || (decide (11 ≤ react) && !(srcFixedReact i && react == r.react)) then s
  else if srcFixedCls i && srcFixedReact i && srcNoRetry i then s
  else
    let z := fltReset i
    let t := b.toNat
    let tm := !srcNoRetry i && timeOk t
    s.setFr i { (r.configured (if srcFixedCls i then r.cls else cls) (if srcFixedReact i then r.react else react)
        (if srcNoRetry i then r.retryMax else a.toNat % 16)) with
      wait := if tm then t % 256 else z.wait, quiet := if tm then t / 256 % 256 else z.quiet,
      window := if tm then t / 65536 % 256 else z.window, otp := true }

/-- Step 11, past the hold conditions: SAFETY, CUSTOMER and KEYS apply (R59, R126, R501). -/
def State.otpApply (s : State) (cfg : Nat) : State :=
  let s := s.wr R.FLT_HALT_RX_RX 0 (s.rd R.SUP_SAFEPAT_PAT 0)
  let s := (List.range (s.regionByte 1 3 0)).foldl (fun s k =>
    if s.supplies 1 (4 + 8 * k) 8 then s.otpFault (s.regWord 1 (1 + 2 * k)) (s.regWord 1 (2 + 2 * k)) else s) s
  let ext := s.regionByte 2 0 0x1F / 128 % 2
  let c := s.regionByte 2 1 0
  let s := s.wrs 0 [(R.PWR_REG_VDRV_EXT, ext), (R.PWR_REG_VDRV_REG_EN, 1 - ext), (R.PWR_STATUS_VDRV_REG_ON, 1 - ext),
    (R.HSPI_CTRL_TURN, c), (R.HSPI_CTRL_HIRQ_EN, c / 4), (R.HSPI_CTRL_BOOT_IRQ, c / 8), (R.HSPI_CTRL_CRC_EN, c / 16),
    (R.FAB_PRIO, s.regionByte 2 2 0x80), (R.FAB_ELIGIBLE, cfg / 2),
    (R.FAB_PREF_ID, if s.supplies 2 3 2 then s.regionByte 2 3 0 * 256 + s.regionByte 2 4 0 else 0x3FF)]
  let keys := s.region 3
  s.flag R.SYS_STATUS_DEBUG_OPEN 0 (decide (keys < 3) && s.regionByte 3 32 0 == 0)

/-- UID and VARIANT (R98, R438, R501): with TEST = 1 from the FACTORY bytes as sensed, whatever the record (R498). -/
def State.otpFactory (s : State) : State :=
  let byte (i : Nat) := if s.pwr.test then (s.regByte 0 i).toNat else s.regionByte 0 i 0
  let word (i : Nat) := byte i * 2 ^ 24 + byte (i + 1) * 2 ^ 16 + byte (i + 2) * 2 ^ 8 + byte (i + 3)
  s.wrs 0 [(R.SYS_UID_HI_UID, word 0), (R.SYS_UID_LO_UID, word 4), (R.FAB_HI_UID, word 0), (R.FAB_LO_UID, word 4),
    (R.SYS_PART_VARIANT, byte 8)]

/-- Step 11 of R75: regions, critical values, the held reset, and what applies (R74, R498, R499, R500). -/
def State.otpStep11 (s : State) : State :=
  let s := s.otpRegions.otpShadows
  let s := s.otpIntegrity.otpFactory
  if s.otpHold = 0 then s.otpApply s.pwr.cfg else { s with pwr.mode := .held, pwr.hold := s.otpHold }

/-- The word at `a` takes the bits of `w` that its fields define. -/
def State.setDefined (s : State) (a : Nat) (w : Word) : State :=
  s.setWord a ((wordFields a).foldl (fun v f => f.put v (f.get w)) 0#32)

/-- The filter entries of a CAN controller that the CUSTOMER record covers (R501). -/
def State.otpFilters (s : State) (m : Fin 2) (at_ : Nat) : Nat → State
  | 0 => s
  | k + 1 =>
    let s := s.otpFilters m at_ k
    if s.supplies 2 (at_ + 8 * k) 8 then
      let fid := (s.regWord 2 ((at_ + 8 * k) / 4)).toNat
      let fmk := (s.regWord 2 ((at_ + 8 * k) / 4 + 1)).toNat
      let dest := fmk / 2 ^ 30 % 4
      let mk := fmk % 2 ^ 29
      let f : CanFilt :=
        { en := fid.testBit 31, ide := fid.testBit 30, rtr := fid.testBit 29, id := fid % 2 ^ 29,
          dest := dest, buf := if dest = 1 then mk / 2 ^ 24 else 0, mask := if dest = 1 then mk % 2 ^ 24 else mk }
      s.modCan m fun c => { c with filt := c.filt.set! k f }
    else s

/-- Step 15 of R75 with a valid CUSTOMER record: NBT, DBT, CFG and filters of both controllers, then INIT clears (R488, R501). -/
def State.otpCan (s : State) : State :=
  if s.region 2 ≠ 1 ∧ s.region 2 ≠ 2 then s
  else
    let load (s : State) (i a : Nat) : State :=
      if s.supplies 2 i 4 then s.setDefined a (if a = 0x1D28 then canCfgWord 1 (s.regWord 2 (i / 4)) else s.regWord 2 (i / 4)) else s
    let s := load (load (load s 16 0x1C20) 20 0x1C24) 24 0x1C28
    let s := load (load (load s 28 0x1D20) 32 0x1D24) 36 0x1D28
    let f0 := min (s.regionByte 2 40 0) 64
    let f1 := min (min (s.regionByte 2 41 0) 64) (118 - f0)
    let s := (s.otpFilters 0 44 f0).otpFilters 1 (44 + 8 * f0) f1
    (((s.canShowFilt 0).canShowFilt 1).canInit 0 false false).canInit 1 false false

/-- The NET page takes its CUSTOMER values when PD_CAN comes on (R501). -/
def State.otpNet (s : State) : State :=
  let b := s.regionByte 2 5 0
  let s := s.wrs 0 [(R.NET_CFG_EN, b), (R.NET_CFG_PASS, b / 2), (R.NET_CFG_CAN, b / 4), (R.NET_CFG_PREF_SA, s.regionByte 2 6 0x80),
    (R.NET_HI_NAME, if s.supplies 2 8 8 then (s.regWord 2 2).toNat else 0),
    (R.NET_LO_NAME, if s.supplies 2 8 8 then (s.regWord 2 3).toNat else 0)]
  s.netEnable false (b % 2 = 1)

/-! ### Re-verify passes (R503) -/

/-- A pass starts, or waits while PD_OTPW is on. -/
def State.otpPass (s : State) : State :=
  if s.on R.OTP_STATUS_PASS_BUSY 0 then s
  else if s.domOn dOtpw then { s with otp.verifyDue := true }
  else s.wr R.OTP_STATUS_PASS_BUSY 0 1

/-- OTP_REVERIFY_PASS_START (R503). -/
def execOtpReverifyPassStart (s : State) : Host.Outcome State Fault Refusal :=
  .next (if s.on R.SYS_STATUS_BOOT_DONE 0 then s.otpPass else s)

/-- VERIFY_NOW (R503): ignored while a pass runs. -/
def execVerifyNow (s : State) : Host.Outcome State Fault Refusal := .next s.otpPass

/-- PD_OTPW comes on: the pass in progress pauses; it restarts from row 0 at the switch-off (R503; log 187). -/
def State.otpPassPause (s : State) : State :=
  if s.on R.OTP_STATUS_PASS_BUSY 0 then { s.wr R.OTP_STATUS_PASS_BUSY 0 0 with otp.verifyDue := true } else s

/-- PD_OTPW has switched off: a pass that waits starts (R503). -/
def State.otpPassResume (s : State) : State :=
  if s.otp.verifyDue then { s.wr R.OTP_STATUS_PASS_BUSY 0 1 with otp.verifyDue := false } else s

/-- OTP_REVERIFY_PASS_DONE (R503, R509): `bad` is the first mismatching row with the reference that shows it, low for true. -/
def execOtpReverifyPassDone (bad : Option (BitVec 9 × Bool)) (s : State) : Host.Outcome State Fault Refusal :=
  .next (if s.on R.OTP_STATUS_PASS_BUSY 0 then
      let s := s.wrs 0 [(R.OTP_STATUS_PASS_BUSY, 0), (R.OTP_IRQ_PASS_DONE, 1)]
      match bad with
      | none => (s.condSet srcOtpMargin false).settleAll
      | some (row, low) =>
        let s := if s.on R.OTP_MARGIN_VALID 0 then s
          else s.wrs 0 [(R.OTP_MARGIN_VALID, 1), (R.OTP_MARGIN_REF, low.toNat), (R.OTP_MARGIN_ROW, row.toNat)]
        (((s.inc R.OTP_MARGIN_COUNT 0).wr R.OTP_IRQ_MARGIN 0 1).condSet srcOtpMargin true).settleAll
    else s)

/-! ### Lodge patch (R508) -/

/-- The states of PATCH_STAT (R509). -/
def State.patchState (s : State) : Nat := s.rd R.OTP_PATCH_STAT_STATE 0

/-- A write of PATCH_DATA: discarded while a patch is verified or active, or its verification runs (R508, log 51). -/
def State.patchData (s : State) (w : Word) : State :=
  if s.patchState = 2 ∨ s.patchState = 4 ∨ s.otp.patchBusy then s
  else
    let i := s.rd R.OTP_PATCH_IDX_IDX 0
    (s.setMemWord (0x380000 + 4 * i) w).wrs 0 [(R.OTP_PATCH_IDX_IDX, i + 1), (R.OTP_PATCH_STAT_STATE, 1)]

/-- PATCH_DATA_WRITE (R508). -/
def execPatchDataWrite (w : BitVec 32) (s : State) : Host.Outcome State Fault Refusal := .next (s.patchData w)

/-- A verification ends: verified for cause 0, else invalid (R508, R509). -/
def State.patchEnd (s : State) (cause : Nat) : State :=
  let s := { s with otp.patchBusy := false, otp.patchLen := if cause = 0 then s.otp.patchLen else 0 }
  s.wrs 0 [(R.OTP_PATCH_STAT_STATE, if cause = 0 then 2 else 3), (R.OTP_PATCH_STAT_CAUSE, cause), (R.OTP_IRQ_PATCH_DONE, 1)]

/-- CRC-32 over the first `n` words of the patch RAM. -/
def State.patchSum (s : State) (n : Nat) : Word := crc32 ((s.memWords 0x380000 n).flatMap wordLe)

/-- PATCH_APPLY (R508): a wrong LEN and a KEYS region that is not usable fail at once; else LEN and CRC-32 are recorded. -/
def State.patchApply (s : State) : State :=
  let n := s.rd R.OTP_PATCH_LEN_LEN 0
  if s.patchState = 2 ∨ s.patchState = 4 ∨ s.otp.patchBusy then s
  else if n = 0 ∨ 8160 < n then s.patchEnd 1
  else if 3 ≤ s.region 3 then s.patchEnd 4
  else { s with otp.patchBusy := true, otp.patchLen := n, otp.patchCrc := s.patchSum n }

/-- PATCH_APPLY (R508). -/
def execPatchApply (s : State) : Host.Outcome State Fault Refusal := .next s.patchApply

/-- KEYS holds an image-key hash (R501). -/
def State.hashPresent (s : State) : Bool := s.supplies 3 0 32

/-- The image-key hash in KEYS bytes 0 to 31 (R501). -/
def State.keyHash (s : State) : List Word := (List.range 8).map (s.regWord 3)

/-- The cause with which the signed words `m` end the two checks of R328, `blk` being the signature block: 2 key hash, 3 signature, 0 none. -/
def State.signCause (s : State) (blk m : List Word) : Nat :=
  if !(s.hashPresent && keyHashOk blk s.keyHash) then 2 else if !signatureOk blk m then 3 else 0

/-- PATCH_VERIFY_DONE (R508): the checks of R328 over the words of the patch RAM that APPLY recorded. -/
def execPatchVerifyDone (s : State) : Host.Outcome State Fault Refusal :=
  .next (if s.otp.patchBusy then
      s.patchEnd (s.signCause (s.memWords (0x380000 + 4 * 0x1FE0) 32) (s.memWords 0x380000 s.otp.patchLen))
    else s)

/-- PATCH_CLR (R509): the patch RAM is empty. -/
def State.patchClr (s : State) : State :=
  let s := { s.clearMem 0x380000 0x388000 with otp.patchBusy := false, otp.patchLen := 0 }
  s.wrs 0 [(R.OTP_PATCH_STAT_STATE, 0), (R.OTP_PATCH_STAT_CAUSE, 0)]

/-- PATCH_CLR (R509). -/
def execPatchClr (s : State) : Host.Outcome State Fault Refusal := .next s.patchClr

/-- Step 9 of R75: the patch that stands verified is compared with the CRC recorded at APPLY, and is active or discarded (R508; log 189). -/
def State.patchBoot (s : State) : State :=
  if s.otp.patchLen = 0 then s
  else if s.patchSum s.otp.patchLen = s.otp.patchCrc then s.wr R.OTP_PATCH_STAT_STATE 0 4
  else
    let s := { s.clearMem 0x380000 0x388000 with otp.patchLen := 0 }
    s.wrs 0 [(R.OTP_PATCH_STAT_STATE, 3), (R.OTP_PATCH_STAT_CAUSE, 5)]

/-! ### OTP_PROGRAM (R504 to R507) -/

/-- The fields of parameter word 1 (R504). -/
def otpOp (w : Word) : Nat := w.toNat / 2 ^ 28
def otpRegion (w : Word) : Nat := w.toNat / 2 ^ 24 % 8
def otpRow (w : Word) : Nat := w.toNat / 2 ^ 8 % 256
def otpCount (w : Word) : Nat := w.toNat % 32 + 1

/-- The bits of `a` are a subset of those of `b`. -/
def subBits (a b : Word) : Bool := a &&& ~~~ b == 0#32

/-- A list of words is a subset of another, word by word. -/
def subRow : List Word → List Word → Bool
  | a :: l, b :: m => subBits a b && subRow l m
  | _, _ => true

/-- The next free spare row for row `r` with these words: an entry not in force, whose programmed bits the repair would program anyway, so
that an interrupted repair resumes where it stopped (R505, R507, log 52). -/
def State.freeSpare (s : State) (r : Nat) (l : List Word) : Option Nat :=
  (List.range 8).find? fun e =>
    (s.entry e).isNone && !s.otpBad (0x100 + e) && subRow (s.fuseRow (0x100 + e)) l &&
      (List.range 3).all fun c => subBits (s.fuse (copyKey e c)) (wd (0x8000 + r))

/-- The spare that REPAIR of row `r` fills: the one that the row is mapped to already, so that a repeated REPAIR completes its entry, else the
next free one (R505, R506, R507). -/
def State.repairSpare (s : State) (r : Nat) (l : List Word) : Option Nat :=
  if 0x100 ≤ s.phys r then some (s.phys r - 0x100) else s.freeSpare r l

/-- The target words of the row that unit `u` of a job programs (R505): ROWS from the source, RECORD the record, REPAIR the image. -/
def State.otpTarget (s : State) (w1 : Word) (n : Word) (u : Nat) : List Word :=
  let k := otpRegion w1
  if otpOp w1 = 1 then (s.otp.src.drop (8 * u)).take 8
  else if otpOp w1 = 2 then recWords k n.toNat (s.regCrc k n.toNat)
  else (List.range 8).map (s.imgWord (otpRow w1))

/-- The row that unit `u` of ROWS or RECORD programs. -/
def otpRowOf (w1 : Word) (u : Nat) : Nat := if otpOp w1 = 1 then otpRow w1 + u else regRec (otpRegion w1)

/-- The units of an operation: rows, lock copies, entry copies, words of the direct bank (R505, R506). -/
def otpUnits (w1 : Word) : Nat :=
  match otpOp w1 with
  | 1 => otpCount w1
  | 2 => 1
  | 3 => 3
  | 4 => 4
  | _ => 2

/-- The refusal checks of R505, in order; 0 where none applies. `p` holds the parameter words from word 1, `cold`: the core temperature is
outside −20 °C to +110 °C. -/
def State.otpRefusal (s : State) (p : List Word) (cold : Bool) : Nat :=
  let w1 := p.getD 0 0
  let k := otpRegion w1
  let op := otpOp w1
  let n := (p.getD 2 0).toNat
  if op = 0 ∨ 5 < op then 10
  else if (p.getD 4 0).toNat % 65536 ≠ 0x0A5C then 9
  else if 4 < k then 3
  else if cold || !s.bit R.PWR_STATUS_GOOD 0 1 then 11
  else match op with
    | 1 =>
      if s.fuseLocked k then 1
      else if (s.recLen k).isSome then 2
      else if otpRow w1 < regFirst k ∨ regRec k < otpRow w1 + otpCount w1 then 3
      else if !(List.range (otpCount w1)).all fun u => subRow (s.fuseRow (s.phys (otpRow w1 + u))) (s.otpTarget w1 0 u) then 4
      else 0
    | 2 =>
      if s.fuseLocked k then 1
      else if (s.recLen k).isSome then 2
      else if n = 0 ∨ regCap k < n then 3
      else if s.regCrc k n ≠ p.getD 3 0 then 6
      else 0
    | 3 =>
      if (s.recLen k).isNone || s.regFailed k then 7
      else if k = 1 ∧ s.fuseBank ≠ 1 then 8
      else 0
    | 4 =>
      if s.otpBad (s.phys (otpRow w1)) then 12
      else if (s.repairSpare (otpRow w1) (s.otpTarget w1 0 0)).isNone then 5
      else 0
    | _ =>
      let c := s.otp.src.getD 0 0
      if s.fuseLocked 1 then 1
      else if s.fuseBank = 1 ∨ !(subBits (s.fuse 0x980) c && subBits (s.fuse 0x981) (~~~ c)) then 8
      else 0

/-- The fuse words that unit `u` of an operation programs: the first of them, and the target bits of each (R505, R506). -/
def State.otpSpot (s : State) (p : List Word) (u : Nat) : Nat × List Word :=
  let w1 := p.getD 0 0
  match otpOp w1 with
  | 3 => (0x982, [wd (2 ^ (3 * otpRegion w1 + u))])
  | 4 =>
    if u = 0 then
      match s.repairSpare (otpRow w1) (s.otpTarget w1 0 0) with
      | none => (0, [])
      | some e => (8 * (0x100 + e), s.otpTarget w1 0 0)
    else (copyKey s.otp.spare (u - 1), [wd (0x8000 + otpRow w1)])
  | 5 => if u = 0 then (0x980, [s.otp.src.getD 0 0]) else (0x981, [~~~ s.otp.src.getD 0 0])
  | _ => (8 * s.phys (otpRowOf w1 u), s.otpTarget w1 (p.getD 2 0) u)

/-- Consecutive fuse words are left with a subset of their target bits, which R507 leaves open: a free value. -/
def State.blowsPart (s : State) (k : Nat) : List Word → State
  | [] => s
  | w :: l => ((s.blow k (w &&& s.anyVal)).used).blowsPart (k + 1) l

/-- A row, a lock copy or an entry copy is being programmed by the job: PD_OTPW is on, and no SUSPEND or CANCEL has ended it (R340, R506). -/
def State.otpPulsing (s : State) (j : Job) : Bool :=
  decide (j.typ = jOtp) && (j.st == .running || ((j.st == .suspending || j.st == .cancelling) && !j.ended)) &&
    decide (j.work < otpUnits (j.params.getD 0 0)) && s.domOn dOtpw

/-- A reset ends the pulse in progress: what is being programmed holds a subset of its target bits, every other fuse keeps its content
(R507; log 186). -/
def State.otpCut (s : State) : State :=
  match s.jobs.toList.find? s.otpPulsing with
  | some j => s.blowsPart (s.otpSpot j.params j.work).1 (s.otpSpot j.params j.work).2
  | none => s

/-- A row that programs and verifies: fuses, image, spare window (R502, R506). -/
def State.rowDone (s : State) (r : Nat) (l : List Word) : State :=
  let p := s.phys r
  let s := (s.blows (8 * p) l).otpGood p
  let s := if 0x100 ≤ p then s.setMemWords (0x302000 + 32 * (p - 0x100)) l else s
  s.setImg r l

/-- Row `r` moves to spare `e`: spare row and three entry copies are programmed and verified (R506). -/
def State.rowMoved (s : State) (r e : Nat) (l : List Word) : State :=
  let w := wd (0x8000 + r)
  let s := (s.blows (8 * (0x100 + e)) l).setMemWords (0x302000 + 32 * e) l
  let s := s.blows (copyKey e 0) [w, w, w]
  (((s.otpGood (0x200 + 3 * e)).otpGood (0x200 + 3 * e + 1)).otpGood (0x200 + 3 * e + 2)).setImg r l

/-- One unit of the operation has been programmed; `ok`: it verifies; `got`: what a row that does not verify reads (R506). The answer is
false where the job fails with code 5. -/
def State.otpUnit (s : State) (p : List Word) (u : Nat) (ok : Bool) (got : List Word) : State × Bool :=
  let w1 := p.getD 0 0
  let part (l : List Word) := List.zipWith (fun a b => a &&& b) l (got ++ List.replicate 8 0)
  match otpOp w1 with
  | 3 =>
    let k := otpRegion w1
    if ok then ((s.blow 0x982 (wd (2 ^ (3 * k + u)))).otpGood (0x300 + 3 * k + u), true) else (s, true)
  | 4 =>
    let r := otpRow w1
    let l := s.otpTarget w1 0 0
    if u = 0 then
      match s.repairSpare r l with
      | none => (s, false)
      | some e =>
        if ok then
          ({ (s.blows (8 * (0x100 + e)) l).setMemWords (0x302000 + 32 * e) l with otp.spare := e }, true)
        else
          let s := s.blows (8 * (0x100 + e)) (part l)
          let s := { s with otp.bad := (0x100 + e) :: s.otp.bad }
          match s.freeSpare r l with
          | none => (s, false)
          | some e => ({ (s.blows (8 * (0x100 + e)) l).setMemWords (0x302000 + 32 * e) l with otp.spare := e }, true)
    else if ok then
      let e := s.otp.spare
      ((s.blow (copyKey e (u - 1)) (wd (0x8000 + r))).otpGood (0x200 + 3 * e + (u - 1)), true)
    else (s, true)
  | 5 =>
    let c := s.otp.src.getD 0 0
    if !ok then (s, true)
    else if u = 0 then (s.blow 0x980 c, true) else ((s.blow 0x981 (~~~ c)).otpGood 0x400, true)
  | _ =>
    let r := otpRowOf w1 u
    let l := s.otpTarget w1 (p.getD 2 0) u
    if ok then (s.rowDone r l, true)
    else
      let s := s.blows (8 * s.phys r) (part l)
      match s.freeSpare r l with
      | none => (s, false)
      | some e => (s.rowMoved r e l, true)

end Sys2Proof.Machine
end

