-- ==== Sys2Proof/Machine/Power.lean ====
section
/-! DEFINITION. Supplies, resets, the boot timeline, domains, clocks, standby and wake (R54 to R82, R98 to R104). -/

namespace Sys2Proof.Machine

/-! ### Domains -/

/-- The domain of page `p`: 0-3 PD_CHn, 4 PD_LINK, 5 PD_CAN; `none` for CORE and for the reserved pages (R87). -/
def pageDom (p : Nat) : Option Nat :=
  if 0x80 ≤ p then none
  else if 0x40 ≤ p then some ((p - 0x40) / 16)
  else if (0x11 ≤ p ∧ p ≤ 0x14) ∨ p = 0x16 then some dLink
  else if 0x1C ≤ p ∧ p ≤ 0x1E then some dCan
  else none

/-- The level conditions of channel `n` go with its domain; SUP_SAFE stays with Ranger. -/
def State.dropConds (s : State) (n : Ch) : State :=
  (List.range 0x35).foldl (fun s o => if o ≠ oSupSafe ∧ (s.fr (srcCh n.val o)).cond then s.condOffCh n o else s) s

/-- What domain `d` holds is lost: its pages at reset values, its memories as after switch-on (R62, R63). -/
def State.domClear (s : State) (d : Nat) : State :=
  let s := s.resetPages fun p => pageDom p == some d
  if h : d < 4 then
    let n : Ch := ⟨d, h⟩
    ((s.clearMem (pramAddr d 0) (pramAddr d 0x4000)).clearMem (dramAddr d 0) (dramAddr d 0x1000)).setCh n .reset
  else if d = dLink then
    { s.wr R.CLK_STATUS_LINKPLL_LOCK 0 0 with
      link := Vector.replicate 4 .reset, inq := [], fab.tags := Fab.reset.tags, fab.hrx := [] }
  else if d = dCan then { s with can := Vector.replicate 2 .reset, net := .reset }
  else if d = dTrace then s.clearMem (tramAddr 0 0) (tramAddr 4 0)
  else s

/-- What comes before a domain's contents go: jobs end with DOMAIN_OFF, links go down, conditions vanish (R63, R338, R394, R421). -/
def State.domLeave (s : State) (d : Nat) : State :=
  if h : d < 4 then
    let n : Ch := ⟨d, h⟩
    ((s.jobsFail (fun j => j.live && (decide (j.resource = d) || decide (j.resource = 4 + d))) cDomainOff).dropConds n)
  else if d = dLink then
    let s := s.jobsFail (fun j => j.live && (decide (j.typ = jReenum) || decide (j.typ = jBert))) cDomainOff
    let s := s.enumStop.noRoute fun _ => true
    s.forCh fun p s => if s.lst p = 0 then s else s.portOut p 0
  else if d = dCan then
    ((s.condSet (srcCanBusoff 0) false).condSet (srcCanBusoff 1) false).condSet srcNetAddrLost false
  else s

/-- A switch-off of domain `d` takes effect: nothing of it is reachable from here on (R28, R63). -/
def State.domDown (s : State) (d : Nat) : State :=
  let s := s.domLeave d
  ((s.clrBits R.PWR_DOM_STATE_ON 0 (2 ^ d)).domClear d).settleAll

/-- The channel is armed (R136). -/
def State.isArmed (s : State) (n : Ch) : Bool :=
  let c := s.chState n
  if c == .fault then !(s.ch n).disarmed && !s.critOn n else decide (3 ≤ c.code)

/-- A job of type `typ` is RUNNING or SUSPENDED, also from QUEUED (R29, R78, R104). -/
def State.jobStands (s : State) (typ : Nat) : Bool :=
  s.jobs.toList.any fun j => decide (j.typ = typ) && (j.st == .running || j.st == .suspended)

/-- An OTP_PROGRAM job is in a state in which PD_OTPW may be on: RUNNING, SUSPENDING or CANCELLING (R29). -/
def State.otpwWanted (s : State) : Bool :=
  s.jobs.toList.any fun j => decide (j.typ = jOtp) && (j.st == .running || j.st == .suspending || j.st == .cancelling)

/-- Why a domain request is refused (R29, R103, R104); 0 where it is not. A job's switch-on of PD_OTPW that reaches the head of the queue when the
job may not have the domain any more is refused too (log 162). Standby entry asks for every switch-off it needs. -/
def State.domRefusal (s : State) (d : Nat) (up job : Bool) : Nat :=
  if up then
    if s.hl2880 && (d == 2 || d == 3) then 0x04
    else if (d == dLink || d == dCan) && s.on R.SYS_STATUS_REF_FALLBACK 0 then 0x05
    else if d == dOtpw && !(job && s.otpwWanted) then 0x03 else 0
  else if s.pwr.mode == .entry then 0
  else if d == dLink && chans.any fun n => s.isArmed n && decide (s.run R.CH_MODE_GANG n.val ≠ 0) then 0x01
  else if d == dTrace && s.jobStands jTrace then 0x02
  else if d == dOtpw && !job then 0x06 else 0

/-- The REQ bit of a request clears (R102). -/
def State.reqDone (s : State) (d : Nat) (up : Bool) : State :=
  if up then s.clrBits R.PWR_DOM_ON_REQ 0 (2 ^ d) else s.clrBits R.PWR_DOM_OFF_REQ 0 (2 ^ d)

/-- PWR.REFUSE takes a refusal (R104). -/
def State.refuse (s : State) (d : Nat) (up : Bool) (cause : Nat) : State :=
  s.wrs 0 [(R.PWR_REFUSE_VALID, 1), (R.PWR_REFUSE_DIR, up.toNat), (R.PWR_REFUSE_TARGET, d), (R.PWR_REFUSE_CAUSE, cause),
    (R.PWR_IRQ_REFUSED, 1)]

/-- CORE is powered: boot past step 5, running, held reset, standby entry (R71). -/
def State.coreOn (s : State) : Bool :=
  match s.pwr.mode with
  | .standby => false
  | .boot => decide (5 ≤ s.pwr.step)
  | _ => true

/-- Requests written in one cycle queue in domain order; a bit whose request still waits is ignored, and so is a write during standby
entry and while CORE is not powered (R62, R79, R89). -/
def State.domRequest (s : State) (up : Bool) (w : Nat) : State :=
  if s.pwr.mode == .entry || !s.coreOn then s
  else
    let f := if up then R.PWR_DOM_ON_REQ else R.PWR_DOM_OFF_REQ
    (List.range 8).foldl (fun s d =>
      if w.testBit d && !s.bit f 0 d then { s.orBits f 0 (2 ^ d) with pwrQ := s.pwrQ ++ [(d, up, false)] } else s) s

/-- DOM_ON (R102). -/
def execDomOn (w : BitVec 8) (s : State) : Host.Outcome State Fault Refusal := .next (s.domRequest true w.toNat)

/-- DOM_OFF (R102). -/
def execDomOff (w : BitVec 8) (s : State) : Host.Outcome State Fault Refusal := .next (s.domRequest false w.toNat)

/-- An OTP_PROGRAM job that waits for PD_OTPW ends (R339). -/
def State.otpwRefused (s : State) : State :=
  match s.holder 8 with
  | some k => s.jobFail k cPrecond
  | none => s

/-- A transition of domain `d` starts (R62, R63). -/
def State.transStart (s : State) (d : Nat) (up job : Bool) : State :=
  let s := { s.wrs 0 [(R.PWR_STATUS_BUSY, 1), (R.PWR_DOM_STATE_BUSY, 2 ^ d)] with pwr.trans := some (d, up, job) }
  if up then s else s.domDown d

/-- DOMAIN_TRANSITION_START (R62, R103): the head of the queue is tested. A request for the state the domain has completes before any ground of
refusal is looked at: the model's choice between R62 and R103 (log 162). -/
def execDomainTransitionStart (s : State) : Host.Outcome State Fault Refusal :=
  .next (match s.pwrQ with
    | [] => s
    | (d, up, job) :: q =>
      if s.pwr.trans.isSome then s
      else
        let s := { s with pwrQ := q }
        let c := s.domRefusal d up job
        if s.domOn d = up then s.reqDone d up
        else if c ≠ 0 then
          let s := (s.reqDone d up).refuse d up c
          if job && up && c != 3 then s.otpwRefused else s
        else s.transStart d up job)

/-- The transition in progress is over. -/
def State.transEnd (s : State) (d : Nat) (up : Bool) : State :=
  let s := { s with pwr.trans := none }
  (s.wrs 0 [(R.PWR_STATUS_BUSY, 0), (R.PWR_DOM_STATE_BUSY, 0), (R.PWR_IRQ_DOM_DONE, 1)]).reqDone d up

/-- Standby entry stops: CORE stays on, domains switched off stay off (R80). -/
def State.entryAbort (s : State) : State :=
  { s.wrs 0 [(R.PWR_IRQ_STANDBY_ABORT, 1), (R.PWR_CTRL_STANDBY, 0)] with pwr.mode := .run, pwr.woke := false, pwrQ := [] }

/-- A wake event came during entry: it ends with the transition in progress (R80). -/
def State.entryCheck (s : State) : State := if s.pwr.mode == .entry && s.pwr.woke then s.entryAbort else s

/-- Domain `d` reports on (R62, R88): its pages stand at their reset values; ports take CFG3, in auto for their first attempt too (R395), and leave what the HL2880 lacks disabled; the
NET page takes its CUSTOMER values; with CFG0 and CFG2 the controllers come on with the domain as they do at boot otherwise (R45); a re-verify pass pauses while PD_OTPW is on (R503). -/
def State.domUp (s : State) (d : Nat) : State :=
  let s := s.orBits R.PWR_DOM_STATE_ON 0 (2 ^ d)
  if d = dLink then
    let s := s.wr R.CLK_STATUS_LINKPLL_LOCK 0 1
    s.forCh fun p s =>
      let s := (s.wr R.LNK_CFG_RATE p.val (s.pwr.cfg / 8)).modLp p fun l => { l with cable := s.pwr.cfg.testBit 3 }
      if s.hl2880 && decide (2 ≤ p.val) then s.wr R.LNK_STATUS_STATE p.val 0 else s
  else if d = dCan then
    let s := s.otpNet
    if s.pwr.cfg.testBit 0 && s.pwr.cfg.testBit 2 then s.otpCan else s
  else if d = dOtpw then s.otpPassPause
  else s

/-- OFFCAL has run while PD_CHn became ready and found these averages (R199). -/
def State.readyOffsets (s : State) (d : Nat) (a b c : Int) : State := if h : d < 4 then s.putOffsets ⟨d, h⟩ a b c else s

/-- DOMAIN_READY (R62); `a`, `b`, `c`: the averages of OFFCAL, in codes from the nominal midpoint, for a channel domain. -/
def execDomainReady (a b c : Int) (s : State) : Host.Outcome State Fault Refusal :=
  .next (match s.pwr.trans with
    | some (d, true, _) => (((s.transEnd d true).domUp d).readyOffsets d a b c).entryCheck.settleAll
    | _ => s)

/-- DOMAIN_OFF_COMPLETE (R63). -/
def execDomainOffComplete (s : State) : Host.Outcome State Fault Refusal :=
  .next (match s.pwr.trans with
    | some (d, false, _) =>
      let s := s.transEnd d false
      (if d = dOtpw then s.otpPassResume else s).entryCheck
    | _ => s)

/-- DOM_FAIL_TIMEOUT (R102): the domain is switched off again. -/
def execDomFailTimeout (s : State) : Host.Outcome State Fault Refusal :=
  .next (match s.pwr.trans with
    | some (d, true, job) =>
      let s := { s with pwr.trans := none }
      let s := (s.wrs 0 [(R.PWR_STATUS_BUSY, 0), (R.PWR_DOM_STATE_BUSY, 0)]).reqDone d true
      let s := (s.wr R.CLK_STATUS_LINKPLL_LOCK 0 (if d = dLink then 0 else s.rd R.CLK_STATUS_LINKPLL_LOCK 0)).raise srcDomFail 0
      (if job then s.otpwRefused else s).entryCheck.settleAll
    | _ => s)

/-! ### Resets -/

/-- The words of region 0x00 that show pins, comparators and the AON record, which a reset of CORE leaves (R73, R99). -/
def State.shown (s : State) (keepRef : Bool) (t : State) : State :=
  let t := t.wrs 0 [(R.PWR_STATUS_GOOD, s.rd R.PWR_STATUS_GOOD 0), (R.FBK_STATUS_PIN, (!s.haltLow).toNat),
    (R.GPIO_IN, s.rd R.GPIO_IN 0), (R.SYS_STATUS_TEST, s.pwr.test.toNat), (R.SYS_STRAP_CFG, s.pwr.cfg),
    (R.CLK_STATUS_REF_GOOD, if keepRef && !s.on R.SYS_STATUS_REF_FALLBACK 0 then s.rd R.CLK_STATUS_REF_GOOD 0 else 0)]
  let t := t.wrs 0 [(R.SYS_BOOT_STEP, t.pwr.step)]
  let t := if t.hl2880 then t.wrs 0 [(R.SYS_PART_PORTS, 3), (R.SYS_PART_CHANNELS, 3), (R.SYS_PART_VARIANT, 0x28)] else t
  (t.setWord 0x30 (wd t.pwr.cause)).setWord 0x34 (wd t.pwr.wakeSrc)

/-- Everything except AON at its reset value, the boot to go on after step `step` for the causes `cause` (R71, R73, R99); `keep`: the patch
RAM keeps its contents, with the record of a patch whose verification has ended well, and the reference runs on (R508). A RESET_N that is low in steps 1 to 5 is a cause too. Every channel record starts again
OFF with all its switches off (R72). What the last host SPI frame reported goes too, at standby entry as at a reset (R111; log 163). -/
def State.coreReset (s : State) (mode : PMode) (cause step : Nat) (keep : Bool) : State :=
  let cause := if s.pwr.rstLow = true ∧ step < 5 ∧ mode = .boot then cause ||| 32 else cause
  let t : State := { State.reset with
    pending := s.pending, now := s.now, free := s.free, hl2880 := s.hl2880, haltLow := s.haltLow, tap := s.tap,
    pwr := { s.pwr with mode := mode, step := step, late := [], trans := none, soft := none, buckWait := false, hold := 0,
                        woke := false, cause := cause },
    otp := { Otp.reset with fuse := s.otp.fuse, bad := s.otp.bad.filter fun b => decide (0x300 ≤ b),
                            patchCrc := if keep then s.otp.patchCrc else 0, patchLen := if keep && !s.otp.patchBusy then s.otp.patchLen else 0 },
    mem := s.mem.filter fun e => (decide (0x302200 ≤ e.1) && decide (e.1 < 0x302210)) ||
      (keep && decide (0x380000 ≤ e.1) && decide (e.1 < 0x388000)) }
  (s.shown keep t).otpLatched

/-- The number of the AONCLK cycle, 128 kHz, counted from power-on (R66; log 148). -/
def State.aonCycle (s : State) : Nat := s.now / 3125

/-- RESET_CAUSE after a reset by the causes `c`: those of the same AONCLK cycle stand beside it, a DEVRST written in it among them (R73, R99). -/
def State.causes (s : State) (c : Nat) : Nat :=
  (if s.pwr.causeCyc = s.aonCycle then s.pwr.cause ||| c else c) ||| (if s.pwr.soft = some s.aonCycle then 64 else 0)

/-- A reset by the causes `c` (R71, R73), which ends a pulse of OTP programming (R507). -/
def State.resetBy (s : State) (c step : Nat) (keep : Bool) : State :=
  ({ s.otpCut with pwr.causeCyc := s.aonCycle }).coreReset .boot (s.causes c) step keep

/-- A device reset while CORE is powered (R71): boot goes on at step 6. -/
def State.deviceReset (s : State) (cause : Nat) : State := s.resetBy cause 5 true

/-- A cause beside a reset of the same AONCLK cycle is recorded with it (R73). -/
def State.causeToo (s : State) (c : Nat) : State :=
  if s.pwr.causeCyc = s.aonCycle then ({ s with pwr.cause := s.pwr.cause ||| c }).setWord 0x30 (wd (s.pwr.cause ||| c)) else s

/-- The power-on reset: everything, AON included (R71, R98, R99). -/
def State.powerOn (s : State) : State :=
  let s := s.otpCut
  let t : State := { State.reset with
    pending := s.pending, now := s.now, free := s.free, hl2880 := s.hl2880, haltLow := s.haltLow,
    pwr := { Pwr.reset with test := s.pwr.test, rstLow := s.pwr.rstLow, cause := if s.pwr.rstLow then 33 else 1, causeCyc := s.aonCycle },
    otp := { Otp.reset with fuse := s.otp.fuse } }
  (s.shown false t).clrBits R.PWR_STATUS_GOOD 0 1

/-- POWER_ON_RESET (R71). -/
def execPowerOnReset (s : State) : Host.Outcome State Fault Refusal := .next s.powerOn

/-- SUPPLY_GOOD (R55): supplies in the order of PWR.STATUS.GOOD, 0 VSUP to 4 VDDA. The buck delivers nothing in its 10 ms wait (R60). -/
def execSupplyGood (k : Fin 5) (s : State) : Host.Outcome State Fault Refusal :=
  .next (if k = 3 ∧ s.pwr.buckWait then s else s.orBits R.PWR_STATUS_GOOD 0 (2 ^ k.val))

/-- SUPPLY_FAIL (R55, R71): VSUP leads to the power-on reset, the others to a brown-out reset from step 3 on; one that fails in the AONCLK cycle of
a reset is a cause beside it (R73). A supply that fails in standby, where only VIO and an external VDRV are left, or in steps 1 and 2, before the boot
has asked for it, clears its GOOD bit, resets nothing and is no cause: the model's choice (log 127). -/
def execSupplyFail (k : Fin 5) (s : State) : Host.Outcome State Fault Refusal :=
  .next (if k = 0 then s.powerOn
    else if !s.bit R.PWR_STATUS_GOOD 0 k.val then s
    else
      let s := s.clrBits R.PWR_STATUS_GOOD 0 (2 ^ k.val)
      if s.pwr.mode == .standby then s
      else if s.pwr.mode == .boot && decide (s.pwr.step < 3) then s.causeToo (2 ^ k.val)
      else s.resetBy (2 ^ k.val) 2 false)

/-- RESET_N_LOW (R71): in standby and before step 6 it resets nothing; in steps 1 to 5 it is recorded. Every gate goes off, and no active short
follows (R72). -/
def execResetNLow (s : State) : Host.Outcome State Fault Refusal :=
  .next (let s := { s with pwr.rstLow := true }
    if s.coreOn then s.deviceReset 32
    else if s.pwr.mode == .boot then
      ({ s with pwr.cause := s.pwr.cause ||| 32 }).setWord 0x30 (wd (s.pwr.cause ||| 32))
    else s)

/-- RESET_N_HIGH (R71): step 6 can complete. -/
def execResetNHigh (s : State) : Host.Outcome State Fault Refusal := .next { s with pwr.rstLow := false }

/-- DEVRST (R98): with KEY 0xC3 the reset follows 10 µs later. -/
def State.devRst (s : State) (key : Nat) : State :=
  if key = 0xC3 ∧ s.coreOn then { s.wr R.SYS_CTRL_DEVRST 0 1 with pwr.soft := some s.aonCycle } else s

/-- DEVRST (R98). -/
def execDevrst (key : BitVec 8) (s : State) : Host.Outcome State Fault Refusal := .next (s.devRst key.toNat)

/-- SOFTWARE_RESET (R71). -/
def execSoftwareReset (s : State) : Host.Outcome State Fault Refusal := .next (if s.pwr.soft.isSome then s.deviceReset 64 else s)

/-- The held reset (R74, R123): the first cause stays reported. -/
def State.hold (s : State) (cause : Nat) : State :=
  if s.pwr.mode == .held then s else { s with pwr.mode := .held, pwr.hold := cause }

/-! ### The boot timeline -/

/-- The condition under which step `k` of R75 can complete. -/
def State.stepReady (s : State) (k : Nat) : Bool :=
  let good (b : Nat) := s.bit R.PWR_STATUS_GOOD 0 b
  match k with
  | 1 => good 0
  | 3 => good 1 && good 2
  | 4 => good 4
  | 5 => good 3
  | 6 => !s.pwr.rstLow
  | 7 => s.on R.CLK_STATUS_REF_GOOD 0 || s.on R.SYS_STATUS_REF_FALLBACK 0
  | 8 => s.on R.CLK_STATUS_SYSPLL_LOCK 0
  | 12 => s.on R.SUP_STATUS_POST_OK 0
  | 13 | 14 | 15 | 16 => s.pwrQ.isEmpty && s.pwr.trans.isNone
  | _ => true

/-- The majority of three samples of the CFG pins (R44). -/
def majority (a b c : Nat) : Nat := ((a &&& b) ||| (a &&& c) ||| (b &&& c)) % 16

/-- The device switches a domain on at boot. -/
def State.bootOn (s : State) (d : Nat) : State := { s with pwrQ := s.pwrQ ++ [(d, true, false)] }

/-- Boot is complete (R75): BOOT_DONE, and a HALT_N that is low presents the halt (R82). -/
def State.bootDone (s : State) (pinHigh : Bool) : State :=
  let s := s.wrs 0 [(R.SYS_BOOT_STEP, 17), (R.SYS_STATUS_BOOT_DONE, 1), (R.SYS_IRQ_BOOT_DONE, 1)]
  let s := { s with pwr.mode := .run, pwr.step := 17, haltLow := !pinHigh }.haltPin
  if !pinHigh && s.on R.FBK_CFG_HIN_EN 0 then s.haltAssert 1 else s

/-- What follows the domains of step `k` in the plan of R75 and R77: PD_CH0 to PD_CH3 and PD_TRACE as CUSTOMER byte 0 says, PD_CAN with
CFG2, PD_LINK without CFG0. -/
def State.bootPlan (s : State) (k : Nat) : State :=
  let c := s.regionByte 2 0 0x1F
  let cfg (b : Nat) := s.pwr.cfg.testBit b
  if k = 12 then (List.range 4).foldl (fun s d => if c.testBit d && s.chOk d then s.bootOn d else s) s
  else if k = 13 then (if c.testBit 4 then s.bootOn dTrace else s)
  else if k = 14 then (if !cfg 0 && cfg 2 then s.bootOn dCan else s)
  else if k = 15 then (if !cfg 0 then s.bootOn dLink else s)
  else s

/-- The effect of step `k` itself, `m` holding what it senses: what the references read differently (steps 5 and 10), the three samples of
the CFG pins (step 6). -/
def State.bootEffect (s : State) (k : Nat) (m : List Nat) : State :=
  match k with
  | 5 => s.otpDirect m
  | 6 =>
    let c := majority (m.getD 0 0) (m.getD 1 0) (m.getD 2 0)
    { s.wr R.SYS_STRAP_CFG 0 c with pwr.cfg := c }
  | 7 => if s.on R.SYS_STATUS_REF_FALLBACK 0 then s.wrs 0 [(R.CLK_STATUS_SYSPLL_RC, 1), (R.CLK_STATUS_PWMPLL_RC, 1)] else s
  | 8 => if s.pwr.late.isEmpty then s else s.raise srcBootTimeout 0
  | 9 => s.patchBoot
  | 10 => s.otpSense m
  | 11 => s.otpStep11
  | 15 => if s.domOn dCan && s.pwr.cfg.testBit 2 && !s.pwr.cfg.testBit 0 then s.otpCan else s
  | _ => s

/-- Step `k` has completed, or is passed without its effect; the steps that CFG0 and CFG2 skip pass with it (R77). -/
def State.stepDone (s : State) (k : Nat) : State :=
  let s := { s.wr R.SYS_BOOT_STEP 0 k with pwr.step := k }
  let s := s.bootPlan k
  if k = 14 ∧ s.pwr.cfg.testBit 0 then { s with pwr.step := 16 }
  else if k = 14 ∧ s.pwr.cfg.testBit 2 = false then ({ s with pwr.step := 15 }).bootPlan 15
  else s

/-- BOOT_STEP_COMPLETE (R75) for the step after the last one; `m`: what the step senses, `pinHigh`: the level of HALT_N (step 17). -/
def execBootStepComplete (m : List Nat) (pinHigh : Bool) (s : State) : Host.Outcome State Fault Refusal :=
  .next (let k := s.pwr.step + 1
    if s.pwr.mode == .boot && s.stepReady k then
      (if k = 17 then s.bootDone pinHigh else (s.bootEffect k m).stepDone k).settleAll
    else s)

/-- BOOT_STEP_TIMEOUT (R77): the step after the last one has exceeded twice its maximum time. The raise follows once the Lodge runs; the
steps after 12 depend on no late domain. Step 7 ends with the fallback and step 12 with the held reset, so neither has a timeout of this kind. -/
def execBootStepTimeout (s : State) : Host.Outcome State Fault Refusal :=
  .next (let k := s.pwr.step + 1
    if s.pwr.mode == .boot && !s.pwr.late.contains k && k != 7 && k != 12 && decide (k ≤ 17) then
      let s := { s.orBits R.SYS_BOOT_LATE_LATE 0 (2 ^ (k - 1)) with pwr.late := k :: s.pwr.late }
      let s := if 8 < k then s.raise srcBootTimeout 0 else s
      (if 12 < k ∧ k < 17 then s.stepDone k else s).settleAll
    else s)

/-- BUCK_SOFTSTART_TIMEOUT (R60). -/
def execBuckSoftstartTimeout (s : State) : Host.Outcome State Fault Refusal :=
  .next (if s.pwr.mode == .boot && decide (3 ≤ s.pwr.step) && !s.bit R.PWR_STATUS_GOOD 0 3 then { s with pwr.buckWait := true } else s)

/-- BUCK_RESTART (R60). -/
def execBuckRestart (s : State) : Host.Outcome State Fault Refusal := .next { s with pwr.buckWait := false }

/-- VDRV_REG_EN_WRITE (R59): the field is RWL. -/
def execVdrvRegEnWrite (b : Bool) (s : State) : Host.Outcome State Fault Refusal :=
  .next (if s.locked 0x02 then s.wrDenied 0x02
    else s.wrs 0 [(R.PWR_REG_VDRV_REG_EN, b.toNat), (R.PWR_STATUS_VDRV_REG_ON, b.toNat)])

/-- TEST_PIN_CHANGE (R51). -/
def execTestPinChange (b : Bool) (s : State) : Host.Outcome State Fault Refusal :=
  .next ({ s.wr R.SYS_STATUS_TEST 0 b.toNat with pwr.test := b }).settleAll

/-! ### Clocks -/

/-- The monitor of a clock runs (R70): from step 11 of the boot, while the clock's PLL is locked and its domain is on. -/
def State.monActive (s : State) (k : Fin 8) : Bool :=
  s.coreOn && decide (11 ≤ s.pwr.step) &&
    match k with
    | 1 => s.on R.CLK_STATUS_PWMPLL_LOCK 0
    | 4 => s.on R.CLK_STATUS_LINKPLL_LOCK 0 && s.domOn dLink
    | 5 => true
    | 6 => true
    | 7 => true
    | _ => s.on R.CLK_STATUS_SYSPLL_LOCK 0

/-- REFERENCE_GOOD (R65): the oscillator runs from VDDA; the fallback ends only by reset (R69). -/
def execReferenceGood (s : State) : Host.Outcome State Fault Refusal :=
  .next (if s.bit R.PWR_STATUS_GOOD 0 4 && s.pwr.mode != .standby then s.wr R.CLK_STATUS_REF_GOOD 0 1 else s)

/-- The reference fallback begins (R69, R138, R338): CH.LAST.CAUSE takes the code of a reaction, no code being its own (log 157). -/
def State.fallback (s : State) : State :=
  if s.on R.SYS_STATUS_REF_FALLBACK 0 then s
  else
    let pll := decide (7 ≤ s.pwr.step)
    let s := s.wrs 0 [(R.SYS_STATUS_REF_FALLBACK, 1), (R.CLK_STATUS_REF_GOOD, 0), (R.CLK_STATUS_SYSPLL_RC, pll.toNat),
      (R.CLK_STATUS_PWMPLL_RC, pll.toNat)]
    let s := s.forCh fun n s => s.whenCh n fun s => (s.chJobsFail n cFault).toState n .hold byReaction
    s.condSet srcRefFail true

/-- REFERENCE_FALLBACK (R69, R77). -/
def execReferenceFallback (s : State) : Host.Outcome State Fault Refusal :=
  .next (if (s.pwr.mode == .boot && decide (4 ≤ s.pwr.step)) || s.pwr.mode == .run || s.pwr.mode == .entry then s.fallback.settleAll
    else s)

/-- PLL_LOCKED (R67): 0 SYS PLL, 1 PWM PLL, both enabled at step 7, 2 link PLL. -/
def execPllLocked (k : Fin 3) (s : State) : Host.Outcome State Fault Refusal :=
  .next (if k = 2 then
      (if s.domOn dLink then ((s.wr R.CLK_STATUS_LINKPLL_LOCK 0 1).condSet srcLinkUnlock false).settleAll else s)
    else if s.pwr.step < 7 then s
    else if k = 0 then s.wrs 0 [(R.CLK_STATUS_SYSPLL_LOCK, 1), (R.CLK_STATUS_BUCK_CCLK, 1)]
    else ((s.wr R.CLK_STATUS_PWMPLL_LOCK 0 1).condSet srcPwmUnlock false).timeSource.settleAll)

/-- The SYS PLL or its clock fails: the reset follows the safe-state request within 1 µs (R68, R70, R532). -/
def State.clockReset (s : State) (cause : Nat) : State := s.deviceReset cause

/-- PLL_UNLOCK (R68). -/
def execPllUnlock (k : Fin 3) (s : State) : Host.Outcome State Fault Refusal :=
  .next (if k = 0 then (if s.on R.CLK_STATUS_SYSPLL_LOCK 0 then s.clockReset 0x100 else s)
    else if k = 1 then
      if s.on R.CLK_STATUS_PWMPLL_LOCK 0 then
        let s := s.wrs 0 [(R.CLK_STATUS_PWMPLL_LOCK, 0), (R.CLK_IRQ_PWMPLL_LOST, 1)]
        (((s.condSet srcPwmUnlock true).safeAll 0).timeSource).settleAll
      else s
    else if s.on R.CLK_STATUS_LINKPLL_LOCK 0 then
      let s := (s.wrs 0 [(R.CLK_STATUS_LINKPLL_LOCK, 0), (R.CLK_IRQ_LINKPLL_LOST, 1)]).condSet srcLinkUnlock true
      (s.forCh fun p s => s.whenPort p fun s => if s.lst p = 0 then s else s.portOut p 1).settleAll
    else s)

/-! ### Standby and wake -/

/-- The wake enables of PWR.WAKE_EN as one word, link ports in bits [7:4] (R104); ports 2 and 3 read 0 on the HL2880. -/
def State.wakeWord (s : State) : Nat :=
  let w := (s.word 0x230).toNat % 256
  if s.hl2880 then w % 64 else w

/-- Why a standby request is refused (R78, R104); 0 where it is not. `wakeHigh`: the WAKE pin; `sig`: signal detect per port. Of several causes the
first of the table of R104 is reported: the model's choice (log 162). -/
def State.standbyRefusal (s : State) (wakeHigh : Bool) (sig : Nat) : Nat :=
  if chans.any s.isArmed then 0x10
  else if s.jobStands jOtp then 0x11
  else if s.wakeWord &&& 0xF7 = 0 then 0x12
  else if (s.wakeWord % 2 = 1 ∧ wakeHigh) ∨ (s.wakeWord / 16) &&& sig ≠ 0 then 0x13 else 0

/-- REQ bits after the queue is dropped: that of the transition in progress stands until it completes (R79). -/
def State.reqLeft (s : State) (up : Bool) : Nat :=
  match s.pwr.trans with
  | some (d, u, _) => if u = up then s.rd (if up then R.PWR_DOM_ON_REQ else R.PWR_DOM_OFF_REQ) 0 &&& 2 ^ d else 0
  | none => 0

/-- STANDBY (R78, R79, R104): with KEY 0x5A, in operation. -/
def State.standby (s : State) (key : Nat) (wakeHigh : Bool) (sig : Nat) : State :=
  if key ≠ 0x5A ∨ s.pwr.mode ≠ .run then s
  else
    let c := s.standbyRefusal wakeHigh sig
    if c ≠ 0 then s.refuse 0xF false c
    else
      let s := s.wrs 0 [(R.PWR_CTRL_STANDBY, 1), (R.PWR_DOM_ON_REQ, s.reqLeft true), (R.PWR_DOM_OFF_REQ, s.reqLeft false)]
      { s with pwr.mode := .entry, pwr.wakeEn := s.wakeWord, pwr.woke := false,
               pwrQ := [7, 6, 5, 4, 3, 2, 1, 0].map fun d => (d, false, true) }

/-- STANDBY (R78). -/
def execStandby (key : BitVec 8) (wakeHigh : Bool) (sig : BitVec 4) (s : State) : Host.Outcome State Fault Refusal :=
  .next (s.standby key.toNat wakeHigh sig.toNat)

/-- STANDBY_ENTRY_COMPLETE (R79): CORE is isolated; buck and LDO are off, and VDRV with its regulator. Where the regulator was enabled GOOD.VDRV falls
with it, whatever an external source may hold: the model's choice, and the one place beside the SUPPLY rows where GOOD changes (log 127). -/
def execStandbyEntryComplete (s : State) : Host.Outcome State Fault Refusal :=
  .next (if s.pwr.mode == .entry && s.pwrQ.isEmpty && s.pwr.trans.isNone then
      let reg := s.on R.PWR_REG_VDRV_REG_EN 0
      (s.coreReset .standby s.pwr.cause 0 false).clrBits R.PWR_STATUS_GOOD 0 (if reg then 0x1A else 0x18)
    else s)

/-- Wake event `code` of R98, its bit in WAKE_SRC being `b`: a wake from standby, the end of an entry, or one more record of the same wake; of
the events of the wake's AONCLK cycle the lowest code is FIRST (R80, R81, R98). -/
def State.wake (s : State) (code b : Nat) : State :=
  if !s.pwr.wakeEn.testBit b then s
  else match s.pwr.mode with
    | .standby => ({ s with pwr.wakeSrc := code * 256 + 2 ^ b }).resetBy 0x400 2 false
    | .entry => ({ s with pwr.woke := true } : State) |> fun s => if s.pwr.trans.isSome then s else s.entryAbort
    | .boot =>
      if s.pwr.cause.testBit 10 then
        let w := s.pwr.wakeSrc ||| 2 ^ b
        let w := if s.pwr.causeCyc = s.aonCycle then w % 256 + min (w / 256) code * 256 else w
        ({ s with pwr.wakeSrc := w }).setWord 0x34 (wd w)
      else s
    | _ => s

/-- WAKE_PIN_HIGH (R81). -/
def execWakePinHigh (s : State) : Host.Outcome State Fault Refusal := .next (s.wake 1 0)

/-- LINK_SIGNAL_DETECT_WAKE (R81). -/
def execLinkSignalDetectWake (p : Ch) (s : State) : Host.Outcome State Fault Refusal := .next (s.wake (4 + p.val) (4 + p.val))

/-- CAN_WAKE_PATTERN (R473): a wake, or WUP of CAN0 in low-power mode. -/
def execCanWakePattern (s : State) : Host.Outcome State Fault Refusal :=
  .next (let s := s.wake 3 2
    s.whenCan fun s => if s.rd R.CAN_CFG_XCVR 0 = 0 then s.wr R.CAN_IRQ_WUP 0 1 else s)

end Sys2Proof.Machine
end

