-- ==== Sys2Proof/Machine/JobCmd.lean ====
section
/-! DEFINITION. The job commands: a command block and its result, whichever path it arrives by (R332 to R337, R340). -/

namespace Sys2Proof.Machine

/-- The generator of channel `n` goes to speed 0 with the search paused, STATUS.HOMING staying 1 (R340). -/
def State.homingPause (s : State) (n : Ch) : State := s.modCh n fun c => { c with homeRun := false }

/-- `f` on the channel that is the job's target. -/
def State.onTarget (s : State) (tgt : Nat) (f : Ch → State → State) : State := if h : tgt < 4 then f ⟨tgt, h⟩ s else s

/-- What a SUSPEND or a CANCEL of a job at work does at once: a homing search lets go (R340), TRC.STATUS.ACTIVE says that the capture is not
RUNNING (R353). -/
def State.jobLetGo (s : State) (j : Job) : State :=
  if j.typ = jHoming then s.onTarget j.tgt fun n s => s.homingPause n
  else if j.typ = jTrace then s.wr R.TRC_STATUS_ACTIVE j.tgt 0
  else s

/-- SUSPEND (R337). -/
def State.jobSuspend (s : State) (k : Fin 16) : State × Word :=
  let j := s.job k
  match j.st with
  | .queued =>
    ((s.setJob k { (j.enter s.now .suspended) with noRes := true }).orBits R.JOB_IRQ_SUSPENDED 0 (2 ^ k.val), s.handle k)
  | .running => ((s.setJob k { (j.enter s.now .suspending) with
      ended := decide (j.typ = jOtp) && !s.domOn dOtpw }).jobLetGo j, s.handle k)
  | _ => (s, notAllowed)

/-- The resume actions of R340, and what withdrawing a request continues. -/
def State.jobGoOn (s : State) (j : Job) : State :=
  if j.typ = jDiag then
    s.onTarget j.tgt fun n s =>
      (s.wrs j.tgt [(R.DIAG_STATUS_BUSY, 1), (R.DIAG_STATUS_STEP, 1)]).modCh n fun c => { c with diag := Diag.reset }
  else if j.typ = jGateChar then
    s.onTarget j.tgt fun n s =>
      (s.wr R.DIAG_STATUS_BUSY j.tgt 1).modCh n fun c => { c with diag.pulse := if j.work < 24 then some s.now else none }
  else if j.typ = jSelftest then s.wr R.CMP_STATUS_SELFTEST_BUSY j.tgt 1
  else if j.typ = jHoming then
    s.onTarget j.tgt fun n s => s.modCh n fun c => { c with homeRun := !c.spt.homeCap }
  else if j.typ = jTrace then
    s.onTarget j.tgt fun n s =>
      (s.wrs j.tgt [(R.TRC_STATUS_ACTIVE, 1), (R.TRC_STATUS_STREAMING, if s.rd R.TRC_CFG_DST j.tgt = 0 then 0 else 1)]).modCh n
        fun c => { c with trc.gap := true, trc.sgap := true }
  else if j.typ = jOtp then { s with pwrQ := s.pwrQ ++ [(dOtpw, true, true)] }
  else if j.typ = jReenum then s.enumPump
  else if j.typ = jBert then s.onTarget j.tgt fun p s => s.modLp p fun l => { l with bert := true, bertAt := s.now }
  else s

/-- The job as it runs again: IDENT waits for rest, and then takes the interrupted quantity from its first step; DIAG_OFFSTATE starts anew
(R340). -/
def Job.again (j : Job) (now : Nat) : Job :=
  let r := j.enter now .running
  if j.typ = jIdent then { r with resting := true, work := 0, meas := [] }
  else if j.typ = jDiag then { r with work := 0, progress := 0 } else r

/-- RESUME (R337, R340). -/
def State.jobResume (s : State) (k : Fin 16) : State × Word :=
  let j := s.job k
  match j.st with
  | .suspended =>
    if j.noRes then
      ({ s.setJob k { (j.enter s.now .queued) with noRes := false, seq := s.jobSeq } with jobSeq := s.jobSeq + 1 }, s.handle k)
    else ((s.setJob k (j.again s.now)).jobGoOn j, s.handle k)
  | .suspending =>
    let s := s.setJob k (j.enter s.now .running)
    (if j.typ = jHoming then s.jobGoOn j else if j.typ = jTrace then s.wr R.TRC_STATUS_ACTIVE j.tgt 1 else s, s.handle k)
  | _ => (s, notAllowed)

/-- CANCEL (R337): a job suspended in the queue fails at once. -/
def State.jobCancel (s : State) (k : Fin 16) : State × Word :=
  let j := s.job k
  if j.st = .suspended ∧ j.noRes = true then (s.jobEnd k .failed cCancelled, s.handle k)
  else if j.st = .running ∨ j.st = .suspending ∨ j.st = .suspended then
    ((s.setJob k { (j.enter s.now .cancelling) with
      ended := decide (j.st = .suspended) || (decide (j.st = .suspending) && j.ended) || (decide (j.typ = jOtp) && !s.domOn dOtpw) }).jobLetGo j, s.handle k)
  else (s, notAllowed)

/-- RELEASE (R337): the slot is free, its results are cleared, its generation stays (R332). -/
def State.jobRelease (s : State) (k : Fin 16) : State × Word :=
  let j := s.job k
  if j.st = .done ∨ j.st = .failed then (s.setJob k { Job.reset with gen := j.gen }, s.handle k) else (s, notAllowed)

/-- A command block of origin `origin`, word 0 first, and its result (R334, R335). -/
def State.jobCommand (s : State) (origin : Nat) (b : List Word) : State × Word :=
  let w := (b.getD 0 0).toNat
  let op := w / 2 ^ 28
  if op = 1 then s.jobStart origin (w / 2 ^ 24 % 16) (w / 2 ^ 20 % 16) ((b.drop 1).take 7)
  else if op = 0 ∨ 5 < op then (s, badCode)
  else
    let k : Fin 16 := ⟨w % 16, Nat.mod_lt _ (by decide)⟩
    if (s.job k).st = .idle ∨ (s.job k).gen ≠ w / 16 % 4096 then (s, badHandle)
    else if op = 2 then s.jobSuspend k
    else if op = 3 then s.jobResume k
    else if op = 4 then s.jobCancel k
    else s.jobRelease k

/-- The bank of JOB.BLK and JOB.RESULT of an origin (R336): host SPI, Lodge, fabric, G0 to G3. -/
def jobBank (origin : Nat) : Fin 8 := ⟨origin % 8, Nat.mod_lt _ (by decide)⟩

/-- Words from word 0 on go to an origin's bank of JOB.BLK; the others keep what they hold (R336). -/
def State.blkPut (s : State) (origin : Nat) (b : List Word) : State :=
  let v := s.jobBlk.get (jobBank origin)
  { s with jobBlk := s.jobBlk.set (jobBank origin).val (Vector.ofFn fun i : Fin 8 => b.getD i.val v[i.val]) }

/-- A block that executes from an origin's bank leaves its result there (R334, R336). -/
def State.jobBlock (s : State) (origin : Nat) (b : List Word) : State :=
  let (s, r) := s.jobCommand origin b
  { s with jobRes := s.jobRes.set (jobBank origin).val r }.settleAll

/-- The words of `b` are written to an origin's bank, word 0 last, which executes the block that stands there (R334, R336). -/
def State.jobPost (s : State) (origin : Nat) (b : List Word) : State :=
  let s := s.blkPut origin b
  s.jobBlock origin (s.jobBlk.get (jobBank origin)).toList

/-- A command block whose word 0 has OP `op`. -/
def jobWord (op handle : Nat) : Word := wd (op * 2 ^ 28 + handle % 65536)

/-- JOB_START (R334): the parameter words from word 1 on that are written before word 0 in `params`. -/
def execJobStart (origin : Fin 7) (typ tgt : BitVec 4) (params : List (BitVec 32)) (s : State) : Host.Outcome State Fault Refusal :=
  .next (s.jobPost origin.val (wd (2 ^ 28 + typ.toNat * 2 ^ 24 + tgt.toNat * 2 ^ 20) :: params))

/-- JOB_SUSPEND (R337). -/
def execJobSuspend (origin : Fin 7) (handle : BitVec 16) (s : State) : Host.Outcome State Fault Refusal :=
  .next (s.jobPost origin.val [jobWord 2 handle.toNat])

/-- JOB_RESUME (R337). -/
def execJobResume (origin : Fin 7) (handle : BitVec 16) (s : State) : Host.Outcome State Fault Refusal :=
  .next (s.jobPost origin.val [jobWord 3 handle.toNat])

/-- JOB_CANCEL (R337). -/
def execJobCancel (origin : Fin 7) (handle : BitVec 16) (s : State) : Host.Outcome State Fault Refusal :=
  .next (s.jobPost origin.val [jobWord 4 handle.toNat])

/-- JOB_RELEASE (R337). -/
def execJobRelease (origin : Fin 7) (handle : BitVec 16) (s : State) : Host.Outcome State Fault Refusal :=
  .next (s.jobPost origin.val [jobWord 5 handle.toNat])

end Sys2Proof.Machine
end

