-- ==== Sys2Proof/Machine/Rom.lean ====
section
/-! DEFINITION. The stock programs of the Lodge ROM (R329). The spec gives what each does and not its words: these are programs of the model that
do it (log 165). -/

namespace Sys2Proof.Machine

/-- `rd = ra + v`. -/
def gAddi (rd ra : GReg) (v : GImm) : GOp := .immOp .addi rd ra v

/-- A load of data word `k`. -/
def gLd (rd : GReg) (k : GImm) : GOp := .acc .ld rd 0 k

/-- A read of the own channel's register at local address `a` (R314). -/
def gCrd (rd : GReg) (a : GImm) : GOp := .acc .crd rd 0 a

/-- A write of it. -/
def gCwr (rd : GReg) (a : GImm) : GOp := .acc .cwr rd 0 a

/-- g2 = (WMIN + WMAX) / 2 in CCLK cycles, read from GRV.WDT; g9 = the first kick value (R321, R329). Eight instructions. -/
def romKickSetup : List GOp :=
  [gCrd 1 0xC28, .immOp .andi 2 1 0x3FFF, .immOp .shri 3 1 16, .immOp .andi 3 3 0x3FFF, .alu .add 2 2 3, gAddi 4 0 100, .alu .mul 2 2 4,
   gAddi 9 0 0x5A]

/-- A kick, and the complement for the next one. -/
def romKick : List GOp := [.kick 9, .immOp .xori 9 9 0xFF]

/-- GRV.SIGNAL bit 7, STOP; a further START begins again. -/
def romBad : List GOp := [gAddi 2 0 0x80, gCwr 2 0xC50, .stop, .b 0 0]

/-- KEEPALIVE: kicks on periodic TMR0. -/
def romKeepalive : List GOp :=
  romKickSetup ++ [.tset 2 2, .wfe 1 0x20] ++ romKick ++ [.b 0 9]

/-- LIMITER: a parameter in `r` that is not finite goes to `bad`; g8 = 0xFF00_0000, the bound of the exponent bits shifted left once. -/
def romFinite (r : GReg) (k : GImm) (bad : GAddr) : List GOp := [gLd r k, .immOp .shli 1 r 1, .cmp 1 8, .b 8 bad]

/-- LIMITER, the checks at START: words 0 to 5 finite, T1 < T2, 0 ≤ FMIN ≤ 1; g10 = 1.0. `bad` is where SIGNAL bit 7 is written. Thirty-three
instructions. -/
def romLimiterChecks (bad : GAddr) : List GOp :=
  [.lui 8 0xFF00, .lui 10 0x3F80] ++ romFinite 2 0 bad ++ romFinite 2 1 bad ++ romFinite 2 2 bad ++ romFinite 3 3 bad ++ romFinite 4 4 bad ++
    romFinite 5 5 bad ++
    [.fcmp 3 4, .b 4 bad, .fcmp 5 0, .b 3 bad, .fcmp 10 5, .b 3 bad, gAddi 9 0 0x5A]

/-- LIMITER: at each SAMPLE f = clamp(1 − (1 − FMIN) × (T − T1) / (T2 − T1), FMIN, 1), SPT.TGT = clamp(TGT_IN, f × LO, f × HI), a kick. The loop
takes 48 cycles. -/
def romLimiter : List GOp :=
  romLimiterChecks 55 ++
    [.wfe 1 0x1, gCrd 2 0x46C, gLd 3 3, gLd 4 4, gLd 5 5, .alu .fsub 2 2 3, .alu .fsub 4 4 3, .alu .fsub 6 10 5, .alu .fmul 6 6 2,
     .alu .fdiv 6 6 4, .alu .fsub 6 10 6, .alu .fclamp 6 5 10, gLd 2 1, .alu .fmul 2 2 6, gLd 3 2, .alu .fmul 3 3 6, gLd 4 0,
     .alu .fclamp 4 2 3, gCwr 4 0xB20, .kick 9, .immOp .xori 9 9 0xFF, .b 0 33] ++ romBad

/-- HOSTWATCH: word 0x000 is looked at every microsecond of TMR0; g5 the limit, g7 the last value, g8 the microseconds it has stood, g4 whether it
is watched. Kicks on TMR1. -/
def romHostwatch : List GOp :=
  [gLd 5 1, .cmpi 5 10, .b 7 46, .lui 6 0x98, .immOp .ori 6 6 0x9680, .cmp 6 5, .b 7 46] ++ romKickSetup ++
    [.tset 2 3, gAddi 2 0 200, .tset 2 2, gLd 7 0, gAddi 8 0 0, gAddi 4 0 1,
     .wfe 1 0x60, .immOp .andi 2 1 0x40, .b 1 26] ++ romKick ++
    [.immOp .andi 2 1 0x20, .b 1 21, gLd 3 0, .cmp 3 7, .b 1 35, gAddi 7 3 0, gAddi 8 0 0, gAddi 4 0 1, .b 0 21,
     .cmpi 4 0, .b 1 21, gAddi 8 8 1, .cmp 8 5, .b 7 21, gAddi 2 0 8, gCwr 2 0x008, gAddi 2 0 1, gCwr 2 0xC50, gAddi 4 0 0, .b 0 21] ++ romBad

/-- The words of ROM program `id`; an unknown one has none (R329). -/
def romProgram (id : Nat) : List Word :=
  match id with
  | 1 => romKeepalive.map GOp.encode
  | 2 => romLimiter.map GOp.encode
  | 3 => romHostwatch.map GOp.encode
  | _ => []

end Sys2Proof.Machine
end

