-- ==== Sys2Proof/Machine/GrvCmd.lean ====
section
/-! DEFINITION. Commands and events of the Grove cores: start and stop, images, debug, timers, watchdog, exceptions (R304 to R331). -/

namespace Sys2Proof.Machine

/-- The state code of the core of channel `n` (R319). -/
def State.core (s : State) (n : Ch) : Nat := s.rd R.GRV_STATUS_CORE n.val

/-- The core is frozen by debug (R330). -/
def State.frozen (s : State) (n : Ch) : Bool := s.on R.GRV_STATUS_DBG_HALT n.val

/-- The program counter of the core. -/
def State.gpc (s : State) (n : Ch) : Nat := s.rd R.GRV_STATUS_PC n.val

/-- The core's record changed by `f`. -/
def State.modGrv (s : State) (n : Ch) (f : Grv → Grv) : State := s.modCh n fun c => { c with grv := f c.grv }

/-- The core's record. -/
def State.grv (s : State) (n : Ch) : Grv := (s.ch n).grv

/-- A command or a WDT write is ignored (R319, R321). -/
def State.grvIgnored (s : State) (n : Ch) : State := s.wr R.GRV_IRQ_CMD_IGNORED n.val 1

/-- SIGREQ (R327): KEYS is LOCKED, LOCKED_INCOMPLETE or FAILED. -/
def State.sigReq (s : State) : Bool := decide (2 ≤ s.region 3) && decide (s.region 3 ≤ 4)

/-- KEYS is fail-closed (R327). -/
def State.keysClosed (s : State) : Bool := s.region 3 == 3 || s.region 3 == 4

/-- No load and no verification runs. -/
def State.imgIdle (s : State) (n : Ch) : Bool := (s.grv n).img == 0

/-- The watchdog window is one a START accepts (R331). -/
def State.wdtOk (s : State) (n : Ch) : Bool :=
  !s.on R.GRV_WDT_EN n.val ||
    (decide (s.rd R.GRV_WDT_WMIN n.val < s.rd R.GRV_WDT_WMAX n.val) && decide (2 ≤ s.rd R.GRV_WDT_WMAX n.val))

/-- START (R319, R331). -/
def State.grvStart (s : State) (n : Ch) : State :=
  let i := n.val
  if s.core n = 0 ∧ s.imgIdle n ∧ (s.sigReq = true → s.rd R.GRV_STATUS_IMG i = 2) ∧ s.wdtOk n then
    let en := s.on R.GRV_WDT_EN i
    let s := s.wrs i [(R.GRV_STATUS_CORE, 1), (R.GRV_EVT_PEND, 0), (R.GRV_IRQ_STARTED, 1)]
    let s := s.modGrv n fun g => { g with busy := 0, wfe := none, past := false }
    if en then (s.wr R.GRV_STATUS_WDT_ARMED i 1).modGrv n fun g => { g with kick := 0x5A, kickAt := s.now, frozeAt := s.now }
    else s
  else s.grvIgnored n

/-- GRV_START (R319). -/
def execGrvStart (n : Ch) (s : State) : Host.Outcome State Fault Refusal := .next (s.whenCh n fun s => s.grvStart n)

/-- Register `r` of the core becomes `w`; g0 discards it (R304). -/
def State.setG (s : State) (n : Ch) (r : GReg) (w : Word) : State :=
  if r = 0 then s else s.modGrv n fun g => { g with g := g.g.set r.toNat w r.isLt }

/-- Register `r` of the core (R304). -/
def State.gv (s : State) (n : Ch) (r : GReg) : Word := if r = 0 then 0#32 else (s.grv n).g.get ⟨r.toNat, r.isLt⟩

/-- PC goes to the next address, modulo 2^14. -/
def State.gInc (s : State) (n : Ch) : State :=
  (s.wr R.GRV_STATUS_PC n.val (s.gpc n + 1)).modGrv n fun g => { g with past := false }

/-- The WFE in progress completes with what is pending in its mask (R316). -/
def State.wfeEnd (s : State) (n : Ch) : State :=
  match (s.grv n).wfe with
  | none => s
  | some (r, m) =>
    let v := s.rd R.GRV_EVT_PEND n.val &&& m
    let s := (s.setG n (BitVec.ofNat 4 r) (wd v)).clrBits R.GRV_EVT_PEND n.val v
    (s.gInc n).modGrv n fun g => { g with wfe := none }

/-- R320: the watchdog supervises a channel in ARMING to STOPPING. -/
def State.stopHeld (s : State) (n : Ch) : Bool :=
  let c := s.chState n
  s.on R.GRV_STATUS_WDT_ARMED n.val &&
    (c == .arming || c == .armed || c == .starting || c == .running || c == .stopping)

/-- STOP of the host (R319, R320): the instruction in progress completes. -/
def State.grvStop (s : State) (n : Ch) : State :=
  if s.stopHeld n then s.grvIgnored n
  else
    let c := s.core n
    let s := (s.wfeEnd n).wrs n.val [(R.GRV_STATUS_CORE, 0), (R.GRV_STATUS_WDT_ARMED, 0)]
    if c = 1 ∨ c = 2 then s.wr R.GRV_IRQ_STOPPED n.val 1 else s

/-- GRV_STOP (R320). -/
def execGrvStop (n : Ch) (s : State) : Host.Outcome State Fault Refusal := .next (s.whenCh n fun s => s.grvStop n)

/-- The state of R304: registers, flags, return stack, timers and PEND 0, PC at `pc`. -/
def State.grvClear (s : State) (n : Ch) (pc : Nat) : State :=
  let s := s.wrs n.val [(R.GRV_STATUS_CORE, 0), (R.GRV_EVT_PEND, 0), (R.GRV_STATUS_PC, pc)]
  s.modGrv n fun g => { Grv.reset with kick := g.kick, kickAt := g.kickAt, frozeAt := g.frozeAt, sends := g.sends, img := g.img }

/-- RESET (R319). -/
def State.grvReset (s : State) (n : Ch) : State :=
  if s.core n = 0 ∨ s.core n = 3 then s.grvClear n (s.rd R.GRV_CFG_ENTRY n.val) else s.grvIgnored n

/-- GRV_RESET (R319). -/
def execGrvReset (n : Ch) (s : State) : Host.Outcome State Fault Refusal := .next (s.whenCh n fun s => s.grvReset n)

/-- VERIFY (R328): ignored unless STOPPED, and while a load or a verification runs. -/
def State.grvVerify (s : State) (n : Ch) : State :=
  if s.core n = 0 ∧ s.imgIdle n then (s.wr R.GRV_STATUS_IMG n.val 1).modGrv n fun g => { g with img := 1 } else s.grvIgnored n

/-- GRV_VERIFY (R328). -/
def execGrvVerify (n : Ch) (s : State) : Host.Outcome State Fault Refusal := .next (s.whenCh n fun s => s.grvVerify n)

/-- The cause with which a verification ends, 0 on success (R327, R328, R331): the checks cover program words 0 to LEN − 1 and the block at 0x3FE0. -/
def State.verifyCause (s : State) (n : Ch) : Nat :=
  let len := s.rd R.GRV_IMG_LEN n.val
  if s.keysClosed then 4
  else if len = 0 ∨ 16352 < len then 1
  else s.signCause (s.memWords (pramAddr n.val 0x3FE0) 32) (s.memWords (pramAddr n.val 0) len)

/-- GRV_VERIFY_DONE (R328): the checks have ended. -/
def execGrvVerifyDone (n : Ch) (s : State) : Host.Outcome State Fault Refusal :=
  .next (s.whenCh n fun s =>
    if (s.grv n).img = 1 then
      let c := s.verifyCause n
      let s := s.wrs n.val [(R.GRV_STATUS_IMG, if c = 0 then 2 else 3), (R.GRV_IMG_CAUSE, c), (R.GRV_IRQ_VERIFY_DONE, 1)]
      s.modGrv n fun g => { g with img := 0 }
    else s)

/-- LOAD_ROM (R329): an unknown ID loads nothing. -/
def State.grvLoad (s : State) (n : Ch) : State :=
  let id := s.rd R.GRV_ROM_ID n.val
  if s.core n ≠ 0 ∨ s.imgIdle n = false then s.grvIgnored n
  else if id = 0 ∨ 3 < id then s.wrs n.val [(R.GRV_STATUS_IMG, 3), (R.GRV_IMG_CAUSE, 5)]
  else (s.wr R.GRV_STATUS_IMG n.val 1).modGrv n fun g => { g with img := 1 + id }

/-- GRV_LOAD_ROM (R329). -/
def execGrvLoadRom (n : Ch) (s : State) : Host.Outcome State Fault Refusal := .next (s.whenCh n fun s => s.grvLoad n)

/-- GRV_LOAD_DONE (R329): the program that ROM.ID named at LOAD_ROM stands from word 0 on, the rest of program RAM is 0. -/
def execGrvLoadDone (n : Ch) (s : State) : Host.Outcome State Fault Refusal :=
  .next (s.whenCh n fun s =>
    let k := (s.grv n).img
    if 2 ≤ k then
      let s := (s.clearMem (pramAddr n.val 0) (pramAddr n.val 0x4000)).setMemWords (pramAddr n.val 0) (romProgram (k - 1))
      let s := (s.grvClear n 0).wrs n.val [(R.GRV_STATUS_IMG, 2), (R.GRV_STATUS_ROM_ID, k - 1), (R.GRV_IMG_CAUSE, 0),
        (R.GRV_IRQ_LOAD_DONE, 1)]
      s.modGrv n fun g => { g with img := 0 }
    else s)

/-- GRV_HOST_EV (R316). -/
def execGrvHostEv (n : Ch) (s : State) : Host.Outcome State Fault Refusal := .next (s.grvEvent n 7)

/-- GRV.PERF clears (R331). -/
def State.grvCntClr (s : State) (n : Ch) : State := s.wrs n.val [(R.GRV_PERF_BUSY_MAX, 0), (R.GRV_PERF_OVR, 0)]

/-- GRV_CNT_CLR (R331). -/
def execGrvCntClr (n : Ch) (s : State) : Host.Outcome State Fault Refusal := .next (s.whenCh n fun s => s.grvCntClr n)

/-- GRV_SIGNAL (R331). -/
def execGrvSignal (n : Ch) (m : BitVec 8) (s : State) : Host.Outcome State Fault Refusal :=
  .next (s.whenCh n fun s => s.orBits R.GRV_IRQ_PROG n.val m.toNat)

/-- MBOX_FREE (R325): the slots of `m` are free. -/
def execMboxFree (n : Ch) (m : BitVec 4) (s : State) : Host.Outcome State Fault Refusal :=
  .next (s.whenCh n fun s => s.clrBits R.GRV_FULL n.val m.toNat)

/-- A bus write to program RAM word `a` (R305). -/
def State.pramWrite (s : State) (n : Ch) (a : Nat) (w : Word) : State :=
  if s.core n = 0 ∧ s.imgIdle n then
    (s.setMemWord (pramAddr n.val a) w).wrs n.val [(R.GRV_STATUS_IMG, 0), (R.GRV_STATUS_ROM_ID, 0)]
  else s.wr R.GRV_IRQ_PRAM_DENIED n.val 1

/-- PROGRAM_RAM_WRITE (R305). -/
def execProgramRamWrite (n : Ch) (a : BitVec 14) (w : BitVec 32) (s : State) : Host.Outcome State Fault Refusal :=
  .next (s.whenCh n fun s => s.pramWrite n a.toNat w)

/-! ### Debug (R330) -/

/-- SYS.STATUS.DEBUG_OPEN. -/
def State.debugOpen (s : State) : Bool := s.on R.SYS_STATUS_DEBUG_OPEN 0

/-- The core that DBG.CTRL.CORE selects. -/
def State.dbgCore (s : State) : Ch := ⟨s.rd R.DBG_CTRL_CORE 0 % 4, Nat.mod_lt _ (by decide)⟩

/-- `f` on the core that debug selects, while the DBG page exists and the core is powered. -/
def State.whenDbg (s : State) (f : Ch → State → State) : State := if s.debugOpen then s.whenCh s.dbgCore (f s.dbgCore) else s

/-- The core freezes: its timers stop and Ranger pauses its watchdog interval. -/
def State.freeze (s : State) (n : Ch) : State :=
  if s.frozen n then s else (s.wr R.GRV_STATUS_DBG_HALT n.val 1).modGrv n fun g => { g with frozeAt := s.now }

/-- The paused interval goes on where it stopped, and the core with the instruction at PC. -/
def State.thaw (s : State) (n : Ch) : State :=
  if s.frozen n then
    (s.wr R.GRV_STATUS_DBG_HALT n.val 0).modGrv n fun g => { g with kickAt := g.kickAt + (s.now - g.frozeAt), past := true }
  else s

/-- DBG_HALT (R330). -/
def execDbgHalt (s : State) : Host.Outcome State Fault Refusal := .next (s.whenDbg fun n s => s.freeze n)

/-- DBG_RESUME (R330). -/
def execDbgResume (s : State) : Host.Outcome State Fault Refusal := .next (s.whenDbg fun n s => s.thaw n)

/-- Breakpoint `k` stands before the instruction at PC (R330): it is enabled and holds its address. -/
def State.bpHit (s : State) (n : Ch) (k : Nat) : Bool :=
  s.on (R.DBG_BP_EN.nth k) 0 && s.rd (R.DBG_BP_ADDR.nth k) 0 == s.gpc n && !(s.grv n).past

/-- Core `n` is the one debug selects, and a breakpoint stands before its next instruction (R330). -/
def State.breaks (s : State) (n : Ch) : Bool := s.debugOpen && s.dbgCore == n && (List.range 4).any fun k => s.bpHit n k

/-- BREAKPOINT_HIT (R330). -/
def execBreakpointHit (k : Fin 4) (s : State) : Host.Outcome State Fault Refusal :=
  .next (s.whenDbg fun n s => if s.bpHit n k.val && s.core n == 1 then s.freeze n else s)

/-! ### Events, timers, watchdog, exceptions -/

/-- The core runs or waits, and is not frozen. -/
def State.grvLive (s : State) (n : Ch) : Bool := (s.core n == 1 || s.core n == 2) && !s.frozen n

/-- WFE_WAKE (R316): a bit of the mask is set. -/
def execWfeWake (n : Ch) (s : State) : Host.Outcome State Fault Refusal :=
  .next (s.whenCh n fun s =>
    match (s.grv n).wfe with
    | none => s
    | some (_, m) =>
      if s.core n = 2 ∧ s.frozen n = false ∧ s.rd R.GRV_EVT_PEND n.val &&& m ≠ 0 then
        (((s.wfeEnd n).wr R.GRV_STATUS_CORE n.val 1)).modGrv n fun g => { g with busy := 2 }
      else s)

/-- GROVE_TIMER_EXPIRY (R318): timer `t` reaches 0. -/
def execGroveTimerExpiry (n : Ch) (t : Fin 2) (s : State) : Host.Outcome State Fault Refusal :=
  .next (s.whenCh n fun s =>
    let r := (s.grv n).tmr.get t
    if s.grvLive n && r.run then
      (s.modGrv n fun g => { g with tmr := g.tmr.set t.val { r with run := r.per } }).grvEvent n (5 + t.val)
    else s)

/-- GRV_WDT is raised: a Grove failure, which disarms the watchdog (R321, R323). -/
def State.grvWdt (s : State) (n : Ch) : State := (s.raiseCh n oGrvWdt 0).settleAll

/-- GROVE_WDT_EXPIRY (R321): no kick by WMAX. -/
def execGroveWdtExpiry (n : Ch) (s : State) : Host.Outcome State Fault Refusal :=
  .next (s.whenCh n fun s => if s.on R.GRV_STATUS_WDT_ARMED n.val && !s.frozen n then s.grvWdt n else s)

/-- An exception (R322): PC stays, GRV.EXC captures it if it holds none, GRV_EXC is raised. -/
def State.gExc (s : State) (n : Ch) (cause : Nat) : State :=
  let i := n.val
  let s := if s.on R.GRV_EXC_VALID i then s
    else s.wrs i [(R.GRV_EXC_VALID, 1), (R.GRV_EXC_CAUSE, cause), (R.GRV_EXC_PC, s.gpc n)]
  ((s.wrs i [(R.GRV_STATUS_CORE, 3), (R.GRV_IRQ_EXC, 1)]).raiseCh n oGrvExc 0).settleAll

/-- The word at PC. -/
def State.gFetch (s : State) (n : Ch) : Word := s.memWord (pramAddr n.val (s.gpc n))

/-- An uncorrectable error of SRAM instance `k` at byte address `a` counts and raises ECC_UNCORR (R378). -/
def State.eccUncorr (s : State) (k : Fin 20) (a : Nat) : State :=
  let e := s.rng.ecc.get k
  (({ s with rng.ecc := s.rng.ecc.set k.val (e.1, min (e.2.1 + 1) 65535, a) }).raise srcEccUncorr 0).settleAll

/-- The ECC instance of a channel's program RAM, or of its data RAM (R378). -/
def eccRam (n : Ch) (data : Bool) : Fin 20 := if data then ⟨4 + n.val, by omega⟩ else ⟨n.val, by omega⟩

/-- The fetch of the word at PC meets an uncorrectable error (R322, R378). -/
def State.gFetchEcc (s : State) (n : Ch) : State := (s.eccUncorr (eccRam n false) (pramAddr n.val (s.gpc n))).gExc n 7

/-- ILLEGAL_OPCODE (R322): the word at PC is no instruction, or its fetch meets an uncorrectable ECC error. -/
def execIllegalOpcode (n : Ch) (ecc : Bool) (s : State) : Host.Outcome State Fault Refusal :=
  .next (s.whenCh n fun s =>
    if s.core n = 1 ∧ s.frozen n = false then
      if s.breaks n then s.freeze n else if ecc then s.gFetchEcc n else if (gDecode (s.gFetch n)).isNone then s.gExc n 1 else s
    else s)

end Sys2Proof.Machine
end

