-- ==== Sys2Proof/Machine/PageRead.lean ====
section
/-! DEFINITION. What a read of a page returns: the common layout, the registers computed when they are read, the page CRC (R85 to R95). -/

namespace Sys2Proof.Machine

/-- The TYPE of a page, 0 for a reserved one (R87). -/
def pageType (p : Nat) : Nat :=
  if 0x80 ≤ p then 0
  else if 0x40 ≤ p then 0x40 + p % 16
  else
    match p with
    | 0x00 => 0x01 | 0x01 => 0x02 | 0x02 => 0x03 | 0x03 => 0x04 | 0x04 => 0x05 | 0x05 => 0x06 | 0x06 => 0x07 | 0x07 => 0x08
    | 0x08 => 0x09 | 0x09 => 0x09 | 0x0A => 0x0A | 0x0B => 0x0A | 0x0C => 0x0B | 0x0D => 0x0C | 0x0E => 0x0D | 0x0F => 0x0E
    | 0x10 => 0x10 | 0x11 => 0x11 | 0x12 => 0x11 | 0x13 => 0x11 | 0x14 => 0x11 | 0x15 => 0x12 | 0x16 => 0x13 | 0x17 => 0x14
    | 0x18 => 0x15 | 0x19 => 0x16 | 0x1C => 0x18 | 0x1D => 0x18 | 0x1E => 0x19 | 0x1F => 0x1A
    | _ => 0

/-- The INST of a page: channel digit, port or controller number (R85). -/
def pageInst (p : Nat) : Nat :=
  if 0x40 ≤ p then (p - 0x40) / 16
  else if p = 0x09 ∨ p = 0x0B ∨ p = 0x1D then 1
  else if 0x11 ≤ p ∧ p ≤ 0x14 then p - 0x11
  else 0

/-- The page is not reserved; DBG is there while debug is open (R87, R330). -/
def State.pageExists (s : State) (p : Nat) : Bool := pageType p != 0 && (p != 0x0F || s.debugOpen)

/-- The page is disabled by factory fuse (R3). -/
def State.pageFused (s : State) (p : Nat) : Bool :=
  s.hl2880 && ((decide (0x60 ≤ p) && decide (p < 0x80)) || p == 0x13 || p == 0x14)

/-- The page's domain is on and ready (R28, R88). -/
def State.pageOn (s : State) (p : Nat) : Bool :=
  match pageDom p with
  | some d => s.domOn d
  | none => true

/-- The page answers with its registers. -/
def State.pageLive (s : State) (p : Nat) : Bool := s.pageExists p && !s.pageFused p && s.pageOn p

/-- Page `p` has an event flag that its IRQ_EN enables (R94). -/
def State.irqPend (s : State) (p : Nat) : Bool :=
  s.pageLive p && decide (s.word (p * 256 + 0x10) &&& s.word (p * 256 + 0x14) ≠ 0#32)

/-- Bits 0 to `k` − 1 of a word, each as `f` says. -/
def bitsOf (k : Nat) (f : Nat → Bool) : Nat := (List.range k).foldl (fun m b => if f b then m + 2 ^ b else m) 0

/-- `w` with `k` bits from bit `lo` up at `v`. -/
def putAt (w : Word) (lo k v : Nat) : Word := (Fld.mk 0 0 (lo + k - 1) lo .ro 0 1 4).put w v

/-! ### Channel pages -/

/-- The value of node `k` that a read returns: that of the last write-back, the writable nodes too (R261, R315). -/
def State.nodeShown (s : State) (n : Ch) (k : Nat) : Word := s.node n k

/-- GRV.STATUS.SIGREQ and the SC bits of GRV.CTRL follow what they show (R89, R327). -/
def State.grvRead (s : State) (n : Ch) (off : Nat) (w : Word) : Word :=
  if off = 0x08 then putAt (putAt w 3 1 (if (s.grv n).img = 1 then 1 else 0)) 4 1 (if 2 ≤ (s.grv n).img then 1 else 0)
  else if off = 0x0C then putAt w 5 1 s.sigReq.toNat
  else w

/-- ARM, STOP and DISARM of CH.CTRL read 1 while the transition they asked for waits for its boundary (R89, R138; log 133). -/
def chanScBits (p : Option (ChState × Nat)) : Nat :=
  match p with
  | none => 0
  | some (tgt, cause) => if cause = byStop then 8 else if cause ≠ byCommand then 0 else if tgt = .arming then 2 else if tgt = .idle then 16 else 0

/-- The word at offset `off` of block `k` of channel `n`, where `w` is what the register store holds. -/
def State.chanRead (s : State) (n : Ch) (k off : Nat) (w : Word) : Word :=
  match k with
  | 0x0 => if off = 0x08 then wd (s.rd R.CH_STATUS_COMMIT_PENDING n.val + chanScBits (s.ch n).pend) else w
  | 0x2 =>
    if off = 0x0C then putAt w 8 6 (s.shortOff n).toNat
    else if off = 0x38 then wd (s.rd R.OTP_CRIT_VAL 0 / 256 % 256) else w
  | 0x3 => if off = 0x2C then wd (s.brkTime n) else w
  | 0x4 =>
    if off = 0x08 then wd (bitsOf 2 fun b => (s.ch n).sense.calQ.contains (b == 1)) else w
  | 0x7 => if off = 0x60 then s.nodeShown n (s.rd R.LOOP_NODE_IDX_IDX n.val) else w
  | 0xC => s.grvRead n off w
  | 0xD => if off = 0x08 then wd ((if (s.ch n).trc.force then 1 else 0) + (if (s.ch n).trc.ending then 2 else 0)) else w
  | 0xE => if off = 0x0C ∧ s.testCurrents n ≠ (0, 0) then w ||| 1#32 else w
  | _ => w

/-! ### Device pages -/

/-- SYS.IRQSUM_DEV, _CH01 and _CH23 (R98). -/
def State.irqSum (s : State) (off : Nat) (w : Word) : Word :=
  if off = 0x44 then wd (bitsOf 32 s.irqPend)
  else if off = 0x48 then wd (bitsOf 32 fun b => s.irqPend (0x40 + b))
  else if off = 0x4C then wd (bitsOf 32 fun b => s.irqPend (0x60 + b))
  else w

/-- FLT.STATUS, MAXCLASS and ACTIVE (R381). -/
def State.fltRead (s : State) (off : Nat) (w : Word) : Word :=
  if off = 0x0C then
    let l := s.inFault
    wd (l.length * 2 ^ 16 + s.rd R.FBK_STATUS_HALTED 0 * 32 + s.faultPinLow.toNat * 16 + maxClass l)
  else if off = 0x20 then
    wd (maxClass (s.inFault.filter fun e => decide (e.1 < 0x40)) * 2 ^ 16 + maxClass (s.actsOn 3) * 2 ^ 12 + maxClass (s.actsOn 2) * 2 ^ 8 +
      maxClass (s.actsOn 1) * 2 ^ 4 + maxClass (s.actsOn 0))
  else if 0x34 ≤ off ∧ off ≤ 0x58 then
    wd (bitsOf 32 fun b => s.inFault.any fun e => e.1 == (off - 0x34) / 4 * 32 + b)
  else w

/-- The FLTS window on the selected source (R382): an index without a source reads 0. -/
def State.fltsRead (s : State) (off : Nat) (w : Word) : Word :=
  let i := s.fltsSel
  let r := s.fr i
  if off = 0x0C ∨ (0x24 ≤ off ∧ off ≤ 0x34) then
    if s.srcDisabled i then 0#32
    else
      match off with
      | 0x0C => wd (r.denied.toNat * 2 ^ 12 + min (r.tries s.now) 15 * 2 ^ 8 + r.cond.toNat * 16 + r.st.code)
      | 0x24 => wd (r.retryMax * 256 + r.react * 16 + r.cls)
      | 0x28 => wd (r.window * 2 ^ 16 + r.quiet * 256 + r.wait)
      | 0x2C => wd (r.otp.toNat * 4 + (srcIsEvent i).toNat * 2 + (srcFixed i).toNat)
      | 0x30 => wd (r.recov[0] + r.recov[1] * 2 ^ 8 + r.recov[2] * 2 ^ 16 + r.recov[3] * 2 ^ 24)
      | _ => wd r.events
  else w

/-- SUP.ECC_CNT and ECC_ADDR of the selected instance (R378, R383). -/
def State.supRead (s : State) (off : Nat) (w : Word) : Word :=
  let e := s.rng.ecc.toList.getD (s.rd R.SUP_ECC_SEL_SEL 0) (0, 0, 0)
  if off = 0x48 then wd (e.2.1 * 2 ^ 16 + e.1) else if off = 0x4C then wd e.2.2 else w

/-- JOB.SLOT of slot `k` (R342). -/
def Job.slotWord (j : Job) : Word :=
  wd (j.st.code * 2 ^ 28 + j.typ * 2 ^ 24 + j.tgt * 2 ^ 20 + j.origin * 2 ^ 16 + j.gen % 16 * 2 ^ 12 + j.cause * 2 ^ 8 + j.progress)

/-- The JOB page as origin `m` sees it (R336, R342). -/
def State.jobRead (s : State) (m : Nat) (off : Nat) (w : Word) : Word :=
  let at_ (k : Nat) : Job := s.jobs.toList.getD k Job.reset
  let j := at_ (s.rd R.JOB_RSEL_SLOT 0)
  if off = 0x0C then
    let u := bitsOf 16 fun k => (at_ k).st != .idle
    wd (((List.range 16).filter fun k => (at_ k).st == .idle).length * 2 ^ 16 + u)
  else if 0x20 ≤ off ∧ off < 0x40 then (s.jobBlk.get (jobBank m)).toList.getD ((off - 0x20) / 4) 0
  else if off = 0x40 then s.jobRes.get (jobBank m)
  else if 0x44 ≤ off ∧ off ≤ 0x80 then
    let q := at_ ((off - 0x44) / 4)
    { q with progress := s.jobPct q }.slotWord
  else if 0x88 ≤ off ∧ off ≤ 0x9C then j.vals.getD ((off - 0x88) / 4) 0
  else if off = 0xA0 then wd (j.elapsedMs s.now)
  else if off = 0xA4 then wd j.detail
  else if 0xA8 ≤ off ∧ off ≤ 0xC4 then
    let i := (off - 0xA8) / 4
    wd ((at_ (2 * i + 1)).gen * 2 ^ 16 + (at_ (2 * i)).gen)
  else w

/-- DBG.STATUS and DBG.REGVAL of the selected core (R330); a core that is not powered reads 0. -/
def State.dbgRead (s : State) (off : Nat) (w : Word) : Word :=
  let n := s.dbgCore
  if off = 0x0C then (if s.chOn n then wd (s.gpc n * 2 ^ 16 + (s.frozen n).toNat) else 0)
  else if off = 0x34 then
    let g := s.grv n
    let k := s.rd R.DBG_SEL 0
    if !(s.chOn n && s.frozen n) then 0
    else if k < 16 then s.gv n (BitVec.ofNat 4 k)
    else if k = 16 then wd (g.n.toNat * 8 + g.z.toNat * 4 + g.c.toNat * 2 + g.v.toNat)
    else if k = 17 then wd (s.gpc n)
    else 0
  else w

/-- The TXN page: BUSY and OUTSTANDING, the selected tag, the head message (R442). -/
def State.txnRead (s : State) (off : Nat) (w : Word) : Word :=
  if off = 0x08 then wd s.hostBusy.toNat
  else if off = 0x0C then wd (s.fab.hrx.length * 2 ^ 16 + s.outstanding * 2 ^ 8 + s.hostBusy.toNat)
  else if off = 0x34 then
    let x := s.tag (s.rd R.TXN_TAG_SEL_TAG 0)
    wd (x.st * 2 ^ 30 + x.owner * 2 ^ 24 + x.last * 2 ^ 12 + x.dst)
  else if off = 0x38 then
    match s.fab.hrx with
    | [] => 0
    | h :: _ => wd (2 ^ 31 + h.evt.toNat * 2 ^ 30 + h.src * 2 ^ 16 + h.len)
  else if off = 0x40 then
    match s.fab.hrx with
    | [] => 0
    | h :: _ =>
      let k := s.rd R.TXN_IDX 0
      if 4 * k < h.len then h.data.getD k 0 else 0
  else w

/-- The frame that the window of a CAN controller shows (R478). -/
def State.canShown (s : State) (m : Fin 2) : CanFrame :=
  let k := s.rd R.CAN_WSEL m.val
  if k < 32 then (s.cn m).bufs.toList.getD k .empty else (s.cn m).fifo.headD .empty

/-- CTRL.RECOVER while recovery runs (R89, R479), and the window registers of a CAN controller (R478, R488): byte 0 in bits [31:24] of WDATA0. -/
def State.canRead (s : State) (m : Fin 2) (off : Nat) (w : Word) : Word :=
  let f := s.canShown m
  if off = 0x08 then putAt w 1 1 (decide (s.rd R.CAN_STATUS_ESTATE m.val = 3)).toNat
  else if off = 0x54 then wd (f.fdf.toNat * 2 ^ 31 + f.brs.toNat * 2 ^ 30 + f.ide.toNat * 2 ^ 29 + f.id)
  else if off = 0x58 then f.ts
  else if 0x5C ≤ off ∧ off ≤ 0x98 then
    let b (i : Nat) : BitVec 8 := f.data.getD (off - 0x5C + i) 0
    b 0 ++ b 1 ++ b 2 ++ b 3
  else if off = 0x9C then putAt (putAt w 28 4 f.dlc) 27 1 f.rtr.toNat
  else w

/-- The NET page: the selected partner and the selected session (R489). -/
def State.netRead (s : State) (off : Nat) (w : Word) : Word :=
  let x := s.ss s.sel
  let p := s.net.part.find? fun p => p.sa == s.rd R.NET_PSEL 0
  if off = 0x34 then wd ((p.map (·.name)).getD 0)
  else if off = 0x38 then wd ((p.map (·.name)).getD 0 / 2 ^ 32)
  else if off = 0x3C then
    match p with
    | some q => wd (2 ^ 31 + min ((s.now - q.since) / 40000000) 65535)
    | none => 0
  else if off = 0x44 then wd (x.kind * 2 ^ 24 + x.da)
  else if off = 0x48 then wd (x.st * 2 ^ 28 + x.abort * 2 ^ 20 + x.done % 2 ^ 20)
  else if off = 0x4C then wd x.pgn
  else if off = 0x50 then wd x.len
  else if off = 0x58 then s.sdata
  else w

/-- OTP.CTRL reads 1 in an SC bit while its action runs (R89, R503, R508). -/
def State.otpRead (s : State) (off : Nat) (w : Word) : Word :=
  if off = 0x08 then wd ((s.otp.verifyDue || s.on R.OTP_STATUS_PASS_BUSY 0).toNat + 2 * s.otp.patchBusy.toNat) else w

/-- CLK.MONCNT: ACTIVE shows whether the monitor runs now (R70, R100). -/
def State.clkRead (s : State) (off : Nat) (w : Word) : Word :=
  if h : 0x20 ≤ off ∧ off < 0x40 then putAt w 17 1 (s.monActive ⟨(off - 0x20) / 4, by omega⟩).toNat else w

/-- The word at offset `off` of device page `p` for origin `m`, where `w` is what the register store holds. -/
def State.devRead (s : State) (m p off : Nat) (w : Word) : Word :=
  match p with
  | 0x00 => s.irqSum off w
  | 0x01 => s.clkRead off w
  | 0x03 => s.otpRead off w
  | 0x04 => s.fltRead off w
  | 0x05 => s.fltsRead off w
  | 0x06 => s.supRead off w
  | 0x0C => s.jobRead m off w
  | 0x0D => if off = 0x0C then wd (bitsOf 4 fun n => s.domOn n && s.on R.TRC_STATUS_STREAMING n) else w
  | 0x0E => if off = 0x2C ∨ off = 0x30 then wd (s.rd R.GPIO_OUT 0) else w
  | 0x0F => s.dbgRead off w
  | 0x10 => if off = 0x34 then wd s.portsWord else w
  | 0x16 => s.txnRead off w
  | 0x17 => if off = 0x20 then wd s.ticksLo else w
  | 0x19 => if off = 0x08 then putAt w 1 1 s.relPend.toNat else w
  | 0x1C => s.canRead 0 off w
  | 0x1D => s.canRead 1 off w
  | 0x1E => s.netRead off w
  | _ => w

/-- The word at offset `off` of page `p` for origin `m`: the registers beside CRC and PAGE. -/
def State.regWordOf (s : State) (m p off : Nat) : Word :=
  let w := s.word (p * 256 + off)
  if off = 0x00 then wd (pageType p * 2 ^ 16 + pageInst p * 2 ^ 8 + p)
  else if off = 0x04 then 0x100#32
  else if h : 0x40 ≤ p ∧ p < 0x80 then s.chanRead ⟨(p - 0x40) / 16, by omega⟩ (p % 16) off w
  else s.devRead m p off w

/-! ### Page CRC -/

/-- The bits of the word at `off` of page `p` whose access code meets `q`. -/
def accMask (q : Acc → Bool) (p off : Nat) : Word :=
  ((wordFields (p * 256 + off)).filter fun f => q f.acc).foldl (fun m f => m ||| f.mask) 0#32

/-- What the word at `off` brings into the CRC: RW and RWL bits, the running copies of RWC bits (R93). The banked words of JOB enter as the
host's (log 56). -/
def State.crcWord (s : State) (p off : Nat) : Word :=
  if off = 0x14 then s.word (p * 256 + off)
  else
    (s.regWordOf 0 p off &&& accMask (fun a => a == .rw || a == .rwl) p off) |||
      (s.word (0x10000 + p * 256 + off) &&& accMask (· == .rwc) p off)

/-- The 56 offsets of R93. -/
def crcOffs : List Nat := [0x08, 0x14] ++ (List.range 54).map fun k => 0x20 + 4 * k

/-- CRC of page `p` (R93). -/
def State.pageCrc (s : State) (p : Nat) : Word := crc32 (crcOffs.flatMap fun o => wordLe (s.crcWord p o))

/-- The word that page `p` returns at offset `off`, a multiple of 4, to origin `m`. -/
def State.pageRead (s : State) (m p off : Nat) : Word :=
  if off = 0xF8 then s.pageCrc p else if off = 0xFC then wd s.page else s.regWordOf m p off

/-- The running view of page `p` (R91): running copies of RWC fields, the rest as the page has it. -/
def State.viewRead (s : State) (m p off : Nat) : Word :=
  let k := accMask (· == .rwc) p off
  (s.pageRead m p off &&& ~~~ k) ||| (s.word (0x10000 + p * 256 + off) &&& k)

end Sys2Proof.Machine
end

