-- ==== Sys2Proof/Machine/Ranger.lean ====
section
/-! DEFINITION. The supervisor Ranger: self-tests, liveness, clock and supply monitors, configuration scan, ECC counts (R70, R372 to
R379), and the raising of a fault by an event that no other row carries (R361). -/

namespace Sys2Proof.Machine

/-- RANGER_SELFTEST_DONE (R372): from step 6 of the boot. -/
def execRangerSelftestDone (pass : Bool) (s : State) : Host.Outcome State Fault Refusal :=
  .next (if s.pwr.mode == .boot && decide (6 ≤ s.pwr.step) && !s.on R.SUP_STATUS_POST_OK 0 then
      (if pass then s.wrs 0 [(R.SUP_STATUS_POST_OK, 1), (R.SUP_STATUS_LOCKSTEP_OK, 1)] else s.hold 4)
    else s)

/-- RANGER_SELFTEST_TIMEOUT (R77). -/
def execRangerSelftestTimeout (s : State) : Host.Outcome State Fault Refusal :=
  .next (if s.pwr.mode == .boot && decide (6 ≤ s.pwr.step) && !s.on R.SUP_STATUS_POST_OK 0 then s.hold 4 else s)

/-- Ranger works: its self-test has passed and CORE is powered. -/
def State.rangerOn (s : State) : Bool := s.on R.SUP_STATUS_POST_OK 0 && s.coreOn

/-- A mismatch of the lockstep halves: SUP_LOCKSTEP, and every SAFE_REQn (R370, R373). -/
def State.lockstep (s : State) : State :=
  (((s.wr R.SUP_STATUS_LOCKSTEP_OK 0 0).raise srcLockstep 0).safeAll 1).settleAll

/-- LOCKSTEP_MISMATCH (R373). -/
def execLockstepMismatch (s : State) : Host.Outcome State Fault Refusal := .next (if s.rangerOn then s.lockstep else s)

/-- LODGE_LIVENESS_CHECK (R373), the liveness counter standing at `count`: ten checks of 1 ms unchanged reset the device. -/
def execLodgeLivenessCheck (count : BitVec 32) (s : State) : Host.Outcome State Fault Refusal :=
  .next (if !s.rangerOn then s
    else
      let k := if count.toNat = s.rng.alive then s.rng.same + 1 else 0
      let s := { s with rng.alive := count.toNat, rng.same := k }
      if 10 ≤ k then s.deviceReset 0x80 else s)

/-- LOOP_HEARTBEAT_TIMEOUT (R375): the check runs from the first heartbeat after a commit. -/
def execLoopHeartbeatTimeout (n : Ch) (s : State) : Host.Outcome State Fault Refusal :=
  .next (s.whenCh n fun s => if (s.ch n).eng.hb && s.engineRuns n then s.collect (srcCh n.val oLoopHb) 0 else s)

/-! ### Clock monitors (R70) -/

/-- The expected count of a monitor's window. -/
def monExpect (k : Fin 8) : Nat :=
  match k with
  | 0 => 2000 | 1 => 4000 | 2 => 800 | 3 => 800 | 4 => 1250 | 5 => 250 | 6 => 32000 | _ => 64

/-- The limit of a monitor in per cent. -/
def monLimit (k : Fin 8) : Nat := if k.val < 6 then 4 else 15

/-- A count lies outside the limit. -/
def monOut (k : Fin 8) (c : Nat) : Bool :=
  decide (c * 100 < monExpect k * (100 - monLimit k)) || decide (monExpect k * (100 + monLimit k) < c * 100)

/-- What two windows in a row out of limit lead to: the reset for CCLK, the fallback for the reference, SAFE_REQn for PCLK, the source. -/
def State.monFault (s : State) (k : Fin 8) : State :=
  match k with
  | 0 => s.clockReset 0x200
  | 1 => ((s.condSet srcMonPclk true).safeAll 0).timeSource
  | 2 => s.condSet srcMonAclk true
  | 3 => s.condSet srcMonCanclk true
  | 4 => s.condSet srcMonLcore true
  | 5 => s.fallback
  | 6 => s.condSet srcMonRclk true
  | _ => s.condSet srcMonAonclk true

/-- A window inside the limit: the condition of the monitor's source is absent; Canopy time resumes with that of PCLK (R445); the
fallback ends only by reset (R69). -/
def State.monGood (s : State) (k : Fin 8) : State :=
  match k with
  | 1 => (s.condSet srcMonPclk false).timeSource
  | 2 => s.condSet srcMonAclk false
  | 3 => s.condSet srcMonCanclk false
  | 4 => s.condSet srcMonLcore false
  | 6 => s.condSet srcMonRclk false
  | 7 => s.condSet srcMonAonclk false
  | _ => s

/-- CLOCK_MONITOR_WINDOW (R70, R100). -/
def execClockMonitorWindow (k : Fin 8) (count : BitVec 16) (s : State) : Host.Outcome State Fault Refusal :=
  .next (if !s.monActive k then { s with rng.mon := s.rng.mon.set k.val 0 }
    else
      let out := monOut k count.toNat
      let m := if out then min (s.rng.mon.get k + 1) 2 else 0
      let s := s.wrs 0 [(R.CLK_MONCNT_OUT.nth k.val, out.toNat), (R.CLK_MONCNT_COUNT.nth k.val, count.toNat)]
      let s := { s with rng.mon := s.rng.mon.set k.val m }
      let s := if out then s.wr R.CLK_IRQ_MON 0 1 else s
      (if m = 2 then s.monFault k else if out then s else s.monGood k).settleAll)

/-! ### Supply monitors (R376) -/

/-- Low limit, high limit and hysteresis of a voltage source in microvolts, in the order of SUP.FAULT: SUP_VSUP_UV, SUP_VSUP_OV, SUP_VDRV,
SUP_VIO, SUP_VCORE, SUP_VDDA. -/
def voltLimits (j : Fin 6) : Nat × Nat × Nat :=
  match j with
  | 0 => (5800000, 2 ^ 40, 500000)
  | 1 => (0, 90000000, 500000)
  | 2 => (7800000, 16500000, 200000)
  | 3 => (2900000, 5750000, 50000)
  | 4 => (855000, 945000, 5000)
  | _ => (3150000, 3450000, 20000)

/-- One sample of source `j`: two in a row beyond a limit make the condition present, two in a row back inside by the hysteresis make it
absent. -/
def State.voltSample (s : State) (j : Fin 6) (v : Nat) : State :=
  let (lo, hi, h) := voltLimits j
  let c := s.rng.volt.get j
  let b := if v < lo ∨ hi < v then min (c.1 + 1) 2 else 0
  let g := if (lo = 0 ∨ lo + h ≤ v) ∧ v + h ≤ hi then min (c.2 + 1) 2 else 0
  let s := { s with rng.volt := s.rng.volt.set j.val (b, g) }
  if b = 2 then s.condSet (srcSupV + j.val) true else if g = 2 then s.condSet (srcSupV + j.val) false else s

/-- SUPPLY_MONITOR_SAMPLE (R376): the five supplies in microvolts; `show`: this sample updates SUP.VSUP, which one in ten does. -/
def execSupplyMonitorSample (vsup vdrv vio vcore vdda : Nat) (upd : Bool) (s : State) : Host.Outcome State Fault Refusal :=
  .next (if !s.rangerOn then s
    else
      let s := if upd then s.wr R.SUP_VSUP_V 0 (f32OfRat vsup 1000000).toNat else s
      (((((((s.voltSample 0 vsup).voltSample 1 vsup).voltSample 2 vdrv).voltSample 3 vio).voltSample 4 vcore).voltSample 5 vdda)).settleAll)

/-! ### Configuration scan (R377) -/

/-- The pages of the scan list, in ascending order (R383). -/
def State.scanList (s : State) : List Nat :=
  (List.range 0x80).filter fun p =>
    if p < 0x20 then (s.rd (R.SUP_SCAN_SEL_SEL.nth 0) 0).testBit p
    else if p < 0x40 then false
    else if p < 0x60 then (s.rd (R.SUP_SCAN_SEL_SEL.nth 1) 0).testBit (p - 0x40)
    else (s.rd (R.SUP_SCAN_SEL_SEL.nth 2) 0).testBit (p - 0x60)

/-- The channels on which SUP_CFGCRC of page `p` acts. -/
def scanActs (p : Nat) : BitVec 4 := if 0x40 ≤ p then BitVec.ofNat 4 (2 ^ ((p - 0x40) / 16 % 4)) else 0xF

/-- The condition of SUP_CFGCRC follows the references: some page has differed in two scans in a row. -/
def State.scanCond (s : State) : State :=
  if (s.fr srcCfgCrc).cond && !s.rng.refs.any (fun e => decide (2 ≤ e.2.2)) then s.condOff srcCfgCrc else s

/-- A mismatch of page `p` in two scans in a row (R377): while the condition stands, its reaction comes to act on the page's owner too. -/
def State.scanBad (s : State) (p : Nat) : State :=
  let s := if s.on R.SUP_SCAN_ERR_VALID 0 then s else s.wrs 0 [(R.SUP_SCAN_ERR_VALID, 1), (R.SUP_SCAN_ERR_PAGE, p)]
  let r := s.fr srcCfgCrc
  if !r.cond then s.raiseActs srcCfgCrc 0 (scanActs p)
  else if r.st.inFault then
    let s := s.setFr srcCfgCrc { r with acts := r.acts ||| scanActs p }
    s.forCh fun n s => s.raiseOn srcCfgCrc { r with acts := scanActs p &&& ~~~ r.acts } n
  else s

/-- SYS.BUSERR captures the first failed access (R84, R98). -/
def State.busErr (s : State) (kind m a : Nat) : State :=
  if s.on R.SYS_BUSERR_VALID 0 then s
  else s.wrs 0 [(R.SYS_BUSERR_VALID, 1), (R.SYS_BUSERR_KIND, kind), (R.SYS_BUSERR_MASTER, m), (R.SYS_BUSERR_ADDR, a % 2 ^ 24),
    (R.SYS_IRQ_BUSERR, 1)]

/-- One scan of page `p`: a locked page without a reference gives one; a page whose reference stands is compared, also where a reset of the
page has unlocked it (R92, R377). Its CRC read of a page that does not answer is a failed access of master 7 (R84). -/
def State.scanPage (s : State) (p : Nat) : State :=
  let c := s.pageCrc p
  match s.rng.refs.find? fun e => e.1 == p with
  | none => if s.locked p && s.pageLive p then { s with rng.refs := (p, c, 0) :: s.rng.refs } else s
  | some (_, r, k) =>
    let s := if s.pageLive p then s else s.busErr (if s.pageExists p then 3 else 1) 7 (256 * p + 0xF8)
    let put (k : Nat) (s : State) : State := { s with rng.refs := (p, r, k) :: s.rng.refs.filter fun e => e.1 != p }
    if c = r ∧ s.pageLive p = true then put 0 s
    else if k = 0 then put 1 s
    else (put 2 s).scanBad p

/-- A page that its own reset has unlocked and that is locked again has become locked: its old reference goes (R377). -/
def State.scanDrop (s : State) (p : Nat) : State := { s with rng.refs := s.rng.refs.filter fun e => e.1 != p }

/-- CONFIG_SCAN_TICK (R377): the next page of the list is scanned. References of pages outside the list go. -/
def execConfigScanTick (s : State) : Host.Outcome State Fault Refusal :=
  .next (if !s.rangerOn then s
    else
      let l := s.scanList
      let s := { s with rng.refs := s.rng.refs.filter fun e => l.contains e.1 }
      match l.filter fun p => decide (s.rng.scan ≤ p) with
      | [] => (({ s with rng.scan := 0 }).wr R.SUP_STATUS_SCAN_BUSY 0 0).scanCond.settleAll
      | p :: rest =>
        let s := s.scanPage p
        let s := if rest.isEmpty then ({ s with rng.scan := 0 }).wrs 0 [(R.SUP_STATUS_SCAN_BUSY, 0), (R.SUP_IRQ_SCAN_DONE, 1)]
          else ({ s with rng.scan := p + 1 }).wr R.SUP_STATUS_SCAN_BUSY 0 1
        s.scanCond.settleAll)

/-- RECAP (R377): every page gets a new reference at its next scan. -/
def State.recap (s : State) : State := { s with rng.refs := [] }

/-- RECAP (R377). -/
def execRecap (s : State) : Host.Outcome State Fault Refusal := .next s.recap

/-! ### Comparator self-tests (R379) -/

/-- Ranger requests a CMP_SELFTEST for every channel: at once in IDLE, else at its next entry to IDLE. -/
def State.stestRequest (s : State) : State :=
  let s := s.wr R.SUP_IRQ_STEST_REQ 0 1
  s.forCh fun n s =>
    if !s.chOk n.val then s
    else if s.chState n == .idle then s.stestPost n
    else { s with rng.stestReq := s.rng.stestReq ||| BitVec.ofNat 4 (2 ^ n.val) }

/-- The self-test of a channel is overdue: its last one completed more than 2 × PERIOD minutes ago. -/
def State.stestDue (s : State) (n : Ch) : Bool :=
  s.chOk n.val && decide (s.rng.stest.get n + 2 * s.rd R.SUP_STEST_PERIOD 0 * 24000000000 < s.now)

/-- SUP.STEST.DUE and the condition of SUP_STEST_DUE follow the channels that are overdue. -/
def State.stestShow (s : State) : State :=
  let d := if s.rd R.SUP_STEST_PERIOD 0 = 0 then 0 else bitsOf 4 fun k => if h : k < 4 then s.stestDue ⟨k, h⟩ else false
  (s.wr R.SUP_STEST_DUE 0 d).condSet srcStestDue (decide (d ≠ 0))

/-- STEST_NOW (R379). -/
def execStestNow (s : State) : Host.Outcome State Fault Refusal := .next s.stestRequest

/-- SELFTEST_SCHEDULE_TIMER (R379). -/
def execSelftestScheduleTimer (s : State) : Host.Outcome State Fault Refusal :=
  .next (if s.rd R.SUP_STEST_PERIOD 0 = 0 ∨ s.rangerOn = false then s else s.stestRequest.stestShow.settleAll)

/-! ### ECC (R378) -/

/-- A corrected error of instance `k` at byte address `a`. -/
def State.eccCorr (s : State) (k : Nat) (a : Nat) : State :=
  if h : k < 20 then
    let e := s.rng.ecc.get ⟨k, h⟩
    { s with rng.ecc := s.rng.ecc.set k (min (e.1 + 1) 65535, e.2.1, a) }
  else s

/-- ECC_RATE_WINDOW (R378): the corrected errors of the second that ends, in order, each with its instance and byte address. -/
def execEccRateWindow (errs : List (BitVec 5 × BitVec 24)) (s : State) : Host.Outcome State Fault Refusal :=
  .next (let s := errs.foldl (fun s e => s.eccCorr e.1.toNat e.2.toNat) s
    if s.rd R.SUP_ECC_LIM_LIM 0 < errs.length then (s.raise srcEccRate 0).settleAll else s)

/-! ### Faults -/

/-- What the event of source `i` leads to: the reset of R71 for the SYS PLL, CCLK and the Lodge, the SAFE_REQn of R370, else the
collector. SUP_SAFE follows SAFE_REQn alone; OTP_INTEGRITY is raised at boot alone, by its step 11 (R532). An uncorrectable error counts in the
instance that met it, at its address, neither of which the event names: both are free (R378, log 168). -/
def State.faultEvent (s : State) (i : Nat) : State :=
  if i = srcSysUnlock then s.clockReset 0x100
  else if i = srcMonCclk then s.clockReset 0x200
  else if i = srcLodge then s.deviceReset 0x80
  else if i = srcLockstep then s.lockstep
  else if i = srcRefFail then s.fallback.settleAll
  else if i = srcPwmUnlock ∨ i = srcMonPclk then (((s.condSet i true).safeAll 0).timeSource).settleAll
  else if isSupSafe i || i == srcOtpIntegrity then s
  else if i = srcEccUncorr then s.used.used.eccUncorr (Fin.ofNat 20 s.anyVal.toNat) ((Config.freeValue (s.free + 1)).toNat % 2 ^ 24)
  else s.collect i 0

/-- FAULT_RAISE (R361): an event of source `i`; a source whose channel is off raises nothing (R28). -/
def execFaultRaise (i : BitVec 9) (s : State) : Host.Outcome State Fault Refusal :=
  .next (if s.srcDisabled i.toNat || !s.coreOn then s
    else
      match srcChan i.toNat with
      | some k => if s.domOn k then s.faultEvent i.toNat else s
      | none => s.faultEvent i.toNat)

end Sys2Proof.Machine
end

