-- ==== Sys2Proof/Machine/Stand.lean ====
section
/-! DEFINITION. The phase-current hold of a sample and the stand layer that acts at it (R157, R159, R453 to R466). Times are fine units
of Canopy time modulo 2^37. -/

namespace Sys2Proof.Machine

/-- Canopy time in fine units modulo 2^37: the ticks [31:0] and the fine field of R456. -/
def State.fineNow (s : State) : Nat := s.canopy / 2 ^ 32 % 2 ^ 37

/-- From `a` to `b` modulo 2^37. -/
def span37 (a b : Nat) : Nat := (b + 2 ^ 37 - a) % 2 ^ 37

/-- 100 ns in fine units. -/
def ns100 : Nat := 1280

/-- The hold instant `h` lies in the use window of a stamp `t` (R457). -/
def inUse (ts t h : Nat) : Bool := decide (ts - ns100 ≤ span37 t h) && decide (span37 t h < 2 * ts - ns100)

/-- The use window of `t` lies behind or at `h`. -/
def useGone (ts t h : Nat) : Bool := decide (ts - ns100 ≤ span37 t h) && decide (span37 t h < 2 ^ 36)

/-- The stand record of channel `n` changed by `g`. -/
def State.modGang (s : State) (n : Ch) (g : Gang → Gang) : State := s.modCh n fun c => { c with gang := g c.gang }

/-- TIME_LOSS has lasted beyond HOLDOVER: every frame is a miss (R463). -/
def State.holdExp (s : State) : Bool := s.on R.STAND_STATUS_HOLD_EXP 0

/-- LOCK of the device (R448). -/
def State.timeLock (s : State) : Bool := s.on R.TIME_STATUS_LOCK 0

/-! ### Member -/

/-- A member acts on the command of the reference in use (R459): what its state does not accept is ignored without CMD_IGNORED. -/
def State.memberAct (s : State) (n : Ch) (cmd : Nat) : State :=
  let i := n.val
  let c := s.chState n
  match cmd with
  | 1 => (s.disarm n).wr R.CH_IRQ_CMD_IGNORED i (s.rd R.CH_IRQ_CMD_IGNORED i)
  | 2 =>
    if c == .idle then s.armNow n
    else if c == .stopping then s.ask n .armed byCommand
    else s
  | 3 => if c == .armed then s.ask n .running byCommand else s
  | 4 => if c == .running then s.ask n .stopping byCommand else s
  | 5 => s.condSet (srcCh i oStandRefLoss) true
  | _ => s

/-- A miss of a stand channel is counted: the run `k` of consecutive ones (R461). -/
def State.standMiss (s : State) (n : Ch) (k : Nat) : State :=
  (s.inc R.GANG_CNT_MISSED n.val).wrs n.val [(R.GANG_IRQ_MISS, 1), (R.GANG_STATUS_MISS_RUN, min k 15)]

/-- A member at its hold instant (R457, R459, R461). -/
def State.memberHold (s : State) (n : Ch) : State :=
  let i := n.val
  let h := s.fineNow
  let g := (s.ch n).gang
  let ts := s.periodFine n
  let src := srcCh i oStandRefLoss
  let hit := if s.holdExp then none else g.rx.find? fun r => inUse ts r.tRef h
  let s := s.modGang n fun g => { g with tk := h, held := true, rx := g.rx.filter fun r => !useGone ts r.tRef h }
  match hit with
  | some r =>
    let good := if r.cmd = 5 then 0 else min (g.good + 1) 16
    let s := (s.incWrap R.STAND_SREF_USED 0).wrs i [(R.GANG_STATUS_REF_OK, 1), (R.GANG_STATUS_MISS_RUN, 0), (R.GANG_STATUS_SSTATE, 2),
      (R.GANG_MARGIN, min (span37 r.arr h / 128) 0xFFFF), (R.GANG_PHI, span37 r.tRef h % max ts 1 / 32)]
    let s := s.modGang n fun g => { g with use := some r, good := good, margin := span37 r.arr h }
    let s := if good = 16 then s.condSet src false else s
    s.memberAct n r.cmd
  | none =>
    let k := s.rd R.GANG_STATUS_MISS_RUN i + 1
    let s := (s.standMiss n k).wrs i [(R.GANG_STATUS_REF_OK, 0), (R.GANG_STATUS_SSTATE, if 2 ≤ k then 1 else s.rd R.GANG_STATUS_SSTATE i)]
    let s := s.modGang n fun g => { g with good := 0 }
    if 2 ≤ k then s.condSet src true else s

/-! ### Leader -/

/-- Entry `j` of the leader: node, channel. -/
def State.mbr (s : State) (n : Ch) (j : Nat) : Nat × Nat :=
  (s.run (R.GANG_MBR_NODE.nth j) n.val, s.run (R.GANG_MBR_CH.nth j) n.val)

/-- The member devices of a leader in ascending order of their lowest INDEX (R457). -/
def State.mbrDevs (s : State) (n : Ch) : List Nat :=
  ((s.members n).map fun j => (s.mbr n j).1).foldl (fun l d => if l.contains d then l else l ++ [d]) []

/-- A state a member may show after command `cmd` (R461). -/
def follows (cmd st : Nat) : Bool :=
  match cmd with
  | 2 => st == 3 || st == 4 || st == 7
  | 3 => st == 4 || st == 6
  | 4 => st == 7 || st == 4
  | _ => true

/-- The condition of STAND_SLOT_MISS follows the misses and the overdue restart (R460, R461). -/
def State.slotMissSet (s : State) (n : Ch) : State :=
  let g := (s.ch n).gang
  s.condSet (srcCh n.val oStandSlotMiss) (g.slotBad || g.overdue)

/-- The status word of channel `c` in a measurement. -/
def Smeas.stat (m : Smeas) (c : Nat) : Option Word := (m.chs.find? fun e => decide (e.1 = c)).map fun e => e.2.1

/-- Entry `j` passes the join checks with the measurement `m` (R458). -/
def State.joins (s : State) (n : Ch) (j : Nat) (m : Smeas) : Bool :=
  let i := n.val
  match m.stat (s.mbr n j).2 with
  | none => false
  | some w =>
    let x := w.toNat
    decide (x % 2 ^ 18 = s.run R.PWM_PERIOD i) && decide (x / 2 ^ 24 % 4 = s.run R.CH_MODE_BRAKE i) &&
      decide (x / 2 ^ 20 % 16 = (s.fr (srcCh i oStandSlotMiss)).react) && x.testBit 27 && m.lock && !x.testBit 19 &&
      decide (s.rd R.STAND_MARGIN_MIN 0 ≤ m.margin * 10) && decide (2 ≤ x / 2 ^ 28)

/-- Every reporting member channel of the leader on that device follows the command of the frame it used last (R461). -/
def State.devFollows (s : State) (n : Ch) (m : Smeas) : Bool :=
  let cmd := ((s.ch n).gang.sent.lookup m.frame).getD 0
  (s.members n).all fun j =>
    decide ((s.mbr n j).1 ≠ m.node) || (match m.stat (s.mbr n j).2 with | some w => follows cmd (w.toNat / 2 ^ 28) | none => false)

/-- The record of a member device: misses in a row, frames without one in a row. -/
def devNext (old : Nat × Nat) (miss : Bool) : Nat × Nat := if miss then (min (old.1 + 1) 15, 0) else (0, min (old.2 + 1) 16)

/-- The leader counts its devices' misses (R461). -/
def State.leaderMiss (s : State) (n : Ch) (used : List Smeas) : State :=
  let old := (s.ch n).gang.devs
  let row (d : Nat) : Nat × Nat × Nat × Bool :=
    let miss := s.holdExp || (match used.find? fun m => decide (m.node = d) with | some m => !s.devFollows n m | none => true)
    let r := devNext ((old.lookup d).getD (0, 0)) miss
    (d, r.1, r.2, miss)
  let rows := (s.mbrDevs n).map row
  let k := rows.foldl (fun m r => max m r.2.1) 0
  let s := (rows.filter (·.2.2.2)).foldl (fun s _ => s.standMiss n k) s
  let s := s.wr R.GANG_STATUS_MISS_RUN n.val (min k 15)
  let s := s.modGang n fun g =>
    { g with
      devs := rows.map fun r => (r.1, r.2.1, r.2.2.1)
      slotBad := if rows.any (fun r => decide (2 ≤ r.2.1)) then true
        else if rows.all fun r => decide (16 ≤ r.2.2.1) then false else g.slotBad }
  s.slotMissSet n

/-- The join checks of a frame, and FORMED after sixteen frames in a row (R458). -/
def State.leaderJoin (s : State) (n : Ch) (used : List Smeas) : State :=
  let i := n.val
  let old := (s.ch n).gang.pass
  let ok (j : Nat) : Bool := (used.find? fun m => decide (m.node = (s.mbr n j).1)).any fun m => s.joins n j m
  let l := s.members n
  let bits := (l.filter ok).foldl (fun m j => m + 2 ^ j) 0
  let pass := l.map fun j => (j, if ok j then min ((old.lookup j).getD 0 + 1) 16 else 0)
  let s := (s.wr R.GANG_JOINED i bits).modGang n fun g => { g with pass := pass }
  let s := if l.all ok then s else s.wr R.GANG_IRQ_JOIN_FAIL i 1
  if s.rd R.GANG_STATUS_SSTATE i = 1 && pass.all (fun e => decide (16 ≤ e.2)) then
    (s.wrs i [(R.GANG_STATUS_SSTATE, 2), (R.GANG_IRQ_FORMED, 1)]).putBit R.STAND_STATUS_FORMED 0 i true
  else s

/-- The currents of the stand summed: the leader's own last sample and the measurements in use (R464). -/
def State.standSum (s : State) (n : Ch) (used : List Smeas) : Word × Word :=
  let l := used.flatMap fun m => m.chs.filter fun e => (s.members n).any fun j => s.mbr n j == (m.node, e.1)
  l.foldl (fun a e => (f32Add a.1 e.2.2.1, f32Add a.2 e.2.2.2)) (s.node n 0x22, s.node n 0x23)

/-- The leader at its hold instant: frame k is that of sample k, which starts anew at each accepted commit (R453, R247; R457, R458, R460, R461). -/
def State.leaderHold (s : State) (n : Ch) : State :=
  let h := s.fineNow
  let g := (s.ch n).gang
  let ts := s.periodFine n
  let used := if s.holdExp then [] else g.meas.filter fun m => inUse ts m.h h
  let s := used.foldl (fun s _ => s.incWrap R.STAND_SMEAS_USED 0) s
  let armed := (s.members n).filter fun j =>
    (used.find? fun m => decide (m.node = (s.mbr n j).1)).any fun m =>
      (match m.stat (s.mbr n j).2 with | some w => decide (w.toNat / 2 ^ 28 = 4) | none => false)
  let sum := s.standSum n used
  let s := s.modGang n fun g =>
    { g with tk := h, held := true, frame := (s.ch n).eng.next % 65536, meas := g.meas.filter fun m => !useGone ts m.h h, armed := armed, sum := sum
             overdue := g.overdue && !((s.members n).all fun j => armed.contains j) }
  (s.leaderMiss n used).leaderJoin n used

/-! ### The hold -/

/-- The counts from hold position `h` to the boundary that ends the period (R18, R230). -/
def State.toBoundary (s : State) (n : Ch) (h : Nat) : Nat := ((s.ch n).car.per - h) / 32

/-- The sample a hold opens (R15, R157, R159 to R161); with single-shunt sensing its instant is that of the last window,
and with both windows missed that of TRIG_I.POS: the model's choice (log 139). -/
def State.newSample (s : State) (n : Ch) : Samp :=
  let c := (s.ch n).car
  let w1 := c.win1.map (·.1)
  let w2 := c.win2.map (·.1)
  let h := if s.run R.CH_MODE_SENSE n.val = 2 then
      (match c.win2, c.win1 with | some w, _ => w.2 | none, some w => w.2 | none, none => s.run R.PWM_TRIG_I_POS n.val * 32)
    else s.run R.PWM_TRIG_I_POS n.val * 32
  { no := c.opened, valid := s.holdValid n, stamp := s.now, tick := s.ticks, due := s.toBoundary n h
    p1 := w1.getD 3, p3 := w2.getD 3, conv := false }

/-- PHASE_CURRENT_HOLD (R157): only in the opening period of a sample. -/
def execPhaseCurrentHold (n : Ch) (s : State) : Host.Outcome State Fault Refusal :=
  .next (s.whenCh n fun s =>
    if !(s.carrierOn n && (s.ch n).car.opening) then s
    else
      let q := s.newSample n
      let s := s.modCh n fun c => { c with sense.samp := some q }
      let s := match s.run R.CH_MODE_GANG n.val with
        | 1 => s.leaderHold n
        | 2 => s.memberHold n
        | _ => s.modGang n fun g => { g with tk := s.fineNow, held := true }
      s.settleAll)

/-! ### Packets -/

/-- The ingress of the stand layer as a local initiator. -/
def fromStand : Nat := 14

/-- A posted stand packet on VC1 (R456). -/
def standPkt (me : Option Nat) (typ dst arg : Nat) (data : List Word) : Pkt :=
  { evtPkt me dst data with vc := 1, typ := typ, arg := wd arg }

/-- CMD by the leader's own state (R459); SAFE and the wait to restart come before JOIN. -/
def State.standCmd (s : State) (n : Ch) : Nat :=
  let c := s.chState n
  if c == .halted || (c == .fault && (s.heldInFault n || s.critOn n || s.on R.FBK_STATUS_HALTED 0)) then 5
  else if c == .fault then 2
  else if s.rd R.GANG_STATUS_SSTATE n.val ≠ 2 then 0
  else match c with
    | .idle => 1 | .arming => 2 | .armed => 2 | .starting => 3 | .running => 3 | .stopping => 4 | _ => 1

/-- The SREF of the present frame for one device (R456): slot c of every enabled entry that names channel c there. -/
def State.sref (s : State) (n : Ch) (cmd dev : Nat) : Pkt :=
  let i := n.val
  let g := (s.ch n).gang
  let ents := (s.members n).filter fun j => (s.mbr n j).1 = dev
  let mask := ents.foldl (fun m j => m ||| 2 ^ (s.mbr n j).2) 0
  let idx := ents.foldl (fun m j => m + j * 2 ^ (4 * (s.mbr n j).2)) 0
  let id := s.run R.GANG_CFG_STAND_ID i
  let slot (c : Nat) : List Word :=
    match ents.find? fun j => (s.mbr n j).2 = c with
    | some j => [f32Mul (s.shareOf n j) (s.node n 0xE4), f32Mul (s.shareOf n j) (s.node n 0xE5)]
    | none => [0#32, 0#32]
  standPkt s.nodeId 6 dev (id * 2 ^ 24 + mask)
    ([wd (id * 2 ^ 24 + cmd * 2 ^ 20 + (if s.timeLock then 2 ^ 19 else 0) + g.frame), wd (g.tk / 32),
      wd ((s.node n 0xE1).toNat % 65536 * 65536 + g.tk % 32), s.node n 0xE2, wd idx] ++
      slot 0 ++ slot 1 ++ slot 2 ++ slot 3 ++ [0#32, 0#32])

/-- SREF_SLOT (R457): the leader queues the references of its frame, one packet per member device. -/
def execSrefSlot (n : Ch) (s : State) : Host.Outcome State Fault Refusal :=
  .next (s.whenCh n fun s =>
    if s.run R.CH_MODE_GANG n.val ≠ 1 ∨ !s.domOn dLink then s
    else
      let cmd := s.standCmd n
      let ps := (s.mbrDevs n).map fun d => s.sref n cmd d
      let s := s.modGang n fun g => { g with sent := ((g.frame, cmd) :: g.sent).take 8 }
      ps.foldl (fun s p => (s.incWrap R.STAND_SREF_SENT 0).send fromStand p) s)

/-- The channels of this device that belong to the stand of member channel `n` (R456). -/
def State.standPeers (s : State) (n : Ch) : List Ch :=
  chans.filter fun c => s.chOn c && s.run R.CH_MODE_GANG c.val == 2 &&
    s.run R.GANG_CFG_STAND_ID c.val == s.run R.GANG_CFG_STAND_ID n.val && s.run R.GANG_CFG_LEADER c.val == s.run R.GANG_CFG_LEADER n.val &&
    s.run R.GANG_CFG_LCH c.val == s.run R.GANG_CFG_LCH n.val

/-- BAND of R458: φ lies from Ts − 150 ns to Ts − 50 ns. -/
def State.band (s : State) (n : Ch) : Bool :=
  let ts := s.periodFine n
  match (s.ch n).gang.use with
  | some r => let p := span37 r.tRef (s.ch n).gang.tk % max ts 1; decide (ts - 1920 ≤ p) && decide (p ≤ ts - 640)
  | none => false

/-- The status word of a member channel (R456). -/
def State.standStatus (s : State) (n : Ch) : Word :=
  let i := n.val
  wd ((s.chState n).code * 2 ^ 28 + s.rd R.PWM_STATUS_SYNC_LOCK i * 2 ^ 27 + s.rd R.GANG_STATUS_REF_OK i * 2 ^ 26 +
    s.run R.CH_MODE_BRAKE i * 2 ^ 24 + (s.fr (srcCh i oStandRefLoss)).react * 2 ^ 20 + (if s.band n then 2 ^ 19 else 0) +
    s.run R.PWM_PERIOD i)

/-- SMEAS_SLOT (R457): the device reports the member channels of the stand of which `n` is the lowest. -/
def execSmeasSlot (n : Ch) (s : State) : Host.Outcome State Fault Refusal :=
  .next (s.whenCh n fun s =>
    let l := s.standPeers n
    if l.head? ≠ some n ∨ !s.domOn dLink then s
    else
      let i := n.val
      let g := (s.ch n).gang
      let id := s.run R.GANG_CFG_STAND_ID i
      let slot (c : Ch) : List Word := if l.contains c then [s.standStatus c, s.node c 0x22, s.node c 0x23] else [0#32, 0#32, 0#32]
      let frame := (g.use.map (·.frame)).getD 0
      let margin := l.foldl (fun m c => min m (s.rd R.GANG_MARGIN c.val)) 0xFFFF
      let p := standPkt s.nodeId 7 (s.run R.GANG_CFG_LEADER i) (id * 2 ^ 24 + l.foldl (fun m c => m + 2 ^ c.val) 0)
        ([wd (id * 2 ^ 24 + frame), wd (g.tk / 32), wd ((if s.timeLock then 2 ^ 31 else 0) + margin)] ++ slot 0 ++ slot 1 ++ slot 2 ++ slot 3)
      (s.incWrap R.STAND_SMEAS_SENT 0).send fromStand p)

/-- The first delivered packet that meets `p` leaves the queue. -/
def State.takePkt (s : State) (p : Pkt → Bool) : Option (Pkt × Nat × State) :=
  match s.inq.find? fun e => p e.2 with
  | some e => some (e.2, e.1, { s with inq := s.inq.eraseP fun e => p e.2 })
  | none => none

/-- The reference that slot `c` of a packet gives. -/
def srefOf (d : List Word) (c arr : Nat) : Sref :=
  let w (k : Nat) : Word := d.getD k 0#32
  { cmd := (w 0).toNat / 2 ^ 20 % 16, lock := (w 0).toNat.testBit 19, frame := (w 0).toNat % 65536
    tRef := (w 1).toNat * 32 + (w 2).toNat % 32, arr := arr, theta := (w 2).toNat / 65536, omega := w 3
    id := w (5 + 2 * c), iq := w (6 + 2 * c) }

/-- The channels a mask names. -/
def maskChs (m : Nat) : List Ch := chans.filter fun c => m.testBit c.val

/-- A reference that the checks of R456 refuse. -/
def State.srefBad (s : State) (p : Pkt) : Bool :=
  let w (k : Nat) : Word := p.data.getD k 0#32
  let l := maskChs (p.arg.toNat % 16)
  !f32IsFinite (w 3) || l.isEmpty || l.any fun c =>
    !s.chOn c || s.run R.CH_MODE_GANG c.val != 2 || s.run R.GANG_CFG_LEADER c.val != p.src ||
      s.run R.GANG_CFG_STAND_ID c.val != (w 0).toNat / 2 ^ 24 || s.run R.GANG_CFG_INDEX c.val != nib (w 4).toNat c.val ||
      !f32IsFinite (w (5 + 2 * c.val)) || !f32IsFinite (w (6 + 2 * c.val))

/-- A kept reference reaches one member channel: late, or waiting for its use window; SAFE acts at once (R457, R459). -/
def State.srefTo (s : State) (p : Pkt) (c : Ch) : State :=
  let i := c.val
  let r := srefOf p.data i s.fineNow
  let s := if r.cmd = 5 then ((s.modGang c fun g => { g with good := 0 }).condSet (srcCh i oStandRefLoss) true).settleAll else s
  if (s.ch c).gang.held && useGone (s.periodFine c) r.tRef (s.ch c).gang.tk then
    ((s.inc R.STAND_CNT_LATE 0).inc R.GANG_CNT_LATE i).wr R.STAND_IRQ_SREF_LATE 0 1
  else s.modGang c fun g => { g with rx := (g.rx ++ [r]).drop (g.rx.length + 1 - 8) }

/-- SREF_RECEIVED (R456): the oldest delivered reference is kept or discarded. -/
def execSrefReceived (s : State) : Host.Outcome State Fault Refusal :=
  .next (match s.takePkt fun p => decide (p.typ = 6) with
    | none => s
    | some (p, _, s) =>
      if s.srefBad p then (s.inc R.STAND_CNT_DISCARDED 0).wr R.STAND_IRQ_SREF_BAD 0 1
      else (maskChs (p.arg.toNat % 16)).foldl (fun s c => s.srefTo p c) s)

/-- The measurement a packet carries. -/
def smeasOf (p : Pkt) (arr : Nat) : Smeas :=
  let w (k : Nat) : Word := p.data.getD k 0#32
  { node := p.src, frame := (w 0).toNat % 65536, h := (w 1).toNat * 32, arr := arr, lock := (w 2).toNat.testBit 31
    margin := (w 2).toNat % 65536
    chs := (maskChs (p.arg.toNat % 16)).map fun c => (c.val, w (3 + 3 * c.val), w (4 + 3 * c.val), w (5 + 3 * c.val)) }

/-- SMEAS_RECEIVED (R456, R457): the oldest delivered measurement waits for the leader's use window. -/
def execSmeasReceived (s : State) : Host.Outcome State Fault Refusal :=
  .next (match s.takePkt fun p => decide (p.typ = 7) with
    | none => s
    | some (p, _, s) =>
      let id := (p.data.getD 0 0#32).toNat / 2 ^ 24
      let m := smeasOf p s.fineNow
      (chans.filter fun c => s.chOn c && s.run R.CH_MODE_GANG c.val == 1 && s.run R.GANG_CFG_STAND_ID c.val == id &&
          (s.mbrDevs c).contains p.src).foldl (fun s c =>
        if (s.ch c).gang.held && useGone (s.periodFine c) m.h (s.ch c).gang.tk then s
        else s.modGang c fun g => { g with meas := ((g.meas.filter fun x => !(x.node == m.node && x.h == m.h)) ++ [m]).drop (g.meas.length + 1 - 16) }) s)

/-! ### Timers and counters -/

/-- A transition of leader `n` into STARTING waits for its stand (R460): a DISARM or STOP, or a new fault, ends the wait. -/
def State.standWaits (s : State) (n : Ch) : Bool :=
  let c := s.chState n
  (s.ch n).gang.waits && s.on R.CH_STATUS_RUN_REQ n.val && !s.standReady n &&
    (c == .armed || (c == .fault && !s.heldInFault n && !s.critOn n && !(s.ch n).disarmed))

/-- STAND_FOLLOW_TIMEOUT (R460). -/
def execStandFollowTimeout (n : Ch) (s : State) : Host.Outcome State Fault Refusal :=
  .next (s.whenCh n fun s =>
    if s.standWaits n then
      ((s.modGang n fun g => { g with overdue := true }).slotMissSet n).settleAll
    else s)

/-- TIME_LOSS_HOLDOVER_EXPIRY (R463). -/
def execTimeLossHoldoverExpiry (s : State) : Host.Outcome State Fault Refusal :=
  .next (if (s.fr srcTimeLoss).cond then s.wrs 0 [(R.STAND_STATUS_HOLD_EXP, 1), (R.STAND_IRQ_HOLD_EXP, 1)] else s)

/-- The STAND counters clear (R466). -/
def State.standCntClr (s : State) : State :=
  s.wrs 0 [(R.STAND_SREF_SENT, 0), (R.STAND_SREF_USED, 0), (R.STAND_SMEAS_SENT, 0), (R.STAND_SMEAS_USED, 0), (R.STAND_CNT_LATE, 0),
    (R.STAND_CNT_DISCARDED, 0)]

/-- STAND_CNT_CLR (R466). -/
def execStandCntClr (s : State) : Host.Outcome State Fault Refusal := .next s.standCntClr

end Sys2Proof.Machine
end

