-- ==== Sys2Proof/Machine/Bus.lean ====
section
/-! DEFINITION. The register bus: which access fails, what a read returns and does, what a write of each register does (R11, R83 to R97). -/

namespace Sys2Proof.Machine

/-- The state after a command's meaning `f`. -/
def State.act (s : State) (f : State → Host.Outcome State Fault Refusal) : State :=
  match f s with
  | .next t => t
  | .fault _ => s
  | .refused _ => s

/-- Bit `k` of a written word starts the action `f`. -/
def State.actBit (s : State) (w : Word) (k : Nat) (f : State → Host.Outcome State Fault Refusal) : State :=
  if w.getLsbD k then s.act f else s

/-! ### Addresses and reach -/

/-- What an address names (R83, R96): a word of a page in region 0x00, of the running view, of a window, or nothing. -/
inductive Target where
  | reg (p off : Nat)
  | view (p off : Nat)
  | pram (n : Ch) (w : Nat)
  | dram (n : Ch) (w : Nat)
  | trace (n : Ch) (w : Nat)
  | otp (a : Nat)
  | route (d : Nat)
  | patch (a : Nat)
  | cache (a : Nat)
  | none
deriving DecidableEq, Repr

/-- Where byte address `a` leads; bits [1:0] are ignored (R84). Of the OTP window the words that R502 lists exist, its rest is unmapped. -/
def targetOf (a : Nat) : Target :=
  let a := a / 4 * 4 % 2 ^ 24
  let r := a / 2 ^ 16
  let o := a % 2 ^ 16
  let n : Ch := ⟨r % 4, Nat.mod_lt _ (by decide)⟩
  if r = 0 then .reg (o / 256) (o % 256)
  else if r = 1 then .view (o / 256) (o % 256)
  else if 0x10 ≤ r ∧ r < 0x14 then .pram n (o / 4)
  else if 0x14 ≤ r ∧ r < 0x18 then (if o < 0x4000 then .dram n (o / 4) else .none)
  else if 0x20 ≤ r ∧ r < 0x24 then .trace n (o / 4)
  else if r = 0x30 then (if o < 0x2120 ∨ (0x2200 ≤ o ∧ o < 0x2210) then .otp o else .none)
  else if r = 0x34 then (if o < 0x1000 then .route (o / 4) else .none)
  else if r = 0x38 then (if o < 0x8000 then .patch o else .none)
  else if r = 0x3C then (if o < 0x4000 then .cache o else .none)
  else .none

/-- The address names nothing, or a word of a reserved page beside PAGE (R83, R84). -/
def State.unmapped (s : State) : Target → Bool
  | .none => true
  | .reg p off => !s.pageExists p && off != 0xFC
  | .view p off => !s.pageExists p && off != 0xFC
  | _ => false

/-- The address lies outside the reach of master `m` (R11): 0 host SPI, 1 Lodge, 2 Trail, 3 to 6 G0 to G3, 7 Ranger. -/
def outOfReach (m : Nat) (wr : Bool) (t : Target) : Bool :=
  let own (p : Nat) : Bool := decide (0x40 ≤ p) && (p - 0x40) / 16 == m - 3
  let page (p : Nat) : Bool :=
    if 0x40 ≤ p then wr || own p
    else !(p == 0x0C || p == 0x0E || p == 0x10 || p == 0x16 || p == 0x17 || p == 0x18)
  if m < 3 then false
  else if m < 7 then
    match t with
    | .reg p _ => page p
    | .view p _ => page p
    | _ => true
  else
    match t with
    | .reg _ _ => wr
    | .view _ _ => wr
    | _ => true

/-- The factory fuses disable what the address names (R3). -/
def State.targetFused (s : State) : Target → Bool
  | .reg p _ => s.pageFused p
  | .view p _ => s.pageFused p
  | .pram n _ => !s.chOk n.val
  | .dram n _ => !s.chOk n.val
  | .trace n _ => !s.chOk n.val
  | _ => false

/-- The domain of what the address names is off (R28, R88, R96). -/
def State.targetOff (s : State) : Target → Bool
  | .reg p _ => !s.pageOn p
  | .view p _ => !s.pageOn p
  | .pram n _ => !s.chOn n
  | .dram n _ => !s.chOn n
  | .trace _ _ => !s.domOn dTrace
  | _ => false

/-- Offset 0xFC of a reserved page, which no master's reach or domain closes (R84, R87). -/
def State.pageMirror (s : State) : Target → Bool
  | .reg p off => !s.pageExists p && off == 0xFC
  | .view p off => !s.pageExists p && off == 0xFC
  | _ => false

/-- Why an access fails, in the order of R84; 0 where it does not. -/
def State.accessFail (s : State) (m : Nat) (wr : Bool) (t : Target) : Nat :=
  if s.pageMirror t then 0 else if s.unmapped t then 1 else if outOfReach m wr t then 2 else if s.targetFused t then 5 else if s.targetOff t then 3 else 0

/-! ### Reads -/

/-- The word of an existing target. -/
def State.targetRead (s : State) (m : Nat) : Target → Word
  | .reg p off => s.pageRead m p off
  | .view p off => s.viewRead m p off
  | .pram n w => s.memWord (pramAddr n.val w)
  | .dram n w => s.memWord (dramAddr n.val w)
  | .trace n w => s.memWord (tramAddr n.val w)
  | .otp a => s.memWord (0x300000 + a)
  | .route d => s.memWord (0x340000 + 4 * d)
  | .patch a => s.memWord (0x380000 + a)
  | .cache a => s.memWord (0x3C0000 + a)
  | .none => 0#32

/-- A read-sensitive register's effect once its read is confirmed (R90), with the word returned. -/
def State.readEffect (s : State) (t : Target) (w : Word) : State :=
  match t with
  | .reg 0x17 0x20 => s.nowLatch
  | .reg 0x1C 0x0C => s.act (execCanStatusRead 0 (w.getLsbD 4) false)
  | .reg 0x1D 0x0C => s.act (execCanStatusRead 1 (w.getLsbD 4) false)
  | .reg 0x1E 0x58 => s.sidxNext
  | _ => s

/-- What a read of `a` by master `m` returns (R84). -/
def State.busWord (s : State) (m a : Nat) : Word :=
  if s.accessFail m false (targetOf a) = 0 then s.targetRead m (targetOf a) else 0#32

/-- A confirmed read of `a` by master `m`: the word and what the read does (R84, R90). -/
def State.busRead (s : State) (m a : Nat) : Word × State :=
  let t := targetOf a
  let e := s.accessFail m false t
  let w := s.busWord m a
  (w, if e = 0 then s.readEffect t w else s.busErr e m a)

/-! ### Writes by access code -/

/-- What a write of `w` leaves in the word `old`, for one field (R89). -/
def Fld.written (f : Fld) (lock : Bool) (old w : Word) : Word :=
  match f.acc with
  | .rw => f.put old (f.get w)
  | .rwc => f.put old (f.get w)
  | .rwl => if lock then old else f.put old (f.get w)
  | .w1c => old &&& ~~~ (w &&& f.mask)
  | .ro => old
  | .w1s => old
  | .wo => old
  | .sc => old

/-- A write of a page word by the access codes alone (R89): WR_DENIED sets where the page is locked and the word has an RWL field. -/
def State.plain (s : State) (p off : Nat) (w : Word) : State :=
  let a := p * 256 + off
  let l := s.locked p
  let fs := wordFields a
  let s := s.setWord a (fs.foldl (fun o f => f.written l o w) (s.word a))
  if l && fs.any (fun f => f.acc == .rwl) then s.wrDenied p else s

/-- A write of a page word with the bits of `f` as they were where `ok` is false: a field out of range is discarded. -/
def State.keep (s : State) (f : Fld) (i : Nat) (ok : Nat → Bool) (w : Word) : Word := if ok (f.get w) then w else f.put w (s.rd f i)

/-- A write of IRQ_EN. -/
def State.irqEnWrite (s : State) (p : Nat) (w : Word) : State := s.setWord (p * 256 + 0x14) w

/-- A write of LOCK (R85, R92): a page that becomes locked has a new reference (R377). -/
def State.lockWrite (s : State) (p : Nat) (w : Word) : State :=
  let a := p * 256 + 0x1C
  let s := if w.getLsbD 0 && !s.locked p then s.scanDrop p else s
  let o := s.word a
  s.setWord a ((if w.getLsbD 1 then o &&& ~~~ 2#32 else o) ||| (w &&& 1#32))

/-- The FAULT bits of page `p` that a write of `w` clears set again while a source is in its fault state (R95). -/
def State.faultWrite (s : State) (p : Nat) (w : Word) : State :=
  let o := s.word (p * 256 + 0x18)
  let s := s.plain p 0x18 w
  s.inFault.foldl (fun s e =>
    match srcFaultBit e.1 with
    | some (f, i, b) =>
      if pageOf f.page i = p ∧ f.off = 0x18 ∧ o.getLsbD (f.lo + b) = true ∧ w.getLsbD (f.lo + b) = true then s.setFaultBit e.1 else s
    | none => s) s

/-! ### Channel pages -/

/-- GRV.CTRL: STOP, RESET, LOAD_ROM, VERIFY, START, HOST_EV, CNT_CLR, in this order (log 60). -/
def State.grvCtrl (s : State) (n : Ch) (w : Word) : State :=
  ((((((s.actBit w 1 (execGrvStop n)).actBit w 2 (execGrvReset n)).actBit w 4 (execGrvLoadRom n)).actBit w 3 (execGrvVerify n)).actBit w 0
    (execGrvStart n)).actBit w 8 (execGrvHostEv n)).actBit w 9 (execGrvCntClr n)

/-- A write of word `off` of block `k` of channel `n`. CH.CTRL: DISARM, STOP, COMMIT, ARM, RUN in this order, ARM and RUN ignored beside
DISARM (R137). -/
def State.chanWrite (s : State) (n : Ch) (k off : Nat) (w : Word) : State :=
  let p := 0x40 + 0x10 * n.val + k
  match k, off with
  | 0x0, 0x08 =>
    let s := ((s.actBit w 4 (execChDisarm n)).actBit w 3 (execChStop n)).actBit w 0 (execCommit n)
    if w.getLsbD 4 then s else (s.actBit w 1 (execChArm n)).actBit w 2 (execChRun n)
  | 0x1, 0x08 => s.actBit w 0 (execPwmCntClr n)
  | 0x4, 0x08 => (s.actBit w 0 (execOffcal n)).actBit w 1 (execZcal n)
  | 0x4, 0x30 => (s.plain p off w).wr R.ADC_STATUS_ZCAL_USED n.val 0
  | 0x4, 0x34 => (s.plain p off w).wr R.ADC_STATUS_ZCAL_USED n.val 0
  | 0x4, 0x38 => (s.plain p off w).wr R.ADC_STATUS_ZCAL_USED n.val 0
  | 0x6, 0x08 => (s.actBit w 0 (execPosCntClr n)).actBit w 1 (execEncLoad n)
  | 0x7, 0x08 => s.actBit w 0 (execLoopCntClr n)
  | 0x7, 0x24 => (s.plain p off w).actBit w 0 (execBankSwap n (w.extractLsb' 8 6))
  | 0x7, 0x50 => s.auxRef n false w
  | 0x7, 0x54 => s.auxRef n true w
  | 0x7, 0x60 => s.nodeWrite n (s.rd R.LOOP_NODE_IDX_IDX n.val) w
  | 0x8, _ =>
    if h : (off - 0x20) / 36 < 6 ∧ 0x20 ≤ off then s.bankWrite n false ⟨(off - 0x20) / 36, h.1⟩ ((off - 0x20) % 36 / 4) w else s.plain p off w
  | 0x9, _ =>
    if h : (off - 0x20) / 36 < 6 ∧ 0x20 ≤ off then s.bankWrite n true ⟨(off - 0x20) / 36, h.1⟩ ((off - 0x20) % 36 / 4) w else s.plain p off w
  | 0xA, 0x08 => (s.actBit w 0 (execObsReseed n)).actBit w 1 (execObsPcClr n)
  | 0xB, 0x08 => (s.plain p off w).actBit w 1 (execPosAck n)
  | 0xB, 0x20 => s.tgtWrite n w
  | 0xB, 0x24 => s.ptgtTurnsWrite n w.toNat
  | 0xB, 0x28 => s.ptgtFracWrite n (w.toNat % 65536)
  | 0xC, 0x08 => s.grvCtrl n w
  | 0xC, 0x28 =>
    if s.on R.GRV_STATUS_WDT_ARMED n.val then (if s.locked p then s.wrDenied p else s).grvIgnored n else s.plain p off w
  | 0xC, 0x3C => s.act (execMboxFree n (w.extractLsb' 0 4))
  | 0xC, 0x50 => s.act (execGrvSignal n (w.extractLsb' 0 8))
  | 0xD, 0x08 => (s.actBit w 0 (execTrcForce n)).actBit w 1 (execTrcEnd n)
  | 0xD, _ =>
    if 0x20 ≤ off ∧ off ≤ 0x34 ∧ (s.holder (4 + n.val)).isSome then s.wr R.TRC_IRQ_CFG_DENIED n.val 1 else s.plain p off w
  | 0xE, 0x3C => s.act (execDiagTestiWrite n w)
  | _, _ => s.plain p off w

/-! ### Device pages -/

/-- STANDBY by a bus write: the levels of WAKE and of the signal detectors are free values (log 61). -/
def State.standbyWrite (s : State) (key : BitVec 8) : State :=
  s.used.act (execStandby key (s.anyVal.getLsbD 0) (s.anyVal.extractLsb' 1 4))

/-- PWR page. -/
def State.pwrWrite (s : State) (off : Nat) (w : Word) : State :=
  match off with
  | 0x08 => if w.getLsbD 0 then s.standbyWrite (w.extractLsb' 24 8) else s
  | 0x20 => s.act (execDomOn (w.extractLsb' 0 8))
  | 0x24 => s.act (execDomOff (w.extractLsb' 0 8))
  | 0x30 => s.plain 0x02 off (if s.hl2880 then w &&& 0x3F#32 else w)
  | 0x34 => s.act (execVdrvRegEnWrite (w.getLsbD 0))
  | _ => s.plain 0x02 off w

/-- OTP page. -/
def State.otpWrite (s : State) (off : Nat) (w : Word) : State :=
  match off with
  | 0x08 => ((s.actBit w 0 execVerifyNow).actBit w 1 execPatchApply).actBit w 2 execPatchClr
  | 0x48 => s.act (execPatchDataWrite w)
  | _ => s.plain 0x03 off w

/-- FLTS page. -/
def State.fltsWrite (s : State) (off : Nat) (w : Word) : State :=
  match off with
  | 0x08 => ((s.actBit w 0 execFltsClear).actBit w 1 execRecovClr).actBit w 2 execEvtClr
  | 0x24 => s.act (execFltsCfgWrite w)
  | 0x28 => s.act (execFltsTimeWrite w)
  | _ => s.plain 0x05 off w

/-- HSPI.CTRL.CNT_CLR (R126). -/
def State.hspiCntClr (s : State) : State :=
  s.wrs 0 [(R.HSPI_FRAME_ERR_COUNT, 0), (R.HSPI_CRC_ERR_COUNT, 0), (R.HSPI_ADDR_END_COUNT, 0), (R.HSPI_RD_LATE_COUNT, 0),
    (R.HSPI_FRAMES_COUNT, 0)]

/-- MSPIm.CTRL: EN, then the software triggers (R226, R234). -/
def State.mspiWrite (s : State) (m : Fin 2) (off : Nat) (w : Word) : State :=
  let p := 0x08 + m.val
  if off = 0x08 then
    let s := if s.locked p then s.wrDenied p else if s.on R.MSPI_CTRL_EN m.val == w.getLsbD 0 then s else s.mspiEn m (w.getLsbD 0)
    (((s.actBit w 4 (execMspiSwtrig m 0)).actBit w 5 (execMspiSwtrig m 1)).actBit w 6 (execMspiSwtrig m 2)).actBit w 7 (execMspiSwtrig m 3)
  else s.plain p off (if off = 0x40 ∧ s.hl2880 then w &&& 0xFFFF3333#32 else w)

/-- An SCX page; on the HL2880 bits 2 and 3 of ASSIGN ignore writes (R221, R224). -/
def State.scxWrite (s : State) (m : Fin 2) (off : Nat) (w : Word) : State :=
  if off = 0x08 then s.act (execScxEnable m (w.getLsbD 0))
  else s.plain (0x0A + m.val) off (if off = 0x28 ∧ s.hl2880 then w &&& 0xFFFFFFF3#32 else w)

/-- JOB page: the origin's bank of command-block words; the write of word 0 executes the block (R334, R336). -/
def State.jobWrite (s : State) (m off : Nat) (w : Word) : State :=
  if 0x20 ≤ off ∧ off < 0x40 then
    let b := jobBank m
    let blk := (s.jobBlk.get b).set! ((off - 0x20) / 4) w
    let s := { s with jobBlk := s.jobBlk.set b.val blk }
    if off = 0x20 then s.jobBlock m blk.toList else s
  else s.plain 0x0C off w

/-- GPIO page: SET and CLR act on OUT (R104). -/
def State.gpioWrite (s : State) (off : Nat) (w : Word) : State :=
  match off with
  | 0x2C => s.orBits R.GPIO_OUT 0 (w.toNat % 256)
  | 0x30 => s.clrBits R.GPIO_OUT 0 (w.toNat % 256)
  | _ => s.plain 0x0E off w

/-- REGVAL written in the frozen state (R330): g0 to g15, the flags, PC. -/
def State.regVal (s : State) (w : Word) : State :=
  let n := s.dbgCore
  let k := s.rd R.DBG_SEL 0
  if !(s.chOn n && s.frozen n) then s
  else if k < 16 then s.setG n (BitVec.ofNat 4 k) w
  else if k = 16 then
    s.modGrv n fun g => { g with n := w.getLsbD 3, z := w.getLsbD 2, c := w.getLsbD 1, v := w.getLsbD 0 }
  else if k = 17 then s.wr R.GRV_STATUS_PC n.val w.toNat
  else s

/-- DBG page; `step` executes one instruction of the frozen core. CORE is written first, then HALT, RESUME, STEP act on it (log 60). -/
def State.dbgWrite (step : State → State) (s : State) (off : Nat) (w : Word) : State :=
  match off with
  | 0x08 =>
    let s := ((s.plain 0x0F off w).actBit w 4 execDbgHalt).actBit w 5 execDbgResume
    if w.getLsbD 6 then step s else s
  | 0x34 => s.regVal w
  | _ => s.plain 0x0F off w

/-- UCAP byte `p` is in range (R438). -/
def ucapOk (w : Word) (p : Nat) : Bool := decide (w.toNat / 2 ^ (8 * p) % 128 ≤ 100)

/-- FAB page: fields out of range are discarded; NODE_ID takes directed-route writes only (R438). -/
def State.fabWrite (s : State) (off : Nat) (w : Word) : State :=
  match off with
  | 0x08 => (s.actBit w 0 execFabCntClr).actBit w 1 execForget
  | 0x20 => s
  | 0x44 => s.plain 0x10 off (s.keep R.FAB_ELECT_T 0 (decide <| 1 ≤ ·) (s.keep R.FAB_LOSS_T 0 (decide <| 2 ≤ ·) w))
  | 0x48 => s.plain 0x10 off (s.keep R.FAB_ID_BASE 0 (decide <| · ≠ 0x3FF) w)
  | 0x2C => (s.plain 0x10 off w).whenLink fun s => s.reoffer.settleAll
  | 0x50 =>
    let s := s.settleBuckets
    let o := s.rdw R.FAB_UCAP 0
    let b (p : Nat) (v : Word) : Word := if ucapOk w p then putAt v (8 * p) 7 (w.toNat / 2 ^ (8 * p)) else v
    s.plain 0x10 off (b 3 (b 2 (b 1 (b 0 o))))
  | _ => s.plain 0x10 off w

/-- LNK page of port `p`. -/
def State.lnkWrite (s : State) (p : Ch) (off : Nat) (w : Word) : State :=
  if off = 0x08 then
    let s := if s.on R.LNK_CTRL_EN p.val == w.getLsbD 0 && !s.locked (0x11 + p.val) then s else s.act (execLnkEn p (w.getLsbD 0))
    (s.actBit w 1 (execLnkCntClr p)).actBit w 2 (execLnkRetrain p)
  else s.plain (0x11 + p.val) off w

/-- STAND page: a field out of its range keeps its value (R466, log 167). -/
def State.standWrite (s : State) (off : Nat) (w : Word) : State :=
  match off with
  | 0x08 => s.actBit w 0 execStandCntClr
  | 0x20 =>
    let ok (v : Nat) : Bool := decide (36 ≤ v)
    s.plain 0x18 off (s.keep R.STAND_REF_OFS 0 ok (s.keep R.STAND_MEAS_OFS 0 ok w))
  | 0x24 =>
    let ok (v : Nat) : Bool := decide (1 ≤ v)
    s.plain 0x18 off (s.keep R.STAND_FOLLOW_T 0 ok (s.keep R.STAND_HOLDOVER 0 ok w))
  | _ => s.plain 0x18 off w

/-- TIME page: fields out of range are discarded (R451, R465). -/
def State.timeWrite (s : State) (off : Nat) (w : Word) : State :=
  match off with
  | 0x08 => (s.actBit w 0 execTimeSet).actBit w 1 execTimeCntClr
  | 0x34 =>
    let ok (v : Nat) : Bool := decide (1 ≤ v)
    s.plain 0x17 off (s.keep R.TIME_INTERVAL 0 ok (s.keep R.TIME_STEP_LIM 0 ok (s.keep R.TIME_LOCK_LIM 0 ok w)))
  | 0x48 => s.plain 0x17 off (s.keep R.TIME_PPS 0 (fun v => decide (v = 0) || decide (40 ≤ v)) w)
  | _ => s.plain 0x17 off w

/-- FBK page: RELEASE, then HALT (log 60); while the halt net stands a change of HOUT_EN changes DRIVING (R368, R369; log 106), and HIN_EN set while
another device holds HALT_N low asserts it (R368). -/
def State.fbkWrite (s : State) (off : Nat) (w : Word) : State :=
  match off with
  | 0x08 => (s.actBit w 1 execFbkRelease).actBit w 0 execFbkHalt
  | 0x20 =>
    let was := s.word 0x1920
    let s := s.plain 0x19 off w
    let now := s.word 0x1920
    let s := if s.on R.FBK_STATUS_HALTED 0 && !s.relPend && R.FBK_CFG_HOUT_EN.get was != R.FBK_CFG_HOUT_EN.get now then
        (s.wr R.FBK_STATUS_DRIVING 0 (s.rd R.FBK_CFG_HOUT_EN 0)).haltPin else s
    if s.haltLow && R.FBK_CFG_HIN_EN.get was == 0 && s.on R.FBK_CFG_HIN_EN 0 then (s.haltAssert 1).settleAll else s
  | _ => s.plain 0x19 off w

/-- A window word of a CAN buffer (R478, R488). -/
def CanFrame.setWindow (f : CanFrame) (off : Nat) (w : Word) : CanFrame :=
  let n := w.toNat
  if off = 0x54 then { f with fdf := w.getLsbD 31, brs := w.getLsbD 30, ide := w.getLsbD 29, id := n % 2 ^ 29 }
  else if off = 0x9C then { f with dlc := n / 2 ^ 28, rtr := w.getLsbD 27 }
  else
    let i := off - 0x5C
    let d := f.data ++ List.replicate (64 - f.data.length) 0#8
    { f with data := d.take i ++ [byteOf n 3, byteOf n 2, byteOf n 1, byteOf n 0] ++ d.drop (i + 4) }

/-- A write of the window (R477, R478): only a TX buffer takes it, and not while it is pending. -/
def State.canWindow (s : State) (m : Fin 2) (off : Nat) (w : Word) : State :=
  let k := s.rd R.CAN_WSEL m.val
  if 32 ≤ k then s
  else if s.bit R.CAN_BPEND m.val k then s.wr R.CAN_IRQ_WR_DENIED m.val 1
  else if s.bit R.CAN_BCFG m.val k then
    s.modCan m fun c => { c with bufs := c.bufs.set! k ((c.bufs.toList.getD k .empty).setWindow off w) }
  else s

/-- CAN page of controller `m` (R488); whether a frame is in progress, or has started, is a free value at a bus write (log 183). -/
def State.canWrite (s : State) (m : Fin 2) (off : Nat) (w : Word) : State :=
  let p := 0x1C + m.val
  match off with
  | 0x08 => ((s.used.act (execCanInitWrite m (w.getLsbD 0) (s.anyVal.getLsbD 0))).actBit w 1 (execCanRecover m)).actBit w 2 (execCanFifoPop m)
  | 0x38 => s.act (execCanFilterApply m w)
  | 0x40 => s.used.act (execCanBpend m w (s.anyVal.getLsbD 0))
  | 0x44 => s.used.act (execCanBabort m w (s.anyVal.getLsbD 0))
  | 0x28 => (s.plain p off (canCfgWord m w)).canNext m
  | 0x30 => (s.plain p off w).canShowFilt m
  | _ =>
    if off = 0x20 ∨ off = 0x24 ∨ off = 0x3C then
      if s.on R.CAN_CTRL_INIT m.val then s.plain p off w else s.wr R.CAN_IRQ_WR_DENIED m.val 1
    else if off = 0x54 ∨ (0x5C ≤ off ∧ off ≤ 0x9C) then s.canWindow m off w
    else s.plain p off w

/-- NET page (R489): a session's registers take writes while it is idle. -/
def State.netWrite (s : State) (off : Nat) (w : Word) : State :=
  let idle (f : Sess → Sess) : State := s.modSs s.sel fun x => if x.st = 0 then f x else x
  match off with
  | 0x08 => s.actBit w 0 execReclaim
  | 0x20 =>
    let was := s.on R.NET_CFG_EN 0
    let s := s.plain 0x1E off w
    (s.netEnable was (s.on R.NET_CFG_EN 0)).settleAll
  | 0x44 =>
    let c := w.toNat / 2 ^ 28
    if c = 1 then s.act (execSessionStart (w.extractLsb' 24 2) (w.extractLsb' 0 8))
    else
      let s := idle fun x => { x with kind := w.toNat / 2 ^ 24 % 4, da := w.toNat % 256 }
      if c = 2 then s.act execSessionNext else if c = 3 then s.act execSessionRelease else if c = 4 then s.act execSessionAbort else s
  | 0x4C => idle fun x => { x with pgn := w.toNat % 2 ^ 18 }
  | 0x50 => idle fun x => { x with len := w.toNat % 2 ^ 27 }
  | 0x58 => s.act (execNetSdataWrite w)
  | _ => s.plain 0x1E off w

/-- A write of word `off` of device page `p` by master `m`. -/
def State.devWrite (step : State → State) (s : State) (m p off : Nat) (w : Word) : State :=
  match p with
  | 0x00 => if off = 0x08 then (if w.getLsbD 0 then s.act (execDevrst (w.extractLsb' 24 8)) else s) else s.plain p off w
  | 0x02 => s.pwrWrite off w
  | 0x03 => s.otpWrite off w
  | 0x04 => if off = 0x08 then (s.plain p off w).actBit w 8 execClrLatched else s.plain p off w
  | 0x05 => s.fltsWrite off w
  | 0x06 =>
    if off = 0x08 then (s.actBit w 0 execRecap).actBit w 1 execStestNow
    else
      let s := s.plain p off w
      { s with rng.refs := s.rng.refs.filter fun e => s.scanList.contains e.1 }
  | 0x07 =>
    let s := s.plain p off w
    if off = 0x08 ∧ w.getLsbD 8 = true then s.hspiCntClr else s
  | 0x08 => s.mspiWrite 0 off w
  | 0x09 => s.mspiWrite 1 off w
  | 0x0A => s.scxWrite 0 off w
  | 0x0B => s.scxWrite 1 off w
  | 0x0C => s.jobWrite m off w
  | 0x0D =>
    let s := s.plain p off w
    if off = 0x20 ∧ s.rd R.TRCR_DEST_NODE 0 = 0x3FF then s.wr R.TRCR_DEST_EN 0 0 else s
  | 0x0E => s.gpioWrite off w
  | 0x0F => s.dbgWrite step off w
  | 0x10 => s.fabWrite off w
  | 0x11 => s.lnkWrite 0 off w
  | 0x12 => s.lnkWrite 1 off w
  | 0x13 => s.lnkWrite 2 off w
  | 0x14 => s.lnkWrite 3 off w
  | 0x16 =>
    if off = 0x08 then ((s.actBit w 0 execTxnGo).actBit w 1 execHrxPop).actBit w 2 execTxnCntClr else s.plain p off w
  | 0x17 => s.timeWrite off w
  | 0x18 => s.standWrite off w
  | 0x19 => s.fbkWrite off w
  | 0x1C => s.canWrite 0 off w
  | 0x1D => s.canWrite 1 off w
  | 0x1E => s.netWrite off w
  | _ => s.plain p off w

/-- A write of word `off` of a live page (R85, R86, R89, R92, R95). -/
def State.pageWrite (step : State → State) (s : State) (m p off : Nat) (w : Word) : State :=
  if off = 0xFC then s
  else if off = 0x14 then s.irqEnWrite p w
  else if off = 0x18 then s.faultWrite p w
  else if off = 0x1C then s.lockWrite p w
  else if h : 0x40 ≤ p ∧ p < 0x80 then s.chanWrite ⟨(p - 0x40) / 16, by omega⟩ (p % 16) off w
  else s.devWrite step m p off w

/-- A write of `w` at `a` by master `m` (R84): a failed one has no effect but its capture. The running view, the trace RAM, the OTP window, the
patch RAM and the cache take no writes (R91, R96). -/
def State.busWriteWith (step : State → State) (s : State) (m a : Nat) (w : Word) : State :=
  let t := targetOf a
  let e := s.accessFail m true t
  if e ≠ 0 then s.busErr e m a
  else
    match t with
    | .reg p off => s.pageWrite step m p off w
    | .pram n k => s.act (execProgramRamWrite n (BitVec.ofNat 14 k) w)
    | .dram n k => s.setMemWord (dramAddr n.val k) w
    | .route d => s.act (execRouteTableWrite (BitVec.ofNat 10 d) w)
    | _ => s

end Sys2Proof.Machine
end

