-- ==== Sys2Proof/Machine/Grove.lean ====
section
/-! DEFINITION. The instructions of the Grove cores (R307 to R326), the debug step (R330), and register writes over the bus. -/

namespace Sys2Proof.Machine

/-! ### Flags and arithmetic -/

/-- N and Z from a result; C and V kept (R312). -/
def State.gNz (s : State) (n : Ch) (r : Word) : State := s.modGrv n fun g => { g with n := r.msb, z := r == 0#32 }

/-- All four flags. -/
def State.gNzcv (s : State) (n : Ch) (r : Word) (c v : Bool) : State :=
  s.modGrv n fun g => { g with n := r.msb, z := r == 0#32, c := c, v := v }

/-- Carry out of bit 31 of a sum (R310). -/
def addCarry (a b : Word) : Bool := decide (2 ^ 32 ≤ a.toNat + b.toNat)

/-- Signed overflow of a sum (R310). -/
def addOver (a b : Word) : Bool := a.msb == b.msb && (a + b).msb != a.msb

/-- C of a difference: no borrow (R310). -/
def subCarry (a b : Word) : Bool := decide (b.toNat ≤ a.toNat)

/-- Signed overflow of a difference (R310). -/
def subOver (a b : Word) : Bool := a.msb != b.msb && (a - b).msb != a.msb

/-- FMIN (R311): subnormals flushed, the other operand for a NaN, ra on equality. -/
def gFmin (a b : Word) : Word :=
  let a := f32Flush a
  let b := f32Flush b
  if f32IsNan a then b else if f32IsNan b then a else if f32Lt b a then b else a

/-- FMAX (R311). -/
def gFmax (a b : Word) : Word :=
  let a := f32Flush a
  let b := f32Flush b
  if f32IsNan a then b else if f32IsNan b then a else if f32Lt a b then b else a

/-- FSQRT (R236, R311). -/
def gFsqrt (a : Word) : Word := f32Sqrt a

/-- FTOI (R311): toward zero, saturated, 0 for a NaN. -/
def gFtoi (a : Word) : Word :=
  if f32IsNan a then 0#32
  else if !f32IsFinite a then (if f32Neg a then 0x80000000#32 else 0x7FFFFFFF#32)
  else
    let v := f32Trunc a
    if 2 ^ 31 ≤ v then 0x7FFFFFFF#32 else if v < -(2 ^ 31) then 0x80000000#32 else BitVec.ofInt 32 v

/-- The result of a three-register operation (R312); `d` is the old rd, which FCLAMP alone uses. -/
def GAlu.result (o : GAlu) (d a b : Word) : Word :=
  match o with
  | .add => a + b
  | .sub => a - b
  | .and => a &&& b
  | .or => a ||| b
  | .xor => a ^^^ b
  | .shl => a <<< (b.toNat % 32)
  | .shr => a >>> (b.toNat % 32)
  | .sar => a.sshiftRight (b.toNat % 32)
  | .mul => a * b
  | .min => if a.toInt ≤ b.toInt then a else b
  | .max => if b.toInt ≤ a.toInt then a else b
  | .fadd => f32Add a b
  | .fsub => f32Sub a b
  | .fmul => f32Mul a b
  | .fdiv => f32Div a b
  | .fmin => gFmin a b
  | .fmax => gFmax a b
  | .fclamp => gFmin (gFmax d a) b

/-- Its flags (R310, R312). -/
def State.aluFlags (s : State) (n : Ch) (o : GAlu) (a b r : Word) : State :=
  match o with
  | .add => s.gNzcv n r (addCarry a b) (addOver a b)
  | .sub => s.gNzcv n r (subCarry a b) (subOver a b)
  | .fadd => s | .fsub => s | .fmul => s | .fdiv => s | .fmin => s | .fmax => s | .fclamp => s
  | .and => s.gNz n r | .or => s.gNz n r | .xor => s.gNz n r | .shl => s.gNz n r | .shr => s.gNz n r | .sar => s.gNz n r
  | .mul => s.gNz n r | .min => s.gNz n r | .max => s.gNz n r

/-- Its cycles (R312). -/
def GAlu.cycles : GAlu → Nat
  | .mul => 2 | .fadd => 2 | .fsub => 2 | .fmul => 2 | .fdiv => 8
  | _ => 1

/-- The core spends `k` CCLK cycles, counted since it left WAITING (R331). -/
def State.gTake (s : State) (n : Ch) (k : Nat) : State :=
  s.modGrv n fun g => if g.busy = 0 then g else { g with busy := g.busy + k }

/-- An instruction that has done its work: PC goes on after `k` cycles. -/
def State.gNext (s : State) (n : Ch) (k : Nat) : State := (s.gInc n).gTake n k

/-- A three-register operation (R312). -/
def State.gAlu (s : State) (n : Ch) (o : GAlu) (rd ra rb : GReg) : State :=
  let a := s.gv n ra
  let b := s.gv n rb
  let r := o.result (s.gv n rd) a b
  ((s.setG n rd r).aluFlags n o a b r).gNext n o.cycles

/-- The result of a one-source operation (R311, R312). -/
def GUn.result (o : GUn) (a : Word) : Word :=
  match o with
  | .fsqrt => gFsqrt a
  | .fabs => f32Abs a
  | .fneg => f32Opp a
  | .itof => f32OfInt a.toInt
  | .ftoi => gFtoi a

/-- Its cycles (R312). -/
def GUn.cycles : GUn → Nat
  | .fsqrt => 8 | .itof => 2 | .ftoi => 2
  | _ => 1

/-- A one-source operation (R312). -/
def State.gUn (s : State) (n : Ch) (o : GUn) (rd ra : GReg) : State := (s.setG n rd (o.result (s.gv n ra))).gNext n o.cycles

/-- An immediate operation (R312): ADDI sign-extends, the others take the immediate as it is, the shifts its bits [4:0]. -/
def State.gImm (s : State) (n : Ch) (o : GImmOp) (rd ra : GReg) (i : GImm) : State :=
  let a := s.gv n ra
  let u : Word := i.zeroExtend 32
  let r : Word :=
    match o with
    | .addi => a + i.signExtend 32
    | .andi => a &&& u
    | .ori => a ||| u
    | .xori => a ^^^ u
    | .shli => a <<< (i.toNat % 32)
    | .shri => a >>> (i.toNat % 32)
    | .sari => a.sshiftRight (i.toNat % 32)
  let s := s.setG n rd r
  let s := match o with
    | .addi => s.gNzcv n r (addCarry a (i.signExtend 32)) (addOver a (i.signExtend 32))
    | _ => s.gNz n r
  s.gNext n 1

/-- A compare of two words (CMP, CMPI): the flags of their difference. -/
def State.gCmp (s : State) (n : Ch) (a b : Word) : State := (s.gNzcv n (a - b) (subCarry a b) (subOver a b)).gNext n 1

/-- FCMP (R310). -/
def State.gFcmp (s : State) (n : Ch) (a b : Word) : State :=
  let u := f32IsNan a || f32IsNan b
  (s.modGrv n fun g => { g with n := f32Lt a b, z := f32Le a b && f32Le b a, c := u, v := false }).gNext n 1

/-! ### Memory, registers, jobs, messages -/

/-- The effective address ra + imm18 s (R312). -/
def State.gEa (s : State) (n : Ch) (ra : GReg) (i : GImm) : Nat := (s.gv n ra + i.signExtend 32).toNat

/-- A data RAM word of the core. -/
def State.gData (s : State) (n : Ch) (k : Nat) : Word := s.memWord (dramAddr n.val k)

/-- An uncorrectable ECC error in a data RAM read: exception 7 (R322, R378). -/
def State.gEcc (s : State) (n : Ch) (k : Nat) : State := (s.eccUncorr (eccRam n true) (dramAddr n.val k)).gExc n 7

/-- JPOST (R326): the eight words at `a` go to the core's bank, and the result to rd. -/
def State.gJpost (s : State) (n : Ch) (rd : GReg) (a : Nat) : State :=
  let m := 3 + n.val
  let s := s.jobPost m ((List.range 8).map fun j => s.gData n (a + j))
  (s.setG n rd (s.jobRes.get (jobBank m))).gNext n 4

/-- The page and offset of a local address (R314). -/
def localPage (n : Ch) (a : Nat) : Nat := 0x40 + 0x10 * n.val + a / 256
def localOff (a : Nat) : Nat := a % 256 / 4 * 4

/-- An access instruction at effective address `a` (R313 to R315, R326); `ecc`: the data RAM read meets an uncorrectable error. Jobs and bus
accesses meet no contention (log 62). -/
def State.gAcc (s : State) (n : Ch) (o : GAcc) (rd ra : GReg) (i : GImm) (ecc : Bool) : State :=
  let a := s.gEa n ra i
  let m := 3 + n.val
  match o with
  | .ld => if 0xFFF < a then s.gExc n 2 else if ecc then s.gEcc n a else (s.setG n rd (s.gData n a)).gNext n 2
  | .st => if 0xFFF < a then s.gExc n 2 else (s.setMemWord (dramAddr n.val a) (s.gv n rd)).gNext n 2
  | .nrd => if 0xFF < a then s.gExc n 3 else (s.setG n rd (s.nodeShown n a)).gNext n 2
  | .nwr => if 0xFF < a then s.gExc n 3 else (s.nodeWrite n a (s.gv n rd)).gNext n 2
  | .crd => if 0xFFF < a then s.gExc n 4 else (s.setG n rd (s.pageRead m (localPage n a) (localOff a))).gNext n 3
  | .cwr =>
    if 0xFFF < a then s.gExc n 4 else (s.gNext n 3).pageWrite (fun s => s) m (localPage n a) (localOff a) (s.gv n rd)
  | .brd => let (w, s) := s.busRead m (a % 2 ^ 24); (s.setG n rd w).gNext n 3
  | .bwr => (s.gNext n 3).busWriteWith (fun s => s) m (a % 2 ^ 24) (s.gv n rd)
  | .jpost => if 0xFF8 < a then s.gExc n 2 else if ecc then s.gEcc n a else s.gJpost n rd a

/-- MSG (R324): `k` words from data word rb on; −1 where no send-queue entry or tag is free, or Trail is off (log 63). A message to 0x3FF is
posted: it takes no tag, carries TAG 0, which rd receives, and completes as it leaves (R408, R411, R418; log 63). -/
def State.gMsg (s : State) (n : Ch) (rd ra rb : GReg) (k : Nat) (ecc : Bool) : State :=
  let b := (s.gv n rb).toNat
  let t := (s.gv n ra).toNat
  let dst := t % 1024
  if 0x1000 < b + k then s.gExc n 2
  else if ecc then s.gEcc n b
  else
    let data := (List.range k).map fun j => s.gData n (b + j)
    let p := reqPkt s.nodeId 2 2 dst (decide (dst = 0x3FF)) (wd (t / 4096 % 4)) (4 * k) data
    if s.domOn dLink = false ∨ 4 ≤ (s.grv n).sends.length then (s.setG n rd 0xFFFFFFFF#32).gNext n 3
    else if dst = 0x3FF then
      ((((s.incWrap R.TXN_SENT 0).send (fromGrove n.val) p).setG n rd 0#32).gNext n 3).grvEvent n 9
    else
      match s.request (fromGrove n.val) (3 + n.val) (.grove n.val) p with
      | none => (s.setG n rd 0xFFFFFFFF#32).gNext n 3
      | some (tg, s) =>
        ((s.modGrv n fun g => { g with sends := tg :: g.sends }).setG n rd (wd tg)).gNext n 3

/-! ### Control flow, events, watchdog -/

/-- The conditions of R309. -/
def gCond (g : Grv) (c : BitVec 4) : Bool :=
  match c.toNat with
  | 0 => true
  | 1 => g.z
  | 2 => !g.z
  | 3 => g.n != g.v
  | 4 => g.n == g.v
  | 5 => g.z || g.n != g.v
  | 6 => !g.z && g.n == g.v
  | 7 => !g.c
  | 8 => g.c
  | 9 => g.n
  | 10 => !g.n
  | 11 => g.v
  | _ => !g.v

/-- PC becomes `t`. -/
def State.gTo (s : State) (n : Ch) (t : Nat) : State := (s.wr R.GRV_STATUS_PC n.val t).modGrv n fun g => { g with past := false }

/-- CALL (R312, R322). -/
def State.gCall (s : State) (n : Ch) (t : GAddr) : State :=
  if 8 ≤ (s.grv n).stack.length then s.gExc n 5
  else
    let r := (s.gpc n + 1) % 2 ^ 14
    ((s.modGrv n fun g => { g with stack := r :: g.stack }).gTo n t.toNat).gTake n 2

/-- RET (R312, R322). -/
def State.gRet (s : State) (n : Ch) : State :=
  match (s.grv n).stack with
  | [] => s.gExc n 6
  | r :: l => ((s.modGrv n fun g => { g with stack := l }).gTo n r).gTake n 2

/-- WFE (R316): with nothing pending in the mask the core enters WAITING, and BUSY_MAX takes the cycles since it left it (R331). -/
def State.gWfe (s : State) (n : Ch) (rd : GReg) (i : GImm) : State :=
  let m := i.toNat % 2 ^ 16
  let v := s.rd R.GRV_EVT_PEND n.val &&& m
  if v ≠ 0 then ((s.setG n rd (wd v)).clrBits R.GRV_EVT_PEND n.val v).gNext n 2
  else
    let b := (s.grv n).busy
    let s := s.wrs n.val [(R.GRV_STATUS_CORE, 2), (R.GRV_PERF_BUSY_MAX, max (s.rd R.GRV_PERF_BUSY_MAX n.val) (min b 65535))]
    s.modGrv n fun g => { g with wfe := some (rd.toNat, m), busy := 0 }

/-- KICK (R321): the interval runs from the last accepted kick, 400 PCLK cycles to the microsecond. -/
def State.gKick (s : State) (n : Ch) (v : Nat) : State :=
  let s := s.gNext n 1
  if !s.on R.GRV_STATUS_WDT_ARMED n.val then s
  else
    let g := s.grv n
    let d := s.now - g.kickAt
    if v = g.kick ∧ 400 * s.rd R.GRV_WDT_WMIN n.val ≤ d ∧ d ≤ 400 * s.rd R.GRV_WDT_WMAX n.val then
      s.modGrv n fun g => { g with kick := 255 - g.kick, kickAt := s.now }
    else s.grvWdt n

/-- TSET (R318). -/
def State.gTset (s : State) (n : Ch) (v : Word) (i : GImm) : State :=
  (s.modGrv n fun g =>
    { g with tmr := g.tmr.set! (i.toNat % 2) ⟨v.toNat, i.getLsbD 1, v != 0#32⟩ }).gNext n 1

/-- SEV (R318): the cores in the mask; an absent or switched-off channel has none. -/
def State.gSev (s : State) (n : Ch) (i : GImm) : State :=
  let s := s.forCh fun c s => if i.getLsbD c.val then s.grvEvent c 11 else s
  s.gNext n 1

/-- STOP (R319): the watchdog stays armed. -/
def State.gStop (s : State) (n : Ch) : State := (s.gNext n 1).wrs n.val [(R.GRV_STATUS_CORE, 0), (R.GRV_IRQ_STOPPED, 1)]

/-- What an instruction does (R312). -/
def State.gDo (s : State) (n : Ch) (ecc : Bool) : GOp → State
  | .nop => s.gNext n 1
  | .stop => s.gStop n
  | .ret => s.gRet n
  | .alu o rd ra rb => s.gAlu n o rd ra rb
  | .un o rd ra => s.gUn n o rd ra
  | .immOp o rd ra i => s.gImm n o rd ra i
  | .acc o rd ra i => s.gAcc n o rd ra i ecc
  | .cmp ra rb => s.gCmp n (s.gv n ra) (s.gv n rb)
  | .fcmp ra rb => s.gFcmp n (s.gv n ra) (s.gv n rb)
  | .cmpi ra i => s.gCmp n (s.gv n ra) (i.signExtend 32)
  | .tset ra i => s.gTset n (s.gv n ra) i
  | .msg rd ra rb len => s.gMsg n rd ra rb (len.toNat + 1) ecc
  | .lui rd i => (s.setG n rd (i ++ 0#16)).gNext n 1
  | .b c t => if gCond (s.grv n) c then (s.gTo n t.toNat).gTake n 2 else s.gNext n 1
  | .call t => s.gCall n t
  | .jr ra => (s.gTo n ((s.gv n ra).toNat % 2 ^ 14)).gTake n 2
  | .wfe rd i => s.gWfe n rd i
  | .kick ra => s.gKick n ((s.gv n ra).toNat % 256)
  | .sev i => s.gSev n i

/-- A core issues the instruction `op`: it is in RUNNING, not frozen, and the word at PC spells `op` (R308, R319, R330; log 64). A breakpoint at
PC freezes the core before it (R330). -/
def State.issue (s : State) (n : Ch) (ecc : Bool) (op : GOp) : Host.Outcome State Fault Refusal :=
  .next (s.whenCh n fun s =>
    if s.core n = 1 ∧ s.frozen n = false ∧ gDecode (s.gFetch n) = some op then
      if s.breaks n then s.freeze n else s.gDo n ecc op
    else s)

/-- NOP (R312). -/
def execNop (n : Ch) (s : State) : Host.Outcome State Fault Refusal := s.issue n false .nop

/-- ADD (R310, R312). -/
def execAdd (n : Ch) (rd ra rb : BitVec 4) (s : State) : Host.Outcome State Fault Refusal := s.issue n false (.alu .add rd ra rb)

/-- SUB (R310, R312). -/
def execSub (n : Ch) (rd ra rb : BitVec 4) (s : State) : Host.Outcome State Fault Refusal := s.issue n false (.alu .sub rd ra rb)

/-- AND (R312). -/
def execAnd (n : Ch) (rd ra rb : BitVec 4) (s : State) : Host.Outcome State Fault Refusal := s.issue n false (.alu .and rd ra rb)

/-- OR (R312). -/
def execOr (n : Ch) (rd ra rb : BitVec 4) (s : State) : Host.Outcome State Fault Refusal := s.issue n false (.alu .or rd ra rb)

/-- XOR (R312). -/
def execXor (n : Ch) (rd ra rb : BitVec 4) (s : State) : Host.Outcome State Fault Refusal := s.issue n false (.alu .xor rd ra rb)

/-- SHL (R312). -/
def execShl (n : Ch) (rd ra rb : BitVec 4) (s : State) : Host.Outcome State Fault Refusal := s.issue n false (.alu .shl rd ra rb)

/-- SHR (R312). -/
def execShr (n : Ch) (rd ra rb : BitVec 4) (s : State) : Host.Outcome State Fault Refusal := s.issue n false (.alu .shr rd ra rb)

/-- SAR (R312). -/
def execSar (n : Ch) (rd ra rb : BitVec 4) (s : State) : Host.Outcome State Fault Refusal := s.issue n false (.alu .sar rd ra rb)

/-- MUL (R312). -/
def execMul (n : Ch) (rd ra rb : BitVec 4) (s : State) : Host.Outcome State Fault Refusal := s.issue n false (.alu .mul rd ra rb)

/-- MIN (R312). -/
def execMin (n : Ch) (rd ra rb : BitVec 4) (s : State) : Host.Outcome State Fault Refusal := s.issue n false (.alu .min rd ra rb)

/-- MAX (R312). -/
def execMax (n : Ch) (rd ra rb : BitVec 4) (s : State) : Host.Outcome State Fault Refusal := s.issue n false (.alu .max rd ra rb)

/-- FADD (R311, R312). -/
def execFadd (n : Ch) (rd ra rb : BitVec 4) (s : State) : Host.Outcome State Fault Refusal := s.issue n false (.alu .fadd rd ra rb)

/-- FSUB (R311, R312). -/
def execFsub (n : Ch) (rd ra rb : BitVec 4) (s : State) : Host.Outcome State Fault Refusal := s.issue n false (.alu .fsub rd ra rb)

/-- FMUL (R311, R312). -/
def execFmul (n : Ch) (rd ra rb : BitVec 4) (s : State) : Host.Outcome State Fault Refusal := s.issue n false (.alu .fmul rd ra rb)

/-- FDIV (R311, R312). -/
def execFdiv (n : Ch) (rd ra rb : BitVec 4) (s : State) : Host.Outcome State Fault Refusal := s.issue n false (.alu .fdiv rd ra rb)

/-- FMIN (R311, R312). -/
def execFmin (n : Ch) (rd ra rb : BitVec 4) (s : State) : Host.Outcome State Fault Refusal := s.issue n false (.alu .fmin rd ra rb)

/-- FMAX (R311, R312). -/
def execFmax (n : Ch) (rd ra rb : BitVec 4) (s : State) : Host.Outcome State Fault Refusal := s.issue n false (.alu .fmax rd ra rb)

/-- FCLAMP (R311, R312). -/
def execFclamp (n : Ch) (rd ra rb : BitVec 4) (s : State) : Host.Outcome State Fault Refusal := s.issue n false (.alu .fclamp rd ra rb)

/-- CMP (R310, R312). -/
def execCmp (n : Ch) (ra rb : BitVec 4) (s : State) : Host.Outcome State Fault Refusal := s.issue n false (.cmp ra rb)

/-- ADDI (R312). -/
def execAddi (n : Ch) (rd ra : BitVec 4) (i : BitVec 18) (s : State) : Host.Outcome State Fault Refusal := s.issue n false (.immOp .addi rd ra i)

/-- ANDI (R312). -/
def execAndi (n : Ch) (rd ra : BitVec 4) (i : BitVec 18) (s : State) : Host.Outcome State Fault Refusal := s.issue n false (.immOp .andi rd ra i)

/-- ORI (R312). -/
def execOri (n : Ch) (rd ra : BitVec 4) (i : BitVec 18) (s : State) : Host.Outcome State Fault Refusal := s.issue n false (.immOp .ori rd ra i)

/-- XORI (R312). -/
def execXori (n : Ch) (rd ra : BitVec 4) (i : BitVec 18) (s : State) : Host.Outcome State Fault Refusal := s.issue n false (.immOp .xori rd ra i)

/-- SHLI (R312). -/
def execShli (n : Ch) (rd ra : BitVec 4) (i : BitVec 18) (s : State) : Host.Outcome State Fault Refusal := s.issue n false (.immOp .shli rd ra i)

/-- SHRI (R312). -/
def execShri (n : Ch) (rd ra : BitVec 4) (i : BitVec 18) (s : State) : Host.Outcome State Fault Refusal := s.issue n false (.immOp .shri rd ra i)

/-- SARI (R312). -/
def execSari (n : Ch) (rd ra : BitVec 4) (i : BitVec 18) (s : State) : Host.Outcome State Fault Refusal := s.issue n false (.immOp .sari rd ra i)

/-- CMPI (R310, R312). -/
def execCmpi (n : Ch) (ra : BitVec 4) (i : BitVec 18) (s : State) : Host.Outcome State Fault Refusal := s.issue n false (.cmpi ra i)

/-- LUI (R312). -/
def execLui (n : Ch) (rd : BitVec 4) (i : BitVec 16) (s : State) : Host.Outcome State Fault Refusal := s.issue n false (.lui rd i)

/-- FCMP (R310). -/
def execFcmp (n : Ch) (ra rb : BitVec 4) (s : State) : Host.Outcome State Fault Refusal := s.issue n false (.fcmp ra rb)

/-- FSQRT (R311, R312). -/
def execFsqrt (n : Ch) (rd ra : BitVec 4) (s : State) : Host.Outcome State Fault Refusal := s.issue n false (.un .fsqrt rd ra)

/-- FABS (R311, R312). -/
def execFabs (n : Ch) (rd ra : BitVec 4) (s : State) : Host.Outcome State Fault Refusal := s.issue n false (.un .fabs rd ra)

/-- FNEG (R311, R312). -/
def execFneg (n : Ch) (rd ra : BitVec 4) (s : State) : Host.Outcome State Fault Refusal := s.issue n false (.un .fneg rd ra)

/-- ITOF (R311, R312). -/
def execItof (n : Ch) (rd ra : BitVec 4) (s : State) : Host.Outcome State Fault Refusal := s.issue n false (.un .itof rd ra)

/-- FTOI (R311, R312). -/
def execFtoi (n : Ch) (rd ra : BitVec 4) (s : State) : Host.Outcome State Fault Refusal := s.issue n false (.un .ftoi rd ra)

/-- JPOST (R326). -/
def execJpost (n : Ch) (rd ra : BitVec 4) (i : BitVec 18) (ecc : Bool) (s : State) : Host.Outcome State Fault Refusal := s.issue n ecc (.acc .jpost rd ra i)

/-- LD (R313, R322). -/
def execLd (n : Ch) (rd ra : BitVec 4) (i : BitVec 18) (ecc : Bool) (s : State) : Host.Outcome State Fault Refusal := s.issue n ecc (.acc .ld rd ra i)

/-- ST (R313). -/
def execSt (n : Ch) (rd ra : BitVec 4) (i : BitVec 18) (s : State) : Host.Outcome State Fault Refusal := s.issue n false (.acc .st rd ra i)

/-- NRD (R313, R315). -/
def execNrd (n : Ch) (rd ra : BitVec 4) (i : BitVec 18) (s : State) : Host.Outcome State Fault Refusal := s.issue n false (.acc .nrd rd ra i)

/-- NWR (R313, R315). -/
def execNwr (n : Ch) (rd ra : BitVec 4) (i : BitVec 18) (s : State) : Host.Outcome State Fault Refusal := s.issue n false (.acc .nwr rd ra i)

/-- CRD (R313, R314). -/
def execCrd (n : Ch) (rd ra : BitVec 4) (i : BitVec 18) (s : State) : Host.Outcome State Fault Refusal := s.issue n false (.acc .crd rd ra i)

/-- CWR (R313, R314). -/
def execCwr (n : Ch) (rd ra : BitVec 4) (i : BitVec 18) (s : State) : Host.Outcome State Fault Refusal := s.issue n false (.acc .cwr rd ra i)

/-- BRD (R313). -/
def execBrd (n : Ch) (rd ra : BitVec 4) (i : BitVec 18) (s : State) : Host.Outcome State Fault Refusal := s.issue n false (.acc .brd rd ra i)

/-- BWR (R313). -/
def execBwr (n : Ch) (rd ra : BitVec 4) (i : BitVec 18) (s : State) : Host.Outcome State Fault Refusal := s.issue n false (.acc .bwr rd ra i)

/-- TSET (R318). -/
def execTset (n : Ch) (ra : BitVec 4) (i : BitVec 18) (s : State) : Host.Outcome State Fault Refusal := s.issue n false (.tset ra i)

/-- MSG (R324). -/
def execMsg (n : Ch) (rd ra rb : BitVec 4) (len : BitVec 6) (ecc : Bool) (s : State) : Host.Outcome State Fault Refusal := s.issue n ecc (.msg rd ra rb len)

/-- B (R309). -/
def execB (n : Ch) (cond : BitVec 4) (t : BitVec 14) (s : State) : Host.Outcome State Fault Refusal := s.issue n false (.b cond t)

/-- CALL (R312, R322). -/
def execCall (n : Ch) (t : BitVec 14) (s : State) : Host.Outcome State Fault Refusal := s.issue n false (.call t)

/-- RET (R312, R322). -/
def execRet (n : Ch) (s : State) : Host.Outcome State Fault Refusal := s.issue n false .ret

/-- JR (R312). -/
def execJr (n : Ch) (ra : BitVec 4) (s : State) : Host.Outcome State Fault Refusal := s.issue n false (.jr ra)

/-- WFE (R316). -/
def execWfe (n : Ch) (rd : BitVec 4) (i : BitVec 18) (s : State) : Host.Outcome State Fault Refusal := s.issue n false (.wfe rd i)

/-- KICK (R321). -/
def execKick (n : Ch) (ra : BitVec 4) (s : State) : Host.Outcome State Fault Refusal := s.issue n false (.kick ra)

/-- SEV (R312, R318). -/
def execSev (n : Ch) (i : BitVec 18) (s : State) : Host.Outcome State Fault Refusal := s.issue n false (.sev i)

/-- STOP (R319). -/
def execStop (n : Ch) (s : State) : Host.Outcome State Fault Refusal := s.issue n false .stop

/-! ### Debug step and register writes -/

/-- One instruction of the frozen core `n`, which freezes again (R330): its watchdog interval does not run on. `fe` and `de`: its fetch, or the data
RAM read it makes, meets an uncorrectable error (log 172). In WAITING the step completes a WFE for which an event is pending. -/
def State.gStep (fe de : Bool) (n : Ch) (s : State) : State :=
  if !s.frozen n then s
  else if s.core n = 1 then
    let s := s.thaw n
    let s := if fe then s.gFetchEcc n
      else match gDecode (s.gFetch n) with
      | some op => s.gDo n de op
      | none => s.gExc n 1
    s.freeze n
  else if s.core n = 2 ∧ s.rd R.GRV_EVT_PEND n.val &&& ((s.grv n).wfe.map (·.2)).getD 0 ≠ 0 then
    ((s.wfeEnd n).wr R.GRV_STATUS_CORE n.val 1).modGrv n fun g => { g with busy := 2 }
  else s

/-- DBG_STEP (R330). -/
def execDbgStep (fe de : Bool) (s : State) : Host.Outcome State Fault Refusal := .next (s.whenDbg (State.gStep fe de))

/-- A write of `w` at `a` by master `m`. -/
def State.busWrite (s : State) (m a : Nat) (w : Word) : State := s.busWriteWith (fun s => s.act (execDbgStep false false)) m a w

/-- REGISTER_WRITE (R89): master `m` of R98 writes `w` at byte address `a`. -/
def execRegisterWrite (m : Fin 8) (a : BitVec 24) (w : BitVec 32) (s : State) : Host.Outcome State Fault Refusal :=
  .next (s.busWrite m.val a.toNat w)

/-- PAGE_LOCK (R92): the host locks page `p`. -/
def execPageLock (p : BitVec 8) (s : State) : Host.Outcome State Fault Refusal := .next (s.busWrite 0 (p.toNat * 256 + 0x1C) 1#32)

end Sys2Proof.Machine
end

