-- ==== Sys2Proof/Machine/Jobs.lean ====
section
/-! DEFINITION. What the jobs do: dispatch, suspend points, cancel, completion, failure (R337 to R341 and the chapters of R339). -/

namespace Sys2Proof.Machine

/-! ### Dispatch -/

/-- The domain of a job's resource, `none` where it lies in CORE (R339). -/
def Job.dom (j : Job) : Option Nat := if j.typ ≤ jTrace then some j.tgt else if j.typ = jBert then some dLink else none

/-- F32: finite and above 0. -/
def f32Pos (w : Word) : Bool := f32IsFinite w && f32Lt 0#32 w

/-- The quantities an IDENT measures (R341). -/
def Job.mask (j : Job) : Nat := (j.par 2).toNat % 64

/-- IDENT quantity `q` is selected, or held in the running registers (R341). -/
def State.identHas (s : State) (j : Job) (q : Nat) : Bool :=
  j.mask.testBit q ||
    (match q with
     | 0 => f32Pos (s.runw R.OBS_RS j.tgt)
     | 1 => f32Pos (s.runw R.LOOP_LD j.tgt)
     | 2 => f32Pos (s.runw R.LOOP_LQ j.tgt)
     | _ => f32Pos (s.runw R.LOOP_PSI j.tgt))

/-- The needs of the selected quantities are met (R341, log 65). -/
def State.identNeeds (s : State) (j : Job) : Bool :=
  let m := j.mask
  (!m.testBit 3 || (s.identHas j 0 && s.identHas j 1)) &&
    (!(m.testBit 4 || m.testBit 5) || (s.identHas j 0 && s.identHas j 1 && s.identHas j 2 && s.identHas j 3))

/-- DIAG.CFG is in range (R192). -/
def State.diagCfgOk (s : State) (n : Nat) : Bool :=
  decide (1 ≤ s.rd R.DIAG_CFG_LMIN n) && decide (1 ≤ s.rd R.DIAG_CFG_IMIN n) && decide (5 ≤ s.rd R.DIAG_CFG_PULSE_T n) &&
    decide (s.rd R.DIAG_CFG_PULSE_T n ≤ 200) && decide (1 ≤ s.rd R.DIAG_CFG_GC_TARGET n)

/-- The channel of a target is in IDLE. -/
def State.idleCh (s : State) (n : Nat) : Bool := if h : n < 4 then s.chState ⟨n, h⟩ == .idle else false

/-- HOME_CFG and HOME_I are in range (R303). -/
def State.homeCfgOk (s : State) (n : Nat) : Bool :=
  decide (1 ≤ s.rd R.SPT_HOME_TMAX n) && decide (1 ≤ s.rd R.SPT_HOME_SECTOR n) && decide (s.rd R.SPT_HOME_SECTOR n ≤ 6) &&
    decide (s.rd R.SPT_HOME_EVENT n < 4) && f32Pos (s.rdw R.SPT_HOME_I n)

/-- TRACE_CAPTURE (R348): the configuration is in range, PRE and POST fit. -/
def State.trcCfgOk (s : State) (n : Ch) : Bool :=
  let i := n.val
  let src := s.rd R.TRC_TRIG_SRC i
  decide (s.rd R.TRC_CFG_DST i ≤ 2) && decide (src ≤ 7) && (src != 2 || decide (s.rd R.TRC_TRIG_COND i ≤ 1)) &&
    (s.on R.TRC_CFG_MODE i || (decide (1 ≤ s.rd R.TRC_CAP_POST i) && decide (s.rd R.TRC_CAP_PRE i + s.rd R.TRC_CAP_POST i ≤ s.trcC n)))

/-- An armed stand channel of this device routes Stand traffic through port `p` (R339). -/
def State.standVia (s : State) (p : Nat) : Bool :=
  chans.any fun n =>
    s.isArmed n &&
      (let g := s.run R.CH_MODE_GANG n.val
       (decide (g = 1) && (s.mbrDevs n).any fun d => s.nodeId != some d && s.routeEntry d == p) ||
         (decide (g = 2) && s.nodeId != some (s.run R.GANG_CFG_LEADER n.val) && s.routeEntry (s.run R.GANG_CFG_LEADER n.val) == p))

/-- Why a job fails at dispatch, 0 where it does not (R339, R341, R348, R405). OTP_PROGRAM is tested on its own. -/
def State.jobPrecond (s : State) (j : Job) : Nat :=
  if (match j.dom with | some d => !s.domOn d | none => false) then cResource
  else if h : j.tgt < 4 then
    let n : Ch := ⟨j.tgt, h⟩
    match j.typ with
    | 1 =>
      let v := vseqCodes (s.run R.ADC_VSEQ_SLOT j.tgt)
      if !s.idleCh j.tgt || !(v.contains 0 && v.contains 1 && v.contains 2 && v.contains 3) then cPrecond
      else if !(f32Pos (j.par 0) && f32Le (j.par 0) (s.runw R.LOOP_ILIM j.tgt) && f32Pos (j.par 1) && s.identNeeds j) then cParam
      else 0
    | 2 => if !s.idleCh j.tgt then cPrecond else if !s.diagCfgOk j.tgt then cParam else 0
    | 3 => if !s.idleCh j.tgt then cPrecond else 0
    | 4 =>
      if !s.idleCh j.tgt || s.word (R.DIAG_RESULT_VALID.addr j.tgt) != 0x80000000#32 then cPrecond
      else if !s.diagCfgOk j.tgt then cParam else 0
    | 5 =>
      let t := s.run R.CH_MODE_TARGET j.tgt
      if s.chState n != .running || !(t == 3 || t == 4) || f32IsZero (s.rdw R.SPT_HOME_W j.tgt) then cPrecond
      else if !s.homeCfgOk j.tgt then cParam else 0
    | 6 =>
      if !s.domOn dTrace then cPrecond
      else if !s.trcCfgOk n then cParam
      else if s.rd R.TRC_CFG_DST j.tgt ≠ 0 ∧ (s.on R.TRCR_DEST_EN 0 && s.domOn dLink) = false then cPrecond
      else 0
    | 8 => if s.isRoot then 0 else cPrecond
    | 9 =>
      if !s.portActive j.tgt || s.standVia j.tgt then cPrecond
      else if (j.par 0).toNat % 4 = 3 ∨ (j.par 1).toNat % 65536 = 0 then cParam else 0
    | _ => 0
  else if j.typ = jReenum then (if s.isRoot then 0 else cPrecond)
  else 0

/-- The words a job copies from `a` through the Lodge's reach (R504). -/
def State.lodgeCopy (s : State) (a : Nat) : Nat → List Word × State
  | 0 => ([], s)
  | k + 1 =>
    let (w, s) := s.busRead 1 a
    let (l, s) := s.lodgeCopy (a + 4) k
    (w :: l, s)

/-- OTP_PROGRAM at its dispatch (R504, R505): the source is copied, then the checks are made; RUNNING asks for PD_OTPW (R339). A job dispatched during
standby entry still queues that switch-on, and entry serves it: the model's choice (log 107). -/
def State.otpDispatch (s : State) (k : Fin 16) (cold : Bool) : State :=
  let j := s.job k
  let w1 := j.par 0
  let n := if otpOp w1 = 1 then 8 * otpCount w1 else if otpOp w1 = 5 then 1 else 0
  let (l, s) := s.lodgeCopy ((j.par 1).toNat % 2 ^ 24) n
  let s := { s with otp.src := l }
  let c := s.otpRefusal j.params cold
  if c ≠ 0 then (s.setJob k { j with detail := c }).jobEnd k .failed cDetail
  else { s.setJob k (j.enter s.now .running) with pwrQ := s.pwrQ ++ [(dOtpw, true, true)] }

/-- What entering RUNNING does for each job. -/
def State.jobEntered (s : State) (j : Job) : State :=
  if j.typ = jDiag then
    s.onTarget j.tgt fun n s =>
      (s.wrs j.tgt [(R.DIAG_RESULT_VALID, 0), (R.DIAG_STATUS_BUSY, 1), (R.DIAG_STATUS_STEP, 1)]).modCh n fun c => { c with diag := Diag.reset }
  else if j.typ = jSelftest then
    s.wrs j.tgt [(R.CMP_SELFTEST_VALID, 0), (R.CMP_SELFTEST_FAIL, 0), (R.CMP_STATUS_SELFTEST_BUSY, 1)]
  else if j.typ = jGateChar then
    s.onTarget j.tgt fun n s =>
      (s.wr R.DIAG_STATUS_BUSY j.tgt 1).modCh n fun c => { c with diag := { Diag.reset with pulse := some s.now } }
  else if j.typ = jHoming then
    s.onTarget j.tgt fun n s =>
      ((s.wr R.SPT_STATUS_HOMING j.tgt 1).modCh n fun c => { c with homeRun := true, homeSeen := false }).modSpt n fun t =>
        { t with homeCap := false, homeRest := false, homeN := 0 }
  else if j.typ = jTrace then s.onTarget j.tgt fun n s => s.trcStart n (s.ch n).eng.next
  else if j.typ = jReenum then
    let w := (j.par 0).toNat
    let s := if w.testBit 0 then s.forget else s
    (s.enumBegin (.full (w.testBit 1) true)).enumPump
  else if j.typ = jBert then
    s.onTarget j.tgt fun p s =>
      (s.wrs j.tgt [(R.LNK_BERT_CHK_LO_CHK, 0), (R.LNK_BERT_CHK_HI_CHK, 0), (R.LNK_BERT_ERR_ERR, 0)]).modLp p fun l =>
        { l with bert := true, bertAt := s.now }
  else s

/-- The resource of a queued job is free, and no job queued on it earlier (R333, R337); the enumeration resource serves the root's own walk
too (R437). -/
def State.jobNext (s : State) (k : Fin 16) : Bool :=
  let j := s.job k
  j.st == .queued && (s.holder j.resource).isNone && (j.typ != jReenum || !s.on R.FAB_STATUS_ENUM_BUSY 0) &&
    s.jobs.toList.all fun q => !(q.st == .queued && decide (q.resource = j.resource) && decide (q.seq < j.seq))

/-- JOB_DISPATCH (R337) of slot `k`; `cold`: the core temperature lies outside −20 °C to +110 °C (R505). -/
def execJobDispatch (k : Fin 16) (cold : Bool) (s : State) : Host.Outcome State Fault Refusal :=
  .next (if !s.jobNext k then s
    else
      let j := s.job k
      if j.typ = jOtp then (s.otpDispatch k cold).settleAll
      else
        let c := s.jobPrecond j
        if c ≠ 0 then (s.jobEnd k .failed c).settleAll
        else ((s.setJob k (j.enter s.now .running)).jobEntered j).settleAll)

/-! ### Results -/

/-- The quantity an IDENT measures next: the first selected one of the table that is not complete, 6 where none is left (R341). -/
def Job.quantity (j : Job) : Nat := ((List.range 6).find? fun q => j.mask.testBit q && !j.detail.testBit q).getD 6

/-- The steps of a quantity (R341): two currents; ten square-wave steps on d and on q; ramp and hold; acceleration and braking; two speeds and
braking. -/
def identSteps (q : Nat) : Nat := [2, 10, 10, 2, 2, 3].getD q 0

/-- The steps of the quantities of a mask. -/
def maskSteps (m : Nat) : Nat := ((List.range 6).filter fun q => m.testBit q).foldl (fun a q => a + identSteps q) 0

/-- A value that an IDENT has measured, or that the running registers hold (R341): RS, LD, LQ, PSI. -/
def State.identVal (s : State) (j : Job) (q : Nat) : Word :=
  if j.detail.testBit q then j.vals.getD q 0#32
  else match q with
    | 0 => s.runw R.OBS_RS j.tgt
    | 1 => s.runw R.LOOP_LD j.tgt
    | 2 => s.runw R.LOOP_LQ j.tgt
    | _ => s.runw R.LOOP_PSI j.tgt

/-- The result of quantity `q` from what its steps have measured (R341, log 99): of the currents (v_d, i_d) each, RS is Δv_d / Δi_d; ten steps
give an inductance, the last one holds; of the hold (v_q, i_q, i_d, ω), PSI; of the acceleration (dω/dt, friction current), JKT at I_T; of the two
speeds (i_q, ω) each, the slope. -/
def State.identResult (s : State) (j : Job) (q : Nat) (m : List Word) : Word :=
  let x (k : Nat) : Word := m.getD k 0#32
  match q with
  | 0 => f32Div (f32Sub (x 2) (x 0)) (f32Sub (x 3) (x 1))
  | 1 => x 9
  | 2 => x 9
  | 3 =>
    let v := f32Sub (f32Sub (x 0) (f32Mul (s.identVal j 0) (x 1))) (f32Mul (f32Mul (x 3) (s.identVal j 1)) (x 2))
    f32Div v (x 3)
  | 4 => f32Div (f32Sub (j.par 0) (x 1)) (x 0)
  | _ => f32Div (f32Sub (x 2) (x 0)) (f32Sub (x 3) (x 1))

/-- The words that a step of quantity `q` measures (R341): none in the ramp of PSI and while braking. -/
def identWords (q step : Nat) : Nat :=
  match q with
  | 0 => 2
  | 1 => 1
  | 2 => 1
  | 3 => if step = 0 then 0 else 4
  | 4 => if step = 0 then 2 else 0
  | _ => if step < 2 then 2 else 0

/-- PROGRESS of an IDENT: its steps done (R342). -/
def Job.identPct (j : Job) : Nat := (maskSteps j.detail + j.work) * 100 / max 1 (maskSteps j.mask)

/-- A step of an IDENT ends with what it has measured (R341). After the last step of a quantity its result stands; one that is not finite and
positive ends the job. -/
def State.identStep (s : State) (k : Fin 16) (m : List Word) : State × Bool :=
  let j := s.job k
  let q := j.quantity
  let w := (List.range (identWords q j.work)).map fun i => m.getD i 0#32
  let j := { j with work := j.work + 1, meas := j.meas ++ w, ended := true }
  if j.work < identSteps q then (s.setJob k { j with progress := j.identPct }, true)
  else
    let v := s.identResult j q j.meas
    if f32Pos v then
      let j := { j with
        vals := (j.vals ++ List.replicate (6 - j.vals.length) 0#32).set q v
        detail := j.detail + 2 ^ q
        work := 0
        meas := [] }
      (s.setJob k { j with progress := j.identPct }, true)
    else (s.setJob k j, false)

/-- Part of an IDENT's work ends (R340, R341): the rest after a resume, once VPA, VPB and VPC have read below 1.0 V for 10 ms, or a step. With every
selected quantity complete the job is DONE. -/
def State.identWork (s : State) (k : Fin 16) (m : List Word) : State :=
  let j := s.job k
  if j.resting then (if (m.take 3).length = 3 ∧ (m.take 3).all (fun v => f32Lt v f32One) then s.setJob k { j with resting := false } else s)
  else if j.quantity = 6 then (if j.st = .running then s.jobEnd k .done 0 else s)
  else if j.st = .suspending ∧ j.ended = true then s
  else
    let (s, ok) := s.identStep k m
    if !ok then s.jobFail k cMeasure
    else if (s.job k).quantity = 6 ∧ (s.job k).st = .running then s.jobEnd k .done 0 else s

/-- The counters of a LINK_BERT are kept (R340, R405). -/
def State.jobKeep (s : State) (k : Fin 16) (m : List Word) : State :=
  if (s.job k).typ = jBert then s.bertCounts (s.job k).tgt m else s

/-- The results of DIAG_OFFSTATE (R188, R192): CHAN, the pair codes, OPEN, and three inductances; the job is done. An ending with MOVING or
VBUS_LOW has no pair codes: PAIRS and OPEN are then written 0, of which the manual says nothing (log 100). While SUSPENDING the step only ends: the
job starts anew after a resume (R337, R340). -/
def State.diagPut (s : State) (k : Fin 16) (n : Ch) (chan pairs opn : Nat) (l : List Word) : State :=
  if (s.job k).st = .suspending then s.setJob k { s.job k with ended := true }
  else
  let d := (s.ch n).diag
  let s := s.wrs n.val [(R.DIAG_RESULT_CHAN, chan), (R.DIAG_RESULT_PAIRS, pairs), (R.DIAG_RESULT_OPEN, opn), (R.DIAG_RESULT_SHORT_GND, d.gnd),
    (R.DIAG_RESULT_SHORT_SUP, d.sup), (R.DIAG_L_AB_L, (l.getD 0 0#32).toNat), (R.DIAG_L_BC_L, (l.getD 1 0#32).toNat),
    (R.DIAG_L_CA_L, (l.getD 2 0#32).toNat), (R.DIAG_RESULT_VALID, 1)]
  (s.diagStop n).jobEnd k .done 0

/-- The codes of the three pulse pairs and the inductances (R188). -/
def State.diagPairs (s : State) (k : Fin 16) (n : Ch) : State :=
  let i := n.val
  let d := (s.ch n).diag
  let cur (p : Nat) : Word := d.cur.getD p 0#32
  let ind (p : Nat) : Word := f32Div (f32Mul d.vbus (f32OfRat (s.rd R.DIAG_CFG_PULSE_T i) 10000000)) (cur p)
  let code (p : Nat) : Nat :=
    if f32Lt (cur p) (f32OfRat (s.rd R.DIAG_CFG_IMIN i) 100) then 1
    else if f32Lt (ind p) (f32OfRat (s.rd R.DIAG_CFG_LMIN i) 1000000) || d.trips.getLsbD p then 2
    else 0
  let opn := bitsOf 3 fun x => code x == 1 && code ((x + 2) % 3) == 1 && code ((x + 1) % 3) == 0
  s.diagPut k n 0 (code 0 + 4 * code 1 + 16 * code 2) opn ((List.range 3).map fun p => if code p = 1 then 0#32 else ind p)

/-- The step of R187 that part `w` of the timeline belongs to. -/
def diagStep (w : Nat) : Nat := [1, 2, 3, 4, 4, 4, 5, 6, 6, 6].getD w 7

/-- Part `w` + 1 of the timeline begins; the end of a step is noted for a SUSPEND that waits for it (R340). -/
def State.diagNext (s : State) (k : Fin 16) (n : Ch) : State :=
  let j := s.job k
  let w := j.work + 1
  (s.setJob k { j with work := w, progress := w * 10, ended := j.ended || decide (diagStep w ≠ diagStep j.work) }).wr R.DIAG_STATUS_STEP n.val
    (diagStep w)

/-- The difference between the largest and the smallest of a list of readings. -/
def spread (l : List Word) : Word :=
  match l with
  | [] => 0#32
  | a :: l => f32Sub (l.foldl f32Max a) (l.foldl f32Min a)

/-- One part of the timeline of DIAG_OFFSTATE ends, with what it read as F32 words (R187, R188): VBUSn; 16 readings each of VPA, VPB, VPC;
VBUSn and VPA to VPC under the sinks; VP of the phase with the source; nothing for the pre-charge; the current at the end of a pulse. -/
def State.diagWork (s : State) (k : Fin 16) (n : Ch) (m : List Word) : State :=
  let v (x : Nat) : Word := m.getD x 0#32
  let d := (s.ch n).diag
  let put (g : Diag → Diag) : State := s.modCh n fun c => { c with diag := g c.diag }
  let pulse (s : State) : State := s.modCh n fun c => { c with diag.pulse := some s.now }
  match (s.job k).work with
  | 0 => if f32Lt (v 0) (f32OfNat 6) then s.diagPut k n 2 0 0 [] else (put fun d => { d with vbus := v 0 }).diagNext k n
  | 1 =>
    if [m.take 16, (m.drop 16).take 16, (m.drop 32).take 16].any fun l => f32Lt f32One (spread l) then s.diagPut k n 1 0 0 []
    else s.diagNext k n
  | 2 =>
    (put fun d => { d with vbus := v 0, sup := bitsOf 3 fun x => f32Lt (f32Mul f32Half (v 0)) (v (1 + x)) }).diagNext k n
  | 6 =>
    if d.sup ≠ 0 ∨ d.gnd ≠ 0 then s.diagPut k n 0 0x3F 0 []
    else if 0 < (s.ch n).car.prePulses ∨ 0 < (s.ch n).car.preLeft then s
    else pulse (s.diagNext k n)
  | 7 => pulse ((put fun d => { d with cur := [v 0] }).diagNext k n)
  | 8 => pulse ((put fun d => { d with cur := d.cur ++ [v 0] }).diagNext k n)
  | 9 => (put fun d => { d with cur := d.cur ++ [v 0] }).diagPairs k n
  | w =>
    let s := put fun d => { d with gnd := d.gnd + (if f32Lt (v 0) f32One then 2 ^ (w - 3) else 0) }
    let s := s.diagNext k n
    if w = 5 ∧ d.sup = 0 ∧ (s.ch n).diag.gnd = 0 then s.modCh n fun c => { c with car.prePulses := 5 } else s

/-- The nominal currents of the codes, in mA (R169). -/
def srcMilli : List Nat := [20, 40, 60, 80, 100, 130, 170, 220, 290, 380, 500, 650, 850, 1050, 1250, 1500]
def snkMilli : List Nat := srcMilli.map (2 * ·)

/-- The proposal of R189 for a Miller time of `t` units of 2.5 ns and a target of `gc` codes of 5 ns: the smallest code whose current reaches
I4·t over the target, at most the cap. -/
def gcProposal (l : List Nat) (t gc cap : Nat) : Nat :=
  min (((List.range 16).find? fun c => decide (l.getD 4 0 * t ≤ l.getD c 0 * (2 * gc))).getD 15) cap

/-- A list in rising order. -/
def sortNat : List Nat → List Nat
  | [] => []
  | a :: l => (sortNat l).takeWhile (· < a) ++ a :: (sortNat l).dropWhile (· < a)

/-- The median of four times: between the two middle ones it is free (R189, log 158). -/
def medianOf (l : List Nat) (free : Nat) : Nat :=
  let s := sortNat l
  let a := s.getD 1 0
  let b := s.getD 2 0
  a + free % (b - a + 1)

/-- The results of GATE_CHAR (R189) from the 24 edges of each kind, four to a switch: HA, HB, HC, LA, LB, LC. -/
def State.gcResult (s : State) (n : Ch) : State :=
  let i := n.val
  let e := (s.ch n).diag.edges
  let med (f : Nat × Nat → Nat) (x k : Nat) : Nat := medianOf (((e.drop (4 * x)).take 4).map f) (Config.freeValue (s.free + k)).toNat
  let big (f : Nat × Nat → Nat) (x k : Nat) : Nat := max (med f x k) (max (med f (x + 1) (k + 1)) (med f (x + 2) (k + 2)))
  let hon := big (·.1) 0 0
  let lon := big (·.1) 3 3
  let hof := big (·.2) 0 6
  let lof := big (·.2) 3 9
  let gc := s.rd R.DIAG_CFG_GC_TARGET i
  let src (x : Nat) : Nat := gcProposal srcMilli x gc (s.gateCap false)
  let snk (x : Nat) : Nat := gcProposal snkMilli x gc (s.gateCap true)
  { s.wrs i [(R.DIAG_GC_HS_T_ON, hon), (R.DIAG_GC_HS_T_OFF, hof), (R.DIAG_GC_HS_PROP_SRC, src hon), (R.DIAG_GC_HS_PROP_SNK, snk hof),
      (R.DIAG_GC_LS_T_ON, lon), (R.DIAG_GC_LS_T_OFF, lof), (R.DIAG_GC_LS_PROP_SRC, src lon), (R.DIAG_GC_LS_PROP_SNK, snk lof)] with
    free := s.free + 12 }

/-- One pulse of GATE_CHAR ends with the Miller times of its two edges in 2.5 ns steps, turn-on and turn-off (R189), which end at what T_ON and T_OFF
can hold (log 100); after four the next switch begins, after six switches the results stand. While SUSPENDING the last switch only ends, and the
results stand once the job runs again (R337). -/
def State.gcWork (s : State) (k : Fin 16) (n : Ch) (m : List Word) : State :=
  let j := s.job k
  let t (x : Nat) : Nat := min (m.getD x 0#32).toNat 4095
  if 24 ≤ j.work then (if j.st = .running then ((s.gcResult n).diagStop n).jobEnd k .done 0 else s)
  else
    let w := j.work + 1
    let s := s.modCh n fun c =>
      { c with diag := { c.diag with edges := c.diag.edges ++ [(t 0, t 1)], pulse := if w < 24 then some s.now else none } }
    let s := s.setJob k { j with work := w, progress := w * 100 / 24, ended := j.ended || decide (w % 4 = 0) }
    if 24 ≤ w ∧ j.st = .running then ((s.gcResult n).diagStop n).jobEnd k .done 0 else s

/-! ### Suspend points, cancel, completion -/

/-- A job can reach its suspend point: HOMING at rest, FABRIC_REENUM between exchanges, IDENT, DIAG_OFFSTATE, GATE_CHAR and OTP_PROGRAM at the
end of the step, the switch or the row in progress, where one is (R340). -/
def State.suspendReady (s : State) (j : Job) : Bool :=
  if j.typ = jDiag ∨ j.typ = jGateChar then j.ended
  else if j.typ = jIdent then j.ended || j.resting || decide (j.quantity = 6)
  else if j.typ = jOtp then j.ended || decide (otpUnits (j.par 0) ≤ j.work)
  else if j.typ = jHoming then (if h : j.tgt < 4 then (s.ch ⟨j.tgt, h⟩).spt.homeRest else true)
  else if j.typ = jReenum then !(s.fab.tags.toList.any fun x => x.st == 1 && x.use == .enum)
  else true

/-- What a job switches off at its suspend point (R340). -/
def State.jobPark (s : State) (j : Job) : State :=
  if j.typ = jDiag ∨ j.typ = jGateChar then s.onTarget j.tgt fun n s => s.diagStop n
  else if j.typ = jSelftest then s.wr R.CMP_STATUS_SELFTEST_BUSY j.tgt 0
  else if j.typ = jTrace then
    s.onTarget j.tgt fun n s =>
      ((s.trcClose n).wrs j.tgt [(R.TRC_STATUS_ACTIVE, 0), (R.TRC_STATUS_STREAMING, 0)]).modCh n fun c =>
        { c with trc.force := false, trcHit := false }
  else if j.typ = jOtp then { s with pwrQ := s.pwrQ ++ [(dOtpw, false, true)] }
  else if j.typ = jBert then s.onTarget j.tgt fun p s => s.bertLeave p
  else s

/-- JOB_SUSPEND_POINT (R340): `m` holds the counters of a LINK_BERT. -/
def execJobSuspendPoint (k : Fin 16) (m : List (BitVec 32)) (s : State) : Host.Outcome State Fault Refusal :=
  .next (let j := s.job k
    if j.st == .suspending && s.suspendReady j then
      let s := (s.jobKeep k m).jobPark j
      ((s.setJob k ((s.job k).enter s.now .suspended)).orBits R.JOB_IRQ_SUSPENDED 0 (2 ^ k.val)).settleAll
    else s)

/-- JOB_CANCEL_COMPLETE (R337, R340): FAILED with CANCELLED. -/
def execJobCancelComplete (k : Fin 16) (m : List (BitVec 32)) (s : State) : Host.Outcome State Fault Refusal :=
  .next (let j := s.job k
    if j.st == .cancelling then
      let s := s.jobKeep k m
      let s := if j.typ = jBert then s.onTarget j.tgt fun p s => s.bertLeave p else s
      (s.jobFail k cCancelled).settleAll
    else s)

/-- A job's work is complete and its results are in place: DONE (R337). -/
def State.jobDone (s : State) (k : Fin 16) : State := s.jobEnd k .done 0

/-- JOB_WORK_COMPLETE (R337): `m` holds what the job has measured; IDENT, DIAG_OFFSTATE and GATE_CHAR complete one part of their work, also while
SUSPENDING up to the suspend point; the other types complete only in RUNNING. -/
def State.jobWork (s : State) (k : Fin 16) (m : List Word) : State :=
  let j := s.job k
  let i := j.tgt
  if j.typ = jIdent then s.identWork k m
  else if j.typ = jDiag then s.onTarget i fun n s => if j.ended && j.st == .suspending then s else s.diagWork k n m
  else if j.typ = jGateChar then s.onTarget i fun n s => if j.ended && j.st == .suspending then s else s.gcWork k n m
  else if j.st ≠ .running then s
  else if j.typ = jSelftest then
    if j.work = 25 then
      let s := s.wrs i [(R.CMP_SELFTEST_VALID, 1), (R.CMP_IRQ_SELFTEST_DONE, 1), (R.CMP_STATUS_SELFTEST_BUSY, 0)]
      ({ s with rng.stest := s.rng.stest.set! i s.now }.stestShow).jobDone k
    else s
  else if j.typ = jHoming then
    if h : i < 4 then
      let c := s.ch ⟨i, h⟩
      if c.spt.homeCap && c.spt.homeRest then ((s.homingStop ⟨i, h⟩).wr R.SPT_STATUS_POS_VALID i 1).jobDone k else s
    else s
  else if j.typ = jOtp then
    if j.work = otpUnits (j.par 0) then ({ s with pwrQ := s.pwrQ ++ [(dOtpw, false, true)] }).jobDone k else s
  else if j.typ = jReenum then (if s.on R.FAB_STATUS_ENUM_BUSY 0 then s else s.jobDone k)
  else if j.typ = jBert then
    s.onTarget i fun p s => if s.lst p = 6 then ((s.bertCounts i m).bertLeave p).jobDone k else s
  else s

/-- JOB_WORK_COMPLETE (R337): a job at work completes; a TRACE_CAPTURE completes in the sample that ends it (R347). -/
def execJobWorkComplete (k : Fin 16) (m : List (BitVec 32)) (s : State) : Host.Outcome State Fault Refusal :=
  .next (if (s.job k).st == .running || (s.job k).st == .suspending then (s.jobWork k m).settleAll else s)

/-- The causes with which a job fails on its own, and RES7 (R302, R341, R405, R437, R505); `none` where it has no such failure. -/
def ownFailure (typ d : Nat) : Option (Nat × Option Nat) :=
  if typ = jIdent then some (cMeasure, none)
  else if typ = jHoming then some (cTimeout, none)
  else if typ = jOtp then (if d = 5 ∨ d = 11 then some (cDetail, some d) else none)
  else if typ = jReenum then some (cDetail, some 1)
  else if typ = jBert then (if 1 ≤ d ∧ d ≤ 3 then some (cDetail, some d) else none)
  else none

/-- JOB_FAILURE (R337): `d` is RES7 where the cause is DETAIL. -/
def execJobFailure (k : Fin 16) (d : BitVec 8) (m : List (BitVec 32)) (s : State) : Host.Outcome State Fault Refusal :=
  .next (let j := s.job k
    if j.st == .running || j.st == .suspending then
      match ownFailure j.typ d.toNat with
      | some (c, r) =>
        let s := s.jobKeep k m
        let s := match r with
          | some d => s.setJob k { s.job k with detail := d }
          | none => s
        let s := if j.typ = jBert then s.onTarget j.tgt fun p s => s.bertLeave p else s
        (s.jobFail k c).settleAll
      | none => s
    else s)

/-- IDENT_REST_TIMEOUT (R340): the phase voltages have not fallen within 5 s of the resume. -/
def execIdentRestTimeout (k : Fin 16) (s : State) : Host.Outcome State Fault Refusal :=
  .next (let j := s.job k
    if (j.st == .running || j.st == .suspending) && decide (j.typ = jIdent) && j.resting then (s.jobFail k cTimeout).settleAll
    else s)

/-- CMP_SELFTEST_COMPARATOR_DONE (R206): the comparator under test is done; `pass`: it tripped and released in time. -/
def execCmpSelftestComparatorDone (n : Ch) (pass : Bool) (s : State) : Host.Outcome State Fault Refusal :=
  .next (s.whenCh n fun s =>
    match s.holder n.val with
    | none => s
    | some k =>
      let j := s.job k
      if j.typ = jSelftest ∧ (j.st = .running ∨ j.st = .suspending) ∧ j.work < 25 then
        let s := s.setJob k { j with work := j.work + 1, progress := (j.work + 1) * 4 }
        let s := s.cmpBegin n j.work
        if pass then s.settleAll
        else ((s.orBits R.CMP_SELFTEST_FAIL n.val (2 ^ j.work)).raiseCh n oSelftestFail 0).settleAll
      else s)

/-- OTP_ROW_PROGRAMMED (R506): the next row, lock copy or entry copy, after a SUSPEND or CANCEL only the one in progress (R340), which then fails
nothing under CANCELLING (R337); `ok`: it verifies; `hot`: the core temperature is out of range before it;
`got`: what a row that does not verify reads. -/
def execOtpRowProgrammed (k : Fin 16) (ok hot : Bool) (got : List (BitVec 32)) (s : State) : Host.Outcome State Fault Refusal :=
  .next (let j := s.job k
    let n := otpUnits (j.par 0)
    let leaves := j.st = .suspending ∨ j.st = .cancelling
    if j.typ = jOtp ∧ (j.st = .running ∨ (leaves ∧ j.ended = false)) ∧ j.work < n ∧ s.domOn dOtpw = true then
      if hot || !s.bit R.PWR_STATUS_GOOD 0 1 then
        (if j.st = .cancelling then s.setJob k { j with ended := true } else (s.setJob k { j with detail := 11 }).jobFail k cDetail)
      else
        let (s, done) := s.otpUnit j.params j.work ok got
        if done then s.setJob k { j with work := j.work + 1, progress := (j.work + 1) * 100 / n, ended := true }
        else if j.st = .cancelling then s.setJob k { j with ended := true }
        else (s.setJob k { j with detail := 5 }).jobFail k cDetail
    else s)

end Sys2Proof.Machine
end

