-- ==== Sys2Proof/Machine/Hspi.lean ====
section
/-! DEFINITION. The host SPI: frames, the status byte, bursts, CRC mode, frame errors, the AON responder and the wake frame (R107 to R126). -/

namespace Sys2Proof.Machine

/-! ### Check code -/

/-- `k` steps of the CRC-8 with polynomial 0x1D (R119). -/
def crc8Bits (c : BitVec 8) : Nat → BitVec 8
  | 0 => c
  | k + 1 => crc8Bits (if c.getLsbD 7 then (c <<< 1) ^^^ 0x1D#8 else c <<< 1) k

/-- The CRC-8 register after a list of bytes. -/
def crc8From (c : BitVec 8) : List (BitVec 8) → BitVec 8
  | [] => c
  | b :: l => crc8From (crc8Bits (c ^^^ b) 8) l

/-- The CRC-8 of a list of bytes: initial value and final XOR 0xFF (R119). -/
def crc8 (l : List (BitVec 8)) : BitVec 8 := ~~~ crc8From 0xFF#8 l

/-! ### Status byte and interrupt term -/

/-- STATE of the status byte: who answers (R111, R122). -/
def State.hspiState (s : State) : Nat :=
  match s.pwr.mode with
  | .standby => 0
  | .held => 1
  | .boot => 2
  | .run => 3
  | .entry => 3

/-- The interrupt term (R125); false where the AON responder answers. -/
def State.irqTerm (s : State) : Bool :=
  decide (2 ≤ s.hspiState) &&
    (decide (s.irqSum 0x44 0#32 ≠ 0#32) || decide (s.irqSum 0x48 0#32 ≠ 0#32) || decide (s.irqSum 0x4C 0#32 ≠ 0#32) ||
      (s.on R.HSPI_CTRL_BOOT_IRQ 0 && s.on R.SYS_IRQ_BOOT_DONE 0))

/-- HIRQ_N is driven low (R125): from step 17 of the boot on. -/
def State.hirqLow (s : State) : Bool := s.hspiState == 3 && s.on R.HSPI_CTRL_HIRQ_EN 0 && s.irqTerm

/-- The status byte that a frame would capture now (R111). -/
def State.hspiStatus (s : State) : BitVec 8 :=
  let b := BitVec.ofNat 8 (s.hspiState * 64 + s.hspiPrev % 16 * 4 + s.irqTerm.toNat * 2)
  if b.cpop.getLsbD 0 then b else b ||| 1#8

/-- The AON status word (R123). -/
def State.aonWord (s : State) : Word := wd (s.pwr.hold % 256 * 2 ^ 16 + s.pwr.cause % 2 ^ 11)

/-! ### Frames -/

/-- A frame as the host drives it: write or read, linear or short, the bytes on HSDI, the count of HSCK edges (R109, R110). -/
structure HFrame where
  wr : Bool
  lin : Bool
  bytes : List (BitVec 8)
  edges : Nat
deriving DecidableEq, Repr

/-- Byte `i` on HSDI; a line that nothing drives further stays low. -/
def HFrame.byte (f : HFrame) (i : Nat) : BitVec 8 := f.bytes.getD i 0#8

/-- Complete bytes; bytes of the header; bytes after it. -/
def HFrame.nb (f : HFrame) : Nat := f.edges / 8
def HFrame.hdr (f : HFrame) : Nat := if f.lin then 3 else 1
def HFrame.body (f : HFrame) : Nat := f.nb - f.hdr

/-- The word address in the header (R109). -/
def HFrame.start (f : HFrame) : Nat :=
  let h := (f.byte 0).toNat % 64
  if f.lin then h * 2 ^ 16 + (f.byte 1).toNat * 256 + (f.byte 2).toNat else h

/-- The byte address of word `k` of the burst on page `page`; none past its end (R117, R118). -/
def HFrame.addr (f : HFrame) (page k : Nat) : Option Nat :=
  if f.lin then (if f.start + k < 2 ^ 22 then some (4 * (f.start + k)) else none)
  else if f.start = 63 then (if k = 0 then some (page % 256 * 256 + 0xFC) else none)
  else if f.start + k ≤ 62 then some (page % 256 * 256 + 4 * (f.start + k)) else none

/-- Data word `k` of a write, most significant byte first (R107). -/
def HFrame.word (f : HFrame) (k : Nat) : Word :=
  let i := f.hdr + 4 * k
  f.byte i ++ f.byte (i + 1) ++ f.byte (i + 2) ++ f.byte (i + 3)

/-- Bytes before the first read word; bytes per read word (R110). -/
def HFrame.base (f : HFrame) (crc : Bool) (turn : Nat) : Nat := f.hdr + (if crc then 1 else 0) + turn
def crcStep (crc : Bool) : Nat := if crc then 5 else 4

/-- The words the frame carries: complete ones of a write, those of a read whose first bit was shifted out (R112, R115). -/
def HFrame.words (f : HFrame) (crc : Bool) (turn : Nat) : Nat :=
  if f.wr then f.body / 4
  else
    let b := 8 * f.base crc turn
    if f.edges ≤ b then 0 else (f.edges - b - 1) / (8 * crcStep crc) + 1

/-- The frame ends inside a word, the header CRC byte and the turnaround bytes taken together, or between a read word and its CRC byte (code 3 of
R116; log 163). -/
def HFrame.inside (f : HFrame) (crc : Bool) (turn : Nat) : Bool :=
  let d := f.body
  let c := if crc then 1 else 0
  if f.wr then (if crc then decide (2 ≤ d % 4) else decide (d % 4 ≠ 0))
  else (decide (0 < d) && decide (d < c + turn)) || (decide (c + turn < d) && decide ((d - c - turn) % crcStep crc ≠ 0))

/-- The code of the frame error, 0 for none; the lowest that holds (R116). -/
def HFrame.err (f : HFrame) (crc : Bool) (turn : Nat) : Nat :=
  if f.edges % 8 ≠ 0 then 1
  else if f.nb = 1 then 0
  else if f.lin && f.nb == 2 then 2
  else if f.inside crc turn then 3
  else if f.wr && crc && decide (64 < f.body / 4) then 4
  else if f.wr && crc && decide (0 < f.body) && decide (f.body % 4 ≠ 1) then 5
  else 0

/-- A CRC check of the frame fails: the header CRC byte of a read, the trailing byte of a write (R119 to R121). -/
def HFrame.crcBad (f : HFrame) (crc : Bool) : Bool :=
  crc && decide (f.hdr < f.nb) &&
    (if f.wr then decide (crc8 ((List.range (f.nb - 1)).map f.byte) ≠ f.byte (f.nb - 1))
     else decide (crc8 ((List.range f.hdr).map f.byte) ≠ f.byte f.hdr))

/-- The wake frame (R124). -/
def HFrame.isWake (f : HFrame) : Bool :=
  decide ((List.range 7).map f.byte = [0xCF#8, 0xFF#8, 0xFF#8, 0x57#8, 0x41#8, 0x4B#8, 0x45#8]) && (f.edges == 56 || f.edges == 64)

/-! ### Reads -/

/-- The message RAM of a controller, which the window from WHDR on shows (R378, R474, R478). -/
def canRam (p off : Nat) : Option (Fin 20 × Nat) :=
  if 0x54 ≤ off ∧ off ≤ 0x9C then
    (if p = 0x1C then some (16, 256 * p + off) else if p = 0x1D then some (17, 256 * p + off) else Option.none)
  else Option.none

/-- The ECC instance and the byte address of a target in SRAM (R378). -/
def Target.sram : Target → Option (Fin 20 × Nat)
  | .pram n w => some (eccRam n false, pramAddr n.val w)
  | .dram n w => some (eccRam n true, dramAddr n.val w)
  | .trace n w => some (⟨8 + n.val, by omega⟩, tramAddr n.val w)
  | .patch a => some (12, 0x380000 + a)
  | .route d => some (14, 0x340000 + 4 * d)
  | .cache a => some (15, 0x3C0000 + a)
  | .reg p off => canRam p off
  | .view p off => canRam p off
  | _ => Option.none

/-- A confirmed read in which an SRAM may meet an uncorrectable error: the word is then 0, of kind 4 in SYS.BUSERR (R97). -/
def State.busReadEcc (s : State) (m a : Nat) (ecc : Bool) : Word × State :=
  let t := targetOf a
  match t.sram with
  | some (k, x) => if ecc ∧ s.accessFail m false t = 0 then (0#32, (s.busErr 4 m a).eccUncorr k x) else s.busRead m a
  | none => s.busRead m a

/-- How word `k` of a read frame went: late (R113), with an uncorrectable error (R97). -/
structure HRead where
  out : List Word
  late : Nat
  st : State

/-- Word `k` of a read frame in state `st` of R111: AON word, boot, past the burst's end, header CRC failed, late, or from the bus. -/
def HFrame.readWord (f : HFrame) (page st : Nat) (bad : Bool) (late ecc : List Nat) (r : HRead) (k : Nat) : HRead :=
  if st < 2 then { r with out := r.out ++ [r.st.aonWord] }
  else
    match f.addr page k with
    | none => { r with out := r.out ++ [0#32] }
    | some a =>
      if bad then { r with out := r.out ++ [0#32] }
      else if late.contains k then { r with out := r.out ++ [0#32], late := r.late + 1 }
      else if st = 2 ∧ 0x100 ≤ a then { r with out := r.out ++ [0#32] }
      else
        let (w, s) := r.st.busReadEcc 0 a (ecc.contains k)
        { r with out := r.out ++ [w], st := s }

/-- The bytes of the read words on HSDO, with the CRC byte after each in CRC mode, over the status byte, the turnaround bytes and the words so
far (R110, R119). -/
def hsdoWords (crc : Bool) (covered : List (BitVec 8)) : List Word → List (BitVec 8)
  | [] => []
  | w :: l =>
    let c := covered ++ wordBe w
    wordBe w ++ (if crc then [crc8 c] else []) ++ hsdoWords crc c l

/-! ### Writes -/

/-- Word `k` of a write frame reaches the register bus, or PAGE (R86, R115, R117, R118, R124). -/
def HFrame.writeWord (f : HFrame) (page : Nat) (s : State) (k : Nat) : State :=
  match f.addr page k with
  | none => s
  | some a =>
    if !f.lin && f.start == 63 then { s with page := (f.word k).toNat % 256 }
    else if f.lin && a == 0x3FFFFC then s
    else s.busWrite 0 a (f.word k)

/-! ### The end of a frame -/

/-- A counter and its flag in HSPI.IRQ_FLAG, `k` events (R126). -/
def State.hspiCount (s : State) (c irq : Fld) (k : Nat) : State := if k = 0 then s else (s.incBy c 0 k).wr irq 0 1

/-- What the frame reports when it ends in a state that CORE answers (R113, R116, R117, R120, R121, R126). -/
def State.hspiEnd (s : State) (err : Nat) (bad beyond : Bool) (late : Nat) : State :=
  let s := (s.hspiCount R.HSPI_ADDR_END_COUNT R.HSPI_IRQ_ADDR_END beyond.toNat).hspiCount R.HSPI_RD_LATE_COUNT R.HSPI_IRQ_RD_LATE late
  if err ≠ 0 then
    (((s.hspiCount R.HSPI_FRAME_ERR_COUNT R.HSPI_IRQ_FRAME_ERR 1).wr R.HSPI_FRAME_ERR_CAUSE 0 err).raise srcHspiFrame 0).settleAll
  else if bad then ((s.hspiCount R.HSPI_CRC_ERR_COUNT R.HSPI_IRQ_CRC_ERR 1).raise srcHspiCrc 0).settleAll
  else s.incWrap R.HSPI_FRAMES_COUNT 0

/-- Bits [5:2] of the next status byte (R111). -/
def hspiFlags (err : Nat) (bad beyond : Bool) (late : Nat) : Nat :=
  (if err ≠ 0 then 8 else if bad then 4 else 0) + (if beyond then 2 else 0) + (if late ≠ 0 then 1 else 0)

/-- A frame, from the falling to the rising edge of HCS_N. `late` and `ecc` name the read words that come late and that meet an uncorrectable
error. A wake frame that completes during standby entry is a wake event of R78 and R80, though CORE answers it: the model's choice beside R124
(log 163). The AON responder reports no ADDR_END, its word standing at every address (R123; log 73). -/
def State.hspiFrame (s : State) (f : HFrame) (late ecc : List Nat) : State :=
  if f.edges = 0 then s
  else
    let st := s.hspiState
    let crc := st == 3 && s.on R.HSPI_CTRL_CRC_EN 0
    let turn := if st = 3 then s.rd R.HSPI_CTRL_TURN 0 + 1 else 1
    let status := s.hspiStatus
    let page := s.page
    let core := decide (2 ≤ st)
    let n := f.words crc turn
    let err := f.err crc turn
    let bad := err == 0 && f.crcBad crc
    let s := if core then s.wrs 0 [(R.HSPI_STATUS_CRC_ACTIVE, crc.toNat), (R.HSPI_STATUS_LAST, status.toNat)] else s
    let beyond := core && decide (0 < n) && (f.addr page (n - 1)).isNone
    let r : HRead :=
      if f.wr then
        ⟨[], 0, if st = 3 ∧ (crc = true → err = 0 ∧ bad = false) then (List.range n).foldl (f.writeWord page) s else s⟩
      else (List.range n).foldl (f.readWord page st (f.crcBad crc) late ecc) ⟨[], 0, s⟩
    let pre := status :: List.replicate (if f.wr then f.nb else f.base crc turn - 1) 0#8
    let out := pre ++ hsdoWords crc (status :: List.replicate turn 0#8) r.out
    let s := if core then r.st.hspiEnd err bad beyond r.late else r.st
    let s := { s with hspiPrev := hspiFlags err bad beyond r.late }
    let s := if (st = 0 ∨ s.pwr.mode = .entry) ∧ f.isWake = true then s.wake 2 1 else s
    { s with hspiOut := out.take f.nb }

/-- The frame of command `c` of R109 with bits [5:0] of its first byte `h`, the bytes `d` after it and `edges` HSCK edges. -/
def HFrame.of (c : Nat) (h : BitVec 6) (d : List (BitVec 8)) (edges : Nat) : HFrame :=
  ⟨c % 2 == 1, decide (2 ≤ c), (BitVec.ofNat 2 c ++ h) :: d, edges⟩

/-! ### Commands -/

/-- STATUS_POLL (R110): a frame of eight edges, whatever its byte holds. -/
def execStatusPoll (b : BitVec 8) (s : State) : Host.Outcome State Fault Refusal :=
  .next (s.hspiFrame (.of (b.toNat / 64) (b.extractLsb' 0 6) [] 8) [] [])

/-- SHORT_READ (R112 to R114, R117). -/
def execShortRead (w : BitVec 6) (d : List (BitVec 8)) (edges : Nat) (late ecc : List Nat) (s : State) : Host.Outcome State Fault Refusal :=
  .next (s.hspiFrame (.of 0 w d edges) late ecc)

/-- SHORT_WRITE (R115 to R117, R120). -/
def execShortWrite (w : BitVec 6) (d : List (BitVec 8)) (edges : Nat) (s : State) : Host.Outcome State Fault Refusal :=
  .next (s.hspiFrame (.of 1 w d edges) [] [])

/-- LINEAR_READ (R112 to R114, R118). -/
def execLinearRead (h : BitVec 6) (d : List (BitVec 8)) (edges : Nat) (late ecc : List Nat) (s : State) : Host.Outcome State Fault Refusal :=
  .next (s.hspiFrame (.of 2 h d edges) late ecc)

/-- LINEAR_WRITE (R115, R116, R118, R120). -/
def execLinearWrite (h : BitVec 6) (d : List (BitVec 8)) (edges : Nat) (s : State) : Host.Outcome State Fault Refusal :=
  .next (s.hspiFrame (.of 3 h d edges) [] [])

/-- WAKE_FRAME (R124), with its trailing byte where there is one. -/
def execWakeFrame (t : Option (BitVec 8)) (s : State) : Host.Outcome State Fault Refusal :=
  let d := [0xFF#8, 0xFF#8, 0x57#8, 0x41#8, 0x4B#8, 0x45#8]
  .next (s.hspiFrame (match t with | none => .of 3 0xF#6 d 56 | some b => .of 3 0xF#6 (d ++ [b]) 64) [] [])

/-- HSPI_CNT_CLR (R126). -/
def execHspiCntClr (s : State) : Host.Outcome State Fault Refusal := .next s.hspiCntClr

end Sys2Proof.Machine
end

