-- ==== Sys2Proof/Machine/Serve.lean ====
section
/-! DEFINITION. The device as target: RD, WR, MSG and JOB requests of the fabric, requests of the CAN gateway (R410, R411, R423, R424, R486, R487). -/

namespace Sys2Proof.Machine

/-! ### The Trail target port -/

/-- RD, WR and JOB requests are executed one at a time in order of arrival (R423): the oldest of them, if its type is `typ`. -/
def State.takeServed (s : State) (typ : Nat) : Option (Nat × Pkt × State) :=
  match s.takeWhere fun k => !k.rsp && (k.typ == 0 || k.typ == 1 || k.typ == 4) with
  | none => none
  | some (ing, k, s) => if k.typ = typ then some (ing, k, s) else none

/-- COUNT and the byte address of an RD or WR (R408). -/
def Pkt.count (k : Pkt) : Nat := k.arg.toNat / 2 ^ 24 % 64 + 1
def Pkt.byteAddr (k : Pkt) : Nat := k.arg.toNat % 2 ^ 24

/-- An RD at its destination is valid (R410, R411). -/
def Pkt.rdValid (k : Pkt) : Bool := k.vc == 2 && !k.pst && !k.bcast && k.len == 0 && k.byteAddr % 4 == 0

/-- A WR at its destination is valid. -/
def Pkt.wrValid (k : Pkt) : Bool := k.vc == 2 && k.len == 4 * k.count && k.byteAddr % 4 == 0

/-- A MSG at its destination is valid. -/
def Pkt.msgValid (k : Pkt) : Bool :=
  (k.vc == 2 || (k.vc == 3 && (k.pst || k.bcast))) && !k.dr && decide (1 ≤ k.len) && decide (k.len ≤ 256)

/-- A JOB at its destination is valid. -/
def Pkt.jobValid (k : Pkt) : Bool := k.vc == 2 && !k.pst && !k.dr && !k.bcast && k.len == 32

/-- A directed-route read of FAB.PORTS: the walk has read the ports (R434). -/
def State.portsRead (s : State) : State := chans.foldl (fun s p => s.modLp p fun l => { l with unread := false }) s

/-- `n` words from byte address `a` on, read through the Trail target port; `ecc` names the words that meet an uncorrectable error. -/
def State.trailRead (s : State) (dr : Bool) (a n : Nat) (ecc : List Nat) : List Word × State :=
  (List.range n).foldl (fun r i =>
    let (w, s) := r.2.busReadEcc 2 (a + 4 * i) (ecc.contains i)
    (r.1 ++ [w], if dr ∧ (a + 4 * i) % 2 ^ 24 = 0x1034 then s.portsRead else s)) (([] : List Word), s)

/-- Words written through the Trail target port in ascending order; NODE_ID takes those of a directed route (R423, R438). -/
def State.trailWrite (s : State) (dr : Bool) (a : Nat) : List Word → State
  | [] => s
  | w :: l =>
    (if dr ∧ a % 2 ^ 24 = 0x1020 then (s.nodeIdWrite w).enumPump.settleAll else s.busWrite 2 a w).trailWrite dr (a + 4) l

/-- An RD at its destination (R423). -/
def State.serveRd (s : State) (ing : Nat) (k : Pkt) (ecc : List Nat) : State :=
  if !k.rdValid then (s.turnAway ing k 5).settleAll
  else
    let r := s.trailRead k.dr k.byteAddr k.count ecc
    r.2.reply k 0 r.1

/-- A WR at its destination (R423): answered after the last word, if it is non-posted. -/
def State.serveWr (s : State) (ing : Nat) (k : Pkt) : State :=
  if !k.wrValid then (s.turnAway ing k 5).settleAll
  else
    let s := s.trailWrite k.dr k.byteAddr (k.data.take k.count)
    if k.asks then s.reply k 0 [] else s

/-- A JOB at its destination (R424, R336): the block executes in the bank of the Trail target port, with origin fabric. -/
def State.serveJob (s : State) (ing : Nat) (k : Pkt) : State :=
  if !k.jobValid then (s.turnAway ing k 5).settleAll
  else
    let s := s.jobPost 2 k.data
    s.reply k 0 [s.jobRes.get (jobBank 2)]

/-- RD_REQUEST (R423). -/
def execRdRequest (ecc : List Nat) (s : State) : Host.Outcome State Fault Refusal :=
  .next (s.whenLink fun s =>
    match s.takeServed 0 with
    | none => s
    | some (ing, k, s) => s.serveRd ing k ecc)

/-- WR_REQUEST (R423). -/
def execWrRequest (s : State) : Host.Outcome State Fault Refusal :=
  .next (s.whenLink fun s =>
    match s.takeServed 1 with
    | none => s
    | some (ing, k, s) => s.serveWr ing k)

/-- JOB_REQUEST (R424). -/
def execJobRequest (s : State) : Host.Outcome State Fault Refusal :=
  .next (s.whenLink fun s =>
    match s.takeServed 4 with
    | none => s
    | some (ing, k, s) => s.serveJob ing k)

/-- The oldest RD, WR or JOB that waits is executed. -/
def State.serveOldest (s : State) : State :=
  match s.takeWhere fun k => !k.rsp && (k.typ == 0 || k.typ == 1 || k.typ == 4) with
  | none => s
  | some (ing, k, s) => if k.typ = 0 then s.serveRd ing k [] else if k.typ = 1 then s.serveWr ing k else s.serveJob ing k

/-- Every RD, WR and JOB that has arrived so far is executed, oldest first: at most `fuel` of them. -/
def State.serveOlder (s : State) : Nat → State
  | 0 => s
  | fuel + 1 => s.serveOldest.serveOlder fuel

/-! ### Messages -/

/-- The lowest free mailbox slot of the Grove of channel `n` (R325). -/
def State.mboxSlot (s : State) (n : Ch) : Option Nat := (List.range 4).find? fun k => !s.bit R.GRV_FULL n.val k

/-- A message goes into slot `k` of the mailbox of channel `n`: its words, header, FULL, the MSG event (R325). -/
def State.mboxStore (s : State) (n : Ch) (k : Nat) (p : Pkt) : State :=
  let s := s.setMemWords (dramAddr n.val (0xF00 + 0x40 * k)) p.data
  let s := s.wrs n.val [((R.GRV_MBOX_HDR_SRC.nth k), p.src), ((R.GRV_MBOX_HDR_LEN.nth k), p.len)]
  (s.orBits R.GRV_FULL n.val (2 ^ k)).grvEvent n 8

/-- A message that its endpoint cannot take: REFUSED, or dropped with HRX_FULL if it is posted (R424, R442). -/
def State.msgRefused (s : State) (ing ep : Nat) (k : Pkt) : State :=
  let s := if ep = 4 ∨ !k.asks then s.wr R.TXN_IRQ_HRX_FULL 0 1 else s
  s.turnAway ing k 3

/-- A message is answered after it is stored, if it is non-posted. -/
def State.msgDone (s : State) (k : Pkt) : State := if k.asks then s.reply k 0 [] else s

/-- A message for the mailbox of channel `n`. -/
def State.msgToGrove (s : State) (ing : Nat) (n : Ch) (k : Pkt) : State :=
  if !s.chOn n then s.msgRefused ing n.val k
  else
    match s.mboxSlot n with
    | none => s.msgRefused ing n.val k
    | some i => (s.mboxStore n i k).msgDone k

/-- A message for the host receive buffer, which holds four. -/
def State.msgToHost (s : State) (ing : Nat) (k : Pkt) : State :=
  if s.fab.hrx.length < 4 then
    (({ s with fab.hrx := s.fab.hrx ++ [Hrx.mk k.src false k.len k.data] }).wr R.TXN_IRQ_HRX 0 1).msgDone k
  else s.msgRefused ing 4 k

/-- MSG_REQUEST (R424). -/
def execMsgRequest (s : State) : Host.Outcome State Fault Refusal :=
  .next (s.whenLink fun s =>
    match s.takeWhere fun k => !k.rsp && k.typ == 2 with
    | none => s
    | some (ing, k, s) =>
      let ep := k.arg.toNat % 8
      if !k.msgValid || decide (4 < ep) then (s.turnAway ing k 5).settleAll
      else if h : ep < 4 then s.msgToGrove ing ⟨ep, h⟩ k
      else s.msgToHost ing k)

/-! ### Gateway -/

/-- A big-endian word of a byte list from byte `i` on. -/
def beWord (d : List (BitVec 8)) (i : Nat) : Word := d.getD i 0#8 ++ d.getD (i + 1) 0#8 ++ d.getD (i + 2) 0#8 ++ d.getD (i + 3) 0#8

/-- `n` big-endian words of a byte list from byte `i` on. -/
def beWords (d : List (BitVec 8)) (i n : Nat) : List Word := (List.range n).map fun k => beWord d (i + 4 * k)

/-- OP and COUNT of a gateway request (R486). -/
def gwOp (d : List (BitVec 8)) : Nat := (d.getD 1 0#8).toNat / 16
def gwCount (d : List (BitVec 8)) : Nat := (d.getD 7 0#8).toNat % 64 + 1

/-- The DST of a gateway request. -/
def gwDst (d : List (BitVec 8)) : Nat := (d.getD 2 0#8).toNat % 4 * 256 + (d.getD 3 0#8).toNat

/-- The fabric request that a gateway request becomes, `none` where a field is invalid (R411, R486, R487). -/
def gwPkt (me : Option Nat) (d : List (BitVec 8)) : Option Pkt :=
  let op := gwOp d
  let a := (d.getD 4 0#8).toNat * 2 ^ 16 + (d.getD 5 0#8).toNat * 256 + (d.getD 6 0#8).toNat
  let n := gwCount d
  let arg := wd ((n - 1) * 2 ^ 24 + a)
  if op = 0 then (if a % 4 = 0 ∧ d.length = 8 then some (reqPkt me 0 2 (gwDst d) false arg 0 []) else none)
  else if op = 1 then
    (if a % 4 = 0 ∧ d.length = 8 + 4 * n then some (reqPkt me 1 2 (gwDst d) false arg (4 * n) (beWords d 8 n)) else none)
  else if op = 2 then (if d.length = 36 then some (reqPkt me 4 2 (gwDst d) false 0#32 32 (beWords d 4 8)) else none)
  else none

/-- A request for this device executes through the Trail target port after the fabric requests that arrived before it (R336, R423), a job command
with origin 8 (R487): data and state; `ecc` names the words that meet an uncorrectable error (R97). -/
def State.gwLocal (s : State) (k : Pkt) (ecc : List Nat) : List Word × State :=
  let s := s.serveOlder s.inq.length
  if k.typ = 0 then s.trailRead false k.byteAddr k.count ecc
  else if k.typ = 1 then ([], s.trailWrite false k.byteAddr k.data)
  else
    let r := s.jobCommand 8 k.data
    ([r.2], r.1.settleAll)

/-- The request is one the gateway answers with REFUSED (R487). -/
def State.gwBars (s : State) (sa : Nat) (d : List (BitVec 8)) : Bool :=
  decide (sa < s.rd R.GW_SA_LO 0) || decide (s.rd R.GW_SA_HI 0 < sa) ||
    ((gwOp d == 1 || gwOp d == 2) && !s.on R.GW_CFG_WR_EN 0) || !s.netUp

/-- A request the gateway serves: an invalid one is answered with BAD_REQ, one for this device is executed, another takes a Lodge tag. -/
def State.gwServe (s : State) (sa : Nat) (hdr : Word) (sess : Bool) (d : List (BitVec 8)) (ecc : List Nat) : State :=
  let s := s.wr R.GW_IRQ_REQ 0 1
  let q : GwReq := ⟨sa, hdr, sess, 64⟩
  match gwPkt s.nodeId d with
  | none => s.gwDone q 5 []
  | some k =>
    if k.dst = 0x3FF ∨ s.nodeId = some k.dst then
      let r := s.gwLocal k ecc
      r.2.gwDone q 0 r.1
    else if !s.domOn dLink then s.gwDone q 1 []
    else
      match s.request fromLodge 8 .gate k with
      | none => s.gwDone q 6 []
      | some (t, s) =>
        let s := { s with net.gw := s.net.gw ++ [{ q with tag := t }] }
        s.wr R.GW_STATUS_HELD 0 s.net.gw.length

/-- A request from `sa` with the bytes `d`, single frame or delivered by a session (R486, R487): a second copy of a held one is discarded. -/
def State.gateway (s : State) (sa : Nat) (sess : Bool) (d : List (BitVec 8)) (ecc : List Nat) : State :=
  let hdr := beWord d 0
  let seq (h : Word) : Nat := h.toNat / 2 ^ 16 % 16
  if !s.on R.GW_CFG_EN 0 || (d.getD 0 0#8).toNat != s.rd R.GW_CFG_KEY 0 then s
  else if s.net.gw.any fun q => q.sa == sa && seq q.hdr == seq hdr then s
  else if s.gwBars sa d then s.gwRefuse sa hdr sess 3
  else if 4 ≤ s.net.gw.length then s.gwRefuse sa hdr sess 4
  else s.gwServe sa hdr sess d ecc

/-- GATEWAY_REQUEST (R486): a single frame from `sa` to `da`, or the message that session `i` has received for the gateway, which then is free. -/
def execGatewayRequest (sa da : BitVec 8) (d : List (BitVec 8)) (i : Option (Fin 4)) (ecc : List Nat) (s : State) : Host.Outcome State Fault Refusal :=
  .next (s.whenCan fun s =>
    match i with
    | none => if s.toMe da = true ∧ da ≠ 0xFF#8 then (s.gateway sa.toNat false d ecc).settleAll else s
    | some i =>
      let x := s.ss i
      if x.gate = true ∧ x.st = 3 ∧ x.tx = false then
        (((s.modSs i fun x => { x with st := 0, gate := false }).gateway x.peer true ((List.range x.len).map x.byte) ecc).gwFlush).settleAll
      else s)

end Sys2Proof.Machine
end

