-- ==== Sys2Proof/Machine/Pins.lean ====
section
/-! DEFINITION. GPIO edges, the thermal comparators, the test access port (R48 to R51, R105, R106, R529). -/

namespace Sys2Proof.Machine

/-! ### GPIO -/

/-- The edge that GPIO.EDGE selects for pin `i`: 01 rising, 10 falling, 11 both (R106). -/
def State.gpioSelects (s : State) (i : Nat) (rising : Bool) : Bool :=
  (s.rd R.GPIO_EDGE 0).testBit (2 * i + (if rising then 0 else 1))

/-- GPIO.FUNC of pin `i` (R105). -/
def State.gpioFunc (s : State) (i : Nat) : Nat := s.rd R.GPIO_FUNC 0 / 16 ^ i % 16

/-- GPIO.IRQ_FLAG.EDGE of pin `i` sets; with its enable bit the GPIO event reaches every core (R105, R316). -/
def State.gpioFlag (s : State) (i : Nat) : State :=
  if s.bit R.GPIO_IRQ_EDGE 0 i then s
  else
    let s := s.orBits R.GPIO_IRQ_EDGE 0 (2 ^ i)
    if (s.word 0x0E14).getLsbD i then s.forCh fun n s => s.grvEvent n 13 else s

/-- What an edge of pin `i` does to channel `n`: the trace trigger of source 2, the home event of kind 2 (R301, R346). -/
def State.gpioOnCh (s : State) (i : Nat) (rising : Bool) (n : Ch) : State :=
  let s := if s.gpioFunc i = 3 ∧ s.rd R.TRC_TRIG_PIN n.val = i ∧ s.rd R.TRC_TRIG_COND n.val = (if rising then 0 else 1) then s.trcFire n 2 else s
  if s.rd R.SPT_HOME_PIN n.val = i ∧ s.on R.SPT_HOME_LVL n.val = rising then s.homeEvent n 2 else s

/-- GPIO_EDGE (R105): pin `i` goes to `level`, as the synchroniser shows it. -/
def execGpioEdge (i : Fin 8) (level : Bool) (s : State) : Host.Outcome State Fault Refusal :=
  .next (if s.bit R.GPIO_IN 0 i.val = level then s
    else
      let s := if level then s.orBits R.GPIO_IN 0 (2 ^ i.val) else s.clrBits R.GPIO_IN 0 (2 ^ i.val)
      if !s.coreOn then s
      else
        let s := if s.gpioSelects i.val level then s.gpioFlag i.val else s
        s.forCh fun n s => s.gpioOnCh i.val level n)

/-! ### Thermal comparators -/

/-- The source that a thermal comparator raises (R529): sensors 0 to 3 are the channels', 4 the core's, 5 the PHYs'. -/
def thermalSource (sensor : Fin 6) (trip : Bool) : Nat :=
  if sensor.val < 4 then srcCh sensor.val (if trip then oTempTrip else oTempWarn)
  else if sensor = 4 then (if trip then srcTempTripCore else srcTempWarnCore)
  else (if trip then srcTempTripPhy else srcTempWarnPhy)

/-- THERMAL_COMPARATOR (R529): the filtered comparator finds the temperature above its threshold, or below its release level. -/
def execThermalComparator (sensor : Fin 6) (trip above : Bool) (s : State) : Host.Outcome State Fault Refusal :=
  .next (if !s.coreOn then s
    else if h : sensor.val < 4 then s.whenCh ⟨sensor.val, h⟩ fun s => (s.condSet (thermalSource sensor trip) above).settleAll
    else (s.condSet (thermalSource sensor trip) above).settleAll)

/-! ### Test access port -/

/-- The cells of a ball in the boundary register: input; observe only; output and control; input, output and control (R50). -/
inductive BallCells where
  | input | observe | output | both
deriving DecidableEq, Repr

/-- The balls with cells from TDI to TDO: rows A to V, columns ascending (R32, R33, R50). -/
def cellBalls0 : List (String × BallCells) :=
  [("BRKG0", .observe), ("HALLA0", .input), ("HALLA2", .input), ("BRKG2", .observe), ("GLA0", .observe), ("HALLB0", .input),
   ("HALLB2", .input), ("GLA2", .observe), ("GHA0", .observe), ("HALLC0", .input), ("MSCK0", .output), ("MSDI0", .input),
   ("MSDO0", .output), ("MSCK1", .output), ("MSDI1", .input), ("MSDO1", .output), ("HALLC2", .input), ("GHA2", .observe)]

def cellBalls1 : List (String × BallCells) :=
  [("GLB0", .observe), ("ENCA0", .input), ("MSS0_0", .output), ("MSS0_1", .output), ("MSS0_2", .output), ("MSS0_3", .output),
   ("MSS1_0", .output), ("MSS1_1", .output), ("MSS1_2", .output), ("ENCA2", .input), ("GLB2", .observe), ("GHB0", .observe),
   ("ENCB0", .input), ("MSS1_3", .output), ("HSCK", .input), ("HSDI", .input), ("HSDO", .output), ("HCS_N", .input)]

def cellBalls2 : List (String × BallCells) :=
  [("HIRQ_N", .output), ("ENCB2", .input), ("GHB2", .observe), ("GLC0", .observe), ("ENCZ0", .input), ("GPIO0", .both), ("GPIO1", .both),
   ("GPIO2", .both), ("GPIO3", .both), ("ENCZ2", .input), ("GLC2", .observe), ("GHC0", .observe), ("GPIO4", .both), ("GPIO5", .both),
   ("GPIO6", .both), ("GPIO7", .both), ("GHC2", .observe), ("GHC1", .observe)]

def cellBalls3 : List (String × BallCells) :=
  [("RESET_N", .input), ("FAULT_N", .output), ("HALT_N", .both), ("WAKE", .input), ("CFG0", .input), ("CFG1", .input), ("CFG2", .input),
   ("GHC3", .observe), ("GLC1", .observe), ("ENCZ1", .input), ("CFG3", .input), ("TEST", .input), ("ENCZ3", .input), ("GLC3", .observe),
   ("GHB1", .observe), ("ENCB1", .input), ("CAN1TX", .output), ("CAN1RX", .input)]

def cellBalls4 : List (String × BallCells) :=
  [("ENCB3", .input), ("GHB3", .observe), ("GLB1", .observe), ("ENCA1", .input), ("ENCA3", .input), ("GLB3", .observe), ("GHA1", .observe),
   ("HALLC1", .input), ("HALLC3", .input), ("GHA3", .observe), ("GLA1", .observe), ("HALLB1", .input), ("HALLB3", .input),
   ("GLA3", .observe), ("BRKG1", .observe), ("HALLA1", .input), ("HALLA3", .input), ("BRKG3", .observe)]

/-- All balls with cells. -/
def cellBalls : List (String × BallCells) := cellBalls0 ++ cellBalls1 ++ cellBalls2 ++ cellBalls3 ++ cellBalls4

/-- What a cell is. -/
inductive CellKind where
  | input | output | control | observe
deriving DecidableEq, Repr

/-- The cells of a ball, in their order: input, output, control (R50). -/
def BallCells.cells : BallCells → List CellKind
  | .input => [.input]
  | .observe => [.observe]
  | .output => [.output, .control]
  | .both => [.input, .output, .control]

/-- The cells from TDI to TDO. -/
def boundaryCells : List (String × CellKind) := cellBalls.flatMap fun b => b.2.cells.map fun c => (b.1, c)

set_option maxRecDepth 8000 in
/-- The boundary register has 124 cells (R50). -/
theorem boundaryCells_length : boundaryCells.length = 124 := by decide

/-- What boundary scan drives: each output and control cell with its latch bit, under EXTEST and CLAMP (R48); cell 0 of the list is the last
bit shifted in. Nothing is driven under another instruction; HIGHZ releases the pins instead (State.pin). -/
def State.scanDrives (s : State) : List (String × CellKind × Bool) :=
  if s.tap.ir = 0 ∨ s.tap.ir = 4 then
    (boundaryCells.zipIdx.filter fun e => e.1.2 == .output || e.1.2 == .control).map fun e => (e.1.1, e.1.2, s.tap.latch.testBit (123 - e.2))
  else []

/-- The boundary register drives the pins or, under HIGHZ, releases them (R48). -/
def State.scanHolds (s : State) : Bool := s.tap.ir == 0 || s.tap.ir == 3 || s.tap.ir == 4

/-! ### Pin states -/

/-- The pins of R36: gates and brake gates, the bridge's sense pins, the dividers behind VPxn and VBUSn, the amplifier and converter inputs,
excitation, Hall and encoder inputs, links, CAN, host SPI, sensor SPI, GPIO, and the single signals. -/
inductive Pin where
  | gh (n : Ch) (x : Fin 3) | gl (n : Ch) (x : Fin 3) | brkg (n : Ch)
  | bridge (n : Ch) | divider (n : Ch) | analog
  | exc (m : Fin 2) | hall (n : Ch) | enc (n : Ch)
  | ltx (p : Ch) | lrx (p : Ch) | canBus | can1tx | can1rx
  | hsck | hsdi | hcsN | hsdo | hirqN
  | msck (m : Fin 2) | msdo (m : Fin 2) | mss (m : Fin 2) (k : Fin 4)
  | gpio (i : Fin 8) | faultN | haltN | resetN | wake | cfg (i : Fin 4) | test
  | tck | tms | tdi | tdo
deriving DecidableEq, Repr

/-- What a pin does (R36). -/
inductive PinState where
  /-- High impedance: an output released, a divider or an input disconnected. -/
  | z
  /-- 100 kΩ to the source with the self-biased clamp (R38). -/
  | clamp
  /-- Driven to a level. -/
  | drive (high : Bool)
  /-- Driven, the level following the traffic. -/
  | live
  /-- An input: with a pull-up, a pull-down or neither (R37). -/
  | input (pull : Option Bool)
  /-- The sense path or the divider is connected. -/
  | connected
  /-- Electrical idle; terminated; only the signal detector. -/
  | idle | terminated | detect
  /-- The transceiver in a mode of R471, with the wake-up pattern detector; bus-neutral. -/
  | xcvr (mode : Nat) (wakeUp : Bool) | neutral
  /-- Boundary scan: the output and the control bit of the latch (R48, R50). -/
  | scan (out ctl : Bool)
deriving DecidableEq, Repr

/-- The columns of R36. -/
inductive PinPhase where
  | unpowered | boot | standby | run
deriving DecidableEq, Repr

/-- Some supply of R36 is there. -/
def State.somePower (s : State) : Bool := s.bit R.PWR_STATUS_GOOD 0 0 || s.bit R.PWR_STATUS_GOOD 0 1 || s.bit R.PWR_STATUS_GOOD 0 2

/-- The column that applies: unpowered where VSUP, VDRV and VIO are all absent, reset and boot while one of them is missing (R36, R54). -/
def State.pinPhase (s : State) : PinPhase :=
  if !s.somePower then .unpowered
  else if s.pwr.mode == .standby then .standby
  else if !s.supplied then .boot
  else match s.pwr.mode with
    | .boot => .boot
    | .held => .boot
    | _ => .run

/-- The column for the balls of channel `n` or port `n`: what the HL2880 lacks keeps its boot state while there is power (R47). -/
def State.pinPhaseOf (s : State) (n : Ch) : PinPhase :=
  match s.pinPhase with
  | .unpowered => .unpowered
  | c => if s.chOk n.val then c else .boot

/-- The name of a pin's output cell in the boundary register (R50); none for a pin without one. -/
def Pin.cell : Pin → Option String
  | .faultN => some "FAULT_N"
  | .hirqN => some "HIRQ_N"
  | .hsdo => some "HSDO"
  | .haltN => some "HALT_N"
  | .can1tx => some "CAN1TX"
  | .msck m => some (if m = 0 then "MSCK0" else "MSCK1")
  | .msdo m => some (if m = 0 then "MSDO0" else "MSDO1")
  | .mss m k => some ((if m = 0 then "MSS0_" else "MSS1_") ++ toString k.val)
  | .gpio i => some ("GPIO" ++ toString i.val)
  | _ => none

/-- The bit that the latch holds for a cell. -/
def State.scanBit (s : State) (name : String) (k : CellKind) : Bool := s.scanDrives.any fun e => e.1 == name && e.2.1 == k && e.2.2

/-- The level of pin `i` as an output (R106, R166, R451): OUT, the period marker of channel i mod 4, low where the HL2880 lacks it, or the time
pulse; none where the pin is an input. The codes above 3, which the spec does not list, leave it one (log 160). -/
def State.gpioLevel (s : State) (i : Fin 8) : Option Bool :=
  let n : Ch := ⟨i.val % 4, Nat.mod_lt _ (by decide)⟩
  match s.gpioFunc i.val with
  | 0 => if s.bit R.GPIO_DIR 0 i.val then some (s.bit R.GPIO_OUT 0 i.val) else none
  | 1 => some (s.periodOut n)
  | 2 => some s.syncOut
  | _ => none

/-- A GPIO pin: an output with OD drives low only; an input has the pull of PULL, none for the code 0b11, which the table does not list (R105, R106;
log 160). -/
def State.gpioPin (s : State) (i : Fin 8) : PinState :=
  let pull := s.rd R.GPIO_PULL 0 / 4 ^ i.val % 4
  let inp : PinState := .input (if pull = 1 then some false else if pull = 2 then some true else none)
  match s.gpioLevel i with
  | none => inp
  | some h => if h && s.bit R.GPIO_OD 0 i.val then inp else .drive h

/-- CAN1TX after boot: driven high while CAN1 is in INIT, bus-off or a mode that sends nothing, and while PD_CAN is off (R36, R473). -/
def State.can1Pin (s : State) : PinState :=
  if s.domOn dCan && !s.on R.CAN_CTRL_INIT 1 && decide (s.rd R.CAN_STATUS_ESTATE 1 < 2) && decide (s.rd R.CAN_CFG_MODE 1 = 0) then .live
  else .drive true

/-- The pin state after boot (R36 and the rules of its units). -/
def State.pinRun (s : State) : Pin → PinState
  | .gh n x => .drive ((s.ch n).prot.gates.getLsbD x.val)
  | .gl n x => .drive ((s.ch n).prot.gates.getLsbD (x.val + 3))
  | .brkg n => .drive (s.ch n).prot.brkOn
  | .bridge n => if s.chOn n then .connected else .z
  | .divider n => if s.chOn n then .connected else .z
  | .analog => .z
  | .exc m => if s.on R.SCX_CTRL_EN m.val then .live else .z
  | .hall _ => .input none
  | .enc _ => .input none
  | .ltx p => if s.domOn dLink && decide (s.lst p ≠ 0) then .live else .idle
  | .lrx _ => .terminated
  | .canBus => if s.domOn dCan then .xcvr (s.rd R.CAN_CFG_XCVR 0) true else .xcvr 0 true
  | .can1tx => s.can1Pin
  | .hsck => .input none
  | .hsdi => .input none
  | .hcsN => .input none
  | .hsdo => .z
  | .hirqN => if s.hirqLow then .drive false else .z
  | .msck m => if s.on R.MSPI_CTRL_EN m.val then .live else .drive false
  | .msdo m => if s.on R.MSPI_CTRL_EN m.val then .live else .drive false
  | .mss m _ => if s.on R.MSPI_CTRL_EN m.val then .live else .drive true
  | .gpio i => s.gpioPin i
  | .faultN => if s.faultPinLow then .drive false else .z
  | .haltN => if s.on R.FBK_STATUS_DRIVING 0 then .drive false else .z
  | .tdo => match s.tap.tdo with | some b => .drive b | none => .z
  | .can1rx => .input (some true)
  | .resetN => .input (some true)
  | .tms => .input (some true)
  | .tdi => .input (some true)
  | .wake => .input (some false)
  | .cfg _ => .input (some false)
  | .test => .input (some false)
  | .tck => .input (some false)

/-- The pin state in reset and boot (R36): gates actively low, FAULT_N low, outputs released or pulled; every output released, the gates aside, while
a supply is missing (R41). -/
def State.pinBoot (s : State) : Pin → PinState
  | .gh _ _ => .drive false
  | .gl _ _ => .drive false
  | .brkg _ => .drive false
  | .bridge _ => .z
  | .divider _ => .z
  | .exc _ => .z
  | .ltx _ => if s.supplied then .idle else .z
  | .tdo => .z
  | .canBus => .xcvr 0 false
  | .can1tx => .input (some true)
  | .hirqN => .z
  | .msck _ => .input (some false)
  | .msdo _ => .input (some false)
  | .mss _ _ => .input (some true)
  | .gpio _ => .input (some false)
  | .faultN => if s.faultPinLow then .drive false else .z
  | .haltN => .z
  | p => s.pinRun p

/-- The pin state in standby (R36, R39, R42): WAKE, CFG and RESET_N keep their pulls, the signal detectors and the wake-up pattern detector work.
-/
def pinStandby : Pin → PinState
  | .gh _ _ => .clamp
  | .gl _ _ => .clamp
  | .brkg _ => .clamp
  | .lrx _ => .detect
  | .canBus => .xcvr 0 true
  | .hsck => .input none
  | .hsdi => .input none
  | .hcsN => .input none
  | .resetN => .input (some true)
  | .wake => .input (some false)
  | .cfg _ => .input (some false)
  | _ => .z

/-- The pin state of an unpowered device (R36, R38, R42). -/
def pinUnpowered : Pin → PinState
  | .gh _ _ => .clamp
  | .gl _ _ => .clamp
  | .brkg _ => .clamp
  | .canBus => .neutral
  | _ => .z

/-- The column of a pin. -/
def State.phaseOfPin (s : State) : Pin → PinPhase
  | .gh n _ => s.pinPhaseOf n
  | .gl n _ => s.pinPhaseOf n
  | .brkg n => s.pinPhaseOf n
  | .bridge n => s.pinPhaseOf n
  | .divider n => s.pinPhaseOf n
  | .hall n => s.pinPhaseOf n
  | .enc n => s.pinPhaseOf n
  | .ltx p => s.pinPhaseOf p
  | .lrx p => s.pinPhaseOf p
  | _ => s.pinPhase

/-- The state of a pin (R36, R39, R41, R42, R47, R48, R51): where boundary scan drives it the latch has it, under HIGHZ or with a supply missing it is
released. A frame is one command, so in every state HCS_N is high and HSDO three-state (R107); what HSDO carried while it was low is
State.hspiOut. -/
def State.pin (s : State) (p : Pin) : PinState :=
  match s.phaseOfPin p with
  | .unpowered => pinUnpowered p
  | .standby => pinStandby p
  | c =>
    match p.cell with
    | some name =>
      if s.scanHolds then (if s.tap.ir = 3 ∨ s.supplied = false then .z else .scan (s.scanBit name .output) (s.scanBit name .control))
      else if c = .run then s.pinRun p else s.pinBoot p
    | none => if c = .run then s.pinRun p else s.pinBoot p

/-- The next controller state of IEEE 1149.1: 0 Test-Logic-Reset, 1 Run-Test/Idle, 2 to 8 the data column (Select, Capture, Shift, Exit1,
Pause, Exit2, Update), 9 to 15 the instruction column. -/
def tapNext (st : Nat) (tms : Bool) : Nat :=
  match st with
  | 0 => if tms then 0 else 1
  | 1 => if tms then 2 else 1
  | 2 => if tms then 9 else 3
  | 3 => if tms then 5 else 4
  | 4 => if tms then 5 else 4
  | 5 => if tms then 8 else 6
  | 6 => if tms then 7 else 6
  | 7 => if tms then 8 else 4
  | 8 => if tms then 2 else 1
  | 9 => if tms then 0 else 10
  | 10 => if tms then 12 else 11
  | 11 => if tms then 12 else 11
  | 12 => if tms then 15 else 13
  | 13 => if tms then 14 else 13
  | 14 => if tms then 15 else 11
  | _ => if tms then 2 else 1

/-- The length of the register that instruction `ir` selects (R48). -/
def tapLen (ir : Nat) : Nat := if ir = 0 ∨ ir = 2 then 124 else if ir = 1 then 32 else 1

/-- The identification register (R49). -/
def State.idcode (s : State) : Nat := if s.hl2880 then 0x1288074D else 0x1488074D

/-- What Capture-DR loads: pin levels, the identification, or 0 (R48). -/
def State.tapCapture (s : State) (pins : BitVec 124) : Nat :=
  if s.tap.ir = 0 ∨ s.tap.ir = 2 then pins.toNat else if s.tap.ir = 1 then s.idcode else 0

/-- A shift register of `n` bits takes `tdi`. -/
def tapShift (n sr : Nat) (tdi : Bool) : Nat := sr % 2 ^ n / 2 + (if tdi then 2 ^ (n - 1) else 0)

/-- A rising edge of TCK: capture or shift in the present state, then the next state; Test-Logic-Reset selects IDCODE. What Capture-IR loads above
its two lowest bits is open, a free value (log 67). -/
def State.tapRise (s : State) (tms tdi : Bool) (pins : BitVec 124) : State :=
  let t := s.tap
  let s :=
    if t.st = 3 then { s with tap.sr := s.tapCapture pins }
    else if t.st = 4 then { s with tap.sr := tapShift (tapLen t.ir) t.sr tdi }
    else if t.st = 10 then { s.used with tap.sr := 1 + 4 * (s.anyVal.toNat % 4) }
    else if t.st = 11 then { s with tap.sr := tapShift 4 t.sr tdi }
    else s
  let st := tapNext t.st tms
  { s with tap.st := st, tap.ir := if st = 0 then 1 else t.ir }

/-- A falling edge of TCK: update in Update-DR and Update-IR, TDO driven while shifting. -/
def State.tapFall (s : State) : State :=
  let t := s.tap
  let t := if t.st = 8 ∧ (t.ir = 0 ∨ t.ir = 2) then { t with latch := t.sr % 2 ^ 124 } else if t.st = 15 then { t with ir := t.sr % 16 } else t
  { s with tap := { t with tdo := if t.st = 4 ∨ t.st = 11 then some (t.sr.testBit 0) else none } }

/-- TEST_ACCESS_PORT_CLOCK (R48, R51): a rising edge of TCK with TMS, TDI and the levels at the cells, or a falling edge; an instruction that
drives pins holds the gates off. -/
def execTestAccessPortClock (rising tms tdi : Bool) (pins : BitVec 124) (s : State) : Host.Outcome State Fault Refusal :=
  .next (if rising then s.tapRise tms tdi pins else s.tapFall).settleAll

end Sys2Proof.Machine
end

