-- ==== Sys2Proof/Machine/Dispatch.lean ====
section
/-! DEFINITION. One arm per command, in the table's order: each calls that command's meaning directly. -/

namespace Sys2Proof.Machine

/-- The effect of a command on everything but the queue. -/
def exec (i : Instr) (s : State) : Host.Outcome State Fault Refusal :=
  match i with
  | .registerWrite m a w => Sys2Proof.Machine.execRegisterWrite m a w s
  | .pageLock p => Sys2Proof.Machine.execPageLock p s
  | .timeNowLoRead => Sys2Proof.Machine.execTimeNowLoRead s
  | .canStatusRead m returned since => Sys2Proof.Machine.execCanStatusRead m returned since s
  | .netSdataRead => Sys2Proof.Machine.execNetSdataRead s
  | .netSdataWrite w => Sys2Proof.Machine.execNetSdataWrite w s
  | .periodBoundary n => Sys2Proof.Machine.execPeriodBoundary n s
  | .pwmEdge n p => Sys2Proof.Machine.execPwmEdge n p s
  | .sectorChange n => Sys2Proof.Machine.execSectorChange n s
  | .phaseCurrentHold n => Sys2Proof.Machine.execPhaseCurrentHold n s
  | .adcConversionDone n a b c => Sys2Proof.Machine.execAdcConversionDone n a b c s
  | .loopEngineSample n => Sys2Proof.Machine.execLoopEngineSample n s
  | .vseqStart n => Sys2Proof.Machine.execVseqStart n s
  | .vseqSlotDone n code temp => Sys2Proof.Machine.execVseqSlotDone n code temp s
  | .commit n => Sys2Proof.Machine.execCommit n s
  | .commitCheckComplete n => Sys2Proof.Machine.execCommitCheckComplete n s
  | .commitApply n => Sys2Proof.Machine.execCommitApply n s
  | .chArm n => Sys2Proof.Machine.execChArm n s
  | .chRun n => Sys2Proof.Machine.execChRun n s
  | .chStop n => Sys2Proof.Machine.execChStop n s
  | .chDisarm n => Sys2Proof.Machine.execChDisarm n s
  | .boundaryStateTransition n => Sys2Proof.Machine.execBoundaryStateTransition n s
  | .prechargeComplete n => Sys2Proof.Machine.execPrechargeComplete n s
  | .handoverTimeout n => Sys2Proof.Machine.execHandoverTimeout n s
  | .startupTimeout n => Sys2Proof.Machine.execStartupTimeout n s
  | .alignEnd n => Sys2Proof.Machine.execAlignEnd n s
  | .catchObserveTimeout n => Sys2Proof.Machine.execCatchObserveTimeout n s
  | .polarityPulseEnd n => Sys2Proof.Machine.execPolarityPulseEnd n s
  | .stopTimeout n => Sys2Proof.Machine.execStopTimeout n s
  | .dcInjectionEnd n => Sys2Proof.Machine.execDcInjectionEnd n s
  | .obsConvTimeout n hfi => Sys2Proof.Machine.execObsConvTimeout n hfi s
  | .homingTimeout n => Sys2Proof.Machine.execHomingTimeout n s
  | .hardShortTrip n x => Sys2Proof.Machine.execHardShortTrip n x s
  | .windowTrip n low x => Sys2Proof.Machine.execWindowTrip n low x s
  | .busComparatorTrip n uv => Sys2Proof.Machine.execBusComparatorTrip n uv s
  | .comparatorRelease n k => Sys2Proof.Machine.execComparatorRelease n k s
  | .comparatorStartExit n k => Sys2Proof.Machine.execComparatorStartExit n k s
  | .vdsBlankingEnd n sw hot => Sys2Proof.Machine.execVdsBlankingEnd n sw hot s
  | .vdsTrip n sw => Sys2Proof.Machine.execVdsTrip n sw s
  | .short2WindowEnd n sw => Sys2Proof.Machine.execShort2WindowEnd n sw s
  | .bstWarnTrip n x => Sys2Proof.Machine.execBstWarnTrip n x s
  | .bstUvTrip n x => Sys2Proof.Machine.execBstUvTrip n x s
  | .brakeComparator n above => Sys2Proof.Machine.execBrakeComparator n above s
  | .brkOvertime n => Sys2Proof.Machine.execBrkOvertime n s
  | .limpBoundary n => Sys2Proof.Machine.execLimpBoundary n s
  | .limpComparatorTrip n a b c => Sys2Proof.Machine.execLimpComparatorTrip n a b c s
  | .limpDmaxEnd n => Sys2Proof.Machine.execLimpDmaxEnd n s
  | .offcal n => Sys2Proof.Machine.execOffcal n s
  | .zcal n => Sys2Proof.Machine.execZcal n s
  | .calibrationDone n a b c => Sys2Proof.Machine.execCalibrationDone n a b c s
  | .diagTestiWrite n v => Sys2Proof.Machine.execDiagTestiWrite n v s
  | .hallCodeAccepted n code => Sys2Proof.Machine.execHallCodeAccepted n code s
  | .speedZeroTimeout n enc => Sys2Proof.Machine.execSpeedZeroTimeout n enc s
  | .encoderEdge n a b => Sys2Proof.Machine.execEncoderEdge n a b s
  | .encoderIndex n => Sys2Proof.Machine.execEncoderIndex n s
  | .encLoad n => Sys2Proof.Machine.execEncLoad n s
  | .posCntClr n => Sys2Proof.Machine.execPosCntClr n s
  | .resolverDemod m sn cs => Sys2Proof.Machine.execResolverDemod m sn cs s
  | .resolverTrackUpdate m => Sys2Proof.Machine.execResolverTrackUpdate m s
  | .scxEnable m en => Sys2Proof.Machine.execScxEnable m en s
  | .mspiTrigger m k => Sys2Proof.Machine.execMspiTrigger m k s
  | .mspiSwtrig m k => Sys2Proof.Machine.execMspiSwtrig m k s
  | .mspiEntryDone m rx => Sys2Proof.Machine.execMspiEntryDone m rx s
  | .bankSwap n imm => Sys2Proof.Machine.execBankSwap n imm s
  | .bankWrite n b k j v => Sys2Proof.Machine.execBankWrite n b k j v s
  | .nodeWrite n v => Sys2Proof.Machine.execNodeWrite n v s
  | .auxRefWrite n vd v => Sys2Proof.Machine.execAuxRefWrite n vd v s
  | .loopCntClr n => Sys2Proof.Machine.execLoopCntClr n s
  | .obsReseed n => Sys2Proof.Machine.execObsReseed n s
  | .obsPcClr n => Sys2Proof.Machine.execObsPcClr n s
  | .tgtWrite n v => Sys2Proof.Machine.execTgtWrite n v s
  | .ptgtFracWrite n v => Sys2Proof.Machine.execPtgtFracWrite n v s
  | .posAck n => Sys2Proof.Machine.execPosAck n s
  | .pwmCntClr n => Sys2Proof.Machine.execPwmCntClr n s
  | .faultRaise idx => Sys2Proof.Machine.execFaultRaise idx s
  | .faultReoccurrence idx => Sys2Proof.Machine.execFaultReoccurrence idx s
  | .faultConditionAbsent idx => Sys2Proof.Machine.execFaultConditionAbsent idx s
  | .retryWaitExpiry idx => Sys2Proof.Machine.execRetryWaitExpiry idx s
  | .faultStateEnd idx => Sys2Proof.Machine.execFaultStateEnd idx s
  | .channelFaultExit n => Sys2Proof.Machine.execChannelFaultExit n s
  | .fltsClear => Sys2Proof.Machine.execFltsClear s
  | .clrLatched => Sys2Proof.Machine.execClrLatched s
  | .recovClr => Sys2Proof.Machine.execRecovClr s
  | .evtClr => Sys2Proof.Machine.execEvtClr s
  | .fltsCfgWrite v => Sys2Proof.Machine.execFltsCfgWrite v s
  | .fltsTimeWrite v => Sys2Proof.Machine.execFltsTimeWrite v s
  | .haltNFall => Sys2Proof.Machine.execHaltNFall s
  | .fbkHalt => Sys2Proof.Machine.execFbkHalt s
  | .fbkRelease => Sys2Proof.Machine.execFbkRelease s
  | .haltReleaseTest pinHigh => Sys2Proof.Machine.execHaltReleaseTest pinHigh s
  | .hltTransmit p => Sys2Proof.Machine.execHltTransmit p s
  | .haltSymbolReceived p => Sys2Proof.Machine.execHaltSymbolReceived p s
  | .haltRxExpiry p => Sys2Proof.Machine.execHaltRxExpiry p s
  | .safeReqAssert n b => Sys2Proof.Machine.execSafeReqAssert n b s
  | .safeBackstopTimeout n => Sys2Proof.Machine.execSafeBackstopTimeout n s
  | .safeSupplyTimeout => Sys2Proof.Machine.execSafeSupplyTimeout s
  | .rangerSelftestDone pass => Sys2Proof.Machine.execRangerSelftestDone pass s
  | .rangerSelftestTimeout => Sys2Proof.Machine.execRangerSelftestTimeout s
  | .lockstepMismatch => Sys2Proof.Machine.execLockstepMismatch s
  | .lodgeLivenessCheck count => Sys2Proof.Machine.execLodgeLivenessCheck count s
  | .groveWdtExpiry n => Sys2Proof.Machine.execGroveWdtExpiry n s
  | .loopHeartbeatTimeout n => Sys2Proof.Machine.execLoopHeartbeatTimeout n s
  | .clockMonitorWindow k count => Sys2Proof.Machine.execClockMonitorWindow k count s
  | .supplyMonitorSample vsup vdrv vio vcore vdda upd => Sys2Proof.Machine.execSupplyMonitorSample vsup vdrv vio vcore vdda upd s
  | .configScanTick => Sys2Proof.Machine.execConfigScanTick s
  | .recap => Sys2Proof.Machine.execRecap s
  | .stestNow => Sys2Proof.Machine.execStestNow s
  | .selftestScheduleTimer => Sys2Proof.Machine.execSelftestScheduleTimer s
  | .eccRateWindow errs => Sys2Proof.Machine.execEccRateWindow errs s
  | .otpReverifyPassStart => Sys2Proof.Machine.execOtpReverifyPassStart s
  | .otpReverifyPassDone bad => Sys2Proof.Machine.execOtpReverifyPassDone bad s
  | .verifyNow => Sys2Proof.Machine.execVerifyNow s
  | .supplyGood k => Sys2Proof.Machine.execSupplyGood k s
  | .supplyFail k => Sys2Proof.Machine.execSupplyFail k s
  | .powerOnReset => Sys2Proof.Machine.execPowerOnReset s
  | .resetNLow => Sys2Proof.Machine.execResetNLow s
  | .resetNHigh => Sys2Proof.Machine.execResetNHigh s
  | .devrst key => Sys2Proof.Machine.execDevrst key s
  | .softwareReset => Sys2Proof.Machine.execSoftwareReset s
  | .bootStepComplete m pinHigh => Sys2Proof.Machine.execBootStepComplete m pinHigh s
  | .bootStepTimeout => Sys2Proof.Machine.execBootStepTimeout s
  | .buckSoftstartTimeout => Sys2Proof.Machine.execBuckSoftstartTimeout s
  | .buckRestart => Sys2Proof.Machine.execBuckRestart s
  | .referenceGood => Sys2Proof.Machine.execReferenceGood s
  | .referenceFallback => Sys2Proof.Machine.execReferenceFallback s
  | .pllLocked k => Sys2Proof.Machine.execPllLocked k s
  | .pllUnlock k => Sys2Proof.Machine.execPllUnlock k s
  | .domOn w => Sys2Proof.Machine.execDomOn w s
  | .domOff w => Sys2Proof.Machine.execDomOff w s
  | .domainTransitionStart => Sys2Proof.Machine.execDomainTransitionStart s
  | .domainReady a b c => Sys2Proof.Machine.execDomainReady a b c s
  | .domainOffComplete => Sys2Proof.Machine.execDomainOffComplete s
  | .domFailTimeout => Sys2Proof.Machine.execDomFailTimeout s
  | .vdrvRegEnWrite b => Sys2Proof.Machine.execVdrvRegEnWrite b s
  | .standby key wakeHigh sig => Sys2Proof.Machine.execStandby key wakeHigh sig s
  | .standbyEntryComplete => Sys2Proof.Machine.execStandbyEntryComplete s
  | .wakePinHigh => Sys2Proof.Machine.execWakePinHigh s
  | .linkSignalDetectWake p => Sys2Proof.Machine.execLinkSignalDetectWake p s
  | .canWakePattern => Sys2Proof.Machine.execCanWakePattern s
  | .statusPoll b => Sys2Proof.Machine.execStatusPoll b s
  | .shortRead w d edges late ecc => Sys2Proof.Machine.execShortRead w d edges late ecc s
  | .shortWrite w d edges => Sys2Proof.Machine.execShortWrite w d edges s
  | .linearRead h d edges late ecc => Sys2Proof.Machine.execLinearRead h d edges late ecc s
  | .linearWrite h d edges => Sys2Proof.Machine.execLinearWrite h d edges s
  | .wakeFrame t => Sys2Proof.Machine.execWakeFrame t s
  | .hspiCntClr => Sys2Proof.Machine.execHspiCntClr s
  | .grvStart n => Sys2Proof.Machine.execGrvStart n s
  | .grvStop n => Sys2Proof.Machine.execGrvStop n s
  | .grvReset n => Sys2Proof.Machine.execGrvReset n s
  | .grvVerify n => Sys2Proof.Machine.execGrvVerify n s
  | .grvVerifyDone n => Sys2Proof.Machine.execGrvVerifyDone n s
  | .grvLoadRom n => Sys2Proof.Machine.execGrvLoadRom n s
  | .grvLoadDone n => Sys2Proof.Machine.execGrvLoadDone n s
  | .grvHostEv n => Sys2Proof.Machine.execGrvHostEv n s
  | .grvCntClr n => Sys2Proof.Machine.execGrvCntClr n s
  | .grvSignal n m => Sys2Proof.Machine.execGrvSignal n m s
  | .mboxFree n m => Sys2Proof.Machine.execMboxFree n m s
  | .programRamWrite n a w => Sys2Proof.Machine.execProgramRamWrite n a w s
  | .dbgHalt => Sys2Proof.Machine.execDbgHalt s
  | .dbgResume => Sys2Proof.Machine.execDbgResume s
  | .dbgStep fe de => Sys2Proof.Machine.execDbgStep fe de s
  | .breakpointHit k => Sys2Proof.Machine.execBreakpointHit k s
  | .wfeWake n => Sys2Proof.Machine.execWfeWake n s
  | .groveTimerExpiry n t => Sys2Proof.Machine.execGroveTimerExpiry n t s
  | .nop n => Sys2Proof.Machine.execNop n s
  | .add n rd ra rb => Sys2Proof.Machine.execAdd n rd ra rb s
  | .sub n rd ra rb => Sys2Proof.Machine.execSub n rd ra rb s
  | .and n rd ra rb => Sys2Proof.Machine.execAnd n rd ra rb s
  | .or n rd ra rb => Sys2Proof.Machine.execOr n rd ra rb s
  | .xor n rd ra rb => Sys2Proof.Machine.execXor n rd ra rb s
  | .shl n rd ra rb => Sys2Proof.Machine.execShl n rd ra rb s
  | .shr n rd ra rb => Sys2Proof.Machine.execShr n rd ra rb s
  | .sar n rd ra rb => Sys2Proof.Machine.execSar n rd ra rb s
  | .mul n rd ra rb => Sys2Proof.Machine.execMul n rd ra rb s
  | .cmp n ra rb => Sys2Proof.Machine.execCmp n ra rb s
  | .min n rd ra rb => Sys2Proof.Machine.execMin n rd ra rb s
  | .max n rd ra rb => Sys2Proof.Machine.execMax n rd ra rb s
  | .jpost n rd ra idx ecc => Sys2Proof.Machine.execJpost n rd ra idx ecc s
  | .stop n => Sys2Proof.Machine.execStop n s
  | .tset n ra idx => Sys2Proof.Machine.execTset n ra idx s
  | .msg n rd ra rb len ecc => Sys2Proof.Machine.execMsg n rd ra rb len ecc s
  | .addi n rd ra idx => Sys2Proof.Machine.execAddi n rd ra idx s
  | .cmpi n ra idx => Sys2Proof.Machine.execCmpi n ra idx s
  | .andi n rd ra idx => Sys2Proof.Machine.execAndi n rd ra idx s
  | .ori n rd ra idx => Sys2Proof.Machine.execOri n rd ra idx s
  | .xori n rd ra idx => Sys2Proof.Machine.execXori n rd ra idx s
  | .shli n rd ra idx => Sys2Proof.Machine.execShli n rd ra idx s
  | .shri n rd ra idx => Sys2Proof.Machine.execShri n rd ra idx s
  | .sari n rd ra idx => Sys2Proof.Machine.execSari n rd ra idx s
  | .lui n rd idx => Sys2Proof.Machine.execLui n rd idx s
  | .fadd n rd ra rb => Sys2Proof.Machine.execFadd n rd ra rb s
  | .fsub n rd ra rb => Sys2Proof.Machine.execFsub n rd ra rb s
  | .fmul n rd ra rb => Sys2Proof.Machine.execFmul n rd ra rb s
  | .fdiv n rd ra rb => Sys2Proof.Machine.execFdiv n rd ra rb s
  | .fmin n rd ra rb => Sys2Proof.Machine.execFmin n rd ra rb s
  | .fmax n rd ra rb => Sys2Proof.Machine.execFmax n rd ra rb s
  | .fcmp n ra rb => Sys2Proof.Machine.execFcmp n ra rb s
  | .fsqrt n rd ra => Sys2Proof.Machine.execFsqrt n rd ra s
  | .fabs n rd ra => Sys2Proof.Machine.execFabs n rd ra s
  | .fneg n rd ra => Sys2Proof.Machine.execFneg n rd ra s
  | .itof n rd ra => Sys2Proof.Machine.execItof n rd ra s
  | .ftoi n rd ra => Sys2Proof.Machine.execFtoi n rd ra s
  | .fclamp n rd ra rb => Sys2Proof.Machine.execFclamp n rd ra rb s
  | .ld n rd ra idx ecc => Sys2Proof.Machine.execLd n rd ra idx ecc s
  | .st n rd ra idx => Sys2Proof.Machine.execSt n rd ra idx s
  | .nrd n rd ra idx => Sys2Proof.Machine.execNrd n rd ra idx s
  | .nwr n rd ra idx => Sys2Proof.Machine.execNwr n rd ra idx s
  | .crd n rd ra idx => Sys2Proof.Machine.execCrd n rd ra idx s
  | .cwr n rd ra idx => Sys2Proof.Machine.execCwr n rd ra idx s
  | .brd n rd ra idx => Sys2Proof.Machine.execBrd n rd ra idx s
  | .bwr n rd ra idx => Sys2Proof.Machine.execBwr n rd ra idx s
  | .b n cond t => Sys2Proof.Machine.execB n cond t s
  | .call n t => Sys2Proof.Machine.execCall n t s
  | .ret n => Sys2Proof.Machine.execRet n s
  | .jr n ra => Sys2Proof.Machine.execJr n ra s
  | .wfe n rd idx => Sys2Proof.Machine.execWfe n rd idx s
  | .kick n ra => Sys2Proof.Machine.execKick n ra s
  | .sev n idx => Sys2Proof.Machine.execSev n idx s
  | .jobStart origin typ tgt params => Sys2Proof.Machine.execJobStart origin typ tgt params s
  | .jobSuspend origin handle => Sys2Proof.Machine.execJobSuspend origin handle s
  | .jobResume origin handle => Sys2Proof.Machine.execJobResume origin handle s
  | .jobCancel origin handle => Sys2Proof.Machine.execJobCancel origin handle s
  | .jobRelease origin handle => Sys2Proof.Machine.execJobRelease origin handle s
  | .jobDispatch k cold => Sys2Proof.Machine.execJobDispatch k cold s
  | .jobSuspendPoint k m => Sys2Proof.Machine.execJobSuspendPoint k m s
  | .jobCancelComplete k m => Sys2Proof.Machine.execJobCancelComplete k m s
  | .jobWorkComplete k m => Sys2Proof.Machine.execJobWorkComplete k m s
  | .jobFailure k d m => Sys2Proof.Machine.execJobFailure k d m s
  | .identRestTimeout k => Sys2Proof.Machine.execIdentRestTimeout k s
  | .cmpSelftestComparatorDone n pass => Sys2Proof.Machine.execCmpSelftestComparatorDone n pass s
  | .otpRowProgrammed k ok hot got => Sys2Proof.Machine.execOtpRowProgrammed k ok hot got s
  | .trcForce n => Sys2Proof.Machine.execTrcForce n s
  | .trcEnd n => Sys2Proof.Machine.execTrcEnd n s
  | .traceFlushTimeout n => Sys2Proof.Machine.execTraceFlushTimeout n s
  | .lnkEn p b => Sys2Proof.Machine.execLnkEn p b s
  | .lnkRetrain p => Sys2Proof.Machine.execLnkRetrain p s
  | .lnkCntClr p => Sys2Proof.Machine.execLnkCntClr p s
  | .signalDetect p => Sys2Proof.Machine.execSignalDetect p s
  | .detectComplete p => Sys2Proof.Machine.execDetectComplete p s
  | .trainDwellTimeout p => Sys2Proof.Machine.execTrainDwellTimeout p s
  | .configTimeout p => Sys2Proof.Machine.execConfigTimeout p s
  | .signalLoss p => Sys2Proof.Machine.execSignalLoss p s
  | .tra1Received p cap pid => Sys2Proof.Machine.execTra1Received p cap pid s
  | .tra2Received p cap pid sent16 => Sys2Proof.Machine.execTra2Received p cap pid sent16 s
  | .codeError p pos v rd place => Sys2Proof.Machine.execCodeError p pos v rd place s
  | .packetReceived p clean abort lseq ws pos => Sys2Proof.Machine.execPacketReceived p clean abort lseq ws pos s
  | .ackReceived p w pos => Sys2Proof.Machine.execAckReceived p w pos s
  | .nakReceived p w pos => Sys2Proof.Machine.execNakReceived p w pos s
  | .crdReceived p w pos => Sys2Proof.Machine.execCrdReceived p w pos s
  | .ackTransmit p => Sys2Proof.Machine.execAckTransmit p s
  | .nakTransmit p => Sys2Proof.Machine.execNakTransmit p s
  | .creditUpdate p v => Sys2Proof.Machine.execCreditUpdate p v s
  | .replayTimeout p => Sys2Proof.Machine.execReplayTimeout p s
  | .packetTransmitStart p => Sys2Proof.Machine.execPacketTransmitStart p s
  | .bertSyncLoss p m => Sys2Proof.Machine.execBertSyncLoss p m s
  | .tsyExchangeStart => Sys2Proof.Machine.execTsyExchangeStart s
  | .tsyReqReceived p b pos => Sys2Proof.Machine.execTsyReqReceived p b pos s
  | .tsyRspTransmit p => Sys2Proof.Machine.execTsyRspTransmit p s
  | .tsyEpochTransmit p => Sys2Proof.Machine.execTsyEpochTransmit p s
  | .tsyRspReceived p b pos => Sys2Proof.Machine.execTsyRspReceived p b pos s
  | .tsyEpochReceived p b pos => Sys2Proof.Machine.execTsyEpochReceived p b pos s
  | .tsyExchangeLapse => Sys2Proof.Machine.execTsyExchangeLapse s
  | .rdRequest ecc => Sys2Proof.Machine.execRdRequest ecc s
  | .wrRequest => Sys2Proof.Machine.execWrRequest s
  | .msgRequest => Sys2Proof.Machine.execMsgRequest s
  | .jobRequest => Sys2Proof.Machine.execJobRequest s
  | .faultRecord => Sys2Proof.Machine.execFaultRecord s
  | .linkUpRecord => Sys2Proof.Machine.execLinkUpRecord s
  | .linkDownRecord => Sys2Proof.Machine.execLinkDownRecord s
  | .beacon => Sys2Proof.Machine.execBeacon s
  | .tsyncQuery => Sys2Proof.Machine.execTsyncQuery s
  | .tsyncSet => Sys2Proof.Machine.execTsyncSet s
  | .haltPacketAssert => Sys2Proof.Machine.execHaltPacketAssert s
  | .haltPacketRelease => Sys2Proof.Machine.execHaltPacketRelease s
  | .transactionResponse => Sys2Proof.Machine.execTransactionResponse s
  | .transactionTimeout t => Sys2Proof.Machine.execTransactionTimeout t s
  | .tagQuarantineEnd t => Sys2Proof.Machine.execTagQuarantineEnd t s
  | .txnGo => Sys2Proof.Machine.execTxnGo s
  | .hrxPop => Sys2Proof.Machine.execHrxPop s
  | .txnCntClr => Sys2Proof.Machine.execTxnCntClr s
  | .fabCntClr => Sys2Proof.Machine.execFabCntClr s
  | .forget => Sys2Proof.Machine.execForget s
  | .routeTableWrite d w => Sys2Proof.Machine.execRouteTableWrite d w s
  | .nodeIdWrite w => Sys2Proof.Machine.execNodeIdWrite w s
  | .beaconTimer => Sys2Proof.Machine.execBeaconTimer s
  | .rootRecordExpiry => Sys2Proof.Machine.execRootRecordExpiry s
  | .electionTimeout => Sys2Proof.Machine.execElectionTimeout s
  | .enumerationStart => Sys2Proof.Machine.execEnumerationStart s
  | .timeSet => Sys2Proof.Machine.execTimeSet s
  | .timeCntClr => Sys2Proof.Machine.execTimeCntClr s
  | .syncOutPulse => Sys2Proof.Machine.execSyncOutPulse s
  | .srefSlot n => Sys2Proof.Machine.execSrefSlot n s
  | .smeasSlot n => Sys2Proof.Machine.execSmeasSlot n s
  | .srefReceived => Sys2Proof.Machine.execSrefReceived s
  | .smeasReceived => Sys2Proof.Machine.execSmeasReceived s
  | .standFollowTimeout n => Sys2Proof.Machine.execStandFollowTimeout n s
  | .timeLossHoldoverExpiry => Sys2Proof.Machine.execTimeLossHoldoverExpiry s
  | .standCntClr => Sys2Proof.Machine.execStandCntClr s
  | .canInitWrite m b busy => Sys2Proof.Machine.execCanInitWrite m b busy s
  | .canRecover m => Sys2Proof.Machine.execCanRecover m s
  | .canFifoPop m => Sys2Proof.Machine.execCanFifoPop m s
  | .canBpend m w started => Sys2Proof.Machine.execCanBpend m w started s
  | .canBabort m w started => Sys2Proof.Machine.execCanBabort m w started s
  | .canFilterApply m w => Sys2Proof.Machine.execCanFilterApply m w s
  | .canFrameReceived m hdr dlc rtr data sof esi pex => Sys2Proof.Machine.execCanFrameReceived m hdr dlc rtr data sof esi pex s
  | .canTxDone m sof => Sys2Proof.Machine.execCanTxDone m sof s
  | .canError m e => Sys2Proof.Machine.execCanError m e s
  | .canRecoveryStart m => Sys2Proof.Machine.execCanRecoveryStart m s
  | .canRecoveryDone m => Sys2Proof.Machine.execCanRecoveryDone m s
  | .canDominantTimeout => Sys2Proof.Machine.execCanDominantTimeout s
  | .reclaim => Sys2Proof.Machine.execReclaim s
  | .addressClaimedReceived sa name => Sys2Proof.Machine.execAddressClaimedReceived sa name s
  | .requestAddressClaimed da => Sys2Proof.Machine.execRequestAddressClaimed da s
  | .claimTimeout => Sys2Proof.Machine.execClaimTimeout s
  | .cannotClaimDelay => Sys2Proof.Machine.execCannotClaimDelay s
  | .partnerLeaveTimeout sa => Sys2Proof.Machine.execPartnerLeaveTimeout sa s
  | .tpCmReceived sa da d => Sys2Proof.Machine.execTpCmReceived sa da d s
  | .tpDtReceived sa da d => Sys2Proof.Machine.execTpDtReceived sa da d s
  | .etpCmReceived sa da d => Sys2Proof.Machine.execEtpCmReceived sa da d s
  | .etpDtReceived sa da d => Sys2Proof.Machine.execEtpDtReceived sa da d s
  | .sessionStart kind da => Sys2Proof.Machine.execSessionStart kind da s
  | .sessionNext => Sys2Proof.Machine.execSessionNext s
  | .sessionRelease => Sys2Proof.Machine.execSessionRelease s
  | .sessionAbort => Sys2Proof.Machine.execSessionAbort s
  | .tpTimeout idx => Sys2Proof.Machine.execTpTimeout idx s
  | .bamPacketTimer idx => Sys2Proof.Machine.execBamPacketTimer idx s
  | .holdCtsTimer idx => Sys2Proof.Machine.execHoldCtsTimer idx s
  | .gatewayRequest sa da d idx ecc => Sys2Proof.Machine.execGatewayRequest sa da d idx ecc s
  | .patchDataWrite w => Sys2Proof.Machine.execPatchDataWrite w s
  | .patchApply => Sys2Proof.Machine.execPatchApply s
  | .patchVerifyDone => Sys2Proof.Machine.execPatchVerifyDone s
  | .patchClr => Sys2Proof.Machine.execPatchClr s
  | .gpioEdge idx level => Sys2Proof.Machine.execGpioEdge idx level s
  | .thermalComparator sensor trip above => Sys2Proof.Machine.execThermalComparator sensor trip above s
  | .illegalOpcode n ecc => Sys2Proof.Machine.execIllegalOpcode n ecc s
  | .testAccessPortClock rising tms tdi pins => Sys2Proof.Machine.execTestAccessPortClock rising tms tdi pins s
  | .testPinChange b => Sys2Proof.Machine.execTestPinChange b s
  | .canBusIntegrated m => Sys2Proof.Machine.execCanBusIntegrated m s
  | .bertCheckerSynchronised p => Sys2Proof.Machine.execBertCheckerSynchronised p s

end Sys2Proof.Machine
end

