-- ==== Sys2Proof/Safety.lean ====
section
/-! DEFINITION. What a sound state and a safe bridge are, in the terms the statements use. -/

namespace Sys2Proof.Machine

/-- The memory windows are in their canonical form: addresses strictly rising, no entry equal to what an unlisted address reads as. -/
def Memory.wf (m : List Host.Cell) : Bool := mapWf memReset 0 m

/-- The registers are in the same form. -/
def Registers.wf (m : List (Nat × Word)) : Bool := mapWf regReset 0 m

/-- The state's sparse contents are canonical, so that equal contents are equal data. -/
def State.Canon (s : State) : Prop := Registers.wf s.regs = true ∧ Memory.wf s.mem = true

/-- No leg of a bridge has both switches on (R21). -/
def legsSafe (g : Sw) : Prop := conflict g = 0#6

/-! ### What a command leaves unchanged -/

/-- The bits of the field of instance `i`: the address of its word, and its bits there. -/
def Fld.at (f : Fld) (i : Nat) : Nat × Word := (f.addr i, f.mask)

/-- The bits of the running copy of the field. -/
def Fld.runAt (f : Fld) (i : Nat) : Nat × Word := (f.runAddr i, f.mask)

/-- The bits of the word at `a` that `l` covers. -/
def maskAt (l : List (Nat × Word)) (a : Nat) : Word := l.foldr (fun e w => if e.1 = a then e.2 ||| w else w) 0#32

/-- Every register bit outside `m`, and every bit of a running copy, is unchanged. -/
def RegsKept (m : Nat → Word) (s t : State) : Prop := ∀ a, t.word a &&& ~~~ m a = s.word a &&& ~~~ m a

/-- Every byte of the memory windows but those of [lo, hi) is unchanged. -/
def MemKept (lo hi : Nat) (s t : State) : Prop := ∀ a, a < lo ∨ hi ≤ a → t.byte a = s.byte a

/-- The state without what its registers and memory windows hold. -/
def State.rest (s : State) : State := { s with regs := [], mem := [] }

/-- Nothing changes but the register bits of `l`. -/
def OnlyRegs (l : List (Nat × Word)) (s t : State) : Prop := RegsKept (maskAt l) s t ∧ t.mem = s.mem ∧ t.rest = s.rest

/-- Nothing changes but the register bits of `l` and the record of channel `n`. -/
def OnlyChan (n : Ch) (l : List (Nat × Word)) (s t : State) : Prop :=
  RegsKept (maskAt l) s t ∧ t.mem = s.mem ∧ ({ t with chan := s.chan }).rest = s.rest ∧ ∀ m : Ch, m ≠ n → t.ch m = s.ch m

/-! ### What follows a raise and a change of the gates

A raise of a fault, a change of a channel's state and the settling of the gates reach the fault registers, the channel states, the jobs,
the Grove events and, by the reports and packets they send, the fabric. -/

/-- The fields that they reach, each with the number of its instances. -/
def settleFields : List (Fld × Nat) :=
  [(R.CH_STATUS_STATE, 4), (R.CH_STATUS_RUN_REQ, 4), (R.CH_STATUS_HO_DEFER, 4), (R.CH_STATUS_HO_BLEND, 4), (R.CH_LAST_FROM, 4),
   (R.CH_LAST_TO, 4), (R.CH_LAST_CAUSE, 4), (R.CH_IRQ_STATE_CHG, 4), (R.GRV_EVT_PEND, 4), (R.GRV_STATUS_WDT_ARMED, 4),
   (R.OBS_STATUS_OBS_STATE, 4), (R.OBS_STATUS_HFI_STATE, 4), (R.OBS_STATUS_TIMED_OUT, 4), (R.OBS_STATUS_INJECTING, 4),
   (R.SPT_STATUS_SU_PHASE, 4), (R.SPT_STATUS_BRK_PHASE, 4), (R.SPT_STATUS_HOMING, 4), (R.SPT_TGT, 4), (R.SPT_PTGT_TURNS, 4),
   (R.SPT_PTGT_FRAC, 4), (R.GD_STATUS_PRECHG, 4), (R.GD_STATUS_SHORT2, 4),
   (R.GD_STATUS_BST_UV, 4), (R.GD_STATUS_BST_WARN, 4), (R.GANG_STATUS_SSTATE, 4), (R.GANG_IRQ_UNFORMED, 4), (R.STAND_STATUS_FORMED, 1),
   (R.STAND_STATUS_HOLD_EXP, 1), (R.FBK_STATUS_PIN, 1), (R.CMP_STATUS_LIMP_ACTIVE, 4),
   (R.CMP_STATUS_SELFTEST_BUSY, 4), (R.CMP_STATUS_TRIPPED, 4), (R.CMP_STATUS_BAND_PENDING, 4), (R.DIAG_STATUS_BUSY, 4),
   (R.DIAG_STATUS_STEP, 4), (R.TRC_STATUS_ACTIVE, 4), (R.TRC_STATUS_STREAMING, 4), (R.BRK_STATUS_ON, 4), (R.BRK_STATUS_FORCED, 4),
   (R.BRK_IRQ_ON_EVT, 4), (R.BRK_ONTIME_TIME, 4), (R.LNK_STATUS_STATE, 4), (R.LNK_STATUS_BERT_SYNC, 4), (R.JOB_IRQ_ENDED, 1),
   (R.TRCR_PKTS, 1), (R.FAB_STATUS_ENUM_BUSY, 1), (R.FLT_IRQ_RAISED, 1), (R.FLT_IRQ_LATCHED, 1), (R.FLT_IRQ_ESCALATED, 1),
   (R.FLT_IRQ_ENDED, 1), (R.FLT_FIRST_VALID, 1), (R.FLT_FIRST_CLASS, 1), (R.FLT_FIRST_INDEX, 1), (R.FLT_FIRST_TIME_TIME, 1),
   (R.FLT_LAST_CLASS, 1), (R.FLT_LAST_INDEX, 1), (R.FBK_STATUS_HALTED, 1), (R.FBK_STATUS_CAUSE, 1), (R.FBK_STATUS_REL_BLOCKED, 1),
   (R.FBK_STATUS_DRIVING, 1), (R.FBK_IRQ_HALT_EVT, 1), (R.FBK_HALT_TIME_TIME, 1), (R.FBK_FWD_DROP, 1), (R.ROUTE_IRQ_DROP, 1),
   (R.ROUTE_DROPPED, 1), (R.ROUTE_NOROUTE_TX, 1), (R.ROUTE_CAP_VALID, 1), (R.ROUTE_CAP_CAUSE, 1), (R.ROUTE_CAP_INPORT, 1),
   (R.ROUTE_CAP_DST, 1), (R.ROUTE_CAP_SRC, 1), (R.TXN_CNT_IN_BUSY, 1), (R.SUP_STATUS_SAFE_REQ, 1), (R.SUP_SAFE_CAUSE_CAUSE, 1), (R.SUP_IRQ_SAFE, 1)]

/-- The bits of the word at `a` that they reach: those fields, and every FAULT word (R85, R95). -/
def settleBits (a : Nat) : Word :=
  if a % 256 = 0x18 then 0xFFFFFFFF#32
  else maskAt (settleFields.flatMap fun e => (List.range e.2).map fun i => e.1.at i) a

/-- The output nodes of the slices: 0x47, 0x57 and so on to 0x97 (R261). -/
def isOutNode (k : Nat) : Bool := decide (0x47 ≤ k) && decide (k ≤ 0x97) && k % 16 == 7

/-- The record of a channel without what they change of it. -/
def Chan.still (c : Chan) : Chan :=
  { c with
    pend := none, disarmed := false, failBy := none, loopDead := false, trcHit := false, homeRun := false,
    diag.pulse := none, car.prePulses := 0, car.preLeft := 0, gang.pass := [], gang.waits := false,
    prot.gates := 0, prot.swAt := Vector.replicate 6 0, prot.lowMax := Vector.replicate 3 0, prot.ovNow := 0,
    prot.ovEnd := Vector.replicate 3 none, prot.vdsOff := 0, prot.hsOff := 0, prot.winOff := 0, prot.vdsBlank := 0, prot.vdsFilt := 0,
    prot.limitOff := false, prot.limpCfg := 0, prot.limpI := 0, prot.limpFb := (0, 0), prot.limpSector := 0, prot.limpBack := false, prot.brkOn := false, prot.brkSince := 0, prot.brkAcc := 0,
    prot.brkCut := false, eng.slices := c.eng.slices.map fun x => { x with active := false, out := 0#32 }
    eng.nodes := c.eng.nodes.filter fun e => !isOutNode e.1
    obs.obs := Est.reset, obs.hfi := Est.reset, obs.inj := Inj.reset, obs.ran := false, ho.fb := 0, ho.fb2 := 0, ho.ofs := 0, ho.last := 0
    spt.ptgt := 0, trc.gap := false, trc.sgap := false, trc.words := [] }

/-- The record of a port without what they change of it. -/
def LinkPort.still (l : LinkPort) : LinkPort := { l with egress := [], cum := Vector.replicate 4 0, bert := false }

/-- The state without what they change of it: the fault records and their orders, the jobs, the channel and port records in part, the
enumeration in progress, what waits to be sent or served, and the registers. -/
def State.still (s : State) : State :=
  { s with
    regs := [], flt := [], fltSeq := 0, haltSeq := 0, rngHalt := false, fwdSent := [], jobs := Vector.replicate 16 Job.reset, jobSeq := 0,
    free := 0, rng.stestReq := 0, pwrQ := [], inq := [], chan := s.chan.map Chan.still, link := s.link.map LinkPort.still,
    fab.step := .idle, fab.answer := none, fab.todo := [], fab.writes := [], fab.fresh := [], fab.full := false, fab.renum := false,
    fab.gone := [], fab.learn := false, fab.tables := [] }

/-- Nothing changes but the register bits of `l` and what a raise or the settling of the gates reaches. -/
def Settled (l : List (Nat × Word)) (s t : State) : Prop :=
  RegsKept (fun a => settleBits a ||| maskAt l a) s t ∧ t.still = s.still

/-! ### The link ports -/

/-- Port `p` is there: PD_LINK is on, and the part has it (R4, R28). -/
def State.portUp (s : State) (p : Ch) : Prop := s.domOn dLink = true ∧ (s.hl2880 = false ∨ p.val < 2)

/-- What follows every event of a port: the root's enumeration looks at what has become of its exchange, and the gates settle. -/
def State.after (s : State) : State := s.enumPump.settleAll

/-- Nothing changes but the register bits of `l` and the record of port `p`. -/
def OnlyPort (p : Ch) (l : List (Nat × Word)) (s t : State) : Prop :=
  OnlyRegs l s { t with link := s.link } ∧ ∀ q : Ch, q ≠ p → t.lp q = s.lp q

/-- A port that has just sent `y` in cycle `now`: the characters on its line, and the running disparity after them (R388). -/
def LinkPort.says (l : LinkPort) (p : Ch) (now : Nat) (y : Sym) : LinkPort :=
  { l with tx := some y, line := (codeLine y.chars (xor l.disp (Config.fillTurns p.val now))).1,
           disp := (codeLine y.chars (xor l.disp (Config.fillTurns p.val now))).2 }

/-! ### The Grove cores -/

/-- The core of channel `n` issues `op`: its channel is powered, it is in RUNNING, not frozen and at no
breakpoint, and the word at PC spells `op` (R308, R319, R330). -/
def State.issues (s : State) (n : Ch) (op : GOp) : Prop :=
  s.chOn n = true ∧ s.core n = 1 ∧ s.frozen n = false ∧ s.breaks n = false ∧ gDecode (s.gFetch n) = some op

/-- The flags N, Z, C, V of a core. -/
def Grv.flags (g : Grv) : Bool × Bool × Bool × Bool := (g.n, g.z, g.c, g.v)

/-- An instruction has run on channel `n`: rd holds `r`, g0 holding 0 still, the flags are `f`, PC has gone on by one word, and besides the
cycle count nothing else has changed. -/
def GroveDone (n : Ch) (rd : GReg) (r : Word) (f : Bool × Bool × Bool × Bool) (s t : State) : Prop :=
  t.gv n rd = (if rd = 0 then 0#32 else r) ∧ (∀ q, q ≠ rd → t.gv n q = s.gv n q) ∧ (t.grv n).flags = f ∧
    t.gpc n = (s.gpc n + 1) % 2 ^ 14 ∧
    t.ch n = { s.ch n with grv := { s.grv n with g := (t.grv n).g, n := f.1, z := f.2.1, c := f.2.2.1, v := f.2.2.2, busy := (t.grv n).busy, past := false } } ∧
    OnlyChan n [R.GRV_STATUS_PC.at n.val] s t

/-- The same for an instruction without a destination. -/
def GroveRan (n : Ch) (f : Bool × Bool × Bool × Bool) (s t : State) : Prop := GroveDone n 0 0#32 f s t

end Sys2Proof.Machine
end

