-- ==== Sys2Proof/WellFormed.lean ====
section
/-! DEFINITION. Which commands are well formed: the list operands hold what the wire, the packet or the row can carry. A meaning is total and
needs no well-formedness; what lies beyond a form's length is not looked at. -/

namespace Sys2Proof

/-- The bytes after the first of a host SPI frame are no more than its edges carry (R109). -/
def frameBytes (d : List (BitVec 8)) (edges : Nat) : Bool := decide (d.length + 1 ≤ (edges + 7) / 8)

/-- A command's list operands are within their form. -/
def Instr.wf : Instr → Bool
  | .eccRateWindow errs => errs.all fun e => decide (e.1.toNat < 20)
  | .shortRead _ d edges _ _ => frameBytes d edges
  | .shortWrite _ d edges => frameBytes d edges
  | .linearRead _ d edges _ _ => frameBytes d edges
  | .linearWrite _ d edges => frameBytes d edges
  | .jobStart _ _ _ params => decide (params.length ≤ 7)
  | .jobSuspendPoint _ m => decide (m.length ≤ 14)
  | .jobCancelComplete _ m => decide (m.length ≤ 14)
  | .jobWorkComplete _ m => decide (m.length ≤ 14)
  | .jobFailure _ _ m => decide (m.length ≤ 14)
  | .otpRowProgrammed _ _ _ got => decide (got.length ≤ 8)
  | .packetReceived _ _ _ _ ws _ => decide (ws.length ≤ 69)
  | .bertSyncLoss _ m => decide (m.length ≤ 3)
  | .rdRequest ecc => ecc.all fun i => decide (i < 64)
  | .canFrameReceived _ _ _ _ data _ _ _ => decide (data.length ≤ 64)
  | .tpCmReceived _ _ d => decide (d.length = 8)
  | .tpDtReceived _ _ d => decide (d.length = 8)
  | .etpCmReceived _ _ d => decide (d.length = 8)
  | .etpDtReceived _ _ d => decide (d.length = 8)
  | .gatewayRequest _ _ d i ecc => (i.isSome || decide (d.length = 8)) && ecc.all fun e => decide (e < 64)
  | _ => true

end Sys2Proof
end

