-- ==== Sys2Proof/Certificates/Slice0/Obligations.lean ====
section
/-! DEFINITION. The statements for the provers. -/

open Sys2Proof Sys2Proof.Machine

/-- A step with a command at the front of the queue is that command's meaning on the state with the queue's rest; with an empty
queue one clock cycle passes, which is this model's choice (log 11): time counts, and the gates of the powered channels follow their dead
times. -/
def Obligations.StepRunsFrontCommand : Prop :=
  (∀ (s : State) (c : Instr) (l : List Instr), s.pending = c :: l → step s = exec c { s with pending := l }) ∧
  (∀ (s : State), s.pending = [] → ∃ t u, step s = .next t ∧ t = u.forCh (fun n v => v.whenCh n fun v => v.takeGates n) ∧
    u.now = s.now + 1 ∧ (s.timeRuns = false → u.canopy = s.canopy) ∧
    (s.timeRuns = true ↔ s.rd R.CLK_STATUS_PWMPLL_LOCK 0 ≠ 0 ∧ (s.fr srcMonPclk).cond = false) ∧
    (s.timeRuns = true → (u.canopy : Int) = ((s.canopy : Int) + 32 * 2 ^ 32 + s.rate) % 2 ^ 101) ∧
    { u with now := s.now, canopy := s.canopy } = s ∧ Settled [] u t)

/-- R137 to R140, R145: the channel commands of the host in the states that accept them, ARM under every condition of R139, and what
each leaves unchanged.
R137, R139, R140: a channel command that the state does not accept is ignored and sets CMD_IGNORED; an ARM refused in a state other
than HOLD reports its reason. -/
def Obligations.ChannelCommandsAct : Prop :=
  (∀ (n : Ch) (s : State), s.chOn n = true →
      -- ARM
      (s.chState n = .idle → s.run R.CH_MODE_GANG n.val ≠ 2 → s.rd R.CMP_STATUS_BAND_PENDING n.val = 0 → s.tripOn n = false →
        s.rd R.FBK_STATUS_HALTED 0 = 0 → s.bit R.PWR_STATUS_GOOD 0 1 = true → s.bit R.PWR_STATUS_GOOD 0 4 = true →
        s.rd R.CH_STATUS_COMMIT_PENDING n.val = 0 → s.bridgeJob n = false →
        ∃ t, exec (.chArm n) s = .next t ∧ t.ch n = { s.ch n with pend := some (askWins (s.ch n).pend (.arming, byCommand)) } ∧
          OnlyChan n [] s t) ∧
      -- RUN
      (s.run R.CH_MODE_GANG n.val ≠ 2 →
        s.chState n = .arming ∨ s.chState n = .armed ∨ s.chState n = .fault →
        ∃ t, exec (.chRun n) s = .next t ∧ t.rd R.CH_STATUS_RUN_REQ n.val = 1 ∧ OnlyRegs [R.CH_STATUS_RUN_REQ.at n.val] s t) ∧
      -- STOP
      (s.chState n = .starting ∨ s.chState n = .running →
        ∃ t, exec (.chStop n) s = .next t ∧ t.rd R.CH_STATUS_RUN_REQ n.val = 0 ∧ t.rd R.CH_STATUS_HO_DEFER n.val = 0 ∧
          t.rd R.CH_STATUS_HO_BLEND n.val = 0 ∧ t.ch n = { s.ch n with
            pend := some (askWins (s.ch n).pend (.stopping, byStop))
            ho := { (s.ch n).ho with fb := s.run R.CH_MODE_FB n.val, fb2 := s.run R.CH_MODE_FB2 n.val, ofs := 0, last := 0 } } ∧
          OnlyChan n [R.CH_STATUS_RUN_REQ.at n.val, R.CH_STATUS_HO_DEFER.at n.val, R.CH_STATUS_HO_BLEND.at n.val] s t) ∧
      (s.chState n = .limp →
        ∃ t, exec (.chStop n) s = .next t ∧ t.rd R.CH_STATUS_RUN_REQ n.val = 0 ∧
          t.ch n = { s.ch n with pend := some (askWins (s.ch n).pend (.idle, byStop)) } ∧ OnlyChan n [R.CH_STATUS_RUN_REQ.at n.val] s t) ∧
      -- DISARM
      (s.chState n = .arming ∨ s.chState n = .armed ∨ s.chState n = .starting ∨ s.chState n = .running ∨ s.chState n = .stopping ∨
          s.chState n = .limp →
        ∃ t, exec (.chDisarm n) s = .next t ∧ t.rd R.CH_STATUS_RUN_REQ n.val = 0 ∧ t.rd R.CH_STATUS_HO_DEFER n.val = 0 ∧
          t.rd R.CH_STATUS_HO_BLEND n.val = 0 ∧ t.ch n = { s.ch n with
            pend := some (askWins (s.ch n).pend (.idle, byCommand))
            ho := { (s.ch n).ho with fb := s.run R.CH_MODE_FB n.val, fb2 := s.run R.CH_MODE_FB2 n.val, ofs := 0, last := 0 } } ∧
          OnlyChan n [R.CH_STATUS_RUN_REQ.at n.val, R.CH_STATUS_HO_DEFER.at n.val, R.CH_STATUS_HO_BLEND.at n.val] s t) ∧
      (s.chState n = .fault →
        ∃ t, exec (.chDisarm n) s = .next t ∧ t.rd R.CH_STATUS_RUN_REQ n.val = 0 ∧ t.ch n = { s.ch n with disarmed := true } ∧
          OnlyChan n [R.CH_STATUS_RUN_REQ.at n.val] s t) ∧
      (s.chState n = .halted → s.rd R.FBK_STATUS_HALTED 0 = 0 →
        ∃ t, exec (.chDisarm n) s = .next t ∧ t.rd R.CH_STATUS_RUN_REQ n.val = 0 ∧
          t.ch n = { s.ch n with pend := some (askWins (s.ch n).pend (.idle, byCommand)) } ∧ OnlyChan n [R.CH_STATUS_RUN_REQ.at n.val] s t) ∧
      -- COMMIT
      (s.rd R.CH_STATUS_COMMIT_PENDING n.val = 0 →
        ∃ t, exec (.commit n) s = .next t ∧ t.rd R.CH_STATUS_COMMIT_PENDING n.val = 1 ∧
          t.ch n = { s.ch n with snap := some ((rwcWords n).map fun a => (a, s.word a)), checked := false } ∧
          OnlyChan n [R.CH_STATUS_COMMIT_PENDING.at n.val] s t) ∧
      -- COMMIT while one is pending
      (s.rd R.CH_STATUS_COMMIT_PENDING n.val ≠ 0 → exec (.commit n) s = .next s)) ∧
  (∀ (n : Ch) (s : State), s.chOn n = true →
      (s.chState n = .hold ∨ s.run R.CH_MODE_GANG n.val = 2 →
        ∃ t, exec (.chArm n) s = .next t ∧ t.rd R.CH_IRQ_CMD_IGNORED n.val = 1 ∧ OnlyRegs [R.CH_IRQ_CMD_IGNORED.at n.val] s t) ∧
      (s.chState n ≠ .hold → s.run R.CH_MODE_GANG n.val ≠ 2 → s.armReason n ≠ 0 →
        ∃ t, exec (.chArm n) s = .next t ∧ t.rd R.CH_STATUS_ARM_REASON n.val = s.armReason n ∧ t.rd R.CH_IRQ_ARM_REFUSED n.val = 1 ∧
          OnlyRegs [R.CH_STATUS_ARM_REASON.at n.val, R.CH_IRQ_ARM_REFUSED.at n.val] s t) ∧
      (s.armReason n = 0 ↔ s.chState n = .idle ∧ s.rd R.CMP_STATUS_BAND_PENDING n.val = 0 ∧ s.tripOn n = false ∧
        s.rd R.FBK_STATUS_HALTED 0 = 0 ∧ s.bit R.PWR_STATUS_GOOD 0 1 = true ∧ s.bit R.PWR_STATUS_GOOD 0 4 = true ∧
        s.rd R.CH_STATUS_COMMIT_PENDING n.val = 0 ∧ s.bridgeJob n = false) ∧
      (s.chState n ≠ .idle → s.armReason n = 1) ∧
      (s.run R.CH_MODE_GANG n.val = 2 ∨ (s.chState n ≠ .arming ∧ s.chState n ≠ .armed ∧ s.chState n ≠ .fault) →
        ∃ t, exec (.chRun n) s = .next t ∧ t.rd R.CH_IRQ_CMD_IGNORED n.val = 1 ∧ OnlyRegs [R.CH_IRQ_CMD_IGNORED.at n.val] s t) ∧
      (s.chState n ≠ .starting ∧ s.chState n ≠ .running ∧ s.chState n ≠ .limp →
        ∃ t, exec (.chStop n) s = .next t ∧ t.rd R.CH_IRQ_CMD_IGNORED n.val = 1 ∧ OnlyRegs [R.CH_IRQ_CMD_IGNORED.at n.val] s t) ∧
      (s.chState n = .hold ∨ s.chState n = .idle ∨ (s.chState n = .halted ∧ s.rd R.FBK_STATUS_HALTED 0 ≠ 0) →
        ∃ t, exec (.chDisarm n) s = .next t ∧ t.rd R.CH_IRQ_CMD_IGNORED n.val = 1 ∧ OnlyRegs [R.CH_IRQ_CMD_IGNORED.at n.val] s t))

/-- R128, R131: the end of the checks of a commit. A passed commit waits for its boundary; a rejected one ends with its reason, and no
running copy changes.
R91, R131, R134: a checked commit applies at its boundary: the staged words of the snapshot replace the running copies, the commit
ends and counts, the check's findings clear.
R136, R138, R176, R365: a requested transition is taken at its boundary, the run request of an ARMED channel with it; a fault state that no
longer holds the channel is left for the state its run request and DISARM name; pre-charge ends in ARMED, or in IDLE while a bootstrap is
below its limit, with pulses at the boundary after the last one. -/
def Obligations.CommitAndBoundaryAct : Prop :=
  (∀ (n : Ch) (s : State) (q : List (Nat × Word)), s.chOn n = true → (s.ch n).snap = some q → (s.ch n).checked = false →
      (s.commitReason q n = 0 →
        ∃ t, exec (.commitCheckComplete n) s = .next t ∧ t.ch n = { s.ch n with checked := true } ∧ OnlyChan n [] s t) ∧
      (s.commitReason q n ≠ 0 →
        ∃ t, exec (.commitCheckComplete n) s = .next t ∧ t.rd R.CH_STATUS_COMMIT_PENDING n.val = 0 ∧
          t.rd R.CH_STATUS_COMMIT_REASON n.val = s.commitReason q n ∧ t.rd R.CH_IRQ_COMMIT_REJ n.val = 1 ∧
          t.rd R.CH_COMMIT_CNT_REJECTED n.val = min (s.rd R.CH_COMMIT_CNT_REJECTED n.val + 1) 65535 ∧
          (s.commitReason q n = 0x41 → t.rd R.CH_COMMIT_INFO_VALID n.val = 1 ∧
            ∃ a ∈ badFields s q n (modeOf q n.val), t.rd R.CH_COMMIT_INFO_ADDR n.val = a % 2 ^ 24) ∧
          t.ch n = { s.ch n with snap := none, checked := false } ∧
          (∀ a, 0x10000 ≤ a → t.word a = s.word a) ∧
          OnlyChan n [R.CH_STATUS_COMMIT_PENDING.at n.val, R.CH_STATUS_COMMIT_REASON.at n.val, R.CH_IRQ_COMMIT_REJ.at n.val,
            R.CH_COMMIT_CNT_REJECTED.at n.val, R.CH_COMMIT_INFO_VALID.at n.val, R.CH_COMMIT_INFO_ADDR.at n.val, R.GRV_EVT_PEND.at n.val]
            s { t with free := s.free })) ∧
  (∀ (n : Ch) (s : State), s.chOn n = true →
      (∀ q, (s.ch n).snap = some q → (s.ch n).checked = true → s.atBoundary n = true →
        ∃ t, exec (.commitApply n) s = .next t ∧ t = s.commitApply n q ∧ t.rd R.CH_STATUS_COMMIT_PENDING n.val = 0 ∧
          t.rd R.CH_STATUS_COMMIT_REASON n.val = 0 ∧ t.rd R.CH_IRQ_COMMIT_DONE n.val = 1 ∧ t.rd R.CH_COMMIT_INFO_VALID n.val = 0 ∧
          t.rd R.CH_COMMIT_CNT_ACCEPTED n.val = min (s.rd R.CH_COMMIT_CNT_ACCEPTED n.val + 1) 65535 ∧ (t.ch n).snap = none ∧
          (t.ch n).checked = false) ∧
      (∀ q, (s.ch n).snap = some q → (s.ch n).checked = false ∨ s.atBoundary n = false → exec (.commitApply n) s = .next s) ∧
      ((s.ch n).snap = none → exec (.commitApply n) s = .next s ∧ exec (.commitCheckComplete n) s = .next s) ∧
      (s.atBoundary n = true ↔ s.carrierOn n = false ∨ s.carrierWaits n = true ∨ (s.ch n).car.pos = 0) ∧
      (∀ q a w, (q.map (·.1)).Nodup → (a, w) ∈ q →
        (s.putRunning q).word (0x10000 + a) = (s.word (0x10000 + a) &&& ~~~ rwcMask a) ||| (w &&& rwcMask a)) ∧
      (∀ q a, a ∉ q.map (·.1) → (s.putRunning q).word (0x10000 + a) = s.word (0x10000 + a)) ∧
      (∀ q a, a < 0x10000 → (s.putRunning q).word a = s.word a)) ∧
  (∀ (n : Ch) (s : State), s.chOn n = true →
      -- what an entry does
      (∀ tgt cause, ∃ u : State, u = s.toState n tgt cause ∧ u.chState n = tgt ∧ u.rd R.CH_LAST_FROM n.val = (s.chState n).code ∧
        u.rd R.CH_LAST_TO n.val = tgt.code ∧ u.rd R.CH_LAST_CAUSE n.val = cause % 256 ∧
        (s.chState n ≠ tgt → u.rd R.CH_IRQ_STATE_CHG n.val = 1) ∧ (u.ch n).pend = pendAt tgt (s.ch n).pend) ∧
      (∀ tgt cause, tgt = .idle ∨ tgt = .armed ∨ tgt = .running → s.enterAt n tgt cause =
        if (s.toState n tgt cause).pwmMode n = s.pwmMode n then ((s.toState n tgt cause).brkShow n).settle n
        else (s.toState n tgt cause).replan n) ∧
      -- BOUNDARY_STATE_TRANSITION
      (∀ tgt cause, (s.ch n).pend = some (tgt, cause) →
        ∃ t, exec (.boundaryStateTransition n) s = .next t ∧ t = s.enterAt n tgt cause) ∧
      ((s.ch n).pend = none → s.chState n = .armed → s.rd R.CH_STATUS_RUN_REQ n.val ≠ 0 → s.run R.CH_MODE_START n.val = 6 →
        ∃ t, exec (.boundaryStateTransition n) s = .next t ∧ t = s.enterAt n .running byCommand) ∧
      ((s.ch n).pend = none → s.chState n = .armed → s.rd R.CH_STATUS_RUN_REQ n.val ≠ 0 → s.run R.CH_MODE_START n.val ≠ 6 →
        s.run R.CH_MODE_GANG n.val ≠ 1 →
        ∃ t, exec (.boundaryStateTransition n) s = .next t ∧
          t = (s.modCh n fun c => { c with gang.waits := false, gang.overdue := false }).enterAt n .starting byCommand) ∧
      ((s.ch n).pend = none → s.chState n ≠ .armed ∨ s.rd R.CH_STATUS_RUN_REQ n.val = 0 →
        exec (.boundaryStateTransition n) s = .next s) ∧
      -- CHANNEL_FAULT_EXIT
      (s.chState n = .fault → s.heldInFault n = false → s.critOn n = false → (s.ch n).disarmed = true →
        ∃ t, exec (.channelFaultExit n) s = .next t ∧ t = s.enterAt n .idle byFaultEnd) ∧
      (s.chState n = .fault → s.heldInFault n = false → s.critOn n = false → (s.ch n).disarmed = false → s.rd R.CH_STATUS_RUN_REQ n.val = 0 →
        ∃ t, exec (.channelFaultExit n) s = .next t ∧ t = s.enterAt n .armed byFaultEnd) ∧
      (s.chState n = .fault → s.heldInFault n = false → s.critOn n = false → (s.ch n).disarmed = false → s.rd R.CH_STATUS_RUN_REQ n.val ≠ 0 →
        s.run R.CH_MODE_START n.val ≠ 6 → s.run R.CH_MODE_GANG n.val ≠ 1 →
        ∃ t, exec (.channelFaultExit n) s = .next t ∧
          t = (s.modCh n fun c => { c with gang.waits := false, gang.overdue := false }).enterAt n .starting byFaultEnd) ∧
      (s.chState n ≠ .fault ∨ s.heldInFault n = true ∨ s.critOn n = true → exec (.channelFaultExit n) s = .next s) ∧
      -- PRECHARGE_COMPLETE
      (s.prechargeDue n = true ↔ s.chState n = .arming ∧ (s.ch n).car.prePulses = 0 ∧
        (s.run R.GD_PRECHG_MODE n.val ≠ 0 ∨ (s.ch n).car.pos = 0)) ∧
      (s.prechargeDue n = true → s.rd R.GD_STATUS_BST_UV n.val ≠ 0 →
        ∃ t, exec (.prechargeComplete n) s = .next t ∧ t = (s.armRefuse n 7).enterAt n .idle byPrecharge ∧
          t.rd R.CH_STATUS_ARM_REASON n.val = 7 ∧ t.rd R.CH_IRQ_ARM_REFUSED n.val = 1) ∧
      (∀ u, s.prechargeDue n = true → s.rd R.GD_STATUS_BST_UV n.val = 0 → u = (s.wr R.CH_STATUS_ARM_REASON n.val 0).enterAt n .armed byPrecharge →
        ∃ t, exec (.prechargeComplete n) s = .next t ∧ t.rd R.CH_STATUS_ARM_REASON n.val = 0 ∧
          (u.heldInFault n = false → t = u) ∧ (u.heldInFault n = true → t = u.enterAt n .fault byReaction)) ∧
      (s.prechargeDue n = false → exec (.prechargeComplete n) s = .next s))

/-- R89, R92, R95: a write of a word that its page treats by the access codes alone (the configuration words of the pages CLK, FLT, SUP,
ROUTE and GW and of the blocks PWM, GD, BRK and CMP of a channel). Every field of the word takes what its code says, and no other word
changes but LOCK, where WR_DENIED sets for an RWL field of a locked page.
R3, R11, R28, R83, R84: a write that reaches nothing, lies outside its master's reach, or meets a fused or unpowered part has no effect
but its capture in SYS.BUSERR, which holds the first one. -/
def Obligations.BusWritesAct : Prop :=
  (∀ (m : Fin 3) (p off : Nat) (a : BitVec 24) (w : Word) (s : State),
      (p ∈ [0x01, 0x04, 0x06, 0x15, 0x1F] ∨ ∃ n : Ch, ∃ k ∈ [1, 2, 3, 5], p = 0x40 + 0x10 * n.val + k) →
      0x20 ≤ off → off < 0xF8 → off % 4 = 0 → a.toNat = p * 256 + off → s.pageLive p = true →
      ∃ t, exec (.registerWrite ⟨m.val, by omega⟩ a w) s = .next t ∧
        (∀ f ∈ wordFields a.toNat,
          (f.acc = .rw ∨ f.acc = .rwc ∨ (f.acc = .rwl ∧ s.locked p = false) → f.get (t.word a.toNat) = f.get w) ∧
          (f.acc = .ro ∨ (f.acc = .rwl ∧ s.locked p = true) → f.get (t.word a.toNat) = f.get (s.word a.toNat)) ∧
          (f.acc = .w1c → f.get (t.word a.toNat) = f.get (s.word a.toNat &&& ~~~ w))) ∧
        (t.word (p * 256 + 0x1C) =
          if s.locked p && (wordFields a.toNat).any (fun f => f.acc == .rwl) then s.word (p * 256 + 0x1C) ||| 2#32
          else s.word (p * 256 + 0x1C)) ∧
        OnlyRegs [(a.toNat, 0xFFFFFFFF#32), (p * 256 + 0x1C, 2#32)] s t) ∧
  (∀ (m : Fin 8) (a : BitVec 24) (w : Word) (s : State), s.accessFail m.val true (targetOf a.toNat) ≠ 0 →
      (s.rd R.SYS_BUSERR_VALID 0 ≠ 0 → exec (.registerWrite m a w) s = .next s) ∧
      (s.rd R.SYS_BUSERR_VALID 0 = 0 → ∃ t, exec (.registerWrite m a w) s = .next t ∧ t.rd R.SYS_BUSERR_VALID 0 = 1 ∧
        t.rd R.SYS_BUSERR_KIND 0 = s.accessFail m.val true (targetOf a.toNat) ∧ t.rd R.SYS_BUSERR_MASTER 0 = m.val ∧
        t.rd R.SYS_BUSERR_ADDR 0 = a.toNat ∧ t.rd R.SYS_IRQ_BUSERR 0 = 1 ∧
        OnlyRegs [R.SYS_BUSERR_VALID.at 0, R.SYS_BUSERR_KIND.at 0, R.SYS_BUSERR_MASTER.at 0, R.SYS_BUSERR_ADDR.at 0, R.SYS_IRQ_BUSERR.at 0]
          s t) ∧
      (∀ n : Ch, ∀ o, o < 0x10000 → a.toNat / 4 * 4 = 0x100000 + 0x10000 * n.val + o → s.chOn n = false → s.chOk n.val = true →
        m.val < 3 → s.accessFail m.val true (targetOf a.toNat) = 3))

/-- R85, R90, R92, R377: a page that is locked stays so, with no reference of its old content; the read-sensitive registers: NOW_LO
latches the time, CAN STATUS clears PEX where the read returned it and no exception came since, SDATA moves SIDX on.
R96, R305, R421: the windows: a word of program RAM is written while its core is stopped and idle, with the image forgotten, and is
denied otherwise; an entry of the route table takes the low three bits. Every other byte stays. -/
def Obligations.LocksAndWindowsAct : Prop :=
  ((∀ (p : BitVec 8) (s : State), s.pageLive p.toNat = true →
      ∃ t, exec (.pageLock p) s = .next t ∧ t.word (p.toNat * 256 + 0x1C) = (s.word (p.toNat * 256 + 0x1C) ||| 1#32) ∧
        t.locked p.toNat = true ∧ (∀ e ∈ t.rng.refs, e ∈ s.rng.refs) ∧ OnlyRegs [(p.toNat * 256 + 0x1C, 1#32)] s { t with rng := s.rng }) ∧
    (∀ (s : State), ∃ t, exec .timeNowLoRead s = .next t ∧ t.rd R.TIME_NOW_HI 0 = s.ticks / 2 ^ 32 % 2 ^ 32 ∧
      t.rd R.TIME_NOW_FINE 0 = s.canopy / 2 ^ 32 % 32 ∧ OnlyRegs [R.TIME_NOW_HI.at 0, R.TIME_NOW_FINE.at 0] s t) ∧
    (∀ (m : Fin 2) (s : State), s.domOn dCan = true →
      (∃ t, exec (.canStatusRead m true false) s = .next t ∧ t.rd R.CAN_STATUS_PEX m.val = 0 ∧ OnlyRegs [R.CAN_STATUS_PEX.at m.val] s t) ∧
      (∀ r, exec (.canStatusRead m r true) s = .next s) ∧ (∀ b, exec (.canStatusRead m false b) s = .next s)) ∧
    (∀ (s : State), s.domOn dCan = true →
      ∃ t, exec .netSdataRead s = .next t ∧ t.rd R.NET_SIDX 0 = (s.rd R.NET_SIDX 0 + 1) % 512 ∧ OnlyRegs [R.NET_SIDX.at 0] s t) ∧
    (∀ (w : Word) (s : State), s.domOn dCan = true → s.rd R.NET_SIDX 0 < 448 →
      ∃ t, exec (.netSdataWrite w) s = .next t ∧ t.rd R.NET_SIDX 0 = (s.rd R.NET_SIDX 0 + 1) % 512 ∧
        (∀ k, mapGet (fun _ => 0#32) (t.ss s.sel).buf k =
          if s.rd R.NET_SIDX 0 = k then w else mapGet (fun _ => 0#32) (s.ss s.sel).buf k) ∧
        (∀ i, i ≠ s.sel → t.ss i = s.ss i) ∧ OnlyRegs [R.NET_SIDX.at 0] s { t with net := s.net })) ∧
  ((∀ (n : Ch) (a : BitVec 14) (w : Word) (s : State), s.chOn n = true →
      (s.rd R.GRV_STATUS_CORE n.val = 0 → (s.grv n).img = 0 →
        ∃ t, exec (.programRamWrite n a w) s = .next t ∧ t.memWord (pramAddr n.val a.toNat) = w ∧
          MemKept (pramAddr n.val a.toNat) (pramAddr n.val a.toNat + 4) s t ∧ t.rd R.GRV_STATUS_IMG n.val = 0 ∧
          t.rd R.GRV_STATUS_ROM_ID n.val = 0 ∧ OnlyRegs [R.GRV_STATUS_IMG.at n.val, R.GRV_STATUS_ROM_ID.at n.val] s { t with mem := s.mem }) ∧
      (s.rd R.GRV_STATUS_CORE n.val ≠ 0 ∨ (s.grv n).img ≠ 0 →
        ∃ t, exec (.programRamWrite n a w) s = .next t ∧ t.rd R.GRV_IRQ_PRAM_DENIED n.val = 1 ∧
          OnlyRegs [R.GRV_IRQ_PRAM_DENIED.at n.val] s t)) ∧
    (∀ (d : BitVec 10) (w : Word) (s : State), s.domOn dLink = true → d ≠ 0x3FF#10 → s.dropEntry (w.toNat % 8) = false →
      exec (.routeTableWrite d w) s = .next ((s.setMemWord (0x340000 + 4 * d.toNat) (wd (w.toNat % 8))).enumPump.settleAll) ∧
      (s.setMemWord (0x340000 + 4 * d.toNat) (wd (w.toNat % 8))).routeEntry d.toNat = w.toNat % 8 ∧
      MemKept (0x340000 + 4 * d.toNat) (0x340004 + 4 * d.toNat) s (s.setMemWord (0x340000 + 4 * d.toNat) (wd (w.toNat % 8)))) ∧
    (∀ (w : Word) (s : State), s.domOn dLink = true → exec (.routeTableWrite 0x3FF#10 w) s = .next s.enumPump.settleAll))

/-- R147, R150, R156, R164, R165, R167: the carrier of a powered channel that runs outside limp mode: its first boundary, where it waits for
one, comes at the Canopy tick it names. A boundary counts the period, starts the
position at 0 and says whether the new period opens a sample; an edge moves the position and the gates settle; a sector waiting for no
boundary comes into force; PWM.CTRL.CNT_CLR clears the event counters. -/
def Obligations.CarrierAdvances : Prop :=
  ∀ (n : Ch) (s : State), s.chOn n = true →
    (s.rd R.PWM_STATUS_RUNNING n.val ≠ 0 → s.chState n ≠ .limp → (s.ch n).car.first = none →
      (∃ t, exec (.periodBoundary n) s = .next t ∧
        t.rd R.PWM_PERIOD_CNT_COUNT n.val = (s.rd R.PWM_PERIOD_CNT_COUNT n.val + 1) % 2 ^ 32 ∧ (t.ch n).car.pos = 0 ∧
        ((t.ch n).car.opening = true ↔ (s.ch n).car.divCnt = 0) ∧
        (t.ch n).car.divCnt = (if s.run R.PWM_CFG_LOOPDIV n.val ≤ (s.ch n).car.divCnt then 0 else (s.ch n).car.divCnt + 1) ∧
        (s.run R.PWM_CFG_SYNC n.val = 0 → (t.ch n).car.per = s.run R.PWM_PERIOD n.val * 32)) ∧
      (∀ p, ∃ t, exec (.pwmEdge n p) s = .next t ∧ (t.ch n).car.pos = min p (s.ch n).car.per ∧
        Settled [] (s.modCh n fun c => { c with car.pos := min p c.car.per }) t) ∧
      (∀ k, s.run R.PWM_CFG_COMM_SYNC n.val = 0 → (s.ch n).car.pendSector = some k →
        ∃ t, exec (.sectorChange n) s = .next t ∧ t.rd R.PWM_STATUS_SECTOR n.val = k % 8 ∧ (t.ch n).car.pendSector = none ∧
          (t.ch n).car.pos = (s.ch n).car.pos ∧
          ∃ legs w1 w2, Settled [R.PWM_STATUS_SECTOR.at n.val, R.PWM_DUTY_A_ON.at n.val, R.PWM_DUTY_B_ON.at n.val, R.PWM_DUTY_C_ON.at n.val]
            (s.modCh n fun c => { c with car.pendSector := none, car.sector := k, car.legs := legs, car.win1 := w1, car.win2 := w2 }) t)) ∧
    (∀ tk, s.rd R.PWM_STATUS_RUNNING n.val ≠ 0 → s.chState n ≠ .limp → (s.ch n).car.first = some tk →
      (s.tickPast tk = true → ∃ t, exec (.periodBoundary n) s = .next t ∧ t = s.firstBoundary n ∧ (t.ch n).car.first = none ∧
        (t.ch n).car.pos = 0 ∧ t.rd R.PWM_PERIOD_CNT_COUNT n.val = (s.rd R.PWM_PERIOD_CNT_COUNT n.val + 1) % 2 ^ 32) ∧
      (s.tickPast tk = false → exec (.periodBoundary n) s = .next s) ∧ (∀ p, exec (.pwmEdge n p) s = .next s)) ∧
    (s.rd R.PWM_STATUS_RUNNING n.val = 0 ∨ s.chState n = .limp →
      exec (.periodBoundary n) s = .next s ∧ (∀ p, exec (.pwmEdge n p) s = .next s) ∧ exec (.sectorChange n) s = .next s) ∧
    (∃ t, exec (.pwmCntClr n) s = .next t ∧ t.rd R.PWM_EVENTS_REFRESH n.val = 0 ∧ t.rd R.PWM_EVENTS_MINPULSE n.val = 0 ∧
      t.rd R.PWM_SS_MISS_COUNT n.val = 0 ∧
      OnlyRegs [R.PWM_EVENTS_REFRESH.at n.val, R.PWM_EVENTS_MINPULSE.at n.val, R.PWM_SS_MISS_COUNT.at n.val] s t)

/-- R15, R157, R194 to R198, R237: a sample is opened at the hold instant of an opening period, converted once, and processed once by the
loop engine; the voltage sequence starts with its slots and puts its results in their registers at its end. -/
def Obligations.SamplesTaken : Prop :=
  ∀ (n : Ch) (s : State), s.chOn n = true →
    (s.rd R.PWM_STATUS_RUNNING n.val ≠ 0 → s.chState n ≠ .limp → (s.ch n).car.opening = true → s.run R.CH_MODE_GANG n.val = 0 →
      ∃ t, exec (.phaseCurrentHold n) s = .next t ∧ (t.ch n).sense.samp = some (s.newSample n) ∧
        Settled [] (s.modCh n fun c => { c with sense.samp := some (s.newSample n), gang.tk := s.fineNow, gang.held := true }) t) ∧
    ((s.ch n).car.opening = false → exec (.phaseCurrentHold n) s = .next s) ∧
    (∀ (q : Samp) (a b c : BitVec 12), (s.ch n).sense.samp = some q → q.conv = false → s.run R.CH_MODE_SENSE n.val = 0 →
      ∃ t, exec (.adcConversionDone n a b c) s = .next t ∧ t.rd R.ADC_IA_RAW n.val = a.toNat ∧ t.rd R.ADC_IB_RAW n.val = b.toNat ∧
        t.rd R.ADC_IC_RAW n.val = c.toNat ∧ t.rd R.ADC_IA_VALID n.val = (q.valid.getLsbD 0).toNat ∧
        t.rd R.ADC_IB_VALID n.val = (q.valid.getLsbD 1).toNat ∧ t.rd R.ADC_IC_VALID n.val = (q.valid.getLsbD 2).toNat ∧
        (a = 0 ∨ a = 4095 ∨ b = 0 ∨ b = 4095 ∨ c = 0 ∨ c = 4095 → t.rd R.ADC_IRQ_SAT n.val = 1) ∧
        t.ch n = { s.ch n with sense.samp := some { q with conv := true } } ∧
        OnlyChan n [R.ADC_IA_VALID.at n.val, R.ADC_IA_CORR.at n.val, R.ADC_IA_RAW.at n.val, R.ADC_IB_VALID.at n.val,
          R.ADC_IB_CORR.at n.val, R.ADC_IB_RAW.at n.val, R.ADC_IC_VALID.at n.val, R.ADC_IC_CORR.at n.val, R.ADC_IC_RAW.at n.val,
          R.ADC_IRQ_SAT.at n.val] s t) ∧
    (∀ (q : Samp), (s.ch n).sense.samp = some q → q.conv = true →
      (∀ a b c, exec (.adcConversionDone n a b c) s = .next s) ∧
      (2 ≤ (s.chState n).code → s.chState n ≠ .limp → exec (.loopEngineSample n) s = .next (s.engineSample n q)) ∧
      ((s.chState n).code < 2 ∨ s.chState n = .limp → exec (.loopEngineSample n) s = .next s)) ∧
    (s.rd R.PWM_STATUS_RUNNING n.val ≠ 0 → vseqCodes (s.run R.ADC_VSEQ_SLOT n.val) ≠ [] →
      ∃ t, exec (.vseqStart n) s = .next t ∧
        t.ch n = { s.ch n with sense.vseq := some (vseqCodes (s.run R.ADC_VSEQ_SLOT n.val), []) } ∧ OnlyChan n [] s t) ∧
    (∀ src x rest got (c : BitVec 12) (w : Word), (s.ch n).sense.vseq = some (src :: x :: rest, got) →
      ∃ t, exec (.vseqSlotDone n c w) s = .next t ∧ t.ch n = { s.ch n with sense.vseq := some (x :: rest, got ++ [c.toNat]) } ∧
        t.rdw R.ADC_TEMP_T n.val = (if src = 6 then w else s.rdw R.ADC_TEMP_T n.val) ∧ OnlyChan n [R.ADC_TEMP_T.at n.val] s t) ∧
    (∀ src got (c : BitVec 12) (w : Word), (s.ch n).sense.vseq = some ([src], got) → src ≠ 6 →
      3 ∉ vseqCodes (s.run R.ADC_VSEQ_SLOT n.val) →
      ∃ t, exec (.vseqSlotDone n c w) s = .next t ∧ t.rd R.ADC_IRQ_VSEQ_DONE n.val = 1 ∧ (t.ch n).sense.vseq = none ∧
        ∀ k v x, k < 8 → (vseqCodes (s.run R.ADC_VSEQ_SLOT n.val))[k]? = some v → (got ++ [c.toNat])[k]? = some x →
          t.rd (R.ADC_VRES_VALID.nth k) n.val = 1 ∧ t.rd (R.ADC_VRES_SRC.nth k) n.val = v ∧
            t.rd (R.ADC_VRES_CODE.nth k) n.val = x % 4096) ∧
    (∀ src got (c : BitVec 12) (w : Word), (s.ch n).sense.vseq = some ([src], got) → 3 ∈ vseqCodes (s.run R.ADC_VSEQ_SLOT n.val) →
      exec (.vseqSlotDone n c w) s = .next (((((if src = 6 then s.wr R.ADC_TEMP_T n.val w.toNat else s).vresPut n
        ((vseqCodes (s.run R.ADC_VSEQ_SLOT n.val)).zip (got ++ [c.toNat]))).wr R.ADC_IRQ_VSEQ_DONE n.val 1).modCh n fun k =>
          { k with sense.vseq := none }).vbusCheck n).settleAll)

/-- R143, R291, R292, R297, R298, R302: the timers of the hand-over, the start-up, the stop and homing, each in the states in which it
runs. -/
def Obligations.StateTimersEnd : Prop :=
  ∀ (n : Ch) (s : State), s.chOn n = true →
    -- HANDOVER_TIMEOUT by HO_POLICY
    (s.rd R.CH_STATUS_HO_DEFER n.val ≠ 0 → s.run R.CH_MODE_HO_POLICY n.val = 0 →
      ∃ t, ∃ h : Ho, exec (.handoverTimeout n) s = .next t ∧ t.rd R.CH_IRQ_HO_TIMEOUT n.val = 1 ∧ t.rd R.CH_STATUS_HO_DEFER n.val = 0 ∧
        t.rd R.CH_STATUS_HO_BLEND n.val = 0 ∧ t.ch n = { s.ch n with ho := h } ∧
        OnlyChan n [R.CH_IRQ_HO_TIMEOUT.at n.val, R.CH_STATUS_HO_DEFER.at n.val, R.CH_STATUS_HO_BLEND.at n.val] s t) ∧
    (s.rd R.CH_STATUS_HO_DEFER n.val ≠ 0 → s.run R.CH_MODE_HO_POLICY n.val = 1 →
      exec (.handoverTimeout n) s = .next ((s.wr R.CH_IRQ_HO_TIMEOUT n.val 1).raise (srcCh n.val oHoFail) 0).settleAll) ∧
    (s.rd R.CH_STATUS_HO_DEFER n.val ≠ 0 → 2 ≤ s.run R.CH_MODE_HO_POLICY n.val →
      ∃ t, exec (.handoverTimeout n) s = .next t ∧ t.rd R.CH_IRQ_HO_TIMEOUT n.val = 1 ∧ t.rd R.CH_STATUS_HO_DEFER n.val = 0 ∧
        t.rd R.CH_STATUS_HO_BLEND n.val = 1 ∧ t.ch n = { s.ch n with ho := { (s.ch n).ho with k := 0, last := 0 } } ∧
        OnlyChan n [R.CH_IRQ_HO_TIMEOUT.at n.val, R.CH_STATUS_HO_DEFER.at n.val, R.CH_STATUS_HO_BLEND.at n.val] s t) ∧
    (s.rd R.CH_STATUS_HO_DEFER n.val = 0 → exec (.handoverTimeout n) s = .next s) ∧
    -- STARTUP_TIMEOUT: the method fails, FAULT
    (s.chState n = .starting → exec (.startupTimeout n) s = .next (s.suFail n).settleAll) ∧
    (s.chState n ≠ .starting → exec (.startupTimeout n) s = .next s) ∧
    -- ALIGN_END: the offset of an absolute encoder, and the hand-over is requested
    (s.chState n = .starting → s.rd R.SPT_STATUS_SU_PHASE n.val = 1 → (s.ch n).ho.asked = false → s.hoNames n 1 = false →
      s.hoNames n 2 = false → s.hoNames n 3 = false →
      exec (.alignEnd n) s = .next (if (s.pairVal n ⟨0, 0, s.now, s.ticks, 0, 0, 0, true⟩ (s.ch n).ho.fb (s.ch n).ho.fb2 16 16 0#32).val.ok
        then s.suAsk n else (s.suFail n).settleAll)) ∧
    (∀ v, s.chState n = .starting → s.rd R.SPT_STATUS_SU_PHASE n.val = 1 → (s.ch n).ho.asked = false → s.hoNames n 1 = false →
      s.hoNames n 2 = true → v = s.wrs n.val [(R.SPT_AOFS_VALID, 1), (R.SPT_AOFS_ALIGN_OFS, (s.run R.SPT_ALIGN_ANG n.val + 65536 -
        s.elecAngle n (s.spiRaw n (s.spiSlot n).1) (2 ^ 24) 0) % 65536)] →
      exec (.alignEnd n) s = .next (if (v.pairVal n ⟨0, 0, s.now, s.ticks, 0, 0, 0, true⟩ (v.ch n).ho.fb (v.ch n).ho.fb2 16 16 0#32).val.ok
        then v.suAsk n else (v.suFail n).settleAll)) ∧
    -- CATCH_OBSERVE_TIMEOUT: the fallback method at a slow rotor, failure otherwise
    (s.chState n = .starting → s.rd R.SPT_STATUS_SU_PHASE n.val = 7 → s.rd R.POS_STATUS_SPD_VALID n.val ≠ 0 →
      f32Lt (f32Abs (s.rdw R.POS_SPEED n.val)) (s.runw R.SPT_CATCH_WMIN n.val) = true →
      (s.run R.SPT_CATCH_FALLBACK n.val ≠ 6 → exec (.catchObserveTimeout n) s =
        .next (((s.wr R.SPT_IRQ_CATCH_FALLBACK n.val 1).suBegin n (s.run R.SPT_CATCH_FALLBACK n.val)).settle n)) ∧
      (s.run R.SPT_CATCH_FALLBACK n.val = 6 → exec (.catchObserveTimeout n) s =
        .next (((s.wr R.SPT_IRQ_CATCH_FALLBACK n.val 1).suDone n).settle n))) ∧
    (s.chState n = .starting → s.rd R.SPT_STATUS_SU_PHASE n.val = 7 → s.fb n ≠ 4 → s.fb2 n ≠ 4 →
      s.rd R.POS_STATUS_SPD_VALID n.val = 0 ∨ f32Lt (f32Abs (s.rdw R.POS_SPEED n.val)) (s.runw R.SPT_CATCH_WMIN n.val) = false →
      exec (.catchObserveTimeout n) s = .next (s.suFail n).settleAll) ∧
    -- STOP_TIMEOUT and DC_INJECTION_END
    (s.chState n = .stopping →
      ∃ t, exec (.stopTimeout n) s = .next t ∧ t.rd R.SPT_IRQ_STOP_TIMEOUT n.val = 1 ∧
        t.ch n = { s.ch n with pend := some (askWins (s.ch n).pend (.armed, byStopCond)) } ∧
        OnlyChan n [R.SPT_IRQ_STOP_TIMEOUT.at n.val] s t) ∧
    (s.chState n = .stopping → s.rd R.SPT_STATUS_BRK_PHASE n.val = 4 →
      ∃ t, exec (.dcInjectionEnd n) s = .next t ∧ t.ch n = { s.ch n with pend := some (askWins (s.ch n).pend (.armed, byStopCond)) } ∧
        OnlyChan n [] s t) ∧
    (s.chState n ≠ .stopping → exec (.stopTimeout n) s = .next s ∧ exec (.dcInjectionEnd n) s = .next s) ∧
    -- HOMING_TIMEOUT
    (∀ k, (s.ch n).homeRun = true → s.holder n.val = some k → (s.job k).typ = jHoming →
      exec (.homingTimeout n) s = .next (s.jobFail k cTimeout)) ∧
    ((s.ch n).homeRun = false → exec (.homingTimeout n) s = .next s)

/-- R269, R270, R273, R278: the observer's commands and timers: the two pulses of a polarity test and its decision, the convergence time,
a reseed of both estimators, the counters of the checks cleared.
R283, R290, R301: targets enter the generator, the latest write winning, a fraction with the turns before it; a value that is no
number and any write during homing is discarded with TGT_REJ. -/
def Obligations.ObserverAndTargetsAct : Prop :=
  (∀ (n : Ch) (s : State), s.chOn n = true →
      ((s.ch n).obs.inj.pol = 1 →
        ∃ t, exec (.polarityPulseEnd n) s = .next t ∧ OnlyChan n [] s t ∧
          (t.ch n).obs.inj = { (s.ch n).obs.inj with
            pol := 2, polT := s.now, hPlus := f32Div (s.ch n).obs.inj.sum (f32OfNat (s.ch n).obs.inj.num), sum := 0#32, num := 0 }) ∧
      (∀ q, (s.ch n).obs.inj.pol = 2 → q = polQ (s.ch n).obs.inj.hPlus (f32Div (s.ch n).obs.inj.sum (f32OfNat (s.ch n).obs.inj.num)) →
        (f32Le (f32OfRat (s.run R.OBS_POL_MIN n.val) 100) q = true →
          ∃ t, exec (.polarityPulseEnd n) s = .next t ∧ t.rd R.OBS_STATUS_POL_KNOWN n.val = 1 ∧ t.rd R.OBS_IRQ_POL_DONE n.val = 1 ∧
            t.rd R.OBS_STATUS_POL_FLIPPED n.val = 0 ∧ (t.ch n).obs.inj.pol = 0 ∧ (t.ch n).obs.inj.flip = false ∧
            OnlyChan n [R.OBS_STATUS_POL_KNOWN.at n.val, R.OBS_IRQ_POL_DONE.at n.val, R.OBS_STATUS_POL_FLIPPED.at n.val] s t) ∧
        (f32Le (f32OfRat (s.run R.OBS_POL_MIN n.val) 100) q = false → f32Le q (f32Opp (f32OfRat (s.run R.OBS_POL_MIN n.val) 100)) = true →
          ∃ t, exec (.polarityPulseEnd n) s = .next t ∧ t.rd R.OBS_STATUS_POL_KNOWN n.val = 1 ∧ t.rd R.OBS_IRQ_POL_DONE n.val = 1 ∧
            t.rd R.OBS_STATUS_POL_FLIPPED n.val = 1 ∧ (t.ch n).obs.inj.pol = 0 ∧ (t.ch n).obs.inj.flip = true ∧
            OnlyChan n [R.OBS_STATUS_POL_KNOWN.at n.val, R.OBS_IRQ_POL_DONE.at n.val, R.OBS_STATUS_POL_FLIPPED.at n.val] s t) ∧
        (f32Le (f32OfRat (s.run R.OBS_POL_MIN n.val) 100) q = false → f32Le q (f32Opp (f32OfRat (s.run R.OBS_POL_MIN n.val) 100)) = false →
          (s.ch n).obs.inj.tries + 1 < s.run R.OBS_POL_TRIES n.val →
          ∃ t, exec (.polarityPulseEnd n) s = .next t ∧ (t.ch n).obs.inj.pol = 1 ∧
            (t.ch n).obs.inj.tries = (s.ch n).obs.inj.tries + 1 ∧ OnlyChan n [] s t)) ∧
      ((s.ch n).obs.obs.st ≠ 3 → (s.ch n).obs.obs.tmr ≠ none → (s.ch n).obs.obs.out = false →
        ∃ t, exec (.obsConvTimeout n false) s = .next t ∧ t.rd R.OBS_STATUS_TIMED_OUT n.val = 1 ∧ (t.ch n).obs.obs.out = true ∧
          (s.estNamed n false = false → OnlyChan n [R.OBS_STATUS_OBS_STATE.at n.val, R.OBS_STATUS_HFI_STATE.at n.val,
            R.OBS_STATUS_TIMED_OUT.at n.val] s t)) ∧
      ((s.ch n).obs.hfi.st = 3 ∨ (s.ch n).obs.hfi.tmr = none ∨ (s.ch n).obs.hfi.out = true → exec (.obsConvTimeout n true) s = .next s) ∧
      ((s.ch n).obs.obs.st ≠ 3 → (s.ch n).obs.hfi.st ≠ 3 →
        ∃ t, exec (.obsReseed n) s = .next t ∧ t.rd R.OBS_IRQ_SAPLING n.val = 1 ∧ (t.ch n).obs.obs = (s.ch n).obs.obs.restart s.now ∧
          (t.ch n).obs.hfi = (s.ch n).obs.hfi.restart s.now ∧ (t.ch n).obs.inj.pol = 0 ∧ (t.ch n).obs.inj.flip = false ∧
          OnlyChan n [R.OBS_IRQ_SAPLING.at n.val, R.OBS_STATUS_OBS_STATE.at n.val, R.OBS_STATUS_HFI_STATE.at n.val,
            R.OBS_STATUS_TIMED_OUT.at n.val] s t) ∧
      (∃ t, exec (.obsPcClr n) s = .next t ∧ t.rd R.OBS_PCNT_A_C n.val = 0 ∧ t.rd R.OBS_PCNT_B_C n.val = 0 ∧
        ∀ k, k < 6 → t.pc n k = 0)) ∧
  (∀ (n : Ch) (s : State), s.chOn n = true →
      (∀ v, s.rd R.SPT_STATUS_HOMING n.val = 0 → f32IsFinite v = true →
        ∃ t, exec (.tgtWrite n v) s = .next t ∧ t.rdw R.SPT_TGT n.val = v ∧ OnlyRegs [R.SPT_TGT.at n.val] s t) ∧
      (∀ v, s.rd R.SPT_STATUS_HOMING n.val ≠ 0 ∨ f32IsFinite v = false →
        ∃ t, exec (.tgtWrite n v) s = .next t ∧ t.rd R.SPT_IRQ_TGT_REJ n.val = 1 ∧ OnlyRegs [R.SPT_IRQ_TGT_REJ.at n.val] s t) ∧
      (∀ v, s.rd R.SPT_STATUS_HOMING n.val = 0 →
        ∃ t, exec (.ptgtFracWrite n v) s = .next t ∧ t.rd R.SPT_PTGT_FRAC n.val = v.toNat ∧
          t.ch n = { s.ch n with spt.ptgt := posOf (s.rd R.SPT_PTGT_TURNS n.val) v.toNat } ∧ OnlyChan n [R.SPT_PTGT_FRAC.at n.val] s t) ∧
      (∀ v, s.rd R.SPT_STATUS_HOMING n.val ≠ 0 →
        ∃ t, exec (.ptgtFracWrite n v) s = .next t ∧ t.rd R.SPT_IRQ_TGT_REJ n.val = 1 ∧ OnlyRegs [R.SPT_IRQ_TGT_REJ.at n.val] s t) ∧
      (∃ t, exec (.posAck n) s = .next t ∧ t.rd R.SPT_STATUS_POS_VALID n.val = 1 ∧ OnlyRegs [R.SPT_STATUS_POS_VALID.at n.val] s t))

/-- R178 to R181, R200 to R204, R211: the comparators of a powered channel. A trip of one that is active, untripped and not under test shows
in CMP.STATUS and CMP.IRQ_FLAG and counts; the bus comparators raise their source from IDLE on; a release and the end of the start state
clear their bits; the last start state that ends sets BAND_CLEAR. -/
def Obligations.ComparatorsTripAndRelease : Prop :=
  ∀ (n : Ch) (s : State), s.chOn n = true →
    (∀ x : Fin 3, s.cmpReady n x.val = true →
      ∃ t, exec (.hardShortTrip n x) s = .next t ∧ t.rd R.GD_IRQ_TRIP n.val = 1 ∧
        t.rd R.CMP_IRQ_TRIP n.val = s.rd R.CMP_IRQ_TRIP n.val ||| 2 ^ x.val ∧
        t.rd R.CMP_TRIPCNT_HS n.val = min (s.rd R.CMP_TRIPCNT_HS n.val + 1) 65535 ∧ t.rd R.GD_FIRST_VALID n.val = 1 ∧
        (s.rd R.GD_FIRST_VALID n.val = 0 → t.rd R.GD_FIRST_KIND n.val = 2 ∧
          t.rd R.GD_FIRST_SWITCH n.val = if s.run R.CH_MODE_SENSE n.val = 2 then 6 else 3 + x.val)) ∧
    (∀ low (x : Fin 3), s.cmpReady n (if low then 6 + x.val else 3 + x.val) = true →
      ∃ t, exec (.windowTrip n low x) s = .next t ∧
        t.rd R.CMP_IRQ_TRIP n.val = s.rd R.CMP_IRQ_TRIP n.val ||| 2 ^ (if low then 6 + x.val else 3 + x.val) ∧
        t.rd R.CMP_TRIPCNT_WIN n.val = min (s.rd R.CMP_TRIPCNT_WIN n.val + 1) 65535) ∧
    (∀ uv, s.cmpReady n (if uv then 10 else 9) = true → (s.chState n).code < 2 →
      ∃ t, exec (.busComparatorTrip n uv) s = .next t ∧
        t.rd R.CMP_IRQ_TRIP n.val = s.rd R.CMP_IRQ_TRIP n.val ||| 2 ^ (if uv then 10 else 9) ∧
        Settled [R.CMP_STATUS_TRIPPED.at n.val, R.CMP_IRQ_TRIP.at n.val] s t) ∧
    (∀ uv, s.cmpReady n (if uv then 10 else 9) = true → 2 ≤ (s.chState n).code →
      exec (.busComparatorTrip n uv) s =
        .next (((s.cmpMark n (if uv then 10 else 9)).raise (srcCh n.val (if uv then oBusUv else oBusOv)) 0).settleAll)) ∧
    (∀ x : Fin 3, s.cmpReady n x.val = false → exec (.hardShortTrip n x) s = .next s) ∧
    (∀ low (x : Fin 3), s.cmpReady n (if low then 6 + x.val else 3 + x.val) = false → exec (.windowTrip n low x) s = .next s) ∧
    (∀ uv, s.cmpReady n (if uv then 10 else 9) = false → exec (.busComparatorTrip n uv) s = .next s) ∧
    (∀ k : Fin 17, k.val < 11 → s.bit R.CMP_STATUS_TRIPPED n.val k.val = true → s.bit R.CMP_STATUS_BAND_PENDING n.val k.val = false →
      exec (.comparatorRelease n k) s = .next (((s.clrBits R.CMP_STATUS_TRIPPED n.val (2 ^ k.val)).cmpReleased n k.val).settle n) ∧
      (s.clrBits R.CMP_STATUS_TRIPPED n.val (2 ^ k.val)).bit R.CMP_STATUS_TRIPPED n.val k.val = false) ∧
    (∀ k : Fin 17, 11 ≤ k.val → k.val < 14 → ∃ t, exec (.comparatorRelease n k) s = .next t ∧
      t.bit R.GD_STATUS_BST_UV n.val (k.val - 11) = false ∧ Settled [R.GD_STATUS_BST_UV.at n.val] s t) ∧
    (∀ k : Fin 17, 14 ≤ k.val → ∃ t, exec (.comparatorRelease n k) s = .next t ∧
      t.bit R.GD_STATUS_BST_WARN n.val (k.val - 14) = false ∧ OnlyRegs [R.GD_STATUS_BST_WARN.at n.val] s t) ∧
    (∀ k : Fin 11, s.bit R.CMP_STATUS_BAND_PENDING n.val k.val = true → s.underTest n k.val = false →
      ∃ t, exec (.comparatorStartExit n k) s = .next t ∧
        (s.rd R.CMP_STATUS_BAND_PENDING n.val = 2 ^ k.val → t.rd R.CMP_IRQ_BAND_CLEAR n.val = 1) ∧
        Settled [R.CMP_IRQ_BAND_CLEAR.at n.val] s t) ∧
    (∀ k : Fin 11, s.bit R.CMP_STATUS_BAND_PENDING n.val k.val = false ∨ s.underTest n k.val = true →
      exec (.comparatorStartExit n k) s = .next s)

/-- R173, R174, R178, R181: the drain-source and bootstrap comparators of a powered channel: blanking and filter, the trip of a switch that
is on and not blanked, the window in which a second leg's trip counts, the warning and the undervoltage of a bootstrap.
R183, R185, R207 to R209: the brake chopper's comparator and its time limit; limp mode's period, and the comparator and the longest
on-time that end its pulse. -/
def Obligations.VdsBrakeAndLimpAct : Prop :=
  (∀ (n : Ch) (s : State), s.chOn n = true →
      (∀ (sw : Fin 6) hot, ∃ t, exec (.vdsBlankingEnd n sw hot) s = .next t ∧ OnlyChan n [] s t ∧
        ∀ k, (t.ch n).prot.vdsBlank.getLsbD k = ((s.ch n).prot.vdsBlank.getLsbD k && decide (k ≠ sw.val)) ∧
          (t.ch n).prot.vdsFilt.getLsbD k =
            ((s.ch n).prot.vdsFilt.getLsbD k || (hot && decide (k = sw.val) && (s.ch n).prot.vdsBlank.getLsbD k))) ∧
      (∀ sw : Fin 6, (s.ch n).prot.gates.getLsbD sw.val = true → (s.ch n).prot.vdsBlank.getLsbD sw.val = false →
        s.underTest n (12 + sw.val) = false →
        ∃ t, exec (.vdsTrip n sw) s = .next t ∧ t.rd R.GD_IRQ_TRIP n.val = 1 ∧ t.rd R.GD_FIRST_VALID n.val = 1 ∧
          (s.rd R.GD_FIRST_VALID n.val = 0 → t.rd R.GD_FIRST_KIND n.val = 1 ∧ t.rd R.GD_FIRST_SWITCH n.val = sw.val ∧
            t.rd R.GD_FIRST_POS n.val = (s.ch n).car.pos / 32 % 2 ^ 18)) ∧
      (∀ sw : Fin 6, (s.ch n).prot.gates.getLsbD sw.val = false ∨ (s.ch n).prot.vdsBlank.getLsbD sw.val = true →
        exec (.vdsTrip n sw) s = .next s) ∧
      (∀ sw : Fin 6, ∃ t, exec (.short2WindowEnd n sw) s = .next t ∧
        t.ch n = { s.ch n with prot.shortWin := (s.ch n).prot.shortWin &&& ~~~ BitVec.ofNat 6 (2 ^ sw.val) } ∧ OnlyChan n [] s t) ∧
      (∀ x : Fin 3, s.underTest n (21 + x.val) = false →
        ∃ t, exec (.bstWarnTrip n x) s = .next t ∧ t.bit R.GD_STATUS_BST_WARN n.val x.val = true ∧ t.rd R.GD_IRQ_BST_WARN n.val = 1 ∧
          OnlyRegs [R.GD_STATUS_BST_WARN.at n.val, R.GD_IRQ_BST_WARN.at n.val] s t) ∧
      (∀ x : Fin 3, s.underTest n (18 + x.val) = false →
        ∃ t, exec (.bstUvTrip n x) s = .next t ∧ t.bit R.GD_STATUS_BST_UV n.val x.val = true ∧
          ((s.chState n).bstDrives = true → t.rd R.GD_IRQ_BST_UV n.val = 1 ∧ t.rd R.GD_FIRST_VALID n.val = 1) ∧
          Settled [R.GD_STATUS_BST_UV.at n.val, R.GD_IRQ_BST_UV.at n.val, R.GD_FIRST_VALID.at n.val, R.GD_FIRST_SWITCH.at n.val,
            R.GD_FIRST_KIND.at n.val, R.GD_FIRST_POS.at n.val] s t) ∧
      (∀ x : Fin 3, (s.underTest n (21 + x.val) = true → exec (.bstWarnTrip n x) s = .next s) ∧
        (s.underTest n (18 + x.val) = true → exec (.bstUvTrip n x) s = .next s))) ∧
  (∀ (n : Ch) (s : State), s.chOn n = true →
      (∀ above : Bool, s.underTest n 11 = false →
        ∃ t, exec (.brakeComparator n above) s = .next t ∧ t.rd R.BRK_STATUS_HYST n.val = above.toNat ∧
          Settled [R.BRK_STATUS_HYST.at n.val] s t) ∧
      (∀ above, s.underTest n 11 = true → exec (.brakeComparator n above) s = .next s) ∧
      ((s.ch n).prot.brkOn = true → s.run R.BRK_MAXON n.val ≠ 0 →
        ∃ t, exec (.brkOvertime n) s = .next t ∧ t.rd R.BRK_IRQ_OVERTIME n.val = 1 ∧
          (∃ u : State, u = (s.wr R.BRK_IRQ_OVERTIME n.val 1).raise (srcCh n.val oBrkOvertime) 0 ∧
            t = (u.modCh n fun c => { c with prot.brkCut := !u.brkHeld n }).settleAll) ∧
          Settled [R.BRK_IRQ_OVERTIME.at n.val] s t) ∧
      ((s.ch n).prot.brkOn = false ∨ s.run R.BRK_MAXON n.val = 0 → exec (.brkOvertime n) s = .next s) ∧
      (s.chState n = .limp →
        (∃ t, exec (.limpBoundary n) s = .next t ∧ (t.ch n).car.pos = 0 ∧ (t.ch n).car.per = R.CMP_LIMP_CFG_PERIOD.get (s.ch n).prot.limpCfg * 6400 ∧
          t.rd R.PWM_PERIOD_CNT_COUNT n.val = (s.rd R.PWM_PERIOD_CNT_COUNT n.val + 1) % 2 ^ 32) ∧
        (∀ a b c, s.limpTrips n a b c = true → s.underTest n 24 = false →
          ∃ t, exec (.limpComparatorTrip n a b c) s = .next t ∧
            Settled [] (s.modCh n fun c => { c with prot.limpOn := false }) t ∧ (t.ch n).prot.limpOn = false) ∧
        (∀ a b c, s.limpTrips n a b c = false ∨ s.underTest n 24 = true → exec (.limpComparatorTrip n a b c) s = .next s) ∧
        (∃ t, exec (.limpDmaxEnd n) s = .next t ∧ Settled [] (s.modCh n fun c => { c with prot.limpOn := false }) t ∧
          (t.ch n).prot.limpOn = false)) ∧
      (∀ (a b c : Int), s.limpTrips n a b c = true ↔ ∃ k : Fin 6, s.limpHigh n = some k ∧ (s.ch n).prot.gates.getLsbD k.val = true ∧
        R.CMP_LIMP_CFG_LEB.get (s.ch n).prot.limpCfg * 10 ≤ s.now - (s.ch n).prot.swAt[k] ∧
        (s.limpRamp n (s.now - (s.ch n).prot.swAt[k]) : Int) ≤ s.limpCurrent n a b c * 2560) ∧
      (s.chState n ≠ .limp → exec (.limpBoundary n) s = .next s ∧ (∀ a b c, exec (.limpComparatorTrip n a b c) s = .next s) ∧
        exec (.limpDmaxEnd n) s = .next s))

/-- R186, R194, R199: calibrations are accepted in HOLD and IDLE while no job holds the bridge and refused otherwise; one that is done
puts its offsets, saturated at ±255, into the registers of the running amplifiers; DIAG.TESTI takes its enables. -/
def Obligations.CalibrationAndTestCurrents : Prop :=
  ∀ (n : Ch) (s : State), s.chOn n = true →
    (s.chState n = .hold ∨ s.chState n = .idle → s.bridgeJob n = false →
      (∃ t, exec (.offcal n) s = .next t ∧ t.rd R.ADC_STATUS_CAL_BUSY n.val = 1 ∧
        t.ch n = { s.ch n with sense.calQ := (s.ch n).sense.calQ ++ [false] } ∧ OnlyChan n [R.ADC_STATUS_CAL_BUSY.at n.val] s t) ∧
      (∃ t, exec (.zcal n) s = .next t ∧ t.rd R.ADC_STATUS_CAL_BUSY n.val = 1 ∧
        t.ch n = { s.ch n with sense.calQ := (s.ch n).sense.calQ ++ [true] } ∧ OnlyChan n [R.ADC_STATUS_CAL_BUSY.at n.val] s t)) ∧
    ((s.chState n ≠ .hold ∧ s.chState n ≠ .idle) ∨ s.bridgeJob n = true →
      (∃ t, exec (.offcal n) s = .next t ∧ t.rd R.ADC_IRQ_CAL_REFUSED n.val = 1 ∧ OnlyRegs [R.ADC_IRQ_CAL_REFUSED.at n.val] s t) ∧
      (∃ t, exec (.zcal n) s = .next t ∧ t.rd R.ADC_IRQ_CAL_REFUSED n.val = 1 ∧ OnlyRegs [R.ADC_IRQ_CAL_REFUSED.at n.val] s t)) ∧
    (∀ (a b c : Int) z rest, (s.ch n).sense.calQ = z :: rest →
      ∃ t, exec (.calibrationDone n a b c) s = .next t ∧ t.rd R.ADC_IRQ_CAL_DONE n.val = 1 ∧ (t.ch n).sense.calQ = rest ∧
        t.rd R.ADC_STATUS_CAL_BUSY n.val = (if rest = [] then 0 else 1) ∧ t.rd R.ADC_STATUS_ZCAL_USED n.val = z.toNat ∧
        ((t.rd R.ADC_OFS_A_OFS n.val : Int) = max (-255) (min 255 a) % 512) ∧
        (s.run R.CH_MODE_SENSE n.val < 2 → (t.rd R.ADC_OFS_B_OFS n.val : Int) = max (-255) (min 255 b) % 512) ∧
        (s.run R.CH_MODE_SENSE n.val = 0 → (t.rd R.ADC_OFS_C_OFS n.val : Int) = max (-255) (min 255 c) % 512) ∧
        Settled [R.ADC_IRQ_CAL_DONE.at n.val, R.ADC_STATUS_CAL_BUSY.at n.val, R.ADC_STATUS_ZCAL_USED.at n.val, R.ADC_OFS_A_OFS.at n.val,
          R.ADC_OFS_B_OFS.at n.val, R.ADC_OFS_C_OFS.at n.val] (s.modCh n fun k => { k with sense.calQ := rest }) t) ∧
    (∀ a b c, (s.ch n).sense.calQ = [] → exec (.calibrationDone n a b c) s = .next s) ∧
    (∀ v, ∃ t, exec (.diagTestiWrite n v) s = .next t ∧ t.rd R.DIAG_TESTI_SRC_EN n.val = v.toNat % 8 ∧
      t.rd R.DIAG_TESTI_SNK_EN n.val = v.toNat / 16 % 8 ∧ OnlyRegs [R.DIAG_TESTI_SRC_EN.at n.val, R.DIAG_TESTI_SNK_EN.at n.val] s t)

/-- R214 to R220, R233: the Hall codes and the incremental encoder. An accepted code shows, with its sector by the map; an edge moves the
count by one, wrapping, the forward order being A before B; both levels at once are illegal; ENC_LOAD and an index set the reference. -/
def Obligations.HallAndEncoderFollow : Prop :=
  ∀ (n : Ch) (s : State), s.chOn n = true →
    (∀ code : BitVec 3, ∃ t, exec (.hallCodeAccepted n code) s = .next t ∧ t.rd R.POS_STATUS_HALL n.val = code.toNat ∧
      t.rd R.POS_STATUS_HALL_VALID n.val = (if s.hallSectorOf n code.toNat = 0 then 0 else 1) ∧
      (t.ch n).pos.hall.sector = s.hallSectorOf n code.toNat ∧
      (s.hallSectorOf n code.toNat = 0 → t.rd R.POS_IRQ_HALL_ILLEGAL n.val = 1 ∧ (t.ch n).pos.hall.spdOk = false)) ∧
    (∃ t, exec (.speedZeroTimeout n true) s = .next t ∧ t.ch n = { s.ch n with pos.enc.spd := 0#32 } ∧ OnlyChan n [] s t) ∧
    ((s.ch n).pos.hall.spdOk = true → ∃ t, exec (.speedZeroTimeout n false) s = .next t ∧ t.ch n = { s.ch n with pos.hall.spd := 0#32 } ∧
      OnlyChan n [] s t) ∧
    (∀ a b, 0 < s.cpr n → (a, b) ≠ ((s.ch n).pos.enc.a, (s.ch n).pos.enc.b) →
      ∃ t, exec (.encoderEdge n a b) s = .next t ∧ (t.ch n).pos.enc.a = a ∧ (t.ch n).pos.enc.b = b ∧
        (quad a b = (quad (s.ch n).pos.enc.a (s.ch n).pos.enc.b + 1) % 4 →
          t.rd R.POS_ENC_CNT_COUNT n.val = (s.rd R.POS_ENC_CNT_COUNT n.val + 1) % s.cpr n % R.POS_ENC_CNT_COUNT.size) ∧
        (quad a b = (quad (s.ch n).pos.enc.a (s.ch n).pos.enc.b + 3) % 4 →
          t.rd R.POS_ENC_CNT_COUNT n.val = (s.rd R.POS_ENC_CNT_COUNT n.val + s.cpr n - 1) % s.cpr n % R.POS_ENC_CNT_COUNT.size) ∧
        (quad a b = (quad (s.ch n).pos.enc.a (s.ch n).pos.enc.b + 2) % 4 →
          t.rd R.POS_ENC_CNT_COUNT n.val = s.rd R.POS_ENC_CNT_COUNT n.val ∧ t.rd R.POS_IRQ_ENC_ILLEGAL n.val = 1 ∧
            t.rd R.POS_STATUS_ENC_REF n.val = 0)) ∧
    exec (.encoderEdge n (s.ch n).pos.enc.a (s.ch n).pos.enc.b) s = .next s ∧
    (s.run R.POS_ENC_IDX_GATE n.val = 0 → s.run R.POS_ENC_IDX_MODE n.val ≠ 0 → s.rd R.POS_STATUS_ENC_REF n.val = 0 →
      ∃ t, exec (.encoderIndex n) s = .next t ∧ t.rd R.POS_IRQ_INDEX n.val = 1 ∧ t.rd R.POS_STATUS_ENC_REF n.val = 1 ∧
        t.rd R.POS_ENC_CNT_COUNT n.val = s.run R.POS_ENC_IDXPOS_IDXPOS n.val % R.POS_ENC_CNT_COUNT.size) ∧
    (s.run R.POS_ENC_IDX_GATE n.val = 1 → ((s.ch n).pos.enc.a && (s.ch n).pos.enc.b) = false → exec (.encoderIndex n) s = .next s) ∧
    (∃ t, exec (.encLoad n) s = .next t ∧ t.rd R.POS_STATUS_ENC_REF n.val = 1 ∧
      t.rd R.POS_ENC_CNT_COUNT n.val = s.run R.POS_ENC_IDXPOS_IDXPOS n.val % R.POS_ENC_CNT_COUNT.size ∧
      OnlyChan n [R.POS_ENC_CNT_COUNT.at n.val, R.POS_STATUS_ENC_REF.at n.val] s t) ∧
    (∃ t, exec (.posCntClr n) s = .next t ∧ t.rd R.POS_ERRCNT_ERR n.val = 0 ∧ OnlyRegs [R.POS_ERRCNT_ERR.at n.val] s t)

/-- R221 to R223, R226 to R228: a resolver interface that runs demodulates one excitation period of its two converters, and its tracking loop
follows the angle demodulated last, the lock below 5°; bad amplitudes and angles count; the gains of the loop are the model's free values
(log 10); EN starts it; a master SPI port runs the entries of its queue from the one its trigger names, keeps one trigger
pending, loses a further one, and ends at END. -/
def Obligations.ResolverAndSpiFollow : Prop :=
  ∀ (m : Fin 2) (s : State),
    (s.rd R.SCX_STATUS_RUNNING m.val ≠ 0 →
      (∀ x err w fine, x = s.scx.get m → err = angleDiff x.phi (x.fine / 65536) →
        w = f32Add (s.rdw R.SCX_SPEED m.val) (Config.trackGain (s.rd R.SCX_ATO_BW m.val) err).2 →
        fine = (((x.fine : Int) + trackTurn w + (Config.trackGain (s.rd R.SCX_ATO_BW m.val) err).1) % 2 ^ 32).toNat →
        ∃ t, exec (.resolverTrackUpdate m) s = .next t ∧ t.rd R.SCX_ANGLE_PHI m.val = fine / 65536 ∧
          t.rd R.SCX_ANGLE_AMP m.val = x.mag % 65536 ∧ t.rdw R.SCX_SPEED m.val = w ∧ t.rd R.SCX_STAMP_TIME m.val = s.ticks % 2 ^ 24 ∧
          t.rd R.SCX_STATUS_LOCK m.val = (if err.natAbs ≤ 910 then 1 else 0) ∧ t.scx.get m = { x with fine := fine } ∧
          OnlyRegs [R.SCX_ANGLE_PHI.at m.val, R.SCX_ANGLE_AMP.at m.val, R.SCX_SPEED.at m.val, R.SCX_STAMP_TIME.at m.val,
            R.SCX_STATUS_LOCK.at m.val] s { t with scx := s.scx }) ∧
      (∀ (sn cs : List (BitVec 16)) x y, y = demodSum (s.rd R.SCX_EXC_PHASE m.val) sn → x = demodSum (s.rd R.SCX_EXC_PHASE m.val) cs →
        ∃ t, exec (.resolverDemod m sn cs) s = .next t ∧ (t.scx.get m).phi = angleCode x y ∧
          (t.scx.get m).mag = demodAmp y x (max sn.length cs.length) ∧ (t.scx.get m).fine = (s.scx.get m).fine ∧
          (t.scx.get m).amp = (if (t.scx.get m).mag < s.rd R.SCX_ATO_AMP_LO m.val * 256 ∨ s.rd R.SCX_ATO_AMP_HI m.val * 256 < (t.scx.get m).mag
            then min ((s.scx.get m).amp + 1) 3 else 0) ∧
          (t.scx.get m).track = (if sinAbove30 ((angleCode x y + 65536 - s.rd R.SCX_ANGLE_PHI m.val) % 65536) = true
            then min ((s.scx.get m).track + 1) 3 else 0) ∧ Settled [] s { t with scx := s.scx })) ∧
    (s.rd R.SCX_STATUS_RUNNING m.val = 0 →
      exec (.resolverTrackUpdate m) s = .next s ∧ ∀ sn cs, exec (.resolverDemod m sn cs) s = .next s) ∧
    (s.locked (0x0A + m.val) = false →
      (∃ t, exec (.scxEnable m true) s = .next t ∧ t.rd R.SCX_CTRL_EN m.val = 1 ∧ t.rd R.SCX_STATUS_RUNNING m.val = 1 ∧
        OnlyRegs [R.SCX_CTRL_EN.at m.val, R.SCX_STATUS_RUNNING.at m.val] s t) ∧
      (∃ t, exec (.scxEnable m false) s = .next t ∧ t.rd R.SCX_CTRL_EN m.val = 0 ∧ t.rd R.SCX_STATUS_RUNNING m.val = 0 ∧
        t.rd R.SCX_STATUS_LOCK m.val = 0 ∧
        Settled [R.SCX_CTRL_EN.at m.val, R.SCX_STATUS_RUNNING.at m.val, R.SCX_STATUS_LOCK.at m.val] s { t with scx := s.scx })) ∧
    (∀ en, s.locked (0x0A + m.val) = true → exec (.scxEnable m en) s = .next (s.wrDenied (0x0A + m.val))) ∧
    (∀ k : Fin 4, s.rd (R.MSPI_TRIG_SRC.nth k.val) m.val = 2 → s.rd R.MSPI_CTRL_EN m.val ≠ 0 →
      (s.rd R.MSPI_STATUS_BUSY m.val = 0 →
        ∃ t, exec (.mspiSwtrig m k) s = .next t ∧ t.rd R.MSPI_STATUS_BUSY m.val = 1 ∧
          t.rd R.MSPI_STATUS_ENTRY m.val = s.rd (R.MSPI_TRIG_START.nth k.val) m.val % 32 ∧ (t.mspi.get m).count = 1 ∧
          OnlyRegs [R.MSPI_STATUS_BUSY.at m.val, R.MSPI_STATUS_ENTRY.at m.val] s { t with mspi := s.mspi }) ∧
      (s.rd R.MSPI_STATUS_BUSY m.val ≠ 0 → s.rd R.MSPI_STATUS_PENDING m.val = 0 →
        ∃ t, exec (.mspiSwtrig m k) s = .next t ∧ t.rd R.MSPI_STATUS_PENDING m.val = 1 ∧ (t.mspi.get m).pend = k.val ∧
          OnlyRegs [R.MSPI_STATUS_PENDING.at m.val] s { t with mspi := s.mspi }) ∧
      (s.rd R.MSPI_STATUS_BUSY m.val ≠ 0 → s.rd R.MSPI_STATUS_PENDING m.val ≠ 0 →
        ∃ t, exec (.mspiSwtrig m k) s = .next t ∧ t.rd R.MSPI_IRQ_TRIG_LOST m.val = 1 ∧ OnlyRegs [R.MSPI_IRQ_TRIG_LOST.at m.val] s t)) ∧
    (∀ (k : Fin 4) (n : Ch), s.rd (R.MSPI_TRIG_SRC.nth k.val) m.val = 1 → s.rd (R.MSPI_TRIG_CH.nth k.val) m.val = n.val →
      s.chOn n = true → s.rd R.PWM_STATUS_RUNNING n.val ≠ 0 → s.chState n ≠ .limp → (s.ch n).car.first = none → (s.ch n).car.divCnt = 0 →
      (s.ch n).car.pos = s.rd (R.MSPI_TRIG_POS.nth k.val) m.val * 32 → s.rd R.MSPI_CTRL_EN m.val ≠ 0 → s.rd R.MSPI_STATUS_BUSY m.val = 0 →
      ∃ t, exec (.mspiTrigger m k) s = .next t ∧ t.rd R.MSPI_STATUS_BUSY m.val = 1 ∧
        t.rd R.MSPI_STATUS_ENTRY m.val = s.rd (R.MSPI_TRIG_START.nth k.val) m.val % 32) ∧
    (∀ k : Fin 4, s.rd (R.MSPI_TRIG_SRC.nth k.val) m.val = 0 →
      exec (.mspiSwtrig m k) s = .next s ∧ exec (.mspiTrigger m k) s = .next s) ∧
    (∀ rx, s.rd R.MSPI_STATUS_BUSY m.val ≠ 0 → (s.mspi.get m).cur.getLsbD 31 = true → s.rd R.MSPI_STATUS_PENDING m.val = 0 →
      ∃ t, exec (.mspiEntryDone m rx) s = .next t ∧ t.rd R.MSPI_STATUS_BUSY m.val = 0 ∧ t.rd R.MSPI_IRQ_DONE m.val = 1 ∧
        (t.mspi.get m).held = false) ∧
    (∀ rx, s.rd R.MSPI_STATUS_BUSY m.val ≠ 0 → (s.mspi.get m).cur.getLsbD 31 = false → (s.mspi.get m).count < 32 →
      ∃ t, exec (.mspiEntryDone m rx) s = .next t ∧ t.rd R.MSPI_STATUS_BUSY m.val = s.rd R.MSPI_STATUS_BUSY m.val ∧
        t.rd R.MSPI_STATUS_ENTRY m.val = (s.rd R.MSPI_STATUS_ENTRY m.val + 1) % 32 ∧ (t.mspi.get m).count = (s.mspi.get m).count + 1) ∧
    (∀ rx, s.rd R.MSPI_STATUS_BUSY m.val = 0 → exec (.mspiEntryDone m rx) s = .next s)

/-- R257, R258, R261, R262: the words of the loop engine that commands write: a bank word that breaks no rule, a swap at once while the
carrier is stopped and waiting for its boundary while it runs, the writable nodes, the auxiliary references; a write that breaks a rule is
discarded with WR_REJ, its first cause and address held. -/
def Obligations.EngineWordsWritten : Prop :=
  ∀ (n : Ch) (s : State), s.chOn n = true →
    (∀ (imm : BitVec 6), s.rd R.LOOP_STATUS_SWAP_PENDING n.val = 0 → s.rd R.PWM_STATUS_RUNNING n.val ≠ 0 →
      ∃ t, exec (.bankSwap n imm) s = .next t ∧ t.rd R.LOOP_BANK_IMM n.val = imm.toNat ∧ t.rd R.LOOP_BANK_SWAP n.val = 1 ∧
        t.rd R.LOOP_STATUS_SWAP_PENDING n.val = 1 ∧
        OnlyRegs [R.LOOP_BANK_IMM.at n.val, R.LOOP_BANK_SWAP.at n.val, R.LOOP_STATUS_SWAP_PENDING.at n.val] s t) ∧
    (∀ (imm : BitVec 6), s.rd R.LOOP_STATUS_SWAP_PENDING n.val = 0 → s.rd R.PWM_STATUS_RUNNING n.val = 0 →
      ∃ t, exec (.bankSwap n imm) s = .next t ∧ t.rd R.LOOP_BANK_IMM n.val = imm.toNat ∧ t.rd R.LOOP_BANK_SWAP n.val = 0 ∧
        t.rd R.LOOP_STATUS_SWAP_PENDING n.val = 0 ∧ t.rd R.LOOP_IRQ_SWAP_DONE n.val = 1 ∧
        ((∀ k : Fin 6, (s.slice n k).swapped = false) → ∀ k : Fin 6, (t.slice n k).bankB = !(s.slice n k).bankB)) ∧
    (∀ (b : Bool) (k : Fin 6) (j : Fin 9) (v : Word), j.val < 8 → s.bankCause n b k j.val v = 0 →
      ∃ t, exec (.bankWrite n b k j v) s = .next t ∧ t.rdw ((bankFld b j.val).nth k.val) n.val = v ∧
        OnlyRegs [((bankFld b j.val).nth k.val).at n.val] s t) ∧
    (∀ (b : Bool) (k : Fin 6) (j : Fin 9) (v : Word), s.bankCause n b k j.val v ≠ 0 →
      ∃ t, exec (.bankWrite n b k j v) s = .next t ∧ t.rd R.LOOP_IRQ_WR_REJ n.val = 1 ∧ t.rd R.LOOP_WR_ERR_VALID n.val = 1 ∧
        (s.rd R.LOOP_WR_ERR_VALID n.val = 0 → t.rd R.LOOP_WR_ERR_CAUSE n.val = s.bankCause n b k j.val v % 8 ∧
          t.rd R.LOOP_WR_ERR_ADDR n.val = ((bankFld b j.val).nth k.val).addr n.val) ∧
        OnlyRegs [R.LOOP_IRQ_WR_REJ.at n.val, R.LOOP_WR_ERR_VALID.at n.val, R.LOOP_WR_ERR_CAUSE.at n.val, R.LOOP_WR_ERR_ADDR.at n.val]
          s t) ∧
    (∀ (b : Bool) (k : Fin 6) (j : Fin 9) (v : Word),
      (s.rd R.LOOP_STATUS_SWAP_PENDING n.val ≠ 0 → s.bankCause n b k j.val v = 5) ∧
      (s.rd R.LOOP_STATUS_SWAP_PENDING n.val = 0 → s.rd R.PWM_STATUS_RUNNING n.val ≠ 0 → (s.slice n k).bankB = b →
        s.bankCause n b k j.val v = 4)) ∧
    (∀ v, f32IsFinite v = true →
      (s.rd R.LOOP_NODE_IDX_IDX n.val = 0x31 → ∃ t, exec (.nodeWrite n v) s = .next t ∧ t.rdw R.LOOP_IDREF_REF n.val = v ∧
        OnlyRegs [R.LOOP_IDREF_REF.at n.val] s t) ∧
      (s.rd R.LOOP_NODE_IDX_IDX n.val = 0x32 → ∃ t, exec (.nodeWrite n v) s = .next t ∧ t.rdw R.LOOP_VDREF_REF n.val = v ∧
        OnlyRegs [R.LOOP_VDREF_REF.at n.val] s t) ∧
      (∀ k : Fin 6, s.rd R.LOOP_NODE_IDX_IDX n.val = 0x3A + k.val → ∃ t, exec (.nodeWrite n v) s = .next t ∧
        t.ch n = { s.ch n with eng.ext := (s.ch n).eng.ext.set k.val v } ∧ OnlyChan n [] s t) ∧
      (∃ t, exec (.auxRefWrite n false v) s = .next t ∧ t.rdw R.LOOP_IDREF_REF n.val = v ∧ OnlyRegs [R.LOOP_IDREF_REF.at n.val] s t) ∧
      (∃ t, exec (.auxRefWrite n true v) s = .next t ∧ t.rdw R.LOOP_VDREF_REF n.val = v ∧ OnlyRegs [R.LOOP_VDREF_REF.at n.val] s t)) ∧
    (∀ vd v, f32IsFinite v = false → ∃ t, exec (.auxRefWrite n vd v) s = .next t ∧ t.rd R.LOOP_IRQ_WR_REJ n.val = 1 ∧
      OnlyRegs [R.LOOP_IRQ_WR_REJ.at n.val, R.LOOP_WR_ERR_VALID.at n.val, R.LOOP_WR_ERR_CAUSE.at n.val, R.LOOP_WR_ERR_ADDR.at n.val] s t) ∧
    (∀ v, s.rd R.LOOP_NODE_IDX_IDX n.val < 0x31 → s.rd R.LOOP_WR_ERR_VALID n.val = 0 →
      ∃ t, exec (.nodeWrite n v) s = .next t ∧ t.rd R.LOOP_IRQ_WR_REJ n.val = 1 ∧ t.rd R.LOOP_WR_ERR_VALID n.val = 1 ∧
        t.rd R.LOOP_WR_ERR_CAUSE n.val = 6 ∧ t.rd R.LOOP_WR_ERR_ADDR n.val = s.rd R.LOOP_NODE_IDX_IDX n.val) ∧
    (∃ t, exec (.loopCntClr n) s = .next t ∧ t.rd R.LOOP_CNT_NONFINITE n.val = 0 ∧ t.rd R.LOOP_CNT_INVALID n.val = 0 ∧
      t.rd R.LOOP_LAT_MAX n.val = 0 ∧ OnlyRegs [R.LOOP_CNT_NONFINITE.at n.val, R.LOOP_CNT_INVALID.at n.val, R.LOOP_LAT_MAX.at n.val] s t)

/-- R356, R361, R362, R364, R381: a fault source reports. A disabled one and one of an unpowered channel do nothing; an ordinary source
outside its fault state is raised with its capture in the FLT page; a masked one only counts; a level source that stands reports nothing
new; its condition goes, its wait ends, and its fault state ends where the condition is absent. -/
def Obligations.FaultSourcesReport : Prop :=
  ∀ (i : BitVec 9) (s : State),
    (s.srcDisabled i.toNat = true ∨ s.coreOn = false → exec (.faultRaise i) s = .next s) ∧
    (∀ k, srcChan i.toNat = some k → s.domOn k = false → exec (.faultRaise i) s = .next s) ∧
    (s.srcDisabled i.toNat = false → s.coreOn = true → (∀ k, srcChan i.toNat = some k → s.domOn k = true) →
      i.toNat ∉ [srcSysUnlock, srcMonCclk, srcLodge, srcLockstep, srcRefFail, srcPwmUnlock, srcMonPclk] → isSupSafe i.toNat = false →
      (srcIsEvent i.toNat = true ∨ (s.fr i.toNat).cond = false) →
      exec (.faultRaise i) s = .next (s.raise i.toNat 0).settleAll ∧
      ((s.fr i.toNat).st.inFault = false → (s.fr i.toNat).react = rNone →
        (s.raise i.toNat 0).regs = s.regs ∧ ((s.raise i.toNat 0).fr i.toNat).st = .masked ∧
          ((s.raise i.toNat 0).fr i.toNat).events = min ((s.fr i.toNat).events + 1) 65535) ∧
      ((s.fr i.toNat).st.inFault = false → (s.fr i.toNat).react ≠ rNone →
        s.raise i.toNat 0 = s.raiseNew i.toNat 0 0xF { s.fr i.toNat with
          events := min ((s.fr i.toNat).events + 1) 65535, cond := !srcIsEvent i.toNat }) ∧
      Settled [] s (s.raise i.toNat 0).settleAll) ∧
    (∀ r : FltRec, (s.capture i.toNat r).rd R.FLT_IRQ_RAISED 0 = 1 ∧ (s.capture i.toNat r).rd R.FLT_FIRST_VALID 0 = 1 ∧
      (r.st = .latched → (s.capture i.toNat r).rd R.FLT_IRQ_LATCHED 0 = 1) ∧
      (s.capture i.toNat r).rd R.FLT_LAST_INDEX 0 = i.toNat ∧ (s.capture i.toNat r).rd R.FLT_LAST_CLASS 0 = r.inCls % 8 ∧
      (s.rd R.FLT_FIRST_VALID 0 = 0 → (s.capture i.toNat r).rd R.FLT_FIRST_INDEX 0 = i.toNat) ∧
      (s.rd R.FLT_FIRST_VALID 0 ≠ 0 → (s.capture i.toNat r).rd R.FLT_FIRST_INDEX 0 = s.rd R.FLT_FIRST_INDEX 0)) ∧
    (∀ (m : Sw) (r : FltRec), ((s.raisedRec i.toNat m r).st = .latched ∨ (s.raisedRec i.toNat m r).st = .active) ∧
      ((s.raisedRec i.toNat m r).st = .latched ↔
        (r.retryMax ≤ r.tries s.now ∨ r.cls = clsCrit) ∧ (srcOff i.toNat ≠ oSupSafe ∨ srcChan i.toNat = none))) ∧
    ((s.fr i.toNat).cond = true → srcIsEvent i.toNat = false →
      i.toNat ∉ [srcSysUnlock, srcMonCclk, srcLodge, srcLockstep, srcRefFail, srcPwmUnlock, srcMonPclk] → exec (.faultRaise i) s = .next s) ∧
    ((s.fr i.toNat).st = .active ∨ (s.fr i.toNat).st = .quiet → (srcIsEvent i.toNat = true ∨ (s.fr i.toNat).cond = false) →
      ∃ t, exec (.faultReoccurrence i) s = .next t ∧ Settled [] s t ∧ t = (s.raise i.toNat 0).settleAll) ∧
    ((s.fr i.toNat).st ≠ .active → (s.fr i.toNat).st ≠ .quiet → exec (.faultReoccurrence i) s = .next s) ∧
    ((s.fr i.toNat).cond = true → ∃ t, exec (.faultConditionAbsent i) s = .next t ∧ Settled [] s t ∧
      t = (s.condOff i.toNat).settleAll ∧ ((s.condOff i.toNat).fr i.toNat).cond = false) ∧
    ((s.fr i.toNat).cond = false → exec (.faultConditionAbsent i) s = .next s) ∧
    ((s.fr i.toNat).st = .active → isSupSafe i.toNat = false → timeCode (s.fr i.toNat).inQuiet ≠ 0 ∨ (s.fr i.toNat).cond = true →
      ∃ t, exec (.retryWaitExpiry i) s = .next t ∧ t.fr i.toNat = { s.fr i.toNat with st := .quiet } ∧
        (∀ k, k ≠ i.toNat → t.fr k = s.fr k) ∧ OnlyRegs [] s { t with flt := s.flt }) ∧
    ((s.fr i.toNat).st ≠ .active → exec (.retryWaitExpiry i) s = .next s) ∧
    ((s.fr i.toNat).st = .quiet → (s.fr i.toNat).cond = false →
      ∃ t, exec (.faultStateEnd i) s = .next t ∧ Settled [] s t ∧ t = (s.faultEnd i.toNat).settleAll) ∧
    ((s.fr i.toNat).st ≠ .quiet ∨ (s.fr i.toNat).cond = true → exec (.faultStateEnd i) s = .next s)

/-- R358, R363, R364, R366, R382, R532: the commands of the selected source: a latched one clears where its condition is absent and it is
no CRIT, and is denied otherwise; its counters clear; its class and reaction and its times take a write that the lock and its fixed values
allow. -/
def Obligations.FaultCommandsAct : Prop :=
  ∀ (s : State) (i : Nat), i = s.rd R.FLTS_SEL_INDEX 0 →
    (s.srcDisabled i = false → (s.fr i).st = .latched → (s.fr i).cond = false → (s.fr i).inCls ≠ clsCrit →
      ∃ t, exec .fltsClear s = .next t ∧ t = ((s.setFr i { s.fr i with denied := false }).faultEnd i).settleAll ∧ Settled [] s t) ∧
    (s.srcDisabled i = false → (s.fr i).st ≠ .latched ∨ (s.fr i).cond = true ∨ (s.fr i).inCls = clsCrit →
      ∃ t, exec .fltsClear s = .next t ∧ t = (s.setFr i { s.fr i with denied := true }).settleAll ∧ Settled [] s t) ∧
    (exec .clrLatched s = .next ((s.flt.filter fun e => e.2.st == .latched).foldl (fun s e => s.fltClear e.1) s).settleAll) ∧
    (s.srcDisabled i = false →
      (∃ t, exec .recovClr s = .next t ∧ t.fr i = { s.fr i with recov := Vector.replicate 4 0 } ∧ (∀ k, k ≠ i → t.fr k = s.fr k) ∧
        OnlyRegs [] s { t with flt := s.flt }) ∧
      (∃ t, exec .evtClr s = .next t ∧ t.fr i = { s.fr i with events := 0 } ∧ (∀ k, k ≠ i → t.fr k = s.fr k) ∧
        OnlyRegs [] s { t with flt := s.flt })) ∧
    (s.srcDisabled i = true → exec .fltsClear s = .next s ∧ exec .recovClr s = .next s ∧ exec .evtClr s = .next s) ∧
    (∀ v : Word, s.locked 5 = false → s.srcDisabled i = false →
      cfgRefused i (v.toNat % 8) (v.toNat / 16 % 16) (v.toNat / 256 % 16) (s.fr i) = false → (s.fr i).st ≠ .masked →
      ∃ t, exec (.fltsCfgWrite v) s = .next t ∧ (t.fr i).cls = v.toNat % 8 ∧ (t.fr i).react = v.toNat / 16 % 16 ∧
        (t.fr i).retryMax = v.toNat / 256 % 16 ∧ (∀ k, k ≠ i → t.fr k = s.fr k) ∧ OnlyRegs [] s { t with flt := s.flt }) ∧
    (∀ v : Word, s.locked 5 = false → s.srcDisabled i = false →
      cfgRefused i (v.toNat % 8) (v.toNat / 16 % 16) (v.toNat / 256 % 16) (s.fr i) = true →
      ∃ t, exec (.fltsCfgWrite v) s = .next t ∧ t.rd R.FLT_IRQ_CFG_DENIED 0 = 1 ∧ OnlyRegs [R.FLT_IRQ_CFG_DENIED.at 0] s t) ∧
    (∀ v : Word, s.locked 5 = false → s.srcDisabled i = false → srcNoRetry i = false → timeOk v.toNat = true →
      ∃ t, exec (.fltsTimeWrite v) s = .next t ∧
        t.fr i = { s.fr i with wait := v.toNat % 256, quiet := v.toNat / 256 % 256, window := v.toNat / 65536 % 256 } ∧
        (∀ k, k ≠ i → t.fr k = s.fr k) ∧ OnlyRegs [] s { t with flt := s.flt }) ∧
    (∀ v : Word, s.locked 5 = false → s.srcDisabled i = false → srcNoRetry i = true ∨ timeOk v.toNat = false →
      ∃ t, exec (.fltsTimeWrite v) s = .next t ∧ t.rd R.FLT_IRQ_CFG_DENIED 0 = 1 ∧ OnlyRegs [R.FLT_IRQ_CFG_DENIED.at 0] s t) ∧
    (∀ v : Word, s.locked 5 = true → exec (.fltsCfgWrite v) s = .next (s.wrDenied 5) ∧ exec (.fltsTimeWrite v) s = .next (s.wrDenied 5))

/-- R24, R368, R369, R384, R400: the halt net. HALT_N, a halt symbol of a port with symbol lock, and FBK.CTRL.HALT assert it with their
causes where it is not asserted; RELEASE stops driving and orders the test, which releases where its four conditions hold and refuses
otherwise. -/
def Obligations.HaltNetActs : Prop :=
  ∀ (s : State),
    (s.rd R.FBK_STATUS_HALTED 0 = 0 →
      (∀ u, u = ({ s with haltLow := true } : State).haltPin → s.rd R.FBK_CFG_HIN_EN 0 ≠ 0 → exec .haltNFall s = .next (u.haltAssert 1).settleAll) ∧
      exec .fbkHalt s = .next (s.haltAssert 8).settleAll ∧
      (∀ p : Ch, s.domOn dLink = true → (s.hl2880 = false ∨ p.val < 2) → s.rd R.LNK_STATUS_SYMLOCK p.val ≠ 0 →
        exec (.haltSymbolReceived p) s =
          .next ((s.wrs p.val [(R.LNK_STATUS_HALT_RX, 1), (R.LNK_IRQ_HALT_RX, 1)]).haltAssert (2 + p.val)).enumPump.settleAll) ∧
      (∀ cause, (∀ n, s.chOn n = false) →
        (s.haltAssert cause).rd R.FBK_STATUS_HALTED 0 = 1 ∧ (s.haltAssert cause).rd R.FBK_STATUS_CAUSE 0 = cause % 16 ∧
        (s.haltAssert cause).rd R.FBK_IRQ_HALT_EVT 0 = 1 ∧ (s.haltAssert cause).rd R.FBK_HALT_TIME_TIME 0 = s.ticks % 2 ^ 32 ∧
        (s.haltAssert cause).rd R.FBK_STATUS_DRIVING 0 = s.rd R.FBK_CFG_HOUT_EN 0) ∧
      (∀ cause, Settled [] s (s.haltAssert cause)) ∧
      exec .fbkRelease s = .next s) ∧
    (s.rd R.FBK_CFG_HIN_EN 0 = 0 → ∃ t, exec .haltNFall s = .next t ∧ t.haltLow = true ∧ t.rd R.FBK_STATUS_PIN 0 = 0 ∧
      OnlyRegs [R.FBK_STATUS_PIN.at 0] s { t with haltLow := s.haltLow }) ∧
    (s.haltPin.rd R.FBK_STATUS_PIN 0 = (if s.haltLow = true ∨ s.rd R.FBK_STATUS_DRIVING 0 ≠ 0 then 0 else 1) ∧
      OnlyRegs [R.FBK_STATUS_PIN.at 0] s s.haltPin) ∧
    (s.rd R.FBK_STATUS_HALTED 0 ≠ 0 →
      (∃ t, exec .fbkRelease s = .next t ∧ t.relPend = true ∧ t.rd R.FBK_STATUS_DRIVING 0 = 0 ∧
        t.rd R.FBK_STATUS_PIN 0 = (if s.haltLow = true then 0 else 1) ∧
        OnlyRegs [R.FBK_STATUS_DRIVING.at 0, R.FBK_STATUS_PIN.at 0] s { t with relPend := s.relPend }) ∧
      (∀ cause, s.haltAssert cause = s) ∧
      (∀ p : Ch, s.domOn dLink = true → (s.hl2880 = false ∨ p.val < 2) → 3 ≤ s.lst p →
        exec (.hltTransmit p) s = .next (s.modLp p fun l => l.says p s.now .hlt).after)) ∧
    (∀ pin, s.relPend = true → s.releaseOk pin = true →
      ∃ t, exec (.haltReleaseTest pin) s = .next t ∧ t.relPend = false ∧ t.rd R.FBK_IRQ_RELEASED 0 = 1 ∧
        t = (({ s with haltLow := !pin, relPend := false } : State).haltPin.wrs 0
          [(R.FBK_STATUS_HALTED, 0), (R.FBK_STATUS_REL_BLOCKED, 0), (R.FBK_IRQ_RELEASED, 1)]).settleAll ∧
        Settled [R.FBK_STATUS_PIN.at 0, R.FBK_IRQ_RELEASED.at 0] { s with haltLow := !pin, relPend := false } t) ∧
    (∀ pin, s.relPend = true → s.releaseOk pin = false →
      ∃ t, exec (.haltReleaseTest pin) s = .next t ∧ t.relPend = false ∧ t.rd R.FBK_STATUS_REL_BLOCKED 0 = 1 ∧
        t.rd R.FBK_IRQ_REL_REFUSED 0 = 1 ∧ t.rd R.FBK_STATUS_HALTED 0 = s.rd R.FBK_STATUS_HALTED 0 ∧
        OnlyRegs [R.FBK_STATUS_PIN.at 0, R.FBK_STATUS_REL_BLOCKED.at 0, R.FBK_IRQ_REL_REFUSED.at 0] s
          { t with haltLow := s.haltLow, relPend := s.relPend } ∧ t.haltLow = !pin) ∧
    (∀ pin, s.releaseOk pin = true ↔ (pin = true ∨ s.rd R.FBK_CFG_HIN_EN 0 = 0) ∧
      (∀ e ∈ s.inFault, e.2.inCls ≠ clsHalt ∧ e.2.inReact ≠ rDevHalt) ∧ s.rngHalt = false ∧
      (s.domOn dLink = false ∨ ∀ p < 4, s.rd R.LNK_STATUS_HALT_RX p = 0)) ∧
    (∀ pin, s.relPend = false → exec (.haltReleaseTest pin) s = .next s) ∧
    (∀ p : Ch, s.domOn dLink = true → (s.hl2880 = false ∨ p.val < 2) →
      exec (.haltRxExpiry p) s = .next (s.wr R.LNK_STATUS_HALT_RX p.val 0).enumPump.settleAll)

/-- R370, R371, R375: the safe state: SAFE_REQn shows its cause and sets its event; the backstop and the supply's time assert it while the
cause stands; the heartbeat of a loop engine that runs and the watchdog of a core that is armed raise their sources. -/
def Obligations.SafeStatePathActs : Prop :=
  ∀ (n : Ch) (s : State),
    (∀ b : Fin 5, s.chOk n.val = true → ∃ t, exec (.safeReqAssert n b) s = .next t ∧ t = (s.safeAssert n b.val).settleAll ∧ Settled [] s t) ∧
    (∀ b : Fin 5, (s.bit R.SUP_STATUS_SAFE_REQ 0 n.val = true →
        s.safeAssert n b.val = s.orBits R.SUP_SAFE_CAUSE_CAUSE 0 (2 ^ (8 * n.val + b.val))) ∧
      (s.bit R.SUP_STATUS_SAFE_REQ 0 n.val = false → s.rd R.FBK_CFG_SAFE_HALT 0 = 0 → s.safeAssert n b.val =
        (((s.orBits R.SUP_SAFE_CAUSE_CAUSE 0 (2 ^ (8 * n.val + b.val))).orBits R.SUP_STATUS_SAFE_REQ 0 (2 ^ n.val)).wr
          R.SUP_IRQ_SAFE 0 1).raise (srcCh n.val oSupSafe) 0) ∧
      (s.orBits R.SUP_SAFE_CAUSE_CAUSE 0 (2 ^ (8 * n.val + b.val))).bit R.SUP_SAFE_CAUSE_CAUSE 0 (8 * n.val + b.val) = true) ∧
    (∀ b : Fin 5, s.chOk n.val = false → exec (.safeReqAssert n b) s = .next s) ∧
    (s.chOn n = true → (s.fr (srcCh n.val oLoopHb)).st.inFault = true ∨ (s.fr (srcCh n.val oGrvWdt)).st.inFault = true →
      s.chState n ≠ .fault → s.chState n ≠ .limp → s.chState n ≠ .idle → s.chState n ≠ .halted →
      ∃ t, exec (.safeBackstopTimeout n) s = .next t ∧ t = (s.safeAssert n 2).settleAll ∧ Settled [] s t) ∧
    (s.chState n = .fault ∨ s.chState n = .limp ∨ s.chState n = .idle ∨ s.chState n = .halted →
      exec (.safeBackstopTimeout n) s = .next s) ∧
    ((s.fr (srcSupV + 4)).cond = true ∨ (s.fr (srcSupV + 5)).cond = true →
      ∃ t, exec .safeSupplyTimeout s = .next t ∧
        t = (s.safeAll 3).settleAll ∧ (s.hl2880 = false → s.safeAll 3 = (((s.safeAssert 0 3).safeAssert 1 3).safeAssert 2 3).safeAssert 3 3) ∧
        (s.hl2880 = true → s.safeAll 3 = (s.safeAssert 0 3).safeAssert 1 3) ∧ Settled [] s t) ∧
    ((s.fr (srcSupV + 4)).cond = false → (s.fr (srcSupV + 5)).cond = false → exec .safeSupplyTimeout s = .next s) ∧
    (s.chOn n = true → s.rd R.GRV_STATUS_WDT_ARMED n.val ≠ 0 → s.frozen n = false →
      exec (.groveWdtExpiry n) s = .next (s.raise (srcCh n.val oGrvWdt) 0).settleAll) ∧
    (s.rd R.GRV_STATUS_WDT_ARMED n.val = 0 → exec (.groveWdtExpiry n) s = .next s) ∧
    (s.chOn n = true → (s.ch n).eng.hb = true → 2 ≤ (s.chState n).code → s.chState n ≠ .limp →
      (s.fr (srcCh n.val oLoopHb)).cond = false → srcIsEvent (srcCh n.val oLoopHb) = false →
      exec (.loopHeartbeatTimeout n) s = .next (s.raise (srcCh n.val oLoopHb) 0).settleAll) ∧
    ((s.ch n).eng.hb = false → exec (.loopHeartbeatTimeout n) s = .next s)

/-- R70, R72, R77, R372, R373, R376: Ranger's supervision: its self-test and the time for it, the lockstep compare, the Lodge's liveness, the
windows of the clock monitors, the supply samples. -/
def Obligations.RangerSupervises : Prop :=
  ∀ (s : State),
    (s.pwr.mode = .boot → 6 ≤ s.pwr.step → s.rd R.SUP_STATUS_POST_OK 0 = 0 →
      (∃ t, exec (.rangerSelftestDone true) s = .next t ∧ t.rd R.SUP_STATUS_POST_OK 0 = 1 ∧ t.rd R.SUP_STATUS_LOCKSTEP_OK 0 = 1 ∧
        OnlyRegs [R.SUP_STATUS_POST_OK.at 0, R.SUP_STATUS_LOCKSTEP_OK.at 0] s t) ∧
      (∃ t, exec (.rangerSelftestDone false) s = .next t ∧ t.pwr.mode = .held ∧ t.pwr.hold = 4 ∧ OnlyRegs [] s { t with pwr := s.pwr }) ∧
      (∃ t, exec .rangerSelftestTimeout s = .next t ∧ t.pwr.mode = .held ∧ t.pwr.hold = 4 ∧ OnlyRegs [] s { t with pwr := s.pwr })) ∧
    (s.rd R.SUP_STATUS_POST_OK 0 ≠ 0 → (∀ b, exec (.rangerSelftestDone b) s = .next s) ∧ exec .rangerSelftestTimeout s = .next s) ∧
    (s.rangerOn = true → ∃ t, exec .lockstepMismatch s = .next t ∧ t.rd R.SUP_STATUS_LOCKSTEP_OK 0 = 0 ∧
      t = (((s.wr R.SUP_STATUS_LOCKSTEP_OK 0 0).raise srcLockstep 0).safeAll 1).settleAll ∧
      Settled [R.SUP_STATUS_LOCKSTEP_OK.at 0] s t) ∧
    (∀ c : BitVec 32, s.rangerOn = true →
      (c.toNat ≠ s.rng.alive → ∃ t, exec (.lodgeLivenessCheck c) s = .next t ∧ t = { s with rng.alive := c.toNat, rng.same := 0 }) ∧
      (c.toNat = s.rng.alive → s.rng.same < 9 →
        exec (.lodgeLivenessCheck c) s = .next { s with rng.alive := c.toNat, rng.same := s.rng.same + 1 }) ∧
      (c.toNat = s.rng.alive → 9 ≤ s.rng.same → exec (.lodgeLivenessCheck c) s =
        .next (({ s with rng.alive := c.toNat, rng.same := s.rng.same + 1 } : State).deviceReset 0x80))) ∧
    (∀ c, s.rangerOn = false → exec (.lodgeLivenessCheck c) s = .next s) ∧ (s.rangerOn = false → exec .lockstepMismatch s = .next s) ∧
    (∀ (k : Fin 8) (c : BitVec 16), s.monActive k = true → (k ≠ 0 ∧ k ≠ 5 ∨ monOut k c.toNat = false ∨ s.rng.mon.get k = 0) →
      ∃ t, exec (.clockMonitorWindow k c) s = .next t ∧ t.rd (R.CLK_MONCNT_COUNT.nth k.val) 0 = c.toNat ∧
        t.rd (R.CLK_MONCNT_OUT.nth k.val) 0 = (monOut k c.toNat).toNat ∧
        t.rng.mon.get k = (if monOut k c.toNat = true then min (s.rng.mon.get k + 1) 2 else 0) ∧
        (monOut k c.toNat = true → t.rd R.CLK_IRQ_MON 0 = 1)) ∧
    (∀ (k : Fin 8) (c : BitVec 16), s.monActive k = false →
      ∃ t, exec (.clockMonitorWindow k c) s = .next t ∧ t.rng.mon.get k = 0 ∧ { t with rng := s.rng } = s) ∧
    (∀ (k : Fin 8) w, (R.CLK_MONCNT_ACTIVE.get (s.clkRead (0x20 + 4 * k.val) w) = 1 ↔ s.monActive k = true) ∧
      (s.clkRead (0x20 + 4 * k.val) w).toNat % 65536 = w.toNat % 65536) ∧
    (∀ a b c d e upd, s.rangerOn = true →
      ∃ t, exec (.supplyMonitorSample a b c d e upd) s = .next t ∧
        (upd = true → t.rdw R.SUP_VSUP_V 0 = f32OfRat a 1000000) ∧ (upd = false → t.rdw R.SUP_VSUP_V 0 = s.rdw R.SUP_VSUP_V 0) ∧
        Settled [R.SUP_VSUP_V.at 0] s { t with rng.volt := s.rng.volt }) ∧
    (∀ a b c d e upd, s.rangerOn = false → exec (.supplyMonitorSample a b c d e upd) s = .next s)

/-- R377 to R379, R503: Ranger's schedule: the scan of the locked pages in order, the recapture of their references, the requests of a
comparator self-test, the corrected errors of a window against their limit, the passes over the OTP rows. -/
def Obligations.RangerSchedules : Prop :=
  ∀ (s : State),
    (∀ p q rest, s.rangerOn = true → s.scanList.filter (fun k => decide (s.rng.scan ≤ k)) = p :: q :: rest →
      ∃ t, exec .configScanTick s = .next t ∧ t.rng.scan = p + 1 ∧ t.rd R.SUP_STATUS_SCAN_BUSY 0 = 1) ∧
    (∀ p, s.rangerOn = true → s.scanList.filter (fun k => decide (s.rng.scan ≤ k)) = [p] →
      ∃ t, exec .configScanTick s = .next t ∧ t.rng.scan = 0 ∧ t.rd R.SUP_STATUS_SCAN_BUSY 0 = 0 ∧ t.rd R.SUP_IRQ_SCAN_DONE 0 = 1) ∧
    (s.rangerOn = false → exec .configScanTick s = .next s) ∧
    (∃ t, exec .recap s = .next t ∧ t = { s with rng.refs := [] }) ∧
    (∃ t, exec .stestNow s = .next t ∧ t.rd R.SUP_IRQ_STEST_REQ 0 = 1 ∧
      ∀ n : Ch, s.chOk n.val = true → s.chState n ≠ .idle → t.rng.stestReq.getLsbD n.val = true) ∧
    (s.rd R.SUP_STEST_PERIOD 0 ≠ 0 → s.rangerOn = true → ∃ t, exec .selftestScheduleTimer s = .next t ∧ t.rd R.SUP_IRQ_STEST_REQ 0 = 1) ∧
    (s.rd R.SUP_STEST_PERIOD 0 = 0 ∨ s.rangerOn = false → exec .selftestScheduleTimer s = .next s) ∧
    (∀ errs, errs.length ≤ s.rd R.SUP_ECC_LIM_LIM 0 →
      ∃ t, exec (.eccRateWindow errs) s = .next t ∧ OnlyRegs [] s { t with rng.ecc := s.rng.ecc } ∧
        ∀ k a, errs = [(k, a)] → k.toNat < 20 → ∀ j : Fin 20,
          t.rng.ecc.get j = if j.val = k.toNat then (min ((s.rng.ecc.get j).1 + 1) 65535, (s.rng.ecc.get j).2.1, a.toNat)
            else s.rng.ecc.get j) ∧
    (∀ errs, s.rd R.SUP_ECC_LIM_LIM 0 < errs.length →
      exec (.eccRateWindow errs) s = .next ((errs.foldl (fun s e => s.eccCorr e.1.toNat e.2.toNat) s).raise srcEccRate 0).settleAll) ∧
    (s.rd R.OTP_STATUS_PASS_BUSY 0 = 0 → s.domOn dOtpw = false →
      (∃ t, exec .verifyNow s = .next t ∧ t.rd R.OTP_STATUS_PASS_BUSY 0 = 1 ∧ OnlyRegs [R.OTP_STATUS_PASS_BUSY.at 0] s t) ∧
      (s.rd R.SYS_STATUS_BOOT_DONE 0 ≠ 0 → ∃ t, exec .otpReverifyPassStart s = .next t ∧ t.rd R.OTP_STATUS_PASS_BUSY 0 = 1 ∧
        OnlyRegs [R.OTP_STATUS_PASS_BUSY.at 0] s t)) ∧
    (s.rd R.OTP_STATUS_PASS_BUSY 0 = 0 → s.domOn dOtpw = true →
      exec .verifyNow s = .next { s with otp.verifyDue := true }) ∧
    (s.rd R.OTP_STATUS_PASS_BUSY 0 ≠ 0 → exec .verifyNow s = .next s ∧
      (∃ t, exec (.otpReverifyPassDone none) s = .next t ∧ t.rd R.OTP_STATUS_PASS_BUSY 0 = 0 ∧ t.rd R.OTP_IRQ_PASS_DONE 0 = 1 ∧
        Settled [R.OTP_STATUS_PASS_BUSY.at 0, R.OTP_IRQ_PASS_DONE.at 0] s t) ∧
      (∀ row low, ∃ t, exec (.otpReverifyPassDone (some (row, low))) s = .next t ∧ t.rd R.OTP_STATUS_PASS_BUSY 0 = 0 ∧
        t.rd R.OTP_IRQ_PASS_DONE 0 = 1 ∧ t.rd R.OTP_IRQ_MARGIN 0 = 1 ∧ t.rd R.OTP_MARGIN_VALID 0 = 1 ∧
        t.rd R.OTP_MARGIN_COUNT 0 = min (s.rd R.OTP_MARGIN_COUNT 0 + 1) 255 ∧
        (s.rd R.OTP_MARGIN_VALID 0 = 0 → t.rd R.OTP_MARGIN_ROW 0 = row.toNat ∧ t.rd R.OTP_MARGIN_REF 0 = low.toNat))) ∧
    (∀ b, s.rd R.OTP_STATUS_PASS_BUSY 0 = 0 → exec (.otpReverifyPassDone b) s = .next s)

/-- R55, R60, R65 to R69, R71, R73, R98: supplies, resets, clocks. A power-on reset leaves only the fuses, those of a pulse in progress as
R507 says; a supply that fails, RESET_N, the device reset of software start the boot again at their step with their cause; references and PLLs
report. What a pulse in progress leaves of its target bits is a free value (log 186). -/
def Obligations.PowerAndResetAct : Prop :=
  ∀ (s : State),
    (∀ k : Fin 5, (k ≠ 3 ∨ s.pwr.buckWait = false) → ∃ t, exec (.supplyGood k) s = .next t ∧
      t.rd R.PWR_STATUS_GOOD 0 = s.rd R.PWR_STATUS_GOOD 0 ||| 2 ^ k.val ∧ OnlyRegs [R.PWR_STATUS_GOOD.at 0] s t) ∧
    (∃ t, exec .powerOnReset s = .next t ∧ t.pending = s.pending ∧ t.otp.fuse = s.otpCut.otp.fuse ∧ t.chan = State.reset.chan ∧
      t.flt = State.reset.flt ∧ t.mem = State.reset.mem ∧ t.pwr.mode = Pwr.reset.mode ∧ t.pwr.step = Pwr.reset.step ∧
      t.word 0x30 = (if s.pwr.rstLow = true then 33#32 else 1#32)) ∧
    -- R507: what a pulse in progress leaves
    (∀ j, s.otpPulsing j = true ↔ j.typ = jOtp ∧ (j.st = .running ∨ ((j.st = .suspending ∨ j.st = .cancelling) ∧ j.ended = false)) ∧
      j.work < otpUnits (j.params.getD 0 0) ∧ s.domOn dOtpw = true) ∧
    (s.jobs.toList.find? s.otpPulsing = none → s.otpCut = s) ∧
    (∀ j a l, s.jobs.toList.find? s.otpPulsing = some j → s.otpSpot j.params j.work = (a, l) →
      (∀ b, b < a ∨ a + l.length ≤ b → s.otpCut.fuse b = s.fuse b) ∧
      (∀ i, i < l.length → s.otpCut.fuse (a + i) = s.fuse (a + i) ||| (l.getD i 0#32 &&& Config.freeValue (s.free + i))) ∧
      s.otpCut = { s with otp.fuse := s.otpCut.otp.fuse, free := s.free + l.length }) ∧
    (∀ p u, (otpOp (p.getD 0 0#32) = 1 →
        s.otpSpot p u = (8 * s.phys (otpRow (p.getD 0 0#32) + u), (s.otp.src.drop (8 * u)).take 8)) ∧
      (otpOp (p.getD 0 0#32) = 2 → s.otpSpot p u = (8 * s.phys (regRec (otpRegion (p.getD 0 0#32))), s.otpTarget (p.getD 0 0#32) (p.getD 2 0#32) u)) ∧
      (otpOp (p.getD 0 0#32) = 3 → s.otpSpot p u = (0x982, [wd (2 ^ (3 * otpRegion (p.getD 0 0#32) + u))])) ∧
      (otpOp (p.getD 0 0#32) = 4 → u ≠ 0 → s.otpSpot p u = (copyKey s.otp.spare (u - 1), [wd (0x8000 + otpRow (p.getD 0 0#32))])) ∧
      (otpOp (p.getD 0 0#32) = 5 → s.otpSpot p u =
        (if u = 0 then (0x980, [s.otp.src.getD 0 0#32]) else (0x981, [~~~ s.otp.src.getD 0 0#32])))) ∧
    exec (.supplyFail 0) s = exec .powerOnReset s ∧
    (∀ k : Fin 5, k ≠ 0 → s.bit R.PWR_STATUS_GOOD 0 k.val = true → s.pwr.mode ≠ .standby → (s.pwr.mode = .boot → 3 ≤ s.pwr.step) →
      ∃ t, exec (.supplyFail k) s = .next t ∧ t.pwr.mode = .boot ∧ t.pwr.step = 2 ∧ t.otp.fuse = s.otpCut.otp.fuse ∧ t.chan = State.reset.chan ∧
        t.flt = State.reset.flt ∧ t.pwr.wakeEn = s.pwr.wakeEn ∧ t.pwr.cause = s.causes (2 ^ k.val) ||| (if s.pwr.rstLow = true then 32 else 0) ∧
        t.bit R.PWR_STATUS_GOOD 0 k.val = false) ∧
    (∀ k : Fin 5, k ≠ 0 → s.bit R.PWR_STATUS_GOOD 0 k.val = true → s.pwr.mode = .boot → s.pwr.step < 3 →
      ∃ t, exec (.supplyFail k) s = .next t ∧ t.bit R.PWR_STATUS_GOOD 0 k.val = false ∧
        t.pwr = { s.pwr with cause := if s.pwr.causeCyc = s.now / 3125 then s.pwr.cause ||| 2 ^ k.val else s.pwr.cause } ∧
        OnlyRegs [R.PWR_STATUS_GOOD.at 0, (0x30, 0xFFFFFFFF#32)] s { t with pwr := s.pwr }) ∧
    (∀ k : Fin 5, k ≠ 0 → s.pwr.mode = .standby →
      ∃ t, exec (.supplyFail k) s = .next t ∧ t.bit R.PWR_STATUS_GOOD 0 k.val = false ∧ OnlyRegs [R.PWR_STATUS_GOOD.at 0] s t) ∧
    (∀ k : Fin 5, k ≠ 0 → s.bit R.PWR_STATUS_GOOD 0 k.val = false → exec (.supplyFail k) s = .next s) ∧
    (∀ c cyc, cyc = s.now / 3125 →
      s.causes c = (if s.pwr.causeCyc = cyc then s.pwr.cause ||| c else c) ||| (if s.pwr.soft = some cyc then 64 else 0)) ∧
    (s.coreOn = true → ∃ t, exec .resetNLow s = .next t ∧ t.pwr.mode = .boot ∧ t.pwr.step = 5 ∧ t.pwr.rstLow = true ∧
      t.pwr.cause = s.causes 32 ∧ t.word 0x30 = wd (s.causes 32) ∧ t.pwr.causeCyc = s.now / 3125 ∧
      t.chan = State.reset.chan ∧ t.otp.fuse = s.otpCut.otp.fuse) ∧
    (s.pwr.mode = .boot → s.pwr.step < 5 → ∃ t, exec .resetNLow s = .next t ∧ t.pwr = { s.pwr with
      rstLow := true, cause := s.pwr.cause ||| 32 } ∧ t.word 0x30 = wd (s.pwr.cause ||| 32) ∧
      OnlyRegs [(0x30, 0xFFFFFFFF#32)] s { t with pwr := s.pwr }) ∧
    (s.pwr.mode = .standby → exec .resetNLow s = .next { s with pwr.rstLow := true }) ∧
    exec .resetNHigh s = .next { s with pwr.rstLow := false } ∧
    (s.coreOn = true → ∃ t, exec (.devrst 0xC3) s = .next t ∧ t.rd R.SYS_CTRL_DEVRST 0 = 1 ∧ t.pwr.soft = some (s.now / 3125) ∧
      OnlyRegs [R.SYS_CTRL_DEVRST.at 0] s { t with pwr := s.pwr }) ∧
    (∀ key, key ≠ 0xC3 ∨ s.coreOn = false → exec (.devrst key) s = .next s) ∧
    (s.pwr.soft ≠ none → ∃ t, exec .softwareReset s = .next t ∧ t.pwr.mode = .boot ∧ t.pwr.step = 5 ∧ t.pwr.soft = none ∧
      t.pwr.cause = s.causes 64 ∧ t.chan = State.reset.chan ∧ t.otp.fuse = s.otpCut.otp.fuse) ∧
    (s.pwr.soft = none → exec .softwareReset s = .next s) ∧
    (s.pwr.mode = .boot → 3 ≤ s.pwr.step → s.bit R.PWR_STATUS_GOOD 0 3 = false →
      exec .buckSoftstartTimeout s = .next { s with pwr.buckWait := true }) ∧
    exec .buckRestart s = .next { s with pwr.buckWait := false } ∧
    (s.pwr.mode ≠ .standby → s.bit R.PWR_STATUS_GOOD 0 4 = true → ∃ t, exec .referenceGood s = .next t ∧
      t.rd R.CLK_STATUS_REF_GOOD 0 = 1 ∧ OnlyRegs [R.CLK_STATUS_REF_GOOD.at 0] s t) ∧
    (s.pwr.mode = .run → s.rd R.SYS_STATUS_REF_FALLBACK 0 = 0 → ∃ t, exec .referenceFallback s = .next t ∧
      t.rd R.SYS_STATUS_REF_FALLBACK 0 = 1 ∧ t.rd R.CLK_STATUS_REF_GOOD 0 = 0 ∧
      Settled [R.SYS_STATUS_REF_FALLBACK.at 0, R.CLK_STATUS_REF_GOOD.at 0, R.CLK_STATUS_SYSPLL_RC.at 0, R.CLK_STATUS_PWMPLL_RC.at 0] s t) ∧
    (7 ≤ s.pwr.step → ∃ t, exec (.pllLocked 0) s = .next t ∧ t.rd R.CLK_STATUS_SYSPLL_LOCK 0 = 1 ∧ t.rd R.CLK_STATUS_BUCK_CCLK 0 = 1 ∧
      OnlyRegs [R.CLK_STATUS_SYSPLL_LOCK.at 0, R.CLK_STATUS_BUCK_CCLK.at 0] s t) ∧
    (s.domOn dLink = true → ∃ t, exec (.pllLocked 2) s = .next t ∧ t.rd R.CLK_STATUS_LINKPLL_LOCK 0 = 1 ∧
      Settled [R.CLK_STATUS_LINKPLL_LOCK.at 0] s t) ∧
    (7 ≤ s.pwr.step → ∃ t, exec (.pllLocked 1) s = .next t ∧ t.rd R.CLK_STATUS_PWMPLL_LOCK 0 = 1) ∧
    (s.rd R.CLK_STATUS_SYSPLL_LOCK 0 ≠ 0 → exec (.pllUnlock 0) s = .next (s.deviceReset 0x100)) ∧
    (s.rd R.CLK_STATUS_PWMPLL_LOCK 0 ≠ 0 → ∃ t, exec (.pllUnlock 1) s = .next t ∧ t.rd R.CLK_STATUS_PWMPLL_LOCK 0 = 0 ∧
      t.rd R.CLK_IRQ_PWMPLL_LOST 0 = 1)

/-- R62, R75, R77, R82: the boot: a step whose condition holds completes in its order and shows, the last one ends the boot; a step that is
late is recorded, raised once the Lodge runs, and passed from step 13 on. -/
def Obligations.BootSteps : Prop :=
  ∀ (s : State), s.pwr.mode = .boot →
    (∀ m pin, s.pwr.step < 16 → s.stepReady (s.pwr.step + 1) = true →
      exec (.bootStepComplete m pin) s = .next ((s.bootEffect (s.pwr.step + 1) m).stepDone (s.pwr.step + 1)).settleAll ∧
      (∀ u : State, (u.stepDone (s.pwr.step + 1)).rd R.SYS_BOOT_STEP 0 = s.pwr.step + 1)) ∧
    (∀ m, s.pwr.step = 16 → ∃ t, exec (.bootStepComplete m true) s = .next t ∧ t.pwr.mode = .run ∧ t.rd R.SYS_BOOT_STEP 0 = 17 ∧
      t.rd R.SYS_STATUS_BOOT_DONE 0 = 1 ∧ t.rd R.SYS_IRQ_BOOT_DONE 0 = 1 ∧ t.rd R.FBK_STATUS_PIN 0 = 1 ∧
      Settled [R.SYS_BOOT_STEP.at 0, R.SYS_STATUS_BOOT_DONE.at 0, R.SYS_IRQ_BOOT_DONE.at 0, R.FBK_STATUS_PIN.at 0]
        { s with pwr := { s.pwr with mode := .run, step := 17 } } t) ∧
    (∀ m pin, s.stepReady (s.pwr.step + 1) = false → exec (.bootStepComplete m pin) s = .next s) ∧
    (s.pwr.step < 8 → s.pwr.step ≠ 6 → s.pwr.step + 1 ∉ s.pwr.late →
      ∃ t, exec .bootStepTimeout s = .next t ∧ t.rd R.SYS_BOOT_LATE_LATE 0 = s.rd R.SYS_BOOT_LATE_LATE 0 ||| 2 ^ s.pwr.step ∧
        t.pwr = { s.pwr with late := (s.pwr.step + 1) :: s.pwr.late } ∧
        Settled [R.SYS_BOOT_LATE_LATE.at 0] { s with pwr.late := (s.pwr.step + 1) :: s.pwr.late } t) ∧
    ((8 ≤ s.pwr.step ∧ s.pwr.step < 11) ∨ s.pwr.step = 16 → s.pwr.step + 1 ∉ s.pwr.late →
      exec .bootStepTimeout s = .next (({ s.orBits R.SYS_BOOT_LATE_LATE 0 (2 ^ s.pwr.step) with
        pwr.late := (s.pwr.step + 1) :: s.pwr.late } : State).raise srcBootTimeout 0).settleAll) ∧
    (12 ≤ s.pwr.step → s.pwr.step < 16 → s.pwr.step + 1 ∉ s.pwr.late →
      exec .bootStepTimeout s = .next ((({ s.orBits R.SYS_BOOT_LATE_LATE 0 (2 ^ s.pwr.step) with
        pwr.late := (s.pwr.step + 1) :: s.pwr.late } : State).raise srcBootTimeout 0).stepDone (s.pwr.step + 1)).settleAll) ∧
    (s.pwr.step + 1 ∈ s.pwr.late → exec .bootStepTimeout s = .next s)

/-- R62, R63, R102 to R104: domain requests queue in domain order, are tested at the head, refused with their cause or started one at a
time; a ready domain reports on, one that went off ends its transition, one that is not ready in time is given up with DOM_FAIL. -/
def Obligations.DomainsSwitch : Prop :=
  ∀ (s : State),
    (∀ w : BitVec 8, s.pwr.mode ≠ .entry → s.coreOn = true →
      (∃ t, exec (.domOn w) s = .next t ∧ t.rd R.PWR_DOM_ON_REQ 0 = s.rd R.PWR_DOM_ON_REQ 0 ||| w.toNat ∧
        t.pwrQ = s.pwrQ ++ ((List.range 8).filter fun d => w.toNat.testBit d && !s.bit R.PWR_DOM_ON_REQ 0 d).map (fun d => (d, true, false)) ∧
        OnlyRegs [R.PWR_DOM_ON_REQ.at 0] s { t with pwrQ := s.pwrQ }) ∧
      (∃ t, exec (.domOff w) s = .next t ∧ t.rd R.PWR_DOM_OFF_REQ 0 = s.rd R.PWR_DOM_OFF_REQ 0 ||| w.toNat ∧
        t.pwrQ = s.pwrQ ++ ((List.range 8).filter fun d => w.toNat.testBit d && !s.bit R.PWR_DOM_OFF_REQ 0 d).map (fun d => (d, false, false)) ∧
        OnlyRegs [R.PWR_DOM_OFF_REQ.at 0] s { t with pwrQ := s.pwrQ })) ∧
    (∀ w, s.pwr.mode = .entry ∨ s.coreOn = false → exec (.domOn w) s = .next s ∧ exec (.domOff w) s = .next s) ∧
    (s.pwrQ = [] → exec .domainTransitionStart s = .next s) ∧
    (∀ d job q, d < 8 → s.pwrQ = (d, true, job) :: q → s.pwr.trans = none → s.domOn d = false → s.domRefusal d true job = 0 →
      ∃ t, exec .domainTransitionStart s = .next t ∧ t.pwrQ = q ∧ t.pwr.trans = some (d, true, job) ∧ t.rd R.PWR_STATUS_BUSY 0 = 1 ∧
        t.rd R.PWR_DOM_STATE_BUSY 0 = 2 ^ d ∧ t.chan = s.chan ∧
        OnlyRegs [R.PWR_STATUS_BUSY.at 0, R.PWR_DOM_STATE_BUSY.at 0] s { t with pwrQ := s.pwrQ, pwr := s.pwr }) ∧
    (∀ d job q, d < 8 → s.pwrQ = (d, false, job) :: q → s.pwr.trans = none → s.domOn d = true → s.domRefusal d false job = 0 →
      exec .domainTransitionStart s = .next (({ ({ s with pwrQ := q } : State).wrs 0 [(R.PWR_STATUS_BUSY, 1),
        (R.PWR_DOM_STATE_BUSY, 2 ^ d)] with pwr.trans := some (d, false, job) } : State).domDown d)) ∧
    (∀ d up q, d < 8 → s.pwrQ = (d, up, false) :: q → s.pwr.trans = none → s.domOn d = !up → s.domRefusal d up false ≠ 0 →
      ∃ t, exec .domainTransitionStart s = .next t ∧ t.pwrQ = q ∧ t.pwr.trans = none ∧ t.rd R.PWR_REFUSE_VALID 0 = 1 ∧
        t.rd R.PWR_REFUSE_TARGET 0 = d ∧ t.rd R.PWR_REFUSE_DIR 0 = up.toNat ∧ t.rd R.PWR_REFUSE_CAUSE 0 = s.domRefusal d up false ∧
        t.rd R.PWR_IRQ_REFUSED 0 = 1 ∧
        OnlyRegs [R.PWR_DOM_ON_REQ.at 0, R.PWR_DOM_OFF_REQ.at 0, R.PWR_REFUSE_VALID.at 0, R.PWR_REFUSE_DIR.at 0, R.PWR_REFUSE_TARGET.at 0,
          R.PWR_REFUSE_CAUSE.at 0, R.PWR_IRQ_REFUSED.at 0] s { t with pwrQ := s.pwrQ }) ∧
    (∀ (job : Bool), s.domRefusal dOtpw true job = (if job = true ∧ s.otpwWanted = true then 0 else 3)) ∧
    (∀ d up job q, d < 8 → s.pwrQ = (d, up, job) :: q → s.pwr.trans = none → s.domOn d = up →
      ∃ t, exec .domainTransitionStart s = .next t ∧ t.pwrQ = q ∧
        t.bit (if up = true then R.PWR_DOM_ON_REQ else R.PWR_DOM_OFF_REQ) 0 d = false ∧
        OnlyRegs [R.PWR_DOM_ON_REQ.at 0, R.PWR_DOM_OFF_REQ.at 0] s { t with pwrQ := s.pwrQ }) ∧
    (∀ d job a b c, d < 8 → s.pwr.trans = some (d, true, job) → s.pwr.mode ≠ .entry →
      exec (.domainReady a b c) s = .next (((s.transEnd d true).domUp d).readyOffsets d a b c).settleAll ∧
      ((s.transEnd d true).domUp d).domOn d = true ∧ (s.transEnd d true).rd R.PWR_IRQ_DOM_DONE 0 = 1 ∧
      (s.transEnd d true).rd R.PWR_STATUS_BUSY 0 = 0) ∧
    (∀ d job, d < 8 → d ≠ dOtpw → s.pwr.trans = some (d, false, job) → s.pwr.mode ≠ .entry →
      ∃ t, exec .domainOffComplete s = .next t ∧ t.pwr.trans = none ∧ t.rd R.PWR_STATUS_BUSY 0 = 0 ∧ t.rd R.PWR_IRQ_DOM_DONE 0 = 1 ∧
        OnlyRegs [R.PWR_STATUS_BUSY.at 0, R.PWR_DOM_STATE_BUSY.at 0, R.PWR_IRQ_DOM_DONE.at 0, R.PWR_DOM_OFF_REQ.at 0] s { t with pwr := s.pwr }) ∧
    (∀ d, d < 8 → s.pwr.trans = some (d, true, false) → s.pwr.mode ≠ .entry →
      ∃ t, exec .domFailTimeout s = .next t ∧ t.pwr.trans = none ∧ t.rd R.PWR_STATUS_BUSY 0 = 0 ∧
        Settled [R.PWR_STATUS_BUSY.at 0, R.PWR_DOM_STATE_BUSY.at 0, R.PWR_DOM_ON_REQ.at 0, R.CLK_STATUS_LINKPLL_LOCK.at 0]
          { s with pwr.trans := none } t) ∧
    (s.pwr.trans = none → (∀ a b c, exec (.domainReady a b c) s = .next s) ∧ exec .domainOffComplete s = .next s ∧
      exec .domFailTimeout s = .next s)

/-- R59, R78 to R81, R104: standby: a request that meets no ground of refusal starts the entry, which drops the queue and asks every domain
off; one that does reports its cause; the entry that has ended leaves CORE unpowered; an enabled wake event starts the boot at step 3. -/
def Obligations.StandbyAndWake : Prop :=
  ∀ (s : State),
    (∀ (wakeHigh : Bool) (sig : BitVec 4), s.pwr.mode = .run →
      (s.standbyRefusal wakeHigh sig.toNat = 0 → ∃ t, exec (.standby 0x5A wakeHigh sig) s = .next t ∧ t.pwr.mode = .entry ∧
        t.rd R.PWR_CTRL_STANDBY 0 = 1 ∧ (s.pwr.trans = none → t.rd R.PWR_DOM_ON_REQ 0 = 0 ∧ t.rd R.PWR_DOM_OFF_REQ 0 = 0) ∧
        (∀ d job, d < 8 → s.pwr.trans = some (d, true, job) → t.rd R.PWR_DOM_OFF_REQ 0 = 0 ∧
          t.rd R.PWR_DOM_ON_REQ 0 = s.rd R.PWR_DOM_ON_REQ 0 &&& 2 ^ d) ∧
        (∀ d job, d < 8 → s.pwr.trans = some (d, false, job) → t.rd R.PWR_DOM_ON_REQ 0 = 0 ∧
          t.rd R.PWR_DOM_OFF_REQ 0 = s.rd R.PWR_DOM_OFF_REQ 0 &&& 2 ^ d) ∧ t.pwr.wakeEn = s.wakeWord ∧
        t.pwrQ.map (·.1) = [7, 6, 5, 4, 3, 2, 1, 0] ∧ (∀ e ∈ t.pwrQ, e.2.1 = false) ∧
        OnlyRegs [R.PWR_CTRL_STANDBY.at 0, R.PWR_DOM_ON_REQ.at 0, R.PWR_DOM_OFF_REQ.at 0] s { t with pwrQ := s.pwrQ, pwr := s.pwr }) ∧
      (s.standbyRefusal wakeHigh sig.toNat ≠ 0 → ∃ t, exec (.standby 0x5A wakeHigh sig) s = .next t ∧ t.rd R.PWR_REFUSE_VALID 0 = 1 ∧
        t.rd R.PWR_REFUSE_TARGET 0 = 0xF ∧ t.rd R.PWR_REFUSE_DIR 0 = 0 ∧
        t.rd R.PWR_REFUSE_CAUSE 0 = s.standbyRefusal wakeHigh sig.toNat ∧ t.rd R.PWR_IRQ_REFUSED 0 = 1 ∧
        OnlyRegs [R.PWR_REFUSE_VALID.at 0, R.PWR_REFUSE_DIR.at 0, R.PWR_REFUSE_TARGET.at 0, R.PWR_REFUSE_CAUSE.at 0,
          R.PWR_IRQ_REFUSED.at 0] s t)) ∧
    (∀ key w g, key ≠ 0x5A ∨ s.pwr.mode ≠ .run → exec (.standby key w g) s = .next s) ∧
    (s.pwr.mode = .entry → s.pwrQ = [] → s.pwr.trans = none →
      ∃ t, exec .standbyEntryComplete s = .next t ∧ t.pwr.mode = .standby ∧ t.coreOn = false ∧ t.pwr.wakeEn = s.pwr.wakeEn ∧
        t.chan = State.reset.chan ∧ t.otp.fuse = s.otp.fuse) ∧
    (s.pwr.mode ≠ .entry → exec .standbyEntryComplete s = .next s) ∧
    (s.pwr.mode = .standby →
      (s.pwr.wakeEn.testBit 0 = true → ∃ t, exec .wakePinHigh s = .next t ∧ t.pwr.mode = .boot ∧ t.pwr.step = 2 ∧
        t.pwr.wakeSrc = 0x101 ∧ t.pwr.cause.testBit 10 = true) ∧
      (∀ p : Ch, s.pwr.wakeEn.testBit (4 + p.val) = true → ∃ t, exec (.linkSignalDetectWake p) s = .next t ∧ t.pwr.mode = .boot ∧
        t.pwr.step = 2 ∧ t.pwr.wakeSrc = (4 + p.val) * 256 + 2 ^ (4 + p.val)) ∧
      (s.pwr.wakeEn.testBit 2 = true → ∃ t, exec .canWakePattern s = .next t ∧ t.pwr.mode = .boot ∧ t.pwr.step = 2 ∧
        t.pwr.wakeSrc = 0x304)) ∧
    (s.pwr.wakeEn.testBit 0 = false → exec .wakePinHigh s = .next s) ∧
    (s.pwr.mode = .run → exec .wakePinHigh s = .next s ∧ (∀ p, exec (.linkSignalDetectWake p) s = .next s) ∧
      (s.domOn dCan = true → s.rd R.CAN_CFG_XCVR 0 = 0 → ∃ t, exec .canWakePattern s = .next t ∧ t.rd R.CAN_IRQ_WUP 0 = 1 ∧
        OnlyRegs [R.CAN_IRQ_WUP.at 0] s t)) ∧
    (∀ b : Bool, s.locked 2 = false → ∃ t, exec (.vdrvRegEnWrite b) s = .next t ∧ t.rd R.PWR_REG_VDRV_REG_EN 0 = b.toNat ∧
      t.rd R.PWR_STATUS_VDRV_REG_ON 0 = b.toNat ∧ OnlyRegs [R.PWR_REG_VDRV_REG_EN.at 0, R.PWR_STATUS_VDRV_REG_ON.at 0] s t) ∧
    (∀ b, s.locked 2 = true → exec (.vdrvRegEnWrite b) s = .next (s.wrDenied 2))

/-- R107 to R118, R124, R126: frames of the host in operation without the CRC mode: the status byte comes first; a poll moves nothing; one
word is written, or read after the turnaround bytes, at the address that the page or the header names; each good frame counts.
R110, R111, R116, R123, R124: a frame without an edge does nothing; one that breaks off in a byte reports frame error 1; a read that the
AON responder answers returns its word; the wake frame wakes a device in standby that has it enabled. -/
def Obligations.HostFramesAct : Prop :=
  (∀ (s u : State), s.hspiState = 3 → s.rd R.HSPI_CTRL_CRC_EN 0 = 0 →
      u = s.wrs 0 [(R.HSPI_STATUS_CRC_ACTIVE, 0), (R.HSPI_STATUS_LAST, s.hspiStatus.toNat)] →
      (∀ b, ∃ t, exec (.statusPoll b) s = .next t ∧ t.hspiOut = [s.hspiStatus] ∧ t.hspiPrev = 0 ∧
        t.rd R.HSPI_FRAMES_COUNT 0 = (s.rd R.HSPI_FRAMES_COUNT 0 + 1) % 2 ^ 32 ∧ t.rd R.HSPI_STATUS_LAST 0 = s.hspiStatus.toNat ∧
        OnlyRegs [R.HSPI_STATUS_CRC_ACTIVE.at 0, R.HSPI_STATUS_LAST.at 0, R.HSPI_FRAMES_COUNT.at 0] s
          { t with hspiPrev := s.hspiPrev, hspiOut := s.hspiOut }) ∧
      (∀ (w : BitVec 6) b0 b1 b2 b3, w ≠ 63 → exec (.shortWrite w [b0, b1, b2, b3] 40) s =
        .next { (u.busWrite 0 (s.page % 256 * 256 + 4 * w.toNat) (b0 ++ b1 ++ b2 ++ b3)).incWrap R.HSPI_FRAMES_COUNT 0 with
          hspiPrev := 0, hspiOut := [s.hspiStatus, 0, 0, 0, 0] }) ∧
      (∀ b0 b1 b2 b3, ∃ t, exec (.shortWrite 63 [b0, b1, b2, b3] 40) s = .next t ∧ t.page = b3.toNat ∧
        OnlyRegs [R.HSPI_STATUS_CRC_ACTIVE.at 0, R.HSPI_STATUS_LAST.at 0, R.HSPI_FRAMES_COUNT.at 0] s
          { t with hspiPrev := s.hspiPrev, hspiOut := s.hspiOut, page := s.page }) ∧
      (∀ (w : BitVec 6) v r, w ≠ 63 → s.rd R.HSPI_CTRL_TURN 0 = 0 → u.busRead 0 (s.page % 256 * 256 + 4 * w.toNat) = (v, r) →
        exec (.shortRead w [] 48 [] []) s = .next { r.incWrap R.HSPI_FRAMES_COUNT 0 with
          hspiPrev := 0, hspiOut := [s.hspiStatus, 0] ++ wordBe v }) ∧
      (∀ (h : BitVec 6) b1 b2 d0 d1 d2 d3, (h.toNat, b1, b2) ≠ (15, 255, 255) →
        exec (.linearWrite h [b1, b2, d0, d1, d2, d3] 56) s =
          .next { (u.busWrite 0 (4 * (h.toNat * 65536 + b1.toNat * 256 + b2.toNat)) (d0 ++ d1 ++ d2 ++ d3)).incWrap R.HSPI_FRAMES_COUNT 0
            with hspiPrev := 0, hspiOut := [s.hspiStatus, 0, 0, 0, 0, 0, 0] }) ∧
      (∀ (h : BitVec 6) b1 b2 v r, s.rd R.HSPI_CTRL_TURN 0 = 0 →
        u.busRead 0 (4 * (h.toNat * 65536 + b1.toNat * 256 + b2.toNat)) = (v, r) →
        exec (.linearRead h [b1, b2] 64 [] []) s = .next { r.incWrap R.HSPI_FRAMES_COUNT 0 with
          hspiPrev := 0, hspiOut := [s.hspiStatus, 0, 0, 0] ++ wordBe v }) ∧
      (∃ t, exec (.wakeFrame none) s = .next t ∧
        OnlyRegs [R.HSPI_STATUS_CRC_ACTIVE.at 0, R.HSPI_STATUS_LAST.at 0, R.HSPI_FRAMES_COUNT.at 0] s
          { t with hspiPrev := s.hspiPrev, hspiOut := s.hspiOut }) ∧
      (∃ t, exec .hspiCntClr s = .next t ∧ t.rd R.HSPI_FRAME_ERR_COUNT 0 = 0 ∧ t.rd R.HSPI_CRC_ERR_COUNT 0 = 0 ∧
        t.rd R.HSPI_ADDR_END_COUNT 0 = 0 ∧ t.rd R.HSPI_RD_LATE_COUNT 0 = 0 ∧ t.rd R.HSPI_FRAMES_COUNT 0 = 0 ∧
        OnlyRegs [R.HSPI_FRAME_ERR_COUNT.at 0, R.HSPI_CRC_ERR_COUNT.at 0, R.HSPI_ADDR_END_COUNT.at 0, R.HSPI_RD_LATE_COUNT.at 0,
          R.HSPI_FRAMES_COUNT.at 0] s t)) ∧
  (∀ (s : State),
      (∀ f late ecc, f.edges = 0 → s.hspiFrame f late ecc = s) ∧
      (∀ (w : BitVec 6) d, s.hspiState = 3 → s.rd R.HSPI_CTRL_CRC_EN 0 = 0 → ∃ t, exec (.shortWrite w d 9) s = .next t ∧ t.hspiPrev = 8 ∧
        t.rd R.HSPI_FRAME_ERR_CAUSE 0 = 1 ∧ t.rd R.HSPI_FRAME_ERR_COUNT 0 = min (s.rd R.HSPI_FRAME_ERR_COUNT 0 + 1) (R.HSPI_FRAME_ERR_COUNT.size - 1) ∧
        t.rd R.HSPI_IRQ_FRAME_ERR 0 = 1 ∧ t.rd R.HSPI_FRAMES_COUNT 0 = s.rd R.HSPI_FRAMES_COUNT 0) ∧
      (∀ w, s.pwr.mode = .standby → exec (.shortRead w [] 48 [] []) s =
        .next { s with hspiPrev := 0, hspiOut := [s.hspiStatus, 0] ++ wordBe (wd (s.pwr.hold % 256 * 2 ^ 16 + s.pwr.cause % 2 ^ 11)) }) ∧
      (s.pwr.mode = .standby → s.hspiStatus / 64 = 0#8) ∧
      (s.pwr.mode = .standby → s.pwr.wakeEn.testBit 1 = true → ∃ t, exec (.wakeFrame none) s = .next t ∧ t.pwr.mode = .boot ∧
        t.pwr.step = 2 ∧ t.pwr.wakeSrc = 0x202) ∧
      (s.pwr.mode = .standby → s.pwr.wakeEn.testBit 1 = false → ∃ t, exec (.wakeFrame none) s = .next t ∧
        { t with hspiPrev := s.hspiPrev, hspiOut := s.hspiOut } = s) ∧
      (s.hspiStatus.cpop.getLsbD 0 = true))

/-- R308 to R310, R312: the integer instructions of a Grove core: results modulo 2^32, shifts by the low five bits, N and Z from the result,
C and V from sums and differences alone; g0 discards. -/
def Obligations.GroveIntegerInstructions : Prop :=
  ∀ (n : Ch) (rd ra rb : GReg) (s : State) (a b : Word) (g : Grv), a = s.gv n ra → b = s.gv n rb → g = s.grv n →
    (s.issues n (.alu .add rd ra rb) → ∃ t, exec (.add n rd ra rb) s = .next t ∧
      GroveDone n rd (a + b) ((a + b).msb, a + b == 0#32, decide (2 ^ 32 ≤ a.toNat + b.toNat), a.msb == b.msb && (a + b).msb != a.msb) s t) ∧
    (s.issues n (.alu .sub rd ra rb) → ∃ t, exec (.sub n rd ra rb) s = .next t ∧
      GroveDone n rd (a - b) ((a - b).msb, a - b == 0#32, decide (b.toNat ≤ a.toNat), a.msb != b.msb && (a - b).msb != a.msb) s t) ∧
    (s.issues n (.alu .and rd ra rb) → ∃ t, exec (.and n rd ra rb) s = .next t ∧
      GroveDone n rd (a &&& b) ((a &&& b).msb, a &&& b == 0#32, g.c, g.v) s t) ∧
    (s.issues n (.alu .or rd ra rb) → ∃ t, exec (.or n rd ra rb) s = .next t ∧
      GroveDone n rd (a ||| b) ((a ||| b).msb, a ||| b == 0#32, g.c, g.v) s t) ∧
    (s.issues n (.alu .xor rd ra rb) → ∃ t, exec (.xor n rd ra rb) s = .next t ∧
      GroveDone n rd (a ^^^ b) ((a ^^^ b).msb, a ^^^ b == 0#32, g.c, g.v) s t) ∧
    (s.issues n (.alu .shl rd ra rb) → ∃ t, exec (.shl n rd ra rb) s = .next t ∧
      GroveDone n rd (a <<< (b.toNat % 32)) ((a <<< (b.toNat % 32)).msb, a <<< (b.toNat % 32) == 0#32, g.c, g.v) s t) ∧
    (s.issues n (.alu .shr rd ra rb) → ∃ t, exec (.shr n rd ra rb) s = .next t ∧
      GroveDone n rd (a >>> (b.toNat % 32)) ((a >>> (b.toNat % 32)).msb, a >>> (b.toNat % 32) == 0#32, g.c, g.v) s t) ∧
    (s.issues n (.alu .sar rd ra rb) → ∃ t, exec (.sar n rd ra rb) s = .next t ∧
      GroveDone n rd (a.sshiftRight (b.toNat % 32)) ((a.sshiftRight (b.toNat % 32)).msb, a.sshiftRight (b.toNat % 32) == 0#32, g.c, g.v)
        s t) ∧
    (s.issues n (.alu .mul rd ra rb) → ∃ t, exec (.mul n rd ra rb) s = .next t ∧
      GroveDone n rd (a * b) ((a * b).msb, a * b == 0#32, g.c, g.v) s t) ∧
    (s.issues n (.alu .min rd ra rb) → ∃ t r, r = (if a.toInt ≤ b.toInt then a else b) ∧ exec (.min n rd ra rb) s = .next t ∧
      GroveDone n rd r (r.msb, r == 0#32, g.c, g.v) s t) ∧
    (s.issues n (.alu .max rd ra rb) → ∃ t r, r = (if b.toInt ≤ a.toInt then a else b) ∧ exec (.max n rd ra rb) s = .next t ∧
      GroveDone n rd r (r.msb, r == 0#32, g.c, g.v) s t) ∧
    (s.issues n (.cmp ra rb) → ∃ t, exec (.cmp n ra rb) s = .next t ∧
      GroveRan n ((a - b).msb, a - b == 0#32, decide (b.toNat ≤ a.toNat), a.msb != b.msb && (a - b).msb != a.msb) s t) ∧
    (s.issues n .nop → ∃ t, exec (.nop n) s = .next t ∧ GroveRan n g.flags s t) ∧
    (∀ i : BitVec 16, s.issues n (.lui rd i) → ∃ t, exec (.lui n rd i) s = .next t ∧ GroveDone n rd (i ++ 0#16) g.flags s t) ∧
    (∀ (i : GImm) (u v : Word), u = i.setWidth 32 → v = i.signExtend 32 →
      (s.issues n (.immOp .addi rd ra i) → ∃ t, exec (.addi n rd ra i) s = .next t ∧
        GroveDone n rd (a + v) ((a + v).msb, a + v == 0#32, decide (2 ^ 32 ≤ a.toNat + v.toNat), a.msb == v.msb && (a + v).msb != a.msb) s t) ∧
      (s.issues n (.immOp .andi rd ra i) → ∃ t, exec (.andi n rd ra i) s = .next t ∧
        GroveDone n rd (a &&& u) ((a &&& u).msb, a &&& u == 0#32, g.c, g.v) s t) ∧
      (s.issues n (.immOp .ori rd ra i) → ∃ t, exec (.ori n rd ra i) s = .next t ∧
        GroveDone n rd (a ||| u) ((a ||| u).msb, a ||| u == 0#32, g.c, g.v) s t) ∧
      (s.issues n (.immOp .xori rd ra i) → ∃ t, exec (.xori n rd ra i) s = .next t ∧
        GroveDone n rd (a ^^^ u) ((a ^^^ u).msb, a ^^^ u == 0#32, g.c, g.v) s t) ∧
      (s.issues n (.immOp .shli rd ra i) → ∃ t, exec (.shli n rd ra i) s = .next t ∧
        GroveDone n rd (a <<< (i.toNat % 32)) ((a <<< (i.toNat % 32)).msb, a <<< (i.toNat % 32) == 0#32, g.c, g.v) s t) ∧
      (s.issues n (.immOp .shri rd ra i) → ∃ t, exec (.shri n rd ra i) s = .next t ∧
        GroveDone n rd (a >>> (i.toNat % 32)) ((a >>> (i.toNat % 32)).msb, a >>> (i.toNat % 32) == 0#32, g.c, g.v) s t) ∧
      (s.issues n (.immOp .sari rd ra i) → ∃ t, exec (.sari n rd ra i) s = .next t ∧
        GroveDone n rd (a.sshiftRight (i.toNat % 32)) ((a.sshiftRight (i.toNat % 32)).msb, a.sshiftRight (i.toNat % 32) == 0#32, g.c, g.v)
          s t) ∧
      (s.issues n (.cmpi ra i) → ∃ t, exec (.cmpi n ra i) s = .next t ∧
        GroveRan n ((a - v).msb, a - v == 0#32, decide (v.toNat ≤ a.toNat), a.msb != v.msb && (a - v).msb != a.msb) s t))

/-- R236, R310 to R312: the binary32 instructions of a Grove core: their results, with no flag changed but by FCMP. The square root of a
positive finite number is the model's free value within the spec's bound (log 4). -/
def Obligations.GroveFloatInstructions : Prop :=
  ∀ (n : Ch) (rd ra rb : GReg) (s : State) (a b : Word) (g : Grv), a = s.gv n ra → b = s.gv n rb → g = s.grv n →
    (s.issues n (.alu .fadd rd ra rb) → ∃ t, exec (.fadd n rd ra rb) s = .next t ∧ GroveDone n rd (f32Add a b) g.flags s t) ∧
    (s.issues n (.alu .fsub rd ra rb) → ∃ t, exec (.fsub n rd ra rb) s = .next t ∧ GroveDone n rd (f32Sub a b) g.flags s t) ∧
    (s.issues n (.alu .fmul rd ra rb) → ∃ t, exec (.fmul n rd ra rb) s = .next t ∧ GroveDone n rd (f32Mul a b) g.flags s t) ∧
    (s.issues n (.alu .fdiv rd ra rb) → ∃ t, exec (.fdiv n rd ra rb) s = .next t ∧ GroveDone n rd (f32Div a b) g.flags s t) ∧
    (s.issues n (.alu .fmin rd ra rb) → ∃ t, exec (.fmin n rd ra rb) s = .next t ∧ GroveDone n rd (gFmin a b) g.flags s t) ∧
    (s.issues n (.alu .fmax rd ra rb) → ∃ t, exec (.fmax n rd ra rb) s = .next t ∧ GroveDone n rd (gFmax a b) g.flags s t) ∧
    (s.issues n (.alu .fclamp rd ra rb) → ∃ t, exec (.fclamp n rd ra rb) s = .next t ∧
      GroveDone n rd (gFmin (gFmax (s.gv n rd) a) b) g.flags s t) ∧
    (s.issues n (.fcmp ra rb) → ∃ t, exec (.fcmp n ra rb) s = .next t ∧
      GroveRan n (f32Lt a b, f32Le a b && f32Le b a, f32IsNan a || f32IsNan b, false) s t) ∧
    (s.issues n (.un .fsqrt rd ra) → ∃ t, exec (.fsqrt n rd ra) s = .next t ∧ GroveDone n rd (gFsqrt a) g.flags s t) ∧
    (s.issues n (.un .fabs rd ra) → ∃ t, exec (.fabs n rd ra) s = .next t ∧ GroveDone n rd (a &&& 0x7FFFFFFF#32) g.flags s t) ∧
    (s.issues n (.un .fneg rd ra) → ∃ t, exec (.fneg n rd ra) s = .next t ∧ GroveDone n rd (a ^^^ 0x80000000#32) g.flags s t) ∧
    (s.issues n (.un .itof rd ra) → ∃ t, exec (.itof n rd ra) s = .next t ∧ GroveDone n rd (f32OfInt a.toInt) g.flags s t) ∧
    (s.issues n (.un .ftoi rd ra) → ∃ t, exec (.ftoi n rd ra) s = .next t ∧ GroveDone n rd (gFtoi a) g.flags s t) ∧
    (f32IsNan a = true → gFtoi a = 0#32) ∧
    (f32IsNan a = false → f32IsFinite a = false → gFtoi a = if a.msb = true then 0x80000000#32 else 0x7FFFFFFF#32)

/-- R313 to R315, R324, R326: the accesses of a Grove core at the address ra + imm18: data RAM words, nodes, registers of its channel and the
bus, the block of a job; a message whose words cannot be queued returns −1. -/
def Obligations.GroveAccessInstructions : Prop :=
  ∀ (n : Ch) (rd ra rb : GReg) (i : GImm) (s : State) (a : Nat), a = (s.gv n ra + i.signExtend 32).toNat →
    (s.issues n (.acc .ld rd ra i) → a ≤ 0xFFF → ∃ t, exec (.ld n rd ra i false) s = .next t ∧
      GroveDone n rd (s.memWord (dramAddr n.val a)) (s.grv n).flags s t) ∧
    (s.issues n (.acc .st rd ra i) → a ≤ 0xFFF → ∃ t, exec (.st n rd ra i) s = .next t ∧ t.memWord (dramAddr n.val a) = s.gv n rd ∧
      MemKept (dramAddr n.val a) (dramAddr n.val a + 4) s t ∧ t.gpc n = (s.gpc n + 1) % 2 ^ 14 ∧
      OnlyChan n [R.GRV_STATUS_PC.at n.val] s { t with mem := s.mem }) ∧
    (s.issues n (.acc .nrd rd ra i) → a ≤ 0xFF → ∃ t, exec (.nrd n rd ra i) s = .next t ∧
      GroveDone n rd (s.nodeShown n a) (s.grv n).flags s t) ∧
    (s.issues n (.acc .nwr rd ra i) → a ≤ 0xFF → exec (.nwr n rd ra i) s = .next ((s.nodeWrite n a (s.gv n rd)).gNext n 2)) ∧
    (s.issues n (.acc .crd rd ra i) → a ≤ 0xFFF → ∃ t, exec (.crd n rd ra i) s = .next t ∧
      GroveDone n rd (s.pageRead (3 + n.val) (0x40 + 0x10 * n.val + a / 256) (a % 256 / 4 * 4)) (s.grv n).flags s t) ∧
    (s.issues n (.acc .cwr rd ra i) → a ≤ 0xFFF → exec (.cwr n rd ra i) s =
      .next ((s.gNext n 3).pageWrite (fun s => s) (3 + n.val) (0x40 + 0x10 * n.val + a / 256) (a % 256 / 4 * 4) (s.gv n rd))) ∧
    (s.issues n (.acc .brd rd ra i) → ∀ w u, s.busRead (3 + n.val) (a % 2 ^ 24) = (w, u) →
      exec (.brd n rd ra i) s = .next ((u.setG n rd w).gNext n 3)) ∧
    (s.issues n (.acc .bwr rd ra i) → exec (.bwr n rd ra i) s =
      .next ((s.gNext n 3).busWriteWith (fun s => s) (3 + n.val) (a % 2 ^ 24) (s.gv n rd))) ∧
    (s.issues n (.acc .jpost rd ra i) → a ≤ 0xFF8 → exec (.jpost n rd ra i false) s = .next (s.gJpost n rd a)) ∧
    (∀ (len : BitVec 6), s.issues n (.msg rd ra rb len) → (s.gv n rb).toNat + len.toNat < 0x1000 →
      s.domOn dLink = false ∨ 4 ≤ (s.grv n).sends.length →
      ∃ t, exec (.msg n rd ra rb len false) s = .next t ∧ GroveDone n rd 0xFFFFFFFF#32 (s.grv n).flags s t) ∧
    (∀ (len : BitVec 6) tg u, s.issues n (.msg rd ra rb len) → (s.gv n rb).toNat + len.toNat < 0x1000 → s.domOn dLink = true →
      (s.grv n).sends.length < 4 → (s.gv n ra).toNat % 1024 ≠ 0x3FF →
      s.request (fromGrove n.val) (3 + n.val) (.grove n.val) (reqPkt s.nodeId 2 2 ((s.gv n ra).toNat % 1024) false
        (wd ((s.gv n ra).toNat / 4096 % 4)) (4 * (len.toNat + 1))
        ((List.range (len.toNat + 1)).map fun j => s.memWord (dramAddr n.val ((s.gv n rb).toNat + j)))) = some (tg, u) →
      exec (.msg n rd ra rb len false) s =
        .next (((u.modGrv n fun g => { g with sends := tg :: g.sends }).setG n rd (wd tg)).gNext n 3))

/-- R309, R312, R316, R318, R319, R321: branches take their condition from the flags; CALL and RET use the return stack; WFE takes what is
pending in its mask or waits; KICK is accepted with the value and in the window of the watchdog; SEV, TSET and STOP act as listed. -/
def Obligations.GroveFlowInstructions : Prop :=
  ∀ (n : Ch) (rd ra : GReg) (s : State),
    (∀ c t', s.issues n (.b c t') →
      (gCond (s.grv n) c = true → ∃ t, exec (.b n c t') s = .next t ∧ t.gpc n = t'.toNat ∧ OnlyChan n [R.GRV_STATUS_PC.at n.val] s t ∧
        (t.grv n).g = (s.grv n).g ∧ (t.grv n).flags = (s.grv n).flags ∧ (t.grv n).stack = (s.grv n).stack) ∧
      (gCond (s.grv n) c = false → ∃ t, exec (.b n c t') s = .next t ∧ GroveRan n (s.grv n).flags s t)) ∧
    (gCond (s.grv n) 0 = true ∧ gCond (s.grv n) 1 = (s.grv n).z ∧ gCond (s.grv n) 2 = !(s.grv n).z ∧
      gCond (s.grv n) 3 = ((s.grv n).n != (s.grv n).v) ∧ gCond (s.grv n) 4 = ((s.grv n).n == (s.grv n).v) ∧
      gCond (s.grv n) 7 = !(s.grv n).c ∧ gCond (s.grv n) 8 = (s.grv n).c) ∧
    (∀ t', s.issues n (.call t') → (s.grv n).stack.length < 8 → ∃ t, exec (.call n t') s = .next t ∧ t.gpc n = t'.toNat ∧
      (t.grv n).stack = (s.gpc n + 1) % 2 ^ 14 :: (s.grv n).stack ∧ (t.grv n).g = (s.grv n).g ∧ (t.grv n).flags = (s.grv n).flags ∧
      OnlyChan n [R.GRV_STATUS_PC.at n.val] s t) ∧
    (∀ r l, s.issues n .ret → (s.grv n).stack = r :: l → ∃ t, exec (.ret n) s = .next t ∧ t.gpc n = r % 2 ^ 14 ∧
      (t.grv n).stack = l ∧ (t.grv n).g = (s.grv n).g ∧ (t.grv n).flags = (s.grv n).flags ∧ OnlyChan n [R.GRV_STATUS_PC.at n.val] s t) ∧
    (s.issues n (.jr ra) → ∃ t, exec (.jr n ra) s = .next t ∧ t.gpc n = (s.gv n ra).toNat % 2 ^ 14 ∧ (t.grv n).g = (s.grv n).g ∧
      (t.grv n).flags = (s.grv n).flags ∧ (t.grv n).stack = (s.grv n).stack ∧ OnlyChan n [R.GRV_STATUS_PC.at n.val] s t) ∧
    (∀ i v, s.issues n (.wfe rd i) → v = s.rd R.GRV_EVT_PEND n.val &&& (i.toNat % 2 ^ 16) →
      (v ≠ 0 → ∃ t, exec (.wfe n rd i) s = .next t ∧ t.gv n rd = (if rd = 0 then 0#32 else wd v) ∧ t.gpc n = (s.gpc n + 1) % 2 ^ 14 ∧
        t.rd R.GRV_EVT_PEND n.val &&& v = 0 ∧ OnlyChan n [R.GRV_STATUS_PC.at n.val, R.GRV_EVT_PEND.at n.val] s t) ∧
      (v = 0 → ∃ t, exec (.wfe n rd i) s = .next t ∧ t.core n = 2 ∧ (t.grv n).wfe = some (rd.toNat, i.toNat % 2 ^ 16) ∧
        t.gpc n = s.gpc n ∧ OnlyChan n [R.GRV_STATUS_CORE.at n.val, R.GRV_PERF_BUSY_MAX.at n.val] s t)) ∧
    (s.issues n (.kick ra) → s.rd R.GRV_STATUS_WDT_ARMED n.val = 0 → ∃ t, exec (.kick n ra) s = .next t ∧ GroveRan n (s.grv n).flags s t) ∧
    (∀ d, s.issues n (.kick ra) → s.rd R.GRV_STATUS_WDT_ARMED n.val ≠ 0 → d = s.now - (s.grv n).kickAt →
      (((s.gv n ra).toNat % 256 = (s.grv n).kick ∧ 400 * s.rd R.GRV_WDT_WMIN n.val ≤ d ∧ d ≤ 400 * s.rd R.GRV_WDT_WMAX n.val) →
        ∃ t, exec (.kick n ra) s = .next t ∧ (t.grv n).kick = 255 - (s.grv n).kick ∧ (t.grv n).kickAt = s.now ∧
          t.gpc n = (s.gpc n + 1) % 2 ^ 14 ∧ OnlyChan n [R.GRV_STATUS_PC.at n.val] s t) ∧
      (¬((s.gv n ra).toNat % 256 = (s.grv n).kick ∧ 400 * s.rd R.GRV_WDT_WMIN n.val ≤ d ∧ d ≤ 400 * s.rd R.GRV_WDT_WMAX n.val) →
        exec (.kick n ra) s = .next ((s.gNext n 1).raise (srcCh n.val oGrvWdt) 0).settleAll)) ∧
    (∀ i, s.issues n (.tset ra i) → ∃ t, exec (.tset n ra i) s = .next t ∧
      (t.grv n).tmr = (s.grv n).tmr.set! (i.toNat % 2) ⟨(s.gv n ra).toNat, i.getLsbD 1, s.gv n ra != 0#32⟩ ∧
      (t.grv n).g = (s.grv n).g ∧ t.gpc n = (s.gpc n + 1) % 2 ^ 14 ∧ OnlyChan n [R.GRV_STATUS_PC.at n.val] s t) ∧
    (∀ i, s.issues n (.sev i) → ∃ t, exec (.sev n i) s = .next t ∧ t.gpc n = (s.gpc n + 1) % 2 ^ 14 ∧
      (∀ c : Ch, i.getLsbD c.val = true → s.chOn c = true → t.bit R.GRV_EVT_PEND c.val 11 = true) ∧
      (∀ c : Ch, i.getLsbD c.val = false ∨ s.chOn c = false → t.rd R.GRV_EVT_PEND c.val = s.rd R.GRV_EVT_PEND c.val)) ∧
    (s.issues n .stop → ∃ t, exec (.stop n) s = .next t ∧ t.core n = 0 ∧ t.rd R.GRV_IRQ_STOPPED n.val = 1 ∧
      t.gpc n = (s.gpc n + 1) % 2 ^ 14 ∧ t.rd R.GRV_STATUS_WDT_ARMED n.val = s.rd R.GRV_STATUS_WDT_ARMED n.val ∧
      OnlyChan n [R.GRV_STATUS_PC.at n.val, R.GRV_STATUS_CORE.at n.val, R.GRV_IRQ_STOPPED.at n.val] s t)

/-- R319, R322: the exceptions of a Grove core: an illegal word, an address outside data RAM, the nodes or the local registers, a full or
an empty return stack, an uncorrectable error. The core stops in EXCEPTION with PC at the instruction, the first cause captured. -/
def Obligations.GroveExceptionsTaken : Prop :=
  ∀ (n : Ch) (rd ra : GReg) (i : GImm) (s : State) (a : Nat), a = (s.gv n ra + i.signExtend 32).toNat →
    (∀ cause, cause < 16 → (s.gExc n cause).core n = 3 ∧ (s.gExc n cause).rd R.GRV_IRQ_EXC n.val = 1 ∧ (s.gExc n cause).gpc n = s.gpc n ∧
      (s.gExc n cause).rd R.GRV_EXC_VALID n.val = 1 ∧
      (s.rd R.GRV_EXC_VALID n.val = 0 → (s.gExc n cause).rd R.GRV_EXC_CAUSE n.val = cause ∧ (s.gExc n cause).rd R.GRV_EXC_PC n.val = s.gpc n) ∧
      (s.rd R.GRV_EXC_VALID n.val ≠ 0 → (s.gExc n cause).rd R.GRV_EXC_CAUSE n.val = s.rd R.GRV_EXC_CAUSE n.val) ∧
      Settled [R.GRV_EXC_VALID.at n.val, R.GRV_EXC_CAUSE.at n.val, R.GRV_EXC_PC.at n.val, R.GRV_STATUS_CORE.at n.val, R.GRV_IRQ_EXC.at n.val]
        s (s.gExc n cause)) ∧
    (s.chOn n = true → s.core n = 1 → s.frozen n = false → s.breaks n = false → gDecode (s.gFetch n) = none →
      exec (.illegalOpcode n false) s = .next (s.gExc n 1)) ∧
    (s.chOn n = true → s.core n = 1 → s.frozen n = false → s.breaks n = true → ∀ e, exec (.illegalOpcode n e) s = .next (s.freeze n)) ∧
    (s.chOn n = true → s.core n = 1 → s.frozen n = false → s.breaks n = false → exec (.illegalOpcode n true) s =
      .next ((s.eccUncorr (eccRam n false) (pramAddr n.val (s.gpc n))).gExc n 7)) ∧
    (s.chOn n = false ∨ s.core n ≠ 1 ∨ s.frozen n = true → ∀ e, exec (.illegalOpcode n e) s = .next s) ∧
    (s.issues n (.acc .ld rd ra i) → 0xFFF < a → ∀ e, exec (.ld n rd ra i e) s = .next (s.gExc n 2)) ∧
    (s.issues n (.acc .st rd ra i) → 0xFFF < a → exec (.st n rd ra i) s = .next (s.gExc n 2)) ∧
    (s.issues n (.acc .nrd rd ra i) → 0xFF < a → exec (.nrd n rd ra i) s = .next (s.gExc n 3)) ∧
    (s.issues n (.acc .nwr rd ra i) → 0xFF < a → exec (.nwr n rd ra i) s = .next (s.gExc n 3)) ∧
    (s.issues n (.acc .crd rd ra i) → 0xFFF < a → exec (.crd n rd ra i) s = .next (s.gExc n 4)) ∧
    (s.issues n (.acc .cwr rd ra i) → 0xFFF < a → exec (.cwr n rd ra i) s = .next (s.gExc n 4)) ∧
    (s.issues n (.acc .ld rd ra i) → a ≤ 0xFFF → exec (.ld n rd ra i true) s = .next (s.gEcc n a)) ∧
    (∀ t', s.issues n (.call t') → 8 ≤ (s.grv n).stack.length → exec (.call n t') s = .next (s.gExc n 5)) ∧
    (s.issues n .ret → (s.grv n).stack = [] → exec (.ret n) s = .next (s.gExc n 6))

/-- R304, R305, R316, R318 to R320, R325, R327 to R331: the host's and debug's commands of a Grove core: START, STOP, RESET, VERIFY and
LOAD_ROM where its state accepts them and CMD_IGNORED elsewhere; the ends of a verification and a load; events, timers, mailboxes;
freezing, resuming, stepping and breakpoints of the core that debug selects. -/
def Obligations.GroveControlCommands : Prop :=
  ∀ (n : Ch) (s : State), s.chOn n = true →
    (s.core n = 0 → s.imgIdle n = true → (s.sigReq = true → s.rd R.GRV_STATUS_IMG n.val = 2) → s.rd R.GRV_WDT_EN n.val = 0 → s.wdtOk n = true →
      ∃ t, exec (.grvStart n) s = .next t ∧ t.core n = 1 ∧ t.rd R.GRV_EVT_PEND n.val = 0 ∧ t.rd R.GRV_IRQ_STARTED n.val = 1 ∧
        t.gpc n = s.gpc n ∧ OnlyChan n [R.GRV_STATUS_CORE.at n.val, R.GRV_EVT_PEND.at n.val, R.GRV_IRQ_STARTED.at n.val] s t) ∧
    (s.core n = 0 → s.imgIdle n = true → (s.sigReq = true → s.rd R.GRV_STATUS_IMG n.val = 2) → s.rd R.GRV_WDT_EN n.val ≠ 0 → s.wdtOk n = true →
      ∃ t, exec (.grvStart n) s = .next t ∧ t.core n = 1 ∧ t.rd R.GRV_STATUS_WDT_ARMED n.val = 1 ∧ (t.grv n).kick = 0x5A ∧
        (t.grv n).kickAt = s.now) ∧
    (s.core n ≠ 0 → exec (.grvStart n) s = .next (s.grvIgnored n) ∧ exec (.grvVerify n) s = .next (s.grvIgnored n) ∧
      exec (.grvLoadRom n) s = .next (s.grvIgnored n)) ∧
    ((s.grvIgnored n).rd R.GRV_IRQ_CMD_IGNORED n.val = 1 ∧ OnlyRegs [R.GRV_IRQ_CMD_IGNORED.at n.val] s (s.grvIgnored n)) ∧
    (s.stopHeld n = false → s.core n = 1 → (s.grv n).wfe = none →
      ∃ t, exec (.grvStop n) s = .next t ∧ t.core n = 0 ∧ t.rd R.GRV_STATUS_WDT_ARMED n.val = 0 ∧ t.rd R.GRV_IRQ_STOPPED n.val = 1 ∧
        OnlyRegs [R.GRV_STATUS_CORE.at n.val, R.GRV_STATUS_WDT_ARMED.at n.val, R.GRV_IRQ_STOPPED.at n.val] s t) ∧
    (s.stopHeld n = true → exec (.grvStop n) s = .next (s.grvIgnored n)) ∧
    (s.core n = 0 ∨ s.core n = 3 → ∃ t, exec (.grvReset n) s = .next t ∧ t.core n = 0 ∧ t.rd R.GRV_EVT_PEND n.val = 0 ∧
      t.gpc n = s.rd R.GRV_CFG_ENTRY n.val % 2 ^ 14 ∧ (∀ r, t.gv n r = 0#32) ∧ (t.grv n).flags = (false, false, false, false) ∧
      (t.grv n).stack = [] ∧ OnlyChan n [R.GRV_STATUS_CORE.at n.val, R.GRV_EVT_PEND.at n.val, R.GRV_STATUS_PC.at n.val] s t) ∧
    (s.core n = 1 ∨ s.core n = 2 → exec (.grvReset n) s = .next (s.grvIgnored n)) ∧
    (s.core n = 0 → s.imgIdle n = true →
      (∃ t, exec (.grvVerify n) s = .next t ∧ t.rd R.GRV_STATUS_IMG n.val = 1 ∧ (t.grv n).img = 1 ∧ OnlyChan n [R.GRV_STATUS_IMG.at n.val] s t) ∧
      (1 ≤ s.rd R.GRV_ROM_ID n.val → s.rd R.GRV_ROM_ID n.val ≤ 3 → ∃ t, exec (.grvLoadRom n) s = .next t ∧ t.rd R.GRV_STATUS_IMG n.val = 1 ∧
        (t.grv n).img = 1 + s.rd R.GRV_ROM_ID n.val ∧ OnlyChan n [R.GRV_STATUS_IMG.at n.val] s t) ∧
      (s.rd R.GRV_ROM_ID n.val = 0 ∨ 3 < s.rd R.GRV_ROM_ID n.val → ∃ t, exec (.grvLoadRom n) s = .next t ∧ t.rd R.GRV_STATUS_IMG n.val = 3 ∧
        t.rd R.GRV_IMG_CAUSE n.val = 5 ∧ OnlyRegs [R.GRV_STATUS_IMG.at n.val, R.GRV_IMG_CAUSE.at n.val] s t)) ∧
    ((s.grv n).img = 1 → ∃ t, exec (.grvVerifyDone n) s = .next t ∧ (t.grv n).img = 0 ∧ t.rd R.GRV_IRQ_VERIFY_DONE n.val = 1 ∧
      t.rd R.GRV_IMG_CAUSE n.val = s.verifyCause n ∧ t.rd R.GRV_STATUS_IMG n.val = (if s.verifyCause n = 0 then 2 else 3) ∧
      OnlyChan n [R.GRV_STATUS_IMG.at n.val, R.GRV_IMG_CAUSE.at n.val, R.GRV_IRQ_VERIFY_DONE.at n.val] s t) ∧
    (s.verifyCause n < 5 ∧ (s.keysClosed = true → s.verifyCause n = 4) ∧
      (s.keysClosed = false → (s.verifyCause n = 1 ↔ s.rd R.GRV_IMG_LEN n.val = 0 ∨ 16352 < s.rd R.GRV_IMG_LEN n.val)) ∧
      (s.verifyCause n = 0 → s.hashPresent = true ∧ keyHashOk (s.memWords (pramAddr n.val 0x3FE0) 32) s.keyHash = true ∧
        signatureOk (s.memWords (pramAddr n.val 0x3FE0) 32) (s.memWords (pramAddr n.val 0) (s.rd R.GRV_IMG_LEN n.val)) = true)) ∧
    (∀ k, (s.grv n).img = 2 + k → k < 3 → ∃ t, exec (.grvLoadDone n) s = .next t ∧ (t.grv n).img = 0 ∧
      t.rd R.GRV_IRQ_LOAD_DONE n.val = 1 ∧ t.rd R.GRV_STATUS_IMG n.val = 2 ∧ t.rd R.GRV_STATUS_ROM_ID n.val = 1 + k ∧ t.gpc n = 0 ∧
      (∀ j, j < 0x4000 → t.memWord (pramAddr n.val j) = (romProgram (1 + k)).getD j 0#32) ∧
      MemKept (pramAddr n.val 0) (pramAddr n.val 0x4000) s t) ∧
    (∃ t, exec (.grvHostEv n) s = .next t ∧ t.bit R.GRV_EVT_PEND n.val 7 = true ∧ OnlyRegs [R.GRV_EVT_PEND.at n.val] s t) ∧
    (∃ t, exec (.grvCntClr n) s = .next t ∧ t.rd R.GRV_PERF_BUSY_MAX n.val = 0 ∧ t.rd R.GRV_PERF_OVR n.val = 0 ∧
      OnlyRegs [R.GRV_PERF_BUSY_MAX.at n.val, R.GRV_PERF_OVR.at n.val] s t) ∧
    (∀ m, ∃ t, exec (.grvSignal n m) s = .next t ∧ t.rd R.GRV_IRQ_PROG n.val = s.rd R.GRV_IRQ_PROG n.val ||| m.toNat ∧
      OnlyRegs [R.GRV_IRQ_PROG.at n.val] s t) ∧
    (∀ m : BitVec 4, ∃ t, exec (.mboxFree n m) s = .next t ∧ t.rd R.GRV_FULL n.val &&& m.toNat = 0 ∧ OnlyRegs [R.GRV_FULL.at n.val] s t) ∧
    (∀ r m, (s.grv n).wfe = some (r, m) → s.core n = 2 → s.frozen n = false → s.rd R.GRV_EVT_PEND n.val &&& m ≠ 0 →
      ∃ t, exec (.wfeWake n) s = .next t ∧ t.core n = 1 ∧ (t.grv n).wfe = none ∧ t.gpc n = (s.gpc n + 1) % 2 ^ 14 ∧
        OnlyChan n [R.GRV_STATUS_CORE.at n.val, R.GRV_EVT_PEND.at n.val, R.GRV_STATUS_PC.at n.val] s t) ∧
    (∀ x : Fin 2, s.grvLive n = true → ((s.grv n).tmr.get x).run = true → ∃ t, exec (.groveTimerExpiry n x) s = .next t ∧
      t.bit R.GRV_EVT_PEND n.val (5 + x.val) = true ∧ ((t.grv n).tmr.get x).run = ((s.grv n).tmr.get x).per ∧
      OnlyChan n [R.GRV_EVT_PEND.at n.val] s t) ∧
    (s.debugOpen = true → s.dbgCore = n →
      (s.frozen n = false → ∃ t, exec .dbgHalt s = .next t ∧ t.frozen n = true ∧ OnlyChan n [R.GRV_STATUS_DBG_HALT.at n.val] s t) ∧
      (s.frozen n = true → ∃ t, exec .dbgResume s = .next t ∧ t.frozen n = false ∧
        (t.grv n).kickAt = (s.grv n).kickAt + (s.now - (s.grv n).frozeAt) ∧ OnlyChan n [R.GRV_STATUS_DBG_HALT.at n.val] s t) ∧
      (∀ op, s.frozen n = true → s.core n = 1 → gDecode (s.gFetch n) = some op →
        ∀ de, exec (.dbgStep false de) s = .next (((s.thaw n).gDo n de op).freeze n)) ∧
      (∀ de, s.frozen n = true → s.core n = 1 → gDecode (s.gFetch n) = none →
        exec (.dbgStep false de) s = .next (((s.thaw n).gExc n 1).freeze n)) ∧
      (∀ de, s.frozen n = true → s.core n = 1 → exec (.dbgStep true de) s =
        .next ((((s.thaw n).eccUncorr (eccRam n false) (pramAddr n.val (s.gpc n))).gExc n 7).freeze n)) ∧
      (s.frozen n = false → ∀ fe de, exec (.dbgStep fe de) s = .next s) ∧
      (∀ k : Fin 4, s.rd (R.DBG_BP_EN.nth k.val) 0 ≠ 0 → s.core n = 1 → s.rd (R.DBG_BP_ADDR.nth k.val) 0 = s.gpc n → s.frozen n = false →
        (s.grv n).past = false → ∃ t, exec (.breakpointHit k) s = .next t ∧ t.frozen n = true ∧ OnlyChan n [R.GRV_STATUS_DBG_HALT.at n.val] s t)) ∧
    (s.debugOpen = false → exec .dbgHalt s = .next s ∧ exec .dbgResume s = .next s ∧ (∀ fe de, exec (.dbgStep fe de) s = .next s) ∧
      ∀ k, exec (.breakpointHit k) s = .next s)

/-- R308, R309, R312: decoding the word of a Grove instruction gives the instruction back, for every operand a word can spell. -/
def Obligations.GroveWordsRoundTrip : Prop :=
  ∀ op : GOp, op.wf = true → gDecode op.encode = some op

/-- R332 to R337: the job commands. A START takes a free slot as QUEUED with the next generation, or answers why not; SUSPEND, RESUME, CANCEL
and RELEASE answer the handle in the states that allow them, NOT_ALLOWED in the others, and BAD_HANDLE for a slot that is free or of another
generation. The result stands in the origin's bank. Which free slot a START takes is open in the spec (log 55). -/
def Obligations.JobCommandsAnswer : Prop :=
  ∀ (o : Fin 7) (s u : State) (r : Word),
    (∀ b, ∃ v : State, v = s.blkPut o.val b ∧ { v with jobBlk := s.jobBlk } = s ∧
      (∀ q : Fin 8, q ≠ jobBank o.val → v.jobBlk.get q = s.jobBlk.get q) ∧
      ∀ i : Fin 8, (v.jobBlk.get (jobBank o.val)).get i = b.getD i.val ((s.jobBlk.get (jobBank o.val)).get i)) ∧
    (∀ (typ tgt : BitVec 4) ps (v : State), v = s.blkPut o.val (wd (2 ^ 28 + typ.toNat * 2 ^ 24 + tgt.toNat * 2 ^ 20) :: ps) →
      v.jobStart o.val typ.toNat tgt.toNat ((v.jobBlk.get (jobBank o.val)).toList.drop 1) = (u, r) →
      ∃ t, exec (.jobStart o typ tgt ps) s = .next t ∧
      t = ({ u with jobRes := u.jobRes.set (jobBank o.val).val r } : State).settleAll ∧ t.jobRes.get (jobBank o.val) = r ∧
      (∀ b : Fin 8, b ≠ jobBank o.val → t.jobRes.get b = u.jobRes.get b) ∧ Settled [] { u with jobRes := t.jobRes } t) ∧
    (∀ typ tgt ps, (typ = 0 ∨ 9 < typ → s.jobStart o.val typ tgt ps = (s, 0xFFFFFFFE#32)) ∧
      (1 ≤ typ → typ ≤ 9 → s.targetOk typ tgt = false → s.jobStart o.val typ tgt ps = (s, 0xFFFFFFFD#32)) ∧
      (1 ≤ typ → typ ≤ 9 → s.targetOk typ tgt = true → (∀ k, (s.job k).st ≠ .idle) → s.jobStart o.val typ tgt ps = (s, 0xFFFFFFFF#32)) ∧
      (1 ≤ typ → typ ≤ 9 → s.targetOk typ tgt = true → (∃ k, (s.job k).st = .idle) → s.jobStart o.val typ tgt ps = (u, r) →
        ∃ k : Fin 16, (s.job k).st = .idle ∧ (u.job k).st = .queued ∧ (u.job k).typ = typ ∧ (u.job k).tgt = tgt ∧ (u.job k).origin = o.val ∧
          (u.job k).params = ps ∧ (u.job k).gen = ((s.job k).gen + 1) % 4096 ∧ (u.job k).seq = s.jobSeq ∧ u.jobSeq = s.jobSeq + 1 ∧
          r = wd (16 * (((s.job k).gen + 1) % 4096) + k.val) ∧ (∀ q, q ≠ k → u.job q = s.job q) ∧ u.regs = s.regs)) ∧
    (∀ (h : BitVec 16) (k : Fin 16) (op : Nat) (v : State), h.toNat % 16 = k.val → v = s.blkPut o.val [wd (op * 2 ^ 28 + h.toNat)] →
      ((s.job k).st = .idle ∨ (s.job k).gen ≠ h.toNat / 16 → ∃ t,
        t = ({ v with jobRes := s.jobRes.set (jobBank o.val).val 0xFFFFFFFC#32 } : State).settleAll ∧
        (op = 2 → exec (.jobSuspend o h) s = .next t) ∧ (op = 3 → exec (.jobResume o h) s = .next t) ∧
        (op = 4 → exec (.jobCancel o h) s = .next t) ∧ (op = 5 → exec (.jobRelease o h) s = .next t)) ∧
      ((s.job k).st ≠ .idle → (s.job k).gen = h.toNat / 16 →
        (op = 2 → v.jobSuspend k = (u, r) → exec (.jobSuspend o h) s =
          .next ({ u with jobRes := u.jobRes.set (jobBank o.val).val r } : State).settleAll) ∧
        (op = 3 → v.jobResume k = (u, r) → exec (.jobResume o h) s =
          .next ({ u with jobRes := u.jobRes.set (jobBank o.val).val r } : State).settleAll) ∧
        (op = 4 → v.jobCancel k = (u, r) → exec (.jobCancel o h) s =
          .next ({ u with jobRes := u.jobRes.set (jobBank o.val).val r } : State).settleAll) ∧
        (op = 5 → v.jobRelease k = (u, r) → exec (.jobRelease o h) s =
          .next ({ u with jobRes := u.jobRes.set (jobBank o.val).val r } : State).settleAll))) ∧
    (∀ (k : Fin 16) (j : Job), j = s.job k →
      (j.st = .running → j.typ ≠ jHoming → j.typ ≠ jTrace → s.jobSuspend k =
        (s.setJob k { (j.enter s.now .suspending) with ended := decide (j.typ = jOtp) && !s.domOn dOtpw }, s.handle k)) ∧
      (∀ n : Ch, j.st = .running → j.typ = jTrace → j.tgt = n.val → ((s.jobSuspend k).1.job k).st = .suspending ∧
        (s.jobSuspend k).1.rd R.TRC_STATUS_ACTIVE n.val = 0 ∧ (s.jobSuspend k).2 = s.handle k) ∧
      (∀ n : Ch, j.st = .running → j.typ = jHoming → j.tgt = n.val → ((s.jobSuspend k).1.job k).st = .suspending ∧
        ((s.jobSuspend k).1.ch n).homeRun = false ∧ (s.jobSuspend k).2 = s.handle k) ∧
      (j.st = .queued → ((s.jobSuspend k).1.job k).st = .suspended ∧ ((s.jobSuspend k).1.job k).noRes = true ∧
        (s.jobSuspend k).1.bit R.JOB_IRQ_SUSPENDED 0 k.val = true ∧ (s.jobSuspend k).2 = s.handle k) ∧
      (j.st = .suspended → j.noRes = true → ((s.jobResume k).1.job k).st = .queued ∧ (s.jobResume k).2 = s.handle k) ∧
      (j.st = .suspending → j.typ ≠ jHoming → j.typ ≠ jTrace → s.jobResume k = (s.setJob k (j.enter s.now .running), s.handle k)) ∧
      (j.st = .running ∨ j.st = .suspending ∨ j.st = .suspended → j.noRes = false → j.typ ≠ jHoming → j.typ ≠ jTrace →
        ((s.jobCancel k).1.job k).st = .cancelling ∧ (s.jobCancel k).2 = s.handle k ∧ (∀ q, q ≠ k → (s.jobCancel k).1.job q = s.job q) ∧
        OnlyRegs [] s { (s.jobCancel k).1 with jobs := s.jobs }) ∧
      (j.st = .suspended → j.noRes = true → s.jobCancel k = (s.jobEnd k .failed 1, s.handle k)) ∧
      (j.st = .done ∨ j.st = .failed → s.jobRelease k = (s.setJob k { Job.reset with gen := j.gen }, s.handle k)) ∧
      (j.st = .done ∨ j.st = .failed ∨ j.st = .cancelling → s.jobSuspend k = (s, 0xFFFFFFFB#32) ∧ s.jobResume k = (s, 0xFFFFFFFB#32) ∧
        s.jobCancel k = (s, 0xFFFFFFFB#32)) ∧
      (j.st = .queued ∨ j.st = .running ∨ j.st = .suspending ∨ j.st = .suspended → s.jobRelease k = (s, 0xFFFFFFFB#32)))

/-- R187, R189, R206, R302, R333, R337 to R340, R505, R506: the progress of jobs: dispatch of the first in its resource's queue, the suspend
point, the cancel point, the end of its work or of one part of its timeline, a failure of its own, the comparators of a self-test, the rows of
an OTP job. -/
def Obligations.JobsProgress : Prop :=
  ∀ (s : State) (k : Fin 16) (j : Job), j = s.job k →
    -- how a job ends
    (∀ st cause, ((s.jobEnd k st cause).job k).st = st ∧ ((s.jobEnd k st cause).job k).cause = cause ∧
      (s.jobEnd k st cause).bit R.JOB_IRQ_ENDED 0 k.val = true ∧ (∀ q, q ≠ k → (s.jobEnd k st cause).job q = s.job q) ∧
      OnlyRegs [R.JOB_IRQ_ENDED.at 0, R.GRV_EVT_PEND.at 0, R.GRV_EVT_PEND.at 1, R.GRV_EVT_PEND.at 2, R.GRV_EVT_PEND.at 3]
        s { s.jobEnd k st cause with jobs := s.jobs }) ∧
    -- JOB_DISPATCH
    (s.jobNext k = true ↔ j.st = .queued ∧ s.holder j.resource = none ∧ (j.typ = jReenum → s.rd R.FAB_STATUS_ENUM_BUSY 0 = 0) ∧
      ∀ q ∈ s.jobs.toList, q.st = .queued → q.resource = j.resource → j.seq ≤ q.seq) ∧
    (∀ cold, s.jobNext k = true → j.typ ≠ jOtp → s.jobPrecond j = 0 →
      ∃ u : State, exec (.jobDispatch k cold) s = .next u.settleAll ∧ u = (s.setJob k (j.enter s.now .running)).jobEntered j ∧
        (j.typ ≠ jReenum → (u.job k).st = .running ∧ ∀ q, q ≠ k → u.job q = s.job q) ∧
        (j.typ = jDiag → j.tgt < 4 → u.rd R.DIAG_STATUS_BUSY j.tgt = 1 ∧ u.rd R.DIAG_STATUS_STEP j.tgt = 1) ∧
        (j.typ = jSelftest → j.tgt < 4 → u.rd R.CMP_STATUS_SELFTEST_BUSY j.tgt = 1) ∧
        (j.typ = jHoming → j.tgt < 4 → u.rd R.SPT_STATUS_HOMING j.tgt = 1)) ∧
    (∀ cold, s.jobNext k = true → j.typ ≠ jOtp → s.jobPrecond j ≠ 0 →
      exec (.jobDispatch k cold) s = .next (s.jobEnd k .failed (s.jobPrecond j)).settleAll) ∧
    (∀ cold, s.jobNext k = false → exec (.jobDispatch k cold) s = .next s) ∧
    -- JOB_SUSPEND_POINT
    (∀ m, j.st = .suspending → s.suspendReady j = true → j.typ ≠ jIdent → j.typ ≠ jBert →
      ∃ u : State, exec (.jobSuspendPoint k m) s = .next u.settleAll ∧ (u.job k).st = .suspended ∧
        u.bit R.JOB_IRQ_SUSPENDED 0 k.val = true ∧ (∀ q, q ≠ k → u.job q = s.job q) ∧
        (∀ n : Ch, j.tgt = n.val → j.typ = jDiag ∨ j.typ = jGateChar → u.rd R.DIAG_STATUS_BUSY n.val = 0 ∧ (u.ch n).diag.pulse = none)) ∧
    (∀ n : Ch, j.tgt = n.val → j.typ = jDiag ∨ j.typ = jGateChar → s.suspendReady j = j.ended) ∧
    (∀ m, j.st ≠ .suspending ∨ s.suspendReady j = false → exec (.jobSuspendPoint k m) s = .next s) ∧
    -- JOB_CANCEL_COMPLETE
    (∀ m, j.st = .cancelling → j.typ ≠ jIdent → j.typ ≠ jBert →
      ∃ u : State, exec (.jobCancelComplete k m) s = .next u.settleAll ∧ u = s.jobFail k 1 ∧ (u.job k).st = .failed ∧
        (u.job k).cause = 1 ∧ u.bit R.JOB_IRQ_ENDED 0 k.val = true) ∧
    (∀ m, j.st ≠ .cancelling → exec (.jobCancelComplete k m) s = .next s) ∧
    -- JOB_WORK_COMPLETE
    (∀ m (n : Ch), j.tgt = n.val → j.typ = jGateChar → j.st = .running → j.work < 23 →
      ∃ u : State, exec (.jobWorkComplete k m) s = .next u.settleAll ∧
        u.job k = { j with work := j.work + 1, progress := (j.work + 1) * 100 / 24, ended := j.ended || decide ((j.work + 1) % 4 = 0) } ∧
        (u.ch n).diag.pulse = some s.now ∧
        (u.ch n).diag.edges = (s.ch n).diag.edges ++ [(min (m.getD 0 0#32).toNat 4095, min (m.getD 1 0#32).toNat 4095)] ∧
        OnlyChan n [] s { u with jobs := s.jobs }) ∧
    (∀ m (n : Ch), j.tgt = n.val → j.typ = jGateChar → j.st = .running → 23 ≤ j.work →
      ∃ u : State, exec (.jobWorkComplete k m) s = .next u.settleAll ∧ (u.job k).st = .done ∧ u.rd R.DIAG_STATUS_BUSY n.val = 0 ∧
        (u.ch n).diag.pulse = none) ∧
    (∀ m (n : Ch), j.tgt = n.val → j.typ = jDiag → j.st = .running → j.work = 0 → f32Lt (m.getD 0 0#32) (f32OfNat 6) = false →
      ∃ u : State, exec (.jobWorkComplete k m) s = .next u.settleAll ∧ (u.job k).st = .running ∧ (u.job k).work = 1 ∧
        (u.ch n).diag.vbus = m.getD 0 0#32) ∧
    (∀ m (n : Ch), j.tgt = n.val → j.typ = jDiag → j.st = .running → j.work = 0 → f32Lt (m.getD 0 0#32) (f32OfNat 6) = true →
      ∃ u : State, exec (.jobWorkComplete k m) s = .next u.settleAll ∧ (u.job k).st = .done ∧ u.rd R.DIAG_RESULT_VALID n.val = 1 ∧
        u.rd R.DIAG_RESULT_CHAN n.val = 2) ∧
    (∀ m, j.typ = jSelftest → j.st = .running → j.work = 25 → j.tgt < 4 →
      ∃ u : State, exec (.jobWorkComplete k m) s = .next u.settleAll ∧ (u.job k).st = .done ∧ u.rd R.CMP_SELFTEST_VALID j.tgt = 1) ∧
    (∀ m (n : Ch), j.tgt = n.val → j.typ = jHoming → j.st = .running → (s.ch n).spt.homeCap = true →
      (s.ch n).spt.homeRest = true → ∃ u : State, exec (.jobWorkComplete k m) s = .next u.settleAll ∧ (u.job k).st = .done ∧
        u.rd R.SPT_STATUS_POS_VALID n.val = 1 ∧ u.rd R.SPT_STATUS_HOMING n.val = 0) ∧
    (∀ m, j.st = .suspending → 2 < j.typ → j.typ ≠ jGateChar → exec (.jobWorkComplete k m) s = .next s.settleAll) ∧
    (∀ m (n : Ch), j.tgt = n.val → j.typ = jIdent → j.st = .running ∨ j.st = .suspending →
      (j.resting = true → (∀ a b c l, m = a :: b :: c :: l → f32Lt a f32One = true → f32Lt b f32One = true → f32Lt c f32One = true →
        exec (.jobWorkComplete k m) s = .next (s.setJob k { j with resting := false }).settleAll) ∧
        (m.length < 3 ∨ (∃ v ∈ m.take 3, f32Lt v f32One = false) → exec (.jobWorkComplete k m) s = .next s.settleAll)) ∧
      (j.resting = false → j.quantity < 6 → (j.st = .running ∨ j.ended = false) → j.work + 1 < identSteps j.quantity →
        ∃ u : State, exec (.jobWorkComplete k m) s = .next u.settleAll ∧ (u.job k).st = j.st ∧ (u.job k).work = j.work + 1 ∧
          (u.job k).ended = true ∧ (u.job k).meas = j.meas ++ (List.range (identWords j.quantity j.work)).map (fun i => m.getD i 0#32)) ∧
      (∀ v, j.resting = false → j.quantity < 6 → (j.st = .running ∨ j.ended = false) → identSteps j.quantity ≤ j.work + 1 →
        v = s.identResult j j.quantity (j.meas ++ (List.range (identWords j.quantity j.work)).map (fun i => m.getD i 0#32)) →
        (f32Pos v = false → ∃ u : State, exec (.jobWorkComplete k m) s = .next u.settleAll ∧ (u.job k).st = .failed ∧
          (u.job k).cause = 9) ∧
        (f32Pos v = true → ∃ u : State, exec (.jobWorkComplete k m) s = .next u.settleAll ∧
            (u.job k).detail = j.detail + 2 ^ j.quantity ∧ (u.job k).vals = (j.vals ++ List.replicate (6 - j.vals.length) 0#32).set j.quantity v))) ∧
    (∀ m, j.st ≠ .running → j.st ≠ .suspending → exec (.jobWorkComplete k m) s = .next s ∧ ∀ d, exec (.jobFailure k d m) s = .next s) ∧
    -- JOB_FAILURE, IDENT_REST_TIMEOUT
    (∀ d m, j.st = .running ∨ j.st = .suspending → j.typ = jHoming →
      ∃ u : State, exec (.jobFailure k d m) s = .next u.settleAll ∧ u = s.jobFail k cTimeout ∧ (u.job k).st = .failed ∧
        (u.job k).cause = 8) ∧
    (∀ d m, j.st = .running ∨ j.st = .suspending → j.typ = jReenum →
      ∃ u : State, exec (.jobFailure k d m) s = .next u.settleAll ∧ u = (s.setJob k { j with detail := 1 }).jobFail k cDetail ∧
        (u.job k).st = .failed ∧ (u.job k).cause = 11 ∧ (u.job k).detail = 1) ∧
    (j.st = .running ∨ j.st = .suspending → j.typ = jIdent → j.resting = true →
      ∃ u : State, exec (.identRestTimeout k) s = .next u.settleAll ∧ u = s.jobFail k cTimeout ∧ (u.job k).st = .failed ∧
        (u.job k).cause = 8) ∧
    (j.typ ≠ jIdent ∨ j.resting = false → exec (.identRestTimeout k) s = .next s) ∧
    -- CMP_SELFTEST_COMPARATOR_DONE
    (∀ (n : Ch) (pass : Bool), s.chOn n = true → s.holder n.val = some k → j.typ = jSelftest → j.st = .running ∨ j.st = .suspending →
      j.work < 25 →
      (pass = true → ∃ u : State, exec (.cmpSelftestComparatorDone n pass) s = .next u.settleAll ∧
        u.job k = { j with work := j.work + 1, progress := (j.work + 1) * 4 } ∧
        (11 ≤ j.work ∨ s.cmpTrips n j.work = false → OnlyRegs [R.CMP_STATUS_TRIPPED.at n.val, R.CMP_STATUS_BAND_PENDING.at n.val,
          R.GD_STATUS_BST_UV.at n.val, R.GD_STATUS_BST_WARN.at n.val] s { u with jobs := s.jobs }) ∧
        (∀ x : Nat, x < 3 → (j.work = 18 + x → u.bit R.GD_STATUS_BST_UV n.val x = true) ∧
          (j.work = 21 + x → u.bit R.GD_STATUS_BST_WARN n.val x = true)) ∧
        (j.work < 11 → cmpInactive (s.run R.CH_MODE_SENSE n.val) j.work = false →
          u.bit R.CMP_STATUS_TRIPPED n.val j.work = true ∧ u.bit R.CMP_STATUS_BAND_PENDING n.val j.work = true)) ∧
      (pass = false → ∃ t, exec (.cmpSelftestComparatorDone n pass) s = .next t ∧ t.bit R.CMP_SELFTEST_FAIL n.val j.work = true)) ∧
    (∀ (n : Ch) pass, s.chOn n = true → s.holder n.val = none → exec (.cmpSelftestComparatorDone n pass) s = .next s) ∧
    -- OTP_ROW_PROGRAMMED
    (∀ ok hot got, j.typ = jOtp → j.st = .running ∨ (j.st = .suspending ∨ j.st = .cancelling) ∧ j.ended = false → j.work < otpUnits (j.par 0) →
      s.domOn dOtpw = true →
      (hot = true ∨ s.bit R.PWR_STATUS_GOOD 0 1 = false → j.st ≠ .cancelling → ∃ t, exec (.otpRowProgrammed k ok hot got) s = .next t ∧ (t.job k).st = .failed ∧
        (t.job k).cause = 11 ∧ (t.job k).detail = 11 ∧ t.otp.fuse = s.otp.fuse) ∧
      (∀ u, hot = false → s.bit R.PWR_STATUS_GOOD 0 1 = true → s.otpUnit j.params j.work ok got = (u, true) →
        ∃ t, exec (.otpRowProgrammed k ok hot got) s = .next t ∧
          t = u.setJob k { j with work := j.work + 1, progress := (j.work + 1) * 100 / otpUnits (j.par 0), ended := true }) ∧
      (∀ u, hot = false → s.bit R.PWR_STATUS_GOOD 0 1 = true → j.st ≠ .cancelling → s.otpUnit j.params j.work ok got = (u, false) →
        exec (.otpRowProgrammed k ok hot got) s = .next ((u.setJob k { j with detail := 5 }).jobFail k cDetail))) ∧
    (∀ ok hot got, j.typ = jOtp → j.st = .cancelling → j.ended = false → j.work < otpUnits (j.par 0) → s.domOn dOtpw = true →
      (hot = true ∨ s.bit R.PWR_STATUS_GOOD 0 1 = false → exec (.otpRowProgrammed k ok hot got) s =
        .next (s.setJob k { j with ended := true })) ∧
      (∀ u, hot = false → s.bit R.PWR_STATUS_GOOD 0 1 = true → s.otpUnit j.params j.work ok got = (u, false) →
        exec (.otpRowProgrammed k ok hot got) s = .next (u.setJob k { j with ended := true }))) ∧
    -- R505, R506: what a unit programs
    (∀ p u got a l, s.otpSpot p u = (a, l) →
      (otpOp (p.getD 0 0#32) ≠ 4 ∨ u ≠ 0 ∨ (s.repairSpare (otpRow (p.getD 0 0#32)) (s.otpTarget (p.getD 0 0#32) 0 0)).isSome = true) →
      (s.otpUnit p u true got).2 = true ∧
      (∀ b, b < a ∨ a + l.length ≤ b → (s.otpUnit p u true got).1.fuse b = s.fuse b) ∧
      (∀ i, i < l.length → (s.otpUnit p u true got).1.fuse (a + i) = s.fuse (a + i) ||| l.getD i 0#32) ∧
      (otpOp (p.getD 0 0#32) = 1 ∨ otpOp (p.getD 0 0#32) = 2 →
        ∀ i, i < l.length → (s.otpUnit p u true got).1.imgWord (otpRowOf (p.getD 0 0#32) u) i = l.getD i 0#32)) ∧
    (∀ p u got, otpOp (p.getD 0 0#32) = 3 ∨ otpOp (p.getD 0 0#32) = 5 ∨ (otpOp (p.getD 0 0#32) = 4 ∧ u ≠ 0) →
      s.otpUnit p u false got = (s, true)) ∧
    (∀ ok hot got, j.typ ≠ jOtp ∨ (j.st ≠ .running ∧ j.ended = true) → exec (.otpRowProgrammed k ok hot got) s = .next s)

/-- R346, R347, R350: the trace unit's commands: FORCE and END are taken while its capture runs, and ignored otherwise; at the flush time
the open stream packet closes. -/
def Obligations.TraceCommandsAct : Prop :=
  ∀ (n : Ch) (s : State), s.chOn n = true →
    (s.rd R.TRC_STATUS_ACTIVE n.val ≠ 0 → (s.rd R.TRC_CFG_MODE n.val ≠ 0 ∨ s.rd R.TRC_STATUS_TRIGGERED n.val = 0) →
      ∃ t, exec (.trcForce n) s = .next t ∧ t.ch n = { s.ch n with trc.force := true } ∧ OnlyChan n [] s t) ∧
    (s.rd R.TRC_STATUS_ACTIVE n.val ≠ 0 → s.rd R.TRC_CFG_MODE n.val = 0 → s.rd R.TRC_STATUS_TRIGGERED n.val ≠ 0 →
      exec (.trcForce n) s = .next s) ∧
    (s.rd R.TRC_STATUS_ACTIVE n.val ≠ 0 → ∃ t, exec (.trcEnd n) s = .next t ∧ t.ch n = { s.ch n with trc.ending := true } ∧
      OnlyChan n [] s t) ∧
    (s.rd R.TRC_STATUS_ACTIVE n.val = 0 → exec (.trcForce n) s = .next s ∧ exec (.trcEnd n) s = .next s) ∧
    ((s.ch n).trc.words = [] → exec (.traceFlushTimeout n) s = .next s) ∧
    ((s.ch n).trc.words ≠ [] → (s.ch n).trc.dest = none → ∃ t, exec (.traceFlushTimeout n) s = .next t ∧
      t.ch n = { s.ch n with trc.words := [] } ∧ OnlyChan n [] s t) ∧
    (∀ p d, (s.ch n).trc.words ≠ [] → (s.ch n).trc.dest = some d → p = (s.ch n).trc.head.toNat / 2 ^ 20 % 8 + 1 →
      exec (.traceFlushTimeout n) s = .next (((s.modCh n fun c => { c with trc.words := [] }).incWrap R.TRCR_PKTS 0).send (fromTrace n)
        (tracePkt s.nodeId d (wd ((s.ch n).trc.head.toNat + (s.ch n).trc.words.length / p * 2 ^ 24) ::
          (s.ch n).trc.first :: (s.ch n).trc.tick :: (s.ch n).trc.words))))

/-- R388, R393 to R396, R403, R406: the port states: each transition of R394 on its trigger, and no change on a trigger that the state does
not name. `after` is what follows every event of a port. -/
def Obligations.LinkPortStates : Prop :=
  ∀ (p : Ch) (s : State), s.portUp p →
    (∀ u : State, u.fab.answer = none → Settled [] u u.after) ∧
    (∀ b, s.locked (0x11 + p.val) = true → exec (.lnkEn p b) s = .next (s.wrDenied (0x11 + p.val)).after) ∧
    (s.locked (0x11 + p.val) = false →
      (s.lst p = 0 → ∃ u : State, exec (.lnkEn p true) s = .next u.after ∧ u.lst p = 1 ∧ u.rd R.LNK_CTRL_EN p.val = 1 ∧
        u.lp p = (s.lp p).retrained true ∧ OnlyPort p [R.LNK_CTRL_EN.at p.val, R.LNK_STATUS_STATE.at p.val,
          R.LNK_STATUS_SYMLOCK.at p.val, R.LNK_STATUS_BERT_SYNC.at p.val] s u) ∧
      (s.lst p ≠ 0 → exec (.lnkEn p true) s = .next (s.wr R.LNK_CTRL_EN p.val 1).after) ∧
      (s.lst p = 0 → exec (.lnkEn p false) s = .next (s.wr R.LNK_CTRL_EN p.val 0).after) ∧
      (s.lst p ≠ 0 → ∃ u : State, u.lst p = 0 ∧ u.rd R.LNK_CTRL_EN p.val = 0 ∧ u.lp p = (s.lp p).retrained true ∧
        (s.lst p ≠ 6 → OnlyPort p [R.LNK_CTRL_EN.at p.val, R.LNK_STATUS_STATE.at p.val, R.LNK_STATUS_SYMLOCK.at p.val,
          R.LNK_STATUS_BERT_SYNC.at p.val] s u) ∧
        (s.lst p = 6 → OnlyPort p [R.LNK_CTRL_EN.at p.val, R.LNK_STATUS_STATE.at p.val, R.LNK_STATUS_SYMLOCK.at p.val,
          R.LNK_STATUS_BERT_SYNC.at p.val, R.LNK_BERT_CHK_LO_CHK.at p.val, R.LNK_BERT_CHK_HI_CHK.at p.val, R.LNK_BERT_ERR_ERR.at p.val] s { u with free := s.free }) ∧
        (s.lst p < 4 → exec (.lnkEn p false) s = .next (u.condSet (srcLnkDown p.val) false).after) ∧
        (4 ≤ s.lst p → exec (.lnkEn p false) s = .next (((u.leaveActive p).linkDown p).condSet (srcLnkDown p.val) false).after))) ∧
    (s.lst p = 4 → ∃ u : State, exec (.lnkRetrain p) s = .next ((u.raise (srcLnkErr p.val) 0).leaveActive p).after ∧ u.lst p = 5 ∧
      u.rd R.LNK_IRQ_RETRAIN p.val = 1 ∧ u.rd R.LNK_CNT_LINK_RETRAINS p.val = min (s.rd R.LNK_CNT_LINK_RETRAINS p.val + 1) 0xFFFF ∧
      u.lp p = (s.lp p).retrained false ∧ OnlyPort p [R.LNK_STATUS_STATE.at p.val, R.LNK_IRQ_RETRAIN.at p.val,
        R.LNK_STATUS_BERT_SYNC.at p.val, R.LNK_CNT_LINK_RETRAINS.at p.val] s u) ∧
    (s.lst p ≠ 4 → exec (.lnkRetrain p) s = .next s.after) ∧
    (∃ u : State, exec (.lnkCntClr p) s = .next u.after ∧ u.rd R.LNK_CNT_ERR_PKT p.val = 0 ∧ u.rd R.LNK_CNT_ERR_CODE p.val = 0 ∧ u.rd R.LNK_CNT_RETRY_NAK_TX p.val = 0 ∧ 
      u.rd R.LNK_CNT_RETRY_REPLAY p.val = 0 ∧ u.rd R.LNK_CNT_LINK_UPS p.val = 0 ∧ u.rd R.LNK_CNT_LINK_RETRAINS p.val = 0 ∧ 
      u.rd R.LNK_BERT_CHK_LO_CHK p.val = 0 ∧ u.rd R.LNK_BERT_CHK_HI_CHK p.val = 0 ∧ u.rd R.LNK_BERT_ERR_ERR p.val = 0 ∧
      OnlyRegs [R.LNK_CNT_ERR_PKT.at p.val, R.LNK_CNT_ERR_CODE.at p.val, R.LNK_CNT_RETRY_NAK_TX.at p.val,
        R.LNK_CNT_RETRY_REPLAY.at p.val, R.LNK_CNT_LINK_UPS.at p.val, R.LNK_CNT_LINK_RETRAINS.at p.val, R.LNK_BERT_CHK_LO_CHK.at p.val,
        R.LNK_BERT_CHK_HI_CHK.at p.val, R.LNK_BERT_ERR_ERR.at p.val] s u) ∧
    (∃ u : State, exec (.signalDetect p) s = .next u.after ∧ u.rd R.LNK_STATUS_SIGDET p.val = 1 ∧ OnlyRegs [R.LNK_STATUS_SIGDET.at p.val] s u) ∧
    (s.lst p = 1 → s.rd R.LNK_STATUS_SIGDET p.val ≠ 0 → ∃ u : State, exec (.detectComplete p) s = .next u.after ∧ u.lst p = 2 ∧
      u.rd R.LNK_STATUS_SYMLOCK p.val = 0 ∧
      (s.rd R.LNK_CFG_RATE p.val = 0 → u.rd R.LNK_STATUS_RATE p.val = 0 ∧
        u.lp p = { (s.lp p).retrained true with dwellEnd := s.now + 800000 }) ∧
      (s.rd R.LNK_CFG_RATE p.val = 1 → u.rd R.LNK_STATUS_RATE p.val = 1 ∧
        u.lp p = { (s.lp p).retrained true with dwellEnd := s.now + 800000 }) ∧
      (s.rd R.LNK_CFG_RATE p.val = 2 → u.rd R.LNK_STATUS_RATE p.val = (s.lp p).cable.toNat ∧
        ∃ d, 400000 ≤ d ∧ d ≤ 800000 ∧ d = 400 * (1000 + Config.trainDwell s.uid p.val (s.lp p).tries % 1001) ∧
          u.lp p = { (s.lp p).retrained true with cable := !(s.lp p).cable, tries := (s.lp p).tries + 1, dwellEnd := s.now + d }) ∧
      OnlyPort p [R.LNK_STATUS_STATE.at p.val, R.LNK_STATUS_RATE.at p.val, R.LNK_STATUS_SYMLOCK.at p.val] s u) ∧
    (s.lst p ≠ 1 ∨ s.rd R.LNK_STATUS_SIGDET p.val = 0 → exec (.detectComplete p) s = .next s.after) ∧
    (∃ u : State, u.lst p = 1 ∧ u.rd R.LNK_STATUS_SYMLOCK p.val = 0 ∧ u.lp p = (s.lp p).retrained true ∧
      OnlyPort p [R.LNK_STATUS_STATE.at p.val, R.LNK_STATUS_SYMLOCK.at p.val, R.LNK_STATUS_BERT_SYNC.at p.val] s u ∧
      (s.lst p = 2 → (s.lp p).dwellEnd ≤ s.now → exec (.trainDwellTimeout p) s = .next u.after) ∧
      (s.lst p = 3 → exec (.configTimeout p) s = .next u.after) ∧
      (s.lst p = 5 → exec (.configTimeout p) s = .next ((u.leaveActive p).linkDown p).after)) ∧
    (s.lst p ≠ 2 ∨ s.now < (s.lp p).dwellEnd → exec (.trainDwellTimeout p) s = .next s.after) ∧
    (s.lst p ≠ 3 → s.lst p ≠ 5 → exec (.configTimeout p) s = .next s.after) ∧
    (s.lst p < 2 → exec (.signalLoss p) s = .next (s.wr R.LNK_STATUS_SIGDET p.val 0).after) ∧
    (2 ≤ s.lst p → ∃ u : State, u.lst p = 1 ∧ u.rd R.LNK_STATUS_SIGDET p.val = 0 ∧ u.lp p = (s.lp p).retrained true ∧
      (s.lst p ≠ 6 → OnlyPort p [R.LNK_STATUS_SIGDET.at p.val, R.LNK_STATUS_STATE.at p.val, R.LNK_STATUS_SYMLOCK.at p.val,
        R.LNK_STATUS_BERT_SYNC.at p.val] s u) ∧
      (s.lst p = 6 → OnlyPort p [R.LNK_STATUS_SIGDET.at p.val, R.LNK_STATUS_STATE.at p.val, R.LNK_STATUS_SYMLOCK.at p.val,
        R.LNK_STATUS_BERT_SYNC.at p.val, R.LNK_BERT_CHK_LO_CHK.at p.val, R.LNK_BERT_CHK_HI_CHK.at p.val, R.LNK_BERT_ERR_ERR.at p.val] s { u with free := s.free }) ∧
      (s.lst p < 4 → exec (.signalLoss p) s = .next u.after) ∧
      (4 ≤ s.lst p → exec (.signalLoss p) s = .next ((u.leaveActive p).linkDown p).after)) ∧
    (∀ pos v rd pl, lineBad v rd pl = false → exec (.codeError p pos v rd pl) s = .next s.after) ∧
    (∀ pos v rd pl, lineBad v rd pl = true → s.lst p < 2 → exec (.codeError p pos v rd pl) s = .next s.after) ∧
    (∀ pos v rd pl, lineBad v rd pl = true → 2 ≤ s.lst p → s.lst p ≠ 4 → (s.lst p ≠ 3 ∨ s.rd R.LNK_CFG_RATE p.val ≠ 2) → ∃ u : State, exec (.codeError p pos v rd pl) s = .next u.after ∧
      u.rd R.LNK_CNT_ERR_CODE p.val = min (s.rd R.LNK_CNT_ERR_CODE p.val + 1) 0xFFFF ∧
      u.lp p = { s.lp p with tra := 0, tra2 := 0, cfgErrs := (s.lp p).cfgErrs + (if s.lst p = 3 then 1 else 0) } ∧
      OnlyPort p [R.LNK_CNT_ERR_CODE.at p.val] s u) ∧
    (∀ pos v rd pl, lineBad v rd pl = true → s.lst p = 3 → s.rd R.LNK_CFG_RATE p.val = 2 → (s.lp p).cfgErrs < 2 ∨ s.rd R.LNK_STATUS_RATE p.val ≠ 0 →
      ∃ u : State, exec (.codeError p pos v rd pl) s = .next u.after ∧ u.lst p = 3 ∧ (u.lp p).cfgErrs = (s.lp p).cfgErrs + 1 ∧
        OnlyPort p [R.LNK_CNT_ERR_CODE.at p.val] s u) ∧
    (∀ pos v rd pl, lineBad v rd pl = true → s.lst p = 3 → s.rd R.LNK_CFG_RATE p.val = 2 → 2 ≤ (s.lp p).cfgErrs → s.rd R.LNK_STATUS_RATE p.val = 0 →
      ∃ u : State, exec (.codeError p pos v rd pl) s = .next u.after ∧ u.lst p = 1 ∧ (u.lp p).cable = true ∧
        OnlyPort p [R.LNK_CNT_ERR_CODE.at p.val, R.LNK_STATUS_STATE.at p.val, R.LNK_STATUS_SYMLOCK.at p.val,
          R.LNK_STATUS_BERT_SYNC.at p.val] s u) ∧
    (∀ pos v rd pl, lineBad v rd pl = true → s.lst p = 4 → ((s.lp p).errs.filter fun q => decide (pos < q + 16) && decide (q ≤ pos)).length < 3 →
      ∃ u : State, exec (.codeError p pos v rd pl) s = .next u.after ∧ u.lst p = 4 ∧ (u.lp p).errs =
        pos :: (s.lp p).errs.filter (fun q => decide (pos < q + 16) && decide (q ≤ pos)) ∧
        OnlyPort p [R.LNK_CNT_ERR_CODE.at p.val] s u) ∧
    (∀ pos v rd pl, lineBad v rd pl = true → s.lst p = 4 → 3 ≤ ((s.lp p).errs.filter fun q => decide (pos < q + 16) && decide (q ≤ pos)).length →
      ∃ u : State, exec (.codeError p pos v rd pl) s = .next ((u.raise (srcLnkErr p.val) 0).leaveActive p).after ∧ u.lst p = 5 ∧
        u.rd R.LNK_IRQ_RETRAIN p.val = 1)

/-- R389, R394, R396, R405: the training sets received: sixteen valid ones in a row lead from TRAIN to CONFIG, sixteen TRA2 with as many sent
from CONFIG and RETRAIN to ACTIVE; a TRA1 starts RETRAIN in ACTIVE, and with the BERT request leads to LOOP. -/
def Obligations.LinkTrainingSets : Prop :=
  ∀ (p : Ch) (s : State), s.portUp p →
    (∀ cap pid sent, traOk cap pid = false → ∃ u : State, exec (.tra1Received p cap pid) s = .next u.after ∧
      exec (.tra2Received p cap pid sent) s = .next u.after ∧ u.lp p = { s.lp p with tra := 0, tra2 := 0 } ∧ OnlyPort p [] s u) ∧
    (∀ cap pid sent, traOk cap pid = true → s.lst p = 2 →
      (∃ u : State, exec (.tra1Received p cap pid) s = .next u.after ∧ u.rd R.LNK_STATUS_SYMLOCK p.val = 1 ∧
        u.rd R.LNK_STATUS_PEER_PID p.val = pid.toNat ∧ u.lst p = (if 15 ≤ (s.lp p).tra then 3 else 2) ∧
        ((s.lp p).tra < 15 → (u.lp p).tra = (s.lp p).tra + 1) ∧ (u.lp p).peerFresh = cap.getLsbD 1 ∧
        OnlyPort p [R.LNK_STATUS_STATE.at p.val, R.LNK_STATUS_SYMLOCK.at p.val, R.LNK_STATUS_PEER_PID.at p.val] s u) ∧
      (∃ u : State, exec (.tra2Received p cap pid sent) s = .next u.after ∧ u.rd R.LNK_STATUS_SYMLOCK p.val = 1 ∧
        u.rd R.LNK_STATUS_PEER_PID p.val = pid.toNat ∧ u.lst p = (if 15 ≤ (s.lp p).tra then 3 else 2) ∧
        ((s.lp p).tra < 15 → (u.lp p).tra = (s.lp p).tra + 1) ∧
        OnlyPort p [R.LNK_STATUS_STATE.at p.val, R.LNK_STATUS_SYMLOCK.at p.val, R.LNK_STATUS_PEER_PID.at p.val] s u)) ∧
    (∀ cap pid, traOk cap pid = true → s.lst p = 3 ∨ s.lst p = 5 → ∃ u : State, exec (.tra1Received p cap pid) s = .next u.after ∧
      u.lst p = (if cap.getLsbD 2 = true ∧ s.rd R.LNK_CFG_LOOP_ALLOW p.val ≠ 0 ∧ (s.lst p = 3 ∨ (s.lp p).loopAsk = true) then 7
        else s.lst p) ∧
      u.rd R.LNK_STATUS_PEER_PID p.val = pid.toNat ∧ (u.lp p).tra2 = 0 ∧
      OnlyPort p [R.LNK_STATUS_STATE.at p.val, R.LNK_STATUS_PEER_PID.at p.val] s u) ∧
    (∀ cap pid, traOk cap pid = true → s.lst p = 4 → s.bertAsks p = false ∨ cap.getLsbD 2 = false → exec (.tra1Received p cap pid) s =
      .next ((((s.toRetrain p).modLp p fun l => { l with peerFresh := cap.getLsbD 1, tra2 := 0 }).wr
        R.LNK_STATUS_PEER_PID p.val pid.toNat).modLp p fun l => { l with loopAsk := cap.getLsbD 2, asked := s.bertAsks p }).after) ∧
    (∀ cap pid, traOk cap pid = true → s.lst p = 4 → s.bertAsks p = true → cap.getLsbD 2 = true → ∃ u : State, u.lst p = 6 ∧
      u.lp p = { s.lp p with bert := false } ∧ exec (.tra1Received p cap pid) s = .next u.after ∧
      OnlyPort p [R.LNK_STATUS_STATE.at p.val] s u) ∧
    (∀ cap pid sent, traOk cap pid = true → s.lst p = 4 → s.bertAsks p = true → exec (.tra2Received p cap pid sent) s =
      .next ((s.modLp p fun l => { l with bert := false }).bertFail p 1).after) ∧
    (s.bertAsks p = true ↔ (s.lp p).bert = true ∧ ((s.lp p).replay = [] ∨ (s.lp p).bertAt + 8000 ≤ s.now)) ∧
    (∀ cap pid, traOk cap pid = true → s.lst p = 7 → cap.getLsbD 2 = true → exec (.tra1Received p cap pid) s = .next s.after) ∧
    (∀ cap pid, traOk cap pid = true → s.lst p = 7 → cap.getLsbD 2 = false → exec (.tra1Received p cap pid) s =
      .next (((s.toRetrain p).modLp p fun l => { l with peerFresh := cap.getLsbD 1, tra2 := 0 }).wr
        R.LNK_STATUS_PEER_PID p.val pid.toNat).after) ∧
    (∀ cap pid sent, traOk cap pid = true → s.lst p < 2 ∨ s.lst p = 6 → exec (.tra1Received p cap pid) s = .next s.after ∧
      exec (.tra2Received p cap pid sent) s = .next s.after) ∧
    (∀ cap pid sent, traOk cap pid = true → s.lst p = 3 ∨ s.lst p = 5 → ∀ v : State,
      v = (if (s.lp p).asked = true then s.bertFail p 1 else s) → ∃ u : State, u.rd R.LNK_STATUS_PEER_PID p.val = pid.toNat ∧
      u.lp p = { v.lp p with peerFresh := (v.lp p).peerFresh || cap.getLsbD 1, tra2 := (v.lp p).tra2 + 1, asked := false } ∧
      OnlyPort p [R.LNK_STATUS_PEER_PID.at p.val] v u ∧
      ((v.lp p).tra2 < 15 ∨ sent = false → exec (.tra2Received p cap pid sent) s = .next u.after) ∧
      (15 ≤ (v.lp p).tra2 → sent = true → exec (.tra2Received p cap pid sent) s = .next (u.toActive p).after)) ∧
    (∀ cap pid sent, traOk cap pid = true → s.lst p = 4 ∧ s.bertAsks p = false ∨ s.lst p = 7 →
      exec (.tra2Received p cap pid sent) s = .next s.after) ∧
    (∃ v : State, v.lst p = 4 ∧ (v.lp p).unread = true ∧ (v.lp p).crd = (v.lp p).cum ∧ (v.lp p).egress = (s.lp p).egress ∧
      (v.lp p).bert = s.bertRuns p ∧ (v.lp p).bertAt = s.now ∧
      (s.lst p ≠ 3 → s.toActive p = (v.condSet (srcLnkDown p.val) false).linkEvent p.val true) ∧
      (s.lst p = 3 → s.toActive p =
        (((v.condSet (srcLnkDown p.val) false).wr R.LNK_IRQ_UP p.val 1).inc R.LNK_CNT_LINK_UPS p.val).linkEvent p.val true) ∧
      ((s.lp p).fresh = true ∨ (s.lp p).peerFresh = true → (v.lp p).replay = [] ∧ (v.lp p).nak = false ∧
        (v.lp p).cum = ⟨#[32, 64, 128, 64], rfl⟩ ∧ (v.lp p).got = ⟨#[32, 64, 128, 64], rfl⟩ ∧ (v.lp p).sent = Vector.replicate 4 0 ∧
        v.rd R.LNK_SEQ_NEXT_TX p.val = 0 ∧ v.rd R.LNK_SEQ_EXP_RX p.val = 0 ∧ v.rd R.LNK_REPLAY_UNACKED p.val = 0) ∧
      ((s.lp p).fresh = false → (s.lp p).peerFresh = false → (v.lp p).replay = (s.lp p).replay ∧
        (v.lp p).again = (s.lp p).replay.length ∧ (v.lp p).cum = (s.lp p).cum ∧ (v.lp p).got = (s.lp p).got ∧
        v.rd R.LNK_SEQ_NEXT_TX p.val = s.rd R.LNK_SEQ_NEXT_TX p.val ∧ v.rd R.LNK_SEQ_EXP_RX p.val = s.rd R.LNK_SEQ_EXP_RX p.val))

/-- R390, R397 to R399, R405, R416: packets and their symbols in ACTIVE: a packet with the expected SEQ is taken, acknowledged and routed,
a duplicate is acknowledged again, any other one is answered once with NAK; ACK and NAK free the replay buffer, NAK and the timeout replay
it; a packet that starts takes the next SEQ and its credits. -/
def Obligations.LinkPackets : Prop :=
  ∀ (p : Ch) (s : State), s.portUp p →
    (s.lst p = 4 →
      (∀ w ws k pos, w.toNat / 16 = s.rd R.LNK_SEQ_EXP_RX p.val → linkWordOk w = true → pktOfWords ws = some k →
        ∃ u : State, exec (.packetReceived p true false w ws pos) s = .next (u.route p.val k).after ∧
          u.rd R.LNK_SEQ_EXP_RX p.val = (s.rd R.LNK_SEQ_EXP_RX p.val + 1) % 4096 ∧
          u.lp p = { s.lp p with nak := false, nakDue := false, ackDue := true } ∧ OnlyPort p [R.LNK_SEQ_EXP_RX.at p.val] s u) ∧
      (∀ clean w ws pos, linkWordOk w = true → w.toNat / 16 ≠ s.rd R.LNK_SEQ_EXP_RX p.val →
        (s.rd R.LNK_SEQ_EXP_RX p.val + 4095 - w.toNat / 16) % 4096 < 32 →
        ∃ u : State, exec (.packetReceived p clean false w ws pos) s = .next u.after ∧ u.lp p = { s.lp p with ackDue := true } ∧
          u.rd R.LNK_CNT_ERR_PKT p.val = min (s.rd R.LNK_CNT_ERR_PKT p.val + 1) 0xFFFF ∧ OnlyPort p [R.LNK_CNT_ERR_PKT.at p.val] s u) ∧
      (∀ clean w ws pos, linkWordOk w = true →
        (w.toNat / 16 = s.rd R.LNK_SEQ_EXP_RX p.val ∧ (clean = false ∨ pktOfWords ws = none)) ∨
          32 ≤ (s.rd R.LNK_SEQ_EXP_RX p.val + 4095 - w.toNat / 16) % 4096 ∧ w.toNat / 16 ≠ s.rd R.LNK_SEQ_EXP_RX p.val →
        ∀ v : State, v = (if w.toNat / 16 = s.rd R.LNK_SEQ_EXP_RX p.val then s.cutThrough p ws else s) → ∃ u : State,
          exec (.packetReceived p clean false w ws pos) s = .next u.after ∧
          u.lp p = (if (v.lp p).nak = true then v.lp p else { v.lp p with nak := true, nakDue := true }) ∧
          u.rd R.LNK_CNT_ERR_PKT p.val = min (v.rd R.LNK_CNT_ERR_PKT p.val + 1) 0xFFFF ∧ OnlyPort p [R.LNK_CNT_ERR_PKT.at p.val] v u) ∧
      (∀ ws, { s.cutThrough p ws with link := s.link } = s ∧ ∀ q, ((s.cutThrough p ws).lp q).replay = (s.lp q).replay ∧
          ((s.cutThrough p ws).lp q).egress = (s.lp q).egress ∧ ((s.cutThrough p ws).lp q).sent = (s.lp q).sent) ∧
      (∀ q k, s.cutsIn q k = true → (s.cutOut q p.val k).lp q = { ((s.lp q).says q s.now (.abort (linkWord (s.rd R.LNK_SEQ_NEXT_TX q.val)) k.body)) with
          turn := (s.lp q).turn.set! k.vc p.val, bucket := if k.vc = 3 then s.tokens q - k.bytes * 1600 else (s.lp q).bucket,
          bucketAt := if k.vc = 3 then s.now else (s.lp q).bucketAt } ∧ OnlyPort q [] s (s.cutOut q p.val k)) ∧
      (∀ q k, s.cutsIn q k = false → s.cutOut q p.val k = s) ∧
      (∀ clean w ws pos, linkWordOk w = false → (s.codeError p pos).lst p = 4 →
        ∃ u : State, exec (.packetReceived p clean false w ws pos) s = .next u.after ∧
          u.lp p = (if (s.lp p).nak = true then (s.codeError p pos).lp p else { (s.codeError p pos).lp p with nak := true, nakDue := true }) ∧
          OnlyPort p [R.LNK_CNT_ERR_PKT.at p.val] (s.codeError p pos) u) ∧
      (∀ clean w ws pos, linkWordOk w = false → (s.codeError p pos).lst p ≠ 4 → exec (.packetReceived p clean false w ws pos) s =
        .next (s.codeError p pos).after) ∧
      (∀ w pos, linkWordOk w = false → exec (.ackReceived p w pos) s = .next (s.codeError p pos).after ∧
        exec (.nakReceived p w pos) s = .next (s.codeError p pos).after ∧ exec (.crdReceived p w pos) s = .next (s.codeError p pos).after) ∧
      (∀ w a q b pos, linkWordOk w = true → (s.lp p).replay = a ++ (w.toNat / 16, q) :: b → (∀ e ∈ a, e.1 ≠ w.toNat / 16) →
        ∃ u : State, exec (.ackReceived p w pos) s = .next u.after ∧ (u.lp p).replay = b ∧ (u.lp p).again = min (s.lp p).again b.length ∧
          u.rd R.LNK_REPLAY_STALLED p.val = 0 ∧
          OnlyPort p [R.LNK_REPLAY_STALLED.at p.val, R.LNK_REPLAY_UNACKED.at p.val] s u) ∧
      (∀ w pos, linkWordOk w = true → (∀ e ∈ (s.lp p).replay, e.1 ≠ w.toNat / 16) → exec (.ackReceived p w pos) s = .next s.after ∧
        exec (.nakReceived p w pos) s = .next ((s.wr R.LNK_IRQ_NAK_RX p.val 1).replayStart p).after) ∧
      (∀ w a q b pos, linkWordOk w = true → (s.lp p).replay = a ++ (w.toNat / 16, q) :: b → (∀ e ∈ a, e.1 ≠ w.toNat / 16) →
        ∃ u : State, exec (.nakReceived p w pos) s = .next (u.replayStart p).after ∧ (u.lp p).replay = b ∧ (u.lp p).stuck = false ∧
          u.rd R.LNK_IRQ_NAK_RX p.val = 1 ∧
          OnlyPort p [R.LNK_IRQ_NAK_RX.at p.val, R.LNK_REPLAY_STALLED.at p.val, R.LNK_REPLAY_UNACKED.at p.val] s u) ∧
      (∀ w pos, linkWordOk w = true → ∃ u : State, exec (.crdReceived p w pos) s = .next u.after ∧
        (u.lp p).got.toList = (s.lp p).got.toList.set (w.toNat / 2 ^ 14) (w.toNat / 16 % 1024) ∧
        OnlyPort p [R.LNK_TXCRD_AVAIL.at p.val] s u) ∧
      exec (.replayTimeout p) s = .next (s.replayStart p).after ∧
      ((s.lp p).replay = [] → s.replayStart p = s) ∧
      ((s.lp p).replay ≠ [] → (s.lp p).stuck = false → s.rd R.LNK_REPLAY_STALLED p.val < 4 →
        ((s.replayStart p).lp p).again = (s.lp p).replay.length ∧ ((s.replayStart p).lp p).stuck = true ∧ (s.replayStart p).lst p = 4 ∧
        (s.replayStart p).rd R.LNK_CNT_RETRY_REPLAY p.val = min (s.rd R.LNK_CNT_RETRY_REPLAY p.val + 1) 0xFFFF) ∧
      ((s.lp p).replay ≠ [] → (s.lp p).stuck = true → s.rd R.LNK_REPLAY_STALLED p.val = 3 → ∃ u : State, s.replayStart p =
        (u.raise (srcLnkErr p.val) 0).leaveActive p ∧ u.lst p = 5) ∧
      ((s.lp p).ackDue = true → ∃ u : State, exec (.ackTransmit p) s = .next u.after ∧ u.lp p =
        { (s.lp p).says p s.now (.ack (linkWord (s.rd R.LNK_SEQ_EXP_RX p.val + 4095))) with ackDue := false } ∧ OnlyPort p [] s u) ∧
      ((s.lp p).nakDue = true → ∃ u : State, exec (.nakTransmit p) s = .next u.after ∧ u.lp p =
        { (s.lp p).says p s.now (.nak (linkWord (s.rd R.LNK_SEQ_EXP_RX p.val + 4095))) with nakDue := false } ∧
        u.rd R.LNK_CNT_RETRY_NAK_TX p.val = min (s.rd R.LNK_CNT_RETRY_NAK_TX p.val + 1) 0xFFFF ∧
        OnlyPort p [R.LNK_CNT_RETRY_NAK_TX.at p.val] s u) ∧
      ((s.lp p).ackDue = false → exec (.ackTransmit p) s = .next s.after) ∧
      ((s.lp p).nakDue = false → exec (.nakTransmit p) s = .next s.after) ∧
      (∀ v : Fin 4, ∃ u : State, exec (.creditUpdate p v) s = .next u.after ∧
        u.lp p = { (s.lp p).says p s.now (.crd (linkWord (v.val * 2 ^ 10 + (s.lp p).cum.get v))) with
          crd := (s.lp p).crd.set v.val ((s.lp p).cum.get v) } ∧
        OnlyPort p [] s u) ∧
      ((s.lp p).again = 0 → ((s.lp p).bert = true ∨ s.nextPacket p = none) → exec (.packetTransmitStart p) s = .next s.after) ∧
      (∀ e, (s.lp p).again = 0 → (s.lp p).bert = false → s.nextPacket p = some e → 4 ≤ e.ing → e.buf = false →
        (s.lp p).room e.pkt = true → ∃ u : State, exec (.packetTransmitStart p) s = .next u.after ∧
          u.rd R.LNK_SEQ_NEXT_TX p.val = (s.rd R.LNK_SEQ_NEXT_TX p.val + 1) % 4096 ∧
          (u.lp p).replay = (s.lp p).replay ++ [(s.rd R.LNK_SEQ_NEXT_TX p.val, e.pkt)] ∧ (u.lp p).egress = (s.lp p).egress.erase e ∧
          (u.lp p).tx = some (.pkt (linkWord (s.rd R.LNK_SEQ_NEXT_TX p.val)) e.pkt.words) ∧
          (u.lp p).line = ((s.lp p).says p s.now (.pkt (linkWord (s.rd R.LNK_SEQ_NEXT_TX p.val)) e.pkt.words)).line ∧
          OnlyPort p [R.LNK_SEQ_NEXT_TX.at p.val, R.LNK_REPLAY_UNACKED.at p.val, R.LNK_TXCRD_AVAIL.at p.val] s u) ∧
      (∀ e, (s.lp p).again = 0 → (s.lp p).bert = false → s.nextPacket p = some e →
        exec (.packetTransmitStart p) s = .next (if (s.lp p).room e.pkt = true then s.startPacket p e else s).after) ∧
      (∀ e q, e.ing = q.val → q ≠ p → e.buf = true → e.pkt.vc < 4 → ((s.startPacket p e).lp q).cum.toList.getD e.pkt.vc 0 =
        ((s.lp q).cum.toList.getD e.pkt.vc 0 + e.pkt.credits) % 1024) ∧
      (∀ a q k b, (s.lp p).replay = a ++ (q, k) :: b → (s.lp p).again = b.length + 1 → ∃ u : State, exec (.packetTransmitStart p) s = .next u.after ∧
        u.lp p =
        { (s.lp p).says p s.now (.pkt (linkWord q) k.words) with again := b.length } ∧ OnlyPort p [] s u)) ∧
    (∀ clean w ws pos, s.lst p = 4 → linkWordOk w = true → w.toNat / 16 = s.rd R.LNK_SEQ_EXP_RX p.val →
      exec (.packetReceived p clean true w ws pos) s = .next (s.cutThrough p ws).after) ∧
    (∀ clean w ws pos, linkWordOk w = false ∨ w.toNat / 16 ≠ s.rd R.LNK_SEQ_EXP_RX p.val →
      exec (.packetReceived p clean true w ws pos) s = .next s.after) ∧
    (s.lst p ≠ 4 → ∀ clean abort w ws pos (v : Fin 4), exec (.packetReceived p clean abort w ws pos) s = .next s.after ∧
      exec (.ackReceived p w pos) s = .next s.after ∧ exec (.nakReceived p w pos) s = .next s.after ∧ exec (.crdReceived p w pos) s = .next s.after ∧
      exec (.ackTransmit p) s = .next s.after ∧ exec (.nakTransmit p) s = .next s.after ∧ exec (.creditUpdate p v) s = .next s.after ∧
      exec (.replayTimeout p) s = .next s.after ∧ exec (.packetTransmitStart p) s = .next s.after) ∧
    (∀ lo hi e l, s.lst p = 6 → ∃ u : State, exec (.bertSyncLoss p (lo :: hi :: e :: l)) s = .next ((u.toRetrain p).bertFail p 2).after ∧
      u.rd R.LNK_BERT_CHK_LO_CHK p.val = lo.toNat ∧ u.rd R.LNK_BERT_CHK_HI_CHK p.val = hi.toNat % R.LNK_BERT_CHK_HI_CHK.size ∧ u.rd R.LNK_BERT_ERR_ERR p.val = e.toNat ∧
      OnlyRegs [R.LNK_BERT_CHK_LO_CHK.at p.val, R.LNK_BERT_CHK_HI_CHK.at p.val, R.LNK_BERT_ERR_ERR.at p.val] s u) ∧
    (∀ m, m.length < 3 → s.lst p = 6 → exec (.bertSyncLoss p m) s = .next ((s.toRetrain p).bertFail p 2).after) ∧
    (s.lst p ≠ 6 → (∀ m, exec (.bertSyncLoss p m) s = .next s.after) ∧ exec (.bertCheckerSynchronised p) s = .next s.after) ∧
    (s.lst p = 6 → ∃ u : State, exec (.bertCheckerSynchronised p) s = .next u.after ∧ u.rd R.LNK_STATUS_BERT_SYNC p.val = 1 ∧
      OnlyRegs [R.LNK_STATUS_BERT_SYNC.at p.val] s u)

/-- R445, R446, R450, R451, R465: the exchanges of Canopy time: the child's REQ takes the next SEQ and t1, the parent answers with RSP and
EPOCH, the child takes t4 with the RSP, and an exchange that gets no answer lapses; the commands of the TIME page.
R447, R448: the servo after a completed exchange of offset `o` and delay `d`: a step at the first one and beyond STEP_LIM, else FREQ and
RATE follow; LOCK rises with the eighth good exchange in a row, and falls with a step and with the second bad one. The rounding of the two
divisions toward zero is this model's choice (log 46). -/
def Obligations.TimeExchange : Prop :=
  (∀ (s : State),
      (∀ p : Ch, p.val = s.rd R.TIME_STATUS_UPPORT 0 → s.domOn dLink = true → s.rd R.TIME_STATUS_SRC 0 = 2 → s.tsyPort p = true →
        ∃ t, exec .tsyExchangeStart s = .next t ∧ t.tsy = { s.tsy with seq := (s.tsy.seq + 1) % 32, t1 := some s.fine69, rsp := none } ∧
          t.lp p = (s.lp p).says p s.now (.tsy (tsyReq s.timeLocked ((s.tsy.seq + 1) % 32))) ∧
          OnlyPort p [] s { t with tsy := s.tsy }) ∧
      (s.domOn dLink = false ∨ s.rd R.TIME_STATUS_SRC 0 ≠ 2 ∨ s.timeRuns = false → exec .tsyExchangeStart s = .next s) ∧
      (∀ p b pos, s.portUp p →
        (s.lst p ≠ 4 → exec (.tsyReqReceived p b pos) s = .next s.after ∧ exec (.tsyRspReceived p b pos) s = .next s.after ∧
          exec (.tsyEpochReceived p b pos) s = .next s.after ∧ exec (.tsyRspTransmit p) s = .next s.after ∧
          exec (.tsyEpochTransmit p) s = .next s.after) ∧
        (s.lst p = 4 → (tsyOk b = false ∨ tsyKind b = 3) → ∃ u : State, u = (if (s.codeError p pos).rd R.TIME_STATUS_SRC 0 = 2 ∧
            (s.codeError p pos).rd R.TIME_STATUS_UPPORT 0 = p.val then (s.codeError p pos).tsyLapse else s.codeError p pos) ∧
          exec (.tsyReqReceived p b pos) s = .next u.after ∧ exec (.tsyRspReceived p b pos) s = .next u.after ∧
          exec (.tsyEpochReceived p b pos) s = .next u.after) ∧
        (s.tsyPort p = true → tsyOk b = true → tsyKind b = 0 → ∃ u : State, exec (.tsyReqReceived p b pos) s = .next u.after ∧
          u.lp p = { s.lp p with rsp := some (tsySeq b, s.fine69) } ∧ OnlyPort p [] s u) ∧
        (∀ q t2, s.tsyPort p = true → (s.lp p).rsp = some (q, t2) → ∃ u : State, exec (.tsyRspTransmit p) s = .next u.after ∧
          u.lp p = (if (s.fine69 + 2 ^ 69 - t2) % 2 ^ 69 < 2 ^ 20 then
            { (s.lp p).says p s.now (.tsy (tsyRsp s.timeLocked q t2 ((s.fine69 + 2 ^ 69 - t2) % 2 ^ 69))) with rsp := none, epo := some (q, t2) }
            else { s.lp p with rsp := none }) ∧ OnlyPort p [] s u) ∧
        (∀ q t2, s.tsyPort p = true → (s.lp p).epo = some (q, t2) → ∃ u : State, exec (.tsyEpochTransmit p) s = .next u.after ∧
          u.lp p = { (s.lp p).says p s.now (.tsy (tsyEpoch s.timeLocked q t2)) with epo := none } ∧ OnlyPort p [] s u) ∧
        ((s.lp p).rsp = none → exec (.tsyRspTransmit p) s = .next s.after) ∧
        ((s.lp p).epo = none → exec (.tsyEpochTransmit p) s = .next s.after) ∧
        (s.tsyPort p = true → tsyOk b = true → tsyKind b = 1 → s.tsyMine p b = true → exec (.tsyRspReceived p b pos) s =
          .next ({ s with tsy.rsp := some (b.toNat / 2 ^ 24 % 2 ^ 32, b.toNat / 16 % 2 ^ 20, s.fine69) } : State).after) ∧
        (s.tsyPort p = true → tsyOk b = true → tsyKind b = 1 → s.tsyMine p b = false → exec (.tsyRspReceived p b pos) s = .next s.after) ∧
        (∀ t1 lo r t4 t2, s.tsyPort p = true → tsyOk b = true → tsyKind b = 2 → s.tsyMine p b = true → s.tsy.t1 = some t1 →
          s.tsy.rsp = some (lo, r, t4) → t2 = lo + 2 ^ 32 * (b.toNat / 2 ^ 16 % 2 ^ 5) + 2 ^ 37 * (b.toNat / 2 ^ 24 % 2 ^ 32) →
          exec (.tsyEpochReceived p b pos) s = .next (s.servo p ((diff69 t4 (t2 + r) - diff69 t2 t1).tdiv 2 + s.asym p.val)
            ((diff69 t2 t1 + diff69 t4 (t2 + r)).tdiv 2)).after) ∧
        (s.tsyPort p = true → tsyOk b = true → tsyKind b = 2 → (s.tsy.rsp = none ∨ s.tsyMine p b = false) →
          exec (.tsyEpochReceived p b pos) s = .next s.after)) ∧
      (∀ p b pos, ¬ s.portUp p → exec (.tsyReqReceived p b pos) s = .next s ∧ exec (.tsyRspReceived p b pos) s = .next s ∧
        exec (.tsyEpochReceived p b pos) s = .next s ∧ exec (.tsyRspTransmit p) s = .next s ∧ exec (.tsyEpochTransmit p) s = .next s) ∧
      (∀ t1, s.tsy.t1 = some t1 → ∃ u : State, u.tsy = { s.tsy with t1 := none, rsp := none, lapsed := s.tsy.lapsed + 1 } ∧
        u.rd R.TIME_STATUS_HOLDOVER 0 = 1 ∧ u.rd R.TIME_LAPSED 0 = min (s.rd R.TIME_LAPSED 0 + 1) 0xFFFF ∧
        OnlyRegs [R.TIME_LAPSED.at 0, R.TIME_STATUS_HOLDOVER.at 0] s { u with tsy := s.tsy } ∧
        exec .tsyExchangeLapse s = .next (if 2 ≤ s.tsy.lapsed then u.lockFall else u).settleAll) ∧
      (s.tsy.t1 = none → exec .tsyExchangeLapse s = .next s.settleAll) ∧
      (s.rd R.TIME_STATUS_SRC 0 = 1 → ∃ t, exec .timeSet s = .next t ∧ t.ticks = s.rd R.TIME_SET_HI 0 * 2 ^ 32 + s.rd R.TIME_SET_LO 0 ∧
        t.canopy % 2 ^ 37 = 0 ∧ t.rd R.TIME_IRQ_STEP 0 = 1 ∧ OnlyRegs [R.TIME_IRQ_STEP.at 0] s { t with canopy := s.canopy }) ∧
      (s.rd R.TIME_STATUS_SRC 0 ≠ 1 → ∃ t, exec .timeSet s = .next t ∧ t.rd R.TIME_IRQ_SET_DENIED 0 = 1 ∧
        OnlyRegs [R.TIME_IRQ_SET_DENIED.at 0] s t) ∧
      (∃ t, exec .timeCntClr s = .next t ∧ t.rd R.TIME_EXCH 0 = 0 ∧ t.rd R.TIME_LAPSED 0 = 0 ∧
        OnlyRegs [R.TIME_EXCH.at 0, R.TIME_LAPSED.at 0] s t) ∧
      (s.rd R.TIME_PPS 0 ≠ 0 → s.timeRuns = true → s.ticks % s.rd R.TIME_PPS 0 < 2 →
        ∃ t, exec .syncOutPulse s = .next t ∧ t = { s with tsy.pulse := some s.now } ∧ t.syncOut = true) ∧
      (s.rd R.TIME_PPS 0 = 0 ∨ s.timeRuns = false ∨ 2 ≤ s.ticks % s.rd R.TIME_PPS 0 → exec .syncOutPulse s = .next s)) ∧
  (∀ (s : State) (p : Ch) (o d : Int), ∃ u : State,
      u.rd R.TIME_OFFSET 0 = (o % 2 ^ 32).toNat ∧ u.rd R.TIME_DELAY 0 = (d % 2 ^ 32).toNat ∧ u.rd R.TIME_STATUS_HOLDOVER 0 = 0 ∧
      u.rd R.TIME_EXCH 0 = (s.rd R.TIME_EXCH 0 + 1) % 65536 ∧ u.tsy.t1 = none ∧ u.tsy.rsp = none ∧ u.tsy.lapsed = 0 ∧
      OnlyRegs [R.TIME_OFFSET.at 0, R.TIME_DELAY.at 0, R.TIME_STATUS_HOLDOVER.at 0, R.TIME_EXCH.at 0, R.TIME_RATE.at 0, R.TIME_IRQ_STEP.at 0]
        s { u with tsy := s.tsy, canopy := s.canopy } ∧
      (s.tsy.first = true ∨ s.rd R.TIME_STEP_LIM 0 * 1280 < o.natAbs → s.servo p o d = u.lockFall ∧ u.rd R.TIME_IRQ_STEP 0 = 1 ∧
        (u.canopy : Int) = ((s.canopy : Int) - o * 2 ^ 32) % 2 ^ 101 ∧ u.tsy.freq = s.tsy.freq ∧
        u.rd R.TIME_RATE 0 = (s.tsy.freq % 2 ^ 32).toNat ∧ u.tsy.first = false ∧ u.tsy.good = 0) ∧
      (s.tsy.first = false → o.natAbs ≤ s.rd R.TIME_STEP_LIM 0 * 1280 → u.canopy = s.canopy ∧
        u.tsy.freq = clampInt (s.tsy.freq - (o * 2 ^ 32).tdiv (s.rd R.TIME_INTERVAL 0 * 40000 * 2 ^ s.rd R.TIME_KI_SH 0 : Nat)) 27487790 ∧
        u.rd R.TIME_RATE 0 = wordOfInt (clampInt (u.tsy.freq -
          (o * 2 ^ 32).tdiv (s.rd R.TIME_INTERVAL 0 * 40000 * 2 ^ s.rd R.TIME_KP_SH 0 : Nat)) 27487790) ∧
        u.tsy.good = (if 10 * o.natAbs ≤ s.lockLim p then s.tsy.good + 1 else 0) ∧
        u.tsy.bad = (if 4 * s.lockLim p < 10 * o.natAbs then s.tsy.bad + 1 else 0) ∧
        s.servo p o d = (if 2 ≤ u.tsy.bad then u.lockFall else if 8 ≤ u.tsy.good then u.lockRise else u)) ∧
      (s.rd R.TIME_STATUS_LOCK 0 = 0 → s.lockFall = { s with tsy.good := 0 }) ∧
      (s.rd R.TIME_STATUS_LOCK 0 ≠ 0 → s.lockRise = s ∧ ∃ v : State, s.lockFall = v.condSet srcTimeLoss s.tsy.held ∧
        v.rd R.TIME_STATUS_LOCK 0 = 0 ∧ v.rd R.TIME_IRQ_LOCK_LOST 0 = 1 ∧
        OnlyRegs [R.TIME_STATUS_LOCK.at 0, R.TIME_IRQ_LOCK_LOST.at 0] s { v with tsy.good := s.tsy.good }) ∧
      (s.rd R.TIME_STATUS_LOCK 0 = 0 → ∃ v : State, s.lockRise = v.condSet srcTimeLoss false ∧ v.rd R.TIME_STATUS_LOCK 0 = 1 ∧
        v.rd R.TIME_IRQ_LOCKED 0 = 1 ∧ v.tsy.held = true ∧
        OnlyRegs [R.TIME_STATUS_LOCK.at 0, R.TIME_IRQ_LOCKED.at 0] s { v with tsy.held := s.tsy.held }))

/-- R423: what a target serves: RD, WR and JOB requests one at a time in their order of arrival, over the Trail port; each is answered as its
rule says, an invalid one with BAD_REQ, and a command that finds no request of its type first does nothing. -/
def Obligations.ServedRequests : Prop :=
  ∀ (s : State), s.domOn dLink = true →
    (∀ a ing k b (typ : Nat), s.inq = a ++ (ing, k) :: b →
      (∀ e ∈ a, e.2.rsp = true ∨ (e.2.typ ≠ 0 ∧ e.2.typ ≠ 1 ∧ e.2.typ ≠ 4)) → k.rsp = false → (typ = 0 ∨ typ = 1 ∨ typ = 4) → k.typ = typ →
      s.takeServed typ = some (ing, k, { s with inq := a ++ b })) ∧
    (∀ a ing k b (typ : Nat), s.inq = a ++ (ing, k) :: b →
      (∀ e ∈ a, e.2.rsp = true ∨ (e.2.typ ≠ 0 ∧ e.2.typ ≠ 1 ∧ e.2.typ ≠ 4)) → k.rsp = false → (k.typ = 0 ∨ k.typ = 1 ∨ k.typ = 4) →
      k.typ ≠ typ → s.takeServed typ = none) ∧
    (∀ ecc, s.takeServed 0 = none → exec (.rdRequest ecc) s = .next s) ∧
    (s.takeServed 1 = none → exec .wrRequest s = .next s) ∧ (s.takeServed 4 = none → exec .jobRequest s = .next s) ∧
    (∀ ing k (u : State), s.takeServed 0 = some (ing, k, u) → ∀ ecc,
      (k.rdValid = false → exec (.rdRequest ecc) s = .next (u.turnAway ing k 5).settleAll) ∧
      (k.rdValid = true → ∀ ws (v : State), u.trailRead k.dr k.byteAddr k.count ecc = (ws, v) →
        exec (.rdRequest ecc) s = .next (v.send fromLodge (k.response v.nodeId 0 ws (4 * ws.length))) ∧ ws.length = k.count ∧
        (k.dr = false → k.count = 1 → ∀ w (x : State), u.busReadEcc 2 k.byteAddr (ecc.contains 0) = (w, x) → ws = [w] ∧ v = x))) ∧
    (∀ ing k (u : State), s.takeServed 1 = some (ing, k, u) →
      (k.wrValid = false → exec .wrRequest s = .next (u.turnAway ing k 5).settleAll) ∧
      (k.wrValid = true → k.asks = false → exec .wrRequest s = .next (u.trailWrite k.dr k.byteAddr (k.data.take k.count))) ∧
      (k.wrValid = true → k.asks = true → ∀ v : State, v = u.trailWrite k.dr k.byteAddr (k.data.take k.count) →
        exec .wrRequest s = .next (v.send fromLodge (k.response v.nodeId 0 [] 0)))) ∧
    (∀ dr a w l, s.trailWrite dr a [] = s ∧
      s.trailWrite dr a (w :: l) = (if dr = true ∧ a % 2 ^ 24 = 0x1020 then (s.nodeIdWrite w).enumPump.settleAll
        else s.busWrite 2 a w).trailWrite dr (a + 4) l) ∧
    (∀ ing k (u : State), s.takeServed 4 = some (ing, k, u) →
      (k.jobValid = false → exec .jobRequest s = .next (u.turnAway ing k 5).settleAll) ∧
      (k.jobValid = true → ∀ r (v w : State), (u.blkPut 2 k.data).jobCommand 2 ((u.blkPut 2 k.data).jobBlk.get 2).toList = (v, r) →
        w = ({ v with jobRes := v.jobRes.set 2 r } : State).settleAll →
        exec .jobRequest s = .next (w.send fromLodge (k.response w.nodeId 0 [r] 4)))) ∧
    (∀ k : Pkt, k.asks = true ↔ k.rsp = false ∧ k.pst = false ∧ (k.dr = true ∨ k.dst ≠ 0x3FF)) ∧
    (∀ ing k, (k.asks = true → s.turnAway ing k 5 = s.send fromLodge (k.response s.nodeId 5 [] 0)) ∧
      (k.asks = false → s.turnAway ing k 5 = s.dropNote ing 3 k ∧ s.turnAway ing k 3 = s) ∧
      (k.asks = true → s.turnAway ing k 3 =
        (s.inc R.TXN_CNT_IN_REFUSED 0).send fromLodge (k.response s.nodeId 3 [] 0)))

/-- R325, R424, R425: messages reach the mailbox of a Grove or the host receive buffer, and are refused where their endpoint cannot take
them; a FAULT record reaches the host receive buffer; a HALT packet acts as the write of FBK.CTRL that its OP names. -/
def Obligations.MessagesDelivered : Prop :=
  ∀ (s : State), s.domOn dLink = true →
    (∀ (f : Pkt → Bool) a ing k b, s.inq = a ++ (ing, k) :: b → (∀ e ∈ a, f e.2 = false) → f k = true →
      s.takeWhere f = some (ing, k, { s with inq := a ++ b })) ∧
    (∀ f : Pkt → Bool, (∀ e ∈ s.inq, f e.2 = false) → s.takeWhere f = none) ∧
    (s.takeWhere (fun k => !k.rsp && k.typ == 2) = none → exec .msgRequest s = .next s) ∧
    (∀ ing k (u : State), s.takeWhere (fun k => !k.rsp && k.typ == 2) = some (ing, k, u) →
      (k.msgValid = false ∨ 4 < k.arg.toNat % 8 → exec .msgRequest s = .next (u.turnAway ing k 5).settleAll) ∧
      (∀ n : Ch, k.msgValid = true → k.arg.toNat % 8 = n.val →
        (s.chOn n = false ∨ s.mboxSlot n = none → exec .msgRequest s = .next (u.msgRefused ing n.val k)) ∧
        (∀ q : Nat, s.chOn n = true → q < 4 → s.bit R.GRV_FULL n.val q = false → (∀ j < q, s.bit R.GRV_FULL n.val j = true) →
          ∃ v : State, exec .msgRequest s = .next (if k.asks = false then v else
              v.send fromLodge (k.response v.nodeId 0 [] 0)) ∧ v.bit R.GRV_FULL n.val q = true ∧
            v.rd (R.GRV_MBOX_HDR_SRC.nth q) n.val = k.src % 1024 ∧ v.bit R.GRV_EVT_PEND n.val 8 = true ∧ v.inq = u.inq ∧
            ∀ d l, k.data = d :: l → l = [] → v.memWord (dramAddr n.val (0xF00 + 0x40 * q)) = d)) ∧
      (k.msgValid = true → k.arg.toNat % 8 = 4 → s.fab.hrx.length < 4 → ∃ v : State, v.rd R.TXN_IRQ_HRX 0 = 1 ∧
        v.fab.hrx = s.fab.hrx ++ [{ src := k.src, evt := false, len := k.len, data := k.data }] ∧
        OnlyRegs [R.TXN_IRQ_HRX.at 0] s { v with fab.hrx := s.fab.hrx, inq := s.inq } ∧
        exec .msgRequest s = .next (if k.asks = false then v else v.send fromLodge (k.response v.nodeId 0 [] 0))) ∧
      (k.msgValid = true → k.arg.toNat % 8 = 4 → 4 ≤ s.fab.hrx.length → exec .msgRequest s = .next (u.msgRefused ing 4 k))) ∧
    (∀ ing k, k.pst = true → ∃ v : State, s.msgRefused ing 4 k = v ∧ v.rd R.TXN_IRQ_HRX_FULL 0 = 1 ∧
      OnlyRegs [R.TXN_IRQ_HRX_FULL.at 0] s v) ∧
    (s.takeWhere (fun k => k.evtCode == 1) = none → exec .faultRecord s = .next s) ∧
    (∀ ing k (u : State), s.takeWhere (fun k => k.evtCode == 1) = some (ing, k, u) →
      (s.fab.hrx.length < 4 → ∃ t, exec .faultRecord s = .next t ∧ t.rd R.TXN_IRQ_HRX 0 = 1 ∧ t.inq = u.inq ∧
        t.fab.hrx = s.fab.hrx ++ [{ src := k.src, evt := true, len := k.len, data := k.data }] ∧
        OnlyRegs [R.TXN_IRQ_HRX.at 0] s { t with fab.hrx := s.fab.hrx, inq := s.inq }) ∧
      (4 ≤ s.fab.hrx.length → ∃ t, exec .faultRecord s = .next t ∧ t.rd R.TXN_IRQ_HRX_FULL 0 = 1 ∧
        OnlyRegs [R.TXN_IRQ_HRX_FULL.at 0] u t)) ∧
    (∀ op, s.takeWhere (fun k => k.typ == 8 && !k.rsp && (k.data.getD 0 0#32).toNat % 2 == op) = none →
      (op = 0 → exec .haltPacketAssert s = .next s) ∧ (op = 1 → exec .haltPacketRelease s = .next s)) ∧
    (∀ op ing k (u : State), s.takeWhere (fun k => k.typ == 8 && !k.rsp && (k.data.getD 0 0#32).toNat % 2 == op) = some (ing, k, u) →
      (k.haltValid = true → (op = 0 → exec .haltPacketAssert s = .next (u.haltAssert 8).settleAll) ∧
        (op = 1 → s.rd R.FBK_STATUS_HALTED 0 = 0 → exec .haltPacketRelease s = .next u) ∧
        (op = 1 → s.rd R.FBK_STATUS_HALTED 0 ≠ 0 → ∃ t, exec .haltPacketRelease s = .next t ∧ t.rd R.FBK_STATUS_DRIVING 0 = 0 ∧
          t.relPend = true ∧ t.rd R.FBK_STATUS_PIN 0 = (if s.haltLow = true then 0 else 1) ∧
          OnlyRegs [R.FBK_STATUS_DRIVING.at 0, R.FBK_STATUS_PIN.at 0] u { t with relPend := s.relPend })) ∧
      (k.haltValid = false → (op = 0 → exec .haltPacketAssert s = .next (u.turnAway ing k 5)) ∧
        (op = 1 → exec .haltPacketRelease s = .next (u.turnAway ing k 5)))) ∧
    (∀ k : Pkt, k.haltValid = true ↔ k.vc = 0 ∧ k.asks = false ∧ k.dr = false ∧ k.len = 4) ∧
    (∀ ing k, k.asks = true → s.turnAway ing k 5 = s.send fromLodge (k.response s.nodeId 5 [] 0))

/-- R427, R428, R434, R435, R450: what the Lodge consumes: LINK_UP and LINK_DOWN at the root, beacons, and TSYNC, whose QUERY answers with the
time and whose SET steps the root's counter. -/
def Obligations.LodgeRecords : Prop :=
  ∀ (s : State), s.domOn dLink = true →
    (s.takeWhere (fun k => k.evtCode == 2) = none → exec .linkUpRecord s = .next s) ∧
    (s.takeWhere (fun k => k.evtCode == 3) = none → exec .linkDownRecord s = .next s) ∧
    (∀ ing k (u : State), s.takeWhere (fun k => k.evtCode == 2) = some (ing, k, u) →
      (s.isRoot = false → exec .linkUpRecord s = .next u) ∧
      (s.isRoot = true → s.fab.nodes.find? (fun x => x.id == k.src) = none → exec .linkUpRecord s = .next u) ∧
      (∀ x, s.isRoot = true → s.fab.nodes.find? (fun x => x.id == k.src) = some x → exec .linkUpRecord s =
        .next { u with fab.work := s.fab.work ++ [.up x.uid ((k.data.getD 0 0#32).toNat % 4)] })) ∧
    (∀ ing k (u : State), s.takeWhere (fun k => k.evtCode == 3) = some (ing, k, u) →
      (s.isRoot = false → exec .linkDownRecord s = .next u) ∧
      (s.isRoot = true → s.fab.nodes.find? (fun x => x.id == k.src) = none → exec .linkDownRecord s = .next u) ∧
      (∀ x, s.isRoot = true → s.fab.nodes.find? (fun x => x.id == k.src) = some x → exec .linkDownRecord s =
        .next { u with fab.work := s.fab.work ++ [.down x.uid ((k.data.getD 0 0#32).toNat % 4)] })) ∧
    (s.takeWhere (fun k => k.evtCode == 4) = none → exec .beacon s = .next s) ∧
    (∀ p k (u : State), s.takeWhere (fun k => k.evtCode == 4) = some (p, k, u) → 16 < (k.rootRec p).dist ∨ 4 ≤ p → exec .beacon s = .next u) ∧
    (∀ p k (u : State), s.takeWhere (fun k => k.evtCode == 4) = some (p, k, u) → (k.rootRec p).dist ≤ 16 → p < 4 → ∃ v : State,
      v.fab.last.toList.getD p none = some (k.rootRec p) ∧ v.regs = s.regs ∧ v.fab.held = s.fab.held ∧
      ((∀ x, s.fab.last.toList.getD p none = some x → x.uid ≠ (k.rootRec p).uid ∨ x.seq ≠ (k.rootRec p).seq) →
        v.fab.seen.toList.getD p 0 = s.now) ∧
      (s.fab.held = none → (s.eligible = false ∨ s.offer.beats (k.rootRec p) = false) →
        exec .beacon s = .next (v.setHeld (some (k.rootRec p))).settleAll) ∧
      (s.fab.held = none → s.eligible = true → s.offer.beats (k.rootRec p) = true →
        exec .beacon s = .next (v.setHeld (some s.offer)).settleAll) ∧
      (∀ h, s.fab.held = some h → (k.rootRec p).beats h = true → exec .beacon s = .next (v.setHeld (some (k.rootRec p))).settleAll) ∧
      (∀ h, s.fab.held = some h → (k.rootRec p).beats h = false → exec .beacon s = .next v)) ∧
    (∀ a b : RootRec, (a.est = true → b.est = false → a.beats b = true ∧ b.beats a = false) ∧
      (a.est = b.est → a.prio < b.prio → a.beats b = true ∧ b.beats a = false) ∧
      (a.est = b.est → a.prio = b.prio → a.uid < b.uid → a.beats b = true ∧ b.beats a = false) ∧
      (a.est = b.est → a.prio = b.prio → a.uid = b.uid → a.seq = (b.seq + 1) % 65536 → b.seq < 65536 → a.beats b = true ∧ b.beats a = false) ∧
      (a.est = b.est → a.prio = b.prio → a.uid = b.uid → a.seq = b.seq → a.dist < b.dist → a.beats b = true ∧ b.beats a = false)) ∧
    (s.takeWhere (fun k => k.typ == 5 && !k.rsp && !k.arg.getLsbD 0) = none → exec .tsyncQuery s = .next s) ∧
    (∀ ing k (u : State), s.takeWhere (fun k => k.typ == 5 && !k.rsp && !k.arg.getLsbD 0) = some (ing, k, u) →
      (k.vc = 2 → k.dr = false → k.len = 0 → k.pst = false → k.dst ≠ 0x3FF → k.arg.toNat = 0 → exec .tsyncQuery s =
        .next (u.send fromLodge (k.response s.nodeId 0 [wd (s.ticks / 2 ^ 32), wd s.ticks, wd (s.canopy / 2 ^ 32 % 32),
          s.word (R.TIME_STATUS_SRC.addr 0)] 16))) ∧
      (k.vc ≠ 2 ∨ k.dr = true ∨ k.len ≠ 0 ∨ k.pst = true ∨ k.dst = 0x3FF ∨ k.arg.toNat ≠ 0 →
        exec .tsyncQuery s = .next (u.turnAway ing k 5).settleAll)) ∧
    (s.takeWhere (fun k => k.typ == 5 && !k.rsp && k.arg.getLsbD 0) = none → exec .tsyncSet s = .next s) ∧
    (∀ ing k (u : State), s.takeWhere (fun k => k.typ == 5 && !k.rsp && k.arg.getLsbD 0) = some (ing, k, u) →
      (k.vc ≠ 2 ∨ k.dr = true ∨ k.len ≠ 8 ∨ k.arg.toNat ≠ 1 → exec .tsyncSet s = .next (u.turnAway ing k 5)) ∧
      (k.vc = 2 → k.dr = false → k.len = 8 → k.arg.toNat = 1 →
        (s.isRoot = false → k.pst = true ∨ k.dst = 0x3FF → exec .tsyncSet s = .next u) ∧
        (s.isRoot = false → k.pst = false → k.dst ≠ 0x3FF → exec .tsyncSet s = .next (u.send fromLodge (k.response s.nodeId 5 [] 0))) ∧
        (∀ hi lo l, k.data = hi :: lo :: l → s.isRoot = true → s.rd R.TIME_STATUS_SRC 0 = 1 → ∃ v : State,
          exec .tsyncSet s = .next (if k.pst = true ∨ k.dst = 0x3FF then v else v.send fromLodge (k.response v.nodeId 0 [] 0)) ∧
            v.ticks = hi.toNat * 2 ^ 32 + lo.toNat ∧ v.rd R.TIME_IRQ_STEP 0 = 1 ∧
            OnlyRegs [R.TIME_IRQ_STEP.at 0, R.TIME_SET_HI.at 0, R.TIME_SET_LO.at 0] s { v with canopy := s.canopy, inq := s.inq })))

/-- R418, R419, R421, R424, R438, R442: the host's transactions: GO sends a valid request under the lowest free tag, or answers why not; a
response completes the tag it matches and no other, a timeout and the end of the quarantine free it; the other commands of the TXN page. -/
def Obligations.TransactionsComplete : Prop :=
  ∀ (s : State), s.domOn dLink = true →
    (s.hostBusy = true → exec .txnGo s = .next s) ∧
    (s.hostBusy = false → s.hostPkt = none → ∃ t, exec .txnGo s = .next t ∧ t.rd R.TXN_RSLT_VALID 0 = 1 ∧ t.rd R.TXN_RSLT_STATUS 0 = 5 ∧
      t.rd R.TXN_IRQ_DONE 0 = 1 ∧
      OnlyRegs [R.TXN_RSLT_VALID.at 0, R.TXN_RSLT_STATUS.at 0, R.TXN_RSLT_TAG.at 0, R.TXN_IRQ_DONE.at 0] s t) ∧
    (∀ k, s.hostBusy = false → s.hostPkt = some k → k.pst = false → (∀ j : Nat, j < 56 → (s.tag j).st ≠ 0) → ∃ t, exec .txnGo s = .next t ∧
      t.rd R.TXN_RSLT_VALID 0 = 1 ∧ t.rd R.TXN_RSLT_STATUS 0 = 6 ∧ t.rd R.TXN_IRQ_DONE 0 = 1 ∧
      OnlyRegs [R.TXN_RSLT_VALID.at 0, R.TXN_RSLT_STATUS.at 0, R.TXN_RSLT_TAG.at 0, R.TXN_IRQ_DONE.at 0] s t) ∧
    (∀ k, s.hostBusy = false → s.hostPkt = some k → k.pst = true → ∃ u : State, u.rd R.TXN_RSLT_VALID 0 = 0 ∧
      u.rd R.TXN_SENT 0 = (s.rd R.TXN_SENT 0 + 1) % R.TXN_SENT.size ∧ OnlyRegs [R.TXN_RSLT_VALID.at 0, R.TXN_SENT.at 0] s u ∧
      exec .txnGo s = .next ((u.send fromHost k).wrs 0 [(R.TXN_RSLT_VALID, 1), (R.TXN_RSLT_STATUS, 0), (R.TXN_RSLT_TAG, 0), (R.TXN_IRQ_DONE, 1)])) ∧
    (∀ k n, s.hostBusy = false → s.hostPkt = some k → k.pst = false → s.freeTag false = some n → ∃ u : State, (u.tag n).st = 1 ∧
      (u.tag n).use = .host ∧ (u.tag n).dst = k.dst ∧ u.rd R.TXN_RSLT_VALID 0 = 0 ∧
      u.rd R.TXN_SENT 0 = (s.rd R.TXN_SENT 0 + 1) % R.TXN_SENT.size ∧
      OnlyRegs [R.TXN_RSLT_VALID.at 0, R.TXN_SENT.at 0] s { u with fab.tags := s.fab.tags } ∧
      exec .txnGo s = .next (u.send fromHost { k with tag := n })) ∧
    (∀ n : Nat, s.freeTag false = some n → n < 56 ∧ (s.tag n).st = 0 ∧ ∀ j < n, (s.tag j).st ≠ 0) ∧
    (s.takeWhere (·.rsp) = none → exec .transactionResponse s = .next s.after) ∧
    (∀ ing k (u : State), s.takeWhere (·.rsp) = some (ing, k, u) → k.tag < 64 →
      ((s.tag k.tag).st = 1 → (s.tag k.tag).use = .host → k.src = (s.tag k.tag).dst → k.status ≠ 1 → k.status ≠ 2 → k.data = [] →
        ∃ v : State, exec .transactionResponse s = .next v.after ∧ (v.tag k.tag).st = 0 ∧ (v.tag k.tag).last = k.status ∧
          v.rd R.TXN_RSLT_VALID 0 = 1 ∧ v.rd R.TXN_RSLT_STATUS 0 = k.status % 16 ∧ v.rd R.TXN_RSLT_TAG 0 = k.tag ∧ v.rd R.TXN_IRQ_DONE 0 = 1 ∧
          (∀ j, j ≠ k.tag → v.tag j = s.tag j) ∧
          OnlyRegs [R.TXN_RSLT_VALID.at 0, R.TXN_RSLT_STATUS.at 0, R.TXN_RSLT_TAG.at 0, R.TXN_IRQ_DONE.at 0]
            s { v with fab.tags := s.fab.tags, inq := s.inq }) ∧
      ((s.tag k.tag).st = 1 → (s.tag k.tag).dr = true ∨ k.src = (s.tag k.tag).dst ∨ k.status = 1 → exec .transactionResponse s =
        .next (u.complete k.tag k.status (k.status == 1 && s.nodeId == some k.src) k.route k.data).after) ∧
      ((s.tag k.tag).st ≠ 1 ∨ ((s.tag k.tag).dr = false ∧ k.src ≠ (s.tag k.tag).dst ∧ k.status ≠ 1) →
        exec .transactionResponse s = .next (u.dropNote ing 6 k).after)) ∧
    (∀ n : Fin 64, ((s.tag n.val).st = 1 → exec (.transactionTimeout n) s =
        .next ((s.complete n.val 2 true 0 []).raise srcFabTimeout 0).after ∧
        ∀ use, (s.tag n.val).use = use → use = .host ∨ use = .none → ((s.complete n.val 2 true 0 []).tag n.val).st = 2 ∧
          ((s.complete n.val 2 true 0 []).tag n.val).last = 2 ∧
          (s.complete n.val 2 true 0 []).rd R.TXN_CNT_END_TIMEOUT 0 = min (s.rd R.TXN_CNT_END_TIMEOUT 0 + 1) (R.TXN_CNT_END_TIMEOUT.size - 1)) ∧
      ((s.tag n.val).st ≠ 1 → exec (.transactionTimeout n) s = .next s.after) ∧
      ((s.tag n.val).st = 2 → exec (.tagQuarantineEnd n) s = .next (s.setTag n.val { s.tag n.val with st := 0 }).after ∧
        ((s.setTag n.val { s.tag n.val with st := 0 }).tag n.val).st = 0) ∧
      ((s.tag n.val).st ≠ 2 → exec (.tagQuarantineEnd n) s = .next s)) ∧
    exec .hrxPop s = .next { s with fab.hrx := s.fab.hrx.drop 1 } ∧
    (∃ t, exec .txnCntClr s = .next t ∧ t.rd R.TXN_SENT 0 = 0 ∧ t.rd R.TXN_CNT_END_TIMEOUT 0 = 0 ∧ t.rd R.TXN_CNT_END_NO_ROUTE 0 = 0 ∧
      t.rd R.TXN_CNT_IN_BUSY 0 = 0 ∧ t.rd R.TXN_CNT_IN_REFUSED 0 = 0 ∧ OnlyRegs [R.TXN_SENT.at 0, R.TXN_CNT_END_TIMEOUT.at 0,
        R.TXN_CNT_END_NO_ROUTE.at 0, R.TXN_CNT_IN_BUSY.at 0, R.TXN_CNT_IN_REFUSED.at 0] s t) ∧
    (∃ t, exec .fabCntClr s = .next t ∧ t.rd R.TXN_SENT 0 = 0 ∧ t.rd R.TXN_CNT_END_TIMEOUT 0 = 0 ∧ t.rd R.TXN_CNT_IN_BUSY 0 = 0 ∧
      t.rd R.TXN_CNT_END_NO_ROUTE 0 = 0 ∧ t.rd R.TXN_CNT_IN_REFUSED 0 = 0 ∧
      t.rd R.ROUTE_NOROUTE_TX 0 = 0 ∧ t.rd R.ROUTE_DROPPED 0 = 0 ∧ t.rd R.ROUTE_FWD01_FWDH 0 = 0 ∧ t.rd R.ROUTE_FWD01_FWDL 0 = 0 ∧
      t.rd R.ROUTE_FWD23_FWDH 0 = 0 ∧ t.rd R.ROUTE_FWD23_FWDL 0 = 0 ∧ OnlyRegs [R.TXN_SENT.at 0, R.TXN_CNT_END_TIMEOUT.at 0,
        R.TXN_CNT_END_NO_ROUTE.at 0, R.TXN_CNT_IN_BUSY.at 0, R.TXN_CNT_IN_REFUSED.at 0, R.ROUTE_NOROUTE_TX.at 0, R.ROUTE_DROPPED.at 0,
        R.ROUTE_FWD01_FWDH.at 0, R.ROUTE_FWD01_FWDL.at 0, R.ROUTE_FWD23_FWDH.at 0, R.ROUTE_FWD23_FWDL.at 0] s t)

/-- R421, R426 to R431, R433, R434, R439: routes and roots: a write of the route table, of NODE_ID by a directed route; the beacons of the root,
the loss of its record, the end of the election, the start of the enumeration work; FORGET. -/
def Obligations.RootsElected : Prop :=
  ∀ (s : State), s.domOn dLink = true →
    (∀ d w, exec (.routeTableWrite d w) s = .next (s.routeWrite d.toNat w.toNat).after) ∧
    (∀ d w : Nat, d < 0x3FF → (∃ u : State, u.memWord (0x340000 + 4 * d) = wd (w % 8) ∧ u.regs = s.regs ∧ u.rest = s.rest ∧
      MemKept (0x340000 + 4 * d) (0x340000 + 4 * d + 4) s u ∧ (w % 8 < 2 ∨ w % 8 = 4 ∨ (s.hl2880 = false ∧ w % 8 < 5) → s.routeWrite d w = u) ∧
      (5 ≤ w % 8 ∨ (s.hl2880 = true ∧ (w % 8 = 2 ∨ w % 8 = 3)) → s.routeWrite d w = u.noRoute fun x => x == d))) ∧
    (∀ d w : Nat, 0x3FF ≤ d → s.routeWrite d w = s) ∧
    (∀ w, exec (.nodeIdWrite w) s = .next (s.nodeIdWrite w).after) ∧
    (∀ (w : Word) d, d = (if w.toNat % 1024 = 0x3FF then s.rd R.FAB_NODE_ID_ID 0 else w.toNat % 1024) →
      (w.toNat / 2 ^ 31 = 1 → (∀ p : Ch, ((s.takeId d).lp p).unread = false) → s.nodeIdWrite w = s.takeId d) ∧
      (w.toNat / 2 ^ 31 = 0 → ∃ u : State, u.rd R.FAB_NODE_ID_VALID 0 = 0 ∧ u.rd R.FAB_NODE_ID_ID 0 = d ∧ u.rd R.FAB_IRQ_ID_CHANGED 0 = 1 ∧
        (∀ e, e < 0x3FF → u.memWord (0x340000 + 4 * e) = 5#32) ∧ s.nodeIdWrite w = u.noRoute fun _ => true)) ∧
    (∀ d : Nat, d < 0x3FF → s.nodeId = none → ∃ t, s.takeId d = t ∧ t.rd R.FAB_NODE_ID_VALID 0 = 1 ∧ t.rd R.FAB_NODE_ID_ID 0 = d ∧
      t.rd R.FAB_IRQ_ID_CHANGED 0 = 1 ∧ t.memWord (0x340000 + 4 * d) = 4#32 ∧ MemKept (0x340000 + 4 * d) (0x340000 + 4 * d + 4) s t) ∧
    (s.fab.held = none → s.eligible = true → exec .beaconTimer s = .next (s.setHeld (some s.offer)).settleAll) ∧
    (s.fab.held = none → s.eligible = false → exec .beaconTimer s = .next s.settleAll) ∧
    (∀ r, s.fab.held = some r → s.isRoot = true → s.eligible = true → exec .beaconTimer s =
      .next (s.setHeld (some { r with seq := (r.seq + 1) % 65536, prio := s.rd R.FAB_PRIO 0, id := s.nodeId.getD 0x3FF })).settleAll) ∧
    (∀ r, s.fab.held = some r → r.up = none → s.eligible = false → s.pickRoot 4 = s.reoffer ∧
      ((s.pickRoot 4).fab.held ≠ some r → exec .beaconTimer s = .next (s.pickRoot 4).settleAll)) ∧
    (∀ r p, s.fab.held = some r → r.up = some p → s.eligible = false ∨ s.offer.beats r = false → exec .beaconTimer s = .next s.sendBeacons) ∧
    (∀ r p, s.fab.held = some r → r.up = some p → s.eligible = true → s.offer.beats r = true →
      exec .beaconTimer s = .next (s.setHeld (some s.offer)).settleAll) ∧
    (∀ r, s.fab.held = some r → r.up = none → r.est = false → s.eligible = true → r.prio = s.rd R.FAB_PRIO 0 → r.id = s.nodeId.getD 0x3FF →
      exec .beaconTimer s = .next s.sendBeacons) ∧
    (s.fab.held = none → s.sendBeacons = s) ∧
    ((∀ p : Nat, p < 4 → s.portActive p = false) → s.sendBeacons = s) ∧
    exec .rootRecordExpiry s = .next s.rootExpire.settleAll ∧
    (∀ r p, s.fab.held = some r → r.up = some p → p < 4 → (∀ q : Nat, q < 4 → q ≠ p → s.portActive q = false) → ∃ u : State,
      u = { s with fab.last := s.fab.last.set! p none } ∧
      s.rootExpire = u.setHeld (if s.eligible = true then some s.offer else none)) ∧
    ((∀ r, s.fab.held = some r → r.up = none) → s.rootExpire = s) ∧
    (∀ r, s.fab.held = some r → r.up = none → r.est = false → s.eligible = true → ∀ u v : State,
      (s.chooseId s.uid s.nodeId (s.rd R.FAB_PREF_ID 0) false = none → u = s) →
      (∀ d, s.chooseId s.uid s.nodeId (s.rd R.FAB_PREF_ID 0) false = some d → u = s.takeId d) →
      v = (u.setHeld (some { r with est := true, id := u.nodeId.getD 0x3FF })).wr R.FAB_IRQ_ROOT_CHANGED 0 1 →
      exec .electionTimeout s = .next ({ v with fab.nodes := [v.selfNode], fab.work := [.full false false] } : State).settleAll) ∧
    ((∀ r, s.fab.held = some r → r.up ≠ none ∨ r.est = true) ∨ s.eligible = false → exec .electionTimeout s = .next s) ∧
    (s.isRoot = false ∨ s.fab.step ≠ .idle ∨ s.holder 9 ≠ none ∨ s.fab.work = [] → exec .enumerationStart s = .next s) ∧
    (∀ r l, s.isRoot = true → s.fab.step = .idle → s.holder 9 = none → s.fab.work = r :: l → exec .enumerationStart s =
      .next (({ s with fab.work := l } : State).enumBegin r).after) ∧
    (∃ t, exec .forget s = .next t ∧ t.regs = s.regs ∧ t.rest = s.rest ∧ MemKept 0x3C0000 0x3C3FF0 s t ∧
      (∀ d, d < 0x3FF → s.cacheValid d = true → s.cachePresent d = false → ∀ j : Nat, j < 4 → t.memWord (0x3C0000 + 16 * d + 4 * j) = 0#32) ∧
      (∀ d, d < 0x3FF → s.cachePresent d = true → ∀ j : Nat, j < 4 →
        t.memWord (0x3C0000 + 16 * d + 4 * j) = s.memWord (0x3C0000 + 16 * d + 4 * j)))

/-- R456, R457, R459, R460, R463, R466: the packets of a stand: a leader sends one SREF to each member device, the lowest member channel of a
device its SMEAS; a received SREF is checked and waits for its use window, a late one counts; the timeouts and the counters. -/
def Obligations.StandPacketsAct : Prop :=
  ∀ (s : State),
    (∀ n : Ch, s.chOn n = true →
      (s.run R.CH_MODE_GANG n.val ≠ 1 ∨ s.domOn dLink = false → exec (.srefSlot n) s = .next s) ∧
      (s.run R.CH_MODE_GANG n.val = 1 → s.domOn dLink = true → s.members n = [] → ∃ t, exec (.srefSlot n) s = .next t ∧
        t.ch n = { s.ch n with gang.sent := (((s.ch n).gang.frame, s.standCmd n) :: (s.ch n).gang.sent).take 8 } ∧ OnlyChan n [] s t) ∧
      (∀ d, s.run R.CH_MODE_GANG n.val = 1 → s.domOn dLink = true → s.mbrDevs n = [d] → ∃ u : State,
        u.ch n = { s.ch n with gang.sent := (((s.ch n).gang.frame, s.standCmd n) :: (s.ch n).gang.sent).take 8 } ∧
        u.rd R.STAND_SREF_SENT 0 = (s.rd R.STAND_SREF_SENT 0 + 1) % 65536 ∧ OnlyChan n [R.STAND_SREF_SENT.at 0] s u ∧
        exec (.srefSlot n) s = .next (u.send fromStand (s.sref n (s.standCmd n) d))) ∧
      ((s.standPeers n).head? ≠ some n ∨ s.domOn dLink = false → exec (.smeasSlot n) s = .next s) ∧
      ((s.standPeers n).head? = some n → s.domOn dLink = true → ∃ (u : State) (k : Pkt), k.typ = 7 ∧ k.vc = 1 ∧ k.pst = true ∧
        k.dst = s.run R.GANG_CFG_LEADER n.val ∧ k.len = 60 ∧ k.data.length = 15 ∧ k.data[1]? = some (wd ((s.ch n).gang.tk / 32)) ∧
        u.rd R.STAND_SMEAS_SENT 0 = (s.rd R.STAND_SMEAS_SENT 0 + 1) % 65536 ∧ OnlyRegs [R.STAND_SMEAS_SENT.at 0] s u ∧
        exec (.smeasSlot n) s = .next (u.send fromStand k)) ∧
      (s.standWaits n = true →
        exec (.standFollowTimeout n) s = .next ((s.modGang n fun g => { g with overdue := true }).slotMissSet n).settleAll) ∧
      (s.standWaits n = false → exec (.standFollowTimeout n) s = .next s)) ∧
    (∀ n : Ch, s.chOn n = false → exec (.srefSlot n) s = .next s ∧ exec (.smeasSlot n) s = .next s ∧
      exec (.standFollowTimeout n) s = .next s) ∧
    (s.takePkt (fun p => decide (p.typ = 6)) = none → exec .srefReceived s = .next s) ∧
    (s.takePkt (fun p => decide (p.typ = 7)) = none → exec .smeasReceived s = .next s) ∧
    (∀ (f : Pkt → Bool) a ing k b, s.inq = a ++ (ing, k) :: b → (∀ e ∈ a, f e.2 = false) → f k = true →
      s.takePkt f = some (k, ing, { s with inq := a ++ b })) ∧
    (∀ p ing (u : State), s.takePkt (fun p => decide (p.typ = 6)) = some (p, ing, u) →
      (u.srefBad p = true → ∃ t, exec .srefReceived s = .next t ∧ t.rd R.STAND_IRQ_SREF_BAD 0 = 1 ∧
        t.rd R.STAND_CNT_DISCARDED 0 = min (s.rd R.STAND_CNT_DISCARDED 0 + 1) 0xFFFF ∧
        OnlyRegs [R.STAND_CNT_DISCARDED.at 0, R.STAND_IRQ_SREF_BAD.at 0] u t) ∧
      (∀ c : Ch, u.srefBad p = false → maskChs (p.arg.toNat % 16) = [c] → exec .srefReceived s = .next (u.srefTo p c)) ∧
      (∀ c : Ch, (srefOf p.data c.val u.fineNow).cmd ≠ 5 →
        ((u.ch c).gang.held = true → useGone (u.periodFine c) (srefOf p.data c.val u.fineNow).tRef (u.ch c).gang.tk = true →
          (u.srefTo p c).rd R.STAND_CNT_LATE 0 = min (u.rd R.STAND_CNT_LATE 0 + 1) 0xFFFF ∧ (u.srefTo p c).rd R.STAND_IRQ_SREF_LATE 0 = 1 ∧
          OnlyRegs [R.STAND_CNT_LATE.at 0, R.GANG_CNT_LATE.at c.val, R.STAND_IRQ_SREF_LATE.at 0] u (u.srefTo p c)) ∧
        ((u.ch c).gang.held = false ∨ useGone (u.periodFine c) (srefOf p.data c.val u.fineNow).tRef (u.ch c).gang.tk = false →
          ((u.srefTo p c).ch c).gang.rx = ((u.ch c).gang.rx ++ [srefOf p.data c.val u.fineNow]).drop ((u.ch c).gang.rx.length + 1 - 8) ∧
          OnlyChan c [] u (u.srefTo p c)))) ∧
    (∀ p ing (u : State), s.takePkt (fun p => decide (p.typ = 7)) = some (p, ing, u) →
      ((∀ c : Ch, s.chOn c = true → s.run R.CH_MODE_GANG c.val = 1 → s.run R.GANG_CFG_STAND_ID c.val ≠ (p.data.getD 0 0#32).toNat / 2 ^ 24) →
        exec .smeasReceived s = .next u) ∧
      (∀ c : Ch, s.chOn c = true → s.run R.CH_MODE_GANG c.val = 1 → (s.mbrDevs c).contains p.src = true →
        s.run R.GANG_CFG_STAND_ID c.val = (p.data.getD 0 0#32).toNat / 2 ^ 24 →
        (∀ d : Ch, d ≠ c → s.run R.CH_MODE_GANG d.val ≠ 1) →
        ((s.ch c).gang.held = false ∨ useGone (s.periodFine c) (smeasOf p s.fineNow).h (s.ch c).gang.tk = false) → (s.ch c).gang.meas = [] → ∃ t,
          exec .smeasReceived s = .next t ∧ (t.ch c).gang.meas = [smeasOf p s.fineNow] ∧ OnlyChan c [] u t)) ∧
    ((s.fr srcTimeLoss).cond = true → ∃ t, exec .timeLossHoldoverExpiry s = .next t ∧ t.rd R.STAND_STATUS_HOLD_EXP 0 = 1 ∧
      t.rd R.STAND_IRQ_HOLD_EXP 0 = 1 ∧ OnlyRegs [R.STAND_STATUS_HOLD_EXP.at 0, R.STAND_IRQ_HOLD_EXP.at 0] s t) ∧
    ((s.fr srcTimeLoss).cond = false → exec .timeLossHoldoverExpiry s = .next s) ∧
    (∃ t, exec .standCntClr s = .next t ∧ t.rd R.STAND_SREF_SENT 0 = 0 ∧ t.rd R.STAND_SREF_USED 0 = 0 ∧ t.rd R.STAND_SMEAS_SENT 0 = 0 ∧
      t.rd R.STAND_SMEAS_USED 0 = 0 ∧ t.rd R.STAND_CNT_LATE 0 = 0 ∧ t.rd R.STAND_CNT_DISCARDED 0 = 0 ∧
      OnlyRegs [R.STAND_SREF_SENT.at 0, R.STAND_SREF_USED.at 0, R.STAND_SMEAS_SENT.at 0, R.STAND_SMEAS_USED.at 0, R.STAND_CNT_LATE.at 0,
        R.STAND_CNT_DISCARDED.at 0] s t)

/-- R469, R470, R472, R475, R477 to R479: the commands of a CAN controller: INIT with its checks, recovery from bus-off, the FIFO, the requests
and withdrawals of buffers, the filters. -/
def Obligations.CanCommandsAct : Prop :=
  ∀ (m : Fin 2) (s : State), s.domOn dCan = true →
    (s.rd R.CAN_CTRL_INIT m.val ≠ 0 →
      (∀ busy, exec (.canInitWrite m true busy) s = .next s) ∧
      (∀ busy, s.canTimingBad m.val = true → ∃ t, exec (.canInitWrite m false busy) s = .next t ∧ t.rd R.CAN_IRQ_CFG_ERR m.val = 1 ∧
        OnlyRegs [R.CAN_IRQ_CFG_ERR.at m.val] s t) ∧
      (∀ busy, s.canTimingBad m.val = false → ∃ t, exec (.canInitWrite m false busy) s = .next t ∧ t.rd R.CAN_CTRL_INIT m.val = 0 ∧
        t.rd R.CAN_STATUS_SYNC m.val = 0 ∧ OnlyRegs [R.CAN_CTRL_INIT.at m.val, R.CAN_STATUS_SYNC.at m.val] s t)) ∧
    (s.rd R.CAN_CTRL_INIT m.val = 0 →
      (∀ busy, busy = false ∨ s.rd R.CAN_STATUS_SYNC m.val = 0 ∨ 2 ≤ s.rd R.CAN_STATUS_ESTATE m.val →
        ∃ t, exec (.canInitWrite m true busy) s = .next t ∧ t = s.canEnterInit m ∧ t.rd R.CAN_CTRL_INIT m.val = 1 ∧
          t.rd R.CAN_STATUS_SYNC m.val = 0 ∧ t.rd R.CAN_STATUS_TXDTO m.val = 0 ∧ t.cn m = { s.cn m with cur := none, initReq := false } ∧
          OnlyRegs [R.CAN_CTRL_INIT.at m.val, R.CAN_STATUS_SYNC.at m.val, R.CAN_STATUS_TXDTO.at m.val] s { t with can := s.can }) ∧
      (s.rd R.CAN_STATUS_SYNC m.val ≠ 0 → s.rd R.CAN_STATUS_ESTATE m.val < 2 → ∃ t, exec (.canInitWrite m true true) s = .next t ∧
        t.cn m = { s.cn m with initReq := true } ∧ OnlyRegs [] s { t with can := s.can }) ∧
      ∀ busy, ∃ t, exec (.canInitWrite m false busy) s = .next t ∧ t.cn m = { s.cn m with initReq := false } ∧
        OnlyRegs [] s { t with can := s.can }) ∧
    ((s.cn m).initReq = false → s.canHeardEnd m = s.wr R.CAN_STATUS_TXDTO m.val 0) ∧
    ((s.cn m).initReq = true → s.canHeardEnd m = (s.wr R.CAN_STATUS_TXDTO m.val 0).canEnterInit m) ∧
    (s.rd R.CAN_STATUS_ESTATE m.val = 2 → ∃ t, exec (.canRecover m) s = .next t ∧ t.rd R.CAN_STATUS_ESTATE m.val = 3 ∧
      OnlyRegs [R.CAN_STATUS_ESTATE.at m.val] s t ∧ (s.rd R.CAN_CFG_AUTO_REC m.val ≠ 0 → exec (.canRecoveryStart m) s = .next t)) ∧
    (s.rd R.CAN_STATUS_ESTATE m.val ≠ 2 → exec (.canRecover m) s = .next s) ∧
    (s.rd R.CAN_STATUS_ESTATE m.val ≠ 2 ∨ s.rd R.CAN_CFG_AUTO_REC m.val = 0 → exec (.canRecoveryStart m) s = .next s) ∧
    ((s.cn m).fifo.length ≤ 64 → ∃ t, exec (.canFifoPop m) s = .next t ∧ t.cn m = { s.cn m with fifo := (s.cn m).fifo.drop 1 } ∧
      t.rd R.CAN_FIFO_CNT m.val = (s.cn m).fifo.length - 1 ∧ OnlyRegs [R.CAN_FIFO_CNT.at m.val] s { t with can := s.can }) ∧
    (∀ w d : Nat, d = s.netDiscards m (w &&& s.rd R.CAN_BCFG m.val) → w < 2 ^ 32 → ∃ u : State,
      (∀ started, exec (.canBpend m (wd w) started) s = .next (u.canRepick m started)) ∧
      (∀ k < 32, u.bit R.CAN_BPEND m.val k = (s.bit R.CAN_BPEND m.val k || (w.testBit k && s.bit R.CAN_BCFG m.val k && !d.testBit k))) ∧
      u.rd R.CAN_IRQ_WR_DENIED m.val = (if d = 0 then s.rd R.CAN_IRQ_WR_DENIED m.val else 1) ∧
      OnlyRegs [R.CAN_BPEND.at m.val, R.CAN_IRQ_WR_DENIED.at m.val] s u) ∧
    (s.netCan ≠ some m ∨ s.rd R.NET_STATUS_CLAIM 0 = 2 → ∀ w, s.netDiscards m w = 0) ∧
    ((s.cn m).cur ≠ none → s.canNext m = s) ∧ s.canRepick m true = s.canNext m ∧
    s.canRepick m false = (s.modCan m fun c => { c with cur := none }).canNext m ∧
    (s.canTxOk m = false → s.canNext m = s) ∧
    (∀ w : Word, (s.cn m).cur = none → ∀ started, ∃ t, exec (.canBabort m w started) s = .next t ∧ (∀ k < 32, t.bit R.CAN_BPEND m.val k =
      (s.bit R.CAN_BPEND m.val k && !w.getLsbD k)) ∧ OnlyRegs [R.CAN_BPEND.at m.val, R.CAN_BABORT.at m.val] s t) ∧
    (∀ (w : Word) k, (s.cn m).cur = some k → k < 32 → w.getLsbD k = true → s.bit R.CAN_BPEND m.val k = true → ∃ t,
      exec (.canBabort m w true) s = .next t ∧ t.bit R.CAN_BPEND m.val k = true ∧ t.bit R.CAN_BABORT m.val k = true ∧ t.cn m = s.cn m ∧
      OnlyRegs [R.CAN_BPEND.at m.val, R.CAN_BABORT.at m.val] s t) ∧
    (∀ w : Word, ∃ t, exec (.canFilterApply m w) s = .next t ∧
      (w.toNat / 2 ^ 30 ≠ 1 → ∃ f, (t.cn m).filt.toList[s.rd R.CAN_FSEL m.val]? = some f ∧
        f.id = s.rd R.CAN_FID_ID m.val ∧ f.mask = w.toNat % 2 ^ 29 ∧ f.dest = w.toNat / 2 ^ 30 ∧ f.en = s.on R.CAN_FID_EN m.val ∧
        f.ide = s.on R.CAN_FID_IDE m.val ∧ f.rtr = s.on R.CAN_FID_RTR m.val) ∧
      (w.toNat / 2 ^ 30 = 1 → ∃ f, (t.cn m).filt.toList[s.rd R.CAN_FSEL m.val]? = some f ∧ f.id = s.rd R.CAN_FID_ID m.val ∧
        f.mask = w.toNat % 2 ^ 24 ∧ f.dest = 1 ∧ f.buf = w.toNat % 2 ^ 29 / 2 ^ 24 ∧ f.en = s.on R.CAN_FID_EN m.val) ∧
      OnlyRegs [R.CAN_FID_EN.at m.val, R.CAN_FID_IDE.at m.val, R.CAN_FID_RTR.at m.val, R.CAN_FID_ID.at m.val, R.CAN_FMASK_DEST.at m.val,
        R.CAN_FMASK_MASK.at m.val] s { t with can := s.can }) ∧
    (∃ t, exec .canDominantTimeout s = .next t ∧ t.rd R.CAN_STATUS_TXDTO 0 = 1 ∧ OnlyRegs [R.CAN_STATUS_TXDTO.at 0] s t)

/-- R470, R474 to R477, R479, R481, R482: what happens on the bus of a CAN controller: frames received and sent, errors, bus-off and the
recovery, integration. -/
def Obligations.CanBusEvents : Prop :=
  ∀ (m : Fin 2) (s : State), s.domOn dCan = true →
    (∀ hdr dlc rtr data sof esi pex, s.canRxOk m = false → exec (.canFrameReceived m hdr dlc rtr data sof esi pex) s = .next s) ∧
    (∀ hdr dlc rtr data sof esi pex, s.canRxOk m = true → pex = true ∨ (hdr.getLsbD 31 = true ∧ s.rd R.CAN_CFG_FD m.val = 0) →
      ∃ u : State, exec (.canFrameReceived m hdr dlc rtr data sof esi pex) s = .next (u.canHeardEnd m) ∧
      u.rd R.CAN_STATUS_PEX m.val = 1 ∧ u.rd R.CAN_STATUS_SYNC m.val = 0 ∧ u.cn m = { s.cn m with cur := none } ∧
      OnlyRegs [R.CAN_STATUS_PEX.at m.val, R.CAN_STATUS_SYNC.at m.val] s { u with can := s.can }) ∧
    (∀ (hdr : Word) (dlc : BitVec 4) rtr data sof esi (f : CanFrame), s.canRxOk m = true →
      (hdr.getLsbD 31 = true → s.rd R.CAN_CFG_FD m.val ≠ 0) →
      f = { fdf := hdr.getLsbD 31, brs := hdr.getLsbD 30 && hdr.getLsbD 31, esi := hdr.getLsbD 31 && esi, ide := hdr.getLsbD 29,
            rtr := rtr && !hdr.getLsbD 31, id := hdr.toNat % 2 ^ 29, dlc := dlc.toNat, ts := sof,
            data := if rtr = true ∧ hdr.getLsbD 31 = false then [] else
              (data ++ List.replicate 64 0#8).take (canLen (hdr.getLsbD 31) dlc.toNat) } →
      exec (.canFrameReceived m hdr dlc rtr data sof esi false) s = .next (((s.canRecDown m).canHear m f).canHeardEnd m).settleAll) ∧
    (∀ f : CanFrame, f.ide = false ∨ s.netCan ≠ some m → s.canHear m f = s.canAccept m f) ∧
    (∀ (f : CanFrame) (u : State), f.ide = true → s.netCan = some m → u = s.partnerSeen (f.id % 256) →
      s.canHear m f = if u.netTakes m f = true ∧ u.rd R.NET_CFG_PASS 0 = 0 then u else u.canAccept m f) ∧
    (∀ f : CanFrame, (∀ x ∈ (s.cn m).filt.toList, x.hits f = false) →
      s.canAccept m f = if s.rd R.CAN_CFG_NOMATCH m.val ≠ 0 then s.canToFifo m f else s) ∧
    (∀ (f : CanFrame) a x b, (s.cn m).filt.toList = a ++ x :: b → (∀ y ∈ a, y.hits f = false) → x.hits f = true → s.canAccept m f =
      if x.dest = 0 then s.canToFifo m f else if x.dest = 1 then s.canToBuf m x.buf f else s) ∧
    (∀ f : CanFrame, (s.cn m).fifo.length < 64 → ((s.canToFifo m f).cn m).fifo = (s.cn m).fifo ++ [f] ∧
      (s.canToFifo m f).rd R.CAN_FIFO_CNT m.val = (s.cn m).fifo.length + 1 ∧ (s.canToFifo m f).rd R.CAN_IRQ_FIFO m.val = 1) ∧
    (∀ f : CanFrame, 64 ≤ (s.cn m).fifo.length → ((s.canToFifo m f).cn m).fifo = (s.cn m).fifo ∧
      (s.canToFifo m f).rd R.CAN_WEND_FIFO_LOST m.val = min (s.rd R.CAN_WEND_FIFO_LOST m.val + 1) (R.CAN_WEND_FIFO_LOST.size - 1) ∧
      (s.canToFifo m f).rd R.CAN_IRQ_FIFO_OVF m.val = 1) ∧
    (∀ (f : CanFrame) k, k < 32 → s.bit R.CAN_BCFG m.val k = false → ((s.canToBuf m k f).cn m).bufs.toList[k]? = some f ∧
      (s.canToBuf m k f).bit R.CAN_BDONE m.val k = true ∧ (s.canToBuf m k f).rd R.CAN_IRQ_RX_BUF m.val = 1 ∧
      (s.bit R.CAN_BDONE m.val k = true → (s.canToBuf m k f).rd R.CAN_STATUS_BUF_OVR m.val = 1)) ∧
    (∀ sof, (s.cn m).cur = none → exec (.canTxDone m sof) s = .next s) ∧
    (∀ k sof, (s.cn m).cur = some k → k < 32 → ∃ u : State,
      (s.rd R.CAN_CFG_MODE m.val ≠ 1 → exec (.canTxDone m sof) s = .next ((u.canErrState m).canFrameEnd m)) ∧
      (s.rd R.CAN_CFG_MODE m.val = 1 → exec (.canTxDone m sof) s =
        .next (((u.canErrState m).canHear m { s.canOut m k with ts := sof }).canFrameEnd m)) ∧
      u.bit R.CAN_BPEND m.val k = false ∧ u.bit R.CAN_BABORT m.val k = false ∧ u.bit R.CAN_BDONE m.val k = true ∧
      u.rd R.CAN_IRQ_TX_DONE m.val = 1 ∧ u.cn m = { s.cn m with txe := (s.cn m).txe - 1, sent := some (s.canOut m k) } ∧
      OnlyRegs [R.CAN_BPEND.at m.val, R.CAN_BABORT.at m.val, R.CAN_BDONE.at m.val, R.CAN_IRQ_TX_DONE.at m.val] s { u with can := s.can }) ∧
    (∀ sof, (s.cn m).cur = some 32 → s.rd R.CAN_CFG_MODE m.val ≠ 1 → exec (.canTxDone m sof) s = .next (((s.modCan m fun c =>
      { c with sent := some (s.canOut m 32), txq := c.txq.drop 1, txe := c.txe - 1 }).canErrState m).canFrameEnd m)) ∧
    (∀ k, s.rd R.CAN_CFG_FD m.val = 0 → (s.canOut m k).fdf = false ∧ (s.canOut m k).brs = false ∧ (s.canOut m k).esi = false ∧
      (s.canOut m k).data.length ≤ 8) ∧
    (∀ k, (s.canOut m k).fdf = true → (s.canOut m k).rtr = false) ∧
    (∀ e, s.rd R.CAN_CTRL_INIT m.val ≠ 0 → exec (.canError m e) s = .next s) ∧
    (s.rd R.CAN_CTRL_INIT m.val = 0 →
      exec (.canError m 2) s = .next (((s.modCan m fun c => { c with rxe := c.rxe + 1 }).canErrState m).canHeardEnd m).settleAll ∧
      exec (.canError m 3) s = .next (((s.modCan m fun c => { c with rxe := c.rxe + 8 }).canErrState m).canHeardEnd m).settleAll ∧
      exec (.canError m 5) s = .next ((s.modCan m fun c => { c with txe := c.txe + 8 }).canErrState m).settleAll ∧
      ((s.cn m).cur = none ∨ (s.cn m).cur = some 32 →
        exec (.canError m 0) s = .next ((s.canErrState m).canFrameEnd m).settleAll ∧
        exec (.canError m 4) s = .next ((s.canErrState m).canFrameEnd m).settleAll ∧
        exec (.canError m 1) s = .next (((s.modCan m fun c => { c with txe := c.txe + 8 }).canErrState m).canFrameEnd m).settleAll) ∧
      (∀ k, (s.cn m).cur = some k → k < 32 → s.bit R.CAN_BABORT m.val k = true → ∃ u : State, u.bit R.CAN_BPEND m.val k = false ∧
        u.bit R.CAN_BABORT m.val k = false ∧ u.rd R.CAN_STATUS_ABORTED m.val = 1 ∧ u.cn m = { s.cn m with txe := (s.cn m).txe + 8 } ∧
        exec (.canError m 1) s = .next ((u.canErrState m).canFrameEnd m).settleAll)) ∧
    (s.rd R.CAN_STATUS_ESTATE m.val < 2 → (s.cn m).txe ≤ 255 → (s.canErrState m).rd R.CAN_TEC m.val = (s.cn m).txe ∧
      (s.canErrState m).rd R.CAN_REC m.val = min (s.cn m).rxe 255 ∧
      (s.canErrState m).rd R.CAN_STATUS_ESTATE m.val = if 127 < (s.cn m).txe ∨ 127 < (s.cn m).rxe then 1 else 0) ∧
    (s.rd R.CAN_STATUS_ESTATE m.val < 2 → 255 < (s.cn m).txe → ∃ u : State, s.canErrState m = u.condSet (srcCanBusoff m.val) true ∧
      u.rd R.CAN_STATUS_ESTATE m.val = 2 ∧ u.rd R.CAN_STATUS_SYNC m.val = 0 ∧ u.rd R.CAN_IRQ_BUSOFF m.val = 1 ∧ (u.cn m).cur = none) ∧
    (s.rd R.CAN_STATUS_ESTATE m.val ≠ 3 → exec (.canRecoveryDone m) s = .next s) ∧
    (s.rd R.CAN_STATUS_ESTATE m.val = 3 → s.netCan ≠ some m → ∃ u : State, u.rd R.CAN_STATUS_ESTATE m.val = 0 ∧ u.rd R.CAN_TEC m.val = 0 ∧
      u.rd R.CAN_REC m.val = 0 ∧ u.rd R.CAN_STATUS_SYNC m.val = (if s.rd R.CAN_CTRL_INIT m.val = 0 then 1 else 0) ∧
      u.cn m = { s.cn m with txe := 0, rxe := 0 } ∧
      exec (.canRecoveryDone m) s = .next ((u.condSet (srcCanBusoff m.val) false).canNext m).settleAll) ∧
    (s.rd R.CAN_CTRL_INIT m.val = 0 → s.rd R.CAN_STATUS_ESTATE m.val < 2 → ∃ u : State, exec (.canBusIntegrated m) s = .next (u.canNext m) ∧
      u.rd R.CAN_STATUS_SYNC m.val = 1 ∧ u.rd R.CAN_STATUS_TXDTO m.val = 0 ∧
      OnlyRegs [R.CAN_STATUS_SYNC.at m.val, R.CAN_STATUS_TXDTO.at m.val] s u) ∧
    (s.rd R.CAN_CTRL_INIT m.val ≠ 0 ∨ 2 ≤ s.rd R.CAN_STATUS_ESTATE m.val → exec (.canBusIntegrated m) s = .next s) ∧
    (∀ k l, (s.cn m).cur = none → s.canTxOk m = true → (s.cn m).txq = [] → s.canPending m = k :: l → (∀ e ∈ l, k.2.key ≤ e.2.key) →
      ((s.canNext m).cn m).cur = some k.1)

/-- R480 to R482: the claim of an address: RECLAIM starts it, 250 ms without a contest end it, a contender of a lower NAME takes the address,
a request is answered; partners join and leave. -/
def Obligations.AddressClaim : Prop :=
  ∀ (s : State), s.domOn dCan = true →
    (s.netCan = none → exec .reclaim s = .next s.settleAll ∧ ∀ sa name, exec (.addressClaimedReceived sa name) s = .next s) ∧
    (s.netCan ≠ none → exec .reclaim s = .next (s.claimAt (s.rd R.NET_CFG_PREF_SA 0)).settleAll) ∧
    (∀ sa : Nat, sa < 256 → ∃ u : State, u.rd R.NET_STATUS_CLAIM 0 = 1 ∧ u.rd R.NET_OWN_VALID 0 = 0 ∧ u.rd R.NET_OWN_SA 0 = sa ∧ u.net.late = false ∧
      OnlyRegs [R.NET_STATUS_CLAIM.at 0, R.NET_OWN_VALID.at 0, R.NET_OWN_SA.at 0] s { u with net := s.net } ∧
      s.claimAt sa = ((u.condSet srcNetAddrLost false).netDiscard).sendClaim sa) ∧
    (s.netCan = none → s.netDiscard = s) ∧
    (∀ m, s.netCan = some m → s.netDiscards m (s.rd R.CAN_BPEND m.val) = 0 → s.netDiscard = s.used) ∧
    (∀ m d, s.netCan = some m → d = s.netDiscards m (s.rd R.CAN_BPEND m.val) → d ≠ 0 → s.netDiscard.rd R.CAN_IRQ_WR_DENIED m.val = 1 ∧
      (∀ k < 32, s.netDiscard.bit R.CAN_BPEND m.val k = (s.bit R.CAN_BPEND m.val k && !d.testBit k)) ∧
      OnlyRegs [R.CAN_BPEND.at m.val, R.CAN_BABORT.at m.val, R.CAN_IRQ_WR_DENIED.at m.val] s
        { s.netDiscard with can := s.can, free := s.free }) ∧
    (∀ (sa : BitVec 8) name, s.netCan ≠ none → 254 ≤ sa.toNat → (∀ p ∈ s.net.part, p.name ≠ name.toNat) →
      exec (.addressClaimedReceived sa name) s = .next s) ∧
    (∀ (sa : BitVec 8) (name : BitVec 64), s.netCan ≠ none → sa.toNat < 254 → s.net.part = [] → ∃ u : State,
      u.rd R.NET_IRQ_JOINED 0 = 1 ∧ u.net.part = [{ sa := sa.toNat, name := name.toNat, since := s.now }] ∧
      OnlyRegs [R.NET_IRQ_JOINED.at 0] s { u with net := s.net } ∧
      (sa.toNat ≠ s.rd R.NET_OWN_SA 0 ∨ s.rd R.NET_STATUS_CLAIM 0 = 0 ∨ s.rd R.NET_STATUS_CLAIM 0 = 3 →
        exec (.addressClaimedReceived sa name) s = .next u.settleAll) ∧
      (sa.toNat = s.rd R.NET_OWN_SA 0 → s.rd R.NET_STATUS_CLAIM 0 = 1 ∨ s.rd R.NET_STATUS_CLAIM 0 = 2 →
        exec (.addressClaimedReceived sa name) s = .next (u.contested name.toNat).settleAll)) ∧
    (∀ sa : BitVec 8, (s.rd R.NET_CFG_LEAVE_T 0 = 0 ∨ ∀ p ∈ s.net.part, p.sa ≠ sa.toNat) → exec (.partnerLeaveTimeout sa) s = .next s) ∧
    (∀ (sa : BitVec 8) p, s.rd R.NET_CFG_LEAVE_T 0 ≠ 0 → p ∈ s.net.part → p.sa = sa.toNat → ∃ t, exec (.partnerLeaveTimeout sa) s = .next t ∧
      t.rd R.NET_IRQ_LEFT 0 = 1 ∧ t.net.part = s.net.part.filter (fun q => q.sa ≠ sa.toNat) ∧
      OnlyRegs [R.NET_IRQ_LEFT.at 0] s { t with net := s.net }) ∧
    (∀ m : Nat, (s.netName < m → s.contested m = s.sendClaim (s.rd R.NET_OWN_SA 0)) ∧ (s.netName = m → s.contested m = s) ∧
      (m < s.netName → s.netName.testBit 63 = false → ∃ u : State, s.contested m = (u.condSet srcNetAddrLost true).netDiscard ∧
        u.rd R.NET_STATUS_CLAIM 0 = 3 ∧ u.rd R.NET_OWN_VALID 0 = 0 ∧ u.rd R.NET_IRQ_LOST 0 = 1 ∧ u.net.late = true) ∧
      (∀ a, m < s.netName → s.netName.testBit 63 = true → s.freeSa (s.rd R.NET_OWN_SA 0) = some a → s.contested m = s.claimAt a)) ∧
    (∀ a b : Nat, s.freeSa a = some b → 128 ≤ b ∧ b ≤ 247 ∧ b ≠ a ∧ ∀ p ∈ s.net.part, p.sa ≠ b) ∧
    (∀ da : BitVec 8, (da = 255 ∨ da.toNat = s.rd R.NET_OWN_SA 0) → s.netCan ≠ none →
      (s.rd R.NET_STATUS_CLAIM 0 = 2 → exec (.requestAddressClaimed da) s = .next (s.sendClaim (s.rd R.NET_OWN_SA 0))) ∧
      (s.rd R.NET_STATUS_CLAIM 0 = 3 → exec (.requestAddressClaimed da) s = .next { s with net.late := true }) ∧
      (s.rd R.NET_STATUS_CLAIM 0 < 2 → exec (.requestAddressClaimed da) s = .next s)) ∧
    (∀ da : BitVec 8, (da ≠ 255 ∧ da.toNat ≠ s.rd R.NET_OWN_SA 0) ∨ s.netCan = none → exec (.requestAddressClaimed da) s = .next s) ∧
    (s.rd R.NET_STATUS_CLAIM 0 = 1 → ∃ t : State, exec .claimTimeout s = .next t.gwFlush ∧ t.rd R.NET_STATUS_CLAIM 0 = 2 ∧ t.rd R.NET_OWN_VALID 0 = 1 ∧
      t.rd R.NET_IRQ_CLAIMED 0 = 1 ∧ OnlyRegs [R.NET_STATUS_CLAIM.at 0, R.NET_OWN_VALID.at 0, R.NET_IRQ_CLAIMED.at 0] s t) ∧
    (s.rd R.NET_STATUS_CLAIM 0 ≠ 1 → exec .claimTimeout s = .next s) ∧
    (s.net.late = true → s.rd R.NET_STATUS_CLAIM 0 = 3 → exec .cannotClaimDelay s = .next (({ s with net.late := false } : State).sendClaim 254)) ∧
    (s.net.late = false ∨ s.rd R.NET_STATUS_CLAIM 0 ≠ 3 → exec .cannotClaimDelay s = .next s) ∧
    (∀ (m : Fin 2) sa (f : CanFrame), s.netCan = some m →
      f = { fdf := false, brs := false, esi := false, ide := true, rtr := false, id := 6 * 2 ^ 26 + (0xEE00 + 255) * 256 + sa, dlc := 8, ts := 0,
            data := (List.range 8).map (byteOf s.netName) } →
      s.sendClaim sa = s.canSend m f ∧ s.canSend m f =
        (s.used.modCan m fun c => { c with txq := c.txq ++ [f] }).canRepick m (s.anyVal.getLsbD 0))

/-- R483 to R486, R489: transport sessions: a START sends RTS or BAM, an incoming RTS takes the lowest idle session and draws a CTS, data
packets in sequence fill the message, an end, an abort and a timeout close the session. -/
def Obligations.SessionsTransport : Prop :=
  ∀ (s : State), s.domOn dCan = true →
    (∀ sa da d, s.netCan = none → exec (.tpCmReceived sa da d) s = .next s ∧ exec (.tpDtReceived sa da d) s = .next s ∧
      exec (.etpCmReceived sa da d) s = .next s ∧ exec (.etpDtReceived sa da d) s = .next s) ∧
    (∀ (sa da : BitVec 8) d (u : State), s.netCan ≠ none → u = s.partnerSeen sa.toNat →
      (leField d 0 1 = 32 → da = 255 → exec (.tpCmReceived sa da d) s = .next (u.incoming 1 sa.toNat (leField d 5 3) (leField d 1 2))) ∧
      (∀ i, da = 255 → (s.ss i).st = 2 → (s.ss i).kind = 1 → (s.ss i).peer = sa.toNat → (∀ j, j < i → (s.ss j).st ≠ 2) →
        exec (.tpDtReceived sa da d) s = .next (u.gotDt i (leField d 0 1) (d.drop 1))) ∧
      (s.netUp = false ∨ da.toNat ≠ s.rd R.NET_OWN_SA 0 →
        (leField d 0 1 ≠ 32 ∨ da ≠ 255 → exec (.tpCmReceived sa da d) s = .next u) ∧
        (da ≠ 255 → exec (.tpDtReceived sa da d) s = .next u) ∧
        exec (.etpCmReceived sa da d) s = .next u ∧ exec (.etpDtReceived sa da d) s = .next u)) ∧
    (∀ (sa da : BitVec 8) d (u : State) g, s.netUp = true → da.toNat = s.rd R.NET_OWN_SA 0 → u = s.partnerSeen sa.toNat → g = leField d 5 3 →
      (leField d 0 1 = 16 → exec (.tpCmReceived sa da d) s = .next (u.incoming 0 sa.toNat g (leField d 1 2))) ∧
      (∀ i, leField d 0 1 = 17 → u.sessOf sa.toNat true false (some g) = some i →
        exec (.tpCmReceived sa da d) s = .next (u.gotCts i (leField d 1 1) (leField d 2 1))) ∧
      (∀ i, leField d 0 1 = 19 → u.sessOf sa.toNat true false (some g) = some i → exec (.tpCmReceived sa da d) s = .next (u.sessSent i)) ∧
      (∀ i, leField d 0 1 = 255 → u.sessOf sa.toNat true false (some g) = some i →
        exec (.tpCmReceived sa da d) s = .next (u.sessAborted i (leField d 1 1))) ∧
      (∀ i, leField d 0 1 = 255 → u.sessOf sa.toNat true false (some g) = none → u.sessOf sa.toNat false false (some g) = some i →
        exec (.tpCmReceived sa da d) s = .next (u.sessAborted i (leField d 1 1))) ∧
      (∀ i, da ≠ 255 → u.sessOf sa.toNat false false none = some i →
        exec (.tpDtReceived sa da d) s = .next (u.gotDt i (leField d 0 1) (d.drop 1))) ∧
      (leField d 0 1 = 20 → exec (.etpCmReceived sa da d) s = .next (u.incoming 2 sa.toNat g (leField d 1 4))) ∧
      (∀ i, leField d 0 1 = 21 → u.sessOf sa.toNat true true (some g) = some i →
        exec (.etpCmReceived sa da d) s = .next (u.gotCts i (leField d 1 1) (leField d 2 3))) ∧
      (∀ i, leField d 0 1 = 22 → u.sessOf sa.toNat false true (some g) = some i →
        exec (.etpCmReceived sa da d) s =
          .next (u.modSs i fun x => { x with left := leField d 1 1, cts := some (leField d 1 1, leField d 2 3) })) ∧
      (∀ i, leField d 0 1 = 23 → u.sessOf sa.toNat true true (some g) = some i → exec (.etpCmReceived sa da d) s = .next (u.sessSent i)) ∧
      (∀ i n o, u.sessOf sa.toNat false true none = some i → (u.ss i).cts = some (n, o) →
        exec (.etpDtReceived sa da d) s = .next (u.gotDt i (o + leField d 0 1) (d.drop 1)))) ∧
    (∀ peer tx etp g, s.sessOf peer tx etp g = sessions.find? fun i => (s.ss i).running && (s.ss i).tx == tx && (s.ss i).peer == peer &&
      ((s.ss i).kind == 2) == etp && (s.ss i).kind != 1 && (g == none || g == some (s.ss i).pgn)) ∧
    (s.net.gwOut = [] ∨ s.netUp = false ∨ s.idleSess = none → s.gwFlush = s) ∧
    (∀ i sa d, s.netUp = true → s.net.gwOut = [(sa, d)] → s.idleSess = some i → s.gwFlush =
      (({ s with net.gwOut := [] } : State).modSs i fun x => { x with buf := [] }.setBytes 0 d).sessStart i 0 sa 0xEF00 d.length true) ∧
    (∀ i : Ch, s.sel = i →
      (∀ (kind : BitVec 2) da, (s.ss i).st = 0 → s.netUp = true → kind.toNat < 3 → sessLenOk kind.toNat (s.ss i).len = true →
        exec (.sessionStart kind da) s = .next (s.sessStart i kind.toNat da.toNat (s.ss i).pgn (s.ss i).len false) ∧
        ((s.sessStart i kind.toNat da.toNat (s.ss i).pgn (s.ss i).len false).ss i).st = 1 ∧
        ((s.sessStart i kind.toNat da.toNat (s.ss i).pgn (s.ss i).len false).ss i).tx = true) ∧
      (∀ kind da, (s.ss i).st ≠ 0 → exec (.sessionStart kind da) s = .next s) ∧
      (∀ (kind : BitVec 2) (da : BitVec 8), (s.ss i).st = 0 → s.netUp = false ∨ kind = 3 ∨ sessLenOk kind.toNat (s.ss i).len = false →
        ∃ t, exec (.sessionStart kind da) s = .next t ∧ t.ss i = { s.ss i with kind := kind.toNat, da := da.toNat } ∧
          (∀ j, j ≠ i → t.ss j = s.ss j) ∧ OnlyRegs [] s { t with net := s.net }) ∧
      ((s.ss i).kind ≠ 2 ∨ (s.ss i).st < 3 → exec .sessionNext s = .next s) ∧
      (∀ x, x = s.ss i → x.kind = 2 → x.st = 3 → x.base + x.win < x.packets → x.next = x.base + x.win + 1 → x.tx = true → x.cts = none →
        ∃ t, exec .sessionNext s = .next t ∧ t.ss i = { x with
          base := x.base + x.win, win := min 255 (x.packets - x.base - x.win), st := 1 } ∧
          (∀ j, j ≠ i → t.ss j = s.ss j) ∧ OnlyRegs [] s { t with net := s.net }) ∧
      ((s.ss i).st = 3 → (s.ss i).tx = false → (s.ss i).done = (s.ss i).len → ∃ t : State, exec .sessionRelease s = .next t.gwFlush ∧
        t.ss i = { s.ss i with st := 0, gate := false } ∧ (∀ j, j ≠ i → t.ss j = s.ss j) ∧ OnlyRegs [] s { t with net := s.net }) ∧
      ((s.ss i).st ≠ 3 ∨ (s.ss i).tx = true ∨ (s.ss i).done ≠ (s.ss i).len → exec .sessionRelease s = .next s) ∧
      ((s.ss i).running = true → exec .sessionAbort s = .next (s.sessAbort i 2)) ∧
      ((s.ss i).running = false → exec .sessionAbort s = .next s)) ∧
    (∀ i : Ch, ((s.ss i).running = true → exec (.tpTimeout i) s = .next (s.sessAbort i 3)) ∧
      ((s.ss i).running = false → exec (.tpTimeout i) s = .next s) ∧
      ((s.ss i).st = 1 → (s.ss i).kind = 1 → s.netUp = true → (s.ss i).next < (s.ss i).packets → ∃ u : State, u = s.sendDt (s.ss i) (s.ss i).next (s.ss i).next ∧
        exec (.bamPacketTimer i) s = .next (u.modSs i fun x => { x with next := x.next + 1, done := min x.len (7 * x.next) })) ∧
      ((s.ss i).st = 1 → (s.ss i).kind = 1 → s.netUp = true → (s.ss i).packets ≤ (s.ss i).next → ∃ u : State, u = s.sendDt (s.ss i) (s.ss i).next (s.ss i).next ∧
        exec (.bamPacketTimer i) s = .next ((u.modSs i fun x => { x with next := x.next + 1, done := min x.len (7 * x.next) }).sessSent i)) ∧
      ((s.ss i).st ≠ 1 ∨ (s.ss i).kind ≠ 1 ∨ s.netUp = false → exec (.bamPacketTimer i) s = .next s) ∧
      ((s.ss i).st = 3 → (s.ss i).kind = 2 → (s.ss i).tx = false → (s.ss i).done < (s.ss i).len → s.netUp = true →
        exec (.holdCtsTimer i) s = .next (s.sendCts (s.ss i) 0 (s.ss i).next)) ∧
      ((s.ss i).st ≠ 3 ∨ (s.ss i).kind ≠ 2 ∨ (s.ss i).tx = true ∨ (s.ss i).len ≤ (s.ss i).done ∨ s.netUp = false →
        exec (.holdCtsTimer i) s = .next s) ∧
      (∀ r, ∃ u : State, s.sessAborted i r = u.gwFlush ∧ (u.ss i).st = 0 ∧ (u.ss i).abort = r ∧ u.rd R.NET_IRQ_TP_ABORT 0 = 1 ∧
        OnlyRegs [R.NET_IRQ_TP_ABORT.at 0] s { u with net := s.net }) ∧
      (∃ u : State, s.sessSent i = u.gwFlush ∧ (u.ss i).st = 0 ∧ (u.ss i).done = (s.ss i).len ∧
        ((s.ss i).gate = false → u.rd R.NET_IRQ_TP_TX 0 = 1) ∧ OnlyRegs [R.NET_IRQ_TP_TX.at 0] s { u with net := s.net }) ∧
      (∀ n p, (s.ss i).kind = 2 → 0 < n → 1 ≤ p → p + n = (s.ss i).base + (s.ss i).win + 1 → (s.ss i).base + (s.ss i).win ≤ (s.ss i).packets →
        (s.serveCts i n p).rd R.NET_IRQ_TP_NEED 0 = 1 ∧ ((s.serveCts i n p).ss i).next = p + n ∧
        ((s.serveCts i n p).ss i).st = if p + n ≤ (s.ss i).packets then 3 else 1) ∧
      ((s.ss i).kind = 1 → ∀ r, s.sessAbort i r = s.sessAborted i r) ∧
      (∀ k b, 1792 ≤ k → (s.ss i).setByte k b = s.ss i) ∧
      (s.idleSess = some i → ∀ sa pgn len, 1 ≤ len → len ≤ 1785 → ((s.incoming 1 sa pgn len).ss i).st = 2 ∧ ((s.incoming 1 sa pgn len).ss i).peer = sa ∧
        ((s.incoming 1 sa pgn len).ss i).pgn = pgn ∧ ((s.incoming 1 sa pgn len).ss i).len = len ∧ ((s.incoming 1 sa pgn len).ss i).tx = false) ∧
      (∀ p d, p ≠ (s.ss i).next → s.gotDt i p d = s) ∧
      (∀ n p, n = 0 → (s.ss i).st = 1 → ((s.gotCts i n p).ss i).st = 4 ∧ (s.gotCts i n p).regs = s.regs)) ∧
    (∀ i, s.idleSess = some i ↔ (s.ss i).st = 0 ∧ ∀ j, j < i → (s.ss j).st ≠ 0) ∧
    (∀ sa pgn len, (len = 0 ∨ 1785 < len → s.incoming 1 sa pgn len = s) ∧
      (s.idleSess = none → 1 ≤ len → len ≤ 1785 → s.incoming 1 sa pgn len = s.inc R.NET_CNT_IGNORED 0)) ∧
    (∀ kind sa pgn len, kind = 0 ∨ kind = 2 →
      (s.sessOf sa false true none ≠ none ∨ s.sessOf sa false false none ≠ none →
        s.incoming kind sa pgn len = s.sendAbort (kind == 2) sa pgn 1) ∧
      (s.sessOf sa false true none = none → s.sessOf sa false false none = none →
        (sessLenOk kind len = false → s.incoming kind sa pgn len = s.sendAbort (kind == 2) sa pgn 9) ∧
        (sessLenOk kind len = true → s.idleSess = none →
          s.incoming kind sa pgn len = (s.sendAbort (kind == 2) sa pgn 1).inc R.NET_CNT_REFUSED 0)))

/-- R486, R487, R490: the CAN gateway: a request to another key is none, a second copy is discarded, one that the gateway bars is refused, a
fifth one finds it busy, and an invalid one is answered with BAD_REQ; a request of a session frees the session. -/
def Obligations.GatewayServes : Prop :=
  ∀ (s : State) (ecc : List Nat), s.domOn dCan = true →
    (∀ (sa da : BitVec 8) d, da ≠ 0xFF → da.toNat = s.rd R.NET_OWN_SA 0 →
      exec (.gatewayRequest sa da d none ecc) s = .next (s.gateway sa.toNat false d ecc).settleAll) ∧
    (∀ (sa da : BitVec 8) d, da = 0xFF ∨ da.toNat ≠ s.rd R.NET_OWN_SA 0 → exec (.gatewayRequest sa da d none ecc) s = .next s) ∧
    (∀ sa da d i, (s.ss i).gate = true → (s.ss i).st = 3 → (s.ss i).tx = false → ∃ u : State, u.ss i = { s.ss i with st := 0, gate := false } ∧
      u.regs = s.regs ∧ exec (.gatewayRequest sa da d (some i) ecc) s =
        .next (u.gateway (s.ss i).peer true ((List.range (s.ss i).len).map (s.ss i).byte) ecc).gwFlush.settleAll) ∧
    (∀ sa da d i, (s.ss i).gate = false ∨ (s.ss i).st ≠ 3 ∨ (s.ss i).tx = true → exec (.gatewayRequest sa da d (some i) ecc) s = .next s) ∧
    (∀ sa sess d, s.rd R.GW_CFG_EN 0 = 0 ∨ (d.getD 0 0#8).toNat ≠ s.rd R.GW_CFG_KEY 0 → s.gateway sa sess d ecc = s) ∧
    (∀ sa sess d q, s.rd R.GW_CFG_EN 0 ≠ 0 → q ∈ s.net.gw → q.sa = sa → q.hdr.toNat / 2 ^ 16 % 16 = (beWord d 0).toNat / 2 ^ 16 % 16 →
      s.gateway sa sess d ecc = s) ∧
    (∀ sa sess d (u : State), s.rd R.GW_CFG_EN 0 ≠ 0 → (d.getD 0 0#8).toNat = s.rd R.GW_CFG_KEY 0 → s.net.gw = [] →
      (sa < s.rd R.GW_SA_LO 0 ∨ s.rd R.GW_SA_HI 0 < sa ∨ s.netUp = false ∨
        ((gwOp d = 1 ∨ gwOp d = 2) ∧ s.rd R.GW_CFG_WR_EN 0 = 0) → u = (s.inc R.GW_CNT_REFUSED 0).wr R.GW_IRQ_REFUSED 0 1 →
        s.gateway sa sess d ecc = u.gwAnswer sa (beWord d 0) sess 3 []) ∧
      (s.rd R.GW_SA_LO 0 ≤ sa → sa ≤ s.rd R.GW_SA_HI 0 → s.netUp = true → s.rd R.GW_CFG_WR_EN 0 ≠ 0 → u = s.wr R.GW_IRQ_REQ 0 1 →
        (gwPkt s.nodeId d = none → ∃ v : State, s.gateway sa sess d ecc = v.gwAnswer sa (beWord d 0) sess 5 [] ∧
          v.rd R.GW_CNT_DONE 0 = min (s.rd R.GW_CNT_DONE 0 + 1) (R.GW_CNT_DONE.size - 1) ∧ v.rd R.GW_STATUS_HELD 0 = 0) ∧
        (∀ k r (v : State), gwPkt s.nodeId d = some k → k.dst = 0x3FF ∨ s.nodeId = some k.dst → u.gwLocal k ecc = (r, v) →
          s.gateway sa sess d ecc = v.gwDone ⟨sa, beWord d 0, sess, 64⟩ 0 r) ∧
        (∀ k n (v : State), gwPkt s.nodeId d = some k → k.dst ≠ 0x3FF → s.nodeId ≠ some k.dst → s.domOn dLink = true →
          u.request fromLodge 8 .gate k = some (n, v) → v.net.gw = [] → s.gateway sa sess d ecc =
            ({ v with net.gw := [⟨sa, beWord d 0, sess, n⟩] } : State).wr R.GW_STATUS_HELD 0 1))) ∧
    (∀ sa sess d, s.rd R.GW_CFG_EN 0 ≠ 0 → (d.getD 0 0#8).toNat = s.rd R.GW_CFG_KEY 0 → 4 ≤ s.net.gw.length → s.gwBars sa d = false →
      (∀ q ∈ s.net.gw, q.sa ≠ sa) → s.gateway sa sess d ecc =
        ((s.inc R.GW_CNT_REFUSED 0).wr R.GW_IRQ_REFUSED 0 1).gwAnswer sa (beWord d 0) sess 4 [])

/-- R508, R509: the patch commands: data goes to the word of IDX, APPLY starts the verification or fails at once, its end verifies the patch
or names the cause, CLR empties the patch RAM. R48, R51, R105, R301, R316, R346, R529: the pins: an edge of a GPIO pin, a thermal comparator,
the clock of the test access port, the TEST pin. -/
def Obligations.PatchAndPinsAct : Prop :=
  (∀ (s : State),
    (s.otp.patchBusy = true ∨ s.rd R.OTP_PATCH_STAT_STATE 0 = 2 ∨ s.rd R.OTP_PATCH_STAT_STATE 0 = 4 →
      (∀ w, exec (.patchDataWrite w) s = .next s) ∧ exec .patchApply s = .next s) ∧
    (s.otp.patchBusy = false → s.rd R.OTP_PATCH_STAT_STATE 0 ≠ 2 → s.rd R.OTP_PATCH_STAT_STATE 0 ≠ 4 →
      (∀ w i, i = s.rd R.OTP_PATCH_IDX_IDX 0 → ∃ t, exec (.patchDataWrite w) s = .next t ∧ t.memWord (0x380000 + 4 * i) = w ∧
        MemKept (0x380000 + 4 * i) (0x380000 + 4 * i + 4) s t ∧ t.rd R.OTP_PATCH_IDX_IDX 0 = (i + 1) % 8192 ∧
        t.rd R.OTP_PATCH_STAT_STATE 0 = 1 ∧ OnlyRegs [R.OTP_PATCH_IDX_IDX.at 0, R.OTP_PATCH_STAT_STATE.at 0] s { t with mem := s.mem }) ∧
      (s.rd R.OTP_PATCH_LEN_LEN 0 = 0 ∨ 8160 < s.rd R.OTP_PATCH_LEN_LEN 0 → exec .patchApply s = .next (s.patchEnd 1)) ∧
      (0 < s.rd R.OTP_PATCH_LEN_LEN 0 → s.rd R.OTP_PATCH_LEN_LEN 0 ≤ 8160 → 3 ≤ s.region 3 → exec .patchApply s = .next (s.patchEnd 4)) ∧
      (0 < s.rd R.OTP_PATCH_LEN_LEN 0 → s.rd R.OTP_PATCH_LEN_LEN 0 ≤ 8160 → s.region 3 < 3 → exec .patchApply s =
        .next { s with otp.patchBusy := true, otp.patchLen := s.rd R.OTP_PATCH_LEN_LEN 0,
                       otp.patchCrc := s.patchSum (s.rd R.OTP_PATCH_LEN_LEN 0) })) ∧
    (s.otp.patchBusy = false → exec .patchVerifyDone s = .next s) ∧
    (s.otp.patchBusy = true → exec .patchVerifyDone s = .next (s.patchEnd
      (s.signCause (s.memWords 0x387F80 32) (s.memWords 0x380000 s.otp.patchLen)))) ∧
    (∀ blk m, (s.signCause blk m = 0 ↔ s.hashPresent = true ∧ keyHashOk blk s.keyHash = true ∧ signatureOk blk m = true) ∧
      (s.signCause blk m = 2 ↔ s.hashPresent = false ∨ keyHashOk blk s.keyHash = false) ∧ s.signCause blk m ∈ [0, 2, 3]) ∧
    (∀ c : Nat, c < 16 → (s.patchEnd c).rd R.OTP_PATCH_STAT_CAUSE 0 = c ∧ (s.patchEnd c).rd R.OTP_PATCH_STAT_STATE 0 = (if c = 0 then 2 else 3) ∧
      (s.patchEnd c).rd R.OTP_IRQ_PATCH_DONE 0 = 1 ∧ (s.patchEnd c).otp = { s.otp with
        patchBusy := false, patchLen := if c = 0 then s.otp.patchLen else 0 } ∧
      OnlyRegs [R.OTP_PATCH_STAT_CAUSE.at 0, R.OTP_PATCH_STAT_STATE.at 0, R.OTP_IRQ_PATCH_DONE.at 0] s { s.patchEnd c with otp := s.otp }) ∧
    (∃ t, exec .patchClr s = .next t ∧ (∀ i, i < 8192 → t.memWord (0x380000 + 4 * i) = 0#32) ∧ MemKept 0x380000 0x388000 s t ∧
      t.rd R.OTP_PATCH_STAT_STATE 0 = 0 ∧ t.rd R.OTP_PATCH_STAT_CAUSE 0 = 0 ∧ t.otp = { s.otp with patchBusy := false, patchLen := 0 } ∧
      OnlyRegs [R.OTP_PATCH_STAT_STATE.at 0, R.OTP_PATCH_STAT_CAUSE.at 0] s { t with otp := s.otp, mem := s.mem })) ∧
  (∀ (i : Fin 8) (level : Bool) (s : State),
    (s.bit R.GPIO_IN 0 i.val = level → exec (.gpioEdge i level) s = .next s) ∧
    (s.bit R.GPIO_IN 0 i.val ≠ level → ∃ t, exec (.gpioEdge i level) s = .next t ∧ t.bit R.GPIO_IN 0 i.val = level ∧
      (∀ k : Nat, k ≠ i.val → t.bit R.GPIO_IN 0 k = s.bit R.GPIO_IN 0 k) ∧
      (s.coreOn = true → (s.rd R.GPIO_EDGE 0).testBit (2 * i.val + (if level then 0 else 1)) = true → t.bit R.GPIO_IRQ_EDGE 0 i.val = true) ∧
      (s.coreOn = false → t.chan = s.chan) ∧
      (∀ n : Ch, s.coreOn = true → t.ch n = { s.ch n with
        trcHit := (s.ch n).trcHit || (decide (s.rd R.GPIO_FUNC 0 / 16 ^ i.val % 16 = 3) && decide (s.rd R.TRC_TRIG_PIN n.val = i.val) &&
          decide (s.rd R.TRC_TRIG_COND n.val = if level then 0 else 1) && s.chOn n && decide (s.rd R.TRC_TRIG_SRC n.val = 2) &&
          s.on R.TRC_STATUS_ACTIVE n.val)
        homeSeen := (s.ch n).homeSeen || (decide (s.rd R.SPT_HOME_PIN n.val = i.val) && (s.on R.SPT_HOME_LVL n.val == level) &&
          (s.ch n).homeRun && decide (s.rd R.SPT_HOME_EVENT n.val = 2)) }) ∧
      OnlyRegs [R.GPIO_IN.at 0, R.GPIO_IRQ_EDGE.at 0, R.GRV_EVT_PEND.at 0, R.GRV_EVT_PEND.at 1, R.GRV_EVT_PEND.at 2, R.GRV_EVT_PEND.at 3]
        s { t with chan := s.chan })) ∧
  (∀ (k : Fin 6) (trip above : Bool) (s : State),
    (s.coreOn = false → exec (.thermalComparator k trip above) s = .next s) ∧
    (s.coreOn = true → 4 ≤ k.val → exec (.thermalComparator k trip above) s = .next (s.condSet (thermalSource k trip) above).settleAll) ∧
    (∀ n : Ch, n.val = k.val → s.coreOn = true → exec (.thermalComparator k trip above) s =
      .next (if s.chOn n = true then (s.condSet (srcCh n.val (if trip then oTempTrip else oTempWarn)) above).settleAll else s)) ∧
    (∀ q, (s.fr q).cond = false → s.condSet q true = s.raise q 0 ∧ s.condSet q false = s) ∧
  (∀ q, (s.fr q).cond = true → s.condSet q true = s)) ∧
  (∀ (tms tdi : Bool) (pins : BitVec 124) (s : State),
    (∃ t, exec (.testAccessPortClock true tms tdi pins) s = .next t ∧ t.tap.st = tapNext s.tap.st tms ∧
      t.tap.ir = (if tapNext s.tap.st tms = 0 then 1 else s.tap.ir) ∧ t.tap.latch = s.tap.latch ∧ t.tap.tdo = s.tap.tdo ∧
      (s.tap.st = 3 → t.tap.sr = (if s.tap.ir = 0 ∨ s.tap.ir = 2 then pins.toNat else if s.tap.ir = 1 then s.idcode else 0)) ∧
      (s.tap.st = 4 → t.tap.sr = tapShift (tapLen s.tap.ir) s.tap.sr tdi) ∧ (s.tap.st = 10 → t.tap.sr % 4 = 1 ∧ t.tap.sr < 16) ∧
      (s.tap.st = 11 → t.tap.sr = tapShift 4 s.tap.sr tdi) ∧
      (s.tap.st ≠ 3 → s.tap.st ≠ 4 → s.tap.st ≠ 10 → s.tap.st ≠ 11 → t.tap.sr = s.tap.sr) ∧ Settled [] { s with tap := t.tap } t) ∧
    (∃ t, exec (.testAccessPortClock false tms tdi pins) s = .next t ∧ t.tap.st = s.tap.st ∧ t.tap.sr = s.tap.sr ∧
      t.tap.ir = (if s.tap.st = 15 then s.tap.sr % 16 else s.tap.ir) ∧
      t.tap.latch = (if s.tap.st = 8 ∧ (s.tap.ir = 0 ∨ s.tap.ir = 2) then s.tap.sr % 2 ^ 124 else s.tap.latch) ∧
      t.tap.tdo = (if s.tap.st = 4 ∨ s.tap.st = 11 then some (s.tap.sr.testBit 0) else none) ∧ Settled [] { s with tap := t.tap } t)) ∧
  (∀ (b : Bool) (s : State), ∃ t, exec (.testPinChange b) s = .next t ∧ t.rd R.SYS_STATUS_TEST 0 = b.toNat ∧ t.pwr.test = b ∧
    Settled [R.SYS_STATUS_TEST.at 0] { s with pwr.test := b } t)

/-- R49, R51: the identification register; the gate cells of the boundary register only observe, and during EXTEST, CLAMP and HIGHZ, and while
TEST is 1, every channel is in hold-off, so that no clock of the test access port leaves a gate on. -/
def Obligations.BoundaryScanSafe : Prop :=
  ∀ (s : State),
    (s.tap.st = 3 → s.tap.ir = 1 → ∀ tms tdi pins, ∃ t, exec (.testAccessPortClock true tms tdi pins) s = .next t ∧
      (s.hl2880 = false → t.tap.sr = 0x1488074D) ∧ (s.hl2880 = true → t.tap.sr = 0x1288074D) ∧ t.tap.sr / 2 ^ 28 = 1 ∧
      t.tap.sr / 2 ^ 12 % 2 ^ 16 = (if s.hl2880 = true then 0x2880 else 0x4880) ∧ t.tap.sr % 2 ^ 12 = 0x74D ∧ t.tap.sr % 2 = 1) ∧
    (∀ (n : Ch) (p l : Nat), ({ s with tap.latch := l } : State).arb n p = s.arb n p) ∧
    (s.rd R.SYS_STATUS_TEST 0 = 1 ∨ s.tap.ir = 0 ∨ s.tap.ir = 3 ∨ s.tap.ir = 4 → ∀ (n : Ch) (p : Nat), s.holdoff n = true ∧ s.arb n p = 0) ∧
    (∀ r tms tdi pins t, exec (.testAccessPortClock r tms tdi pins) s = .next t →
      t.rd R.SYS_STATUS_TEST 0 = 1 ∨ t.tap.ir = 0 ∨ t.tap.ir = 3 ∨ t.tap.ir = 4 →
      ∀ n : Ch, t.chOn n = true → (t.ch n).prot.gates = 0#6)

/-- R3: on the HL2880 the pages of CH2, CH3, LNK2 and LNK3 and the windows of CH2 and CH3 read 0 and discard writes, for every master. What
the failed access leaves in SYS.BUSERR is R84's. -/
def Obligations.Hl2880PartsAbsent : Prop :=
  ∀ (s : State) (m : Fin 8) (a : BitVec 24) (w : Word) (b : Nat), s.hl2880 = true → b = a.toNat / 4 * 4 →
    (0x6000 ≤ b ∧ b < 0x8000 ∨ 0x1300 ≤ b ∧ b < 0x1500 ∨ 0x120000 ≤ b ∧ b < 0x140000 ∨ 0x160000 ≤ b ∧ b < 0x164000 ∨
      0x170000 ≤ b ∧ b < 0x174000 ∨ 0x220000 ≤ b ∧ b < 0x240000) →
    (s.busRead m.val a.toNat).1 = 0#32 ∧
    OnlyRegs [R.SYS_BUSERR_VALID.at 0, R.SYS_BUSERR_KIND.at 0, R.SYS_BUSERR_MASTER.at 0, R.SYS_BUSERR_ADDR.at 0, R.SYS_IRQ_BUSERR.at 0]
      s (s.busRead m.val a.toNat).2 ∧
    ∃ t, exec (.registerWrite m a w) s = .next t ∧
      OnlyRegs [R.SYS_BUSERR_VALID.at 0, R.SYS_BUSERR_KIND.at 0, R.SYS_BUSERR_MASTER.at 0, R.SYS_BUSERR_ADDR.at 0, R.SYS_IRQ_BUSERR.at 0] s t

/-- R20, R21: the gate arbiter: the hold-off first, then off before on among the sources from SAFE_REQn to limp mode, else the generator;
the interlock turns both switches of a leg off that are asked for at once, leaves on what is asked for and on, and turns a switch on no
earlier than the dead time in force after its complementary switch was commanded off. -/
def Obligations.GateArbiter : Prop :=
  (∀ (s : State) (n : Ch) (p : Nat) (k : Fin 6),
    (s.holdoff n = true → (s.arb n p).getLsbD k.val = false) ∧
    (s.holdoff n = false → (s.asks n).off.getLsbD k.val = true → (s.arb n p).getLsbD k.val = false) ∧
    (s.holdoff n = false → (s.asks n).off.getLsbD k.val = false → (s.asks n).on.getLsbD k.val = true → (s.arb n p).getLsbD k.val = true) ∧
    (s.holdoff n = false → (s.asks n).off.getLsbD k.val = false → (s.asks n).on.getLsbD k.val = false →
      (s.arb n p).getLsbD k.val = (s.genCmd n p).getLsbD k.val)) ∧
  (∀ (s : State) (n : Ch) (k : Fin 6) (a g o : Sw), a = s.arb n (s.ch n).car.pos → g = (s.ch n).prot.gates → o = s.gateOut n →
    (o.getLsbD k.val = true ↔ a.getLsbD k.val = true ∧ a.getLsbD (opposite k).val = false ∧
      (g.getLsbD k.val = true ∨ s.deadOver n k = true)) ∧
    (s.deadOver n k = true ↔ g.getLsbD (opposite k).val = false ∧ (s.ch n).prot.swAt[(opposite k).val] +
      s.deadCounts (if k.val < 3 then R.PWM_DTIME_RISE else R.PWM_DTIME_FALL) n ≤ s.now) ∧
    (opposite k).val = (k.val + 3) % 6 ∧ ((s.takeGates n).ch n).prot.gates = o) ∧
  (∀ (s : State) (n : Ch), conflict (s.arb n (s.ch n).car.pos) ≠ 0 →
    s.settle n = ((s.takeGates n).raise (srcCh n.val oGateConflict) 0).forCh fun m u => u.takeGates m)

/-- R20, R53, R73, R85, R98, R396, R399, R439: what reset leaves: every register word its reset value, the gates and the jobs off, the cause
of a power-on, the link credits, drop in every route entry; nothing is on a queue. The values that the spec does not give (log 16) are not
claimed. -/
def Obligations.ResetLeaves : Prop :=
  State.reset.pending = [] ∧ State.reset.inq = [] ∧ State.reset.Canon ∧
  (∀ a, State.reset.word a = regReset a) ∧
  State.reset.word 0x30 = 1#32 ∧
  (∀ n : Ch, (State.reset.ch n).prot.gates = 0#6 ∧ legsSafe (State.reset.ch n).prot.gates ∧ State.reset.chOn n = false ∧
    State.reset.chState n = .off ∧ State.reset.holdoff n = true ∧ State.reset.core n = 0) ∧
  (∀ k : Fin 16, (State.reset.job k).st = .idle) ∧
  (∀ q, (State.reset.fr q).cond = false) ∧
  (∀ p : Ch, (State.reset.lp p).cum = ⟨#[32, 64, 128, 64], rfl⟩ ∧ (State.reset.lp p).sent = Vector.replicate 4 0 ∧
    (State.reset.lp p).replay = [] ∧ (State.reset.lp p).fresh = true) ∧
  (∀ d, d < 0x400 → State.reset.memWord (0x340000 + 4 * d) = 5#32) ∧
  State.reset.tap.ir = 1

/-- Every command answers a next state, in every state: no fault and no refusal. It leaves the queue, the model's clock and the part as they
are, and a fuse that is blown stays blown (R491). -/
def Obligations.EveryCommandAnswers : Prop :=
  ∀ (c : Instr) (s : State), ∃ t, exec c s = .next t ∧ t.pending = s.pending ∧ t.now = s.now ∧ t.hl2880 = s.hl2880 ∧
    ∀ k, s.fuse k &&& ~~~ t.fuse k = 0#32

/-- Every step keeps the canonical form of the registers and of the memory windows. -/
def Obligations.StepKeepsCanon : Prop :=
  ∀ (s t : State), s.Canon → step s = .next t → t.Canon

/-- R21: no step turns on both switches of a leg of any channel: where every leg of every channel is safe, it is so after a step. -/
def Obligations.GatesNeverBothOn : Prop :=
  ∀ (s t : State), (∀ n, legsSafe (s.ch n).prot.gates) → step s = .next t → ∀ n, legsSafe (t.ch n).prot.gates

/-- R4, R28: while PD_LINK is off there are no ports and no fabric, and a port that the part does not have is not there; while PD_CAN is off there
is no CAN. What reaches them has no effect, but for what lies in CORE: the ROUTE counters, the route table and the cache of devices (R96). -/
def Obligations.UnpoweredUnitsIdle : Prop :=
  (∀ (p : Ch) (s : State), ¬ s.portUp p → ∀ b c pos cap pid w ws cv m (v : Fin 4),
      exec (.lnkEn p b) s = .next s ∧ exec (.lnkRetrain p) s = .next s ∧ exec (.lnkCntClr p) s = .next s ∧ exec (.signalDetect p) s = .next s ∧
      exec (.detectComplete p) s = .next s ∧ exec (.trainDwellTimeout p) s = .next s ∧ exec (.configTimeout p) s = .next s ∧
      exec (.signalLoss p) s = .next s ∧ exec (.tra1Received p cap pid) s = .next s ∧ exec (.tra2Received p cap pid b) s = .next s ∧
      exec (.codeError p pos cv b c) s = .next s ∧ exec (.packetReceived p b c w ws pos) s = .next s ∧ exec (.ackReceived p w pos) s = .next s ∧
      exec (.nakReceived p w pos) s = .next s ∧ exec (.crdReceived p w pos) s = .next s ∧ exec (.ackTransmit p) s = .next s ∧
      exec (.nakTransmit p) s = .next s ∧ exec (.creditUpdate p v) s = .next s ∧ exec (.replayTimeout p) s = .next s ∧
      exec (.packetTransmitStart p) s = .next s ∧ exec (.bertSyncLoss p m) s = .next s ∧ exec (.bertCheckerSynchronised p) s = .next s) ∧
  (∀ (s : State), s.domOn dLink = false → ∀ ecc (t : Fin 64) d w,
      exec (.rdRequest ecc) s = .next s ∧ exec .wrRequest s = .next s ∧ exec .msgRequest s = .next s ∧ exec .jobRequest s = .next s ∧
      exec .faultRecord s = .next s ∧ exec .linkUpRecord s = .next s ∧ exec .linkDownRecord s = .next s ∧ exec .beacon s = .next s ∧
      exec .tsyncQuery s = .next s ∧ exec .tsyncSet s = .next s ∧ exec .haltPacketAssert s = .next s ∧ exec .haltPacketRelease s = .next s ∧
      exec .transactionResponse s = .next s ∧ exec (.transactionTimeout t) s = .next s ∧ exec (.tagQuarantineEnd t) s = .next s ∧
      exec .txnGo s = .next s ∧ exec .hrxPop s = .next s ∧ exec .txnCntClr s = .next s ∧
      exec .forget s = .next s.forget ∧ exec (.routeTableWrite d w) s = .next (s.routeWrite d.toNat w.toNat) ∧ exec (.nodeIdWrite w) s = .next s ∧ exec .beaconTimer s = .next s ∧
      exec .rootRecordExpiry s = .next s ∧ exec .electionTimeout s = .next s ∧ exec .enumerationStart s = .next s ∧
      ∃ u, exec .fabCntClr s = .next u ∧ u.rd R.ROUTE_NOROUTE_TX 0 = 0 ∧ u.rd R.ROUTE_DROPPED 0 = 0 ∧ u.rd R.ROUTE_FWD01_FWDH 0 = 0 ∧
        u.rd R.ROUTE_FWD01_FWDL 0 = 0 ∧ u.rd R.ROUTE_FWD23_FWDH 0 = 0 ∧ u.rd R.ROUTE_FWD23_FWDL 0 = 0 ∧ OnlyRegs [R.ROUTE_NOROUTE_TX.at 0,
          R.ROUTE_DROPPED.at 0, R.ROUTE_FWD01_FWDH.at 0, R.ROUTE_FWD01_FWDL.at 0, R.ROUTE_FWD23_FWDH.at 0, R.ROUTE_FWD23_FWDL.at 0] s u) ∧
  (∀ (s : State), s.domOn dCan = false → ∀ (m : Fin 2) (c : Ch) b w k l r sa da d name e hdr dlc sof ecc b2,
      exec (.canInitWrite m b b2) s = .next s ∧ exec (.canRecover m) s = .next s ∧ exec (.canFifoPop m) s = .next s ∧
      exec (.canBpend m w b) s = .next s ∧ exec (.canBabort m w b) s = .next s ∧ exec (.canFilterApply m w) s = .next s ∧
      exec (.canFrameReceived m hdr dlc b d sof b b2) s = .next s ∧ exec (.canTxDone m sof) s = .next s ∧ exec (.canError m e) s = .next s ∧
      exec (.canRecoveryStart m) s = .next s ∧ exec (.canRecoveryDone m) s = .next s ∧ exec (.canBusIntegrated m) s = .next s ∧
      exec .canDominantTimeout s = .next s ∧ exec .reclaim s = .next s ∧ exec (.addressClaimedReceived sa name) s = .next s ∧
      exec (.requestAddressClaimed da) s = .next s ∧ exec .claimTimeout s = .next s ∧ exec .cannotClaimDelay s = .next s ∧
      exec (.partnerLeaveTimeout sa) s = .next s ∧ exec (.tpCmReceived sa da d) s = .next s ∧ exec (.tpDtReceived sa da d) s = .next s ∧
      exec (.etpCmReceived sa da d) s = .next s ∧ exec (.etpDtReceived sa da d) s = .next s ∧ exec (.sessionStart k da) s = .next s ∧
      exec .sessionNext s = .next s ∧ exec .sessionRelease s = .next s ∧ exec .sessionAbort s = .next s ∧ exec (.tpTimeout c) s = .next s ∧
      exec (.bamPacketTimer c) s = .next s ∧ exec (.holdCtsTimer c) s = .next s ∧ exec (.gatewayRequest sa da l r ecc) s = .next s)
end

