-- ==== Sys2Proof/Laws/Store.lean ====
section
/-! SUPPORT. The sparse contents: read after write, and that every operation keeps the canonical form. -/

namespace Sys2Proof.Machine

variable {β : Type}

theorem mapGet_mapErase (d : Nat → β) (m : List (Nat × β)) (k j : Nat) :
    mapGet d (mapErase m k) j = if k = j then d j else mapGet d m j := by
  induction m with
  | nil => simp [mapErase, mapGet]
  | cons e m ih =>
    obtain ⟨a, v⟩ := e
    by_cases h : a = k
    · by_cases hj : k = j <;> simp_all [mapErase, mapGet]
    · by_cases hj : k = j
      · subst hj; simp_all [mapErase, mapGet]
      · simp_all [mapErase, mapGet]

theorem mapGet_mapInsert (d : Nat → β) (m : List (Nat × β)) (k j : Nat) (v : β) (h : mapGet d m k = d k ∨ k ≠ j) (hk : ∀ e ∈ m, e.1 ≠ k) :
    mapGet d (mapInsert m k v) j = if k = j then v else mapGet d m j := by
  induction m with
  | nil => simp [mapInsert, mapGet]
  | cons e m ih =>
    obtain ⟨a, w⟩ := e
    have ha : a ≠ k := hk (a, w) (by simp)
    have hm : ∀ e ∈ m, e.1 ≠ k := fun e he => hk e (by simp [he])
    unfold mapInsert
    split
    · simp [mapGet]
    · by_cases hj : k = j
      · subst hj
        have := ih (by simp_all [mapGet]) hm
        simp_all [mapGet]
      · have := ih (by simp [hj]) hm
        simp_all [mapGet]

theorem not_mem_mapErase (m : List (Nat × β)) (k : Nat) : ∀ e ∈ mapErase m k, e.1 ≠ k := by
  induction m with
  | nil => simp [mapErase]
  | cons e m ih =>
    obtain ⟨a, v⟩ := e
    by_cases h : a = k
    · simpa [mapErase, h] using ih
    · simp [mapErase, h]
      exact fun a b he => ih (a, b) he

/-- Read after write. -/
theorem mapGet_mapPut [DecidableEq β] (d : Nat → β) (m : List (Nat × β)) (k j : Nat) (v : β) :
    mapGet d (mapPut d m k v) j = if k = j then v else mapGet d m j := by
  unfold mapPut
  split
  · rename_i h; rw [mapGet_mapErase]; by_cases hj : k = j <;> simp_all
  · rw [mapGet_mapInsert _ _ _ _ _ (by simp [mapGet_mapErase]) (not_mem_mapErase m k), mapGet_mapErase]
    by_cases hj : k = j <;> simp_all

/-! ### The canonical form -/

theorem mapWf_mono [DecidableEq β] (d : Nat → β) (m : List (Nat × β)) (lo lo' : Nat) (h : lo' ≤ lo) (hm : mapWf d lo m = true) : mapWf d lo' m = true := by
  cases m with
  | nil => rfl
  | cons e m => obtain ⟨a, v⟩ := e; simp_all [mapWf]; omega

theorem mapWf_lt [DecidableEq β] (d : Nat → β) (m : List (Nat × β)) (lo : Nat) (hm : mapWf d lo m = true) : ∀ e ∈ m, lo ≤ e.1 := by
  induction m generalizing lo with
  | nil => simp
  | cons e m ih =>
    obtain ⟨a, v⟩ := e
    simp only [mapWf, Bool.and_eq_true, decide_eq_true_eq] at hm
    intro e he
    rcases List.mem_cons.1 he with h | h
    · subst h; exact hm.1.1
    · have := ih _ hm.2 e h; omega

theorem mapErase_wf [DecidableEq β] (d : Nat → β) (m : List (Nat × β)) (lo k : Nat) (hm : mapWf d lo m = true) : mapWf d lo (mapErase m k) = true := by
  induction m generalizing lo with
  | nil => rfl
  | cons e m ih =>
    obtain ⟨a, v⟩ := e
    simp only [mapWf, Bool.and_eq_true, decide_eq_true_eq] at hm
    unfold mapErase
    split
    · exact mapWf_mono d _ _ _ (by omega) (ih _ hm.2)
    · simp only [mapWf, Bool.and_eq_true, decide_eq_true_eq]; exact ⟨hm.1, ih _ hm.2⟩

theorem mapInsert_wf [DecidableEq β] (d : Nat → β) (m : List (Nat × β)) (lo k : Nat) (v : β) (hv : v ≠ d k) (hk : ∀ e ∈ m, e.1 ≠ k) (hlo : lo ≤ k)
    (hm : mapWf d lo m = true) : mapWf d lo (mapInsert m k v) = true := by
  induction m generalizing lo with
  | nil => simp [mapInsert, mapWf, hv, hlo]
  | cons e m ih =>
    obtain ⟨a, w⟩ := e
    have ha : a ≠ k := hk (a, w) (by simp)
    simp only [mapWf, Bool.and_eq_true, decide_eq_true_eq] at hm
    unfold mapInsert
    split
    · simp only [mapWf, Bool.and_eq_true, decide_eq_true_eq]
      exact ⟨⟨hlo, hv⟩, ⟨by omega, hm.1.2⟩, hm.2⟩
    · simp only [mapWf, Bool.and_eq_true, decide_eq_true_eq]
      exact ⟨hm.1, ih _ (fun e he => hk e (by simp [he])) (by omega) hm.2⟩

/-- A write keeps the canonical form. -/
theorem mapPut_wf [DecidableEq β] (d : Nat → β) (m : List (Nat × β)) (k : Nat) (v : β) (hm : mapWf d 0 m = true) : mapWf d 0 (mapPut d m k v) = true := by
  unfold mapPut
  split
  · exact mapErase_wf d m 0 k hm
  · rename_i h; exact mapInsert_wf d _ 0 k v h (not_mem_mapErase m k) (Nat.zero_le k) (mapErase_wf d m 0 k hm)

/-- Taking entries out keeps the canonical form. -/
theorem mapFilter_wf [DecidableEq β] (d : Nat → β) (m : List (Nat × β)) (lo : Nat) (p : Nat × β → Bool) (hm : mapWf d lo m = true) :
    mapWf d lo (m.filter p) = true := by
  induction m generalizing lo with
  | nil => rfl
  | cons e m ih =>
    obtain ⟨a, v⟩ := e
    simp only [mapWf, Bool.and_eq_true, decide_eq_true_eq] at hm
    by_cases hp : p (a, v) = true
    · rw [List.filter_cons_of_pos hp]
      simp only [mapWf, Bool.and_eq_true, decide_eq_true_eq]; exact ⟨hm.1, ih _ hm.2⟩
    · rw [List.filter_cons_of_neg hp]; exact mapWf_mono d _ _ _ (by omega) (ih _ hm.2)

theorem mapClear_wf [DecidableEq β] (d : Nat → β) (m : List (Nat × β)) (p : Nat → Bool) (hm : mapWf d 0 m = true) : mapWf d 0 (mapClear m p) = true :=
  mapFilter_wf d m 0 _ hm

theorem mapGet_mapClear (d : Nat → β) (m : List (Nat × β)) (p : Nat → Bool) (k : Nat) :
    mapGet d (mapClear m p) k = if p k then d k else mapGet d m k := by
  induction m with
  | nil => simp [mapClear, mapGet]
  | cons e m ih =>
    obtain ⟨a, v⟩ := e
    unfold mapClear at *
    by_cases hp : p a = true
    · rw [List.filter_cons_of_neg (by simp [hp]), ih]
      by_cases h : a = k
      · subst h; simp [hp]
      · simp [mapGet, h]
    · rw [List.filter_cons_of_pos (by simpa using hp)]
      by_cases h : a = k
      · subst h; simp [mapGet, hp]
      · simp [mapGet, h, ih]

/-! ### Memory windows -/

theorem State.byte_setByte (s : State) (a b : Nat) (v : BitVec 8) : (s.setByte a v).byte b = if a = b then v else s.byte b := by
  simp only [State.byte, State.setByte, mapGet_mapPut]

/-- A byte written keeps the memory's canonical form. -/
theorem State.setByte_wf (s : State) (a : Nat) (v : BitVec 8) (h : Memory.wf s.mem = true) : Memory.wf (s.setByte a v).mem = true :=
  mapPut_wf memReset s.mem a v h

/-- A word written keeps the memory's canonical form. -/
theorem State.setMemWord_wf (s : State) (a : Nat) (w : Word) (h : Memory.wf s.mem = true) : Memory.wf (s.setMemWord a w).mem = true :=
  State.setByte_wf _ _ _ (State.setByte_wf _ _ _ (State.setByte_wf _ _ _ (State.setByte_wf _ _ _ h)))

/-- Words written keep the memory's canonical form. -/
theorem State.setMemWords_wf (s : State) (a : Nat) (l : List Word) (h : Memory.wf s.mem = true) : Memory.wf (s.setMemWords a l).mem = true := by
  induction l generalizing s a with
  | nil => exact h
  | cons w l ih => exact ih _ _ (State.setMemWord_wf s a w h)

/-- Bytes cleared keep the memory's canonical form. -/
theorem State.clearMem_wf (s : State) (lo hi : Nat) (h : Memory.wf s.mem = true) : Memory.wf (s.clearMem lo hi).mem = true :=
  mapClear_wf memReset s.mem (fun a => decide (lo ≤ a) && decide (a < hi)) h

/-- The memory right after reset has the canonical form. -/
theorem State.reset_mem_wf : Memory.wf State.reset.mem = true := rfl

/-- Bytes outside a written word are unchanged. -/
theorem State.byte_setMemWord_ne (s : State) (a b : Nat) (w : Word) (h : b < a ∨ a + 4 ≤ b) : (s.setMemWord a w).byte b = s.byte b := by
  simp only [State.setMemWord, State.byte_setByte]
  rw [if_neg (by omega), if_neg (by omega), if_neg (by omega), if_neg (by omega)]

/-- The four bytes of a word make the word. -/
theorem word_bytes (w : Word) : w.extractLsb' 24 8 ++ w.extractLsb' 16 8 ++ w.extractLsb' 8 8 ++ w.extractLsb' 0 8 = w := by
  apply BitVec.eq_of_getLsbD_eq
  intro i hi
  simp only [BitVec.getLsbD_append, BitVec.getLsbD_extractLsb']
  have g (k j : Nat) (h : j < 8) (e : k + j = i) : (decide (j < 8) && w.getLsbD (k + j)) = w.getLsbD i := by simp [h, e]
  split
  · exact g 0 i (by omega) (by omega)
  · split
    · exact g 8 (i - 8) (by omega) (by omega)
    · split
      · exact g 16 (i - 8 - 8) (by omega) (by omega)
      · exact g 24 (i - 8 - 8 - 8) (by omega) (by omega)

/-- A word reads back as written. -/
theorem State.memWord_setMemWord (s : State) (a : Nat) (w : Word) : (s.setMemWord a w).memWord a = w := by
  have h : (s.setMemWord a w).memWord a = w.extractLsb' 24 8 ++ w.extractLsb' 16 8 ++ w.extractLsb' 8 8 ++ w.extractLsb' 0 8 := by
    simp [State.memWord, State.setMemWord, State.byte_setByte]
  rw [h, word_bytes]

/-- Another word is unchanged. -/
theorem State.memWord_setMemWord_ne (s : State) (a b : Nat) (w : Word) (h : a + 4 ≤ b ∨ b + 4 ≤ a) :
    (s.setMemWord a w).memWord b = s.memWord b := by
  unfold State.memWord
  rw [byte_setMemWord_ne _ _ _ _ (by omega), byte_setMemWord_ne _ _ _ _ (by omega), byte_setMemWord_ne _ _ _ _ (by omega),
    byte_setMemWord_ne _ _ _ _ (by omega)]

end Sys2Proof.Machine
end

