-- ==== Sys2Proof/Laws/Reg.lean ====
section
/-! SUPPORT. Register fields: what a field reads after a field is written. -/

namespace Sys2Proof.Machine

/-- The field lies within its word. -/
abbrev Fld.ok (f : Fld) : Prop := f.lo ≤ f.hi ∧ f.hi < 32

theorem Fld.getLsbD_mask (f : Fld) (h : f.ok) (i : Nat) : f.mask.getLsbD i = (decide (f.lo ≤ i) && decide (i ≤ f.hi)) := by
  obtain ⟨h1, h2⟩ := h
  simp only [Fld.mask, Fld.size, BitVec.getLsbD_ofNat, Nat.testBit_shiftLeft, Nat.testBit_two_pow_sub_one]
  by_cases a : f.lo ≤ i
  · have e : (i - f.lo < f.hi + 1 - f.lo) ↔ i ≤ f.hi := by omega
    by_cases b : i ≤ f.hi
    · have : i < 32 := by omega
      simp [a, b, this, e]
    · simp [a, b, e]
  · simp [a]

theorem Fld.testBit_get (f : Fld) (w : Word) (i : Nat) : (f.get w).testBit i = (decide (i < f.hi + 1 - f.lo) && w.getLsbD (f.lo + i)) := by
  simp only [Fld.get, Fld.size, Nat.testBit_mod_two_pow, Nat.testBit_shiftRight, BitVec.testBit_toNat]

theorem Fld.getLsbD_put (f : Fld) (h : f.ok) (w : Word) (v i : Nat) (hi : i < 32) :
    (f.put w v).getLsbD i = if f.lo ≤ i ∧ i ≤ f.hi then v.testBit (i - f.lo) else w.getLsbD i := by
  simp only [Fld.put, BitVec.getLsbD_or, BitVec.getLsbD_and, BitVec.getLsbD_not, f.getLsbD_mask h, BitVec.getLsbD_ofNat,
    Nat.testBit_shiftLeft, Fld.size, Nat.testBit_mod_two_pow, hi]
  by_cases a : f.lo ≤ i
  · have e : (i - f.lo < f.hi + 1 - f.lo) ↔ i ≤ f.hi := by obtain ⟨h1, h2⟩ := h; omega
    by_cases b : i ≤ f.hi <;> simp [a, b, e]
  · simp [a]

/-- A field reads back as written, modulo its width. -/
theorem Fld.get_put (f : Fld) (h : f.ok) (w : Word) (v : Nat) : f.get (f.put w v) = v % f.size := by
  apply Nat.eq_of_testBit_eq
  intro i
  rw [Fld.testBit_get, Fld.size, Nat.testBit_mod_two_pow]
  by_cases a : i < f.hi + 1 - f.lo
  · obtain ⟨h1, h2⟩ := h
    rw [f.getLsbD_put ⟨h1, h2⟩ _ _ _ (by omega), if_pos ⟨by omega, by omega⟩]
    simp [a]
  · simp [a]

/-- Another field of the word is unchanged. -/
theorem Fld.get_put_ne (f g : Fld) (hf : f.ok) (hg : g.ok) (w : Word) (v : Nat) (h : f.hi < g.lo ∨ g.hi < f.lo) :
    g.get (f.put w v) = g.get w := by
  apply Nat.eq_of_testBit_eq
  intro i
  rw [Fld.testBit_get, Fld.testBit_get]
  by_cases a : i < g.hi + 1 - g.lo
  · obtain ⟨h1, h2⟩ := hg
    rw [f.getLsbD_put hf _ _ _ (by omega), if_neg (by omega)]
  · simp [a]

/-- A field's value is below its size. -/
theorem Fld.get_lt (f : Fld) (w : Word) : f.get w < f.size := Nat.mod_lt _ (Nat.pow_pos (by decide))

/-! ### Words -/

theorem State.word_setWord (s : State) (a b : Nat) (w : Word) : (s.setWord a w).word b = if a = b then w else s.word b := by
  simp only [State.word, State.setWord, mapGet_mapPut]

@[simp] theorem State.word_setWord_self (s : State) (a : Nat) (w : Word) : (s.setWord a w).word a = w := by simp [State.word_setWord]

theorem State.word_setWord_ne (s : State) (a b : Nat) (w : Word) (h : a ≠ b) : (s.setWord a w).word b = s.word b := by
  simp [State.word_setWord, h]

theorem State.word_wr (s : State) (f : Fld) (i v a : Nat) :
    (s.wr f i v).word a = if f.addr i = a then f.put (s.word a) v else s.word a := by
  rw [State.wr, State.word_setWord]; split <;> simp_all

/-- Two fields do not overlap, each in its instance. -/
abbrev Fld.apart (f : Fld) (i : Nat) (g : Fld) (j : Nat) : Prop := f.addr i ≠ g.addr j ∨ f.hi < g.lo ∨ g.hi < f.lo

/-- A field reads back as written. -/
theorem State.rd_wr (s : State) (f : Fld) (i v : Nat) (h : f.ok) : (s.wr f i v).rd f i = v % f.size := by
  rw [State.rd, State.word_wr, if_pos rfl, Fld.get_put f h]

/-- A field that does not overlap the one written is unchanged. -/
theorem State.rd_wr_ne (s : State) (f g : Fld) (i j v : Nat) (hf : f.ok) (hg : g.ok) (h : f.apart i g j) : (s.wr f i v).rd g j = s.rd g j := by
  rw [State.rd, State.word_wr, State.rd]
  split
  · rcases h with h | h
    · exact absurd ‹_› h
    · rw [Fld.get_put_ne f g hf hg _ _ h]
  · rfl

/-- Two fields that never overlap within one instance. -/
def Fld.sep (f g : Fld) : Bool :=
  decide (f.lo ≤ f.hi) && decide (f.hi < 32) && decide (g.lo ≤ g.hi) && decide (g.hi < 32) &&
    (decide (f.hi < g.lo) || decide (g.hi < f.lo) ||
      decide (f.off < 256) && decide (g.off < 256) && (f.off != g.off || f.page != g.page))

theorem Fld.apart_of_sep {f g : Fld} (h : f.sep g = true) (i : Nat) : f.ok ∧ g.ok ∧ f.apart i g i := by
  simp only [Fld.sep, Bool.and_eq_true, Bool.or_eq_true, decide_eq_true_eq, bne_iff_ne] at h
  obtain ⟨⟨⟨⟨h1, h2⟩, h3⟩, h4⟩, h5⟩ := h
  refine ⟨⟨h1, h2⟩, ⟨h3, h4⟩, ?_⟩
  rcases h5 with (h5 | h5) | ⟨⟨h5, h6⟩, h7⟩
  · exact Or.inr (Or.inl h5)
  · exact Or.inr (Or.inr h5)
  · refine Or.inl fun e => ?_
    simp only [Fld.addr, pageOf] at e
    rcases h7 with h7 | h7 <;> split at e <;> split at e <;> omega

/-- A field of the same instance that does not overlap the one written is unchanged. -/
theorem State.rd_wr_sep (s : State) (f g : Fld) (i v : Nat) (h : f.sep g = true) : (s.wr f i v).rd g i = s.rd g i :=
  s.rd_wr_ne f g i i v (Fld.apart_of_sep h i).1 (Fld.apart_of_sep h i).2.1 (Fld.apart_of_sep h i).2.2

/-- Writing a word keeps the registers' canonical form. -/
theorem State.setWord_wf (s : State) (a : Nat) (w : Word) (h : Registers.wf s.regs = true) : Registers.wf (s.setWord a w).regs = true :=
  mapPut_wf regReset s.regs a w h

theorem State.wr_wf (s : State) (f : Fld) (i v : Nat) (h : Registers.wf s.regs = true) : Registers.wf (s.wr f i v).regs = true :=
  s.setWord_wf _ _ h

theorem State.wrs_wf (s : State) (i : Nat) (l : List (Fld × Nat)) (h : Registers.wf s.regs = true) : Registers.wf (s.wrs i l).regs = true := by
  induction l generalizing s with
  | nil => exact h
  | cons e l ih => exact ih _ (s.wr_wf e.1 i e.2 h)

/-- The registers right after reset have the canonical form. -/
theorem State.reset_regs_wf : Registers.wf State.reset.regs = true := rfl

end Sys2Proof.Machine
end

