-- ==== Sys2Proof/Laws/Frame.lean ====
section
/-! SUPPORT. Frames of register writes: what `RegsKept`, `OnlyRegs` and `Settled` say of one field, and that they compose. -/

namespace Sys2Proof.Machine

/-! ### Masks -/

theorem maskAt_nil (a : Nat) : maskAt [] a = 0#32 := rfl

theorem maskAt_cons (e : Nat × Word) (l : List (Nat × Word)) (a : Nat) :
    maskAt (e :: l) a = if e.1 = a then e.2 ||| maskAt l a else maskAt l a := rfl

theorem maskAt_append (l m : List (Nat × Word)) (a : Nat) : maskAt (l ++ m) a = maskAt l a ||| maskAt m a := by
  induction l with
  | nil => simp [maskAt_nil]
  | cons e l ih => rw [List.cons_append, maskAt_cons, maskAt_cons, ih]; split <;> simp [BitVec.or_assoc]

theorem maskAt_mem {e : Nat × Word} {l : List (Nat × Word)} (h : e ∈ l) : e.2 &&& ~~~ maskAt l e.1 = 0#32 := by
  induction l with
  | nil => cases h
  | cons x l ih =>
    rw [maskAt_cons]
    rcases List.mem_cons.1 h with rfl | h
    · rw [if_pos rfl]; ext i; simp +contextual
    · have := ih h
      split
      · ext i hi
        have := congrArg (·.getLsbD i) this
        simp only [← BitVec.getLsbD_eq_getElem, BitVec.getLsbD_and, BitVec.getLsbD_not, BitVec.getLsbD_or, BitVec.getLsbD_zero, hi] at this ⊢
        cases h3 : e.2.getLsbD i <;> cases h4 : (maskAt l e.1).getLsbD i <;> simp_all
      · exact this

/-- A field's bits outside a mask that covers none of them are the field's. -/
theorem Fld.get_of_masked (f : Fld) (h : f.ok) (v w m : Word) (hm : f.mask &&& m = 0#32) (e : v &&& ~~~ m = w &&& ~~~ m) : f.get v = f.get w := by
  apply Nat.eq_of_testBit_eq
  intro i
  rw [Fld.testBit_get, Fld.testBit_get]
  by_cases a : i < f.hi + 1 - f.lo
  · obtain ⟨h1, h2⟩ := h
    have h3 := congrArg (·.getLsbD (f.lo + i)) hm
    have h4 := congrArg (·.getLsbD (f.lo + i)) e
    simp only [BitVec.getLsbD_and, BitVec.getLsbD_not, f.getLsbD_mask ⟨h1, h2⟩, BitVec.getLsbD_zero] at h3 h4
    have : f.lo + i < 32 := by omega
    have h5 : m.getLsbD (f.lo + i) = false := by simpa [show f.lo ≤ f.lo + i by omega, show f.lo + i ≤ f.hi by omega] using h3
    simp_all
  · simp [a]

/-- A field written changes its own bits only. -/
theorem Fld.put_masked (f : Fld) (h : f.ok) (w m : Word) (v : Nat) (hm : f.mask &&& ~~~ m = 0#32) : f.put w v &&& ~~~ m = w &&& ~~~ m := by
  ext i hi
  have h3 := congrArg (·.getLsbD i) hm
  simp only [← BitVec.getLsbD_eq_getElem, BitVec.getLsbD_and, BitVec.getLsbD_not, f.getLsbD_mask h, BitVec.getLsbD_zero,
    f.getLsbD_put h w v i hi] at h3 ⊢
  split
  · rename_i c; simp_all
  · rfl

/-! ### RegsKept -/

theorem RegsKept.refl (m : Nat → Word) (s : State) : RegsKept m s s := fun _ => rfl

theorem RegsKept.trans {m : Nat → Word} {s t u : State} (h : RegsKept m s t) (k : RegsKept m t u) : RegsKept m s u :=
  fun a => (k a).trans (h a)

theorem RegsKept.of_regs {m : Nat → Word} {s t u : State} (h : RegsKept m s t) (e : u.regs = t.regs) : RegsKept m s u := fun a => by
  have : u.word a = t.word a := by simp only [State.word, e]
  rw [this]; exact h a

theorem RegsKept.mono {m m' : Nat → Word} {s t : State} (h : RegsKept m s t) (c : ∀ a, m a &&& ~~~ m' a = 0#32) : RegsKept m' s t := fun a => by
  ext i hi
  have h1 := congrArg (·.getLsbD i) (h a)
  have h2 := congrArg (·.getLsbD i) (c a)
  simp only [← BitVec.getLsbD_eq_getElem, BitVec.getLsbD_and, BitVec.getLsbD_not, BitVec.getLsbD_zero, hi] at h1 h2 ⊢
  cases h3 : (m' a).getLsbD i <;> simp_all

/-- A word changes within its mask. -/
theorem RegsKept.setWord {m : Nat → Word} {s t : State} (h : RegsKept m s t) (a : Nat) (w : Word) (e : w &&& ~~~ m a = t.word a &&& ~~~ m a) :
    RegsKept m s (t.setWord a w) := fun b => by
  rw [State.word_setWord]
  split
  · rename_i c; subst c; rw [e]; exact h a
  · exact h b

theorem RegsKept.wr {m : Nat → Word} {s t : State} (h : RegsKept m s t) (f : Fld) (i v : Nat) (hf : f.ok)
    (c : f.mask &&& ~~~ m (f.addr i) = 0#32) : RegsKept m s (t.wr f i v) :=
  h.setWord _ _ (f.put_masked hf _ _ _ c)

theorem RegsKept.runWr {m : Nat → Word} {s t : State} (h : RegsKept m s t) (f : Fld) (i v : Nat) (hf : f.ok)
    (c : f.mask &&& ~~~ m (f.runAddr i) = 0#32) : RegsKept m s (t.runWr f i v) :=
  h.setWord _ _ (f.put_masked hf _ _ _ c)

/-- A field whose bits the mask leaves out reads as before. -/
theorem RegsKept.rd {m : Nat → Word} {s t : State} (h : RegsKept m s t) (f : Fld) (i : Nat) (hf : f.ok) (c : f.mask &&& m (f.addr i) = 0#32) :
    t.rd f i = s.rd f i := f.get_of_masked hf _ _ _ c (h _)

theorem RegsKept.run {m : Nat → Word} {s t : State} (h : RegsKept m s t) (f : Fld) (i : Nat) (hf : f.ok) (c : f.mask &&& m (f.runAddr i) = 0#32) :
    t.run f i = s.run f i := f.get_of_masked hf _ _ _ c (h _)

/-- A word that the mask leaves out is as before. -/
theorem RegsKept.word {m : Nat → Word} {s t : State} (h : RegsKept m s t) (a : Nat) (c : m a = 0#32) : t.word a = s.word a := by
  have := h a
  rw [c] at this
  simpa only [show ~~~0#32 = BitVec.allOnes 32 from rfl, BitVec.and_allOnes] using this

/-! ### Channel records -/

theorem State.ch_setCh (s : State) (n m : Ch) (c : Chan) : (s.setCh n c).ch m = if n = m then c else s.ch m := by
  show (s.chan.set n.val c n.isLt)[m.val] = if n = m then c else s.chan[m.val]
  rw [Vector.getElem_set]
  simp only [Fin.ext_iff]

@[simp] theorem State.ch_setCh_self (s : State) (n : Ch) (c : Chan) : (s.setCh n c).ch n = c := by rw [State.ch_setCh, if_pos rfl]

theorem State.ch_modCh (s : State) (n m : Ch) (g : Chan → Chan) : (s.modCh n g).ch m = if n = m then g (s.ch n) else s.ch m :=
  s.ch_setCh n m _

@[simp] theorem State.ch_modCh_self (s : State) (n : Ch) (g : Chan → Chan) : (s.modCh n g).ch n = g (s.ch n) := s.ch_setCh_self n _

/-! ### OnlyRegs -/

theorem OnlyRegs.refl (l : List (Nat × Word)) (s : State) : OnlyRegs l s s := ⟨RegsKept.refl _ s, rfl, rfl⟩

theorem OnlyRegs.wr {l : List (Nat × Word)} {s t : State} (h : OnlyRegs l s t) (f : Fld) (i v : Nat) (hf : f.ok) (c : f.at i ∈ l) :
    OnlyRegs l s (t.wr f i v) := ⟨h.1.wr f i v hf (maskAt_mem c), h.2.1, h.2.2⟩

theorem OnlyRegs.runWr {l : List (Nat × Word)} {s t : State} (h : OnlyRegs l s t) (f : Fld) (i v : Nat) (hf : f.ok) (c : f.runAt i ∈ l) :
    OnlyRegs l s (t.runWr f i v) := ⟨h.1.runWr f i v hf (maskAt_mem c), h.2.1, h.2.2⟩

theorem OnlyRegs.wrs {l : List (Nat × Word)} {s t : State} (h : OnlyRegs l s t) (i : Nat) (q : List (Fld × Nat))
    (c : ∀ e ∈ q, e.1.ok ∧ e.1.at i ∈ l) : OnlyRegs l s (t.wrs i q) := by
  induction q generalizing t with
  | nil => exact h
  | cons e q ih =>
    have := c e (by simp)
    exact ih (h.wr e.1 i e.2 this.1 this.2) (fun e he => c e (by simp [he]))

theorem OnlyRegs.ite {l : List (Nat × Word)} {s t u : State} {p : Prop} [Decidable p] (h : OnlyRegs l s t) (k : OnlyRegs l s u) : OnlyRegs l s (if p then t else u) := by split <;> assumption

theorem OnlyRegs.inc {l : List (Nat × Word)} {s t : State} (h : OnlyRegs l s t) (f : Fld) (i : Nat) (hf : f.ok) (c : f.at i ∈ l) :
    OnlyRegs l s (t.inc f i) := by unfold State.inc; split; exact h.wr f i _ hf c; exact h
/-! ### OnlyChan -/

theorem OnlyChan.refl (n : Ch) (l : List (Nat × Word)) (s : State) : OnlyChan n l s s := ⟨RegsKept.refl _ s, rfl, rfl, fun _ _ => rfl⟩

theorem OnlyChan.wr {n : Ch} {l : List (Nat × Word)} {s t : State} (h : OnlyChan n l s t) (f : Fld) (i v : Nat) (hf : f.ok) (c : f.at i ∈ l) :
    OnlyChan n l s (t.wr f i v) := ⟨h.1.wr f i v hf (maskAt_mem c), h.2.1, h.2.2.1, h.2.2.2⟩

theorem OnlyChan.runWr {n : Ch} {l : List (Nat × Word)} {s t : State} (h : OnlyChan n l s t) (f : Fld) (i v : Nat) (hf : f.ok) (c : f.runAt i ∈ l) :
    OnlyChan n l s (t.runWr f i v) := ⟨h.1.runWr f i v hf (maskAt_mem c), h.2.1, h.2.2.1, h.2.2.2⟩

theorem OnlyChan.wrs {n : Ch} {l : List (Nat × Word)} {s t : State} (h : OnlyChan n l s t) (i : Nat) (q : List (Fld × Nat))
    (c : ∀ e ∈ q, e.1.ok ∧ e.1.at i ∈ l) : OnlyChan n l s (t.wrs i q) := by
  induction q generalizing t with
  | nil => exact h
  | cons e q ih =>
    have := c e (by simp)
    exact ih (h.wr e.1 i e.2 this.1 this.2) (fun e he => c e (by simp [he]))

theorem OnlyChan.inc {n : Ch} {l : List (Nat × Word)} {s t : State} (h : OnlyChan n l s t) (f : Fld) (i : Nat) (hf : f.ok) (c : f.at i ∈ l) :
    OnlyChan n l s (t.inc f i) := by unfold State.inc; split; exact h.wr f i _ hf c; exact h

theorem OnlyChan.ite {n : Ch} {l : List (Nat × Word)} {s t u : State} {p : Prop} [Decidable p] (h : OnlyChan n l s t) (k : OnlyChan n l s u) : OnlyChan n l s (if p then t else u) := by split <;> assumption

theorem OnlyChan.modCh {n : Ch} {l : List (Nat × Word)} {s t : State} (h : OnlyChan n l s t) (g : Chan → Chan) :
    OnlyChan n l s (t.modCh n g) := ⟨h.1.of_regs rfl, h.2.1, h.2.2.1, fun m hm => by
      rw [State.ch_modCh, if_neg (Ne.symm hm)]; exact h.2.2.2 m hm⟩

theorem OnlyChan.setCh {n : Ch} {l : List (Nat × Word)} {s t : State} (h : OnlyChan n l s t) (c : Chan) :
    OnlyChan n l s (t.setCh n c) := ⟨h.1.of_regs rfl, h.2.1, h.2.2.1, fun m hm => by
      rw [State.ch_setCh, if_neg (Ne.symm hm)]; exact h.2.2.2 m hm⟩

theorem OnlyChan.whenCh {n m : Ch} {l : List (Nat × Word)} {s t : State} (h : OnlyChan n l s t) {f : State → State} (k : OnlyChan n l s (f t)) :
    OnlyChan n l s (t.whenCh m f) := by unfold State.whenCh; split <;> assumption

theorem OnlyRegs.whenCh {m : Ch} {l : List (Nat × Word)} {s t : State} (h : OnlyRegs l s t) {f : State → State} (k : OnlyRegs l s (f t)) :
    OnlyRegs l s (t.whenCh m f) := by unfold State.whenCh; split <;> assumption

end Sys2Proof.Machine
end

