-- ==== Sys2Proof/Laws/SettleBase.lean ====
section
/-! SUPPORT. Properties of a state that the fault collector's and the gates' operations keep, whatever else they do: those that look
neither at the fields of `settleFields` nor at what `State.still` hides. -/

namespace Sys2Proof.Machine

/-- `P` looks neither at the bits of `settleBits` nor at what `State.still` hides. -/
structure Settles (P : State → Prop) : Prop where
  word {s : State} (a : Nat) (w : Word) (e : w &&& ~~~ settleBits a = s.word a &&& ~~~ settleBits a) (h : P s) : P (s.setWord a w)
  same (s : State) {t : State} (e : t.regs = s.regs) (k : t.still = s.still) (h : P s) : P t

variable {P : State → Prop}

theorem ite_keeps {c : Prop} [Decidable c] {a b : State} (ha : P a) (hb : P b) : P (if c then a else b) := by split <;> assumption

theorem dite_keeps {c : Prop} [Decidable c] {a : c → State} {b : ¬c → State} (ha : ∀ h, P (a h)) (hb : ∀ h, P (b h)) :
    P (if h : c then a h else b h) := by split; exact ha _; exact hb _

theorem foldl_keeps {α : Type} {f : State → α → State} (hf : ∀ s a, P s → P (f s a)) (l : List α) {s : State} (h : P s) : P (l.foldl f s) := by
  induction l generalizing s with
  | nil => exact h
  | cons a l ih => exact ih (hf s a h)

/-! ### Registers -/

theorem settle_at {f : Fld} {c i : Nat} (h : (f, c) ∈ settleFields) (hi : i < c) :
    f.at i ∈ settleFields.flatMap fun e => (List.range e.2).map fun i => e.1.at i :=
  List.mem_flatMap.2 ⟨(f, c), h, List.mem_map.2 ⟨i, List.mem_range.2 hi, rfl⟩⟩

theorem settle_mask {f : Fld} {c i : Nat} (h : (f, c) ∈ settleFields) (hi : i < c) : f.mask &&& ~~~ settleBits (f.addr i) = 0#32 := by
  unfold settleBits
  split
  · simp
  · exact maskAt_mem (settle_at h hi)

/-- Every field of `settleFields` lies within its word. -/
theorem settle_ok {f : Fld} {c : Nat} (h : (f, c) ∈ settleFields) : f.ok := by
  have : settleFields.all (fun e => decide e.1.ok) = true := by decide
  simpa using List.all_eq_true.1 this _ h

/-- The fields of `settleFields` with `c` instances, as a test. -/
def settleHas (c : Nat) (f : Fld) : Bool := settleFields.contains (f, c)

theorem settleHas_mem {c : Nat} {f : Fld} (h : settleHas c f = true) : (f, c) ∈ settleFields := by simpa [settleHas] using h

theorem Settles.wr (hP : Settles P) {s : State} {f : Fld} {c i v : Nat} (hf : settleHas c f = true) (hi : i < c) (h : P s) :
    P (s.wr f i v) :=
  hP.word _ _ (f.put_masked (settle_ok (settleHas_mem hf)) _ _ _ (settle_mask (settleHas_mem hf) hi)) h

theorem Settles.wrsNil (_ : Settles P) {s : State} {i : Nat} (h : P s) : P (s.wrs i []) := h

theorem Settles.wrs (hP : Settles P) {s : State} {f : Fld} {l : List (Fld × Nat)} {c i v : Nat} (hf : settleHas c f = true) (hi : i < c)
    (h : P s) (k : ∀ t, P t → P (t.wrs i l)) : P (s.wrs i ((f, v) :: l)) := k _ (hP.wr hf hi h)

theorem Settles.orBits (hP : Settles P) {s : State} {f : Fld} {c i m : Nat} (hf : settleHas c f = true) (hi : i < c) (h : P s) : P (s.orBits f i m) :=
  hP.wr hf hi h

theorem Settles.clrBits (hP : Settles P) {s : State} {f : Fld} {c i m : Nat} (hf : settleHas c f = true) (hi : i < c) (h : P s) : P (s.clrBits f i m) :=
  hP.wr hf hi h

theorem Settles.flag (hP : Settles P) {s : State} {f : Fld} {c i : Nat} {b : Bool} (hf : settleHas c f = true) (hi : i < c) (h : P s) :
    P (s.flag f i b) := hP.wr hf hi h

theorem Settles.inc (hP : Settles P) {s : State} {f : Fld} {c i : Nat} (hf : settleHas c f = true) (hi : i < c) (h : P s) : P (s.inc f i) := by
  unfold State.inc; split
  · exact hP.wr hf hi h
  · exact h

theorem Settles.incWrap (hP : Settles P) {s : State} {f : Fld} {c i : Nat} (hf : settleHas c f = true) (hi : i < c) (h : P s) : P (s.incWrap f i) :=
  hP.wr hf hi h

/-! ### Channels -/

theorem State.setCh_still (s : State) (n : Ch) (c : Chan) (e : c.still = (s.ch n).still) : (s.setCh n c).still = s.still := by
  have : (s.setCh n c).chan.map Chan.still = s.chan.map Chan.still := by
    apply Vector.ext
    intro i hi
    simp only [State.setCh, Vector.getElem_map, Vector.getElem_set]
    split
    · rename_i k; subst k; exact e
    · rfl
  simp only [State.still, this]; rfl

theorem Settles.modCh (hP : Settles P) {s : State} {n : Ch} {g : Chan → Chan} (e : ∀ c, (g c).still = c.still) (h : P s) : P (s.modCh n g) :=
  hP.same s rfl (State.setCh_still s n _ (e _)) h

theorem State.whenCh_keeps {s : State} {n : Ch} {f : State → State} (hf : ∀ s, P s → P (f s)) (h : P s) : P (s.whenCh n f) := by
  unfold State.whenCh; split
  · exact hf _ h
  · exact h

theorem State.forCh_keeps {s : State} {f : Ch → State → State} (hf : ∀ n s, P s → P (f n s)) (h : P s) : P (s.forCh f) :=
  hf _ _ (hf _ _ (hf _ _ (hf _ _ h)))

/-! ### Nodes and slices -/

/-- Writing a key that the test drops leaves what the test keeps. -/
theorem mapPut_filter {β : Type} [DecidableEq β] (d : Nat → β) (m : List (Nat × β)) (k : Nat) (v : β) {p : Nat → Bool} (e : p k = false) :
    (mapPut d m k v).filter (fun x => p x.1) = m.filter (fun x => p x.1) := by
  have er : ∀ m : List (Nat × β), (mapErase m k).filter (fun x => p x.1) = m.filter (fun x => p x.1) := by
    intro m
    induction m with
    | nil => rfl
    | cons a m ih =>
      obtain ⟨a, w⟩ := a
      simp only [mapErase]
      split
      · rename_i h; subst h; simp [ih, e]
      · simp [List.filter_cons, ih]
  have ins : ∀ m : List (Nat × β), (mapInsert m k v).filter (fun x => p x.1) = m.filter (fun x => p x.1) := by
    intro m
    induction m with
    | nil => simp [mapInsert, e]
    | cons a m ih =>
      obtain ⟨a, w⟩ := a
      simp only [mapInsert]
      split
      · simp [e]
      · simp [List.filter_cons, ih]
  unfold mapPut
  split
  · exact er m
  · rw [ins, er]

/-- Writing output nodes leaves the others. -/
theorem putNodes_filter (l m : List (Nat × Word)) (h : l.all (fun e => isOutNode e.1) = true) :
    (putNodes m l).filter (fun e => !isOutNode e.1) = m.filter (fun e => !isOutNode e.1) := by
  induction l generalizing m with
  | nil => rfl
  | cons a l ih =>
    obtain ⟨k, w⟩ := a
    simp only [List.all_cons, Bool.and_eq_true] at h
    rw [putNodes, ih _ h.2]
    exact mapPut_filter nodeReset m k w (p := fun k => !isOutNode k) (by simp [h.1])

/-- A loop-engine failure changes only the slices' outputs. -/
theorem Chan.loopFail_still (c : Chan) : c.loopFail.still = c.still := by
  have e : (putNodes c.eng.nodes ((List.range 6).map fun k => (0x47 + 0x10 * k, 0#32))).filter (fun e => !isOutNode e.1) =
      c.eng.nodes.filter (fun e => !isOutNode e.1) := putNodes_filter _ _ (by decide)
  simp [Chan.still, Chan.loopFail, e, Vector.map_map, Function.comp_def]

/-- A stopped engine changes only its slices' place in the chain, and its estimators. -/
theorem Chan.engineStop_still (c : Chan) : c.engineStop.still = c.still := by
  simp [Chan.still, Chan.engineStop, Vector.map_map, Function.comp_def]

/-! ### Ports -/

theorem State.setLp_still (s : State) (p : Ch) (l : LinkPort) (e : l.still = (s.lp p).still) : (s.setLp p l).still = s.still := by
  have : (s.setLp p l).link.map LinkPort.still = s.link.map LinkPort.still := by
    apply Vector.ext
    intro i hi
    simp only [State.setLp, Vector.getElem_map, Vector.getElem_set]
    split
    · rename_i k; subst k; exact e
    · rfl
  simp only [State.still, this]; rfl

theorem Settles.modLp (hP : Settles P) {s : State} {p : Ch} {g : LinkPort → LinkPort} (e : ∀ l, (g l).still = l.still) (h : P s) : P (s.modLp p g) :=
  hP.same s rfl (State.setLp_still s p _ (e _)) h

/-! ### Records and jobs -/

theorem State.setJob_keeps (hP : Settles P) {s : State} {k : Fin 16} {j : Job} (h : P s) : P (s.setJob k j) := hP.same s rfl rfl h

theorem State.used_keeps (hP : Settles P) {s : State} (h : P s) : P s.used := hP.same s rfl rfl h

end Sys2Proof.Machine
end

