-- ==== Sys2Proof/Laws/Settle.lean ====
section
/-! SUPPORT. A raise, a change of channel state, the halt net, the safe-state path and the settling of the gates keep what `Settles`
names: one lemma per operation, from which its frame and the canonical form of its registers follow. -/

namespace Sys2Proof.Machine

variable {P : State → Prop}

theorem State.brkShow_keeps (hP : Settles P) {s : State} {n : Ch} (hs0 : P s) : P (State.brkShow s n) := by
  unfold State.brkShow
  extract_lets +onlyGivenNames x0
  subst x0
  extract_lets +onlyGivenNames x1
  try clear_value x1
  extract_lets +onlyGivenNames x2
  try clear_value x2
  extract_lets +onlyGivenNames x3
  try clear_value x3
  extract_lets +onlyGivenNames x4
  have h5 : P x4 := by
    subst x4
    refine hP.modCh (fun _ => rfl) ?_
    exact hs0
  try clear_value x4
  extract_lets +onlyGivenNames x6
  have h7 : P x6 := by
    subst x6
    refine hP.flag (c := 4) rfl (Fin.isLt _) ?_
    refine hP.flag (c := 4) rfl (Fin.isLt _) ?_
    exact h5
  try clear_value x6
  refine ite_keeps ?_ ?_
  · refine hP.modCh (fun _ => rfl) ?_
    refine hP.wr (c := 4) rfl (Fin.isLt _) ?_
    exact h7
  · refine ite_keeps ?_ ?_
    · extract_lets +onlyGivenNames x8
      try clear_value x8
      refine hP.modCh (fun _ => rfl) ?_
      refine hP.wr (c := 4) rfl (Fin.isLt _) ?_
      exact h7
    · exact h7

theorem State.takeGates_keeps (hP : Settles P) {s : State} {n : Ch} (hs0 : P s) : P (State.takeGates s n) := by
  unfold State.takeGates
  extract_lets +onlyGivenNames x0
  try clear_value x0
  extract_lets +onlyGivenNames x1
  try clear_value x1
  refine hP.modCh (fun _ => rfl) ?_
  exact hs0

theorem State.loopFails_keeps (hP : Settles P) {s : State} {i : ℕ} (hs0 : P s) : P (State.loopFails s i) := by
  unfold State.loopFails
  refine ite_keeps ?_ ?_
  · split
    · exact hs0
    · refine dite_keeps (fun _ => ?_) (fun _ => ?_)
      · refine State.whenCh_keeps (fun a0 h1 => ?_) ?_
        · refine hP.modCh Chan.loopFail_still ?_
          exact h1
        · exact hs0
      · exact hs0
  · exact hs0

theorem State.setFr_keeps (hP : Settles P) {s : State} {i : ℕ} {r : FltRec} (hs0 : P s) : P (State.setFr s i r) := by
  unfold State.setFr
  refine hP.same s (by as_aux_lemma => rfl) (by as_aux_lemma => rfl) ?_
  exact hs0

theorem State.trcFire_keeps (hP : Settles P) {s : State} {n : Ch} {src : ℕ} (hs0 : P s) : P (State.trcFire s n src) := by
  unfold State.trcFire
  refine State.whenCh_keeps (fun a0 h1 => ?_) ?_
  · refine ite_keeps ?_ ?_
    · refine hP.modCh (fun _ => rfl) ?_
      exact h1
    · exact h1
  · exact hs0

theorem State.grvEvent_keeps (hP : Settles P) {s : State} {n : Ch} {b : ℕ} (hs0 : P s) : P (State.grvEvent s n b) := by
  unfold State.grvEvent
  refine State.whenCh_keeps (fun a0 h1 => ?_) ?_
  · refine hP.orBits (c := 4) rfl (Fin.isLt _) ?_
    exact h1
  · exact hs0

/-- Every FAULT bit of a source stands in a FAULT word (R85, R95). -/
theorem srcFaultBit_off {i k b : Nat} {f : Fld} (h : srcFaultBit i = some (f, k, b)) : f.off = 0x18 := by
  have ite_off {c : Prop} [Decidable c] {x y : Option (Fld × Nat × Nat)} (hx : x.all (fun x => x.1.off == 0x18) = true)
      (hy : y.all (fun x => x.1.off == 0x18) = true) : (if c then x else y).all (fun x => x.1.off == 0x18) = true := by split <;> assumption
  have e : (srcFaultBit i).all (fun x => x.1.off == 0x18) = true := by
    unfold srcFaultBit
    extract_lets o n
    clear_value o n
    refine ite_off ?_ ?_
    all_goals repeat' first | rfl | refine ite_off ?_ ?_ | (split <;> rfl)
  rw [h] at e
  simpa using e

theorem State.setFaultBit_keeps (hP : Settles P) {s : State} {i : Nat} (hs0 : P s) : P (State.setFaultBit s i) := by
  unfold State.setFaultBit
  split
  · exact hs0
  · rename_i f k b e
    have h2 : P (s.orBits f k (2 ^ b)) := by
      refine hP.word _ _ ?_ hs0
      have : f.addr k % 256 = 0x18 := by rw [Fld.addr, srcFaultBit_off e]; omega
      simp [settleBits, this]
    extract_lets +onlyGivenNames x0 x1
    clear_value x0
    have h3 : P x1 := h2
    clear_value x1
    refine ite_keeps h3 (ite_keeps h3 ?_)
    split <;> first | exact h3 | exact State.trcFire_keeps hP (State.grvEvent_keeps hP h3)

theorem State.capture_keeps (hP : Settles P) {s : State} {i : ℕ} {r : FltRec} (hs0 : P s) : P (State.capture s i r) := by
  unfold State.capture
  extract_lets +onlyGivenNames x0
  have h1 : P x0 := by
    subst x0
    refine hP.wr (c := 1) rfl (by decide) ?_
    exact hs0
  try clear_value x0
  extract_lets +onlyGivenNames x2
  have h3 : P x2 := by
    subst x2
    refine ite_keeps ?_ ?_
    · refine hP.wr (c := 1) rfl (by decide) ?_
      exact h1
    · exact h1
  try clear_value x2
  extract_lets +onlyGivenNames x4
  have h5 : P x4 := by
    subst x4
    refine ite_keeps ?_ ?_
    · refine hP.wr (c := 1) rfl (by decide) ?_
      exact h3
    · exact h3
  try clear_value x4
  extract_lets +onlyGivenNames x6
  have h7 : P x6 := by
    subst x6
    refine ite_keeps ?_ ?_
    · exact h5
    · refine hP.wrs (c := 1) rfl (by decide) ?_ (fun _ h => hP.wrs (c := 1) rfl (by decide) h (fun _ h => hP.wrs (c := 1) rfl (by decide) h (fun _ h => hP.wrs (c := 1) rfl (by decide) h (fun _ h => h))))
      exact h5
  try clear_value x6
  refine hP.wrs (c := 1) rfl (by decide) ?_ (fun _ h => hP.wrs (c := 1) rfl (by decide) h (fun _ h => h))
  exact h7

theorem State.freed_keeps (hP : Settles P) {s : State} {ing : ℕ} {k : Pkt} (hs0 : P s) : P (State.freed s ing k) := by
  unfold State.freed
  refine dite_keeps (fun _ => ?_) (fun _ => ?_)
  · refine hP.modLp (fun _ => rfl) ?_
    exact hs0
  · exact hs0

theorem State.egress_keeps (hP : Settles P) {s : State} {p : ℕ} {ing : ℕ} {buf : Bool} {k : Pkt} (hs0 : P s) : P (State.egress s p ing buf k) := by
  unfold State.egress
  refine dite_keeps (fun _ => ?_) (fun _ => ?_)
  · refine hP.modLp (fun _ => rfl) ?_
    exact hs0
  · exact hs0

theorem State.goOut_keeps (hP : Settles P) {s : State} {ing : ℕ} {l : List ℕ} {k : Pkt} (hs0 : P s) : P (State.goOut s ing l k) := by
  unfold State.goOut
  split
  · refine State.freed_keeps hP ?_
    exact hs0
  · refine foldl_keeps (fun a0 a1 h2 => ?_) _ ?_
    · refine State.egress_keeps hP ?_
      exact h2
    · refine State.egress_keeps hP ?_
      exact hs0

theorem State.deliver_keeps (hP : Settles P) {s : State} {ing : ℕ} {k : Pkt} (hs0 : P s) : P (State.deliver s ing k) := by
  unfold State.deliver
  refine hP.same s (by as_aux_lemma => rfl) (by as_aux_lemma => rfl) ?_
  exact hs0

theorem State.go_keeps (hP : Settles P) {s : State} {ing : ℕ} {w : Way} (hs0 : P s) : P (State.go s ing w) := by
  unfold State.go
  split
  · exact hs0
  · extract_lets +onlyGivenNames x0
    have h1 : P x0 := by
      subst x0
      refine State.goOut_keeps hP ?_
      exact hs0
    try clear_value x0
    refine ite_keeps ?_ ?_
    · refine State.deliver_keeps hP ?_
      exact h1
    · exact h1

theorem State.answer_keeps (hP : Settles P) {s : State} {k : Pkt} {status : ℕ} (hs0 : P s) : P (State.answer s k status) := by
  unfold State.answer
  extract_lets +onlyGivenNames w0 x1
  try clear_value w0 x1
  split
  · refine State.go_keeps hP ?_
    exact hs0
  · exact hs0

theorem State.dropNote_keeps (hP : Settles P) {s : State} {ing : ℕ} {cause : ℕ} {k : Pkt} (hs0 : P s) : P (State.dropNote s ing cause k) := by
  unfold State.dropNote
  extract_lets +onlyGivenNames x0
  have h1 : P x0 := by
    subst x0
    refine hP.wr (c := 1) rfl (by decide) ?_
    refine hP.inc (c := 1) rfl (by decide) ?_
    exact hs0
  try clear_value x0
  refine ite_keeps ?_ ?_
  · exact h1
  · refine hP.wrs (c := 1) rfl (by decide) ?_ (fun _ h => hP.wrs (c := 1) rfl (by decide) h (fun _ h => hP.wrs (c := 1) rfl (by decide) h (fun _ h => hP.wrs (c := 1) rfl (by decide) h (fun _ h => hP.wrs (c := 1) rfl (by decide) h (fun _ h => h)))))
    exact h1

theorem State.arrive_keeps (hP : Settles P) {s : State} {ing : ℕ} {k : Pkt} (hs0 : P s) : P (State.arrive s ing k) := by
  unfold State.arrive
  refine ite_keeps ?_ ?_
  · refine ite_keeps ?_ ?_
    · refine State.answer_keeps hP ?_
      exact hs0
    · refine State.dropNote_keeps hP ?_
      exact hs0
  · refine ite_keeps ?_ ?_
    · refine State.answer_keeps hP ?_
      refine hP.inc (c := 1) rfl (by decide) ?_
      exact hs0
    · refine State.deliver_keeps hP ?_
      exact hs0

theorem State.route_keeps (hP : Settles P) {s : State} {ing : ℕ} {k : Pkt} (hs0 : P s) : P (State.route s ing k) := by
  unfold State.route
  split
  · extract_lets +onlyGivenNames x0
    have h1 : P x0 := by
      subst x0
      refine State.goOut_keeps hP ?_
      exact hs0
    try clear_value x0
    refine ite_keeps ?_ ?_
    · refine State.arrive_keeps hP ?_
      exact h1
    · exact h1
  · extract_lets +onlyGivenNames x2
    have h3 : P x2 := by
      subst x2
      refine State.freed_keeps hP ?_
      refine State.dropNote_keeps hP ?_
      exact hs0
    try clear_value x2
    refine ite_keeps ?_ ?_
    · exact h3
    · refine State.answer_keeps hP ?_
      refine hP.inc (c := 1) rfl (by decide) ?_
      exact h3

theorem State.send_keeps (hP : Settles P) {s : State} {ing : ℕ} {k : Pkt} (hs0 : P s) : P (State.send s ing k) := by
  unfold State.send
  refine ite_keeps ?_ ?_
  · refine State.route_keeps hP ?_
    exact hs0
  · exact hs0

theorem State.report_keeps (hP : Settles P) {s : State} {i : ℕ} {r : FltRec} (hs0 : P s) : P (State.report s i r) := by
  unfold State.report
  refine ite_keeps ?_ ?_
  · extract_lets +onlyGivenNames x0
    try clear_value x0
    refine ite_keeps ?_ ?_
    · extract_lets +onlyGivenNames x1
      have h2 : P x1 := by
        subst x1
        refine hP.inc (c := 1) rfl (by decide) ?_
        exact hs0
      try clear_value x1
      refine hP.same x1 (by as_aux_lemma => rfl) (by as_aux_lemma => rfl) ?_
      exact h2
    · extract_lets +onlyGivenNames x3
      have h4 : P x3 := by
        subst x3
        refine hP.same s (by as_aux_lemma => rfl) (by as_aux_lemma => rfl) ?_
        exact hs0
      try clear_value x3
      refine State.send_keeps hP ?_
      exact h4
  · exact hs0

theorem State.jobEvent_keeps (hP : Settles P) {s : State} {origin : ℕ} (hs0 : P s) : P (State.jobEvent s origin) := by
  unfold State.jobEvent
  refine ite_keeps ?_ ?_
  · refine State.grvEvent_keeps hP ?_
    exact hs0
  · refine ite_keeps ?_ ?_
    · refine State.grvEvent_keeps hP ?_
      exact hs0
    · refine ite_keeps ?_ ?_
      · refine State.grvEvent_keeps hP ?_
        exact hs0
      · refine ite_keeps ?_ ?_
        · refine State.grvEvent_keeps hP ?_
          exact hs0
        · exact hs0

theorem State.jobEnd_keeps (hP : Settles P) {s : State} {k : Fin 16} {st : JobSt} {cause : ℕ} (hs0 : P s) : P (State.jobEnd s k st cause) := by
  unfold State.jobEnd
  extract_lets +onlyGivenNames x0
  try clear_value x0
  extract_lets +onlyGivenNames w1 x2
  have h3 : P x2 := by
    subst x2 w1
    refine State.setJob_keeps hP ?_
    exact hs0
  try clear_value w1 x2
  refine State.jobEvent_keeps hP ?_
  refine hP.orBits (c := 1) rfl (by decide) ?_
  exact h3

theorem State.diagStop_keeps (hP : Settles P) {s : State} {n : Ch} (hs0 : P s) : P (State.diagStop s n) := by
  unfold State.diagStop
  refine hP.modCh (fun _ => rfl) ?_
  refine hP.wrs (c := 4) rfl (Fin.isLt _) ?_ (fun _ h => hP.wrs (c := 4) rfl (Fin.isLt _) h (fun _ h => h))
  exact hs0

theorem State.cmpStart_keeps (hP : Settles P) {s : State} {n : Ch} {c : ℕ} (hs0 : P s) : P (State.cmpStart s n c) := by
  unfold State.cmpStart
  extract_lets +onlyGivenNames x0
  subst x0
  refine ite_keeps ?_ ?_
  · refine ite_keeps ?_ ?_
    · exact hs0
    · refine hP.orBits (c := 4) rfl (Fin.isLt _) ?_
      refine hP.orBits (c := 4) rfl (Fin.isLt _) ?_
      exact hs0
  · refine ite_keeps ?_ ?_
    · refine hP.orBits (c := 4) rfl (Fin.isLt _) ?_
      exact hs0
    · refine ite_keeps ?_ ?_
      · refine hP.orBits (c := 4) rfl (Fin.isLt _) ?_
        exact hs0
      · exact hs0

theorem State.homingStop_keeps (hP : Settles P) {s : State} {n : Ch} (hs0 : P s) : P (State.homingStop s n) := by
  unfold State.homingStop
  extract_lets +onlyGivenNames x0
  subst x0
  extract_lets +onlyGivenNames x1
  have h2 : P x1 := by
    subst x1
    refine hP.modCh (fun _ => rfl) ?_
    refine hP.wr (c := 4) rfl (Fin.isLt _) ?_
    exact hs0
  try clear_value x1
  refine ite_keeps ?_ ?_
  · extract_lets +onlyGivenNames x3
    try clear_value x3
    refine hP.modCh (fun _ => rfl) ?_
    refine hP.wrs (c := 4) rfl (Fin.isLt _) ?_ (fun _ h => hP.wrs (c := 4) rfl (Fin.isLt _) h (fun _ h => h))
    exact h2
  · refine hP.wr (c := 4) rfl (Fin.isLt _) ?_
    exact h2

theorem State.trcClose_keeps (hP : Settles P) {s : State} {n : Ch} (hs0 : P s) : P (State.trcClose s n) := by
  unfold State.trcClose
  extract_lets +onlyGivenNames x0
  try clear_value x0
  refine ite_keeps ?_ ?_
  · exact hs0
  · extract_lets +onlyGivenNames x1
    try clear_value x1
    extract_lets +onlyGivenNames x2
    try clear_value x2
    extract_lets +onlyGivenNames x3
    have h4 : P x3 := by
      subst x3
      refine hP.modCh (fun _ => rfl) ?_
      exact hs0
    try clear_value x3
    split
    · refine State.send_keeps hP ?_
      refine hP.incWrap (c := 1) rfl (by decide) ?_
      exact h4
    · exact h4

theorem State.enumStop_keeps (hP : Settles P) {s : State} (hs0 : P s) : P (State.enumStop s) := by
  unfold State.enumStop
  extract_lets +onlyGivenNames w0 x1
  have h2 : P x1 := by
    subst x1 w0
    refine hP.same s (by as_aux_lemma => rfl) (by as_aux_lemma => rfl) ?_
    exact hs0
  try clear_value w0 x1
  refine hP.wr (c := 1) rfl (by decide) ?_
  exact h2

theorem State.jobStop_keeps (hP : Settles P) {s : State} {k : Fin 16} (hs0 : P s) : P (State.jobStop s k) := by
  unfold State.jobStop
  extract_lets +onlyGivenNames x0
  try clear_value x0
  refine ite_keeps ?_ ?_
  · exact hs0
  · refine dite_keeps (fun _ => ?_) (fun _ => ?_)
    · extract_lets +onlyGivenNames x1
      subst x1
      refine ite_keeps ?_ ?_
      · refine State.diagStop_keeps hP ?_
        exact hs0
      · refine ite_keeps ?_ ?_
        · refine ite_keeps ?_ ?_
          · refine State.cmpStart_keeps hP ?_
            refine hP.wr (c := 4) rfl (Fin.isLt _) ?_
            exact hs0
          · exact hs0
        · refine ite_keeps ?_ ?_
          · refine State.homingStop_keeps hP ?_
            exact hs0
          · refine ite_keeps ?_ ?_
            · refine hP.wrs (c := 4) rfl (Fin.isLt _) ?_ (fun _ h => hP.wrs (c := 4) rfl (Fin.isLt _) h (fun _ h => h))
              refine State.trcClose_keeps hP ?_
              exact hs0
            · refine ite_keeps ?_ ?_
              · refine hP.same s (by as_aux_lemma => rfl) (by as_aux_lemma => rfl) ?_
                exact hs0
              · refine ite_keeps ?_ ?_
                · refine State.enumStop_keeps hP ?_
                  exact hs0
                · refine ite_keeps ?_ ?_
                  · extract_lets +onlyGivenNames x2
                    have h3 : P x2 := by
                      subst x2
                      refine hP.modLp (fun _ => rfl) ?_
                      exact hs0
                    try clear_value x2
                    refine ite_keeps ?_ ?_
                    · refine hP.wrs (c := 4) rfl (by omega) ?_ (fun _ h => hP.wrs (c := 4) rfl (by omega) h (fun _ h => h))
                      exact h3
                    · exact h3
                  · exact hs0
    · refine ite_keeps ?_ ?_
      · refine hP.same s (by as_aux_lemma => rfl) (by as_aux_lemma => rfl) ?_
        exact hs0
      · refine ite_keeps ?_ ?_
        · refine State.enumStop_keeps hP ?_
          exact hs0
        · exact hs0

theorem State.jobFail_keeps (hP : Settles P) {s : State} {k : Fin 16} {cause : ℕ} (hs0 : P s) : P (State.jobFail s k cause) := by
  unfold State.jobFail
  refine State.jobEnd_keeps hP ?_
  refine State.jobStop_keeps hP ?_
  refine State.setJob_keeps hP ?_
  exact hs0

theorem State.jobsFail_keeps (hP : Settles P) {s : State} {p : Job → Bool} {cause : ℕ} (hs0 : P s) : P (State.jobsFail s p cause) := by
  unfold State.jobsFail
  refine foldl_keeps (fun a0 a1 h2 => ?_) _ ?_
  · refine ite_keeps ?_ ?_
    · refine State.jobFail_keeps hP ?_
      exact h2
    · exact h2
  · exact hs0

theorem State.chJobsFail_keeps (hP : Settles P) {s : State} {n : Ch} {cause : ℕ} (hs0 : P s) : P (State.chJobsFail s n cause) := by
  unfold State.chJobsFail
  refine State.jobsFail_keeps hP ?_
  exact hs0

theorem State.putBit_keeps (hP : Settles P) {s : State} {f : Fld} {c i k : Nat} {b : Bool} (hf : settleHas c f = true) (hi : i < c) (hs0 : P s) :
    P (State.putBit s f i k b) := by
  unfold State.putBit
  exact ite_keeps (hP.orBits hf hi hs0) (hP.clrBits hf hi hs0)

theorem State.unform_keeps (hP : Settles P) {s : State} {n : Ch} (hs0 : P s) : P (State.unform s n) := by
  unfold State.unform
  extract_lets +onlyGivenNames x0
  subst x0
  extract_lets +onlyGivenNames x1
  have h2 : P x1 := by
    subst x1
    refine hP.modCh (fun _ => rfl) ?_
    exact hs0
  try clear_value x1
  refine ite_keeps ?_ ?_
  · refine State.putBit_keeps hP (c := 1) rfl (by decide) ?_
    refine hP.wrs (c := 4) rfl (Fin.isLt _) ?_ (fun _ h => hP.wrs (c := 4) rfl (Fin.isLt _) h (fun _ h => h))
    exact h2
  · exact h2

theorem State.hoEnd_keeps (hP : Settles P) {s : State} {n : Ch} (hs0 : P s) : P (State.hoEnd s n) := by
  unfold State.hoEnd
  refine hP.modCh (fun _ => rfl) ?_
  refine hP.wrs (c := 4) rfl (Fin.isLt _) ?_ (fun _ h => hP.wrs (c := 4) rfl (Fin.isLt _) h (fun _ h => h))
  exact hs0

theorem State.engineStop_keeps (hP : Settles P) {s : State} {n : Ch} (hs0 : P s) : P (State.engineStop s n) := by
  unfold State.engineStop
  refine hP.modCh Chan.engineStop_still ?_
  refine hP.wrs (c := 4) rfl (Fin.isLt _) ?_ (fun _ h => hP.wrs (c := 4) rfl (Fin.isLt _) h (fun _ h => hP.wrs (c := 4) rfl (Fin.isLt _) h (fun _ h => h)))
  exact hs0

theorem State.limpLatch_keeps (hP : Settles P) {s : State} {n : Ch} (hs0 : P s) : P (State.limpLatch s n) := by
  unfold State.limpLatch
  extract_lets +onlyGivenNames x0
  subst x0
  refine hP.modCh (fun _ => rfl) ?_
  exact hs0

theorem State.jobStart_keeps (hP : Settles P) {s : State} {origin typ tgt : Nat} {params : List Word} (hs0 : P s) :
    P (State.jobStart s origin typ tgt params).1 := by
  unfold State.jobStart
  split
  · exact hs0
  · split
    · exact hs0
    · split
      · exact hs0
      · exact hP.same s rfl rfl hs0

theorem State.stestPost_keeps (hP : Settles P) {s : State} {n : Ch} (hs0 : P s) : P (State.stestPost s n) := by
  unfold State.stestPost
  split
  · rename_i y0 y1 e2
    have h3 : P y0 := by
      rw [show y0 = _ from (congrArg Prod.fst e2).symm]
      refine State.jobStart_keeps hP ?_
      exact hs0
    extract_lets +onlyGivenNames x4
    try clear_value x4
    refine ite_keeps ?_ ?_
    · refine hP.same s (by as_aux_lemma => rfl) (by as_aux_lemma => rfl) ?_
      exact hs0
    · refine hP.same y0 (by as_aux_lemma => rfl) (by as_aux_lemma => rfl) ?_
      exact h3

theorem State.homingFail_keeps (hP : Settles P) {s : State} {n : Ch} (hs0 : P s) : P (State.homingFail s n) := by
  unfold State.homingFail
  refine State.jobsFail_keeps hP ?_
  exact hs0

theorem State.toState_keeps (hP : Settles P) {s : State} {n : Ch} {tgt : ChState} {cause : ℕ} (hs0 : P s) : P (State.toState s n tgt cause) := by
  unfold State.toState
  extract_lets +onlyGivenNames x0
  subst x0
  extract_lets +onlyGivenNames x1
  try clear_value x1
  extract_lets +onlyGivenNames x2
  have h3 : P x2 := by
    subst x2
    refine hP.wrs (c := 4) rfl (Fin.isLt _) ?_ (fun _ h => hP.wrs (c := 4) rfl (Fin.isLt _) h (fun _ h => hP.wrs (c := 4) rfl (Fin.isLt _) h (fun _ h => hP.wrs (c := 4) rfl (Fin.isLt _) h (fun _ h => h))))
    exact hs0
  try clear_value x2
  extract_lets +onlyGivenNames x4
  have h5 : P x4 := by
    subst x4
    refine ite_keeps ?_ ?_
    · exact h3
    · refine State.grvEvent_keeps hP ?_
      refine hP.wr (c := 4) rfl (Fin.isLt _) ?_
      exact h3
  try clear_value x4
  extract_lets +onlyGivenNames x6
  have h7 : P x6 := by
    subst x6
    refine ite_keeps ?_ ?_
    · refine State.trcFire_keeps hP ?_
      exact h5
    · exact h5
  try clear_value x6
  extract_lets +onlyGivenNames x8
  have h9 : P x8 := by
    subst x8
    refine ite_keeps ?_ ?_
    · refine State.hoEnd_keeps hP ?_
      exact h7
    · exact h7
  try clear_value x8
  extract_lets +onlyGivenNames x10
  have h11 : P x10 := by
    subst x10
    refine ite_keeps ?_ ?_
    · refine State.engineStop_keeps hP ?_
      exact h9
    · exact h9
  try clear_value x10
  extract_lets +onlyGivenNames x12
  have h13 : P x12 := by
    subst x12
    refine ite_keeps ?_ ?_
    · refine hP.wr (c := 4) rfl (Fin.isLt _) ?_
      exact h11
    · exact h11
  try clear_value x12
  extract_lets +onlyGivenNames x14
  have h15 : P x14 := by
    subst x14
    refine ite_keeps ?_ ?_
    · refine hP.wr (c := 4) rfl (Fin.isLt _) ?_
      exact h13
    · exact h13
  try clear_value x14
  extract_lets +onlyGivenNames x16
  have h17 : P x16 := by
    subst x16
    refine ite_keeps ?_ ?_
    · exact h15
    · refine hP.wr (c := 4) rfl (Fin.isLt _) ?_
      exact h15
  try clear_value x16
  extract_lets +onlyGivenNames x18
  have h19 : P x18 := by
    subst x18
    refine ite_keeps ?_ ?_
    · exact h17
    · refine hP.wr (c := 4) rfl (Fin.isLt _) ?_
      exact h17
  try clear_value x18
  extract_lets +onlyGivenNames x20
  have h21 : P x20 := by
    subst x20
    refine ite_keeps ?_ ?_
    · refine hP.wr (c := 4) rfl (Fin.isLt _) ?_
      refine hP.wr (c := 4) rfl (Fin.isLt _) ?_
      exact h19
    · refine hP.wr (c := 4) rfl (Fin.isLt _) ?_
      exact h19
  try clear_value x20
  extract_lets +onlyGivenNames x22
  have h23 : P x22 := by
    subst x22
    refine hP.modCh (fun _ => rfl) ?_
    exact h21
  try clear_value x22
  extract_lets +onlyGivenNames x24
  have h25 : P x24 := by
    subst x24
    refine ite_keeps ?_ ?_
    · refine State.limpLatch_keeps hP ?_
      exact h23
    · exact h23
  try clear_value x24
  extract_lets +onlyGivenNames x26
  have h27 : P x26 := by
    subst x26
    refine ite_keeps ?_ ?_
    · refine State.stestPost_keeps hP ?_
      exact h25
    · exact h25
  try clear_value x26
  refine ite_keeps ?_ ?_
  · refine State.homingFail_keeps hP ?_
    exact h27
  · exact h27

theorem State.raiseOn_keeps (hP : Settles P) {s : State} {i : ℕ} {r : FltRec} {n : Ch} (hs0 : P s) : P (State.raiseOn s i r n) := by
  unfold State.raiseOn
  refine ite_keeps ?_ ?_
  · exact hs0
  · refine State.whenCh_keeps (fun a0 h1 => ?_) ?_
    · extract_lets +onlyGivenNames x2
      try clear_value x2
      extract_lets +onlyGivenNames x3
      try clear_value x3
      extract_lets +onlyGivenNames x4
      try clear_value x4
      extract_lets +onlyGivenNames x5
      have h6 : P x5 := by
        subst x5
        refine ite_keeps ?_ ?_
        · refine State.chJobsFail_keeps hP ?_
          exact h1
        · exact h1
      try clear_value x5
      extract_lets +onlyGivenNames x7
      have h8 : P x7 := by
        subst x7
        refine ite_keeps ?_ ?_
        · refine State.unform_keeps hP ?_
          exact h6
        · exact h6
      try clear_value x7
      extract_lets +onlyGivenNames x9
      have h10 : P x9 := by
        subst x9
        refine ite_keeps ?_ ?_
        · refine hP.modCh (fun _ => rfl) ?_
          exact h8
        · exact h8
      try clear_value x9
      refine ite_keeps ?_ ?_
      · refine State.toState_keeps hP ?_
        refine State.setFr_keeps hP ?_
        exact h10
      · refine ite_keeps ?_ ?_
        · refine hP.modCh (fun _ => rfl) ?_
          refine State.toState_keeps hP ?_
          exact h10
        · refine ite_keeps ?_ ?_
          · refine State.toState_keeps hP ?_
            exact h10
          · exact h10
    · exact hs0

theorem Settles.orders (hP : Settles P) {s : State} {a b : Nat} (h : P s) : P { s with haltSeq := a, fltSeq := b } := hP.same s rfl rfl h

theorem State.haltPin_keeps (hP : Settles P) {s : State} (hs0 : P s) : P (State.haltPin s) := by
  unfold State.haltPin
  refine hP.flag (c := 1) rfl (by decide) ?_
  exact hs0

theorem State.haltAssert_keeps (hP : Settles P) {s : State} {cause : ℕ} (hs0 : P s) : P (State.haltAssert s cause) := by
  unfold State.haltAssert
  refine ite_keeps ?_ ?_
  · exact hs0
  · extract_lets +onlyGivenNames x0
    have h1 : P x0 := by
      subst x0
      refine hP.wrs (c := 1) rfl (by decide) ?_ (fun _ h => hP.wrs (c := 1) rfl (by decide) h (fun _ h => hP.wrs (c := 1) rfl (by decide) h (fun _ h => hP.wrs (c := 1) rfl (by decide) h (fun _ h => hP.wrs (c := 1) rfl (by decide) h (fun _ h => hP.wrs (c := 1) rfl (by decide) h (fun _ h => h))))))
      exact hs0
    try clear_value x0
    extract_lets +onlyGivenNames w2 x3
    have h4 : P x3 := by
      subst x3 w2
      exact hP.orders (State.haltPin_keeps hP h1)
    try clear_value w2 x3
    refine State.forCh_keeps (fun a5 a6 h7 => ?_) ?_
    · refine State.whenCh_keeps (fun a8 h9 => ?_) ?_
      · extract_lets +onlyGivenNames x10
        have h11 : P x10 := by
          subst x10
          refine State.grvEvent_keeps hP ?_
          refine State.chJobsFail_keeps hP ?_
          exact h9
        try clear_value x10
        extract_lets +onlyGivenNames x12
        have h13 : P x12 := by
          subst x12
          refine State.trcFire_keeps hP ?_
          exact h11
        try clear_value x12
        extract_lets +onlyGivenNames x14
        try clear_value x14
        refine ite_keeps ?_ ?_
        · exact h13
        · refine State.toState_keeps hP ?_
          exact h13
      · exact h7
    · exact h4

theorem State.raiseNew_keeps (hP : Settles P) {s : State} {i : ℕ} {named : Sw} {acts : BitVec 4} {r : FltRec} (hi : ∀ n, srcChan i = some n → n < 4) (hs0 : P s) : P (State.raiseNew s i named acts r) := by
  unfold State.raiseNew
  extract_lets +onlyGivenNames w0 x1
  try clear_value w0 x1
  extract_lets +onlyGivenNames x2
  try clear_value x2
  extract_lets +onlyGivenNames w3 x4
  have h5 : P x4 := by
    subst x4 w3
    refine hP.same (State.setFr s i x1) (by as_aux_lemma => rfl) (by as_aux_lemma => rfl) ?_
    refine State.setFr_keeps hP ?_
    exact hs0
  try clear_value w3 x4
  extract_lets +onlyGivenNames x6
  have h7 : P x6 := by
    subst x6
    refine State.setFaultBit_keeps hP ?_
    exact h5
  try clear_value x6
  extract_lets +onlyGivenNames x8
  have h9 : P x8 := by
    subst x8
    refine State.capture_keeps hP ?_
    exact h7
  try clear_value x8
  extract_lets +onlyGivenNames x10
  have h11 : P x10 := by
    subst x10
    refine State.report_keeps hP ?_
    exact h9
  try clear_value x10
  extract_lets +onlyGivenNames x12
  have h13 : P x12 := by
    subst x12
    refine State.forCh_keeps (fun a14 a15 h16 => ?_) ?_
    · refine State.raiseOn_keeps hP ?_
      exact h16
    · exact h11
  try clear_value x12
  extract_lets +onlyGivenNames x17
  have h18 : P x17 := by
    subst x17
    split
    · rename_i n e
      refine ite_keeps ?_ ?_
      · refine hP.wr (c := 4) rfl (hi n e) ?_
        exact h13
      · exact h13
    · exact h13
  try clear_value x17
  refine ite_keeps ?_ ?_
  · refine State.haltAssert_keeps hP ?_
    exact h18
  · exact h18

/-- A source that exists names a channel the block has. -/
theorem srcChan_lt {i n : Nat} (h : srcExists i = true) (e : srcChan i = some n) : n < 4 := by
  unfold srcChan at e
  unfold srcExists at h
  split at e
  · cases e
  · simp only [Option.some.injEq] at e
    simp only [Bool.or_eq_true, Bool.and_eq_true, decide_eq_true_eq] at h
    omega

theorem State.raiseActs_keeps (hP : Settles P) {s : State} {i : ℕ} {named : Sw} {acts : BitVec 4} (hs0 : P s) : P (State.raiseActs s i named acts) := by
  unfold State.raiseActs
  split
  · exact hs0
  · rename_i hd
    extract_lets +onlyGivenNames x0
    try clear_value x0
    extract_lets +onlyGivenNames x1
    have h2 : P x1 := by
      subst x1
      refine State.loopFails_keeps hP ?_
      exact hs0
    try clear_value x1
    extract_lets +onlyGivenNames x3
    try clear_value x3
    extract_lets +onlyGivenNames x4
    try clear_value x4
    refine ite_keeps ?_ ?_
    · extract_lets +onlyGivenNames x5
      have h6 : P x5 := by
        subst x5
        refine State.setFr_keeps hP ?_
        exact h2
      try clear_value x5
      refine ite_keeps ?_ ?_
      · refine State.forCh_keeps (fun a7 a8 h9 => ?_) ?_
        · refine ite_keeps ?_ ?_
          · refine hP.modCh (fun _ => rfl) ?_
            exact h9
          · exact h9
        · exact h6
      · exact h6
    · refine ite_keeps ?_ ?_
      · refine State.setFr_keeps hP ?_
        exact h2
      · refine State.raiseNew_keeps hP (fun n e => srcChan_lt (by revert hd; simp +contextual [State.srcDisabled]) e) ?_
        exact h2

theorem State.raise_keeps (hP : Settles P) {s : State} {i : ℕ} {named : Sw} (hs0 : P s) : P (State.raise s i named) := by
  unfold State.raise
  refine State.raiseActs_keeps hP ?_
  exact hs0

theorem State.raiseCh_keeps (hP : Settles P) {s : State} {n : Ch} {o : ℕ} {named : Sw} (hs0 : P s) : P (State.raiseCh s n o named) := by
  unfold State.raiseCh
  refine State.raise_keeps hP ?_
  exact hs0

theorem State.settle_keeps (hP : Settles P) {s : State} {n : Ch} (hs0 : P s) : P (State.settle s n) := by
  unfold State.settle
  extract_lets +onlyGivenNames x0
  try clear_value x0
  extract_lets +onlyGivenNames x1
  have h2 : P x1 := by
    subst x1
    refine State.takeGates_keeps hP ?_
    exact hs0
  try clear_value x1
  refine ite_keeps ?_ ?_
  · exact h2
  · refine State.forCh_keeps (fun a3 a4 h5 => ?_) ?_
    · refine State.takeGates_keeps hP ?_
      exact h5
    · refine State.raiseCh_keeps hP ?_
      exact h2

theorem State.settleAll_keeps (hP : Settles P) {s : State} (hs0 : P s) : P (State.settleAll s) := by
  unfold State.settleAll
  refine State.forCh_keeps (fun a0 a1 h2 => ?_) ?_
  · refine State.whenCh_keeps (fun a3 h4 => ?_) ?_
    · refine State.brkShow_keeps hP ?_
      refine State.settle_keeps hP ?_
      exact h4
    · exact h2
  · exact hs0

theorem State.condDrop_keeps (hP : Settles P) {s : State} {i : ℕ} {fin : State → State} (hf1 : ∀ a0, P a0 → P (fin a0)) (hs0 : P s) : P (State.condDrop s i fin) := by
  unfold State.condDrop
  extract_lets +onlyGivenNames x0
  try clear_value x0
  extract_lets +onlyGivenNames x1
  have h2 : P x1 := by
    subst x1
    refine State.setFr_keeps hP ?_
    exact hs0
  try clear_value x1
  refine ite_keeps ?_ ?_
  · refine hf1 _ ?_
    exact h2
  · exact h2

theorem State.dropHeld_keeps (hP : Settles P) {s : State} {i : ℕ} (hs0 : P s) : P (State.dropHeld s i) := by
  unfold State.dropHeld
  split
  · exact hs0
  · refine dite_keeps (fun _ => ?_) (fun _ => ?_)
    · extract_lets +onlyGivenNames x0
      subst x0
      extract_lets +onlyGivenNames x1
      try clear_value x1
      refine ite_keeps ?_ ?_
      · refine hP.modCh (fun _ => rfl) ?_
        exact hs0
      · refine ite_keeps ?_ ?_
        · refine hP.modCh (fun _ => rfl) ?_
          exact hs0
        · refine ite_keeps ?_ ?_
          · refine ite_keeps ?_ ?_
            · refine hP.modCh (fun _ => rfl) ?_
              exact hs0
            · exact hs0
          · refine ite_keeps ?_ ?_
            · refine hP.wr (c := 4) rfl (by omega) ?_
              exact hs0
            · exact hs0
    · exact hs0

theorem State.endRec_keeps (hP : Settles P) {s : State} {i : ℕ} (hs0 : P s) : P (State.endRec s i) := by
  unfold State.endRec
  extract_lets +onlyGivenNames x0
  try clear_value x0
  extract_lets +onlyGivenNames x1
  have h2 : P x1 := by
    subst x1
    refine State.setFr_keeps hP ?_
    exact hs0
  try clear_value x1
  refine State.dropHeld_keeps hP ?_
  refine hP.wr (c := 1) rfl (by decide) ?_
  exact h2

theorem State.short2Update_keeps (hP : Settles P) {s : State} {n : Ch} (hs0 : P s) : P (State.short2Update s n) := by
  unfold State.short2Update
  extract_lets +onlyGivenNames x0
  try clear_value x0
  refine ite_keeps ?_ ?_
  · refine State.condDrop_keeps hP (fun a1 h2 => ?_) ?_
    · refine State.endRec_keeps hP ?_
      exact h2
    · exact hs0
  · exact hs0

theorem State.faultEnd_keeps (hP : Settles P) {s : State} {i : ℕ} (hs0 : P s) : P (State.faultEnd s i) := by
  unfold State.faultEnd
  extract_lets +onlyGivenNames x0
  have h1 : P x0 := by
    subst x0
    refine State.endRec_keeps hP ?_
    exact hs0
  try clear_value x0
  split
  · refine State.short2Update_keeps hP ?_
    exact h1
  · refine State.short2Update_keeps hP ?_
    exact h1
  · refine State.short2Update_keeps hP ?_
    exact h1
  · refine State.short2Update_keeps hP ?_
    exact h1
  · exact h1

theorem State.condOff_keeps (hP : Settles P) {s : State} {i : ℕ} (hs0 : P s) : P (State.condOff s i) := by
  unfold State.condOff
  extract_lets +onlyGivenNames x0
  have h1 : P x0 := by
    subst x0
    refine ite_keeps ?_ ?_
    · refine hP.wr (c := 1) rfl (by decide) ?_
      exact hs0
    · exact hs0
  try clear_value x0
  refine State.condDrop_keeps hP (fun a2 h3 => ?_) ?_
  · refine State.faultEnd_keeps hP ?_
    exact h3
  · exact h1

theorem State.condSet_keeps (hP : Settles P) {s : State} {i : ℕ} {b : Bool} (hs0 : P s) : P (State.condSet s i b) := by
  unfold State.condSet
  refine ite_keeps ?_ ?_
  · refine ite_keeps ?_ ?_
    · exact hs0
    · refine State.raise_keeps hP ?_
      exact hs0
  · refine ite_keeps ?_ ?_
    · refine State.condOff_keeps hP ?_
      exact hs0
    · exact hs0

theorem State.safeAssert_keeps (hP : Settles P) {s : State} {n : Ch} {b : ℕ} (hs0 : P s) : P (State.safeAssert s n b) := by
  unfold State.safeAssert
  extract_lets +onlyGivenNames x0
  have h1 : P x0 := by
    subst x0
    refine hP.orBits (c := 1) rfl (by decide) ?_
    exact hs0
  try clear_value x0
  refine ite_keeps ?_ ?_
  · exact h1
  · extract_lets +onlyGivenNames x2
    have h3 : P x2 := by
      subst x2
      refine hP.wr (c := 1) rfl (by decide) ?_
      refine hP.orBits (c := 1) rfl (by decide) ?_
      exact h1
    try clear_value x2
    extract_lets +onlyGivenNames x4
    have h5 : P x4 := by
      subst x4
      refine State.raiseCh_keeps hP ?_
      exact h3
    try clear_value x4
    refine ite_keeps ?_ ?_
    · refine State.haltAssert_keeps hP ?_
      refine hP.same x4 (by as_aux_lemma => rfl) (by as_aux_lemma => rfl) ?_
      exact h5
    · exact h5

theorem State.safeAll_keeps (hP : Settles P) {s : State} {b : ℕ} (hs0 : P s) : P (State.safeAll s b) := by
  unfold State.safeAll
  refine State.forCh_keeps (fun a0 a1 h2 => ?_) ?_
  · refine ite_keeps ?_ ?_
    · refine State.safeAssert_keeps hP ?_
      exact h2
    · exact h2
  · exact hs0

end Sys2Proof.Machine
end

