-- ==== Sys2Proof/Laws/Settled.lean ====
section
/-! SUPPORT. The frame of a command that ends in a raise or in the settling of the gates, and what follows from it. -/

namespace Sys2Proof.Machine

theorem settles_settled (l : List (Nat × Word)) (s : State) : Settles (Settled l s) where
  word := fun {_} a w e h => ⟨h.1.setWord a w (by
    ext i hi
    have := congrArg (·.getLsbD i) e
    simp only [← BitVec.getLsbD_eq_getElem, BitVec.getLsbD_and, BitVec.getLsbD_not, BitVec.getLsbD_or, hi] at this ⊢
    cases h3 : (settleBits a).getLsbD i <;> simp_all), h.2⟩
  same := fun _ _ e k h => ⟨h.1.of_regs e, k.trans h.2⟩

theorem settles_canon : Settles State.Canon where
  word := fun a w _ h => ⟨State.setWord_wf _ a w h.1, h.2⟩
  same := fun s t e k h => by
    have : t.still.mem = s.still.mem := congrArg State.mem k
    have : t.mem = s.mem := this
    exact ⟨by rw [e]; exact h.1, by rw [this]; exact h.2⟩

theorem Settled.refl (l : List (Nat × Word)) (s : State) : Settled l s s := ⟨RegsKept.refl _ s, rfl⟩

theorem Settled.trans {l : List (Nat × Word)} {s t u : State} (h : Settled l s t) (k : Settled l t u) : Settled l s u :=
  ⟨h.1.trans k.1, k.2.trans h.2⟩

/-- A field of `l` is written. -/
theorem Settled.wr {l : List (Nat × Word)} {s t : State} (h : Settled l s t) (f : Fld) (i v : Nat) (hf : f.ok) (c : f.at i ∈ l) :
    Settled l s (t.wr f i v) := by
  refine ⟨h.1.wr f i v hf ?_, h.2⟩
  have := maskAt_mem c
  ext k hk
  have := congrArg (·.getLsbD k) this
  simp only [Fld.at, ← BitVec.getLsbD_eq_getElem, BitVec.getLsbD_and, BitVec.getLsbD_not, BitVec.getLsbD_or, BitVec.getLsbD_zero, hk] at this ⊢
  cases h3 : (settleBits (f.addr i)).getLsbD k <;> simp_all

/-- A change that the frame hides. -/
theorem Settled.same {l : List (Nat × Word)} {s t u : State} (h : Settled l s t) (e : u.regs = t.regs) (k : u.still = t.still) : Settled l s u :=
  (settles_settled l s).same t e k h

theorem Settled.mem {l : List (Nat × Word)} {s t : State} (h : Settled l s t) : t.mem = s.mem := show t.still.mem = s.still.mem by rw [h.2]
theorem Settled.byte {l : List (Nat × Word)} {s t : State} (h : Settled l s t) (a : Nat) : t.byte a = s.byte a := by
  simp only [State.byte, h.mem]
theorem Settled.pending {l : List (Nat × Word)} {s t : State} (h : Settled l s t) : t.pending = s.pending := show t.still.pending = s.still.pending by rw [h.2]

/-- A field that neither the frame nor `l` covers reads as before. -/
theorem Settled.rd {l : List (Nat × Word)} {s t : State} (h : Settled l s t) (f : Fld) (i : Nat) (hf : f.ok)
    (c : f.mask &&& (settleBits (f.addr i) ||| maskAt l (f.addr i)) = 0#32) : t.rd f i = s.rd f i := h.1.rd f i hf c

theorem Settled.settleAll {l : List (Nat × Word)} {s t : State} (h : Settled l s t) : Settled l s t.settleAll :=
  State.settleAll_keeps (settles_settled l s) h

theorem Settled.raise {l : List (Nat × Word)} {s t : State} (h : Settled l s t) (i : Nat) (m : Sw) : Settled l s (t.raise i m) :=
  State.raise_keeps (settles_settled l s) h

end Sys2Proof.Machine
end

