-- ==== Sys2Proof/Laws/SoundBase.lean ====
section
/-! SUPPORT. Properties of a state that every operation of the model keeps: those that look at the queue, the clock, the part's
variant, the canonical form of registers and memory, the gates, whose every change the interlock makes, and the OTP's fuses, which only
programming changes. -/

namespace Sys2Proof.Machine

/-- What the properties look at. -/
def State.base (s : State) : State :=
  { State.reset with
    pending := s.pending, now := s.now, hl2880 := s.hl2880, regs := s.regs, mem := s.mem,
    chan := s.chan.map fun c => { Chan.reset with prot.gates := c.prot.gates }, otp.fuse := s.otp.fuse }

theorem State.base_eq {s t : State} (e1 : t.pending = s.pending) (e2 : t.now = s.now) (e3 : t.hl2880 = s.hl2880) (e4 : t.regs = s.regs)
    (e5 : t.mem = s.mem) (e6 : t.chan = s.chan) (e7 : t.otp.fuse = s.otp.fuse) : t.base = s.base := by
  simp only [State.base, e1, e2, e3, e4, e5, e6, e7]

/-- Every primitive update keeps `P`. -/
structure Sound (P : State → Prop) : Prop where
  setWord {s : State} (a : Nat) (w : Word) (h : P s) : P (s.setWord a w)
  setByte {s : State} (a : Nat) (b : BitVec 8) (h : P s) : P (s.setByte a b)
  erase {s : State} (q : Nat → Bool) (h : P s) : P { s with regs := mapClear s.regs q }
  eraseMem {s : State} (q : Host.Cell → Bool) (h : P s) : P { s with mem := s.mem.filter q }
  same (s : State) {t : State} (e : t.base = s.base) (h : P s) : P t
  gates {s : State} (n : Ch) (g : Sw) (e : conflict g = 0#6) (h : P s) : P (s.modCh n fun c => { c with prot.gates := g })
  reset {s : State} (q : Host.Cell → Bool) (h : P s) :
    P { State.reset with pending := s.pending, now := s.now, hl2880 := s.hl2880, mem := s.mem.filter q, otp.fuse := s.otp.fuse }
  blow {s : State} (k : Nat) (w : Word) (h : P s) :
    P { s with otp.fuse := mapPut (fun _ => 0#32) s.otp.fuse k (mapGet (fun _ => 0#32) s.otp.fuse k ||| w) }

variable {P : State → Prop}

theorem ite_sound {c : Prop} [Decidable c] {a b : State} (ha : P a) (hb : P b) : P (if c then a else b) := by split <;> assumption

theorem ite_fst {α : Type} {c : Prop} [Decidable c] {a b : State × α} (ha : P a.1) (hb : P b.1) : P (if c then a else b).1 := by split <;> assumption

theorem ite_snd {α : Type} {c : Prop} [Decidable c] {a b : α × State} (ha : P a.2) (hb : P b.2) : P (if c then a else b).2 := by split <;> assumption

theorem fst_mk {α : Type} {a : State} {b : α} (h : P a) : P (a, b).1 := h

theorem snd_mk {α : Type} {a : α} {b : State} (h : P b) : P (a, b).2 := h

theorem dite_sound {c : Prop} [Decidable c] {a : c → State} {b : ¬c → State} (ha : ∀ h, P (a h)) (hb : ∀ h, P (b h)) :
    P (if h : c then a h else b h) := by split; exact ha _; exact hb _

theorem foldl_sound {α : Type} {f : State → α → State} (hf : ∀ s a, P s → P (f s a)) (l : List α) {s : State} (h : P s) : P (l.foldl f s) := by
  induction l generalizing s with
  | nil => exact h
  | cons a l ih => exact ih (hf s a h)

theorem State.setWord_sound (hP : Sound P) {s : State} {a : Nat} {w : Word} (h : P s) : P (s.setWord a w) := hP.setWord a w h

theorem State.setByte_sound (hP : Sound P) {s : State} {a : Nat} {b : BitVec 8} (h : P s) : P (s.setByte a b) := hP.setByte a b h

theorem State.wr_sound (hP : Sound P) {s : State} {f : Fld} {i v : Nat} (h : P s) : P (s.wr f i v) := hP.setWord _ _ h

theorem State.wrs_sound (hP : Sound P) {s : State} {i : Nat} {l : List (Fld × Nat)} (h : P s) : P (s.wrs i l) := by
  induction l generalizing s with
  | nil => exact h
  | cons e l ih => exact ih (hP.setWord _ _ h)

theorem State.resetPages_sound (hP : Sound P) {s : State} {p : Nat → Bool} (h : P s) : P (s.resetPages p) := hP.erase _ h

theorem State.clearMem_sound (hP : Sound P) {s : State} {lo hi : Nat} (h : P s) : P (s.clearMem lo hi) :=
  hP.eraseMem (fun e => !(decide (lo ≤ e.1) && decide (e.1 < hi))) h

theorem State.setMemWord_sound (hP : Sound P) {s : State} {a : Nat} {w : Word} (h : P s) : P (s.setMemWord a w) :=
  hP.setByte _ _ (hP.setByte _ _ (hP.setByte _ _ (hP.setByte _ _ h)))

theorem State.setMemWords_sound (hP : Sound P) {s : State} {a : Nat} {l : List Word} (h : P s) : P (s.setMemWords a l) := by
  induction l generalizing s a with
  | nil => exact h
  | cons w l ih => exact ih (State.setMemWord_sound hP h)

theorem State.setCh_base (s : State) (n : Ch) (c : Chan) (e : c.prot.gates = (s.ch n).prot.gates) : (s.setCh n c).base = s.base := by
  have : (s.setCh n c).chan.map (fun c => { Chan.reset with prot.gates := c.prot.gates }) =
      s.chan.map fun c => { Chan.reset with prot.gates := c.prot.gates } := by
    apply Vector.ext
    intro i hi
    simp only [State.setCh, Vector.getElem_map, Vector.getElem_set]
    split
    · rename_i k; subst k; rw [e]; rfl
    · rfl
  simp only [State.base, this]; rfl

theorem State.setCh_sound (hP : Sound P) {s : State} {n : Ch} {c : Chan} (e : c.prot.gates = (s.ch n).prot.gates) (h : P s) : P (s.setCh n c) :=
  hP.same s (State.setCh_base s n c e) h

theorem State.modCh_sound (hP : Sound P) {s : State} {n : Ch} {g : Chan → Chan} (e : ∀ c, (g c).prot.gates = c.prot.gates) (h : P s) :
    P (s.modCh n g) := State.setCh_sound hP (e _) h

/-- A record changed twice, the gates at the first change. -/
theorem State.modCh_again (hP : Sound P) {s : State} {n : Ch} {g k : Chan → Chan} (e : (k (s.ch n)).prot.gates = (g (s.ch n)).prot.gates)
    (h : P (s.modCh n g)) : P (s.modCh n k) := by
  have : (s.modCh n k).base = (s.modCh n g).base := by
    have : (s.modCh n k).chan.map (fun c => { Chan.reset with prot.gates := c.prot.gates }) =
        (s.modCh n g).chan.map fun c => { Chan.reset with prot.gates := c.prot.gates } := by
      apply Vector.ext
      intro i hi
      simp only [State.modCh, State.setCh, Vector.getElem_map, Vector.getElem_set]
      split
      · rw [e]
      · rfl
    simp only [State.base, this]; rfl
  exact hP.same _ this h

/-- A record whose gates are safe takes the place of another. -/
theorem State.setCh_safe (hP : Sound P) {s : State} {n : Ch} {c : Chan} (e : conflict c.prot.gates = 0#6) (h : P s) : P (s.setCh n c) :=
  State.modCh_again (k := fun _ => c) hP rfl (hP.gates n c.prot.gates e h)

end Sys2Proof.Machine
end

