-- ==== Sys2Proof/Laws/SoundCore.lean ====
section
/-! SUPPORT. The shared operations of registers, fabric, jobs, channel states, faults and gates keep what `Sound` names: one lemma per operation. -/

namespace Sys2Proof.Machine

variable {P : State → Prop}

theorem State.inc_sound (hP : Sound P) {s : State} {f : Fld} {i : Nat} (hs : P s) : P (State.inc s f i) := by
  unfold State.inc
  exact ite_sound (State.wr_sound hP hs) hs

theorem State.incWrap_sound (hP : Sound P) {s : State} {f : Fld} {i : Nat} (hs : P s) : P (State.incWrap s f i) := by
  unfold State.incWrap
  exact State.wr_sound hP hs

theorem State.whenCh_sound (hP : Sound P) {s : State} {n : Ch} {f : State → State} (hf1 : ∀ a0, P a0 → P (f a0)) (hs : P s) : P (State.whenCh s n f) := by
  unfold State.whenCh
  exact ite_sound (hf1 _ hs) hs

theorem State.orBits_sound (hP : Sound P) {s : State} {f : Fld} {i m : Nat} (hs : P s) : P (State.orBits s f i m) := by
  unfold State.orBits
  exact State.wr_sound hP hs

theorem State.grvEvent_sound (hP : Sound P) {s : State} {n : Ch} {b : Nat} (hs : P s) : P (State.grvEvent s n b) := by
  unfold State.grvEvent
  refine State.whenCh_sound hP (fun a0 h1 => ?_) ?_
  · exact State.orBits_sound hP h1
  · exact hs

theorem State.used_sound (hP : Sound P) {s : State} (hs : P s) : P (State.used s) := by
  unfold State.used
  exact hP.same s (State.base_eq rfl rfl rfl rfl rfl rfl rfl) hs

theorem State.forCh_sound (hP : Sound P) {s : State} {f : Ch → State → State} (hf1 : ∀ a0 a3, P a3 → P (f a0 a3)) (hs : P s) : P (State.forCh s f) := by
  unfold State.forCh
  exact hf1 _ _ (hf1 _ _ (hf1 _ _ (hf1 _ _ hs)))

theorem State.flag_sound (hP : Sound P) {s : State} {f : Fld} {i : Nat} {b : Bool} (hs : P s) : P (State.flag s f i b) := by
  unfold State.flag
  exact State.wr_sound hP hs

theorem State.setJob_sound (hP : Sound P) {s : State} {k : Fin 16} {j : Job} (hs : P s) : P (State.setJob s k j) := by
  unfold State.setJob
  exact hP.same s (State.base_eq rfl rfl rfl rfl rfl rfl rfl) hs

theorem State.clrBits_sound (hP : Sound P) {s : State} {f : Fld} {i m : Nat} (hs : P s) : P (State.clrBits s f i m) := by
  unfold State.clrBits
  exact State.wr_sound hP hs

theorem State.putBit_sound (hP : Sound P) {s : State} {f : Fld} {i k : Nat} {b : Bool} (hs : P s) : P (State.putBit s f i k b) := by
  unfold State.putBit
  exact ite_sound (State.orBits_sound hP hs) (State.clrBits_sound hP hs)

theorem State.wrDenied_sound (hP : Sound P) {s : State} {p : Nat} (hs : P s) : P (State.wrDenied s p) := by
  unfold State.wrDenied
  exact State.setWord_sound hP hs

theorem State.incBy_sound (hP : Sound P) {s : State} {f : Fld} {i k : Nat} (hs : P s) : P (State.incBy s f i k) := by
  unfold State.incBy
  exact State.wr_sound hP hs

theorem State.runWr_sound (hP : Sound P) {s : State} {f : Fld} {i v : Nat} (hs : P s) : P (State.runWr s f i v) := by
  unfold State.runWr
  exact State.setWord_sound hP hs

theorem State.setLp_sound (hP : Sound P) {s : State} {p : Ch} {l : LinkPort} (hs : P s) : P (State.setLp s p l) := by
  unfold State.setLp
  exact hP.same s (State.base_eq rfl rfl rfl rfl rfl rfl rfl) hs

theorem State.modLp_sound (hP : Sound P) {s : State} {p : Ch} {g : LinkPort → LinkPort} (hs : P s) : P (State.modLp s p g) := by
  unfold State.modLp
  exact State.setLp_sound hP hs

theorem State.freed_sound (hP : Sound P) {s : State} {ing : Nat} {k : Pkt} (hs : P s) : P (State.freed s ing k) := by
  unfold State.freed
  refine dite_sound (fun _ => ?_) (fun _ => ?_)
  · exact State.modLp_sound hP hs
  · exact hs

theorem State.egress_sound (hP : Sound P) {s : State} {p ing : Nat} {buf : Bool} {k : Pkt} (hs : P s) : P (State.egress s p ing buf k) := by
  unfold State.egress
  refine dite_sound (fun _ => ?_) (fun _ => ?_)
  · exact State.modLp_sound hP hs
  · exact hs

theorem State.goOut_sound (hP : Sound P) {s : State} {ing : Nat} {l : List Nat} {k : Pkt} (hs : P s) : P (State.goOut s ing l k) := by
  unfold State.goOut
  split
  · exact State.freed_sound hP hs
  · refine foldl_sound (fun a0 a1 h2 => ?_) _ ?_
    · exact State.egress_sound hP h2
    · exact State.egress_sound hP hs

theorem State.deliver_sound (hP : Sound P) {s : State} {ing : Nat} {k : Pkt} (hs : P s) : P (State.deliver s ing k) := by
  unfold State.deliver
  exact hP.same s (State.base_eq rfl rfl rfl rfl rfl rfl rfl) hs

theorem State.go_sound (hP : Sound P) {s : State} {ing : Nat} {w : Way} (hs : P s) : P (State.go s ing w) := by
  unfold State.go
  split
  · exact hs
  · extract_lets +onlyGivenNames x0
    have h1 : P x0 := State.goOut_sound hP hs; clear_value x0
    exact ite_sound (State.deliver_sound hP h1) h1

theorem State.answer_sound (hP : Sound P) {s : State} {k : Pkt} {status : Nat} (hs : P s) : P (State.answer s k status) := by
  unfold State.answer
  extract_lets +onlyGivenNames w0 x1; clear_value w0 x1
  split
  · exact State.go_sound hP hs
  · exact hs

theorem State.dropNote_sound (hP : Sound P) {s : State} {ing cause : Nat} {k : Pkt} (hs : P s) : P (State.dropNote s ing cause k) := by
  unfold State.dropNote
  extract_lets +onlyGivenNames x0
  have h1 : P x0 := State.wr_sound hP (State.inc_sound hP hs); clear_value x0
  exact ite_sound h1 (State.wrs_sound hP h1)

theorem State.arrive_sound (hP : Sound P) {s : State} {ing : Nat} {k : Pkt} (hs : P s) : P (State.arrive s ing k) := by
  unfold State.arrive
  exact ite_sound (ite_sound (State.answer_sound hP hs) (State.dropNote_sound hP hs)) (ite_sound (State.answer_sound hP (State.inc_sound hP hs)) (State.deliver_sound hP hs))

theorem State.route_sound (hP : Sound P) {s : State} {ing : Nat} {k : Pkt} (hs : P s) : P (State.route s ing k) := by
  unfold State.route
  split
  · extract_lets +onlyGivenNames x0
    have h1 : P x0 := State.goOut_sound hP hs; clear_value x0
    exact ite_sound (State.arrive_sound hP h1) h1
  · extract_lets +onlyGivenNames x2
    have h3 : P x2 := State.freed_sound hP (State.dropNote_sound hP hs); clear_value x2
    exact ite_sound h3 (State.answer_sound hP (State.inc_sound hP h3))

theorem State.send_sound (hP : Sound P) {s : State} {ing : Nat} {k : Pkt} (hs : P s) : P (State.send s ing k) := by
  unfold State.send
  exact ite_sound (State.route_sound hP hs) hs

theorem State.settleBuckets_sound (hP : Sound P) {s : State} (hs : P s) : P (State.settleBuckets s) := by
  unfold State.settleBuckets
  exact hP.same s (State.base_eq rfl rfl rfl rfl rfl rfl rfl) hs

theorem State.transmit_sound (hP : Sound P) {s : State} {p : Ch} {y : Sym} (hs : P s) : P (State.transmit s p y) := by
  unfold State.transmit
  exact State.modLp_sound hP hs

theorem State.jobEvent_sound (hP : Sound P) {s : State} {origin : Nat} (hs : P s) : P (State.jobEvent s origin) := by
  unfold State.jobEvent
  exact ite_sound (State.grvEvent_sound hP hs) (ite_sound (State.grvEvent_sound hP hs) (ite_sound (State.grvEvent_sound hP hs) (ite_sound (State.grvEvent_sound hP hs) hs)))

theorem State.jobEnd_sound (hP : Sound P) {s : State} {k : Fin 16} {st : JobSt} {cause : Nat} (hs : P s) : P (State.jobEnd s k st cause) := by
  unfold State.jobEnd
  extract_lets +onlyGivenNames x0; clear_value x0
  extract_lets +onlyGivenNames w1 x2
  have h3 : P x2 := by
    subst x2 w1
    exact State.setJob_sound hP hs
  clear_value w1 x2
  exact State.jobEvent_sound hP (State.orBits_sound hP h3)

theorem State.diagStop_sound (hP : Sound P) {s : State} {n : Ch} (hs : P s) : P (State.diagStop s n) := by
  unfold State.diagStop
  exact State.modCh_sound hP (fun _ => rfl) (State.wrs_sound hP hs)

theorem State.cmpStart_sound (hP : Sound P) {s : State} {n : Ch} {c : Nat} (hs : P s) : P (State.cmpStart s n c) := by
  unfold State.cmpStart
  extract_lets +onlyGivenNames x0; subst x0
  exact ite_sound (ite_sound hs (State.orBits_sound hP (State.orBits_sound hP hs))) (ite_sound (State.orBits_sound hP hs) (ite_sound (State.orBits_sound hP hs) hs))

theorem State.homingStop_sound (hP : Sound P) {s : State} {n : Ch} (hs : P s) : P (State.homingStop s n) := by
  unfold State.homingStop
  extract_lets +onlyGivenNames x0; subst x0
  extract_lets +onlyGivenNames x1
  have h2 : P x1 := State.modCh_sound hP (fun _ => rfl) (State.wr_sound hP hs); clear_value x1
  refine ite_sound ?_ ?_
  · extract_lets +onlyGivenNames x3; clear_value x3
    exact State.modCh_sound hP (fun _ => rfl) (State.wrs_sound hP h2)
  · exact State.wr_sound hP h2

theorem State.trcClose_sound (hP : Sound P) {s : State} {n : Ch} (hs : P s) : P (State.trcClose s n) := by
  unfold State.trcClose
  extract_lets +onlyGivenNames x0; clear_value x0
  refine ite_sound ?_ ?_
  · exact hs
  · extract_lets +onlyGivenNames x1; clear_value x1
    extract_lets +onlyGivenNames x2; clear_value x2
    extract_lets +onlyGivenNames x3
    have h4 : P x3 := State.modCh_sound hP (fun _ => rfl) hs; clear_value x3
    split
    · exact State.send_sound hP (State.incWrap_sound hP h4)
    · exact h4

theorem State.enumStop_sound (hP : Sound P) {s : State} (hs : P s) : P (State.enumStop s) := by
  unfold State.enumStop
  extract_lets +onlyGivenNames w0 x1
  have h2 : P x1 := by
    subst x1 w0
    exact hP.same s (State.base_eq rfl rfl rfl rfl rfl rfl rfl) hs
  clear_value w0 x1
  exact State.wr_sound hP h2

theorem State.jobStop_sound (hP : Sound P) {s : State} {k : Fin 16} (hs : P s) : P (State.jobStop s k) := by
  unfold State.jobStop
  extract_lets +onlyGivenNames x0; clear_value x0
  refine ite_sound ?_ ?_
  · exact hs
  · refine dite_sound (fun _ => ?_) (fun _ => ?_)
    · extract_lets +onlyGivenNames x1; subst x1
      refine ite_sound ?_ ?_
      · exact State.diagStop_sound hP hs
      · refine ite_sound ?_ ?_
        · exact ite_sound (State.cmpStart_sound hP (State.wr_sound hP hs)) hs
        · refine ite_sound ?_ ?_
          · exact State.homingStop_sound hP hs
          · refine ite_sound ?_ ?_
            · exact State.wrs_sound hP (State.trcClose_sound hP hs)
            · refine ite_sound ?_ ?_
              · exact hP.same s (State.base_eq rfl rfl rfl rfl rfl rfl rfl) hs
              · refine ite_sound ?_ ?_
                · exact State.enumStop_sound hP hs
                · refine ite_sound ?_ ?_
                  · extract_lets +onlyGivenNames x2
                    have h3 : P x2 := State.modLp_sound hP hs; clear_value x2
                    exact ite_sound (State.wrs_sound hP h3) h3
                  · exact hs
    · exact ite_sound (hP.same s (State.base_eq rfl rfl rfl rfl rfl rfl rfl) hs) (ite_sound (State.enumStop_sound hP hs) hs)

theorem State.jobFail_sound (hP : Sound P) {s : State} {k : Fin 16} {cause : Nat} (hs : P s) : P (State.jobFail s k cause) := by
  unfold State.jobFail
  exact State.jobEnd_sound hP (State.jobStop_sound hP (State.setJob_sound hP hs))

theorem State.jobsFail_sound (hP : Sound P) {s : State} {p : Job → Bool} {cause : Nat} (hs : P s) : P (State.jobsFail s p cause) := by
  unfold State.jobsFail
  refine foldl_sound (fun a0 a1 h2 => ?_) _ ?_
  · exact ite_sound (State.jobFail_sound hP h2) h2
  · exact hs

theorem State.chJobsFail_sound (hP : Sound P) {s : State} {n : Ch} {cause : Nat} (hs : P s) : P (State.chJobsFail s n cause) := by
  unfold State.chJobsFail
  exact State.jobsFail_sound hP hs

theorem State.jobStart_sound (hP : Sound P) {s : State} {origin typ tgt : Nat} {params : List Word} (hs : P s) :
    P (State.jobStart s origin typ tgt params).1 := by
  unfold State.jobStart
  split
  · exact hs
  · split
    · exact hs
    · split
      · exact hs
      · exact hP.same s (State.base_eq rfl rfl rfl rfl rfl rfl rfl) hs

theorem State.stestPost_sound (hP : Sound P) {s : State} {n : Ch} (hs : P s) : P (State.stestPost s n) := by
  unfold State.stestPost
  split
  · rename_i y0 y1 e2
    have h3 : P y0 := by
      rw [show y0 = _ from (congrArg Prod.fst e2).symm]
      exact State.jobStart_sound hP hs
    extract_lets +onlyGivenNames x4; clear_value x4
    exact ite_sound (hP.same s (State.base_eq rfl rfl rfl rfl rfl rfl rfl) hs) (hP.same y0 (State.base_eq rfl rfl rfl rfl rfl rfl rfl) h3)

theorem State.homingFail_sound (hP : Sound P) {s : State} {n : Ch} (hs : P s) : P (State.homingFail s n) := by
  unfold State.homingFail
  exact State.jobsFail_sound hP hs

theorem State.trcFire_sound (hP : Sound P) {s : State} {n : Ch} {src : Nat} (hs : P s) : P (State.trcFire s n src) := by
  unfold State.trcFire
  refine State.whenCh_sound hP (fun a0 h1 => ?_) ?_
  · exact ite_sound (State.modCh_sound hP (fun _ => rfl) h1) h1
  · exact hs

theorem State.hoEnd_sound (hP : Sound P) {s : State} {n : Ch} (hs : P s) : P (State.hoEnd s n) := by
  unfold State.hoEnd
  exact State.modCh_sound hP (fun _ => rfl) (State.wrs_sound hP hs)

theorem State.engineStop_sound (hP : Sound P) {s : State} {n : Ch} (hs : P s) : P (State.engineStop s n) := by
  unfold State.engineStop
  exact State.modCh_sound hP (fun _ => rfl) (State.wrs_sound hP hs)

theorem State.limpLatch_sound (hP : Sound P) {s : State} {n : Ch} (hs : P s) : P (State.limpLatch s n) := by
  unfold State.limpLatch
  extract_lets +onlyGivenNames x0; subst x0
  exact State.modCh_sound hP (fun _ => rfl) hs

theorem State.toState_sound (hP : Sound P) {s : State} {n : Ch} {tgt : ChState} {cause : Nat} (hs : P s) : P (State.toState s n tgt cause) := by
  unfold State.toState
  extract_lets +onlyGivenNames x0; subst x0
  extract_lets +onlyGivenNames x1; clear_value x1
  extract_lets +onlyGivenNames x2
  have h3 : P x2 := State.wrs_sound hP hs; clear_value x2
  extract_lets +onlyGivenNames x4
  have h5 : P x4 := ite_sound h3 (State.grvEvent_sound hP (State.wr_sound hP h3)); clear_value x4
  extract_lets +onlyGivenNames x6
  have h7 : P x6 := ite_sound (State.trcFire_sound hP h5) h5; clear_value x6
  extract_lets +onlyGivenNames x8
  have h9 : P x8 := ite_sound (State.hoEnd_sound hP h7) h7; clear_value x8
  extract_lets +onlyGivenNames x10
  have h11 : P x10 := ite_sound (State.engineStop_sound hP h9) h9; clear_value x10
  extract_lets +onlyGivenNames x12
  have h13 : P x12 := ite_sound (State.wr_sound hP h11) h11; clear_value x12
  extract_lets +onlyGivenNames x14
  have h15 : P x14 := ite_sound (State.wr_sound hP h13) h13; clear_value x14
  extract_lets +onlyGivenNames x16
  have h17 : P x16 := ite_sound h15 (State.wr_sound hP h15); clear_value x16
  extract_lets +onlyGivenNames x18
  have h19 : P x18 := ite_sound h17 (State.wr_sound hP h17); clear_value x18
  extract_lets +onlyGivenNames x20
  have h21 : P x20 := ite_sound (State.wr_sound hP (State.wr_sound hP h19)) (State.wr_sound hP h19); clear_value x20
  extract_lets +onlyGivenNames x22
  have h23 : P x22 := State.modCh_sound hP (fun _ => rfl) h21; clear_value x22
  extract_lets +onlyGivenNames x24
  have h25 : P x24 := ite_sound (State.limpLatch_sound hP h23) h23; clear_value x24
  extract_lets +onlyGivenNames x26
  have h27 : P x26 := ite_sound (State.stestPost_sound hP h25) h25; clear_value x26
  exact ite_sound (State.homingFail_sound hP h27) h27

theorem State.ask_sound (hP : Sound P) {s : State} {n : Ch} {tgt : ChState} {cause : Nat} (hs : P s) : P (State.ask s n tgt cause) := by
  unfold State.ask
  exact State.modCh_sound hP (fun _ => rfl) hs

theorem State.loopFails_sound (hP : Sound P) {s : State} {i : Nat} (hs : P s) : P (State.loopFails s i) := by
  unfold State.loopFails
  refine ite_sound ?_ ?_
  · split
    · exact hs
    · refine dite_sound (fun _ => ?_) (fun _ => ?_)
      · refine State.whenCh_sound hP (fun a0 h1 => ?_) ?_
        · exact State.modCh_sound hP (fun _ => rfl) h1
        · exact hs
      · exact hs
  · exact hs

theorem State.setFr_sound (hP : Sound P) {s : State} {i : Nat} {r : FltRec} (hs : P s) : P (State.setFr s i r) := by
  unfold State.setFr
  exact hP.same s (State.base_eq rfl rfl rfl rfl rfl rfl rfl) hs

theorem State.setFaultBit_sound (hP : Sound P) {s : State} {i : Nat} (hs : P s) : P (State.setFaultBit s i) := by
  unfold State.setFaultBit
  split
  · exact hs
  · extract_lets +onlyGivenNames x0; clear_value x0
    extract_lets +onlyGivenNames x1
    have h2 : P x1 := State.orBits_sound hP hs; clear_value x1
    refine ite_sound ?_ ?_
    · exact h2
    · refine ite_sound ?_ ?_
      · exact h2
      · split
        · exact State.trcFire_sound hP (State.grvEvent_sound hP h2)
        · exact State.trcFire_sound hP (State.grvEvent_sound hP h2)
        · exact State.trcFire_sound hP (State.grvEvent_sound hP h2)
        · exact State.trcFire_sound hP (State.grvEvent_sound hP h2)
        · exact h2

theorem State.capture_sound (hP : Sound P) {s : State} {i : Nat} {r : FltRec} (hs : P s) : P (State.capture s i r) := by
  unfold State.capture
  extract_lets +onlyGivenNames x0
  have h1 : P x0 := State.wr_sound hP hs; clear_value x0
  extract_lets +onlyGivenNames x2
  have h3 : P x2 := ite_sound (State.wr_sound hP h1) h1; clear_value x2
  extract_lets +onlyGivenNames x4
  have h5 : P x4 := ite_sound (State.wr_sound hP h3) h3; clear_value x4
  extract_lets +onlyGivenNames x6
  have h7 : P x6 := ite_sound h5 (State.wrs_sound hP h5); clear_value x6
  exact State.wrs_sound hP h7

theorem State.report_sound (hP : Sound P) {s : State} {i : Nat} {r : FltRec} (hs : P s) : P (State.report s i r) := by
  unfold State.report
  refine ite_sound ?_ ?_
  · extract_lets +onlyGivenNames x0; clear_value x0
    refine ite_sound ?_ ?_
    · extract_lets +onlyGivenNames x1
      have h2 : P x1 := State.inc_sound hP hs; clear_value x1
      exact hP.same x1 (State.base_eq rfl rfl rfl rfl rfl rfl rfl) h2
    · extract_lets +onlyGivenNames x3
      have h4 : P x3 := hP.same s (State.base_eq rfl rfl rfl rfl rfl rfl rfl) hs; clear_value x3
      exact State.send_sound hP h4
  · exact hs

theorem State.unform_sound (hP : Sound P) {s : State} {n : Ch} (hs : P s) : P (State.unform s n) := by
  unfold State.unform
  extract_lets +onlyGivenNames x0; subst x0
  extract_lets +onlyGivenNames x1
  have h2 : P x1 := State.modCh_sound hP (fun _ => rfl) hs; clear_value x1
  exact ite_sound (State.putBit_sound hP (State.wrs_sound hP h2)) h2

theorem State.raiseOn_sound (hP : Sound P) {s : State} {i : Nat} {r : FltRec} {n : Ch} (hs : P s) : P (State.raiseOn s i r n) := by
  unfold State.raiseOn
  refine ite_sound ?_ ?_
  · exact hs
  · refine State.whenCh_sound hP (fun a0 h1 => ?_) ?_
    · extract_lets +onlyGivenNames x2; clear_value x2
      extract_lets +onlyGivenNames x3; clear_value x3
      extract_lets +onlyGivenNames x4; clear_value x4
      extract_lets +onlyGivenNames x5
      have h6 : P x5 := ite_sound (State.chJobsFail_sound hP h1) h1; clear_value x5
      extract_lets +onlyGivenNames x7
      have h8 : P x7 := ite_sound (State.unform_sound hP h6) h6; clear_value x7
      extract_lets +onlyGivenNames x9
      have h10 : P x9 := ite_sound (State.modCh_sound hP (fun _ => rfl) h8) h8; clear_value x9
      exact ite_sound (State.toState_sound hP (State.setFr_sound hP h10)) (ite_sound (State.modCh_sound hP (fun _ => rfl) (State.toState_sound hP h10)) (ite_sound (State.toState_sound hP h10) h10))
    · exact hs

theorem State.haltPin_sound (hP : Sound P) {s : State} (hs : P s) : P (State.haltPin s) := by
  unfold State.haltPin
  exact State.flag_sound hP hs

theorem State.haltAssert_sound (hP : Sound P) {s : State} {cause : Nat} (hs : P s) : P (State.haltAssert s cause) := by
  unfold State.haltAssert
  refine ite_sound ?_ ?_
  · exact hs
  · extract_lets +onlyGivenNames x0
    have h1 : P x0 := State.wrs_sound hP hs; clear_value x0
    extract_lets +onlyGivenNames w2 x3
    have h4 : P x3 := by
      subst x3 w2
      have b5 : P (State.haltPin x0) := by
        exact State.haltPin_sound hP h1
      generalize (State.haltPin x0) = b6 at b5 ⊢
      exact hP.same b6 (State.base_eq rfl rfl rfl rfl rfl rfl rfl) b5
    clear_value w2 x3
    refine State.forCh_sound hP (fun a7 a8 h9 => ?_) ?_
    · refine State.whenCh_sound hP (fun a10 h11 => ?_) ?_
      · extract_lets +onlyGivenNames x12
        have h13 : P x12 := State.grvEvent_sound hP (State.chJobsFail_sound hP h11); clear_value x12
        extract_lets +onlyGivenNames x14
        have h15 : P x14 := State.trcFire_sound hP h13; clear_value x14
        extract_lets +onlyGivenNames x16; clear_value x16
        exact ite_sound h15 (State.toState_sound hP h15)
      · exact h9
    · exact h4

theorem State.raiseNew_sound (hP : Sound P) {s : State} {i : Nat} {named : Sw} {acts : BitVec 4} {r : FltRec} (hs : P s) : P (State.raiseNew s i named acts r) := by
  unfold State.raiseNew
  extract_lets +onlyGivenNames w0 x1; clear_value w0 x1
  extract_lets +onlyGivenNames x2; clear_value x2
  extract_lets +onlyGivenNames w3 x4
  have h5 : P x4 := by
    subst x4 w3
    have b6 : P (State.setFr s i x1) := by
      exact State.setFr_sound hP hs
    generalize (State.setFr s i x1) = b7 at b6 ⊢
    exact hP.same b7 (State.base_eq rfl rfl rfl rfl rfl rfl rfl) b6
  clear_value w3 x4
  extract_lets +onlyGivenNames x8
  have h9 : P x8 := State.setFaultBit_sound hP h5; clear_value x8
  extract_lets +onlyGivenNames x10
  have h11 : P x10 := State.capture_sound hP h9; clear_value x10
  extract_lets +onlyGivenNames x12
  have h13 : P x12 := State.report_sound hP h11; clear_value x12
  extract_lets +onlyGivenNames x14
  have h15 : P x14 := by
    subst x14
    refine State.forCh_sound hP (fun a16 a17 h18 => ?_) ?_
    · exact State.raiseOn_sound hP h18
    · exact h13
  clear_value x14
  extract_lets +onlyGivenNames x19
  have h20 : P x19 := by
    subst x19
    split
    · exact ite_sound (State.wr_sound hP h15) h15
    · exact h15
  clear_value x19
  exact ite_sound (State.haltAssert_sound hP h20) h20

theorem State.raiseActs_sound (hP : Sound P) {s : State} {i : Nat} {named : Sw} {acts : BitVec 4} (hs : P s) : P (State.raiseActs s i named acts) := by
  unfold State.raiseActs
  refine ite_sound ?_ ?_
  · exact hs
  · extract_lets +onlyGivenNames x0; clear_value x0
    extract_lets +onlyGivenNames x1
    have h2 : P x1 := State.loopFails_sound hP hs; clear_value x1
    extract_lets +onlyGivenNames x3; clear_value x3
    extract_lets +onlyGivenNames x4; clear_value x4
    refine ite_sound ?_ ?_
    · extract_lets +onlyGivenNames x5
      have h6 : P x5 := State.setFr_sound hP h2; clear_value x5
      refine ite_sound ?_ ?_
      · refine State.forCh_sound hP (fun a7 a8 h9 => ?_) ?_
        · exact ite_sound (State.modCh_sound hP (fun _ => rfl) h9) h9
        · exact h6
      · exact h6
    · exact ite_sound (State.setFr_sound hP h2) (State.raiseNew_sound hP h2)

theorem State.raise_sound (hP : Sound P) {s : State} {i : Nat} {named : Sw} (hs : P s) : P (State.raise s i named) := by
  unfold State.raise
  exact State.raiseActs_sound hP hs

theorem State.raiseCh_sound (hP : Sound P) {s : State} {n : Ch} {o : Nat} {named : Sw} (hs : P s) : P (State.raiseCh s n o named) := by
  unfold State.raiseCh
  exact State.raise_sound hP hs

theorem State.condDrop_sound (hP : Sound P) {s : State} {i : Nat} {fin : State → State} (hf1 : ∀ a0, P a0 → P (fin a0)) (hs : P s) : P (State.condDrop s i fin) := by
  unfold State.condDrop
  extract_lets +onlyGivenNames x0; clear_value x0
  extract_lets +onlyGivenNames x1
  have h2 : P x1 := State.setFr_sound hP hs; clear_value x1
  exact ite_sound (hf1 _ h2) h2

theorem State.dropHeld_sound (hP : Sound P) {s : State} {i : Nat} (hs : P s) : P (State.dropHeld s i) := by
  unfold State.dropHeld
  split
  · exact hs
  · refine dite_sound (fun _ => ?_) (fun _ => ?_)
    · extract_lets +onlyGivenNames x0; subst x0
      extract_lets +onlyGivenNames x1; clear_value x1
      refine ite_sound ?_ ?_
      · exact State.modCh_sound hP (fun _ => rfl) hs
      · exact ite_sound (State.modCh_sound hP (fun _ => rfl) hs) (ite_sound (ite_sound (State.modCh_sound hP (fun _ => rfl) hs) hs) (ite_sound (State.wr_sound hP hs) hs))
    · exact hs

theorem State.endRec_sound (hP : Sound P) {s : State} {i : Nat} (hs : P s) : P (State.endRec s i) := by
  unfold State.endRec
  extract_lets +onlyGivenNames x0; clear_value x0
  extract_lets +onlyGivenNames x1
  have h2 : P x1 := State.setFr_sound hP hs; clear_value x1
  exact State.dropHeld_sound hP (State.wr_sound hP h2)

theorem State.short2Update_sound (hP : Sound P) {s : State} {n : Ch} (hs : P s) : P (State.short2Update s n) := by
  unfold State.short2Update
  extract_lets +onlyGivenNames x0; clear_value x0
  refine ite_sound ?_ ?_
  · refine State.condDrop_sound hP (fun a1 h2 => ?_) ?_
    · exact State.endRec_sound hP h2
    · exact hs
  · exact hs

theorem State.faultEnd_sound (hP : Sound P) {s : State} {i : Nat} (hs : P s) : P (State.faultEnd s i) := by
  unfold State.faultEnd
  extract_lets +onlyGivenNames x0
  have h1 : P x0 := State.endRec_sound hP hs; clear_value x0
  split
  · exact State.short2Update_sound hP h1
  · exact State.short2Update_sound hP h1
  · exact State.short2Update_sound hP h1
  · exact State.short2Update_sound hP h1
  · exact h1

theorem State.condOff_sound (hP : Sound P) {s : State} {i : Nat} (hs : P s) : P (State.condOff s i) := by
  unfold State.condOff
  extract_lets +onlyGivenNames x0
  have h1 : P x0 := ite_sound (State.wr_sound hP hs) hs; clear_value x0
  refine State.condDrop_sound hP (fun a2 h3 => ?_) ?_
  · exact State.faultEnd_sound hP h3
  · exact h1

theorem State.condSet_sound (hP : Sound P) {s : State} {i : Nat} {b : Bool} (hs : P s) : P (State.condSet s i b) := by
  unfold State.condSet
  exact ite_sound (ite_sound hs (State.raise_sound hP hs)) (ite_sound (State.condOff_sound hP hs) hs)

theorem State.condOffCh_sound (hP : Sound P) {s : State} {n : Ch} {o : Nat} (hs : P s) : P (State.condOffCh s n o) := by
  unfold State.condOffCh
  exact State.condOff_sound hP hs

theorem State.safeRelease_sound (hP : Sound P) {s : State} {n : Ch} (hs : P s) : P (State.safeRelease s n) := by
  unfold State.safeRelease
  refine ite_sound ?_ ?_
  · extract_lets +onlyGivenNames x0
    have h1 : P x0 := State.clrBits_sound hP hs; clear_value x0
    extract_lets +onlyGivenNames x2
    have h3 : P x2 := State.clrBits_sound hP h1; clear_value x2
    extract_lets +onlyGivenNames x4; clear_value x4
    extract_lets +onlyGivenNames w5 x6
    have h7 : P x6 := by
      subst x6 w5
      exact ite_sound (State.endRec_sound hP (State.setFr_sound hP h3)) h3
    clear_value w5 x6
    exact ite_sound (hP.same x6 (State.base_eq rfl rfl rfl rfl rfl rfl rfl) h7) h7
  · exact hs

theorem State.safeAssert_sound (hP : Sound P) {s : State} {n : Ch} {b : Nat} (hs : P s) : P (State.safeAssert s n b) := by
  unfold State.safeAssert
  extract_lets +onlyGivenNames x0
  have h1 : P x0 := State.orBits_sound hP hs; clear_value x0
  refine ite_sound ?_ ?_
  · exact h1
  · extract_lets +onlyGivenNames x2
    have h3 : P x2 := State.wr_sound hP (State.orBits_sound hP h1); clear_value x2
    extract_lets +onlyGivenNames x4
    have h5 : P x4 := State.raiseCh_sound hP h3; clear_value x4
    exact ite_sound (State.haltAssert_sound hP (hP.same x4 (State.base_eq rfl rfl rfl rfl rfl rfl rfl) h5)) h5

theorem State.safeAll_sound (hP : Sound P) {s : State} {b : Nat} (hs : P s) : P (State.safeAll s b) := by
  unfold State.safeAll
  refine State.forCh_sound hP (fun a0 a1 h2 => ?_) ?_
  · exact ite_sound (State.safeAssert_sound hP h2) h2
  · exact hs

theorem State.brkShow_sound (hP : Sound P) {s : State} {n : Ch} (hs : P s) : P (State.brkShow s n) := by
  unfold State.brkShow
  extract_lets +onlyGivenNames x0; subst x0
  extract_lets +onlyGivenNames x1; clear_value x1
  extract_lets +onlyGivenNames x2; clear_value x2
  extract_lets +onlyGivenNames x3; clear_value x3
  extract_lets +onlyGivenNames x4
  have h5 : P x4 := State.modCh_sound hP (fun _ => rfl) hs; clear_value x4
  extract_lets +onlyGivenNames x6
  have h7 : P x6 := State.flag_sound hP (State.flag_sound hP h5); clear_value x6
  refine ite_sound ?_ ?_
  · exact State.modCh_sound hP (fun _ => rfl) (State.wr_sound hP h7)
  · refine ite_sound ?_ ?_
    · extract_lets +onlyGivenNames x8; clear_value x8
      exact State.modCh_sound hP (fun _ => rfl) (State.wr_sound hP h7)
    · exact h7

theorem conflict_interlock (g r m : Sw) : conflict (interlock g r m) = 0#6 := by
  unfold interlock
  generalize g ||| r = x
  revert x m
  unfold swLegs conflict swHigh swLow
  decide

theorem State.takeGates_sound (hP : Sound P) {s : State} {n : Ch} (hs : P s) : P (State.takeGates s n) := by
  unfold State.takeGates
  extract_lets +onlyGivenNames x0 x1
  have e : conflict x0 = 0#6 := conflict_interlock _ _ _
  clear_value x0 x1
  exact State.modCh_again hP rfl (hP.gates n x0 e hs)

theorem State.settle_sound (hP : Sound P) {s : State} {n : Ch} (hs : P s) : P (State.settle s n) := by
  unfold State.settle
  extract_lets +onlyGivenNames x0; clear_value x0
  extract_lets +onlyGivenNames x1
  have h2 : P x1 := State.takeGates_sound hP hs; clear_value x1
  refine ite_sound ?_ ?_
  · exact h2
  · refine State.forCh_sound hP (fun a3 a4 h5 => ?_) ?_
    · exact State.takeGates_sound hP h5
    · exact State.raiseCh_sound hP h2

theorem State.settleAll_sound (hP : Sound P) {s : State} (hs : P s) : P (State.settleAll s) := by
  unfold State.settleAll
  refine State.forCh_sound hP (fun a0 a1 h2 => ?_) ?_
  · refine State.whenCh_sound hP (fun a3 h4 => ?_) ?_
    · exact State.brkShow_sound hP (State.settle_sound hP h4)
    · exact h2
  · exact hs

theorem State.pcPut_sound (hP : Sound P) {s : State} {n : Ch} {k v : Nat} (hs : P s) : P (State.pcPut s n k v) := by
  unfold State.pcPut
  extract_lets +onlyGivenNames x0; clear_value x0
  extract_lets +onlyGivenNames x1
  have h2 : P x1 := State.wr_sound hP hs; clear_value x1
  exact State.condSet_sound hP h2

theorem State.pcClear_sound (hP : Sound P) {s : State} {n : Ch} {all : Bool} (hs : P s) : P (State.pcClear s n all) := by
  unfold State.pcClear
  refine foldl_sound (fun a0 a1 h2 => ?_) _ ?_
  · exact ite_sound (State.pcPut_sound hP h2) h2
  · exact hs

theorem execObsPcClr_sound (hP : Sound P) {n : Ch} {s : State} (hs : P s) : ∃ s', execObsPcClr n s = .next s' ∧ P s' := by
  unfold execObsPcClr
  refine ⟨_, rfl, ?_⟩
  refine State.whenCh_sound hP (fun a0 h1 => ?_) ?_
  · exact State.settleAll_sound hP (State.pcClear_sound hP h1)
  · exact hs

theorem State.pcEval_sound (hP : Sound P) {s : State} {n : Ch} {k : Nat} {bad : Bool} (hs : P s) : P (State.pcEval s n k bad) := by
  unfold State.pcEval
  refine ite_sound ?_ ?_
  · exact hs
  · extract_lets +onlyGivenNames x0; clear_value x0
    exact State.pcPut_sound hP hs

theorem State.vbusCheck_sound (hP : Sound P) {s : State} {n : Ch} (hs : P s) : P (State.vbusCheck s n) := by
  unfold State.vbusCheck
  split
  · exact hs
  · extract_lets +onlyGivenNames x0; clear_value x0
    extract_lets +onlyGivenNames x1; clear_value x1
    exact State.pcEval_sound hP (State.modCh_sound hP (fun _ => rfl) hs)

end Sys2Proof.Machine
end

