-- ==== Sys2Proof/Laws/SoundSense.lean ====
section
/-! SUPPORT. Carrier, converters and position block keep what `Sound` names: one lemma per operation. -/

namespace Sys2Proof.Machine

variable {P : State → Prop}

theorem execPwmCntClr_sound (hP : Sound P) {n : Ch} {s : State} (hs : P s) : ∃ s', execPwmCntClr n s = .next s' ∧ P s' := by
  unfold execPwmCntClr
  refine ⟨_, rfl, ?_⟩
  refine State.whenCh_sound hP (fun a0 h1 => ?_) ?_
  · exact State.wrs_sound hP h1
  · exact hs

theorem State.carrierSync_sound (hP : Sound P) {s : State} {n : Ch} (hs : P s) : P (State.carrierSync s n).1 := by
  unfold State.carrierSync
  extract_lets +onlyGivenNames x0; subst x0
  refine ite_fst ?_ ?_
  · extract_lets +onlyGivenNames x1
    have h2 : P x1 := State.modCh_sound hP (fun _ => rfl) (State.wrs_sound hP hs); clear_value x1
    exact fst_mk (State.condSet_sound hP h2)
  · extract_lets +onlyGivenNames x3; clear_value x3
    extract_lets +onlyGivenNames x4; clear_value x4
    extract_lets +onlyGivenNames x5; clear_value x5
    extract_lets +onlyGivenNames x6
    have h7 : P x6 := ite_sound (State.wr_sound hP hs) hs; clear_value x6
    extract_lets +onlyGivenNames x8
    have h9 : P x8 := State.flag_sound hP (State.wr_sound hP h7); clear_value x8
    extract_lets +onlyGivenNames x10; clear_value x10
    extract_lets +onlyGivenNames x11
    have h12 : P x11 := State.modCh_sound hP (fun _ => rfl) h9; clear_value x11
    extract_lets +onlyGivenNames x13; clear_value x13
    extract_lets +onlyGivenNames x14
    have h15 : P x14 := ite_sound (State.condSet_sound hP h12) (ite_sound (State.condSet_sound hP h12) h12); clear_value x14
    extract_lets +onlyGivenNames x16; clear_value x16
    exact fst_mk h15

theorem State.noRefresh_sound (hP : Sound P) {s : State} {n : Ch} (hs : P s) : P (State.noRefresh s n) := by
  unfold State.noRefresh
  exact State.modCh_sound hP (fun _ => rfl) (State.wr_sound hP hs)

theorem State.putPlan_sound (hP : Sound P) {s : State} {n : Ch} {on : Vector Nat 3} {pl : Plan} (hs : P s) : P (State.putPlan s n on pl) := by
  unfold State.putPlan
  extract_lets +onlyGivenNames x0; subst x0
  extract_lets +onlyGivenNames x1; clear_value x1
  extract_lets +onlyGivenNames x2; clear_value x2
  exact State.modCh_sound hP (fun _ => rfl) (State.wrs_sound hP hs)

theorem State.countPlan_sound (hP : Sound P) {s : State} {n : Ch} {sup miss : Nat} (hs : P s) : P (State.countPlan s n sup miss) := by
  unfold State.countPlan
  extract_lets +onlyGivenNames x0; subst x0
  extract_lets +onlyGivenNames x1; clear_value x1
  extract_lets +onlyGivenNames x2
  have h3 : P x2 := ite_sound hs (State.wr_sound hP (State.incBy_sound hP hs)); clear_value x2
  extract_lets +onlyGivenNames x4
  have h5 : P x4 := ite_sound h3 (State.wr_sound hP (State.incBy_sound hP h3)); clear_value x4
  exact State.modCh_sound hP (fun _ => rfl) h5

theorem State.planPeriod_sound (hP : Sound P) {s : State} {n : Ch} {e : Nat} (hs : P s) : P (State.planPeriod s n e) := by
  unfold State.planPeriod
  extract_lets +onlyGivenNames x0; subst x0
  extract_lets +onlyGivenNames x1
  have h2 : P x1 := ite_sound hs (State.noRefresh_sound hP hs); clear_value x1
  extract_lets +onlyGivenNames x3; clear_value x3
  extract_lets +onlyGivenNames x4; clear_value x4
  split
  · exact State.modCh_sound hP (fun _ => rfl) (State.wrs_sound hP h2)
  · exact State.modCh_sound hP (fun _ => rfl) (State.wrs_sound hP h2)
  · exact State.modCh_sound hP (fun _ => rfl) (State.wrs_sound hP h2)
  · extract_lets +onlyGivenNames x5; clear_value x5
    exact State.modCh_sound hP (fun _ => rfl) h2
  · extract_lets +onlyGivenNames x6; clear_value x6
    extract_lets +onlyGivenNames x7
    have h8 : P x7 := ite_sound (State.used_sound hP h2) h2; clear_value x7
    extract_lets +onlyGivenNames x9; clear_value x9
    exact State.putPlan_sound hP (State.countPlan_sound hP h8)

theorem State.firstBoundary_sound (hP : Sound P) {s : State} {n : Ch} (hs : P s) : P (State.firstBoundary s n) := by
  unfold State.firstBoundary
  extract_lets +onlyGivenNames x0
  have h1 : P x0 := State.grvEvent_sound hP (State.incWrap_sound hP hs); clear_value x0
  split
  · rename_i y2 y3 e4
    have h5 : P y2 := by
      rw [show y2 = _ from (congrArg Prod.fst e4).symm]
      exact State.carrierSync_sound hP h1
    extract_lets +onlyGivenNames x6; clear_value x6
    extract_lets +onlyGivenNames x7; clear_value x7
    extract_lets +onlyGivenNames x8; clear_value x8
    extract_lets +onlyGivenNames x9
    have h10 : P x9 := State.modCh_sound hP (fun _ => rfl) h5; clear_value x9
    exact State.settleAll_sound hP (State.planPeriod_sound hP h10)

theorem State.boundaryRelease_sound (hP : Sound P) {s : State} {n : Ch} (hs : P s) : P (State.boundaryRelease s n) := by
  unfold State.boundaryRelease
  extract_lets +onlyGivenNames x0; clear_value x0
  extract_lets +onlyGivenNames x1; clear_value x1
  extract_lets +onlyGivenNames x2; clear_value x2
  exact State.modCh_sound hP (fun _ => rfl) hs

theorem State.brkMinPulse_sound (hP : Sound P) {s : State} {n : Ch} (hs : P s) : P (State.brkMinPulse s n) := by
  unfold State.brkMinPulse
  extract_lets +onlyGivenNames x0; subst x0
  extract_lets +onlyGivenNames x1; clear_value x1
  exact ite_sound (State.wr_sound hP (State.incBy_sound hP hs)) hs

theorem State.identDuty_sound (hP : Sound P) {s : State} {n : Ch} (hs : P s) : P (State.identDuty s n) := by
  unfold State.identDuty
  extract_lets +onlyGivenNames x0
  have h1 : P x0 := hP.same s (State.base_eq rfl rfl rfl rfl rfl rfl rfl) hs; clear_value x0
  refine ite_sound ?_ ?_
  · extract_lets +onlyGivenNames x2; clear_value x2
    extract_lets +onlyGivenNames x3; clear_value x3
    exact State.modCh_sound hP (fun _ => rfl) (hP.same x0 (State.base_eq rfl rfl rfl rfl rfl rfl rfl) h1)
  · exact h1

theorem State.dutyLoad_sound (hP : Sound P) {s : State} {n : Ch} (hs : P s) : P (State.dutyLoad s n) := by
  unfold State.dutyLoad
  extract_lets +onlyGivenNames x0; clear_value x0
  extract_lets +onlyGivenNames x1
  have h2 : P x1 := by
    subst x1
    split
    · exact State.modCh_sound hP (fun _ => rfl) hs
    · exact State.modCh_sound hP (fun _ => rfl) hs
  clear_value x1
  exact ite_sound (State.raiseCh_sound hP h2) h2

theorem State.refreshCount_sound (hP : Sound P) {s : State} {n : Ch} (hs : P s) : P (State.refreshCount s n) := by
  unfold State.refreshCount
  extract_lets +onlyGivenNames x0; subst x0
  extract_lets +onlyGivenNames x1; clear_value x1
  extract_lets +onlyGivenNames x2; clear_value x2
  extract_lets +onlyGivenNames x3; clear_value x3
  extract_lets +onlyGivenNames x4
  have h5 : P x4 := State.modCh_sound hP (fun _ => rfl) hs; clear_value x4
  exact ite_sound h5 (State.wr_sound hP (State.incBy_sound hP h5))

theorem State.takeSector_sound (hP : Sound P) {s : State} {n : Ch} (hs : P s) : P (State.takeSector s n) := by
  unfold State.takeSector
  split
  · exact State.modCh_sound hP (fun _ => rfl) (State.wr_sound hP hs)
  · exact hs

theorem State.refreshDue_sound (hP : Sound P) {s : State} {n : Ch} {e : Nat} (hs : P s) : P (State.refreshDue s n e) := by
  unfold State.refreshDue
  extract_lets +onlyGivenNames x0; subst x0
  extract_lets +onlyGivenNames x1; clear_value x1
  extract_lets +onlyGivenNames x2; clear_value x2
  extract_lets +onlyGivenNames x3; clear_value x3
  extract_lets +onlyGivenNames x4; clear_value x4
  exact State.wr_sound hP (State.modCh_sound hP (fun _ => rfl) hs)

theorem State.boundary_sound (hP : Sound P) {s : State} {n : Ch} (hs : P s) : P (State.boundary s n) := by
  unfold State.boundary
  extract_lets +onlyGivenNames x0; subst x0
  extract_lets +onlyGivenNames x1; clear_value x1
  extract_lets +onlyGivenNames x2
  have h3 : P x2 := State.grvEvent_sound hP (State.incWrap_sound hP hs); clear_value x2
  extract_lets +onlyGivenNames x4
  have h5 : P x4 := State.boundaryRelease_sound hP h3; clear_value x4
  extract_lets +onlyGivenNames x6
  have h7 : P x6 := State.brkMinPulse_sound hP (State.identDuty_sound hP (State.dutyLoad_sound hP h5)); clear_value x6
  extract_lets +onlyGivenNames x8; clear_value x8
  extract_lets +onlyGivenNames x9; clear_value x9
  extract_lets +onlyGivenNames x10
  have h11 : P x10 := State.refreshCount_sound hP h7; clear_value x10
  extract_lets +onlyGivenNames x12
  have h13 : P x12 := ite_sound (State.takeSector_sound hP h11) h11; clear_value x12
  split
  · rename_i y14 y15 e16
    have h17 : P y14 := by
      rw [show y14 = _ from (congrArg Prod.fst e16).symm]
      exact State.carrierSync_sound hP h13
    extract_lets +onlyGivenNames x18; clear_value x18
    extract_lets +onlyGivenNames x19; clear_value x19
    extract_lets +onlyGivenNames x20; clear_value x20
    extract_lets +onlyGivenNames x21; clear_value x21
    extract_lets +onlyGivenNames x22
    have h23 : P x22 := State.modCh_sound hP (fun _ => rfl) h17; clear_value x22
    exact State.settleAll_sound hP (State.planPeriod_sound hP (State.refreshDue_sound hP h23))

theorem execPeriodBoundary_sound (hP : Sound P) {n : Ch} {s : State} (hs : P s) : ∃ s', execPeriodBoundary n s = .next s' ∧ P s' := by
  unfold execPeriodBoundary
  refine ⟨_, rfl, ?_⟩
  refine ite_sound ?_ ?_
  · split
    · exact ite_sound (State.firstBoundary_sound hP hs) hs
    · exact State.boundary_sound hP hs
  · exact hs

theorem execPwmEdge_sound (hP : Sound P) {n : Ch} {p : Nat} {s : State} (hs : P s) : ∃ s', execPwmEdge n p s = .next s' ∧ P s' := by
  unfold execPwmEdge
  refine ⟨_, rfl, ?_⟩
  exact ite_sound (State.settle_sound hP (State.brkShow_sound hP (State.modCh_sound hP (fun _ => rfl) hs))) hs

theorem execSectorChange_sound (hP : Sound P) {n : Ch} {s : State} (hs : P s) : ∃ s', execSectorChange n s = .next s' ∧ P s' := by
  unfold execSectorChange
  refine ⟨_, rfl, ?_⟩
  refine ite_sound ?_ ?_
  · extract_lets +onlyGivenNames x0
    have h1 : P x0 := State.takeSector_sound hP hs; clear_value x0
    extract_lets +onlyGivenNames x2; clear_value x2
    exact State.settle_sound hP (State.putPlan_sound hP h1)
  · exact hs

theorem State.calibrate_sound (hP : Sound P) {s : State} {n : Ch} {z : Bool} (hs : P s) : P (State.calibrate s n z) := by
  unfold State.calibrate
  extract_lets +onlyGivenNames x0; clear_value x0
  exact ite_sound (State.modCh_sound hP (fun _ => rfl) (State.wr_sound hP hs)) (State.wr_sound hP hs)

theorem execOffcal_sound (hP : Sound P) {n : Ch} {s : State} (hs : P s) : ∃ s', execOffcal n s = .next s' ∧ P s' := by
  unfold execOffcal
  refine ⟨_, rfl, ?_⟩
  refine State.whenCh_sound hP (fun a0 h1 => ?_) ?_
  · exact State.calibrate_sound hP h1
  · exact hs

theorem execZcal_sound (hP : Sound P) {n : Ch} {s : State} (hs : P s) : ∃ s', execZcal n s = .next s' ∧ P s' := by
  unfold execZcal
  refine ⟨_, rfl, ?_⟩
  refine State.whenCh_sound hP (fun a0 h1 => ?_) ?_
  · exact State.calibrate_sound hP h1
  · exact hs

theorem execDiagTestiWrite_sound (hP : Sound P) {n : Ch} {v : Word} {s : State} (hs : P s) : ∃ s', execDiagTestiWrite n v s = .next s' ∧ P s' := by
  unfold execDiagTestiWrite
  refine ⟨_, rfl, ?_⟩
  refine State.whenCh_sound hP (fun a0 h1 => ?_) ?_
  · exact State.wrs_sound hP h1
  · exact hs

theorem State.phaseResult_sound (hP : Sound P) {s : State} {n : Ch} {fv fc fr fo : Fld} {valid : Bool} {raw : Nat} (hs : P s) : P (State.phaseResult s n fv fc fr fo valid raw) := by
  unfold State.phaseResult
  extract_lets +onlyGivenNames x0; subst x0
  extract_lets +onlyGivenNames x1
  have h2 : P x1 := State.wrs_sound hP hs; clear_value x1
  exact ite_sound (State.wr_sound hP h2) h2

theorem State.phaseResults_sound (hP : Sound P) {s : State} {n : Ch} {q : Samp} {a b c : Nat} (hs : P s) : P (State.phaseResults s n q a b c) := by
  unfold State.phaseResults
  extract_lets +onlyGivenNames x0; subst x0
  extract_lets +onlyGivenNames x1; clear_value x1
  extract_lets +onlyGivenNames x2
  have h3 : ∀ a4 a6, P a4 → P (x2 a4 a6) := by
    intro a4 a6 h5
    subst x2
    beta_reduce
    exact State.phaseResult_sound hP h5
  clear_value x2
  extract_lets +onlyGivenNames x7
  have h8 : ∀ a9 a11 a12, P a9 → P (x7 a9 a11 a12) := by
    intro a9 a11 a12 h10
    subst x7
    beta_reduce
    exact State.phaseResult_sound hP h10
  clear_value x7
  extract_lets +onlyGivenNames x13
  have h14 : ∀ a15, P a15 → P (x13 a15) := by
    intro a15 h16
    subst x13
    beta_reduce
    exact State.wrs_sound hP h16
  clear_value x13
  split
  · exact State.phaseResult_sound hP (h8 _ _ _ (h3 _ _ hs))
  · exact h14 _ (h8 _ _ _ (h3 _ _ hs))
  · extract_lets +onlyGivenNames x17
    have h18 : P x17 := ite_sound (State.wr_sound hP hs) (h3 _ _ hs); clear_value x17
    extract_lets +onlyGivenNames x19
    have h20 : P x19 := ite_sound (State.wr_sound hP h18) (h8 _ _ _ h18); clear_value x19
    exact h14 _ h20

theorem execAdcConversionDone_sound (hP : Sound P) {n : Ch} {a b c : BitVec 12} {s : State} (hs : P s) : ∃ s', execAdcConversionDone n a b c s = .next s' ∧ P s' := by
  unfold execAdcConversionDone
  refine ⟨_, rfl, ?_⟩
  refine State.whenCh_sound hP (fun a0 h1 => ?_) ?_
  · split
    · exact ite_sound h1 (State.modCh_sound hP (fun _ => rfl) (State.phaseResults_sound hP h1))
    · exact h1
  · exact hs

theorem execVseqStart_sound (hP : Sound P) {n : Ch} {s : State} (hs : P s) : ∃ s', execVseqStart n s = .next s' ∧ P s' := by
  unfold execVseqStart
  refine ⟨_, rfl, ?_⟩
  refine State.whenCh_sound hP (fun a0 h1 => ?_) ?_
  · extract_lets +onlyGivenNames x2; clear_value x2
    exact ite_sound (State.modCh_sound hP (fun _ => rfl) h1) h1
  · exact hs

theorem State.vresPut_sound (hP : Sound P) {s : State} {n : Ch} {l : List (Nat × Nat)} (hs : P s) : P (State.vresPut s n l) := by
  unfold State.vresPut
  refine foldl_sound (fun a0 a1 h2 => ?_) _ ?_
  · split
    · exact State.wrs_sound hP h2
    · exact State.wr_sound hP h2
  · exact hs

theorem execVseqSlotDone_sound (hP : Sound P) {n : Ch} {code : BitVec 12} {temp : Word} {s : State} (hs : P s) : ∃ s', execVseqSlotDone n code temp s = .next s' ∧ P s' := by
  unfold execVseqSlotDone
  refine ⟨_, rfl, ?_⟩
  refine State.whenCh_sound hP (fun a0 h1 => ?_) ?_
  · split
    · extract_lets +onlyGivenNames x2
      have h3 : P x2 := ite_sound (State.wr_sound hP h1) h1; clear_value x2
      extract_lets +onlyGivenNames x4; clear_value x4
      refine ite_sound ?_ ?_
      · extract_lets +onlyGivenNames x5
        have h6 : P x5 := State.wr_sound hP (State.vresPut_sound hP h3); clear_value x5
        extract_lets +onlyGivenNames x7
        have h8 : P x7 := State.modCh_sound hP (fun _ => rfl) h6; clear_value x7
        exact ite_sound (State.settleAll_sound hP (State.vbusCheck_sound hP h8)) h8
      · exact State.modCh_sound hP (fun _ => rfl) h3
    · exact h1
  · exact hs

theorem State.cmpReleased_sound (hP : Sound P) {s : State} {n : Ch} {k : Nat} (hs : P s) : P (State.cmpReleased s n k) := by
  unfold State.cmpReleased
  extract_lets +onlyGivenNames x0; subst x0
  refine ite_sound ?_ ?_
  · extract_lets +onlyGivenNames x1
    have h2 : P x1 := State.condOffCh_sound hP hs; clear_value x1
    exact ite_sound h2 (State.short2Update_sound hP (State.modCh_sound hP (fun _ => rfl) h2))
  · refine ite_sound ?_ ?_
    · extract_lets +onlyGivenNames x3; clear_value x3
      extract_lets +onlyGivenNames x4
      have h5 : P x4 := ite_sound hs (State.condOffCh_sound hP hs); clear_value x4
      exact ite_sound (State.modCh_sound hP (fun _ => rfl) h5) h5
    · exact State.condOffCh_sound hP hs

theorem State.cmpDrop_sound (hP : Sound P) {s : State} {n : Ch} {k : Nat} (hs : P s) : P (State.cmpDrop s n k) := by
  unfold State.cmpDrop
  exact State.short2Update_sound hP (State.modCh_sound hP (fun _ => rfl) hs)

theorem State.leaveStart_sound (hP : Sound P) {s : State} {n : Ch} {k : Nat} (hs : P s) : P (State.leaveStart s n k) := by
  unfold State.leaveStart
  extract_lets +onlyGivenNames x0; subst x0
  extract_lets +onlyGivenNames x1; clear_value x1
  extract_lets +onlyGivenNames x2
  have h3 : P x2 := State.clrBits_sound hP (State.clrBits_sound hP hs); clear_value x2
  extract_lets +onlyGivenNames x4
  have h5 : P x4 := ite_sound (State.cmpReleased_sound hP h3) h3; clear_value x4
  exact ite_sound (State.wr_sound hP h5) h5

theorem State.cmpBegin_sound (hP : Sound P) {s : State} {n : Ch} {c : Nat} (hs : P s) : P (State.cmpBegin s n c) := by
  unfold State.cmpBegin
  extract_lets +onlyGivenNames x0; clear_value x0
  extract_lets +onlyGivenNames x1
  have h2 : P x1 := State.cmpStart_sound hP hs; clear_value x1
  exact ite_sound (State.cmpReleased_sound hP h2) h2

theorem State.gdFirst_sound (hP : Sound P) {s : State} {n : Ch} {sw kind : Nat} (hs : P s) : P (State.gdFirst s n sw kind) := by
  unfold State.gdFirst
  extract_lets +onlyGivenNames x0; subst x0
  exact ite_sound hs (State.wrs_sound hP hs)

theorem State.bstUvRaise_sound (hP : Sound P) {s : State} {n : Ch} {x0 : Fin 3} (hs : P s) : P (State.bstUvRaise s n x0) := by
  unfold State.bstUvRaise
  exact State.raiseCh_sound hP (State.gdFirst_sound hP (State.wr_sound hP hs))

theorem State.bstEnter_sound (hP : Sound P) {s : State} {n : Ch} (hs : P s) : P (State.bstEnter s n) := by
  unfold State.bstEnter
  refine ite_sound ?_ ?_
  · refine foldl_sound (fun a0 a1 h2 => ?_) _ ?_
    · exact ite_sound (State.bstUvRaise_sound hP h2) h2
    · exact hs
  · exact hs

theorem State.cmpMark_sound (hP : Sound P) {s : State} {n : Ch} {k : Nat} (hs : P s) : P (State.cmpMark s n k) := by
  unfold State.cmpMark
  exact State.orBits_sound hP (State.orBits_sound hP hs)

theorem State.pulseTrip_sound (hP : Sound P) {s : State} {n : Ch} (hs : P s) : P (State.pulseTrip s n) := by
  unfold State.pulseTrip
  extract_lets +onlyGivenNames x0; clear_value x0
  exact State.modCh_sound hP (fun _ => rfl) hs

theorem State.shortTrip_sound (hP : Sound P) {s : State} {n : Ch} {m : Sw} (hs : P s) : P (State.shortTrip s n m) := by
  unfold State.shortTrip
  extract_lets +onlyGivenNames x0; clear_value x0
  extract_lets +onlyGivenNames x1; clear_value x1
  extract_lets +onlyGivenNames x2
  have h3 : P x2 := State.modCh_sound hP (fun _ => rfl) hs; clear_value x2
  refine ite_sound ?_ ?_
  · extract_lets +onlyGivenNames x4
    have h5 : P x4 := State.raiseCh_sound hP h3; clear_value x4
    extract_lets +onlyGivenNames x6
    have h7 : P x6 := ite_sound (State.wrs_sound hP h5) h5; clear_value x6
    exact State.short2Update_sound hP h7
  · exact h3

theorem State.hardShort_sound (hP : Sound P) {s : State} {n : Ch} {x0 : Fin 3} (hs : P s) : P (State.hardShort s n x0) := by
  unfold State.hardShort
  extract_lets +onlyGivenNames x0; subst x0
  extract_lets +onlyGivenNames x1; clear_value x1
  extract_lets +onlyGivenNames x2
  have h3 : P x2 := State.wr_sound hP (State.inc_sound hP (State.cmpMark_sound hP hs)); clear_value x2
  extract_lets +onlyGivenNames x4
  have h5 : P x4 := State.gdFirst_sound hP h3; clear_value x4
  extract_lets +onlyGivenNames x6
  have h7 : P x6 := State.modCh_sound hP (fun _ => rfl) h5; clear_value x6
  extract_lets +onlyGivenNames w8 x9
  have h10 : P x9 := by
    subst x9 w8
    exact ite_sound (State.pulseTrip_sound hP h7) (ite_sound (State.raiseCh_sound hP h7) (State.shortTrip_sound hP (State.raiseCh_sound hP h7)))
  clear_value w8 x9
  exact State.settleAll_sound hP h10

theorem execHardShortTrip_sound (hP : Sound P) {n : Ch} {x0 : Fin 3} {s : State} (hs : P s) : ∃ s', execHardShortTrip n x0 s = .next s' ∧ P s' := by
  unfold execHardShortTrip
  refine ⟨_, rfl, ?_⟩
  refine State.whenCh_sound hP (fun a0 h1 => ?_) ?_
  · exact ite_sound (State.hardShort_sound hP h1) h1
  · exact hs

theorem State.windowTrip_sound (hP : Sound P) {s : State} {n : Ch} {low : Bool} {x0 : Fin 3} (hs : P s) : P (State.windowTrip s n low x0) := by
  unfold State.windowTrip
  extract_lets +onlyGivenNames x0; subst x0
  extract_lets +onlyGivenNames x1; clear_value x1
  extract_lets +onlyGivenNames x2
  have h3 : P x2 := State.inc_sound hP (State.cmpMark_sound hP hs); clear_value x2
  extract_lets +onlyGivenNames x4
  have h5 : P x4 := ite_sound h3 (State.modCh_sound hP (fun _ => rfl) h3); clear_value x4
  exact State.settleAll_sound hP (State.raiseCh_sound hP h5)

theorem execWindowTrip_sound (hP : Sound P) {n : Ch} {low : Bool} {x0 : Fin 3} {s : State} (hs : P s) : ∃ s', execWindowTrip n low x0 s = .next s' ∧ P s' := by
  unfold execWindowTrip
  refine ⟨_, rfl, ?_⟩
  refine State.whenCh_sound hP (fun a0 h1 => ?_) ?_
  · exact ite_sound (State.windowTrip_sound hP h1) h1
  · exact hs

theorem execBusComparatorTrip_sound (hP : Sound P) {n : Ch} {uv : Bool} {s : State} (hs : P s) : ∃ s', execBusComparatorTrip n uv s = .next s' ∧ P s' := by
  unfold execBusComparatorTrip
  refine ⟨_, rfl, ?_⟩
  refine State.whenCh_sound hP (fun a0 h1 => ?_) ?_
  · extract_lets +onlyGivenNames x2; clear_value x2
    refine ite_sound ?_ ?_
    · extract_lets +onlyGivenNames x3
      have h4 : P x3 := State.cmpMark_sound hP h1; clear_value x3
      exact State.settleAll_sound hP (ite_sound (State.raiseCh_sound hP h4) h4)
    · exact h1
  · exact hs

theorem execComparatorRelease_sound (hP : Sound P) {n : Ch} {k : Fin 17} {s : State} (hs : P s) : ∃ s', execComparatorRelease n k s = .next s' ∧ P s' := by
  unfold execComparatorRelease
  refine ⟨_, rfl, ?_⟩
  refine State.whenCh_sound hP (fun a0 h1 => ?_) ?_
  · extract_lets +onlyGivenNames x2; subst x2
    refine ite_sound ?_ ?_
    · exact ite_sound (State.settle_sound hP (State.cmpReleased_sound hP (State.clrBits_sound hP h1))) h1
    · exact ite_sound (State.settle_sound hP (State.condOffCh_sound hP (State.clrBits_sound hP h1))) (State.clrBits_sound hP h1)
  · exact hs

theorem execComparatorStartExit_sound (hP : Sound P) {n : Ch} {k : Fin 11} {s : State} (hs : P s) : ∃ s', execComparatorStartExit n k s = .next s' ∧ P s' := by
  unfold execComparatorStartExit
  refine ⟨_, rfl, ?_⟩
  refine State.whenCh_sound hP (fun a0 h1 => ?_) ?_
  · exact ite_sound (State.settle_sound hP (State.leaveStart_sound hP h1)) h1
  · exact hs

theorem execVdsBlankingEnd_sound (hP : Sound P) {n : Ch} {sw : Fin 6} {hot : Bool} {s : State} (hs : P s) : ∃ s', execVdsBlankingEnd n sw hot s = .next s' ∧ P s' := by
  unfold execVdsBlankingEnd
  refine ⟨_, rfl, ?_⟩
  refine State.whenCh_sound hP (fun a0 h1 => ?_) ?_
  · extract_lets +onlyGivenNames x2; clear_value x2
    exact State.modCh_sound hP (fun _ => rfl) h1
  · exact hs

theorem State.vdsTrip_sound (hP : Sound P) {s : State} {n : Ch} {sw : Fin 6} (hs : P s) : P (State.vdsTrip s n sw) := by
  unfold State.vdsTrip
  extract_lets +onlyGivenNames x0; subst x0
  extract_lets +onlyGivenNames x1; clear_value x1
  extract_lets +onlyGivenNames x2
  have h3 : P x2 := State.gdFirst_sound hP (State.wr_sound hP hs); clear_value x2
  extract_lets +onlyGivenNames x4
  have h5 : P x4 := State.modCh_sound hP (fun _ => rfl) h3; clear_value x4
  extract_lets +onlyGivenNames x6
  have h7 : P x6 := State.shortTrip_sound hP (State.raiseCh_sound hP h5); clear_value x6
  extract_lets +onlyGivenNames x8
  have h9 : P x8 := State.condOffCh_sound hP (State.settleAll_sound hP h7); clear_value x8
  exact ite_sound h9 (State.settle_sound hP (State.short2Update_sound hP (State.modCh_sound hP (fun _ => rfl) h9)))

theorem execVdsTrip_sound (hP : Sound P) {n : Ch} {sw : Fin 6} {s : State} (hs : P s) : ∃ s', execVdsTrip n sw s = .next s' ∧ P s' := by
  unfold execVdsTrip
  refine ⟨_, rfl, ?_⟩
  refine State.whenCh_sound hP (fun a0 h1 => ?_) ?_
  · extract_lets +onlyGivenNames x2; clear_value x2
    exact ite_sound (State.vdsTrip_sound hP h1) h1
  · exact hs

theorem execShort2WindowEnd_sound (hP : Sound P) {n : Ch} {sw : Fin 6} {s : State} (hs : P s) : ∃ s', execShort2WindowEnd n sw s = .next s' ∧ P s' := by
  unfold execShort2WindowEnd
  refine ⟨_, rfl, ?_⟩
  refine State.whenCh_sound hP (fun a0 h1 => ?_) ?_
  · exact State.modCh_sound hP (fun _ => rfl) h1
  · exact hs

theorem execBstWarnTrip_sound (hP : Sound P) {n : Ch} {x0 : Fin 3} {s : State} (hs : P s) : ∃ s', execBstWarnTrip n x0 s = .next s' ∧ P s' := by
  unfold execBstWarnTrip
  refine ⟨_, rfl, ?_⟩
  refine State.whenCh_sound hP (fun a0 h1 => ?_) ?_
  · exact ite_sound h1 (State.wr_sound hP (State.orBits_sound hP h1))
  · exact hs

theorem execBstUvTrip_sound (hP : Sound P) {n : Ch} {x0 : Fin 3} {s : State} (hs : P s) : ∃ s', execBstUvTrip n x0 s = .next s' ∧ P s' := by
  unfold execBstUvTrip
  refine ⟨_, rfl, ?_⟩
  refine State.whenCh_sound hP (fun a0 h1 => ?_) ?_
  · refine ite_sound ?_ ?_
    · exact h1
    · extract_lets +onlyGivenNames x2
      have h3 : P x2 := State.orBits_sound hP h1; clear_value x2
      exact State.settleAll_sound hP (ite_sound (State.bstUvRaise_sound hP h3) h3)
  · exact hs

theorem execBrakeComparator_sound (hP : Sound P) {n : Ch} {above : Bool} {s : State} (hs : P s) : ∃ s', execBrakeComparator n above s = .next s' ∧ P s' := by
  unfold execBrakeComparator
  refine ⟨_, rfl, ?_⟩
  refine State.whenCh_sound hP (fun a0 h1 => ?_) ?_
  · exact ite_sound h1 (State.brkShow_sound hP (State.flag_sound hP h1))
  · exact hs

theorem execBrkOvertime_sound (hP : Sound P) {n : Ch} {s : State} (hs : P s) : ∃ s', execBrkOvertime n s = .next s' ∧ P s' := by
  unfold execBrkOvertime
  refine ⟨_, rfl, ?_⟩
  refine State.whenCh_sound hP (fun a0 h1 => ?_) ?_
  · refine ite_sound ?_ ?_
    · extract_lets +onlyGivenNames x2
      have h3 : P x2 := State.raiseCh_sound hP (State.wr_sound hP h1); clear_value x2
      extract_lets +onlyGivenNames x4; clear_value x4
      exact State.settleAll_sound hP (State.modCh_sound hP (fun _ => rfl) h3)
    · exact h1
  · exact hs

theorem execLimpComparatorTrip_sound (hP : Sound P) {n : Ch} {a b c : ℤ} {s : State} (hs : P s) : ∃ s', execLimpComparatorTrip n a b c s = .next s' ∧ P s' := by
  unfold execLimpComparatorTrip
  refine ⟨_, rfl, ?_⟩
  refine State.whenCh_sound hP (fun a0 h1 => ?_) ?_
  · exact ite_sound (State.settle_sound hP (State.modCh_sound hP (fun _ => rfl) h1)) h1
  · exact hs

theorem execLimpDmaxEnd_sound (hP : Sound P) {n : Ch} {s : State} (hs : P s) : ∃ s', execLimpDmaxEnd n s = .next s' ∧ P s' := by
  unfold execLimpDmaxEnd
  refine ⟨_, rfl, ?_⟩
  refine State.whenCh_sound hP (fun a0 h1 => ?_) ?_
  · exact ite_sound (State.settle_sound hP (State.modCh_sound hP (fun _ => rfl) h1)) h1
  · exact hs

theorem State.putOfs_sound (hP : Sound P) {s : State} {n : Ch} {f : Fld} {v : ℤ} (hs : P s) : P (State.putOfs s n f v) := by
  unfold State.putOfs
  exact State.wr_sound hP hs

theorem State.putOffsets_sound (hP : Sound P) {s : State} {n : Ch} {a b c : ℤ} (hs : P s) : P (State.putOffsets s n a b c) := by
  unfold State.putOffsets
  extract_lets +onlyGivenNames x0; clear_value x0
  extract_lets +onlyGivenNames x1
  have h2 : P x1 := State.putOfs_sound hP hs; clear_value x1
  extract_lets +onlyGivenNames x3
  have h4 : P x3 := ite_sound h2 (State.putOfs_sound hP h2); clear_value x3
  extract_lets +onlyGivenNames x5
  have h6 : P x5 := ite_sound (State.putOfs_sound hP h4) h4; clear_value x5
  exact ite_sound (State.raiseCh_sound hP h6) h6

theorem execCalibrationDone_sound (hP : Sound P) {n : Ch} {a b c : ℤ} {s : State} (hs : P s) : ∃ s', execCalibrationDone n a b c s = .next s' ∧ P s' := by
  unfold execCalibrationDone
  refine ⟨_, rfl, ?_⟩
  refine State.whenCh_sound hP (fun a0 h1 => ?_) ?_
  · split
    · extract_lets +onlyGivenNames x2
      have h3 : P x2 := State.modCh_sound hP (fun _ => rfl) (State.putOffsets_sound hP h1); clear_value x2
      exact State.settleAll_sound hP (State.wrs_sound hP h3)
    · exact h1
  · exact hs

theorem execPosCntClr_sound (hP : Sound P) {n : Ch} {s : State} (hs : P s) : ∃ s', execPosCntClr n s = .next s' ∧ P s' := by
  unfold execPosCntClr
  refine ⟨_, rfl, ?_⟩
  refine State.whenCh_sound hP (fun a0 h1 => ?_) ?_
  · exact State.wr_sound hP h1
  · exact hs

theorem State.modPos_sound (hP : Sound P) {s : State} {n : Ch} {g : Pos → Pos} (hs : P s) : P (State.modPos s n g) := by
  unfold State.modPos
  exact State.modCh_sound hP (fun _ => rfl) hs

theorem State.encRef_sound (hP : Sound P) {s : State} {n : Ch} {count : Nat} (hs : P s) : P (State.encRef s n count) := by
  unfold State.encRef
  exact State.modPos_sound hP (State.wrs_sound hP hs)

theorem execEncLoad_sound (hP : Sound P) {n : Ch} {s : State} (hs : P s) : ∃ s', execEncLoad n s = .next s' ∧ P s' := by
  unfold execEncLoad
  refine ⟨_, rfl, ?_⟩
  refine State.whenCh_sound hP (fun a0 h1 => ?_) ?_
  · exact State.encRef_sound hP h1
  · exact hs

theorem State.mspiEn_sound (hP : Sound P) {s : State} {m : Fin 2} {en : Bool} (hs : P s) : P (State.mspiEn s m en) := by
  unfold State.mspiEn
  extract_lets +onlyGivenNames x0
  have h1 : P x0 := State.flag_sound hP hs; clear_value x0
  refine ite_sound ?_ ?_
  · exact h1
  · extract_lets +onlyGivenNames x2
    have h3 : P x2 := State.wrs_sound hP h1; clear_value x2
    exact hP.same x2 (State.base_eq rfl rfl rfl rfl rfl rfl rfl) h3

theorem State.modMspi_sound (hP : Sound P) {s : State} {m : Fin 2} {g : Mspi → Mspi} (hs : P s) : P (State.modMspi s m g) := by
  unfold State.modMspi
  exact hP.same s (State.base_eq rfl rfl rfl rfl rfl rfl rfl) hs

theorem State.mspiEntry_sound (hP : Sound P) {s : State} {m : Fin 2} {k : Nat} (hs : P s) : P (State.mspiEntry s m k) := by
  unfold State.mspiEntry
  extract_lets +onlyGivenNames x0; clear_value x0
  exact State.modMspi_sound hP (State.wr_sound hP hs)

theorem State.mspiRun_sound (hP : Sound P) {s : State} {m : Fin 2} {k : Nat} (hs : P s) : P (State.mspiRun s m k) := by
  unfold State.mspiRun
  exact State.mspiEntry_sound hP (State.modMspi_sound hP (State.wr_sound hP hs))

theorem State.mspiFire_sound (hP : Sound P) {s : State} {m : Fin 2} {k : Nat} (hs : P s) : P (State.mspiFire s m k) := by
  unfold State.mspiFire
  exact ite_sound hs (ite_sound (State.mspiRun_sound hP hs) (ite_sound (State.wr_sound hP hs) (State.modMspi_sound hP (State.wr_sound hP hs))))

theorem State.mspiSw_sound (hP : Sound P) {s : State} {m : Fin 2} {k : Nat} (hs : P s) : P (State.mspiSw s m k) := by
  unfold State.mspiSw
  extract_lets +onlyGivenNames x0; clear_value x0
  exact ite_sound (State.mspiFire_sound hP hs) hs

theorem execMspiSwtrig_sound (hP : Sound P) {m : Fin 2} {k : Fin 4} {s : State} (hs : P s) : ∃ s', execMspiSwtrig m k s = .next s' ∧ P s' := by
  unfold execMspiSwtrig
  refine ⟨_, rfl, ?_⟩
  exact State.mspiSw_sound hP hs

theorem State.modScx_sound (hP : Sound P) {s : State} {m : Fin 2} {g : Scx → Scx} (hs : P s) : P (State.modScx s m g) := by
  unfold State.modScx
  exact hP.same s (State.base_eq rfl rfl rfl rfl rfl rfl rfl) hs

theorem State.scxEn_sound (hP : Sound P) {s : State} {m : Fin 2} {en : Bool} (hs : P s) : P (State.scxEn s m en) := by
  unfold State.scxEn
  extract_lets +onlyGivenNames x0
  have h1 : P x0 := State.flag_sound hP (State.flag_sound hP hs); clear_value x0
  refine ite_sound ?_ ?_
  · exact h1
  · extract_lets +onlyGivenNames x2
    have h3 : P x2 := State.modScx_sound hP (State.wr_sound hP h1); clear_value x2
    exact State.settleAll_sound hP (State.condSet_sound hP (State.condSet_sound hP h3))

theorem execScxEnable_sound (hP : Sound P) {m : Fin 2} {en : Bool} {s : State} (hs : P s) : ∃ s', execScxEnable m en s = .next s' ∧ P s' := by
  unfold execScxEnable
  refine ⟨_, rfl, ?_⟩
  exact ite_sound (State.wrDenied_sound hP hs) (State.scxEn_sound hP hs)

theorem State.encSample_sound (hP : Sound P) {s : State} {n : Ch} {t : Nat} (hs : P s) : P (State.encSample s n t) := by
  unfold State.encSample
  extract_lets +onlyGivenNames x0; clear_value x0
  extract_lets +onlyGivenNames x1; clear_value x1
  extract_lets +onlyGivenNames x2; clear_value x2
  refine ite_sound ?_ ?_
  · exact State.modPos_sound hP hs
  · extract_lets +onlyGivenNames x3; clear_value x3
    exact State.modPos_sound hP hs

theorem State.spiSample_sound (hP : Sound P) {s : State} {n : Ch} (hs : P s) : P (State.spiSample s n) := by
  unfold State.spiSample
  extract_lets +onlyGivenNames x0; subst x0
  split
  · extract_lets +onlyGivenNames x1; clear_value x1
    extract_lets +onlyGivenNames x2; clear_value x2
    extract_lets +onlyGivenNames x3; clear_value x3
    extract_lets +onlyGivenNames x4
    have h5 : P x4 := State.modPos_sound hP hs; clear_value x4
    extract_lets +onlyGivenNames x6; clear_value x6
    extract_lets +onlyGivenNames x7
    have h8 : P x7 := State.flag_sound hP h5; clear_value x7
    extract_lets +onlyGivenNames x9
    have h10 : P x9 := ite_sound (State.wr_sound hP h8) h8; clear_value x9
    extract_lets +onlyGivenNames x11
    have h12 : P x11 := ite_sound (State.wr_sound hP h10) h10; clear_value x11
    exact State.condSet_sound hP (State.condSet_sound hP h12)

theorem State.putSector_sound (hP : Sound P) {s : State} {n : Ch} {k : Nat} (hs : P s) : P (State.putSector s n k) := by
  unfold State.putSector
  exact ite_sound hs (State.wrs_sound hP hs)

theorem State.homeEvent_sound (hP : Sound P) {s : State} {n : Ch} {ev : Nat} (hs : P s) : P (State.homeEvent s n ev) := by
  unfold State.homeEvent
  exact ite_sound (State.modCh_sound hP (fun _ => rfl) hs) hs

theorem State.hallRemap_sound (hP : Sound P) {s : State} {n : Ch} (hs : P s) : P (State.hallRemap s n) := by
  unfold State.hallRemap
  extract_lets +onlyGivenNames x0; clear_value x0
  extract_lets +onlyGivenNames x1
  have h2 : P x1 := State.modPos_sound hP hs; clear_value x1
  exact State.flag_sound hP h2

theorem State.mspiLimp_sound (hP : Sound P) {s : State} {n : Ch} (hs : P s) : P (State.mspiLimp s n) := by
  unfold State.mspiLimp
  refine foldl_sound (fun a0 a1 h2 => ?_) _ ?_
  · exact ite_sound (State.mspiFire_sound hP h2) h2
  · exact hs

theorem State.limpPeriod_sound (hP : Sound P) {s : State} {n : Ch} (hs : P s) : P (State.limpPeriod s n) := by
  unfold State.limpPeriod
  extract_lets +onlyGivenNames x0; subst x0
  extract_lets +onlyGivenNames x1; clear_value x1
  extract_lets +onlyGivenNames x2; clear_value x2
  extract_lets +onlyGivenNames x3; clear_value x3
  extract_lets +onlyGivenNames x4
  have h5 : P x4 := ite_sound (State.spiSample_sound hP hs) hs; clear_value x4
  extract_lets +onlyGivenNames x6; clear_value x6
  extract_lets +onlyGivenNames x7
  have h8 : P x7 := State.putSector_sound hP h5; clear_value x7
  extract_lets +onlyGivenNames x9; clear_value x9
  extract_lets +onlyGivenNames x10; clear_value x10
  extract_lets +onlyGivenNames x11; clear_value x11
  extract_lets +onlyGivenNames x12
  have h13 : P x12 := State.modCh_sound hP (fun _ => rfl) (State.wr_sound hP h8); clear_value x12
  extract_lets +onlyGivenNames x14
  have h15 : P x14 := State.boundaryRelease_sound hP (State.grvEvent_sound hP (State.incWrap_sound hP h13)); clear_value x14
  extract_lets +onlyGivenNames x16
  have h17 : P x16 := ite_sound (State.condSet_sound hP h15) (State.condSet_sound hP h15); clear_value x16
  exact State.settleAll_sound hP (State.mspiLimp_sound hP h17)

theorem execLimpBoundary_sound (hP : Sound P) {n : Ch} {s : State} (hs : P s) : ∃ s', execLimpBoundary n s = .next s' ∧ P s' := by
  unfold execLimpBoundary
  refine ⟨_, rfl, ?_⟩
  refine State.whenCh_sound hP (fun a0 h1 => ?_) ?_
  · exact ite_sound (State.limpPeriod_sound hP h1) h1
  · exact hs

theorem State.posErr_sound (hP : Sound P) {s : State} {n : Ch} {b : Nat} (hs : P s) : P (State.posErr s n b) := by
  unfold State.posErr
  extract_lets +onlyGivenNames x0; clear_value x0
  exact ite_sound hs (State.wr_sound hP hs)

theorem State.hallIllegal_sound (hP : Sound P) {s : State} {n : Ch} (hs : P s) : P (State.hallIllegal s n) := by
  unfold State.hallIllegal
  extract_lets +onlyGivenNames x0; subst x0
  extract_lets +onlyGivenNames x1
  have h2 : P x1 := State.modPos_sound hP hs; clear_value x1
  exact State.posErr_sound hP (State.wrs_sound hP h2)

theorem State.hallEdge_sound (hP : Sound P) {s : State} {n : Ch} {k : Nat} (hs : P s) : P (State.hallEdge s n k) := by
  unfold State.hallEdge
  extract_lets +onlyGivenNames x0; subst x0
  extract_lets +onlyGivenNames x1; clear_value x1
  extract_lets +onlyGivenNames x2; clear_value x2
  extract_lets +onlyGivenNames x3; clear_value x3
  extract_lets +onlyGivenNames x4
  have h5 : P x4 := State.modPos_sound hP hs; clear_value x4
  extract_lets +onlyGivenNames x6
  have h7 : P x6 := State.wr_sound hP h5; clear_value x6
  extract_lets +onlyGivenNames x8
  have h9 : P x8 := ite_sound (State.posErr_sound hP (State.wr_sound hP h7)) h7; clear_value x8
  exact ite_sound (State.homeEvent_sound hP h9) h9

theorem execSpeedZeroTimeout_sound (hP : Sound P) {n : Ch} {enc : Bool} {s : State} (hs : P s) : ∃ s', execSpeedZeroTimeout n enc s = .next s' ∧ P s' := by
  unfold execSpeedZeroTimeout
  refine ⟨_, rfl, ?_⟩
  refine State.whenCh_sound hP (fun a0 h1 => ?_) ?_
  · exact State.modPos_sound hP h1
  · exact hs

theorem State.idxCheck_sound (hP : Sound P) {s : State} {n : Ch} {bad : Bool} (hs : P s) : P (State.idxCheck s n bad) := by
  unfold State.idxCheck
  exact ite_sound (State.pcEval_sound hP hs) hs

theorem State.idxEvent_sound (hP : Sound P) {s : State} {n : Ch} (hs : P s) : P (State.idxEvent s n) := by
  unfold State.idxEvent
  exact State.posErr_sound hP (State.wr_sound hP hs)

theorem State.encMove_sound (hP : Sound P) {s : State} {n : Ch} {d : ℤ} (hs : P s) : P (State.encMove s n d) := by
  unfold State.encMove
  extract_lets +onlyGivenNames x0; subst x0
  extract_lets +onlyGivenNames x1; clear_value x1
  extract_lets +onlyGivenNames x2; clear_value x2
  extract_lets +onlyGivenNames x3; clear_value x3
  extract_lets +onlyGivenNames x4
  have h5 : P x4 := State.modPos_sound hP (State.wr_sound hP hs); clear_value x4
  extract_lets +onlyGivenNames x6; clear_value x6
  exact ite_sound (State.idxCheck_sound hP (State.modPos_sound hP (State.idxEvent_sound hP h5))) h5

theorem execEncoderEdge_sound (hP : Sound P) {n : Ch} {a b : Bool} {s : State} (hs : P s) : ∃ s', execEncoderEdge n a b s = .next s' ∧ P s' := by
  unfold execEncoderEdge
  refine ⟨_, rfl, ?_⟩
  refine State.whenCh_sound hP (fun a0 h1 => ?_) ?_
  · extract_lets +onlyGivenNames x2; clear_value x2
    extract_lets +onlyGivenNames x3
    have h4 : P x3 := State.modPos_sound hP h1; clear_value x3
    split
    · exact h4
    · exact State.settleAll_sound hP (State.encMove_sound hP h4)
    · exact State.settleAll_sound hP (State.encMove_sound hP h4)
    · exact State.posErr_sound hP (State.wrs_sound hP h4)
  · exact hs

theorem State.index_sound (hP : Sound P) {s : State} {n : Ch} (hs : P s) : P (State.index s n) := by
  unfold State.index
  extract_lets +onlyGivenNames x0; subst x0
  extract_lets +onlyGivenNames x1; clear_value x1
  extract_lets +onlyGivenNames x2; clear_value x2
  extract_lets +onlyGivenNames x3; clear_value x3
  extract_lets +onlyGivenNames x4
  have h5 : P x4 := State.homeEvent_sound hP (State.wr_sound hP hs); clear_value x4
  refine ite_sound ?_ ?_
  · exact h5
  · refine ite_sound ?_ ?_
    · exact State.encRef_sound hP h5
    · extract_lets +onlyGivenNames x6; clear_value x6
      extract_lets +onlyGivenNames x7; clear_value x7
      extract_lets +onlyGivenNames w8 x9
      have h10 : P x9 := by
        subst x9 w8
        exact ite_sound (ite_sound (State.wr_sound hP (State.idxEvent_sound hP h5)) (State.idxEvent_sound hP h5)) h5
      clear_value w8 x9
      exact State.modPos_sound hP (State.idxCheck_sound hP h10)

theorem execEncoderIndex_sound (hP : Sound P) {n : Ch} {s : State} (hs : P s) : ∃ s', execEncoderIndex n s = .next s' ∧ P s' := by
  unfold execEncoderIndex
  refine ⟨_, rfl, ?_⟩
  refine State.whenCh_sound hP (fun a0 h1 => ?_) ?_
  · extract_lets +onlyGivenNames x2; clear_value x2
    exact ite_sound h1 (State.settleAll_sound hP (State.index_sound hP h1))
  · exact hs

theorem execResolverDemod_sound (hP : Sound P) {m : Fin 2} {sn cs : List (BitVec 16)} {s : State} (hs : P s) : ∃ s', execResolverDemod m sn cs s = .next s' ∧ P s' := by
  unfold execResolverDemod
  refine ⟨_, rfl, ?_⟩
  refine ite_sound ?_ ?_
  · extract_lets +onlyGivenNames x0; clear_value x0
    extract_lets +onlyGivenNames x1; clear_value x1
    extract_lets +onlyGivenNames x2; clear_value x2
    extract_lets +onlyGivenNames x3; clear_value x3
    extract_lets +onlyGivenNames x4; clear_value x4
    extract_lets +onlyGivenNames x5; clear_value x5
    extract_lets +onlyGivenNames x6; clear_value x6
    extract_lets +onlyGivenNames x7
    have h8 : P x7 := State.modScx_sound hP hs; clear_value x7
    extract_lets +onlyGivenNames x9; clear_value x9
    exact State.settleAll_sound hP (State.condSet_sound hP (State.condSet_sound hP h8))
  · exact hs

theorem execResolverTrackUpdate_sound (hP : Sound P) {m : Fin 2} {s : State} (hs : P s) : ∃ s', execResolverTrackUpdate m s = .next s' ∧ P s' := by
  unfold execResolverTrackUpdate
  refine ⟨_, rfl, ?_⟩
  refine ite_sound ?_ ?_
  · extract_lets +onlyGivenNames x0; clear_value x0
    extract_lets +onlyGivenNames x1; clear_value x1
    extract_lets +onlyGivenNames x2; clear_value x2
    extract_lets +onlyGivenNames x3; clear_value x3
    extract_lets +onlyGivenNames x4; clear_value x4
    exact State.wrs_sound hP (State.modScx_sound hP hs)
  · exact hs

theorem execMspiTrigger_sound (hP : Sound P) {m : Fin 2} {k : Fin 4} {s : State} (hs : P s) : ∃ s', execMspiTrigger m k s = .next s' ∧ P s' := by
  unfold execMspiTrigger
  refine ⟨_, rfl, ?_⟩
  extract_lets +onlyGivenNames x0; subst x0
  exact ite_sound (State.mspiFire_sound hP hs) hs

theorem State.mspiFlush_sound (hP : Sound P) {s : State} {m : Fin 2} (hs : P s) : P (State.mspiFlush s m) := by
  unfold State.mspiFlush
  extract_lets +onlyGivenNames x0; clear_value x0
  extract_lets +onlyGivenNames x1
  have h2 : P x1 := by
    subst x1
    refine foldl_sound (fun a3 a4 h5 => ?_) _ ?_
    · extract_lets +onlyGivenNames x6; clear_value x6
      extract_lets +onlyGivenNames x7; clear_value x7
      exact State.orBits_sound hP (State.wrs_sound hP h5)
    · exact hs
  clear_value x1
  exact State.modMspi_sound hP h2

theorem State.mspiEnd_sound (hP : Sound P) {s : State} {m : Fin 2} (hs : P s) : P (State.mspiEnd s m) := by
  unfold State.mspiEnd
  extract_lets +onlyGivenNames x0
  have h1 : P x0 := State.wrs_sound hP hs; clear_value x0
  exact ite_sound (State.mspiRun_sound hP (State.wr_sound hP h1)) h1

theorem State.mspiDone_sound (hP : Sound P) {s : State} {m : Fin 2} {rx : Word} (hs : P s) : P (State.mspiDone s m rx) := by
  unfold State.mspiDone
  extract_lets +onlyGivenNames x0; clear_value x0
  extract_lets +onlyGivenNames x1; clear_value x1
  extract_lets +onlyGivenNames x2; clear_value x2
  extract_lets +onlyGivenNames x3; clear_value x3
  extract_lets +onlyGivenNames x4; clear_value x4
  extract_lets +onlyGivenNames x5; clear_value x5
  extract_lets +onlyGivenNames x6; clear_value x6
  extract_lets +onlyGivenNames x7
  have h8 : P x7 := ite_sound (State.modMspi_sound hP hs) hs; clear_value x7
  extract_lets +onlyGivenNames x9
  have h10 : P x9 := ite_sound (State.modMspi_sound hP h8) (State.mspiFlush_sound hP h8); clear_value x9
  exact ite_sound (State.mspiEnd_sound hP h10) (ite_sound (State.mspiEnd_sound hP (State.wr_sound hP h10)) (State.mspiEntry_sound hP h10))

theorem execMspiEntryDone_sound (hP : Sound P) {m : Fin 2} {rx : Word} {s : State} (hs : P s) : ∃ s', execMspiEntryDone m rx s = .next s' ∧ P s' := by
  unfold execMspiEntryDone
  refine ⟨_, rfl, ?_⟩
  exact ite_sound (State.mspiDone_sound hP hs) hs

end Sys2Proof.Machine
end

