-- ==== Sys2Proof/Laws/SoundLoop.lean ====
section
/-! SUPPORT. Estimators, set points, trace and loop engine keep what `Sound` names: one lemma per operation. -/

namespace Sys2Proof.Machine

variable {P : State → Prop}

theorem State.obsShow_sound (hP : Sound P) {s : State} {n : Ch} (hs : P s) : P (State.obsShow s n) := by
  unfold State.obsShow
  extract_lets +onlyGivenNames x0; clear_value x0
  exact State.wrs_sound hP hs

theorem State.modObs_sound (hP : Sound P) {s : State} {n : Ch} {g : Obs → Obs} (hs : P s) : P (State.modObs s n g) := by
  unfold State.modObs
  exact State.modCh_sound hP (fun _ => rfl) hs

theorem State.obsReset_sound (hP : Sound P) {s : State} {n : Ch} (hs : P s) : P (State.obsReset s n) := by
  unfold State.obsReset
  exact State.obsShow_sound hP (State.wr_sound hP (State.modObs_sound hP hs))

theorem State.hfiReset_sound (hP : Sound P) {s : State} {n : Ch} (hs : P s) : P (State.hfiReset s n) := by
  unfold State.hfiReset
  exact State.obsShow_sound hP (State.wr_sound hP (State.modObs_sound hP hs))

theorem execObsReseed_sound (hP : Sound P) {n : Ch} {s : State} (hs : P s) : ∃ s', execObsReseed n s = .next s' ∧ P s' := by
  unfold execObsReseed
  refine ⟨_, rfl, ?_⟩
  refine State.whenCh_sound hP (fun a0 h1 => ?_) ?_
  · extract_lets +onlyGivenNames x2
    have h3 : P x2 := ite_sound h1 (State.obsReset_sound hP h1); clear_value x2
    exact ite_sound h3 (State.hfiReset_sound hP h3)
  · exact hs

theorem State.injStop_sound (hP : Sound P) {s : State} {n : Ch} (hs : P s) : P (State.injStop s n) := by
  unfold State.injStop
  exact ite_sound (State.obsShow_sound hP (State.modObs_sound hP (State.wr_sound hP hs))) hs

theorem State.injStart_sound (hP : Sound P) {s : State} {n : Ch} (hs : P s) : P (State.injStart s n) := by
  unfold State.injStart
  exact ite_sound hs (State.hfiReset_sound hP (State.modObs_sound hP (State.wr_sound hP hs)))

theorem State.obsPrepare_sound (hP : Sound P) {s : State} {n : Ch} (hs : P s) : P (State.obsPrepare s n) := by
  unfold State.obsPrepare
  extract_lets +onlyGivenNames x0; clear_value x0
  extract_lets +onlyGivenNames x1; clear_value x1
  extract_lets +onlyGivenNames x2; clear_value x2
  extract_lets +onlyGivenNames x3
  have h4 : P x3 := by
    subst x3
    exact ite_sound (State.obsShow_sound hP (State.modObs_sound hP hs)) (ite_sound (State.obsReset_sound hP hs) (ite_sound (State.obsReset_sound hP hs) hs))
  clear_value x3
  exact State.modObs_sound hP h4

theorem State.estEvents_sound (hP : Sound P) {s : State} {n : Ch} {hfi : Bool} {tmr : Option Nat} {conv lost : Bool} (hs : P s) : P (State.estEvents s n hfi tmr conv lost) := by
  unfold State.estEvents
  extract_lets +onlyGivenNames x0; subst x0
  extract_lets +onlyGivenNames x1
  have h2 : P x1 := ite_sound (State.wr_sound hP (State.wr_sound hP hs)) hs; clear_value x1
  exact ite_sound (State.wr_sound hP h2) h2

theorem State.polDone_sound (hP : Sound P) {s : State} {n : Ch} {turn : Bool} (hs : P s) : P (State.polDone s n turn) := by
  unfold State.polDone
  exact State.modObs_sound hP (State.wrs_sound hP hs)

theorem execPolarityPulseEnd_sound (hP : Sound P) {n : Ch} {s : State} (hs : P s) : ∃ s', execPolarityPulseEnd n s = .next s' ∧ P s' := by
  unfold execPolarityPulseEnd
  refine ⟨_, rfl, ?_⟩
  refine State.whenCh_sound hP (fun a0 h1 => ?_) ?_
  · extract_lets +onlyGivenNames x2; clear_value x2
    extract_lets +onlyGivenNames x3; clear_value x3
    refine ite_sound ?_ ?_
    · exact State.modObs_sound hP h1
    · refine ite_sound ?_ ?_
      · extract_lets +onlyGivenNames x4; clear_value x4
        extract_lets +onlyGivenNames x5; clear_value x5
        extract_lets +onlyGivenNames x6
        have h7 : P x6 := State.modObs_sound hP h1; clear_value x6
        refine ite_sound ?_ ?_
        · exact State.polDone_sound hP h7
        · exact ite_sound (State.polDone_sound hP h7) (ite_sound (State.modObs_sound hP h7) (State.settleAll_sound hP (State.raiseCh_sound hP (State.modObs_sound hP h7))))
      · exact h1
  · exact hs

theorem execObsConvTimeout_sound (hP : Sound P) {n : Ch} {hfi : Bool} {s : State} (hs : P s) : ∃ s', execObsConvTimeout n hfi s = .next s' ∧ P s' := by
  unfold execObsConvTimeout
  refine ⟨_, rfl, ?_⟩
  refine State.whenCh_sound hP (fun a0 h1 => ?_) ?_
  · extract_lets +onlyGivenNames x2; clear_value x2
    extract_lets +onlyGivenNames x3; clear_value x3
    refine ite_sound ?_ ?_
    · exact h1
    · extract_lets +onlyGivenNames x4
      have h5 : P x4 := ite_sound (State.modObs_sound hP h1) (State.modObs_sound hP h1); clear_value x4
      extract_lets +onlyGivenNames x6
      have h7 : P x6 := State.obsShow_sound hP h5; clear_value x6
      exact ite_sound (State.settleAll_sound hP (State.raiseCh_sound hP h7)) h7
  · exact hs

theorem execPosAck_sound (hP : Sound P) {n : Ch} {s : State} (hs : P s) : ∃ s', execPosAck n s = .next s' ∧ P s' := by
  unfold execPosAck
  refine ⟨_, rfl, ?_⟩
  refine State.whenCh_sound hP (fun a0 h1 => ?_) ?_
  · exact State.wr_sound hP h1
  · exact hs

theorem State.tgtWrite_sound (hP : Sound P) {s : State} {n : Ch} {v : Word} (hs : P s) : P (State.tgtWrite s n v) := by
  unfold State.tgtWrite
  exact ite_sound (State.wr_sound hP hs) (State.wr_sound hP hs)

theorem State.ptgtTurnsWrite_sound (hP : Sound P) {s : State} {n : Ch} {v : Nat} (hs : P s) : P (State.ptgtTurnsWrite s n v) := by
  unfold State.ptgtTurnsWrite
  exact ite_sound (State.wr_sound hP hs) (State.wr_sound hP hs)

theorem State.modSpt_sound (hP : Sound P) {s : State} {n : Ch} {g : Spt → Spt} (hs : P s) : P (State.modSpt s n g) := by
  unfold State.modSpt
  exact State.modCh_sound hP (fun _ => rfl) hs

theorem State.ptgtFracWrite_sound (hP : Sound P) {s : State} {n : Ch} {v : Nat} (hs : P s) : P (State.ptgtFracWrite s n v) := by
  unfold State.ptgtFracWrite
  exact ite_sound (State.wr_sound hP hs) (State.modSpt_sound hP (State.wr_sound hP hs))

theorem State.wrPos_sound (hP : Sound P) {s : State} {n : Ch} {ft ff : Fld} {p : ℤ} (hs : P s) : P (State.wrPos s n ft ff p) := by
  unfold State.wrPos
  exact State.wrs_sound hP hs

theorem State.putProf_sound (hP : Sound P) {s : State} {n : Ch} {p : ℤ} (hs : P s) : P (State.putProf s n p) := by
  unfold State.putProf
  exact State.wrPos_sound hP (State.modSpt_sound hP hs)

theorem State.putMpos_sound (hP : Sound P) {s : State} {n : Ch} {p : ℤ} (hs : P s) : P (State.putMpos s n p) := by
  unfold State.putMpos
  exact State.wrPos_sound hP (State.modSpt_sound hP hs)

theorem State.posCount_sound (hP : Sound P) {s : State} {n : Ch} {th : Nat} {ok : Bool} (hs : P s) : P (State.posCount s n th ok) := by
  unfold State.posCount
  extract_lets +onlyGivenNames x0; clear_value x0
  refine ite_sound ?_ ?_
  · extract_lets +onlyGivenNames x1; clear_value x1
    exact State.modSpt_sound hP (State.putMpos_sound hP hs)
  · exact State.modSpt_sound hP (State.wrs_sound hP hs)

theorem State.genReseed_sound (hP : Sound P) {s : State} {n : Ch} {iq w : Word} (hs : P s) : P (State.genReseed s n iq w) := by
  unfold State.genReseed
  extract_lets +onlyGivenNames x0
  have h1 : P x0 := State.wrs_sound hP hs; clear_value x0
  exact ite_sound (State.putProf_sound hP h1) h1

theorem State.genFlags_sound (hP : Sound P) {s : State} {n : Ch} {limited : Bool} {dir : ℤ} {y : Word} (hs : P s) : P (State.genFlags s n limited dir y) := by
  unfold State.genFlags
  extract_lets +onlyGivenNames x0; subst x0
  extract_lets +onlyGivenNames x1
  have h2 : P x1 := ite_sound (State.wr_sound hP hs) hs; clear_value x1
  exact State.flag_sound hP (State.flag_sound hP h2)

theorem State.genLaw_sound (hP : Sound P) {s : State} {n : Ch} {acc r want : Word} {move : Bool} (hs : P s) : P (State.genLaw s n acc r want move) := by
  unfold State.genLaw
  extract_lets +onlyGivenNames x0; subst x0
  split
  · extract_lets +onlyGivenNames x1
    have h2 : P x1 := State.wrs_sound hP hs; clear_value x1
    extract_lets +onlyGivenNames x3
    have h4 : P x3 := ite_sound (State.putProf_sound hP h2) h2; clear_value x3
    exact State.genFlags_sound hP h4

theorem State.genRun_sound (hP : Sound P) {s : State} {n : Ch} (hs : P s) : P (State.genRun s n) := by
  unfold State.genRun
  extract_lets +onlyGivenNames x0; subst x0
  extract_lets +onlyGivenNames x1; clear_value x1
  extract_lets +onlyGivenNames x2; clear_value x2
  refine ite_sound ?_ ?_
  · split
    · extract_lets +onlyGivenNames x3
      have h4 : P x3 := State.putProf_sound hP (State.wrs_sound hP hs); clear_value x3
      exact State.genFlags_sound hP h4
  · exact ite_sound (State.genFlags_sound hP (State.wrs_sound hP hs)) (State.genLaw_sound hP hs)

theorem State.genRegen_sound (hP : Sound P) {s : State} {n : Ch} {w : Word} {rest : Bool} (hs : P s) : P (State.genRegen s n w rest) := by
  unfold State.genRegen
  extract_lets +onlyGivenNames x0; subst x0
  refine ite_sound ?_ ?_
  · exact State.genLaw_sound hP hs
  · extract_lets +onlyGivenNames x1; clear_value x1
    extract_lets +onlyGivenNames x2; clear_value x2
    extract_lets +onlyGivenNames x3; clear_value x3
    extract_lets +onlyGivenNames x4; clear_value x4
    exact State.genFlags_sound hP (State.wrs_sound hP hs)

theorem State.generator_sound (hP : Sound P) {s : State} {n : Ch} {m : GenMode} {iq w : Word} {rest : Bool} (hs : P s) : P (State.generator s n m iq w rest).1 := by
  unfold State.generator
  extract_lets +onlyGivenNames x0; subst x0
  extract_lets +onlyGivenNames x1
  have h2 : P x1 := ite_sound (State.genReseed_sound hP hs) hs; clear_value x1
  extract_lets +onlyGivenNames x3
  have h4 : P x3 := State.modSpt_sound hP h2; clear_value x3
  extract_lets +onlyGivenNames w5 x6; clear_value w5 x6
  split
  · exact fst_mk (State.genFlags_sound hP h4)
  · exact ite_fst (fst_mk (State.genRun_sound hP h4)) (fst_mk (State.genRun_sound hP h4))
  · exact fst_mk (State.genLaw_sound hP h4)
  · exact fst_mk (State.genRegen_sound hP h4)

theorem execTgtWrite_sound (hP : Sound P) {n : Ch} {v : Word} {s : State} (hs : P s) : ∃ s', execTgtWrite n v s = .next s' ∧ P s' := by
  unfold execTgtWrite
  refine ⟨_, rfl, ?_⟩
  refine State.whenCh_sound hP (fun a0 h1 => ?_) ?_
  · exact State.tgtWrite_sound hP h1
  · exact hs

theorem execPtgtFracWrite_sound (hP : Sound P) {n : Ch} {v : BitVec 16} {s : State} (hs : P s) : ∃ s', execPtgtFracWrite n v s = .next s' ∧ P s' := by
  unfold execPtgtFracWrite
  refine ⟨_, rfl, ?_⟩
  refine State.whenCh_sound hP (fun a0 h1 => ?_) ?_
  · exact State.ptgtFracWrite_sound hP h1
  · exact hs

theorem State.modTrc_sound (hP : Sound P) {s : State} {n : Ch} {g : Trc → Trc} (hs : P s) : P (State.modTrc s n g) := by
  unfold State.modTrc
  exact State.modCh_sound hP (fun _ => rfl) hs

theorem State.trcForce_sound (hP : Sound P) {s : State} {n : Ch} (hs : P s) : P (State.trcForce s n) := by
  unfold State.trcForce
  exact ite_sound (State.modTrc_sound hP hs) hs

theorem execTrcForce_sound (hP : Sound P) {n : Ch} {s : State} (hs : P s) : ∃ s', execTrcForce n s = .next s' ∧ P s' := by
  unfold execTrcForce
  refine ⟨_, rfl, ?_⟩
  refine State.whenCh_sound hP (fun a0 h1 => ?_) ?_
  · exact State.trcForce_sound hP h1
  · exact hs

theorem State.trcEnd_sound (hP : Sound P) {s : State} {n : Ch} (hs : P s) : P (State.trcEnd s n) := by
  unfold State.trcEnd
  exact ite_sound (State.modTrc_sound hP hs) hs

theorem execTrcEnd_sound (hP : Sound P) {n : Ch} {s : State} (hs : P s) : ∃ s', execTrcEnd n s = .next s' ∧ P s' := by
  unfold execTrcEnd
  refine ⟨_, rfl, ?_⟩
  refine State.whenCh_sound hP (fun a0 h1 => ?_) ?_
  · exact State.trcEnd_sound hP h1
  · exact hs

theorem State.trcGap_sound (hP : Sound P) {s : State} {n : Ch} {idx : Option Nat} (hs : P s) : P (State.trcGap s n idx) := by
  unfold State.trcGap
  exact State.modTrc_sound hP hs

theorem State.trcRam_sound (hP : Sound P) {s : State} {n : Ch} {idx : Nat} {trig gap : Bool} {l : List Word} (hs : P s) : P (State.trcRam s n idx trig gap l) := by
  unfold State.trcRam
  extract_lets +onlyGivenNames x0; subst x0
  extract_lets +onlyGivenNames x1; clear_value x1
  extract_lets +onlyGivenNames x2; clear_value x2
  extract_lets +onlyGivenNames x3
  have h4 : P x3 := State.setMemWords_sound hP hs; clear_value x3
  extract_lets +onlyGivenNames x5
  have h6 : P x5 := ite_sound (State.wrs_sound hP h4) h4; clear_value x5
  extract_lets +onlyGivenNames x7; clear_value x7
  exact ite_sound (State.inc_sound hP (State.wrs_sound hP h6)) (State.wr_sound hP h6)

theorem State.trcStream_sound (hP : Sound P) {s : State} {n : Ch} {idx tick : Nat} {trig gap : Bool} {l : List Word} (hs : P s) : P (State.trcStream s n idx tick trig gap l) := by
  unfold State.trcStream
  extract_lets +onlyGivenNames x0; clear_value x0
  extract_lets +onlyGivenNames x1
  have h2 : P x1 := ite_sound (State.trcClose_sound hP hs) hs; clear_value x1
  extract_lets +onlyGivenNames x3; clear_value x3
  extract_lets +onlyGivenNames x4; clear_value x4
  refine ite_sound ?_ ?_
  · exact State.modTrc_sound hP (State.wr_sound hP (State.inc_sound hP h2))
  · extract_lets +onlyGivenNames x5
    have h6 : P x5 := State.modTrc_sound hP h2; clear_value x5
    exact ite_sound (State.trcClose_sound hP h6) h6

theorem State.trcCapture_sound (hP : Sound P) {s : State} {n : Ch} {idx tick : Nat} {trig : Bool} (hs : P s) : P (State.trcCapture s n idx tick trig) := by
  unfold State.trcCapture
  extract_lets +onlyGivenNames x0; subst x0
  extract_lets +onlyGivenNames x1; clear_value x1
  extract_lets +onlyGivenNames x2; clear_value x2
  extract_lets +onlyGivenNames x3; clear_value x3
  extract_lets +onlyGivenNames x4
  have h5 : P x4 := ite_sound hs (State.trcRam_sound hP hs); clear_value x4
  extract_lets +onlyGivenNames x6
  have h7 : P x6 := ite_sound h5 (State.trcStream_sound hP h5); clear_value x6
  exact State.modTrc_sound hP (State.inc_sound hP h7)

theorem State.traceLast_sound (hP : Sound P) {s : State} {n : Ch} {idx tick : Nat} (hs : P s) : P (State.traceLast s n idx tick) := by
  unfold State.traceLast
  extract_lets +onlyGivenNames x0
  have h1 : P x0 := State.modCh_sound hP (fun _ => rfl) (State.modTrc_sound hP hs); clear_value x0
  exact ite_sound (State.trcCapture_sound hP h1) h1

theorem State.trcDone_sound (hP : Sound P) {s : State} {n : Ch} (hs : P s) : P (State.trcDone s n) := by
  unfold State.trcDone
  extract_lets +onlyGivenNames x0; subst x0
  extract_lets +onlyGivenNames x1; clear_value x1
  extract_lets +onlyGivenNames x2
  have h3 : P x2 := ite_sound hs (State.wr_sound hP hs); clear_value x2
  extract_lets +onlyGivenNames x4
  have h5 : P x4 := State.wrs_sound hP (State.trcClose_sound hP h3); clear_value x4
  split
  · exact State.jobEnd_sound hP h5
  · exact h5

theorem State.trcTrigger_sound (hP : Sound P) {s : State} {n : Ch} {idx tick : Nat} (hs : P s) : P (State.trcTrigger s n idx tick) := by
  unfold State.trcTrigger
  extract_lets +onlyGivenNames x0; subst x0
  extract_lets +onlyGivenNames x1; clear_value x1
  extract_lets +onlyGivenNames x2; clear_value x2
  extract_lets +onlyGivenNames x3; clear_value x3
  extract_lets +onlyGivenNames x4; clear_value x4
  extract_lets +onlyGivenNames x5; clear_value x5
  extract_lets +onlyGivenNames x6; clear_value x6
  extract_lets +onlyGivenNames x7
  have h8 : P x7 := State.wrs_sound hP hs; clear_value x7
  extract_lets +onlyGivenNames x9
  have h10 : P x9 := ite_sound (State.wr_sound hP h8) h8; clear_value x9
  extract_lets +onlyGivenNames x11
  have h12 : P x11 := ite_sound (State.wr_sound hP h10) h10; clear_value x11
  extract_lets +onlyGivenNames x13
  have h14 : P x13 := State.modTrc_sound hP h12; clear_value x13
  refine ite_sound ?_ ?_
  · refine State.forCh_sound hP (fun a15 a16 h17 => ?_) ?_
    · exact State.trcFire_sound hP h17
    · exact h14
  · exact h14

theorem State.traceSample_sound (hP : Sound P) {s : State} {n : Ch} {idx tick : Nat} (hs : P s) : P (State.traceSample s n idx tick) := by
  unfold State.traceSample
  extract_lets +onlyGivenNames x0; subst x0
  refine ite_sound ?_ ?_
  · exact ite_sound (State.traceLast_sound hP hs) hs
  · refine ite_sound ?_ ?_
    · exact State.trcDone_sound hP hs
    · extract_lets +onlyGivenNames x1; clear_value x1
      extract_lets +onlyGivenNames x2; clear_value x2
      extract_lets +onlyGivenNames x3
      have h4 : P x3 := State.modCh_sound hP (fun _ => rfl) (State.modTrc_sound hP hs); clear_value x3
      extract_lets +onlyGivenNames x5
      have h6 : P x5 := ite_sound (State.trcTrigger_sound hP h4) h4; clear_value x5
      extract_lets +onlyGivenNames x7
      have h8 : P x7 := ite_sound (State.trcCapture_sound hP h6) h6; clear_value x7
      exact ite_sound (State.trcDone_sound hP h8) h8

theorem State.trcStart_sound (hP : Sound P) {s : State} {n : Ch} {next : Nat} (hs : P s) : P (State.trcStart s n next) := by
  unfold State.trcStart
  extract_lets +onlyGivenNames x0; subst x0
  extract_lets +onlyGivenNames x1
  have h2 : P x1 := State.wrs_sound hP hs; clear_value x1
  extract_lets +onlyGivenNames x3
  have h4 : P x3 := State.wrs_sound hP h2; clear_value x3
  extract_lets +onlyGivenNames x5; clear_value x5
  exact State.modCh_sound hP (fun _ => rfl) (State.modTrc_sound hP h4)

theorem execTraceFlushTimeout_sound (hP : Sound P) {n : Ch} {s : State} (hs : P s) : ∃ s', execTraceFlushTimeout n s = .next s' ∧ P s' := by
  unfold execTraceFlushTimeout
  refine ⟨_, rfl, ?_⟩
  refine State.whenCh_sound hP (fun a0 h1 => ?_) ?_
  · exact State.trcClose_sound hP h1
  · exact hs

theorem execLoopCntClr_sound (hP : Sound P) {n : Ch} {s : State} (hs : P s) : ∃ s', execLoopCntClr n s = .next s' ∧ P s' := by
  unfold execLoopCntClr
  refine ⟨_, rfl, ?_⟩
  refine State.whenCh_sound hP (fun a0 h1 => ?_) ?_
  · exact State.wrs_sound hP h1
  · exact hs

theorem State.modEng_sound (hP : Sound P) {s : State} {n : Ch} {g : Eng → Eng} (hs : P s) : P (State.modEng s n g) := by
  unfold State.modEng
  exact State.modCh_sound hP (fun _ => rfl) hs

theorem State.putSlice_sound (hP : Sound P) {s : State} {n : Ch} {k : Fin 6} {x0 : Slice} (hs : P s) : P (State.putSlice s n k x0) := by
  unfold State.putSlice
  exact State.modEng_sound hP hs

theorem State.bankShow_sound (hP : Sound P) {s : State} {n : Ch} (hs : P s) : P (State.bankShow s n) := by
  unfold State.bankShow
  exact State.wr_sound hP hs

theorem State.calcTs_sound (hP : Sound P) {s : State} {n : Ch} {k : Fin 6} (hs : P s) : P (State.calcTs s n k) := by
  unfold State.calcTs
  extract_lets +onlyGivenNames x0; clear_value x0
  extract_lets +onlyGivenNames x1; clear_value x1
  exact State.putSlice_sound hP hs

theorem State.bankToggle_sound (hP : Sound P) {s : State} {n : Ch} {p : Fin 6 → Bool} (hs : P s) : P (State.bankToggle s n p) := by
  unfold State.bankToggle
  extract_lets +onlyGivenNames x0; clear_value x0
  extract_lets +onlyGivenNames x1
  have h2 : P x1 := by
    subst x1
    refine foldl_sound (fun a3 a4 h5 => ?_) _ ?_
    · exact State.putSlice_sound hP h5
    · exact hs
  clear_value x1
  refine State.bankShow_sound hP ?_
  refine foldl_sound (fun a6 a7 h8 => ?_) _ ?_
  · exact State.calcTs_sound hP h8
  · exact h2

theorem State.swapDone_sound (hP : Sound P) {s : State} {n : Ch} (hs : P s) : P (State.swapDone s n) := by
  unfold State.swapDone
  extract_lets +onlyGivenNames x0
  have h1 : P x0 := State.bankToggle_sound hP hs; clear_value x0
  extract_lets +onlyGivenNames x2
  have h3 : P x2 := by
    subst x2
    refine foldl_sound (fun a4 a5 h6 => ?_) _ ?_
    · exact State.putSlice_sound hP h6
    · exact h1
  clear_value x2
  exact State.wrs_sound hP h3

theorem State.bankSwap_sound (hP : Sound P) {s : State} {n : Ch} (hs : P s) : P (State.bankSwap s n) := by
  unfold State.bankSwap
  exact ite_sound hs (ite_sound (State.wrs_sound hP hs) (State.swapDone_sound hP hs))

theorem execBankSwap_sound (hP : Sound P) {n : Ch} {imm : BitVec 6} {s : State} (hs : P s) : ∃ s', execBankSwap n imm s = .next s' ∧ P s' := by
  unfold execBankSwap
  refine ⟨_, rfl, ?_⟩
  refine State.whenCh_sound hP (fun a0 h1 => ?_) ?_
  · exact State.bankSwap_sound hP (State.wr_sound hP h1)
  · exact hs

theorem State.wrRej_sound (hP : Sound P) {s : State} {n : Ch} {cause addr : Nat} (hs : P s) : P (State.wrRej s n cause addr) := by
  unfold State.wrRej
  extract_lets +onlyGivenNames x0; subst x0
  extract_lets +onlyGivenNames x1
  have h2 : P x1 := State.wr_sound hP hs; clear_value x1
  exact ite_sound h2 (State.wrs_sound hP h2)

theorem State.auxRef_sound (hP : Sound P) {s : State} {n : Ch} {vd : Bool} {v : Word} (hs : P s) : P (State.auxRef s n vd v) := by
  unfold State.auxRef
  extract_lets +onlyGivenNames x0; clear_value x0
  exact ite_sound (State.wr_sound hP hs) (State.wrRej_sound hP hs)

theorem State.nodeWrite_sound (hP : Sound P) {s : State} {n : Ch} {k : Nat} {v : Word} (hs : P s) : P (State.nodeWrite s n k v) := by
  unfold State.nodeWrite
  extract_lets +onlyGivenNames x0; clear_value x0
  refine ite_sound ?_ ?_
  · exact State.wrRej_sound hP hs
  · refine ite_sound ?_ ?_
    · exact State.wrRej_sound hP hs
    · refine ite_sound ?_ ?_
      · exact State.wr_sound hP hs
      · refine ite_sound ?_ ?_
        · exact State.wr_sound hP hs
        · refine dite_sound (fun _ => ?_) (fun _ => ?_)
          · exact State.modEng_sound hP hs
          · exact hs

theorem State.bankWrite_sound (hP : Sound P) {s : State} {n : Ch} {b : Bool} {k : Fin 6} {j : Nat} {v : Word} (hs : P s) : P (State.bankWrite s n b k j v) := by
  unfold State.bankWrite
  extract_lets +onlyGivenNames x0; subst x0
  extract_lets +onlyGivenNames x1; clear_value x1
  extract_lets +onlyGivenNames x2; clear_value x2
  exact ite_sound (State.wrRej_sound hP hs) (ite_sound (State.wr_sound hP hs) (State.wrs_sound hP hs))

theorem State.swapStep_sound (hP : Sound P) {s : State} {n : Ch} {idx : Nat} (hs : P s) : P (State.swapStep s n idx) := by
  unfold State.swapStep
  extract_lets +onlyGivenNames x0; subst x0
  refine ite_sound ?_ ?_
  · exact hs
  · extract_lets +onlyGivenNames x1; clear_value x1
    extract_lets +onlyGivenNames x2
    have h3 : P x2 := State.bankToggle_sound hP hs; clear_value x2
    extract_lets +onlyGivenNames x4; clear_value x4
    extract_lets +onlyGivenNames x5; clear_value x5
    exact ite_sound (State.swapDone_sound hP h3) h3

theorem execBankWrite_sound (hP : Sound P) {n : Ch} {b : Bool} {k : Fin 6} {j : Fin 9} {v : Word} {s : State} (hs : P s) : ∃ s', execBankWrite n b k j v s = .next s' ∧ P s' := by
  unfold execBankWrite
  refine ⟨_, rfl, ?_⟩
  refine State.whenCh_sound hP (fun a0 h1 => ?_) ?_
  · exact State.bankWrite_sound hP h1
  · exact hs

theorem execNodeWrite_sound (hP : Sound P) {n : Ch} {v : Word} {s : State} (hs : P s) : ∃ s', execNodeWrite n v s = .next s' ∧ P s' := by
  unfold execNodeWrite
  refine ⟨_, rfl, ?_⟩
  refine State.whenCh_sound hP (fun a0 h1 => ?_) ?_
  · exact State.nodeWrite_sound hP h1
  · exact hs

theorem execAuxRefWrite_sound (hP : Sound P) {n : Ch} {vd : Bool} {v : Word} {s : State} (hs : P s) : ∃ s', execAuxRefWrite n vd v s = .next s' ∧ P s' := by
  unfold execAuxRefWrite
  refine ⟨_, rfl, ?_⟩
  refine State.whenCh_sound hP (fun a0 h1 => ?_) ?_
  · exact State.auxRef_sound hP h1
  · exact hs

theorem State.runningPair_sound (hP : Sound P) {s : State} {n : Ch} {q : Samp} (hs : P s) : P (State.runningPair s n q).1 := by
  unfold State.runningPair
  extract_lets +onlyGivenNames x0; clear_value x0
  extract_lets +onlyGivenNames x1; clear_value x1
  extract_lets +onlyGivenNames x2
  have h3 : P x2 := State.modPos_sound hP hs; clear_value x2
  exact fst_mk (State.flag_sound hP h3)

theorem State.brkBegin_sound (hP : Sound P) {s : State} {n : Ch} (hs : P s) : P (State.brkBegin s n) := by
  unfold State.brkBegin
  exact State.modSpt_sound hP (State.wr_sound hP hs)

theorem State.restStep_sound (hP : Sound P) {s : State} {n : Ch} {u : Use} (hs : P s) : P (State.restStep s n u) := by
  unfold State.restStep
  extract_lets +onlyGivenNames x0; clear_value x0
  exact State.modSpt_sound hP hs

theorem State.brakingStep_sound (hP : Sound P) {s : State} {n : Ch} {u : Use} (hs : P s) : P (State.brakingStep s n u).1 := by
  unfold State.brakingStep
  extract_lets +onlyGivenNames x0; subst x0
  extract_lets +onlyGivenNames x1
  have h2 : P x1 := ite_sound (State.brkBegin_sound hP hs) hs; clear_value x1
  extract_lets +onlyGivenNames x3
  have h4 : P x3 := State.restStep_sound hP h2; clear_value x3
  split
  · exact ite_fst (fst_mk h4) (fst_mk (State.wr_sound hP h4))
  · exact ite_fst (fst_mk h4) (fst_mk (State.modSpt_sound hP h4))
  · exact ite_fst (fst_mk h4) (fst_mk h4)
  · exact fst_mk h4

theorem State.modHo_sound (hP : Sound P) {s : State} {n : Ch} {g : Ho → Ho} (hs : P s) : P (State.modHo s n g) := by
  unfold State.modHo
  exact State.modCh_sound hP (fun _ => rfl) hs

theorem State.hoDone_sound (hP : Sound P) {s : State} {n : Ch} (hs : P s) : P (State.hoDone s n) := by
  unfold State.hoDone
  extract_lets +onlyGivenNames x0; clear_value x0
  extract_lets +onlyGivenNames x1
  have h2 : P x1 := State.runWr_sound hP (State.runWr_sound hP hs); clear_value x1
  extract_lets +onlyGivenNames x3
  have h4 : P x3 := State.wr_sound hP (State.hoEnd_sound hP h2); clear_value x3
  exact State.modPos_sound hP (State.modHo_sound hP h4)

theorem State.hoStep_sound (hP : Sound P) {s : State} {n : Ch} {q : Samp} {u : Use} (hs : P s) : P (State.hoStep s n q u).1 := by
  unfold State.hoStep
  extract_lets +onlyGivenNames x0; subst x0
  extract_lets +onlyGivenNames x1; clear_value x1
  refine ite_fst ?_ ?_
  · exact fst_mk hs
  · extract_lets +onlyGivenNames x2; clear_value x2
    extract_lets +onlyGivenNames x3; clear_value x3
    extract_lets +onlyGivenNames x4; clear_value x4
    extract_lets +onlyGivenNames x5; clear_value x5
    extract_lets +onlyGivenNames x6
    have h7 : P x6 := State.wr_sound hP hs; clear_value x6
    refine ite_fst ?_ ?_
    · extract_lets +onlyGivenNames x8; clear_value x8
      extract_lets +onlyGivenNames x9; clear_value x9
      refine ite_fst ?_ ?_
      · exact fst_mk (State.hoDone_sound hP h7)
      · extract_lets +onlyGivenNames x10; clear_value x10
        extract_lets +onlyGivenNames x11; clear_value x11
        exact fst_mk (State.modHo_sound hP h7)
    · extract_lets +onlyGivenNames x12
      have h13 : P x12 := State.wr_sound hP h7; clear_value x12
      extract_lets +onlyGivenNames x14; clear_value x14
      exact ite_fst (fst_mk (State.modHo_sound hP (State.wrs_sound hP h13))) (fst_mk h13)

theorem State.suDone_sound (hP : Sound P) {s : State} {n : Ch} (hs : P s) : P (State.suDone s n) := by
  unfold State.suDone
  exact State.wr_sound hP (State.toState_sound hP hs)

theorem State.suHand_sound (hP : Sound P) {s : State} {n : Ch} {q : Samp} {d : Drive} {iqLast : Option Word} (hs : P s) : P (State.suHand s n q d iqLast).1 := by
  unfold State.suHand
  split
  · rename_i y0 y1 y2 e3
    have h4 : P y0 := by
      rw [show y0 = _ from (congrArg Prod.fst e3).symm]
      exact State.hoStep_sound hP hs
    exact ite_fst (fst_mk (State.suDone_sound hP h4)) (fst_mk h4)

theorem State.ifStep_sound (hP : Sound P) {s : State} {n : Ch} (hs : P s) : P (State.ifStep s n).1 := by
  unfold State.ifStep
  extract_lets +onlyGivenNames x0; subst x0
  extract_lets +onlyGivenNames x1; clear_value x1
  extract_lets +onlyGivenNames x2; clear_value x2
  extract_lets +onlyGivenNames x3; clear_value x3
  extract_lets +onlyGivenNames x4; clear_value x4
  extract_lets +onlyGivenNames x5; clear_value x5
  exact fst_mk (State.modSpt_sound hP hs)

theorem State.hoBegin_sound (hP : Sound P) {s : State} {n : Ch} (hs : P s) : P (State.hoBegin s n) := by
  unfold State.hoBegin
  exact State.modHo_sound hP (State.wrs_sound hP hs)

theorem State.suAsk_sound (hP : Sound P) {s : State} {n : Ch} (hs : P s) : P (State.suAsk s n) := by
  unfold State.suAsk
  extract_lets +onlyGivenNames x0
  have h1 : P x0 := State.modHo_sound hP hs; clear_value x0
  exact ite_sound h1 (State.hoBegin_sound hP h1)

theorem State.suDirect_sound (hP : Sound P) {s : State} {n : Ch} (hs : P s) : P (State.suDirect s n) := by
  unfold State.suDirect
  exact State.suDone_sound hP (State.hoDone_sound hP hs)

theorem State.suOwn_sound (hP : Sound P) {s : State} {n : Ch} {q : Samp} {d : Drive} {fin own : Bool} (hs : P s) : P (State.suOwn s n q d fin own).1 := by
  unfold State.suOwn
  extract_lets +onlyGivenNames x0; clear_value x0
  split
  · rename_i y1 y2 y3 e4
    have h5 : P y1 := by
      rw [show y1 = _ from (congrArg Prod.fst e4).symm]
      exact State.hoStep_sound hP hs
    exact ite_fst (ite_fst (fst_mk (State.suDone_sound hP h5)) (fst_mk h5)) (ite_fst (fst_mk h5) (ite_fst (fst_mk (State.suDirect_sound hP h5)) (fst_mk (State.suAsk_sound hP h5))))

theorem State.starting_sound (hP : Sound P) {s : State} {n : Ch} {q : Samp} {p : SrcVal} (hs : P s) : P (State.starting s n q p).1 := by
  unfold State.starting
  extract_lets +onlyGivenNames x0; subst x0
  extract_lets +onlyGivenNames x1; clear_value x1
  extract_lets +onlyGivenNames x2; clear_value x2
  split
  · exact ite_fst (State.suHand_sound hP hs) (fst_mk hs)
  · split
    · rename_i y3 y4 e5
      have h6 : P y3 := by
        rw [show y3 = _ from (congrArg Prod.fst e5).symm]
        exact State.ifStep_sound hP hs
      exact ite_fst (State.suHand_sound hP (ite_sound (State.suAsk_sound hP h6) h6)) (fst_mk (ite_sound (State.suAsk_sound hP h6) h6))
  · exact ite_fst (State.suHand_sound hP hs) (ite_fst (ite_fst (fst_mk (State.suDirect_sound hP hs)) (ite_fst (fst_mk (State.suAsk_sound hP hs)) (fst_mk (State.wr_sound hP hs)))) (fst_mk hs))
  · exact ite_fst (State.suHand_sound hP (ite_sound (State.suAsk_sound hP hs) hs)) (fst_mk (ite_sound (State.suAsk_sound hP hs) hs))
  · exact State.suOwn_sound hP (State.modSpt_sound hP hs)
  · exact State.suOwn_sound hP (State.modSpt_sound hP hs)
  · split
    · rename_i y7 y8 y9 e10
      have h11 : P y7 := by
        rw [show y7 = _ from (congrArg Prod.fst e10).symm]
        exact State.hoStep_sound hP hs
      exact ite_fst (fst_mk (State.modSpt_sound hP (State.wr_sound hP h11))) (fst_mk h11)
  · exact State.suOwn_sound hP (State.modSpt_sound hP hs)

theorem State.drive_sound (hP : Sound P) {s : State} {n : Ch} {q : Samp} {p : SrcVal} (hs : P s) : P (State.drive s n q p).1 := by
  unfold State.drive
  extract_lets +onlyGivenNames x0; subst x0
  refine ite_fst ?_ ?_
  · extract_lets +onlyGivenNames x1; clear_value x1
    exact ite_fst (fst_mk hs) (ite_fst (State.brakingStep_sound hP hs) (fst_mk hs))
  · split
    · exact State.starting_sound hP hs
    · split
      · rename_i y2 y3 y4 e5
        have h6 : P y2 := by
          rw [show y2 = _ from (congrArg Prod.fst e5).symm]
          exact State.hoStep_sound hP hs
        exact ite_fst (fst_mk (State.restStep_sound hP h6)) (fst_mk h6)
    · split
      · rename_i y7 y8 y9 e10
        have h11 : P y7 := by
          rw [show y7 = _ from (congrArg Prod.fst e10).symm]
          exact State.hoStep_sound hP hs
        exact State.brakingStep_sound hP h11
    · split
      · rename_i y12 y13 y14 e15
        have h16 : P y12 := by
          rw [show y12 = _ from (congrArg Prod.fst e15).symm]
          exact State.hoStep_sound hP hs
        exact ite_fst (State.brakingStep_sound hP h16) (fst_mk (State.wr_sound hP h16))

theorem State.stopCheck_sound (hP : Sound P) {s : State} {n : Ch} (hs : P s) : P (State.stopCheck s n) := by
  unfold State.stopCheck
  extract_lets +onlyGivenNames x0; subst x0
  refine ite_sound ?_ ?_
  · exact hs
  · split
    · exact ite_sound (State.ask_sound hP hs) hs
    · exact ite_sound (State.ask_sound hP hs) hs
    · exact ite_sound (State.ask_sound hP hs) hs
    · exact ite_sound (State.ask_sound hP hs) hs
    · exact hs

theorem State.hallSector_sound (hP : Sound P) {s : State} {n : Ch} (hs : P s) : P (State.hallSector s n) := by
  unfold State.hallSector
  refine ite_sound ?_ ?_
  · exact State.putSector_sound hP hs
  · refine ite_sound ?_ ?_
    · extract_lets +onlyGivenNames x0; clear_value x0
      extract_lets +onlyGivenNames x1; clear_value x1
      extract_lets +onlyGivenNames x2; clear_value x2
      exact State.putSector_sound hP hs
    · exact hs

theorem State.suFail_sound (hP : Sound P) {s : State} {n : Ch} (hs : P s) : P (State.suFail s n) := by
  unfold State.suFail
  extract_lets +onlyGivenNames x0; clear_value x0
  extract_lets +onlyGivenNames x1
  have h2 : P x1 := State.modCh_sound hP (fun _ => rfl) (State.toState_sound hP hs); clear_value x1
  exact State.raiseCh_sound hP h2

theorem State.suBegin_sound (hP : Sound P) {s : State} {n : Ch} {m : Nat} (hs : P s) : P (State.suBegin s n m) := by
  unfold State.suBegin
  extract_lets +onlyGivenNames x0; subst x0
  extract_lets +onlyGivenNames x1; clear_value x1
  extract_lets +onlyGivenNames x2; clear_value x2
  extract_lets +onlyGivenNames x3; clear_value x3
  extract_lets +onlyGivenNames x4
  have h5 : P x4 := State.modSpt_sound hP (State.wr_sound hP hs); clear_value x4
  extract_lets +onlyGivenNames x6
  have h7 : P x6 := State.modHo_sound hP h5; clear_value x6
  extract_lets +onlyGivenNames x8
  have h9 : P x8 := ite_sound (State.injStart_sound hP h7) h7; clear_value x8
  exact ite_sound (State.suFail_sound hP h9) h9

theorem State.suEnter_sound (hP : Sound P) {s : State} {n : Ch} (hs : P s) : P (State.suEnter s n) := by
  unfold State.suEnter
  extract_lets +onlyGivenNames x0
  have h1 : P x0 := State.wr_sound hP hs; clear_value x0
  extract_lets +onlyGivenNames x2
  have h3 : P x2 := ite_sound h1 (State.obsReset_sound hP h1); clear_value x2
  extract_lets +onlyGivenNames x4
  have h5 : P x4 := ite_sound h3 (State.hfiReset_sound hP h3); clear_value x4
  exact State.suBegin_sound hP h5

theorem execHandoverTimeout_sound (hP : Sound P) {n : Ch} {s : State} (hs : P s) : ∃ s', execHandoverTimeout n s = .next s' ∧ P s' := by
  unfold execHandoverTimeout
  refine ⟨_, rfl, ?_⟩
  refine State.whenCh_sound hP (fun a0 h1 => ?_) ?_
  · extract_lets +onlyGivenNames x2; subst x2
    refine ite_sound ?_ ?_
    · exact h1
    · extract_lets +onlyGivenNames x3
      have h4 : P x3 := State.wr_sound hP h1; clear_value x3
      split
      · exact State.hoEnd_sound hP h4
      · exact State.settleAll_sound hP (State.raiseCh_sound hP h4)
      · exact State.modHo_sound hP (State.wrs_sound hP h4)
  · exact hs

theorem execStartupTimeout_sound (hP : Sound P) {n : Ch} {s : State} (hs : P s) : ∃ s', execStartupTimeout n s = .next s' ∧ P s' := by
  unfold execStartupTimeout
  refine ⟨_, rfl, ?_⟩
  refine State.whenCh_sound hP (fun a0 h1 => ?_) ?_
  · exact ite_sound (State.settleAll_sound hP (State.suFail_sound hP h1)) h1
  · exact hs

theorem execAlignEnd_sound (hP : Sound P) {n : Ch} {s : State} (hs : P s) : ∃ s', execAlignEnd n s = .next s' ∧ P s' := by
  unfold execAlignEnd
  refine ⟨_, rfl, ?_⟩
  refine State.whenCh_sound hP (fun a0 h1 => ?_) ?_
  · extract_lets +onlyGivenNames x2; subst x2
    refine ite_sound ?_ ?_
    · exact h1
    · extract_lets +onlyGivenNames x3; clear_value x3
      extract_lets +onlyGivenNames x4; clear_value x4
      extract_lets +onlyGivenNames x5
      have h6 : P x5 := ite_sound (State.encRef_sound hP h1) h1; clear_value x5
      extract_lets +onlyGivenNames x7
      have h8 : ∀ a9, P (x7 a9) := by
        intro a9
        subst x7
        beta_reduce
        exact State.wrs_sound hP h6
      clear_value x7
      extract_lets +onlyGivenNames x10
      have h11 : P x10 := by
        subst x10
        refine ite_sound ?_ ?_
        · exact h8 _ 
        · refine ite_sound ?_ ?_
          · split
            · exact h8 _ 
            · exact h6
          · exact h6
      clear_value x10
      extract_lets +onlyGivenNames x12; clear_value x12
      exact ite_sound (State.suAsk_sound hP h11) (State.settleAll_sound hP (State.suFail_sound hP h11))
  · exact hs

theorem execCatchObserveTimeout_sound (hP : Sound P) {n : Ch} {s : State} (hs : P s) : ∃ s', execCatchObserveTimeout n s = .next s' ∧ P s' := by
  unfold execCatchObserveTimeout
  refine ⟨_, rfl, ?_⟩
  refine State.whenCh_sound hP (fun a0 h1 => ?_) ?_
  · extract_lets +onlyGivenNames x2; subst x2
    refine ite_sound ?_ ?_
    · exact h1
    · extract_lets +onlyGivenNames x3; clear_value x3
      extract_lets +onlyGivenNames x4; clear_value x4
      extract_lets +onlyGivenNames x5; clear_value x5
      extract_lets +onlyGivenNames x6; clear_value x6
      refine ite_sound ?_ ?_
      · extract_lets +onlyGivenNames x7
        have h8 : P x7 := State.wr_sound hP h1; clear_value x7
        exact State.settle_sound hP (ite_sound (State.suDone_sound hP h8) (State.suBegin_sound hP h8))
      · exact State.settleAll_sound hP (State.suFail_sound hP h1)
  · exact hs

theorem execStopTimeout_sound (hP : Sound P) {n : Ch} {s : State} (hs : P s) : ∃ s', execStopTimeout n s = .next s' ∧ P s' := by
  unfold execStopTimeout
  refine ⟨_, rfl, ?_⟩
  refine State.whenCh_sound hP (fun a0 h1 => ?_) ?_
  · exact ite_sound (State.ask_sound hP (State.wr_sound hP h1)) h1
  · exact hs

theorem execDcInjectionEnd_sound (hP : Sound P) {n : Ch} {s : State} (hs : P s) : ∃ s', execDcInjectionEnd n s = .next s' ∧ P s' := by
  unfold execDcInjectionEnd
  refine ⟨_, rfl, ?_⟩
  refine State.whenCh_sound hP (fun a0 h1 => ?_) ?_
  · exact ite_sound (State.ask_sound hP h1) h1
  · exact hs

theorem execHallCodeAccepted_sound (hP : Sound P) {n : Ch} {code : BitVec 3} {s : State} (hs : P s) : ∃ s', execHallCodeAccepted n code s = .next s' ∧ P s' := by
  unfold execHallCodeAccepted
  refine ⟨_, rfl, ?_⟩
  refine State.whenCh_sound hP (fun a0 h1 => ?_) ?_
  · extract_lets +onlyGivenNames x2
    have h3 : P x2 := State.wr_sound hP h1; clear_value x2
    extract_lets +onlyGivenNames x4; clear_value x4
    extract_lets +onlyGivenNames x5; clear_value x5
    extract_lets +onlyGivenNames x6
    have h7 : P x6 := State.hallSector_sound hP (ite_sound (State.hallIllegal_sound hP h3) (State.hallEdge_sound hP h3)); clear_value x6
    exact ite_sound (State.settleAll_sound hP (State.pcEval_sound hP h7)) h7
  · exact hs

theorem State.injection_sound (hP : Sound P) {s : State} {n : Ch} (hs : P s) : P (State.injection s n) := by
  unfold State.injection
  extract_lets +onlyGivenNames x0; clear_value x0
  extract_lets +onlyGivenNames x1
  have h2 : ∀ a3 a4, P a4 → P (x1 a3 a4) := by
    intro a3 a4 h5
    subst x1
    beta_reduce
    exact State.modObs_sound hP h5
  clear_value x1
  refine ite_sound ?_ ?_
  · exact h2 _ _ (State.injStop_sound hP hs)
  · refine ite_sound ?_ ?_
    · exact h2 _ _ (State.injStart_sound hP hs)
    · refine ite_sound ?_ ?_
      · extract_lets +onlyGivenNames x6; clear_value x6
        exact h2 _ _ (ite_sound (State.injStop_sound hP hs) (State.injStart_sound hP hs))
      · exact h2 _ _ (State.injStop_sound hP hs)

theorem State.showUse_sound (hP : Sound P) {s : State} {n : Ch} {q : Samp} {u : Use} (hs : P s) : P (State.showUse s n q u) := by
  unfold State.showUse
  extract_lets +onlyGivenNames x0; clear_value x0
  exact State.wrs_sound hP hs

theorem State.homing_sound (hP : Sound P) {s : State} {n : Ch} (hs : P s) : P (State.homing s n) := by
  unfold State.homing
  extract_lets +onlyGivenNames x0; subst x0
  extract_lets +onlyGivenNames x1; clear_value x1
  refine ite_sound ?_ ?_
  · exact hs
  · extract_lets +onlyGivenNames x2
    have h3 : P x2 := ite_sound (State.homeEvent_sound hP hs) hs; clear_value x2
    extract_lets +onlyGivenNames x4; clear_value x4
    refine ite_sound ?_ ?_
    · extract_lets +onlyGivenNames x5; clear_value x5
      extract_lets +onlyGivenNames x6; clear_value x6
      extract_lets +onlyGivenNames x7
      have h8 : P x7 := State.wr_sound hP (State.wrPos_sound hP h3); clear_value x7
      exact State.modSpt_sound hP (State.putProf_sound hP (State.putMpos_sound hP h8))
    · exact h3

theorem State.front_sound (hP : Sound P) {s : State} {n : Ch} {q : Samp} (hs : P s) : P (State.front s n q).1 := by
  have h1 : P (s.modEng n fun e => { e with next := e.next + 1 }) := State.modEng_sound hP hs
  have h2 := State.encSample_sound hP (n := n) (t := q.stamp) h1
  have h3 := State.obsPrepare_sound hP (n := n) (State.injection_sound hP (n := n) (ite_sound (c := ((s.modEng n fun e => { e with next := e.next + 1 }).encSample n q.stamp).srcUsed n 2) (State.spiSample_sound hP (n := n) h2) h2))
  have h4 := State.runningPair_sound hP (n := n) (q := q) h3
  have h5 := fun p => State.drive_sound hP (n := n) (q := q) (p := p) h4
  exact State.generator_sound hP (State.homing_sound hP (State.posCount_sound hP (State.swapStep_sound hP (State.putSector_sound hP (State.showUse_sound hP
    (ite_sound (h5 _) (State.used_sound hP (h5 _))))))))

theorem State.estState_sound (hP : Sound P) {s : State} {n : Ch} {q : Samp} {u : Use} {w : Word} (hs : P s) : P (State.estState s n q u w) := by
  unfold State.estState
  extract_lets +onlyGivenNames x0; subst x0
  extract_lets +onlyGivenNames x1; clear_value x1
  extract_lets +onlyGivenNames x2; clear_value x2
  extract_lets +onlyGivenNames x3; clear_value x3
  extract_lets +onlyGivenNames x4; clear_value x4
  extract_lets +onlyGivenNames x5
  have h6 : P x5 := State.modObs_sound hP hs; clear_value x5
  extract_lets +onlyGivenNames x7
  have h8 : P x7 := State.wrs_sound hP h6; clear_value x7
  exact ite_sound (State.pcPut_sound hP h8) h8

theorem State.putEst_sound (hP : Sound P) {s : State} {n : Ch} {r : EstOut} {p : Pre} (hs : P s) : P (State.putEst s n r p) := by
  unfold State.putEst
  extract_lets +onlyGivenNames x0; clear_value x0
  extract_lets +onlyGivenNames x1
  have h2 : P x1 := State.modObs_sound hP hs; clear_value x1
  extract_lets +onlyGivenNames x3
  have h4 : P x3 := ite_sound (State.flag_sound hP h2) h2; clear_value x3
  extract_lets +onlyGivenNames x5
  have h6 : P x5 := State.estEvents_sound hP h4; clear_value x5
  exact State.obsShow_sound hP (State.estEvents_sound hP h6)

theorem State.discard_sound (hP : Sound P) {s : State} {n : Ch} {s0 : State} (hs : P s) : P (State.discard s n s0) := by
  unfold State.discard
  extract_lets +onlyGivenNames x0; clear_value x0
  extract_lets +onlyGivenNames w1 x2
  have h3 : P x2 := by
    subst x2 w1
    exact State.modCh_sound hP (fun _ => rfl) hs
  clear_value w1 x2
  extract_lets +onlyGivenNames x4
  have h5 : P x4 := State.wrs_sound hP h3; clear_value x4
  extract_lets +onlyGivenNames x6
  have h7 : P x6 := by
    subst x6
    refine foldl_sound (fun a8 a9 h10 => ?_) _ ?_
    · extract_lets +onlyGivenNames x11; clear_value x11
      exact State.putSlice_sound hP h10
    · exact h5
  clear_value x6
  exact State.raiseCh_sound hP (State.inc_sound hP (State.trcGap_sound hP h7))

theorem State.noFeedback_sound (hP : Sound P) {s : State} {n : Ch} {p : Pre} (hs : P s) : P (State.noFeedback s n p) := by
  unfold State.noFeedback
  extract_lets +onlyGivenNames x0; subst x0
  extract_lets +onlyGivenNames x1; clear_value x1
  extract_lets +onlyGivenNames x2
  have h3 : P x2 := ite_sound (State.inc_sound hP hs) hs; clear_value x2
  extract_lets +onlyGivenNames x4; clear_value x4
  extract_lets +onlyGivenNames x5
  have h6 : P x5 := State.modEng_sound hP h3; clear_value x5
  exact State.condSet_sound hP h6

theorem State.loopShow_sound (hP : Sound P) {s : State} {n : Ch} {p : Pre} {rf : Refs} {v : Volt} {r : Runs} (hs : P s) : P (State.loopShow s n p rf v r) := by
  unfold State.loopShow
  extract_lets +onlyGivenNames x0; subst x0
  extract_lets +onlyGivenNames x1; clear_value x1
  extract_lets +onlyGivenNames x2; clear_value x2
  extract_lets +onlyGivenNames x3
  have h4 : P x3 := ite_sound (State.wr_sound hP hs) hs; clear_value x3
  extract_lets +onlyGivenNames x5
  have h6 : P x5 := ite_sound (State.wr_sound hP h4) h4; clear_value x5
  extract_lets +onlyGivenNames x7; clear_value x7
  extract_lets +onlyGivenNames x8
  have h9 : P x8 := State.wrs_sound hP h6; clear_value x8
  extract_lets +onlyGivenNames x10
  have h11 : P x10 := ite_sound h9 (State.wr_sound hP h9); clear_value x10
  exact ite_sound (State.wr_sound hP h11) h11

theorem State.engineWrite_sound (hP : Sound P) {s : State} {n : Ch} {p : Pre} {r : Runs} {nodes : List (Nat × Word)} (hs : P s) : P (State.engineWrite s n p r nodes) := by
  unfold State.engineWrite
  extract_lets +onlyGivenNames x0; clear_value x0
  extract_lets +onlyGivenNames x1; clear_value x1
  extract_lets +onlyGivenNames x2; clear_value x2
  extract_lets +onlyGivenNames x3; clear_value x3
  exact State.modEng_sound hP hs

theorem State.residuals_sound (hP : Sound P) {s : State} {n : Ch} {rf : Word × Word} {ilim : Bool} (hs : P s) : P (State.residuals s n rf ilim) := by
  unfold State.residuals
  extract_lets +onlyGivenNames x0; subst x0
  extract_lets +onlyGivenNames x1; clear_value x1
  extract_lets +onlyGivenNames x2; clear_value x2
  extract_lets +onlyGivenNames x3; clear_value x3
  extract_lets +onlyGivenNames x4
  have h5 : P x4 := ite_sound (State.wr_sound hP hs) hs; clear_value x4
  exact State.pcEval_sound hP (State.flag_sound hP h5)

theorem State.disagree_sound (hP : Sound P) {s : State} {n : Ch} {x0 y : SrcVal} (hs : P s) : P (State.disagree s n x0 y) := by
  unfold State.disagree
  extract_lets +onlyGivenNames x0; subst x0
  extract_lets +onlyGivenNames x1; clear_value x1
  extract_lets +onlyGivenNames x2
  have h3 : P x2 := State.pcEval_sound hP hs; clear_value x2
  refine ite_sound ?_ ?_
  · extract_lets +onlyGivenNames x4; clear_value x4
    exact State.pcEval_sound hP h3
  · exact h3

theorem State.homingLate_sound (hP : Sound P) {s : State} {n : Ch} {u : Use} {iq : Word} (hs : P s) : P (State.homingLate s n u iq) := by
  unfold State.homingLate
  extract_lets +onlyGivenNames x0; subst x0
  extract_lets +onlyGivenNames x1; clear_value x1
  refine ite_sound ?_ ?_
  · exact hs
  · extract_lets +onlyGivenNames x2; clear_value x2
    extract_lets +onlyGivenNames x3; clear_value x3
    extract_lets +onlyGivenNames x4
    have h5 : P x4 := State.modSpt_sound hP hs; clear_value x4
    extract_lets +onlyGivenNames x6
    have h7 : P x6 := ite_sound (State.homeEvent_sound hP h5) h5; clear_value x6
    exact State.modSpt_sound hP h7

theorem State.sampleEvent_sound (hP : Sound P) {s : State} {n : Ch} (hs : P s) : P (State.sampleEvent s n) := by
  unfold State.sampleEvent
  extract_lets +onlyGivenNames x0; subst x0
  refine ite_sound ?_ ?_
  · extract_lets +onlyGivenNames x1
    have h2 : P x1 := State.wr_sound hP (State.inc_sound hP hs); clear_value x1
    exact ite_sound (State.raiseCh_sound hP h2) h2
  · exact State.grvEvent_sound hP hs

theorem State.checkNodes_sound (hP : Sound P) {s : State} {n : Ch} (hs : P s) : P (State.checkNodes s n) := by
  unfold State.checkNodes
  exact State.modEng_sound hP hs

theorem State.shadowWrite_sound (hP : Sound P) {s : State} {n : Ch} {q : Samp} {v : Volt} {r : Runs} (hs : P s) : P (State.shadowWrite s n q v r) := by
  unfold State.shadowWrite
  extract_lets +onlyGivenNames x0; clear_value x0
  extract_lets +onlyGivenNames x1; clear_value x1
  extract_lets +onlyGivenNames x2; clear_value x2
  extract_lets +onlyGivenNames x3; clear_value x3
  extract_lets +onlyGivenNames x4
  have h5 : P x4 := State.modCh_sound hP (fun _ => rfl) hs; clear_value x4
  split
  · extract_lets +onlyGivenNames x6; clear_value x6
    exact State.modCh_sound hP (fun _ => rfl) h5
  · exact h5

theorem State.back_sound (hP : Sound P) {s : State} {n : Ch} {q : Samp} {p : Pre} {s0 : State} (hs : P s) : P (State.back s n q p s0) := by
  unfold State.back
  extract_lets +onlyGivenNames x0; subst x0
  extract_lets +onlyGivenNames x1; clear_value x1
  extract_lets +onlyGivenNames x2; clear_value x2
  extract_lets +onlyGivenNames x3; clear_value x3
  extract_lets +onlyGivenNames x4; clear_value x4
  extract_lets +onlyGivenNames x5; clear_value x5
  extract_lets +onlyGivenNames x6; clear_value x6
  extract_lets +onlyGivenNames x7; clear_value x7
  extract_lets +onlyGivenNames x8; clear_value x8
  extract_lets +onlyGivenNames x9
  have h10 : P x9 := State.estState_sound hP (State.putEst_sound hP hs); clear_value x9
  extract_lets +onlyGivenNames x11; clear_value x11
  extract_lets +onlyGivenNames x12; clear_value x12
  refine ite_sound ?_ ?_
  · exact State.discard_sound hP (State.noFeedback_sound hP (State.loopShow_sound hP hs))
  · extract_lets +onlyGivenNames x13
    have h14 : P x13 := State.engineWrite_sound hP (State.noFeedback_sound hP (State.loopShow_sound hP h10)); clear_value x13
    extract_lets +onlyGivenNames x15
    have h16 : P x15 := State.modObs_sound hP h14; clear_value x15
    extract_lets +onlyGivenNames x17
    have h18 : P x17 := State.modSpt_sound hP h16; clear_value x17
    extract_lets +onlyGivenNames x19
    have h20 : P x19 := State.condSet_sound hP h18; clear_value x19
    extract_lets +onlyGivenNames x21
    have h22 : P x21 := by
      subst x21
      split
      · exact State.residuals_sound hP h20
      · exact State.wr_sound hP h20
    clear_value x21
    extract_lets +onlyGivenNames x23
    have h24 : P x23 := by
      subst x23
      split
      · exact State.disagree_sound hP h22
      · exact h22
    clear_value x23
    extract_lets +onlyGivenNames x25
    have h26 : P x25 := State.stopCheck_sound hP (State.homingLate_sound hP h24); clear_value x25
    extract_lets +onlyGivenNames x27
    have h28 : P x27 := State.sampleEvent_sound hP (State.checkNodes_sound hP h26); clear_value x27
    extract_lets +onlyGivenNames x29
    have h30 : P x29 := State.traceSample_sound hP h28; clear_value x29
    exact State.shadowWrite_sound hP h30

theorem State.engineSample_sound (hP : Sound P) {s : State} {n : Ch} {q : Samp} (hs : P s) : P (State.engineSample s n q) := by
  unfold State.engineSample
  extract_lets +onlyGivenNames x0
  have h1 : P x0 := State.modCh_sound hP (fun _ => rfl) hs; clear_value x0
  split
  · rename_i y2 y3 e4
    have h5 : P y2 := by
      rw [show y2 = _ from (congrArg Prod.fst e4).symm]
      exact State.front_sound hP h1
    exact State.settleAll_sound hP (State.back_sound hP h5)

theorem execLoopEngineSample_sound (hP : Sound P) {n : Ch} {s : State} (hs : P s) : ∃ s', execLoopEngineSample n s = .next s' ∧ P s' := by
  unfold execLoopEngineSample
  refine ⟨_, rfl, ?_⟩
  refine State.whenCh_sound hP (fun a0 h1 => ?_) ?_
  · split
    · exact ite_sound (State.engineSample_sound hP h1) h1
    · exact h1
  · exact hs

theorem execHomingTimeout_sound (hP : Sound P) {n : Ch} {s : State} (hs : P s) : ∃ s', execHomingTimeout n s = .next s' ∧ P s' := by
  unfold execHomingTimeout
  refine ⟨_, rfl, ?_⟩
  refine State.whenCh_sound hP (fun a0 h1 => ?_) ?_
  · refine ite_sound ?_ ?_
    · exact h1
    · split
      · exact ite_sound (State.jobFail_sound hP h1) h1
      · exact h1
  · exact hs

end Sys2Proof.Machine
end

