-- ==== Sys2Proof/Laws/SoundNet.lean ====
section
/-! SUPPORT. Fault collector, CAN, NET, OTP, fabric and Canopy time keep what `Sound` names: one lemma per operation. -/

namespace Sys2Proof.Machine

variable {P : State → Prop}

theorem State.fltClear_sound (hP : Sound P) {s : State} {i : Nat} (hs : P s) : P (State.fltClear s i) := by
  unfold State.fltClear
  extract_lets +onlyGivenNames x0; clear_value x0
  exact ite_sound (State.faultEnd_sound hP (State.setFr_sound hP hs)) (State.setFr_sound hP hs)

theorem execClrLatched_sound (hP : Sound P) {s : State} (hs : P s) : ∃ s', execClrLatched s = .next s' ∧ P s' := by
  unfold execClrLatched
  refine ⟨_, rfl, ?_⟩
  refine State.settleAll_sound hP ?_
  refine foldl_sound (fun a0 a1 h2 => ?_) _ ?_
  · exact State.fltClear_sound hP h2
  · exact hs

theorem execFltsClear_sound (hP : Sound P) {s : State} (hs : P s) : ∃ s', execFltsClear s = .next s' ∧ P s' := by
  unfold execFltsClear
  refine ⟨_, rfl, ?_⟩
  exact ite_sound hs (State.settleAll_sound hP (State.fltClear_sound hP hs))

theorem execRecovClr_sound (hP : Sound P) {s : State} (hs : P s) : ∃ s', execRecovClr s = .next s' ∧ P s' := by
  unfold execRecovClr
  refine ⟨_, rfl, ?_⟩
  exact ite_sound hs (State.setFr_sound hP hs)

theorem execEvtClr_sound (hP : Sound P) {s : State} (hs : P s) : ∃ s', execEvtClr s = .next s' ∧ P s' := by
  unfold execEvtClr
  refine ⟨_, rfl, ?_⟩
  exact ite_sound hs (State.setFr_sound hP hs)

theorem State.fltsCfg_sound (hP : Sound P) {s : State} {v : Nat} (hs : P s) : P (State.fltsCfg s v) := by
  unfold State.fltsCfg
  extract_lets +onlyGivenNames x0; clear_value x0
  extract_lets +onlyGivenNames x1; clear_value x1
  extract_lets +onlyGivenNames x2; clear_value x2
  extract_lets +onlyGivenNames x3; clear_value x3
  extract_lets +onlyGivenNames x4; clear_value x4
  refine ite_sound ?_ ?_
  · exact hs
  · refine ite_sound ?_ ?_
    · exact State.wr_sound hP hs
    · extract_lets +onlyGivenNames x5
      have h6 : P x5 := State.setFr_sound hP hs; clear_value x5
      exact ite_sound (State.settleAll_sound hP (State.raise_sound hP h6)) h6

theorem execFltsCfgWrite_sound (hP : Sound P) {v : Word} {s : State} (hs : P s) : ∃ s', execFltsCfgWrite v s = .next s' ∧ P s' := by
  unfold execFltsCfgWrite
  refine ⟨_, rfl, ?_⟩
  exact ite_sound (State.wrDenied_sound hP hs) (State.fltsCfg_sound hP hs)

theorem State.fltsTime_sound (hP : Sound P) {s : State} {v : Nat} (hs : P s) : P (State.fltsTime s v) := by
  unfold State.fltsTime
  extract_lets +onlyGivenNames x0; clear_value x0
  extract_lets +onlyGivenNames x1; clear_value x1
  exact ite_sound hs (ite_sound (State.wr_sound hP hs) (State.setFr_sound hP hs))

theorem execFltsTimeWrite_sound (hP : Sound P) {v : Word} {s : State} (hs : P s) : ∃ s', execFltsTimeWrite v s = .next s' ∧ P s' := by
  unfold execFltsTimeWrite
  refine ⟨_, rfl, ?_⟩
  exact ite_sound (State.wrDenied_sound hP hs) (State.fltsTime_sound hP hs)

theorem State.release_sound (hP : Sound P) {s : State} (hs : P s) : P (State.release s) := by
  unfold State.release
  refine ite_sound ?_ ?_
  · extract_lets +onlyGivenNames x0
    have h1 : P x0 := State.haltPin_sound hP (State.wr_sound hP hs); clear_value x0
    exact hP.same x0 (State.base_eq rfl rfl rfl rfl rfl rfl rfl) h1
  · exact hs

theorem execFbkRelease_sound (hP : Sound P) {s : State} (hs : P s) : ∃ s', execFbkRelease s = .next s' ∧ P s' := by
  unfold execFbkRelease
  refine ⟨_, rfl, ?_⟩
  exact State.release_sound hP hs

theorem State.swHalt_sound (hP : Sound P) {s : State} (hs : P s) : P (State.swHalt s) := by
  unfold State.swHalt
  exact State.settleAll_sound hP (State.haltAssert_sound hP hs)

theorem execFbkHalt_sound (hP : Sound P) {s : State} (hs : P s) : ∃ s', execFbkHalt s = .next s' ∧ P s' := by
  unfold execFbkHalt
  refine ⟨_, rfl, ?_⟩
  exact State.swHalt_sound hP hs

theorem State.collect_sound (hP : Sound P) {s : State} {i : Nat} {named : Sw} (hs : P s) : P (State.collect s i named) := by
  unfold State.collect
  exact ite_sound hs (State.settleAll_sound hP (State.raise_sound hP hs))

theorem execFaultReoccurrence_sound (hP : Sound P) {i : BitVec 9} {s : State} (hs : P s) : ∃ s', execFaultReoccurrence i s = .next s' ∧ P s' := by
  unfold execFaultReoccurrence
  refine ⟨_, rfl, ?_⟩
  extract_lets +onlyGivenNames x0; clear_value x0
  exact ite_sound (State.collect_sound hP hs) hs

theorem execFaultConditionAbsent_sound (hP : Sound P) {i : BitVec 9} {s : State} (hs : P s) : ∃ s', execFaultConditionAbsent i s = .next s' ∧ P s' := by
  unfold execFaultConditionAbsent
  refine ⟨_, rfl, ?_⟩
  exact ite_sound (State.settleAll_sound hP (State.condOff_sound hP hs)) hs

theorem execRetryWaitExpiry_sound (hP : Sound P) {i : BitVec 9} {s : State} (hs : P s) : ∃ s', execRetryWaitExpiry i s = .next s' ∧ P s' := by
  unfold execRetryWaitExpiry
  refine ⟨_, rfl, ?_⟩
  extract_lets +onlyGivenNames x0; clear_value x0
  refine ite_sound ?_ ?_
  · extract_lets +onlyGivenNames x1
    have h2 : P x1 := State.setFr_sound hP hs; clear_value x1
    exact ite_sound (State.settleAll_sound hP (State.faultEnd_sound hP h2)) h2
  · exact hs

theorem execFaultStateEnd_sound (hP : Sound P) {i : BitVec 9} {s : State} (hs : P s) : ∃ s', execFaultStateEnd i s = .next s' ∧ P s' := by
  unfold execFaultStateEnd
  refine ⟨_, rfl, ?_⟩
  extract_lets +onlyGivenNames x0; clear_value x0
  exact ite_sound (State.settleAll_sound hP (State.faultEnd_sound hP hs)) hs

theorem execHaltNFall_sound (hP : Sound P) {s : State} (hs : P s) : ∃ s', execHaltNFall s = .next s' ∧ P s' := by
  unfold execHaltNFall
  refine ⟨_, rfl, ?_⟩
  extract_lets +onlyGivenNames x0
  have h1 : P x0 := State.haltPin_sound hP (hP.same s (State.base_eq rfl rfl rfl rfl rfl rfl rfl) hs); clear_value x0
  exact ite_sound (State.settleAll_sound hP (State.haltAssert_sound hP h1)) h1

theorem execHaltReleaseTest_sound (hP : Sound P) {pinHigh : Bool} {s : State} (hs : P s) : ∃ s', execHaltReleaseTest pinHigh s = .next s' ∧ P s' := by
  unfold execHaltReleaseTest
  refine ⟨_, rfl, ?_⟩
  refine ite_sound ?_ ?_
  · extract_lets +onlyGivenNames x0; clear_value x0
    extract_lets +onlyGivenNames x1
    have h2 : P x1 := State.haltPin_sound hP (hP.same s (State.base_eq rfl rfl rfl rfl rfl rfl rfl) hs); clear_value x1
    exact ite_sound (State.settleAll_sound hP (State.wrs_sound hP h2)) (State.wrs_sound hP h2)
  · exact hs

theorem execSafeReqAssert_sound (hP : Sound P) {n : Ch} {b : Fin 5} {s : State} (hs : P s) : ∃ s', execSafeReqAssert n b s = .next s' ∧ P s' := by
  unfold execSafeReqAssert
  refine ⟨_, rfl, ?_⟩
  exact ite_sound (State.settleAll_sound hP (State.safeAssert_sound hP hs)) hs

theorem execSafeBackstopTimeout_sound (hP : Sound P) {n : Ch} {s : State} (hs : P s) : ∃ s', execSafeBackstopTimeout n s = .next s' ∧ P s' := by
  unfold execSafeBackstopTimeout
  refine ⟨_, rfl, ?_⟩
  refine State.whenCh_sound hP (fun a0 h1 => ?_) ?_
  · extract_lets +onlyGivenNames x2; clear_value x2
    exact ite_sound (State.settleAll_sound hP (State.safeAssert_sound hP h1)) h1
  · exact hs

theorem execSafeSupplyTimeout_sound (hP : Sound P) {s : State} (hs : P s) : ∃ s', execSafeSupplyTimeout s = .next s' ∧ P s' := by
  unfold execSafeSupplyTimeout
  refine ⟨_, rfl, ?_⟩
  exact ite_sound (State.settleAll_sound hP (State.safeAll_sound hP hs)) hs

theorem State.modCan_sound (hP : Sound P) {s : State} {m : Fin 2} {g : Can → Can} (hs : P s) : P (State.modCan s m g) := by
  unfold State.modCan
  exact hP.same s (State.base_eq rfl rfl rfl rfl rfl rfl rfl) hs

theorem State.canNext_sound (hP : Sound P) {s : State} {m : Fin 2} (hs : P s) : P (State.canNext s m) := by
  unfold State.canNext
  refine ite_sound ?_ ?_
  · extract_lets +onlyGivenNames x0; clear_value x0
    exact State.modCan_sound hP hs
  · exact hs

theorem State.canRepick_sound (hP : Sound P) {s : State} {m : Fin 2} {started : Bool} (hs : P s) : P (State.canRepick s m started) := by
  unfold State.canRepick
  exact ite_sound (State.canNext_sound hP hs) (State.canNext_sound hP (State.modCan_sound hP hs))

theorem State.canSend_sound (hP : Sound P) {s : State} {m : Fin 2} {f : CanFrame} (hs : P s) : P (State.canSend s m f) := by
  unfold State.canSend
  exact State.canRepick_sound hP (State.modCan_sound hP (State.used_sound hP hs))

theorem State.whenCan_sound (hP : Sound P) {s : State} {f : State → State} (hf1 : ∀ a0, P a0 → P (f a0)) (hs : P s) : P (State.whenCan s f) := by
  unfold State.whenCan
  exact ite_sound (hf1 _ hs) hs

theorem State.canRecessive_sound (hP : Sound P) {s : State} {m : Fin 2} (hs : P s) : P (State.canRecessive s m) := by
  unfold State.canRecessive
  exact State.wr_sound hP hs

theorem State.canEnterInit_sound (hP : Sound P) {s : State} {m : Fin 2} (hs : P s) : P (State.canEnterInit s m) := by
  unfold State.canEnterInit
  exact State.canRecessive_sound hP (State.wrs_sound hP (State.modCan_sound hP hs))

theorem State.canInit_sound (hP : Sound P) {s : State} {m : Fin 2} {b busy : Bool} (hs : P s) : P (State.canInit s m b busy) := by
  unfold State.canInit
  exact ite_sound (ite_sound hs (ite_sound (State.modCan_sound hP hs) (State.canEnterInit_sound hP hs))) (ite_sound (ite_sound (State.wr_sound hP hs) (State.wrs_sound hP hs)) (State.modCan_sound hP hs))

theorem execCanInitWrite_sound (hP : Sound P) {m : Fin 2} {b busy : Bool} {s : State} (hs : P s) : ∃ s', execCanInitWrite m b busy s = .next s' ∧ P s' := by
  unfold execCanInitWrite
  refine ⟨_, rfl, ?_⟩
  refine State.whenCan_sound hP (fun a0 h1 => ?_) ?_
  · exact State.canInit_sound hP h1
  · exact hs

theorem State.canRecover_sound (hP : Sound P) {s : State} {m : Fin 2} (hs : P s) : P (State.canRecover s m) := by
  unfold State.canRecover
  exact ite_sound (State.wr_sound hP hs) hs

theorem execCanRecover_sound (hP : Sound P) {m : Fin 2} {s : State} (hs : P s) : ∃ s', execCanRecover m s = .next s' ∧ P s' := by
  unfold execCanRecover
  refine ⟨_, rfl, ?_⟩
  refine State.whenCan_sound hP (fun a0 h1 => ?_) ?_
  · exact State.canRecover_sound hP h1
  · exact hs

theorem State.canPop_sound (hP : Sound P) {s : State} {m : Fin 2} (hs : P s) : P (State.canPop s m) := by
  unfold State.canPop
  extract_lets +onlyGivenNames x0
  have h1 : P x0 := State.modCan_sound hP hs; clear_value x0
  exact State.wr_sound hP h1

theorem execCanFifoPop_sound (hP : Sound P) {m : Fin 2} {s : State} (hs : P s) : ∃ s', execCanFifoPop m s = .next s' ∧ P s' := by
  unfold execCanFifoPop
  refine ⟨_, rfl, ?_⟩
  refine State.whenCan_sound hP (fun a0 h1 => ?_) ?_
  · exact State.canPop_sound hP h1
  · exact hs

theorem State.canShowFilt_sound (hP : Sound P) {s : State} {m : Fin 2} (hs : P s) : P (State.canShowFilt s m) := by
  unfold State.canShowFilt
  extract_lets +onlyGivenNames x0; clear_value x0
  exact State.wrs_sound hP hs

theorem State.canFilter_sound (hP : Sound P) {s : State} {m : Fin 2} {w : Nat} (hs : P s) : P (State.canFilter s m w) := by
  unfold State.canFilter
  extract_lets +onlyGivenNames x0; clear_value x0
  extract_lets +onlyGivenNames x1; clear_value x1
  extract_lets +onlyGivenNames x2; clear_value x2
  exact State.canShowFilt_sound hP (State.modCan_sound hP hs)

theorem execCanFilterApply_sound (hP : Sound P) {m : Fin 2} {w : BitVec 32} {s : State} (hs : P s) : ∃ s', execCanFilterApply m w s = .next s' ∧ P s' := by
  unfold execCanFilterApply
  refine ⟨_, rfl, ?_⟩
  refine State.whenCan_sound hP (fun a0 h1 => ?_) ?_
  · exact State.canFilter_sound hP h1
  · exact hs

theorem State.canBpend_sound (hP : Sound P) {s : State} {m : Fin 2} {w : Nat} {started : Bool} (hs : P s) : P (State.canBpend s m w started) := by
  unfold State.canBpend
  extract_lets +onlyGivenNames x0; clear_value x0
  extract_lets +onlyGivenNames x1; clear_value x1
  extract_lets +onlyGivenNames x2
  have h3 : P x2 := ite_sound (State.wr_sound hP hs) hs; clear_value x2
  exact State.canRepick_sound hP (State.orBits_sound hP h3)

theorem execCanBpend_sound (hP : Sound P) {m : Fin 2} {w : BitVec 32} {started : Bool} {s : State} (hs : P s) : ∃ s', execCanBpend m w started s = .next s' ∧ P s' := by
  unfold execCanBpend
  refine ⟨_, rfl, ?_⟩
  refine State.whenCan_sound hP (fun a0 h1 => ?_) ?_
  · exact State.canBpend_sound hP h1
  · exact hs

theorem State.canBabort_sound (hP : Sound P) {s : State} {m : Fin 2} {w : Nat} {started : Bool} (hs : P s) : P (State.canBabort s m w started) := by
  unfold State.canBabort
  extract_lets +onlyGivenNames x0; clear_value x0
  extract_lets +onlyGivenNames x1; clear_value x1
  extract_lets +onlyGivenNames x2; clear_value x2
  extract_lets +onlyGivenNames x3
  have h4 : P x3 := State.orBits_sound hP (State.clrBits_sound hP hs); clear_value x3
  split
  · exact ite_sound (State.canNext_sound hP (State.modCan_sound hP h4)) h4
  · exact h4

theorem execCanBabort_sound (hP : Sound P) {m : Fin 2} {w : BitVec 32} {started : Bool} {s : State} (hs : P s) : ∃ s', execCanBabort m w started s = .next s' ∧ P s' := by
  unfold execCanBabort
  refine ⟨_, rfl, ?_⟩
  refine State.whenCan_sound hP (fun a0 h1 => ?_) ?_
  · exact State.canBabort_sound hP h1
  · exact hs

theorem State.netSweep_sound (hP : Sound P) {s : State} {m : Fin 2} {started : Bool} (hs : P s) : P (State.netSweep s m started) := by
  unfold State.netSweep
  extract_lets +onlyGivenNames x0; clear_value x0
  refine ite_sound ?_ ?_
  · exact hs
  · extract_lets +onlyGivenNames x1
    have h2 : P x1 := State.wr_sound hP (State.clrBits_sound hP (State.clrBits_sound hP hs)); clear_value x1
    split
    · exact ite_sound (State.canRepick_sound hP h2) h2
    · exact h2

theorem State.canHeardEnd_sound (hP : Sound P) {s : State} {m : Fin 2} (hs : P s) : P (State.canHeardEnd s m) := by
  unfold State.canHeardEnd
  extract_lets +onlyGivenNames x0
  have h1 : P x0 := State.canRecessive_sound hP hs; clear_value x0
  exact ite_sound (State.canEnterInit_sound hP h1) h1

theorem State.partnerSeen_sound (hP : Sound P) {s : State} {sa : Nat} (hs : P s) : P (State.partnerSeen s sa) := by
  unfold State.partnerSeen
  exact hP.same s (State.base_eq rfl rfl rfl rfl rfl rfl rfl) hs

theorem State.canToFifo_sound (hP : Sound P) {s : State} {m : Fin 2} {f : CanFrame} (hs : P s) : P (State.canToFifo s m f) := by
  unfold State.canToFifo
  refine ite_sound ?_ ?_
  · extract_lets +onlyGivenNames x0
    have h1 : P x0 := State.modCan_sound hP hs; clear_value x0
    exact State.wrs_sound hP h1
  · exact State.wr_sound hP (State.inc_sound hP hs)

theorem State.canToBuf_sound (hP : Sound P) {s : State} {m : Fin 2} {k : Nat} {f : CanFrame} (hs : P s) : P (State.canToBuf s m k f) := by
  unfold State.canToBuf
  refine ite_sound ?_ ?_
  · exact hs
  · extract_lets +onlyGivenNames x0
    have h1 : P x0 := ite_sound (State.wr_sound hP hs) hs; clear_value x0
    exact State.wr_sound hP (State.orBits_sound hP (State.modCan_sound hP h1))

theorem State.canAccept_sound (hP : Sound P) {s : State} {m : Fin 2} {f : CanFrame} (hs : P s) : P (State.canAccept s m f) := by
  unfold State.canAccept
  split
  · exact ite_sound (State.canToFifo_sound hP hs) (ite_sound (State.canToBuf_sound hP hs) hs)
  · exact ite_sound (State.canToFifo_sound hP hs) hs

theorem State.canHear_sound (hP : Sound P) {s : State} {m : Fin 2} {f : CanFrame} (hs : P s) : P (State.canHear s m f) := by
  unfold State.canHear
  extract_lets +onlyGivenNames x0
  have h1 : P x0 := ite_sound (State.partnerSeen_sound hP hs) hs; clear_value x0
  exact ite_sound h1 (State.canAccept_sound hP h1)

theorem State.canCounters_sound (hP : Sound P) {s : State} {m : Fin 2} (hs : P s) : P (State.canCounters s m) := by
  unfold State.canCounters
  exact State.wrs_sound hP hs

theorem State.canErrState_sound (hP : Sound P) {s : State} {m : Fin 2} (hs : P s) : P (State.canErrState s m) := by
  unfold State.canErrState
  extract_lets +onlyGivenNames x0
  have h1 : P x0 := State.canCounters_sound hP hs; clear_value x0
  extract_lets +onlyGivenNames x2; clear_value x2
  refine ite_sound ?_ ?_
  · exact h1
  · refine ite_sound ?_ ?_
    · extract_lets +onlyGivenNames x3
      have h4 : P x3 := State.canRecessive_sound hP (State.wrs_sound hP (State.modCan_sound hP h1)); clear_value x3
      exact State.condSet_sound hP h4
    · exact State.wr_sound hP h1

theorem State.canRecDown_sound (hP : Sound P) {s : State} {m : Fin 2} (hs : P s) : P (State.canRecDown s m) := by
  unfold State.canRecDown
  extract_lets +onlyGivenNames x0; clear_value x0
  exact ite_sound (State.canErrState_sound hP (State.used_sound hP (State.modCan_sound hP hs))) (State.canErrState_sound hP (State.modCan_sound hP hs))

theorem execCanFrameReceived_sound (hP : Sound P) {m : Fin 2} {hdr : BitVec 32} {dlc : BitVec 4} {rtr : Bool} {data : List (BitVec 8)} {sof : BitVec 32} {esi pex : Bool} {s : State} (hs : P s) : ∃ s', execCanFrameReceived m hdr dlc rtr data sof esi pex s = .next s' ∧ P s' := by
  unfold execCanFrameReceived
  refine ⟨_, rfl, ?_⟩
  refine State.whenCan_sound hP (fun a0 h1 => ?_) ?_
  · refine ite_sound ?_ ?_
    · exact h1
    · refine ite_sound ?_ ?_
      · exact State.canHeardEnd_sound hP (State.wrs_sound hP (State.modCan_sound hP h1))
      · extract_lets +onlyGivenNames x2; clear_value x2
        exact State.settleAll_sound hP (State.canHeardEnd_sound hP (State.canHear_sound hP (State.canRecDown_sound hP h1)))
  · exact hs

theorem State.canFrameEnd_sound (hP : Sound P) {s : State} {m : Fin 2} (hs : P s) : P (State.canFrameEnd s m) := by
  unfold State.canFrameEnd
  extract_lets +onlyGivenNames x0
  have h1 : P x0 := State.canRecessive_sound hP (State.modCan_sound hP hs); clear_value x0
  exact ite_sound (State.canEnterInit_sound hP h1) (State.canNext_sound hP h1)

theorem execCanTxDone_sound (hP : Sound P) {m : Fin 2} {sof : BitVec 32} {s : State} (hs : P s) : ∃ s', execCanTxDone m sof s = .next s' ∧ P s' := by
  unfold execCanTxDone
  refine ⟨_, rfl, ?_⟩
  refine State.whenCan_sound hP (fun a0 h1 => ?_) ?_
  · split
    · exact h1
    · extract_lets +onlyGivenNames x2; clear_value x2
      extract_lets +onlyGivenNames x3
      have h4 : P x3 := State.modCan_sound hP h1; clear_value x3
      extract_lets +onlyGivenNames x5
      have h6 : P x5 := by
        subst x5
        exact ite_sound (State.orBits_sound hP (State.clrBits_sound hP (State.clrBits_sound hP h4))) (State.modCan_sound hP h4)
      clear_value x5
      extract_lets +onlyGivenNames x7
      have h8 : P x7 := ite_sound (State.wr_sound hP h6) h6; clear_value x7
      extract_lets +onlyGivenNames x9
      have h10 : P x9 := State.canErrState_sound hP (State.modCan_sound hP h8); clear_value x9
      extract_lets +onlyGivenNames x11
      have h12 : P x11 := ite_sound (State.canHear_sound hP h10) h10; clear_value x11
      exact State.canFrameEnd_sound hP h12
  · exact hs

theorem execCanError_sound (hP : Sound P) {m : Fin 2} {e : Fin 6} {s : State} (hs : P s) : ∃ s', execCanError m e s = .next s' ∧ P s' := by
  unfold execCanError
  refine ⟨_, rfl, ?_⟩
  refine State.whenCan_sound hP (fun a0 h1 => ?_) ?_
  · refine ite_sound ?_ ?_
    · exact h1
    · extract_lets +onlyGivenNames x2
      have h3 : P x2 := by
        subst x2
        split
        · exact h1
        · exact ite_sound h1 (ite_sound (State.wr_sound hP (State.clrBits_sound hP (State.clrBits_sound hP h1))) (ite_sound (State.clrBits_sound hP h1) h1))
      clear_value x2
      extract_lets +onlyGivenNames x4
      have h5 : P x4 := State.canErrState_sound hP (State.modCan_sound hP h3); clear_value x4
      exact State.settleAll_sound hP (ite_sound (State.canFrameEnd_sound hP h5) (ite_sound h5 (State.canHeardEnd_sound hP h5)))
  · exact hs

theorem execCanRecoveryStart_sound (hP : Sound P) {m : Fin 2} {s : State} (hs : P s) : ∃ s', execCanRecoveryStart m s = .next s' ∧ P s' := by
  unfold execCanRecoveryStart
  refine ⟨_, rfl, ?_⟩
  refine State.whenCan_sound hP (fun a0 h1 => ?_) ?_
  · exact ite_sound (State.canRecover_sound hP h1) h1
  · exact hs

theorem execCanDominantTimeout_sound (hP : Sound P) {s : State} (hs : P s) : ∃ s', execCanDominantTimeout s = .next s' ∧ P s' := by
  unfold execCanDominantTimeout
  refine ⟨_, rfl, ?_⟩
  refine State.whenCan_sound hP (fun a0 h1 => ?_) ?_
  · exact State.wr_sound hP h1
  · exact hs

theorem execCanBusIntegrated_sound (hP : Sound P) {m : Fin 2} {s : State} (hs : P s) : ∃ s', execCanBusIntegrated m s = .next s' ∧ P s' := by
  unfold execCanBusIntegrated
  refine ⟨_, rfl, ?_⟩
  refine State.whenCan_sound hP (fun a0 h1 => ?_) ?_
  · exact ite_sound (State.canNext_sound hP (State.canRecessive_sound hP (State.wr_sound hP h1))) h1
  · exact hs

theorem State.modSs_sound (hP : Sound P) {s : State} {i : Ch} {g : Sess → Sess} (hs : P s) : P (State.modSs s i g) := by
  unfold State.modSs
  exact hP.same s (State.base_eq rfl rfl rfl rfl rfl rfl rfl) hs

theorem State.netSend_sound (hP : Sound P) {s : State} {f : CanFrame} (hs : P s) : P (State.netSend s f) := by
  unfold State.netSend
  split
  · exact State.canSend_sound hP hs
  · exact hs

theorem State.sendCm_sound (hP : Sound P) {s : State} {etp : Bool} {da : Nat} {d : List (BitVec 8)} (hs : P s) : P (State.sendCm s etp da d) := by
  unfold State.sendCm
  exact State.netSend_sound hP hs

theorem State.sessStart_sound (hP : Sound P) {s : State} {i : Ch} {kind da pgn len : Nat} {gate : Bool} (hs : P s) : P (State.sessStart s i kind da pgn len gate) := by
  unfold State.sessStart
  extract_lets +onlyGivenNames x0
  have h1 : P x0 := State.modSs_sound hP hs; clear_value x0
  extract_lets +onlyGivenNames x2; clear_value x2
  exact ite_sound (State.sendCm_sound hP h1) (ite_sound (State.sendCm_sound hP h1) (State.sendCm_sound hP h1))

theorem State.gwFlush_sound (hP : Sound P) {s : State} (hs : P s) : P (State.gwFlush s) := by
  unfold State.gwFlush
  refine foldl_sound (fun a0 a1 h2 => ?_) _ ?_
  · split
    · exact h2
    · exact ite_sound (State.sessStart_sound hP (State.modSs_sound hP (hP.same a0 (State.base_eq rfl rfl rfl rfl rfl rfl rfl) h2))) h2
  · exact hs

theorem State.gwSend_sound (hP : Sound P) {s : State} {sa : Nat} {sess : Bool} {d : List (BitVec 8)} (hs : P s) : P (State.gwSend s sa sess d) := by
  unfold State.gwSend
  exact ite_sound (State.gwFlush_sound hP (hP.same s (State.base_eq rfl rfl rfl rfl rfl rfl rfl) hs)) (State.netSend_sound hP hs)

theorem State.gwAnswer_sound (hP : Sound P) {s : State} {sa : Nat} {hdr : Word} {sess : Bool} {status : Nat} {data : List Word} (hs : P s) : P (State.gwAnswer s sa hdr sess status data) := by
  unfold State.gwAnswer
  extract_lets +onlyGivenNames x0; clear_value x0
  exact ite_sound (State.gwSend_sound hP hs) hs

theorem State.gwDone_sound (hP : Sound P) {s : State} {q : GwReq} {status : Nat} {data : List Word} (hs : P s) : P (State.gwDone s q status data) := by
  unfold State.gwDone
  extract_lets +onlyGivenNames w0 x1
  have h2 : P x1 := by
    subst x1 w0
    exact hP.same s (State.base_eq rfl rfl rfl rfl rfl rfl rfl) hs
  clear_value w0 x1
  extract_lets +onlyGivenNames x3
  have h4 : P x3 := State.wr_sound hP (State.inc_sound hP h2); clear_value x3
  exact State.gwAnswer_sound hP h4

theorem State.sendDt_sound (hP : Sound P) {s : State} {x0 : Sess} {p q : Nat} (hs : P s) : P (State.sendDt s x0 p q) := by
  unfold State.sendDt
  extract_lets +onlyGivenNames x0; clear_value x0
  exact State.netSend_sound hP hs

theorem State.sendDts_sound (hP : Sound P) {s : State} {x : Sess} {p q n : Nat} (hs : P s) : P (State.sendDts s x p q n) := by
  induction n generalizing s p q with
  | zero => exact hs
  | succ n ih => exact ih (State.sendDt_sound hP hs)

theorem execCanStatusRead_sound (hP : Sound P) {m : Fin 2} {returned since : Bool} {s : State} (hs : P s) : ∃ s', execCanStatusRead m returned since s = .next s' ∧ P s' := by
  unfold execCanStatusRead
  refine ⟨_, rfl, ?_⟩
  refine State.whenCan_sound hP (fun a0 h1 => ?_) ?_
  · exact ite_sound (State.wr_sound hP h1) h1
  · exact hs

theorem State.sidxNext_sound (hP : Sound P) {s : State} (hs : P s) : P (State.sidxNext s) := by
  unfold State.sidxNext
  exact State.wr_sound hP hs

theorem State.sendClaim_sound (hP : Sound P) {s : State} {sa : Nat} (hs : P s) : P (State.sendClaim s sa) := by
  unfold State.sendClaim
  exact State.netSend_sound hP hs

theorem State.netDiscard_sound (hP : Sound P) {s : State} (hs : P s) : P (State.netDiscard s) := by
  unfold State.netDiscard
  split
  · exact State.netSweep_sound hP (State.used_sound hP hs)
  · exact hs

theorem State.claimAt_sound (hP : Sound P) {s : State} {sa : Nat} (hs : P s) : P (State.claimAt s sa) := by
  unfold State.claimAt
  extract_lets +onlyGivenNames x0
  have h1 : P x0 := State.wrs_sound hP hs; clear_value x0
  extract_lets +onlyGivenNames w2 x3
  have h4 : P x3 := by
    subst x3 w2
    exact hP.same x0 (State.base_eq rfl rfl rfl rfl rfl rfl rfl) h1
  clear_value w2 x3
  exact State.sendClaim_sound hP (State.netDiscard_sound hP (State.condSet_sound hP h4))

theorem State.claimStart_sound (hP : Sound P) {s : State} (hs : P s) : P (State.claimStart s) := by
  unfold State.claimStart
  exact ite_sound (State.claimAt_sound hP hs) hs

theorem execReclaim_sound (hP : Sound P) {s : State} (hs : P s) : ∃ s', execReclaim s = .next s' ∧ P s' := by
  unfold execReclaim
  refine ⟨_, rfl, ?_⟩
  refine State.whenCan_sound hP (fun a0 h1 => ?_) ?_
  · exact State.settleAll_sound hP (State.claimStart_sound hP h1)
  · exact hs

theorem State.netEnable_sound (hP : Sound P) {s : State} {was b : Bool} (hs : P s) : P (State.netEnable s was b) := by
  unfold State.netEnable
  refine ite_sound ?_ ?_
  · exact State.claimStart_sound hP hs
  · refine ite_sound ?_ ?_
    · extract_lets +onlyGivenNames x0
      have h1 : P x0 := State.wrs_sound hP hs; clear_value x0
      extract_lets +onlyGivenNames w2 x3
      have h4 : P x3 := by
        subst x3 w2
        exact hP.same x0 (State.base_eq rfl rfl rfl rfl rfl rfl rfl) h1
      clear_value w2 x3
      exact State.condSet_sound hP h4
    · exact hs

theorem State.sctlStart_sound (hP : Sound P) {s : State} {kind da : Nat} (hs : P s) : P (State.sctlStart s kind da) := by
  unfold State.sctlStart
  extract_lets +onlyGivenNames x0; subst x0
  extract_lets +onlyGivenNames x1; clear_value x1
  exact ite_sound (State.sessStart_sound hP hs) (State.modSs_sound hP hs)

theorem execSessionStart_sound (hP : Sound P) {kind : BitVec 2} {da : BitVec 8} {s : State} (hs : P s) : ∃ s', execSessionStart kind da s = .next s' ∧ P s' := by
  unfold execSessionStart
  refine ⟨_, rfl, ?_⟩
  refine State.whenCan_sound hP (fun a0 h1 => ?_) ?_
  · exact State.sctlStart_sound hP h1
  · exact hs

theorem State.serveCts_sound (hP : Sound P) {s : State} {i : Ch} {n p : Nat} (hs : P s) : P (State.serveCts s i n p) := by
  unfold State.serveCts
  extract_lets +onlyGivenNames x0; clear_value x0
  extract_lets +onlyGivenNames x1; clear_value x1
  refine ite_sound ?_ ?_
  · refine ite_sound ?_ ?_
    · exact State.modSs_sound hP hs
    · extract_lets +onlyGivenNames x2; clear_value x2
      extract_lets +onlyGivenNames x3
      have h4 : P x3 := State.sendCm_sound hP hs; clear_value x3
      extract_lets +onlyGivenNames x5
      have h6 : P x5 := State.sendDts_sound hP h4; clear_value x5
      extract_lets +onlyGivenNames x7; clear_value x7
      extract_lets +onlyGivenNames x8; clear_value x8
      extract_lets +onlyGivenNames x9
      have h10 : P x9 := State.modSs_sound hP h6; clear_value x9
      exact ite_sound (State.wr_sound hP h10) h10
  · exact State.modSs_sound hP (State.sendDts_sound hP hs)

theorem State.sendCts_sound (hP : Sound P) {s : State} {x0 : Sess} {n p : Nat} (hs : P s) : P (State.sendCts s x0 n p) := by
  unfold State.sendCts
  exact ite_sound (State.sendCm_sound hP hs) (State.sendCm_sound hP hs)

theorem State.nextCts_sound (hP : Sound P) {s : State} {i : Ch} (hs : P s) : P (State.nextCts s i) := by
  unfold State.nextCts
  extract_lets +onlyGivenNames x0; clear_value x0
  extract_lets +onlyGivenNames x1; clear_value x1
  exact State.sendCts_sound hP (State.modSs_sound hP hs)

theorem State.sctlNext_sound (hP : Sound P) {s : State} (hs : P s) : P (State.sctlNext s) := by
  unfold State.sctlNext
  extract_lets +onlyGivenNames x0; subst x0
  extract_lets +onlyGivenNames x1; clear_value x1
  refine ite_sound ?_ ?_
  · extract_lets +onlyGivenNames x2
    have h3 : P x2 := State.modSs_sound hP hs; clear_value x2
    refine ite_sound ?_ ?_
    · split
      · exact State.serveCts_sound hP (State.modSs_sound hP h3)
      · exact h3
    · exact State.nextCts_sound hP h3
  · exact hs

theorem execSessionNext_sound (hP : Sound P) {s : State} (hs : P s) : ∃ s', execSessionNext s = .next s' ∧ P s' := by
  unfold execSessionNext
  refine ⟨_, rfl, ?_⟩
  refine State.whenCan_sound hP (fun a0 h1 => ?_) ?_
  · exact State.sctlNext_sound hP h1
  · exact hs

theorem State.sctlRelease_sound (hP : Sound P) {s : State} (hs : P s) : P (State.sctlRelease s) := by
  unfold State.sctlRelease
  extract_lets +onlyGivenNames x0; subst x0
  extract_lets +onlyGivenNames x1; clear_value x1
  exact ite_sound (State.gwFlush_sound hP (State.modSs_sound hP hs)) hs

theorem execSessionRelease_sound (hP : Sound P) {s : State} (hs : P s) : ∃ s', execSessionRelease s = .next s' ∧ P s' := by
  unfold execSessionRelease
  refine ⟨_, rfl, ?_⟩
  refine State.whenCan_sound hP (fun a0 h1 => ?_) ?_
  · exact State.sctlRelease_sound hP h1
  · exact hs

theorem State.sendAbort_sound (hP : Sound P) {s : State} {etp : Bool} {da pgn reason : Nat} (hs : P s) : P (State.sendAbort s etp da pgn reason) := by
  unfold State.sendAbort
  exact State.sendCm_sound hP hs

theorem State.sessAborted_sound (hP : Sound P) {s : State} {i : Ch} {reason : Nat} (hs : P s) : P (State.sessAborted s i reason) := by
  unfold State.sessAborted
  exact State.gwFlush_sound hP (State.wr_sound hP (State.modSs_sound hP hs))

theorem State.sessAbort_sound (hP : Sound P) {s : State} {i : Ch} {reason : Nat} (hs : P s) : P (State.sessAbort s i reason) := by
  unfold State.sessAbort
  extract_lets +onlyGivenNames x0; clear_value x0
  extract_lets +onlyGivenNames x1
  have h2 : P x1 := ite_sound hs (State.sendAbort_sound hP hs); clear_value x1
  exact State.sessAborted_sound hP h2

theorem State.sctlAbort_sound (hP : Sound P) {s : State} (hs : P s) : P (State.sctlAbort s) := by
  unfold State.sctlAbort
  exact ite_sound (State.sessAbort_sound hP hs) hs

theorem execSessionAbort_sound (hP : Sound P) {s : State} (hs : P s) : ∃ s', execSessionAbort s = .next s' ∧ P s' := by
  unfold execSessionAbort
  refine ⟨_, rfl, ?_⟩
  refine State.whenCan_sound hP (fun a0 h1 => ?_) ?_
  · exact State.sctlAbort_sound hP h1
  · exact hs

theorem State.sdataWrite_sound (hP : Sound P) {s : State} {w : Word} (hs : P s) : P (State.sdataWrite s w) := by
  unfold State.sdataWrite
  extract_lets +onlyGivenNames x0; clear_value x0
  exact State.sidxNext_sound hP (ite_sound (State.modSs_sound hP hs) hs)

theorem execNetSdataWrite_sound (hP : Sound P) {w : BitVec 32} {s : State} (hs : P s) : ∃ s', execNetSdataWrite w s = .next s' ∧ P s' := by
  unfold execNetSdataWrite
  refine ⟨_, rfl, ?_⟩
  refine State.whenCan_sound hP (fun a0 h1 => ?_) ?_
  · exact State.sdataWrite_sound hP h1
  · exact hs

theorem execNetSdataRead_sound (hP : Sound P) {s : State} (hs : P s) : ∃ s', execNetSdataRead s = .next s' ∧ P s' := by
  unfold execNetSdataRead
  refine ⟨_, rfl, ?_⟩
  refine State.whenCan_sound hP (fun a0 h1 => ?_) ?_
  · exact State.sidxNext_sound hP h1
  · exact hs

theorem execCanRecoveryDone_sound (hP : Sound P) {m : Fin 2} {s : State} (hs : P s) : ∃ s', execCanRecoveryDone m s = .next s' ∧ P s' := by
  unfold execCanRecoveryDone
  refine ⟨_, rfl, ?_⟩
  refine State.whenCan_sound hP (fun a0 h1 => ?_) ?_
  · refine ite_sound ?_ ?_
    · extract_lets +onlyGivenNames x2
      have h3 : P x2 := State.wrs_sound hP (State.canCounters_sound hP (State.modCan_sound hP h1)); clear_value x2
      extract_lets +onlyGivenNames x4
      have h5 : P x4 := State.condSet_sound hP h3; clear_value x4
      extract_lets +onlyGivenNames x6
      have h7 : P x6 := ite_sound (State.claimStart_sound hP h5) h5; clear_value x6
      exact State.settleAll_sound hP (State.canNext_sound hP h7)
    · exact h1
  · exact hs

theorem State.partnerGone_sound (hP : Sound P) {s : State} {p : Partner → Bool} (hs : P s) : P (State.partnerGone s p) := by
  unfold State.partnerGone
  exact ite_sound (State.wr_sound hP (hP.same s (State.base_eq rfl rfl rfl rfl rfl rfl rfl) hs)) hs

theorem State.cannotClaim_sound (hP : Sound P) {s : State} (hs : P s) : P (State.cannotClaim s) := by
  unfold State.cannotClaim
  extract_lets +onlyGivenNames x0
  have h1 : P x0 := State.wrs_sound hP hs; clear_value x0
  exact State.netDiscard_sound hP (State.condSet_sound hP (hP.same x0 (State.base_eq rfl rfl rfl rfl rfl rfl rfl) h1))

theorem State.contested_sound (hP : Sound P) {s : State} {name : Nat} (hs : P s) : P (State.contested s name) := by
  unfold State.contested
  extract_lets +onlyGivenNames x0; clear_value x0
  refine ite_sound ?_ ?_
  · exact State.sendClaim_sound hP hs
  · refine ite_sound ?_ ?_
    · refine ite_sound ?_ ?_
      · split
        · exact State.claimAt_sound hP hs
        · exact State.cannotClaim_sound hP hs
      · exact State.cannotClaim_sound hP hs
    · exact hs

theorem execAddressClaimedReceived_sound (hP : Sound P) {sa : BitVec 8} {name : BitVec 64} {s : State} (hs : P s) : ∃ s', execAddressClaimedReceived sa name s = .next s' ∧ P s' := by
  unfold execAddressClaimedReceived
  refine ⟨_, rfl, ?_⟩
  refine State.whenCan_sound hP (fun a0 h1 => ?_) ?_
  · refine ite_sound ?_ ?_
    · exact h1
    · extract_lets +onlyGivenNames x2; clear_value x2
      extract_lets +onlyGivenNames x3; clear_value x3
      extract_lets +onlyGivenNames x4
      have h5 : P x4 := State.partnerGone_sound hP h1; clear_value x4
      refine ite_sound ?_ ?_
      · exact h5
      · extract_lets +onlyGivenNames x6
        have h7 : P x6 := State.partnerGone_sound hP h5; clear_value x6
        extract_lets +onlyGivenNames w8 x9
        have h10 : P x9 := by
          subst x9 w8
          exact hP.same x6 (State.base_eq rfl rfl rfl rfl rfl rfl rfl) h7
        clear_value w8 x9
        extract_lets +onlyGivenNames x11
        have h12 : P x11 := State.wr_sound hP h10; clear_value x11
        extract_lets +onlyGivenNames x13; clear_value x13
        exact State.settleAll_sound hP (ite_sound (State.contested_sound hP h12) h12)
  · exact hs

theorem execRequestAddressClaimed_sound (hP : Sound P) {da : BitVec 8} {s : State} (hs : P s) : ∃ s', execRequestAddressClaimed da s = .next s' ∧ P s' := by
  unfold execRequestAddressClaimed
  refine ⟨_, rfl, ?_⟩
  refine State.whenCan_sound hP (fun a0 h1 => ?_) ?_
  · exact ite_sound (ite_sound (State.sendClaim_sound hP h1) (ite_sound (hP.same a0 (State.base_eq rfl rfl rfl rfl rfl rfl rfl) h1) h1)) h1
  · exact hs

theorem execClaimTimeout_sound (hP : Sound P) {s : State} (hs : P s) : ∃ s', execClaimTimeout s = .next s' ∧ P s' := by
  unfold execClaimTimeout
  refine ⟨_, rfl, ?_⟩
  refine State.whenCan_sound hP (fun a0 h1 => ?_) ?_
  · exact ite_sound (State.gwFlush_sound hP (State.wrs_sound hP h1)) h1
  · exact hs

theorem execCannotClaimDelay_sound (hP : Sound P) {s : State} (hs : P s) : ∃ s', execCannotClaimDelay s = .next s' ∧ P s' := by
  unfold execCannotClaimDelay
  refine ⟨_, rfl, ?_⟩
  refine State.whenCan_sound hP (fun a0 h1 => ?_) ?_
  · exact ite_sound (State.sendClaim_sound hP (hP.same a0 (State.base_eq rfl rfl rfl rfl rfl rfl rfl) h1)) h1
  · exact hs

theorem execPartnerLeaveTimeout_sound (hP : Sound P) {sa : BitVec 8} {s : State} (hs : P s) : ∃ s', execPartnerLeaveTimeout sa s = .next s' ∧ P s' := by
  unfold execPartnerLeaveTimeout
  refine ⟨_, rfl, ?_⟩
  refine State.whenCan_sound hP (fun a0 h1 => ?_) ?_
  · exact ite_sound h1 (State.partnerGone_sound hP h1)
  · exact hs

theorem State.netRx_sound (hP : Sound P) {s : State} {sa : BitVec 8} {f : State → State} (hf1 : ∀ a0, P a0 → P (f a0)) (hs : P s) : P (State.netRx s sa f) := by
  unfold State.netRx
  refine State.whenCan_sound hP (fun a0 h1 => ?_) ?_
  · exact ite_sound (hf1 _ (State.partnerSeen_sound hP h1)) h1
  · exact hs

theorem State.incoming_sound (hP : Sound P) {s : State} {kind sa pgn len : Nat} (hs : P s) : P (State.incoming s kind sa pgn len) := by
  unfold State.incoming
  refine ite_sound ?_ ?_
  · exact State.sendAbort_sound hP hs
  · refine ite_sound ?_ ?_
    · exact ite_sound hs (State.sendAbort_sound hP hs)
    · split
      · exact ite_sound (State.inc_sound hP hs) (State.inc_sound hP (State.sendAbort_sound hP hs))
      · extract_lets +onlyGivenNames x0; clear_value x0
        extract_lets +onlyGivenNames x1
        have h2 : P x1 := State.modSs_sound hP hs; clear_value x1
        exact ite_sound h2 (State.nextCts_sound hP h2)

theorem State.gotCts_sound (hP : Sound P) {s : State} {i : Ch} {n p : Nat} (hs : P s) : P (State.gotCts s i n p) := by
  unfold State.gotCts
  exact ite_sound (State.modSs_sound hP hs) (ite_sound hs (State.serveCts_sound hP hs))

theorem State.sessSent_sound (hP : Sound P) {s : State} {i : Ch} (hs : P s) : P (State.sessSent s i) := by
  unfold State.sessSent
  extract_lets +onlyGivenNames x0; clear_value x0
  extract_lets +onlyGivenNames x1
  have h2 : P x1 := State.modSs_sound hP hs; clear_value x1
  exact State.gwFlush_sound hP (ite_sound h2 (State.wr_sound hP h2))

theorem State.sessClosed_sound (hP : Sound P) {s : State} {sa : Nat} {etp : Bool} {pgn : Nat} {reason : Option Nat} (hs : P s) : P (State.sessClosed s sa etp pgn reason) := by
  unfold State.sessClosed
  split
  · exact State.sessSent_sound hP hs
  · exact State.sessAborted_sound hP hs
  · split
    · exact State.sessAborted_sound hP hs
    · exact hs
  · exact hs

theorem execTpCmReceived_sound (hP : Sound P) {sa da : BitVec 8} {d : List (BitVec 8)} {s : State} (hs : P s) : ∃ s', execTpCmReceived sa da d s = .next s' ∧ P s' := by
  unfold execTpCmReceived
  refine ⟨_, rfl, ?_⟩
  refine State.netRx_sound hP (fun a0 h1 => ?_) ?_
  · extract_lets +onlyGivenNames x2; clear_value x2
    extract_lets +onlyGivenNames x3; clear_value x3
    refine ite_sound ?_ ?_
    · exact State.incoming_sound hP h1
    · refine ite_sound ?_ ?_
      · exact h1
      · refine ite_sound ?_ ?_
        · exact State.incoming_sound hP h1
        · refine ite_sound ?_ ?_
          · split
            · exact State.gotCts_sound hP h1
            · exact h1
          · exact ite_sound (State.sessClosed_sound hP h1) (ite_sound (State.sessClosed_sound hP h1) h1)
  · exact hs

theorem State.sendEnd_sound (hP : Sound P) {s : State} {x0 : Sess} (hs : P s) : P (State.sendEnd s x0) := by
  unfold State.sendEnd
  exact ite_sound (State.sendCm_sound hP hs) (State.sendCm_sound hP hs)

theorem State.sessReceived_sound (hP : Sound P) {s : State} {i : Ch} (hs : P s) : P (State.sessReceived s i) := by
  unfold State.sessReceived
  extract_lets +onlyGivenNames x0; clear_value x0
  extract_lets +onlyGivenNames x1; clear_value x1
  extract_lets +onlyGivenNames x2
  have h3 : P x2 := State.modSs_sound hP hs; clear_value x2
  extract_lets +onlyGivenNames x4
  have h5 : P x4 := ite_sound h3 (State.sendEnd_sound hP h3); clear_value x4
  exact ite_sound h5 (State.wr_sound hP h5)

theorem State.gotDt_sound (hP : Sound P) {s : State} {i : Ch} {p : Nat} {d : List (BitVec 8)} (hs : P s) : P (State.gotDt s i p d) := by
  unfold State.gotDt
  extract_lets +onlyGivenNames x0; clear_value x0
  refine ite_sound ?_ ?_
  · extract_lets +onlyGivenNames x1; clear_value x1
    extract_lets +onlyGivenNames x2
    have h3 : P x2 := State.modSs_sound hP hs; clear_value x2
    extract_lets +onlyGivenNames x4; clear_value x4
    exact ite_sound (State.sessReceived_sound hP h3) (ite_sound h3 (ite_sound (State.sendCts_sound hP (State.wr_sound hP (State.modSs_sound hP h3))) (ite_sound (State.nextCts_sound hP h3) h3)))
  · exact hs

theorem execTpDtReceived_sound (hP : Sound P) {sa da : BitVec 8} {d : List (BitVec 8)} {s : State} (hs : P s) : ∃ s', execTpDtReceived sa da d s = .next s' ∧ P s' := by
  unfold execTpDtReceived
  refine ⟨_, rfl, ?_⟩
  refine State.netRx_sound hP (fun a0 h1 => ?_) ?_
  · extract_lets +onlyGivenNames x2; clear_value x2
    split
    · exact State.gotDt_sound hP h1
    · exact h1
  · exact hs

theorem execEtpCmReceived_sound (hP : Sound P) {sa da : BitVec 8} {d : List (BitVec 8)} {s : State} (hs : P s) : ∃ s', execEtpCmReceived sa da d s = .next s' ∧ P s' := by
  unfold execEtpCmReceived
  refine ⟨_, rfl, ?_⟩
  refine State.netRx_sound hP (fun a0 h1 => ?_) ?_
  · extract_lets +onlyGivenNames x2; clear_value x2
    extract_lets +onlyGivenNames x3; clear_value x3
    refine ite_sound ?_ ?_
    · exact h1
    · refine ite_sound ?_ ?_
      · exact State.incoming_sound hP h1
      · refine ite_sound ?_ ?_
        · split
          · exact State.gotCts_sound hP h1
          · exact h1
        · refine ite_sound ?_ ?_
          · split
            · exact State.modSs_sound hP h1
            · exact h1
          · exact ite_sound (State.sessClosed_sound hP h1) (ite_sound (State.sessClosed_sound hP h1) h1)
  · exact hs

theorem execEtpDtReceived_sound (hP : Sound P) {sa da : BitVec 8} {d : List (BitVec 8)} {s : State} (hs : P s) : ∃ s', execEtpDtReceived sa da d s = .next s' ∧ P s' := by
  unfold execEtpDtReceived
  refine ⟨_, rfl, ?_⟩
  refine State.netRx_sound hP (fun a0 h1 => ?_) ?_
  · split
    · split
      · exact State.gotDt_sound hP h1
      · exact h1
    · exact h1
  · exact hs

theorem execTpTimeout_sound (hP : Sound P) {i : Ch} {s : State} (hs : P s) : ∃ s', execTpTimeout i s = .next s' ∧ P s' := by
  unfold execTpTimeout
  refine ⟨_, rfl, ?_⟩
  refine State.whenCan_sound hP (fun a0 h1 => ?_) ?_
  · exact ite_sound (State.sessAbort_sound hP h1) h1
  · exact hs

theorem execBamPacketTimer_sound (hP : Sound P) {i : Ch} {s : State} (hs : P s) : ∃ s', execBamPacketTimer i s = .next s' ∧ P s' := by
  unfold execBamPacketTimer
  refine ⟨_, rfl, ?_⟩
  refine State.whenCan_sound hP (fun a0 h1 => ?_) ?_
  · extract_lets +onlyGivenNames x2; clear_value x2
    refine ite_sound ?_ ?_
    · extract_lets +onlyGivenNames x3
      have h4 : P x3 := State.modSs_sound hP (State.sendDt_sound hP h1); clear_value x3
      exact ite_sound (State.sessSent_sound hP h4) h4
    · exact h1
  · exact hs

theorem execHoldCtsTimer_sound (hP : Sound P) {i : Ch} {s : State} (hs : P s) : ∃ s', execHoldCtsTimer i s = .next s' ∧ P s' := by
  unfold execHoldCtsTimer
  refine ⟨_, rfl, ?_⟩
  refine State.whenCan_sound hP (fun a0 h1 => ?_) ?_
  · extract_lets +onlyGivenNames x2; clear_value x2
    exact ite_sound (State.sendCts_sound hP h1) h1
  · exact hs

theorem State.gwRefuse_sound (hP : Sound P) {s : State} {sa : Nat} {hdr : Word} {sess : Bool} {status : Nat} (hs : P s) : P (State.gwRefuse s sa hdr sess status) := by
  unfold State.gwRefuse
  exact State.gwAnswer_sound hP (State.wr_sound hP (State.inc_sound hP hs))

theorem State.blow_sound (hP : Sound P) {s : State} {k : Nat} {w : Word} (hs : P s) : P (State.blow s k w) := hP.blow k w hs

theorem State.blows_sound (hP : Sound P) {s : State} {k : Nat} {l : List Word} (hs : P s) : P (State.blows s k l) := by
  induction l generalizing s k with
  | nil => exact hs
  | cons w l ih => exact ih (State.blow_sound hP hs)

theorem State.otpPass_sound (hP : Sound P) {s : State} (hs : P s) : P (State.otpPass s) := by
  unfold State.otpPass
  exact ite_sound hs (ite_sound (hP.same s (State.base_eq rfl rfl rfl rfl rfl rfl rfl) hs) (State.wr_sound hP hs))

theorem execVerifyNow_sound (hP : Sound P) {s : State} (hs : P s) : ∃ s', execVerifyNow s = .next s' ∧ P s' := by
  unfold execVerifyNow
  refine ⟨_, rfl, ?_⟩
  exact State.otpPass_sound hP hs

theorem State.patchEnd_sound (hP : Sound P) {s : State} {cause : Nat} (hs : P s) : P (State.patchEnd s cause) := by
  unfold State.patchEnd
  extract_lets +onlyGivenNames w0 x1
  have h2 : P x1 := by
    subst x1 w0
    exact hP.same s (State.base_eq rfl rfl rfl rfl rfl rfl rfl) hs
  clear_value w0 x1
  exact State.wrs_sound hP h2

theorem State.patchApply_sound (hP : Sound P) {s : State} (hs : P s) : P (State.patchApply s) := by
  unfold State.patchApply
  extract_lets +onlyGivenNames x0; clear_value x0
  exact ite_sound hs (ite_sound (State.patchEnd_sound hP hs) (ite_sound (State.patchEnd_sound hP hs) (hP.same s (State.base_eq rfl rfl rfl rfl rfl rfl rfl) hs)))

theorem execPatchApply_sound (hP : Sound P) {s : State} (hs : P s) : ∃ s', execPatchApply s = .next s' ∧ P s' := by
  unfold execPatchApply
  refine ⟨_, rfl, ?_⟩
  exact State.patchApply_sound hP hs

theorem State.patchClr_sound (hP : Sound P) {s : State} (hs : P s) : P (State.patchClr s) := by
  unfold State.patchClr
  extract_lets +onlyGivenNames w0 w1 x2
  have h3 : P x2 := by
    subst x2 w1 w0
    have b4 : P (State.clearMem s 3670016 3702784) := by
      exact State.clearMem_sound hP hs
    generalize (State.clearMem s 3670016 3702784) = b5 at b4 ⊢
    exact hP.same b5 (State.base_eq rfl rfl rfl rfl rfl rfl rfl) b4
  clear_value w0 w1 x2
  exact State.wrs_sound hP h3

theorem execPatchClr_sound (hP : Sound P) {s : State} (hs : P s) : ∃ s', execPatchClr s = .next s' ∧ P s' := by
  unfold execPatchClr
  refine ⟨_, rfl, ?_⟩
  exact State.patchClr_sound hP hs

theorem State.patchData_sound (hP : Sound P) {s : State} {w : Word} (hs : P s) : P (State.patchData s w) := by
  unfold State.patchData
  refine ite_sound ?_ ?_
  · exact hs
  · extract_lets +onlyGivenNames x0; clear_value x0
    exact State.wrs_sound hP (State.setMemWord_sound hP hs)

theorem execPatchDataWrite_sound (hP : Sound P) {w : BitVec 32} {s : State} (hs : P s) : ∃ s', execPatchDataWrite w s = .next s' ∧ P s' := by
  unfold execPatchDataWrite
  refine ⟨_, rfl, ?_⟩
  exact State.patchData_sound hP hs

theorem State.otpLatched_sound (hP : Sound P) {s : State} (hs : P s) : P (State.otpLatched s) := by
  unfold State.otpLatched
  extract_lets +onlyGivenNames x0; clear_value x0
  extract_lets +onlyGivenNames x1; clear_value x1
  extract_lets +onlyGivenNames x2
  have h3 : P x2 := State.wr_sound hP hs; clear_value x2
  exact ite_sound (State.wrs_sound hP h3) (State.wrs_sound hP h3)

theorem State.otpFilters_sound (hP : Sound P) {s : State} {m : Fin 2} {at_ k : Nat} (hs : P s) : P (State.otpFilters s m at_ k) := by
  induction k with
  | zero => exact hs
  | succ k ih =>
    unfold State.otpFilters
    extract_lets x0
    have h1 : P x0 := ih
    clear_value x0
    refine ite_sound ?_ h1
    extract_lets a b c d e
    exact State.modCan_sound hP h1

theorem execOtpReverifyPassStart_sound (hP : Sound P) {s : State} (hs : P s) : ∃ s', execOtpReverifyPassStart s = .next s' ∧ P s' := by
  unfold execOtpReverifyPassStart
  refine ⟨_, rfl, ?_⟩
  exact ite_sound (State.otpPass_sound hP hs) hs

theorem execOtpReverifyPassDone_sound (hP : Sound P) {bad : Option (BitVec 9 × Bool)} {s : State} (hs : P s) : ∃ s', execOtpReverifyPassDone bad s = .next s' ∧ P s' := by
  unfold execOtpReverifyPassDone
  refine ⟨_, rfl, ?_⟩
  refine ite_sound ?_ ?_
  · extract_lets +onlyGivenNames x0
    have h1 : P x0 := State.wrs_sound hP hs; clear_value x0
    split
    · exact State.settleAll_sound hP (State.condSet_sound hP h1)
    · extract_lets +onlyGivenNames x2
      have h3 : P x2 := ite_sound h1 (State.wrs_sound hP h1); clear_value x2
      exact State.settleAll_sound hP (State.condSet_sound hP (State.wr_sound hP (State.inc_sound hP h3)))
  · exact hs

theorem State.otpDirect_sound (hP : Sound P) {s : State} {weak : List Nat} (hs : P s) : P (State.otpDirect s weak) := by
  unfold State.otpDirect
  extract_lets +onlyGivenNames w0 x1
  have h2 : P x1 := by
    subst x1 w0
    exact hP.same s (State.base_eq rfl rfl rfl rfl rfl rfl rfl) hs
  clear_value w0 x1
  exact State.otpLatched_sound hP (State.setMemWords_sound hP h2)

theorem State.patchBoot_sound (hP : Sound P) {s : State} (hs : P s) : P (State.patchBoot s) := by
  unfold State.patchBoot
  refine ite_sound ?_ ?_
  · exact hs
  · refine ite_sound ?_ ?_
    · exact State.wr_sound hP hs
    · extract_lets +onlyGivenNames w0 w1 x2
      have h3 : P x2 := by
        subst x2 w1 w0
        have b4 : P (State.clearMem s 3670016 3702784) := by
          exact State.clearMem_sound hP hs
        generalize (State.clearMem s 3670016 3702784) = b5 at b4 ⊢
        exact hP.same b5 (State.base_eq rfl rfl rfl rfl rfl rfl rfl) b4
      clear_value w0 w1 x2
      exact State.wrs_sound hP h3

theorem State.senseWord_sound (hP : Sound P) {s : State} {k : Nat} {w : Word} (hs : P s) : P (State.senseWord s k w) := by
  unfold State.senseWord
  extract_lets +onlyGivenNames x0; clear_value x0
  refine ite_sound ?_ ?_
  · exact hs
  · refine ite_sound ?_ ?_
    · exact ite_sound (State.setMemWord_sound hP hs) hs
    · extract_lets +onlyGivenNames x1; clear_value x1
      extract_lets +onlyGivenNames x2
      have h3 : P x2 := State.setMemWord_sound hP hs; clear_value x2
      split
      · exact ite_sound (State.setMemWord_sound hP h3) h3
      · exact h3

theorem State.otpSense_sound (hP : Sound P) {s : State} {weak : List Nat} (hs : P s) : P (State.otpSense s weak) := by
  unfold State.otpSense
  extract_lets +onlyGivenNames w0 x1
  have h2 : P x1 := by
    subst x1 w0
    exact hP.same s (State.base_eq rfl rfl rfl rfl rfl rfl rfl) hs
  clear_value w0 x1
  extract_lets +onlyGivenNames x3
  have h4 : P x3 := State.clearMem_sound hP h2; clear_value x3
  extract_lets +onlyGivenNames x5
  have h6 : P x5 := by
    subst x5
    refine foldl_sound (fun a7 a8 h9 => ?_) _ ?_
    · exact State.senseWord_sound hP h9
    · exact h4
  clear_value x5
  extract_lets +onlyGivenNames x10
  have h11 : P x10 := by
    subst x10
    refine foldl_sound (fun a12 a13 h14 => ?_) _ ?_
    · split
      · exact State.orBits_sound hP (State.setMemWord_sound hP h14)
      · exact ite_sound (State.orBits_sound hP h14) h14
    · exact h6
  clear_value x10
  split
  · exact h11
  · exact State.wrs_sound hP h11

theorem State.otpShadows_sound (hP : Sound P) {s : State} (hs : P s) : P (State.otpShadows s) := by
  unfold State.otpShadows
  refine ite_sound ?_ ?_
  · exact hs
  · extract_lets +onlyGivenNames x0; clear_value x0
    extract_lets +onlyGivenNames x1; clear_value x1
    exact State.wrs_sound hP hs

theorem State.otpRegions_sound (hP : Sound P) {s : State} (hs : P s) : P (State.otpRegions s) := by
  unfold State.otpRegions
  refine foldl_sound (fun a0 a1 h2 => ?_) _ ?_
  · extract_lets +onlyGivenNames x3; clear_value x3
    extract_lets +onlyGivenNames x4; clear_value x4
    extract_lets +onlyGivenNames x5
    have h6 : P x5 := State.wr_sound hP h2; clear_value x5
    exact State.wrs_sound hP h6
  · exact hs

theorem State.otpFactory_sound (hP : Sound P) {s : State} (hs : P s) : P (State.otpFactory s) := by
  unfold State.otpFactory
  extract_lets +onlyGivenNames x0; clear_value x0
  extract_lets +onlyGivenNames x1; clear_value x1
  exact State.wrs_sound hP hs

theorem State.otpIntegrity_sound (hP : Sound P) {s : State} (hs : P s) : P (State.otpIntegrity s) := by
  unfold State.otpIntegrity
  exact ite_sound (State.raise_sound hP hs) hs

theorem State.otpFault_sound (hP : Sound P) {s : State} {a b : Word} (hs : P s) : P (State.otpFault s a b) := by
  unfold State.otpFault
  extract_lets +onlyGivenNames x0; clear_value x0
  extract_lets +onlyGivenNames x1; clear_value x1
  extract_lets +onlyGivenNames x2; clear_value x2
  extract_lets +onlyGivenNames x3; clear_value x3
  refine ite_sound ?_ ?_
  · exact hs
  · refine ite_sound ?_ ?_
    · exact hs
    · extract_lets +onlyGivenNames x4; clear_value x4
      extract_lets +onlyGivenNames x5; clear_value x5
      extract_lets +onlyGivenNames x6; clear_value x6
      exact State.setFr_sound hP hs

theorem State.otpApply_sound (hP : Sound P) {s : State} {cfg : Nat} (hs : P s) : P (State.otpApply s cfg) := by
  unfold State.otpApply
  extract_lets +onlyGivenNames x0
  have h1 : P x0 := State.wr_sound hP hs; clear_value x0
  extract_lets +onlyGivenNames x2
  have h3 : P x2 := by
    subst x2
    refine foldl_sound (fun a4 a5 h6 => ?_) _ ?_
    · exact ite_sound (State.otpFault_sound hP h6) h6
    · exact h1
  clear_value x2
  extract_lets +onlyGivenNames x7; clear_value x7
  extract_lets +onlyGivenNames x8; clear_value x8
  extract_lets +onlyGivenNames x9
  have h10 : P x9 := State.wrs_sound hP h3; clear_value x9
  extract_lets +onlyGivenNames x11; clear_value x11
  exact State.flag_sound hP h10

theorem State.otpStep11_sound (hP : Sound P) {s : State} (hs : P s) : P (State.otpStep11 s) := by
  unfold State.otpStep11
  extract_lets +onlyGivenNames x0
  have h1 : P x0 := State.otpShadows_sound hP (State.otpRegions_sound hP hs); clear_value x0
  extract_lets +onlyGivenNames x2
  have h3 : P x2 := State.otpFactory_sound hP (State.otpIntegrity_sound hP h1); clear_value x2
  exact ite_sound (State.otpApply_sound hP h3) (hP.same x2 (State.base_eq rfl rfl rfl rfl rfl rfl rfl) h3)

theorem State.setDefined_sound (hP : Sound P) {s : State} {a : Nat} {w : Word} (hs : P s) : P (State.setDefined s a w) := by
  unfold State.setDefined
  exact State.setWord_sound hP hs

theorem State.otpCan_sound (hP : Sound P) {s : State} (hs : P s) : P (State.otpCan s) := by
  unfold State.otpCan
  refine ite_sound ?_ ?_
  · exact hs
  · extract_lets +onlyGivenNames x0
    have h1 : ∀ a2 a4 a5, P a2 → P (x0 a2 a4 a5) := by
      intro a2 a4 a5 h3
      subst x0
      beta_reduce
      exact ite_sound (State.setDefined_sound hP h3) h3
    clear_value x0
    extract_lets +onlyGivenNames x6
    have h7 : P x6 := h1 _ _ _ (h1 _ _ _ (h1 _ _ _ hs)); clear_value x6
    extract_lets +onlyGivenNames x8
    have h9 : P x8 := h1 _ _ _ (h1 _ _ _ (h1 _ _ _ h7)); clear_value x8
    extract_lets +onlyGivenNames x10; clear_value x10
    extract_lets +onlyGivenNames x11; clear_value x11
    extract_lets +onlyGivenNames x12
    have h13 : P x12 := State.otpFilters_sound hP (State.otpFilters_sound hP h9); clear_value x12
    exact State.canInit_sound hP (State.canInit_sound hP (State.canShowFilt_sound hP (State.canShowFilt_sound hP h13)))

theorem State.otpNet_sound (hP : Sound P) {s : State} (hs : P s) : P (State.otpNet s) := by
  unfold State.otpNet
  extract_lets +onlyGivenNames x0; clear_value x0
  extract_lets +onlyGivenNames x1
  have h2 : P x1 := State.wrs_sound hP hs; clear_value x1
  exact State.netEnable_sound hP h2

theorem State.otpPassPause_sound (hP : Sound P) {s : State} (hs : P s) : P (State.otpPassPause s) := by
  unfold State.otpPassPause
  refine ite_sound ?_ ?_
  · extract_lets +onlyGivenNames x0
    have h1 : P x0 := State.wr_sound hP hs; clear_value x0
    exact hP.same x0 (State.base_eq rfl rfl rfl rfl rfl rfl rfl) h1
  · exact hs

theorem State.otpPassResume_sound (hP : Sound P) {s : State} (hs : P s) : P (State.otpPassResume s) := by
  unfold State.otpPassResume
  refine ite_sound ?_ ?_
  · extract_lets +onlyGivenNames x0
    have h1 : P x0 := State.wr_sound hP hs; clear_value x0
    exact hP.same x0 (State.base_eq rfl rfl rfl rfl rfl rfl rfl) h1
  · exact hs

theorem State.otpGood_sound (hP : Sound P) {s : State} {k : Nat} (hs : P s) : P (State.otpGood s k) := by
  unfold State.otpGood
  exact hP.same s (State.base_eq rfl rfl rfl rfl rfl rfl rfl) hs

theorem State.setImg_sound (hP : Sound P) {s : State} {r : Nat} {l : List Word} (hs : P s) : P (State.setImg s r l) := by
  unfold State.setImg
  exact State.setMemWords_sound hP hs

theorem State.rowDone_sound (hP : Sound P) {s : State} {r : Nat} {l : List Word} (hs : P s) : P (State.rowDone s r l) := by
  unfold State.rowDone
  extract_lets +onlyGivenNames x0; clear_value x0
  extract_lets +onlyGivenNames x1
  have h2 : P x1 := State.otpGood_sound hP (State.blows_sound hP hs); clear_value x1
  extract_lets +onlyGivenNames x3
  have h4 : P x3 := ite_sound (State.setMemWords_sound hP h2) h2; clear_value x3
  exact State.setImg_sound hP h4

theorem State.rowMoved_sound (hP : Sound P) {s : State} {r e : Nat} {l : List Word} (hs : P s) : P (State.rowMoved s r e l) := by
  unfold State.rowMoved
  extract_lets +onlyGivenNames x0; clear_value x0
  extract_lets +onlyGivenNames x1
  have h2 : P x1 := State.setMemWords_sound hP (State.blows_sound hP hs); clear_value x1
  extract_lets +onlyGivenNames x3
  have h4 : P x3 := State.blows_sound hP h2; clear_value x3
  exact State.setImg_sound hP (State.otpGood_sound hP (State.otpGood_sound hP (State.otpGood_sound hP h4)))

theorem State.blowsPart_sound (hP : Sound P) {s : State} {k : Nat} {l : List Word} (hs : P s) : P (State.blowsPart s k l) := by
  induction l generalizing s k with
  | nil => exact hs
  | cons w l ih =>
    have h := State.blow_sound hP (k := k) (w := w &&& s.anyVal) hs
    exact ih (State.used_sound hP h)

theorem State.otpCut_sound (hP : Sound P) {s : State} (hs : P s) : P (State.otpCut s) := by
  unfold State.otpCut
  split
  · exact State.blowsPart_sound hP hs
  · exact hs

theorem State.otpUnit_sound (hP : Sound P) {s : State} {p : List Word} {u : Nat} {ok : Bool} {got : List Word} (hs : P s) :
    P (State.otpUnit s p u ok got).1 := by
  have h (x : State) (o : Otp) (e : o.fuse = x.otp.fuse) (hx : P x) : P { x with otp := o } :=
    hP.same x (State.base_eq rfl rfl rfl rfl rfl rfl e) hx
  have hb (x : State) (hx : P x) (k : Nat) (l : List Word) : P (x.blows k l) := State.blows_sound hP hx
  unfold State.otpUnit
  extract_lets +onlyGivenNames w1 part
  clear_value part
  split
  · exact ite_fst (State.otpGood_sound hP (State.blow_sound hP hs)) hs
  · extract_lets r l
    refine ite_fst ?_ (ite_fst (State.otpGood_sound hP (State.blow_sound hP hs)) hs)
    generalize s.repairSpare r l = o
    cases o with
    | none => exact hs
    | some e =>
      refine ite_fst (h _ _ rfl (State.setMemWords_sound hP (hb _ hs _ _))) ?_
      extract_lets s1 o s2
      have h2 : P s2 := h _ _ rfl (hb _ hs _ _)
      generalize s2.freeSpare r l = o
      cases o with
      | none => exact h2
      | some e => exact h _ _ rfl (State.setMemWords_sound hP (hb _ h2 _ _))
  · exact ite_fst hs (ite_fst (State.blow_sound hP hs) (State.otpGood_sound hP (State.blow_sound hP hs)))
  · refine ite_fst (State.rowDone_sound hP hs) ?_
    extract_lets s1
    have h1 : P s1 := hb _ hs _ _
    split
    · exact h1
    · exact State.rowMoved_sound hP h1

theorem execPatchVerifyDone_sound (hP : Sound P) {s : State} (hs : P s) : ∃ s', execPatchVerifyDone s = .next s' ∧ P s' := by
  unfold execPatchVerifyDone
  refine ⟨_, rfl, ?_⟩
  exact ite_sound (State.patchEnd_sound hP hs) hs

theorem State.setTag_sound (hP : Sound P) {s : State} {t : Nat} {x0 : Tag} (hs : P s) : P (State.setTag s t x0) := by
  unfold State.setTag
  exact hP.same s (State.base_eq rfl rfl rfl rfl rfl rfl rfl) hs

theorem State.request_sound (hP : Sound P) {s : State} {ing owner : Nat} {use : TagUse} {k : Pkt} (hs : P s) {y : Nat × State}
    (e : s.request ing owner use k = some y) : P y.2 := by
  unfold State.request at e
  split at e
  · cases e
  · cases e
    exact State.send_sound hP (State.incWrap_sound hP (State.setTag_sound hP hs))

theorem State.hostResult_sound (hP : Sound P) {s : State} {t status : Nat} {data : List Word} (hs : P s) : P (State.hostResult s t status data) := by
  unfold State.hostResult
  extract_lets +onlyGivenNames x0
  have h1 : P x0 := State.wrs_sound hP hs; clear_value x0
  exact State.wrs_sound hP h1

theorem State.complete_sound (hP : Sound P) {s : State} {t status : Nat} {own : Bool} {route : Word} {data : List Word} (hs : P s) : P (State.complete s t status own route data) := by
  unfold State.complete
  extract_lets +onlyGivenNames x0; clear_value x0
  extract_lets +onlyGivenNames x1
  have h2 : P x1 := State.setTag_sound hP hs; clear_value x1
  extract_lets +onlyGivenNames x3
  have h4 : P x3 := ite_sound (State.inc_sound hP h2) (ite_sound (State.inc_sound hP h2) h2); clear_value x3
  split
  · exact h4
  · exact State.hostResult_sound hP h4
  · refine dite_sound (fun _ => ?_) (fun _ => ?_)
    · exact State.grvEvent_sound hP (State.modCh_sound hP (fun _ => rfl) h4)
    · exact h4
  · exact hP.same x3 (State.base_eq rfl rfl rfl rfl rfl rfl rfl) h4
  · split
    · exact State.gwDone_sound hP h4
    · exact h4

theorem State.noRoute_sound (hP : Sound P) {s : State} {p : Nat → Bool} (hs : P s) : P (State.noRoute s p) := by
  unfold State.noRoute
  refine foldl_sound (fun a0 a1 h2 => ?_) _ ?_
  · extract_lets +onlyGivenNames x3; clear_value x3
    exact ite_sound (State.complete_sound hP h2) h2
  · exact hs

theorem State.routeWrite_sound (hP : Sound P) {s : State} {d w : Nat} (hs : P s) : P (State.routeWrite s d w) := by
  unfold State.routeWrite
  refine ite_sound ?_ ?_
  · exact hs
  · extract_lets +onlyGivenNames x0
    have h1 : P x0 := State.setMemWord_sound hP hs; clear_value x0
    exact ite_sound (State.noRoute_sound hP h1) h1

theorem State.whenLink_sound (hP : Sound P) {s : State} {f : State → State} (hf1 : ∀ a0, P a0 → P (f a0)) (hs : P s) : P (State.whenLink s f) := by
  unfold State.whenLink
  exact ite_sound (hf1 _ hs) hs

theorem State.txnCntClr_sound (hP : Sound P) {s : State} (hs : P s) : P (State.txnCntClr s) := by
  unfold State.txnCntClr
  exact State.wrs_sound hP hs

theorem State.fabCntClr_sound (hP : Sound P) {s : State} (hs : P s) : P (State.fabCntClr s) := by
  unfold State.fabCntClr
  refine State.wrs_sound hP ?_
  refine State.whenLink_sound hP (fun a0 h1 => ?_) ?_
  · exact State.txnCntClr_sound hP h1
  · exact hs

theorem execFabCntClr_sound (hP : Sound P) {s : State} (hs : P s) : ∃ s', execFabCntClr s = .next s' ∧ P s' := by
  unfold execFabCntClr
  refine ⟨_, rfl, ?_⟩
  exact State.fabCntClr_sound hP hs

theorem State.txnGo_sound (hP : Sound P) {s : State} (hs : P s) : P (State.txnGo s) := by
  unfold State.txnGo
  refine ite_sound ?_ ?_
  · exact hs
  · extract_lets +onlyGivenNames x0
    have h1 : P x0 := State.wr_sound hP hs; clear_value x0
    split
    · exact State.hostResult_sound hP h1
    · refine ite_sound ?_ ?_
      · exact State.hostResult_sound hP (State.send_sound hP (State.incWrap_sound hP h1))
      · split
        · exact State.hostResult_sound hP h1
        · rename_i y2 y3 e4
          have h5 : P y3 := by
            refine State.request_sound hP ?_ e4
            exact h1
          exact h5

theorem execTxnGo_sound (hP : Sound P) {s : State} (hs : P s) : ∃ s', execTxnGo s = .next s' ∧ P s' := by
  unfold execTxnGo
  refine ⟨_, rfl, ?_⟩
  refine State.whenLink_sound hP (fun a0 h1 => ?_) ?_
  · exact State.txnGo_sound hP h1
  · exact hs

theorem State.hrxPop_sound (hP : Sound P) {s : State} (hs : P s) : P (State.hrxPop s) := by
  unfold State.hrxPop
  exact hP.same s (State.base_eq rfl rfl rfl rfl rfl rfl rfl) hs

theorem execHrxPop_sound (hP : Sound P) {s : State} (hs : P s) : ∃ s', execHrxPop s = .next s' ∧ P s' := by
  unfold execHrxPop
  refine ⟨_, rfl, ?_⟩
  refine State.whenLink_sound hP (fun a0 h1 => ?_) ?_
  · exact State.hrxPop_sound hP h1
  · exact hs

theorem execTxnCntClr_sound (hP : Sound P) {s : State} (hs : P s) : ∃ s', execTxnCntClr s = .next s' ∧ P s' := by
  unfold execTxnCntClr
  refine ⟨_, rfl, ?_⟩
  refine State.whenLink_sound hP (fun a0 h1 => ?_) ?_
  · exact State.txnCntClr_sound hP h1
  · exact hs

theorem State.takeWhere_sound (hP : Sound P) {s : State} {p : Pkt → Bool} (hs : P s) {y : Nat × Pkt × State}
    (e : s.takeWhere p = some y) : P y.2.2 := by
  unfold State.takeWhere at e
  split at e
  · cases e
  · cases e
    exact hP.same s (State.base_eq rfl rfl rfl rfl rfl rfl rfl) hs

theorem State.response_sound (hP : Sound P) {s : State} (hs : P s) : P (State.response s) := by
  unfold State.response
  split
  · exact hs
  · rename_i y0 y1 y2 e3
    have h4 : P y2 := by
      refine State.takeWhere_sound hP ?_ e3
      exact hs
    extract_lets +onlyGivenNames x5; clear_value x5
    exact ite_sound (State.complete_sound hP h4) (State.dropNote_sound hP h4)

theorem State.txnTimeout_sound (hP : Sound P) {s : State} {t : Nat} (hs : P s) : P (State.txnTimeout s t) := by
  unfold State.txnTimeout
  exact ite_sound (State.raise_sound hP (State.complete_sound hP hs)) hs

theorem State.enumEnd_sound (hP : Sound P) {s : State} (hs : P s) : P (State.enumEnd s) := by
  unfold State.enumEnd
  extract_lets +onlyGivenNames w0 x1
  have h2 : P x1 := by
    subst x1 w0
    exact hP.same s (State.base_eq rfl rfl rfl rfl rfl rfl rfl) hs
  clear_value w0 x1
  exact State.wrs_sound hP h2

theorem State.enumSend_sound (hP : Sound P) {s : State} {k : Pkt} (hs : P s) : P (State.enumSend s k) := by
  unfold State.enumSend
  split
  · exact hP.same s (State.base_eq rfl rfl rfl rfl rfl rfl rfl) hs
  · rename_i y0 y1 e2
    have h3 : P y1 := by
      refine State.request_sound hP ?_ e2
      exact hs
    exact h3

theorem State.noteRoutes_sound (hP : Sound P) {s : State} {x0 : Node} {l : List (Nat × Nat)} (hs : P s) : P (State.noteRoutes s x0 l) := by
  unfold State.noteRoutes
  extract_lets +onlyGivenNames x0; clear_value x0
  exact hP.same s (State.base_eq rfl rfl rfl rfl rfl rfl rfl) hs

theorem State.enumWrite_sound (hP : Sound P) {s : State} {x0 : Node} {b : Nat} (hs : P s) : P (State.enumWrite s x0 b).2 := by
  unfold State.enumWrite
  extract_lets +onlyGivenNames x0; clear_value x0
  extract_lets +onlyGivenNames x1; clear_value x1
  refine ite_snd ?_ ?_
  · exact ite_snd (snd_mk (State.wr_sound hP hs)) (snd_mk (State.enumSend_sound hP hs))
  · extract_lets +onlyGivenNames x2; clear_value x2
    extract_lets +onlyGivenNames x3; clear_value x3
    split
    · exact snd_mk hs
    · refine ite_snd ?_ ?_
      · refine snd_mk ?_
        refine State.noteRoutes_sound hP ?_
        refine foldl_sound (fun a4 a5 h6 => ?_) _ ?_
        · exact State.routeWrite_sound hP h6
        · exact hs
      · exact snd_mk (State.noteRoutes_sound hP (State.enumSend_sound hP hs))

theorem State.writeNext_sound (hP : Sound P) {f : Nat} {s : State} (hs : P s) : P (State.writeNext f s) := by
  induction f generalizing s with
  | zero => exact hs
  | succ f ih =>
    unfold State.writeNext
    split
    · exact State.enumEnd_sound hP hs
    · extract_lets w x0
      have h1 : P x0 := hP.same s (State.base_eq rfl rfl rfl rfl rfl rfl rfl) hs
      clear_value x0
      have h2 : ∀ x b, P (x0.enumWrite x b).2 := fun x b => State.enumWrite_sound hP h1
      split
      · rename_i e
        have := h2 ‹_› ‹_›
        rw [e] at this
        exact this
      · rename_i e
        have := h2 ‹_› ‹_›
        rw [e] at this
        exact ih this

theorem State.dropAbsent_sound (hP : Sound P) {s : State} (hs : P s) : P (State.dropAbsent s) := by
  unfold State.dropAbsent
  refine foldl_sound (fun a0 a1 h2 => ?_) _ ?_
  · refine ite_sound ?_ ?_
    · extract_lets +onlyGivenNames x3; clear_value x3
      extract_lets +onlyGivenNames x4
      have h5 : P x4 := State.setMemWord_sound hP (State.setMemWord_sound hP h2); clear_value x4
      extract_lets +onlyGivenNames x6
      have h7 : P x6 := State.wr_sound hP h5; clear_value x6
      exact hP.same x6 (State.base_eq rfl rfl rfl rfl rfl rfl rfl) h7
    · exact h2
  · exact hs

theorem State.planWrites_sound (hP : Sound P) {s : State} (hs : P s) : P (State.planWrites s) := by
  unfold State.planWrites
  extract_lets +onlyGivenNames x0; clear_value x0
  extract_lets +onlyGivenNames x1; clear_value x1
  exact hP.same s (State.base_eq rfl rfl rfl rfl rfl rfl rfl) hs

theorem State.writesBegin_sound (hP : Sound P) {s : State} (hs : P s) : P (State.writesBegin s) := by
  unfold State.writesBegin
  extract_lets +onlyGivenNames x0
  have h1 : P x0 := State.planWrites_sound hP hs; clear_value x0
  exact State.writeNext_sound hP h1

theorem State.enumTable_sound (hP : Sound P) {s : State} {x0 : Node} {b : Nat} (hs : P s) : P (State.enumTable s x0 b) := by
  unfold State.enumTable
  extract_lets +onlyGivenNames x0; clear_value x0
  exact State.enumSend_sound hP hs

theorem State.tableNext_sound (hP : Sound P) {s : State} (hs : P s) : P (State.tableNext s) := by
  unfold State.tableNext
  split
  · exact State.writesBegin_sound hP hs
  · exact State.enumTable_sound hP (hP.same s (State.base_eq rfl rfl rfl rfl rfl rfl rfl) hs)

theorem State.walkEnd_sound (hP : Sound P) {s : State} (hs : P s) : P (State.walkEnd s) := by
  have h (x : State) (f : Fab) (hx : P x) : P { x with fab := f } := hP.same x (State.base_eq rfl rfl rfl rfl rfl rfl rfl) hx
  unfold State.walkEnd
  extract_lets x0 x1 own x2 l f
  have h1 : P x1 := State.wr_sound hP (State.dropAbsent_sound hP hs)
  have h2 : P x2 := foldl_sound (fun _ _ h => ite_sound (State.noteRoutes_sound hP h) h) _ h1
  clear_value x1 own x2 l
  exact ite_sound (State.tableNext_sound hP (h x2 _ h2)) (State.writesBegin_sound hP h1)

theorem State.enumRead_sound (hP : Sound P) {s : State} {uid port : Nat} (hs : P s) : P (State.enumRead s uid port) := by
  unfold State.enumRead
  exact State.enumSend_sound hP hs

theorem State.walkNext_sound (hP : Sound P) {f : Nat} {s : State} (hs : P s) : P (State.walkNext f s) := by
  induction f generalizing s with
  | zero => exact hs
  | succ f ih =>
    unfold State.walkNext
    split
    · exact State.walkEnd_sound hP hs
    · extract_lets w x0
      have h1 : P x0 := hP.same s (State.base_eq rfl rfl rfl rfl rfl rfl rfl) hs
      clear_value x0
      split
      · exact ih h1
      · refine ite_sound (ih (ite_sound h1 (State.wr_sound hP h1))) (State.enumRead_sound hP ?_)
        exact hP.same x0 (State.base_eq rfl rfl rfl rfl rfl rfl rfl) h1

theorem State.walkOn_sound (hP : Sound P) {s : State} (hs : P s) : P (State.walkOn s) := by
  unfold State.walkOn
  exact State.walkNext_sound hP hs

theorem State.addEdge_sound (hP : Sound P) {s : State} {a p b q : Nat} (hs : P s) : P (State.addEdge s a p b q) := by
  unfold State.addEdge
  exact ite_sound hs (hP.same s (State.base_eq rfl rfl rfl rfl rfl rfl rfl) hs)

theorem State.enumName_sound (hP : Sound P) {s : State} {uid port d : Nat} (hs : P s) : P (State.enumName s uid port d) := by
  unfold State.enumName
  exact State.enumSend_sound hP hs

theorem State.found_sound (hP : Sound P) {s : State} {u p : Nat} {route : Word} {d : List Word} (hs : P s) : P (State.found s u p route d) := by
  unfold State.found
  extract_lets +onlyGivenNames x0; clear_value x0
  split
  · exact State.walkOn_sound hP hs
  · extract_lets +onlyGivenNames x1; clear_value x1
    extract_lets +onlyGivenNames x2; clear_value x2
    refine ite_sound ?_ ?_
    · exact State.walkOn_sound hP (State.addEdge_sound hP hs)
    · split
      · exact State.walkOn_sound hP (State.wr_sound hP hs)
      · extract_lets +onlyGivenNames x3; clear_value x3
        extract_lets +onlyGivenNames w4 x5
        have h6 : P x5 := by
          subst x5 w4
          exact hP.same s (State.base_eq rfl rfl rfl rfl rfl rfl rfl) hs
        clear_value w4 x5
        exact State.enumName_sound hP h6

theorem State.cachePut_sound (hP : Sound P) {s : State} {nd : Node} {parId : Nat} {present : Bool} (hs : P s) : P (State.cachePut s nd parId present) := by
  unfold State.cachePut
  extract_lets +onlyGivenNames x0; clear_value x0
  extract_lets +onlyGivenNames x1; clear_value x1
  exact State.setMemWords_sound hP hs

theorem State.enter_sound (hP : Sound P) {s : State} {nd : Node} {ports : Nat} (hs : P s) : P (State.enter s nd ports) := by
  unfold State.enter
  extract_lets +onlyGivenNames x0; clear_value x0
  extract_lets +onlyGivenNames x1; clear_value x1
  extract_lets +onlyGivenNames w2 x3
  have h4 : P x3 := by
    subst x3 w2
    exact hP.same s (State.base_eq rfl rfl rfl rfl rfl rfl rfl) hs
  clear_value w2 x3
  extract_lets +onlyGivenNames x5
  have h6 : P x5 := State.cachePut_sound hP (State.addEdge_sound hP h4); clear_value x5
  extract_lets +onlyGivenNames x7
  have h8 : P x7 := State.wrs_sound hP h6; clear_value x7
  exact ite_sound h8 (State.wr_sound hP h8)

theorem State.enumStep_sound (hP : Sound P) {s : State} (hs : P s) : P (State.enumStep s) := by
  unfold State.enumStep
  split
  · exact hs
  · exact hs
  · extract_lets +onlyGivenNames w0 x1
    have h2 : P x1 := by
      subst x1 w0
      exact hP.same s (State.base_eq rfl rfl rfl rfl rfl rfl rfl) hs
    clear_value w0 x1
    extract_lets +onlyGivenNames x3; clear_value x3
    extract_lets +onlyGivenNames w4 x5
    have h6 : P x5 := by
      subst x5 w4
      exact ite_sound (hP.same x1 (State.base_eq rfl rfl rfl rfl rfl rfl rfl) h2) h2
    clear_value w4 x5
    split
    · exact h6
    · exact ite_sound (State.enumRead_sound hP h6) (ite_sound (State.walkOn_sound hP h6) (State.found_sound hP h6))
    · exact ite_sound (State.enumName_sound hP h6) (ite_sound (State.walkOn_sound hP h6) (State.walkOn_sound hP (State.enter_sound hP h6)))
    · exact ite_sound (State.enumWrite_sound hP h6) (State.writeNext_sound hP h6)
    · refine ite_sound ?_ ?_
      · exact State.enumTable_sound hP h6
      · extract_lets +onlyGivenNames x7
        have h8 : P x7 := ite_sound (State.noteRoutes_sound hP h6) h6; clear_value x7
        exact State.tableNext_sound hP h8

theorem State.enumPump_sound (hP : Sound P) {s : State} (hs : P s) : P (State.enumPump s) := by
  unfold State.enumPump
  exact State.enumStep_sound hP (State.enumStep_sound hP (State.enumStep_sound hP hs))

theorem State.forget_sound (hP : Sound P) {s : State} (hs : P s) : P (State.forget s) := by
  unfold State.forget
  refine foldl_sound (fun a0 a1 h2 => ?_) _ ?_
  · exact ite_sound (State.setMemWords_sound hP h2) h2
  · exact hs

theorem execForget_sound (hP : Sound P) {s : State} (hs : P s) : ∃ s', execForget s = .next s' ∧ P s' := by
  unfold execForget
  refine ⟨_, rfl, ?_⟩
  exact State.forget_sound hP hs

theorem State.showRoot_sound (hP : Sound P) {s : State} (hs : P s) : P (State.showRoot s) := by
  unfold State.showRoot
  split
  · exact State.wrs_sound hP hs
  · exact State.wrs_sound hP hs

theorem State.reenumLost_sound (hP : Sound P) {s : State} (hs : P s) : P (State.reenumLost s) := by
  unfold State.reenumLost
  split
  · exact hs
  · extract_lets +onlyGivenNames w0 x1
    have h2 : P x1 := by
      subst x1 w0
      exact State.setJob_sound hP hs
    clear_value w0 x1
    exact State.jobFail_sound hP h2

theorem State.stepDown_sound (hP : Sound P) {s : State} (hs : P s) : P (State.stepDown s) := by
  unfold State.stepDown
  extract_lets +onlyGivenNames w0 x1
  have h2 : P x1 := by
    subst x1 w0
    exact hP.same s (State.base_eq rfl rfl rfl rfl rfl rfl rfl) hs
  clear_value w0 x1
  exact State.reenumLost_sound hP (State.wrs_sound hP h2)

theorem State.lockRise_sound (hP : Sound P) {s : State} (hs : P s) : P (State.lockRise s) := by
  unfold State.lockRise
  refine ite_sound ?_ ?_
  · exact hs
  · extract_lets +onlyGivenNames x0
    have h1 : P x0 := State.wrs_sound hP hs; clear_value x0
    exact State.condSet_sound hP (hP.same x0 (State.base_eq rfl rfl rfl rfl rfl rfl rfl) h1)

theorem State.lockFall_sound (hP : Sound P) {s : State} (hs : P s) : P (State.lockFall s) := by
  unfold State.lockFall
  extract_lets +onlyGivenNames w0 x1
  have h2 : P x1 := by
    subst x1 w0
    exact hP.same s (State.base_eq rfl rfl rfl rfl rfl rfl rfl) hs
  clear_value w0 x1
  exact ite_sound (State.condSet_sound hP (State.wrs_sound hP h2)) h2

theorem State.timeSource_sound (hP : Sound P) {s : State} (hs : P s) : P (State.timeSource s) := by
  unfold State.timeSource
  extract_lets +onlyGivenNames x0; clear_value x0
  extract_lets +onlyGivenNames x1; clear_value x1
  extract_lets +onlyGivenNames w2 x3
  have h4 : P x3 := by
    subst x3 w2
    exact ite_sound (hP.same s (State.base_eq rfl rfl rfl rfl rfl rfl rfl) hs) hs
  clear_value w2 x3
  refine ite_sound ?_ ?_
  · exact State.lockRise_sound hP (State.wrs_sound hP h4)
  · split
    · exact State.wrs_sound hP h4
    · exact State.lockFall_sound hP (State.wrs_sound hP h4)

theorem State.sendBeacons_sound (hP : Sound P) {s : State} (hs : P s) : P (State.sendBeacons s) := by
  unfold State.sendBeacons
  split
  · exact hs
  · refine foldl_sound (fun a0 a1 h2 => ?_) _ ?_
    · exact ite_sound (State.send_sound hP h2) h2
    · exact hs

theorem State.setHeld_sound (hP : Sound P) {s : State} {r : Option RootRec} (hs : P s) : P (State.setHeld s r) := by
  unfold State.setHeld
  extract_lets +onlyGivenNames x0; try clear_value x0
  extract_lets +onlyGivenNames x1; try clear_value x1
  extract_lets +onlyGivenNames w2 x3
  have h4 : P x3 := by
    subst x3 w2
    exact State.showRoot_sound hP (hP.same s (State.base_eq rfl rfl rfl rfl rfl rfl rfl) hs)
  try clear_value w2 x3
  extract_lets +onlyGivenNames x5
  have h6 : P x5 := ite_sound (State.stepDown_sound hP h4) h4; try clear_value x5
  extract_lets +onlyGivenNames x7; try clear_value x7
  extract_lets +onlyGivenNames x8; try clear_value x8
  extract_lets +onlyGivenNames x9
  have h10 : P x9 := ite_sound (State.wr_sound hP h6) h6; try clear_value x9
  extract_lets +onlyGivenNames x11
  have h12 : P x11 := ite_sound (State.condSet_sound hP (State.wr_sound hP h10)) (ite_sound (State.condSet_sound hP h10) h10); try clear_value x11
  extract_lets +onlyGivenNames x13
  have h14 : P x13 := State.timeSource_sound hP h12; try clear_value x13
  exact ite_sound (State.sendBeacons_sound hP h14) h14

theorem State.pickRoot_sound (hP : Sound P) {s : State} {up : Nat} (hs : P s) : P (State.pickRoot s up) := by
  unfold State.pickRoot
  extract_lets +onlyGivenNames x0; clear_value x0
  exact State.setHeld_sound hP hs

theorem State.reoffer_sound (hP : Sound P) {s : State} (hs : P s) : P (State.reoffer s) := by
  unfold State.reoffer
  split
  · exact ite_sound (State.setHeld_sound hP hs) hs
  · exact ite_sound (ite_sound (State.setHeld_sound hP hs) (State.pickRoot_sound hP hs)) (ite_sound (State.setHeld_sound hP hs) hs)

theorem State.linkEvent_sound (hP : Sound P) {s : State} {p : Nat} {up : Bool} (hs : P s) : P (State.linkEvent s p up) := by
  unfold State.linkEvent
  refine ite_sound ?_ ?_
  · exact hP.same s (State.base_eq rfl rfl rfl rfl rfl rfl rfl) hs
  · split
    · exact ite_sound (State.send_sound hP hs) hs
    · exact hs

theorem State.rootExpire_sound (hP : Sound P) {s : State} (hs : P s) : P (State.rootExpire s) := by
  unfold State.rootExpire
  split
  · exact State.pickRoot_sound hP (hP.same s (State.base_eq rfl rfl rfl rfl rfl rfl rfl) hs)
  · exact hs

theorem execRouteTableWrite_sound (hP : Sound P) {d : BitVec 10} {w : BitVec 32} {s : State} (hs : P s) : ∃ s', execRouteTableWrite d w s = .next s' ∧ P s' := by
  unfold execRouteTableWrite
  refine ⟨_, rfl, ?_⟩
  refine State.whenLink_sound hP (fun a0 h1 => ?_) ?_
  · exact State.settleAll_sound hP (State.enumPump_sound hP h1)
  · exact State.routeWrite_sound hP hs

theorem State.takeId_sound (hP : Sound P) {s : State} {d : Nat} (hs : P s) : P (State.takeId s d) := by
  unfold State.takeId
  extract_lets +onlyGivenNames x0
  have h1 : P x0 := by
    subst x0
    split
    · exact ite_sound hs (State.routeWrite_sound hP hs)
    · exact hs
  clear_value x0
  exact State.routeWrite_sound hP (State.wrs_sound hP h1)

theorem State.dropId_sound (hP : Sound P) {s : State} {d : Nat} (hs : P s) : P (State.dropId s d) := by
  unfold State.dropId
  extract_lets +onlyGivenNames x0
  have h1 : P x0 := State.wrs_sound hP hs; clear_value x0
  exact State.noRoute_sound hP (State.clearMem_sound hP h1)

theorem State.nodeIdWrite_sound (hP : Sound P) {s : State} {w : Word} (hs : P s) : P (State.nodeIdWrite s w) := by
  unfold State.nodeIdWrite
  extract_lets +onlyGivenNames x0; clear_value x0
  refine ite_sound ?_ ?_
  · refine foldl_sound (fun a1 a2 h3 => ?_) _ ?_
    · exact ite_sound (State.linkEvent_sound hP (State.modLp_sound hP h3)) h3
    · exact State.takeId_sound hP hs
  · exact State.dropId_sound hP hs

theorem State.relay_sound (hP : Sound P) {s : State} (hs : P s) : P (State.relay s) := by
  unfold State.relay
  extract_lets +onlyGivenNames x0; clear_value x0
  extract_lets +onlyGivenNames x1; clear_value x1
  extract_lets +onlyGivenNames w2 x3
  have h4 : P x3 := by
    subst x3 w2
    exact hP.same s (State.base_eq rfl rfl rfl rfl rfl rfl rfl) hs
  clear_value w2 x3
  refine foldl_sound (fun a5 a6 h7 => ?_) _ ?_
  · exact State.cachePut_sound hP h7
  · exact h4

theorem State.enumBegin_sound (hP : Sound P) {s : State} {r : EnumReq} (hs : P s) : P (State.enumBegin s r) := by
  unfold State.enumBegin
  extract_lets +onlyGivenNames x0
  have h1 : P x0 := State.wr_sound hP hs; clear_value x0
  split
  · extract_lets +onlyGivenNames x2
    have h3 : P x2 := State.wrs_sound hP h1; clear_value x2
    extract_lets +onlyGivenNames w4 x5
    have h6 : P x5 := by
      subst x5 w4
      exact hP.same x2 (State.base_eq rfl rfl rfl rfl rfl rfl rfl) h3
    clear_value w4 x5
    exact State.walkOn_sound hP (State.cachePut_sound hP h6)
  · exact State.walkOn_sound hP (hP.same x0 (State.base_eq rfl rfl rfl rfl rfl rfl rfl) h1)
  · extract_lets +onlyGivenNames w7 x8
    have h9 : P x8 := by
      subst x8 w7
      exact hP.same x0 (State.base_eq rfl rfl rfl rfl rfl rfl rfl) h1
    clear_value w7 x8
    exact State.walkEnd_sound hP (State.relay_sound hP h9)

theorem State.linkRecord_sound (hP : Sound P) {s : State} {up : Bool} (hs : P s) : P (State.linkRecord s up) := by
  unfold State.linkRecord
  split
  · exact hs
  · rename_i y0 y1 y2 e3
    have h4 : P y2 := by
      refine State.takeWhere_sound hP ?_ e3
      exact hs
    split
    · extract_lets +onlyGivenNames x5; clear_value x5
      exact hP.same y2 (State.base_eq rfl rfl rfl rfl rfl rfl rfl) h4
    · exact h4

theorem execLinkUpRecord_sound (hP : Sound P) {s : State} (hs : P s) : ∃ s', execLinkUpRecord s = .next s' ∧ P s' := by
  unfold execLinkUpRecord
  refine ⟨_, rfl, ?_⟩
  refine State.whenLink_sound hP (fun a0 h1 => ?_) ?_
  · exact State.linkRecord_sound hP h1
  · exact hs

theorem execLinkDownRecord_sound (hP : Sound P) {s : State} (hs : P s) : ∃ s', execLinkDownRecord s = .next s' ∧ P s' := by
  unfold execLinkDownRecord
  refine ⟨_, rfl, ?_⟩
  refine State.whenLink_sound hP (fun a0 h1 => ?_) ?_
  · exact State.linkRecord_sound hP h1
  · exact hs

theorem execBeacon_sound (hP : Sound P) {s : State} (hs : P s) : ∃ s', execBeacon s = .next s' ∧ P s' := by
  unfold execBeacon
  refine ⟨_, rfl, ?_⟩
  refine State.whenLink_sound hP (fun a0 h1 => ?_) ?_
  · split
    · exact h1
    · rename_i y2 y3 y4 e5
      have h6 : P y4 := by
        refine State.takeWhere_sound hP ?_ e5
        exact h1
      extract_lets +onlyGivenNames x7; clear_value x7
      refine ite_sound ?_ ?_
      · exact h6
      · extract_lets +onlyGivenNames x8; clear_value x8
        extract_lets +onlyGivenNames w9 x10
        have h11 : P x10 := by
          subst x10 w9
          exact hP.same y4 (State.base_eq rfl rfl rfl rfl rfl rfl rfl) h6
        clear_value w9 x10
        extract_lets +onlyGivenNames w12 x13
        have h14 : P x13 := by
          subst x13 w12
          exact ite_sound (hP.same x10 (State.base_eq rfl rfl rfl rfl rfl rfl rfl) h11) h11
        clear_value w12 x13
        split
        · exact State.settleAll_sound hP (State.setHeld_sound hP h14)
        · exact ite_sound (State.settleAll_sound hP (State.setHeld_sound hP h14)) h14
  · exact hs

theorem execTransactionResponse_sound (hP : Sound P) {s : State} (hs : P s) : ∃ s', execTransactionResponse s = .next s' ∧ P s' := by
  unfold execTransactionResponse
  refine ⟨_, rfl, ?_⟩
  refine State.whenLink_sound hP (fun a0 h1 => ?_) ?_
  · exact State.settleAll_sound hP (State.enumPump_sound hP (State.response_sound hP h1))
  · exact hs

theorem execTransactionTimeout_sound (hP : Sound P) {t : Fin 64} {s : State} (hs : P s) : ∃ s', execTransactionTimeout t s = .next s' ∧ P s' := by
  unfold execTransactionTimeout
  refine ⟨_, rfl, ?_⟩
  refine State.whenLink_sound hP (fun a0 h1 => ?_) ?_
  · exact State.settleAll_sound hP (State.enumPump_sound hP (State.txnTimeout_sound hP h1))
  · exact hs

theorem execTagQuarantineEnd_sound (hP : Sound P) {t : Fin 64} {s : State} (hs : P s) : ∃ s', execTagQuarantineEnd t s = .next s' ∧ P s' := by
  unfold execTagQuarantineEnd
  refine ⟨_, rfl, ?_⟩
  refine State.whenLink_sound hP (fun a0 h1 => ?_) ?_
  · exact ite_sound (State.settleAll_sound hP (State.enumPump_sound hP (State.setTag_sound hP h1))) h1
  · exact hs

theorem execNodeIdWrite_sound (hP : Sound P) {w : BitVec 32} {s : State} (hs : P s) : ∃ s', execNodeIdWrite w s = .next s' ∧ P s' := by
  unfold execNodeIdWrite
  refine ⟨_, rfl, ?_⟩
  refine State.whenLink_sound hP (fun a0 h1 => ?_) ?_
  · exact State.settleAll_sound hP (State.enumPump_sound hP (State.nodeIdWrite_sound hP h1))
  · exact hs

theorem execBeaconTimer_sound (hP : Sound P) {s : State} (hs : P s) : ∃ s', execBeaconTimer s = .next s' ∧ P s' := by
  unfold execBeaconTimer
  refine ⟨_, rfl, ?_⟩
  refine State.whenLink_sound hP (fun a0 h1 => ?_) ?_
  · split
    · exact State.settleAll_sound hP (State.reoffer_sound hP h1)
    · refine ite_sound ?_ ?_
      · exact State.settleAll_sound hP (State.setHeld_sound hP h1)
      · extract_lets +onlyGivenNames x2
        have h3 : P x2 := State.reoffer_sound hP h1; clear_value x2
        exact ite_sound (State.sendBeacons_sound hP h1) (State.settleAll_sound hP h3)
  · exact hs

theorem execRootRecordExpiry_sound (hP : Sound P) {s : State} (hs : P s) : ∃ s', execRootRecordExpiry s = .next s' ∧ P s' := by
  unfold execRootRecordExpiry
  refine ⟨_, rfl, ?_⟩
  refine State.whenLink_sound hP (fun a0 h1 => ?_) ?_
  · exact State.settleAll_sound hP (State.rootExpire_sound hP h1)
  · exact hs

theorem execElectionTimeout_sound (hP : Sound P) {s : State} (hs : P s) : ∃ s', execElectionTimeout s = .next s' ∧ P s' := by
  unfold execElectionTimeout
  refine ⟨_, rfl, ?_⟩
  refine State.whenLink_sound hP (fun a0 h1 => ?_) ?_
  · split
    · refine ite_sound ?_ ?_
      · extract_lets +onlyGivenNames x2
        have h3 : P x2 := by
          subst x2
          split
          · exact State.takeId_sound hP h1
          · exact h1
        clear_value x2
        extract_lets +onlyGivenNames x4
        have h5 : P x4 := State.wr_sound hP (State.setHeld_sound hP h3); clear_value x4
        exact State.settleAll_sound hP (hP.same x4 (State.base_eq rfl rfl rfl rfl rfl rfl rfl) h5)
      · exact h1
    · exact h1
  · exact hs

theorem execEnumerationStart_sound (hP : Sound P) {s : State} (hs : P s) : ∃ s', execEnumerationStart s = .next s' ∧ P s' := by
  unfold execEnumerationStart
  refine ⟨_, rfl, ?_⟩
  refine State.whenLink_sound hP (fun a0 h1 => ?_) ?_
  · refine ite_sound ?_ ?_
    · split
      · exact h1
      · exact State.settleAll_sound hP (State.enumPump_sound hP (State.enumBegin_sound hP (hP.same a0 (State.base_eq rfl rfl rfl rfl rfl rfl rfl) h1)))
    · exact h1
  · exact hs

theorem State.whenPort_sound (hP : Sound P) {s : State} {p : Ch} {f : State → State} (hf1 : ∀ a0, P a0 → P (f a0)) (hs : P s) : P (State.whenPort s p f) := by
  unfold State.whenPort
  exact ite_sound (State.settleAll_sound hP (State.enumPump_sound hP (hf1 _ hs))) hs

theorem State.bertCounts_sound (hP : Sound P) {s : State} {p : Nat} {m : List Word} (hs : P s) : P (State.bertCounts s p m) := by
  unfold State.bertCounts
  split
  · exact State.wrs_sound hP hs
  · exact hs

theorem State.bertCut_sound (hP : Sound P) {s : State} {p : Ch} (hs : P s) : P (State.bertCut s p) := by
  unfold State.bertCut
  exact State.bertCounts_sound hP (State.used_sound hP (State.used_sound hP (State.used_sound hP hs)))

theorem State.showReplay_sound (hP : Sound P) {s : State} {p : Ch} (hs : P s) : P (State.showReplay s p) := by
  unfold State.showReplay
  exact State.wr_sound hP hs

theorem State.bertFail_sound (hP : Sound P) {s : State} {p : Ch} {res7 : Nat} (hs : P s) : P (State.bertFail s p res7) := by
  unfold State.bertFail
  split
  · exact State.jobFail_sound hP (State.setJob_sound hP hs)
  · exact hs

theorem State.linkDown_sound (hP : Sound P) {s : State} {p : Ch} (hs : P s) : P (State.linkDown s p) := by
  unfold State.linkDown
  extract_lets +onlyGivenNames x0
  have h1 : P x0 := State.showReplay_sound hP (State.modLp_sound hP hs); clear_value x0
  extract_lets +onlyGivenNames x2
  have h3 : P x2 := State.condSet_sound hP (State.wr_sound hP h1); clear_value x2
  exact State.linkEvent_sound hP (State.bertFail_sound hP h3)

theorem State.leaveActive_sound (hP : Sound P) {s : State} {p : Ch} (hs : P s) : P (State.leaveActive s p) := by
  unfold State.leaveActive
  extract_lets +onlyGivenNames x0
  have h1 : P x0 := State.noRoute_sound hP hs; clear_value x0
  split
  · exact ite_sound (State.rootExpire_sound hP h1) h1
  · exact h1

theorem State.portOut_sound (hP : Sound P) {s : State} {p : Ch} {to' : Nat} (hs : P s) : P (State.portOut s p to') := by
  unfold State.portOut
  extract_lets +onlyGivenNames x0; clear_value x0
  extract_lets +onlyGivenNames x1
  have h2 : P x1 := ite_sound (State.bertCut_sound hP hs) hs; clear_value x1
  extract_lets +onlyGivenNames x3
  have h4 : P x3 := State.wrs_sound hP (State.modLp_sound hP h2); clear_value x3
  exact ite_sound (State.linkDown_sound hP (State.leaveActive_sound hP h4)) h4

theorem State.lnkEn_sound (hP : Sound P) {s : State} {p : Ch} {b : Bool} (hs : P s) : P (State.lnkEn s p b) := by
  unfold State.lnkEn
  extract_lets +onlyGivenNames x0
  have h1 : P x0 := State.flag_sound hP hs; clear_value x0
  exact ite_sound (ite_sound (State.portOut_sound hP h1) h1) (ite_sound h1 (State.condSet_sound hP (State.portOut_sound hP h1)))

theorem execLnkEn_sound (hP : Sound P) {p : Ch} {b : Bool} {s : State} (hs : P s) : ∃ s', execLnkEn p b s = .next s' ∧ P s' := by
  unfold execLnkEn
  refine ⟨_, rfl, ?_⟩
  refine State.whenPort_sound hP (fun a0 h1 => ?_) ?_
  · exact ite_sound (State.wrDenied_sound hP h1) (State.lnkEn_sound hP h1)
  · exact hs

theorem State.lnkCntClr_sound (hP : Sound P) {s : State} {p : Ch} (hs : P s) : P (State.lnkCntClr s p) := by
  unfold State.lnkCntClr
  exact State.wrs_sound hP hs

theorem execLnkCntClr_sound (hP : Sound P) {p : Ch} {s : State} (hs : P s) : ∃ s', execLnkCntClr p s = .next s' ∧ P s' := by
  unfold execLnkCntClr
  refine ⟨_, rfl, ?_⟩
  refine State.whenPort_sound hP (fun a0 h1 => ?_) ?_
  · exact State.lnkCntClr_sound hP h1
  · exact hs

theorem State.toRetrain_sound (hP : Sound P) {s : State} {p : Ch} (hs : P s) : P (State.toRetrain s p) := by
  unfold State.toRetrain
  extract_lets +onlyGivenNames x0; clear_value x0
  extract_lets +onlyGivenNames x1
  have h2 : P x1 := State.wrs_sound hP (State.modLp_sound hP hs); clear_value x1
  extract_lets +onlyGivenNames x3
  have h4 : P x3 := State.raise_sound hP (State.inc_sound hP h2); clear_value x3
  exact ite_sound (State.leaveActive_sound hP h4) h4

theorem execLnkRetrain_sound (hP : Sound P) {p : Ch} {s : State} (hs : P s) : ∃ s', execLnkRetrain p s = .next s' ∧ P s' := by
  unfold execLnkRetrain
  refine ⟨_, rfl, ?_⟩
  refine State.whenPort_sound hP (fun a0 h1 => ?_) ?_
  · exact ite_sound (State.toRetrain_sound hP h1) h1
  · exact hs

theorem execHltTransmit_sound (hP : Sound P) {p : Ch} {s : State} (hs : P s) : ∃ s', execHltTransmit p s = .next s' ∧ P s' := by
  unfold execHltTransmit
  refine ⟨_, rfl, ?_⟩
  refine State.whenPort_sound hP (fun a0 h1 => ?_) ?_
  · exact ite_sound (State.transmit_sound hP h1) h1
  · exact hs

theorem execHaltSymbolReceived_sound (hP : Sound P) {p : Ch} {s : State} (hs : P s) : ∃ s', execHaltSymbolReceived p s = .next s' ∧ P s' := by
  unfold execHaltSymbolReceived
  refine ⟨_, rfl, ?_⟩
  refine State.whenPort_sound hP (fun a0 h1 => ?_) ?_
  · exact ite_sound (State.haltAssert_sound hP (State.wrs_sound hP h1)) h1
  · exact hs

theorem execHaltRxExpiry_sound (hP : Sound P) {p : Ch} {s : State} (hs : P s) : ∃ s', execHaltRxExpiry p s = .next s' ∧ P s' := by
  unfold execHaltRxExpiry
  refine ⟨_, rfl, ?_⟩
  refine State.whenPort_sound hP (fun a0 h1 => ?_) ?_
  · exact State.wr_sound hP h1
  · exact hs

theorem State.bertLeave_sound (hP : Sound P) {s : State} {p : Ch} (hs : P s) : P (State.bertLeave s p) := by
  unfold State.bertLeave
  exact ite_sound (State.toRetrain_sound hP hs) (State.modLp_sound hP hs)

theorem execSignalDetect_sound (hP : Sound P) {p : Ch} {s : State} (hs : P s) : ∃ s', execSignalDetect p s = .next s' ∧ P s' := by
  unfold execSignalDetect
  refine ⟨_, rfl, ?_⟩
  refine State.whenPort_sound hP (fun a0 h1 => ?_) ?_
  · exact State.wr_sound hP h1
  · exact hs

theorem State.toTrain_sound (hP : Sound P) {s : State} {p : Ch} (hs : P s) : P (State.toTrain s p) := by
  unfold State.toTrain
  extract_lets +onlyGivenNames x0; clear_value x0
  extract_lets +onlyGivenNames x1; clear_value x1
  exact State.wrs_sound hP (State.modLp_sound hP hs)

theorem execDetectComplete_sound (hP : Sound P) {p : Ch} {s : State} (hs : P s) : ∃ s', execDetectComplete p s = .next s' ∧ P s' := by
  unfold execDetectComplete
  refine ⟨_, rfl, ?_⟩
  refine State.whenPort_sound hP (fun a0 h1 => ?_) ?_
  · exact ite_sound (State.toTrain_sound hP h1) h1
  · exact hs

theorem execTrainDwellTimeout_sound (hP : Sound P) {p : Ch} {s : State} (hs : P s) : ∃ s', execTrainDwellTimeout p s = .next s' ∧ P s' := by
  unfold execTrainDwellTimeout
  refine ⟨_, rfl, ?_⟩
  refine State.whenPort_sound hP (fun a0 h1 => ?_) ?_
  · exact ite_sound (State.portOut_sound hP h1) h1
  · exact hs

theorem execConfigTimeout_sound (hP : Sound P) {p : Ch} {s : State} (hs : P s) : ∃ s', execConfigTimeout p s = .next s' ∧ P s' := by
  unfold execConfigTimeout
  refine ⟨_, rfl, ?_⟩
  refine State.whenPort_sound hP (fun a0 h1 => ?_) ?_
  · exact ite_sound (State.portOut_sound hP h1) h1
  · exact hs

theorem execSignalLoss_sound (hP : Sound P) {p : Ch} {s : State} (hs : P s) : ∃ s', execSignalLoss p s = .next s' ∧ P s' := by
  unfold execSignalLoss
  refine ⟨_, rfl, ?_⟩
  refine State.whenPort_sound hP (fun a0 h1 => ?_) ?_
  · extract_lets +onlyGivenNames x2
    have h3 : P x2 := State.wr_sound hP h1; clear_value x2
    exact ite_sound (State.portOut_sound hP h3) h3
  · exact hs

theorem State.trainSet_sound (hP : Sound P) {s : State} {p : Ch} (hs : P s) : P (State.trainSet s p) := by
  unfold State.trainSet
  extract_lets +onlyGivenNames x0
  have h1 : P x0 := State.wr_sound hP (State.modLp_sound hP hs); clear_value x0
  exact ite_sound (State.wr_sound hP (State.modLp_sound hP h1)) h1

theorem State.tra1_sound (hP : Sound P) {s : State} {p : Ch} {cap pid : BitVec 8} (hs : P s) : P (State.tra1 s p cap pid) := by
  unfold State.tra1
  extract_lets +onlyGivenNames x0; clear_value x0
  refine ite_sound ?_ ?_
  · exact State.modLp_sound hP hs
  · extract_lets +onlyGivenNames x1; clear_value x1
    extract_lets +onlyGivenNames x2
    have h3 : ∀ a4, P a4 → P (x2 a4) := by
      intro a4 h5
      subst x2
      beta_reduce
      exact State.wr_sound hP (State.modLp_sound hP h5)
    clear_value x2
    refine ite_sound ?_ ?_
    · exact State.trainSet_sound hP (h3 _ hs)
    · refine ite_sound ?_ ?_
      · extract_lets +onlyGivenNames x6
        have h7 : P x6 := h3 _ hs; clear_value x6
        exact ite_sound (State.wr_sound hP h7) h7
      · refine ite_sound ?_ ?_
        · extract_lets +onlyGivenNames x8; clear_value x8
          exact ite_sound (State.wr_sound hP (State.modLp_sound hP hs)) (State.modLp_sound hP (h3 _ (State.toRetrain_sound hP hs)))
        · exact ite_sound (ite_sound hs (h3 _ (State.toRetrain_sound hP hs))) hs

theorem execTra1Received_sound (hP : Sound P) {p : Ch} {cap pid : BitVec 8} {s : State} (hs : P s) : ∃ s', execTra1Received p cap pid s = .next s' ∧ P s' := by
  unfold execTra1Received
  refine ⟨_, rfl, ?_⟩
  refine State.whenPort_sound hP (fun a0 h1 => ?_) ?_
  · exact State.tra1_sound hP h1
  · exact hs

theorem State.linkFresh_sound (hP : Sound P) {s : State} {p : Ch} (hs : P s) : P (State.linkFresh s p) := by
  unfold State.linkFresh
  exact State.wrs_sound hP (State.modLp_sound hP hs)

theorem State.showCredits_sound (hP : Sound P) {s : State} {p : Ch} (hs : P s) : P (State.showCredits s p) := by
  unfold State.showCredits
  extract_lets +onlyGivenNames x0; clear_value x0
  extract_lets +onlyGivenNames x1; clear_value x1
  exact State.wr_sound hP hs

theorem State.sendCrd_sound (hP : Sound P) {s : State} {p : Ch} {v : Nat} (hs : P s) : P (State.sendCrd s p v) := by
  unfold State.sendCrd
  extract_lets +onlyGivenNames x0; clear_value x0
  exact State.transmit_sound hP (State.modLp_sound hP hs)

theorem State.toActive_sound (hP : Sound P) {s : State} {p : Ch} (hs : P s) : P (State.toActive s p) := by
  unfold State.toActive
  extract_lets +onlyGivenNames x0; clear_value x0
  extract_lets +onlyGivenNames x1; clear_value x1
  extract_lets +onlyGivenNames x2
  have h3 : P x2 := ite_sound (State.linkFresh_sound hP hs) (State.modLp_sound hP hs); clear_value x2
  extract_lets +onlyGivenNames x4
  have h5 : P x4 := State.wr_sound hP (State.modLp_sound hP h3); clear_value x4
  extract_lets +onlyGivenNames x6
  have h7 : P x6 := by
    subst x6
    exact State.showCredits_sound hP (State.sendCrd_sound hP (State.sendCrd_sound hP (State.sendCrd_sound hP (State.sendCrd_sound hP h5))))
  clear_value x6
  extract_lets +onlyGivenNames x8
  have h9 : P x8 := State.condSet_sound hP h7; clear_value x8
  exact State.linkEvent_sound hP (ite_sound (State.inc_sound hP (State.wr_sound hP h9)) h9)

theorem State.tra2_sound (hP : Sound P) {s : State} {p : Ch} {cap pid : BitVec 8} {sent16 : Bool} (hs : P s) : P (State.tra2 s p cap pid sent16) := by
  unfold State.tra2
  extract_lets +onlyGivenNames x0; clear_value x0
  refine ite_sound ?_ ?_
  · exact State.modLp_sound hP hs
  · extract_lets +onlyGivenNames x1
    have h2 : ∀ a3, P a3 → P (x1 a3) := by
      intro a3 h4
      subst x1
      beta_reduce
      exact State.wr_sound hP (State.modLp_sound hP h4)
    clear_value x1
    refine ite_sound ?_ ?_
    · exact State.trainSet_sound hP (h2 _ hs)
    · refine ite_sound ?_ ?_
      · extract_lets +onlyGivenNames x5
        have h6 : P x5 := ite_sound (State.bertFail_sound hP hs) hs; clear_value x5
        extract_lets +onlyGivenNames x7
        have h8 : P x7 := State.modLp_sound hP (h2 _ h6); clear_value x7
        exact ite_sound (State.toActive_sound hP h8) h8
      · exact ite_sound (State.bertFail_sound hP (State.modLp_sound hP hs)) hs

theorem execTra2Received_sound (hP : Sound P) {p : Ch} {cap pid : BitVec 8} {sent16 : Bool} {s : State} (hs : P s) : ∃ s', execTra2Received p cap pid sent16 s = .next s' ∧ P s' := by
  unfold execTra2Received
  refine ⟨_, rfl, ?_⟩
  refine State.whenPort_sound hP (fun a0 h1 => ?_) ?_
  · exact State.tra2_sound hP h1
  · exact hs

theorem State.codeError_sound (hP : Sound P) {s : State} {p : Ch} {pos : Nat} (hs : P s) : P (State.codeError s p pos) := by
  unfold State.codeError
  refine ite_sound ?_ ?_
  · exact hs
  · extract_lets +onlyGivenNames x0
    have h1 : P x0 := State.modLp_sound hP (State.inc_sound hP hs); clear_value x0
    refine ite_sound ?_ ?_
    · extract_lets +onlyGivenNames x2
      have h3 : P x2 := State.modLp_sound hP h1; clear_value x2
      exact ite_sound (State.modLp_sound hP (State.portOut_sound hP h3)) h3
    · refine ite_sound ?_ ?_
      · extract_lets +onlyGivenNames x4; clear_value x4
        exact ite_sound (State.toRetrain_sound hP h1) (State.modLp_sound hP h1)
      · exact h1

theorem execCodeError_sound (hP : Sound P) {p : Ch} {pos : Nat} {v : BitVec 10} {rd place : Bool} {s : State} (hs : P s) : ∃ s', execCodeError p pos v rd place s = .next s' ∧ P s' := by
  unfold execCodeError
  refine ⟨_, rfl, ?_⟩
  refine State.whenPort_sound hP (fun a0 h1 => ?_) ?_
  · exact ite_sound (State.codeError_sound hP h1) h1
  · exact hs

theorem State.cutOut_sound (hP : Sound P) {s : State} {p : Ch} {ing : Nat} {k : Pkt} (hs : P s) : P (State.cutOut s p ing k) := by
  unfold State.cutOut
  refine ite_sound ?_ ?_
  · extract_lets +onlyGivenNames x0; clear_value x0
    exact State.transmit_sound hP (State.modLp_sound hP hs)
  · exact hs

theorem State.cutThrough_sound (hP : Sound P) {s : State} {p : Ch} {ws : List Word} (hs : P s) : P (State.cutThrough s p ws) := by
  unfold State.cutThrough
  split
  · exact hs
  · split
    · refine foldl_sound (fun a0 a1 h2 => ?_) _ ?_
      · refine dite_sound (fun _ => ?_) (fun _ => ?_)
        · exact State.cutOut_sound hP h2
        · exact h2
      · exact hs
    · exact hs

theorem State.packetIn_sound (hP : Sound P) {s : State} {p : Ch} {clean abort : Bool} {lseq : BitVec 16} {ws : List Word} {pos : Nat} (hs : P s) : P (State.packetIn s p clean abort lseq ws pos) := by
  unfold State.packetIn
  refine ite_sound ?_ ?_
  · exact hs
  · refine ite_sound ?_ ?_
    · exact ite_sound (State.cutThrough_sound hP hs) hs
    · extract_lets +onlyGivenNames x0
      have h1 : P x0 := ite_sound hs (State.codeError_sound hP hs); clear_value x0
      refine ite_sound ?_ ?_
      · exact h1
      · extract_lets +onlyGivenNames x2; clear_value x2
        extract_lets +onlyGivenNames x3; clear_value x3
        split
        · extract_lets +onlyGivenNames x4
          have h5 : P x4 := State.modLp_sound hP (State.wr_sound hP h1); clear_value x4
          exact State.route_sound hP h5
        · extract_lets +onlyGivenNames x6
          have h7 : P x6 := ite_sound (State.cutThrough_sound hP h1) h1; clear_value x6
          extract_lets +onlyGivenNames x8
          have h9 : P x8 := State.inc_sound hP h7; clear_value x8
          exact ite_sound (State.modLp_sound hP h9) (ite_sound h9 (State.modLp_sound hP h9))

theorem execPacketReceived_sound (hP : Sound P) {p : Ch} {clean abort : Bool} {lseq : BitVec 16} {ws : List (BitVec 32)} {pos : Nat} {s : State} (hs : P s) : ∃ s', execPacketReceived p clean abort lseq ws pos s = .next s' ∧ P s' := by
  unfold execPacketReceived
  refine ⟨_, rfl, ?_⟩
  refine State.whenPort_sound hP (fun a0 h1 => ?_) ?_
  · exact State.packetIn_sound hP h1
  · exact hs

theorem State.symbol_sound (hP : Sound P) {s : State} {p : Ch} {w : BitVec 16} {pos : Nat} {f : State → State} (hf1 : ∀ a0, P a0 → P (f a0)) (hs : P s) : P (State.symbol s p w pos f) := by
  unfold State.symbol
  exact ite_sound hs (ite_sound (hf1 _ hs) (State.codeError_sound hP hs))

theorem State.ackTo_sound (hP : Sound P) {s : State} {p : Ch} {n : Nat} (hs : P s) : P (State.ackTo s p n) := by
  unfold State.ackTo
  extract_lets +onlyGivenNames x0; clear_value x0
  refine ite_sound ?_ ?_
  · extract_lets +onlyGivenNames x1; clear_value x1
    exact State.showReplay_sound hP (State.wr_sound hP (State.setLp_sound hP hs))
  · exact hs

theorem execAckReceived_sound (hP : Sound P) {p : Ch} {w : BitVec 16} {pos : Nat} {s : State} (hs : P s) : ∃ s', execAckReceived p w pos s = .next s' ∧ P s' := by
  unfold execAckReceived
  refine ⟨_, rfl, ?_⟩
  refine State.whenPort_sound hP (fun a0 h1 => ?_) ?_
  · refine State.symbol_sound hP (fun a2 h3 => ?_) ?_
    · exact State.ackTo_sound hP h3
    · exact h1
  · exact hs

theorem State.replayStart_sound (hP : Sound P) {s : State} {p : Ch} (hs : P s) : P (State.replayStart s p) := by
  unfold State.replayStart
  extract_lets +onlyGivenNames x0; clear_value x0
  refine ite_sound ?_ ?_
  · exact hs
  · extract_lets +onlyGivenNames x1
    have h2 : P x1 := ite_sound (State.inc_sound hP hs) hs; clear_value x1
    extract_lets +onlyGivenNames x3
    have h4 : P x3 := State.inc_sound hP (State.modLp_sound hP h2); clear_value x3
    exact ite_sound (State.toRetrain_sound hP h4) h4

theorem execNakReceived_sound (hP : Sound P) {p : Ch} {w : BitVec 16} {pos : Nat} {s : State} (hs : P s) : ∃ s', execNakReceived p w pos s = .next s' ∧ P s' := by
  unfold execNakReceived
  refine ⟨_, rfl, ?_⟩
  refine State.whenPort_sound hP (fun a0 h1 => ?_) ?_
  · refine State.symbol_sound hP (fun a2 h3 => ?_) ?_
    · exact State.replayStart_sound hP (State.ackTo_sound hP (State.wr_sound hP h3))
    · exact h1
  · exact hs

theorem execCrdReceived_sound (hP : Sound P) {p : Ch} {w : BitVec 16} {pos : Nat} {s : State} (hs : P s) : ∃ s', execCrdReceived p w pos s = .next s' ∧ P s' := by
  unfold execCrdReceived
  refine ⟨_, rfl, ?_⟩
  refine State.whenPort_sound hP (fun a0 h1 => ?_) ?_
  · refine State.symbol_sound hP (fun a2 h3 => ?_) ?_
    · exact State.showCredits_sound hP (State.modLp_sound hP h3)
    · exact h1
  · exact hs

theorem execAckTransmit_sound (hP : Sound P) {p : Ch} {s : State} (hs : P s) : ∃ s', execAckTransmit p s = .next s' ∧ P s' := by
  unfold execAckTransmit
  refine ⟨_, rfl, ?_⟩
  refine State.whenPort_sound hP (fun a0 h1 => ?_) ?_
  · exact ite_sound (State.transmit_sound hP (State.modLp_sound hP h1)) h1
  · exact hs

theorem execNakTransmit_sound (hP : Sound P) {p : Ch} {s : State} (hs : P s) : ∃ s', execNakTransmit p s = .next s' ∧ P s' := by
  unfold execNakTransmit
  refine ⟨_, rfl, ?_⟩
  refine State.whenPort_sound hP (fun a0 h1 => ?_) ?_
  · exact ite_sound (State.inc_sound hP (State.transmit_sound hP (State.modLp_sound hP h1))) h1
  · exact hs

theorem execCreditUpdate_sound (hP : Sound P) {p : Ch} {v : Fin 4} {s : State} (hs : P s) : ∃ s', execCreditUpdate p v s = .next s' ∧ P s' := by
  unfold execCreditUpdate
  refine ⟨_, rfl, ?_⟩
  refine State.whenPort_sound hP (fun a0 h1 => ?_) ?_
  · exact ite_sound (State.sendCrd_sound hP h1) h1
  · exact hs

theorem execReplayTimeout_sound (hP : Sound P) {p : Ch} {s : State} (hs : P s) : ∃ s', execReplayTimeout p s = .next s' ∧ P s' := by
  unfold execReplayTimeout
  refine ⟨_, rfl, ?_⟩
  refine State.whenPort_sound hP (fun a0 h1 => ?_) ?_
  · exact ite_sound (State.replayStart_sound hP h1) h1
  · exact hs

theorem State.countFwd_sound (hP : Sound P) {s : State} {p : Ch} (hs : P s) : P (State.countFwd s p) := by
  unfold State.countFwd
  split
  · exact State.incWrap_sound hP hs
  · exact State.incWrap_sound hP hs
  · exact State.incWrap_sound hP hs
  · exact State.incWrap_sound hP hs

theorem State.startPacket_sound (hP : Sound P) {s : State} {p : Ch} {e : Egr} (hs : P s) : P (State.startPacket s p e) := by
  unfold State.startPacket
  extract_lets +onlyGivenNames x0; clear_value x0
  extract_lets +onlyGivenNames x1; clear_value x1
  extract_lets +onlyGivenNames x2; clear_value x2
  extract_lets +onlyGivenNames x3
  have h4 : P x3 := State.modLp_sound hP hs; clear_value x3
  extract_lets +onlyGivenNames x5
  have h6 : P x5 := State.showCredits_sound hP (State.showReplay_sound hP (State.wr_sound hP (State.transmit_sound hP h4))); clear_value x5
  extract_lets +onlyGivenNames x7
  have h8 : P x7 := ite_sound (State.countFwd_sound hP h6) h6; clear_value x7
  exact ite_sound (State.freed_sound hP h8) h8

theorem execPacketTransmitStart_sound (hP : Sound P) {p : Ch} {s : State} (hs : P s) : ∃ s', execPacketTransmitStart p s = .next s' ∧ P s' := by
  unfold execPacketTransmitStart
  refine ⟨_, rfl, ?_⟩
  refine State.whenPort_sound hP (fun a0 h1 => ?_) ?_
  · extract_lets +onlyGivenNames x2; clear_value x2
    refine ite_sound ?_ ?_
    · exact h1
    · split
      · exact State.transmit_sound hP (State.modLp_sound hP h1)
      · exact ite_sound (State.startPacket_sound hP h1) h1
      · exact h1
  · exact hs

theorem execBertSyncLoss_sound (hP : Sound P) {p : Ch} {m : List (BitVec 32)} {s : State} (hs : P s) : ∃ s', execBertSyncLoss p m s = .next s' ∧ P s' := by
  unfold execBertSyncLoss
  refine ⟨_, rfl, ?_⟩
  refine State.whenPort_sound hP (fun a0 h1 => ?_) ?_
  · exact ite_sound (State.bertFail_sound hP (State.toRetrain_sound hP (State.bertCounts_sound hP h1))) h1
  · exact hs

theorem execBertCheckerSynchronised_sound (hP : Sound P) {p : Ch} {s : State} (hs : P s) : ∃ s', execBertCheckerSynchronised p s = .next s' ∧ P s' := by
  unfold execBertCheckerSynchronised
  refine ⟨_, rfl, ?_⟩
  refine State.whenPort_sound hP (fun a0 h1 => ?_) ?_
  · exact ite_sound (State.wr_sound hP h1) h1
  · exact hs

theorem State.nowLatch_sound (hP : Sound P) {s : State} (hs : P s) : P (State.nowLatch s) := by
  unfold State.nowLatch
  exact State.wrs_sound hP hs

theorem State.timeSet_sound (hP : Sound P) {s : State} {v : Nat} (hs : P s) : P (State.timeSet s v) := by
  unfold State.timeSet
  exact ite_sound (State.wr_sound hP (hP.same s (State.base_eq rfl rfl rfl rfl rfl rfl rfl) hs)) (State.wr_sound hP hs)

theorem State.timeSetRegs_sound (hP : Sound P) {s : State} (hs : P s) : P (State.timeSetRegs s) := by
  unfold State.timeSetRegs
  exact State.timeSet_sound hP hs

theorem execTimeSet_sound (hP : Sound P) {s : State} (hs : P s) : ∃ s', execTimeSet s = .next s' ∧ P s' := by
  unfold execTimeSet
  refine ⟨_, rfl, ?_⟩
  exact State.timeSetRegs_sound hP hs

theorem State.timeCntClr_sound (hP : Sound P) {s : State} (hs : P s) : P (State.timeCntClr s) := by
  unfold State.timeCntClr
  exact State.wrs_sound hP hs

theorem execTimeCntClr_sound (hP : Sound P) {s : State} (hs : P s) : ∃ s', execTimeCntClr s = .next s' ∧ P s' := by
  unfold execTimeCntClr
  refine ⟨_, rfl, ?_⟩
  exact State.timeCntClr_sound hP hs

theorem State.reply_sound (hP : Sound P) {s : State} {k : Pkt} {status : Nat} {data : List Word} (hs : P s) : P (State.reply s k status data) := by
  unfold State.reply
  extract_lets +onlyGivenNames x0
  have h1 : P x0 := ite_sound (State.inc_sound hP hs) (ite_sound (State.inc_sound hP hs) hs); clear_value x0
  exact State.send_sound hP h1

theorem State.turnAway_sound (hP : Sound P) {s : State} {ing : Nat} {k : Pkt} {status : Nat} (hs : P s) : P (State.turnAway s ing k status) := by
  unfold State.turnAway
  exact ite_sound (ite_sound (State.dropNote_sound hP hs) hs) (State.reply_sound hP hs)

theorem execTimeNowLoRead_sound (hP : Sound P) {s : State} (hs : P s) : ∃ s', execTimeNowLoRead s = .next s' ∧ P s' := by
  unfold execTimeNowLoRead
  refine ⟨_, rfl, ?_⟩
  exact State.nowLatch_sound hP hs

theorem execTsyExchangeStart_sound (hP : Sound P) {s : State} (hs : P s) : ∃ s', execTsyExchangeStart s = .next s' ∧ P s' := by
  unfold execTsyExchangeStart
  refine ⟨_, rfl, ?_⟩
  refine State.whenLink_sound hP (fun a0 h1 => ?_) ?_
  · extract_lets +onlyGivenNames x2; subst x2
    refine ite_sound ?_ ?_
    · extract_lets +onlyGivenNames x3; clear_value x3
      exact State.transmit_sound hP (hP.same a0 (State.base_eq rfl rfl rfl rfl rfl rfl rfl) h1)
    · exact h1
  · exact hs

theorem State.tsyLapse_sound (hP : Sound P) {s : State} (hs : P s) : P (State.tsyLapse s) := by
  unfold State.tsyLapse
  refine ite_sound ?_ ?_
  · extract_lets +onlyGivenNames w0 x1
    have h2 : P x1 := by
      subst x1 w0
      exact hP.same s (State.base_eq rfl rfl rfl rfl rfl rfl rfl) hs
    try clear_value w0 x1
    extract_lets +onlyGivenNames x3
    have h4 : P x3 := State.wr_sound hP (State.inc_sound hP h2); try clear_value x3
    exact ite_sound (State.lockFall_sound hP h4) h4
  · exact hs

theorem State.tsyIn_sound (hP : Sound P) {s : State} {p : Ch} {b : BitVec 64} {pos kind : Nat} {f : State → State} (hf1 : ∀ a0, P a0 → P (f a0)) (hs : P s) : P (State.tsyIn s p b pos kind f) := by
  unfold State.tsyIn
  refine ite_sound ?_ ?_
  · exact hs
  · refine ite_sound ?_ ?_
    · extract_lets +onlyGivenNames x0
      have h1 : P x0 := State.codeError_sound hP hs; clear_value x0
      exact ite_sound (State.tsyLapse_sound hP h1) h1
    · exact ite_sound (hf1 _ hs) hs

theorem execTsyReqReceived_sound (hP : Sound P) {p : Ch} {b : BitVec 64} {pos : Nat} {s : State} (hs : P s) : ∃ s', execTsyReqReceived p b pos s = .next s' ∧ P s' := by
  unfold execTsyReqReceived
  refine ⟨_, rfl, ?_⟩
  refine State.whenPort_sound hP (fun a0 h1 => ?_) ?_
  · refine State.tsyIn_sound hP (fun a2 h3 => ?_) ?_
    · exact State.modLp_sound hP h3
    · exact h1
  · exact hs

theorem execTsyRspTransmit_sound (hP : Sound P) {p : Ch} {s : State} (hs : P s) : ∃ s', execTsyRspTransmit p s = .next s' ∧ P s' := by
  unfold execTsyRspTransmit
  refine ⟨_, rfl, ?_⟩
  refine State.whenPort_sound hP (fun a0 h1 => ?_) ?_
  · split
    · extract_lets +onlyGivenNames x2; clear_value x2
      exact ite_sound (State.modLp_sound hP h1) (State.transmit_sound hP (State.modLp_sound hP h1))
    · exact h1
  · exact hs

theorem execTsyEpochTransmit_sound (hP : Sound P) {p : Ch} {s : State} (hs : P s) : ∃ s', execTsyEpochTransmit p s = .next s' ∧ P s' := by
  unfold execTsyEpochTransmit
  refine ⟨_, rfl, ?_⟩
  refine State.whenPort_sound hP (fun a0 h1 => ?_) ?_
  · split
    · exact State.transmit_sound hP (State.modLp_sound hP h1)
    · exact h1
  · exact hs

theorem execTsyRspReceived_sound (hP : Sound P) {p : Ch} {b : BitVec 64} {pos : Nat} {s : State} (hs : P s) : ∃ s', execTsyRspReceived p b pos s = .next s' ∧ P s' := by
  unfold execTsyRspReceived
  refine ⟨_, rfl, ?_⟩
  refine State.whenPort_sound hP (fun a0 h1 => ?_) ?_
  · refine State.tsyIn_sound hP (fun a2 h3 => ?_) ?_
    · exact ite_sound (hP.same a2 (State.base_eq rfl rfl rfl rfl rfl rfl rfl) h3) h3
    · exact h1
  · exact hs

theorem State.stepCanopy_sound (hP : Sound P) {s : State} {d : ℤ} (hs : P s) : P (State.stepCanopy s d) := by
  unfold State.stepCanopy
  exact State.wr_sound hP (hP.same s (State.base_eq rfl rfl rfl rfl rfl rfl rfl) hs)

theorem State.servoStep_sound (hP : Sound P) {s : State} {o : ℤ} (hs : P s) : P (State.servoStep s o) := by
  unfold State.servoStep
  extract_lets +onlyGivenNames x0
  have h1 : P x0 := State.wr_sound hP (State.stepCanopy_sound hP hs); clear_value x0
  exact State.lockFall_sound hP (hP.same x0 (State.base_eq rfl rfl rfl rfl rfl rfl rfl) h1)

theorem State.servoTrack_sound (hP : Sound P) {s : State} {p : Ch} {o : ℤ} (hs : P s) : P (State.servoTrack s p o) := by
  unfold State.servoTrack
  extract_lets +onlyGivenNames x0; clear_value x0
  extract_lets +onlyGivenNames x1; clear_value x1
  extract_lets +onlyGivenNames x2; clear_value x2
  extract_lets +onlyGivenNames x3; clear_value x3
  extract_lets +onlyGivenNames x4; clear_value x4
  extract_lets +onlyGivenNames x5; clear_value x5
  extract_lets +onlyGivenNames w6 x7
  have h8 : P x7 := by
    subst x7 w6
    exact State.wr_sound hP (hP.same s (State.base_eq rfl rfl rfl rfl rfl rfl rfl) hs)
  clear_value w6 x7
  exact ite_sound (State.lockFall_sound hP h8) (ite_sound (State.lockRise_sound hP h8) h8)

theorem State.servo_sound (hP : Sound P) {s : State} {p : Ch} {o d : ℤ} (hs : P s) : P (State.servo s p o d) := by
  unfold State.servo
  extract_lets +onlyGivenNames x0
  have h1 : P x0 := State.incWrap_sound hP (State.wrs_sound hP hs); clear_value x0
  extract_lets +onlyGivenNames w2 x3
  have h4 : P x3 := by
    subst x3 w2
    exact hP.same x0 (State.base_eq rfl rfl rfl rfl rfl rfl rfl) h1
  clear_value w2 x3
  exact ite_sound (State.servoStep_sound hP h4) (State.servoTrack_sound hP h4)

theorem execTsyEpochReceived_sound (hP : Sound P) {p : Ch} {b : BitVec 64} {pos : Nat} {s : State} (hs : P s) : ∃ s', execTsyEpochReceived p b pos s = .next s' ∧ P s' := by
  unfold execTsyEpochReceived
  refine ⟨_, rfl, ?_⟩
  refine State.whenPort_sound hP (fun a0 h1 => ?_) ?_
  · refine State.tsyIn_sound hP (fun a2 h3 => ?_) ?_
    · split
      · extract_lets +onlyGivenNames x4; clear_value x4
        extract_lets +onlyGivenNames x5; clear_value x5
        extract_lets +onlyGivenNames x6; clear_value x6
        exact State.servo_sound hP h3
      · exact h3
    · exact h1
  · exact hs

theorem execTsyExchangeLapse_sound (hP : Sound P) {s : State} (hs : P s) : ∃ s', execTsyExchangeLapse s = .next s' ∧ P s' := by
  unfold execTsyExchangeLapse
  refine ⟨_, rfl, ?_⟩
  exact State.settleAll_sound hP (State.tsyLapse_sound hP hs)

theorem execFaultRecord_sound (hP : Sound P) {s : State} (hs : P s) : ∃ s', execFaultRecord s = .next s' ∧ P s' := by
  unfold execFaultRecord
  refine ⟨_, rfl, ?_⟩
  refine State.whenLink_sound hP (fun a0 h1 => ?_) ?_
  · split
    · exact h1
    · rename_i y2 y3 y4 e5
      have h6 : P y4 := by
        refine State.takeWhere_sound hP ?_ e5
        exact h1
      exact ite_sound (State.wr_sound hP (hP.same y4 (State.base_eq rfl rfl rfl rfl rfl rfl rfl) h6)) (State.wr_sound hP h6)
  · exact hs

theorem execTsyncQuery_sound (hP : Sound P) {s : State} (hs : P s) : ∃ s', execTsyncQuery s = .next s' ∧ P s' := by
  unfold execTsyncQuery
  refine ⟨_, rfl, ?_⟩
  refine State.whenLink_sound hP (fun a0 h1 => ?_) ?_
  · split
    · exact h1
    · rename_i y2 y3 y4 e5
      have h6 : P y4 := by
        refine State.takeWhere_sound hP ?_ e5
        exact h1
      exact ite_sound (State.settleAll_sound hP (State.turnAway_sound hP h6)) (State.reply_sound hP h6)
  · exact hs

theorem execTsyncSet_sound (hP : Sound P) {s : State} (hs : P s) : ∃ s', execTsyncSet s = .next s' ∧ P s' := by
  unfold execTsyncSet
  refine ⟨_, rfl, ?_⟩
  refine State.whenLink_sound hP (fun a0 h1 => ?_) ?_
  · split
    · exact h1
    · rename_i y2 y3 y4 e5
      have h6 : P y4 := by
        refine State.takeWhere_sound hP ?_ e5
        exact h1
      extract_lets +onlyGivenNames x7; clear_value x7
      refine ite_sound ?_ ?_
      · exact State.turnAway_sound hP h6
      · refine ite_sound ?_ ?_
        · extract_lets +onlyGivenNames x8
          have h9 : P x8 := State.timeSetRegs_sound hP (State.wrs_sound hP h6); clear_value x8
          exact ite_sound h9 (State.reply_sound hP h9)
        · exact ite_sound h6 (State.reply_sound hP h6)
  · exact hs

theorem State.haltPacket_sound (hP : Sound P) {s : State} {op : Nat} {f : State → State} (hf1 : ∀ a0, P a0 → P (f a0)) (hs : P s) : P (State.haltPacket s op f) := by
  unfold State.haltPacket
  split
  · exact hs
  · rename_i y0 y1 y2 e3
    have h4 : P y2 := by
      refine State.takeWhere_sound hP ?_ e3
      exact hs
    exact ite_sound (State.turnAway_sound hP h4) (hf1 _ h4)

theorem execHaltPacketAssert_sound (hP : Sound P) {s : State} (hs : P s) : ∃ s', execHaltPacketAssert s = .next s' ∧ P s' := by
  unfold execHaltPacketAssert
  refine ⟨_, rfl, ?_⟩
  refine State.whenLink_sound hP (fun a0 h1 => ?_) ?_
  · refine State.haltPacket_sound hP (fun a2 h3 => ?_) ?_
    · exact State.swHalt_sound hP h3
    · exact h1
  · exact hs

theorem execHaltPacketRelease_sound (hP : Sound P) {s : State} (hs : P s) : ∃ s', execHaltPacketRelease s = .next s' ∧ P s' := by
  unfold execHaltPacketRelease
  refine ⟨_, rfl, ?_⟩
  refine State.whenLink_sound hP (fun a0 h1 => ?_) ?_
  · refine State.haltPacket_sound hP (fun a2 h3 => ?_) ?_
    · exact State.release_sound hP h3
    · exact h1
  · exact hs

theorem execSyncOutPulse_sound (hP : Sound P) {s : State} (hs : P s) : ∃ s', execSyncOutPulse s = .next s' ∧ P s' := by
  unfold execSyncOutPulse
  refine ⟨_, rfl, ?_⟩
  exact ite_sound (hP.same s (State.base_eq rfl rfl rfl rfl rfl rfl rfl) hs) hs

end Sys2Proof.Machine
end

