-- ==== Sys2Proof/Laws/SoundChan.lean ====
section
/-! SUPPORT. Power manager, jobs, Grove commands, Ranger, channels and stands keep what `Sound` names: one lemma per operation. -/

namespace Sys2Proof.Machine

variable {P : State → Prop}

theorem State.devRst_sound (hP : Sound P) {s : State} {key : Nat} (hs : P s) : P (State.devRst s key) := by
  unfold State.devRst
  refine ite_sound ?_ ?_
  · extract_lets +onlyGivenNames x0
    have h1 : P x0 := State.wr_sound hP hs; clear_value x0
    exact hP.same x0 (State.base_eq rfl rfl rfl rfl rfl rfl rfl) h1
  · exact hs

theorem execDevrst_sound (hP : Sound P) {key : BitVec 8} {s : State} (hs : P s) : ∃ s', execDevrst key s = .next s' ∧ P s' := by
  unfold execDevrst
  refine ⟨_, rfl, ?_⟩
  exact State.devRst_sound hP hs

theorem State.refuse_sound (hP : Sound P) {s : State} {d : Nat} {up : Bool} {cause : Nat} (hs : P s) : P (State.refuse s d up cause) := by
  unfold State.refuse
  exact State.wrs_sound hP hs

theorem State.standby_sound (hP : Sound P) {s : State} {key : Nat} {wakeHigh : Bool} {sig : Nat} (hs : P s) : P (State.standby s key wakeHigh sig) := by
  unfold State.standby
  refine ite_sound ?_ ?_
  · exact hs
  · extract_lets +onlyGivenNames x0; clear_value x0
    refine ite_sound ?_ ?_
    · exact State.refuse_sound hP hs
    · extract_lets +onlyGivenNames x1
      have h2 : P x1 := State.wrs_sound hP hs; clear_value x1
      exact hP.same x1 (State.base_eq rfl rfl rfl rfl rfl rfl rfl) h2

theorem execStandby_sound (hP : Sound P) {key : BitVec 8} {wakeHigh : Bool} {sig : BitVec 4} {s : State} (hs : P s) : ∃ s', execStandby key wakeHigh sig s = .next s' ∧ P s' := by
  unfold execStandby
  refine ⟨_, rfl, ?_⟩
  exact State.standby_sound hP hs

theorem State.domRequest_sound (hP : Sound P) {s : State} {up : Bool} {w : Nat} (hs : P s) : P (State.domRequest s up w) := by
  unfold State.domRequest
  refine ite_sound ?_ ?_
  · exact hs
  · extract_lets +onlyGivenNames x0; clear_value x0
    refine foldl_sound (fun a1 a2 h3 => ?_) _ ?_
    · refine ite_sound ?_ ?_
      · extract_lets +onlyGivenNames x4
        have h5 : P x4 := State.orBits_sound hP h3; clear_value x4
        exact hP.same x4 (State.base_eq rfl rfl rfl rfl rfl rfl rfl) h5
      · exact h3
    · exact hs

theorem execDomOn_sound (hP : Sound P) {w : BitVec 8} {s : State} (hs : P s) : ∃ s', execDomOn w s = .next s' ∧ P s' := by
  unfold execDomOn
  refine ⟨_, rfl, ?_⟩
  exact State.domRequest_sound hP hs

theorem execDomOff_sound (hP : Sound P) {w : BitVec 8} {s : State} (hs : P s) : ∃ s', execDomOff w s = .next s' ∧ P s' := by
  unfold execDomOff
  refine ⟨_, rfl, ?_⟩
  exact State.domRequest_sound hP hs

theorem execVdrvRegEnWrite_sound (hP : Sound P) {b : Bool} {s : State} (hs : P s) : ∃ s', execVdrvRegEnWrite b s = .next s' ∧ P s' := by
  unfold execVdrvRegEnWrite
  refine ⟨_, rfl, ?_⟩
  exact ite_sound (State.wrDenied_sound hP hs) (State.wrs_sound hP hs)

theorem State.shown_sound (hP : Sound P) {s : State} {keepRef : Bool} {t : State} (hs : P t) : P (State.shown s keepRef t) := by
  unfold State.shown
  extract_lets +onlyGivenNames x0 x1 x2
  have h0 : P x0 := State.wrs_sound hP hs
  clear_value x0
  have h1 : P x1 := State.wrs_sound hP h0
  clear_value x1
  have h2 : P x2 := ite_sound (State.wrs_sound hP h1) h1
  clear_value x2
  exact State.setWord_sound hP (State.setWord_sound hP h2)

theorem State.coreReset_sound (hP : Sound P) {s : State} {mode : PMode} {cause step : Nat} {keep : Bool} (hs : P s) :
    P (State.coreReset s mode cause step keep) := by
  unfold State.coreReset
  refine State.otpLatched_sound hP (State.shown_sound hP ?_)
  have h := hP.reset (fun e => (decide (0x302200 ≤ e.1) && decide (e.1 < 0x302210)) ||
    (keep && decide (0x380000 ≤ e.1) && decide (e.1 < 0x388000))) hs
  refine hP.same _ ?_ h
  exact State.base_eq rfl rfl rfl rfl rfl rfl rfl

theorem State.resetBy_sound (hP : Sound P) {s : State} {c step : Nat} {keep : Bool} (hs : P s) : P (State.resetBy s c step keep) := by
  unfold State.resetBy
  exact State.coreReset_sound hP (hP.same s.otpCut (State.base_eq rfl rfl rfl rfl rfl rfl rfl) (State.otpCut_sound hP hs))

theorem State.entryAbort_sound (hP : Sound P) {s : State} (hs : P s) : P (State.entryAbort s) := by
  unfold State.entryAbort
  extract_lets +onlyGivenNames x0
  have h1 : P x0 := State.wrs_sound hP hs; clear_value x0
  exact hP.same x0 (State.base_eq rfl rfl rfl rfl rfl rfl rfl) h1

theorem State.wake_sound (hP : Sound P) {s : State} {code b : Nat} (hs : P s) : P (State.wake s code b) := by
  unfold State.wake
  refine ite_sound ?_ ?_
  · exact hs
  · split
    · exact State.resetBy_sound hP (hP.same s (State.base_eq rfl rfl rfl rfl rfl rfl rfl) hs)
    · exact ite_sound (hP.same s (State.base_eq rfl rfl rfl rfl rfl rfl rfl) hs) (State.entryAbort_sound hP (hP.same s (State.base_eq rfl rfl rfl rfl rfl rfl rfl) hs))
    · refine ite_sound ?_ ?_
      · extract_lets +onlyGivenNames x0; clear_value x0
        extract_lets +onlyGivenNames x1; clear_value x1
        exact State.setWord_sound hP (hP.same s (State.base_eq rfl rfl rfl rfl rfl rfl rfl) hs)
      · exact hs
    · exact hs

theorem State.deviceReset_sound (hP : Sound P) {s : State} {cause : Nat} (hs : P s) : P (State.deviceReset s cause) := by
  unfold State.deviceReset
  exact State.resetBy_sound hP hs

theorem State.clockReset_sound (hP : Sound P) {s : State} {cause : Nat} (hs : P s) : P (State.clockReset s cause) := by
  unfold State.clockReset
  exact State.deviceReset_sound hP hs

theorem State.fallback_sound (hP : Sound P) {s : State} (hs : P s) : P (State.fallback s) := by
  unfold State.fallback
  refine ite_sound ?_ ?_
  · exact hs
  · extract_lets +onlyGivenNames x0; clear_value x0
    extract_lets +onlyGivenNames x1
    have h2 : P x1 := State.wrs_sound hP hs; clear_value x1
    extract_lets +onlyGivenNames x3
    have h4 : P x3 := by
      subst x3
      refine State.forCh_sound hP (fun a5 a6 h7 => ?_) ?_
      · refine State.whenCh_sound hP (fun a8 h9 => ?_) ?_
        · exact State.toState_sound hP (State.chJobsFail_sound hP h9)
        · exact h7
      · exact h2
    clear_value x3
    exact State.condSet_sound hP h4

theorem State.hold_sound (hP : Sound P) {s : State} {cause : Nat} (hs : P s) : P (State.hold s cause) := by
  unfold State.hold
  exact ite_sound hs (hP.same s (State.base_eq rfl rfl rfl rfl rfl rfl rfl) hs)

theorem execSupplyGood_sound (hP : Sound P) {k : Fin 5} {s : State} (hs : P s) : ∃ s', execSupplyGood k s = .next s' ∧ P s' := by
  unfold execSupplyGood
  refine ⟨_, rfl, ?_⟩
  exact ite_sound hs (State.orBits_sound hP hs)

theorem State.powerOn_sound (hP : Sound P) {s : State} (hs : P s) : P (State.powerOn s) := by
  unfold State.powerOn
  have h := hP.reset (fun _ => false) (State.otpCut_sound hP hs)
  rw [List.filter_false] at h
  refine State.clrBits_sound hP (State.shown_sound hP (hP.same _ ?_ h))
  exact State.base_eq rfl rfl rfl rfl rfl rfl rfl

theorem State.causeToo_sound (hP : Sound P) {s : State} {c : Nat} (hs : P s) : P (State.causeToo s c) := by
  unfold State.causeToo
  exact ite_sound (State.setWord_sound hP (hP.same s (State.base_eq rfl rfl rfl rfl rfl rfl rfl) hs)) hs

theorem execSupplyFail_sound (hP : Sound P) {k : Fin 5} {s : State} (hs : P s) : ∃ s', execSupplyFail k s = .next s' ∧ P s' := by
  unfold execSupplyFail
  refine ⟨_, rfl, ?_⟩
  refine ite_sound ?_ ?_
  · exact State.powerOn_sound hP hs
  · refine ite_sound ?_ ?_
    · exact hs
    · extract_lets +onlyGivenNames x0
      have h1 : P x0 := State.clrBits_sound hP hs; clear_value x0
      exact ite_sound h1 (ite_sound (State.causeToo_sound hP h1) (State.resetBy_sound hP h1))

theorem execPowerOnReset_sound (hP : Sound P) {s : State} (hs : P s) : ∃ s', execPowerOnReset s = .next s' ∧ P s' := by
  unfold execPowerOnReset
  refine ⟨_, rfl, ?_⟩
  exact State.powerOn_sound hP hs

theorem execResetNLow_sound (hP : Sound P) {s : State} (hs : P s) : ∃ s', execResetNLow s = .next s' ∧ P s' := by
  unfold execResetNLow
  refine ⟨_, rfl, ?_⟩
  extract_lets +onlyGivenNames w0 x1
  have h2 : P x1 := by
    subst x1 w0
    exact hP.same s (State.base_eq rfl rfl rfl rfl rfl rfl rfl) hs
  clear_value w0 x1
  exact ite_sound (State.deviceReset_sound hP h2) (ite_sound (State.setWord_sound hP (hP.same x1 (State.base_eq rfl rfl rfl rfl rfl rfl rfl) h2)) h2)

theorem execResetNHigh_sound (hP : Sound P) {s : State} (hs : P s) : ∃ s', execResetNHigh s = .next s' ∧ P s' := by
  unfold execResetNHigh
  refine ⟨_, rfl, ?_⟩
  exact hP.same s (State.base_eq rfl rfl rfl rfl rfl rfl rfl) hs

theorem execSoftwareReset_sound (hP : Sound P) {s : State} (hs : P s) : ∃ s', execSoftwareReset s = .next s' ∧ P s' := by
  unfold execSoftwareReset
  refine ⟨_, rfl, ?_⟩
  exact ite_sound (State.deviceReset_sound hP hs) hs

theorem State.bootDone_sound (hP : Sound P) {s : State} {pinHigh : Bool} (hs : P s) : P (State.bootDone s pinHigh) := by
  unfold State.bootDone
  extract_lets +onlyGivenNames x0
  have h1 : P x0 := State.wrs_sound hP hs; clear_value x0
  extract_lets +onlyGivenNames w2 x3
  have h4 : P x3 := by
    subst x3 w2
    exact State.haltPin_sound hP (hP.same x0 (State.base_eq rfl rfl rfl rfl rfl rfl rfl) h1)
  clear_value w2 x3
  exact ite_sound (State.haltAssert_sound hP h4) h4

theorem State.bootOn_sound (hP : Sound P) {s : State} {d : Nat} (hs : P s) : P (State.bootOn s d) := by
  unfold State.bootOn
  exact hP.same s (State.base_eq rfl rfl rfl rfl rfl rfl rfl) hs

theorem State.bootPlan_sound (hP : Sound P) {s : State} {k : Nat} (hs : P s) : P (State.bootPlan s k) := by
  unfold State.bootPlan
  extract_lets +onlyGivenNames x0; clear_value x0
  extract_lets +onlyGivenNames x1; clear_value x1
  refine ite_sound ?_ ?_
  · refine foldl_sound (fun a2 a3 h4 => ?_) _ ?_
    · exact ite_sound (State.bootOn_sound hP h4) h4
    · exact hs
  · exact ite_sound (ite_sound (State.bootOn_sound hP hs) hs) (ite_sound (ite_sound (State.bootOn_sound hP hs) hs) (ite_sound (ite_sound (State.bootOn_sound hP hs) hs) hs))

theorem State.stepDone_sound (hP : Sound P) {s : State} {k : Nat} (hs : P s) : P (State.stepDone s k) := by
  have h (x : State) (p : Pwr) (hx : P x) : P { x with pwr := p } := hP.same x (State.base_eq rfl rfl rfl rfl rfl rfl rfl) hx
  have h1 := State.bootPlan_sound hP (s := { s.wr R.SYS_BOOT_STEP 0 k with pwr.step := k }) (k := k) (h _ _ (State.wr_sound hP hs))
  exact ite_sound (h _ _ h1) (ite_sound (State.bootPlan_sound hP (h _ _ h1)) h1)

theorem State.bootEffect_sound (hP : Sound P) {s : State} {k : Nat} {m : List Nat} (hs : P s) : P (State.bootEffect s k m) := by
  unfold State.bootEffect
  split
  · exact State.otpDirect_sound hP hs
  · extract_lets +onlyGivenNames x0; clear_value x0
    extract_lets +onlyGivenNames x1
    have h2 : P x1 := State.wr_sound hP hs; clear_value x1
    exact hP.same x1 (State.base_eq rfl rfl rfl rfl rfl rfl rfl) h2
  · exact ite_sound (State.wrs_sound hP hs) hs
  · exact ite_sound hs (State.raise_sound hP hs)
  · exact State.patchBoot_sound hP hs
  · exact State.otpSense_sound hP hs
  · exact State.otpStep11_sound hP hs
  · exact ite_sound (State.otpCan_sound hP hs) hs
  · exact hs

theorem execBootStepComplete_sound (hP : Sound P) {m : List Nat} {pinHigh : Bool} {s : State} (hs : P s) : ∃ s', execBootStepComplete m pinHigh s = .next s' ∧ P s' := by
  unfold execBootStepComplete
  refine ⟨_, rfl, ?_⟩
  extract_lets +onlyGivenNames x0; clear_value x0
  exact ite_sound (State.settleAll_sound hP (ite_sound (State.bootDone_sound hP hs) (State.stepDone_sound hP (State.bootEffect_sound hP hs)))) hs

theorem execBootStepTimeout_sound (hP : Sound P) {s : State} (hs : P s) : ∃ s', execBootStepTimeout s = .next s' ∧ P s' := by
  unfold execBootStepTimeout
  refine ⟨_, rfl, ?_⟩
  extract_lets +onlyGivenNames x0; clear_value x0
  refine ite_sound ?_ ?_
  · extract_lets +onlyGivenNames w1 w2 x3
    have h4 : P x3 := by
      subst x3 w2 w1
      have b5 : P (State.orBits s R.SYS_BOOT_LATE_LATE 0 (2 ^ (x0 - 1))) := by
        exact State.orBits_sound hP hs
      generalize (State.orBits s R.SYS_BOOT_LATE_LATE 0 (2 ^ (x0 - 1))) = b6 at b5 ⊢
      exact hP.same b6 (State.base_eq rfl rfl rfl rfl rfl rfl rfl) b5
    clear_value w1 w2 x3
    extract_lets +onlyGivenNames x7
    have h8 : P x7 := ite_sound (State.raise_sound hP h4) h4; clear_value x7
    exact State.settleAll_sound hP (ite_sound (State.stepDone_sound hP h8) h8)
  · exact hs

theorem execBuckSoftstartTimeout_sound (hP : Sound P) {s : State} (hs : P s) : ∃ s', execBuckSoftstartTimeout s = .next s' ∧ P s' := by
  unfold execBuckSoftstartTimeout
  refine ⟨_, rfl, ?_⟩
  exact ite_sound (hP.same s (State.base_eq rfl rfl rfl rfl rfl rfl rfl) hs) hs

theorem execBuckRestart_sound (hP : Sound P) {s : State} (hs : P s) : ∃ s', execBuckRestart s = .next s' ∧ P s' := by
  unfold execBuckRestart
  refine ⟨_, rfl, ?_⟩
  exact hP.same s (State.base_eq rfl rfl rfl rfl rfl rfl rfl) hs

theorem execReferenceGood_sound (hP : Sound P) {s : State} (hs : P s) : ∃ s', execReferenceGood s = .next s' ∧ P s' := by
  unfold execReferenceGood
  refine ⟨_, rfl, ?_⟩
  exact ite_sound (State.wr_sound hP hs) hs

theorem execReferenceFallback_sound (hP : Sound P) {s : State} (hs : P s) : ∃ s', execReferenceFallback s = .next s' ∧ P s' := by
  unfold execReferenceFallback
  refine ⟨_, rfl, ?_⟩
  exact ite_sound (State.settleAll_sound hP (State.fallback_sound hP hs)) hs

theorem execPllLocked_sound (hP : Sound P) {k : Fin 3} {s : State} (hs : P s) : ∃ s', execPllLocked k s = .next s' ∧ P s' := by
  unfold execPllLocked
  refine ⟨_, rfl, ?_⟩
  refine ite_sound ?_ ?_
  · exact ite_sound (State.settleAll_sound hP (State.condSet_sound hP (State.wr_sound hP hs))) hs
  · exact ite_sound hs (ite_sound (State.wrs_sound hP hs) (State.settleAll_sound hP (State.timeSource_sound hP (State.condSet_sound hP (State.wr_sound hP hs)))))

theorem execPllUnlock_sound (hP : Sound P) {k : Fin 3} {s : State} (hs : P s) : ∃ s', execPllUnlock k s = .next s' ∧ P s' := by
  unfold execPllUnlock
  refine ⟨_, rfl, ?_⟩
  refine ite_sound ?_ ?_
  · exact ite_sound (State.clockReset_sound hP hs) hs
  · refine ite_sound ?_ ?_
    · refine ite_sound ?_ ?_
      · extract_lets +onlyGivenNames x0
        have h1 : P x0 := State.wrs_sound hP hs; clear_value x0
        exact State.settleAll_sound hP (State.timeSource_sound hP (State.safeAll_sound hP (State.condSet_sound hP h1)))
      · exact hs
    · refine ite_sound ?_ ?_
      · extract_lets +onlyGivenNames x2
        have h3 : P x2 := State.condSet_sound hP (State.wrs_sound hP hs); clear_value x2
        refine State.settleAll_sound hP ?_
        refine State.forCh_sound hP (fun a4 a5 h6 => ?_) ?_
        · refine State.whenPort_sound hP (fun a7 h8 => ?_) ?_
          · exact ite_sound h8 (State.portOut_sound hP h8)
          · exact h6
        · exact h3
      · exact hs

theorem State.reqDone_sound (hP : Sound P) {s : State} {d : Nat} {up : Bool} (hs : P s) : P (State.reqDone s d up) := by
  unfold State.reqDone
  exact ite_sound (State.clrBits_sound hP hs) (State.clrBits_sound hP hs)

theorem State.otpwRefused_sound (hP : Sound P) {s : State} (hs : P s) : P (State.otpwRefused s) := by
  unfold State.otpwRefused
  split
  · exact State.jobFail_sound hP hs
  · exact hs

theorem State.dropConds_sound (hP : Sound P) {s : State} {n : Ch} (hs : P s) : P (State.dropConds s n) := by
  unfold State.dropConds
  refine foldl_sound (fun a0 a1 h2 => ?_) _ ?_
  · exact ite_sound (State.condOffCh_sound hP h2) h2
  · exact hs

theorem State.domLeave_sound (hP : Sound P) {s : State} {d : Nat} (hs : P s) : P (State.domLeave s d) := by
  unfold State.domLeave
  refine dite_sound (fun _ => ?_) (fun _ => ?_)
  · extract_lets +onlyGivenNames x0; subst x0; exact State.dropConds_sound hP (State.jobsFail_sound hP hs)
  · refine ite_sound ?_ ?_
    · extract_lets +onlyGivenNames x1
      have h2 : P x1 := State.jobsFail_sound hP hs; clear_value x1
      extract_lets +onlyGivenNames x3
      have h4 : P x3 := State.noRoute_sound hP (State.enumStop_sound hP h2); clear_value x3
      refine State.forCh_sound hP (fun a5 a6 h7 => ?_) ?_
      · exact ite_sound h7 (State.portOut_sound hP h7)
      · exact h4
    · exact ite_sound (State.condSet_sound hP (State.condSet_sound hP (State.condSet_sound hP hs))) hs

theorem State.domClear_sound (hP : Sound P) {s : State} {d : Nat} (hs : P s) : P (State.domClear s d) := by
  have h0 : P (s.resetPages fun p => pageDom p == some d) := State.resetPages_sound hP hs
  unfold State.domClear
  extract_lets x
  have h1 : P x := h0
  clear_value x
  refine dite_sound (fun _ => ?_) (fun _ => ?_)
  · exact State.setCh_safe hP (by decide) (State.clearMem_sound hP (State.clearMem_sound hP h1))
  · refine ite_sound ?_ (ite_sound ?_ (ite_sound (State.clearMem_sound hP h1) h1))
    · have h (x : State) (l) (q) (f) (hx : P x) : P { x with link := l, inq := q, fab := f } :=
        hP.same x (State.base_eq rfl rfl rfl rfl rfl rfl rfl) hx
      exact h _ _ _ _ (State.wr_sound hP h1)
    · exact hP.same x (State.base_eq rfl rfl rfl rfl rfl rfl rfl) h1

theorem State.domDown_sound (hP : Sound P) {s : State} {d : Nat} (hs : P s) : P (State.domDown s d) := by
  unfold State.domDown
  extract_lets +onlyGivenNames x0
  have h1 : P x0 := State.domLeave_sound hP hs; clear_value x0
  exact State.settleAll_sound hP (State.domClear_sound hP (State.clrBits_sound hP h1))

theorem State.transStart_sound (hP : Sound P) {s : State} {d : Nat} {up job : Bool} (hs : P s) : P (State.transStart s d up job) := by
  unfold State.transStart
  extract_lets +onlyGivenNames w0 w1 x2
  have h3 : P x2 := by
    subst x2 w1 w0
    have b4 : P (State.wrs s 0   [(R.PWR_STATUS_BUSY, 1), (R.PWR_DOM_STATE_BUSY, 2 ^ d)]) := by
      exact State.wrs_sound hP hs
    generalize (State.wrs s 0   [(R.PWR_STATUS_BUSY, 1), (R.PWR_DOM_STATE_BUSY, 2 ^ d)]) = b5 at b4 ⊢
    exact hP.same b5 (State.base_eq rfl rfl rfl rfl rfl rfl rfl) b4
  clear_value w0 w1 x2
  exact ite_sound h3 (State.domDown_sound hP h3)

theorem execDomainTransitionStart_sound (hP : Sound P) {s : State} (hs : P s) : ∃ s', execDomainTransitionStart s = .next s' ∧ P s' := by
  unfold execDomainTransitionStart
  refine ⟨_, rfl, ?_⟩
  split
  · exact hs
  · refine ite_sound ?_ ?_
    · exact hs
    · extract_lets +onlyGivenNames x0
      have h1 : P x0 := hP.same s (State.base_eq rfl rfl rfl rfl rfl rfl rfl) hs; try clear_value x0
      extract_lets +onlyGivenNames x2; try clear_value x2
      refine ite_sound ?_ ?_
      · exact State.reqDone_sound hP h1
      · refine ite_sound ?_ ?_
        · extract_lets +onlyGivenNames x3
          have h4 : P x3 := State.refuse_sound hP (State.reqDone_sound hP h1); try clear_value x3
          exact ite_sound (State.otpwRefused_sound hP h4) h4
        · exact State.transStart_sound hP h1

theorem State.entryCheck_sound (hP : Sound P) {s : State} (hs : P s) : P (State.entryCheck s) := by
  unfold State.entryCheck
  exact ite_sound (State.entryAbort_sound hP hs) hs

theorem State.readyOffsets_sound (hP : Sound P) {s : State} {d : Nat} {a b c : ℤ} (hs : P s) : P (State.readyOffsets s d a b c) := by
  unfold State.readyOffsets
  refine dite_sound (fun _ => ?_) (fun _ => ?_)
  · exact State.putOffsets_sound hP hs
  · exact hs

theorem State.domUp_sound (hP : Sound P) {s : State} {d : Nat} (hs : P s) : P (State.domUp s d) := by
  unfold State.domUp
  extract_lets +onlyGivenNames x0
  have h1 : P x0 := State.orBits_sound hP hs; clear_value x0
  refine ite_sound ?_ ?_
  · extract_lets +onlyGivenNames x2
    have h3 : P x2 := State.wr_sound hP h1; clear_value x2
    refine State.forCh_sound hP (fun a4 a5 h6 => ?_) ?_
    · extract_lets +onlyGivenNames x7
      have h8 : P x7 := State.modLp_sound hP (State.wr_sound hP h6); clear_value x7
      exact ite_sound (State.wr_sound hP h8) h8
    · exact h3
  · refine ite_sound ?_ ?_
    · extract_lets +onlyGivenNames x9
      have h10 : P x9 := State.otpNet_sound hP h1; clear_value x9
      exact ite_sound (State.otpCan_sound hP h10) h10
    · exact ite_sound (State.otpPassPause_sound hP h1) h1

theorem State.transEnd_sound (hP : Sound P) {s : State} {d : Nat} {up : Bool} (hs : P s) : P (State.transEnd s d up) := by
  unfold State.transEnd
  extract_lets +onlyGivenNames w0 x1
  have h2 : P x1 := by
    subst x1 w0
    exact hP.same s (State.base_eq rfl rfl rfl rfl rfl rfl rfl) hs
  clear_value w0 x1
  exact State.reqDone_sound hP (State.wrs_sound hP h2)

theorem execDomainReady_sound (hP : Sound P) {a b c : ℤ} {s : State} (hs : P s) : ∃ s', execDomainReady a b c s = .next s' ∧ P s' := by
  unfold execDomainReady
  refine ⟨_, rfl, ?_⟩
  split
  · exact State.settleAll_sound hP (State.entryCheck_sound hP (State.readyOffsets_sound hP (State.domUp_sound hP (State.transEnd_sound hP hs))))
  · exact hs

theorem execDomainOffComplete_sound (hP : Sound P) {s : State} (hs : P s) : ∃ s', execDomainOffComplete s = .next s' ∧ P s' := by
  unfold execDomainOffComplete
  refine ⟨_, rfl, ?_⟩
  split
  · extract_lets +onlyGivenNames x0
    have h1 : P x0 := State.transEnd_sound hP hs; clear_value x0
    exact State.entryCheck_sound hP (ite_sound (State.otpPassResume_sound hP h1) h1)
  · exact hs

theorem execDomFailTimeout_sound (hP : Sound P) {s : State} (hs : P s) : ∃ s', execDomFailTimeout s = .next s' ∧ P s' := by
  unfold execDomFailTimeout
  refine ⟨_, rfl, ?_⟩
  split
  · extract_lets +onlyGivenNames w0 x1
    have h2 : P x1 := by
      subst x1 w0
      exact hP.same s (State.base_eq rfl rfl rfl rfl rfl rfl rfl) hs
    clear_value w0 x1
    extract_lets +onlyGivenNames x3
    have h4 : P x3 := State.reqDone_sound hP (State.wrs_sound hP h2); clear_value x3
    extract_lets +onlyGivenNames x5
    have h6 : P x5 := State.raise_sound hP (State.wr_sound hP h4); clear_value x5
    exact State.settleAll_sound hP (State.entryCheck_sound hP (ite_sound (State.otpwRefused_sound hP h6) h6))
  · exact hs

theorem execStandbyEntryComplete_sound (hP : Sound P) {s : State} (hs : P s) : ∃ s', execStandbyEntryComplete s = .next s' ∧ P s' := by
  unfold execStandbyEntryComplete
  refine ⟨_, rfl, ?_⟩
  refine ite_sound ?_ ?_
  · extract_lets +onlyGivenNames x0; clear_value x0
    exact State.clrBits_sound hP (State.coreReset_sound hP hs)
  · exact hs

theorem execWakePinHigh_sound (hP : Sound P) {s : State} (hs : P s) : ∃ s', execWakePinHigh s = .next s' ∧ P s' := by
  unfold execWakePinHigh
  refine ⟨_, rfl, ?_⟩
  exact State.wake_sound hP hs

theorem execLinkSignalDetectWake_sound (hP : Sound P) {p : Ch} {s : State} (hs : P s) : ∃ s', execLinkSignalDetectWake p s = .next s' ∧ P s' := by
  unfold execLinkSignalDetectWake
  refine ⟨_, rfl, ?_⟩
  exact State.wake_sound hP hs

theorem execCanWakePattern_sound (hP : Sound P) {s : State} (hs : P s) : ∃ s', execCanWakePattern s = .next s' ∧ P s' := by
  unfold execCanWakePattern
  refine ⟨_, rfl, ?_⟩
  extract_lets +onlyGivenNames x0
  have h1 : P x0 := State.wake_sound hP hs; clear_value x0
  refine State.whenCan_sound hP (fun a2 h3 => ?_) ?_
  · exact ite_sound (State.wr_sound hP h3) h3
  · exact h1

theorem execTestPinChange_sound (hP : Sound P) {b : Bool} {s : State} (hs : P s) : ∃ s', execTestPinChange b s = .next s' ∧ P s' := by
  unfold execTestPinChange
  refine ⟨_, rfl, ?_⟩
  refine State.settleAll_sound hP ?_
  extract_lets +onlyGivenNames x0
  have h1 : P x0 := State.wr_sound hP hs; clear_value x0
  exact hP.same x0 (State.base_eq rfl rfl rfl rfl rfl rfl rfl) h1

theorem State.onTarget_sound (hP : Sound P) {s : State} {tgt : Nat} {f : Ch → State → State} (hf1 : ∀ a0 a3, P a3 → P (f a0 a3)) (hs : P s) : P (State.onTarget s tgt f) := by
  unfold State.onTarget
  refine dite_sound (fun _ => ?_) (fun _ => ?_)
  · exact hf1 _ _ hs
  · exact hs

theorem State.homingPause_sound (hP : Sound P) {s : State} {n : Ch} (hs : P s) : P (State.homingPause s n) := by
  unfold State.homingPause
  exact State.modCh_sound hP (fun _ => rfl) hs

theorem State.jobLetGo_sound (hP : Sound P) {s : State} {j : Job} (hs : P s) : P (State.jobLetGo s j) := by
  unfold State.jobLetGo
  refine ite_sound ?_ ?_
  · refine State.onTarget_sound hP (fun a0 a1 h2 => ?_) ?_
    · exact State.homingPause_sound hP h2
    · exact hs
  · exact ite_sound (State.wr_sound hP hs) hs

theorem State.jobSuspend_sound (hP : Sound P) {s : State} {k : Fin 16} (hs : P s) : P (State.jobSuspend s k).1 := by
  unfold State.jobSuspend
  extract_lets +onlyGivenNames x0; clear_value x0
  split
  · exact fst_mk (State.orBits_sound hP (State.setJob_sound hP hs))
  · exact fst_mk (State.jobLetGo_sound hP (State.setJob_sound hP hs))
  · exact fst_mk hs

theorem State.jobGoOn_sound (hP : Sound P) {s : State} {j : Job} (hs : P s) : P (State.jobGoOn s j) := by
  unfold State.jobGoOn
  refine ite_sound ?_ ?_
  · refine State.onTarget_sound hP (fun a0 a1 h2 => ?_) ?_
    · exact State.modCh_sound hP (fun _ => rfl) (State.wrs_sound hP h2)
    · exact hs
  · refine ite_sound ?_ ?_
    · refine State.onTarget_sound hP (fun a3 a4 h5 => ?_) ?_
      · exact State.modCh_sound hP (fun _ => rfl) (State.wr_sound hP h5)
      · exact hs
    · refine ite_sound ?_ ?_
      · exact State.wr_sound hP hs
      · refine ite_sound ?_ ?_
        · refine State.onTarget_sound hP (fun a6 a7 h8 => ?_) ?_
          · exact State.modCh_sound hP (fun _ => rfl) h8
          · exact hs
        · refine ite_sound ?_ ?_
          · refine State.onTarget_sound hP (fun a9 a10 h11 => ?_) ?_
            · exact State.modCh_sound hP (fun _ => rfl) (State.wrs_sound hP h11)
            · exact hs
          · refine ite_sound ?_ ?_
            · exact hP.same s (State.base_eq rfl rfl rfl rfl rfl rfl rfl) hs
            · refine ite_sound ?_ ?_
              · exact State.enumPump_sound hP hs
              · refine ite_sound ?_ ?_
                · refine State.onTarget_sound hP (fun a12 a13 h14 => ?_) ?_
                  · exact State.modLp_sound hP h14
                  · exact hs
                · exact hs

theorem State.jobResume_sound (hP : Sound P) {s : State} {k : Fin 16} (hs : P s) : P (State.jobResume s k).1 := by
  unfold State.jobResume
  extract_lets +onlyGivenNames x0; clear_value x0
  split
  · refine ite_fst ?_ ?_
    · refine fst_mk ?_
      extract_lets +onlyGivenNames w1 x2
      have h3 : P x2 := by
        subst x2 w1
        exact State.setJob_sound hP hs
      clear_value w1 x2
      exact hP.same x2 (State.base_eq rfl rfl rfl rfl rfl rfl rfl) h3
    · exact fst_mk (State.jobGoOn_sound hP (State.setJob_sound hP hs))
  · exact fst_mk (ite_sound (State.jobGoOn_sound hP (State.setJob_sound hP hs)) (ite_sound (State.wr_sound hP (State.setJob_sound hP hs)) (State.setJob_sound hP hs)))
  · exact fst_mk hs

theorem State.jobCancel_sound (hP : Sound P) {s : State} {k : Fin 16} (hs : P s) : P (State.jobCancel s k).1 := by
  unfold State.jobCancel
  extract_lets +onlyGivenNames x0; clear_value x0
  exact ite_fst (fst_mk (State.jobEnd_sound hP hs)) (ite_fst (fst_mk (State.jobLetGo_sound hP (State.setJob_sound hP hs))) (fst_mk hs))

theorem State.jobRelease_sound (hP : Sound P) {s : State} {k : Fin 16} (hs : P s) : P (State.jobRelease s k).1 := by
  unfold State.jobRelease
  extract_lets +onlyGivenNames x0; clear_value x0
  exact ite_fst (fst_mk (State.setJob_sound hP hs)) (fst_mk hs)

theorem State.jobCommand_sound (hP : Sound P) {s : State} {origin : Nat} {b : List Word} (hs : P s) : P (State.jobCommand s origin b).1 := by
  unfold State.jobCommand
  extract_lets +onlyGivenNames x0; try clear_value x0
  extract_lets +onlyGivenNames x1; try clear_value x1
  refine ite_fst ?_ ?_
  · exact State.jobStart_sound hP hs
  · refine ite_fst ?_ ?_
    · exact fst_mk hs
    · extract_lets +onlyGivenNames x2; subst x2
      exact ite_fst (fst_mk hs) (ite_fst (State.jobSuspend_sound hP hs) (ite_fst (State.jobResume_sound hP hs) (ite_fst (State.jobCancel_sound hP hs) (State.jobRelease_sound hP hs))))

theorem State.jobBlock_sound (hP : Sound P) {s : State} {origin : Nat} {b : List Word} (hs : P s) : P (State.jobBlock s origin b) := by
  unfold State.jobBlock
  split
  · rename_i y0 y1 e2
    have h3 : P y0 := by
      rw [show y0 = _ from (congrArg Prod.fst e2).symm]
      exact State.jobCommand_sound hP hs
    exact State.settleAll_sound hP (hP.same y0 (State.base_eq rfl rfl rfl rfl rfl rfl rfl) h3)

theorem State.blkPut_sound (hP : Sound P) {s : State} {origin : Nat} {b : List Word} (hs : P s) : P (State.blkPut s origin b) := by
  unfold State.blkPut
  extract_lets +onlyGivenNames x0; clear_value x0
  exact hP.same s (State.base_eq rfl rfl rfl rfl rfl rfl rfl) hs

theorem State.jobPost_sound (hP : Sound P) {s : State} {origin : Nat} {b : List Word} (hs : P s) : P (State.jobPost s origin b) := by
  unfold State.jobPost
  extract_lets +onlyGivenNames x0
  have h1 : P x0 := State.blkPut_sound hP hs; clear_value x0
  exact State.jobBlock_sound hP h1

theorem execJobStart_sound (hP : Sound P) {origin : Fin 7} {typ tgt : BitVec 4} {params : List (BitVec 32)} {s : State} (hs : P s) : ∃ s', execJobStart origin typ tgt params s = .next s' ∧ P s' := by
  unfold execJobStart
  refine ⟨_, rfl, ?_⟩
  exact State.jobPost_sound hP hs

theorem execJobSuspend_sound (hP : Sound P) {origin : Fin 7} {handle : BitVec 16} {s : State} (hs : P s) : ∃ s', execJobSuspend origin handle s = .next s' ∧ P s' := by
  unfold execJobSuspend
  refine ⟨_, rfl, ?_⟩
  exact State.jobPost_sound hP hs

theorem execJobResume_sound (hP : Sound P) {origin : Fin 7} {handle : BitVec 16} {s : State} (hs : P s) : ∃ s', execJobResume origin handle s = .next s' ∧ P s' := by
  unfold execJobResume
  refine ⟨_, rfl, ?_⟩
  exact State.jobPost_sound hP hs

theorem execJobCancel_sound (hP : Sound P) {origin : Fin 7} {handle : BitVec 16} {s : State} (hs : P s) : ∃ s', execJobCancel origin handle s = .next s' ∧ P s' := by
  unfold execJobCancel
  refine ⟨_, rfl, ?_⟩
  exact State.jobPost_sound hP hs

theorem execJobRelease_sound (hP : Sound P) {origin : Fin 7} {handle : BitVec 16} {s : State} (hs : P s) : ∃ s', execJobRelease origin handle s = .next s' ∧ P s' := by
  unfold execJobRelease
  refine ⟨_, rfl, ?_⟩
  exact State.jobPost_sound hP hs

theorem State.eccUncorr_sound (hP : Sound P) {s : State} {k : Fin 20} {a : Nat} (hs : P s) : P (State.eccUncorr s k a) := by
  unfold State.eccUncorr
  extract_lets +onlyGivenNames x0; clear_value x0
  exact State.settleAll_sound hP (State.raise_sound hP (hP.same s (State.base_eq rfl rfl rfl rfl rfl rfl rfl) hs))

theorem State.grvIgnored_sound (hP : Sound P) {s : State} {n : Ch} (hs : P s) : P (State.grvIgnored s n) := by
  unfold State.grvIgnored
  exact State.wr_sound hP hs

theorem State.modGrv_sound (hP : Sound P) {s : State} {n : Ch} {f : Grv → Grv} (hs : P s) : P (State.modGrv s n f) := by
  unfold State.modGrv
  exact State.modCh_sound hP (fun _ => rfl) hs

theorem State.setG_sound (hP : Sound P) {s : State} {n : Ch} {r : GReg} {w : Word} (hs : P s) : P (State.setG s n r w) := by
  unfold State.setG
  exact ite_sound hs (State.modGrv_sound hP hs)

theorem State.gInc_sound (hP : Sound P) {s : State} {n : Ch} (hs : P s) : P (State.gInc s n) := by
  unfold State.gInc
  exact State.modGrv_sound hP (State.wr_sound hP hs)

theorem State.wfeEnd_sound (hP : Sound P) {s : State} {n : Ch} (hs : P s) : P (State.wfeEnd s n) := by
  unfold State.wfeEnd
  split
  · exact hs
  · extract_lets +onlyGivenNames x0; clear_value x0
    extract_lets +onlyGivenNames x1
    have h2 : P x1 := State.clrBits_sound hP (State.setG_sound hP hs); clear_value x1
    exact State.modGrv_sound hP (State.gInc_sound hP h2)

theorem State.grvStop_sound (hP : Sound P) {s : State} {n : Ch} (hs : P s) : P (State.grvStop s n) := by
  unfold State.grvStop
  refine ite_sound ?_ ?_
  · exact State.grvIgnored_sound hP hs
  · extract_lets +onlyGivenNames x0; clear_value x0
    extract_lets +onlyGivenNames x1
    have h2 : P x1 := State.wrs_sound hP (State.wfeEnd_sound hP hs); clear_value x1
    exact ite_sound (State.wr_sound hP h2) h2

theorem execGrvStop_sound (hP : Sound P) {n : Ch} {s : State} (hs : P s) : ∃ s', execGrvStop n s = .next s' ∧ P s' := by
  unfold execGrvStop
  refine ⟨_, rfl, ?_⟩
  refine State.whenCh_sound hP (fun a0 h1 => ?_) ?_
  · exact State.grvStop_sound hP h1
  · exact hs

theorem State.grvClear_sound (hP : Sound P) {s : State} {n : Ch} {pc : Nat} (hs : P s) : P (State.grvClear s n pc) := by
  unfold State.grvClear
  extract_lets +onlyGivenNames x0
  have h1 : P x0 := State.wrs_sound hP hs; clear_value x0
  exact State.modGrv_sound hP h1

theorem State.grvReset_sound (hP : Sound P) {s : State} {n : Ch} (hs : P s) : P (State.grvReset s n) := by
  unfold State.grvReset
  exact ite_sound (State.grvClear_sound hP hs) (State.grvIgnored_sound hP hs)

theorem execGrvReset_sound (hP : Sound P) {n : Ch} {s : State} (hs : P s) : ∃ s', execGrvReset n s = .next s' ∧ P s' := by
  unfold execGrvReset
  refine ⟨_, rfl, ?_⟩
  refine State.whenCh_sound hP (fun a0 h1 => ?_) ?_
  · exact State.grvReset_sound hP h1
  · exact hs

theorem State.grvLoad_sound (hP : Sound P) {s : State} {n : Ch} (hs : P s) : P (State.grvLoad s n) := by
  unfold State.grvLoad
  extract_lets +onlyGivenNames x0; clear_value x0
  exact ite_sound (State.grvIgnored_sound hP hs) (ite_sound (State.wrs_sound hP hs) (State.modGrv_sound hP (State.wr_sound hP hs)))

theorem execGrvLoadRom_sound (hP : Sound P) {n : Ch} {s : State} (hs : P s) : ∃ s', execGrvLoadRom n s = .next s' ∧ P s' := by
  unfold execGrvLoadRom
  refine ⟨_, rfl, ?_⟩
  refine State.whenCh_sound hP (fun a0 h1 => ?_) ?_
  · exact State.grvLoad_sound hP h1
  · exact hs

theorem State.grvVerify_sound (hP : Sound P) {s : State} {n : Ch} (hs : P s) : P (State.grvVerify s n) := by
  unfold State.grvVerify
  exact ite_sound (State.modGrv_sound hP (State.wr_sound hP hs)) (State.grvIgnored_sound hP hs)

theorem execGrvVerify_sound (hP : Sound P) {n : Ch} {s : State} (hs : P s) : ∃ s', execGrvVerify n s = .next s' ∧ P s' := by
  unfold execGrvVerify
  refine ⟨_, rfl, ?_⟩
  refine State.whenCh_sound hP (fun a0 h1 => ?_) ?_
  · exact State.grvVerify_sound hP h1
  · exact hs

theorem State.grvStart_sound (hP : Sound P) {s : State} {n : Ch} (hs : P s) : P (State.grvStart s n) := by
  unfold State.grvStart
  extract_lets +onlyGivenNames x0; subst x0
  refine ite_sound ?_ ?_
  · extract_lets +onlyGivenNames x1; clear_value x1
    extract_lets +onlyGivenNames x2
    have h3 : P x2 := State.wrs_sound hP hs; clear_value x2
    extract_lets +onlyGivenNames x4
    have h5 : P x4 := State.modGrv_sound hP h3; clear_value x4
    exact ite_sound (State.modGrv_sound hP (State.wr_sound hP h5)) h5
  · exact State.grvIgnored_sound hP hs

theorem execGrvStart_sound (hP : Sound P) {n : Ch} {s : State} (hs : P s) : ∃ s', execGrvStart n s = .next s' ∧ P s' := by
  unfold execGrvStart
  refine ⟨_, rfl, ?_⟩
  refine State.whenCh_sound hP (fun a0 h1 => ?_) ?_
  · exact State.grvStart_sound hP h1
  · exact hs

theorem execGrvHostEv_sound (hP : Sound P) {n : Ch} {s : State} (hs : P s) : ∃ s', execGrvHostEv n s = .next s' ∧ P s' := by
  unfold execGrvHostEv
  refine ⟨_, rfl, ?_⟩
  exact State.grvEvent_sound hP hs

theorem State.grvCntClr_sound (hP : Sound P) {s : State} {n : Ch} (hs : P s) : P (State.grvCntClr s n) := by
  unfold State.grvCntClr
  exact State.wrs_sound hP hs

theorem execGrvCntClr_sound (hP : Sound P) {n : Ch} {s : State} (hs : P s) : ∃ s', execGrvCntClr n s = .next s' ∧ P s' := by
  unfold execGrvCntClr
  refine ⟨_, rfl, ?_⟩
  refine State.whenCh_sound hP (fun a0 h1 => ?_) ?_
  · exact State.grvCntClr_sound hP h1
  · exact hs

theorem execMboxFree_sound (hP : Sound P) {n : Ch} {m : BitVec 4} {s : State} (hs : P s) : ∃ s', execMboxFree n m s = .next s' ∧ P s' := by
  unfold execMboxFree
  refine ⟨_, rfl, ?_⟩
  refine State.whenCh_sound hP (fun a0 h1 => ?_) ?_
  · exact State.clrBits_sound hP h1
  · exact hs

theorem execGrvSignal_sound (hP : Sound P) {n : Ch} {m : BitVec 8} {s : State} (hs : P s) : ∃ s', execGrvSignal n m s = .next s' ∧ P s' := by
  unfold execGrvSignal
  refine ⟨_, rfl, ?_⟩
  refine State.whenCh_sound hP (fun a0 h1 => ?_) ?_
  · exact State.orBits_sound hP h1
  · exact hs

theorem State.whenDbg_sound (hP : Sound P) {s : State} {f : Ch → State → State} (hf1 : ∀ a0 a3, P a3 → P (f a0 a3)) (hs : P s) : P (State.whenDbg s f) := by
  unfold State.whenDbg
  refine ite_sound ?_ ?_
  · refine State.whenCh_sound hP (fun a0 h1 => ?_) ?_
    · exact hf1 _ _ h1
    · exact hs
  · exact hs

theorem State.freeze_sound (hP : Sound P) {s : State} {n : Ch} (hs : P s) : P (State.freeze s n) := by
  unfold State.freeze
  exact ite_sound hs (State.modGrv_sound hP (State.wr_sound hP hs))

theorem execDbgHalt_sound (hP : Sound P) {s : State} (hs : P s) : ∃ s', execDbgHalt s = .next s' ∧ P s' := by
  unfold execDbgHalt
  refine ⟨_, rfl, ?_⟩
  refine State.whenDbg_sound hP (fun a0 a1 h2 => ?_) ?_
  · exact State.freeze_sound hP h2
  · exact hs

theorem State.thaw_sound (hP : Sound P) {s : State} {n : Ch} (hs : P s) : P (State.thaw s n) := by
  unfold State.thaw
  exact ite_sound (State.modGrv_sound hP (State.wr_sound hP hs)) hs

theorem execDbgResume_sound (hP : Sound P) {s : State} (hs : P s) : ∃ s', execDbgResume s = .next s' ∧ P s' := by
  unfold execDbgResume
  refine ⟨_, rfl, ?_⟩
  refine State.whenDbg_sound hP (fun a0 a1 h2 => ?_) ?_
  · exact State.thaw_sound hP h2
  · exact hs

theorem State.pramWrite_sound (hP : Sound P) {s : State} {n : Ch} {a : Nat} {w : Word} (hs : P s) : P (State.pramWrite s n a w) := by
  unfold State.pramWrite
  exact ite_sound (State.wrs_sound hP (State.setMemWord_sound hP hs)) (State.wr_sound hP hs)

theorem execProgramRamWrite_sound (hP : Sound P) {n : Ch} {a : BitVec 14} {w : BitVec 32} {s : State} (hs : P s) : ∃ s', execProgramRamWrite n a w s = .next s' ∧ P s' := by
  unfold execProgramRamWrite
  refine ⟨_, rfl, ?_⟩
  refine State.whenCh_sound hP (fun a0 h1 => ?_) ?_
  · exact State.pramWrite_sound hP h1
  · exact hs

theorem State.gExc_sound (hP : Sound P) {s : State} {n : Ch} {cause : Nat} (hs : P s) : P (State.gExc s n cause) := by
  unfold State.gExc
  extract_lets +onlyGivenNames x0; subst x0
  extract_lets +onlyGivenNames x1
  have h2 : P x1 := ite_sound hs (State.wrs_sound hP hs); clear_value x1
  exact State.settleAll_sound hP (State.raiseCh_sound hP (State.wrs_sound hP h2))

theorem State.gFetchEcc_sound (hP : Sound P) {s : State} {n : Ch} (hs : P s) : P (State.gFetchEcc s n) := by
  unfold State.gFetchEcc
  exact State.gExc_sound hP (State.eccUncorr_sound hP hs)

theorem State.grvWdt_sound (hP : Sound P) {s : State} {n : Ch} (hs : P s) : P (State.grvWdt s n) := by
  unfold State.grvWdt
  exact State.settleAll_sound hP (State.raiseCh_sound hP hs)

theorem execGroveWdtExpiry_sound (hP : Sound P) {n : Ch} {s : State} (hs : P s) : ∃ s', execGroveWdtExpiry n s = .next s' ∧ P s' := by
  unfold execGroveWdtExpiry
  refine ⟨_, rfl, ?_⟩
  refine State.whenCh_sound hP (fun a0 h1 => ?_) ?_
  · exact ite_sound (State.grvWdt_sound hP h1) h1
  · exact hs

theorem execGrvVerifyDone_sound (hP : Sound P) {n : Ch} {s : State} (hs : P s) : ∃ s', execGrvVerifyDone n s = .next s' ∧ P s' := by
  unfold execGrvVerifyDone
  refine ⟨_, rfl, ?_⟩
  refine State.whenCh_sound hP (fun a0 h1 => ?_) ?_
  · refine ite_sound ?_ ?_
    · extract_lets +onlyGivenNames x2; clear_value x2
      extract_lets +onlyGivenNames x3
      have h4 : P x3 := State.wrs_sound hP h1; clear_value x3
      exact State.modGrv_sound hP h4
    · exact h1
  · exact hs

theorem execGrvLoadDone_sound (hP : Sound P) {n : Ch} {s : State} (hs : P s) : ∃ s', execGrvLoadDone n s = .next s' ∧ P s' := by
  unfold execGrvLoadDone
  refine ⟨_, rfl, ?_⟩
  refine State.whenCh_sound hP (fun a0 h1 => ?_) ?_
  · extract_lets +onlyGivenNames x2; clear_value x2
    refine ite_sound ?_ ?_
    · extract_lets +onlyGivenNames x3
      have h4 : P x3 := State.setMemWords_sound hP (State.clearMem_sound hP h1); clear_value x3
      extract_lets +onlyGivenNames x5
      have h6 : P x5 := State.wrs_sound hP (State.grvClear_sound hP h4); clear_value x5
      exact State.modGrv_sound hP h6
    · exact h1
  · exact hs

theorem execBreakpointHit_sound (hP : Sound P) {k : Fin 4} {s : State} (hs : P s) : ∃ s', execBreakpointHit k s = .next s' ∧ P s' := by
  unfold execBreakpointHit
  refine ⟨_, rfl, ?_⟩
  refine State.whenDbg_sound hP (fun a0 a1 h2 => ?_) ?_
  · exact ite_sound (State.freeze_sound hP h2) h2
  · exact hs

theorem execWfeWake_sound (hP : Sound P) {n : Ch} {s : State} (hs : P s) : ∃ s', execWfeWake n s = .next s' ∧ P s' := by
  unfold execWfeWake
  refine ⟨_, rfl, ?_⟩
  refine State.whenCh_sound hP (fun a0 h1 => ?_) ?_
  · split
    · exact h1
    · exact ite_sound (State.modGrv_sound hP (State.wr_sound hP (State.wfeEnd_sound hP h1))) h1
  · exact hs

theorem execGroveTimerExpiry_sound (hP : Sound P) {n : Ch} {t : Fin 2} {s : State} (hs : P s) : ∃ s', execGroveTimerExpiry n t s = .next s' ∧ P s' := by
  unfold execGroveTimerExpiry
  refine ⟨_, rfl, ?_⟩
  refine State.whenCh_sound hP (fun a0 h1 => ?_) ?_
  · extract_lets +onlyGivenNames x2; clear_value x2
    exact ite_sound (State.grvEvent_sound hP (State.modGrv_sound hP h1)) h1
  · exact hs

theorem execIllegalOpcode_sound (hP : Sound P) {n : Ch} {ecc : Bool} {s : State} (hs : P s) : ∃ s', execIllegalOpcode n ecc s = .next s' ∧ P s' := by
  unfold execIllegalOpcode
  refine ⟨_, rfl, ?_⟩
  refine State.whenCh_sound hP (fun a0 h1 => ?_) ?_
  · exact ite_sound (ite_sound (State.freeze_sound hP h1) (ite_sound (State.gFetchEcc_sound hP h1) (ite_sound (State.gExc_sound hP h1) h1))) h1
  · exact hs

theorem State.busErr_sound (hP : Sound P) {s : State} {kind m a : Nat} (hs : P s) : P (State.busErr s kind m a) := by
  unfold State.busErr
  exact ite_sound hs (State.wrs_sound hP hs)

theorem State.scanDrop_sound (hP : Sound P) {s : State} {p : Nat} (hs : P s) : P (State.scanDrop s p) := by
  unfold State.scanDrop
  exact hP.same s (State.base_eq rfl rfl rfl rfl rfl rfl rfl) hs

theorem State.recap_sound (hP : Sound P) {s : State} (hs : P s) : P (State.recap s) := by
  unfold State.recap
  exact hP.same s (State.base_eq rfl rfl rfl rfl rfl rfl rfl) hs

theorem execRecap_sound (hP : Sound P) {s : State} (hs : P s) : ∃ s', execRecap s = .next s' ∧ P s' := by
  unfold execRecap
  refine ⟨_, rfl, ?_⟩
  exact State.recap_sound hP hs

theorem State.stestRequest_sound (hP : Sound P) {s : State} (hs : P s) : P (State.stestRequest s) := by
  unfold State.stestRequest
  extract_lets +onlyGivenNames x0
  have h1 : P x0 := State.wr_sound hP hs; clear_value x0
  refine State.forCh_sound hP (fun a2 a3 h4 => ?_) ?_
  · exact ite_sound h4 (ite_sound (State.stestPost_sound hP h4) (hP.same a3 (State.base_eq rfl rfl rfl rfl rfl rfl rfl) h4))
  · exact h1

theorem execStestNow_sound (hP : Sound P) {s : State} (hs : P s) : ∃ s', execStestNow s = .next s' ∧ P s' := by
  unfold execStestNow
  refine ⟨_, rfl, ?_⟩
  exact State.stestRequest_sound hP hs

theorem State.lockstep_sound (hP : Sound P) {s : State} (hs : P s) : P (State.lockstep s) := by
  unfold State.lockstep
  exact State.settleAll_sound hP (State.safeAll_sound hP (State.raise_sound hP (State.wr_sound hP hs)))

theorem State.faultEvent_sound (hP : Sound P) {s : State} {i : Nat} (hs : P s) : P (State.faultEvent s i) := by
  unfold State.faultEvent
  refine ite_sound ?_ ?_
  · exact State.clockReset_sound hP hs
  · refine ite_sound ?_ ?_
    · exact State.clockReset_sound hP hs
    · refine ite_sound ?_ ?_
      · exact State.deviceReset_sound hP hs
      · refine ite_sound ?_ ?_
        · exact State.lockstep_sound hP hs
        · refine ite_sound ?_ ?_
          · exact State.settleAll_sound hP (State.fallback_sound hP hs)
          · refine ite_sound ?_ ?_
            · exact State.settleAll_sound hP (State.timeSource_sound hP (State.safeAll_sound hP (State.condSet_sound hP hs)))
            · exact ite_sound hs (ite_sound (State.eccUncorr_sound hP (State.used_sound hP (State.used_sound hP hs))) (State.collect_sound hP hs))

theorem execFaultRaise_sound (hP : Sound P) {i : BitVec 9} {s : State} (hs : P s) : ∃ s', execFaultRaise i s = .next s' ∧ P s' := by
  unfold execFaultRaise
  refine ⟨_, rfl, ?_⟩
  refine ite_sound ?_ ?_
  · exact hs
  · split
    · exact ite_sound (State.faultEvent_sound hP hs) hs
    · exact State.faultEvent_sound hP hs

theorem execRangerSelftestDone_sound (hP : Sound P) {pass : Bool} {s : State} (hs : P s) : ∃ s', execRangerSelftestDone pass s = .next s' ∧ P s' := by
  unfold execRangerSelftestDone
  refine ⟨_, rfl, ?_⟩
  exact ite_sound (ite_sound (State.wrs_sound hP hs) (State.hold_sound hP hs)) hs

theorem execRangerSelftestTimeout_sound (hP : Sound P) {s : State} (hs : P s) : ∃ s', execRangerSelftestTimeout s = .next s' ∧ P s' := by
  unfold execRangerSelftestTimeout
  refine ⟨_, rfl, ?_⟩
  exact ite_sound (State.hold_sound hP hs) hs

theorem execLockstepMismatch_sound (hP : Sound P) {s : State} (hs : P s) : ∃ s', execLockstepMismatch s = .next s' ∧ P s' := by
  unfold execLockstepMismatch
  refine ⟨_, rfl, ?_⟩
  exact ite_sound (State.lockstep_sound hP hs) hs

theorem execLodgeLivenessCheck_sound (hP : Sound P) {count : BitVec 32} {s : State} (hs : P s) : ∃ s', execLodgeLivenessCheck count s = .next s' ∧ P s' := by
  unfold execLodgeLivenessCheck
  refine ⟨_, rfl, ?_⟩
  refine ite_sound ?_ ?_
  · exact hs
  · extract_lets +onlyGivenNames x0; clear_value x0
    extract_lets +onlyGivenNames w1 x2
    have h3 : P x2 := by
      subst x2 w1
      exact hP.same s (State.base_eq rfl rfl rfl rfl rfl rfl rfl) hs
    clear_value w1 x2
    exact ite_sound (State.deviceReset_sound hP h3) h3

theorem execLoopHeartbeatTimeout_sound (hP : Sound P) {n : Ch} {s : State} (hs : P s) : ∃ s', execLoopHeartbeatTimeout n s = .next s' ∧ P s' := by
  unfold execLoopHeartbeatTimeout
  refine ⟨_, rfl, ?_⟩
  refine State.whenCh_sound hP (fun a0 h1 => ?_) ?_
  · exact ite_sound (State.collect_sound hP h1) h1
  · exact hs

theorem State.monFault_sound (hP : Sound P) {s : State} {k : Fin 8} (hs : P s) : P (State.monFault s k) := by
  unfold State.monFault
  split
  · exact State.clockReset_sound hP hs
  · exact State.timeSource_sound hP (State.safeAll_sound hP (State.condSet_sound hP hs))
  · exact State.condSet_sound hP hs
  · exact State.condSet_sound hP hs
  · exact State.condSet_sound hP hs
  · exact State.fallback_sound hP hs
  · exact State.condSet_sound hP hs
  · exact State.condSet_sound hP hs

theorem State.monGood_sound (hP : Sound P) {s : State} {k : Fin 8} (hs : P s) : P (State.monGood s k) := by
  unfold State.monGood
  split
  · exact State.timeSource_sound hP (State.condSet_sound hP hs)
  · exact State.condSet_sound hP hs
  · exact State.condSet_sound hP hs
  · exact State.condSet_sound hP hs
  · exact State.condSet_sound hP hs
  · exact State.condSet_sound hP hs
  · exact hs

theorem execClockMonitorWindow_sound (hP : Sound P) {k : Fin 8} {count : BitVec 16} {s : State} (hs : P s) : ∃ s', execClockMonitorWindow k count s = .next s' ∧ P s' := by
  unfold execClockMonitorWindow
  refine ⟨_, rfl, ?_⟩
  refine ite_sound ?_ ?_
  · exact hP.same s (State.base_eq rfl rfl rfl rfl rfl rfl rfl) hs
  · extract_lets +onlyGivenNames x0; clear_value x0
    extract_lets +onlyGivenNames x1; clear_value x1
    extract_lets +onlyGivenNames x2
    have h3 : P x2 := State.wrs_sound hP hs; clear_value x2
    extract_lets +onlyGivenNames w4 x5
    have h6 : P x5 := by
      subst x5 w4
      exact hP.same x2 (State.base_eq rfl rfl rfl rfl rfl rfl rfl) h3
    clear_value w4 x5
    extract_lets +onlyGivenNames x7
    have h8 : P x7 := ite_sound (State.wr_sound hP h6) h6; clear_value x7
    exact State.settleAll_sound hP (ite_sound (State.monFault_sound hP h8) (ite_sound h8 (State.monGood_sound hP h8)))

theorem State.voltSample_sound (hP : Sound P) {s : State} {j : Fin 6} {v : Nat} (hs : P s) : P (State.voltSample s j v) := by
  unfold State.voltSample
  split
  · extract_lets +onlyGivenNames x0; clear_value x0
    extract_lets +onlyGivenNames x1; clear_value x1
    extract_lets +onlyGivenNames x2; clear_value x2
    extract_lets +onlyGivenNames w3 x4
    have h5 : P x4 := by
      subst x4 w3
      exact hP.same s (State.base_eq rfl rfl rfl rfl rfl rfl rfl) hs
    clear_value w3 x4
    exact ite_sound (State.condSet_sound hP h5) (ite_sound (State.condSet_sound hP h5) h5)

theorem execSupplyMonitorSample_sound (hP : Sound P) {vsup vdrv vio vcore vdda : Nat} {upd : Bool} {s : State} (hs : P s) : ∃ s', execSupplyMonitorSample vsup vdrv vio vcore vdda upd s = .next s' ∧ P s' := by
  unfold execSupplyMonitorSample
  refine ⟨_, rfl, ?_⟩
  refine ite_sound ?_ ?_
  · exact hs
  · extract_lets +onlyGivenNames x0
    have h1 : P x0 := ite_sound (State.wr_sound hP hs) hs; clear_value x0
    exact State.settleAll_sound hP (State.voltSample_sound hP (State.voltSample_sound hP (State.voltSample_sound hP (State.voltSample_sound hP (State.voltSample_sound hP (State.voltSample_sound hP h1))))))

theorem State.scanCond_sound (hP : Sound P) {s : State} (hs : P s) : P (State.scanCond s) := by
  unfold State.scanCond
  exact ite_sound (State.condOff_sound hP hs) hs

theorem State.scanBad_sound (hP : Sound P) {s : State} {p : Nat} (hs : P s) : P (State.scanBad s p) := by
  unfold State.scanBad
  extract_lets +onlyGivenNames x0
  have h1 : P x0 := ite_sound hs (State.wrs_sound hP hs); clear_value x0
  extract_lets +onlyGivenNames x2; clear_value x2
  refine ite_sound ?_ ?_
  · exact State.raiseActs_sound hP h1
  · refine ite_sound ?_ ?_
    · extract_lets +onlyGivenNames x3
      have h4 : P x3 := State.setFr_sound hP h1; clear_value x3
      refine State.forCh_sound hP (fun a5 a6 h7 => ?_) ?_
      · exact State.raiseOn_sound hP h7
      · exact h4
    · exact h1

theorem State.scanPage_sound (hP : Sound P) {s : State} {p : Nat} (hs : P s) : P (State.scanPage s p) := by
  unfold State.scanPage
  extract_lets +onlyGivenNames x0; clear_value x0
  split
  · exact ite_sound (hP.same s (State.base_eq rfl rfl rfl rfl rfl rfl rfl) hs) hs
  · extract_lets +onlyGivenNames x1
    have h2 : P x1 := ite_sound hs (State.busErr_sound hP hs); clear_value x1
    extract_lets +onlyGivenNames x3
    have h4 : ∀ a5 a6, P a6 → P (x3 a5 a6) := by
      intro a5 a6 h7
      subst x3
      beta_reduce
      exact hP.same a6 (State.base_eq rfl rfl rfl rfl rfl rfl rfl) h7
    clear_value x3
    exact ite_sound (h4 _ _ h2) (ite_sound (h4 _ _ h2) (State.scanBad_sound hP (h4 _ _ h2)))

theorem execConfigScanTick_sound (hP : Sound P) {s : State} (hs : P s) : ∃ s', execConfigScanTick s = .next s' ∧ P s' := by
  have h (x : State) (r : Ranger) (hx : P x) : P { x with rng := r } := hP.same x (State.base_eq rfl rfl rfl rfl rfl rfl rfl) hx
  unfold execConfigScanTick
  refine ⟨_, rfl, ite_sound hs ?_⟩
  extract_lets l w x
  have hx : P x := h _ _ hs
  clear_value l
  split
  · exact State.settleAll_sound hP (State.scanCond_sound hP (State.wr_sound hP (h _ _ hx)))
  · have hy := fun p => State.scanPage_sound hP (p := p) hx
    exact State.settleAll_sound hP (State.scanCond_sound hP (ite_sound (State.wrs_sound hP (h _ _ (hy _))) (State.wr_sound hP (h _ _ (hy _)))))

theorem State.stestShow_sound (hP : Sound P) {s : State} (hs : P s) : P (State.stestShow s) := by
  unfold State.stestShow
  extract_lets +onlyGivenNames x0; clear_value x0
  exact State.condSet_sound hP (State.wr_sound hP hs)

theorem execSelftestScheduleTimer_sound (hP : Sound P) {s : State} (hs : P s) : ∃ s', execSelftestScheduleTimer s = .next s' ∧ P s' := by
  unfold execSelftestScheduleTimer
  refine ⟨_, rfl, ?_⟩
  exact ite_sound hs (State.settleAll_sound hP (State.stestShow_sound hP (State.stestRequest_sound hP hs)))

theorem State.eccCorr_sound (hP : Sound P) {s : State} {k a : Nat} (hs : P s) : P (State.eccCorr s k a) := by
  unfold State.eccCorr
  refine dite_sound (fun _ => ?_) (fun _ => ?_)
  · extract_lets +onlyGivenNames x0; clear_value x0
    exact hP.same s (State.base_eq rfl rfl rfl rfl rfl rfl rfl) hs
  · exact hs

theorem execEccRateWindow_sound (hP : Sound P) {errs : List (BitVec 5 × BitVec 24)} {s : State} (hs : P s) : ∃ s', execEccRateWindow errs s = .next s' ∧ P s' := by
  unfold execEccRateWindow
  refine ⟨_, rfl, ?_⟩
  extract_lets +onlyGivenNames x0
  have h1 : P x0 := by
    subst x0
    refine foldl_sound (fun a2 a3 h4 => ?_) _ ?_
    · exact State.eccCorr_sound hP h4
    · exact hs
  clear_value x0
  exact ite_sound (State.settleAll_sound hP (State.raise_sound hP h1)) h1

theorem State.cmdIgnored_sound (hP : Sound P) {s : State} {n : Ch} (hs : P s) : P (State.cmdIgnored s n) := by
  unfold State.cmdIgnored
  exact State.wr_sound hP hs

theorem State.disarm_sound (hP : Sound P) {s : State} {n : Ch} (hs : P s) : P (State.disarm s n) := by
  unfold State.disarm
  split
  · exact State.ask_sound hP (State.hoEnd_sound hP (State.wr_sound hP hs))
  · exact State.ask_sound hP (State.hoEnd_sound hP (State.wr_sound hP hs))
  · exact State.ask_sound hP (State.hoEnd_sound hP (State.wr_sound hP hs))
  · exact State.ask_sound hP (State.hoEnd_sound hP (State.wr_sound hP hs))
  · exact State.ask_sound hP (State.hoEnd_sound hP (State.wr_sound hP hs))
  · exact State.ask_sound hP (State.hoEnd_sound hP (State.wr_sound hP hs))
  · exact State.modCh_sound hP (fun _ => rfl) (State.wr_sound hP hs)
  · exact ite_sound (State.cmdIgnored_sound hP hs) (State.ask_sound hP (State.wr_sound hP hs))
  · exact State.cmdIgnored_sound hP hs

theorem execChDisarm_sound (hP : Sound P) {n : Ch} {s : State} (hs : P s) : ∃ s', execChDisarm n s = .next s' ∧ P s' := by
  unfold execChDisarm
  refine ⟨_, rfl, ?_⟩
  refine State.whenCh_sound hP (fun a0 h1 => ?_) ?_
  · exact State.disarm_sound hP h1
  · exact hs

theorem State.stop_sound (hP : Sound P) {s : State} {n : Ch} (hs : P s) : P (State.stop s n) := by
  unfold State.stop
  split
  · exact State.ask_sound hP (State.hoEnd_sound hP (State.wr_sound hP hs))
  · exact State.ask_sound hP (State.hoEnd_sound hP (State.wr_sound hP hs))
  · exact State.ask_sound hP (State.wr_sound hP hs)
  · exact State.cmdIgnored_sound hP hs

theorem execChStop_sound (hP : Sound P) {n : Ch} {s : State} (hs : P s) : ∃ s', execChStop n s = .next s' ∧ P s' := by
  unfold execChStop
  refine ⟨_, rfl, ?_⟩
  refine State.whenCh_sound hP (fun a0 h1 => ?_) ?_
  · exact State.stop_sound hP h1
  · exact hs

theorem State.commit_sound (hP : Sound P) {s : State} {n : Ch} (hs : P s) : P (State.commit s n) := by
  unfold State.commit
  exact ite_sound hs (State.modCh_sound hP (fun _ => rfl) (State.wr_sound hP hs))

theorem execCommit_sound (hP : Sound P) {n : Ch} {s : State} (hs : P s) : ∃ s', execCommit n s = .next s' ∧ P s' := by
  unfold execCommit
  refine ⟨_, rfl, ?_⟩
  refine State.whenCh_sound hP (fun a0 h1 => ?_) ?_
  · exact State.commit_sound hP h1
  · exact hs

theorem State.armRefuse_sound (hP : Sound P) {s : State} {n : Ch} {r : Nat} (hs : P s) : P (State.armRefuse s n r) := by
  unfold State.armRefuse
  exact State.wrs_sound hP hs

theorem State.armNow_sound (hP : Sound P) {s : State} {n : Ch} (hs : P s) : P (State.armNow s n) := by
  unfold State.armNow
  extract_lets +onlyGivenNames x0; clear_value x0
  exact ite_sound (State.ask_sound hP hs) (State.armRefuse_sound hP hs)

theorem State.arm_sound (hP : Sound P) {s : State} {n : Ch} (hs : P s) : P (State.arm s n) := by
  unfold State.arm
  exact ite_sound (State.cmdIgnored_sound hP hs) (State.armNow_sound hP hs)

theorem execChArm_sound (hP : Sound P) {n : Ch} {s : State} (hs : P s) : ∃ s', execChArm n s = .next s' ∧ P s' := by
  unfold execChArm
  refine ⟨_, rfl, ?_⟩
  refine State.whenCh_sound hP (fun a0 h1 => ?_) ?_
  · exact State.arm_sound hP h1
  · exact hs

theorem State.runNow_sound (hP : Sound P) {s : State} {n : Ch} (hs : P s) : P (State.runNow s n) := by
  unfold State.runNow
  extract_lets +onlyGivenNames x0; clear_value x0
  exact ite_sound (State.wr_sound hP hs) (State.cmdIgnored_sound hP hs)

theorem State.runCmd_sound (hP : Sound P) {s : State} {n : Ch} (hs : P s) : P (State.runCmd s n) := by
  unfold State.runCmd
  exact ite_sound (State.cmdIgnored_sound hP hs) (State.runNow_sound hP hs)

theorem execChRun_sound (hP : Sound P) {n : Ch} {s : State} (hs : P s) : ∃ s', execChRun n s = .next s' ∧ P s' := by
  unfold execChRun
  refine ⟨_, rfl, ?_⟩
  refine State.whenCh_sound hP (fun a0 h1 => ?_) ?_
  · exact State.runCmd_sound hP h1
  · exact hs

theorem State.commitReject_sound (hP : Sound P) {s : State} {n : Ch} {q : List (Nat × Word)} {r : Nat} (hs : P s) : P (State.commitReject s n q r) := by
  unfold State.commitReject
  extract_lets +onlyGivenNames x0; subst x0
  extract_lets +onlyGivenNames x1
  have h2 : P x1 := State.wrs_sound hP hs; clear_value x1
  extract_lets +onlyGivenNames x3
  have h4 : P x3 := State.grvEvent_sound hP (State.inc_sound hP h2); clear_value x3
  extract_lets +onlyGivenNames x5
  have h6 : P x5 := State.modCh_sound hP (fun _ => rfl) h4; clear_value x5
  refine ite_sound ?_ ?_
  · extract_lets +onlyGivenNames x7; clear_value x7
    extract_lets +onlyGivenNames x8; clear_value x8
    exact State.used_sound hP (State.wrs_sound hP h6)
  · exact h6

theorem execCommitCheckComplete_sound (hP : Sound P) {n : Ch} {s : State} (hs : P s) : ∃ s', execCommitCheckComplete n s = .next s' ∧ P s' := by
  unfold execCommitCheckComplete
  refine ⟨_, rfl, ?_⟩
  refine State.whenCh_sound hP (fun a0 h1 => ?_) ?_
  · split
    · extract_lets +onlyGivenNames x2; clear_value x2
      exact ite_sound (State.modCh_sound hP (fun _ => rfl) h1) (State.commitReject_sound hP h1)
    · exact h1
  · exact hs

theorem State.putRunning_sound (hP : Sound P) {s : State} {q : List (Nat × Word)} (hs : P s) : P (State.putRunning s q) := by
  unfold State.putRunning
  refine foldl_sound (fun a0 a1 h2 => ?_) _ ?_
  · exact State.setWord_sound hP h2
  · exact hs

theorem State.pairCommit_sound (hP : Sound P) {s : State} {n : Ch} {fb fb2 : Nat} (hs : P s) : P (State.pairCommit s n fb fb2) := by
  unfold State.pairCommit
  extract_lets +onlyGivenNames x0; subst x0
  extract_lets +onlyGivenNames x1; clear_value x1
  extract_lets +onlyGivenNames x2; clear_value x2
  extract_lets +onlyGivenNames x3; clear_value x3
  extract_lets +onlyGivenNames x4
  have h5 : P x4 := State.modHo_sound hP hs; clear_value x4
  extract_lets +onlyGivenNames x6
  have h7 : ∀ a8, P a8 → P (x6 a8) := by
    intro a8 h9
    subst x6
    beta_reduce
    exact State.hoBegin_sound hP (State.modHo_sound hP h9)
  clear_value x6
  extract_lets +onlyGivenNames x10; clear_value x10
  exact ite_sound (ite_sound hs (ite_sound h5 (h7 _ h5))) (State.modPos_sound hP (State.runWr_sound hP (State.runWr_sound hP h5)))

theorem State.cmpCommit_sound (hP : Sound P) {s : State} {n : Ch} {old : Nat} {leaving : Bool} (hs : P s) : P (State.cmpCommit s n old leaving) := by
  unfold State.cmpCommit
  extract_lets +onlyGivenNames x0; subst x0
  extract_lets +onlyGivenNames x1; clear_value x1
  extract_lets +onlyGivenNames x2
  have h3 : P x2 := State.wrs_sound hP hs; clear_value x2
  extract_lets +onlyGivenNames x4
  have h5 : P x4 := by
    subst x4
    refine foldl_sound (fun a6 a7 h8 => ?_) _ ?_
    · refine ite_sound ?_ ?_
      · extract_lets +onlyGivenNames x9
        have h10 : P x9 := ite_sound (State.cmpReleased_sound hP (State.clrBits_sound hP h8)) h8; clear_value x9
        exact State.cmpDrop_sound hP (State.leaveStart_sound hP h10)
      · exact ite_sound (State.cmpBegin_sound hP h8) h8
    · exact h3
  clear_value x4
  extract_lets +onlyGivenNames w11 x12
  have h13 : P x12 := by
    subst x12 w11
    exact ite_sound h5 (State.modCh_sound hP (fun _ => rfl) h5)
  clear_value w11 x12
  exact ite_sound (State.wrs_sound hP h13) h13

theorem State.limitShow_sound (hP : Sound P) {s : State} {n : Ch} (hs : P s) : P (State.limitShow s n) := by
  unfold State.limitShow
  extract_lets +onlyGivenNames x0; subst x0
  extract_lets +onlyGivenNames x1; clear_value x1
  extract_lets +onlyGivenNames x2; clear_value x2
  extract_lets +onlyGivenNames x3
  have h4 : P x3 := State.flag_sound hP hs; clear_value x3
  exact State.flag_sound hP h4

theorem State.commitShow_sound (hP : Sound P) {s : State} {n : Ch} (hs : P s) : P (State.commitShow s n) := by
  unfold State.commitShow
  extract_lets +onlyGivenNames x0; subst x0
  extract_lets +onlyGivenNames x1
  have h2 : P x1 := State.wrs_sound hP hs; clear_value x1
  extract_lets +onlyGivenNames x3
  have h4 : P x3 := State.grvEvent_sound hP (State.inc_sound hP h2); clear_value x3
  extract_lets +onlyGivenNames w5 x6
  have h7 : P x6 := by
    subst x6 w5
    exact hP.same x3 (State.base_eq rfl rfl rfl rfl rfl rfl rfl) h4
  clear_value w5 x6
  exact State.modCh_sound hP (fun _ => rfl) h7

theorem State.senseCommit_sound (hP : Sound P) {s : State} {n : Ch} {map : Nat} (hs : P s) : P (State.senseCommit s n map) := by
  unfold State.senseCommit
  extract_lets +onlyGivenNames x0; subst x0
  extract_lets +onlyGivenNames x1
  have h2 : P x1 := ite_sound hs (State.hallSector_sound hP (State.hallRemap_sound hP hs)); clear_value x1
  extract_lets +onlyGivenNames x3
  have h4 : P x3 := by
    subst x3
    refine ite_sound ?_ ?_
    · refine foldl_sound (fun a5 a6 h7 => ?_) _ ?_
      · exact State.wr_sound hP h7
      · exact h2
    · exact h2
  clear_value x3
  extract_lets +onlyGivenNames x8
  have h9 : P x8 := ite_sound h4 (State.wrs_sound hP h4); clear_value x8
  exact State.pcClear_sound hP h9

theorem State.loopCommit_sound (hP : Sound P) {s : State} {n : Ch} {oldTarget : Nat} {leaving : Bool} (hs : P s) : P (State.loopCommit s n oldTarget leaving) := by
  unfold State.loopCommit
  extract_lets +onlyGivenNames x0; subst x0
  extract_lets +onlyGivenNames x1
  have h2 : P x1 := State.modCh_sound hP (fun _ => rfl) hs; clear_value x1
  extract_lets +onlyGivenNames x3
  have h4 : P x3 := State.wr_sound hP h2; clear_value x3
  extract_lets +onlyGivenNames x5
  have h6 : P x5 := ite_sound (State.swapDone_sound hP h4) h4; clear_value x5
  refine foldl_sound (fun a7 a8 h9 => ?_) _ ?_
  · exact State.calcTs_sound hP h9
  · exact h6

theorem State.gangCommit_sound (hP : Sound P) {s : State} {n : Ch} {old : Nat} {changed : Bool} (hs : P s) : P (State.gangCommit s n old changed) := by
  unfold State.gangCommit
  extract_lets +onlyGivenNames x0; subst x0
  extract_lets +onlyGivenNames x1; clear_value x1
  refine ite_sound ?_ ?_
  · exact hs
  · extract_lets +onlyGivenNames x2; clear_value x2
    extract_lets +onlyGivenNames w3 x4
    have h5 : P x4 := by
      subst x4 w3
      exact State.modCh_sound hP (fun _ => rfl) hs
    clear_value w3 x4
    extract_lets +onlyGivenNames x6
    have h7 : P x6 := State.wrs_sound hP h5; clear_value x6
    extract_lets +onlyGivenNames x8
    have h9 : P x8 := State.putBit_sound hP (State.putBit_sound hP (State.putBit_sound hP h7)); clear_value x8
    extract_lets +onlyGivenNames x10
    have h11 : P x10 := ite_sound (State.wr_sound hP h9) h9; clear_value x10
    exact State.condSet_sound hP (State.condSet_sound hP h11)

theorem State.replan_sound (hP : Sound P) {s : State} {n : Ch} (hs : P s) : P (State.replan s n) := by
  unfold State.replan
  exact State.settle_sound hP (State.brkShow_sound hP (ite_sound hs (State.planPeriod_sound hP hs)))

theorem State.carrierStart_sound (hP : Sound P) {s : State} {n : Ch} (hs : P s) : P (State.carrierStart s n) := by
  unfold State.carrierStart
  extract_lets +onlyGivenNames x0; clear_value x0
  extract_lets +onlyGivenNames x1; clear_value x1
  extract_lets +onlyGivenNames x2; clear_value x2
  extract_lets +onlyGivenNames w3 x4
  have h5 : P x4 := by
    subst x4 w3
    exact State.modCh_sound hP (fun _ => rfl) hs
  clear_value w3 x4
  refine ite_sound ?_ ?_
  · extract_lets +onlyGivenNames x6; clear_value x6
    exact State.modCh_sound hP (fun _ => rfl) h5
  · exact State.grvEvent_sound hP (State.modCh_sound hP (fun _ => rfl) (State.carrierSync_sound hP h5))

theorem State.carrierGoes_sound (hP : Sound P) {s : State} {n : Ch} {was : List Nat} (hs : P s) : P (State.carrierGoes s n was) := by
  unfold State.carrierGoes
  extract_lets +onlyGivenNames x0; clear_value x0
  extract_lets +onlyGivenNames x1
  have h2 : P x1 := State.modCh_sound hP (fun _ => rfl) hs; clear_value x1
  refine ite_sound ?_ ?_
  · exact h2
  · split
    · rename_i y3 y4 e5
      have h6 : P y3 := by
        rw [show y3 = _ from (congrArg Prod.fst e5).symm]
        exact State.carrierSync_sound hP (State.modCh_sound hP (fun _ => rfl) h2)
      extract_lets +onlyGivenNames x7; clear_value x7
      exact State.modCh_sound hP (fun _ => rfl) h6

theorem State.carrierCommit_sound (hP : Sound P) {s : State} {n : Ch} {was : List Nat} {member : Bool} (hs : P s) : P (State.carrierCommit s n was member) := by
  unfold State.carrierCommit
  extract_lets +onlyGivenNames x0; subst x0
  extract_lets +onlyGivenNames x1; clear_value x1
  extract_lets +onlyGivenNames x2
  have h3 : P x2 := State.wrs_sound hP hs; clear_value x2
  exact ite_sound (State.carrierStart_sound hP h3) (State.carrierGoes_sound hP h3)

theorem State.commitApply_sound (hP : Sound P) {s : State} {n : Ch} {q : List (Nat × Word)} (hs : P s) : P (State.commitApply s n q) := by
  unfold State.commitApply
  extract_lets +onlyGivenNames x0; subst x0
  extract_lets +onlyGivenNames x1; clear_value x1
  extract_lets +onlyGivenNames x2; clear_value x2
  extract_lets +onlyGivenNames x3; clear_value x3
  extract_lets +onlyGivenNames x4; clear_value x4
  extract_lets +onlyGivenNames x5; clear_value x5
  extract_lets +onlyGivenNames x6
  have h7 : P x6 := State.putRunning_sound hP hs; clear_value x6
  extract_lets +onlyGivenNames x8
  have h9 : P x8 := State.runWr_sound hP (State.runWr_sound hP h7); clear_value x8
  extract_lets +onlyGivenNames x10
  have h11 : P x10 := State.pairCommit_sound hP h9; clear_value x10
  extract_lets +onlyGivenNames x12
  have h13 : P x12 := State.cmpCommit_sound hP (State.limitShow_sound hP (State.commitShow_sound hP h11)); clear_value x12
  extract_lets +onlyGivenNames x14
  have h15 : P x14 := State.senseCommit_sound hP (State.loopCommit_sound hP h13); clear_value x14
  extract_lets +onlyGivenNames x16
  have h17 : P x16 := State.trcGap_sound hP (State.gangCommit_sound hP h15); clear_value x16
  extract_lets +onlyGivenNames x18; clear_value x18
  extract_lets +onlyGivenNames x19
  have h20 : P x19 := ite_sound (State.homingFail_sound hP h17) h17; clear_value x19
  extract_lets +onlyGivenNames x21
  have h22 : P x21 := State.safeRelease_sound hP h20; clear_value x21
  extract_lets +onlyGivenNames x23
  have h24 : P x23 := ite_sound (State.toState_sound hP h22) h22; clear_value x23
  exact ite_sound (State.settle_sound hP (State.wr_sound hP h24)) (State.replan_sound hP (State.carrierCommit_sound hP h24))

theorem execCommitApply_sound (hP : Sound P) {n : Ch} {s : State} (hs : P s) : ∃ s', execCommitApply n s = .next s' ∧ P s' := by
  unfold execCommitApply
  refine ⟨_, rfl, ?_⟩
  refine State.whenCh_sound hP (fun a0 h1 => ?_) ?_
  · split
    · exact ite_sound (State.commitReject_sound hP h1) (ite_sound (State.commitApply_sound hP h1) h1)
    · exact h1
  · exact hs

theorem State.enterAt_sound (hP : Sound P) {s : State} {n : Ch} {tgt : ChState} {cause : Nat} (hs : P s) : P (State.enterAt s n tgt cause) := by
  unfold State.enterAt
  extract_lets +onlyGivenNames x0; clear_value x0
  extract_lets +onlyGivenNames x1
  have h2 : P x1 := State.toState_sound hP hs; clear_value x1
  extract_lets +onlyGivenNames x3
  have h4 : P x3 := by
    subst x3
    exact ite_sound (State.modCh_sound hP (fun _ => rfl) (State.wr_sound hP h2)) (ite_sound (State.suEnter_sound hP h2) (ite_sound (State.brkBegin_sound hP h2) h2))
  clear_value x3
  extract_lets +onlyGivenNames x5
  have h6 : P x5 := State.bstEnter_sound hP h4; clear_value x5
  exact ite_sound (State.settle_sound hP (State.brkShow_sound hP h6)) (State.replan_sound hP h6)

theorem State.startMove_sound (hP : Sound P) {s : State} {n : Ch} {cause : Nat} (hs : P s) : P (State.startMove s n cause) := by
  unfold State.startMove
  extract_lets +onlyGivenNames x0; subst x0
  exact ite_sound (State.enterAt_sound hP hs) (ite_sound (State.modCh_sound hP (fun _ => rfl) hs) (State.enterAt_sound hP (State.modCh_sound hP (fun _ => rfl) hs)))

theorem execBoundaryStateTransition_sound (hP : Sound P) {n : Ch} {s : State} (hs : P s) : ∃ s', execBoundaryStateTransition n s = .next s' ∧ P s' := by
  unfold execBoundaryStateTransition
  refine ⟨_, rfl, ?_⟩
  refine State.whenCh_sound hP (fun a0 h1 => ?_) ?_
  · split
    · exact State.enterAt_sound hP h1
    · exact ite_sound (State.startMove_sound hP h1) h1
  · exact hs

theorem execPrechargeComplete_sound (hP : Sound P) {n : Ch} {s : State} (hs : P s) : ∃ s', execPrechargeComplete n s = .next s' ∧ P s' := by
  unfold execPrechargeComplete
  refine ⟨_, rfl, ?_⟩
  refine State.whenCh_sound hP (fun a0 h1 => ?_) ?_
  · refine ite_sound ?_ ?_
    · exact h1
    · refine ite_sound ?_ ?_
      · extract_lets +onlyGivenNames x2
        have h3 : P x2 := State.enterAt_sound hP (State.wr_sound hP h1); clear_value x2
        exact ite_sound (State.enterAt_sound hP h3) h3
      · exact State.enterAt_sound hP (State.armRefuse_sound hP h1)
  · exact hs

theorem execChannelFaultExit_sound (hP : Sound P) {n : Ch} {s : State} (hs : P s) : ∃ s', execChannelFaultExit n s = .next s' ∧ P s' := by
  unfold execChannelFaultExit
  refine ⟨_, rfl, ?_⟩
  refine State.whenCh_sound hP (fun a0 h1 => ?_) ?_
  · exact ite_sound h1 (ite_sound (State.enterAt_sound hP h1) (ite_sound (State.startMove_sound hP h1) (State.enterAt_sound hP h1)))
  · exact hs

theorem State.standCntClr_sound (hP : Sound P) {s : State} (hs : P s) : P (State.standCntClr s) := by
  unfold State.standCntClr
  exact State.wrs_sound hP hs

theorem execStandCntClr_sound (hP : Sound P) {s : State} (hs : P s) : ∃ s', execStandCntClr s = .next s' ∧ P s' := by
  unfold execStandCntClr
  refine ⟨_, rfl, ?_⟩
  exact State.standCntClr_sound hP hs

theorem State.modGang_sound (hP : Sound P) {s : State} {n : Ch} {g : Gang → Gang} (hs : P s) : P (State.modGang s n g) := by
  unfold State.modGang
  exact State.modCh_sound hP (fun _ => rfl) hs

theorem State.leaderJoin_sound (hP : Sound P) {s : State} {n : Ch} {used : List Smeas} (hs : P s) : P (State.leaderJoin s n used) := by
  unfold State.leaderJoin
  extract_lets +onlyGivenNames x0; subst x0
  extract_lets +onlyGivenNames x1; clear_value x1
  extract_lets +onlyGivenNames x2; clear_value x2
  extract_lets +onlyGivenNames x3; clear_value x3
  extract_lets +onlyGivenNames x4; clear_value x4
  extract_lets +onlyGivenNames x5; clear_value x5
  extract_lets +onlyGivenNames x6
  have h7 : P x6 := State.modGang_sound hP (State.wr_sound hP hs); clear_value x6
  extract_lets +onlyGivenNames x8
  have h9 : P x8 := ite_sound h7 (State.wr_sound hP h7); clear_value x8
  exact ite_sound (State.putBit_sound hP (State.wrs_sound hP h9)) h9

theorem State.standMiss_sound (hP : Sound P) {s : State} {n : Ch} {k : Nat} (hs : P s) : P (State.standMiss s n k) := by
  unfold State.standMiss
  exact State.wrs_sound hP (State.inc_sound hP hs)

theorem State.slotMissSet_sound (hP : Sound P) {s : State} {n : Ch} (hs : P s) : P (State.slotMissSet s n) := by
  unfold State.slotMissSet
  extract_lets +onlyGivenNames x0; clear_value x0
  exact State.condSet_sound hP hs

theorem State.leaderMiss_sound (hP : Sound P) {s : State} {n : Ch} {used : List Smeas} (hs : P s) : P (State.leaderMiss s n used) := by
  unfold State.leaderMiss
  extract_lets +onlyGivenNames x0; clear_value x0
  extract_lets +onlyGivenNames x1; clear_value x1
  extract_lets +onlyGivenNames x2; clear_value x2
  extract_lets +onlyGivenNames x3; clear_value x3
  extract_lets +onlyGivenNames x4
  have h5 : P x4 := by
    subst x4
    refine foldl_sound (fun a6 a7 h8 => ?_) _ ?_
    · exact State.standMiss_sound hP h8
    · exact hs
  clear_value x4
  extract_lets +onlyGivenNames x9
  have h10 : P x9 := State.wr_sound hP h5; clear_value x9
  extract_lets +onlyGivenNames x11
  have h12 : P x11 := State.modGang_sound hP h10; clear_value x11
  exact State.slotMissSet_sound hP h12

theorem State.leaderHold_sound (hP : Sound P) {s : State} {n : Ch} (hs : P s) : P (State.leaderHold s n) := by
  unfold State.leaderHold
  extract_lets +onlyGivenNames x0; clear_value x0
  extract_lets +onlyGivenNames x1; clear_value x1
  extract_lets +onlyGivenNames x2; clear_value x2
  extract_lets +onlyGivenNames x3; clear_value x3
  extract_lets +onlyGivenNames x4
  have h5 : P x4 := by
    subst x4
    refine foldl_sound (fun a6 a7 h8 => ?_) _ ?_
    · exact State.incWrap_sound hP h8
    · exact hs
  clear_value x4
  extract_lets +onlyGivenNames x9; clear_value x9
  extract_lets +onlyGivenNames x10; clear_value x10
  extract_lets +onlyGivenNames x11
  have h12 : P x11 := State.modGang_sound hP h5; clear_value x11
  exact State.leaderJoin_sound hP (State.leaderMiss_sound hP h12)

theorem State.memberAct_sound (hP : Sound P) {s : State} {n : Ch} {cmd : Nat} (hs : P s) : P (State.memberAct s n cmd) := by
  unfold State.memberAct
  extract_lets +onlyGivenNames x0; subst x0
  extract_lets +onlyGivenNames x1; clear_value x1
  split
  · exact State.wr_sound hP (State.disarm_sound hP hs)
  · exact ite_sound (State.armNow_sound hP hs) (ite_sound (State.ask_sound hP hs) hs)
  · exact ite_sound (State.ask_sound hP hs) hs
  · exact ite_sound (State.ask_sound hP hs) hs
  · exact State.condSet_sound hP hs
  · exact hs

theorem State.memberHold_sound (hP : Sound P) {s : State} {n : Ch} (hs : P s) : P (State.memberHold s n) := by
  unfold State.memberHold
  extract_lets +onlyGivenNames x0; subst x0
  extract_lets +onlyGivenNames x1; clear_value x1
  extract_lets +onlyGivenNames x2; clear_value x2
  extract_lets +onlyGivenNames x3; clear_value x3
  extract_lets +onlyGivenNames x4; clear_value x4
  extract_lets +onlyGivenNames x5; clear_value x5
  extract_lets +onlyGivenNames x6
  have h7 : P x6 := State.modGang_sound hP hs; clear_value x6
  split
  · extract_lets +onlyGivenNames x8; clear_value x8
    extract_lets +onlyGivenNames x9
    have h10 : P x9 := State.wrs_sound hP (State.incWrap_sound hP h7); clear_value x9
    extract_lets +onlyGivenNames x11
    have h12 : P x11 := State.modGang_sound hP h10; clear_value x11
    extract_lets +onlyGivenNames x13
    have h14 : P x13 := ite_sound (State.condSet_sound hP h12) h12; clear_value x13
    exact State.memberAct_sound hP h14
  · extract_lets +onlyGivenNames x15; clear_value x15
    extract_lets +onlyGivenNames x16
    have h17 : P x16 := State.wrs_sound hP (State.standMiss_sound hP h7); clear_value x16
    extract_lets +onlyGivenNames x18
    have h19 : P x18 := State.modGang_sound hP h17; clear_value x18
    exact ite_sound (State.condSet_sound hP h19) h19

theorem execPhaseCurrentHold_sound (hP : Sound P) {n : Ch} {s : State} (hs : P s) : ∃ s', execPhaseCurrentHold n s = .next s' ∧ P s' := by
  unfold execPhaseCurrentHold
  refine ⟨_, rfl, ?_⟩
  refine State.whenCh_sound hP (fun a0 h1 => ?_) ?_
  · refine ite_sound ?_ ?_
    · exact h1
    · extract_lets +onlyGivenNames x2; clear_value x2
      extract_lets +onlyGivenNames x3
      have h4 : P x3 := State.modCh_sound hP (fun _ => rfl) h1; clear_value x3
      extract_lets +onlyGivenNames x5
      have h6 : P x5 := by
        subst x5
        split
        · exact State.leaderHold_sound hP h4
        · exact State.memberHold_sound hP h4
        · exact State.modGang_sound hP h4
      clear_value x5
      exact State.settleAll_sound hP h6
  · exact hs

theorem execSrefSlot_sound (hP : Sound P) {n : Ch} {s : State} (hs : P s) : ∃ s', execSrefSlot n s = .next s' ∧ P s' := by
  unfold execSrefSlot
  refine ⟨_, rfl, ?_⟩
  refine State.whenCh_sound hP (fun a0 h1 => ?_) ?_
  · refine ite_sound ?_ ?_
    · exact h1
    · extract_lets +onlyGivenNames x2; clear_value x2
      extract_lets +onlyGivenNames x3; clear_value x3
      extract_lets +onlyGivenNames x4
      have h5 : P x4 := State.modGang_sound hP h1; clear_value x4
      refine foldl_sound (fun a6 a7 h8 => ?_) _ ?_
      · exact State.send_sound hP (State.incWrap_sound hP h8)
      · exact h5
  · exact hs

theorem execSmeasSlot_sound (hP : Sound P) {n : Ch} {s : State} (hs : P s) : ∃ s', execSmeasSlot n s = .next s' ∧ P s' := by
  unfold execSmeasSlot
  refine ⟨_, rfl, ?_⟩
  refine State.whenCh_sound hP (fun a0 h1 => ?_) ?_
  · extract_lets +onlyGivenNames x2; clear_value x2
    refine ite_sound ?_ ?_
    · exact h1
    · extract_lets +onlyGivenNames x3; subst x3
      extract_lets +onlyGivenNames x4; clear_value x4
      extract_lets +onlyGivenNames x5; clear_value x5
      extract_lets +onlyGivenNames x6; clear_value x6
      extract_lets +onlyGivenNames x7; clear_value x7
      extract_lets +onlyGivenNames x8; clear_value x8
      extract_lets +onlyGivenNames x9; clear_value x9
      exact State.send_sound hP (State.incWrap_sound hP h1)
  · exact hs

theorem State.takePkt_sound (hP : Sound P) {s : State} {p : Pkt → Bool} (hs : P s) {y : Pkt × Nat × State}
    (e : s.takePkt p = some y) : P y.2.2 := by
  unfold State.takePkt at e
  split at e
  · cases e; exact hP.same s (State.base_eq rfl rfl rfl rfl rfl rfl rfl) hs
  · cases e

theorem State.srefTo_sound (hP : Sound P) {s : State} {p : Pkt} {c : Ch} (hs : P s) : P (State.srefTo s p c) := by
  unfold State.srefTo
  extract_lets +onlyGivenNames x0; subst x0
  extract_lets +onlyGivenNames x1; clear_value x1
  extract_lets +onlyGivenNames x2
  have h3 : P x2 := ite_sound (State.settleAll_sound hP (State.condSet_sound hP (State.modGang_sound hP hs))) hs; clear_value x2
  exact ite_sound (State.wr_sound hP (State.inc_sound hP (State.inc_sound hP h3))) (State.modGang_sound hP h3)

theorem execSrefReceived_sound (hP : Sound P) {s : State} (hs : P s) : ∃ s', execSrefReceived s = .next s' ∧ P s' := by
  unfold execSrefReceived
  refine ⟨_, rfl, ?_⟩
  split
  · exact hs
  · rename_i y0 y1 y2 e3
    have h4 : P y2 := by
      refine State.takePkt_sound hP ?_ e3
      exact hs
    refine ite_sound ?_ ?_
    · exact State.wr_sound hP (State.inc_sound hP h4)
    · refine foldl_sound (fun a5 a6 h7 => ?_) _ ?_
      · exact State.srefTo_sound hP h7
      · exact h4

theorem execSmeasReceived_sound (hP : Sound P) {s : State} (hs : P s) : ∃ s', execSmeasReceived s = .next s' ∧ P s' := by
  unfold execSmeasReceived
  refine ⟨_, rfl, ?_⟩
  split
  · exact hs
  · rename_i y0 y1 y2 e3
    have h4 : P y2 := by
      refine State.takePkt_sound hP ?_ e3
      exact hs
    extract_lets +onlyGivenNames x5; clear_value x5
    extract_lets +onlyGivenNames x6; clear_value x6
    refine foldl_sound (fun a7 a8 h9 => ?_) _ ?_
    · exact ite_sound h9 (State.modGang_sound hP h9)
    · exact h4

theorem execStandFollowTimeout_sound (hP : Sound P) {n : Ch} {s : State} (hs : P s) : ∃ s', execStandFollowTimeout n s = .next s' ∧ P s' := by
  unfold execStandFollowTimeout
  refine ⟨_, rfl, ?_⟩
  refine State.whenCh_sound hP (fun a0 h1 => ?_) ?_
  · exact ite_sound (State.settleAll_sound hP (State.slotMissSet_sound hP (State.modGang_sound hP h1))) h1
  · exact hs

theorem execTimeLossHoldoverExpiry_sound (hP : Sound P) {s : State} (hs : P s) : ∃ s', execTimeLossHoldoverExpiry s = .next s' ∧ P s' := by
  unfold execTimeLossHoldoverExpiry
  refine ⟨_, rfl, ?_⟩
  exact ite_sound (State.wrs_sound hP hs) hs

end Sys2Proof.Machine
end

