-- ==== Sys2Proof/Laws/SoundBus.lean ====
section
/-! SUPPORT. Bus, Grove instructions, jobs, host SPI, endpoints and pins keep what `Sound` names: one lemma per operation. -/

namespace Sys2Proof.Machine

variable {P : State → Prop}

theorem State.act_sound (hP : Sound P) {s : State} {f : State → Host.Outcome State Fault Refusal} (hf : ∀ a, P a → ∃ t, f a = .next t ∧ P t)
    (hs : P s) : P (State.act s f) := by
  unfold State.act
  obtain ⟨t, e, h⟩ := hf s hs
  rw [e]
  exact h

theorem State.readEffect_sound (hP : Sound P) {s : State} {t : Target} {w : Word} (hs : P s) : P (State.readEffect s t w) := by
  unfold State.readEffect
  split
  · exact State.nowLatch_sound hP hs
  · exact State.act_sound hP (fun _ h => execCanStatusRead_sound hP h) hs
  · exact State.act_sound hP (fun _ h => execCanStatusRead_sound hP h) hs
  · exact State.sidxNext_sound hP hs
  · exact hs

theorem State.busRead_sound (hP : Sound P) {s : State} {m a : Nat} (hs : P s) : P (State.busRead s m a).2 := by
  unfold State.busRead
  extract_lets +onlyGivenNames x0; clear_value x0
  extract_lets +onlyGivenNames x1; clear_value x1
  extract_lets +onlyGivenNames x2; clear_value x2
  exact snd_mk (ite_sound (State.readEffect_sound hP hs) (State.busErr_sound hP hs))

theorem State.irqEnWrite_sound (hP : Sound P) {s : State} {p : Nat} {w : Word} (hs : P s) : P (State.irqEnWrite s p w) := by
  unfold State.irqEnWrite
  exact State.setWord_sound hP hs

theorem State.plain_sound (hP : Sound P) {s : State} {p off : Nat} {w : Word} (hs : P s) : P (State.plain s p off w) := by
  unfold State.plain
  extract_lets +onlyGivenNames x0; clear_value x0
  extract_lets +onlyGivenNames x1; clear_value x1
  extract_lets +onlyGivenNames x2; clear_value x2
  extract_lets +onlyGivenNames x3
  have h4 : P x3 := State.setWord_sound hP hs; clear_value x3
  exact ite_sound (State.wrDenied_sound hP h4) h4

theorem State.faultWrite_sound (hP : Sound P) {s : State} {p : Nat} {w : Word} (hs : P s) : P (State.faultWrite s p w) := by
  unfold State.faultWrite
  extract_lets +onlyGivenNames x0; clear_value x0
  extract_lets +onlyGivenNames x1
  have h2 : P x1 := State.plain_sound hP hs; clear_value x1
  refine foldl_sound (fun a3 a4 h5 => ?_) _ ?_
  · split
    · exact ite_sound (State.setFaultBit_sound hP h5) h5
    · exact h5
  · exact h2

theorem State.lockWrite_sound (hP : Sound P) {s : State} {p : Nat} {w : Word} (hs : P s) : P (State.lockWrite s p w) := by
  unfold State.lockWrite
  extract_lets +onlyGivenNames x0; clear_value x0
  extract_lets +onlyGivenNames x1
  have h2 : P x1 := ite_sound (State.scanDrop_sound hP hs) hs; clear_value x1
  extract_lets +onlyGivenNames x3; clear_value x3
  exact State.setWord_sound hP h2

theorem State.actBit_sound (hP : Sound P) {s : State} {w : Word} {k : Nat} {f : State → Host.Outcome State Fault Refusal} (hf1 : ∀ a0, P a0 → ∃ s', f a0 = .next s' ∧ P s') (hs : P s) : P (State.actBit s w k f) := by
  unfold State.actBit
  exact ite_sound (State.act_sound hP hf1 hs) hs

theorem State.grvCtrl_sound (hP : Sound P) {s : State} {n : Ch} {w : Word} (hs : P s) : P (State.grvCtrl s n w) := by
  unfold State.grvCtrl
  exact State.actBit_sound hP (fun _ h => execGrvCntClr_sound hP h) (State.actBit_sound hP (fun _ h => execGrvHostEv_sound hP h) (State.actBit_sound hP (fun _ h => execGrvStart_sound hP h) (State.actBit_sound hP (fun _ h => execGrvVerify_sound hP h) (State.actBit_sound hP (fun _ h => execGrvLoadRom_sound hP h) (State.actBit_sound hP (fun _ h => execGrvReset_sound hP h) (State.actBit_sound hP (fun _ h => execGrvStop_sound hP h) hs))))))

theorem State.chanWrite_sound (hP : Sound P) {s : State} {n : Ch} {k off : Nat} {w : Word} (hs : P s) : P (State.chanWrite s n k off w) := by
  unfold State.chanWrite
  extract_lets +onlyGivenNames x0; clear_value x0
  split
  · extract_lets +onlyGivenNames x1
    have h2 : P x1 := by
      subst x1
      exact State.actBit_sound hP (fun _ h => execCommit_sound hP h) (State.actBit_sound hP (fun _ h => execChStop_sound hP h) (State.actBit_sound hP (fun _ h => execChDisarm_sound hP h) hs))
    clear_value x1
    exact ite_sound h2 (State.actBit_sound hP (fun _ h => execChRun_sound hP h) (State.actBit_sound hP (fun _ h => execChArm_sound hP h) h2))
  · exact State.actBit_sound hP (fun _ h => execPwmCntClr_sound hP h) hs
  · exact State.actBit_sound hP (fun _ h => execZcal_sound hP h) (State.actBit_sound hP (fun _ h => execOffcal_sound hP h) hs)
  · exact State.wr_sound hP (State.plain_sound hP hs)
  · exact State.wr_sound hP (State.plain_sound hP hs)
  · exact State.wr_sound hP (State.plain_sound hP hs)
  · exact State.actBit_sound hP (fun _ h => execEncLoad_sound hP h) (State.actBit_sound hP (fun _ h => execPosCntClr_sound hP h) hs)
  · exact State.actBit_sound hP (fun _ h => execLoopCntClr_sound hP h) hs
  · exact State.actBit_sound hP (fun _ h => execBankSwap_sound hP h) (State.plain_sound hP hs)
  · exact State.auxRef_sound hP hs
  · exact State.auxRef_sound hP hs
  · exact State.nodeWrite_sound hP hs
  · refine dite_sound (fun _ => ?_) (fun _ => ?_)
    · exact State.bankWrite_sound hP hs
    · exact State.plain_sound hP hs
  · refine dite_sound (fun _ => ?_) (fun _ => ?_)
    · exact State.bankWrite_sound hP hs
    · exact State.plain_sound hP hs
  · exact State.actBit_sound hP (fun _ h => execObsPcClr_sound hP h) (State.actBit_sound hP (fun _ h => execObsReseed_sound hP h) hs)
  · exact State.actBit_sound hP (fun _ h => execPosAck_sound hP h) (State.plain_sound hP hs)
  · exact State.tgtWrite_sound hP hs
  · exact State.ptgtTurnsWrite_sound hP hs
  · exact State.ptgtFracWrite_sound hP hs
  · exact State.grvCtrl_sound hP hs
  · exact ite_sound (State.grvIgnored_sound hP (ite_sound (State.wrDenied_sound hP hs) hs)) (State.plain_sound hP hs)
  · exact State.act_sound hP (fun _ h => execMboxFree_sound hP h) hs
  · exact State.act_sound hP (fun _ h => execGrvSignal_sound hP h) hs
  · exact State.actBit_sound hP (fun _ h => execTrcEnd_sound hP h) (State.actBit_sound hP (fun _ h => execTrcForce_sound hP h) hs)
  · exact ite_sound (State.wr_sound hP hs) (State.plain_sound hP hs)
  · exact State.act_sound hP (fun _ h => execDiagTestiWrite_sound hP h) hs
  · exact State.plain_sound hP hs

theorem State.standbyWrite_sound (hP : Sound P) {s : State} {key : BitVec 8} (hs : P s) : P (State.standbyWrite s key) := by
  unfold State.standbyWrite
  exact State.act_sound hP (fun _ h => execStandby_sound hP h) (State.used_sound hP hs)

theorem State.pwrWrite_sound (hP : Sound P) {s : State} {off : Nat} {w : Word} (hs : P s) : P (State.pwrWrite s off w) := by
  unfold State.pwrWrite
  split
  · exact ite_sound (State.standbyWrite_sound hP hs) hs
  · exact State.act_sound hP (fun _ h => execDomOn_sound hP h) hs
  · exact State.act_sound hP (fun _ h => execDomOff_sound hP h) hs
  · exact State.plain_sound hP hs
  · exact State.act_sound hP (fun _ h => execVdrvRegEnWrite_sound hP h) hs
  · exact State.plain_sound hP hs

theorem State.otpWrite_sound (hP : Sound P) {s : State} {off : Nat} {w : Word} (hs : P s) : P (State.otpWrite s off w) := by
  unfold State.otpWrite
  split
  · exact State.actBit_sound hP (fun _ h => execPatchClr_sound hP h) (State.actBit_sound hP (fun _ h => execPatchApply_sound hP h) (State.actBit_sound hP (fun _ h => execVerifyNow_sound hP h) hs))
  · exact State.act_sound hP (fun _ h => execPatchDataWrite_sound hP h) hs
  · exact State.plain_sound hP hs

theorem State.fltsWrite_sound (hP : Sound P) {s : State} {off : Nat} {w : Word} (hs : P s) : P (State.fltsWrite s off w) := by
  unfold State.fltsWrite
  split
  · exact State.actBit_sound hP (fun _ h => execEvtClr_sound hP h) (State.actBit_sound hP (fun _ h => execRecovClr_sound hP h) (State.actBit_sound hP (fun _ h => execFltsClear_sound hP h) hs))
  · exact State.act_sound hP (fun _ h => execFltsCfgWrite_sound hP h) hs
  · exact State.act_sound hP (fun _ h => execFltsTimeWrite_sound hP h) hs
  · exact State.plain_sound hP hs

theorem State.hspiCntClr_sound (hP : Sound P) {s : State} (hs : P s) : P (State.hspiCntClr s) := by
  unfold State.hspiCntClr
  exact State.wrs_sound hP hs

theorem State.mspiWrite_sound (hP : Sound P) {s : State} {m : Fin 2} {off : Nat} {w : Word} (hs : P s) : P (State.mspiWrite s m off w) := by
  unfold State.mspiWrite
  extract_lets +onlyGivenNames x0; clear_value x0
  refine ite_sound ?_ ?_
  · extract_lets +onlyGivenNames x1
    have h2 : P x1 := ite_sound (State.wrDenied_sound hP hs) (ite_sound hs (State.mspiEn_sound hP hs)); clear_value x1
    exact State.actBit_sound hP (fun _ h => execMspiSwtrig_sound hP h) (State.actBit_sound hP (fun _ h => execMspiSwtrig_sound hP h) (State.actBit_sound hP (fun _ h => execMspiSwtrig_sound hP h) (State.actBit_sound hP (fun _ h => execMspiSwtrig_sound hP h) h2)))
  · exact State.plain_sound hP hs

theorem State.scxWrite_sound (hP : Sound P) {s : State} {m : Fin 2} {off : Nat} {w : Word} (hs : P s) : P (State.scxWrite s m off w) := by
  unfold State.scxWrite
  exact ite_sound (State.act_sound hP (fun _ h => execScxEnable_sound hP h) hs) (State.plain_sound hP hs)

theorem State.jobWrite_sound (hP : Sound P) {s : State} {m off : Nat} {w : Word} (hs : P s) : P (State.jobWrite s m off w) := by
  unfold State.jobWrite
  refine ite_sound ?_ ?_
  · extract_lets +onlyGivenNames x0; subst x0
    extract_lets +onlyGivenNames x1; clear_value x1
    extract_lets +onlyGivenNames x2
    have h3 : P x2 := hP.same s (State.base_eq rfl rfl rfl rfl rfl rfl rfl) hs; clear_value x2
    exact ite_sound (State.jobBlock_sound hP h3) h3
  · exact State.plain_sound hP hs

theorem State.gpioWrite_sound (hP : Sound P) {s : State} {off : Nat} {w : Word} (hs : P s) : P (State.gpioWrite s off w) := by
  unfold State.gpioWrite
  split
  · exact State.orBits_sound hP hs
  · exact State.clrBits_sound hP hs
  · exact State.plain_sound hP hs

theorem State.regVal_sound (hP : Sound P) {s : State} {w : Word} (hs : P s) : P (State.regVal s w) := by
  unfold State.regVal
  extract_lets +onlyGivenNames x0; subst x0
  extract_lets +onlyGivenNames x1; clear_value x1
  exact ite_sound hs (ite_sound (State.setG_sound hP hs) (ite_sound (State.modGrv_sound hP hs) (ite_sound (State.wr_sound hP hs) hs)))

theorem State.dbgWrite_sound (hP : Sound P) {step : State → State} {s : State} {off : Nat} {w : Word} (hf0 : ∀ a0, P a0 → P (step a0)) (hs1 : P s) : P (State.dbgWrite step s off w) := by
  unfold State.dbgWrite
  split
  · extract_lets +onlyGivenNames x0
    have h1 : P x0 := by
      subst x0
      exact State.actBit_sound hP (fun _ h => execDbgResume_sound hP h) (State.actBit_sound hP (fun _ h => execDbgHalt_sound hP h) (State.plain_sound hP hs1))
    clear_value x0
    exact ite_sound (hf0 _ h1) h1
  · exact State.regVal_sound hP hs1
  · exact State.plain_sound hP hs1

theorem State.fabWrite_sound (hP : Sound P) {s : State} {off : Nat} {w : Word} (hs : P s) : P (State.fabWrite s off w) := by
  unfold State.fabWrite
  split
  · exact State.actBit_sound hP (fun _ h => execForget_sound hP h) (State.actBit_sound hP (fun _ h => execFabCntClr_sound hP h) hs)
  · exact hs
  · exact State.plain_sound hP hs
  · exact State.plain_sound hP hs
  · refine State.whenLink_sound hP (fun a0 h1 => ?_) ?_
    · exact State.settleAll_sound hP (State.reoffer_sound hP h1)
    · exact State.plain_sound hP hs
  · extract_lets +onlyGivenNames x2
    have h3 : P x2 := State.settleBuckets_sound hP hs; clear_value x2
    extract_lets +onlyGivenNames x4; clear_value x4
    extract_lets +onlyGivenNames x5; clear_value x5
    exact State.plain_sound hP h3
  · exact State.plain_sound hP hs

theorem State.lnkWrite_sound (hP : Sound P) {s : State} {p : Ch} {off : Nat} {w : Word} (hs : P s) : P (State.lnkWrite s p off w) := by
  unfold State.lnkWrite
  refine ite_sound ?_ ?_
  · extract_lets +onlyGivenNames x0
    have h1 : P x0 := ite_sound hs (State.act_sound hP (fun _ h => execLnkEn_sound hP h) hs); clear_value x0
    exact State.actBit_sound hP (fun _ h => execLnkRetrain_sound hP h) (State.actBit_sound hP (fun _ h => execLnkCntClr_sound hP h) h1)
  · exact State.plain_sound hP hs

theorem State.timeWrite_sound (hP : Sound P) {s : State} {off : Nat} {w : Word} (hs : P s) : P (State.timeWrite s off w) := by
  unfold State.timeWrite
  split
  · exact State.actBit_sound hP (fun _ h => execTimeCntClr_sound hP h) (State.actBit_sound hP (fun _ h => execTimeSet_sound hP h) hs)
  · extract_lets +onlyGivenNames x0; clear_value x0
    exact State.plain_sound hP hs
  · exact State.plain_sound hP hs
  · exact State.plain_sound hP hs

theorem State.standWrite_sound (hP : Sound P) {s : State} {off : Nat} {w : Word} (hs : P s) : P (State.standWrite s off w) := by
  unfold State.standWrite
  split
  · exact State.actBit_sound hP (fun _ h => execStandCntClr_sound hP h) hs
  · extract_lets +onlyGivenNames x0; clear_value x0
    exact State.plain_sound hP hs
  · extract_lets +onlyGivenNames x1; clear_value x1
    exact State.plain_sound hP hs
  · exact State.plain_sound hP hs

theorem State.fbkWrite_sound (hP : Sound P) {s : State} {off : Nat} {w : Word} (hs : P s) : P (State.fbkWrite s off w) := by
  unfold State.fbkWrite
  split
  · exact State.actBit_sound hP (fun _ h => execFbkHalt_sound hP h) (State.actBit_sound hP (fun _ h => execFbkRelease_sound hP h) hs)
  · extract_lets +onlyGivenNames x0; clear_value x0
    extract_lets +onlyGivenNames x1
    have h2 : P x1 := State.plain_sound hP hs; clear_value x1
    extract_lets +onlyGivenNames x3; clear_value x3
    extract_lets +onlyGivenNames x4
    have h5 : P x4 := ite_sound (State.haltPin_sound hP (State.wr_sound hP h2)) h2; clear_value x4
    exact ite_sound (State.settleAll_sound hP (State.haltAssert_sound hP h5)) h5
  · exact State.plain_sound hP hs

theorem State.canWindow_sound (hP : Sound P) {s : State} {m : Fin 2} {off : Nat} {w : Word} (hs : P s) : P (State.canWindow s m off w) := by
  unfold State.canWindow
  extract_lets +onlyGivenNames x0; clear_value x0
  exact ite_sound hs (ite_sound (State.wr_sound hP hs) (ite_sound (State.modCan_sound hP hs) hs))

theorem State.canWrite_sound (hP : Sound P) {s : State} {m : Fin 2} {off : Nat} {w : Word} (hs : P s) : P (State.canWrite s m off w) := by
  unfold State.canWrite
  extract_lets +onlyGivenNames x0; clear_value x0
  split
  · exact State.actBit_sound hP (fun _ h => execCanFifoPop_sound hP h) (State.actBit_sound hP (fun _ h => execCanRecover_sound hP h) (State.act_sound hP (fun _ h => execCanInitWrite_sound hP h) (State.used_sound hP hs)))
  · exact State.act_sound hP (fun _ h => execCanFilterApply_sound hP h) hs
  · exact State.act_sound hP (fun _ h => execCanBpend_sound hP h) (State.used_sound hP hs)
  · exact State.act_sound hP (fun _ h => execCanBabort_sound hP h) (State.used_sound hP hs)
  · exact State.canNext_sound hP (State.plain_sound hP hs)
  · exact State.canShowFilt_sound hP (State.plain_sound hP hs)
  · exact ite_sound (ite_sound (State.plain_sound hP hs) (State.wr_sound hP hs)) (ite_sound (State.canWindow_sound hP hs) (State.plain_sound hP hs))

theorem State.netWrite_sound (hP : Sound P) {s : State} {off : Nat} {w : Word} (hs : P s) : P (State.netWrite s off w) := by
  unfold State.netWrite
  extract_lets +onlyGivenNames x0
  have h1 : ∀ a2, P (x0 a2) := by
    intro a2
    subst x0
    beta_reduce
    exact State.modSs_sound hP hs
  try clear_value x0
  split
  · exact State.actBit_sound hP (fun _ h => execReclaim_sound hP h) hs
  · extract_lets +onlyGivenNames x3; try clear_value x3
    extract_lets +onlyGivenNames x4
    have h5 : P x4 := State.plain_sound hP hs; try clear_value x4
    exact State.settleAll_sound hP (State.netEnable_sound hP h5)
  · extract_lets +onlyGivenNames x6; try clear_value x6
    refine ite_sound ?_ ?_
    · exact State.act_sound hP (fun _ h => execSessionStart_sound hP h) hs
    · extract_lets +onlyGivenNames x7
      have h8 : P x7 := h1 _ ; try clear_value x7
      refine ite_sound ?_ ?_
      · exact State.act_sound hP (fun _ h => execSessionNext_sound hP h) h8
      · exact ite_sound (State.act_sound hP (fun _ h => execSessionRelease_sound hP h) h8) (ite_sound (State.act_sound hP (fun _ h => execSessionAbort_sound hP h) h8) h8)
  · exact h1 _ 
  · exact h1 _ 
  · exact State.act_sound hP (fun _ h => execNetSdataWrite_sound hP h) hs
  · exact State.plain_sound hP hs

theorem State.devWrite_sound (hP : Sound P) {step : State → State} {s : State} {m p off : Nat} {w : Word} (hf0 : ∀ a0, P a0 → P (step a0)) (hs1 : P s) : P (State.devWrite step s m p off w) := by
  unfold State.devWrite
  split
  · exact ite_sound (ite_sound (State.act_sound hP (fun _ h => execDevrst_sound hP h) hs1) hs1) (State.plain_sound hP hs1)
  · exact State.pwrWrite_sound hP hs1
  · exact State.otpWrite_sound hP hs1
  · exact ite_sound (State.actBit_sound hP (fun _ h => execClrLatched_sound hP h) (State.plain_sound hP hs1)) (State.plain_sound hP hs1)
  · exact State.fltsWrite_sound hP hs1
  · refine ite_sound ?_ ?_
    · exact State.actBit_sound hP (fun _ h => execStestNow_sound hP h) (State.actBit_sound hP (fun _ h => execRecap_sound hP h) hs1)
    · extract_lets +onlyGivenNames x0
      have h1 : P x0 := State.plain_sound hP hs1; clear_value x0
      exact hP.same x0 (State.base_eq rfl rfl rfl rfl rfl rfl rfl) h1
  · extract_lets +onlyGivenNames x2
    have h3 : P x2 := State.plain_sound hP hs1; clear_value x2
    exact ite_sound (State.hspiCntClr_sound hP h3) h3
  · exact State.mspiWrite_sound hP hs1
  · exact State.mspiWrite_sound hP hs1
  · exact State.scxWrite_sound hP hs1
  · exact State.scxWrite_sound hP hs1
  · exact State.jobWrite_sound hP hs1
  · extract_lets +onlyGivenNames x4
    have h5 : P x4 := State.plain_sound hP hs1; clear_value x4
    exact ite_sound (State.wr_sound hP h5) h5
  · exact State.gpioWrite_sound hP hs1
  · exact State.dbgWrite_sound hP hf0 hs1
  · exact State.fabWrite_sound hP hs1
  · exact State.lnkWrite_sound hP hs1
  · exact State.lnkWrite_sound hP hs1
  · exact State.lnkWrite_sound hP hs1
  · exact State.lnkWrite_sound hP hs1
  · refine ite_sound ?_ ?_
    · exact State.actBit_sound hP (fun _ h => execTxnCntClr_sound hP h) (State.actBit_sound hP (fun _ h => execHrxPop_sound hP h) (State.actBit_sound hP (fun _ h => execTxnGo_sound hP h) hs1))
    · exact State.plain_sound hP hs1
  · exact State.timeWrite_sound hP hs1
  · exact State.standWrite_sound hP hs1
  · exact State.fbkWrite_sound hP hs1
  · exact State.canWrite_sound hP hs1
  · exact State.canWrite_sound hP hs1
  · exact State.netWrite_sound hP hs1
  · exact State.plain_sound hP hs1

theorem State.pageWrite_sound (hP : Sound P) {step : State → State} {s : State} {m p off : Nat} {w : Word} (hf0 : ∀ a0, P a0 → P (step a0)) (hs1 : P s) : P (State.pageWrite step s m p off w) := by
  unfold State.pageWrite
  refine ite_sound ?_ ?_
  · exact hs1
  · refine ite_sound ?_ ?_
    · exact State.irqEnWrite_sound hP hs1
    · refine ite_sound ?_ ?_
      · exact State.faultWrite_sound hP hs1
      · refine ite_sound ?_ ?_
        · exact State.lockWrite_sound hP hs1
        · refine dite_sound (fun _ => ?_) (fun _ => ?_)
          · exact State.chanWrite_sound hP hs1
          · exact State.devWrite_sound hP hf0 hs1

theorem State.busWriteWith_sound (hP : Sound P) {step : State → State} {s : State} {m a : Nat} {w : Word} (hf0 : ∀ a0, P a0 → P (step a0)) (hs1 : P s) : P (State.busWriteWith step s m a w) := by
  unfold State.busWriteWith
  extract_lets +onlyGivenNames x0; clear_value x0
  extract_lets +onlyGivenNames x1; clear_value x1
  refine ite_sound ?_ ?_
  · exact State.busErr_sound hP hs1
  · split
    · exact State.pageWrite_sound hP hf0 hs1
    · exact State.act_sound hP (fun _ h => execProgramRamWrite_sound hP h) hs1
    · exact State.setMemWord_sound hP hs1
    · exact State.act_sound hP (fun _ h => execRouteTableWrite_sound hP h) hs1
    · exact hs1

theorem State.gTake_sound (hP : Sound P) {s : State} {n : Ch} {k : Nat} (hs : P s) : P (State.gTake s n k) := by
  unfold State.gTake
  exact State.modGrv_sound hP hs

theorem State.gNext_sound (hP : Sound P) {s : State} {n : Ch} {k : Nat} (hs : P s) : P (State.gNext s n k) := by
  unfold State.gNext
  exact State.gTake_sound hP (State.gInc_sound hP hs)

theorem State.gStop_sound (hP : Sound P) {s : State} {n : Ch} (hs : P s) : P (State.gStop s n) := by
  unfold State.gStop
  exact State.wrs_sound hP (State.gNext_sound hP hs)

theorem State.gTo_sound (hP : Sound P) {s : State} {n : Ch} {t : Nat} (hs : P s) : P (State.gTo s n t) := by
  unfold State.gTo
  exact State.modGrv_sound hP (State.wr_sound hP hs)

theorem State.gRet_sound (hP : Sound P) {s : State} {n : Ch} (hs : P s) : P (State.gRet s n) := by
  unfold State.gRet
  split
  · exact State.gExc_sound hP hs
  · exact State.gTake_sound hP (State.gTo_sound hP (State.modGrv_sound hP hs))

theorem State.gNzcv_sound (hP : Sound P) {s : State} {n : Ch} {r : Word} {c v : Bool} (hs : P s) : P (State.gNzcv s n r c v) := by
  unfold State.gNzcv
  exact State.modGrv_sound hP hs

theorem State.gNz_sound (hP : Sound P) {s : State} {n : Ch} {r : Word} (hs : P s) : P (State.gNz s n r) := by
  unfold State.gNz
  exact State.modGrv_sound hP hs

theorem State.aluFlags_sound (hP : Sound P) {s : State} {n : Ch} {o : GAlu} {a b r : Word} (hs : P s) : P (State.aluFlags s n o a b r) := by
  unfold State.aluFlags
  split
  · exact State.gNzcv_sound hP hs
  · exact State.gNzcv_sound hP hs
  · exact hs
  · exact hs
  · exact hs
  · exact hs
  · exact hs
  · exact hs
  · exact hs
  · exact State.gNz_sound hP hs
  · exact State.gNz_sound hP hs
  · exact State.gNz_sound hP hs
  · exact State.gNz_sound hP hs
  · exact State.gNz_sound hP hs
  · exact State.gNz_sound hP hs
  · exact State.gNz_sound hP hs
  · exact State.gNz_sound hP hs
  · exact State.gNz_sound hP hs

theorem State.gAlu_sound (hP : Sound P) {s : State} {n : Ch} {o : GAlu} {rd ra rb : GReg} (hs : P s) : P (State.gAlu s n o rd ra rb) := by
  unfold State.gAlu
  extract_lets +onlyGivenNames x0; clear_value x0
  extract_lets +onlyGivenNames x1; clear_value x1
  extract_lets +onlyGivenNames x2; clear_value x2
  exact State.gNext_sound hP (State.aluFlags_sound hP (State.setG_sound hP hs))

theorem State.gUn_sound (hP : Sound P) {s : State} {n : Ch} {o : GUn} {rd ra : GReg} (hs : P s) : P (State.gUn s n o rd ra) := by
  unfold State.gUn
  exact State.gNext_sound hP (State.setG_sound hP hs)

theorem State.gImm_sound (hP : Sound P) {s : State} {n : Ch} {o : GImmOp} {rd ra : GReg} {i : GImm} (hs : P s) : P (State.gImm s n o rd ra i) := by
  unfold State.gImm
  extract_lets +onlyGivenNames x0; clear_value x0
  extract_lets +onlyGivenNames x1; clear_value x1
  extract_lets +onlyGivenNames x2; clear_value x2
  extract_lets +onlyGivenNames x3
  have h4 : P x3 := State.setG_sound hP hs; clear_value x3
  extract_lets +onlyGivenNames x5
  have h6 : P x5 := by
    subst x5
    split
    · exact State.gNzcv_sound hP h4
    · exact State.gNz_sound hP h4
  clear_value x5
  exact State.gNext_sound hP h6

theorem State.gEcc_sound (hP : Sound P) {s : State} {n : Ch} {k : Nat} (hs : P s) : P (State.gEcc s n k) := by
  unfold State.gEcc
  exact State.gExc_sound hP (State.eccUncorr_sound hP hs)

theorem State.gJpost_sound (hP : Sound P) {s : State} {n : Ch} {rd : GReg} {a : Nat} (hs : P s) : P (State.gJpost s n rd a) := by
  unfold State.gJpost
  extract_lets +onlyGivenNames x0; clear_value x0
  extract_lets +onlyGivenNames x1
  have h2 : P x1 := State.jobPost_sound hP hs; clear_value x1
  exact State.gNext_sound hP (State.setG_sound hP h2)

theorem State.gAcc_sound (hP : Sound P) {s : State} {n : Ch} {o : GAcc} {rd ra : GReg} {i : GImm} {ecc : Bool} (hs : P s) : P (State.gAcc s n o rd ra i ecc) := by
  unfold State.gAcc
  extract_lets +onlyGivenNames x0; clear_value x0
  extract_lets +onlyGivenNames x1; clear_value x1
  split
  · exact ite_sound (State.gExc_sound hP hs) (ite_sound (State.gEcc_sound hP hs) (State.gNext_sound hP (State.setG_sound hP hs)))
  · exact ite_sound (State.gExc_sound hP hs) (State.gNext_sound hP (State.setMemWord_sound hP hs))
  · exact ite_sound (State.gExc_sound hP hs) (State.gNext_sound hP (State.setG_sound hP hs))
  · exact ite_sound (State.gExc_sound hP hs) (State.gNext_sound hP (State.nodeWrite_sound hP hs))
  · exact ite_sound (State.gExc_sound hP hs) (State.gNext_sound hP (State.setG_sound hP hs))
  · refine ite_sound ?_ ?_
    · exact State.gExc_sound hP hs
    · refine State.pageWrite_sound hP (fun a2 h3 => ?_) ?_
      · exact h3
      · exact State.gNext_sound hP hs
  · split
    · rename_i y4 y5 e6
      have h7 : P y5 := by
        rw [show y5 = _ from (congrArg Prod.snd e6).symm]
        exact State.busRead_sound hP hs
      exact State.gNext_sound hP (State.setG_sound hP h7)
  · refine State.busWriteWith_sound hP (fun a8 h9 => ?_) ?_
    · exact h9
    · exact State.gNext_sound hP hs
  · exact ite_sound (State.gExc_sound hP hs) (ite_sound (State.gEcc_sound hP hs) (State.gJpost_sound hP hs))

theorem State.gCmp_sound (hP : Sound P) {s : State} {n : Ch} {a b : Word} (hs : P s) : P (State.gCmp s n a b) := by
  unfold State.gCmp
  exact State.gNext_sound hP (State.gNzcv_sound hP hs)

theorem State.gFcmp_sound (hP : Sound P) {s : State} {n : Ch} {a b : Word} (hs : P s) : P (State.gFcmp s n a b) := by
  unfold State.gFcmp
  extract_lets +onlyGivenNames x0; clear_value x0
  exact State.gNext_sound hP (State.modGrv_sound hP hs)

theorem State.gTset_sound (hP : Sound P) {s : State} {n : Ch} {v : Word} {i : GImm} (hs : P s) : P (State.gTset s n v i) := by
  unfold State.gTset
  exact State.gNext_sound hP (State.modGrv_sound hP hs)

theorem State.gMsg_sound (hP : Sound P) {s : State} {n : Ch} {rd ra rb : GReg} {k : Nat} {ecc : Bool} (hs : P s) : P (State.gMsg s n rd ra rb k ecc) := by
  unfold State.gMsg
  extract_lets +onlyGivenNames x0; clear_value x0
  extract_lets +onlyGivenNames x1; clear_value x1
  extract_lets +onlyGivenNames x2; clear_value x2
  refine ite_sound ?_ ?_
  · exact State.gExc_sound hP hs
  · refine ite_sound ?_ ?_
    · exact State.gEcc_sound hP hs
    · extract_lets +onlyGivenNames x3; clear_value x3
      extract_lets +onlyGivenNames x4; clear_value x4
      refine ite_sound ?_ ?_
      · exact State.gNext_sound hP (State.setG_sound hP hs)
      · refine ite_sound ?_ ?_
        · exact State.grvEvent_sound hP (State.gNext_sound hP (State.setG_sound hP (State.send_sound hP (State.incWrap_sound hP hs))))
        · split
          · exact State.gNext_sound hP (State.setG_sound hP hs)
          · rename_i y5 y6 e7
            have h8 : P y6 := by
              refine State.request_sound hP ?_ e7
              exact hs
            exact State.gNext_sound hP (State.setG_sound hP (State.modGrv_sound hP h8))

theorem State.gCall_sound (hP : Sound P) {s : State} {n : Ch} {t : GAddr} (hs : P s) : P (State.gCall s n t) := by
  unfold State.gCall
  refine ite_sound ?_ ?_
  · exact State.gExc_sound hP hs
  · extract_lets +onlyGivenNames x0; clear_value x0
    exact State.gTake_sound hP (State.gTo_sound hP (State.modGrv_sound hP hs))

theorem State.gWfe_sound (hP : Sound P) {s : State} {n : Ch} {rd : GReg} {i : GImm} (hs : P s) : P (State.gWfe s n rd i) := by
  unfold State.gWfe
  extract_lets +onlyGivenNames x0; clear_value x0
  extract_lets +onlyGivenNames x1; clear_value x1
  refine ite_sound ?_ ?_
  · exact State.gNext_sound hP (State.clrBits_sound hP (State.setG_sound hP hs))
  · extract_lets +onlyGivenNames x2; clear_value x2
    extract_lets +onlyGivenNames x3
    have h4 : P x3 := State.wrs_sound hP hs; clear_value x3
    exact State.modGrv_sound hP h4

theorem State.gKick_sound (hP : Sound P) {s : State} {n : Ch} {v : Nat} (hs : P s) : P (State.gKick s n v) := by
  unfold State.gKick
  extract_lets +onlyGivenNames x0
  have h1 : P x0 := State.gNext_sound hP hs; clear_value x0
  refine ite_sound ?_ ?_
  · exact h1
  · extract_lets +onlyGivenNames x2; clear_value x2
    extract_lets +onlyGivenNames x3; clear_value x3
    exact ite_sound (State.modGrv_sound hP h1) (State.grvWdt_sound hP h1)

theorem State.gSev_sound (hP : Sound P) {s : State} {n : Ch} {i : GImm} (hs : P s) : P (State.gSev s n i) := by
  unfold State.gSev
  extract_lets +onlyGivenNames x0
  have h1 : P x0 := by
    subst x0
    refine State.forCh_sound hP (fun a2 a3 h4 => ?_) ?_
    · exact ite_sound (State.grvEvent_sound hP h4) h4
    · exact hs
  clear_value x0
  exact State.gNext_sound hP h1

theorem State.gDo_sound (hP : Sound P) {s : State} {n : Ch} {ecc : Bool} {x0 : GOp} (hs : P s) : P (State.gDo s n ecc x0) := by
  unfold State.gDo
  split
  · exact State.gNext_sound hP hs
  · exact State.gStop_sound hP hs
  · exact State.gRet_sound hP hs
  · exact State.gAlu_sound hP hs
  · exact State.gUn_sound hP hs
  · exact State.gImm_sound hP hs
  · exact State.gAcc_sound hP hs
  · exact State.gCmp_sound hP hs
  · exact State.gFcmp_sound hP hs
  · exact State.gCmp_sound hP hs
  · exact State.gTset_sound hP hs
  · exact State.gMsg_sound hP hs
  · exact State.gNext_sound hP (State.setG_sound hP hs)
  · exact ite_sound (State.gTake_sound hP (State.gTo_sound hP hs)) (State.gNext_sound hP hs)
  · exact State.gCall_sound hP hs
  · exact State.gTake_sound hP (State.gTo_sound hP hs)
  · exact State.gWfe_sound hP hs
  · exact State.gKick_sound hP hs
  · exact State.gSev_sound hP hs

theorem State.gStep_sound (hP : Sound P) {fe de : Bool} {n : Ch} {s : State} (hs : P s) : P (State.gStep fe de n s) := by
  unfold State.gStep
  refine ite_sound ?_ ?_
  · exact hs
  · refine ite_sound ?_ ?_
    · extract_lets +onlyGivenNames x0
      have h1 : P x0 := State.thaw_sound hP hs; clear_value x0
      extract_lets +onlyGivenNames x2
      have h3 : P x2 := by
        subst x2
        refine ite_sound ?_ ?_
        · exact State.gFetchEcc_sound hP h1
        · split
          · exact State.gDo_sound hP h1
          · exact State.gExc_sound hP h1
      clear_value x2
      exact State.freeze_sound hP h3
    · exact ite_sound (State.modGrv_sound hP (State.wr_sound hP (State.wfeEnd_sound hP hs))) hs

theorem execDbgStep_sound (hP : Sound P) {fe de : Bool} {s : State} (hs : P s) : ∃ s', execDbgStep fe de s = .next s' ∧ P s' := by
  unfold execDbgStep
  refine ⟨_, rfl, ?_⟩
  refine State.whenDbg_sound hP (fun a0 a1 h2 => ?_) ?_
  · exact State.gStep_sound hP h2
  · exact hs

theorem State.busWrite_sound (hP : Sound P) {s : State} {m a : Nat} {w : Word} (hs : P s) : P (State.busWrite s m a w) := by
  unfold State.busWrite
  refine State.busWriteWith_sound hP (fun a0 h1 => ?_) ?_
  · exact State.act_sound hP (fun _ h => execDbgStep_sound hP h) h1
  · exact hs

theorem execRegisterWrite_sound (hP : Sound P) {m : Fin 8} {a : BitVec 24} {w : BitVec 32} {s : State} (hs : P s) : ∃ s', execRegisterWrite m a w s = .next s' ∧ P s' := by
  unfold execRegisterWrite
  refine ⟨_, rfl, ?_⟩
  exact State.busWrite_sound hP hs

theorem execPageLock_sound (hP : Sound P) {p : BitVec 8} {s : State} (hs : P s) : ∃ s', execPageLock p s = .next s' ∧ P s' := by
  unfold execPageLock
  refine ⟨_, rfl, ?_⟩
  exact State.busWrite_sound hP hs

theorem State.issue_sound (hP : Sound P) {s : State} {n : Ch} {ecc : Bool} {op : GOp} (hs : P s) : ∃ s', State.issue s n ecc op = .next s' ∧ P s' := by
  unfold State.issue
  refine ⟨_, rfl, ?_⟩
  refine State.whenCh_sound hP (fun a0 h1 => ?_) ?_
  · exact ite_sound (ite_sound (State.freeze_sound hP h1) (State.gDo_sound hP h1)) h1
  · exact hs

theorem execNop_sound (hP : Sound P) {n : Ch} {s : State} (hs : P s) : ∃ s', execNop n s = .next s' ∧ P s' :=
  State.issue_sound hP hs

theorem execAdd_sound (hP : Sound P) {n : Ch} {rd ra rb : BitVec 4} {s : State} (hs : P s) : ∃ s', execAdd n rd ra rb s = .next s' ∧ P s' :=
  State.issue_sound hP hs

theorem execSub_sound (hP : Sound P) {n : Ch} {rd ra rb : BitVec 4} {s : State} (hs : P s) : ∃ s', execSub n rd ra rb s = .next s' ∧ P s' :=
  State.issue_sound hP hs

theorem execAnd_sound (hP : Sound P) {n : Ch} {rd ra rb : BitVec 4} {s : State} (hs : P s) : ∃ s', execAnd n rd ra rb s = .next s' ∧ P s' :=
  State.issue_sound hP hs

theorem execOr_sound (hP : Sound P) {n : Ch} {rd ra rb : BitVec 4} {s : State} (hs : P s) : ∃ s', execOr n rd ra rb s = .next s' ∧ P s' :=
  State.issue_sound hP hs

theorem execXor_sound (hP : Sound P) {n : Ch} {rd ra rb : BitVec 4} {s : State} (hs : P s) : ∃ s', execXor n rd ra rb s = .next s' ∧ P s' :=
  State.issue_sound hP hs

theorem execShl_sound (hP : Sound P) {n : Ch} {rd ra rb : BitVec 4} {s : State} (hs : P s) : ∃ s', execShl n rd ra rb s = .next s' ∧ P s' :=
  State.issue_sound hP hs

theorem execShr_sound (hP : Sound P) {n : Ch} {rd ra rb : BitVec 4} {s : State} (hs : P s) : ∃ s', execShr n rd ra rb s = .next s' ∧ P s' :=
  State.issue_sound hP hs

theorem execSar_sound (hP : Sound P) {n : Ch} {rd ra rb : BitVec 4} {s : State} (hs : P s) : ∃ s', execSar n rd ra rb s = .next s' ∧ P s' :=
  State.issue_sound hP hs

theorem execMul_sound (hP : Sound P) {n : Ch} {rd ra rb : BitVec 4} {s : State} (hs : P s) : ∃ s', execMul n rd ra rb s = .next s' ∧ P s' :=
  State.issue_sound hP hs

theorem execCmp_sound (hP : Sound P) {n : Ch} {ra rb : BitVec 4} {s : State} (hs : P s) : ∃ s', execCmp n ra rb s = .next s' ∧ P s' :=
  State.issue_sound hP hs

theorem execMin_sound (hP : Sound P) {n : Ch} {rd ra rb : BitVec 4} {s : State} (hs : P s) : ∃ s', execMin n rd ra rb s = .next s' ∧ P s' :=
  State.issue_sound hP hs

theorem execMax_sound (hP : Sound P) {n : Ch} {rd ra rb : BitVec 4} {s : State} (hs : P s) : ∃ s', execMax n rd ra rb s = .next s' ∧ P s' :=
  State.issue_sound hP hs

theorem execJpost_sound (hP : Sound P) {n : Ch} {rd ra : BitVec 4} {i : BitVec 18} {ecc : Bool} {s : State} (hs : P s) : ∃ s', execJpost n rd ra i ecc s = .next s' ∧ P s' :=
  State.issue_sound hP hs

theorem execStop_sound (hP : Sound P) {n : Ch} {s : State} (hs : P s) : ∃ s', execStop n s = .next s' ∧ P s' :=
  State.issue_sound hP hs

theorem execTset_sound (hP : Sound P) {n : Ch} {ra : BitVec 4} {i : BitVec 18} {s : State} (hs : P s) : ∃ s', execTset n ra i s = .next s' ∧ P s' :=
  State.issue_sound hP hs

theorem execMsg_sound (hP : Sound P) {n : Ch} {rd ra rb : BitVec 4} {len : BitVec 6} {ecc : Bool} {s : State} (hs : P s) : ∃ s', execMsg n rd ra rb len ecc s = .next s' ∧ P s' :=
  State.issue_sound hP hs

theorem execAddi_sound (hP : Sound P) {n : Ch} {rd ra : BitVec 4} {i : BitVec 18} {s : State} (hs : P s) : ∃ s', execAddi n rd ra i s = .next s' ∧ P s' :=
  State.issue_sound hP hs

theorem execCmpi_sound (hP : Sound P) {n : Ch} {ra : BitVec 4} {i : BitVec 18} {s : State} (hs : P s) : ∃ s', execCmpi n ra i s = .next s' ∧ P s' :=
  State.issue_sound hP hs

theorem execAndi_sound (hP : Sound P) {n : Ch} {rd ra : BitVec 4} {i : BitVec 18} {s : State} (hs : P s) : ∃ s', execAndi n rd ra i s = .next s' ∧ P s' :=
  State.issue_sound hP hs

theorem execOri_sound (hP : Sound P) {n : Ch} {rd ra : BitVec 4} {i : BitVec 18} {s : State} (hs : P s) : ∃ s', execOri n rd ra i s = .next s' ∧ P s' :=
  State.issue_sound hP hs

theorem execXori_sound (hP : Sound P) {n : Ch} {rd ra : BitVec 4} {i : BitVec 18} {s : State} (hs : P s) : ∃ s', execXori n rd ra i s = .next s' ∧ P s' :=
  State.issue_sound hP hs

theorem execShli_sound (hP : Sound P) {n : Ch} {rd ra : BitVec 4} {i : BitVec 18} {s : State} (hs : P s) : ∃ s', execShli n rd ra i s = .next s' ∧ P s' :=
  State.issue_sound hP hs

theorem execShri_sound (hP : Sound P) {n : Ch} {rd ra : BitVec 4} {i : BitVec 18} {s : State} (hs : P s) : ∃ s', execShri n rd ra i s = .next s' ∧ P s' :=
  State.issue_sound hP hs

theorem execSari_sound (hP : Sound P) {n : Ch} {rd ra : BitVec 4} {i : BitVec 18} {s : State} (hs : P s) : ∃ s', execSari n rd ra i s = .next s' ∧ P s' :=
  State.issue_sound hP hs

theorem execLui_sound (hP : Sound P) {n : Ch} {rd : BitVec 4} {i : BitVec 16} {s : State} (hs : P s) : ∃ s', execLui n rd i s = .next s' ∧ P s' :=
  State.issue_sound hP hs

theorem execFadd_sound (hP : Sound P) {n : Ch} {rd ra rb : BitVec 4} {s : State} (hs : P s) : ∃ s', execFadd n rd ra rb s = .next s' ∧ P s' :=
  State.issue_sound hP hs

theorem execFsub_sound (hP : Sound P) {n : Ch} {rd ra rb : BitVec 4} {s : State} (hs : P s) : ∃ s', execFsub n rd ra rb s = .next s' ∧ P s' :=
  State.issue_sound hP hs

theorem execFmul_sound (hP : Sound P) {n : Ch} {rd ra rb : BitVec 4} {s : State} (hs : P s) : ∃ s', execFmul n rd ra rb s = .next s' ∧ P s' :=
  State.issue_sound hP hs

theorem execFdiv_sound (hP : Sound P) {n : Ch} {rd ra rb : BitVec 4} {s : State} (hs : P s) : ∃ s', execFdiv n rd ra rb s = .next s' ∧ P s' :=
  State.issue_sound hP hs

theorem execFmin_sound (hP : Sound P) {n : Ch} {rd ra rb : BitVec 4} {s : State} (hs : P s) : ∃ s', execFmin n rd ra rb s = .next s' ∧ P s' :=
  State.issue_sound hP hs

theorem execFmax_sound (hP : Sound P) {n : Ch} {rd ra rb : BitVec 4} {s : State} (hs : P s) : ∃ s', execFmax n rd ra rb s = .next s' ∧ P s' :=
  State.issue_sound hP hs

theorem execFcmp_sound (hP : Sound P) {n : Ch} {ra rb : BitVec 4} {s : State} (hs : P s) : ∃ s', execFcmp n ra rb s = .next s' ∧ P s' :=
  State.issue_sound hP hs

theorem execFsqrt_sound (hP : Sound P) {n : Ch} {rd ra : BitVec 4} {s : State} (hs : P s) : ∃ s', execFsqrt n rd ra s = .next s' ∧ P s' :=
  State.issue_sound hP hs

theorem execFabs_sound (hP : Sound P) {n : Ch} {rd ra : BitVec 4} {s : State} (hs : P s) : ∃ s', execFabs n rd ra s = .next s' ∧ P s' :=
  State.issue_sound hP hs

theorem execFneg_sound (hP : Sound P) {n : Ch} {rd ra : BitVec 4} {s : State} (hs : P s) : ∃ s', execFneg n rd ra s = .next s' ∧ P s' :=
  State.issue_sound hP hs

theorem execItof_sound (hP : Sound P) {n : Ch} {rd ra : BitVec 4} {s : State} (hs : P s) : ∃ s', execItof n rd ra s = .next s' ∧ P s' :=
  State.issue_sound hP hs

theorem execFtoi_sound (hP : Sound P) {n : Ch} {rd ra : BitVec 4} {s : State} (hs : P s) : ∃ s', execFtoi n rd ra s = .next s' ∧ P s' :=
  State.issue_sound hP hs

theorem execFclamp_sound (hP : Sound P) {n : Ch} {rd ra rb : BitVec 4} {s : State} (hs : P s) : ∃ s', execFclamp n rd ra rb s = .next s' ∧ P s' :=
  State.issue_sound hP hs

theorem execLd_sound (hP : Sound P) {n : Ch} {rd ra : BitVec 4} {i : BitVec 18} {ecc : Bool} {s : State} (hs : P s) : ∃ s', execLd n rd ra i ecc s = .next s' ∧ P s' :=
  State.issue_sound hP hs

theorem execSt_sound (hP : Sound P) {n : Ch} {rd ra : BitVec 4} {i : BitVec 18} {s : State} (hs : P s) : ∃ s', execSt n rd ra i s = .next s' ∧ P s' :=
  State.issue_sound hP hs

theorem execNrd_sound (hP : Sound P) {n : Ch} {rd ra : BitVec 4} {i : BitVec 18} {s : State} (hs : P s) : ∃ s', execNrd n rd ra i s = .next s' ∧ P s' :=
  State.issue_sound hP hs

theorem execNwr_sound (hP : Sound P) {n : Ch} {rd ra : BitVec 4} {i : BitVec 18} {s : State} (hs : P s) : ∃ s', execNwr n rd ra i s = .next s' ∧ P s' :=
  State.issue_sound hP hs

theorem execCrd_sound (hP : Sound P) {n : Ch} {rd ra : BitVec 4} {i : BitVec 18} {s : State} (hs : P s) : ∃ s', execCrd n rd ra i s = .next s' ∧ P s' :=
  State.issue_sound hP hs

theorem execCwr_sound (hP : Sound P) {n : Ch} {rd ra : BitVec 4} {i : BitVec 18} {s : State} (hs : P s) : ∃ s', execCwr n rd ra i s = .next s' ∧ P s' :=
  State.issue_sound hP hs

theorem execBrd_sound (hP : Sound P) {n : Ch} {rd ra : BitVec 4} {i : BitVec 18} {s : State} (hs : P s) : ∃ s', execBrd n rd ra i s = .next s' ∧ P s' :=
  State.issue_sound hP hs

theorem execBwr_sound (hP : Sound P) {n : Ch} {rd ra : BitVec 4} {i : BitVec 18} {s : State} (hs : P s) : ∃ s', execBwr n rd ra i s = .next s' ∧ P s' :=
  State.issue_sound hP hs

theorem execB_sound (hP : Sound P) {n : Ch} {cond : BitVec 4} {t : BitVec 14} {s : State} (hs : P s) : ∃ s', execB n cond t s = .next s' ∧ P s' :=
  State.issue_sound hP hs

theorem execCall_sound (hP : Sound P) {n : Ch} {t : BitVec 14} {s : State} (hs : P s) : ∃ s', execCall n t s = .next s' ∧ P s' :=
  State.issue_sound hP hs

theorem execRet_sound (hP : Sound P) {n : Ch} {s : State} (hs : P s) : ∃ s', execRet n s = .next s' ∧ P s' :=
  State.issue_sound hP hs

theorem execJr_sound (hP : Sound P) {n : Ch} {ra : BitVec 4} {s : State} (hs : P s) : ∃ s', execJr n ra s = .next s' ∧ P s' :=
  State.issue_sound hP hs

theorem execWfe_sound (hP : Sound P) {n : Ch} {rd : BitVec 4} {i : BitVec 18} {s : State} (hs : P s) : ∃ s', execWfe n rd i s = .next s' ∧ P s' :=
  State.issue_sound hP hs

theorem execKick_sound (hP : Sound P) {n : Ch} {ra : BitVec 4} {s : State} (hs : P s) : ∃ s', execKick n ra s = .next s' ∧ P s' :=
  State.issue_sound hP hs

theorem execSev_sound (hP : Sound P) {n : Ch} {i : BitVec 18} {s : State} (hs : P s) : ∃ s', execSev n i s = .next s' ∧ P s' :=
  State.issue_sound hP hs

theorem State.lodgeCopy_sound (hP : Sound P) {s : State} {a k : Nat} (hs : P s) : P (State.lodgeCopy s a k).2 := by
  induction k generalizing s a with
  | zero => exact hs
  | succ k ih => exact ih (State.busRead_sound hP hs)

theorem State.otpDispatch_sound (hP : Sound P) {s : State} {k : Fin 16} {cold : Bool} (hs : P s) : P (State.otpDispatch s k cold) := by
  unfold State.otpDispatch
  extract_lets +onlyGivenNames x0; try clear_value x0
  extract_lets +onlyGivenNames x1; try clear_value x1
  extract_lets +onlyGivenNames x2; try clear_value x2
  split
  · rename_i y3 y4 e5
    have h6 : P y4 := by
      rw [show y4 = _ from (congrArg Prod.snd e5).symm]
      exact State.lodgeCopy_sound hP hs
    extract_lets +onlyGivenNames w7 x8
    have h9 : P x8 := by
      subst x8 w7
      exact hP.same y4 (State.base_eq rfl rfl rfl rfl rfl rfl rfl) h6
    try clear_value w7 x8
    extract_lets +onlyGivenNames x10; try clear_value x10
    refine ite_sound ?_ ?_
    · exact State.jobEnd_sound hP (State.setJob_sound hP h9)
    · extract_lets +onlyGivenNames x11
      have h12 : P x11 := State.setJob_sound hP h9; try clear_value x11
      exact hP.same x11 (State.base_eq rfl rfl rfl rfl rfl rfl rfl) h12

theorem State.jobEntered_sound (hP : Sound P) {s : State} {j : Job} (hs : P s) : P (State.jobEntered s j) := by
  unfold State.jobEntered
  refine ite_sound ?_ ?_
  · refine State.onTarget_sound hP (fun a0 a1 h2 => ?_) ?_
    · exact State.modCh_sound hP (fun _ => rfl) (State.wrs_sound hP h2)
    · exact hs
  · refine ite_sound ?_ ?_
    · exact State.wrs_sound hP hs
    · refine ite_sound ?_ ?_
      · refine State.onTarget_sound hP (fun a3 a4 h5 => ?_) ?_
        · exact State.modCh_sound hP (fun _ => rfl) (State.wr_sound hP h5)
        · exact hs
      · refine ite_sound ?_ ?_
        · refine State.onTarget_sound hP (fun a6 a7 h8 => ?_) ?_
          · exact State.modSpt_sound hP (State.modCh_sound hP (fun _ => rfl) (State.wr_sound hP h8))
          · exact hs
        · refine ite_sound ?_ ?_
          · refine State.onTarget_sound hP (fun a9 a10 h11 => ?_) ?_
            · exact State.trcStart_sound hP h11
            · exact hs
          · refine ite_sound ?_ ?_
            · extract_lets +onlyGivenNames x12; clear_value x12
              extract_lets +onlyGivenNames x13
              have h14 : P x13 := ite_sound (State.forget_sound hP hs) hs; clear_value x13
              exact State.enumPump_sound hP (State.enumBegin_sound hP h14)
            · refine ite_sound ?_ ?_
              · refine State.onTarget_sound hP (fun a15 a16 h17 => ?_) ?_
                · exact State.modLp_sound hP (State.wrs_sound hP h17)
                · exact hs
              · exact hs

theorem execJobDispatch_sound (hP : Sound P) {k : Fin 16} {cold : Bool} {s : State} (hs : P s) : ∃ s', execJobDispatch k cold s = .next s' ∧ P s' := by
  unfold execJobDispatch
  refine ⟨_, rfl, ?_⟩
  refine ite_sound ?_ ?_
  · exact hs
  · extract_lets +onlyGivenNames x0; clear_value x0
    refine ite_sound ?_ ?_
    · exact State.settleAll_sound hP (State.otpDispatch_sound hP hs)
    · extract_lets +onlyGivenNames x1; clear_value x1
      exact ite_sound (State.settleAll_sound hP (State.jobEnd_sound hP hs)) (State.settleAll_sound hP (State.jobEntered_sound hP (State.setJob_sound hP hs)))

theorem State.jobPark_sound (hP : Sound P) {s : State} {j : Job} (hs : P s) : P (State.jobPark s j) := by
  unfold State.jobPark
  refine ite_sound ?_ ?_
  · refine State.onTarget_sound hP (fun a0 a1 h2 => ?_) ?_
    · exact State.diagStop_sound hP h2
    · exact hs
  · refine ite_sound ?_ ?_
    · exact State.wr_sound hP hs
    · refine ite_sound ?_ ?_
      · refine State.onTarget_sound hP (fun a3 a4 h5 => ?_) ?_
        · exact State.modCh_sound hP (fun _ => rfl) (State.wrs_sound hP (State.trcClose_sound hP h5))
        · exact hs
      · refine ite_sound ?_ ?_
        · exact hP.same s (State.base_eq rfl rfl rfl rfl rfl rfl rfl) hs
        · refine ite_sound ?_ ?_
          · refine State.onTarget_sound hP (fun a6 a7 h8 => ?_) ?_
            · exact State.bertLeave_sound hP h8
            · exact hs
          · exact hs

theorem State.jobKeep_sound (hP : Sound P) {s : State} {k : Fin 16} {m : List Word} (hs : P s) : P (State.jobKeep s k m) := by
  unfold State.jobKeep
  exact ite_sound (State.bertCounts_sound hP hs) hs

theorem execJobSuspendPoint_sound (hP : Sound P) {k : Fin 16} {m : List (BitVec 32)} {s : State} (hs : P s) : ∃ s', execJobSuspendPoint k m s = .next s' ∧ P s' := by
  unfold execJobSuspendPoint
  refine ⟨_, rfl, ?_⟩
  extract_lets +onlyGivenNames x0; clear_value x0
  refine ite_sound ?_ ?_
  · extract_lets +onlyGivenNames x1
    have h2 : P x1 := State.jobPark_sound hP (State.jobKeep_sound hP hs); clear_value x1
    exact State.settleAll_sound hP (State.orBits_sound hP (State.setJob_sound hP h2))
  · exact hs

theorem execJobCancelComplete_sound (hP : Sound P) {k : Fin 16} {m : List (BitVec 32)} {s : State} (hs : P s) : ∃ s', execJobCancelComplete k m s = .next s' ∧ P s' := by
  unfold execJobCancelComplete
  refine ⟨_, rfl, ?_⟩
  extract_lets +onlyGivenNames x0; clear_value x0
  refine ite_sound ?_ ?_
  · extract_lets +onlyGivenNames x1
    have h2 : P x1 := State.jobKeep_sound hP hs; clear_value x1
    extract_lets +onlyGivenNames x3
    have h4 : P x3 := by
      subst x3
      refine ite_sound ?_ ?_
      · refine State.onTarget_sound hP (fun a5 a6 h7 => ?_) ?_
        · exact State.bertLeave_sound hP h7
        · exact h2
      · exact h2
    clear_value x3
    exact State.settleAll_sound hP (State.jobFail_sound hP h4)
  · exact hs

theorem State.identStep_sound (hP : Sound P) {s : State} {k : Fin 16} {m : List Word} (hs : P s) : P (State.identStep s k m).1 := by
  unfold State.identStep
  extract_lets +onlyGivenNames x0; clear_value x0
  extract_lets +onlyGivenNames x1; clear_value x1
  extract_lets +onlyGivenNames x2; clear_value x2
  extract_lets +onlyGivenNames x3; clear_value x3
  refine ite_fst ?_ ?_
  · exact fst_mk (State.setJob_sound hP hs)
  · extract_lets +onlyGivenNames x4; clear_value x4
    refine ite_fst ?_ ?_
    · extract_lets +onlyGivenNames x5; clear_value x5
      exact fst_mk (State.setJob_sound hP hs)
    · exact fst_mk (State.setJob_sound hP hs)

theorem State.identWork_sound (hP : Sound P) {s : State} {k : Fin 16} {m : List Word} (hs : P s) : P (State.identWork s k m) := by
  unfold State.identWork
  extract_lets +onlyGivenNames x0; clear_value x0
  refine ite_sound ?_ ?_
  · exact ite_sound (State.setJob_sound hP hs) hs
  · refine ite_sound ?_ ?_
    · exact ite_sound (State.jobEnd_sound hP hs) hs
    · refine ite_sound ?_ ?_
      · exact hs
      · split
        · rename_i y1 y2 e3
          have h4 : P y1 := by
            rw [show y1 = _ from (congrArg Prod.fst e3).symm]
            exact State.identStep_sound hP hs
          exact ite_sound (State.jobFail_sound hP h4) (ite_sound (State.jobEnd_sound hP h4) h4)

theorem State.diagPut_sound (hP : Sound P) {s : State} {k : Fin 16} {n : Ch} {chan pairs opn : Nat} {l : List Word} (hs : P s) : P (State.diagPut s k n chan pairs opn l) := by
  unfold State.diagPut
  refine ite_sound ?_ ?_
  · exact State.setJob_sound hP hs
  · extract_lets +onlyGivenNames x0; clear_value x0
    extract_lets +onlyGivenNames x1
    have h2 : P x1 := State.wrs_sound hP hs; clear_value x1
    exact State.jobEnd_sound hP (State.diagStop_sound hP h2)

theorem State.diagNext_sound (hP : Sound P) {s : State} {k : Fin 16} {n : Ch} (hs : P s) : P (State.diagNext s k n) := by
  unfold State.diagNext
  extract_lets +onlyGivenNames x0; clear_value x0
  extract_lets +onlyGivenNames x1; clear_value x1
  exact State.wr_sound hP (State.setJob_sound hP hs)

theorem State.diagPairs_sound (hP : Sound P) {s : State} {k : Fin 16} {n : Ch} (hs : P s) : P (State.diagPairs s k n) := by
  unfold State.diagPairs
  extract_lets +onlyGivenNames x0; subst x0
  extract_lets +onlyGivenNames x1; clear_value x1
  extract_lets +onlyGivenNames x2; clear_value x2
  extract_lets +onlyGivenNames x3; clear_value x3
  extract_lets +onlyGivenNames x4; clear_value x4
  extract_lets +onlyGivenNames x5; clear_value x5
  exact State.diagPut_sound hP hs

theorem State.diagWork_sound (hP : Sound P) {s : State} {k : Fin 16} {n : Ch} {m : List Word} (hs : P s) : P (State.diagWork s k n m) := by
  unfold State.diagWork
  extract_lets +onlyGivenNames x0; clear_value x0
  extract_lets +onlyGivenNames x1; clear_value x1
  extract_lets +onlyGivenNames x2
  have h3 : ∀ a4, P (x2 a4) := by
    intro a4
    subst x2
    beta_reduce
    exact State.modCh_sound hP (fun _ => rfl) hs
  clear_value x2
  extract_lets +onlyGivenNames x5
  have h6 : ∀ a7, P a7 → P (x5 a7) := by
    intro a7 h8
    subst x5
    beta_reduce
    exact State.modCh_sound hP (fun _ => rfl) h8
  clear_value x5
  split
  · exact ite_sound (State.diagPut_sound hP hs) (State.diagNext_sound hP (h3 _ ))
  · exact ite_sound (State.diagPut_sound hP hs) (State.diagNext_sound hP hs)
  · exact State.diagNext_sound hP (h3 _ )
  · exact ite_sound (State.diagPut_sound hP hs) (ite_sound hs (h6 _ (State.diagNext_sound hP hs)))
  · exact h6 _ (State.diagNext_sound hP (h3 _ ))
  · exact h6 _ (State.diagNext_sound hP (h3 _ ))
  · exact State.diagPairs_sound hP (h3 _ )
  · extract_lets +onlyGivenNames x9
    have h10 : P x9 := h3 _ ; clear_value x9
    extract_lets +onlyGivenNames x11
    have h12 : P x11 := State.diagNext_sound hP h10; clear_value x11
    exact ite_sound (State.modCh_sound hP (fun _ => rfl) h12) h12

theorem State.gcResult_sound (hP : Sound P) {s : State} {n : Ch} (hs : P s) : P (State.gcResult s n) := by
  unfold State.gcResult
  extract_lets +onlyGivenNames x0; subst x0
  extract_lets +onlyGivenNames x1; clear_value x1
  extract_lets +onlyGivenNames x2; clear_value x2
  extract_lets +onlyGivenNames x3; clear_value x3
  extract_lets +onlyGivenNames x4; clear_value x4
  extract_lets +onlyGivenNames x5; clear_value x5
  extract_lets +onlyGivenNames x6; clear_value x6
  extract_lets +onlyGivenNames x7; clear_value x7
  extract_lets +onlyGivenNames x8; clear_value x8
  extract_lets +onlyGivenNames x9; clear_value x9
  extract_lets +onlyGivenNames x10; clear_value x10
  extract_lets +onlyGivenNames x11
  have h12 : P x11 := State.wrs_sound hP hs; clear_value x11
  exact hP.same x11 (State.base_eq rfl rfl rfl rfl rfl rfl rfl) h12

theorem State.gcWork_sound (hP : Sound P) {s : State} {k : Fin 16} {n : Ch} {m : List Word} (hs : P s) : P (State.gcWork s k n m) := by
  unfold State.gcWork
  extract_lets +onlyGivenNames x0; clear_value x0
  extract_lets +onlyGivenNames x1; clear_value x1
  refine ite_sound ?_ ?_
  · exact ite_sound (State.jobEnd_sound hP (State.diagStop_sound hP (State.gcResult_sound hP hs))) hs
  · extract_lets +onlyGivenNames x2; clear_value x2
    extract_lets +onlyGivenNames x3
    have h4 : P x3 := State.modCh_sound hP (fun _ => rfl) hs; clear_value x3
    extract_lets +onlyGivenNames x5
    have h6 : P x5 := State.setJob_sound hP h4; clear_value x5
    exact ite_sound (State.jobEnd_sound hP (State.diagStop_sound hP (State.gcResult_sound hP h6))) h6

theorem State.jobDone_sound (hP : Sound P) {s : State} {k : Fin 16} (hs : P s) : P (State.jobDone s k) := by
  unfold State.jobDone
  exact State.jobEnd_sound hP hs

theorem State.jobWork_sound (hP : Sound P) {s : State} {k : Fin 16} {m : List Word} (hs : P s) : P (State.jobWork s k m) := by
  unfold State.jobWork
  extract_lets +onlyGivenNames x0; clear_value x0
  extract_lets +onlyGivenNames x1; clear_value x1
  refine ite_sound ?_ ?_
  · exact State.identWork_sound hP hs
  · refine ite_sound ?_ ?_
    · refine State.onTarget_sound hP (fun a2 a3 h4 => ?_) ?_
      · exact ite_sound h4 (State.diagWork_sound hP h4)
      · exact hs
    · refine ite_sound ?_ ?_
      · refine State.onTarget_sound hP (fun a5 a6 h7 => ?_) ?_
        · exact ite_sound h7 (State.gcWork_sound hP h7)
        · exact hs
      · refine ite_sound ?_ ?_
        · exact hs
        · refine ite_sound ?_ ?_
          · refine ite_sound ?_ ?_
            · extract_lets +onlyGivenNames x8
              have h9 : P x8 := State.wrs_sound hP hs; clear_value x8
              exact State.jobDone_sound hP (State.stestShow_sound hP (hP.same x8 (State.base_eq rfl rfl rfl rfl rfl rfl rfl) h9))
            · exact hs
          · refine ite_sound ?_ ?_
            · refine dite_sound (fun _ => ?_) (fun _ => ?_)
              · extract_lets +onlyGivenNames x10; clear_value x10
                exact ite_sound (State.jobDone_sound hP (State.wr_sound hP (State.homingStop_sound hP hs))) hs
              · exact hs
            · refine ite_sound ?_ ?_
              · exact ite_sound (State.jobDone_sound hP (hP.same s (State.base_eq rfl rfl rfl rfl rfl rfl rfl) hs)) hs
              · refine ite_sound ?_ ?_
                · exact ite_sound hs (State.jobDone_sound hP hs)
                · refine ite_sound ?_ ?_
                  · refine State.onTarget_sound hP (fun a11 a12 h13 => ?_) ?_
                    · exact ite_sound (State.jobDone_sound hP (State.bertLeave_sound hP (State.bertCounts_sound hP h13))) h13
                    · exact hs
                  · exact hs

theorem execJobWorkComplete_sound (hP : Sound P) {k : Fin 16} {m : List (BitVec 32)} {s : State} (hs : P s) : ∃ s', execJobWorkComplete k m s = .next s' ∧ P s' := by
  unfold execJobWorkComplete
  refine ⟨_, rfl, ?_⟩
  exact ite_sound (State.settleAll_sound hP (State.jobWork_sound hP hs)) hs

theorem execJobFailure_sound (hP : Sound P) {k : Fin 16} {d : BitVec 8} {m : List (BitVec 32)} {s : State} (hs : P s) : ∃ s', execJobFailure k d m s = .next s' ∧ P s' := by
  unfold execJobFailure
  refine ⟨_, rfl, ?_⟩
  extract_lets +onlyGivenNames x0; clear_value x0
  refine ite_sound ?_ ?_
  · split
    · extract_lets +onlyGivenNames x1
      have h2 : P x1 := State.jobKeep_sound hP hs; clear_value x1
      extract_lets +onlyGivenNames w3 x4
      have h5 : P x4 := by
        subst x4 w3
        split
        · exact State.setJob_sound hP h2
        · exact h2
      clear_value w3 x4
      extract_lets +onlyGivenNames x6
      have h7 : P x6 := by
        subst x6
        refine ite_sound ?_ ?_
        · refine State.onTarget_sound hP (fun a8 a9 h10 => ?_) ?_
          · exact State.bertLeave_sound hP h10
          · exact h5
        · exact h5
      clear_value x6
      exact State.settleAll_sound hP (State.jobFail_sound hP h7)
    · exact hs
  · exact hs

theorem execIdentRestTimeout_sound (hP : Sound P) {k : Fin 16} {s : State} (hs : P s) : ∃ s', execIdentRestTimeout k s = .next s' ∧ P s' := by
  unfold execIdentRestTimeout
  refine ⟨_, rfl, ?_⟩
  extract_lets +onlyGivenNames x0; clear_value x0
  exact ite_sound (State.settleAll_sound hP (State.jobFail_sound hP hs)) hs

theorem execCmpSelftestComparatorDone_sound (hP : Sound P) {n : Ch} {pass : Bool} {s : State} (hs : P s) : ∃ s', execCmpSelftestComparatorDone n pass s = .next s' ∧ P s' := by
  unfold execCmpSelftestComparatorDone
  refine ⟨_, rfl, ?_⟩
  refine State.whenCh_sound hP (fun a0 h1 => ?_) ?_
  · split
    · exact h1
    · extract_lets +onlyGivenNames x2; clear_value x2
      refine ite_sound ?_ ?_
      · extract_lets +onlyGivenNames x3
        have h4 : P x3 := State.setJob_sound hP h1; clear_value x3
        extract_lets +onlyGivenNames x5
        have h6 : P x5 := State.cmpBegin_sound hP h4; clear_value x5
        exact ite_sound (State.settleAll_sound hP h6) (State.settleAll_sound hP (State.raiseCh_sound hP (State.orBits_sound hP h6)))
      · exact h1
  · exact hs

theorem execOtpRowProgrammed_sound (hP : Sound P) {k : Fin 16} {ok hot : Bool} {got : List (BitVec 32)} {s : State} (hs : P s) : ∃ s', execOtpRowProgrammed k ok hot got s = .next s' ∧ P s' := by
  unfold execOtpRowProgrammed
  refine ⟨_, rfl, ?_⟩
  extract_lets +onlyGivenNames x0; try clear_value x0
  extract_lets +onlyGivenNames x1; try clear_value x1
  extract_lets +onlyGivenNames x2; try clear_value x2
  refine ite_sound ?_ ?_
  · refine ite_sound ?_ ?_
    · exact ite_sound (State.setJob_sound hP hs) (State.jobFail_sound hP (State.setJob_sound hP hs))
    · split
      · rename_i y3 y4 e5
        have h6 : P y3 := by
          rw [show y3 = _ from (congrArg Prod.fst e5).symm]
          exact State.otpUnit_sound hP hs
        exact ite_sound (State.setJob_sound hP h6) (ite_sound (State.setJob_sound hP h6) (State.jobFail_sound hP (State.setJob_sound hP h6)))
  · exact hs

theorem State.busReadEcc_sound (hP : Sound P) {s : State} {m a : Nat} {ecc : Bool} (hs : P s) : P (State.busReadEcc s m a ecc).2 := by
  unfold State.busReadEcc
  extract_lets +onlyGivenNames x0; clear_value x0
  split
  · exact ite_snd (snd_mk (State.eccUncorr_sound hP (State.busErr_sound hP hs))) (State.busRead_sound hP hs)
  · exact State.busRead_sound hP hs

theorem HFrame.writeWord_sound (hP : Sound P) {f : HFrame} {page : Nat} {s : State} {k : Nat} (hs : P s) : P (HFrame.writeWord f page s k) := by
  unfold HFrame.writeWord
  split
  · exact hs
  · exact ite_sound (hP.same s (State.base_eq rfl rfl rfl rfl rfl rfl rfl) hs) (ite_sound hs (State.busWrite_sound hP hs))

theorem State.hspiCount_sound (hP : Sound P) {s : State} {c irq : Fld} {k : Nat} (hs : P s) : P (State.hspiCount s c irq k) := by
  unfold State.hspiCount
  exact ite_sound hs (State.wr_sound hP (State.incBy_sound hP hs))

theorem State.hspiEnd_sound (hP : Sound P) {s : State} {err : Nat} {bad beyond : Bool} {late : Nat} (hs : P s) : P (State.hspiEnd s err bad beyond late) := by
  unfold State.hspiEnd
  extract_lets +onlyGivenNames x0
  have h1 : P x0 := State.hspiCount_sound hP (State.hspiCount_sound hP hs); clear_value x0
  refine ite_sound ?_ ?_
  · exact State.settleAll_sound hP (State.raise_sound hP (State.wr_sound hP (State.hspiCount_sound hP h1)))
  · exact ite_sound (State.settleAll_sound hP (State.raise_sound hP (State.hspiCount_sound hP h1))) (State.incWrap_sound hP h1)

theorem HFrame.readWord_sound (hP : Sound P) {f : HFrame} {page st : Nat} {bad : Bool} {late ecc : List Nat} {r : HRead} {k : Nat} (h : P r.st) :
    P (f.readWord page st bad late ecc r k).st := by
  unfold HFrame.readWord
  split
  · exact h
  · split
    · exact h
    · split
      · exact h
      · split
        · exact h
        · split
          · exact h
          · exact State.busReadEcc_sound hP h

theorem HFrame.readWords_sound (hP : Sound P) {f : HFrame} {page st : Nat} {bad : Bool} {late ecc : List Nat} {l : List Nat} {r : HRead} (h : P r.st) :
    P (l.foldl (f.readWord page st bad late ecc) r).st := by
  induction l generalizing r with
  | nil => exact h
  | cons k l ih => exact ih (HFrame.readWord_sound hP h)

theorem State.hspiFrame_sound (hP : Sound P) {s : State} {f : HFrame} {late ecc : List Nat} (hs : P s) : P (State.hspiFrame s f late ecc) := by
  unfold State.hspiFrame
  refine ite_sound hs ?_
  extract_lets st crc turn status page core n err bad s1 beyond r pre out s2 s3 s4
  have h1 : P s1 := ite_sound (State.wrs_sound hP hs) hs
  have h2 : P r.st := by
    unfold r
    split
    · exact ite_sound (foldl_sound (fun _ _ h => HFrame.writeWord_sound hP h) _ h1) h1
    · exact HFrame.readWords_sound hP h1
  have h3 : P s2 := ite_sound (State.hspiEnd_sound hP h2) h2
  have h4 : P s3 := hP.same s2 (State.base_eq rfl rfl rfl rfl rfl rfl rfl) h3
  have h5 : P s4 := ite_sound (State.wake_sound hP h4) h4
  clear_value s4
  exact hP.same s4 (State.base_eq rfl rfl rfl rfl rfl rfl rfl) h5

theorem execStatusPoll_sound (hP : Sound P) {b : BitVec 8} {s : State} (hs : P s) : ∃ s', execStatusPoll b s = .next s' ∧ P s' := by
  unfold execStatusPoll
  refine ⟨_, rfl, ?_⟩
  exact State.hspiFrame_sound hP hs

theorem execShortRead_sound (hP : Sound P) {w : BitVec 6} {d : List (BitVec 8)} {edges : Nat} {late ecc : List Nat} {s : State} (hs : P s) : ∃ s', execShortRead w d edges late ecc s = .next s' ∧ P s' := by
  unfold execShortRead
  refine ⟨_, rfl, ?_⟩
  exact State.hspiFrame_sound hP hs

theorem execShortWrite_sound (hP : Sound P) {w : BitVec 6} {d : List (BitVec 8)} {edges : Nat} {s : State} (hs : P s) : ∃ s', execShortWrite w d edges s = .next s' ∧ P s' := by
  unfold execShortWrite
  refine ⟨_, rfl, ?_⟩
  exact State.hspiFrame_sound hP hs

theorem execLinearRead_sound (hP : Sound P) {h0 : BitVec 6} {d : List (BitVec 8)} {edges : Nat} {late ecc : List Nat} {s : State} (hs : P s) : ∃ s', execLinearRead h0 d edges late ecc s = .next s' ∧ P s' := by
  unfold execLinearRead
  refine ⟨_, rfl, ?_⟩
  exact State.hspiFrame_sound hP hs

theorem execLinearWrite_sound (hP : Sound P) {h0 : BitVec 6} {d : List (BitVec 8)} {edges : Nat} {s : State} (hs : P s) : ∃ s', execLinearWrite h0 d edges s = .next s' ∧ P s' := by
  unfold execLinearWrite
  refine ⟨_, rfl, ?_⟩
  exact State.hspiFrame_sound hP hs

theorem execWakeFrame_sound (hP : Sound P) {t : Option (BitVec 8)} {s : State} (hs : P s) : ∃ u, execWakeFrame t s = .next u ∧ P u :=
  ⟨_, rfl, State.hspiFrame_sound hP hs⟩

theorem execHspiCntClr_sound (hP : Sound P) {s : State} (hs : P s) : ∃ s', execHspiCntClr s = .next s' ∧ P s' := by
  unfold execHspiCntClr
  refine ⟨_, rfl, ?_⟩
  exact State.hspiCntClr_sound hP hs

theorem State.trailWrite_sound (hP : Sound P) {s : State} {dr : Bool} {a : Nat} {l : List Word} (hs : P s) : P (State.trailWrite s dr a l) := by
  induction l generalizing s a with
  | nil => exact hs
  | cons w l ih =>
    refine ih (ite_sound ?_ ?_)
    · exact State.settleAll_sound hP (State.enumPump_sound hP (State.nodeIdWrite_sound hP hs))
    · exact State.busWrite_sound hP hs

theorem State.portsRead_sound (hP : Sound P) {s : State} (hs : P s) : P (State.portsRead s) := by
  unfold State.portsRead
  refine foldl_sound (fun a0 a1 h2 => ?_) _ ?_
  · exact State.modLp_sound hP h2
  · exact hs

theorem State.trailRead_sound (hP : Sound P) {s : State} {dr : Bool} {a n : Nat} {ecc : List Nat} (hs : P s) :
    P (State.trailRead s dr a n ecc).2 := by
  unfold State.trailRead
  have step : ∀ (l : List Nat) (r : List Word × State), P r.2 → P (l.foldl (fun r i =>
      match r.2.busReadEcc 2 (a + 4 * i) (ecc.contains i) with
      | (w, s) => (r.1 ++ [w], if dr ∧ (a + 4 * i) % 2 ^ 24 = 4148 then s.portsRead else s)) r).2 := by
    intro l
    induction l with
    | nil => exact fun _ h => h
    | cons i l ih =>
      intro r h
      have h1 : P (r.2.busReadEcc 2 (a + 4 * i) (ecc.contains i)).2 := State.busReadEcc_sound hP h
      exact ih _ (ite_sound (State.portsRead_sound hP h1) h1)
  exact step _ _ hs

theorem State.serveRd_sound (hP : Sound P) {s : State} {ing : Nat} {k : Pkt} {ecc : List Nat} (hs : P s) : P (State.serveRd s ing k ecc) := by
  unfold State.serveRd
  refine ite_sound ?_ ?_
  · exact State.settleAll_sound hP (State.turnAway_sound hP hs)
  · extract_lets +onlyGivenNames x0
    have h1 : P x0.2 := by
      subst x0; exact State.trailRead_sound hP hs
    clear_value x0
    exact State.reply_sound hP h1

theorem State.serveWr_sound (hP : Sound P) {s : State} {ing : Nat} {k : Pkt} (hs : P s) : P (State.serveWr s ing k) := by
  unfold State.serveWr
  refine ite_sound ?_ ?_
  · exact State.settleAll_sound hP (State.turnAway_sound hP hs)
  · extract_lets +onlyGivenNames x0
    have h1 : P x0 := State.trailWrite_sound hP hs; clear_value x0
    exact ite_sound (State.reply_sound hP h1) h1

theorem State.serveJob_sound (hP : Sound P) {s : State} {ing : Nat} {k : Pkt} (hs : P s) : P (State.serveJob s ing k) := by
  unfold State.serveJob
  refine ite_sound ?_ ?_
  · exact State.settleAll_sound hP (State.turnAway_sound hP hs)
  · extract_lets +onlyGivenNames x0
    have h1 : P x0 := State.jobPost_sound hP hs; clear_value x0
    exact State.reply_sound hP h1

theorem State.serveOldest_sound (hP : Sound P) {s : State} (hs : P s) : P (State.serveOldest s) := by
  unfold State.serveOldest
  split
  · exact hs
  · rename_i y0 y1 y2 e3
    have h4 : P y2 := by
      refine State.takeWhere_sound hP ?_ e3
      exact hs
    exact ite_sound (State.serveRd_sound hP h4) (ite_sound (State.serveWr_sound hP h4) (State.serveJob_sound hP h4))

theorem State.takeServed_sound (hP : Sound P) {s : State} {typ : Nat} (hs : P s) {y : Nat × Pkt × State}
    (e : s.takeServed typ = some y) : P y.2.2 := by
  unfold State.takeServed at e
  split at e
  · cases e
  · rename_i h
    split at e
    · cases e; exact (State.takeWhere_sound hP hs h :)
    · cases e

theorem execRdRequest_sound (hP : Sound P) {ecc : List Nat} {s : State} (hs : P s) : ∃ s', execRdRequest ecc s = .next s' ∧ P s' := by
  unfold execRdRequest
  refine ⟨_, rfl, ?_⟩
  refine State.whenLink_sound hP (fun a0 h1 => ?_) ?_
  · split
    · exact h1
    · rename_i y2 y3 y4 e5
      have h6 : P y4 := by
        refine State.takeServed_sound hP ?_ e5
        exact h1
      exact State.serveRd_sound hP h6
  · exact hs

theorem execWrRequest_sound (hP : Sound P) {s : State} (hs : P s) : ∃ s', execWrRequest s = .next s' ∧ P s' := by
  unfold execWrRequest
  refine ⟨_, rfl, ?_⟩
  refine State.whenLink_sound hP (fun a0 h1 => ?_) ?_
  · split
    · exact h1
    · rename_i y2 y3 y4 e5
      have h6 : P y4 := by
        refine State.takeServed_sound hP ?_ e5
        exact h1
      exact State.serveWr_sound hP h6
  · exact hs

theorem State.msgRefused_sound (hP : Sound P) {s : State} {ing ep : Nat} {k : Pkt} (hs : P s) : P (State.msgRefused s ing ep k) := by
  unfold State.msgRefused
  extract_lets +onlyGivenNames x0
  have h1 : P x0 := ite_sound (State.wr_sound hP hs) hs; clear_value x0
  exact State.turnAway_sound hP h1

theorem State.msgDone_sound (hP : Sound P) {s : State} {k : Pkt} (hs : P s) : P (State.msgDone s k) := by
  unfold State.msgDone
  exact ite_sound (State.reply_sound hP hs) hs

theorem State.mboxStore_sound (hP : Sound P) {s : State} {n : Ch} {k : Nat} {p : Pkt} (hs : P s) : P (State.mboxStore s n k p) := by
  unfold State.mboxStore
  extract_lets +onlyGivenNames x0
  have h1 : P x0 := State.setMemWords_sound hP hs; clear_value x0
  extract_lets +onlyGivenNames x2
  have h3 : P x2 := State.wrs_sound hP h1; clear_value x2
  exact State.grvEvent_sound hP (State.orBits_sound hP h3)

theorem State.msgToGrove_sound (hP : Sound P) {s : State} {ing : Nat} {n : Ch} {k : Pkt} (hs : P s) : P (State.msgToGrove s ing n k) := by
  unfold State.msgToGrove
  refine ite_sound ?_ ?_
  · exact State.msgRefused_sound hP hs
  · split
    · exact State.msgRefused_sound hP hs
    · exact State.msgDone_sound hP (State.mboxStore_sound hP hs)

theorem State.msgToHost_sound (hP : Sound P) {s : State} {ing : Nat} {k : Pkt} (hs : P s) : P (State.msgToHost s ing k) := by
  unfold State.msgToHost
  exact ite_sound (State.msgDone_sound hP (State.wr_sound hP (hP.same s (State.base_eq rfl rfl rfl rfl rfl rfl rfl) hs))) (State.msgRefused_sound hP hs)

theorem execMsgRequest_sound (hP : Sound P) {s : State} (hs : P s) : ∃ s', execMsgRequest s = .next s' ∧ P s' := by
  unfold execMsgRequest
  refine ⟨_, rfl, ?_⟩
  refine State.whenLink_sound hP (fun a0 h1 => ?_) ?_
  · split
    · exact h1
    · rename_i y2 y3 y4 e5
      have h6 : P y4 := by
        refine State.takeWhere_sound hP ?_ e5
        exact h1
      extract_lets +onlyGivenNames x7; clear_value x7
      refine ite_sound ?_ ?_
      · exact State.settleAll_sound hP (State.turnAway_sound hP h6)
      · refine dite_sound (fun _ => ?_) (fun _ => ?_)
        · exact State.msgToGrove_sound hP h6
        · exact State.msgToHost_sound hP h6
  · exact hs

theorem execJobRequest_sound (hP : Sound P) {s : State} (hs : P s) : ∃ s', execJobRequest s = .next s' ∧ P s' := by
  unfold execJobRequest
  refine ⟨_, rfl, ?_⟩
  refine State.whenLink_sound hP (fun a0 h1 => ?_) ?_
  · split
    · exact h1
    · rename_i y2 y3 y4 e5
      have h6 : P y4 := by
        refine State.takeServed_sound hP ?_ e5
        exact h1
      exact State.serveJob_sound hP h6
  · exact hs

theorem State.serveOlder_sound (hP : Sound P) {s : State} {fuel : Nat} (hs : P s) : P (State.serveOlder s fuel) := by
  induction fuel generalizing s with
  | zero => exact hs
  | succ fuel ih => exact ih (State.serveOldest_sound hP hs)

theorem State.gwLocal_sound (hP : Sound P) {s : State} {k : Pkt} {ecc : List Nat} (hs : P s) : P (State.gwLocal s k ecc).2 := by
  unfold State.gwLocal
  extract_lets +onlyGivenNames x0
  have h1 : P x0 := State.serveOlder_sound hP hs; clear_value x0
  refine ite_snd ?_ ?_
  · exact State.trailRead_sound hP h1
  · refine ite_snd ?_ ?_
    · exact snd_mk (State.trailWrite_sound hP h1)
    · extract_lets +onlyGivenNames x2
      have h3 : P x2.1 := by
        subst x2; exact State.jobCommand_sound hP h1
      clear_value x2
      exact snd_mk (State.settleAll_sound hP h3)

theorem State.gwServe_sound (hP : Sound P) {s : State} {sa : Nat} {hdr : Word} {sess : Bool} {d : List (BitVec 8)} {ecc : List Nat} (hs : P s) : P (State.gwServe s sa hdr sess d ecc) := by
  unfold State.gwServe
  extract_lets +onlyGivenNames x0
  have h1 : P x0 := State.wr_sound hP hs; clear_value x0
  extract_lets +onlyGivenNames x2; clear_value x2
  split
  · exact State.gwDone_sound hP h1
  · refine ite_sound ?_ ?_
    · extract_lets +onlyGivenNames x3
      have h4 : P x3.2 := by
        subst x3; exact State.gwLocal_sound hP h1
      clear_value x3
      exact State.gwDone_sound hP h4
    · refine ite_sound ?_ ?_
      · exact State.gwDone_sound hP h1
      · split
        · exact State.gwDone_sound hP h1
        · rename_i y5 y6 e7
          have h8 : P y6 := by
            refine State.request_sound hP ?_ e7
            exact h1
          extract_lets +onlyGivenNames w9 x10
          have h11 : P x10 := by
            subst x10 w9
            exact hP.same y6 (State.base_eq rfl rfl rfl rfl rfl rfl rfl) h8
          clear_value w9 x10
          exact State.wr_sound hP h11

theorem State.gateway_sound (hP : Sound P) {s : State} {sa : Nat} {sess : Bool} {d : List (BitVec 8)} {ecc : List Nat} (hs : P s) : P (State.gateway s sa sess d ecc) := by
  unfold State.gateway
  extract_lets +onlyGivenNames x0; clear_value x0
  extract_lets +onlyGivenNames x1; clear_value x1
  exact ite_sound hs (ite_sound hs (ite_sound (State.gwRefuse_sound hP hs) (ite_sound (State.gwRefuse_sound hP hs) (State.gwServe_sound hP hs))))

theorem execGatewayRequest_sound (hP : Sound P) {sa da : BitVec 8} {d : List (BitVec 8)} {i : Option (Fin 4)} {ecc : List Nat} {s : State} (hs : P s) : ∃ s', execGatewayRequest sa da d i ecc s = .next s' ∧ P s' := by
  unfold execGatewayRequest
  refine ⟨_, rfl, ?_⟩
  refine State.whenCan_sound hP (fun a0 h1 => ?_) ?_
  · split
    · exact ite_sound (State.settleAll_sound hP (State.gateway_sound hP h1)) h1
    · extract_lets +onlyGivenNames x2; clear_value x2
      exact ite_sound (State.settleAll_sound hP (State.gwFlush_sound hP (State.gateway_sound hP (State.modSs_sound hP h1)))) h1
  · exact hs

theorem State.gpioFlag_sound (hP : Sound P) {s : State} {i : Nat} (hs : P s) : P (State.gpioFlag s i) := by
  unfold State.gpioFlag
  refine ite_sound ?_ ?_
  · exact hs
  · extract_lets +onlyGivenNames x0
    have h1 : P x0 := State.orBits_sound hP hs; clear_value x0
    refine ite_sound ?_ ?_
    · refine State.forCh_sound hP (fun a2 a3 h4 => ?_) ?_
      · exact State.grvEvent_sound hP h4
      · exact h1
    · exact h1

theorem State.gpioOnCh_sound (hP : Sound P) {s : State} {i : Nat} {rising : Bool} {n : Ch} (hs : P s) : P (State.gpioOnCh s i rising n) := by
  unfold State.gpioOnCh
  extract_lets +onlyGivenNames x0
  have h1 : P x0 := ite_sound (State.trcFire_sound hP hs) hs; clear_value x0
  exact ite_sound (State.homeEvent_sound hP h1) h1

theorem execGpioEdge_sound (hP : Sound P) {i : Fin 8} {level : Bool} {s : State} (hs : P s) : ∃ s', execGpioEdge i level s = .next s' ∧ P s' := by
  unfold execGpioEdge
  refine ⟨_, rfl, ?_⟩
  refine ite_sound ?_ ?_
  · exact hs
  · extract_lets +onlyGivenNames x0
    have h1 : P x0 := ite_sound (State.orBits_sound hP hs) (State.clrBits_sound hP hs); clear_value x0
    refine ite_sound ?_ ?_
    · exact h1
    · extract_lets +onlyGivenNames x2
      have h3 : P x2 := ite_sound (State.gpioFlag_sound hP h1) h1; clear_value x2
      refine State.forCh_sound hP (fun a4 a5 h6 => ?_) ?_
      · exact State.gpioOnCh_sound hP h6
      · exact h3

theorem execThermalComparator_sound (hP : Sound P) {sensor : Fin 6} {trip above : Bool} {s : State} (hs : P s) : ∃ s', execThermalComparator sensor trip above s = .next s' ∧ P s' := by
  unfold execThermalComparator
  refine ⟨_, rfl, ?_⟩
  refine ite_sound ?_ ?_
  · exact hs
  · refine dite_sound (fun _ => ?_) (fun _ => ?_)
    · refine State.whenCh_sound hP (fun a0 h1 => ?_) ?_
      · exact State.settleAll_sound hP (State.condSet_sound hP h1)
      · exact hs
    · exact State.settleAll_sound hP (State.condSet_sound hP hs)

theorem State.tapRise_sound (hP : Sound P) {s : State} {tms tdi : Bool} {pins : BitVec 124} (hs : P s) : P (State.tapRise s tms tdi pins) := by
  have h (x : State) (t : Tap) (hx : P x) : P { x with tap := t } := hP.same x (State.base_eq rfl rfl rfl rfl rfl rfl rfl) hx
  exact h _ _ (ite_sound (h _ _ hs) (ite_sound (h _ _ hs) (ite_sound (h _ _ (State.used_sound hP hs)) (ite_sound (h _ _ hs) hs))))

theorem State.tapFall_sound (hP : Sound P) {s : State} (hs : P s) : P (State.tapFall s) := by
  unfold State.tapFall
  extract_lets +onlyGivenNames x0; clear_value x0
  extract_lets +onlyGivenNames x1; clear_value x1
  exact hP.same s (State.base_eq rfl rfl rfl rfl rfl rfl rfl) hs

theorem execTestAccessPortClock_sound (hP : Sound P) {rising tms tdi : Bool} {pins : BitVec 124} {s : State} (hs : P s) :
    ∃ s', execTestAccessPortClock rising tms tdi pins s = .next s' ∧ P s' :=
  ⟨_, rfl, State.settleAll_sound hP (ite_sound (State.tapRise_sound hP hs) (State.tapFall_sound hP hs))⟩

end Sys2Proof.Machine
end

