-- ==== Sys2Proof/Laws/Sound.lean ====
section
/-! SUPPORT. What `Sound` covers: the canonical form, the gates, and what no command touches. -/

namespace Sys2Proof.Machine

/-- The canonical form of registers and memory windows. -/
theorem sound_canon : Sound State.Canon where
  setWord := fun a w h => ⟨State.setWord_wf _ a w h.1, h.2⟩
  setByte := fun a b h => ⟨h.1, State.setByte_wf _ a b h.2⟩
  erase := fun q h => ⟨mapClear_wf regReset _ q h.1, h.2⟩
  eraseMem := fun q h => ⟨h.1, mapFilter_wf memReset _ 0 q h.2⟩
  same := fun s t e h => by
    have e1 : t.base.regs = s.base.regs := by rw [e]
    have e2 : t.base.mem = s.base.mem := by rw [e]
    exact ⟨by rw [show t.regs = s.regs from e1]; exact h.1, by rw [show t.mem = s.mem from e2]; exact h.2⟩
  gates := fun _ _ _ h => h
  blow := fun _ _ h => h
  reset := fun q h => ⟨rfl, mapFilter_wf memReset _ 0 q h.2⟩

/-- The gates as the interlock leaves them. -/
theorem sound_gates : Sound fun s => ∀ n, legsSafe (s.ch n).prot.gates where
  setWord := fun _ _ h => h
  setByte := fun _ _ h => h
  erase := fun _ h => h
  eraseMem := fun _ h => h
  same := fun s t e h n => by
    have e1 : t.base.ch n = s.base.ch n := by rw [e]
    have g (u : State) : (u.base.ch n).prot.gates = (u.ch n).prot.gates := by
      simp only [State.base, State.ch, Vector.get, Vector.toArray_map, Array.getElem_map]
      rfl
    rw [← g, e1, g]
    exact h n
  gates := fun n g e h m => by
    rename_i s
    show legsSafe ((s.modCh n fun c => { c with prot.gates := g }).ch m).prot.gates
    rw [State.ch_modCh]
    split
    · exact e
    · exact h m
  blow := fun _ _ h => h
  reset := fun _ _ n => by
    have : (State.reset.ch n).prot.gates = 0#6 := by revert n; decide
    show legsSafe (State.reset.ch n).prot.gates
    rw [this]; rfl

/-- What no command touches: the queue, the clock, the fuses. -/
theorem sound_fixed (l : List Instr) (k : Nat) (b : Bool) : Sound fun s => s.pending = l ∧ s.now = k ∧ s.hl2880 = b where
  setWord := fun _ _ h => h
  setByte := fun _ _ h => h
  erase := fun _ h => h
  eraseMem := fun _ h => h
  same := fun s t e h => by
    have e1 : t.base.pending = s.base.pending := by rw [e]
    have e2 : t.base.now = s.base.now := by rw [e]
    have e3 : t.base.hl2880 = s.base.hl2880 := by rw [e]
    exact ⟨e1.trans h.1, e2.trans h.2.1, e3.trans h.2.2⟩
  gates := fun _ _ _ h => h
  blow := fun _ _ h => h
  reset := fun _ h => h

/-- A fuse that is blown stays blown. -/
theorem sound_fuses (s0 : State) : Sound fun s => ∀ k, s0.fuse k &&& ~~~ s.fuse k = 0#32 where
  setWord := fun _ _ h => h
  setByte := fun _ _ h => h
  erase := fun _ h => h
  eraseMem := fun _ h => h
  same := fun s t e h k => by
    have e1 : t.base.otp.fuse = s.base.otp.fuse := by rw [e]
    have e2 : t.otp.fuse = s.otp.fuse := e1
    show s0.fuse k &&& ~~~ mapGet (fun _ => 0#32) t.otp.fuse k = 0#32
    rw [e2]
    exact h k
  gates := fun _ _ _ h => h
  blow := fun a w h k => by
    show s0.fuse k &&& ~~~ mapGet (fun _ => 0#32) (mapPut (fun _ => 0#32) _ a _) k = 0#32
    rw [mapGet_mapPut]
    split
    · rename_i c
      subst c
      have := h a
      unfold State.fuse at this
      ext i hi
      have := congrArg (·.getLsbD i) this
      simp only [← BitVec.getLsbD_eq_getElem, BitVec.getLsbD_and, BitVec.getLsbD_not, BitVec.getLsbD_or, BitVec.getLsbD_zero, hi] at this ⊢
      revert this
      unfold State.fuse
      generalize (mapGet (fun _ => 0#32) s0.otp.fuse a).getLsbD i = x
      generalize (mapGet (fun _ => 0#32) _ a).getLsbD i = y
      cases x <;> cases y <;> simp
    · exact h k
  reset := fun _ h => h

end Sys2Proof.Machine
end

