-- ==== Sys2Proof/Laws/State.lean ====
section
/-! SUPPORT. What each update of the state leaves as it was: one lemma per field per update. -/

namespace Sys2Proof.Machine

/-! ### setWord -/

@[simp] theorem State.setWord_pending (s : State) (a : Nat) (w : Word) : (s.setWord a w).pending = s.pending := rfl
@[simp] theorem State.setWord_now (s : State) (a : Nat) (w : Word) : (s.setWord a w).now = s.now := rfl
@[simp] theorem State.setWord_free (s : State) (a : Nat) (w : Word) : (s.setWord a w).free = s.free := rfl
@[simp] theorem State.setWord_hl2880 (s : State) (a : Nat) (w : Word) : (s.setWord a w).hl2880 = s.hl2880 := rfl
@[simp] theorem State.setWord_mem (s : State) (a : Nat) (w : Word) : (s.setWord a w).mem = s.mem := rfl
@[simp] theorem State.setWord_page (s : State) (a : Nat) (w : Word) : (s.setWord a w).page = s.page := rfl
@[simp] theorem State.setWord_flt (s : State) (a : Nat) (w : Word) : (s.setWord a w).flt = s.flt := rfl
@[simp] theorem State.setWord_fltSeq (s : State) (a : Nat) (w : Word) : (s.setWord a w).fltSeq = s.fltSeq := rfl
@[simp] theorem State.setWord_haltSeq (s : State) (a : Nat) (w : Word) : (s.setWord a w).haltSeq = s.haltSeq := rfl
@[simp] theorem State.setWord_rngHalt (s : State) (a : Nat) (w : Word) : (s.setWord a w).rngHalt = s.rngHalt := rfl
@[simp] theorem State.setWord_relPend (s : State) (a : Nat) (w : Word) : (s.setWord a w).relPend = s.relPend := rfl
@[simp] theorem State.setWord_haltLow (s : State) (a : Nat) (w : Word) : (s.setWord a w).haltLow = s.haltLow := rfl
@[simp] theorem State.setWord_fwdSent (s : State) (a : Nat) (w : Word) : (s.setWord a w).fwdSent = s.fwdSent := rfl
@[simp] theorem State.setWord_canopy (s : State) (a : Nat) (w : Word) : (s.setWord a w).canopy = s.canopy := rfl
@[simp] theorem State.setWord_chan (s : State) (a : Nat) (w : Word) : (s.setWord a w).chan = s.chan := rfl
@[simp] theorem State.setWord_jobs (s : State) (a : Nat) (w : Word) : (s.setWord a w).jobs = s.jobs := rfl
@[simp] theorem State.setWord_jobSeq (s : State) (a : Nat) (w : Word) : (s.setWord a w).jobSeq = s.jobSeq := rfl
@[simp] theorem State.setWord_jobBlk (s : State) (a : Nat) (w : Word) : (s.setWord a w).jobBlk = s.jobBlk := rfl
@[simp] theorem State.setWord_jobRes (s : State) (a : Nat) (w : Word) : (s.setWord a w).jobRes = s.jobRes := rfl
@[simp] theorem State.setWord_mspi (s : State) (a : Nat) (w : Word) : (s.setWord a w).mspi = s.mspi := rfl
@[simp] theorem State.setWord_scx (s : State) (a : Nat) (w : Word) : (s.setWord a w).scx = s.scx := rfl
@[simp] theorem State.setWord_link (s : State) (a : Nat) (w : Word) : (s.setWord a w).link = s.link := rfl
@[simp] theorem State.setWord_fab (s : State) (a : Nat) (w : Word) : (s.setWord a w).fab = s.fab := rfl
@[simp] theorem State.setWord_tsy (s : State) (a : Nat) (w : Word) : (s.setWord a w).tsy = s.tsy := rfl
@[simp] theorem State.setWord_can (s : State) (a : Nat) (w : Word) : (s.setWord a w).can = s.can := rfl
@[simp] theorem State.setWord_net (s : State) (a : Nat) (w : Word) : (s.setWord a w).net = s.net := rfl
@[simp] theorem State.setWord_inq (s : State) (a : Nat) (w : Word) : (s.setWord a w).inq = s.inq := rfl
@[simp] theorem State.setWord_pwrQ (s : State) (a : Nat) (w : Word) : (s.setWord a w).pwrQ = s.pwrQ := rfl
@[simp] theorem State.setWord_pwr (s : State) (a : Nat) (w : Word) : (s.setWord a w).pwr = s.pwr := rfl
@[simp] theorem State.setWord_otp (s : State) (a : Nat) (w : Word) : (s.setWord a w).otp = s.otp := rfl
@[simp] theorem State.setWord_rng (s : State) (a : Nat) (w : Word) : (s.setWord a w).rng = s.rng := rfl
@[simp] theorem State.setWord_tap (s : State) (a : Nat) (w : Word) : (s.setWord a w).tap = s.tap := rfl
@[simp] theorem State.setWord_hspiOut (s : State) (a : Nat) (w : Word) : (s.setWord a w).hspiOut = s.hspiOut := rfl
@[simp] theorem State.setWord_hspiPrev (s : State) (a : Nat) (w : Word) : (s.setWord a w).hspiPrev = s.hspiPrev := rfl

/-! ### wr -/

@[simp] theorem State.wr_pending (s : State) (f : Fld) (i v : Nat) : (s.wr f i v).pending = s.pending := rfl
@[simp] theorem State.wr_now (s : State) (f : Fld) (i v : Nat) : (s.wr f i v).now = s.now := rfl
@[simp] theorem State.wr_free (s : State) (f : Fld) (i v : Nat) : (s.wr f i v).free = s.free := rfl
@[simp] theorem State.wr_hl2880 (s : State) (f : Fld) (i v : Nat) : (s.wr f i v).hl2880 = s.hl2880 := rfl
@[simp] theorem State.wr_mem (s : State) (f : Fld) (i v : Nat) : (s.wr f i v).mem = s.mem := rfl
@[simp] theorem State.wr_page (s : State) (f : Fld) (i v : Nat) : (s.wr f i v).page = s.page := rfl
@[simp] theorem State.wr_flt (s : State) (f : Fld) (i v : Nat) : (s.wr f i v).flt = s.flt := rfl
@[simp] theorem State.wr_fltSeq (s : State) (f : Fld) (i v : Nat) : (s.wr f i v).fltSeq = s.fltSeq := rfl
@[simp] theorem State.wr_haltSeq (s : State) (f : Fld) (i v : Nat) : (s.wr f i v).haltSeq = s.haltSeq := rfl
@[simp] theorem State.wr_rngHalt (s : State) (f : Fld) (i v : Nat) : (s.wr f i v).rngHalt = s.rngHalt := rfl
@[simp] theorem State.wr_relPend (s : State) (f : Fld) (i v : Nat) : (s.wr f i v).relPend = s.relPend := rfl
@[simp] theorem State.wr_haltLow (s : State) (f : Fld) (i v : Nat) : (s.wr f i v).haltLow = s.haltLow := rfl
@[simp] theorem State.wr_fwdSent (s : State) (f : Fld) (i v : Nat) : (s.wr f i v).fwdSent = s.fwdSent := rfl
@[simp] theorem State.wr_canopy (s : State) (f : Fld) (i v : Nat) : (s.wr f i v).canopy = s.canopy := rfl
@[simp] theorem State.wr_chan (s : State) (f : Fld) (i v : Nat) : (s.wr f i v).chan = s.chan := rfl
@[simp] theorem State.wr_jobs (s : State) (f : Fld) (i v : Nat) : (s.wr f i v).jobs = s.jobs := rfl
@[simp] theorem State.wr_jobSeq (s : State) (f : Fld) (i v : Nat) : (s.wr f i v).jobSeq = s.jobSeq := rfl
@[simp] theorem State.wr_jobBlk (s : State) (f : Fld) (i v : Nat) : (s.wr f i v).jobBlk = s.jobBlk := rfl
@[simp] theorem State.wr_jobRes (s : State) (f : Fld) (i v : Nat) : (s.wr f i v).jobRes = s.jobRes := rfl
@[simp] theorem State.wr_mspi (s : State) (f : Fld) (i v : Nat) : (s.wr f i v).mspi = s.mspi := rfl
@[simp] theorem State.wr_scx (s : State) (f : Fld) (i v : Nat) : (s.wr f i v).scx = s.scx := rfl
@[simp] theorem State.wr_link (s : State) (f : Fld) (i v : Nat) : (s.wr f i v).link = s.link := rfl
@[simp] theorem State.wr_fab (s : State) (f : Fld) (i v : Nat) : (s.wr f i v).fab = s.fab := rfl
@[simp] theorem State.wr_tsy (s : State) (f : Fld) (i v : Nat) : (s.wr f i v).tsy = s.tsy := rfl
@[simp] theorem State.wr_can (s : State) (f : Fld) (i v : Nat) : (s.wr f i v).can = s.can := rfl
@[simp] theorem State.wr_net (s : State) (f : Fld) (i v : Nat) : (s.wr f i v).net = s.net := rfl
@[simp] theorem State.wr_inq (s : State) (f : Fld) (i v : Nat) : (s.wr f i v).inq = s.inq := rfl
@[simp] theorem State.wr_pwrQ (s : State) (f : Fld) (i v : Nat) : (s.wr f i v).pwrQ = s.pwrQ := rfl
@[simp] theorem State.wr_pwr (s : State) (f : Fld) (i v : Nat) : (s.wr f i v).pwr = s.pwr := rfl
@[simp] theorem State.wr_otp (s : State) (f : Fld) (i v : Nat) : (s.wr f i v).otp = s.otp := rfl
@[simp] theorem State.wr_rng (s : State) (f : Fld) (i v : Nat) : (s.wr f i v).rng = s.rng := rfl
@[simp] theorem State.wr_tap (s : State) (f : Fld) (i v : Nat) : (s.wr f i v).tap = s.tap := rfl
@[simp] theorem State.wr_hspiOut (s : State) (f : Fld) (i v : Nat) : (s.wr f i v).hspiOut = s.hspiOut := rfl
@[simp] theorem State.wr_hspiPrev (s : State) (f : Fld) (i v : Nat) : (s.wr f i v).hspiPrev = s.hspiPrev := rfl

/-! ### runWr -/

@[simp] theorem State.runWr_pending (s : State) (f : Fld) (i v : Nat) : (s.runWr f i v).pending = s.pending := rfl
@[simp] theorem State.runWr_now (s : State) (f : Fld) (i v : Nat) : (s.runWr f i v).now = s.now := rfl
@[simp] theorem State.runWr_free (s : State) (f : Fld) (i v : Nat) : (s.runWr f i v).free = s.free := rfl
@[simp] theorem State.runWr_hl2880 (s : State) (f : Fld) (i v : Nat) : (s.runWr f i v).hl2880 = s.hl2880 := rfl
@[simp] theorem State.runWr_mem (s : State) (f : Fld) (i v : Nat) : (s.runWr f i v).mem = s.mem := rfl
@[simp] theorem State.runWr_page (s : State) (f : Fld) (i v : Nat) : (s.runWr f i v).page = s.page := rfl
@[simp] theorem State.runWr_flt (s : State) (f : Fld) (i v : Nat) : (s.runWr f i v).flt = s.flt := rfl
@[simp] theorem State.runWr_fltSeq (s : State) (f : Fld) (i v : Nat) : (s.runWr f i v).fltSeq = s.fltSeq := rfl
@[simp] theorem State.runWr_haltSeq (s : State) (f : Fld) (i v : Nat) : (s.runWr f i v).haltSeq = s.haltSeq := rfl
@[simp] theorem State.runWr_rngHalt (s : State) (f : Fld) (i v : Nat) : (s.runWr f i v).rngHalt = s.rngHalt := rfl
@[simp] theorem State.runWr_relPend (s : State) (f : Fld) (i v : Nat) : (s.runWr f i v).relPend = s.relPend := rfl
@[simp] theorem State.runWr_haltLow (s : State) (f : Fld) (i v : Nat) : (s.runWr f i v).haltLow = s.haltLow := rfl
@[simp] theorem State.runWr_fwdSent (s : State) (f : Fld) (i v : Nat) : (s.runWr f i v).fwdSent = s.fwdSent := rfl
@[simp] theorem State.runWr_canopy (s : State) (f : Fld) (i v : Nat) : (s.runWr f i v).canopy = s.canopy := rfl
@[simp] theorem State.runWr_chan (s : State) (f : Fld) (i v : Nat) : (s.runWr f i v).chan = s.chan := rfl
@[simp] theorem State.runWr_jobs (s : State) (f : Fld) (i v : Nat) : (s.runWr f i v).jobs = s.jobs := rfl
@[simp] theorem State.runWr_jobSeq (s : State) (f : Fld) (i v : Nat) : (s.runWr f i v).jobSeq = s.jobSeq := rfl
@[simp] theorem State.runWr_jobBlk (s : State) (f : Fld) (i v : Nat) : (s.runWr f i v).jobBlk = s.jobBlk := rfl
@[simp] theorem State.runWr_jobRes (s : State) (f : Fld) (i v : Nat) : (s.runWr f i v).jobRes = s.jobRes := rfl
@[simp] theorem State.runWr_mspi (s : State) (f : Fld) (i v : Nat) : (s.runWr f i v).mspi = s.mspi := rfl
@[simp] theorem State.runWr_scx (s : State) (f : Fld) (i v : Nat) : (s.runWr f i v).scx = s.scx := rfl
@[simp] theorem State.runWr_link (s : State) (f : Fld) (i v : Nat) : (s.runWr f i v).link = s.link := rfl
@[simp] theorem State.runWr_fab (s : State) (f : Fld) (i v : Nat) : (s.runWr f i v).fab = s.fab := rfl
@[simp] theorem State.runWr_tsy (s : State) (f : Fld) (i v : Nat) : (s.runWr f i v).tsy = s.tsy := rfl
@[simp] theorem State.runWr_can (s : State) (f : Fld) (i v : Nat) : (s.runWr f i v).can = s.can := rfl
@[simp] theorem State.runWr_net (s : State) (f : Fld) (i v : Nat) : (s.runWr f i v).net = s.net := rfl
@[simp] theorem State.runWr_inq (s : State) (f : Fld) (i v : Nat) : (s.runWr f i v).inq = s.inq := rfl
@[simp] theorem State.runWr_pwrQ (s : State) (f : Fld) (i v : Nat) : (s.runWr f i v).pwrQ = s.pwrQ := rfl
@[simp] theorem State.runWr_pwr (s : State) (f : Fld) (i v : Nat) : (s.runWr f i v).pwr = s.pwr := rfl
@[simp] theorem State.runWr_otp (s : State) (f : Fld) (i v : Nat) : (s.runWr f i v).otp = s.otp := rfl
@[simp] theorem State.runWr_rng (s : State) (f : Fld) (i v : Nat) : (s.runWr f i v).rng = s.rng := rfl
@[simp] theorem State.runWr_tap (s : State) (f : Fld) (i v : Nat) : (s.runWr f i v).tap = s.tap := rfl
@[simp] theorem State.runWr_hspiOut (s : State) (f : Fld) (i v : Nat) : (s.runWr f i v).hspiOut = s.hspiOut := rfl
@[simp] theorem State.runWr_hspiPrev (s : State) (f : Fld) (i v : Nat) : (s.runWr f i v).hspiPrev = s.hspiPrev := rfl

/-! ### wrs -/

@[simp] theorem State.wrs_pending (s : State) (i : Nat) (l : List (Fld × Nat)) : (s.wrs i l).pending = s.pending := by induction l generalizing s with | nil => rfl | cons e l ih => exact ih (s.wr e.1 i e.2)
@[simp] theorem State.wrs_now (s : State) (i : Nat) (l : List (Fld × Nat)) : (s.wrs i l).now = s.now := by induction l generalizing s with | nil => rfl | cons e l ih => exact ih (s.wr e.1 i e.2)
@[simp] theorem State.wrs_free (s : State) (i : Nat) (l : List (Fld × Nat)) : (s.wrs i l).free = s.free := by induction l generalizing s with | nil => rfl | cons e l ih => exact ih (s.wr e.1 i e.2)
@[simp] theorem State.wrs_hl2880 (s : State) (i : Nat) (l : List (Fld × Nat)) : (s.wrs i l).hl2880 = s.hl2880 := by induction l generalizing s with | nil => rfl | cons e l ih => exact ih (s.wr e.1 i e.2)
@[simp] theorem State.wrs_mem (s : State) (i : Nat) (l : List (Fld × Nat)) : (s.wrs i l).mem = s.mem := by induction l generalizing s with | nil => rfl | cons e l ih => exact ih (s.wr e.1 i e.2)
@[simp] theorem State.wrs_page (s : State) (i : Nat) (l : List (Fld × Nat)) : (s.wrs i l).page = s.page := by induction l generalizing s with | nil => rfl | cons e l ih => exact ih (s.wr e.1 i e.2)
@[simp] theorem State.wrs_flt (s : State) (i : Nat) (l : List (Fld × Nat)) : (s.wrs i l).flt = s.flt := by induction l generalizing s with | nil => rfl | cons e l ih => exact ih (s.wr e.1 i e.2)
@[simp] theorem State.wrs_fltSeq (s : State) (i : Nat) (l : List (Fld × Nat)) : (s.wrs i l).fltSeq = s.fltSeq := by induction l generalizing s with | nil => rfl | cons e l ih => exact ih (s.wr e.1 i e.2)
@[simp] theorem State.wrs_haltSeq (s : State) (i : Nat) (l : List (Fld × Nat)) : (s.wrs i l).haltSeq = s.haltSeq := by induction l generalizing s with | nil => rfl | cons e l ih => exact ih (s.wr e.1 i e.2)
@[simp] theorem State.wrs_rngHalt (s : State) (i : Nat) (l : List (Fld × Nat)) : (s.wrs i l).rngHalt = s.rngHalt := by induction l generalizing s with | nil => rfl | cons e l ih => exact ih (s.wr e.1 i e.2)
@[simp] theorem State.wrs_relPend (s : State) (i : Nat) (l : List (Fld × Nat)) : (s.wrs i l).relPend = s.relPend := by induction l generalizing s with | nil => rfl | cons e l ih => exact ih (s.wr e.1 i e.2)
@[simp] theorem State.wrs_haltLow (s : State) (i : Nat) (l : List (Fld × Nat)) : (s.wrs i l).haltLow = s.haltLow := by induction l generalizing s with | nil => rfl | cons e l ih => exact ih (s.wr e.1 i e.2)
@[simp] theorem State.wrs_fwdSent (s : State) (i : Nat) (l : List (Fld × Nat)) : (s.wrs i l).fwdSent = s.fwdSent := by induction l generalizing s with | nil => rfl | cons e l ih => exact ih (s.wr e.1 i e.2)
@[simp] theorem State.wrs_canopy (s : State) (i : Nat) (l : List (Fld × Nat)) : (s.wrs i l).canopy = s.canopy := by induction l generalizing s with | nil => rfl | cons e l ih => exact ih (s.wr e.1 i e.2)
@[simp] theorem State.wrs_chan (s : State) (i : Nat) (l : List (Fld × Nat)) : (s.wrs i l).chan = s.chan := by induction l generalizing s with | nil => rfl | cons e l ih => exact ih (s.wr e.1 i e.2)
@[simp] theorem State.wrs_jobs (s : State) (i : Nat) (l : List (Fld × Nat)) : (s.wrs i l).jobs = s.jobs := by induction l generalizing s with | nil => rfl | cons e l ih => exact ih (s.wr e.1 i e.2)
@[simp] theorem State.wrs_jobSeq (s : State) (i : Nat) (l : List (Fld × Nat)) : (s.wrs i l).jobSeq = s.jobSeq := by induction l generalizing s with | nil => rfl | cons e l ih => exact ih (s.wr e.1 i e.2)
@[simp] theorem State.wrs_jobBlk (s : State) (i : Nat) (l : List (Fld × Nat)) : (s.wrs i l).jobBlk = s.jobBlk := by induction l generalizing s with | nil => rfl | cons e l ih => exact ih (s.wr e.1 i e.2)
@[simp] theorem State.wrs_jobRes (s : State) (i : Nat) (l : List (Fld × Nat)) : (s.wrs i l).jobRes = s.jobRes := by induction l generalizing s with | nil => rfl | cons e l ih => exact ih (s.wr e.1 i e.2)
@[simp] theorem State.wrs_mspi (s : State) (i : Nat) (l : List (Fld × Nat)) : (s.wrs i l).mspi = s.mspi := by induction l generalizing s with | nil => rfl | cons e l ih => exact ih (s.wr e.1 i e.2)
@[simp] theorem State.wrs_scx (s : State) (i : Nat) (l : List (Fld × Nat)) : (s.wrs i l).scx = s.scx := by induction l generalizing s with | nil => rfl | cons e l ih => exact ih (s.wr e.1 i e.2)
@[simp] theorem State.wrs_link (s : State) (i : Nat) (l : List (Fld × Nat)) : (s.wrs i l).link = s.link := by induction l generalizing s with | nil => rfl | cons e l ih => exact ih (s.wr e.1 i e.2)
@[simp] theorem State.wrs_fab (s : State) (i : Nat) (l : List (Fld × Nat)) : (s.wrs i l).fab = s.fab := by induction l generalizing s with | nil => rfl | cons e l ih => exact ih (s.wr e.1 i e.2)
@[simp] theorem State.wrs_tsy (s : State) (i : Nat) (l : List (Fld × Nat)) : (s.wrs i l).tsy = s.tsy := by induction l generalizing s with | nil => rfl | cons e l ih => exact ih (s.wr e.1 i e.2)
@[simp] theorem State.wrs_can (s : State) (i : Nat) (l : List (Fld × Nat)) : (s.wrs i l).can = s.can := by induction l generalizing s with | nil => rfl | cons e l ih => exact ih (s.wr e.1 i e.2)
@[simp] theorem State.wrs_net (s : State) (i : Nat) (l : List (Fld × Nat)) : (s.wrs i l).net = s.net := by induction l generalizing s with | nil => rfl | cons e l ih => exact ih (s.wr e.1 i e.2)
@[simp] theorem State.wrs_inq (s : State) (i : Nat) (l : List (Fld × Nat)) : (s.wrs i l).inq = s.inq := by induction l generalizing s with | nil => rfl | cons e l ih => exact ih (s.wr e.1 i e.2)
@[simp] theorem State.wrs_pwrQ (s : State) (i : Nat) (l : List (Fld × Nat)) : (s.wrs i l).pwrQ = s.pwrQ := by induction l generalizing s with | nil => rfl | cons e l ih => exact ih (s.wr e.1 i e.2)
@[simp] theorem State.wrs_pwr (s : State) (i : Nat) (l : List (Fld × Nat)) : (s.wrs i l).pwr = s.pwr := by induction l generalizing s with | nil => rfl | cons e l ih => exact ih (s.wr e.1 i e.2)
@[simp] theorem State.wrs_otp (s : State) (i : Nat) (l : List (Fld × Nat)) : (s.wrs i l).otp = s.otp := by induction l generalizing s with | nil => rfl | cons e l ih => exact ih (s.wr e.1 i e.2)
@[simp] theorem State.wrs_rng (s : State) (i : Nat) (l : List (Fld × Nat)) : (s.wrs i l).rng = s.rng := by induction l generalizing s with | nil => rfl | cons e l ih => exact ih (s.wr e.1 i e.2)
@[simp] theorem State.wrs_tap (s : State) (i : Nat) (l : List (Fld × Nat)) : (s.wrs i l).tap = s.tap := by induction l generalizing s with | nil => rfl | cons e l ih => exact ih (s.wr e.1 i e.2)
@[simp] theorem State.wrs_hspiOut (s : State) (i : Nat) (l : List (Fld × Nat)) : (s.wrs i l).hspiOut = s.hspiOut := by induction l generalizing s with | nil => rfl | cons e l ih => exact ih (s.wr e.1 i e.2)
@[simp] theorem State.wrs_hspiPrev (s : State) (i : Nat) (l : List (Fld × Nat)) : (s.wrs i l).hspiPrev = s.hspiPrev := by induction l generalizing s with | nil => rfl | cons e l ih => exact ih (s.wr e.1 i e.2)

/-! ### setByte -/

@[simp] theorem State.setByte_pending (s : State) (a : Nat) (b : BitVec 8) : (s.setByte a b).pending = s.pending := rfl
@[simp] theorem State.setByte_now (s : State) (a : Nat) (b : BitVec 8) : (s.setByte a b).now = s.now := rfl
@[simp] theorem State.setByte_free (s : State) (a : Nat) (b : BitVec 8) : (s.setByte a b).free = s.free := rfl
@[simp] theorem State.setByte_hl2880 (s : State) (a : Nat) (b : BitVec 8) : (s.setByte a b).hl2880 = s.hl2880 := rfl
@[simp] theorem State.setByte_regs (s : State) (a : Nat) (b : BitVec 8) : (s.setByte a b).regs = s.regs := rfl
@[simp] theorem State.setByte_page (s : State) (a : Nat) (b : BitVec 8) : (s.setByte a b).page = s.page := rfl
@[simp] theorem State.setByte_flt (s : State) (a : Nat) (b : BitVec 8) : (s.setByte a b).flt = s.flt := rfl
@[simp] theorem State.setByte_fltSeq (s : State) (a : Nat) (b : BitVec 8) : (s.setByte a b).fltSeq = s.fltSeq := rfl
@[simp] theorem State.setByte_haltSeq (s : State) (a : Nat) (b : BitVec 8) : (s.setByte a b).haltSeq = s.haltSeq := rfl
@[simp] theorem State.setByte_rngHalt (s : State) (a : Nat) (b : BitVec 8) : (s.setByte a b).rngHalt = s.rngHalt := rfl
@[simp] theorem State.setByte_relPend (s : State) (a : Nat) (b : BitVec 8) : (s.setByte a b).relPend = s.relPend := rfl
@[simp] theorem State.setByte_haltLow (s : State) (a : Nat) (b : BitVec 8) : (s.setByte a b).haltLow = s.haltLow := rfl
@[simp] theorem State.setByte_fwdSent (s : State) (a : Nat) (b : BitVec 8) : (s.setByte a b).fwdSent = s.fwdSent := rfl
@[simp] theorem State.setByte_canopy (s : State) (a : Nat) (b : BitVec 8) : (s.setByte a b).canopy = s.canopy := rfl
@[simp] theorem State.setByte_chan (s : State) (a : Nat) (b : BitVec 8) : (s.setByte a b).chan = s.chan := rfl
@[simp] theorem State.setByte_jobs (s : State) (a : Nat) (b : BitVec 8) : (s.setByte a b).jobs = s.jobs := rfl
@[simp] theorem State.setByte_jobSeq (s : State) (a : Nat) (b : BitVec 8) : (s.setByte a b).jobSeq = s.jobSeq := rfl
@[simp] theorem State.setByte_jobBlk (s : State) (a : Nat) (b : BitVec 8) : (s.setByte a b).jobBlk = s.jobBlk := rfl
@[simp] theorem State.setByte_jobRes (s : State) (a : Nat) (b : BitVec 8) : (s.setByte a b).jobRes = s.jobRes := rfl
@[simp] theorem State.setByte_mspi (s : State) (a : Nat) (b : BitVec 8) : (s.setByte a b).mspi = s.mspi := rfl
@[simp] theorem State.setByte_scx (s : State) (a : Nat) (b : BitVec 8) : (s.setByte a b).scx = s.scx := rfl
@[simp] theorem State.setByte_link (s : State) (a : Nat) (b : BitVec 8) : (s.setByte a b).link = s.link := rfl
@[simp] theorem State.setByte_fab (s : State) (a : Nat) (b : BitVec 8) : (s.setByte a b).fab = s.fab := rfl
@[simp] theorem State.setByte_tsy (s : State) (a : Nat) (b : BitVec 8) : (s.setByte a b).tsy = s.tsy := rfl
@[simp] theorem State.setByte_can (s : State) (a : Nat) (b : BitVec 8) : (s.setByte a b).can = s.can := rfl
@[simp] theorem State.setByte_net (s : State) (a : Nat) (b : BitVec 8) : (s.setByte a b).net = s.net := rfl
@[simp] theorem State.setByte_inq (s : State) (a : Nat) (b : BitVec 8) : (s.setByte a b).inq = s.inq := rfl
@[simp] theorem State.setByte_pwrQ (s : State) (a : Nat) (b : BitVec 8) : (s.setByte a b).pwrQ = s.pwrQ := rfl
@[simp] theorem State.setByte_pwr (s : State) (a : Nat) (b : BitVec 8) : (s.setByte a b).pwr = s.pwr := rfl
@[simp] theorem State.setByte_otp (s : State) (a : Nat) (b : BitVec 8) : (s.setByte a b).otp = s.otp := rfl
@[simp] theorem State.setByte_rng (s : State) (a : Nat) (b : BitVec 8) : (s.setByte a b).rng = s.rng := rfl
@[simp] theorem State.setByte_tap (s : State) (a : Nat) (b : BitVec 8) : (s.setByte a b).tap = s.tap := rfl
@[simp] theorem State.setByte_hspiOut (s : State) (a : Nat) (b : BitVec 8) : (s.setByte a b).hspiOut = s.hspiOut := rfl
@[simp] theorem State.setByte_hspiPrev (s : State) (a : Nat) (b : BitVec 8) : (s.setByte a b).hspiPrev = s.hspiPrev := rfl

/-! ### used -/

@[simp] theorem State.used_pending (s : State) : (s.used).pending = s.pending := rfl
@[simp] theorem State.used_now (s : State) : (s.used).now = s.now := rfl
@[simp] theorem State.used_hl2880 (s : State) : (s.used).hl2880 = s.hl2880 := rfl
@[simp] theorem State.used_regs (s : State) : (s.used).regs = s.regs := rfl
@[simp] theorem State.used_mem (s : State) : (s.used).mem = s.mem := rfl
@[simp] theorem State.used_page (s : State) : (s.used).page = s.page := rfl
@[simp] theorem State.used_flt (s : State) : (s.used).flt = s.flt := rfl
@[simp] theorem State.used_fltSeq (s : State) : (s.used).fltSeq = s.fltSeq := rfl
@[simp] theorem State.used_haltSeq (s : State) : (s.used).haltSeq = s.haltSeq := rfl
@[simp] theorem State.used_rngHalt (s : State) : (s.used).rngHalt = s.rngHalt := rfl
@[simp] theorem State.used_relPend (s : State) : (s.used).relPend = s.relPend := rfl
@[simp] theorem State.used_haltLow (s : State) : (s.used).haltLow = s.haltLow := rfl
@[simp] theorem State.used_fwdSent (s : State) : (s.used).fwdSent = s.fwdSent := rfl
@[simp] theorem State.used_canopy (s : State) : (s.used).canopy = s.canopy := rfl
@[simp] theorem State.used_chan (s : State) : (s.used).chan = s.chan := rfl
@[simp] theorem State.used_jobs (s : State) : (s.used).jobs = s.jobs := rfl
@[simp] theorem State.used_jobSeq (s : State) : (s.used).jobSeq = s.jobSeq := rfl
@[simp] theorem State.used_jobBlk (s : State) : (s.used).jobBlk = s.jobBlk := rfl
@[simp] theorem State.used_jobRes (s : State) : (s.used).jobRes = s.jobRes := rfl
@[simp] theorem State.used_mspi (s : State) : (s.used).mspi = s.mspi := rfl
@[simp] theorem State.used_scx (s : State) : (s.used).scx = s.scx := rfl
@[simp] theorem State.used_link (s : State) : (s.used).link = s.link := rfl
@[simp] theorem State.used_fab (s : State) : (s.used).fab = s.fab := rfl
@[simp] theorem State.used_tsy (s : State) : (s.used).tsy = s.tsy := rfl
@[simp] theorem State.used_can (s : State) : (s.used).can = s.can := rfl
@[simp] theorem State.used_net (s : State) : (s.used).net = s.net := rfl
@[simp] theorem State.used_inq (s : State) : (s.used).inq = s.inq := rfl
@[simp] theorem State.used_pwrQ (s : State) : (s.used).pwrQ = s.pwrQ := rfl
@[simp] theorem State.used_pwr (s : State) : (s.used).pwr = s.pwr := rfl
@[simp] theorem State.used_otp (s : State) : (s.used).otp = s.otp := rfl
@[simp] theorem State.used_rng (s : State) : (s.used).rng = s.rng := rfl
@[simp] theorem State.used_tap (s : State) : (s.used).tap = s.tap := rfl
@[simp] theorem State.used_hspiOut (s : State) : (s.used).hspiOut = s.hspiOut := rfl
@[simp] theorem State.used_hspiPrev (s : State) : (s.used).hspiPrev = s.hspiPrev := rfl

/-! ### setCh -/

@[simp] theorem State.setCh_pending (s : State) (n : Ch) (c : Chan) : (s.setCh n c).pending = s.pending := rfl
@[simp] theorem State.setCh_now (s : State) (n : Ch) (c : Chan) : (s.setCh n c).now = s.now := rfl
@[simp] theorem State.setCh_free (s : State) (n : Ch) (c : Chan) : (s.setCh n c).free = s.free := rfl
@[simp] theorem State.setCh_hl2880 (s : State) (n : Ch) (c : Chan) : (s.setCh n c).hl2880 = s.hl2880 := rfl
@[simp] theorem State.setCh_regs (s : State) (n : Ch) (c : Chan) : (s.setCh n c).regs = s.regs := rfl
@[simp] theorem State.setCh_mem (s : State) (n : Ch) (c : Chan) : (s.setCh n c).mem = s.mem := rfl
@[simp] theorem State.setCh_page (s : State) (n : Ch) (c : Chan) : (s.setCh n c).page = s.page := rfl
@[simp] theorem State.setCh_flt (s : State) (n : Ch) (c : Chan) : (s.setCh n c).flt = s.flt := rfl
@[simp] theorem State.setCh_fltSeq (s : State) (n : Ch) (c : Chan) : (s.setCh n c).fltSeq = s.fltSeq := rfl
@[simp] theorem State.setCh_haltSeq (s : State) (n : Ch) (c : Chan) : (s.setCh n c).haltSeq = s.haltSeq := rfl
@[simp] theorem State.setCh_rngHalt (s : State) (n : Ch) (c : Chan) : (s.setCh n c).rngHalt = s.rngHalt := rfl
@[simp] theorem State.setCh_relPend (s : State) (n : Ch) (c : Chan) : (s.setCh n c).relPend = s.relPend := rfl
@[simp] theorem State.setCh_haltLow (s : State) (n : Ch) (c : Chan) : (s.setCh n c).haltLow = s.haltLow := rfl
@[simp] theorem State.setCh_fwdSent (s : State) (n : Ch) (c : Chan) : (s.setCh n c).fwdSent = s.fwdSent := rfl
@[simp] theorem State.setCh_canopy (s : State) (n : Ch) (c : Chan) : (s.setCh n c).canopy = s.canopy := rfl
@[simp] theorem State.setCh_jobs (s : State) (n : Ch) (c : Chan) : (s.setCh n c).jobs = s.jobs := rfl
@[simp] theorem State.setCh_jobSeq (s : State) (n : Ch) (c : Chan) : (s.setCh n c).jobSeq = s.jobSeq := rfl
@[simp] theorem State.setCh_jobBlk (s : State) (n : Ch) (c : Chan) : (s.setCh n c).jobBlk = s.jobBlk := rfl
@[simp] theorem State.setCh_jobRes (s : State) (n : Ch) (c : Chan) : (s.setCh n c).jobRes = s.jobRes := rfl
@[simp] theorem State.setCh_mspi (s : State) (n : Ch) (c : Chan) : (s.setCh n c).mspi = s.mspi := rfl
@[simp] theorem State.setCh_scx (s : State) (n : Ch) (c : Chan) : (s.setCh n c).scx = s.scx := rfl
@[simp] theorem State.setCh_link (s : State) (n : Ch) (c : Chan) : (s.setCh n c).link = s.link := rfl
@[simp] theorem State.setCh_fab (s : State) (n : Ch) (c : Chan) : (s.setCh n c).fab = s.fab := rfl
@[simp] theorem State.setCh_tsy (s : State) (n : Ch) (c : Chan) : (s.setCh n c).tsy = s.tsy := rfl
@[simp] theorem State.setCh_can (s : State) (n : Ch) (c : Chan) : (s.setCh n c).can = s.can := rfl
@[simp] theorem State.setCh_net (s : State) (n : Ch) (c : Chan) : (s.setCh n c).net = s.net := rfl
@[simp] theorem State.setCh_inq (s : State) (n : Ch) (c : Chan) : (s.setCh n c).inq = s.inq := rfl
@[simp] theorem State.setCh_pwrQ (s : State) (n : Ch) (c : Chan) : (s.setCh n c).pwrQ = s.pwrQ := rfl
@[simp] theorem State.setCh_pwr (s : State) (n : Ch) (c : Chan) : (s.setCh n c).pwr = s.pwr := rfl
@[simp] theorem State.setCh_otp (s : State) (n : Ch) (c : Chan) : (s.setCh n c).otp = s.otp := rfl
@[simp] theorem State.setCh_rng (s : State) (n : Ch) (c : Chan) : (s.setCh n c).rng = s.rng := rfl
@[simp] theorem State.setCh_tap (s : State) (n : Ch) (c : Chan) : (s.setCh n c).tap = s.tap := rfl
@[simp] theorem State.setCh_hspiOut (s : State) (n : Ch) (c : Chan) : (s.setCh n c).hspiOut = s.hspiOut := rfl
@[simp] theorem State.setCh_hspiPrev (s : State) (n : Ch) (c : Chan) : (s.setCh n c).hspiPrev = s.hspiPrev := rfl

/-! ### modCh -/

@[simp] theorem State.modCh_pending (s : State) (n : Ch) (g : Chan → Chan) : (s.modCh n g).pending = s.pending := rfl
@[simp] theorem State.modCh_now (s : State) (n : Ch) (g : Chan → Chan) : (s.modCh n g).now = s.now := rfl
@[simp] theorem State.modCh_free (s : State) (n : Ch) (g : Chan → Chan) : (s.modCh n g).free = s.free := rfl
@[simp] theorem State.modCh_hl2880 (s : State) (n : Ch) (g : Chan → Chan) : (s.modCh n g).hl2880 = s.hl2880 := rfl
@[simp] theorem State.modCh_regs (s : State) (n : Ch) (g : Chan → Chan) : (s.modCh n g).regs = s.regs := rfl
@[simp] theorem State.modCh_mem (s : State) (n : Ch) (g : Chan → Chan) : (s.modCh n g).mem = s.mem := rfl
@[simp] theorem State.modCh_page (s : State) (n : Ch) (g : Chan → Chan) : (s.modCh n g).page = s.page := rfl
@[simp] theorem State.modCh_flt (s : State) (n : Ch) (g : Chan → Chan) : (s.modCh n g).flt = s.flt := rfl
@[simp] theorem State.modCh_fltSeq (s : State) (n : Ch) (g : Chan → Chan) : (s.modCh n g).fltSeq = s.fltSeq := rfl
@[simp] theorem State.modCh_haltSeq (s : State) (n : Ch) (g : Chan → Chan) : (s.modCh n g).haltSeq = s.haltSeq := rfl
@[simp] theorem State.modCh_rngHalt (s : State) (n : Ch) (g : Chan → Chan) : (s.modCh n g).rngHalt = s.rngHalt := rfl
@[simp] theorem State.modCh_relPend (s : State) (n : Ch) (g : Chan → Chan) : (s.modCh n g).relPend = s.relPend := rfl
@[simp] theorem State.modCh_haltLow (s : State) (n : Ch) (g : Chan → Chan) : (s.modCh n g).haltLow = s.haltLow := rfl
@[simp] theorem State.modCh_fwdSent (s : State) (n : Ch) (g : Chan → Chan) : (s.modCh n g).fwdSent = s.fwdSent := rfl
@[simp] theorem State.modCh_canopy (s : State) (n : Ch) (g : Chan → Chan) : (s.modCh n g).canopy = s.canopy := rfl
@[simp] theorem State.modCh_jobs (s : State) (n : Ch) (g : Chan → Chan) : (s.modCh n g).jobs = s.jobs := rfl
@[simp] theorem State.modCh_jobSeq (s : State) (n : Ch) (g : Chan → Chan) : (s.modCh n g).jobSeq = s.jobSeq := rfl
@[simp] theorem State.modCh_jobBlk (s : State) (n : Ch) (g : Chan → Chan) : (s.modCh n g).jobBlk = s.jobBlk := rfl
@[simp] theorem State.modCh_jobRes (s : State) (n : Ch) (g : Chan → Chan) : (s.modCh n g).jobRes = s.jobRes := rfl
@[simp] theorem State.modCh_mspi (s : State) (n : Ch) (g : Chan → Chan) : (s.modCh n g).mspi = s.mspi := rfl
@[simp] theorem State.modCh_scx (s : State) (n : Ch) (g : Chan → Chan) : (s.modCh n g).scx = s.scx := rfl
@[simp] theorem State.modCh_link (s : State) (n : Ch) (g : Chan → Chan) : (s.modCh n g).link = s.link := rfl
@[simp] theorem State.modCh_fab (s : State) (n : Ch) (g : Chan → Chan) : (s.modCh n g).fab = s.fab := rfl
@[simp] theorem State.modCh_tsy (s : State) (n : Ch) (g : Chan → Chan) : (s.modCh n g).tsy = s.tsy := rfl
@[simp] theorem State.modCh_can (s : State) (n : Ch) (g : Chan → Chan) : (s.modCh n g).can = s.can := rfl
@[simp] theorem State.modCh_net (s : State) (n : Ch) (g : Chan → Chan) : (s.modCh n g).net = s.net := rfl
@[simp] theorem State.modCh_inq (s : State) (n : Ch) (g : Chan → Chan) : (s.modCh n g).inq = s.inq := rfl
@[simp] theorem State.modCh_pwrQ (s : State) (n : Ch) (g : Chan → Chan) : (s.modCh n g).pwrQ = s.pwrQ := rfl
@[simp] theorem State.modCh_pwr (s : State) (n : Ch) (g : Chan → Chan) : (s.modCh n g).pwr = s.pwr := rfl
@[simp] theorem State.modCh_otp (s : State) (n : Ch) (g : Chan → Chan) : (s.modCh n g).otp = s.otp := rfl
@[simp] theorem State.modCh_rng (s : State) (n : Ch) (g : Chan → Chan) : (s.modCh n g).rng = s.rng := rfl
@[simp] theorem State.modCh_tap (s : State) (n : Ch) (g : Chan → Chan) : (s.modCh n g).tap = s.tap := rfl
@[simp] theorem State.modCh_hspiOut (s : State) (n : Ch) (g : Chan → Chan) : (s.modCh n g).hspiOut = s.hspiOut := rfl
@[simp] theorem State.modCh_hspiPrev (s : State) (n : Ch) (g : Chan → Chan) : (s.modCh n g).hspiPrev = s.hspiPrev := rfl

/-! ### setJob -/

@[simp] theorem State.setJob_pending (s : State) (k : Fin 16) (j : Job) : (s.setJob k j).pending = s.pending := rfl
@[simp] theorem State.setJob_now (s : State) (k : Fin 16) (j : Job) : (s.setJob k j).now = s.now := rfl
@[simp] theorem State.setJob_free (s : State) (k : Fin 16) (j : Job) : (s.setJob k j).free = s.free := rfl
@[simp] theorem State.setJob_hl2880 (s : State) (k : Fin 16) (j : Job) : (s.setJob k j).hl2880 = s.hl2880 := rfl
@[simp] theorem State.setJob_regs (s : State) (k : Fin 16) (j : Job) : (s.setJob k j).regs = s.regs := rfl
@[simp] theorem State.setJob_mem (s : State) (k : Fin 16) (j : Job) : (s.setJob k j).mem = s.mem := rfl
@[simp] theorem State.setJob_page (s : State) (k : Fin 16) (j : Job) : (s.setJob k j).page = s.page := rfl
@[simp] theorem State.setJob_flt (s : State) (k : Fin 16) (j : Job) : (s.setJob k j).flt = s.flt := rfl
@[simp] theorem State.setJob_fltSeq (s : State) (k : Fin 16) (j : Job) : (s.setJob k j).fltSeq = s.fltSeq := rfl
@[simp] theorem State.setJob_haltSeq (s : State) (k : Fin 16) (j : Job) : (s.setJob k j).haltSeq = s.haltSeq := rfl
@[simp] theorem State.setJob_rngHalt (s : State) (k : Fin 16) (j : Job) : (s.setJob k j).rngHalt = s.rngHalt := rfl
@[simp] theorem State.setJob_relPend (s : State) (k : Fin 16) (j : Job) : (s.setJob k j).relPend = s.relPend := rfl
@[simp] theorem State.setJob_haltLow (s : State) (k : Fin 16) (j : Job) : (s.setJob k j).haltLow = s.haltLow := rfl
@[simp] theorem State.setJob_fwdSent (s : State) (k : Fin 16) (j : Job) : (s.setJob k j).fwdSent = s.fwdSent := rfl
@[simp] theorem State.setJob_canopy (s : State) (k : Fin 16) (j : Job) : (s.setJob k j).canopy = s.canopy := rfl
@[simp] theorem State.setJob_chan (s : State) (k : Fin 16) (j : Job) : (s.setJob k j).chan = s.chan := rfl
@[simp] theorem State.setJob_jobSeq (s : State) (k : Fin 16) (j : Job) : (s.setJob k j).jobSeq = s.jobSeq := rfl
@[simp] theorem State.setJob_jobBlk (s : State) (k : Fin 16) (j : Job) : (s.setJob k j).jobBlk = s.jobBlk := rfl
@[simp] theorem State.setJob_jobRes (s : State) (k : Fin 16) (j : Job) : (s.setJob k j).jobRes = s.jobRes := rfl
@[simp] theorem State.setJob_mspi (s : State) (k : Fin 16) (j : Job) : (s.setJob k j).mspi = s.mspi := rfl
@[simp] theorem State.setJob_scx (s : State) (k : Fin 16) (j : Job) : (s.setJob k j).scx = s.scx := rfl
@[simp] theorem State.setJob_link (s : State) (k : Fin 16) (j : Job) : (s.setJob k j).link = s.link := rfl
@[simp] theorem State.setJob_fab (s : State) (k : Fin 16) (j : Job) : (s.setJob k j).fab = s.fab := rfl
@[simp] theorem State.setJob_tsy (s : State) (k : Fin 16) (j : Job) : (s.setJob k j).tsy = s.tsy := rfl
@[simp] theorem State.setJob_can (s : State) (k : Fin 16) (j : Job) : (s.setJob k j).can = s.can := rfl
@[simp] theorem State.setJob_net (s : State) (k : Fin 16) (j : Job) : (s.setJob k j).net = s.net := rfl
@[simp] theorem State.setJob_inq (s : State) (k : Fin 16) (j : Job) : (s.setJob k j).inq = s.inq := rfl
@[simp] theorem State.setJob_pwrQ (s : State) (k : Fin 16) (j : Job) : (s.setJob k j).pwrQ = s.pwrQ := rfl
@[simp] theorem State.setJob_pwr (s : State) (k : Fin 16) (j : Job) : (s.setJob k j).pwr = s.pwr := rfl
@[simp] theorem State.setJob_otp (s : State) (k : Fin 16) (j : Job) : (s.setJob k j).otp = s.otp := rfl
@[simp] theorem State.setJob_rng (s : State) (k : Fin 16) (j : Job) : (s.setJob k j).rng = s.rng := rfl
@[simp] theorem State.setJob_tap (s : State) (k : Fin 16) (j : Job) : (s.setJob k j).tap = s.tap := rfl
@[simp] theorem State.setJob_hspiOut (s : State) (k : Fin 16) (j : Job) : (s.setJob k j).hspiOut = s.hspiOut := rfl
@[simp] theorem State.setJob_hspiPrev (s : State) (k : Fin 16) (j : Job) : (s.setJob k j).hspiPrev = s.hspiPrev := rfl

/-! ### setFr -/

@[simp] theorem State.setFr_pending (s : State) (i : Nat) (r : FltRec) : (s.setFr i r).pending = s.pending := rfl
@[simp] theorem State.setFr_now (s : State) (i : Nat) (r : FltRec) : (s.setFr i r).now = s.now := rfl
@[simp] theorem State.setFr_free (s : State) (i : Nat) (r : FltRec) : (s.setFr i r).free = s.free := rfl
@[simp] theorem State.setFr_hl2880 (s : State) (i : Nat) (r : FltRec) : (s.setFr i r).hl2880 = s.hl2880 := rfl
@[simp] theorem State.setFr_regs (s : State) (i : Nat) (r : FltRec) : (s.setFr i r).regs = s.regs := rfl
@[simp] theorem State.setFr_mem (s : State) (i : Nat) (r : FltRec) : (s.setFr i r).mem = s.mem := rfl
@[simp] theorem State.setFr_page (s : State) (i : Nat) (r : FltRec) : (s.setFr i r).page = s.page := rfl
@[simp] theorem State.setFr_fltSeq (s : State) (i : Nat) (r : FltRec) : (s.setFr i r).fltSeq = s.fltSeq := rfl
@[simp] theorem State.setFr_haltSeq (s : State) (i : Nat) (r : FltRec) : (s.setFr i r).haltSeq = s.haltSeq := rfl
@[simp] theorem State.setFr_rngHalt (s : State) (i : Nat) (r : FltRec) : (s.setFr i r).rngHalt = s.rngHalt := rfl
@[simp] theorem State.setFr_relPend (s : State) (i : Nat) (r : FltRec) : (s.setFr i r).relPend = s.relPend := rfl
@[simp] theorem State.setFr_haltLow (s : State) (i : Nat) (r : FltRec) : (s.setFr i r).haltLow = s.haltLow := rfl
@[simp] theorem State.setFr_fwdSent (s : State) (i : Nat) (r : FltRec) : (s.setFr i r).fwdSent = s.fwdSent := rfl
@[simp] theorem State.setFr_canopy (s : State) (i : Nat) (r : FltRec) : (s.setFr i r).canopy = s.canopy := rfl
@[simp] theorem State.setFr_chan (s : State) (i : Nat) (r : FltRec) : (s.setFr i r).chan = s.chan := rfl
@[simp] theorem State.setFr_jobs (s : State) (i : Nat) (r : FltRec) : (s.setFr i r).jobs = s.jobs := rfl
@[simp] theorem State.setFr_jobSeq (s : State) (i : Nat) (r : FltRec) : (s.setFr i r).jobSeq = s.jobSeq := rfl
@[simp] theorem State.setFr_jobBlk (s : State) (i : Nat) (r : FltRec) : (s.setFr i r).jobBlk = s.jobBlk := rfl
@[simp] theorem State.setFr_jobRes (s : State) (i : Nat) (r : FltRec) : (s.setFr i r).jobRes = s.jobRes := rfl
@[simp] theorem State.setFr_mspi (s : State) (i : Nat) (r : FltRec) : (s.setFr i r).mspi = s.mspi := rfl
@[simp] theorem State.setFr_scx (s : State) (i : Nat) (r : FltRec) : (s.setFr i r).scx = s.scx := rfl
@[simp] theorem State.setFr_link (s : State) (i : Nat) (r : FltRec) : (s.setFr i r).link = s.link := rfl
@[simp] theorem State.setFr_fab (s : State) (i : Nat) (r : FltRec) : (s.setFr i r).fab = s.fab := rfl
@[simp] theorem State.setFr_tsy (s : State) (i : Nat) (r : FltRec) : (s.setFr i r).tsy = s.tsy := rfl
@[simp] theorem State.setFr_can (s : State) (i : Nat) (r : FltRec) : (s.setFr i r).can = s.can := rfl
@[simp] theorem State.setFr_net (s : State) (i : Nat) (r : FltRec) : (s.setFr i r).net = s.net := rfl
@[simp] theorem State.setFr_inq (s : State) (i : Nat) (r : FltRec) : (s.setFr i r).inq = s.inq := rfl
@[simp] theorem State.setFr_pwrQ (s : State) (i : Nat) (r : FltRec) : (s.setFr i r).pwrQ = s.pwrQ := rfl
@[simp] theorem State.setFr_pwr (s : State) (i : Nat) (r : FltRec) : (s.setFr i r).pwr = s.pwr := rfl
@[simp] theorem State.setFr_otp (s : State) (i : Nat) (r : FltRec) : (s.setFr i r).otp = s.otp := rfl
@[simp] theorem State.setFr_rng (s : State) (i : Nat) (r : FltRec) : (s.setFr i r).rng = s.rng := rfl
@[simp] theorem State.setFr_tap (s : State) (i : Nat) (r : FltRec) : (s.setFr i r).tap = s.tap := rfl
@[simp] theorem State.setFr_hspiOut (s : State) (i : Nat) (r : FltRec) : (s.setFr i r).hspiOut = s.hspiOut := rfl
@[simp] theorem State.setFr_hspiPrev (s : State) (i : Nat) (r : FltRec) : (s.setFr i r).hspiPrev = s.hspiPrev := rfl

/-! ### setLp -/

@[simp] theorem State.setLp_pending (s : State) (p : Ch) (l : LinkPort) : (s.setLp p l).pending = s.pending := rfl
@[simp] theorem State.setLp_now (s : State) (p : Ch) (l : LinkPort) : (s.setLp p l).now = s.now := rfl
@[simp] theorem State.setLp_free (s : State) (p : Ch) (l : LinkPort) : (s.setLp p l).free = s.free := rfl
@[simp] theorem State.setLp_hl2880 (s : State) (p : Ch) (l : LinkPort) : (s.setLp p l).hl2880 = s.hl2880 := rfl
@[simp] theorem State.setLp_regs (s : State) (p : Ch) (l : LinkPort) : (s.setLp p l).regs = s.regs := rfl
@[simp] theorem State.setLp_mem (s : State) (p : Ch) (l : LinkPort) : (s.setLp p l).mem = s.mem := rfl
@[simp] theorem State.setLp_page (s : State) (p : Ch) (l : LinkPort) : (s.setLp p l).page = s.page := rfl
@[simp] theorem State.setLp_flt (s : State) (p : Ch) (l : LinkPort) : (s.setLp p l).flt = s.flt := rfl
@[simp] theorem State.setLp_fltSeq (s : State) (p : Ch) (l : LinkPort) : (s.setLp p l).fltSeq = s.fltSeq := rfl
@[simp] theorem State.setLp_haltSeq (s : State) (p : Ch) (l : LinkPort) : (s.setLp p l).haltSeq = s.haltSeq := rfl
@[simp] theorem State.setLp_rngHalt (s : State) (p : Ch) (l : LinkPort) : (s.setLp p l).rngHalt = s.rngHalt := rfl
@[simp] theorem State.setLp_relPend (s : State) (p : Ch) (l : LinkPort) : (s.setLp p l).relPend = s.relPend := rfl
@[simp] theorem State.setLp_haltLow (s : State) (p : Ch) (l : LinkPort) : (s.setLp p l).haltLow = s.haltLow := rfl
@[simp] theorem State.setLp_fwdSent (s : State) (p : Ch) (l : LinkPort) : (s.setLp p l).fwdSent = s.fwdSent := rfl
@[simp] theorem State.setLp_canopy (s : State) (p : Ch) (l : LinkPort) : (s.setLp p l).canopy = s.canopy := rfl
@[simp] theorem State.setLp_chan (s : State) (p : Ch) (l : LinkPort) : (s.setLp p l).chan = s.chan := rfl
@[simp] theorem State.setLp_jobs (s : State) (p : Ch) (l : LinkPort) : (s.setLp p l).jobs = s.jobs := rfl
@[simp] theorem State.setLp_jobSeq (s : State) (p : Ch) (l : LinkPort) : (s.setLp p l).jobSeq = s.jobSeq := rfl
@[simp] theorem State.setLp_jobBlk (s : State) (p : Ch) (l : LinkPort) : (s.setLp p l).jobBlk = s.jobBlk := rfl
@[simp] theorem State.setLp_jobRes (s : State) (p : Ch) (l : LinkPort) : (s.setLp p l).jobRes = s.jobRes := rfl
@[simp] theorem State.setLp_mspi (s : State) (p : Ch) (l : LinkPort) : (s.setLp p l).mspi = s.mspi := rfl
@[simp] theorem State.setLp_scx (s : State) (p : Ch) (l : LinkPort) : (s.setLp p l).scx = s.scx := rfl
@[simp] theorem State.setLp_fab (s : State) (p : Ch) (l : LinkPort) : (s.setLp p l).fab = s.fab := rfl
@[simp] theorem State.setLp_tsy (s : State) (p : Ch) (l : LinkPort) : (s.setLp p l).tsy = s.tsy := rfl
@[simp] theorem State.setLp_can (s : State) (p : Ch) (l : LinkPort) : (s.setLp p l).can = s.can := rfl
@[simp] theorem State.setLp_net (s : State) (p : Ch) (l : LinkPort) : (s.setLp p l).net = s.net := rfl
@[simp] theorem State.setLp_inq (s : State) (p : Ch) (l : LinkPort) : (s.setLp p l).inq = s.inq := rfl
@[simp] theorem State.setLp_pwrQ (s : State) (p : Ch) (l : LinkPort) : (s.setLp p l).pwrQ = s.pwrQ := rfl
@[simp] theorem State.setLp_pwr (s : State) (p : Ch) (l : LinkPort) : (s.setLp p l).pwr = s.pwr := rfl
@[simp] theorem State.setLp_otp (s : State) (p : Ch) (l : LinkPort) : (s.setLp p l).otp = s.otp := rfl
@[simp] theorem State.setLp_rng (s : State) (p : Ch) (l : LinkPort) : (s.setLp p l).rng = s.rng := rfl
@[simp] theorem State.setLp_tap (s : State) (p : Ch) (l : LinkPort) : (s.setLp p l).tap = s.tap := rfl
@[simp] theorem State.setLp_hspiOut (s : State) (p : Ch) (l : LinkPort) : (s.setLp p l).hspiOut = s.hspiOut := rfl
@[simp] theorem State.setLp_hspiPrev (s : State) (p : Ch) (l : LinkPort) : (s.setLp p l).hspiPrev = s.hspiPrev := rfl

/-! ### modLp -/

@[simp] theorem State.modLp_pending (s : State) (p : Ch) (g : LinkPort → LinkPort) : (s.modLp p g).pending = s.pending := rfl
@[simp] theorem State.modLp_now (s : State) (p : Ch) (g : LinkPort → LinkPort) : (s.modLp p g).now = s.now := rfl
@[simp] theorem State.modLp_free (s : State) (p : Ch) (g : LinkPort → LinkPort) : (s.modLp p g).free = s.free := rfl
@[simp] theorem State.modLp_hl2880 (s : State) (p : Ch) (g : LinkPort → LinkPort) : (s.modLp p g).hl2880 = s.hl2880 := rfl
@[simp] theorem State.modLp_regs (s : State) (p : Ch) (g : LinkPort → LinkPort) : (s.modLp p g).regs = s.regs := rfl
@[simp] theorem State.modLp_mem (s : State) (p : Ch) (g : LinkPort → LinkPort) : (s.modLp p g).mem = s.mem := rfl
@[simp] theorem State.modLp_page (s : State) (p : Ch) (g : LinkPort → LinkPort) : (s.modLp p g).page = s.page := rfl
@[simp] theorem State.modLp_flt (s : State) (p : Ch) (g : LinkPort → LinkPort) : (s.modLp p g).flt = s.flt := rfl
@[simp] theorem State.modLp_fltSeq (s : State) (p : Ch) (g : LinkPort → LinkPort) : (s.modLp p g).fltSeq = s.fltSeq := rfl
@[simp] theorem State.modLp_haltSeq (s : State) (p : Ch) (g : LinkPort → LinkPort) : (s.modLp p g).haltSeq = s.haltSeq := rfl
@[simp] theorem State.modLp_rngHalt (s : State) (p : Ch) (g : LinkPort → LinkPort) : (s.modLp p g).rngHalt = s.rngHalt := rfl
@[simp] theorem State.modLp_relPend (s : State) (p : Ch) (g : LinkPort → LinkPort) : (s.modLp p g).relPend = s.relPend := rfl
@[simp] theorem State.modLp_haltLow (s : State) (p : Ch) (g : LinkPort → LinkPort) : (s.modLp p g).haltLow = s.haltLow := rfl
@[simp] theorem State.modLp_fwdSent (s : State) (p : Ch) (g : LinkPort → LinkPort) : (s.modLp p g).fwdSent = s.fwdSent := rfl
@[simp] theorem State.modLp_canopy (s : State) (p : Ch) (g : LinkPort → LinkPort) : (s.modLp p g).canopy = s.canopy := rfl
@[simp] theorem State.modLp_chan (s : State) (p : Ch) (g : LinkPort → LinkPort) : (s.modLp p g).chan = s.chan := rfl
@[simp] theorem State.modLp_jobs (s : State) (p : Ch) (g : LinkPort → LinkPort) : (s.modLp p g).jobs = s.jobs := rfl
@[simp] theorem State.modLp_jobSeq (s : State) (p : Ch) (g : LinkPort → LinkPort) : (s.modLp p g).jobSeq = s.jobSeq := rfl
@[simp] theorem State.modLp_jobBlk (s : State) (p : Ch) (g : LinkPort → LinkPort) : (s.modLp p g).jobBlk = s.jobBlk := rfl
@[simp] theorem State.modLp_jobRes (s : State) (p : Ch) (g : LinkPort → LinkPort) : (s.modLp p g).jobRes = s.jobRes := rfl
@[simp] theorem State.modLp_mspi (s : State) (p : Ch) (g : LinkPort → LinkPort) : (s.modLp p g).mspi = s.mspi := rfl
@[simp] theorem State.modLp_scx (s : State) (p : Ch) (g : LinkPort → LinkPort) : (s.modLp p g).scx = s.scx := rfl
@[simp] theorem State.modLp_fab (s : State) (p : Ch) (g : LinkPort → LinkPort) : (s.modLp p g).fab = s.fab := rfl
@[simp] theorem State.modLp_tsy (s : State) (p : Ch) (g : LinkPort → LinkPort) : (s.modLp p g).tsy = s.tsy := rfl
@[simp] theorem State.modLp_can (s : State) (p : Ch) (g : LinkPort → LinkPort) : (s.modLp p g).can = s.can := rfl
@[simp] theorem State.modLp_net (s : State) (p : Ch) (g : LinkPort → LinkPort) : (s.modLp p g).net = s.net := rfl
@[simp] theorem State.modLp_inq (s : State) (p : Ch) (g : LinkPort → LinkPort) : (s.modLp p g).inq = s.inq := rfl
@[simp] theorem State.modLp_pwrQ (s : State) (p : Ch) (g : LinkPort → LinkPort) : (s.modLp p g).pwrQ = s.pwrQ := rfl
@[simp] theorem State.modLp_pwr (s : State) (p : Ch) (g : LinkPort → LinkPort) : (s.modLp p g).pwr = s.pwr := rfl
@[simp] theorem State.modLp_otp (s : State) (p : Ch) (g : LinkPort → LinkPort) : (s.modLp p g).otp = s.otp := rfl
@[simp] theorem State.modLp_rng (s : State) (p : Ch) (g : LinkPort → LinkPort) : (s.modLp p g).rng = s.rng := rfl
@[simp] theorem State.modLp_tap (s : State) (p : Ch) (g : LinkPort → LinkPort) : (s.modLp p g).tap = s.tap := rfl
@[simp] theorem State.modLp_hspiOut (s : State) (p : Ch) (g : LinkPort → LinkPort) : (s.modLp p g).hspiOut = s.hspiOut := rfl
@[simp] theorem State.modLp_hspiPrev (s : State) (p : Ch) (g : LinkPort → LinkPort) : (s.modLp p g).hspiPrev = s.hspiPrev := rfl

end Sys2Proof.Machine
end

