-- ==== Sys2Proof/Laws/When.lean ====
section
/-! SUPPORT. The guards of a command: it acts where its domain is powered and its instance exists, and changes nothing where not. -/

namespace Sys2Proof.Machine

theorem State.whenCh_on {s : State} {n : Ch} (h : s.chOn n = true) (f : State → State) : s.whenCh n f = f s := by
  rw [State.whenCh, if_pos h]

theorem State.whenCh_off {s : State} {n : Ch} (h : s.chOn n = false) (f : State → State) : s.whenCh n f = s := by
  rw [State.whenCh, if_neg (by rw [h]; exact Bool.false_ne_true)]

theorem State.whenCan_on {s : State} (h : s.domOn dCan = true) (f : State → State) : s.whenCan f = f s := by
  rw [State.whenCan, if_pos h]

theorem State.whenCan_off {s : State} (h : s.domOn dCan = false) (f : State → State) : s.whenCan f = s := by
  rw [State.whenCan, if_neg (by rw [h]; exact Bool.false_ne_true)]

theorem State.whenLink_on {s : State} (h : s.domOn dLink = true) (f : State → State) : s.whenLink f = f s := by
  rw [State.whenLink, if_pos h]

theorem State.whenLink_off {s : State} (h : s.domOn dLink = false) (f : State → State) : s.whenLink f = s := by
  rw [State.whenLink, if_neg (by rw [h]; exact Bool.false_ne_true)]

theorem State.whenPort_on {s : State} {p : Ch} (h : s.domOn dLink = true) (k : s.hl2880 = false ∨ p.val < 2) (f : State → State) :
    s.whenPort p f = (f s).enumPump.settleAll := by
  rw [State.whenPort, if_pos]
  rcases k with k | k
  · rw [h, k]; rfl
  · rw [h, decide_eq_false (by omega), Bool.and_false]; rfl

theorem State.whenPort_off {s : State} {p : Ch} (h : s.domOn dLink = false) (f : State → State) : s.whenPort p f = s := by
  rw [State.whenPort, if_neg (by rw [h]; exact Bool.false_ne_true)]

end Sys2Proof.Machine
end

