-- ==== Sys2Proof/Tests/Slice0.lean ====
section
/-! SUPPORT. The model's own tests: ill-formed commands, worked examples of the manual, witnesses of the statements' hypotheses. -/

namespace Sys2Proof.Tests

open Sys2Proof.Machine Sys2Proof.Machine.R

theorem test_wf_eccRateWindow : Instr.wf (.eccRateWindow [(20#5, 0#24)]) = false := by decide
theorem test_wf_shortRead : Instr.wf (.shortRead 0#6 [0#8, 0#8] 16 [] []) = false := by decide
theorem test_wf_shortWrite : Instr.wf (.shortWrite 0#6 [0#8] 8) = false := by decide
theorem test_wf_linearRead : Instr.wf (.linearRead 0#6 [0#8, 0#8, 0#8] 24 [] []) = false := by decide
theorem test_wf_linearWrite : Instr.wf (.linearWrite 0#6 [0#8] 0) = false := by decide
theorem test_wf_jobStart : Instr.wf (.jobStart 0 1#4 0#4 (List.replicate 8 0#32)) = false := by decide
theorem test_wf_jobSuspendPoint : Instr.wf (.jobSuspendPoint 0 (List.replicate 15 0#32)) = false := by decide
theorem test_wf_jobCancelComplete : Instr.wf (.jobCancelComplete 0 (List.replicate 15 0#32)) = false := by decide
theorem test_wf_jobWorkComplete : Instr.wf (.jobWorkComplete 0 (List.replicate 15 0#32)) = false := by decide
theorem test_wf_jobFailure : Instr.wf (.jobFailure 0 0#8 (List.replicate 15 0#32)) = false := by decide
theorem test_wf_otpRowProgrammed : Instr.wf (.otpRowProgrammed 0 true false (List.replicate 9 0#32)) = false := by decide
theorem test_wf_packetReceived : Instr.wf (.packetReceived 0 true false 0#16 (List.replicate 70 0#32) 0) = false := by decide
theorem test_wf_bertSyncLoss : Instr.wf (.bertSyncLoss 0 (List.replicate 4 0#32)) = false := by decide
theorem test_wf_rdRequest : Instr.wf (.rdRequest [64]) = false := by decide
theorem test_wf_canFrameReceived : Instr.wf (.canFrameReceived 0 0#32 0#4 false (List.replicate 65 0#8) 0#32 true false) = false := by decide
theorem test_wf_tpCmReceived : Instr.wf (.tpCmReceived 0#8 0#8 [0#8]) = false := by decide
theorem test_wf_tpDtReceived : Instr.wf (.tpDtReceived 0#8 0#8 (List.replicate 9 0#8)) = false := by decide
theorem test_wf_etpCmReceived : Instr.wf (.etpCmReceived 0#8 0#8 []) = false := by decide
theorem test_wf_etpDtReceived : Instr.wf (.etpDtReceived 0#8 0#8 (List.replicate 7 0#8)) = false := by decide
theorem test_wf_gatewayRequest : Instr.wf (.gatewayRequest 0#8 0#8 [] none [64]) = false := by decide

set_option maxRecDepth 100000

/-! ### Small states for the witnesses -/

/-- The state after reset with the part running, every domain on, and the fields of `l` written. -/
def mk (l : List (Fld × Nat × Nat)) : State :=
  let s := (([(PWR_DOM_STATE_ON, 0, 0xFF), (SYS_STATUS_BOOT_DONE, 0, 1), (PWR_STATUS_GOOD, 0, 0x1F), (CMP_STATUS_BAND_PENDING, 0, 0), (CMP_STATUS_TRIPPED, 0, 0),
    (OTP_CRIT_VALID, 0, 1), (SUP_STATUS_POST_OK, 0, 1)] ++ l : List (Fld × Nat × Nat))).foldl
    (fun (s : State) e => s.wr e.1 e.2.1 e.2.2) State.reset
  { s with pwr.mode := .run, pwr.step := 17 }
/-- `mk` with channel 0 in the state of code `k`. -/
def st (k : Nat) (l : List (Fld × Nat × Nat)) : State := mk ((CH_STATUS_STATE, 0, k) :: l)
/-- Channel 0 changed. -/
def withCh (f : Chan → Chan) (s : State) : State := s.modCh 0 f
/-- Running fields of channel 0 written. -/
def runs (l : List (Fld × Nat)) (s : State) : State := l.foldl (fun (s : State) e => s.runWr e.1 0 e.2) s

/-! ### Witnesses: for the clauses of each statement, states and operands that meet their hypotheses together -/

theorem witness_StepRunsFrontCommand : ({ State.reset with pending := [.pwmCntClr 0, .fbkHalt] } : State).pending = .pwmCntClr 0 :: [.fbkHalt] ∧
    State.reset.pending = [] ∧ State.reset.rd CLK_STATUS_PWMPLL_LOCK 0 = 0 ∧ State.reset.timeRuns = false ∧
    (mk [(CLK_STATUS_PWMPLL_LOCK, 0, 1)]).timeRuns = true := by
  decide

theorem witness_ChannelCommandsAct :
    (let s := st 2 []; s.chOn 0 = true ∧ s.chState 0 = .idle ∧ s.run CH_MODE_GANG 0 ≠ 2 ∧ s.rd CMP_STATUS_BAND_PENDING 0 = 0 ∧
      s.tripOn 0 = false ∧ s.rd FBK_STATUS_HALTED 0 = 0 ∧ s.bit PWR_STATUS_GOOD 0 1 = true ∧ s.bit PWR_STATUS_GOOD 0 4 = true ∧
      s.rd CH_STATUS_COMMIT_PENDING 0 = 0 ∧ s.bridgeJob 0 = false ∧ s.armReason 0 = 0) ∧
    ((st 3 []).chState 0 = .arming ∧ (st 4 []).chState 0 = .armed ∧ (st 8 []).chState 0 = .fault ∧ (st 8 []).chOn 0 = true ∧
      (st 8 []).run CH_MODE_GANG 0 ≠ 2) ∧
    ((st 5 []).chState 0 = .starting ∧ (st 6 []).chState 0 = .running ∧ (st 7 []).chState 0 = .stopping ∧ (st 10 []).chState 0 = .limp ∧
      (st 9 []).chState 0 = .halted ∧ (st 9 []).rd FBK_STATUS_HALTED 0 = 0) ∧
    ((st 9 [(FBK_STATUS_HALTED, 0, 1)]).chState 0 = .halted ∧ (st 9 [(FBK_STATUS_HALTED, 0, 1)]).rd FBK_STATUS_HALTED 0 ≠ 0) ∧
    (st 2 [(CH_STATUS_COMMIT_PENDING, 0, 1)]).rd CH_STATUS_COMMIT_PENDING 0 ≠ 0 ∧
    ((st 1 []).chState 0 = .hold ∧ (runs [(CH_MODE_GANG, 2)] (st 2 [])).run CH_MODE_GANG 0 = 2) ∧
    ((st 6 []).chState 0 ≠ .hold ∧ (st 6 []).run CH_MODE_GANG 0 ≠ 2 ∧ (st 6 []).armReason 0 ≠ 0) := by decide

/-- A snapshot of the words of channel 0, as COMMIT takes it. -/
def snapOf (s : State) : List (Nat × Word) := (rwcWords 0).map fun a => (a, s.word a)
/-- Channel 0 with a commit of what stands in `s`. -/
def committing (checked : Bool) (s : State) : State := s.modCh 0 fun c => { c with snap := some (snapOf s), checked := checked }

theorem witness_CommitAndBoundaryAct :
    (let s := committing false (st 2 [(CH_MODE_FB, 0, 7), (CH_MODE_GANG, 0, 3)]); s.chOn 0 = true ∧ (s.ch 0).snap = some (snapOf (st 2 [(CH_MODE_FB, 0, 7), (CH_MODE_GANG, 0, 3)])) ∧ (s.ch 0).checked = false ∧
      s.commitReason (snapOf (st 2 [(CH_MODE_FB, 0, 7), (CH_MODE_GANG, 0, 3)])) 0 ≠ 0) ∧
    (let s := committing false (st 2 []); (s.ch 0).checked = false ∧ s.commitReason (snapOf (st 2 [])) 0 = 0) ∧
    (let s := committing true (st 2 []); s.chOn 0 = true ∧ (s.ch 0).snap = some (snapOf (st 2 [])) ∧ (s.ch 0).checked = true ∧
      s.atBoundary 0 = true) ∧ ((st 2 []).ch 0).snap = none := by decide

theorem witness_BusWritesAct :
    (let s := mk []; s.pageLive 0x41 = true ∧ s.pageLive 0x1F = true ∧ (0x4120#24).toNat = 0x41 * 256 + 0x20 ∧ (0x1FF4#24).toNat = 0x1F * 256 + 0xF4 ∧
      s.accessFail 0 true (targetOf 0x9000) = 1 ∧ s.accessFail 0 true (targetOf 0x90FC) = 0 ∧ s.accessFail 1 true (targetOf 0x400000) ≠ 0 ∧ s.accessFail 3 true (targetOf 0x340000) ≠ 0 ∧
      s.rd SYS_BUSERR_VALID 0 = 0) ∧
    (mk [(SYS_BUSERR_VALID, 0, 1)]).rd SYS_BUSERR_VALID 0 ≠ 0 ∧ (mk [(PWR_DOM_STATE_ON, 0, 0xFE)]).chOn 0 = false ∧
    (mk [(PWR_DOM_STATE_ON, 0, 0xFE)]).chOk 0 = true ∧
    (mk [(PWR_DOM_STATE_ON, 0, 0xFE)]).accessFail 2 true (targetOf 0x10FFFC) ≠ 0 ∧
    (mk [(PWR_DOM_STATE_ON, 0, 0xFE)]).accessFail 2 true (targetOf 0x100000) ≠ 0 := by decide

theorem witness_LocksAndWindowsAct :
    (let s := mk [(NET_SIDX, 0, 447)]; s.pageLive 0x1F = true ∧ s.domOn dCan = true ∧ s.rd NET_SIDX 0 < 448 ∧ s.chOn 0 = true ∧
      s.rd GRV_STATUS_CORE 0 = 0 ∧ (s.grv 0).img = 0 ∧ s.domOn dLink = true ∧ (0x3FE#10) ≠ 0x3FF#10 ∧
      s.dropEntry ((0xFFFFFFF4#32).toNat % 8) = false ∧ s.dropEntry ((5#32).toNat % 8) = true) ∧
    (mk [(GRV_STATUS_CORE, 0, 1)]).rd GRV_STATUS_CORE 0 ≠ 0 := by decide

theorem witness_CarrierAdvances :
    (let s := withCh (fun c => { c with car.pendSector := some 3 }) (st 6 [(PWM_STATUS_RUNNING, 0, 1)])
     s.chOn 0 = true ∧ s.rd PWM_STATUS_RUNNING 0 ≠ 0 ∧ s.chState 0 ≠ .limp ∧ (s.ch 0).car.first = none ∧ s.run PWM_CFG_SYNC 0 = 0 ∧
      s.run PWM_CFG_COMM_SYNC 0 = 0 ∧ (s.ch 0).car.pendSector = some 3) ∧
    (let s := withCh (fun c => { c with car.first := some 0 }) (st 6 [(PWM_STATUS_RUNNING, 0, 1)])
     (s.ch 0).car.first = some 0 ∧ s.tickPast 0 = true) ∧
    (let s := withCh (fun c => { c with car.first := some 1 }) (st 6 [(PWM_STATUS_RUNNING, 0, 1)])
     (s.ch 0).car.first = some 1 ∧ s.tickPast 1 = false) ∧
    (st 2 []).rd PWM_STATUS_RUNNING 0 = 0 ∧ (st 10 []).chState 0 = .limp := by decide

/-- An open sample, converted or not. -/
def aSample (conv : Bool) : State → State := withCh fun c => { c with sense.samp := some { (Samp.mk 0 0 0 0 7 0 0 false) with conv := conv } }

theorem witness_SamplesTaken :
    (let s := withCh (fun c => { c with car.opening := true }) (st 6 [(PWM_STATUS_RUNNING, 0, 1)])
     s.chOn 0 = true ∧ s.rd PWM_STATUS_RUNNING 0 ≠ 0 ∧ s.chState 0 ≠ .limp ∧ (s.ch 0).car.opening = true ∧ s.run CH_MODE_GANG 0 = 0 ∧
      vseqCodes (s.run ADC_VSEQ_SLOT 0) ≠ []) ∧
    ((st 6 []).ch 0).car.opening = false ∧
    (let s := aSample false (st 6 []); (s.ch 0).sense.samp.map (·.conv) = some false ∧ s.run CH_MODE_SENSE 0 = 0) ∧
    (let s := aSample true (st 2 []); (s.ch 0).sense.samp.map (·.conv) = some true ∧ 2 ≤ (s.chState 0).code ∧ s.chState 0 ≠ .limp) ∧
    ((st 1 []).chState 0).code < 2 ∧ (st 10 []).chState 0 = .limp ∧
    (let s := withCh (fun c => { c with sense.vseq := some ([6, 0], []) }) (st 6 []); (s.ch 0).sense.vseq = some (6 :: 0 :: [], [])) ∧
    (let s := withCh (fun c => { c with sense.vseq := some ([0], []) }) (runs [(ADC_VSEQ_SLOT, 1)] (st 6 []))
     (s.ch 0).sense.vseq = some ([0], []) ∧ 3 ∉ vseqCodes (s.run ADC_VSEQ_SLOT 0)) ∧
    3 ∈ vseqCodes ((runs [(ADC_VSEQ_SLOT, 3)] (st 6 [])).run ADC_VSEQ_SLOT 0) := by decide

theorem witness_StateTimersEnd :
    (let s := runs [(CH_MODE_HO_POLICY, 0)] (st 6 [(CH_STATUS_HO_DEFER, 0, 1)])
     s.chOn 0 = true ∧ s.rd CH_STATUS_HO_DEFER 0 ≠ 0 ∧ s.run CH_MODE_HO_POLICY 0 = 0) ∧
    (let s := runs [(CH_MODE_HO_POLICY, 1)] (st 6 [(CH_STATUS_HO_DEFER, 0, 1)]); s.rd CH_STATUS_HO_DEFER 0 ≠ 0 ∧ s.run CH_MODE_HO_POLICY 0 = 1) ∧
    (let s := runs [(CH_MODE_HO_POLICY, 2)] (st 6 [(CH_STATUS_HO_DEFER, 0, 1)]); s.rd CH_STATUS_HO_DEFER 0 ≠ 0 ∧ 2 ≤ s.run CH_MODE_HO_POLICY 0) ∧
    (st 6 []).rd CH_STATUS_HO_DEFER 0 = 0 ∧ (st 5 []).chState 0 = .starting ∧ (st 6 []).chState 0 ≠ .starting ∧
    (let s := withCh (fun c => { c with ho.asked := false, ho.fb := 4, ho.fb2 := 7 }) (st 5 [(SPT_STATUS_SU_PHASE, 0, 1)])
     s.chState 0 = .starting ∧ s.rd SPT_STATUS_SU_PHASE 0 = 1 ∧ (s.ch 0).ho.asked = false ∧ s.hoNames 0 1 = false ∧ s.hoNames 0 2 = false ∧
      s.hoNames 0 3 = false) ∧
    (let s := withCh (fun c => { c with ho.asked := false, ho.fb := 2, ho.fb2 := 7 }) (st 5 [(SPT_STATUS_SU_PHASE, 0, 1)])
     (s.ch 0).ho.asked = false ∧ s.hoNames 0 1 = false ∧ s.hoNames 0 2 = true) ∧
    (let s := runs [(SPT_CATCH_WMIN, 0x42480000), (SPT_CATCH_FALLBACK, 0)] (st 5 [(SPT_STATUS_SU_PHASE, 0, 7), (POS_STATUS_SPD_VALID, 0, 1)])
     s.chState 0 = .starting ∧ s.rd SPT_STATUS_SU_PHASE 0 = 7 ∧ s.rd POS_STATUS_SPD_VALID 0 ≠ 0 ∧
      f32Lt (f32Abs (s.rdw POS_SPEED 0)) (s.runw SPT_CATCH_WMIN 0) = true ∧ s.run SPT_CATCH_FALLBACK 0 ≠ 6) ∧
    (runs [(SPT_CATCH_FALLBACK, 6)] (st 5 [])).run SPT_CATCH_FALLBACK 0 = 6 ∧
    (let s := runs [(CH_MODE_FB, 1), (CH_MODE_FB2, 7)] (st 5 [(SPT_STATUS_SU_PHASE, 0, 7)])
     s.chState 0 = .starting ∧ s.fb 0 ≠ 4 ∧ s.fb2 0 ≠ 4 ∧ s.rd POS_STATUS_SPD_VALID 0 = 0) ∧
    (let s := st 7 [(SPT_STATUS_BRK_PHASE, 0, 4)]; s.chState 0 = .stopping ∧ s.rd SPT_STATUS_BRK_PHASE 0 = 4) ∧
    (let s := (withCh (fun c => { c with homeRun := true }) (st 6 [])).setJob 3 { Job.reset with typ := jHoming, tgt := 0, st := .running }
     (s.ch 0).homeRun = true ∧ s.holder 0 = some 3 ∧ (s.job 3).typ = jHoming) ∧ ((st 6 []).ch 0).homeRun = false := by decide

/-- The running copy of OBS.POL.MIN at 0.5 with a polarity test whose second pulse gave `p` after `h`. -/
def polState (h p : Word) : State :=
  runs [(OBS_POL_MIN, 50), (OBS_POL_TRIES, 3)] (withCh (fun c => { c with obs.inj := { c.obs.inj with pol := 2, hPlus := h, sum := p, num := 1 } }) (st 5 []))

theorem witness_ObserverAndTargetsAct :
    (let s := withCh (fun c => { c with obs.inj := { c.obs.inj with pol := 1 } }) (st 5 []); s.chOn 0 = true ∧ (s.ch 0).obs.inj.pol = 1) ∧
    (let s := polState 0x40000000#32 0x3F800000#32; (s.ch 0).obs.inj.pol = 2) ∧
    (let s := withCh (fun c => { c with obs.obs := { c.obs.obs with st := 2, tmr := some 0, out := false } }) (st 6 [])
     (s.ch 0).obs.obs.st ≠ 3 ∧ (s.ch 0).obs.obs.tmr ≠ none ∧ (s.ch 0).obs.obs.out = false) ∧
    (let s := withCh (fun c => { c with obs.obs := { c.obs.obs with st := 3 }, obs.hfi := { c.obs.hfi with st := 3 } }) (st 6 [])
     (s.ch 0).obs.hfi.st = 3) ∧
    (let s := withCh (fun c => { c with obs.obs := { c.obs.obs with st := 2 }, obs.hfi := { c.obs.hfi with st := 2 } }) (st 6 [])
     (s.ch 0).obs.obs.st ≠ 3 ∧ (s.ch 0).obs.hfi.st ≠ 3) ∧
    (let s := st 6 []; s.rd SPT_STATUS_HOMING 0 = 0 ∧ f32IsFinite 0xFF7FFFFF#32 = true ∧ f32IsFinite 0x7F800000#32 = false) ∧
    (st 6 [(SPT_STATUS_HOMING, 0, 1)]).rd SPT_STATUS_HOMING 0 ≠ 0 := by decide

theorem witness_ComparatorsTripAndRelease :
    (let s := st 2 []; s.chOn 0 = true ∧ s.cmpReady 0 0 = true ∧ s.cmpReady 0 2 = true ∧ s.cmpReady 0 3 = true ∧ s.cmpReady 0 8 = true ∧
      s.cmpReady 0 9 = true ∧ s.cmpReady 0 10 = true ∧ 2 ≤ (s.chState 0).code ∧ ((st 1 []).chState 0).code < 2 ∧ (st 1 []).cmpReady 0 10 = true ∧
      s.bit CMP_STATUS_BAND_PENDING 0 10 = false) ∧
    (let s := st 2 [(CMP_STATUS_TRIPPED, 0, 0x7FF)]; s.cmpReady 0 0 = false ∧ s.cmpReady 0 8 = false ∧ s.cmpReady 0 10 = false ∧
      s.bit CMP_STATUS_TRIPPED 0 10 = true ∧ s.bit CMP_STATUS_BAND_PENDING 0 10 = false) ∧
    (let s := st 2 [(CMP_STATUS_BAND_PENDING, 0, 0x401)]; s.bit CMP_STATUS_BAND_PENDING 0 0 = true ∧ s.bit CMP_STATUS_BAND_PENDING 0 10 = true ∧
      s.underTest 0 10 = false) ∧
    (st 2 [(CMP_STATUS_BAND_PENDING, 0, 0x400)]).rd CMP_STATUS_BAND_PENDING 0 = 2 ^ 10 := by decide

/-- A comparator self-test on channel 0 at comparator `k`. -/
def testing (k : Nat) (s : State) : State :=
  { s with jobs := s.jobs.set 0 { Job.reset with typ := jSelftest, tgt := 0, st := .running, work := k } }

/-- Channel 0 in LIMP at time `t`, the high side of phase A on, the limp words as the entry latched them from `l`. -/
def inLimp (t : Nat) (l : List (Fld × Nat)) : State :=
  let s := runs l (st 10 [])
  { withCh (fun c => { c with prot.gates := 1#6, prot.limpSector := 1, prot.limpCfg := s.word (CMP_LIMP_CFG_PERIOD.runAddr 0),
                              prot.limpI := s.word (CMP_LIMP_I_IPK.runAddr 0) }) s with now := t }

theorem witness_VdsBrakeAndLimpAct :
    (let s := withCh (fun c => { c with prot.gates := 0x21#6 }) (st 6 [])
     s.chOn 0 = true ∧ (s.ch 0).prot.gates.getLsbD 0 = true ∧ (s.ch 0).prot.gates.getLsbD 5 = true ∧ (s.ch 0).prot.vdsBlank.getLsbD 0 = false ∧
      s.underTest 0 12 = false ∧ s.underTest 0 17 = false ∧ s.underTest 0 18 = false ∧ s.underTest 0 23 = false ∧ s.underTest 0 11 = false ∧
      (s.ch 0).prot.gates.getLsbD 1 = false ∧ (s.chState 0).bstDrives = true) ∧
    ((testing 21 (st 2 [])).underTest 0 21 = true ∧ (testing 18 (st 2 [])).underTest 0 18 = true ∧ (testing 11 (st 2 [])).underTest 0 11 = true ∧
      (testing 24 (st 2 [])).underTest 0 24 = true) ∧
    (let s := withCh (fun c => { c with prot.brkOn := true }) (runs [(BRK_MAXON, 1)] (st 6 [])); (s.ch 0).prot.brkOn = true ∧
      s.run BRK_MAXON 0 ≠ 0) ∧ ((st 6 []).ch 0).prot.brkOn = false ∧
    (let s := inLimp 10 [(CMP_LIMP_I_IPK, 100), (CMP_LIMP_I_SLOPE, 0), (CMP_LIMP_CFG_LEB, 1)]
     s.chState 0 = .limp ∧ s.limpTrips 0 100 (-100) 0 = true ∧ s.limpTrips 0 99 (-99) 0 = false ∧ s.underTest 0 24 = false) ∧
    (inLimp 9 [(CMP_LIMP_I_IPK, 100), (CMP_LIMP_I_SLOPE, 0), (CMP_LIMP_CFG_LEB, 1)]).limpTrips 0 100 (-100) 0 = false ∧
    (st 6 []).chState 0 ≠ .limp := by decide

theorem witness_CalibrationAndTestCurrents :
    ((st 1 []).chOn 0 = true ∧ (st 1 []).chState 0 = .hold ∧ (st 2 []).chState 0 = .idle ∧ (st 2 []).bridgeJob 0 = false) ∧
    ((st 6 []).chState 0 ≠ .hold ∧ (st 6 []).chState 0 ≠ .idle ∧ (testing 0 (st 2 [])).bridgeJob 0 = true) ∧
    (let s := withCh (fun c => { c with sense.calQ := [true] }) (st 2 []); (s.ch 0).sense.calQ = true :: [] ∧ s.run CH_MODE_SENSE 0 = 0) ∧
    ((st 2 []).ch 0).sense.calQ = [] := by decide

theorem witness_HallAndEncoderFollow :
    (let s := withCh (fun c => { c with pos.hall := { c.pos.hall with spdOk := true } }) (st 2 []); s.chOn 0 = true ∧ (s.ch 0).pos.hall.spdOk = true) ∧
    (let s := st 2 []; 0 < s.cpr 0 ∧ (true, false) ≠ ((s.ch 0).pos.enc.a, (s.ch 0).pos.enc.b) ∧
      quad true false = (quad (s.ch 0).pos.enc.a (s.ch 0).pos.enc.b + 1) % 4 ∧
      quad false true = (quad (s.ch 0).pos.enc.a (s.ch 0).pos.enc.b + 3) % 4 ∧
      quad true true = (quad (s.ch 0).pos.enc.a (s.ch 0).pos.enc.b + 2) % 4 ∧ s.hallSectorOf 0 0 = 0 ∧ s.hallSectorOf 0 1 ≠ 0) ∧
    (let s := runs [(POS_ENC_IDX_GATE, 0), (POS_ENC_IDX_MODE, 1)] (st 2 []); s.run POS_ENC_IDX_GATE 0 = 0 ∧ s.run POS_ENC_IDX_MODE 0 ≠ 0 ∧
      s.rd POS_STATUS_ENC_REF 0 = 0) ∧
    (let s := runs [(POS_ENC_IDX_GATE, 1)] (st 2 []); s.run POS_ENC_IDX_GATE 0 = 1 ∧ ((s.ch 0).pos.enc.a && (s.ch 0).pos.enc.b) = false) := by decide

theorem witness_ResolverAndSpiFollow :
    (let s := mk [(SCX_STATUS_RUNNING, 1, 1)]; s.rd SCX_STATUS_RUNNING 1 ≠ 0 ∧ s.rd SCX_STATUS_RUNNING 0 = 0 ∧ s.locked 0x0A = false ∧
      s.rd MSPI_STATUS_BUSY 0 = 0) ∧
    ((mk []).setWord 0xA1C 1#32).locked 0x0A = true ∧
    (let s := mk [(MSPI_TRIG_SRC.nth 3, 0, 2), (MSPI_CTRL_EN, 0, 1)]; s.rd (MSPI_TRIG_SRC.nth 3) 0 = 2 ∧ s.rd MSPI_CTRL_EN 0 ≠ 0 ∧
      s.rd MSPI_STATUS_BUSY 0 = 0 ∧ s.rd (MSPI_TRIG_SRC.nth 0) 0 = 0) ∧
    (let s := mk [(MSPI_TRIG_SRC.nth 3, 0, 2), (MSPI_CTRL_EN, 0, 1), (MSPI_STATUS_BUSY, 0, 1)]; s.rd MSPI_STATUS_BUSY 0 ≠ 0 ∧
      s.rd MSPI_STATUS_PENDING 0 = 0 ∧ (s.mspi.get 0).cur.getLsbD 31 = false ∧ (s.mspi.get 0).count < 32) ∧
    (mk [(MSPI_STATUS_PENDING, 0, 1)]).rd MSPI_STATUS_PENDING 0 ≠ 0 ∧
    (let s := withCh (fun c => { c with car.pos := 32, car.divCnt := 0 }) (st 6 [(MSPI_TRIG_SRC.nth 0, 0, 1), (MSPI_TRIG_CH.nth 0, 0, 0),
        (MSPI_TRIG_POS.nth 0, 0, 1), (MSPI_CTRL_EN, 0, 1), (PWM_STATUS_RUNNING, 0, 1)])
     s.rd (MSPI_TRIG_SRC.nth 0) 0 = 1 ∧ s.rd (MSPI_TRIG_CH.nth 0) 0 = 0 ∧ s.chOn 0 = true ∧ s.rd PWM_STATUS_RUNNING 0 ≠ 0 ∧
      s.chState 0 ≠ .limp ∧ (s.ch 0).car.first = none ∧ (s.ch 0).car.divCnt = 0 ∧ (s.ch 0).car.pos = s.rd (MSPI_TRIG_POS.nth 0) 0 * 32 ∧
      s.rd MSPI_CTRL_EN 0 ≠ 0 ∧ s.rd MSPI_STATUS_BUSY 0 = 0) ∧
    (let s := { mk [(MSPI_STATUS_BUSY, 0, 1)] with mspi := (mk []).mspi.set 0 { (mk []).mspi.get 0 with cur := 0x80000000#32 } }
     s.rd MSPI_STATUS_BUSY 0 ≠ 0 ∧ (s.mspi.get 0).cur.getLsbD 31 = true ∧ s.rd MSPI_STATUS_PENDING 0 = 0) := by decide

theorem witness_EngineWordsWritten :
    (let s := st 6 [(PWM_STATUS_RUNNING, 0, 1)]; s.chOn 0 = true ∧ s.rd LOOP_STATUS_SWAP_PENDING 0 = 0 ∧ s.rd PWM_STATUS_RUNNING 0 ≠ 0 ∧
      s.bankCause 0 (s.slice 0 0).bankB 0 0 0x3F800000#32 ≠ 0 ∧ s.bankCause 0 (!(s.slice 0 0).bankB) 0 0 0x3F800000#32 = 0 ∧
      s.bankCause 0 (!(s.slice 0 5).bankB) 5 3 0#32 = 0) ∧
    (let s := st 2 []; s.rd PWM_STATUS_RUNNING 0 = 0 ∧ (∀ k : Fin 6, (s.slice 0 k).swapped = false)) ∧
    (st 6 [(LOOP_STATUS_SWAP_PENDING, 0, 1)]).rd LOOP_STATUS_SWAP_PENDING 0 ≠ 0 ∧ f32IsFinite 0x3F800000#32 = true ∧ f32IsFinite 0x7FC00000#32 = false ∧
    (st 6 [(LOOP_NODE_IDX_IDX, 0, 0x31)]).rd LOOP_NODE_IDX_IDX 0 = 0x31 ∧ (st 6 [(LOOP_NODE_IDX_IDX, 0, 0x32)]).rd LOOP_NODE_IDX_IDX 0 = 0x32 ∧
    (st 6 [(LOOP_NODE_IDX_IDX, 0, 0x3F)]).rd LOOP_NODE_IDX_IDX 0 = 0x3A + 5 ∧
    (st 6 [(LOOP_NODE_IDX_IDX, 0, 0x30)]).rd LOOP_NODE_IDX_IDX 0 < 0x31 ∧ (st 6 []).rd LOOP_WR_ERR_VALID 0 = 0 := by decide

/-- The record of source `i` changed. -/
def withFr (i : Nat) (f : FltRec → FltRec) (s : State) : State := s.setFr i (f (s.fr i))

theorem witness_FaultSourcesReport :
    ((mk []).srcDisabled 0x1FF = true ∧ State.reset.coreOn = false ∧ srcChan 0x40 = some 0 ∧ (mk [(PWR_DOM_STATE_ON, 0, 0xFE)]).domOn 0 = false) ∧
    (let s := mk []; let i := (0x40#9).toNat; s.srcDisabled i = false ∧ s.coreOn = true ∧ s.domOn 0 = true ∧ isSupSafe i = false ∧
      i ∉ [srcSysUnlock, srcMonCclk, srcLodge, srcLockstep, srcRefFail, srcPwmUnlock, srcMonPclk] ∧ (s.fr i).cond = false ∧
      (s.fr i).st.inFault = false ∧ (s.fr i).react ≠ rNone ∧ (s.fr i).st ≠ .active ∧ (s.fr i).st ≠ .quiet ∧ s.rd FLT_FIRST_VALID 0 = 0) ∧
    ((withFr 0x40 (fun r => { r with react := rNone }) (mk [])).fr 0x40).react = rNone ∧ srcIsEvent (0x40 + oLoopLate) = true ∧
    srcIsEvent (srcCh 0 oBusOv) = false ∧ (mk [(FLT_FIRST_VALID, 0, 1)]).rd FLT_FIRST_VALID 0 ≠ 0 ∧
    ((withFr (srcCh 0 oBusOv) (fun r => { r with cond := true }) (mk [])).fr (srcCh 0 oBusOv)).cond = true ∧
    (let s := withFr 0x40 (fun r => { r with st := .active, cond := false, inQuiet := 1 }) (mk [])
     (s.fr 0x40).st = .active ∧ (s.fr 0x40).cond = false ∧ timeCode (s.fr 0x40).inQuiet ≠ 0) ∧
    (let s := withFr 0x40 (fun r => { r with st := .quiet, cond := false }) (mk []); (s.fr 0x40).st = .quiet ∧ (s.fr 0x40).cond = false) := by decide

theorem witness_FaultCommandsAct :
    (let s := withFr 0x40 (fun r => { r with st := .latched, cond := false, inCls := 1 }) (mk [(FLTS_SEL_INDEX, 0, 0x40)])
     s.rd FLTS_SEL_INDEX 0 = 0x40 ∧ s.srcDisabled 0x40 = false ∧ (s.fr 0x40).st = .latched ∧ (s.fr 0x40).cond = false ∧ (s.fr 0x40).inCls ≠ clsCrit) ∧
    (let s := withFr 0x40 (fun r => { r with st := .latched, inCls := clsCrit }) (mk [(FLTS_SEL_INDEX, 0, 0x40)]); (s.fr 0x40).inCls = clsCrit) ∧
    (let s := mk [(FLTS_SEL_INDEX, 0, 0x1FF)]; s.srcDisabled (s.rd FLTS_SEL_INDEX 0) = true) ∧
    (let s := mk [(FLTS_SEL_INDEX, 0, 0x40 + oLoopLate)]; let i := 0x40 + oLoopLate; s.rd FLTS_SEL_INDEX 0 = i ∧ s.locked 5 = false ∧
      s.srcDisabled i = false ∧ (s.fr i).st ≠ .masked ∧ (s.fr i).st ≠ .latched ∧
      cfgRefused i ((s.fr i).cls % 8) ((s.fr i).react % 16) ((s.fr i).retryMax % 16) (s.fr i) = false ∧ cfgRefused i 6 0 0 (s.fr i) = true) ∧
    (let i := 0x40; srcNoRetry i = false ∧ timeOk (0x3F3F01#32).toNat = true ∧ timeOk (0x000001#32).toNat = false) ∧
    ((mk []).setWord 0x51C 1#32).locked 5 = true := by decide

theorem witness_HaltNetActs :
    (let s := mk [(LNK_STATUS_SYMLOCK, 3, 1), (FBK_CFG_HIN_EN, 0, 1)]; s.rd FBK_STATUS_HALTED 0 = 0 ∧ s.rd FBK_CFG_HIN_EN 0 ≠ 0 ∧
      s.domOn dLink = true ∧ s.hl2880 = false ∧ s.rd LNK_STATUS_SYMLOCK 3 ≠ 0 ∧ s.relPend = false) ∧
    (∀ n : Ch, (mk [(PWR_DOM_STATE_ON, 0, 0xF0)]).chOn n = false) ∧ (mk [(FBK_CFG_HIN_EN, 0, 0)]).rd FBK_CFG_HIN_EN 0 = 0 ∧
    (let s := mk [(FBK_STATUS_HALTED, 0, 1), (LNK_STATUS_STATE, 0, 6)]; s.rd FBK_STATUS_HALTED 0 ≠ 0 ∧ 3 ≤ s.lst 0) ∧
    (let s := { mk [(FBK_STATUS_HALTED, 0, 1), (FBK_CFG_HIN_EN, 0, 1)] with relPend := true }
     s.relPend = true ∧ s.releaseOk true = true ∧ s.releaseOk false = false) := by decide

theorem witness_SafeStatePathActs :
    ((mk []).chOk 0 = true ∧ (mk []).bit SUP_STATUS_SAFE_REQ 0 0 = false ∧ (mk [(FBK_CFG_SAFE_HALT, 0, 0)]).rd FBK_CFG_SAFE_HALT 0 = 0 ∧
      (mk [(SUP_STATUS_SAFE_REQ, 0, 8)]).bit SUP_STATUS_SAFE_REQ 0 3 = true ∧ ({ mk [] with hl2880 := true } : State).chOk 2 = false) ∧
    (let s := withFr (srcCh 0 oLoopHb) (fun r => { r with st := .active }) (st 1 []); s.chOn 0 = true ∧ (s.fr (srcCh 0 oLoopHb)).st.inFault = true ∧
      s.chState 0 ≠ .fault ∧ s.chState 0 ≠ .limp ∧ s.chState 0 ≠ .idle ∧ s.chState 0 ≠ .halted) ∧ (st 2 []).chState 0 = .idle ∧
    (let s := withFr (srcSupV + 4) (fun r => { r with cond := true }) (mk []); (s.fr (srcSupV + 4)).cond = true ∧ s.hl2880 = false) ∧
    ((mk []).fr (srcSupV + 4)).cond = false ∧ ((mk []).fr (srcSupV + 5)).cond = false ∧
    (let s := st 2 [(GRV_STATUS_WDT_ARMED, 0, 1)]; s.chOn 0 = true ∧ s.rd GRV_STATUS_WDT_ARMED 0 ≠ 0 ∧ s.frozen 0 = false) ∧
    (st 2 []).rd GRV_STATUS_WDT_ARMED 0 = 0 ∧
    (let s := withCh (fun c => { c with eng.hb := true }) (st 6 []); s.chOn 0 = true ∧ (s.ch 0).eng.hb = true ∧ 2 ≤ (s.chState 0).code ∧
      s.chState 0 ≠ .limp ∧ (s.fr (srcCh 0 oLoopHb)).cond = false ∧ srcIsEvent (srcCh 0 oLoopHb) = false) ∧
    ((st 6 []).ch 0).eng.hb = false := by decide

/-- The boot before step `k`. -/
def booting (k : Nat) (l : List (Fld × Nat × Nat)) : State :=
  let s := mk ((SYS_STATUS_BOOT_DONE, 0, 0) :: l)
  { s with pwr.mode := .boot, pwr.step := k - 1, pwr.late := [] }

theorem witness_RangerSupervises :
    (let s := booting 7 [(SUP_STATUS_POST_OK, 0, 0)]; s.pwr.mode = .boot ∧ 6 ≤ s.pwr.step ∧ s.rd SUP_STATUS_POST_OK 0 = 0 ∧ s.rangerOn = false) ∧
    (let s := mk []; s.rd SUP_STATUS_POST_OK 0 ≠ 0 ∧ s.rangerOn = true ∧ (5#32).toNat ≠ s.rng.alive ∧ (0#32).toNat = s.rng.alive ∧ s.rng.same < 9) ∧
    (let s : State := { mk [] with rng.same := 9 }; (0#32).toNat = s.rng.alive ∧ 9 ≤ s.rng.same) ∧
    (let s := mk []; s.monActive 5 = true ∧ monOut 5 0 = true ∧ s.rng.mon.get 5 = 0 ∧ s.monActive 6 = true ∧ s.monActive 1 = false) := by decide

theorem witness_RangerSchedules :
    (let s := mk [(SUP_SCAN_SEL_SEL.nth 0, 0, 0x30)]; s.rangerOn = true ∧
      s.scanList.filter (fun k => decide (s.rng.scan ≤ k)) = 4 :: 5 :: []) ∧
    (let s := mk [(SUP_SCAN_SEL_SEL.nth 0, 0, 0), (SUP_SCAN_SEL_SEL.nth 2, 0, 0x80000000)]
     s.scanList.filter (fun k => decide (s.rng.scan ≤ k)) = [0x7F]) ∧
    State.reset.rangerOn = false ∧ (st 6 []).chOk 0 = true ∧ (st 6 []).chState 0 ≠ .idle ∧
    (let s := mk [(SUP_STEST_PERIOD, 0, 1)]; s.rd SUP_STEST_PERIOD 0 ≠ 0 ∧ s.rangerOn = true) ∧ (mk [(SUP_STEST_PERIOD, 0, 0)]).rd SUP_STEST_PERIOD 0 = 0 ∧
    (let s := mk [(SUP_ECC_LIM_LIM, 0, 1)]; [((19#5), (0#24))].length ≤ s.rd SUP_ECC_LIM_LIM 0 ∧ (19#5).toNat < 20 ∧
      s.rd SUP_ECC_LIM_LIM 0 < [((19#5), (0#24)), (0#5, 0#24)].length) ∧
    (let s := mk [(PWR_DOM_STATE_ON, 0, 0x3F)]; s.rd OTP_STATUS_PASS_BUSY 0 = 0 ∧ s.domOn dOtpw = false ∧ s.rd SYS_STATUS_BOOT_DONE 0 ≠ 0 ∧
      s.rd OTP_MARGIN_VALID 0 = 0) ∧
    (mk []).domOn dOtpw = true ∧ (mk [(OTP_STATUS_PASS_BUSY, 0, 1)]).rd OTP_STATUS_PASS_BUSY 0 ≠ 0 := by decide

theorem witness_PowerAndResetAct :
    (let aJob := { Job.reset with typ := jOtp, st := .running, params := [0x11001001#32, 0#32] }
     let s : State := { mk [] with otp.src := [5#32, 6#32], jobs := (Vector.replicate 16 Job.reset).set! 3 aJob }
     (s.jobs.toList.find? s.otpPulsing).isSome = true ∧ s.otpSpot [0x11001001#32, 0#32] 0 = (128, [5#32, 6#32]) ∧ 1 < [5#32, 6#32].length) ∧
    (mk []).jobs.toList.find? (mk []).otpPulsing = none ∧ otpOp (0x11001001#32) = 1 ∧ otpOp (0x31001001#32) = 3 ∧
    (mk []).pwr.buckWait = false ∧
    (let s := mk []; (4 : Fin 5) ≠ 0 ∧ s.bit PWR_STATUS_GOOD 0 4 = true ∧ s.pwr.mode ≠ .standby ∧ s.pwr.mode ≠ .boot ∧ s.coreOn = true ∧
      s.pwr.mode = .run ∧ s.rd SYS_STATUS_REF_FALLBACK 0 = 0 ∧ 7 ≤ s.pwr.step ∧ s.domOn dLink = true ∧ s.pwr.soft = none) ∧
    (let s := booting 4 []; s.pwr.mode = .boot ∧ 3 ≤ s.pwr.step ∧ s.pwr.step < 5 ∧ s.bit PWR_STATUS_GOOD 0 1 = true) ∧
    (let s := booting 3 []; s.pwr.mode = .boot ∧ s.pwr.step < 3 ∧ s.bit PWR_STATUS_GOOD 0 1 = true) ∧
    (booting 4 [(PWR_STATUS_GOOD, 0, 0x17)]).bit PWR_STATUS_GOOD 0 3 = false ∧
    (let s : State := { mk [] with pwr.mode := .standby }; s.pwr.mode = .standby) ∧
    (let s : State := { mk [] with pwr.soft := some 0 }; s.pwr.soft ≠ none) ∧ (0xC2#8) ≠ 0xC3 ∧
    (mk [(CLK_STATUS_SYSPLL_LOCK, 0, 1)]).rd CLK_STATUS_SYSPLL_LOCK 0 ≠ 0 ∧ (mk [(CLK_STATUS_PWMPLL_LOCK, 0, 1)]).rd CLK_STATUS_PWMPLL_LOCK 0 ≠ 0 := by
  decide

theorem witness_BootSteps :
    (let s := booting 2 []; s.pwr.mode = .boot ∧ s.pwr.step < 16 ∧ s.stepReady (s.pwr.step + 1) = true) ∧
    (booting 17 []).pwr.step = 16 ∧ (let s := booting 7 [(SUP_STATUS_POST_OK, 0, 0)]; s.stepReady (s.pwr.step + 1) = false) ∧
    (let s := booting 8 []; s.pwr.step < 8 ∧ s.pwr.step ≠ 6 ∧ s.pwr.step + 1 ∉ s.pwr.late) ∧
    (let s := booting 11 []; 8 ≤ s.pwr.step ∧ s.pwr.step < 11) ∧ (let s := booting 13 []; 12 ≤ s.pwr.step ∧ s.pwr.step < 16) ∧
    (let s : State := { booting 13 [] with pwr.late := [13] }; s.pwr.step + 1 ∈ s.pwr.late) := by decide

theorem witness_DomainsSwitch :
    (let s := mk []; s.pwr.mode ≠ .entry ∧ s.coreOn = true ∧ s.pwrQ = [] ∧ s.pwr.trans = none) ∧ State.reset.coreOn = false ∧
    (let s := { mk [(PWR_DOM_STATE_ON, 0, 0x10)] with pwrQ := [(0, true, false), (4, false, false), (6, true, false)] }
     s.pwrQ = (0, true, false) :: [(4, false, false), (6, true, false)] ∧ s.pwr.trans = none ∧ s.domOn 0 = false ∧ s.domRefusal 0 true false = 0) ∧
    (let s := { mk [(PWR_DOM_STATE_ON, 0, 1), (CH_STATUS_STATE, 0, 2)] with pwrQ := [(0, false, false)] }
     s.pwrQ = (0, false, false) :: [] ∧ s.domOn 0 = true ∧ s.domRefusal 0 false false = 0) ∧
    (let s := { mk [(PWR_DOM_STATE_ON, 0, 0)] with pwrQ := [(7, true, false)] }
     s.pwrQ = (7, true, false) :: [] ∧ s.domOn 7 = !true ∧ s.domRefusal 7 true false ≠ 0) ∧
    (let s := { mk [] with pwrQ := [(7, true, false)] }; s.pwrQ = (7, true, false) :: [] ∧ s.domOn 7 = true) ∧
    (let s : State := { mk [] with pwr.trans := some (0, true, false) }; s.pwr.trans = some (0, true, false) ∧ s.pwr.mode ≠ .entry) ∧
    (let s : State := { mk [] with pwr.trans := some (6, false, false) }; s.pwr.trans = some (6, false, false) ∧ 6 ≠ dOtpw) := by decide

theorem witness_StandbyAndWake :
    (let s := mk [(PWR_WAKE_EN_PIN, 0, 1), (PWR_DOM_STATE_ON, 0, 0)]; s.pwr.mode = .run ∧ s.standbyRefusal false 0 = 0 ∧ s.standbyRefusal true 0 ≠ 0 ∧
      s.pwr.trans = none ∧ s.locked 2 = false) ∧ (0x5B#8) ≠ 0x5A ∧
    (let s : State := { mk [(PWR_WAKE_EN_PIN, 0, 1), (PWR_DOM_STATE_ON, 0, 0)] with pwr.trans := some (7, true, true) }
     s.pwr.trans = some (7, true, true) ∧ s.standbyRefusal false 0 = 0) ∧
    (let s : State := { mk [(PWR_WAKE_EN_PIN, 0, 1), (PWR_DOM_STATE_ON, 0, 0x10)] with pwr.trans := some (4, false, false) }
     s.pwr.trans = some (4, false, false) ∧ s.standbyRefusal false 0 = 0) ∧
    (let s : State := { mk [] with pwr.mode := .entry }; s.pwr.mode = .entry ∧ s.pwrQ = [] ∧ s.pwr.trans = none) ∧
    (let s : State := { mk [] with pwr.mode := .standby, pwr.wakeEn := 0xF5 }; s.pwr.mode = .standby ∧ s.pwr.wakeEn.testBit 0 = true ∧
      s.pwr.wakeEn.testBit (4 + 3) = true ∧ s.pwr.wakeEn.testBit 2 = true) ∧
    (let s := mk [(CAN_CFG_XCVR, 0, 0)]; s.pwr.wakeEn.testBit 0 = false ∧ s.domOn dCan = true ∧ s.rd CAN_CFG_XCVR 0 = 0) ∧
    ((mk []).setWord 0x21C 1#32).locked 2 = true := by decide

theorem witness_HostFramesAct :
    (let s := mk [(HSPI_CTRL_CRC_EN, 0, 0), (HSPI_CTRL_TURN, 0, 0)]; s.hspiState = 3 ∧ s.rd HSPI_CTRL_CRC_EN 0 = 0 ∧ s.rd HSPI_CTRL_TURN 0 = 0 ∧
      (62#6) ≠ 63 ∧ ((15#6).toNat, 255#8, 254#8) ≠ (15, 255, 255)) ∧
    (HFrame.mk false false [] 0).edges = 0 ∧
    (let s : State := { mk [] with pwr.mode := .standby, pwr.wakeEn := 2 }; s.pwr.mode = .standby ∧ s.pwr.wakeEn.testBit 1 = true) ∧
    (let s : State := { mk [] with pwr.mode := .standby, pwr.wakeEn := 0 }; s.pwr.wakeEn.testBit 1 = false) := by decide

/-- Channel 0 whose core is free to run `op` at its program counter. -/
def issuing (op : GOp) : State :=
  (st 2 [(GRV_STATUS_CORE, 0, 1)]).setMemWord (pramAddr 0 ((st 2 [(GRV_STATUS_CORE, 0, 1)]).gpc 0)) op.encode

theorem witness_GroveIntegerInstructions :
    (issuing .nop).issues 0 .nop ∧ (issuing (.cmp 1 2)).issues 0 (.cmp 1 2) ∧ (issuing (.lui 7 0xFFFF)).issues 0 (.lui 7 0xFFFF) ∧
    (∀ a ∈ [GAlu.add, .sub, .and, .or, .xor, .shl, .shr, .sar, .mul, .min, .max], (issuing (.alu a 15 14 13)).issues 0 (.alu a 15 14 13)) ∧
    (∀ a ∈ [GImmOp.addi, .andi, .ori, .xori, .shli, .shri, .sari], (issuing (.immOp a 0 15 0x3FFFF)).issues 0 (.immOp a 0 15 0x3FFFF)) ∧
    (issuing (.cmpi 3 0)).issues 0 (.cmpi 3 0) := by unfold State.issues; decide

theorem witness_GroveFloatInstructions :
    (∀ a ∈ [GAlu.fadd, .fsub, .fmul, .fdiv, .fmin, .fmax, .fclamp], (issuing (.alu a 15 14 13)).issues 0 (.alu a 15 14 13)) ∧
    (issuing (.fcmp 1 2)).issues 0 (.fcmp 1 2) ∧
    (∀ a ∈ [GUn.fsqrt, .fabs, .fneg, .itof, .ftoi], (issuing (.un a 1 2)).issues 0 (.un a 1 2)) ∧
    f32IsNan 0x7FC00000#32 = true ∧ f32IsNan 0xFF800000#32 = false ∧ f32IsFinite 0xFF800000#32 = false := by unfold State.issues; decide

/-- `issuing` with a word in g1 and the fields of `l` of the core changed. -/
def coreWith (op : GOp) (v : Word) (f : Grv → Grv) : State := ((issuing op).setG 0 1 v).modGrv 0 f

theorem witness_GroveAccessInstructions :
    (∀ k ∈ [GAcc.ld, .st, .nrd, .nwr, .crd, .cwr, .brd, .bwr, .jpost],
      (coreWith (.acc k 2 1 0x3FFFF) 0x100 id).issues 0 (.acc k 2 1 0x3FFFF) ∧
      ((coreWith (.acc k 2 1 0x3FFFF) 0x100 id).gv 0 1 + (0x3FFFF#18).signExtend 32).toNat = 0xFF) ∧
    (let s := coreWith (.msg 3 1 2 63) 5 id; s.issues 0 (.msg 3 1 2 63) ∧ (s.gv 0 2).toNat + (63#6).toNat < 0x1000 ∧ s.domOn dLink = true ∧
      (s.grv 0).sends.length < 4 ∧ (s.gv 0 1).toNat % 1024 ≠ 0x3FF ∧
      (s.request (fromGrove 0) 3 (.grove 0) (reqPkt s.nodeId 2 2 5 false (wd 0) 256 ((List.range 64).map fun j => s.memWord (dramAddr 0 j)))).isSome = true) ∧
    (let s := coreWith (.msg 3 1 2 63) 5 fun g => { g with sends := [0, 1, 2, 3] }; s.issues 0 (.msg 3 1 2 63) ∧ 4 ≤ (s.grv 0).sends.length) ∧
    ((coreWith (.msg 3 1 2 0) 5 id).wr PWR_DOM_STATE_ON 0 1).domOn dLink = false := by unfold State.issues; decide

theorem witness_GroveFlowInstructions :
    (let s := coreWith (.b 0 0x3FFF) 0 id; s.issues 0 (.b 0 0x3FFF) ∧ gCond (s.grv 0) 0 = true) ∧
    (let s := coreWith (.b 1 5) 0 fun g => { g with z := false }; s.issues 0 (.b 1 5) ∧ gCond (s.grv 0) 1 = false) ∧
    (let s := coreWith (.call 9) 0 fun g => { g with stack := [1, 2, 3, 4, 5, 6, 7] }; s.issues 0 (.call 9) ∧ (s.grv 0).stack.length < 8) ∧
    (let s := coreWith .ret 0 fun g => { g with stack := [0x3FFF] }; s.issues 0 .ret ∧ (s.grv 0).stack = 0x3FFF :: []) ∧
    (coreWith (.jr 1) 0xFFFFFFFF id).issues 0 (.jr 1) := by unfold State.issues; decide

theorem witness_GroveFlowInstructions_events :
    (let s := (coreWith (.wfe 2 0x8001) 0 id).wr GRV_EVT_PEND 0 0x8000; s.issues 0 (.wfe 2 0x8001) ∧
      s.rd GRV_EVT_PEND 0 &&& ((0x8001#18).toNat % 2 ^ 16) ≠ 0) ∧
    (let s := (coreWith (.wfe 2 1) 0 id).wr GRV_EVT_PEND 0 0x8000; s.issues 0 (.wfe 2 1) ∧ s.rd GRV_EVT_PEND 0 &&& ((1#18).toNat % 2 ^ 16) = 0) ∧
    (let s := coreWith (.kick 1) 0x5A id; s.issues 0 (.kick 1) ∧ s.rd GRV_STATUS_WDT_ARMED 0 = 0) ∧
    (let s := { ((coreWith (.kick 1) 0x5A fun g => { g with kick := 0x5A, kickAt := 0 }).wr GRV_STATUS_WDT_ARMED 0 1).wr GRV_WDT_WMAX 0 1 with now := 400 }
     s.issues 0 (.kick 1) ∧ s.rd GRV_STATUS_WDT_ARMED 0 ≠ 0 ∧ (s.gv 0 1).toNat % 256 = (s.grv 0).kick ∧ 400 * s.rd GRV_WDT_WMIN 0 ≤ 400 ∧
      400 ≤ 400 * s.rd GRV_WDT_WMAX 0) ∧
    (coreWith (.tset 1 3) 1 id).issues 0 (.tset 1 3) ∧ (coreWith (.sev 0xF) 0 id).issues 0 (.sev 0xF) ∧
    (0xF#18).getLsbD 3 = true ∧ (coreWith (.sev 0xF) 0 id).chOn 3 = true ∧ (coreWith .stop 0 id).issues 0 .stop := by
  unfold State.issues; decide

/-- Channel 0 before a breakpoint at its program counter. -/
def breaking : State :=
  st 2 [(GRV_STATUS_CORE, 0, 1), (SYS_STATUS_DEBUG_OPEN, 0, 1), (DBG_CTRL_CORE, 0, 0), (DBG_BP_EN.nth 3, 0, 1), (DBG_BP_ADDR.nth 3, 0, 0)]

theorem witness_GroveExceptionsTaken :
    (let s := st 2 [(GRV_STATUS_CORE, 0, 1)]; s.chOn 0 = true ∧ s.core 0 = 1 ∧ s.frozen 0 = false ∧ gDecode (s.gFetch 0) = none ∧
      s.breaks 0 = false ∧ s.rd GRV_EXC_VALID 0 = 0) ∧ (breaking.core 0 = 1 ∧ breaking.frozen 0 = false ∧ breaking.breaks 0 = true) ∧ (st 2 []).core 0 ≠ 1 ∧ (st 2 [(GRV_EXC_VALID, 0, 1)]).rd GRV_EXC_VALID 0 ≠ 0 ∧
    (∀ k ∈ [GAcc.ld, .st, .nrd, .nwr, .crd, .cwr], (coreWith (.acc k 2 1 0) 0x1000 id).issues 0 (.acc k 2 1 0) ∧
      0xFFF < ((coreWith (.acc k 2 1 0) 0x1000 id).gv 0 1 + (0#18).signExtend 32).toNat) ∧
    (let s := coreWith (.call 9) 0 fun g => { g with stack := [1, 2, 3, 4, 5, 6, 7, 8] }; s.issues 0 (.call 9) ∧ 8 ≤ (s.grv 0).stack.length) ∧
    (let s := coreWith .ret 0 fun g => { g with stack := [] }; s.issues 0 .ret ∧ (s.grv 0).stack = []) := by
  unfold State.issues; decide

theorem witness_GroveControlCommands :
    (let s := st 2 [(GRV_STATUS_CORE, 0, 0), (GRV_WDT_EN, 0, 0)]; s.chOn 0 = true ∧ s.core 0 = 0 ∧ s.imgIdle 0 = true ∧ s.sigReq = false ∧
      s.rd GRV_WDT_EN 0 = 0 ∧ s.wdtOk 0 = true ∧ s.debugOpen = false) ∧
    (let s := st 2 [(GRV_STATUS_CORE, 0, 0), (GRV_WDT_EN, 0, 1), (GRV_WDT_WMIN, 0, 1), (GRV_WDT_WMAX, 0, 2)]; s.rd GRV_WDT_EN 0 ≠ 0 ∧ s.wdtOk 0 = true) ∧
    (let s := st 2 [(GRV_STATUS_CORE, 0, 1)]; s.core 0 ≠ 0 ∧ s.stopHeld 0 = false ∧ s.core 0 = 1 ∧ (s.grv 0).wfe = none) ∧
    (st 6 [(GRV_STATUS_WDT_ARMED, 0, 1)]).stopHeld 0 = true ∧ (st 2 [(GRV_STATUS_CORE, 0, 3)]).core 0 = 3 ∧
    (let s := st 2 [(GRV_STATUS_CORE, 0, 0), (GRV_ROM_ID, 0, 3)]; 1 ≤ s.rd GRV_ROM_ID 0 ∧ s.rd GRV_ROM_ID 0 ≤ 3) ∧
    3 < (st 2 [(GRV_ROM_ID, 0, 4)]).rd GRV_ROM_ID 0 ∧ (((st 2 []).modGrv 0 fun g => { g with img := 1 }).grv 0).img = 1 ∧
    (((st 2 []).modGrv 0 fun g => { g with img := 4 }).grv 0).img = 2 + 2 ∧
    (let s := (st 2 [(GRV_STATUS_CORE, 0, 2), (GRV_EVT_PEND, 0, 1)]).modGrv 0 fun g => { g with wfe := some (2, 1) }
     (s.grv 0).wfe = some (2, 1) ∧ s.core 0 = 2 ∧ s.frozen 0 = false ∧ s.rd GRV_EVT_PEND 0 &&& 1 ≠ 0) ∧
    (let s := (st 2 [(GRV_STATUS_CORE, 0, 1)]).modGrv 0 fun g => { g with tmr := ⟨#[⟨1, false, false⟩, ⟨1, true, true⟩], rfl⟩ }
     s.grvLive 0 = true ∧ ((s.grv 0).tmr.get 1).run = true) ∧
    (let s := breaking; s.debugOpen = true ∧ s.dbgCore = 0 ∧ s.frozen 0 = false ∧ s.rd (DBG_BP_EN.nth 3) 0 ≠ 0 ∧ s.core 0 = 1 ∧
      (s.grv 0).past = false ∧ s.rd (DBG_BP_ADDR.nth 3) 0 = s.gpc 0) ∧
    (let s := (st 2 [(GRV_STATUS_CORE, 0, 1), (GRV_STATUS_DBG_HALT, 0, 1)]).setMemWord (pramAddr 0 0) GOp.nop.encode
     s.frozen 0 = true ∧ s.core 0 = 1 ∧ gDecode (s.gFetch 0) = some .nop) ∧
    gDecode ((st 2 [(GRV_STATUS_CORE, 0, 1), (GRV_STATUS_DBG_HALT, 0, 1)]).gFetch 0) = none ∧
    (st 2 []).verifyCause 0 ≠ 0 := by decide

theorem witness_GroveWordsRoundTrip : (GOp.b 12 0x3FFF).wf = true ∧ (GOp.stop).wf = true := by decide

/-- `mk` with a job in slot 3. -/
def jobAt (j : Job) (l : List (Fld × Nat × Nat)) : State := (mk l).setJob 3 j

theorem witness_JobCommandsAnswer :
    (let s := st 2 []; s.targetOk jDiag 3 = true ∧ (s.job 0).st = .idle ∧ 1 ≤ jDiag ∧ jDiag ≤ 9 ∧ s.targetOk jDiag 4 = false) ∧
    (∀ k, (({ mk [] with jobs := Vector.replicate 16 { Job.reset with st := .running } } : State).job k).st ≠ .idle) ∧
    ((0x0013#16).toNat % 16 = 3 ∧ ((jobAt { Job.reset with st := .running, gen := 2 } []).job 3).gen ≠ (0x0013#16).toNat / 16 ∧
      ((jobAt { Job.reset with st := .running, gen := 1 } []).job 3).gen = (0x0013#16).toNat / 16) ∧
    (∀ x ∈ [JobSt.queued, .running, .suspending, .suspended, .cancelling, .done, .failed],
      ((jobAt { Job.reset with typ := jDiag, st := x, noRes := x == .suspended } []).job 3).st = x ∧ jDiag ≠ jHoming ∧ jDiag ≠ jTrace) ∧
    (∀ y ∈ [jTrace, jHoming], let j := (jobAt { Job.reset with typ := y, tgt := 0, st := .running } []).job 3
      j.st = .running ∧ j.typ = y ∧ j.tgt = (0 : Ch).val) := by decide

theorem witness_JobsProgress :
    (let s := jobAt { Job.reset with typ := jDiag, tgt := 0, st := .queued } [(CH_STATUS_STATE, 0, 2)]; s.jobNext 3 = true ∧
      (s.job 3).typ ≠ jOtp ∧ s.jobPrecond (s.job 3) = 0) ∧
    (let s := jobAt { Job.reset with typ := jSelftest, tgt := 0, st := .queued } [(CH_STATUS_STATE, 0, 2)]; s.jobNext 3 = true ∧
      s.jobPrecond (s.job 3) = 0) ∧
    (let s := jobAt { Job.reset with typ := jDiag, tgt := 0, st := .queued } [(CH_STATUS_STATE, 0, 1)]; s.jobNext 3 = true ∧
      s.jobPrecond (s.job 3) ≠ 0) ∧ (jobAt { Job.reset with st := .running } []).jobNext 3 = false ∧
    (let s := jobAt { Job.reset with typ := jDiag, tgt := 0, st := .suspending, ended := true } []
     (s.job 3).st = .suspending ∧ s.suspendReady (s.job 3) = true ∧ (s.job 3).typ ≠ jIdent ∧ (s.job 3).typ ≠ jBert ∧ (s.job 3).tgt = (0 : Ch).val) ∧
    (let s := jobAt { Job.reset with typ := jDiag, tgt := 0, st := .suspending } []
     s.suspendReady (s.job 3) = false) ∧
    (let s := jobAt { Job.reset with typ := jGateChar, tgt := 0, st := .cancelling } []; (s.job 3).st = .cancelling) ∧
    (let s := jobAt { Job.reset with typ := jGateChar, tgt := 0, st := .running, work := 22 } []; (s.job 3).typ = jGateChar ∧ (s.job 3).work < 23) ∧
    (let s := jobAt { Job.reset with typ := jGateChar, tgt := 0, st := .running, work := 23 } []; 23 ≤ (s.job 3).work ∧ (s.job 3).st = .running) ∧
    (f32Lt 0x40C00000#32 (f32OfNat 6) = false ∧ f32Lt 0x40BFFFFF#32 (f32OfNat 6) = true) ∧
    (let s := jobAt { Job.reset with typ := jSelftest, tgt := 0, st := .running, work := 25 } []; (s.job 3).work = 25 ∧ (s.job 3).tgt < 4) ∧
    (let s := (jobAt { Job.reset with typ := jHoming, tgt := 0, st := .running } []).modCh 0 fun c => { c with spt.homeCap := true, spt.homeRest := true }
     (s.job 3).typ = jHoming ∧ (s.ch 0).spt.homeCap = true ∧ (s.ch 0).spt.homeRest = true) ∧
    (let s := jobAt { Job.reset with typ := jReenum, st := .running } []; (s.job 3).typ = jReenum ∧ (s.job 3).st = .running) ∧
    (let j := { Job.reset with typ := jIdent, tgt := 0, st := .running, resting := true, params := [wd 0, wd 0, wd 0, wd 63] }
     j.resting = true ∧ f32Lt 0x3F7FFFFF#32 f32One = true ∧ f32Lt 0x3F800000#32 f32One = false) ∧
    (let j := { Job.reset with typ := jIdent, tgt := 0, st := .running, params := List.replicate 7 (wd 63) }
     (jobAt j []).job 3 = j ∧ j.quantity < 6 ∧ j.work + 1 < identSteps j.quantity) ∧
    (let j := { Job.reset with typ := jIdent, tgt := 0, st := .running, work := 1, params := List.replicate 7 (wd 63) }
     let s := jobAt j []; j.quantity < 6 ∧ identSteps j.quantity ≤ j.work + 1 ∧ f32Pos (s.identResult j j.quantity (List.replicate 4 0#32)) = false ∧
      f32Pos (s.identResult j j.quantity [0#32, 0#32, 0x40000000#32, 0x3F800000#32]) = true) ∧
    (let s := jobAt { Job.reset with typ := jSelftest, tgt := 0, st := .running, work := 10 } []; s.chOn 0 = true ∧ s.holder 0 = some 3 ∧
      (s.job 3).work < 11 ∧ s.cmpTrips 0 10 = false ∧ cmpInactive (s.run CH_MODE_SENSE 0) 10 = false) ∧
    (let s := jobAt { Job.reset with typ := jHoming, tgt := 0, st := .suspending } []; (s.job 3).st = .suspending ∧ 2 < jOtp ∧ jOtp ≠ jGateChar ∧
      (s.job 3).typ = jHoming) ∧ (mk []).holder 0 = none ∧
    (let s := jobAt { Job.reset with typ := jOtp, st := .cancelling, params := [0x00000002#32, 0#32] } []; (s.job 3).typ = jOtp ∧
      (s.job 3).work < otpUnits ((s.job 3).par 0) ∧ s.domOn dOtpw = true ∧ s.bit PWR_STATUS_GOOD 0 1 = true) ∧
    (mk [(PWR_STATUS_GOOD, 0, 0x1D)]).bit PWR_STATUS_GOOD 0 1 = false := by decide

theorem witness_TraceCommandsAct :
    (let s := st 6 [(TRC_STATUS_ACTIVE, 0, 1), (TRC_CFG_MODE, 0, 0)]; s.chOn 0 = true ∧ s.rd TRC_STATUS_ACTIVE 0 ≠ 0 ∧
      s.rd TRC_STATUS_TRIGGERED 0 = 0 ∧ (s.ch 0).trc.words = []) ∧
    (let s := st 6 [(TRC_STATUS_ACTIVE, 0, 1), (TRC_CFG_MODE, 0, 1), (TRC_STATUS_TRIGGERED, 0, 1)]; s.rd TRC_CFG_MODE 0 ≠ 0) ∧
    (let s := st 6 [(TRC_STATUS_ACTIVE, 0, 1), (TRC_CFG_MODE, 0, 0), (TRC_STATUS_TRIGGERED, 0, 1)]; s.rd TRC_STATUS_ACTIVE 0 ≠ 0 ∧
      s.rd TRC_CFG_MODE 0 = 0 ∧ s.rd TRC_STATUS_TRIGGERED 0 ≠ 0) ∧ (st 6 []).rd TRC_STATUS_ACTIVE 0 = 0 ∧
    (let s := withCh (fun c => { c with trc.words := [1#32], trc.dest := none }) (st 6 []); (s.ch 0).trc.words ≠ [] ∧ (s.ch 0).trc.dest = none) ∧
    (let s := withCh (fun c => { c with trc.words := [1#32], trc.head := 0x00700000#32, trc.dest := some 0x3FE }) (st 6 [])
     (s.ch 0).trc.words ≠ [] ∧ (s.ch 0).trc.dest = some 0x3FE ∧ 8 = (s.ch 0).trc.head.toNat / 2 ^ 20 % 8 + 1) := by decide

/-- Port 1 in state `k`, its link record changed. -/
def port (k : Nat) (f : LinkPort → LinkPort) (l : List (Fld × Nat × Nat)) : State := (mk ((LNK_STATUS_STATE, 1, k) :: l)).modLp 1 f

theorem witness_LinkPortStates :
    (∀ k, k < 8 → (port k id []).portUp 1 ∧ (port k id []).lst 1 = k) ∧ (port 0 id []).fab.answer = none ∧ (port 0 id []).locked (0x11 + 1) = false ∧
    ((port 0 id []).setWord 0x121C 1#32).locked (0x11 + 1) = true ∧
    (let s := port 1 id [(LNK_STATUS_SIGDET, 1, 1), (LNK_CFG_RATE, 1, 2)]; s.lst 1 = 1 ∧ s.rd LNK_STATUS_SIGDET 1 ≠ 0 ∧ s.rd LNK_CFG_RATE 1 = 2) ∧
    (port 1 id []).rd LNK_STATUS_SIGDET 1 = 0 ∧ (port 1 id [(LNK_CFG_RATE, 1, 0)]).rd LNK_CFG_RATE 1 = 0 ∧ (port 1 id [(LNK_CFG_RATE, 1, 1)]).rd LNK_CFG_RATE 1 = 1 ∧
    (let s := port 3 (fun l => { l with cfgErrs := 1 }) [(LNK_CFG_RATE, 1, 2), (LNK_STATUS_RATE, 1, 0)]; s.rd LNK_CFG_RATE 1 = 2 ∧ (s.lp 1).cfgErrs < 2 ∧
      s.rd LNK_STATUS_RATE 1 = 0) ∧
    (let s := port 3 (fun l => { l with cfgErrs := 2 }) [(LNK_CFG_RATE, 1, 2), (LNK_STATUS_RATE, 1, 0)]; 2 ≤ (s.lp 1).cfgErrs) ∧
    (port 3 id [(LNK_STATUS_RATE, 1, 1)]).rd LNK_STATUS_RATE 1 ≠ 0 ∧
    (lineBad 0b1111111111#10 true true = true ∧ lineBad (Chr.code ⟨false, 0xB5#8⟩ true).1 true false = false ∧
      lineBad (Chr.code (chrK 28 5) true).1 true false = true ∧ lineBad (Chr.code (chrK 28 5) true).1 true true = false) ∧
    (let s := port 2 (fun l => { l with dwellEnd := 5 }) []; s.lst 1 = 2 ∧ s.now < (s.lp 1).dwellEnd ∧ ((port 2 id []).lp 1).dwellEnd ≤ s.now) ∧
    (let s := port 4 (fun l => { l with errs := [20, 10, 5] }) []
     (((s.lp 1).errs.filter fun q => decide (21 < q + 16) && decide (q ≤ 21)).length < 3) ∧
      3 ≤ ((s.lp 1).errs.filter fun q => decide (20 < q + 16) && decide (q ≤ 20)).length) := by unfold State.portUp; decide

theorem witness_LinkTrainingSets :
    traOk 0 0 = false ∧ traOk 7 3 = true ∧ traOk 9 3 = false ∧ traOk 3 4 = false ∧ (∀ k, k < 8 → (port k id []).portUp 1 ∧ (port k id []).lst 1 = k) ∧
    ((port 2 (fun l => { l with tra := 15 }) []).lp 1).tra = 15 ∧ ((port 2 (fun l => { l with tra := 14 }) []).lp 1).tra < 15 ∧
    ((port 4 (fun l => { l with bert := true }) []).lp 1).bert = true ∧ ((port 4 (fun l => { l with bert := false }) []).lp 1).bert = false ∧
    (port 4 (fun l => { l with bert := true }) []).bertAsks 1 = true ∧ (port 4 (fun l => { l with bert := false }) []).bertAsks 1 = false ∧
    ((port 5 (fun l => { l with asked := true }) []).lp 1).asked = true ∧ ((port 5 (fun l => { l with loopAsk := true }) []).lp 1).loopAsk = true ∧
    (port 3 id [(LNK_CFG_LOOP_ALLOW, 1, 1)]).rd LNK_CFG_LOOP_ALLOW 1 ≠ 0 ∧ (7#8).getLsbD 2 = true ∧ (3#8).getLsbD 2 = false ∧ ((port 3 (fun l => { l with tra2 := 15 }) []).lp 1).tra2 = 15 ∧
    ((port 3 (fun l => { l with fresh := false, peerFresh := false }) []).lp 1).fresh = false ∧
    ((port 3 (fun l => { l with fresh := true }) []).lp 1).fresh = true := by unfold State.portUp; decide

/-- A posted write of one word in VC2. -/
def aPkt : Pkt := reqPkt (some 3) 2 2 9 true 0#32 4 [7#32]

theorem witness_LinkPackets :
    (let s := port 4 id [(LNK_SEQ_EXP_RX, 1, 0xFFF)]; s.portUp 1 ∧ s.lst 1 = 4 ∧ (linkWord 0xFFF).toNat / 16 = s.rd LNK_SEQ_EXP_RX 1 ∧
      linkWordOk (linkWord 0xFFF) = true ∧ pktOfWords aPkt.words = some aPkt ∧ pktOfWords [] = none ∧
      (linkWord 0xFFE).toNat / 16 ≠ s.rd LNK_SEQ_EXP_RX 1 ∧ (s.rd LNK_SEQ_EXP_RX 1 + 4095 - (linkWord 0xFFE).toNat / 16) % 4096 < 32 ∧
      32 ≤ (s.rd LNK_SEQ_EXP_RX 1 + 4095 - (linkWord 0xFDE).toNat / 16) % 4096 ∧ linkWordOk (linkWord 5 ^^^ 1#16) = false) ∧
    (let s := port 4 (fun l => { l with replay := [(7, aPkt), (8, aPkt)], stuck := false, again := 0 }) []
     (s.lp 1).replay = [(7, aPkt)] ++ ((linkWord 8).toNat / 16, aPkt) :: [] ∧ (∀ e ∈ [(7, aPkt)], e.1 ≠ (linkWord 8).toNat / 16) ∧
      (∀ e ∈ (s.lp 1).replay, e.1 ≠ (linkWord 9).toNat / 16) ∧ (s.lp 1).replay ≠ [] ∧ (s.lp 1).stuck = false ∧ s.rd LNK_REPLAY_STALLED 1 < 4) ∧
    (let s := port 4 (fun l => { l with replay := [(7, aPkt)], stuck := true, again := 1 }) [(LNK_REPLAY_STALLED, 1, 3)]
     (s.lp 1).stuck = true ∧ s.rd LNK_REPLAY_STALLED 1 = 3 ∧ (s.lp 1).replay = [] ++ (7, aPkt) :: [] ∧ (s.lp 1).again = ([] : List (Nat × Pkt)).length + 1) ∧
    (let s := port 4 (fun l => { l with ackDue := true, nakDue := true }) []; (s.lp 1).ackDue = true ∧ (s.lp 1).nakDue = true) ∧
    (let s := port 4 id []; (s.lp 1).ackDue = false ∧ (s.lp 1).nakDue = false ∧ (s.lp 1).again = 0 ∧ s.nextPacket 1 = none ∧ (s.lp 1).replay = []) ∧
    (let s := port 4 (fun l => { l with egress := [⟨4, false, aPkt⟩] }) []; (s.lp 1).again = 0 ∧ (s.lp 1).bert = false ∧
      s.nextPacket 1 = some ⟨4, false, aPkt⟩ ∧ (s.lp 1).room aPkt = true ∧ aPkt.vc < 4 ∧ (Egr.mk 0 true aPkt).ing = (0 : Ch).val) ∧
    (port 6 id []).lst 1 = 6 ∧ ((port 4 id []).codeError 1 7).lst 1 = 4 ∧ ((port 4 (fun l => { l with errs := [6, 5, 4] }) []).codeError 1 7).lst 1 ≠ 4 ∧
    (let s := (port 4 id []).wr LNK_STATUS_STATE 2 4; s.cutsIn 2 aPkt = true ∧ s.cutsIn 3 aPkt = false ∧ pktOfWords [] = none) := by unfold State.portUp; decide

theorem witness_TimeExchange :
    (let s := port 4 (fun l => { l with rsp := some (3, 0), epo := some (3, 0) })
        [(CLK_STATUS_PWMPLL_LOCK, 0, 1), (TIME_STATUS_SRC, 0, 2), (TIME_STATUS_UPPORT, 0, 1)]
     s.portUp 1 ∧ s.lst 1 = 4 ∧ s.rd TIME_STATUS_UPPORT 0 = (1 : Ch).val ∧ s.domOn dLink = true ∧ s.rd TIME_STATUS_SRC 0 = 2 ∧ s.tsyPort 1 = true ∧
      tsyOk (tsyReq true 5) = true ∧ tsyKind (tsyReq true 5) = 0 ∧ tsyOk (tsyReq true 5 ^^^ 1#64) = false ∧ (s.lp 1).rsp = some (3, 0) ∧
      (s.lp 1).epo = some (3, 0)) ∧ (mk [(CLK_STATUS_PWMPLL_LOCK, 0, 0)]).timeRuns = false ∧
    (let s := port 4 id []; (s.lp 1).rsp = none ∧ (s.lp 1).epo = none ∧ s.rd TIME_STATUS_SRC 0 ≠ 2) ∧
    (let s : State := { port 4 id [(CLK_STATUS_PWMPLL_LOCK, 0, 1), (TIME_STATUS_SRC, 0, 2), (TIME_STATUS_UPPORT, 0, 1)] with
        tsy.t1 := some 7, tsy.seq := 5, tsy.rsp := some (9, 1, 20) }
     tsyOk (tsyRsp true 5 9 1) = true ∧ tsyKind (tsyRsp true 5 9 1) = 1 ∧ s.tsyMine 1 (tsyRsp true 5 9 1) = true ∧
      s.tsyMine 1 (tsyRsp true 6 9 1) = false ∧ tsyOk (tsyEpoch true 5 9) = true ∧ tsyKind (tsyEpoch true 5 9) = 2 ∧
      s.tsyMine 1 (tsyEpoch true 5 9) = true ∧ s.tsy.t1 = some 7 ∧ s.tsy.rsp = some (9, 1, 20)) ∧
    (mk []).tsy.rsp = none ∧ (mk []).tsy.t1 = none ∧ ¬ (mk [(PWR_DOM_STATE_ON, 0, 0)]).portUp 1 ∧
    (mk [(TIME_STATUS_SRC, 0, 1)]).rd TIME_STATUS_SRC 0 = 1 ∧ (mk [(TIME_STATUS_SRC, 0, 0)]).rd TIME_STATUS_SRC 0 ≠ 1 ∧
    (let s := mk [(TIME_PPS, 0, 40), (CLK_STATUS_PWMPLL_LOCK, 0, 1)]; s.rd TIME_PPS 0 ≠ 0 ∧ s.timeRuns = true ∧ s.ticks % s.rd TIME_PPS 0 < 2 ∧
      2 ≤ ({ s with canopy := 2 ^ 38 } : State).ticks % s.rd TIME_PPS 0) ∧ (mk [(TIME_PPS, 0, 0)]).rd TIME_PPS 0 = 0 ∧
    (let s : State := { mk [(TIME_STEP_LIM, 0, 1), (TIME_STATUS_LOCK, 0, 1)] with tsy.first := false }
     s.tsy.first = false ∧ (-1280 : Int).natAbs ≤ s.rd TIME_STEP_LIM 0 * 1280 ∧ s.rd TIME_STEP_LIM 0 * 1280 < (1281 : Int).natAbs ∧
      s.rd TIME_STATUS_LOCK 0 ≠ 0) ∧ (mk []).rd TIME_STATUS_LOCK 0 = 0 := by unfold State.portUp; decide

/-- `mk` with packets waiting at the Lodge. -/
def inbox (l : List (Nat × Pkt)) (f : List (Fld × Nat × Nat)) : State := { mk f with inq := l }
/-- A RD, a WR and a JOB to ID 3. -/
def rdP : Pkt := reqPkt (some 9) 0 2 3 false 0x1030#32 0 []
def wrP (pst : Bool) : Pkt := reqPkt (some 9) 1 2 3 pst 0x1030#32 4 [5#32]
def jobP : Pkt := reqPkt (some 9) 4 2 3 false 0#32 32 (List.replicate 8 0#32)

theorem witness_ServedRequests :
    (let s := inbox [(0, { rdP with rsp := true }), (1, rdP), (2, wrP false)] []; s.domOn dLink = true ∧ ({ rdP with rsp := true } : Pkt).rsp = true ∧
      rdP.rsp = false ∧ rdP.typ = 0 ∧ (wrP false).typ = 1 ∧ jobP.typ = 4 ∧ (s.takeServed 0).isSome = true ∧ s.takeServed 1 = none ∧ s.takeServed 4 = none) ∧
    ((inbox [(2, wrP true)] []).takeServed 1).isSome = true ∧ ((inbox [(3, jobP)] []).takeServed 4).isSome = true ∧ (mk []).takeServed 0 = none ∧
    rdP.rdValid = true ∧ ({ rdP with vc := 3 } : Pkt).rdValid = false ∧ (wrP true).wrValid = true ∧ ({ wrP true with len := 8 } : Pkt).wrValid = false ∧
    jobP.jobValid = true ∧ ({ jobP with pst := true } : Pkt).jobValid = false ∧ (wrP true).pst = true ∧ (wrP false).pst = false ∧ (wrP false).dst ≠ 0x3FF ∧
    rdP.dr = false ∧ rdP.count = 1 := by decide

/-- A MSG to endpoint `e`, an EVT record of code `c`, a HALT packet with operation `op`. -/
def msgP (e : Word) (pst : Bool) : Pkt := reqPkt (some 9) 2 2 3 pst e 4 [5#32]
def evtP (c : Nat) : Pkt := { reqPkt (some 9) 3 0 3 true 0#32 16 [wd (c * 2 ^ 24), 1#32, 2#32, 3#32] with vc := 0 }
def haltP (op : Word) : Pkt := { reqPkt (some 9) 8 0 3 true 0#32 4 [op] with vc := 0 }

theorem witness_MessagesDelivered :
    (mk []).takeWhere (fun k => !k.rsp && k.typ == 2) = none ∧
    (let s := inbox [(0, rdP), (1, msgP 0#32 false)] []; s.domOn dLink = true ∧ (s.takeWhere (fun k => !k.rsp && k.typ == 2)).isSome = true ∧
      (msgP 0#32 false).msgValid = true ∧ (msgP 0#32 false).arg.toNat % 8 = (0 : Ch).val ∧ s.chOn 0 = true ∧ s.bit GRV_FULL 0 0 = false) ∧
    (let s := inbox [(1, msgP 0#32 false)] [(GRV_FULL, 0, 7)]; s.bit GRV_FULL 0 3 = false ∧ ∀ j < 3, s.bit GRV_FULL 0 j = true) ∧
    (inbox [(1, msgP 0#32 false)] [(GRV_FULL, 0, 15)]).mboxSlot 0 = none ∧ ({ msgP 0#32 false with len := 257 } : Pkt).msgValid = false ∧
    4 < (msgP 5#32 false).arg.toNat % 8 ∧ (msgP 4#32 true).arg.toNat % 8 = 4 ∧ (mk []).fab.hrx.length < 4 ∧
    (let s : State := { mk [] with fab.hrx := List.replicate 4 ⟨9, false, 4, [5#32]⟩ }; 4 ≤ s.fab.hrx.length) ∧ (msgP 4#32 true).pst = true ∧
    (mk []).takeWhere (fun k => k.evtCode == 1) = none ∧ ((inbox [(1, evtP 1)] []).takeWhere (fun k => k.evtCode == 1)).isSome = true ∧
    ((inbox [(1, haltP 1#32)] []).takeWhere (fun k => k.typ == 8 && !k.rsp && (k.data.getD 0 0#32).toNat % 2 == 1)).isSome = true ∧
    ((inbox [(1, haltP 0#32)] []).takeWhere (fun k => k.typ == 8 && !k.rsp && (k.data.getD 0 0#32).toNat % 2 == 0)).isSome = true ∧
    (mk []).takeWhere (fun k => k.typ == 8 && !k.rsp && (k.data.getD 0 0#32).toNat % 2 == 0) = none ∧
    (haltP 0#32).haltValid = true ∧ ({ haltP 0#32 with len := 8 } : Pkt).haltValid = false ∧ ({ haltP 0#32 with pst := false, dst := 3 } : Pkt).asks = true ∧
    (haltP 0#32).vc = 0 ∧ (haltP 0#32).dr = false ∧ (haltP 0#32).len = 4 ∧ ({ haltP 0#32 with len := 8 } : Pkt).len ≠ 4 ∧
    (mk []).rd FBK_STATUS_HALTED 0 = 0 ∧ (mk [(FBK_STATUS_HALTED, 0, 1)]).rd FBK_STATUS_HALTED 0 ≠ 0 := by decide

/-- A root record of priority `q`, and the root's own. -/
def recOf (q : Nat) (est : Bool) (up : Option Nat) : RootRec := { prio := q, uid := 5, id := 3, est := est, seq := 0, dist := 1, up := up }
/-- `mk` holding root record `r`. -/
def holding (r : RootRec) (f : List (Fld × Nat × Nat)) : State := { mk f with fab.held := some r }
/-- TSYNC, QUERY and SET. -/
def tsyncP (a : Word) (len : Nat) : Pkt := reqPkt (some 9) 5 2 3 false a len (List.replicate (len / 4) 1#32)

theorem witness_LodgeRecords :
    (mk []).takeWhere (fun k => k.evtCode == 2) = none ∧ (mk []).takeWhere (fun k => k.evtCode == 3) = none ∧
    ((inbox [(1, evtP 2)] []).takeWhere (fun k => k.evtCode == 2)).isSome = true ∧ (inbox [(1, evtP 2)] []).isRoot = false ∧
    ((inbox [(1, evtP 3)] []).takeWhere (fun k => k.evtCode == 3)).isSome = true ∧
    (let s : State := { holding (recOf 1 true none) [] with inq := [(1, evtP 2)], fab.nodes := [⟨7, 9, 1, 5, 0, 1⟩] }
     s.isRoot = true ∧ (evtP 2).src = 9 ∧ s.fab.nodes.find? (fun x => x.id == (evtP 2).src) = some ⟨7, 9, 1, 5, 0, 1⟩) ∧
    ((holding (recOf 1 true none) []).fab.nodes.find? fun x => x.id == (evtP 2).src) = none ∧
    ((inbox [(3, evtP 4)] []).takeWhere (fun k => k.evtCode == 4)).isSome = true ∧ (mk []).takeWhere (fun k => k.evtCode == 4) = none ∧
    ((evtP 4).rootRec 3).dist ≤ 16 ∧ 16 < (({ evtP 4 with data := [wd (4 * 2 ^ 24 + 16 * 2 ^ 10), 0#32, 0#32, 0#32] } : Pkt).rootRec 3).dist ∧
    (let s := mk [(FAB_ELIGIBLE, 0, 1), (FAB_PRIO, 0, 200)]; s.fab.held = none ∧ s.eligible = true ∧ s.offer.beats ((evtP 4).rootRec 3) = false ∧
      (mk [(FAB_ELIGIBLE, 0, 1)]).offer.beats ((evtP 4).rootRec 3) = true ∧ (mk [(FAB_ELIGIBLE, 0, 0)]).eligible = false) ∧
    (mk []).fab.held = none ∧ ((evtP 4).rootRec 3).beats (recOf 1 false none) = true ∧ ((evtP 4).rootRec 3).beats (recOf 0 true none) = false ∧
    ((inbox [(1, tsyncP 0#32 0)] []).takeWhere (fun k => k.typ == 5 && !k.rsp && !k.arg.getLsbD 0)).isSome = true ∧ (tsyncP 0#32 0).vc = 2 ∧
    ((inbox [(1, tsyncP 1#32 8)] []).takeWhere (fun k => k.typ == 5 && !k.rsp && k.arg.getLsbD 0)).isSome = true ∧ (tsyncP 1#32 8).arg.toNat = 1 ∧
    (tsyncP 2#32 0).arg.toNat ≠ 0 ∧ (tsyncP 3#32 8).arg.toNat ≠ 1 ∧ (tsyncP 1#32 8).data = 1#32 :: 1#32 :: [] ∧
    (holding (recOf 1 true none) [(TIME_STATUS_SRC, 0, 1)]).rd TIME_STATUS_SRC 0 = 1 ∧
    (let a := recOf 1 true none; let b := recOf 1 false none; a.est = true ∧ b.est = false) ∧
    (let a := recOf 0 true none; let b := recOf 1 true none; a.est = b.est ∧ a.prio < b.prio) ∧
    (let a : RootRec := { recOf 1 true none with seq := 0 }; let b : RootRec := { recOf 1 true none with seq := 65535 }
     a.seq = (b.seq + 1) % 65536 ∧ b.seq < 65536) := by decide

/-- `mk` with tag 3 outstanding, or each tag in state `k`. -/
def tag3 (t : Tag) (f : List (Fld × Nat × Nat)) : State := (mk f).setTag 3 t
/-- A response to tag 3. -/
def rspP : Pkt := { reqPkt (some 9) 0 2 3 false 0#32 0 [] with rsp := true, tag := 3 }

theorem witness_TransactionsComplete :
    (let s := tag3 { Tag.reset with st := 1, use := .host, dst := 9 } []; s.domOn dLink = true ∧ s.hostBusy = true ∧ (s.tag 3).st = 1) ∧
    (let s := mk [(TXN_REQ_TYPE, 0, 3)]; s.hostBusy = false ∧ s.hostPkt = none) ∧
    (let s : State := { mk [(TXN_REQ_TYPE, 0, 0), (TXN_REQ_VC, 0, 2), (TXN_REQ_DST, 0, 9), (TXN_REQ_PST, 0, 0)] with
        fab.tags := Vector.replicate 64 { Tag.reset with st := 2 } }
     s.hostPkt.isSome = true ∧ s.hostPkt.map (·.pst) = some false ∧ s.hostBusy = false ∧ ∀ j : Nat, j < 56 → (s.tag j).st ≠ 0) ∧
    (let s := mk [(TXN_REQ_TYPE, 0, 1), (TXN_REQ_VC, 0, 2), (TXN_REQ_DST, 0, 0x3FF), (TXN_REQ_PST, 0, 1)]; s.hostPkt.map (·.pst) = some true) ∧
    (let s := mk [(TXN_REQ_TYPE, 0, 0), (TXN_REQ_VC, 0, 2), (TXN_REQ_DST, 0, 9), (TXN_REQ_PST, 0, 0)]; s.hostPkt.map (·.pst) = some false ∧
      s.freeTag false = some 0) ∧
    (mk []).takeWhere (·.rsp) = none ∧ ((inbox [(1, rspP)] []).takeWhere (·.rsp)).isSome = true ∧ rspP.tag < 64 ∧
    (let s : State := { tag3 { Tag.reset with st := 1, use := .host, dst := 9 } [] with inq := [(1, rspP)] }
     (s.tag rspP.tag).st = 1 ∧ (s.tag rspP.tag).use = .host ∧ rspP.src = (s.tag rspP.tag).dst ∧ rspP.status ≠ 1 ∧ rspP.status ≠ 2 ∧ rspP.data = []) ∧
    (let s : State := { tag3 { Tag.reset with st := 1, dst := 8 } [] with inq := [(1, rspP)] }
     (s.tag rspP.tag).dr = false ∧ rspP.src ≠ (s.tag rspP.tag).dst ∧ rspP.status ≠ 1) ∧
    ((mk []).tag 3).st ≠ 1 ∧ ((mk []).tag 3).st ≠ 2 ∧ ((tag3 { Tag.reset with st := 2 } []).tag 3).st = 2 := by decide

theorem witness_RootsElected :
    (let s := mk []; s.domOn dLink = true ∧ s.hl2880 = false ∧ s.fab.held = none ∧ s.isRoot = false ∧ s.nodeId = none ∧
      ∀ p : Nat, p < 4 → s.portActive p = false) ∧
    (4#32).toNat % 8 < 5 ∧ 5 ≤ (7#32).toNat % 8 ∧ (let s : State := { mk [] with hl2880 := true }; s.hl2880 = true) ∧
    (0x800003FF#32).toNat / 2 ^ 31 = 1 ∧ (0x800003FF#32).toNat % 1024 = 0x3FF ∧ (0x800003FE#32).toNat % 1024 ≠ 0x3FF ∧ (0x3FE#32).toNat / 2 ^ 31 = 0 ∧
    (∀ p : Ch, ({ mk [] with link := Vector.replicate 4 { LinkPort.reset with unread := false } } : State).lp p |>.unread = false) ∧
    (mk [(FAB_ELIGIBLE, 0, 1), (FAB_PRIO, 0, 0xFE)]).eligible = true ∧ (mk [(FAB_ELIGIBLE, 0, 1), (FAB_PRIO, 0, 0xFF)]).eligible = false ∧
    (let s := holding (recOf 1 true none) [(FAB_ELIGIBLE, 0, 1)]; s.fab.held = some (recOf 1 true none) ∧ s.isRoot = true ∧ s.fab.step = .idle ∧
      s.holder 9 = none ∧ s.fab.work = []) ∧
    (let s := holding (recOf 1 false none) [(FAB_ELIGIBLE, 0, 1)]; (recOf 1 false none).up = none ∧ (recOf 1 false none).est = false ∧ s.isRoot = false) ∧
    (let s := holding { recOf 9 false none with id := 0x3FF } [(FAB_ELIGIBLE, 0, 1), (FAB_PRIO, 0, 9)]
     s.eligible = true ∧ s.fab.held = some { recOf 9 false none with id := 0x3FF } ∧ 9 = s.rd FAB_PRIO 0 ∧ 0x3FF = s.nodeId.getD 0x3FF) ∧
    (let s := holding (recOf 1 false none) [(FAB_ELIGIBLE, 0, 0)]; s.eligible = false ∧ (s.pickRoot 4).fab.held ≠ some (recOf 1 false none)) ∧
    (let s := holding (recOf 255 false (some 3)) [(FAB_ELIGIBLE, 0, 1)]; s.eligible = true ∧ s.offer.beats (recOf 255 false (some 3)) = true ∧
      (holding (recOf 1 true (some 3)) [(FAB_ELIGIBLE, 0, 1)]).offer.beats (recOf 1 true (some 3)) = false) ∧
    (let s := holding (recOf 1 true (some 3)) []; (recOf 1 true (some 3)).up = some 3 ∧ 3 < 4 ∧
      ∀ q : Nat, q < 4 → q ≠ 3 → s.portActive q = false) ∧
    (let s : State := { holding (recOf 1 true none) [] with fab.work := [.full false false, .up 5 0] }
     s.isRoot = true ∧ s.fab.step = .idle ∧ s.holder 9 = none ∧ s.fab.work = .full false false :: [.up 5 0]) ∧ (mk []).cachePresent 0x3FE = false := by decide

/-- Channel 0 as the leader of stand 4 with a member of index 1 on device 9, channel 2. -/
def leading (s : State) : State :=
  runs [(CH_MODE_GANG, 1), (GANG_CFG_STAND_ID, 4), (GANG_MBR_EN.nth 1, 1), (GANG_MBR_NODE.nth 1, 9), (GANG_MBR_CH.nth 1, 2)] s
/-- Channel 0 as member 1 of stand 4, whose leader is channel 2 of device 9. -/
def member (s : State) : State :=
  runs [(CH_MODE_GANG, 2), (GANG_CFG_STAND_ID, 4), (GANG_CFG_LEADER, 9), (GANG_CFG_LCH, 2), (GANG_CFG_INDEX, 1)] s
/-- An SREF for slot 0 and an SMEAS of stand 4 from device 9. -/
def srefP : Pkt := { reqPkt (some 9) 6 1 3 true 1#32 52
  [wd (4 * 2 ^ 24 + 3 * 2 ^ 20), 0#32, 0#32, 0#32, 1#32, 0#32, 0#32, 0#32, 0#32, 0#32, 0#32, 0#32, 0#32] with src := 9 }
def smeasP : Pkt := { reqPkt (some 9) 7 1 3 true 0#32 60 (wd (4 * 2 ^ 24) :: List.replicate 14 0#32) with src := 9 }

theorem witness_StandPacketsAct :
    (let s := leading (st 6 []); s.chOn 0 = true ∧ s.run CH_MODE_GANG 0 = 1 ∧ s.domOn dLink = true ∧ s.mbrDevs 0 = [9]) ∧
    (let s := runs [(CH_MODE_GANG, 1), (GANG_MBR_EN.nth 1, 0)] (st 6 []); s.run CH_MODE_GANG 0 = 1 ∧ s.members 0 = []) ∧
    (let s := member (st 6 []); s.run CH_MODE_GANG 0 ≠ 1 ∧ (s.standPeers 0).head? = some 0) ∧ ((st 6 []).standPeers 0).head? ≠ some 0 ∧
    (let s := withCh (fun c => { c with gang.waits := true }) (leading (st 4 [(CH_STATUS_RUN_REQ, 0, 1)])); s.standWaits 0 = true) ∧
    (withCh (fun c => { c with gang.waits := true }) (leading (st 4 []))).standWaits 0 = false ∧ (mk [(PWR_DOM_STATE_ON, 0, 0)]).chOn 0 = false ∧
    (mk []).takePkt (fun p => decide (p.typ = 6)) = none ∧ (mk []).takePkt (fun p => decide (p.typ = 7)) = none ∧
    (let s : State := { member (st 6 []) with inq := [(1, srefP)] }; (s.takePkt (fun p => decide (p.typ = 6))).isSome = true ∧ s.srefBad srefP = false ∧
      maskChs (srefP.arg.toNat % 16) = [0] ∧ (srefOf srefP.data 0 0).cmd ≠ 5 ∧
      useGone (s.periodFine 0) (srefOf srefP.data 0 0).tRef (s.ch 0).gang.tk = false) ∧
    (let s := withCh (fun c => { c with gang.tk := 2 ^ 35, gang.held := true }) (member (st 6 []))
     (s.ch 0).gang.held = true ∧ ((member (st 6 [])).ch 0).gang.held = false ∧ useGone (s.periodFine 0) (srefOf srefP.data 0 0).tRef (s.ch 0).gang.tk = true) ∧ (member (st 6 [])).srefBad { srefP with src := 8 } = true ∧
    (let s : State := { leading (st 6 []) with inq := [(1, smeasP)] }; (s.takePkt (fun p => decide (p.typ = 7))).isSome = true ∧
      (s.mbrDevs 0).contains smeasP.src = true ∧ s.run GANG_CFG_STAND_ID 0 = (smeasP.data.getD 0 0#32).toNat / 2 ^ 24 ∧
      (∀ d : Ch, d ≠ 0 → s.run CH_MODE_GANG d.val ≠ 1) ∧ useGone (s.periodFine 0) (smeasOf smeasP s.fineNow).h (s.ch 0).gang.tk = false ∧
      (s.ch 0).gang.meas = []) ∧
    (∀ c : Ch, ¬ (st 6 []).run CH_MODE_GANG c.val = 1) ∧ ((withFr srcTimeLoss (fun r => { r with cond := true }) (mk [])).fr srcTimeLoss).cond = true ∧
    ((mk []).fr srcTimeLoss).cond = false := by decide

/-- Controller 1 out of INIT and integrated, its record changed. -/
def can (f : Can → Can) (l : List (Fld × Nat × Nat)) : State :=
  (mk ([(CAN_CTRL_INIT, 1, 0), (CAN_STATUS_SYNC, 1, 1), (CAN_STATUS_ESTATE, 1, 0)] ++ l)).modCan 1 f
/-- An extended frame from address 0x21, and a filter that takes it into the FIFO. -/
def aFrame : CanFrame := ⟨false, false, false, true, false, 0x18EA2221, 3, 0#32, [0#8, 0xEE#8, 0#8]⟩
def takes (dest : Nat) : CanFilt := ⟨true, true, false, 0, dest, 7, 0⟩

theorem witness_CanCommandsAct :
    (let s := mk [(CAN_CTRL_INIT, 1, 1), (CAN_DBT_BRP, 1, 1), (CAN_DBT_TSEG1, 1, 3), (CAN_DBT_TSEG2, 1, 3)]; s.domOn dCan = true ∧
      s.rd CAN_CTRL_INIT 1 ≠ 0 ∧ s.canTimingBad 1 = false) ∧ (mk []).canTimingBad 1 = true ∧
    (mk [(CAN_NBT_SJW, 1, 9), (CAN_NBT_TSEG2, 1, 1)]).canTimingBad 1 = true ∧
    (let s := can id []; s.rd CAN_CTRL_INIT 1 = 0 ∧ (s.cn 1).cur = none ∧ s.netCan ≠ some 1 ∧ (s.cn 1).fifo.length ≤ 64 ∧
      s.rd CAN_STATUS_SYNC 1 ≠ 0 ∧ s.rd CAN_STATUS_ESTATE 1 < 2 ∧ (s.cn 1).initReq = false) ∧ ((can (fun c => { c with initReq := true }) []).cn 1).initReq = true ∧
    (let s := can (fun c => { c with cur := some 31 }) [(CAN_BPEND, 1, 2 ^ 31)]; (s.cn 1).cur = some 31 ∧ s.rd CAN_STATUS_ESTATE 1 < 2 ∧
      (0x80000000#32).getLsbD 31 = true ∧ s.bit CAN_BPEND 1 31 = true) ∧
    (let s := can id [(CAN_STATUS_ESTATE, 1, 2), (CAN_CFG_AUTO_REC, 1, 1)]; s.rd CAN_STATUS_ESTATE 1 = 2 ∧ s.rd CAN_CFG_AUTO_REC 1 ≠ 0 ∧
      s.canTxOk 1 = false) ∧ (can id [(CAN_CFG_AUTO_REC, 1, 0)]).rd CAN_CFG_AUTO_REC 1 = 0 ∧
    (let s := can (fun c => { c with bufs := c.bufs.set 31 { aFrame with id := 0x18EA2280 } })
        [(CAN_BCFG, 1, 2 ^ 31), (NET_CFG_EN, 0, 1), (NET_CFG_CAN, 0, 1), (NET_STATUS_CLAIM, 0, 0), (NET_OWN_SA, 0, 0x80)]
     s.netDiscards 1 (2 ^ 31 &&& s.rd CAN_BCFG 1) = 2 ^ 31) ∧ (2 ^ 32 - 1 : Nat) < 2 ^ 32 ∧ (mk [(NET_STATUS_CLAIM, 0, 2)]).rd NET_STATUS_CLAIM 0 = 2 ∧
    (0x40000000#32).toNat / 2 ^ 30 = 1 ∧ (0xC0000000#32).toNat / 2 ^ 30 ≠ 1 := by decide

theorem witness_CanBusEvents :
    (let s := can id [(CAN_CFG_FD, 1, 1), (CAN_CFG_MODE, 1, 1)]; s.canRxOk 1 = false ∧ s.rd CAN_CFG_FD 1 ≠ 0 ∧ s.rd CAN_CFG_MODE 1 = 1 ∧
      (0xE0000000#32).getLsbD 31 = true) ∧
    (let s := can (fun c => { c with cur := some 31, bufs := c.bufs.set 31 { aFrame with fdf := true } }) [(CAN_CFG_FD, 1, 1)]
     s.canRxOk 1 = true ∧ s.rd CAN_CFG_MODE 1 ≠ 1 ∧ (s.canOut 1 31).fdf = true) ∧ (can id [(CAN_CFG_FD, 1, 0)]).rd CAN_CFG_FD 1 = 0 ∧
    (let s := can id []; s.domOn dCan = true ∧ s.canRxOk 1 = true ∧ s.netCan ≠ some 1 ∧ s.rd CAN_CTRL_INIT 1 = 0 ∧ s.rd CAN_STATUS_ESTATE 1 < 2 ∧
      (s.cn 1).txe ≤ 255 ∧ (s.cn 1).fifo.length < 64 ∧ s.rd CAN_STATUS_ESTATE 1 ≠ 3 ∧
      ∀ x ∈ (s.cn 1).filt.toList, x.hits aFrame = false) ∧ (mk [(CAN_CTRL_INIT, 1, 1)]).canRxOk 1 = false ∧
    (let s := can id [(NET_CFG_EN, 0, 1), (NET_CFG_CAN, 0, 1)]; (s.canRecDown 1).netCan = some 1 ∧ aFrame.ide = true ∧
      ({ aFrame with ide := false } : CanFrame).ide = false) ∧
    (let s := can (fun c => { c with filt := c.filt.set 1 (takes 0) }) []; (s.cn 1).filt.toList = (s.cn 1).filt.toList.take 1 ++ takes 0 ::
        (s.cn 1).filt.toList.drop 2 ∧ (∀ y ∈ (s.cn 1).filt.toList.take 1, y.hits aFrame = false) ∧ (takes 0).hits aFrame = true ∧
      (takes 1).hits aFrame = true ∧ (takes 2).hits aFrame = true) ∧
    (let s := can (fun c => { c with fifo := List.replicate 64 aFrame }) []; 64 ≤ (s.cn 1).fifo.length) ∧
    (let s := can id [(CAN_BCFG, 1, 0), (CAN_BDONE, 1, 2 ^ 31)]; s.bit CAN_BCFG 1 31 = false ∧ s.bit CAN_BDONE 1 31 = true) ∧
    (let s := can (fun c => { c with cur := some 31 }) [(CAN_BABORT, 1, 2 ^ 31)]; (s.cn 1).cur = some 31 ∧ s.bit CAN_BABORT 1 31 = true) ∧
    ((can (fun c => { c with cur := some 32 }) []).cn 1).cur = some 32 ∧ ((can id []).cn 1).cur = none ∧
    255 < ((can (fun c => { c with txe := 256 }) []).cn 1).txe ∧ (can id [(CAN_STATUS_ESTATE, 1, 3)]).rd CAN_STATUS_ESTATE 1 = 3 ∧
    (let s := can (fun c => { c with bufs := c.bufs.set 31 aFrame }) [(CAN_BCFG, 1, 2 ^ 31), (CAN_BPEND, 1, 2 ^ 31)]
     (s.cn 1).cur = none ∧ s.canTxOk 1 = true ∧ (s.cn 1).txq = [] ∧ (s.canPending 1).map (·.1) = [31]) := by decide

/-- The NET engine on controller 1 with address 0x80 and the claim in state `k`. -/
def net (k : Nat) (f : Net → Net) (l : List (Fld × Nat × Nat)) : State :=
  let s := can id ([(NET_CFG_EN, 0, 1), (NET_CFG_CAN, 0, 1), (NET_STATUS_CLAIM, 0, k), (NET_OWN_SA, 0, 0x80)] ++ l)
  { s with net := f s.net }
/-- A partner at address 0x21. -/
def aPartner : Partner := ⟨0x21, 5, 0⟩

theorem witness_AddressClaim :
    (mk []).netCan = none ∧ (mk []).domOn dCan = true ∧
    (let s := net 1 id []; s.netCan ≠ none ∧ 254 ≤ (254#8).toNat ∧ (∀ p ∈ s.net.part, p.name ≠ (5#64).toNat) ∧ (0x21#8).toNat < 254 ∧ s.net.part = [] ∧
      (0x21#8).toNat ≠ s.rd NET_OWN_SA 0 ∧ (0x80#8).toNat = s.rd NET_OWN_SA 0 ∧ s.rd NET_STATUS_CLAIM 0 = 1 ∧ s.rd NET_STATUS_CLAIM 0 < 2 ∧
      s.netName < 2 ^ 64) ∧
    (let s := net 2 (fun x => { x with part := [aPartner] }) [(NET_CFG_LEAVE_T, 0, 1)]; s.rd NET_CFG_LEAVE_T 0 ≠ 0 ∧ aPartner ∈ s.net.part ∧
      aPartner.sa = (0x21#8).toNat ∧ (∀ p ∈ s.net.part, p.sa ≠ (0x22#8).toNat) ∧ s.rd NET_STATUS_CLAIM 0 = 2 ∧ s.freeSa 0x80 = some 0x81) ∧
    (let s := net 3 (fun x => x) [(CAN_BCFG, 1, 1), (CAN_BPEND, 1, 1)]; s.netCan = some 1 ∧ s.netDiscards 1 (s.rd CAN_BPEND 1) = 0) ∧
    (let s := ((net 3 id [(CAN_BCFG, 1, 2 ^ 31), (CAN_BPEND, 1, 2 ^ 31)]).modCan 1 fun c => { c with bufs := c.bufs.set 31 { aFrame with id := 0x18EA2280 } })
     s.netDiscards 1 (s.rd CAN_BPEND 1) ≠ 0) ∧
    (net 2 id [(NET_CFG_LEAVE_T, 0, 0)]).rd NET_CFG_LEAVE_T 0 = 0 ∧
    (let s := net 3 (fun x => { x with late := true }) []; s.rd NET_STATUS_CLAIM 0 = 3 ∧ s.net.late = true) ∧ (net 3 id []).net.late = false ∧
    (255#8) = 255 ∧ (let s := net 2 id []; (0x22#8) ≠ 255 ∧ (0x22#8).toNat ≠ s.rd NET_OWN_SA 0 ∧ s.netCan = some 1) := by decide

/-- `net` in operation with session 0 replaced. -/
def sess (x : Sess) (l : List (Fld × Nat × Nat)) : State := (net 2 id ((NET_SIDX, 0, 0) :: l)).modSs 0 fun _ => x
/-- A session that sends (or receives) 100 bytes to (from) address 0x21. -/
def aSess (state kind : Nat) (tx : Bool) : Sess :=
  { (mk []).ss 0 with st := state, kind := kind, len := 100, tx := tx, peer := 0x21, next := 1, done := 0, base := 0, win := 5 }

theorem witness_SessionsTransport :
    (net 1 id []).netUp = false ∧ (net 1 id []).domOn dCan = true ∧ (net 2 id []).netUp = true ∧ (0x80#8).toNat = (net 2 id []).rd NET_OWN_SA 0 ∧
    leField [32#8, 100#8, 0#8, 15#8, 255#8, 0#8, 0#8, 0#8] 0 1 = 32 ∧ leField [16#8] 0 1 = 16 ∧ leField [17#8] 0 1 = 17 ∧ leField [19#8] 0 1 = 19 ∧
    leField [255#8] 0 1 = 255 ∧ leField [20#8] 0 1 = 20 ∧ leField [22#8] 0 1 = 22 ∧ leField [23#8] 0 1 = 23 ∧
    ((sess (aSess 1 0 true) []).partnerSeen 0x21).sessOf 0x21 true false (some 0) = some 0 ∧ ((sess (aSess 2 0 false) []).partnerSeen 0x21).sessOf 0x21 false false (some 0) = some 0 ∧
    ((sess (aSess 2 2 false) []).partnerSeen 0x21).sessOf 0x21 false true (some 0) = some 0 ∧ ((sess (aSess 1 2 true) []).partnerSeen 0x21).sessOf 0x21 true true (some 0) = some 0 ∧
    (((sess { aSess 2 2 false with cts := some (5, 0) } []).partnerSeen 0x21).ss 0).cts = some (5, 0) ∧ (0x22#8).toNat ≠ (net 2 id []).rd NET_OWN_SA 0 ∧
    (let s := sess { aSess 0 0 false with len := 1785 } []; s.sel = 0 ∧ (s.ss 0).st = 0 ∧ s.netUp = true ∧ (2#2).toNat < 3 ∧
      sessLenOk (1#2).toNat (s.ss 0).len = true ∧ sessLenOk 1 1786 = false ∧ s.idleSess = some 0) ∧ ((sess (aSess 1 1 true) []).ss 0).st ≠ 0 ∧
    (let s := sess { aSess 3 2 true with next := 6, cts := none } []; let x := s.ss 0; x.kind = 2 ∧ x.st = 3 ∧ x.base + x.win < x.packets ∧
      x.next = x.base + x.win + 1 ∧ x.tx = true ∧ x.cts = none ∧ x.running = true) ∧
    (let s := sess { aSess 3 0 false with done := 100 } []; (s.ss 0).st = 3 ∧ (s.ss 0).tx = false ∧ (s.ss 0).done = (s.ss 0).len ∧ (s.ss 0).running = false) ∧
    (let s := sess (aSess 1 1 true) []; (s.ss 0).kind = 1 ∧ s.netUp = true ∧ (s.ss 0).next < (s.ss 0).packets ∧ 2 ≠ (s.ss 0).next) ∧
    (let s := sess { aSess 1 1 true with next := 15 } []; (s.ss 0).packets ≤ (s.ss 0).next) ∧
    (let s := sess (aSess 3 2 false) []; (s.ss 0).st = 3 ∧ (s.ss 0).kind = 2 ∧ (s.ss 0).tx = false ∧ (s.ss 0).done < (s.ss 0).len) := by decide

theorem witness_SessionsTransport_more :
    (let s := sess { aSess 1 2 true with base := 0, win := 5 } []; (s.ss 0).kind = 2 ∧ 1 + 5 = (s.ss 0).base + (s.ss 0).win + 1 ∧
      (s.ss 0).base + (s.ss 0).win ≤ (s.ss 0).packets) ∧
    (let s := sess (aSess 2 1 false) []; (s.ss 0).st = 2 ∧ (s.ss 0).kind = 1 ∧ (s.ss 0).peer = (0x21#8).toNat ∧ s.netCan ≠ none) ∧
    (let s := net 2 (fun x => { x with gwOut := [(0x21, List.replicate 16 0#8)] }) []; s.netUp = true ∧ s.idleSess = some 0 ∧
      s.net.gwOut = [(0x21, List.replicate 16 0#8)]) ∧
    (net 2 id []).sessOf 0x21 false true none = none ∧ (net 2 id []).sessOf 0x21 false false none = none ∧ sessLenOk 0 1786 = false ∧ sessLenOk 0 1785 = true ∧
    (sess (aSess 2 0 false) []).sessOf 0x21 false false none ≠ none ∧
    (let s : State := { mk [] with net.sess := Vector.replicate 4 (aSess 1 0 true) }; s.idleSess = none) := by decide

theorem witness_GatewayServes :
    (let s := net 2 id [(GW_CFG_EN, 0, 1), (GW_CFG_KEY, 0, 7), (GW_SA_LO, 0, 0x20), (GW_SA_HI, 0, 0x21), (GW_CFG_WR_EN, 0, 1)]
     s.domOn dCan = true ∧ (0x80#8) ≠ 0xFF ∧ (0x80#8).toNat = s.rd NET_OWN_SA 0 ∧ s.rd GW_CFG_EN 0 ≠ 0 ∧ (7#8).toNat = s.rd GW_CFG_KEY 0 ∧ s.net.gw = [] ∧
      s.rd GW_SA_LO 0 ≤ 0x21 ∧ 0x21 ≤ s.rd GW_SA_HI 0 ∧ s.rd GW_SA_HI 0 < 0x22 ∧ s.netUp = true ∧ s.rd GW_CFG_WR_EN 0 ≠ 0 ∧
      gwPkt s.nodeId [7#8, 0xF0#8, 0#8, 0#8, 0#8, 0#8, 0#8, 0#8] = none ∧ s.gwBars 0x21 [7#8, 0#8] = false) ∧
    (let s := net 2 id []; (gwPkt s.nodeId [7#8, 0x03#8, 0xFF#8, 0#8, 0#8, 0x10#8, 0x30#8, 0#8]).isSome = true) ∧
    (let s := sess { aSess 3 0 false with gate := true } []; (s.ss 0).gate = true ∧ (s.ss 0).st = 3 ∧ (s.ss 0).tx = false) ∧
    ((sess (aSess 3 0 false) []).ss 0).gate = false ∧ (mk [(GW_CFG_EN, 0, 0)]).rd GW_CFG_EN 0 = 0 ∧
    (let s := net 2 (fun x => { x with gw := [⟨0x20, 0#32, false, 1⟩, ⟨0x21, 0#32, false, 2⟩, ⟨0x22, 0#32, false, 3⟩, ⟨0x23, 0#32, false, 4⟩] }) []
     4 ≤ s.net.gw.length ∧ (∀ q ∈ s.net.gw, q.sa ≠ 0x24) ∧ (∃ q ∈ s.net.gw, q.sa = 0x23)) := by decide

theorem witness_PatchAndPinsAct :
    (let s : State := { mk [] with otp.patchBusy := true }; s.otp.patchBusy = true) ∧ (mk [(OTP_PATCH_STAT_STATE, 0, 2)]).rd OTP_PATCH_STAT_STATE 0 = 2 ∧
    (let s := mk [(OTP_PATCH_LEN_LEN, 0, 8160)]; s.otp.patchBusy = false ∧ s.rd OTP_PATCH_STAT_STATE 0 ≠ 2 ∧ s.rd OTP_PATCH_STAT_STATE 0 ≠ 4 ∧
      0 < s.rd OTP_PATCH_LEN_LEN 0 ∧ s.rd OTP_PATCH_LEN_LEN 0 ≤ 8160 ∧ s.region 3 < 3) ∧ 8160 < (mk [(OTP_PATCH_LEN_LEN, 0, 8161)]).rd OTP_PATCH_LEN_LEN 0 ∧
    (mk []).rd OTP_PATCH_LEN_LEN 0 = 0 ∧ 3 ≤ (mk [(OTP_REGION_STATE.nth 3, 0, 3)]).region 3 ∧
    (let s := mk [(GPIO_IN, 0, 0x80), (GPIO_EDGE, 0, 0x8000), (TRC_TRIG_PIN, 0, 7), (GPIO_FUNC, 0, 0x30000000)]; s.bit GPIO_IN 0 7 = true ∧
      s.bit GPIO_IN 0 7 ≠ false ∧ s.coreOn = true ∧ (s.rd GPIO_EDGE 0).testBit (2 * 7 + (if false then 0 else 1)) = true) ∧ State.reset.coreOn = false ∧
    (mk []).chOn 3 = true ∧ ((mk []).fr 0x40).cond = false ∧ ((withFr 0x40 (fun r => { r with cond := true }) (mk [])).fr 0x40).cond = true ∧
    (∀ k, k < 16 → ({ mk [] with tap.st := k } : State).tap.st = k) := by decide

theorem witness_BoundaryScanSafe :
    (let s : State := { mk [] with tap.st := 3, tap.ir := 1 }; s.tap.st = 3 ∧ s.tap.ir = 1 ∧ s.hl2880 = false) ∧
    (let s : State := { mk [] with hl2880 := true }; s.hl2880 = true) ∧ (mk [(SYS_STATUS_TEST, 0, 1)]).rd SYS_STATUS_TEST 0 = 1 ∧
    (let s : State := { mk [] with tap.ir := 3 }; s.tap.ir = 3) ∧
    ((match exec (.testAccessPortClock false false false 0#124) { mk [] with tap.st := 15, tap.sr := 4 } with
      | .next t => decide (t.tap.ir = 4) && t.chOn 0 | _ => false) = true) := by decide

theorem witness_Hl2880PartsAbsent : ({ mk [] with hl2880 := true } : State).hl2880 = true ∧ (0x6000#24).toNat / 4 * 4 = 0x6000 ∧
    (0x23FFFF#24).toNat / 4 * 4 = 0x23FFFC ∧ 0x23FFFC < 0x240000 := by decide

theorem witness_GateArbiter :
    (mk [(SYS_STATUS_BOOT_DONE, 0, 0)]).holdoff 0 = true ∧ (st 6 []).holdoff 0 = false ∧
    (let s := withCh (fun c => { c with prot.winOff := 1#6 }) (st 6 []); (s.asks 0).off.getLsbD 0 = true) ∧
    (let s := st 6 []; (s.asks 0).off.getLsbD 0 = false ∧ (s.asks 0).on.getLsbD 0 = false) ∧
    (let s : State := { st 6 [] with now := 100000 }; s.deadOver 0 0 = true) ∧ (let s := withCh (fun c => { c with prot.gates := 8#6 }) (st 6 [])
      s.deadOver 0 0 = false) := by decide

theorem witness_StepKeepsCanon : State.reset.Canon ∧ (match step State.reset with | .next _ => true | _ => false) = true := by unfold State.Canon; decide

theorem witness_GatesNeverBothOn : (∀ n, legsSafe (State.reset.ch n).prot.gates) ∧
    (∀ n, legsSafe ((withCh (fun c => { c with prot.gates := 0x11#6 }) (mk [])).ch n).prot.gates) := by unfold legsSafe; decide

theorem witness_UnpoweredUnitsIdle : ¬ (mk [(PWR_DOM_STATE_ON, 0, 0)]).portUp 0 ∧ ¬ ({ mk [] with hl2880 := true } : State).portUp 2 ∧
    (mk [(PWR_DOM_STATE_ON, 0, 0)]).domOn dLink = false ∧ (mk [(PWR_DOM_STATE_ON, 0, 0)]).domOn dCan = false := by unfold State.portUp; decide

/-! ### Worked examples of the spec -/

/-- A field of the state that a command leaves, 0 where it answers no next state. -/
def after {α : Type} [Inhabited α] (f : State → α) (o : Host.Outcome State Fault Refusal) : α :=
  match o with
  | .next t => f t
  | _ => default

/-- R119: the check value of the CRC-8, and the frame of the example of CRC-protected writing. -/
theorem test_crc8 : crc8 [0x31#8, 0x32#8, 0x33#8, 0x34#8, 0x35#8, 0x36#8, 0x37#8, 0x38#8, 0x39#8] = 0x4B#8 ∧
    crc8 [0xC0#8, 0x00#8, 0x14#8, 0x12#8, 0x34#8, 0x56#8, 0x78#8] = 0x58#8 := by decide

/-- R93: the check value of the CRC-32 with the rule's parameters, over the bytes "123456789" (log 166 on the rule's number for an empty page). -/
theorem test_crc32 : crc32 [0x31#8, 0x32#8, 0x33#8, 0x34#8, 0x35#8, 0x36#8, 0x37#8, 0x38#8, 0x39#8] = 0xCBF43926#32 := by decide

/-- The example of a short read of SYS.PART: HSDO carries C1 00 00 FF B0 48. -/
theorem test_shortRead_part : after (fun t => t.hspiOut) (exec (.shortRead 8#6 (List.replicate 5 0#8) 48 [] []) { mk [] with page := 0 }) =
    [0xC1#8, 0x00#8, 0x00#8, 0xFF#8, 0xB0#8, 0x48#8] := by decide

/-- The example of the CRC-protected write of SYS.SCRATCH: the word lands and the next status byte is C1. -/
theorem test_linearWrite_scratch : after (fun t => (t.rd SYS_SCRATCH_DATA 0, t.hspiStatus))
    (exec (.linearWrite 0#6 [0x00#8, 0x14#8, 0x12#8, 0x34#8, 0x56#8, 0x78#8, 0x58#8] 64) (mk [(HSPI_CTRL_CRC_EN, 0, 1)])) =
      (0x12345678, 0xC1#8) := by decide

/-- The same with a bit of the data flipped: nothing is written, the failure is counted. -/
theorem test_linearWrite_flipped : after (fun t => (t.rd SYS_SCRATCH_DATA 0, t.rd HSPI_CRC_ERR_COUNT 0, t.hspiPrev))
    (exec (.linearWrite 0#6 [0x00#8, 0x14#8, 0x12#8, 0x35#8, 0x56#8, 0x78#8, 0x58#8] 64) (mk [(HSPI_CTRL_CRC_EN, 0, 1)])) = (0, 1, 4) := by decide

/-- The reset of CH.MODE (R145). -/
theorem test_mode_reset : State.reset.word 0x4020 = 0x10012741#32 := by decide

/-- The example of GATE_CHAR (R189): 180 ns at 100 mA, target 100 ns: source code 7. -/
theorem test_gateChar_proposal : gcProposal srcMilli 72 20 15 = 7 := by decide

/-- Words of the program of the chapter on the Grove (R309 to R321). -/
theorem test_grove_program : gDecode 0x4A40005A#32 = some (.immOp .addi 9#4 0#4 0x5A#18) ∧ gDecode 0xF0400001#32 = some (.wfe 1#4 1#18) ∧
    gDecode 0xF4240000#32 = some (.kick 9#4) ∧ gDecode 0xC8800012#32 = some (.acc .nrd 2#4 0#4 0x12#18) ∧
    gDecode 0x84CC8000#32 = some (.alu .fsub 3#4 3#4 2#4) ∧ gDecode 0xA1480000#32 = some (.un .fabs 5#4 2#4) ∧
    gDecode 0xB219C000#32 = some (.alu .fclamp 8#4 6#4 7#4) ∧ gDecode 0xD5000B20#32 = some (.acc .cwr 4#4 0#4 0xB20#18) ∧
    gDecode 0xE0000002#32 = some (.b 0#4 2) := by decide

/-- The example of the gateway: the reply carries SYS.PART of R98. -/
theorem test_gateway_reply : (State.reset.busRead 0 0x20).1 = 0x00FFB048#32 := by decide

/-- R388: the comma character K28.5 of the standard's table, in both disparities; a data character of the line is no error, an idle line is one. -/
theorem test_comma : (chrK 28 5).code false = (0b0011111010#10, true) ∧ (chrK 28 5).code true = (0b1100000101#10, false) ∧
    lineBad 0b0011111010#10 false true = false ∧ lineBad 0#10 false true = true := by decide

/-- R341: RS of 12 V at 6 A after 10 V at 5 A is 2 Ω. -/
theorem test_identRs : State.reset.identResult Job.reset 0 [0x41200000#32, 0x40A00000#32, 0x41400000#32, 0x40C00000#32] = 0x40000000#32 := by decide

end Sys2Proof.Tests
end

/-! SUPPORT. O54: what the factory fuses of the HL2880 disable fails every access, and a failed access leaves nothing but its capture. -/

namespace Sys2Proof.Machine

/-! ### A failed access (R84) -/

/-- The register bits in which SYS.BUSERR captures a failed access, with its event flag (R84, R98). -/
def busErrBits : List (Nat × Word) :=
  [R.SYS_BUSERR_VALID.at 0, R.SYS_BUSERR_KIND.at 0, R.SYS_BUSERR_MASTER.at 0, R.SYS_BUSERR_ADDR.at 0, R.SYS_IRQ_BUSERR.at 0]

theorem State.busErr_onlyRegs (s : State) (kind m a : Nat) : OnlyRegs busErrBits s (s.busErr kind m a) := by
  unfold State.busErr
  refine OnlyRegs.ite (OnlyRegs.refl _ s) ((OnlyRegs.refl _ s).wrs 0 _ ?_)
  simp only [List.forall_mem_cons]
  decide

theorem State.busRead_of_accessFail {s : State} {m a : Nat} (h : s.accessFail m false (targetOf a) ≠ 0) :
    s.busRead m a = (0#32, s.busErr (s.accessFail m false (targetOf a)) m a) := by
  simp only [State.busRead, State.busWord, if_neg h]

theorem State.busWrite_of_accessFail {s : State} {m a : Nat} (h : s.accessFail m true (targetOf a) ≠ 0) (w : Word) :
    s.busWrite m a w = s.busErr (s.accessFail m true (targetOf a)) m a := if_pos h

/-! ### What the fuses disable (R3) -/

/-- A page that the fuses disable is none of the reserved ones, so its offset 0xFC is no mirror of PAGE. -/
theorem State.pageExists_of_pageFused {s : State} {p : Nat} (h : s.pageFused p = true) : s.pageExists p = true := by
  simp only [State.pageFused, Bool.and_eq_true, Bool.or_eq_true, decide_eq_true_eq, beq_iff_eq] at h
  obtain ⟨-, (⟨lo, hi⟩ | rfl) | rfl⟩ := h
  · have type : pageType p = 0x40 + p % 16 := by unfold pageType; rw [if_neg (by omega), if_pos (by omega)]
    have notDbg : p ≠ 0x0F := by omega
    simp [State.pageExists, type, notDbg]
  · rfl
  · rfl

theorem State.pageMirror_of_targetFused {s : State} {t : Target} (h : s.targetFused t = true) : s.pageMirror t = false := by
  cases t with
  | reg p off => simp [State.pageMirror, State.pageExists_of_pageFused h]
  | view p off => simp [State.pageMirror, State.pageExists_of_pageFused h]
  | pram | dram | trace | otp | route | patch | cache | none => rfl

/-- Unmapped and out of reach come before the fuses, and fail the access as well. -/
theorem State.accessFail_of_targetFused {s : State} {t : Target} (h : s.targetFused t = true) (m : Nat) (wr : Bool) :
    s.accessFail m wr t ≠ 0 := by
  simp only [State.accessFail, State.pageMirror_of_targetFused h, h, Bool.false_eq_true, if_false, if_true]
  split
  · decide
  · split <;> decide

/-! ### Where an address leads (R83, R96) -/

theorem targetOf_page {a : Nat} (h : a / 4 * 4 < 0x10000) : targetOf a = .reg (a / 4 * 4 / 256) (a / 4 * 4 % 256) := by
  unfold targetOf
  have inSpace : a / 4 * 4 % 2 ^ 24 = a / 4 * 4 := Nat.mod_eq_of_lt (by omega)
  have inRegion : a / 4 * 4 % 2 ^ 16 = a / 4 * 4 := Nat.mod_eq_of_lt h
  rw [if_pos (by omega), inSpace, inRegion]

/-- The channel whose window of its kind the address lies in. -/
def windowCh (a : Nat) : Ch := ⟨a / 4 * 4 % 2 ^ 24 / 2 ^ 16 % 4, Nat.mod_lt _ (by decide)⟩

/-- The word of its window that the address names. -/
def windowWord (a : Nat) : Nat := a / 4 * 4 % 2 ^ 24 % 2 ^ 16 / 4

theorem targetOf_pram {a : Nat} (lo : 0x100000 ≤ a / 4 * 4) (hi : a / 4 * 4 < 0x140000) : targetOf a = .pram (windowCh a) (windowWord a) := by
  unfold targetOf
  rw [if_neg (by omega), if_neg (by omega), if_pos (by omega)]
  rfl

theorem targetOf_dram {a : Nat} (lo : 0x140000 ≤ a / 4 * 4) (hi : a / 4 * 4 < 0x180000) (hw : a / 4 * 4 % 0x10000 < 0x4000) :
    targetOf a = .dram (windowCh a) (windowWord a) := by
  unfold targetOf
  rw [if_neg (by omega), if_neg (by omega), if_neg (by omega), if_pos (by omega), if_pos (by omega)]
  rfl

theorem targetOf_trace {a : Nat} (lo : 0x200000 ≤ a / 4 * 4) (hi : a / 4 * 4 < 0x240000) : targetOf a = .trace (windowCh a) (windowWord a) := by
  unfold targetOf
  rw [if_neg (by omega), if_neg (by omega), if_neg (by omega), if_neg (by omega), if_pos (by omega)]
  rfl

/-! ### The parts that the HL2880 lacks (R3) -/

/-- The word at byte address `b` belongs to a page of CH2, CH3, LNK2 or LNK3, or to a window of CH2 or CH3. -/
def absentOnHl2880 (b : Nat) : Prop :=
  0x6000 ≤ b ∧ b < 0x8000 ∨ 0x1300 ≤ b ∧ b < 0x1500 ∨ 0x120000 ≤ b ∧ b < 0x140000 ∨ 0x160000 ≤ b ∧ b < 0x164000 ∨
    0x170000 ≤ b ∧ b < 0x174000 ∨ 0x220000 ≤ b ∧ b < 0x240000

theorem State.pageFused_of_hl2880 {s : State} (h : s.hl2880 = true) {p : Nat} (hp : 0x60 ≤ p ∧ p < 0x80 ∨ p = 0x13 ∨ p = 0x14) :
    s.pageFused p = true := by
  simpa [State.pageFused, h, or_assoc] using hp

theorem State.chOk_of_hl2880 {s : State} (h : s.hl2880 = true) {n : Nat} (hn : 2 ≤ n) : s.chOk n = false := by
  simp [State.chOk, h, hn]

theorem State.targetFused_of_absent {s : State} (h : s.hl2880 = true) {a : Nat} (ha : absentOnHl2880 (a / 4 * 4)) :
    s.targetFused (targetOf a) = true := by
  have window : 2 ≤ (windowCh a).val → (!s.chOk (windowCh a).val) = true := fun hn => by rw [State.chOk_of_hl2880 h hn]; rfl
  simp only [windowCh] at window
  rcases ha with ⟨lo, hi⟩ | ⟨lo, hi⟩ | ⟨lo, hi⟩ | ⟨lo, hi⟩ | ⟨lo, hi⟩ | ⟨lo, hi⟩
  case inl | inr.inl =>
    rw [targetOf_page (by omega)]
    exact State.pageFused_of_hl2880 h (by omega)
  case inr.inr.inl =>
    rw [targetOf_pram (by omega) hi]
    exact window (by omega)
  case inr.inr.inr.inl | inr.inr.inr.inr.inl =>
    rw [targetOf_dram (by omega) (by omega) (by omega)]
    exact window (by omega)
  case inr.inr.inr.inr.inr =>
    rw [targetOf_trace (by omega) hi]
    exact window (by omega)

/-- Settles O54: what the fuses disable fails every access, whatever its master; a failed read returns 0, and a failed access leaves its
capture. -/
theorem hl2880PartsAbsent : Obligations.Hl2880PartsAbsent := by
  unfold Obligations.Hl2880PartsAbsent
  rintro s m a w b h rfl ha
  have fails (wr : Bool) := State.accessFail_of_targetFused (State.targetFused_of_absent h ha) m.val wr
  have written : exec (.registerWrite m a w) s = .next (s.busWrite m.val a.toNat w) := rfl
  rw [written, State.busRead_of_accessFail (fails false), State.busWrite_of_accessFail (fails true)]
  exact ⟨rfl, State.busErr_onlyRegs .., _, rfl, State.busErr_onlyRegs ..⟩

end Sys2Proof.Machine

/-! SUPPORT. O53: a test instruction that drives pins, or the TEST pin, holds every channel off, and gates that settle in hold-off are off. -/

namespace Sys2Proof.Machine

/-! ### Settling the gates leaves what holds them off -/

theorem Settled.tap {l : List (Nat × Word)} {s t : State} (h : Settled l s t) : t.tap = s.tap :=
  show t.still.tap = s.still.tap by rw [h.2]

theorem Settled.chOn {s t : State} (h : Settled [] s t) (n : Ch) : t.chOn n = s.chOn n := by
  simp only [State.chOn, State.domOn, State.bit, h.rd R.PWR_DOM_STATE_ON 0 (by decide) (by decide)]

/-- TEST is 1, or the instruction is EXTEST, HIGHZ or CLAMP (R51). -/
def State.testHolds (s : State) : Prop := s.rd R.SYS_STATUS_TEST 0 = 1 ∨ s.tap.ir = 0 ∨ s.tap.ir = 3 ∨ s.tap.ir = 4

theorem Settled.testHolds_iff {s t : State} (h : Settled [] s t) : t.testHolds ↔ s.testHolds := by
  rw [State.testHolds, h.rd R.SYS_STATUS_TEST 0 (by decide) (by decide), h.tap, State.testHolds]

theorem State.settle_settled (s : State) (n : Ch) : Settled [] s (s.settle n) := State.settle_keeps (settles_settled [] s) (Settled.refl [] s)

theorem State.brkShow_settled (s : State) (n : Ch) : Settled [] s (s.brkShow n) := State.brkShow_keeps (settles_settled [] s) (Settled.refl [] s)

theorem State.settleAll_settled (s : State) : Settled [] s s.settleAll := (Settled.refl [] s).settleAll

/-! ### Hold-off (R20, R51) -/

theorem State.holdoff_of_testHolds {s : State} (h : s.testHolds) (n : Ch) : s.holdoff n = true := by
  rcases h with test | extest | highz | clamp
  · simp [State.holdoff, State.on, test]
  · simp [State.holdoff, extest]
  · simp [State.holdoff, highz]
  · simp [State.holdoff, clamp]

theorem State.arb_of_holdoff {s : State} {n : Ch} (h : s.holdoff n = true) (p : Nat) : s.arb n p = 0 := by rw [State.arb, if_pos h]

theorem State.arb_of_testHolds {s : State} (h : s.testHolds) (n : Ch) (p : Nat) : s.arb n p = 0 := State.arb_of_holdoff (State.holdoff_of_testHolds h n) p

/-- The boundary register drives no gate: its latch is no input of the arbiter. -/
theorem State.arb_latch (s : State) (l : Nat) (n : Ch) (p : Nat) : ({ s with tap.latch := l } : State).arb n p = s.arb n p := rfl

/-! ### The gates (R21) -/

theorem interlock_zero (settled ready : Sw) : interlock settled ready 0 = 0#6 := by simp [interlock]

theorem State.modCh_gates {s : State} {n m : Ch} {g : Chan → Chan} {w : Sw} (e : ∀ c, (g c).prot.gates = c.prot.gates)
    (h : (s.ch m).prot.gates = w) : ((s.modCh n g).ch m).prot.gates = w := by
  rw [State.ch_modCh]
  split
  · rename_i same
    rw [e, same, h]
  · exact h

/-- The brake gate is none of the six switches. -/
theorem State.brkShow_gates (s : State) (n m : Ch) : ((s.brkShow n).ch m).prot.gates = (s.ch m).prot.gates := by
  unfold State.brkShow
  extract_lets i on p ask cut shown acc
  have cutKept : (cut.ch m).prot.gates = (s.ch m).prot.gates := State.modCh_gates (fun _ => rfl) rfl
  have kept : (shown.ch m).prot.gates = (s.ch m).prot.gates := cutKept
  clear_value cut shown
  split
  · exact State.modCh_gates (fun _ => rfl) kept
  · split
    · exact State.modCh_gates (fun _ => rfl) kept
    · exact kept

theorem State.takeGates_gates (s : State) (n m : Ch) :
    ((s.takeGates n).ch m).prot.gates = if n = m then s.gateOut n else (s.ch m).prot.gates := by
  rw [State.takeGates, State.ch_modCh]
  split <;> rfl

/-- With nothing asked on there is no double request, and the channel's gates go off. -/
theorem State.settle_gates_of_testHolds {s : State} (h : s.testHolds) (n m : Ch) :
    ((s.settle n).ch m).prot.gates = if n = m then 0#6 else (s.ch m).prot.gates := by
  have silent := State.arb_of_testHolds h n (s.ch n).car.pos
  have off : s.gateOut n = 0#6 := by rw [State.gateOut, silent, interlock_zero]
  have taken : s.settle n = s.takeGates n := by
    unfold State.settle
    rw [silent]
    exact if_pos (by decide)
  rw [taken, State.takeGates_gates, off]

/-! ### Every channel in turn -/

/-- What channel `n`'s own turn brings about and the turns of the others keep, holds of every channel after all four. -/
theorem State.forCh_each {I : State → Prop} {Q : Ch → State → Prop} {f : Ch → State → State} (inv : ∀ n s, I s → I (f n s))
    (own : ∀ n s, I s → Q n (f n s)) (other : ∀ n m s, I s → Q m s → Q m (f n s)) {s : State} (h : I s) (m : Ch) : Q m (s.forCh f) := by
  have h1 := inv 0 _ h
  have h2 := inv 1 _ h1
  have h3 := inv 2 _ h2
  match m with
  | 0 => exact other 3 0 _ h3 (other 2 0 _ h2 (other 1 0 _ h1 (own 0 _ h)))
  | 1 => exact other 3 1 _ h3 (other 2 1 _ h2 (own 1 _ h1))
  | 2 => exact other 3 2 _ h3 (own 2 _ h2)
  | 3 => exact own 3 _ h3

/-- The gates of channel `n` are off while it is powered. -/
def State.gatesOff (n : Ch) (s : State) : Prop := s.chOn n = true → (s.ch n).prot.gates = 0#6

/-- The turn of channel `n`, while a test holds the gates off, turns its own gates off and leaves those of the others off. -/
theorem State.settle_gatesOff {s : State} (h : s.testHolds) {n m : Ch} (c : n = m ∨ s.gatesOff m) : ((s.settle n).brkShow n).gatesOff m := by
  intro on
  rw [(State.brkShow_settled _ n).chOn, (s.settle_settled n).chOn] at on
  rw [State.brkShow_gates, State.settle_gates_of_testHolds h]
  split
  · rfl
  · exact c.resolve_left ‹_› on

theorem State.settleAll_gatesOff {s : State} (h : s.testHolds) (n : Ch) : s.settleAll.gatesOff n := by
  refine State.forCh_each (I := State.testHolds) (Q := State.gatesOff) ?inv ?own ?other h n
  case inv =>
    intro n s h
    refine State.whenCh_keeps (fun s h => ?_) h
    exact (State.brkShow_settled _ n).testHolds_iff.2 ((s.settle_settled n).testHolds_iff.2 h)
  case own =>
    intro n s h
    cases on : s.chOn n with
    | true =>
      rw [State.whenCh_on on]
      exact State.settle_gatesOff h (.inl rfl)
    | false =>
      rw [State.whenCh_off on]
      exact fun powered => absurd (on.symm.trans powered) (by decide)
  case other =>
    intro n m s h off
    unfold State.whenCh
    split
    · exact State.settle_gatesOff h (.inr off)
    · exact off

/-! ### The identification register (R49) -/

theorem State.tapRise_captures_idcode {s : State} (st : s.tap.st = 3) (ir : s.tap.ir = 1) (tms tdi : Bool) (pins : BitVec 124) :
    (s.tapRise tms tdi pins).tap.sr = s.idcode := by
  simp [State.tapRise, State.tapCapture, st, ir]

/-- Revision, part number and manufacturer identity of the two parts. -/
theorem State.idcode_fields (s : State) :
    (s.hl2880 = false → s.idcode = 0x1488074D) ∧ (s.hl2880 = true → s.idcode = 0x1288074D) ∧ s.idcode / 2 ^ 28 = 1 ∧
      s.idcode / 2 ^ 12 % 2 ^ 16 = (if s.hl2880 = true then 0x2880 else 0x4880) ∧ s.idcode % 2 ^ 12 = 0x74D ∧ s.idcode % 2 = 1 := by
  unfold State.idcode
  cases s.hl2880 <;> decide

/-- Settles O53: a clock of the port ends in the settling of the gates, which leaves the port and TEST as the clock made them and, where they
hold the channels off, every gate off. -/
theorem boundaryScanSafe : Obligations.BoundaryScanSafe := by
  unfold Obligations.BoundaryScanSafe
  intro s
  refine ⟨fun st ir tms tdi pins => ⟨_, rfl, ?_⟩, fun n p l => s.arb_latch l n p,
    fun h n p => ⟨State.holdoff_of_testHolds h n, State.arb_of_testHolds h n p⟩, ?_⟩
  · have captured : (s.tapRise tms tdi pins).settleAll.tap.sr = s.idcode := by
      rw [(State.settleAll_settled _).tap, State.tapRise_captures_idcode st ir]
    simp only [if_true, captured]
    exact s.idcode_fields
  · rintro r tms tdi pins t ⟨⟩ h
    exact State.settleAll_gatesOff ((State.settleAll_settled _).testHolds_iff.1 h)

end Sys2Proof.Machine

/-! SUPPORT. O57, O58, O59: what every command keeps: each command answers a state with every property that `Sound` names. -/

namespace Sys2Proof.Machine

/-- Every command answers a next state, with whatever every primitive update keeps. -/
theorem exec_sound {P : State → Prop} (hP : Sound P) {s : State} (hs : P s) (c : Instr) : ∃ t, exec c s = .next t ∧ P t := by
  cases c with
  | registerWrite => exact execRegisterWrite_sound hP hs
  | pageLock => exact execPageLock_sound hP hs
  | timeNowLoRead => exact execTimeNowLoRead_sound hP hs
  | canStatusRead => exact execCanStatusRead_sound hP hs
  | netSdataRead => exact execNetSdataRead_sound hP hs
  | netSdataWrite => exact execNetSdataWrite_sound hP hs
  | periodBoundary => exact execPeriodBoundary_sound hP hs
  | pwmEdge => exact execPwmEdge_sound hP hs
  | sectorChange => exact execSectorChange_sound hP hs
  | phaseCurrentHold => exact execPhaseCurrentHold_sound hP hs
  | adcConversionDone => exact execAdcConversionDone_sound hP hs
  | loopEngineSample => exact execLoopEngineSample_sound hP hs
  | vseqStart => exact execVseqStart_sound hP hs
  | vseqSlotDone => exact execVseqSlotDone_sound hP hs
  | commit => exact execCommit_sound hP hs
  | commitCheckComplete => exact execCommitCheckComplete_sound hP hs
  | commitApply => exact execCommitApply_sound hP hs
  | chArm => exact execChArm_sound hP hs
  | chRun => exact execChRun_sound hP hs
  | chStop => exact execChStop_sound hP hs
  | chDisarm => exact execChDisarm_sound hP hs
  | boundaryStateTransition => exact execBoundaryStateTransition_sound hP hs
  | prechargeComplete => exact execPrechargeComplete_sound hP hs
  | handoverTimeout => exact execHandoverTimeout_sound hP hs
  | startupTimeout => exact execStartupTimeout_sound hP hs
  | alignEnd => exact execAlignEnd_sound hP hs
  | catchObserveTimeout => exact execCatchObserveTimeout_sound hP hs
  | polarityPulseEnd => exact execPolarityPulseEnd_sound hP hs
  | stopTimeout => exact execStopTimeout_sound hP hs
  | dcInjectionEnd => exact execDcInjectionEnd_sound hP hs
  | obsConvTimeout => exact execObsConvTimeout_sound hP hs
  | homingTimeout => exact execHomingTimeout_sound hP hs
  | hardShortTrip => exact execHardShortTrip_sound hP hs
  | windowTrip => exact execWindowTrip_sound hP hs
  | busComparatorTrip => exact execBusComparatorTrip_sound hP hs
  | comparatorRelease => exact execComparatorRelease_sound hP hs
  | comparatorStartExit => exact execComparatorStartExit_sound hP hs
  | vdsBlankingEnd => exact execVdsBlankingEnd_sound hP hs
  | vdsTrip => exact execVdsTrip_sound hP hs
  | short2WindowEnd => exact execShort2WindowEnd_sound hP hs
  | bstWarnTrip => exact execBstWarnTrip_sound hP hs
  | bstUvTrip => exact execBstUvTrip_sound hP hs
  | brakeComparator => exact execBrakeComparator_sound hP hs
  | brkOvertime => exact execBrkOvertime_sound hP hs
  | limpBoundary => exact execLimpBoundary_sound hP hs
  | limpComparatorTrip => exact execLimpComparatorTrip_sound hP hs
  | limpDmaxEnd => exact execLimpDmaxEnd_sound hP hs
  | offcal => exact execOffcal_sound hP hs
  | zcal => exact execZcal_sound hP hs
  | calibrationDone => exact execCalibrationDone_sound hP hs
  | diagTestiWrite => exact execDiagTestiWrite_sound hP hs
  | hallCodeAccepted => exact execHallCodeAccepted_sound hP hs
  | speedZeroTimeout => exact execSpeedZeroTimeout_sound hP hs
  | encoderEdge => exact execEncoderEdge_sound hP hs
  | encoderIndex => exact execEncoderIndex_sound hP hs
  | encLoad => exact execEncLoad_sound hP hs
  | posCntClr => exact execPosCntClr_sound hP hs
  | resolverDemod => exact execResolverDemod_sound hP hs
  | resolverTrackUpdate => exact execResolverTrackUpdate_sound hP hs
  | scxEnable => exact execScxEnable_sound hP hs
  | mspiTrigger => exact execMspiTrigger_sound hP hs
  | mspiSwtrig => exact execMspiSwtrig_sound hP hs
  | mspiEntryDone => exact execMspiEntryDone_sound hP hs
  | bankSwap => exact execBankSwap_sound hP hs
  | bankWrite => exact execBankWrite_sound hP hs
  | nodeWrite => exact execNodeWrite_sound hP hs
  | auxRefWrite => exact execAuxRefWrite_sound hP hs
  | loopCntClr => exact execLoopCntClr_sound hP hs
  | obsReseed => exact execObsReseed_sound hP hs
  | obsPcClr => exact execObsPcClr_sound hP hs
  | tgtWrite => exact execTgtWrite_sound hP hs
  | ptgtFracWrite => exact execPtgtFracWrite_sound hP hs
  | posAck => exact execPosAck_sound hP hs
  | pwmCntClr => exact execPwmCntClr_sound hP hs
  | faultRaise => exact execFaultRaise_sound hP hs
  | faultReoccurrence => exact execFaultReoccurrence_sound hP hs
  | faultConditionAbsent => exact execFaultConditionAbsent_sound hP hs
  | retryWaitExpiry => exact execRetryWaitExpiry_sound hP hs
  | faultStateEnd => exact execFaultStateEnd_sound hP hs
  | channelFaultExit => exact execChannelFaultExit_sound hP hs
  | fltsClear => exact execFltsClear_sound hP hs
  | clrLatched => exact execClrLatched_sound hP hs
  | recovClr => exact execRecovClr_sound hP hs
  | evtClr => exact execEvtClr_sound hP hs
  | fltsCfgWrite => exact execFltsCfgWrite_sound hP hs
  | fltsTimeWrite => exact execFltsTimeWrite_sound hP hs
  | haltNFall => exact execHaltNFall_sound hP hs
  | fbkHalt => exact execFbkHalt_sound hP hs
  | fbkRelease => exact execFbkRelease_sound hP hs
  | haltReleaseTest => exact execHaltReleaseTest_sound hP hs
  | hltTransmit => exact execHltTransmit_sound hP hs
  | haltSymbolReceived => exact execHaltSymbolReceived_sound hP hs
  | haltRxExpiry => exact execHaltRxExpiry_sound hP hs
  | safeReqAssert => exact execSafeReqAssert_sound hP hs
  | safeBackstopTimeout => exact execSafeBackstopTimeout_sound hP hs
  | safeSupplyTimeout => exact execSafeSupplyTimeout_sound hP hs
  | rangerSelftestDone => exact execRangerSelftestDone_sound hP hs
  | rangerSelftestTimeout => exact execRangerSelftestTimeout_sound hP hs
  | lockstepMismatch => exact execLockstepMismatch_sound hP hs
  | lodgeLivenessCheck => exact execLodgeLivenessCheck_sound hP hs
  | groveWdtExpiry => exact execGroveWdtExpiry_sound hP hs
  | loopHeartbeatTimeout => exact execLoopHeartbeatTimeout_sound hP hs
  | clockMonitorWindow => exact execClockMonitorWindow_sound hP hs
  | supplyMonitorSample => exact execSupplyMonitorSample_sound hP hs
  | configScanTick => exact execConfigScanTick_sound hP hs
  | recap => exact execRecap_sound hP hs
  | stestNow => exact execStestNow_sound hP hs
  | selftestScheduleTimer => exact execSelftestScheduleTimer_sound hP hs
  | eccRateWindow => exact execEccRateWindow_sound hP hs
  | otpReverifyPassStart => exact execOtpReverifyPassStart_sound hP hs
  | otpReverifyPassDone => exact execOtpReverifyPassDone_sound hP hs
  | verifyNow => exact execVerifyNow_sound hP hs
  | supplyGood => exact execSupplyGood_sound hP hs
  | supplyFail => exact execSupplyFail_sound hP hs
  | powerOnReset => exact execPowerOnReset_sound hP hs
  | resetNLow => exact execResetNLow_sound hP hs
  | resetNHigh => exact execResetNHigh_sound hP hs
  | devrst => exact execDevrst_sound hP hs
  | softwareReset => exact execSoftwareReset_sound hP hs
  | bootStepComplete => exact execBootStepComplete_sound hP hs
  | bootStepTimeout => exact execBootStepTimeout_sound hP hs
  | buckSoftstartTimeout => exact execBuckSoftstartTimeout_sound hP hs
  | buckRestart => exact execBuckRestart_sound hP hs
  | referenceGood => exact execReferenceGood_sound hP hs
  | referenceFallback => exact execReferenceFallback_sound hP hs
  | pllLocked => exact execPllLocked_sound hP hs
  | pllUnlock => exact execPllUnlock_sound hP hs
  | domOn => exact execDomOn_sound hP hs
  | domOff => exact execDomOff_sound hP hs
  | domainTransitionStart => exact execDomainTransitionStart_sound hP hs
  | domainReady => exact execDomainReady_sound hP hs
  | domainOffComplete => exact execDomainOffComplete_sound hP hs
  | domFailTimeout => exact execDomFailTimeout_sound hP hs
  | vdrvRegEnWrite => exact execVdrvRegEnWrite_sound hP hs
  | standby => exact execStandby_sound hP hs
  | standbyEntryComplete => exact execStandbyEntryComplete_sound hP hs
  | wakePinHigh => exact execWakePinHigh_sound hP hs
  | linkSignalDetectWake => exact execLinkSignalDetectWake_sound hP hs
  | canWakePattern => exact execCanWakePattern_sound hP hs
  | statusPoll => exact execStatusPoll_sound hP hs
  | shortRead => exact execShortRead_sound hP hs
  | shortWrite => exact execShortWrite_sound hP hs
  | linearRead => exact execLinearRead_sound hP hs
  | linearWrite => exact execLinearWrite_sound hP hs
  | wakeFrame => exact execWakeFrame_sound hP hs
  | hspiCntClr => exact execHspiCntClr_sound hP hs
  | grvStart => exact execGrvStart_sound hP hs
  | grvStop => exact execGrvStop_sound hP hs
  | grvReset => exact execGrvReset_sound hP hs
  | grvVerify => exact execGrvVerify_sound hP hs
  | grvVerifyDone => exact execGrvVerifyDone_sound hP hs
  | grvLoadRom => exact execGrvLoadRom_sound hP hs
  | grvLoadDone => exact execGrvLoadDone_sound hP hs
  | grvHostEv => exact execGrvHostEv_sound hP hs
  | grvCntClr => exact execGrvCntClr_sound hP hs
  | grvSignal => exact execGrvSignal_sound hP hs
  | mboxFree => exact execMboxFree_sound hP hs
  | programRamWrite => exact execProgramRamWrite_sound hP hs
  | dbgHalt => exact execDbgHalt_sound hP hs
  | dbgResume => exact execDbgResume_sound hP hs
  | dbgStep => exact execDbgStep_sound hP hs
  | breakpointHit => exact execBreakpointHit_sound hP hs
  | wfeWake => exact execWfeWake_sound hP hs
  | groveTimerExpiry => exact execGroveTimerExpiry_sound hP hs
  | nop => exact execNop_sound hP hs
  | add => exact execAdd_sound hP hs
  | sub => exact execSub_sound hP hs
  | and => exact execAnd_sound hP hs
  | or => exact execOr_sound hP hs
  | xor => exact execXor_sound hP hs
  | shl => exact execShl_sound hP hs
  | shr => exact execShr_sound hP hs
  | sar => exact execSar_sound hP hs
  | mul => exact execMul_sound hP hs
  | cmp => exact execCmp_sound hP hs
  | min => exact execMin_sound hP hs
  | max => exact execMax_sound hP hs
  | jpost => exact execJpost_sound hP hs
  | stop => exact execStop_sound hP hs
  | tset => exact execTset_sound hP hs
  | msg => exact execMsg_sound hP hs
  | addi => exact execAddi_sound hP hs
  | cmpi => exact execCmpi_sound hP hs
  | andi => exact execAndi_sound hP hs
  | ori => exact execOri_sound hP hs
  | xori => exact execXori_sound hP hs
  | shli => exact execShli_sound hP hs
  | shri => exact execShri_sound hP hs
  | sari => exact execSari_sound hP hs
  | lui => exact execLui_sound hP hs
  | fadd => exact execFadd_sound hP hs
  | fsub => exact execFsub_sound hP hs
  | fmul => exact execFmul_sound hP hs
  | fdiv => exact execFdiv_sound hP hs
  | fmin => exact execFmin_sound hP hs
  | fmax => exact execFmax_sound hP hs
  | fcmp => exact execFcmp_sound hP hs
  | fsqrt => exact execFsqrt_sound hP hs
  | fabs => exact execFabs_sound hP hs
  | fneg => exact execFneg_sound hP hs
  | itof => exact execItof_sound hP hs
  | ftoi => exact execFtoi_sound hP hs
  | fclamp => exact execFclamp_sound hP hs
  | ld => exact execLd_sound hP hs
  | st => exact execSt_sound hP hs
  | nrd => exact execNrd_sound hP hs
  | nwr => exact execNwr_sound hP hs
  | crd => exact execCrd_sound hP hs
  | cwr => exact execCwr_sound hP hs
  | brd => exact execBrd_sound hP hs
  | bwr => exact execBwr_sound hP hs
  | b => exact execB_sound hP hs
  | call => exact execCall_sound hP hs
  | ret => exact execRet_sound hP hs
  | jr => exact execJr_sound hP hs
  | wfe => exact execWfe_sound hP hs
  | kick => exact execKick_sound hP hs
  | sev => exact execSev_sound hP hs
  | jobStart => exact execJobStart_sound hP hs
  | jobSuspend => exact execJobSuspend_sound hP hs
  | jobResume => exact execJobResume_sound hP hs
  | jobCancel => exact execJobCancel_sound hP hs
  | jobRelease => exact execJobRelease_sound hP hs
  | jobDispatch => exact execJobDispatch_sound hP hs
  | jobSuspendPoint => exact execJobSuspendPoint_sound hP hs
  | jobCancelComplete => exact execJobCancelComplete_sound hP hs
  | jobWorkComplete => exact execJobWorkComplete_sound hP hs
  | jobFailure => exact execJobFailure_sound hP hs
  | identRestTimeout => exact execIdentRestTimeout_sound hP hs
  | cmpSelftestComparatorDone => exact execCmpSelftestComparatorDone_sound hP hs
  | otpRowProgrammed => exact execOtpRowProgrammed_sound hP hs
  | trcForce => exact execTrcForce_sound hP hs
  | trcEnd => exact execTrcEnd_sound hP hs
  | traceFlushTimeout => exact execTraceFlushTimeout_sound hP hs
  | lnkEn => exact execLnkEn_sound hP hs
  | lnkRetrain => exact execLnkRetrain_sound hP hs
  | lnkCntClr => exact execLnkCntClr_sound hP hs
  | signalDetect => exact execSignalDetect_sound hP hs
  | detectComplete => exact execDetectComplete_sound hP hs
  | trainDwellTimeout => exact execTrainDwellTimeout_sound hP hs
  | configTimeout => exact execConfigTimeout_sound hP hs
  | signalLoss => exact execSignalLoss_sound hP hs
  | tra1Received => exact execTra1Received_sound hP hs
  | tra2Received => exact execTra2Received_sound hP hs
  | codeError => exact execCodeError_sound hP hs
  | packetReceived => exact execPacketReceived_sound hP hs
  | ackReceived => exact execAckReceived_sound hP hs
  | nakReceived => exact execNakReceived_sound hP hs
  | crdReceived => exact execCrdReceived_sound hP hs
  | ackTransmit => exact execAckTransmit_sound hP hs
  | nakTransmit => exact execNakTransmit_sound hP hs
  | creditUpdate => exact execCreditUpdate_sound hP hs
  | replayTimeout => exact execReplayTimeout_sound hP hs
  | packetTransmitStart => exact execPacketTransmitStart_sound hP hs
  | bertSyncLoss => exact execBertSyncLoss_sound hP hs
  | tsyExchangeStart => exact execTsyExchangeStart_sound hP hs
  | tsyReqReceived => exact execTsyReqReceived_sound hP hs
  | tsyRspTransmit => exact execTsyRspTransmit_sound hP hs
  | tsyEpochTransmit => exact execTsyEpochTransmit_sound hP hs
  | tsyRspReceived => exact execTsyRspReceived_sound hP hs
  | tsyEpochReceived => exact execTsyEpochReceived_sound hP hs
  | tsyExchangeLapse => exact execTsyExchangeLapse_sound hP hs
  | rdRequest => exact execRdRequest_sound hP hs
  | wrRequest => exact execWrRequest_sound hP hs
  | msgRequest => exact execMsgRequest_sound hP hs
  | jobRequest => exact execJobRequest_sound hP hs
  | faultRecord => exact execFaultRecord_sound hP hs
  | linkUpRecord => exact execLinkUpRecord_sound hP hs
  | linkDownRecord => exact execLinkDownRecord_sound hP hs
  | beacon => exact execBeacon_sound hP hs
  | tsyncQuery => exact execTsyncQuery_sound hP hs
  | tsyncSet => exact execTsyncSet_sound hP hs
  | haltPacketAssert => exact execHaltPacketAssert_sound hP hs
  | haltPacketRelease => exact execHaltPacketRelease_sound hP hs
  | transactionResponse => exact execTransactionResponse_sound hP hs
  | transactionTimeout => exact execTransactionTimeout_sound hP hs
  | tagQuarantineEnd => exact execTagQuarantineEnd_sound hP hs
  | txnGo => exact execTxnGo_sound hP hs
  | hrxPop => exact execHrxPop_sound hP hs
  | txnCntClr => exact execTxnCntClr_sound hP hs
  | fabCntClr => exact execFabCntClr_sound hP hs
  | forget => exact execForget_sound hP hs
  | routeTableWrite => exact execRouteTableWrite_sound hP hs
  | nodeIdWrite => exact execNodeIdWrite_sound hP hs
  | beaconTimer => exact execBeaconTimer_sound hP hs
  | rootRecordExpiry => exact execRootRecordExpiry_sound hP hs
  | electionTimeout => exact execElectionTimeout_sound hP hs
  | enumerationStart => exact execEnumerationStart_sound hP hs
  | timeSet => exact execTimeSet_sound hP hs
  | timeCntClr => exact execTimeCntClr_sound hP hs
  | syncOutPulse => exact execSyncOutPulse_sound hP hs
  | srefSlot => exact execSrefSlot_sound hP hs
  | smeasSlot => exact execSmeasSlot_sound hP hs
  | srefReceived => exact execSrefReceived_sound hP hs
  | smeasReceived => exact execSmeasReceived_sound hP hs
  | standFollowTimeout => exact execStandFollowTimeout_sound hP hs
  | timeLossHoldoverExpiry => exact execTimeLossHoldoverExpiry_sound hP hs
  | standCntClr => exact execStandCntClr_sound hP hs
  | canInitWrite => exact execCanInitWrite_sound hP hs
  | canRecover => exact execCanRecover_sound hP hs
  | canFifoPop => exact execCanFifoPop_sound hP hs
  | canBpend => exact execCanBpend_sound hP hs
  | canBabort => exact execCanBabort_sound hP hs
  | canFilterApply => exact execCanFilterApply_sound hP hs
  | canFrameReceived => exact execCanFrameReceived_sound hP hs
  | canTxDone => exact execCanTxDone_sound hP hs
  | canError => exact execCanError_sound hP hs
  | canRecoveryStart => exact execCanRecoveryStart_sound hP hs
  | canRecoveryDone => exact execCanRecoveryDone_sound hP hs
  | canDominantTimeout => exact execCanDominantTimeout_sound hP hs
  | reclaim => exact execReclaim_sound hP hs
  | addressClaimedReceived => exact execAddressClaimedReceived_sound hP hs
  | requestAddressClaimed => exact execRequestAddressClaimed_sound hP hs
  | claimTimeout => exact execClaimTimeout_sound hP hs
  | cannotClaimDelay => exact execCannotClaimDelay_sound hP hs
  | partnerLeaveTimeout => exact execPartnerLeaveTimeout_sound hP hs
  | tpCmReceived => exact execTpCmReceived_sound hP hs
  | tpDtReceived => exact execTpDtReceived_sound hP hs
  | etpCmReceived => exact execEtpCmReceived_sound hP hs
  | etpDtReceived => exact execEtpDtReceived_sound hP hs
  | sessionStart => exact execSessionStart_sound hP hs
  | sessionNext => exact execSessionNext_sound hP hs
  | sessionRelease => exact execSessionRelease_sound hP hs
  | sessionAbort => exact execSessionAbort_sound hP hs
  | tpTimeout => exact execTpTimeout_sound hP hs
  | bamPacketTimer => exact execBamPacketTimer_sound hP hs
  | holdCtsTimer => exact execHoldCtsTimer_sound hP hs
  | gatewayRequest => exact execGatewayRequest_sound hP hs
  | patchDataWrite => exact execPatchDataWrite_sound hP hs
  | patchApply => exact execPatchApply_sound hP hs
  | patchVerifyDone => exact execPatchVerifyDone_sound hP hs
  | patchClr => exact execPatchClr_sound hP hs
  | gpioEdge => exact execGpioEdge_sound hP hs
  | thermalComparator => exact execThermalComparator_sound hP hs
  | illegalOpcode => exact execIllegalOpcode_sound hP hs
  | testAccessPortClock => exact execTestAccessPortClock_sound hP hs
  | testPinChange => exact execTestPinChange_sound hP hs
  | canBusIntegrated => exact execCanBusIntegrated_sound hP hs
  | bertCheckerSynchronised => exact execBertCheckerSynchronised_sound hP hs

theorem exec_keeps {P : State → Prop} (hP : Sound P) {c : Instr} {s t : State} (hs : P s) (h : exec c s = .next t) : P t := by
  obtain ⟨u, answered, hu⟩ := exec_sound hP hs c
  rw [answered] at h
  injection h with same
  exact same ▸ hu

/-- Nothing but the clock and Canopy time moves before the gates follow their dead times. -/
theorem State.tick_sound {P : State → Prop} (hP : Sound P) {s : State} (passed : P s.pass) : P s.tick :=
  State.forCh_sound hP (fun _ _ => State.whenCh_sound hP fun _ => State.takeGates_sound hP) passed

/-- A property that looks neither at the queue nor at time goes through a step: the empty queue's cycle, or the front command. -/
theorem step_keeps {P : State → Prop} (hP : Sound P) (passed : ∀ {s}, P s → P s.pass) (rest : ∀ {s l}, P s → P (s.withRest l))
    {s t : State} (hs : P s) (h : step s = .next t) : P t := by
  unfold step at h
  split at h
  · injection h with same
    exact same ▸ State.tick_sound hP (passed hs)
  · exact exec_keeps hP (rest hs) h

/-- Settles O57: the parts of `Sound` that name the queue, the clock, the part and the fuses. -/
theorem everyCommandAnswers : Obligations.EveryCommandAnswers := by
  unfold Obligations.EveryCommandAnswers
  intro c s
  obtain ⟨t, answered, pending, now, part⟩ := exec_sound (sound_fixed s.pending s.now s.hl2880) ⟨rfl, rfl, rfl⟩ c
  have blown : ∀ k, s.fuse k &&& ~~~ t.fuse k = 0#32 := exec_keeps (sound_fuses s) (fun _ => BitVec.and_not_self _) answered
  exact ⟨t, answered, pending, now, part, blown⟩

/-- Settles O58: the canonical form is kept by every primitive update, and a cycle's time does not touch it. -/
theorem stepKeepsCanon : Obligations.StepKeepsCanon := by
  unfold Obligations.StepKeepsCanon
  exact fun s t canon stepped => step_keeps sound_canon id id canon stepped

/-- Settles O59: the gates change through the interlock alone, whose commands conflict in no leg. -/
theorem gatesNeverBothOn : Obligations.GatesNeverBothOn := by
  unfold Obligations.GatesNeverBothOn
  exact fun s t safe stepped => step_keeps sound_gates id id safe stepped

end Sys2Proof.Machine

/-! SUPPORT. O33: the fields of a Grove word read back as they were put together. -/

namespace Sys2Proof.Machine

open BitVec

/-! ### The fields of a word (R308) -/

@[simp] theorem wordI_opcode (op : BitVec 6) (rd ra : GReg) (i : GImm) : (wordI op rd ra i).extractLsb' 26 6 = op :=
  (extractLsb'_append_eq_of_le (by decide)).trans ((extractLsb'_append_eq_of_le (by decide)).trans extractLsb'_append_eq_left)

@[simp] theorem wordI_rd (op : BitVec 6) (rd ra : GReg) (i : GImm) : (wordI op rd ra i).extractLsb' 22 4 = rd :=
  (extractLsb'_append_eq_of_le (by decide)).trans ((extractLsb'_append_eq_of_le (by decide)).trans extractLsb'_append_eq_right)

@[simp] theorem wordI_ra (op : BitVec 6) (rd ra : GReg) (i : GImm) : (wordI op rd ra i).extractLsb' 18 4 = ra :=
  (extractLsb'_append_eq_of_le (by decide)).trans extractLsb'_append_eq_right

@[simp] theorem wordI_imm (op : BitVec 6) (rd ra : GReg) (i : GImm) : (wordI op rd ra i).extractLsb' 0 18 = i :=
  extractLsb'_append_eq_right

/-- A program address lies in the low bits of format I. -/
@[simp] theorem wordI_addr (op : BitVec 6) (rd ra : GReg) (t : GAddr) : (wordI op rd ra (0#4 ++ t)).extractLsb' 0 14 = t :=
  (extractLsb'_append_eq_of_add_le (by decide)).trans extractLsb'_append_eq_right

/-- So does the immediate of LUI. -/
@[simp] theorem wordI_upper (op : BitVec 6) (rd ra : GReg) (i : BitVec 16) : (wordI op rd ra (0#2 ++ i)).extractLsb' 0 16 = i :=
  (extractLsb'_append_eq_of_add_le (by decide)).trans extractLsb'_append_eq_right

@[simp] theorem wordR_opcode (op : BitVec 6) (rd ra rb : GReg) (low : BitVec 14) : (wordR op rd ra rb low).extractLsb' 26 6 = op :=
  (extractLsb'_append_eq_of_le (by decide)).trans ((extractLsb'_append_eq_of_le (by decide)).trans
    ((extractLsb'_append_eq_of_le (by decide)).trans extractLsb'_append_eq_left))

@[simp] theorem wordR_rd (op : BitVec 6) (rd ra rb : GReg) (low : BitVec 14) : (wordR op rd ra rb low).extractLsb' 22 4 = rd :=
  (extractLsb'_append_eq_of_le (by decide)).trans ((extractLsb'_append_eq_of_le (by decide)).trans
    ((extractLsb'_append_eq_of_le (by decide)).trans extractLsb'_append_eq_right))

@[simp] theorem wordR_ra (op : BitVec 6) (rd ra rb : GReg) (low : BitVec 14) : (wordR op rd ra rb low).extractLsb' 18 4 = ra :=
  (extractLsb'_append_eq_of_le (by decide)).trans ((extractLsb'_append_eq_of_le (by decide)).trans extractLsb'_append_eq_right)

@[simp] theorem wordR_rb (op : BitVec 6) (rd ra rb : GReg) (low : BitVec 14) : (wordR op rd ra rb low).extractLsb' 14 4 = rb :=
  (extractLsb'_append_eq_of_le (by decide)).trans extractLsb'_append_eq_right

/-- The length of a message lies above eight ignored bits. -/
@[simp] theorem wordR_len (op : BitVec 6) (rd ra rb : GReg) (len : BitVec 6) : (wordR op rd ra rb (len ++ 0#8)).extractLsb' 8 6 = len :=
  (extractLsb'_append_eq_of_add_le (by decide)).trans extractLsb'_append_eq_left

/-! ### Every instruction -/

theorem gDecode_alu (o : GAlu) (rd ra rb : GReg) : gDecode (GOp.alu o rd ra rb).encode = some (.alu o rd ra rb) := by
  cases o <;> simp [gDecode, GOp.encode, GAlu.code]

theorem gDecode_un (o : GUn) (rd ra : GReg) : gDecode (GOp.un o rd ra).encode = some (.un o rd ra) := by
  cases o <;> simp [gDecode, GOp.encode, GUn.code]

theorem gDecode_immOp (o : GImmOp) (rd ra : GReg) (i : GImm) : gDecode (GOp.immOp o rd ra i).encode = some (.immOp o rd ra i) := by
  cases o <;> simp [gDecode, GOp.encode, GImmOp.code]

theorem gDecode_acc (o : GAcc) (rd ra : GReg) (i : GImm) : gDecode (GOp.acc o rd ra i).encode = some (.acc o rd ra i) := by
  cases o <;> simp [gDecode, GOp.encode, GAcc.code]

/-- Settles O33, by the format of each instruction. -/
theorem groveWordsRoundTrip : Obligations.GroveWordsRoundTrip := by
  unfold Obligations.GroveWordsRoundTrip
  intro op spelt
  cases op with
  | alu o rd ra rb => exact gDecode_alu o rd ra rb
  | un o rd ra => exact gDecode_un o rd ra
  | immOp o rd ra i => exact gDecode_immOp o rd ra i
  | acc o rd ra i => exact gDecode_acc o rd ra i
  | b cond t =>
    have listed : ¬ 13 ≤ cond.toNat := by simpa [GOp.wf] using spelt
    simp [gDecode, GOp.encode, listed]
  | _ => simp [gDecode, GOp.encode]

end Sys2Proof.Machine

/-! SUPPORT. O1, O55, O56: a step, the gate arbiter with its interlock, and what reset leaves. -/

namespace Sys2Proof.Machine

/-! ### A step (R443; log 11) -/

theorem State.timeRuns_iff (s : State) :
    s.timeRuns = true ↔ s.rd R.CLK_STATUS_PWMPLL_LOCK 0 ≠ 0 ∧ (s.fr srcMonPclk).cond = false := by
  simp [State.timeRuns, State.on]

theorem State.pass_canopy_of_timeRuns {s : State} (runs : s.timeRuns = true) :
    (s.pass.canopy : Int) = ((s.canopy : Int) + 32 * 2 ^ 32 + s.rate) % 2 ^ 101 := by
  rw [State.pass, if_pos runs]
  exact Int.toNat_of_nonneg (Int.emod_nonneg _ (by decide))

theorem State.pass_canopy_of_stopped {s : State} (stopped : s.timeRuns = false) : s.pass.canopy = s.canopy :=
  if_neg (by rw [stopped]; exact Bool.false_ne_true)

/-- Settles O1: the front command, or the cycle in which time passes before the gates follow. -/
theorem stepRunsFrontCommand : Obligations.StepRunsFrontCommand := by
  unfold Obligations.StepRunsFrontCommand
  refine ⟨fun s c l front => by simp only [step, front]; rfl, fun s empty => ⟨s.tick, s.pass, by simp only [step, empty], rfl, rfl,
    State.pass_canopy_of_stopped, s.timeRuns_iff, State.pass_canopy_of_timeRuns, rfl, ?_⟩⟩
  exact State.forCh_keeps (fun _ _ => State.whenCh_keeps fun _ => State.takeGates_keeps (settles_settled [] _)) (Settled.refl [] _)

/-! ### The gate arbiter (R20, R21) -/

theorem State.arb_of_free_getLsbD {s : State} {n : Ch} (free : s.holdoff n = false) (p : Nat) (k : Fin 6) :
    (s.arb n p).getLsbD k.val = (((s.asks n).on.getLsbD k.val || (s.genCmd n p).getLsbD k.val) && !(s.asks n).off.getLsbD k.val) := by
  rw [State.arb, if_neg (by rw [free]; exact Bool.false_ne_true)]
  simp only [BitVec.getLsbD_and, BitVec.getLsbD_or, BitVec.getLsbD_not, k.isLt, decide_true, Bool.true_and]

theorem getLsbD_switch : ∀ j k : Fin 6, (BitVec.ofNat 6 (2 ^ j.val)).getLsbD k.val = decide (k = j) := by decide

/-- Bits collected one at a time. -/
theorem getLsbD_foldl_bits (f : Fin 6 → Bool) (l : List (Fin 6)) (m : Sw) (k : Fin 6) :
    (l.foldl (fun m j => if f j then m ||| BitVec.ofNat 6 (2 ^ j.val) else m) m).getLsbD k.val = (m.getLsbD k.val || (decide (k ∈ l) && f k)) := by
  induction l generalizing m with
  | nil => simp
  | cons j l ih =>
    have head : (if f j then m ||| BitVec.ofNat 6 (2 ^ j.val) else m).getLsbD k.val = (m.getLsbD k.val || (decide (k = j) && f j)) := by
      cases f j
      · exact (by simp : m.getLsbD k.val = (m.getLsbD k.val || (decide (k = j) && false)))
      · rw [if_pos rfl, BitVec.getLsbD_or, getLsbD_switch, Bool.and_true]
    rw [List.foldl_cons, ih, head]
    by_cases same : k = j
    · subst same; cases f k <;> simp
    · simp [same]

theorem State.turnOn_getLsbD (s : State) (n : Ch) (k : Fin 6) : (s.turnOn n).getLsbD k.val = s.deadOver n k := by
  rw [State.turnOn, getLsbD_foldl_bits]
  simp [List.mem_finRange]

/-- A leg asked for twice loses both its switches. -/
theorem unconflicted_getLsbD : ∀ (m : Sw) (k : Fin 6),
    (m &&& ~~~ swLegs (conflict m)).getLsbD k.val = (m.getLsbD k.val && !m.getLsbD (opposite k).val) := by decide

theorem State.gateOut_getLsbD (s : State) (n : Ch) (k : Fin 6) :
    (s.gateOut n).getLsbD k.val = true ↔ (s.arb n (s.ch n).car.pos).getLsbD k.val = true ∧
      (s.arb n (s.ch n).car.pos).getLsbD (opposite k).val = false ∧
      ((s.ch n).prot.gates.getLsbD k.val = true ∨ s.deadOver n k = true) := by
  rw [State.gateOut, interlock, BitVec.getLsbD_and, unconflicted_getLsbD, BitVec.getLsbD_or, State.turnOn_getLsbD]
  simp [and_assoc]

theorem State.deadOver_iff (s : State) (n : Ch) (k : Fin 6) :
    s.deadOver n k = true ↔ (s.ch n).prot.gates.getLsbD (opposite k).val = false ∧ (s.ch n).prot.swAt[(opposite k).val] +
      s.deadCounts (if k.val < 3 then R.PWM_DTIME_RISE else R.PWM_DTIME_FALL) n ≤ s.now := by
  simp [State.deadOver]

theorem State.settle_of_conflict {s : State} {n : Ch} (h : conflict (s.arb n (s.ch n).car.pos) ≠ 0) :
    s.settle n = ((s.takeGates n).raise (srcCh n.val oGateConflict) 0).forCh fun m u => u.takeGates m := by
  rw [State.settle, if_neg h, State.raiseCh]

/-- Settles O55: bit by bit over all states. -/
theorem gateArbiter : Obligations.GateArbiter := by
  unfold Obligations.GateArbiter
  refine ⟨fun s n p k => ⟨?held, ?off, ?on, ?silent⟩, ?interlock, fun s n => State.settle_of_conflict⟩
  case held => intro held; rw [State.arb_of_holdoff held]; exact BitVec.getLsbD_zero
  case off => intro free off; rw [State.arb_of_free_getLsbD free, off, Bool.not_true, Bool.and_false]
  case on => intro free off on; rw [State.arb_of_free_getLsbD free, off, on]; rfl
  case silent => intro free off on; rw [State.arb_of_free_getLsbD free, off, on]; exact Bool.and_true _
  case interlock =>
    rintro s n k a g o rfl rfl rfl
    exact ⟨s.gateOut_getLsbD n k, s.deadOver_iff n k, rfl, by rw [State.takeGates_gates, if_pos rfl]⟩

/-! ### What reset leaves (R53, R85) -/

theorem State.reset_memWord_route {d : Nat} (h : d < 0x400) : State.reset.memWord (0x340000 + 4 * d) = 5#32 := by
  have first : State.reset.byte (0x340000 + 4 * d) = 5#8 := if_pos (by omega)
  have other (k : Nat) (lo : 0 < k) (hi : k < 4) : State.reset.byte (0x340000 + 4 * d + k) = 0#8 := if_neg (by omega)
  rw [State.memWord, first, other 1 (by decide) (by decide), other 2 (by decide) (by decide), other 3 (by decide) (by decide)]
  rfl

/-- Settles O56: the reset state, evaluated field by field. -/
theorem resetLeaves : Obligations.ResetLeaves := by
  unfold Obligations.ResetLeaves
  refine ⟨rfl, rfl, ⟨State.reset_regs_wf, State.reset_mem_wf⟩, fun _ => rfl, by decide, ?channels, by decide, ?faults, ?ports,
    fun d => State.reset_memWord_route, rfl⟩
  case channels =>
    have safe : legsSafe 0#6 := rfl
    have each : ∀ n : Ch, (State.reset.ch n).prot.gates = 0#6 ∧ State.reset.chOn n = false ∧ State.reset.chState n = .off ∧
        State.reset.holdoff n = true ∧ State.reset.core n = 0 := by decide
    intro n
    obtain ⟨off, unpowered, state, held, core⟩ := each n
    exact ⟨off, off ▸ safe, unpowered, state, held, core⟩
  case faults => exact fun q => rfl
  case ports => decide

end Sys2Proof.Machine

/-! SUPPORT. O60: no guard of an unpowered unit opens; a write of the route table, which lies in CORE, leaves the power manager's words. -/

namespace Sys2Proof.Machine

theorem State.whenPort_of_not_portUp {s : State} {p : Ch} (h : ¬ s.portUp p) (f : State → State) : s.whenPort p f = s := by
  rw [State.whenPort, if_neg]
  simpa [State.portUp, imp_iff_not_or] using h

/-! ### What the end of a transaction leaves of the registers -/

theorem State.word_of_regs {s t : State} (e : t.regs = s.regs) (a : Nat) : t.word a = s.word a := by rw [State.word, e, State.word]

theorem State.canNext_regs (s : State) (m : Fin 2) : (s.canNext m).regs = s.regs := by
  unfold State.canNext
  split <;> rfl

theorem State.canRepick_regs (s : State) (m : Fin 2) (b : Bool) : (s.canRepick m b).regs = s.regs := by
  unfold State.canRepick
  split <;> exact State.canNext_regs _ m

/-- What the NET engine sends waits in the controller's queue: no register shows it. -/
theorem State.netSend_regs (s : State) (f : CanFrame) : (s.netSend f).regs = s.regs := by
  unfold State.netSend
  split
  · exact State.canRepick_regs _ _ _
  · rfl

theorem State.sessStart_regs (s : State) (i : Ch) (kind da pgn len : Nat) (gate : Bool) :
    (s.sessStart i kind da pgn len gate).regs = s.regs := by
  unfold State.sessStart
  extract_lets u x
  split
  · exact State.netSend_regs u _
  · split <;> exact State.netSend_regs u _

theorem State.gwFlush_regs (s : State) : s.gwFlush.regs = s.regs := by
  refine foldl_keeps (P := fun t => t.regs = s.regs) (fun t i h => ?_) sessions rfl
  split
  · exact h
  · split
    · exact (State.sessStart_regs _ _ _ _ _ _ _).trans h
    · exact h

theorem State.gwAnswer_regs (s : State) (sa : Nat) (hdr : Word) (sess : Bool) (status : Nat) (data : List Word) :
    (s.gwAnswer sa hdr sess status data).regs = s.regs := by
  unfold State.gwAnswer State.gwSend
  extract_lets d
  split
  · split
    · exact State.gwFlush_regs _
    · exact State.netSend_regs _ _
  · rfl

/-- The word at `a` is one of the power manager's page. -/
def onPwrPage (a : Nat) : Prop := a / 256 = 0x02

theorem State.word_wr_of_page {s : State} {f : Fld} {i v a : Nat} (h : onPwrPage a) (off : f.off < 256) (page : pageOf f.page i ≠ 0x02) :
    (s.wr f i v).word a = s.word a := by
  rw [State.word_wr, if_neg]
  unfold onPwrPage at h
  unfold Fld.addr
  omega

theorem State.word_inc_of_page {s : State} {f : Fld} {i a : Nat} (h : onPwrPage a) (off : f.off < 256) (page : pageOf f.page i ≠ 0x02) :
    (s.inc f i).word a = s.word a := by
  unfold State.inc
  split
  · exact State.word_wr_of_page h off page
  · rfl

theorem State.gwDone_word {a : Nat} (h : onPwrPage a) (s : State) (q : GwReq) (status : Nat) (data : List Word) :
    (s.gwDone q status data).word a = s.word a :=
  (State.word_of_regs (State.gwAnswer_regs _ _ _ _ _ _) a).trans
    ((State.word_wr_of_page h (by decide) (by decide)).trans (State.word_inc_of_page h (by decide) (by decide)))

theorem State.hostResult_word {a : Nat} (h : onPwrPage a) (s : State) (t status : Nat) : (s.hostResult t status []).word a = s.word a := by
  simp only [State.hostResult, State.wrs, List.zip_nil_right, List.map_nil]
  iterate 4 rw [State.word_wr_of_page h (by decide) (by decide)]

theorem State.complete_word {a : Nat} (h : onPwrPage a) (s : State) (t status : Nat) (own : Bool) (route : Word) :
    (s.complete t status own route []).word a = s.word a := by
  unfold State.complete
  extract_lets x freed counted
  have freedKept : freed.word a = s.word a := rfl
  have countedKept : counted.word a = s.word a := by
    refine ite_keeps (P := fun t => t.word a = s.word a) ?_ (ite_keeps (P := fun t => t.word a = s.word a) ?_ freedKept)
    · exact (State.word_inc_of_page h (by decide) (by decide)).trans freedKept
    · exact (State.word_inc_of_page h (by decide) (by decide)).trans freedKept
  clear_value counted
  split
  · exact countedKept
  · exact (State.hostResult_word h _ _ _).trans countedKept
  · split
    · refine State.whenCh_keeps (P := fun t => t.word a = s.word a) (fun u hu => (State.word_wr_of_page h (by decide) ?_).trans hu) countedKept
      show (0x4C + 0x10 * _ : Nat) ≠ 0x02
      omega
    · exact countedKept
  · exact countedKept
  · split
    · exact (State.gwDone_word h _ _ _ _).trans countedKept
    · exact countedKept

theorem State.noRoute_word {a : Nat} (h : onPwrPage a) (s : State) (p : Nat → Bool) : (s.noRoute p).word a = s.word a := by
  refine foldl_keeps (P := fun t => t.word a = s.word a) (fun t k ht => ?_) (List.range 64) rfl
  exact ite_keeps (P := fun t => t.word a = s.word a) ((State.complete_word h t k 1 true 0).trans ht) ht

theorem State.routeWrite_word {a : Nat} (h : onPwrPage a) (s : State) (d w : Nat) : (s.routeWrite d w).word a = s.word a := by
  unfold State.routeWrite
  split
  · rfl
  · exact ite_keeps (P := fun t => t.word a = s.word a) (State.noRoute_word h _ _) rfl

theorem State.routeWrite_domOn (s : State) (d w k : Nat) : (s.routeWrite d w).domOn k = s.domOn k := by
  simp only [State.domOn, State.bit, State.rd, State.routeWrite_word (show onPwrPage (R.PWR_DOM_STATE_ON.addr 0) by unfold onPwrPage; decide)]

/-! ### The ROUTE counters (R438) -/

theorem State.fabCntClr_of_unpowered {s : State} (off : s.domOn dLink = false) :
    s.fabCntClr = s.wrs 0 [(R.ROUTE_NOROUTE_TX, 0), (R.ROUTE_DROPPED, 0), (R.ROUTE_FWD01_FWDH, 0), (R.ROUTE_FWD01_FWDL, 0),
      (R.ROUTE_FWD23_FWDH, 0), (R.ROUTE_FWD23_FWDL, 0)] := by
  rw [State.fabCntClr, State.whenLink_off off]

/-- Settles O60: every command of the three units acts under its guard. -/
theorem unpoweredUnitsIdle : Obligations.UnpoweredUnitsIdle := by
  unfold Obligations.UnpoweredUnitsIdle
  refine ⟨?ports, ?link, ?can⟩
  case ports =>
    intro p s down b c pos cap pid w ws cv m v
    have idle (f : State → State) : Host.Outcome.next (φ := Fault) (ρ := Refusal) (s.whenPort p f) = .next s := congrArg _ (State.whenPort_of_not_portUp down f)
    refine ⟨?_, ?_, ?_, ?_, ?_, ?_, ?_, ?_, ?_, ?_, ?_, ?_, ?_, ?_, ?_, ?_, ?_, ?_, ?_, ?_, ?_, ?_⟩ <;> exact idle _
  case link =>
    intro s off ecc t d w
    have idle (f : State → State) : Host.Outcome.next (φ := Fault) (ρ := Refusal) (s.whenLink f) = .next s := congrArg _ (State.whenLink_off off f)
    have written : (s.routeWrite d.toNat w.toNat).domOn dLink = false := (s.routeWrite_domOn _ _ _).trans off
    refine ⟨idle _, idle _, idle _, idle _, idle _, idle _, idle _, idle _, idle _, idle _, idle _, idle _, idle _, idle _, idle _, idle _,
      idle _, idle _, rfl, congrArg _ (State.whenLink_off written _), idle _, idle _, idle _, idle _, idle _, _,
      congrArg Host.Outcome.next (State.fabCntClr_of_unpowered off), ?_⟩
    simp only [State.wrs]
    simp (disch := decide) only [State.rd_wr_sep, State.rd_wr, Nat.zero_mod, true_and]
    refine (OnlyRegs.refl _ s).wrs 0 [(R.ROUTE_NOROUTE_TX, 0), (R.ROUTE_DROPPED, 0), (R.ROUTE_FWD01_FWDH, 0), (R.ROUTE_FWD01_FWDL, 0),
      (R.ROUTE_FWD23_FWDH, 0), (R.ROUTE_FWD23_FWDL, 0)] ?_
    simp only [List.forall_mem_cons]
    decide
  case can =>
    intro s off m c b w k l r sa da d name e hdr dlc sof ecc b2
    have idle (f : State → State) : Host.Outcome.next (φ := Fault) (ρ := Refusal) (s.whenCan f) = .next s := congrArg _ (State.whenCan_off off f)
    refine ⟨?_, ?_, ?_, ?_, ?_, ?_, ?_, ?_, ?_, ?_, ?_, ?_, ?_, ?_, ?_, ?_, ?_, ?_, ?_, ?_, ?_, ?_, ?_, ?_, ?_, ?_, ?_, ?_, ?_, ?_, ?_⟩ <;> exact idle _

end Sys2Proof.Machine

/-! SUPPORT. The Grove cores: what issuing an instruction comes to, and the common end of an instruction with a destination. -/

namespace Sys2Proof.Machine

/-! ### Records and registers of a core (R304) -/

/-- A channel record put back where it stands. -/
theorem State.setCh_ch (s : State) (n : Ch) : s.setCh n (s.ch n) = s := by
  have same : s.chan.set n.val (s.ch n) = s.chan := Vector.set_getElem_self n.isLt
  rw [State.setCh, same]

@[simp] theorem State.grv_modGrv (s : State) (n : Ch) (f : Grv → Grv) : (s.modGrv n f).grv n = f (s.grv n) :=
  congrArg Chan.grv (s.ch_modCh_self n _)

theorem State.ch_modGrv (s : State) (n : Ch) (f : Grv → Grv) : (s.modGrv n f).ch n = { s.ch n with grv := f (s.grv n) } := s.ch_modCh_self n _

@[simp] theorem State.rd_modGrv (s : State) (n : Ch) (f : Grv → Grv) (g : Fld) (i : Nat) : (s.modGrv n f).rd g i = s.rd g i := rfl

@[simp] theorem State.grv_wr (s : State) (n : Ch) (f : Fld) (i v : Nat) : (s.wr f i v).grv n = s.grv n := rfl

theorem State.modGrv_id (s : State) (n : Ch) : s.modGrv n (fun g => g) = s := s.setCh_ch n

theorem State.modGrv_modGrv (s : State) (n : Ch) (f g : Grv → Grv) : (s.modGrv n f).modGrv n g = s.modGrv n fun x => g (f x) := by
  have twice (v : Vector Chan 4) (c d : Chan) : (v.set n.val c).set n.val d = v.set n.val d := Vector.set_set _ n.isLt
  simp only [State.modGrv, State.modCh, State.ch_setCh_self]
  simp only [State.setCh, twice]

/-- A core's registers with `r` at `w`, g0 holding 0 still. -/
def Grv.put (g : Grv) (r : GReg) (w : Word) : Grv := if r = 0 then g else { g with g := g.g.set r.toNat w r.isLt }

theorem State.setG_eq (s : State) (n : Ch) (r : GReg) (w : Word) : s.setG n r w = s.modGrv n (·.put r w) := by
  unfold State.setG Grv.put
  split
  · exact (s.modGrv_id n).symm
  · rfl

@[simp] theorem State.grv_setG (s : State) (n : Ch) (r : GReg) (w : Word) : (s.setG n r w).grv n = (s.grv n).put r w := by
  rw [State.setG_eq, State.grv_modGrv]

@[simp] theorem State.rd_setG (s : State) (n : Ch) (r : GReg) (w : Word) (g : Fld) (i : Nat) : (s.setG n r w).rd g i = s.rd g i := by
  rw [State.setG_eq, State.rd_modGrv]

/-- Register `r` of a core's record. -/
def Grv.reg (g : Grv) (r : GReg) : Word := if r = 0 then 0#32 else g.g.get ⟨r.toNat, r.isLt⟩

theorem State.gv_eq (s : State) (n : Ch) (r : GReg) : s.gv n r = (s.grv n).reg r := rfl

theorem Grv.reg_put_self (g : Grv) (r : GReg) (w : Word) : (g.put r w).reg r = if r = 0 then 0#32 else w := by
  unfold Grv.reg Grv.put
  split
  · rfl
  · exact Vector.getElem_set_self r.isLt

theorem Grv.reg_put_ne (g : Grv) {r q : GReg} (w : Word) (h : q ≠ r) : (g.put r w).reg q = g.reg q := by
  unfold Grv.reg Grv.put
  split
  · rfl
  · split
    · rfl
    · exact Vector.getElem_set_ne r.isLt q.isLt fun same => h (BitVec.eq_of_toNat_eq same.symm)

/-! ### The end of an instruction -/

/-- The four flags of a record. -/
def Grv.setFlags (g : Grv) (f : Bool × Bool × Bool × Bool) : Grv := { g with n := f.1, z := f.2.1, c := f.2.2.1, v := f.2.2.2 }

/-- Flags and destination written, PC on by a word, `k` cycles spent: the end that arithmetic, loads and waits share. -/
def State.gEnd (s : State) (n : Ch) (rd : GReg) (r : Word) (f : Bool × Bool × Bool × Bool) (k : Nat) : State :=
  ((s.setG n rd r).modGrv n (·.setFlags f)).gNext n k

/-- An instruction that leaves the flags. -/
theorem State.setG_gNext (s : State) (n : Ch) (rd : GReg) (r : Word) (k : Nat) : (s.setG n rd r).gNext n k = s.gEnd n rd r (s.grv n).flags k := by
  have same : ((s.grv n).put rd r).setFlags (s.grv n).flags = (s.grv n).put rd r := by unfold Grv.put; split <;> rfl
  have kept : (s.setG n rd r).modGrv n (·.setFlags (s.grv n).flags) = s.setG n rd r := by
    rw [State.setG_eq, State.modGrv_modGrv]
    exact congrArg (fun g => s.setCh n { s.ch n with grv := g }) same
  rw [State.gEnd, kept]

theorem State.gNext_eq (s : State) (n : Ch) (k : Nat) : s.gNext n k = s.gEnd n 0 0#32 (s.grv n).flags k := s.setG_gNext n 0 0#32 k

@[simp] theorem State.grv_gNext (s : State) (n : Ch) (k : Nat) :
    (s.gNext n k).grv n = { s.grv n with past := false, busy := if (s.grv n).busy = 0 then (s.grv n).busy else (s.grv n).busy + k } := by
  simp only [State.gNext, State.gInc, State.gTake, State.grv_modGrv, State.grv_wr]
  split <;> rfl

theorem State.gpc_gNext (s : State) (n : Ch) (k : Nat) : (s.gNext n k).gpc n = (s.gpc n + 1) % 2 ^ 14 := s.rd_wr R.GRV_STATUS_PC n.val _ (by decide)

theorem State.gNext_onlyChan {n : Ch} {l : List (Nat × Word)} {s t : State} (h : OnlyChan n l s t) (c : R.GRV_STATUS_PC.at n.val ∈ l) (k : Nat) :
    OnlyChan n l s (t.gNext n k) := ((h.wr _ n.val _ (by decide) c).modCh _).modCh _

theorem OnlyChan.modGrv {n : Ch} {l : List (Nat × Word)} {s t : State} (h : OnlyChan n l s t) (f : Grv → Grv) : OnlyChan n l s (t.modGrv n f) := h.modCh _

theorem OnlyChan.setG {n : Ch} {l : List (Nat × Word)} {s t : State} (h : OnlyChan n l s t) (r : GReg) (w : Word) : OnlyChan n l s (t.setG n r w) := by
  rw [State.setG_eq]; exact h.modGrv _

/-- Of the record of channel `n` the core's part alone differs. -/
def State.coreOnly (s : State) (n : Ch) (t : State) : Prop := t.ch n = { s.ch n with grv := t.grv n }

theorem State.coreOnly.modGrv {s t : State} {n : Ch} (h : s.coreOnly n t) (f : Grv → Grv) : s.coreOnly n (t.modGrv n f) := by
  unfold State.coreOnly at h ⊢
  rw [State.ch_modGrv, State.grv_modGrv, h]

theorem State.coreOnly.setG {s t : State} {n : Ch} (h : s.coreOnly n t) (r : GReg) (w : Word) : s.coreOnly n (t.setG n r w) := by
  rw [State.setG_eq]; exact h.modGrv _

theorem State.coreOnly.wr {s t : State} {n : Ch} (h : s.coreOnly n t) (f : Fld) (i v : Nat) : s.coreOnly n (t.wr f i v) := h

theorem State.coreOnly.gNext {s t : State} {n : Ch} (h : s.coreOnly n t) (k : Nat) : s.coreOnly n (t.gNext n k) :=
  ((h.wr _ _ _).modGrv _).modGrv _

/-- The end has the effects that R308 to R312 give an instruction with a destination. -/
theorem State.gEnd_done (s : State) (n : Ch) (rd : GReg) (r : Word) (f : Bool × Bool × Bool × Bool) (k : Nat) :
    GroveDone n rd r f s (s.gEnd n rd r f k) := by
  have core : (s.gEnd n rd r f k).grv n = { ((s.grv n).put rd r).setFlags f with
      past := false, busy := if (s.grv n).busy = 0 then (s.grv n).busy else (s.grv n).busy + k } := by
    have busy : (((s.grv n).put rd r).setFlags f).busy = (s.grv n).busy := by unfold Grv.put; split <;> rfl
    rw [State.gEnd, State.grv_gNext, State.grv_modGrv, State.grv_setG, busy]
  have record : s.coreOnly n (s.gEnd n rd r f k) := (State.coreOnly.setG (t := s) rfl rd r |>.modGrv _).gNext k
  refine ⟨?own, ?others, ?flags, ?pc, ?record, ?only⟩
  case own => rw [State.gv_eq, core]; exact (s.grv n).reg_put_self rd r
  case others => intro q h; rw [State.gv_eq, core]; exact (s.grv n).reg_put_ne r h
  case flags => rw [core]; rfl
  case pc => rw [State.gEnd, State.gpc_gNext]; simp only [State.gpc, State.rd_modGrv, State.rd_setG]
  case record =>
    rw [record, core]
    unfold Grv.put
    split <;> rfl
  case only => exact State.gNext_onlyChan (((OnlyChan.refl n _ s).setG rd r).modGrv _) (by simp) k

/-! ### Issuing (R308, R319, R330) -/

theorem State.issue_of_issues {s : State} {n : Ch} {op : GOp} (h : s.issues n op) (ecc : Bool) : s.issue n ecc op = .next (s.gDo n ecc op) := by
  obtain ⟨on, running, thawed, unbroken, spelt⟩ := h
  rw [State.issue, State.whenCh_on on, if_pos ⟨running, thawed, spelt⟩, unbroken, if_neg Bool.false_ne_true]

end Sys2Proof.Machine

/-! SUPPORT. O27, O28: arithmetic of the Grove cores: every operation ends in its result and its flags. -/

namespace Sys2Proof.Machine

/-- The flags after a three-register operation (R310, R312). -/
def GAlu.flags (o : GAlu) (g : Grv) (a b r : Word) : Bool × Bool × Bool × Bool :=
  match o with
  | .add => (r.msb, r == 0#32, addCarry a b, addOver a b)
  | .sub => (r.msb, r == 0#32, subCarry a b, subOver a b)
  | .fadd | .fsub | .fmul | .fdiv | .fmin | .fmax | .fclamp => g.flags
  | _ => (r.msb, r == 0#32, g.c, g.v)

theorem Grv.put_flags (g : Grv) (r : GReg) (w : Word) : (g.put r w).flags = g.flags := by
  unfold Grv.put
  split <;> rfl

theorem State.aluFlags_eq (s : State) (n : Ch) (o : GAlu) (a b r : Word) :
    s.aluFlags n o a b r = s.modGrv n (·.setFlags (o.flags (s.grv n) a b r)) := by
  have kept : s = s.modGrv n (·.setFlags (s.grv n).flags) := (s.modGrv_id n).symm
  cases o with
  | fadd | fsub | fmul | fdiv | fmin | fmax | fclamp => exact kept
  | _ => rfl

/-- The result of an immediate operation (R312). -/
def GImmOp.result (o : GImmOp) (a : Word) (i : GImm) : Word :=
  match o with
  | .addi => a + i.signExtend 32
  | .andi => a &&& i.setWidth 32
  | .ori => a ||| i.setWidth 32
  | .xori => a ^^^ i.setWidth 32
  | .shli => a <<< (i.toNat % 32)
  | .shri => a >>> (i.toNat % 32)
  | .sari => a.sshiftRight (i.toNat % 32)

/-- Its flags. -/
def GImmOp.flags (o : GImmOp) (g : Grv) (a : Word) (i : GImm) (r : Word) : Bool × Bool × Bool × Bool :=
  match o with
  | .addi => (r.msb, r == 0#32, addCarry a (i.signExtend 32), addOver a (i.signExtend 32))
  | _ => (r.msb, r == 0#32, g.c, g.v)

section
variable {s : State} {n : Ch} {rd ra rb : GReg}

theorem State.gAlu_done (o : GAlu) :
    GroveDone n rd (o.result (s.gv n rd) (s.gv n ra) (s.gv n rb))
      (o.flags (s.grv n) (s.gv n ra) (s.gv n rb) (o.result (s.gv n rd) (s.gv n ra) (s.gv n rb))) s (s.gAlu n o rd ra rb) := by
  have end_eq : s.gAlu n o rd ra rb = s.gEnd n rd (o.result (s.gv n rd) (s.gv n ra) (s.gv n rb))
      (o.flags (s.grv n) (s.gv n ra) (s.gv n rb) (o.result (s.gv n rd) (s.gv n ra) (s.gv n rb))) o.cycles := by
    have put_c (r w) : ((s.grv n).put r w).c = (s.grv n).c := by unfold Grv.put; split <;> rfl
    have put_v (r w) : ((s.grv n).put r w).v = (s.grv n).v := by unfold Grv.put; split <;> rfl
    simp only [State.gAlu, State.aluFlags_eq, State.grv_setG, State.gEnd]
    cases o <;> simp only [GAlu.flags, Grv.put_flags, put_c, put_v]
  rw [end_eq]
  exact s.gEnd_done n rd _ _ _

theorem State.gUn_done (o : GUn) : GroveDone n rd (o.result (s.gv n ra)) (s.grv n).flags s (s.gUn n o rd ra) := by
  rw [State.gUn, State.setG_gNext]
  exact s.gEnd_done n rd _ _ _

theorem State.gImm_done (o : GImmOp) (i : GImm) :
    GroveDone n rd (o.result (s.gv n ra) i) (o.flags (s.grv n) (s.gv n ra) i (o.result (s.gv n ra) i)) s (s.gImm n o rd ra i) := by
  have end_eq : s.gImm n o rd ra i =
      s.gEnd n rd (o.result (s.gv n ra) i) (o.flags (s.grv n) (s.gv n ra) i (o.result (s.gv n ra) i)) 1 := by
    have put_c (r w) : (s.grv n).c = ((s.grv n).put r w).c := by unfold Grv.put; split <;> rfl
    have put_v (r w) : (s.grv n).v = ((s.grv n).put r w).v := by unfold Grv.put; split <;> rfl
    cases o with
    | addi => rfl
    | _ =>
      simp only [State.gEnd, GImmOp.flags]
      rw [put_c rd, put_v rd, ← State.grv_setG]
      rfl
  rw [end_eq]
  exact s.gEnd_done n rd _ _ _

/-- A compare ends with the flags of the difference and no destination. -/
theorem State.gCmp_ran (a b : Word) : GroveRan n ((a - b).msb, a - b == 0#32, subCarry a b, subOver a b) s (s.gCmp n a b) :=
  s.gEnd_done n 0 0#32 ((a - b).msb, a - b == 0#32, subCarry a b, subOver a b) 1

theorem State.gNext_ran (k : Nat) : GroveRan n (s.grv n).flags s (s.gNext n k) := by
  rw [State.gNext_eq]
  exact s.gEnd_done n 0 0#32 _ k

theorem State.setG_gNext_done (r : Word) (k : Nat) : GroveDone n rd r (s.grv n).flags s ((s.setG n rd r).gNext n k) := by
  rw [State.setG_gNext]
  exact s.gEnd_done n rd r _ k

end

/-- An issued instruction answers what `gDo` gives it. -/
theorem State.issued {s : State} {n : Ch} {op : GOp} {Q : State → Prop} (ecc : Bool) (done : Q (s.gDo n ecc op)) (h : s.issues n op) :
    ∃ t, s.issue n ecc op = .next t ∧ Q t := ⟨_, State.issue_of_issues h ecc, done⟩

/-- Settles O27: each instruction is issued and ends in its result and flags. -/
theorem groveIntegerInstructions : Obligations.GroveIntegerInstructions := by
  unfold Obligations.GroveIntegerInstructions
  rintro n rd ra rb s a b g rfl rfl rfl
  refine ⟨State.issued false (State.gAlu_done .add), State.issued false (State.gAlu_done .sub), State.issued false (State.gAlu_done .and),
    State.issued false (State.gAlu_done .or), State.issued false (State.gAlu_done .xor), State.issued false (State.gAlu_done .shl),
    State.issued false (State.gAlu_done .shr), State.issued false (State.gAlu_done .sar), State.issued false (State.gAlu_done .mul),
    fun h => ⟨_, _, rfl, State.issue_of_issues h false, State.gAlu_done .min⟩,
    fun h => ⟨_, _, rfl, State.issue_of_issues h false, State.gAlu_done .max⟩,
    State.issued false (State.gCmp_ran _ _), State.issued false (State.gNext_ran 1),
    fun i => State.issued false (State.setG_gNext_done _ 1), ?immediate⟩
  case immediate =>
    rintro i u v rfl rfl
    exact ⟨State.issued false (State.gImm_done .addi i), State.issued false (State.gImm_done .andi i),
      State.issued false (State.gImm_done .ori i), State.issued false (State.gImm_done .xori i), State.issued false (State.gImm_done .shli i),
      State.issued false (State.gImm_done .shri i), State.issued false (State.gImm_done .sari i), State.issued false (State.gCmp_ran _ _)⟩

/-- FTOI saturates an infinite operand by its sign (R311). -/
theorem gFtoi_of_infinite {a : Word} (number : f32IsNan a = false) (infinite : f32IsFinite a = false) :
    gFtoi a = if a.msb = true then 0x80000000#32 else 0x7FFFFFFF#32 := by
  have sign : f32Neg a = a.msb := (BitVec.msb_eq_getLsbD_last a).symm
  simp [gFtoi, number, infinite, sign]

theorem gFtoi_of_nan {a : Word} (h : f32IsNan a = true) : gFtoi a = 0#32 := by simp [gFtoi, h]

/-- Settles O28: as O27, with no flag changed but by FCMP. -/
theorem groveFloatInstructions : Obligations.GroveFloatInstructions := by
  unfold Obligations.GroveFloatInstructions
  rintro n rd ra rb s a b g rfl rfl rfl
  exact ⟨State.issued false (State.gAlu_done .fadd), State.issued false (State.gAlu_done .fsub), State.issued false (State.gAlu_done .fmul),
    State.issued false (State.gAlu_done .fdiv), State.issued false (State.gAlu_done .fmin), State.issued false (State.gAlu_done .fmax),
    State.issued false (State.gAlu_done .fclamp), State.issued false (s.gEnd_done n 0 0#32 _ 1),
    State.issued false (State.gUn_done .fsqrt), State.issued false (State.gUn_done .fabs), State.issued false (State.gUn_done .fneg),
    State.issued false (State.gUn_done .itof), State.issued false (State.gUn_done .ftoi), gFtoi_of_nan, gFtoi_of_infinite⟩

end Sys2Proof.Machine

/-! SUPPORT. O29, O30, O31: accesses, flow and exceptions of the Grove cores. -/

namespace Sys2Proof.Machine

section
variable {s : State} {n : Ch} {rd ra rb : GReg} {i : GImm}

/-! ### Accesses (R313 to R315) -/

theorem State.gAcc_ld (lo : s.gEa n ra i ≤ 0xFFF) :
    s.gAcc n .ld rd ra i false = (s.setG n rd (s.gData n (s.gEa n ra i))).gNext n 2 := by
  simp only [State.gAcc, if_neg (Nat.not_lt.2 lo), Bool.false_eq_true, if_false]

theorem State.gAcc_st (lo : s.gEa n ra i ≤ 0xFFF) :
    s.gAcc n .st rd ra i false = (s.setMemWord (dramAddr n.val (s.gEa n ra i)) (s.gv n rd)).gNext n 2 := by
  simp only [State.gAcc, if_neg (Nat.not_lt.2 lo)]

theorem State.gAcc_nrd (lo : s.gEa n ra i ≤ 0xFF) :
    s.gAcc n .nrd rd ra i false = (s.setG n rd (s.nodeShown n (s.gEa n ra i))).gNext n 2 := by
  simp only [State.gAcc, if_neg (Nat.not_lt.2 lo)]

theorem State.gAcc_nwr (lo : s.gEa n ra i ≤ 0xFF) :
    s.gAcc n .nwr rd ra i false = (s.nodeWrite n (s.gEa n ra i) (s.gv n rd)).gNext n 2 := by
  simp only [State.gAcc, if_neg (Nat.not_lt.2 lo)]

theorem State.gAcc_crd (lo : s.gEa n ra i ≤ 0xFFF) : s.gAcc n .crd rd ra i false =
    (s.setG n rd (s.pageRead (3 + n.val) (localPage n (s.gEa n ra i)) (localOff (s.gEa n ra i)))).gNext n 3 := by
  simp only [State.gAcc, if_neg (Nat.not_lt.2 lo)]

theorem State.gAcc_cwr (lo : s.gEa n ra i ≤ 0xFFF) : s.gAcc n .cwr rd ra i false =
    (s.gNext n 3).pageWrite (fun s => s) (3 + n.val) (localPage n (s.gEa n ra i)) (localOff (s.gEa n ra i)) (s.gv n rd) := by
  simp only [State.gAcc, if_neg (Nat.not_lt.2 lo)]

theorem State.gAcc_brd {w : Word} {u : State} (h : s.busRead (3 + n.val) (s.gEa n ra i % 2 ^ 24) = (w, u)) :
    s.gAcc n .brd rd ra i false = (u.setG n rd w).gNext n 3 := by
  simp only [State.gAcc, h]

theorem State.gAcc_jpost (lo : s.gEa n ra i ≤ 0xFF8) : s.gAcc n .jpost rd ra i false = s.gJpost n rd (s.gEa n ra i) := by
  simp only [State.gAcc, if_neg (Nat.not_lt.2 lo), Bool.false_eq_true, if_false]

theorem State.byte_of_mem {s t : State} (e : t.mem = s.mem) (a : Nat) : t.byte a = s.byte a := by rw [State.byte, e, State.byte]

theorem State.memWord_of_mem {s t : State} (e : t.mem = s.mem) (a : Nat) : t.memWord a = s.memWord a := by
  simp only [State.memWord, State.byte_of_mem e]

/-- The end of an instruction does not look at the memory windows. -/
theorem State.gNext_withMem (s : State) (m : List Host.Cell) (n : Ch) (k : Nat) : { ({ s with mem := m } : State).gNext n k with mem := s.mem } = s.gNext n k := rfl

/-- A store changes its word of data RAM, and the core goes on. -/
theorem State.gNext_setMemWord (a : Nat) (w : Word) (k : Nat) : ((s.setMemWord a w).gNext n k).memWord a = w ∧
    MemKept a (a + 4) s ((s.setMemWord a w).gNext n k) ∧ ((s.setMemWord a w).gNext n k).gpc n = (s.gpc n + 1) % 2 ^ 14 ∧
    OnlyChan n [R.GRV_STATUS_PC.at n.val] s { (s.setMemWord a w).gNext n k with mem := s.mem } := by
  have kept : ((s.setMemWord a w).gNext n k).mem = (s.setMemWord a w).mem := rfl
  refine ⟨?word, ?bytes, ?pc, ?only⟩
  case word => rw [State.memWord_of_mem kept, State.memWord_setMemWord]
  case bytes => exact fun b h => (State.byte_of_mem kept b).trans (s.byte_setMemWord_ne a b w h)
  case pc => exact State.gpc_gNext (s.setMemWord a w) n k
  case only =>
    have same : { (s.setMemWord a w).gNext n k with mem := s.mem } = s.gNext n k := State.gNext_withMem s (s.setMemWord a w).mem n k
    rw [same]
    exact State.gNext_onlyChan (OnlyChan.refl n _ s) (by simp) k

/-! ### Messages (R324) -/

theorem State.gMsg_unsent {k : Nat} (room : (s.gv n rb).toNat + k ≤ 0x1000) (full : s.domOn dLink = false ∨ 4 ≤ (s.grv n).sends.length) :
    s.gMsg n rd ra rb k false = (s.setG n rd 0xFFFFFFFF#32).gNext n 3 := by
  simp only [State.gMsg, if_neg (Nat.not_lt.2 room), Bool.false_eq_true, if_false, if_pos full]

theorem State.gMsg_sent {k tg : Nat} {u : State} (room : (s.gv n rb).toNat + k ≤ 0x1000) (on : s.domOn dLink = true)
    (free : (s.grv n).sends.length < 4) (single : (s.gv n ra).toNat % 1024 ≠ 0x3FF)
    (sent : s.request (fromGrove n.val) (3 + n.val) (.grove n.val) (reqPkt s.nodeId 2 2 ((s.gv n ra).toNat % 1024) false
      (wd ((s.gv n ra).toNat / 4096 % 4)) (4 * k) ((List.range k).map fun j => s.memWord (dramAddr n.val ((s.gv n rb).toNat + j)))) =
      some (tg, u)) :
    s.gMsg n rd ra rb k false = ((u.modGrv n fun g => { g with sends := tg :: g.sends }).setG n rd (wd tg)).gNext n 3 := by
  have queued : ¬(s.domOn dLink = false ∨ 4 ≤ (s.grv n).sends.length) := by simp [on, free]
  simp only [State.gMsg, if_neg (Nat.not_lt.2 room), Bool.false_eq_true, if_false, if_neg queued, if_neg single, decide_eq_false single, State.gData, sent]

end

/-- Settles O29: each access within its bounds. -/
theorem groveAccessInstructions : Obligations.GroveAccessInstructions := by
  unfold Obligations.GroveAccessInstructions
  rintro n rd ra rb i s a rfl
  refine ⟨?ld, ?st, ?nrd, ?nwr, ?crd, ?cwr, ?brd, ?bwr, ?jpost, ?unsent, ?sent⟩
  case ld =>
    intro h lo
    refine State.issued (Q := GroveDone n rd _ _ s) false ?_ h
    rw [State.gDo, State.gAcc_ld lo]
    exact State.setG_gNext_done _ 2
  case st =>
    intro h lo
    refine ⟨_, State.issue_of_issues h false, ?_⟩
    rw [State.gDo, State.gAcc_st lo]
    exact State.gNext_setMemWord _ _ 2
  case nrd =>
    intro h lo
    refine State.issued (Q := GroveDone n rd _ _ s) false ?_ h
    rw [State.gDo, State.gAcc_nrd lo]
    exact State.setG_gNext_done _ 2
  case nwr => exact fun h lo => (State.issue_of_issues h false).trans (congrArg _ (State.gAcc_nwr lo))
  case crd =>
    intro h lo
    refine State.issued (Q := GroveDone n rd _ _ s) false ?_ h
    rw [State.gDo, State.gAcc_crd lo]
    exact State.setG_gNext_done _ 3
  case cwr => exact fun h lo => (State.issue_of_issues h false).trans (congrArg _ (State.gAcc_cwr lo))
  case brd => exact fun h w u read => (State.issue_of_issues h false).trans (congrArg _ (State.gAcc_brd read))
  case bwr => exact fun h => State.issue_of_issues h false
  case jpost => exact fun h lo => (State.issue_of_issues h false).trans (congrArg _ (State.gAcc_jpost lo))
  case unsent =>
    intro len h room full
    refine State.issued (Q := GroveDone n rd _ _ s) false ?_ h
    rw [State.gDo, State.gMsg_unsent (by omega) full]
    exact State.setG_gNext_done _ 3
  case sent =>
    exact fun len tg u h room on free single sent =>
      (State.issue_of_issues h false).trans (congrArg _ (State.gMsg_sent (by omega) on free single sent))

end Sys2Proof.Machine

/-! SUPPORT. O30: flow, events and watchdog of the Grove cores. -/

namespace Sys2Proof.Machine

/-! ### Bits taken from a field -/

theorem testBit_sub_and (a m i : Nat) : (a - (a &&& m)).testBit i = (a.testBit i && !m.testBit i) := by
  induction i generalizing a m with
  | zero =>
    have low : (a &&& m) % 2 = 1 ↔ a % 2 = 1 ∧ m % 2 = 1 := Nat.and_mod_two_eq_one
    have le : a &&& m ≤ a := Nat.and_le_left
    rw [Bool.eq_iff_iff]
    simp only [Nat.testBit_zero, Bool.and_eq_true, Bool.not_eq_true', decide_eq_true_eq, decide_eq_false_iff_not]
    omega
  | succ i ih =>
    have half : (a &&& m) / 2 = a / 2 &&& m / 2 := Nat.and_div_two
    have low : (a &&& m) % 2 = 1 ↔ a % 2 = 1 ∧ m % 2 = 1 := Nat.and_mod_two_eq_one
    have le : a &&& m ≤ a := Nat.and_le_left
    have step : (a - (a &&& m)) / 2 = a / 2 - (a / 2 &&& m / 2) := by omega
    rw [Nat.testBit_succ, Nat.testBit_succ, Nat.testBit_succ, step, ih]

/-- What is taken of a number's bits is gone from it. -/
theorem sub_and_and (a m : Nat) : (a - (a &&& m)) &&& m = 0 := by
  apply Nat.eq_of_testBit_eq
  intro i
  cases h : m.testBit i <;> simp [testBit_sub_and, h]

/-- A value that fits its field reads back as written. -/
theorem State.rd_wr_lt {f : Fld} {v : Nat} (h : f.ok) (lt : v < f.size) (s : State) (i : Nat) : (s.wr f i v).rd f i = v := by
  rw [s.rd_wr f i v h, Nat.mod_eq_of_lt lt]

theorem State.rd_clrBits {f : Fld} (h : f.ok) (s : State) (i m : Nat) : (s.clrBits f i m).rd f i = s.rd f i - (s.rd f i &&& m) := by
  rw [State.clrBits, s.rd_wr f i _ h]
  exact Nat.mod_eq_of_lt (Nat.lt_of_le_of_lt (Nat.sub_le _ _) (f.get_lt _))

theorem State.rd_orBits {f : Fld} (h : f.ok) (s : State) (i m : Nat) (lt : m < f.size) : (s.orBits f i m).rd f i = s.rd f i ||| m := by
  rw [State.orBits, s.rd_wr f i _ h]
  exact Nat.mod_eq_of_lt (Nat.or_lt_two_pow (f.get_lt _) lt)

theorem State.bit_orBits {f : Fld} (h : f.ok) (s : State) (i k : Nat) (lt : 2 ^ k < f.size) : (s.orBits f i (2 ^ k)).bit f i k = true := by
  rw [State.bit, s.rd_orBits h i _ lt, Nat.testBit_or, Nat.testBit_two_pow_self, Bool.or_true]

section
variable {s : State} {n : Ch} {rd ra rb : GReg} {i : GImm}

/-! ### Branches, calls and returns (R309, R312) -/

/-- The core goes on at `t`; its registers, flags and return stack are as `c` gives them. -/
def State.jumps (s : State) (n : Ch) (t : Nat) (l : List Nat) (u : State) : Prop :=
  u.gpc n = t ∧ (u.grv n).stack = l ∧ (u.grv n).g = (s.grv n).g ∧ (u.grv n).flags = (s.grv n).flags ∧
    OnlyChan n [R.GRV_STATUS_PC.at n.val] s u

theorem State.gTo_gTake (s : State) (n : Ch) (t k : Nat) : s.jumps n (t % 2 ^ 14) (s.grv n).stack ((s.gTo n t).gTake n k) := by
  have core : ((s.gTo n t).gTake n k).grv n =
      { s.grv n with past := false, busy := if (s.grv n).busy = 0 then (s.grv n).busy else (s.grv n).busy + k } := by
    simp only [State.gTo, State.gTake, State.grv_modGrv, State.grv_wr]
    split <;> rfl
  have pc : ((s.gTo n t).gTake n k).gpc n = t % 2 ^ 14 := s.rd_wr R.GRV_STATUS_PC n.val t (by decide)
  refine ⟨pc, ?stack, ?regs, ?flags, (((OnlyChan.refl n _ s).wr _ _ _ (by decide) (by simp)).modGrv _).modGrv _⟩
  all_goals rw [core]
  rfl

theorem State.setStack_jumps (s : State) (n : Ch) (l : List Nat) (t k : Nat) :
    s.jumps n (t % 2 ^ 14) l (((s.modGrv n fun g => { g with stack := l }).gTo n t).gTake n k) := by
  obtain ⟨pc, stack, regs, flags, only⟩ := (s.modGrv n fun g => { g with stack := l }).gTo_gTake n t k
  rw [State.grv_modGrv] at stack regs flags
  have first : OnlyChan n [R.GRV_STATUS_PC.at n.val] s (s.modGrv n fun g => { g with stack := l }) := (OnlyChan.refl n _ s).modGrv _
  exact ⟨pc, stack, regs, flags, (((first.wr _ _ _ (by decide) (by simp)).modGrv _).modGrv _)⟩

theorem State.gCall_jumps (room : (s.grv n).stack.length < 8) (t : GAddr) :
    s.jumps n t.toNat ((s.gpc n + 1) % 2 ^ 14 :: (s.grv n).stack) (s.gCall n t) := by
  have wrap : t.toNat % 2 ^ 14 = t.toNat := Nat.mod_eq_of_lt t.isLt
  have pushed := s.setStack_jumps n ((s.gpc n + 1) % 2 ^ 14 :: (s.grv n).stack) t.toNat 2
  rw [wrap] at pushed
  rw [State.gCall, if_neg (Nat.not_le.2 room)]
  exact pushed

theorem State.gRet_jumps {r : Nat} {l : List Nat} (h : (s.grv n).stack = r :: l) : s.jumps n (r % 2 ^ 14) l (s.gRet n) := by
  simp only [State.gRet, h]
  exact s.setStack_jumps n l r 2

/-! ### WFE (R316) -/

theorem State.gWfe_pending (h : s.rd R.GRV_EVT_PEND n.val &&& (i.toNat % 2 ^ 16) ≠ 0) : s.gWfe n rd i =
    ((s.setG n rd (wd (s.rd R.GRV_EVT_PEND n.val &&& (i.toNat % 2 ^ 16)))).clrBits R.GRV_EVT_PEND n.val
      (s.rd R.GRV_EVT_PEND n.val &&& (i.toNat % 2 ^ 16))).gNext n 2 := by
  simp only [State.gWfe, if_pos h]

/-- The core waits for a bit of `m`, and BUSY_MAX takes the cycles of the run that ends. -/
def State.gWait (s : State) (n : Ch) (r m : Nat) : State :=
  (s.wrs n.val [(R.GRV_STATUS_CORE, 2),
    (R.GRV_PERF_BUSY_MAX, max (s.rd R.GRV_PERF_BUSY_MAX n.val) (min (s.grv n).busy 65535))]).modGrv n fun g => { g with wfe := some (r, m), busy := 0 }

theorem State.gWfe_waits (h : s.rd R.GRV_EVT_PEND n.val &&& (i.toNat % 2 ^ 16) = 0) : s.gWfe n rd i = s.gWait n rd.toNat (i.toNat % 2 ^ 16) := by
  simp only [State.gWfe, h, ne_eq, not_true_eq_false, if_false]
  rfl

theorem State.gWait_frame (s : State) (n : Ch) (r m : Nat) : (s.gWait n r m).core n = 2 ∧ ((s.gWait n r m).grv n).wfe = some (r, m) ∧
    (s.gWait n r m).gpc n = s.gpc n ∧ OnlyChan n [R.GRV_STATUS_CORE.at n.val, R.GRV_PERF_BUSY_MAX.at n.val] s (s.gWait n r m) := by
  refine ⟨?core, ?wfe, ?pc, ?only⟩
  case core =>
    simp (disch := decide) only [State.gWait, State.core, State.wrs, State.rd_modGrv, State.rd_wr_sep, State.rd_wr_lt]
  case wfe => rw [State.gWait, State.grv_modGrv]
  case pc => simp (disch := decide) only [State.gWait, State.gpc, State.wrs, State.rd_modGrv, State.rd_wr_sep]
  case only =>
    refine (OnlyChan.wrs (OnlyChan.refl n _ s) n.val _ ?_).modGrv _
    simp only [List.forall_mem_cons]
    exact ⟨⟨by decide, by simp⟩, ⟨by decide, by simp⟩, by simp⟩

/-! ### KICK (R321) -/

theorem State.gKick_unarmed (h : s.rd R.GRV_STATUS_WDT_ARMED n.val = 0) (v : Nat) : s.gKick n v = s.gNext n 1 := by
  have armed : (s.gNext n 1).rd R.GRV_STATUS_WDT_ARMED n.val = 0 := by
    rw [← h]; exact s.rd_wr_sep _ _ n.val _ (by decide)
  simp only [State.gKick, State.on, armed, bne_self_eq_false, Bool.not_false, if_true]

/-- A kick is accepted: the value expected next and the time. -/
theorem State.gKick_armed (h : s.rd R.GRV_STATUS_WDT_ARMED n.val ≠ 0) (v : Nat) : s.gKick n v =
    if v = (s.grv n).kick ∧ 400 * s.rd R.GRV_WDT_WMIN n.val ≤ s.now - (s.grv n).kickAt ∧
        s.now - (s.grv n).kickAt ≤ 400 * s.rd R.GRV_WDT_WMAX n.val then
      (s.gNext n 1).modGrv n fun g => { g with kick := 255 - g.kick, kickAt := s.now }
    else (s.gNext n 1).grvWdt n := by
  have kept (f : Fld) (hf : R.GRV_STATUS_PC.sep f = true) : (s.gNext n 1).rd f n.val = s.rd f n.val := s.rd_wr_sep _ _ n.val _ hf
  have armed : (s.gNext n 1).on R.GRV_STATUS_WDT_ARMED n.val = true := by
    rw [State.on, kept _ (by decide), bne_iff_ne]; exact h
  have now : (s.gNext n 1).now = s.now := rfl
  simp only [State.gKick, armed, Bool.not_true, Bool.false_eq_true, if_false, State.grv_gNext, now, kept R.GRV_WDT_WMIN (by decide),
    kept R.GRV_WDT_WMAX (by decide)]

/-! ### SEV (R318) -/

/-- One core of the mask takes event 11. -/
def sevOne (i : GImm) (c : Ch) (s : State) : State := if i.getLsbD c.val then s.grvEvent c 11 else s

theorem State.domOn_wr {f : Fld} {i : Nat} (hf : f.ok) (apart : f.apart i R.PWR_DOM_STATE_ON 0) (s : State) (v d : Nat) :
    (s.wr f i v).domOn d = s.domOn d := by
  rw [State.domOn, State.bit, s.rd_wr_ne f _ i 0 v hf (by decide) apart]
  rfl

theorem State.chOn_grvEvent (s : State) (c d : Ch) (b : Nat) : (s.grvEvent c b).chOn d = s.chOn d := by
  have apart : ∀ c : Ch, R.GRV_EVT_PEND.apart c.val R.PWR_DOM_STATE_ON 0 := by decide
  unfold State.grvEvent State.whenCh
  split
  · exact s.domOn_wr (by decide) (apart c) _ d.val
  · rfl

theorem State.grvEvent_pend (s : State) (c d : Ch) (b : Nat) (lt : 2 ^ b < R.GRV_EVT_PEND.size) : (s.grvEvent c b).rd R.GRV_EVT_PEND d.val =
    if c = d ∧ s.chOn c = true then s.rd R.GRV_EVT_PEND d.val ||| 2 ^ b else s.rd R.GRV_EVT_PEND d.val := by
  have apart : ∀ c d : Ch, c ≠ d → R.GRV_EVT_PEND.apart c.val R.GRV_EVT_PEND d.val := by decide
  cases on : s.chOn c with
  | false => rw [State.grvEvent, State.whenCh_off on, if_neg (by simp)]
  | true =>
    rw [State.grvEvent, State.whenCh_on on]
    by_cases same : c = d
    · rw [if_pos ⟨same, rfl⟩, ← same, s.rd_orBits (by decide) c.val _ lt]
    · rw [if_neg (same ·.1), State.orBits, s.rd_wr_ne _ _ _ _ _ (by decide) (by decide) (apart c d same)]

theorem sevOne_pend (i : GImm) (c d : Ch) (s : State) : (sevOne i c s).rd R.GRV_EVT_PEND d.val =
    if c = d ∧ s.chOn c = true ∧ i.getLsbD c.val = true then s.rd R.GRV_EVT_PEND d.val ||| 2 ^ 11 else s.rd R.GRV_EVT_PEND d.val := by
  unfold sevOne
  cases i.getLsbD c.val with
  | false => simp
  | true => simpa using s.grvEvent_pend c d 11 (by decide)

theorem sevOne_chOn (i : GImm) (c d : Ch) (s : State) : (sevOne i c s).chOn d = s.chOn d := by
  unfold sevOne
  split
  · exact s.chOn_grvEvent c d 11
  · rfl

/-- Each core takes the event of its own turn alone. -/
theorem State.forCh_sevOne (i : GImm) (c : Ch) (s : State) : (s.forCh (sevOne i)).rd R.GRV_EVT_PEND c.val = (sevOne i c s).rd R.GRV_EVT_PEND c.val := by
  have turns : ∀ c : Ch, c = 0 ∨ c = 1 ∨ c = 2 ∨ c = 3 := by decide
  unfold State.forCh
  rcases turns c with rfl | rfl | rfl | rfl <;> simp only [sevOne_pend, sevOne_chOn, Fin.reduceEq, false_and, true_and, if_false]

theorem State.gSev_frame (s : State) (n : Ch) (i : GImm) : (s.gSev n i).gpc n = (s.gpc n + 1) % 2 ^ 14 ∧
    ∀ c : Ch, (s.gSev n i).rd R.GRV_EVT_PEND c.val = (sevOne i c s).rd R.GRV_EVT_PEND c.val := by
  have apart : ∀ c : Ch, R.GRV_STATUS_PC.apart n.val R.GRV_EVT_PEND c.val := by revert n; decide
  have pend : ∀ c d : Ch, R.GRV_EVT_PEND.apart c.val R.GRV_STATUS_PC d.val := by decide
  have kept (c : Ch) (t : State) (h : t.gpc n = s.gpc n) : (sevOne i c t).gpc n = s.gpc n := by
    unfold sevOne State.grvEvent State.whenCh
    split
    · split
      · exact (t.rd_wr_ne _ _ _ _ _ (by decide) (by decide) (pend c n)).trans h
      · exact h
    · exact h
  have pc : (s.forCh (sevOne i)).gpc n = s.gpc n := kept 3 _ (kept 2 _ (kept 1 _ (kept 0 s rfl)))
  have unfolded : s.gSev n i = (s.forCh (sevOne i)).gNext n 1 := rfl
  refine ⟨?_, fun c => ?_⟩
  · rw [unfolded, State.gpc_gNext, pc]
  · rw [unfolded, ← s.forCh_sevOne i c]
    exact (s.forCh (sevOne i)).rd_wr_ne _ _ _ _ _ (by decide) (by decide) (apart c)

/-! ### TSET and STOP -/

theorem State.gStop_frame (s : State) (n : Ch) : (s.gStop n).core n = 0 ∧ (s.gStop n).rd R.GRV_IRQ_STOPPED n.val = 1 ∧
    (s.gStop n).gpc n = (s.gpc n + 1) % 2 ^ 14 ∧ (s.gStop n).rd R.GRV_STATUS_WDT_ARMED n.val = s.rd R.GRV_STATUS_WDT_ARMED n.val ∧
    OnlyChan n [R.GRV_STATUS_PC.at n.val, R.GRV_STATUS_CORE.at n.val, R.GRV_IRQ_STOPPED.at n.val] s (s.gStop n) := by
  refine ⟨?core, ?irq, ?pc, ?wdt, ?only⟩
  case core => simp (disch := decide) only [State.gStop, State.core, State.wrs, State.rd_wr_sep, State.rd_wr_lt]
  case irq => simp (disch := decide) only [State.gStop, State.wrs, State.rd_wr_lt]
  case pc =>
    rw [← s.gpc_gNext n 1]
    simp (disch := decide) only [State.gStop, State.gpc, State.wrs, State.rd_wr_sep]
  case wdt =>
    have next : (s.gNext n 1).rd R.GRV_STATUS_WDT_ARMED n.val = s.rd R.GRV_STATUS_WDT_ARMED n.val := s.rd_wr_sep _ _ n.val _ (by decide)
    rw [← next]
    simp (disch := decide) only [State.gStop, State.wrs, State.rd_wr_sep]
  case only =>
    refine OnlyChan.wrs (State.gNext_onlyChan (OnlyChan.refl n _ s) (by simp) 1) n.val _ ?_
    simp only [List.forall_mem_cons]
    exact ⟨⟨by decide, by simp⟩, ⟨by decide, by simp⟩, by simp⟩

end

theorem gCond_codes (g : Grv) : gCond g 0 = true ∧ gCond g 1 = g.z ∧ gCond g 2 = !g.z ∧ gCond g 3 = (g.n != g.v) ∧ gCond g 4 = (g.n == g.v) ∧
    gCond g 7 = !g.c ∧ gCond g 8 = g.c := ⟨rfl, rfl, rfl, rfl, rfl, rfl, rfl⟩

/-- Settles O30: each instruction is issued and ends as its lemma above says. -/
theorem groveFlowInstructions : Obligations.GroveFlowInstructions := by
  unfold Obligations.GroveFlowInstructions
  intro n rd ra s
  refine ⟨?b, gCond_codes _, ?call, ?ret, ?jr, ?wfe, ?unarmed, ?kick, ?tset, ?sev, fun h => ⟨_, State.issue_of_issues h false, s.gStop_frame n⟩⟩
  case b =>
    intro c t' h
    refine ⟨fun taken => ⟨_, State.issue_of_issues h false, ?_⟩, fun passed => ⟨_, State.issue_of_issues h false, ?_⟩⟩
    · obtain ⟨pc, stack, regs, flags, only⟩ := s.gTo_gTake n t'.toNat 2
      simp only [State.gDo, taken, if_true]
      exact ⟨pc.trans (Nat.mod_eq_of_lt t'.isLt), only, regs, flags, stack⟩
    · simp only [State.gDo, passed, Bool.false_eq_true, if_false]
      exact State.gNext_ran 1
  case call =>
    intro t' h room
    obtain ⟨pc, stack, regs, flags, only⟩ := State.gCall_jumps room t'
    exact ⟨_, State.issue_of_issues h false, pc, stack, regs, flags, only⟩
  case ret =>
    intro r l h stands
    obtain ⟨pc, stack, regs, flags, only⟩ := State.gRet_jumps stands
    exact ⟨_, State.issue_of_issues h false, pc, stack, regs, flags, only⟩
  case jr =>
    intro h
    obtain ⟨pc, stack, regs, flags, only⟩ := s.gTo_gTake n ((s.gv n ra).toNat % 2 ^ 14) 2
    exact ⟨_, State.issue_of_issues h false, pc.trans (Nat.mod_mod _ _), regs, flags, stack, only⟩
  case wfe =>
    rintro i v h rfl
    refine ⟨fun pends => ⟨_, State.issue_of_issues h false, ?_⟩, fun none => ⟨_, State.issue_of_issues h false, ?_⟩⟩
    · rw [State.gDo, State.gWfe_pending pends]
      refine ⟨?own, ?pc, ?taken, State.gNext_onlyChan (((OnlyChan.refl n _ s).setG _ _).wr _ _ _ (by decide) (by simp)) (by simp) 2⟩
      case own =>
        rw [State.gv_eq, State.grv_gNext]
        show ((State.setG s n rd _).grv n).reg rd = _
        rw [State.grv_setG, Grv.reg_put_self]
      case pc =>
        rw [State.gpc_gNext]
        have kept : ∀ t : State, (t.clrBits R.GRV_EVT_PEND n.val (s.rd R.GRV_EVT_PEND n.val &&& (i.toNat % 2 ^ 16))).gpc n = t.gpc n :=
          fun t => t.rd_wr_sep _ _ n.val _ (by decide)
        rw [kept, State.gpc, State.rd_setG]
        rfl
      case taken =>
        have end_kept (t : State) : (t.gNext n 2).rd R.GRV_EVT_PEND n.val = t.rd R.GRV_EVT_PEND n.val := t.rd_wr_sep _ _ n.val _ (by decide)
        rw [end_kept, State.rd_clrBits (by decide)]
        exact sub_and_and _ _
    · rw [State.gDo, State.gWfe_waits none]
      exact s.gWait_frame n _ _
  case unarmed =>
    intro h free
    refine ⟨_, State.issue_of_issues h false, ?_⟩
    rw [State.gDo, State.gKick_unarmed free]
    exact State.gNext_ran 1
  case kick =>
    rintro d h armed rfl
    refine ⟨fun inside => ⟨_, State.issue_of_issues h false, ?_⟩, fun outside => ?_⟩
    · rw [State.gDo, State.gKick_armed armed, if_pos inside]
      refine ⟨?_, ?_, s.gpc_gNext n 1, (State.gNext_onlyChan (OnlyChan.refl n _ s) (by simp) 1).modGrv _⟩ <;>
        rw [State.grv_modGrv, State.grv_gNext]
    · rw [exec, execKick, State.issue_of_issues h false, State.gDo, State.gKick_armed armed, if_neg outside]
      rfl
  case tset =>
    intro i h
    refine ⟨_, State.issue_of_issues h false, ?tmr, ?regs, ?pc, State.gNext_onlyChan ((OnlyChan.refl n _ s).modGrv _) (by simp) 1⟩
    case pc => exact State.gpc_gNext _ n 1
    all_goals
      simp only [State.gDo, State.gTset]
      rw [State.grv_gNext, State.grv_modGrv]
  case sev =>
    intro i h
    obtain ⟨pc, pend⟩ := s.gSev_frame n i
    refine ⟨_, State.issue_of_issues h false, pc, fun c named on => ?_, fun c other => ?_⟩
    · rw [State.gDo, State.bit, pend, sevOne_pend, if_pos ⟨rfl, on, named⟩, Nat.testBit_or]
      exact Bool.or_true _
    · rw [State.gDo, pend, sevOne_pend, if_neg]
      rintro ⟨-, on, named⟩
      rcases other with out | off
      · exact Bool.noConfusion (out.symm.trans named)
      · exact Bool.noConfusion (off.symm.trans on)

end Sys2Proof.Machine

/-! SUPPORT. O31: exceptions of the Grove cores; frames of the commands that end in a raise. -/

namespace Sys2Proof.Machine

/-! ### Frames that end in a raise -/

theorem Settled.mono {l m : List (Nat × Word)} {s t : State} (h : Settled l s t) (sub : ∀ e ∈ l, e ∈ m) : Settled m s t := by
  refine ⟨h.1.mono fun a => ?_, h.2⟩
  have covered : maskAt l a &&& ~~~ maskAt m a = 0#32 := by
    clear h
    induction l with
    | nil => exact BitVec.zero_and
    | cons e l ih =>
      have rest := ih fun x hx => sub x (List.mem_cons_of_mem _ hx)
      rw [maskAt_cons]
      split
      · next at_a =>
        have own := maskAt_mem (sub e List.mem_cons_self)
        rw [at_a] at own
        rw [BitVec.and_or_distrib_right, own, rest]
        rfl
      · exact rest
  ext i hi
  have bit := congrArg (·.getLsbD i) covered
  simp only [← BitVec.getLsbD_eq_getElem, BitVec.getLsbD_and, BitVec.getLsbD_not, BitVec.getLsbD_or, BitVec.getLsbD_zero, hi] at bit ⊢
  cases h1 : (settleBits a).getLsbD i <;> cases h2 : (maskAt m a).getLsbD i <;> simp_all

/-- A write of registers alone stands within the frame of what a raise reaches. -/
theorem OnlyRegs.settled {l : List (Nat × Word)} {s t : State} (h : OnlyRegs l s t) : Settled l s t := by
  obtain ⟨regs, mem, rest⟩ := h
  refine ⟨regs.mono fun a => ?_, ?_⟩
  · ext i hi
    simp only [← BitVec.getLsbD_eq_getElem, BitVec.getLsbD_and, BitVec.getLsbD_not, BitVec.getLsbD_or, BitVec.getLsbD_zero, hi]
    cases (maskAt l a).getLsbD i <;> simp
  · have t_still : t.still = { t.rest.still with mem := t.mem } := rfl
    have s_still : s.still = { s.rest.still with mem := s.mem } := rfl
    rw [t_still, s_still, rest, mem]

/-- A field of a channel that the settling does not reach reads as before. -/
theorem Settled.rd_ch {s t : State} (h : Settled [] s t) {f : Fld} (hf : f.ok) (c : ∀ n : Ch, f.mask &&& (settleBits (f.addr n.val) ||| 0#32) = 0#32)
    (n : Ch) : t.rd f n.val = s.rd f n.val := h.rd f n.val hf (c n)

/-! ### The exception (R322) -/

/-- The registers that an exception writes. -/
def State.gExcRegs (s : State) (n : Ch) (cause : Nat) : State :=
  (if s.on R.GRV_EXC_VALID n.val then s
    else s.wrs n.val [(R.GRV_EXC_VALID, 1), (R.GRV_EXC_CAUSE, cause), (R.GRV_EXC_PC, s.gpc n)]).wrs n.val [(R.GRV_STATUS_CORE, 3), (R.GRV_IRQ_EXC, 1)]

theorem State.gExc_eq (s : State) (n : Ch) (cause : Nat) : s.gExc n cause = ((s.gExcRegs n cause).raiseCh n oGrvExc 0).settleAll := rfl

theorem State.gExc_settled (s : State) (n : Ch) (cause : Nat) : Settled [] (s.gExcRegs n cause) (s.gExc n cause) := by
  rw [State.gExc_eq]
  exact ((Settled.refl [] _).raise _ _).settleAll

/-- The fields that an exception writes. -/
def excFields (n : Ch) : List (Nat × Word) :=
  [R.GRV_EXC_VALID.at n.val, R.GRV_EXC_CAUSE.at n.val, R.GRV_EXC_PC.at n.val, R.GRV_STATUS_CORE.at n.val, R.GRV_IRQ_EXC.at n.val]

theorem State.gExcRegs_only (s : State) (n : Ch) (cause : Nat) : OnlyRegs (excFields n) s (s.gExcRegs n cause) := by
  have capture : OnlyRegs (excFields n) s (if s.on R.GRV_EXC_VALID n.val then s
      else s.wrs n.val [(R.GRV_EXC_VALID, 1), (R.GRV_EXC_CAUSE, cause), (R.GRV_EXC_PC, s.gpc n)]) := by
    refine (OnlyRegs.refl _ s).ite (OnlyRegs.wrs (OnlyRegs.refl _ s) n.val _ ?_)
    simp only [List.forall_mem_cons]
    exact ⟨⟨by decide, by simp [excFields]⟩, ⟨by decide, by simp [excFields]⟩, ⟨by decide, by simp [excFields]⟩, by simp⟩
  refine OnlyRegs.wrs capture n.val _ ?_
  simp only [List.forall_mem_cons]
  exact ⟨⟨by decide, by simp [excFields]⟩, ⟨by decide, by simp [excFields]⟩, by simp⟩

/-- The exception shows, and the first one is captured. -/
theorem State.gExcRegs_shows (s : State) (n : Ch) {cause : Nat} (small : cause < 16) :
    (s.gExcRegs n cause).core n = 3 ∧ (s.gExcRegs n cause).rd R.GRV_IRQ_EXC n.val = 1 ∧ (s.gExcRegs n cause).gpc n = s.gpc n ∧
    (s.gExcRegs n cause).rd R.GRV_EXC_VALID n.val = 1 ∧
    (s.rd R.GRV_EXC_VALID n.val = 0 → (s.gExcRegs n cause).rd R.GRV_EXC_CAUSE n.val = cause ∧ (s.gExcRegs n cause).rd R.GRV_EXC_PC n.val = s.gpc n) ∧
    (s.rd R.GRV_EXC_VALID n.val ≠ 0 → (s.gExcRegs n cause).rd R.GRV_EXC_CAUSE n.val = s.rd R.GRV_EXC_CAUSE n.val) := by
  have pc : s.rd R.GRV_STATUS_PC n.val < R.GRV_EXC_PC.size := Fld.get_lt R.GRV_STATUS_PC _
  have code : cause < R.GRV_EXC_CAUSE.size := small
  have valid : s.rd R.GRV_EXC_VALID n.val < 2 := Fld.get_lt R.GRV_EXC_VALID _
  unfold State.gExcRegs State.core State.gpc State.on
  by_cases free : s.rd R.GRV_EXC_VALID n.val = 0
  · simp (disch := decide) only [free, bne_self_eq_false, Bool.false_eq_true, if_false, State.wrs, State.rd_wr_sep, State.rd_wr_lt,
      State.rd_wr_lt _ code, State.rd_wr_lt _ pc, true_implies, not_true_eq_false, ne_eq, false_implies, and_self]
  · have one : s.rd R.GRV_EXC_VALID n.val = 1 := by omega
    simp (disch := decide) only [one, State.wrs, State.rd_wr_sep, State.rd_wr_lt, bne_iff_ne, ne_eq, one_ne_zero, not_false_eq_true, if_true,
      true_implies, false_implies, and_self]

/-- The captured cause stands, and the core is in EXCEPTION with PC at the instruction. -/
theorem State.gExc_shows (s : State) (n : Ch) {cause : Nat} (small : cause < 16) :
    (s.gExc n cause).core n = 3 ∧ (s.gExc n cause).rd R.GRV_IRQ_EXC n.val = 1 ∧ (s.gExc n cause).gpc n = s.gpc n ∧
    (s.gExc n cause).rd R.GRV_EXC_VALID n.val = 1 ∧
    (s.rd R.GRV_EXC_VALID n.val = 0 → (s.gExc n cause).rd R.GRV_EXC_CAUSE n.val = cause ∧ (s.gExc n cause).rd R.GRV_EXC_PC n.val = s.gpc n) ∧
    (s.rd R.GRV_EXC_VALID n.val ≠ 0 → (s.gExc n cause).rd R.GRV_EXC_CAUSE n.val = s.rd R.GRV_EXC_CAUSE n.val) := by
  have raised := s.gExc_settled n cause
  have core : (s.gExc n cause).core n = (s.gExcRegs n cause).core n := raised.rd_ch (by decide) (by decide) n
  have pc : (s.gExc n cause).gpc n = (s.gExcRegs n cause).gpc n := raised.rd_ch (by decide) (by decide) n
  have irq := raised.rd_ch (f := R.GRV_IRQ_EXC) (by decide) (by decide) n
  have valid := raised.rd_ch (f := R.GRV_EXC_VALID) (by decide) (by decide) n
  have code := raised.rd_ch (f := R.GRV_EXC_CAUSE) (by decide) (by decide) n
  have at_pc := raised.rd_ch (f := R.GRV_EXC_PC) (by decide) (by decide) n
  rw [core, pc, irq, valid, code, at_pc]
  exact s.gExcRegs_shows n small

/-! ### Where exceptions are taken -/

section
variable {s : State} {n : Ch}

theorem execIllegalOpcode_idle (h : s.chOn n = false ∨ s.core n ≠ 1 ∨ s.frozen n = true) (e : Bool) : exec (.illegalOpcode n e) s = .next s := by
  rw [exec, execIllegalOpcode]
  cases on : s.chOn n with
  | false => rw [State.whenCh_off on]
  | true =>
    have still : ¬(s.core n = 1 ∧ s.frozen n = false) := by
      rintro ⟨runs, thawed⟩
      simp [on, runs, thawed] at h
    rw [State.whenCh_on on, if_neg still]

theorem execIllegalOpcode_runs (on : s.chOn n = true) (runs : s.core n = 1) (thawed : s.frozen n = false) (e : Bool) : exec (.illegalOpcode n e) s =
    .next (if s.breaks n then s.freeze n else if e then s.gFetchEcc n else if (gDecode (s.gFetch n)).isNone then s.gExc n 1 else s) := by
  rw [exec, execIllegalOpcode, State.whenCh_on on, if_pos ⟨runs, thawed⟩]

/-- An access that leaves its range takes its exception. -/
theorem State.gAcc_beyond {rd ra : GReg} {i : GImm} (e : Bool) :
    (0xFFF < s.gEa n ra i → s.gAcc n .ld rd ra i e = s.gExc n 2 ∧ s.gAcc n .st rd ra i e = s.gExc n 2 ∧ s.gAcc n .crd rd ra i e = s.gExc n 4 ∧
      s.gAcc n .cwr rd ra i e = s.gExc n 4) ∧
    (0xFF < s.gEa n ra i → s.gAcc n .nrd rd ra i e = s.gExc n 3 ∧ s.gAcc n .nwr rd ra i e = s.gExc n 3) :=
  ⟨fun h => ⟨if_pos h, if_pos h, if_pos h, if_pos h⟩, fun h => ⟨if_pos h, if_pos h⟩⟩

end

/-- Settles O31: the exception's registers survive its raise, and each fault of an instruction takes it. -/
theorem groveExceptionsTaken : Obligations.GroveExceptionsTaken := by
  unfold Obligations.GroveExceptionsTaken
  rintro n rd ra i s a rfl
  refine ⟨?exc, ?illegal, ?breaks, ?fetch, fun h e => execIllegalOpcode_idle h e, ?ld, ?st, ?nrd, ?nwr, ?crd, ?cwr, ?ecc, ?call, ?ret⟩
  case exc =>
    intro cause small
    obtain ⟨core, irq, pc, valid, first, later⟩ := s.gExc_shows n small
    exact ⟨core, irq, pc, valid, first, later, (s.gExcRegs_only n cause).settled.trans ((s.gExc_settled n cause).mono (by simp))⟩
  case illegal =>
    intro on runs thawed unbroken undecoded
    rw [execIllegalOpcode_runs on runs thawed, unbroken, undecoded]
    rfl
  case breaks =>
    intro on runs thawed broken e
    rw [execIllegalOpcode_runs on runs thawed, broken]
    rfl
  case fetch =>
    intro on runs thawed unbroken
    rw [execIllegalOpcode_runs on runs thawed, unbroken]
    rfl
  case ld => exact fun h far e => (State.issue_of_issues h e).trans (congrArg Host.Outcome.next ((State.gAcc_beyond e).1 far).1)
  case st => exact fun h far => (State.issue_of_issues h false).trans (congrArg Host.Outcome.next ((State.gAcc_beyond false).1 far).2.1)
  case nrd => exact fun h far => (State.issue_of_issues h false).trans (congrArg Host.Outcome.next ((State.gAcc_beyond false).2 far).1)
  case nwr => exact fun h far => (State.issue_of_issues h false).trans (congrArg Host.Outcome.next ((State.gAcc_beyond false).2 far).2)
  case crd => exact fun h far => (State.issue_of_issues h false).trans (congrArg Host.Outcome.next ((State.gAcc_beyond false).1 far).2.2.1)
  case cwr => exact fun h far => (State.issue_of_issues h false).trans (congrArg Host.Outcome.next ((State.gAcc_beyond false).1 far).2.2.2)
  case ecc =>
    intro h near
    exact (State.issue_of_issues h true).trans (congrArg Host.Outcome.next ((if_neg (Nat.not_lt.2 near)).trans (if_pos rfl)))
  case call => exact fun t' h full => (State.issue_of_issues h false).trans (congrArg Host.Outcome.next (if_pos full))
  case ret =>
    intro h empty
    refine (State.issue_of_issues h false).trans (congrArg Host.Outcome.next ?_)
    simp only [State.gDo, State.gRet, empty]

end Sys2Proof.Machine

/-! SUPPORT. O32: the commands of the host and of debug to a Grove core. -/

namespace Sys2Proof.Machine

/-! ### Words of a memory window -/

theorem State.setMemWords_cons (s : State) (a : Nat) (w : Word) (l : List Word) :
    s.setMemWords a (w :: l) = (s.setMemWord a w).setMemWords (a + 4) l := rfl

theorem State.byte_setMemWords_ne (s : State) (a b : Nat) (l : List Word) (h : b < a ∨ a + 4 * l.length ≤ b) :
    (s.setMemWords a l).byte b = s.byte b := by
  induction l generalizing s a with
  | nil => rfl
  | cons w l ih =>
    rw [List.length_cons] at h
    rw [State.setMemWords_cons, ih _ _ (by omega), s.byte_setMemWord_ne a b w (by omega)]

theorem State.memWord_setMemWords_ne (s : State) (a b : Nat) (l : List Word) (h : b + 4 ≤ a ∨ a + 4 * l.length ≤ b) :
    (s.setMemWords a l).memWord b = s.memWord b := by
  simp only [State.memWord]
  rw [s.byte_setMemWords_ne a b l (by omega), s.byte_setMemWords_ne a (b + 1) l (by omega), s.byte_setMemWords_ne a (b + 2) l (by omega),
    s.byte_setMemWords_ne a (b + 3) l (by omega)]

theorem State.memWord_setMemWords (s : State) (a j : Nat) (l : List Word) (h : j < l.length) :
    (s.setMemWords a l).memWord (a + 4 * j) = l.getD j 0#32 := by
  induction l generalizing s a j with
  | nil => exact absurd h (Nat.not_lt_zero j)
  | cons w l ih =>
    rw [State.setMemWords_cons]
    cases j with
    | zero =>
      show ((s.setMemWord a w).setMemWords (a + 4) l).memWord a = w
      rw [State.memWord_setMemWords_ne _ _ _ _ (.inl (Nat.le_refl _)), State.memWord_setMemWord]
    | succ j =>
      have next : a + 4 * (j + 1) = a + 4 + 4 * j := by omega
      rw [next, ih _ _ _ (Nat.lt_of_succ_lt_succ h), List.getD_cons_succ]

theorem State.byte_clearMem (s : State) (lo hi a : Nat) :
    (s.clearMem lo hi).byte a = if lo ≤ a ∧ a < hi then memReset a else s.byte a := by
  have cleared := mapGet_mapClear memReset s.mem (fun a => decide (lo ≤ a) && decide (a < hi)) a
  simp only [Bool.and_eq_true, decide_eq_true_eq] at cleared
  exact cleared

theorem romProgram_length (id : Nat) : (romProgram id).length ≤ 0x4000 := by
  have fits : romKeepalive.length ≤ 0x4000 ∧ romLimiter.length ≤ 0x4000 ∧ romHostwatch.length ≤ 0x4000 := by decide
  obtain ⟨keepalive, limiter, hostwatch⟩ := fits
  unfold romProgram
  split
  · rwa [List.length_map]
  · rwa [List.length_map]
  · rwa [List.length_map]
  · exact Nat.zero_le _

/-- Program RAM of channel `n` holds the ROM program `id` from word 0 on, and 0 after it (R329). -/
def State.romLoaded (s : State) (n : Ch) (id : Nat) : State :=
  (s.clearMem (pramAddr n.val 0) (pramAddr n.val 0x4000)).setMemWords (pramAddr n.val 0) (romProgram id)

theorem State.romLoaded_word (s : State) (n : Ch) (id j : Nat) (h : j < 0x4000) :
    (s.romLoaded n id).memWord (pramAddr n.val j) = (romProgram id).getD j 0#32 := by
  have at_j : pramAddr n.val j = pramAddr n.val 0 + 4 * j := by unfold pramAddr; omega
  have top : n.val < 4 := n.isLt
  rw [State.romLoaded, at_j]
  by_cases inside : j < (romProgram id).length
  · exact State.memWord_setMemWords _ _ _ _ inside
  · have zero (k : Nat) (hk : k < 4) :
        (s.clearMem (pramAddr n.val 0) (pramAddr n.val 0x4000)).byte (pramAddr n.val 0 + 4 * j + k) = 0#8 := by
      rw [State.byte_clearMem, if_pos (by unfold pramAddr; omega), memReset, if_neg (by unfold pramAddr; omega)]
    have cleared : (s.clearMem (pramAddr n.val 0) (pramAddr n.val 0x4000)).memWord (pramAddr n.val 0 + 4 * j) = 0#32 := by
      simp only [State.memWord, zero 1 (by decide), zero 2 (by decide), zero 3 (by decide)]
      have low := zero 0 (by decide)
      rw [Nat.add_zero] at low
      rw [low]
      rfl
    rw [State.memWord_setMemWords_ne _ _ _ _ (by omega), cleared, List.getD_eq_default _ _ (Nat.le_of_not_lt inside)]

theorem State.romLoaded_kept (s : State) (n : Ch) (id : Nat) : MemKept (pramAddr n.val 0) (pramAddr n.val 0x4000) s (s.romLoaded n id) := by
  intro a h
  have length := romProgram_length id
  have top : pramAddr n.val 0x4000 = pramAddr n.val 0 + 4 * 0x4000 := by unfold pramAddr; omega
  rw [State.romLoaded, State.byte_setMemWords_ne _ _ _ _ (by omega), State.byte_clearMem, if_neg (by omega)]

section
variable {s : State} {n : Ch}

/-! ### START, STOP and RESET (R319, R320) -/

/-- A START that is accepted runs the core, and arms the watchdog that is enabled. -/
theorem State.grvStart_accepted (halted : s.core n = 0) (idle : s.imgIdle n = true)
    (signed : s.sigReq = true → s.rd R.GRV_STATUS_IMG n.val = 2) (wdt : s.wdtOk n = true) : s.grvStart n =
      let t := (s.wrs n.val [(R.GRV_STATUS_CORE, 1), (R.GRV_EVT_PEND, 0), (R.GRV_IRQ_STARTED, 1)]).modGrv n
        fun g => { g with busy := 0, wfe := none, past := false }
      if s.on R.GRV_WDT_EN n.val then
        (t.wr R.GRV_STATUS_WDT_ARMED n.val 1).modGrv n fun g => { g with kick := 0x5A, kickAt := s.now, frozeAt := s.now }
      else t := by
  unfold State.grvStart
  rw [if_pos ⟨halted, idle, signed, wdt⟩]
  rfl

theorem State.grvStart_runs (halted : s.core n = 0) (idle : s.imgIdle n = true)
    (signed : s.sigReq = true → s.rd R.GRV_STATUS_IMG n.val = 2) (off : s.rd R.GRV_WDT_EN n.val = 0) (wdt : s.wdtOk n = true) :
    (s.grvStart n).core n = 1 ∧ (s.grvStart n).rd R.GRV_EVT_PEND n.val = 0 ∧ (s.grvStart n).rd R.GRV_IRQ_STARTED n.val = 1 ∧
      (s.grvStart n).gpc n = s.gpc n ∧
      OnlyChan n [R.GRV_STATUS_CORE.at n.val, R.GRV_EVT_PEND.at n.val, R.GRV_IRQ_STARTED.at n.val] s (s.grvStart n) := by
  have disabled : s.on R.GRV_WDT_EN n.val = false := by rw [State.on, off]; rfl
  rw [State.grvStart_accepted halted idle signed wdt, disabled]
  simp only [Bool.false_eq_true, if_false]
  refine ⟨?core, ?pend, ?irq, ?pc, (OnlyChan.wrs (OnlyChan.refl n _ s) n.val _ (by simp +decide)).modGrv _⟩
  all_goals simp (disch := decide) only [State.core, State.gpc, State.rd_modGrv, State.wrs, State.rd_wr_sep, State.rd_wr_lt]

theorem State.grvStart_arms (halted : s.core n = 0) (idle : s.imgIdle n = true)
    (signed : s.sigReq = true → s.rd R.GRV_STATUS_IMG n.val = 2) (on : s.rd R.GRV_WDT_EN n.val ≠ 0) (wdt : s.wdtOk n = true) :
    (s.grvStart n).core n = 1 ∧ (s.grvStart n).rd R.GRV_STATUS_WDT_ARMED n.val = 1 ∧ ((s.grvStart n).grv n).kick = 0x5A ∧
      ((s.grvStart n).grv n).kickAt = s.now := by
  have enabled : s.on R.GRV_WDT_EN n.val = true := bne_iff_ne.2 on
  rw [State.grvStart_accepted halted idle signed wdt, enabled]
  simp only [if_true, State.grv_modGrv, and_true, State.core, State.rd_modGrv]
  constructor <;> simp (disch := decide) only [State.rd_modGrv, State.wrs, State.rd_wr_sep, State.rd_wr_lt]

theorem State.grvIgnored_only (s : State) (n : Ch) : (s.grvIgnored n).rd R.GRV_IRQ_CMD_IGNORED n.val = 1 ∧
    OnlyRegs [R.GRV_IRQ_CMD_IGNORED.at n.val] s (s.grvIgnored n) :=
  ⟨State.rd_wr_lt (by decide) (by decide) s n.val, (OnlyRegs.refl _ s).wr _ _ _ (by decide) (by simp)⟩

theorem State.grvStop_running (free : s.stopHeld n = false) (runs : s.core n = 1) (none : (s.grv n).wfe = none) : s.grvStop n =
    s.wrs n.val [(R.GRV_STATUS_CORE, 0), (R.GRV_STATUS_WDT_ARMED, 0), (R.GRV_IRQ_STOPPED, 1)] := by
  simp only [State.grvStop, free, Bool.false_eq_true, if_false, runs, State.wfeEnd, none, true_or, if_true]
  rfl

theorem State.grvClear_cleared (s : State) (n : Ch) (pc : Nat) : (s.grvClear n pc).core n = 0 ∧ (s.grvClear n pc).rd R.GRV_EVT_PEND n.val = 0 ∧
    (s.grvClear n pc).gpc n = pc % 2 ^ 14 ∧ (∀ r, (s.grvClear n pc).gv n r = 0#32) ∧
    ((s.grvClear n pc).grv n).flags = (false, false, false, false) ∧ ((s.grvClear n pc).grv n).stack = [] ∧
    OnlyChan n [R.GRV_STATUS_CORE.at n.val, R.GRV_EVT_PEND.at n.val, R.GRV_STATUS_PC.at n.val] s (s.grvClear n pc) := by
  refine ⟨?core, ?pend, ?pc, ?regs, ?flags, ?stack, (OnlyChan.wrs (OnlyChan.refl n _ s) n.val _ (by simp +decide)).modGrv _⟩
  case core => simp (disch := decide) only [State.grvClear, State.core, State.rd_modGrv, State.wrs, State.rd_wr_sep, State.rd_wr_lt]
  case pend => simp (disch := decide) only [State.grvClear, State.rd_modGrv, State.wrs, State.rd_wr_sep, State.rd_wr_lt]
  case pc => exact State.rd_wr _ R.GRV_STATUS_PC n.val pc (by decide)
  case regs =>
    intro r
    rw [State.gv_eq, State.grvClear, State.grv_modGrv, Grv.reg]
    split
    · rfl
    · exact Vector.getElem_replicate r.isLt
  case flags => rw [State.grvClear, State.grv_modGrv]; rfl
  case stack => rw [State.grvClear, State.grv_modGrv]; rfl

/-! ### Images (R327 to R329) -/

theorem State.grvVerify_starts (halted : s.core n = 0) (idle : s.imgIdle n = true) : (s.grvVerify n).rd R.GRV_STATUS_IMG n.val = 1 ∧
    ((s.grvVerify n).grv n).img = 1 ∧ OnlyChan n [R.GRV_STATUS_IMG.at n.val] s (s.grvVerify n) := by
  rw [State.grvVerify, if_pos ⟨halted, idle⟩, State.rd_modGrv, State.grv_modGrv]
  exact ⟨State.rd_wr_lt (by decide) (by decide) s n.val, rfl, ((OnlyChan.refl n _ s).wr _ _ _ (by decide) (by simp)).modGrv _⟩

theorem State.grvLoad_starts (halted : s.core n = 0) (idle : s.imgIdle n = true) (lo : 1 ≤ s.rd R.GRV_ROM_ID n.val)
    (hi : s.rd R.GRV_ROM_ID n.val ≤ 3) : (s.grvLoad n).rd R.GRV_STATUS_IMG n.val = 1 ∧
      ((s.grvLoad n).grv n).img = 1 + s.rd R.GRV_ROM_ID n.val ∧ OnlyChan n [R.GRV_STATUS_IMG.at n.val] s (s.grvLoad n) := by
  have accepted : ¬(s.core n ≠ 0 ∨ s.imgIdle n = false) := by simp [halted, idle]
  rw [State.grvLoad, if_neg accepted, if_neg (by omega), State.rd_modGrv, State.grv_modGrv]
  exact ⟨State.rd_wr_lt (by decide) (by decide) s n.val, rfl, ((OnlyChan.refl n _ s).wr _ _ _ (by decide) (by simp)).modGrv _⟩

theorem State.grvLoad_unknown (halted : s.core n = 0) (idle : s.imgIdle n = true)
    (unknown : s.rd R.GRV_ROM_ID n.val = 0 ∨ 3 < s.rd R.GRV_ROM_ID n.val) : (s.grvLoad n).rd R.GRV_STATUS_IMG n.val = 3 ∧
      (s.grvLoad n).rd R.GRV_IMG_CAUSE n.val = 5 ∧ OnlyRegs [R.GRV_STATUS_IMG.at n.val, R.GRV_IMG_CAUSE.at n.val] s (s.grvLoad n) := by
  have accepted : ¬(s.core n ≠ 0 ∨ s.imgIdle n = false) := by simp [halted, idle]
  rw [State.grvLoad, if_neg accepted, if_pos unknown]
  refine ⟨?_, ?_, OnlyRegs.wrs (OnlyRegs.refl _ s) n.val _ (by simp +decide)⟩ <;>
    simp (disch := decide) only [State.wrs, State.rd_wr_sep, State.rd_wr_lt]

/-- The state after the checks of an image have ended with cause `c`, 0 for none (R328). -/
def State.verified (s : State) (n : Ch) (c : Nat) : State :=
  (s.wrs n.val [(R.GRV_STATUS_IMG, if c = 0 then 2 else 3), (R.GRV_IMG_CAUSE, c), (R.GRV_IRQ_VERIFY_DONE, 1)]).modGrv n fun g => { g with img := 0 }

theorem State.verified_shows (s : State) (n : Ch) {c : Nat} (small : c < 5) : ((s.verified n c).grv n).img = 0 ∧
    (s.verified n c).rd R.GRV_IRQ_VERIFY_DONE n.val = 1 ∧ (s.verified n c).rd R.GRV_IMG_CAUSE n.val = c ∧
    (s.verified n c).rd R.GRV_STATUS_IMG n.val = (if c = 0 then 2 else 3) ∧
    OnlyChan n [R.GRV_STATUS_IMG.at n.val, R.GRV_IMG_CAUSE.at n.val, R.GRV_IRQ_VERIFY_DONE.at n.val] s (s.verified n c) := by
  have cause : c < R.GRV_IMG_CAUSE.size := Nat.lt_of_lt_of_le small (by decide)
  have code : (if c = 0 then 2 else 3) < R.GRV_STATUS_IMG.size := by split <;> decide
  refine ⟨?img, ?irq, ?cause, ?code, (OnlyChan.wrs (OnlyChan.refl n _ s) n.val _ (by simp +decide)).modGrv _⟩
  case img => rw [State.verified, State.grv_modGrv]
  all_goals
    simp (disch := decide) only [State.verified, State.rd_modGrv, State.wrs, State.rd_wr_sep, State.rd_wr_lt, State.rd_wr_lt _ cause,
      State.rd_wr_lt _ code]

theorem State.signCause_cases (s : State) (blk m : List Word) : s.signCause blk m = 2 ∨ s.signCause blk m = 3 ∨
    s.signCause blk m = 0 ∧ s.hashPresent = true ∧ keyHashOk blk s.keyHash = true ∧ signatureOk blk m = true := by
  unfold State.signCause
  cases s.hashPresent <;> cases keyHashOk blk s.keyHash <;> cases signatureOk blk m <;> simp

theorem State.verifyCause_facts (s : State) (n : Ch) : s.verifyCause n < 5 ∧ (s.keysClosed = true → s.verifyCause n = 4) ∧
    (s.keysClosed = false → (s.verifyCause n = 1 ↔ s.rd R.GRV_IMG_LEN n.val = 0 ∨ 16352 < s.rd R.GRV_IMG_LEN n.val)) ∧
    (s.verifyCause n = 0 → s.hashPresent = true ∧ keyHashOk (s.memWords (pramAddr n.val 0x3FE0) 32) s.keyHash = true ∧
      signatureOk (s.memWords (pramAddr n.val 0x3FE0) 32) (s.memWords (pramAddr n.val 0) (s.rd R.GRV_IMG_LEN n.val)) = true) := by
  have checks := s.signCause_cases (s.memWords (pramAddr n.val 0x3FE0) 32) (s.memWords (pramAddr n.val 0) (s.rd R.GRV_IMG_LEN n.val))
  unfold State.verifyCause
  by_cases closed : s.keysClosed = true
  · simp [closed]
  · rw [Bool.not_eq_true] at closed
    by_cases length : s.rd R.GRV_IMG_LEN n.val = 0 ∨ 16352 < s.rd R.GRV_IMG_LEN n.val
    · simp [closed, length]
    · rcases checks with hash | sign | ⟨pass, present, key, signature⟩
      · simp [closed, length, hash]
      · simp [closed, length, sign]
      · simp [closed, length, pass, present, key, signature]

/-- What shows the end of a load of ROM program `id` (R329). -/
def State.loadWrites (s : State) (n : Ch) (id : Nat) : State :=
  (s.wrs n.val [(R.GRV_STATUS_IMG, 2), (R.GRV_STATUS_ROM_ID, id), (R.GRV_IMG_CAUSE, 0), (R.GRV_IRQ_LOAD_DONE, 1)]).modGrv n
    fun g => { g with img := 0 }

theorem State.loadWrites_shows (s : State) (n : Ch) {id : Nat} (fits : id < R.GRV_STATUS_ROM_ID.size) : ((s.loadWrites n id).grv n).img = 0 ∧
    (s.loadWrites n id).rd R.GRV_IRQ_LOAD_DONE n.val = 1 ∧ (s.loadWrites n id).rd R.GRV_STATUS_IMG n.val = 2 ∧
    (s.loadWrites n id).rd R.GRV_STATUS_ROM_ID n.val = id ∧ (s.loadWrites n id).gpc n = s.gpc n := by
  refine ⟨by rw [State.loadWrites, State.grv_modGrv], ?irq, ?code, ?id, ?pc⟩
  all_goals
    simp (disch := decide) only [State.loadWrites, State.gpc, State.rd_modGrv, State.wrs, State.rd_wr_sep, State.rd_wr_lt, State.rd_wr_lt _ fits]

/-- What the end of a load of ROM program `id` sets besides program RAM (R329). -/
def State.loadEnd (s : State) (n : Ch) (id : Nat) : State := (s.grvClear n 0).loadWrites n id

theorem State.loadEnd_shows (s : State) (n : Ch) {id : Nat} (small : id < 4) : ((s.loadEnd n id).grv n).img = 0 ∧
    (s.loadEnd n id).rd R.GRV_IRQ_LOAD_DONE n.val = 1 ∧ (s.loadEnd n id).rd R.GRV_STATUS_IMG n.val = 2 ∧
    (s.loadEnd n id).rd R.GRV_STATUS_ROM_ID n.val = id ∧ (s.loadEnd n id).gpc n = 0 := by
  have fits : id < R.GRV_STATUS_ROM_ID.size := Nat.lt_of_lt_of_le small (by decide)
  obtain ⟨-, -, cleared, -⟩ := s.grvClear_cleared n 0
  rw [Nat.zero_mod] at cleared
  obtain ⟨img, irq, code, rom, pc⟩ := (s.grvClear n 0).loadWrites_shows n fits
  exact ⟨img, irq, code, rom, pc.trans cleared⟩

theorem State.loadEnd_mem (s : State) (n : Ch) (id : Nat) : (s.loadEnd n id).mem = s.mem := by
  rw [State.loadEnd, State.loadWrites, State.modGrv, State.modCh_mem, State.wrs_mem, State.grvClear, State.modGrv, State.modCh_mem, State.wrs_mem]

/-! ### Events, counters, timers -/

theorem State.wfeEnd_waiting {r m : Nat} (h : (s.grv n).wfe = some (r, m)) : s.wfeEnd n =
    (((s.setG n (BitVec.ofNat 4 r) (wd (s.rd R.GRV_EVT_PEND n.val &&& m))).clrBits R.GRV_EVT_PEND n.val
      (s.rd R.GRV_EVT_PEND n.val &&& m)).gInc n).modGrv n fun g => { g with wfe := none } := by
  simp only [State.wfeEnd, h]

theorem State.wfeEnd_frame {r m : Nat} (h : (s.grv n).wfe = some (r, m)) : (s.wfeEnd n).gpc n = (s.gpc n + 1) % 2 ^ 14 ∧
    ((s.wfeEnd n).grv n).wfe = none ∧ OnlyChan n [R.GRV_STATUS_CORE.at n.val, R.GRV_EVT_PEND.at n.val, R.GRV_STATUS_PC.at n.val] s (s.wfeEnd n) := by
  rw [State.wfeEnd_waiting h]
  refine ⟨?pc, by rw [State.grv_modGrv], ?only⟩
  case pc =>
    simp (disch := decide) only [State.gInc, State.clrBits, State.gpc, State.rd_modGrv, State.rd_wr_sep, State.rd_wr, State.rd_setG]
    rfl
  case only =>
    exact ((((OnlyChan.refl n _ s).setG _ _).wr _ _ _ (by decide) (by simp)).wr _ _ _ (by decide) (by simp)).modGrv _ |>.modGrv _

theorem execWfeWake_wakes {r m : Nat} (on : s.chOn n = true) (h : (s.grv n).wfe = some (r, m)) (waits : s.core n = 2) (thawed : s.frozen n = false)
    (pends : s.rd R.GRV_EVT_PEND n.val &&& m ≠ 0) :
    exec (.wfeWake n) s = .next (((s.wfeEnd n).wr R.GRV_STATUS_CORE n.val 1).modGrv n fun g => { g with busy := 2 }) := by
  rw [exec, execWfeWake, State.whenCh_on on]
  simp only [h]
  rw [if_pos ⟨waits, thawed, pends⟩]

theorem execGroveTimerExpiry_counts {x : Fin 2} (on : s.chOn n = true) (live : s.grvLive n = true) (runs : ((s.grv n).tmr.get x).run = true) :
    exec (.groveTimerExpiry n x) s = .next ((s.modGrv n fun g =>
      { g with tmr := g.tmr.set x.val { (s.grv n).tmr.get x with run := ((s.grv n).tmr.get x).per } }).orBits R.GRV_EVT_PEND n.val (2 ^ (5 + x.val))) := by
  rw [exec, execGroveTimerExpiry, State.whenCh_on on]
  simp only [live, runs, Bool.and_self, if_true]
  rw [State.grvEvent, State.whenCh_on]
  exact on

/-! ### Debug (R330) -/

theorem State.whenDbg_open (isOpen : s.debugOpen = true) (sel : s.dbgCore = n) (on : s.chOn n = true) (f : Ch → State → State) :
    s.whenDbg f = f n s := by
  rw [State.whenDbg, if_pos isOpen, sel, State.whenCh_on on]

theorem State.whenDbg_closed (h : s.debugOpen = false) (f : Ch → State → State) : s.whenDbg f = s := by
  rw [State.whenDbg, if_neg (by rw [h]; exact Bool.false_ne_true)]

theorem State.freeze_thawed (h : s.frozen n = false) : (s.freeze n).frozen n = true ∧ OnlyChan n [R.GRV_STATUS_DBG_HALT.at n.val] s (s.freeze n) := by
  rw [State.freeze, if_neg (by rw [h]; exact Bool.false_ne_true)]
  refine ⟨?_, ((OnlyChan.refl n _ s).wr _ _ _ (by decide) (by simp)).modGrv _⟩
  simp (disch := decide) only [State.frozen, State.on, State.rd_modGrv, State.rd_wr_lt]
  rfl

theorem State.thaw_frozen (h : s.frozen n = true) : (s.thaw n).frozen n = false ∧
    ((s.thaw n).grv n).kickAt = (s.grv n).kickAt + (s.now - (s.grv n).frozeAt) ∧ OnlyChan n [R.GRV_STATUS_DBG_HALT.at n.val] s (s.thaw n) := by
  rw [State.thaw, if_pos h]
  refine ⟨?_, by rw [State.grv_modGrv]; rfl, ((OnlyChan.refl n _ s).wr _ _ _ (by decide) (by simp)).modGrv _⟩
  simp (disch := decide) only [State.frozen, State.on, State.rd_modGrv, State.rd_wr_lt]
  rfl

/-- A step of the frozen core that runs: its instruction between a thaw and the next freeze. -/
theorem State.gStep_runs (frozen : s.frozen n = true) (runs : s.core n = 1) (fe de : Bool) : s.gStep fe de n =
    ((if fe then (s.thaw n).gFetchEcc n else match gDecode ((s.thaw n).gFetch n) with
      | some op => (s.thaw n).gDo n de op
      | none => (s.thaw n).gExc n 1).freeze n) := by
  have held : ¬(!s.frozen n) = true := by simp [frozen]
  unfold State.gStep
  exact (if_neg held).trans ((if_pos runs).trans rfl)

theorem State.gpc_thaw (s : State) (n : Ch) : (s.thaw n).gpc n = s.gpc n := by
  unfold State.thaw State.gpc
  split
  · exact s.rd_wr_sep _ _ n.val _ (by decide)
  · rfl

theorem State.gFetch_thaw (s : State) (n : Ch) : (s.thaw n).gFetch n = s.gFetch n := by
  have mem : (s.thaw n).mem = s.mem := by unfold State.thaw; split <;> rfl
  rw [State.gFetch, State.gpc_thaw, State.memWord_of_mem mem, State.gFetch]

theorem State.bpHit_of {k : Fin 4} (enabled : s.rd (R.DBG_BP_EN.nth k.val) 0 ≠ 0) (there : s.rd (R.DBG_BP_ADDR.nth k.val) 0 = s.gpc n)
    (fresh : (s.grv n).past = false) : s.bpHit n k.val = true := by
  simp only [State.bpHit, State.on, bne_iff_ne.2 enabled, there, beq_self_eq_true, fresh, Bool.not_false, Bool.and_self]

end

/-- Settles O32: each command by the lemma on its operation. -/
theorem groveControlCommands : Obligations.GroveControlCommands := by
  unfold Obligations.GroveControlCommands
  intro n s on
  have acts (f : State → State) : Host.Outcome.next (s.whenCh n f) = (.next (f s) : Host.Outcome State Fault Refusal) :=
    congrArg Host.Outcome.next (State.whenCh_on on f)
  refine ⟨fun halted idle signed off wdt => ⟨_, acts _, State.grvStart_runs halted idle signed off wdt⟩,
    fun halted idle signed enabled wdt => ⟨_, acts _, State.grvStart_arms halted idle signed enabled wdt⟩, ?busy, s.grvIgnored_only n, ?stop, ?held,
    ?reset, ?noReset, fun halted idle => ⟨⟨_, acts _, State.grvVerify_starts halted idle⟩,
      fun lo hi => ⟨_, acts _, State.grvLoad_starts halted idle lo hi⟩, fun unknown => ⟨_, acts _, State.grvLoad_unknown halted idle unknown⟩⟩,
    ?verified, s.verifyCause_facts n, ?loaded, ?hostEv, ?counters, ?signal, ?mbox, ?wake, ?timer, ?debug, ?closed⟩
  case busy =>
    intro busy
    refine ⟨(acts _).trans (congrArg Host.Outcome.next (if_neg fun ok => busy ok.1)), (acts _).trans (congrArg Host.Outcome.next (if_neg fun ok => busy ok.1)),
      (acts _).trans (congrArg Host.Outcome.next (if_pos (.inl busy)))⟩
  case stop =>
    intro free runs none
    refine ⟨_, (acts _).trans (congrArg Host.Outcome.next (State.grvStop_running free runs none)), ?_, ?_, ?_,
      OnlyRegs.wrs (OnlyRegs.refl _ s) n.val _ (by simp +decide)⟩ <;>
      simp (disch := decide) only [State.core, State.wrs, State.rd_wr_sep, State.rd_wr_lt]
  case held => exact fun held => (acts _).trans (congrArg Host.Outcome.next (if_pos held))
  case reset =>
    intro stopped
    exact ⟨_, (acts _).trans (congrArg Host.Outcome.next (if_pos stopped)), s.grvClear_cleared n _⟩
  case noReset =>
    intro live
    have kept : ¬(s.core n = 0 ∨ s.core n = 3) := by omega
    exact (acts _).trans (congrArg Host.Outcome.next (if_neg kept))
  case verified =>
    intro runs
    exact ⟨_, (acts _).trans (congrArg Host.Outcome.next (if_pos runs)), s.verified_shows n (s.verifyCause_facts n).1⟩
  case loaded =>
    intro k runs small
    have loads : 2 ≤ (s.grv n).img := by omega
    have id : (s.grv n).img - 1 = 1 + k := by omega
    obtain ⟨img, irq, code, rom, pc⟩ := (s.romLoaded n (1 + k)).loadEnd_shows n (id := 1 + k) (by omega)
    have mem := (s.romLoaded n (1 + k)).loadEnd_mem n (1 + k)
    have load : exec (.grvLoadDone n) s = .next ((s.romLoaded n (1 + k)).loadEnd n (1 + k)) := by
      rw [exec, execGrvLoadDone, acts, if_pos loads, id]
      rfl
    refine ⟨_, load, img, irq, code, rom, pc, ?words, ?kept⟩
    case words =>
      intro j h
      rw [State.memWord_of_mem mem, s.romLoaded_word n _ j h]
    case kept =>
      intro a h
      rw [State.byte_of_mem mem, s.romLoaded_kept n _ a h]
  case hostEv =>
    exact ⟨_, acts _, State.bit_orBits (by decide) s n.val 7 (by decide), (OnlyRegs.refl _ s).wr _ _ _ (by decide) (by simp)⟩
  case counters =>
    refine ⟨s.grvCntClr n, acts _, ?_, ?_, OnlyRegs.wrs (OnlyRegs.refl _ s) n.val _ (by simp +decide)⟩ <;>
      simp (disch := decide) only [State.grvCntClr, State.wrs, State.rd_wr_sep, State.rd_wr_lt]
  case signal =>
    exact fun m => ⟨_, acts _, State.rd_orBits (by decide) s n.val _ m.isLt, (OnlyRegs.refl _ s).wr _ _ _ (by decide) (by simp)⟩
  case mbox =>
    intro m
    refine ⟨_, acts _, ?_, (OnlyRegs.refl _ s).wr _ _ _ (by decide) (by simp)⟩
    rw [State.rd_clrBits (by decide)]
    exact sub_and_and _ _
  case wake =>
    intro r m waiting waits thawed pends
    obtain ⟨pc, ended, only⟩ := State.wfeEnd_frame waiting
    refine ⟨_, execWfeWake_wakes on waiting waits thawed pends, ?core, ?wfe, ?pc, (only.wr _ _ _ (by decide) (by simp)).modGrv _⟩
    case core => rw [State.core, State.rd_modGrv, State.rd_wr_lt (by decide) (by decide)]
    case wfe => rw [State.grv_modGrv, State.grv_wr]; exact ended
    case pc =>
      rw [State.gpc, State.rd_modGrv, State.rd_wr_sep _ R.GRV_STATUS_CORE _ _ _ (by decide)]
      exact pc
  case timer =>
    intro x live runs
    have small : 2 ^ (5 + x.val) < R.GRV_EVT_PEND.size := by clear runs; revert x; decide
    refine ⟨_, execGroveTimerExpiry_counts on live runs, State.bit_orBits (by decide) _ n.val _ small, ?run,
      ((OnlyChan.refl n _ s).modGrv _).wr _ _ _ (by decide) (by simp)⟩
    rw [State.orBits, State.grv_wr, State.grv_modGrv]
    exact congrArg GrvTmr.run (Vector.getElem_set_self x.isLt)
  case debug =>
    intro isOpen selected
    have selects (f : Ch → State → State) : Host.Outcome.next (s.whenDbg f) = (.next (f n s) : Host.Outcome State Fault Refusal) :=
      congrArg Host.Outcome.next (State.whenDbg_open isOpen selected on f)
    refine ⟨fun thawed => ⟨_, selects _, State.freeze_thawed thawed⟩, fun frozen => ⟨_, selects _, State.thaw_frozen frozen⟩, ?step, ?illegal, ?fetch,
      ?idle, ?breaks⟩
    case step =>
      intro op frozen runs spelt de
      refine (selects _).trans (congrArg Host.Outcome.next ?_)
      simp only [State.gStep_runs frozen runs, State.gFetch_thaw, spelt, Bool.false_eq_true, if_false]
    case illegal =>
      intro de frozen runs undecoded
      refine (selects _).trans (congrArg Host.Outcome.next ?_)
      simp only [State.gStep_runs frozen runs, State.gFetch_thaw, undecoded, Bool.false_eq_true, if_false]
    case fetch =>
      intro de frozen runs
      refine (selects _).trans (congrArg Host.Outcome.next ?_)
      rw [State.gStep_runs frozen runs, if_pos rfl, State.gFetchEcc, State.gpc_thaw]
    case idle =>
      intro thawed fe de
      exact (selects _).trans (congrArg Host.Outcome.next (if_pos (by rw [thawed]; rfl)))
    case breaks =>
      intro k enabled runs there thawed fresh
      obtain ⟨frozen, only⟩ := State.freeze_thawed thawed
      refine ⟨s.freeze n, (selects _).trans (congrArg Host.Outcome.next (if_pos ?_)), frozen, only⟩
      rw [State.bpHit_of enabled there fresh, runs]
      rfl
  case closed =>
    intro isClosed
    have stays (f : Ch → State → State) : Host.Outcome.next (s.whenDbg f) = (.next s : Host.Outcome State Fault Refusal) :=
      congrArg Host.Outcome.next (State.whenDbg_closed isClosed f)
    exact ⟨stays _, stays _, fun _ _ => stays _, fun _ => stays _⟩

end Sys2Proof.Machine

/-! SUPPORT. O2, O3: the channel commands of the host. -/

namespace Sys2Proof.Machine

/-- A staged field of a channel written leaves the running copies. -/
theorem State.run_wr_ch {f g : Fld} (h : ∀ n : Ch, f.addr n.val ≠ g.runAddr n.val) (s : State) (n : Ch) (v : Nat) :
    (s.wr f n.val v).run g n.val = s.run g n.val := by
  rw [State.run, State.wr, State.word_setWord_ne _ _ _ _ (h n), State.run]

/-- Of the record of channel `n` what a command changes. -/
theorem State.ch_ask (s : State) (n : Ch) (tgt : ChState) (cause : Nat) :
    (s.ask n tgt cause).ch n = { s.ch n with pend := some (askWins (s.ch n).pend (tgt, cause)) } := s.ch_modCh_self n _

/-- The record of a channel whose hand-over has ended. -/
theorem State.ch_hoEnd (s : State) (n : Ch) : (s.hoEnd n).ch n = { s.ch n with
    ho := { (s.ch n).ho with fb := s.run R.CH_MODE_FB n.val, fb2 := s.run R.CH_MODE_FB2 n.val, ofs := 0, last := 0 } } := by
  rw [State.hoEnd, State.ch_modCh_self]
  rfl

section
variable {s : State} {n : Ch}

/-! ### The arm conditions (R139) -/

/-- The code of the first test that holds is 0 where none does. -/
theorem firstTest_eq_zero_iff (l : List (Nat × Bool)) (codes : ∀ e ∈ l, e.1 ≠ 0) :
    ((l.find? (·.2)).map (·.1)).getD 0 = 0 ↔ ∀ e ∈ l, e.2 = false := by
  cases found : l.find? (·.2) with
  | none => simpa using List.find?_eq_none.1 found
  | some e =>
    have listed := List.mem_of_find?_eq_some found
    have holds : e.2 = true := List.find?_some found
    refine iff_of_false (codes e listed) fun none => ?_
    rw [none e listed] at holds
    exact Bool.false_ne_true holds

/-- The code of the first test that holds is one of those listed. -/
theorem firstTest_lt (l : List (Nat × Bool)) {k : Nat} (codes : ∀ e ∈ l, e.1 < k) (pos : 0 < k) : ((l.find? (·.2)).map (·.1)).getD 0 < k := by
  cases found : l.find? (·.2) with
  | none => exact pos
  | some e => exact codes e (List.mem_of_find?_eq_some found)

theorem State.armReason_eq_zero_iff : s.armReason n = 0 ↔ s.chState n = .idle ∧ s.rd R.CMP_STATUS_BAND_PENDING n.val = 0 ∧ s.tripOn n = false ∧
    s.rd R.FBK_STATUS_HALTED 0 = 0 ∧ s.bit R.PWR_STATUS_GOOD 0 1 = true ∧ s.bit R.PWR_STATUS_GOOD 0 4 = true ∧
    s.rd R.CH_STATUS_COMMIT_PENDING n.val = 0 ∧ s.bridgeJob n = false := by
  rw [State.armReason, firstTest_eq_zero_iff _ (by simp)]
  simp only [List.forall_mem_cons, State.on, State.bit, bne_eq_false_iff_eq, Bool.not_eq_false', Bool.and_eq_true, List.not_mem_nil,
    false_implies, implies_true, and_true, and_assoc]

theorem State.armReason_not_idle (h : s.chState n ≠ .idle) : s.armReason n = 1 := by
  simp [State.armReason, List.find?, bne_iff_ne.2 h]

/-- An arm reason is one of the codes of R139. -/
theorem State.armReason_lt (s : State) (n : Ch) : s.armReason n < 16 := by
  rw [State.armReason]
  exact firstTest_lt _ (by simp) (by decide)

/-! ### What each command comes to -/

theorem State.arm_accepted (free : s.chState n ≠ .hold) (own : s.run R.CH_MODE_GANG n.val ≠ 2) (ready : s.armReason n = 0) :
    s.arm n = s.ask n .arming byCommand := by
  have accepts : ¬(s.chState n == .hold || s.run R.CH_MODE_GANG n.val == 2) = true := by simp [free, own]
  rw [State.arm, if_neg accepts, State.armNow]
  exact if_pos ready

theorem State.arm_refused (free : s.chState n ≠ .hold) (own : s.run R.CH_MODE_GANG n.val ≠ 2) (fails : s.armReason n ≠ 0) :
    s.arm n = s.armRefuse n (s.armReason n) := by
  have accepts : ¬(s.chState n == .hold || s.run R.CH_MODE_GANG n.val == 2) = true := by simp [free, own]
  rw [State.arm, if_neg accepts, State.armNow]
  exact if_neg fails

theorem State.armRefuse_shows {r : Nat} (small : r < 16) (s : State) (n : Ch) : (s.armRefuse n r).rd R.CH_STATUS_ARM_REASON n.val = r ∧
    (s.armRefuse n r).rd R.CH_IRQ_ARM_REFUSED n.val = 1 ∧
    OnlyRegs [R.CH_STATUS_ARM_REASON.at n.val, R.CH_IRQ_ARM_REFUSED.at n.val] s (s.armRefuse n r) := by
  have fits : r < R.CH_STATUS_ARM_REASON.size := Nat.lt_of_lt_of_le small (by decide)
  refine ⟨?_, ?_, OnlyRegs.wrs (OnlyRegs.refl _ s) n.val _ (by simp +decide)⟩ <;>
    simp (disch := decide) only [State.armRefuse, State.wrs, State.rd_wr_sep, State.rd_wr_lt, State.rd_wr_lt _ fits]

theorem State.cmdIgnored_only (s : State) (n : Ch) : (s.cmdIgnored n).rd R.CH_IRQ_CMD_IGNORED n.val = 1 ∧
    OnlyRegs [R.CH_IRQ_CMD_IGNORED.at n.val] s (s.cmdIgnored n) :=
  ⟨State.rd_wr_lt (by decide) (by decide) s n.val, (OnlyRegs.refl _ s).wr _ _ _ (by decide) (by simp)⟩

theorem State.runCmd_accepted (own : s.run R.CH_MODE_GANG n.val ≠ 2) (takes : s.chState n = .arming ∨ s.chState n = .armed ∨ s.chState n = .fault) :
    s.runCmd n = s.wr R.CH_STATUS_RUN_REQ n.val 1 := by
  rw [State.runCmd, if_neg (by simpa using own), State.runNow]
  exact if_pos (by simpa [or_assoc] using takes)

theorem State.runCmd_ignored (other : s.run R.CH_MODE_GANG n.val = 2 ∨ (s.chState n ≠ .arming ∧ s.chState n ≠ .armed ∧ s.chState n ≠ .fault)) :
    s.runCmd n = s.cmdIgnored n := by
  rw [State.runCmd, State.runNow]
  rcases other with member | ⟨arming, armed, fault⟩
  · rw [if_pos (by simpa using member)]
  · have refused : ¬(s.chState n == .arming || s.chState n == .armed || s.chState n == .fault) = true := by simp [arming, armed, fault]
    simp only [if_neg refused, ite_self]

/-- The run request withdrawn, the hand-over ended, and a transition asked for at the next boundary. -/
theorem State.unrun_hoEnd_ask (s : State) (n : Ch) (tgt : ChState) (cause : Nat) :
    let t := ((s.wr R.CH_STATUS_RUN_REQ n.val 0).hoEnd n).ask n tgt cause
    t.rd R.CH_STATUS_RUN_REQ n.val = 0 ∧ t.rd R.CH_STATUS_HO_DEFER n.val = 0 ∧ t.rd R.CH_STATUS_HO_BLEND n.val = 0 ∧ t.ch n = { s.ch n with
      pend := some (askWins (s.ch n).pend (tgt, cause))
      ho := { (s.ch n).ho with fb := s.run R.CH_MODE_FB n.val, fb2 := s.run R.CH_MODE_FB2 n.val, ofs := 0, last := 0 } } ∧
    OnlyChan n [R.CH_STATUS_RUN_REQ.at n.val, R.CH_STATUS_HO_DEFER.at n.val, R.CH_STATUS_HO_BLEND.at n.val] s t := by
  have rd_ask (u : State) (f : Fld) : (u.ask n tgt cause).rd f n.val = u.rd f n.val := rfl
  have rd_ho (u : State) (f : Fld) : (u.hoEnd n).rd f n.val = (u.wrs n.val [(R.CH_STATUS_HO_DEFER, 0), (R.CH_STATUS_HO_BLEND, 0)]).rd f n.val := rfl
  refine ⟨?req, ?defer, ?blend, ?record, ((OnlyChan.wrs ((OnlyChan.refl n _ s).wr _ _ _ (by decide) (by simp)) n.val _ (by simp +decide)).modCh _).modCh _⟩
  case record =>
    rw [State.ch_ask, State.ch_hoEnd, State.run_wr_ch (by decide), State.run_wr_ch (by decide)]
    rfl
  all_goals simp (disch := decide) only [rd_ask, rd_ho, State.wrs, State.rd_wr_sep, State.rd_wr_lt]

/-- The run request withdrawn and a transition asked for. -/
theorem State.unrun_ask (s : State) (n : Ch) (tgt : ChState) (cause : Nat) :
    let t := (s.wr R.CH_STATUS_RUN_REQ n.val 0).ask n tgt cause
    t.rd R.CH_STATUS_RUN_REQ n.val = 0 ∧ t.ch n = { s.ch n with pend := some (askWins (s.ch n).pend (tgt, cause)) } ∧
    OnlyChan n [R.CH_STATUS_RUN_REQ.at n.val] s t :=
  ⟨State.rd_wr_lt (by decide) (by decide) s n.val, State.ch_ask _ n tgt cause, ((OnlyChan.refl n _ s).wr _ _ _ (by decide) (by simp)).modCh _⟩

theorem State.stop_rotating (h : s.chState n = .starting ∨ s.chState n = .running) :
    s.stop n = ((s.wr R.CH_STATUS_RUN_REQ n.val 0).hoEnd n).ask n .stopping byStop := by
  rcases h with h | h <;> simp only [State.stop, h]

theorem State.stop_ignored (h : s.chState n ≠ .starting ∧ s.chState n ≠ .running ∧ s.chState n ≠ .limp) : s.stop n = s.cmdIgnored n := by
  obtain ⟨starting, running, limp⟩ := h
  unfold State.stop
  split
  · exact absurd ‹_› starting
  · exact absurd ‹_› running
  · exact absurd ‹_› limp
  · rfl

theorem State.disarm_active (h : s.chState n = .arming ∨ s.chState n = .armed ∨ s.chState n = .starting ∨ s.chState n = .running ∨
    s.chState n = .stopping ∨ s.chState n = .limp) : s.disarm n = ((s.wr R.CH_STATUS_RUN_REQ n.val 0).hoEnd n).ask n .idle byCommand := by
  rcases h with h | h | h | h | h | h <;> simp only [State.disarm, h]

theorem State.disarm_ignored (h : s.chState n = .hold ∨ s.chState n = .idle ∨ (s.chState n = .halted ∧ s.rd R.FBK_STATUS_HALTED 0 ≠ 0)) :
    s.disarm n = s.cmdIgnored n := by
  rcases h with h | h | ⟨h, held⟩
  · simp only [State.disarm, h]
  · simp only [State.disarm, h]
  · simp only [State.disarm, h, State.on, bne_iff_ne.2 held, if_true]

theorem State.commit_free (h : s.rd R.CH_STATUS_COMMIT_PENDING n.val = 0) : s.commit n =
    (s.wr R.CH_STATUS_COMMIT_PENDING n.val 1).modCh n fun c => { c with snap := some (s.snapshot n), checked := false } := by
  rw [State.commit, State.on, h]
  rfl

end

/-- Settles O2: each command in each state, by what it comes to there. -/
theorem channelCommandsAct : Obligations.ChannelCommandsAct := by
  unfold Obligations.ChannelCommandsAct
  have acts {n : Ch} {s t : State} (on : s.chOn n = true) {f : State → State} (h : f s = t) :
      Host.Outcome.next (s.whenCh n f) = (.next t : Host.Outcome State Fault Refusal) :=
    congrArg Host.Outcome.next ((State.whenCh_on on f).trans h)
  constructor
  · intro n s on
    refine ⟨?arm, ?run, ?stop, ?stopLimp, ?disarm, ?disarmFault, ?disarmHalted, ?commit, ?again⟩
    case arm =>
      intro idle own band trip halted good1 good4 pend job
      have ready : s.armReason n = 0 := State.armReason_eq_zero_iff.2 ⟨idle, band, trip, halted, good1, good4, pend, job⟩
      have free : s.chState n ≠ .hold := by rw [idle]; decide
      exact ⟨_, acts on (State.arm_accepted free own ready), s.ch_ask n _ _, (OnlyChan.refl n _ s).modCh _⟩
    case run =>
      intro own takes
      exact ⟨_, acts on (State.runCmd_accepted own takes), State.rd_wr_lt (by decide) (by decide) s n.val,
        (OnlyRegs.refl _ s).wr _ _ _ (by decide) (by simp)⟩
    case stop => exact fun h => ⟨_, acts on (State.stop_rotating h), s.unrun_hoEnd_ask n _ _⟩
    case stopLimp =>
      intro limp
      have asks : s.stop n = (s.wr R.CH_STATUS_RUN_REQ n.val 0).ask n .idle byStop := by simp only [State.stop, limp]
      exact ⟨_, acts on asks, s.unrun_ask n _ _⟩
    case disarm => exact fun h => ⟨_, acts on (State.disarm_active h), s.unrun_hoEnd_ask n _ _⟩
    case disarmFault =>
      intro fault
      have notes : s.disarm n = (s.wr R.CH_STATUS_RUN_REQ n.val 0).modCh n fun c => { c with disarmed := true } := by
        simp only [State.disarm, fault]
      exact ⟨_, acts on notes, State.rd_wr_lt (by decide) (by decide) s n.val, State.ch_modCh_self _ n _,
        ((OnlyChan.refl n _ s).wr _ _ _ (by decide) (by simp)).modCh _⟩
    case disarmHalted =>
      intro halted free
      have asks : s.disarm n = (s.wr R.CH_STATUS_RUN_REQ n.val 0).ask n .idle byCommand := by
        simp only [State.disarm, halted, State.on, free, bne_self_eq_false, Bool.false_eq_true, if_false]
      exact ⟨_, acts on asks, s.unrun_ask n _ _⟩
    case commit =>
      intro free
      exact ⟨_, acts on (State.commit_free free), State.rd_wr_lt (by decide) (by decide) s n.val, State.ch_modCh_self _ n _,
        ((OnlyChan.refl n _ s).wr _ _ _ (by decide) (by simp)).modCh _⟩
    case again => exact fun pend => acts on (if_pos (bne_iff_ne.2 pend))
  · intro n s on
    refine ⟨?arm, fun free own fails => ⟨_, acts on (State.arm_refused free own fails), State.armRefuse_shows (s.armReason_lt n) s n⟩,
      State.armReason_eq_zero_iff, State.armReason_not_idle, fun h => ⟨_, acts on (State.runCmd_ignored h), s.cmdIgnored_only n⟩,
      fun h => ⟨_, acts on (State.stop_ignored h), s.cmdIgnored_only n⟩, fun h => ⟨_, acts on (State.disarm_ignored h), s.cmdIgnored_only n⟩⟩
    intro h
    exact ⟨_, acts on (if_pos (by simpa using h)), s.cmdIgnored_only n⟩

/-! ### The counterexample of O3 -/

/-- A channel in ARMING whose last pre-charge pulse is over while its last pulse time still runs: the carrier stands at a boundary, no pulse is
left to give, and `preLeft` holds the channel back. -/
def preLeftArming : State :=
  ((State.reset.wr R.PWR_DOM_STATE_ON 0 1).wr R.CH_STATUS_STATE 0 3).modCh 0 fun c => { c with car.preLeft := 1 }

/-- Refutes O3: `prechargeDue` also asks for `preLeft = 0`, which its characterisation leaves out. -/
theorem not_commitAndBoundaryAct : ¬ Obligations.CommitAndBoundaryAct := by
  unfold Obligations.CommitAndBoundaryAct
  rintro ⟨-, -, transitions⟩
  obtain ⟨-, -, -, -, -, -, -, -, -, -, due, -⟩ := transitions 0 preLeftArming (by decide)
  exact absurd (due.2 (by decide)) (by decide)

end Sys2Proof.Machine

/-! SUPPORT. O4, O5: bus writes, locks and windows. -/

namespace Sys2Proof.Machine

/-! ### The counterexample of O4 -/

/-- Ranger holds a reference of page 0, which its scan list does not name. -/
def staleReference : State := { State.reset with rng.refs := [(0, 0#32, 0)] }

/-- Refutes O4: a write of a word of page SUP drops the references of the pages outside the scan list (R377), so more than registers changes. -/
theorem not_busWritesAct : ¬ Obligations.BusWritesAct := by
  unfold Obligations.BusWritesAct
  rintro ⟨writes, -⟩
  obtain ⟨t, written, -, -, -, -, rest⟩ :=
    writes 0 0x06 0x20 0x620#24 0#32 staleReference (.inl (by decide)) (by decide) (by decide) (by decide) (by decide) (by decide)
  have dropped : (staleReference.busWrite 0 0x620 0#32).rng.refs = [] := by decide
  have result : staleReference.busWrite 0 0x620 0#32 = t := Host.Outcome.next.inj written
  have kept : t.rng.refs = [(0, 0#32, 0)] := congrArg (fun u : State => u.rng.refs) rest
  rw [← result, dropped] at kept
  exact absurd kept (by decide)

/-! ### Locking a page (R85, R92) -/

theorem targetOf_lock (p : BitVec 8) : targetOf (p.toNat * 256 + 0x1C) = .reg p.toNat 0x1C := by
  have small := p.isLt
  have word : (p.toNat * 256 + 0x1C) / 4 * 4 % 2 ^ 24 = p.toNat * 256 + 0x1C := by omega
  have region : (p.toNat * 256 + 0x1C) / 2 ^ 16 = 0 := by omega
  have page : (p.toNat * 256 + 0x1C) % 2 ^ 16 / 256 = p.toNat := by omega
  have offset : (p.toNat * 256 + 0x1C) % 2 ^ 16 % 256 = 0x1C := by omega
  simp only [targetOf, word, region, page, offset, if_true]

/-- A live page answers the host. -/
theorem State.accessFail_live {s : State} {p : Nat} (live : s.pageLive p = true) (off : Nat) (wr : Bool) : s.accessFail 0 wr (.reg p off) = 0 := by
  simp only [State.pageLive, Bool.and_eq_true, Bool.not_eq_true'] at live
  obtain ⟨⟨there, fused⟩, on⟩ := live
  simp [State.accessFail, State.pageMirror, State.unmapped, outOfReach, State.targetFused, State.targetOff, there, fused, on]

theorem execPageLock_live {s : State} {p : BitVec 8} (live : s.pageLive p.toNat = true) : exec (.pageLock p) s = .next (s.lockWrite p.toNat 1#32) := by
  rw [exec, execPageLock, State.busWrite, State.busWriteWith]
  simp only [targetOf_lock, State.accessFail_live live, ne_eq, not_true_eq_false, if_false, State.pageWrite]
  rfl

theorem State.lockWrite_one (s : State) (p : Nat) : s.lockWrite p 1#32 =
    (if !s.locked p then s.scanDrop p else s).setWord (p * 256 + 0x1C) (s.word (p * 256 + 0x1C) ||| 1#32) := by
  have one (t : State) (o : Word) : t.setWord (p * 256 + 0x1C) ((if (1#32).getLsbD 1 then o &&& ~~~ 2#32 else o) ||| (1#32 &&& 1#32)) =
      t.setWord (p * 256 + 0x1C) (o ||| 1#32) := rfl
  unfold State.lockWrite
  cases s.locked p <;> exact one _ _

theorem State.lockWrite_one_frame (s : State) (p : Nat) :
    (s.lockWrite p 1#32).word (p * 256 + 0x1C) = s.word (p * 256 + 0x1C) ||| 1#32 ∧ (s.lockWrite p 1#32).locked p = true ∧
    (∀ e ∈ (s.lockWrite p 1#32).rng.refs, e ∈ s.rng.refs) ∧
    OnlyRegs [(p * 256 + 0x1C, 1#32)] s { s.lockWrite p 1#32 with rng := s.rng } := by
  have word : (s.lockWrite p 1#32).word (p * 256 + 0x1C) = s.word (p * 256 + 0x1C) ||| 1#32 := by rw [State.lockWrite_one, State.word_setWord_self]
  refine ⟨word, ?lock, ?refs, ?kept, ?mem, ?rest⟩
  case lock =>
    rw [State.locked, word, BitVec.getLsbD_or]
    exact Bool.or_true _
  case refs =>
    intro e h
    rw [State.lockWrite_one] at h
    cases held : s.locked p with
    | true => rw [held] at h; exact h
    | false => rw [held] at h; exact (List.mem_filter.1 h).1
  case kept =>
    have dropped : (if !s.locked p then s.scanDrop p else s).regs = s.regs := by split <;> rfl
    refine RegsKept.of_regs (t := s.lockWrite p 1#32) ?_ rfl
    rw [State.lockWrite_one]
    refine ((RegsKept.refl _ s).of_regs dropped).setWord _ _ ?_
    have same : (if !s.locked p then s.scanDrop p else s).word (p * 256 + 0x1C) = s.word (p * 256 + 0x1C) := by rw [State.word, dropped, State.word]
    have own : maskAt [(p * 256 + 0x1C, 1#32)] (p * 256 + 0x1C) = 1#32 := by
      rw [maskAt_cons, if_pos rfl, maskAt_nil]
      exact BitVec.or_zero
    rw [same, own, BitVec.and_or_distrib_right]
    exact BitVec.or_zero
  case mem => rw [State.lockWrite_one]; split <;> rfl
  case rest => rw [State.lockWrite_one]; split <;> rfl

/-! ### Windows (R96, R305, R421, R489) -/

theorem State.sidxNext_shows (s : State) : s.sidxNext.rd R.NET_SIDX 0 = (s.rd R.NET_SIDX 0 + 1) % 512 ∧ OnlyRegs [R.NET_SIDX.at 0] s s.sidxNext :=
  ⟨s.rd_wr R.NET_SIDX 0 _ (by decide), (OnlyRegs.refl _ s).wr _ _ _ (by decide) (by simp)⟩

theorem State.ss_sidxNext (s : State) (i : Ch) : s.sidxNext.ss i = s.ss i := by rw [State.ss, State.sidxNext, State.wr_net, State.ss]

theorem State.ss_modSs (s : State) (i j : Ch) (g : Sess → Sess) : (s.modSs i g).ss j = if i = j then g (s.ss i) else s.ss j := by
  have set : (s.net.sess.set i.val (g (s.ss i)) i.isLt)[j.val] = if i.val = j.val then g (s.ss i) else s.net.sess[j.val] := Vector.getElem_set i.isLt j.isLt
  simp only [Fin.ext_iff]
  exact set

theorem State.sdataWrite_room {s : State} (room : s.rd R.NET_SIDX 0 < 448) (w : Word) :
    s.sdataWrite w = (s.modSs s.sel fun x => { x with buf := mapPut (fun _ => 0#32) x.buf (s.rd R.NET_SIDX 0) w }).sidxNext := by
  simp only [State.sdataWrite, if_pos room]

theorem State.pramWrite_idle {s : State} {n : Ch} (halted : s.core n = 0) (idle : s.imgIdle n = true) (a : Nat) (w : Word) :
    s.pramWrite n a w = (s.setMemWord (pramAddr n.val a) w).wrs n.val [(R.GRV_STATUS_IMG, 0), (R.GRV_STATUS_ROM_ID, 0)] := by
  rw [State.pramWrite, if_pos ⟨halted, idle⟩]

theorem OnlyRegs.setMemWord (l : List (Nat × Word)) (s : State) (a : Nat) (w : Word) (i : Nat) (q : List (Fld × Nat))
    (c : ∀ e ∈ q, e.1.ok ∧ e.1.at i ∈ l) : OnlyRegs l s { (s.setMemWord a w).wrs i q with mem := s.mem } := by
  have regs : (s.setMemWord a w).regs = s.regs := by simp only [State.setMemWord, State.setByte_regs]
  have byte_rest (t : State) (b : Nat) (v : BitVec 8) : (t.setByte b v).rest = t.rest := rfl
  have rest : (s.setMemWord a w).rest = s.rest := by rw [State.setMemWord, byte_rest, byte_rest, byte_rest, byte_rest]
  generalize s.setMemWord a w = t at regs rest
  obtain ⟨kept, -, same⟩ := OnlyRegs.wrs (OnlyRegs.refl l t) i q c
  exact ⟨((RegsKept.refl _ s).of_regs regs).trans (kept.of_regs rfl), rfl, same.trans rest⟩

theorem OnlyRegs.withNet {l : List (Nat × Word)} {s u t : State} (h : OnlyRegs l u t) (same : { u with net := s.net } = s) :
    OnlyRegs l s { t with net := s.net } := by
  obtain ⟨kept, mem, rest⟩ := h
  have regs : ({ u with net := s.net } : State).regs = s.regs := congrArg State.regs same
  have base_mem : ({ u with net := s.net } : State).mem = s.mem := congrArg State.mem same
  have base_rest : ({ u with net := s.net } : State).rest = s.rest := congrArg State.rest same
  exact ⟨((RegsKept.refl _ s).of_regs regs).trans (kept.of_regs rfl), mem.trans base_mem,
    (congrArg (fun x : State => { x with net := s.net }) rest).trans base_rest⟩

theorem State.byte_setMemWord_kept (s : State) (a : Nat) (w : Word) : MemKept a (a + 4) s (s.setMemWord a w) :=
  fun b h => s.byte_setMemWord_ne a b w h

/-- Settles O5: locks by `lockWrite`, the read-sensitive registers and the windows by their writes. -/
theorem locksAndWindowsAct : Obligations.LocksAndWindowsAct := by
  unfold Obligations.LocksAndWindowsAct
  refine ⟨⟨?lock, ?now, ?pex, ?sidx, ?sdata⟩, ?pram, ?route, ?own⟩
  case lock => exact fun p s live => ⟨_, execPageLock_live live, s.lockWrite_one_frame p.toNat⟩
  case now =>
    intro s
    refine ⟨s.nowLatch, rfl, ?hi, ?fine, OnlyRegs.wrs (OnlyRegs.refl _ s) 0 _ (by simp +decide)⟩
    case hi =>
      rw [State.nowLatch, State.wrs, State.wrs, State.wrs, State.rd_wr_sep _ _ _ _ _ (by decide), State.rd_wr _ _ _ _ (by decide)]
      rfl
    case fine => exact State.rd_wr _ R.TIME_NOW_FINE 0 _ (by decide)
  case pex =>
    intro m s on
    have acts (f : State → State) : Host.Outcome.next (s.whenCan f) = (.next (f s) : Host.Outcome State Fault Refusal) :=
      congrArg Host.Outcome.next (State.whenCan_on on f)
    refine ⟨⟨_, acts _, State.rd_wr_lt (by decide) (by decide) s m.val, (OnlyRegs.refl _ s).wr _ _ _ (by decide) (by simp)⟩, fun r => ?_, fun b => ?_⟩
    · exact (acts _).trans (by cases r <;> rfl)
    · exact acts _
  case sidx => exact fun s on => ⟨_, congrArg Host.Outcome.next (State.whenCan_on on _), s.sidxNext_shows⟩
  case sdata =>
    intro w s on room
    have writes := (State.whenCan_on on fun s => s.sdataWrite w).trans (State.sdataWrite_room room w)
    obtain ⟨moved, only⟩ :=
      (s.modSs s.sel fun x => { x with buf := mapPut (fun _ => 0#32) x.buf (s.rd R.NET_SIDX 0) w }).sidxNext_shows
    refine ⟨_, congrArg Host.Outcome.next writes, moved, fun k => ?selected, fun i other => ?others, only.withNet rfl⟩
    case selected =>
      rw [State.ss_sidxNext, State.ss_modSs, if_pos rfl]
      exact mapGet_mapPut _ _ _ _ _
    case others =>
      rw [State.ss_sidxNext, State.ss_modSs, if_neg (Ne.symm other)]
  case pram =>
    intro n a w s on
    have acts {t : State} (h : s.pramWrite n a.toNat w = t) : exec (.programRamWrite n a w) s = .next t :=
      congrArg Host.Outcome.next ((State.whenCh_on on _).trans h)
    refine ⟨fun halted idle => ?_, fun busy => ?_⟩
    · have mem (t : State) : (t.wrs n.val [(R.GRV_STATUS_IMG, 0), (R.GRV_STATUS_ROM_ID, 0)]).mem = t.mem :=
        State.wrs_mem t _ _
      refine ⟨_, acts (State.pramWrite_idle halted (beq_iff_eq.2 idle) _ w), ?word, ?bytes, ?img, ?rom,
        OnlyRegs.setMemWord _ s _ w n.val _ (by simp +decide)⟩
      case word => rw [State.memWord_of_mem (mem _), State.memWord_setMemWord]
      case bytes => exact fun b h => (State.byte_of_mem (mem _) b).trans (s.byte_setMemWord_kept _ w b h)
      all_goals simp (disch := decide) only [State.wrs, State.rd_wr_sep, State.rd_wr_lt]
    · have denied : ¬(s.core n = 0 ∧ s.imgIdle n = true) := by
        rintro ⟨halted, idle⟩
        exact busy.elim (fun h => h halted) fun h => h (beq_iff_eq.1 idle)
      exact ⟨_, acts (if_neg denied), State.rd_wr_lt (by decide) (by decide) s n.val, (OnlyRegs.refl _ s).wr _ _ _ (by decide) (by simp)⟩
  case route =>
    intro d w s on other forward
    have other : ¬d.toNat = 0x3FF := fun h => other (BitVec.eq_of_toNat_eq h)
    have table : ¬0x3FF ≤ d.toNat := by have := d.isLt; omega
    have value : (wd (w.toNat % 8)).toNat = w.toNat % 8 := by
      have small : w.toNat % 8 < 2 ^ 32 := by omega
      exact (BitVec.toNat_ofNat _ _).trans (Nat.mod_eq_of_lt small)
    have part : (s.setMemWord (0x340000 + 4 * d.toNat) (wd (w.toNat % 8))).hl2880 = s.hl2880 := by simp only [State.setMemWord, State.setByte_hl2880]
    have powered : (s.setMemWord (0x340000 + 4 * d.toNat) (wd (w.toNat % 8))).domOn dLink = s.domOn dLink := by
      simp only [State.domOn, State.bit, State.rd, State.word, State.setMemWord, State.setByte_regs]
    have writes : s.routeWrite d.toNat w.toNat = s.setMemWord (0x340000 + 4 * d.toNat) (wd (w.toNat % 8)) := by
      rw [State.routeWrite, if_neg table, if_neg]
      rw [State.dropEntry, part]
      exact ne_true_of_eq_false forward
    refine ⟨?exec, ?entry, ?kept⟩
    case exec =>
      rw [exec, execRouteTableWrite, writes, State.whenLink_on (powered.trans on)]
    case entry =>
      rw [State.routeEntry, if_neg other, State.memWord_setMemWord, value]
      exact Nat.mod_mod _ _
    case kept =>
      intro b h
      exact s.byte_setMemWord_ne _ b _ (by omega)
  case own =>
    intro w s on
    have kept : s.routeWrite (0x3FF#10).toNat w.toNat = s := if_pos (by decide)
    rw [exec, execRouteTableWrite, kept, State.whenLink_on on]

end Sys2Proof.Machine

/-! SUPPORT. O6: the carrier's boundaries, edges and sectors. -/

namespace Sys2Proof.Machine

/-! ### What most operations of a boundary leave of the carrier -/

/-- Position, length and first boundary of a period, and its place among the opening ones. -/
def Carrier.core (c : Carrier) : Nat × Nat × Bool × Nat × Option Nat := (c.pos, c.per, c.opening, c.divCnt, c.first)

/-- The carrier of channel `n` counts and stands as before, its configuration running as before. -/
structure SameCarrier (n : Ch) (s t : State) : Prop where
  count : t.rd R.PWM_PERIOD_CNT_COUNT n.val = s.rd R.PWM_PERIOD_CNT_COUNT n.val
  period : t.run R.PWM_PERIOD n.val = s.run R.PWM_PERIOD n.val
  sync : t.run R.PWM_CFG_SYNC n.val = s.run R.PWM_CFG_SYNC n.val
  loopdiv : t.run R.PWM_CFG_LOOPDIV n.val = s.run R.PWM_CFG_LOOPDIV n.val
  core : (t.ch n).car.core = (s.ch n).car.core

/-- A change that `State.still` hides leaves the carrier's core. -/
theorem core_of_still {s t : State} (h : t.still = s.still) (n : Ch) : (t.ch n).car.core = (s.ch n).car.core := by
  have record (u : State) : (u.ch n).car.core = (u.still.ch n).car.core := by
    have still : u.still.ch n = (u.ch n).still := Vector.getElem_map Chan.still n.isLt
    rw [still]
    rfl
  rw [record t, h, ← record s]

/-- A field outside what the settling reaches does not see a word written within it. -/
theorem State.get_setWord_masked {f : Fld} {b : Nat} (hf : f.ok) (c : f.mask &&& settleBits b = 0#32) (s : State) (a : Nat) (w : Word)
    (e : w &&& ~~~ settleBits a = s.word a &&& ~~~ settleBits a) : f.get ((s.setWord a w).word b) = f.get (s.word b) := by
  rw [State.word_setWord]
  split
  · next same =>
    subst same
    exact f.get_of_masked hf _ _ _ c e
  · rfl

/-- The fields of the carrier's configuration and its count lie outside what the settling reaches. -/
theorem carrier_apart_settle (n : Ch) : R.PWM_PERIOD_CNT_COUNT.mask &&& settleBits (R.PWM_PERIOD_CNT_COUNT.addr n.val) = 0#32 ∧
    R.PWM_PERIOD.mask &&& settleBits (R.PWM_PERIOD.runAddr n.val) = 0#32 ∧
    R.PWM_CFG_SYNC.mask &&& settleBits (R.PWM_CFG_SYNC.runAddr n.val) = 0#32 ∧
    R.PWM_CFG_LOOPDIV.mask &&& settleBits (R.PWM_CFG_LOOPDIV.runAddr n.val) = 0#32 := by
  revert n
  decide

theorem settles_sameCarrier (n : Ch) (s : State) : Settles (SameCarrier n s) where
  word := fun {u} a w e h => {
    count := (u.get_setWord_masked (by decide) (carrier_apart_settle n).1 a w e).trans h.count
    period := (u.get_setWord_masked (by decide) (carrier_apart_settle n).2.1 a w e).trans h.period
    sync := (u.get_setWord_masked (by decide) (carrier_apart_settle n).2.2.1 a w e).trans h.sync
    loopdiv := (u.get_setWord_masked (by decide) (carrier_apart_settle n).2.2.2 a w e).trans h.loopdiv
    core := h.core }
  same := fun u v e k h => by
    have word (a : Nat) : v.word a = u.word a := by rw [State.word, e, State.word]
    have rd (f : Fld) (i : Nat) : v.rd f i = u.rd f i := congrArg f.get (word _)
    have run (f : Fld) (i : Nat) : v.run f i = u.run f i := congrArg f.get (word _)
    exact ⟨(rd _ _).trans h.count, (run _ _).trans h.period, (run _ _).trans h.sync, (run _ _).trans h.loopdiv, (core_of_still k n).trans h.core⟩

/-- With SYNC = 0 the carrier is not corrected (R165). -/
theorem State.carrierSync_free {s : State} {n : Ch} (h : s.run R.PWM_CFG_SYNC n.val = 0) : s.carrierSync n =
    ((((s.wr R.PWM_SYNC_ERR_E n.val 0).wr R.PWM_STATUS_SYNC_LOCK n.val 0).modCh n fun c => { c with car.syncBad := 0 }).condSet
      (srcCh n.val oSyncLoss) false, 0) := if_pos h

namespace SameCarrier
variable {n : Ch} {s t : State}

theorem refl (n : Ch) (s : State) : SameCarrier n s s := ⟨rfl, rfl, rfl, rfl, rfl⟩

theorem trans {u : State} (h : SameCarrier n s t) (k : SameCarrier n t u) : SameCarrier n s u :=
  ⟨k.count.trans h.count, k.period.trans h.period, k.sync.trans h.sync, k.loopdiv.trans h.loopdiv, k.core.trans h.core⟩

/-- A field of the channel written that is neither the period count nor a running copy. -/
theorem wr (h : SameCarrier n s t) {f : Fld} (sep : f.sep R.PWM_PERIOD_CNT_COUNT = true)
    (staged : ∀ g ∈ [R.PWM_PERIOD, R.PWM_CFG_SYNC, R.PWM_CFG_LOOPDIV], ∀ m : Ch, f.addr m.val ≠ g.runAddr m.val) (v : Nat) :
    SameCarrier n s (t.wr f n.val v) where
  count := (t.rd_wr_sep _ _ _ _ sep).trans h.count
  period := (State.run_wr_ch (staged _ (by simp)) t n v).trans h.period
  sync := (State.run_wr_ch (staged _ (by simp)) t n v).trans h.sync
  loopdiv := (State.run_wr_ch (staged _ (by simp)) t n v).trans h.loopdiv
  core := h.core

theorem modCh (h : SameCarrier n s t) {g : Chan → Chan} (e : ∀ c, (g c).car.core = c.car.core) : SameCarrier n s (t.modCh n g) where
  count := h.count
  period := h.period
  sync := h.sync
  loopdiv := h.loopdiv
  core := by rw [State.ch_modCh_self, e]; exact h.core

/-- A change of neither registers nor channel records. -/
theorem of_same {u : State} (h : SameCarrier n s t) (regs : u.regs = t.regs) (chan : u.chan = t.chan) : SameCarrier n s u := by
  have word (a : Nat) : u.word a = t.word a := by rw [State.word, regs, State.word]
  have record : u.ch n = t.ch n := by rw [State.ch, chan, State.ch]
  exact ⟨(congrArg R.PWM_PERIOD_CNT_COUNT.get (word _)).trans h.count, (congrArg R.PWM_PERIOD.get (word _)).trans h.period,
    (congrArg R.PWM_CFG_SYNC.get (word _)).trans h.sync, (congrArg R.PWM_CFG_LOOPDIV.get (word _)).trans h.loopdiv, (record ▸ h.core :)⟩

theorem ite {u : State} {p : Prop} [Decidable p] (h : SameCarrier n s t) (k : SameCarrier n s u) : SameCarrier n s (if p then t else u) := by
  split <;> assumption

theorem settleAll (h : SameCarrier n s t) : SameCarrier n s t.settleAll := State.settleAll_keeps (settles_sameCarrier n s) h

/-! ### The steps of a boundary -/

theorem boundaryRelease (h : SameCarrier n s t) : SameCarrier n s (t.boundaryRelease n) := by
  unfold State.boundaryRelease
  exact h.modCh fun _ => rfl

theorem dutyLoad (h : SameCarrier n s t) : SameCarrier n s (t.dutyLoad n) := by
  have loaded : SameCarrier n s (match (t.ch n).car.shadow, (t.ch n).car.shadowLate with
      | some d, false => t.modCh n fun c => { c with car.duty := d, car.shadow := none }
      | _, _ => t.modCh n fun c => { c with car.shadowLate := false }) := by
    split
    · exact h.modCh (by exact fun _ => rfl)
    · exact h.modCh (by exact fun _ => rfl)
  unfold State.dutyLoad
  exact ite (State.raiseCh_keeps (settles_sameCarrier n s) loaded) loaded

theorem identDuty (h : SameCarrier n s t) : SameCarrier n s (t.identDuty n) := by
  unfold State.identDuty
  extract_lets u p v
  have jobs : SameCarrier n s u := h.of_same rfl rfl
  have drawn : SameCarrier n s { u with free := u.free + 3 } := jobs.of_same rfl rfl
  exact ite (drawn.modCh (by exact fun _ => rfl)) jobs

theorem brkMinPulse (h : SameCarrier n s t) : SameCarrier n s (t.brkMinPulse n) := by
  unfold State.brkMinPulse
  exact ite ((h.wr (by decide) (by decide) _).wr (by decide) (by decide) _) h

theorem refreshCount (h : SameCarrier n s t) : SameCarrier n s (t.refreshCount n) := by
  unfold State.refreshCount
  exact ite (h.modCh (by exact fun _ => rfl)) (((h.modCh (by exact fun _ => rfl)).wr (by decide) (by decide) _).wr (by decide) (by decide) _)

theorem takeSector (h : SameCarrier n s t) : SameCarrier n s (t.takeSector n) := by
  unfold State.takeSector
  split
  · exact (h.wr (by decide) (by decide) _).modCh (by exact fun _ => rfl)
  · exact h

theorem carrierSync (h : SameCarrier n s t) : SameCarrier n s (t.carrierSync n).1 := by
  by_cases free : t.run R.PWM_CFG_SYNC n.val = 0
  · rw [State.carrierSync_free free]
    have cleared := (h.wr (f := R.PWM_SYNC_ERR_E) (by decide) (by decide) 0).wr (f := R.PWM_STATUS_SYNC_LOCK) (by decide) (by decide) 0
    dsimp only
    exact State.condSet_keeps (settles_sameCarrier n s) (cleared.modCh fun _ => rfl)
  · simp only [State.carrierSync, if_neg free]
    have locked := fun (p : Prop) [Decidable p] => ite (p := p) (h.wr (f := R.PWM_IRQ_SYNC_LOCKED) (by decide) (by decide) 1) h
    have shown := fun (p : Prop) [Decidable p] (e v : Nat) =>
      ((locked p).wr (f := R.PWM_SYNC_ERR_E) (by decide) (by decide) e).wr (f := R.PWM_STATUS_SYNC_LOCK) (by decide) (by decide) v
    have counted := fun (p : Prop) [Decidable p] (e v k : Nat) =>
      modCh (shown p e v) (g := fun c => { c with car.syncBad := k }) fun _ => rfl
    exact ite (State.condSet_keeps (settles_sameCarrier n s) (counted _ _ _ _))
      (ite (State.condSet_keeps (settles_sameCarrier n s) (counted _ _ _ _)) (counted _ _ _ _))

theorem refreshDue (h : SameCarrier n s t) (e : Nat) : SameCarrier n s (t.refreshDue n e) := by
  unfold State.refreshDue
  exact (h.modCh (by exact fun _ => rfl)).wr (by decide) (by decide) _

/-! ### The plan of a period -/

theorem countPlan (h : SameCarrier n s t) (sup miss : Nat) : SameCarrier n s (t.countPlan n sup miss) := by
  unfold State.countPlan
  have pulses := ite (p := sup ≤ (t.ch n).car.counted.1) h
    ((h.wr (f := R.PWM_EVENTS_MINPULSE) (by decide) (by decide) (min (t.rd R.PWM_EVENTS_MINPULSE n.val + (sup - (t.ch n).car.counted.1))
      (R.PWM_EVENTS_MINPULSE.size - 1))).wr (f := R.PWM_IRQ_MINPULSE) (by decide) (by decide) 1)
  exact (ite pulses ((pulses.wr (by decide) (by decide) _).wr (by decide) (by decide) _)).modCh (by exact fun _ => rfl)

theorem duties (h : SameCarrier n s t) (a b c : Nat) : SameCarrier n s (t.wrs n.val [(R.PWM_DUTY_A_ON, a), (R.PWM_DUTY_B_ON, b), (R.PWM_DUTY_C_ON, c)]) :=
  ((h.wr (by decide) (by decide) _).wr (by decide) (by decide) _).wr (by decide) (by decide) _

theorem putPlan (h : SameCarrier n s t) (on : Vector Nat 3) (pl : Plan) : SameCarrier n s (t.putPlan n on pl) := by
  unfold State.putPlan
  exact (h.duties _ _ _).modCh (by exact fun _ => rfl)

theorem planPeriod (h : SameCarrier n s t) (e : Nat) : SameCarrier n s (t.planPeriod n e) := by
  have start := ite (p := t.pwmMode n = .mod) h ((h.wr (f := R.PWM_STATUS_REFRESH) (by decide) (by decide) 0).modCh
    (g := fun c => { c with car.refNow := 0, car.refNext := 0 }) fun _ => rfl)
  unfold State.planPeriod
  extract_lets i u c none3
  have start : SameCarrier n s u := start
  have used : SameCarrier n s u.used := start.of_same rfl rfl
  split
  · exact (start.duties 0 0 0).modCh (by exact fun _ => rfl)
  · exact (start.duties 0 0 0).modCh (by exact fun _ => rfl)
  · exact (start.duties 0 0 0).modCh (by exact fun _ => rfl)
  · exact start.modCh (by exact fun _ => rfl)
  · exact ((ite used start).countPlan _ _).putPlan _ _

end SameCarrier

section
variable {s : State} {n : Ch}

/-! ### Boundaries -/

theorem State.rd_incWrap_count (s : State) (n : Ch) :
    (s.incWrap R.PWM_PERIOD_CNT_COUNT n.val).rd R.PWM_PERIOD_CNT_COUNT n.val = (s.rd R.PWM_PERIOD_CNT_COUNT n.val + 1) % 2 ^ 32 :=
  s.rd_wr R.PWM_PERIOD_CNT_COUNT n.val _ (by decide)

theorem State.run_incWrap_count {g : Fld} (h : ∀ m : Ch, R.PWM_PERIOD_CNT_COUNT.addr m.val ≠ g.runAddr m.val) (s : State) (n : Ch) :
    (s.incWrap R.PWM_PERIOD_CNT_COUNT n.val).run g n.val = s.run g n.val := State.run_wr_ch h s n _

/-- What a period that begins on a carrier of core `c` shows, its length being `e` (R147, R157). -/
structure Begun (n : Ch) (s t : State) (e : Nat) : Prop where
  count : t.rd R.PWM_PERIOD_CNT_COUNT n.val = (s.rd R.PWM_PERIOD_CNT_COUNT n.val + 1) % 2 ^ 32
  pos : (t.ch n).car.pos = 0
  per : (t.ch n).car.per = e
  opening : (t.ch n).car.opening = true ↔ (s.ch n).car.divCnt = 0
  divCnt : (t.ch n).car.divCnt = if s.run R.PWM_CFG_LOOPDIV n.val ≤ (s.ch n).car.divCnt then 0 else (s.ch n).car.divCnt + 1

theorem Begun.same {t u : State} {e : Nat} (h : Begun n s t e) (k : SameCarrier n t u) : Begun n s u e := by
  have core := k.core
  simp only [Carrier.core, Prod.mk.injEq] at core
  obtain ⟨pos, per, opening, div, -⟩ := core
  exact ⟨k.count.trans h.count, pos.trans h.pos, per.trans h.per, opening ▸ h.opening, div.trans h.divCnt⟩

/-- A period begins where the count has been taken and the rest of the boundary's work has left the carrier. -/
theorem Begun.of_newPeriod {t : State} (h : SameCarrier n (s.incWrap R.PWM_PERIOD_CNT_COUNT n.val) t) (now e : Nat) {g : Chan → Chan}
    (same : ∀ c, (g c).car.pos = c.car.pos ∧ (g c).car.per = c.car.per ∧ (g c).car.opening = c.car.opening ∧ (g c).car.divCnt = c.car.divCnt) :
    Begun n s (t.modCh n fun c => g (c.newPeriod now e (t.run R.PWM_CFG_LOOPDIV n.val))) e := by
  have core := h.core
  simp only [Carrier.core, Prod.mk.injEq] at core
  obtain ⟨-, -, -, div, -⟩ := core
  have div : (t.ch n).car.divCnt = (s.ch n).car.divCnt := div
  have loopdiv : t.run R.PWM_CFG_LOOPDIV n.val = s.run R.PWM_CFG_LOOPDIV n.val := h.loopdiv.trans (State.run_incWrap_count (by decide) s n)
  have fresh (c : Chan) := same (c.newPeriod now e (t.run R.PWM_CFG_LOOPDIV n.val))
  refine ⟨h.count.trans (s.rd_incWrap_count n), ?pos, ?per, ?opening, ?divCnt⟩ <;> rw [State.ch_modCh_self]
  case pos => exact (fresh _).1
  case per => exact (fresh _).2.1
  case opening => rw [(fresh _).2.2.1]; simp only [Chan.newPeriod, div, beq_iff_eq]
  case divCnt => rw [(fresh _).2.2.2]; simp only [Chan.newPeriod, div, loopdiv]

/-- The work of a boundary before the new period begins. -/
def State.boundaryEnds (s : State) (n : Ch) : State :=
  let t := ((((((s.incWrap R.PWM_PERIOD_CNT_COUNT n.val).grvEvent n 1).boundaryRelease n).dutyLoad n).identDuty n).brkMinPulse n).refreshCount n
  if t.run R.PWM_CFG_COMM_SYNC n.val = 1 then t.takeSector n else t

theorem State.boundaryEnds_same (s : State) (n : Ch) : SameCarrier n (s.incWrap R.PWM_PERIOD_CNT_COUNT n.val) (s.boundaryEnds n) := by
  have event : SameCarrier n (s.incWrap R.PWM_PERIOD_CNT_COUNT n.val) ((s.incWrap R.PWM_PERIOD_CNT_COUNT n.val).grvEvent n 1) :=
    State.grvEvent_keeps (settles_sameCarrier n _) (SameCarrier.refl n _)
  have counted := event.boundaryRelease.dutyLoad.identDuty.brkMinPulse.refreshCount
  exact SameCarrier.ite counted.takeSector counted

/-- The work of a boundary once the carrier has been corrected: the new period begins, is planned and meets the gates. -/
def State.boundaryBegins (s : State) (n : Ch) (sync : State × Int) : State :=
  let c := (s.ch n).car
  let e := sync.1.nextPeriod n sync.2
  let tails : Vector Nat 3 := Vector.ofFn fun x : Fin 3 => tailOf c.legs[x.val].lo c.per c.lowTail[x.val]
  let high : BitVec 3 := [0, 1, 2].foldl (fun m (x : Fin 3) =>
    if c.legs[x.val].hi.any (fun h => decide (h.2 = c.per)) then m ||| BitVec.ofNat 3 (2 ^ x.val) else m) 0
  (((sync.1.modCh n fun k => { k.newPeriod sync.1.now e (sync.1.run R.PWM_CFG_LOOPDIV n.val) with
    car.lowTail := tails, car.endHigh := high, car.rest := c.legs.map (·.rest) }).refreshDue n e).planPeriod n e).settleAll

theorem State.boundary_eq (s : State) (n : Ch) : s.boundary n = s.boundaryBegins n ((s.boundaryEnds n).carrierSync n) := rfl

theorem State.boundary_begins (s : State) (n : Ch) :
    Begun n s (s.boundary n) (((s.boundaryEnds n).carrierSync n).1.nextPeriod n ((s.boundaryEnds n).carrierSync n).2) := by
  have synced := (s.boundaryEnds_same n).carrierSync
  have period (e : Nat) {u : State} (h : Begun n s u e) : Begun n s ((u.refreshDue n e).planPeriod n e).settleAll e :=
    h.same ((((SameCarrier.refl n u).refreshDue e).planPeriod e).settleAll)
  rw [State.boundary_eq]
  generalize (s.boundaryEnds n).carrierSync n = sync at synced ⊢
  unfold State.boundaryBegins
  extract_lets c e tails high
  exact period _ (Begun.of_newPeriod synced _ _
    (g := fun k => { k with car.lowTail := tails, car.endHigh := high, car.rest := c.legs.map (·.rest) }) fun _ => ⟨rfl, rfl, rfl, rfl⟩)

/-- Without synchronization a period lasts PERIOD (R146). -/
theorem State.boundary_per (h : s.run R.PWM_CFG_SYNC n.val = 0) : ((s.boundary n).ch n).car.per = s.run R.PWM_PERIOD n.val * 32 := by
  have ends := s.boundaryEnds_same n
  have free : (s.boundaryEnds n).run R.PWM_CFG_SYNC n.val = 0 := (ends.sync.trans (State.run_incWrap_count (by decide) s n)).trans h
  have period := (ends.carrierSync.period).trans (State.run_incWrap_count (by decide) s n)
  have none : ((s.boundaryEnds n).carrierSync n).2 = 0 := by rw [State.carrierSync_free free]
  rw [(s.boundary_begins n).per, State.nextPeriod, none, period, Int.add_zero, Int.toNat_natCast]

/-- The first boundary of a carrier counts its period too and ends the wait (R164). -/
theorem State.firstBoundary_begins (s : State) (n : Ch) : (∃ e, Begun n s (s.firstBoundary n) e) ∧ ((s.firstBoundary n).ch n).car.first = none := by
  have event : SameCarrier n (s.incWrap R.PWM_PERIOD_CNT_COUNT n.val) ((s.incWrap R.PWM_PERIOD_CNT_COUNT n.val).grvEvent n 1) :=
    State.grvEvent_keeps (settles_sameCarrier n _) (SameCarrier.refl n _)
  have plan (e : Nat) (u : State) : SameCarrier n u (u.planPeriod n e).settleAll := ((SameCarrier.refl n u).planPeriod e).settleAll
  refine ⟨⟨_, (Begun.of_newPeriod event.carrierSync _ _ (g := fun c => { c with car.first := none }) fun _ => ⟨rfl, rfl, rfl, rfl⟩).same (plan _ _)⟩, ?_⟩
  have waits (e : Nat) (u : State) : ((u.planPeriod n e).settleAll.ch n).car.first = (u.ch n).car.first :=
    congrArg (fun c : Nat × Nat × Bool × Nat × Option Nat => c.2.2.2.2) (plan e u).core
  refine (waits _ _).trans ?_
  rw [State.ch_modCh_self]

/-! ### Edges and sectors -/

/-- Two changes of one channel's record are one. -/
theorem State.modCh_modCh (s : State) (n : Ch) (f g : Chan → Chan) : (s.modCh n f).modCh n g = s.modCh n fun c => g (f c) := by
  have twice (v : Vector Chan 4) (c d : Chan) : (v.set n.val c).set n.val d = v.set n.val d := Vector.set_set _ n.isLt
  simp only [State.modCh, State.ch_setCh_self]
  simp only [State.setCh, twice]

/-- A register write and a change of a channel's record do not meet. -/
theorem State.modCh_wr (s : State) (n : Ch) (f : Chan → Chan) (g : Fld) (i v : Nat) : (s.modCh n f).wr g i v = (s.wr g i v).modCh n f := rfl

@[simp] theorem State.rd_modCh (s : State) (n : Ch) (f : Chan → Chan) (g : Fld) (i : Nat) : (s.modCh n f).rd g i = s.rd g i := rfl

theorem State.carrierOn_of (on : s.chOn n = true) (runs : s.rd R.PWM_STATUS_RUNNING n.val ≠ 0) (free : s.chState n ≠ .limp) : s.carrierOn n = true := by
  simp [State.carrierOn, State.on, on, runs, free]

theorem State.carrierOn_stopped (h : s.rd R.PWM_STATUS_RUNNING n.val = 0 ∨ s.chState n = .limp) : s.carrierOn n = false := by
  rcases h with h | h <;> simp [State.carrierOn, State.on, h]

/-- The gates settle at a position of the period (R20, R21). -/
theorem State.edge_settled (s : State) (n : Ch) (p : Nat) :
    Settled [] (s.modCh n fun c => { c with car.pos := min p c.car.per }) (((s.modCh n fun c => { c with car.pos := min p c.car.per }).brkShow n).settle n) :=
  State.settle_keeps (settles_settled _ _) (State.brkShow_keeps (settles_settled _ _) (Settled.refl _ _))

/-- What the settling leaves of the carrier. -/
theorem Settled.car {l : List (Nat × Word)} {t : State} (h : Settled l s t) (n : Ch) : (t.ch n).car.core = (s.ch n).car.core :=
  core_of_still h.2 n

/-- A new sector at once: the plan of the present period is made anew for it (R156). -/
def State.sectorNow (s : State) (n : Ch) (k : Nat) : State :=
  let t := (s.wr R.PWM_STATUS_SECTOR n.val k).modCh n fun c => { c with car.pendSector := none, car.sector := k }
  let on := (t.applied n).map (·.1)
  (t.putPlan n on (t.planMod n (t.ch n).car.per on)).settle n

theorem execSectorChange_now {k : Nat} (on : s.carrierOn n = true) (atOnce : s.run R.PWM_CFG_COMM_SYNC n.val = 0)
    (waits : (s.ch n).car.pendSector = some k) : exec (.sectorChange n) s = .next (s.sectorNow n k) := by
  have takes : s.takeSector n = (s.wr R.PWM_STATUS_SECTOR n.val k).modCh n fun c => { c with car.pendSector := none, car.sector := k } := by
    simp only [State.takeSector, waits]
  rw [exec, execSectorChange, if_pos (by simp [on, atOnce, waits]), takes]
  rfl

/-- The fields that a new sector and its plan write. -/
def sectorFields (n : Ch) : List (Nat × Word) :=
  [R.PWM_STATUS_SECTOR.at n.val, R.PWM_DUTY_A_ON.at n.val, R.PWM_DUTY_B_ON.at n.val, R.PWM_DUTY_C_ON.at n.val]

/-- The record of channel `c` with sector `k` in force and the plan `pl` of its period. -/
def Chan.withSector (c : Chan) (k : Nat) (pl : Plan) : Chan :=
  { c with car.pendSector := none, car.sector := k, car.legs := pl.legs, car.win1 := pl.win1, car.win2 := pl.win2 }

theorem State.sector_planned (s : State) (n : Ch) (k : Nat) (on : Vector Nat 3) (pl : Plan) :
    Settled (sectorFields n) (s.modCh n (·.withSector k pl))
      (((s.wr R.PWM_STATUS_SECTOR n.val k).modCh n fun c => { c with car.pendSector := none, car.sector := k }).putPlan n on pl) := by
  unfold State.putPlan
  extract_lets i ch shown
  simp only [State.wrs, State.modCh_wr, State.modCh_modCh]
  have base : Settled (sectorFields n) (s.modCh n (·.withSector k pl)) (s.modCh n (·.withSector k pl)) := Settled.refl _ _
  have written := (((base.wr R.PWM_STATUS_SECTOR n.val k (by decide) (by simp [sectorFields])).wr R.PWM_DUTY_A_ON n.val (shown 0) (by decide)
    (by simp [sectorFields])).wr R.PWM_DUTY_B_ON n.val (shown 1) (by decide) (by simp [sectorFields])).wr R.PWM_DUTY_C_ON n.val (shown 2) (by decide)
    (by simp [sectorFields])
  simp only [State.modCh_wr] at written
  exact written

theorem State.sectorNow_settled (s : State) (n : Ch) (k : Nat) : ∃ pl, Settled (sectorFields n) (s.modCh n (·.withSector k pl)) (s.sectorNow n k) :=
  ⟨_, State.settle_keeps (settles_settled _ _) (s.sector_planned n k _ _)⟩

theorem State.sectorNow_sector (s : State) (n : Ch) (k : Nat) : (s.sectorNow n k).rd R.PWM_STATUS_SECTOR n.val = k % 8 := by
  have settled (t : State) : (t.settle n).rd R.PWM_STATUS_SECTOR n.val = t.rd R.PWM_STATUS_SECTOR n.val :=
    (State.settle_keeps (settles_settled [] t) (Settled.refl _ _)).rd_ch (by decide) (by decide) n
  have planned (t : State) (on : Vector Nat 3) (pl : Plan) : (t.putPlan n on pl).rd R.PWM_STATUS_SECTOR n.val = t.rd R.PWM_STATUS_SECTOR n.val := by
    unfold State.putPlan
    simp (disch := decide) only [State.rd_modCh, State.wrs, State.rd_wr_sep]
  rw [State.sectorNow, settled, planned, State.rd_modCh]
  exact s.rd_wr R.PWM_STATUS_SECTOR n.val k (by decide)

end

/-- Settles O6: boundaries by what `SameCarrier` keeps, edges and sectors by the frame of the settling. -/
theorem carrierAdvances : Obligations.CarrierAdvances := by
  unfold Obligations.CarrierAdvances
  intro n s on
  refine ⟨fun runs free begun => ⟨?boundary, fun p => ?edge, fun k atOnce waits => ?sector⟩, fun tk runs free waits => ?first, fun stopped => ?stopped,
    ?counters⟩
  case boundary =>
    have acts : exec (.periodBoundary n) s = .next (s.boundary n) := by
      rw [exec, execPeriodBoundary, if_pos (State.carrierOn_of on runs free)]
      simp only [begun]
    have begins := s.boundary_begins n
    exact ⟨_, acts, begins.count, begins.pos, begins.opening, begins.divCnt, State.boundary_per⟩
  case edge =>
    have goes : (s.carrierOn n && !s.carrierWaits n) = true := by simp [State.carrierOn_of on runs free, State.carrierWaits, begun]
    have settled := s.edge_settled n p
    refine ⟨_, congrArg Host.Outcome.next (if_pos goes), ?_, settled⟩
    have pos := congrArg Prod.fst (settled.car n)
    rw [State.ch_modCh_self] at pos
    exact pos
  case sector =>
    obtain ⟨pl, settled⟩ := s.sectorNow_settled n k
    have core := settled.car n
    have pend : ((s.sectorNow n k).ch n).car.pendSector = none := by
      have record (u : State) : (u.ch n).car.pendSector = (u.still.ch n).car.pendSector := by
        have still : u.still.ch n = (u.ch n).still := Vector.getElem_map Chan.still n.isLt
        rw [still]
        rfl
      rw [record, settled.2, ← record, State.ch_modCh_self]
      rfl
    rw [State.ch_modCh_self] at core
    exact ⟨_, execSectorChange_now (State.carrierOn_of on runs free) atOnce waits, s.sectorNow_sector n k, pend, congrArg Prod.fst core,
      pl.legs, pl.win1, pl.win2, settled⟩
  case first =>
    have goes := State.carrierOn_of on runs free
    obtain ⟨⟨e, begins⟩, ended⟩ := s.firstBoundary_begins n
    refine ⟨fun come => ⟨_, ?_, rfl, ended, begins.pos, begins.count⟩, fun early => ?_, fun p => ?_⟩
    · rw [exec, execPeriodBoundary, if_pos goes]
      simp only [waits, come, if_true]
    · rw [exec, execPeriodBoundary, if_pos goes]
      simp only [waits, early, Bool.false_eq_true, if_false]
    · rw [exec, execPwmEdge, if_neg]
      simp [goes, State.carrierWaits, waits]
  case stopped =>
    have off := State.carrierOn_stopped stopped
    refine ⟨congrArg Host.Outcome.next (if_neg ?_), fun p => congrArg Host.Outcome.next (if_neg ?_), congrArg Host.Outcome.next (if_neg ?_)⟩ <;> simp [off]
  case counters =>
    refine ⟨_, congrArg Host.Outcome.next (State.whenCh_on on _), ?_, ?_, ?_, OnlyRegs.wrs (OnlyRegs.refl _ s) n.val _ (by simp +decide)⟩ <;>
      simp (disch := decide) only [State.wrs, State.rd_wr_sep, State.rd_wr_lt]

end Sys2Proof.Machine

/-! SUPPORT. O8: the timers of the hand-over, the start-up, the stop and homing. -/

namespace Sys2Proof.Machine

section
variable {s : State} {n : Ch}

/-! ### HANDOVER_TIMEOUT (R143) -/

theorem execHandoverTimeout_none (on : s.chOn n = true) (h : s.rd R.CH_STATUS_HO_DEFER n.val = 0) : exec (.handoverTimeout n) s = .next s := by
  have idle : (!s.on R.CH_STATUS_HO_DEFER n.val) = true := by rw [State.on, h]; rfl
  rw [exec, execHandoverTimeout, State.whenCh_on on]
  exact congrArg Host.Outcome.next (if_pos idle)

/-- A deferral that times out: its event, then what HO_POLICY names. -/
theorem execHandoverTimeout_defers (on : s.chOn n = true) (h : s.rd R.CH_STATUS_HO_DEFER n.val ≠ 0) : exec (.handoverTimeout n) s = .next
    (match s.run R.CH_MODE_HO_POLICY n.val with
      | 0 => (s.wr R.CH_IRQ_HO_TIMEOUT n.val 1).hoEnd n
      | 1 => ((s.wr R.CH_IRQ_HO_TIMEOUT n.val 1).raise (srcCh n.val oHoFail) 0).settleAll
      | _ => ((s.wr R.CH_IRQ_HO_TIMEOUT n.val 1).wrs n.val [(R.CH_STATUS_HO_DEFER, 0), (R.CH_STATUS_HO_BLEND, 1)]).modHo n
          fun h => { h with k := 0, last := 0 }) := by
  have waits : ¬(!s.on R.CH_STATUS_HO_DEFER n.val) = true := by simp [State.on, h]
  have policy : (s.wr R.CH_IRQ_HO_TIMEOUT n.val 1).run R.CH_MODE_HO_POLICY n.val = s.run R.CH_MODE_HO_POLICY n.val := State.run_wr_ch (by decide) s n 1
  rw [exec, execHandoverTimeout, State.whenCh_on on]
  simp only [if_neg waits, policy, State.raiseCh] <;> rfl

/-- The fields of a hand-over that has timed out. -/
def handoverFields (n : Ch) : List (Nat × Word) := [R.CH_IRQ_HO_TIMEOUT.at n.val, R.CH_STATUS_HO_DEFER.at n.val, R.CH_STATUS_HO_BLEND.at n.val]

theorem State.handover_ends (s : State) (n : Ch) :
    ∃ h : Ho, let t := (s.wr R.CH_IRQ_HO_TIMEOUT n.val 1).hoEnd n
      t.rd R.CH_IRQ_HO_TIMEOUT n.val = 1 ∧ t.rd R.CH_STATUS_HO_DEFER n.val = 0 ∧ t.rd R.CH_STATUS_HO_BLEND n.val = 0 ∧
      t.ch n = { s.ch n with ho := h } ∧ OnlyChan n (handoverFields n) s t := by
  have wr := (OnlyChan.refl n (handoverFields n) s).wr R.CH_IRQ_HO_TIMEOUT n.val 1 (by decide) (by simp [handoverFields])
  refine ⟨_, ?irq, ?defer, ?blend, State.ch_hoEnd _ n, (OnlyChan.wrs wr n.val _ (by simp +decide [handoverFields])).modCh _⟩
  all_goals simp (disch := decide) only [State.hoEnd, State.rd_modCh, State.wrs, State.rd_wr_sep, State.rd_wr_lt]

theorem State.handover_blends (s : State) (n : Ch) :
    let t := ((s.wr R.CH_IRQ_HO_TIMEOUT n.val 1).wrs n.val [(R.CH_STATUS_HO_DEFER, 0), (R.CH_STATUS_HO_BLEND, 1)]).modHo n
      fun h => { h with k := 0, last := 0 }
    t.rd R.CH_IRQ_HO_TIMEOUT n.val = 1 ∧ t.rd R.CH_STATUS_HO_DEFER n.val = 0 ∧ t.rd R.CH_STATUS_HO_BLEND n.val = 1 ∧
      t.ch n = { s.ch n with ho := { (s.ch n).ho with k := 0, last := 0 } } ∧ OnlyChan n (handoverFields n) s t := by
  have wr := (OnlyChan.refl n (handoverFields n) s).wr R.CH_IRQ_HO_TIMEOUT n.val 1 (by decide) (by simp [handoverFields])
  refine ⟨?irq, ?defer, ?blend, State.ch_modCh_self _ n _, (OnlyChan.wrs wr n.val _ (by simp +decide [handoverFields])).modCh _⟩
  all_goals simp (disch := decide) only [State.modHo, State.rd_modCh, State.wrs, State.rd_wr_sep, State.rd_wr_lt]

/-! ### ALIGN_END and CATCH_OBSERVE_TIMEOUT (R292, R297) -/

/-- What ends the alignment: the hand-over is requested where the pair's angle is valid, the start fails where it is not. -/
def State.alignEnds (s : State) (n : Ch) (q : Samp) : State :=
  if (s.pairVal n q (s.ch n).ho.fb (s.ch n).ho.fb2 16 16 0#32).val.ok then s.suAsk n else (s.suFail n).settleAll

theorem execAlignEnd_aligned (on : s.chOn n = true) (starts : s.chState n = .starting) (phase : s.rd R.SPT_STATUS_SU_PHASE n.val = 1)
    (fresh : (s.ch n).ho.asked = false) (encoder : s.hoNames n 1 = false) : exec (.alignEnd n) s = .next
      ((if s.hoNames n 2 then s.wrs n.val [(R.SPT_AOFS_VALID, 1), (R.SPT_AOFS_ALIGN_OFS, (s.run R.SPT_ALIGN_ANG n.val + 65536 -
          s.elecAngle n (s.spiRaw n (s.spiSlot n).1) (2 ^ 24) 0) % 65536)]
        else if s.hoNames n 3 then
          match s.scxOf n with
          | some m => s.wrs n.val [(R.SPT_AOFS_VALID, 1), (R.SPT_AOFS_ALIGN_OFS, (s.run R.SPT_ALIGN_ANG n.val + 65536 -
              s.elecAngle n (s.rd R.SCX_ANGLE_PHI m.val) 65536 0) % 65536)]
          | none => s
        else s).alignEnds n ⟨0, 0, s.now, s.ticks, 0, 0, 0, true⟩) := by
  have aligning : ¬(s.chState n != .starting || s.rd R.SPT_STATUS_SU_PHASE n.val != 1 || (s.ch n).ho.asked) = true := by simp [starts, phase, fresh]
  rw [exec, execAlignEnd, State.whenCh_on on]
  simp only [if_neg aligning, encoder, Bool.false_eq_true, if_false]
  rfl

theorem execCatchObserveTimeout_ends (on : s.chOn n = true) (starts : s.chState n = .starting) (phase : s.rd R.SPT_STATUS_SU_PHASE n.val = 7) :
    exec (.catchObserveTimeout n) s = .next
      (if s.on R.POS_STATUS_SPD_VALID n.val && f32Lt (f32Abs (s.rdw R.POS_SPEED n.val)) (s.runw R.SPT_CATCH_WMIN n.val) ||
          ((s.fb n == 4 || s.fb2 n == 4) && decide ((s.ch n).obs.obs.st ≠ 2) &&
            f32Lt (vecLen ((s.ch n).obs.obs.eG, (s.ch n).obs.obs.eD)) (s.runw R.OBS_EMF_MIN n.val)) then
        (if s.run R.SPT_CATCH_FALLBACK n.val = 6 then (s.wr R.SPT_IRQ_CATCH_FALLBACK n.val 1).suDone n
          else (s.wr R.SPT_IRQ_CATCH_FALLBACK n.val 1).suBegin n (s.run R.SPT_CATCH_FALLBACK n.val)).settle n
      else (s.suFail n).settleAll) := by
  have observes : ¬(s.chState n != .starting || s.rd R.SPT_STATUS_SU_PHASE n.val != 7) = true := by simp [starts, phase]
  rw [exec, execCatchObserveTimeout, State.whenCh_on on]
  simp only [if_neg observes]

/-! ### Stopping and homing (R298, R302) -/

theorem execHomingTimeout_runs {k : Fin 16} (on : s.chOn n = true) (runs : (s.ch n).homeRun = true) (held : s.holder n.val = some k)
    (homing : (s.job k).typ = jHoming) : exec (.homingTimeout n) s = .next (s.jobFail k cTimeout) := by
  rw [exec, execHomingTimeout, State.whenCh_on on]
  simp only [runs, Bool.not_true, Bool.false_eq_true, if_false, held, homing, if_true]

end

/-- Settles O8: each timer by what it ends. -/
theorem stateTimersEnd : Obligations.StateTimersEnd := by
  unfold Obligations.StateTimersEnd
  intro n s on
  have acts {f : State → State} {t : State} (h : f s = t) : Host.Outcome.next (s.whenCh n f) = (.next t : Host.Outcome State Fault Refusal) :=
    congrArg Host.Outcome.next ((State.whenCh_on on f).trans h)
  refine ⟨?policy0, ?policy1, ?policy2, execHandoverTimeout_none on, fun starts => acts (if_pos (by rw [starts]; rfl)),
    fun other => acts (if_neg (by simpa using other)), ?angle, ?offset, ?slow, ?fails, ?stops, ?injects, ?others,
    fun k runs held homing => execHomingTimeout_runs on runs held homing, fun idle => acts (if_pos (by rw [idle]; rfl))⟩
  case policy0 =>
    intro waits policy
    obtain ⟨h, ends⟩ := s.handover_ends n
    refine ⟨_, h, (execHandoverTimeout_defers on waits).trans ?_, ends⟩
    simp only [policy]
  case policy1 =>
    intro waits policy
    simp only [execHandoverTimeout_defers on waits, policy]
  case policy2 =>
    intro waits policy
    refine ⟨_, (execHandoverTimeout_defers on waits).trans ?_, s.handover_blends n⟩
    generalize s.run R.CH_MODE_HO_POLICY n.val = p at policy
    match p, policy with
    | p + 2, _ => rfl
  case angle =>
    intro starts phase fresh encoder spi resolver
    rw [execAlignEnd_aligned on starts phase fresh encoder, spi, resolver]
    rfl
  case offset =>
    rintro v starts phase fresh encoder spi rfl
    rw [execAlignEnd_aligned on starts phase fresh encoder, spi]
    rfl
  case slow =>
    intro starts phase valid slow
    have measured : s.on R.POS_STATUS_SPD_VALID n.val = true := bne_iff_ne.2 valid
    refine ⟨fun method => ?_, fun none => ?_⟩
    · rw [execCatchObserveTimeout_ends on starts phase, measured, slow, if_neg method]
      rfl
    · rw [execCatchObserveTimeout_ends on starts phase, measured, slow, if_pos none]
      rfl
  case fails =>
    intro starts phase first second fast
    have sensor : (s.fb n == 4 || s.fb2 n == 4) = false := by simp [first, second]
    have turning : (s.on R.POS_STATUS_SPD_VALID n.val && f32Lt (f32Abs (s.rdw R.POS_SPEED n.val)) (s.runw R.SPT_CATCH_WMIN n.val)) = false := by
      rcases fast with fast | fast <;> simp [State.on, fast]
    simp only [execCatchObserveTimeout_ends on starts phase, turning, sensor, Bool.false_and, Bool.or_self, Bool.false_eq_true, if_false]
  case stops =>
    intro stopping
    exact ⟨_, acts (if_pos (by rw [stopping]; rfl)), State.rd_wr_lt (by decide) (by decide) s n.val, State.ch_ask _ n _ _,
      ((OnlyChan.refl n _ s).wr _ _ _ (by decide) (by simp)).modCh _⟩
  case injects =>
    intro stopping phase
    exact ⟨_, acts (if_pos (by rw [stopping, phase]; rfl)), State.ch_ask s n _ _, (OnlyChan.refl n _ s).modCh _⟩
  case others =>
    intro other
    exact ⟨acts (if_neg (by simpa using other)), acts (if_neg (by simp [other]))⟩

end Sys2Proof.Machine

/-! SUPPORT. O16 to O19: the fault collector, the halt net and the safe-state path. -/

namespace Sys2Proof.Machine

/-! ### Faults raised with the switches that a comparator source names (R358) -/

/-- The part runs with channel 0 powered, and everything else as reset leaves it. -/
def channelPowered : State := ({ State.reset with pwr.mode := .run }).wr R.PWR_DOM_STATE_ON 0 1

/-- Refutes O16: a raise of a VDS source names its own switch (R358) where the statement's `raiseNew` with no switch names none; 0x48 is the
first VDS source of channel 0. -/
theorem not_faultSourcesReport : ¬ Obligations.FaultSourcesReport := by
  unfold Obligations.FaultSourcesReport
  intro h
  obtain ⟨-, -, raised, -⟩ := h 0x48#9 channelPowered
  have powered : ∀ k, srcChan (0x48#9).toNat = some k → channelPowered.domOn k = true := by
    intro k hk
    obtain rfl : 0 = k := Option.some.inj hk
    decide +kernel
  obtain ⟨-, -, new, -⟩ := raised (by decide +kernel) (by decide +kernel) powered (by decide) (by decide) (Or.inr (by decide +kernel))
  have same := new (by decide +kernel) (by decide +kernel)
  have names : ((channelPowered.raise 0x48 0).fr 0x48).named = 1 := by decide +kernel
  have none : ((channelPowered.raiseNew 0x48 0 0xF { channelPowered.fr 0x48 with
      events := min ((channelPowered.fr 0x48).events + 1) 65535, cond := !srcIsEvent 0x48 }).fr 0x48).named = 0 := by decide +kernel
  exact absurd (names.symm.trans ((congrArg (fun t => (State.fr t 0x48).named) same).trans none)) (by decide)

/-! ### The record of one source -/

theorem State.fr_setFr (s : State) (i : Nat) (r : FltRec) (k : Nat) : (s.setFr i r).fr k = if i = k then r else s.fr k :=
  mapGet_mapPut fltReset s.flt i k r

theorem State.fr_setFr_self (s : State) (i : Nat) (r : FltRec) : (s.setFr i r).fr i = r :=
  (s.fr_setFr i r i).trans (if_pos rfl)

theorem State.fr_setFr_ne (s : State) {i k : Nat} (r : FltRec) (ne : k ≠ i) : (s.setFr i r).fr k = s.fr k :=
  (s.fr_setFr i r k).trans (if_neg ne.symm)

theorem OnlyRegs.setFr (s : State) (i : Nat) (r : FltRec) : OnlyRegs [] s { s.setFr i r with flt := s.flt } := OnlyRegs.refl [] s

theorem Settled.setFr {l : List (Nat × Word)} {s t : State} (h : Settled l s t) (i : Nat) (r : FltRec) : Settled l s (t.setFr i r) :=
  State.setFr_keeps (settles_settled l s) h

theorem Settled.faultEnd {l : List (Nat × Word)} {s t : State} (h : Settled l s t) (i : Nat) : Settled l s (t.faultEnd i) :=
  State.faultEnd_keeps (settles_settled l s) h

/-! ### The commands of the selected source -/

theorem State.fltClear_clears {s : State} {i : Nat} (latched : (s.fr i).st = .latched) (absent : (s.fr i).cond = false)
    (below : (s.fr i).inCls ≠ clsCrit) : s.fltClear i = (s.setFr i { s.fr i with denied := false }).faultEnd i :=
  if_pos (by simp [latched, absent, below])

theorem State.fltClear_denies {s : State} {i : Nat} (bar : (s.fr i).st ≠ .latched ∨ (s.fr i).cond = true ∨ (s.fr i).inCls = clsCrit) :
    s.fltClear i = s.setFr i { s.fr i with denied := true } := by
  refine if_neg fun ok => ?_
  simp only [Bool.and_eq_true, beq_iff_eq, Bool.not_eq_true', bne_iff_ne] at ok
  obtain ⟨⟨latched, absent⟩, below⟩ := ok
  exact bar.elim (· latched) (Or.rec (fun present => absurd (absent.symm.trans present) Bool.false_ne_true) below)

/-- The selected source of the FLTS page is one the part has. -/
theorem execFltsClear_acts {s : State} (has : s.srcDisabled s.fltsSel = false) : exec .fltsClear s = .next (s.fltClear s.fltsSel).settleAll :=
  congrArg Host.Outcome.next (if_neg (ne_true_of_eq_false has))

theorem execFltsCfgWrite_open {s : State} (v : Word) (unlocked : s.locked 5 = false) : exec (.fltsCfgWrite v) s = .next (s.fltsCfg v.toNat) :=
  congrArg Host.Outcome.next (if_neg (ne_true_of_eq_false unlocked))

theorem execFltsTimeWrite_open {s : State} (v : Word) (unlocked : s.locked 5 = false) : exec (.fltsTimeWrite v) s = .next (s.fltsTime v.toNat) :=
  congrArg Host.Outcome.next (if_neg (ne_true_of_eq_false unlocked))

theorem State.fltsCfg_refused {s : State} {v : Nat} (has : s.srcDisabled s.fltsSel = false)
    (refused : cfgRefused s.fltsSel (v % 8) (v / 16 % 16) (v / 256 % 16) (s.fr s.fltsSel) = true) : s.fltsCfg v = s.wr R.FLT_IRQ_CFG_DENIED 0 1 := by
  unfold State.fltsCfg
  exact (if_neg (ne_true_of_eq_false has)).trans (if_pos refused)

theorem State.fltsCfg_taken {s : State} {v : Nat} (has : s.srcDisabled s.fltsSel = false)
    (ok : cfgRefused s.fltsSel (v % 8) (v / 16 % 16) (v / 256 % 16) (s.fr s.fltsSel) = false) (unmasked : (s.fr s.fltsSel).st ≠ .masked) :
    s.fltsCfg v = s.setFr s.fltsSel ((s.fr s.fltsSel).configured (v % 8) (v / 16 % 16) (v / 256 % 16)) := by
  unfold State.fltsCfg
  refine (if_neg (ne_true_of_eq_false has)).trans ((if_neg (ne_true_of_eq_false ok)).trans (if_neg ?_))
  simp [unmasked]

theorem State.fltsTime_refused {s : State} {v : Nat} (has : s.srcDisabled s.fltsSel = false)
    (bad : srcNoRetry s.fltsSel = true ∨ timeOk v = false) : s.fltsTime v = s.wr R.FLT_IRQ_CFG_DENIED 0 1 := by
  unfold State.fltsTime
  exact (if_neg (ne_true_of_eq_false has)).trans (if_pos (by simpa using bad))

theorem State.fltsTime_taken {s : State} {v : Nat} (has : s.srcDisabled s.fltsSel = false) (retries : srcNoRetry s.fltsSel = false)
    (ok : timeOk v = true) : s.fltsTime v =
      s.setFr s.fltsSel { s.fr s.fltsSel with wait := v % 256, quiet := v / 256 % 256, window := v / 65536 % 256 } := by
  unfold State.fltsTime
  exact (if_neg (ne_true_of_eq_false has)).trans (if_neg (by simp [retries, ok]))

/-- A write of the FLT page is denied. -/
theorem State.cfgDenied_shows (s : State) : (s.wr R.FLT_IRQ_CFG_DENIED 0 1).rd R.FLT_IRQ_CFG_DENIED 0 = 1 ∧
    OnlyRegs [R.FLT_IRQ_CFG_DENIED.at 0] s (s.wr R.FLT_IRQ_CFG_DENIED 0 1) :=
  ⟨State.rd_wr_lt (by decide) (by decide) s 0, (OnlyRegs.refl _ s).wr _ _ _ (by decide) (by simp)⟩

/-- Settles O17: the selected source's record, or CFG_DENIED, takes what the command says. -/
theorem faultCommandsAct : Obligations.FaultCommandsAct := by
  unfold Obligations.FaultCommandsAct
  rintro s i rfl
  refine ⟨?clear, ?denied, rfl, ?counters, ?absent, ?cfg, ?cfgRefused, ?time, ?timeRefused, ?locked⟩
  case clear =>
    intro has latched gone below
    refine ⟨_, (execFltsClear_acts has).trans (congrArg (fun t => Host.Outcome.next (State.settleAll t)) (State.fltClear_clears latched gone below)), rfl, ?_⟩
    exact (((Settled.refl [] s).setFr _ _).faultEnd _).settleAll
  case denied =>
    intro has bar
    refine ⟨_, (execFltsClear_acts has).trans (congrArg (fun t => Host.Outcome.next (State.settleAll t)) (State.fltClear_denies bar)), rfl, ?_⟩
    exact ((Settled.refl [] s).setFr _ _).settleAll
  case counters =>
    intro has
    have present : ¬s.srcDisabled s.fltsSel = true := ne_true_of_eq_false has
    exact ⟨⟨_, congrArg Host.Outcome.next (if_neg present), s.fr_setFr_self _ _, fun k ne => s.fr_setFr_ne _ ne, OnlyRegs.setFr s _ _⟩,
      _, congrArg Host.Outcome.next (if_neg present), s.fr_setFr_self _ _, fun k ne => s.fr_setFr_ne _ ne, OnlyRegs.setFr s _ _⟩
  case absent => exact fun none => ⟨congrArg Host.Outcome.next (if_pos none), congrArg Host.Outcome.next (if_pos none), congrArg Host.Outcome.next (if_pos none)⟩
  case cfg =>
    intro v unlocked has ok unmasked
    refine ⟨_, (execFltsCfgWrite_open v unlocked).trans (congrArg Host.Outcome.next (State.fltsCfg_taken has ok unmasked)), ?_, ?_, ?_,
      fun k ne => s.fr_setFr_ne _ ne, OnlyRegs.setFr s _ _⟩
    all_goals exact congrArg _ (s.fr_setFr_self _ _)
  case cfgRefused =>
    exact fun v unlocked has bad => ⟨_, (execFltsCfgWrite_open v unlocked).trans (congrArg Host.Outcome.next (State.fltsCfg_refused has bad)),
      s.cfgDenied_shows⟩
  case time =>
    exact fun v unlocked has retries ok => ⟨_, (execFltsTimeWrite_open v unlocked).trans (congrArg Host.Outcome.next (State.fltsTime_taken has retries ok)),
      s.fr_setFr_self _ _, fun k ne => s.fr_setFr_ne _ ne, OnlyRegs.setFr s _ _⟩
  case timeRefused =>
    exact fun v unlocked has bad => ⟨_, (execFltsTimeWrite_open v unlocked).trans (congrArg Host.Outcome.next (State.fltsTime_refused has bad)),
      s.cfgDenied_shows⟩
  case locked => exact fun v lock => ⟨congrArg Host.Outcome.next (if_pos lock), congrArg Host.Outcome.next (if_pos lock)⟩

/-! ### HALT_N and the assertion of the halt net -/

theorem State.haltPin_only (s : State) : OnlyRegs [R.FBK_STATUS_PIN.at 0] s s.haltPin :=
  (OnlyRegs.refl _ s).wr _ _ _ (by decide) (by simp)

theorem State.rd_haltPin (s : State) : s.haltPin.rd R.FBK_STATUS_PIN 0 = if s.haltLow = true ∨ s.rd R.FBK_STATUS_DRIVING 0 ≠ 0 then 0 else 1 := by
  have level : (!s.haltLow && !s.on R.FBK_STATUS_DRIVING 0) = true ↔ ¬(s.haltLow = true ∨ s.rd R.FBK_STATUS_DRIVING 0 ≠ 0) := by
    simp [State.on]
  have bit : (if (!s.haltLow && !s.on R.FBK_STATUS_DRIVING 0) = true then 1 else 0) =
      if s.haltLow = true ∨ s.rd R.FBK_STATUS_DRIVING 0 ≠ 0 then 0 else 1 := by
    simp only [level, ite_not]
  rw [State.haltPin, State.flag, bit, State.rd_wr_lt (by decide) (by split <;> decide)]

/-- A register write that the test of the release leaves untested. -/
theorem OnlyRegs.withRelPend {l : List (Nat × Word)} {s t : State} (h : OnlyRegs l s t) (b : Bool) :
    OnlyRegs l s { ({ t with relPend := b } : State) with relPend := s.relPend } := by
  obtain ⟨regs, mem, rest⟩ := h
  refine ⟨regs, mem, ?_⟩
  have moved : ({ ({ t with relPend := b } : State) with relPend := s.relPend } : State).rest = { t.rest with relPend := s.relPend } := rfl
  rw [moved, rest]
  rfl

theorem OnlyRegs.haltLow {l : List (Nat × Word)} {s t : State} (h : OnlyRegs l s t) : t.haltLow = s.haltLow := show t.rest.haltLow = s.rest.haltLow from h.2.2 ▸ rfl

theorem OnlyRegs.relPend {l : List (Nat × Word)} {s t : State} (h : OnlyRegs l s t) : t.relPend = s.relPend := show t.rest.relPend = s.rest.relPend from h.2.2 ▸ rfl

/-- A register write in the state in which another device drives HALT_N. -/
theorem OnlyRegs.fromHaltLow {l : List (Nat × Word)} {s t : State} {b : Bool} (h : OnlyRegs l { s with haltLow := b } t) :
    OnlyRegs l s { t with haltLow := s.haltLow } := by
  obtain ⟨regs, mem, rest⟩ := h
  refine ⟨regs, mem, ?_⟩
  have moved : ({ t with haltLow := s.haltLow } : State).rest = { t.rest with haltLow := s.haltLow } := rfl
  rw [moved, rest]
  rfl

/-- The state in which the release is tested: HALT_N as it stands, the test no longer due. -/
def State.pinTested (s : State) (pin : Bool) : State := { s with haltLow := !pin, relPend := false }

/-- A register write in the state in which the release is tested. -/
theorem OnlyRegs.fromPinTested {l : List (Nat × Word)} {s t : State} {pin : Bool} (h : OnlyRegs l (s.pinTested pin) t) :
    OnlyRegs l s { t with haltLow := s.haltLow, relPend := s.relPend } := by
  obtain ⟨regs, mem, rest⟩ := h
  refine ⟨regs, mem, ?_⟩
  have moved : ({ t with haltLow := s.haltLow, relPend := s.relPend } : State).rest =
    { t.rest with haltLow := s.haltLow, relPend := s.relPend } := rfl
  rw [moved, rest]
  rfl

/-- The orders of the raises hold no register. -/
theorem State.rd_orders (u : State) (a b : Nat) (f : Fld) (i : Nat) : ({ u with haltSeq := a, fltSeq := b } : State).rd f i = u.rd f i := rfl

theorem State.chOn_of_regs {s t : State} (e : t.regs = s.regs) (n : Ch) : t.chOn n = s.chOn n := by
  simp only [State.chOn, State.domOn, State.bit, State.rd, State.word, e]

/-- A field that the frame hides is written. -/
theorem Settled.wrHas {l : List (Nat × Word)} {s t : State} (h : Settled l s t) {f : Fld} {c i : Nat} (v : Nat) (hf : settleHas c f = true)
    (hi : i < c) : Settled l s (t.wr f i v) := (settles_settled l s).wr hf hi h

theorem State.rd_haltPin_ne (s : State) (f : Fld) (i : Nat) (hf : f.ok) (c : f.mask &&& maskAt [R.FBK_STATUS_PIN.at 0] (f.addr i) = 0#32) :
    s.haltPin.rd f i = s.rd f i := s.haltPin_only.1.rd f i hf c

/-- The fields with which the halt net shows its assertion for `cause`. -/
def State.haltFields (s : State) (cause : Nat) : List (Fld × Nat) :=
  [(R.FBK_STATUS_HALTED, 1), (R.FBK_STATUS_CAUSE, cause), (R.FBK_IRQ_HALT_EVT, 1), (R.FBK_HALT_TIME_TIME, s.ticksLo),
    (R.FBK_STATUS_REL_BLOCKED, 0), (R.FBK_STATUS_DRIVING, s.rd R.FBK_CFG_HOUT_EN 0)]

theorem State.haltAssert_asserted {s : State} (asserted : s.rd R.FBK_STATUS_HALTED 0 ≠ 0) (cause : Nat) : s.haltAssert cause = s := by
  unfold State.haltAssert
  exact if_pos (bne_iff_ne.2 asserted)

/-- No channel is powered: what each powered channel would do is not done. -/
theorem State.forCh_whenCh_off {s : State} (off : ∀ n, s.chOn n = false) (f : Ch → State → State) : (s.forCh fun n s => s.whenCh n (f n)) = s := by
  simp only [State.forCh, State.whenCh_off (off _)]

theorem State.forCh_ordered_off {u : State} (off : ∀ n, u.chOn n = false) (a b : Nat) (f : Ch → State → State) :
    (({ u with haltSeq := a, fltSeq := b } : State).forCh fun n s => s.whenCh n (f n)) = { u with haltSeq := a, fltSeq := b } :=
  State.forCh_whenCh_off (s := { u with haltSeq := a, fltSeq := b }) off f

/-- Without a powered channel the assertion is what FBK shows of it. -/
theorem State.haltAssert_unpowered {s : State} (idle : s.rd R.FBK_STATUS_HALTED 0 = 0) (off : ∀ n, s.chOn n = false) (cause : Nat) :
    s.haltAssert cause =
      { (s.wrs 0 (s.haltFields cause)).haltPin with
        haltSeq := (s.wrs 0 (s.haltFields cause)).fltSeq, fltSeq := (s.wrs 0 (s.haltFields cause)).fltSeq + 1 } := by
  have kept : OnlyRegs [R.FBK_STATUS_HALTED.at 0, R.FBK_STATUS_CAUSE.at 0, R.FBK_IRQ_HALT_EVT.at 0, R.FBK_HALT_TIME_TIME.at 0,
      R.FBK_STATUS_REL_BLOCKED.at 0, R.FBK_STATUS_DRIVING.at 0] s (s.wrs 0 (s.haltFields cause)) :=
    OnlyRegs.wrs (OnlyRegs.refl _ s) 0 _ (by simp +decide [State.haltFields])
  have still (n : Ch) : (s.wrs 0 (s.haltFields cause)).haltPin.chOn n = false := by
    rw [State.chOn, State.domOn, State.bit, State.rd_haltPin_ne _ _ _ (by decide) (by decide), kept.1.rd _ _ (by decide) (by decide)]
    exact off n

  have open' : ¬s.on R.FBK_STATUS_HALTED 0 = true := by simp [State.on, idle]
  unfold State.haltAssert
  rw [if_neg open']
  exact State.forCh_ordered_off still _ _ _

theorem State.halted_shows (s : State) (cause : Nat) :
    let t : State := { (s.wrs 0 (s.haltFields cause)).haltPin with
      haltSeq := (s.wrs 0 (s.haltFields cause)).fltSeq, fltSeq := (s.wrs 0 (s.haltFields cause)).fltSeq + 1 }
    t.rd R.FBK_STATUS_HALTED 0 = 1 ∧ t.rd R.FBK_STATUS_CAUSE 0 = cause % 16 ∧ t.rd R.FBK_IRQ_HALT_EVT 0 = 1 ∧
      t.rd R.FBK_HALT_TIME_TIME 0 = s.ticks % 2 ^ 32 ∧ t.rd R.FBK_STATUS_DRIVING 0 = s.rd R.FBK_CFG_HOUT_EN 0 := by
  have shown (f : Fld) (hf : f.ok) (c : f.mask &&& maskAt [R.FBK_STATUS_PIN.at 0] (f.addr 0) = 0#32) :
      ({ (s.wrs 0 (s.haltFields cause)).haltPin with
        haltSeq := (s.wrs 0 (s.haltFields cause)).fltSeq, fltSeq := (s.wrs 0 (s.haltFields cause)).fltSeq + 1 } : State).rd f 0 =
      (s.wrs 0 (s.haltFields cause)).rd f 0 := (State.rd_orders _ _ _ f 0).trans (State.rd_haltPin_ne _ f 0 hf c)
  have driving : s.rd R.FBK_CFG_HOUT_EN 0 % R.FBK_STATUS_DRIVING.size = s.rd R.FBK_CFG_HOUT_EN 0 :=
    Nat.mod_eq_of_lt (Fld.get_lt R.FBK_CFG_HOUT_EN _)
  have time : s.ticks % 2 ^ 32 % R.FBK_HALT_TIME_TIME.size = s.ticks % 2 ^ 32 := Nat.mod_mod _ _
  refine ⟨?_, ?_, ?_, ?_, ?_⟩
  all_goals
    rw [shown _ (by decide) (by decide)]
    simp (disch := decide) only [State.haltFields, State.wrs, State.rd_wr_sep, State.rd_wr_lt, State.rd_wr, State.ticksLo, driving, time] <;> rfl

/-! ### The release -/

theorem State.releaseOk_iff (s : State) (pin : Bool) : s.releaseOk pin = true ↔ (pin = true ∨ s.rd R.FBK_CFG_HIN_EN 0 = 0) ∧
    (∀ e ∈ s.inFault, e.2.inCls ≠ clsHalt ∧ e.2.inReact ≠ rDevHalt) ∧ s.rngHalt = false ∧
    (s.domOn dLink = false ∨ ∀ p < 4, s.rd R.LNK_STATUS_HALT_RX p = 0) := by
  have ports : (!(List.range 4).any fun p => s.domOn dLink && s.on R.LNK_STATUS_HALT_RX p) = true ↔
      s.domOn dLink = false ∨ ∀ p < 4, s.rd R.LNK_STATUS_HALT_RX p = 0 := by
    cases s.domOn dLink <;> simp [State.on]
  rw [State.releaseOk, Bool.and_eq_true, Bool.and_eq_true, Bool.and_eq_true, ports]
  simp [State.on, and_assoc]

theorem State.release_halted {s : State} (asserted : s.rd R.FBK_STATUS_HALTED 0 ≠ 0) :
    s.release = { (s.wr R.FBK_STATUS_DRIVING 0 0).haltPin with relPend := true } := if_pos (bne_iff_ne.2 asserted)

theorem State.release_idle {s : State} (idle : s.rd R.FBK_STATUS_HALTED 0 = 0) : s.release = s := if_neg (by simp [State.on, idle])

/-- What RELEASE leaves: HALT_N is driven by other devices alone. -/
theorem State.released_shows (s : State) : let t : State := { (s.wr R.FBK_STATUS_DRIVING 0 0).haltPin with relPend := true }
    t.rd R.FBK_STATUS_DRIVING 0 = 0 ∧ t.rd R.FBK_STATUS_PIN 0 = (if s.haltLow = true then 0 else 1) ∧
      OnlyRegs [R.FBK_STATUS_DRIVING.at 0, R.FBK_STATUS_PIN.at 0] s { t with relPend := s.relPend } := by
  have driving : (s.wr R.FBK_STATUS_DRIVING 0 0).rd R.FBK_STATUS_DRIVING 0 = 0 := State.rd_wr_lt (by decide) (by decide) s 0
  have low : (s.wr R.FBK_STATUS_DRIVING 0 0).haltLow = s.haltLow := State.wr_haltLow s _ _ _
  have only : OnlyRegs [R.FBK_STATUS_DRIVING.at 0, R.FBK_STATUS_PIN.at 0] s (s.wr R.FBK_STATUS_DRIVING 0 0).haltPin :=
    ((OnlyRegs.refl _ s).wr _ _ _ (by decide) (by simp)).wr _ _ _ (by decide) (by simp)
  have pin : (s.wr R.FBK_STATUS_DRIVING 0 0).haltPin.rd R.FBK_STATUS_PIN 0 = if s.haltLow = true then 0 else 1 := by
    rw [State.rd_haltPin, low, driving]
    simp
  have undriven : (s.wr R.FBK_STATUS_DRIVING 0 0).haltPin.rd R.FBK_STATUS_DRIVING 0 = 0 :=
    (State.rd_haltPin_ne _ _ _ (by decide) (by decide)).trans driving
  generalize (s.wr R.FBK_STATUS_DRIVING 0 0).haltPin = u at only pin undriven
  exact ⟨undriven, pin, only.withRelPend true⟩

theorem execHaltReleaseTest_passes {s : State} {pin : Bool} (due : s.relPend = true) (ok : s.releaseOk pin = true) :
    exec (.haltReleaseTest pin) s = .next ((s.pinTested pin).haltPin.wrs 0
      [(R.FBK_STATUS_HALTED, 0), (R.FBK_STATUS_REL_BLOCKED, 0), (R.FBK_IRQ_RELEASED, 1)]).settleAll :=
  congrArg Host.Outcome.next ((if_pos due).trans (if_pos ok))

theorem execHaltReleaseTest_refuses {s : State} {pin : Bool} (due : s.relPend = true) (bad : s.releaseOk pin = false) :
    exec (.haltReleaseTest pin) s = .next ((s.pinTested pin).haltPin.wrs 0 [(R.FBK_STATUS_REL_BLOCKED, 1), (R.FBK_IRQ_REL_REFUSED, 1)]) :=
  congrArg Host.Outcome.next ((if_pos due).trans (if_neg (ne_true_of_eq_false bad)))

theorem State.haltPasses_shows (u : State) :
    let t := (u.haltPin.wrs 0 [(R.FBK_STATUS_HALTED, 0), (R.FBK_STATUS_REL_BLOCKED, 0), (R.FBK_IRQ_RELEASED, 1)]).settleAll
    t.rd R.FBK_IRQ_RELEASED 0 = 1 ∧ Settled [R.FBK_STATUS_PIN.at 0, R.FBK_IRQ_RELEASED.at 0] u t := by
  have shown : Settled [R.FBK_STATUS_PIN.at 0, R.FBK_IRQ_RELEASED.at 0] u
      (u.haltPin.wrs 0 [(R.FBK_STATUS_HALTED, 0), (R.FBK_STATUS_REL_BLOCKED, 0), (R.FBK_IRQ_RELEASED, 1)]) :=
    (((State.haltPin_keeps (settles_settled _ u) (Settled.refl _ u)).wrHas 0 (by decide) (by decide : 0 < 1)).wrHas 0 (by decide)
      (by decide : 0 < 1)).wr _ _ _ (by decide) (by simp)
  have irq : (u.haltPin.wrs 0 [(R.FBK_STATUS_HALTED, 0), (R.FBK_STATUS_REL_BLOCKED, 0), (R.FBK_IRQ_RELEASED, 1)]).rd R.FBK_IRQ_RELEASED 0 = 1 := by
    simp (disch := decide) only [State.wrs, State.rd_wr_lt]
  generalize u.haltPin.wrs 0 [(R.FBK_STATUS_HALTED, 0), (R.FBK_STATUS_REL_BLOCKED, 0), (R.FBK_IRQ_RELEASED, 1)] = t at shown irq
  exact ⟨((Settled.refl [] t).settleAll.rd _ _ (by decide) (by decide)).trans irq, shown.settleAll⟩

theorem State.haltRefuses_shows (u : State) : let t := u.haltPin.wrs 0 [(R.FBK_STATUS_REL_BLOCKED, 1), (R.FBK_IRQ_REL_REFUSED, 1)]
    t.haltLow = u.haltLow ∧ t.relPend = u.relPend ∧ t.rd R.FBK_STATUS_REL_BLOCKED 0 = 1 ∧ t.rd R.FBK_IRQ_REL_REFUSED 0 = 1 ∧
      t.rd R.FBK_STATUS_HALTED 0 = u.rd R.FBK_STATUS_HALTED 0 ∧
      OnlyRegs [R.FBK_STATUS_PIN.at 0, R.FBK_STATUS_REL_BLOCKED.at 0, R.FBK_IRQ_REL_REFUSED.at 0] u t := by
  have only : OnlyRegs [R.FBK_STATUS_PIN.at 0, R.FBK_STATUS_REL_BLOCKED.at 0, R.FBK_IRQ_REL_REFUSED.at 0] u
      (u.haltPin.wrs 0 [(R.FBK_STATUS_REL_BLOCKED, 1), (R.FBK_IRQ_REL_REFUSED, 1)]) :=
    OnlyRegs.wrs ((OnlyRegs.refl _ u).wr _ _ _ (by decide) (by simp)) 0 _ (by simp +decide)
  refine ⟨only.haltLow, only.relPend, ?_, ?_, only.1.rd _ _ (by decide) (by decide), only⟩
  all_goals simp (disch := decide) only [State.wrs, State.rd_wr_sep, State.rd_wr_lt]

/-- Settles O18: HALT_N, the halt symbols and FBK.CTRL assert the net where it is not asserted, and the test releases it or not. -/
theorem haltNetActs : Obligations.HaltNetActs := by
  unfold Obligations.HaltNetActs
  intro s
  refine ⟨?idle, ?deaf, ⟨s.rd_haltPin, s.haltPin_only⟩, ?asserted, ?releases, ?refuses, s.releaseOk_iff, ?notDue, ?expiry⟩
  case idle =>
    intro idle
    refine ⟨?pin, rfl, ?symbol, ?shows, fun cause => State.haltAssert_keeps (settles_settled [] s) (Settled.refl [] s), congrArg Host.Outcome.next (State.release_idle idle)⟩
    case pin =>
      rintro u rfl listens
      refine congrArg Host.Outcome.next (if_pos (bne_iff_ne.2 ?_))
      rwa [State.rd_haltPin_ne _ _ _ (by decide) (by decide)]
    case symbol =>
      intro p on port locked
      refine congrArg Host.Outcome.next ((State.whenPort_on on port _).trans ?_)
      exact congrArg (fun t => (State.enumPump t).settleAll) (if_pos (bne_iff_ne.2 locked))
    case shows =>
      intro cause off
      rw [State.haltAssert_unpowered idle off cause]
      exact s.halted_shows cause
  case deaf =>
    intro deaf
    have deaf' : ¬({ s with haltLow := true } : State).haltPin.on R.FBK_CFG_HIN_EN 0 = true := by
      rw [State.on, State.rd_haltPin_ne _ _ _ (by decide) (by decide)]
      exact fun h => bne_iff_ne.1 h deaf
    have only := ({ s with haltLow := true } : State).haltPin_only
    have low : ({ s with haltLow := true } : State).haltPin.haltLow = true := State.wr_haltLow _ _ _ _
    have shows := State.rd_haltPin { s with haltLow := true }
    exact ⟨_, congrArg Host.Outcome.next (if_neg deaf'), low, shows.trans (if_pos (Or.inl rfl)), only.fromHaltLow⟩
  case asserted =>
    intro asserted
    refine ⟨⟨_, congrArg Host.Outcome.next (State.release_halted asserted), rfl, s.released_shows⟩, State.haltAssert_asserted asserted, ?_⟩
    intro p on port high
    refine congrArg Host.Outcome.next ((State.whenPort_on on port _).trans ?_)
    exact congrArg (fun t => (State.enumPump t).settleAll) (if_pos ⟨bne_iff_ne.2 asserted, high⟩)
  case releases =>
    intro pin due ok
    obtain ⟨irq, kept⟩ := (s.pinTested pin).haltPasses_shows
    exact ⟨_, execHaltReleaseTest_passes due ok, congrArg State.relPend kept.2, irq, rfl, kept⟩
  case refuses =>
    intro pin due bad
    obtain ⟨low, idle, blocked, irq, halted, only⟩ := (s.pinTested pin).haltRefuses_shows
    exact ⟨_, execHaltReleaseTest_refuses due bad, idle, blocked, irq, halted, only.fromPinTested, low⟩
  case notDue => exact fun pin idle => congrArg Host.Outcome.next (if_neg (ne_true_of_eq_false idle))
  case expiry => exact fun p on port => congrArg Host.Outcome.next (State.whenPort_on on port _)

/-! ### The safe-state path -/

theorem State.whenCh_idle {s : State} {n : Ch} {f : State → State} (idle : f s = s) : s.whenCh n f = s := by
  unfold State.whenCh
  split
  · exact idle
  · rfl

theorem Settled.hl2880 {l : List (Nat × Word)} {s t : State} (h : Settled l s t) : t.hl2880 = s.hl2880 :=
  show t.still.hl2880 = s.still.hl2880 by rw [h.2]

theorem Settled.safeAssert {l : List (Nat × Word)} {s t : State} (h : Settled l s t) (n : Ch) (b : Nat) : Settled l s (t.safeAssert n b) :=
  State.safeAssert_keeps (settles_settled l s) h

theorem State.safeAssert_hl2880 (s : State) (n : Ch) (b : Nat) : (s.safeAssert n b).hl2880 = s.hl2880 := ((Settled.refl [] s).safeAssert n b).hl2880

/-- The register that shows SAFE_REQn is not the one that shows its causes. -/
theorem State.safeReq_orBits_cause (s : State) (n : Ch) (m : Nat) : (s.orBits R.SUP_SAFE_CAUSE_CAUSE 0 m).safeReq n = s.safeReq n := by
  simp (disch := decide) only [State.safeReq, State.bit, State.orBits, State.rd_wr_sep]

theorem State.safeAssert_again {s : State} {n : Ch} (held : s.bit R.SUP_STATUS_SAFE_REQ 0 n.val = true) (b : Nat) :
    s.safeAssert n b = s.orBits R.SUP_SAFE_CAUSE_CAUSE 0 (2 ^ (8 * n.val + b)) := by
  unfold State.safeAssert
  exact if_pos ((s.safeReq_orBits_cause n _).trans held)

/-- What SAFE_REQn shows as it asserts. -/
def State.safeShown (s : State) (n : Ch) (b : Nat) : State :=
  ((s.orBits R.SUP_SAFE_CAUSE_CAUSE 0 (2 ^ (8 * n.val + b))).orBits R.SUP_STATUS_SAFE_REQ 0 (2 ^ n.val)).wr R.SUP_IRQ_SAFE 0 1

theorem State.safeAssert_first {s : State} {n : Ch} (released : s.bit R.SUP_STATUS_SAFE_REQ 0 n.val = false) (quiet : s.rd R.FBK_CFG_SAFE_HALT 0 = 0)
    (b : Nat) : s.safeAssert n b = (s.safeShown n b).raise (srcCh n.val oSupSafe) 0 := by
  have shown : Settled [] s ((s.safeShown n b).raise (srcCh n.val oSupSafe) 0) :=
    ((((Settled.refl [] s).wrHas _ (by decide) (by decide : 0 < 1)).wrHas _ (by decide) (by decide : 0 < 1)).wrHas 1 (by decide)
      (by decide : 0 < 1)).raise _ _
  have still : ¬((s.safeShown n b).raise (srcCh n.val oSupSafe) 0).on R.FBK_CFG_SAFE_HALT 0 = true := by
    rw [State.on, shown.rd _ _ (by decide) (by decide)]
    exact fun h => bne_iff_ne.1 h quiet
  unfold State.safeAssert
  refine (if_neg ?_).trans (if_neg still)
  rw [State.safeReq_orBits_cause, State.safeReq, released]
  decide

theorem State.safeAll_four {s : State} (four : s.hl2880 = false) (b : Nat) :
    s.safeAll b = (((s.safeAssert 0 b).safeAssert 1 b).safeAssert 2 b).safeAssert 3 b := by
  simp only [State.safeAll, State.forCh, State.chOk, State.safeAssert_hl2880, four, Bool.false_and, Bool.not_false, if_true]

theorem State.safeAll_two {s : State} (two : s.hl2880 = true) (b : Nat) : s.safeAll b = (s.safeAssert 0 b).safeAssert 1 b := by
  simp [State.safeAll, State.forCh, State.chOk, State.safeAssert_hl2880, two]

/-- Settles O19: the requests of the safe state, and the sources of the heartbeat and the watchdog. -/
theorem safeStatePathActs : Obligations.SafeStatePathActs := by
  unfold Obligations.SafeStatePathActs
  intro n s
  refine ⟨?request, ?causes, ?absent, ?backstop, ?reached, ?supply, ?supplied, ?watchdog, ?unarmed, ?heartbeat, ?silent⟩
  case request =>
    exact fun b has => ⟨_, congrArg Host.Outcome.next (if_pos has), rfl, ((Settled.refl [] s).safeAssert n b.val).settleAll⟩
  case causes =>
    refine fun b => ⟨fun held => State.safeAssert_again held _, fun released quiet => State.safeAssert_first released quiet _, ?_⟩
    refine State.bit_orBits (by decide) s 0 _ ?_
    have : 8 * n.val + b.val < 32 := by omega
    exact Nat.pow_lt_pow_right (by decide) this
  case absent => exact fun b none => congrArg Host.Outcome.next (if_neg (ne_true_of_eq_false none))
  case backstop =>
    intro on stands notFault notLimp notIdle notHalted
    have due : (s.causeStands n 2 && !(s.chState n == .fault || s.chState n == .limp || s.chState n == .idle || s.chState n == .halted)) = true := by
      have : s.causeStands n 2 = true := by simpa [State.causeStands] using stands
      simp [this, notFault, notLimp, notIdle, notHalted]
    refine ⟨_, congrArg Host.Outcome.next ((State.whenCh_on on _).trans (if_pos due)), rfl, ((Settled.refl [] s).safeAssert n 2).settleAll⟩
  case reached =>
    intro reached
    refine congrArg Host.Outcome.next (State.whenCh_idle (if_neg ?_))
    rcases reached with h | h | h | h <;> simp [h]
  case supply =>
    intro stands
    refine ⟨_, congrArg Host.Outcome.next (if_pos (by simpa using stands)), rfl, fun four => State.safeAll_four four 3, fun two => State.safeAll_two two 3,
      Settled.settleAll (State.safeAll_keeps (settles_settled [] s) (Settled.refl [] s))⟩
  case supplied => exact fun core analog => congrArg Host.Outcome.next (if_neg (by simp [core, analog]))
  case watchdog =>
    intro on armed runs
    exact congrArg Host.Outcome.next ((State.whenCh_on on _).trans (if_pos (by simp [State.on, armed, runs])))
  case unarmed => exact fun unarmed => congrArg Host.Outcome.next (State.whenCh_idle (if_neg (by simp [State.on, unarmed])))
  case heartbeat =>
    intro on beats runs notLimp fresh level
    have due : ((s.ch n).eng.hb && s.engineRuns n) = true := by simp [State.engineRuns, beats, runs, notLimp]
    refine congrArg Host.Outcome.next ((State.whenCh_on on _).trans ((if_pos due).trans (if_neg ?_)))
    simp [fresh]
  case silent => exact fun silent => congrArg Host.Outcome.next (State.whenCh_idle (if_neg (by simp [silent])))

end Sys2Proof.Machine

/-! SUPPORT. O20, O21: the supervisor Ranger. -/

namespace Sys2Proof.Machine

/-! ### What a raise reaches, of the registers and of one part of the state

`Settled` keeps every record that settling does not touch; `Reached` keeps one, so that a command may change others. -/

/-- The register bits outside the settling's and outside `l` are kept, and so is the part `g` of the state. -/
def Reached {α : Type} (l : List (Nat × Word)) (g : State → α) (s t : State) : Prop :=
  RegsKept (fun a => settleBits a ||| maskAt l a) s t ∧ g t = g s

section
variable {α : Type} {l : List (Nat × Word)} {g : State → α} {s t : State}

theorem Reached.refl (l : List (Nat × Word)) (g : State → α) (s : State) : Reached l g s s := ⟨RegsKept.refl _ s, rfl⟩

theorem Reached.trans {u : State} (h : Reached l g s t) (k : Reached l g t u) : Reached l g s u := ⟨h.1.trans k.1, k.2.trans h.2⟩

theorem Settled.reached (h : Settled l s t) (part : ∀ s t : State, t.still = s.still → g t = g s) : Reached l g s t := ⟨h.1, part s t h.2⟩

theorem settles_reached (l : List (Nat × Word)) (part : ∀ s t : State, t.still = s.still → g t = g s) (s : State) : Settles (Reached l g s) where
  word a w e h := h.trans (((settles_settled l _).word a w e (Settled.refl l _)).reached part)
  same u _ e k h := h.trans (((settles_settled l u).same u e k (Settled.refl l u)).reached part)

theorem Reached.rd (h : Reached l g s t) (f : Fld) (i : Nat) (hf : f.ok) (c : f.mask &&& (settleBits (f.addr i) ||| maskAt l (f.addr i)) = 0#32) :
    t.rd f i = s.rd f i := h.1.rd f i hf c

/-- A field of `l` is written. -/
theorem Reached.wr (part : ∀ s t : State, t.still = s.still → g t = g s) (h : Reached l g s t) (f : Fld) (i v : Nat) (hf : f.ok) (c : f.at i ∈ l) :
    Reached l g s (t.wr f i v) := h.trans (((Settled.refl l t).wr f i v hf c).reached part)

/-- A change that spares the registers and the part `g`. -/
theorem Reached.record {u : State} (h : Reached l g s t) (regs : u.regs = t.regs) (part : g u = g t) : Reached l g s u :=
  ⟨h.1.of_regs regs, part.trans h.2⟩

end

/-! ### Self-tests, the lockstep compare, the Lodge's liveness (R372, R373) -/

/-- Ranger's self-test is due: from step 6 of the boot, until it has passed. -/
theorem selftest_due {s : State} (boot : s.pwr.mode = .boot) (step : 6 ≤ s.pwr.step) (open' : s.rd R.SUP_STATUS_POST_OK 0 = 0) :
    (s.pwr.mode == .boot && decide (6 ≤ s.pwr.step) && !s.on R.SUP_STATUS_POST_OK 0) = true := by
  simp [State.on, boot, step, open']

theorem selftest_over {s : State} (passed : s.rd R.SUP_STATUS_POST_OK 0 ≠ 0) :
    ¬(s.pwr.mode == .boot && decide (6 ≤ s.pwr.step) && !s.on R.SUP_STATUS_POST_OK 0) = true := by
  simp [State.on, passed]

/-- A boot that is held keeps everything else. -/
theorem State.hold_boot {s : State} (boot : s.pwr.mode = .boot) (cause : Nat) :
    (s.hold cause).pwr.mode = .held ∧ (s.hold cause).pwr.hold = cause ∧ OnlyRegs [] s { s.hold cause with pwr := s.pwr } := by
  have held : s.hold cause = { s with pwr.mode := .held, pwr.hold := cause } := if_neg (by simp [boot])
  rw [held]
  exact ⟨rfl, rfl, OnlyRegs.refl [] s⟩

theorem execLodgeLivenessCheck_runs {s : State} (on : s.rangerOn = true) (c : BitVec 32) (k : Nat)
    (count : (if c.toNat = s.rng.alive then s.rng.same + 1 else 0) = k) : exec (.lodgeLivenessCheck c) s =
      .next (if 10 ≤ k then ({ s with rng.alive := c.toNat, rng.same := k } : State).deviceReset 0x80
        else { s with rng.alive := c.toNat, rng.same := k }) := by
  subst count
  exact congrArg Host.Outcome.next (if_neg (by simp [on]))

/-! ### The windows of the clock monitors (R70) -/

/-- The registers of Canopy time's source and of its LOCK. -/
def timeFields : List (Nat × Word) :=
  [R.TIME_STATUS_SRC.at 0, R.TIME_STATUS_UPPORT.at 0, R.TIME_STATUS_HOLDOVER.at 0, R.TIME_STATUS_LOCK.at 0, R.TIME_IRQ_LOCKED.at 0,
    R.TIME_IRQ_LOCK_LOST.at 0]

/-- What a monitor's fault and its end reach beside the counts of the monitors. -/
def MonKept (s t : State) : Prop := Reached timeFields (fun s => s.rng.mon) s t

theorem mon_of_still (s t : State) (e : t.still = s.still) : t.rng.mon = s.rng.mon := show t.still.rng.mon = s.still.rng.mon by rw [e]

theorem settles_mon (s : State) : Settles (MonKept s) := settles_reached timeFields mon_of_still s

theorem MonKept.wr {s t : State} (h : MonKept s t) (f : Fld) (v : Nat) (hf : f.ok) (c : f.at 0 ∈ timeFields) : MonKept s (t.wr f 0 v) :=
  Reached.wr mon_of_still h f 0 v hf c

theorem MonKept.condSet {s t : State} (h : MonKept s t) (i : Nat) (b : Bool) : MonKept s (t.condSet i b) :=
  State.condSet_keeps (settles_mon s) h

theorem MonKept.withTsy {s t : State} (h : MonKept s t) (y : Tsy) : MonKept s { t with tsy := y } := Reached.record h rfl rfl

theorem MonKept.lockRise {s t : State} (h : MonKept s t) : MonKept s t.lockRise := by
  unfold State.lockRise
  refine ite_keeps h (MonKept.condSet (MonKept.withTsy ?_ _) _ _)
  exact (h.wr R.TIME_STATUS_LOCK 1 (by decide) (by simp [timeFields])).wr R.TIME_IRQ_LOCKED 1 (by decide) (by simp [timeFields])

theorem MonKept.lockFall {s t : State} (h : MonKept s t) : MonKept s t.lockFall := by
  have dropped : MonKept s { t with tsy.good := 0 } := h.withTsy _
  unfold State.lockFall
  refine ite_keeps (MonKept.condSet ?_ _ _) dropped
  exact (dropped.wr R.TIME_STATUS_LOCK 0 (by decide) (by simp [timeFields])).wr R.TIME_IRQ_LOCK_LOST 1 (by decide) (by simp [timeFields])

theorem MonKept.timeSource {s t : State} (h : MonKept s t) : MonKept s t.timeSource := by
  have src {u : State} (k : MonKept s u) (v w : Nat) : MonKept s ((u.wr R.TIME_STATUS_SRC 0 v).wr R.TIME_STATUS_UPPORT 0 w) :=
    (k.wr _ v (by decide) (by simp [timeFields])).wr _ w (by decide) (by simp [timeFields])
  unfold State.timeSource
  extract_lets up was _ u
  have fresh : MonKept s u := ite_keeps (h.withTsy _) h
  clear_value u up
  refine ite_keeps (MonKept.lockRise ((src fresh 1 0).wr _ 0 (by decide) (by simp [timeFields]))) ?_
  split
  · exact src fresh 2 _
  · exact (src fresh 0 0).lockFall

theorem MonKept.monGood {s t : State} (h : MonKept s t) (k : Fin 8) : MonKept s (t.monGood k) := by
  unfold State.monGood
  split
  · exact (h.condSet _ _).timeSource
  all_goals first | exact h.condSet _ _ | exact h

/-- The second window of a row out of its limit, but for the two monitors that reset the device or change its reference. -/
theorem MonKept.monFault {s t : State} (h : MonKept s t) {k : Fin 8} (cclk : k ≠ 0) (ref : k ≠ 5) : MonKept s (t.monFault k) := by
  unfold State.monFault
  split
  · exact absurd rfl cclk
  · exact MonKept.timeSource (State.safeAll_keeps (settles_mon s) (h.condSet _ _))
  · exact h.condSet _ _
  · exact h.condSet _ _
  · exact h.condSet _ _
  · exact absurd rfl ref
  · exact h.condSet _ _
  · exact h.condSet _ _

/-- The count of a window and whether it lies outside the limit, the windows outside it in a row, and the event. -/
def State.monShown (s : State) (k : Fin 8) (c m : Nat) : State :=
  let t := s.wrs 0 [(R.CLK_MONCNT_OUT.nth k.val, (monOut k c).toNat), (R.CLK_MONCNT_COUNT.nth k.val, c)]
  if monOut k c then ({ t with rng.mon := t.rng.mon.set k.val m } : State).wr R.CLK_IRQ_MON 0 1 else { t with rng.mon := t.rng.mon.set k.val m }

/-- What a window leads to after it is shown. -/
def State.monActs (s : State) (k : Fin 8) (c m : Nat) : State := if m = 2 then s.monFault k else if monOut k c then s else s.monGood k

theorem execClockMonitorWindow_active {s : State} {k : Fin 8} (active : s.monActive k = true) (c : BitVec 16) (m : Nat)
    (windows : (if monOut k c.toNat then min (s.rng.mon.get k + 1) 2 else 0) = m) :
    exec (.clockMonitorWindow k c) s = .next ((s.monShown k c.toNat m).monActs k c.toNat m).settleAll := by
  subst windows
  exact congrArg Host.Outcome.next (if_neg (by simp [active]))

theorem moncnt_ok : ∀ k : Fin 8, (R.CLK_MONCNT_OUT.nth k.val).ok ∧ (R.CLK_MONCNT_COUNT.nth k.val).ok := by decide

/-- The monitor's registers lie apart from each other and from what a monitor's fault reaches. -/
theorem moncnt_apart : ∀ k : Fin 8, (R.CLK_MONCNT_COUNT.nth k.val).sep (R.CLK_MONCNT_OUT.nth k.val) = true ∧
    R.CLK_IRQ_MON.sep (R.CLK_MONCNT_OUT.nth k.val) = true ∧ R.CLK_IRQ_MON.sep (R.CLK_MONCNT_COUNT.nth k.val) = true := by decide

theorem moncnt_outside : ∀ k : Fin 8,
    (R.CLK_MONCNT_OUT.nth k.val).mask &&& (settleBits ((R.CLK_MONCNT_OUT.nth k.val).addr 0) |||
      maskAt timeFields ((R.CLK_MONCNT_OUT.nth k.val).addr 0)) = 0#32 ∧
    (R.CLK_MONCNT_COUNT.nth k.val).mask &&& (settleBits ((R.CLK_MONCNT_COUNT.nth k.val).addr 0) |||
      maskAt timeFields ((R.CLK_MONCNT_COUNT.nth k.val).addr 0)) = 0#32 := by decide +kernel

theorem State.monShown_shows (s : State) (k : Fin 8) (c : BitVec 16) (m : Nat) :
    (s.monShown k c.toNat m).rd (R.CLK_MONCNT_COUNT.nth k.val) 0 = c.toNat ∧
      (s.monShown k c.toNat m).rd (R.CLK_MONCNT_OUT.nth k.val) 0 = (monOut k c.toNat).toNat ∧ (s.monShown k c.toNat m).rng.mon.get k = m ∧
      (monOut k c.toNat = true → (s.monShown k c.toNat m).rd R.CLK_IRQ_MON 0 = 1) := by
  obtain ⟨outOk, countOk⟩ := moncnt_ok k
  obtain ⟨own, irqOut, irqCount⟩ := moncnt_apart k
  have fits : c.toNat < (R.CLK_MONCNT_COUNT.nth k.val).size := c.isLt
  have bit : (monOut k c.toNat).toNat < (R.CLK_MONCNT_OUT.nth k.val).size := Bool.toNat_lt _
  have count : (s.wrs 0 [(R.CLK_MONCNT_OUT.nth k.val, (monOut k c.toNat).toNat), (R.CLK_MONCNT_COUNT.nth k.val, c.toNat)]).rd
      (R.CLK_MONCNT_COUNT.nth k.val) 0 = c.toNat := by
    rw [State.wrs, State.wrs, State.wrs]
    exact State.rd_wr_lt countOk fits _ 0
  have out : (s.wrs 0 [(R.CLK_MONCNT_OUT.nth k.val, (monOut k c.toNat).toNat), (R.CLK_MONCNT_COUNT.nth k.val, c.toNat)]).rd
      (R.CLK_MONCNT_OUT.nth k.val) 0 = (monOut k c.toNat).toNat := by
    rw [State.wrs, State.wrs, State.wrs]
    exact (State.rd_wr_sep _ _ _ 0 c.toNat own).trans (State.rd_wr_lt outOk bit s 0)
  unfold State.monShown
  generalize s.wrs 0 [(R.CLK_MONCNT_OUT.nth k.val, (monOut k c.toNat).toNat), (R.CLK_MONCNT_COUNT.nth k.val, c.toNat)] = u at count out ⊢
  have windows : (u.rng.mon.set k.val m).get k = m := by simp [Vector.get_eq_getElem]
  have shown : ∀ v : State, v.regs = u.regs → v.rng.mon.get k = m →
      (v.rd (R.CLK_MONCNT_COUNT.nth k.val) 0 = c.toNat ∧ v.rd (R.CLK_MONCNT_OUT.nth k.val) 0 = (monOut k c.toNat).toNat ∧ v.rng.mon.get k = m) ∧
      (v.wr R.CLK_IRQ_MON 0 1).rd (R.CLK_MONCNT_COUNT.nth k.val) 0 = c.toNat ∧
      (v.wr R.CLK_IRQ_MON 0 1).rd (R.CLK_MONCNT_OUT.nth k.val) 0 = (monOut k c.toNat).toNat ∧ (v.wr R.CLK_IRQ_MON 0 1).rng.mon.get k = m ∧
      (monOut k c.toNat = true → (v.wr R.CLK_IRQ_MON 0 1).rd R.CLK_IRQ_MON 0 = 1) := by
    intro v regs mon
    have same (f : Fld) : v.rd f 0 = u.rd f 0 := by simp only [State.rd, State.word, regs]
    rw [State.rd_wr_sep _ _ _ 0 1 irqCount, State.rd_wr_sep _ _ _ 0 1 irqOut, same, same, count, out]
    exact ⟨⟨rfl, rfl, mon⟩, rfl, rfl, mon, fun _ => State.rd_wr_lt (by decide) (by decide) v 0⟩
  obtain ⟨⟨countIn, outIn, inRow⟩, outside⟩ := shown { u with rng.mon := u.rng.mon.set k.val m } rfl windows
  dsimp only
  split
  · exact outside
  · next inside => exact ⟨countIn, outIn, inRow, fun h => absurd h inside⟩

/-- What the window leads to leaves its registers and counts as they are. -/
theorem MonKept.monActs {s t : State} (h : MonKept s t) {k : Fin 8} {c m : Nat} (spares : k ≠ 0 ∧ k ≠ 5 ∨ m ≠ 2) : MonKept s (t.monActs k c m) := by
  unfold State.monActs
  split
  · next two =>
    obtain ⟨cclk, ref⟩ := spares.resolve_right (fun h => h two)
    exact h.monFault cclk ref
  · exact ite_keeps h (h.monGood k)

theorem execClockMonitorWindow_shows {s : State} {k : Fin 8} (active : s.monActive k = true) (c : BitVec 16)
    (spares : k ≠ 0 ∧ k ≠ 5 ∨ monOut k c.toNat = false ∨ s.rng.mon.get k = 0) :
    ∃ t, exec (.clockMonitorWindow k c) s = .next t ∧ t.rd (R.CLK_MONCNT_COUNT.nth k.val) 0 = c.toNat ∧
      t.rd (R.CLK_MONCNT_OUT.nth k.val) 0 = (monOut k c.toNat).toNat ∧
      t.rng.mon.get k = (if monOut k c.toNat = true then min (s.rng.mon.get k + 1) 2 else 0) ∧
      (monOut k c.toNat = true → t.rd R.CLK_IRQ_MON 0 = 1) := by
  obtain ⟨m, windows⟩ : ∃ m, (if monOut k c.toNat = true then min (s.rng.mon.get k + 1) 2 else 0) = m := ⟨_, rfl⟩
  have once : k ≠ 0 ∧ k ≠ 5 ∨ m ≠ 2 := by
    refine spares.imp_right fun h => ?_
    subst windows
    rcases h with h | h <;> simp [h]
    split <;> simp
  have kept : MonKept (s.monShown k c.toNat m) ((s.monShown k c.toNat m).monActs k c.toNat m).settleAll :=
    State.settleAll_keeps (settles_mon _) (MonKept.monActs (Reached.refl _ _ _) once)
  obtain ⟨outOk, countOk⟩ := moncnt_ok k
  obtain ⟨outKept, countKept⟩ := moncnt_outside k
  obtain ⟨count, out, inRow, irq⟩ := s.monShown_shows k c m
  rw [windows]
  exact ⟨_, execClockMonitorWindow_active active c m windows, (kept.rd _ 0 countOk countKept).trans count, (kept.rd _ 0 outOk outKept).trans out,
    (congrArg (·.get k) kept.2).trans inRow, fun h => (kept.rd R.CLK_IRQ_MON 0 (by decide) (by decide)).trans (irq h)⟩

theorem execClockMonitorWindow_idle {s : State} {k : Fin 8} (idle : s.monActive k = false) (c : BitVec 16) :
    exec (.clockMonitorWindow k c) s = .next { s with rng.mon := s.rng.mon.set k.val 0 } := congrArg Host.Outcome.next (if_pos (by simp [idle]))

/-- A read of MONCNT shows whether its monitor is active, and the count as it stands. -/
theorem State.clkRead_moncnt (s : State) (k : Fin 8) (w : Word) :
    (R.CLK_MONCNT_ACTIVE.get (s.clkRead (0x20 + 4 * k.val) w) = 1 ↔ s.monActive k = true) ∧
      (s.clkRead (0x20 + 4 * k.val) w).toNat % 65536 = w.toNat % 65536 := by
  have here : 0x20 ≤ 0x20 + 4 * k.val ∧ 0x20 + 4 * k.val < 0x40 := by omega
  have own : (⟨(0x20 + 4 * k.val - 0x20) / 4, by omega⟩ : Fin 8) = k := Fin.ext (by simp)
  have read : s.clkRead (0x20 + 4 * k.val) w = R.CLK_MONCNT_ACTIVE.put w (s.monActive k).toNat := by
    rw [State.clkRead, dif_pos here, own]
    rfl
  have low (w : Word) : w.toNat % 65536 = R.CLK_MONCNT_COUNT.get w := rfl
  refine ⟨?_, ?_⟩
  · rw [read, Fld.get_put _ (by decide)]
    cases s.monActive k <;> decide
  · rw [low, low, read, Fld.get_put_ne _ _ (by decide) (by decide) _ _ (by decide)]

/-! ### The supply samples (R376) -/

/-- The samples that the supply monitors keep, put in place of those of `t`. -/
def State.withVolt (t : State) (v : Vector (Nat × Nat) 6) : State := { t with rng.volt := v }

theorem State.withVolt_still (t : State) (v : Vector (Nat × Nat) 6) : (t.withVolt v).still = t.still.withVolt v := rfl

/-- A settling frame up to the samples that the supply monitors keep. -/
def SettledVolt (l : List (Nat × Word)) (s t : State) : Prop := Settled l s (t.withVolt s.rng.volt)

theorem settles_volt (l : List (Nat × Word)) (s : State) : Settles (SettledVolt l s) where
  word {t} a w e h := (settles_settled l s).word (s := t.withVolt s.rng.volt) a w e h
  same u t e k h := (settles_settled l s).same (u.withVolt s.rng.volt) (t := t.withVolt s.rng.volt) e
    (by rw [State.withVolt_still, State.withVolt_still, k]) h

theorem SettledVolt.sampled {l : List (Nat × Word)} {s t : State} (h : SettledVolt l s t) (v : Vector (Nat × Nat) 6) :
    SettledVolt l s { t with rng.volt := v } := h

theorem SettledVolt.sample {l : List (Nat × Word)} {s t : State} (h : SettledVolt l s t) (j : Fin 6) (v : Nat) : SettledVolt l s (t.voltSample j v) := by
  unfold State.voltSample
  obtain ⟨lo, hi, hyst⟩ := voltLimits j
  exact ite_keeps (State.condSet_keeps (settles_volt l s) (h.sampled _))
    (ite_keeps (State.condSet_keeps (settles_volt l s) (h.sampled _)) (h.sampled _))

/-- The six sources sampled one after the other, and what follows. -/
def State.voltSamples (s : State) (vsup vdrv vio vcore vdda : Nat) : State :=
  ((((((s.voltSample 0 vsup).voltSample 1 vsup).voltSample 2 vdrv).voltSample 3 vio).voltSample 4 vcore).voltSample 5 vdda).settleAll

theorem SettledVolt.refl (l : List (Nat × Word)) (s : State) : SettledVolt l s s := Settled.refl l s

theorem SettledVolt.samples {l : List (Nat × Word)} {s t : State} (h : SettledVolt l s t) (a b c d e : Nat) : SettledVolt l s (t.voltSamples a b c d e) :=
  State.settleAll_keeps (settles_volt l s) ((((((h.sample _ _).sample _ _).sample _ _).sample _ _).sample _ _).sample _ _)

theorem State.rdw_voltSamples (s : State) (a b c d e : Nat) : (s.voltSamples a b c d e).rdw R.SUP_VSUP_V 0 = s.rdw R.SUP_VSUP_V 0 :=
  congrArg wd (Settled.rd ((SettledVolt.refl [] s).samples a b c d e) R.SUP_VSUP_V 0 (by decide) (by decide))

theorem execSupplyMonitorSample_on {s : State} (on : s.rangerOn = true) (a b c d e : Nat) (upd : Bool) :
    exec (.supplyMonitorSample a b c d e upd) s =
      .next ((if upd then s.wr R.SUP_VSUP_V 0 (f32OfRat a 1000000).toNat else s).voltSamples a b c d e) :=
  congrArg Host.Outcome.next (if_neg (by simp [on]))

/-- A field that fills its word holds the word written. -/
theorem State.rdw_wr_word {f : Fld} (hf : f.ok) (full : f.size = 2 ^ 32) (s : State) (i : Nat) (w : Word) : (s.wr f i w.toNat).rdw f i = w := by
  rw [State.rdw, State.rd_wr_lt hf (by rw [full]; exact w.isLt)]
  exact (BitVec.ofNat_toNat 32 w).trans (BitVec.setWidth_eq w)

theorem SettledVolt.wr {l : List (Nat × Word)} {s : State} (f : Fld) (i v : Nat) (hf : f.ok) (c : f.at i ∈ l) : SettledVolt l s (s.wr f i v) :=
  (Settled.refl l s).wr f i v hf c

theorem State.lockstep_shows (s : State) : s.lockstep.rd R.SUP_STATUS_LOCKSTEP_OK 0 = 0 ∧ Settled [R.SUP_STATUS_LOCKSTEP_OK.at 0] s s.lockstep := by
  have ok : (s.wr R.SUP_STATUS_LOCKSTEP_OK 0 0).rd R.SUP_STATUS_LOCKSTEP_OK 0 = 0 := State.rd_wr_lt (by decide) (by decide) s 0
  have shown := (Settled.refl [R.SUP_STATUS_LOCKSTEP_OK.at 0] s).wr R.SUP_STATUS_LOCKSTEP_OK 0 0 (by decide) (by simp)
  unfold State.lockstep
  generalize s.wr R.SUP_STATUS_LOCKSTEP_OK 0 0 = u at ok shown
  have kept : Settled [] u ((u.raise srcLockstep 0).safeAll 1).settleAll :=
    Settled.settleAll (State.safeAll_keeps (settles_settled [] u) ((Settled.refl [] u).raise _ _))
  exact ⟨(kept.rd _ 0 (by decide) (by decide)).trans ok, Settled.settleAll (State.safeAll_keeps (settles_settled _ s) (shown.raise _ _))⟩

/-- Settles O20: Ranger's supervision, event by event. -/
theorem rangerSupervises : Obligations.RangerSupervises := by
  unfold Obligations.RangerSupervises
  intro s
  refine ⟨?selftest, ?passed, ?lockstep, ?liveness, ?asleep, ?lockstepOff, ?window, ?inactive, s.clkRead_moncnt, ?supply, ?supplyOff⟩
  case selftest =>
    intro boot step due
    have due := selftest_due boot step due
    refine ⟨⟨_, congrArg Host.Outcome.next (if_pos due), ?_, ?_, OnlyRegs.wrs (OnlyRegs.refl _ s) 0 _ (by simp +decide)⟩,
      ⟨_, congrArg Host.Outcome.next (if_pos due), State.hold_boot boot 4⟩, _, congrArg Host.Outcome.next (if_pos due), State.hold_boot boot 4⟩
    all_goals simp (disch := decide) only [if_true, State.wrs, State.rd_wr_sep, State.rd_wr_lt]
  case passed =>
    exact fun passed => ⟨fun b => congrArg Host.Outcome.next (if_neg (selftest_over passed)), congrArg Host.Outcome.next (if_neg (selftest_over passed))⟩
  case lockstep =>
    intro on
    obtain ⟨ok, kept⟩ := s.lockstep_shows
    exact ⟨_, congrArg Host.Outcome.next (if_pos on), ok, rfl, kept⟩
  case liveness =>
    intro c on
    refine ⟨fun moved => ⟨_, (execLodgeLivenessCheck_runs on c 0 (if_neg moved)).trans rfl, rfl⟩, fun stuck few => ?_, fun stuck many => ?_⟩
    · refine (execLodgeLivenessCheck_runs on c _ (if_pos stuck)).trans (congrArg Host.Outcome.next (if_neg ?_))
      omega
    · refine (execLodgeLivenessCheck_runs on c _ (if_pos stuck)).trans (congrArg Host.Outcome.next (if_pos ?_))
      omega
  case asleep => exact fun c off => congrArg Host.Outcome.next (if_pos (by simp [off]))
  case lockstepOff => exact fun off => congrArg Host.Outcome.next (if_neg (ne_true_of_eq_false off))
  case window => exact fun k c active spares => execClockMonitorWindow_shows active c spares
  case inactive =>
    refine fun k c idle => ⟨_, execClockMonitorWindow_idle idle c, ?_, rfl⟩
    simp [Vector.get_eq_getElem]
  case supply =>
    intro a b c d e upd on
    refine ⟨_, execSupplyMonitorSample_on on a b c d e upd, ?shown, ?held, SettledVolt.samples ?_ a b c d e⟩
    case shown =>
      rintro rfl
      exact (State.rdw_voltSamples _ a b c d e).trans (State.rdw_wr_word (by decide) (by decide) s 0 _)
    case held =>
      rintro rfl
      exact (State.rdw_voltSamples _ a b c d e)
    · cases upd
      · exact SettledVolt.refl _ s
      · exact SettledVolt.wr _ _ _ (by decide) (by simp)
  case supplyOff => exact fun a b c d e upd off => congrArg Host.Outcome.next (if_pos (by simp [off]))

end Sys2Proof.Machine

/-! SUPPORT. O21: the schedules of the Ranger. -/

namespace Sys2Proof.Machine

/-! ### The scan of the locked pages (R377) -/

/-- The pages of the list that are left in this scan. -/
def State.scanLeft (s : State) : List Nat := s.scanList.filter fun k => decide (s.rng.scan ≤ k)

/-- The references of the pages that are on the list. -/
def State.scanKept (s : State) : State := { s with rng.refs := s.rng.refs.filter fun e => s.scanList.contains e.1 }

theorem execConfigScanTick_more {s : State} {p q : Nat} {rest : List Nat} (on : s.rangerOn = true) (left : s.scanLeft = p :: q :: rest) :
    exec .configScanTick s =
      .next ((({ s.scanKept.scanPage p with rng.scan := p + 1 } : State).wr R.SUP_STATUS_SCAN_BUSY 0 1).scanCond.settleAll) := by
  refine congrArg Host.Outcome.next ((if_neg (by simp [on])).trans ?_)
  rw [State.scanLeft] at left
  dsimp only
  rw [left]
  rfl

theorem execConfigScanTick_last {s : State} {p : Nat} (on : s.rangerOn = true) (left : s.scanLeft = [p]) :
    exec .configScanTick s = .next ((({ s.scanKept.scanPage p with rng.scan := 0 } : State).wrs 0
      [(R.SUP_STATUS_SCAN_BUSY, 0), (R.SUP_IRQ_SCAN_DONE, 1)]).scanCond.settleAll) := by
  refine congrArg Host.Outcome.next ((if_neg (by simp [on])).trans ?_)
  rw [State.scanLeft] at left
  dsimp only
  rw [left]
  rfl

theorem State.scanCond_settled (s : State) : Settled [] s s.scanCond.settleAll := by
  unfold State.scanCond
  exact Settled.settleAll (ite_keeps (State.condOff_keeps (settles_settled [] s) (Settled.refl [] s)) (Settled.refl [] s))

theorem scan_of_still {l : List (Nat × Word)} {s t : State} (h : Settled l s t) : t.rng.scan = s.rng.scan :=
  show t.still.rng.scan = s.still.rng.scan by rw [h.2]

/-! ### The requests of a comparator self-test (R379) -/

/-- The turn of channel `n` as Ranger asks every channel for a self-test. -/
def stestTurn (n : Ch) (s : State) : State :=
  if !s.chOk n.val then s
  else if s.chState n == .idle then s.stestPost n
  else { s with rng.stestReq := s.rng.stestReq ||| BitVec.ofNat 4 (2 ^ n.val) }

theorem State.stestRequest_eq (s : State) : s.stestRequest = (s.wr R.SUP_IRQ_STEST_REQ 0 1).forCh stestTurn := rfl

theorem State.jobStart_frame (s : State) (origin typ tgt : Nat) (params : List Word) :
    (s.jobStart origin typ tgt params).1.regs = s.regs ∧ (s.jobStart origin typ tgt params).1.hl2880 = s.hl2880 ∧
      (s.jobStart origin typ tgt params).1.rng = s.rng := by
  unfold State.jobStart
  split
  · exact ⟨rfl, rfl, rfl⟩
  split
  · exact ⟨rfl, rfl, rfl⟩
  split <;> exact ⟨rfl, rfl, rfl⟩

theorem channelBit (n m : Ch) : (BitVec.ofNat 4 (2 ^ n.val)).getLsbD m.val = decide (n = m) := by
  revert n m
  decide

theorem getLsbD_or_channel (v : BitVec 4) (n m : Ch) : (v ||| BitVec.ofNat 4 (2 ^ n.val)).getLsbD m.val = (v.getLsbD m.val || decide (n = m)) := by
  rw [BitVec.getLsbD_or, channelBit]

theorem getLsbD_andNot_channel (v : BitVec 4) (n m : Ch) :
    (v &&& ~~~ BitVec.ofNat 4 (2 ^ n.val)).getLsbD m.val = (v.getLsbD m.val && !decide (n = m)) := by
  rw [BitVec.getLsbD_and, BitVec.getLsbD_not, channelBit, decide_eq_true m.isLt, Bool.true_and]

/-- A turn keeps the registers, and the requests of the other channels. -/
theorem stestTurn_frame (n : Ch) (s : State) : (stestTurn n s).regs = s.regs ∧ (stestTurn n s).hl2880 = s.hl2880 ∧
    ∀ m, n ≠ m → (stestTurn n s).rng.stestReq.getLsbD m.val = s.rng.stestReq.getLsbD m.val := by
  unfold stestTurn
  split
  · exact ⟨rfl, rfl, fun _ _ => rfl⟩
  split
  · obtain ⟨regs, part, rng⟩ := s.jobStart_frame 1 jSelftest n.val []
    unfold State.stestPost
    generalize s.jobStart 1 jSelftest n.val [] = r at regs part rng ⊢
    obtain ⟨t, h⟩ := r
    dsimp only at regs part rng ⊢
    split
    · exact ⟨rfl, rfl, fun m ne => by rw [getLsbD_or_channel, decide_eq_false ne, Bool.or_false]⟩
    · exact ⟨regs, part, fun m ne => by rw [getLsbD_andNot_channel, decide_eq_false ne, Bool.not_false, Bool.and_true, rng]⟩
  · exact ⟨rfl, rfl, fun m ne => by rw [getLsbD_or_channel, decide_eq_false ne, Bool.or_false]⟩

theorem State.rd_of_regs {s t : State} (e : t.regs = s.regs) (f : Fld) (i : Nat) : t.rd f i = s.rd f i := by
  simp only [State.rd, State.word, e]

theorem State.chState_of_regs {s t : State} (e : t.regs = s.regs) (n : Ch) : t.chState n = s.chState n := by
  simp only [State.chState, State.chOn_of_regs e, State.rd, State.word, e]

/-- A channel outside IDLE has its request noted. -/
theorem stestTurn_notes {n : Ch} {s : State} (has : s.chOk n.val = true) (busy : s.chState n ≠ .idle) :
    (stestTurn n s).rng.stestReq.getLsbD n.val = true := by
  have held : stestTurn n s = { s with rng.stestReq := s.rng.stestReq ||| BitVec.ofNat 4 (2 ^ n.val) } :=
    (if_neg (by simp [has])).trans (if_neg (by simp [busy]))
  rw [held]
  exact (getLsbD_or_channel _ n n).trans (by simp)

theorem stest_outside_state : ∀ n : Ch, R.CH_STATUS_STATE.mask &&& maskAt [R.SUP_IRQ_STEST_REQ.at 0] (R.CH_STATUS_STATE.addr n.val) = 0#32 := by
  decide

theorem State.chState_stestIrq (s : State) (n : Ch) : (s.wr R.SUP_IRQ_STEST_REQ 0 1).chState n = s.chState n := by
  have shown : OnlyRegs [R.SUP_IRQ_STEST_REQ.at 0] s (s.wr R.SUP_IRQ_STEST_REQ 0 1) := (OnlyRegs.refl _ s).wr _ _ _ (by decide) (by simp)
  have state := shown.1.rd R.CH_STATUS_STATE n.val (by decide) (stest_outside_state n)
  have on : (s.wr R.SUP_IRQ_STEST_REQ 0 1).chOn n = s.chOn n := by
    rw [State.chOn, State.domOn, State.bit, shown.1.rd R.PWR_DOM_STATE_ON 0 (by decide) (by decide)]
    rfl
  rw [State.chState, State.chState, on, state]

theorem State.stestRequest_notes {s : State} {n : Ch} (has : s.chOk n.val = true) (busy : s.chState n ≠ .idle) :
    s.stestRequest.rng.stestReq.getLsbD n.val = true := by
  have part : (s.wr R.SUP_IRQ_STEST_REQ 0 1).hl2880 = s.hl2880 := State.wr_hl2880 _ _ _ _
  have turn (m : Ch) (t : State) (regs : t.regs = (s.wr R.SUP_IRQ_STEST_REQ 0 1).regs) (hl : t.hl2880 = s.hl2880) (has : s.chOk m.val = true)
      (busy : s.chState m ≠ .idle) : (stestTurn m t).rng.stestReq.getLsbD m.val = true := by
    refine stestTurn_notes ?_ ?_
    · rwa [State.chOk, hl]
    · rwa [State.chState_of_regs regs, State.chState_stestIrq]
  rw [State.stestRequest_eq]
  refine State.forCh_each (I := fun t => t.regs = (s.wr R.SUP_IRQ_STEST_REQ 0 1).regs ∧ t.hl2880 = s.hl2880)
    (Q := fun m t => s.chOk m.val = true → s.chState m ≠ .idle → t.rng.stestReq.getLsbD m.val = true) ?inv ?own ?other ⟨rfl, part⟩ n has busy
  case inv =>
    rintro m t ⟨regs, hl⟩
    obtain ⟨regs', hl', -⟩ := stestTurn_frame m t
    exact ⟨regs'.trans regs, hl'.trans hl⟩
  case own => exact fun m t ⟨regs, hl⟩ has busy => turn m t regs hl has busy
  case other =>
    intro k m t ⟨regs, hl⟩ noted has busy
    by_cases same : k = m
    · exact same ▸ turn k t regs hl (same ▸ has) (same ▸ busy)
    · exact ((stestTurn_frame k t).2.2 m same).trans (noted has busy)

theorem State.stestRequest_settled {l : List (Nat × Word)} {s t : State} (h : Settled l s t) (c : R.SUP_IRQ_STEST_REQ.at 0 ∈ l) :
    Settled l s t.stestRequest := by
  rw [State.stestRequest_eq]
  refine State.forCh_keeps (fun n u k => ?_) (h.wr _ _ _ (by decide) c)
  unfold stestTurn
  exact ite_keeps k (ite_keeps (State.stestPost_keeps (settles_settled l s) k) ((settles_settled l s).same u rfl rfl k))

theorem State.rd_stestRequest (s : State) : s.stestRequest.rd R.SUP_IRQ_STEST_REQ 0 = 1 := by
  have regs (t : State) : (t.forCh stestTurn).regs = t.regs :=
    State.forCh_keeps (P := fun u => u.regs = t.regs) (fun n u k => (stestTurn_frame n u).1.trans k) rfl
  rw [State.stestRequest_eq, State.rd_of_regs (regs _)]
  exact State.rd_wr_lt (by decide) (by decide) s 0

/-! ### Corrected errors (R378) -/

theorem State.eccCorrs_eq (s : State) (errs : List (BitVec 5 × BitVec 24)) :
    ∃ v, errs.foldl (fun s e => s.eccCorr e.1.toNat e.2.toNat) s = { s with rng.ecc := v } := by
  induction errs generalizing s with
  | nil => exact ⟨s.rng.ecc, rfl⟩
  | cons e errs ih =>
    obtain ⟨v, h⟩ := ih (s.eccCorr e.1.toNat e.2.toNat)
    refine ⟨v, h.trans ?_⟩
    unfold State.eccCorr
    split <;> rfl

theorem State.ecc_eccCorr (s : State) {k : Nat} (known : k < 20) (a : Nat) (j : Fin 20) : (s.eccCorr k a).rng.ecc.get j =
    if j.val = k then (min ((s.rng.ecc.get j).1 + 1) 65535, (s.rng.ecc.get j).2.1, a) else s.rng.ecc.get j := by
  rw [State.eccCorr, dif_pos known]
  simp only [Vector.get_eq_getElem, Vector.getElem_set]
  by_cases own : j.val = k
  · subst own; simp
  · simp [own, Ne.symm own]

/-! ### The passes over the OTP rows (R503) -/

theorem State.otpPass_starts {s : State} (idle : s.rd R.OTP_STATUS_PASS_BUSY 0 = 0) (off : s.domOn dOtpw = false) :
    s.otpPass = s.wr R.OTP_STATUS_PASS_BUSY 0 1 := (if_neg (by simp [State.on, idle])).trans (if_neg (by simp [off]))

theorem State.passBusy_shows (s : State) : (s.wr R.OTP_STATUS_PASS_BUSY 0 1).rd R.OTP_STATUS_PASS_BUSY 0 = 1 ∧
    OnlyRegs [R.OTP_STATUS_PASS_BUSY.at 0] s (s.wr R.OTP_STATUS_PASS_BUSY 0 1) :=
  ⟨State.rd_wr_lt (by decide) (by decide) s 0, (OnlyRegs.refl _ s).wr _ _ _ (by decide) (by simp)⟩

/-- The pass is over, whatever it has found. -/
def State.passOver (s : State) : State := s.wrs 0 [(R.OTP_STATUS_PASS_BUSY, 0), (R.OTP_IRQ_PASS_DONE, 1)]

/-- The first row that a pass found to be bad, where none is shown yet, and the count of such passes. -/
def State.marginShown (s : State) (row : BitVec 9) (low : Bool) : State :=
  ((if s.on R.OTP_MARGIN_VALID 0 then s
    else s.wrs 0 [(R.OTP_MARGIN_VALID, 1), (R.OTP_MARGIN_REF, low.toNat), (R.OTP_MARGIN_ROW, row.toNat)]).inc R.OTP_MARGIN_COUNT 0).wr
      R.OTP_IRQ_MARGIN 0 1

theorem execOtpReverifyPassDone_good {s : State} (busy : s.rd R.OTP_STATUS_PASS_BUSY 0 ≠ 0) :
    exec (.otpReverifyPassDone none) s = .next (s.passOver.condSet srcOtpMargin false).settleAll :=
  congrArg Host.Outcome.next (if_pos (bne_iff_ne.2 busy))

theorem execOtpReverifyPassDone_bad {s : State} (busy : s.rd R.OTP_STATUS_PASS_BUSY 0 ≠ 0) (row : BitVec 9) (low : Bool) :
    exec (.otpReverifyPassDone (some (row, low))) s = .next ((s.passOver.marginShown row low).condSet srcOtpMargin true).settleAll :=
  congrArg Host.Outcome.next (if_pos (bne_iff_ne.2 busy))


theorem State.passOver_shows (s : State) : s.passOver.rd R.OTP_STATUS_PASS_BUSY 0 = 0 ∧ s.passOver.rd R.OTP_IRQ_PASS_DONE 0 = 1 ∧
    OnlyRegs [R.OTP_STATUS_PASS_BUSY.at 0, R.OTP_IRQ_PASS_DONE.at 0] s s.passOver := by
  refine ⟨?_, ?_, OnlyRegs.wrs (OnlyRegs.refl _ s) 0 _ (by simp +decide)⟩
  all_goals simp (disch := decide) only [State.passOver, State.wrs, State.rd_wr_sep, State.rd_wr_lt]

theorem State.settled_condSet (s : State) (i : Nat) (b : Bool) : Settled [] s (s.condSet i b).settleAll :=
  Settled.settleAll (State.condSet_keeps (settles_settled [] s) (Settled.refl [] s))

theorem State.rd_inc {f : Fld} (hf : f.ok) (s : State) (i : Nat) : (s.inc f i).rd f i = min (s.rd f i + 1) (f.size - 1) := by
  have small := Fld.get_lt f (s.word (f.addr i))
  have held : s.rd f i < f.size := small
  unfold State.inc
  split
  · next below => rw [State.rd_wr_lt hf below, Nat.min_eq_left (by omega)]
  · rw [Nat.min_eq_right (by omega)]; omega

theorem State.rd_inc_sep {f g : Fld} (apart : f.sep g = true) (s : State) (i : Nat) : (s.inc f i).rd g i = s.rd g i := by
  unfold State.inc
  split
  · exact State.rd_wr_sep s f g i _ apart
  · rfl

/-- The first mismatch of the passes, held until it is cleared. -/
def State.marginFirst (s : State) (row : BitVec 9) (low : Bool) : State :=
  if s.on R.OTP_MARGIN_VALID 0 then s
    else s.wrs 0 [(R.OTP_MARGIN_VALID, 1), (R.OTP_MARGIN_REF, low.toNat), (R.OTP_MARGIN_ROW, row.toNat)]

theorem State.marginFirst_shows (s : State) (row : BitVec 9) (low : Bool) :
    (s.marginFirst row low).rd R.OTP_MARGIN_VALID 0 = 1 ∧ (s.marginFirst row low).rd R.OTP_MARGIN_COUNT 0 = s.rd R.OTP_MARGIN_COUNT 0 ∧
      (s.rd R.OTP_MARGIN_VALID 0 = 0 →
        (s.marginFirst row low).rd R.OTP_MARGIN_ROW 0 = row.toNat ∧ (s.marginFirst row low).rd R.OTP_MARGIN_REF 0 = low.toNat) := by
  have rowFits : row.toNat < R.OTP_MARGIN_ROW.size := row.isLt
  have lowFits : low.toNat < R.OTP_MARGIN_REF.size := Bool.toNat_lt low
  unfold State.marginFirst
  split
  · next held =>
    have one : s.rd R.OTP_MARGIN_VALID 0 < 2 := Fld.get_lt R.OTP_MARGIN_VALID _
    have set : s.rd R.OTP_MARGIN_VALID 0 ≠ 0 := bne_iff_ne.1 held
    exact ⟨by omega, rfl, fun clear => absurd clear set⟩
  · refine ⟨?_, ?_, fun _ => ⟨?_, ?_⟩⟩
    all_goals simp (disch := first | decide | assumption) only [State.wrs, State.rd_wr_sep, State.rd_wr_lt]

theorem State.marginShown_shows (s : State) (row : BitVec 9) (low : Bool) : let t := s.marginShown row low
    t.rd R.OTP_IRQ_MARGIN 0 = 1 ∧ t.rd R.OTP_MARGIN_VALID 0 = 1 ∧ t.rd R.OTP_MARGIN_COUNT 0 = min (s.rd R.OTP_MARGIN_COUNT 0 + 1) 255 ∧
      (s.rd R.OTP_MARGIN_VALID 0 = 0 → t.rd R.OTP_MARGIN_ROW 0 = row.toNat ∧ t.rd R.OTP_MARGIN_REF 0 = low.toNat) ∧
      t.rd R.OTP_STATUS_PASS_BUSY 0 = s.rd R.OTP_STATUS_PASS_BUSY 0 ∧ t.rd R.OTP_IRQ_PASS_DONE 0 = s.rd R.OTP_IRQ_PASS_DONE 0 := by
  obtain ⟨valid, count, first⟩ := s.marginFirst_shows row low
  have counted : ((s.marginFirst row low).inc R.OTP_MARGIN_COUNT 0).rd R.OTP_MARGIN_COUNT 0 = min (s.rd R.OTP_MARGIN_COUNT 0 + 1) 255 :=
    (State.rd_inc (by decide) _ 0).trans (by rw [count]; rfl)
  have busy : (s.marginFirst row low).rd R.OTP_STATUS_PASS_BUSY 0 = s.rd R.OTP_STATUS_PASS_BUSY 0 := by
    unfold State.marginFirst
    split
    · rfl
    · simp (disch := decide) only [State.wrs, State.rd_wr_sep]
  have done : (s.marginFirst row low).rd R.OTP_IRQ_PASS_DONE 0 = s.rd R.OTP_IRQ_PASS_DONE 0 := by
    unfold State.marginFirst
    split
    · rfl
    · simp (disch := decide) only [State.wrs, State.rd_wr_sep]
  rw [State.marginShown, ← State.marginFirst]
  generalize s.marginFirst row low = u at *
  refine ⟨State.rd_wr_lt (by decide) (by decide) _ 0, ?_, ?_, fun fresh => ?_, ?_, ?_⟩
  all_goals simp (disch := decide) only [State.rd_wr_sep, State.rd_inc_sep, valid, counted, busy, done]
  exact first fresh

/-- Settles O21: Ranger's schedule, timer by timer. -/
theorem rangerSchedules : Obligations.RangerSchedules := by
  unfold Obligations.RangerSchedules
  intro s
  refine ⟨?more, ?last, ?asleep, ⟨_, rfl, rfl⟩, ?request, ?timer, ?untimed, ?few, ?many, ?start, ?waits, ?runs, ?idle⟩
  case more =>
    intro p q rest on left
    have busy : (({ s.scanKept.scanPage p with rng.scan := p + 1 } : State).wr R.SUP_STATUS_SCAN_BUSY 0 1).rd R.SUP_STATUS_SCAN_BUSY 0 = 1 :=
      State.rd_wr_lt (by decide) (by decide) _ 0
    have settled := State.scanCond_settled (({ s.scanKept.scanPage p with rng.scan := p + 1 } : State).wr R.SUP_STATUS_SCAN_BUSY 0 1)
    exact ⟨_, execConfigScanTick_more on left, scan_of_still settled, (settled.rd _ 0 (by decide) (by decide)).trans busy⟩
  case last =>
    intro p on left
    have settled := State.scanCond_settled (({ s.scanKept.scanPage p with rng.scan := 0 } : State).wrs 0 [(R.SUP_STATUS_SCAN_BUSY, 0), (R.SUP_IRQ_SCAN_DONE, 1)])
    refine ⟨_, execConfigScanTick_last on left, (scan_of_still settled).trans (congrArg (·.scan) (State.wrs_rng _ 0 _)),
      (settled.rd _ 0 (by decide) (by decide)).trans ?_, (settled.rd _ 0 (by decide) (by decide)).trans ?_⟩
    all_goals simp (disch := decide) only [State.wrs, State.rd_wr_sep, State.rd_wr_lt]
  case asleep => exact fun off => congrArg Host.Outcome.next (if_pos (by simp [off]))
  case request => exact ⟨_, rfl, s.rd_stestRequest, fun n has busy => State.stestRequest_notes has busy⟩
  case timer =>
    intro period on
    refine ⟨_, congrArg Host.Outcome.next (if_neg (by simp [period, on])), ?_⟩
    have due : ∀ u : State, Settled [R.SUP_STEST_DUE.at 0] u u.stestShow.settleAll := fun u =>
      Settled.settleAll (State.condSet_keeps (settles_settled _ u) ((Settled.refl _ u).wr _ _ _ (by decide) (by simp)))
    exact ((due _).rd _ 0 (by decide) (by decide)).trans s.rd_stestRequest
  case untimed => exact fun off => congrArg Host.Outcome.next (if_pos off)
  case few =>
    intro errs few
    obtain ⟨v, counted⟩ := s.eccCorrs_eq errs
    have below : ¬(errs.foldl (fun s e => s.eccCorr e.1.toNat e.2.toNat) s).rd R.SUP_ECC_LIM_LIM 0 < errs.length := by
      rw [counted]
      exact Nat.not_lt.2 few
    refine ⟨_, congrArg Host.Outcome.next (if_neg below), ?_, ?_⟩
    · rw [counted]
      exact OnlyRegs.refl [] s
    · rintro k a rfl known j
      exact s.ecc_eccCorr known a.toNat j
  case many =>
    intro errs many
    obtain ⟨v, counted⟩ := s.eccCorrs_eq errs
    refine congrArg Host.Outcome.next (if_pos ?_)
    rw [counted]
    exact many
  case start =>
    intro idle off
    have starts := State.otpPass_starts idle off
    refine ⟨⟨_, congrArg Host.Outcome.next starts, s.passBusy_shows⟩, fun booted => ⟨_, ?_, s.passBusy_shows⟩⟩
    exact congrArg Host.Outcome.next ((if_pos (bne_iff_ne.2 booted)).trans starts)
  case waits => exact fun idle on => congrArg Host.Outcome.next ((if_neg (by simp [State.on, idle])).trans (if_pos on))
  case runs =>
    intro busy
    refine ⟨congrArg Host.Outcome.next (if_pos (bne_iff_ne.2 busy)), ⟨_, execOtpReverifyPassDone_good busy, ?_⟩,
      fun row low => ⟨_, execOtpReverifyPassDone_bad busy row low, ?_⟩⟩
    · obtain ⟨busy, done, only⟩ := s.passOver_shows
      have settled := (s.passOver.settled_condSet srcOtpMargin false)
      exact ⟨(settled.rd _ 0 (by decide) (by decide)).trans busy, (settled.rd _ 0 (by decide) (by decide)).trans done,
        Settled.settleAll (State.condSet_keeps (settles_settled _ s) only.settled)⟩
    · obtain ⟨busy, done, only⟩ := s.passOver_shows
      obtain ⟨irq, valid, count, first, busyKept, doneKept⟩ := s.passOver.marginShown_shows row low
      have count' : s.passOver.rd R.OTP_MARGIN_COUNT 0 = s.rd R.OTP_MARGIN_COUNT 0 := only.1.rd _ 0 (by decide) (by decide)
      have valid' : s.passOver.rd R.OTP_MARGIN_VALID 0 = s.rd R.OTP_MARGIN_VALID 0 := only.1.rd _ 0 (by decide) (by decide)
      have settled := ((s.passOver.marginShown row low).settled_condSet srcOtpMargin true)
      have kept (f : Fld) (hf : f.ok) (c : f.mask &&& (settleBits (f.addr 0) ||| maskAt [] (f.addr 0)) = 0#32) :
        ((s.passOver.marginShown row low).condSet srcOtpMargin true).settleAll.rd f 0 = (s.passOver.marginShown row low).rd f 0 := settled.rd f 0 hf c
      refine ⟨(kept _ (by decide) (by decide)).trans (busyKept.trans busy), (kept _ (by decide) (by decide)).trans (doneKept.trans done),
        (kept _ (by decide) (by decide)).trans irq, (kept _ (by decide) (by decide)).trans valid,
        (kept _ (by decide) (by decide)).trans (count.trans (by rw [count'])), fun fresh => ?_⟩
      obtain ⟨rowShown, lowShown⟩ := first (valid'.trans fresh)
      exact ⟨(kept _ (by decide) (by decide)).trans rowShown, (kept _ (by decide) (by decide)).trans lowShown⟩
  case idle => exact fun b idle => congrArg Host.Outcome.next (if_neg (by simp [State.on, idle]))

end Sys2Proof.Machine

/-! SUPPORT. O22: supplies, resets, clocks. -/

namespace Sys2Proof.Machine

/-! ### A pulse of OTP programming that a reset ends (R507) -/

/-- The part of the state that says which fuse words a programming unit has as its targets. -/
def otpView (o : Otp) (m : List Host.Cell) : State := { State.reset with otp := o, mem := m }

theorem State.otpSpot_view (s : State) (p : List Word) (u : Nat) : s.otpSpot p u = (otpView s.otp s.mem).otpSpot p u := rfl

theorem State.otpSpot_congr {s t : State} (otp : t.otp = s.otp) (mem : t.mem = s.mem) (p : List Word) (u : Nat) : t.otpSpot p u = s.otpSpot p u := by
  rw [t.otpSpot_view, s.otpSpot_view, otp, mem]

theorem State.fuse_blow (s : State) (k b : Nat) (w : Word) : (s.blow k w).fuse b = if k = b then s.fuse k ||| w else s.fuse b :=
  mapGet_mapPut _ s.otp.fuse k b _

/-- Beside the words it programs, a pulse that is cut short leaves the state as it is, but for the free values it draws. -/
theorem State.blowsPart_only (s : State) (a : Nat) (l : List Word) :
    s.blowsPart a l = { s with otp.fuse := (s.blowsPart a l).otp.fuse, free := s.free + l.length } := by
  induction l generalizing s a with
  | nil => rfl
  | cons w l ih =>
    have rest := ih ((s.blow a (w &&& s.anyVal)).used) (a + 1)
    rw [State.blowsPart]
    refine rest.trans ?_
    have count : s.free + 1 + l.length = s.free + (l.length + 1) := by omega
    show ({ s with otp.fuse := _, free := s.free + 1 + l.length } : State) = _
    rw [count]
    rfl

theorem State.fuse_blowsPart_outside (s : State) (a : Nat) (l : List Word) (b : Nat) (outside : b < a ∨ a + l.length ≤ b) :
    (s.blowsPart a l).fuse b = s.fuse b := by
  induction l generalizing s a with
  | nil => rfl
  | cons w l ih =>
    rw [List.length_cons] at outside
    have ne : ¬a = b := by omega
    exact (ih _ (a + 1) (by omega)).trans ((s.fuse_blow a b _).trans (if_neg ne))

theorem State.fuse_blowsPart (s : State) (a : Nat) (l : List Word) (i : Nat) (inside : i < l.length) :
    (s.blowsPart a l).fuse (a + i) = s.fuse (a + i) ||| (l.getD i 0#32 &&& Config.freeValue (s.free + i)) := by
  induction l generalizing s a i with
  | nil => exact absurd inside (Nat.not_lt_zero i)
  | cons w l ih =>
    cases i with
    | zero =>
      have kept := State.fuse_blowsPart_outside (s.blow a (w &&& s.anyVal)).used (a + 1) l a (Or.inl (Nat.lt_succ_self a))
      exact kept.trans ((s.fuse_blow a a _).trans (if_pos rfl))
    | succ i =>
      have rest := ih (s.blow a (w &&& s.anyVal)).used (a + 1) i (Nat.lt_of_succ_lt_succ inside)
      have at' : a + 1 + i = a + (i + 1) := by omega
      have count : (s.blow a (w &&& s.anyVal)).used.free + i = s.free + (i + 1) := by
        show s.free + 1 + i = _
        omega
      have kept : (s.blow a (w &&& s.anyVal)).used.fuse (a + (i + 1)) = s.fuse (a + (i + 1)) := (s.fuse_blow a _ _).trans (if_neg (by omega))
      rw [at', count, kept] at rest
      exact rest

theorem State.otpPulsing_iff (s : State) (j : Job) : s.otpPulsing j = true ↔ j.typ = jOtp ∧
    (j.st = .running ∨ ((j.st = .suspending ∨ j.st = .cancelling) ∧ j.ended = false)) ∧
    j.work < otpUnits (j.params.getD 0 0) ∧ s.domOn dOtpw = true := by
  simp [State.otpPulsing, and_assoc]

theorem State.otpCut_idle {s : State} (idle : s.jobs.toList.find? s.otpPulsing = none) : s.otpCut = s := by
  rw [State.otpCut, idle]

theorem State.otpCut_pulse {s : State} {j : Job} {a : Nat} {l : List Word} (pulse : s.jobs.toList.find? s.otpPulsing = some j)
    (spot : s.otpSpot j.params j.work = (a, l)) : s.otpCut = s.blowsPart a l := by
  rw [State.otpCut, pulse]
  show s.blowsPart (s.otpSpot j.params j.work).1 (s.otpSpot j.params j.work).2 = _
  rw [spot]

/-- What a reset makes of the fuses follows from the fuses, the image, the jobs, the domains and the free values. -/
theorem State.otpCut_fuse_congr {s t : State} (otp : t.otp = s.otp) (mem : t.mem = s.mem) (jobs : t.jobs = s.jobs) (free : t.free = s.free)
    (dom : t.domOn dOtpw = s.domOn dOtpw) : t.otpCut.otp.fuse = s.otpCut.otp.fuse := by
  have pulsing : t.otpPulsing = s.otpPulsing := funext fun j => by rw [State.otpPulsing, State.otpPulsing, dom]
  have blown (a : Nat) (l : List Word) : (t.blowsPart a l).otp.fuse = (s.blowsPart a l).otp.fuse := by
    clear pulsing dom jobs mem
    induction l generalizing s t a with
    | nil => rw [State.blowsPart, State.blowsPart, otp]
    | cons w l ih =>
      refine ih ?_ (congrArg (· + 1) free) _
      simp only [State.blow, State.used, State.fuse, State.anyVal, otp, free]
  rw [State.otpCut, State.otpCut, pulsing, jobs]
  split
  · next j _ => rw [State.otpSpot_congr otp mem, blown]
  · rw [otp]

/-- The fuse words of the operations of R505 and R506. -/
theorem State.otpSpot_eq (s : State) (p : List Word) (u : Nat) :
    (otpOp (p.getD 0 0#32) = 1 → s.otpSpot p u = (8 * s.phys (otpRow (p.getD 0 0#32) + u), (s.otp.src.drop (8 * u)).take 8)) ∧
    (otpOp (p.getD 0 0#32) = 2 → s.otpSpot p u = (8 * s.phys (regRec (otpRegion (p.getD 0 0#32))), s.otpTarget (p.getD 0 0#32) (p.getD 2 0#32) u)) ∧
    (otpOp (p.getD 0 0#32) = 3 → s.otpSpot p u = (0x982, [wd (2 ^ (3 * otpRegion (p.getD 0 0#32) + u))])) ∧
    (otpOp (p.getD 0 0#32) = 4 → u ≠ 0 → s.otpSpot p u = (copyKey s.otp.spare (u - 1), [wd (0x8000 + otpRow (p.getD 0 0#32))])) ∧
    (otpOp (p.getD 0 0#32) = 5 → s.otpSpot p u =
      (if u = 0 then (0x980, [s.otp.src.getD 0 0#32]) else (0x981, [~~~ s.otp.src.getD 0 0#32]))) := by
  simp only [State.otpSpot, BitVec.ofNat_eq_ofNat]
  refine ⟨fun h => ?_, fun h => ?_, fun h => ?_, fun h nz => ?_, fun h => ?_⟩
  all_goals simp only [h]
  · rw [otpRowOf, if_pos h, State.otpTarget, if_pos h]
  · have not1 : ¬otpOp (p.getD 0 0#32) = 1 := by omega
    rw [otpRowOf, if_neg not1]
  · exact if_neg nz

theorem State.otpCut_only (s : State) : ∃ f n, s.otpCut = { s with otp.fuse := f, free := n } := by
  unfold State.otpCut
  split
  · exact ⟨_, _, s.blowsPart_only _ _⟩
  · exact ⟨s.otp.fuse, s.free, rfl⟩

/-! ### Changes of the registers alone -/

/-- `t` is `s` with other register contents. -/
def State.Rewritten (s t : State) : Prop := ∃ r, t = { s with regs := r }

section
variable {s t : State}

theorem State.Rewritten.refl (s : State) : s.Rewritten s := ⟨s.regs, rfl⟩

theorem State.Rewritten.setWord (h : s.Rewritten t) (a : Nat) (w : Word) : s.Rewritten (t.setWord a w) := by
  obtain ⟨r, rfl⟩ := h
  exact ⟨_, rfl⟩

theorem State.Rewritten.wr (h : s.Rewritten t) (f : Fld) (i v : Nat) : s.Rewritten (t.wr f i v) := h.setWord _ _

theorem State.Rewritten.wrs (h : s.Rewritten t) (i : Nat) (l : List (Fld × Nat)) : s.Rewritten (t.wrs i l) := by
  induction l generalizing t with
  | nil => exact h
  | cons e l ih => exact ih (h.wr e.1 i e.2)

theorem State.Rewritten.trans {u : State} (h : s.Rewritten t) (k : t.Rewritten u) : s.Rewritten u := by
  obtain ⟨r, rfl⟩ := h
  obtain ⟨r', rfl⟩ := k
  exact ⟨r', rfl⟩

theorem State.Rewritten.pwr (h : s.Rewritten t) : t.pwr = s.pwr := by
  obtain ⟨r, rfl⟩ := h
  rfl

theorem State.Rewritten.ite {u : State} {p : Prop} [Decidable p] (h : s.Rewritten t) (k : s.Rewritten u) : s.Rewritten (if p then t else u) := by
  split <;> assumption

end

/-! ### What a reset leaves (R71, R73, R99) -/

theorem State.shown_rewritten (s : State) (keep : Bool) (t : State) : t.Rewritten (s.shown keep t) := by
  unfold State.shown
  extract_lets a b c
  have first : t.Rewritten a := (State.Rewritten.refl t).wrs _ _
  have second : t.Rewritten b := first.wrs _ _
  have third : t.Rewritten c := (second.wrs _ _).ite second
  exact (third.setWord _ _).setWord _ _

theorem State.otpLatched_rewritten (s : State) : s.Rewritten s.otpLatched := by
  unfold State.otpLatched
  extract_lets c b u
  have latched : s.Rewritten u := (State.Rewritten.refl s).wr _ _ _
  exact (latched.wrs _ _).ite (latched.wrs _ _)

theorem State.otpLatched_only (s : State) : OnlyRegs [R.OTP_STATUS_DBANK.at 0, R.OTP_CRIT_VALID.at 0, R.OTP_CRIT_DIRECT.at 0, R.OTP_CRIT_VAL.at 0,
    R.SUP_SAFEPAT_PAT.at 0] s s.otpLatched := by
  unfold State.otpLatched
  extract_lets c b u
  have latched : OnlyRegs [R.OTP_STATUS_DBANK.at 0, R.OTP_CRIT_VALID.at 0, R.OTP_CRIT_DIRECT.at 0, R.OTP_CRIT_VAL.at 0, R.SUP_SAFEPAT_PAT.at 0] s u :=
    (OnlyRegs.refl _ s).wr _ _ _ (by decide) (by simp)
  clear_value u c b
  exact (OnlyRegs.wrs latched 0 _ (by simp +decide)).ite (OnlyRegs.wrs latched 0 _ (by simp +decide))

/-- RESET_CAUSE as it stands in its register after a reset. -/
theorem State.word_shown (s : State) (keep : Bool) (t : State) : (s.shown keep t).word 0x30 = wd t.pwr.cause := by
  unfold State.shown
  extract_lets a b c
  have second : t.Rewritten b := ((State.Rewritten.refl t).wrs _ _).wrs _ _
  have third : t.Rewritten c := (second.wrs _ _).ite second
  have pwr : c.pwr = t.pwr := third.pwr
  rw [State.word_setWord_ne _ _ _ _ (by decide), State.word_setWord_self, pwr]

/-- The supplies that are good, as a reset of CORE leaves them. -/
theorem State.good_shown (s : State) (keep : Bool) (t : State) : (s.shown keep t).rd R.PWR_STATUS_GOOD 0 = s.rd R.PWR_STATUS_GOOD 0 := by
  have fits : s.rd R.PWR_STATUS_GOOD 0 % R.PWR_STATUS_GOOD.size = s.rd R.PWR_STATUS_GOOD 0 := Nat.mod_eq_of_lt (Fld.get_lt R.PWR_STATUS_GOOD _)
  have word (u : State) (v w : Word) : ((u.setWord 0x30 v).setWord 0x34 w).rd R.PWR_STATUS_GOOD 0 = u.rd R.PWR_STATUS_GOOD 0 := by
    rw [State.rd, State.word_setWord_ne _ _ _ _ (by decide), State.word_setWord_ne _ _ _ _ (by decide), State.rd]
  unfold State.shown
  extract_lets a b c
  have first : a.rd R.PWR_STATUS_GOOD 0 = s.rd R.PWR_STATUS_GOOD 0 := by
    simp (disch := decide) only [a, State.wrs, State.rd_wr_sep, State.rd_wr, fits]
  have second : b.rd R.PWR_STATUS_GOOD 0 = s.rd R.PWR_STATUS_GOOD 0 := by
    clear_value a
    simp (disch := decide) only [b, State.wrs, State.rd_wr_sep, first]
  have third : c.rd R.PWR_STATUS_GOOD 0 = s.rd R.PWR_STATUS_GOOD 0 := by
    clear_value b
    have part : c = if b.hl2880 then b.wrs 0 [(R.SYS_PART_PORTS, 3), (R.SYS_PART_CHANNELS, 3), (R.SYS_PART_VARIANT, 0x28)] else b := rfl
    rw [part]
    split
    · simp (disch := decide) only [State.wrs, State.rd_wr_sep, second]
    · exact second
  rw [word, third]

/-- The state that `coreReset` starts again from, before its registers show what outlives the reset. -/
def State.coreStart (s : State) (mode : PMode) (cause step : Nat) (keep : Bool) : State :=
  { State.reset with
    pending := s.pending, now := s.now, free := s.free, hl2880 := s.hl2880, haltLow := s.haltLow, tap := s.tap,
    pwr := { s.pwr with
      mode := mode, step := step, late := [], trans := none, soft := none, buckWait := false, hold := 0, woke := false,
      cause := if s.pwr.rstLow = true ∧ step < 5 ∧ mode = .boot then cause ||| 32 else cause },
    otp := { Otp.reset with fuse := s.otp.fuse, bad := s.otp.bad.filter fun b => decide (0x300 ≤ b),
                            patchCrc := if keep then s.otp.patchCrc else 0, patchLen := if keep && !s.otp.patchBusy then s.otp.patchLen else 0 },
    mem := s.mem.filter fun e => (decide (0x302200 ≤ e.1) && decide (e.1 < 0x302210)) ||
      (keep && decide (0x380000 ≤ e.1) && decide (e.1 < 0x388000)) }

theorem State.coreReset_eq (s : State) (mode : PMode) (cause step : Nat) (keep : Bool) :
    s.coreReset mode cause step keep = (s.shown keep (s.coreStart mode cause step keep)).otpLatched := rfl

theorem State.coreReset_rewritten (s : State) (mode : PMode) (cause step : Nat) (keep : Bool) :
    (s.coreStart mode cause step keep).Rewritten (s.coreReset mode cause step keep) := by
  rw [State.coreReset_eq]
  exact (s.shown_rewritten keep _).trans (State.otpLatched_rewritten _)

theorem State.coreReset_registers (s : State) (mode : PMode) (cause step : Nat) (keep : Bool) :
    (s.coreReset mode cause step keep).word 0x30 = wd (s.coreStart mode cause step keep).pwr.cause ∧
      (s.coreReset mode cause step keep).rd R.PWR_STATUS_GOOD 0 = s.rd R.PWR_STATUS_GOOD 0 := by
  rw [State.coreReset_eq]
  have latched := (s.shown keep (s.coreStart mode cause step keep)).otpLatched_only
  exact ⟨(latched.1.word 0x30 (by decide)).trans (s.word_shown keep _), (latched.1.rd _ 0 (by decide) (by decide)).trans (s.good_shown keep _)⟩

/-- The causes with which a reset is recorded. -/
theorem State.causes_eq (s : State) (c cyc : Nat) (now : cyc = s.now / 3125) :
    s.causes c = (if s.pwr.causeCyc = cyc then s.pwr.cause ||| c else c) ||| (if s.pwr.soft = some cyc then 64 else 0) := by
  subst now
  rfl

/-- What every reset of CORE leaves, whatever its cause. -/
structure ResetLeft (s t : State) (m : PMode) (c k : Nat) : Prop where
  mode : t.pwr.mode = m
  step : t.pwr.step = k
  soft : t.pwr.soft = none
  rstLow : t.pwr.rstLow = s.pwr.rstLow
  wakeEn : t.pwr.wakeEn = s.pwr.wakeEn
  wakeSrc : t.pwr.wakeSrc = s.pwr.wakeSrc
  cause : t.pwr.cause = if s.pwr.rstLow = true ∧ k < 5 ∧ m = .boot then c ||| 32 else c
  word : t.word 0x30 = wd t.pwr.cause
  good : t.rd R.PWR_STATUS_GOOD 0 = s.rd R.PWR_STATUS_GOOD 0
  chan : t.chan = State.reset.chan
  flt : t.flt = State.reset.flt

theorem State.coreReset_left (s : State) (mode : PMode) (cause step : Nat) (keep : Bool) :
    ResetLeft s (s.coreReset mode cause step keep) mode cause step ∧ (s.coreReset mode cause step keep).pwr.causeCyc = s.pwr.causeCyc ∧
      (s.coreReset mode cause step keep).otp.fuse = s.otp.fuse := by
  obtain ⟨word, good⟩ := s.coreReset_registers mode cause step keep
  obtain ⟨r, left⟩ := s.coreReset_rewritten mode cause step keep
  generalize s.coreReset mode cause step keep = t at *
  subst left
  exact ⟨⟨rfl, rfl, rfl, rfl, rfl, rfl, rfl, word, good, rfl, rfl⟩, rfl, rfl⟩

theorem State.resetBy_left (s : State) (c step : Nat) (keep : Bool) :
    ResetLeft s (s.resetBy c step keep) .boot (s.causes c) step ∧ (s.resetBy c step keep).pwr.causeCyc = s.now / 3125 ∧
      (s.resetBy c step keep).otp.fuse = s.otpCut.otp.fuse := by
  unfold State.resetBy
  obtain ⟨f, n, cut⟩ := s.otpCut_only
  rw [cut]
  have reset := State.coreReset_left
    { ({ s with otp.fuse := f, free := n } : State) with pwr.causeCyc := s.aonCycle } .boot (s.causes c) step keep
  generalize State.coreReset { ({ s with otp.fuse := f, free := n } : State) with pwr.causeCyc := s.aonCycle } .boot (s.causes c) step keep = t at *
  obtain ⟨left, cyc, fuse⟩ := reset
  exact ⟨⟨left.mode, left.step, left.soft, left.rstLow, left.wakeEn, left.wakeSrc, left.cause, left.word, left.good, left.chan, left.flt⟩, cyc, fuse⟩

/-! ### The power-on reset and the supplies (R55, R71, R98) -/

/-- The state that the power-on reset starts from, with the fuses of `s`. -/
def State.powerStart (s : State) : State :=
  { State.reset with
    pending := s.pending, now := s.now, free := s.free, hl2880 := s.hl2880, haltLow := s.haltLow,
    pwr := { Pwr.reset with test := s.pwr.test, rstLow := s.pwr.rstLow, cause := if s.pwr.rstLow then 33 else 1, causeCyc := s.aonCycle },
    otp := { Otp.reset with fuse := s.otp.fuse } }

theorem State.powerOn_left (s : State) : s.powerOn.pending = s.pending ∧ s.powerOn.otp.fuse = s.otpCut.otp.fuse ∧ s.powerOn.chan = State.reset.chan ∧
    s.powerOn.flt = State.reset.flt ∧ s.powerOn.mem = State.reset.mem ∧ s.powerOn.pwr.mode = Pwr.reset.mode ∧
    s.powerOn.pwr.step = Pwr.reset.step ∧ s.powerOn.word 0x30 = (if s.pwr.rstLow = true then 33#32 else 1#32) := by
  obtain ⟨f, n, cut⟩ := s.otpCut_only
  have eq : s.powerOn = (s.otpCut.shown false s.otpCut.powerStart).clrBits R.PWR_STATUS_GOOD 0 1 := rfl
  have word : s.powerOn.word 0x30 = wd s.otpCut.powerStart.pwr.cause := by
    rw [eq, State.clrBits, State.word_wr, if_neg (by decide), State.word_shown]
  obtain ⟨r, left⟩ : s.otpCut.powerStart.Rewritten s.powerOn := by
    rw [eq]
    exact (s.otpCut.shown_rewritten false _).wr _ _ _
  have cause : s.otpCut.powerStart.pwr.cause = if s.pwr.rstLow = true then 33 else 1 := by rw [cut]; rfl
  have pending : s.otpCut.powerStart.pending = s.pending := by rw [cut]; rfl
  rw [cause] at word
  have shown : wd (if s.pwr.rstLow = true then 33 else 1) = if s.pwr.rstLow = true then 33#32 else 1#32 := by split <;> rfl
  refine ⟨?_, ?_, ?_, ?_, ?_, ?_, ?_, word.trans shown⟩
  all_goals rw [left]
  · exact pending
  all_goals rfl

theorem State.good_bit_off (s : State) (k : Nat) : (s.clrBits R.PWR_STATUS_GOOD 0 (2 ^ k)).bit R.PWR_STATUS_GOOD 0 k = false := by
  rw [State.bit, State.rd_clrBits (by decide), testBit_sub_and, Nat.testBit_two_pow_self]
  exact Bool.and_false _

theorem State.goodOff_only (s : State) (k : Nat) : OnlyRegs [R.PWR_STATUS_GOOD.at 0] s (s.clrBits R.PWR_STATUS_GOOD 0 (2 ^ k)) :=
  (OnlyRegs.refl _ s).wr _ _ _ (by decide) (by simp)

theorem execSupplyFail_absent {s : State} {k : Fin 5} (nz : k ≠ 0) (off : s.bit R.PWR_STATUS_GOOD 0 k.val = false) :
    exec (.supplyFail k) s = .next s := congrArg Host.Outcome.next ((if_neg nz).trans (if_pos (by simp [off])))

/-- What a supply that was good and fails leads to, once its bit is clear. -/
theorem execSupplyFail_good {s : State} {k : Fin 5} (nz : k ≠ 0) (good : s.bit R.PWR_STATUS_GOOD 0 k.val = true) : exec (.supplyFail k) s = .next
    (let u := s.clrBits R.PWR_STATUS_GOOD 0 (2 ^ k.val)
      if s.pwr.mode == .standby then u
      else if s.pwr.mode == .boot && decide (s.pwr.step < 3) then u.causeToo (2 ^ k.val) else u.resetBy (2 ^ k.val) 2 false) :=
  congrArg Host.Outcome.next ((if_neg nz).trans (if_neg (by simp [good])))

/-- A supply that fails from step 3 on is a brown-out reset. -/
theorem State.brownOut (s : State) (k : Nat) : let t := (s.clrBits R.PWR_STATUS_GOOD 0 (2 ^ k)).resetBy (2 ^ k) 2 false
    t.pwr.mode = .boot ∧ t.pwr.step = 2 ∧ t.otp.fuse = s.otpCut.otp.fuse ∧ t.chan = State.reset.chan ∧ t.flt = State.reset.flt ∧
      t.pwr.wakeEn = s.pwr.wakeEn ∧ t.pwr.cause = s.causes (2 ^ k) ||| (if s.pwr.rstLow = true then 32 else 0) ∧
      t.bit R.PWR_STATUS_GOOD 0 k = false := by
  obtain ⟨left, -, fuse⟩ := (s.clrBits R.PWR_STATUS_GOOD 0 (2 ^ k)).resetBy_left (2 ^ k) 2 false
  have off := s.good_bit_off k
  have dom : (s.clrBits R.PWR_STATUS_GOOD 0 (2 ^ k)).domOn dOtpw = s.domOn dOtpw := by
    rw [State.domOn, State.bit, (s.goodOff_only k).1.rd R.PWR_DOM_STATE_ON 0 (by decide) (by decide)]
    rfl
  obtain ⟨r, cleared⟩ : s.Rewritten (s.clrBits R.PWR_STATUS_GOOD 0 (2 ^ k)) := (State.Rewritten.refl s).wr _ _ _
  have cut : (s.clrBits R.PWR_STATUS_GOOD 0 (2 ^ k)).otpCut.otp.fuse = s.otpCut.otp.fuse :=
    State.otpCut_fuse_congr (by rw [cleared]) (by rw [cleared]) (by rw [cleared]) (by rw [cleared]) dom
  have causes : (s.clrBits R.PWR_STATUS_GOOD 0 (2 ^ k)).causes (2 ^ k) = s.causes (2 ^ k) := by rw [cleared]; rfl
  have low : (s.clrBits R.PWR_STATUS_GOOD 0 (2 ^ k)).pwr = s.pwr := by rw [cleared]
  generalize s.clrBits R.PWR_STATUS_GOOD 0 (2 ^ k) = u at *
  refine ⟨left.mode, left.step, fuse.trans cut, left.chan, left.flt, left.wakeEn.trans (by rw [low]), ?_, ?_⟩
  · rw [left.cause, causes, low]
    cases s.pwr.rstLow <;> simp
  · rw [State.bit, left.good]
    exact off

/-- A register write beside a change of the power record. -/
theorem OnlyRegs.withPwr {l : List (Nat × Word)} {s t : State} (h : OnlyRegs l s t) (p : Pwr) :
    OnlyRegs l s { ({ t with pwr := p } : State) with pwr := s.pwr } := by
  obtain ⟨regs, mem, rest⟩ := h
  refine ⟨regs, mem, ?_⟩
  have moved : ({ ({ t with pwr := p } : State) with pwr := s.pwr } : State).rest = { t.rest with pwr := s.pwr } := rfl
  rw [moved, rest]
  rfl

/-- RESET_CAUSE is written beside a change of the power record. -/
theorem OnlyRegs.causeWord {l : List (Nat × Word)} {s t : State} (h : OnlyRegs l s t) (c : maskAt l 0x30 = 0xFFFFFFFF#32) (p : Pwr) (w : Word) :
    OnlyRegs l s { ({ t with pwr := p } : State).setWord 0x30 w with pwr := s.pwr } := by
  obtain ⟨regs, mem, rest⟩ := h
  refine ⟨regs.setWord 0x30 w (by rw [c]; simp), mem, ?_⟩
  have moved : ({ ({ t with pwr := p } : State).setWord 0x30 w with pwr := s.pwr } : State).rest = { t.rest with pwr := s.pwr } := rfl
  rw [moved, rest]
  rfl

/-- A supply that fails in steps 1 and 2 is a cause beside a reset of the same AONCLK cycle. -/
theorem State.earlyFail (s : State) (k : Nat) : let t := (s.clrBits R.PWR_STATUS_GOOD 0 (2 ^ k)).causeToo (2 ^ k)
    t.bit R.PWR_STATUS_GOOD 0 k = false ∧
      t.pwr = { s.pwr with cause := if s.pwr.causeCyc = s.now / 3125 then s.pwr.cause ||| 2 ^ k else s.pwr.cause } ∧
      OnlyRegs [R.PWR_STATUS_GOOD.at 0, (0x30, 0xFFFFFFFF#32)] s { t with pwr := s.pwr } := by
  have off := s.good_bit_off k
  have only : OnlyRegs [R.PWR_STATUS_GOOD.at 0, (0x30, 0xFFFFFFFF#32)] s (s.clrBits R.PWR_STATUS_GOOD 0 (2 ^ k)) :=
    (OnlyRegs.refl _ s).wr _ _ _ (by decide) (by simp)
  obtain ⟨r, cleared⟩ : s.Rewritten (s.clrBits R.PWR_STATUS_GOOD 0 (2 ^ k)) := (State.Rewritten.refl s).wr _ _ _
  have low : (s.clrBits R.PWR_STATUS_GOOD 0 (2 ^ k)).pwr = s.pwr := by rw [cleared]
  have now : (s.clrBits R.PWR_STATUS_GOOD 0 (2 ^ k)).now = s.now := by rw [cleared]
  generalize s.clrBits R.PWR_STATUS_GOOD 0 (2 ^ k) = u at *
  have cycle : u.aonCycle = s.now / 3125 := congrArg (· / 3125) now
  unfold State.causeToo
  rw [low, cycle]
  by_cases same : s.pwr.causeCyc = s.now / 3125
  · rw [if_pos same, if_pos same]
    refine ⟨?_, ?_, only.causeWord (by decide) _ _⟩
    · rw [State.bit, State.rd, State.word_setWord_ne _ _ _ _ (by decide)]
      exact off
    · rw [State.setWord_pwr]
  · rw [if_neg same, if_neg same]
    exact ⟨off, low, low ▸ only.withPwr u.pwr⟩

/-! ### RESET_N, DEVRST and the software reset (R71, R98) -/

/-- RESET_N stands low. -/
def State.rstPulled (s : State) : State := { s with pwr.rstLow := true }

theorem execResetNLow_on {s : State} (on : s.coreOn = true) : exec .resetNLow s = .next (s.rstPulled.deviceReset 32) :=
  congrArg Host.Outcome.next (if_pos on)

theorem execResetNLow_early {s : State} (boot : s.pwr.mode = .boot) (early : s.pwr.step < 5) : exec .resetNLow s =
    .next (({ s with pwr := { s.pwr with rstLow := true, cause := s.pwr.cause ||| 32 } } : State).setWord 0x30 (wd (s.pwr.cause ||| 32))) := by
  have off : ¬s.rstPulled.coreOn = true := by
    show ¬(match s.pwr.mode with | .standby => false | .boot => decide (5 ≤ s.pwr.step) | _ => true) = true
    rw [boot]
    simp [early]
  exact congrArg Host.Outcome.next ((if_neg off).trans (if_pos (by simp [boot])))

theorem execResetNLow_standby {s : State} (standby : s.pwr.mode = .standby) : exec .resetNLow s = .next { s with pwr.rstLow := true } := by
  have off : ¬s.rstPulled.coreOn = true := by
    show ¬(match s.pwr.mode with | .standby => false | .boot => decide (5 ≤ s.pwr.step) | _ => true) = true
    rw [standby]
    exact Bool.false_ne_true
  exact congrArg Host.Outcome.next ((if_neg off).trans (if_neg (by simp [standby])))

theorem State.deviceReset_left (s : State) (c : Nat) : let t := s.deviceReset c
    t.pwr.mode = .boot ∧ t.pwr.step = 5 ∧ t.pwr.soft = none ∧ t.pwr.rstLow = s.pwr.rstLow ∧ t.pwr.cause = s.causes c ∧ t.word 0x30 = wd (s.causes c) ∧
      t.pwr.causeCyc = s.now / 3125 ∧ t.chan = State.reset.chan ∧ t.otp.fuse = s.otpCut.otp.fuse := by
  obtain ⟨left, cyc, fuse⟩ := s.resetBy_left c 5 true
  have cause := left.cause.trans (if_neg (by omega))
  exact ⟨left.mode, left.step, left.soft, left.rstLow, cause, left.word.trans (by rw [cause]), cyc, left.chan, fuse⟩

theorem State.devRst_key {s : State} (on : s.coreOn = true) : s.devRst 0xC3 = { s.wr R.SYS_CTRL_DEVRST 0 1 with pwr.soft := some s.aonCycle } :=
  if_pos ⟨rfl, on⟩

theorem State.devRst_shows (s : State) : let t : State := { s.wr R.SYS_CTRL_DEVRST 0 1 with pwr.soft := some s.aonCycle }
    t.rd R.SYS_CTRL_DEVRST 0 = 1 ∧ t.pwr.soft = some (s.now / 3125) ∧ OnlyRegs [R.SYS_CTRL_DEVRST.at 0] s { t with pwr := s.pwr } := by
  have shown : (s.wr R.SYS_CTRL_DEVRST 0 1).rd R.SYS_CTRL_DEVRST 0 = 1 := State.rd_wr_lt (by decide) (by decide) s 0
  have only : OnlyRegs [R.SYS_CTRL_DEVRST.at 0] s (s.wr R.SYS_CTRL_DEVRST 0 1) := (OnlyRegs.refl _ s).wr _ _ _ (by decide) (by simp)
  generalize s.wr R.SYS_CTRL_DEVRST 0 1 = u at shown only
  exact ⟨shown, rfl, only.withPwr _⟩

/-! ### References and PLLs (R65 to R69) -/

theorem execReferenceFallback_run {s : State} (run : s.pwr.mode = .run) : exec .referenceFallback s = .next s.fallback.settleAll :=
  congrArg Host.Outcome.next (if_pos (by simp [run]))

/-- The registers that show the fallback to the RC oscillator. -/
def fallbackFields : List (Nat × Word) :=
  [R.SYS_STATUS_REF_FALLBACK.at 0, R.CLK_STATUS_REF_GOOD.at 0, R.CLK_STATUS_SYSPLL_RC.at 0, R.CLK_STATUS_PWMPLL_RC.at 0]

/-- The fallback as its registers show it. -/
def State.fallbackShown (s : State) : State :=
  s.wrs 0 [(R.SYS_STATUS_REF_FALLBACK, 1), (R.CLK_STATUS_REF_GOOD, 0), (R.CLK_STATUS_SYSPLL_RC, (decide (7 ≤ s.pwr.step)).toNat),
    (R.CLK_STATUS_PWMPLL_RC, (decide (7 ≤ s.pwr.step)).toNat)]

/-- What the fallback does to the channels, and its source. -/
def State.fallbackActs (s : State) : State :=
  (s.forCh fun n s => s.whenCh n fun s => (s.chJobsFail n cFault).toState n .hold byReaction).condSet srcRefFail true

theorem State.fallback_eq {s : State} (first : s.rd R.SYS_STATUS_REF_FALLBACK 0 = 0) : s.fallback = s.fallbackShown.fallbackActs :=
  if_neg (by simp [State.on, first])

theorem State.fallbackActs_settled {l : List (Nat × Word)} {s t : State} (h : Settled l s t) : Settled l s t.fallbackActs.settleAll := by
  have keeps := settles_settled l s
  refine Settled.settleAll (State.condSet_keeps keeps (State.forCh_keeps (fun n u k => State.whenCh_keeps (fun v q => ?_) k) h))
  exact State.toState_keeps keeps (State.chJobsFail_keeps keeps q)

theorem State.fallback_shows {s : State} (first : s.rd R.SYS_STATUS_REF_FALLBACK 0 = 0) : let t := s.fallback.settleAll
    t.rd R.SYS_STATUS_REF_FALLBACK 0 = 1 ∧ t.rd R.CLK_STATUS_REF_GOOD 0 = 0 ∧ Settled fallbackFields s t := by
  rw [State.fallback_eq first]
  have only : OnlyRegs fallbackFields s s.fallbackShown := OnlyRegs.wrs (OnlyRegs.refl _ s) 0 _ (by simp +decide [fallbackFields])
  have fallen : s.fallbackShown.rd R.SYS_STATUS_REF_FALLBACK 0 = 1 := by
    simp (disch := decide) only [State.fallbackShown, State.wrs, State.rd_wr_sep, State.rd_wr_lt]
  have good : s.fallbackShown.rd R.CLK_STATUS_REF_GOOD 0 = 0 := by
    simp (disch := decide) only [State.fallbackShown, State.wrs, State.rd_wr_sep, State.rd_wr_lt]
  generalize s.fallbackShown = u at *
  have kept := State.fallbackActs_settled (Settled.refl [] u)
  exact ⟨(kept.rd _ 0 (by decide) (by decide)).trans fallen, (kept.rd _ 0 (by decide) (by decide)).trans good, State.fallbackActs_settled only.settled⟩

theorem State.linkLocked_shows (s : State) : let t := ((s.wr R.CLK_STATUS_LINKPLL_LOCK 0 1).condSet srcLinkUnlock false).settleAll
    t.rd R.CLK_STATUS_LINKPLL_LOCK 0 = 1 ∧ Settled [R.CLK_STATUS_LINKPLL_LOCK.at 0] s t := by
  have locked : (s.wr R.CLK_STATUS_LINKPLL_LOCK 0 1).rd R.CLK_STATUS_LINKPLL_LOCK 0 = 1 := State.rd_wr_lt (by decide) (by decide) s 0
  have shown := (Settled.refl [R.CLK_STATUS_LINKPLL_LOCK.at 0] s).wr R.CLK_STATUS_LINKPLL_LOCK 0 1 (by decide) (by simp)
  generalize s.wr R.CLK_STATUS_LINKPLL_LOCK 0 1 = u at *
  exact ⟨((u.settled_condSet srcLinkUnlock false).rd _ 0 (by decide) (by decide)).trans locked,
    Settled.settleAll (State.condSet_keeps (settles_settled _ s) shown)⟩

/-- A field outside the frame of the monitors' faults reads as before what follows the lock or the loss of the PWM PLL. -/
theorem MonKept.pwmLocked (s : State) : MonKept s (s.condSet srcPwmUnlock false).timeSource.settleAll :=
  State.settleAll_keeps (settles_mon s) (MonKept.timeSource (MonKept.condSet (Reached.refl _ _ s) _ _))

theorem MonKept.pwmLost (s : State) : MonKept s ((s.condSet srcPwmUnlock true).safeAll 0).timeSource.settleAll :=
  State.settleAll_keeps (settles_mon s) (MonKept.timeSource (State.safeAll_keeps (settles_mon s) (MonKept.condSet (Reached.refl _ _ s) _ _)))

theorem execPllUnlock_pwm {s : State} (locked : s.rd R.CLK_STATUS_PWMPLL_LOCK 0 ≠ 0) : exec (.pllUnlock 1) s = .next
    (((s.wrs 0 [(R.CLK_STATUS_PWMPLL_LOCK, 0), (R.CLK_IRQ_PWMPLL_LOST, 1)]).condSet srcPwmUnlock true).safeAll 0).timeSource.settleAll :=
  congrArg Host.Outcome.next ((if_neg (by decide)).trans ((if_pos rfl).trans (if_pos (bne_iff_ne.2 locked))))

/-- Settles O22: supplies, resets, references and PLLs, command by command. -/
theorem powerAndResetAct : Obligations.PowerAndResetAct := by
  unfold Obligations.PowerAndResetAct
  intro s
  refine ⟨?good, ⟨_, rfl, s.powerOn_left⟩, s.otpPulsing_iff, State.otpCut_idle, ?pulse, s.otpSpot_eq, rfl, ?brownOut, ?early, ?standby,
    fun k nz off => execSupplyFail_absent nz off, s.causes_eq, ?resetOn, ?resetEarly, execResetNLow_standby, rfl, ?devrst, ?wrongKey, ?soft, ?hard,
    ?buck, rfl, ?reference, ?fallback, ?sys, ?link, ?pwm, ?sysLost, ?pwmLost⟩
  case good =>
    intro k free
    have act : ¬(k = 3 ∧ s.pwr.buckWait = true) := fun ⟨k3, waits⟩ => free.elim (· k3) fun h => Bool.false_ne_true (h.symm.trans waits)
    have fits : 2 ^ k.val < R.PWR_STATUS_GOOD.size := Nat.pow_lt_pow_right (by decide) k.isLt
    exact ⟨_, congrArg Host.Outcome.next (if_neg act), State.rd_orBits (by decide) s 0 _ fits, (OnlyRegs.refl _ s).wr _ _ _ (by decide) (by simp)⟩
  case pulse =>
    intro j a l pulse spot
    rw [State.otpCut_pulse pulse spot]
    exact ⟨fun b outside => s.fuse_blowsPart_outside a l b outside, fun i inside => s.fuse_blowsPart a l i inside, s.blowsPart_only a l⟩
  case brownOut =>
    intro k nz good awake past
    refine ⟨_, (execSupplyFail_good nz good).trans (congrArg Host.Outcome.next ((if_neg (by simp [awake])).trans (if_neg ?_))), s.brownOut k.val⟩
    simp only [Bool.and_eq_true, beq_iff_eq, decide_eq_true_eq, not_and]
    exact fun boot => Nat.not_lt.2 (past boot)
  case early =>
    intro k nz good boot before
    exact ⟨_, (execSupplyFail_good nz good).trans (congrArg Host.Outcome.next ((if_neg (by simp [boot])).trans (if_pos (by simp [boot, before])))),
      s.earlyFail k.val⟩
  case standby =>
    intro k nz standby
    by_cases good : s.bit R.PWR_STATUS_GOOD 0 k.val = true
    · exact ⟨_, (execSupplyFail_good nz good).trans (congrArg Host.Outcome.next (if_pos (by simp [standby]))), s.good_bit_off k.val, s.goodOff_only k.val⟩
    · exact ⟨s, execSupplyFail_absent nz (Bool.eq_false_iff.2 good), Bool.eq_false_iff.2 good, OnlyRegs.refl _ s⟩
  case resetOn =>
    intro on
    obtain ⟨mode, step, -, low, cause, word, cyc, chan, fuse⟩ := s.rstPulled.deviceReset_left 32
    have cut : s.rstPulled.otpCut.otp.fuse = s.otpCut.otp.fuse := State.otpCut_fuse_congr rfl rfl rfl rfl rfl
    exact ⟨_, execResetNLow_on on, mode, step, low, cause, word, cyc, chan, fuse.trans cut⟩
  case resetEarly =>
    intro boot before
    exact ⟨_, execResetNLow_early boot before, rfl, State.word_setWord_self _ _ _, (OnlyRegs.refl _ s).causeWord (by decide) _ _⟩
  case devrst => exact fun on => ⟨_, congrArg Host.Outcome.next (State.devRst_key on), s.devRst_shows⟩
  case wrongKey =>
    refine fun key bad => congrArg Host.Outcome.next (if_neg fun ⟨own, on⟩ => ?_)
    exact bad.elim (fun h => h (BitVec.eq_of_toNat_eq own)) fun h => Bool.false_ne_true (h.symm.trans on)
  case soft =>
    intro due
    obtain ⟨mode, step, soft, -, cause, -, -, chan, fuse⟩ := s.deviceReset_left 64
    exact ⟨_, congrArg Host.Outcome.next (if_pos (Option.isSome_iff_ne_none.2 due)), mode, step, soft, cause, chan, fuse⟩
  case hard => exact fun none => congrArg Host.Outcome.next (if_neg (by simp [none]))
  case buck => exact fun boot past off => congrArg Host.Outcome.next (if_pos (by simp [boot, past, off]))
  case reference =>
    exact fun awake good => ⟨_, congrArg Host.Outcome.next (if_pos (by simp [awake, good])), State.rd_wr_lt (by decide) (by decide) s 0,
      (OnlyRegs.refl _ s).wr _ _ _ (by decide) (by simp)⟩
  case fallback => exact fun run first => ⟨_, execReferenceFallback_run run, State.fallback_shows first⟩
  case sys =>
    intro enabled
    refine ⟨_, congrArg Host.Outcome.next ((if_neg (by decide)).trans ((if_neg (Nat.not_lt.2 enabled)).trans (if_pos rfl))), ?_, ?_,
      OnlyRegs.wrs (OnlyRegs.refl _ s) 0 _ (by simp +decide)⟩
    all_goals simp (disch := decide) only [State.wrs, State.rd_wr_sep, State.rd_wr_lt]
  case link => exact fun on => ⟨_, congrArg Host.Outcome.next ((if_pos rfl).trans (if_pos on)), s.linkLocked_shows⟩
  case pwm =>
    intro enabled
    refine ⟨_, congrArg Host.Outcome.next ((if_neg (by decide)).trans ((if_neg (Nat.not_lt.2 enabled)).trans (if_neg (by decide)))), ?_⟩
    have locked : (s.wr R.CLK_STATUS_PWMPLL_LOCK 0 1).rd R.CLK_STATUS_PWMPLL_LOCK 0 = 1 := State.rd_wr_lt (by decide) (by decide) s 0
    generalize s.wr R.CLK_STATUS_PWMPLL_LOCK 0 1 = u at *
    exact ((MonKept.pwmLocked u).rd _ 0 (by decide) (by decide)).trans locked
  case sysLost => exact fun locked => congrArg Host.Outcome.next ((if_pos rfl).trans (if_pos (bne_iff_ne.2 locked)))
  case pwmLost =>
    intro locked
    refine ⟨_, execPllUnlock_pwm locked, ((MonKept.pwmLost _).rd _ 0 (by decide) (by decide)).trans ?_,
      ((MonKept.pwmLost _).rd _ 0 (by decide) (by decide)).trans ?_⟩
    all_goals simp (disch := decide) only [State.wrs, State.rd_wr_sep, State.rd_wr_lt]

end Sys2Proof.Machine

/-! SUPPORT. O23: the steps of the boot. -/

namespace Sys2Proof.Machine

/-! ### The last step of the boot -/

/-- The frame of the settling keeps the level of HALT_N last seen. -/
theorem Settled.haltLow_withPwr {l : List (Nat × Word)} {p : Pwr} {s t : State} (h : Settled l { s with pwr := p } t) :
    t.haltLow = s.haltLow :=
  show t.still.haltLow = ({ s with pwr := p } : State).still.haltLow by rw [h.2]

/-- The boot stands before its last step, HALT_N last seen low. -/
def bootEnding : State := { State.reset with pwr.mode := .boot, pwr.step := 16, haltLow := true }

theorem bootEnding_haltLow : bootEnding.haltLow = true := rfl

theorem bootEnding_mode : bootEnding.pwr.mode = .boot := rfl

theorem bootEnding_step : bootEnding.pwr.step = 16 := rfl

theorem bootEnding_done_haltLow : (bootEnding.bootDone true).settleAll.haltLow = false := by decide +kernel

/-- The last step of a boot, as the command runs it. -/
theorem exec_bootStepComplete_last {s : State} (m : List Nat) (pinHigh : Bool) (mode : s.pwr.mode = .boot)
    (step : s.pwr.step = 16) : exec (.bootStepComplete m pinHigh) s = .next (s.bootDone pinHigh).settleAll := by
  simp only [exec, execBootStepComplete, mode, step, State.stepReady]
  rfl

/-- Refutes O23: the last step takes the level of HALT_N, which it finds high here (R82), where the statement's frame keeps the level
seen before. -/
theorem not_bootSteps : ¬ Obligations.BootSteps := by
  unfold Obligations.BootSteps
  intro h
  obtain ⟨-, last, -⟩ := h bootEnding bootEnding_mode
  obtain ⟨t, runs, -, -, -, -, -, kept⟩ := last [] bootEnding_step
  have low : t.haltLow = true := kept.haltLow_withPwr.trans bootEnding_haltLow
  have high : t.haltLow = false :=
    (congrArg State.haltLow (Host.Outcome.next.inj (runs.symm.trans (exec_bootStepComplete_last [] true bootEnding_mode bootEnding_step)))).trans bootEnding_done_haltLow
  exact Bool.false_ne_true (high.symm.trans low)

end Sys2Proof.Machine

/-! SUPPORT. O13: Hall sensors and encoders. -/

namespace Sys2Proof.Machine

section
variable {s t : State} {n : Ch}

/-! ### What an event of a position sensor reaches beside its own fields -/

/-- The fields that follow from a Hall code or an encoder edge. -/
def posAside (n : Ch) : List (Nat × Word) :=
  [R.POS_STATUS_SECTOR.at n.val, R.POS_IRQ_HALL_SEQ.at n.val, R.POS_IRQ_SECTOR_CHG.at n.val, R.OBS_PCNT_A_C.at n.val, R.OBS_PCNT_B_C.at n.val, R.POS_IRQ_ENC_IDX.at n.val,
    R.POS_ERRCNT_ERR.at n.val]

theorem pos_of_still (n : Ch) (s t : State) (e : t.still = s.still) : (t.ch n).pos = (s.ch n).pos := by
  have kept : (t.ch n).still = (s.ch n).still := by
    rw [← show t.still.ch n = (t.ch n).still from Vector.getElem_map Chan.still n.isLt,
      ← show s.still.ch n = (s.ch n).still from Vector.getElem_map Chan.still n.isLt, e]
  exact show (t.ch n).still.pos = (s.ch n).still.pos by rw [kept]

/-- What the position sensors keep of one part `g` of their record. -/
def PosKept {α : Type} (n : Ch) (g : Pos → α) (s t : State) : Prop := Reached (posAside n) (fun u => g (u.ch n).pos) s t

variable {α : Type} {g : Pos → α}

theorem posPart (n : Ch) (g : Pos → α) (s t : State) (e : t.still = s.still) : g (t.ch n).pos = g (s.ch n).pos := congrArg g (pos_of_still n s t e)

theorem PosKept.refl (n : Ch) (g : Pos → α) (s : State) : PosKept n g s s := Reached.refl _ _ s

theorem PosKept.trans {u : State} (h : PosKept n g s t) (k : PosKept n g t u) : PosKept n g s u := Reached.trans h k

theorem PosKept.wr (h : PosKept n g s t) (f : Fld) (v : Nat) (hf : f.ok) (c : f.at n.val ∈ posAside n) : PosKept n g s (t.wr f n.val v) :=
  Reached.wr (posPart n g) h f n.val v hf c

theorem PosKept.rd (h : PosKept n g s t) (f : Fld) (hf : f.ok)
    (c : ∀ n : Ch, f.mask &&& (settleBits (f.addr n.val) ||| maskAt (posAside n) (f.addr n.val)) = 0#32) : t.rd f n.val = s.rd f n.val :=
  Reached.rd h f n.val hf (c n)

theorem PosKept.modPos (h : PosKept n g s t) (f : Pos → Pos) (e : ∀ p, g (f p) = g p) : PosKept n g s (t.modPos n f) :=
  Reached.record h rfl ((congrArg (fun c : Chan => g c.pos) (State.ch_modCh_self t n _)).trans (e _))

theorem PosKept.condSet (h : PosKept n g s t) (i : Nat) (b : Bool) : PosKept n g s (t.condSet i b) :=
  State.condSet_keeps (settles_reached _ (posPart n g) s) h

theorem PosKept.settleAll (h : PosKept n g s t) : PosKept n g s t.settleAll := State.settleAll_keeps (settles_reached _ (posPart n g) s) h

theorem PosKept.posErr (h : PosKept n g s t) (b : Nat) : PosKept n g s (t.posErr n b) := by
  unfold State.posErr
  exact ite_keeps h (h.wr _ _ (by decide) (by simp [posAside]))

theorem PosKept.putSector (h : PosKept n g s t) (k : Nat) : PosKept n g s (t.putSector n k) := by
  unfold State.putSector
  exact ite_keeps h ((h.wr _ k (by decide) (by simp [posAside])).wr _ 1 (by decide) (by simp [posAside]))

theorem PosKept.hallSector (h : PosKept n g s t) : PosKept n g s (t.hallSector n) := by
  unfold State.hallSector
  exact ite_keeps (h.putSector _) (ite_keeps (h.putSector _) h)

theorem PosKept.pcEval (h : PosKept n g s t) (k : Nat) (bad : Bool) : PosKept n g s (t.pcEval n k bad) := by
  have count (v : Nat) : PosKept n g s (t.wr (pcField k).1 n.val v) := by
    unfold pcField
    split
    · exact h.wr R.OBS_PCNT_A_C _ (by decide) (by simp [posAside])
    · exact h.wr R.OBS_PCNT_B_C _ (by decide) (by simp [posAside])
  unfold State.pcEval
  exact ite_keeps h (PosKept.condSet (count _) _ _)

theorem PosKept.idxCheck (h : PosKept n g s t) (bad : Bool) : PosKept n g s (t.idxCheck n bad) := by
  unfold State.idxCheck
  exact ite_keeps (h.pcEval 4 bad) h

theorem PosKept.idxEvent (h : PosKept n g s t) : PosKept n g s (t.idxEvent n) :=
  PosKept.posErr (h.wr _ 1 (by decide) (by simp [posAside])) 2

theorem PosKept.homeEvent (h : PosKept n g s t) (ev : Nat) : PosKept n g s (t.homeEvent n ev) := by
  unfold State.homeEvent
  exact ite_keeps (Reached.record h rfl (show g (State.ch _ n).pos = g (t.ch n).pos by rw [State.ch_modCh_self])) h

theorem State.ch_wr (s : State) (f : Fld) (i v : Nat) (n : Ch) : (s.wr f i v).ch n = s.ch n := rfl

@[simp] theorem State.ch_wrs (s : State) (i : Nat) (l : List (Fld × Nat)) (n : Ch) : (s.wrs i l).ch n = s.ch n := by
  simp only [State.ch, State.wrs_chan]

theorem State.ch_modPos (s : State) (n : Ch) (f : Pos → Pos) : (s.modPos n f).ch n = { s.ch n with pos := f (s.ch n).pos } :=
  State.ch_modCh_self s n _

/-! ### Hall codes (R214 to R217) -/

/-- The accepted code shows, and its sector is taken by the map. -/
theorem State.rd_posErr (s : State) (n : Ch) (b : Nat) {f : Fld} (apart : R.POS_ERRCNT_ERR.sep f = true) : (s.posErr n b).rd f n.val = s.rd f n.val := by
  unfold State.posErr
  extract_lets
  split
  · rfl
  · exact State.rd_wr_sep _ _ _ _ _ apart

theorem State.ch_posErr (s : State) (n : Ch) (b : Nat) : (s.posErr n b).ch n = s.ch n := by
  unfold State.posErr
  extract_lets
  split <;> rfl

theorem State.hallIllegal_shows (s : State) (n : Ch) :
    (s.hallIllegal n).rd R.POS_STATUS_HALL n.val = s.rd R.POS_STATUS_HALL n.val ∧ (s.hallIllegal n).rd R.POS_STATUS_HALL_VALID n.val = 0 ∧
    (s.hallIllegal n).rd R.POS_IRQ_HALL_ILLEGAL n.val = 1 ∧ ((s.hallIllegal n).ch n).pos.hall.sector = 0 ∧
    ((s.hallIllegal n).ch n).pos.hall.spdOk = false := by
  unfold State.hallIllegal
  refine ⟨?_, ?_, ?_, ?_, ?_⟩
  · simp (disch := decide) only [State.rd_posErr, State.modPos, State.rd_modCh, State.wrs, State.rd_wr_sep]
  · simp (disch := decide) only [State.rd_posErr, State.wrs, State.rd_wr_sep, State.rd_wr_lt]
  · simp (disch := decide) only [State.rd_posErr, State.wrs, State.rd_wr_lt]
  all_goals
    rw [State.ch_posErr, State.ch_wrs, State.ch_modPos]

theorem State.hallEdge_shows (s : State) (n : Ch) (k : Nat) :
    (s.hallEdge n k).rd R.POS_STATUS_HALL n.val = s.rd R.POS_STATUS_HALL n.val ∧ (s.hallEdge n k).rd R.POS_STATUS_HALL_VALID n.val = 1 ∧
    ((s.hallEdge n k).ch n).pos.hall.sector = k := by
  unfold State.hallEdge
  extract_lets i h stamp skip u v w
  have seq : PosKept n (fun p => p.hall.sector) v w :=
    ite_keeps (PosKept.posErr (PosKept.wr (PosKept.refl n _ v) _ 1 (by decide) (by simp [posAside])) 0) (PosKept.refl n _ v)
  have kept : PosKept n (fun p => p.hall.sector) v (if w.rd R.SPT_HOME_SECTOR i = k then w.homeEvent n 1 else w) := ite_keeps (seq.homeEvent 1) seq
  refine ⟨?_, ?_, kept.2.trans ?_⟩
  · rw [kept.rd _ (by decide) (by decide)]
    exact State.rd_wr_sep _ _ _ _ _ (by decide)
  · rw [kept.rd _ (by decide) (by decide)]
    exact State.rd_wr_lt (by decide) (by decide) _ _
  · exact congrArg (fun c : Chan => c.pos.hall.sector) (State.ch_modPos s n fun p => { p with hall := p.hall.step k stamp })

/-- What a Hall code changes follows from the sector of the map alone. -/
def State.hallCode (s : State) (n : Ch) (code : Nat) : State :=
  if s.hallSectorOf n code = 0 then (s.wr R.POS_STATUS_HALL n.val code).hallIllegal n
  else (s.wr R.POS_STATUS_HALL n.val code).hallEdge n (s.hallSectorOf n code)

theorem execHallCodeAccepted_kept (on : s.chOn n = true) (code : BitVec 3) :
    ∃ t, exec (.hallCodeAccepted n code) s = .next t ∧ PosKept n id (s.hallCode n code.toNat) t := by
  refine ⟨_, congrArg Host.Outcome.next (State.whenCh_on on _), ?_⟩
  have map : (s.wr R.POS_STATUS_HALL n.val code.toNat).hallSectorOf n code.toNat = s.hallSectorOf n code.toNat :=
    congrArg (fun v => (v >>> (3 * code.toNat)) % 8) (State.run_wr_ch (by decide) s n _)
  have sector : PosKept n id (s.hallCode n code.toNat) ((s.hallCode n code.toNat).hallSector n) := PosKept.hallSector (PosKept.refl n id _)
  simp only [map]
  exact ite_keeps (PosKept.settleAll (sector.pcEval 3 _)) sector

theorem State.hallCode_shows (s : State) (n : Ch) {code : Nat} (small : code < 8) :
    (s.hallCode n code).rd R.POS_STATUS_HALL n.val = code ∧
    (s.hallCode n code).rd R.POS_STATUS_HALL_VALID n.val = (if s.hallSectorOf n code = 0 then 0 else 1) ∧
    ((s.hallCode n code).ch n).pos.hall.sector = s.hallSectorOf n code ∧
    (s.hallSectorOf n code = 0 → (s.hallCode n code).rd R.POS_IRQ_HALL_ILLEGAL n.val = 1 ∧ ((s.hallCode n code).ch n).pos.hall.spdOk = false) := by
  have shows : (s.wr R.POS_STATUS_HALL n.val code).rd R.POS_STATUS_HALL n.val = code := State.rd_wr_lt (by decide) small _ _
  unfold State.hallCode
  split
  · next zero =>
    obtain ⟨hall, valid, irq, sector, speed⟩ := State.hallIllegal_shows (s.wr R.POS_STATUS_HALL n.val code) n
    exact ⟨hall.trans shows, valid, sector.trans zero.symm, fun _ => ⟨irq, speed⟩⟩
  · next some =>
    obtain ⟨hall, valid, sector⟩ := State.hallEdge_shows (s.wr R.POS_STATUS_HALL n.val code) n (s.hallSectorOf n code)
    exact ⟨hall.trans shows, valid, sector, fun zero => absurd zero some⟩

/-! ### The incremental encoder (R218, R219) -/

/-- The levels of A and B last accepted. -/
def State.levels (s : State) (n : Ch) (a b : Bool) : State := s.modPos n fun p => { p with enc := { p.enc with a := a, b := b } }

theorem State.levels_same (s : State) (n : Ch) : s.levels n (s.ch n).pos.enc.a (s.ch n).pos.enc.b = s := State.setCh_ch s n

theorem quad_step {a b c d : Bool} (k : Nat) (lt : k < 4) (h : quad a b = (quad c d + k) % 4) : (quad a b + 4 - quad c d) % 4 = k := by
  have small : quad c d < 4 := by cases c <;> cases d <;> decide
  omega

/-- Levels that change are one edge ahead, both changed, or one edge behind. -/
theorem quad_turn {a b c d : Bool} (moves : (a, b) ≠ (c, d)) : (quad a b + 4 - quad c d) % 4 = 1 ∨ (quad a b + 4 - quad c d) % 4 = 2 ∨
    (quad a b + 4 - quad c d) % 4 = 3 := by
  revert a b c d
  decide

/-- The count after an edge, `d` ahead. -/
def State.counted (s : State) (n : Ch) (d : Int) : Nat := (((s.rd R.POS_ENC_CNT_COUNT n.val : Int) + d) % (max (s.cpr n) 1 : Nat)).toNat

theorem State.encMove_shows (s : State) (n : Ch) (d : Int) :
    (s.encMove n d).rd R.POS_ENC_CNT_COUNT n.val = s.counted n d % R.POS_ENC_CNT_COUNT.size ∧
    ((s.encMove n d).ch n).pos.enc.a = (s.ch n).pos.enc.a ∧ ((s.encMove n d).ch n).pos.enc.b = (s.ch n).pos.enc.b := by
  unfold State.encMove
  extract_lets i c cnt stamp u e
  have count : u.rd R.POS_ENC_CNT_COUNT n.val = s.counted n d % R.POS_ENC_CNT_COUNT.size := (State.rd_modCh _ _ _ _ _).trans (State.rd_wr _ _ _ _ (by decide))
  have levels : ((u.ch n).pos.enc.a, (u.ch n).pos.enc.b) = ((s.ch n).pos.enc.a, (s.ch n).pos.enc.b) := by
    simp only [u, State.ch_modPos, State.ch_wr]
  clear_value u
  have event : PosKept n (fun p => (p.enc.a, p.enc.b)) u (u.idxEvent n) := (PosKept.refl n _ u).idxEvent
  have missed := (event.modPos (fun p => { p with enc := { p.enc with missed := true } }) fun _ => rfl).idxCheck true
  suffices kept : PosKept n (fun p => (p.enc.a, p.enc.b)) u (if _ then _ else u) from
    ⟨(kept.rd _ (by decide) (by decide)).trans count, (congrArg Prod.fst kept.2).trans (congrArg Prod.fst levels),
      (congrArg Prod.snd kept.2).trans (congrArg Prod.snd levels)⟩
  exact ite_keeps missed (PosKept.refl n _ u)

theorem State.counted_up (some : 0 < s.cpr n) : s.counted n 1 = (s.rd R.POS_ENC_CNT_COUNT n.val + 1) % s.cpr n := by
  rw [State.counted, max_eq_left some]
  exact Int.toNat_natCast _

theorem State.counted_down (some : 0 < s.cpr n) : s.counted n (-1) = (s.rd R.POS_ENC_CNT_COUNT n.val + s.cpr n - 1) % s.cpr n := by
  have turn : ((s.rd R.POS_ENC_CNT_COUNT n.val : Int) + -1) % (s.cpr n : Int) = ((s.rd R.POS_ENC_CNT_COUNT n.val + s.cpr n - 1 : Nat) : Int) % (s.cpr n : Int) := by
    rw [← Int.add_emod_right]
    congr 1
    omega
  rw [State.counted, max_eq_left some, turn]
  exact Int.toNat_natCast _

/-- Both levels changed at once. -/
def State.encIllegal (s : State) (n : Ch) : State := (s.wrs n.val [(R.POS_IRQ_ENC_ILLEGAL, 1), (R.POS_STATUS_ENC_REF, 0)]).posErr n 3

theorem execEncoderEdge_on (on : s.chOn n = true) (a b : Bool) : exec (.encoderEdge n a b) s = .next
    (match (quad a b + 4 - quad (s.ch n).pos.enc.a (s.ch n).pos.enc.b) % 4 with
      | 0 => s.levels n a b
      | 1 => ((s.levels n a b).encMove n 1).settleAll
      | 3 => ((s.levels n a b).encMove n (-1)).settleAll
      | _ => (s.levels n a b).encIllegal n) := congrArg Host.Outcome.next (State.whenCh_on on _)

/-- An edge of one level, of direction `d`. -/
theorem State.edge_shows (s : State) (n : Ch) (a b : Bool) (d : Int) :
    let t := ((s.levels n a b).encMove n d).settleAll
    t.rd R.POS_ENC_CNT_COUNT n.val = s.counted n d % R.POS_ENC_CNT_COUNT.size ∧ (t.ch n).pos.enc.a = a ∧ (t.ch n).pos.enc.b = b := by
  obtain ⟨count, levelA, levelB⟩ := State.encMove_shows (s.levels n a b) n d
  have kept := PosKept.settleAll (PosKept.refl n (fun p => (p.enc.a, p.enc.b)) ((s.levels n a b).encMove n d))
  have held : (s.levels n a b).ch n = _ := State.ch_modPos s n _
  refine ⟨(kept.rd _ (by decide) (by decide)).trans count, (congrArg Prod.fst kept.2).trans (levelA.trans ?_), (congrArg Prod.snd kept.2).trans (levelB.trans ?_)⟩
  all_goals rw [held]

theorem State.illegal_shows (s : State) (n : Ch) (a b : Bool) :
    let t := (s.levels n a b).encIllegal n
    t.rd R.POS_ENC_CNT_COUNT n.val = s.rd R.POS_ENC_CNT_COUNT n.val ∧ t.rd R.POS_IRQ_ENC_ILLEGAL n.val = 1 ∧
    t.rd R.POS_STATUS_ENC_REF n.val = 0 ∧ (t.ch n).pos.enc.a = a ∧ (t.ch n).pos.enc.b = b := by
  refine ⟨?_, ?_, ?_, ?_, ?_⟩
  case refine_4 | refine_5 => simp only [State.encIllegal, State.ch_posErr, State.ch_wrs, State.levels, State.ch_modPos]
  all_goals simp (disch := decide) only [State.encIllegal, State.rd_posErr, State.wrs, State.rd_wr_sep, State.rd_wr_lt, State.levels, State.modPos, State.rd_modCh]

theorem State.encRef_shows (s : State) (n : Ch) (count : Nat) :
    (s.encRef n count).rd R.POS_STATUS_ENC_REF n.val = 1 ∧ (s.encRef n count).rd R.POS_ENC_CNT_COUNT n.val = count % R.POS_ENC_CNT_COUNT.size ∧
    OnlyChan n [R.POS_ENC_CNT_COUNT.at n.val, R.POS_STATUS_ENC_REF.at n.val] s (s.encRef n count) := by
  refine ⟨?_, ?_, ?_⟩
  · simp (disch := decide) only [State.encRef, State.modPos, State.rd_modCh, State.wrs, State.rd_wr_lt]
  · simp (disch := decide) only [State.encRef, State.modPos, State.rd_modCh, State.wrs, State.rd_wr_sep, State.rd_wr]
  · exact (OnlyChan.wrs (OnlyChan.refl n _ s) n.val _ (by simp +decide)).modCh _

end

section
variable {s : State} {n : Ch}

theorem execEncoderIndex_first (on : s.chOn n = true) (free : s.run R.POS_ENC_IDX_GATE n.val = 0) (mode : s.run R.POS_ENC_IDX_MODE n.val ≠ 0)
    (fresh : s.rd R.POS_STATUS_ENC_REF n.val = 0) : exec (.encoderIndex n) s =
      .next ((((s.wr R.POS_IRQ_INDEX n.val 1).homeEvent n 0).encRef n (s.run R.POS_ENC_IDXPOS_IDXPOS n.val)).settleAll) := by
  have unset : (!((s.wr R.POS_IRQ_INDEX n.val 1).homeEvent n 0).on R.POS_STATUS_ENC_REF n.val) = true := by
    have kept := PosKept.homeEvent (PosKept.refl n id (s.wr R.POS_IRQ_INDEX n.val 1)) 0
    rw [State.on, kept.rd _ (by decide) (by decide), State.rd_wr_sep _ _ _ _ _ (by decide), fresh]
    rfl
  have opened : ¬(s.run R.POS_ENC_IDX_GATE n.val = 1 ∧ ((s.ch n).pos.enc.a && (s.ch n).pos.enc.b) = false) := by simp [free]
  refine congrArg Host.Outcome.next ((State.whenCh_on on _).trans ((if_neg opened).trans (congrArg State.settleAll ?_)))
  exact (if_neg mode).trans (if_pos unset)

theorem State.indexApart : ∀ n : Ch, R.POS_IRQ_INDEX.mask &&&
    maskAt [R.POS_ENC_CNT_COUNT.at n.val, R.POS_STATUS_ENC_REF.at n.val] (R.POS_IRQ_INDEX.addr n.val) = 0#32 := by decide

theorem State.index_shows (s : State) (n : Ch) (count : Nat) :
    let t := (((s.wr R.POS_IRQ_INDEX n.val 1).homeEvent n 0).encRef n count).settleAll
    t.rd R.POS_IRQ_INDEX n.val = 1 ∧ t.rd R.POS_STATUS_ENC_REF n.val = 1 ∧ t.rd R.POS_ENC_CNT_COUNT n.val = count % R.POS_ENC_CNT_COUNT.size := by
  intro t
  have seen := PosKept.homeEvent (PosKept.refl n id (s.wr R.POS_IRQ_INDEX n.val 1)) 0
  obtain ⟨ref, counts, only⟩ := State.encRef_shows ((s.wr R.POS_IRQ_INDEX n.val 1).homeEvent n 0) n count
  have settled := PosKept.settleAll (PosKept.refl n id (((s.wr R.POS_IRQ_INDEX n.val 1).homeEvent n 0).encRef n count))
  refine ⟨(settled.rd _ (by decide) (by decide)).trans ?_, (settled.rd _ (by decide) (by decide)).trans ref, (settled.rd _ (by decide) (by decide)).trans counts⟩
  rw [only.1.rd R.POS_IRQ_INDEX n.val (by decide) (State.indexApart n), seen.rd _ (by decide) (by decide)]
  exact State.rd_wr_lt (by decide) (by decide) _ _

/-- Settles O13, from what a Hall code, an edge and an index do to their own fields, and the rest of their commands keeping them. -/
theorem hallAndEncoderFollow : Obligations.HallAndEncoderFollow := by
  unfold Obligations.HallAndEncoderFollow
  intro n s on
  refine ⟨?hall, ?encStill, ?hallStill, ?edge, ?noEdge, ?index, ?gated, ?load, ?count⟩
  case hall =>
    intro code
    obtain ⟨t, runs, kept⟩ := execHallCodeAccepted_kept on code
    obtain ⟨hall, valid, sector, illegal⟩ := State.hallCode_shows s n (code := code.toNat) code.isLt
    have same : (t.ch n).pos = ((s.hallCode n code.toNat).ch n).pos := kept.2
    refine ⟨t, runs, (kept.rd _ (by decide) (by decide)).trans hall, (kept.rd _ (by decide) (by decide)).trans valid,
      (congrArg (·.hall.sector) same).trans sector, fun zero => ?_⟩
    exact ⟨(kept.rd _ (by decide) (by decide)).trans (illegal zero).1, (congrArg (·.hall.spdOk) same).trans (illegal zero).2⟩
  case encStill =>
    exact ⟨_, congrArg Host.Outcome.next (State.whenCh_on on _), State.ch_modPos s n _, (OnlyChan.refl n [] s).modCh _⟩
  case hallStill =>
    intro known
    refine ⟨_, congrArg Host.Outcome.next (State.whenCh_on on _), (State.ch_modPos s n _).trans ?_, (OnlyChan.refl n [] s).modCh _⟩
    simp [known]
  case edge =>
    intro a b some moves
    have runs := execEncoderEdge_on on a b
    rcases quad_turn moves with up | both | down
    · obtain ⟨count, levelA, levelB⟩ := State.edge_shows s n a b 1
      rw [up] at runs
      refine ⟨_, runs, levelA, levelB, fun _ => State.counted_up some ▸ count, fun h => ?_, fun h => ?_⟩
      · exact absurd (up.symm.trans (quad_step 3 (by decide) h)) (by decide)
      · exact absurd (up.symm.trans (quad_step 2 (by decide) h)) (by decide)
    · obtain ⟨count, irq, ref, levelA, levelB⟩ := State.illegal_shows s n a b
      rw [both] at runs
      refine ⟨_, runs, levelA, levelB, fun h => ?_, fun h => ?_, fun _ => ⟨count, irq, ref⟩⟩
      · exact absurd (both.symm.trans (quad_step 1 (by decide) h)) (by decide)
      · exact absurd (both.symm.trans (quad_step 3 (by decide) h)) (by decide)
    · obtain ⟨count, levelA, levelB⟩ := State.edge_shows s n a b (-1)
      rw [down] at runs
      refine ⟨_, runs, levelA, levelB, fun h => ?_, fun _ => State.counted_down some ▸ count, fun h => ?_⟩
      · exact absurd (down.symm.trans (quad_step 1 (by decide) h)) (by decide)
      · exact absurd (down.symm.trans (quad_step 2 (by decide) h)) (by decide)

  case noEdge =>
    have still : (quad (s.ch n).pos.enc.a (s.ch n).pos.enc.b + 4 - quad (s.ch n).pos.enc.a (s.ch n).pos.enc.b) % 4 = 0 := by omega
    rw [execEncoderEdge_on on, still]
    exact congrArg Host.Outcome.next (State.levels_same s n)
  case index =>
    intro free mode fresh
    exact ⟨_, execEncoderIndex_first on free mode fresh, State.index_shows s n _⟩
  case gated => exact fun gate low => congrArg Host.Outcome.next ((State.whenCh_on on _).trans (if_pos ⟨gate, low⟩))
  case load => exact ⟨_, congrArg Host.Outcome.next (State.whenCh_on on _), State.encRef_shows s n _⟩
  case count =>
    exact ⟨_, congrArg Host.Outcome.next (State.whenCh_on on _), State.rd_wr_lt (by decide) (by decide) _ _,
      (OnlyRegs.refl _ s).wr R.POS_ERRCNT_ERR n.val 0 (by decide) (by simp)⟩

end

end Sys2Proof.Machine

/-! SUPPORT. O14: resolvers and SPI encoders. -/

namespace Sys2Proof.Machine

/-! ### Resolver interfaces (R221 to R223) -/

section
variable {s t : State} {m : Fin 2}

theorem State.scx_modScx (s : State) (m : Fin 2) (g : Scx → Scx) : (s.modScx m g).scx.get m = g (s.scx.get m) := Vector.getElem_set_self m.isLt

theorem State.rd_modScx (s : State) (m : Fin 2) (g : Scx → Scx) (f : Fld) (i : Nat) : (s.modScx m g).rd f i = s.rd f i := rfl

/-- Settling from a state whose resolver records changed. -/
theorem Settled.withScx {l : List (Nat × Word)} {s t : State} {x : Vector Scx 2} (h : Settled l { s with scx := x } t) :
    Settled l s { t with scx := s.scx } :=
  ⟨h.1, show ({ t.still with scx := s.scx } : State) = s.still by rw [h.2]; rfl⟩

theorem OnlyRegs.withScx {l : List (Nat × Word)} {s t : State} {x : Vector Scx 2} (h : OnlyRegs l { s with scx := x } t) :
    OnlyRegs l s { t with scx := s.scx } :=
  ⟨h.1, h.2.1, show ({ t.rest with scx := s.scx } : State) = s.rest by rw [h.2.2]; rfl⟩

theorem Settled.scx {l : List (Nat × Word)} (h : Settled l s t) : t.scx = s.scx := show t.still.scx = s.still.scx by rw [h.2]

theorem OnlyRegs.scx_eq {l : List (Nat × Word)} (h : OnlyRegs l s t) : t.scx = s.scx := show t.rest.scx = s.rest.scx by rw [h.2.2]

/-- Settling keeps a field of a page that has two instances. -/
theorem Settled.rd_pair (h : Settled [] s t) {f : Fld} (hf : f.ok) (c : ∀ m : Fin 2, f.mask &&& (settleBits (f.addr m.val) ||| 0#32) = 0#32) :
    t.rd f m.val = s.rd f m.val := h.rd f m.val hf (c m)

theorem Settled.condSet {l : List (Nat × Word)} (h : Settled l s t) (i : Nat) (b : Bool) : Settled l s (t.condSet i b) :=
  State.condSet_keeps (settles_settled l s) h

theorem execResolverTrackUpdate_runs (runs : s.rd R.SCX_STATUS_RUNNING m.val ≠ 0) {x : Scx} {err : Int} {w : Word} {fine : Nat}
    (hx : x = s.scx.get m) (herr : err = angleDiff x.phi (x.fine / 65536))
    (hw : w = f32Add (s.rdw R.SCX_SPEED m.val) (Config.trackGain (s.rd R.SCX_ATO_BW m.val) err).2)
    (hfine : fine = (((x.fine : Int) + trackTurn w + (Config.trackGain (s.rd R.SCX_ATO_BW m.val) err).1) % 2 ^ 32).toNat) :
    exec (.resolverTrackUpdate m) s = .next ((s.modScx m fun x => { x with fine := fine }).wrs m.val
      [(R.SCX_ANGLE_PHI, fine / 65536), (R.SCX_ANGLE_AMP, x.mag), (R.SCX_SPEED, w.toNat), (R.SCX_STAMP_TIME, s.ticks),
        (R.SCX_STATUS_LOCK, if err.natAbs ≤ 910 then 1 else 0)]) := by
  subst hx herr hw hfine
  exact congrArg Host.Outcome.next (if_pos (bne_iff_ne.2 runs))

theorem trackTurn_lt (a : Int) : (a % 2 ^ 32).toNat / 65536 < R.SCX_ANGLE_PHI.size := by
  have : R.SCX_ANGLE_PHI.size = 65536 := rfl
  omega

/-- The settling keeps the record of a resolver interface as it is set. -/
theorem State.scxSettled (s : State) (m : Fin 2) (g : Scx → Scx) (b c : Bool) :
    let t := (((s.modScx m g).condSet (srcScxAmp m.val) b).condSet (srcScxTrack m.val) c).settleAll
    t.scx.get m = g (s.scx.get m) ∧ Settled [] s { t with scx := s.scx } := by
  intro t
  have kept : Settled [] (s.modScx m g) t := Settled.settleAll ((Settled.refl [] _).condSet _ _ |>.condSet _ _)
  exact ⟨(congrArg (·.get m) kept.scx).trans (State.scx_modScx s m g), kept.withScx⟩

/-- The record of a resolver interface after a demodulated period of amplitude `a` and angle `phi`. -/
def State.scxAfter (s : State) (m : Fin 2) (a phi : Nat) : Scx :=
  { s.scx.get m with
    amp := if a < s.rd R.SCX_ATO_AMP_LO m.val * 256 ∨ s.rd R.SCX_ATO_AMP_HI m.val * 256 < a then min ((s.scx.get m).amp + 1) 3 else 0
    track := if sinAbove30 ((phi + 65536 - s.rd R.SCX_ANGLE_PHI m.val) % 65536) = true then min ((s.scx.get m).track + 1) 3 else 0
    mag := a
    phi := phi }

/-- What a tracking step writes. -/
theorem State.tracked_shows (s : State) (m : Fin 2) {turns : Nat} (ht : turns < R.SCX_ANGLE_PHI.size) (mag : Nat) (w : Word) (lock : Nat)
    (hl : lock < R.SCX_STATUS_LOCK.size) (g : Scx → Scx) {x : Scx} (hx : g (s.scx.get m) = x) :
    let t := (s.modScx m g).wrs m.val [(R.SCX_ANGLE_PHI, turns), (R.SCX_ANGLE_AMP, mag), (R.SCX_SPEED, w.toNat), (R.SCX_STAMP_TIME, s.ticks),
      (R.SCX_STATUS_LOCK, lock)]
    t.rd R.SCX_ANGLE_PHI m.val = turns ∧ t.rd R.SCX_ANGLE_AMP m.val = mag % 65536 ∧ t.rdw R.SCX_SPEED m.val = w ∧
      t.rd R.SCX_STAMP_TIME m.val = s.ticks % 2 ^ 24 ∧ t.rd R.SCX_STATUS_LOCK m.val = lock ∧ t.scx.get m = x ∧
      OnlyRegs [R.SCX_ANGLE_PHI.at m.val, R.SCX_ANGLE_AMP.at m.val, R.SCX_SPEED.at m.val, R.SCX_STAMP_TIME.at m.val,
        R.SCX_STATUS_LOCK.at m.val] s { t with scx := s.scx } := by
  have speed (u : State) : (((u.wr R.SCX_SPEED m.val w.toNat).wr R.SCX_STAMP_TIME m.val s.ticks).wr R.SCX_STATUS_LOCK m.val lock).rdw R.SCX_SPEED m.val = w := by
    rw [State.rdw, State.rd_wr_sep _ _ _ _ _ (by decide), State.rd_wr_sep _ _ _ _ _ (by decide)]
    exact State.rdw_wr_word (by decide) rfl u m.val w
  refine ⟨?phi, ?amp, speed _, ?stamp, ?lock, ?_, OnlyRegs.withScx (OnlyRegs.wrs (OnlyRegs.refl _ (s.modScx m g)) m.val _ (by simp +decide))⟩
  case phi =>
    simp (disch := decide) only [State.wrs, State.rd_wr_sep]
    exact State.rd_wr_lt (by decide) ht _ _
  case amp =>
    simp (disch := decide) only [State.wrs, State.rd_wr_sep]
    exact State.rd_wr _ R.SCX_ANGLE_AMP _ _ (by decide)
  case stamp =>
    simp (disch := decide) only [State.wrs, State.rd_wr_sep]
    exact State.rd_wr _ R.SCX_STAMP_TIME _ _ (by decide)
  case lock => exact State.rd_wr_lt (by decide) hl _ _
  rw [State.wrs_scx, State.scx_modScx, hx]

theorem execResolverDemod_runs (runs : s.rd R.SCX_STATUS_RUNNING m.val ≠ 0) (sn cs : List (BitVec 16)) {x y : Int}
    (hy : y = demodSum (s.rd R.SCX_EXC_PHASE m.val) sn) (hx : x = demodSum (s.rd R.SCX_EXC_PHASE m.val) cs) :
    ∃ t, exec (.resolverDemod m sn cs) s = .next t ∧
      t.scx.get m = s.scxAfter m (demodAmp y x (max sn.length cs.length)) (angleCode x y) ∧ Settled [] s { t with scx := s.scx } := by
  subst hx hy
  obtain ⟨record, kept⟩ := State.scxSettled s m _ _ _
  refine ⟨_, congrArg Host.Outcome.next (if_pos (bne_iff_ne.2 runs)), record.trans ?_, kept⟩
  simp only [State.scxAfter, Bool.or_eq_true, decide_eq_true_eq]

/-- EN cleared: the record goes to its reset values. -/
theorem State.scxEn_off (s : State) (m : Fin 2) :
    let t := s.scxEn m false
    t.rd R.SCX_CTRL_EN m.val = 0 ∧ t.rd R.SCX_STATUS_RUNNING m.val = 0 ∧ t.rd R.SCX_STATUS_LOCK m.val = 0 ∧
      Settled [R.SCX_CTRL_EN.at m.val, R.SCX_STATUS_RUNNING.at m.val, R.SCX_STATUS_LOCK.at m.val] s { t with scx := s.scx } := by
  intro t
  have wrote : OnlyRegs [R.SCX_CTRL_EN.at m.val, R.SCX_STATUS_RUNNING.at m.val, R.SCX_STATUS_LOCK.at m.val] s
      (s.wrs m.val [(R.SCX_CTRL_EN, 0), (R.SCX_STATUS_RUNNING, 0), (R.SCX_STATUS_LOCK, 0)]) := OnlyRegs.wrs (OnlyRegs.refl _ s) m.val _ (by simp +decide)
  have fields : (s.wrs m.val [(R.SCX_CTRL_EN, 0), (R.SCX_STATUS_RUNNING, 0), (R.SCX_STATUS_LOCK, 0)]).rd R.SCX_CTRL_EN m.val = 0 ∧
      (s.wrs m.val [(R.SCX_CTRL_EN, 0), (R.SCX_STATUS_RUNNING, 0), (R.SCX_STATUS_LOCK, 0)]).rd R.SCX_STATUS_RUNNING m.val = 0 ∧
      (s.wrs m.val [(R.SCX_CTRL_EN, 0), (R.SCX_STATUS_RUNNING, 0), (R.SCX_STATUS_LOCK, 0)]).rd R.SCX_STATUS_LOCK m.val = 0 := by
    refine ⟨?_, ?_, ?_⟩
    all_goals simp (disch := decide) only [State.wrs, State.rd_wr_sep, State.rd_wr_lt]
  have form : t = ((((s.wrs m.val [(R.SCX_CTRL_EN, 0), (R.SCX_STATUS_RUNNING, 0), (R.SCX_STATUS_LOCK, 0)]).modScx m fun _ => Scx.reset).condSet
    (srcScxAmp m.val) false).condSet (srcScxTrack m.val) false).settleAll := by
    simp only [t, State.scxEn, State.flag, State.wrs, Bool.false_eq_true, if_false]
  generalize s.wrs m.val [(R.SCX_CTRL_EN, 0), (R.SCX_STATUS_RUNNING, 0), (R.SCX_STATUS_LOCK, 0)] = u at wrote fields form
  have settled := (State.scxSettled u m (fun _ => Scx.reset) false false).2
  rw [← form] at settled
  obtain ⟨en, running, lock⟩ := fields
  have scx : u.scx = s.scx := wrote.scx_eq
  refine ⟨?_, ?_, ?_, ?_⟩
  · exact (settled.rd_pair (by decide) (by decide)).trans en
  · exact (settled.rd_pair (by decide) (by decide)).trans running
  · exact (settled.rd_pair (by decide) (by decide)).trans lock
  · rw [← scx]
    exact wrote.settled.trans (settled.mono (by simp))

end

/-! ### Master SPI ports (R226, R227) -/

section
variable {s t : State} {m : Fin 2} {k : Nat}

theorem State.mspi_modMspi (s : State) (m : Fin 2) (g : Mspi → Mspi) : (s.modMspi m g).mspi.get m = g (s.mspi.get m) := Vector.getElem_set_self m.isLt

theorem State.rd_modMspi (s : State) (m : Fin 2) (g : Mspi → Mspi) (f : Fld) (i : Nat) : (s.modMspi m g).rd f i = s.rd f i := rfl

theorem OnlyRegs.modMspi {l : List (Nat × Word)} {s t : State} (h : OnlyRegs l s { t with mspi := s.mspi }) (m : Fin 2) (g : Mspi → Mspi) :
    OnlyRegs l s { t.modMspi m g with mspi := s.mspi } := h

theorem OnlyRegs.wrMspi {l : List (Nat × Word)} {s t : State} (h : OnlyRegs l s { t with mspi := s.mspi }) (f : Fld) (i v : Nat) (hf : f.ok)
    (c : f.at i ∈ l) : OnlyRegs l s { t.wr f i v with mspi := s.mspi } := h.wr f i v hf c

theorem State.mspiFire_idle (en : s.rd R.MSPI_CTRL_EN m.val ≠ 0) (idle : s.rd R.MSPI_STATUS_BUSY m.val = 0) : s.mspiFire m k = s.mspiRun m k := by
  simp [State.mspiFire, State.on, en, idle]

theorem State.mspiFire_pends (en : s.rd R.MSPI_CTRL_EN m.val ≠ 0) (busy : s.rd R.MSPI_STATUS_BUSY m.val ≠ 0) (free : s.rd R.MSPI_STATUS_PENDING m.val = 0) :
    s.mspiFire m k = (s.wr R.MSPI_STATUS_PENDING m.val 1).modMspi m fun x => { x with pend := k } := by
  simp [State.mspiFire, State.on, en, busy, free]

theorem State.mspiFire_lost (en : s.rd R.MSPI_CTRL_EN m.val ≠ 0) (busy : s.rd R.MSPI_STATUS_BUSY m.val ≠ 0) (waits : s.rd R.MSPI_STATUS_PENDING m.val ≠ 0) :
    s.mspiFire m k = s.wr R.MSPI_IRQ_TRIG_LOST m.val 1 := by
  simp [State.mspiFire, State.on, en, busy, waits]

theorem State.mspiEntry_shows (s : State) (m : Fin 2) (k : Nat) :
    (s.mspiEntry m k).rd R.MSPI_STATUS_ENTRY m.val = k % 32 ∧ (s.mspiEntry m k).rd R.MSPI_STATUS_BUSY m.val = s.rd R.MSPI_STATUS_BUSY m.val ∧
    ((s.mspiEntry m k).mspi.get m).count = (s.mspi.get m).count + 1 := by
  refine ⟨State.rd_wr s R.MSPI_STATUS_ENTRY m.val k (by decide), State.rd_wr_sep s R.MSPI_STATUS_ENTRY R.MSPI_STATUS_BUSY m.val k (by decide), ?_⟩
  exact congrArg (·.count) (State.mspi_modMspi (s.wr R.MSPI_STATUS_ENTRY m.val k) m _)

theorem State.mspiRun_shows (s : State) (m : Fin 2) (k : Nat) :
    (s.mspiRun m k).rd R.MSPI_STATUS_BUSY m.val = 1 ∧ (s.mspiRun m k).rd R.MSPI_STATUS_ENTRY m.val = s.rd (R.MSPI_TRIG_START.nth k) m.val % 32 ∧
    ((s.mspiRun m k).mspi.get m).count = 1 ∧ 
    OnlyRegs [R.MSPI_STATUS_BUSY.at m.val, R.MSPI_STATUS_ENTRY.at m.val] s { s.mspiRun m k with mspi := s.mspi } := by
  obtain ⟨entry, busy, count⟩ := State.mspiEntry_shows
    ((s.wr R.MSPI_STATUS_BUSY m.val 1).modMspi m fun x => { x with count := 0, held := false, frame := [] }) m (s.rd (R.MSPI_TRIG_START.nth k) m.val)
  refine ⟨busy.trans (State.rd_wr_lt (by decide) (by decide) s m.val), entry, count.trans ?_, ?_⟩
  · exact congrArg (fun x : Mspi => x.count + 1) (State.mspi_modMspi (s.wr R.MSPI_STATUS_BUSY m.val 1) m _)
  · have start := (OnlyRegs.refl _ s).wr R.MSPI_STATUS_BUSY m.val 1 (by decide) (List.mem_cons_self (l := [R.MSPI_STATUS_ENTRY.at m.val]))
    exact OnlyRegs.modMspi (OnlyRegs.wrMspi (OnlyRegs.modMspi start m _) R.MSPI_STATUS_ENTRY m.val _ (by decide) (by simp)) m _

/-- STATUS of port `m` is kept. -/
def StatusKept (m : Fin 2) (s t : State) : Prop := t.word (R.MSPI_STATUS_BUSY.addr m.val) = s.word (R.MSPI_STATUS_BUSY.addr m.val)

/-- A field past STATUS is written. -/
theorem StatusKept.wr (h : StatusKept m s t) (f : Fld) (v : Nat) (page : f.page = 8) (past : 12 < f.off) : StatusKept m s (t.wr f m.val v) := by
  have apart : f.addr m.val ≠ R.MSPI_STATUS_BUSY.addr m.val := by
    have : R.MSPI_STATUS_BUSY.off = 12 ∧ R.MSPI_STATUS_BUSY.page = 8 := ⟨rfl, rfl⟩
    simp only [Fld.addr, page, this.1, this.2]
    omega
  rw [StatusKept, State.word_wr, if_neg apart]
  exact h

theorem StatusKept.rd (h : StatusKept m s t) (f : Fld) (there : f.addr m.val = R.MSPI_STATUS_BUSY.addr m.val) : t.rd f m.val = s.rd f m.val := by
  rw [State.rd, State.rd, there, h]

/-- One result of a frame enters its slot (R228). -/
def State.mspiSlot (t : State) (m : Fin 2) (stamp : Nat) (e : Nat × Word) : State :=
  (t.wrs m.val [(R.MSPI_RES_DATA.nth e.1, e.2.toNat), (R.MSPI_STAMP_SEQ.nth e.1, t.rd (R.MSPI_STAMP_SEQ.nth e.1) m.val + 1),
    (R.MSPI_STAMP_TIME.nth e.1, stamp)]).orBits R.MSPI_IRQ_SLOT m.val (2 ^ e.1)

theorem State.mspiSlot_mspi (s : State) (m : Fin 2) (stamp : Nat) (e : Nat × Word) : (s.mspiSlot m stamp e).mspi = s.mspi := by
  unfold State.mspiSlot State.orBits
  exact (State.wr_mspi _ _ _ _).trans (State.wrs_mspi _ _ _)

theorem StatusKept.slot (h : StatusKept m s t) (e : Nat × Word) (stamp : Nat) : StatusKept m s (t.mspiSlot m stamp e) := by
  have past (f : Fld) (off : 12 < f.off) : 12 < (f.nth e.1).off := Nat.lt_of_lt_of_le off (Nat.le_add_right _ _)
  have data (v : Nat) := h.wr (R.MSPI_RES_DATA.nth e.1) v rfl (past R.MSPI_RES_DATA (by decide))
  have seq (v w : Nat) := (data v).wr (R.MSPI_STAMP_SEQ.nth e.1) w rfl (past R.MSPI_STAMP_SEQ (by decide))
  have time (v w : Nat) := (seq v w).wr (R.MSPI_STAMP_TIME.nth e.1) stamp rfl (past R.MSPI_STAMP_TIME (by decide))
  exact (time _ _).wr R.MSPI_IRQ_SLOT _ rfl (by decide)

/-- The results of a frame enter their slots in their order. -/
def State.mspiSlots (s : State) (m : Fin 2) (stamp : Nat) (l : List (Nat × Word)) : State := l.foldl (fun s e => s.mspiSlot m stamp e) s

theorem State.mspiSlots_keep (s : State) (m : Fin 2) (stamp : Nat) (l : List (Nat × Word)) :
    StatusKept m s (s.mspiSlots m stamp l) ∧ (s.mspiSlots m stamp l).mspi = s.mspi :=
  foldl_keeps (P := fun u => StatusKept m s u ∧ u.mspi = s.mspi) (fun u e h => ⟨h.1.slot e stamp, (u.mspiSlot_mspi m stamp e).trans h.2⟩) l ⟨rfl, rfl⟩

theorem State.mspiFlush_eq (s : State) (m : Fin 2) : s.mspiFlush m =
    (s.mspiSlots m (s.mspi.get m).stamp (s.mspi.get m).frame).modMspi m fun x => { x with frame := [], held := false } := rfl

/-- The results of a frame spare the port's STATUS, and end the hold. -/
theorem State.mspiFlush_keeps (s : State) (m : Fin 2) : StatusKept m s (s.mspiFlush m) ∧
    (s.mspiFlush m).mspi.get m = { s.mspi.get m with frame := [], held := false } := by
  rw [State.mspiFlush_eq]
  obtain ⟨status, mspi⟩ := State.mspiSlots_keep s m (s.mspi.get m).stamp (s.mspi.get m).frame
  refine ⟨status, (State.mspi_modMspi _ m _).trans ?_⟩
  rw [mspi]

/-- A port's entry done: after its results, the run ends or goes on. -/
theorem State.mspiDone_shows (s : State) (m : Fin 2) (rx : Word) :
    ∃ u : State, StatusKept m s u ∧ (u.mspi.get m).count = (s.mspi.get m).count ∧
      ((s.mspi.get m).cur.getLsbD 31 = true → (u.mspi.get m).held = false) ∧
      s.mspiDone m rx = if (s.mspi.get m).cur.getLsbD 31 then u.mspiEnd m
        else if 32 ≤ (u.mspi.get m).count then (u.wr R.MSPI_IRQ_RUNAWAY m.val 1).mspiEnd m
        else u.mspiEntry m ((s.rd R.MSPI_STATUS_ENTRY m.val + 1) % 32) := by
  have framed (c : Prop) [Decidable c] (g : Mspi → Mspi) (count : ∀ x, (g x).count = x.count) :
      StatusKept m s (if c then s.modMspi m g else s) ∧ ((if c then s.modMspi m g else s).mspi.get m).count = (s.mspi.get m).count := by
    split
    · exact ⟨rfl, (congrArg (·.count) (State.mspi_modMspi s m g)).trans (count _)⟩
    · exact ⟨rfl, rfl⟩
  unfold State.mspiDone
  extract_lets e len dst stop next nextSel hold u v
  obtain ⟨status, count⟩ : StatusKept m s u ∧ (u.mspi.get m).count = (s.mspi.get m).count := framed _ _ fun _ => rfl
  obtain ⟨flushed, frame⟩ := State.mspiFlush_keeps u m
  have after (c : Prop) [Decidable c] : let v := if c then u.modMspi m fun x => { x with held := true } else u.mspiFlush m
      StatusKept m s v ∧ (v.mspi.get m).count = (s.mspi.get m).count ∧ (¬c → (v.mspi.get m).held = false) := by
    split
    · next holds =>
      exact ⟨status, (congrArg (·.count) (State.mspi_modMspi u m _)).trans count, fun h => absurd holds h⟩
    · exact ⟨flushed.trans status, (congrArg (·.count) frame).trans count, fun _ => congrArg (·.held) frame⟩
  obtain ⟨kept, counted, released⟩ := after (hold = true)
  refine ⟨v, kept, counted, fun last => released ?_, rfl⟩
  simp [hold, stop, e, last]

theorem execMspiEntryDone_busy (busy : s.rd R.MSPI_STATUS_BUSY m.val ≠ 0) (rx : Word) : exec (.mspiEntryDone m rx) s = .next (s.mspiDone m rx) :=
  congrArg Host.Outcome.next (if_pos (bne_iff_ne.2 busy))

theorem State.mspiEnd_idle (idle : s.rd R.MSPI_STATUS_PENDING m.val = 0) :
    s.mspiEnd m = s.wrs m.val [(R.MSPI_STATUS_BUSY, 0), (R.MSPI_IRQ_DONE, 1)] := by
  refine if_neg ?_
  rw [State.on, show (s.wrs m.val [(R.MSPI_STATUS_BUSY, 0), (R.MSPI_IRQ_DONE, 1)]).rd R.MSPI_STATUS_PENDING m.val = 0 by
    simpa (disch := decide) only [State.wrs, State.rd_wr_sep] using idle]
  decide

end

/-- Settles O14, from the record that each resolver command leaves and the port's word STATUS, which the results of a frame spare. -/
theorem resolverAndSpiFollow : Obligations.ResolverAndSpiFollow := by
  unfold Obligations.ResolverAndSpiFollow
  intro m s
  refine ⟨fun runs => ⟨?track, ?demod⟩, fun stopped => ⟨?noTrack, ?noDemod⟩, fun free => ⟨?enable, ?disable⟩, ?locked, ?swtrig, ?trigger, ?off,
    ?last, ?more, ?idle⟩
  case track =>
    intro x err w fine hx herr hw hfine
    have turns : fine / 65536 < R.SCX_ANGLE_PHI.size := hfine ▸ trackTurn_lt _
    refine ⟨_, execResolverTrackUpdate_runs runs hx herr hw hfine, State.tracked_shows s m turns x.mag w _ (by split <;> decide) _ ?_⟩
    rw [hx]
  case demod =>
    intro sn cs x y hy hx
    obtain ⟨t, steps, record, kept⟩ := execResolverDemod_runs runs sn cs hy hx
    refine ⟨t, steps, ?_, ?_, ?_, ?_, ?_, kept⟩
    all_goals simp only [record, State.scxAfter]
  case noTrack => exact congrArg Host.Outcome.next (if_neg (by simp [State.on, stopped]))
  case noDemod => exact fun _ _ => congrArg Host.Outcome.next (if_neg (by simp [State.on, stopped]))
  case enable =>
    refine ⟨s.wrs m.val [(R.SCX_CTRL_EN, 1), (R.SCX_STATUS_RUNNING, 1)], congrArg Host.Outcome.next (if_neg (by simp [free])), ?_, ?_,
      OnlyRegs.wrs (OnlyRegs.refl _ s) m.val _ (by simp +decide)⟩
    all_goals simp (disch := decide) only [State.wrs, State.rd_wr_sep, State.rd_wr_lt]
  case disable => exact ⟨s.scxEn m false, congrArg Host.Outcome.next (if_neg (by simp [free])), State.scxEn_off s m⟩
  case locked => exact fun en locked => congrArg Host.Outcome.next (if_pos locked)
  case swtrig =>
    intro k src en
    have fires : exec (.mspiSwtrig m k) s = .next (s.mspiFire m k.val) := congrArg Host.Outcome.next (if_pos (Or.inr src))
    refine ⟨fun idle => ?_, fun busy free => ?_, fun busy waits => ?_⟩
    · exact ⟨_, fires.trans (congrArg Host.Outcome.next (State.mspiFire_idle en idle)), State.mspiRun_shows s m k.val⟩
    · refine ⟨_, fires.trans (congrArg Host.Outcome.next (State.mspiFire_pends en busy free)), State.rd_wr_lt (by decide) (by decide) s m.val,
        congrArg (·.pend) (State.mspi_modMspi (s.wr R.MSPI_STATUS_PENDING m.val 1) m _), ?_⟩
      exact OnlyRegs.modMspi ((OnlyRegs.refl _ s).wr R.MSPI_STATUS_PENDING m.val 1 (by decide) (by simp)) m _
    · exact ⟨_, fires.trans (congrArg Host.Outcome.next (State.mspiFire_lost en busy waits)), State.rd_wr_lt (by decide) (by decide) s m.val,
        (OnlyRegs.refl _ s).wr R.MSPI_IRQ_TRIG_LOST m.val 1 (by decide) (by simp)⟩
  case trigger =>
    intro k n src ch on runs limp first sample pos en idle
    have chan : Fin.ofNat 4 (s.rd (R.MSPI_TRIG_CH.nth k.val) m.val) = n := by
      rw [ch]
      exact Fin.ext (Nat.mod_eq_of_lt n.isLt)
    have opens : (s.mspiOf m k.val n && s.opensAt n (s.rd (R.MSPI_TRIG_POS.nth k.val) m.val)) = true := by
      simp [State.mspiOf, State.opensAt, State.on, src, ch, on, runs, limp, first, sample, pos, Nat.mod_eq_of_lt n.isLt]
    obtain ⟨busy, entry, -, -⟩ := State.mspiRun_shows s m k.val
    refine ⟨_, congrArg Host.Outcome.next ((if_pos ?_).trans (State.mspiFire_idle en idle)), busy, entry⟩
    rw [chan]
    exact opens
  case off =>
    intro k src
    exact ⟨congrArg Host.Outcome.next (if_neg (by simp [src])), congrArg Host.Outcome.next (if_neg (by simp [State.mspiOf, src]))⟩
  case last =>
    intro rx busy last free
    obtain ⟨u, status, -, held, form⟩ := State.mspiDone_shows s m rx
    have done : s.mspiDone m rx = u.wrs m.val [(R.MSPI_STATUS_BUSY, 0), (R.MSPI_IRQ_DONE, 1)] :=
      form.trans ((if_pos last).trans (State.mspiEnd_idle ((status.rd R.MSPI_STATUS_PENDING rfl).trans free)))
    refine ⟨_, (execMspiEntryDone_busy busy rx).trans (congrArg Host.Outcome.next done), ?_, ?_, ?_⟩
    · simp (disch := decide) only [State.wrs, State.rd_wr_sep, State.rd_wr_lt]
    · simp (disch := decide) only [State.wrs, State.rd_wr_lt]
    · rw [State.wrs_mspi]
      exact held last
  case more =>
    intro rx busy more few
    obtain ⟨u, status, count, -, form⟩ := State.mspiDone_shows s m rx
    obtain ⟨entry, kept, counted⟩ := State.mspiEntry_shows u m ((s.rd R.MSPI_STATUS_ENTRY m.val + 1) % 32)
    have goes : s.mspiDone m rx = u.mspiEntry m ((s.rd R.MSPI_STATUS_ENTRY m.val + 1) % 32) :=
      form.trans ((if_neg (Bool.eq_false_iff.1 more)).trans (if_neg (by omega)))
    refine ⟨_, (execMspiEntryDone_busy busy rx).trans (congrArg Host.Outcome.next goes), kept.trans (status.rd _ rfl), ?_, ?_⟩
    · exact entry.trans (Nat.mod_mod _ _)
    · rw [counted, count]
  case idle => exact fun rx idle => congrArg Host.Outcome.next (if_neg (by simp [State.on, idle]))

end Sys2Proof.Machine

/-! SUPPORT. O15: the words of the loop engine. -/

namespace Sys2Proof.Machine

/-! ### Slices and their banks (R258) -/

section
variable {s : State} {n : Ch}

theorem State.slice_putSlice (s : State) (n : Ch) (k j : Fin 6) (x : Slice) : (s.putSlice n k x).slice n j = if k = j then x else s.slice n j := by
  have put : (s.putSlice n k x).slice n j = ((s.ch n).eng.slices.set k.val x).get j :=
    congrArg (fun c : Chan => c.eng.slices.get j) (State.ch_modCh_self s n _)
  rw [put]
  split
  · next same => exact same ▸ Vector.getElem_set_self k.isLt
  · next other => exact Vector.getElem_set_ne k.isLt j.isLt fun e => other (Fin.ext e)

/-- Every slice of a list is changed by `h`, in turn. -/
theorem State.slice_foldl (h : Slice → Slice) (l : List (Fin 6)) (once : l.Nodup) (s : State) (n : Ch) (j : Fin 6) :
    (l.foldl (fun s k => s.putSlice n k (h (s.slice n k))) s).slice n j = if j ∈ l then h (s.slice n j) else s.slice n j := by
  induction l generalizing s with
  | nil => simp
  | cons k l ih =>
    obtain ⟨fresh, rest⟩ := List.nodup_cons.1 once
    rw [List.foldl_cons, ih rest, State.slice_putSlice]
    by_cases e : k = j
    · subst e
      simp [fresh]
    · simp [e, Ne.symm e]

/-- The bank of a slice, kept while ts and a are computed anew. -/
theorem State.bankB_calcTs (s : State) (n : Ch) (k j : Fin 6) : ((s.calcTs n k).slice n j).bankB = (s.slice n j).bankB := by
  unfold State.calcTs
  rw [State.slice_putSlice]
  split
  · next same => rw [same]
  · rfl

theorem State.bankB_calcTs_foldl (l : List (Fin 6)) (s : State) (n : Ch) (j : Fin 6) :
    ((l.foldl (fun s k => s.calcTs n k) s).slice n j).bankB = (s.slice n j).bankB :=
  foldl_keeps (P := fun u => (u.slice n j).bankB = (s.slice n j).bankB) (fun u k h => (State.bankB_calcTs u n k j).trans h) l rfl

theorem sliceIds_all : ∀ j : Fin 6, j ∈ sliceIds := by decide

theorem State.bankB_bankToggle (s : State) (n : Ch) (fresh : ∀ k, (s.slice n k).swapped = false) (j : Fin 6) :
    ((s.bankToggle n fun _ => true).slice n j).bankB = !(s.slice n j).bankB := by
  have every : (sliceIds.filter fun k => true && !(s.slice n k).swapped) = sliceIds := List.filter_eq_self.2 fun k _ => by simp [fresh k]
  unfold State.bankToggle
  rw [every]
  have shown (u : State) : (u.bankShow n).slice n j = u.slice n j := rfl
  rw [shown, State.bankB_calcTs_foldl,
    State.slice_foldl (fun x => { x with bankB := !x.bankB, swapped := true }) sliceIds (by decide) s n j, if_pos (sliceIds_all j)]

theorem State.bankB_swapDone (s : State) (n : Ch) (fresh : ∀ k, (s.slice n k).swapped = false) (j : Fin 6) :
    ((s.swapDone n).slice n j).bankB = !(s.slice n j).bankB := by
  have wrote (u : State) (l : List (Fld × Nat)) : (u.wrs n.val l).slice n j = u.slice n j := by simp only [State.slice, State.ch_wrs]
  unfold State.swapDone
  rw [wrote, State.slice_foldl (fun x => { x with swapped := false }) sliceIds (by decide), if_pos (sliceIds_all j)]
  exact State.bankB_bankToggle s n fresh j

theorem State.regs_putSlices (g : State → Fin 6 → Slice) (l : List (Fin 6)) (s : State) (n : Ch) :
    (l.foldl (fun s k => s.putSlice n k (g s k)) s).regs = s.regs := by
  induction l generalizing s with
  | nil => rfl
  | cons k l ih => exact ih _

theorem State.regs_calcTs_foldl (l : List (Fin 6)) (s : State) (n : Ch) : (l.foldl (fun s k => s.calcTs n k) s).regs = s.regs := by
  induction l generalizing s with
  | nil => rfl
  | cons k l ih => exact ih _

/-- What an exchange keeps of the registers. -/
theorem State.rd_bankToggle (s : State) (n : Ch) (p : Fin 6 → Bool) {f : Fld} (apart : R.LOOP_STATUS_BANK_B.sep f = true) :
    (s.bankToggle n p).rd f n.val = s.rd f n.val := by
  unfold State.bankToggle State.bankShow
  extract_lets l u
  rw [State.rd_wr_sep _ _ _ _ _ apart]
  have toggled : u.regs = s.regs := State.regs_putSlices (fun s k => { s.slice n k with bankB := !(s.slice n k).bankB, swapped := true }) l s n
  exact State.rd_of_regs ((State.regs_calcTs_foldl l u n).trans toggled) f n.val

theorem State.swapDone_shows (s : State) (n : Ch) : (s.swapDone n).rd R.LOOP_BANK_IMM n.val = s.rd R.LOOP_BANK_IMM n.val ∧
    (s.swapDone n).rd R.LOOP_BANK_SWAP n.val = 0 ∧ (s.swapDone n).rd R.LOOP_STATUS_SWAP_PENDING n.val = 0 ∧
    (s.swapDone n).rd R.LOOP_IRQ_SWAP_DONE n.val = 1 := by
  unfold State.swapDone
  extract_lets u v
  have cleared : v.regs = u.regs := State.regs_putSlices (fun s k => { s.slice n k with swapped := false }) sliceIds u n
  refine ⟨?_, ?_, ?_, ?_⟩
  · simp (disch := decide) only [State.wrs, State.rd_wr_sep]
    exact (State.rd_of_regs cleared _ _).trans (State.rd_bankToggle s n _ (by decide))
  all_goals simp (disch := decide) only [State.wrs, State.rd_wr_sep, State.rd_wr_lt]

/-! ### Discarded writes (R257, R262) -/

/-- The fields of a discarded write. -/
def rejectFields (n : Ch) : List (Nat × Word) :=
  [R.LOOP_IRQ_WR_REJ.at n.val, R.LOOP_WR_ERR_VALID.at n.val, R.LOOP_WR_ERR_CAUSE.at n.val, R.LOOP_WR_ERR_ADDR.at n.val]

theorem State.wrRej_shows (s : State) (n : Ch) (cause addr : Nat) :
    (s.wrRej n cause addr).rd R.LOOP_IRQ_WR_REJ n.val = 1 ∧ (s.wrRej n cause addr).rd R.LOOP_WR_ERR_VALID n.val = 1 ∧
    (s.rd R.LOOP_WR_ERR_VALID n.val = 0 → (s.wrRej n cause addr).rd R.LOOP_WR_ERR_CAUSE n.val = cause % 8 ∧
      (s.wrRej n cause addr).rd R.LOOP_WR_ERR_ADDR n.val = addr % 2 ^ 24) ∧
    OnlyRegs (rejectFields n) s (s.wrRej n cause addr) := by
  have irq := (OnlyRegs.refl (rejectFields n) s).wr R.LOOP_IRQ_WR_REJ n.val 1 (by decide) (by simp [rejectFields])
  have valid : (s.wr R.LOOP_IRQ_WR_REJ n.val 1).rd R.LOOP_WR_ERR_VALID n.val = s.rd R.LOOP_WR_ERR_VALID n.val := State.rd_wr_sep _ _ _ _ _ (by decide)
  unfold State.wrRej
  extract_lets i u
  by_cases held : s.rd R.LOOP_WR_ERR_VALID n.val = 0
  · rw [if_neg (by rw [State.on, valid, held]; decide)]
    refine ⟨?_, ?_, fun _ => ⟨?_, ?_⟩, OnlyRegs.wrs irq n.val _ (by simp +decide [rejectFields])⟩
    · simp (disch := decide) only [u, i, State.wrs, State.rd_wr_sep, State.rd_wr_lt]
    · simp (disch := decide) only [u, i, State.wrs, State.rd_wr_sep, State.rd_wr_lt]
    · simp (disch := decide) only [i, State.wrs, State.rd_wr_sep]
      exact State.rd_wr _ R.LOOP_WR_ERR_CAUSE _ _ (by decide)
    · exact State.rd_wr _ R.LOOP_WR_ERR_ADDR _ _ (by decide)
  · rw [if_pos (by rw [State.on, valid]; exact bne_iff_ne.2 held)]
    refine ⟨State.rd_wr_lt (by decide) (by decide) s n.val, valid.trans ?_, fun h => absurd h held, irq⟩
    have small : s.rd R.LOOP_WR_ERR_VALID n.val < 2 := Fld.get_lt _ _
    omega

theorem State.immWritten (s : State) (n : Ch) (v : Nat) :
    (s.wr R.LOOP_BANK_IMM n.val v).rd R.LOOP_STATUS_SWAP_PENDING n.val = s.rd R.LOOP_STATUS_SWAP_PENDING n.val ∧
    (s.wr R.LOOP_BANK_IMM n.val v).rd R.PWM_STATUS_RUNNING n.val = s.rd R.PWM_STATUS_RUNNING n.val :=
  ⟨State.rd_wr_sep _ _ _ _ _ (by decide), State.rd_wr_sep _ _ _ _ _ (by decide)⟩

theorem bankFld_word : ∀ (b : Bool) (j : Fin 8) (k : Fin 6), ((bankFld b j.val).nth k.val).ok ∧ ((bankFld b j.val).nth k.val).size = 2 ^ 32 := by decide

theorem bankFld_addr : ∀ (b : Bool) (j : Fin 9) (k : Fin 6) (n : Ch), ((bankFld b j.val).nth k.val).addr n.val < 2 ^ 24 := by decide

theorem State.nodeWrite_ext (s : State) (n : Ch) {k : Fin 6} {j : Nat} (idx : j = 0x3A + k.val) {v : Word} (finite : f32IsFinite v = true) :
    s.nodeWrite n j v = s.modEng n fun e => { e with ext := e.ext.set k.val v } := by
  subst idx
  have lt := k.isLt
  have writable : (!(decide (0x3A + k.val = 0x31) || decide (0x3A + k.val = 0x32) || (decide (0x3A ≤ 0x3A + k.val) && decide (0x3A + k.val ≤ 0x3F)))) = false := by
    simp only [Bool.not_eq_false', Bool.or_eq_true, Bool.and_eq_true, decide_eq_true_eq]
    omega
  have below : 0x3A + k.val - 0x3A = k.val := by omega
  unfold State.nodeWrite
  simp only [writable, finite, below]
  rw [if_neg (by simp), if_neg (by simp), if_neg (by omega), if_neg (by omega), dif_pos lt]

end

/-- Settles O15, from the lemmas about an exchange of banks and about a discarded write. -/
theorem engineWordsWritten : Obligations.EngineWordsWritten := by
  unfold Obligations.EngineWordsWritten
  intro n s on
  refine ⟨?waits, ?now, ?bank, ?broken, ?cause, ?node, ?aux, ?fixed, ?clear⟩
  case waits =>
    intro imm none runs
    obtain ⟨pending, running⟩ := State.immWritten s n imm.toNat
    have starts : (s.wr R.LOOP_BANK_IMM n.val imm.toNat).bankSwap n =
        (s.wr R.LOOP_BANK_IMM n.val imm.toNat).wrs n.val [(R.LOOP_BANK_SWAP, 1), (R.LOOP_STATUS_SWAP_PENDING, 1)] := by
      simp [State.bankSwap, State.on, pending, running, none, runs]
    refine ⟨_, congrArg Host.Outcome.next ((State.whenCh_on on _).trans starts), ?_, ?_, ?_,
      OnlyRegs.wrs ((OnlyRegs.refl _ s).wr R.LOOP_BANK_IMM n.val _ (by decide) (by simp)) n.val _ (by simp +decide)⟩
    · simp (disch := decide) only [State.wrs, State.rd_wr_sep]
      exact State.rd_wr_lt (by decide) imm.isLt _ _
    all_goals simp (disch := decide) only [State.wrs, State.rd_wr_sep, State.rd_wr_lt]
  case now =>
    intro imm none stopped
    obtain ⟨pending, running⟩ := State.immWritten s n imm.toNat
    have done : (s.wr R.LOOP_BANK_IMM n.val imm.toNat).bankSwap n = (s.wr R.LOOP_BANK_IMM n.val imm.toNat).swapDone n := by
      simp [State.bankSwap, State.on, pending, running, none, stopped]
    obtain ⟨immKept, swap, idle, irq⟩ := State.swapDone_shows (s.wr R.LOOP_BANK_IMM n.val imm.toNat) n
    exact ⟨_, congrArg Host.Outcome.next ((State.whenCh_on on _).trans done), immKept.trans (State.rd_wr_lt (by decide) imm.isLt _ _), swap, idle, irq,
      fun fresh => State.bankB_swapDone _ n fresh⟩
  case bank =>
    intro b k j v word fine
    obtain ⟨ok, full⟩ := bankFld_word b ⟨j.val, word⟩ k
    have writes : s.bankWrite n b k j.val v = s.wr ((bankFld b j.val).nth k.val) n.val v.toNat :=
      (if_neg (by simp [fine])).trans (if_pos word)
    exact ⟨_, congrArg Host.Outcome.next ((State.whenCh_on on _).trans writes), State.rdw_wr_word ok full s n.val v,
      (OnlyRegs.refl _ s).wr _ n.val _ ok (by simp)⟩
  case broken =>
    intro b k j v breaks
    have rejects : s.bankWrite n b k j.val v = s.wrRej n (s.bankCause n b k j.val v) (((bankFld b j.val).nth k.val).addr n.val) := if_pos breaks
    obtain ⟨irq, valid, captured, only⟩ := State.wrRej_shows s n (s.bankCause n b k j.val v) (((bankFld b j.val).nth k.val).addr n.val)
    refine ⟨_, congrArg Host.Outcome.next ((State.whenCh_on on _).trans rejects), irq, valid, fun first => ⟨(captured first).1, ?_⟩, only⟩
    exact (captured first).2.trans (Nat.mod_eq_of_lt (bankFld_addr b j k n))
  case cause =>
    intro b k j v
    refine ⟨fun pending => if_pos (bne_iff_ne.2 pending), fun none runs bank => ?_⟩
    exact (if_neg (by simp [State.on, none])).trans (if_pos (by simp [State.on, runs, bank]))
  case node =>
    intro v finite
    have aux (vd : Bool) : s.auxRef n vd v = s.wr (if vd then R.LOOP_VDREF_REF else R.LOOP_IDREF_REF) n.val v.toNat := if_pos finite
    refine ⟨fun idx => ?_, fun idx => ?_, fun k idx => ?_, ?_, ?_⟩
    · refine ⟨_, congrArg Host.Outcome.next ((State.whenCh_on on _).trans (?_ : _ = s.wr R.LOOP_IDREF_REF n.val v.toNat)),
        State.rdw_wr_word (by decide) rfl s n.val v, (OnlyRegs.refl _ s).wr _ n.val _ (by decide) (by simp)⟩
      simp [idx, State.nodeWrite, finite]
    · refine ⟨_, congrArg Host.Outcome.next ((State.whenCh_on on _).trans (?_ : _ = s.wr R.LOOP_VDREF_REF n.val v.toNat)),
        State.rdw_wr_word (by decide) rfl s n.val v, (OnlyRegs.refl _ s).wr _ n.val _ (by decide) (by simp)⟩
      simp [idx, State.nodeWrite, finite]
    · refine ⟨_, congrArg Host.Outcome.next ((State.whenCh_on on _).trans (State.nodeWrite_ext s n idx finite)), State.ch_modCh_self s n _,
        (OnlyChan.refl n [] s).modCh _⟩
    · exact ⟨_, congrArg Host.Outcome.next ((State.whenCh_on on _).trans (aux false)), State.rdw_wr_word (by decide) rfl s n.val v,
        (OnlyRegs.refl _ s).wr R.LOOP_IDREF_REF n.val _ (by decide) (by simp)⟩
    · exact ⟨_, congrArg Host.Outcome.next ((State.whenCh_on on _).trans (aux true)), State.rdw_wr_word (by decide) rfl s n.val v,
        (OnlyRegs.refl _ s).wr R.LOOP_VDREF_REF n.val _ (by decide) (by simp)⟩
  case aux =>
    intro vd v notFinite
    obtain ⟨irq, -, -, only⟩ := State.wrRej_shows s n 1 ((if vd then R.LOOP_VDREF_REF else R.LOOP_IDREF_REF).addr n.val)
    exact ⟨_, congrArg Host.Outcome.next ((State.whenCh_on on _).trans (if_neg (by simp [notFinite]))), irq, only⟩
  case fixed =>
    intro v low first
    have small : s.rd R.LOOP_NODE_IDX_IDX n.val < 2 ^ 24 := by omega
    have rejects : s.nodeWrite n (s.rd R.LOOP_NODE_IDX_IDX n.val) v = s.wrRej n 6 (s.rd R.LOOP_NODE_IDX_IDX n.val) := by
      refine if_pos ?_
      simp only [Bool.not_eq_true', Bool.or_eq_false_iff, Bool.and_eq_false_iff, decide_eq_false_iff_not]
      omega
    obtain ⟨irq, valid, captured, -⟩ := State.wrRej_shows s n 6 (s.rd R.LOOP_NODE_IDX_IDX n.val)
    exact ⟨_, congrArg Host.Outcome.next ((State.whenCh_on on _).trans rejects), irq, valid, (captured first).1,
      (captured first).2.trans (Nat.mod_eq_of_lt small)⟩
  case clear =>
    refine ⟨_, congrArg Host.Outcome.next (State.whenCh_on on _), ?_, ?_, ?_, OnlyRegs.wrs (OnlyRegs.refl _ s) n.val _ (by simp +decide)⟩
    all_goals simp (disch := decide) only [State.wrs, State.rd_wr_sep, State.rd_wr_lt]

end Sys2Proof.Machine

/-! SUPPORT. O25: standby and wake. -/

namespace Sys2Proof.Machine

section
variable {s t : State}

/-! ### The request (R78, R79, R104) -/

/-- The registers of a request that is accepted. -/
def State.standbyRegs (s : State) : State :=
  s.wrs 0 [(R.PWR_CTRL_STANDBY, 1), (R.PWR_DOM_ON_REQ, s.reqLeft true), (R.PWR_DOM_OFF_REQ, s.reqLeft false)]

/-- The power record of a standby entry. -/
def State.entryPwr (s : State) : Pwr := { s.pwr with mode := .entry, wakeEn := s.wakeWord, woke := false }

/-- Every domain is asked off, in the order of its number downward. -/
def offRequests : List (Nat × Bool × Bool) := [7, 6, 5, 4, 3, 2, 1, 0].map fun d => (d, false, true)

theorem State.standbyRegs_wakeWord (s : State) : s.standbyRegs.wakeWord = s.wakeWord := by
  have word : s.standbyRegs.word 0x230 = s.word 0x230 := by
    unfold State.standbyRegs
    simp (disch := decide) only [State.wrs, State.wr, State.word_setWord_ne]
  have part : s.standbyRegs.hl2880 = s.hl2880 := State.wrs_hl2880 _ _ _
  rw [State.wakeWord, State.wakeWord, word, part]

theorem State.standbyRegs_pwr (s : State) : s.standbyRegs.pwr = s.pwr := State.wrs_pwr _ _ _

theorem execStandby_enters (run : s.pwr.mode = .run) {wakeHigh : Bool} {sig : BitVec 4} (free : s.standbyRefusal wakeHigh sig.toNat = 0) :
    exec (.standby 0x5A wakeHigh sig) s = .next { s.standbyRegs with pwr := s.entryPwr, pwrQ := offRequests } := by
  have form : exec (.standby 0x5A wakeHigh sig) s = .next { s.standbyRegs with
      pwr := { s.standbyRegs.pwr with mode := .entry, wakeEn := s.standbyRegs.wakeWord, woke := false }, pwrQ := offRequests } :=
    congrArg Host.Outcome.next ((if_neg (by simp [run])).trans (if_neg (by simp [free])))
  rw [form, State.standbyRegs_pwr, State.standbyRegs_wakeWord]
  rfl

theorem execStandby_refused (run : s.pwr.mode = .run) {wakeHigh : Bool} {sig : BitVec 4} (bars : s.standbyRefusal wakeHigh sig.toNat ≠ 0) :
    exec (.standby 0x5A wakeHigh sig) s = .next (s.refuse 0xF false (s.standbyRefusal wakeHigh sig.toNat)) :=
  congrArg Host.Outcome.next ((if_neg (by simp [run])).trans (if_pos bars))

theorem State.standbyRefusal_lt (s : State) (wakeHigh : Bool) (sig : Nat) : s.standbyRefusal wakeHigh sig < 256 := by
  unfold State.standbyRefusal
  repeat' split
  all_goals decide

/-- The report of a refusal (R104). -/
def refuseFields : List (Nat × Word) :=
  [R.PWR_REFUSE_VALID.at 0, R.PWR_REFUSE_DIR.at 0, R.PWR_REFUSE_TARGET.at 0, R.PWR_REFUSE_CAUSE.at 0, R.PWR_IRQ_REFUSED.at 0]

theorem State.refuse_shows (s : State) {d : Nat} (hd : d < 16) (up : Bool) {cause : Nat} (hc : cause < 256) :
    (s.refuse d up cause).rd R.PWR_REFUSE_VALID 0 = 1 ∧ (s.refuse d up cause).rd R.PWR_REFUSE_TARGET 0 = d ∧
    (s.refuse d up cause).rd R.PWR_REFUSE_DIR 0 = up.toNat ∧ (s.refuse d up cause).rd R.PWR_REFUSE_CAUSE 0 = cause ∧
    (s.refuse d up cause).rd R.PWR_IRQ_REFUSED 0 = 1 ∧ OnlyRegs refuseFields s (s.refuse d up cause) := by
  have target : d < R.PWR_REFUSE_TARGET.size := hd
  have code : cause < R.PWR_REFUSE_CAUSE.size := hc
  have dir : up.toNat < R.PWR_REFUSE_DIR.size := up.toNat_lt
  unfold State.refuse
  refine ⟨?_, ?_, ?_, ?_, ?_, OnlyRegs.wrs (OnlyRegs.refl _ s) 0 _ (by simp +decide [refuseFields])⟩
  case refine_1 | refine_5 => simp (disch := decide) only [State.wrs, State.rd_wr_sep, State.rd_wr_lt]
  all_goals
    simp (disch := decide) only [State.wrs, State.rd_wr_sep]
    exact State.rd_wr_lt (by decide) ‹_› _ _

theorem State.reqLeft_none (idle : s.pwr.trans = none) (up : Bool) : s.reqLeft up = 0 := by rw [State.reqLeft, idle]

theorem State.reqLeft_some {d : Nat} {u job : Bool} (moving : s.pwr.trans = some (d, u, job)) (up : Bool) :
    s.reqLeft up = if u = up then s.rd (if up then R.PWR_DOM_ON_REQ else R.PWR_DOM_OFF_REQ) 0 &&& 2 ^ d else 0 := by rw [State.reqLeft, moving]

theorem State.reqLeft_lt (s : State) (up : Bool) : s.reqLeft up < 256 := by
  rcases moving : s.pwr.trans with _ | ⟨d, u, job⟩
  · rw [State.reqLeft_none moving]
    decide
  · have on : s.rd R.PWR_DOM_ON_REQ 0 < 256 := Fld.get_lt _ _
    have off : s.rd R.PWR_DOM_OFF_REQ 0 < 256 := Fld.get_lt _ _
    rw [State.reqLeft_some moving]
    split
    · refine Nat.lt_of_le_of_lt Nat.and_le_left ?_
      split
      · exact on
      · exact off
    · decide

theorem State.standbyRegs_shows (s : State) : s.standbyRegs.rd R.PWR_CTRL_STANDBY 0 = 1 ∧ s.standbyRegs.rd R.PWR_DOM_ON_REQ 0 = s.reqLeft true ∧
    s.standbyRegs.rd R.PWR_DOM_OFF_REQ 0 = s.reqLeft false ∧
    OnlyRegs [R.PWR_CTRL_STANDBY.at 0, R.PWR_DOM_ON_REQ.at 0, R.PWR_DOM_OFF_REQ.at 0] s s.standbyRegs := by
  have on : s.reqLeft true < R.PWR_DOM_ON_REQ.size := s.reqLeft_lt true
  have off : s.reqLeft false < R.PWR_DOM_OFF_REQ.size := s.reqLeft_lt false
  unfold State.standbyRegs
  refine ⟨?_, ?_, State.rd_wr_lt (by decide) off _ _, OnlyRegs.wrs (OnlyRegs.refl _ s) 0 _ (by simp +decide)⟩
  · simp (disch := decide) only [State.wrs, State.rd_wr_sep, State.rd_wr_lt]
  · simp (disch := decide) only [State.wrs, State.rd_wr_sep]
    exact State.rd_wr_lt (by decide) on _ _

/-- A register write beside a change of the power record and of the requests that wait. -/
theorem OnlyRegs.withPwrQ {l : List (Nat × Word)} {s t : State} (h : OnlyRegs l s t) (p : Pwr) (q : List (Nat × Bool × Bool)) :
    OnlyRegs l s { ({ t with pwr := p, pwrQ := q } : State) with pwrQ := s.pwrQ, pwr := s.pwr } := by
  obtain ⟨regs, mem, rest⟩ := h
  refine ⟨regs, mem, ?_⟩
  have moved : ({ ({ t with pwr := p, pwrQ := q } : State) with pwrQ := s.pwrQ, pwr := s.pwr } : State).rest =
    { t.rest with pwrQ := s.pwrQ, pwr := s.pwr } := rfl
  rw [moved, rest]
  rfl

/-! ### The end of the entry, and wakes (R79 to R81, R98) -/

theorem execStandbyEntryComplete_entered (entry : s.pwr.mode = .entry) (asked : s.pwrQ = []) (idle : s.pwr.trans = none) :
    exec .standbyEntryComplete s = .next ((s.coreReset .standby s.pwr.cause 0 false).clrBits R.PWR_STATUS_GOOD 0
      (if s.on R.PWR_REG_VDRV_REG_EN 0 then 0x1A else 0x18)) :=
  congrArg Host.Outcome.next (if_pos (by simp [entry, asked, idle]))

theorem State.wake_off {code b : Nat} (off : s.pwr.wakeEn.testBit b = false) : s.wake code b = s := if_pos (by simp [off])

theorem State.wake_running (run : s.pwr.mode = .run) (code b : Nat) : s.wake code b = s := by
  unfold State.wake
  rw [run]
  exact ite_self s

/-- A wake from standby is a reset to step 3 with its event as the source. -/
theorem State.wake_standby {code b : Nat} (on : s.pwr.wakeEn.testBit b = true) (standby : s.pwr.mode = .standby) :
    s.wake code b = ({ s with pwr.wakeSrc := code * 256 + 2 ^ b } : State).resetBy 0x400 2 false := by
  unfold State.wake
  rw [if_neg (by simp [on]), standby]

theorem State.causes_has (s : State) (c : Nat) {i : Nat} (has : c.testBit i = true) : (s.causes c).testBit i = true := by
  unfold State.causes
  rw [Nat.testBit_or]
  split <;> simp [Nat.testBit_or, has]

/-- What a wake from standby leaves of the power record. -/
theorem State.woken {code b : Nat} (on : s.pwr.wakeEn.testBit b = true) (standby : s.pwr.mode = .standby) :
    (s.wake code b).pwr.mode = .boot ∧ (s.wake code b).pwr.step = 2 ∧ (s.wake code b).pwr.wakeSrc = code * 256 + 2 ^ b ∧
      (s.wake code b).pwr.cause.testBit 10 = true := by
  rw [State.wake_standby on standby]
  have source : ({ s with pwr.wakeSrc := code * 256 + 2 ^ b } : State).pwr.wakeSrc = code * 256 + 2 ^ b := rfl
  generalize ({ s with pwr.wakeSrc := code * 256 + 2 ^ b } : State) = u at *
  obtain ⟨left, -, -⟩ := u.resetBy_left 0x400 2 false
  have wakes := u.causes_has 0x400 (i := 10) (by decide)
  refine ⟨left.mode, left.step, left.wakeSrc.trans source, ?_⟩
  rw [left.cause]
  split
  · rw [Nat.testBit_or, wakes, Bool.true_or]
  · exact wakes

theorem State.iteWr_pwr (s : State) (c : Prop) [Decidable c] (f : Fld) (i v : Nat) : (if c then s.wr f i v else s).pwr = s.pwr := by
  split
  · exact State.wr_pwr s f i v
  · rfl

theorem State.whenCan_pwr {f : State → State} (keeps : ∀ s, (f s).pwr = s.pwr) (s : State) : (s.whenCan f).pwr = s.pwr := by
  unfold State.whenCan
  split
  · exact keeps s
  · rfl

end

/-- Settles O25, from the registers of a request, the reset that ends the entry and the one that a wake is. -/
theorem standbyAndWake : Obligations.StandbyAndWake := by
  unfold Obligations.StandbyAndWake
  intro s
  refine ⟨fun wakeHigh sig run => ⟨fun free => ?enters, fun bars => ?refused⟩, ?ignored, ?entered, ?notEntry, fun standby => ⟨?pin, ?link, ?can⟩,
    ?off, fun run => ⟨?runPin, ?runLink, ?runCan⟩, ?vdrv, ?locked⟩
  case enters =>
    obtain ⟨request, on, off, only⟩ := s.standbyRegs_shows
    have runs := execStandby_enters run free
    generalize s.standbyRegs = u at *
    refine ⟨_, runs, rfl, request, fun idle => ?_, fun d job lt moving => ?_, fun d job lt moving => ?_, rfl, rfl, ?_,
      only.withPwrQ _ _⟩
    · exact ⟨on.trans (State.reqLeft_none idle true), off.trans (State.reqLeft_none idle false)⟩
    · exact ⟨off.trans (State.reqLeft_some moving false), on.trans (State.reqLeft_some moving true)⟩
    · exact ⟨on.trans (State.reqLeft_some moving true), off.trans (State.reqLeft_some moving false)⟩
    · exact show ∀ e ∈ offRequests, e.2.1 = false by decide
  case refused =>
    obtain ⟨valid, target, dir, cause, irq, only⟩ := s.refuse_shows (d := 0xF) (by decide) false (s.standbyRefusal_lt wakeHigh sig.toNat)
    exact ⟨_, execStandby_refused run bars, valid, target, dir, cause, irq, only⟩
  case ignored =>
    intro key w g other
    refine congrArg Host.Outcome.next (if_pos (other.imp_left fun ne e => ne (BitVec.eq_of_toNat_eq e)))
  case entered =>
    intro entry asked idle
    obtain ⟨left, -, fuse⟩ := s.coreReset_left .standby s.pwr.cause 0 false
    refine ⟨_, execStandbyEntryComplete_entered entry asked idle, ?_⟩
    obtain ⟨r, cleared⟩ : (s.coreReset .standby s.pwr.cause 0 false).Rewritten ((s.coreReset .standby s.pwr.cause 0 false).clrBits R.PWR_STATUS_GOOD 0
      (if s.on R.PWR_REG_VDRV_REG_EN 0 then 0x1A else 0x18)) := (State.Rewritten.refl _).wr _ _ _
    rw [cleared]
    generalize s.coreReset .standby s.pwr.cause 0 false = u at *
    refine ⟨left.mode, ?_, left.wakeEn, left.chan, fuse⟩
    rw [State.coreOn, show ({ u with regs := r } : State).pwr.mode = .standby from left.mode]
  case notEntry => exact fun other => congrArg Host.Outcome.next (if_neg (by simp [other]))
  case pin =>
    intro on
    obtain ⟨mode, step, src, cause⟩ := State.woken (code := 1) on standby
    exact ⟨_, rfl, mode, step, src, cause⟩
  case link =>
    intro p on
    obtain ⟨mode, step, src, -⟩ := State.woken (code := 4 + p.val) on standby
    exact ⟨_, rfl, mode, step, src⟩
  case can =>
    intro on
    obtain ⟨mode, step, src, -⟩ := State.woken (code := 3) on standby
    have kept := State.whenCan_pwr (f := fun s => if s.rd R.CAN_CFG_XCVR 0 = 0 then s.wr R.CAN_IRQ_WUP 0 1 else s)
      (fun s => State.iteWr_pwr s _ _ _ _) (s.wake 3 2)
    exact ⟨_, rfl, (congrArg Pwr.mode kept).trans mode, (congrArg Pwr.step kept).trans step, (congrArg Pwr.wakeSrc kept).trans src⟩
  case off => exact fun off => congrArg Host.Outcome.next (State.wake_off off)
  case runPin => exact congrArg Host.Outcome.next (State.wake_running run 1 0)
  case runLink => exact fun p => congrArg Host.Outcome.next (State.wake_running run _ _)
  case runCan =>
    intro on low
    have wakes : exec .canWakePattern s = .next (s.wr R.CAN_IRQ_WUP 0 1) := by
      rw [exec, execCanWakePattern, State.wake_running run]
      exact congrArg Host.Outcome.next ((State.whenCan_on on _).trans (if_pos low))
    exact ⟨_, wakes, State.rd_wr_lt (by decide) (by decide) s 0, (OnlyRegs.refl _ s).wr R.CAN_IRQ_WUP 0 1 (by decide) (by simp)⟩
  case vdrv =>
    intro b unlocked
    have lt : b.toNat < 2 := b.toNat_lt
    refine ⟨_, congrArg Host.Outcome.next (if_neg (by simp [unlocked])), ?_, State.rd_wr_lt (by decide) lt _ _,
      OnlyRegs.wrs (OnlyRegs.refl _ s) 0 _ (by simp +decide)⟩
    simp (disch := decide) only [State.wrs, State.rd_wr_sep]
    exact State.rd_wr_lt (by decide) lt _ _
  case locked => exact fun b locked => congrArg Host.Outcome.next (if_pos locked)

end Sys2Proof.Machine

/-! SUPPORT. O34: the job commands. -/

namespace Sys2Proof.Machine

section
variable {s u : State} {k : Fin 16} {r : Word}

/-! ### Slots and banks -/

theorem State.job_setJob (s : State) (k q : Fin 16) (j : Job) : (s.setJob k j).job q = if k = q then j else s.job q := by
  split
  · next same => exact same ▸ Vector.getElem_set_self k.isLt
  · next other => exact Vector.getElem_set_ne k.isLt q.isLt fun e => other (Fin.ext e)

theorem State.job_setJob_self (s : State) (k : Fin 16) (j : Job) : (s.setJob k j).job k = j := (s.job_setJob k k j).trans (if_pos rfl)

theorem State.job_setJob_ne (s : State) {k q : Fin 16} (h : q ≠ k) (j : Job) : (s.setJob k j).job q = s.job q :=
  (s.job_setJob k q j).trans (if_neg fun e => h e.symm)

theorem slots_all : ∀ k : Fin 16, k ∈ slots := by decide

theorem State.job_wr (s : State) (f : Fld) (i v : Nat) (k : Fin 16) : (s.wr f i v).job k = s.job k := rfl

theorem State.job_orBits (s : State) (f : Fld) (i m : Nat) (k : Fin 16) : (s.orBits f i m).job k = s.job k := rfl

/-- The words that stand in a bank after a block is written there. -/
theorem State.blkPut_get (s : State) (o : Nat) (b : List Word) (i : Fin 8) :
    ((s.blkPut o b).jobBlk.get (jobBank o)).get i = b.getD i.val ((s.jobBlk.get (jobBank o)).get i) := by
  have bank : (s.blkPut o b).jobBlk.get (jobBank o) = Vector.ofFn fun i : Fin 8 => b.getD i.val (s.jobBlk.get (jobBank o))[i.val] :=
    Vector.getElem_set_self (jobBank o).isLt
  rw [bank]
  exact Vector.getElem_ofFn i.isLt

theorem State.blkPut_other (s : State) (o : Nat) (b : List Word) {q : Fin 8} (h : q ≠ jobBank o) : (s.blkPut o b).jobBlk.get q = s.jobBlk.get q :=
  Vector.getElem_set_ne (jobBank o).isLt q.isLt fun e => h (Fin.ext e.symm)

theorem Settled.jobRes {l : List (Nat × Word)} {s t : State} (h : Settled l s t) : t.jobRes = s.jobRes := show t.still.jobRes = s.still.jobRes by rw [h.2]

/-- Word 0 of the block that executes. -/
theorem State.blkPut_first (s : State) (o : Nat) (w : Word) (ps : List Word) : ((s.blkPut o (w :: ps)).jobBlk.get (jobBank o)).toList.getD 0 0 = w := by
  have first := s.blkPut_get o (w :: ps) 0
  rw [List.getD_eq_getElem?_getD, List.getElem?_eq_getElem (by simp)]
  exact first

/-- A block posted: its command runs on the words that stand in the bank, and its result goes to the bank of results. -/
theorem State.jobPost_eq (s : State) (o : Nat) (b : List Word) {u : State} {r : Word}
    (runs : (s.blkPut o b).jobCommand o ((s.blkPut o b).jobBlk.get (jobBank o)).toList = (u, r)) :
    s.jobPost o b = ({ u with jobRes := u.jobRes.set (jobBank o).val r } : State).settleAll := by
  unfold State.jobPost
  extract_lets v
  unfold State.jobBlock
  rw [runs]

/-- The command that word 0 spells. -/
theorem State.jobCommand_start (s : State) (o : Nat) {typ tgt : BitVec 4} {b : List Word}
    (first : b.getD 0 0 = wd (2 ^ 28 + typ.toNat * 2 ^ 24 + tgt.toNat * 2 ^ 20)) :
    s.jobCommand o b = s.jobStart o typ.toNat tgt.toNat ((b.drop 1).take 7) := by
  have value : (b.getD 0 0).toNat = 2 ^ 28 + typ.toNat * 2 ^ 24 + tgt.toNat * 2 ^ 20 := by
    rw [first, wd, BitVec.toNat_ofNat, Nat.mod_eq_of_lt (by omega)]
  unfold State.jobCommand
  extract_lets w op
  have word : w = 2 ^ 28 + typ.toNat * 2 ^ 24 + tgt.toNat * 2 ^ 20 := value
  have isStart : op = 1 := by omega
  have isTyp : w / 2 ^ 24 % 16 = typ.toNat := by omega
  have isTgt : w / 2 ^ 20 % 16 = tgt.toNat := by omega
  rw [if_pos isStart, isTyp, isTgt]

theorem State.jobCommand_handle (s : State) (o : Nat) {h : BitVec 16} {k : Fin 16} {op : Nat} {b : List Word} (slot : h.toNat % 16 = k.val)
    (low : 2 ≤ op) (high : op ≤ 5) (first : b.getD 0 0 = jobWord op h.toNat) :
    s.jobCommand o b = if (s.job k).st = .idle ∨ (s.job k).gen ≠ h.toNat / 16 then (s, badHandle)
      else if op = 2 then s.jobSuspend k else if op = 3 then s.jobResume k else if op = 4 then s.jobCancel k else s.jobRelease k := by
  have value : (b.getD 0 0).toNat = op * 2 ^ 28 + h.toNat := by
    rw [first, jobWord, wd, BitVec.toNat_ofNat, Nat.mod_eq_of_lt (by omega), Nat.mod_eq_of_lt (by omega)]
  unfold State.jobCommand
  extract_lets w c q
  have word : w = op * 2 ^ 28 + h.toNat := value
  have code : c = op := by omega
  have isSlot : q = k := Fin.ext (show w % 16 = k.val by omega)
  have gen : w / 16 % 4096 = h.toNat / 16 := by omega
  rw [if_neg (show ¬c = 1 by omega), if_neg (show ¬(c = 0 ∨ 5 < c) by omega), isSlot, gen]
  simp only [code]

/-! ### START (R334) -/

theorem State.freeSlot_none (s : State) (full : ∀ k, (s.job k).st ≠ .idle) : s.freeSlot = none := by
  have empty : (slots.filter fun k => (s.job k).st == .idle) = [] := List.filter_eq_nil_iff.2 fun k _ => by simp [full k]
  unfold State.freeSlot
  rw [empty]
  rfl

/-- Which slot a START takes is a free value; it is one in IDLE. -/
theorem State.freeSlot_some (s : State) (room : ∃ k, (s.job k).st = .idle) : ∃ k, s.freeSlot = some k ∧ (s.job k).st = .idle := by
  obtain ⟨q, idle⟩ := room
  unfold State.freeSlot
  extract_lets l
  have there : q ∈ l := List.mem_filter.2 ⟨slots_all q, beq_iff_eq.2 idle⟩
  have lt : s.anyVal.toNat % l.length < l.length := Nat.mod_lt _ (List.length_pos_of_mem there)
  refine ⟨l[s.anyVal.toNat % l.length], List.getElem?_eq_getElem lt, ?_⟩
  exact beq_iff_eq.1 (List.mem_filter.1 (List.getElem_mem lt)).2

/-- The job that a START queues. -/
def State.queuedJob (s : State) (k : Fin 16) (o typ tgt : Nat) (ps : List Word) : Job :=
  { Job.reset with st := .queued, typ := typ, tgt := tgt, origin := o, gen := ((s.job k).gen + 1) % 4096, seq := s.jobSeq, params := ps, since := s.now }

theorem State.jobStart_queues {o typ tgt : Nat} (ps : List Word) (low : 1 ≤ typ) (high : typ ≤ 9) (ok : s.targetOk typ tgt = true) (free : s.freeSlot = some k) :
    s.jobStart o typ tgt ps = ({ s.used.setJob k (s.queuedJob k o typ tgt ps) with jobSeq := s.jobSeq + 1 },
      wd (16 * (((s.job k).gen + 1) % 4096) + k.val)) := by
  unfold State.jobStart
  rw [if_neg (by omega), if_neg (by simp [ok]), free]
  have handle : ({ s.used.setJob k (s.queuedJob k o typ tgt ps) with jobSeq := s.jobSeq + 1 } : State).handle k = _ :=
    congrArg (fun j : Job => wd (16 * j.gen + k.val)) (s.used.job_setJob_self k (s.queuedJob k o typ tgt ps))
  exact Prod.ext rfl handle

/-! ### SUSPEND, RESUME, CANCEL, RELEASE (R337) -/

theorem State.jobLetGo_others {j : Job} (homing : j.typ ≠ jHoming) (trace : j.typ ≠ jTrace) (s : State) : s.jobLetGo j = s := by
  rw [State.jobLetGo, if_neg homing, if_neg trace]

theorem State.onTarget_ch (s : State) (n : Ch) (f : Ch → State → State) : s.onTarget n.val f = f n s := dif_pos n.isLt

theorem State.jobSuspend_running {j : Job} (hj : j = s.job k) (runs : j.st = .running) : s.jobSuspend k = ((s.setJob k { (j.enter s.now .suspending) with
    ended := decide (j.typ = jOtp) && !s.domOn dOtpw }).jobLetGo j, s.handle k) := by
  subst hj
  unfold State.jobSuspend
  extract_lets j
  rw [show j.st = .running from runs]

theorem State.jobSuspend_queued {j : Job} (hj : j = s.job k) (waits : j.st = .queued) : s.jobSuspend k =
    ((s.setJob k { (j.enter s.now .suspended) with noRes := true }).orBits R.JOB_IRQ_SUSPENDED 0 (2 ^ k.val), s.handle k) := by
  subst hj
  unfold State.jobSuspend
  extract_lets j
  rw [show j.st = .queued from waits]

theorem State.jobResume_queued {j : Job} (hj : j = s.job k) (suspended : j.st = .suspended) (noRes : j.noRes = true) : s.jobResume k =
    ({ s.setJob k { (j.enter s.now .queued) with noRes := false, seq := s.jobSeq } with jobSeq := s.jobSeq + 1 }, s.handle k) := by
  subst hj
  unfold State.jobResume
  extract_lets j
  rw [show j.st = .suspended from suspended]
  exact if_pos noRes

theorem State.jobResume_suspending {j : Job} (hj : j = s.job k) (suspending : j.st = .suspending) (homing : j.typ ≠ jHoming) (trace : j.typ ≠ jTrace) :
    s.jobResume k = (s.setJob k (j.enter s.now .running), s.handle k) := by
  subst hj
  unfold State.jobResume
  extract_lets j
  have handle : (s.setJob k (j.enter s.now .running)).handle k = s.handle k :=
    (congrArg (fun q : Job => wd (16 * q.gen + k.val)) (s.job_setJob_self k (j.enter s.now .running))).trans rfl
  rw [show j.st = .suspending from suspending]
  dsimp only
  rw [if_neg homing, if_neg trace, handle]

theorem State.jobCancel_runs {j : Job} (hj : j = s.job k) (live : j.st = .running ∨ j.st = .suspending ∨ j.st = .suspended) (holds : j.noRes = false) :
    s.jobCancel k = ((s.setJob k { (j.enter s.now .cancelling) with ended := decide (j.st = .suspended) || (decide (j.st = .suspending) && j.ended) ||
      (decide (j.typ = jOtp) && !s.domOn dOtpw) }).jobLetGo j, s.handle k) := by
  subst hj
  exact (if_neg (by simp [holds])).trans (if_pos live)

/-- A job that has ended or is being cancelled takes none of the three commands. -/
theorem State.job_notAllowed {j : Job} (hj : j = s.job k) (ended : j.st = .done ∨ j.st = .failed ∨ j.st = .cancelling) :
    s.jobSuspend k = (s, notAllowed) ∧ s.jobResume k = (s, notAllowed) ∧ s.jobCancel k = (s, notAllowed) := by
  subst hj
  refine ⟨?_, ?_, (if_neg (by rcases ended with h | h | h <;> simp [h])).trans (if_neg (by rcases ended with h | h | h <;> simp [h]))⟩
  · unfold State.jobSuspend
    extract_lets j
    rcases ended with h | h | h <;> rw [show j.st = _ from h]
  · unfold State.jobResume
    extract_lets j
    rcases ended with h | h | h <;> rw [show j.st = _ from h]

end

/-- Settles O34, from what each command does with its slot. -/
theorem jobCommandsAnswer : Obligations.JobCommandsAnswer := by
  unfold Obligations.JobCommandsAnswer
  intro o s u r
  refine ⟨?bank, ?start, ?answers, ?handles, ?slots⟩
  case bank => exact fun b => ⟨_, rfl, rfl, fun q h => s.blkPut_other o.val b h, fun i => s.blkPut_get o.val b i⟩
  case start =>
    intro typ tgt ps v hv runs
    subst hv
    have command := State.jobCommand_start (typ := typ) (tgt := tgt) (s.blkPut o.val (wd (2 ^ 28 + typ.toNat * 2 ^ 24 + tgt.toNat * 2 ^ 20) :: ps)) o.val
      (s.blkPut_first o.val _ ps)
    rw [List.take_of_length_le (by simp), runs] at command
    have settled := Settled.settleAll (Settled.refl [] ({ u with jobRes := u.jobRes.set (jobBank o.val).val r } : State))
    have results := settled.jobRes
    refine ⟨_, congrArg Host.Outcome.next (s.jobPost_eq o.val _ command), rfl, ?_, fun b other => ?_, ?_⟩
    · rw [results]
      exact show (u.jobRes.set (jobBank o.val).val r).get (jobBank o.val) = r from Vector.getElem_set_self (jobBank o.val).isLt
    · rw [results]
      exact show (u.jobRes.set (jobBank o.val).val r).get b = u.jobRes.get b from
        Vector.getElem_set_ne (jobBank o.val).isLt b.isLt fun e => other (Fin.ext e.symm)
    · rw [results]
      exact settled
  case answers =>
    intro typ tgt ps
    refine ⟨fun bad => if_pos bad, fun low high bad => ?_, fun low high ok full => ?_, fun low high ok room starts => ?_⟩
    · exact (if_neg (by omega)).trans (if_pos (by simp [bad]))
    · unfold State.jobStart
      rw [if_neg (by omega), if_neg (by simp [ok]), s.freeSlot_none full]
      rfl
    · obtain ⟨k, free, idle⟩ := s.freeSlot_some room
      obtain ⟨rfl, rfl⟩ := Prod.mk.inj ((State.jobStart_queues ps low high ok free).symm.trans starts)
      have slot (q : Fin 16) := s.used.job_setJob k q (s.queuedJob k o.val typ tgt ps)
      have own := (slot k).trans (if_pos rfl)
      refine ⟨k, idle, congrArg Job.st own, congrArg Job.typ own, congrArg Job.tgt own, congrArg Job.origin own, congrArg Job.params own,
        congrArg Job.gen own, congrArg Job.seq own, rfl, rfl, fun q other => (slot q).trans (if_neg fun e => other e.symm), rfl⟩
  case handles =>
    intro h k op v slot hv
    have word : wd (op * 2 ^ 28 + h.toNat) = jobWord op h.toNat := by rw [jobWord, Nat.mod_eq_of_lt h.isLt]
    rw [word] at hv
    have posts (low : 2 ≤ op) (high : op ≤ 5) {u : State} {r : Word} (runs : (if (s.job k).st = .idle ∨ (s.job k).gen ≠ h.toNat / 16 then (v, badHandle)
        else if op = 2 then v.jobSuspend k else if op = 3 then v.jobResume k else if op = 4 then v.jobCancel k else v.jobRelease k) = (u, r)) :
        s.jobPost o.val [jobWord op h.toNat] = ({ u with jobRes := u.jobRes.set (jobBank o.val).val r } : State).settleAll := by
      subst hv
      exact s.jobPost_eq o.val _ ((State.jobCommand_handle _ o.val slot low high (s.blkPut_first o.val _ [])).trans runs)
    have results : v.jobRes = s.jobRes := by rw [hv]; rfl
    refine ⟨fun bad => ⟨_, rfl, ?_, ?_, ?_, ?_⟩, fun used gen => ⟨?_, ?_, ?_, ?_⟩⟩
    case refine_1 | refine_2 | refine_3 | refine_4 =>
      intro e
      have answer := posts (by omega) (by omega) (if_pos bad)
      rw [results] at answer
      subst e
      exact congrArg Host.Outcome.next answer
    all_goals
      intro e runs
      have fine : ¬((s.job k).st = .idle ∨ (s.job k).gen ≠ h.toNat / 16) := by simp [used, gen]
      have answer := posts (by omega) (by omega) (u := u) (r := r) ((if_neg fine).trans (by subst e; exact runs))
      subst e
      exact congrArg Host.Outcome.next answer
  case slots =>
    intro k j hj

    refine ⟨fun runs homing trace => ?_, fun n runs trace tgt => ?_, fun n runs homing tgt => ?_, fun waits => ?_, fun suspended noRes => ?_,
      fun suspending homing trace => State.jobResume_suspending hj suspending homing trace, fun live holds homing trace => ?_,
      fun suspended noRes => if_pos ⟨by rw [← hj, suspended], by rw [← hj, noRes]⟩, fun ended => ?_, fun ended => ?_, fun live => ?_⟩
    · rw [State.jobSuspend_running hj runs, State.jobLetGo_others homing trace]
    · rw [State.jobSuspend_running hj runs, State.jobLetGo, if_neg (by rw [trace]; decide), if_pos trace, tgt]
      dsimp only
      refine ⟨?_, State.rd_wr_lt (by decide) (by decide) _ _, rfl⟩
      rw [State.job_wr, State.job_setJob_self]
      rfl
    · rw [State.jobSuspend_running hj runs, State.jobLetGo, if_pos homing, tgt, State.onTarget_ch]
      exact ⟨congrArg Job.st (s.job_setJob_self k _), congrArg Chan.homeRun (State.ch_modCh_self _ n _), rfl⟩
    · rw [State.jobSuspend_queued hj waits]
      have own := s.job_setJob_self k { (j.enter s.now .suspended) with noRes := true }
      dsimp only
      refine ⟨?_, ?_, State.bit_orBits (by decide) _ 0 k.val (Nat.pow_lt_pow_right (by decide) k.isLt), rfl⟩
      · rw [State.job_orBits, own]
        rfl
      · rw [State.job_orBits, own]
    · rw [State.jobResume_queued hj suspended noRes]
      exact ⟨congrArg Job.st (s.job_setJob_self k _), rfl⟩
    · rw [State.jobCancel_runs hj live holds, State.jobLetGo_others homing trace]
      exact ⟨congrArg Job.st (s.job_setJob_self k _), rfl, fun q other => s.job_setJob_ne other _, OnlyRegs.refl [] s⟩
    · rw [hj] at ended ⊢
      exact if_pos ended
    · exact State.job_notAllowed hj ended
    · exact if_neg (by rw [← hj]; rcases live with h | h | h | h <;> simp [h])

end Sys2Proof.Machine

/-! SUPPORT. O36: the commands of a trace unit. -/

namespace Sys2Proof.Machine

section
variable {s : State} {n : Ch}

/-- A capture takes FORCE until it is triggered, in streaming mode always (R346). -/
theorem State.trcForce_taken (active : s.rd R.TRC_STATUS_ACTIVE n.val ≠ 0) (fresh : s.rd R.TRC_CFG_MODE n.val ≠ 0 ∨ s.rd R.TRC_STATUS_TRIGGERED n.val = 0) :
    s.trcForce n = s.modTrc n fun t => { t with force := true } := by
  refine if_pos ?_
  rcases fresh with mode | trig
  · simp [State.on, active, mode]
  · simp [State.on, active, trig]

theorem State.trcForce_late (mode : s.rd R.TRC_CFG_MODE n.val = 0) (trig : s.rd R.TRC_STATUS_TRIGGERED n.val ≠ 0) : s.trcForce n = s :=
  if_neg (by simp [State.on, mode, trig])

theorem State.trcClose_empty (empty : (s.ch n).trc.words = []) : s.trcClose n = s := if_pos (by simp [empty])

/-- An open packet without a destination is dropped. -/
theorem State.trcClose_drops (words : (s.ch n).trc.words ≠ []) (dest : (s.ch n).trc.dest = none) :
    s.trcClose n = s.modCh n fun c => { c with trc.words := [] } := by
  unfold State.trcClose
  extract_lets t p h u
  rw [if_neg (by simpa using words), show t.dest = none from dest]

theorem State.trcClose_sends {d : Nat} (words : (s.ch n).trc.words ≠ []) (dest : (s.ch n).trc.dest = some d) :
    s.trcClose n = (((s.modCh n fun c => { c with trc.words := [] }).incWrap R.TRCR_PKTS 0).send (fromTrace n)
      (tracePkt s.nodeId d (wd ((s.ch n).trc.head.toNat + (s.ch n).trc.words.length / ((s.ch n).trc.head.toNat / 2 ^ 20 % 8 + 1) * 2 ^ 24) ::
        (s.ch n).trc.first :: (s.ch n).trc.tick :: (s.ch n).trc.words))) := by
  unfold State.trcClose
  extract_lets t p h u
  rw [if_neg (by simpa using words), show t.dest = some d from dest]
  rfl

end

/-- Settles O36, by the branches of FORCE, END and the closing of a packet. -/
theorem traceCommandsAct : Obligations.TraceCommandsAct := by
  unfold Obligations.TraceCommandsAct
  intro n s on
  refine ⟨fun active fresh => ?_, fun _ mode trig => ?_, fun active => ?_, fun idle => ⟨?_, ?_⟩, fun empty => ?_, fun words dest => ?_,
    fun p d words dest hp => ?_⟩
  · exact ⟨_, congrArg Host.Outcome.next ((State.whenCh_on on _).trans (State.trcForce_taken active fresh)), State.ch_modCh_self s n _,
      (OnlyChan.refl n [] s).modCh _⟩
  · exact congrArg Host.Outcome.next ((State.whenCh_on on _).trans (State.trcForce_late mode trig))
  · exact ⟨_, congrArg Host.Outcome.next ((State.whenCh_on on _).trans (if_pos (bne_iff_ne.2 active))), State.ch_modCh_self s n _,
      (OnlyChan.refl n [] s).modCh _⟩
  · exact congrArg Host.Outcome.next ((State.whenCh_on on _).trans (if_neg (by simp [State.on, idle])))
  · exact congrArg Host.Outcome.next ((State.whenCh_on on _).trans (if_neg (by simp [State.on, idle])))
  · exact congrArg Host.Outcome.next ((State.whenCh_on on _).trans (State.trcClose_empty empty))
  · exact ⟨_, congrArg Host.Outcome.next ((State.whenCh_on on _).trans (State.trcClose_drops words dest)), State.ch_modCh_self s n _,
      (OnlyChan.refl n [] s).modCh _⟩
  · subst hp
    exact congrArg Host.Outcome.next ((State.whenCh_on on _).trans (State.trcClose_sends words dest))

end Sys2Proof.Machine

/-! SUPPORT. O37: the states of a link port. -/

namespace Sys2Proof.Machine

/-! ### The record of a port -/

section
variable {s t : State} {p : Ch} {l : List (Nat × Word)}

theorem State.lp_modLp (s : State) (p : Ch) (g : LinkPort → LinkPort) : (s.modLp p g).lp p = g (s.lp p) := Vector.getElem_set_self p.isLt

theorem State.lp_modLp_ne (s : State) {p q : Ch} (h : q ≠ p) (g : LinkPort → LinkPort) : (s.modLp p g).lp q = s.lp q :=
  Vector.getElem_set_ne p.isLt q.isLt fun e => h (Fin.ext e.symm)

theorem State.modLp_modLp (s : State) (p : Ch) (f g : LinkPort → LinkPort) : (s.modLp p f).modLp p g = s.modLp p fun l => g (f l) := by
  rw [State.modLp, State.lp_modLp]
  simp only [State.modLp, State.setLp, Vector.set_set]

theorem State.lp_wr (s : State) (f : Fld) (i v : Nat) (p : Ch) : (s.wr f i v).lp p = s.lp p := rfl

theorem State.lp_wrs (s : State) (i : Nat) (q : List (Fld × Nat)) (p : Ch) : (s.wrs i q).lp p = s.lp p := by
  simp only [State.lp, State.wrs_link]

theorem State.lp_inc (s : State) (f : Fld) (i : Nat) (p : Ch) : (s.inc f i).lp p = s.lp p := by
  unfold State.inc
  split <;> rfl

theorem State.rd_modLp (s : State) (p : Ch) (g : LinkPort → LinkPort) (f : Fld) (i : Nat) : (s.modLp p g).rd f i = s.rd f i := rfl

theorem State.lst_modLp (s : State) (p : Ch) (g : LinkPort → LinkPort) (q : Ch) : (s.modLp p g).lst q = s.lst q := rfl

/-! ### What the record and the registers of one port leave -/

theorem OnlyPort.refl (p : Ch) (l : List (Nat × Word)) (s : State) : OnlyPort p l s s := ⟨OnlyRegs.refl l s, fun _ _ => rfl⟩

theorem OnlyPort.wr (h : OnlyPort p l s t) (f : Fld) (i v : Nat) (hf : f.ok) (c : f.at i ∈ l) : OnlyPort p l s (t.wr f i v) :=
  ⟨h.1.wr f i v hf c, h.2⟩

theorem OnlyPort.wrs (h : OnlyPort p l s t) (i : Nat) (q : List (Fld × Nat)) (c : ∀ e ∈ q, e.1.ok ∧ e.1.at i ∈ l) : OnlyPort p l s (t.wrs i q) := by
  induction q generalizing t with
  | nil => exact h
  | cons e q ih =>
    obtain ⟨ok, mem⟩ := c e List.mem_cons_self
    exact ih (h.wr e.1 i e.2 ok mem) fun x hx => c x (List.mem_cons_of_mem _ hx)

theorem OnlyPort.inc (h : OnlyPort p l s t) (f : Fld) (i : Nat) (hf : f.ok) (c : f.at i ∈ l) : OnlyPort p l s (t.inc f i) := by
  unfold State.inc
  split
  · exact h.wr f i _ hf c
  · exact h

theorem OnlyPort.modLp (h : OnlyPort p l s t) (g : LinkPort → LinkPort) : OnlyPort p l s (t.modLp p g) :=
  ⟨h.1, fun q hq => (State.lp_modLp_ne t hq g).trans (h.2 q hq)⟩

theorem OnlyPort.free_eq (h : OnlyPort p l s t) : t.free = s.free :=
  show ({ t with link := s.link } : State).rest.free = s.rest.free by rw [h.1.2.2]

/-- The order of the free values is no part of what else changes. -/
theorem OnlyPort.withFree (h : OnlyPort p l s t) : OnlyPort p l s { t with free := s.free } := by
  rwa [show ({ t with free := s.free } : State) = t by rw [← h.free_eq]]

/-! ### The commands of a port that is there -/

theorem State.portUp.next (up : s.portUp p) {f : State → State} {t : State} (e : f s = t) :
    (Host.Outcome.next (s.whenPort p f) : Host.Outcome State Fault Refusal) = .next t.after :=
  congrArg Host.Outcome.next ((State.whenPort_on up.1 up.2 f).trans (congrArg State.after e))

theorem State.enumPump_idle (h : s.fab.answer = none) : s.enumPump = s := by
  have idle : s.enumStep = s := by
    unfold State.enumStep
    rw [h]
  rw [State.enumPump, idle, idle, idle]

/-! ### Out of a state (R394) -/

/-- The record of port `p` starts over in state `to'`. -/
def State.portFresh (s : State) (p : Ch) (to' : Nat) : State :=
  (s.modLp p fun l => l.retrained true).wrs p.val [(R.LNK_STATUS_STATE, to'), (R.LNK_STATUS_SYMLOCK, 0), (R.LNK_STATUS_BERT_SYNC, 0)]

/-- Port `p` starts over in state `to'`, before the link-down of a port that was up. -/
def State.portStart (s : State) (p : Ch) (to' : Nat) : State := (if s.lst p = 6 then s.bertCut p else s).portFresh p to'

theorem State.portStart_fresh (h : s.lst p ≠ 6) (to' : Nat) : s.portStart p to' = s.portFresh p to' := by rw [State.portStart, if_neg h]

theorem State.lst_portFresh (s : State) (p : Ch) {to' : Nat} (h : to' < 8) : (s.portFresh p to').lst p = to' := by
  unfold State.portFresh State.lst
  simp (disch := decide) only [State.wrs, State.rd_wr_sep]
  exact State.rd_wr_lt (by decide) h _ _

theorem State.symlock_portFresh (s : State) (p : Ch) (to' : Nat) : (s.portFresh p to').rd R.LNK_STATUS_SYMLOCK p.val = 0 := by
  unfold State.portFresh
  simp (disch := decide) only [State.wrs, State.rd_wr_sep, State.rd_wr_lt]

theorem State.lp_portFresh (s : State) (p : Ch) (to' : Nat) : (s.portFresh p to').lp p = (s.lp p).retrained true := by
  rw [State.portFresh, State.lp_wrs, State.lp_modLp]

/-- The fields in which a port starts over. -/
def startFields (p : Ch) : List (Nat × Word) := [R.LNK_STATUS_STATE.at p.val, R.LNK_STATUS_SYMLOCK.at p.val, R.LNK_STATUS_BERT_SYNC.at p.val]

theorem OnlyPort.portFresh (h : OnlyPort p l s t) (to' : Nat) (c : ∀ a ∈ startFields p, a ∈ l) : OnlyPort p l s (t.portFresh p to') := by
  simp only [startFields, List.forall_mem_cons] at c
  exact (h.modLp _).wrs _ _ (by simp +decide [c])

theorem State.portOut_low (h : s.lst p < 4) (to' : Nat) : s.portOut p to' = s.portStart p to' := if_neg (by omega)

theorem State.portOut_high (h : 4 ≤ s.lst p) (to' : Nat) : s.portOut p to' = ((s.portStart p to').leaveActive p).linkDown p := if_pos h

theorem State.bertCut_eq (s : State) (p : Ch) : s.bertCut p = s.used.used.used.wrs p.val [(R.LNK_BERT_CHK_LO_CHK, s.anyVal.toNat),
    (R.LNK_BERT_CHK_HI_CHK, s.used.anyVal.toNat), (R.LNK_BERT_ERR_ERR, s.used.used.anyVal.toNat)] := rfl

theorem State.rd_bertCut (s : State) (p : Ch) {f : Fld} (lo : R.LNK_BERT_CHK_LO_CHK.sep f = true) (hi : R.LNK_BERT_CHK_HI_CHK.sep f = true)
    (err : R.LNK_BERT_ERR_ERR.sep f = true) (i : Nat) (hi' : i = p.val) : (s.bertCut p).rd f i = s.rd f i := by
  subst hi'
  rw [State.bertCut_eq]
  simp only [State.wrs, State.rd_wr_sep _ _ _ _ _ lo, State.rd_wr_sep _ _ _ _ _ hi, State.rd_wr_sep _ _ _ _ _ err]
  rfl

theorem State.lp_bertCut (s : State) (p q : Ch) : (s.bertCut p).lp q = s.lp q := by
  rw [State.bertCut_eq, State.lp_wrs]
  rfl

theorem State.lst_portStart (s : State) (p : Ch) {to' : Nat} (h : to' < 8) : (s.portStart p to').lst p = to' := State.lst_portFresh _ p h

theorem State.rd_portStart (s : State) (p : Ch) (to' : Nat) {f : Fld} (lo : R.LNK_BERT_CHK_LO_CHK.sep f = true) (hi : R.LNK_BERT_CHK_HI_CHK.sep f = true)
    (err : R.LNK_BERT_ERR_ERR.sep f = true) (st : R.LNK_STATUS_STATE.sep f = true) (lock : R.LNK_STATUS_SYMLOCK.sep f = true)
    (sync : R.LNK_STATUS_BERT_SYNC.sep f = true) : (s.portStart p to').rd f p.val = s.rd f p.val := by
  unfold State.portStart State.portFresh
  simp only [State.wrs, State.rd_wr_sep _ _ _ _ _ st, State.rd_wr_sep _ _ _ _ _ lock, State.rd_wr_sep _ _ _ _ _ sync, State.rd_modLp]
  split
  · exact State.rd_bertCut s p lo hi err _ rfl
  · rfl

theorem State.lp_portStart (s : State) (p : Ch) (to' : Nat) : (s.portStart p to').lp p = (s.lp p).retrained true := by
  unfold State.portStart
  rw [State.lp_portFresh]
  split
  · rw [State.lp_bertCut]
  · rfl

theorem OnlyPort.portStart (h : OnlyPort p l s t) (to' : Nat) (c : ∀ a ∈ startFields p, a ∈ l) (st : t.lst p ≠ 6) : OnlyPort p l s (t.portStart p to') := by
  rw [State.portStart_fresh st]
  exact h.portFresh to' c

/-- With the free values left out, the writes of fields and of the record reach what they reach with them. -/
theorem OnlyPort.wrsFree {k : Nat} (h : OnlyPort p l s { t with free := k }) (i : Nat) (q : List (Fld × Nat)) (c : ∀ e ∈ q, e.1.ok ∧ e.1.at i ∈ l) :
    OnlyPort p l s { t.wrs i q with free := k } := by
  induction q generalizing t with
  | nil => exact h
  | cons e q ih =>
    obtain ⟨ok, mem⟩ := c e List.mem_cons_self
    exact ih (h.wr e.1 i e.2 ok mem) fun x hx => c x (List.mem_cons_of_mem _ hx)

theorem OnlyPort.modLpFree {k : Nat} (h : OnlyPort p l s { t with free := k }) (g : LinkPort → LinkPort) : OnlyPort p l s { t.modLp p g with free := k } :=
  h.modLp g

theorem OnlyPort.portStart_bert (h : OnlyPort p l s t) (to' : Nat) (c : ∀ a ∈ startFields p, a ∈ l)
    (b : ∀ a ∈ [R.LNK_BERT_CHK_LO_CHK.at p.val, R.LNK_BERT_CHK_HI_CHK.at p.val, R.LNK_BERT_ERR_ERR.at p.val], a ∈ l) (st : t.lst p = 6) :
    OnlyPort p l s { t.portStart p to' with free := s.free } := by
  unfold State.portStart State.portFresh
  rw [if_pos st, State.bertCut_eq]
  simp only [startFields, List.forall_mem_cons] at c b
  exact ((show OnlyPort p l s { t.used.used.used with free := s.free } from h.withFree).wrsFree _ _ (by simp +decide [b])).modLpFree _ |>.wrsFree _ _ (by simp +decide [c])

/-! ### To RETRAIN and to TRAIN (R394, R395, R403) -/

/-- Port `p` goes to RETRAIN, before LNK_ERR_p is raised. -/
def State.retraining (s : State) (p : Ch) : State :=
  ((s.modLp p fun l => l.retrained false).wrs p.val [(R.LNK_STATUS_STATE, 5), (R.LNK_IRQ_RETRAIN, 1), (R.LNK_STATUS_BERT_SYNC, 0)]).inc
    R.LNK_CNT_LINK_RETRAINS p.val

theorem State.toRetrain_active (h : s.lst p = 4) : s.toRetrain p = ((s.retraining p).raise (srcLnkErr p.val) 0).leaveActive p := if_pos h

theorem State.lst_retraining (s : State) (p : Ch) : (s.retraining p).lst p = 5 := by
  unfold State.retraining State.lst
  simp (disch := decide) only [State.wrs, State.rd_inc_sep, State.rd_wr_sep, State.rd_wr_lt]

theorem State.irq_retraining (s : State) (p : Ch) : (s.retraining p).rd R.LNK_IRQ_RETRAIN p.val = 1 := by
  unfold State.retraining
  simp (disch := decide) only [State.wrs, State.rd_inc_sep, State.rd_wr_sep, State.rd_wr_lt]

theorem State.count_retraining (s : State) (p : Ch) :
    (s.retraining p).rd R.LNK_CNT_LINK_RETRAINS p.val = min (s.rd R.LNK_CNT_LINK_RETRAINS p.val + 1) 0xFFFF := by
  unfold State.retraining
  rw [State.rd_inc (by decide)]
  simp (disch := decide) only [State.wrs, State.rd_wr_sep, State.rd_modLp]
  rfl

theorem State.lp_retraining (s : State) (p : Ch) : (s.retraining p).lp p = (s.lp p).retrained false := by
  unfold State.retraining
  rw [State.lp_inc, State.lp_wrs, State.lp_modLp]

theorem OnlyPort.retraining (s : State) (p : Ch) : OnlyPort p [R.LNK_STATUS_STATE.at p.val, R.LNK_IRQ_RETRAIN.at p.val,
    R.LNK_STATUS_BERT_SYNC.at p.val, R.LNK_CNT_LINK_RETRAINS.at p.val] s (s.retraining p) :=
  (((OnlyPort.refl p _ s).modLp _).wrs _ _ (by simp +decide)).inc _ _ (by decide) (by simp)

/-- The rate of a fixed port is its configured one, its dwell 2 ms. -/
theorem State.toTrain_fixed (h : s.rd R.LNK_CFG_RATE p.val ≠ 2) :
    s.toTrain p = (s.modLp p fun l => { l.retrained true with dwellEnd := s.now + 800000 }).wrs p.val
      [(R.LNK_STATUS_STATE, 2), (R.LNK_STATUS_RATE, (s.rd R.LNK_CFG_RATE p.val == 1).toNat), (R.LNK_STATUS_SYMLOCK, 0)] := by
  simp [State.toTrain, State.dwell, h, LinkPort.retrained]

/-- An auto port takes the rate it has not tried last, for a dwell of its generator. -/
theorem State.toTrain_auto (h : s.rd R.LNK_CFG_RATE p.val = 2) :
    s.toTrain p = (s.modLp p fun l => { l.retrained true with
        cable := !(s.lp p).cable, tries := (s.lp p).tries + 1,
        dwellEnd := s.now + 400 * (1000 + Config.trainDwell s.uid p.val (s.lp p).tries % 1001) }).wrs p.val
      [(R.LNK_STATUS_STATE, 2), (R.LNK_STATUS_RATE, (s.lp p).cable.toNat), (R.LNK_STATUS_SYMLOCK, 0)] := by
  simp [State.toTrain, State.dwell, h, State.modLp, LinkPort.retrained]

/-- A port in TRAIN shows its state, its rate and no symbol lock. -/
theorem State.trainShows (u : State) (p : Ch) (b : Bool) (v : State)
    (e : v = u.wrs p.val [(R.LNK_STATUS_STATE, 2), (R.LNK_STATUS_RATE, b.toNat), (R.LNK_STATUS_SYMLOCK, 0)]) :
    v.lst p = 2 ∧ v.rd R.LNK_STATUS_SYMLOCK p.val = 0 ∧ v.rd R.LNK_STATUS_RATE p.val = b.toNat := by
  subst e
  refine ⟨?_, ?_, ?_⟩
  · unfold State.lst
    simp (disch := decide) only [State.wrs, State.rd_wr_sep, State.rd_wr_lt]
  · simp (disch := decide) only [State.wrs, State.rd_wr_lt]
  · simp (disch := decide) only [State.wrs, State.rd_wr_sep]
    exact State.rd_wr_lt (by decide) (by cases b <;> decide) _ _

/-! ### Code errors (R388, R390, R394, R395) -/

/-- A code error is counted and breaks a run of training sets. -/
def State.codeCounted (s : State) (p : Ch) : State := (s.inc R.LNK_CNT_ERR_CODE p.val).modLp p fun l => { l with tra := 0, tra2 := 0 }

theorem State.rd_codeCounted (s : State) (p : Ch) {f : Fld} (apart : R.LNK_CNT_ERR_CODE.sep f = true) : (s.codeCounted p).rd f p.val = s.rd f p.val :=
  State.rd_inc_sep apart s p.val

theorem State.lst_codeCounted (s : State) (p : Ch) : (s.codeCounted p).lst p = s.lst p := s.rd_codeCounted p (by decide)

theorem State.lp_codeCounted (s : State) (p : Ch) : (s.codeCounted p).lp p = { s.lp p with tra := 0, tra2 := 0 } := by
  rw [State.codeCounted, State.lp_modLp, State.lp_inc]

theorem OnlyPort.codeCounted (c : R.LNK_CNT_ERR_CODE.at p.val ∈ l) : OnlyPort p l s (s.codeCounted p) :=
  ((OnlyPort.refl p l s).inc _ _ (by decide) c).modLp _

/-- The errors of the last 16 characters before the one at `pos`. -/
def State.errsNear (s : State) (p : Ch) (pos : Nat) : List Nat := (s.lp p).errs.filter fun q => decide (pos < q + 16) && decide (q ≤ pos)

theorem State.codeError_down (h : s.lst p < 2) (pos : Nat) : s.codeError p pos = s := if_pos h

theorem State.codeError_train (h : 2 ≤ s.lst p) (config : s.lst p ≠ 3) (active : s.lst p ≠ 4) (pos : Nat) : s.codeError p pos = s.codeCounted p := by
  rw [← s.lst_codeCounted p] at config active
  exact (if_neg (by omega)).trans ((if_neg config).trans (if_neg active))

/-- A code error in CONFIG adds to the errors of the attempt. -/
def State.codeConfig (s : State) (p : Ch) : State := (s.codeCounted p).modLp p fun l => { l with cfgErrs := l.cfgErrs + 1 }

theorem State.lst_codeConfig (s : State) (p : Ch) : (s.codeConfig p).lst p = s.lst p := s.lst_codeCounted p

theorem State.lp_codeConfig (s : State) (p : Ch) : (s.codeConfig p).lp p = { s.lp p with tra := 0, tra2 := 0, cfgErrs := (s.lp p).cfgErrs + 1 } := by
  rw [State.codeConfig, State.lp_modLp, State.lp_codeCounted]

theorem OnlyPort.codeConfig (c : R.LNK_CNT_ERR_CODE.at p.val ∈ l) : OnlyPort p l s (s.codeConfig p) := (OnlyPort.codeCounted c).modLp _

/-- An auto port goes back to DETECT for cable rate. -/
def State.codeReverts (s : State) (p : Ch) : State := ((s.codeConfig p).portFresh p 1).modLp p fun l => { l with cable := true }

theorem State.codeError_config (config : s.lst p = 3) (pos : Nat)
    (few : (s.lp p).cfgErrs < 2 ∨ s.rd R.LNK_CFG_RATE p.val ≠ 2 ∨ s.rd R.LNK_STATUS_RATE p.val ≠ 0) : s.codeError p pos = s.codeConfig p := by
  refine (if_neg (by omega)).trans ((if_pos ((s.lst_codeCounted p).trans config)).trans (if_neg ?_))
  change ¬ (2 < ((s.codeConfig p).lp p).cfgErrs ∧ (s.codeCounted p).rd R.LNK_CFG_RATE p.val = 2 ∧ !((s.codeCounted p).rd R.LNK_STATUS_RATE p.val != 0))
  rw [State.lp_codeConfig, s.rd_codeCounted p (by decide), s.rd_codeCounted p (by decide)]
  rcases few with few | few | few
  · exact fun h => absurd h.1 (by simp; omega)
  · exact fun h => few h.2.1
  · simp [few]

theorem State.codeError_reverts (config : s.lst p = 3) (pos : Nat) (many : 2 ≤ (s.lp p).cfgErrs) (auto : s.rd R.LNK_CFG_RATE p.val = 2)
    (board : s.rd R.LNK_STATUS_RATE p.val = 0) : s.codeError p pos = s.codeReverts p := by
  have low := (s.lst_codeConfig p).trans config
  refine (if_neg (by omega)).trans ((if_pos ((s.lst_codeCounted p).trans config)).trans ((if_pos ?_).trans
    (congrArg (fun t : State => t.modLp p fun l => { l with cable := true }) ((State.portOut_low (s := s.codeConfig p) (by omega) 1).trans
      (State.portStart_fresh (by omega) 1)))))
  change 2 < ((s.codeConfig p).lp p).cfgErrs ∧ (s.codeCounted p).rd R.LNK_CFG_RATE p.val = 2 ∧ !((s.codeCounted p).rd R.LNK_STATUS_RATE p.val != 0)
  rw [State.lp_codeConfig, s.rd_codeCounted p (by decide), s.rd_codeCounted p (by decide)]
  exact ⟨by simp; omega, auto, by simp [board]⟩

theorem State.errs_codeCounted (s : State) (p : Ch) (pos : Nat) : (s.codeCounted p).errsNear p pos = s.errsNear p pos := by
  rw [State.errsNear, State.lp_codeCounted]
  rfl

theorem State.codeError_active (active : s.lst p = 4) (pos : Nat) (few : (s.errsNear p pos).length < 3) :
    s.codeError p pos = (s.codeCounted p).modLp p fun l => { l with errs := pos :: s.errsNear p pos } := by
  have few' : ((s.codeCounted p).errsNear p pos).take 3 = s.errsNear p pos := by
    rw [State.errs_codeCounted, List.take_of_length_le (by omega)]
  have counted := (s.lst_codeCounted p).trans active
  refine (if_neg (by omega)).trans ((if_neg (show ¬ (s.codeCounted p).lst p = 3 by omega)).trans ((if_pos counted).trans ?_))
  change (if 3 ≤ (((s.codeCounted p).errsNear p pos).take 3).length then (s.codeCounted p).toRetrain p
    else (s.codeCounted p).modLp p fun l => { l with errs := pos :: ((s.codeCounted p).errsNear p pos).take 3 }) = _
  rw [few', if_neg (by omega)]

theorem State.codeError_retrains (active : s.lst p = 4) (pos : Nat) (many : 3 ≤ (s.errsNear p pos).length) :
    s.codeError p pos = (s.codeCounted p).toRetrain p := by
  have counted := (s.lst_codeCounted p).trans active
  refine (if_neg (by omega)).trans ((if_neg (show ¬ (s.codeCounted p).lst p = 3 by omega)).trans ((if_pos counted).trans (if_pos ?_)))
  change 3 ≤ (((s.codeCounted p).errsNear p pos).take 3).length
  rw [State.errs_codeCounted, List.length_take]
  omega

theorem State.lst_codeReverts (s : State) (p : Ch) : (s.codeReverts p).lst p = 1 := by
  rw [State.codeReverts, State.lst_modLp]
  exact State.lst_portFresh _ p (by decide)

theorem State.cable_codeReverts (s : State) (p : Ch) : ((s.codeReverts p).lp p).cable = true := by rw [State.codeReverts, State.lp_modLp]

theorem OnlyPort.codeReverts (c : R.LNK_CNT_ERR_CODE.at p.val ∈ l) (d : ∀ a ∈ startFields p, a ∈ l) : OnlyPort p l s (s.codeReverts p) :=
  ((OnlyPort.codeConfig c).portFresh 1 d).modLp _

theorem State.portUp.codeError (up : s.portUp p) {pos : Nat} {v : BitVec 10} {rd pl : Bool} (bad : lineBad v rd pl = true) (e : s.codeError p pos = t) :
    exec (.codeError p pos v rd pl) s = .next t.after := up.next ((if_pos bad).trans e)

/-! ### EN (R394, R403) -/

theorem State.lst_en (s : State) (p : Ch) (v : Nat) : (s.wr R.LNK_CTRL_EN p.val v).lst p = s.lst p := State.rd_wr_sep _ _ _ _ _ (by decide)

theorem State.lnkEn_starts (h : s.lst p = 0) : s.lnkEn p true = (s.wr R.LNK_CTRL_EN p.val 1).portStart p 1 := by
  have off : (s.wr R.LNK_CTRL_EN p.val 1).lst p = 0 := (s.lst_en p 1).trans h
  exact (if_pos off).trans (State.portOut_low (s := s.wr R.LNK_CTRL_EN p.val 1) (by omega) 1)

theorem State.lnkEn_again (h : s.lst p ≠ 0) : s.lnkEn p true = s.wr R.LNK_CTRL_EN p.val 1 := if_neg (by rw [State.flag, State.lst_en]; exact h)

theorem State.lnkEn_off (h : s.lst p = 0) : s.lnkEn p false = s.wr R.LNK_CTRL_EN p.val 0 := if_pos ((s.lst_en p 0).trans h)

theorem State.lnkEn_stops (h : s.lst p ≠ 0) : s.lnkEn p false = ((s.wr R.LNK_CTRL_EN p.val 0).portOut p 0).condSet (srcLnkDown p.val) false :=
  if_neg (by rw [State.flag, State.lst_en]; exact h)

end

/-- Settles O37, by the transitions of R394 on each trigger. -/
theorem linkPortStates : Obligations.LinkPortStates := by
  unfold Obligations.LinkPortStates
  intro p s up
  refine ⟨fun u h => ?_, fun b lock => ?_, fun lock => ⟨fun st => ?_, fun st => ?_, fun st => ?_, fun st => ?_⟩, fun st => ?_, fun st => ?_, ?_, ?_,
    fun st sig => ?_, fun st => ?_, ?_, fun st => ?_, fun st st' => ?_, fun st => ?_, fun st => ?_, fun pos v rd pl bad => ?_, fun pos v rd pl bad st => ?_,
    fun pos v rd pl bad st act cfg => ?_, fun pos v rd pl bad st cfg few => ?_, fun pos v rd pl bad st cfg many board => ?_,
    fun pos v rd pl bad st few => ?_, fun pos v rd pl bad st many => ?_⟩
  case refine_1 =>
    rw [State.after, State.enumPump_idle h]
    exact (Settled.refl [] u).settleAll
  case refine_2 => exact up.next (if_pos lock)
  case refine_3 =>
    refine ⟨_, up.next ((if_neg (by simp [lock])).trans (State.lnkEn_starts st)), State.lst_portStart _ p (by decide), ?_, State.lp_portStart _ p 1, ?_⟩
    · rw [State.rd_portStart _ _ _ (by decide) (by decide) (by decide) (by decide) (by decide) (by decide)]
      exact State.rd_wr_lt (by decide) (by decide) _ _
    · exact ((OnlyPort.refl p _ s).wr _ _ _ (by decide) (by simp)).portStart 1 (by simp [startFields]) (by rw [State.lst_en]; omega)
  case refine_4 => exact up.next ((if_neg (by simp [lock])).trans (State.lnkEn_again st))
  case refine_5 => exact up.next ((if_neg (by simp [lock])).trans (State.lnkEn_off st))
  case refine_6 =>
    have en : (s.wr R.LNK_CTRL_EN p.val 0).lst p = s.lst p := s.lst_en p 0
    refine ⟨(s.wr R.LNK_CTRL_EN p.val 0).portStart p 0, State.lst_portStart _ p (by decide), ?_, State.lp_portStart _ p 0, fun bert => ?_, fun bert => ?_,
      fun low => up.next ((if_neg (by simp [lock])).trans ((State.lnkEn_stops st).trans ?_)),
      fun high => up.next ((if_neg (by simp [lock])).trans ((State.lnkEn_stops st).trans ?_))⟩
    · rw [State.rd_portStart _ _ _ (by decide) (by decide) (by decide) (by decide) (by decide) (by decide)]
      exact State.rd_wr_lt (by decide) (by decide) _ _
    · exact ((OnlyPort.refl p _ s).wr _ _ _ (by decide) (by simp)).portStart 0 (by simp [startFields]) (by omega)
    · exact ((OnlyPort.refl p _ s).wr _ _ _ (by decide) (by simp)).portStart_bert 0 (by simp [startFields]) (by simp) (by omega)
    · rw [State.portOut_low (by omega)]
    · rw [State.portOut_high (by omega)]
  case refine_7 =>
    exact ⟨_, up.next ((if_pos st).trans (State.toRetrain_active st)), s.lst_retraining p, s.irq_retraining p, s.count_retraining p, s.lp_retraining p,
      OnlyPort.retraining s p⟩
  case refine_8 => exact up.next (if_neg st)
  case refine_9 =>
    refine ⟨_, up.next rfl, ?_, ?_, ?_, ?_, ?_, ?_, ?_, ?_, ?_, (OnlyRegs.refl _ s).wrs _ _ (by simp +decide)⟩
    all_goals simp (disch := decide) only [State.lnkCntClr, State.wrs, State.rd_wr_sep, State.rd_wr_lt]
  case refine_10 => exact ⟨_, up.next rfl, State.rd_wr_lt (by decide) (by decide) _ _, (OnlyRegs.refl _ s).wr _ _ _ (by decide) (by simp)⟩
  case refine_11 =>
    have go := up.next (f := fun s => if s.lst p = 1 ∧ s.on R.LNK_STATUS_SIGDET p.val then s.toTrain p else s) (if_pos ⟨st, by simp [State.on, sig]⟩)
    by_cases auto : s.rd R.LNK_CFG_RATE p.val = 2
    · obtain ⟨shows2, locks, rate⟩ := State.trainShows _ p _ _ (State.toTrain_auto auto)
      refine ⟨_, go, shows2, locks, fun h => by omega, fun h => by omega, fun _ => ⟨rate, _, ?_, ?_, rfl, ?_⟩, ?_⟩
      · omega
      · omega
      · rw [State.toTrain_auto auto, State.lp_wrs, State.lp_modLp]
      · rw [State.toTrain_auto auto]
        exact ((OnlyPort.refl p _ s).modLp _).wrs _ _ (by simp +decide)
    · obtain ⟨shows2, locks, rate⟩ := State.trainShows _ p _ _ (State.toTrain_fixed auto)
      have port : (s.toTrain p).lp p = { (s.lp p).retrained true with dwellEnd := s.now + 800000 } := by
        rw [State.toTrain_fixed auto, State.lp_wrs, State.lp_modLp]
      refine ⟨_, go, shows2, locks, fun h => ⟨rate.trans (by rw [h]; rfl), port⟩, fun h => ⟨rate.trans (by rw [h]; rfl), port⟩, fun h => absurd h auto, ?_⟩
      rw [State.toTrain_fixed auto]
      exact ((OnlyPort.refl p _ s).modLp _).wrs _ _ (by simp +decide)
  case refine_12 => exact up.next (if_neg (by rintro ⟨h, sig⟩; rcases st with st | st; exacts [st h, by simp [State.on, st] at sig]))
  case refine_13 =>
    have out (h : s.lst p < 4) : s.portOut p 1 = s.portFresh p 1 := (State.portOut_low h 1).trans (State.portStart_fresh (by omega) 1)
    refine ⟨s.portFresh p 1, s.lst_portFresh p (by decide), s.symlock_portFresh p 1, s.lp_portFresh p 1, (OnlyPort.refl p _ s).portFresh 1 (by simp [startFields]),
      fun st late => up.next ((if_pos ⟨st, late⟩).trans (out (by omega))), fun st => up.next ((if_pos (.inl st)).trans (out (by omega))),
      fun st => up.next ((if_pos (.inr st)).trans ((State.portOut_high (by omega) 1).trans ?_))⟩
    rw [State.portStart_fresh (by omega)]
  case refine_14 => exact up.next (if_neg (by rintro ⟨h, late⟩; rcases st with st | st; exacts [st h, by omega]))
  case refine_15 => exact up.next (if_neg (by omega))
  case refine_16 =>
    have same : (s.wr R.LNK_STATUS_SIGDET p.val 0).lst p = s.lst p := State.rd_wr_sep _ _ _ _ _ (by decide)
    exact up.next (if_neg (by omega))
  case refine_17 =>
    have same : (s.wr R.LNK_STATUS_SIGDET p.val 0).lst p = s.lst p := State.rd_wr_sep _ _ _ _ _ (by decide)
    refine ⟨(s.wr R.LNK_STATUS_SIGDET p.val 0).portStart p 1, State.lst_portStart _ p (by decide), ?_, State.lp_portStart _ p 1, fun bert => ?_, fun bert => ?_,
      fun low => up.next ((if_pos (by omega)).trans (State.portOut_low (by omega) 1)),
      fun high => up.next ((if_pos (by omega)).trans (State.portOut_high (by omega) 1))⟩
    · rw [State.rd_portStart _ _ _ (by decide) (by decide) (by decide) (by decide) (by decide) (by decide)]
      exact State.rd_wr_lt (by decide) (by decide) _ _
    · exact ((OnlyPort.refl p _ s).wr _ _ _ (by decide) (by simp)).portStart 1 (by simp [startFields]) (by omega)
    · exact ((OnlyPort.refl p _ s).wr _ _ _ (by decide) (by simp)).portStart_bert 1 (by simp [startFields]) (by simp) (by omega)
  case refine_18 => exact up.next (if_neg (by simp [bad]))
  case refine_19 => exact up.next ((if_pos bad).trans (State.codeError_down st pos))
  case refine_20 =>
    by_cases config : s.lst p = 3
    · refine ⟨_, up.codeError bad (State.codeError_config config pos (.inr (.inl (cfg.resolve_left (by omega))))), ?_, ?_, OnlyPort.codeConfig (by simp)⟩
      · exact State.rd_inc (by decide) s p.val
      · rw [State.lp_codeConfig, if_pos config]
    · refine ⟨_, up.codeError bad (State.codeError_train st config act pos), State.rd_inc (by decide) s p.val, ?_, OnlyPort.codeCounted (by simp)⟩
      rw [State.lp_codeCounted, if_neg config]
      rfl
  case refine_21 =>
    refine ⟨_, up.codeError bad (State.codeError_config st pos (few.imp_right .inr)), (s.lst_codeConfig p).trans st, ?_, OnlyPort.codeConfig (by simp)⟩
    rw [State.lp_codeConfig]
  case refine_22 =>
    exact ⟨_, up.codeError bad (State.codeError_reverts st pos many cfg board), s.lst_codeReverts p, s.cable_codeReverts p,
      OnlyPort.codeReverts (by simp) (by simp [startFields])⟩
  case refine_23 =>
    refine ⟨_, up.codeError bad (State.codeError_active st pos few), (State.lst_modLp ..).trans ((s.lst_codeCounted p).trans st), ?_, (OnlyPort.codeCounted (by simp)).modLp _⟩
    rw [State.lp_modLp]
    rfl
  case refine_24 =>
    exact ⟨_, up.codeError bad ((State.codeError_retrains st pos many).trans (State.toRetrain_active ((s.lst_codeCounted p).trans st))),
      State.lst_retraining _ p, State.irq_retraining _ p⟩

end Sys2Proof.Machine

/-! SUPPORT. O38: the training sets of a link port. -/

namespace Sys2Proof.Machine

section
variable {s : State} {p : Ch} {cap pid : BitVec 8}

/-! ### Fields of a training set (R389) -/

theorem traOk_pid (ok : traOk cap pid = true) : pid.toNat < 4 := by
  simp only [traOk, Bool.and_eq_true, decide_eq_true_eq] at ok
  exact ok.2

/-- A TRA1 is noted: the peer's FRESH and PID. -/
def State.noteTra1 (s : State) (p : Ch) (cap pid : BitVec 8) : State :=
  (s.modLp p fun l => { l with peerFresh := cap.getLsbD 1, tra2 := 0 }).wr R.LNK_STATUS_PEER_PID p.val pid.toNat

/-- A TRA2 is noted: the peer's FRESH stays. -/
def State.noteTra2 (s : State) (p : Ch) (cap pid : BitVec 8) : State :=
  (s.modLp p fun l => { l with peerFresh := l.peerFresh || cap.getLsbD 1 }).wr R.LNK_STATUS_PEER_PID p.val pid.toNat

theorem State.pid_noteTra1 (ok : traOk cap pid = true) : (s.noteTra1 p cap pid).rd R.LNK_STATUS_PEER_PID p.val = pid.toNat :=
  State.rd_wr_lt (by decide) (traOk_pid ok) _ _

theorem State.pid_noteTra2 (ok : traOk cap pid = true) : (s.noteTra2 p cap pid).rd R.LNK_STATUS_PEER_PID p.val = pid.toNat :=
  State.rd_wr_lt (by decide) (traOk_pid ok) _ _

theorem State.lst_noteTra1 : (s.noteTra1 p cap pid).lst p = s.lst p := State.rd_wr_sep _ _ _ _ _ (by decide)

theorem State.lst_noteTra2 : (s.noteTra2 p cap pid).lst p = s.lst p := State.rd_wr_sep _ _ _ _ _ (by decide)

theorem State.lp_noteTra1 : (s.noteTra1 p cap pid).lp p = { s.lp p with peerFresh := cap.getLsbD 1, tra2 := 0 } :=
  (State.lp_wr _ _ _ _ _).trans (State.lp_modLp _ _ _)

theorem State.lp_noteTra2 : (s.noteTra2 p cap pid).lp p = { s.lp p with peerFresh := (s.lp p).peerFresh || cap.getLsbD 1 } :=
  (State.lp_wr _ _ _ _ _).trans (State.lp_modLp _ _ _)

theorem OnlyPort.noteTra1 {l : List (Nat × Word)} (c : R.LNK_STATUS_PEER_PID.at p.val ∈ l) : OnlyPort p l s (s.noteTra1 p cap pid) :=
  ((OnlyPort.refl p l s).modLp _).wr _ _ _ (by decide) c

theorem OnlyPort.noteTra2 {l : List (Nat × Word)} (c : R.LNK_STATUS_PEER_PID.at p.val ∈ l) : OnlyPort p l s (s.noteTra2 p cap pid) :=
  ((OnlyPort.refl p l s).modLp _).wr _ _ _ (by decide) c

/-! ### A training set in TRAIN (R394) -/

/-- A run of training sets grows by one, with symbol lock. -/
def State.trainOne (s : State) (p : Ch) : State := (s.modLp p fun l => { l with tra := l.tra + 1 }).wr R.LNK_STATUS_SYMLOCK p.val 1

theorem State.lp_trainOne (s : State) (p : Ch) : (s.trainOne p).lp p = { s.lp p with tra := (s.lp p).tra + 1 } :=
  (State.lp_wr _ _ _ _ _).trans (State.lp_modLp _ _ _)

theorem State.trainSet_short (few : (s.lp p).tra < 15) : s.trainSet p = s.trainOne p :=
  if_neg (show ¬ 16 ≤ ((s.trainOne p).lp p).tra by rw [State.lp_trainOne]; exact Nat.not_le.2 (Nat.succ_lt_succ few))

theorem State.trainSet_full (many : 15 ≤ (s.lp p).tra) :
    s.trainSet p = ((s.trainOne p).modLp p fun l => { l with tra := 0, tra2 := 0, cfgErrs := 0 }).wr R.LNK_STATUS_STATE p.val 3 :=
  if_pos (show 16 ≤ ((s.trainOne p).lp p).tra by rw [State.lp_trainOne]; exact Nat.succ_le_succ many)

theorem State.symlock_trainSet (s : State) (p : Ch) : (s.trainSet p).rd R.LNK_STATUS_SYMLOCK p.val = 1 := by
  rcases Nat.lt_or_ge (s.lp p).tra 15 with few | many
  · rw [State.trainSet_short few]
    exact State.rd_wr_lt (by decide) (by decide) _ _
  · rw [State.trainSet_full many, State.rd_wr_sep _ _ _ _ _ (by decide), State.rd_modLp]
    exact State.rd_wr_lt (by decide) (by decide) _ _

theorem State.rd_trainSet (s : State) (p : Ch) {f : Fld} (lock : R.LNK_STATUS_SYMLOCK.sep f = true) (st : R.LNK_STATUS_STATE.sep f = true) :
    (s.trainSet p).rd f p.val = s.rd f p.val := by
  have one : (s.trainOne p).rd f p.val = s.rd f p.val := State.rd_wr_sep _ _ _ _ _ lock
  rcases Nat.lt_or_ge (s.lp p).tra 15 with few | many
  · rw [State.trainSet_short few, one]
  · rw [State.trainSet_full many, State.rd_wr_sep _ _ _ _ _ st, State.rd_modLp, one]

theorem State.lst_trainSet (st : s.lst p = 2) : (s.trainSet p).lst p = if 15 ≤ (s.lp p).tra then 3 else 2 := by
  rcases Nat.lt_or_ge (s.lp p).tra 15 with few | many
  · rw [State.trainSet_short few, if_neg (by omega), ← st]
    exact State.rd_wr_sep _ _ _ _ _ (by decide)
  · rw [State.trainSet_full many, if_pos many]
    exact State.rd_wr_lt (by decide) (by decide) _ _

theorem State.peerFresh_trainSet (s : State) (p : Ch) : ((s.trainSet p).lp p).peerFresh = (s.lp p).peerFresh := by
  rcases Nat.lt_or_ge (s.lp p).tra 15 with few | many
  · rw [State.trainSet_short few, State.lp_trainOne]
  · rw [State.trainSet_full many, State.lp_wr, State.lp_modLp, State.lp_trainOne]

theorem State.tra_trainSet (few : (s.lp p).tra < 15) : ((s.trainSet p).lp p).tra = (s.lp p).tra + 1 := by
  rw [State.trainSet_short few, State.lp_trainOne]

theorem OnlyPort.trainSet {l : List (Nat × Word)} {t : State} (h : OnlyPort p l s t) (st : R.LNK_STATUS_STATE.at p.val ∈ l) (lock : R.LNK_STATUS_SYMLOCK.at p.val ∈ l) :
    OnlyPort p l s (t.trainSet p) := by
  have one : OnlyPort p l s (t.trainOne p) := (h.modLp _).wr _ _ _ (by decide) lock
  rcases Nat.lt_or_ge (t.lp p).tra 15 with few | many
  · rw [State.trainSet_short few]
    exact one
  · rw [State.trainSet_full many]
    exact (one.modLp _).wr _ _ _ (by decide) st

/-! ### The branches of a TRA1 and a TRA2 (R394, R405) -/

theorem State.tra1_bad (bad : traOk cap pid = false) : s.tra1 p cap pid = s.modLp p fun l => { l with tra := 0, tra2 := 0 } := if_pos (by simp [bad])

theorem State.tra2_bad (bad : traOk cap pid = false) (sent : Bool) : s.tra2 p cap pid sent = s.modLp p fun l => { l with tra := 0, tra2 := 0 } :=
  if_pos (by simp [bad])

theorem State.tra1_train (ok : traOk cap pid = true) (st : s.lst p = 2) : s.tra1 p cap pid = (s.noteTra1 p cap pid).trainSet p :=
  (if_neg (by simp [ok])).trans (if_pos st)

theorem State.tra2_train (ok : traOk cap pid = true) (st : s.lst p = 2) (sent : Bool) : s.tra2 p cap pid sent = (s.noteTra2 p cap pid).trainSet p :=
  (if_neg (by simp [ok])).trans (if_pos st)

theorem State.loopAsk_noteTra1 : ((s.noteTra1 p cap pid).lp p).loopAsk = (s.lp p).loopAsk := by rw [State.lp_noteTra1]

/-- The BERT request in CONFIG, or in the RETRAIN it has caused, leads to LOOP where the port allows it. -/
theorem State.tra1_config (ok : traOk cap pid = true) (st : s.lst p = 3 ∨ s.lst p = 5) :
    s.tra1 p cap pid = if cap.getLsbD 2 = true ∧ s.rd R.LNK_CFG_LOOP_ALLOW p.val ≠ 0 ∧ (s.lst p = 3 ∨ (s.lp p).loopAsk = true) then
      (s.noteTra1 p cap pid).wr R.LNK_STATUS_STATE p.val 7 else s.noteTra1 p cap pid := by
  have allow : (s.noteTra1 p cap pid).rd R.LNK_CFG_LOOP_ALLOW p.val = s.rd R.LNK_CFG_LOOP_ALLOW p.val := State.rd_wr_sep _ _ _ _ _ (by decide)
  refine (if_neg (by simp [ok])).trans ((if_neg (by omega)).trans ((if_pos st).trans ?_))
  refine if_congr ?_ rfl rfl
  change (cap.getLsbD 2 && ((s.noteTra1 p cap pid).rd R.LNK_CFG_LOOP_ALLOW p.val != 0) && (s.lst p == 3 || ((s.noteTra1 p cap pid).lp p).loopAsk)) = true ↔ _
  rw [allow, State.loopAsk_noteTra1]
  simp [and_assoc]

theorem State.tra1_bert (ok : traOk cap pid = true) (st : s.lst p = 4) (asks : s.bertAsks p = true) (bert : cap.getLsbD 2 = true) :
    s.tra1 p cap pid = (s.modLp p fun l => { l with bert := false }).wr R.LNK_STATUS_STATE p.val 6 :=
  (if_neg (by simp [ok])).trans ((if_neg (by omega)).trans ((if_neg (by omega)).trans ((if_pos st).trans (if_pos (by simp [asks, bert])))))

theorem State.tra1_active (ok : traOk cap pid = true) (st : s.lst p = 4) (plain : s.bertAsks p = false ∨ cap.getLsbD 2 = false) :
    s.tra1 p cap pid = ((s.toRetrain p).noteTra1 p cap pid).modLp p fun l => { l with loopAsk := cap.getLsbD 2, asked := s.bertAsks p } :=
  (if_neg (by simp [ok])).trans ((if_neg (by omega)).trans ((if_neg (by omega)).trans ((if_pos st).trans (if_neg (by
    rw [Bool.and_eq_true]
    rintro ⟨asks, bert⟩
    rcases plain with h | h
    · exact Bool.false_ne_true (h.symm.trans asks)
    · exact Bool.false_ne_true (h.symm.trans bert))))))

theorem State.tra1_loop (ok : traOk cap pid = true) (st : s.lst p = 7) :
    s.tra1 p cap pid = if cap.getLsbD 2 = true then s else (s.toRetrain p).noteTra1 p cap pid :=
  (if_neg (by simp [ok])).trans ((if_neg (by omega)).trans ((if_neg (by omega)).trans ((if_neg (by omega)).trans (if_pos st))))

theorem State.tra1_other (ok : traOk cap pid = true) (st : s.lst p < 2 ∨ s.lst p = 6) : s.tra1 p cap pid = s :=
  (if_neg (by simp [ok])).trans ((if_neg (by omega)).trans ((if_neg (by omega)).trans ((if_neg (by omega)).trans (if_neg (by omega)))))

/-- A TRA2 in CONFIG or RETRAIN, on the state `v` in which a request of the port has been refused. -/
def State.tra2Noted (v : State) (p : Ch) (cap pid : BitVec 8) : State :=
  (v.noteTra2 p cap pid).modLp p fun l => { l with tra2 := l.tra2 + 1, asked := false }

theorem State.lp_tra2Noted (v : State) : (v.tra2Noted p cap pid).lp p =
    { v.lp p with peerFresh := (v.lp p).peerFresh || cap.getLsbD 1, tra2 := (v.lp p).tra2 + 1, asked := false } := by
  rw [State.tra2Noted, State.lp_modLp, State.lp_noteTra2]

theorem State.tra2_config (ok : traOk cap pid = true) (st : s.lst p = 3 ∨ s.lst p = 5) (sent : Bool) (v : State)
    (hv : v = if (s.lp p).asked = true then s.bertFail p 1 else s) :
    s.tra2 p cap pid sent = if 15 ≤ (v.lp p).tra2 ∧ sent = true then (v.tra2Noted p cap pid).toActive p else v.tra2Noted p cap pid := by
  subst hv
  refine (if_neg (by simp [ok])).trans ((if_neg (by omega)).trans ((if_pos st).trans ?_))
  generalize hv : (if (s.lp p).asked = true then s.bertFail p 1 else s) = v
  refine if_congr (and_congr_left' ?_) rfl rfl
  change 16 ≤ ((v.tra2Noted p cap pid).lp p).tra2 ↔ _
  rw [State.lp_tra2Noted]
  exact Nat.succ_le_succ_iff

theorem State.tra2_refused (ok : traOk cap pid = true) (st : s.lst p = 4) (asks : s.bertAsks p = true) (sent : Bool) :
    s.tra2 p cap pid sent = (s.modLp p fun l => { l with bert := false }).bertFail p 1 :=
  (if_neg (by simp [ok])).trans ((if_neg (by omega)).trans ((if_neg (by omega)).trans (if_pos ⟨st, asks⟩)))

theorem State.tra2_other (ok : traOk cap pid = true) (train : s.lst p ≠ 2) (config : ¬ (s.lst p = 3 ∨ s.lst p = 5)) (quiet : s.lst p ≠ 4 ∨ s.bertAsks p = false)
    (sent : Bool) : s.tra2 p cap pid sent = s :=
  (if_neg (by simp [ok])).trans ((if_neg train).trans ((if_neg config).trans (if_neg (by
    rintro ⟨st, asks⟩
    rcases quiet with h | h
    · exact h st
    · exact Bool.false_ne_true (h.symm.trans asks)))))

theorem State.bertAsks_iff : s.bertAsks p = true ↔ (s.lp p).bert = true ∧ ((s.lp p).replay = [] ∨ (s.lp p).bertAt + 8000 ≤ s.now) := by
  simp [State.bertAsks]

/-! ### To ACTIVE (R394, R396, R399) -/

/-- The link state on the entry to ACTIVE: from scratch, or the replay buffer to be sent again. -/
def State.linkEntry (s : State) (p : Ch) : State :=
  if (s.lp p).fresh || (s.lp p).peerFresh then s.linkFresh p else s.modLp p fun l => { l with again := l.replay.length }

/-- The port in ACTIVE, before its credits go out. -/
def State.linkIn (s : State) (p : Ch) : State :=
  ((s.linkEntry p).modLp p fun l => { l.retrained false with
      bucket := 1024 * 1600, bucketAt := (s.linkEntry p).now, unread := true, bert := (s.linkEntry p).bertRuns p, bertAt := (s.linkEntry p).now }).wr
    R.LNK_STATUS_STATE p.val 4

/-- The port in ACTIVE with its credits sent, before the entry is reported. -/
def State.linkReady (s : State) (p : Ch) : State := (((((s.linkIn p).sendCrd p 0).sendCrd p 1).sendCrd p 2).sendCrd p 3).showCredits p

theorem State.toActive_again (st : s.lst p ≠ 3) : s.toActive p = ((s.linkReady p).condSet (srcLnkDown p.val) false).linkEvent p.val true := by
  change (if decide (s.lst p = 3) = true then _ else (s.linkReady p).condSet (srcLnkDown p.val) false).linkEvent p.val true = _
  rw [if_neg (by simpa using st)]

theorem State.toActive_up (st : s.lst p = 3) : s.toActive p =
    ((((s.linkReady p).condSet (srcLnkDown p.val) false).wr R.LNK_IRQ_UP p.val 1).inc R.LNK_CNT_LINK_UPS p.val).linkEvent p.val true := by
  change (if decide (s.lst p = 3) = true then (((s.linkReady p).condSet (srcLnkDown p.val) false).wr R.LNK_IRQ_UP p.val 1).inc R.LNK_CNT_LINK_UPS p.val
    else _).linkEvent p.val true = _
  rw [if_pos (by simpa using st)]

theorem State.rd_sendCrd (s : State) (p : Ch) (v : Nat) (f : Fld) (i : Nat) : (s.sendCrd p v).rd f i = s.rd f i := rfl

theorem State.lp_transmit (s : State) (p : Ch) (y : Sym) : (s.transmit p y).lp p = (s.lp p).says p s.now y := State.lp_modLp _ _ _

theorem State.lp_sendCrd (s : State) (p : Ch) (v : Nat) : (s.sendCrd p v).lp p =
    { (s.lp p).says p s.now (.crd (linkWord (v * 2 ^ 10 + (s.lp p).cum.toList.getD v 0))) with
      crd := (s.lp p).crd.set! v ((s.lp p).cum.toList.getD v 0) } := by
  unfold State.sendCrd
  rw [State.lp_transmit, State.lp_modLp]
  rfl

theorem State.rd_linkReady (s : State) (p : Ch) {f : Fld} (shows : R.LNK_TXCRD_AVAIL.sep f = true) (st : R.LNK_STATUS_STATE.sep f = true) :
    (s.linkReady p).rd f p.val = (s.linkEntry p).rd f p.val := by
  unfold State.linkReady State.showCredits
  rw [State.rd_wr_sep _ _ _ _ _ shows, State.rd_sendCrd, State.rd_sendCrd, State.rd_sendCrd, State.rd_sendCrd, State.linkIn, State.rd_wr_sep _ _ _ _ _ st,
    State.rd_modLp]

theorem State.lst_linkReady (s : State) (p : Ch) : (s.linkReady p).lst p = 4 := by
  unfold State.linkReady State.showCredits State.lst
  rw [State.rd_wr_sep _ _ _ _ _ (by decide), State.rd_sendCrd, State.rd_sendCrd, State.rd_sendCrd, State.rd_sendCrd, State.linkIn]
  exact State.rd_wr_lt (by decide) (by decide) _ _

/-- The last of four credit symbols leaves all counts sent. -/
theorem Vector.set_all (c d : Vector Nat 4) : (((c.set! 0 (d.toList.getD 0 0)).set! 1 (d.toList.getD 1 0)).set! 2 (d.toList.getD 2 0)).set! 3
    (d.toList.getD 3 0) = d := by
  ext i hi
  interval_cases i <;> simp

/-- What sending credits changes of a port's record. -/
def LinkPort.credited (l : LinkPort) (c : Vector Nat 4) (tx : Option Sym) (line : List (BitVec 10)) (disp : Bool) : LinkPort :=
  { l with crd := c, tx := tx, line := line, disp := disp }

theorem LinkPort.says_field {α : Type} (g : LinkPort → α) (e : ∀ l c tx line disp, g (LinkPort.credited l c tx line disp) = g l) (l : LinkPort) (p : Ch) (now : Nat)
    (y : Sym) (c : Vector Nat 4) : g { l.says p now y with crd := c } = g l := e l c _ _ _

/-- The four credit symbols leave all else of the port's record. -/
theorem State.linkReady_field {α : Type} (g : LinkPort → α) (e : ∀ l c tx line disp, g (LinkPort.credited l c tx line disp) = g l) (s : State) (p : Ch) :
    g ((s.linkReady p).lp p) = g ((s.linkIn p).lp p) := by
  have one (t : State) (v : Nat) : g ((t.sendCrd p v).lp p) = g (t.lp p) := by
    rw [State.lp_sendCrd]
    exact LinkPort.says_field g e _ _ _ _ _
  unfold State.linkReady State.showCredits
  rw [State.lp_wr, one, one, one, one]

theorem State.cum_sendCrd (s : State) (p : Ch) (v : Nat) : ((s.sendCrd p v).lp p).cum = (s.lp p).cum := by
  rw [State.lp_sendCrd]
  rfl

theorem State.crd_sendCrd (s : State) (p : Ch) (v : Nat) : ((s.sendCrd p v).lp p).crd = (s.lp p).crd.set! v ((s.lp p).cum.toList.getD v 0) := by
  rw [State.lp_sendCrd]

theorem State.crd_linkReady (s : State) (p : Ch) : ((s.linkReady p).lp p).crd = ((s.linkReady p).lp p).cum := by
  unfold State.linkReady State.showCredits
  rw [State.lp_wr]
  simp only [State.crd_sendCrd, State.cum_sendCrd, Vector.set_all]

theorem State.lp_linkIn (s : State) (p : Ch) : (s.linkIn p).lp p = { ((s.linkEntry p).lp p).retrained false with
    bucket := 1024 * 1600, bucketAt := (s.linkEntry p).now, unread := true, bert := (s.linkEntry p).bertRuns p, bertAt := (s.linkEntry p).now } :=
  (State.lp_wr _ _ _ _ _).trans (State.lp_modLp _ _ _)

theorem State.linkEntry_frame (s : State) (p : Ch) : (s.linkEntry p).now = s.now ∧ (s.linkEntry p).bertRuns p = s.bertRuns p ∧
    ((s.linkEntry p).lp p).egress = (s.lp p).egress := by
  unfold State.linkEntry State.linkFresh
  split
  · exact ⟨rfl, rfl, by rw [State.lp_wrs, State.lp_modLp]⟩
  · exact ⟨rfl, rfl, by rw [State.lp_modLp]⟩

/-- The rest of the port's record is that of the entry. -/
theorem State.linkReady_entry {α : Type} (g : LinkPort → α) (e : ∀ l c tx line disp, g (LinkPort.credited l c tx line disp) = g l)
    (k : ∀ (l : LinkPort) b c, g { l.retrained false with bucket := 1024 * 1600, bucketAt := b, unread := true, bert := c, bertAt := b } = g l)
    (s : State) (p : Ch) : g ((s.linkReady p).lp p) = g ((s.linkEntry p).lp p) := by rw [State.linkReady_field g e, State.lp_linkIn, k]

theorem State.lp_linkFresh (s : State) (p : Ch) : (s.linkFresh p).lp p =
    { s.lp p with replay := [], again := 0, stuck := false, nak := false, cum := LinkPort.reset.cum, crd := LinkPort.reset.crd,
                  got := LinkPort.reset.got, sent := LinkPort.reset.sent } := by
  rw [State.linkFresh, State.lp_wrs, State.lp_modLp]

theorem State.linkEntry_fresh (fresh : (s.lp p).fresh = true ∨ (s.lp p).peerFresh = true) : s.linkEntry p = s.linkFresh p := if_pos (by simp [fresh])

theorem State.linkEntry_kept (fresh : (s.lp p).fresh = false) (peer : (s.lp p).peerFresh = false) :
    s.linkEntry p = s.modLp p fun l => { l with again := l.replay.length } := if_neg (by simp [fresh, peer])

end

/-- Settles O38, by the state of the port in which each training set comes. -/
theorem linkTrainingSets : Obligations.LinkTrainingSets := by
  unfold Obligations.LinkTrainingSets
  intro p s up
  refine ⟨fun cap pid sent bad => ?_, fun cap pid sent ok st => ⟨?_, ?_⟩, fun cap pid ok st => ?_, fun cap pid ok st plain => ?_,
    fun cap pid ok st asks bert => ?_, fun cap pid sent ok st asks => ?_, State.bertAsks_iff, fun cap pid ok st bert => ?_, fun cap pid ok st bert => ?_,
    fun cap pid sent ok st => ?_, fun cap pid sent ok st v hv => ?_, fun cap pid sent ok st => ?_, ?_⟩
  case refine_1 =>
    exact ⟨_, up.next (State.tra1_bad bad), up.next (State.tra2_bad bad sent), State.lp_modLp _ _ _, (OnlyPort.refl p [] s).modLp _⟩
  case refine_2 =>
    have tra : ((s.noteTra1 p cap pid).lp p).tra = (s.lp p).tra := by rw [State.lp_noteTra1]
    refine ⟨_, up.next (State.tra1_train ok st), State.symlock_trainSet _ p, ?_, ?_, fun few => ?_, ?_, (OnlyPort.noteTra1 (by simp)).trainSet (by simp) (by simp)⟩
    · rw [State.rd_trainSet _ _ (by decide) (by decide), State.pid_noteTra1 ok]
    · rw [State.lst_trainSet (State.lst_noteTra1.trans st), tra]
    · rw [State.tra_trainSet (by omega), tra]
    · rw [State.peerFresh_trainSet, State.lp_noteTra1]
  case refine_3 =>
    have tra : ((s.noteTra2 p cap pid).lp p).tra = (s.lp p).tra := by rw [State.lp_noteTra2]
    refine ⟨_, up.next (State.tra2_train ok st sent), State.symlock_trainSet _ p, ?_, ?_, fun few => ?_, (OnlyPort.noteTra2 (by simp)).trainSet (by simp) (by simp)⟩
    · rw [State.rd_trainSet _ _ (by decide) (by decide), State.pid_noteTra2 ok]
    · rw [State.lst_trainSet (State.lst_noteTra2.trans st), tra]
    · rw [State.tra_trainSet (by omega), tra]
  case refine_4 =>
    refine ⟨_, up.next (State.tra1_config ok st), ?_, ?_, ?_, ?_⟩
    · rw [apply_ite (fun t : State => t.lst p)]
      exact if_congr Iff.rfl (State.rd_wr_lt (by decide) (by decide) _ _) State.lst_noteTra1
    · rw [apply_ite (fun t : State => t.rd R.LNK_STATUS_PEER_PID p.val), State.rd_wr_sep _ _ _ _ _ (by decide), ite_self, State.pid_noteTra1 ok]
    · rw [apply_ite (fun t : State => t.lp p), State.lp_wr, ite_self, State.lp_noteTra1]
    · split
      · exact (OnlyPort.noteTra1 (by simp)).wr _ _ _ (by decide) (by simp)
      · exact OnlyPort.noteTra1 (by simp)
  case refine_5 => exact up.next (State.tra1_active ok st plain)
  case refine_6 =>
    exact ⟨_, State.rd_wr_lt (by decide) (by decide) _ _, (State.lp_wr _ _ _ _ _).trans (State.lp_modLp _ _ _), up.next (State.tra1_bert ok st asks bert),
      ((OnlyPort.refl p _ s).modLp _).wr _ _ _ (by decide) (by simp)⟩
  case refine_7 => exact up.next (State.tra2_refused ok st asks sent)
  case refine_8 => exact up.next ((State.tra1_loop ok st).trans (if_pos bert))
  case refine_9 => exact up.next ((State.tra1_loop ok st).trans (if_neg (fun h => Bool.false_ne_true (bert.symm.trans h))))
  case refine_10 => exact ⟨up.next (State.tra1_other ok st), up.next (State.tra2_other ok (by omega) (by omega) (.inl (by omega)) sent)⟩
  case refine_11 =>
    have run := State.tra2_config (pid := pid) ok st sent v hv
    refine ⟨v.tra2Noted p cap pid, State.pid_noteTra2 ok, State.lp_tra2Noted v, (OnlyPort.noteTra2 (by simp)).modLp _,
      fun few => up.next (run.trans (if_neg ?_)), fun many full => up.next (run.trans (if_pos ⟨many, full⟩))⟩
    rintro ⟨many, full⟩
    rcases few with few | few
    · omega
    · exact Bool.false_ne_true (few.symm.trans full)
  case refine_12 =>
    refine up.next (State.tra2_other ok (by omega) (by omega) ?_ sent)
    rcases st with ⟨-, quiet⟩ | st
    · exact .inr quiet
    · exact .inl (by omega)
  case refine_13 =>
    obtain ⟨clock, runs, egress⟩ := State.linkEntry_frame s p
    refine ⟨s.linkReady p, s.lst_linkReady p, ?_, s.crd_linkReady p, ?_, ?_, ?_, State.toActive_again, State.toActive_up, fun fresh => ?_,
      fun fresh peer => ?_⟩
    · rw [State.linkReady_field (·.unread) fun _ _ _ _ _ => rfl, State.lp_linkIn]
    · rw [State.linkReady_entry (·.egress) (fun _ _ _ _ _ => rfl) fun _ _ _ => rfl, egress]
    · rw [State.linkReady_field (·.bert) fun _ _ _ _ _ => rfl, State.lp_linkIn, runs]
    · rw [State.linkReady_field (·.bertAt) fun _ _ _ _ _ => rfl, State.lp_linkIn, clock]
    · rw [State.linkReady_entry (·.replay) (fun _ _ _ _ _ => rfl) fun _ _ _ => rfl, State.linkReady_entry (·.nak) (fun _ _ _ _ _ => rfl) fun _ _ _ => rfl,
        State.linkReady_entry (·.cum) (fun _ _ _ _ _ => rfl) fun _ _ _ => rfl, State.linkReady_entry (·.got) (fun _ _ _ _ _ => rfl) fun _ _ _ => rfl,
        State.linkReady_entry (·.sent) (fun _ _ _ _ _ => rfl) fun _ _ _ => rfl, s.rd_linkReady p (by decide) (by decide),
        s.rd_linkReady p (by decide) (by decide), s.rd_linkReady p (by decide) (by decide), State.linkEntry_fresh fresh, State.lp_linkFresh]
      refine ⟨rfl, rfl, rfl, rfl, rfl, ?_, ?_, ?_⟩
      all_goals simp (disch := decide) only [State.linkFresh, State.wrs, State.rd_wr_sep, State.rd_wr_lt]
    · rw [State.linkReady_entry (·.replay) (fun _ _ _ _ _ => rfl) fun _ _ _ => rfl, State.linkReady_entry (·.again) (fun _ _ _ _ _ => rfl) fun _ _ _ => rfl,
        State.linkReady_entry (·.cum) (fun _ _ _ _ _ => rfl) fun _ _ _ => rfl, State.linkReady_entry (·.got) (fun _ _ _ _ _ => rfl) fun _ _ _ => rfl,
        s.rd_linkReady p (by decide) (by decide), s.rd_linkReady p (by decide) (by decide), State.linkEntry_kept fresh peer, State.lp_modLp]
      exact ⟨rfl, rfl, rfl, rfl, rfl, rfl⟩

end Sys2Proof.Machine

/-! SUPPORT. O39: the packets and symbols of a link port. -/

namespace Sys2Proof.Machine

/-! ### What the NET engine sends reaches its own records and those of the controllers alone -/

/-- `P` does not look at the records of the CAN controllers and of the NET engine. -/
structure NetFree (P : State → Prop) : Prop where
  records {s : State} (c : Vector Can 2) (n : Net) (k : Nat) (h : P s) : P { s with can := c, net := n, free := k }

section
variable {P : State → Prop} (hP : NetFree P) {s : State}
include hP

theorem State.canNext_free (m : Fin 2) (h : P s) : P (s.canNext m) := by
  unfold State.canNext
  exact ite_keeps (hP.records _ s.net s.free h) h

theorem State.canRepick_free (m : Fin 2) (b : Bool) (h : P s) : P (s.canRepick m b) := by
  unfold State.canRepick
  exact ite_keeps (State.canNext_free hP m h) (State.canNext_free hP m (hP.records _ s.net s.free h))

theorem State.canSend_free (m : Fin 2) (f : CanFrame) (h : P s) : P (s.canSend m f) :=
  State.canRepick_free hP m _ (show P { s with can := _, net := s.net, free := s.free + 1 } from hP.records _ s.net _ h)

theorem State.netSend_free (f : CanFrame) (h : P s) : P (s.netSend f) := by
  unfold State.netSend
  split
  · exact State.canSend_free hP _ f h
  · exact h

theorem State.sendCm_free (e : Bool) (da : Nat) (d : List (BitVec 8)) (h : P s) : P (s.sendCm e da d) := State.netSend_free hP _ h

theorem State.modSs_free (i : Ch) (g : Sess → Sess) (h : P s) : P (s.modSs i g) := hP.records s.can _ s.free h

theorem State.sessStart_free (i : Ch) (kind da pgn len : Nat) (gate : Bool) (h : P s) : P (s.sessStart i kind da pgn len gate) := by
  unfold State.sessStart
  extract_lets u x
  have hu : P u := State.modSs_free hP i _ h
  clear_value u
  exact ite_keeps (State.sendCm_free hP _ _ _ hu) (ite_keeps (State.sendCm_free hP _ _ _ hu) (State.sendCm_free hP _ _ _ hu))

theorem State.gwFlush_free (h : P s) : P s.gwFlush := by
  refine foldl_keeps (fun t i ht => ?_) sessions h
  split
  · exact ht
  · exact ite_keeps (State.sessStart_free hP _ _ _ _ _ _ (State.modSs_free hP _ _ (hP.records t.can _ t.free ht))) ht

theorem State.gwSend_free (sa : Nat) (sess : Bool) (d : List (BitVec 8)) (h : P s) : P (s.gwSend sa sess d) := by
  unfold State.gwSend
  exact ite_keeps (State.gwFlush_free hP (hP.records s.can _ s.free h)) (State.netSend_free hP _ h)

theorem State.gwAnswer_free (sa : Nat) (hdr : Word) (sess : Bool) (status : Nat) (data : List Word) (h : P s) : P (s.gwAnswer sa hdr sess status data) := by
  unfold State.gwAnswer
  exact ite_keeps (State.gwSend_free hP _ _ _ h) h

end

/-! ### What a change of the held record reaches beside it (R427 to R429, R444) -/

/-- `P` looks neither at a register, nor at the record of Canopy time, nor at the fabric's record but for the held one, nor at what a raise
reaches. -/
structure RootFree (P : State → Prop) : Prop where
  settles : Settles P
  wr {s : State} (f : Fld) (i v : Nat) (h : P s) : P (s.wr f i v)
  tsy {s : State} (x : Tsy) (h : P s) : P { s with tsy := x }
  fab {s : State} (x : Fab) (e : x.held = s.fab.held) (h : P s) : P { s with fab := x }

section
variable {P : State → Prop} (hP : RootFree P) {s : State}
include hP

theorem RootFree.wrs (i : Nat) (q : List (Fld × Nat)) (h : P s) : P (s.wrs i q) := by
  induction q generalizing s with
  | nil => exact h
  | cons e q ih => exact ih (hP.wr e.1 i e.2 h)

theorem State.showRoot_free (h : P s) : P s.showRoot := by
  unfold State.showRoot
  split <;> exact hP.wrs _ _ h

theorem State.stepDown_free (h : P s) : P s.stepDown := by
  unfold State.stepDown State.reenumLost
  extract_lets part v
  have kept : P (v.wrs 0 [(R.FAB_STATUS_ENUM_BUSY, 0), (R.FAB_PRESENT, 0)]) := hP.wrs _ _ (hP.fab _ rfl h)
  generalize v.wrs 0 [(R.FAB_STATUS_ENUM_BUSY, 0), (R.FAB_PRESENT, 0)] = w at kept
  split
  · exact kept
  · exact State.jobFail_keeps hP.settles (State.setJob_keeps hP.settles kept)

theorem State.lockRise_free (h : P s) : P s.lockRise := by
  unfold State.lockRise
  extract_lets v part
  have kept : P v := hP.wrs _ _ h
  clear_value v
  exact ite_keeps h (State.condSet_keeps hP.settles (hP.tsy _ kept))

theorem State.lockFall_free (h : P s) : P s.lockFall := by
  unfold State.lockFall
  extract_lets part v
  have kept : P v := hP.tsy _ h
  clear_value v
  exact ite_keeps (State.condSet_keeps hP.settles (hP.wrs _ _ kept)) kept

theorem State.timeSource_free (h : P s) : P s.timeSource := by
  unfold State.timeSource
  extract_lets up was part v
  have kept : P v := ite_keeps (hP.tsy _ h) h
  clear_value v up
  refine ite_keeps (State.lockRise_free hP (hP.wrs _ _ kept)) ?_
  split
  · exact hP.wrs _ _ kept
  · exact State.lockFall_free hP (hP.wrs _ _ kept)

theorem State.sendBeacons_free (h : P s) : P s.sendBeacons := by
  unfold State.sendBeacons
  split
  · exact h
  · exact foldl_keeps (fun _ _ ht => ite_keeps (State.send_keeps hP.settles ht) ht) _ h

theorem State.setHeld_free (r : Option RootRec) (h : P { s with fab.held := r }) : P (s.setHeld r) := by
  unfold State.setHeld
  extract_lets old was part v w oldE newE x y z
  have hv : P v := State.showRoot_free hP h
  clear_value v
  have hw : P w := ite_keeps (State.stepDown_free hP hv) hv
  clear_value w
  have hx : P x := ite_keeps (hP.wr _ _ _ hw) hw
  clear_value x
  have hy : P y := ite_keeps (State.condSet_keeps hP.settles (hP.wr _ _ _ hx)) (ite_keeps (State.condSet_keeps hP.settles hx) hx)
  clear_value y
  have hz : P z := State.timeSource_free hP hy
  clear_value z
  exact ite_keeps (State.sendBeacons_free hP hz) hz

end

/-- The record that is held is the one set. -/
theorem held_rootFree (r : Option RootRec) : RootFree fun t => t.fab.held = r where
  settles := {
    word := fun _ _ _ h => h
    same := fun s t _ k h => (show t.still.fab.held = s.still.fab.held by rw [k]).trans h }
  wr _ _ _ h := h
  tsy _ h := h
  fab _ e h := e.trans h

theorem State.held_setHeld (s : State) (r : Option RootRec) : (s.setHeld r).fab.held = r := State.setHeld_free (held_rootFree r) r rfl

section
variable {s t : State} {p q : Ch} {l : List (Nat × Word)}

/-! ### What the end of a link keeps of the records of the ports -/

/-- The records of the ports are kept, but for what a raise and the fabric reach of them. -/
def LinksKept (s t : State) : Prop := t.still.link = s.still.link

theorem settles_links (s : State) : Settles (LinksKept s) where
  word _ _ _ h := h
  same _ _ _ k h := (congrArg State.link k).trans h

theorem LinksKept.nak (h : LinksKept s t) (p : Ch) : (t.lp p).nak = (s.lp p).nak := by
  have part (u : State) : u.still.lp p = (u.lp p).still := Vector.getElem_map LinkPort.still p.isLt
  have kept : t.still.lp p = s.still.lp p := congrArg (fun v : Vector LinkPort 4 => v.get p) h
  rw [part, part] at kept
  exact show (t.lp p).still.nak = (s.lp p).still.nak by rw [kept]

theorem LinksKept.wr {u : State} (h : LinksKept s u) (f : Fld) (i v : Nat) : LinksKept s (u.wr f i v) := h

theorem LinksKept.wrs {u : State} (h : LinksKept s u) (i : Nat) (q : List (Fld × Nat)) : LinksKept s (u.wrs i q) := by
  induction q generalizing u with
  | nil => exact h
  | cons e q ih => exact ih (h.wr e.1 i e.2)

theorem LinksKept.inc {u : State} (h : LinksKept s u) (f : Fld) (i : Nat) : LinksKept s (u.inc f i) := ite_keeps h h

theorem linksKept_rootFree (s : State) : RootFree (LinksKept s) where
  settles := settles_links s
  wr _ _ _ h := h
  tsy _ h := h
  fab _ _ h := h

theorem linksKept_netFree (s : State) : NetFree (LinksKept s) where
  records _ _ _ h := h

theorem LinksKept.gwDone {u : State} (h : LinksKept s u) (q : GwReq) (status : Nat) (data : List Word) : LinksKept s (u.gwDone q status data) := by
  unfold State.gwDone
  exact State.gwAnswer_free (linksKept_netFree s) _ _ _ _ _ ((LinksKept.inc (by exact h) _ _).wr _ _ _)

theorem LinksKept.complete {u : State} (h : LinksKept s u) (t status : Nat) (own : Bool) (route : Word) (data : List Word) :
    LinksKept s (u.complete t status own route data) := by
  unfold State.complete
  extract_lets x freed counted
  have free : LinksKept s freed := h
  clear_value freed
  have kept : LinksKept s counted := ite_keeps (free.inc _ _) (ite_keeps (free.inc _ _) free)
  clear_value counted
  split
  · exact kept
  · exact (kept.wrs _ _).wrs _ _
  · exact dite_keeps (fun _ => State.grvEvent_keeps (settles_links s) kept) fun _ => kept
  · exact kept
  · split
    · exact kept.gwDone _ _ _
    · exact kept

theorem LinksKept.noRoute {u : State} (h : LinksKept s u) (f : Nat → Bool) : LinksKept s (u.noRoute f) :=
  foldl_keeps (fun _ _ ht => ite_keeps (ht.complete _ _ _ _ _) ht) _ h

/-- The end of a link keeps what the ports hold but for what waits to be sent. -/
theorem LinksKept.leaveActive {u : State} (h : LinksKept s u) (p : Ch) : LinksKept s (u.leaveActive p) := by
  unfold State.leaveActive State.rootExpire State.pickRoot
  extract_lets v
  have kept : LinksKept s v := h.noRoute _
  clear_value v
  split
  · refine ite_keeps ?_ kept
    split
    · exact State.setHeld_free (linksKept_rootFree s) _ (by exact kept)
    · exact kept
  · exact kept

theorem LinksKept.raise {u : State} (h : LinksKept s u) (i : Nat) : LinksKept s (u.raise i 0) := State.raise_keeps (settles_links s) h

/-- A code error in ACTIVE leaves an outstanding NAK outstanding. -/
theorem State.nak_codeError (active : s.lst p = 4) (pos : Nat) : ((s.codeError p pos).lp p).nak = (s.lp p).nak := by
  have counted := (s.lst_codeCounted p).trans active
  rcases Nat.lt_or_ge (s.errsNear p pos).length 3 with few | many
  · rw [State.codeError_active active pos few, State.lp_modLp, State.lp_codeCounted]
  · have kept : LinksKept ((s.codeCounted p).retraining p) ((((s.codeCounted p).retraining p).raise (srcLnkErr p.val) 0).leaveActive p) :=
      LinksKept.leaveActive (LinksKept.raise rfl _) p
    rw [State.codeError_retrains active pos many, State.toRetrain_active counted, kept.nak, State.lp_retraining, State.lp_codeCounted]
    rfl

/-! ### A packet that comes in (R397, R415) -/

section
variable {w : BitVec 16} {ws : List Word} {clean : Bool} {pos : Nat}

/-- What follows a packet that is not accepted: it counts, a duplicate is acknowledged again, any other one is answered once with NAK. -/
def State.packetBad (s : State) (p : Ch) (again : Bool) : State :=
  if again then (s.inc R.LNK_CNT_ERR_PKT p.val).modLp p fun l => { l with ackDue := true }
  else if ((s.inc R.LNK_CNT_ERR_PKT p.val).lp p).nak then s.inc R.LNK_CNT_ERR_PKT p.val
  else (s.inc R.LNK_CNT_ERR_PKT p.val).modLp p fun l => { l with nak := true, nakDue := true }

/-- The packet with the expected SEQ is taken. -/
def State.packetTaken (s : State) (p : Ch) : State :=
  (s.wr R.LNK_SEQ_EXP_RX p.val (s.rd R.LNK_SEQ_EXP_RX p.val + 1)).modLp p fun l => { l with nak := false, nakDue := false, ackDue := true }

theorem State.packetIn_down (st : s.lst p ≠ 4) (abort : Bool) : s.packetIn p clean abort w ws pos = s := if_pos st

theorem State.packetIn_aborts (st : s.lst p = 4) (ok : linkWordOk w = true) (next : w.toNat / 16 = s.rd R.LNK_SEQ_EXP_RX p.val) :
    s.packetIn p clean true w ws pos = s.cutThrough p ws := (if_neg (by simp [st])).trans ((if_pos rfl).trans (if_pos ⟨ok, next⟩))

theorem State.packetIn_abort_other (other : linkWordOk w = false ∨ w.toNat / 16 ≠ s.rd R.LNK_SEQ_EXP_RX p.val) :
    s.packetIn p clean true w ws pos = s := by
  by_cases st : s.lst p = 4
  · refine (if_neg (by simp [st])).trans ((if_pos rfl).trans (if_neg ?_))
    rintro ⟨ok, next⟩
    rcases other with h | h
    · exact Bool.false_ne_true (h.symm.trans ok)
    · exact h next
  · exact State.packetIn_down st true

theorem State.packetIn_taken {k : Pkt} (st : s.lst p = 4) (ok : linkWordOk w = true) (next : w.toNat / 16 = s.rd R.LNK_SEQ_EXP_RX p.val)
    (pkt : pktOfWords ws = some k) : s.packetIn p true false w ws pos = (s.packetTaken p).route p.val k := by
  simp only [State.packetIn, st, ok, next, pkt, ne_eq, not_true_eq_false, if_false, if_true, Bool.false_eq_true, Bool.true_and, beq_self_eq_true]
  rfl

/-- A packet with a good LSEQ that is not accepted, on the state in which its copies have ended. -/
theorem State.packetIn_bad (st : s.lst p = 4) (ok : linkWordOk w = true)
    (bad : w.toNat / 16 = s.rd R.LNK_SEQ_EXP_RX p.val → clean = false ∨ pktOfWords ws = none) :
    s.packetIn p clean false w ws pos = (if w.toNat / 16 = s.rd R.LNK_SEQ_EXP_RX p.val then s.cutThrough p ws else s).packetBad p
      (decide ((s.rd R.LNK_SEQ_EXP_RX p.val + 4095 - w.toNat / 16) % 4096 < 32)) := by
  have none' : (if clean && linkWordOk w && w.toNat / 16 == s.rd R.LNK_SEQ_EXP_RX p.val then pktOfWords ws else none) = none := by
    by_cases next : w.toNat / 16 = s.rd R.LNK_SEQ_EXP_RX p.val
    · rcases bad next with h | h <;> simp [h]
    · simp [next]
  simp only [State.packetIn, st, ok, ne_eq, not_true_eq_false, if_false, if_true, Bool.false_eq_true, Bool.true_and] at none' ⊢
  simp only [none', beq_iff_eq]
  rfl

/-- A packet whose LSEQ has a bad CHK is a code error first. -/
theorem State.packetIn_garbled (st : s.lst p = 4) (bad : linkWordOk w = false) (still : (s.codeError p pos).lst p = 4) :
    s.packetIn p clean false w ws pos = (s.codeError p pos).packetBad p false := by
  simp only [State.packetIn, st, bad, ne_eq, not_true_eq_false, if_false, Bool.false_eq_true, Bool.false_and, Bool.and_false, still]
  rfl

theorem State.packetIn_garbled_down (st : s.lst p = 4) (bad : linkWordOk w = false) (down : (s.codeError p pos).lst p ≠ 4) :
    s.packetIn p clean false w ws pos = s.codeError p pos := by
  simp only [State.packetIn, st, bad, ne_eq, not_true_eq_false, if_false, Bool.false_eq_true, down, not_false_eq_true, if_true]

theorem State.count_packetBad (s : State) (p : Ch) (again : Bool) :
    (s.packetBad p again).rd R.LNK_CNT_ERR_PKT p.val = min (s.rd R.LNK_CNT_ERR_PKT p.val + 1) 0xFFFF := by
  have count : (s.inc R.LNK_CNT_ERR_PKT p.val).rd R.LNK_CNT_ERR_PKT p.val = min (s.rd R.LNK_CNT_ERR_PKT p.val + 1) 0xFFFF := State.rd_inc (by decide) s p.val
  exact ite_keeps (P := fun t => t.rd R.LNK_CNT_ERR_PKT p.val = min (s.rd R.LNK_CNT_ERR_PKT p.val + 1) 0xFFFF) count (ite_keeps (P := fun t => t.rd R.LNK_CNT_ERR_PKT p.val = min (s.rd R.LNK_CNT_ERR_PKT p.val + 1) 0xFFFF) count count)

theorem State.lp_packetBad_again (s : State) (p : Ch) : (s.packetBad p true).lp p = { s.lp p with ackDue := true } := by
  rw [State.packetBad, if_pos rfl, State.lp_modLp, State.lp_inc]

theorem State.lp_packetBad_other (s : State) (p : Ch) :
    (s.packetBad p false).lp p = if (s.lp p).nak = true then s.lp p else { s.lp p with nak := true, nakDue := true } := by
  rw [State.packetBad, if_neg Bool.false_ne_true, apply_ite (fun t : State => t.lp p), State.lp_modLp, State.lp_inc]

theorem OnlyPort.packetBad (s : State) (p : Ch) (again : Bool) : OnlyPort p [R.LNK_CNT_ERR_PKT.at p.val] s (s.packetBad p again) := by
  have one : OnlyPort p [R.LNK_CNT_ERR_PKT.at p.val] s (s.inc R.LNK_CNT_ERR_PKT p.val) := (OnlyPort.refl p _ s).inc _ _ (by decide) (by simp)
  exact ite_keeps (one.modLp _) (ite_keeps one (one.modLp _))

theorem State.rd_packetTaken (s : State) (p : Ch) : (s.packetTaken p).rd R.LNK_SEQ_EXP_RX p.val = (s.rd R.LNK_SEQ_EXP_RX p.val + 1) % 4096 :=
  State.rd_wr s R.LNK_SEQ_EXP_RX p.val (s.rd R.LNK_SEQ_EXP_RX p.val + 1) (by decide)

end

/-! ### The copies of a bad packet (R415) -/

theorem State.cutOut_sends {k : Pkt} (cuts : s.cutsIn q k = true) (ing : Nat) : s.cutOut q ing k =
    (s.modLp q fun l => { l with
        turn := l.turn.set! k.vc ing, bucket := if k.vc = 3 then s.tokens q - k.bytes * 1600 else l.bucket,
        bucketAt := if k.vc = 3 then s.now else l.bucketAt }).transmit q (.abort (linkWord (s.rd R.LNK_SEQ_NEXT_TX q.val)) k.body) := if_pos cuts

theorem LinkPort.says_turn (l : LinkPort) (p : Ch) (now : Nat) (y : Sym) (turn : Vector Nat 4) (b c : Nat) :
    { l with turn := turn, bucket := b, bucketAt := c }.says p now y = { l.says p now y with turn := turn, bucket := b, bucketAt := c } := rfl

theorem State.now_modLp (s : State) (p : Ch) (g : LinkPort → LinkPort) : (s.modLp p g).now = s.now := rfl

theorem State.lp_cutOut {k : Pkt} (cuts : s.cutsIn q k = true) (ing : Nat) : (s.cutOut q ing k).lp q =
    { ((s.lp q).says q s.now (.abort (linkWord (s.rd R.LNK_SEQ_NEXT_TX q.val)) k.body)) with
      turn := (s.lp q).turn.set! k.vc ing, bucket := if k.vc = 3 then s.tokens q - k.bytes * 1600 else (s.lp q).bucket,
      bucketAt := if k.vc = 3 then s.now else (s.lp q).bucketAt } := by
  rw [State.cutOut_sends cuts, State.lp_transmit, State.lp_modLp, State.now_modLp, LinkPort.says_turn]

theorem OnlyPort.transmit (h : OnlyPort p l s t) (y : Sym) : OnlyPort p l s (t.transmit p y) := h.modLp _

theorem OnlyPort.cutOut {k : Pkt} (cuts : s.cutsIn q k = true) (ing : Nat) : OnlyPort q [] s (s.cutOut q ing k) := by
  rw [State.cutOut_sends cuts]
  exact ((OnlyPort.refl q [] s).modLp _).transmit _

/-- What a copy that ends leaves: all but the records of the ports, and of those the buffers and the credits. -/
def CopiesKept (s t : State) : Prop :=
  { t with link := s.link } = s ∧ ∀ q, (t.lp q).replay = (s.lp q).replay ∧ (t.lp q).egress = (s.lp q).egress ∧ (t.lp q).sent = (s.lp q).sent

theorem CopiesKept.cutOut (h : CopiesKept s t) (r : Ch) (ing : Nat) (k : Pkt) : CopiesKept s (t.cutOut r ing k) := by
  by_cases cuts : t.cutsIn r k = true
  · obtain ⟨frame, ports⟩ := h
    refine ⟨?_, fun q => ?_⟩
    · rw [State.cutOut_sends cuts]
      exact frame
    · by_cases same : q = r
      · subst same
        rw [State.lp_cutOut cuts]
        exact ports q
      · rw [(OnlyPort.cutOut cuts ing).2 q same]
        exact ports q
  · rw [State.cutOut, if_neg cuts]
    exact h

theorem CopiesKept.cutThrough (s : State) (p : Ch) (ws : List Word) : CopiesKept s (s.cutThrough p ws) := by
  have same : CopiesKept s s := ⟨rfl, fun _ => ⟨rfl, rfl, rfl⟩⟩
  unfold State.cutThrough
  split
  · exact same
  · split
    · exact foldl_keeps (fun t e ht => dite_keeps (fun _ => ht.cutOut _ _ _) fun _ => ht) _ same
    · exact same

/-! ### Acknowledgements and the replay buffer (R397, R398) -/

theorem dropWhile_ne {a b : List (Nat × Pkt)} {n : Nat} {k : Pkt} (before : ∀ e ∈ a, e.1 ≠ n) :
    ((a ++ (n, k) :: b).dropWhile fun e => e.1 != n).drop 1 = b := by
  rw [List.dropWhile_append_of_pos (by simpa using before)]
  simp

theorem State.ackTo_frees {a b : List (Nat × Pkt)} {n : Nat} {k : Pkt} (replay : (s.lp p).replay = a ++ (n, k) :: b) (before : ∀ e ∈ a, e.1 ≠ n) :
    s.ackTo p n = ((s.modLp p fun l => { l with replay := b, again := min l.again b.length, stuck := false }).wr R.LNK_REPLAY_STALLED p.val 0).showReplay p := by
  refine (if_pos (by rw [replay]; simp)).trans ?_
  rw [replay, dropWhile_ne before]
  rfl

theorem State.ackTo_unknown {n : Nat} (unknown : ∀ e ∈ (s.lp p).replay, e.1 ≠ n) : s.ackTo p n = s :=
  if_neg (by simpa using fun k (mem : (n, k) ∈ (s.lp p).replay) => unknown _ mem rfl)

theorem State.lp_ackTo {a b : List (Nat × Pkt)} {n : Nat} {k : Pkt} (replay : (s.lp p).replay = a ++ (n, k) :: b) (before : ∀ e ∈ a, e.1 ≠ n) :
    (s.ackTo p n).lp p = { s.lp p with replay := b, again := min (s.lp p).again b.length, stuck := false } := by
  rw [State.ackTo_frees replay before, State.showReplay, State.lp_wr, State.lp_wr, State.lp_modLp]

theorem State.stalled_ackTo {a b : List (Nat × Pkt)} {n : Nat} {k : Pkt} (replay : (s.lp p).replay = a ++ (n, k) :: b) (before : ∀ e ∈ a, e.1 ≠ n) :
    (s.ackTo p n).rd R.LNK_REPLAY_STALLED p.val = 0 := by
  rw [State.ackTo_frees replay before, State.showReplay, State.rd_wr_sep _ _ _ _ _ (by decide)]
  exact State.rd_wr_lt (by decide) (by decide) _ _

theorem State.rd_ackTo (s : State) (p : Ch) (n : Nat) {f : Fld} (stalled : R.LNK_REPLAY_STALLED.sep f = true) (unacked : R.LNK_REPLAY_UNACKED.sep f = true) :
    (s.ackTo p n).rd f p.val = s.rd f p.val := by
  unfold State.ackTo
  extract_lets l r
  split
  · rw [State.showReplay, State.rd_wr_sep _ _ _ _ _ unacked, State.rd_wr_sep _ _ _ _ _ stalled]
    rfl
  · rfl

theorem OnlyPort.ackTo {a b : List (Nat × Pkt)} {n : Nat} {k : Pkt} (h : OnlyPort p l s t) (replay : (t.lp p).replay = a ++ (n, k) :: b)
    (before : ∀ e ∈ a, e.1 ≠ n) (stalled : R.LNK_REPLAY_STALLED.at p.val ∈ l) (unacked : R.LNK_REPLAY_UNACKED.at p.val ∈ l) :
    OnlyPort p l s (t.ackTo p n) := by
  rw [State.ackTo_frees replay before]
  exact ((h.modLp _).wr _ _ _ (by decide) stalled).wr _ _ _ (by decide) unacked

theorem State.symbol_good {w : BitVec 16} {pos : Nat} {f : State → State} (st : s.lst p = 4) (ok : linkWordOk w = true) : s.symbol p w pos f = f s :=
  (if_neg (by simp [st])).trans (if_pos ok)

theorem State.symbol_bad {w : BitVec 16} {pos : Nat} {f : State → State} (st : s.lst p = 4) (bad : linkWordOk w = false) :
    s.symbol p w pos f = s.codeError p pos := (if_neg (by simp [st])).trans (if_neg (by simp [bad]))

theorem State.symbol_down {w : BitVec 16} {pos : Nat} {f : State → State} (st : s.lst p ≠ 4) : s.symbol p w pos f = s := if_pos st

/-- A CRD symbol gives the count of its VC. -/
def State.creditIn (s : State) (p : Ch) (w : BitVec 16) : State :=
  (s.modLp p fun l => { l with got := l.got.set! (w.toNat / 2 ^ 14) (w.toNat / 16 % 1024) }).showCredits p

theorem State.got_creditIn (s : State) (p : Ch) (w : BitVec 16) :
    ((s.creditIn p w).lp p).got.toList = (s.lp p).got.toList.set (w.toNat / 2 ^ 14) (w.toNat / 16 % 1024) := by
  unfold State.creditIn State.showCredits
  rw [State.lp_wr, State.lp_modLp]
  simp

theorem OnlyPort.creditIn (s : State) (p : Ch) (w : BitVec 16) : OnlyPort p [R.LNK_TXCRD_AVAIL.at p.val] s (s.creditIn p w) :=
  ((OnlyPort.refl p _ s).modLp _).wr _ _ _ (by decide) (by simp)

/-! ### Replay (R394, R398) -/

/-- The replay of the whole buffer, in state `s` whose counter of stalls is set. -/
def State.replayAll (s : State) (p : Ch) : State :=
  (s.modLp p fun l => { l with again := l.replay.length, stuck := true }).inc R.LNK_CNT_RETRY_REPLAY p.val

theorem State.rd_replayAll (s : State) (p : Ch) {f : Fld} (apart : R.LNK_CNT_RETRY_REPLAY.sep f = true) : (s.replayAll p).rd f p.val = s.rd f p.val :=
  State.rd_inc_sep apart _ _

theorem State.lp_replayAll (s : State) (p : Ch) : (s.replayAll p).lp p = { s.lp p with again := (s.lp p).replay.length, stuck := true } := by
  rw [State.replayAll, State.lp_inc, State.lp_modLp]

theorem State.replayStart_empty (empty : (s.lp p).replay = []) : s.replayStart p = s := if_pos (by simp [empty])

theorem State.replayStart_eq (held : (s.lp p).replay ≠ []) : s.replayStart p =
    if 4 ≤ (((if (s.lp p).stuck then s.inc R.LNK_REPLAY_STALLED p.val else s).replayAll p).rd R.LNK_REPLAY_STALLED p.val) then
      ((if (s.lp p).stuck then s.inc R.LNK_REPLAY_STALLED p.val else s).replayAll p).toRetrain p
    else (if (s.lp p).stuck then s.inc R.LNK_REPLAY_STALLED p.val else s).replayAll p := if_neg (by simpa using held)

theorem State.replayStart_first (held : (s.lp p).replay ≠ []) (fresh : (s.lp p).stuck = false) (few : s.rd R.LNK_REPLAY_STALLED p.val < 4) :
    s.replayStart p = s.replayAll p := by
  rw [State.replayStart_eq held, fresh, if_neg Bool.false_ne_true, if_neg]
  rw [State.rd_replayAll _ _ (by decide)]
  omega

theorem State.replayStart_fourth (st : s.lst p = 4) (held : (s.lp p).replay ≠ []) (stuck : (s.lp p).stuck = true) (three : s.rd R.LNK_REPLAY_STALLED p.val = 3) :
    s.replayStart p = ((((s.inc R.LNK_REPLAY_STALLED p.val).replayAll p).retraining p).raise (srcLnkErr p.val) 0).leaveActive p := by
  have active : ((s.inc R.LNK_REPLAY_STALLED p.val).replayAll p).lst p = 4 :=
    (State.rd_replayAll _ _ (by decide)).trans ((State.rd_inc_sep (by decide) _ _).trans st)
  rw [State.replayStart_eq held, stuck, if_pos rfl, if_pos, State.toRetrain_active active]
  rw [State.rd_replayAll _ _ (by decide), State.rd_inc (by decide), three]
  decide

/-! ### What a port sends (R397, R399, R416) -/

theorem LinkPort.says_ack (l : LinkPort) (p : Ch) (now : Nat) (y : Sym) (b : Bool) : { l with ackDue := b }.says p now y = { l.says p now y with ackDue := b } := rfl

theorem LinkPort.says_nak (l : LinkPort) (p : Ch) (now : Nat) (y : Sym) (b : Bool) : { l with nakDue := b }.says p now y = { l.says p now y with nakDue := b } := rfl

theorem LinkPort.says_again (l : LinkPort) (p : Ch) (now : Nat) (y : Sym) (n : Nat) : { l with again := n }.says p now y = { l.says p now y with again := n } := rfl

theorem State.lp_says_with (s : State) (p : Ch) (g : LinkPort → LinkPort) (y : Sym) : ((s.modLp p g).transmit p y).lp p = (g (s.lp p)).says p s.now y := by
  rw [State.lp_transmit, State.lp_modLp, State.now_modLp]

theorem State.lp_sendCrd_vc (s : State) (p : Ch) (v : Fin 4) : (s.sendCrd p v.val).lp p =
    { (s.lp p).says p s.now (.crd (linkWord (v.val * 2 ^ 10 + (s.lp p).cum.get v))) with crd := (s.lp p).crd.set v.val ((s.lp p).cum.get v) } := by
  have count : (s.lp p).cum.toList.getD v.val 0 = (s.lp p).cum.get v := by simp [List.getD, Vector.get]
  have put (c : Vector Nat 4) (n : Nat) : c.set! v.val n = c.set v.val n := by
    ext i hi
    simp [Vector.getElem_set, Vector.set!_eq_setIfInBounds, Vector.getElem_setIfInBounds]
  rw [State.lp_sendCrd, count, put]

theorem OnlyPort.sendCrd (s : State) (p : Ch) (v : Nat) : OnlyPort p [] s (s.sendCrd p v) := ((OnlyPort.refl p [] s).modLp _).transmit _

/-- The record of port `p` as the packet of `e` starts. -/
def State.startRecord (s : State) (p : Ch) (e : Egr) (l : LinkPort) : LinkPort :=
  { l with egress := l.egress.erase e, turn := l.turn.set! e.pkt.vc e.ing, replay := l.replay ++ [(s.rd R.LNK_SEQ_NEXT_TX p.val, e.pkt)],
           sent := l.sent.set! e.pkt.vc ((l.sent.toList.getD e.pkt.vc 0 + e.pkt.credits) % 1024),
           bucket := if e.pkt.vc = 3 then s.tokens p - e.pkt.bytes * 1600 else l.bucket, bucketAt := if e.pkt.vc = 3 then s.now else l.bucketAt }

/-- The packet of `e` goes out, with its SEQ. -/
def State.startSent (s : State) (p : Ch) (e : Egr) : State :=
  (((((s.modLp p (s.startRecord p e)).transmit p (.pkt (linkWord (s.rd R.LNK_SEQ_NEXT_TX p.val)) e.pkt.words)).wr R.LNK_SEQ_NEXT_TX p.val
    (s.rd R.LNK_SEQ_NEXT_TX p.val + 1)).showReplay p).showCredits p)

theorem State.startPacket_eq (s : State) (p : Ch) (e : Egr) : s.startPacket p e =
    if e.buf then (if e.ing < 4 then (s.startSent p e).countFwd p else s.startSent p e).freed e.ing e.pkt
    else if e.ing < 4 then (s.startSent p e).countFwd p else s.startSent p e := rfl

theorem State.startPacket_own {e : Egr} (own : 4 ≤ e.ing) (plain : e.buf = false) : s.startPacket p e = s.startSent p e := by
  rw [State.startPacket_eq, plain, if_neg Bool.false_ne_true, if_neg (by omega)]

theorem State.lp_startSent (s : State) (p : Ch) (e : Egr) : (s.startSent p e).lp p =
    (s.startRecord p e (s.lp p)).says p s.now (.pkt (linkWord (s.rd R.LNK_SEQ_NEXT_TX p.val)) e.pkt.words) := by
  rw [State.startSent, State.showCredits, State.lp_wr, State.showReplay, State.lp_wr, State.lp_wr, State.lp_says_with]

theorem State.seq_startSent (s : State) (p : Ch) (e : Egr) :
    (s.startSent p e).rd R.LNK_SEQ_NEXT_TX p.val = (s.rd R.LNK_SEQ_NEXT_TX p.val + 1) % 4096 := by
  rw [State.startSent, State.showCredits, State.rd_wr_sep _ _ _ _ _ (by decide), State.showReplay, State.rd_wr_sep _ _ _ _ _ (by decide), State.rd_wr _ _ _ _ (by decide)]
  rfl

theorem OnlyPort.startSent (s : State) (p : Ch) (e : Egr) :
    OnlyPort p [R.LNK_SEQ_NEXT_TX.at p.val, R.LNK_REPLAY_UNACKED.at p.val, R.LNK_TXCRD_AVAIL.at p.val] s (s.startSent p e) := by
  unfold State.startSent State.showCredits State.showReplay
  exact (((((OnlyPort.refl p _ s).modLp _).transmit _).wr _ _ _ (by decide) (by simp)).wr _ _ _ (by decide) (by simp)).wr _ _ _ (by decide) (by simp)

theorem State.lp_countFwd (s : State) (p q : Ch) : (s.countFwd p).lp q = s.lp q := by
  unfold State.countFwd
  split <;> exact State.lp_wr _ _ _ _ _

/-- The receive buffer of the packet's ingress is free: its credits count. -/
theorem State.cum_startPacket {e : Egr} (ing : e.ing = q.val) (other : q ≠ p) (buf : e.buf = true) (vc : e.pkt.vc < 4) :
    ((s.startPacket p e).lp q).cum.toList.getD e.pkt.vc 0 = ((s.lp q).cum.toList.getD e.pkt.vc 0 + e.pkt.credits) % 1024 := by
  have kept : ((s.startSent p e).countFwd p).lp q = s.lp q := by
    rw [State.lp_countFwd]
    exact (OnlyPort.startSent s p e).2 q other
  have free (t : State) : (t.freed q.val e.pkt).lp q = { t.lp q with
      cum := (t.lp q).cum.set! (e.pkt.vc % 4) (((t.lp q).cum.toList.getD (e.pkt.vc % 4) 0 + e.pkt.credits) % 1024) } := by
    rw [State.freed, dif_pos q.isLt]
    exact State.lp_modLp _ _ _
  rw [State.startPacket_eq, if_pos buf, ing, if_pos q.isLt, free, kept, Nat.mod_eq_of_lt vc]
  simp [List.getD, vc]

/-- The next packet of the replay goes out again. -/
theorem replay_next {r a b : List (Nat × Pkt)} {n : Nat} {k : Pkt} (e : r = a ++ (n, k) :: b) : (r.drop (r.length - (b.length + 1))).head? = some (n, k) := by
  subst e
  simp

/-- PACKET_TRANSMIT_START on the port, with what is first to replay and the packet that may start (R391, R398, R416). -/
def State.startNext (s : State) (p : Ch) : State :=
  match ((s.lp p).replay.drop ((s.lp p).replay.length - (s.lp p).again)).head?, s.nextPacket p with
  | some (q, k), _ => (s.modLp p fun l => { l with again := l.again - 1 }).transmit p (.pkt (linkWord q) k.words)
  | none, some e => if !(s.lp p).bert && (s.lp p).room e.pkt then s.startPacket p e else s
  | none, none => s

theorem replay_done (r : List (Nat × Pkt)) : (r.drop (r.length - 0)).head? = none := by simp

theorem State.startNext_quiet (done : (s.lp p).again = 0) (quiet : (s.lp p).bert = true ∨ s.nextPacket p = none) : s.startNext p = s := by
  unfold State.startNext
  rw [done, replay_done]
  rcases quiet with bert | none'
  · split
    · contradiction
    · rw [bert]
      rfl
    · rfl
  · rw [none']

theorem State.startNext_new {e : Egr} (done : (s.lp p).again = 0) (flows : (s.lp p).bert = false) (next : s.nextPacket p = some e) :
    s.startNext p = if (s.lp p).room e.pkt = true then s.startPacket p e else s := by
  unfold State.startNext
  rw [done, replay_done, next, flows]
  rfl

theorem State.startNext_again {a b : List (Nat × Pkt)} {n : Nat} {k : Pkt} (replay : (s.lp p).replay = a ++ (n, k) :: b)
    (again : (s.lp p).again = b.length + 1) :
    s.startNext p = (s.modLp p fun l => { l with again := l.again - 1 }).transmit p (.pkt (linkWord n) k.words) := by
  unfold State.startNext
  rw [again, replay_next replay]

theorem State.portUp.transmitStart (up : s.portUp p) (st : s.lst p = 4) (e : s.startNext p = t) : exec (.packetTransmitStart p) s = .next t.after :=
  up.next ((if_neg (by simp [st])).trans e)

/-! ### LINK_BERT (R405) -/

/-- The counters of the checker as it gives them. -/
theorem State.bertCounts_shows (s : State) (p : Ch) (lo hi e : Word) (m : List Word) :
    (s.bertCounts p.val (lo :: hi :: e :: m)).rd R.LNK_BERT_CHK_LO_CHK p.val = lo.toNat ∧
    (s.bertCounts p.val (lo :: hi :: e :: m)).rd R.LNK_BERT_CHK_HI_CHK p.val = hi.toNat % R.LNK_BERT_CHK_HI_CHK.size ∧
    (s.bertCounts p.val (lo :: hi :: e :: m)).rd R.LNK_BERT_ERR_ERR p.val = e.toNat ∧
    OnlyRegs [R.LNK_BERT_CHK_LO_CHK.at p.val, R.LNK_BERT_CHK_HI_CHK.at p.val, R.LNK_BERT_ERR_ERR.at p.val] s (s.bertCounts p.val (lo :: hi :: e :: m)) := by
  unfold State.bertCounts
  refine ⟨?_, ?_, ?_, (OnlyRegs.refl _ s).wrs _ _ (by simp +decide)⟩
  · simp (disch := decide) only [State.wrs, State.rd_wr_sep]
    exact State.rd_wr_lt (by decide) lo.isLt _ _
  · simp (disch := decide) only [State.wrs, State.rd_wr_sep]
    exact State.rd_wr _ _ _ _ (by decide)
  · simp only [State.wrs]
    exact State.rd_wr_lt (by decide) e.isLt _ _

theorem State.bertCounts_short (s : State) (p : Nat) {m : List Word} (short : m.length < 3) : s.bertCounts p m = s := by
  match m, short with
  | [], _ | [_], _ | [_, _], _ => rfl

end

/-- Settles O39, by what comes in and what goes out of a port in ACTIVE. -/
theorem linkPackets : Obligations.LinkPackets := by
  unfold Obligations.LinkPackets
  intro p s up
  refine ⟨fun st => ⟨fun w ws k pos next ok pkt => ?_, fun clean w ws pos ok other near => ?_, fun clean w ws pos ok bad v hv => ?_, CopiesKept.cutThrough s p,
    fun q k cuts => ⟨State.lp_cutOut cuts p.val, OnlyPort.cutOut cuts p.val⟩, fun q k cuts => if_neg (by simp [cuts]), fun clean w ws pos bad still => ?_,
    fun clean w ws pos bad down => up.next (State.packetIn_garbled_down st bad down),
    fun w pos bad => ⟨up.next (State.symbol_bad st bad), up.next (State.symbol_bad st bad), up.next (State.symbol_bad st bad)⟩,
    fun w a q b pos ok replay before => ?_, fun w pos ok unknown => ?_, fun w a q b pos ok replay before => ?_, fun w pos ok => ?_, up.next (if_pos st),
    State.replayStart_empty, fun held fresh few => ?_, fun held stuck three => ⟨_, State.replayStart_fourth st held stuck three, State.lst_retraining _ p⟩,
    fun due => ?_, fun due => ?_, fun idle => up.next (if_neg (by simp [idle])), fun idle => up.next (if_neg (by simp [idle])), fun v => ?_,
    fun done quiet => up.transmitStart st (State.startNext_quiet done quiet), fun e done flows next own plain room => ?_,
    fun e done flows next => up.transmitStart st (State.startNext_new done flows next), fun e q => State.cum_startPacket, fun a q k b replay again => ?_⟩,
    fun clean w ws pos st ok next => up.next (State.packetIn_aborts st ok next), fun clean w ws pos other => up.next (State.packetIn_abort_other other),
    fun st clean abort w ws pos v => ?_, fun lo hi e l st => ?_, fun m short st => ?_, fun st => ⟨fun m => up.next (if_neg st), up.next (if_neg st)⟩,
    fun st => ⟨_, up.next (if_pos st), State.rd_wr_lt (by decide) (by decide) _ _, (OnlyRegs.refl _ s).wr _ _ _ (by decide) (by simp)⟩⟩
  case refine_1 =>
    refine ⟨s.packetTaken p, up.next (State.packetIn_taken st ok next pkt), s.rd_packetTaken p, ?_, ((OnlyPort.refl p _ s).wr _ _ _ (by decide) (by simp)).modLp _⟩
    rw [State.packetTaken, State.lp_modLp, State.lp_wr]
  case refine_2 =>
    have run := State.packetIn_bad (clean := clean) (ws := ws) (pos := pos) st ok fun next => absurd next other
    rw [if_neg other, decide_eq_true near] at run
    exact ⟨_, up.next run, s.lp_packetBad_again p, s.count_packetBad p true, OnlyPort.packetBad s p true⟩
  case refine_3 =>
    have run := State.packetIn_bad (p := p) (clean := clean) (ws := ws) (pos := pos) st ok fun next => (bad.resolve_right fun h => h.2 next).2
    rw [← hv, decide_eq_false (by omega)] at run
    exact ⟨_, up.next run, v.lp_packetBad_other p, v.count_packetBad p false, OnlyPort.packetBad v p false⟩
  case refine_4 =>
    refine ⟨_, up.next (State.packetIn_garbled st bad still), ?_, OnlyPort.packetBad _ p false⟩
    rw [State.lp_packetBad_other, State.nak_codeError st]
  case refine_5 =>
    refine ⟨_, up.next (State.symbol_good st ok), ?_, ?_, State.stalled_ackTo replay before, (OnlyPort.refl p _ s).ackTo replay before (by simp) (by simp)⟩
    all_goals rw [State.lp_ackTo replay before]
  case refine_6 =>
    refine ⟨up.next ((State.symbol_good st ok).trans (State.ackTo_unknown unknown)), up.next ((State.symbol_good st ok).trans ?_)⟩
    rw [State.ackTo_unknown (s := s.wr R.LNK_IRQ_NAK_RX p.val 1) unknown]
  case refine_7 =>
    have replay' : ((s.wr R.LNK_IRQ_NAK_RX p.val 1).lp p).replay = a ++ (w.toNat / 16, q) :: b := replay
    refine ⟨_, up.next (State.symbol_good st ok), ?_, ?_, ?_,
      ((OnlyPort.refl p _ s).wr _ _ _ (by decide) (by simp)).ackTo replay' before (by simp) (by simp)⟩
    · rw [State.lp_ackTo replay' before]
    · rw [State.lp_ackTo replay' before]
    · rw [State.rd_ackTo _ _ _ (by decide) (by decide)]
      exact State.rd_wr_lt (by decide) (by decide) _ _
  case refine_8 => exact ⟨_, up.next (State.symbol_good st ok), s.got_creditIn p w, OnlyPort.creditIn s p w⟩
  case refine_9 =>
    rw [State.replayStart_first held fresh few, State.lp_replayAll]
    exact ⟨rfl, rfl, (State.rd_replayAll _ _ (by decide)).trans st, State.rd_inc (by decide) _ p.val⟩
  case refine_10 =>
    refine ⟨_, up.next (if_pos ⟨st, due⟩), ?_, ((OnlyPort.refl p [] s).modLp _).transmit _⟩
    rw [State.lp_says_with, LinkPort.says_ack]
  case refine_11 =>
    refine ⟨_, up.next (if_pos ⟨st, due⟩), ?_, State.rd_inc (by decide) _ p.val, (((OnlyPort.refl p _ s).modLp _).transmit _).inc _ _ (by decide) (by simp)⟩
    rw [State.lp_inc, State.lp_says_with, LinkPort.says_nak]
  case refine_12 => exact ⟨_, up.next (if_pos st), s.lp_sendCrd_vc p v, OnlyPort.sendCrd s p v.val⟩
  case refine_13 =>
    refine ⟨_, up.transmitStart st ((State.startNext_new done flows next).trans ((if_pos room).trans (State.startPacket_own own plain))), s.seq_startSent p e, ?_, ?_, ?_,
      ?_, OnlyPort.startSent s p e⟩
    all_goals rw [State.lp_startSent]
    · rfl
    · rfl
    · rfl
    · rfl
  case refine_14 =>
    refine ⟨_, up.transmitStart st (State.startNext_again replay again), ?_, ((OnlyPort.refl p [] s).modLp _).transmit _⟩
    rw [State.lp_says_with, LinkPort.says_again, again, Nat.add_sub_cancel]
  case refine_15 =>
    exact ⟨up.next (State.packetIn_down st abort), up.next (State.symbol_down st), up.next (State.symbol_down st), up.next (State.symbol_down st),
      up.next (if_neg fun h => st h.1), up.next (if_neg fun h => st h.1), up.next (if_neg st), up.next (if_neg st), up.next (if_pos st)⟩
  case refine_16 => exact ⟨_, up.next (if_pos st), s.bertCounts_shows p lo hi e l⟩
  case refine_17 =>
    refine up.next ((if_pos st).trans ?_)
    rw [State.bertCounts_short s p.val short]

end Sys2Proof.Machine

/-! SUPPORT. O41: what a target serves. -/

namespace Sys2Proof.Machine

section
variable {s u : State} {k : Pkt} {ing : Nat}

/-! ### The queue of delivered packets -/

theorem State.takeWhere_first {f : Pkt → Bool} {a b : List (Nat × Pkt)} (queue : s.inq = a ++ (ing, k) :: b) (before : ∀ e ∈ a, f e.2 = false) (hit : f k = true) :
    s.takeWhere f = some (ing, k, { s with inq := a ++ b }) := by
  have found : s.inq.find? (fun e => f e.2) = some (ing, k) := by
    rw [queue, List.find?_append, List.find?_eq_none.2 (by simpa using before)]
    exact List.find?_cons_of_pos (p := fun e : Nat × Pkt => f e.2) hit
  have fresh : (ing, k) ∉ a := fun mem => Bool.false_ne_true ((before _ mem).symm.trans hit)
  have rest : s.inq.erase (ing, k) = a ++ b := by
    rw [queue, List.erase_append_right _ fresh, List.erase_cons_head]
  rw [State.takeWhere, found]
  dsimp only
  rw [rest]

theorem State.takeWhere_none {f : Pkt → Bool} (h : ∀ e ∈ s.inq, f e.2 = false) : s.takeWhere f = none := by
  rw [State.takeWhere, List.find?_eq_none.2 (by simpa using h)]

/-- A packet taken leaves all of the state but the queue. -/
theorem State.takeWhere_frame {f : Pkt → Bool} (h : s.takeWhere f = some (ing, k, u)) : u = { s with inq := u.inq } ∧ f k = true := by
  unfold State.takeWhere at h
  split at h
  · contradiction
  · next e found =>
    obtain ⟨-, rfl, rfl⟩ := h
    exact ⟨rfl, List.find?_some (p := fun e : Nat × Pkt => f e.2) found⟩

theorem State.takeServed_frame {typ : Nat} (h : s.takeServed typ = some (ing, k, u)) : u = { s with inq := u.inq } := by
  unfold State.takeServed at h
  split at h
  · contradiction
  · next taken =>
    split at h
    · obtain ⟨-, -, rfl⟩ := h
      exact (State.takeWhere_frame taken).1
    · contradiction

/-! ### Answers (R411, R420, R423, R442) -/

theorem State.nodeId_of_words {s t : State} (valid : t.rd R.FAB_NODE_ID_VALID 0 = s.rd R.FAB_NODE_ID_VALID 0) (id : t.rd R.FAB_NODE_ID_ID 0 = s.rd R.FAB_NODE_ID_ID 0) :
    t.nodeId = s.nodeId := by rw [State.nodeId, State.on, valid, id, State.nodeId, State.on]

theorem State.nodeId_inc {f : Fld} (valid : f.sep R.FAB_NODE_ID_VALID = true) (id : f.sep R.FAB_NODE_ID_ID = true) : (s.inc f 0).nodeId = s.nodeId :=
  State.nodeId_of_words (State.rd_inc_sep valid _ _) (State.rd_inc_sep id _ _)

theorem State.nodeId_wr {f : Fld} (valid : f.sep R.FAB_NODE_ID_VALID = true) (id : f.sep R.FAB_NODE_ID_ID = true) (v : Nat) : (s.wr f 0 v).nodeId = s.nodeId :=
  State.nodeId_of_words (State.rd_wr_sep _ _ _ _ _ valid) (State.rd_wr_sep _ _ _ _ _ id)

theorem State.reply_plain (s : State) (k : Pkt) {status : Nat} (data : List Word) (busy : status ≠ 4) (refused : status ≠ 3) :
    s.reply k status data = s.send fromLodge (k.response s.nodeId status data (4 * data.length)) := by
  rw [State.reply, if_neg busy, if_neg refused]

theorem State.reply_refused (s : State) (k : Pkt) :
    s.reply k 3 [] = (s.inc R.TXN_CNT_IN_REFUSED 0).send fromLodge (k.response s.nodeId 3 [] 0) := by
  rw [State.reply, if_neg (by decide), if_pos rfl, State.nodeId_inc (by decide) (by decide)]
  rfl

theorem State.turnAway_asked (asks : k.asks = true) (status : Nat) : s.turnAway ing k status = s.reply k status [] := if_neg (by simp [asks])

theorem State.turnAway_bad (asks : k.asks = true) : s.turnAway ing k 5 = s.send fromLodge (k.response s.nodeId 5 [] 0) :=
  (State.turnAway_asked asks 5).trans (s.reply_plain k [] (by decide) (by decide))

theorem State.turnAway_dropped (posted : k.asks = false) : s.turnAway ing k 5 = s.dropNote ing 3 k := (if_pos (by simp [posted])).trans (if_pos rfl)

theorem State.turnAway_posted (posted : k.asks = false) {status : Nat} (h : status ≠ 5) : s.turnAway ing k status = s :=
  (if_pos (by simp [posted])).trans (if_neg h)

theorem Pkt.asks_iff (k : Pkt) : k.asks = true ↔ k.rsp = false ∧ k.pst = false ∧ (k.dr = true ∨ k.dst ≠ 0x3FF) := by
  simp [Pkt.asks, Pkt.bcast, and_assoc]

/-! ### The Trail target port (R423) -/

/-- The words a burst has read, with the state after them. -/
def trailStep (dr : Bool) (a : Nat) (ecc : List Nat) (r : List Word × State) (i : Nat) : List Word × State :=
  (r.1 ++ [(r.2.busReadEcc 2 (a + 4 * i) (ecc.contains i)).1],
    if dr ∧ (a + 4 * i) % 2 ^ 24 = 0x1034 then (r.2.busReadEcc 2 (a + 4 * i) (ecc.contains i)).2.portsRead
    else (r.2.busReadEcc 2 (a + 4 * i) (ecc.contains i)).2)

theorem State.trailRead_eq (s : State) (dr : Bool) (a n : Nat) (ecc : List Nat) : s.trailRead dr a n ecc = (List.range n).foldl (trailStep dr a ecc) ([], s) := rfl

theorem trailFold_length (dr : Bool) (a : Nat) (ecc l : List Nat) (r : List Word × State) : (l.foldl (trailStep dr a ecc) r).1.length = r.1.length + l.length := by
  induction l generalizing r with
  | nil => rfl
  | cons i l ih => rw [List.foldl_cons, ih, trailStep, List.length_append, List.length_singleton, List.length_cons]; omega

theorem State.trailRead_length (s : State) (dr : Bool) (a n : Nat) (ecc : List Nat) : (s.trailRead dr a n ecc).1.length = n := by
  rw [State.trailRead_eq, trailFold_length]
  simp

theorem State.trailRead_one (s : State) (a : Nat) (ecc : List Nat) : s.trailRead false a 1 ecc = ([(s.busReadEcc 2 a (ecc.contains 0)).1], (s.busReadEcc 2 a (ecc.contains 0)).2) := by
  simp [State.trailRead_eq, trailStep]

theorem execRdRequest_taken (on : s.domOn dLink = true) (taken : s.takeServed 0 = some (ing, k, u)) (ecc : List Nat) :
    exec (.rdRequest ecc) s = .next (u.serveRd ing k ecc) := by
  refine congrArg Host.Outcome.next ((State.whenLink_on on _).trans ?_)
  rw [taken]

theorem execWrRequest_taken (on : s.domOn dLink = true) (taken : s.takeServed 1 = some (ing, k, u)) : exec .wrRequest s = .next (u.serveWr ing k) := by
  refine congrArg Host.Outcome.next ((State.whenLink_on on _).trans ?_)
  rw [taken]

theorem execJobRequest_taken (on : s.domOn dLink = true) (taken : s.takeServed 4 = some (ing, k, u)) : exec .jobRequest s = .next (u.serveJob ing k) := by
  refine congrArg Host.Outcome.next ((State.whenLink_on on _).trans ?_)
  rw [taken]

/-- A JOB executes in the bank of the Trail target port and is answered with its result. -/
theorem State.serveJob_valid (valid : k.jobValid = true) {r : Word} {v w : State}
    (run : (u.blkPut 2 k.data).jobCommand 2 ((u.blkPut 2 k.data).jobBlk.get 2).toList = (v, r)) (hw : w = ({ v with jobRes := v.jobRes.set 2 r } : State).settleAll) :
    u.serveJob ing k = w.send fromLodge (k.response w.nodeId 0 [r] 4) := by
  have post : u.jobPost 2 k.data = w := by
    have block : (u.blkPut 2 k.data).jobCommand 2 ((u.blkPut 2 k.data).jobBlk.get (jobBank 2)).toList = (v, r) := run
    rw [State.jobPost, State.jobBlock, block, hw]
    rfl
  have res : w.jobRes.get (jobBank 2) = r := by
    have kept : w.jobRes = v.jobRes.set 2 r := by
      rw [hw]
      exact ((Settled.refl [] _).settleAll).jobRes
    rw [kept]
    exact Vector.getElem_set_self (by decide)
  refine (if_neg (by simp [valid])).trans ?_
  rw [post]
  dsimp only
  rw [res, State.reply_plain _ _ _ (by decide) (by decide)]
  rfl

end

/-- Settles O41, by the oldest request of the queue and its type. -/
theorem servedRequests : Obligations.ServedRequests := by
  unfold Obligations.ServedRequests
  intro s on
  have served (k : Pkt) : (!k.rsp && (k.typ == 0 || k.typ == 1 || k.typ == 4)) = false ↔ k.rsp = true ∨ (k.typ ≠ 0 ∧ k.typ ≠ 1 ∧ k.typ ≠ 4) := by
    cases k.rsp <;> simp [and_assoc]
  refine ⟨fun a ing k b typ queue before req known hit => ?_, fun a ing k b typ queue before req known miss => ?_, fun ecc none' => ?_, fun none' => ?_, fun none' => ?_,
    fun ing k u taken ecc => ⟨fun bad => ?_, fun ok ws v read => ?_⟩, fun ing k u taken => ⟨fun bad => ?_, fun ok posted => ?_, fun ok asks v hv => ?_⟩,
    fun dr a w l => ⟨rfl, rfl⟩, fun ing k u taken => ⟨fun bad => ?_, fun ok r v w run hw => ?_⟩, Pkt.asks_iff,
    fun ing k => ⟨State.turnAway_bad, fun posted => ⟨State.turnAway_dropped posted, State.turnAway_posted posted (by decide)⟩,
      fun asks => (State.turnAway_asked asks 3).trans (s.reply_refused k)⟩⟩
  case refine_1 =>
    rw [State.takeServed, State.takeWhere_first queue (fun e he => (served e.2).2 (before e he)) (by rw [req, hit]; rcases known with h | h | h <;> simp [h])]
    exact if_pos hit
  case refine_2 =>
    rw [State.takeServed, State.takeWhere_first queue (fun e he => (served e.2).2 (before e he)) (by rw [req]; rcases known with h | h | h <;> simp [h])]
    exact if_neg miss
  case refine_3 =>
    refine congrArg Host.Outcome.next ((State.whenLink_on on _).trans ?_)
    rw [none']
  case refine_4 =>
    refine congrArg Host.Outcome.next ((State.whenLink_on on _).trans ?_)
    rw [none']
  case refine_5 =>
    refine congrArg Host.Outcome.next ((State.whenLink_on on _).trans ?_)
    rw [none']
  case refine_6 => exact (execRdRequest_taken on taken ecc).trans (congrArg Host.Outcome.next (if_pos (by simp [bad])))
  case refine_7 =>
    refine ⟨(execRdRequest_taken on taken ecc).trans (congrArg Host.Outcome.next ((if_neg (by simp [ok])).trans ?_)), ?_, fun plain one w x bus => ?_⟩
    · rw [read]
      exact v.reply_plain k ws (by decide) (by decide)
    · rw [show ws = (u.trailRead k.dr k.byteAddr k.count ecc).1 by rw [read], State.trailRead_length]
    · rw [plain, one, State.trailRead_one, bus] at read
      exact ⟨(congrArg Prod.fst read).symm, (congrArg Prod.snd read).symm⟩
  case refine_8 => exact (execWrRequest_taken on taken).trans (congrArg Host.Outcome.next (if_pos (by simp [bad])))
  case refine_9 => exact (execWrRequest_taken on taken).trans (congrArg Host.Outcome.next ((if_neg (by simp [ok])).trans (if_neg (by simp [posted]))))
  case refine_10 =>
    subst hv
    exact (execWrRequest_taken on taken).trans (congrArg Host.Outcome.next ((if_neg (by simp [ok])).trans ((if_pos asks).trans
      (State.reply_plain _ k [] (by decide) (by decide)))))
  case refine_11 => exact (execJobRequest_taken on taken).trans (congrArg Host.Outcome.next (if_pos (by simp [bad])))
  case refine_12 => exact (execJobRequest_taken on taken).trans (congrArg Host.Outcome.next (State.serveJob_valid ok run hw))

end Sys2Proof.Machine

/-! SUPPORT. O42: messages, fault records and HALT packets. -/

namespace Sys2Proof.Machine

section
variable {s u : State} {k : Pkt} {ing : Nat} {n : Ch}

/-! ### A message in a mailbox (R325) -/

/-- A message stands in slot `q` of the mailbox of channel `n`, its event not yet raised. -/
def State.mboxFilled (s : State) (n : Ch) (q : Nat) (p : Pkt) : State :=
  ((s.setMemWords (dramAddr n.val (0xF00 + 0x40 * q)) p.data).wrs n.val [((R.GRV_MBOX_HDR_SRC.nth q), p.src), ((R.GRV_MBOX_HDR_LEN.nth q), p.len)]).orBits
    R.GRV_FULL n.val (2 ^ q)

theorem State.mboxStore_eq (s : State) (n : Ch) (q : Nat) (p : Pkt) : s.mboxStore n q p = (s.mboxFilled n q p).grvEvent n 8 := rfl

theorem State.rd_grvEvent (s : State) (n : Ch) (b : Nat) {f : Fld} (apart : R.GRV_EVT_PEND.sep f = true) (i : Nat) (same : i = n.val) :
    (s.grvEvent n b).rd f i = s.rd f i := by
  subst same
  unfold State.grvEvent State.whenCh
  split
  · exact State.rd_wr_sep _ _ _ _ _ apart
  · rfl

theorem State.grvEvent_fields (s : State) (n : Ch) (b : Nat) : (s.grvEvent n b).inq = s.inq ∧ (s.grvEvent n b).mem = s.mem := by
  unfold State.grvEvent State.whenCh
  split <;> exact ⟨rfl, rfl⟩

theorem State.setMemWords_fields (s : State) (a : Nat) (l : List Word) : (s.setMemWords a l).regs = s.regs ∧ (s.setMemWords a l).inq = s.inq := by
  induction l generalizing s a with
  | nil => exact ⟨rfl, rfl⟩
  | cons w l ih => exact ih (s.setMemWord a w) (a + 4)

/-- The headers and FULL bits of the mailboxes lie apart from the power manager's word. -/
theorem mbox_apart : ∀ (n : Ch) (q : Fin 4), (R.GRV_MBOX_HDR_SRC.nth q.val).ok ∧ (R.GRV_MBOX_HDR_LEN.nth q.val).ok ∧ (R.GRV_MBOX_HDR_SRC.nth q.val).apart n.val R.PWR_DOM_STATE_ON 0 ∧
    (R.GRV_MBOX_HDR_LEN.nth q.val).apart n.val R.PWR_DOM_STATE_ON 0 ∧ R.GRV_FULL.apart n.val R.PWR_DOM_STATE_ON 0 := by decide

theorem State.chOn_mboxFilled (s : State) (n : Ch) {q : Nat} (lt : q < 4) (p : Pkt) : (s.mboxFilled n q p).chOn n = s.chOn n := by
  unfold State.mboxFilled State.orBits
  obtain ⟨srcOk, lenOk, src, len, full⟩ := mbox_apart n ⟨q, lt⟩
  simp only [State.chOn, State.wrs]
  rw [State.domOn_wr (by decide) full, State.domOn_wr lenOk len, State.domOn_wr srcOk src]
  exact State.chOn_of_regs (State.setMemWords_fields _ _ _).1 n

theorem State.full_mboxFilled (s : State) (n : Ch) {q : Nat} (lt : q < 4) (p : Pkt) : (s.mboxFilled n q p).bit R.GRV_FULL n.val q = true :=
  State.bit_orBits (by decide) _ _ q (by interval_cases q <;> decide)

theorem State.src_mboxFilled (s : State) (n : Ch) {q : Nat} (lt : q < 4) (p : Pkt) :
    (s.mboxFilled n q p).rd (R.GRV_MBOX_HDR_SRC.nth q) n.val = p.src % 1024 := by
  unfold State.mboxFilled State.orBits
  simp only [State.wrs]
  rw [State.rd_wr_sep _ _ _ _ _ (by interval_cases q <;> decide), State.rd_wr_sep _ _ _ _ _ (by interval_cases q <;> decide),
    State.rd_wr _ _ _ _ (by interval_cases q <;> decide)]
  rfl

theorem State.mem_mboxFilled (s : State) (n : Ch) (q : Nat) (p : Pkt) :
    (s.mboxFilled n q p).mem = (s.setMemWords (dramAddr n.val (0xF00 + 0x40 * q)) p.data).mem := by
  unfold State.mboxFilled State.orBits
  rw [State.wr_mem, State.wrs_mem]

theorem State.inq_mboxFilled (s : State) (n : Ch) (q : Nat) (p : Pkt) : (s.mboxFilled n q p).inq = s.inq := by
  unfold State.mboxFilled State.orBits
  rw [State.wr_inq, State.wrs_inq]
  exact (State.setMemWords_fields _ _ _).2

theorem State.mboxSlot_first {q : Nat} (lt : q < 4) (free : s.bit R.GRV_FULL n.val q = false) (held : ∀ j < q, s.bit R.GRV_FULL n.val j = true) :
    s.mboxSlot n = some q := by
  rw [State.mboxSlot, List.find?_range_eq_some]
  exact ⟨by simp [free], by simpa using lt, fun j hj => by simp [held j hj]⟩

/-- What a message in a mailbox shows (R325). -/
theorem State.mboxStore_shows (on : u.chOn n = true) {q : Nat} (lt : q < 4) (k : Pkt) :
    (u.mboxStore n q k).bit R.GRV_FULL n.val q = true ∧ (u.mboxStore n q k).rd (R.GRV_MBOX_HDR_SRC.nth q) n.val = k.src % 1024 ∧
    (u.mboxStore n q k).bit R.GRV_EVT_PEND n.val 8 = true ∧ (u.mboxStore n q k).inq = u.inq ∧
    ∀ d l, k.data = d :: l → l = [] → (u.mboxStore n q k).memWord (dramAddr n.val (0xF00 + 0x40 * q)) = d := by
  rw [State.mboxStore_eq]
  have powered : (u.mboxFilled n q k).chOn n = true := (u.chOn_mboxFilled n lt k).trans on
  refine ⟨?_, ?_, ?_, ?_, fun d l data last => ?_⟩
  · rw [State.bit, State.rd_grvEvent _ _ _ (by decide) _ rfl]
    exact u.full_mboxFilled n lt k
  · rw [State.rd_grvEvent _ _ _ (by interval_cases q <;> decide) _ rfl, State.src_mboxFilled u n lt k]
  · rw [State.grvEvent, State.whenCh_on powered]
    exact State.bit_orBits (by decide) _ _ 8 (by decide)
  · rw [(State.grvEvent_fields _ _ _).1, State.inq_mboxFilled]
  · rw [State.memWord_of_mem (State.grvEvent_fields _ _ _).2, State.memWord_of_mem (State.mem_mboxFilled u n q k), data, last]
    exact State.memWord_setMemWord _ _ _

/-! ### What becomes of a message (R424) -/

theorem execMsgRequest_taken (on : s.domOn dLink = true) (taken : s.takeWhere (fun k => !k.rsp && k.typ == 2) = some (ing, k, u)) :
    exec .msgRequest s = .next (if !k.msgValid || decide (4 < k.arg.toNat % 8) then (u.turnAway ing k 5).settleAll
      else if h : k.arg.toNat % 8 < 4 then u.msgToGrove ing ⟨k.arg.toNat % 8, h⟩ k else u.msgToHost ing k) := by
  refine congrArg Host.Outcome.next ((State.whenLink_on on _).trans ?_)
  rw [taken]

theorem execMsgRequest_grove (on : s.domOn dLink = true) (taken : s.takeWhere (fun k => !k.rsp && k.typ == 2) = some (ing, k, u)) (valid : k.msgValid = true)
    (ep : k.arg.toNat % 8 = n.val) : exec .msgRequest s = .next (u.msgToGrove ing n k) := by
  rw [execMsgRequest_taken on taken, if_neg (by rw [valid, ep, decide_eq_false (by omega)]; simp), dif_pos (by omega)]
  simp only [ep]

theorem execMsgRequest_host (on : s.domOn dLink = true) (taken : s.takeWhere (fun k => !k.rsp && k.typ == 2) = some (ing, k, u)) (valid : k.msgValid = true)
    (ep : k.arg.toNat % 8 = 4) : exec .msgRequest s = .next (u.msgToHost ing k) := by
  rw [execMsgRequest_taken on taken, if_neg (by simp [valid, ep]), dif_neg (by omega)]

theorem State.msgToGrove_refused (full : u.chOn n = false ∨ u.mboxSlot n = none) : u.msgToGrove ing n k = u.msgRefused ing n.val k := by
  unfold State.msgToGrove
  split
  · rfl
  · next on =>
    rw [full.resolve_left (by simpa using on)]

theorem State.msgToGrove_stored (on : u.chOn n = true) {q : Nat} (slot : u.mboxSlot n = some q) :
    u.msgToGrove ing n k = (u.mboxStore n q k).msgDone k := by
  refine (if_neg (by simp [on])).trans ?_
  rw [slot]

theorem State.msgDone_eq (s : State) (k : Pkt) : s.msgDone k = if k.asks = false then s else s.send fromLodge (k.response s.nodeId 0 [] 0) := by
  unfold State.msgDone
  cases k.asks
  · rfl
  · exact s.reply_plain k [] (by decide) (by decide)

/-- A register write beside a change of the host receive buffer. -/
theorem OnlyRegs.withHrx {l : List (Nat × Word)} {s t : State} {x : List Hrx} (h : OnlyRegs l { s with fab.hrx := x } t) :
    OnlyRegs l s { t with fab.hrx := s.fab.hrx } :=
  ⟨h.1, h.2.1, show ({ t.rest with fab.hrx := s.fab.hrx } : State) = s.rest by rw [h.2.2]; rfl⟩

/-- A register write beside a packet taken from the queue. -/
theorem OnlyRegs.withInq {l : List (Nat × Word)} {s u t : State} (hu : u = { s with inq := u.inq }) (h : OnlyRegs l u t) :
    OnlyRegs l s { t with inq := s.inq } := by
  rw [hu] at h
  exact ⟨h.1, h.2.1, show ({ t.rest with inq := s.inq } : State) = s.rest by rw [h.2.2]; rfl⟩

/-- A packet stands in the host receive buffer. -/
def State.hrxTake (s : State) (k : Pkt) (evt : Bool) : State :=
  ({ s with fab.hrx := s.fab.hrx ++ [Hrx.mk k.src evt k.len k.data] }).wr R.TXN_IRQ_HRX 0 1

theorem State.hrxTake_shows (hu : u = { s with inq := u.inq }) (k : Pkt) (evt : Bool) : (u.hrxTake k evt).rd R.TXN_IRQ_HRX 0 = 1 ∧
    (u.hrxTake k evt).inq = u.inq ∧ (u.hrxTake k evt).fab.hrx = s.fab.hrx ++ [{ src := k.src, evt := evt, len := k.len, data := k.data }] ∧
    OnlyRegs [R.TXN_IRQ_HRX.at 0] s { u.hrxTake k evt with fab.hrx := s.fab.hrx, inq := s.inq } := by
  have held : u.fab.hrx = s.fab.hrx := by rw [hu]

  refine ⟨?_, ?_, ?_, ?_⟩
  · unfold State.hrxTake
    exact State.rd_wr_lt (by decide) (by decide) _ _
  · rw [State.hrxTake, State.wr_inq]
  · rw [← held, State.hrxTake, State.wr_fab]
  · rw [← held]
    have taken : OnlyRegs [R.TXN_IRQ_HRX.at 0] { u with fab.hrx := u.fab.hrx ++ [Hrx.mk k.src evt k.len k.data] } (u.hrxTake k evt) :=
      (OnlyRegs.refl _ _).wr _ _ _ (by decide) (by simp)
    have moved := taken.withHrx
    generalize u.hrxTake k evt = v at moved ⊢
    exact OnlyRegs.withInq hu moved

theorem State.msgRefused_posted (posted : k.asks = false) : s.msgRefused ing 4 k = s.wr R.TXN_IRQ_HRX_FULL 0 1 := by
  rw [State.msgRefused, if_pos (.inl rfl)]
  exact State.turnAway_posted posted (by decide)

theorem Pkt.haltValid_iff (k : Pkt) : k.haltValid = true ↔ k.vc = 0 ∧ k.asks = false ∧ k.dr = false ∧ k.len = 4 := by simp [Pkt.haltValid, and_assoc]

theorem State.haltPacket_taken {op : Nat} {f : State → State}
    (taken : s.takeWhere (fun k => k.typ == 8 && !k.rsp && (k.data.getD 0 0#32).toNat % 2 == op) = some (ing, k, u)) :
    s.haltPacket op f = if !k.haltValid then u.turnAway ing k 5 else f u := by rw [State.haltPacket, taken]

theorem State.haltPacket_none {op : Nat} {f : State → State}
    (none' : s.takeWhere (fun k => k.typ == 8 && !k.rsp && (k.data.getD 0 0#32).toNat % 2 == op) = none) : s.haltPacket op f = s := by
  rw [State.haltPacket, none']

end

/-- Settles O42, by the endpoint of each packet. -/
theorem messagesDelivered : Obligations.MessagesDelivered := by
  unfold Obligations.MessagesDelivered
  intro s on
  refine ⟨fun f a ing k b => State.takeWhere_first, fun f => State.takeWhere_none, fun none' => ?_,
    fun ing k u taken => ⟨fun bad => ?_, fun n valid ep => ⟨fun full => ?_, fun q powered lt free held => ?_⟩, fun valid ep room => ?_, fun valid ep full => ?_⟩,
    fun ing k posted => ?_, fun none' => ?_, fun ing k u taken => ⟨fun room => ?_, fun full => ?_⟩, fun op none' => ⟨fun h => ?_, fun h => ?_⟩,
    fun op ing k u taken => ?_, Pkt.haltValid_iff, fun ing k => State.turnAway_bad⟩
  case refine_1 =>
    refine congrArg Host.Outcome.next ((State.whenLink_on on _).trans ?_)
    rw [none']
  case refine_2 =>
    refine (execMsgRequest_taken on taken).trans (congrArg Host.Outcome.next (if_pos ?_))
    rcases bad with h | h <;> simp [h]
  case refine_3 =>
    obtain ⟨hu, -⟩ := State.takeWhere_frame taken
    refine (execMsgRequest_grove on taken valid ep).trans (congrArg Host.Outcome.next (State.msgToGrove_refused ?_))
    rw [hu]
    exact full
  case refine_4 =>
    obtain ⟨hu, -⟩ := State.takeWhere_frame taken
    have powered' : u.chOn n = true := (congrArg (fun t : State => t.chOn n) hu).trans powered
    have slot : u.mboxSlot n = some q := (congrArg (fun t : State => t.mboxSlot n) hu).trans (State.mboxSlot_first lt free held)
    refine ⟨u.mboxStore n q k, (execMsgRequest_grove on taken valid ep).trans (congrArg Host.Outcome.next ?_), State.mboxStore_shows powered' lt k⟩
    rw [State.msgToGrove_stored powered' slot, State.msgDone_eq]
  case refine_5 =>
    obtain ⟨hu, -⟩ := State.takeWhere_frame taken
    obtain ⟨irq, -, held, kept⟩ := State.hrxTake_shows hu k false
    have room' : u.fab.hrx.length < 4 := by rw [hu]; exact room
    refine ⟨u.hrxTake k false, irq, held, kept, (execMsgRequest_host on taken valid ep).trans (congrArg Host.Outcome.next ((if_pos room').trans ?_))⟩
    exact State.msgDone_eq _ _
  case refine_6 =>
    obtain ⟨hu, -⟩ := State.takeWhere_frame taken
    have full' : ¬ u.fab.hrx.length < 4 := by rw [hu]; exact Nat.not_lt.2 full
    exact (execMsgRequest_host on taken valid ep).trans (congrArg Host.Outcome.next (if_neg full'))
  case refine_7 =>
    exact ⟨_, State.msgRefused_posted (by simp [Pkt.asks, posted]), State.rd_wr_lt (by decide) (by decide) _ _, (OnlyRegs.refl _ s).wr _ _ _ (by decide) (by simp)⟩
  case refine_8 =>
    refine congrArg Host.Outcome.next ((State.whenLink_on on _).trans ?_)
    rw [none']
  case refine_9 =>
    obtain ⟨hu, -⟩ := State.takeWhere_frame taken
    obtain ⟨irq, queue, held, kept⟩ := State.hrxTake_shows hu k true
    have room' : u.fab.hrx.length < 4 := by rw [hu]; exact room
    refine ⟨u.hrxTake k true, congrArg Host.Outcome.next ((State.whenLink_on on _).trans ?_), irq, queue, held, kept⟩
    rw [taken]
    exact if_pos room'
  case refine_10 =>
    obtain ⟨hu, -⟩ := State.takeWhere_frame taken
    have full' : ¬ u.fab.hrx.length < 4 := by rw [hu]; exact Nat.not_lt.2 full
    refine ⟨_, congrArg Host.Outcome.next ((State.whenLink_on on _).trans ?_), State.rd_wr_lt (by decide) (by decide) u 0,
      (OnlyRegs.refl _ u).wr R.TXN_IRQ_HRX_FULL 0 1 (by decide) (by simp)⟩
    rw [taken]
    exact if_neg full'
  case refine_11 =>
    subst h
    exact congrArg Host.Outcome.next ((State.whenLink_on on _).trans (State.haltPacket_none none'))
  case refine_12 =>
    subst h
    exact congrArg Host.Outcome.next ((State.whenLink_on on _).trans (State.haltPacket_none none'))
  case refine_13 =>
    obtain ⟨hu, -⟩ := State.takeWhere_frame taken
    have same : u.rd R.FBK_STATUS_HALTED 0 = s.rd R.FBK_STATUS_HALTED 0 := (congrArg (fun t : State => t.rd R.FBK_STATUS_HALTED 0) hu).trans rfl
    refine ⟨fun valid => ⟨fun h => ?_, fun h idle => ?_, fun h halted => ?_⟩, fun bad => ⟨fun h => ?_, fun h => ?_⟩⟩
    · subst h
      exact congrArg Host.Outcome.next ((State.whenLink_on on _).trans ((State.haltPacket_taken taken).trans (if_neg (by simp [valid]))))
    · subst h
      exact congrArg Host.Outcome.next ((State.whenLink_on on _).trans ((State.haltPacket_taken taken).trans ((if_neg (by simp [valid])).trans
        (State.release_idle (same.trans idle)))))
    · subst h
      have low : u.haltLow = s.haltLow := (congrArg State.haltLow hu).trans rfl
      have pend : u.relPend = s.relPend := (congrArg State.relPend hu).trans rfl
      obtain ⟨driving, pin, kept⟩ := u.released_shows
      rw [low] at pin
      rw [pend] at kept
      exact ⟨_, congrArg Host.Outcome.next ((State.whenLink_on on _).trans ((State.haltPacket_taken taken).trans ((if_neg (by simp [valid])).trans
        (State.release_halted (by rw [same]; exact halted))))), driving, rfl, pin, kept⟩
    · subst h
      exact congrArg Host.Outcome.next ((State.whenLink_on on _).trans ((State.haltPacket_taken taken).trans (if_pos (by simp [bad]))))
    · subst h
      exact congrArg Host.Outcome.next ((State.whenLink_on on _).trans ((State.haltPacket_taken taken).trans (if_pos (by simp [bad]))))

end Sys2Proof.Machine

/-! SUPPORT. O43: the records that the Lodge consumes. -/

namespace Sys2Proof.Machine

section
variable {s u : State} {k : Pkt} {ing : Nat}

/-! ### LINK_UP and LINK_DOWN (R434, R435) -/

theorem State.linkRecord_none {up : Bool} (none' : s.takeWhere (fun k => k.evtCode == (if up then 2 else 3)) = none) : s.linkRecord up = s := by
  rw [State.linkRecord, none']

/-- A link record at the root is work for the enumeration; elsewhere, and from an unknown device, it is dropped. -/
theorem State.linkRecord_taken {up : Bool} (taken : s.takeWhere (fun k => k.evtCode == (if up then 2 else 3)) = some (ing, k, u)) :
    (s.isRoot = false → s.linkRecord up = u) ∧
    (s.isRoot = true → s.fab.nodes.find? (fun x => x.id == k.src) = none → s.linkRecord up = u) ∧
    (∀ x, s.isRoot = true → s.fab.nodes.find? (fun x => x.id == k.src) = some x → s.linkRecord up =
      { u with fab.work := s.fab.work ++ [if up then .up x.uid ((k.data.getD 0 0#32).toNat % 4) else .down x.uid ((k.data.getD 0 0#32).toNat % 4)] }) := by
  obtain ⟨hu, -⟩ := State.takeWhere_frame taken
  have root : u.isRoot = s.isRoot := (congrArg State.isRoot hu).trans rfl
  have fab : u.fab = s.fab := (congrArg State.fab hu).trans rfl
  refine ⟨fun r => ?_, fun r known => ?_, fun x r known => ?_⟩
  all_goals
    unfold State.linkRecord
    rw [taken]
    dsimp only
    rw [root, r, fab]
  · rw [known]
  · rw [known]

/-! ### Beacons (R427, R428) -/

/-- The record of a beacon differs from the last one of its port in its UID or its SEQ. -/
def State.beaconAdvances (s : State) (p : Nat) (r : RootRec) : Bool :=
  match s.fab.last.toList.getD p none with
  | some x => x.uid != r.uid || x.seq != r.seq
  | none => true

/-- The record of port `p` is noted; its time too where its SEQ advanced. -/
def State.beaconNoted (s : State) (p : Nat) (r : RootRec) : State :=
  if s.beaconAdvances p r then
    { s with fab.last := s.fab.last.set! p (some r), fab.seen := s.fab.seen.set! p s.now }
  else { s with fab.last := s.fab.last.set! p (some r) }

theorem getD_set_self {α : Type} (v : Vector α 4) (p : Nat) (x d : α) (lt : p < 4) : (v.set! p x).toList.getD p d = x := by
  simp [List.getD, lt]

theorem State.beaconNoted_shows (s : State) {p : Nat} (lt : p < 4) (r : RootRec) :
    (s.beaconNoted p r).fab.last.toList.getD p none = some r ∧ (s.beaconNoted p r).regs = s.regs ∧ (s.beaconNoted p r).fab.held = s.fab.held ∧
    ((∀ x, s.fab.last.toList.getD p none = some x → x.uid ≠ r.uid ∨ x.seq ≠ r.seq) → (s.beaconNoted p r).fab.seen.toList.getD p 0 = s.now) := by
  unfold State.beaconNoted
  refine ⟨?_, ?_, ?_, fun advanced => ?_⟩
  · split <;> exact getD_set_self _ p _ _ lt
  · split <;> rfl
  · split <;> rfl
  · rw [if_pos]
    · exact getD_set_self _ p _ _ lt
    · unfold State.beaconAdvances
      split
      · next x held => simpa using advanced x held
      · rfl

/-- A beacon acts on the held record as R428 compares the two. -/
theorem execBeacon_taken {p : Nat} (on : s.domOn dLink = true) (taken : s.takeWhere (fun k => k.evtCode == 4) = some (p, k, u)) :
    exec .beacon s = .next (if 16 < (k.rootRec p).dist ∨ 4 ≤ p then u
      else match (u.beaconNoted p (k.rootRec p)).fab.held with
        | none => ((u.beaconNoted p (k.rootRec p)).setHeld (some (if (u.beaconNoted p (k.rootRec p)).eligible &&
            (u.beaconNoted p (k.rootRec p)).offer.beats (k.rootRec p) then (u.beaconNoted p (k.rootRec p)).offer else k.rootRec p))).settleAll
        | some h => if (k.rootRec p).beats h then ((u.beaconNoted p (k.rootRec p)).setHeld (some (k.rootRec p))).settleAll
          else u.beaconNoted p (k.rootRec p)) := by
  refine congrArg Host.Outcome.next ((State.whenLink_on on _).trans ?_)
  rw [taken]
  rfl

theorem RootRec.beats_order (a b : RootRec) : (a.est = true → b.est = false → a.beats b = true ∧ b.beats a = false) ∧
      (a.est = b.est → a.prio < b.prio → a.beats b = true ∧ b.beats a = false) ∧
      (a.est = b.est → a.prio = b.prio → a.uid < b.uid → a.beats b = true ∧ b.beats a = false) ∧
      (a.est = b.est → a.prio = b.prio → a.uid = b.uid → a.seq = (b.seq + 1) % 65536 → b.seq < 65536 → a.beats b = true ∧ b.beats a = false) ∧
      (a.est = b.est → a.prio = b.prio → a.uid = b.uid → a.seq = b.seq → a.dist < b.dist → a.beats b = true ∧ b.beats a = false) := by
  refine ⟨fun ha hb => ?_, fun est prio => ?_, fun est prio uid => ?_, fun est prio uid seq lt => ?_, fun est prio uid seq dist => ?_⟩
  · simp [RootRec.beats, ha, hb]
  · simp [RootRec.beats, est, prio, prio.ne, prio.ne']
    omega
  · simp [RootRec.beats, est, prio, uid, uid.ne, uid.ne']
    omega
  · have apart : a.seq ≠ b.seq := by omega
    simp [RootRec.beats, est, prio, uid, apart, apart.symm]
    omega
  · simp [RootRec.beats, est, prio, uid, seq, dist, dist.ne, dist.ne']
    omega

/-! ### TSYNC (R450) -/

theorem execTsyncQuery_taken (on : s.domOn dLink = true) (taken : s.takeWhere (fun k => k.typ == 5 && !k.rsp && !k.arg.getLsbD 0) = some (ing, k, u)) :
    exec .tsyncQuery s = .next (if k.vc ≠ 2 ∨ k.dr ∨ k.len ≠ 0 ∨ k.pst ∨ k.bcast ∨ k.arg.toNat ≠ 0 then (u.turnAway ing k 5).settleAll
      else u.reply k 0 [wd (u.ticks / 2 ^ 32), wd u.ticks, wd (u.canopy / 2 ^ 32 % 32), u.word (R.TIME_STATUS_SRC.addr 0)]) := by
  refine congrArg Host.Outcome.next ((State.whenLink_on on _).trans ?_)
  rw [taken]

/-- The root's counter takes the value of a SET. -/
def State.tsyncStep (s : State) (k : Pkt) : State :=
  (s.wrs 0 [(R.TIME_SET_HI, (k.data.getD 0 0#32).toNat), (R.TIME_SET_LO, (k.data.getD 1 0#32).toNat)]).timeSetRegs

theorem execTsyncSet_taken (on : s.domOn dLink = true) (taken : s.takeWhere (fun k => k.typ == 5 && !k.rsp && k.arg.getLsbD 0) = some (ing, k, u)) :
    exec .tsyncSet s = .next (if k.vc ≠ 2 ∨ k.dr ∨ k.len ≠ 8 ∨ k.arg.toNat ≠ 1 then u.turnAway ing k 5
      else if u.isRoot then (if k.pst || k.bcast then u.tsyncStep k else (u.tsyncStep k).reply k 0 [])
      else if k.pst || k.bcast then u else u.reply k 5 []) := by
  refine congrArg Host.Outcome.next ((State.whenLink_on on _).trans ?_)
  rw [taken]
  rfl

theorem Pkt.bcast_routed (plain : k.dr = false) : k.bcast = decide (k.dst = 0x3FF) := by
  simp only [Pkt.bcast, plain, Bool.not_false, Bool.true_and]
  rfl

theorem OnlyRegs.toCanopy {l : List (Nat × Word)} {s t : State} (h : OnlyRegs l s t) (c : Nat) : OnlyRegs l { s with canopy := c } { t with canopy := c } :=
  ⟨h.1, h.2.1, show ({ t.rest with canopy := c } : State) = { s.rest with canopy := c } by rw [h.2.2]⟩

theorem OnlyRegs.withCanopy {l : List (Nat × Word)} {s t : State} {c : Nat} (h : OnlyRegs l { s with canopy := c } t) :
    OnlyRegs l s { t with canopy := s.canopy } :=
  ⟨h.1, h.2.1, show ({ t.rest with canopy := s.canopy } : State) = s.rest by rw [h.2.2]; rfl⟩

/-- A SET at the root steps its counter to the value of the two words. -/
theorem State.tsyncStep_shows {hi lo : Word} {l : List Word} (data : k.data = hi :: lo :: l) (root : s.rd R.TIME_STATUS_SRC 0 = 1) :
    (s.tsyncStep k).ticks = hi.toNat * 2 ^ 32 + lo.toNat ∧ (s.tsyncStep k).rd R.TIME_IRQ_STEP 0 = 1 ∧
    OnlyRegs [R.TIME_IRQ_STEP.at 0, R.TIME_SET_HI.at 0, R.TIME_SET_LO.at 0] s { s.tsyncStep k with canopy := s.canopy } := by
  have src : (s.wrs 0 [(R.TIME_SET_HI, hi.toNat), (R.TIME_SET_LO, lo.toNat)]).rd R.TIME_STATUS_SRC 0 = 1 := by
    simp (disch := decide) only [State.wrs, State.rd_wr_sep, root]
  have setHi : (s.wrs 0 [(R.TIME_SET_HI, hi.toNat), (R.TIME_SET_LO, lo.toNat)]).rd R.TIME_SET_HI 0 = hi.toNat := by
    simp (disch := decide) only [State.wrs, State.rd_wr_sep]
    exact State.rd_wr_lt (by decide) hi.isLt _ _
  have setLo : (s.wrs 0 [(R.TIME_SET_HI, hi.toNat), (R.TIME_SET_LO, lo.toNat)]).rd R.TIME_SET_LO 0 = lo.toNat := by
    simp only [State.wrs]
    exact State.rd_wr_lt (by decide) lo.isLt _ _
  have only : OnlyRegs [R.TIME_IRQ_STEP.at 0, R.TIME_SET_HI.at 0, R.TIME_SET_LO.at 0] s (s.wrs 0 [(R.TIME_SET_HI, hi.toNat), (R.TIME_SET_LO, lo.toNat)]) :=
    (OnlyRegs.refl _ s).wrs _ _ (by simp +decide)

  have step : s.tsyncStep k = (s.wrs 0 [(R.TIME_SET_HI, hi.toNat), (R.TIME_SET_LO, lo.toNat)]).timeSetRegs := by
    rw [State.tsyncStep, data]
    rfl
  rw [step]
  generalize s.wrs 0 [(R.TIME_SET_HI, hi.toNat), (R.TIME_SET_LO, lo.toNat)] = t at src setHi setLo only ⊢
  have set : t.timeSetRegs = ({ t with canopy := (hi.toNat * 2 ^ 32 + lo.toNat) % 2 ^ 64 * 2 ^ 37 } : State).wr R.TIME_IRQ_STEP 0 1 := by
    rw [State.timeSetRegs, setHi, setLo, State.timeSet, if_pos src]
  rw [set]
  refine ⟨?_, State.rd_wr_lt (by decide) (by decide) _ _, ?_⟩
  · have high := hi.isLt
    have low := lo.isLt
    rw [State.ticks, State.wr_canopy]
    dsimp only
    omega
  · exact ((only.toCanopy _).wr R.TIME_IRQ_STEP 0 1 (by decide) (by simp)).withCanopy

end

/-- Settles O43, by the kind of each record and the comparison of R428. -/
theorem lodgeRecords : Obligations.LodgeRecords := by
  unfold Obligations.LodgeRecords
  intro s on
  refine ⟨fun none' => ?_, fun none' => ?_, fun ing k u taken => ?_, fun ing k u taken => ?_, fun none' => ?_, fun p k u taken far => ?_, fun p k u taken near lt => ?_,
    RootRec.beats_order, fun none' => ?_, fun ing k u taken => ⟨fun vc dr len pst dst arg => ?_, fun bad => ?_⟩, fun none' => ?_,
    fun ing k u taken => ⟨fun bad => ?_, fun vc dr len arg => ⟨fun root quiet => ?_, fun root pst dst => ?_, fun hi lo l data root src => ?_⟩⟩⟩
  case refine_1 => exact congrArg Host.Outcome.next ((State.whenLink_on on _).trans (State.linkRecord_none (up := true) none'))
  case refine_2 => exact congrArg Host.Outcome.next ((State.whenLink_on on _).trans (State.linkRecord_none (up := false) none'))
  case refine_3 =>
    obtain ⟨leaf, unknown, known⟩ := State.linkRecord_taken (up := true) taken
    exact ⟨fun r => congrArg Host.Outcome.next ((State.whenLink_on on _).trans (leaf r)), fun r h => congrArg Host.Outcome.next ((State.whenLink_on on _).trans (unknown r h)),
      fun x r h => congrArg Host.Outcome.next ((State.whenLink_on on _).trans (known x r h))⟩
  case refine_4 =>
    obtain ⟨leaf, unknown, known⟩ := State.linkRecord_taken (up := false) taken
    exact ⟨fun r => congrArg Host.Outcome.next ((State.whenLink_on on _).trans (leaf r)), fun r h => congrArg Host.Outcome.next ((State.whenLink_on on _).trans (unknown r h)),
      fun x r h => congrArg Host.Outcome.next ((State.whenLink_on on _).trans (known x r h))⟩
  case refine_5 =>
    refine congrArg Host.Outcome.next ((State.whenLink_on on _).trans ?_)
    rw [none']
  case refine_6 => exact (execBeacon_taken on taken).trans (congrArg Host.Outcome.next (if_pos far))
  case refine_7 =>
    obtain ⟨hu, -⟩ := State.takeWhere_frame taken
    have fab : u.fab = s.fab := (congrArg State.fab hu).trans rfl
    have regs : u.regs = s.regs := (congrArg State.regs hu).trans rfl
    have now : u.now = s.now := (congrArg State.now hu).trans rfl
    have run := execBeacon_taken on taken
    rw [if_neg (by omega)] at run
    obtain ⟨last, kept, held, seen⟩ := u.beaconNoted_shows lt (k.rootRec p)
    have eligible : (u.beaconNoted p (k.rootRec p)).eligible = s.eligible := by simp only [State.eligible, State.on, State.rd_of_regs (kept.trans regs)]
    have offer : (u.beaconNoted p (k.rootRec p)).offer = s.offer := by
      simp only [State.offer, State.uid, State.nodeId, State.on, State.rd_of_regs (kept.trans regs)]
      rfl
    rw [fab] at held seen
    rw [now] at seen
    rw [held, eligible, offer] at run
    refine ⟨u.beaconNoted p (k.rootRec p), last, kept.trans regs, held, seen, fun idle out => ?_, fun idle may best => ?_, fun h has better => ?_, fun h has worse => ?_⟩
    · rw [idle] at run
      refine run.trans ?_
      rcases out with h | h <;> rw [h] <;> simp
    · rw [idle, may, best] at run
      exact run
    · rw [has] at run
      exact run.trans (congrArg Host.Outcome.next (if_pos better))
    · rw [has] at run
      exact run.trans (congrArg Host.Outcome.next (if_neg (by simp [worse])))
  case refine_8 =>
    refine congrArg Host.Outcome.next ((State.whenLink_on on _).trans ?_)
    rw [none']
  case refine_9 =>
    obtain ⟨hu, -⟩ := State.takeWhere_frame taken
    refine (execTsyncQuery_taken on taken).trans (congrArg Host.Outcome.next ((if_neg (by simp [vc, dr, len, pst, arg, dst, Pkt.bcast_routed dr])).trans
      ((u.reply_plain k _ (by decide) (by decide)).trans ?_)))
    rw [show u.nodeId = s.nodeId from (congrArg State.nodeId hu).trans rfl, show u.ticks = s.ticks from (congrArg State.ticks hu).trans rfl,
      show u.canopy = s.canopy from (congrArg State.canopy hu).trans rfl,
      show u.word (R.TIME_STATUS_SRC.addr 0) = s.word (R.TIME_STATUS_SRC.addr 0) from (congrArg (fun t : State => t.word (R.TIME_STATUS_SRC.addr 0)) hu).trans rfl]
    rfl
  case refine_10 =>
    refine (execTsyncQuery_taken on taken).trans (congrArg Host.Outcome.next (if_pos ?_))
    by_cases dr : k.dr = true
    · exact .inr (.inl dr)
    · have routed := Pkt.bcast_routed (k := k) (by simpa using dr)
      rw [routed]
      simpa using bad
  case refine_11 =>
    refine congrArg Host.Outcome.next ((State.whenLink_on on _).trans ?_)
    rw [none']
  case refine_12 => exact (execTsyncSet_taken on taken).trans (congrArg Host.Outcome.next (if_pos bad))
  case refine_13 =>
    obtain ⟨hu, -⟩ := State.takeWhere_frame taken
    have leaf : u.isRoot = false := ((congrArg State.isRoot hu).trans rfl).trans root
    exact (execTsyncSet_taken on taken).trans (congrArg Host.Outcome.next ((if_neg (by simp [vc, dr, len, arg])).trans ((if_neg (by simp [leaf])).trans
      (if_pos (by simpa [Pkt.bcast_routed dr] using quiet)))))
  case refine_14 =>
    obtain ⟨hu, -⟩ := State.takeWhere_frame taken
    have leaf : u.isRoot = false := ((congrArg State.isRoot hu).trans rfl).trans root
    refine (execTsyncSet_taken on taken).trans (congrArg Host.Outcome.next ((if_neg (by simp [vc, dr, len, arg])).trans ((if_neg (by simp [leaf])).trans
      ((if_neg (by simp [pst, dst, Pkt.bcast_routed dr])).trans ((u.reply_plain k _ (by decide) (by decide)).trans ?_)))))
    rw [show u.nodeId = s.nodeId from (congrArg State.nodeId hu).trans rfl]
    rfl
  case refine_15 =>
    obtain ⟨hu, -⟩ := State.takeWhere_frame taken
    have isRoot : u.isRoot = true := ((congrArg State.isRoot hu).trans rfl).trans root
    have src' : u.rd R.TIME_STATUS_SRC 0 = 1 := ((congrArg (fun t : State => t.rd R.TIME_STATUS_SRC 0) hu).trans rfl).trans src
    have clock : u.canopy = s.canopy := (congrArg State.canopy hu).trans rfl
    obtain ⟨ticks, irq, only⟩ := State.tsyncStep_shows data src'
    refine ⟨u.tsyncStep k, (execTsyncSet_taken on taken).trans (congrArg Host.Outcome.next ((if_neg (by simp [vc, dr, len, arg])).trans ((if_pos isRoot).trans ?_))),
      ticks, irq, ?_⟩
    · refine if_congr (by simp [Pkt.bcast_routed dr]) rfl ?_
      exact State.reply_plain _ k [] (by decide) (by decide)
    · rw [clock] at only
      generalize u.tsyncStep k = v at only ⊢
      exact OnlyRegs.withInq hu only

end Sys2Proof.Machine

/-! SUPPORT. O44: the transactions of the host. -/

namespace Sys2Proof.Machine

section
variable {s t u : State} {k : Pkt} {n : Nat}

/-! ### Tags (R418, R419) -/

theorem State.tag_setTag (s : State) {n : Nat} (lt : n < 64) (x : Tag) : (s.setTag n x).tag n = x := by
  simp [State.tag, State.setTag, List.getD, lt]

theorem State.tag_setTag_ne (s : State) {n j : Nat} (h : j ≠ n) (x : Tag) : (s.setTag n x).tag j = s.tag j := by
  simp [State.tag, State.setTag, List.getD, h.symm]

theorem State.rd_setTag (s : State) (n : Nat) (x : Tag) (f : Fld) (i : Nat) : (s.setTag n x).rd f i = s.rd f i := rfl

theorem State.tag_of_fab (e : t.fab.tags = s.fab.tags) (j : Nat) : t.tag j = s.tag j := by rw [State.tag, e, State.tag]

theorem State.freeTag_eq (s : State) (n : Nat) : s.freeTag false = some n ↔ n < 56 ∧ (s.tag n).st = 0 ∧ ∀ j < n, (s.tag j).st ≠ 0 := by
  rw [State.freeTag, List.find?_filter, List.find?_range_eq_some]
  constructor
  · rintro ⟨hit, -, before⟩
    simp only [Bool.false_or, decide_eq_true_eq, beq_iff_eq] at hit
    refine ⟨hit.1, hit.2, fun j hj idle => ?_⟩
    have miss := before j hj
    simp [idle] at miss
    omega
  · rintro ⟨lt, idle, before⟩
    refine ⟨by simp [lt, idle], by simp; omega, fun j hj => ?_⟩
    simp [before j hj]

theorem State.freeTag_none (busy : ∀ j : Nat, j < 56 → (s.tag j).st ≠ 0) : s.freeTag false = none := by
  rcases h : s.freeTag false with _ | n
  · rfl
  · obtain ⟨lt, idle, -⟩ := (s.freeTag_eq n).1 h
    exact absurd idle (busy n lt)

theorem OnlyRegs.toTags {l : List (Nat × Word)} (h : OnlyRegs l s t) (x : Vector Tag 64) : OnlyRegs l { s with fab.tags := x } { t with fab.tags := x } := by
  refine ⟨h.1, h.2.1, ?_⟩
  have fab : t.fab = s.fab := show t.rest.fab = s.rest.fab by rw [h.2.2]
  rw [fab]
  exact show ({ t.rest with fab := { s.fab with tags := x } } : State) = { s.rest with fab := { s.fab with tags := x } } by rw [h.2.2]

theorem OnlyRegs.withTags {l : List (Nat × Word)} {x : Vector Tag 64} (h : OnlyRegs l { s with fab.tags := x } t) :
    OnlyRegs l s { t with fab.tags := s.fab.tags } :=
  ⟨h.1, h.2.1, show ({ t.rest with fab.tags := s.fab.tags } : State) = s.rest by rw [h.2.2]; rfl⟩

/-! ### The result of the host's transaction (R442) -/

theorem State.wrs_nil (s : State) (i : Nat) : s.wrs i [] = s := rfl

theorem State.hostResult_eq (s : State) (tag status : Nat) : s.hostResult tag status [] =
    s.wrs 0 [(R.TXN_RSLT_VALID, 1), (R.TXN_RSLT_STATUS, status), (R.TXN_RSLT_TAG, tag), (R.TXN_IRQ_DONE, 1)] := by
  rw [State.hostResult, List.zip_nil_right, List.map_nil]
  exact State.wrs_nil _ _

/-- The fields of the result. -/
def resultFields : List (Nat × Word) := [R.TXN_RSLT_VALID.at 0, R.TXN_RSLT_STATUS.at 0, R.TXN_RSLT_TAG.at 0, R.TXN_IRQ_DONE.at 0]

theorem State.hostResult_shows (s : State) (tag status : Nat) : (s.hostResult tag status []).rd R.TXN_RSLT_VALID 0 = 1 ∧
    (s.hostResult tag status []).rd R.TXN_RSLT_STATUS 0 = status % 16 ∧ (s.hostResult tag status []).rd R.TXN_RSLT_TAG 0 = tag % 64 ∧
    (s.hostResult tag status []).rd R.TXN_IRQ_DONE 0 = 1 := by
  rw [State.hostResult_eq]
  refine ⟨?_, ?_, ?_, ?_⟩
  · simp (disch := decide) only [State.wrs, State.rd_wr_sep, State.rd_wr_lt]
  · simp (disch := decide) only [State.wrs, State.rd_wr_sep]
    exact State.rd_wr _ _ _ _ (by decide)
  · simp (disch := decide) only [State.wrs, State.rd_wr_sep]
    exact State.rd_wr _ _ _ _ (by decide)
  · simp (disch := decide) only [State.wrs, State.rd_wr_lt]

theorem OnlyRegs.hostResult {l : List (Nat × Word)} (h : OnlyRegs l s t) (c : ∀ a ∈ resultFields, a ∈ l) (tag status : Nat) :
    OnlyRegs l s (t.hostResult tag status []) := by
  simp only [resultFields, List.forall_mem_cons] at c
  rw [State.hostResult_eq]
  exact h.wrs _ _ (by simp +decide [c])

theorem State.hostResult_fab (s : State) (tag status : Nat) : (s.hostResult tag status []).fab = s.fab := by rw [State.hostResult_eq, State.wrs_fab]

/-! ### GO (R418, R442) -/

theorem State.rd_wr_word (s : State) {f g : Fld} {i j : Nat} (apart : g.addr j ≠ f.addr i) (v : Nat) : (s.wr f i v).rd g j = s.rd g j := by
  rw [State.rd, State.word_wr, if_neg apart.symm, State.rd]

/-- The request as the values of its fields spell it. -/
def requestOf (typ vc dst : Nat) (pst : Bool) (n a : Nat) (me : Option Nat) (data : Nat → Word) : Option Pkt :=
  if 32 < n then none
  else if typ = 0 then
    if vc = 2 ∧ !pst ∧ a % 4 = 0 then some (reqPkt me 0 2 dst false (wd ((n - 1) * 2 ^ 24 + a)) 0 []) else none
  else if typ = 1 then
    if vc = 2 ∧ a % 4 = 0 then some (reqPkt me 1 2 dst pst (wd ((n - 1) * 2 ^ 24 + a)) (4 * n) ((List.range n).map data)) else none
  else if typ = 2 then
    if vc = 2 ∨ (vc = 3 ∧ pst) then some (reqPkt me 2 vc dst pst (wd (a % 8)) (4 * n) ((List.range n).map data)) else none
  else none

theorem State.hostPkt_eq (s : State) : s.hostPkt = requestOf (s.rd R.TXN_REQ_TYPE 0) (s.rd R.TXN_REQ_VC 0) (s.rd R.TXN_REQ_DST 0)
    (s.on R.TXN_REQ_PST 0 || decide (s.rd R.TXN_REQ_DST 0 = 0x3FF)) (s.rd R.TXN_REQ_COUNT 0 + 1) (s.rd R.TXN_ADDR 0) s.nodeId
    fun j => s.rdw (R.TXN_DATA.nth j) 0 := rfl

theorem State.hostPkt_wr (s : State) (v : Nat) : (s.wr R.TXN_RSLT_VALID 0 v).hostPkt = s.hostPkt := by
  have data : (fun j => (s.wr R.TXN_RSLT_VALID 0 v).rdw (R.TXN_DATA.nth j) 0) = fun j => s.rdw (R.TXN_DATA.nth j) 0 := by
    funext j
    refine congrArg wd (s.rd_wr_word ?_ v)
    simp only [Fld.addr, Fld.nth, R.TXN_DATA, R.TXN_RSLT_VALID]
    omega
  rw [State.hostPkt_eq, State.hostPkt_eq, data, State.nodeId_wr (by decide) (by decide), State.on, State.on]
  simp (disch := decide) only [State.rd_wr_sep]

theorem State.txnGo_bad (idle : s.hostBusy = false) (bad : s.hostPkt = none) : s.txnGo = (s.wr R.TXN_RSLT_VALID 0 0).hostResult 0 5 [] := by
  refine (if_neg (by simp [idle])).trans ?_
  dsimp only
  rw [State.hostPkt_wr, bad]

theorem State.txnGo_posted (idle : s.hostBusy = false) (req : s.hostPkt = some k) (posted : k.pst = true) :
    s.txnGo = (((s.wr R.TXN_RSLT_VALID 0 0).incWrap R.TXN_SENT 0).send fromHost k).hostResult 0 0 [] := by
  refine (if_neg (by simp [idle])).trans ?_
  dsimp only
  rw [State.hostPkt_wr, req]
  exact if_pos posted

/-- The host's request takes tag `n`. -/
def State.txnTagged (s : State) (k : Pkt) (n : Nat) : State :=
  ((s.wr R.TXN_RSLT_VALID 0 0).setTag n { st := 1, owner := 0, last := (s.tag n).last, dst := k.dst, dr := k.dr, use := .host }).incWrap R.TXN_SENT 0

theorem State.tag_wr (s : State) (f : Fld) (i v n : Nat) : (s.wr f i v).tag n = s.tag n := rfl

theorem State.freeTag_wr (s : State) (f : Fld) (i v : Nat) (b : Bool) : (s.wr f i v).freeTag b = s.freeTag b := rfl

theorem State.request_host_none (none' : s.freeTag false = none) : (s.wr R.TXN_RSLT_VALID 0 0).request fromHost 0 .host k = none := by
  rw [State.request, State.freeTag_wr, show ((0 == 1 || 0 == 8) : Bool) = false from rfl, none']

theorem State.request_host_some (free : s.freeTag false = some n) :
    (s.wr R.TXN_RSLT_VALID 0 0).request fromHost 0 .host k = some (n, (s.txnTagged k n).send fromHost { k with tag := n }) := by
  rw [State.request, State.freeTag_wr, show ((0 == 1 || 0 == 8) : Bool) = false from rfl, free]
  dsimp only
  rw [State.tag_wr, State.txnTagged]

theorem State.txnGo_full (idle : s.hostBusy = false) (req : s.hostPkt = some k) (plain : k.pst = false) (none' : s.freeTag false = none) :
    s.txnGo = (s.wr R.TXN_RSLT_VALID 0 0).hostResult 0 6 [] := by
  refine (if_neg (by simp [idle])).trans ?_
  dsimp only
  rw [State.hostPkt_wr, req]
  refine (if_neg (by simp [plain])).trans ?_
  rw [State.request_host_none none']

theorem State.txnGo_sent (idle : s.hostBusy = false) (req : s.hostPkt = some k) (plain : k.pst = false) (free : s.freeTag false = some n) :
    s.txnGo = (s.txnTagged k n).send fromHost { k with tag := n } := by
  refine (if_neg (by simp [idle])).trans ?_
  dsimp only
  rw [State.hostPkt_wr, req]
  refine (if_neg (by simp [plain])).trans ?_
  rw [State.request_host_some free]

theorem State.rd_incWrap {f : Fld} (hf : f.ok) (s : State) (i : Nat) : (s.incWrap f i).rd f i = (s.rd f i + 1) % f.size := State.rd_wr _ _ _ _ hf

/-- What the host's request shows as it goes out. -/
theorem State.txnTagged_shows (s : State) (k : Pkt) {n : Nat} (lt : n < 64) : ((s.txnTagged k n).tag n).st = 1 ∧ ((s.txnTagged k n).tag n).use = .host ∧
    ((s.txnTagged k n).tag n).dst = k.dst ∧ (s.txnTagged k n).rd R.TXN_RSLT_VALID 0 = 0 ∧
    (s.txnTagged k n).rd R.TXN_SENT 0 = (s.rd R.TXN_SENT 0 + 1) % R.TXN_SENT.size ∧
    OnlyRegs [R.TXN_RSLT_VALID.at 0, R.TXN_SENT.at 0] s { s.txnTagged k n with fab.tags := s.fab.tags } := by
  have tag : (s.txnTagged k n).tag n = { st := 1, owner := 0, last := (s.tag n).last, dst := k.dst, dr := k.dr, use := .host } :=
    (State.tag_of_fab (congrArg Fab.tags (State.wr_fab _ _ _ _)) n).trans (State.tag_setTag _ lt _)
  have only : OnlyRegs [R.TXN_RSLT_VALID.at 0, R.TXN_SENT.at 0] s (s.wr R.TXN_RSLT_VALID 0 0) := (OnlyRegs.refl _ s).wr _ _ _ (by decide) (by simp)
  have valid : (s.wr R.TXN_RSLT_VALID 0 0).rd R.TXN_RSLT_VALID 0 = 0 := State.rd_wr_lt (by decide) (by decide) s 0
  have sent : (s.wr R.TXN_RSLT_VALID 0 0).rd R.TXN_SENT 0 = s.rd R.TXN_SENT 0 := State.rd_wr_sep _ _ _ _ _ (by decide)
  refine ⟨by rw [tag], by rw [tag], by rw [tag], ?_, ?_, ?_⟩
  · rw [State.txnTagged, State.incWrap, State.rd_wr_sep _ _ _ _ _ (by decide), State.rd_setTag, valid]
  · rw [State.txnTagged, State.rd_incWrap (by decide), State.rd_setTag, sent]
  · exact ((only.toTags _).wr _ _ _ (by decide) (by simp)).withTags

/-! ### The end of a transaction (R419, R421) -/

/-- The tag ends, and its end counts. -/
def State.tagEnded (s : State) (n status : Nat) (own : Bool) : State :=
  if status = 2 then (s.setTag n { s.tag n with st := if own then 2 else 0, last := status, use := .none }).inc R.TXN_CNT_END_TIMEOUT 0
  else if status = 1 then (s.setTag n { s.tag n with st := if own then 2 else 0, last := status, use := .none }).inc R.TXN_CNT_END_NO_ROUTE 0
  else s.setTag n { s.tag n with st := if own then 2 else 0, last := status, use := .none }

theorem State.complete_host (host : (s.tag n).use = .host) (status : Nat) (own : Bool) (route : Word) (data : List Word) :
    s.complete n status own route data = (s.tagEnded n status own).hostResult n status data := by
  unfold State.complete
  dsimp only
  rw [host]
  rfl

theorem State.complete_none (unused : (s.tag n).use = .none) (status : Nat) (own : Bool) (route : Word) (data : List Word) :
    s.complete n status own route data = s.tagEnded n status own := by
  unfold State.complete
  dsimp only
  rw [unused]
  rfl

theorem State.tagEnded_plain {status : Nat} (h1 : status ≠ 1) (h2 : status ≠ 2) (own : Bool) :
    s.tagEnded n status own = s.setTag n { s.tag n with st := if own then 2 else 0, last := status, use := .none } :=
  (if_neg h2).trans (if_neg h1)

theorem State.tagEnded_timeout (own : Bool) :
    s.tagEnded n 2 own = (s.setTag n { s.tag n with st := if own then 2 else 0, last := 2, use := .none }).inc R.TXN_CNT_END_TIMEOUT 0 := if_pos rfl

theorem State.tag_inc (s : State) (f : Fld) (i j : Nat) : (s.inc f i).tag j = s.tag j := by
  unfold State.inc
  split <;> rfl

/-- A response completes the host's tag. -/
theorem State.complete_shows (hu : u = { s with inq := u.inq }) (lt : k.tag < 64) (host : (u.tag k.tag).use = .host) (h1 : k.status ≠ 1) (h2 : k.status ≠ 2)
    (empty : k.data = []) (route : Word) : ∀ v, v = u.complete k.tag k.status (k.status == 1 && s.nodeId == some k.src) route k.data →
      (v.tag k.tag).st = 0 ∧ (v.tag k.tag).last = k.status ∧
          v.rd R.TXN_RSLT_VALID 0 = 1 ∧ v.rd R.TXN_RSLT_STATUS 0 = k.status % 16 ∧ v.rd R.TXN_RSLT_TAG 0 = k.tag ∧ v.rd R.TXN_IRQ_DONE 0 = 1 ∧
          (∀ j, j ≠ k.tag → v.tag j = s.tag j) ∧
          OnlyRegs [R.TXN_RSLT_VALID.at 0, R.TXN_RSLT_STATUS.at 0, R.TXN_RSLT_TAG.at 0, R.TXN_IRQ_DONE.at 0]
            s { v with fab.tags := s.fab.tags, inq := s.inq } := by
  intro v hv
  have fab : u.fab = s.fab := (congrArg State.fab hu).trans rfl
  have own : (k.status == 1 && s.nodeId == some k.src) = false := by simp [h1]
  rw [State.complete_host host, State.tagEnded_plain h1 h2, own, empty] at hv
  generalize hx : ({ u.tag k.tag with st := if false = true then 2 else 0, last := k.status, use := .none } : Tag) = x at hv
  have done (j : Nat) : v.tag j = (u.setTag k.tag x).tag j := by
    rw [hv]
    exact State.tag_of_fab (congrArg Fab.tags (State.hostResult_fab _ _ _)) j
  obtain ⟨valid, status, tag, irq⟩ := (u.setTag k.tag x).hostResult_shows k.tag k.status
  rw [← hv] at valid status tag irq
  refine ⟨?_, ?_, valid, status, tag.trans (Nat.mod_eq_of_lt lt), irq, fun j hj => ?_, ?_⟩
  · rw [done, State.tag_setTag _ lt, ← hx]
    rfl
  · rw [done, State.tag_setTag _ lt, ← hx]
  · rw [done, State.tag_setTag_ne _ hj]
    exact State.tag_of_fab (congrArg Fab.tags fab) j
  · have moved : OnlyRegs resultFields { u with fab.tags := u.fab.tags.set! k.tag x } v := by
      rw [hv]
      exact (OnlyRegs.refl _ _).hostResult (fun _ h => h) _ _
    have back := OnlyRegs.withInq hu moved.withTags
    rw [fab] at back
    exact back

/-- A timeout of the host's or of an unused tag. -/
theorem State.timeout_shows {n : Nat} (lt : n < 64) (use : (s.tag n).use = .host ∨ (s.tag n).use = .none) : ((s.complete n 2 true 0 []).tag n).st = 2 ∧
    ((s.complete n 2 true 0 []).tag n).last = 2 ∧
    (s.complete n 2 true 0 []).rd R.TXN_CNT_END_TIMEOUT 0 = min (s.rd R.TXN_CNT_END_TIMEOUT 0 + 1) (R.TXN_CNT_END_TIMEOUT.size - 1) := by
  have tag : (s.tagEnded n 2 true).tag n = { s.tag n with st := 2, last := 2, use := .none } := by
    rw [State.tagEnded_timeout, State.tag_inc, State.tag_setTag _ lt]
    rfl
  have count : (s.tagEnded n 2 true).rd R.TXN_CNT_END_TIMEOUT 0 = min (s.rd R.TXN_CNT_END_TIMEOUT 0 + 1) (R.TXN_CNT_END_TIMEOUT.size - 1) := by
    rw [State.tagEnded_timeout]
    exact State.rd_inc (by decide) _ 0
  rcases use with host | unused
  · rw [State.complete_host host]
    generalize s.tagEnded n 2 true = t at tag count
    have same : (t.hostResult n 2 []).tag n = t.tag n := State.tag_of_fab (congrArg Fab.tags (State.hostResult_fab _ _ _)) n
    rw [same, tag]
    refine ⟨rfl, rfl, ?_⟩
    rw [State.hostResult_eq]
    simp (disch := decide) only [State.wrs, State.rd_wr_sep, count]
  · rw [State.complete_none unused, tag]
    exact ⟨rfl, rfl, count⟩

/-! ### Responses -/

theorem State.response_completes {ing : Nat} (taken : s.takeWhere (·.rsp) = some (ing, k, u)) (open' : (s.tag k.tag).st = 1)
    (meets : (s.tag k.tag).dr = true ∨ k.src = (s.tag k.tag).dst ∨ k.status = 1) :
    s.response = u.complete k.tag k.status (k.status == 1 && s.nodeId == some k.src) k.route k.data := by
  obtain ⟨hu, -⟩ := State.takeWhere_frame taken
  have tag : u.tag k.tag = s.tag k.tag := (congrArg (fun t : State => t.tag k.tag) hu).trans rfl
  have id : u.nodeId = s.nodeId := (congrArg State.nodeId hu).trans rfl
  rw [State.response, taken]
  dsimp only
  rw [tag, id, if_pos]
  rw [open']
  rcases meets with h | h | h <;> simp [h]

theorem State.response_unmatched {ing : Nat} (taken : s.takeWhere (·.rsp) = some (ing, k, u))
    (other : (s.tag k.tag).st ≠ 1 ∨ ((s.tag k.tag).dr = false ∧ k.src ≠ (s.tag k.tag).dst ∧ k.status ≠ 1)) : s.response = u.dropNote ing 6 k := by
  obtain ⟨hu, -⟩ := State.takeWhere_frame taken
  have tag : u.tag k.tag = s.tag k.tag := (congrArg (fun t : State => t.tag k.tag) hu).trans rfl
  rw [State.response, taken]
  dsimp only
  rw [tag, if_neg]
  rcases other with h | ⟨h, h', h''⟩
  · simp [h]
  · simp [h, h', h'']

end

/-- Settles O44, by the tag that each command or response names. -/
theorem transactionsComplete : Obligations.TransactionsComplete := by
  unfold Obligations.TransactionsComplete
  intro s on
  have go {t : State} (e : s.txnGo = t) : exec .txnGo s = .next t := congrArg Host.Outcome.next ((State.whenLink_on on _).trans e)
  have answer {t : State} (e : s.response = t) : exec .transactionResponse s = .next t.after :=
    congrArg Host.Outcome.next ((State.whenLink_on on _).trans (congrArg State.after e))
  have refusal (status : Nat) : OnlyRegs resultFields s ((s.wr R.TXN_RSLT_VALID 0 0).hostResult 0 status []) :=
    ((OnlyRegs.refl _ s).wr _ _ _ (by decide) (by simp [resultFields])).hostResult (fun _ h => h) _ _
  refine ⟨fun busy => go (if_pos busy), fun idle bad => ?_, fun k idle req plain full => ?_, fun k idle req posted => ?_, fun k n idle req plain free => ?_,
    fun n free => (s.freeTag_eq n).1 free, fun none' => answer ?_, fun ing k u taken lt => ⟨fun open' host src h1 h2 empty => ?_,
      fun open' meets => answer (State.response_completes taken open' meets), fun other => answer (State.response_unmatched taken other)⟩, fun n => ⟨fun open' => ⟨?_, fun use h h' => ?_⟩,
      fun shut => ?_, fun held => ⟨?_, ?_⟩, fun free => ?_⟩, congrArg Host.Outcome.next (State.whenLink_on on _), ?_, ?_⟩
  case refine_1 =>
    obtain ⟨valid, status, -, irq⟩ := (s.wr R.TXN_RSLT_VALID 0 0).hostResult_shows 0 5
    exact ⟨_, go (State.txnGo_bad idle bad), valid, status, irq, refusal 5⟩
  case refine_2 =>
    obtain ⟨valid, status, -, irq⟩ := (s.wr R.TXN_RSLT_VALID 0 0).hostResult_shows 0 6
    exact ⟨_, go (State.txnGo_full idle req plain (State.freeTag_none full)), valid, status, irq, refusal 6⟩
  case refine_3 =>
    have only : OnlyRegs [R.TXN_RSLT_VALID.at 0, R.TXN_SENT.at 0] s (s.wr R.TXN_RSLT_VALID 0 0) := (OnlyRegs.refl _ s).wr _ _ _ (by decide) (by simp)
    refine ⟨(s.wr R.TXN_RSLT_VALID 0 0).incWrap R.TXN_SENT 0, ?_, ?_, only.wr _ _ _ (by decide) (by simp), go ((State.txnGo_posted idle req posted).trans (State.hostResult_eq _ _ _))⟩
    · rw [State.incWrap, State.rd_wr_sep _ _ _ _ _ (by decide)]
      exact State.rd_wr_lt (by decide) (by decide) s 0
    · rw [State.rd_incWrap (by decide), State.rd_wr_sep _ _ _ _ _ (by decide)]
  case refine_4 =>
    obtain ⟨lt, -, -⟩ := (s.freeTag_eq n).1 free
    obtain ⟨st, use, dst, valid, sent, kept⟩ := s.txnTagged_shows k (n := n) (by omega)
    exact ⟨s.txnTagged k n, st, use, dst, valid, sent, kept, go (State.txnGo_sent idle req plain free)⟩
  case refine_5 => rw [State.response, none']
  case refine_6 =>
    obtain ⟨hu, -⟩ := State.takeWhere_frame taken
    have tag : u.tag k.tag = s.tag k.tag := (congrArg (fun t : State => t.tag k.tag) hu).trans rfl
    exact ⟨_, answer (State.response_completes taken open' (.inr (.inl src))), State.complete_shows hu lt (by rw [tag, host]) h1 h2 empty k.route _ rfl⟩
  case refine_7 =>
    refine congrArg Host.Outcome.next ((State.whenLink_on on _).trans (congrArg State.after ?_))
    exact if_pos open'
  case refine_8 => exact State.timeout_shows n.isLt (by rw [h]; exact h')
  case refine_9 =>
    refine congrArg Host.Outcome.next ((State.whenLink_on on _).trans (congrArg State.after ?_))
    exact if_neg shut
  case refine_10 => exact congrArg Host.Outcome.next ((State.whenLink_on on _).trans (if_pos held))
  case refine_11 => rw [State.tag_setTag _ n.isLt]
  case refine_12 => exact congrArg Host.Outcome.next ((State.whenLink_on on _).trans (if_neg free))
  case refine_13 =>
    refine ⟨_, congrArg Host.Outcome.next (State.whenLink_on on _), ?_, ?_, ?_, ?_, ?_, (OnlyRegs.refl _ s).wrs _ _ (by simp +decide)⟩
    all_goals simp (disch := decide) only [State.txnCntClr, State.wrs, State.rd_wr_sep, State.rd_wr_lt]
  case refine_14 =>
    have run : s.fabCntClr = s.txnCntClr.wrs 0 [(R.ROUTE_NOROUTE_TX, 0), (R.ROUTE_DROPPED, 0), (R.ROUTE_FWD01_FWDH, 0),
        (R.ROUTE_FWD01_FWDL, 0), (R.ROUTE_FWD23_FWDH, 0), (R.ROUTE_FWD23_FWDL, 0)] := by rw [State.fabCntClr, State.whenLink_on on]
    refine ⟨_, congrArg Host.Outcome.next run, ?_, ?_, ?_, ?_, ?_, ?_, ?_, ?_, ?_, ?_, ?_, ((OnlyRegs.refl _ s).wrs _ _ (by simp +decide)).wrs _ _ (by simp +decide)⟩
    all_goals simp (disch := decide) only [State.txnCntClr, State.wrs, State.rd_wr_sep, State.rd_wr_lt]

end Sys2Proof.Machine

/-! SUPPORT. O45: routes, IDs and the election of a root. -/

namespace Sys2Proof.Machine

section
variable {s t : State} {d w : Nat}

/-! ### The route table (R421, R439) -/

theorem State.setMemWord_rest (s : State) (a : Nat) (x : Word) : (s.setMemWord a x).rest = s.rest := by
  have byte_rest (t : State) (b : Nat) (v : BitVec 8) : (t.setByte b v).rest = t.rest := rfl
  rw [State.setMemWord, byte_rest, byte_rest, byte_rest, byte_rest]

theorem State.setMemWord_regs (s : State) (a : Nat) (x : Word) : (s.setMemWord a x).regs = s.regs := (State.setMemWords_fields s a [x]).1

theorem State.setMemWords_rest (s : State) (a : Nat) (l : List Word) : (s.setMemWords a l).rest = s.rest := by
  induction l generalizing s a with
  | nil => rfl
  | cons w l ih => exact (ih (s.setMemWord a w) (a + 4)).trans (State.setMemWord_rest s a w)

theorem State.dropEntry_taken (h : w % 8 < 2 ∨ w % 8 = 4 ∨ (s.hl2880 = false ∧ w % 8 < 5)) : s.dropEntry (w % 8) = false := by
  rcases h with h | h | ⟨part, h⟩
  · simp [State.dropEntry]; omega
  · simp [State.dropEntry, h]
  · simp [State.dropEntry, part]; omega

theorem State.dropEntry_drops (h : 5 ≤ w % 8 ∨ (s.hl2880 = true ∧ (w % 8 = 2 ∨ w % 8 = 3))) : s.dropEntry (w % 8) = true := by
  rcases h with h | ⟨part, h | h⟩
  · simp [State.dropEntry, h]
  · simp [State.dropEntry, part, h]
  · simp [State.dropEntry, part, h]

theorem State.routeWrite_none (h : 0x3FF ≤ d) : s.routeWrite d w = s := if_pos h

theorem State.routeWrite_goes (lt : d < 0x3FF) (h : s.dropEntry (w % 8) = false) : s.routeWrite d w = s.setMemWord (0x340000 + 4 * d) (wd (w % 8)) :=
  (if_neg (by omega)).trans (if_neg (show ¬ s.dropEntry (w % 8) = true by simp [h]))

theorem State.routeWrite_drops (lt : d < 0x3FF) (h : s.dropEntry (w % 8) = true) :
    s.routeWrite d w = (s.setMemWord (0x340000 + 4 * d) (wd (w % 8))).noRoute fun x => x == d := (if_neg (by omega)).trans (if_pos h)

/-! ### IDs (R407, R431) -/

theorem foldl_still {α β : Type} {f : β → α → β} {b : β} (l : List α) (h : ∀ a ∈ l, f b a = b) : l.foldl f b = b := by
  induction l with
  | nil => rfl
  | cons a l ih => rw [List.foldl_cons, h a List.mem_cons_self, ih fun x hx => h x (List.mem_cons_of_mem _ hx)]

theorem State.nodeIdWrite_takes {w : Word} (valid : w.toNat / 2 ^ 31 = 1) (e : d = if w.toNat % 1024 = 0x3FF then s.rd R.FAB_NODE_ID_ID 0 else w.toNat % 1024)
    (read : ∀ p : Ch, ((s.takeId d).lp p).unread = false) : s.nodeIdWrite w = s.takeId d := by
  have bit : w.getLsbD 31 = true := by rw [BitVec.getLsbD, Nat.testBit, Nat.shiftRight_eq_div_pow, valid]; rfl
  unfold State.nodeIdWrite
  rw [← e, if_pos bit]
  exact foldl_still _ fun p _ => if_neg (by simp [read p])

theorem State.nodeIdWrite_drops {w : Word} (free : w.toNat / 2 ^ 31 = 0) (e : d = if w.toNat % 1024 = 0x3FF then s.rd R.FAB_NODE_ID_ID 0 else w.toNat % 1024) :
    s.nodeIdWrite w = s.dropId d := by
  have bit : w.getLsbD 31 = false := by rw [BitVec.getLsbD, Nat.testBit, Nat.shiftRight_eq_div_pow, free]; rfl
  unfold State.nodeIdWrite
  rw [← e, bit]
  rfl

/-- NODE_ID without VALID: the ID field is `d`, and the route table holds drop in every entry. -/
def State.idDropped (s : State) (d : Nat) : State :=
  (s.wrs 0 [(R.FAB_NODE_ID_VALID, 0), (R.FAB_NODE_ID_ID, d), (R.FAB_IRQ_ID_CHANGED, 1)]).clearMem 0x340000 0x341000

theorem State.rd_clearMem (s : State) (lo hi : Nat) (f : Fld) (i : Nat) : (s.clearMem lo hi).rd f i = s.rd f i := rfl

theorem State.memWord_clearMem_route (s : State) (lt : d < 0x3FF) : (s.clearMem 0x340000 0x341000).memWord (0x340000 + 4 * d) = 5#32 := by
  have cleared (k : Nat) (hk : k < 4) : (s.clearMem 0x340000 0x341000).byte (0x340000 + 4 * d + k) = State.reset.byte (0x340000 + 4 * d + k) := by
    rw [State.byte_clearMem, if_pos (by omega)]
    rfl
  rw [← State.reset_memWord_route (d := d) (by omega), State.memWord, cleared 3 (by decide), cleared 2 (by decide), cleared 1 (by decide), State.memWord]
  exact congrArg (_ ++ ·) (cleared 0 (by decide))

theorem State.idDropped_shows (s : State) (lt : d < 1024) : (s.idDropped d).rd R.FAB_NODE_ID_VALID 0 = 0 ∧ (s.idDropped d).rd R.FAB_NODE_ID_ID 0 = d ∧
    (s.idDropped d).rd R.FAB_IRQ_ID_CHANGED 0 = 1 ∧ ∀ e, e < 0x3FF → (s.idDropped d).memWord (0x340000 + 4 * e) = 5#32 := by
  unfold State.idDropped
  simp only [State.rd_clearMem]
  refine ⟨?_, ?_, ?_, fun e he => State.memWord_clearMem_route _ he⟩
  · simp (disch := decide) only [State.wrs, State.rd_wr_sep, State.rd_wr_lt]
  · simp (disch := decide) only [State.wrs, State.rd_wr_sep]
    exact State.rd_wr_lt (by decide) lt _ _
  · simp (disch := decide) only [State.wrs, State.rd_wr_lt]

/-- A device without an ID takes ID `d`. -/
theorem State.takeId_fresh (lt : d < 0x3FF) (fresh : s.nodeId = none) :
    s.takeId d = (s.wrs 0 [(R.FAB_NODE_ID_VALID, 1), (R.FAB_NODE_ID_ID, d), (R.FAB_IRQ_ID_CHANGED, 1)]).setMemWord (0x340000 + 4 * d) 4#32 := by
  unfold State.takeId
  rw [fresh]
  exact State.routeWrite_goes (w := 4) lt (State.dropEntry_taken (.inr (.inl rfl)))

/-! ### The held record (R426 to R429) -/

theorem State.sendBeacons_idle (h : s.fab.held = none) : s.sendBeacons = s := by rw [State.sendBeacons, h]

theorem State.sendBeacons_down (down : ∀ p : Nat, p < 4 → s.portActive p = false) : s.sendBeacons = s := by
  unfold State.sendBeacons
  split
  · rfl
  · exact foldl_still _ fun p hp => if_neg (by simp [down p (List.mem_range.1 hp)])

/-- The own record stays: the offer of a device that holds the record of another, or an own one that its PRIO and its ID still describe. -/
theorem State.reoffer_none_eligible (idle : s.fab.held = none) (may : s.eligible = true) : s.reoffer = s.setHeld (some s.offer) := by
  rw [State.reoffer, idle]
  exact if_pos may

theorem State.reoffer_none (idle : s.fab.held = none) (out : s.eligible = false) : s.reoffer = s := by
  rw [State.reoffer, idle]
  exact if_neg (by simp [out])

theorem State.reoffer_withdraws {r : RootRec} (held : s.fab.held = some r) (own : r.up = none) (out : s.eligible = false) : s.reoffer = s.pickRoot 4 := by
  rw [State.reoffer, held]
  exact (if_pos (by simp [own])).trans (if_neg (by simp [out]))

theorem State.reoffer_own {r : RootRec} (held : s.fab.held = some r) (own : r.up = none) (may : s.eligible = true) :
    s.reoffer = s.setHeld (some { r with prio := s.rd R.FAB_PRIO 0, id := s.nodeId.getD 0x3FF }) := by
  rw [State.reoffer, held]
  exact (if_pos (by simp [own])).trans (if_pos may)

theorem State.reoffer_keeps {r : RootRec} {p : Nat} (held : s.fab.held = some r) (up : r.up = some p) (worse : s.eligible = false ∨ s.offer.beats r = false) :
    s.reoffer = s := by
  rw [State.reoffer, held]
  refine (if_neg (by simp [up])).trans (if_neg ?_)
  rcases worse with h | h <;> simp [h]

theorem State.reoffer_better {r : RootRec} {p : Nat} (held : s.fab.held = some r) (up : r.up = some p) (may : s.eligible = true) (better : s.offer.beats r = true) :
    s.reoffer = s.setHeld (some s.offer) := by
  rw [State.reoffer, held]
  exact (if_neg (by simp [up])).trans (if_pos (by simp [may, better]))

theorem execBeaconTimer_idle (on : s.domOn dLink = true) (idle : s.fab.held = none) : exec .beaconTimer s = .next s.reoffer.settleAll := by
  refine congrArg Host.Outcome.next ((State.whenLink_on on _).trans ?_)
  rw [idle]

theorem execBeaconTimer_held {r : RootRec} (on : s.domOn dLink = true) (held : s.fab.held = some r) (leaf : (s.isRoot && s.eligible) = false) :
    exec .beaconTimer s = .next (if s.reoffer.fab.held = some r then s.sendBeacons else s.reoffer.settleAll) := by
  refine congrArg Host.Outcome.next ((State.whenLink_on on _).trans ?_)
  rw [held]
  dsimp only
  rw [if_neg (by simp [leaf])]

theorem State.isRoot_up {r : RootRec} (held : s.fab.held = some r) : s.isRoot = (r.est && r.up.isNone) := by rw [State.isRoot, held]

theorem State.rootExpire_up {r : RootRec} {p : Nat} (held : s.fab.held = some r) (up : r.up = some p) :
    s.rootExpire = ({ s with fab.last := s.fab.last.set! p none } : State).pickRoot p := by
  obtain ⟨prio, uid, id, est, seq, dist, up'⟩ := r
  obtain rfl : up' = some p := up
  rw [State.rootExpire, held]

theorem State.rootExpire_own (own : ∀ r, s.fab.held = some r → r.up = none) : s.rootExpire = s := by
  unfold State.rootExpire
  split
  · next held => exact absurd (own _ held) (by simp)
  · rfl

theorem State.pickRoot_alone {p : Nat} (down : ∀ q : Nat, q < 4 → q ≠ p → s.portActive q = false) :
    s.pickRoot p = s.setHeld (if s.eligible = true then some s.offer else none) := by
  have none' : (List.range 4).filter (fun q => q != p && s.portActive q) = [] := by
    rw [List.filter_eq_nil_iff]
    intro q hq
    by_cases same : q = p
    · simp [same]
    · simp [down q (List.mem_range.1 hq) same]
  rw [State.pickRoot, none', List.filterMap_nil, List.nil_append]
  split <;> rfl

/-! ### The cache of devices (R433) -/

/-- FORGET at the entry of one ID. -/
def forgetOne (s : State) (d : Nat) : State :=
  if s.cacheValid d && !s.cachePresent d then s.setMemWords (0x3C0000 + 16 * d) [0, 0, 0, 0] else s

theorem State.forget_eq (s : State) : s.forget = allIds.foldl forgetOne s := rfl

theorem forgetOne_byte (s : State) (d a : Nat) (h : a < 0x3C0000 + 16 * d ∨ 0x3C0000 + 16 * d + 16 ≤ a) : (forgetOne s d).byte a = s.byte a := by
  unfold forgetOne
  split
  · exact State.byte_setMemWords_ne _ _ _ _ h
  · rfl

theorem forgetOne_frame (s : State) (d : Nat) : (forgetOne s d).regs = s.regs ∧ (forgetOne s d).rest = s.rest := by
  unfold forgetOne
  split
  · exact ⟨(State.setMemWords_fields s _ _).1, State.setMemWords_rest s _ _⟩
  · exact ⟨rfl, rfl⟩

theorem forgetFold_frame (l : List Nat) (s : State) : (l.foldl forgetOne s).regs = s.regs ∧ (l.foldl forgetOne s).rest = s.rest := by
  induction l generalizing s with
  | nil => exact ⟨rfl, rfl⟩
  | cons d l ih =>
    obtain ⟨regs, rest⟩ := ih (forgetOne s d)
    obtain ⟨regs', rest'⟩ := forgetOne_frame s d
    exact ⟨regs.trans regs', rest.trans rest'⟩

/-- A byte of no entry of the list stays. -/
theorem forgetFold_byte (l : List Nat) (s : State) (a : Nat) (h : ∀ d ∈ l, a < 0x3C0000 + 16 * d ∨ 0x3C0000 + 16 * d + 16 ≤ a) :
    (l.foldl forgetOne s).byte a = s.byte a := by
  induction l generalizing s with
  | nil => rfl
  | cons d l ih => rw [List.foldl_cons, ih _ fun x hx => h x (List.mem_cons_of_mem _ hx), forgetOne_byte s d a (h d List.mem_cons_self)]

/-- An entry of the cache, word by word. -/
theorem forgetFold_word (l : List Nat) (s : State) {d j : Nat} (lt : j < 4) (out : d ∉ l) :
    (l.foldl forgetOne s).memWord (0x3C0000 + 16 * d + 4 * j) = s.memWord (0x3C0000 + 16 * d + 4 * j) := by
  have byte (k : Nat) (hk : k < 4) : (l.foldl forgetOne s).byte (0x3C0000 + 16 * d + 4 * j + k) = s.byte (0x3C0000 + 16 * d + 4 * j + k) :=
    forgetFold_byte l s _ fun e he => by
      have : e ≠ d := fun h => out (h ▸ he)
      omega
  rw [State.memWord, byte 3 (by decide), byte 2 (by decide), byte 1 (by decide), State.memWord]
  exact congrArg (_ ++ ·) (byte 0 (by decide))

theorem cache_of_words {s t : State} {d : Nat} (h : ∀ j : Nat, j < 4 → t.memWord (0x3C0000 + 16 * d + 4 * j) = s.memWord (0x3C0000 + 16 * d + 4 * j)) :
    t.cacheValid d = s.cacheValid d ∧ t.cachePresent d = s.cachePresent d := by
  have two : t.cacheWord d 2 = s.cacheWord d 2 := congrArg BitVec.toNat (h 2 (by decide))
  have valid : t.cacheValid d = s.cacheValid d := by rw [State.cacheValid, two, State.cacheValid]
  exact ⟨valid, by rw [State.cachePresent, valid, two, State.cachePresent]⟩

/-- What FORGET makes of the entry of one ID of the list. -/
theorem forgetFold_entry (l : List Nat) (nodup : l.Nodup) (s : State) {d j : Nat} (mem : d ∈ l) (lt : j < 4) :
    (l.foldl forgetOne s).memWord (0x3C0000 + 16 * d + 4 * j) = if s.cacheValid d && !s.cachePresent d then 0#32 else s.memWord (0x3C0000 + 16 * d + 4 * j) := by
  induction l generalizing s with
  | nil => exact absurd mem List.not_mem_nil
  | cons e l ih =>
    obtain ⟨out, nodup'⟩ := List.nodup_cons.1 nodup
    rw [List.foldl_cons]
    by_cases same : d = e
    · subst same
      rw [forgetFold_word l _ lt out, forgetOne, apply_ite (fun t : State => t.memWord (0x3C0000 + 16 * d + 4 * j)),
        State.memWord_setMemWords _ _ j [0, 0, 0, 0] (by simpa using lt)]
      refine if_congr Iff.rfl ?_ rfl
      interval_cases j <;> rfl
    · have kept := cache_of_words (d := d) fun j hj => forgetFold_word [e] s hj (by simpa using same)
      rw [ih nodup' (forgetOne s e) ((List.mem_cons.1 mem).resolve_left same)]
      rw [show (forgetOne s e).cacheValid d = s.cacheValid d from kept.1, show (forgetOne s e).cachePresent d = s.cachePresent d from kept.2,
        show (forgetOne s e).memWord (0x3C0000 + 16 * d + 4 * j) = s.memWord (0x3C0000 + 16 * d + 4 * j) from forgetFold_word [e] s lt (by simpa using same)]

end

/-- Settles O45, by the record that is held and the entry that is written. -/
theorem rootsElected : Obligations.RootsElected := by
  unfold Obligations.RootsElected
  intro s on
  refine ⟨fun d w => ?_, fun d w lt => ⟨s.setMemWord (0x340000 + 4 * d) (wd (w % 8)), State.memWord_setMemWord _ _ _, State.setMemWord_regs _ _ _, State.setMemWord_rest _ _ _,
      State.byte_setMemWord_kept _ _ _, fun h => State.routeWrite_goes lt (State.dropEntry_taken h), fun h => State.routeWrite_drops lt (State.dropEntry_drops h)⟩,
    fun d w => State.routeWrite_none, fun w => congrArg Host.Outcome.next (State.whenLink_on on _),
    fun w d e => ⟨fun valid read => State.nodeIdWrite_takes valid e read, fun free => ?_⟩, fun d lt fresh => ?_,
    fun idle may => ?_, fun idle out => ?_, fun r held root may => ?_, fun r held own out => ⟨(State.reoffer_withdraws held own out).symm, fun moved => ?_⟩,
    fun r p held up worse => ?_, fun r p held up may better => ?_, fun r held own est may prio id => ?_, State.sendBeacons_idle, State.sendBeacons_down,
    congrArg Host.Outcome.next (State.whenLink_on on _), fun r p held up lt down => ⟨_, rfl, ?_⟩, State.rootExpire_own, fun r held own est may u v fresh taken hv => ?_,
    fun other => ?_, fun other => ?_, fun r l root idle free work => ?_, s.forget, rfl, (forgetFold_frame _ s).1, (forgetFold_frame _ s).2, fun a out => ?_,
    fun d lt valid absent j hj => ?_, fun d lt present j hj => ?_⟩
  case refine_1 =>
    refine congrArg Host.Outcome.next (State.whenLink_on ?_ _)
    exact (State.routeWrite_domOn s d.toNat w.toNat dLink).trans on
  case refine_2 =>
    have lt : d < 1024 := by
      rw [e]
      split
      · exact Fld.get_lt _ _
      · omega
    obtain ⟨valid, id, irq, table⟩ := s.idDropped_shows lt
    exact ⟨s.idDropped d, valid, id, irq, table, State.nodeIdWrite_drops free e⟩
  case refine_3 =>
    rw [State.takeId_fresh lt fresh]
    refine ⟨_, rfl, ?_, ?_, ?_, State.memWord_setMemWord _ _ _, ?_⟩
    · rw [State.rd_of_regs (State.setMemWord_regs _ _ _)]
      simp (disch := decide) only [State.wrs, State.rd_wr_sep, State.rd_wr_lt]
    · rw [State.rd_of_regs (State.setMemWord_regs _ _ _)]
      simp (disch := decide) only [State.wrs, State.rd_wr_sep]
      exact State.rd_wr_lt (by decide) (show d < 1024 by omega) _ _
    · rw [State.rd_of_regs (State.setMemWord_regs _ _ _)]
      simp (disch := decide) only [State.wrs, State.rd_wr_lt]
    · intro b hb
      rw [State.byte_setMemWord_ne _ _ _ _ hb]
      exact State.byte_of_mem (State.wrs_mem _ _ _) b
  case refine_4 => exact (execBeaconTimer_idle on idle).trans (congrArg (fun t : State => Host.Outcome.next t.settleAll) (State.reoffer_none_eligible idle may))
  case refine_5 => exact (execBeaconTimer_idle on idle).trans (congrArg (fun t : State => Host.Outcome.next t.settleAll) (State.reoffer_none idle out))
  case refine_6 =>
    refine congrArg Host.Outcome.next ((State.whenLink_on on _).trans ?_)
    rw [held]
    exact if_pos (by simp [root, may])
  case refine_7 =>
    rw [← State.reoffer_withdraws held own out] at moved ⊢
    exact (execBeaconTimer_held on held (by simp [out])).trans (congrArg Host.Outcome.next (if_neg moved))
  case refine_8 =>
    refine (execBeaconTimer_held on held (by simp [State.isRoot_up held, up])).trans (congrArg Host.Outcome.next (if_pos ?_))
    rw [State.reoffer_keeps held up worse, held]
  case refine_9 =>
    refine (execBeaconTimer_held on held (by simp [State.isRoot_up held, up])).trans (congrArg Host.Outcome.next ?_)
    rw [State.reoffer_better held up may better, if_neg]
    rw [State.held_setHeld]
    intro same
    have : s.offer = r := Option.some.inj same
    rw [← this] at up
    exact absurd up (by simp [State.offer])
  case refine_10 =>
    refine (execBeaconTimer_held on held (by simp [State.isRoot_up held, est])).trans (congrArg Host.Outcome.next (if_pos ?_))
    rw [State.reoffer_own held own may, State.held_setHeld, ← prio, ← id]
  case refine_11 => exact (State.rootExpire_up held up).trans (State.pickRoot_alone down)
  case refine_12 =>
    refine congrArg Host.Outcome.next ((State.whenLink_on on _).trans ?_)
    rw [held]
    refine (if_pos (by simp [own, est, may])).trans ?_
    subst hv
    rcases h : s.chooseId s.uid s.nodeId (s.rd R.FAB_PREF_ID 0) false with _ | d
    · rw [fresh h]
    · rw [taken d h]
  case refine_13 =>
    refine congrArg Host.Outcome.next ((State.whenLink_on on _).trans ?_)
    split
    · next r held =>
      refine if_neg ?_
      rcases other with h | h
      · rcases h r held with up | est
        · simp [up]
        · simp [est]
      · simp [h]
    · rfl
  case refine_14 =>
    refine congrArg Host.Outcome.next ((State.whenLink_on on _).trans ?_)
    split
    · next ready =>
      simp only [Bool.and_eq_true, beq_iff_eq, Option.isNone_iff_eq_none] at ready
      obtain ⟨⟨root, idle⟩, free⟩ := ready
      rcases other with h | h | h | h
      · exact absurd (h.symm.trans root) Bool.false_ne_true
      · exact absurd idle h
      · exact absurd free h
      · rw [h]
    · rfl
  case refine_15 =>
    refine congrArg Host.Outcome.next ((State.whenLink_on on _).trans ((if_pos (by simp [root, idle, free])).trans ?_))
    rw [work]
    rfl
  case refine_16 =>
    refine forgetFold_byte _ s a fun d hd => ?_
    have := List.mem_range.1 hd
    omega
  case refine_17 =>
    rw [State.forget_eq, forgetFold_entry allIds (show allIds.Nodup from List.nodup_range) s (show d ∈ allIds from List.mem_range.2 lt) hj,
      if_pos (by simp [valid, absent])]
  case refine_18 =>
    rw [State.forget_eq, forgetFold_entry allIds (show allIds.Nodup from List.nodup_range) s (show d ∈ allIds from List.mem_range.2 lt) hj,
      if_neg (by simp [present])]

end Sys2Proof.Machine

/-! SUPPORT. O46: the packets of a stand. -/

namespace Sys2Proof.Machine

section
variable {s u : State} {p : Pkt} {ing : Nat}

/-! ### The queue of packets (R456) -/


theorem State.takePkt_first {f : Pkt → Bool} {a b : List (Nat × Pkt)} (queue : s.inq = a ++ (ing, p) :: b) (before : ∀ e ∈ a, f e.2 = false) (hit : f p = true) :
    s.takePkt f = some (p, ing, { s with inq := a ++ b }) := by
  have found : s.inq.find? (fun e => f e.2) = some (ing, p) := by
    rw [queue, List.find?_append, List.find?_eq_none.2 (by simpa using before)]
    exact List.find?_cons_of_pos (p := fun e : Nat × Pkt => f e.2) hit
  have rest : s.inq.eraseP (fun e => f e.2) = a ++ b := by
    rw [queue, List.eraseP_append_right _ (by simpa using before)]
    exact congrArg (a ++ ·) (List.eraseP_cons_of_pos (p := fun e : Nat × Pkt => f e.2) hit)
  rw [State.takePkt, found]
  dsimp only
  rw [rest]

theorem State.takePkt_regs {f : Pkt → Bool} (h : s.takePkt f = some (p, ing, u)) : u.regs = s.regs ∧ u.chan = s.chan ∧ u.canopy = s.canopy := by
  unfold State.takePkt at h
  split at h
  · obtain ⟨-, -, rfl⟩ := h
    exact ⟨rfl, rfl, rfl⟩
  · contradiction

/-! ### What a stand reads of the registers -/

theorem State.run_of_regs {s t : State} (e : t.regs = s.regs) (f : Fld) (i : Nat) : t.run f i = s.run f i := by simp only [State.run, State.word, e]

theorem State.mbrDevs_of_regs {s t : State} (e : t.regs = s.regs) (n : Ch) : t.mbrDevs n = s.mbrDevs n := by
  simp only [State.mbrDevs, State.members, State.mbr, State.run_of_regs e]

theorem chans_filter_one {f : Ch → Bool} {c : Ch} (hit : f c = true) (others : ∀ d : Ch, d ≠ c → f d = false) : chans.filter f = [c] := by
  have pick (d : Ch) : f d = decide (d = c) := by
    by_cases h : d = c
    · simp [h, hit]
    · simp [h, others d h]
  rw [funext pick]
  exact (by decide : ∀ c : Ch, chans.filter (fun d => decide (d = c)) = [c]) c

/-! ### SREF_SLOT and SMEAS_SLOT (R457) -/

theorem State.mbrDevs_none {n : Ch} (none' : s.members n = []) : s.mbrDevs n = [] := by rw [State.mbrDevs, none']; rfl

/-- The leader keeps the command of its frame. -/
def State.cmdSent (s : State) (n : Ch) : State :=
  s.modGang n fun g => { g with sent := ((g.frame, s.standCmd n) :: g.sent).take 8 }

theorem State.ch_cmdSent (s : State) (n : Ch) :
    (s.cmdSent n).ch n = { s.ch n with gang.sent := (((s.ch n).gang.frame, s.standCmd n) :: (s.ch n).gang.sent).take 8 } := State.ch_modCh_self s n _

theorem State.cmdSent_only (s : State) (n : Ch) (l : List (Nat × Word)) : OnlyChan n l s (s.cmdSent n) := (OnlyChan.refl _ _ _).modCh _

theorem execSrefSlot_leader {n : Ch} (on : s.chOn n = true) (leader : s.run R.CH_MODE_GANG n.val = 1) (link : s.domOn dLink = true) :
    exec (.srefSlot n) s = .next (((s.mbrDevs n).map fun d => s.sref n (s.standCmd n) d).foldl
      (fun t k => (t.incWrap R.STAND_SREF_SENT 0).send fromStand k) (s.cmdSent n)) :=
  congrArg Host.Outcome.next ((State.whenCh_on on _).trans (if_neg (by simp [leader, link])))

/-- The measurement that the lowest member channel of a device reports. -/
def State.smeasPkt (s : State) (n : Ch) : Pkt :=
  let l := s.standPeers n
  let i := n.val
  let g := (s.ch n).gang
  let id := s.run R.GANG_CFG_STAND_ID i
  let slot (c : Ch) : List Word := if l.contains c then [s.standStatus c, s.node c 0x22, s.node c 0x23] else [0#32, 0#32, 0#32]
  let frame := (g.use.map (·.frame)).getD 0
  let margin := l.foldl (fun m c => min m (s.rd R.GANG_MARGIN c.val)) 0xFFFF
  standPkt s.nodeId 7 (s.run R.GANG_CFG_LEADER i) (id * 2 ^ 24 + l.foldl (fun m c => m + 2 ^ c.val) 0)
    ([wd (id * 2 ^ 24 + frame), wd (g.tk / 32), wd ((if s.timeLock then 2 ^ 31 else 0) + margin)] ++ slot 0 ++ slot 1 ++ slot 2 ++ slot 3)

theorem execSmeasSlot_lowest {n : Ch} (on : s.chOn n = true) (lowest : (s.standPeers n).head? = some n) (link : s.domOn dLink = true) :
    exec (.smeasSlot n) s = .next ((s.incWrap R.STAND_SMEAS_SENT 0).send fromStand (s.smeasPkt n)) :=
  congrArg Host.Outcome.next ((State.whenCh_on on _).trans (if_neg (by simp [lowest, link])))

theorem State.smeasPkt_length (s : State) (n : Ch) : (s.smeasPkt n).data.length = 15 := by
  have slot (c : Ch) : (if (s.standPeers n).contains c then [s.standStatus c, s.node c 0x22, s.node c 0x23] else [0#32, 0#32, 0#32]).length = 3 := by
    split <;> rfl
  unfold State.smeasPkt standPkt evtPkt
  simp only [List.length_append, slot, List.length_cons, List.length_nil]

/-! ### The reception of a reference and of a measurement (R456) -/

theorem execSrefReceived_taken (taken : s.takePkt (fun p => decide (p.typ = 6)) = some (p, ing, u)) :
    exec .srefReceived s = .next (if u.srefBad p then (u.inc R.STAND_CNT_DISCARDED 0).wr R.STAND_IRQ_SREF_BAD 0 1
      else (maskChs (p.arg.toNat % 16)).foldl (fun s c => s.srefTo p c) u) := by
  refine congrArg Host.Outcome.next ?_
  rw [taken]

theorem State.srefTo_late {c : Ch} (plain : (srefOf p.data c.val u.fineNow).cmd ≠ 5) (held : (u.ch c).gang.held = true)
    (gone : useGone (u.periodFine c) (srefOf p.data c.val u.fineNow).tRef (u.ch c).gang.tk = true) :
    u.srefTo p c = ((u.inc R.STAND_CNT_LATE 0).inc R.GANG_CNT_LATE c.val).wr R.STAND_IRQ_SREF_LATE 0 1 := by
  unfold State.srefTo
  dsimp only
  rw [if_neg plain, if_pos (by simp [held, gone])]

theorem State.srefTo_waits {c : Ch} (plain : (srefOf p.data c.val u.fineNow).cmd ≠ 5)
    (room : (u.ch c).gang.held = false ∨ useGone (u.periodFine c) (srefOf p.data c.val u.fineNow).tRef (u.ch c).gang.tk = false) :
    u.srefTo p c = u.modGang c fun g => { g with rx := (g.rx ++ [srefOf p.data c.val u.fineNow]).drop (g.rx.length + 1 - 8) } := by
  unfold State.srefTo
  dsimp only
  rw [if_neg plain, if_neg (by rcases room with h | h <;> simp [h])]

/-- A count of another word of the page stays. -/
theorem State.rd_inc_ne {f g : Fld} (s : State) (i j : Nat) (hf : f.ok) (hg : g.ok) (apart : f.apart i g j) : (s.inc f i).rd g j = s.rd g j := by
  unfold State.inc
  split
  · exact State.rd_wr_ne s f g i j _ hf hg apart
  · rfl

theorem gangCntLate_apart : ∀ c : Ch, R.GANG_CNT_LATE.apart c.val R.STAND_CNT_LATE 0 := by decide

/-- The leader keeps a measurement whose use window has not gone. -/
def State.smeasTo (s : State) (m : Smeas) (c : Ch) : State :=
  if (s.ch c).gang.held && useGone (s.periodFine c) m.h (s.ch c).gang.tk then s
  else s.modGang c fun g => { g with meas := ((g.meas.filter fun x => !(x.node == m.node && x.h == m.h)) ++ [m]).drop (g.meas.length + 1 - 16) }

/-- The channel leads the stand that the packet names, with the packet's sender as a member device. -/
def State.leads (s : State) (p : Pkt) (c : Ch) : Bool :=
  s.chOn c && s.run R.CH_MODE_GANG c.val == 1 && s.run R.GANG_CFG_STAND_ID c.val == (p.data.getD 0 0#32).toNat / 2 ^ 24 && (s.mbrDevs c).contains p.src

theorem execSmeasReceived_taken (taken : s.takePkt (fun p => decide (p.typ = 7)) = some (p, ing, u)) :
    exec .smeasReceived s = .next ((chans.filter (u.leads p)).foldl (fun t c => t.smeasTo (smeasOf p u.fineNow) c) u) := by
  refine congrArg Host.Outcome.next ?_
  rw [taken]
  rfl

theorem State.leads_of_regs {s t : State} (e : t.regs = s.regs) (p : Pkt) (c : Ch) : t.leads p c = s.leads p c := by
  simp only [State.leads, State.chOn_of_regs e, State.run_of_regs e, State.mbrDevs_of_regs e]

theorem State.smeasTo_first {m : Smeas} {c : Ch} (room : (s.ch c).gang.held = false ∨ useGone (s.periodFine c) m.h (s.ch c).gang.tk = false)
    (first : (s.ch c).gang.meas = []) : ((s.smeasTo m c).ch c).gang.meas = [m] ∧ OnlyChan c [] s (s.smeasTo m c) := by
  have kept : s.smeasTo m c =
      s.modGang c fun g => { g with meas := ((g.meas.filter fun x => !(x.node == m.node && x.h == m.h)) ++ [m]).drop (g.meas.length + 1 - 16) } :=
    if_neg (by rcases room with h | h <;> simp [h])
  rw [kept]
  refine ⟨?_, (OnlyChan.refl _ _ _).modCh _⟩
  rw [State.modGang, State.ch_modCh_self]
  simp [first]

end

/-- Settles O46, by the channels that a packet of the stand names. -/
theorem standPacketsAct : Obligations.StandPacketsAct := by
  unfold Obligations.StandPacketsAct
  intro s
  refine ⟨fun n on => ⟨fun h => ?_, fun leader link none' => ⟨s.cmdSent n, ?_, s.ch_cmdSent n, s.cmdSent_only n _⟩, fun d leader link one => ?_, fun h => ?_,
      fun lowest link => ⟨s.incWrap R.STAND_SMEAS_SENT 0, s.smeasPkt n, rfl, rfl, rfl, rfl, ?_, s.smeasPkt_length n, rfl, State.rd_incWrap (by decide) _ _,
        (OnlyRegs.refl _ _).wr _ _ _ (by decide) (by simp), execSmeasSlot_lowest on lowest link⟩, fun waits => ?_, fun still => ?_⟩,
    fun n off => ⟨congrArg Host.Outcome.next (State.whenCh_off off _), congrArg Host.Outcome.next (State.whenCh_off off _),
      congrArg Host.Outcome.next (State.whenCh_off off _)⟩,
    fun none' => ?_, fun none' => ?_, fun f a ing k b queue before hit => State.takePkt_first queue before hit,
    fun p ing u taken => ⟨fun bad => ?_, fun c good one => ?_, fun c plain => ⟨fun held gone => ?_, fun room => ?_⟩⟩,
    fun p ing u taken => ⟨fun other => ?_, fun c on leader member id alone room first => ?_⟩, fun lost => ⟨_, congrArg Host.Outcome.next (if_pos lost), ?_, ?_, ?_⟩,
    fun kept => congrArg Host.Outcome.next (if_neg (by simp [kept])), s.standCntClr, rfl, ?_⟩
  case refine_1 => exact congrArg Host.Outcome.next ((State.whenCh_on on _).trans (if_pos (by rcases h with h | h <;> simp [h])))
  case refine_2 => rw [execSrefSlot_leader on leader link, State.mbrDevs_none none']; rfl
  case refine_3 =>
    refine ⟨(s.cmdSent n).incWrap R.STAND_SREF_SENT 0, (State.ch_wr _ _ _ _ _).trans (s.ch_cmdSent n), ?_, (s.cmdSent_only n _).wr _ _ _ (by decide) (by simp), ?_⟩
    · rw [State.rd_incWrap (by decide)]
      exact congrArg (fun v => (v + 1) % 65536) (State.rd_modCh _ _ _ _ _)
    · rw [execSrefSlot_leader on leader link, one]
      rfl
  case refine_4 => exact congrArg Host.Outcome.next ((State.whenCh_on on _).trans (if_pos (by rcases h with h | h <;> simp [h])))
  case refine_5 => exact congrArg (4 * ·) (s.smeasPkt_length n)
  case refine_6 => exact congrArg Host.Outcome.next ((State.whenCh_on on _).trans (if_pos waits))
  case refine_7 => exact congrArg Host.Outcome.next ((State.whenCh_on on _).trans (if_neg (by simp [still])))
  case refine_8 =>
    refine congrArg Host.Outcome.next ?_
    rw [none']
  case refine_9 =>
    refine congrArg Host.Outcome.next ?_
    rw [none']
  case refine_10 =>
    refine ⟨(u.inc R.STAND_CNT_DISCARDED 0).wr R.STAND_IRQ_SREF_BAD 0 1, (execSrefReceived_taken taken).trans (congrArg Host.Outcome.next (if_pos bad)), ?_, ?_,
      ((OnlyRegs.refl _ _).inc _ _ (by decide) (by simp)).wr _ _ _ (by decide) (by simp)⟩
    · exact State.rd_wr_lt (by decide) (by decide) _ _
    · rw [State.rd_wr_sep _ _ _ _ _ (by decide), State.rd_inc (by decide), State.rd_of_regs (State.takePkt_regs taken).1]
      rfl
  case refine_11 =>
    rw [execSrefReceived_taken taken, if_neg (by simp [good]), one]
    rfl
  case refine_12 =>
    rw [State.srefTo_late plain held gone]
    refine ⟨?_, State.rd_wr_lt (by decide) (by decide) _ _, ?_⟩
    · rw [State.rd_wr_sep _ _ _ _ _ (by decide), State.rd_inc_ne _ _ _ (by decide) (by decide) (gangCntLate_apart c), State.rd_inc (by decide)]
      rfl
    · exact (((OnlyRegs.refl _ _).inc _ _ (by decide) (by simp)).inc _ _ (by decide) (by simp)).wr _ _ _ (by decide) (by simp)
  case refine_13 =>
    rw [State.srefTo_waits plain room]
    exact ⟨congrArg (fun c : Chan => c.gang.rx) (State.ch_modCh_self u c _), (OnlyChan.refl _ _ _).modCh _⟩
  case refine_14 =>
    have out : chans.filter (u.leads p) = [] := by
      rw [List.filter_eq_nil_iff]
      intro c _
      rw [State.leads_of_regs (State.takePkt_regs taken).1]
      intro h
      simp only [State.leads, Bool.and_eq_true, beq_iff_eq] at h
      obtain ⟨⟨⟨on, leader⟩, id⟩, -⟩ := h
      exact other c on leader id
    rw [execSmeasReceived_taken taken, out]
    rfl
  case refine_15 =>
    obtain ⟨regs, chan, canopy⟩ := State.takePkt_regs taken
    have leads : chans.filter (u.leads p) = [c] := by
      refine chans_filter_one ?_ fun d other => ?_ <;> rw [State.leads_of_regs regs, State.leads]
      · simp only [on, leader, id, member, beq_self_eq_true, Bool.and_self]
      · simp [alone d other]
    have ch : u.ch c = s.ch c := by simp only [State.ch, chan]
    have now : u.fineNow = s.fineNow := by rw [State.fineNow, canopy, State.fineNow]
    have period : u.periodFine c = s.periodFine c := by rw [State.periodFine, State.run_of_regs regs, State.periodFine]
    refine ⟨u.smeasTo (smeasOf p s.fineNow) c, ?_, State.smeasTo_first (by rwa [ch, period]) (by rw [ch, first])⟩
    rw [execSmeasReceived_taken taken, leads, now]
    rfl
  case refine_16 => simp (disch := decide) only [State.wrs, State.rd_wr_sep, State.rd_wr_lt]
  case refine_17 => simp (disch := decide) only [State.wrs, State.rd_wr_lt]
  case refine_18 => exact (OnlyRegs.refl _ _).wrs _ _ (by decide)
  case refine_19 =>
    unfold State.standCntClr
    refine ⟨?_, ?_, ?_, ?_, ?_, ?_, (OnlyRegs.refl _ _).wrs _ _ (by decide)⟩ <;>
      simp (disch := decide) only [State.wrs, State.rd_wr_sep, State.rd_wr_lt]

end Sys2Proof.Machine

/-! SUPPORT. O47: the commands of a CAN controller. -/

namespace Sys2Proof.Machine

section
variable {s t : State} {m : Fin 2} {l : List (Nat × Word)}

/-! ### The records of the controllers -/

@[simp] theorem State.cn_modCan (s : State) (m : Fin 2) (g : Can → Can) : (s.modCan m g).cn m = g (s.cn m) := by
  show (s.can.set m.val (g (s.cn m)))[m.val] = g (s.cn m)
  exact Vector.getElem_set_self _

theorem State.cn_wr (s : State) (f : Fld) (i v : Nat) (m : Fin 2) : (s.wr f i v).cn m = s.cn m := rfl

@[simp] theorem State.cn_wrs (s : State) (i : Nat) (q : List (Fld × Nat)) (m : Fin 2) : (s.wrs i q).cn m = s.cn m := by
  simp only [State.cn, State.wrs_can]

theorem State.rd_modCan (s : State) (m : Fin 2) (g : Can → Can) (f : Fld) (i : Nat) : (s.modCan m g).rd f i = s.rd f i := rfl

theorem OnlyRegs.withCan {x : Vector Can 2} (h : OnlyRegs l { s with can := x } t) : OnlyRegs l s { t with can := s.can } :=
  ⟨h.1, h.2.1, show ({ t.rest with can := s.can } : State) = s.rest by rw [h.2.2]; rfl⟩

theorem OnlyRegs.modCan (l : List (Nat × Word)) (s : State) (m : Fin 2) (g : Can → Can) : OnlyRegs l s { s.modCan m g with can := s.can } :=
  OnlyRegs.refl _ _

/-- Register writes after a change of a controller's record. -/
theorem OnlyRegs.canWrs (s : State) (m : Fin 2) (g : Can → Can) (i : Nat) (q : List (Fld × Nat)) (c : ∀ e ∈ q, e.1.ok ∧ e.1.at i ∈ l) :
    OnlyRegs l s { (s.modCan m g).wrs i q with can := s.can } := ((OnlyRegs.refl l (s.modCan m g)).wrs i q c).withCan

theorem State.on_iff {f : Fld} {i : Nat} : s.on f i = true ↔ s.rd f i ≠ 0 := bne_iff_ne

theorem State.off_iff {f : Fld} {i : Nat} : s.on f i = false ↔ s.rd f i = 0 := by simp [State.on]

/-! ### INIT (R469, R470) -/

theorem State.canInit_on (init : s.rd R.CAN_CTRL_INIT m.val ≠ 0) (busy : Bool) : s.canInit m true busy = s :=
  (if_pos rfl).trans (if_pos (State.on_iff.2 init))

theorem State.canInit_off (init : s.rd R.CAN_CTRL_INIT m.val ≠ 0) (busy : Bool) : s.canInit m false busy =
    if s.canTimingBad m.val then s.wr R.CAN_IRQ_CFG_ERR m.val 1 else s.wrs m.val [(R.CAN_CTRL_INIT, 0), (R.CAN_STATUS_SYNC, 0)] :=
  (if_neg Bool.false_ne_true).trans (if_pos (State.on_iff.2 init))

theorem State.canInit_enters (run : s.rd R.CAN_CTRL_INIT m.val = 0) {busy : Bool}
    (quiet : busy = false ∨ s.rd R.CAN_STATUS_SYNC m.val = 0 ∨ 2 ≤ s.rd R.CAN_STATUS_ESTATE m.val) : s.canInit m true busy = s.canEnterInit m := by
  refine (if_pos rfl).trans ((if_neg (by simp [State.off_iff.2 run])).trans (if_neg ?_))
  rcases quiet with h | h | h
  · simp [h]
  · simp [State.off_iff.2 h]
  · simp [Nat.not_lt.2 h]

theorem State.canInit_waits (run : s.rd R.CAN_CTRL_INIT m.val = 0) (sync : s.rd R.CAN_STATUS_SYNC m.val ≠ 0) (active : s.rd R.CAN_STATUS_ESTATE m.val < 2) :
    s.canInit m true true = s.modCan m fun c => { c with initReq := true } :=
  (if_pos rfl).trans ((if_neg (by simp [State.off_iff.2 run])).trans (if_pos (by simp [State.on_iff.2 sync, active])))

theorem State.canInit_withdrawn (run : s.rd R.CAN_CTRL_INIT m.val = 0) (busy : Bool) :
    s.canInit m false busy = s.modCan m fun c => { c with initReq := false } :=
  (if_neg Bool.false_ne_true).trans (if_neg (by simp [State.off_iff.2 run]))

theorem State.canEnterInit_eq (s : State) (m : Fin 2) : s.canEnterInit m =
    (s.modCan m fun c => { c with cur := none, initReq := false }).wrs m.val [(R.CAN_CTRL_INIT, 1), (R.CAN_STATUS_SYNC, 0), (R.CAN_STATUS_TXDTO, 0)] := rfl

theorem State.canEnterInit_shows (s : State) (m : Fin 2) : (s.canEnterInit m).rd R.CAN_CTRL_INIT m.val = 1 ∧ (s.canEnterInit m).rd R.CAN_STATUS_SYNC m.val = 0 ∧
    (s.canEnterInit m).rd R.CAN_STATUS_TXDTO m.val = 0 ∧ (s.canEnterInit m).cn m = { s.cn m with cur := none, initReq := false } ∧
    OnlyRegs [R.CAN_CTRL_INIT.at m.val, R.CAN_STATUS_SYNC.at m.val, R.CAN_STATUS_TXDTO.at m.val] s { s.canEnterInit m with can := s.can } := by
  rw [State.canEnterInit_eq]
  refine ⟨?_, ?_, ?_, by rw [State.cn_wrs, State.cn_modCan], OnlyRegs.canWrs _ _ _ _ _ (by simp +decide)⟩
  · simp (disch := decide) only [State.wrs, State.rd_wr_sep, State.rd_wr_lt]
  · simp (disch := decide) only [State.wrs, State.rd_wr_sep, State.rd_wr_lt]
  · simp (disch := decide) only [State.wrs, State.rd_wr_lt]

theorem State.canHeardEnd_plain (free : (s.cn m).initReq = false) : s.canHeardEnd m = s.wr R.CAN_STATUS_TXDTO m.val 0 :=
  if_neg (by rw [State.canRecessive, State.cn_wr, free]; exact Bool.false_ne_true)

theorem State.canHeardEnd_init (waits : (s.cn m).initReq = true) : s.canHeardEnd m = (s.wr R.CAN_STATUS_TXDTO m.val 0).canEnterInit m :=
  if_pos (by rw [State.canRecessive, State.cn_wr, waits])

/-! ### The buffers (R477, R481) -/

theorem State.netDiscards_none (h : s.netCan ≠ some m ∨ s.rd R.NET_STATUS_CLAIM 0 = 2) (w : Nat) : s.netDiscards m w = 0 :=
  if_neg (by rcases h with h | h <;> simp [h])

theorem State.canNext_busy (busy : (s.cn m).cur ≠ none) : s.canNext m = s :=
  if_neg (by simp [busy])

theorem State.canNext_barred (barred : s.canTxOk m = false) : s.canNext m = s := if_neg (by simp [barred])

/-- The buffers of `w` are requested, but for those of `d` that the engine discards. -/
def State.bpendSet (s : State) (m : Fin 2) (w d : Nat) : State :=
  (if d ≠ 0 then s.wr R.CAN_IRQ_WR_DENIED m.val 1 else s).orBits R.CAN_BPEND m.val (w - (w &&& d))

theorem State.canBpend_eq (s : State) (m : Fin 2) (w : Nat) (started : Bool) : s.canBpend m w started =
    (s.bpendSet m (w &&& s.rd R.CAN_BCFG m.val) (s.netDiscards m (w &&& s.rd R.CAN_BCFG m.val))).canRepick m started := rfl

theorem State.bpendSet_shows (s : State) (m : Fin 2) {w : Nat} (lt : w < 2 ^ 32) (d k : Nat) :
    (s.bpendSet m w d).bit R.CAN_BPEND m.val k = (s.bit R.CAN_BPEND m.val k || (w.testBit k && !d.testBit k)) ∧
    (s.bpendSet m w d).rd R.CAN_IRQ_WR_DENIED m.val = (if d = 0 then s.rd R.CAN_IRQ_WR_DENIED m.val else 1) ∧
    OnlyRegs [R.CAN_BPEND.at m.val, R.CAN_IRQ_WR_DENIED.at m.val] s (s.bpendSet m w d) := by
  unfold State.bpendSet
  have small : w - (w &&& d) < R.CAN_BPEND.size := Nat.lt_of_le_of_lt (Nat.sub_le _ _) lt
  refine ⟨?_, ?_, ?_⟩
  · rw [State.bit, State.rd_orBits (by decide) _ _ _ small, Nat.testBit_or, testBit_sub_and, State.bit]
    split
    · rw [State.rd_wr_sep _ _ _ _ _ (by decide)]
    · rfl
  · rw [State.orBits, State.rd_wr_sep _ _ _ _ _ (by decide)]
    by_cases none' : d = 0
    · rw [if_neg (by simpa using none'), if_pos none']
    · rw [if_pos none', if_neg none', State.rd_wr_lt (by decide) (by decide)]
  · exact (OnlyRegs.ite ((OnlyRegs.refl _ _).wr _ _ _ (by decide) (by simp)) (OnlyRegs.refl _ _)).wr _ _ _ (by decide) (by simp)

/-- Pending buffers are withdrawn, and those of `keep` wait for the frame on the bus to end. -/
def State.babortSet (s : State) (m : Fin 2) (out keep : Nat) : State := (s.clrBits R.CAN_BPEND m.val out).orBits R.CAN_BABORT m.val keep

theorem State.babortSet_only (s : State) (m : Fin 2) (out keep : Nat) :
    OnlyRegs [R.CAN_BPEND.at m.val, R.CAN_BABORT.at m.val] s (s.babortSet m out keep) :=
  ((OnlyRegs.refl _ _).wr _ _ _ (by decide) (by simp)).wr _ _ _ (by decide) (by simp)

theorem State.bit_babortSet (s : State) (m : Fin 2) (out keep k : Nat) :
    (s.babortSet m out keep).bit R.CAN_BPEND m.val k = (s.bit R.CAN_BPEND m.val k && !out.testBit k) := by
  rw [State.babortSet, State.bit, State.orBits, State.rd_wr_sep _ _ _ _ _ (by decide), State.rd_clrBits (by decide), testBit_sub_and, State.bit]

theorem State.canBabort_idle (idle : (s.cn m).cur = none) (w : Nat) (started : Bool) :
    s.canBabort m w started = s.babortSet m (w &&& s.rd R.CAN_BPEND m.val) 0 := by
  unfold State.canBabort
  dsimp only
  have kept (out keep : Nat) : ((s.clrBits R.CAN_BPEND m.val out).orBits R.CAN_BABORT m.val keep).cn m = s.cn m := rfl
  rw [kept, idle]
  simp only [Nat.and_zero, Nat.sub_zero]
  rfl

theorem State.canBabort_onBus {w k : Nat} (cur : (s.cn m).cur = some k) (asked : w.testBit k = true) (pending : s.bit R.CAN_BPEND m.val k = true) :
    s.canBabort m w true =
      s.babortSet m ((w &&& s.rd R.CAN_BPEND m.val) - ((w &&& s.rd R.CAN_BPEND m.val) &&& 2 ^ k)) (2 ^ k) := by
  unfold State.canBabort
  dsimp only
  have kept (out keep : Nat) : ((s.clrBits R.CAN_BPEND m.val out).orBits R.CAN_BABORT m.val keep).cn m = s.cn m := rfl
  have both : (w &&& s.rd R.CAN_BPEND m.val).testBit k = true := by
    rw [Nat.testBit_and, asked]
    exact pending
  rw [kept, cur]
  dsimp only
  have keep : (if (true && (w &&& s.rd R.CAN_BPEND m.val).testBit k) = true then 2 ^ k else 0) = 2 ^ k := if_pos (by rw [both]; rfl)
  simp only [keep]
  refine if_neg ?_
  rw [testBit_sub_and, Nat.testBit_two_pow_self]
  simp

/-! ### The filters (R475, R488) -/

/-- The filter that FID and a word of FMASK describe. -/
def State.filtOf (s : State) (m : Fin 2) (w : Nat) : CanFilt :=
  { en := s.on R.CAN_FID_EN m.val, ide := s.on R.CAN_FID_IDE m.val, rtr := s.on R.CAN_FID_RTR m.val, id := s.rd R.CAN_FID_ID m.val,
    dest := w / 2 ^ 30 % 4, buf := if w / 2 ^ 30 % 4 = 1 then w % 2 ^ 29 / 2 ^ 24 else 0,
    mask := if w / 2 ^ 30 % 4 = 1 then w % 2 ^ 29 % 2 ^ 24 else w % 2 ^ 29 }

theorem State.canFilter_eq (s : State) (m : Fin 2) (w : Nat) :
    s.canFilter m w = (s.modCan m fun c => { c with filt := c.filt.set! (s.rd R.CAN_FSEL m.val) (s.filtOf m w) }).canShowFilt m := rfl

theorem State.canFilter_filt (s : State) (m : Fin 2) (w : Nat) :
    ((s.canFilter m w).cn m).filt.toList[s.rd R.CAN_FSEL m.val]? = some (s.filtOf m w) := by
  have lt : s.rd R.CAN_FSEL m.val < 64 := Fld.get_lt _ _
  rw [State.canFilter_eq, State.canShowFilt, State.cn_wrs, State.cn_modCan]
  simp [lt]

theorem State.canFilter_only (s : State) (m : Fin 2) (w : Nat) : OnlyRegs [R.CAN_FID_EN.at m.val, R.CAN_FID_IDE.at m.val, R.CAN_FID_RTR.at m.val,
    R.CAN_FID_ID.at m.val, R.CAN_FMASK_DEST.at m.val, R.CAN_FMASK_MASK.at m.val] s { s.canFilter m w with can := s.can } := by
  rw [State.canFilter_eq]
  exact OnlyRegs.canWrs _ _ _ _ _ (by simp +decide)

end

/-- Settles O47, by the state of the controller that takes each command. -/
theorem canCommandsAct : Obligations.CanCommandsAct := by
  unfold Obligations.CanCommandsAct
  intro m s on
  have go (f : State → State) : s.whenCan f = f s := State.whenCan_on on f
  refine ⟨fun init => ⟨fun busy => congrArg Host.Outcome.next ((go _).trans (State.canInit_on init busy)),
      fun busy bad => ⟨_, congrArg Host.Outcome.next ((go _).trans ((State.canInit_off init busy).trans (if_pos bad))), ?_, ?_⟩,
      fun busy good => ⟨_, congrArg Host.Outcome.next ((go _).trans ((State.canInit_off init busy).trans (if_neg (by simp [good])))), ?_, ?_, ?_⟩⟩,
    fun run => ⟨fun busy quiet => ⟨_, congrArg Host.Outcome.next ((go _).trans (State.canInit_enters run quiet)), rfl, s.canEnterInit_shows m⟩,
      fun sync active => ⟨_, congrArg Host.Outcome.next ((go _).trans (State.canInit_waits run sync active)), State.cn_modCan _ _ _, OnlyRegs.modCan _ _ _ _⟩,
      fun busy => ⟨_, congrArg Host.Outcome.next ((go _).trans (State.canInit_withdrawn run busy)), State.cn_modCan _ _ _, OnlyRegs.modCan _ _ _ _⟩⟩,
    State.canHeardEnd_plain, State.canHeardEnd_init,
    fun busOff => ⟨s.wr R.CAN_STATUS_ESTATE m.val 3, congrArg Host.Outcome.next ((go _).trans (if_pos busOff)), ?_, ?_,
      fun auto => congrArg Host.Outcome.next ((go _).trans ((if_pos (State.on_iff.2 auto)).trans (if_pos busOff)))⟩,
    fun other => congrArg Host.Outcome.next ((go _).trans (if_neg other)), fun other => congrArg Host.Outcome.next ((go _).trans ?_),
    fun fits => ⟨_, congrArg Host.Outcome.next (go _), ?_, ?_, ?_⟩, fun w d e lt => ⟨s.bpendSet m (w &&& s.rd R.CAN_BCFG m.val) d, fun started => ?_, fun k _ => ?_, ?_, ?_⟩,
    State.netDiscards_none, State.canNext_busy, rfl, rfl, State.canNext_barred, fun w idle started => ?_, fun w k cur lt asked pending => ?_,
    fun w => ?_, ⟨_, congrArg Host.Outcome.next (go _), ?_, ?_⟩⟩
  case refine_1 => exact State.rd_wr_lt (by decide) (by decide) _ _
  case refine_2 => exact (OnlyRegs.refl _ _).wr _ _ _ (by decide) (by simp)
  case refine_3 => simp (disch := decide) only [State.wrs, State.rd_wr_sep, State.rd_wr_lt]
  case refine_4 => simp (disch := decide) only [State.wrs, State.rd_wr_lt]
  case refine_5 => exact (OnlyRegs.refl _ _).wrs _ _ (by simp +decide)
  case refine_6 => exact State.rd_wr_lt (by decide) (by decide) _ _
  case refine_7 => exact (OnlyRegs.refl _ _).wr _ _ _ (by decide) (by simp)
  case refine_8 =>
    split
    · next auto => exact if_neg fun busOff => other.elim (absurd busOff) (absurd · (State.on_iff.1 auto))
    · rfl
  case refine_9 => rw [State.canPop, State.cn_wr, State.cn_modCan]
  case refine_10 =>
    rw [State.canPop, State.cn_modCan, List.length_drop]
    exact State.rd_wr_lt (by decide) (show (s.cn m).fifo.length - 1 < 128 by omega) _ _
  case refine_11 => exact OnlyRegs.canWrs s m _ m.val [(R.CAN_FIFO_CNT, _)] (by simp +decide)
  case refine_12 =>
    refine congrArg Host.Outcome.next ((go _).trans ?_)
    have same : (wd w).toNat = w := (BitVec.toNat_ofNat w 32).trans (Nat.mod_eq_of_lt lt)
    rw [State.canBpend_eq, same, ← e]
  case refine_13 =>
    rw [(s.bpendSet_shows m (Nat.lt_of_le_of_lt Nat.and_le_left lt) d k).1, Nat.testBit_and]
    rfl
  case refine_14 => exact (s.bpendSet_shows m (Nat.lt_of_le_of_lt Nat.and_le_left lt) d 0).2.1
  case refine_15 => exact (s.bpendSet_shows m (Nat.lt_of_le_of_lt Nat.and_le_left lt) d 0).2.2
  case refine_16 =>
    refine ⟨_, congrArg Host.Outcome.next ((go _).trans (State.canBabort_idle idle w.toNat started)), fun k _ => ?_, s.babortSet_only m _ _⟩
    rw [State.bit_babortSet, Nat.testBit_and, State.bit, BitVec.getLsbD]
    cases (s.rd R.CAN_BPEND m.val).testBit k <;> simp
  case refine_17 =>
    refine ⟨_, congrArg Host.Outcome.next ((go _).trans (State.canBabort_onBus cur asked pending)), ?_, ?_, rfl, s.babortSet_only m _ _⟩
    · rw [State.bit_babortSet, pending, testBit_sub_and, Nat.testBit_two_pow_self]
      simp
    · exact State.bit_orBits (by decide) _ _ _ (Nat.pow_lt_pow_right (by decide) lt)
  case refine_18 =>
    have top : w.toNat / 2 ^ 30 % 4 = w.toNat / 2 ^ 30 := by omega
    have kept := s.canFilter_filt m w.toNat
    refine ⟨_, congrArg Host.Outcome.next (go _), fun plain => ⟨_, kept, rfl, ?_, top, rfl, rfl, rfl⟩, fun buffer => ⟨_, kept, rfl, ?_, top.trans buffer, ?_, rfl⟩,
      s.canFilter_only m _⟩
    · exact if_neg (by rwa [top])
    · exact (if_pos (top.trans buffer)).trans (by omega)
    · exact if_pos (top.trans buffer)
  case refine_19 => exact State.rd_wr_lt (by decide) (by decide) _ _
  case refine_20 => exact (OnlyRegs.refl _ _).wr _ _ _ (by decide) (by simp)

end Sys2Proof.Machine

/-! SUPPORT. O48: what happens on a CAN bus. -/

namespace Sys2Proof.Machine

section
variable {s t : State} {m : Fin 2} {l : List (Nat × Word)}

theorem State.modCan_modCan (s : State) (m : Fin 2) (f g : Can → Can) : (s.modCan m f).modCan m g = s.modCan m fun c => g (f c) := by
  unfold State.modCan
  rw [show ({ s with can := s.can.set m.val (f (s.cn m)) } : State).cn m = f (s.cn m) from State.cn_modCan s m f]
  simp only [Vector.set_set]

theorem State.modCan_same {g : Can → Can} (same : g (s.cn m) = s.cn m) : s.modCan m g = s := by
  have kept : s.can.set m.val (g (s.cn m)) = s.can := by
    rw [same]
    exact Vector.set_getElem_self _
  unfold State.modCan
  rw [kept]

/-- A change of a controller's record after register writes. -/
theorem OnlyRegs.thenModCan (h : OnlyRegs l s { t with can := s.can }) (m : Fin 2) (g : Can → Can) : OnlyRegs l s { t.modCan m g with can := s.can } := h

/-! ### Received frames (R468, R474 to R476) -/

theorem canFrame_onBus {f : CanFrame} {hdr : Word} {dlc : BitVec 4} {rtr esi : Bool} {data : List (BitVec 8)} {sof : Word}
    (hf : f =
      { fdf := hdr.getLsbD 31, brs := hdr.getLsbD 30 && hdr.getLsbD 31, esi := hdr.getLsbD 31 && esi, ide := hdr.getLsbD 29,
        rtr := rtr && !hdr.getLsbD 31, id := hdr.toNat % 2 ^ 29, dlc := dlc.toNat, ts := sof,
        data := if rtr = true ∧ hdr.getLsbD 31 = false then [] else
          (data ++ List.replicate 64 0#8).take (canLen (hdr.getLsbD 31) dlc.toNat) }) :
    CanFrame.onBus
      { fdf := hdr.getLsbD 31, brs := hdr.getLsbD 30, esi := esi, ide := hdr.getLsbD 29, rtr := rtr, id := hdr.toNat % 2 ^ 29,
        dlc := dlc.toNat, ts := sof, data := data } true esi = f := by
  rw [hf]
  cases hdr.getLsbD 31 <;> cases rtr <;> simp [CanFrame.onBus]

theorem State.netTakes_none {f : CanFrame} (h : f.ide = false ∨ s.netCan ≠ some m) : s.netTakes m f = false := by
  rcases h with h | h <;> simp [State.netTakes, h]

theorem State.canHear_plain {f : CanFrame} (h : f.ide = false ∨ s.netCan ≠ some m) : s.canHear m f = s.canAccept m f := by
  have other : ¬ (f.ide && s.netCan == some m) = true := by rcases h with h | h <;> simp [h]
  unfold State.canHear
  rw [if_neg other]
  exact if_neg (by simp [State.netTakes_none h])

theorem State.canHear_partner {f : CanFrame} (ide : f.ide = true) (net : s.netCan = some m) : s.canHear m f =
    if (s.partnerSeen (f.id % 256)).netTakes m f = true ∧ (s.partnerSeen (f.id % 256)).rd R.NET_CFG_PASS 0 = 0 then s.partnerSeen (f.id % 256)
    else (s.partnerSeen (f.id % 256)).canAccept m f := by
  unfold State.canHear
  have own : (f.ide && s.netCan == some m) = true := by simp [ide, net]
  rw [if_pos own]
  generalize s.partnerSeen (f.id % 256) = u
  exact if_congr (by rw [Bool.and_eq_true, Bool.not_eq_true', State.off_iff]) rfl rfl

theorem State.canAccept_none {f : CanFrame} (h : ∀ x ∈ (s.cn m).filt.toList, x.hits f = false) :
    s.canAccept m f = if s.rd R.CAN_CFG_NOMATCH m.val ≠ 0 then s.canToFifo m f else s := by
  rw [State.canAccept, List.find?_eq_none.2 (by simpa using h)]
  exact if_congr State.on_iff rfl rfl

theorem State.canAccept_first {f : CanFrame} {a b : List CanFilt} {x : CanFilt} (filters : (s.cn m).filt.toList = a ++ x :: b)
    (before : ∀ y ∈ a, y.hits f = false) (hit : x.hits f = true) :
    s.canAccept m f = if x.dest = 0 then s.canToFifo m f else if x.dest = 1 then s.canToBuf m x.buf f else s := by
  have found : (s.cn m).filt.toList.find? (·.hits f) = some x := by
    rw [filters, List.find?_append, List.find?_eq_none.2 (by simpa using before)]
    exact List.find?_cons_of_pos (p := fun y : CanFilt => y.hits f) hit
  rw [State.canAccept, found]

theorem State.canToFifo_room {f : CanFrame} (room : (s.cn m).fifo.length < 64) : ((s.canToFifo m f).cn m).fifo = (s.cn m).fifo ++ [f] ∧
    (s.canToFifo m f).rd R.CAN_FIFO_CNT m.val = (s.cn m).fifo.length + 1 ∧ (s.canToFifo m f).rd R.CAN_IRQ_FIFO m.val = 1 := by
  rw [State.canToFifo, if_pos room]
  dsimp only
  refine ⟨by rw [State.cn_wrs, State.cn_modCan], ?_, ?_⟩
  · simp (disch := decide) only [State.wrs, State.rd_wr_sep, State.cn_modCan]
    refine (State.rd_wr_lt (by decide) ?_ _ _).trans List.length_append
    exact List.length_append.trans_lt (show (s.cn m).fifo.length + 1 < 128 by omega)
  · simp (disch := decide) only [State.wrs, State.rd_wr_lt]

theorem State.canToFifo_full {f : CanFrame} (full : 64 ≤ (s.cn m).fifo.length) : ((s.canToFifo m f).cn m).fifo = (s.cn m).fifo ∧
    (s.canToFifo m f).rd R.CAN_WEND_FIFO_LOST m.val = min (s.rd R.CAN_WEND_FIFO_LOST m.val + 1) (R.CAN_WEND_FIFO_LOST.size - 1) ∧
    (s.canToFifo m f).rd R.CAN_IRQ_FIFO_OVF m.val = 1 := by
  rw [State.canToFifo, if_neg (Nat.not_lt.2 full)]
  refine ⟨?_, ?_, State.rd_wr_lt (by decide) (by decide) _ _⟩
  · rw [State.cn_wr, State.inc]
    split
    · rw [State.cn_wr]
    · rfl
  · rw [State.rd_wr_sep _ _ _ _ _ (by decide), State.rd_inc (by decide)]

theorem State.canToBuf_rx {f : CanFrame} {k : Nat} (lt : k < 32) (rx : s.bit R.CAN_BCFG m.val k = false) :
    ((s.canToBuf m k f).cn m).bufs.toList[k]? = some f ∧ (s.canToBuf m k f).bit R.CAN_BDONE m.val k = true ∧ (s.canToBuf m k f).rd R.CAN_IRQ_RX_BUF m.val = 1 ∧
    (s.bit R.CAN_BDONE m.val k = true → (s.canToBuf m k f).rd R.CAN_STATUS_BUF_OVR m.val = 1) := by
  rw [State.canToBuf, if_neg (by simp [rx])]
  dsimp only
  refine ⟨?_, ?_, State.rd_wr_lt (by decide) (by decide) _ _, fun done => ?_⟩
  · rw [State.cn_wr, State.orBits, State.cn_wr, State.cn_modCan]
    simp [lt]
  · rw [State.bit, State.rd_wr_sep _ _ _ _ _ (by decide)]
    exact State.bit_orBits (by decide) _ _ _ (Nat.pow_lt_pow_right (by decide) lt)
  · rw [if_pos done, State.rd_wr_sep _ _ _ _ _ (by decide), State.orBits, State.rd_wr_sep _ _ _ _ _ (by decide), State.rd_modCan,
      State.rd_wr_lt (by decide) (by decide)]

/-! ### The error counters (R479) -/

theorem State.canCounters_rd (s : State) {f : Fld} (tec : R.CAN_TEC.sep f = true) (rec' : R.CAN_REC.sep f = true) :
    (s.canCounters m).rd f m.val = s.rd f m.val := by
  simp only [State.canCounters, State.wrs]
  rw [State.rd_wr_sep _ _ _ _ _ rec', State.rd_wr_sep _ _ _ _ _ tec]

theorem State.cn_canCounters (s : State) (m : Fin 2) : (s.canCounters m).cn m = s.cn m := by rw [State.canCounters, State.cn_wrs]

theorem State.canErrState_active (active : s.rd R.CAN_STATUS_ESTATE m.val < 2) (le : (s.cn m).txe ≤ 255) : s.canErrState m =
    (s.canCounters m).wr R.CAN_STATUS_ESTATE m.val (if 127 < (s.cn m).txe ∨ 127 < (s.cn m).rxe then 1 else 0) := by
  unfold State.canErrState
  dsimp only
  rw [if_neg (by rw [State.canCounters_rd s (by decide) (by decide)]; omega), State.cn_canCounters, if_neg (by omega)]

/-- The controller goes bus-off. -/
def State.busOff (s : State) (m : Fin 2) : State :=
  (((s.canCounters m).modCan m fun c => { c with cur := none }).wrs m.val
    [(R.CAN_STATUS_ESTATE, 2), (R.CAN_STATUS_SYNC, 0), (R.CAN_IRQ_BUSOFF, 1)]).wr R.CAN_STATUS_TXDTO m.val 0

theorem State.canErrState_busOff (active : s.rd R.CAN_STATUS_ESTATE m.val < 2) (gt : 255 < (s.cn m).txe) :
    s.canErrState m = (s.busOff m).condSet (srcCanBusoff m.val) true := by
  unfold State.canErrState
  dsimp only
  rw [if_neg (by rw [State.canCounters_rd s (by decide) (by decide)]; omega), State.cn_canCounters, if_pos gt]
  rfl

theorem State.canErrState_off (off : 2 ≤ s.rd R.CAN_STATUS_ESTATE m.val) : s.canErrState m = s.canCounters m :=
  if_pos (by rwa [State.canCounters_rd s (by decide) (by decide)])

/-- Settling a condition keeps the mode of a controller. -/
theorem canMode_apart : ∀ m : Fin 2, R.CAN_CFG_MODE.mask &&& (settleBits (R.CAN_CFG_MODE.addr m.val) ||| 0#32) = 0#32 := by decide

theorem State.canErrState_mode (s : State) (m : Fin 2) : (s.canErrState m).rd R.CAN_CFG_MODE m.val = s.rd R.CAN_CFG_MODE m.val := by
  by_cases off : 2 ≤ s.rd R.CAN_STATUS_ESTATE m.val
  · rw [State.canErrState_off off, State.canCounters_rd s (by decide) (by decide)]
  · by_cases gt : 255 < (s.cn m).txe
    · rw [State.canErrState_busOff (Nat.not_le.1 off) gt, ((Settled.refl [] (s.busOff m)).condSet _ _).rd_pair (by decide) canMode_apart, State.busOff]
      simp (disch := decide) only [State.wrs, State.rd_wr_sep, State.rd_modCan, State.canCounters_rd]
    · rw [State.canErrState_active (Nat.not_le.1 off) (Nat.not_lt.1 gt), State.rd_wr_sep _ _ _ _ _ (by decide), State.canCounters_rd s (by decide) (by decide)]

/-! ### Sent frames (R477, R488) -/

/-- A buffer has been sent. -/
def State.bufSent (s : State) (m : Fin 2) (k : Nat) : State :=
  (((((s.modCan m fun c => { c with sent := some (s.canOut m k) }).clrBits R.CAN_BPEND m.val (2 ^ k)).clrBits R.CAN_BABORT m.val (2 ^ k)).orBits
    R.CAN_BDONE m.val (2 ^ k)).wr R.CAN_IRQ_TX_DONE m.val 1).modCan m fun c => { c with txe := c.txe - 1 }

/-- The end of a frame sent: the counters, the own receiver in internal loop-back, the next frame. -/
def State.sentEnd (u : State) (m : Fin 2) (f : CanFrame) : State :=
  (if (u.canErrState m).rd R.CAN_CFG_MODE m.val = 1 then (u.canErrState m).canHear m f else u.canErrState m).canFrameEnd m

theorem execCanTxDone_buf {k : Nat} (on : s.domOn dCan = true) (cur : (s.cn m).cur = some k) (lt : k < 32) (sof : Word) :
    exec (.canTxDone m sof) s = .next ((s.bufSent m k).sentEnd m { s.canOut m k with ts := sof }) := by
  refine congrArg Host.Outcome.next ((State.whenCan_on on _).trans ?_)
  rw [cur]
  dsimp only
  rw [if_pos lt, if_pos lt]
  rfl

theorem State.bit_clrBits_self {f : Fld} (h : f.ok) (s : State) (i k : Nat) : (s.clrBits f i (2 ^ k)).bit f i k = false := by
  rw [State.bit, State.rd_clrBits h, testBit_sub_and, Nat.testBit_two_pow_self]
  exact Bool.and_false _

theorem State.bufSent_shows (s : State) (m : Fin 2) {k : Nat} (lt : k < 32) : (s.bufSent m k).bit R.CAN_BPEND m.val k = false ∧
    (s.bufSent m k).bit R.CAN_BABORT m.val k = false ∧ (s.bufSent m k).bit R.CAN_BDONE m.val k = true ∧ (s.bufSent m k).rd R.CAN_IRQ_TX_DONE m.val = 1 ∧
    (s.bufSent m k).cn m = { s.cn m with txe := (s.cn m).txe - 1, sent := some (s.canOut m k) } ∧
    (s.bufSent m k).rd R.CAN_CFG_MODE m.val = s.rd R.CAN_CFG_MODE m.val := by
  unfold State.bufSent
  refine ⟨?_, ?_, ?_, ?_, ?_, ?_⟩
  · rw [State.bit, State.rd_modCan, State.rd_wr_sep _ _ _ _ _ (by decide), State.orBits, State.rd_wr_sep _ _ _ _ _ (by decide),
      State.clrBits, State.rd_wr_sep _ _ _ _ _ (by decide)]
    exact State.bit_clrBits_self (by decide) _ _ _
  · rw [State.bit, State.rd_modCan, State.rd_wr_sep _ _ _ _ _ (by decide), State.orBits, State.rd_wr_sep _ _ _ _ _ (by decide)]
    exact State.bit_clrBits_self (by decide) _ _ _
  · rw [State.bit, State.rd_modCan, State.rd_wr_sep _ _ _ _ _ (by decide)]
    exact State.bit_orBits (by decide) _ _ _ (Nat.pow_lt_pow_right (by decide) lt)
  · rw [State.rd_modCan, State.rd_wr_lt (by decide) (by decide)]
  · rw [State.cn_modCan, State.cn_wr, State.orBits, State.cn_wr, State.clrBits, State.cn_wr, State.clrBits, State.cn_wr, State.cn_modCan]
  · simp (disch := decide) only [State.orBits, State.clrBits, State.rd_modCan, State.rd_wr_sep]

theorem State.bufSent_only (s : State) (m : Fin 2) (k : Nat) :
    OnlyRegs [R.CAN_BPEND.at m.val, R.CAN_BABORT.at m.val, R.CAN_BDONE.at m.val, R.CAN_IRQ_TX_DONE.at m.val] s { s.bufSent m k with can := s.can } := by
  have only (u : State) : OnlyRegs [R.CAN_BPEND.at m.val, R.CAN_BABORT.at m.val, R.CAN_BDONE.at m.val, R.CAN_IRQ_TX_DONE.at m.val] u
      ((((u.clrBits R.CAN_BPEND m.val (2 ^ k)).clrBits R.CAN_BABORT m.val (2 ^ k)).orBits R.CAN_BDONE m.val (2 ^ k)).wr R.CAN_IRQ_TX_DONE m.val 1) :=
    ((((OnlyRegs.refl _ _).wr _ _ _ (by decide) (by simp)).wr _ _ _ (by decide) (by simp)).wr _ _ _ (by decide) (by simp)).wr _ _ _ (by decide) (by simp)
  exact (OnlyRegs.withCan (only (s.modCan m fun c => { c with sent := some (s.canOut m k) }))).thenModCan m _

theorem State.sentEnd_plain {u : State} (mode : u.rd R.CAN_CFG_MODE m.val ≠ 1) (f : CanFrame) : u.sentEnd m f = (u.canErrState m).canFrameEnd m := by
  rw [State.sentEnd, if_neg (by rwa [State.canErrState_mode])]

theorem State.sentEnd_loop {u : State} (mode : u.rd R.CAN_CFG_MODE m.val = 1) (f : CanFrame) :
    u.sentEnd m f = ((u.canErrState m).canHear m f).canFrameEnd m := by
  rw [State.sentEnd, if_pos (by rwa [State.canErrState_mode])]

theorem execCanTxDone_engine (on : s.domOn dCan = true) (cur : (s.cn m).cur = some 32) (sof : Word) :
    exec (.canTxDone m sof) s = .next ((s.modCan m fun c => { c with sent := some (s.canOut m 32), txq := c.txq.drop 1, txe := c.txe - 1 }).sentEnd m
      { s.canOut m 32 with ts := sof }) := by
  refine congrArg Host.Outcome.next ((State.whenCan_on on _).trans ?_)
  rw [cur]
  dsimp only
  have out : ¬ 32 < 32 := Nat.lt_irrefl 32
  simp only [if_neg out, State.modCan_modCan]
  rfl

theorem canLen_classic (dlc : Nat) : canLen false dlc ≤ 8 := by
  unfold canLen
  split
  · omega
  · simp

theorem State.canOut_classic (fd : s.rd R.CAN_CFG_FD m.val = 0) (k : Nat) : (s.canOut m k).fdf = false ∧ (s.canOut m k).brs = false ∧
    (s.canOut m k).esi = false ∧ (s.canOut m k).data.length ≤ 8 := by
  unfold State.canOut
  generalize (if k < 32 then (s.cn m).bufs.toList.getD k .empty else (s.cn m).txq.headD .empty) = f
  simp only [State.off_iff.2 fd, CanFrame.onBus, Bool.and_false, Bool.false_and, true_and]
  split
  · exact Nat.zero_le _
  · exact (List.length_take_le _ _).trans (canLen_classic _)

theorem State.canOut_fd {k : Nat} (fd : (s.canOut m k).fdf = true) : (s.canOut m k).rtr = false := by
  unfold State.canOut at fd ⊢
  generalize (if k < 32 then (s.cn m).bufs.toList.getD k .empty else (s.cn m).txq.headD .empty) = f at fd ⊢
  simp only [CanFrame.onBus] at fd ⊢
  rw [fd]
  exact Bool.and_false _

/-! ### Errors (R479) -/

/-- What an error does to the frame on the bus: a withdrawn buffer ends, and so does one that is sent once. -/
def State.errBuf (s : State) (m : Fin 2) (e : Fin 6) : State :=
  match (s.cn m).cur with
  | none => s
  | some k =>
    if (e.val ≠ 0 ∧ e.val ≠ 1 ∧ e.val ≠ 4) ∨ 32 ≤ k then s
    else if s.bit R.CAN_BABORT m.val k then
      ((s.clrBits R.CAN_BPEND m.val (2 ^ k)).clrBits R.CAN_BABORT m.val (2 ^ k)).wr R.CAN_STATUS_ABORTED m.val 1
    else if s.on R.CAN_CFG_ONESHOT m.val then s.clrBits R.CAN_BPEND m.val (2 ^ k)
    else s

/-- The counters of ISO 11898-1 after an error. -/
def errCount (e : Fin 6) (c : Can) : Can :=
  { c with txe := if e.val = 1 ∨ e.val = 5 then c.txe + 8 else c.txe
           rxe := if e.val = 2 then c.rxe + 1 else if e.val = 3 then c.rxe + 8 else c.rxe }

/-- How an error ends the frame. -/
def State.errEnd (s : State) (m : Fin 2) (e : Fin 6) : State :=
  (if e.val < 2 ∨ e.val = 4 then s.canFrameEnd m else if e.val = 5 then s else s.canHeardEnd m).settleAll

theorem execCanError_run (on : s.domOn dCan = true) (run : s.rd R.CAN_CTRL_INIT m.val = 0) (e : Fin 6) :
    exec (.canError m e) s = .next ((((s.errBuf m e).modCan m (errCount e)).canErrState m).errEnd m e) :=
  congrArg Host.Outcome.next ((State.whenCan_on on _).trans (if_neg (by simp [State.off_iff.2 run])))

theorem State.errBuf_other {e : Fin 6} (other : e.val ≠ 0 ∧ e.val ≠ 1 ∧ e.val ≠ 4) : s.errBuf m e = s := by
  unfold State.errBuf
  split
  · rfl
  · exact if_pos (.inl other)

theorem State.errBuf_engine (cur : (s.cn m).cur = none ∨ (s.cn m).cur = some 32) (e : Fin 6) : s.errBuf m e = s := by
  unfold State.errBuf
  rcases cur with h | h <;> rw [h]
  exact if_pos (.inr (Nat.le_refl 32))

/-- A withdrawn buffer has ended. -/
def State.bufAborted (s : State) (m : Fin 2) (k : Nat) : State :=
  ((s.clrBits R.CAN_BPEND m.val (2 ^ k)).clrBits R.CAN_BABORT m.val (2 ^ k)).wr R.CAN_STATUS_ABORTED m.val 1

theorem State.errBuf_aborted {k : Nat} (cur : (s.cn m).cur = some k) (lt : k < 32) (gone : s.bit R.CAN_BABORT m.val k = true) :
    s.errBuf m 1 = s.bufAborted m k := by
  unfold State.errBuf
  rw [cur]
  exact (if_neg (by simp [lt])).trans (if_pos gone)

theorem State.bufAborted_shows (s : State) (m : Fin 2) (k : Nat) : (s.bufAborted m k).bit R.CAN_BPEND m.val k = false ∧
    (s.bufAborted m k).bit R.CAN_BABORT m.val k = false ∧ (s.bufAborted m k).rd R.CAN_STATUS_ABORTED m.val = 1 ∧ (s.bufAborted m k).cn m = s.cn m := by
  unfold State.bufAborted
  refine ⟨?_, ?_, State.rd_wr_lt (by decide) (by decide) _ _, rfl⟩
  · rw [State.bit, State.rd_wr_sep _ _ _ _ _ (by decide), State.clrBits, State.rd_wr_sep _ _ _ _ _ (by decide)]
    exact State.bit_clrBits_self (by decide) _ _ _
  · rw [State.bit, State.rd_wr_sep _ _ _ _ _ (by decide)]
    exact State.bit_clrBits_self (by decide) _ _ _

/-! ### Recovery and integration (R470, R479) -/

/-- The controller is error-active again, with counters 0. -/
def State.recovered (s : State) (m : Fin 2) : State :=
  ((s.modCan m fun c => { c with txe := 0, rxe := 0 }).canCounters m).wrs m.val
    [(R.CAN_STATUS_ESTATE, 0), (R.CAN_STATUS_SYNC, if s.on R.CAN_CTRL_INIT m.val then 0 else 1)]

theorem State.netCan_of_words (dom : t.rd R.PWR_DOM_STATE_ON 0 = s.rd R.PWR_DOM_STATE_ON 0) (en : t.rd R.NET_CFG_EN 0 = s.rd R.NET_CFG_EN 0)
    (can : t.rd R.NET_CFG_CAN 0 = s.rd R.NET_CFG_CAN 0) : t.netCan = s.netCan := by
  rw [State.netCan, State.domOn, State.bit, dom, State.on, en, State.on, can, State.netCan, State.domOn, State.bit, State.on, State.on]

/-- The registers that name the NET engine's controller lie apart from what settling changes. -/
theorem Settled.netCan (h : Settled [] s t) : t.netCan = s.netCan :=
  State.netCan_of_words (h.rd _ _ (by decide) (by decide)) (h.rd _ _ (by decide) (by decide)) (h.rd _ _ (by decide) (by decide))

/-- The words of a controller's status and counters. -/
def canStateWords (m : Fin 2) : List (Nat × Word) := [R.CAN_TEC.at m.val, R.CAN_REC.at m.val, R.CAN_STATUS_ESTATE.at m.val, R.CAN_STATUS_SYNC.at m.val]

theorem canState_apart : ∀ m : Fin 2, R.PWR_DOM_STATE_ON.mask &&& maskAt (canStateWords m) (R.PWR_DOM_STATE_ON.addr 0) = 0#32 ∧
    R.NET_CFG_EN.mask &&& maskAt (canStateWords m) (R.NET_CFG_EN.addr 0) = 0#32 ∧
    R.NET_CFG_CAN.mask &&& maskAt (canStateWords m) (R.NET_CFG_CAN.addr 0) = 0#32 := by decide

theorem State.recovered_netCan (s : State) (m : Fin 2) : (s.recovered m).netCan = s.netCan := by
  have only (u : State) (v : Nat) : OnlyRegs (canStateWords m) u ((u.canCounters m).wrs m.val [(R.CAN_STATUS_ESTATE, 0), (R.CAN_STATUS_SYNC, v)]) :=
    ((OnlyRegs.refl _ _).wrs _ _ (by simp +decide [canStateWords])).wrs _ _ (by simp +decide [canStateWords])
  obtain ⟨dom, en, can⟩ := canState_apart m
  have kept := (only (s.modCan m fun c => { c with txe := 0, rxe := 0 }) (if s.on R.CAN_CTRL_INIT m.val then 0 else 1)).1
  exact State.netCan_of_words (kept.rd _ _ (by decide) dom) (kept.rd _ _ (by decide) en) (kept.rd _ _ (by decide) can)

theorem State.recovered_shows (s : State) (m : Fin 2) : (s.recovered m).rd R.CAN_STATUS_ESTATE m.val = 0 ∧ (s.recovered m).rd R.CAN_TEC m.val = 0 ∧
    (s.recovered m).rd R.CAN_REC m.val = 0 ∧ (s.recovered m).rd R.CAN_STATUS_SYNC m.val = (if s.rd R.CAN_CTRL_INIT m.val = 0 then 1 else 0) ∧
    (s.recovered m).cn m = { s.cn m with txe := 0, rxe := 0 } := by
  unfold State.recovered
  refine ⟨?_, ?_, ?_, ?_, ?_⟩
  · simp (disch := decide) only [State.wrs, State.rd_wr_sep, State.rd_wr_lt]
  · simp (disch := decide) only [State.wrs, State.canCounters, State.rd_wr_sep, State.cn_modCan]
    exact State.rd_wr_lt (by decide) (by decide) _ _
  · simp (disch := decide) only [State.wrs, State.canCounters, State.rd_wr_sep, State.cn_modCan]
    exact State.rd_wr_lt (by decide) (by decide) _ _
  · simp only [State.wrs]
    by_cases init : s.rd R.CAN_CTRL_INIT m.val = 0
    · rw [if_neg (by simp [State.off_iff.2 init]), if_pos init, State.rd_wr_lt (by decide) (by decide)]
    · rw [if_pos (State.on_iff.2 init), if_neg init, State.rd_wr_lt (by decide) (by decide)]
  · rw [State.cn_wrs, State.cn_canCounters, State.cn_modCan]

theorem execCanRecoveryDone_other (on : s.domOn dCan = true) (waits : s.rd R.CAN_STATUS_ESTATE m.val = 3) (net : s.netCan ≠ some m) :
    exec (.canRecoveryDone m) s = .next ((((s.recovered m).condSet (srcCanBusoff m.val) false).canNext m).settleAll) := by
  have still : ((s.recovered m).condSet (srcCanBusoff m.val) false).netCan = s.netCan :=
    ((Settled.refl [] (s.recovered m)).condSet _ _).netCan.trans (s.recovered_netCan m)
  refine congrArg Host.Outcome.next ((State.whenCan_on on _).trans ((if_pos waits).trans ?_))
  exact congrArg (fun t : State => (t.canNext m).settleAll) (if_neg (by rwa [← still] at net))

/-- A protocol exception: the controller integrates again. -/
def State.excepted (s : State) (m : Fin 2) : State :=
  (s.modCan m fun c => { c with cur := none }).wrs m.val [(R.CAN_STATUS_PEX, 1), (R.CAN_STATUS_SYNC, 0)]

theorem execCanFrameReceived_excepted {hdr : Word} {dlc : BitVec 4} {rtr esi pex : Bool} {data : List (BitVec 8)} {sof : Word} (on : s.domOn dCan = true)
    (hears : s.canRxOk m = true) (bad : pex = true ∨ (hdr.getLsbD 31 = true ∧ s.rd R.CAN_CFG_FD m.val = 0)) :
    exec (.canFrameReceived m hdr dlc rtr data sof esi pex) s = .next ((s.excepted m).canHeardEnd m) := by
  have excepted : (pex || (hdr.getLsbD 31 && !s.on R.CAN_CFG_FD m.val)) = true := by
    rcases bad with h | ⟨h, fd⟩
    · rw [h, Bool.true_or]
    · rw [h, State.off_iff.2 fd]
      exact Bool.or_true _
  exact congrArg Host.Outcome.next ((State.whenCan_on on _).trans ((if_neg (by rw [hears]; exact Bool.false_ne_true)).trans (if_pos excepted)))

theorem execCanFrameReceived_heard {hdr : Word} {dlc : BitVec 4} {rtr esi : Bool} {data : List (BitVec 8)} {sof : Word} (on : s.domOn dCan = true)
    (hears : s.canRxOk m = true) (fd : hdr.getLsbD 31 = true → s.rd R.CAN_CFG_FD m.val ≠ 0) :
    exec (.canFrameReceived m hdr dlc rtr data sof esi false) s = .next (((s.canRecDown m).canHear m (CanFrame.onBus
      { fdf := hdr.getLsbD 31, brs := hdr.getLsbD 30, esi := esi, ide := hdr.getLsbD 29, rtr := rtr, id := hdr.toNat % 2 ^ 29,
        dlc := dlc.toNat, ts := sof, data := data } true esi)).canHeardEnd m).settleAll := by
  have plain : ¬ (false || (hdr.getLsbD 31 && !s.on R.CAN_CFG_FD m.val)) = true := by
    cases h : hdr.getLsbD 31
    · simp
    · simp [State.on_iff.2 (fd h)]
  exact congrArg Host.Outcome.next ((State.whenCan_on on _).trans ((if_neg (by rw [hears]; exact Bool.false_ne_true)).trans (if_neg plain)))

theorem canFirst_head {k : Nat × CanFrame} {l : List (Nat × CanFrame)} (least : ∀ e ∈ l, k.2.key ≤ e.2.key) : canFirst (k :: l) = some k.1 := by
  have kept : l.foldl (fun b e => if e.2.key < b.2.key then e else b) k = k :=
    foldl_still l fun e he => if_neg (Nat.not_lt.2 (least e he))
  obtain ⟨i, f⟩ := k
  rw [canFirst, kept]

end

/-- Settles O48, by what the controller hears or sends. -/
theorem canBusEvents : Obligations.CanBusEvents := by
  unfold Obligations.CanBusEvents
  intro m s on
  have go (f : State → State) : s.whenCan f = f s := State.whenCan_on on f
  refine ⟨fun hdr dlc rtr data sof esi pex deaf => congrArg Host.Outcome.next ((go _).trans (if_pos (by simp [deaf]))),
    fun hdr dlc rtr data sof esi pex hears bad => ⟨s.excepted m, execCanFrameReceived_excepted on hears bad, ?_, ?_, ?_, OnlyRegs.canWrs _ _ _ _ _ (by simp +decide)⟩,
    fun hdr dlc rtr data sof esi f hears fd hf => ?_, fun f => State.canHear_plain, fun f u ide net hu => ?_, fun f => State.canAccept_none,
    fun f a x b => State.canAccept_first, fun f => State.canToFifo_room, fun f => State.canToFifo_full, fun f k => State.canToBuf_rx, fun sof idle => ?_,
    fun k sof cur lt => ?_, fun sof cur mode => ?_,
    fun k fd => State.canOut_classic fd k, fun k => State.canOut_fd, fun e init => congrArg Host.Outcome.next ((go _).trans (if_pos (State.on_iff.2 init))),
    fun run => ⟨?_, ?_, ?_, fun engine => ⟨?_, ?_, ?_⟩, fun k cur lt gone => ?_⟩, fun active le => ?_,
    fun active gt => ⟨s.busOff m, State.canErrState_busOff active gt, ?_, ?_, ?_, ?_⟩, fun other => congrArg Host.Outcome.next ((go _).trans (if_neg other)),
    fun waits net => ?_, fun run active => ⟨(s.wr R.CAN_STATUS_SYNC m.val 1).wr R.CAN_STATUS_TXDTO m.val 0,
      congrArg Host.Outcome.next ((go _).trans (if_pos (by simp [State.off_iff.2 run, active]))), ?_, ?_, ?_⟩,
    fun other => congrArg Host.Outcome.next ((go _).trans (if_neg ?_)), fun k l idle ok queue pending least => ?_⟩
  case refine_1 =>
    unfold State.excepted
    simp (disch := decide) only [State.wrs, State.rd_wr_sep, State.rd_wr_lt]
  case refine_2 =>
    unfold State.excepted
    simp (disch := decide) only [State.wrs, State.rd_wr_lt]
  case refine_3 => rw [State.excepted, State.cn_wrs, State.cn_modCan]
  case refine_4 => rw [execCanFrameReceived_heard on hears fd, canFrame_onBus hf]
  case refine_5 =>
    rw [hu]
    exact State.canHear_partner ide net
  case refine_6 =>
    refine congrArg Host.Outcome.next ((go _).trans ?_)
    rw [idle]
  case refine_7 =>
    obtain ⟨pend, abort, done, irq, record, mode⟩ := s.bufSent_shows m lt
    refine ⟨s.bufSent m k, fun plain => ?_, fun loop => ?_, pend, abort, done, irq, record, s.bufSent_only m k⟩
    · rw [execCanTxDone_buf on cur lt, State.sentEnd_plain (by rwa [mode])]
    · rw [execCanTxDone_buf on cur lt, State.sentEnd_loop (by rwa [mode])]
  case refine_8 => rw [execCanTxDone_engine on cur, State.sentEnd_plain (by rwa [State.rd_modCan])]
  case refine_9 =>
    rw [execCanError_run on run, State.errBuf_other (by decide)]
    rfl
  case refine_10 =>
    rw [execCanError_run on run, State.errBuf_other (by decide)]
    rfl
  case refine_11 =>
    rw [execCanError_run on run, State.errBuf_other (by decide)]
    rfl
  case refine_12 =>
    rw [execCanError_run on run, State.errBuf_engine engine, State.modCan_same rfl]
    rfl
  case refine_13 =>
    rw [execCanError_run on run, State.errBuf_engine engine, State.modCan_same rfl]
    rfl
  case refine_14 =>
    rw [execCanError_run on run, State.errBuf_engine engine]
    rfl
  case refine_15 =>
    obtain ⟨pend, abort, aborted, record⟩ := s.bufAborted_shows m k
    refine ⟨(s.bufAborted m k).modCan m (errCount 1), pend, abort, aborted, ?_, ?_⟩
    · rw [State.cn_modCan, record]
      rfl
    · rw [execCanError_run on run, State.errBuf_aborted cur lt gone]
      rfl
  case refine_16 =>
    rw [State.canErrState_active active le]
    refine ⟨?_, ?_, State.rd_wr_lt (by decide) (by split <;> decide) _ _⟩
    · rw [State.rd_wr_sep _ _ _ _ _ (by decide), State.canCounters]
      simp (disch := decide) only [State.wrs, State.rd_wr_sep]
      rw [State.rd_wr_lt (by decide) (show min (s.cn m).txe 255 < 256 by omega)]
      omega
    · rw [State.rd_wr_sep _ _ _ _ _ (by decide), State.canCounters]
      simp only [State.wrs]
      exact State.rd_wr_lt (by decide) (show min (s.cn m).rxe 255 < 256 by omega) _ _
  case refine_17 =>
    unfold State.busOff
    simp (disch := decide) only [State.wrs, State.rd_wr_sep, State.rd_wr_lt]
  case refine_18 =>
    unfold State.busOff
    simp (disch := decide) only [State.wrs, State.rd_wr_sep, State.rd_wr_lt]
  case refine_19 =>
    unfold State.busOff
    simp (disch := decide) only [State.wrs, State.rd_wr_sep, State.rd_wr_lt]
  case refine_20 => rw [State.busOff, State.cn_wr, State.cn_wrs, State.cn_modCan]
  case refine_21 =>
    obtain ⟨estate, tec, rec', sync, record⟩ := s.recovered_shows m
    exact ⟨s.recovered m, estate, tec, rec', sync, record, execCanRecoveryDone_other on waits net⟩
  case refine_22 => rw [State.rd_wr_sep _ _ _ _ _ (by decide), State.rd_wr_lt (by decide) (by decide)]
  case refine_23 => exact State.rd_wr_lt (by decide) (by decide) _ _
  case refine_24 => exact ((OnlyRegs.refl _ _).wr _ _ _ (by decide) (by simp)).wr _ _ _ (by decide) (by simp)
  case refine_25 =>
    rcases other with h | h
    · simp [State.on_iff.2 h]
    · simp [Nat.not_lt.2 h]
  case refine_26 =>
    have next : s.canNext m = s.modCan m fun c => { c with cur := canFirst (s.canPending m ++ ((s.cn m).txq.take 1).map fun f => (32, f)) } :=
      if_pos (by simp [idle, ok])
    rw [next, State.cn_modCan, queue, pending, List.take_nil, List.map_nil, List.append_nil]
    exact canFirst_head least

end Sys2Proof.Machine

/-! SUPPORT. O49: the claim of a network address. -/

namespace Sys2Proof.Machine

section
variable {s t : State} {m : Fin 2} {l : List (Nat × Word)}

/-! ### What the engine sends and withdraws (R481) -/

theorem State.canNext_can (s : State) (m : Fin 2) : s.canNext m = { s with can := (s.canNext m).can } := by
  unfold State.canNext
  split <;> rfl

theorem State.canRepick_can (s : State) (m : Fin 2) (b : Bool) : s.canRepick m b = { s with can := (s.canRepick m b).can } := by
  unfold State.canRepick
  split
  · exact s.canNext_can m
  · exact ((s.modCan m fun c => { c with cur := none }).canNext_can m).trans rfl

theorem State.netSend_none (off : s.netCan = none) (f : CanFrame) : s.netSend f = s := by rw [State.netSend, off]

theorem State.netSend_some (net : s.netCan = some m) (f : CanFrame) : s.netSend f = s.canSend m f := by rw [State.netSend, net]

/-- Pending buffers of the bits `d` are withdrawn and flagged. -/
def State.swept (s : State) (m : Fin 2) (d : Nat) : State :=
  ((s.clrBits R.CAN_BPEND m.val d).clrBits R.CAN_BABORT m.val d).wr R.CAN_IRQ_WR_DENIED m.val 1

theorem State.swept_shows (s : State) (m : Fin 2) (d : Nat) : (s.swept m d).rd R.CAN_IRQ_WR_DENIED m.val = 1 ∧
    (∀ k, (s.swept m d).bit R.CAN_BPEND m.val k = (s.bit R.CAN_BPEND m.val k && !d.testBit k)) ∧
    OnlyRegs [R.CAN_BPEND.at m.val, R.CAN_BABORT.at m.val, R.CAN_IRQ_WR_DENIED.at m.val] s (s.swept m d) := by
  unfold State.swept
  refine ⟨State.rd_wr_lt (by decide) (by decide) _ _, fun k => ?_, ?_⟩
  · rw [State.bit, State.rd_wr_sep _ _ _ _ _ (by decide), State.clrBits, State.rd_wr_sep _ _ _ _ _ (by decide), State.rd_clrBits (by decide),
      testBit_sub_and, State.bit]
  · exact (((OnlyRegs.refl _ _).wr _ _ _ (by decide) (by simp)).wr _ _ _ (by decide) (by simp)).wr _ _ _ (by decide) (by simp)

theorem State.netSweep_none (b : Bool) (none' : s.netDiscards m (s.rd R.CAN_BPEND m.val) = 0) : s.netSweep m b = s := if_pos none'

theorem State.netSweep_some (b : Bool) {d : Nat} (hd : d = s.netDiscards m (s.rd R.CAN_BPEND m.val)) (some' : d ≠ 0) :
    s.netSweep m b = { s.swept m d with can := (s.netSweep m b).can } := by
  have shape : s.netSweep m b = match ((s.swept m d).cn m).cur with
      | some k => if d.testBit k then (s.swept m d).canRepick m b else s.swept m d
      | none => s.swept m d := by
    subst hd
    exact if_neg some'
  rw [shape]
  generalize s.swept m d = u
  split
  · split
    · exact u.canRepick_can m b
    · rfl
  · rfl

theorem State.netDiscard_some (net : s.netCan = some m) : s.netDiscard = s.used.netSweep m (s.anyVal.getLsbD 0) := by rw [State.netDiscard, net]

theorem State.netDiscards_used (s : State) (m : Fin 2) (w : Nat) : s.used.netDiscards m w = s.netDiscards m w := rfl

theorem State.rd_used (s : State) (f : Fld) (i : Nat) : s.used.rd f i = s.rd f i := rfl

theorem OnlyRegs.fromUsed (h : OnlyRegs l s.used t) : OnlyRegs l s { t with can := s.can, free := s.free } :=
  ⟨h.1, h.2.1, show ({ t.rest with can := s.can, free := s.free } : State) = s.rest by rw [h.2.2]; rfl⟩

theorem State.netDiscard_sweeps {d : Nat} (net : s.netCan = some m) (hd : d = s.netDiscards m (s.rd R.CAN_BPEND m.val)) (some' : d ≠ 0) :
    s.netDiscard = { s.used.swept m d with can := s.netDiscard.can } := by
  rw [State.netDiscard_some net]
  exact State.netSweep_some _ hd some'

/-! ### The claim (R481) -/

/-- Whether a delayed Cannot Claim is due. -/
def State.withLate (s : State) (b : Bool) : State := { s with net.late := b }

theorem State.rd_withLate (s : State) (b : Bool) (f : Fld) (i : Nat) : (s.withLate b).rd f i = s.rd f i := rfl

theorem OnlyRegs.withLate (h : OnlyRegs l s t) (b : Bool) : OnlyRegs l s { t.withLate b with net := s.net } :=
  ⟨h.1, h.2.1, show ({ t.rest with net := s.net } : State) = s.rest by rw [h.2.2]; rfl⟩

/-- The state in which the claim from `sa` goes on. -/
def State.claiming (s : State) (sa : Nat) : State :=
  (s.wrs 0 [(R.NET_STATUS_CLAIM, 1), (R.NET_OWN_VALID, 0), (R.NET_OWN_SA, sa)]).withLate false

theorem State.claiming_shows (s : State) {sa : Nat} (lt : sa < 256) : (s.claiming sa).rd R.NET_STATUS_CLAIM 0 = 1 ∧ (s.claiming sa).rd R.NET_OWN_VALID 0 = 0 ∧
    (s.claiming sa).rd R.NET_OWN_SA 0 = sa ∧
    OnlyRegs [R.NET_STATUS_CLAIM.at 0, R.NET_OWN_VALID.at 0, R.NET_OWN_SA.at 0] s { s.claiming sa with net := s.net } := by
  have only : OnlyRegs [R.NET_STATUS_CLAIM.at 0, R.NET_OWN_VALID.at 0, R.NET_OWN_SA.at 0] s
      (s.wrs 0 [(R.NET_STATUS_CLAIM, 1), (R.NET_OWN_VALID, 0), (R.NET_OWN_SA, sa)]) := (OnlyRegs.refl _ _).wrs _ _ (by simp +decide)
  unfold State.claiming
  simp only [State.rd_withLate]
  refine ⟨?_, ?_, State.rd_wr_lt (by decide) lt _ _, only.withLate false⟩ <;>
    simp (disch := decide) only [State.wrs, State.rd_wr_sep, State.rd_wr_lt]

theorem State.claimAt_eq (s : State) (sa : Nat) : s.claimAt sa = (((s.claiming sa).condSet srcNetAddrLost false).netDiscard).sendClaim sa := rfl

/-- The state of a device that has lost its address. -/
def State.claimLost (s : State) : State :=
  (s.wrs 0 [(R.NET_STATUS_CLAIM, 3), (R.NET_OWN_VALID, 0), (R.NET_IRQ_LOST, 1)]).withLate true

theorem State.cannotClaim_eq (s : State) : s.cannotClaim = (s.claimLost.condSet srcNetAddrLost true).netDiscard := rfl

theorem State.claimLost_shows (s : State) : s.claimLost.rd R.NET_STATUS_CLAIM 0 = 3 ∧ s.claimLost.rd R.NET_OWN_VALID 0 = 0 ∧ s.claimLost.rd R.NET_IRQ_LOST 0 = 1 := by
  unfold State.claimLost
  simp only [State.rd_withLate]
  refine ⟨?_, ?_, ?_⟩ <;> simp (disch := decide) only [State.wrs, State.rd_wr_sep, State.rd_wr_lt]

theorem State.contested_higher {n : Nat} (lt : s.netName < n) : s.contested n = s.sendClaim (s.rd R.NET_OWN_SA 0) := if_pos lt

theorem State.contested_own {n : Nat} (same : s.netName = n) : s.contested n = s := (if_neg (by omega)).trans (if_neg (by omega))

theorem State.contested_fixed {n : Nat} (lt : n < s.netName) (fixed : s.netName.testBit 63 = false) : s.contested n = s.cannotClaim :=
  (if_neg (by omega)).trans ((if_pos lt).trans (if_neg (by simp [fixed])))

theorem State.contested_moves {n a : Nat} (lt : n < s.netName) (free : s.netName.testBit 63 = true) (next : s.freeSa (s.rd R.NET_OWN_SA 0) = some a) :
    s.contested n = s.claimAt a := by
  refine (if_neg (by omega)).trans ((if_pos lt).trans ((if_pos free).trans ?_))
  rw [next]

theorem State.freeSa_some {a b : Nat} (h : s.freeSa a = some b) : 128 ≤ b ∧ b ≤ 247 ∧ b ≠ a ∧ ∀ p ∈ s.net.part, p.sa ≠ b := by
  have found := List.find?_some h
  have listed := List.mem_of_find?_eq_some h
  have range : 128 ≤ b ∧ b ≤ 247 := by
    simp only [List.mem_append, List.mem_filter, List.mem_map, List.mem_range] at listed
    rcases listed with ⟨⟨i, lt, e⟩, -⟩ | ⟨⟨i, lt, e⟩, -⟩ <;> omega
  simp only [Bool.and_eq_true, decide_eq_true_eq, Bool.not_eq_true', List.any_eq_false, beq_iff_eq] at found
  exact ⟨range.1, range.2, found.1, found.2⟩

/-! ### The partners (R482) -/

theorem State.partnerGone_none {p : Partner → Bool} (none' : ∀ x ∈ s.net.part, p x = false) : s.partnerGone p = s :=
  if_neg (by simpa using none')

/-- Partner `name` is at address `a`. -/
def State.partnerAt (s : State) (a name : Nat) : State :=
  ({ s with net.part := s.net.part.filter (fun (p : Partner) => p.sa != a) ++ [({ sa := a, name := name, since := s.now } : Partner)] } : State).wr R.NET_IRQ_JOINED 0 1

theorem State.partnerAt_only (s : State) (a name : Nat) : OnlyRegs [R.NET_IRQ_JOINED.at 0] s { s.partnerAt a name with net := s.net } :=
  OnlyRegs.withNet ((OnlyRegs.refl [R.NET_IRQ_JOINED.at 0] ({ s with net.part := s.net.part.filter (fun (p : Partner) => p.sa != a) ++
    [({ sa := a, name := name, since := s.now } : Partner)] } : State)).wr R.NET_IRQ_JOINED 0 1 (by decide) (by simp)) rfl

theorem State.rd_partnerAt (s : State) (a name : Nat) {f : Fld} (apart : R.NET_IRQ_JOINED.sep f = true) : (s.partnerAt a name).rd f 0 = s.rd f 0 :=
  (State.rd_wr_sep _ _ _ _ _ apart).trans (State.rd_of_regs rfl f 0)

theorem execAddressClaimedReceived_joins (on : s.domOn dCan = true) (net : s.netCan ≠ none) {sa : BitVec 8} {name : BitVec 64} (lt : sa.toNat < 254)
    (none' : s.net.part = []) : exec (.addressClaimedReceived sa name) s =
      .next (if sa.toNat = s.rd R.NET_OWN_SA 0 ∧ (s.rd R.NET_STATUS_CLAIM 0 = 1 ∨ s.rd R.NET_STATUS_CLAIM 0 = 2) then
        (s.partnerAt sa.toNat name.toNat).contested name.toNat else s.partnerAt sa.toNat name.toNat).settleAll := by
  refine congrArg Host.Outcome.next ((State.whenCan_on on _).trans ((if_neg (by simpa [Option.isNone_iff_eq_none] using net)).trans ?_))
  dsimp only
  rw [State.partnerGone_none (s := s) (by simp [none']), if_neg (Nat.not_le.2 lt), State.partnerGone_none (s := s) (by simp [none'])]
  rw [← s.rd_partnerAt sa.toNat name.toNat (f := R.NET_OWN_SA) (by decide), ← s.rd_partnerAt sa.toNat name.toNat (f := R.NET_STATUS_CLAIM) (by decide)]
  rfl

theorem execPartnerLeaveTimeout_leaves (on : s.domOn dCan = true) (timed : s.rd R.NET_CFG_LEAVE_T 0 ≠ 0) {sa : BitVec 8} {p : Partner} (mem : p ∈ s.net.part)
    (at' : p.sa = sa.toNat) : exec (.partnerLeaveTimeout sa) s =
      .next (({ s with net.part := s.net.part.filter fun q => q.sa ≠ sa.toNat } : State).wr R.NET_IRQ_LEFT 0 1) := by
  have present : s.net.part.any (fun q => q.sa == sa.toNat) = true := List.any_eq_true.2 ⟨p, mem, by simp [at']⟩
  have rest : s.net.part.filter (fun q => !(q.sa == sa.toNat)) = s.net.part.filter fun q => q.sa ≠ sa.toNat :=
    List.filter_congr fun q _ => by by_cases e : q.sa = sa.toNat <;> simp [e]
  refine congrArg Host.Outcome.next ((State.whenCan_on on _).trans ((if_neg timed).trans ((if_pos present).trans ?_)))
  rw [rest]

end

/-- Settles O49, by the state of the claim. -/
theorem addressClaim : Obligations.AddressClaim := by
  unfold Obligations.AddressClaim
  intro s on
  have go (f : State → State) : s.whenCan f = f s := State.whenCan_on on f
  refine ⟨fun none' => ⟨congrArg Host.Outcome.next ((go _).trans (congrArg State.settleAll ?_)), fun sa name => congrArg Host.Outcome.next ((go _).trans (if_pos ?_))⟩,
    fun net => congrArg Host.Outcome.next ((go _).trans (congrArg State.settleAll ?_)), fun sa lt => ?_, fun none' => ?_, fun m net none' => ?_,
    fun m d net hd some' => ?_, fun sa name net ge others => ?_, fun sa name net lt none' => ?_, fun sa h => ?_, fun sa p timed mem at' => ?_,
    fun n => ⟨State.contested_higher, State.contested_own, fun lt fixed => ?_, fun a => State.contested_moves⟩, fun a b => State.freeSa_some,
    fun da asked net => ?_, fun da other => ?_, fun claiming => ?_, fun other => ?_, fun late lost => ?_, fun other => ?_, fun m sa f net hf => ⟨?_, rfl⟩⟩
  case refine_1 => exact if_neg (by simp [none'])
  case refine_2 => simp [none']
  case refine_3 => exact if_pos (Option.isSome_iff_ne_none.2 net)
  case refine_4 =>
    obtain ⟨claim, valid, own, only⟩ := s.claiming_shows lt
    exact ⟨s.claiming sa, claim, valid, own, rfl, only, s.claimAt_eq sa⟩
  case refine_5 => rw [State.netDiscard, none']
  case refine_6 =>
    rw [State.netDiscard_some net]
    exact State.netSweep_none _ none'
  case refine_7 =>
    obtain ⟨irq, pend, only⟩ := s.used.swept_shows m d
    rw [State.netDiscard_sweeps net hd some']
    exact ⟨irq, fun k _ => pend k, only.fromUsed⟩
  case refine_8 =>
    refine congrArg Host.Outcome.next ((go _).trans ((if_neg (by simpa [Option.isNone_iff_eq_none] using net)).trans ?_))
    dsimp only
    rw [State.partnerGone_none fun x mem => by simp [others x mem], if_pos ge]
  case refine_9 =>
    have exec' := execAddressClaimedReceived_joins on net (name := name) lt none'
    refine ⟨s.partnerAt sa.toNat name.toNat, State.rd_wr_lt (by decide) (by decide) _ _, ?_, s.partnerAt_only _ _, fun other => ?_, fun own claim => ?_⟩
    · rw [State.partnerAt, State.wr_net]
      simp [none']
    · rw [exec', if_neg (by omega)]
    · rw [exec', if_pos ⟨own, claim⟩]
  case refine_10 =>
    refine congrArg Host.Outcome.next ((go _).trans ?_)
    rcases h with h | h
    · exact if_pos h
    · refine ite_eq_left_iff.2 fun _ => State.partnerGone_none fun x mem => ?_
      simp [h x mem]
  case refine_11 =>
    refine ⟨_, execPartnerLeaveTimeout_leaves on timed mem at', State.rd_wr_lt (by decide) (by decide) _ _, rfl, ?_⟩
    exact OnlyRegs.withNet ((OnlyRegs.refl _ ({ s with net.part := s.net.part.filter fun q => q.sa ≠ sa.toNat } : State)).wr _ _ _ (by decide) (by simp)) rfl
  case refine_12 =>
    obtain ⟨claim, valid, irq⟩ := s.claimLost_shows
    exact ⟨s.claimLost, (State.contested_fixed lt fixed).trans s.cannotClaim_eq, claim, valid, irq, rfl⟩
  case refine_13 =>
    have hit : (s.netCan.isSome && (da == 255#8 || decide (da.toNat = s.rd R.NET_OWN_SA 0))) = true := by
      rw [Option.isSome_iff_ne_none.2 net]
      rcases asked with h | h
      · rw [h]; rfl
      · simp [h]
    have taken := (go fun s => if s.netCan.isSome && (da == 255#8 || decide (da.toNat = s.rd R.NET_OWN_SA 0)) then
      if s.rd R.NET_STATUS_CLAIM 0 = 2 then s.sendClaim (s.rd R.NET_OWN_SA 0)
      else if s.rd R.NET_STATUS_CLAIM 0 = 3 then { s with net.late := true }
      else s
    else s).trans (if_pos hit)
    exact ⟨fun own => congrArg Host.Outcome.next (taken.trans (if_pos own)),
      fun lost => congrArg Host.Outcome.next (taken.trans ((if_neg (by omega)).trans (if_pos lost))),
      fun lt => congrArg Host.Outcome.next (taken.trans ((if_neg (by omega)).trans (if_neg (by omega))))⟩
  case refine_14 =>
    refine congrArg Host.Outcome.next ((go _).trans (if_neg ?_))
    rcases other with ⟨h, own⟩ | h
    · simpa [own] using fun _ => h
    · simp [h]
  case refine_15 =>
    refine ⟨s.wrs 0 [(R.NET_STATUS_CLAIM, 2), (R.NET_OWN_VALID, 1), (R.NET_IRQ_CLAIMED, 1)], congrArg Host.Outcome.next ((go _).trans (if_pos claiming)), ?_, ?_, ?_,
      (OnlyRegs.refl _ _).wrs _ _ (by decide)⟩ <;> simp (disch := decide) only [State.wrs, State.rd_wr_sep, State.rd_wr_lt]
  case refine_16 => exact congrArg Host.Outcome.next ((go _).trans (if_neg other))
  case refine_17 => exact congrArg Host.Outcome.next ((go _).trans (if_pos (by simp [late, lost])))
  case refine_18 => exact congrArg Host.Outcome.next ((go _).trans (if_neg (by rcases other with h | h <;> simp [h])))
  case refine_19 =>
    rw [hf]
    exact State.netSend_some net _

end Sys2Proof.Machine

/-! SUPPORT. O50: transport sessions. -/

namespace Sys2Proof.Machine

section
variable {s t u : State} {i j : Ch}

/-! ### The records of the sessions -/

theorem State.ss_modSs_self (s : State) (i : Ch) (g : Sess → Sess) : (s.modSs i g).ss i = g (s.ss i) := (s.ss_modSs i i g).trans (if_pos rfl)

theorem State.ss_modSs_ne (s : State) (g : Sess → Sess) (ne : j ≠ i) : (s.modSs i g).ss j = s.ss j := (s.ss_modSs i j g).trans (if_neg ne.symm)

theorem State.modSs_same {g : Sess → Sess} (same : g (s.ss i) = s.ss i) : s.modSs i g = s := by
  have kept : s.net.sess.set i.val (g (s.ss i)) = s.net.sess := by
    rw [same]
    exact Vector.set_getElem_self _
  unfold State.modSs
  rw [kept]

theorem State.ss_of_net (e : t.net = s.net) (i : Ch) : t.ss i = s.ss i := by rw [State.ss, e, State.ss]

theorem State.rd_modSs (s : State) (i : Ch) (g : Sess → Sess) (f : Fld) (k : Nat) : (s.modSs i g).rd f k = s.rd f k := rfl

theorem OnlyRegs.fromModSs {l : List (Nat × Word)} {g : Sess → Sess} (h : OnlyRegs l (s.modSs i g) t) : OnlyRegs l s { t with net := s.net } := h.withNet rfl

theorem OnlyRegs.modSs (l : List (Nat × Word)) (s : State) (i : Ch) (g : Sess → Sess) : OnlyRegs l s { s.modSs i g with net := s.net } := OnlyRegs.refl l s

/-! ### What the engine sends leaves its registers and records -/

theorem State.canSend_net (s : State) (m : Fin 2) (f : CanFrame) : (s.canSend m f).net = s.net := by
  rw [State.canSend, State.canRepick_can]
  rfl

theorem State.netSend_net (s : State) (f : CanFrame) : (s.netSend f).net = s.net := by
  unfold State.netSend
  split
  · exact s.canSend_net _ _
  · rfl

theorem State.sendCm_net (s : State) (etp : Bool) (da : Nat) (d : List (BitVec 8)) : (s.sendCm etp da d).net = s.net := s.netSend_net _

theorem State.sendDt_net (s : State) (x : Sess) (p q : Nat) : (s.sendDt x p q).net = s.net := s.netSend_net _

theorem State.sendDts_net (s : State) (x : Sess) (p q n : Nat) : (s.sendDts x p q n).net = s.net := by
  induction n generalizing s p q with
  | zero => rfl
  | succ n ih => exact (ih _ _ _).trans (s.sendDt_net x p q)

/-- A session that starts to send: its record, and then a frame. -/
theorem State.sessStart_net (s : State) (i : Ch) (kind da pgn len : Nat) (gate : Bool) : (s.sessStart i kind da pgn len gate).net = (s.modSs i fun x =>
    { x with st := 1, done := 0, kind := kind, da := da, pgn := pgn, len := len, tx := true, peer := da, next := 1, left := 0,
             base := 0, win := min 255 ((len + 6) / 7), cts := none, gate := gate }).net := by
  unfold State.sessStart
  extract_lets u x
  split
  · exact State.sendCm_net _ _ _ _
  · split <;> exact State.sendCm_net _ _ _ _

theorem State.ss_sessStart (s : State) (i : Ch) (kind da pgn len : Nat) (gate : Bool) : (s.sessStart i kind da pgn len gate).ss i =
    { s.ss i with st := 1, done := 0, kind := kind, da := da, pgn := pgn, len := len, tx := true, peer := da, next := 1, left := 0,
                  base := 0, win := min 255 ((len + 6) / 7), cts := none, gate := gate } := by
  rw [State.ss_of_net (s.sessStart_net i kind da pgn len gate), State.ss_modSs_self]

/-! ### The idle sessions -/

theorem sessions_find (f : Ch → Bool) (i : Ch) : sessions.find? f = some i ↔ f i = true ∧ ∀ j, j < i → f j = false := by
  simp only [sessions, List.find?_cons, List.find?_nil]
  cases h0 : f 0 <;> cases h1 : f 1 <;> cases h2 : f 2 <;> cases h3 : f 3 <;> fin_cases i <;>
    simp_all [Fin.forall_fin_succ, Fin.lt_def]

theorem State.idleSess_some : s.idleSess = some i ↔ (s.ss i).st = 0 ∧ ∀ j, j < i → (s.ss j).st ≠ 0 := by
  rw [State.idleSess, sessions_find]
  simp

theorem State.idleSess_none (none' : s.idleSess = none) (i : Ch) : (s.ss i).st ≠ 0 := by
  have all := List.find?_eq_none.1 none' i (by fin_cases i <;> decide)
  simpa using all

/-! ### The answers of the gateway that wait (R486) -/

/-- Session `i` takes the oldest answer of the gateway that waits. -/
def State.flushTo (s : State) (i : Ch) : State :=
  match s.net.gwOut with
  | [] => s
  | (sa, d) :: l =>
    if (s.ss i).st = 0 ∧ s.netUp = true then
      (({ s with net.gwOut := l }).modSs i fun x => { x with buf := [] }.setBytes 0 d).sessStart i 0 sa 0xEF00 d.length true
    else s

theorem State.gwFlush_eq (s : State) : s.gwFlush = sessions.foldl State.flushTo s := rfl

theorem State.flushTo_none (none' : s.net.gwOut = []) (i : Ch) : s.flushTo i = s := by rw [State.flushTo, none']

theorem State.flushTo_busy (busy : (s.ss i).st ≠ 0 ∨ s.netUp = false) : s.flushTo i = s := by
  unfold State.flushTo
  split
  · rfl
  · exact if_neg (by rcases busy with h | h <;> simp [h])

theorem State.gwFlush_still (h : s.net.gwOut = [] ∨ s.netUp = false ∨ s.idleSess = none) : s.gwFlush = s := by
  refine foldl_still (f := State.flushTo) _ fun i _ => ?_
  rcases h with h | h | h
  · exact State.flushTo_none h i
  · exact State.flushTo_busy (.inr h)
  · exact State.flushTo_busy (.inl (State.idleSess_none h i))

/-- The one answer that waits, on session `i`. -/
def State.flushed (s : State) (i : Ch) (sa : Nat) (d : List (BitVec 8)) : State :=
  (({ s with net.gwOut := [] } : State).modSs i fun x => { x with buf := [] }.setBytes 0 d).sessStart i 0 sa 0xEF00 d.length true

theorem State.flushed_gwOut (s : State) (i : Ch) (sa : Nat) (d : List (BitVec 8)) : (s.flushed i sa d).net.gwOut = [] := by
  rw [State.flushed, State.sessStart_net]
  rfl

theorem State.gwFlush_one {sa : Nat} {d : List (BitVec 8)} (up : s.netUp = true) (one : s.net.gwOut = [(sa, d)]) (idle : s.idleSess = some i) :
    s.gwFlush = s.flushed i sa d := by
  obtain ⟨free, busy⟩ := State.idleSess_some.1 idle
  have takes : s.flushTo i = s.flushed i sa d := by
    rw [State.flushTo, one]
    exact if_pos ⟨free, up⟩
  have split : sessions = sessions.filter (· < i) ++ i :: sessions.filter (i < ·) := by
    clear takes free busy idle
    fin_cases i <;> decide
  rw [State.gwFlush_eq, split, List.foldl_append, foldl_still (f := State.flushTo) (b := s) _ fun j hj =>
      State.flushTo_busy (.inl (busy j (by simpa using (List.mem_filter.1 hj).2))), List.foldl_cons, takes]
  exact foldl_still (f := State.flushTo) _ fun j _ => State.flushTo_none (s.flushed_gwOut i sa d) j

/-! ### Frames received (R483 to R485) -/

theorem State.ss_partnerSeen (s : State) (a : Nat) (i : Ch) : (s.partnerSeen a).ss i = s.ss i := rfl

theorem State.netRx_off (sa : BitVec 8) (f : State → State) (off : s.netCan = none) : s.netRx sa f = s := by
  unfold State.netRx State.whenCan
  split
  · exact if_neg (by simp [off])
  · rfl

theorem State.netRx_on (sa : BitVec 8) (f : State → State) (on : s.domOn dCan = true) (net : s.netCan ≠ none) :
    s.netRx sa f = f (s.partnerSeen sa.toNat) :=
  (State.whenCan_on on _).trans (if_pos (Option.isSome_iff_ne_none.2 net))

theorem State.forMe_partnerSeen (s : State) (a : Nat) (da : BitVec 8) : (s.partnerSeen a).forMe da = s.forMe da := rfl

theorem State.forMe_other {da : BitVec 8} (h : s.netUp = false ∨ da.toNat ≠ s.rd R.NET_OWN_SA 0) : s.forMe da = false := by
  rcases h with h | h <;> simp [State.forMe, State.toMe, h]

theorem State.forMe_own {da : BitVec 8} (up : s.netUp = true) (own : da.toNat = s.rd R.NET_OWN_SA 0) : s.forMe da = true := by
  simp [State.forMe, State.toMe, up, own]

theorem State.netCan_of_up (up : s.netUp = true) : s.netCan ≠ none := by
  rw [State.netUp, Bool.and_eq_true] at up
  exact Option.isSome_iff_ne_none.1 up.1

theorem State.sessClosed_sent {sa pgn : Nat} {etp : Bool} (open' : s.sessOf sa true etp (some pgn) = some i) :
    s.sessClosed sa etp pgn none = s.sessSent i := by
  unfold State.sessClosed
  rw [open']

theorem State.sessClosed_abortedTx {sa pgn r : Nat} {etp : Bool} (open' : s.sessOf sa true etp (some pgn) = some i) :
    s.sessClosed sa etp pgn (some r) = s.sessAborted i r := by
  unfold State.sessClosed
  rw [open']

theorem State.sessClosed_abortedRx {sa pgn r : Nat} {etp : Bool} (none' : s.sessOf sa true etp (some pgn) = none)
    (open' : s.sessOf sa false etp (some pgn) = some i) : s.sessClosed sa etp pgn (some r) = s.sessAborted i r := by
  unfold State.sessClosed
  rw [none']
  dsimp only
  rw [open']

/-! ### Ends of a session (R484) -/

/-- The record of an aborted session. -/
def State.abortedRec (s : State) (i : Ch) (reason : Nat) : State :=
  (s.modSs i fun x => { x with st := 0, abort := reason, cts := none, gate := false }).wr R.NET_IRQ_TP_ABORT 0 1

theorem State.ss_wr (s : State) (f : Fld) (k v : Nat) (i : Ch) : (s.wr f k v).ss i = s.ss i := rfl

theorem State.abortedRec_shows (s : State) (i : Ch) (r : Nat) : ((s.abortedRec i r).ss i).st = 0 ∧ ((s.abortedRec i r).ss i).abort = r ∧
    (s.abortedRec i r).rd R.NET_IRQ_TP_ABORT 0 = 1 ∧ OnlyRegs [R.NET_IRQ_TP_ABORT.at 0] s { s.abortedRec i r with net := s.net } := by
  unfold State.abortedRec
  rw [State.ss_wr, State.ss_modSs_self]
  exact ⟨rfl, rfl, State.rd_wr_lt (by decide) (by decide) _ _, OnlyRegs.fromModSs ((OnlyRegs.refl _ _).wr _ _ _ (by decide) (by simp))⟩

/-- The record of a session that has sent its message, and its flag. -/
def State.sentRec (s : State) (i : Ch) : State :=
  if (s.ss i).gate then s.modSs i fun x => { x with st := 0, done := x.len, gate := false }
  else (s.modSs i fun x => { x with st := 0, done := x.len, gate := false }).wr R.NET_IRQ_TP_TX 0 1

theorem State.sentRec_shows (s : State) (i : Ch) : ((s.sentRec i).ss i).st = 0 ∧ ((s.sentRec i).ss i).done = (s.ss i).len ∧
    ((s.ss i).gate = false → (s.sentRec i).rd R.NET_IRQ_TP_TX 0 = 1) ∧ OnlyRegs [R.NET_IRQ_TP_TX.at 0] s { s.sentRec i with net := s.net } := by
  have record : (s.sentRec i).ss i = { s.ss i with st := 0, done := (s.ss i).len, gate := false } := by
    unfold State.sentRec
    split
    · exact State.ss_modSs_self _ _ _
    · exact (State.ss_wr _ _ _ _ _).trans (State.ss_modSs_self _ _ _)
  rw [record]
  refine ⟨rfl, rfl, fun host => ?_, ?_⟩
  · rw [State.sentRec, if_neg (by simp [host]), State.rd_wr_lt (by decide) (by decide)]
  · exact OnlyRegs.fromModSs (OnlyRegs.ite (OnlyRegs.refl _ _) ((OnlyRegs.refl _ _).wr _ _ _ (by decide) (by simp)))

theorem State.sessAbort_bam (bam : (s.ss i).kind = 1) (r : Nat) : s.sessAbort i r = s.sessAborted i r := by
  unfold State.sessAbort
  dsimp only
  rw [if_pos bam]

theorem Sess.setByte_out (x : Sess) {k : Nat} (out : 1792 ≤ k) (b : BitVec 8) : x.setByte k b = x := if_pos out

/-! ### The selected session (R483 to R485, R489) -/

theorem State.sctlStart_starts (sel : s.sel = i) {kind da : Nat} (idle : (s.ss i).st = 0) (up : s.netUp = true) (lt : kind < 3)
    (fits : sessLenOk kind (s.ss i).len = true) : s.sctlStart kind da = s.sessStart i kind da (s.ss i).pgn (s.ss i).len false := by
  subst sel
  exact if_pos ⟨idle, up, lt, fits⟩

theorem State.sctlStart_refused (sel : s.sel = i) {kind da : Nat} (bars : (s.ss i).st ≠ 0 ∨ s.netUp = false ∨ 3 ≤ kind ∨ sessLenOk kind (s.ss i).len = false) :
    s.sctlStart kind da = s.modSs i fun x => if x.st = 0 then { x with kind := kind, da := da } else x := by
  subst sel
  refine if_neg fun ⟨idle, up, lt, fits⟩ => ?_
  rcases bars with h | h | h | h
  · exact h idle
  · exact Bool.false_ne_true (h.symm.trans up)
  · omega
  · exact Bool.false_ne_true (h.symm.trans fits)

theorem State.sctlNext_still (sel : s.sel = i) (h : (s.ss i).kind ≠ 2 ∨ (s.ss i).st < 3) : s.sctlNext = s := by
  subst sel
  exact if_neg fun ⟨kind, st, _⟩ => by omega

theorem State.sctlNext_window (sel : s.sel = i) (kind : (s.ss i).kind = 2) (waits : (s.ss i).st = 3) (more : (s.ss i).base + (s.ss i).win < (s.ss i).packets)
    (next : (s.ss i).next = (s.ss i).base + (s.ss i).win + 1) (tx : (s.ss i).tx = true) (none' : (s.ss i).cts = none) : s.sctlNext = s.modSs i fun x =>
      { x with base := x.base + x.win, win := min 255 (x.packets - x.base - x.win), st := if x.tx then 1 else 2 } := by
  subst sel
  refine (if_pos ⟨kind, .inl waits, more, next⟩).trans ((if_pos tx).trans ?_)
  rw [none']

/-! ### Requests to send and data packets (R483, R485) -/

theorem State.serveCts_window {n p : Nat} (etp : (s.ss i).kind = 2) (pos : 0 < n) (ends : p + n = (s.ss i).base + (s.ss i).win + 1)
    (le : (s.ss i).base + (s.ss i).win ≤ (s.ss i).packets) : (s.serveCts i n p).rd R.NET_IRQ_TP_NEED 0 = 1 ∧ ((s.serveCts i n p).ss i).next = p + n ∧
    ((s.serveCts i n p).ss i).st = if p + n ≤ (s.ss i).packets then 3 else 1 := by
  have all : min n ((s.ss i).packets + 1 - p) = n := by omega
  have window : min n ((s.ss i).base + (s.ss i).win + 1 - p) = n := by omega
  unfold State.serveCts
  dsimp only
  rw [all, if_pos etp, if_neg (by omega), window, decide_eq_true ends, if_pos rfl]
  rw [State.ss_wr, State.ss_modSs_self]
  refine ⟨State.rd_wr_lt (by decide) (by decide) _ _, rfl, ?_⟩
  rw [State.ss_of_net ((State.sendDts_net _ _ _ _ _).trans (State.sendCm_net _ _ _ _)) i, Bool.true_and]
  exact if_congr decide_eq_true_iff rfl rfl

theorem State.incoming_bam {sa pgn len : Nat} (idle : s.idleSess = some i) (pos : 1 ≤ len) (le : len ≤ 1785) : s.incoming 1 sa pgn len = s.modSs i fun x =>
      { x with st := 2, done := 0, kind := 1, pgn := pgn, len := len, buf := [], tx := false, peer := sa, next := 1, left := 0,
               base := 0, win := (len + 6) / 7, cts := none, gate := false } := by
  have fits : sessLenOk 1 len = true := by simp [sessLenOk, pos, le]
  refine (if_neg (by simp)).trans ((if_neg (by simp [fits])).trans ?_)
  rw [idle]
  rfl

theorem State.incoming_bamBad {sa pgn len : Nat} (bad : len = 0 ∨ 1785 < len) : s.incoming 1 sa pgn len = s := by
  have out : sessLenOk 1 len = false := by
    rcases bad with h | h
    · simp [sessLenOk, h]
    · simp [sessLenOk, h]
  exact (if_neg (by simp)).trans ((if_pos (by simp [out])).trans (if_pos rfl))

theorem State.incoming_bamIgnored {sa pgn len : Nat} (busy : s.idleSess = none) (pos : 1 ≤ len) (le : len ≤ 1785) :
    s.incoming 1 sa pgn len = s.inc R.NET_CNT_IGNORED 0 := by
  have fits : sessLenOk 1 len = true := by simp [sessLenOk, pos, le]
  refine (if_neg (by simp)).trans ((if_neg (by simp [fits])).trans ?_)
  rw [busy]
  rfl

section
variable {kind sa pgn len : Nat}

theorem State.incoming_open (conn : kind ≠ 1) (open' : s.sessOf sa false true none ≠ none ∨ s.sessOf sa false false none ≠ none) :
    s.incoming kind sa pgn len = s.sendAbort (kind == 2) sa pgn 1 :=
  if_pos ⟨conn, by simpa only [Option.isSome_iff_ne_none] using open'⟩

theorem State.incoming_closed (conn : kind ≠ 1) (etp : s.sessOf sa false true none = none) (tp : s.sessOf sa false false none = none) :
    s.incoming kind sa pgn len = if !sessLenOk kind len then s.sendAbort (kind == 2) sa pgn 9 else
      match s.idleSess with
      | none => (s.sendAbort (kind == 2) sa pgn 1).inc R.NET_CNT_REFUSED 0
      | some i => (s.modSs i fun x =>
          { x with st := 2, done := 0, kind := kind, pgn := pgn, len := len, buf := [], tx := false, peer := sa, next := 1, left := 0,
                   base := 0, win := if kind = 2 then min 255 ((len + 6) / 7) else (len + 6) / 7, cts := none, gate := false }).nextCts i := by
  unfold State.incoming
  rw [if_neg (by simp [etp, tp])]
  simp only [if_neg conn] <;> rfl

end

theorem State.gotDt_other {p : Nat} (other : p ≠ (s.ss i).next) (d : List (BitVec 8)) : s.gotDt i p d = s := if_neg fun h => other h.1

/-! ### The frames of the transport protocols (R483 to R485) -/

section
variable {sa da : BitVec 8} {d : List (BitVec 8)} {n : Nat}

theorem execTpCm_bcast (on : s.domOn dCan = true) (net : s.netCan ≠ none) (c : leField d 0 1 = 32) (all : da = 255#8) :
    exec (.tpCmReceived sa da d) s = .next ((s.partnerSeen sa.toNat).incoming 1 sa.toNat (leField d 5 3) (leField d 1 2)) :=
  congrArg Host.Outcome.next ((State.netRx_on sa _ on net).trans (if_pos ⟨c, all⟩))

theorem execTpCm_other (on : s.domOn dCan = true) (net : s.netCan ≠ none) (other : s.forMe da = false) (h : leField d 0 1 ≠ 32 ∨ da ≠ 255) :
    exec (.tpCmReceived sa da d) s = .next (s.partnerSeen sa.toNat) := by
  refine congrArg Host.Outcome.next ((State.netRx_on sa _ on net).trans ((if_neg fun ⟨c, all⟩ => h.elim (absurd c) (absurd all)).trans (if_pos ?_)))
  rw [State.forMe_partnerSeen, other]
  rfl

/-- A TP.CM frame to the own address that is no BAM. -/
theorem execTpCm_mine (on : s.domOn dCan = true) (net : s.netCan ≠ none) (mine : s.forMe da = true) (c : leField d 0 1 = n) (conn : n ≠ 32) :
    exec (.tpCmReceived sa da d) s = .next (
      if n = 16 then (s.partnerSeen sa.toNat).incoming 0 sa.toNat (leField d 5 3) (leField d 1 2)
      else if n = 17 then
        match (s.partnerSeen sa.toNat).sessOf sa.toNat true false (some (leField d 5 3)) with
        | some i => (s.partnerSeen sa.toNat).gotCts i (leField d 1 1) (leField d 2 1)
        | none => s.partnerSeen sa.toNat
      else if n = 19 then (s.partnerSeen sa.toNat).sessClosed sa.toNat false (leField d 5 3) none
      else if n = 255 then (s.partnerSeen sa.toNat).sessClosed sa.toNat false (leField d 5 3) (some (leField d 1 1))
      else s.partnerSeen sa.toNat) := by
  subst c
  refine congrArg Host.Outcome.next ((State.netRx_on sa _ on net).trans ((if_neg fun h => conn h.1).trans (if_neg ?_)))
  rw [State.forMe_partnerSeen, mine]
  exact Bool.false_ne_true

theorem execEtpCm_other (on : s.domOn dCan = true) (net : s.netCan ≠ none) (other : s.forMe da = false) :
    exec (.etpCmReceived sa da d) s = .next (s.partnerSeen sa.toNat) := by
  refine congrArg Host.Outcome.next ((State.netRx_on sa _ on net).trans (if_pos ?_))
  rw [State.forMe_partnerSeen, other]
  rfl

theorem execEtpCm_mine (on : s.domOn dCan = true) (net : s.netCan ≠ none) (mine : s.forMe da = true) (c : leField d 0 1 = n) :
    exec (.etpCmReceived sa da d) s = .next (
      if n = 20 then (s.partnerSeen sa.toNat).incoming 2 sa.toNat (leField d 5 3) (leField d 1 4)
      else if n = 21 then
        match (s.partnerSeen sa.toNat).sessOf sa.toNat true true (some (leField d 5 3)) with
        | some i => (s.partnerSeen sa.toNat).gotCts i (leField d 1 1) (leField d 2 3)
        | none => s.partnerSeen sa.toNat
      else if n = 22 then
        match (s.partnerSeen sa.toNat).sessOf sa.toNat false true (some (leField d 5 3)) with
        | some i => (s.partnerSeen sa.toNat).modSs i fun x => { x with left := leField d 1 1, cts := some (leField d 1 1, leField d 2 3) }
        | none => s.partnerSeen sa.toNat
      else if n = 23 then (s.partnerSeen sa.toNat).sessClosed sa.toNat true (leField d 5 3) none
      else if n = 255 then (s.partnerSeen sa.toNat).sessClosed sa.toNat true (leField d 5 3) (some (leField d 1 1))
      else s.partnerSeen sa.toNat) := by
  subst c
  refine congrArg Host.Outcome.next ((State.netRx_on sa _ on net).trans (if_neg ?_))
  rw [State.forMe_partnerSeen, mine]
  exact Bool.false_ne_true

theorem execTpDt_bcast (on : s.domOn dCan = true) (net : s.netCan ≠ none) (all : da = 255#8)
    (open' : (sessions.find? fun i => (s.ss i).st == 2 && (s.ss i).kind == 1 && (s.ss i).peer == sa.toNat) = some i) :
    exec (.tpDtReceived sa da d) s = .next ((s.partnerSeen sa.toNat).gotDt i (leField d 0 1) (d.drop 1)) := by
  refine congrArg Host.Outcome.next ((State.netRx_on sa _ on net).trans ?_)
  simp only [State.ss_partnerSeen]
  rw [if_pos all, open']

theorem execTpDt_conn (on : s.domOn dCan = true) (net : s.netCan ≠ none) (conn : da ≠ 255#8) (mine : s.forMe da = true)
    (open' : (s.partnerSeen sa.toNat).sessOf sa.toNat false false none = some i) :
    exec (.tpDtReceived sa da d) s = .next ((s.partnerSeen sa.toNat).gotDt i (leField d 0 1) (d.drop 1)) := by
  refine congrArg Host.Outcome.next ((State.netRx_on sa _ on net).trans ?_)
  dsimp only
  rw [if_neg conn, State.forMe_partnerSeen, if_pos mine, open']

theorem execTpDt_other (on : s.domOn dCan = true) (net : s.netCan ≠ none) (conn : da ≠ 255#8) (other : s.forMe da = false) :
    exec (.tpDtReceived sa da d) s = .next (s.partnerSeen sa.toNat) := by
  refine congrArg Host.Outcome.next ((State.netRx_on sa _ on net).trans ?_)
  dsimp only
  rw [if_neg conn, State.forMe_partnerSeen, other, if_neg Bool.false_ne_true]

theorem execEtpDt_other (on : s.domOn dCan = true) (net : s.netCan ≠ none) (other : s.forMe da = false) :
    exec (.etpDtReceived sa da d) s = .next (s.partnerSeen sa.toNat) := by
  refine congrArg Host.Outcome.next ((State.netRx_on sa _ on net).trans ?_)
  rw [State.forMe_partnerSeen, other, if_neg Bool.false_ne_true]

theorem execEtpDt_mine {o : Nat} (on : s.domOn dCan = true) (net : s.netCan ≠ none) (mine : s.forMe da = true)
    (open' : (s.partnerSeen sa.toNat).sessOf sa.toNat false true none = some i) (dpo : ((s.partnerSeen sa.toNat).ss i).cts = some (n, o)) :
    exec (.etpDtReceived sa da d) s = .next ((s.partnerSeen sa.toNat).gotDt i (o + leField d 0 1) (d.drop 1)) := by
  refine congrArg Host.Outcome.next ((State.netRx_on sa _ on net).trans ?_)
  rw [State.forMe_partnerSeen, if_pos mine, open']
  dsimp only
  rw [dpo]

end

/-! ### The timers (R483, R485) -/

/-- A packet of a broadcast has gone out. -/
def State.bamSent (s : State) (i : Ch) : State :=
  (s.sendDt (s.ss i) (s.ss i).next (s.ss i).next).modSs i fun x => { x with next := x.next + 1, done := min x.len (7 * x.next) }

theorem execBamPacketTimer_sends (on : s.domOn dCan = true) (runs : (s.ss i).st = 1) (bam : (s.ss i).kind = 1) (up : s.netUp = true) :
    exec (.bamPacketTimer i) s = .next (if (s.ss i).packets ≤ (s.ss i).next then (s.bamSent i).sessSent i else s.bamSent i) :=
  congrArg Host.Outcome.next ((State.whenCan_on on _).trans (if_pos ⟨runs, bam, up⟩))

end

/-- Settles O50, frame by frame, by the session that takes it. -/
theorem sessionsTransport : Obligations.SessionsTransport := by
  unfold Obligations.SessionsTransport
  intro s on
  have go (f : State → State) : s.whenCan f = f s := State.whenCan_on on f
  refine ⟨fun sa da d off => ⟨congrArg Host.Outcome.next (State.netRx_off sa _ off), congrArg Host.Outcome.next (State.netRx_off sa _ off),
      congrArg Host.Outcome.next (State.netRx_off sa _ off), congrArg Host.Outcome.next (State.netRx_off sa _ off)⟩,
    fun sa da d u net hu => ?_, fun sa da d u g up own hu hg => ?_, fun peer tx etp g => ?_, State.gwFlush_still, fun i sa d => State.gwFlush_one, fun i sel => ?_, fun i => ?_,
    fun i => State.idleSess_some, fun sa pgn len => ⟨State.incoming_bamBad, State.incoming_bamIgnored⟩, fun kind sa pgn len conn => ?_⟩
  case refine_1 =>
    subst hu
    refine ⟨fun c all => execTpCm_bcast on net c all, fun i all st kind peer first => execTpDt_bcast on net all ((sessions_find _ _).2 ⟨?_, fun j lt => ?_⟩), fun h => ?_⟩
    · simp [st, kind, peer]
    · simp [first j lt]
    · have other := State.forMe_other h
      exact ⟨execTpCm_other on net other, fun conn => execTpDt_other on net conn other, execEtpCm_other on net other, execEtpDt_other on net other⟩
  case refine_2 =>
    subst hu hg
    have net := State.netCan_of_up up
    have mine := State.forMe_own up own
    refine ⟨fun c => execTpCm_mine on net mine c (by decide), fun i c open' => (execTpCm_mine on net mine c (by decide)).trans ?_,
      fun i c open' => (execTpCm_mine on net mine c (by decide)).trans (congrArg Host.Outcome.next (State.sessClosed_sent open')),
      fun i c open' => (execTpCm_mine on net mine c (by decide)).trans (congrArg Host.Outcome.next (State.sessClosed_abortedTx open')),
      fun i c none' open' => (execTpCm_mine on net mine c (by decide)).trans (congrArg Host.Outcome.next (State.sessClosed_abortedRx none' open')),
      fun i conn open' => execTpDt_conn on net conn mine open', fun c => execEtpCm_mine on net mine c, fun i c open' => (execEtpCm_mine on net mine c).trans ?_,
      fun i c open' => (execEtpCm_mine on net mine c).trans ?_,
      fun i c open' => (execEtpCm_mine on net mine c).trans (congrArg Host.Outcome.next (State.sessClosed_sent open')),
      fun i n o open' dpo => execEtpDt_mine on net mine open' dpo⟩
    · rw [open']
      rfl
    · rw [open']
      rfl
    · rw [open']
      rfl
  case refine_3 => cases g <;> rfl
  case refine_4 =>
    refine ⟨fun kind da idle up lt fits => ⟨congrArg Host.Outcome.next ((go _).trans (State.sctlStart_starts sel idle up lt fits)), ?_, ?_⟩,
      fun kind da busy => congrArg Host.Outcome.next ((go _).trans ((State.sctlStart_refused sel (.inl busy)).trans (State.modSs_same (if_neg busy)))),
      fun kind da idle bars => ⟨_, congrArg Host.Outcome.next ((go _).trans (State.sctlStart_refused sel (.inr ?_))), ?_, fun j ne => State.ss_modSs_ne _ _ ne,
        OnlyRegs.modSs _ _ _ _⟩,
      fun h => congrArg Host.Outcome.next ((go _).trans (State.sctlNext_still sel h)),
      fun x hx kind waits more next tx none' => ?_, fun waits rx whole => ⟨s.modSs i fun x => { x with st := 0, gate := false }, ?_, State.ss_modSs_self _ _ _,
        fun j ne => State.ss_modSs_ne _ _ ne, OnlyRegs.modSs _ _ _ _⟩,
      fun h => congrArg Host.Outcome.next ((go _).trans ?_), fun runs => congrArg Host.Outcome.next ((go _).trans ?_),
      fun still => congrArg Host.Outcome.next ((go _).trans ?_)⟩
    · rw [State.ss_sessStart]
    · rw [State.ss_sessStart]
    · rcases bars with h | h | h
      · exact .inl h
      · exact .inr (.inl (by rw [h]; decide))
      · exact .inr (.inr h)
    · exact (State.ss_modSs_self _ _ _).trans (if_pos idle)
    · subst hx
      refine ⟨_, congrArg Host.Outcome.next ((go _).trans (State.sctlNext_window sel kind waits more next tx none')), ?_, fun j ne => State.ss_modSs_ne _ _ ne,
        OnlyRegs.modSs _ _ _ _⟩
      rw [State.ss_modSs_self, if_pos tx]
    · subst sel
      exact congrArg Host.Outcome.next ((go _).trans (if_pos ⟨waits, by rw [rx]; rfl, whole⟩))
    · subst sel
      refine if_neg fun ⟨waits, rx, whole⟩ => ?_
      rcases h with h | h | h
      · exact h waits
      · simp [h] at rx
      · exact h whole
    · subst sel
      exact if_pos runs
    · subst sel
      exact if_neg (by simp [still])
  case refine_5 =>
    refine ⟨fun runs => congrArg Host.Outcome.next ((go _).trans (if_pos runs)), fun still => congrArg Host.Outcome.next ((go _).trans (if_neg (by simp [still]))),
      fun runs bam up lt => ⟨_, rfl, (execBamPacketTimer_sends on runs bam up).trans (congrArg Host.Outcome.next (if_neg (Nat.not_le.2 lt)))⟩,
      fun runs bam up le => ⟨_, rfl, (execBamPacketTimer_sends on runs bam up).trans (congrArg Host.Outcome.next (if_pos le))⟩,
      fun h => congrArg Host.Outcome.next ((go _).trans (if_neg ?_)),
      fun waits etp rx part up => congrArg Host.Outcome.next ((go _).trans (if_pos ⟨waits, etp, by rw [rx]; rfl, part, up⟩)),
      fun h => congrArg Host.Outcome.next ((go _).trans (if_neg ?_)), fun r => ⟨s.abortedRec i r, rfl, s.abortedRec_shows i r⟩,
      ⟨s.sentRec i, rfl, s.sentRec_shows i⟩, fun n p etp pos _ ends le => State.serveCts_window etp pos ends le, fun bam r => State.sessAbort_bam bam r,
      fun k b out => Sess.setByte_out _ out b, fun idle sa pgn len pos le => ?_, fun p d other => State.gotDt_other other d, fun n p none' runs => ?_⟩
    · rintro ⟨runs, bam, up⟩
      rcases h with h | h | h
      · exact h runs
      · exact h bam
      · exact Bool.false_ne_true (h.symm.trans up)
    · rintro ⟨waits, etp, rx, part, up⟩
      rcases h with h | h | h | h | h
      · exact h waits
      · exact h etp
      · simp [h] at rx
      · omega
      · exact Bool.false_ne_true (h.symm.trans up)
    · rw [State.incoming_bam idle pos le, State.ss_modSs_self]
      exact ⟨rfl, rfl, rfl, rfl, rfl⟩
    · have held : s.gotCts i n p = s.modSs i fun x => { x with st := if x.st = 3 then 3 else 4 } := if_pos none'
      rw [held, State.ss_modSs_self]
      exact ⟨if_neg (by omega), rfl⟩
  case refine_6 =>
    have conn' : kind ≠ 1 := by omega
    refine ⟨State.incoming_open conn', fun etp tp => ⟨fun bad => ?_, fun fits busy => ?_⟩⟩
    · rw [State.incoming_closed conn' etp tp, bad]
      rfl
    · rw [State.incoming_closed conn' etp tp, fits, busy]
      rfl

end Sys2Proof.Machine

/-! SUPPORT. O51: the CAN gateway. -/

namespace Sys2Proof.Machine

section
variable {s u : State} {sa : Nat} {sess : Bool} {d : List (BitVec 8)} {ecc : List Nat}

/-! ### Which requests the gateway takes (R486, R487) -/

theorem State.gateway_other (other : s.rd R.GW_CFG_EN 0 = 0 ∨ (d.getD 0 0#8).toNat ≠ s.rd R.GW_CFG_KEY 0) : s.gateway sa sess d ecc = s :=
  if_pos (by rcases other with h | h <;> simp only [State.on, h, bne_self_eq_false, Bool.not_false, Bool.true_or, bne_iff_ne.2, Bool.or_true, ne_eq, not_false_eq_true])

/-- What the gateway does with a request to its key. -/
def State.gwTaken (s : State) (sa : Nat) (sess : Bool) (d : List (BitVec 8)) (ecc : List Nat) : State :=
  if s.gwBars sa d then s.gwRefuse sa (beWord d 0) sess 3
  else if 4 ≤ s.net.gw.length then s.gwRefuse sa (beWord d 0) sess 4
  else s.gwServe sa (beWord d 0) sess d ecc

theorem State.gateway_keyed (en : s.rd R.GW_CFG_EN 0 ≠ 0) (key : (d.getD 0 0#8).toNat = s.rd R.GW_CFG_KEY 0) : s.gateway sa sess d ecc =
    if s.net.gw.any fun q => q.sa == sa && q.hdr.toNat / 2 ^ 16 % 16 == (beWord d 0).toNat / 2 ^ 16 % 16 then s else s.gwTaken sa sess d ecc :=
  if_neg (by rw [State.on_iff.2 en, key]; simp)

theorem State.gateway_copy {q : GwReq} (en : s.rd R.GW_CFG_EN 0 ≠ 0) (mem : q ∈ s.net.gw) (from' : q.sa = sa)
    (seq : q.hdr.toNat / 2 ^ 16 % 16 = (beWord d 0).toNat / 2 ^ 16 % 16) : s.gateway sa sess d ecc = s := by
  by_cases key : (d.getD 0 0#8).toNat = s.rd R.GW_CFG_KEY 0
  · rw [State.gateway_keyed en key]
    exact if_pos (List.any_eq_true.2 ⟨q, mem, by rw [Bool.and_eq_true, beq_iff_eq, beq_iff_eq]; exact ⟨from', seq⟩⟩)
  · exact State.gateway_other (.inr key)

theorem State.gateway_new (en : s.rd R.GW_CFG_EN 0 ≠ 0) (key : (d.getD 0 0#8).toNat = s.rd R.GW_CFG_KEY 0) (new : ∀ q ∈ s.net.gw, q.sa ≠ sa) :
    s.gateway sa sess d ecc = s.gwTaken sa sess d ecc := by
  rw [State.gateway_keyed en key]
  refine if_neg fun h => ?_
  obtain ⟨q, mem, hit⟩ := List.any_eq_true.1 h
  rw [Bool.and_eq_true, beq_iff_eq] at hit
  exact new q mem hit.1

theorem State.gwBars_some (h : sa < s.rd R.GW_SA_LO 0 ∨ s.rd R.GW_SA_HI 0 < sa ∨ s.netUp = false ∨ ((gwOp d = 1 ∨ gwOp d = 2) ∧ s.rd R.GW_CFG_WR_EN 0 = 0)) :
    s.gwBars sa d = true := by
  rcases h with h | h | h | ⟨op, wr⟩
  · simp [State.gwBars, h]
  · simp [State.gwBars, h]
  · simp [State.gwBars, h]
  · rcases op with op | op <;> simp [State.gwBars, op, State.off_iff.2 wr]

theorem State.gwBars_none (lo : s.rd R.GW_SA_LO 0 ≤ sa) (hi : sa ≤ s.rd R.GW_SA_HI 0) (up : s.netUp = true) (wr : s.rd R.GW_CFG_WR_EN 0 ≠ 0) :
    s.gwBars sa d = false := by
  simp [State.gwBars, Nat.not_lt.2 lo, Nat.not_lt.2 hi, up, State.on_iff.2 wr]

/-! ### A request that is served (R486, R487, R490) -/

/-- The gateway has taken the request. -/
def State.gwAsked (s : State) : State := s.wr R.GW_IRQ_REQ 0 1

theorem State.gwAsked_nodeId (s : State) : s.gwAsked.nodeId = s.nodeId := State.nodeId_wr (by decide) (by decide) 1

theorem State.gwTaken_served (lo : s.rd R.GW_SA_LO 0 ≤ sa) (hi : sa ≤ s.rd R.GW_SA_HI 0) (up : s.netUp = true) (wr : s.rd R.GW_CFG_WR_EN 0 ≠ 0)
    (room : s.net.gw.length < 4) : s.gwTaken sa sess d ecc = s.gwServe sa (beWord d 0) sess d ecc := by
  rw [State.gwTaken, State.gwBars_none lo hi up wr, if_neg Bool.false_ne_true, if_neg (Nat.not_le.2 room)]

theorem State.gwServe_bad {hdr : Word} (bad : gwPkt s.nodeId d = none) : s.gwServe sa hdr sess d ecc = s.gwAsked.gwDone ⟨sa, hdr, sess, 64⟩ 5 [] := by
  unfold State.gwServe
  dsimp only
  rw [show (s.wr R.GW_IRQ_REQ 0 1).nodeId = s.nodeId from s.gwAsked_nodeId, bad]
  rfl

theorem State.gwServe_own {hdr : Word} {k : Pkt} (valid : gwPkt s.nodeId d = some k) (own : k.dst = 0x3FF ∨ s.nodeId = some k.dst) :
    s.gwServe sa hdr sess d ecc = (s.gwAsked.gwLocal k ecc).2.gwDone ⟨sa, hdr, sess, 64⟩ 0 (s.gwAsked.gwLocal k ecc).1 := by
  unfold State.gwServe
  dsimp only
  rw [show (s.wr R.GW_IRQ_REQ 0 1).nodeId = s.nodeId from s.gwAsked_nodeId, valid]
  exact if_pos own

theorem State.gwServe_held {hdr : Word} {k : Pkt} {n : Nat} {v : State} (valid : gwPkt s.nodeId d = some k) (all : k.dst ≠ 0x3FF) (other : s.nodeId ≠ some k.dst)
    (link : s.domOn dLink = true) (sent : s.gwAsked.request fromLodge 8 .gate k = some (n, v)) : s.gwServe sa hdr sess d ecc =
      ({ v with net.gw := v.net.gw ++ [⟨sa, hdr, sess, n⟩] } : State).wr R.GW_STATUS_HELD 0 (v.net.gw ++ [(⟨sa, hdr, sess, n⟩ : GwReq)]).length := by
  have link' : s.gwAsked.domOn dLink = true := (State.domOn_wr (by decide) (by decide) s 1 dLink).trans link
  unfold State.gwServe
  dsimp only
  rw [show (s.wr R.GW_IRQ_REQ 0 1).nodeId = s.nodeId from s.gwAsked_nodeId, valid]
  refine (if_neg fun h => h.elim all other).trans ((if_neg ?_).trans ?_)
  · rw [show (s.wr R.GW_IRQ_REQ 0 1).domOn dLink = true from link']
    exact Bool.false_ne_true
  · rw [show (s.wr R.GW_IRQ_REQ 0 1).request fromLodge 8 .gate k = some (n, v) from sent]

/-- The requests that the gateway holds are those of the list. -/
def State.withGw (s : State) (l : List GwReq) : State := { s with net.gw := l }

theorem State.rd_withGw (s : State) (l : List GwReq) (f : Fld) (i : Nat) : (s.withGw l).rd f i = s.rd f i := rfl

/-- A request is no longer held. -/
def State.gwEnded (s : State) (q : GwReq) : State :=
  ((s.withGw (s.net.gw.erase q)).inc R.GW_CNT_DONE 0).wr R.GW_STATUS_HELD 0 (s.net.gw.erase q).length

theorem State.gwDone_eq (s : State) (q : GwReq) (status : Nat) (data : List Word) :
    s.gwDone q status data = (s.gwEnded q).gwAnswer q.sa q.hdr q.sess status data := rfl

theorem State.gwEnded_shows (q : GwReq) (none' : s.net.gw = []) :
    ((s.gwAsked).gwEnded q).rd R.GW_CNT_DONE 0 = min (s.rd R.GW_CNT_DONE 0 + 1) (R.GW_CNT_DONE.size - 1) ∧ ((s.gwAsked).gwEnded q).rd R.GW_STATUS_HELD 0 = 0 := by
  have held : s.gwAsked.net.gw.erase q = [] := by rw [State.gwAsked, State.wr_net, none']; rfl
  unfold State.gwEnded
  refine ⟨?_, ?_⟩
  · rw [State.rd_wr_sep _ _ _ _ _ (by decide), State.rd_inc (by decide), State.rd_withGw, State.gwAsked, State.rd_wr_sep _ _ _ _ _ (by decide)]
  · rw [held]
    exact State.rd_wr_lt (by decide) (by decide) _ _

end

/-- Settles O51, by what bars a request and by the device it names. -/
theorem gatewayServes : Obligations.GatewayServes := by
  unfold Obligations.GatewayServes
  intro s ecc on
  have go (f : State → State) : s.whenCan f = f s := State.whenCan_on on f
  refine ⟨fun sa da d one own => congrArg Host.Outcome.next ((go _).trans (if_pos ⟨decide_eq_true own, one⟩)),
    fun sa da d other => congrArg Host.Outcome.next ((go _).trans (if_neg fun ⟨own, one⟩ => other.elim one (absurd (of_decide_eq_true own)))),
    fun sa da d i gate waits rx => ⟨s.modSs i fun x => { x with st := 0, gate := false }, State.ss_modSs_self _ _ _, rfl,
      congrArg Host.Outcome.next ((go _).trans (if_pos ⟨gate, waits, rx⟩))⟩,
    fun sa da d i other => congrArg Host.Outcome.next ((go _).trans (if_neg ?_)), fun sa sess d => State.gateway_other,
    fun sa sess d q en mem from' seq => State.gateway_copy en mem from' seq,
    fun sa sess d u en key none' => ⟨fun bars hu => ?_, fun lo hi up wr hu => ?_⟩, fun sa sess d en key full free new => ?_⟩
  case refine_1 =>
    rintro ⟨gate, waits, rx⟩
    rcases other with h | h | h
    · simp [h] at gate
    · exact h waits
    · simp [h] at rx
  case refine_2 =>
    rw [State.gateway_new en key (by simp [none']), State.gwTaken, if_pos (State.gwBars_some bars), hu]
    rfl
  case refine_3 =>
    obtain rfl : u = s.gwAsked := hu
    have served : s.gateway sa sess d ecc = s.gwServe sa (beWord d 0) sess d ecc :=
      (State.gateway_new en key (by simp [none'])).trans (State.gwTaken_served lo hi up wr (by simp [none']))
    refine ⟨fun bad => ?_, fun k r v valid own ran => ?_, fun k n v valid all other link sent none'' => ?_⟩
    · obtain ⟨done, held⟩ := State.gwEnded_shows ⟨sa, beWord d 0, sess, 64⟩ none'
      exact ⟨_, served.trans ((State.gwServe_bad bad).trans (State.gwDone_eq _ _ _ _)), done, held⟩
    · rw [served, State.gwServe_own valid own, ran]
    · rw [served, State.gwServe_held valid all other link sent, none'']
      rfl
  case refine_4 =>
    rw [State.gateway_new en key new, State.gwTaken, free, if_neg Bool.false_ne_true, if_pos full]
    rfl

end Sys2Proof.Machine

/-! SUPPORT. O52: the patch RAM, the GPIO pins, the thermal comparators and the test access port. -/

namespace Sys2Proof.Machine

section
variable {s t : State}

/-! ### The patch RAM (R508, R509) -/

theorem State.patchData_barred (h : s.otp.patchBusy = true ∨ s.rd R.OTP_PATCH_STAT_STATE 0 = 2 ∨ s.rd R.OTP_PATCH_STAT_STATE 0 = 4) (w : Word) :
    s.patchData w = s :=
  if_pos (by rcases h with h | h | h <;> simp [State.patchState, h])

theorem State.patchApply_barred (h : s.otp.patchBusy = true ∨ s.rd R.OTP_PATCH_STAT_STATE 0 = 2 ∨ s.rd R.OTP_PATCH_STAT_STATE 0 = 4) :
    s.patchApply = s :=
  if_pos (by rcases h with h | h | h <;> simp [State.patchState, h])

/-- The patch RAM takes a word: no patch is verified, active or being verified. -/
def State.patchFree (s : State) : Prop := ¬ (s.patchState = 2 ∨ s.patchState = 4 ∨ s.otp.patchBusy = true)

theorem State.patchFree_of (idle : s.otp.patchBusy = false) (two : s.rd R.OTP_PATCH_STAT_STATE 0 ≠ 2) (four : s.rd R.OTP_PATCH_STAT_STATE 0 ≠ 4) : s.patchFree := by
  rintro (h | h | h)
  · exact two h
  · exact four h
  · exact Bool.false_ne_true (idle.symm.trans h)

theorem State.patchData_free (free : s.patchFree) (w : Word) : s.patchData w =
    (s.setMemWord (0x380000 + 4 * s.rd R.OTP_PATCH_IDX_IDX 0) w).wrs 0 [(R.OTP_PATCH_IDX_IDX, s.rd R.OTP_PATCH_IDX_IDX 0 + 1), (R.OTP_PATCH_STAT_STATE, 1)] :=
  if_neg free

theorem State.patchApply_free (free : s.patchFree) : s.patchApply =
    if s.rd R.OTP_PATCH_LEN_LEN 0 = 0 ∨ 8160 < s.rd R.OTP_PATCH_LEN_LEN 0 then s.patchEnd 1
    else if 3 ≤ s.region 3 then s.patchEnd 4
    else { s with otp.patchBusy := true, otp.patchLen := s.rd R.OTP_PATCH_LEN_LEN 0, otp.patchCrc := s.patchSum (s.rd R.OTP_PATCH_LEN_LEN 0) } :=
  if_neg free

theorem State.signCause_eq (s : State) (blk m : List Word) : s.signCause blk m =
    if s.hashPresent = true ∧ keyHashOk blk s.keyHash = true then if signatureOk blk m = true then 0 else 3 else 2 := by
  unfold State.signCause
  cases s.hashPresent <;> cases keyHashOk blk s.keyHash <;> cases signatureOk blk m <;> rfl

/-- The fuse state whose verification has ended with a cause. -/
def Otp.patchEnded (o : Otp) (cause : Nat) : Otp := { o with patchBusy := false, patchLen := if cause = 0 then o.patchLen else 0 }

/-- The state with other fuse records. -/
def State.withOtp (s : State) (o : Otp) : State := { s with otp := o }

theorem State.rd_withOtp (s : State) (o : Otp) (f : Fld) (i : Nat) : (s.withOtp o).rd f i = s.rd f i := rfl

theorem OnlyRegs.fromOtp {l : List (Nat × Word)} {o : Otp} (h : OnlyRegs l (s.withOtp o) t) : OnlyRegs l s { t with otp := s.otp } :=
  ⟨h.1, h.2.1, show ({ t.rest with otp := s.otp } : State) = s.rest by rw [h.2.2]; rfl⟩

theorem State.patchEnd_eq (s : State) (c : Nat) : s.patchEnd c = (s.withOtp (s.otp.patchEnded c)).wrs 0
    [(R.OTP_PATCH_STAT_STATE, if c = 0 then 2 else 3), (R.OTP_PATCH_STAT_CAUSE, c), (R.OTP_IRQ_PATCH_DONE, 1)] := rfl

theorem State.patchEnd_shows (s : State) {c : Nat} (lt : c < 16) : (s.patchEnd c).rd R.OTP_PATCH_STAT_CAUSE 0 = c ∧
    (s.patchEnd c).rd R.OTP_PATCH_STAT_STATE 0 = (if c = 0 then 2 else 3) ∧ (s.patchEnd c).rd R.OTP_IRQ_PATCH_DONE 0 = 1 ∧
    (s.patchEnd c).otp = s.otp.patchEnded c ∧
    OnlyRegs [R.OTP_PATCH_STAT_CAUSE.at 0, R.OTP_PATCH_STAT_STATE.at 0, R.OTP_IRQ_PATCH_DONE.at 0] s { s.patchEnd c with otp := s.otp } := by
  rw [State.patchEnd_eq]
  refine ⟨?_, ?_, ?_, ?_, OnlyRegs.fromOtp (o := s.otp.patchEnded c) ((OnlyRegs.refl _ _).wrs _ _ (by simp +decide))⟩
  · simp (disch := decide) only [State.wrs, State.rd_wr_sep]
    exact State.rd_wr_lt (by decide) lt _ _
  · simp (disch := decide) only [State.wrs, State.rd_wr_sep]
    exact State.rd_wr_lt (by decide) (by split <;> decide) _ _
  · simp (disch := decide) only [State.wrs, State.rd_wr_lt]
  · rw [State.wrs_otp]
    rfl

/-- The fuse state of an empty patch RAM. -/
def Otp.patchCleared (o : Otp) : Otp := { o with patchBusy := false, patchLen := 0 }

theorem State.patchClr_eq (s : State) : s.patchClr =
    ((s.clearMem 0x380000 0x388000).withOtp s.otp.patchCleared).wrs 0 [(R.OTP_PATCH_STAT_STATE, 0), (R.OTP_PATCH_STAT_CAUSE, 0)] := rfl

theorem State.patchClr_byte (s : State) (a : Nat) : s.patchClr.byte a = if 0x380000 ≤ a ∧ a < 0x388000 then memReset a else s.byte a := by
  rw [State.patchClr_eq, State.byte_of_mem (State.wrs_mem _ _ _)]
  exact s.byte_clearMem _ _ _

theorem State.patchClr_word (s : State) {i : Nat} (lt : i < 8192) : s.patchClr.memWord (0x380000 + 4 * i) = 0#32 := by
  have zero (k : Nat) (hk : k < 4) : s.patchClr.byte (0x380000 + 4 * i + k) = 0#8 := by
    rw [State.patchClr_byte, if_pos (by omega), memReset, if_neg (by omega)]
  rw [State.memWord, zero 3 (by decide), zero 2 (by decide), zero 1 (by decide), show s.patchClr.byte (0x380000 + 4 * i) = 0#8 from zero 0 (by decide)]
  rfl

theorem State.patchClr_shows (s : State) : s.patchClr.rd R.OTP_PATCH_STAT_STATE 0 = 0 ∧ s.patchClr.rd R.OTP_PATCH_STAT_CAUSE 0 = 0 ∧
    s.patchClr.otp = s.otp.patchCleared ∧
    OnlyRegs [R.OTP_PATCH_STAT_STATE.at 0, R.OTP_PATCH_STAT_CAUSE.at 0] s { s.patchClr with otp := s.otp, mem := s.mem } := by
  rw [State.patchClr_eq]
  have only (u : State) : OnlyRegs [R.OTP_PATCH_STAT_STATE.at 0, R.OTP_PATCH_STAT_CAUSE.at 0] u
      (u.wrs 0 [(R.OTP_PATCH_STAT_STATE, 0), (R.OTP_PATCH_STAT_CAUSE, 0)]) := (OnlyRegs.refl _ _).wrs _ _ (by decide)
  refine ⟨?_, ?_, ?_, ?_⟩
  · simp (disch := decide) only [State.wrs, State.rd_wr_sep, State.rd_wr_lt]
  · simp (disch := decide) only [State.wrs, State.rd_wr_lt]
  · rw [State.wrs_otp]
    rfl
  · obtain ⟨regs, -, rest⟩ := only ((s.clearMem 0x380000 0x388000).withOtp s.otp.patchCleared)
    generalize ((s.clearMem 0x380000 0x388000).withOtp s.otp.patchCleared).wrs 0 [(R.OTP_PATCH_STAT_STATE, 0), (R.OTP_PATCH_STAT_CAUSE, 0)] = t at regs rest ⊢
    exact ⟨regs, rfl, show ({ t.rest with otp := s.otp } : State) = s.rest by rw [rest]; rfl⟩

/-! ### An edge of a GPIO pin (R105, R301, R316, R346) -/

/-- The record of channel `n` after the edge. -/
def State.gpioRec (s : State) (i : Nat) (rising : Bool) (n : Ch) : Chan :=
  { s.ch n with
    trcHit := (s.ch n).trcHit || (decide (s.rd R.GPIO_FUNC 0 / 16 ^ i % 16 = 3) && decide (s.rd R.TRC_TRIG_PIN n.val = i) &&
      decide (s.rd R.TRC_TRIG_COND n.val = if rising then 0 else 1) && s.chOn n && decide (s.rd R.TRC_TRIG_SRC n.val = 2) &&
      s.on R.TRC_STATUS_ACTIVE n.val)
    homeSeen := (s.ch n).homeSeen || (decide (s.rd R.SPT_HOME_PIN n.val = i) && (s.on R.SPT_HOME_LVL n.val == rising) &&
      (s.ch n).homeRun && decide (s.rd R.SPT_HOME_EVENT n.val = 2)) }

/-- The trace trigger of the edge. -/
def State.gpioTrc (s : State) (i : Nat) (rising : Bool) (n : Ch) : State :=
  if s.gpioFunc i = 3 ∧ s.rd R.TRC_TRIG_PIN n.val = i ∧ s.rd R.TRC_TRIG_COND n.val = (if rising then 0 else 1) then s.trcFire n 2 else s

theorem State.gpioOnCh_eq (s : State) (i : Nat) (rising : Bool) (n : Ch) : s.gpioOnCh i rising n =
    if (s.gpioTrc i rising n).rd R.SPT_HOME_PIN n.val = i ∧ (s.gpioTrc i rising n).on R.SPT_HOME_LVL n.val = rising then
      (s.gpioTrc i rising n).homeEvent n 2 else s.gpioTrc i rising n := rfl

theorem OnlyChan.gpioTrc (s : State) (i : Nat) (rising : Bool) (n : Ch) : OnlyChan n [] s (s.gpioTrc i rising n) :=
  .ite (.whenCh (.refl n [] s) (.ite ((OnlyChan.refl n [] s).modCh _) (.refl n [] s))) (.refl n [] s)

theorem OnlyChan.gpioOnCh (s : State) (i : Nat) (rising : Bool) (n : Ch) : OnlyChan n [] s (s.gpioOnCh i rising n) := by
  rw [State.gpioOnCh_eq]
  have h := OnlyChan.gpioTrc s i rising n
  exact .ite (.ite (h.modCh _) h) h

theorem OnlyRegs.rd_eq (h : OnlyRegs [] s t) (f : Fld) (i : Nat) (hf : f.ok) : t.rd f i = s.rd f i := h.1.rd f i hf BitVec.and_zero

/-- Of the state the records of the channels alone differ. -/
def ChansOnly (s t : State) : Prop := OnlyRegs [] s { t with chan := s.chan }

theorem ChansOnly.rd (h : ChansOnly s t) (f : Fld) (i : Nat) (hf : f.ok) : t.rd f i = s.rd f i := h.rd_eq f i hf

theorem OnlyChan.chansOnly {n : Ch} (h : OnlyChan n [] s t) : ChansOnly s t := ⟨h.1, h.2.1, h.2.2.1⟩

theorem ChansOnly.trans {u : State} (h : ChansOnly s t) (k : ChansOnly t u) : ChansOnly s u :=
  ⟨h.1.trans k.1, k.2.1.trans h.2.1, show ({ u.rest with chan := s.chan } : State) = s.rest from
    (congrArg (fun x : State => { x with chan := s.chan }) k.2.2).trans h.2.2⟩

/-- What is done to one channel after the other. -/
theorem State.forCh_ch {f : Ch → State → State} (only : ∀ n u, OnlyChan n [] u (f n u)) (s : State) (n : Ch) :
    ChansOnly s (s.forCh f) ∧ ∃ u, ChansOnly s u ∧ u.ch n = s.ch n ∧ (s.forCh f).ch n = (f n u).ch n := by
  have h0 := only 0 s
  have h1 := only 1 (f 0 s)
  have h2 := only 2 (f 1 (f 0 s))
  have h3 := only 3 (f 2 (f 1 (f 0 s)))
  have k1 := h0.chansOnly.trans h1.chansOnly
  have k2 := k1.trans h2.chansOnly
  have same : ChansOnly s s := (OnlyChan.refl 0 [] s).chansOnly
  refine ⟨k2.trans h3.chansOnly, ?_⟩
  obtain ⟨-, -, -, e0⟩ := h0
  obtain ⟨-, -, -, e1⟩ := h1
  obtain ⟨-, -, -, e2⟩ := h2
  obtain ⟨-, -, -, e3⟩ := h3
  fin_cases n
  · exact ⟨s, same, rfl, (e3 0 (by decide)).trans ((e2 0 (by decide)).trans (e1 0 (by decide)))⟩
  · exact ⟨f 0 s, (only 0 s).chansOnly, e0 1 (by decide), (e3 1 (by decide)).trans (e2 1 (by decide))⟩
  · exact ⟨f 1 (f 0 s), k1, (e1 2 (by decide)).trans (e0 2 (by decide)), e3 2 (by decide)⟩
  · exact ⟨f 2 (f 1 (f 0 s)), k2, (e2 3 (by decide)).trans ((e1 3 (by decide)).trans (e0 3 (by decide))), rfl⟩

theorem State.gpioTrc_ch (s : State) (i : Nat) (rising : Bool) (n : Ch) : (s.gpioTrc i rising n).ch n =
    { s.ch n with trcHit := (s.ch n).trcHit || (decide (s.rd R.GPIO_FUNC 0 / 16 ^ i % 16 = 3) && decide (s.rd R.TRC_TRIG_PIN n.val = i) &&
      decide (s.rd R.TRC_TRIG_COND n.val = if rising then 0 else 1) && s.chOn n && decide (s.rd R.TRC_TRIG_SRC n.val = 2) &&
      s.on R.TRC_STATUS_ACTIVE n.val) } := by
  unfold State.gpioTrc State.trcFire State.whenCh State.gpioFunc
  by_cases fires : s.rd R.GPIO_FUNC 0 / 16 ^ i % 16 = 3 ∧ s.rd R.TRC_TRIG_PIN n.val = i ∧ s.rd R.TRC_TRIG_COND n.val = (if rising then 0 else 1)
  · rw [if_pos fires]
    obtain ⟨func, pin, cond⟩ := fires
    rw [decide_eq_true func, decide_eq_true pin, decide_eq_true cond]
    cases on : s.chOn n
    · simp
    · cases src : (decide (s.rd R.TRC_TRIG_SRC n.val = 2) && s.on R.TRC_STATUS_ACTIVE n.val) <;>
        simp only [src, State.ch_modCh_self, if_true, Bool.true_and, Bool.or_true, Bool.or_false, if_false, Bool.false_eq_true]

  · rw [if_neg fires]
    have out : (decide (s.rd R.GPIO_FUNC 0 / 16 ^ i % 16 = 3) && decide (s.rd R.TRC_TRIG_PIN n.val = i) &&
        decide (s.rd R.TRC_TRIG_COND n.val = if rising then 0 else 1)) = false := by
      rw [← Bool.not_eq_true, Bool.and_eq_true, Bool.and_eq_true, decide_eq_true_iff, decide_eq_true_iff, decide_eq_true_iff]
      exact fun h => fires ⟨h.1.1, h.1.2, h.2⟩
    rw [out]
    simp

/-- Channel `n` after an edge of pin `i`. -/
theorem State.gpioOnCh_ch (s : State) (i : Nat) (rising : Bool) (n : Ch) : (s.gpioOnCh i rising n).ch n = s.gpioRec i rising n := by
  have kept := (OnlyChan.gpioTrc s i rising n).chansOnly
  have record := s.gpioTrc_ch i rising n
  rw [State.gpioOnCh_eq]
  generalize s.gpioTrc i rising n = u at kept record
  have lvl : u.on R.SPT_HOME_LVL n.val = s.on R.SPT_HOME_LVL n.val := by rw [State.on, kept.rd _ _ (by decide), State.on]
  rw [kept.rd _ _ (by decide), lvl]
  unfold State.homeEvent State.gpioRec
  rw [kept.rd _ _ (by decide), record]
  by_cases hits : s.rd R.SPT_HOME_PIN n.val = i ∧ s.on R.SPT_HOME_LVL n.val = rising
  · rw [if_pos hits, decide_eq_true hits.1, hits.2]
    cases home : ((s.ch n).homeRun && decide (s.rd R.SPT_HOME_EVENT n.val = 2)) <;> simp [Bool.and_assoc, home, record]
  · have out : (decide (s.rd R.SPT_HOME_PIN n.val = i) && (s.on R.SPT_HOME_LVL n.val == rising)) = false := by
      rw [← Bool.not_eq_true, Bool.and_eq_true, decide_eq_true_iff, beq_iff_eq]
      exact hits
    rw [if_neg hits, record, out]
    simp

/-- The words of the pins that an edge may change. -/
def gpioWords : List (Nat × Word) :=
  [R.GPIO_IN.at 0, R.GPIO_IRQ_EDGE.at 0, R.GRV_EVT_PEND.at 0, R.GRV_EVT_PEND.at 1, R.GRV_EVT_PEND.at 2, R.GRV_EVT_PEND.at 3]

theorem gpioWords_pend : ∀ n : Ch, R.GRV_EVT_PEND.at n.val ∈ gpioWords := by decide

theorem OnlyRegs.grvEvent {l : List (Nat × Word)} (h : OnlyRegs l s t) (n : Ch) (b : Nat) (c : R.GRV_EVT_PEND.at n.val ∈ l) : OnlyRegs l s (t.grvEvent n b) :=
  h.whenCh (h.wr _ _ _ (by decide) c)

/-- The event of the pin reaches every core. -/
def State.gpioEvents (s : State) : State := s.forCh fun n s => s.grvEvent n 13

theorem OnlyRegs.gpioEvents {l : List (Nat × Word)} (h : OnlyRegs l s t) (c : ∀ n : Ch, R.GRV_EVT_PEND.at n.val ∈ l) : OnlyRegs l s t.gpioEvents :=
  (((h.grvEvent 0 13 (c 0)).grvEvent 1 13 (c 1)).grvEvent 2 13 (c 2)).grvEvent 3 13 (c 3)

theorem State.gpioFlag_new {i : Nat} (new : s.bit R.GPIO_IRQ_EDGE 0 i = false) : s.gpioFlag i =
    if ((s.orBits R.GPIO_IRQ_EDGE 0 (2 ^ i)).word 0x0E14).getLsbD i then (s.orBits R.GPIO_IRQ_EDGE 0 (2 ^ i)).gpioEvents
    else s.orBits R.GPIO_IRQ_EDGE 0 (2 ^ i) := if_neg (by rw [new]; exact Bool.false_ne_true)

theorem OnlyRegs.gpioFlag (h : OnlyRegs gpioWords s t) (i : Nat) : OnlyRegs gpioWords s (t.gpioFlag i) := by
  have flagged : OnlyRegs gpioWords s (t.orBits R.GPIO_IRQ_EDGE 0 (2 ^ i)) := h.wr _ _ _ (by decide) (by decide)
  exact h.ite (.ite (flagged.gpioEvents gpioWords_pend) flagged)

/-- The words of the cores' pending events. -/
def pendWords : List (Nat × Word) := [R.GRV_EVT_PEND.at 0, R.GRV_EVT_PEND.at 1, R.GRV_EVT_PEND.at 2, R.GRV_EVT_PEND.at 3]

theorem State.gpioEvents_only (s : State) : OnlyRegs pendWords s s.gpioEvents := (OnlyRegs.refl _ _).gpioEvents (by decide)

theorem State.gpioFlag_edge (s : State) {i : Nat} (lt : i < 8) : (s.gpioFlag i).bit R.GPIO_IRQ_EDGE 0 i = true := by
  by_cases old : s.bit R.GPIO_IRQ_EDGE 0 i = true
  · rw [State.gpioFlag, if_pos old, old]
  · have set : (s.orBits R.GPIO_IRQ_EDGE 0 (2 ^ i)).bit R.GPIO_IRQ_EDGE 0 i = true :=
      State.bit_orBits (by decide) _ _ _ (Nat.pow_lt_pow_right (by decide) lt)
    rw [State.gpioFlag_new (Bool.not_eq_true _ ▸ old)]
    generalize s.orBits R.GPIO_IRQ_EDGE 0 (2 ^ i) = u at set
    split
    · rw [State.bit, u.gpioEvents_only.1.rd _ _ (by decide) (by decide)]
      exact set
    · exact set

theorem State.gpioFlag_in (s : State) (i : Nat) : (s.gpioFlag i).rd R.GPIO_IN 0 = s.rd R.GPIO_IN 0 := by
  by_cases old : s.bit R.GPIO_IRQ_EDGE 0 i = true
  · rw [State.gpioFlag, if_pos old]
  · have kept : (s.orBits R.GPIO_IRQ_EDGE 0 (2 ^ i)).rd R.GPIO_IN 0 = s.rd R.GPIO_IN 0 := State.rd_wr_sep _ _ _ _ _ (by decide)
    rw [State.gpioFlag_new (Bool.not_eq_true _ ▸ old)]
    generalize s.orBits R.GPIO_IRQ_EDGE 0 (2 ^ i) = u at kept
    split
    · rw [u.gpioEvents_only.1.rd _ _ (by decide) (by decide), kept]
    · exact kept

/-- The level of the pin as the synchroniser shows it. -/
def State.gpioIn (s : State) (i : Nat) (level : Bool) : State :=
  if level then s.orBits R.GPIO_IN 0 (2 ^ i) else s.clrBits R.GPIO_IN 0 (2 ^ i)

theorem State.gpioIn_only (s : State) (i : Nat) (level : Bool) : OnlyRegs gpioWords s (s.gpioIn i level) :=
  .ite ((OnlyRegs.refl _ _).wr _ _ _ (by decide) (by decide)) ((OnlyRegs.refl _ _).wr _ _ _ (by decide) (by decide))

theorem State.gpioIn_bit (s : State) {i : Nat} (lt : i < 8) (level : Bool) (k : Nat) :
    (s.gpioIn i level).bit R.GPIO_IN 0 k = if k = i then level else s.bit R.GPIO_IN 0 k := by
  have small : 2 ^ i < R.GPIO_IN.size := Nat.pow_lt_pow_right (by decide) lt
  unfold State.gpioIn
  cases level
  · rw [if_neg Bool.false_ne_true, State.bit, State.rd_clrBits (by decide), testBit_sub_and, Nat.testBit_two_pow, State.bit]
    by_cases same : k = i
    · simp [same]
    · simp [same, Ne.symm same]
  · rw [if_pos rfl, State.bit, State.rd_orBits (by decide) _ _ _ small, Nat.testBit_or, Nat.testBit_two_pow, State.bit]
    by_cases same : k = i
    · simp [same]
    · simp [same, Ne.symm same]

/-- The flag of the pin's selected edge. -/
def State.gpioFlagged (s : State) (i : Nat) (level : Bool) : State :=
  if (s.gpioIn i level).gpioSelects i level then (s.gpioIn i level).gpioFlag i else s.gpioIn i level

theorem execGpioEdge_moves {i : Fin 8} {level : Bool} (moves : s.bit R.GPIO_IN 0 i.val ≠ level) : exec (.gpioEdge i level) s =
    .next (if !(s.gpioIn i.val level).coreOn then s.gpioIn i.val level else (s.gpioFlagged i.val level).forCh fun n s => s.gpioOnCh i.val level n) :=
  congrArg Host.Outcome.next (if_neg moves)

theorem State.coreOn_of_pwr (e : t.pwr = s.pwr) : t.coreOn = s.coreOn := by
  unfold State.coreOn
  rw [e]

theorem State.gpioIn_coreOn (s : State) (i : Nat) (level : Bool) : (s.gpioIn i level).coreOn = s.coreOn := by
  unfold State.gpioIn State.orBits State.clrBits
  split <;> exact State.coreOn_of_pwr (State.wr_pwr _ _ _ _)

theorem State.gpioFlagged_only (s : State) (i : Nat) (level : Bool) : OnlyRegs gpioWords s (s.gpioFlagged i level) :=
  .ite ((s.gpioIn_only i level).gpioFlag i) (s.gpioIn_only i level)

theorem State.gpioFlagged_in (s : State) (i : Nat) (level : Bool) : (s.gpioFlagged i level).rd R.GPIO_IN 0 = (s.gpioIn i level).rd R.GPIO_IN 0 := by
  unfold State.gpioFlagged
  split
  · exact State.gpioFlag_in _ i
  · rfl

theorem State.gpioFlagged_edge (s : State) {i : Nat} (lt : i < 8) {level : Bool} (selected : (s.rd R.GPIO_EDGE 0).testBit (2 * i + (if level then 0 else 1)) = true) :
    (s.gpioFlagged i level).bit R.GPIO_IRQ_EDGE 0 i = true := by
  have selects : (s.gpioIn i level).gpioSelects i level = true := by
    rw [State.gpioSelects, (s.gpioIn_only i level).1.rd _ _ (by decide) (by decide), selected]
  rw [State.gpioFlagged, if_pos selects]
  exact State.gpioFlag_edge _ lt

/-- What the edge reads of a channel lies apart from the pins' words. -/
theorem gpioReads_apart : ∀ n : Ch, ∀ f ∈ [R.TRC_TRIG_PIN, R.TRC_TRIG_COND, R.TRC_TRIG_SRC, R.TRC_STATUS_ACTIVE, R.SPT_HOME_PIN, R.SPT_HOME_LVL, R.SPT_HOME_EVENT],
    f.ok ∧ f.mask &&& maskAt gpioWords (f.addr n.val) = 0#32 := by decide

/-- A channel's part in the edge follows its own record and registers. -/
theorem State.gpioRec_of_kept {u : State} (kept : OnlyRegs gpioWords s { u with chan := s.chan }) (i : Nat) (level : Bool) {n : Ch} (same : u.ch n = s.ch n) :
    u.gpioRec i level n = s.gpioRec i level n := by
  have reads (f : Fld) (mem : f ∈ [R.TRC_TRIG_PIN, R.TRC_TRIG_COND, R.TRC_TRIG_SRC, R.TRC_STATUS_ACTIVE, R.SPT_HOME_PIN, R.SPT_HOME_LVL, R.SPT_HOME_EVENT]) :
      u.rd f n.val = s.rd f n.val := kept.1.rd f n.val (gpioReads_apart n f mem).1 (gpioReads_apart n f mem).2
  have func : u.rd R.GPIO_FUNC 0 = s.rd R.GPIO_FUNC 0 := kept.1.rd _ _ (by decide) (by decide)
  have dom : u.rd R.PWR_DOM_STATE_ON 0 = s.rd R.PWR_DOM_STATE_ON 0 := kept.1.rd _ _ (by decide) (by decide)
  simp only [State.gpioRec, State.chOn, State.domOn, State.bit, State.on, same, func, dom, reads R.TRC_TRIG_PIN (by decide), reads R.TRC_TRIG_COND (by decide),
    reads R.TRC_TRIG_SRC (by decide), reads R.TRC_STATUS_ACTIVE (by decide), reads R.SPT_HOME_PIN (by decide), reads R.SPT_HOME_LVL (by decide),
    reads R.SPT_HOME_EVENT (by decide)]

theorem ChansOnly.from {l : List (Nat × Word)} {u : State} (h : OnlyRegs l s u) (k : ChansOnly u t) : OnlyRegs l s { t with chan := s.chan } := by
  refine ⟨h.1.trans (k.1.mono fun a => BitVec.zero_and), k.2.1.trans h.2.1, ?_⟩
  show ({ t.rest with chan := s.chan } : State) = s.rest
  have chan : u.chan = s.chan := show u.rest.chan = s.rest.chan by rw [h.2.2]
  have rest : ({ t.rest with chan := u.chan } : State) = u.rest := k.2.2
  rw [← chan, rest, h.2.2]

/-! ### The thermal comparators and the test access port (R48, R51, R529) -/

theorem State.condSet_on {q : Nat} (absent : (s.fr q).cond = false) : s.condSet q true = s.raise q 0 := (if_pos rfl).trans (if_neg (by rw [absent]; exact Bool.false_ne_true))

theorem State.condSet_off {q : Nat} (absent : (s.fr q).cond = false) : s.condSet q false = s :=
  (if_neg Bool.false_ne_true).trans (if_neg (by rw [absent]; exact Bool.false_ne_true))

theorem State.condSet_stands {q : Nat} (present : (s.fr q).cond = true) : s.condSet q true = s := (if_pos rfl).trans (if_pos present)

/-- The shift register after a rising edge. -/
def State.tapSr (s : State) (tdi : Bool) (pins : BitVec 124) : Nat :=
  if s.tap.st = 3 then s.tapCapture pins
  else if s.tap.st = 4 then tapShift (tapLen s.tap.ir) s.tap.sr tdi
  else if s.tap.st = 10 then 1 + 4 * (s.anyVal.toNat % 4)
  else if s.tap.st = 11 then tapShift 4 s.tap.sr tdi
  else s.tap.sr

/-- Capture or shift in the present state of the controller. -/
def State.tapShifted (s : State) (tdi : Bool) (pins : BitVec 124) : State :=
  if s.tap.st = 3 then { s with tap.sr := s.tapCapture pins }
  else if s.tap.st = 4 then { s with tap.sr := tapShift (tapLen s.tap.ir) s.tap.sr tdi }
  else if s.tap.st = 10 then { s.used with tap.sr := 1 + 4 * (s.anyVal.toNat % 4) }
  else if s.tap.st = 11 then { s with tap.sr := tapShift 4 s.tap.sr tdi }
  else s

/-- A free value may be used up. -/
theorem State.tapShifted_eq (s : State) (tdi : Bool) (pins : BitVec 124) : ∃ n, s.tapShifted tdi pins = { s with free := n, tap.sr := s.tapSr tdi pins } := by
  unfold State.tapShifted State.tapSr
  by_cases capture : s.tap.st = 3
  · exact ⟨s.free, by rw [if_pos capture, if_pos capture]⟩
  by_cases shift : s.tap.st = 4
  · exact ⟨s.free, by rw [if_neg capture, if_pos shift, if_neg capture, if_pos shift]⟩
  by_cases captureIr : s.tap.st = 10
  · exact ⟨s.used.free, by rw [if_neg capture, if_neg shift, if_pos captureIr, if_neg capture, if_neg shift, if_pos captureIr]; rfl⟩
  by_cases shiftIr : s.tap.st = 11
  · exact ⟨s.free, by rw [if_neg capture, if_neg shift, if_neg captureIr, if_pos shiftIr, if_neg capture, if_neg shift, if_neg captureIr, if_pos shiftIr]⟩
  · exact ⟨s.free, by rw [if_neg capture, if_neg shift, if_neg captureIr, if_neg shiftIr, if_neg capture, if_neg shift, if_neg captureIr, if_neg shiftIr]⟩

/-- The port after a rising edge. -/
def State.tapRisen (s : State) (tms tdi : Bool) (pins : BitVec 124) : Tap :=
  { s.tap with st := tapNext s.tap.st tms, ir := if tapNext s.tap.st tms = 0 then 1 else s.tap.ir, sr := s.tapSr tdi pins }

theorem State.tapRise_eq (s : State) (tms tdi : Bool) (pins : BitVec 124) : ∃ n, s.tapRise tms tdi pins = { s with free := n, tap := s.tapRisen tms tdi pins } := by
  obtain ⟨n, shifted⟩ := s.tapShifted_eq tdi pins
  refine ⟨n, ?_⟩
  have shape : s.tapRise tms tdi pins = { s.tapShifted tdi pins with
      tap.st := tapNext s.tap.st tms, tap.ir := if tapNext s.tap.st tms = 0 then 1 else s.tap.ir } := rfl
  rw [shape, shifted]
  rfl

theorem State.tapRise_settles (s : State) (tms tdi : Bool) (pins : BitVec 124) :
    (s.tapRise tms tdi pins).settleAll.tap = s.tapRisen tms tdi pins ∧
    Settled [] { s with tap := (s.tapRise tms tdi pins).settleAll.tap } (s.tapRise tms tdi pins).settleAll := by
  obtain ⟨n, risen⟩ := s.tapRise_eq tms tdi pins
  have tap : (s.tapRise tms tdi pins).settleAll.tap = s.tapRisen tms tdi pins := by
    rw [((Settled.refl [] (s.tapRise tms tdi pins)).settleAll).tap, risen]
  refine ⟨tap, ?_⟩
  rw [tap, risen]
  exact Settled.settleAll ⟨RegsKept.refl _ _, rfl⟩

theorem State.tapFall_tap (s : State) : s.tapFall.tap =
    { s.tap with latch := if s.tap.st = 8 ∧ (s.tap.ir = 0 ∨ s.tap.ir = 2) then s.tap.sr % 2 ^ 124 else s.tap.latch,
                 ir := if s.tap.st = 15 then s.tap.sr % 16 else s.tap.ir,
                 tdo := if s.tap.st = 4 ∨ s.tap.st = 11 then some (s.tap.sr.testBit 0) else none } := by
  unfold State.tapFall
  dsimp only
  by_cases dr : s.tap.st = 8 ∧ (s.tap.ir = 0 ∨ s.tap.ir = 2)
  · have ir : s.tap.st ≠ 15 := by omega
    simp only [if_pos dr, if_neg ir]
  · by_cases ir : s.tap.st = 15
    · simp only [if_neg dr, if_pos ir]
    · simp only [if_neg dr, if_neg ir]

/-- The level of the TEST pin. -/
def State.withTest (s : State) (b : Bool) : State := { s with pwr.test := b }

theorem State.rd_withTest (s : State) (b : Bool) (f : Fld) (i : Nat) : (s.withTest b).rd f i = s.rd f i := rfl

theorem State.withTest_wr (s : State) (b : Bool) (f : Fld) (i v : Nat) : (s.wr f i v).withTest b = (s.withTest b).wr f i v := rfl

theorem Settled.test {l : List (Nat × Word)} (h : Settled l s t) : t.pwr.test = s.pwr.test := show t.still.pwr.test = s.still.pwr.test by rw [h.2]

end

/-- The patch commands, by the state of the patch RAM. -/
theorem patch_acts (s : State) :
    (s.otp.patchBusy = true ∨ s.rd R.OTP_PATCH_STAT_STATE 0 = 2 ∨ s.rd R.OTP_PATCH_STAT_STATE 0 = 4 →
      (∀ w, exec (.patchDataWrite w) s = .next s) ∧ exec .patchApply s = .next s) ∧
    (s.patchFree → (∀ w i, i = s.rd R.OTP_PATCH_IDX_IDX 0 → ∃ t, exec (.patchDataWrite w) s = .next t ∧ t.memWord (0x380000 + 4 * i) = w ∧
        MemKept (0x380000 + 4 * i) (0x380000 + 4 * i + 4) s t ∧ t.rd R.OTP_PATCH_IDX_IDX 0 = (i + 1) % 8192 ∧
        t.rd R.OTP_PATCH_STAT_STATE 0 = 1 ∧ OnlyRegs [R.OTP_PATCH_IDX_IDX.at 0, R.OTP_PATCH_STAT_STATE.at 0] s { t with mem := s.mem })) := by
  refine ⟨fun h => ⟨fun w => congrArg Host.Outcome.next (State.patchData_barred h w), congrArg Host.Outcome.next (State.patchApply_barred h)⟩,
    fun free w i hi => ?_⟩
  subst hi
  refine ⟨_, congrArg Host.Outcome.next (State.patchData_free free w), ?_, fun a out => ?_, ?_, ?_, OnlyRegs.setMemWord _ _ _ _ _ _ (by simp +decide)⟩
  · rw [State.memWord_of_mem (State.wrs_mem _ _ _), State.memWord_setMemWord]
  · rw [State.byte_of_mem (State.wrs_mem _ _ _), State.byte_setMemWord_ne _ _ _ _ out]
  · simp (disch := decide) only [State.wrs, State.rd_wr_sep]
    exact State.rd_wr _ _ _ _ (by decide)
  · simp (disch := decide) only [State.wrs, State.rd_wr_lt]

/-- An edge of a pin moves its level. -/
theorem gpio_moves {i : Fin 8} {level : Bool} {s : State} (moves : s.bit R.GPIO_IN 0 i.val ≠ level) :
    ∃ t, exec (.gpioEdge i level) s = .next t ∧ t.bit R.GPIO_IN 0 i.val = level ∧
      (∀ k : Nat, k ≠ i.val → t.bit R.GPIO_IN 0 k = s.bit R.GPIO_IN 0 k) ∧
      (s.coreOn = true → (s.rd R.GPIO_EDGE 0).testBit (2 * i.val + (if level then 0 else 1)) = true → t.bit R.GPIO_IRQ_EDGE 0 i.val = true) ∧
      (s.coreOn = false → t.chan = s.chan) ∧ (∀ n : Ch, s.coreOn = true → t.ch n = s.gpioRec i.val level n) ∧
      OnlyRegs gpioWords s { t with chan := s.chan } := by
  have only := s.gpioIn_only i.val level
  cases core : s.coreOn
  · refine ⟨s.gpioIn i.val level, (execGpioEdge_moves moves).trans (congrArg Host.Outcome.next (if_pos (by rw [State.gpioIn_coreOn, core]; rfl))), ?_, fun k ne => ?_,
      (absurd · Bool.false_ne_true), fun _ => ?_, fun n => (absurd · Bool.false_ne_true), ChansOnly.from only (OnlyChan.refl 0 [] _).chansOnly⟩
    · rw [State.gpioIn_bit _ i.isLt, if_pos rfl]
    · rw [State.gpioIn_bit _ i.isLt, if_neg ne]
    · exact show (s.gpioIn i.val level).rest.chan = s.rest.chan by rw [only.2.2]
  · have flagged := s.gpioFlagged_only i.val level
    have chans (n : Ch) := State.forCh_ch (fun n u => OnlyChan.gpioOnCh u i.val level n) (s.gpioFlagged i.val level) n
    have level' (k : Nat) : ((s.gpioFlagged i.val level).forCh fun n s => s.gpioOnCh i.val level n).bit R.GPIO_IN 0 k = (s.gpioIn i.val level).bit R.GPIO_IN 0 k := by
      rw [State.bit, (chans 0).1.rd _ _ (by decide), State.gpioFlagged_in, State.bit]
    refine ⟨_, (execGpioEdge_moves moves).trans (congrArg Host.Outcome.next (if_neg (by rw [State.gpioIn_coreOn, core]; exact Bool.false_ne_true))), ?_, fun k ne => ?_,
      fun _ selected => ?_, fun off => absurd off.symm Bool.false_ne_true, fun n _ => ?_, ChansOnly.from flagged (chans 0).1⟩
    · rw [level', State.gpioIn_bit _ i.isLt, if_pos rfl]
    · rw [level', State.gpioIn_bit _ i.isLt, if_neg ne]
    · rw [State.bit, (chans 0).1.rd _ _ (by decide)]
      exact State.gpioFlagged_edge s i.isLt selected
    · obtain ⟨-, u, kept, same, record⟩ := chans n
      have own : (s.gpioFlagged i.val level).ch n = s.ch n := by
        rw [State.ch, show (s.gpioFlagged i.val level).chan = s.chan from show (s.gpioFlagged i.val level).rest.chan = s.rest.chan by rw [flagged.2.2], State.ch]
      rw [record, State.gpioOnCh_ch, State.gpioRec_of_kept (ChansOnly.from flagged kept) _ _ (same.trans own)]

/-- Settles O52, unit by unit: the patch RAM, a pin, a comparator, the test access port. -/
theorem patchAndPinsAct : Obligations.PatchAndPinsAct := by
  unfold Obligations.PatchAndPinsAct
  refine ⟨fun s => ⟨(patch_acts s).1, fun idle two four => ?_, fun idle => congrArg Host.Outcome.next (if_neg (by simp [idle])),
      fun busy => congrArg Host.Outcome.next (if_pos busy), fun blk m => ?_, fun c lt => s.patchEnd_shows lt, ?_⟩,
    fun i level s => ⟨fun same => congrArg Host.Outcome.next (if_pos same), gpio_moves⟩, fun k trip above s => ⟨fun off => ?_, fun core ge => ?_, fun n same core => ?_,
      fun q absent => ⟨State.condSet_on absent, State.condSet_off absent⟩, fun q => State.condSet_stands⟩, fun tms tdi pins s => ⟨?_, ?_⟩, fun b s => ?_⟩
  case refine_1 =>
    have free := State.patchFree_of idle two four
    have apply : exec .patchApply s = .next _ := congrArg Host.Outcome.next (State.patchApply_free free)
    exact ⟨(patch_acts s).2 free, fun bad => apply.trans (congrArg Host.Outcome.next (if_pos bad)),
      fun pos le blank => apply.trans (congrArg Host.Outcome.next ((if_neg (by omega)).trans (if_pos blank))),
      fun pos le keys => apply.trans (congrArg Host.Outcome.next ((if_neg (by omega)).trans (if_neg (by omega))))⟩
  case refine_2 =>
    rw [State.signCause_eq]
    cases s.hashPresent <;> cases keyHashOk blk s.keyHash <;> cases signatureOk blk m <;> simp
  case refine_3 =>
    obtain ⟨state, cause, otp, only⟩ := s.patchClr_shows
    exact ⟨s.patchClr, rfl, fun i lt => s.patchClr_word lt, fun a out => by rw [State.patchClr_byte, if_neg (by omega)], state, cause, otp, only⟩
  case refine_4 => exact congrArg Host.Outcome.next (if_pos (by rw [off]; rfl))
  case refine_5 => exact congrArg Host.Outcome.next ((if_neg (by rw [core]; exact Bool.false_ne_true)).trans (dif_neg (Nat.not_lt.2 ge)))
  case refine_6 =>
    have lt : k.val < 4 := same ▸ n.isLt
    have channel : (⟨k.val, lt⟩ : Ch) = n := Fin.ext same.symm
    have source : thermalSource k trip = srcCh n.val (if trip then oTempTrip else oTempWarn) := by rw [thermalSource, if_pos lt, ← same]
    refine congrArg Host.Outcome.next ((if_neg (by rw [core]; exact Bool.false_ne_true)).trans ((dif_pos lt).trans ?_))
    rw [channel, source]
    rfl
  case refine_7 =>
    obtain ⟨tap, settled⟩ := s.tapRise_settles tms tdi pins
    refine ⟨_, rfl, ?_, ?_, ?_, ?_, fun st => ?_, fun st => ?_, fun st => ?_, fun st => ?_, fun capture shift captureIr shiftIr => ?_, settled⟩ <;> rw [if_pos rfl, tap]
    · rfl
    · rfl
    · rfl
    · rfl
    · exact if_pos st
    · exact (if_neg (by omega)).trans (if_pos st)
    · have sr : (s.tapRisen tms tdi pins).sr = 1 + 4 * (s.anyVal.toNat % 4) := (if_neg (by omega)).trans ((if_neg (by omega)).trans (if_pos st))
      rw [sr]
      omega
    · exact (if_neg (by omega)).trans ((if_neg (by omega)).trans ((if_neg (by omega)).trans (if_pos st)))
    · exact (if_neg capture).trans ((if_neg shift).trans ((if_neg captureIr).trans (if_neg shiftIr)))
  case refine_8 =>
    have tap : s.tapFall.settleAll.tap = s.tapFall.tap := ((Settled.refl [] s.tapFall).settleAll).tap
    refine ⟨_, rfl, ?_, ?_, ?_, ?_, ?_, ?_⟩ <;> rw [if_neg Bool.false_ne_true, tap]
    · rw [State.tapFall_tap]
    · rw [State.tapFall_tap]
    · rw [State.tapFall_tap]
    · rw [State.tapFall_tap]
    · rw [State.tapFall_tap]
    · exact Settled.settleAll ⟨RegsKept.refl _ _, rfl⟩
  case refine_9 =>
    have settled := (Settled.refl [] ((s.wr R.SYS_STATUS_TEST 0 b.toNat).withTest b)).settleAll
    refine ⟨((s.wr R.SYS_STATUS_TEST 0 b.toNat).withTest b).settleAll, rfl, ?_, ?_, ?_⟩
    · rw [settled.rd _ _ (by decide) (by decide), State.rd_withTest, State.rd_wr_lt (by decide) (by cases b <;> decide)]
    · rw [settled.test]
      rfl
    · rw [State.withTest_wr]
      exact ((Settled.refl _ (s.withTest b)).wr R.SYS_STATUS_TEST 0 b.toNat (by decide) (by simp)).settleAll

end Sys2Proof.Machine

/-! SUPPORT. O24: domains switch on and off. -/

namespace Sys2Proof.Machine

section
variable {s t u : State} {d : Nat} {l : List (Nat × Word)}

/-! ### The frame of a switch-on: the power manager's record and the domains that are on -/

/-- The power manager's record and the domains that are on are as they were. -/
def PwrSame (s t : State) : Prop := t.pwr = s.pwr ∧ t.rd R.PWR_DOM_STATE_ON 0 = s.rd R.PWR_DOM_STATE_ON 0

theorem PwrSame.refl (s : State) : PwrSame s s := ⟨rfl, rfl⟩

theorem PwrSame.trans (h : PwrSame s t) (k : PwrSame t u) : PwrSame s u := ⟨k.1.trans h.1, k.2.trans h.2⟩

theorem PwrSame.setWord (h : PwrSame s t) {a : Nat} (other : a ≠ 0x228) (w : Word) : PwrSame s (t.setWord a w) :=
  ⟨(State.setWord_pwr _ _ _).trans h.1, by
    rw [State.rd, State.word_setWord, if_neg (show ¬a = R.PWR_DOM_STATE_ON.addr 0 from other)]
    exact h.2⟩

theorem PwrSame.wr (h : PwrSame s t) {f : Fld} {i : Nat} (other : f.addr i ≠ 0x228) (v : Nat) : PwrSame s (t.wr f i v) := h.setWord other _

theorem PwrSame.wrs (h : PwrSame s t) {i : Nat} {q : List (Fld × Nat)} (other : ∀ e ∈ q, e.1.addr i ≠ 0x228) : PwrSame s (t.wrs i q) := by
  induction q generalizing t with
  | nil => exact h
  | cons e q ih => exact ih (h.wr (other e List.mem_cons_self) e.2) fun x hx => other x (List.mem_cons_of_mem _ hx)

theorem PwrSame.ite {p : Prop} [Decidable p] (h : PwrSame s t) (k : PwrSame s u) : PwrSame s (if p then t else u) := by split <;> assumption

theorem Settled.pwrSame (h : Settled [] s t) : PwrSame s t :=
  ⟨show t.still.pwr = s.still.pwr by rw [h.2], h.rd _ _ (by decide) (by decide)⟩

theorem PwrSame.condSet (h : PwrSame s t) (i : Nat) (b : Bool) : PwrSame s (t.condSet i b) := h.trans ((Settled.refl [] t).condSet i b).pwrSame

/-- Nothing but the controllers' records and the free values differs. -/
theorem PwrSame.canNext (h : PwrSame s t) (m : Fin 2) : PwrSame s (t.canNext m) := by
  rw [State.canNext_can]
  exact h

theorem PwrSame.canRepick (h : PwrSame s t) (m : Fin 2) (b : Bool) : PwrSame s (t.canRepick m b) := by
  rw [State.canRepick_can]
  exact h

theorem PwrSame.netSend (h : PwrSame s t) (f : CanFrame) : PwrSame s (t.netSend f) := by
  unfold State.netSend
  split
  · exact PwrSame.canRepick (show PwrSame s (t.used.modCan _ _) from h) _ _
  · exact h

/-- No field of a CAN page lies in the domains' word. -/
theorem canAddr_other : ∀ m : Fin 2, ∀ f ∈ [R.CAN_BPEND, R.CAN_BABORT, R.CAN_IRQ_WR_DENIED, R.CAN_FID_EN, R.CAN_FID_IDE, R.CAN_FID_RTR, R.CAN_FID_ID,
    R.CAN_FMASK_DEST, R.CAN_FMASK_MASK, R.CAN_CTRL_INIT, R.CAN_STATUS_SYNC, R.CAN_IRQ_CFG_ERR], f.addr m.val ≠ 0x228 := by decide

theorem PwrSame.withCan (h : PwrSame s t) (c : Vector Can 2) : PwrSame s { t with can := c } := h

theorem PwrSame.withLate (h : PwrSame s t) (b : Bool) : PwrSame s (t.withLate b) := h

theorem PwrSame.swept (h : PwrSame s t) (m : Fin 2) (d : Nat) : PwrSame s (t.swept m d) := by
  unfold State.swept
  exact ((h.wr (f := R.CAN_BPEND) (canAddr_other m _ (by decide)) _).wr (f := R.CAN_BABORT) (canAddr_other m _ (by decide)) _).wr
    (f := R.CAN_IRQ_WR_DENIED) (canAddr_other m _ (by decide)) 1

theorem PwrSame.netSweep (h : PwrSame s t) (m : Fin 2) (b : Bool) : PwrSame s (t.netSweep m b) := by
  by_cases none' : t.netDiscards m (t.rd R.CAN_BPEND m.val) = 0
  · rw [State.netSweep_none b none']
    exact h
  · rw [State.netSweep_some b rfl none']
    exact (h.swept m _).withCan _

theorem PwrSame.netDiscard (h : PwrSame s t) : PwrSame s t.netDiscard := by
  unfold State.netDiscard
  split
  · exact PwrSame.netSweep (show PwrSame s t.used from h) _ _
  · exact h

theorem PwrSame.claimAt (h : PwrSame s t) (sa : Nat) : PwrSame s (t.claimAt sa) := by
  rw [State.claimAt_eq]
  refine PwrSame.netSend (PwrSame.netDiscard (PwrSame.condSet ?_ _ _)) _
  unfold State.claiming
  exact (h.wrs (by simp +decide)).withLate false

theorem PwrSame.netOn (h : PwrSame s t) (b : Bool) : PwrSame s (t.netEnable false b) := by
  cases b
  · exact show PwrSame s t from h
  · show PwrSame s t.claimStart
    unfold State.claimStart
    exact .ite (h.claimAt _) h

theorem PwrSame.otpNet (h : PwrSame s t) : PwrSame s t.otpNet := PwrSame.netOn (h.wrs (by simp +decide)) _

theorem PwrSame.otpFilters (h : PwrSame s t) (m : Fin 2) (a k : Nat) : PwrSame s (t.otpFilters m a k) := by
  induction k with
  | zero => exact h
  | succ k ih => exact .ite ih ih

theorem PwrSame.canShowFilt (h : PwrSame s t) (m : Fin 2) : PwrSame s (t.canShowFilt m) := by
  refine h.wrs fun e he => canAddr_other m e.1 ?_
  simp only [List.mem_cons, List.not_mem_nil, or_false] at he
  rcases he with rfl | rfl | rfl | rfl | rfl | rfl <;> simp

theorem PwrSame.canInit (h : PwrSame s t) (m : Fin 2) (busy : Bool) : PwrSame s (t.canInit m false busy) := by
  unfold State.canInit
  rw [if_neg Bool.false_ne_true]
  refine .ite (.ite (h.wr (f := R.CAN_IRQ_CFG_ERR) (canAddr_other m _ (by decide)) 1) ?_) h
  refine h.wrs fun e he => canAddr_other m e.1 ?_
  simp only [List.mem_cons, List.not_mem_nil, or_false] at he
  rcases he with rfl | rfl <;> simp

/-- A word of the controllers that CUSTOMER supplies. -/
theorem PwrSame.load (h : PwrSame s t) {a : Nat} (other : a ≠ 0x228) (p : Prop) [Decidable p] (w : Word) :
    PwrSame s (if p then t.setDefined a w else t) := .ite (h.setWord other _) h

theorem PwrSame.otpCan (h : PwrSame s t) : PwrSame s t.otpCan := by
  refine .ite h (PwrSame.canInit (PwrSame.canInit (PwrSame.canShowFilt (PwrSame.canShowFilt (PwrSame.otpFilters (PwrSame.otpFilters ?_ _ _ _) _ _ _) _) _) _ _) _ _)
  exact (((((h.load (by decide) _ _).load (by decide) _ _).load (by decide) _ _).load (by decide) _ _).load (by decide) _ _).load (by decide) _ _

/-! ### Requests (R102) -/

/-- The requests that wait. -/
def State.withQ (s : State) (q : List (Nat × Bool × Bool)) : State := { s with pwrQ := q }

/-- The transition in progress. -/
def State.withTrans (s : State) (x : Option (Nat × Bool × Bool)) : State := { s with pwr.trans := x }

theorem OnlyRegs.pwr (h : OnlyRegs l s t) : t.pwr = s.pwr := show t.rest.pwr = s.rest.pwr by rw [h.2.2]

theorem OnlyRegs.pwrQ (h : OnlyRegs l s t) : t.pwrQ = s.pwrQ := show t.rest.pwrQ = s.rest.pwrQ by rw [h.2.2]

theorem OnlyRegs.chan (h : OnlyRegs l s t) : t.chan = s.chan := show t.rest.chan = s.rest.chan by rw [h.2.2]

theorem State.orBits_pwr (s : State) (f : Fld) (i m : Nat) : (s.orBits f i m).pwr = s.pwr := rfl

theorem State.rd_withTrans (s : State) (x : Option (Nat × Bool × Bool)) (f : Fld) (i : Nat) : (s.withTrans x).rd f i = s.rd f i := rfl

theorem OnlyRegs.fromQ {q : List (Nat × Bool × Bool)} (h : OnlyRegs l (s.withQ q) t) : OnlyRegs l s { t with pwrQ := s.pwrQ } :=
  ⟨h.1, h.2.1, show ({ t.rest with pwrQ := s.pwrQ } : State) = s.rest by rw [h.2.2]; rfl⟩

theorem OnlyRegs.withTrans (h : OnlyRegs l s t) (x : Option (Nat × Bool × Bool)) : OnlyRegs l s { t.withTrans x with pwr := s.pwr } :=
  h.withPwr _

theorem OnlyRegs.fromTrans {x : Option (Nat × Bool × Bool)} (h : OnlyRegs l (s.withTrans x) t) : OnlyRegs l s { t with pwr := s.pwr } :=
  ⟨h.1, h.2.1, show ({ t.rest with pwr := s.pwr } : State) = s.rest by rw [h.2.2]; rfl⟩

/-- The transition that starts is noted; the request has left the queue. -/
theorem OnlyRegs.started {q : List (Nat × Bool × Bool)} (h : OnlyRegs l (s.withQ q) t) (x : Option (Nat × Bool × Bool)) :
    (t.withTrans x).pwrQ = q ∧ (t.withTrans x).pwr.trans = x ∧ (t.withTrans x).chan = s.chan ∧
    OnlyRegs l s { t.withTrans x with pwrQ := s.pwrQ, pwr := s.pwr } := ⟨h.pwrQ, rfl, h.chan, (h.withTrans x).fromQ⟩

/-- The request bits of a direction. -/
def reqFld (up : Bool) : Fld := if up = true then R.PWR_DOM_ON_REQ else R.PWR_DOM_OFF_REQ

theorem reqFld_ok (up : Bool) : (reqFld up).ok := by cases up <;> decide

theorem reqFld_size (up : Bool) : (reqFld up).size = 2 ^ 8 := by cases up <;> rfl

/-- One bit of a request: it queues where it does not wait already. -/
def State.reqBit (up : Bool) (w : Nat) (s : State) (d : Nat) : State :=
  if w.testBit d && !s.bit (reqFld up) 0 d then (s.orBits (reqFld up) 0 (2 ^ d)).withQ (s.pwrQ ++ [(d, up, false)]) else s

theorem State.reqBit_bit (up : Bool) (w : Nat) (s : State) {d : Nat} (lt : d < 8) (k : Nat) :
    (s.reqBit up w d).bit (reqFld up) 0 k = (s.bit (reqFld up) 0 k || w.testBit k && decide (d = k)) := by
  unfold State.reqBit
  split
  case isTrue c =>
    have asked : w.testBit d = true := (Bool.and_eq_true _ _ ▸ c).1
    have fits : 2 ^ d < (reqFld up).size := by rw [reqFld_size]; exact Nat.pow_lt_pow_right (by decide) lt
    show ((s.orBits (reqFld up) 0 (2 ^ d)).rd (reqFld up) 0).testBit k = _
    rw [State.rd_orBits (reqFld_ok up) _ _ _ fits, Nat.testBit_or, Nat.testBit_two_pow]
    by_cases e : d = k
    · subst e
      simp [asked]
    · simp [e, State.bit]
  case isFalse c =>
    by_cases e : d = k
    · subst e
      cases h : w.testBit d <;> simp_all
    · simp [e]

theorem State.reqBit_queue (up : Bool) (w : Nat) (s : State) (d : Nat) :
    (s.reqBit up w d).pwrQ = s.pwrQ ++ if w.testBit d && !s.bit (reqFld up) 0 d then [(d, up, false)] else [] := by
  unfold State.reqBit
  split
  · rfl
  · exact (List.append_nil _).symm

theorem OnlyRegs.reqBit {up : Bool} {q : List (Nat × Bool × Bool)} (h : OnlyRegs [(reqFld up).at 0] s (t.withQ q)) (w d : Nat) :
    OnlyRegs [(reqFld up).at 0] s ((t.reqBit up w d).withQ q) := by
  unfold State.reqBit
  split
  · exact h.wr (reqFld up) 0 ((t.withQ q).rd (reqFld up) 0 ||| 2 ^ d) (reqFld_ok up) List.mem_cons_self
  · exact h

theorem State.reqBits_bit (up : Bool) (w : Nat) {ds : List Nat} (small : ∀ d ∈ ds, d < 8) (s : State) (k : Nat) :
    (ds.foldl (State.reqBit up w) s).bit (reqFld up) 0 k = (s.bit (reqFld up) 0 k || w.testBit k && decide (k ∈ ds)) := by
  induction ds generalizing s with
  | nil => simp
  | cons d ds ih =>
    rw [List.foldl_cons, ih (fun x hx => small x (List.mem_cons_of_mem _ hx)), State.reqBit_bit up w s (small d List.mem_cons_self)]
    by_cases e : d = k
    · subst e
      cases s.bit (reqFld up) 0 d <;> cases w.testBit d <;> simp
    · simp [e, Ne.symm e]

theorem State.reqBits_queue (up : Bool) (w : Nat) {ds : List Nat} (small : ∀ d ∈ ds, d < 8) (once : ds.Nodup) (s : State) :
    (ds.foldl (State.reqBit up w) s).pwrQ =
      s.pwrQ ++ (ds.filter fun d => w.testBit d && !s.bit (reqFld up) 0 d).map (fun d => (d, up, false)) := by
  induction ds generalizing s with
  | nil => simp
  | cons d ds ih =>
    obtain ⟨fresh, once⟩ := List.nodup_cons.1 once
    have same : ∀ x ∈ ds, (w.testBit x && !(s.reqBit up w d).bit (reqFld up) 0 x) = (w.testBit x && !s.bit (reqFld up) 0 x) := by
      intro x hx
      have ne : d ≠ x := fun e => fresh (e ▸ hx)
      rw [State.reqBit_bit up w s (small d List.mem_cons_self), decide_eq_false ne, Bool.and_false, Bool.or_false]
    rw [List.foldl_cons, ih (fun x hx => small x (List.mem_cons_of_mem _ hx)) once, State.reqBit_queue, List.filter_congr same, List.filter_cons,
      List.append_assoc]
    split <;> rfl

theorem OnlyRegs.reqBits {up : Bool} {q : List (Nat × Bool × Bool)} (w : Nat) (ds : List Nat) (h : OnlyRegs [(reqFld up).at 0] s (t.withQ q)) :
    OnlyRegs [(reqFld up).at 0] s ((ds.foldl (State.reqBit up w) t).withQ q) := by
  induction ds generalizing t with
  | nil => exact h
  | cons d ds ih => exact ih (h.reqBit w d)

theorem State.domRequest_open {up : Bool} {w : Nat} (run : s.pwr.mode ≠ .entry) (on : s.coreOn = true) :
    s.domRequest up w = (List.range 8).foldl (State.reqBit up w) s := if_neg (by simp [run, on])

theorem State.domRequest_closed {up : Bool} {w : Nat} (off : s.pwr.mode = .entry ∨ s.coreOn = false) : s.domRequest up w = s :=
  if_pos (by rcases off with h | h <;> simp [h])

theorem State.domRequest_acts (up : Bool) (w : BitVec 8) (run : s.pwr.mode ≠ .entry) (on : s.coreOn = true) :
    (s.domRequest up w.toNat).rd (reqFld up) 0 = s.rd (reqFld up) 0 ||| w.toNat ∧
    (s.domRequest up w.toNat).pwrQ =
      s.pwrQ ++ ((List.range 8).filter fun d => w.toNat.testBit d && !s.bit (reqFld up) 0 d).map (fun d => (d, up, false)) ∧
    OnlyRegs [(reqFld up).at 0] s { s.domRequest up w.toNat with pwrQ := s.pwrQ } := by
  have small : ∀ d ∈ List.range 8, d < 8 := fun d => List.mem_range.1
  rw [State.domRequest_open run on]
  refine ⟨Nat.eq_of_testBit_eq fun k => ?_, State.reqBits_queue _ _ small List.nodup_range _, OnlyRegs.reqBits _ _ (OnlyRegs.refl _ s)⟩
  have bits := State.reqBits_bit up w.toNat small s k
  rw [State.bit, State.bit] at bits
  rw [bits, Nat.testBit_or]
  by_cases lt : k < 8
  · simp [lt]
  · have zero : w.toNat.testBit k = false := Nat.testBit_lt_two_pow (Nat.lt_of_lt_of_le w.isLt (Nat.pow_le_pow_right (by decide) (Nat.not_lt.1 lt)))
    simp [zero]

/-! ### A transition starts, or is refused (R103, R104) -/

theorem State.reqDone_eq (s : State) (d : Nat) (up : Bool) : s.reqDone d up = s.clrBits (reqFld up) 0 (2 ^ d) := by cases up <;> rfl

theorem OnlyRegs.reqDone (h : OnlyRegs l s t) (d : Nat) (up : Bool) (c : (reqFld up).at 0 ∈ l) : OnlyRegs l s (t.reqDone d up) := by
  rw [State.reqDone_eq]
  exact h.wr _ _ _ (reqFld_ok up) c

theorem State.reqDone_shows (s : State) (d : Nat) (up : Bool) : (s.reqDone d up).bit (reqFld up) 0 d = false ∧
    OnlyRegs [R.PWR_DOM_ON_REQ.at 0, R.PWR_DOM_OFF_REQ.at 0] s (s.reqDone d up) := by
  refine ⟨?_, (OnlyRegs.refl _ s).reqDone d up (by cases up <;> simp [reqFld])⟩
  rw [State.reqDone_eq]
  exact State.bit_clrBits_self (reqFld_ok up) _ _ _

/-- What a refusal leaves beside its report (R104). -/
theorem State.refused_rest (s : State) (q : List (Nat × Bool × Bool)) (d : Nat) (up : Bool) (c : Nat) :
    (((s.withQ q).reqDone d up).refuse d up c).pwrQ = q ∧ (((s.withQ q).reqDone d up).refuse d up c).pwr.trans = s.pwr.trans ∧
    OnlyRegs [R.PWR_DOM_ON_REQ.at 0, R.PWR_DOM_OFF_REQ.at 0, R.PWR_REFUSE_VALID.at 0, R.PWR_REFUSE_DIR.at 0, R.PWR_REFUSE_TARGET.at 0,
      R.PWR_REFUSE_CAUSE.at 0, R.PWR_IRQ_REFUSED.at 0] s { ((s.withQ q).reqDone d up).refuse d up c with pwrQ := s.pwrQ } := by
  have only : OnlyRegs [R.PWR_DOM_ON_REQ.at 0, R.PWR_DOM_OFF_REQ.at 0, R.PWR_REFUSE_VALID.at 0, R.PWR_REFUSE_DIR.at 0, R.PWR_REFUSE_TARGET.at 0,
      R.PWR_REFUSE_CAUSE.at 0, R.PWR_IRQ_REFUSED.at 0] (s.withQ q) (((s.withQ q).reqDone d up).refuse d up c) := by
    unfold State.refuse
    exact ((OnlyRegs.refl _ _).reqDone d up (by cases up <;> simp [reqFld])).wrs _ _ (by simp +decide)
  exact ⟨only.pwrQ, congrArg Pwr.trans only.pwr, only.fromQ⟩

theorem State.domRefusal_lt (s : State) (d : Nat) (up job : Bool) : s.domRefusal d up job < 256 := by
  unfold State.domRefusal
  repeat' split
  all_goals decide

/-- The registers of a transition that starts. -/
def State.transBusy (s : State) (d : Nat) : State := s.wrs 0 [(R.PWR_STATUS_BUSY, 1), (R.PWR_DOM_STATE_BUSY, 2 ^ d)]

theorem State.transBusy_shows (s : State) {d : Nat} (lt : d < 8) : (s.transBusy d).rd R.PWR_STATUS_BUSY 0 = 1 ∧
    (s.transBusy d).rd R.PWR_DOM_STATE_BUSY 0 = 2 ^ d ∧
    OnlyRegs [R.PWR_STATUS_BUSY.at 0, R.PWR_DOM_STATE_BUSY.at 0] s (s.transBusy d) := by
  have fits : 2 ^ d < R.PWR_DOM_STATE_BUSY.size := Nat.pow_lt_pow_right (by decide) lt
  unfold State.transBusy
  refine ⟨?_, State.rd_wr_lt (by decide) fits _ _, (OnlyRegs.refl _ s).wrs _ _ (by simp +decide)⟩
  simp (disch := decide) only [State.wrs, State.rd_wr_sep, State.rd_wr_lt]

section
variable {up job : Bool} {q : List (Nat × Bool × Bool)}

/-- The request at the head of the queue, with no transition in progress. -/
theorem execDomainTransitionStart_head (head : s.pwrQ = (d, up, job) :: q) (idle : s.pwr.trans = none) :
    exec .domainTransitionStart s = .next (
      if (s.withQ q).domOn d = up then (s.withQ q).reqDone d up
      else if (s.withQ q).domRefusal d up job ≠ 0 then
        if job && up && (s.withQ q).domRefusal d up job != 3 then
          (((s.withQ q).reqDone d up).refuse d up ((s.withQ q).domRefusal d up job)).otpwRefused
        else ((s.withQ q).reqDone d up).refuse d up ((s.withQ q).domRefusal d up job)
      else (s.withQ q).transStart d up job) := by
  show execDomainTransitionStart s = _
  unfold execDomainTransitionStart
  rw [head]
  exact congrArg Host.Outcome.next (if_neg (by simp [idle]))

theorem execDomainTransitionStart_done (head : s.pwrQ = (d, up, job) :: q) (idle : s.pwr.trans = none) (there : s.domOn d = up) :
    exec .domainTransitionStart s = .next ((s.withQ q).reqDone d up) :=
  (execDomainTransitionStart_head head idle).trans (congrArg Host.Outcome.next (if_pos there))

theorem execDomainTransitionStart_starts (head : s.pwrQ = (d, up, job) :: q) (idle : s.pwr.trans = none) (off : s.domOn d ≠ up)
    (may : s.domRefusal d up job = 0) : exec .domainTransitionStart s = .next ((s.withQ q).transStart d up job) :=
  (execDomainTransitionStart_head head idle).trans (congrArg Host.Outcome.next ((if_neg off).trans (if_neg (not_not.2 may))))

theorem execDomainTransitionStart_refused (head : s.pwrQ = (d, up, false) :: q) (idle : s.pwr.trans = none) (off : s.domOn d ≠ up)
    (bars : s.domRefusal d up false ≠ 0) :
    exec .domainTransitionStart s = .next (((s.withQ q).reqDone d up).refuse d up (s.domRefusal d up false)) :=
  (execDomainTransitionStart_head head idle).trans
    (congrArg Host.Outcome.next ((if_neg off).trans ((if_pos bars).trans (if_neg Bool.false_ne_true))))

end

theorem State.domRefusal_otpw (s : State) (job : Bool) : s.domRefusal dOtpw true job = if job = true ∧ s.otpwWanted = true then 0 else 3 := by
  unfold State.domRefusal
  cases job <;> cases s.otpwWanted <;> simp [dOtpw, dLink, dCan]

theorem State.transStart_up (s : State) (d : Nat) (job : Bool) :
    s.transStart d true job = (s.transBusy d).withTrans (some (d, true, job)) := rfl

theorem State.transStart_down (s : State) (d : Nat) (job : Bool) :
    s.transStart d false job = ({ s.wrs 0 [(R.PWR_STATUS_BUSY, 1), (R.PWR_DOM_STATE_BUSY, 2 ^ d)] with pwr.trans := some (d, false, job) } : State).domDown d := by
  unfold State.transStart
  exact if_neg Bool.false_ne_true

/-! ### The end of a transition (R62, R63, R102) -/

/-- The registers at the end of a transition: it is over, and has succeeded (`ok`). -/
def State.transOver (s : State) : State := s.wrs 0 [(R.PWR_STATUS_BUSY, 0), (R.PWR_DOM_STATE_BUSY, 0), (R.PWR_IRQ_DOM_DONE, 1)]

theorem State.transEnd_eq (s : State) (d : Nat) (up : Bool) :
    s.transEnd d up = ((s.withTrans none).transOver).clrBits (reqFld up) 0 (2 ^ d) := (State.reqDone_eq _ d up : _)

theorem reqFld_apart (up : Bool) : ∀ f ∈ [R.PWR_STATUS_BUSY, R.PWR_IRQ_DOM_DONE], (reqFld up).apart 0 f 0 := by
  cases up <;> decide

theorem State.transEnd_shows (s : State) (d : Nat) (up : Bool) : (s.transEnd d up).rd R.PWR_STATUS_BUSY 0 = 0 ∧
    (s.transEnd d up).rd R.PWR_IRQ_DOM_DONE 0 = 1 ∧ (s.transEnd d up).pwr = { s.pwr with trans := none } ∧
    OnlyRegs [R.PWR_STATUS_BUSY.at 0, R.PWR_DOM_STATE_BUSY.at 0, R.PWR_IRQ_DOM_DONE.at 0, (reqFld up).at 0] s { s.transEnd d up with pwr := s.pwr } := by
  have busy : (s.withTrans none).transOver.rd R.PWR_STATUS_BUSY 0 = 0 := by
    unfold State.transOver
    simp (disch := decide) only [State.wrs, State.rd_wr_sep, State.rd_wr_lt]
  have done : (s.withTrans none).transOver.rd R.PWR_IRQ_DOM_DONE 0 = 1 := State.rd_wr_lt (by decide) (by decide) _ _
  have only : OnlyRegs [R.PWR_STATUS_BUSY.at 0, R.PWR_DOM_STATE_BUSY.at 0, R.PWR_IRQ_DOM_DONE.at 0, (reqFld up).at 0] (s.withTrans none)
      (s.withTrans none).transOver := (OnlyRegs.refl _ _).wrs _ _ (by simp +decide)
  rw [State.transEnd_eq, State.clrBits]
  have all := only.wr (reqFld up) 0 ((s.withTrans none).transOver.rd (reqFld up) 0 - ((s.withTrans none).transOver.rd (reqFld up) 0 &&& 2 ^ d)) (reqFld_ok up) (by simp)
  refine ⟨?_, ?_, all.pwr, all.fromTrans⟩
  · exact (State.rd_wr_ne _ _ _ _ _ _ (reqFld_ok up) (by decide) (reqFld_apart up _ (by simp))).trans busy
  · exact (State.rd_wr_ne _ _ _ _ _ _ (reqFld_ok up) (by decide) (reqFld_apart up _ (by simp))).trans done

theorem State.entryCheck_running (run : s.pwr.mode ≠ .entry) : s.entryCheck = s := if_neg (by simp [run])

theorem PwrSame.lnkPort (h : PwrSame s t) (p : Ch) (v : Nat) (f : LinkPort → LinkPort) (q : Prop) [Decidable q] :
    PwrSame s (if q then ((t.wr R.LNK_CFG_RATE p.val v).modLp p f).wr R.LNK_STATUS_STATE p.val 0 else (t.wr R.LNK_CFG_RATE p.val v).modLp p f) := by
  have rate : ∀ p : Ch, R.LNK_CFG_RATE.addr p.val ≠ 0x228 := by decide
  have state : ∀ p : Ch, R.LNK_STATUS_STATE.addr p.val ≠ 0x228 := by decide
  have k : PwrSame s ((t.wr R.LNK_CFG_RATE p.val v).modLp p f) := show PwrSame s (t.wr R.LNK_CFG_RATE p.val v) from h.wr (rate p) v
  exact .ite (k.wr (state p) 0) k

theorem PwrSame.forCh (h : PwrSame s t) {f : Ch → State → State} (k : ∀ n u, PwrSame s u → PwrSame s (f n u)) : PwrSame s (t.forCh f) :=
  k 3 _ (k 2 _ (k 1 _ (k 0 _ h)))

theorem PwrSame.withOtp (h : PwrSame s t) (o : Otp) : PwrSame s (t.withOtp o) := h

theorem PwrSame.otpPassPause (h : PwrSame s t) : PwrSame s t.otpPassPause := by
  unfold State.otpPassPause
  exact .ite ((h.wr (f := R.OTP_STATUS_PASS_BUSY) (i := 0) (by decide) 0).withOtp _) h

/-- What a domain brings along when it comes on leaves the power manager alone. -/
theorem State.domUp_pwrSame (s : State) (d : Nat) : PwrSame (s.orBits R.PWR_DOM_STATE_ON 0 (2 ^ d)) (s.domUp d) := by
  have same := PwrSame.refl (s.orBits R.PWR_DOM_STATE_ON 0 (2 ^ d))
  unfold State.domUp
  refine .ite (.forCh (same.wr (by decide) 1) fun p u h => ?_) (.ite (.ite same.otpNet.otpCan same.otpNet) (.ite same.otpPassPause same))
  exact h.lnkPort p _ _ _

theorem State.domUp_on (s : State) {d : Nat} (lt : d < 8) : (s.domUp d).domOn d = true := by
  have on := State.bit_orBits (f := R.PWR_DOM_STATE_ON) (by decide) s 0 d (Nat.pow_lt_pow_right (by decide) lt)
  rw [State.domOn, State.bit, (s.domUp_pwrSame d).2]
  exact on

theorem PwrSame.putOfs (h : PwrSame s t) (n : Ch) {f : Fld} (other : ∀ n : Ch, f.addr n.val ≠ 0x228) (v : Int) : PwrSame s (t.putOfs n f v) :=
  h.wr (other n) _

theorem State.readyOffsets_pwr (s : State) (d : Nat) (a b c : Int) : (s.readyOffsets d a b c).pwr = s.pwr := by
  unfold State.readyOffsets
  split
  · unfold State.putOffsets
    have first := (PwrSame.refl s).putOfs ⟨d, ‹_›⟩ (f := R.ADC_OFS_A_OFS) (by decide) a
    have second : PwrSame s (if s.run R.CH_MODE_SENSE d = 2 then s.putOfs ⟨d, ‹_›⟩ R.ADC_OFS_A_OFS a
      else (s.putOfs ⟨d, ‹_›⟩ R.ADC_OFS_A_OFS a).putOfs ⟨d, ‹_›⟩ R.ADC_OFS_B_OFS b) := .ite first (first.putOfs _ (by decide) b)
    have third := PwrSame.ite (p := s.run R.CH_MODE_SENSE d = 0) (second.putOfs ⟨d, ‹_›⟩ (f := R.ADC_OFS_C_OFS) (by decide) c) second
    exact (PwrSame.ite (third.trans ((Settled.refl [] _).raise _ 0).pwrSame) third).1
  · rfl

theorem execDomainReady_on {job : Bool} (moving : s.pwr.trans = some (d, true, job)) (run : s.pwr.mode ≠ .entry) (a b c : Int) :
    exec (.domainReady a b c) s = .next (((s.transEnd d true).domUp d).readyOffsets d a b c).settleAll := by
  obtain ⟨-, -, pwr, -⟩ := s.transEnd_shows d true
  have same : (((s.transEnd d true).domUp d).readyOffsets d a b c).pwr.mode = s.pwr.mode := by
    rw [State.readyOffsets_pwr, ((s.transEnd d true).domUp_pwrSame d).1, State.orBits_pwr]
    rw [pwr]
  show execDomainReady a b c s = _
  unfold execDomainReady
  rw [moving]
  show Host.Outcome.next (State.entryCheck _).settleAll = _
  rw [State.entryCheck_running (same ▸ run)]

theorem execDomainOffComplete_off {job : Bool} (moving : s.pwr.trans = some (d, false, job)) (other : d ≠ dOtpw) (run : s.pwr.mode ≠ .entry) :
    exec .domainOffComplete s = .next (s.transEnd d false) := by
  obtain ⟨-, -, pwr, -⟩ := s.transEnd_shows d false
  have same : (s.transEnd d false).pwr.mode = s.pwr.mode := by rw [pwr]
  show execDomainOffComplete s = _
  unfold execDomainOffComplete
  rw [moving]
  show Host.Outcome.next (State.entryCheck (if d = dOtpw then _ else _)) = _
  rw [if_neg other, State.entryCheck_running (same ▸ run)]

/-- A domain that is not ready in time, before the report of the fault: its transition is over, a lock of the link PLL is gone with its domain. -/
def State.givenUp (s : State) (d : Nat) : State :=
  (((s.withTrans none).wrs 0 [(R.PWR_STATUS_BUSY, 0), (R.PWR_DOM_STATE_BUSY, 0)]).clrBits R.PWR_DOM_ON_REQ 0 (2 ^ d)).wr R.CLK_STATUS_LINKPLL_LOCK 0
    (if d = dLink then 0
      else (((s.withTrans none).wrs 0 [(R.PWR_STATUS_BUSY, 0), (R.PWR_DOM_STATE_BUSY, 0)]).clrBits R.PWR_DOM_ON_REQ 0 (2 ^ d)).rd R.CLK_STATUS_LINKPLL_LOCK 0)

theorem State.givenUp_shows (s : State) (d : Nat) : (s.givenUp d).rd R.PWR_STATUS_BUSY 0 = 0 ∧
    OnlyRegs [R.PWR_STATUS_BUSY.at 0, R.PWR_DOM_STATE_BUSY.at 0, R.PWR_DOM_ON_REQ.at 0, R.CLK_STATUS_LINKPLL_LOCK.at 0] (s.withTrans none) (s.givenUp d) := by
  unfold State.givenUp
  refine ⟨?_, ((OnlyRegs.wrs (OnlyRegs.refl _ _) 0 _ (by simp +decide)).wr _ _ _ (by decide) (by decide)).wr _ _ _ (by decide) (by decide)⟩
  rw [State.rd_wr_sep _ _ _ _ _ (by decide), State.clrBits]
  simp (disch := decide) only [State.wrs, State.rd_wr_sep, State.rd_wr_lt]

theorem execDomFailTimeout_up (moving : s.pwr.trans = some (d, true, false)) (run : s.pwr.mode ≠ .entry) :
    exec .domFailTimeout s = .next ((s.givenUp d).raise srcDomFail 0).settleAll := by
  have same : ((s.givenUp d).raise srcDomFail 0).pwr.mode = s.pwr.mode := by
    rw [((Settled.refl [] (s.givenUp d)).raise srcDomFail 0).pwrSame.1]
    rfl
  show execDomFailTimeout s = _
  unfold execDomFailTimeout
  rw [moving]
  show Host.Outcome.next (State.entryCheck ((s.givenUp d).raise srcDomFail 0)).settleAll = _
  rw [State.entryCheck_running (same ▸ run)]

theorem domainTransition_none (idle : s.pwr.trans = none) : (∀ a b c, exec (.domainReady a b c) s = .next s) ∧
    exec .domainOffComplete s = .next s ∧ exec .domFailTimeout s = .next s := by
  refine ⟨fun a b c => ?_, ?_, ?_⟩
  · show execDomainReady a b c s = _
    rw [execDomainReady, idle]
  · show execDomainOffComplete s = _
    rw [execDomainOffComplete, idle]
  · show execDomFailTimeout s = _
    rw [execDomFailTimeout, idle]

end

/-- Settles O24. -/
theorem domainsSwitch : Obligations.DomainsSwitch := by
  unfold Obligations.DomainsSwitch
  intro s
  refine ⟨fun w run on => ⟨?_, ?_⟩, fun w off => ⟨?_, ?_⟩, fun empty => ?_, fun d job q lt head idle off may => ?_, fun d job q lt head idle on may => ?_,
    fun d up q lt head idle off bars => ?_, State.domRefusal_otpw s, fun d up job q lt head idle there => ?_, fun d job a b c lt moving run => ?_,
    fun d job lt other moving run => ?_, fun d lt moving run => ?_, domainTransition_none⟩
  · exact ⟨s.domRequest true w.toNat, rfl, State.domRequest_acts true w run on⟩
  · exact ⟨s.domRequest false w.toNat, rfl, State.domRequest_acts false w run on⟩
  · exact congrArg Host.Outcome.next (State.domRequest_closed off)
  · exact congrArg Host.Outcome.next (State.domRequest_closed off)
  · show execDomainTransitionStart s = _
    rw [execDomainTransitionStart, empty]
  · obtain ⟨busy, dom, only⟩ := (s.withQ q).transBusy_shows lt
    obtain ⟨queue, trans, chan, only⟩ := only.started (some (d, true, job))
    refine ⟨((s.withQ q).transBusy d).withTrans (some (d, true, job)), ?_, queue, trans, ?_, ?_, chan, only⟩
    · rw [execDomainTransitionStart_starts head idle (by simp [off]) may, State.transStart_up]
    · rw [State.rd_withTrans, busy]
    · rw [State.rd_withTrans, dom]
  · have start : exec .domainTransitionStart s = .next (({ s with pwrQ := q } : State).transStart d false job) :=
      execDomainTransitionStart_starts head idle (by simp [on]) may
    rw [start, State.transStart_down]
  · obtain ⟨valid, target, dir, cause, irq, only⟩ := ((s.withQ q).reqDone d up).refuse_shows (Nat.lt_trans lt (by decide)) up (s.domRefusal_lt d up false)
    obtain ⟨queue, trans, refused⟩ := s.refused_rest q d up (s.domRefusal d up false)
    refine ⟨_, execDomainTransitionStart_refused head idle (by simp [off]) bars, queue, trans.trans idle, valid, target, dir, cause, irq, refused⟩

  · obtain ⟨clear', only⟩ := (s.withQ q).reqDone_shows d up
    exact ⟨_, execDomainTransitionStart_done head idle there, only.pwrQ, clear', only.fromQ⟩
  · obtain ⟨busy, done, -, -⟩ := s.transEnd_shows d true
    exact ⟨execDomainReady_on moving run a b c, State.domUp_on _ lt, done, busy⟩
  · obtain ⟨busy, done, pwr, only⟩ := s.transEnd_shows d false
    exact ⟨s.transEnd d false, execDomainOffComplete_off moving other run, congrArg Pwr.trans pwr, busy, done, only⟩
  · obtain ⟨busy, only⟩ := s.givenUp_shows d
    have settled := ((Settled.refl [] (s.givenUp d)).raise srcDomFail 0).settleAll
    refine ⟨_, execDomFailTimeout_up moving run, ?_, (settled.rd _ _ (by decide) (by decide)).trans busy, (only.settled.raise _ _).settleAll⟩
    rw [settled.pwrSame.1]
    rfl

end Sys2Proof.Machine

/-! SUPPORT. O35: the records of the jobs while they start, pause and end. -/

namespace Sys2Proof.Machine

section
variable {s t : State} {k : Fin 16} {n : Ch}

/-! ### What leaves the records of the jobs alone -/

theorem State.job_of_jobs (h : t.jobs = s.jobs) (k : Fin 16) : t.job k = s.job k := congrArg (fun v : Vector Job 16 => v.get k) h

theorem State.rd_setJob (s : State) (k : Fin 16) (j : Job) (f : Fld) (i : Nat) : (s.setJob k j).rd f i = s.rd f i := rfl

theorem State.ch_setJob (s : State) (k : Fin 16) (j : Job) (n : Ch) : (s.setJob k j).ch n = s.ch n := rfl

theorem jobs_ite {p : Prop} [Decidable p] {a b : State} (ha : a.jobs = s.jobs) (hb : b.jobs = s.jobs) : (if p then a else b).jobs = s.jobs := by
  split <;> assumption

theorem State.onTarget_jobs (s : State) (i : Nat) {f : Ch → State → State} (h : ∀ n, (f n s).jobs = s.jobs) : (s.onTarget i f).jobs = s.jobs := by
  unfold State.onTarget
  split
  · exact h _
  · rfl

theorem State.orBits_jobs (s : State) (f : Fld) (i m : Nat) : (s.orBits f i m).jobs = s.jobs := rfl

theorem State.incWrap_jobs (s : State) (f : Fld) (i : Nat) : (s.incWrap f i).jobs = s.jobs := rfl

theorem State.inc_jobs (s : State) (f : Fld) (i : Nat) : (s.inc f i).jobs = s.jobs := by
  unfold State.inc
  exact jobs_ite (s.wr_jobs _ _ _) rfl

theorem State.grvEvent_jobs (s : State) (n : Ch) (b : Nat) : (s.grvEvent n b).jobs = s.jobs := by
  unfold State.grvEvent State.whenCh
  exact jobs_ite (s.orBits_jobs _ _ _) rfl

theorem State.jobEvent_jobs (s : State) (o : Nat) : (s.jobEvent o).jobs = s.jobs := by
  unfold State.jobEvent
  exact jobs_ite (s.grvEvent_jobs 0 10) (jobs_ite (s.grvEvent_jobs 1 10) (jobs_ite (s.grvEvent_jobs 2 10) (jobs_ite (s.grvEvent_jobs 3 10) rfl)))

theorem State.freed_jobs (s : State) (ing : Nat) (p : Pkt) : (s.freed ing p).jobs = s.jobs := by
  unfold State.freed
  split <;> rfl

theorem State.egress_jobs (s : State) (p ing : Nat) (b : Bool) (q : Pkt) : (s.egress p ing b q).jobs = s.jobs := by
  unfold State.egress
  split <;> rfl

theorem foldl_jobs {α : Type} {f : State → α → State} (h : ∀ s a, (f s a).jobs = s.jobs) (l : List α) (s : State) : (l.foldl f s).jobs = s.jobs := by
  induction l generalizing s with
  | nil => rfl
  | cons a l ih => exact (ih _).trans (h s a)

theorem State.goOut_jobs (s : State) (ing : Nat) (l : List Nat) (p : Pkt) : (s.goOut ing l p).jobs = s.jobs := by
  cases l with
  | nil => exact s.freed_jobs ing p
  | cons q l => exact (foldl_jobs (fun s a => s.egress_jobs a ing false p) l _).trans (s.egress_jobs q ing true p)

theorem State.go_jobs (s : State) (ing : Nat) (w : Way) : (s.go ing w).jobs = s.jobs := by
  cases w with
  | drop c p => rfl
  | ports l me p => exact jobs_ite (s.goOut_jobs ing l p) (s.goOut_jobs ing l p)

theorem State.answer_jobs (s : State) (p : Pkt) (c : Nat) : (s.answer p c).jobs = s.jobs := by
  unfold State.answer
  extract_lets r
  split
  · exact s.go_jobs _ _
  · rfl

theorem State.dropNote_jobs (s : State) (ing c : Nat) (p : Pkt) : (s.dropNote ing c p).jobs = s.jobs := by
  unfold State.dropNote
  extract_lets u
  have noted : u.jobs = s.jobs := (State.wr_jobs _ _ _ _).trans (s.inc_jobs _ _)
  clear_value u
  exact jobs_ite noted ((u.wrs_jobs _ _).trans noted)

theorem State.arrive_jobs (s : State) (ing : Nat) (p : Pkt) : (s.arrive ing p).jobs = s.jobs := by
  unfold State.arrive
  exact jobs_ite (jobs_ite (s.answer_jobs p 5) (s.dropNote_jobs ing 3 p)) (jobs_ite ((State.answer_jobs _ p 4).trans (s.inc_jobs _ _)) rfl)

theorem State.route_jobs (s : State) (ing : Nat) (p : Pkt) : (s.route ing p).jobs = s.jobs := by
  unfold State.route
  split
  · next l me q e => exact jobs_ite ((State.arrive_jobs _ ing q).trans (s.goOut_jobs ing l q)) (s.goOut_jobs ing l q)
  · next c q e =>
    have dropped : ((s.dropNote ing c q).freed ing q).jobs = s.jobs := (State.freed_jobs _ ing q).trans (s.dropNote_jobs ing c q)
    exact jobs_ite dropped ((State.answer_jobs _ q 1).trans ((State.inc_jobs _ _ _).trans dropped))

theorem State.send_jobs (s : State) (ing : Nat) (p : Pkt) : (s.send ing p).jobs = s.jobs := by
  unfold State.send
  exact jobs_ite (s.route_jobs ing p) rfl

theorem State.trcClose_jobs (s : State) (n : Ch) : (s.trcClose n).jobs = s.jobs := by
  unfold State.trcClose
  extract_lets t p h u
  have closed : u.jobs = s.jobs := s.modCh_jobs n _
  clear_value u
  refine jobs_ite rfl ?_
  split
  · exact (State.send_jobs _ _ _).trans ((u.incWrap_jobs R.TRCR_PKTS 0).trans closed)
  · exact closed

theorem State.diagStop_jobs (s : State) (n : Ch) : (s.diagStop n).jobs = s.jobs := (State.modCh_jobs _ _ _).trans (s.wrs_jobs _ _)

theorem State.homingStop_jobs (s : State) (n : Ch) : (s.homingStop n).jobs = s.jobs := by
  unfold State.homingStop
  extract_lets i u p
  have stopped : u.jobs = s.jobs := (State.modCh_jobs _ _ _).trans (s.wr_jobs _ _ _)
  clear_value u
  exact jobs_ite ((State.modCh_jobs _ _ _).trans ((u.wrs_jobs _ _).trans stopped)) ((u.wr_jobs _ _ _).trans stopped)

theorem State.enumStop_jobs (s : State) : s.enumStop.jobs = s.jobs := by
  unfold State.enumStop
  exact (State.wr_jobs _ _ _ _).trans (show State.jobs { s with fab := _ } = s.jobs from rfl)

theorem State.cmpStart_jobs (s : State) (n : Ch) (c : Nat) : (s.cmpStart n c).jobs = s.jobs := by
  unfold State.cmpStart
  extract_lets i
  exact jobs_ite (jobs_ite rfl rfl) (jobs_ite rfl (jobs_ite rfl rfl))

theorem State.jobStop_jobs (s : State) (k : Fin 16) : (s.jobStop k).jobs = s.jobs := by
  have otp : ({ s with pwrQ := s.pwrQ ++ [(dOtpw, false, true)] } : State).jobs = s.jobs := rfl
  unfold State.jobStop
  extract_lets j
  refine jobs_ite rfl ?_
  split
  · next h =>
    refine jobs_ite (s.diagStop_jobs _) (jobs_ite (jobs_ite ((State.cmpStart_jobs _ _ _).trans (s.wr_jobs _ _ _)) rfl)
      (jobs_ite (s.homingStop_jobs _) (jobs_ite ((State.wrs_jobs _ _ _).trans (s.trcClose_jobs _)) (jobs_ite otp (jobs_ite s.enumStop_jobs (jobs_ite ?_ rfl))))))
    exact jobs_ite ((State.wrs_jobs _ _ _).trans (s.modLp_jobs _ _)) (s.modLp_jobs _ _)
  · exact jobs_ite otp (jobs_ite s.enumStop_jobs rfl)

/-! ### The end of a job (R337) -/

/-- The record of a job at its end. -/
def State.endedJob (s : State) (k : Fin 16) (st : JobSt) (cause : Nat) : Job :=
  { ((s.job k).enter s.now st) with cause := cause, progress := if st = .done then 100 else s.jobPct (s.job k) }

theorem State.jobEnd_eq (s : State) (k : Fin 16) (st : JobSt) (cause : Nat) :
    s.jobEnd k st cause = ((s.setJob k (s.endedJob k st cause)).orBits R.JOB_IRQ_ENDED 0 (2 ^ k.val)).jobEvent (s.job k).origin := rfl

theorem State.jobEnd_jobs (s : State) (k : Fin 16) (st : JobSt) (cause : Nat) : (s.jobEnd k st cause).jobs = (s.setJob k (s.endedJob k st cause)).jobs :=
  State.jobEvent_jobs _ _

theorem State.jobEnd_self (s : State) (k : Fin 16) (st : JobSt) (cause : Nat) : (s.jobEnd k st cause).job k = s.endedJob k st cause :=
  (State.job_of_jobs (s.jobEnd_jobs k st cause) k).trans (s.job_setJob_self k _)

theorem State.jobEnd_other (s : State) (k : Fin 16) (st : JobSt) (cause : Nat) {q : Fin 16} (h : q ≠ k) : (s.jobEnd k st cause).job q = s.job q :=
  (State.job_of_jobs (s.jobEnd_jobs k st cause) q).trans (s.job_setJob_ne h _)

/-- The event of a job's end reaches the core that started it, and nothing else. -/
theorem State.jobEvent_cases (s : State) (o : Nat) : s.jobEvent o = s ∨ ∃ n : Ch, s.jobEvent o = s.grvEvent n 10 := by
  unfold State.jobEvent
  split
  · exact .inr ⟨0, rfl⟩
  split
  · exact .inr ⟨1, rfl⟩
  split
  · exact .inr ⟨2, rfl⟩
  split
  · exact .inr ⟨3, rfl⟩
  · exact .inl rfl

/-- The fields that the end of a job writes beside its record. -/
def endFields : List (Nat × Word) :=
  [R.JOB_IRQ_ENDED.at 0, R.GRV_EVT_PEND.at 0, R.GRV_EVT_PEND.at 1, R.GRV_EVT_PEND.at 2, R.GRV_EVT_PEND.at 3]

theorem endFields_evt : ∀ n : Ch, R.GRV_EVT_PEND.at n.val ∈ endFields := by decide

theorem OnlyRegs.jobEvent {l : List (Nat × Word)} (h : OnlyRegs l s t) (c : ∀ n : Ch, R.GRV_EVT_PEND.at n.val ∈ l) (o : Nat) : OnlyRegs l s (t.jobEvent o) := by
  rcases t.jobEvent_cases o with e | ⟨n, e⟩
  · rw [e]
    exact h
  · rw [e]
    exact h.grvEvent n 10 (c n)

theorem State.rd_jobEvent (s : State) (o : Nat) {f : Fld} (hf : f.ok) (i : Nat)
    (apart : f.mask &&& maskAt [R.GRV_EVT_PEND.at 0, R.GRV_EVT_PEND.at 1, R.GRV_EVT_PEND.at 2, R.GRV_EVT_PEND.at 3] (f.addr i) = 0#32) :
    (s.jobEvent o).rd f i = s.rd f i :=
  ((OnlyRegs.refl _ s).jobEvent (by decide) o).1.rd f i hf apart

theorem OnlyRegs.fromJob {l : List (Nat × Word)} {j : Job} (h : OnlyRegs l (s.setJob k j) t) : OnlyRegs l s { t with jobs := s.jobs } :=
  ⟨h.1, h.2.1, show ({ t.rest with jobs := s.jobs } : State) = s.rest by rw [h.2.2]; rfl⟩

theorem State.jobEnd_only (s : State) (k : Fin 16) (st : JobSt) (cause : Nat) : OnlyRegs endFields (s.setJob k (s.endedJob k st cause)) (s.jobEnd k st cause) :=
  ((OnlyRegs.refl _ _).wr R.JOB_IRQ_ENDED 0 _ (by decide) (by decide)).jobEvent endFields_evt _

theorem State.jobEnd_shows (s : State) (k : Fin 16) (st : JobSt) (cause : Nat) : ((s.jobEnd k st cause).job k).st = st ∧
    ((s.jobEnd k st cause).job k).cause = cause ∧ (s.jobEnd k st cause).bit R.JOB_IRQ_ENDED 0 k.val = true ∧
    (∀ q, q ≠ k → (s.jobEnd k st cause).job q = s.job q) ∧ OnlyRegs endFields s { s.jobEnd k st cause with jobs := s.jobs } := by
  have bit := State.bit_orBits (f := R.JOB_IRQ_ENDED) (by decide) (s.setJob k (s.endedJob k st cause)) 0 k.val (Nat.pow_lt_pow_right (by decide) k.isLt)
  refine ⟨?_, ?_, ?_, fun q h => s.jobEnd_other k st cause h, (s.jobEnd_only k st cause).fromJob⟩
  · rw [s.jobEnd_self]
    rfl
  · rw [s.jobEnd_self]
    rfl
  · rw [State.jobEnd_eq, State.bit, State.rd_jobEvent _ _ (by decide) _ (by decide)]
    exact bit

/-- What the end of a job leaves of the registers. -/
theorem State.rd_jobEnd (s : State) (k : Fin 16) (st : JobSt) (cause : Nat) {f : Fld} (hf : f.ok) (i : Nat)
    (apart : f.mask &&& maskAt endFields (f.addr i) = 0#32) : (s.jobEnd k st cause).rd f i = s.rd f i :=
  (s.jobEnd_shows k st cause).2.2.2.2.1.rd f i hf apart

theorem State.ch_jobEnd (s : State) (k : Fin 16) (st : JobSt) (cause : Nat) (n : Ch) : (s.jobEnd k st cause).ch n = s.ch n :=
  congrArg (fun v : Vector Chan 4 => v.get n) (s.jobEnd_only k st cause).chan

/-- A job that fails: its record is the one it had, with what its failure shows. -/
theorem State.jobFail_shows (s : State) (k : Fin 16) (cause : Nat) : ((s.jobFail k cause).job k).st = .failed ∧
    ((s.jobFail k cause).job k).cause = cause ∧ (s.jobFail k cause).bit R.JOB_IRQ_ENDED 0 k.val = true ∧
    ((s.jobFail k cause).job k).detail = (s.job k).detail := by
  obtain ⟨st, shows, irq, -, -⟩ := ((s.setJob k { s.job k with progress := s.jobPct (s.job k) }).jobStop k).jobEnd_shows k .failed cause
  refine ⟨st, shows, irq, ?_⟩
  have before := State.job_of_jobs ((s.setJob k { s.job k with progress := s.jobPct (s.job k) }).jobStop_jobs k) k
  rw [State.job_setJob_self] at before
  unfold State.jobFail
  rw [State.jobEnd_self, State.endedJob, before]
  rfl

/-! ### Dispatch (R333, R337) -/

theorem State.jobNext_iff (s : State) (k : Fin 16) : s.jobNext k = true ↔ (s.job k).st = .queued ∧ s.holder (s.job k).resource = none ∧
    ((s.job k).typ = jReenum → s.rd R.FAB_STATUS_ENUM_BUSY 0 = 0) ∧
    ∀ q ∈ s.jobs.toList, q.st = .queued → q.resource = (s.job k).resource → (s.job k).seq ≤ q.seq := by
  unfold State.jobNext
  simp only [Bool.and_eq_true, beq_iff_eq, Option.isNone_iff_eq_none, Bool.or_eq_true, bne_iff_ne, List.all_eq_true, Bool.not_eq_true', Bool.and_eq_false_imp,
    decide_eq_true_eq, decide_eq_false_iff_not, Nat.not_lt, and_imp, and_assoc, State.off_iff, ne_eq, ← imp_iff_not_or]

/-- What entering RUNNING does leaves the records of the jobs alone. -/
theorem State.jobEntered_jobs (s : State) {j : Job} (walk : j.typ ≠ jReenum) : (s.jobEntered j).jobs = s.jobs := by
  have trace (n : Ch) (x : Nat) : (s.trcStart n x).jobs = s.jobs := by
    unfold State.trcStart
    extract_lets i u v late
    have cleared : u.jobs = s.jobs := s.wrs_jobs _ _
    clear_value u
    have active : v.jobs = s.jobs := (u.wrs_jobs _ _).trans cleared
    clear_value v
    exact (State.modCh_jobs _ _ _).trans ((v.modCh_jobs _ _).trans active)
  unfold State.jobEntered
  rw [if_neg walk]
  refine jobs_ite (s.onTarget_jobs _ fun n => (State.modCh_jobs _ _ _).trans (s.wrs_jobs _ _)) (jobs_ite (s.wrs_jobs _ _)
    (jobs_ite (s.onTarget_jobs _ fun n => (State.modCh_jobs _ _ _).trans (s.wr_jobs _ _ _))
      (jobs_ite (s.onTarget_jobs _ fun n => (State.modCh_jobs _ _ _).trans ((State.modCh_jobs _ _ _).trans (s.wr_jobs _ _ _)))
        (jobs_ite (s.onTarget_jobs _ fun n => trace n _)
          (jobs_ite (s.onTarget_jobs _ fun n => (State.modLp_jobs _ _ _).trans (s.wrs_jobs _ _)) rfl)))))

/-- The state of a job that has been dispatched. -/
def State.started (s : State) (k : Fin 16) (j : Job) : State := (s.setJob k (j.enter s.now .running)).jobEntered j

theorem State.started_jobs (s : State) (k : Fin 16) {j : Job} (walk : j.typ ≠ jReenum) :
    ((s.started k j).job k).st = .running ∧ ∀ q, q ≠ k → (s.started k j).job q = s.job q := by
  have same := State.jobEntered_jobs (s.setJob k (j.enter s.now .running)) walk
  refine ⟨?_, fun q h => (State.job_of_jobs same q).trans (s.job_setJob_ne h _)⟩
  have record : (s.started k j).job k = j.enter s.now .running := (State.job_of_jobs same k).trans (s.job_setJob_self k _)
  rw [record]
  rfl

theorem State.jobEntered_diag (s : State) {j : Job} (typ : j.typ = jDiag) (lt : j.tgt < 4) : (s.jobEntered j).rd R.DIAG_STATUS_BUSY j.tgt = 1 ∧
    (s.jobEntered j).rd R.DIAG_STATUS_STEP j.tgt = 1 := by
  have entered : s.jobEntered j = (s.wrs j.tgt [(R.DIAG_RESULT_VALID, 0), (R.DIAG_STATUS_BUSY, 1), (R.DIAG_STATUS_STEP, 1)]).modCh ⟨j.tgt, lt⟩ fun c =>
      { c with diag := Diag.reset } := (if_pos typ).trans (dif_pos lt)
  rw [entered, State.rd_modCh, State.rd_modCh]
  simp (disch := decide) only [State.wrs, State.rd_wr_sep, State.rd_wr_lt, and_self]

theorem State.jobEntered_selftest (s : State) {j : Job} (typ : j.typ = jSelftest) : (s.jobEntered j).rd R.CMP_STATUS_SELFTEST_BUSY j.tgt = 1 := by
  have entered : s.jobEntered j = s.wrs j.tgt [(R.CMP_SELFTEST_VALID, 0), (R.CMP_SELFTEST_FAIL, 0), (R.CMP_STATUS_SELFTEST_BUSY, 1)] := by
    rw [State.jobEntered, if_neg (by rw [typ]; decide), if_pos typ]
  rw [entered]
  exact State.rd_wr_lt (by decide) (by decide) _ _

theorem State.jobEntered_homing (s : State) {j : Job} (typ : j.typ = jHoming) (lt : j.tgt < 4) : (s.jobEntered j).rd R.SPT_STATUS_HOMING j.tgt = 1 := by
  have entered : s.jobEntered j = ((s.wr R.SPT_STATUS_HOMING j.tgt 1).modCh ⟨j.tgt, lt⟩ fun c => { c with homeRun := true, homeSeen := false }).modSpt ⟨j.tgt, lt⟩
      fun t => { t with homeCap := false, homeRest := false, homeN := 0 } := by
    rw [State.jobEntered, if_neg (by rw [typ]; decide), if_neg (by rw [typ]; decide), if_neg (by rw [typ]; decide), if_pos typ]
    exact dif_pos lt
  rw [entered, State.modSpt, State.rd_modCh, State.rd_modCh]
  exact State.rd_wr_lt (by decide) (by decide) _ _

theorem execJobDispatch_starts {cold : Bool} (next : s.jobNext k = true) (typ : (s.job k).typ ≠ jOtp) (may : s.jobPrecond (s.job k) = 0) :
    exec (.jobDispatch k cold) s = .next (s.started k (s.job k)).settleAll :=
  congrArg Host.Outcome.next ((if_neg (by simp [next])).trans ((if_neg typ).trans (if_neg (not_not.2 may))))

theorem execJobDispatch_fails {cold : Bool} (next : s.jobNext k = true) (typ : (s.job k).typ ≠ jOtp) (bars : s.jobPrecond (s.job k) ≠ 0) :
    exec (.jobDispatch k cold) s = .next (s.jobEnd k .failed (s.jobPrecond (s.job k))).settleAll :=
  congrArg Host.Outcome.next ((if_neg (by simp [next])).trans ((if_neg typ).trans (if_pos bars)))

theorem execJobDispatch_waits {cold : Bool} (next : s.jobNext k = false) : exec (.jobDispatch k cold) s = .next s :=
  congrArg Host.Outcome.next (if_pos (by simp [next]))

/-! ### Suspend point and cancel (R337, R340) -/

theorem State.jobKeep_others {typ : (s.job k).typ ≠ jBert} (m : List Word) : s.jobKeep k m = s := if_neg typ

theorem State.jobPark_jobs (s : State) {j : Job} (bert : j.typ ≠ jBert) : (s.jobPark j).jobs = s.jobs := by
  have otp : ({ s with pwrQ := s.pwrQ ++ [(dOtpw, false, true)] } : State).jobs = s.jobs := rfl
  unfold State.jobPark
  rw [if_neg bert]
  exact jobs_ite (s.onTarget_jobs _ fun n => s.diagStop_jobs n) (jobs_ite (s.wr_jobs _ _ _) (jobs_ite (s.onTarget_jobs _ fun n =>
    (State.modCh_jobs _ _ _).trans ((State.wrs_jobs _ _ _).trans (s.trcClose_jobs n))) (jobs_ite otp rfl)))

/-- The state of a job at its suspend point. -/
def State.paused (s : State) (k : Fin 16) : State :=
  (((s.jobPark (s.job k)).setJob k (((s.jobPark (s.job k)).job k).enter (s.jobPark (s.job k)).now .suspended))).orBits R.JOB_IRQ_SUSPENDED 0 (2 ^ k.val)

theorem State.paused_jobs (s : State) (k : Fin 16) (bert : (s.job k).typ ≠ jBert) : ((s.paused k).job k).st = .suspended ∧
    (s.paused k).bit R.JOB_IRQ_SUSPENDED 0 k.val = true ∧ ∀ q, q ≠ k → (s.paused k).job q = s.job q := by
  have same := s.jobPark_jobs bert
  unfold State.paused
  generalize s.jobPark (s.job k) = u at same ⊢
  refine ⟨?_, State.bit_orBits (by decide) _ 0 k.val (Nat.pow_lt_pow_right (by decide) k.isLt), fun q h => ?_⟩
  · rw [State.job_orBits, State.job_setJob_self]
    rfl
  · rw [State.job_orBits, State.job_setJob_ne _ h]
    exact State.job_of_jobs same q

theorem State.diagStop_shows (s : State) (n : Ch) : (s.diagStop n).rd R.DIAG_STATUS_BUSY n.val = 0 ∧ ((s.diagStop n).ch n).diag.pulse = none := by
  refine ⟨?_, ?_⟩
  · unfold State.diagStop
    rw [State.rd_modCh]
    simp (disch := decide) only [State.wrs, State.rd_wr_sep, State.rd_wr_lt]
  · unfold State.diagStop
    rw [State.ch_modCh_self]

theorem State.jobPark_diag (s : State) {j : Job} (target : j.tgt = n.val) (typ : j.typ = jDiag ∨ j.typ = jGateChar) : s.jobPark j = s.diagStop n := by
  unfold State.jobPark
  rw [if_pos typ, target, State.onTarget_ch]

theorem State.paused_diag (s : State) (k : Fin 16) (target : (s.job k).tgt = n.val) (typ : (s.job k).typ = jDiag ∨ (s.job k).typ = jGateChar) :
    (s.paused k).rd R.DIAG_STATUS_BUSY n.val = 0 ∧ ((s.paused k).ch n).diag.pulse = none := by
  obtain ⟨busy, pulse⟩ := s.diagStop_shows n
  unfold State.paused
  rw [s.jobPark_diag target typ]
  generalize s.diagStop n = u at busy pulse ⊢
  have apart : ∀ n : Ch, R.JOB_IRQ_SUSPENDED.apart 0 R.DIAG_STATUS_BUSY n.val := by decide
  rw [State.orBits, State.rd_wr_ne _ _ _ _ _ _ (by decide) (by decide) (apart n), State.rd_setJob, State.ch_wr, State.ch_setJob]
  exact ⟨busy, pulse⟩

theorem execJobSuspendPoint_pauses {m : List (BitVec 32)} (st : (s.job k).st = .suspending) (ready : s.suspendReady (s.job k) = true)
    (bert : (s.job k).typ ≠ jBert) : exec (.jobSuspendPoint k m) s = .next (s.paused k).settleAll := by
  have keep : s.jobKeep k m = s := if_neg bert
  show execJobSuspendPoint k m s = _
  unfold execJobSuspendPoint
  extract_lets j u
  rw [if_pos (by simp [j, st, ready])]
  unfold State.paused
  simp only [u, j, keep]

theorem execJobSuspendPoint_waits {m : List (BitVec 32)} (h : (s.job k).st ≠ .suspending ∨ s.suspendReady (s.job k) = false) :
    exec (.jobSuspendPoint k m) s = .next s :=
  congrArg Host.Outcome.next (if_neg (by rcases h with h | h <;> simp [h]))

theorem execJobCancelComplete_ends {m : List (BitVec 32)} (st : (s.job k).st = .cancelling) (bert : (s.job k).typ ≠ jBert) :
    exec (.jobCancelComplete k m) s = .next (s.jobFail k 1).settleAll := by
  have keep : s.jobKeep k m = s := if_neg bert
  show execJobCancelComplete k m s = _
  unfold execJobCancelComplete
  extract_lets j u v
  rw [if_pos (by simp [j, st])]
  have same : v = s := (if_neg bert).trans keep
  rw [same]
  rfl

end

end Sys2Proof.Machine

/-! SUPPORT. O35: the work of a job ends, or fails. -/

namespace Sys2Proof.Machine

section
variable {s t : State} {k : Fin 16} {n : Ch} {m : List Word}

/-! ### Which work ends (R337) -/

theorem execJobWorkComplete_works (st : (s.job k).st = .running ∨ (s.job k).st = .suspending) :
    exec (.jobWorkComplete k m) s = .next (s.jobWork k m).settleAll :=
  congrArg Host.Outcome.next (if_pos (by rcases st with h | h <;> simp [h]))

theorem State.jobWork_gate (typ : (s.job k).typ = jGateChar) (target : (s.job k).tgt = n.val) (st : (s.job k).st = .running) :
    s.jobWork k m = s.gcWork k n m := by
  unfold State.jobWork
  extract_lets j i
  rw [show j.typ = jGateChar from typ, if_neg (by decide), if_neg (by decide), if_pos rfl, show i = n.val from target, State.onTarget_ch,
    if_neg (by simp [j, st])]

theorem State.jobWork_diag (typ : (s.job k).typ = jDiag) (target : (s.job k).tgt = n.val) (st : (s.job k).st = .running) :
    s.jobWork k m = s.diagWork k n m := by
  unfold State.jobWork
  extract_lets j i
  rw [show j.typ = jDiag from typ, if_neg (by decide), if_pos rfl, show i = n.val from target, State.onTarget_ch, if_neg (by simp [j, st])]

theorem State.jobWork_ident (typ : (s.job k).typ = jIdent) : s.jobWork k m = s.identWork k m := if_pos typ

/-- The registers of a comparator self-test that is done. -/
def State.selftested (s : State) (i : Nat) : State :=
  s.wrs i [(R.CMP_SELFTEST_VALID, 1), (R.CMP_IRQ_SELFTEST_DONE, 1), (R.CMP_STATUS_SELFTEST_BUSY, 0)]

/-- When a channel was tested last. -/
def State.withStest (s : State) (v : Vector Nat 4) : State := { s with rng.stest := v }

theorem State.jobWork_selftest (typ : (s.job k).typ = jSelftest) (st : (s.job k).st = .running) (done : (s.job k).work = 25) :
    s.jobWork k m = (((s.selftested (s.job k).tgt).withStest ((s.selftested (s.job k).tgt).rng.stest.set! (s.job k).tgt s.now)).stestShow).jobDone k := by
  unfold State.jobWork
  extract_lets j i u
  rw [show j.typ = jSelftest from typ, if_neg (by decide), if_neg (by decide), if_neg (by decide), if_neg (not_not.2 st), if_pos rfl, if_pos done]
  rfl

theorem State.jobWork_homing (typ : (s.job k).typ = jHoming) (target : (s.job k).tgt = n.val) (st : (s.job k).st = .running)
    (seen : (s.ch n).spt.homeCap = true) (rest : (s.ch n).spt.homeRest = true) :
    s.jobWork k m = ((s.homingStop n).wr R.SPT_STATUS_POS_VALID n.val 1).jobDone k := by
  unfold State.jobWork
  extract_lets j i
  rw [show j.typ = jHoming from typ, if_neg (by decide), if_neg (by decide), if_neg (by decide), if_neg (not_not.2 st), if_neg (by decide), if_pos rfl,
    show i = n.val from target, dif_pos n.isLt]
  exact if_pos (by simp [seen, rest])

/-- The types that complete their work in RUNNING only. -/
theorem State.jobWork_waits (st : (s.job k).st = .suspending) (high : 2 < (s.job k).typ) (gate : (s.job k).typ ≠ jGateChar) : s.jobWork k m = s := by
  have ident : (s.job k).typ ≠ jIdent := fun e => absurd high (by rw [e]; decide)
  have diag : (s.job k).typ ≠ jDiag := fun e => absurd high (by rw [e]; decide)
  unfold State.jobWork
  extract_lets j i
  rw [if_neg ident, if_neg diag, if_neg gate, if_pos (show (s.job k).st ≠ .running by rw [st]; decide)]

/-! ### GATE_CHAR (R189) -/

theorem OnlyChan.withJob {l : List (Nat × Word)} (h : OnlyChan n l s t) (j : Job) : OnlyChan n l s { t.setJob k j with jobs := s.jobs } :=
  ⟨h.1, h.2.1, show ({ ({ t with chan := s.chan } : State).rest with jobs := s.jobs } : State) = s.rest by rw [h.2.2.1]; rfl, h.2.2.2⟩

/-- The results of GATE_CHAR stand, and its job is done. -/
theorem State.gcDone_shows (s : State) (n : Ch) (k : Fin 16) : ((((s.gcResult n).diagStop n).jobEnd k .done 0).job k).st = .done ∧
    (((s.gcResult n).diagStop n).jobEnd k .done 0).rd R.DIAG_STATUS_BUSY n.val = 0 ∧
    ((((s.gcResult n).diagStop n).jobEnd k .done 0).ch n).diag.pulse = none := by
  obtain ⟨busy, pulse⟩ := (s.gcResult n).diagStop_shows n
  have apart : ∀ n : Ch, R.DIAG_STATUS_BUSY.mask &&& maskAt endFields (R.DIAG_STATUS_BUSY.addr n.val) = 0#32 := by decide
  refine ⟨(State.jobEnd_shows _ k .done 0).1, ?_, ?_⟩
  · rw [State.rd_jobEnd _ _ _ _ (by decide) _ (apart n)]
    exact busy
  · rw [State.ch_jobEnd]
    exact pulse

/-- The edges of a pulse join the others. -/
def State.gcPulse (s : State) (n : Ch) (m : List Word) (p : Option Nat) : State :=
  s.modCh n fun c => { c with diag := { c.diag with edges := c.diag.edges ++ [(min (m.getD 0 0#32).toNat 4095, min (m.getD 1 0#32).toNat 4095)], pulse := p } }

theorem State.gcWork_eq (more : (s.job k).work < 24) : s.gcWork k n m =
    let w := (s.job k).work + 1
    let u := (s.gcPulse n m (if w < 24 then some s.now else none)).setJob k
      { s.job k with work := w, progress := w * 100 / 24, ended := (s.job k).ended || decide (w % 4 = 0) }
    if 24 ≤ w ∧ (s.job k).st = .running then ((u.gcResult n).diagStop n).jobEnd k .done 0 else u := by
  unfold State.gcWork
  exact if_neg (Nat.not_le.2 more)

theorem State.gcWork_goes (more : (s.job k).work < 23) : s.gcWork k n m = (s.gcPulse n m (some s.now)).setJob k
    { s.job k with work := (s.job k).work + 1, progress := ((s.job k).work + 1) * 100 / 24, ended := (s.job k).ended || decide (((s.job k).work + 1) % 4 = 0) } := by
  have last : ¬(24 ≤ (s.job k).work + 1 ∧ (s.job k).st = .running) := by omega
  rw [State.gcWork_eq (by omega)]
  dsimp only
  rw [if_neg last, if_pos (show (s.job k).work + 1 < 24 by omega)]

/-- The last pulse, and a job that comes back for its results, end the job. -/
theorem State.gcWork_ends (st : (s.job k).st = .running) (last : 23 ≤ (s.job k).work) :
    ∃ u : State, s.gcWork k n m = ((u.gcResult n).diagStop n).jobEnd k .done 0 := by
  by_cases over' : 24 ≤ (s.job k).work
  · exact ⟨s, by
      unfold State.gcWork
      exact (if_pos over').trans (if_pos st)⟩
  · rw [State.gcWork_eq (by omega)]
    exact ⟨_, if_pos ⟨Nat.succ_le_succ last, st⟩⟩

theorem State.gcPulse_only (s : State) (n : Ch) (m : List Word) (p : Option Nat) : OnlyChan n [] s (s.gcPulse n m p) := (OnlyChan.refl n [] s).modCh _

/-! ### DIAG_OFFSTATE (R187, R188) -/

theorem State.diagWork_starts (work : (s.job k).work = 0) (high : f32Lt (m.getD 0 0#32) (f32OfNat 6) = false) :
    s.diagWork k n m = (s.modCh n fun c => { c with diag := { c.diag with vbus := m.getD 0 0#32 } }).diagNext k n := by
  unfold State.diagWork
  rw [work]
  exact if_neg (by simp only [high]; exact Bool.false_ne_true)

theorem State.diagWork_low (work : (s.job k).work = 0) (low : f32Lt (m.getD 0 0#32) (f32OfNat 6) = true) : s.diagWork k n m = s.diagPut k n 2 0 0 [] := by
  unfold State.diagWork
  rw [work]
  exact if_pos low

theorem State.diagNext_shows (s : State) (k : Fin 16) (n : Ch) : ((s.diagNext k n).job k).st = (s.job k).st ∧
    ((s.diagNext k n).job k).work = (s.job k).work + 1 ∧ (s.diagNext k n).ch n = s.ch n := by
  unfold State.diagNext
  extract_lets j w
  rw [State.job_wr, State.job_setJob_self, State.ch_wr, State.ch_setJob]
  exact ⟨rfl, rfl, rfl⟩

theorem State.diagPut_shows (s : State) (k : Fin 16) (n : Ch) {chan : Nat} (lt : chan < 4) (pairs opn : Nat) (l : List Word) (st : (s.job k).st ≠ .suspending) :
    ((s.diagPut k n chan pairs opn l).job k).st = .done ∧ (s.diagPut k n chan pairs opn l).rd R.DIAG_RESULT_VALID n.val = 1 ∧
    (s.diagPut k n chan pairs opn l).rd R.DIAG_RESULT_CHAN n.val = chan := by
  have fits : chan < R.DIAG_RESULT_CHAN.size := lt
  have valid : ∀ n : Ch, R.DIAG_RESULT_VALID.mask &&& maskAt endFields (R.DIAG_RESULT_VALID.addr n.val) = 0#32 := by decide
  have found : ∀ n : Ch, R.DIAG_RESULT_CHAN.mask &&& maskAt endFields (R.DIAG_RESULT_CHAN.addr n.val) = 0#32 := by decide
  unfold State.diagPut
  rw [if_neg st]
  extract_lets d u
  refine ⟨(State.jobEnd_shows _ k .done 0).1, ?_, ?_⟩
  · rw [State.rd_jobEnd _ _ _ _ (by decide) _ (valid n), State.diagStop, State.rd_modCh]
    simp (disch := decide) only [u, State.wrs, State.rd_wr_sep, State.rd_wr_lt]
  · rw [State.rd_jobEnd _ _ _ _ (by decide) _ (found n), State.diagStop, State.rd_modCh]
    simp (disch := decide) only [u, State.wrs, State.rd_wr_sep]
    exact State.rd_wr_lt (by decide) fits _ _

/-! ### CMP_SELFTEST and HOMING (R206, R302) -/

theorem State.rd_stestShow (s : State) (n : Ch) : s.stestShow.rd R.CMP_SELFTEST_VALID n.val = s.rd R.CMP_SELFTEST_VALID n.val := by
  have apart : ∀ n : Ch, R.SUP_STEST_DUE.apart 0 R.CMP_SELFTEST_VALID n.val := by decide
  have still : ∀ n : Ch, R.CMP_SELFTEST_VALID.mask &&& (settleBits (R.CMP_SELFTEST_VALID.addr n.val) ||| maskAt [] (R.CMP_SELFTEST_VALID.addr n.val)) = 0#32 := by
    decide +kernel
  unfold State.stestShow
  extract_lets d
  exact (((Settled.refl [] (s.wr R.SUP_STEST_DUE 0 d)).condSet srcStestDue (decide (d ≠ 0))).rd _ _ (by decide) (still n)).trans
    (State.rd_wr_ne _ _ _ _ _ _ (by decide) (by decide) (apart n))

theorem State.rd_withStest (s : State) (v : Vector Nat 4) (f : Fld) (i : Nat) : (s.withStest v).rd f i = s.rd f i := rfl

theorem State.selftestDone_shows (s : State) (k : Fin 16) (n : Ch) (v : Vector Nat 4) :
    (((((s.selftested n.val).withStest v).stestShow).jobDone k).job k).st = .done ∧
    ((((s.selftested n.val).withStest v).stestShow).jobDone k).rd R.CMP_SELFTEST_VALID n.val = 1 := by
  have apart : ∀ n : Ch, R.CMP_SELFTEST_VALID.mask &&& maskAt endFields (R.CMP_SELFTEST_VALID.addr n.val) = 0#32 := by decide
  have valid : ((s.selftested n.val).withStest v).rd R.CMP_SELFTEST_VALID n.val = 1 := by
    rw [State.rd_withStest, State.selftested]
    simp (disch := decide) only [State.wrs, State.rd_wr_sep, State.rd_wr_lt]
  generalize (s.selftested n.val).withStest v = u at valid ⊢
  unfold State.jobDone
  refine ⟨(State.jobEnd_shows _ k .done 0).1, ?_⟩
  rw [State.rd_jobEnd _ _ _ _ (by decide) _ (apart n), State.rd_stestShow]
  exact valid

theorem State.homingStop_rd (s : State) (n : Ch) : (s.homingStop n).rd R.SPT_STATUS_HOMING n.val = 0 := by
  unfold State.homingStop
  extract_lets i u p
  have stopped : u.rd R.SPT_STATUS_HOMING n.val = 0 := by
    rw [State.rd_modCh]
    exact State.rd_wr_lt (by decide) (by decide) _ _
  clear_value u
  split
  · rw [State.rd_modCh]
    simp (disch := decide) only [i, State.wrs, State.rd_wr_sep]
    exact stopped
  · rw [State.rd_wr_sep _ _ _ _ _ (by decide)]
    exact stopped

theorem State.homed_shows (s : State) (k : Fin 16) (n : Ch) : ((((s.homingStop n).wr R.SPT_STATUS_POS_VALID n.val 1).jobDone k).job k).st = .done ∧
    (((s.homingStop n).wr R.SPT_STATUS_POS_VALID n.val 1).jobDone k).rd R.SPT_STATUS_POS_VALID n.val = 1 ∧
    (((s.homingStop n).wr R.SPT_STATUS_POS_VALID n.val 1).jobDone k).rd R.SPT_STATUS_HOMING n.val = 0 := by
  have valid : ∀ n : Ch, R.SPT_STATUS_POS_VALID.mask &&& maskAt endFields (R.SPT_STATUS_POS_VALID.addr n.val) = 0#32 := by decide
  have homing : ∀ n : Ch, R.SPT_STATUS_HOMING.mask &&& maskAt endFields (R.SPT_STATUS_HOMING.addr n.val) = 0#32 := by decide
  refine ⟨(State.jobEnd_shows _ k .done 0).1, ?_, ?_⟩
  · rw [State.jobDone, State.rd_jobEnd _ _ _ _ (by decide) _ (valid n)]
    exact State.rd_wr_lt (by decide) (by decide) _ _
  · rw [State.jobDone, State.rd_jobEnd _ _ _ _ (by decide) _ (homing n), State.rd_wr_sep _ _ _ _ _ (by decide)]
    exact s.homingStop_rd n

/-! ### Failures (R302, R437, R340) -/

theorem execJobFailure_homing {d : BitVec 8} (st : (s.job k).st = .running ∨ (s.job k).st = .suspending) (typ : (s.job k).typ = jHoming) :
    exec (.jobFailure k d m) s = .next (s.jobFail k cTimeout).settleAll := by
  have bert : (s.job k).typ ≠ jBert := by rw [typ]; decide
  have keep : s.jobKeep k m = s := if_neg bert
  have own : ownFailure (s.job k).typ d.toNat = some (cTimeout, none) := by rw [typ]; rfl
  show execJobFailure k d m s = _
  unfold execJobFailure
  extract_lets +onlyGivenNames j u
  rw [if_pos (by rcases st with h | h <;> simp [j, h]), show ownFailure j.typ d.toNat = _ from own]
  dsimp only
  rw [if_neg bert, show u = s from keep]

theorem execJobFailure_reenum {d : BitVec 8} (st : (s.job k).st = .running ∨ (s.job k).st = .suspending) (typ : (s.job k).typ = jReenum) :
    exec (.jobFailure k d m) s = .next ((s.setJob k { s.job k with detail := 1 }).jobFail k cDetail).settleAll := by
  have bert : (s.job k).typ ≠ jBert := by rw [typ]; decide
  have keep : s.jobKeep k m = s := if_neg bert
  have own : ownFailure (s.job k).typ d.toNat = some (cDetail, some 1) := by rw [typ]; rfl
  show execJobFailure k d m s = _
  unfold execJobFailure
  extract_lets +onlyGivenNames j u
  rw [if_pos (by rcases st with h | h <;> simp [j, h]), show ownFailure j.typ d.toNat = _ from own]
  dsimp only
  rw [if_neg bert, show u = s from keep]

theorem execIdentRestTimeout_ends (st : (s.job k).st = .running ∨ (s.job k).st = .suspending) (typ : (s.job k).typ = jIdent) (rest : (s.job k).resting = true) :
    exec (.identRestTimeout k) s = .next (s.jobFail k cTimeout).settleAll :=
  congrArg Host.Outcome.next (if_pos (by rcases st with h | h <;> simp [h, typ, rest]))

theorem execIdentRestTimeout_none (h : (s.job k).typ ≠ jIdent ∨ (s.job k).resting = false) : exec (.identRestTimeout k) s = .next s :=
  congrArg Host.Outcome.next (if_neg (by rcases h with h | h <;> simp [h]))

theorem execJobWorkComplete_none (h : (s.job k).st ≠ .running) (h' : (s.job k).st ≠ .suspending) :
    exec (.jobWorkComplete k m) s = .next s ∧ ∀ d, exec (.jobFailure k d m) s = .next s :=
  ⟨congrArg Host.Outcome.next (if_neg (by simp [h, h'])), fun _ => congrArg Host.Outcome.next (if_neg (by simp [h, h']))⟩

end

end Sys2Proof.Machine

/-! SUPPORT. O35: the steps of an IDENT, and the comparators of a self-test. -/

namespace Sys2Proof.Machine

section
variable {s t : State} {k : Fin 16} {n : Ch} {m : List Word} {j : Job}

/-! ### IDENT (R340, R341) -/

theorem State.identWork_rested (hj : j = s.job k) (rest : j.resting = true) {a b c : Word} {l : List Word} (hm : m = a :: b :: c :: l) (ha : f32Lt a f32One = true)
    (hb : f32Lt b f32One = true) (hc : f32Lt c f32One = true) : s.identWork k m = s.setJob k { j with resting := false } := by
  subst hj hm
  exact (if_pos rest).trans (if_pos (by simp [ha, hb, hc]))

theorem State.identWork_turns (hj : j = s.job k) (rest : j.resting = true) (h : m.length < 3 ∨ ∃ v ∈ m.take 3, f32Lt v f32One = false) : s.identWork k m = s := by
  subst hj
  refine (if_pos rest).trans (if_neg ?_)
  rintro ⟨len, all⟩
  rcases h with short | ⟨v, mem, high⟩
  · rw [List.length_take] at len
    omega
  · have low := List.all_eq_true.1 all v mem
    rw [high] at low
    exact Bool.false_ne_true low

/-- The record of an IDENT after a step: what the step has measured joins the rest. -/
def Job.stepped (j : Job) (m : List Word) : Job :=
  { j with work := j.work + 1, meas := j.meas ++ (List.range (identWords j.quantity j.work)).map (fun i => m.getD i 0#32), ended := true }

/-- A quantity is complete with the value `v`. -/
def Job.found (j : Job) (q : Nat) (v : Word) : Job :=
  { j with vals := (j.vals ++ List.replicate (6 - j.vals.length) 0#32).set q v, detail := j.detail + 2 ^ q, work := 0, meas := [] }

/-- PROGRESS of an IDENT is brought up to date. -/
def Job.paced (j : Job) : Job := { j with progress := j.identPct }

theorem State.identStep_eq (s : State) (k : Fin 16) (m : List Word) : s.identStep k m =
    if (s.job k).work + 1 < identSteps (s.job k).quantity then (s.setJob k ((s.job k).stepped m).paced, true)
    else if f32Pos (s.identResult (s.job k) (s.job k).quantity ((s.job k).stepped m).meas) = true then
      (s.setJob k (((s.job k).stepped m).found (s.job k).quantity (s.identResult (s.job k) (s.job k).quantity ((s.job k).stepped m).meas)).paced, true)
    else (s.setJob k ((s.job k).stepped m), false) := rfl

theorem State.identWork_steps (rest : (s.job k).resting = false) (left : (s.job k).quantity < 6) (may : (s.job k).st = .running ∨ (s.job k).ended = false)
    {u : State} {ok : Bool} (step : s.identStep k m = (u, ok)) :
    s.identWork k m = if ok = false then u.jobFail k cMeasure else if (u.job k).quantity = 6 ∧ (u.job k).st = .running then u.jobEnd k .done 0 else u := by
  unfold State.identWork
  extract_lets j
  rw [if_neg (show ¬j.resting = true by simp [j, rest]), if_neg (show ¬j.quantity = 6 from Nat.ne_of_lt left),
    if_neg (show ¬(j.st = .suspending ∧ j.ended = true) by rcases may with h | h <;> simp [j, h]), step]
  cases ok <;> rfl

/-- A step before the last one of its quantity. -/
theorem State.identWork_next (rest : (s.job k).resting = false) (left : (s.job k).quantity < 6) (may : (s.job k).st = .running ∨ (s.job k).ended = false)
    (more : (s.job k).work + 1 < identSteps (s.job k).quantity) : s.identWork k m = s.setJob k ((s.job k).stepped m).paced := by
  have step : s.identStep k m = _ := (s.identStep_eq k m).trans (if_pos more)
  rw [State.identWork_steps rest left may step, if_neg (by decide), if_neg]
  rintro ⟨all, -⟩
  rw [State.job_setJob_self] at all
  exact absurd (show (s.job k).quantity = 6 from all) (Nat.ne_of_lt left)

theorem State.identWork_bad (rest : (s.job k).resting = false) (left : (s.job k).quantity < 6) (may : (s.job k).st = .running ∨ (s.job k).ended = false)
    (last : identSteps (s.job k).quantity ≤ (s.job k).work + 1)
    (bad : f32Pos (s.identResult (s.job k) (s.job k).quantity ((s.job k).stepped m).meas) = false) :
    s.identWork k m = (s.setJob k ((s.job k).stepped m)).jobFail k cMeasure := by
  have step : s.identStep k m = _ := (s.identStep_eq k m).trans ((if_neg (Nat.not_lt.2 last)).trans (if_neg (by rw [bad]; decide)))
  rw [State.identWork_steps rest left may step, if_pos rfl]

/-- The last step of a quantity: its value stands, whether the job goes on or is done. -/
theorem State.identWork_found (rest : (s.job k).resting = false) (left : (s.job k).quantity < 6) (may : (s.job k).st = .running ∨ (s.job k).ended = false)
    (last : identSteps (s.job k).quantity ≤ (s.job k).work + 1) {v : Word}
    (hv : v = s.identResult (s.job k) (s.job k).quantity ((s.job k).stepped m).meas) (good : f32Pos v = true) :
    ((s.identWork k m).job k).detail = (s.job k).detail + 2 ^ (s.job k).quantity ∧
    ((s.identWork k m).job k).vals = ((s.job k).vals ++ List.replicate (6 - (s.job k).vals.length) 0#32).set (s.job k).quantity v := by
  have step : s.identStep k m = (s.setJob k (((s.job k).stepped m).found (s.job k).quantity v).paced, true) := by
    rw [hv] at good ⊢
    exact (s.identStep_eq k m).trans ((if_neg (Nat.not_lt.2 last)).trans (if_pos good))
  rw [State.identWork_steps rest left may step, if_neg (by decide)]
  split
  · rw [State.jobEnd_self, State.endedJob, State.job_setJob_self]
    exact ⟨rfl, rfl⟩
  · rw [State.job_setJob_self]
    exact ⟨rfl, rfl⟩

end

end Sys2Proof.Machine

/-! SUPPORT. O35: the comparators of a self-test. -/

namespace Sys2Proof.Machine

section
variable {s t u : State} {k : Fin 16} {n : Ch} {m : List Word} {j : Job}

/-! ### What the end of a trip keeps -/

/-- The fields that the end of a source writes beside its record. -/
def endRegs : List (Nat × Word) :=
  [R.FLT_IRQ_ENDED.at 0, R.STAND_STATUS_HOLD_EXP.at 0, R.GD_STATUS_SHORT2.at 0, R.GD_STATUS_SHORT2.at 1, R.GD_STATUS_SHORT2.at 2, R.GD_STATUS_SHORT2.at 3]

/-- The records of the jobs are as they were, and so are the registers but for what the end of a source shows. -/
def EndKept (s t : State) : Prop := t.jobs = s.jobs ∧ RegsKept (maskAt endRegs) s t

theorem EndKept.refl (s : State) : EndKept s s := ⟨rfl, RegsKept.refl _ s⟩

theorem EndKept.wr (h : EndKept s t) (f : Fld) (i v : Nat) (hf : f.ok) (c : f.at i ∈ endRegs) : EndKept s (t.wr f i v) := ⟨h.1, h.2.wr f i v hf (maskAt_mem c)⟩

theorem EndKept.ite {p : Prop} [Decidable p] (h : EndKept s t) (k : EndKept s u) : EndKept s (if p then t else u) := by split <;> assumption

theorem EndKept.modCh (h : EndKept s t) (n : Ch) (g : Chan → Chan) : EndKept s (t.modCh n g) := h

theorem EndKept.setFr (h : EndKept s t) (i : Nat) (r : FltRec) : EndKept s (t.setFr i r) := h

theorem EndKept.dropHeld (h : EndKept s t) (i : Nat) : EndKept s (t.dropHeld i) := by
  unfold State.dropHeld
  split
  · exact h
  split
  · next c e lt =>
    have short2 : ∀ n : Ch, R.GD_STATUS_SHORT2.at n.val ∈ endRegs := by decide
    exact .ite (h.modCh _ _) (.ite (h.modCh _ _) (.ite (.ite (h.modCh _ _) h) (.ite (h.wr _ _ _ (by decide) (short2 ⟨c, lt⟩)) h)))
  · exact h

theorem EndKept.endRec (h : EndKept s t) (i : Nat) : EndKept s (t.endRec i) := ((h.setFr i _).wr R.FLT_IRQ_ENDED 0 1 (by decide) (by decide)).dropHeld i

theorem EndKept.condDrop (h : EndKept s t) (i : Nat) {f : State → State} (hf : ∀ v, EndKept s v → EndKept s (f v)) : EndKept s (t.condDrop i f) :=
  .ite (hf _ (h.setFr i _)) (h.setFr i _)

theorem EndKept.short2Update (h : EndKept s t) (n : Ch) : EndKept s (t.short2Update n) :=
  .ite (h.condDrop _ fun _ hv => hv.endRec _) h

theorem EndKept.faultEnd (h : EndKept s t) (i : Nat) : EndKept s (t.faultEnd i) := by
  unfold State.faultEnd
  extract_lets v
  have ended : EndKept s v := h.endRec i
  clear_value v
  split
  iterate 4 exact ended.short2Update _
  exact ended

theorem EndKept.condOff (h : EndKept s t) (i : Nat) : EndKept s (t.condOff i) :=
  (EndKept.ite (h.wr R.STAND_STATUS_HOLD_EXP 0 0 (by decide) (by decide)) h).condDrop i fun _ hv => hv.faultEnd i

theorem EndKept.cmpReleased (h : EndKept s t) (n : Ch) (c : Nat) : EndKept s (t.cmpReleased n c) := by
  unfold State.cmpReleased State.condOffCh
  extract_lets i u x v
  have off : EndKept s u := h.condOff _
  have win : EndKept s v := .ite h (h.condOff _)
  clear_value u v
  exact .ite (.ite off ((off.modCh n _).short2Update n)) (.ite (.ite (win.modCh n _) win) (h.condOff _))

theorem EndKept.rd (h : EndKept s t) {f : Fld} (i : Nat) (hf : f.ok) (apart : f.mask &&& maskAt endRegs (f.addr i) = 0#32) : t.rd f i = s.rd f i :=
  h.2.rd f i hf apart

/-! ### CMP_SELFTEST_COMPARATOR_DONE (R206) -/

theorem OnlyRegs.cmpStart (s : State) (n : Ch) (c : Nat) : OnlyRegs [R.CMP_STATUS_TRIPPED.at n.val, R.CMP_STATUS_BAND_PENDING.at n.val,
    R.GD_STATUS_BST_UV.at n.val, R.GD_STATUS_BST_WARN.at n.val] s (s.cmpStart n c) := by
  have h := OnlyRegs.refl [R.CMP_STATUS_TRIPPED.at n.val, R.CMP_STATUS_BAND_PENDING.at n.val, R.GD_STATUS_BST_UV.at n.val, R.GD_STATUS_BST_WARN.at n.val] s
  unfold State.cmpStart State.orBits
  extract_lets i
  exact .ite (.ite h ((h.wr _ _ _ (by decide) (by simp [i])).wr _ _ _ (by decide) (by simp [i])))
    (.ite (h.wr _ _ _ (by decide) (by simp [i])) (.ite (h.wr _ _ _ (by decide) (by simp [i])) h))

theorem State.cmpStart_trips (s : State) (n : Ch) {c : Nat} (lt : c < 11) (act : cmpInactive (s.run R.CH_MODE_SENSE n.val) c = false) :
    (s.cmpStart n c).bit R.CMP_STATUS_TRIPPED n.val c = true ∧ (s.cmpStart n c).bit R.CMP_STATUS_BAND_PENDING n.val c = true := by
  have start : s.cmpStart n c = (s.orBits R.CMP_STATUS_TRIPPED n.val (2 ^ c)).orBits R.CMP_STATUS_BAND_PENDING n.val (2 ^ c) :=
    (if_pos lt).trans (if_neg (by rw [act]; decide))
  have fits : 2 ^ c < R.CMP_STATUS_TRIPPED.size := Nat.pow_lt_pow_right (by decide) lt
  have fits' : 2 ^ c < R.CMP_STATUS_BAND_PENDING.size := Nat.pow_lt_pow_right (by decide) lt
  rw [start]
  refine ⟨?_, State.bit_orBits (by decide) _ _ _ fits'⟩
  rw [State.bit, State.orBits, State.rd_wr_sep _ _ _ _ _ (by decide)]
  exact State.bit_orBits (f := R.CMP_STATUS_TRIPPED) (by decide) s n.val c fits

theorem State.cmpStart_bst (s : State) (n : Ch) {x : Nat} (lt : x < 3) : (s.cmpStart n (18 + x)).bit R.GD_STATUS_BST_UV n.val x = true ∧
    (s.cmpStart n (21 + x)).bit R.GD_STATUS_BST_WARN n.val x = true := by
  have uv : s.cmpStart n (18 + x) = s.orBits R.GD_STATUS_BST_UV n.val (2 ^ x) := by
    unfold State.cmpStart
    rw [if_neg (by omega), if_pos (by omega), Nat.add_sub_cancel_left]
  have warn : s.cmpStart n (21 + x) = s.orBits R.GD_STATUS_BST_WARN n.val (2 ^ x) := by
    unfold State.cmpStart
    rw [if_neg (by omega), if_neg (by omega), if_pos (by omega), Nat.add_sub_cancel_left]
  have fits : 2 ^ x < R.GD_STATUS_BST_UV.size := Nat.pow_lt_pow_right (by decide) lt
  have fits' : 2 ^ x < R.GD_STATUS_BST_WARN.size := Nat.pow_lt_pow_right (by decide) lt
  rw [uv, warn]
  exact ⟨State.bit_orBits (by decide) _ _ _ fits, State.bit_orBits (by decide) _ _ _ fits'⟩

/-- A comparator whose test begins has not tripped before, or lets go. -/
theorem State.cmpBegin_cases (s : State) (n : Ch) (c : Nat) :
    (c < 11 ∧ s.cmpTrips n c = true ∧ s.cmpBegin n c = (s.cmpStart n c).cmpReleased n c) ∨
    ((11 ≤ c ∨ s.cmpTrips n c = false) ∧ s.cmpBegin n c = s.cmpStart n c) := by
  by_cases lt : c < 11
  · cases trips : s.cmpTrips n c with
    | true => exact .inl ⟨lt, rfl, if_pos (by simp [lt, trips])⟩
    | false => exact .inr ⟨.inr rfl, if_neg (by simp [trips])⟩
  · exact .inr ⟨.inl (Nat.not_lt.1 lt), if_neg (by simp [lt])⟩

theorem State.cmpBegin_kept (s : State) (n : Ch) (c : Nat) : EndKept (s.cmpStart n c) (s.cmpBegin n c) := by
  rcases s.cmpBegin_cases n c with ⟨-, -, e⟩ | ⟨-, e⟩
  · rw [e]
    exact (EndKept.refl _).cmpReleased n c
  · rw [e]
    exact EndKept.refl _

theorem State.cmpBegin_jobs (s : State) (n : Ch) (c : Nat) : (s.cmpBegin n c).jobs = s.jobs := (s.cmpBegin_kept n c).1.trans (s.cmpStart_jobs n c)

theorem State.cmpBegin_trips (s : State) (n : Ch) {c : Nat} (lt : c < 11) (act : cmpInactive (s.run R.CH_MODE_SENSE n.val) c = false) :
    (s.cmpBegin n c).bit R.CMP_STATUS_TRIPPED n.val c = true ∧ (s.cmpBegin n c).bit R.CMP_STATUS_BAND_PENDING n.val c = true := by
  have tripped : ∀ n : Ch, R.CMP_STATUS_TRIPPED.mask &&& maskAt endRegs (R.CMP_STATUS_TRIPPED.addr n.val) = 0#32 := by decide
  have band : ∀ n : Ch, R.CMP_STATUS_BAND_PENDING.mask &&& maskAt endRegs (R.CMP_STATUS_BAND_PENDING.addr n.val) = 0#32 := by decide
  have kept := s.cmpBegin_kept n c
  rw [State.bit, kept.rd _ (by decide) (tripped n), State.bit, kept.rd _ (by decide) (band n)]
  exact s.cmpStart_trips n lt act

/-- The state once the comparator under test is done. -/
def State.cmpTested (s : State) (n : Ch) (k : Fin 16) : State :=
  (s.setJob k { s.job k with work := (s.job k).work + 1, progress := ((s.job k).work + 1) * 4 }).cmpBegin n (s.job k).work

theorem execCmpSelftestComparatorDone_held (on : s.chOn n = true) (holds : s.holder n.val = some k) (typ : (s.job k).typ = jSelftest)
    (st : (s.job k).st = .running ∨ (s.job k).st = .suspending) (more : (s.job k).work < 25) (pass : Bool) :
    exec (.cmpSelftestComparatorDone n pass) s = .next (if pass = true then (s.cmpTested n k).settleAll
      else (((s.cmpTested n k).orBits R.CMP_SELFTEST_FAIL n.val (2 ^ (s.job k).work)).raiseCh n oSelftestFail 0).settleAll) := by
  show execCmpSelftestComparatorDone n pass s = _
  unfold execCmpSelftestComparatorDone
  rw [State.whenCh_on on, holds]
  exact congrArg Host.Outcome.next (if_pos ⟨typ, st, more⟩)

theorem execCmpSelftestComparatorDone_free (on : s.chOn n = true) (free : s.holder n.val = none) (pass : Bool) :
    exec (.cmpSelftestComparatorDone n pass) s = .next s := by
  show execCmpSelftestComparatorDone n pass s = _
  unfold execCmpSelftestComparatorDone
  rw [State.whenCh_on on, free]

theorem State.cmpTested_job (s : State) (n : Ch) (k : Fin 16) :
    (s.cmpTested n k).job k = { s.job k with work := (s.job k).work + 1, progress := ((s.job k).work + 1) * 4 } := by
  unfold State.cmpTested
  rw [State.job_of_jobs (State.cmpBegin_jobs _ _ _) k, State.job_setJob_self]

theorem State.cmpTested_only (s : State) (n : Ch) (k : Fin 16) (quiet : 11 ≤ (s.job k).work ∨ s.cmpTrips n (s.job k).work = false) :
    OnlyRegs [R.CMP_STATUS_TRIPPED.at n.val, R.CMP_STATUS_BAND_PENDING.at n.val, R.GD_STATUS_BST_UV.at n.val, R.GD_STATUS_BST_WARN.at n.val] s
      { s.cmpTested n k with jobs := s.jobs } := by
  unfold State.cmpTested
  rcases State.cmpBegin_cases (s.setJob k { s.job k with work := (s.job k).work + 1, progress := ((s.job k).work + 1) * 4 }) n (s.job k).work with
    ⟨lt, trips, -⟩ | ⟨-, e⟩
  · rcases quiet with high | low
    · exact absurd lt (Nat.not_lt.2 high)
    · exact absurd (show s.cmpTrips n (s.job k).work = true from trips) (by rw [low]; decide)
  · rw [e]
    exact (OnlyRegs.cmpStart _ _ _).fromJob

theorem State.cmpTested_bst (s : State) (n : Ch) (k : Fin 16) {x : Nat} (lt : x < 3) :
    ((s.job k).work = 18 + x → (s.cmpTested n k).bit R.GD_STATUS_BST_UV n.val x = true) ∧
    ((s.job k).work = 21 + x → (s.cmpTested n k).bit R.GD_STATUS_BST_WARN n.val x = true) := by
  unfold State.cmpTested
  generalize s.setJob k { s.job k with work := (s.job k).work + 1, progress := ((s.job k).work + 1) * 4 } = v
  obtain ⟨uv, warn⟩ := v.cmpStart_bst n lt
  refine ⟨fun e => ?_, fun e => ?_⟩
  · rw [e]
    rcases v.cmpBegin_cases n (18 + x) with ⟨low, -, -⟩ | ⟨-, same⟩
    · omega
    · rw [same]
      exact uv
  · rw [e]
    rcases v.cmpBegin_cases n (21 + x) with ⟨low, -, -⟩ | ⟨-, same⟩
    · omega
    · rw [same]
      exact warn

/-- A comparator that has failed its test is marked, whatever the fault does. -/
theorem State.cmpFailed_bit (s : State) (n : Ch) {c : Nat} (lt : c < 25) :
    ((s.orBits R.CMP_SELFTEST_FAIL n.val (2 ^ c)).raiseCh n oSelftestFail 0).settleAll.bit R.CMP_SELFTEST_FAIL n.val c = true := by
  have still : ∀ n : Ch, R.CMP_SELFTEST_FAIL.mask &&& (settleBits (R.CMP_SELFTEST_FAIL.addr n.val) ||| maskAt [] (R.CMP_SELFTEST_FAIL.addr n.val)) = 0#32 := by
    decide +kernel
  have fits : 2 ^ c < R.CMP_SELFTEST_FAIL.size := Nat.pow_lt_pow_right (by decide) lt
  have set' := State.bit_orBits (f := R.CMP_SELFTEST_FAIL) (by decide) s n.val c fits
  rw [State.bit, State.raiseCh, (((Settled.refl [] _).raise (srcCh n.val oSelftestFail) 0).settleAll).rd _ _ (by decide) (still n)]
  exact set'

end

end Sys2Proof.Machine

/-! SUPPORT. O35: what a unit of OTP programming does. -/

namespace Sys2Proof.Machine

section
variable {s t u : State} {k : Fin 16} {p got l : List Word} {a x : Nat}

/-! ### The fuses that a unit programs (R505, R506) -/

/-- The words `l` are programmed from fuse word `a` on, and no other fuse is touched. -/
def Programs (s : State) (a : Nat) (l : List Word) (t : State) : Prop :=
  (∀ b, b < a ∨ a + l.length ≤ b → t.fuse b = s.fuse b) ∧ ∀ i, i < l.length → t.fuse (a + i) = s.fuse (a + i) ||| l.getD i 0#32

theorem Programs.same (h : Programs s a l t) (e : u.otp.fuse = t.otp.fuse) : Programs s a l u := by
  have fuse (b : Nat) : u.fuse b = t.fuse b := by rw [State.fuse, State.fuse, e]
  exact ⟨fun b hb => (fuse b).trans (h.1 b hb), fun i hi => (fuse _).trans (h.2 i hi)⟩

theorem State.blows_programs (s : State) (a : Nat) (l : List Word) : Programs s a l (s.blows a l) := by
  induction l generalizing s a with
  | nil => exact ⟨fun _ _ => rfl, fun i hi => absurd hi (Nat.not_lt_zero i)⟩
  | cons w l ih =>
    obtain ⟨outside, inside⟩ := ih (s.blow a w) (a + 1)
    refine ⟨fun b hb => ?_, fun i hi => ?_⟩
    · rw [List.length_cons] at hb
      exact (outside b (by omega)).trans ((s.fuse_blow a b w).trans (if_neg (by omega)))
    · cases i with
      | zero => exact (outside a (.inl (Nat.lt_succ_self a))).trans ((s.fuse_blow a a w).trans (if_pos rfl))
      | succ i =>
        have shift : a + (i + 1) = a + 1 + i := by omega
        rw [shift, State.blows, inside i (Nat.lt_of_succ_lt_succ hi), s.fuse_blow, if_neg (by omega)]
        rfl

theorem State.blow_programs (s : State) (a : Nat) (w : Word) : Programs s a [w] (s.blow a w) := s.blows_programs a [w]

theorem State.setMemWords_fuse (s : State) (a : Nat) (l : List Word) : (s.setMemWords a l).otp.fuse = s.otp.fuse :=
  show (s.setMemWords a l).rest.otp.fuse = s.rest.otp.fuse by rw [State.setMemWords_rest]

theorem State.rowDone_fuse (s : State) (r : Nat) (l : List Word) : (s.rowDone r l).otp.fuse = (s.blows (8 * s.phys r) l).otp.fuse := by
  unfold State.rowDone State.setImg
  extract_lets q v w
  have v' : v.otp.fuse = (s.blows (8 * q) l).otp.fuse := rfl
  have w' : w.otp.fuse = v.otp.fuse := by
    show (if _ then _ else _ : State).otp.fuse = _
    split
    · exact State.setMemWords_fuse _ _ _
    · rfl
  exact (State.setMemWords_fuse _ _ _).trans (w'.trans v')

theorem State.rowDone_img (s : State) (r : Nat) {l : List Word} {i : Nat} (hi : i < l.length) : (s.rowDone r l).imgWord r i = l.getD i 0#32 :=
  State.memWord_setMemWords _ _ i l hi

/-! ### One unit, by its operation -/

theorem State.otpUnit_lock (op : otpOp (p.getD 0 0#32) = 3) : s.otpUnit p x true got =
    ((s.blow 0x982 (wd (2 ^ (3 * otpRegion (p.getD 0 0#32) + x)))).otpGood (0x300 + 3 * otpRegion (p.getD 0 0#32) + x), true) := by
  unfold State.otpUnit
  extract_lets +onlyGivenNames w1 part
  rw [show otpOp w1 = 3 from op]
  rfl

theorem State.otpUnit_repair (op : otpOp (p.getD 0 0#32) = 4) {e : Nat}
    (spare : s.repairSpare (otpRow (p.getD 0 0#32)) (s.otpTarget (p.getD 0 0#32) 0 0) = some e) : s.otpUnit p 0 true got =
    ({ (s.blows (8 * (0x100 + e)) (s.otpTarget (p.getD 0 0#32) 0 0)).setMemWords (0x302000 + 32 * e) (s.otpTarget (p.getD 0 0#32) 0 0) with otp.spare := e },
      true) := by
  unfold State.otpUnit
  extract_lets +onlyGivenNames w1 part
  rw [show otpOp w1 = 4 from op]
  dsimp only
  rw [if_pos rfl, show s.repairSpare (otpRow w1) (s.otpTarget w1 0 0) = some e from spare]
  rfl

theorem State.otpUnit_entry (op : otpOp (p.getD 0 0#32) = 4) (later : x ≠ 0) : s.otpUnit p x true got =
    ((s.blow (copyKey s.otp.spare (x - 1)) (wd (0x8000 + otpRow (p.getD 0 0#32)))).otpGood (0x200 + 3 * s.otp.spare + (x - 1)), true) := by
  unfold State.otpUnit
  extract_lets +onlyGivenNames w1 part
  rw [show otpOp w1 = 4 from op]
  dsimp only
  rw [if_neg later]
  rfl

theorem State.otpUnit_count (op : otpOp (p.getD 0 0#32) = 5) : s.otpUnit p x true got =
    if x = 0 then (s.blow 0x980 (s.otp.src.getD 0 0), true) else ((s.blow 0x981 (~~~s.otp.src.getD 0 0)).otpGood 0x400, true) := by
  unfold State.otpUnit
  extract_lets +onlyGivenNames w1 part
  rw [show otpOp w1 = 5 from op]
  rfl

theorem State.otpUnit_row (lock : otpOp (p.getD 0 0#32) ≠ 3) (repair : otpOp (p.getD 0 0#32) ≠ 4) (count : otpOp (p.getD 0 0#32) ≠ 5) :
    s.otpUnit p x true got = (s.rowDone (otpRowOf (p.getD 0 0#32) x) (s.otpTarget (p.getD 0 0#32) (p.getD 2 0) x), true) := by
  unfold State.otpUnit
  extract_lets +onlyGivenNames w1 part
  split
  · exact absurd ‹_› lock
  · exact absurd ‹_› repair
  · exact absurd ‹_› count
  · exact if_pos rfl

theorem State.otpSpot_row (lock : otpOp (p.getD 0 0#32) ≠ 3) (repair : otpOp (p.getD 0 0#32) ≠ 4) (count : otpOp (p.getD 0 0#32) ≠ 5) :
    s.otpSpot p x = (8 * s.phys (otpRowOf (p.getD 0 0#32) x), s.otpTarget (p.getD 0 0#32) (p.getD 2 0) x) := by
  unfold State.otpSpot
  extract_lets w1
  split
  · exact absurd ‹_› lock
  · exact absurd ‹_› repair
  · exact absurd ‹_› count
  · rfl

theorem State.otpSpot_lock (op : otpOp (p.getD 0 0#32) = 3) : s.otpSpot p x = (0x982, [wd (2 ^ (3 * otpRegion (p.getD 0 0#32) + x))]) := by
  unfold State.otpSpot
  extract_lets w1
  rw [show otpOp w1 = 3 from op]
  rfl

theorem State.otpSpot_count (op : otpOp (p.getD 0 0#32) = 5) :
    s.otpSpot p x = if x = 0 then (0x980, [s.otp.src.getD 0 0]) else (0x981, [~~~s.otp.src.getD 0 0]) := by
  unfold State.otpSpot
  extract_lets w1
  rw [show otpOp w1 = 5 from op]
  rfl

theorem State.otpSpot_entry (op : otpOp (p.getD 0 0#32) = 4) (later : x ≠ 0) :
    s.otpSpot p x = (copyKey s.otp.spare (x - 1), [wd (0x8000 + otpRow (p.getD 0 0#32))]) := by
  unfold State.otpSpot
  extract_lets w1
  rw [show otpOp w1 = 4 from op]
  exact if_neg later

theorem State.otpSpot_repair (op : otpOp (p.getD 0 0#32) = 4) {e : Nat}
    (spare : s.repairSpare (otpRow (p.getD 0 0#32)) (s.otpTarget (p.getD 0 0#32) 0 0) = some e) :
    s.otpSpot p 0 = (8 * (0x100 + e), s.otpTarget (p.getD 0 0#32) 0 0) := by
  unfold State.otpSpot
  extract_lets w1
  rw [show otpOp w1 = 4 from op]
  refine (if_pos rfl).trans ?_
  rw [show s.repairSpare (otpRow w1) (s.otpTarget w1 0 0) = some e from spare]
  rfl

/-- A unit that verifies programs the words of its spot. -/
theorem State.otpUnit_programs (spot : s.otpSpot p x = (a, l))
    (may : otpOp (p.getD 0 0#32) ≠ 4 ∨ x ≠ 0 ∨ (s.repairSpare (otpRow (p.getD 0 0#32)) (s.otpTarget (p.getD 0 0#32) 0 0)).isSome = true) :
    (s.otpUnit p x true got).2 = true ∧ Programs s a l (s.otpUnit p x true got).1 := by
  by_cases lock : otpOp (p.getD 0 0#32) = 3
  · rw [State.otpSpot_lock lock] at spot
    obtain ⟨rfl, rfl⟩ := Prod.mk.inj spot
    rw [State.otpUnit_lock lock]
    exact ⟨rfl, (s.blow_programs _ _).same rfl⟩
  by_cases repair : otpOp (p.getD 0 0#32) = 4
  · by_cases first : x = 0
    · subst first
      obtain ⟨e, spare⟩ := Option.isSome_iff_exists.1 ((may.resolve_left (not_not.2 repair)).resolve_left (not_not.2 rfl))
      rw [State.otpSpot_repair repair spare] at spot
      obtain ⟨rfl, rfl⟩ := Prod.mk.inj spot
      rw [State.otpUnit_repair repair spare]
      exact ⟨rfl, (s.blows_programs _ _).same (State.setMemWords_fuse _ _ _)⟩
    · rw [State.otpSpot_entry repair first] at spot
      obtain ⟨rfl, rfl⟩ := Prod.mk.inj spot
      rw [State.otpUnit_entry repair first]
      exact ⟨rfl, (s.blow_programs _ _).same rfl⟩
  by_cases count : otpOp (p.getD 0 0#32) = 5
  · rw [State.otpSpot_count count] at spot
    rw [State.otpUnit_count count]
    by_cases first : x = 0
    · rw [if_pos first] at spot ⊢
      obtain ⟨rfl, rfl⟩ := Prod.mk.inj spot
      exact ⟨rfl, s.blow_programs _ _⟩
    · rw [if_neg first] at spot ⊢
      obtain ⟨rfl, rfl⟩ := Prod.mk.inj spot
      exact ⟨rfl, (s.blow_programs _ _).same rfl⟩
  · rw [State.otpSpot_row lock repair count] at spot
    obtain ⟨rfl, rfl⟩ := Prod.mk.inj spot
    rw [State.otpUnit_row lock repair count]
    exact ⟨rfl, (s.blows_programs _ _).same (s.rowDone_fuse _ _)⟩

/-- A row that verifies stands in the image. -/
theorem State.otpUnit_img (spot : s.otpSpot p x = (a, l)) (op : otpOp (p.getD 0 0#32) = 1 ∨ otpOp (p.getD 0 0#32) = 2) {i : Nat} (hi : i < l.length) :
    (s.otpUnit p x true got).1.imgWord (otpRowOf (p.getD 0 0#32) x) i = l.getD i 0#32 := by
  have lock : otpOp (p.getD 0 0#32) ≠ 3 := by omega
  have repair : otpOp (p.getD 0 0#32) ≠ 4 := by omega
  have count : otpOp (p.getD 0 0#32) ≠ 5 := by omega
  rw [State.otpSpot_row lock repair count] at spot
  obtain ⟨rfl, rfl⟩ := Prod.mk.inj spot
  rw [State.otpUnit_row lock repair count]
  exact s.rowDone_img _ hi

/-- A copy of a lock, an entry or the counter that does not verify leaves the unit as it was. -/
theorem State.otpUnit_bad (op : otpOp (p.getD 0 0#32) = 3 ∨ otpOp (p.getD 0 0#32) = 5 ∨ (otpOp (p.getD 0 0#32) = 4 ∧ x ≠ 0)) :
    s.otpUnit p x false got = (s, true) := by
  unfold State.otpUnit
  extract_lets +onlyGivenNames w1 part
  rcases op with op | op | ⟨op, later⟩
  · rw [show otpOp w1 = 3 from op]
    rfl
  · rw [show otpOp w1 = 5 from op]
    rfl
  · rw [show otpOp w1 = 4 from op]
    exact if_neg later

/-! ### OTP_ROW_PROGRAMMED (R506) -/

section
variable {ok hot : Bool} {got : List (BitVec 32)}

/-- A unit of the job in slot `k` ends. -/
def State.unitEnds (s : State) (k : Fin 16) : Prop :=
  (s.job k).typ = jOtp ∧ ((s.job k).st = .running ∨ (((s.job k).st = .suspending ∨ (s.job k).st = .cancelling) ∧ (s.job k).ended = false)) ∧
    (s.job k).work < otpUnits ((s.job k).par 0) ∧ s.domOn dOtpw = true

theorem execOtpRowProgrammed_stops (h : s.unitEnds k) (bad : hot = true ∨ s.bit R.PWR_STATUS_GOOD 0 1 = false) :
    exec (.otpRowProgrammed k ok hot got) s = .next (if (s.job k).st = .cancelling then s.setJob k { s.job k with ended := true }
      else (s.setJob k { s.job k with detail := 11 }).jobFail k cDetail) :=
  congrArg Host.Outcome.next ((if_pos h).trans (if_pos (by rcases bad with h | h <;> simp [h])))

theorem execOtpRowProgrammed_unit (h : s.unitEnds k) (cool : hot = false) (good : s.bit R.PWR_STATUS_GOOD 0 1 = true) {b : Bool}
    (unit : s.otpUnit (s.job k).params (s.job k).work ok got = (u, b)) : exec (.otpRowProgrammed k ok hot got) s = .next (if b = true then
      u.setJob k { s.job k with work := (s.job k).work + 1, progress := ((s.job k).work + 1) * 100 / otpUnits ((s.job k).par 0), ended := true }
      else if (s.job k).st = .cancelling then u.setJob k { s.job k with ended := true } else (u.setJob k { s.job k with detail := 5 }).jobFail k cDetail) := by
  refine congrArg Host.Outcome.next ((if_pos h).trans ((if_neg (by simp [cool, good])).trans ?_))
  rw [unit]

theorem execOtpRowProgrammed_none (h : (s.job k).typ ≠ jOtp ∨ ((s.job k).st ≠ .running ∧ (s.job k).ended = true)) :
    exec (.otpRowProgrammed k ok hot got) s = .next s := by
  refine congrArg Host.Outcome.next (if_neg ?_)
  rintro ⟨typ, st, -⟩
  rcases h with h | ⟨h, ended⟩
  · exact h typ
  · rcases st with st | ⟨-, open'⟩
    · exact h st
    · exact Bool.false_ne_true (open'.symm.trans ended)

end

theorem State.jobStop_otp (typ : (s.job k).typ = jOtp) : (s.jobStop k).otp = s.otp := by
  have asked : ({ s with pwrQ := s.pwrQ ++ [(dOtpw, false, true)] } : State).otp = s.otp := rfl
  unfold State.jobStop
  extract_lets j
  rw [show j.typ = jOtp from typ]
  split
  · rfl
  split
  · rw [if_neg (by decide), if_neg (by decide), if_neg (by decide), if_neg (by decide), if_pos rfl]
  · rw [if_pos rfl]

/-- A programming job that fails leaves the fuses as they are. -/
theorem State.jobFail_fuse (typ : (s.job k).typ = jOtp) (c : Nat) : (s.jobFail k c).otp.fuse = s.otp.fuse := by
  unfold State.jobFail
  have ended (v : State) : (v.jobEnd k .failed c).otp = v.otp :=
    show (v.jobEnd k .failed c).rest.otp = (v.setJob k _).rest.otp by rw [(v.jobEnd_only k .failed c).2.2]
  have parked : ((s.setJob k { s.job k with progress := s.jobPct (s.job k) }).jobStop k).otp = s.otp :=
    State.jobStop_otp (by rw [State.job_setJob_self]; exact typ)
  rw [ended, parked]

end

end Sys2Proof.Machine

/-! SUPPORT. O35: the progress of jobs, put together. -/

namespace Sys2Proof.Machine

/-- Settles O35, from what each event does with the record of its job. -/
theorem jobsProgress : Obligations.JobsProgress := by
  unfold Obligations.JobsProgress
  rintro s k j rfl
  refine ⟨fun st cause => s.jobEnd_shows k st cause, s.jobNext_iff k, fun cold next typ may => ?_, fun cold next typ bars => execJobDispatch_fails next typ bars,
    fun cold waits => execJobDispatch_waits waits, fun m st ready ident bert => ?_, fun n target typ => if_pos typ, fun m h => execJobSuspendPoint_waits h,
    fun m st ident bert => ?_, fun m h => congrArg Host.Outcome.next (if_neg (by simp [h])), ?gate, ?gateEnd, ?diag, ?diagLow, ?selftest, ?homing,
    fun m st high gate => ?_, ?ident, fun m h h' => execJobWorkComplete_none h h', fun d m st typ => ?_, fun d m st typ => ?_, fun st typ rest => ?_,
    fun h => execIdentRestTimeout_none h, ?cmp, fun n pass on free => execCmpSelftestComparatorDone_free on free pass, ?otp, ?otpCancel, ?unit,
    fun p u got op => State.otpUnit_bad op, fun ok hot got h => execOtpRowProgrammed_none h⟩
  · refine ⟨s.started k (s.job k), execJobDispatch_starts next typ may, rfl, fun walk => s.started_jobs k walk, fun t lt => State.jobEntered_diag _ t lt,
      fun t _ => State.jobEntered_selftest _ t, fun t lt => State.jobEntered_homing _ t lt⟩
  · obtain ⟨suspended, irq, others⟩ := s.paused_jobs k bert
    exact ⟨s.paused k, execJobSuspendPoint_pauses st ready bert, suspended, irq, others, fun n target typ => s.paused_diag k target typ⟩
  · obtain ⟨failed, cause, irq, -⟩ := s.jobFail_shows k 1
    exact ⟨s.jobFail k 1, execJobCancelComplete_ends st bert, rfl, failed, cause, irq⟩
  case gate =>
    intro m n target typ st more
    refine ⟨s.gcWork k n m, ?_, ?_⟩
    · rw [execJobWorkComplete_works (.inl st), State.jobWork_gate typ target st]
    rw [State.gcWork_goes more]
    have ch : (s.gcPulse n m (some s.now)).ch n = _ := State.ch_modCh_self _ _ _
    refine ⟨State.job_setJob_self _ _ _, ?_, ?_, (s.gcPulse_only n m _).withJob _⟩
    · rw [State.ch_setJob, ch]
    · rw [State.ch_setJob, ch]
  case gateEnd =>
    intro m n target typ st last
    obtain ⟨u, e⟩ := State.gcWork_ends (n := n) (m := m) st last
    obtain ⟨done, busy, pulse⟩ := u.gcDone_shows n k
    refine ⟨((u.gcResult n).diagStop n).jobEnd k .done 0, ?_, done, busy, pulse⟩
    rw [execJobWorkComplete_works (.inl st), State.jobWork_gate typ target st, e]
  case diag =>
    intro m n target typ st work high
    obtain ⟨st', work', ch⟩ := (s.modCh n fun c => { c with diag := { c.diag with vbus := m.getD 0 0#32 } }).diagNext_shows k n
    refine ⟨_, ?_, st'.trans st, work'.trans (congrArg (· + 1) work), ?_⟩
    · rw [execJobWorkComplete_works (.inl st), State.jobWork_diag typ target st, State.diagWork_starts work high]
    · rw [ch, State.ch_modCh_self]
  case diagLow =>
    intro m n target typ st work low
    obtain ⟨done, valid, chan⟩ := s.diagPut_shows k n (chan := 2) (by decide) 0 0 [] (by rw [st]; decide)
    refine ⟨s.diagPut k n 2 0 0 [], ?_, done, valid, chan⟩
    rw [execJobWorkComplete_works (.inl st), State.jobWork_diag typ target st, State.diagWork_low work low]
  case selftest =>
    intro m typ st work lt
    obtain ⟨done, valid⟩ := s.selftestDone_shows k ⟨(s.job k).tgt, lt⟩ ((s.selftested (s.job k).tgt).rng.stest.set! (s.job k).tgt s.now)
    refine ⟨_, ?_, done, valid⟩
    rw [execJobWorkComplete_works (.inl st), State.jobWork_selftest typ st work]
  case homing =>
    intro m n target typ st seen rest
    obtain ⟨done, valid, homing⟩ := s.homed_shows k n
    refine ⟨_, ?_, done, valid, homing⟩
    rw [execJobWorkComplete_works (.inl st), State.jobWork_homing typ target st seen rest]
  · rw [execJobWorkComplete_works (.inr st), State.jobWork_waits st high gate]
  case ident =>
    intro m n target typ st
    have works : exec (.jobWorkComplete k m) s = .next (s.identWork k m).settleAll := by rw [execJobWorkComplete_works st, State.jobWork_ident typ]
    refine ⟨fun rest => ⟨fun a b c l hm ha hb hc => ?_, fun h => ?_⟩, fun rest left may more => ?_, fun v rest left may last hv => ⟨fun bad => ?_, fun good => ?_⟩⟩
    · rw [works, State.identWork_rested rfl rest hm ha hb hc]
    · rw [works, State.identWork_turns rfl rest h]
    · refine ⟨_, works, ?_⟩
      rw [State.identWork_next rest left may more, State.job_setJob_self]
      exact ⟨rfl, rfl, rfl, rfl⟩
    · obtain ⟨failed, cause, -, -⟩ := (s.setJob k ((s.job k).stepped m)).jobFail_shows k cMeasure
      refine ⟨_, works, ?_⟩
      rw [State.identWork_bad rest left may last (by rw [hv] at bad; exact bad)]
      exact ⟨failed, cause⟩
    · exact ⟨_, works, State.identWork_found rest left may last hv good⟩
  · obtain ⟨failed, cause, -, -⟩ := s.jobFail_shows k cTimeout
    exact ⟨_, execJobFailure_homing st typ, rfl, failed, cause⟩
  · obtain ⟨failed, cause, -, detail⟩ := (s.setJob k { s.job k with detail := 1 }).jobFail_shows k cDetail
    refine ⟨_, execJobFailure_reenum st typ, rfl, failed, cause, ?_⟩
    rw [detail, State.job_setJob_self]
  · obtain ⟨failed, cause, -, -⟩ := s.jobFail_shows k cTimeout
    exact ⟨_, execIdentRestTimeout_ends st typ rest, rfl, failed, cause⟩
  case cmp =>
    intro n pass on holds typ st more
    have held := execCmpSelftestComparatorDone_held on holds typ st more pass
    refine ⟨fun ok => ⟨s.cmpTested n k, ?_, s.cmpTested_job n k, fun quiet => s.cmpTested_only n k quiet, fun x lt => s.cmpTested_bst n k lt,
      fun lt act => State.cmpBegin_trips _ n lt act⟩, fun bad => ⟨_, ?_, (s.cmpTested n k).cmpFailed_bit n more⟩⟩
    · rw [held, if_pos ok]
    · rw [held, if_neg (by simp [bad])]
  case otp =>
    intro ok hot got typ st more dom
    have unit : s.unitEnds k := ⟨typ, st, more, dom⟩
    refine ⟨fun bad run => ?_, fun u cool good e => ?_, fun u cool good run e => ?_⟩
    · obtain ⟨failed, cause, -, detail⟩ := (s.setJob k { s.job k with detail := 11 }).jobFail_shows k cDetail
      refine ⟨(s.setJob k { s.job k with detail := 11 }).jobFail k cDetail, ?_, failed, cause, ?_, ?_⟩
      · rw [execOtpRowProgrammed_stops unit bad, if_neg run]
      · rw [detail, State.job_setJob_self]
      · exact State.jobFail_fuse (by rw [State.job_setJob_self]; exact typ) cDetail
    · refine ⟨_, ?_, rfl⟩
      rw [execOtpRowProgrammed_unit unit cool good e, if_pos rfl]
    · rw [execOtpRowProgrammed_unit unit cool good e, if_neg (by decide), if_neg run]
  case otpCancel =>
    intro ok hot got typ st open' more dom
    have unit : s.unitEnds k := ⟨typ, .inr ⟨.inr st, open'⟩, more, dom⟩
    refine ⟨fun bad => ?_, fun u cool good e => ?_⟩
    · rw [execOtpRowProgrammed_stops unit bad, if_pos st]
    · rw [execOtpRowProgrammed_unit unit cool good e, if_neg (by decide), if_pos st]
  case unit =>
    intro p u got a l spot may
    obtain ⟨ok, outside, inside⟩ := State.otpUnit_programs (got := got) spot may
    exact ⟨ok, outside, inside, fun op i hi => State.otpUnit_img spot op hi⟩

end Sys2Proof.Machine

/-! SUPPORT. O9, O11: what a raise and the settling of the gates spare beside what `Settled` names: the timeout of the estimators stays shown,
and a bootstrap that is tripped stays so. -/

namespace Sys2Proof.Machine

section
variable {s t u : State} {n : Ch}

/-! ### The frame -/

/-- The timeouts of the observers are as they were, shown and held, and the bootstraps that were tripped are tripped. -/
def Spared (s t : State) : Prop := ∀ n : Ch,
  t.rd R.OBS_STATUS_TIMED_OUT n.val = s.rd R.OBS_STATUS_TIMED_OUT n.val ∧ (t.ch n).obs.obs.out = (s.ch n).obs.obs.out ∧
    ∀ k, s.bit R.GD_STATUS_BST_UV n.val k = true → t.bit R.GD_STATUS_BST_UV n.val k = true

/-- A field that lies apart from the timeouts and the bootstraps of every channel. -/
def Fld.spares (f : Fld) : Bool :=
  decide f.ok && (List.finRange 4).all fun m => (List.finRange 4).all fun n : Fin 4 =>
    decide (f.apart m.val R.OBS_STATUS_TIMED_OUT n.val) && decide (f.apart m.val R.GD_STATUS_BST_UV n.val)

theorem Fld.spares_apart {f : Fld} (h : f.spares = true) {i : Nat} (lt : i < 4) (n : Ch) :
    f.ok ∧ f.apart i R.OBS_STATUS_TIMED_OUT n.val ∧ f.apart i R.GD_STATUS_BST_UV n.val := by
  simp only [Fld.spares, Bool.and_eq_true, decide_eq_true_eq, List.all_eq_true] at h
  obtain ⟨ok, apart⟩ := h
  exact ⟨ok, apart ⟨i, lt⟩ (List.mem_finRange _) n (List.mem_finRange _)⟩

theorem Spared.refl (s : State) : Spared s s := fun _ => ⟨rfl, rfl, fun _ h => h⟩

theorem Spared.ite {p : Prop} [Decidable p] (h : Spared s t) (k : Spared s u) : Spared s (if p then t else u) := by split <;> assumption

/-- Neither a register nor a channel changes. -/
theorem Spared.same (h : Spared s t) (regs : u.regs = t.regs) (chan : u.chan = t.chan) : Spared s u := fun n => by
  obtain ⟨shown, out, tripped⟩ := h n
  have word (a : Nat) : u.word a = t.word a := by rw [State.word, State.word, regs]
  have rd (f : Fld) (i : Nat) : u.rd f i = t.rd f i := by rw [State.rd, State.rd, word]
  refine ⟨(rd _ _).trans shown, ?_, fun k hk => ?_⟩
  · rw [State.ch, chan]
    exact out
  · rw [State.bit, rd]
    exact tripped k hk

theorem Spared.modCh (h : Spared s t) (m : Ch) {g : Chan → Chan} (e : ∀ c, (g c).obs.obs.out = c.obs.obs.out) : Spared s (t.modCh m g) := fun n => by
  obtain ⟨shown, out, tripped⟩ := h n
  refine ⟨shown, ?_, tripped⟩
  rw [State.ch_modCh]
  split
  · next same => rw [e, same, out]
  · exact out

/-- A register apart from the two is written. -/
theorem Spared.wrApart (h : Spared s t) {f : Fld} {i : Nat} (ok : f.ok)
    (apart : ∀ n : Ch, f.apart i R.OBS_STATUS_TIMED_OUT n.val ∧ f.apart i R.GD_STATUS_BST_UV n.val) (v : Nat) : Spared s (t.wr f i v) := fun n => by
  obtain ⟨shown, out, tripped⟩ := h n
  refine ⟨(State.rd_wr_ne _ _ _ _ _ _ ok (by decide) (apart n).1).trans shown, out, fun k hk => ?_⟩
  rw [State.bit, State.rd_wr_ne _ _ _ _ _ _ ok (by decide) (apart n).2]
  exact tripped k hk

/-- Another word is written. -/
theorem Spared.wrAway (h : Spared s t) {f : Fld} {i : Nat}
    (away : ∀ n : Ch, f.addr i ≠ R.OBS_STATUS_TIMED_OUT.addr n.val ∧ f.addr i ≠ R.GD_STATUS_BST_UV.addr n.val) (v : Nat) : Spared s (t.wr f i v) := fun n => by
  have other {g : Fld} (ne : f.addr i ≠ g.addr n.val) : (t.wr f i v).rd g n.val = t.rd g n.val := by
    rw [State.rd, State.word_wr, if_neg ne]
    rfl
  obtain ⟨shown, out, tripped⟩ := h n
  refine ⟨(other (away n).1).trans shown, out, fun k hk => ?_⟩
  rw [State.bit, other (away n).2]
  exact tripped k hk

theorem Spared.wr (h : Spared s t) {f : Fld} {i : Nat} (lt : i < 4) (v : Nat) (c : f.spares = true) : Spared s (t.wr f i v) :=
  h.wrApart (Fld.spares_apart c lt 0).1 (fun n => (Fld.spares_apart c lt n).2) v

theorem Spared.wrs (h : Spared s t) {i : Nat} (lt : i < 4) {q : List (Fld × Nat)} (c : ∀ e ∈ q, e.1.spares = true) : Spared s (t.wrs i q) := by
  induction q generalizing t with
  | nil => exact h
  | cons e q ih =>
    exact ih (h.wr lt e.2 (c e List.mem_cons_self)) fun x hx => c x (List.mem_cons_of_mem _ hx)

theorem Spared.inc (h : Spared s t) {f : Fld} {i : Nat} (lt : i < 4) (c : f.spares = true) : Spared s (t.inc f i) := by
  unfold State.inc
  exact .ite (h.wr lt _ c) h

theorem Spared.whenCh (h : Spared s t) (m : Ch) {f : State → State} (k : ∀ v, Spared s v → Spared s (f v)) : Spared s (t.whenCh m f) := by
  unfold State.whenCh
  exact .ite (k _ h) h

theorem Spared.forCh (h : Spared s t) {f : Ch → State → State} (k : ∀ m v, Spared s v → Spared s (f m v)) : Spared s (t.forCh f) :=
  k 3 _ (k 2 _ (k 1 _ (k 0 _ h)))

/-! ### Events, traces and packets -/

theorem Spared.grvEvent (h : Spared s t) (m : Ch) (b : Nat) : Spared s (t.grvEvent m b) := h.whenCh m fun _ hv => hv.wr m.isLt _ (by decide)

theorem Spared.trcFire (h : Spared s t) (m : Ch) (c : Nat) : Spared s (t.trcFire m c) := h.whenCh m fun _ hv => .ite (hv.modCh m fun _ => rfl) hv

theorem Spared.freed (h : Spared s t) (ing : Nat) (p : Pkt) : Spared s (t.freed ing p) := by
  unfold State.freed
  split
  · exact h.same rfl rfl
  · exact h

theorem Spared.egress (h : Spared s t) (p ing : Nat) (b : Bool) (q : Pkt) : Spared s (t.egress p ing b q) := by
  unfold State.egress
  split
  · exact h.same rfl rfl
  · exact h

theorem Spared.foldl {α : Type} {f : State → α → State} (k : ∀ v a, Spared s v → Spared s (f v a)) (l : List α) (h : Spared s t) : Spared s (l.foldl f t) := by
  induction l generalizing t with
  | nil => exact h
  | cons a l ih => exact ih (k _ a h)

theorem Spared.goOut (h : Spared s t) (ing : Nat) (l : List Nat) (p : Pkt) : Spared s (t.goOut ing l p) := by
  cases l with
  | nil => exact h.freed ing p
  | cons q l => exact Spared.foldl (fun _ a hv => hv.egress a ing false p) l (h.egress q ing true p)

theorem Spared.deliver (h : Spared s t) (ing : Nat) (p : Pkt) : Spared s (t.deliver ing p) := h.same rfl rfl

theorem Spared.go (h : Spared s t) (ing : Nat) (w : Way) : Spared s (t.go ing w) := by
  cases w with
  | drop c p => exact h
  | ports l me p => exact .ite ((h.goOut ing l p).deliver ing p) (h.goOut ing l p)

theorem Spared.answer (h : Spared s t) (p : Pkt) (c : Nat) : Spared s (t.answer p c) := by
  unfold State.answer
  extract_lets r
  split
  · exact h.go _ _
  · exact h

theorem Spared.dropNote (h : Spared s t) (ing c : Nat) (p : Pkt) : Spared s (t.dropNote ing c p) := by
  unfold State.dropNote
  extract_lets v
  have noted : Spared s v := (h.inc (i := 0) (by decide) (by decide)).wr (i := 0) (by decide) 1 (by decide)
  clear_value v
  exact .ite noted (noted.wrs (by decide) (by simp +decide))

theorem Spared.arrive (h : Spared s t) (ing : Nat) (p : Pkt) : Spared s (t.arrive ing p) := by
  unfold State.arrive
  exact .ite (.ite (h.answer p 5) (h.dropNote ing 3 p)) (.ite ((h.inc (by decide) (by decide)).answer p 4) (h.deliver ing p))

theorem Spared.route (h : Spared s t) (ing : Nat) (p : Pkt) : Spared s (t.route ing p) := by
  unfold State.route
  split
  · next l me q e => exact .ite ((h.goOut ing l q).arrive ing q) (h.goOut ing l q)
  · next c q e =>
    have dropped := (h.dropNote ing c q).freed ing q
    exact .ite dropped ((dropped.inc (by decide) (by decide)).answer q 1)

theorem Spared.send (h : Spared s t) (ing : Nat) (p : Pkt) : Spared s (t.send ing p) := by
  unfold State.send
  exact .ite (h.route ing p) h

/-! ### Jobs -/

theorem Spared.jobEvent (h : Spared s t) (o : Nat) : Spared s (t.jobEvent o) := by
  rcases t.jobEvent_cases o with e | ⟨m, e⟩
  · rw [e]
    exact h
  · rw [e]
    exact h.grvEvent m 10

theorem Spared.jobEnd (h : Spared s t) (k : Fin 16) (st : JobSt) (c : Nat) : Spared s (t.jobEnd k st c) :=
  (Spared.wr (t := t.setJob k (t.endedJob k st c)) (h.same rfl rfl) (by decide) _ (by decide)).jobEvent _

theorem Spared.diagStop (h : Spared s t) (m : Ch) : Spared s (t.diagStop m) := (h.wrs m.isLt (by simp +decide)).modCh m fun _ => rfl

/-- A bootstrap that shows its start state joins those that are tripped. -/
theorem Spared.bstUv (h : Spared s t) (m : Ch) (b : Nat) : Spared s (t.orBits R.GD_STATUS_BST_UV m.val b) := fun n => by
  have apart : ∀ m n : Ch, R.GD_STATUS_BST_UV.apart m.val R.OBS_STATUS_TIMED_OUT n.val := by decide
  have other : ∀ m n : Ch, m ≠ n → R.GD_STATUS_BST_UV.apart m.val R.GD_STATUS_BST_UV n.val := by decide
  obtain ⟨shown, out, tripped⟩ := h n
  refine ⟨(State.rd_wr_ne _ _ _ _ _ _ (by decide) (by decide) (apart m n)).trans shown, out, fun k hk => ?_⟩
  by_cases e : m = n
  · subst e
    have fits : t.rd R.GD_STATUS_BST_UV m.val < 2 ^ 3 := Fld.get_lt _ _
    have low : k < 3 := by
      by_contra high
      have zero : (t.rd R.GD_STATUS_BST_UV m.val).testBit k = false :=
        Nat.testBit_lt_two_pow (Nat.lt_of_lt_of_le fits (Nat.pow_le_pow_right (by decide) (Nat.not_lt.1 high)))
      exact Bool.false_ne_true (zero.symm.trans (tripped k hk))
    rw [State.bit, State.orBits, State.rd_wr _ _ _ _ (by decide), show R.GD_STATUS_BST_UV.size = 2 ^ 3 from rfl, Nat.testBit_mod_two_pow,
      Nat.testBit_or, show (t.rd R.GD_STATUS_BST_UV m.val).testBit k = true from tripped k hk]
    simp [low]
  · rw [State.bit, State.orBits, State.rd_wr_ne _ _ _ _ _ _ (by decide) (by decide) (other m n e)]
    exact tripped k hk

theorem Spared.cmpStart (h : Spared s t) (m : Ch) (c : Nat) : Spared s (t.cmpStart m c) := by
  unfold State.cmpStart
  extract_lets i
  exact .ite (.ite h ((h.wr m.isLt _ (by decide)).wr m.isLt _ (by decide))) (.ite (h.bstUv m _) (.ite (h.wr m.isLt _ (by decide)) h))

theorem Spared.homingStop (h : Spared s t) (m : Ch) : Spared s (t.homingStop m) := by
  unfold State.homingStop
  extract_lets i v p
  have stopped : Spared s v := (h.wr m.isLt 0 (by decide)).modCh m fun _ => rfl
  clear_value v
  exact .ite ((stopped.wrs m.isLt (by simp +decide)).modCh m fun _ => rfl) (stopped.wr m.isLt 0 (by decide))

theorem Spared.trcClose (h : Spared s t) (m : Ch) : Spared s (t.trcClose m) := by
  unfold State.trcClose
  extract_lets x p q v
  have closed : Spared s v := h.modCh m fun _ => rfl
  clear_value v
  refine .ite h ?_
  split
  · exact (closed.wr (f := R.TRCR_PKTS) (i := 0) (by decide) _ (by decide)).send _ _
  · exact closed

theorem Spared.enumStop (h : Spared s t) : Spared s t.enumStop := by
  unfold State.enumStop
  exact Spared.wr (h.same rfl rfl) (by decide) 0 (by decide)

theorem Spared.jobStop (h : Spared s t) (k : Fin 16) : Spared s (t.jobStop k) := by
  have otp : Spared s { t with pwrQ := t.pwrQ ++ [(dOtpw, false, true)] } := h.same rfl rfl
  unfold State.jobStop
  extract_lets j
  refine .ite h ?_
  split
  · next lt =>
    refine .ite (h.diagStop _) (.ite (.ite ((h.wr lt 0 (by decide)).cmpStart _ _) h) (.ite (h.homingStop _)
      (.ite ((h.trcClose _).wrs lt (by simp +decide)) (.ite otp (.ite h.enumStop (.ite ?_ h))))))
    have quiet : Spared s (t.modLp ⟨j.tgt, lt⟩ fun l => { l with bert := false }) := h.same rfl rfl
    exact .ite (quiet.wrs lt (by simp +decide)) quiet
  · exact .ite otp (.ite h.enumStop h)

theorem Spared.jobFail (h : Spared s t) (k : Fin 16) (c : Nat) : Spared s (t.jobFail k c) := by
  have paced : Spared s (t.setJob k { t.job k with progress := t.jobPct (t.job k) }) := h.same rfl rfl
  exact (paced.jobStop k).jobEnd k .failed c

theorem Spared.jobsFail (h : Spared s t) (p : Job → Bool) (c : Nat) : Spared s (t.jobsFail p c) :=
  Spared.foldl (fun _ a hv => .ite (hv.jobFail a c) hv) slots h

/-! ### A change of state, and the halt net -/

theorem Spared.unform (h : Spared s t) (m : Ch) : Spared s (t.unform m) := by
  unfold State.unform State.putBit
  extract_lets i v
  have empty : Spared s v := h.modCh m fun _ => rfl
  clear_value v
  exact .ite (.ite ((empty.wrs m.isLt (by simp +decide)).wr (by decide) _ (by decide)) ((empty.wrs m.isLt (by simp +decide)).wr (by decide) _ (by decide))) empty

theorem Spared.hoEnd (h : Spared s t) (m : Ch) : Spared s (t.hoEnd m) := (h.wrs m.isLt (by simp +decide)).modCh m fun _ => rfl

theorem Spared.engineStop (h : Spared s t) (m : Ch) : Spared s (t.engineStop m) := (h.wrs m.isLt (by simp +decide)).modCh m fun _ => rfl

theorem Spared.stestPost (h : Spared s t) (m : Ch) : Spared s (t.stestPost m) := by
  have queued : Spared s (t.jobStart 1 jSelftest m.val []).1 := by
    unfold State.jobStart
    split
    · exact h
    split
    · exact h
    split
    · exact h
    · exact h.same rfl rfl
  unfold State.stestPost
  split
  next x r e =>
  rw [e] at queued
  extract_lets b
  exact .ite (h.same rfl rfl) (queued.same rfl rfl)

theorem Spared.toState (h : Spared s t) (m : Ch) (dst : ChState) (c : Nat) : Spared s (t.toState m dst c) := by
  unfold State.toState
  extract_lets i fr x0 x1 x2 x3 x4 x5 x6 x7 x8 x9 x10 x11 x12
  have h0 : Spared s x0 := h.wrs m.isLt (by simp +decide)
  clear_value x0
  have h1 : Spared s x1 := .ite h0 ((h0.wr m.isLt 1 (by decide)).grvEvent m 3)
  clear_value x1
  have h2 : Spared s x2 := .ite (h1.trcFire m 4) h1
  clear_value x2
  have h3 : Spared s x3 := .ite (h2.hoEnd m) h2
  clear_value x3
  have h4 : Spared s x4 := .ite (h3.engineStop m) h3
  clear_value x4
  have h5 : Spared s x5 := .ite (h4.wr m.isLt 0 (by decide)) h4
  clear_value x5
  have h6 : Spared s x6 := .ite (h5.wr m.isLt 0 (by decide)) h5
  clear_value x6
  have h7 : Spared s x7 := .ite h6 (h6.wr m.isLt 0 (by decide))
  clear_value x7
  have h8 : Spared s x8 := .ite h7 (h7.wr m.isLt 0 (by decide))
  clear_value x8
  have h9 : Spared s x9 := .ite ((h8.wr m.isLt 0 (by decide)).wr m.isLt 1 (by decide)) (h8.wr m.isLt 0 (by decide))
  clear_value x9
  have h10 : Spared s x10 := h9.modCh m fun _ => rfl
  clear_value x10
  have h11 : Spared s x11 := .ite (h10.modCh m fun _ => rfl) h10
  clear_value x11
  have h12 : Spared s x12 := .ite (h11.stestPost m) h11
  clear_value x12
  exact .ite (h12.jobsFail _ _) h12

theorem Spared.raiseOn (h : Spared s t) (i : Nat) (r : FltRec) (m : Ch) : Spared s (t.raiseOn i r m) := by
  unfold State.raiseOn
  refine .ite h (h.whenCh m fun v hv => ?_)
  extract_lets c fail limp x0 x1 x2
  have h0 : Spared s x0 := .ite (hv.jobsFail _ _) hv
  clear_value x0
  have h1 : Spared s x1 := .ite (h0.unform m) h0
  clear_value x1
  have h2 : Spared s x2 := .ite (h1.modCh m fun _ => rfl) h1
  clear_value x2
  have acted : Spared s (x2.setFr i { x2.fr i with acts := 0 }) := h2.same rfl rfl
  exact .ite (acted.toState m _ _) (.ite ((h2.toState m _ _).modCh m fun _ => rfl) (.ite (h2.toState m _ _) h2))

theorem Spared.orders (h : Spared s t) (a b : Nat) : Spared s { t with haltSeq := a, fltSeq := b } := h.same rfl rfl

theorem Spared.haltAssert (h : Spared s t) (c : Nat) : Spared s (t.haltAssert c) := by
  unfold State.haltAssert
  extract_lets +onlyGivenNames x0 w x1
  have h0 : Spared s x0 := h.wrs (by decide) (by simp +decide)
  clear_value x0
  have pin : Spared s w := h0.wr (f := R.FBK_STATUS_PIN) (i := 0) (by decide) _ (by decide)
  have h1 : Spared s x1 := pin.orders _ _
  clear_value w x1
  refine .ite h (h1.forCh fun m v hv => hv.whenCh m fun w hw => ?_)
  have told := ((hw.jobsFail (fun j => j.holds && decide (j.resource = m.val)) cHalt).grvEvent m 12).trcFire m 5
  exact .ite told (told.toState m _ _)

/-! ### A raise -/

theorem Spared.setFaultBit (h : Spared s t) (i : Nat) : Spared s (t.setFaultBit i) := by
  unfold State.setFaultBit
  split
  · exact h
  next f k b e =>
  extract_lets was v
  have marked : Spared s v := by
    have off : f.addr k % 256 = 0x18 := by rw [Fld.addr, srcFaultBit_off e, Nat.mul_add_mod_self_right]
    have away : ∀ n : Ch, R.OBS_STATUS_TIMED_OUT.addr n.val % 256 ≠ 0x18 ∧ R.GD_STATUS_BST_UV.addr n.val % 256 ≠ 0x18 := by decide
    exact h.wrAway (fun n => ⟨fun same => (away n).1 (same ▸ off), fun same => (away n).2 (same ▸ off)⟩) _
  clear_value v
  refine .ite marked (.ite marked ?_)
  split
  iterate 4 exact (marked.grvEvent _ 4).trcFire _ 3
  exact marked

theorem Spared.capture (h : Spared s t) (i : Nat) (r : FltRec) : Spared s (t.capture i r) := by
  unfold State.capture
  extract_lets x0 x1 x2 x3
  have h0 : Spared s x0 := h.wr (i := 0) (by decide) 1 (by decide)
  clear_value x0
  have h1 : Spared s x1 := .ite (h0.wr (by decide) 1 (by decide)) h0
  clear_value x1
  have h2 : Spared s x2 := .ite (h1.wr (by decide) 1 (by decide)) h1
  clear_value x2
  have h3 : Spared s x3 := .ite h2 (h2.wrs (by decide) (by simp +decide))
  clear_value x3
  exact h3.wrs (by decide) (by simp +decide)

theorem Spared.report (h : Spared s t) (i : Nat) (r : FltRec) : Spared s (t.report i r) := by
  unfold State.report
  extract_lets +onlyGivenNames recent w v
  have sent : Spared s v := h.same rfl rfl
  clear_value v
  exact .ite (.ite ((h.inc (f := R.FBK_FWD_DROP) (i := 0) (by decide) (by decide)).same rfl rfl) (sent.send _ _)) h

theorem Spared.loopFails (h : Spared s t) (i : Nat) : Spared s (t.loopFails i) := by
  unfold State.loopFails
  refine .ite ?_ h
  split
  · exact h
  split
  · exact h.whenCh _ fun v hv => hv.modCh _ fun _ => rfl
  · exact h

theorem Spared.raiseNew (h : Spared s t) {i : Nat} (named : Sw) (acts : BitVec 4) (r : FltRec) (lt : ∀ n, srcChan i = some n → n < 4) :
    Spared s (t.raiseNew i named acts r) := by
  unfold State.raiseNew
  extract_lets +onlyGivenNames w0 r' fail w1 x0 x1 x2 x3 x4 x5
  clear_value w0 r' fail
  have h0 : Spared s x0 := h.same rfl rfl
  clear_value w1 x0
  have h1 : Spared s x1 := h0.setFaultBit i
  clear_value x1
  have h2 : Spared s x2 := h1.capture i r'
  clear_value x2
  have h3 : Spared s x3 := h2.report i r'
  clear_value x3
  have h4 : Spared s x4 := h3.forCh fun m _ hv => hv.raiseOn i r' m
  clear_value x4
  have h5 : Spared s x5 := by
    subst x5
    split
    · next m e => exact .ite (h4.wr (lt m e) 0 (by decide)) h4
    · exact h4
  clear_value x5
  exact .ite (h5.haltAssert 6) h5

theorem Spared.raise (h : Spared s t) (i : Nat) (named : Sw) : Spared s (t.raise i named) := by
  unfold State.raise State.raiseActs
  split
  · exact h
  next on =>
  extract_lets named' x0 r r'
  have h0 : Spared s x0 := h.loopFails i
  clear_value x0
  refine .ite ?_ (.ite (h0.same rfl rfl) (h0.raiseNew _ _ _ fun n e => srcChan_lt (by revert on; simp +contextual [State.srcDisabled]) e))
  have h1 : Spared s (x0.setFr i { r' with named := r'.named ||| named' }) := h0.same rfl rfl
  exact .ite (h1.forCh fun m v hv => .ite (hv.modCh m fun _ => rfl) hv) h1

/-! ### The gates settle -/

theorem Spared.takeGates (h : Spared s t) (m : Ch) : Spared s (t.takeGates m) := h.modCh m fun _ => rfl

theorem Spared.settle (h : Spared s t) (m : Ch) : Spared s (t.settle m) :=
  .ite (h.takeGates m) (((h.takeGates m).raise _ 0).forCh fun m _ hv => hv.takeGates m)

theorem Spared.brkShow (h : Spared s t) (m : Ch) : Spared s (t.brkShow m) := by
  unfold State.brkShow
  extract_lets i on p ask x0 x1 acc
  have h0 : Spared s x0 := h.modCh m fun _ => rfl
  clear_value x0
  have h1 : Spared s x1 := (h0.wr m.isLt _ (by decide)).wr m.isLt _ (by decide)
  clear_value x1
  exact .ite ((h1.wr m.isLt 1 (by decide)).modCh m fun _ => rfl) (.ite ((h1.wr m.isLt _ (by decide)).modCh m fun _ => rfl) h1)

theorem Spared.settleAll (h : Spared s t) : Spared s t.settleAll := h.forCh fun m _ hv => hv.whenCh m fun _ hw => (hw.settle m).brkShow m

end

end Sys2Proof.Machine

/-! SUPPORT. O9: the observer's commands and timers, and the writes of the targets. -/

namespace Sys2Proof.Machine

section
variable {s t u : State} {n : Ch}

/-! ### The record of the observer -/

theorem State.modObs_obs (s : State) (n : Ch) (g : Obs → Obs) : ((s.modObs n g).ch n).obs = g (s.ch n).obs := by
  rw [State.modObs, State.ch_modCh_self]

theorem State.rd_modObs (s : State) (n : Ch) (g : Obs → Obs) (f : Fld) (i : Nat) : (s.modObs n g).rd f i = s.rd f i := rfl

theorem OnlyChan.now {l : List (Nat × Word)} (h : OnlyChan n l s t) : t.now = s.now := by
  obtain ⟨-, -, rest, -⟩ := h
  show ({ t with chan := s.chan } : State).rest.now = s.rest.now
  rw [rest]

theorem OnlyChan.modObs {l : List (Nat × Word)} (h : OnlyChan n l s t) (g : Obs → Obs) : OnlyChan n l s (t.modObs n g) := h.modCh _


theorem State.obsShow_ch (s : State) (n m : Ch) : (s.obsShow n).ch m = s.ch m := s.ch_wrs _ _ m

/-- What OBS.STATUS shows of the estimators. -/
def obsFields (n : Ch) : List (Nat × Word) := [R.OBS_STATUS_OBS_STATE.at n.val, R.OBS_STATUS_HFI_STATE.at n.val, R.OBS_STATUS_TIMED_OUT.at n.val]

theorem OnlyChan.obsShow {l : List (Nat × Word)} (h : OnlyChan n l s t) (c : ∀ e ∈ obsFields n, e ∈ l) : OnlyChan n l s (t.obsShow n) := by
  simp only [obsFields, List.forall_mem_cons] at c
  obtain ⟨obs, hfi, out, -⟩ := c
  exact h.wrs _ _ (by simp [obs, hfi, out]; decide)

theorem State.obsShow_out (s : State) (n : Ch) (out : (s.ch n).obs.obs.out = true) : (s.obsShow n).rd R.OBS_STATUS_TIMED_OUT n.val = 1 := by
  unfold State.obsShow
  rw [State.wrs, State.wrs, State.wrs, State.wrs, if_pos (by rw [out]; rfl)]
  exact State.rd_wr_lt (by decide) (by decide) _ _

/-! ### The polarity test (R273) -/

theorem execPolarityPulseEnd_on (on : s.chOn n = true) : exec (.polarityPulseEnd n) s = .next (
    let j := (s.ch n).obs.inj
    let h := f32Div j.sum (f32OfNat j.num)
    if j.pol = 1 then s.modObs n fun o => { o with inj := { o.inj with pol := 2, polT := s.now, hPlus := h, sum := 0#32, num := 0 } }
    else if j.pol = 2 then
      let q := polQ j.hPlus h
      let lim := f32OfRat (s.run R.OBS_POL_MIN n.val) 100
      let s := s.modObs n fun o => { o with inj := { o.inj with tries := j.tries + 1, q := q } }
      if f32Le lim q then s.polDone n false
      else if f32Le q (f32Opp lim) then s.polDone n true
      else if j.tries + 1 < s.run R.OBS_POL_TRIES n.val then
        s.modObs n fun o => { o with inj := { o.inj with pol := 1, polT := s.now, sum := 0#32, num := 0 } }
      else ((s.modObs n fun o => { o with inj := { o.inj with pol := 0 } }).raiseCh n oObsPolFail 0).settleAll
    else s) := congrArg Host.Outcome.next (State.whenCh_on on _)

/-- The test has counted one more pair of pulses. -/
def State.polTried (s : State) (n : Ch) (q : Word) : State :=
  s.modObs n fun o => { o with inj := { o.inj with tries := (s.ch n).obs.inj.tries + 1, q := q } }

theorem State.polDone_shows (s : State) (n : Ch) (turn : Bool) (q : Word) : ((s.polTried n q).polDone n turn).rd R.OBS_STATUS_POL_KNOWN n.val = 1 ∧
    ((s.polTried n q).polDone n turn).rd R.OBS_IRQ_POL_DONE n.val = 1 ∧ ((s.polTried n q).polDone n turn).rd R.OBS_STATUS_POL_FLIPPED n.val = turn.toNat ∧
    (((s.polTried n q).polDone n turn).ch n).obs.inj.pol = 0 ∧ (((s.polTried n q).polDone n turn).ch n).obs.inj.flip = turn ∧
    OnlyChan n [R.OBS_STATUS_POL_KNOWN.at n.val, R.OBS_IRQ_POL_DONE.at n.val, R.OBS_STATUS_POL_FLIPPED.at n.val] s ((s.polTried n q).polDone n turn) := by
  have only := (OnlyChan.refl n [R.OBS_STATUS_POL_KNOWN.at n.val, R.OBS_IRQ_POL_DONE.at n.val, R.OBS_STATUS_POL_FLIPPED.at n.val] s).modObs
    fun o => { o with inj := { o.inj with tries := (s.ch n).obs.inj.tries + 1, q := q } }
  unfold State.polDone
  change OnlyChan n _ s (s.polTried n q) at only
  generalize s.polTried n q = v at only ⊢
  refine ⟨?_, ?_, ?_, ?_, ?_, (only.wrs _ _ (by simp; decide)).modObs _⟩
  · rw [State.rd_modObs]
    simp (disch := decide) only [State.wrs, State.rd_wr_sep, State.rd_wr_lt]
  · rw [State.rd_modObs]
    simp (disch := decide) only [State.wrs, State.rd_wr_sep, State.rd_wr_lt]
  · rw [State.rd_modObs]
    cases turn <;> exact State.rd_wr_lt (by decide) (by decide) _ _
  · rw [State.modObs_obs]
  · rw [State.modObs_obs]

/-! ### The convergence time, and a reseed (R269, R270) -/

theorem State.estNamed_of {s t : State} (n : Ch) (hfi : Bool) (run : ∀ f ∈ [R.CH_MODE_START, R.CH_MODE_GANG, R.CH_MODE_FB, R.CH_MODE_FB2], t.run f n.val = s.run f n.val)
    (rd : ∀ f ∈ [R.CH_STATUS_HO_DEFER, R.CH_STATUS_HO_BLEND], t.rd f n.val = s.rd f n.val) (ho : (t.ch n).ho = (s.ch n).ho) : t.estNamed n hfi = s.estNamed n hfi := by
  simp only [List.forall_mem_cons] at run rd
  obtain ⟨start, gang, fb, fb2, -⟩ := run
  obtain ⟨defer, blend, -⟩ := rd
  simp only [State.estNamed, State.srcUsed, State.fb, State.fb2, State.on, start, gang, fb, fb2, defer, blend, ho]

/-- The observer's convergence time is over, and it shows. -/
def State.convOut (s : State) (n : Ch) : State := (s.modObs n fun o => { o with obs.out := true }).obsShow n

theorem State.convOut_shows (s : State) (n : Ch) : (s.convOut n).rd R.OBS_STATUS_TIMED_OUT n.val = 1 ∧ ((s.convOut n).ch n).obs.obs.out = true ∧
    OnlyChan n (obsFields n) s (s.convOut n) := by
  have out : ((s.modObs n fun o => { o with obs.out := true }).ch n).obs.obs.out = true := by rw [State.modObs_obs]
  unfold State.convOut
  exact ⟨State.obsShow_out _ n out, by rw [State.obsShow_ch, out], ((OnlyChan.refl n _ s).modObs _).obsShow fun _ h => h⟩

theorem State.convOut_named (s : State) (n : Ch) (hfi : Bool) : (s.convOut n).estNamed n hfi = s.estNamed n hfi := by
  obtain ⟨-, -, only⟩ := s.convOut_shows n
  have run : ∀ n : Ch, ∀ f ∈ [R.CH_MODE_START, R.CH_MODE_GANG, R.CH_MODE_FB, R.CH_MODE_FB2], f.ok ∧ f.mask &&& maskAt (obsFields n) (f.runAddr n.val) = 0#32 := by decide
  have rd : ∀ n : Ch, ∀ f ∈ [R.CH_STATUS_HO_DEFER, R.CH_STATUS_HO_BLEND], f.ok ∧ f.mask &&& maskAt (obsFields n) (f.addr n.val) = 0#32 := by decide
  refine State.estNamed_of n hfi (fun f hf => only.1.run f _ (run n f hf).1 (run n f hf).2) (fun f hf => only.1.rd f _ (rd n f hf).1 (rd n f hf).2) ?_
  unfold State.convOut State.modObs
  rw [State.obsShow_ch, State.ch_modCh_self]

theorem execObsConvTimeout_obs (on : s.chOn n = true) (st : (s.ch n).obs.obs.st ≠ 3) (timer : (s.ch n).obs.obs.tmr ≠ none) (out : (s.ch n).obs.obs.out = false) :
    exec (.obsConvTimeout n false) s = .next (if (s.convOut n).estNamed n false = true then ((s.convOut n).raiseCh n oObsNoconv 0).settleAll else s.convOut n) := by
  have runs : ¬((s.ch n).obs.obs.st = 3 ∨ (s.ch n).obs.obs.tmr = none ∨ (s.ch n).obs.obs.out = true) := by simp [st, timer, out]
  refine (congrArg Host.Outcome.next (State.whenCh_on on _)).trans (congrArg Host.Outcome.next ?_)
  exact if_neg runs

theorem execObsConvTimeout_none (on : s.chOn n = true) (idle : (s.ch n).obs.hfi.st = 3 ∨ (s.ch n).obs.hfi.tmr = none ∨ (s.ch n).obs.hfi.out = true) :
    exec (.obsConvTimeout n true) s = .next s :=
  (congrArg Host.Outcome.next (State.whenCh_on on _)).trans (congrArg Host.Outcome.next (if_pos idle))

theorem execObsReseed_both (on : s.chOn n = true) (obs : (s.ch n).obs.obs.st ≠ 3) (hfi : (s.ch n).obs.hfi.st ≠ 3) :
    exec (.obsReseed n) s = .next ((s.obsReset n).hfiReset n) := by
  have still : ((s.obsReset n).ch n).obs.hfi.st ≠ 3 := by
    unfold State.obsReset
    rw [State.obsShow_ch, State.ch_wr, State.modObs_obs]
    exact hfi
  refine (congrArg Host.Outcome.next (State.whenCh_on on _)).trans (congrArg Host.Outcome.next ?_)
  dsimp only
  rw [if_neg obs, if_neg still]

/-- The fields of a reset event. -/
def seedFields (n : Ch) : List (Nat × Word) :=
  [R.OBS_IRQ_SAPLING.at n.val, R.OBS_STATUS_OBS_STATE.at n.val, R.OBS_STATUS_HFI_STATE.at n.val, R.OBS_STATUS_TIMED_OUT.at n.val]

theorem State.reseeded_shows (s : State) (n : Ch) : ((s.obsReset n).hfiReset n).rd R.OBS_IRQ_SAPLING n.val = 1 ∧
    (((s.obsReset n).hfiReset n).ch n).obs.obs = (s.ch n).obs.obs.restart s.now ∧ (((s.obsReset n).hfiReset n).ch n).obs.hfi = (s.ch n).obs.hfi.restart s.now ∧
    (((s.obsReset n).hfiReset n).ch n).obs.inj.pol = 0 ∧ (((s.obsReset n).hfiReset n).ch n).obs.inj.flip = false ∧
    OnlyChan n (seedFields n) s ((s.obsReset n).hfiReset n) := by
  have only : OnlyChan n (seedFields n) s (s.obsReset n) :=
    (((OnlyChan.refl n (seedFields n) s).modObs _).wr _ _ _ (by decide) (by simp [seedFields])).obsShow (by simp [obsFields, seedFields])
  have record : ((s.obsReset n).ch n).obs = { (s.ch n).obs with obs := (s.ch n).obs.obs.restart s.now } := by
    unfold State.obsReset
    rw [State.obsShow_ch, State.ch_wr, State.modObs_obs]
  have now : (s.obsReset n).now = s.now := only.now
  generalize s.obsReset n = v at only record now ⊢
  have record' : ((v.hfiReset n).ch n).obs =
      { (v.ch n).obs with hfi := (v.ch n).obs.hfi.restart v.now, inj := { (v.ch n).obs.inj with pol := 0, tries := 0, flip := false } } := by
    unfold State.hfiReset
    rw [State.obsShow_ch, State.ch_wr, State.modObs_obs]
  rw [record', record, now]
  refine ⟨?_, rfl, rfl, rfl, rfl, ?_⟩
  · unfold State.hfiReset State.obsShow
    simp (disch := decide) only [State.wrs, State.rd_wr_sep, State.rd_wr_lt]
  · exact ((only.modObs _).wr _ _ _ (by decide) (by simp [seedFields])).obsShow (by simp [obsFields, seedFields])

end

end Sys2Proof.Machine

/-! SUPPORT. O9: the counters of the checks, the targets, and the obligation. -/

namespace Sys2Proof.Machine

section
variable {s t u : State} {n : Ch} {k : Nat}

/-- The first pulse of a polarity test has ended (R273). -/
def State.polHalf (s : State) (n : Ch) : State := s.modObs n fun o =>
  { o with inj := { o.inj with pol := 2, polT := s.now, hPlus := f32Div (s.ch n).obs.inj.sum (f32OfNat (s.ch n).obs.inj.num), sum := 0#32, num := 0 } }

/-- A further pair of pulses begins. -/
def State.polAgain (s : State) (n : Ch) (q : Word) : State :=
  (s.polTried n q).modObs n fun o => { o with inj := { o.inj with pol := 1, polT := s.now, sum := 0#32, num := 0 } }

/-! ### The counters of the checks (R278) -/

/-- The lowest digit that is not 0 already goes. -/
theorem clear_digit {p a : Nat} (h : p ∣ a) : p * 256 ∣ a - a / p % 256 * p := by
  obtain ⟨b, rfl⟩ := h
  rcases Nat.eq_zero_or_pos p with rfl | pos
  · simp
  · rw [Nat.mul_div_cancel_left b pos, Nat.mul_comm (b % 256) p, ← Nat.mul_sub]
    exact Nat.mul_dvd_mul_left p (Nat.dvd_sub_mod b)

theorem State.pc_lt (s : State) (n : Ch) (k : Nat) : s.pc n k < 256 := Nat.mod_lt _ (by decide)

/-- The register that holds the other checks' counters. -/
theorem State.pcPut_other (s : State) (n : Ch) (k v : Nat) {f : Fld} (ok : f.ok) (apart : (pcField k).1.apart n.val f n.val) (ok' : (pcField k).1.ok)
    (still : f.mask &&& (settleBits (f.addr n.val) ||| maskAt [] (f.addr n.val)) = 0#32) : (s.pcPut n k v).rd f n.val = s.rd f n.val :=
  (((Settled.refl [] _).condSet _ _).rd _ _ ok still).trans (State.rd_wr_ne _ _ _ _ _ _ ok' ok apart)

theorem pcntA_still : ∀ n : Ch, R.OBS_PCNT_A_C.mask &&& (settleBits (R.OBS_PCNT_A_C.addr n.val) ||| maskAt [] (R.OBS_PCNT_A_C.addr n.val)) = 0#32 := by decide +kernel

theorem pcntB_still : ∀ n : Ch, R.OBS_PCNT_B_C.mask &&& (settleBits (R.OBS_PCNT_B_C.addr n.val) ||| maskAt [] (R.OBS_PCNT_B_C.addr n.val)) = 0#32 := by decide +kernel

/-- A counter that is cleared leaves the others of its register. -/
theorem State.pcPut_zero (s : State) (n : Ch) {f : Fld} {j : Nat} (field : pcField k = (f, j)) (ok : f.ok)
    (still : f.mask &&& (settleBits (f.addr n.val) ||| maskAt [] (f.addr n.val)) = 0#32) :
    (s.pcPut n k 0).rd f n.val = s.rd f n.val - s.rd f n.val / 256 ^ j % 256 * 256 ^ j := by
  have put : (s.wr (pcField k).1 n.val (s.rd (pcField k).1 n.val - s.pc n k * 256 ^ (pcField k).2 + 0 * 256 ^ (pcField k).2)).rd f n.val =
      s.rd f n.val - s.rd f n.val / 256 ^ j % 256 * 256 ^ j := by
    unfold State.pc
    rw [field, Nat.zero_mul, Nat.add_zero]
    exact State.rd_wr_lt ok (Nat.lt_of_le_of_lt (Nat.sub_le _ _) (f.get_lt _)) _ _
  exact (((Settled.refl [] _).condSet _ _).rd _ _ ok still).trans put

theorem State.pcPut_dvd (s : State) (n : Ch) {f : Fld} {j : Nat} (field : pcField k = (f, j)) (ok : f.ok)
    (still : f.mask &&& (settleBits (f.addr n.val) ||| maskAt [] (f.addr n.val)) = 0#32) (h : 256 ^ j ∣ s.rd f n.val) :
    256 ^ (j + 1) ∣ (s.pcPut n k 0).rd f n.val := by
  rw [s.pcPut_zero n field ok still, Nat.pow_succ]
  exact clear_digit h

/-- The first `k` counters are cleared. -/
theorem State.pcClear_eq (s : State) (n : Ch) :
    s.pcClear n true = (((((s.pcPut n 0 0).pcPut n 1 0).pcPut n 2 0).pcPut n 3 0).pcPut n 4 0).pcPut n 5 0 := by
  unfold State.pcClear
  rw [show List.range 6 = [0, 1, 2, 3, 4, 5] from rfl]
  simp only [List.foldl_cons, List.foldl_nil, Bool.true_or, if_true]

theorem State.pcClear_zero (s : State) (n : Ch) : (s.pcClear n true).rd R.OBS_PCNT_A_C n.val = 0 ∧ (s.pcClear n true).rd R.OBS_PCNT_B_C n.val = 0 := by
  have apart : ∀ n : Ch, R.OBS_PCNT_B_C.apart n.val R.OBS_PCNT_A_C n.val := by decide
  rw [State.pcClear_eq]
  have a0 := s.pcPut_dvd n (k := 0) (j := 0) rfl (by decide) (pcntA_still n) (Nat.one_dvd _)
  generalize s.pcPut n 0 0 = s0 at a0 ⊢
  have a1 := s0.pcPut_dvd n (k := 1) (j := 1) rfl (by decide) (pcntA_still n) a0
  generalize s0.pcPut n 1 0 = s1 at a1 ⊢
  have a2 := s1.pcPut_dvd n (k := 2) (j := 2) rfl (by decide) (pcntA_still n) a1
  generalize s1.pcPut n 2 0 = s2 at a2 ⊢
  have a3 := s2.pcPut_dvd n (k := 3) (j := 3) rfl (by decide) (pcntA_still n) a2
  generalize s2.pcPut n 3 0 = s3 at a3 ⊢
  have b0 := s3.pcPut_dvd n (k := 4) (j := 0) rfl (by decide) (pcntB_still n) (Nat.one_dvd _)
  have a4 : (s3.pcPut n 4 0).rd R.OBS_PCNT_A_C n.val = s3.rd R.OBS_PCNT_A_C n.val := s3.pcPut_other n 4 0 (by decide) (apart n) (by decide) (pcntA_still n)
  generalize s3.pcPut n 4 0 = s4 at b0 a4 ⊢
  have b1 := s4.pcPut_dvd n (k := 5) (j := 1) rfl (by decide) (pcntB_still n) b0
  have a5 : (s4.pcPut n 5 0).rd R.OBS_PCNT_A_C n.val = s4.rd R.OBS_PCNT_A_C n.val := s4.pcPut_other n 5 0 (by decide) (apart n) (by decide) (pcntA_still n)
  refine ⟨?_, Nat.eq_zero_of_dvd_of_lt b1 (Fld.get_lt R.OBS_PCNT_B_C _)⟩
  rw [a5, a4]
  exact Nat.eq_zero_of_dvd_of_lt a3 (Fld.get_lt R.OBS_PCNT_A_C _)

theorem State.pcCleared (s : State) (n : Ch) : (s.pcClear n true).settleAll.rd R.OBS_PCNT_A_C n.val = 0 ∧ (s.pcClear n true).settleAll.rd R.OBS_PCNT_B_C n.val = 0 ∧
    ∀ k, k < 6 → (s.pcClear n true).settleAll.pc n k = 0 := by
  obtain ⟨a, b⟩ := s.pcClear_zero n
  have kept := (Settled.refl [] (s.pcClear n true)).settleAll
  have a' := (kept.rd _ _ (by decide) (pcntA_still n)).trans a
  have b' := (kept.rd _ _ (by decide) (pcntB_still n)).trans b
  refine ⟨a', b', fun k _ => ?_⟩
  have zero : (s.pcClear n true).settleAll.rd (pcField k).1 n.val = 0 := by
    unfold pcField
    split
    · exact a'
    · exact b'
  rw [State.pc, zero]
  simp

end

/-- Settles O9. -/
theorem observerAndTargetsAct : Obligations.ObserverAndTargetsAct := by
  unfold Obligations.ObserverAndTargetsAct
  refine ⟨fun n s on => ⟨fun pol => ?_, fun q pol hq => ⟨fun high => ?_, fun high low => ?_, fun high low more => ?_⟩, fun st timer out => ?_,
    fun idle => execObsConvTimeout_none on idle, fun obs hfi => ?_, ?_⟩, fun n s on => ⟨fun v free fin => ?_, fun v bars => ?_, fun v free => ?_, fun v held => ?_, ?_⟩⟩
  · refine ⟨s.polHalf n, ?_, (OnlyChan.refl n [] s).modObs _, ?_⟩
    · rw [execPolarityPulseEnd_on on]
      exact congrArg Host.Outcome.next (if_pos pol)
    unfold State.polHalf
    rw [State.modObs_obs]
  · obtain ⟨known, done, flipped, ended, turn, only⟩ := s.polDone_shows n false q
    subst hq
    refine ⟨_, ?_, known, done, flipped, ended, turn, only⟩
    rw [execPolarityPulseEnd_on on]
    exact congrArg Host.Outcome.next ((if_neg (by rw [pol]; decide)).trans ((if_pos pol).trans (if_pos high)))
  · obtain ⟨known, done, flipped, ended, turn, only⟩ := s.polDone_shows n true q
    subst hq
    refine ⟨_, ?_, known, done, flipped, ended, turn, only⟩
    rw [execPolarityPulseEnd_on on]
    exact congrArg Host.Outcome.next ((if_neg (by rw [pol]; decide)).trans ((if_pos pol).trans ((if_neg (by rw [high]; decide)).trans (if_pos low))))
  · refine ⟨s.polAgain n q, ?_, ?_, ?_, ((OnlyChan.refl n [] s).modObs _).modObs _⟩
    · subst hq
      rw [execPolarityPulseEnd_on on]
      exact congrArg Host.Outcome.next ((if_neg (by rw [pol]; decide)).trans ((if_pos pol).trans ((if_neg (by rw [high]; decide)).trans
        ((if_neg (by rw [low]; decide)).trans (if_pos more)))))
    · rw [State.polAgain, State.modObs_obs]
    · rw [State.polAgain, State.modObs_obs, State.polTried, State.modObs_obs]
  · obtain ⟨shown, held, only⟩ := s.convOut_shows n
    have named := s.convOut_named n false
    rw [execObsConvTimeout_obs on st timer out, named]
    cases estNamed : s.estNamed n false with
    | true =>
      obtain ⟨shown', held', -⟩ := ((Spared.refl (s.convOut n)).raise (srcCh n.val oObsNoconv) 0).settleAll n
      exact ⟨_, rfl, shown'.trans shown, held'.trans held, fun h => absurd h (by decide)⟩
    | false => exact ⟨s.convOut n, rfl, shown, held, fun _ => only⟩
  · exact ⟨_, execObsReseed_both on obs hfi, s.reseeded_shows n⟩
  · exact ⟨_, congrArg Host.Outcome.next (State.whenCh_on on _), s.pcCleared n⟩
  · refine ⟨s.wr R.SPT_TGT n.val v.toNat, ?_, State.rdw_wr_word (by decide) (by decide) s n.val v, (OnlyRegs.refl _ s).wr _ _ _ (by decide) (by simp)⟩
    exact (congrArg Host.Outcome.next (State.whenCh_on on _)).trans (congrArg Host.Outcome.next (if_neg (by simp [State.tgtHeld, State.on, free, fin])))
  · refine ⟨s.wr R.SPT_IRQ_TGT_REJ n.val 1, ?_, State.rd_wr_lt (by decide) (by decide) _ _, (OnlyRegs.refl _ s).wr _ _ _ (by decide) (by simp)⟩
    exact (congrArg Host.Outcome.next (State.whenCh_on on _)).trans
      (congrArg Host.Outcome.next (if_pos (by rcases bars with h | h <;> simp [State.tgtHeld, State.on, h])))
  · have whole : v.toNat % 65536 = v.toNat := Nat.mod_eq_of_lt v.isLt
    refine ⟨(s.wr R.SPT_PTGT_FRAC n.val v.toNat).modSpt n fun t => { t with ptgt := posOf (s.rd R.SPT_PTGT_TURNS n.val) (v.toNat % 65536) }, ?_, ?_, ?_,
      ((OnlyChan.refl n _ s).wr _ _ _ (by decide) (by simp)).modCh _⟩
    · exact (congrArg Host.Outcome.next (State.whenCh_on on _)).trans (congrArg Host.Outcome.next (if_neg (by simp [State.tgtHeld, State.on, free])))
    · exact State.rd_wr_lt (by decide) v.isLt s n.val
    · rw [State.modSpt, State.ch_modCh_self, State.ch_wr, whole]
  · refine ⟨s.wr R.SPT_IRQ_TGT_REJ n.val 1, ?_, State.rd_wr_lt (by decide) (by decide) _ _, (OnlyRegs.refl _ s).wr _ _ _ (by decide) (by simp)⟩
    exact (congrArg Host.Outcome.next (State.whenCh_on on _)).trans (congrArg Host.Outcome.next (if_pos (by simp [State.tgtHeld, State.on, held])))
  · exact ⟨_, congrArg Host.Outcome.next (State.whenCh_on on _), State.rd_wr_lt (by decide) (by decide) _ _, (OnlyRegs.refl _ s).wr _ _ _ (by decide) (by simp)⟩

end Sys2Proof.Machine

/-! SUPPORT. O11: the drain-source and bootstrap comparators, and the brake chopper. -/

namespace Sys2Proof.Machine

section
variable {s t u : State} {n : Ch}

/-! ### Drain-source comparators (R176 to R181) -/

/-- The mask of one switch. -/
theorem getLsbD_switch_nat (j : Fin 6) (k : Nat) : (BitVec.ofNat 6 (2 ^ j.val)).getLsbD k = decide (k = j.val) := by
  by_cases lt : k < 6
  · rw [show k = (⟨k, lt⟩ : Fin 6).val from rfl, getLsbD_switch]
    simp [Fin.ext_iff]
  · rw [BitVec.getLsbD_of_ge _ _ (Nat.not_lt.1 lt), decide_eq_false fun e : k = j.val => lt (by rw [e]; exact j.isLt)]

theorem getLsbD_without (m : Sw) (j : Fin 6) (k : Nat) :
    (m &&& ~~~ BitVec.ofNat 6 (2 ^ j.val)).getLsbD k = (m.getLsbD k && decide (k ≠ j.val)) := by
  rw [BitVec.getLsbD_and, BitVec.getLsbD_not, getLsbD_switch_nat]
  by_cases lt : k < 6
  · simp [lt]
  · rw [BitVec.getLsbD_of_ge m k (Nat.not_lt.1 lt), Bool.false_and, Bool.false_and]

theorem getLsbD_with (m : Sw) (j : Fin 6) (k : Nat) : (m ||| BitVec.ofNat 6 (2 ^ j.val)).getLsbD k = (m.getLsbD k || decide (k = j.val)) := by
  rw [BitVec.getLsbD_or, getLsbD_switch_nat]

/-- The blanking of a comparator ends (R177). -/
theorem execVdsBlankingEnd_shows (on : s.chOn n = true) (sw : Fin 6) (hot : Bool) :
    ∃ t, exec (.vdsBlankingEnd n sw hot) s = .next t ∧ OnlyChan n [] s t ∧
      ∀ k, (t.ch n).prot.vdsBlank.getLsbD k = ((s.ch n).prot.vdsBlank.getLsbD k && decide (k ≠ sw.val)) ∧
        (t.ch n).prot.vdsFilt.getLsbD k =
          ((s.ch n).prot.vdsFilt.getLsbD k || (hot && decide (k = sw.val) && (s.ch n).prot.vdsBlank.getLsbD k)) := by
  refine ⟨_, congrArg Host.Outcome.next (State.whenCh_on on _), (OnlyChan.refl n [] s).modCh _, fun k => ?_⟩
  rw [State.ch_modCh_self]
  refine ⟨getLsbD_without _ _ _, ?_⟩
  dsimp only
  cases hot with
  | false => simp
  | true =>
    cases blank : (s.ch n).prot.vdsBlank.getLsbD sw.val with
    | true =>
      rw [Bool.and_self, if_pos rfl, getLsbD_with]
      by_cases e : k = sw.val
      · simp [e, blank]
      · simp [e]
    | false =>
      rw [Bool.and_false, if_neg (by decide)]
      by_cases e : k = sw.val
      · rw [e, blank, Bool.and_false, Bool.or_false]
      · simp [e]

/-- The registers that the first trip holds are in no reach of the settling. -/
theorem first_still : ∀ n : Ch, ∀ f ∈ [R.GD_IRQ_TRIP, R.GD_IRQ_BST_UV, R.GD_FIRST_VALID, R.GD_FIRST_KIND, R.GD_FIRST_SWITCH, R.GD_FIRST_POS],
    f.ok ∧ f.mask &&& (settleBits (f.addr n.val) ||| maskAt [R.GD_STATUS_SHORT2.at n.val, R.GD_IRQ_SHORT2.at n.val] (f.addr n.val)) = 0#32 := by
  decide +kernel

theorem State.gdFirst_eq (s : State) (n : Ch) (sw kind : Nat) : s.gdFirst n sw kind = if s.on R.GD_FIRST_VALID n.val then s
    else s.wrs n.val [(R.GD_FIRST_VALID, 1), (R.GD_FIRST_SWITCH, sw), (R.GD_FIRST_KIND, kind), (R.GD_FIRST_POS, (s.ch n).car.pos / 32)] := rfl

/-- The first trip since VALID was cleared is held; a later one leaves it (R180). -/
theorem State.gdFirst_shows (s : State) (n : Ch) {sw kind : Nat} (hsw : sw < R.GD_FIRST_SWITCH.size) (hkind : kind < R.GD_FIRST_KIND.size) :
    (s.gdFirst n sw kind).rd R.GD_FIRST_VALID n.val = 1 ∧
      (s.rd R.GD_FIRST_VALID n.val = 0 → (s.gdFirst n sw kind).rd R.GD_FIRST_KIND n.val = kind ∧ (s.gdFirst n sw kind).rd R.GD_FIRST_SWITCH n.val = sw ∧
        (s.gdFirst n sw kind).rd R.GD_FIRST_POS n.val = (s.ch n).car.pos / 32 % 2 ^ 18) := by
  have lt : s.rd R.GD_FIRST_VALID n.val < 2 := Fld.get_lt R.GD_FIRST_VALID _
  rw [State.gdFirst_eq]
  by_cases held : s.rd R.GD_FIRST_VALID n.val = 0
  · rw [if_neg (by simp [State.on, held])]
    simp only [State.wrs]
    refine ⟨?_, fun _ => ⟨?_, ?_, ?_⟩⟩
    · simp (disch := decide) only [State.rd_wr_sep, State.rd_wr_lt]
    · rw [State.rd_wr_sep _ _ _ _ _ (by decide), State.rd_wr_lt (by decide) hkind]
    · rw [State.rd_wr_sep _ _ _ _ _ (by decide), State.rd_wr_sep _ _ _ _ _ (by decide), State.rd_wr_lt (by decide) hsw]
    · exact State.rd_wr _ _ _ _ (by decide)
  · have valid : s.rd R.GD_FIRST_VALID n.val = 1 := by omega
    rw [if_pos (by simp [State.on, held])]
    exact ⟨valid, fun none => absurd none held⟩

theorem State.gdFirst_rd (s : State) (n : Ch) (sw kind : Nat) {f : Fld}
    (c : ∀ g ∈ [R.GD_FIRST_VALID, R.GD_FIRST_SWITCH, R.GD_FIRST_KIND, R.GD_FIRST_POS], g.sep f = true) : (s.gdFirst n sw kind).rd f n.val = s.rd f n.val := by
  rw [State.gdFirst_eq]
  split
  · rfl
  · simp only [State.wrs]
    rw [State.rd_wr_sep _ _ _ _ _ (c _ (by simp)), State.rd_wr_sep _ _ _ _ _ (c _ (by simp)), State.rd_wr_sep _ _ _ _ _ (c _ (by simp)),
      State.rd_wr_sep _ _ _ _ _ (c _ (by simp))]

/-- What a trip reaches beside what the settling does: SHORT2 and its flag; the channel's own record is left aside. -/
def ShortReach (n : Ch) (s t : State) : Prop := Reached [R.GD_STATUS_SHORT2.at n.val, R.GD_IRQ_SHORT2.at n.val] (fun _ => ()) s t

theorem settles_shortReach (n : Ch) (s : State) : Settles (ShortReach n s) := settles_reached _ (fun _ _ _ => rfl) s

theorem ShortReach.modCh (h : ShortReach n s t) (g : Chan → Chan) : ShortReach n s (t.modCh n g) := Reached.record h rfl rfl

theorem ShortReach.shortTrip (h : ShortReach n s t) (m : Sw) : ShortReach n s (t.shortTrip n m) := by
  unfold State.shortTrip
  extract_lets p all v w x
  have noted : ShortReach n s v := h.modCh _
  have raised : ShortReach n s w := State.raiseCh_keeps (settles_shortReach n s) noted
  have shown : ShortReach n s x := by
    have marked : ShortReach n s (w.wrs n.val [(R.GD_STATUS_SHORT2, 1), (R.GD_IRQ_SHORT2, 1)]) :=
      Reached.wr (fun _ _ _ => rfl) (Reached.wr (fun _ _ _ => rfl) raised _ _ _ (by decide) (by simp)) _ _ _ (by decide) (by simp)
    show ShortReach n s (if _ then _ else _)
    split
    · exact marked
    · exact raised
  clear_value v w x
  split
  · exact State.short2Update_keeps (settles_shortReach n s) shown
  · exact noted

/-- The trip as it is first held. -/
def State.tripHeld (s : State) (n : Ch) (sw : Fin 6) : State := (s.wr R.GD_IRQ_TRIP n.val 1).gdFirst n sw.val 1

/-- What a trip does once it is held spares what holds it. -/
theorem State.vdsTrip_reaches (s : State) (n : Ch) (sw : Fin 6) : ShortReach n (s.tripHeld n sw) (s.vdsTrip n sw) := by
  unfold State.vdsTrip
  extract_lets i b u v w x
  have off : ShortReach n u v := ShortReach.modCh (Reached.refl _ _ u) _
  have shorted : ShortReach n u w := (State.raiseCh_keeps (settles_shortReach n u) off : ShortReach n u _).shortTrip _
  have settled : ShortReach n u x := State.condOff_keeps (settles_shortReach n u) (State.settleAll_keeps (settles_shortReach n u) shorted)
  show ShortReach n u _
  clear_value u v w x
  split
  · exact settled
  · exact State.settle_keeps (settles_shortReach n u) (State.short2Update_keeps (settles_shortReach n u) (settled.modCh _))

theorem ShortReach.rd (h : ShortReach n s t) {f : Fld}
    (c : f ∈ [R.GD_IRQ_TRIP, R.GD_IRQ_BST_UV, R.GD_FIRST_VALID, R.GD_FIRST_KIND, R.GD_FIRST_SWITCH, R.GD_FIRST_POS]) : t.rd f n.val = s.rd f n.val :=
  Reached.rd h f n.val (first_still n f c).1 (first_still n f c).2

theorem State.vdsTrip_shows (s : State) (n : Ch) (sw : Fin 6) :
    (s.vdsTrip n sw).rd R.GD_IRQ_TRIP n.val = 1 ∧ (s.vdsTrip n sw).rd R.GD_FIRST_VALID n.val = 1 ∧
      (s.rd R.GD_FIRST_VALID n.val = 0 → (s.vdsTrip n sw).rd R.GD_FIRST_KIND n.val = 1 ∧ (s.vdsTrip n sw).rd R.GD_FIRST_SWITCH n.val = sw.val ∧
        (s.vdsTrip n sw).rd R.GD_FIRST_POS n.val = (s.ch n).car.pos / 32 % 2 ^ 18) := by
  have kept := s.vdsTrip_reaches n sw
  have small : sw.val < R.GD_FIRST_SWITCH.size := Nat.lt_trans sw.isLt (by decide)
  obtain ⟨valid, first⟩ := (s.wr R.GD_IRQ_TRIP n.val 1).gdFirst_shows n small (kind := 1) (by decide)
  have flagged : (s.tripHeld n sw).rd R.GD_IRQ_TRIP n.val = 1 :=
    (State.gdFirst_rd _ _ _ _ (by decide)).trans (State.rd_wr_lt (by decide) (by decide) _ _)
  rw [State.rd_wr_sep _ _ _ _ _ (by decide)] at first
  refine ⟨(kept.rd (by simp)).trans flagged, (kept.rd (by simp)).trans valid, fun none => ?_⟩
  obtain ⟨kind, switch, pos⟩ := first none
  exact ⟨(kept.rd (by simp)).trans kind, (kept.rd (by simp)).trans switch, (kept.rd (by simp)).trans pos⟩

/-! ### Bootstrap comparators (R173, R174) -/

/-- What a bootstrap's undervoltage may show. -/
def bstReach (n : Ch) : List (Nat × Word) :=
  [R.GD_STATUS_BST_UV.at n.val, R.GD_IRQ_BST_UV.at n.val, R.GD_FIRST_VALID.at n.val, R.GD_FIRST_SWITCH.at n.val, R.GD_FIRST_KIND.at n.val, R.GD_FIRST_POS.at n.val]

theorem State.gdFirst_settled {l : List (Nat × Word)} (h : Settled l s t) (sw kind : Nat)
    (c : ∀ f ∈ [R.GD_FIRST_VALID, R.GD_FIRST_SWITCH, R.GD_FIRST_KIND, R.GD_FIRST_POS], f.at n.val ∈ l) : Settled l s (t.gdFirst n sw kind) := by
  rw [State.gdFirst_eq]
  split
  · exact h
  · simp only [State.wrs]
    exact (((h.wr _ _ _ (by decide) (c _ (by simp))).wr _ _ _ (by decide) (c _ (by simp))).wr _ _ _ (by decide) (c _ (by simp))).wr _ _ _ (by decide) (c _ (by simp))

/-- The undervoltage as it is first held, before its source is raised. -/
def State.bstHeld (s : State) (n : Ch) (x : Fin 3) : State := (s.wr R.GD_IRQ_BST_UV n.val 1).gdFirst n x.val 3

theorem State.bstHeld_shows (s : State) (n : Ch) (x : Fin 3) :
    (s.bstHeld n x).rd R.GD_IRQ_BST_UV n.val = 1 ∧ (s.bstHeld n x).rd R.GD_FIRST_VALID n.val = 1 ∧ (s.bstHeld n x).rd R.GD_STATUS_BST_UV n.val = s.rd R.GD_STATUS_BST_UV n.val := by
  have small : x.val < R.GD_FIRST_SWITCH.size := Nat.lt_trans x.isLt (by decide)
  refine ⟨(State.gdFirst_rd _ _ _ _ (by decide)).trans (State.rd_wr_lt (by decide) (by decide) _ _), (State.gdFirst_shows _ n small (by decide)).1, ?_⟩
  exact (State.gdFirst_rd _ _ _ _ (by decide)).trans (State.rd_wr_sep _ _ _ _ _ (by decide))

theorem execBstUvTrip_shows (on : s.chOn n = true) {x : Fin 3} (free : s.underTest n (18 + x.val) = false) :
    ∃ t, exec (.bstUvTrip n x) s = .next t ∧ t.bit R.GD_STATUS_BST_UV n.val x.val = true ∧
      ((s.chState n).bstDrives = true → t.rd R.GD_IRQ_BST_UV n.val = 1 ∧ t.rd R.GD_FIRST_VALID n.val = 1) ∧ Settled (bstReach n) s t := by
  have state : (s.orBits R.GD_STATUS_BST_UV n.val (2 ^ x.val)).chState n = s.chState n := by
    have apart : ∀ n : Ch, R.GD_STATUS_BST_UV.apart n.val R.CH_STATUS_STATE n.val := by decide
    have power : ∀ n : Ch, R.GD_STATUS_BST_UV.apart n.val R.PWR_DOM_STATE_ON 0 := by decide
    have on' : (s.orBits R.GD_STATUS_BST_UV n.val (2 ^ x.val)).chOn n = s.chOn n := by
      simp only [State.chOn, State.domOn, State.bit, State.orBits]
      rw [State.rd_wr_ne _ _ _ _ _ _ (by decide) (by decide) (power n)]
    rw [State.chState, on', State.orBits, State.rd_wr_ne _ _ _ _ _ _ (by decide) (by decide) (apart n), State.chState]
  have bits : ∀ x : Fin 3, 2 ^ x.val < R.GD_STATUS_BST_UV.size := by decide
  have tripped := State.bit_orBits (f := R.GD_STATUS_BST_UV) (by decide) s n.val x.val (bits x)
  have shown : Settled (bstReach n) s (s.orBits R.GD_STATUS_BST_UV n.val (2 ^ x.val)) := (Settled.refl _ s).wr _ _ _ (by decide) (by simp [bstReach])
  have run : exec (.bstUvTrip n x) s = .next (if ((s.orBits R.GD_STATUS_BST_UV n.val (2 ^ x.val)).chState n).bstDrives then
      (s.orBits R.GD_STATUS_BST_UV n.val (2 ^ x.val)).bstUvRaise n x else s.orBits R.GD_STATUS_BST_UV n.val (2 ^ x.val)).settleAll :=
    (congrArg Host.Outcome.next (State.whenCh_on on _)).trans (congrArg Host.Outcome.next (if_neg (by rw [free]; decide)))
  rw [state] at run
  generalize s.orBits R.GD_STATUS_BST_UV n.val (2 ^ x.val) = u at tripped shown run
  cases drives : (s.chState n).bstDrives with
  | false =>
    rw [drives, if_neg (by decide)] at run
    exact ⟨_, run, ((Spared.refl u).settleAll n).2.2 _ tripped, fun h => absurd h (by decide), shown.settleAll⟩
  | true =>
    rw [drives, if_pos rfl] at run
    obtain ⟨flagged, valid, kept⟩ := u.bstHeld_shows n x
    have held : Settled (bstReach n) s (u.bstHeld n x) :=
      State.gdFirst_settled (shown.wr _ _ _ (by decide) (by simp [bstReach])) _ _ (by simp [bstReach])
    have still : (u.bstHeld n x).bit R.GD_STATUS_BST_UV n.val x.val = true := by rw [State.bit, kept]; exact tripped
    have raised : Settled [] (u.bstHeld n x) (u.bstUvRaise n x).settleAll := ((Settled.refl [] (u.bstHeld n x)).raise _ _).settleAll
    refine ⟨_, run, (((Spared.refl (u.bstHeld n x)).raise _ _).settleAll n).2.2 _ still, fun _ => ?_, (held.raise _ _).settleAll⟩
    have reached : ShortReach n (u.bstHeld n x) (u.bstUvRaise n x).settleAll :=
      (Settled.mono raised fun _ none => absurd none List.not_mem_nil).reached fun _ _ _ => rfl
    exact ⟨(reached.rd (by simp)).trans flagged, (reached.rd (by simp)).trans valid⟩

/-- A bootstrap's warning (R173). -/
theorem execBstWarnTrip_shows (on : s.chOn n = true) {x : Fin 3} (free : s.underTest n (21 + x.val) = false) :
    ∃ t, exec (.bstWarnTrip n x) s = .next t ∧ t.bit R.GD_STATUS_BST_WARN n.val x.val = true ∧ t.rd R.GD_IRQ_BST_WARN n.val = 1 ∧
      OnlyRegs [R.GD_STATUS_BST_WARN.at n.val, R.GD_IRQ_BST_WARN.at n.val] s t := by
  have bits : ∀ x : Fin 3, 2 ^ x.val < R.GD_STATUS_BST_WARN.size := by decide
  refine ⟨(s.orBits R.GD_STATUS_BST_WARN n.val (2 ^ x.val)).wr R.GD_IRQ_BST_WARN n.val 1, ?_, ?_, State.rd_wr_lt (by decide) (by decide) _ _,
    ((OnlyRegs.refl _ s).wr _ _ _ (by decide) (by simp)).wr _ _ _ (by decide) (by simp)⟩
  · exact (congrArg Host.Outcome.next (State.whenCh_on on _)).trans (congrArg Host.Outcome.next (if_neg (by rw [free]; decide)))
  · rw [State.bit, State.rd_wr_sep _ _ _ _ _ (by decide)]
    exact State.bit_orBits (by decide) s n.val x.val (bits x)

/-- A comparator under test trips nothing (R206). -/
theorem exec_bst_tested (on : s.chOn n = true) (x : Fin 3) : (s.underTest n (21 + x.val) = true → exec (.bstWarnTrip n x) s = .next s) ∧
    (s.underTest n (18 + x.val) = true → exec (.bstUvTrip n x) s = .next s) :=
  ⟨fun tested => (congrArg Host.Outcome.next (State.whenCh_on on _)).trans (congrArg Host.Outcome.next (if_pos tested)),
    fun tested => (congrArg Host.Outcome.next (State.whenCh_on on _)).trans (congrArg Host.Outcome.next (if_pos tested))⟩

/-! ### The brake chopper (R183, R185) -/

theorem hyst_still : ∀ n : Ch, R.BRK_STATUS_HYST.mask &&& (settleBits (R.BRK_STATUS_HYST.addr n.val) ||| maskAt [] (R.BRK_STATUS_HYST.addr n.val)) = 0#32 ∧
    R.BRK_IRQ_OVERTIME.mask &&& (settleBits (R.BRK_IRQ_OVERTIME.addr n.val) ||| maskAt [] (R.BRK_IRQ_OVERTIME.addr n.val)) = 0#32 := by decide +kernel

theorem execBrakeComparator_shows (on : s.chOn n = true) (above : Bool) (free : s.underTest n 11 = false) :
    ∃ t, exec (.brakeComparator n above) s = .next t ∧ t.rd R.BRK_STATUS_HYST n.val = above.toNat ∧ Settled [R.BRK_STATUS_HYST.at n.val] s t := by
  have shown : Settled [R.BRK_STATUS_HYST.at n.val] s (s.flag R.BRK_STATUS_HYST n.val above) := (Settled.refl _ s).wr _ _ _ (by decide) (by simp)
  have value : (s.flag R.BRK_STATUS_HYST n.val above).rd R.BRK_STATUS_HYST n.val = above.toNat := by
    cases above with
    | false => exact State.rd_wr_lt (by decide) (by decide) s n.val
    | true => exact State.rd_wr_lt (by decide) (by decide) s n.val
  refine ⟨_, (congrArg Host.Outcome.next (State.whenCh_on on _)).trans (congrArg Host.Outcome.next (if_neg (by rw [free]; decide))), ?_,
    State.brkShow_keeps (settles_settled _ s) shown⟩
  exact ((State.brkShow_settled _ n).rd _ _ (by decide) (hyst_still n).1).trans value

/-- The longest on-time of the brake gate is over: its source is raised, and the gate stays off where no fault state holds it. -/
def State.brkRaised (s : State) (n : Ch) : State := (s.wr R.BRK_IRQ_OVERTIME n.val 1).raise (srcCh n.val oBrkOvertime) 0

theorem State.brkRaised_shows (s : State) (n : Ch) (b : Bool) :
    (((s.brkRaised n).modCh n fun c => { c with prot.brkCut := b }).settleAll).rd R.BRK_IRQ_OVERTIME n.val = 1 ∧
      Settled [R.BRK_IRQ_OVERTIME.at n.val] s ((s.brkRaised n).modCh n fun c => { c with prot.brkCut := b }).settleAll := by
  have cut {l : List (Nat × Word)} {t u : State} (h : Settled l t u) : Settled l t (u.modCh n fun c => { c with prot.brkCut := b }).settleAll :=
    Settled.settleAll ((settles_settled l t).modCh (fun _ => rfl) h)
  have flagged : Settled [R.BRK_IRQ_OVERTIME.at n.val] s (s.wr R.BRK_IRQ_OVERTIME n.val 1) := (Settled.refl _ s).wr _ _ _ (by decide) (by simp)
  refine ⟨?_, cut (flagged.raise _ _)⟩
  exact ((cut ((Settled.refl [] (s.wr R.BRK_IRQ_OVERTIME n.val 1)).raise _ _)).rd _ _ (by decide) (hyst_still n).2).trans
    (State.rd_wr_lt (by decide) (by decide) _ _)

theorem execBrkOvertime_shows (on : s.chOn n = true) (conducts : (s.ch n).prot.brkOn = true) (limited : s.run R.BRK_MAXON n.val ≠ 0) :
    exec (.brkOvertime n) s = .next ((s.brkRaised n).modCh n fun c => { c with prot.brkCut := !(s.brkRaised n).brkHeld n }).settleAll :=
  (congrArg Host.Outcome.next (State.whenCh_on on _)).trans (congrArg Host.Outcome.next (if_pos (by simp [conducts, limited])))

theorem execBrkOvertime_none (on : s.chOn n = true) (h : (s.ch n).prot.brkOn = false ∨ s.run R.BRK_MAXON n.val = 0) : exec (.brkOvertime n) s = .next s :=
  (congrArg Host.Outcome.next (State.whenCh_on on _)).trans (congrArg Host.Outcome.next (if_neg (by rcases h with h | h <;> simp [h])))

end
end Sys2Proof.Machine

/-! SUPPORT. O11: limp mode, and the obligation. -/

namespace Sys2Proof.Machine

section
variable {s t u : State} {n : Ch} {a b c : Int}

/-! ### The limp pulse ends (R207, R208; log 146) -/

/-- A settling leaves the limp pulse as it stands. -/
theorem limpOn_of_still {s t : State} (e : t.still = s.still) (n : Ch) : (t.ch n).prot.limpOn = (s.ch n).prot.limpOn := by
  have kept : (t.ch n).still = (s.ch n).still := by
    rw [← show t.still.ch n = (t.ch n).still from Vector.getElem_map Chan.still n.isLt,
      ← show s.still.ch n = (s.ch n).still from Vector.getElem_map Chan.still n.isLt, e]
  exact show (t.ch n).still.prot.limpOn = (s.ch n).still.prot.limpOn by rw [kept]

/-- The channel with its limp pulse ended, before the gates follow. -/
def State.limpEnded (s : State) (n : Ch) : State := s.modCh n fun c => { c with prot.limpOn := false }

theorem State.limpEnded_settle (s : State) (n : Ch) :
    Settled [] (s.limpEnded n) ((s.limpEnded n).settle n) ∧ (((s.limpEnded n).settle n).ch n).prot.limpOn = false := by
  have kept := (s.limpEnded n).settle_settled n
  refine ⟨kept, (limpOn_of_still kept.2 n).trans ?_⟩
  rw [State.limpEnded, State.ch_modCh_self]

theorem execLimpComparatorTrip_ends (on : s.chOn n = true) (limp : s.chState n = .limp) (trips : s.limpTrips n a b c = true)
    (free : s.underTest n 24 = false) : exec (.limpComparatorTrip n a b c) s = .next ((s.limpEnded n).settle n) :=
  (congrArg Host.Outcome.next (State.whenCh_on on _)).trans (congrArg Host.Outcome.next (if_pos (by simp [limp, free, trips])))

theorem execLimpComparatorTrip_none (on : s.chOn n = true) (h : s.chState n ≠ .limp ∨ s.limpTrips n a b c = false ∨ s.underTest n 24 = true) :
    exec (.limpComparatorTrip n a b c) s = .next s :=
  (congrArg Host.Outcome.next (State.whenCh_on on _)).trans
    (congrArg Host.Outcome.next (if_neg (by rcases h with h | h | h <;> simp [h])))

theorem execLimpDmaxEnd_ends (on : s.chOn n = true) (limp : s.chState n = .limp) : exec (.limpDmaxEnd n) s = .next ((s.limpEnded n).settle n) :=
  (congrArg Host.Outcome.next (State.whenCh_on on _)).trans (congrArg Host.Outcome.next (if_pos (by simp [limp])))

/-- The comparator ends a pulse of the chopped high side that is on and past its blanking, as the current reaches the ramp. -/
theorem State.limpTrips_iff (s : State) (n : Ch) (a b c : Int) : s.limpTrips n a b c = true ↔ ∃ k : Fin 6, s.limpHigh n = some k ∧ (s.ch n).prot.gates.getLsbD k.val = true ∧
    R.CMP_LIMP_CFG_LEB.get (s.ch n).prot.limpCfg * 10 ≤ s.now - (s.ch n).prot.swAt[k] ∧
    (s.limpRamp n (s.now - (s.ch n).prot.swAt[k]) : Int) ≤ s.limpCurrent n a b c * 2560 := by
  unfold State.limpTrips
  cases s.limpHigh n with
  | none => simp
  | some k =>
    simp only [Option.any_some, Bool.and_eq_true, decide_eq_true_eq, Option.some.injEq, exists_eq_left']
    rw [and_assoc]
    refine and_congr_right' (and_congr_right' ?_)
    exact_mod_cast Iff.rfl

/-! ### The limp boundary (R207) -/

/-- A register of another page is written. -/
theorem SameCarrier.wrAway (h : SameCarrier n s t) {f : Fld} {i : Nat}
    (away : f.addr i ≠ R.PWM_PERIOD_CNT_COUNT.addr n.val ∧ f.addr i ≠ R.PWM_PERIOD.runAddr n.val ∧ f.addr i ≠ R.PWM_CFG_SYNC.runAddr n.val ∧
      f.addr i ≠ R.PWM_CFG_LOOPDIV.runAddr n.val) (v : Nat) : SameCarrier n s (t.wr f i v) := by
  have word {a : Nat} (ne : f.addr i ≠ a) : (t.wr f i v).word a = t.word a := by rw [State.word_wr, if_neg ne]
  obtain ⟨count, period, sync, loopdiv⟩ := away
  exact ⟨(congrArg R.PWM_PERIOD_CNT_COUNT.get (word count)).trans h.count, (congrArg R.PWM_PERIOD.get (word period)).trans h.period,
    (congrArg R.PWM_CFG_SYNC.get (word sync)).trans h.sync, (congrArg R.PWM_CFG_LOOPDIV.get (word loopdiv)).trans h.loopdiv, h.core⟩

theorem SameCarrier.condSet (h : SameCarrier n s t) (i : Nat) (b : Bool) : SameCarrier n s (t.condSet i b) :=
  State.condSet_keeps (settles_sameCarrier n s) h

/-- The fields of a sensor port that a trigger writes lie apart from the carriers. -/
theorem mspi_away : ∀ (n : Ch) (m : Fin 2), ∀ f ∈ [R.MSPI_STATUS_ENTRY, R.MSPI_STATUS_BUSY, R.MSPI_STATUS_PENDING, R.MSPI_IRQ_TRIG_LOST],
    f.addr m.val ≠ R.PWM_PERIOD_CNT_COUNT.addr n.val ∧ f.addr m.val ≠ R.PWM_PERIOD.runAddr n.val ∧ f.addr m.val ≠ R.PWM_CFG_SYNC.runAddr n.val ∧
      f.addr m.val ≠ R.PWM_CFG_LOOPDIV.runAddr n.val := by decide

theorem SameCarrier.modMspi (h : SameCarrier n s t) (m : Fin 2) (g : Mspi → Mspi) : SameCarrier n s (t.modMspi m g) := h.of_same rfl rfl

theorem SameCarrier.mspiEntry (h : SameCarrier n s t) (m : Fin 2) (k : Nat) : SameCarrier n s (t.mspiEntry m k) := by
  unfold State.mspiEntry
  extract_lets e
  exact (h.wrAway (mspi_away n m R.MSPI_STATUS_ENTRY (by simp)) k).modMspi m _

theorem SameCarrier.mspiRun (h : SameCarrier n s t) (m : Fin 2) (k : Nat) : SameCarrier n s (t.mspiRun m k) := by
  have busy : SameCarrier n s (t.wr R.MSPI_STATUS_BUSY m.val 1) := h.wrAway (mspi_away n m _ (by simp)) 1
  unfold State.mspiRun
  exact (busy.modMspi m _).mspiEntry m _

theorem SameCarrier.mspiFire (h : SameCarrier n s t) (m : Fin 2) (k : Nat) : SameCarrier n s (t.mspiFire m k) := by
  unfold State.mspiFire
  exact .ite h (.ite (h.mspiRun m k) (.ite (h.wrAway (mspi_away n m _ (by simp)) 1) ((h.wrAway (mspi_away n m _ (by simp)) 1).modMspi m _)))

theorem SameCarrier.foldl {α : Type} {f : State → α → State} (k : ∀ v a, SameCarrier n s v → SameCarrier n s (f v a)) (l : List α) (h : SameCarrier n s t) :
    SameCarrier n s (l.foldl f t) := by
  induction l generalizing t with
  | nil => exact h
  | cons a l ih => exact ih (k _ a h)

theorem SameCarrier.mspiLimp (h : SameCarrier n s t) : SameCarrier n s (t.mspiLimp n) :=
  SameCarrier.foldl (fun _ e hv => .ite (hv.mspiFire e.1 e.2) hv) _ h

theorem SameCarrier.putSector (h : SameCarrier n s t) (k : Nat) : SameCarrier n s (t.putSector n k) := by
  unfold State.putSector
  exact .ite h ((h.wr (by decide) (by decide) _).wr (by decide) (by decide) _)

/-- What a look at the SPI slot shows of the record it leaves (R229). -/
def State.spiTold (s : State) (n : Ch) : State :=
  let p := (s.ch n).pos.spi
  let s := s.flag R.POS_STATUS_SPI_FRESH n.val (decide (0 < p.fresh))
  let s := if 0 < p.errs then s.wr R.POS_IRQ_SPI_ERR n.val 1 else s
  let s := if 0 < p.stales then s.wr R.POS_IRQ_SPI_STALE n.val 1 else s
  (s.condSet (srcCh n.val oSpiErr) (p.errs == 2)).condSet (srcCh n.val oSpiStale) (p.stales == 2)

theorem State.spiSample_eq (s : State) (n : Ch) : ∃ g, s.spiSample n = (s.modPos n g).spiTold n := ⟨_, rfl⟩

theorem SameCarrier.spiTold (h : SameCarrier n s t) : SameCarrier n s (t.spiTold n) := by
  unfold State.spiTold
  extract_lets p x y z
  have fresh : SameCarrier n s x := h.wr (f := R.POS_STATUS_SPI_FRESH) (by decide) (by decide) _
  have errs : SameCarrier n s y := .ite (fresh.wr (f := R.POS_IRQ_SPI_ERR) (by decide) (by decide) 1) fresh
  have stales : SameCarrier n s z := .ite (errs.wr (f := R.POS_IRQ_SPI_STALE) (by decide) (by decide) 1) errs
  clear_value p x y z
  exact (stales.condSet _ _).condSet _ _

theorem SameCarrier.spiSample (h : SameCarrier n s t) : SameCarrier n s (t.spiSample n) := by
  obtain ⟨g, e⟩ := t.spiSample_eq n
  rw [e]
  exact (h.modCh (g := fun c => { c with pos := g c.pos }) fun _ => rfl).spiTold

/-- What the limp boundary does before the period starts, with the sector its position is in. -/
def State.limpLooked (s : State) (n : Ch) : State :=
  let p := (s.ch n).prot
  let s := if p.limpFb.1 = 2 ∨ (p.limpFb.2 = 2 ∧ p.limpFb.1 ≠ 0 ∧ p.limpFb.1 ≠ 3) then s.spiSample n else s
  s.putSector n (s.limpRotor n)

theorem State.limpLooked_same (s : State) (n : Ch) : SameCarrier n s (s.limpLooked n) :=
  SameCarrier.putSector (.ite (SameCarrier.spiSample (.refl n s)) (.refl n s)) _

/-- What follows once the carrier has started its limp period `u`: `k` is the sector of the position. -/
def State.limpStarted (u : State) (n : Ch) (k : Nat) : State :=
  let s := ((u.incWrap R.PWM_PERIOD_CNT_COUNT n.val).grvEvent n 1).boundaryRelease n
  let s := if k = 0 then s.condSet (srcCh n.val oLimpNopos) true else s.condSet (srcCh n.val oLimpNopos) false
  (s.mspiLimp n).settleAll

theorem State.limpStarted_same (u : State) (n : Ch) (k : Nat) : SameCarrier n (u.incWrap R.PWM_PERIOD_CNT_COUNT n.val) (u.limpStarted n k) := by
  have event : SameCarrier n (u.incWrap R.PWM_PERIOD_CNT_COUNT n.val) ((u.incWrap R.PWM_PERIOD_CNT_COUNT n.val).grvEvent n 1) :=
    State.grvEvent_keeps (settles_sameCarrier n _) (SameCarrier.refl n _)
  exact (SameCarrier.ite (event.boundaryRelease.condSet _ _) (event.boundaryRelease.condSet _ _)).mspiLimp.settleAll

/-- The carrier of a limp period starts at 0 with the length its configuration gives (R207). -/
def Chan.limpStart (c : Chan) (e now k' : Nat) (on : Bool) : Chan :=
  { c with car.pos := 0, car.per := e, car.since := now, prot.limpSector := k', prot.limpOn := on }

theorem State.limpPeriod_eq (s : State) (n : Ch) : ∃ k k' on, s.limpPeriod n =
    (((s.limpLooked n).wr R.PWM_STATUS_SECTOR n.val k').modCh n (·.limpStart (R.CMP_LIMP_CFG_PERIOD.get (s.ch n).prot.limpCfg * 200 * 32)
      (s.limpLooked n).now k' on)).limpStarted n k := ⟨_, _, _, rfl⟩

/-- What a carrier that starts a limp period shows. -/
theorem State.limpStarted_shows (v : State) (n : Ch) (per now k k' : Nat) (on : Bool) {u t : State}
    (hu : u = (v.wr R.PWM_STATUS_SECTOR n.val k').modCh n (·.limpStart per now k' on)) (ht : t = u.limpStarted n k) :
    (t.ch n).car.pos = 0 ∧ (t.ch n).car.per = per ∧ t.rd R.PWM_PERIOD_CNT_COUNT n.val = (v.rd R.PWM_PERIOD_CNT_COUNT n.val + 1) % 2 ^ 32 := by
  have record : (u.incWrap R.PWM_PERIOD_CNT_COUNT n.val).ch n = (v.ch n).limpStart per now k' on := by
    rw [State.incWrap, State.ch_wr, hu, State.ch_modCh_self, State.ch_wr]
  have counted : u.rd R.PWM_PERIOD_CNT_COUNT n.val = v.rd R.PWM_PERIOD_CNT_COUNT n.val := by
    rw [hu, State.rd_modCh]
    exact State.rd_wr_sep _ _ _ _ _ (by decide)
  obtain ⟨count, -, -, -, core⟩ := u.limpStarted_same n k
  rw [← ht] at count core
  rw [record] at core
  simp only [Carrier.core, Chan.limpStart, Prod.mk.injEq] at core
  obtain ⟨pos, len, -⟩ := core
  exact ⟨pos, len, count.trans ((u.rd_incWrap_count n).trans (by rw [counted]))⟩

theorem State.limpPeriod_shows (s : State) (n : Ch) : ((s.limpPeriod n).ch n).car.pos = 0 ∧
    ((s.limpPeriod n).ch n).car.per = R.CMP_LIMP_CFG_PERIOD.get (s.ch n).prot.limpCfg * 6400 ∧
    (s.limpPeriod n).rd R.PWM_PERIOD_CNT_COUNT n.val = (s.rd R.PWM_PERIOD_CNT_COUNT n.val + 1) % 2 ^ 32 := by
  obtain ⟨k, k', on, e⟩ := s.limpPeriod_eq n
  obtain ⟨pos, per, count⟩ := State.limpStarted_shows _ n _ _ k k' on rfl e
  refine ⟨pos, per.trans (Nat.mul_assoc _ _ _), ?_⟩
  rw [count, (s.limpLooked_same n).count]

end

/-- Settles O11. -/
theorem vdsBrakeAndLimpAct : Obligations.VdsBrakeAndLimpAct := by
  unfold Obligations.VdsBrakeAndLimpAct
  refine ⟨fun n s on => ⟨fun sw hot => execVdsBlankingEnd_shows on sw hot, fun sw gate blank free => ?_, fun sw off => ?_, fun sw => ?_,
    fun x free => execBstWarnTrip_shows on free, fun x free => execBstUvTrip_shows on free, fun x => exec_bst_tested on x⟩,
    fun n s on => ⟨fun above free => execBrakeComparator_shows on above free, fun above tested => ?_, fun conducts limited => ?_,
      fun none => execBrkOvertime_none on none, fun limp => ⟨?_, fun a b c trips free => ?_, fun a b c h => execLimpComparatorTrip_none on (.inr h), ?_⟩,
      fun a b c => s.limpTrips_iff n a b c, fun other => ⟨?_, fun a b c => execLimpComparatorTrip_none on (.inl other), ?_⟩⟩⟩
  · refine ⟨_, ?_, s.vdsTrip_shows n sw⟩
    exact (congrArg Host.Outcome.next (State.whenCh_on on _)).trans (congrArg Host.Outcome.next (if_pos (by rw [gate, blank, free]; decide)))
  · exact (congrArg Host.Outcome.next (State.whenCh_on on _)).trans
      (congrArg Host.Outcome.next (if_neg (by rcases off with off | off <;> rw [off] <;> simp)))
  · refine ⟨_, congrArg Host.Outcome.next (State.whenCh_on on _), ?_, (OnlyChan.refl n [] s).modCh _⟩
    rw [State.ch_modCh_self]
  · exact (congrArg Host.Outcome.next (State.whenCh_on on _)).trans (congrArg Host.Outcome.next (if_pos tested))
  · obtain ⟨flagged, settled⟩ := s.brkRaised_shows n (!(s.brkRaised n).brkHeld n)
    exact ⟨_, execBrkOvertime_shows on conducts limited, flagged, ⟨_, rfl, rfl⟩, settled⟩
  · exact ⟨_, (congrArg Host.Outcome.next (State.whenCh_on on _)).trans (congrArg Host.Outcome.next (if_pos (by simp [limp]))), s.limpPeriod_shows n⟩
  · exact ⟨_, execLimpComparatorTrip_ends on limp trips free, s.limpEnded_settle n⟩
  · exact ⟨_, execLimpDmaxEnd_ends on limp, s.limpEnded_settle n⟩
  · exact (congrArg Host.Outcome.next (State.whenCh_on on _)).trans (congrArg Host.Outcome.next (if_neg (by simp [other])))
  · exact (congrArg Host.Outcome.next (State.whenCh_on on _)).trans (congrArg Host.Outcome.next (if_neg (by simp [other])))

end Sys2Proof.Machine
